-- ==== Sys2Proof/Word.lean ====
section
/-! DEFINITION. The word types of the register file (R47) and of byte-wide memories. -/

namespace Sys2Proof

/-- A byte. -/
abbrev Byte := BitVec 8

/-- A 32-bit register, the unit of the register space (R47). -/
abbrev Word := BitVec 32

end Sys2Proof
end

