-- ==== Sys2Proof/Syntax.lean ====
section
/-! DEFINITION. The commands the block takes: one constructor of `Instr` for each row of spec/opcode_table.json, with the
operands the row's event or access carries. -/

namespace Sys2Proof

/-- A downstream port, P00 to P63 (R460). -/
abbrev Port := Fin 64
/-- A plate of sixteen ports. -/
abbrev Plate := Fin 4
/-- A full port, numbered by plate: `f` is port `16 (f / 4) + f mod 4`. -/
abbrev Full := Fin 16
/-- An upstream port and its presentation. -/
abbrev Up := Fin 2
/-- A compatibility instance. -/
abbrev Inst := Fin 8
/-- A semaphore. -/
abbrev Sem := Fin 32
/-- An event queue. -/
abbrev QueueIx := Fin 4
/-- A chip of the Ngupin ring. -/
abbrev Chip := Fin 16
/-- A side of a chip on the ring: 0 is RING0, 1 is RING1. -/
abbrev Side := Fin 2
/-- A graver job ring. -/
abbrev RingIx := Fin 4
/-- A DRAM window of the masters. -/
abbrev WinIx := Fin 2

/-- The management masters. -/
inductive Master where
  | a | b
  deriving DecidableEq, Repr

/-- Who makes a register access: a local master, a host agent, or a master of another chip over the ring (R54, R62).
DESIGN CHOICE, log 1. -/
inductive Requester where
  | a | b | h0 | h1
  | ring (m : Master) (origin : Chip)
  deriving DecidableEq, Repr

/-- A requester's identity: owner ID and ring origin chip (R62). -/
structure Ident where
  owner : Fin 4
  origin : Chip
  deriving DecidableEq, Repr

/-- The lane PLLs (R12). -/
inductive Lane where
  | up (u : Up)
  | plate (k : Plate)
  deriving DecidableEq, Repr

/-- The pages of the register space that a block occupies (R460). -/
inductive PageId where
  | glb | clk | mgt | evq | cfg | pwe | bgt | hlt | cpt
  | u2h (k : Plate) | ssh (k : Plate)
  | prs | mgf | epm | grv | drc
  | ups (u : Up)
  | tcp (p : Port) | vbs (p : Port) | u2p (p : Port) | ssp (f : Full) | con (p : Port) | lhe (p : Port)
  | win (i : Inst)
  deriving DecidableEq, Repr

/-- A nibble, as the management ports carry it (R80). -/
abbrev Nibble := BitVec 4

/-- The header of a management frame after the opcode (R81). -/
structure FrameHdr where
  waddr : BitVec 24
  isLocal : Bool
  chip : Chip
  count : BitVec 8
  deriving DecidableEq, Repr

/-- One entry of a write frame: byte enables and data (R81). -/
structure FrameWord where
  be : BitVec 4
  data : Word
  deriving DecidableEq, Repr

/-- One entry of a response: word status (R84) and, for a read, the data. -/
structure WordResult where
  status : Fin 16
  data : Word
  deriving DecidableEq, Repr

/-- When `Mx_CS_N` rises (R86). -/
inductive RiseMoment where
  | beforeLastNibble
  | accessComplete
  | accessPending
  deriving DecidableEq, Repr

/-- A ring request addressed to a chip (R104). -/
structure RingReq where
  owner : Master
  origin : Chip
  seq : BitVec 8
  write : Bool
  fixed : Bool
  waddr : BitVec 24
  /-- One entry per word; for a read the entries only count the words. -/
  words : List FrameWord
  deriving DecidableEq, Repr

/-- A chip that is reached, and after how many hops (R102). -/
structure Hop where
  chip : Chip
  hops : Nat
  deriving DecidableEq, Repr

/-- A roster: the chip it tells of, the hops it has come, and the chips that chip reaches in the RING0 and the RING1 direction, nearest
first (R102). -/
structure Roster where
  chip : Chip
  hops : Nat
  ring0 : List Hop
  ring1 : List Hop
  deriving DecidableEq, Repr

/-- What a ring frame carries (R88, R102, R104). -/
inductive RingBody where
  | request (rq : RingReq)
  /-- the response to a request of a master of the destination: its sequence number, frame status and words -/
  | response (owner : Master) (seq : BitVec 8) (status : Byte) (ws : List WordResult)
  /-- an attention notice: of queue 1 or of queue 0, set or cleared -/
  | notice (qb : Bool) (set : Bool)
  | roster (ro : Roster)
  deriving DecidableEq, Repr

/-- A ring frame (R102, R104). -/
structure RingFrame where
  dest : Chip
  origin : Chip
  hopLimit : Fin 16
  body : RingBody
  deriving DecidableEq, Repr

/-- An instance of the management function: its presentation, and whether it is the SuperSpeed one (R347). -/
structure FnInst where
  up : Up
  ss : Bool
  deriving DecidableEq, Repr

/-- What an access that ends with TIMEOUT belongs to (R78): it stands alone, or is a word of a ring request or of a register request
of the management function. -/
inductive LateAccess where
  | single (who : Requester)
  | ring (rq : RingReq)
  | vendorRead (fi : FnInst) (value index : BitVec 16) (len : Nat)
  | vendorWrite (fi : FnInst) (value index : BitVec 16) (ents : List Byte)
  deriving DecidableEq, Repr

/-- A request frame as a port receives it: its nibbles, and whether `Mx_CS_N` fell before the port took frames (R81, R89). -/
structure PortFrame where
  ns : List Nibble
  early : Bool
  deriving DecidableEq, Repr

/-- The neighbour that identity sets name: its chip ID and the side it sends from (R100). -/
structure Neighbour where
  chip : Chip
  side : Side
  deriving DecidableEq, Repr

/-- The core straps as the pins show them at core reset release (R36, R37). -/
structure Straps where
  chipId : Chip
  compat : Bool
  cfgBypass : Bool
  dram : Fin 4
  ringEn : Bool
  deriving DecidableEq, Repr

/-- A board feed: A or B (R173). -/
inductive Feed where
  | a | b
  deriving DecidableEq, Repr

/-- The operations that ask the budget arbiter for leave (R184). -/
inductive LeaveOp where
  /-- kind 0: VBUS turn-on -/
  | turnOn (p : Port)
  /-- kind 1: PD contract raise -/
  | raise (p : Port)
  /-- kind 3: DDR training -/
  | ddr
  /-- kind 4: joint calibration of U0 and U1 -/
  | upCal
  /-- kind 5: plate calibration -/
  | plateCal (k : Plate)
  /-- kind 6: MRAM commit -/
  | commit
  /-- kind 7: start of a fan-out group, by its template slot -/
  | fanout (g : Fin 4)
  deriving DecidableEq, Repr

/-- A CC line classification (R206, `TCP_CC_STATUS.CC1_LVL`). -/
inductive CcLevel where
  | opn | ra | rd | vRdUsb | vRd15 | vRd30
  deriving DecidableEq, Repr

/-- What the console receiver finds on the line (R224, R225). -/
inductive RxChar where
  | byte (b : Byte) (frameErr parErr : Bool)
  | brk
  | brkEnd
  deriving DecidableEq, Repr

/-- A CC line a PD message arrives on: a downstream port's engine or an upstream port's (R232, R260). -/
inductive PdPort where
  | down (p : Port)
  | up (u : Up)
  deriving DecidableEq, Repr

/-- A received PD message: its specification revision, whether it came on SOP′ or SOP″, whether it is an EPR_Request, whether it is
an extended message that is not chunked, and its data objects. For an unsupported message `num` is its message type and `cls` its
class (R264); an Extended_Control message carries its type in the low byte of its first object. -/
structure PdMsg where
  rev2 : Bool
  sopPrime : Bool
  sopDouble : Bool
  unchunked : Bool
  epr : Bool
  num : BitVec 5
  cls : BitVec 2
  objs : List Word
  deriving DecidableEq, Repr

/-- A USB 2.0 hub context (R266): one of the two contexts of a plate engine, or the root or flat context of a presentation. -/
inductive HubCtx where
  | plate (k : Plate) (c : Fin 2)
  | pres (u : Up)
  deriving DecidableEq, Repr

/-- A device's answer to an LPM transaction (R287). -/
inductive LpmAnswer where
  | ack | nyet | stall | none
  deriving DecidableEq, Repr

/-- USB transfer types as TT records name them (R295). -/
inductive XferType where
  | control | iso | bulk | interrupt
  deriving DecidableEq, Repr

/-- A split transaction at a TT (R280–R282): the device address, endpoint, type and direction its token names, and the data
of an OUT start-split. -/
structure Split where
  dev : BitVec 7
  ep : BitVec 4
  inDir : Bool
  ty : XferType
  data : List Byte
  deriving DecidableEq, Repr

/-- What a TT transaction on the full-speed or low-speed bus gives (R282). -/
inductive TtResult where
  | ack | nak | stall
  | data (d1 more : Bool) (bytes : List Byte)
  /-- no answer or a damaged packet -/
  | bad
  deriving DecidableEq, Repr

/-- The end of a transaction on a TT's bus: whether it is one of the periodic pipeline, and its result (R280, R281). -/
structure TtDone where
  per : Bool
  res : TtResult
  deriving DecidableEq, Repr

/-- The TT of a port at the end of a microframe: whether its oldest periodic entry without a result is on the bus (R280). -/
structure TtAt where
  port : Port
  onBus : Bool
  deriving DecidableEq, Repr

/-- A bit error that has arisen in an 8-byte word of the DRAM (R416): its word index, and whether two bits are wrong. -/
structure EccUpset where
  word : Nat
  double : Bool
  deriving DecidableEq, Repr

/-- A turn of the scrubber: the bit error that has arisen since the last one, and whether it is more than 1 s behind its schedule
(R419). -/
structure ScrubTurn where
  upset : Option EccUpset
  late : Bool
  deriving DecidableEq, Repr
/-- A SuperSpeed link: a full port's or an upstream port's (R300). -/
inductive SsLink where
  | down (f : Full)
  | up (u : Up)
  deriving DecidableEq, Repr

/-- A SuperSpeed hub context: the root hub of a presentation, or a plate hub of one (R297). -/
inductive SsCtx where
  | root (u : Up)
  | plate (k : Plate) (c : Fin 2)
  deriving DecidableEq, Repr

/-- A device a host addresses a standard request to: a USB 2.0 hub context, a SuperSpeed hub context, or an instance of a
management function (R330, R351). -/
inductive PresDevice where
  | hub (hc : HubCtx)
  | ssHub (sc : SsCtx)
  | fn (u : Up) (ss : Bool)
  deriving DecidableEq, Repr

/-- A descriptor asked for: its type and index. -/
structure DescId where
  kind : Byte
  idx : Byte
  deriving DecidableEq, Repr

/-- The wValue, wIndex and wLength of a GET_RESULT or a REPLAY (R353). -/
structure StoreReq where
  value : BitVec 16
  index : BitVec 16
  len : Nat
  deriving DecidableEq, Repr

/-- Packets to EP2 of an instance, and the toggle or sequence number of the first (R364). -/
structure EpAt where
  inst : FnInst
  seq : BitVec 5
  deriving DecidableEq, Repr

/-- What a standard request asks of a device: GetStatus of it, of an interface or of an endpoint, GetConfiguration or GetInterface. -/
inductive StdGet where
  | status
  | ifStatus (n : Nat)
  | epStatus (ep : Nat)
  | configuration
  | intf (n : Nat)
  deriving DecidableEq, Repr

/-- Why a capture record closes (R401). -/
inductive CloseWhy where
  | full | idle | breakEnd
  deriving DecidableEq, Repr

/-- What the device on a port answers to a step of a graver job (R376, R390–R393): bytes it has acknowledged, bytes it has sent
and whether the packet was short, its descriptors and those of its configuration, a STALL, or a transaction error. -/
inductive DevAns where
  /-- no step of the device: 100 ms have passed since the start of an ENUM (R375) -/
  | late
  | taken (n : Nat)
  | data (bs : List Byte) (short : Bool)
  | descs (dev cfg : List Byte)
  | stall
  | err
  deriving DecidableEq, Repr

/-- How a SuperSpeed port reset ends (R307). -/
inductive ResetOutcome where
  /-- the link is back in U0 -/
  | u0 (gen2 : Bool)
  /-- a hot reset has not completed within 100 ms: escalated to warm -/
  | escalate
  /-- no termination is found -/
  | none
  /-- 100 ms after a reset request in the view of a context that does not own the port (R299): `PORT_RESET` or `BH_PORT_RESET` -/
  | view (c : Fin 2) (bh : Bool)
  deriving DecidableEq, Repr

/-- The header errors that led to Recovery: CRC failures and header retry sequences (R316). -/
structure HdrErrs where
  crcs : Nat
  retries : Nat
  deriving DecidableEq, Repr

/-- Where a SuperSpeed packet enters the fabric, its route string, its payload length and whether it is a data packet
(R298, R312). -/
structure SsPacket where
  entry : SsLink
  route : BitVec 20
  payload : Nat
  /-- it is an isochronous timestamp packet (R339) -/
  itp : Bool
  /-- the Deferred bit of its header (R308) -/
  deferred : Bool
  /-- the header errors that its arrival has taken (R316) -/
  errs : HdrErrs
  deriving DecidableEq, Repr

/-- The SuperSpeed queues of R312. -/
inductive SsQueue where
  | portDown (f : Full)
  | portUp (f : Full)
  | rootDown (u : Up) (k : Plate)
  | rootUp (u : Up) (k : Plate)
  deriving DecidableEq, Repr

/-- The head packet of a queue that moves on, and the header retry sequences that its link has taken for it (R313, R316). -/
structure SsSend where
  queue : SsQueue
  retries : Nat
  deriving DecidableEq, Repr

/-- How the training of an upstream link ends (R303). -/
inductive UpTrain where
  | up (gen2 x2 : Bool)
  | fail
  deriving DecidableEq, Repr

/-- A USB 2.0 packet that a hub context repeats, with its payload bytes (R269, R270). -/
inductive HsPacket where
  /-- downstream on a high-speed upstream segment -/
  | down (hc : HubCtx) (payload : Nat)
  /-- downstream on a full-speed upstream segment; `pre`: a low-speed packet preceded by PRE -/
  | fullDown (hc : HubCtx) (pre : Bool) (payload : Nat)
  /-- upstream, from the port whose device answered -/
  | up (p : Port) (payload : Nat)
  /-- an LPM transaction addressed to a hub or function of a presentation itself (R287, R351) -/
  | lpm (dev : PresDevice)
  deriving DecidableEq, Repr

/-- A hub of a presentation: a USB 2.0 hub context, or a SuperSpeed one. -/
inductive AnyHub where
  | usb2 (hc : HubCtx)
  | ss (sc : SsCtx)
  deriving DecidableEq, Repr

/-- A request for a status: GetHubStatus, or a standard one, with whether a parity mismatch is found in the EP0 buffer of a function
instance (R289, R350, R351). -/
inductive StatusReq where
  | hub (hub : AnyHub)
  | std (dev : PresDevice) (what : StdGet) (parityErr : Bool)
  deriving DecidableEq, Repr

/-- A hub-class request without a row of its own (R289, R315). -/
inductive HubRequest where
  /-- ClearHubFeature of a selector: 0 `C_HUB_LOCAL_POWER`, 1 `C_HUB_OVER_CURRENT` -/
  | clearHubFeature (hub : AnyHub) (sel : Nat)
  /-- any other: SetHubDescriptor, SetHubFeature, GetTTState, an unsupported selector -/
  | other (hub : AnyHub)
  /-- a request that an instance of the management function answers with STALL: SetDescriptor, or a vendor request whose bmRequestType or
  bRequest the table of R353 does not have (R351, R353) -/
  | fn (fi : FnInst)
  deriving DecidableEq, Repr

/-- A resume from upstream: the context, and a port where a device's K stands that the context has not begun to propagate (R288). -/
structure ResumeAt where
  ctx : HubCtx
  device : Option Port
  deriving DecidableEq, Repr

/-- What ends with `RESET_TIME`: the reset that runs on a port, or the wait after a request in the view of a context that does not own
the port (R268, R274). -/
inductive PortResetOver where
  | run (p : Port)
  | view (p : Port) (c : Fin 2)
  deriving DecidableEq, Repr

/-- An exit from U3 by a host, and a port whose device drives its exit LFPS meanwhile (R311). -/
structure ExitAt where
  up : Up
  device : Option Full
  deriving DecidableEq, Repr


/-- The commands, in the order of spec/opcode_table.json. -/
inductive Instr where
  /-- SUPPLY_MONITOR_TRIP (R468): A monitored core rail stays below its threshold for 2 µs or more, and core global reset is asserted with cause 0. -/
  | supplyMonitorTrip
  /-- CORE_RESET_RELEASE (R468): 5 ms after the last monitored rail is in range, core reset is released, the core straps are latched and the root PLL starts. -/
  | coreResetRelease (st : Straps)
  /-- CORERESET (R17): The JTAG instruction CORERESET starts a core global reset with cause 3. -/
  | corereset
  /-- CORE_RST (R22): A guarded pair that sets CLK_RESET.CORE_RST starts a core global reset, which reloads the configuration from MRAM. -/
  | coreRst (who : Requester)
  /-- PLATE_RST (R18): A guarded pair that changes CLK_RESET.PLATE_RST holds a plate in reset or releases it; at release the plate's sections are restored from the active image. -/
  | plateRst (who : Requester) (v : BitVec 4)
  /-- GRAVER_RST (R403): A guarded pair that sets CLK_RESET.GRAVER_RST resets the graver; every chain, group and capture ends without completion entries. -/
  | graverRst (who : Requester) (v : Bool)
  /-- DRC_RST (R20): A guarded pair that sets CLK_RESET.DRC_RST ends the DRAM accesses in flight, puts a trained DRAM in self-refresh and then resets the DRAM controller. -/
  | drcRst (who : Requester) (v : Bool)
  /-- MGT_RST (R21): A guarded pair that sets CLK_RESET.MGT_RST resets the management domain once its own response has completed, and discards every other frame in flight. -/
  | mgtRst (who : Requester) (v : Bool)
  /-- DCLK_RUN (R20): A guarded write of CLK_GATE.DCLK_RUN stops or starts DCLK; stopping it holds the DRAM controller in reset after the self-refresh sequence. -/
  | dclkRun (who : Requester) (v : Bool)
  /-- GCLK_RUN (R13): A guarded write of CLK_GATE.GCLK_RUN stops or starts GCLK; stopping it holds the graver and the DRAM controller in reset while the LHE registers keep their values. -/
  | gclkRun (who : Requester) (v : Bool)
  /-- FCLK_PLATE_RUN (R13): A guarded write of CLK_GATE.FCLK_PLATE_RUN stops or starts a plate's FCLK branch, holding its SSH and SSP blocks in reset while stopped. -/
  | fclkPlateRun (who : Requester) (v : BitVec 4)
  /-- PORT_RST (R18): A write to CLK_PORT_RST_LO or CLK_PORT_RST_HI holds ports in reset or releases them. -/
  | portRst (who : Requester) (hi : Bool) (be : BitVec 4) (v : Word)
  /-- SELF_REFRESH_ENTRY (R20): The DRAM enters self-refresh; a pending DRAM controller reset or clock stop then takes effect. -/
  | selfRefreshEntry
  /-- ROOT_UNLOCK (R15): The root PLL loses lock: every core clock stops, core global reset is asserted with cause 2, and a new lock starts. -/
  | rootUnlock
  /-- ROOT_LOCK (R131): The root PLL locks, every core clock runs, the management domain leaves reset and the configuration load begins. -/
  | rootLock
  /-- LANE_UNLOCK (R16): A lane PLL loses lock, the links it serves fall inactive and LANE_UNLOCK_CNT increments. -/
  | laneUnlock (lane : Lane)
  /-- LANE_RELOCK (R16): A lane PLL locks again and the links it serves retrain. -/
  | laneRelock (lane : Lane)
  /-- GUARD_FIRST_WRITE (R61): A whole-word write of value V to an RWG register opens a pending guarded pair for the requester. -/
  | guardFirstWrite (who : Requester) (addr : Nat) (be : BitVec 4) (v : Word)
  /-- GUARD_COMPLEMENT_WRITE (R61): The write to G + 4 completes the pending pair when it carries the complement of V, and V takes effect; otherwise the pair is discarded with MGT_ERR.GUARD. -/
  | guardComplementWrite (who : Requester) (addr : Nat) (be : BitVec 4) (v : Word)
  /-- GUARD_EXPIRE (R63): 8,192 RCLK cycles pass without the complement write, so the pending pair is discarded and MGT_ERR.GUARD is set. -/
  | guardExpire (idn : Ident)
  /-- PARITY_SCRUB (R69): The scrubber visits a parity-protected register and, on a mismatch, records it and starts the page's safe action. -/
  | parityScrub (ups : List (Nat × Word)) (addr : Nat)
  /-- PAGE_EN_WRITE (R52): A write that changes PAGE_CTRL.EN ends the block's unit of work or lets the block resume, as its page row states. -/
  | pageEnWrite (who : Requester) (pg : PageId) (en : Bool)
  /-- BLK_RST (R52): A write of 1 to PAGE_CTRL.BLK_RST restarts the block's state machine from the page's restart state. -/
  | blkRst (who : Requester) (pg : PageId)
  /-- RESTART_COMPLETE (R52): A block restart completes; BLK_RST and PAGE_STATUS.RESTARTING clear. -/
  | restartComplete (pg : PageId)
  /-- PORT_ABORT (R77): A master holds CS_N high for 1 µs: requests not yet taken are withdrawn and responses of requests already taken are kept for REPLAY. -/
  | portAbort (m : Master)
  /-- ACCESS_TIMEOUT (R78): A host-agent or ring access is still stalled 100 µs after issue, so it is withdrawn and completes with TIMEOUT.
  `place` is the byte address of an access that stands alone, and else the number of the words before it; `wr` is what an access
  that stands alone writes. -/
  | accessTimeout (late : LateAccess) (place : Nat) (wr : Option FrameWord)
  /-- REGISTER_WRITE (R56): A write to a register that has no row of its own acts under its field types and live-change classes. -/
  | registerWrite (who : Requester) (addr : Nat) (be : BitVec 4) (v : Word)
  /-- READ (R81): A management READ frame reads COUNT + 1 words from ascending addresses and returns them. -/
  | readF (m : Master) (ns : List Nibble) (early : Bool)
  /-- WRITE (R81): A management WRITE frame writes COUNT + 1 words to ascending addresses. -/
  | writeF (m : Master) (hdr rest : List Nibble) (early : Bool)
  /-- READ_FIXED (R81): A management READ_FIXED frame reads COUNT + 1 times from one address. -/
  | readFixed (m : Master) (ns : List Nibble) (early : Bool)
  /-- WRITE_FIXED (R81): A management WRITE_FIXED frame writes COUNT + 1 words, each to one address. -/
  | writeFixed (m : Master) (hdr rest : List Nibble) (early : Bool)
  /-- REPLAY (R85): A management REPLAY frame re-sends the port's stored last response without executing anything. -/
  | replay (m : Master) (fr : PortFrame)
  /-- BAD_OPCODE (R81): A frame with an unknown opcode is answered BAD_OPCODE and does nothing. -/
  | badOpcode (m : Master) (ns : List Nibble) (early : Bool)
  /-- CS_N_RISE (R86): CS_N rises before a frame is over, and the frame is discarded, its response dropped or a port abort begins. -/
  | csNRise (m : Master) (moment : RiseMoment)
  /-- MGT_READY (R89): 0.5 ms after core reset release, with the management domain out of reset, ports A and B begin to take frames. -/
  | mgtReady
  /-- ATTENTION_NOTICE (R88): An attention notice from chip c sets or clears bit c of MGT_RING_ATTN. -/
  | attentionNotice (sender : Chip) (qb : Bool) (set : Bool)
  /-- SEM_CLAIM (R92): A read of GLB_SEMn_CLAIM takes a free semaphore for the reader and returns whether the reader holds it. -/
  | semClaim (who : Requester) (n : Sem)
  /-- SEM_RELEASE (R93): A write to GLB_SEMn_REL by the holder frees the semaphore; any other release sets MGT_ERRn.SEM. -/
  | semRelease (who : Requester) (n : Sem) (be : BitVec 4)
  /-- SEM_FORCE (R94): A guarded pair on GLB_SEM_FORCE force-releases the semaphores named by its bits. -/
  | semForce (who : Requester) (v : Word)
  /-- SEM_ORPHAN_END (R94): An origin chip has been unreachable for SEM_ORPHAN, so every semaphore it holds is freed. -/
  | semOrphanEnd (c : Chip)
  /-- HOST_GRANT_CHANGE (R96): A guarded pair on MGT_HOST_GRANT changes the host agents' write rights for every later access. -/
  | hostGrantChange (who : Requester) (v : BitVec 2)
  /-- LEG_ADDRESS (R97): An I²C address byte is received, and the legacy target acknowledges it only for an enabled instance in compatibility mode. -/
  | legAddress (addr : BitVec 7) (rd : Bool)
  /-- LEG_WRITE_BYTE (R434): An I²C data byte written to an instance loads the register pointer or writes the byte register at the pointer. -/
  | legWriteByte (b : Byte)
  /-- LEG_READ_BYTE (R434): An I²C read byte returns the byte register at the pointer, clears it if it is RC and advances the pointer. -/
  | legReadByte
  /-- LEG_SCL_TIMEOUT (R99): LEG_SCL stays low for 35 ms during a transfer, so the target releases SDA, goes idle and counts the timeout. -/
  | legSclTimeout
  /-- LINK_UP (R100): A ring link receives 16 consecutive valid identity sets and comes up. -/
  | linkUp (side : Side) (nb : Neighbour)
  /-- MISWIRE (R100): A ring link joins two sides of the same kind, so it never comes up and MISWIRE0 or MISWIRE1 is set. -/
  | miswire (side : Side)
  /-- LINK_DOWN (R101): A ring link loses alignment, sees too many code errors or goes 1 µs without a valid character, and is declared down. -/
  | linkDown (side : Side)
  /-- ROSTER (R102): A ring roster arrives, and the chip forwards it and recomputes MGT_RING_ROUTE. -/
  | roster (side : Side) (ro : Roster)
  /-- RING_FORWARD (R102): A ring frame that does not end at this chip is forwarded cut-through, or discarded when its hop limit reaches 0. -/
  | ringForward (fr : RingFrame)
  /-- RING_REQUEST (R104): A ring request reaches its target chip and is executed as ring ingress, or answered from the sequence store, or answered BUSY. -/
  | ringRequest (rq : RingReq)
  /-- RING_RESPONSE (R105): A ring response reaches the origin chip, and the first response for a sequence number is returned to the master. -/
  | ringResponse (m : Master) (seq : BitVec 8) (busy : Bool) (status : Byte) (ws : List WordResult)
  /-- RING_RETRY (R104): RETRY_TIME passes with no response, so the origin resends the frame or, after RETRIES, returns RING_TIMEOUT. -/
  | ringRetry (m : Master)
  /-- RING_BUSY_TIMEOUT (R101): A remote chip has answered BUSY for 10 ms, so the origin returns frame status BUSY to its master. -/
  | ringBusyTimeout (m : Master)
  /-- EVENT_ROUTE (R120): The router takes a record from a source FIFO and offers it to all four queues, each taking a copy under its routing. -/
  | eventRoute
  /-- EVQ_POP (R123): A read of EVQ_POPn removes the oldest record of the highest non-empty level and returns its word 0. -/
  | evqPop (who : Requester) (q : QueueIx)
  /-- POP_COMPLETE (R126): A pop that waits on an empty queue completes with a newly pushed record. -/
  | popComplete (q : QueueIx)
  /-- EVQ_POP_TIMEOUT (R124): A pop from a host agent or over the ring has waited 100 µs, so it returns zero and removes nothing. -/
  | evqPopTimeout (who : Requester)
  /-- EVQ_PEEK (R125): A read of EVQ_PEEKn returns the head record's word 0 and latches its other words without removing it. -/
  | evqPeek (who : Requester) (q : QueueIx)
  /-- FLUSH (R129): EVQ_CTRLn.FLUSH empties every level and clears the lost counts, the watermarks and the latches. -/
  | flush (who : Requester) (q : QueueIx)
  /-- UPTIME_ALIGN (R118): Once every 1 µs the register file publishes the alignment value, and every domain's uptime copy reloads. -/
  | uptimeAlign
  /-- ENTRY_RESET_RELEASE (R161): VDD_ENTRY reaches 2.9 V, the entry domain leaves reset into DEBOUNCE, STRAP_FEED_PREF is latched and R_ILIM is measured. -/
  | entryResetRelease (prefB : Bool) (rIlim : Nat)
  /-- ENTRY_RESET (R161): VDD_ENTRY falls below 2.9 V, and all entry-domain state returns to its reset values. -/
  | entryReset
  /-- LOAD_COMPLETE (R145): The configuration load ends with its outcome, CFG_LOADED rises, the fitted ports present their CC roles and leave is asked. -/
  | loadComplete
  /-- PACING_DONE_TIMEOUT (R154): No turn-on request has reached the arbiter within 250 ms of CFG_LOADED, so PACING_DONE is set. -/
  | pacingDoneTimeout
  /-- STAGE_WRITE (R148): A write to CFG_STAGE_WDATA stores a word in the staging buffer and advances the pointer. -/
  | stageWrite (who : Requester) (be : BitVec 4) (v : Word)
  /-- STAGE_READ (R148): A read of CFG_STAGE_RDATA returns a staging word and advances the pointer. -/
  | stageRead (who : Requester)
  /-- COMMIT (R150): CFG_CTRL.COMMIT checks the staging image, chooses the target bank and asks for die-pool leave. -/
  | commit (who : Requester) (parityErr : Bool)
  /-- COMMIT_LEAVE_TIMEOUT (R150): A commit waits 1 s for leave without a grant, withdraws its request and fails with code 0x07. -/
  | commitLeaveTimeout
  /-- COMMIT_WRITE_END (R150): The MRAM write and read-back of a commit finish, leave is reported done, and the target becomes active or is left invalid. -/
  | commitWriteEnd (ok : Bool)
  /-- FETCH_ACTIVE (R149): CFG_CTRL.FETCH_ACTIVE starts copying the active image into the staging buffer. -/
  | fetchActive (who : Requester)
  /-- FETCH_OTHER (R149): CFG_CTRL.FETCH_OTHER starts copying the other valid bank into the staging buffer. -/
  | fetchOther (who : Requester)
  /-- FETCH_END (R149): A fetch finishes copying, or finds no valid source and sets LAST_RESULT 0x0A. -/
  | fetchEnd
  /-- SEATING_LOSS (R164): The board stops being seated: in RAMP or ON the hot-swap and feed gates go off and the state becomes DEBOUNCE. -/
  | seatingLoss (pins : BitVec 2)
  /-- SEAT_DB_END (R162): The board has been seated with a feed good for SEAT_DB and no retry wait is running, so the preferred good feed is selected and RAMP begins. -/
  | seatDbEnd
  /-- RAMP_END (R165): V_DS falls to 1 V in RAMP, so HS_GATE is driven fully on and the state becomes ON. -/
  | rampEnd
  /-- ENTRY_FAST_TRIP (R167): The sense voltage reaches twice the effective limit, so all gates go off at once and a FAST trip is counted. -/
  | entryFastTrip (uv : Nat)
  /-- FAULT_TIME_END (R166): The entry fault timer reaches FAULT_TIME, and the controller trips with cause TIMED. -/
  | faultTimeEnd (uv : Nat)
  /-- RAMP_MAX_END (R166): RAMP has lasted longer than RAMP_MAX, and the controller trips with cause RAMP_TIMEOUT. -/
  | rampMaxEnd (uv : Nat)
  /-- ENTRY_LIMIT (R167): The current in ON crosses the effective limit, so the gate leaves full enhancement and the fault timer runs, or returns when the current falls. -/
  | entryLimit (above : Bool) (uv : Nat)
  /-- ENTRY_RETRY_END (R162): The entry retry interval ends, and RAMP begins once the debounce condition is met. -/
  | entryRetryEnd
  /-- ENTRY_CONSEC_CLEAR (R167): After 60 s of continuous ON with the fault timer at zero, the entry consecutive trip count returns to zero. -/
  | entryConsecClear
  /-- ILIM_CHECK (R170): The periodic 1 ms check of HS_ILIM finds an open or a short, or finds the resistor in range. -/
  | ilimCheck (rOhm : Nat)
  /-- FEED_LOSS (R175): A feed stays outside its window for 20 µs and becomes not good; a selected feed's gate goes off. -/
  | feedLoss (fd : Feed) (count : Nat)
  /-- FEED_SWITCH (R175): After BBM_GAP the other good feed's gate turns on, and FEED_SWITCH is raised. -/
  | feedSwitch
  /-- FEED_GOOD (R173): A feed has been inside its window for 1 ms and becomes good. -/
  | feedGood (fd : Feed) (count : Nat)
  /-- FEED_RETURN (R176): The preferred feed has been good for 1 s while the other is selected in ON, so the controller switches back to it. -/
  | feedReturn
  /-- ENTRY_SCRUB (R180): While the core is unpowered, the entry domain scrubs the PWE page every 4,000 oscillator cycles. -/
  | entryScrub (ups : List (Nat × Word)) (addr : Nat)
  /-- LEAVE_REQUEST (R184): A heavy operation asks the budget arbiter for leave, and the arbiter decides its pending requests in the order of R186. -/
  | leaveRequest (ops : List LeaveOp)
  /-- LEAVE_DONE (R184): An operation reports done, its power is freed and deferred requests are decided again. -/
  | leaveDone (op : LeaveOp)
  /-- LEAVE_WITHDRAW (R184): A requester withdraws a request that has not been granted. -/
  | leaveWithdraw (op : LeaveOp)
  /-- DIE_WINDOW (R181): A new 1 ms die-pool window begins, and deferred requests are decided again. -/
  | dieWindow
  /-- PACING_GAP_END (R186): PACE has passed since the last VBUS turn-on, so a turn-on deferred for pacing is decided again. -/
  | pacingGapEnd
  /-- FEED_GOODNESS_CHANGE (R182): A change of feed goodness reaches the arbiter and shrinks, or grows from zero, the port pool in force. -/
  | feedGoodnessChange (ga : Bool) (gb : Bool)
  /-- GROW_DELAY_END (R182): The second feed has been good for GROW_DELAY, so the pool in force grows to the dual size. -/
  | growDelayEnd
  /-- GROWTH (R188): With free port power and nothing deferred for it, the arbiter raises a port's grant toward its TARGET. -/
  | growth
  /-- REVOKE_TIME_END (R192): REVOKE_TIME ends without successful renegotiation, so the port's switch opens with cause REVOKE. -/
  | revokeTimeEnd (p : Port)
  /-- REVOKE_SUCCESS (R192): A revoked port's contract fits its new grant and its current has stayed within 1.1 × the contract current for 10 ms, so REVOKE step 2 is raised. -/
  | revokeSuccess (p : Port)
  /-- POOL_WRITE (R200): A write to BGT_POOL_DUAL or BGT_POOL_SINGLE may change the pool in force, start revocation and have deferred requests decided again. -/
  | poolWrite (who : Requester) (single : Bool) (be : BitVec 4) (v : Word)
  /-- TARGET_WRITE (R200): A write to BGT_PORTn.TARGET starts revocation of that port or lets growth run. -/
  | targetWrite (who : Requester) (p : Port) (be : BitVec 4) (v : Word)
  /-- ADC_SAMPLE (R195): Every 50 µs a port samples VBUS, VREG and the sense voltage, then trims VSET and checks its limits. -/
  | adcSample (p : Port) (vbus : Nat) (vreg : Nat) (sense : Int)
  /-- SETTLE_END (R196): SETTLE ends, VREG and vSafe0V are checked, and the port either ramps its gate into CLOSING or trips. -/
  | settleEnd (p : Port)
  /-- CLOSE_MAX_END (R196): CLOSE_MAX passes without vSafe5V, so the port trips with cause CLOSE_TIMEOUT. -/
  | closeMaxEnd (p : Port)
  /-- DISCHARGE_END (R197): 10 ms after vSafe0V is seen, DSCH turns off and the port discharge ends. -/
  | dischargeEnd (p : Port)
  /-- DSCH_MAX_END (R197): vSafe0V is not seen within DSCH_MAX, so DSCH goes off and DSCH_FAIL is set and counted. -/
  | dschMaxEnd (p : Port)
  /-- PORT_FAST_TRIP (R198): The port sense comparator reaches twice the limit, so the gate goes off within 2 µs and the port trips. -/
  | portFastTrip (p : Port) (ma : Nat)
  /-- SLOW_TIME_END (R198): The slow timer reaches SLOW_TIME, and the port trips with cause SLOW. -/
  | slowTimeEnd (p : Port)
  /-- RETRY_INT_END (R198): RETRY_INT ends after a trip, and the port asks for turn-on leave again or leaves HELD. -/
  | retryIntEnd (p : Port) (held : Bool)
  /-- PORT_CONSEC_CLEAR (R198): After 60 s in ON with the slow timer at zero, the port consecutive trip count returns to zero. -/
  | portConsecClear (p : Port)
  /-- FORCE_OFF (R203): A write of VBS_CTRL.FORCE_OFF opens the port and withdraws its leave, or resumes ordinary operation. -/
  | forceOff (who : Requester) (p : Port) (v : Bool)
  /-- CC_CLASSIFY (R206): A CC classification has held for 1 ms and stands, moving the connection logic between its waiting states. -/
  | ccClassify (pp : PdPort) (cc1 : CcLevel) (cc2 : CcLevel)
  /-- ATTACH (R208): The attach classification has held for CC_DB in ATTACHWAIT_SRC, so ATTACH or ACCESSORY is raised and turn-on leave is asked. -/
  | attach (p : Port)
  /-- DETACH (R209): Rd, or an Ra in AUDIO_ACC, has been gone for PD_DB, so the port detaches, opens VBUS and raises DETACH. -/
  | detach (p : Port)
  /-- DRP_TOGGLE (R211): An unattached DRP port toggles between UNATTACHED_SRC and UNATTACHED_SNK on its 75 ms period. -/
  | drpToggle (p : Port)
  /-- TRY_SRC_SUCCESS (R211): Rd holds on one line for PD_DB within 100 ms of TRY_SRC, so the try succeeds and the port attaches as source. -/
  | trySrcSuccess (p : Port)
  /-- TRY_SRC_TIMEOUT (R211): TRY_SRC finds no Rd within 100 ms, and the port enters TRYWAIT_SNK. -/
  | trySrcTimeout (p : Port)
  /-- TRY_TIMEOUT (R211): No Rp is seen within 800 ms of entering TRY_SRC, so the port enters UNATTACHED_SNK and toggling resumes. -/
  | tryTimeout (p : Port)
  /-- SINK_ATTACH (R211): Rp holds for PD_DB with VBSNS at 4.0 V or more, so the port enters ATTACHED_SNK and raises ATTACH with partner type 3. -/
  | sinkAttach (p : Port)
  /-- SINK_DETACH (R212): VBSNS stays below 3.67 V for PD_DB in ATTACHED_SNK, so the port detaches through ERROR_RECOVERY. -/
  | sinkDetach (p : Port)
  /-- ERROR_RECOVERY_END (R221): 25 ms after ERROR_RECOVERY is entered, the port enters UNATTACHED_SRC. -/
  | errorRecoveryEnd (p : Port)
  /-- RECOVER (R221): TCP_CC_CTRL.RECOVER opens VBUS, VCONN and the SBU mux, raises DETACH and presents open for 25 ms. -/
  | recover (who : Requester) (p : Port)
  /-- VCONN_TRIP (R216): VCONN stays in current limit, or below 4.5 V, for 2 ms, so the VCONN switch opens and the trip is counted. -/
  | vconnTrip (p : Port)
  /-- CON_RX_BYTE (R225): The console tap receives a character, which goes to the receive FIFO or to a running SBU capture. -/
  | conRxByte (p : Port) (ch : RxChar)
  /-- CON_RXDATA_READ (R230): A read of CON_RXDATA returns and removes the oldest received byte. -/
  | conRxdataRead (who : Requester) (p : Port)
  /-- CON_TXDATA_WRITE (R225): A write to CON_TXDATA queues a byte to send, or is counted in TX_DROP when the FIFO is full or the mux is open. -/
  | conTxdataWrite (who : Requester) (p : Port) (be : BitVec 4) (v : Word)
  /-- CON_TX_DONE (R223): The console tap finishes sending a character and takes the next byte from the transmit FIFO. -/
  | conTxDone (p : Port)
  /-- UPSTREAM_ATTACH (R226): Uu_VBSNS shows at least 4.0 V with an orientation found, so the upstream port attaches. -/
  | upstreamAttach (u : Up) (orient : Bool) (rp : Fin 4) (vbus : Nat)
  /-- UPSTREAM_DETACH (R226): Uu_VBSNS stays below 3.67 V for 12 ms, so the upstream port detaches and the presentation stops being live. -/
  | upstreamDetach (u : Up)
  /-- SOURCE_CAPABILITIES (R252): Source_Capabilities received as a sink at zero draw is answered with a Request for PDO1 at 0 mA. -/
  | sourceCapabilities (pp : PdPort) (msg : PdMsg)
  /-- REQUEST (R241): A Request or EPR_Request is rejected, accepted, or, for a raise, sent to the arbiter for leave of kind 1. -/
  | request (pp : PdPort) (msg : PdMsg)
  /-- GET_SOURCE_CAP (R250): Get_Source_Cap is answered with the present offer. -/
  | getSourceCap (pp : PdPort) (msg : PdMsg)
  /-- GET_SINK_CAP (R250): Get_Sink_Cap is answered with one Fixed 5 V 0 mA Sink PDO. -/
  | getSinkCap (pp : PdPort) (msg : PdMsg)
  /-- EPR_GET_SOURCE_CAP (R250): EPR_Get_Source_Cap is answered with EPR_Source_Capabilities when EPR is usable, and with Not_Supported otherwise. -/
  | eprGetSourceCap (pp : PdPort) (msg : PdMsg)
  /-- PR_SWAP (R250): A received PR_Swap is answered Reject. -/
  | prSwap (pp : PdPort) (msg : PdMsg)
  /-- DR_SWAP (R253): A received DR_Swap is accepted while the port is UFP, making it DFP, and is rejected as source. -/
  | drSwap (pp : PdPort) (msg : PdMsg)
  /-- VCONN_SWAP (R255): A received VCONN_Swap is accepted or rejected according to ACCEPT_VCS and TAKE_VCONN. -/
  | vconnSwap (pp : PdPort) (msg : PdMsg)
  /-- FR_SWAP (R254): A received FR_Swap is answered Not_Supported unless an FRS signal was seen. -/
  | frSwap (pp : PdPort) (msg : PdMsg)
  /-- SOFT_RESET (R256): A received Soft_Reset is accepted and the message IDs reset, or it leads to Hard_Reset in a power phase. -/
  | softReset (pp : PdPort) (msg : PdMsg)
  /-- HARD_RESET (R257): Hard_Reset is received and the hard-reset sequence begins. -/
  | hardReset (pp : PdPort) (msg : PdMsg)
  /-- GET_STATUS (R250): Get_Status is answered with the internal temperature and the OTP flag. -/
  | getStatus (pp : PdPort) (msg : PdMsg)
  /-- GET_PPS_STATUS (R246): Get_PPS_Status is answered with PPS_Status under a PPS contract, and with Not_Supported otherwise. -/
  | getPpsStatus (pp : PdPort) (msg : PdMsg)
  /-- GET_SOURCE_CAP_EXTENDED (R250): Get_Source_Cap_Extended is answered with the VID, PID and PDP of the grant. -/
  | getSourceCapExtended (pp : PdPort) (msg : PdMsg)
  /-- GET_SOURCE_INFO (R250): Get_Source_Info is answered with the managed capability and the maximum and present PDP. -/
  | getSourceInfo (pp : PdPort) (msg : PdMsg)
  /-- GET_REVISION (R250): Get_Revision is answered with Revision 3.1. -/
  | getRevision (pp : PdPort) (msg : PdMsg)
  /-- GET_MANUFACTURER_INFO (R250): Get_Manufacturer_Info is answered with the VID, PID and the string IM6416. -/
  | getManufacturerInfo (pp : PdPort) (msg : PdMsg)
  /-- EPR_MODE (R247): EPR_Mode Enter or Exit is received, and EPR mode entry is run or EPR mode is ended. -/
  | eprMode (pp : PdPort) (msg : PdMsg)
  /-- EPR_KEEPALIVE (R247): EPR_KeepAlive is answered with EPR_KeepAlive_Ack and restarts the keepalive timer. -/
  | eprKeepalive (pp : PdPort) (msg : PdMsg)
  /-- VENDOR_DEFINED (R259): A structured VDM is received: partner requests are answered and answers to the engine's own discovery are taken. -/
  | vendorDefined (pp : PdPort) (msg : PdMsg)
  /-- PING (R250): Ping is acknowledged with GoodCRC and causes no action. -/
  | pingMsg (pp : PdPort) (msg : PdMsg)
  /-- ALERT (R250): Alert is acknowledged with GoodCRC and causes no action. -/
  | alertMsg (pp : PdPort) (msg : PdMsg)
  /-- BIST (R250): BIST Carrier Mode or Test Data runs at 5 V and is ignored otherwise. -/
  | bist (pp : PdPort) (msg : PdMsg)
  /-- UNSUPPORTED_MESSAGE (R250): A message the engine does not support is answered Not_Supported. -/
  | unsupportedMessage (pp : PdPort) (msg : PdMsg)
  /-- ACCEPT (R253): Accept is received inside a swap or soft-reset sequence, and the sequence proceeds. -/
  | accept (pp : PdPort) (msg : PdMsg)
  /-- REJECT (R253): Reject is received to a swap the engine sent, and it counts as one attempt. -/
  | reject (pp : PdPort) (msg : PdMsg)
  /-- WAIT (R253): Wait is received to a swap the engine sent, and it counts as one attempt. -/
  | waitMsg (pp : PdPort) (msg : PdMsg)
  /-- PS_RDY (R253): The partner's PS_RDY in a swap makes the engine close its switch or present Rp and complete the swap. -/
  | psRdy (pp : PdPort) (msg : PdMsg)
  /-- GOODCRC (R232): GoodCRC is received for a sent message, ending its retransmissions. -/
  | goodcrc (pp : PdPort) (msg : PdMsg)
  /-- GOODCRC_TIMEOUT (R232): A sent message receives no GoodCRC within tReceive and is retransmitted, or after nRetryCount is counted in TX_FAIL. -/
  | goodcrcTimeout (pp : PdPort) (msg : PdMsg)
  /-- SRC_STARTUP_END (R240): 20 ms after VBUS_ON, the engine sends its first Source_Capabilities. -/
  | srcStartupEnd (p : Port)
  /-- SOURCE_CAP_RESEND (R240): 150 ms pass without acknowledged capabilities, and Source_Capabilities is resent, up to 50 times. -/
  | sourceCapResend (p : Port)
  /-- SENDER_RESPONSE_TIMEOUT (R251): An expected answer is missing after tSenderResponse, so it counts as an unexpected message, leading to a soft or hard reset. -/
  | senderResponseTimeout (pp : PdPort)
  /-- TRANSITION_START (R243): 28 ms after the GoodCRC of Accept, VSET moves toward the new target and TRANS_LIMIT starts. -/
  | transitionStart (p : Port)
  /-- TRANS_LIMIT_END (R244): TRANS_LIMIT ends before the target is reached, so the transition fails and Hard_Reset is sent. -/
  | transLimitEnd (p : Port)
  /-- WAIT_TIMER_END (R241): A deferred raise has had no leave answer 15 ms after the Request, so the engine sends Wait. -/
  | waitTimerEnd (p : Port)
  /-- LEAVE_HOLD_END (R242): 1 s passes after a grant or a Wait with no Request, so the kind-1 leave is reported done or withdrawn. -/
  | leaveHoldEnd (p : Port)
  /-- PPS_TIMEOUT (R246): No Request arrives for 14 s under a PPS contract, so the engine sends Hard_Reset. -/
  | ppsTimeout (p : Port)
  /-- EPR_KEEPALIVE_TIMEOUT (R247): 0.9 s passes in EPR mode without EPR_KeepAlive or EPR_Request, so the engine sends Hard_Reset. -/
  | eprKeepaliveTimeout (p : Port)
  /-- SINK_TX_END (R233): 18 ms after Rp is set to SinkTxNG, the engine starts its own SOP sequence. -/
  | sinkTxEnd (p : Port)
  /-- CAPS_MERGE_END (R239): 100 ms after the previous capabilities, a changed offer is sent in SRC_READY. -/
  | capsMergeEnd (p : Port)
  /-- DISCOVER_IDENTITY_ATTEMPT (R248): The discovery timer sends an SOP′ Discover Identity attempt, or after 20 attempts treats the cable as failed. -/
  | discoverIdentityAttempt (p : Port)
  /-- REVOKE_NO_REQUEST (R249): The sink sends no Request within 30 ms of revocation capabilities, so the engine sends Hard_Reset. -/
  | revokeNoRequest (p : Port)
  /-- HARD_RESET_POWER_OFF (R257): 30 ms into a source hard reset, the switch opens with cause 5, VCONN goes off and the SBU mux opens. -/
  | hardResetPowerOff (p : Port)
  /-- SRC_RECOVER_END (R257): 0.8 s after vSafe0V in a hard reset, the switch closes at 5 V with the default grant and VCONN turns on. -/
  | srcRecoverEnd (p : Port)
  /-- SINK_WAIT_CAP_TIMEOUT (R252): No Source_Capabilities arrives within 465 ms in SNK_WAIT_CAPS, so the engine sends Hard_Reset. -/
  | sinkWaitCapTimeout (p : Port)
  /-- SWAP_ATTEMPT (R253): With SWAP_TO_SRC = 1, the engine takes a turn-on reservation and sends PR_Swap or DR_Swap, at attempts 1 s apart. -/
  | swapAttempt (p : Port)
  /-- SINK_HARD_RESET_TIMEOUT (R253): A sink hard reset has waited 1.275 s with no VBUS, so the port detaches. -/
  | sinkHardResetTimeout (p : Port)
  /-- FRS_SIGNAL (R254): CC is held low for 60 µs while FRS is armed, so the engine recognises the FRS signal and enters FR_SWAP. -/
  | frsSignal (p : Port)
  /-- FRS_VBUS_DROP (R254): VBUS falls below 4.75 V during a Fast Role Swap, so GATE drives fully on within 50 µs. -/
  | frsVbusDrop (p : Port)
  /-- CONSOLE_MODE_ATTEMPT (R259): The engine runs the discovery and Enter Mode sequence for the console SVID, at attempts 1 s apart. -/
  | consoleModeAttempt (p : Port)
  /-- VDM_RESPONSE_TIMEOUT (R259): A console-mode VDM gets no answer within 30 ms, which counts as a failed attempt. -/
  | vdmResponseTimeout (p : Port)
  /-- PD_CTRL_HARD_RESET (R263): TCP_PD_CTRL.HARD_RESET sends Hard_Reset. -/
  | pdCtrlHardReset (who : Requester) (p : Port)
  /-- PD_CTRL_SOFT_RESET (R263): TCP_PD_CTRL.SOFT_RESET sends Soft_Reset in a ready state. -/
  | pdCtrlSoftReset (who : Requester) (p : Port)
  /-- SEND_CAPS (R263): TCP_PD_CTRL.SEND_CAPS derives the offer and sends it at the next SRC_READY. -/
  | sendCaps (who : Requester) (p : Port)
  /-- REDISCOVER (R248): TCP_PD_CTRL.REDISCOVER runs cable discovery again on a full port that is VCONN source. -/
  | rediscover (who : Requester) (p : Port)
  /-- EXIT_MODE (R259): TCP_PD_CTRL.EXIT_MODE sends Exit Mode for the entered console mode. -/
  | exitMode (who : Requester) (p : Port)
  /-- PD_EN_WRITE (R262): A write that changes PD_EN hard-resets the partner and goes IDLE, or starts the engine at SRC_STARTUP. -/
  | pdEnWrite (who : Requester) (p : Port) (v : Bool)
  /-- CONTEXT_RESET (R276): SE0 for 2.5 µs on a context's upstream segment, or a root reset, returns the hub context to default and powers its ports off. -/
  | contextReset (hc : HubCtx) (hs : Bool)
  /-- CONTEXT_SUSPEND (R284): A context's upstream segment has been idle for 3 ms, so the context suspends and raises SUSPEND. -/
  | contextSuspend (hc : HubCtx)
  /-- CONTEXT_RESUME (R284): Upstream K on a suspended context resumes it and is repeated to its enabled ports. -/
  | contextResume (at_ : ResumeAt)
  /-- CONNECT (R273): A line has stayed above threshold for CONN_DB in DISCONNECTED, so a connect is recognised and the port enters DISABLED. -/
  | connect (p : Port) (low : Bool)
  /-- DISCONNECT (R273): SE0, the high-speed envelope or a Type-C detach signals a disconnect, clearing the port's status bits. -/
  | disconnect (p : Port)
  /-- BABBLE (R271): A port still sending upstream at EOF2 is cut off and enters DISABLED. -/
  | babble (p : Port)
  /-- SET_PORT_RESET (R274): SetPortFeature(PORT_RESET) drives SE0 for RESET_TIME and runs the chirp handshake. -/
  | setPortReset (hc : HubCtx) (n : Nat)
  /-- CHIRP_K (R274): A device chirp K held for 2.5 µs during reset makes the port send its K-J chirps. -/
  | chirpK (p : Port)
  /-- PORT_RESET_END (R274): RESET_TIME ends, and the port enters ENABLED at the detected speed with C_PORT_RESET set. -/
  | portResetEnd (which : PortResetOver)
  /-- SET_PORT_SUSPEND (R285): SetPortFeature(PORT_SUSPEND) suspends an enabled port at the next microframe boundary. -/
  | setPortSuspend (hc : HubCtx) (n : Nat)
  /-- CLEAR_PORT_SUSPEND (R285): ClearPortFeature(PORT_SUSPEND) starts driving resume K on a suspended port. -/
  | clearPortSuspend (hc : HubCtx) (n : Nat)
  /-- RESUME_END (R285): RESUME_TIME ends, and the port sends EOP, enters ENABLED and raises RESUME. -/
  | resumeEnd (p : Port)
  /-- CLEAR_PORT_ENABLE (R290): ClearPortFeature(PORT_ENABLE) puts the port in DISABLED. -/
  | clearPortEnable (hc : HubCtx) (n : Nat)
  /-- SET_PORT_POWER (R275): SetPortFeature(PORT_POWER) returns a powered-off port, asking for turn-on leave when it is attached. -/
  | setPortPower (hc : HubCtx) (n : Nat)
  /-- CLEAR_PORT_POWER (R275): ClearPortFeature(PORT_POWER) powers the port off and opens VBUS when HOST_VBUS = 1. -/
  | clearPortPower (hc : HubCtx) (n : Nat)
  /-- SET_PORT_TEST (R291): SetPortFeature(PORT_TEST) puts the port in the selected test mode. -/
  | setPortTest (hc : HubCtx) (n : Nat) (sel : Nat)
  /-- SET_AND_TEST_PORT_L1 (R287): SetAndTestPortFeature(PORT_L1) sends the LPM transaction to the device, or answers status 0x03 without sending. -/
  | setAndTestPortL1 (hc : HubCtx) (n : Nat) (addr : BitVec 7) (hird : BitVec 4) (rwe : Bool)
  /-- LPM_ANSWER (R287): The device answers the LPM transaction, or fails to answer in time, which gives the L1 status and on ACK enters SLEEPING. -/
  | lpmAnswer (p : Port) (ans : LpmAnswer)
  /-- CLEAR_PORT_L1 (R287): ClearPortFeature(PORT_L1) drives resume K for the HIRD time. -/
  | clearPortL1 (hc : HubCtx) (n : Nat)
  /-- L1_EXIT_END (R287): The L1 resume drive ends with EOP, and the port enters ENABLED. -/
  | l1ExitEnd (p : Port)
  /-- REMOTE_WAKE (R286): A device K for 2.5 µs on a port is propagated, resumes the port, exits L1 or is blocked. -/
  | remoteWake (p : Port)
  /-- WAKE_PROPAGATION_END (R286): The context ends its 1.5 ms upstream K drive and follows the host's K. -/
  | wakePropagationEnd (hc : HubCtx)
  /-- PWR_HOLD_END (R276): PWR_HOLD ends after a context reset, and ports whose power bits are still 0 open VBUS. -/
  | pwrHoldEnd (hc : HubCtx) (ss : Bool)
  /-- CLEAR_CHANGE_BIT (R290): ClearPortFeature of a C_PORT change selector clears that change bit. -/
  | clearChangeBit (hc : HubCtx) (n : Nat) (sel : Nat)
  /-- GET_PORT_STATUS (R289): GetPortStatus returns wPortStatus and wPortChange of the context's view. -/
  | getPortStatus (hc : HubCtx) (n : Nat)
  /-- GET_HUB_STATUS (R289): GetHubStatus returns zero hub status and change. -/
  | getHubStatus (req : StatusReq)
  /-- GET_HUB_DESCRIPTOR (R289): GetHubDescriptor returns the hub descriptor with engine-filled fields. -/
  | getHubDescriptor (hub : AnyHub)
  /-- GET_DESCRIPTOR (R330): A standard GetDescriptor is answered with the presentation's descriptors. -/
  | getDescriptor (dev : PresDevice) (desc : DescId) (lang : BitVec 16) (len : Nat) (parityErr : Bool)
  /-- SET_INTERFACE (R289): SetInterface chooses between the single-TT and multi-TT alternate settings. -/
  | setInterface (hc : HubCtx) (alt : Nat)
  /-- HUB_REQUEST_ERROR (R289): An unsupported hub-class request or selector is answered with Request Error and changes nothing. -/
  | hubRequestError (req : HubRequest)
  /-- CLEAR_TT_BUFFER (R289): ClearTTBuffer discards the matching held non-periodic buffers of the named port's TT. -/
  | clearTtBuffer (hc : HubCtx) (n : Nat) (dev : BitVec 7) (ep : BitVec 4) (ty : XferType) (inDir : Bool)
  /-- RESET_TT (R289): ResetTT discards every entry of the TT, ends StopTT and answers once the bus is idle. -/
  | resetTt (hc : HubCtx) (n : Nat)
  /-- STOP_TT (R289): StopTT lets the TT finish its transaction and start no other until ResetTT. -/
  | stopTt (hc : HubCtx) (n : Nat)
  /-- STATUS_CHANGE_POLL (R289): An IN on the status-change endpoint returns the change bitmap, or NAK while no change is held. -/
  | statusChangePoll (hub : AnyHub)
  /-- START_SPLIT (R281): A start-split is taken into the named port's TT periodic pipeline, or answered ACK or NAK for a non-periodic buffer. -/
  | startSplit (hc : HubCtx) (n : Nat) (sp : Split)
  /-- COMPLETE_SPLIT (R282): A complete-split is answered from the TT's results with NYET, data, a handshake, ERR or STALL. -/
  | completeSplit (hc : HubCtx) (n : Nat) (sp : Split)
  /-- TT_TRANSACTION_END (R280): A TT transaction on the full-speed or low-speed bus ends and its result is held. -/
  | ttTransactionEnd (p : Port) (fin : TtDone)
  /-- TT_STALE (R280): A periodic entry has not begun by the end of microframe Y + 2, so it is discarded and counted. -/
  | ttStale (at_ : TtAt)
  /-- TT_RESULT_EXPIRE (R280): A periodic result held to the end of microframe Y + 4 is discarded. -/
  | ttResultExpire (p : Port)
  /-- RX_DETECT (R301): Every 12 ms a downstream link in Rx.Detect looks for far-end termination, entering Polling when it finds it. -/
  | rxDetect (f : Full) (found : Bool)
  /-- LINK_U0 (R301): A SuperSpeed link completes training to U0, and the port reports the connect and raises SS_UP. -/
  | linkU0 (f : Full) (gen2 : Bool)
  /-- POLLING_FAIL (R302): A Polling attempt fails; after three in succession the port gives up SuperSpeed and raises SS_FALLBACK. -/
  | pollingFail (f : Full) (config : Bool)
  /-- LINK_RECOVERY (R316): A link enters Recovery because of an error, which counts LINK_ERR and RECOV. -/
  | linkRecovery (lk : SsLink) (symbols : Nat) (hdrs : HdrErrs)
  /-- SS_INACTIVE (R305): Recovery fails to return to U0 within 12 ms, so the port enters SS.Inactive and sets C_PORT_LINK_STATE. -/
  | ssInactive (f : Full)
  /-- SS_PORT_RESET (R307): SetPortFeature(PORT_RESET) on a SuperSpeed port runs a hot reset, or a warm reset when the link is not in U0. -/
  | ssPortReset (sc : SsCtx) (n : Nat)
  /-- BH_PORT_RESET (R307): SetPortFeature(BH_PORT_RESET) runs a warm reset of the SuperSpeed port. -/
  | bhPortReset (sc : SsCtx) (n : Nat)
  /-- SS_RESET_END (R307): A SuperSpeed port reset completes, escalates from hot to warm, or finds no termination, and sets its change bits. -/
  | ssResetEnd (f : Full) (out : ResetOutcome)
  /-- SS_CONTEXT_RESET (R307): A hot or warm reset on the upstream link resets every SuperSpeed context of the presentation and empties its queues. -/
  | ssContextReset (u : Up) (warm : Bool)
  /-- SET_LINK_STATE_U3 (R310): SetPortFeature(PORT_LINK_STATE) with U3 takes a port in U0 to U3. -/
  | setLinkStateU3 (sc : SsCtx) (n : Nat)
  /-- SET_LINK_STATE_U0 (R310): SetPortFeature(PORT_LINK_STATE) with U0 drives the exit LFPS on a port in U3. -/
  | setLinkStateU0 (sc : SsCtx) (n : Nat)
  /-- SET_LINK_STATE_DISABLED (R315): SetPortFeature(PORT_LINK_STATE) with SS.Disabled disables the link until Rx.Detect is written. -/
  | setLinkStateDisabled (sc : SsCtx) (n : Nat)
  /-- SET_LINK_STATE_RX_DETECT (R315): SetPortFeature(PORT_LINK_STATE) with Rx.Detect clears a fallback and restarts detection. -/
  | setLinkStateRxDetect (sc : SsCtx) (n : Nat)
  /-- SS_SET_PORT_POWER (R306): SetPortFeature(PORT_POWER) sets the context's SuperSpeed power bit, and VBUS follows R275. -/
  | ssSetPortPower (sc : SsCtx) (n : Nat)
  /-- SS_CLEAR_PORT_POWER (R306): ClearPortFeature(PORT_POWER) takes the link to SS.Disabled, and VBUS follows R275. -/
  | ssClearPortPower (sc : SsCtx) (n : Nat)
  /-- SET_PORT_U1_TIMEOUT (R308): SetPortFeature(PORT_U1_TIMEOUT) sets the port's U1 behaviour. -/
  | setPortU1Timeout (sc : SsCtx) (n : Nat) (v : Byte)
  /-- SET_PORT_U2_TIMEOUT (R308): SetPortFeature(PORT_U2_TIMEOUT) sets the port's U2 behaviour and inactivity timeout LMP. -/
  | setPortU2Timeout (sc : SsCtx) (n : Nat) (v : Byte)
  /-- SET_REMOTE_WAKE_MASK (R310): SetPortFeature(PORT_REMOTE_WAKE_MASK) sets which port events wake a suspended upstream link. -/
  | setRemoteWakeMask (sc : SsCtx) (n : Nat) (v : Byte)
  /-- SET_FORCE_LINKPM_ACCEPT (R308): SetPortFeature(FORCE_LINKPM_ACCEPT) makes the port accept every LGO_Ux request until cleared or reset. -/
  | setForceLinkpmAccept (sc : SsCtx) (n : Nat)
  /-- SET_HUB_DEPTH (R298): SetHubDepth stores a hub's depth for route-string decoding, or is refused with Request Error. -/
  | setHubDepth (sc : SsCtx) (depth : Nat)
  /-- GET_PORT_ERROR_COUNT (R315): GetPortErrorCount returns the port's LINK_ERR in the owner's view. -/
  | getPortErrorCount (sc : SsCtx) (n : Nat)
  /-- SS_GET_PORT_STATUS (R315): A SuperSpeed GetPortStatus returns the view, the extended form adding speed and lane count. -/
  | ssGetPortStatus (sc : SsCtx) (n : Nat) (ext : Bool)
  /-- SS_CLEAR_CHANGE_BIT (R315): ClearPortFeature of a SuperSpeed change selector clears the bit. -/
  | ssClearChangeBit (sc : SsCtx) (n : Nat) (sel : Nat)
  /-- U1_INACTIVITY (R308): A port's U1 or U2 idle time ends, and the port initiates the low-power link state. -/
  | u1Inactivity (lk : SsLink) (u2 : Bool)
  /-- LGO_UX (R308): An LGO_U1 or LGO_U2 request is received and accepted or rejected under the port's settings. -/
  | lgoUx (lk : SsLink) (u2 : Bool)
  /-- SS_HEADER (R312): A SuperSpeed header packet arrives and is routed by its route-string nibble to a queue, or discarded and counted. -/
  | ssHeader (hd : SsPacket)
  /-- PACKET_FORWARD (R313): A stored packet moves to the next queue once that queue has room for it. -/
  | packetForward (mv : SsSend)
  /-- SS_REMOTE_WAKE (R310): A device's exit LFPS on a port in U3 brings the port to U0 and may wake the upstream link. -/
  | ssRemoteWake (f : Full)
  /-- UPSTREAM_LINK_TRAINED (R303): An upstream SuperSpeed link finishes training at the width and speed reached, or gives up after three failures. -/
  | upstreamLinkTrained (u : Up) (res : UpTrain)
  /-- COMPLIANCE_ENTRY (R317): The first Polling.LFPS after Rx.Detect times out with COMPLIANCE_EN = 1, so the link enters Compliance. -/
  | complianceEntry (f : Full)
  /-- ENTER_CP (R317): SSP_TEST.ENTER_CP enters Compliance at once. -/
  | enterCp (who : Requester) (f : Full)
  /-- LOOP_MASTER (R318): SSP_TEST.LOOP_MASTER enters Loopback as master and runs the PRBS-31 bit-error check. -/
  | loopMaster (who : Requester) (f : Full)
  /-- EXIT (R317): SSP_TEST.EXIT returns a link in Compliance or Loopback to Rx.Detect. -/
  | exitTest (who : Requester) (f : Full) (errors : Nat)
  /-- PING_LFPS (R317): A Ping.LFPS in Compliance advances the compliance pattern. -/
  | pingLfps (f : Full)
  /-- LOOPBACK_ENTRY (R318): TS2 with the loopback bit makes the link enter Loopback as slave. -/
  | loopbackEntry (f : Full)
  /-- MARGIN_START (R319): SSP_MARGIN_CMD.START begins a margining run on the active lane, or ends at once with status 3. -/
  | marginStart (who : Requester) (f : Full)
  /-- MARGIN_END (R319): A margining run completes after DWELL, or ends when the link leaves U0, U1 or U2. -/
  | marginEnd (f : Full) (errors : Nat)
  /-- MAX_GEN_WRITE (R304): A change of MAX_GEN below the link's speed returns the link to Rx.Detect. -/
  | maxGenWrite (who : Requester) (lk : SsLink) (v : Bool)
  /-- OWNER_WRITE (R332): A write that changes PRS_OWNERn.OWNER requests an ownership move and sets MOVING. -/
  | ownerWrite (who : Requester) (p : Port) (be : BitVec 4) (v : Word)
  /-- MOVE_POINT (R333): A port's move point is reached: the old view disconnects, the new owner's view takes the port and CUR changes. -/
  | movePoint (p : Port)
  /-- PRES_ATTACH (R135): All attach conditions hold, so a presentation applies its receiver termination and DP pull-up. -/
  | presAttach (u : Up)
  /-- LIVENESS_LOSS (R340): A presentation stops being live after FO_TIME, and its failover-enabled ports move to the other live presentation. -/
  | livenessLoss (u : Up)
  /-- PRESENTATION_LIVE (R341): A presentation becomes live again, which may decide a pending failover. -/
  | presentationLive (u : Up)
  /-- FO_SUSP_LIMIT_END (R339): FO_SUSP_LIMIT passes since the last SOF or timestamp, and suspend no longer holds the presentation live. -/
  | foSuspLimitEnd (u : Up)
  /-- FB_DELAY_END (R343): HOME has been live and configured for FB_DELAY, so failed-over ports return under FB_MODE. -/
  | fbDelayEnd (u : Up)
  /-- FAILBACK (R343): PRS_CTRL.FAILBACK moves every failed-over port whose HOME is attached and live back to it. -/
  | failback (who : Requester)
  /-- REATTACH (R344): PRS_CTRL.REATTACH_Uu, or a change of TOPO_Uu, removes the presentation's pull-up and termination and resets its contexts. -/
  | reattach (who : Requester) (u : Up)
  /-- REATTACH_END (R344): After 100 ms off the bus, the presentation reattaches under R135. -/
  | reattachEnd (u : Up)
  /-- REG_READ (R355): The vendor request REG_READ executes its words as host-agent register reads. -/
  | regRead (fi : FnInst) (value index : BitVec 16) (len : Nat)
  /-- REG_WRITE (R357): The vendor request REG_WRITE, with its data stage complete, checks its entries and executes them as host-agent register writes. -/
  | regWrite (fi : FnInst) (value index : BitVec 16) (ents : List Byte) (parityErr : Bool)
  /-- GET_RESULT (R358): The vendor request GET_RESULT returns the result store of the last executed request. -/
  | getResult (fi : FnInst) (rq : StoreReq) (parityErr : Bool)
  /-- VENDOR_REPLAY (R359): The vendor request REPLAY returns the stored data stage of the last read. -/
  | vendorReplay (fi : FnInst) (rq : StoreReq) (parityErr : Bool)
  /-- DRAM_READ (R356): The vendor request DRAM_READ reads words through the host-agent DRAM window. -/
  | dramRead (fi : FnInst) (waddr : BitVec 32) (len : Nat)
  /-- DRAM_WRITE (R356): The vendor request DRAM_WRITE writes words through the host-agent DRAM window. -/
  | dramWrite (fi : FnInst) (waddr : BitVec 32) (data : List Byte) (parityErr : Bool)
  /-- VENDOR_REQUEST_DONE (R357): A vendor request's words are all done, so its data or status stage is released and the result store is updated. -/
  | vendorRequestDone (u : Up) (parityErr : Bool)
  /-- BULK_COMMAND (R362): A bulk command block is complete on EP2 and is checked, halting EP2 if it is malformed. -/
  | bulkCommand (at_ : EpAt) (bytes : List Byte)
  /-- BULK_READ (R363): With EP3 empty, a bulk READ command executes and places its data and status block in EP3. -/
  | bulkRead (u : Up) (parityErr : Bool)
  /-- BULK_WRITE (R363): With EP3 empty, a bulk WRITE command executes and places its status block in EP3. -/
  | bulkWrite (u : Up) (parityErr : Bool)
  /-- EP3_ACK (R364): An acknowledged EP3 packet frees that part of the response buffer. -/
  | ep3Ack (fi : FnInst) (n : Nat) (parityErr : Bool)
  /-- NOTICE (R365): An EP1 IN token finds a notice pending, so the notice is formed and sent. -/
  | notice (fi : FnInst) (parityErr : Bool)
  /-- NOTICE_ACK (R365): The host acknowledges the notice, and pending clears. -/
  | noticeAck (u : Up)
  /-- FUNCTION_RESET (R360): A reset of a management function instance returns it to default and, if in service, empties its endpoints and frees its semaphores. -/
  | functionReset (u : Up) (ss : Bool) (kind : Nat)
  /-- MGF_SET_CONFIGURATION (R368): SetConfiguration, or SetInterface with setting 0, resets the toggles and halts of EP1–EP3 and empties them. -/
  | mgfSetConfiguration (u : Up) (ss : Bool) (intf : Bool) (cfg : Nat)
  /-- CLEAR_ENDPOINT_HALT (R368): ClearFeature(ENDPOINT_HALT) resets an endpoint's toggle and clears its halt. -/
  | clearEndpointHalt (fi : FnInst) (ep : Nat)
  /-- SET_ENDPOINT_HALT (R368): SetFeature(ENDPOINT_HALT) halts an endpoint. -/
  | setEndpointHalt (fi : FnInst) (ep : Nat)
  /-- IN_SERVICE_CHANGE (R348): The SuperSpeed instance becomes or stops being configured, so the instance in service changes and EP1–EP3 are emptied. -/
  | inServiceChange (u : Up)
  /-- FUNCTION_WAKE (R366): With the link in U0, the SuperSpeed function sends a Function Wake for a pending notice. -/
  | functionWake (u : Up)
  /-- EPM_WIN_READ (R372): A read of EPM_WIN_DATA returns the endpoint-memory word and advances the pointer. -/
  | epmWinRead (who : Requester)
  /-- DOORBELL (R381): A write of GRV_JRr_PROD rings the job-ring doorbell, or sets DB_RANGE when out of range. -/
  | doorbell (who : Requester) (r : RingIx) (be : BitVec 4) (v : Word)
  /-- DESCRIPTOR_FETCH (R381): The processor fetches the next descriptor from a ring, in round-robin, and queues it on its ports. -/
  | descriptorFetch
  /-- JOB_START (R384): A job reaches the head of every one of its ports' queues and starts on all of them. -/
  | jobStart (p : Port)
  /-- TAKE (R387): A TAKE job requests a move of the port to the graver when FROM allows its owner. -/
  | take (p : Port)
  /-- GIVE (R387): A GIVE job requests a move of the port to DEST. -/
  | give (p : Port)
  /-- POWER_OFF (R388): A POWER job with ACTION off sets VBS_CTRL.FORCE_OFF. -/
  | powerOff (p : Port)
  /-- POWER_ON (R388): A POWER job with ACTION on clears VBS_CTRL.FORCE_OFF and waits for VBUS_ON. -/
  | powerOn (p : Port)
  /-- POWER_CYCLE (R388): A POWER job with ACTION cycle turns the port off, waits OFF_TIME after vSafe0V and turns it on. -/
  | powerCycle (p : Port)
  /-- ENUM (R390): An ENUM job resets, addresses and reads the descriptors of the device, and checks its class and identity. -/
  | enumJob (p : Port) (ans : DevAns)
  /-- CONFIG (R391): A CONFIG job sets the configuration and interface and loads the port's endpoint table. -/
  | configJob (p : Port) (ans : DevAns)
  /-- CTRL (R392): A CTRL job runs one control transfer on endpoint 0. -/
  | ctrlJob (p : Port) (ans : DevAns)
  /-- JOB_WRITE (R383): A WRITE job sends LENGTH bytes to a bulk or interrupt OUT endpoint, alone or in a fan-out group. -/
  | jobWrite (p : Port) (ans : DevAns)
  /-- JOB_READ (R383): A READ job receives LENGTH bytes from an IN endpoint. -/
  | jobRead (p : Port) (ans : DevAns)
  /-- CAPTURE_SBU (R400): A CAPTURE job of KIND 0 takes the console tap's bytes into the port's capture ring. -/
  | captureSbu (p : Port)
  /-- CAPTURE_CDC (R400): A CAPTURE job of KIND 1 polls a bulk IN endpoint into the port's capture ring. -/
  | captureCdc (p : Port) (ans : DevAns)
  /-- VERIFY_COMPARE (R393): A VERIFY job in MODE 0 reads LENGTH bytes and compares them with the image. -/
  | verifyCompare (p : Port) (ans : DevAns)
  /-- VERIFY_CRC (R393): A VERIFY job in MODE 1 reads LENGTH bytes and checks their CRC-32 against EXPECT. -/
  | verifyCrc (p : Port) (ans : DevAns)
  /-- WAIT_TIME (R394): A WAIT job with COND 0 ends after TIME ms. -/
  | waitTime (p : Port)
  /-- WAIT_ATTACH (R394): A WAIT job with COND 1 ends when the connection logic is attached. -/
  | waitAttach (p : Port)
  /-- WAIT_DETACH (R394): A WAIT job with COND 2 ends when the connection logic is not attached. -/
  | waitDetach (p : Port)
  /-- WAIT_VBUS_ON (R394): A WAIT job with COND 3 ends when VBUS is on. -/
  | waitVbusOn (p : Port)
  /-- WAIT_USB_CONNECT (R394): A WAIT job with COND 4 ends when a USB device is connected. -/
  | waitUsbConnect (p : Port)
  /-- STOP_RUNNING (R389): A STOP job with RUNNING ends each port's running queued job with STOPPED at fetch. -/
  | stopRunning (p : Port)
  /-- STOP_CAPTURES (R389): A STOP job with CAPTURES closes and ends each running capture with STOPPED. -/
  | stopCaptures (p : Port)
  /-- STOP_QUEUED (R389): A STOP job with QUEUED ends every waiting job of the ports with STOPPED. -/
  | stopQueued (p : Port)
  /-- JOB_END (R385): A job has ended on every one of its ports, so each port follows its success or failure link and completions are queued. -/
  | jobEnd (p : Port)
  /-- JOB_TIMEOUT (R383): A job's TIMEOUT expires on a port, which ends there with TIMEOUT, or with OK for a capture. -/
  | jobTimeout (p : Port) (cap : Option Bool)
  /-- COMPLETION_WRITE (R382): With space in the completion ring, a waiting completion entry is written and the producer index advances. -/
  | completionWrite (r : RingIx)
  /-- CR_CONS_WRITE (R382): A write of GRV_CRr_CONS frees completion entries. -/
  | crConsWrite (who : Requester) (r : RingIx) (be : BitVec 4) (v : Word)
  /-- COMPLETION_RETRY (R405): Every 1 ms a completion entry that failed on a DRAM error is written again. -/
  | completionRetry (r : RingIx)
  /-- CAPTURE_RECORD_CLOSE (R401): A capture record closes when full, idle for IDLE_CLOSE, at a break end or at job end, and it is written to the ring. -/
  | captureRecordClose (p : Port) (cdc : Bool) (why : CloseWhy)
  /-- BUF_WDATA (R378): A write of GRV_BUF_WDATA stores a word in the fan-out buffer and advances the pointer, or sets BUF_BUSY with DRAM fitted. -/
  | bufWdata (who : Requester) (be : BitVec 4) (v : Word)
  /-- BUF_RDATA (R378): A read of GRV_BUF_RDATA returns a fan-out buffer word and advances the pointer. -/
  | bufRdata (who : Requester)
  /-- RING_CFG_RESTART (R406): A change of an LR field of ring r ends its chains with STOPPED and resets its indices. -/
  | ringCfgRestart (who : Requester) (r : RingIx) (off : Nat) (be : BitVec 4) (v : Word)
  /-- TRAINING_END (R414): DRAM training ends: on success it goes ready or begins zeroing, and a failed lane repeats training once. -/
  | trainingEnd (laneFail : BitVec 5)
  /-- ZEROING_END (R414): Zeroing after cold training ends, STATE becomes 4 and DRAM_READY rises. -/
  | zeroingEnd
  /-- REFRESH (R415): A refresh falls due and is issued to each rank. -/
  | refresh
  /-- ZQ_CALIBRATION (R415): Every 128 ms a ZQ short calibration is issued to each rank. -/
  | zqCalibration
  /-- SCRUB (R417): The scrubber reads the next 64 bytes and corrects single-bit errors by write-back. -/
  | scrub (turn : ScrubTurn)
  /-- LOAD (R413): DRC_WINw_CTRL.LOAD reads COUNT words from DRAM into the window buffer. -/
  | load (who : Requester) (w : WinIx)
  /-- STORE (R413): DRC_WINw_CTRL.STORE writes COUNT window buffer words to DRAM. -/
  | store (who : Requester) (w : WinIx)
  /-- WINDOW_COMMAND_END (R413): A master-window command completes and records its RESULT. -/
  | windowCommandEnd (w : WinIx)
  /-- ECC_CLEAR (R418): DRC_ECC_ADDR_HI.CLEAR clears both recorded ECC address registers. -/
  | eccClear (who : Requester)
  /-- DDR_ALERT (R423): DDR_ALERT_N asserts, and the commands concerned are reissued and counted. -/
  | ddrAlert
  /-- COMPAT_ATTACH (R432): A write of 1 to ATTACH copies an instance's configuration area, forms its descriptors and presents it. -/
  | compatAttach (who : Requester) (i : Inst)
  /-- HOLD_TIMEOUT (R433): ATTACH has not been written 1 s after hold entry, so the instance attaches and HOLD_TIMEOUT is raised. -/
  | holdTimeout (i : Inst)
  /-- INST_RESET (R435): CPT_CTRL.INST_RESET returns an instance to hold and reloads its register file from the image. -/
  | instReset (who : Requester) (mask : Byte)
  /-- RC_READ (R57): A read of an RC byte of a compatibility window returns and clears it. -/
  | rcRead (who : Requester) (i : Inst) (off : Byte)
  /-- CONFIG_AREA_WRITE (R429): A write to bytes 0x00–0xBF of an instance is stored in hold, or refused and counted while attached. -/
  | configAreaWrite (who : Requester) (i : Inst) (off : Byte) (v : Byte)
  /-- TEMP_SAMPLE (R446): The sensors are sampled every 1 ms, and the thermal level is entered or left. -/
  | tempSample (temps : Vector Nat 5)
  /-- SHED_STEP_TIMER (R447): Each further 1 s at level 2 adds SHED_STEP, and the pool in force is cut again. -/
  | shedStepTimer
  /-- QUAR_SET (R450): A write to HLT_QUAR_SET_LO or HLT_QUAR_SET_HI puts ports in quarantine. -/
  | quarSet (who : Requester) (hi : Bool) (v : Word)
  /-- QUAR_RELEASE (R451): A write of 1 to a quarantine bit lifts the quarantine reset and raises QUARANTINE_RELEASE. -/
  | quarRelease (who : Requester) (hi : Bool) (v : Word)
  /-- QUAR_AUTO_END (R451): QUAR_AUTO minutes in quarantine pass, and the port is released. -/
  | quarAutoEnd (p : Port)
  /-- PLATE_ISO_SET (R452): A guarded pair setting an HLT_PLATE_ISO bit holds the plate in reset and opens its ports. -/
  | plateIsoSet (who : Requester) (v : BitVec 4)
  /-- PLATE_ISOLATED (R452): Every port of an isolated plate is at vSafe0V or DSCH_MAX has passed, so ISOLATED is set and PLATE_ISOLATED is raised. -/
  | plateIsolated (k : Plate)
  /-- PLATE_ISO_CLEAR (R453): A guarded pair clearing an HLT_PLATE_ISO bit restores the plate from the active image. -/
  | plateIsoClear (who : Requester) (v : BitVec 4)
  /-- PEAK_CLR (R458): HLT_CTRL.PEAK_CLR sets every sensor's PEAK to its TEMP. -/
  | peakClr (who : Requester)
  /-- UPDATE_PORT_POLICY (R455): GO with KIND 0 applies the PORT_POLICY sections of the selected ports as live register writes. -/
  | updatePortPolicy (who : Requester)
  /-- UPDATE_PORT (R455): GO with KIND 1 applies the PORT sections of the selected ports as live register writes. -/
  | updatePort (who : Requester)
  /-- UPDATE_PRES_DESC (R455): GO with KIND 2 loads a presentation's descriptors and reattaches it. -/
  | updatePresDesc (who : Requester)
  /-- UPDATE_END (R455): A live update finishes, BUSY clears and RESULT is recorded. -/
  | updateEnd
  /-- PLATE_CALIBRATION_END (R484): A plate calibration ends, reports done and sets PLATE_CAL bit k. -/
  | plateCalibrationEnd (k : Plate)
  /-- UP_CALIBRATION_END (R131): The joint calibration of U0 and U1 ends, reports done and sets UP_CAL. -/
  | upCalibrationEnd
  /-- SEATED (R163): Both seating pins count as mated after the 10 µs filter, which starts the SEAT_DB debounce count. -/
  | seated
  /-- TRY_SRC (R211): ATTACHWAIT_SNK has held for CC_DB, so the port enters TRY_SRC and presents Rp. -/
  | trySrc (p : Port)
  /-- DEBOUNCE_LOST (R208): A non-attaching classification holds for PD_DB in ATTACHWAIT_SRC, so the port returns to UNATTACHED_SRC without a detach. -/
  | debounceLost (p : Port)
  /-- SOF (R339): A SOF arrives on a presentation's USB 2.0 upstream segment, refreshing liveness and the context's microframe timing and TT frames. -/
  | sof (u : Up)
  /-- HIGH_SPEED_PACKET (R269): A high-speed USB 2.0 packet is repeated downstream to enabled ports, or upstream from the answering port. -/
  | highSpeedPacket (pk : HsPacket)
  /-- SET_ADDRESS (R289): The standard request SetAddress gives a hub context or function instance its device address. -/
  | setAddress (dev : PresDevice) (addr : BitVec 7)
  /-- HUB_SET_CONFIGURATION (R289): SetConfiguration on a hub context configures it. -/
  | hubSetConfiguration (dev : PresDevice) (cfg : Nat)
  /-- DEVICE_REMOTE_WAKEUP (R286): SetFeature or ClearFeature of DEVICE_REMOTE_WAKEUP sets or clears a context's remote-wake enable. -/
  | deviceRemoteWakeup (dev : PresDevice) (set : Bool)
  /-- U1_U2_ENABLE (R309): The host sets or clears U1_ENABLE or U2_ENABLE on a SuperSpeed hub context. -/
  | u1U2Enable (sc : SsCtx) (u2 : Bool) (set : Bool)
  /-- LGO_U3 (R339): The host puts a presentation's SuperSpeed upstream link in U3, suspending its hub contexts. -/
  | lgoU3 (u : Up)
  /-- UPSTREAM_EXIT_LFPS (R311): The host drives exit LFPS on a suspended upstream link, which returns the link to U0. -/
  | upstreamExitLfps (at_ : ExitAt)
  deriving DecidableEq, Repr

end Sys2Proof
end

