-- ==== Sys2Proof/Config.lean ====
section
/-! DEFINITION. The values the spec leaves open: opaque constants, so that no proof can see what they are. -/

namespace Sys2Proof

/-- The byte the DRAM holds at an address where the spec guarantees no contents: after power-on and after a core global
reset (R17 'DRAM contents are not guaranteed'). The first argument is the epoch `Dram.epoch` counts. DESIGN CHOICE, log 12.
DESIGN CHOICE, log 13. -/
opaque Config.freeDram : Nat → Nat → Byte

/-- The 8-byte words of cells that lie in the 16 KiB pattern area of their rank (R414): the spec does not say where it lies. DESIGN
CHOICE, log 13. -/
opaque Config.patternWord : Nat → Bool

/-- The data words a bit error leaves, and every other value the spec calls undefined after an effect it describes: the
argument is the counter `State.freeCount`, read and advanced at each use. DESIGN CHOICE, log 9. -/
opaque Config.freeWord : Nat → Word

/-- The exit latencies from U1 and U2 that the SuperSpeed capability names (R6); the spec states neither. DESIGN CHOICE, log 61. -/
opaque Config.exitLatency : BitVec 32

/-- The size, in VSET codes, of the one trim step that each ADC sample applies (R194 gives no size). DESIGN CHOICE, log 14. -/
opaque Config.trimStep : Nat

end Sys2Proof
end

