-- ==== Sys2Proof/Machine/Regs.lean ====
section
/-! DEFINITION. The register map: page bases (R460), every block register of the register chapters with the access
type, the live-change class and the reset value of each field, and one named constant per field. -/

namespace Sys2Proof

/-- Access types of R56. -/
inductive Access where
  | rw | ro | w1c | w1s | rc | wo | rwg | cnt | cmd
  deriving DecidableEq, Repr

/-- Live-change classes of R58. -/
inductive Live where
  | ls | la | lr | none
  deriving DecidableEq, Repr

/-- One field of a register's field map. -/
structure FieldDesc where
  lo : Nat
  width : Nat
  ty : Access
  live : Live
  reset : Nat
  deriving DecidableEq, Repr

/-- One row of a page's register table: `count` registers `stride` bytes apart, from offset `off`. -/
structure RegDesc where
  off : Nat
  count : Nat
  stride : Nat
  fields : List FieldDesc
  deriving DecidableEq, Repr

/-- A named field: byte offset of its register in the page, low bit and width. -/
structure Fld where
  off : Nat
  lo : Nat
  width : Nat
  deriving DecidableEq, Repr

/-- Byte offset of the SSP, VBS and other pages inside one port's 32 KiB (R460). -/
def portBase (p : Port) (page : Nat) : Nat := 0x100000 + 0x8000 * p.val + 0x1000 * page

/-- The port number of full port `f`: the first four ports of each plate are the full ports. -/
def fullPort (f : Full) : Port := ⟨16 * (f.val / 4) + f.val % 4, by omega⟩

/-- Page bases (R460). -/
def PageId.base : PageId → Nat
  | .glb => 0x0000
  | .clk => 0x1000
  | .mgt => 0x2000
  | .evq => 0x3000
  | .cfg => 0x4000
  | .pwe => 0x5000
  | .bgt => 0x6000
  | .hlt => 0x7000
  | .cpt => 0x8000
  | .u2h k => 0x40000 + 0x4000 * k.val
  | .ssh k => 0x41000 + 0x4000 * k.val
  | .prs => 0x60000
  | .mgf => 0x68000
  | .epm => 0x69000
  | .grv => 0x70000
  | .drc => 0x78000
  | .ups u => 0x80000 + 0x8000 * u.val
  | .tcp p => portBase p 0
  | .vbs p => portBase p 1
  | .u2p p => portBase p 2
  | .ssp f => portBase (fullPort f) 3
  | .con p => portBase p 4
  | .lhe p => portBase p 5
  | .win i => 0x300000 + 0x1000 * i.val

/-- `PAGE_ID.TYPE` (R50). -/
def PageId.typeCode : PageId → Nat
  | .glb => 0x01 | .clk => 0x02 | .mgt => 0x03 | .evq => 0x04 | .cfg => 0x05 | .pwe => 0x06 | .bgt => 0x07
  | .hlt => 0x08 | .cpt => 0x09 | .u2h _ => 0x10 | .ssh _ => 0x11 | .prs => 0x18 | .mgf => 0x19 | .epm => 0x1A
  | .grv => 0x20 | .drc => 0x21 | .ups _ => 0x28 | .tcp _ => 0x30 | .vbs _ => 0x31 | .u2p _ => 0x32
  | .ssp _ => 0x33 | .con _ => 0x34 | .lhe _ => 0x35 | .win _ => 0

/-- `PAGE_ID.INSTANCE` (R50). -/
def PageId.inst : PageId → Nat
  | .u2h k => k.val | .ssh k => k.val | .ups u => u.val
  | .tcp p => p.val | .vbs p => p.val | .u2p p => p.val | .ssp f => (fullPort f).val | .con p => p.val
  | .lhe p => p.val | _ => 0

/-- The page that occupies a byte address, if any (R460, R48). -/
def pageAt (addr : Nat) : Option PageId :=
  let pn := addr / 0x1000
  if pn < 9 then
    match pn with
    | 0 => some .glb | 1 => some .clk | 2 => some .mgt | 3 => some .evq | 4 => some .cfg | 5 => some .pwe
    | 6 => some .bgt | 7 => some .hlt | _ => some .cpt
  else if h : 0x40 ≤ pn ∧ pn < 0x50 then
    let k : Plate := ⟨(pn - 0x40) / 4, by omega⟩
    if (pn - 0x40) % 4 = 0 then some (.u2h k) else if (pn - 0x40) % 4 = 1 then some (.ssh k) else none
  else if pn = 0x60 then some .prs
  else if pn = 0x68 then some .mgf
  else if pn = 0x69 then some .epm
  else if pn = 0x70 then some .grv
  else if pn = 0x78 then some .drc
  else if pn = 0x80 then some (.ups 0)
  else if pn = 0x88 then some (.ups 1)
  else if h : 0x100 ≤ pn ∧ pn < 0x300 then
    let n := (pn - 0x100) / 8
    have hn : n < 64 := by omega
    let p : Port := ⟨n, hn⟩
    match (pn - 0x100) % 8 with
    | 0 => some (.tcp p)
    | 1 => some (.vbs p)
    | 2 => some (.u2p p)
    | 3 => if n % 16 < 4 then some (.ssp ⟨n / 16 * 4 + n % 4, by omega⟩) else none
    | 4 => some (.con p)
    | 5 => some (.lhe p)
    | _ => none
  else if h : 0x300 ≤ pn ∧ pn < 0x308 then some (.win ⟨pn - 0x300, by omega⟩)
  else none

/-! ### Named fields -/

/-- `PAGE_CTRL.EN` (R50). -/
def F.PAGE_CTRL_EN : Fld := ⟨0x4, 0, 1⟩
/-- `PAGE_CTRL.BLK_RST` (R50). -/
def F.PAGE_CTRL_BLK_RST : Fld := ⟨0x4, 1, 1⟩
/-- `PAGE_STATUS.READY` (R50). -/
def F.PAGE_STATUS_READY : Fld := ⟨0x8, 0, 1⟩
/-- `PAGE_STATUS.DISABLED` (R50). -/
def F.PAGE_STATUS_DISABLED : Fld := ⟨0x8, 1, 1⟩
/-- `PAGE_STATUS.RESTARTING` (R50). -/
def F.PAGE_STATUS_RESTARTING : Fld := ⟨0x8, 2, 1⟩
/-- `INT_STATUS` bit `n` (R50). -/
def F.INT_STATUS (n : Nat) : Fld := ⟨0xC, n, 1⟩
/-- `INT_ENABLE` bit `n` (R50). -/
def F.INT_ENABLE (n : Nat) : Fld := ⟨0x10, n, 1⟩
/-- `FAULT` bit `n` (R50). -/
def F.FAULT (n : Nat) : Fld := ⟨0x14, n, 1⟩
/-- `PARITY_ADDR` (R50). -/
def F.PARITY_ADDR_OFFSET : Fld := ⟨0x18, 0, 12⟩
/-- `PARITY_ADDR.LANES` (R50). -/
def F.PARITY_ADDR_LANES : Fld := ⟨0x18, 12, 4⟩
/-- `PARITY_ADDR.MULTI` (R50). -/
def F.PARITY_ADDR_MULTI : Fld := ⟨0x18, 31, 1⟩

-- CLK page
/-- `CLK_ROOT_STATUS.REF_PRESENT` (01, R23). -/
def F.CLK_ROOT_STATUS_REF_PRESENT : Fld := ⟨0x40, 0, 1⟩
/-- `CLK_ROOT_STATUS.ROOT_LOCKED` (01, R23). -/
def F.CLK_ROOT_STATUS_ROOT_LOCKED : Fld := ⟨0x40, 1, 1⟩
/-- `CLK_ROOT_STATUS.LANE_U0_LOCKED` (01, R23). -/
def F.CLK_ROOT_STATUS_LANE_U0_LOCKED : Fld := ⟨0x40, 2, 1⟩
/-- `CLK_ROOT_STATUS.LANE_U1_LOCKED` (01, R23). -/
def F.CLK_ROOT_STATUS_LANE_U1_LOCKED : Fld := ⟨0x40, 3, 1⟩
/-- `CLK_ROOT_STATUS.LANE_PLATE_LOCKED` (01, R23). -/
def F.CLK_ROOT_STATUS_LANE_PLATE_LOCKED : Fld := ⟨0x40, 4, 4⟩
/-- `CLK_ROOT_STATUS.LANE_UNLOCK_CNT` (01, R23). -/
def F.CLK_ROOT_STATUS_LANE_UNLOCK_CNT : Fld := ⟨0x40, 16, 16⟩
/-- `CLK_GATE.DCLK_RUN` (01, R23). -/
def F.CLK_GATE_DCLK_RUN : Fld := ⟨0x44, 0, 1⟩
/-- `CLK_GATE.GCLK_RUN` (01, R23). -/
def F.CLK_GATE_GCLK_RUN : Fld := ⟨0x44, 1, 1⟩
/-- `CLK_GATE.FCLK_PLATE_RUN` (01, R23). -/
def F.CLK_GATE_FCLK_PLATE_RUN : Fld := ⟨0x44, 2, 4⟩
/-- `CLK_RESET.PLATE_RST` (01, R23). -/
def F.CLK_RESET_PLATE_RST : Fld := ⟨0x4C, 0, 4⟩
/-- `CLK_RESET.GRAVER_RST` (01, R23). -/
def F.CLK_RESET_GRAVER_RST : Fld := ⟨0x4C, 4, 1⟩
/-- `CLK_RESET.DRC_RST` (01, R23). -/
def F.CLK_RESET_DRC_RST : Fld := ⟨0x4C, 5, 1⟩
/-- `CLK_RESET.MGT_RST` (01, R23). -/
def F.CLK_RESET_MGT_RST : Fld := ⟨0x4C, 6, 1⟩
/-- `CLK_RESET.CORE_RST` (01, R23). -/
def F.CLK_RESET_CORE_RST : Fld := ⟨0x4C, 7, 1⟩
/-- `CLK_PORT_RST.PORT_RST` (01, R23). -/
def F.CLK_PORT_RST_PORT_RST (n : Nat) : Fld := ⟨0x54 + 4 * n, 0, 32⟩
/-- `CLK_RESET_STATUS.PLATE_IN_RST` (01, R23). -/
def F.CLK_RESET_STATUS_PLATE_IN_RST : Fld := ⟨0x5C, 0, 4⟩
/-- `CLK_RESET_STATUS.GRAVER_IN_RST` (01, R23). -/
def F.CLK_RESET_STATUS_GRAVER_IN_RST : Fld := ⟨0x5C, 4, 1⟩
/-- `CLK_RESET_STATUS.DRC_IN_RST` (01, R23). -/
def F.CLK_RESET_STATUS_DRC_IN_RST : Fld := ⟨0x5C, 5, 1⟩
/-- `CLK_RESET_STATUS.MGT_IN_RST` (01, R23). -/
def F.CLK_RESET_STATUS_MGT_IN_RST : Fld := ⟨0x5C, 6, 1⟩
/-- `CLK_RESET_STATUS.LAST_CORE_CAUSE` (01, R23). -/
def F.CLK_RESET_STATUS_LAST_CORE_CAUSE : Fld := ⟨0x5C, 8, 3⟩
/-- `CLK_PORT_IN_RST.PORT_IN_RST` (01, R23). -/
def F.CLK_PORT_IN_RST_PORT_IN_RST (n : Nat) : Fld := ⟨0x60 + 4 * n, 0, 32⟩

-- GLB page
/-- `GLB_ID.ID` (19, R461). -/
def F.GLB_ID_ID : Fld := ⟨0x40, 0, 32⟩
/-- `GLB_UPTIME_LO.NS_LO` (19, R461). -/
def F.GLB_UPTIME_LO_NS_LO : Fld := ⟨0x48, 0, 32⟩
/-- `GLB_UPTIME_HI.NS_HI` (19, R461). -/
def F.GLB_UPTIME_HI_NS_HI : Fld := ⟨0x4C, 0, 32⟩
/-- `GLB_STRAPS.CHIPID` (06, R154). -/
def F.GLB_STRAPS_CHIPID : Fld := ⟨0x60, 0, 4⟩
/-- `GLB_STRAPS.COMPAT` (06, R154). -/
def F.GLB_STRAPS_COMPAT : Fld := ⟨0x60, 4, 1⟩
/-- `GLB_STRAPS.CFG_BYPASS` (06, R154). -/
def F.GLB_STRAPS_CFG_BYPASS : Fld := ⟨0x60, 5, 1⟩
/-- `GLB_STRAPS.DRAM` (06, R154). -/
def F.GLB_STRAPS_DRAM : Fld := ⟨0x60, 6, 2⟩
/-- `GLB_STRAPS.RING_EN` (06, R154). -/
def F.GLB_STRAPS_RING_EN : Fld := ⟨0x60, 8, 1⟩
/-- `GLB_STRAPS.FEED_PREF` (06, R154). -/
def F.GLB_STRAPS_FEED_PREF : Fld := ⟨0x60, 9, 1⟩
/-- `GLB_READY.CORE` (06, R154). -/
def F.GLB_READY_CORE : Fld := ⟨0x64, 0, 1⟩
/-- `GLB_READY.CFG_LOADED` (06, R154). -/
def F.GLB_READY_CFG_LOADED : Fld := ⟨0x64, 1, 1⟩
/-- `GLB_READY.MGT_READY` (06, R154). -/
def F.GLB_READY_MGT_READY : Fld := ⟨0x64, 2, 1⟩
/-- `GLB_READY.RING_UP` (06, R154). -/
def F.GLB_READY_RING_UP : Fld := ⟨0x64, 3, 1⟩
/-- `GLB_READY.DRAM_READY` (06, R154). -/
def F.GLB_READY_DRAM_READY : Fld := ⟨0x64, 4, 1⟩
/-- `GLB_READY.DRAM_ABSENT` (06, R154). -/
def F.GLB_READY_DRAM_ABSENT : Fld := ⟨0x64, 5, 1⟩
/-- `GLB_READY.PLATE_CAL` (06, R154). -/
def F.GLB_READY_PLATE_CAL : Fld := ⟨0x64, 6, 4⟩
/-- `GLB_READY.UP_CAL` (06, R154). -/
def F.GLB_READY_UP_CAL : Fld := ⟨0x64, 10, 1⟩
/-- `GLB_READY.PRES_ATTACHED` (06, R154). -/
def F.GLB_READY_PRES_ATTACHED : Fld := ⟨0x64, 11, 2⟩
/-- `GLB_READY.PACING_DONE` (06, R154). -/
def F.GLB_READY_PACING_DONE : Fld := ⟨0x64, 13, 1⟩
/-- `GLB_MODE.COMPAT` (06, R154). -/
def F.GLB_MODE_COMPAT : Fld := ⟨0x68, 0, 1⟩
/-- `GLB_MODE.SOURCE` (06, R154). -/
def F.GLB_MODE_SOURCE : Fld := ⟨0x68, 1, 2⟩
/-- `GLB_MODE.STORED_COMPAT` (06, R154). -/
def F.GLB_MODE_STORED_COMPAT : Fld := ⟨0x68, 3, 1⟩
/-- `GLB_SEMn_CLAIM.GOT` (04, R91). -/
def F.GLB_SEMn_CLAIM_GOT (n : Nat) : Fld := ⟨0x100 + 16 * n, 0, 1⟩
/-- `GLB_SEMn_REL.REL` (04, R91). -/
def F.GLB_SEMn_REL_REL (n : Nat) : Fld := ⟨0x104 + 16 * n, 0, 32⟩
/-- `GLB_SEMn_OWNER.HELD` (04, R91). -/
def F.GLB_SEMn_OWNER_HELD (n : Nat) : Fld := ⟨0x108 + 16 * n, 0, 1⟩
/-- `GLB_SEMn_OWNER.OWNER_ID` (04, R91). -/
def F.GLB_SEMn_OWNER_OWNER_ID (n : Nat) : Fld := ⟨0x108 + 16 * n, 1, 2⟩
/-- `GLB_SEMn_OWNER.ORIGIN` (04, R91). -/
def F.GLB_SEMn_OWNER_ORIGIN (n : Nat) : Fld := ⟨0x108 + 16 * n, 4, 4⟩
/-- `GLB_SEM_FORCE.FORCE` (04, R91). -/
def F.GLB_SEM_FORCE_FORCE : Fld := ⟨0x300, 0, 32⟩
/-- `GLB_SEM_HELD.HELD` (04, R91). -/
def F.GLB_SEM_HELD_HELD : Fld := ⟨0x308, 0, 32⟩

-- MGT page
/-- `MGT_CHIP.CHIP_ID` (04, R107). -/
def F.MGT_CHIP_CHIP_ID : Fld := ⟨0x40, 0, 4⟩
/-- `MGT_CHIP.RING_EN` (04, R107). -/
def F.MGT_CHIP_RING_EN : Fld := ⟨0x40, 4, 1⟩
/-- `MGT_HOST_GRANT.H0_WR` (04, R107). -/
def F.MGT_HOST_GRANT_H0_WR : Fld := ⟨0x44, 0, 1⟩
/-- `MGT_HOST_GRANT.H1_WR` (04, R107). -/
def F.MGT_HOST_GRANT_H1_WR : Fld := ⟨0x44, 1, 1⟩
/-- `MGT_INT_CFG.MIN_PRI_A` (04, R107). -/
def F.MGT_INT_CFG_MIN_PRI_A : Fld := ⟨0x4C, 0, 3⟩
/-- `MGT_INT_CFG.MASK_A` (04, R107). -/
def F.MGT_INT_CFG_MASK_A : Fld := ⟨0x4C, 3, 1⟩
/-- `MGT_INT_CFG.MIN_PRI_B` (04, R107). -/
def F.MGT_INT_CFG_MIN_PRI_B : Fld := ⟨0x4C, 4, 3⟩
/-- `MGT_INT_CFG.MASK_B` (04, R107). -/
def F.MGT_INT_CFG_MASK_B : Fld := ⟨0x4C, 7, 1⟩
/-- `MGT_INT_CFG.ATTN_A_CHIP` (04, R107). -/
def F.MGT_INT_CFG_ATTN_A_CHIP : Fld := ⟨0x4C, 8, 4⟩
/-- `MGT_INT_CFG.ATTN_A_REMOTE` (04, R107). -/
def F.MGT_INT_CFG_ATTN_A_REMOTE : Fld := ⟨0x4C, 12, 1⟩
/-- `MGT_INT_CFG.ATTN_B_CHIP` (04, R107). -/
def F.MGT_INT_CFG_ATTN_B_CHIP : Fld := ⟨0x4C, 16, 4⟩
/-- `MGT_INT_CFG.ATTN_B_REMOTE` (04, R107). -/
def F.MGT_INT_CFG_ATTN_B_REMOTE : Fld := ⟨0x4C, 20, 1⟩
/-- `MGT_LEG_CFG.SPEED` (04, R107). -/
def F.MGT_LEG_CFG_SPEED : Fld := ⟨0x50, 0, 2⟩
/-- `MGT_LEG_CFG.EN` (04, R107). -/
def F.MGT_LEG_CFG_EN : Fld := ⟨0x50, 2, 1⟩
/-- `MGT_LEG_STATUS.CONFLICT` (04, R107). -/
def F.MGT_LEG_STATUS_CONFLICT : Fld := ⟨0x5C, 0, 1⟩
/-- `MGT_LEG_STATUS.TIMEOUT_CNT` (04, R107). -/
def F.MGT_LEG_STATUS_TIMEOUT_CNT : Fld := ⟨0x5C, 8, 8⟩
/-- `MGT_RING_CFG.RETRY_TIME` (04, R107). -/
def F.MGT_RING_CFG_RETRY_TIME : Fld := ⟨0x60, 0, 8⟩
/-- `MGT_RING_CFG.RETRIES` (04, R107). -/
def F.MGT_RING_CFG_RETRIES : Fld := ⟨0x60, 8, 2⟩
/-- `MGT_RING_CFG.SEM_ORPHAN` (04, R107). -/
def F.MGT_RING_CFG_SEM_ORPHAN : Fld := ⟨0x60, 16, 8⟩
/-- `MGT_RING_STATUS.LINK0_UP` (04, R107). -/
def F.MGT_RING_STATUS_LINK0_UP : Fld := ⟨0x64, 0, 1⟩
/-- `MGT_RING_STATUS.LINK1_UP` (04, R107). -/
def F.MGT_RING_STATUS_LINK1_UP : Fld := ⟨0x64, 1, 1⟩
/-- `MGT_RING_STATUS.CLOSED` (04, R107). -/
def F.MGT_RING_STATUS_CLOSED : Fld := ⟨0x64, 2, 1⟩
/-- `MGT_RING_STATUS.DUP_ID` (04, R107). -/
def F.MGT_RING_STATUS_DUP_ID : Fld := ⟨0x64, 3, 1⟩
/-- `MGT_RING_STATUS.MISWIRE0` (04, R107). -/
def F.MGT_RING_STATUS_MISWIRE0 : Fld := ⟨0x64, 4, 1⟩
/-- `MGT_RING_STATUS.MISWIRE1` (04, R107). -/
def F.MGT_RING_STATUS_MISWIRE1 : Fld := ⟨0x64, 5, 1⟩
/-- `MGT_RING_STATUS.MEMBERS` (04, R107). -/
def F.MGT_RING_STATUS_MEMBERS : Fld := ⟨0x64, 16, 16⟩
/-- `MGT_RING_ROUTE.ROUTE` (04, R107). -/
def F.MGT_RING_ROUTE_ROUTE : Fld := ⟨0x68, 0, 32⟩
/-- `MGT_RING_CNT.LINK_DOWN_CNT` (04, R107). -/
def F.MGT_RING_CNT_LINK_DOWN_CNT : Fld := ⟨0x6C, 0, 16⟩
/-- `MGT_RING_CNT.RETRY_CNT` (04, R107). -/
def F.MGT_RING_CNT_RETRY_CNT : Fld := ⟨0x6C, 16, 16⟩
/-- `MGT_RING_ATTN.ATTN_A` (04, R107). -/
def F.MGT_RING_ATTN_ATTN_A : Fld := ⟨0x70, 0, 16⟩
/-- `MGT_RING_ATTN.ATTN_B` (04, R107). -/
def F.MGT_RING_ATTN_ATTN_B : Fld := ⟨0x70, 16, 16⟩
/-- `MGT_PORT_CNT.A_CRC_CNT` (04, R107). -/
def F.MGT_PORT_CNT_A_CRC_CNT : Fld := ⟨0x74, 0, 16⟩
/-- `MGT_PORT_CNT.B_CRC_CNT` (04, R107). -/
def F.MGT_PORT_CNT_B_CRC_CNT : Fld := ⟨0x74, 16, 16⟩
/-- `MGT_ERRn.GUARD` (04, R107). -/
def F.MGT_ERRn_GUARD (n : Nat) : Fld := ⟨0x80 + 4 * n, 0, 1⟩
/-- `MGT_ERRn.ABORT` (04, R107). -/
def F.MGT_ERRn_ABORT (n : Nat) : Fld := ⟨0x80 + 4 * n, 1, 1⟩
/-- `MGT_ERRn.ABORT_LATE` (04, R107). -/
def F.MGT_ERRn_ABORT_LATE (n : Nat) : Fld := ⟨0x80 + 4 * n, 2, 1⟩
/-- `MGT_ERRn.CRC` (04, R107). -/
def F.MGT_ERRn_CRC (n : Nat) : Fld := ⟨0x80 + 4 * n, 3, 1⟩
/-- `MGT_ERRn.SEM` (04, R107). -/
def F.MGT_ERRn_SEM (n : Nat) : Fld := ⟨0x80 + 4 * n, 4, 1⟩
/-- `MGT_ERRn.DENIED` (04, R107). -/
def F.MGT_ERRn_DENIED (n : Nat) : Fld := ⟨0x80 + 4 * n, 5, 1⟩
/-- `MGT_ERRn.FRAME` (04, R107). -/
def F.MGT_ERRn_FRAME (n : Nat) : Fld := ⟨0x80 + 4 * n, 6, 1⟩
/-- `MGT_ERRn.RING` (04, R107). -/
def F.MGT_ERRn_RING (n : Nat) : Fld := ⟨0x80 + 4 * n, 7, 1⟩
/-- `MGT_ERRn.ORIGIN` (04, R107). -/
def F.MGT_ERRn_ORIGIN (n : Nat) : Fld := ⟨0x80 + 4 * n, 16, 4⟩
/-- `MGT_LEG_ADDR_LO/HI.ADDRi` (R107). -/
def F.MGT_LEG_ADDR_ADDR (i : Nat) : Fld := ⟨0x54 + 4 * (i / 4), 8 * (i % 4), 7⟩
/-- `MGT_LEG_ADDR_LO/HI.AENi` (R107). -/
def F.MGT_LEG_ADDR_AEN (i : Nat) : Fld := ⟨0x54 + 4 * (i / 4), 8 * (i % 4) + 7, 1⟩

-- EVQ page
/-- `EVQ_POPn.W0` (05, R129). -/
def F.EVQ_POPn_W0 (n : Nat) : Fld := ⟨0x40 + 64 * n, 0, 32⟩
/-- `EVQ_POPn_W1.W1` (05, R129). -/
def F.EVQ_POPn_W1_W1 (n : Nat) : Fld := ⟨0x44 + 64 * n, 0, 32⟩
/-- `EVQ_POPn_W2.W2` (05, R129). -/
def F.EVQ_POPn_W2_W2 (n : Nat) : Fld := ⟨0x48 + 64 * n, 0, 32⟩
/-- `EVQ_POPn_W3.W3` (05, R129). -/
def F.EVQ_POPn_W3_W3 (n : Nat) : Fld := ⟨0x4C + 64 * n, 0, 32⟩
/-- `EVQ_PEEKn.W0` (05, R129). -/
def F.EVQ_PEEKn_W0 (n : Nat) : Fld := ⟨0x50 + 64 * n, 0, 32⟩
/-- `EVQ_PEEKn_W1.W1` (05, R129). -/
def F.EVQ_PEEKn_W1_W1 (n : Nat) : Fld := ⟨0x54 + 64 * n, 0, 32⟩
/-- `EVQ_PEEKn_W2.W2` (05, R129). -/
def F.EVQ_PEEKn_W2_W2 (n : Nat) : Fld := ⟨0x58 + 64 * n, 0, 32⟩
/-- `EVQ_PEEKn_W3.W3` (05, R129). -/
def F.EVQ_PEEKn_W3_W3 (n : Nat) : Fld := ⟨0x5C + 64 * n, 0, 32⟩
/-- `EVQ_CFGn.WMARK` (05, R129). -/
def F.EVQ_CFGn_WMARK (n : Nat) : Fld := ⟨0x60 + 64 * n, 0, 7⟩
/-- `EVQ_CFGn.MIN_PRI` (05, R129). -/
def F.EVQ_CFGn_MIN_PRI (n : Nat) : Fld := ⟨0x60 + 64 * n, 8, 3⟩
/-- `EVQ_CFGn.OWN_ONLY` (05, R129). -/
def F.EVQ_CFGn_OWN_ONLY (n : Nat) : Fld := ⟨0x60 + 64 * n, 16, 1⟩
/-- `EVQ_ROUTEn.CLASS_EN` (05, R129). -/
def F.EVQ_ROUTEn_CLASS_EN (n : Nat) : Fld := ⟨0x64 + 64 * n, 1, 9⟩
/-- `EVQ_ROUTEn.COMPAT_EN` (05, R129). -/
def F.EVQ_ROUTEn_COMPAT_EN (n : Nat) : Fld := ⟨0x64 + 64 * n, 15, 1⟩
/-- `EVQ_STATUSn.NONEMPTY` (05, R129). -/
def F.EVQ_STATUSn_NONEMPTY (n : Nat) : Fld := ⟨0x68 + 64 * n, 0, 8⟩
/-- `EVQ_STATUSn.LOSING` (05, R129). -/
def F.EVQ_STATUSn_LOSING (n : Nat) : Fld := ⟨0x68 + 64 * n, 8, 8⟩
/-- `EVQ_STATUSn.DEPTH` (05, R129). -/
def F.EVQ_STATUSn_DEPTH (n : Nat) : Fld := ⟨0x68 + 64 * n, 16, 10⟩
/-- `EVQ_WMn.WM` (05, R129). -/
def F.EVQ_WMn_WM (n : Nat) : Fld := ⟨0x6C + 64 * n, 0, 8⟩
/-- `EVQ_LOSTn.LOST` (05, R129). -/
def F.EVQ_LOSTn_LOST (n : Nat) : Fld := ⟨0x70 + 64 * n, 0, 32⟩
/-- `EVQ_PEAKn.PEAK` (05, R129). -/
def F.EVQ_PEAKn_PEAK (n : Nat) : Fld := ⟨0x74 + 64 * n, 0, 10⟩
/-- `EVQ_CTRLn.FLUSH` (05, R129). -/
def F.EVQ_CTRLn_FLUSH (n : Nat) : Fld := ⟨0x78 + 64 * n, 0, 1⟩

-- CFG page
/-- `CFG_STATUS.BUSY` (06, R155). -/
def F.CFG_STATUS_BUSY : Fld := ⟨0x40, 0, 1⟩
/-- `CFG_STATUS.ACTIVE_VALID` (06, R155). -/
def F.CFG_STATUS_ACTIVE_VALID : Fld := ⟨0x40, 1, 1⟩
/-- `CFG_STATUS.ACTIVE_BANK` (06, R155). -/
def F.CFG_STATUS_ACTIVE_BANK : Fld := ⟨0x40, 2, 1⟩
/-- `CFG_STATUS.BANK0_VALID` (06, R155). -/
def F.CFG_STATUS_BANK0_VALID : Fld := ⟨0x40, 3, 1⟩
/-- `CFG_STATUS.BANK1_VALID` (06, R155). -/
def F.CFG_STATUS_BANK1_VALID : Fld := ⟨0x40, 4, 1⟩
/-- `CFG_STATUS.LOAD_RESULT` (06, R155). -/
def F.CFG_STATUS_LOAD_RESULT : Fld := ⟨0x40, 5, 3⟩
/-- `CFG_STATUS.LAST_RESULT` (06, R155). -/
def F.CFG_STATUS_LAST_RESULT : Fld := ⟨0x40, 8, 8⟩
/-- `CFG_ACTIVE_SEQ.SEQ` (06, R155). -/
def F.CFG_ACTIVE_SEQ_SEQ : Fld := ⟨0x44, 0, 32⟩
/-- `CFG_BANK_SEQ.SEQ` (06, R155). -/
def F.CFG_BANK_SEQ_SEQ (n : Nat) : Fld := ⟨0x48 + 4 * n, 0, 32⟩
/-- `CFG_BANK_WEAR.WEAR` (06, R155). -/
def F.CFG_BANK_WEAR_WEAR (n : Nat) : Fld := ⟨0x50 + 4 * n, 0, 32⟩
/-- `CFG_LOAD_STATUS.SKIPPED_ENTRIES` (06, R155). -/
def F.CFG_LOAD_STATUS_SKIPPED_ENTRIES : Fld := ⟨0x58, 0, 16⟩
/-- `CFG_LOAD_STATUS.SKIPPED_SECTIONS` (06, R155). -/
def F.CFG_LOAD_STATUS_SKIPPED_SECTIONS : Fld := ⟨0x58, 16, 16⟩
/-- `CFG_CTRL.COMMIT` (06, R155). -/
def F.CFG_CTRL_COMMIT : Fld := ⟨0x5C, 0, 1⟩
/-- `CFG_CTRL.FETCH_ACTIVE` (06, R155). -/
def F.CFG_CTRL_FETCH_ACTIVE : Fld := ⟨0x5C, 1, 1⟩
/-- `CFG_CTRL.FETCH_OTHER` (06, R155). -/
def F.CFG_CTRL_FETCH_OTHER : Fld := ⟨0x5C, 2, 1⟩
/-- `CFG_STAGE_PTR.PTR` (06, R155). -/
def F.CFG_STAGE_PTR_PTR : Fld := ⟨0x60, 2, 15⟩
/-- `CFG_STAGE_WDATA.DATA` (06, R155). -/
def F.CFG_STAGE_WDATA_DATA : Fld := ⟨0x64, 0, 32⟩
/-- `CFG_STAGE_RDATA.DATA` (06, R155). -/
def F.CFG_STAGE_RDATA_DATA : Fld := ⟨0x68, 0, 32⟩

-- PWE page
/-- `PWE_CFG.SLEW` (07, R179). -/
def F.PWE_CFG_SLEW : Fld := ⟨0x40, 0, 8⟩
/-- `PWE_CFG.PLIM` (07, R179). -/
def F.PWE_CFG_PLIM : Fld := ⟨0x40, 8, 8⟩
/-- `PWE_CFG.FAULT_TIME` (07, R179). -/
def F.PWE_CFG_FAULT_TIME : Fld := ⟨0x40, 16, 5⟩
/-- `PWE_CFG.SEAT_DB` (07, R179). -/
def F.PWE_CFG_SEAT_DB : Fld := ⟨0x40, 24, 5⟩
/-- `PWE_TRIP_CFG.INTERVAL` (07, R179). -/
def F.PWE_TRIP_CFG_INTERVAL : Fld := ⟨0x48, 0, 6⟩
/-- `PWE_TRIP_CFG.RETRIES` (07, R179). -/
def F.PWE_TRIP_CFG_RETRIES : Fld := ⟨0x48, 8, 4⟩
/-- `PWE_TRIP_CFG.RAMP_MAX` (07, R179). -/
def F.PWE_TRIP_CFG_RAMP_MAX : Fld := ⟨0x48, 16, 6⟩
/-- `PWE_FEED_CFG.BBM_GAP` (07, R179). -/
def F.PWE_FEED_CFG_BBM_GAP : Fld := ⟨0x50, 0, 6⟩
/-- `PWE_FEED_CFG.RETURN_EN` (07, R179). -/
def F.PWE_FEED_CFG_RETURN_EN : Fld := ⟨0x50, 8, 1⟩
/-- `PWE_FEED_CFG.PREF_OVR` (07, R179). -/
def F.PWE_FEED_CFG_PREF_OVR : Fld := ⟨0x50, 9, 1⟩
/-- `PWE_FEED_CFG.PREF` (07, R179). -/
def F.PWE_FEED_CFG_PREF : Fld := ⟨0x50, 10, 1⟩
/-- `PWE_ILIM.ILIM_FRAC` (07, R179). -/
def F.PWE_ILIM_ILIM_FRAC : Fld := ⟨0x58, 0, 8⟩
/-- `PWE_STATUS.STATE` (07, R179). -/
def F.PWE_STATUS_STATE : Fld := ⟨0x60, 0, 3⟩
/-- `PWE_STATUS.FEED_SEL` (07, R179). -/
def F.PWE_STATUS_FEED_SEL : Fld := ⟨0x60, 3, 2⟩
/-- `PWE_STATUS.LIMITING` (07, R179). -/
def F.PWE_STATUS_LIMITING : Fld := ⟨0x60, 5, 1⟩
/-- `PWE_STATUS.SEATED` (07, R179). -/
def F.PWE_STATUS_SEATED : Fld := ⟨0x60, 6, 1⟩
/-- `PWE_STATUS.PREF_EFF` (07, R179). -/
def F.PWE_STATUS_PREF_EFF : Fld := ⟨0x60, 7, 1⟩
/-- `PWE_STATUS.CONSEC` (07, R179). -/
def F.PWE_STATUS_CONSEC : Fld := ⟨0x60, 8, 4⟩
/-- `PWE_STATUS.LAST_CAUSE` (07, R179). -/
def F.PWE_STATUS_LAST_CAUSE : Fld := ⟨0x60, 12, 3⟩
/-- `PWE_STATUS.START_CAUSE` (07, R179). -/
def F.PWE_STATUS_START_CAUSE : Fld := ⟨0x60, 15, 3⟩
/-- `PWE_FEED.FEEDA_V` (07, R179). -/
def F.PWE_FEED_FEEDA_V : Fld := ⟨0x64, 0, 10⟩
/-- `PWE_FEED.A_GOOD` (07, R179). -/
def F.PWE_FEED_A_GOOD : Fld := ⟨0x64, 10, 1⟩
/-- `PWE_FEED.FEEDB_V` (07, R179). -/
def F.PWE_FEED_FEEDB_V : Fld := ⟨0x64, 16, 10⟩
/-- `PWE_FEED.B_GOOD` (07, R179). -/
def F.PWE_FEED_B_GOOD : Fld := ⟨0x64, 26, 1⟩
/-- `PWE_LOAD.VOUT` (07, R179). -/
def F.PWE_LOAD_VOUT : Fld := ⟨0x68, 0, 10⟩
/-- `PWE_LOAD.ISNS_UV` (07, R179). -/
def F.PWE_LOAD_ISNS_UV : Fld := ⟨0x68, 16, 16⟩
/-- `PWE_CEIL.CEIL_UV` (07, R179). -/
def F.PWE_CEIL_CEIL_UV : Fld := ⟨0x6C, 0, 16⟩
/-- `PWE_CEIL.ILIM_OPEN` (07, R179). -/
def F.PWE_CEIL_ILIM_OPEN : Fld := ⟨0x6C, 16, 1⟩
/-- `PWE_CEIL.ILIM_SHORT` (07, R179). -/
def F.PWE_CEIL_ILIM_SHORT : Fld := ⟨0x6C, 17, 1⟩
/-- `PWE_CNT.TRIPS` (07, R179). -/
def F.PWE_CNT_TRIPS : Fld := ⟨0x70, 0, 8⟩
/-- `PWE_CNT.SWITCHES` (07, R179). -/
def F.PWE_CNT_SWITCHES : Fld := ⟨0x70, 8, 8⟩
/-- `PWE_CNT.SEAT_LOSS` (07, R179). -/
def F.PWE_CNT_SEAT_LOSS : Fld := ⟨0x70, 16, 8⟩
/-- `PWE_CNT.RETRIES_RUN` (07, R179). -/
def F.PWE_CNT_RETRIES_RUN : Fld := ⟨0x70, 24, 8⟩

-- BGT page
/-- `BGT_POOL_DUAL.POOL` (08, R200). -/
def F.BGT_POOL_DUAL_POOL : Fld := ⟨0x40, 0, 17⟩
/-- `BGT_POOL_SINGLE.POOL` (08, R200). -/
def F.BGT_POOL_SINGLE_POOL : Fld := ⟨0x44, 0, 17⟩
/-- `BGT_POOL_STATUS.CUR` (08, R200). -/
def F.BGT_POOL_STATUS_CUR : Fld := ⟨0x48, 0, 17⟩
/-- `BGT_POOL_STATUS.DUAL` (08, R200). -/
def F.BGT_POOL_STATUS_DUAL : Fld := ⟨0x48, 17, 1⟩
/-- `BGT_POOL_STATUS.REVOKING` (08, R200). -/
def F.BGT_POOL_STATUS_REVOKING : Fld := ⟨0x48, 18, 1⟩
/-- `BGT_CFG.PACE` (08, R200). -/
def F.BGT_CFG_PACE : Fld := ⟨0x4C, 0, 5⟩
/-- `BGT_CFG.REVOKE_TIME` (08, R200). -/
def F.BGT_CFG_REVOKE_TIME : Fld := ⟨0x4C, 8, 8⟩
/-- `BGT_CFG.GROW_DELAY` (08, R200). -/
def F.BGT_CFG_GROW_DELAY : Fld := ⟨0x4C, 16, 6⟩
/-- `BGT_DIE_CFG.ALLOW` (08, R200). -/
def F.BGT_DIE_CFG_ALLOW : Fld := ⟨0x50, 0, 12⟩
/-- `BGT_DIE_COST0.DDR` (08, R200). -/
def F.BGT_DIE_COST0_DDR : Fld := ⟨0x54, 0, 8⟩
/-- `BGT_DIE_COST0.UPCAL` (08, R200). -/
def F.BGT_DIE_COST0_UPCAL : Fld := ⟨0x54, 8, 8⟩
/-- `BGT_DIE_COST0.PLATECAL` (08, R200). -/
def F.BGT_DIE_COST0_PLATECAL : Fld := ⟨0x54, 16, 8⟩
/-- `BGT_DIE_COST0.COMMIT` (08, R200). -/
def F.BGT_DIE_COST0_COMMIT : Fld := ⟨0x54, 24, 8⟩
/-- `BGT_DIE_COST1.FANOUT` (08, R200). -/
def F.BGT_DIE_COST1_FANOUT : Fld := ⟨0x58, 0, 8⟩
/-- `BGT_DIE_COST1.VBUS_ON` (08, R200). -/
def F.BGT_DIE_COST1_VBUS_ON : Fld := ⟨0x58, 8, 8⟩
/-- `BGT_DIE_COST1.RAISE` (08, R200). -/
def F.BGT_DIE_COST1_RAISE : Fld := ⟨0x58, 16, 8⟩
/-- `BGT_DIE_STATUS.USED` (08, R200). -/
def F.BGT_DIE_STATUS_USED : Fld := ⟨0x5C, 0, 12⟩
/-- `BGT_DIE_STATUS.PENDING` (08, R200). -/
def F.BGT_DIE_STATUS_PENDING : Fld := ⟨0x5C, 16, 7⟩
/-- `BGT_CNT.DEFERS` (08, R200). -/
def F.BGT_CNT_DEFERS : Fld := ⟨0x60, 0, 16⟩
/-- `BGT_CNT.REVOKES` (08, R200). -/
def F.BGT_CNT_REVOKES : Fld := ⟨0x60, 16, 16⟩
/-- `BGT_PORTn.TARGET` (08, R200). -/
def F.BGT_PORTn_TARGET (n : Nat) : Fld := ⟨0x80 + 4 * n, 0, 12⟩
/-- `BGT_PORTn.CLASS` (08, R200). -/
def F.BGT_PORTn_CLASS (n : Nat) : Fld := ⟨0x80 + 4 * n, 12, 2⟩
/-- `BGT_GRANTn.GRANT` (08, R200). -/
def F.BGT_GRANTn_GRANT (n : Nat) : Fld := ⟨0x180 + 4 * n, 0, 12⟩
/-- `BGT_GRANTn.STATE` (08, R200). -/
def F.BGT_GRANTn_STATE (n : Nat) : Fld := ⟨0x180 + 4 * n, 12, 3⟩

-- VBS page
/-- `VBS_CTRL.FORCE_OFF` (08, R203). -/
def F.VBS_CTRL_FORCE_OFF : Fld := ⟨0x40, 0, 1⟩
/-- `VBS_TIMING.SETTLE` (08, R203). -/
def F.VBS_TIMING_SETTLE : Fld := ⟨0x44, 0, 5⟩
/-- `VBS_TIMING.CLOSE_SLEW` (08, R203). -/
def F.VBS_TIMING_CLOSE_SLEW : Fld := ⟨0x44, 8, 4⟩
/-- `VBS_TIMING.CLOSE_MAX` (08, R203). -/
def F.VBS_TIMING_CLOSE_MAX : Fld := ⟨0x44, 12, 4⟩
/-- `VBS_TIMING.VSET_SLEW` (08, R203). -/
def F.VBS_TIMING_VSET_SLEW : Fld := ⟨0x44, 16, 8⟩
/-- `VBS_TIMING.DSCH_MAX` (08, R203). -/
def F.VBS_TIMING_DSCH_MAX : Fld := ⟨0x44, 24, 8⟩
/-- `VBS_FUSE.SLOW_TIME` (08, R203). -/
def F.VBS_FUSE_SLOW_TIME : Fld := ⟨0x48, 0, 4⟩
/-- `VBS_FUSE.RETRIES` (08, R203). -/
def F.VBS_FUSE_RETRIES : Fld := ⟨0x48, 4, 4⟩
/-- `VBS_FUSE.RETRY_INT` (08, R203). -/
def F.VBS_FUSE_RETRY_INT : Fld := ⟨0x48, 8, 6⟩
/-- `VBS_FUSE.RSNS` (08, R203). -/
def F.VBS_FUSE_RSNS : Fld := ⟨0x48, 16, 8⟩
/-- `VBS_CAL.CODE_5V` (08, R203). -/
def F.VBS_CAL_CODE_5V : Fld := ⟨0x4C, 0, 16⟩
/-- `VBS_CAL.CODE_PER_V` (08, R203). -/
def F.VBS_CAL_CODE_PER_V : Fld := ⟨0x4C, 16, 16⟩
/-- `VBS_STATUS.STATE` (08, R203). -/
def F.VBS_STATUS_STATE : Fld := ⟨0x50, 0, 3⟩
/-- `VBS_STATUS.CONSEC` (08, R203). -/
def F.VBS_STATUS_CONSEC : Fld := ⟨0x50, 3, 4⟩
/-- `VBS_STATUS.LAST_CAUSE` (08, R203). -/
def F.VBS_STATUS_LAST_CAUSE : Fld := ⟨0x50, 7, 3⟩
/-- `VBS_STATUS.GATE_ON` (08, R203). -/
def F.VBS_STATUS_GATE_ON : Fld := ⟨0x50, 10, 1⟩
/-- `VBS_STATUS.DSCH_ON` (08, R203). -/
def F.VBS_STATUS_DSCH_ON : Fld := ⟨0x50, 11, 1⟩
/-- `VBS_STATUS.SAFE0V` (08, R203). -/
def F.VBS_STATUS_SAFE0V : Fld := ⟨0x50, 12, 1⟩
/-- `VBS_STATUS.TRIM_LIMIT` (08, R203). -/
def F.VBS_STATUS_TRIM_LIMIT : Fld := ⟨0x50, 13, 1⟩
/-- `VBS_MEAS.VBUS` (08, R203). -/
def F.VBS_MEAS_VBUS : Fld := ⟨0x54, 0, 12⟩
/-- `VBS_MEAS.VREG` (08, R203). -/
def F.VBS_MEAS_VREG : Fld := ⟨0x54, 16, 12⟩
/-- `VBS_IBUS.IBUS_MA` (08, R203). -/
def F.VBS_IBUS_IBUS_MA : Fld := ⟨0x58, 0, 16⟩
/-- `VBS_IBUS.REV` (08, R203). -/
def F.VBS_IBUS_REV : Fld := ⟨0x58, 16, 1⟩
/-- `VBS_TARGET.TARGET_MV` (08, R203). -/
def F.VBS_TARGET_TARGET_MV : Fld := ⟨0x5C, 0, 16⟩
/-- `VBS_TARGET.LIMIT_MA` (08, R203). -/
def F.VBS_TARGET_LIMIT_MA : Fld := ⟨0x5C, 16, 16⟩
/-- `VBS_CNT.TRIPS` (08, R203). -/
def F.VBS_CNT_TRIPS : Fld := ⟨0x60, 0, 8⟩
/-- `VBS_CNT.RETRIES_RUN` (08, R203). -/
def F.VBS_CNT_RETRIES_RUN : Fld := ⟨0x60, 8, 8⟩
/-- `VBS_CNT.OVP` (08, R203). -/
def F.VBS_CNT_OVP : Fld := ⟨0x60, 16, 8⟩
/-- `VBS_CNT.DSCH_FAIL` (08, R203). -/
def F.VBS_CNT_DSCH_FAIL : Fld := ⟨0x60, 24, 8⟩

-- TCP page
/-- `TCP_CC_CFG.DRP` (09, R228). -/
def F.TCP_CC_CFG_DRP : Fld := ⟨0x40, 0, 1⟩
/-- `TCP_CC_CFG.ACC_DEBUG` (09, R228). -/
def F.TCP_CC_CFG_ACC_DEBUG : Fld := ⟨0x40, 1, 1⟩
/-- `TCP_CC_CFG.ACC_AUDIO` (09, R228). -/
def F.TCP_CC_CFG_ACC_AUDIO : Fld := ⟨0x40, 2, 1⟩
/-- `TCP_CC_CFG.DEBUG_CONSOLE` (09, R228). -/
def F.TCP_CC_CFG_DEBUG_CONSOLE : Fld := ⟨0x40, 3, 1⟩
/-- `TCP_CC_CFG.RP_MAX` (09, R228). -/
def F.TCP_CC_CFG_RP_MAX : Fld := ⟨0x40, 4, 2⟩
/-- `TCP_CC_CFG.BC_MODE` (09, R228). -/
def F.TCP_CC_CFG_BC_MODE : Fld := ⟨0x40, 6, 2⟩
/-- `TCP_CC_TIMING.CC_DB` (09, R228). -/
def F.TCP_CC_TIMING_CC_DB : Fld := ⟨0x44, 0, 8⟩
/-- `TCP_CC_TIMING.PD_DB` (09, R228). -/
def F.TCP_CC_TIMING_PD_DB : Fld := ⟨0x44, 8, 5⟩
/-- `TCP_CC_STATUS.STATE` (09, R228). -/
def F.TCP_CC_STATUS_STATE : Fld := ⟨0x48, 0, 4⟩
/-- `TCP_CC_STATUS.ORIENT` (09, R228). -/
def F.TCP_CC_STATUS_ORIENT : Fld := ⟨0x48, 4, 1⟩
/-- `TCP_CC_STATUS.ORIENT_VALID` (09, R228). -/
def F.TCP_CC_STATUS_ORIENT_VALID : Fld := ⟨0x48, 5, 1⟩
/-- `TCP_CC_STATUS.RP_NOW` (09, R228). -/
def F.TCP_CC_STATUS_RP_NOW : Fld := ⟨0x48, 6, 2⟩
/-- `TCP_CC_STATUS.CC1_LVL` (09, R228). -/
def F.TCP_CC_STATUS_CC1_LVL : Fld := ⟨0x48, 8, 3⟩
/-- `TCP_CC_STATUS.CC2_LVL` (09, R228). -/
def F.TCP_CC_STATUS_CC2_LVL : Fld := ⟨0x48, 11, 3⟩
/-- `TCP_CC_STATUS.VCONN_ON` (09, R228). -/
def F.TCP_CC_STATUS_VCONN_ON : Fld := ⟨0x48, 14, 1⟩
/-- `TCP_CC_STATUS.BC_NOW` (09, R228). -/
def F.TCP_CC_STATUS_BC_NOW : Fld := ⟨0x48, 15, 2⟩
/-- `TCP_CC_STATUS.SBU_ROUTED` (09, R228). -/
def F.TCP_CC_STATUS_SBU_ROUTED : Fld := ⟨0x48, 17, 1⟩
/-- `TCP_CC_STATUS.LEAVE_WAIT` (09, R228). -/
def F.TCP_CC_STATUS_LEAVE_WAIT : Fld := ⟨0x48, 18, 1⟩
/-- `TCP_CC_CTRL.RECOVER` (09, R228). -/
def F.TCP_CC_CTRL_RECOVER : Fld := ⟨0x4C, 0, 1⟩
/-- `TCP_CC_CNT.ATTACHES` (09, R228). -/
def F.TCP_CC_CNT_ATTACHES : Fld := ⟨0x50, 0, 8⟩
/-- `TCP_CC_CNT.TRY_WINS` (09, R228). -/
def F.TCP_CC_CNT_TRY_WINS : Fld := ⟨0x50, 8, 8⟩
/-- `TCP_CC_CNT.VCONN_TRIPS` (09, R228). -/
def F.TCP_CC_CNT_VCONN_TRIPS : Fld := ⟨0x50, 16, 8⟩
/-- `TCP_CC_CNT.RECOVERIES` (09, R228). -/
def F.TCP_CC_CNT_RECOVERIES : Fld := ⟨0x50, 24, 8⟩
/-- `TCP_PD_STATUS.PE_STATE` (10, R263). -/
def F.TCP_PD_STATUS_PE_STATE : Fld := ⟨0x80, 0, 4⟩
/-- `TCP_PD_STATUS.POWER_ROLE` (10, R263). -/
def F.TCP_PD_STATUS_POWER_ROLE : Fld := ⟨0x80, 4, 1⟩
/-- `TCP_PD_STATUS.DATA_ROLE` (10, R263). -/
def F.TCP_PD_STATUS_DATA_ROLE : Fld := ⟨0x80, 5, 1⟩
/-- `TCP_PD_STATUS.VCONN_SRC` (10, R263). -/
def F.TCP_PD_STATUS_VCONN_SRC : Fld := ⟨0x80, 6, 1⟩
/-- `TCP_PD_STATUS.CONTRACT` (10, R263). -/
def F.TCP_PD_STATUS_CONTRACT : Fld := ⟨0x80, 7, 1⟩
/-- `TCP_PD_STATUS.EPR_MODE` (10, R263). -/
def F.TCP_PD_STATUS_EPR_MODE : Fld := ⟨0x80, 8, 1⟩
/-- `TCP_PD_STATUS.FRS_ARMED` (10, R263). -/
def F.TCP_PD_STATUS_FRS_ARMED : Fld := ⟨0x80, 9, 1⟩
/-- `TCP_PD_STATUS.MODE_ENTERED` (10, R263). -/
def F.TCP_PD_STATUS_MODE_ENTERED : Fld := ⟨0x80, 10, 1⟩
/-- `TCP_PD_STATUS.SPEC_REV` (10, R263). -/
def F.TCP_PD_STATUS_SPEC_REV : Fld := ⟨0x80, 11, 2⟩
/-- `TCP_PD_STATUS.HR_CONSEC` (10, R263). -/
def F.TCP_PD_STATUS_HR_CONSEC : Fld := ⟨0x80, 13, 3⟩
/-- `TCP_CONTRACT.V_MV` (10, R263). -/
def F.TCP_CONTRACT_V_MV : Fld := ⟨0x84, 0, 16⟩
/-- `TCP_CONTRACT.I_10MA` (10, R263). -/
def F.TCP_CONTRACT_I_10MA : Fld := ⟨0x84, 16, 9⟩
/-- `TCP_CONTRACT.TYPE` (10, R263). -/
def F.TCP_CONTRACT_TYPE : Fld := ⟨0x84, 25, 3⟩
/-- `TCP_CONTRACT.POS` (10, R263). -/
def F.TCP_CONTRACT_POS : Fld := ⟨0x84, 28, 4⟩
/-- `TCP_CONTRACT_RDO.RDO` (10, R263). -/
def F.TCP_CONTRACT_RDO_RDO : Fld := ⟨0x88, 0, 32⟩
/-- `TCP_CABLE.DISCOVERED` (10, R263). -/
def F.TCP_CABLE_DISCOVERED : Fld := ⟨0x8C, 0, 1⟩
/-- `TCP_CABLE.FAILED` (10, R263). -/
def F.TCP_CABLE_FAILED : Fld := ⟨0x8C, 1, 1⟩
/-- `TCP_CABLE.CURRENT` (10, R263). -/
def F.TCP_CABLE_CURRENT : Fld := ⟨0x8C, 2, 2⟩
/-- `TCP_CABLE.VMAX` (10, R263). -/
def F.TCP_CABLE_VMAX : Fld := ⟨0x8C, 4, 2⟩
/-- `TCP_CABLE.EPR_CAPABLE` (10, R263). -/
def F.TCP_CABLE_EPR_CAPABLE : Fld := ⟨0x8C, 6, 1⟩
/-- `TCP_CABLE.ACTIVE` (10, R263). -/
def F.TCP_CABLE_ACTIVE : Fld := ⟨0x8C, 7, 1⟩
/-- `TCP_CABLE.ATTEMPTS` (10, R263). -/
def F.TCP_CABLE_ATTEMPTS : Fld := ⟨0x8C, 8, 5⟩
/-- `TCP_PD_CTRL.HARD_RESET` (10, R263). -/
def F.TCP_PD_CTRL_HARD_RESET : Fld := ⟨0x90, 0, 1⟩
/-- `TCP_PD_CTRL.SOFT_RESET` (10, R263). -/
def F.TCP_PD_CTRL_SOFT_RESET : Fld := ⟨0x90, 1, 1⟩
/-- `TCP_PD_CTRL.SEND_CAPS` (10, R263). -/
def F.TCP_PD_CTRL_SEND_CAPS : Fld := ⟨0x90, 2, 1⟩
/-- `TCP_PD_CTRL.REDISCOVER` (10, R263). -/
def F.TCP_PD_CTRL_REDISCOVER : Fld := ⟨0x90, 3, 1⟩
/-- `TCP_PD_CTRL.EXIT_MODE` (10, R263). -/
def F.TCP_PD_CTRL_EXIT_MODE : Fld := ⟨0x90, 4, 1⟩
/-- `TCP_PD_CNT.HARD_RESETS` (10, R263). -/
def F.TCP_PD_CNT_HARD_RESETS : Fld := ⟨0x94, 0, 8⟩
/-- `TCP_PD_CNT.SOFT_RESETS` (10, R263). -/
def F.TCP_PD_CNT_SOFT_RESETS : Fld := ⟨0x94, 8, 8⟩
/-- `TCP_PD_CNT.PROTO_ERR` (10, R263). -/
def F.TCP_PD_CNT_PROTO_ERR : Fld := ⟨0x94, 16, 8⟩
/-- `TCP_PD_CNT.TX_FAIL` (10, R263). -/
def F.TCP_PD_CNT_TX_FAIL : Fld := ⟨0x94, 24, 8⟩
/-- `TCP_PD_OFFER.SPR_COUNT` (10, R263). -/
def F.TCP_PD_OFFER_SPR_COUNT : Fld := ⟨0x98, 0, 4⟩
/-- `TCP_PD_OFFER.EPR_COUNT` (10, R263). -/
def F.TCP_PD_OFFER_EPR_COUNT : Fld := ⟨0x98, 4, 3⟩
/-- `TCP_PD_OFFER.EPR` (10, R263). -/
def F.TCP_PD_OFFER_EPR : Fld := ⟨0x98, 7, 1⟩
/-- `TCP_PD_OFFER.GRANT_BOUND` (10, R263). -/
def F.TCP_PD_OFFER_GRANT_BOUND : Fld := ⟨0x98, 8, 1⟩
/-- `TCP_PD_OFFER.CABLE_BOUND` (10, R263). -/
def F.TCP_PD_OFFER_CABLE_BOUND : Fld := ⟨0x98, 9, 1⟩
/-- `TCP_PD_OFFER.POLICY_ERR` (10, R263). -/
def F.TCP_PD_OFFER_POLICY_ERR : Fld := ⟨0x98, 10, 1⟩
/-- `TCP_PD_OFFER.GRANT` (10, R263). -/
def F.TCP_PD_OFFER_GRANT : Fld := ⟨0x98, 16, 12⟩
/-- `TCP_PD_POLICY.FITTED` (10, R263). -/
def F.TCP_PD_POLICY_FITTED : Fld := ⟨0x100, 0, 1⟩
/-- `TCP_PD_POLICY.PD_EN` (10, R263). -/
def F.TCP_PD_POLICY_PD_EN : Fld := ⟨0x100, 2, 1⟩
/-- `TCP_PD_POLICY.PPS_EN` (10, R263). -/
def F.TCP_PD_POLICY_PPS_EN : Fld := ⟨0x100, 3, 1⟩
/-- `TCP_PD_POLICY.EPR_EN` (10, R263). -/
def F.TCP_PD_POLICY_EPR_EN : Fld := ⟨0x100, 4, 1⟩
/-- `TCP_PD_POLICY.SWAP_TO_SRC` (10, R263). -/
def F.TCP_PD_POLICY_SWAP_TO_SRC : Fld := ⟨0x100, 5, 1⟩
/-- `TCP_PD_POLICY.FRS_EN` (10, R263). -/
def F.TCP_PD_POLICY_FRS_EN : Fld := ⟨0x100, 6, 1⟩
/-- `TCP_PD_POLICY.ACCEPT_VCS` (10, R263). -/
def F.TCP_PD_POLICY_ACCEPT_VCS : Fld := ⟨0x100, 7, 1⟩
/-- `TCP_PD_POLICY.TAKE_VCONN` (10, R263). -/
def F.TCP_PD_POLICY_TAKE_VCONN : Fld := ⟨0x100, 8, 1⟩
/-- `TCP_PD_POLICY.TRANS_LIMIT` (10, R263). -/
def F.TCP_PD_POLICY_TRANS_LIMIT : Fld := ⟨0x100, 12, 6⟩
/-- `TCP_PDOk.PDO` (10, R263). -/
def F.TCP_PDOk_PDO (n : Nat) : Fld := ⟨0x104 + 4 * n, 0, 32⟩
/-- `TCP_CON_SVID.SVID` (10, R263). -/
def F.TCP_CON_SVID_SVID : Fld := ⟨0x130, 0, 16⟩
/-- `TCP_CON_SVID.EN` (10, R263). -/
def F.TCP_CON_SVID_EN : Fld := ⟨0x130, 16, 1⟩
/-- `TCP_CON_MATCH.MATCH` (10, R263). -/
def F.TCP_CON_MATCH_MATCH : Fld := ⟨0x134, 0, 32⟩
/-- `TCP_CON_MASK.MASK` (10, R263). -/
def F.TCP_CON_MASK_MASK : Fld := ⟨0x138, 0, 32⟩
/-- `TCP_PD_ID.VID` (10, R263). -/
def F.TCP_PD_ID_VID : Fld := ⟨0x13C, 0, 16⟩
/-- `TCP_PD_ID.PID` (10, R263). -/
def F.TCP_PD_ID_PID : Fld := ⟨0x13C, 16, 16⟩

-- CON page
/-- `CON_CFG.DATA8` (09, R230). -/
def F.CON_CFG_DATA8 : Fld := ⟨0x40, 0, 1⟩
/-- `CON_CFG.PARITY` (09, R230). -/
def F.CON_CFG_PARITY : Fld := ⟨0x40, 1, 2⟩
/-- `CON_CFG.STOP2` (09, R230). -/
def F.CON_CFG_STOP2 : Fld := ⟨0x40, 3, 1⟩
/-- `CON_CFG.LEVEL` (09, R230). -/
def F.CON_CFG_LEVEL : Fld := ⟨0x40, 4, 1⟩
/-- `CON_CFG.TX_EN` (09, R230). -/
def F.CON_CFG_TX_EN : Fld := ⟨0x40, 5, 1⟩
/-- `CON_CFG.RX_PIN` (09, R230). -/
def F.CON_CFG_RX_PIN : Fld := ⟨0x40, 6, 2⟩
/-- `CON_BAUD.DIV` (09, R230). -/
def F.CON_BAUD_DIV : Fld := ⟨0x44, 0, 22⟩
/-- `CON_STATUS.ROUTED` (09, R230). -/
def F.CON_STATUS_ROUTED : Fld := ⟨0x48, 0, 1⟩
/-- `CON_STATUS.RX_SBU2` (09, R230). -/
def F.CON_STATUS_RX_SBU2 : Fld := ⟨0x48, 1, 1⟩
/-- `CON_STATUS.CAPTURED` (09, R230). -/
def F.CON_STATUS_CAPTURED : Fld := ⟨0x48, 2, 1⟩
/-- `CON_STATUS.BREAK` (09, R230). -/
def F.CON_STATUS_BREAK : Fld := ⟨0x48, 3, 1⟩
/-- `CON_STATUS.RX_LEVEL` (09, R230). -/
def F.CON_STATUS_RX_LEVEL : Fld := ⟨0x48, 4, 9⟩
/-- `CON_STATUS.TX_LEVEL` (09, R230). -/
def F.CON_STATUS_TX_LEVEL : Fld := ⟨0x48, 13, 7⟩
/-- `CON_RXDATA.DATA` (09, R230). -/
def F.CON_RXDATA_DATA : Fld := ⟨0x4C, 0, 8⟩
/-- `CON_RXDATA.VALID` (09, R230). -/
def F.CON_RXDATA_VALID : Fld := ⟨0x4C, 8, 1⟩
/-- `CON_RXDATA.FRAME_ERR` (09, R230). -/
def F.CON_RXDATA_FRAME_ERR : Fld := ⟨0x4C, 9, 1⟩
/-- `CON_RXDATA.PAR_ERR` (09, R230). -/
def F.CON_RXDATA_PAR_ERR : Fld := ⟨0x4C, 10, 1⟩
/-- `CON_TXDATA.DATA` (09, R230). -/
def F.CON_TXDATA_DATA : Fld := ⟨0x50, 0, 8⟩
/-- `CON_CNT.FRAMING` (09, R230). -/
def F.CON_CNT_FRAMING : Fld := ⟨0x54, 0, 8⟩
/-- `CON_CNT.OVERRUN` (09, R230). -/
def F.CON_CNT_OVERRUN : Fld := ⟨0x54, 8, 8⟩
/-- `CON_CNT.BREAKS` (09, R230). -/
def F.CON_CNT_BREAKS : Fld := ⟨0x54, 16, 8⟩
/-- `CON_CNT.TX_DROP` (09, R230). -/
def F.CON_CNT_TX_DROP : Fld := ⟨0x54, 24, 8⟩

-- U2H page
/-- `U2H_CFG.HOST_VBUS` (11, R293). -/
def F.U2H_CFG_HOST_VBUS : Fld := ⟨0x40, 0, 1⟩
/-- `U2H_CFG.SINGLE_TT` (11, R293). -/
def F.U2H_CFG_SINGLE_TT : Fld := ⟨0x40, 1, 2⟩
/-- `U2H_CFG.LPM_EN` (11, R293). -/
def F.U2H_CFG_LPM_EN : Fld := ⟨0x40, 3, 1⟩
/-- `U2H_TIMING.RESET_TIME` (11, R293). -/
def F.U2H_TIMING_RESET_TIME : Fld := ⟨0x44, 0, 5⟩
/-- `U2H_TIMING.RESUME_TIME` (11, R293). -/
def F.U2H_TIMING_RESUME_TIME : Fld := ⟨0x44, 5, 5⟩
/-- `U2H_TIMING.CONN_DB` (11, R293). -/
def F.U2H_TIMING_CONN_DB : Fld := ⟨0x44, 16, 8⟩
/-- `U2H_TIMING.PWR_HOLD` (11, R293). -/
def F.U2H_TIMING_PWR_HOLD : Fld := ⟨0x44, 24, 8⟩
/-- `U2H_CTX_STATUS.ADDRESS` (11, R293). -/
def F.U2H_CTX_STATUS_ADDRESS (n : Nat) : Fld := ⟨0x48 + 4 * n, 0, 7⟩
/-- `U2H_CTX_STATUS.SPEED` (11, R293). -/
def F.U2H_CTX_STATUS_SPEED (n : Nat) : Fld := ⟨0x48 + 4 * n, 8, 2⟩
/-- `U2H_CTX_STATUS.STATE` (11, R293). -/
def F.U2H_CTX_STATUS_STATE (n : Nat) : Fld := ⟨0x48 + 4 * n, 10, 3⟩
/-- `U2H_CTX_STATUS.REMOTE_WAKE` (11, R293). -/
def F.U2H_CTX_STATUS_REMOTE_WAKE (n : Nat) : Fld := ⟨0x48 + 4 * n, 13, 1⟩
/-- `U2H_CTX_STATUS.MULTI_TT` (11, R293). -/
def F.U2H_CTX_STATUS_MULTI_TT (n : Nat) : Fld := ⟨0x48 + 4 * n, 14, 1⟩
/-- `U2H_CNT.WAKE_BLOCKED` (11, R293). -/
def F.U2H_CNT_WAKE_BLOCKED : Fld := ⟨0x50, 0, 8⟩
/-- `U2H_CNT.RESUME_MERGED` (11, R293). -/
def F.U2H_CNT_RESUME_MERGED : Fld := ⟨0x50, 8, 8⟩
/-- `U2H_CNT.CTX_RESETS` (11, R293). -/
def F.U2H_CNT_CTX_RESETS : Fld := ⟨0x50, 16, 8⟩

-- U2P page
/-- `U2P_CFG.REMOVABLE` (11, R294). -/
def F.U2P_CFG_REMOVABLE : Fld := ⟨0x40, 0, 1⟩
/-- `U2P_CFG.HS_DISABLE` (11, R294). -/
def F.U2P_CFG_HS_DISABLE : Fld := ⟨0x40, 1, 1⟩
/-- `U2P_CFG.L1_EN` (11, R294). -/
def F.U2P_CFG_L1_EN : Fld := ⟨0x40, 2, 1⟩
/-- `U2P_STATUS.STATE` (11, R294). -/
def F.U2P_STATUS_STATE : Fld := ⟨0x44, 0, 4⟩
/-- `U2P_STATUS.SPEED` (11, R294). -/
def F.U2P_STATUS_SPEED : Fld := ⟨0x44, 4, 2⟩
/-- `U2P_STATUS.HOST_POWER` (11, R294). -/
def F.U2P_STATUS_HOST_POWER : Fld := ⟨0x44, 6, 2⟩
/-- `U2P_STATUS.OVER_CURRENT` (11, R294). -/
def F.U2P_STATUS_OVER_CURRENT : Fld := ⟨0x44, 8, 1⟩
/-- `U2P_STATUS.TEST_MODE` (11, R294). -/
def F.U2P_STATUS_TEST_MODE : Fld := ⟨0x44, 9, 3⟩
/-- `U2P_STATUS.HIRD` (11, R294). -/
def F.U2P_STATUS_HIRD : Fld := ⟨0x44, 12, 4⟩
/-- `U2P_STATUS.L1_RWE` (11, R294). -/
def F.U2P_STATUS_L1_RWE : Fld := ⟨0x44, 16, 1⟩
/-- `U2P_PORTSC.PORT_STATUS` (11, R294). -/
def F.U2P_PORTSC_PORT_STATUS : Fld := ⟨0x48, 0, 16⟩
/-- `U2P_PORTSC.PORT_CHANGE` (11, R294). -/
def F.U2P_PORTSC_PORT_CHANGE : Fld := ⟨0x48, 16, 16⟩
/-- `U2P_TT_STATUS.PER_USED` (11, R294). -/
def F.U2P_TT_STATUS_PER_USED : Fld := ⟨0x4C, 0, 6⟩
/-- `U2P_TT_STATUS.NP_BUSY` (11, R294). -/
def F.U2P_TT_STATUS_NP_BUSY : Fld := ⟨0x4C, 6, 4⟩
/-- `U2P_TT_STATUS.NP_DONE` (11, R294). -/
def F.U2P_TT_STATUS_NP_DONE : Fld := ⟨0x4C, 10, 4⟩
/-- `U2P_TT_STATUS.STOPPED` (11, R294). -/
def F.U2P_TT_STATUS_STOPPED : Fld := ⟨0x4C, 14, 1⟩
/-- `U2P_CNT.TT_STALE` (11, R294). -/
def F.U2P_CNT_TT_STALE : Fld := ⟨0x50, 0, 8⟩
/-- `U2P_CNT.TT_ERR` (11, R294). -/
def F.U2P_CNT_TT_ERR : Fld := ⟨0x50, 8, 8⟩
/-- `U2P_CNT.BABBLE` (11, R294). -/
def F.U2P_CNT_BABBLE : Fld := ⟨0x50, 16, 8⟩
/-- `U2P_CNT.RESETS` (11, R294). -/
def F.U2P_CNT_RESETS : Fld := ⟨0x50, 24, 8⟩
/-- `U2P_LPM_CNT.L1_ENTRIES` (11, R294). -/
def F.U2P_LPM_CNT_L1_ENTRIES : Fld := ⟨0x54, 0, 16⟩
/-- `U2P_LPM_CNT.L1_NYET` (11, R294). -/
def F.U2P_LPM_CNT_L1_NYET : Fld := ⟨0x54, 16, 8⟩
/-- `U2P_LPM_CNT.L1_TIMEOUT` (11, R294). -/
def F.U2P_LPM_CNT_L1_TIMEOUT : Fld := ⟨0x54, 24, 8⟩

-- SSH page
/-- `SSH_CFG.CTX0_EN` (12, R321). -/
def F.SSH_CFG_CTX0_EN : Fld := ⟨0x40, 0, 1⟩
/-- `SSH_CFG.CTX1_EN` (12, R321). -/
def F.SSH_CFG_CTX1_EN : Fld := ⟨0x40, 1, 1⟩
/-- `SSH_CTX_STATUS.ADDRESS` (12, R321). -/
def F.SSH_CTX_STATUS_ADDRESS (n : Nat) : Fld := ⟨0x44 + 4 * n, 0, 7⟩
/-- `SSH_CTX_STATUS.DEPTH` (12, R321). -/
def F.SSH_CTX_STATUS_DEPTH (n : Nat) : Fld := ⟨0x44 + 4 * n, 8, 3⟩
/-- `SSH_CTX_STATUS.DEPTH_SET` (12, R321). -/
def F.SSH_CTX_STATUS_DEPTH_SET (n : Nat) : Fld := ⟨0x44 + 4 * n, 11, 1⟩
/-- `SSH_CTX_STATUS.STATE` (12, R321). -/
def F.SSH_CTX_STATUS_STATE (n : Nat) : Fld := ⟨0x44 + 4 * n, 12, 2⟩
/-- `SSH_CTX_STATUS.U1_EN` (12, R321). -/
def F.SSH_CTX_STATUS_U1_EN (n : Nat) : Fld := ⟨0x44 + 4 * n, 14, 1⟩
/-- `SSH_CTX_STATUS.U2_EN` (12, R321). -/
def F.SSH_CTX_STATUS_U2_EN (n : Nat) : Fld := ⟨0x44 + 4 * n, 15, 1⟩
/-- `SSH_CTX_STATUS.PORT_POWER` (12, R321). -/
def F.SSH_CTX_STATUS_PORT_POWER (n : Nat) : Fld := ⟨0x44 + 4 * n, 16, 4⟩
/-- `SSH_CNT.ROUTE_DROP` (12, R321). -/
def F.SSH_CNT_ROUTE_DROP : Fld := ⟨0x4C, 0, 16⟩
/-- `SSH_CNT.DEFERRED` (12, R321). -/
def F.SSH_CNT_DEFERRED : Fld := ⟨0x4C, 16, 16⟩
/-- `SSH_QUEUE.DOWN_MAX` (12, R321). -/
def F.SSH_QUEUE_DOWN_MAX : Fld := ⟨0x50, 0, 8⟩
/-- `SSH_QUEUE.UP_MAX` (12, R321). -/
def F.SSH_QUEUE_UP_MAX : Fld := ⟨0x50, 8, 8⟩

-- SSP page
/-- `SSP_CFG.MAX_GEN` (12, R322). -/
def F.SSP_CFG_MAX_GEN : Fld := ⟨0x40, 0, 1⟩
/-- `SSP_CFG.AUTO_GEN1` (12, R322). -/
def F.SSP_CFG_AUTO_GEN1 : Fld := ⟨0x40, 1, 1⟩
/-- `SSP_CFG.COMPLIANCE_EN` (12, R322). -/
def F.SSP_CFG_COMPLIANCE_EN : Fld := ⟨0x40, 2, 1⟩
/-- `SSP_CFG.LPM_ALLOW` (12, R322). -/
def F.SSP_CFG_LPM_ALLOW : Fld := ⟨0x40, 3, 1⟩
/-- `SSP_CFG.REMOVABLE` (12, R322). -/
def F.SSP_CFG_REMOVABLE : Fld := ⟨0x40, 4, 1⟩
/-- `SSP_CFG.RECOV_LIMIT` (12, R322). -/
def F.SSP_CFG_RECOV_LIMIT : Fld := ⟨0x40, 8, 8⟩
/-- `SSP_STATUS.LINK_STATE` (12, R322). -/
def F.SSP_STATUS_LINK_STATE : Fld := ⟨0x44, 0, 4⟩
/-- `SSP_STATUS.GEN2` (12, R322). -/
def F.SSP_STATUS_GEN2 : Fld := ⟨0x44, 4, 1⟩
/-- `SSP_STATUS.PAIR2` (12, R322). -/
def F.SSP_STATUS_PAIR2 : Fld := ⟨0x44, 5, 1⟩
/-- `SSP_STATUS.SS_ONLY2` (12, R322). -/
def F.SSP_STATUS_SS_ONLY2 : Fld := ⟨0x44, 6, 1⟩
/-- `SSP_STATUS.GEN2_BARRED` (12, R322). -/
def F.SSP_STATUS_GEN2_BARRED : Fld := ⟨0x44, 7, 1⟩
/-- `SSP_STATUS.U1_TIMEOUT` (12, R322). -/
def F.SSP_STATUS_U1_TIMEOUT : Fld := ⟨0x44, 8, 8⟩
/-- `SSP_STATUS.U2_TIMEOUT` (12, R322). -/
def F.SSP_STATUS_U2_TIMEOUT : Fld := ⟨0x44, 16, 8⟩
/-- `SSP_STATUS.FORCE_LPM` (12, R322). -/
def F.SSP_STATUS_FORCE_LPM : Fld := ⟨0x44, 24, 1⟩
/-- `SSP_STATUS.WAKE_MASK` (12, R322). -/
def F.SSP_STATUS_WAKE_MASK : Fld := ⟨0x44, 25, 3⟩
/-- `SSP_ERR.SYMBOL` (12, R322). -/
def F.SSP_ERR_SYMBOL : Fld := ⟨0x48, 0, 8⟩
/-- `SSP_ERR.HDR_CRC` (12, R322). -/
def F.SSP_ERR_HDR_CRC : Fld := ⟨0x48, 8, 8⟩
/-- `SSP_ERR.LINK_ERR` (12, R322). -/
def F.SSP_ERR_LINK_ERR : Fld := ⟨0x48, 16, 8⟩
/-- `SSP_ERR.RECOV` (12, R322). -/
def F.SSP_ERR_RECOV : Fld := ⟨0x48, 24, 8⟩
/-- `SSP_CNT.HOT_RESETS` (12, R322). -/
def F.SSP_CNT_HOT_RESETS : Fld := ⟨0x4C, 0, 8⟩
/-- `SSP_CNT.WARM_RESETS` (12, R322). -/
def F.SSP_CNT_WARM_RESETS : Fld := ⟨0x4C, 8, 8⟩
/-- `SSP_CNT.DISCARDS` (12, R322). -/
def F.SSP_CNT_DISCARDS : Fld := ⟨0x4C, 16, 8⟩
/-- `SSP_CNT.POLL_FAILS` (12, R322). -/
def F.SSP_CNT_POLL_FAILS : Fld := ⟨0x4C, 24, 8⟩
/-- `SSP_TEST.ENTER_CP` (12, R322). -/
def F.SSP_TEST_ENTER_CP : Fld := ⟨0x50, 0, 1⟩
/-- `SSP_TEST.LOOP_MASTER` (12, R322). -/
def F.SSP_TEST_LOOP_MASTER : Fld := ⟨0x50, 1, 1⟩
/-- `SSP_TEST.EXIT` (12, R322). -/
def F.SSP_TEST_EXIT : Fld := ⟨0x50, 2, 1⟩
/-- `SSP_MARGIN.T_OFF` (12, R322). -/
def F.SSP_MARGIN_T_OFF : Fld := ⟨0x54, 0, 8⟩
/-- `SSP_MARGIN.V_OFF` (12, R322). -/
def F.SSP_MARGIN_V_OFF : Fld := ⟨0x54, 8, 8⟩
/-- `SSP_MARGIN.DWELL` (12, R322). -/
def F.SSP_MARGIN_DWELL : Fld := ⟨0x54, 16, 8⟩
/-- `SSP_MARGIN_CMD.START` (12, R322). -/
def F.SSP_MARGIN_CMD_START : Fld := ⟨0x58, 0, 1⟩
/-- `SSP_MARGIN_RES.ERRORS` (12, R322). -/
def F.SSP_MARGIN_RES_ERRORS : Fld := ⟨0x5C, 0, 24⟩
/-- `SSP_MARGIN_RES.STATUS` (12, R322). -/
def F.SSP_MARGIN_RES_STATUS : Fld := ⟨0x5C, 24, 2⟩
/-- `SSP_BERT.BIT_ERRORS` (12, R322). -/
def F.SSP_BERT_BIT_ERRORS : Fld := ⟨0x60, 0, 32⟩

-- PRS page
/-- `PRS_CFG.TOPO_U0` (13, R344). -/
def F.PRS_CFG_TOPO_U0 : Fld := ⟨0x40, 0, 1⟩
/-- `PRS_CFG.TOPO_U1` (13, R344). -/
def F.PRS_CFG_TOPO_U1 : Fld := ⟨0x40, 1, 1⟩
/-- `PRS_CFG.MOVE_REATTACH` (13, R344). -/
def F.PRS_CFG_MOVE_REATTACH : Fld := ⟨0x40, 4, 1⟩
/-- `PRS_FO_CFG.FO_TIME` (13, R344). -/
def F.PRS_FO_CFG_FO_TIME : Fld := ⟨0x44, 0, 10⟩
/-- `PRS_FO_CFG.FB_MODE` (13, R344). -/
def F.PRS_FO_CFG_FB_MODE : Fld := ⟨0x44, 10, 2⟩
/-- `PRS_FO_CFG.FO_SUSP_HOLD` (13, R344). -/
def F.PRS_FO_CFG_FO_SUSP_HOLD : Fld := ⟨0x44, 12, 1⟩
/-- `PRS_FO_CFG.FB_DELAY` (13, R344). -/
def F.PRS_FO_CFG_FB_DELAY : Fld := ⟨0x44, 16, 6⟩
/-- `PRS_FO_CFG.FO_SUSP_LIMIT` (13, R344). -/
def F.PRS_FO_CFG_FO_SUSP_LIMIT : Fld := ⟨0x44, 24, 8⟩
/-- `PRS_CTRL.REATTACH_U0` (13, R344). -/
def F.PRS_CTRL_REATTACH_U0 : Fld := ⟨0x48, 0, 1⟩
/-- `PRS_CTRL.REATTACH_U1` (13, R344). -/
def F.PRS_CTRL_REATTACH_U1 : Fld := ⟨0x48, 1, 1⟩
/-- `PRS_CTRL.FAILBACK` (13, R344). -/
def F.PRS_CTRL_FAILBACK : Fld := ⟨0x48, 2, 1⟩
/-- `PRS_Uu_STATUS.ATTACHED` (13, R344). -/
def F.PRS_Uu_STATUS_ATTACHED (n : Nat) : Fld := ⟨0x4C + 4 * n, 0, 1⟩
/-- `PRS_Uu_STATUS.LIVE` (13, R344). -/
def F.PRS_Uu_STATUS_LIVE (n : Nat) : Fld := ⟨0x4C + 4 * n, 1, 1⟩
/-- `PRS_Uu_STATUS.HELD` (13, R344). -/
def F.PRS_Uu_STATUS_HELD (n : Nat) : Fld := ⟨0x4C + 4 * n, 2, 1⟩
/-- `PRS_Uu_STATUS.CONFIGURED` (13, R344). -/
def F.PRS_Uu_STATUS_CONFIGURED (n : Nat) : Fld := ⟨0x4C + 4 * n, 3, 1⟩
/-- `PRS_Uu_STATUS.U2_SPEED` (13, R344). -/
def F.PRS_Uu_STATUS_U2_SPEED (n : Nat) : Fld := ⟨0x4C + 4 * n, 4, 2⟩
/-- `PRS_Uu_STATUS.SS_GEN` (13, R344). -/
def F.PRS_Uu_STATUS_SS_GEN (n : Nat) : Fld := ⟨0x4C + 4 * n, 6, 2⟩
/-- `PRS_Uu_STATUS.SS_X2` (13, R344). -/
def F.PRS_Uu_STATUS_SS_X2 (n : Nat) : Fld := ⟨0x4C + 4 * n, 8, 1⟩
/-- `PRS_Uu_STATUS.FLAT` (13, R344). -/
def F.PRS_Uu_STATUS_FLAT (n : Nat) : Fld := ⟨0x4C + 4 * n, 9, 1⟩
/-- `PRS_Uu_STATUS.DESC_DEFAULT` (13, R344). -/
def F.PRS_Uu_STATUS_DESC_DEFAULT (n : Nat) : Fld := ⟨0x4C + 4 * n, 10, 1⟩
/-- `PRS_Uu_STATUS.FAILED` (13, R344). -/
def F.PRS_Uu_STATUS_FAILED (n : Nat) : Fld := ⟨0x4C + 4 * n, 11, 1⟩
/-- `PRS_Uu_STATUS.OWNED` (13, R344). -/
def F.PRS_Uu_STATUS_OWNED (n : Nat) : Fld := ⟨0x4C + 4 * n, 16, 7⟩
/-- `PRS_MOVING.MOVING` (13, R344). -/
def F.PRS_MOVING_MOVING (n : Nat) : Fld := ⟨0x54 + 4 * n, 0, 32⟩
/-- `PRS_CNT.FAILOVERS` (13, R344). -/
def F.PRS_CNT_FAILOVERS : Fld := ⟨0x5C, 0, 8⟩
/-- `PRS_CNT.FAILBACKS` (13, R344). -/
def F.PRS_CNT_FAILBACKS : Fld := ⟨0x5C, 8, 8⟩
/-- `PRS_CNT.MOVES` (13, R344). -/
def F.PRS_CNT_MOVES : Fld := ⟨0x5C, 16, 16⟩
/-- `PRS_OWNERn.OWNER` (13, R344). -/
def F.PRS_OWNERn_OWNER (n : Nat) : Fld := ⟨0x100 + 4 * n, 0, 2⟩
/-- `PRS_OWNERn.HOME` (13, R344). -/
def F.PRS_OWNERn_HOME (n : Nat) : Fld := ⟨0x100 + 4 * n, 2, 2⟩
/-- `PRS_OWNERn.FO_EN` (13, R344). -/
def F.PRS_OWNERn_FO_EN (n : Nat) : Fld := ⟨0x100 + 4 * n, 4, 1⟩
/-- `PRS_OWNERn.CUR` (13, R344). -/
def F.PRS_OWNERn_CUR (n : Nat) : Fld := ⟨0x100 + 4 * n, 8, 2⟩
/-- `PRS_OWNERn.MOVING` (13, R344). -/
def F.PRS_OWNERn_MOVING (n : Nat) : Fld := ⟨0x100 + 4 * n, 10, 1⟩
/-- `PRS_OWNERn.FAILED_OVER` (13, R344). -/
def F.PRS_OWNERn_FAILED_OVER (n : Nat) : Fld := ⟨0x100 + 4 * n, 11, 1⟩

-- MGF page
/-- `MGF_CFG.NOTIFY_PRI_H0` (14, R369). -/
def F.MGF_CFG_NOTIFY_PRI_H0 : Fld := ⟨0x40, 0, 3⟩
/-- `MGF_CFG.NOTIFY_PRI_H1` (14, R369). -/
def F.MGF_CFG_NOTIFY_PRI_H1 : Fld := ⟨0x40, 4, 3⟩
/-- `MGF_CFG.WAKE_ON_NOTICE` (14, R369). -/
def F.MGF_CFG_WAKE_ON_NOTICE : Fld := ⟨0x40, 8, 1⟩
/-- `MGF_Uu_STATUS.ADDRESS` (14, R369). -/
def F.MGF_Uu_STATUS_ADDRESS (n : Nat) : Fld := ⟨0x44 + 4 * n, 0, 7⟩
/-- `MGF_Uu_STATUS.SS_IN_SERVICE` (14, R369). -/
def F.MGF_Uu_STATUS_SS_IN_SERVICE (n : Nat) : Fld := ⟨0x44 + 4 * n, 7, 1⟩
/-- `MGF_Uu_STATUS.STATE` (14, R369). -/
def F.MGF_Uu_STATUS_STATE (n : Nat) : Fld := ⟨0x44 + 4 * n, 8, 2⟩
/-- `MGF_Uu_STATUS.CTRL_BUSY` (14, R369). -/
def F.MGF_Uu_STATUS_CTRL_BUSY (n : Nat) : Fld := ⟨0x44 + 4 * n, 10, 1⟩
/-- `MGF_Uu_STATUS.HALT` (14, R369). -/
def F.MGF_Uu_STATUS_HALT (n : Nat) : Fld := ⟨0x44 + 4 * n, 11, 3⟩
/-- `MGF_Uu_STATUS.EP2_BUSY` (14, R369). -/
def F.MGF_Uu_STATUS_EP2_BUSY (n : Nat) : Fld := ⟨0x44 + 4 * n, 14, 1⟩
/-- `MGF_Uu_STATUS.EP3_FULL` (14, R369). -/
def F.MGF_Uu_STATUS_EP3_FULL (n : Nat) : Fld := ⟨0x44 + 4 * n, 15, 1⟩
/-- `MGF_Uu_STATUS.NOTICE_PENDING` (14, R369). -/
def F.MGF_Uu_STATUS_NOTICE_PENDING (n : Nat) : Fld := ⟨0x44 + 4 * n, 16, 1⟩
/-- `MGF_Uu_STATUS.WAKE_EN` (14, R369). -/
def F.MGF_Uu_STATUS_WAKE_EN (n : Nat) : Fld := ⟨0x44 + 4 * n, 17, 1⟩
/-- `MGF_Uu_BULK.TAG` (14, R369). -/
def F.MGF_Uu_BULK_TAG (n : Nat) : Fld := ⟨0x4C + 4 * n, 0, 16⟩
/-- `MGF_Uu_BULK.STATUS` (14, R369). -/
def F.MGF_Uu_BULK_STATUS (n : Nat) : Fld := ⟨0x4C + 4 * n, 16, 8⟩
/-- `MGF_Uu_BULK.WRITE` (14, R369). -/
def F.MGF_Uu_BULK_WRITE (n : Nat) : Fld := ⟨0x4C + 4 * n, 24, 1⟩
/-- `MGF_Uu_BULK.VALID` (14, R369). -/
def F.MGF_Uu_BULK_VALID (n : Nat) : Fld := ⟨0x4C + 4 * n, 25, 1⟩
/-- `MGF_Uu_BULK.LOST` (14, R369). -/
def F.MGF_Uu_BULK_LOST (n : Nat) : Fld := ⟨0x4C + 4 * n, 26, 1⟩
/-- `MGF_Uu_CNT.VENDOR_REQS` (14, R369). -/
def F.MGF_Uu_CNT_VENDOR_REQS (n : Nat) : Fld := ⟨0x54 + 4 * n, 0, 16⟩
/-- `MGF_Uu_CNT.STALLS` (14, R369). -/
def F.MGF_Uu_CNT_STALLS (n : Nat) : Fld := ⟨0x54 + 4 * n, 16, 8⟩
/-- `MGF_Uu_CNT.RESETS` (14, R369). -/
def F.MGF_Uu_CNT_RESETS (n : Nat) : Fld := ⟨0x54 + 4 * n, 24, 8⟩

-- EPM page
/-- `EPM_ERR.PARITY_ERRS` (14, R372). -/
def F.EPM_ERR_PARITY_ERRS : Fld := ⟨0x40, 0, 16⟩
/-- `EPM_STATUS.LAST_AREA` (14, R372). -/
def F.EPM_STATUS_LAST_AREA : Fld := ⟨0x44, 0, 3⟩
/-- `EPM_STATUS.LAST_PRES` (14, R372). -/
def F.EPM_STATUS_LAST_PRES : Fld := ⟨0x44, 3, 1⟩
/-- `EPM_WIN_PTR.PTR` (14, R372). -/
def F.EPM_WIN_PTR_PTR : Fld := ⟨0x48, 2, 15⟩
/-- `EPM_WIN_DATA.DATA` (14, R372). -/
def F.EPM_WIN_DATA_DATA : Fld := ⟨0x4C, 0, 32⟩

-- GRV page
/-- `GRV_CFG.IDLE_CLOSE` (15, R406). -/
def F.GRV_CFG_IDLE_CLOSE : Fld := ⟨0x40, 0, 4⟩
/-- `GRV_CFG.XACT_RETRIES` (15, R406). -/
def F.GRV_CFG_XACT_RETRIES : Fld := ⟨0x40, 4, 4⟩
/-- `GRV_CFG.FETCH_EN` (15, R406). -/
def F.GRV_CFG_FETCH_EN : Fld := ⟨0x40, 8, 1⟩
/-- `GRV_STATUS.CHAINS` (15, R406). -/
def F.GRV_STATUS_CHAINS : Fld := ⟨0x44, 0, 9⟩
/-- `GRV_STATUS.GROUPS` (15, R406). -/
def F.GRV_STATUS_GROUPS : Fld := ⟨0x44, 9, 2⟩
/-- `GRV_STATUS.NO_DRAM` (15, R406). -/
def F.GRV_STATUS_NO_DRAM : Fld := ⟨0x44, 11, 1⟩
/-- `GRV_STATUS.THROTTLED` (15, R406). -/
def F.GRV_STATUS_THROTTLED : Fld := ⟨0x44, 12, 1⟩
/-- `GRV_CNT.JOBS_OK` (15, R406). -/
def F.GRV_CNT_JOBS_OK : Fld := ⟨0x48, 0, 16⟩
/-- `GRV_CNT.JOBS_FAILED` (15, R406). -/
def F.GRV_CNT_JOBS_FAILED : Fld := ⟨0x48, 16, 16⟩
/-- `GRV_BUF_PTR.PTR` (15, R406). -/
def F.GRV_BUF_PTR_PTR : Fld := ⟨0x4C, 2, 19⟩
/-- `GRV_BUF_WDATA.DATA` (15, R406). -/
def F.GRV_BUF_WDATA_DATA : Fld := ⟨0x50, 0, 32⟩
/-- `GRV_BUF_RDATA.DATA` (15, R406). -/
def F.GRV_BUF_RDATA_DATA : Fld := ⟨0x54, 0, 32⟩
/-- `GRV_JRr_BASE_LO.ADDR_LO` (15, R406). -/
def F.GRV_JRr_BASE_LO_ADDR_LO (n : Nat) : Fld := ⟨0x100 + 64 * n, 0, 32⟩
/-- `GRV_JRr_BASE_HI.ADDR_HI` (15, R406). -/
def F.GRV_JRr_BASE_HI_ADDR_HI (n : Nat) : Fld := ⟨0x104 + 64 * n, 0, 2⟩
/-- `GRV_JRr_BASE_HI.SPACE` (15, R406). -/
def F.GRV_JRr_BASE_HI_SPACE (n : Nat) : Fld := ⟨0x104 + 64 * n, 30, 2⟩
/-- `GRV_JRr_CFG.SIZE_LOG2` (15, R406). -/
def F.GRV_JRr_CFG_SIZE_LOG2 (n : Nat) : Fld := ⟨0x108 + 64 * n, 0, 5⟩
/-- `GRV_JRr_CFG.EN` (15, R406). -/
def F.GRV_JRr_CFG_EN (n : Nat) : Fld := ⟨0x108 + 64 * n, 8, 1⟩
/-- `GRV_JRr_PROD.PROD` (15, R406). -/
def F.GRV_JRr_PROD_PROD (n : Nat) : Fld := ⟨0x10C + 64 * n, 0, 16⟩
/-- `GRV_JRr_CONS.CONS` (15, R406). -/
def F.GRV_JRr_CONS_CONS (n : Nat) : Fld := ⟨0x110 + 64 * n, 0, 16⟩
/-- `GRV_CRr_BASE_LO.ADDR_LO` (15, R406). -/
def F.GRV_CRr_BASE_LO_ADDR_LO (n : Nat) : Fld := ⟨0x114 + 64 * n, 0, 32⟩
/-- `GRV_CRr_BASE_HI.ADDR_HI` (15, R406). -/
def F.GRV_CRr_BASE_HI_ADDR_HI (n : Nat) : Fld := ⟨0x118 + 64 * n, 0, 2⟩
/-- `GRV_CRr_BASE_HI.SPACE` (15, R406). -/
def F.GRV_CRr_BASE_HI_SPACE (n : Nat) : Fld := ⟨0x118 + 64 * n, 30, 2⟩
/-- `GRV_CRr_CFG.SIZE_LOG2` (15, R406). -/
def F.GRV_CRr_CFG_SIZE_LOG2 (n : Nat) : Fld := ⟨0x11C + 64 * n, 0, 5⟩
/-- `GRV_CRr_PROD.PROD` (15, R406). -/
def F.GRV_CRr_PROD_PROD (n : Nat) : Fld := ⟨0x120 + 64 * n, 0, 16⟩
/-- `GRV_CRr_CONS.CONS` (15, R406). -/
def F.GRV_CRr_CONS_CONS (n : Nat) : Fld := ⟨0x124 + 64 * n, 0, 16⟩
/-- `GRV_Rr_STATUS.CR_FULL` (15, R406). -/
def F.GRV_Rr_STATUS_CR_FULL (n : Nat) : Fld := ⟨0x128 + 64 * n, 0, 1⟩
/-- `GRV_Rr_STATUS.ACTIVE` (15, R406). -/
def F.GRV_Rr_STATUS_ACTIVE (n : Nat) : Fld := ⟨0x128 + 64 * n, 1, 8⟩

-- LHE page
/-- `LHE_CFG.SS_ALLOW` (15, R408). -/
def F.LHE_CFG_SS_ALLOW : Fld := ⟨0x40, 0, 1⟩
/-- `LHE_CFG.ADDRESS` (15, R408). -/
def F.LHE_CFG_ADDRESS : Fld := ⟨0x40, 8, 7⟩
/-- `LHE_STATUS.STATE` (15, R408). -/
def F.LHE_STATUS_STATE : Fld := ⟨0x44, 0, 3⟩
/-- `LHE_STATUS.SOLO` (15, R408). -/
def F.LHE_STATUS_SOLO : Fld := ⟨0x44, 3, 1⟩
/-- `LHE_STATUS.SPEED` (15, R408). -/
def F.LHE_STATUS_SPEED : Fld := ⟨0x44, 4, 3⟩
/-- `LHE_STATUS.CONFIGURED` (15, R408). -/
def F.LHE_STATUS_CONFIGURED : Fld := ⟨0x44, 7, 1⟩
/-- `LHE_STATUS.LAST_OP` (15, R408). -/
def F.LHE_STATUS_LAST_OP : Fld := ⟨0x44, 8, 8⟩
/-- `LHE_STATUS.LAST_CODE` (15, R408). -/
def F.LHE_STATUS_LAST_CODE : Fld := ⟨0x44, 16, 8⟩
/-- `LHE_STATUS.CAP_SBU` (15, R408). -/
def F.LHE_STATUS_CAP_SBU : Fld := ⟨0x44, 24, 1⟩
/-- `LHE_STATUS.CAP_CDC` (15, R408). -/
def F.LHE_STATUS_CAP_CDC : Fld := ⟨0x44, 25, 1⟩
/-- `LHE_DEV.VID` (15, R408). -/
def F.LHE_DEV_VID : Fld := ⟨0x48, 0, 16⟩
/-- `LHE_DEV.PID` (15, R408). -/
def F.LHE_DEV_PID : Fld := ⟨0x48, 16, 16⟩
/-- `LHE_POS_LO.POS` (15, R408). -/
def F.LHE_POS_LO_POS : Fld := ⟨0x4C, 0, 32⟩
/-- `LHE_POS_HI.POS` (15, R408). -/
def F.LHE_POS_HI_POS : Fld := ⟨0x50, 0, 32⟩
/-- `LHE_MISMATCH_LO.OFFSET` (15, R408). -/
def F.LHE_MISMATCH_LO_OFFSET : Fld := ⟨0x54, 0, 32⟩
/-- `LHE_MISMATCH_HI.OFFSET` (15, R408). -/
def F.LHE_MISMATCH_HI_OFFSET : Fld := ⟨0x58, 0, 32⟩
/-- `LHE_CAP_WR.RECORDS` (15, R408). -/
def F.LHE_CAP_WR_RECORDS : Fld := ⟨0x5C, 0, 32⟩
/-- `LHE_CAP_LOST.BYTES` (15, R408). -/
def F.LHE_CAP_LOST_BYTES : Fld := ⟨0x60, 0, 32⟩
/-- `LHE_CNT.XACT_ERRS` (15, R408). -/
def F.LHE_CNT_XACT_ERRS : Fld := ⟨0x64, 0, 8⟩
/-- `LHE_CNT.STALLS` (15, R408). -/
def F.LHE_CNT_STALLS : Fld := ⟨0x64, 8, 8⟩
/-- `LHE_CNT.JOBS_FAILED` (15, R408). -/
def F.LHE_CNT_JOBS_FAILED : Fld := ⟨0x64, 16, 8⟩
/-- `LHE_CNT.LEAVES` (15, R408). -/
def F.LHE_CNT_LEAVES : Fld := ⟨0x64, 24, 8⟩

-- DRC page
/-- `DRC_CFG.SCRUB_HOURS` (16, R423). -/
def F.DRC_CFG_SCRUB_HOURS : Fld := ⟨0x40, 0, 8⟩
/-- `DRC_CFG.REFRESH_2X` (16, R423). -/
def F.DRC_CFG_REFRESH_2X : Fld := ⟨0x40, 8, 1⟩
/-- `DRC_CFG.CORRECT_WB` (16, R423). -/
def F.DRC_CFG_CORRECT_WB : Fld := ⟨0x40, 9, 1⟩
/-- `DRC_CFG.INIT_ZERO` (16, R423). -/
def F.DRC_CFG_INIT_ZERO : Fld := ⟨0x40, 10, 1⟩
/-- `DRC_GEOM.X16` (16, R423). -/
def F.DRC_GEOM_X16 : Fld := ⟨0x44, 0, 1⟩
/-- `DRC_GEOM.D16GB` (16, R423). -/
def F.DRC_GEOM_D16GB : Fld := ⟨0x44, 1, 1⟩
/-- `DRC_TIMING0.CL` (16, R423). -/
def F.DRC_TIMING0_CL : Fld := ⟨0x48, 0, 6⟩
/-- `DRC_TIMING0.CWL` (16, R423). -/
def F.DRC_TIMING0_CWL : Fld := ⟨0x48, 8, 6⟩
/-- `DRC_TIMING0.TRCD` (16, R423). -/
def F.DRC_TIMING0_TRCD : Fld := ⟨0x48, 16, 6⟩
/-- `DRC_TIMING0.TRP` (16, R423). -/
def F.DRC_TIMING0_TRP : Fld := ⟨0x48, 24, 6⟩
/-- `DRC_TIMING1.TRAS` (16, R423). -/
def F.DRC_TIMING1_TRAS : Fld := ⟨0x4C, 0, 8⟩
/-- `DRC_TIMING1.TRFC` (16, R423). -/
def F.DRC_TIMING1_TRFC : Fld := ⟨0x4C, 8, 12⟩
/-- `DRC_ARB.W_GRAVER` (16, R423). -/
def F.DRC_ARB_W_GRAVER : Fld := ⟨0x50, 0, 4⟩
/-- `DRC_ARB.W_H0` (16, R423). -/
def F.DRC_ARB_W_H0 : Fld := ⟨0x50, 4, 4⟩
/-- `DRC_ARB.W_H1` (16, R423). -/
def F.DRC_ARB_W_H1 : Fld := ⟨0x50, 8, 4⟩
/-- `DRC_ARB.W_WIN` (16, R423). -/
def F.DRC_ARB_W_WIN : Fld := ⟨0x50, 12, 4⟩
/-- `DRC_STATUS.STATE` (16, R423). -/
def F.DRC_STATUS_STATE : Fld := ⟨0x54, 0, 3⟩
/-- `DRC_STATUS.LANE_FAIL` (16, R423). -/
def F.DRC_STATUS_LANE_FAIL : Fld := ⟨0x54, 3, 5⟩
/-- `DRC_STATUS.RANKS2` (16, R423). -/
def F.DRC_STATUS_RANKS2 : Fld := ⟨0x54, 8, 1⟩
/-- `DRC_STATUS.SIZE_MIB` (16, R423). -/
def F.DRC_STATUS_SIZE_MIB : Fld := ⟨0x54, 16, 16⟩
/-- `DRC_ECC_CNT.CE` (16, R423). -/
def F.DRC_ECC_CNT_CE : Fld := ⟨0x58, 0, 16⟩
/-- `DRC_ECC_CNT.UE` (16, R423). -/
def F.DRC_ECC_CNT_UE : Fld := ⟨0x58, 16, 16⟩
/-- `DRC_ECC_ADDR_LO.ADDR_LO` (16, R423). -/
def F.DRC_ECC_ADDR_LO_ADDR_LO : Fld := ⟨0x5C, 0, 32⟩
/-- `DRC_ECC_ADDR_HI.ADDR_HI` (16, R423). -/
def F.DRC_ECC_ADDR_HI_ADDR_HI : Fld := ⟨0x60, 0, 2⟩
/-- `DRC_ECC_ADDR_HI.UNCORR` (16, R423). -/
def F.DRC_ECC_ADDR_HI_UNCORR : Fld := ⟨0x60, 2, 1⟩
/-- `DRC_ECC_ADDR_HI.CLASS` (16, R423). -/
def F.DRC_ECC_ADDR_HI_CLASS : Fld := ⟨0x60, 3, 3⟩
/-- `DRC_ECC_ADDR_HI.CLEAR` (16, R423). -/
def F.DRC_ECC_ADDR_HI_CLEAR : Fld := ⟨0x60, 31, 1⟩
/-- `DRC_SCRUB.POS_MIB` (16, R423). -/
def F.DRC_SCRUB_POS_MIB : Fld := ⟨0x64, 0, 16⟩
/-- `DRC_SCRUB.PASSES` (16, R423). -/
def F.DRC_SCRUB_PASSES : Fld := ⟨0x64, 16, 16⟩
/-- `DRC_CNT.TRAINS` (16, R423). -/
def F.DRC_CNT_TRAINS : Fld := ⟨0x68, 0, 8⟩
/-- `DRC_CNT.ALERTS` (16, R423). -/
def F.DRC_CNT_ALERTS : Fld := ⟨0x68, 8, 8⟩
/-- `DRC_CNT.RANGE` (16, R423). -/
def F.DRC_CNT_RANGE : Fld := ⟨0x68, 16, 16⟩
/-- `DRC_HAu_WIN.BASE` (16, R423). -/
def F.DRC_HAu_WIN_BASE (n : Nat) : Fld := ⟨0x70 + 4 * n, 0, 15⟩
/-- `DRC_HAu_WIN.LIMIT` (16, R423). -/
def F.DRC_HAu_WIN_LIMIT (n : Nat) : Fld := ⟨0x70 + 4 * n, 16, 15⟩
/-- `DRC_WINw_ADDR_LO.ADDR_LO` (16, R423). -/
def F.DRC_WINw_ADDR_LO_ADDR_LO (n : Nat) : Fld := ⟨0x80 + 16 * n, 0, 32⟩
/-- `DRC_WINw_ADDR_HI.ADDR_HI` (16, R423). -/
def F.DRC_WINw_ADDR_HI_ADDR_HI (n : Nat) : Fld := ⟨0x84 + 16 * n, 0, 2⟩
/-- `DRC_WINw_CTRL.LOAD` (16, R423). -/
def F.DRC_WINw_CTRL_LOAD (n : Nat) : Fld := ⟨0x88 + 16 * n, 0, 1⟩
/-- `DRC_WINw_CTRL.STORE` (16, R423). -/
def F.DRC_WINw_CTRL_STORE (n : Nat) : Fld := ⟨0x88 + 16 * n, 1, 1⟩
/-- `DRC_WINw_CTRL.COUNT` (16, R423). -/
def F.DRC_WINw_CTRL_COUNT (n : Nat) : Fld := ⟨0x88 + 16 * n, 8, 7⟩
/-- `DRC_WINw_CTRL.RESULT` (16, R423). -/
def F.DRC_WINw_CTRL_RESULT (n : Nat) : Fld := ⟨0x88 + 16 * n, 16, 3⟩
/-- `DRC_WINw_BUF.DATA` (16, R423). -/
def F.DRC_WINw_BUF_DATA (n : Nat) : Fld := ⟨0x100 + 4 * n, 0, 32⟩

-- CPT page
/-- `CPT_CFG.INST_EN` (17, R442). -/
def F.CPT_CFG_INST_EN : Fld := ⟨0x40, 0, 8⟩
/-- `CPT_CFG.UP_SEL` (17, R442). -/
def F.CPT_CFG_UP_SEL : Fld := ⟨0x40, 8, 8⟩
/-- `CPT_CFG.DIRECT_U0` (17, R442). -/
def F.CPT_CFG_DIRECT_U0 : Fld := ⟨0x40, 16, 1⟩
/-- `CPT_CFG.DIRECT_U1` (17, R442). -/
def F.CPT_CFG_DIRECT_U1 : Fld := ⟨0x40, 17, 1⟩
/-- `CPT_STATUS.ATTACHED` (17, R442). -/
def F.CPT_STATUS_ATTACHED : Fld := ⟨0x44, 0, 8⟩
/-- `CPT_STATUS.HOLDING` (17, R442). -/
def F.CPT_STATUS_HOLDING : Fld := ⟨0x44, 8, 8⟩
/-- `CPT_STATUS.DIRECT_U0` (17, R442). -/
def F.CPT_STATUS_DIRECT_U0 : Fld := ⟨0x44, 16, 1⟩
/-- `CPT_STATUS.DIRECT_U1` (17, R442). -/
def F.CPT_STATUS_DIRECT_U1 : Fld := ⟨0x44, 17, 1⟩
/-- `CPT_STATUS.COMPAT` (17, R442). -/
def F.CPT_STATUS_COMPAT : Fld := ⟨0x44, 18, 1⟩
/-- `CPT_STATUS.PAR_INST` (17, R442). -/
def F.CPT_STATUS_PAR_INST : Fld := ⟨0x44, 24, 3⟩
/-- `CPT_CTRL.INST_RESET` (17, R442). -/
def F.CPT_CTRL_INST_RESET : Fld := ⟨0x48, 0, 8⟩
/-- `CPT_CNT.ATTACH_CMDS` (17, R442). -/
def F.CPT_CNT_ATTACH_CMDS : Fld := ⟨0x4C, 0, 8⟩
/-- `CPT_CNT.HOLD_TIMEOUTS` (17, R442). -/
def F.CPT_CNT_HOLD_TIMEOUTS : Fld := ⟨0x4C, 8, 8⟩
/-- `CPT_CNT.OVERCURRENTS` (17, R442). -/
def F.CPT_CNT_OVERCURRENTS : Fld := ⟨0x4C, 16, 8⟩
/-- `CPT_CNT.LOCKED_WRITES` (17, R442). -/
def F.CPT_CNT_LOCKED_WRITES : Fld := ⟨0x4C, 24, 8⟩

-- HLT page
/-- `HLT_CFG.THROTTLE_C` (18, R458). -/
def F.HLT_CFG_THROTTLE_C : Fld := ⟨0x40, 0, 8⟩
/-- `HLT_CFG.SHED_C` (18, R458). -/
def F.HLT_CFG_SHED_C : Fld := ⟨0x40, 8, 8⟩
/-- `HLT_CFG.HYST` (18, R458). -/
def F.HLT_CFG_HYST : Fld := ⟨0x40, 16, 4⟩
/-- `HLT_CFG.SHED_STEP` (18, R458). -/
def F.HLT_CFG_SHED_STEP : Fld := ⟨0x40, 20, 4⟩
/-- `HLT_CFG.QUAR_AUTO` (18, R458). -/
def F.HLT_CFG_QUAR_AUTO : Fld := ⟨0x40, 24, 8⟩
/-- `HLT_STATUS.LEVEL` (18, R458). -/
def F.HLT_STATUS_LEVEL : Fld := ⟨0x44, 0, 2⟩
/-- `HLT_STATUS.SHED_STEPS` (18, R458). -/
def F.HLT_STATUS_SHED_STEPS : Fld := ⟨0x44, 4, 4⟩
/-- `HLT_STATUS.HOT_SENSOR` (18, R458). -/
def F.HLT_STATUS_HOT_SENSOR : Fld := ⟨0x44, 8, 3⟩
/-- `HLT_STATUS.TEMP_MAX` (18, R458). -/
def F.HLT_STATUS_TEMP_MAX : Fld := ⟨0x44, 16, 11⟩
/-- `HLT_TEMPs.TEMP` (18, R458). -/
def F.HLT_TEMPs_TEMP (n : Nat) : Fld := ⟨0x48 + 4 * n, 0, 11⟩
/-- `HLT_TEMPs.PEAK` (18, R458). -/
def F.HLT_TEMPs_PEAK (n : Nat) : Fld := ⟨0x48 + 4 * n, 16, 11⟩
/-- `HLT_CTRL.PEAK_CLR` (18, R458). -/
def F.HLT_CTRL_PEAK_CLR : Fld := ⟨0x5C, 0, 1⟩
/-- `HLT_QUAR.QUAR` (18, R458). -/
def F.HLT_QUAR_QUAR (n : Nat) : Fld := ⟨0x60 + 4 * n, 0, 32⟩
/-- `HLT_QUAR_SET.SET` (18, R458). -/
def F.HLT_QUAR_SET_SET (n : Nat) : Fld := ⟨0x68 + 4 * n, 0, 32⟩
/-- `HLT_PLATE_ISO.ISO` (18, R458). -/
def F.HLT_PLATE_ISO_ISO : Fld := ⟨0x70, 0, 4⟩
/-- `HLT_PLATE_STATUS.ISOLATED` (18, R458). -/
def F.HLT_PLATE_STATUS_ISOLATED : Fld := ⟨0x78, 0, 4⟩
/-- `HLT_PLATE_STATUS.RESTORING` (18, R458). -/
def F.HLT_PLATE_STATUS_RESTORING : Fld := ⟨0x78, 4, 4⟩
/-- `HLT_ERR_SUM.ERR` (18, R458). -/
def F.HLT_ERR_SUM_ERR (n : Nat) : Fld := ⟨0x7C + 4 * n, 0, 32⟩
/-- `HLT_PARITY_CNT.COUNT` (18, R458). -/
def F.HLT_PARITY_CNT_COUNT : Fld := ⟨0x84, 0, 16⟩
/-- `HLT_PARITY_LAST.ADDR` (18, R458). -/
def F.HLT_PARITY_LAST_ADDR : Fld := ⟨0x88, 0, 26⟩
/-- `HLT_UPD_CFG.KIND` (18, R458). -/
def F.HLT_UPD_CFG_KIND : Fld := ⟨0x8C, 0, 2⟩
/-- `HLT_UPD_CFG.INSTANCE` (18, R458). -/
def F.HLT_UPD_CFG_INSTANCE : Fld := ⟨0x8C, 8, 1⟩
/-- `HLT_UPD_PORTS.PORTS` (18, R458). -/
def F.HLT_UPD_PORTS_PORTS (n : Nat) : Fld := ⟨0x90 + 4 * n, 0, 32⟩
/-- `HLT_UPD_CTRL.GO` (18, R458). -/
def F.HLT_UPD_CTRL_GO : Fld := ⟨0x98, 0, 1⟩
/-- `HLT_UPD_STATUS.BUSY` (18, R458). -/
def F.HLT_UPD_STATUS_BUSY : Fld := ⟨0x9C, 0, 1⟩
/-- `HLT_UPD_STATUS.RESULT` (18, R458). -/
def F.HLT_UPD_STATUS_RESULT : Fld := ⟨0x9C, 1, 3⟩
/-- `HLT_UPD_STATUS.SKIPPED` (18, R458). -/
def F.HLT_UPD_STATUS_SKIPPED : Fld := ⟨0x9C, 16, 16⟩
/-- `HLT_Pk_U2_BYTES.BYTES` (18, R458). -/
def F.HLT_Pk_U2_BYTES_BYTES (n : Nat) : Fld := ⟨0x100 + 16 * n, 0, 32⟩
/-- `HLT_Pk_U2_BYTES_HI.BYTES` (18, R458). -/
def F.HLT_Pk_U2_BYTES_HI_BYTES (n : Nat) : Fld := ⟨0x104 + 16 * n, 0, 32⟩
/-- `HLT_Pk_SS_BYTES.BYTES` (18, R458). -/
def F.HLT_Pk_SS_BYTES_BYTES (n : Nat) : Fld := ⟨0x108 + 16 * n, 0, 32⟩
/-- `HLT_Pk_SS_BYTES_HI.BYTES` (18, R458). -/
def F.HLT_Pk_SS_BYTES_HI_BYTES (n : Nat) : Fld := ⟨0x10C + 16 * n, 0, 32⟩

-- UPS page
/-- `UPS_CFG.MAX_GEN` (19, R462). -/
def F.UPS_CFG_MAX_GEN : Fld := ⟨0x40, 0, 1⟩
/-- `UPS_CFG.RECOV_LIMIT` (19, R462). -/
def F.UPS_CFG_RECOV_LIMIT : Fld := ⟨0x40, 8, 8⟩
/-- `UPS_CC_STATUS.ATTACHED` (19, R462). -/
def F.UPS_CC_STATUS_ATTACHED : Fld := ⟨0x44, 0, 1⟩
/-- `UPS_CC_STATUS.ORIENT` (19, R462). -/
def F.UPS_CC_STATUS_ORIENT : Fld := ⟨0x44, 1, 1⟩
/-- `UPS_CC_STATUS.ORIENT_VALID` (19, R462). -/
def F.UPS_CC_STATUS_ORIENT_VALID : Fld := ⟨0x44, 2, 1⟩
/-- `UPS_CC_STATUS.RP_LVL` (19, R462). -/
def F.UPS_CC_STATUS_RP_LVL : Fld := ⟨0x44, 3, 2⟩
/-- `UPS_CC_STATUS.VBUS` (19, R462). -/
def F.UPS_CC_STATUS_VBUS : Fld := ⟨0x44, 16, 12⟩
/-- `UPS_LINK_STATUS.LINK_STATE` (19, R462). -/
def F.UPS_LINK_STATUS_LINK_STATE : Fld := ⟨0x48, 0, 4⟩
/-- `UPS_LINK_STATUS.GEN2` (19, R462). -/
def F.UPS_LINK_STATUS_GEN2 : Fld := ⟨0x48, 4, 1⟩
/-- `UPS_LINK_STATUS.X2` (19, R462). -/
def F.UPS_LINK_STATUS_X2 : Fld := ⟨0x48, 5, 1⟩
/-- `UPS_LINK_STATUS.U2_ONLY` (19, R462). -/
def F.UPS_LINK_STATUS_U2_ONLY : Fld := ⟨0x48, 6, 1⟩
/-- `UPS_ERR.SYMBOL` (19, R462). -/
def F.UPS_ERR_SYMBOL : Fld := ⟨0x4C, 0, 8⟩
/-- `UPS_ERR.HDR_CRC` (19, R462). -/
def F.UPS_ERR_HDR_CRC : Fld := ⟨0x4C, 8, 8⟩
/-- `UPS_ERR.LINK_ERR` (19, R462). -/
def F.UPS_ERR_LINK_ERR : Fld := ⟨0x4C, 16, 8⟩
/-- `UPS_ERR.RECOV` (19, R462). -/
def F.UPS_ERR_RECOV : Fld := ⟨0x4C, 24, 8⟩

/-! ### Register tables -/

/-- The common page header (R50). -/
def headerRegs : List RegDesc :=
  [⟨0x00, 1, 4, [⟨8, 24, .ro, .none, 0⟩]⟩,
   ⟨0x04, 1, 4, [⟨0, 1, .rw, .la, 1⟩, ⟨1, 1, .cmd, .lr, 0⟩]⟩,
   ⟨0x08, 1, 4, [⟨0, 32, .ro, .none, 0⟩]⟩,
   ⟨0x0C, 1, 4, [⟨0, 31, .w1c, .none, 0⟩, ⟨31, 1, .ro, .none, 0⟩]⟩,
   ⟨0x10, 1, 4, [⟨0, 32, .rw, .ls, 0⟩]⟩,
   ⟨0x14, 1, 4, [⟨0, 32, .w1c, .none, 0⟩]⟩,
   ⟨0x18, 1, 4, [⟨0, 32, .ro, .none, 0⟩]⟩,
   ⟨0x1C, 1, 4, [⟨0, 32, .ro, .none, 0⟩]⟩]

/-- CLK page (01 R23). -/
def clkRegs : List RegDesc :=
  [⟨0x40, 1, 4, [⟨0, 1, .ro, .none, 0⟩, ⟨1, 1, .ro, .none, 0⟩, ⟨2, 1, .ro, .none, 0⟩, ⟨3, 1, .ro, .none, 0⟩, ⟨4, 4, .ro, .none, 0⟩, ⟨16, 16, .cnt, .ls, 0⟩]⟩,
   ⟨0x44, 1, 4, [⟨0, 1, .rwg, .lr, 1⟩, ⟨1, 1, .rwg, .lr, 1⟩, ⟨2, 4, .rwg, .lr, 15⟩]⟩,
   ⟨0x4C, 1, 4, [⟨0, 4, .rwg, .lr, 0⟩, ⟨4, 1, .rwg, .lr, 0⟩, ⟨5, 1, .rwg, .lr, 0⟩, ⟨6, 1, .rwg, .lr, 0⟩, ⟨7, 1, .rwg, .lr, 0⟩]⟩,
   ⟨0x54, 2, 4, [⟨0, 32, .rw, .lr, 0⟩]⟩,
   ⟨0x5C, 1, 4, [⟨0, 4, .ro, .none, 0⟩, ⟨4, 1, .ro, .none, 0⟩, ⟨5, 1, .ro, .none, 0⟩, ⟨6, 1, .ro, .none, 0⟩, ⟨8, 3, .ro, .none, 0⟩]⟩,
   ⟨0x60, 2, 4, [⟨0, 32, .ro, .none, 4294967295⟩]⟩]

/-- GLB page (04 R91, 06 R154, 19 R461), with the minor revision of R1. DESIGN CHOICE, log 78. -/
def glbRegs : List RegDesc :=
  [⟨0x40, 1, 4, [⟨0, 32, .ro, .none, 1679204608⟩]⟩,
   ⟨0x48, 1, 4, [⟨0, 32, .ro, .none, 0⟩]⟩,
   ⟨0x4C, 1, 4, [⟨0, 32, .ro, .none, 0⟩]⟩,
   ⟨0x60, 1, 4, [⟨0, 4, .ro, .none, 0⟩, ⟨4, 1, .ro, .none, 0⟩, ⟨5, 1, .ro, .none, 0⟩, ⟨6, 2, .ro, .none, 0⟩, ⟨8, 1, .ro, .none, 0⟩, ⟨9, 1, .ro, .none, 0⟩]⟩,
   ⟨0x64, 1, 4, [⟨0, 1, .ro, .none, 0⟩, ⟨1, 1, .ro, .none, 0⟩, ⟨2, 1, .ro, .none, 0⟩, ⟨3, 1, .ro, .none, 0⟩, ⟨4, 1, .ro, .none, 0⟩, ⟨5, 1, .ro, .none, 0⟩, ⟨6, 4, .ro, .none, 0⟩, ⟨10, 1, .ro, .none, 0⟩, ⟨11, 2, .ro, .none, 0⟩, ⟨13, 1, .ro, .none, 0⟩]⟩,
   ⟨0x68, 1, 4, [⟨0, 1, .ro, .none, 0⟩, ⟨1, 2, .ro, .none, 0⟩, ⟨3, 1, .ro, .none, 0⟩]⟩,
   ⟨0x100, 32, 16, [⟨0, 1, .ro, .none, 0⟩]⟩,
   ⟨0x104, 32, 16, [⟨0, 32, .wo, .none, 0⟩]⟩,
   ⟨0x108, 32, 16, [⟨0, 1, .ro, .none, 0⟩, ⟨1, 2, .ro, .none, 0⟩, ⟨4, 4, .ro, .none, 0⟩]⟩,
   ⟨0x300, 1, 4, [⟨0, 32, .rwg, .ls, 0⟩]⟩,
   ⟨0x308, 1, 4, [⟨0, 32, .ro, .none, 0⟩]⟩]

/-- MGT page (04 R107). -/
def mgtRegs0 : List RegDesc :=
  [⟨0x40, 1, 4, [⟨0, 4, .ro, .none, 0⟩, ⟨4, 1, .ro, .none, 0⟩]⟩,
   ⟨0x44, 1, 4, [⟨0, 1, .rwg, .ls, 0⟩, ⟨1, 1, .rwg, .ls, 0⟩]⟩,
   ⟨0x4C, 1, 4, [⟨0, 3, .rw, .ls, 0⟩, ⟨3, 1, .rw, .ls, 0⟩, ⟨4, 3, .rw, .ls, 0⟩, ⟨7, 1, .rw, .ls, 0⟩, ⟨8, 4, .rw, .ls, 0⟩, ⟨12, 1, .rw, .ls, 0⟩, ⟨16, 4, .rw, .ls, 0⟩, ⟨20, 1, .rw, .ls, 0⟩]⟩,
   ⟨0x50, 1, 4, [⟨0, 2, .rw, .lr, 1⟩, ⟨2, 1, .rw, .lr, 1⟩]⟩,
   ⟨0x54, 2, 4, [⟨0, 7, .rw, .lr, 44⟩, ⟨7, 1, .rw, .lr, 1⟩, ⟨8, 7, .rw, .lr, 45⟩, ⟨15, 1, .rw, .lr, 1⟩, ⟨16, 7, .rw, .lr, 46⟩, ⟨23, 1, .rw, .lr, 1⟩, ⟨24, 7, .rw, .lr, 47⟩, ⟨31, 1, .rw, .lr, 1⟩]⟩,
   ⟨0x5C, 1, 4, [⟨0, 1, .ro, .none, 0⟩, ⟨8, 8, .cnt, .ls, 0⟩]⟩,
   ⟨0x60, 1, 4, [⟨0, 8, .rw, .ls, 50⟩, ⟨8, 2, .rw, .ls, 3⟩, ⟨16, 8, .rw, .ls, 10⟩]⟩,
   ⟨0x64, 1, 4, [⟨0, 1, .ro, .none, 0⟩, ⟨1, 1, .ro, .none, 0⟩, ⟨2, 1, .ro, .none, 0⟩, ⟨3, 1, .ro, .none, 0⟩, ⟨4, 1, .ro, .none, 0⟩, ⟨5, 1, .ro, .none, 0⟩, ⟨16, 16, .ro, .none, 0⟩]⟩,
   ⟨0x68, 1, 4, [⟨0, 32, .ro, .none, 0⟩]⟩,
   ⟨0x6C, 1, 4, [⟨0, 16, .cnt, .ls, 0⟩, ⟨16, 16, .cnt, .ls, 0⟩]⟩,
   ⟨0x70, 1, 4, [⟨0, 16, .ro, .none, 0⟩, ⟨16, 16, .ro, .none, 0⟩]⟩,
   ⟨0x74, 1, 4, [⟨0, 16, .cnt, .ls, 0⟩, ⟨16, 16, .cnt, .ls, 0⟩]⟩]

/-- MGT page (04 R107). -/
def mgtRegs1 : List RegDesc :=
  [⟨0x80, 4, 4, [⟨0, 1, .w1c, .none, 0⟩, ⟨1, 1, .w1c, .none, 0⟩, ⟨2, 1, .w1c, .none, 0⟩, ⟨3, 1, .w1c, .none, 0⟩, ⟨4, 1, .w1c, .none, 0⟩, ⟨5, 1, .w1c, .none, 0⟩, ⟨6, 1, .w1c, .none, 0⟩, ⟨7, 1, .w1c, .none, 0⟩, ⟨16, 4, .ro, .none, 0⟩]⟩]

/-- The block registers of the MGT page. -/
def mgtRegs : List RegDesc := mgtRegs0 ++ mgtRegs1

/-- EVQ page (05 R129). -/
def evqRegs0 : List RegDesc :=
  [⟨0x40, 4, 64, [⟨0, 32, .ro, .none, 0⟩]⟩,
   ⟨0x44, 4, 64, [⟨0, 32, .ro, .none, 0⟩]⟩,
   ⟨0x48, 4, 64, [⟨0, 32, .ro, .none, 0⟩]⟩,
   ⟨0x4C, 4, 64, [⟨0, 32, .ro, .none, 0⟩]⟩,
   ⟨0x50, 4, 64, [⟨0, 32, .ro, .none, 0⟩]⟩,
   ⟨0x54, 4, 64, [⟨0, 32, .ro, .none, 0⟩]⟩,
   ⟨0x58, 4, 64, [⟨0, 32, .ro, .none, 0⟩]⟩,
   ⟨0x5C, 4, 64, [⟨0, 32, .ro, .none, 0⟩]⟩,
   ⟨0x60, 4, 64, [⟨0, 7, .rw, .ls, 48⟩, ⟨8, 3, .rw, .ls, 0⟩, ⟨16, 1, .rw, .ls, 0⟩]⟩,
   ⟨0x64, 4, 64, [⟨1, 9, .rw, .ls, 511⟩, ⟨15, 1, .rw, .ls, 1⟩]⟩,
   ⟨0x68, 4, 64, [⟨0, 8, .ro, .none, 0⟩, ⟨8, 8, .ro, .none, 0⟩, ⟨16, 10, .ro, .none, 0⟩]⟩,
   ⟨0x6C, 4, 64, [⟨0, 8, .w1c, .none, 0⟩]⟩]

/-- EVQ page (05 R129). -/
def evqRegs1 : List RegDesc :=
  [⟨0x70, 4, 64, [⟨0, 32, .cnt, .ls, 0⟩]⟩,
   ⟨0x74, 4, 64, [⟨0, 10, .cnt, .ls, 0⟩]⟩,
   ⟨0x78, 4, 64, [⟨0, 1, .cmd, .la, 0⟩]⟩]

/-- The block registers of the EVQ page. -/
def evqRegs : List RegDesc := evqRegs0 ++ evqRegs1

/-- CFG page (06 R155). -/
def cfgRegs : List RegDesc :=
  [⟨0x40, 1, 4, [⟨0, 1, .ro, .none, 0⟩, ⟨1, 1, .ro, .none, 0⟩, ⟨2, 1, .ro, .none, 0⟩, ⟨3, 1, .ro, .none, 0⟩, ⟨4, 1, .ro, .none, 0⟩, ⟨5, 3, .ro, .none, 0⟩, ⟨8, 8, .ro, .none, 0⟩]⟩,
   ⟨0x44, 1, 4, [⟨0, 32, .ro, .none, 0⟩]⟩,
   ⟨0x48, 2, 4, [⟨0, 32, .ro, .none, 0⟩]⟩,
   ⟨0x50, 2, 4, [⟨0, 32, .ro, .none, 0⟩]⟩,
   ⟨0x58, 1, 4, [⟨0, 16, .ro, .none, 0⟩, ⟨16, 16, .ro, .none, 0⟩]⟩,
   ⟨0x5C, 1, 4, [⟨0, 1, .cmd, .none, 0⟩, ⟨1, 1, .cmd, .none, 0⟩, ⟨2, 1, .cmd, .none, 0⟩]⟩,
   ⟨0x60, 1, 4, [⟨2, 15, .rw, .ls, 0⟩]⟩,
   ⟨0x64, 1, 4, [⟨0, 32, .wo, .none, 0⟩]⟩,
   ⟨0x68, 1, 4, [⟨0, 32, .ro, .none, 0⟩]⟩]

/-- PWE page (07 R179). -/
def pweRegs : List RegDesc :=
  [⟨0x40, 1, 4, [⟨0, 8, .rwg, .ls, 27⟩, ⟨8, 8, .rwg, .ls, 75⟩, ⟨16, 5, .rwg, .ls, 10⟩, ⟨24, 5, .rwg, .ls, 10⟩]⟩,
   ⟨0x48, 1, 4, [⟨0, 6, .rwg, .ls, 10⟩, ⟨8, 4, .rwg, .ls, 5⟩, ⟨16, 6, .rwg, .ls, 20⟩]⟩,
   ⟨0x50, 1, 4, [⟨0, 6, .rwg, .ls, 2⟩, ⟨8, 1, .rwg, .ls, 1⟩, ⟨9, 1, .rwg, .ls, 0⟩, ⟨10, 1, .rwg, .ls, 0⟩]⟩,
   ⟨0x58, 1, 4, [⟨0, 8, .rwg, .ls, 255⟩]⟩,
   ⟨0x60, 1, 4, [⟨0, 3, .ro, .none, 0⟩, ⟨3, 2, .ro, .none, 0⟩, ⟨5, 1, .ro, .none, 0⟩, ⟨6, 1, .ro, .none, 0⟩, ⟨7, 1, .ro, .none, 0⟩, ⟨8, 4, .ro, .none, 0⟩, ⟨12, 3, .ro, .none, 0⟩, ⟨15, 3, .ro, .none, 0⟩]⟩,
   ⟨0x64, 1, 4, [⟨0, 10, .ro, .none, 0⟩, ⟨10, 1, .ro, .none, 0⟩, ⟨16, 10, .ro, .none, 0⟩, ⟨26, 1, .ro, .none, 0⟩]⟩,
   ⟨0x68, 1, 4, [⟨0, 10, .ro, .none, 0⟩, ⟨16, 16, .ro, .none, 0⟩]⟩,
   ⟨0x6C, 1, 4, [⟨0, 16, .ro, .none, 0⟩, ⟨16, 1, .ro, .none, 0⟩, ⟨17, 1, .ro, .none, 0⟩]⟩,
   ⟨0x70, 1, 4, [⟨0, 8, .cnt, .ls, 0⟩, ⟨8, 8, .cnt, .ls, 0⟩, ⟨16, 8, .cnt, .ls, 0⟩, ⟨24, 8, .cnt, .ls, 0⟩]⟩]

/-- BGT page (08 R200). -/
def bgtRegs : List RegDesc :=
  [⟨0x40, 1, 4, [⟨0, 17, .rw, .la, 3200⟩]⟩,
   ⟨0x44, 1, 4, [⟨0, 17, .rw, .la, 3200⟩]⟩,
   ⟨0x48, 1, 4, [⟨0, 17, .ro, .none, 0⟩, ⟨17, 1, .ro, .none, 0⟩, ⟨18, 1, .ro, .none, 0⟩]⟩,
   ⟨0x4C, 1, 4, [⟨0, 5, .rw, .ls, 5⟩, ⟨8, 8, .rw, .ls, 50⟩, ⟨16, 6, .rw, .ls, 5⟩]⟩,
   ⟨0x50, 1, 4, [⟨0, 12, .rw, .ls, 250⟩]⟩,
   ⟨0x54, 1, 4, [⟨0, 8, .rw, .ls, 150⟩, ⟨8, 8, .rw, .ls, 100⟩, ⟨16, 8, .rw, .ls, 100⟩, ⟨24, 8, .rw, .ls, 40⟩]⟩,
   ⟨0x58, 1, 4, [⟨0, 8, .rw, .ls, 80⟩, ⟨8, 8, .rw, .ls, 5⟩, ⟨16, 8, .rw, .ls, 2⟩]⟩,
   ⟨0x5C, 1, 4, [⟨0, 12, .ro, .none, 0⟩, ⟨16, 7, .ro, .none, 0⟩]⟩,
   ⟨0x60, 1, 4, [⟨0, 16, .cnt, .ls, 0⟩, ⟨16, 16, .cnt, .ls, 0⟩]⟩,
   ⟨0x80, 64, 4, [⟨0, 12, .rw, .la, 25⟩, ⟨12, 2, .rw, .ls, 1⟩]⟩,
   ⟨0x180, 64, 4, [⟨0, 12, .ro, .none, 0⟩, ⟨12, 3, .ro, .none, 0⟩]⟩]

/-- VBS page (08 R203). -/
def vbsRegs : List RegDesc :=
  [⟨0x40, 1, 4, [⟨0, 1, .rw, .la, 0⟩]⟩,
   ⟨0x44, 1, 4, [⟨0, 5, .rw, .ls, 2⟩, ⟨8, 4, .rw, .ls, 5⟩, ⟨12, 4, .rw, .ls, 10⟩, ⟨16, 8, .rw, .ls, 50⟩, ⟨24, 8, .rw, .ls, 65⟩]⟩,
   ⟨0x48, 1, 4, [⟨0, 4, .rw, .ls, 5⟩, ⟨4, 4, .rw, .ls, 3⟩, ⟨8, 6, .rw, .ls, 4⟩, ⟨16, 8, .rw, .ls, 50⟩]⟩,
   ⟨0x4C, 1, 4, [⟨0, 16, .rw, .ls, 8192⟩, ⟨16, 16, .rw, .ls, 1024⟩]⟩,
   ⟨0x50, 1, 4, [⟨0, 3, .ro, .none, 0⟩, ⟨3, 4, .ro, .none, 0⟩, ⟨7, 3, .ro, .none, 0⟩, ⟨10, 1, .ro, .none, 0⟩, ⟨11, 1, .ro, .none, 1⟩, ⟨12, 1, .ro, .none, 0⟩, ⟨13, 1, .ro, .none, 0⟩]⟩,
   ⟨0x54, 1, 4, [⟨0, 12, .ro, .none, 0⟩, ⟨16, 12, .ro, .none, 0⟩]⟩,
   ⟨0x58, 1, 4, [⟨0, 16, .ro, .none, 0⟩, ⟨16, 1, .ro, .none, 0⟩]⟩,
   ⟨0x5C, 1, 4, [⟨0, 16, .ro, .none, 0⟩, ⟨16, 16, .ro, .none, 0⟩]⟩,
   ⟨0x60, 1, 4, [⟨0, 8, .cnt, .ls, 0⟩, ⟨8, 8, .cnt, .ls, 0⟩, ⟨16, 8, .cnt, .ls, 0⟩, ⟨24, 8, .cnt, .ls, 0⟩]⟩]

/-- Whether a port is a full port: one of the first four of its plate. -/
def isFullPort (p : Port) : Bool := p.val % 16 < 4

/-- TCP page (09 R228, 10 R263). -/
def tcpRegs0 : List RegDesc :=
  [⟨0x40, 1, 4, [⟨0, 1, .rw, .lr, 0⟩, ⟨1, 1, .rw, .lr, 1⟩, ⟨2, 1, .rw, .lr, 1⟩, ⟨3, 1, .rw, .ls, 1⟩, ⟨4, 2, .rw, .ls, 2⟩, ⟨6, 2, .rw, .ls, 2⟩]⟩,
   ⟨0x44, 1, 4, [⟨0, 8, .rw, .ls, 100⟩, ⟨8, 5, .rw, .ls, 12⟩]⟩,
   ⟨0x48, 1, 4, [⟨0, 4, .ro, .none, 0⟩, ⟨4, 1, .ro, .none, 0⟩, ⟨5, 1, .ro, .none, 0⟩, ⟨6, 2, .ro, .none, 0⟩, ⟨8, 3, .ro, .none, 0⟩, ⟨11, 3, .ro, .none, 0⟩, ⟨14, 1, .ro, .none, 0⟩, ⟨15, 2, .ro, .none, 0⟩, ⟨17, 1, .ro, .none, 0⟩, ⟨18, 1, .ro, .none, 0⟩]⟩,
   ⟨0x4C, 1, 4, [⟨0, 1, .cmd, .lr, 0⟩]⟩,
   ⟨0x50, 1, 4, [⟨0, 8, .cnt, .ls, 0⟩, ⟨8, 8, .cnt, .ls, 0⟩, ⟨16, 8, .cnt, .ls, 0⟩, ⟨24, 8, .cnt, .ls, 0⟩]⟩,
   ⟨0x80, 1, 4, [⟨0, 4, .ro, .none, 0⟩, ⟨4, 1, .ro, .none, 0⟩, ⟨5, 1, .ro, .none, 0⟩, ⟨6, 1, .ro, .none, 0⟩, ⟨7, 1, .ro, .none, 0⟩, ⟨8, 1, .ro, .none, 0⟩, ⟨9, 1, .ro, .none, 0⟩, ⟨10, 1, .ro, .none, 0⟩, ⟨11, 2, .ro, .none, 0⟩, ⟨13, 3, .ro, .none, 0⟩]⟩,
   ⟨0x84, 1, 4, [⟨0, 16, .ro, .none, 0⟩, ⟨16, 9, .ro, .none, 0⟩, ⟨25, 3, .ro, .none, 0⟩, ⟨28, 4, .ro, .none, 0⟩]⟩,
   ⟨0x88, 1, 4, [⟨0, 32, .ro, .none, 0⟩]⟩,
   ⟨0x8C, 1, 4, [⟨0, 1, .ro, .none, 0⟩, ⟨1, 1, .ro, .none, 0⟩, ⟨2, 2, .ro, .none, 0⟩, ⟨4, 2, .ro, .none, 0⟩, ⟨6, 1, .ro, .none, 0⟩, ⟨7, 1, .ro, .none, 0⟩, ⟨8, 5, .ro, .none, 0⟩]⟩,
   ⟨0x90, 1, 4, [⟨0, 1, .cmd, .la, 0⟩, ⟨1, 1, .cmd, .la, 0⟩, ⟨2, 1, .cmd, .ls, 0⟩, ⟨3, 1, .cmd, .ls, 0⟩, ⟨4, 1, .cmd, .la, 0⟩]⟩,
   ⟨0x94, 1, 4, [⟨0, 8, .cnt, .ls, 0⟩, ⟨8, 8, .cnt, .ls, 0⟩, ⟨16, 8, .cnt, .ls, 0⟩, ⟨24, 8, .cnt, .ls, 0⟩]⟩,
   ⟨0x98, 1, 4, [⟨0, 4, .ro, .none, 0⟩, ⟨4, 3, .ro, .none, 0⟩, ⟨7, 1, .ro, .none, 0⟩, ⟨8, 1, .ro, .none, 0⟩, ⟨9, 1, .ro, .none, 0⟩, ⟨10, 1, .ro, .none, 0⟩, ⟨16, 12, .ro, .none, 0⟩]⟩]

/-- TCP page (10 R263). `TCP_PDO8`–`TCP_PDO11` of a basic port are ignored and read zero (R236). DEDUCED, log 77. -/
def tcpRegs1 (isFull : Bool) : List RegDesc :=
  [⟨0x100, 1, 4, [⟨0, 1, .ro, .none, 1⟩, ⟨2, 1, .rw, .lr, 1⟩, ⟨3, 1, .rw, .ls, 1⟩, ⟨4, 1, .rw, .ls, 1⟩, ⟨5, 1, .rw, .ls, 1⟩, ⟨6, 1, .rw, .ls, 0⟩, ⟨7, 1, .rw, .ls, 0⟩, ⟨8, 1, .rw, .ls, 1⟩, ⟨12, 6, .rw, .ls, 25⟩]⟩,
   ⟨0x104, 7, 4, [⟨0, 32, .rw, .ls, 0⟩]⟩,
   ⟨0x120, 4, 4, [if isFull then ⟨0, 32, .rw, .ls, 0⟩ else ⟨0, 32, .ro, .none, 0⟩]⟩,
   ⟨0x130, 1, 4, [⟨0, 16, .rw, .ls, 0⟩, ⟨16, 1, .rw, .ls, 0⟩]⟩,
   ⟨0x134, 1, 4, [⟨0, 32, .rw, .ls, 0⟩]⟩,
   ⟨0x138, 1, 4, [⟨0, 32, .rw, .ls, 0⟩]⟩,
   ⟨0x13C, 1, 4, [⟨0, 16, .rw, .ls, 0⟩, ⟨16, 16, .rw, .ls, 0⟩]⟩]

/-- The block registers of the TCP page. -/
def tcpRegs (isFull : Bool) : List RegDesc := tcpRegs0 ++ tcpRegs1 isFull

/-- CON page (09 R230). -/
def conRegs : List RegDesc :=
  [⟨0x40, 1, 4, [⟨0, 1, .rw, .la, 1⟩, ⟨1, 2, .rw, .la, 0⟩, ⟨3, 1, .rw, .la, 0⟩, ⟨4, 1, .rw, .lr, 1⟩, ⟨5, 1, .rw, .la, 0⟩, ⟨6, 2, .rw, .ls, 0⟩]⟩,
   ⟨0x44, 1, 4, [⟨0, 22, .rw, .la, 8333⟩]⟩,
   ⟨0x48, 1, 4, [⟨0, 1, .ro, .none, 0⟩, ⟨1, 1, .ro, .none, 0⟩, ⟨2, 1, .ro, .none, 0⟩, ⟨3, 1, .ro, .none, 0⟩, ⟨4, 9, .ro, .none, 0⟩, ⟨13, 7, .ro, .none, 0⟩]⟩,
   ⟨0x4C, 1, 4, [⟨0, 8, .ro, .none, 0⟩, ⟨8, 1, .ro, .none, 0⟩, ⟨9, 1, .ro, .none, 0⟩, ⟨10, 1, .ro, .none, 0⟩]⟩,
   ⟨0x50, 1, 4, [⟨0, 8, .wo, .none, 0⟩]⟩,
   ⟨0x54, 1, 4, [⟨0, 8, .cnt, .ls, 0⟩, ⟨8, 8, .cnt, .ls, 0⟩, ⟨16, 8, .cnt, .ls, 0⟩, ⟨24, 8, .cnt, .ls, 0⟩]⟩]

/-- U2H page (11 R293). -/
def u2hRegs : List RegDesc :=
  [⟨0x40, 1, 4, [⟨0, 1, .rw, .ls, 1⟩, ⟨1, 2, .rw, .lr, 0⟩, ⟨3, 1, .rw, .ls, 1⟩]⟩,
   ⟨0x44, 1, 4, [⟨0, 5, .rw, .ls, 12⟩, ⟨5, 5, .rw, .ls, 20⟩, ⟨16, 8, .rw, .ls, 10⟩, ⟨24, 8, .rw, .ls, 100⟩]⟩,
   ⟨0x48, 2, 4, [⟨0, 7, .ro, .none, 0⟩, ⟨8, 2, .ro, .none, 0⟩, ⟨10, 3, .ro, .none, 0⟩, ⟨13, 1, .ro, .none, 0⟩, ⟨14, 1, .ro, .none, 0⟩]⟩,
   ⟨0x50, 1, 4, [⟨0, 8, .cnt, .ls, 0⟩, ⟨8, 8, .cnt, .ls, 0⟩, ⟨16, 8, .cnt, .ls, 0⟩]⟩]

/-- U2P page (11 R294). -/
def u2pRegs : List RegDesc :=
  [⟨0x40, 1, 4, [⟨0, 1, .rw, .ls, 1⟩, ⟨1, 1, .rw, .lr, 0⟩, ⟨2, 1, .rw, .ls, 1⟩]⟩,
   ⟨0x44, 1, 4, [⟨0, 4, .ro, .none, 0⟩, ⟨4, 2, .ro, .none, 0⟩, ⟨6, 2, .ro, .none, 0⟩, ⟨8, 1, .ro, .none, 0⟩, ⟨9, 3, .ro, .none, 0⟩, ⟨12, 4, .ro, .none, 0⟩, ⟨16, 1, .ro, .none, 0⟩]⟩,
   ⟨0x48, 1, 4, [⟨0, 16, .ro, .none, 0⟩, ⟨16, 16, .ro, .none, 0⟩]⟩,
   ⟨0x4C, 1, 4, [⟨0, 6, .ro, .none, 0⟩, ⟨6, 4, .ro, .none, 0⟩, ⟨10, 4, .ro, .none, 0⟩, ⟨14, 1, .ro, .none, 0⟩]⟩,
   ⟨0x50, 1, 4, [⟨0, 8, .cnt, .ls, 0⟩, ⟨8, 8, .cnt, .ls, 0⟩, ⟨16, 8, .cnt, .ls, 0⟩, ⟨24, 8, .cnt, .ls, 0⟩]⟩,
   ⟨0x54, 1, 4, [⟨0, 16, .cnt, .ls, 0⟩, ⟨16, 8, .cnt, .ls, 0⟩, ⟨24, 8, .cnt, .ls, 0⟩]⟩]

/-- SSH page (12 R321). -/
def sshRegs : List RegDesc :=
  [⟨0x40, 1, 4, [⟨0, 1, .rw, .lr, 1⟩, ⟨1, 1, .rw, .lr, 1⟩]⟩,
   ⟨0x44, 2, 4, [⟨0, 7, .ro, .none, 0⟩, ⟨8, 3, .ro, .none, 0⟩, ⟨11, 1, .ro, .none, 0⟩, ⟨12, 2, .ro, .none, 0⟩, ⟨14, 1, .ro, .none, 0⟩, ⟨15, 1, .ro, .none, 0⟩, ⟨16, 4, .ro, .none, 0⟩]⟩,
   ⟨0x4C, 1, 4, [⟨0, 16, .cnt, .ls, 0⟩, ⟨16, 16, .cnt, .ls, 0⟩]⟩,
   ⟨0x50, 1, 4, [⟨0, 8, .ro, .none, 0⟩, ⟨8, 8, .ro, .none, 0⟩]⟩]

/-- SSP page (12 R322). -/
def sspRegs : List RegDesc :=
  [⟨0x40, 1, 4, [⟨0, 1, .rw, .lr, 1⟩, ⟨1, 1, .rw, .ls, 1⟩, ⟨2, 1, .rw, .ls, 0⟩, ⟨3, 1, .rw, .ls, 1⟩, ⟨4, 1, .rw, .ls, 1⟩, ⟨8, 8, .rw, .ls, 16⟩]⟩,
   ⟨0x44, 1, 4, [⟨0, 4, .ro, .none, 4⟩, ⟨4, 1, .ro, .none, 0⟩, ⟨5, 1, .ro, .none, 0⟩, ⟨6, 1, .ro, .none, 0⟩, ⟨7, 1, .ro, .none, 0⟩, ⟨8, 8, .ro, .none, 0⟩, ⟨16, 8, .ro, .none, 0⟩, ⟨24, 1, .ro, .none, 0⟩, ⟨25, 3, .ro, .none, 0⟩]⟩,
   ⟨0x48, 1, 4, [⟨0, 8, .cnt, .ls, 0⟩, ⟨8, 8, .cnt, .ls, 0⟩, ⟨16, 8, .cnt, .ls, 0⟩, ⟨24, 8, .cnt, .ls, 0⟩]⟩,
   ⟨0x4C, 1, 4, [⟨0, 8, .cnt, .ls, 0⟩, ⟨8, 8, .cnt, .ls, 0⟩, ⟨16, 8, .cnt, .ls, 0⟩, ⟨24, 8, .cnt, .ls, 0⟩]⟩,
   ⟨0x50, 1, 4, [⟨0, 1, .cmd, .la, 0⟩, ⟨1, 1, .cmd, .la, 0⟩, ⟨2, 1, .cmd, .la, 0⟩]⟩,
   ⟨0x54, 1, 4, [⟨0, 8, .rw, .ls, 0⟩, ⟨8, 8, .rw, .ls, 0⟩, ⟨16, 8, .rw, .ls, 10⟩]⟩,
   ⟨0x58, 1, 4, [⟨0, 1, .cmd, .ls, 0⟩]⟩,
   ⟨0x5C, 1, 4, [⟨0, 24, .ro, .none, 0⟩, ⟨24, 2, .ro, .none, 0⟩]⟩,
   ⟨0x60, 1, 4, [⟨0, 32, .cnt, .ls, 0⟩]⟩]

/-- PRS page (13 R344). -/
def prsRegs : List RegDesc :=
  [⟨0x40, 1, 4, [⟨0, 1, .rw, .lr, 0⟩, ⟨1, 1, .rw, .lr, 0⟩, ⟨4, 1, .rw, .ls, 0⟩]⟩,
   ⟨0x44, 1, 4, [⟨0, 10, .rw, .ls, 50⟩, ⟨10, 2, .rw, .ls, 1⟩, ⟨12, 1, .rw, .ls, 0⟩, ⟨16, 6, .rw, .ls, 10⟩, ⟨24, 8, .rw, .ls, 0⟩]⟩,
   ⟨0x48, 1, 4, [⟨0, 1, .cmd, .lr, 0⟩, ⟨1, 1, .cmd, .lr, 0⟩, ⟨2, 1, .cmd, .ls, 0⟩]⟩,
   ⟨0x4C, 2, 4, [⟨0, 1, .ro, .none, 0⟩, ⟨1, 1, .ro, .none, 0⟩, ⟨2, 1, .ro, .none, 0⟩, ⟨3, 1, .ro, .none, 0⟩, ⟨4, 2, .ro, .none, 0⟩, ⟨6, 2, .ro, .none, 0⟩, ⟨8, 1, .ro, .none, 0⟩, ⟨9, 1, .ro, .none, 0⟩, ⟨10, 1, .ro, .none, 0⟩, ⟨11, 1, .ro, .none, 0⟩, ⟨16, 7, .ro, .none, 0⟩]⟩,
   ⟨0x54, 2, 4, [⟨0, 32, .ro, .none, 0⟩]⟩,
   ⟨0x5C, 1, 4, [⟨0, 8, .cnt, .ls, 0⟩, ⟨8, 8, .cnt, .ls, 0⟩, ⟨16, 16, .cnt, .ls, 0⟩]⟩,
   ⟨0x100, 64, 4, [⟨0, 2, .rw, .la, 1⟩, ⟨2, 2, .rw, .ls, 1⟩, ⟨4, 1, .rw, .ls, 0⟩, ⟨8, 2, .ro, .none, 1⟩, ⟨10, 1, .ro, .none, 0⟩, ⟨11, 1, .ro, .none, 0⟩]⟩]

/-- MGF page (14 R369). -/
def mgfRegs : List RegDesc :=
  [⟨0x40, 1, 4, [⟨0, 3, .rw, .ls, 0⟩, ⟨4, 3, .rw, .ls, 0⟩, ⟨8, 1, .rw, .ls, 1⟩]⟩,
   ⟨0x44, 2, 4, [⟨0, 7, .ro, .none, 0⟩, ⟨7, 1, .ro, .none, 0⟩, ⟨8, 2, .ro, .none, 0⟩, ⟨10, 1, .ro, .none, 0⟩, ⟨11, 3, .ro, .none, 0⟩, ⟨14, 1, .ro, .none, 0⟩, ⟨15, 1, .ro, .none, 0⟩, ⟨16, 1, .ro, .none, 0⟩, ⟨17, 1, .ro, .none, 0⟩]⟩,
   ⟨0x4C, 2, 4, [⟨0, 16, .ro, .none, 0⟩, ⟨16, 8, .ro, .none, 0⟩, ⟨24, 1, .ro, .none, 0⟩, ⟨25, 1, .ro, .none, 0⟩, ⟨26, 1, .ro, .none, 0⟩]⟩,
   ⟨0x54, 2, 4, [⟨0, 16, .cnt, .ls, 0⟩, ⟨16, 8, .cnt, .ls, 0⟩, ⟨24, 8, .cnt, .ls, 0⟩]⟩]

/-- EPM page (14 R372). -/
def epmRegs : List RegDesc :=
  [⟨0x40, 1, 4, [⟨0, 16, .cnt, .ls, 0⟩]⟩,
   ⟨0x44, 1, 4, [⟨0, 3, .ro, .none, 0⟩, ⟨3, 1, .ro, .none, 0⟩]⟩,
   ⟨0x48, 1, 4, [⟨2, 15, .rw, .ls, 0⟩]⟩,
   ⟨0x4C, 1, 4, [⟨0, 32, .ro, .none, 0⟩]⟩]

/-- GRV page (15 R406). -/
def grvRegs0 : List RegDesc :=
  [⟨0x40, 1, 4, [⟨0, 4, .rw, .ls, 2⟩, ⟨4, 4, .rw, .ls, 3⟩, ⟨8, 1, .rw, .ls, 1⟩]⟩,
   ⟨0x44, 1, 4, [⟨0, 9, .ro, .none, 0⟩, ⟨9, 2, .ro, .none, 0⟩, ⟨11, 1, .ro, .none, 0⟩, ⟨12, 1, .ro, .none, 0⟩]⟩,
   ⟨0x48, 1, 4, [⟨0, 16, .cnt, .ls, 0⟩, ⟨16, 16, .cnt, .ls, 0⟩]⟩,
   ⟨0x4C, 1, 4, [⟨2, 19, .rw, .ls, 0⟩]⟩,
   ⟨0x50, 1, 4, [⟨0, 32, .wo, .none, 0⟩]⟩,
   ⟨0x54, 1, 4, [⟨0, 32, .ro, .none, 0⟩]⟩,
   ⟨0x100, 4, 64, [⟨0, 32, .rw, .lr, 0⟩]⟩,
   ⟨0x104, 4, 64, [⟨0, 2, .rw, .lr, 0⟩, ⟨30, 2, .rw, .lr, 0⟩]⟩,
   ⟨0x108, 4, 64, [⟨0, 5, .rw, .lr, 0⟩, ⟨8, 1, .rw, .la, 0⟩]⟩,
   ⟨0x10C, 4, 64, [⟨0, 16, .rw, .ls, 0⟩]⟩,
   ⟨0x110, 4, 64, [⟨0, 16, .ro, .none, 0⟩]⟩,
   ⟨0x114, 4, 64, [⟨0, 32, .rw, .lr, 0⟩]⟩]

/-- GRV page (15 R406). -/
def grvRegs1 : List RegDesc :=
  [⟨0x118, 4, 64, [⟨0, 2, .rw, .lr, 0⟩, ⟨30, 2, .rw, .lr, 0⟩]⟩,
   ⟨0x11C, 4, 64, [⟨0, 5, .rw, .lr, 0⟩]⟩,
   ⟨0x120, 4, 64, [⟨0, 16, .ro, .none, 0⟩]⟩,
   ⟨0x124, 4, 64, [⟨0, 16, .rw, .ls, 0⟩]⟩,
   ⟨0x128, 4, 64, [⟨0, 1, .ro, .none, 0⟩, ⟨1, 8, .ro, .none, 0⟩]⟩]

/-- The block registers of the GRV page. -/
def grvRegs : List RegDesc := grvRegs0 ++ grvRegs1

/-- LHE page (15 R408). -/
def lheRegs : List RegDesc :=
  [⟨0x40, 1, 4, [⟨0, 1, .rw, .ls, 1⟩, ⟨8, 7, .rw, .ls, 1⟩]⟩,
   ⟨0x44, 1, 4, [⟨0, 3, .ro, .none, 0⟩, ⟨3, 1, .ro, .none, 0⟩, ⟨4, 3, .ro, .none, 0⟩, ⟨7, 1, .ro, .none, 0⟩, ⟨8, 8, .ro, .none, 0⟩, ⟨16, 8, .ro, .none, 0⟩, ⟨24, 1, .ro, .none, 0⟩, ⟨25, 1, .ro, .none, 0⟩]⟩,
   ⟨0x48, 1, 4, [⟨0, 16, .ro, .none, 0⟩, ⟨16, 16, .ro, .none, 0⟩]⟩,
   ⟨0x4C, 1, 4, [⟨0, 32, .ro, .none, 0⟩]⟩,
   ⟨0x50, 1, 4, [⟨0, 32, .ro, .none, 0⟩]⟩,
   ⟨0x54, 1, 4, [⟨0, 32, .ro, .none, 0⟩]⟩,
   ⟨0x58, 1, 4, [⟨0, 32, .ro, .none, 0⟩]⟩,
   ⟨0x5C, 1, 4, [⟨0, 32, .ro, .none, 0⟩]⟩,
   ⟨0x60, 1, 4, [⟨0, 32, .cnt, .ls, 0⟩]⟩,
   ⟨0x64, 1, 4, [⟨0, 8, .cnt, .ls, 0⟩, ⟨8, 8, .cnt, .ls, 0⟩, ⟨16, 8, .cnt, .ls, 0⟩, ⟨24, 8, .cnt, .ls, 0⟩]⟩]

/-- DRC page (16 R423). -/
def drcRegs0 : List RegDesc :=
  [⟨0x40, 1, 4, [⟨0, 8, .rw, .ls, 24⟩, ⟨8, 1, .rw, .ls, 0⟩, ⟨9, 1, .rw, .ls, 1⟩, ⟨10, 1, .rw, .ls, 1⟩]⟩,
   ⟨0x44, 1, 4, [⟨0, 1, .rw, .lr, 0⟩, ⟨1, 1, .rw, .lr, 1⟩]⟩,
   ⟨0x48, 1, 4, [⟨0, 6, .rw, .lr, 20⟩, ⟨8, 6, .rw, .lr, 16⟩, ⟨16, 6, .rw, .lr, 20⟩, ⟨24, 6, .rw, .lr, 20⟩]⟩,
   ⟨0x4C, 1, 4, [⟨0, 8, .rw, .lr, 47⟩, ⟨8, 12, .rw, .lr, 793⟩]⟩,
   ⟨0x50, 1, 4, [⟨0, 4, .rw, .ls, 8⟩, ⟨4, 4, .rw, .ls, 2⟩, ⟨8, 4, .rw, .ls, 2⟩, ⟨12, 4, .rw, .ls, 1⟩]⟩,
   ⟨0x54, 1, 4, [⟨0, 3, .ro, .none, 0⟩, ⟨3, 5, .ro, .none, 0⟩, ⟨8, 1, .ro, .none, 0⟩, ⟨16, 16, .ro, .none, 0⟩]⟩,
   ⟨0x58, 1, 4, [⟨0, 16, .cnt, .ls, 0⟩, ⟨16, 16, .cnt, .ls, 0⟩]⟩,
   ⟨0x5C, 1, 4, [⟨0, 32, .ro, .none, 0⟩]⟩,
   ⟨0x60, 1, 4, [⟨0, 2, .ro, .none, 0⟩, ⟨2, 1, .ro, .none, 0⟩, ⟨3, 3, .ro, .none, 0⟩, ⟨31, 1, .cmd, .none, 0⟩]⟩,
   ⟨0x64, 1, 4, [⟨0, 16, .ro, .none, 0⟩, ⟨16, 16, .ro, .none, 0⟩]⟩,
   ⟨0x68, 1, 4, [⟨0, 8, .cnt, .ls, 0⟩, ⟨8, 8, .cnt, .ls, 0⟩, ⟨16, 16, .cnt, .ls, 0⟩]⟩,
   ⟨0x70, 2, 4, [⟨0, 15, .rw, .ls, 0⟩, ⟨16, 15, .rw, .ls, 16384⟩]⟩]

/-- DRC page (16 R423). -/
def drcRegs1 : List RegDesc :=
  [⟨0x80, 2, 16, [⟨0, 32, .rw, .ls, 0⟩]⟩,
   ⟨0x84, 2, 16, [⟨0, 2, .rw, .ls, 0⟩]⟩,
   ⟨0x88, 2, 16, [⟨0, 1, .cmd, .none, 0⟩, ⟨1, 1, .cmd, .none, 0⟩, ⟨8, 7, .rw, .ls, 64⟩, ⟨16, 3, .ro, .none, 0⟩]⟩,
   ⟨0x100, 128, 4, [⟨0, 32, .rw, .ls, 0⟩]⟩]

/-- The block registers of the DRC page. -/
def drcRegs : List RegDesc := drcRegs0 ++ drcRegs1

/-- CPT page (17 R442). -/
def cptRegs : List RegDesc :=
  [⟨0x40, 1, 4, [⟨0, 8, .rw, .lr, 255⟩, ⟨8, 8, .rw, .lr, 0⟩, ⟨16, 1, .rw, .lr, 0⟩, ⟨17, 1, .rw, .lr, 0⟩]⟩,
   ⟨0x44, 1, 4, [⟨0, 8, .ro, .none, 0⟩, ⟨8, 8, .ro, .none, 0⟩, ⟨16, 1, .ro, .none, 0⟩, ⟨17, 1, .ro, .none, 0⟩, ⟨18, 1, .ro, .none, 0⟩, ⟨24, 3, .ro, .none, 0⟩]⟩,
   ⟨0x48, 1, 4, [⟨0, 8, .cmd, .lr, 0⟩]⟩,
   ⟨0x4C, 1, 4, [⟨0, 8, .cnt, .ls, 0⟩, ⟨8, 8, .cnt, .ls, 0⟩, ⟨16, 8, .cnt, .ls, 0⟩, ⟨24, 8, .cnt, .ls, 0⟩]⟩]

/-- HLT page (18 R458). -/
def hltRegs0 : List RegDesc :=
  [⟨0x40, 1, 4, [⟨0, 8, .rw, .ls, 100⟩, ⟨8, 8, .rw, .ls, 110⟩, ⟨16, 4, .rw, .ls, 5⟩, ⟨20, 4, .rw, .ls, 1⟩, ⟨24, 8, .rw, .ls, 0⟩]⟩,
   ⟨0x44, 1, 4, [⟨0, 2, .ro, .none, 0⟩, ⟨4, 4, .ro, .none, 0⟩, ⟨8, 3, .ro, .none, 0⟩, ⟨16, 11, .ro, .none, 0⟩]⟩,
   ⟨0x48, 5, 4, [⟨0, 11, .ro, .none, 0⟩, ⟨16, 11, .ro, .none, 0⟩]⟩,
   ⟨0x5C, 1, 4, [⟨0, 1, .cmd, .ls, 0⟩]⟩,
   ⟨0x60, 2, 4, [⟨0, 32, .w1c, .none, 0⟩]⟩,
   ⟨0x68, 2, 4, [⟨0, 32, .wo, .none, 0⟩]⟩,
   ⟨0x70, 1, 4, [⟨0, 4, .rwg, .lr, 0⟩]⟩,
   ⟨0x78, 1, 4, [⟨0, 4, .ro, .none, 0⟩, ⟨4, 4, .ro, .none, 0⟩]⟩,
   ⟨0x7C, 2, 4, [⟨0, 32, .w1c, .none, 0⟩]⟩,
   ⟨0x84, 1, 4, [⟨0, 16, .cnt, .ls, 0⟩]⟩,
   ⟨0x88, 1, 4, [⟨0, 26, .ro, .none, 0⟩]⟩,
   ⟨0x8C, 1, 4, [⟨0, 2, .rw, .ls, 0⟩, ⟨8, 1, .rw, .ls, 0⟩]⟩]

/-- HLT page (18 R458). -/
def hltRegs1 : List RegDesc :=
  [⟨0x90, 2, 4, [⟨0, 32, .rw, .ls, 0⟩]⟩,
   ⟨0x98, 1, 4, [⟨0, 1, .cmd, .none, 0⟩]⟩,
   ⟨0x9C, 1, 4, [⟨0, 1, .ro, .none, 0⟩, ⟨1, 3, .ro, .none, 0⟩, ⟨16, 16, .ro, .none, 0⟩]⟩,
   ⟨0x100, 4, 16, [⟨0, 32, .cnt, .ls, 0⟩]⟩,
   ⟨0x104, 4, 16, [⟨0, 32, .cnt, .ls, 0⟩]⟩,
   ⟨0x108, 4, 16, [⟨0, 32, .cnt, .ls, 0⟩]⟩,
   ⟨0x10C, 4, 16, [⟨0, 32, .cnt, .ls, 0⟩]⟩]

/-- The block registers of the HLT page. -/
def hltRegs : List RegDesc := hltRegs0 ++ hltRegs1

/-- UPS page (19 R462). -/
def upsRegs : List RegDesc :=
  [⟨0x40, 1, 4, [⟨0, 1, .rw, .lr, 1⟩, ⟨8, 8, .rw, .ls, 16⟩]⟩,
   ⟨0x44, 1, 4, [⟨0, 1, .ro, .none, 0⟩, ⟨1, 1, .ro, .none, 0⟩, ⟨2, 1, .ro, .none, 0⟩, ⟨3, 2, .ro, .none, 0⟩, ⟨16, 12, .ro, .none, 0⟩]⟩,
   ⟨0x48, 1, 4, [⟨0, 4, .ro, .none, 4⟩, ⟨4, 1, .ro, .none, 0⟩, ⟨5, 1, .ro, .none, 0⟩, ⟨6, 1, .ro, .none, 0⟩]⟩,
   ⟨0x4C, 1, 4, [⟨0, 8, .cnt, .ls, 0⟩, ⟨8, 8, .cnt, .ls, 0⟩, ⟨16, 8, .cnt, .ls, 0⟩, ⟨24, 8, .cnt, .ls, 0⟩]⟩]

/-- The 256 byte registers of a compatibility window, one per word (R49). -/
def winRegs : List RegDesc := [⟨0x0, 256, 4, [⟨0, 8, .rw, .none, 0⟩]⟩]

/-- Every register of a page: the header, where the page has one (R49, R50), and the block registers. -/
def PageId.regs : PageId → List RegDesc
  | .glb => headerRegs ++ glbRegs
  | .clk => headerRegs ++ clkRegs
  | .mgt => headerRegs ++ mgtRegs
  | .evq => headerRegs ++ evqRegs
  | .cfg => headerRegs ++ cfgRegs
  | .pwe => headerRegs ++ pweRegs
  | .bgt => headerRegs ++ bgtRegs
  | .hlt => headerRegs ++ hltRegs
  | .cpt => headerRegs ++ cptRegs
  | .u2h _ => headerRegs ++ u2hRegs
  | .ssh _ => headerRegs ++ sshRegs
  | .prs => headerRegs ++ prsRegs
  | .mgf => headerRegs ++ mgfRegs
  | .epm => headerRegs ++ epmRegs
  | .grv => headerRegs ++ grvRegs
  | .drc => headerRegs ++ drcRegs
  | .ups _ => headerRegs ++ upsRegs
  | .tcp p => headerRegs ++ tcpRegs (isFullPort p)
  | .vbs _ => headerRegs ++ vbsRegs
  | .u2p _ => headerRegs ++ u2pRegs
  | .ssp _ => headerRegs ++ sspRegs
  | .con _ => headerRegs ++ conRegs
  | .lhe _ => headerRegs ++ lheRegs
  | .win _ => winRegs

/-- Whether a table row holds the register at page offset `off`. -/
def RegDesc.holds (r : RegDesc) (off : Nat) : Bool :=
  r.off ≤ off && (off - r.off) % r.stride == 0 && (off - r.off) / r.stride < r.count

/-- The register at a page offset, if one lies there. -/
def PageId.regAt (pg : PageId) (off : Nat) : Option RegDesc := pg.regs.find? (·.holds off)

/-- `TCP_PDOk` reset values (R263), `k` counted from 0. -/
def pdoReset (isFull : Bool) (k : Nat) : Nat :=
  match k, isFull with
  | 0, _ => 0x0001912C
  | 1, _ => 0x0002D12C
  | 2, _ => 0x0004B12C
  | 3, false => 0x0006412C
  | 3, true => 0x000641F4
  | 4, false => 0xC1A4213C
  | 4, true => 0xC1A42164
  | 7, true => 0x0008C1F4
  | 8, true => 0x000B41F4
  | 9, true => 0x000F01F4
  | 10, true => 0xD3C096F0
  | _, _ => 0

/-- The value of a word made of the reset values of its fields. -/
def packReset (fs : List FieldDesc) : Nat := fs.foldl (fun a f => a + (f.reset % 2 ^ f.width) * 2 ^ f.lo) 0

/-- The bytes of a PX2408's register file where no image gives others (R429): vendor and product ID, release, configuration 1 and 2,
maximum power, hub controller current and revision. -/
def winReset : Nat → Nat
  | 0x00 => 0x0E
  | 0x01 => 0x3B
  | 0x02 => 0x08
  | 0x03 => 0x24
  | 0x04 => 0x03
  | 0x05 => 0x01
  | 0x06 => 0xA2
  | 0x07 => 0x05
  | 0x0A => 0x01
  | 0x0B => 0x64
  | 0xFE => 0x03
  | _ => 0

/-- The reset value of the register at a page offset where the field maps give one value for each instance. -/
def instReset (pg : PageId) (off : Nat) : Option Nat :=
  match pg with
  | .bgt =>
    if h : 0x80 ≤ off ∧ off < 0x180 ∧ off % 4 = 0 then
      some ((if isFullPort ⟨(off - 0x80) / 4, by omega⟩ then 45 else 25) + 0x1000)
    else none
  | .evq =>
    if off = 0xE0 ∨ off = 0x120 then some 0x10030
    else if off = 0xE4 ∨ off = 0x124 then some 0x76
    else none
  | .tcp p => if 0x104 ≤ off ∧ off < 0x130 ∧ off % 4 = 0 then some (pdoReset (isFullPort p) ((off - 0x104) / 4)) else none
  | .mgt => if off = 0x58 then some 0xB3B2B1B0 else none
  | .win _ => some (winReset (off / 4))
  | _ => none

/-- The value the register at a byte address holds at reset where no image and no strap gives another: the reset column
of the field maps; zero at reserved locations (R72). -/
def resetWord (addr : Nat) : Word :=
  match pageAt addr with
  | none => 0
  | some pg =>
    let off := addr % 0x1000
    match instReset pg off with
    | some v => BitVec.ofNat 32 v
    | none =>
      if off = 0 then
        match pg with
        | .win _ => 0
        | _ => BitVec.ofNat 32 (pg.typeCode * 0x1000000 + pg.inst * 0x10000 + 0x100)
      else
        match pg.regAt off with
        | none => 0
        | some r => BitVec.ofNat 32 (packReset r.fields)

end Sys2Proof
end

