-- ==== Sys2Proof/Machine/Sparse.lean ====
section
/-! DEFINITION. Sparse storage in canonical form: a list of (key, value) pairs with keys strictly rising and no entry
equal to what an unlisted key reads as. The register file, the MRAM banks, the buffers and the DRAM are held so. -/

namespace Sys2Proof.Machine

/-- The entry listed for a key, if any. -/
def Sparse.find {α : Type} (l : List (Nat × α)) (k : Nat) : Option α :=
  match l with
  | [] => none
  | (a, v) :: t => if a = k then some v else Sparse.find t k

/-- What a key reads as: the listed value, else the default of that key. -/
def Sparse.get {α : Type} (dflt : Nat → α) (l : List (Nat × α)) (k : Nat) : α := (Sparse.find l k).getD (dflt k)

/-- The list without a key. -/
def Sparse.erase {α : Type} (l : List (Nat × α)) (k : Nat) : List (Nat × α) := l.filter (fun e => e.1 != k)

/-- The list with an entry put in its place by key. -/
def Sparse.insert {α : Type} (l : List (Nat × α)) (k : Nat) (v : α) : List (Nat × α) :=
  match l with
  | [] => [(k, v)]
  | (a, w) :: t => if k < a then (k, v) :: (a, w) :: t else (a, w) :: Sparse.insert t k v

/-- A write: writing what an unlisted key reads as removes the entry, so equal contents are equal lists. -/
def Sparse.put {α : Type} [DecidableEq α] (dflt : Nat → α) (l : List (Nat × α)) (k : Nat) (v : α) : List (Nat × α) :=
  if v = dflt k then Sparse.erase l k else Sparse.insert (Sparse.erase l k) k v

/-- The canonical form: keys strictly rising, no entry equal to its key's default. -/
abbrev Sparse.wf {α : Type} (dflt : Nat → α) (l : List (Nat × α)) : Prop :=
  l.Pairwise (fun a b => a.1 < b.1) ∧ ∀ e ∈ l, e.2 ≠ dflt e.1

end Sys2Proof.Machine
end

