-- ==== Sys2Proof/Machine/State.lean ====
section
/-! DEFINITION. The state of the block as plain data, the reasons a step can stop, and the state right after reset. -/

namespace Sys2Proof.Machine

/-! ### Registers, accesses and the management side (chapters 03 and 04) -/

/-- A pending guarded pair: the RWG register's byte address and the value of the first write (R61, R62). -/
structure GuardPair where
  addr : Nat
  value : Word
  deriving DecidableEq, Repr

/-- A register whose stored parity disagrees with its value: the byte lanes that mismatch, whether the scrubber or a read has found
it, from when on the safe action acts, whether the mismatch has been reported (R69), and the value at the last clean check (R24, R71). -/
structure Mismatch where
  addr : Nat
  lanes : BitVec 4
  found : Bool
  reported : Bool
  clean : Word
  deriving DecidableEq, Repr

/-- Whose words a run of register accesses carries. -/
inductive RunKind where
  | frame                     -- a management frame of port A or B
  | ring (seq : BitVec 8)     -- a request of another chip's master (R104)
  | vendor                    -- a vendor request of a management function (R355)
  | single                    -- one access, outside any frame
  deriving DecidableEq, Repr

/-- A run of word accesses of one requester, taken in order; its first remaining word is waiting (R76, R124, R133). -/
structure AccessRun where
  who : Requester
  kind : RunKind
  write : Bool
  fixed : Bool
  /-- byte address of the next word -/
  addr : Nat
  /-- the words not yet taken, the waiting one first -/
  left : List FrameWord
  /-- results of the words taken -/
  done : List WordResult
  /-- the word, by the number of words before it, that is withdrawn with TIMEOUT: its target's clock has stopped since issue (R78) -/
  late : Option Nat
  deriving DecidableEq, Repr

/-- A response frame: status (R84), one entry per word, and whether the opcode was a read one, so that each entry has its data. -/
structure FrameResp where
  status : Nat
  words : List WordResult
  read : Bool
  deriving DecidableEq, Repr

/-- The remote access a management port waits for (R104): the request that its ring frame carries. -/
structure RemoteWait where
  chip : Chip
  req : RingReq
  resends : Nat
  /-- the last sending has been answered BUSY -/
  busySeen : Bool
  /-- every sending since the first BUSY answer has been answered BUSY (R101) -/
  busy : Bool
  aborted : Bool
  deriving DecidableEq, Repr

/-- A management port A or B (R80–R86). -/
structure MPort where
  /-- the response of the last frame that reached execution (R85) -/
  stored : Option FrameResp
  remote : Option RemoteWait
  /-- the next sequence number of this master's identity (R104) -/
  nextSeq : BitVec 8
  /-- `Mx_CS_N` has risen while the access is pending: its response will not be sent (R86) -/
  dropped : Bool
  /-- the nibbles of the response that the port drives; `Mx_READY` is high while there are any (R83) -/
  out : List Nibble
  /-- `Mx_CS_N` is high (R86) -/
  high : Bool
  /-- the access of the frame before has been taken, and its response begins to be driven (R86) -/
  taken : Bool
  /-- an access pending as `Mx_CS_N` rose has completed since: a port abort finds it late (R77, R124) -/
  late : Bool
  /-- the condition of the port's queue that the last attention notice told of (R88) -/
  attn : Bool
  deriving DecidableEq, Repr

/-- The target's store for one remote identity (R105). -/
structure RingSlot where
  owner : Master
  origin : Chip
  seq : BitVec 8
  /-- none while the request executes (the pending mark) -/
  resp : Option FrameResp
  /-- requests that wait for the one in execution, oldest first -/
  waiting : List RingReq
  /-- copies of the request that are still to be answered with its response -/
  owed : Nat
  /-- the request has written the management reset, which waits for its response to leave (R21) -/
  holds : Bool
  deriving DecidableEq, Repr

/-- One side of the ring as this chip sees it (R100–R103). -/
structure RingSide where
  /-- the neighbour's chip ID from its identity sets, last seen -/
  neighbour : Option Chip
  /-- chips reached in this direction with their hops, nearest first, from the last roster -/
  reach : List Hop
  /-- frames of this chip queued for the link, oldest first (R103) -/
  tx : List RingFrame
  deriving DecidableEq, Repr

/-- The legacy I²C target (R97, R434). -/
structure LegacyTarget where
  /-- the instance that acknowledged the address, and whether the controller reads -/
  sel : Option (Inst × Bool)
  /-- the next written byte is the register pointer -/
  first : Bool
  deriving DecidableEq, Repr

/-! ### Events (chapter 05) -/

/-- What an event record is about, for `OWN_ONLY` (R120). -/
inductive Subject where
  | none
  | port (p : Port)
  | move (oldOwner newOwner : Fin 4)
  | pres (u : Up)
  | job (r : RingIx)
  deriving DecidableEq, Repr

/-- An event record (R117), with its subject. -/
structure EventRecord where
  cls : BitVec 8
  code : BitVec 8
  source : BitVec 8
  pri : Fin 8
  prestart : Bool
  coarse : Bool
  rep : Bool
  filtered : Bool
  assert : Bool
  detail : Word
  stamp : BitVec 64
  subj : Subject
  deriving DecidableEq, Repr

/-- Occurrences counted while a hand-off FIFO was full (R115): the last of them and how many. -/
structure OverCount where
  last : EventRecord
  count : Nat
  deriving DecidableEq, Repr

/-- The hand-off FIFO of one source page (R115, R178). -/
structure Fifo where
  recs : List EventRecord
  overs : List OverCount
  deriving DecidableEq, Repr

/-- One level of an event queue: its records, oldest first, and its lost count (R122, R127). -/
structure Level where
  recs : List EventRecord
  lost : Nat
  deriving DecidableEq, Repr

/-- A mark that a queue did not take a record of this source and code under `OWN_ONLY` (R117 `FILTERED`). -/
structure FilterMark where
  cls : BitVec 8
  code : BitVec 8
  source : BitVec 8
  deriving DecidableEq, Repr

/-- An event queue (R122–R129). -/
structure Queue where
  levels : Vector Level 8
  /-- a record pushed while a pop waited on the empty queue, on its way to that pop (R126) -/
  handoff : Option EventRecord
  marks : List FilterMark
  deriving DecidableEq, Repr

/-! ### The configuration store (chapter 06) -/

/-- The commit or fetch in progress (R149, R150). -/
inductive CfgOp where
  | idle
  /-- a commit waits for leave -/
  | leave (target : Fin 2) (seq : Word)
  /-- a commit writes its target -/
  | writing (target : Fin 2) (seq : Word)
  /-- a fetch copies a bank, or has found no source -/
  | fetch (src : Option (Fin 2))
  deriving DecidableEq, Repr

/-! ### The entry domain (chapter 07) -/

/-- The entry controller beside its PWE registers. DESIGN CHOICE, log 75. -/
structure Entry where
  /-- `VDD_ENTRY` is at or above 2.9 V: the entry domain is out of reset (R161) -/
  powered : Bool
  /-- the seating pins that count as mated (R163) -/
  pins : BitVec 2
  /-- the debounce has been satisfied while a retry wait still runs (R162) -/
  debounced : Bool
  /-- the retry interval runs (R167) -/
  retryRun : Bool
  /-- the fault timer is above zero (R166) -/
  timing : Bool
  /-- a break-before-make gap runs toward this feed; the flag marks a return to the preferred feed (R175, R176) -/
  gap : Option (Feed × Bool)
  /-- what the next entry to RAMP records as `START_CAUSE` (R179) -/
  startWhy : Fin 4
  hsGate : Bool
  feedGateA : Bool
  feedGateB : Bool
  /-- `STRAP_FEED_PREF` as latched at entry reset release -/
  strapPref : Bool
  /-- the core cause the entry domain holds (R17, CLK_RESET_STATUS) -/
  lastCause : Fin 8
  deriving DecidableEq, Repr

/-! ### The budget arbiter (chapter 08) -/

/-- A leave request the arbiter holds (R184–R186). -/
structure LeaveReq where
  op : LeaveOp
  arrival : Nat
  /-- the reason of the first DEFER answer, once given -/
  deferred : Option (Fin 8)
  /-- the last decision left it deferred for port power (R186, R188) -/
  lacks : Bool
  deriving DecidableEq, Repr

/-- The arbiter beside its BGT registers. -/
structure Arbiter where
  /-- operations that ask for leave and whose request has not reached the arbiter -/
  asks : List LeaveOp
  /-- requests at the arbiter, in order of arrival -/
  reqs : List LeaveReq
  /-- operations granted and not yet reported done -/
  running : List LeaveOp
  /-- operations that have ended and whose report has not reached the arbiter, with their success -/
  dones : List LeaveOp
  arrivals : Nat
  /-- the pacing gap of R184 has passed -/
  paceFree : Bool
  /-- feed goodness as the arbiter sees it (R182) -/
  goodA : Bool
  goodB : Bool
  /-- `GROW_DELAY` runs -/
  growing : Bool
  /-- the turn-on requests that arrived with the first one after the load (R154 `PACING_DONE`) -/
  firstBatch : Option (List Port)
  deriving DecidableEq, Repr

/-! ### USB 2.0 ports and hub contexts (chapter 11) -/

/-- A periodic or non-periodic transaction a TT holds (R279–R282). -/
structure TtEntry where
  /-- the port the split names (a TT may be shared, R283) -/
  port : Port
  split : Split
  begun : Bool
  result : Option TtResult
  /-- the entry was discarded before it began, which a complete-split is answered ERR for (R280, R282) -/
  dropped : Bool
  deriving DecidableEq, Repr

/-- The USB 2.0 side of a port beside its U2P registers. -/
structure U2pSt where
  /-- `PORT_CONNECTION`: a connect has been recognised (R273) -/
  connected : Bool
  lowSpeed : Bool
  /-- a device chirp K has been seen in the running reset (R274) -/
  chirped : Bool
  /-- `wPortChange` in the view of context 0 and 1 (R268, R333) -/
  chg : Vector (BitVec 16) 2
  /-- a view that does not own the port owes `C_PORT_RESET` (R268) -/
  rstView : BitVec 2
  /-- a `PWR_HOLD` keeps VBUS for the USB 2.0 and the SuperSpeed power bit of context 0 and 1 (R276, R306) -/
  hold2 : BitVec 2
  holdS : BitVec 2
  /-- the running resume left L1, not suspend -/
  fromL1 : Bool
  /-- the cause the running resume will report (R295) -/
  resumeCause : Fin 5
  /-- the running resume sets its change bit (R285, R287) -/
  resumeSets : Bool
  /-- an LPM transaction awaits the device's answer: HIRD and remote-wake enable (R287) -/
  lpm : Option (BitVec 4 × Bool)
  periodic : List TtEntry
  /-- the four non-periodic buffers, in arrival order, with their buffer number -/
  nonper : List (Fin 4 × TtEntry)
  deriving DecidableEq, Repr

/-- A USB 2.0 hub context (R266). -/
structure HubCtxSt where
  address : BitVec 7
  /-- upstream segment: 0 none, 1 full, 2 high -/
  speed : Fin 3
  /-- 0 inactive, 1 default, 2 addressed, 3 configured -/
  st : Fin 4
  suspended : Bool
  remoteWake : Bool
  /-- the alternate setting in force is multi-TT -/
  multiTt : Bool
  /-- the context drives K upstream (R286) -/
  drivesK : Bool
  /-- the context has propagated a wake and follows the host's K when it comes (R286, R288) -/
  woke : Bool
  /-- K stands on the upstream segment: the context has resumed and no SOF has come since (R284, R288) -/
  upK : Bool
  /-- change bits of the ports of a root hub (R267, R426, R452) -/
  rootChg : Vector (BitVec 16) 8
  deriving DecidableEq, Repr

/-! ### SuperSpeed ports, contexts and queues (chapter 12) -/

/-- The reset that runs on a SuperSpeed port (R307). -/
inductive SsReset where
  | none | hot
  /-- the flag: the request was `PORT_RESET` -/
  | warm (portReset : Bool)
  deriving DecidableEq, Repr

/-- A full port's SuperSpeed side beside its SSP registers. -/
structure SspSt where
  /-- `PORT_CONNECTION`: U0 has been reached and no disconnect seen since -/
  connected : Bool
  /-- `wPortChange` in the views of contexts 0 and 1 -/
  chg : Vector (BitVec 16) 2
  /-- a view that does not own the port owes `C_PORT_RESET` or `C_BH_PORT_RESET` (R299) -/
  rstView : Vector (BitVec 2) 2
  pollFails : Nat
  /-- the next Polling is the first after Rx.Detect (R317) -/
  firstPoll : Bool
  /-- the host wrote SS.Disabled to `PORT_LINK_STATE` (R315) -/
  hostDisabled : Bool
  reset : SsReset
  /-- an exit from U3 runs: at the host's request, or at the device's -/
  exiting : Option Bool
  /-- Compliance was entered automatically -/
  complianceAuto : Bool
  /-- the Loopback master runs (R318) -/
  loopMaster : Bool
  /-- a margining run is in progress (R319) -/
  margining : Bool
  /-- the 1 s window the entries below were counted in, and the error-caused Recovery entries in it (R316) -/
  recovAt : Nat
  recovWindow : Nat
  /-- the compliance pattern in force (R317) -/
  pattern : Nat
  /-- a connect has come since the last ADC sample of the port: `C_PORT_CONNECTION` as it stood before it (R320) -/
  upFresh : Option Bool
  /-- the value of the last U2 Inactivity Timeout LMP sent to the device (R308) -/
  u2Lmp : Option Byte
  /-- the last packet sent to the device has had no answer; and that answer belongs to an owner the port has left (R335) -/
  awaits : Bool
  stale : Bool
  down : List SsPacket
  up : List SsPacket
  deriving DecidableEq, Repr

/-- A SuperSpeed hub context (R297). -/
structure SsCtxSt where
  address : BitVec 7
  depth : Option (Fin 5)
  /-- 0 default, 1 addressed, 2 configured -/
  st : Fin 3
  suspended : Bool
  u1En : Bool
  u2En : Bool
  power : BitVec 4
  /-- headers the root hub has discarded (the root equivalent of `ROUTE_DROP`, R298) -/
  drops : Nat
  /-- change bits of the ports of a root hub (R315, R452) -/
  rootChg : Vector (BitVec 16) 5
  deriving DecidableEq, Repr

/-- An upstream SuperSpeed link beside its upstream page. -/
structure UpLinkSt where
  trainFails : Nat
  recovAt : Nat
  recovWindow : Nat
  /-- the upstream port drives its own exit LFPS (R310) -/
  wakeExit : Bool
  /-- packets toward plate k -/
  down : Vector (List SsPacket) 4
  /-- packets toward the host from plate k -/
  up : Vector (List SsPacket) 4
  deriving DecidableEq, Repr

/-! ### VBUS switches, Type-C logic, PD engines and console taps (chapters 08–10) -/

/-- A VBUS switch beside its VBS registers. -/
structure VbsSt where
  /-- the last sample: VBUS at or below 56 counts; above 1.1 × target; 0.5 V above VREG; within ±5 % of target -/
  lastLow : Bool
  lastOver : Bool
  lastRev : Bool
  lastNear : Bool
  /-- the slow timer is above zero (R198) -/
  slowRun : Bool
  /-- `RETRY_INT` runs -/
  retryRun : Bool
  /-- the retry wait ended before the discharge (R198) -/
  askOnSafe : Bool
  /-- the port cannot close until vSafe0V is seen (R197) -/
  dschLock : Bool
  /-- a PD hard reset cycles VBUS and the port keeps its default grant (R190) -/
  hrCycle : Bool
  /-- contract currents in mA: the one the limit was set from before, and the one in force (R198) -/
  oldMa : Nat
  newMa : Nat
  /-- the higher target in mV while VBUS moves -/
  highMv : Nat
  /-- samples in a row within 1.1 × the new current while a fall of the limit waits (R210) -/
  quiet : Nat
  /-- the closed-loop correction of the VSET code (R194) -/
  trim : Int
  /-- the voltage in mV whose open-loop code VSET has reached on its way to the target (R243, R245) -/
  vsetMv : Nat
  /-- a trip has come since the last sample (R227) -/
  tripFresh : Bool
  /-- the discharge that the reset of the port began has ended (R34) -/
  dschDone : Bool
  /-- vSafe0V has been seen since the switch opened (R197) -/
  safeSeen : Bool
  /-- the `VBS_CAL` word whose codes VSET uses: the register's at the last trim step (R203) -/
  cal : Word
  deriving DecidableEq, Repr

/-- The connection logic of a port beside its TCP registers. -/
structure TcpSt where
  /-- partner type of the attach record: 0 none, 1 sink, 2 sink through a powered cable, 3 source, 4 debug, 5 audio (R228) -/
  partner : Fin 6
  tryUsed : Bool
  /-- the routing conditions of R222 that hold -/
  routeDebug : Bool
  routeMode : Bool
  /-- VCONN tripped since the attach (R216) -/
  vconnBarred : Bool
  /-- ATTACH or ACCESSORY has been raised and no DETACH since (R208, R209) -/
  announced : Bool
  /-- `BC_MODE` as the attach took it (R217) -/
  bcMode : Fin 4
  /-- the LR bits of `TCP_CC_CFG` written since the last sample, and those that a port reset of the same cycle keeps (R227) -/
  lrNew : Option (BitVec 3)
  lrKept : Option (BitVec 3)
  deriving DecidableEq, Repr

/-- A message the PD engine sends. -/
inductive PdKind where
  | accept | reject | wait | notSupported | psRdy | softReset | hardReset
  | prSwap | drSwap | vconnSwap | frSwap
  | sourceCaps | eprSourceCaps | getSinkCap | sinkCaps | request
  | status | ppsStatus | sourceCapsExt | sourceInfo | revision | manufacturerInfo
  | eprMode | eprKeepAliveAck | vdm | bist | goodCrc
  deriving DecidableEq, Repr

/-- A sent PD message: SOP′ or SOP, its kind, its data objects, and its bytes where it is an extended message or a chunk of one: an
EPR_Source_Capabilities leaves as two chunks of at most 26 bytes, of which the first carries the objects (R232). -/
structure PdOut where
  sopPrime : Bool
  kind : PdKind
  objs : List Word
  bytes : List Byte
  deriving DecidableEq, Repr

/-- The answer a PD engine waits for. -/
inductive PdWant where
  | none
  | request          -- a Request after acknowledged capabilities
  | swapAnswer       -- Accept, Reject or Wait to the swap it sent
  | psRdy            -- the partner's PS_RDY
  | softAccept       -- Accept to Soft_Reset
  | sinkCaps         -- Sink_Capabilities (R254)
  | acceptAsSink     -- Accept, then PS_RDY, after its own Request at zero draw
  | vdm              -- a VDM answer of the console sequence (R259)
  | cable            -- the SOP′ Discover Identity answer
  deriving DecidableEq, Repr

/-- A PD engine beside its TCP registers. -/
structure PdSt where
  /-- messages the last event made it send, in order (the model's own record of the output) -/
  out : List PdOut
  /-- the message that awaits GoodCRC, and how often it has been sent again (R232) -/
  flight : Option PdOut
  resends : Nat
  /-- the messages of the same event that follow the one in flight -/
  queued : List PdOut
  want : PdWant
  /-- message IDs on SOP and SOP′ (R256) -/
  idSop : BitVec 3
  idPrime : BitVec 3
  /-- a partner has answered PD since the attach -/
  partnerPd : Bool
  /-- the partner's first message has settled the revision (R232) -/
  revKnown : Bool
  capsSent : Nat
  /-- the PDOs of the last offer, positions 1 upward -/
  offer : List Word
  /-- a changed offer waits to be sent, at once or after the merge time (R239) -/
  offerDue : Bool
  offerNow : Bool
  /-- new capabilities are due after a CAP, whatever the list is (R239, R241) -/
  capDue : Bool
  /-- the SinkTxNG wait of R233 runs -/
  sinkTx : Bool
  /-- the Request being decided or granted after Wait: its RDO -/
  req : Option Word
  waitSent : Bool
  /-- leave of kind 1 has been granted and not yet used or reported -/
  raiseGranted : Bool
  /-- the contract being moved to: mV, 10 mA, type, position, RDO -/
  nextMv : Nat
  nextMa10 : Nat
  nextType : Fin 5
  nextPos : Fin 16
  nextRdo : Word
  /-- the APDO minimum in mV of that contract and of the one in force (R246) -/
  nextMin : Nat
  ppsMin : Nat
  /-- Accept has received its GoodCRC (R243) -/
  accepted : Bool
  /-- `TRANS_LIMIT` runs (R243) -/
  transRun : Bool
  /-- the voltage a PPS or AVS contract was requested at, while current limiting lowers the target (R246) -/
  ppsMv : Nat
  /-- a turn-on reservation is held (R253, R254) -/
  reserved : Bool
  /-- attempts made of PR_Swap, DR_Swap and the console mode -/
  prTries : Nat
  drTries : Nat
  modeTries : Nat
  /-- step of the console sequence: 0 none, 1 identity, 2 SVIDs, 3 modes, 4 enter; and the mode's object position -/
  modeStep : Fin 5
  modePos : Fin 8
  /-- the SVID that the entered console mode was entered under (R259) -/
  modeSvid : BitVec 16
  /-- the swap in progress was started by the part -/
  swapOwn : Bool
  /-- Accept has been seen or sent in the swap: its power phase (R251) -/
  swapPower : Bool
  frsMa : Nat
  frsSeen : Bool
  /-- the hard reset's power phase: 0 none, 1 before the switch opens, 2 discharging, 3 recovering -/
  hrPhase : Fin 4
  /-- a sink hard reset waits for VBUS, and VBUS has fallen since it began (R253) -/
  snkWaitVbus : Bool
  snkFell : Bool
  /-- capabilities were sent for a revocation and no Request has come (R249) -/
  revokeWait : Bool
  /-- an attempt of cable discovery is due (R248) -/
  cableRun : Bool
  /-- the record of the cable stands: its discovery has succeeded since VCONN came on or REDISCOVER ran (R248, R255) -/
  cableGood : Bool
  /-- VCONN_Swap is still to be sent after the port has become source (R255) -/
  vconnDue : Bool
  deriving DecidableEq, Repr

/-- A received console byte with its errors (R230). -/
structure RxItem where
  byte : Byte
  frameErr : Bool
  parErr : Bool
  deriving DecidableEq, Repr

/-- A console tap beside its CON registers. -/
structure ConSt where
  rx : List RxItem
  tx : List Byte
  sending : Option Byte
  deriving DecidableEq, Repr

/-! ### Presentations (chapter 13) -/

/-- A record of a PRES_DESC section (R331). -/
structure DescRec where
  kind : Byte
  index : Byte
  body : List Byte
  deriving DecidableEq, Repr

/-- A presentation beside its PRS registers. -/
structure PresSt where
  desc : List DescRec
  /-- off the bus for a restart: 1 the 100 ms run, 2 they have passed and R135 is awaited -/
  restart : Fin 3
  /-- conditions 1 and 2 of R339 hold: a SOF, a timestamp within `FO_TIME` -/
  sofLive : Bool
  tsLive : Bool
  /-- `FO_SUSP_LIMIT` has passed -/
  suspEnded : Bool
  /-- the presentation has been taken as live and not since lost (R340, R341) -/
  live : Bool
  /-- the trigger of a failover that found no live target and may be decided again, 0 for none (R341) -/
  foPending : Fin 4
  /-- the trigger of a failover whose decision waits for `PRS_FO_CFG` or the page, 0 for none; and whether it is the first
  decision of that loss (R52, R346) -/
  foDue : Fin 4
  foFirst : Bool
  /-- the presentation has been live by frames, its root hub configured, for `FB_DELAY`, and is so still (R343) -/
  fbMet : Bool
  /-- ports of the running failover or failback batch to this presentation (R342) -/
  batch : List Port
  deriving DecidableEq, Repr

/-! ### The management function (chapter 14) -/

/-- One instance of a management function (R347). -/
structure MgfInst where
  address : BitVec 7
  /-- 0 default, 1 addressed, 2 configured -/
  st : Fin 3
  suspended : Bool
  remoteWake : Bool
  deriving DecidableEq, Repr

/-- A vendor request that executes (R357). -/
structure VendorExec where
  breq : Byte
  /-- the `MGT_HOST_GRANT` bit at execution (R358) -/
  granted : Bool
  /-- its entries were refused under R354 -/
  refused : Bool
  /-- word results of a register request, status of a DRAM request -/
  words : List WordResult
  dramStatus : Byte
  /-- DRAM byte address and length of a DRAM request -/
  addr : Nat
  len : Nat
  data : List Byte
  /-- every word is done -/
  finished : Bool
  /-- a reset or a new set-up has met it: it runs to its end and answers nothing (R357, R361) -/
  lost : Bool
  deriving DecidableEq, Repr

/-- A complete bulk command in the EP2 buffer (R362). -/
structure BulkCmd where
  write : Bool
  tag : BitVec 16
  len : Nat
  addr : Nat
  /-- a reset has met it: it runs to its end and its status block is discarded (R361, R367) -/
  lost : Bool
  deriving DecidableEq, Repr

/-- The management function of a presentation beside its MGF registers; its buffers lie in the endpoint memory. -/
structure MgfSt where
  u2 : MgfInst
  ss : MgfInst
  exec : Option VendorExec
  /-- bytes in the EP2 buffer, and the command they complete -/
  ep2Len : Nat
  ep2Cmd : Option BulkCmd
  /-- bytes of the response in the EP3 buffer, and how many are acknowledged -/
  ep3Len : Nat
  ep3Pos : Nat
  /-- a formed notice stands in the EP1 buffer -/
  noticeOut : Bool
  noticeCount : Byte
  /-- toggles or sequence numbers of EP1, EP2 and EP3 -/
  seq : Vector (BitVec 5) 3
  replay : List Byte
  result : List Byte
  /-- a Function Wake is due once the link is in U0 (R366) -/
  wakeDue : Bool
  /-- EP0–EP3 have answered NRDY and owe ERDY (R364) -/
  nrdy : Vector Bool 4
  deriving DecidableEq, Repr

/-! ### The graver (chapter 15) -/

/-- A job on one of its ports. -/
structure JobPort where
  port : Port
  /-- completion code, once the job has ended there -/
  code : Option Byte
  /-- phase of a job of several steps: 0 not begun; POWER 1 going off, 2 off time, 3 coming on; TAKE and GIVE 1 once the move is
  asked; ENUM 1 once the reset runs; CAPTURE 1 once it runs; STOP its flags carried out -/
  phase : Nat
  /-- bytes moved -/
  pos : Nat
  /-- the running CRC-32 of a VERIFY in mode 1 -/
  crc : Word
  /-- the port has left its fan-out group (R396) -/
  solo : Bool
  deriving DecidableEq, Repr

/-- A job (R383–R385): a descriptor that waits or runs. -/
structure Job where
  id : Nat
  chain : Nat
  ring : RingIx
  /-- ring index of the chain's head -/
  index : BitVec 16
  /-- jobs of the chain finished so far -/
  step : Nat
  desc : List Byte
  ports : List JobPort
  started : Bool
  /-- a fan-out group: 0 none, 1 waits for a window, 2 waits for leave, 3 holds window `window` -/
  group : Fin 4
  window : Fin 2
  /-- the bytes its window holds, from image offset `winAt` (R396) -/
  win : List Byte
  winAt : Nat
  deriving DecidableEq, Repr

/-- A completion entry that waits (R382). -/
structure Completion where
  ring : RingIx
  chain : Nat
  bytes : List Byte
  /-- its write failed on a DRAM error and is due again every 1 ms (R405) -/
  failed : Bool
  deriving DecidableEq, Repr

/-- What a capture holds until its record is written (R401): a byte with its error mark and the uptime it came at, a break, the end
of a break, or a marker for an attach or a detach. -/
inductive CapItem where
  | byte (b : Byte) (err : Bool) (stamp : BitVec 64)
  | brk (stamp : BitVec 64)
  | brkEnd
  | mark (attach : Bool) (stamp : BitVec 64)
  deriving DecidableEq, Repr

/-- A running capture (R400–R402). -/
structure Capture where
  job : Nat
  ring : RingIx
  port : Port
  cdc : Bool
  persist : Bool
  base : Nat
  sizeLog2 : Nat
  items : List CapItem
  /-- bytes lost since the last record (R401) -/
  lostSome : Bool
  /-- the capture has ended with this code; its last records are still to be written -/
  ended : Option Byte
  /-- the SuperSpeed engine polls for it (R375, R384) -/
  ss : Bool
  /-- SET_CONTROL_LINE_STATE has been sent and not been acknowledged (R400) -/
  dtr : Bool
  deriving DecidableEq, Repr

/-- An endpoint a CONFIG job loaded (R391). -/
structure EndPt where
  num : BitVec 4
  inDir : Bool
  maxPacket : Nat
  burst : Nat
  toggle : Nat
  deriving DecidableEq, Repr

/-- A port's host engines beside its LHE registers (R374). -/
structure LheSt where
  /-- ENUM found the device on SuperSpeed (R375) -/
  onSs : Bool
  eps : List EndPt
  /-- consecutive transaction errors by endpoint: twice its number, plus one for IN (R376) -/
  errs : List (Nat × Nat)
  /-- `SS_ALLOW` has been written since the last ENUM: the value in force until the next one (R408) -/
  ssHeld : Option Bool
  /-- the device that ENUM found on SuperSpeed has been lost since -/
  ssGone : Bool
  /-- the address that ENUM has given the device (R390, R408) -/
  addr : BitVec 7
  deriving DecidableEq, Repr

/-- The job processor beside its GRV registers. -/
structure Graver where
  jobs : List Job
  caps : List Capture
  completions : List Completion
  nextId : Nat
  /-- the ring fetched last (R381) -/
  fetchPtr : RingIx
  /-- template store (R379): byte offset to value -/
  templates : List Host.Cell
  /-- 2 MiB fan-out buffer (R378, R395) -/
  buffer : List Host.Cell
  deriving DecidableEq, Repr

/-! ### Attached memory (chapter 16) -/

/-- A running master-window command (R413). -/
structure WinCmd where
  store : Bool
  /-- its first byte address and its count of words, as it was started -/
  addr : Nat
  count : Nat
  /-- another command was written while it ran -/
  busySeen : Bool
  deriving DecidableEq, Repr

/-- The geometry in force, as `DRC_GEOM` gave it when the DRAM was last trained (R410): ×16 devices, devices of 16 Gb. -/
structure DramGeom where
  x16 : Bool
  d16 : Bool
  deriving DecidableEq, Repr

/-- The attached memory beside the DRC registers. -/
structure Dram where
  geom : DramGeom
  /-- the bytes held, by the cell that holds them: rank, row, bank, bank group, column and byte of the burst -/
  mem : List Host.Cell
  /-- which power-up contents an unlisted byte has -/
  epoch : Nat
  /-- unlisted bytes read zero: cold training has zeroed the memory (R414) -/
  zeroed : Bool
  /-- 8-byte words of cells with a bit error: word index, and whether it is uncorrectable -/
  errs : List (Nat × Bool)
  /-- the next training is warm (R414) -/
  warm : Bool
  /-- the running or awaited training is the repeat of a failed one -/
  again : Bool
  /-- byte address of the scrubber, and the count of 10 ms intervals at the last ECC_CORRECTED, plus one -/
  scrubPos : Nat
  ceAt : Nat
  win : Vector (Option WinCmd) 2
  deriving DecidableEq, Repr

/-! ### Compatibility instances (chapter 17) -/

/-- An emulated PX2408 beside its window registers. -/
structure CptInst where
  /-- the configuration area as copied at attach (R432) -/
  run : List Host.Cell
  /-- register pointer of the legacy target (R434) -/
  ptr : Byte
  /-- the hold timer runs -/
  timer : Bool
  /-- an ATTACH command or time-out refused for parity is due (R444) -/
  dueCmd : Option Bool
  dueTime : Bool
  /-- ports of a gang for which ClearPortFeature(PORT_POWER) has been received (R437) -/
  gangClr : BitVec 8
  deriving DecidableEq, Repr

/-! ### Health (chapter 18) -/

/-- The health controller beside its HLT registers. -/
structure Health where
  /-- the hottest reading of the last sample, in 0.25 °C, if one has been taken -/
  lastMax : Option Int
  /-- ports of each plate whose VBUS was on as it was isolated (R459) -/
  isoOn : Vector (BitVec 16) 4
  /-- a discharge of the plate ran to `DSCH_MAX` -/
  isoLate : BitVec 4
  /-- quarantines entered whose port domain is held in reset once the discharge ends (R450) -/
  quarDsch : BitVec 64
  /-- the live update in progress: result and skipped entries (R455) -/
  upd : Option (Fin 8 × Nat)
  deriving DecidableEq, Repr



/-! ### Answers and the whole state -/

/-- What the last command answered to whoever sent it (the model's own record of the output). -/
inductive Answer where
  /-- nothing is answered -/
  | silent
  /-- a management response frame (R84) -/
  | frame (m : Master) (resp : FrameResp)
  /-- one register access: word status and data -/
  | word (status : Fin 16) (data : Word)
  /-- the access waits (R76, R124, R133) -/
  | waits
  /-- the frame leaves on a ring link (R102, R104) -/
  | ringOut (side : Side) (fr : RingFrame)
  /-- an I²C or USB acknowledge -/
  | ack
  /-- an I²C or USB refusal: NAK -/
  | nak
  /-- a USB STALL handshake: Request Error -/
  | stall
  /-- NYET -/
  | nyet
  /-- NRDY on a SuperSpeed link (R364) -/
  | nrdy
  /-- ERR of a complete-split -/
  | err
  /-- bytes of a data stage or packet -/
  | bytes (bs : List Byte)
  /-- a USB data packet: 0 DATA0, 1 DATA1, 2 MDATA -/
  | data (pid : Fin 3) (bs : List Byte)
  /-- the Function Wake notification of a SuperSpeed function (R366) -/
  | functionWake
  /-- a packet repeated to these ports, or upstream by this context -/
  | repeated (ports : List Port) (up : Option HubCtx)
  deriving DecidableEq, Repr

/-- Why a step stops with a fault. -/
inductive Fault where
  /-- A command whose operands no sender can form (`Instr.wf` is false): raised by the meaning of that command; safe, since
  the hardware never sees it. -/
  | illFormed
  deriving DecidableEq, Repr

/-- Why a step is refused. -/
inductive Refusal where
  /-- The command has no meaning in the model yet; raised by its arm of `exec`; safe. -/
  | notModelled (mnemonic : String)
  deriving DecidableEq, Repr

/-- The state of the IM6416. -/
structure State where
  /-- the commands that wait, first in first out -/
  pending : List Instr
  /-- the output of the last command (the model's own) -/
  answer : Answer
  /-- how many free values have been used (the model's own) -/
  freeCount : Nat
  /-- the software-visible 32-bit registers by byte address (R47); an unlisted one holds its reset value -/
  regs : List (Nat × Word)
  /-- core global reset is asserted (R17, R468) -/
  coreHeld : Bool
  /-- DCLK runs (R13) -/
  dclkOn : Bool
  /-- GCLK runs (R13) -/
  gclkOn : Bool
  /-- a DRAM controller reset waits for self-refresh (R20) -/
  drcPend : Bool
  /-- `GLB_UPTIME` at the last alignment point (R118) -/
  uptime : BitVec 64
  /-- RCLK cycles that idle steps have counted since that alignment point -/
  phase : Fin 120
  /-- the copies of `GLB_UPTIME` that the core domains keep, in nanoseconds with a 16-bit fraction (R118) -/
  copies : Vector (BitVec 80) 11
  /-- pending guarded pairs by identity (R62) -/
  guards : List (Nat × Option GuardPair)
  /-- registers with a parity mismatch (R69) -/
  bad : List Mismatch
  /-- runs of accesses that wait, oldest first -/
  runs : List AccessRun
  mports : Vector MPort 2
  ringSlots : List RingSlot
  ringSides : Vector RingSide 2
  legacy : LegacyTarget
  /-- hand-off FIFOs by page number (R115) -/
  fifos : List (Nat × Fifo)
  /-- page number of the source the router served last (R115) -/
  routePtr : Nat
  queues : Vector Queue 4
  /-- MRAM banks (R138) -/
  mram : Vector (List Host.Cell) 2
  /-- wear counts of the banks (R153) -/
  wear : Vector Nat 2
  /-- staging buffer (R148) -/
  stage : List Host.Cell
  cfgOp : CfgOp
  entry : Entry
  arb : Arbiter
  u2pSt : Vector U2pSt 64
  hubCtx : Vector HubCtxSt 10
  sspSt : Vector SspSt 16
  ssCtx : Vector SsCtxSt 10
  upLink : Vector UpLinkSt 2
  vbsSt : Vector VbsSt 64
  tcpSt : Vector TcpSt 64
  pdSt : Vector PdSt 64
  /-- messages the upstream engines sent last (R260) -/
  upPdOut : Vector (List PdOut) 2
  /-- the answers that the upstream engines wait for (R260, R251) -/
  upWant : Vector PdWant 2
  conSt : Vector ConSt 64
  presSt : Vector PresSt 2
  /-- the cause of the pending ownership move of each port (R345) -/
  moveCause : Vector (Fin 5) 64
  /-- pending moves that are past step 1 of R333 (R52) -/
  moveBegun : BitVec 64
  mgfSt : Vector MgfSt 2
  /-- endpoint memory (R350) -/
  epm : List Host.Cell
  graver : Graver
  lheSt : Vector LheSt 64
  dram : Dram
  cpt : Vector CptInst 8
  health : Health

  deriving DecidableEq, Repr

/-! ### Values of the parts as they leave reset -/

/-- A guard-free management port. DESIGN CHOICE, log 10. -/
def freshMPort : MPort := ⟨none, none, 0, false, [], true, false, false, false⟩
/-- An event queue with nothing in it. DESIGN CHOICE, log 10. -/
def freshQueue : Queue := ⟨Vector.replicate 8 ⟨[], 0⟩, none, []⟩
/-- The entry domain in its reset state (R161). DESIGN CHOICE, log 10. -/
def freshEntry : Entry :=
  { powered := false, pins := 0, debounced := false, retryRun := false, timing := false, gap := none, startWhy := 0,
    hsGate := false, feedGateA := false, feedGateB := false, strapPref := false, lastCause := 0 }
/-- An arbiter with no request. DESIGN CHOICE, log 10. -/
def freshArbiter : Arbiter :=
  { asks := [], reqs := [], running := [], dones := [], arrivals := 0, paceFree := true, goodA := false, goodB := false,
    growing := false, firstBatch := none }
/-- The USB 2.0 side of a port with no device. DESIGN CHOICE, log 10. -/
def freshU2p : U2pSt :=
  { connected := false, lowSpeed := false, chirped := false, chg := Vector.replicate 2 0, rstView := 0, hold2 := 0, holdS := 0,
    fromL1 := false, resumeCause := 0, resumeSets := false, lpm := none, periodic := [], nonper := [] }
/-- A USB 2.0 hub context with no upstream segment. DESIGN CHOICE, log 10. -/
def freshHubCtx : HubCtxSt :=
  { address := 0, speed := 0, st := 0, suspended := false, remoteWake := false, multiTt := false, drivesK := false, woke := false, upK := false,
    rootChg := Vector.replicate 8 0 }
/-- The SuperSpeed side of a port with no device. DESIGN CHOICE, log 10. -/
def freshSsp : SspSt :=
  { connected := false, chg := Vector.replicate 2 0, rstView := Vector.replicate 2 0, pollFails := 0, firstPoll := true,
    hostDisabled := false, reset := .none, exiting := none, complianceAuto := false, loopMaster := false, margining := false,
    recovAt := 0, recovWindow := 0, pattern := 0, upFresh := none, u2Lmp := none, awaits := false, stale := false, down := [], up := [] }
/-- A SuperSpeed hub context in the default state. DESIGN CHOICE, log 10. -/
def freshSsCtx : SsCtxSt :=
  { address := 0, depth := none, st := 0, suspended := false, u1En := false, u2En := false, power := 0, drops := 0,
    rootChg := Vector.replicate 5 0 }
/-- An idle upstream link. DESIGN CHOICE, log 10. -/
def freshUpLink : UpLinkSt :=
  { trainFails := 0, recovAt := 0, recovWindow := 0, wakeExit := false, down := Vector.replicate 4 [],
    up := Vector.replicate 4 [] }
/-- An open VBUS switch. DESIGN CHOICE, log 10. -/
def freshVbs : VbsSt :=
  { lastLow := false, lastOver := false, lastRev := false, lastNear := false, slowRun := false, retryRun := false,
    askOnSafe := false, dschLock := false, hrCycle := false, oldMa := 0, newMa := 0, highMv := 0, quiet := 0, trim := 0,
    vsetMv := 0, tripFresh := false, dschDone := false, safeSeen := false, cal := 0x04002000 }
/-- Connection logic with nothing attached. DESIGN CHOICE, log 10. -/
def freshTcp : TcpSt :=
  { partner := 0, tryUsed := false, routeDebug := false, routeMode := false, vconnBarred := false,
    announced := false, bcMode := 0, lrNew := none, lrKept := none }
/-- An idle PD engine. DESIGN CHOICE, log 10. -/
def freshPd : PdSt :=
  { out := [], flight := none, resends := 0, queued := [], want := .none, idSop := 0, idPrime := 0, partnerPd := false, revKnown := false,
    capsSent := 0, offer := [], offerDue := false, offerNow := false, capDue := false, sinkTx := false, req := none, waitSent := false,
    raiseGranted := false, nextMv := 0, nextMa10 := 0, nextType := 0, nextPos := 0, nextRdo := 0, nextMin := 0, ppsMin := 0,
    accepted := false, transRun := false, ppsMv := 0, reserved := false, prTries := 0, drTries := 0, modeTries := 0, modeStep := 0,
    modePos := 0, modeSvid := 0, swapOwn := false, swapPower := false, frsMa := 0, frsSeen := false, hrPhase := 0, snkWaitVbus := false,
    snkFell := false, revokeWait := false, cableRun := false, cableGood := false, vconnDue := false }
/-- An idle console tap. DESIGN CHOICE, log 10. -/
def freshCon : ConSt := ⟨[], [], none⟩
/-- A presentation off the bus. DESIGN CHOICE, log 10. -/
def freshPres : PresSt :=
  { desc := [], restart := 0, sofLive := false, tsLive := false, suspEnded := false, live := false, foPending := 0, foDue := 0,
    foFirst := false, fbMet := false, batch := [] }
/-- An instance of the management function in the default state. -/
def freshMgfInst : MgfInst := ⟨0, 0, false, false⟩
/-- A management function with empty buffers and stores. DESIGN CHOICE, log 10. -/
def freshMgf : MgfSt :=
  { u2 := freshMgfInst, ss := freshMgfInst, exec := none, ep2Len := 0, ep2Cmd := none, ep3Len := 0, ep3Pos := 0,
    noticeOut := false, noticeCount := 0, seq := Vector.replicate 3 0, replay := [], result := [], wakeDue := false, nrdy := Vector.replicate 4 false }
/-- A job processor with nothing to do. DESIGN CHOICE, log 10. -/
def freshGraver : Graver :=
  { jobs := [], caps := [], completions := [], nextId := 0, fetchPtr := 3, templates := [], buffer := [] }
/-- Idle host engines. DESIGN CHOICE, log 10. -/
def freshLhe : LheSt := ⟨false, [], [], none, false, 0⟩
/-- Attached memory that has not been trained. DESIGN CHOICE, log 10. -/
def freshDram (epoch : Nat) : Dram :=
  { geom := ⟨false, true⟩, mem := [], epoch := epoch, zeroed := false, errs := [], warm := false, again := false, scrubPos := 0, ceAt := 0,
    win := Vector.replicate 2 none }
/-- A compatibility instance before its first hold. DESIGN CHOICE, log 10. -/
def freshCpt : CptInst := ⟨[], 0, false, none, false, 0⟩
/-- A health controller with no reading. DESIGN CHOICE, log 10. -/
def freshHealth : Health := ⟨none, Vector.replicate 4 0, 0, 0, none⟩

/-- The machine right after reset: core global reset is asserted (R17, R468), the entry domain is unpowered (R161), every
register reads its reset value, nothing waits. DESIGN CHOICE, log 2. DESIGN CHOICE, log 10. DESIGN CHOICE, log 11. -/
def State.reset : State :=
  { pending := [], answer := .silent, freeCount := 0, regs := [], coreHeld := true, dclkOn := false, gclkOn := false,
    drcPend := false, uptime := 0, phase := 0, copies := Vector.replicate 11 0, guards := [], bad := [], runs := [], mports := Vector.replicate 2 freshMPort,
    ringSlots := [], ringSides := Vector.replicate 2 ⟨none, [], []⟩, legacy := ⟨none, true⟩, fifos := [], routePtr := 0,
    queues := Vector.replicate 4 freshQueue, mram := Vector.replicate 2 [], wear := Vector.replicate 2 0, stage := [],
    cfgOp := .idle, entry := freshEntry, arb := freshArbiter, u2pSt := Vector.replicate 64 freshU2p,
    hubCtx := Vector.replicate 10 freshHubCtx, sspSt := Vector.replicate 16 freshSsp, ssCtx := Vector.replicate 10 freshSsCtx,
    upLink := Vector.replicate 2 freshUpLink, vbsSt := Vector.replicate 64 freshVbs, tcpSt := Vector.replicate 64 freshTcp,
    pdSt := Vector.replicate 64 freshPd, upPdOut := Vector.replicate 2 [], upWant := Vector.replicate 2 .none, conSt := Vector.replicate 64 freshCon,
    presSt := Vector.replicate 2 freshPres, moveCause := Vector.replicate 64 0, moveBegun := 0, mgfSt := Vector.replicate 2 freshMgf,
    epm := [], graver := freshGraver, lheSt := Vector.replicate 64 freshLhe, dram := freshDram 0,
    cpt := Vector.replicate 8 freshCpt, health := freshHealth }

end Sys2Proof.Machine
end

