-- ==== Sys2Proof/Machine/Ops.lean ====
section
/-! DEFINITION. The named operations over registers: fields, saturating counters, values in force under a parity
mismatch, requesters' identities, free values, and the state of clocks and reset domains. -/

namespace Sys2Proof.Machine

/-! ### Fields of a word -/

/-- The value of a field of a word. -/
def fldGet (f : Fld) (w : Word) : Nat := (w.toNat >>> f.lo) % 2 ^ f.width

/-- The bits of a field. -/
def fldMask (f : Fld) : Word := BitVec.ofNat 32 ((2 ^ f.width - 1) <<< f.lo)

/-- A word with one field set (to the value modulo the field's width). -/
def fldSet (f : Fld) (w : Word) (v : Nat) : Word :=
  (w &&& ~~~ fldMask f) ||| BitVec.ofNat 32 ((v % 2 ^ f.width) <<< f.lo)

/-- The one-bit field of port `p` in a pair of registers with one bit per port. -/
def portBit (f : Nat → Fld) (p : Port) : Fld := ⟨(f (p.val / 32)).off, p.val % 32, 1⟩

/-- Bit `k` of a field, as a field of its own. -/
def fldBit (f : Fld) (k : Nat) : Fld := ⟨f.off, f.lo + k, 1⟩

/-- A Bool as the value of a one-bit field. -/
def bit (b : Bool) : Nat := if b then 1 else 0

/-- A value kept inside a range: values outside act as the nearer end. -/
def clampTo (lo hi v : Nat) : Nat := if v < lo then lo else if hi < v then hi else v

/-! ### The register file -/

/-- The word stored at a register address. -/
def State.rd (s : State) (addr : Nat) : Word := Sparse.get resetWord s.regs addr

/-- The state with a word stored at a register address. -/
def State.wr (s : State) (addr : Nat) (w : Word) : State := { s with regs := Sparse.put resetWord s.regs addr w }

/-- The stored value of a field of a page. -/
def State.get (s : State) (pg : PageId) (f : Fld) : Nat := fldGet f (s.rd (pg.base + f.off))

/-- The state with a field of a page set. -/
def State.put (s : State) (pg : PageId) (f : Fld) (v : Nat) : State :=
  s.wr (pg.base + f.off) (fldSet f (s.rd (pg.base + f.off)) v)

/-- A one-bit field as a Bool. -/
def State.flag (s : State) (pg : PageId) (f : Fld) : Bool := s.get pg f != 0

/-- The state with a one-bit field set from a Bool. -/
def State.setFlag (s : State) (pg : PageId) (f : Fld) (b : Bool) : State := s.put pg f (bit b)

/-- A counter raised by `n`, saturating at the largest value of its field (R56 CNT). -/
def State.countBy (s : State) (pg : PageId) (f : Fld) (n : Nat) : State :=
  s.put pg f (min (s.get pg f + n) (2 ^ f.width - 1))

/-- A counter raised by one, saturating. -/
def State.count (s : State) (pg : PageId) (f : Fld) : State := s.countBy pg f 1

/-- The register words of a range of addresses returned to their reset values. -/
def State.clearRegs (s : State) (lo hi : Nat) : State :=
  { s with regs := s.regs.filter (fun e => !(decide (lo ≤ e.1) && decide (e.1 < hi))) }

/-! ### Values in force -/

/-- The mismatch recorded for a register, if any, found or not (R68, R69). -/
def State.mismatch (s : State) (addr : Nat) : Option Mismatch := s.bad.find? (fun m => m.addr == addr)

/-- The mismatch found in a register, if any (R69). -/
def State.badAt (s : State) (addr : Nat) : Option Mismatch := s.bad.find? (fun m => m.found && m.addr == addr)

/-- Whether a mismatch has been found in any register of a page in a range of offsets. -/
def State.badIn (s : State) (pg : PageId) (lo hi : Nat) : Bool :=
  s.bad.any (fun m => m.found && decide (pg.base + lo ≤ m.addr) && decide (m.addr < pg.base + hi))

/-- The value a mismatched register acts with (R24, R71, R108, R130, R180, R202, R296 and the safe actions of the other
pages, where the rule names a value; elsewhere the last clean value). -/
def safeWord (pg : PageId) (off : Nat) (m : Mismatch) : Word :=
  if off < 0x40 then m.clean else
  match pg with
  | .mgt => if off = 0x44 ∨ off = 0x4C then 0 else if off = 0x60 then resetWord (pg.base + off) else m.clean
  | .evq => resetWord (pg.base + off)
  | .pwe => resetWord (pg.base + off)
  | .bgt => if 0x80 ≤ off then resetWord (pg.base + off) &&& 0xFFF else m.clean
  | .u2h _ => if off = 0x40 then 0x8 ||| (m.clean &&& 0x6) else resetWord (pg.base + off)
  | .mgf => 0
  | .drc =>
    if off = 0x40 then (m.clean &&& 0x700) ||| 0x100 else if off = 0x50 then 0x1111
    else if 0x70 ≤ off ∧ off < 0x78 then 0 else m.clean
  | .grv => if off = 0x40 then resetWord (pg.base + off) &&& 0xFFFFFEFF else m.clean
  | .hlt => if off = 0x40 then resetWord (pg.base + off) else m.clean
  | _ => m.clean

/-- The mismatch whose safe action holds a register: one that has been found; in the clock and reset registers one not found yet too, since
what they drive keeps the state of the last clean check (R24). DEDUCED, log 27. -/
def State.heldAt (s : State) (pg : PageId) (off : Nat) : Option Mismatch :=
  if pg = .clk then s.mismatch (pg.base + off) else s.badAt (pg.base + off)

/-- The value of a field in force: the stored one, or, once a mismatch is found, that of the parity safe action. DEDUCED, log 27. -/
def State.cfg (s : State) (pg : PageId) (f : Fld) : Nat :=
  match s.heldAt pg f.off with
  | none => s.get pg f
  | some m => fldGet f (safeWord pg f.off m)

/-- The word of a register in force: the stored one, or that of the parity safe action. -/
def State.cfgWord (s : State) (pg : PageId) (off : Nat) : Word :=
  match s.heldAt pg off with
  | none => s.rd (pg.base + off)
  | some m => safeWord pg off m

/-- A one-bit field in force. -/
def State.cfgFlag (s : State) (pg : PageId) (f : Fld) : Bool := s.cfg pg f != 0

/-! ### Identities -/

/-- This chip's ring ID, as latched (R107). -/
def State.ownChip (s : State) : Chip := ⟨s.get .mgt F.MGT_CHIP_CHIP_ID % 16, Nat.mod_lt _ (by decide)⟩

/-- The owner ID of a master. -/
def masterOwner : Master → Fin 4
  | .a => 0
  | .b => 1

/-- The index of a master's management port. -/
def masterIx : Master → Fin 2
  | .a => 0
  | .b => 1

/-- A local master as a requester. -/
def masterReq : Master → Requester
  | .a => .a
  | .b => .b

/-- A presentation's host agent as a requester. -/
def hostReq (u : Up) : Requester := if u = 0 then .h0 else .h1

/-- The identity of a requester (R62). -/
def State.identOf (s : State) : Requester → Ident
  | .a => ⟨0, s.ownChip⟩
  | .b => ⟨1, s.ownChip⟩
  | .h0 => ⟨2, s.ownChip⟩
  | .h1 => ⟨3, s.ownChip⟩
  | .ring m c => ⟨masterOwner m, c⟩

/-- The guarded-pair slot of an identity (R62). -/
def identSlot (i : Ident) : Nat := i.origin.val * 4 + i.owner.val

/-- An error bit of `MGT_ERRn` set for an identity, with its origin (R107). -/
def State.mgtErr (s : State) (i : Ident) (f : Nat → Fld) : State :=
  (s.put .mgt (f i.owner.val) 1).put .mgt (F.MGT_ERRn_ORIGIN i.owner.val) i.origin.val

/-! ### Free values -/

/-- A value the spec leaves open, and the state that has used it. DESIGN CHOICE, log 9. -/
def State.free (s : State) : Word × State := (Config.freeWord s.freeCount, { s with freeCount := s.freeCount + 1 })

/-! ### Answers -/

/-- The state with an answer recorded. DESIGN CHOICE, log 8. -/
def State.reply (s : State) (a : Answer) : State := { s with answer := a }

/-! ### Modes, clocks and reset domains (R3, R8, R13, R17) -/

/-- Compatibility mode is in force (R4). -/
def State.compat (s : State) : Bool := s.flag .glb F.GLB_MODE_COMPAT

/-- The configuration load is complete. -/
def State.loaded (s : State) : Bool := s.flag .glb F.GLB_READY_CFG_LOADED

/-- The root PLL is locked, so the core clocks that nothing stops run (R13). -/
def State.locked (s : State) : Bool := s.flag .clk F.CLK_ROOT_STATUS_ROOT_LOCKED

/-- The plate of a port. -/
def plateOf (p : Port) : Plate := ⟨p.val / 16, by omega⟩

/-- The plate of a full port. -/
def fullPlate (f : Full) : Plate := ⟨f.val / 4, by omega⟩

/-- The full-port number of a port, if it is one. -/
def fullOf (p : Port) : Option Full := if h : p.val % 16 < 4 then some ⟨p.val / 16 * 4 + p.val % 16, by omega⟩ else none

/-- The FCLK branch of a plate runs (R13, R14). -/
def State.fclkRun (s : State) (k : Plate) : Bool :=
  !s.compat && (s.cfg .clk F.CLK_GATE_FCLK_PLATE_RUN).testBit k.val

/-- The lock bit of a lane PLL. -/
def laneFld : Lane → Fld
  | .up u => if u = 0 then F.CLK_ROOT_STATUS_LANE_U0_LOCKED else F.CLK_ROOT_STATUS_LANE_U1_LOCKED
  | .plate k => fldBit F.CLK_ROOT_STATUS_LANE_PLATE_LOCKED k.val

/-- A port is in reset (`CLK_PORT_IN_RST_LO/HI`). -/
def State.portInRst (s : State) (p : Port) : Bool := s.flag .clk (portBit F.CLK_PORT_IN_RST_PORT_IN_RST p)

/-- A plate is in reset (`CLK_RESET_STATUS.PLATE_IN_RST`). -/
def State.plateInRst (s : State) (k : Plate) : Bool := s.flag .clk (fldBit F.CLK_RESET_STATUS_PLATE_IN_RST k.val)

/-- The core runs: out of core global reset with the root PLL locked. -/
def State.coreUp (s : State) : Bool := !s.coreHeld && s.locked

/-- The port's domain is out of reset while the core runs: its logic acts. -/
def State.portUp (s : State) (p : Port) : Bool := s.coreUp && !s.portInRst p

/-- The copy of `GLB_UPTIME` that a page's records are stamped from, by the clock of its block (R8, R118): 0 RCLK, 1 UCLK, 2 PCLK, 3 HCLK,
4 the root branch of FCLK, 5–8 its plate branches, 9 GCLK, 10 DCLK. The entry domain stamps whole microseconds (R117 `COARSE`). -/
def copyOf : PageId → Fin 11
  | .u2h _ | .u2p _ | .con _ => 1
  | .tcp _ | .vbs _ => 2
  | .mgf | .epm | .ups _ => 4
  | .ssh k => ⟨5 + k.val, by omega⟩
  | .ssp f => ⟨5 + (fullPlate f).val, by omega⟩
  | .grv | .drc | .lhe _ => 9
  | _ => 0

/-- The clock of a copy runs (R13). DESIGN CHOICE, log 5. -/
def State.copyRuns (s : State) (d : Fin 11) : Bool :=
  s.locked && (if d = 9 then s.gclkOn else if d = 10 then s.dclkOn
    else if h : 5 ≤ d.val ∧ d.val ≤ 8 then s.fclkRun ⟨d.val - 5, by omega⟩ else true)

/-- `GLB_UPTIME` now: the value at the last alignment point and the RCLK cycles since, 120 of them in a microsecond (R118). -/
def State.now (s : State) : BitVec 64 := s.uptime + BitVec.ofNat 64 (s.phase.val * 25 / 3)

/-- The clock of a copy: cycles after a number of RCLK cycles at 120 MHz, the period in nanoseconds with a 16-bit fraction, and the cycles of
the shortest synchroniser latency (R8, R110, R118). DESIGN CHOICE, log 5. -/
def copyClock (d : Fin 11) (rclk : Nat) : Nat × Nat × Nat :=
  match d.val with
  | 0 => (rclk, 546133, 2)
  | 1 => (rclk / 2, 1092266, 2)
  | 2 => (rclk / 10, 5461333, 2)
  | 3 => (4 * rclk, 136533, 3)
  | 9 => (6 * rclk, 91022, 3)
  | 10 => (12 * rclk, 45511, 3)
  | _ => (24 * rclk / 5, 113777, 3)

/-- A copy after the RCLK cycles `a` to `b` of a microsecond that began with the published value `base`: it advances each cycle of its clock
by the period, and loads the published value and its shortest latency when that has passed (R118). DESIGN CHOICE, log 5. -/
def copyStep (d : Fin 11) (base : BitVec 64) (a b : Nat) (v : BitVec 80) : BitVec 80 :=
  let (m, period, lat) := copyClock d a
  let n := (copyClock d b).1
  if m < lat ∧ lat ≤ n then (base.setWidth 80 <<< 16) + BitVec.ofNat 80 (n * period) else v + BitVec.ofNat 80 ((n - m) * period)

/-- The copies whose clocks run, advanced to an RCLK cycle of the present microsecond. -/
def State.copiesTo (s : State) (b : Nat) : State :=
  { s with copies := Vector.ofFn (fun d => if s.copyRuns d then copyStep d s.uptime s.phase.val b s.copies[d] else s.copies[d]) }

/-- The next alignment point of `GLB_UPTIME` (R118). DESIGN CHOICE, log 5. -/
def State.alignUptime (s : State) : State := { s.copiesTo 120 with uptime := s.uptime + 1000, phase := 0 }

/-- One RCLK cycle of an idle block, up to the last before the next alignment point. DESIGN CHOICE, log 5. DESIGN CHOICE, log 3. -/
def State.rclkCycle (s : State) : State :=
  if h : s.phase.val + 1 < 120 then { s.copiesTo (s.phase.val + 1) with phase := ⟨s.phase.val + 1, h⟩ } else s

/-- The clock of a page's block runs (R8, R13). -/
def State.clockOn (s : State) : PageId → Bool
  | .pwe => true
  | .ssh k => s.locked && s.fclkRun k
  | .ssp f => s.locked && s.fclkRun (fullPlate f)
  | .grv => s.locked && s.gclkOn
  | .drc => s.locked && s.gclkOn
  | .lhe _ => s.locked && s.gclkOn
  | _ => s.locked

/-- The reset domain of a page is held in reset (R8, R17). -/
def State.domainInRst (s : State) : PageId → Bool
  | .pwe => !s.entry.powered
  | .mgt => s.coreHeld || s.flag .clk F.CLK_RESET_STATUS_MGT_IN_RST
  | .u2h k => s.coreHeld || s.plateInRst k
  | .ssh k => s.coreHeld || s.plateInRst k || !s.fclkRun k
  | .grv => s.coreHeld || s.flag .clk F.CLK_RESET_STATUS_GRAVER_IN_RST
  | .drc => s.coreHeld || s.flag .clk F.CLK_RESET_STATUS_DRC_IN_RST
  | .tcp p => s.coreHeld || s.portInRst p
  | .vbs p => s.coreHeld || s.portInRst p
  | .u2p p => s.coreHeld || s.portInRst p
  | .con p => s.coreHeld || s.portInRst p
  | .lhe p => s.coreHeld || s.portInRst p
  | .ssp f => s.coreHeld || s.portInRst (fullPort f) || !s.fclkRun (fullPlate f)
  | _ => s.coreHeld

end Sys2Proof.Machine
end

