-- ==== Sys2Proof/Machine/Flags.lean ====
section
/-! DEFINITION. Status and interrupt flags: raising an event (R53, R115, R117), the event router (R120), the queues
(R122–R128) and the interrupt lines (R87). -/

namespace Sys2Proof.Machine

/-- Class, code and priority of an event (R119). -/
structure Ev where
  cls : Nat
  code : Nat
  pri : Fin 8
  deriving DecidableEq, Repr

/-! The event codes of R119. -/
def evAttach : Ev := ⟨1, 1, 4⟩
def evDetach : Ev := ⟨1, 2, 4⟩
def evAccessory : Ev := ⟨1, 3, 4⟩
def evConsoleRouted : Ev := ⟨1, 4, 1⟩
def evOwnerMove : Ev := ⟨1, 5, 4⟩
def evQuarantine : Ev := ⟨1, 6, 7⟩
def evQuarantineRelease : Ev := ⟨1, 7, 4⟩
def evContract : Ev := ⟨2, 1, 4⟩
def evHardReset : Ev := ⟨2, 2, 6⟩
def evSoftReset : Ev := ⟨2, 3, 4⟩
def evTransitionFail : Ev := ⟨2, 4, 7⟩
def evSwap : Ev := ⟨2, 5, 4⟩
def evCable : Ev := ⟨2, 6, 1⟩
def evModeEnter : Ev := ⟨2, 7, 1⟩
def evProtocolErr : Ev := ⟨2, 8, 4⟩
def evFeedLoss : Ev := ⟨3, 0x01, 7⟩
def evFeedSwitch : Ev := ⟨3, 0x02, 6⟩
def evEntryTrip : Ev := ⟨3, 0x03, 7⟩
def evEntryLatchOff : Ev := ⟨3, 0x04, 7⟩
def evSeating : Ev := ⟨3, 0x05, 6⟩
def evIlimFault : Ev := ⟨3, 0x06, 7⟩
def evGrant : Ev := ⟨3, 0x10, 1⟩
def evDefer : Ev := ⟨3, 0x11, 1⟩
def evRevoke : Ev := ⟨3, 0x12, 6⟩
def evPoolChange : Ev := ⟨3, 0x13, 6⟩
def evVbusOn : Ev := ⟨3, 0x14, 4⟩
def evVbusOff : Ev := ⟨3, 0x15, 4⟩
def evPortFuseTrip : Ev := ⟨3, 0x16, 7⟩
def evPresAttach : Ev := ⟨4, 1, 4⟩
def evPresDetach : Ev := ⟨4, 2, 6⟩
def evFailover : Ev := ⟨4, 3, 6⟩
def evFailback : Ev := ⟨4, 4, 4⟩
def evBusReset : Ev := ⟨4, 5, 4⟩
def evSuspend : Ev := ⟨4, 6, 1⟩
def evResume : Ev := ⟨4, 7, 1⟩
def evTtError : Ev := ⟨4, 8, 4⟩
def evSsUp : Ev := ⟨5, 1, 1⟩
def evSsDown : Ev := ⟨5, 2, 4⟩
def evSsFallback : Ev := ⟨5, 3, 4⟩
def evRecoveryLimit : Ev := ⟨5, 4, 4⟩
def evCompliance : Ev := ⟨5, 5, 4⟩
def evJobDone : Ev := ⟨6, 1, 1⟩
def evJobFail : Ev := ⟨6, 2, 4⟩
def evFanoutLeave : Ev := ⟨6, 3, 4⟩
def evCaptureWrap : Ev := ⟨6, 4, 1⟩
def evRingFault : Ev := ⟨6, 5, 7⟩
def evLinkDown : Ev := ⟨7, 1, 7⟩
def evLinkUp : Ev := ⟨7, 2, 1⟩
def evRouteChange : Ev := ⟨7, 3, 1⟩
def evDupChipId : Ev := ⟨7, 4, 7⟩
def evMiswire : Ev := ⟨7, 5, 7⟩
def evSemForced : Ev := ⟨7, 6, 4⟩
def evSemOrphaned : Ev := ⟨7, 7, 4⟩
def evLegConflict : Ev := ⟨7, 8, 7⟩
def evHostGrantChange : Ev := ⟨7, 9, 1⟩
def evLoadOk : Ev := ⟨8, 1, 1⟩
def evLoadFallback : Ev := ⟨8, 2, 7⟩
def evStoreEmpty : Ev := ⟨8, 3, 7⟩
def evCommitDone : Ev := ⟨8, 4, 1⟩
def evCommitFail : Ev := ⟨8, 5, 7⟩
def evStrapInvalid : Ev := ⟨8, 6, 7⟩
def evParity : Ev := ⟨9, 1, 7⟩
def evThermalThrottle : Ev := ⟨9, 2, 6⟩
def evThermalShed : Ev := ⟨9, 3, 7⟩
def evThermalClear : Ev := ⟨9, 4, 4⟩
def evPlateIsolated : Ev := ⟨9, 5, 6⟩
def evPlateRestored : Ev := ⟨9, 6, 4⟩
def evLaneUnlock : Ev := ⟨9, 7, 6⟩
def evEccCorrected : Ev := ⟨9, 8, 1⟩
def evEccUncorrected : Ev := ⟨9, 9, 7⟩
def evAttachCmd : Ev := ⟨0xF, 1, 1⟩
def evHoldTimeout : Ev := ⟨0xF, 2, 4⟩
def evOvercurrent : Ev := ⟨0xF, 3, 6⟩

/-- The `INT_STATUS` bit that an event raised from a page sets, if it has one (R119, R156, R201, R204, R228, R264, R293,
R294, R323, R345, R443, R459, R462, R464). -/
def intBit (pg : PageId) (e : Ev) (src : Nat) : Option Nat :=
  match pg with
  | .mgt => some (e.code - 1)
  | .cfg => some (e.code - 1)
  | .bgt => some (e.code - 0x10)
  | .vbs _ => some (e.code - 0x14)
  | .tcp _ => if e.cls = 1 then some (e.code - 1) else some (e.code + 7)
  | .u2h _ => some (e.code - 6)
  | .u2p _ => some (e.code - 6)
  | .ssp _ => some (e.code - 1)
  | .ups _ => some (e.code - 1)
  | .prs => if e.cls = 1 then some 4 else some (e.code - 1)
  | .mgf => some src
  | .grv => some (e.code - 1)
  | .drc => some (e.code - 8)
  | .cpt => some (e.code - 1)
  | .hlt => if e.cls = 9 ∧ 2 ≤ e.code then some (e.code - 2) else none
  | _ => none

/-- The depth of a page's hand-off FIFO: 8 records, 16 in the entry domain (R115, R178). -/
def fifoDepth (page : Nat) : Nat := if page = 5 then 16 else 8

/-- An empty hand-off FIFO. -/
def emptyFifo : Fifo := ⟨[], []⟩

/-- The FIFO of a source page. -/
def State.fifo (s : State) (page : Nat) : Fifo := Sparse.get (fun _ => emptyFifo) s.fifos page

/-- The state with a source page's FIFO replaced. -/
def State.setFifo (s : State) (page : Nat) (f : Fifo) : State :=
  { s with fifos := Sparse.put (fun _ => emptyFifo) s.fifos page f }

/-- An occurrence counted while the FIFO is full, per code (R115). DESIGN CHOICE, log 80. -/
def countOver (os : List OverCount) (r : EventRecord) : List OverCount :=
  match os with
  | [] => [⟨r, 1⟩]
  | o :: t => if o.last.cls = r.cls ∧ o.last.code = r.code then ⟨r, o.count + 1⟩ :: t else o :: countOver t r

/-- A record handed to the FIFO of its source page (R115): stored when there is space and no count waits, else counted. -/
def State.handOff (s : State) (page : Nat) (r : EventRecord) : State :=
  let f := s.fifo page
  if f.recs.length < fifoDepth page ∧ f.overs = [] then s.setFifo page ⟨f.recs ++ [r], f.overs⟩
  else s.setFifo page ⟨f.recs, countOver f.overs r⟩

/-- The record of an occurrence now (R117, R118). Records of the entry domain are coarse, and `PRESTART` with a zero stamp
while core reset is asserted. DESIGN CHOICE, log 5. -/
def State.mkRecord (s : State) (pg : PageId) (e : Ev) (src : Nat) (detail : Nat) (assert : Bool) (subj : Subject) : EventRecord :=
  let inEntry := pg = .pwe
  let pre := inEntry && s.coreHeld
  { cls := BitVec.ofNat 8 e.cls, code := BitVec.ofNat 8 e.code, source := BitVec.ofNat 8 src, pri := e.pri,
    prestart := pre, coarse := inEntry && !pre, rep := false, filtered := false, assert := assert,
    detail := BitVec.ofNat 32 detail,
    stamp := if pre then 0 else if inEntry then s.now else (s.copies[copyOf pg] >>> 16).setWidth 64, subj := subj }

/-- An event raised from a page (R53, R115): its `INT_STATUS` bit is set, and its record is pushed when the bit is enabled
or the code has no bit. Before the load the record is kept in any case: the enables that the image sets judge it (R137). -/
def State.raiseWith (s : State) (pg : PageId) (e : Ev) (src : Nat) (detail : Nat) (assert : Bool) (subj : Subject) : State :=
  match intBit pg e src with
  | none => s.handOff (pg.base / 0x1000) (s.mkRecord pg e src detail assert subj)
  | some b =>
    let s1 := s.put pg (F.INT_STATUS b) 1
    if !s.loaded || s.cfgFlag pg (F.INT_ENABLE b) then s1.handOff (pg.base / 0x1000) (s1.mkRecord pg e src detail assert subj) else s1

/-- An event about a port, raised from a page of that port. -/
def State.raisePort (s : State) (pg : PageId) (p : Port) (e : Ev) (detail : Nat) (assert : Bool := true) : State :=
  s.raiseWith pg e p.val detail assert (.port p)

/-- An event with no port, presentation or job subject. -/
def State.raise (s : State) (pg : PageId) (e : Ev) (src : Nat) (detail : Nat) (assert : Bool := true) : State :=
  s.raiseWith pg e src detail assert .none

/-- An event about a presentation. -/
def State.raisePres (s : State) (pg : PageId) (u : Up) (e : Ev) (src detail : Nat) (assert : Bool := true) : State :=
  s.raiseWith pg e src detail assert (.pres u)

/-- A `FAULT` bit set. -/
def State.setFault (s : State) (pg : PageId) (n : Nat) : State := s.put pg (F.FAULT n) 1

/-! ### Records as words -/

/-- Word 0 of a record (R117). -/
def EventRecord.w0 (r : EventRecord) : Word :=
  BitVec.ofNat 32 (r.cls.toNat * 2 ^ 24 + r.code.toNat * 2 ^ 16 + r.source.toNat * 2 ^ 8 + r.pri.val * 2 ^ 5
    + bit r.prestart * 2 ^ 4 + bit r.coarse * 2 ^ 3 + bit r.rep * 2 ^ 2 + bit r.filtered * 2 + bit r.assert)

/-- Word 2 of a record: the low word of the stamp. -/
def EventRecord.w2 (r : EventRecord) : Word := BitVec.ofNat 32 r.stamp.toNat

/-- Word 3 of a record: the high word of the stamp. -/
def EventRecord.w3 (r : EventRecord) : Word := BitVec.ofNat 32 (r.stamp.toNat / 2 ^ 32)

/-! ### Queues -/

/-- A queue with nothing in it. -/
def emptyQueue : Queue := ⟨Vector.replicate 8 ⟨[], 0⟩, none, []⟩

/-- The depth of a queue: records of all levels (R129 `DEPTH`). -/
def Queue.depth (q : Queue) : Nat := q.levels.toList.foldl (fun n l => n + l.recs.length) 0

/-- The highest non-empty level (R123). -/
def Queue.topLevel (q : Queue) : Option (Fin 8) :=
  [7, 6, 5, 4, 3, 2, 1, 0].find? (fun i : Fin 8 => !(q.levels[i]).recs.isEmpty)

/-- The queue `n` as state. -/
def State.queue (s : State) (n : QueueIx) : Queue := s.queues[n]

/-- The state with queue `n` replaced. -/
def State.setQueue (s : State) (n : QueueIx) (q : Queue) : State := { s with queues := s.queues.set n q }

/-! ### Ports, ring links and attention notices (R87, R88, R102, R103) -/

/-- A management port. -/
def State.mport (s : State) (m : Master) : MPort := s.mports[masterIx m]

/-- A management port changed. -/
def State.mportWith (s : State) (m : Master) (f : MPort → MPort) : State :=
  { s with mports := s.mports.set (masterIx m) (f (s.mports[masterIx m])) }

/-- A chip that has found its own ID elsewhere on the ring (R103). -/
def State.dupId (s : State) : Bool := s.flag .mgt F.MGT_RING_STATUS_DUP_ID

/-- The ring is strapped on and the management domain runs. -/
def State.ringOn (s : State) : Bool := s.coreUp && !s.domainInRst .mgt && s.flag .mgt F.MGT_CHIP_RING_EN

/-- `ROUTEc` of a chip: 0 unreachable, 1 RING0 direction, 2 RING1 direction, 3 this chip. -/
def State.route (s : State) (c : Chip) : Nat := s.get .mgt ⟨0x68, 2 * c.val, 2⟩

/-- The side that a frame toward a chip leaves by, on the current route (R102). -/
def State.sideTo (s : State) (c : Chip) : Option Side := if s.route c = 1 then some 0 else if s.route c = 2 then some 1 else none

/-- One side of the ring changed. -/
def State.sideWith (s : State) (side : Side) (f : RingSide → RingSide) : State :=
  { s with ringSides := s.ringSides.set side (f (s.ringSides[side])) }

/-- A frame of this chip queued for a link, with the hop limit of its origin (R102). -/
def State.queueOut (s : State) (side : Side) (dest : Chip) (body : RingBody) : State :=
  s.sideWith side (fun x => { x with tx := x.tx ++ [⟨dest, s.ownChip, 15, body⟩] })

/-- A frame toward a chip queued on the current route; on none it is lost (R102, R103). -/
def State.ringSend (s : State) (c : Chip) (body : RingBody) : State :=
  match s.sideTo c with
  | none => s
  | some side => s.queueOut side c body

/-- The first condition of R87 for master `m`: an unmasked local queue holds a record at or above the minimum priority. -/
def State.queueAttention (s : State) (m : Master) : Bool :=
  let n : QueueIx := ⟨(masterIx m).val, by omega⟩
  let (mask, minPri) := match m with
    | .a => (F.MGT_INT_CFG_MASK_A, F.MGT_INT_CFG_MIN_PRI_A)
    | .b => (F.MGT_INT_CFG_MASK_B, F.MGT_INT_CFG_MIN_PRI_B)
  !s.cfgFlag .mgt mask && match (s.queue n).topLevel with
    | none => false
    | some l => decide (s.cfg .mgt minPri ≤ l.val)

/-- The attention bit of a chip set or cleared, for queue 1 or queue 0 (R88). -/
def State.setAttn (s : State) (c : Chip) (qb set : Bool) : State :=
  s.setFlag .mgt (fldBit (if qb then F.MGT_RING_ATTN_ATTN_B else F.MGT_RING_ATTN_ATTN_A) c.val) set

/-- `ATTN_x_REMOTE` and `ATTN_x_CHIP` of a master's queue. -/
def State.attnRemote (s : State) (m : Master) : Bool × Chip :=
  match m with
  | .a => (s.cfgFlag .mgt F.MGT_INT_CFG_ATTN_A_REMOTE, ⟨s.cfg .mgt F.MGT_INT_CFG_ATTN_A_CHIP % 16, Nat.mod_lt _ (by decide)⟩)
  | .b => (s.cfgFlag .mgt F.MGT_INT_CFG_ATTN_B_REMOTE, ⟨s.cfg .mgt F.MGT_INT_CFG_ATTN_B_CHIP % 16, Nat.mod_lt _ (by decide)⟩)

/-- A change of the condition of a master's queue is told to the chip that serves it (R88). DESIGN CHOICE, log 25. -/
def State.attnNotice (s : State) (m : Master) : State :=
  let now := s.queueAttention m
  let (remote, c) := s.attnRemote m
  if !remote || s.dupId || !s.ringOn || now == (s.mport m).attn then s else
  let s1 := s.mportWith m (fun x => { x with attn := now })
  if c = s.ownChip then s1.setAttn c (m == .b) now else s1.ringSend c (.notice (m == .b) now)

/-- What the queues of both masters have come to is told (R88). -/
def State.attnNotices (s : State) : State := (s.attnNotice .a).attnNotice .b

/-- Watermark in force: 0 and values above 64 act as 64 (R129). -/
def State.wmark (s : State) (n : QueueIx) : Nat :=
  let w := s.cfg .evq (F.EVQ_CFGn_WMARK n.val)
  if w = 0 ∨ 64 < w then 64 else w

/-- Peak depth after a change of the queue (R128). -/
def State.notePeak (s : State) (n : QueueIx) : State :=
  let d := (s.queue n).depth
  if s.get .evq (F.EVQ_PEAKn_PEAK n.val) < d then s.put .evq (F.EVQ_PEAKn_PEAK n.val) d else s

/-- The lowest priority that makes a notice of host agent `u` pending, in force (R365, R371). -/
def State.notifyPri (s : State) (u : Up) : Nat :=
  if u = 0 then s.cfg .mgf F.MGF_CFG_NOTIFY_PRI_H0 else s.cfg .mgf F.MGF_CFG_NOTIFY_PRI_H1

/-- A record has been stored in a level of a queue, or a bit of its watermarks has been newly set: a notice of the host agent
the queue belongs to becomes pending (R365). -/
def State.noteNotice (s : State) (n : QueueIx) (l : Fin 8) (wm : Bool) : State :=
  if n.val < 2 ∨ s.compat then s else
  let u : Up := ⟨n.val - 2, by omega⟩
  if s.notifyPri u ≤ l.val ∨ wm then s.put .mgf (F.MGF_Uu_STATUS_NOTICE_PENDING u.val) 1 else s

/-- A record written into a level that has a free slot: watermark, peak and notice follow (R128, R365). -/
def State.storeRecord (s : State) (n : QueueIx) (l : Fin 8) (r : EventRecord) : State :=
  let q := s.queue n
  let lv := q.levels[l]
  let s1 := s.setQueue n { q with levels := q.levels.set l { lv with recs := lv.recs ++ [r] } }
  let wm := decide (lv.recs.length < s.wmark n) && decide (s.wmark n ≤ lv.recs.length + 1)
  let fresh := wm && !s1.flag .evq (fldBit (F.EVQ_WMn_WM n.val) l.val)
  let s2 := if wm then s1.put .evq (fldBit (F.EVQ_WMn_WM n.val) l.val) 1 else s1
  ((s2.notePeak n).noteNotice n l fresh).attnNotices

/-- Whether a run waits in a pop of queue `n` (R124). -/
def AccessRun.popsQueue (n : QueueIx) (r : AccessRun) : Bool :=
  !r.write && !r.left.isEmpty && r.addr == 0x3040 + 0x40 * n.val

/-- A record pushed to a queue (R126, R127): to a pop that waits on the empty queue, into its level, or lost and counted. -/
def State.pushRecord (s : State) (n : QueueIx) (r : EventRecord) : State :=
  let q := s.queue n
  if q.depth = 0 ∧ q.handoff = none ∧ s.runs.any (AccessRun.popsQueue n) then s.setQueue n { q with handoff := some r }
  else if (q.levels[r.pri]).recs.length < 64 then s.storeRecord n r.pri r
  else
    let lv := q.levels[r.pri]
    (s.setQueue n { q with levels := q.levels.set r.pri { lv with lost := lv.lost + 1 } }).count .evq (F.EVQ_LOSTn_LOST n.val)

/-- The OVERFLOW record of a level (R127). -/
def State.overflowRecord (s : State) (l : Fin 8) (lost : Nat) : EventRecord :=
  { cls := 7, code := 0x10, source := BitVec.ofNat 8 l.val, pri := l, prestart := false, coarse := false, rep := false,
    filtered := false, assert := true, detail := BitVec.ofNat 32 (min lost 0xFFFFFFFF), stamp := s.now, subj := .none }

/-- The head record of a queue removed, with the OVERFLOW record that takes the freed slot (R123, R127). DEDUCED, log 20.
DESIGN CHOICE, log 80. -/
def State.popRecord (s : State) (n : QueueIx) : Option (EventRecord × State) :=
  let q := s.queue n
  match q.topLevel with
  | none => none
  | some l =>
    let lv := q.levels[l]
    match lv.recs with
    | [] => none
    | r :: rest =>
      let s1 := s.setQueue n { q with levels := q.levels.set l { recs := rest, lost := 0 } }
      some (r, if lv.lost = 0 then s1.attnNotices else s1.storeRecord n l (s.overflowRecord l lv.lost))

/-- The head record a pop would take (R125). DEDUCED, log 20. -/
def State.peekRecord (s : State) (n : QueueIx) : Option EventRecord :=
  match (s.queue n).topLevel with
  | none => none
  | some l => ((s.queue n).levels[l]).recs.head?

/-- The three latch words of a popped or peeked record; zero for none (R123, R125). -/
def State.latchWords (s : State) (n : QueueIx) (peek : Bool) (r : Option EventRecord) : State :=
  let base := 0x3040 + 0x40 * n.val + (if peek then 0x10 else 0)
  let w (f : EventRecord → Word) : Word := match r with
    | none => 0
    | some r => f r
  ((s.wr (base + 4) (w (·.detail))).wr (base + 8) (w (·.w2))).wr (base + 12) (w (·.w3))

/-- A record on its way to a pop that no longer waits goes back to the head of its level (R126).
DEDUCED, log 20. -/
def State.unhand (s : State) (n : QueueIx) : State :=
  let q := s.queue n
  match q.handoff with
  | none => s
  | some r =>
    if s.runs.any (AccessRun.popsQueue n) then s else
    let lv := q.levels[r.pri]
    let back : Level := ⟨(r :: lv.recs).take 64, if lv.recs.length < 64 then lv.lost else lv.lost + 1⟩
    let s1 := s.setQueue n { q with handoff := none, levels := q.levels.set r.pri back }
    (if lv.recs.length < 64 then s1.notePeak n else s1.count .evq (F.EVQ_LOSTn_LOST n.val)).attnNotices

/-- Every level emptied, lost counts, watermarks and latches cleared; a waiting pop is not ended (R129 `FLUSH`).
DESIGN CHOICE, log 80. -/
def State.flushQueue (s : State) (n : QueueIx) : State :=
  let q := s.queue n
  let s1 := s.setQueue n { q with levels := Vector.replicate 8 ⟨[], 0⟩ }
  (((s1.put .evq (F.EVQ_WMn_WM n.val) 0).latchWords n false none).latchWords n true none).attnNotices

/-! ### The router -/

/-- Whether a record's subject belongs to the host of queue 2 or 3 (R120). -/
def State.subjectOf (s : State) (n : QueueIx) (subj : Subject) : Bool :=
  let u := n.val - 2
  match subj with
  | .none => true
  | .port p => s.get .prs (F.PRS_OWNERn_CUR p.val) == u + 1
  | .move a b => a.val == u + 1 || b.val == u + 1
  | .pres w => w.val == u
  | .job r => r.val == n.val

/-- The class is enabled in `EVQ_ROUTEn` (R120, R129). -/
def State.routes (s : State) (n : QueueIx) (cls : Nat) : Bool :=
  if cls = 0xF then s.cfgFlag .evq (F.EVQ_ROUTEn_COMPAT_EN n.val)
  else (s.cfg .evq (F.EVQ_ROUTEn_CLASS_EN n.val)).testBit (cls - 1)

/-- A record offered to one queue (R120), with the `FILTERED` mark (R117). DEDUCED, log 20. DESIGN CHOICE, log 80. -/
def State.offerTo (s : State) (r : EventRecord) (n : QueueIx) : State :=
  if s.routes n r.cls.toNat ∧ s.cfg .evq (F.EVQ_CFGn_MIN_PRI n.val) ≤ r.pri.val then
    let q := s.queue n
    let mark : FilterMark := ⟨r.cls, r.code, r.source⟩
    if 2 ≤ n.val ∧ s.cfgFlag .evq (F.EVQ_CFGn_OWN_ONLY n.val) ∧ !s.subjectOf n r.subj then
      s.setQueue n { q with marks := if mark ∈ q.marks then q.marks else mark :: q.marks }
    else
      let marked := decide (mark ∈ q.marks)
      (s.setQueue n { q with marks := q.marks.filter (· ≠ mark) }).pushRecord n { r with filtered := marked }
  else s

/-- A record offered to all four queues (R120). -/
def State.offer (s : State) (r : EventRecord) : State := [0, 1, 2, 3].foldl (fun s n => s.offerTo r n) s

/-- The source page the router serves next: round-robin past the last one served (R115). -/
def State.nextSource (s : State) : Option (Nat × Fifo) :=
  match s.fifos.find? (fun e => s.routePtr < e.1) with
  | some e => some e
  | none => s.fifos.head?

/-- A FIFO after its oldest record has left: the first counted code becomes a REPEAT record in the freed slot (R115).
DESIGN CHOICE, log 80. -/
def Fifo.drained (f : Fifo) (rest : List EventRecord) : Fifo :=
  match f.overs with
  | [] => ⟨rest, []⟩
  | o :: os => ⟨rest ++ [{ o.last with rep := true, detail := BitVec.ofNat 32 o.count }], os⟩

/-- One record taken from a source FIFO and offered to the queues; nothing before the load (R115, R120, R137). -/
def State.routeOne (s : State) : State :=
  if !s.loaded then s else
  match s.nextSource with
  | none => s
  | some (pg, f) =>
    match f.recs with
    | [] => s
    | r :: rest => ({ s.setFifo pg (f.drained rest) with routePtr := pg }).offer r

/-- A record raised before the load is one that its page's `INT_ENABLE` admits as the image sets it (R137). -/
def State.admits (s : State) (page : Nat) (r : EventRecord) : Bool :=
  match pageAt (page * 0x1000) with
  | none => true
  | some pg => match intBit pg ⟨r.cls.toNat, r.code.toNat, r.pri⟩ r.source.toNat with
    | none => true
    | some b => s.cfgFlag pg (F.INT_ENABLE b)

/-- Counted codes become REPEAT records while there is space (R115). -/
def Fifo.refill (depth : Nat) (recs : List EventRecord) : List OverCount → Fifo
  | [] => ⟨recs, []⟩
  | o :: os =>
    if recs.length < depth then Fifo.refill depth (recs ++ [{ o.last with rep := true, detail := BitVec.ofNat 32 o.count }]) os
    else ⟨recs, o :: os⟩

/-- What the sources hold as the load completes, under the enables of the image (R137). -/
def State.loadFilter (s : State) : State :=
  s.fifos.foldl (fun a e => a.setFifo e.1
    (Fifo.refill (fifoDepth e.1) (e.2.recs.filter (s.admits e.1)) (e.2.overs.filter (fun o => s.admits e.1 o.last)))) s

/-! ### Interrupt lines (R87) -/

/-- `MA_INT_N` or `MB_INT_N` is pulled low (R87). DESIGN CHOICE, log 75. -/
def State.intLine (s : State) (m : Master) : Bool :=
  match m with
  | .a => (!s.cfgFlag .mgt F.MGT_INT_CFG_ATTN_A_REMOTE && s.queueAttention .a) || s.get .mgt F.MGT_RING_ATTN_ATTN_A != 0
  | .b => (!s.cfgFlag .mgt F.MGT_INT_CFG_ATTN_B_REMOTE && s.queueAttention .b) || s.get .mgt F.MGT_RING_ATTN_ATTN_B != 0

end Sys2Proof.Machine
end

