-- ==== Sys2Proof/Machine/Parity.lean ====
section
/-! DEFINITION. Register parity (R68–R71): which registers carry it, a bit upset, finding and reporting a mismatch, and its
end by a write. -/

namespace Sys2Proof.Machine

/-- Bits that a register stores as zero whatever is written: the low bits of ring bases and window addresses (R406, R413). -/
def zeroBits (pg : PageId) (off : Nat) : Word :=
  match pg with
  | .grv => if 0x100 ≤ off ∧ off < 0x200 ∧ (off % 0x40 = 0 ∨ off % 0x40 = 0x14) then 0x3F else 0
  | .drc => if off = 0x80 ∨ off = 0x90 then 3 else 0
  | _ => 0

/-- The bits of the RW and RWG fields of a register. -/
def storedMask (fs : List FieldDesc) : Word :=
  fs.foldl (fun m f => if f.ty = .rw ∨ f.ty = .rwg then m ||| fldMask ⟨0, f.lo, f.width⟩ else m) 0

/-- The pages whose `PAGE_CTRL` is not stored (R51). -/
def fixedCtrl : PageId → Bool
  | .glb | .clk | .mgt | .evq | .cfg | .pwe | .hlt => true
  | _ => false

/-- The bits that a byte of the emulated register file stores: configuration 1 and 2 have reserved bits (R430). -/
def winMask (a : Nat) : Nat := if a = 6 then 0xBE else if a = 7 then 0x07 else 0xFF

/-- The stored bits of the parity-protected register at an offset of a page; zero where none lies (R68, R71, R91, R444). -/
def parityBits (pg : PageId) (off : Nat) : Word :=
  match pg with
  | .win _ => if off % 4 = 0 ∧ (off < 0x30 ∨ (0x80 ≤ off ∧ off < 0x300)) then BitVec.ofNat 32 (winMask (off / 4)) else 0
  | _ =>
    if (pg = .glb ∧ off = 0x300) ∨ (off = 4 ∧ fixedCtrl pg) then 0 else
    match pg.regAt off with
    | none => 0
    | some r => storedMask r.fields

/-- Whether a byte has an odd number of ones: a flip of those bits breaks its parity. -/
def oddByte (w : Word) (lane : Nat) : Bool :=
  ((List.range 8).filter (fun i => (w.toNat).testBit (8 * lane + i))).length % 2 == 1

/-- The byte lanes whose parity a flip of the given bits breaks. -/
def oddLanes (w : Word) : BitVec 4 :=
  BitVec.ofNat 4 (bit (oddByte w 0) + 2 * bit (oddByte w 1) + 4 * bit (oddByte w 2) + 8 * bit (oddByte w 3))

/-- The reserved bits of a protected register: stored as zero, and under its parity (R68). -/
def reservedBits (pg : PageId) (off : Nat) : Word :=
  match pg, pg.regAt off with
  | _, none => 0
  | .win _, some _ => if parityBits pg off = 0 then 0 else 0xFF &&& ~~~parityBits pg off
  | _, some r => if parityBits pg off = 0 then 0 else ~~~ r.fields.foldl (fun m f => m ||| fldMask ⟨0, f.lo, f.width⟩) 0

/-- Bits of a protected register flipped: the value changes, and the lanes with an odd number of flips mismatch. A flipped reserved bit
shows in the parity alone, and reads as zero. DESIGN CHOICE, log 26. -/
def State.upset (s : State) (addr : Nat) (flips : Word) : State :=
  match pageAt addr with
  | none => s
  | some pg =>
    let off := addr % 0x1000
    let odd := oddLanes (flips &&& (parityBits pg off ||| reservedBits pg off))
    let s1 := s.wr addr (s.rd addr ^^^ (flips &&& parityBits pg off))
    match s.mismatch addr with
    | none =>
      if odd = 0 then s1 else { s1 with bad := ⟨addr, odd, false, false, s.rd addr⟩ :: s1.bad }
    | some b =>
      { s1 with bad := if b.lanes ^^^ odd = 0 then s1.bad.filter (fun x : Mismatch => x.addr != addr)
                       else s1.bad.map (fun x : Mismatch => if x.addr = addr then { x with lanes := b.lanes ^^^ odd } else x) }

/-- The page that reports a mismatch: the CPT page for the windows (R444). -/
def reportPage : PageId → PageId
  | .win _ => .cpt
  | pg => pg

/-- A mismatch found by the scrubber or a read (R69): reported once. The flag tells whether it is reported now. DESIGN CHOICE, log 26.
DESIGN CHOICE, log 81. -/
def State.findParity (s : State) (addr : Nat) : Bool × State :=
  match pageAt addr, s.mismatch addr with
  | some pg, some b =>
    let rp := reportPage pg
    if b.reported then (false, s) else
    let s1 := if s.flag rp (F.FAULT 0) then s.put rp F.PARITY_ADDR_MULTI 1
      else ((s.put rp F.PARITY_ADDR_OFFSET (addr % 0x1000)).put rp F.PARITY_ADDR_LANES b.lanes.toNat).setFault rp 0
    let s2 := { s1 with bad := s1.bad.map (fun x : Mismatch => if x.addr = addr then { x with found := true, reported := true } else x) }
    let s3 := if s2.coreHeld then s2 else (s2.count .hlt F.HLT_PARITY_CNT_COUNT).put .hlt F.HLT_PARITY_LAST_ADDR addr
    let s4 := match pg with
      | .win i => s3.put .cpt F.CPT_STATUS_PAR_INST i.val
      | _ => s3
    (true, s4.handOff (rp.base / 0x1000) (s4.mkRecord rp evParity pg.inst addr true .none))
  | _, _ => (false, s)

/-- The write of some byte lanes of a register, by software or by the hardware: their parity is right again (R68, R70). The flag tells
whether a mismatch of the register that had been found has ended. DEDUCED, log 27. -/
def State.mendParity (s : State) (addr : Nat) (be : BitVec 4) : Bool × State :=
  match s.mismatch addr with
  | none => (false, s)
  | some b =>
    let left := b.lanes &&& ~~~ be
    if left = 0 then (b.found, { s with bad := s.bad.filter (fun x : Mismatch => x.addr != addr) })
    else (false, { s with bad := s.bad.map (fun x : Mismatch => if x.addr = addr then { x with lanes := left } else x) })

/-- The byte lanes that hold bits of a field. -/
def fldLanes (f : Fld) : BitVec 4 :=
  BitVec.ofNat 4 ((List.range 4).foldl (fun n i => if f.lo < 8 * i + 8 ∧ 8 * i < f.lo + f.width then n + 2 ^ i else n) 0)

/-- A hardware update of an RW field: its value, and new parity in its bytes (R68). -/
def State.putRw (s : State) (pg : PageId) (f : Fld) (v : Nat) : State :=
  ((s.put pg f v).mendParity (pg.base + f.off) (fldLanes f)).2

/-- `FAULT.PARITY` cleared by software: `PARITY_ADDR` clears, and mismatches that remain are reported again (R69, R70). -/
def State.clearParityFault (s : State) (pg : PageId) : State :=
  let s1 := s.wr (pg.base + 0x18) 0
  { s1 with bad := s1.bad.map (fun x : Mismatch =>
      if (pg.base ≤ x.addr ∧ x.addr < pg.base + 0x1000) ∨ (pg = .cpt ∧ 0x300000 ≤ x.addr) then { x with reported := false } else x) }

/-- The mismatches of a range of addresses forgotten: their registers are written anew by a reset. -/
def State.dropParity (s : State) (lo hi : Nat) : State :=
  { s with bad := s.bad.filter (fun x : Mismatch => !(decide (lo ≤ x.addr) && decide (x.addr < hi))) }

end Sys2Proof.Machine
end

