-- ==== Sys2Proof/Machine/Parts.lean ====
section
/-! DEFINITION. Access to the per-port and per-presentation parts of the state, and which hub context and presentation a
port belongs to (R266, R325, R326). -/

namespace Sys2Proof.Machine

/-- The USB 2.0 side of a port. -/
def State.u2p (s : State) (i : Port) : U2pSt := s.u2pSt[i]

/-- The state with the USB 2.0 side of a port changed. -/
def State.u2pWith (s : State) (i : Port) (f : U2pSt → U2pSt) : State := { s with u2pSt := s.u2pSt.set i (f s.u2pSt[i]) }

/-- The health controller's hidden part changed. -/
def State.healthWith (s : State) (f : Health → Health) : State := { s with health := f s.health }

/-- A compatibility instance's hidden part changed. -/
def State.cptWith (s : State) (i : Inst) (f : CptInst → CptInst) : State := { s with cpt := s.cpt.set i (f s.cpt[i]) }

/-- The SuperSpeed side of a full port. -/
def State.ssp (s : State) (i : Full) : SspSt := s.sspSt[i]

/-- The state with the SuperSpeed side of a full port changed. -/
def State.sspWith (s : State) (i : Full) (f : SspSt → SspSt) : State := { s with sspSt := s.sspSt.set i (f s.sspSt[i]) }

/-- The SuperSpeed side of an upstream port. -/
def State.upLk (s : State) (i : Up) : UpLinkSt := s.upLink[i]

/-- The state with the SuperSpeed side of an upstream port changed. -/
def State.upLkWith (s : State) (i : Up) (f : UpLinkSt → UpLinkSt) : State := { s with upLink := s.upLink.set i (f s.upLink[i]) }

/-- The VBUS switch of a port. -/
def State.vbs (s : State) (i : Port) : VbsSt := s.vbsSt[i]

/-- The state with the VBUS switch of a port changed. -/
def State.vbsWith (s : State) (i : Port) (f : VbsSt → VbsSt) : State := { s with vbsSt := s.vbsSt.set i (f s.vbsSt[i]) }

/-- The connection logic of a port. -/
def State.tcp (s : State) (i : Port) : TcpSt := s.tcpSt[i]

/-- The state with the connection logic of a port changed. -/
def State.tcpWith (s : State) (i : Port) (f : TcpSt → TcpSt) : State := { s with tcpSt := s.tcpSt.set i (f s.tcpSt[i]) }

/-- The PD engine of a port. -/
def State.pd (s : State) (i : Port) : PdSt := s.pdSt[i]

/-- The state with the PD engine of a port changed. -/
def State.pdWith (s : State) (i : Port) (f : PdSt → PdSt) : State := { s with pdSt := s.pdSt.set i (f s.pdSt[i]) }

/-- The console tap of a port. -/
def State.con (s : State) (i : Port) : ConSt := s.conSt[i]

/-- The state with the console tap of a port changed. -/
def State.conWith (s : State) (i : Port) (f : ConSt → ConSt) : State := { s with conSt := s.conSt.set i (f s.conSt[i]) }

/-- The presentation. -/
def State.pres (s : State) (i : Up) : PresSt := s.presSt[i]

/-- The state with the presentation changed. -/
def State.presWith (s : State) (i : Up) (f : PresSt → PresSt) : State := { s with presSt := s.presSt.set i (f s.presSt[i]) }

/-- The place of a USB 2.0 hub context in the state. -/
def HubIx (hc : HubCtx) : Fin 10 :=
  match hc with
  | .plate k c => ⟨2 * k.val + c.val, by omega⟩
  | .pres u => ⟨8 + u.val, by omega⟩

/-- A USB 2.0 hub context. -/
def State.hub (s : State) (hc : HubCtx) : HubCtxSt := s.hubCtx[HubIx hc]

/-- The state with a USB 2.0 hub context changed. -/
def State.hubWith (s : State) (hc : HubCtx) (f : HubCtxSt → HubCtxSt) : State :=
  { s with hubCtx := s.hubCtx.set (HubIx hc) (f s.hubCtx[HubIx hc]) }

/-- The place of a SuperSpeed hub context in the state. -/
def SsIx (sc : SsCtx) : Fin 10 :=
  match sc with
  | .plate k c => ⟨2 * k.val + c.val, by omega⟩
  | .root u => ⟨8 + u.val, by omega⟩

/-- A SuperSpeed hub context. -/
def State.ssHub (s : State) (sc : SsCtx) : SsCtxSt := s.ssCtx[SsIx sc]

/-- The state with a SuperSpeed hub context changed. -/
def State.ssHubWith (s : State) (sc : SsCtx) (f : SsCtxSt → SsCtxSt) : State :=
  { s with ssCtx := s.ssCtx.set (SsIx sc) (f s.ssCtx[SsIx sc]) }

/-! ### Owners, contexts and ports -/

/-- The owner in force of a port: 0 none, 1 U0, 2 U1, 3 the graver (R332). -/
def State.curOwner (s : State) (p : Port) : Nat := s.get .prs (F.PRS_OWNERn_CUR p.val)

/-- The flat topology is in force on presentation `u` (R325). -/
def State.isFlat (s : State) (u : Up) : Bool := s.flag .prs (F.PRS_Uu_STATUS_FLAT u.val)

/-- The compatibility instance of a port (R425: instance i covers P(8i) to P(8i+7)). -/
def instOf (p : Port) : Inst := ⟨p.val / 8, by omega⟩

/-- The context of its plate engine that serves a port in compatibility mode (R266). -/
def compatSide (p : Port) : Fin 2 := ⟨p.val / 8 % 2, by omega⟩

/-- The number of downstream ports of a hub context (R266, R325). -/
def State.hubPorts (s : State) (hc : HubCtx) : Nat :=
  match hc with
  | .plate _ _ => if s.compat then 8 else 16
  | .pres u => if s.compat then 8 else if s.isFlat u then 65 else 5

/-- The device port behind port `n` of a hub context, if one stands there (R266, R325, R326). -/
def State.hubPort (s : State) (hc : HubCtx) (n : Nat) : Option Port :=
  match hc with
  | .plate k c =>
    if s.compat then
      if h : 1 ≤ n ∧ n ≤ 8 then some ⟨16 * k.val + 8 * c.val + (n - 1), by omega⟩ else none
    else if h : 1 ≤ n ∧ n ≤ 16 then some ⟨16 * k.val + (n - 1), by omega⟩ else none
  | .pres u =>
    if !s.compat && s.isFlat u then (if h : 1 ≤ n ∧ n ≤ 64 then some ⟨n - 1, by omega⟩ else none) else none

/-- The view index of a context: which of a port's two stored `PORT_POWER` bits and views it uses (R294). -/
def hubSide : HubCtx → Fin 2
  | .plate _ c => c
  | .pres u => u

/-- The context that owns a port, if a presentation does (R268). -/
def State.ownerCtx (s : State) (p : Port) : Option HubCtx :=
  let cur := s.curOwner p
  if s.compat then (if cur = 1 ∨ cur = 2 then some (.plate (plateOf p) (compatSide p)) else none)
  else if h : cur = 1 ∨ cur = 2 then
    let u : Up := ⟨cur - 1, by omega⟩
    some (if s.isFlat u then .pres u else .plate (plateOf p) u)
  else none

/-- Whether a context owns a port (R268). -/
def State.ownsPort (s : State) (hc : HubCtx) (p : Port) : Bool := s.ownerCtx p == some hc

/-- The presentation that owns a port, if one does. -/
def State.ownerUp (s : State) (p : Port) : Option Up :=
  let cur := s.curOwner p
  if h : cur = 1 ∨ cur = 2 then some ⟨cur - 1, by omega⟩ else none

/-- The USB 2.0 hub contexts of a presentation (R325), outside compatibility mode. -/
def State.presHubs (s : State) (u : Up) : List HubCtx :=
  if s.isFlat u then [.pres u] else [.pres u, .plate 0 u, .plate 1 u, .plate 2 u, .plate 3 u]

/-- All ports, in order. -/
def allPorts : List Port := List.finRange 64

/-- The ports of a plate, in order. -/
def platePorts (k : Plate) : List Port := (List.finRange 16).map (fun i => ⟨16 * k.val + i.val, by omega⟩)

/-- The full ports of a plate, in order. -/
def plateFulls (k : Plate) : List Full := (List.finRange 4).map (fun i => ⟨4 * k.val + i.val, by omega⟩)

/-- The four plates. -/
def allPlates : List Plate := [0, 1, 2, 3]

/-- The host engine's state of a port. -/
def State.lhe (s : State) (p : Port) : LheSt := s.lheSt[p]

/-- The host engine changed. -/
def State.lheWith (s : State) (p : Port) (f : LheSt → LheSt) : State := { s with lheSt := s.lheSt.set p (f s.lheSt[p]) }

/-- A device is lost on one of a port's engines: a CDC capture that this engine polls ends with DETACHED (R402), and a device that ENUM has
found on SuperSpeed is no longer there. -/
def State.devLost (s : State) (p : Port) (ss : Bool) : State :=
  let s1 := { s with graver := { s.graver with caps := s.graver.caps.map (fun c =>
    if c.port = p ∧ c.cdc ∧ c.ss = ss ∧ c.ended.isNone then { c with ended := some 0x04 } else c) } }
  if ss then s1.lheWith p (fun l => { l with ssGone := true }) else s1

end Sys2Proof.Machine
end

