-- ==== Sys2Proof/Machine/Usb2Port.lean ====
section
/-! DEFINITION. The USB 2.0 side of a port (R268–R278): its state, a context's view of it, its transaction translator's
storage, and the host's power bits that govern VBUS. -/

namespace Sys2Proof.Machine

/-! ### Error counters that feed the error summary (R448) -/

/-- An error counter of a port raised by one: the port's bit of `HLT_ERR_SUM` is set. -/
def State.countErr (s : State) (pg : PageId) (p : Port) (f : Fld) : State :=
  (s.count pg f).put .hlt (portBit F.HLT_ERR_SUM_ERR p) 1

/-! ### Bits of `wPortChange` -/

def cConnection : BitVec 16 := 1
def cEnable : BitVec 16 := 2
def cSuspend : BitVec 16 := 4
def cOver : BitVec 16 := 8
def cReset : BitVec 16 := 16
def cL1 : BitVec 16 := 32

/-! ### Conditions -/

/-- The state of the USB 2.0 side (R272). -/
def State.u2St (s : State) (p : Port) : Nat := s.get (.u2p p) F.U2P_STATUS_STATE

/-- The state of the USB 2.0 side set. -/
def State.setU2 (s : State) (p : Port) (v : Nat) : State := s.put (.u2p p) F.U2P_STATUS_STATE v

/-- The state of the connection logic (R207). -/
def State.ccSt (s : State) (p : Port) : Nat := s.get (.tcp p) F.TCP_CC_STATUS_STATE

/-- The state of the VBUS switch (R196). -/
def State.vbsStt (s : State) (p : Port) : Nat := s.get (.vbs p) F.VBS_STATUS_STATE

/-- VBUS is on: the switch is in ON or TRANSITION. -/
def State.vbusOn (s : State) (p : Port) : Bool := s.vbsStt p == 3 || s.vbsStt p == 4

/-- The gate has turned on: CLOSING, ON or TRANSITION. DESIGN CHOICE, log 75. -/
def State.gateOn (s : State) (p : Port) : Bool := s.vbsStt p == 2 || s.vbusOn p

/-- The port is fitted (R41). -/
def State.fitted (s : State) (p : Port) : Bool := s.flag (.tcp p) F.TCP_PD_POLICY_FITTED

/-- The connection logic is attached (R207). -/
def State.ccAttached (s : State) (p : Port) : Bool := [4, 7, 10, 11].contains (s.ccSt p)

/-- The instance of a port exists (R425). -/
def State.instExists (s : State) (i : Inst) : Bool := (s.cfg .cpt F.CPT_CFG_INST_EN).testBit i.val

/-- The port runs with the compatibility values of R438. -/
def State.compatPort (s : State) (p : Port) : Bool := s.compat && s.instExists (instOf p)

/-- The USB pins can serve a device: VBUS on as source, attached, DFP, not DCP (R212, R217, R219, R272). -/
def State.usbUsable (s : State) (p : Port) : Bool :=
  s.vbusOn p && (s.ccSt p == 4 || s.ccSt p == 10) && !s.flag (.tcp p) F.TCP_PD_STATUS_DATA_ROLE &&
    s.get (.tcp p) F.TCP_CC_STATUS_BC_NOW != 2

/-- A mismatch found in a register, whose safe action holds (R69, R71). DEDUCED, log 27. -/
def State.badFound (s : State) (pg : PageId) (off : Nat) : Bool :=
  match s.badAt (pg.base + off) with
  | none => false
  | some _ => true

/-- The page is enabled (R52). -/
def State.pageOn (s : State) (pg : PageId) : Bool := s.cfgFlag pg F.PAGE_CTRL_EN

/-- The port is kept in DISABLED: its U2P page is off or mismatched (R52, R296). -/
def State.u2Barred (s : State) (p : Port) : Bool := !s.pageOn (.u2p p) || s.badFound (.u2p p) 0x40

/-- The USB 2.0 power bit a context stores for a port (R275, `U2P_STATUS.HOST_POWER`). -/
def State.powerBit (s : State) (p : Port) (c : Fin 2) : Bool := s.flag (.u2p p) (fldBit F.U2P_STATUS_HOST_POWER c.val)

/-- That bit set. -/
def State.setPowerBit (s : State) (p : Port) (c : Fin 2) (b : Bool) : State :=
  s.setFlag (.u2p p) (fldBit F.U2P_STATUS_HOST_POWER c.val) b

/-- The view index of the context that owns a port. -/
def State.ownerSide (s : State) (p : Port) : Option (Fin 2) := (s.ownerCtx p).map hubSide

/-- The owner's power bit is 0. -/
def State.ownerPowerOff (s : State) (p : Port) : Bool :=
  match s.ownerSide p with
  | none => false
  | some c => !s.powerBit p c

/-- The SuperSpeed power bit that the owner's context stores for a port (R306). -/
def State.ssPowerBit (s : State) (f : Full) (c : Fin 2) : Bool :=
  (s.ssHub (.plate (fullPlate f) c)).power.getLsbD (f.val % 4)

/-- The host of the owner lets VBUS be on (R275, R276, R306): `HOST_VBUS` = 0, or a power bit is 1 or under `PWR_HOLD`. -/
def State.hostAllows (s : State) (p : Port) : Bool :=
  match s.ownerSide p with
  | none => true
  | some c =>
    let two := s.powerBit p c || (s.u2p p).hold2.getLsbD c.val
    if s.compat then two
    else if !s.cfgFlag (.u2h (plateOf p)) F.U2H_CFG_HOST_VBUS then true
    else match fullOf p with
      | none => two
      | some f => two || s.ssPowerBit f c || (s.u2p p).holdS.getLsbD c.val

/-! ### Views -/

/-- Change bits set in the owner's view of a port (R268). -/
def State.addChg (s : State) (p : Port) (bits : BitVec 16) : State :=
  match s.ownerSide p with
  | none => s
  | some c => s.u2pWith p (fun u => { u with chg := u.chg.set c (u.chg[c] ||| bits) })

/-- The trips that report over-current on a port (R278): a wait or quarantine after FAST or SLOW. -/
def State.ownOver (s : State) (p : Port) : Bool :=
  (s.vbsStt p == 6 || (s.vbsStt p == 7 && s.flag .hlt (portBit F.HLT_QUAR_QUAR p))) &&
    (s.get (.vbs p) F.VBS_STATUS_LAST_CAUSE == 1 || s.get (.vbs p) F.VBS_STATUS_LAST_CAUSE == 2)

/-- The ports of a compatibility instance. -/
def instPorts (i : Inst) : List Port := (List.finRange 8).map (fun j => ⟨8 * i.val + j.val, by omega⟩)

/-- A byte of the configuration an attached instance runs with (R432). -/
def State.cptRun (s : State) (i : Inst) (a : Nat) : Nat := (Sparse.get (fun _ => (0 : Byte)) (s.cpt[i]).run a).toNat

/-- `PORT_OVER_CURRENT` (R278, R437). -/
def State.overCurrent (s : State) (p : Port) : Bool :=
  if s.compat && (s.cptRun (instOf p) 6).testBit 3 then (instPorts (instOf p)).any s.ownOver else s.ownOver p

/-- `wPortStatus` of a port in the owner's view, with the USB 2.0 bit numbers. DEDUCED, log 57. -/
def State.portStatus (s : State) (p : Port) (c : Fin 2) : Nat :=
  let u := s.u2p p
  let st := s.u2St p
  bit u.connected + 2 * bit (decide (5 ≤ st ∧ st ≤ 8)) + 4 * bit (st == 6 || (st == 7 && !u.fromL1)) + 8 * bit (s.overCurrent p)
    + 16 * bit (st == 4) + 32 * bit (st == 8 || (st == 7 && u.fromL1)) + 256 * bit (s.powerBit p c) + 512 * bit u.lowSpeed
    + 1024 * bit (s.get (.u2p p) F.U2P_STATUS_SPEED == 3) + 2048 * bit (st == 9)

/-- A context's view of a port: `wPortStatus` and `wPortChange` (R268). -/
def State.portView (s : State) (hc : HubCtx) (p : Port) : Nat × Nat :=
  let c := hubSide hc
  ((if s.ownsPort hc p then s.portStatus p c else 256 * bit (s.powerBit p c)), ((s.u2p p).chg[c]).toNat)

/-! ### Transaction translator storage -/

/-- The port whose TT serves a port: in compatibility mode a group may share the TT of its lowest port (R283). -/
def State.ttPort (s : State) (p : Port) : Port :=
  if s.compat && (s.cfg (.u2h (plateOf p)) F.U2H_CFG_SINGLE_TT).testBit (compatSide p).val then ⟨8 * (instOf p).val, by omega⟩ else p

/-- The counts of `U2P_TT_STATUS` follow the entries held. -/
def State.ttSync (s : State) (t : Port) : State :=
  let u := s.u2p t
  let bits (q : TtEntry → Bool) : Nat := u.nonper.foldl (fun n e => if q e.2 then n + 2 ^ e.1.val else n) 0
  ((s.put (.u2p t) F.U2P_TT_STATUS_PER_USED (min (u.periodic.filter (fun e => !e.dropped)).length 32)).put (.u2p t)
    F.U2P_TT_STATUS_NP_BUSY (bits (fun _ => true))).put (.u2p t) F.U2P_TT_STATUS_NP_DONE (bits (fun e => e.result.isSome))

/-- The entries of a port discarded from the TT that serves it (R273, R281). -/
def State.ttDrop (s : State) (p : Port) : State :=
  let t := s.ttPort p
  (s.u2pWith t (fun u => { u with periodic := u.periodic.filter (fun e => e.port != p), nonper := u.nonper.filter (fun e => e.2.port != p) })).ttSync t

/-- Every entry of a TT discarded, and `StopTT` ended (R289). -/
def State.ttReset (s : State) (t : Port) : State :=
  ((s.u2pWith t (fun u => { u with periodic := [], nonper := [] })).put (.u2p t) F.U2P_TT_STATUS_STOPPED 0).ttSync t

/-! ### Changes of state -/

/-- A port stops serving a device and takes the given state: `C_PORT_CONNECTION` if one was connected (R272, R273). -/
def State.u2Gone (s : State) (p : Port) (st : Nat) : State :=
  let s1 := if (s.u2p p).connected then (s.addChg p cConnection).devLost p false else s
  let s2 := s1.u2pWith p (fun u => { u with connected := false, lowSpeed := false, chirped := false, fromL1 := false, lpm := none })
  (((s2.put (.u2p p) F.U2P_STATUS_SPEED 0).put (.u2p p) F.U2P_STATUS_TEST_MODE 0).put (.u2p p) F.U2P_STATUS_L1_RWE 0
    |>.ttDrop p).setU2 p st

/-- A port put in DISABLED with its device still connected: suspend and L1 end; its TT keeps what it holds (R281). -/
def State.u2Disable (s : State) (p : Port) : State :=
  ((s.u2pWith p (fun u => { u with fromL1 := false, lpm := none, chirped := false })).put
    (.u2p p) F.U2P_STATUS_L1_RWE 0).setU2 p 3

/-- OFF, POWERED_OFF or a return to DISCONNECTED decided from the conditions of R272, the first row that applies; TESTING ends
only in the ways of R291. A port of no owner rests in POWERED_OFF where it was left there, else in DISCONNECTED; a device that stays connected
is in DISABLED again once the port has an owner. DEDUCED, log 57. -/
def State.u2Eval (s : State) (p : Port) : State :=
  let st := s.u2St p
  if st = 9 ∧ !s.portInRst p then s
  else if s.portInRst p || !s.fitted p || [0, 11, 12].contains (s.ccSt p) || s.get (.tcp p) F.TCP_CC_STATUS_BC_NOW == 2 then
    if st = 0 then s else s.u2Gone p 0
  else if s.ownerPowerOff p then (if st = 1 then s else s.u2Gone p 1)
  else if !s.usbUsable p then (if st = 0 then s else s.u2Gone p 0)
  else if s.curOwner p = 0 then (if st = 1 ∨ st = 2 then s else s.setU2 p 2)
  else if st ≤ 1 then s.setU2 p (if s.u2Barred p then 3 else 2)
  else if st = 2 ∧ (s.u2p p).connected then s.setU2 p 3
  else s

/-- The U2P block restarted: DISCONNECTED, detection again (R294, R296, R52). -/
def State.u2Restart (s : State) (p : Port) : State :=
  if s.u2St p ≤ 1 ∨ s.u2St p = 9 then s else s.u2Gone p (if s.u2Barred p then 3 else 2)

/-- The U2P safe action or page disable: DISABLED with `C_PORT_ENABLE` (R296, R52). -/
def State.u2Bar (s : State) (p : Port) : State :=
  if s.u2St p ≤ 1 ∨ s.u2St p = 9 then s else (s.u2Disable p).addChg p cEnable

/-- A disconnect of the device (R273, R274). -/
def State.u2Disconnect (s : State) (p : Port) : State := s.u2Gone p 2

end Sys2Proof.Machine
end

