-- ==== Sys2Proof/Machine/GrvCore.lean ====
section
/-! DEFINITION. Graver jobs as the ports touch them (R383–R386): a job's fields, the end of its part on a port, and what a
trip, an attach or a detach does to POWER jobs and captures (R388, R402). -/

namespace Sys2Proof.Machine

/-- Byte `i` of a list, zero beyond it. -/
def byteAt (bs : List Byte) (i : Nat) : Nat := (bs.getD i 0).toNat

/-- A little-endian number of `n` bytes from an offset. -/
def leNat (bs : List Byte) (off : Nat) : Nat → Nat
  | 0 => 0
  | n + 1 => byteAt bs off + 256 * leNat bs (off + 1) n

/-! ### Completion codes (R386) -/

def cOk : Byte := 0x00
def cBadDesc : Byte := 0x01
def cNotOwned : Byte := 0x02
def cNoDevice : Byte := 0x03
def cDetached : Byte := 0x04
def cTimeout : Byte := 0x05
def cStall : Byte := 0x06
def cXactErr : Byte := 0x07
def cHub : Byte := 0x08
def cMatch : Byte := 0x09
def cShort : Byte := 0x0A
def cMismatch : Byte := 0x0B
def cOwner : Byte := 0x0C
def cPowerFail : Byte := 0x0D
def cNoDram : Byte := 0x0E
def cDramErr : Byte := 0x0F
def cStopped : Byte := 0x10
def cLostOwner : Byte := 0x11
def cNotConfigured : Byte := 0x12
def cBusy : Byte := 0x13
def cParity : Byte := 0x14

/-! ### Jobs -/

/-- The opcode of a job. -/
def Job.op (j : Job) : Nat := byteAt j.desc 0
/-- A bit of `FLAGS`. -/
def Job.flag (j : Job) (n : Nat) : Bool := (byteAt j.desc 1).testBit n
/-- A 32-bit field. -/
def Job.word (j : Job) (off : Nat) : Nat := leNat j.desc off 4
/-- A 64-bit field. -/
def Job.quad (j : Job) (off : Nat) : Nat := leNat j.desc off 8
/-- The job runs on a port. -/
def Job.has (j : Job) (p : Port) : Bool := j.ports.any (fun x => x.port == p)
/-- The job has not ended on a port. -/
def Job.live (j : Job) (p : Port) : Bool := j.ports.any (fun x => x.port == p && x.code.isNone)
/-- The job's part on a port. -/
def Job.part (j : Job) (p : Port) : Option JobPort := j.ports.find? (fun x => x.port == p)
/-- The job has ended on every one of its ports. -/
def Job.finished (j : Job) : Bool := j.ports.all (fun x => x.code.isSome)
/-- The job stands in its ports' queues: neither CAPTURE nor STOP (R384). -/
def Job.queued (j : Job) : Bool := j.op != 8 && j.op != 12

/-- The job processor changed. -/
def State.grvWith (s : State) (f : Graver → Graver) : State := { s with graver := f s.graver }

/-- A job's part on a port changed. -/
def State.partWith (s : State) (id : Nat) (p : Port) (f : JobPort → JobPort) : State :=
  s.grvWith (fun g => { g with jobs := g.jobs.map (fun j =>
    if j.id = id then { j with ports := j.ports.map (fun x => if x.port = p then f x else x) } else j) })

/-- The end of a job's part on a port recorded in the LHE page (R408). -/
def State.lheNote (s : State) (p : Port) (op : Nat) (code : Byte) : State :=
  let s1 := (s.put (.lhe p) F.LHE_STATUS_LAST_OP op).put (.lhe p) F.LHE_STATUS_LAST_CODE code.toNat
  if code = cOk then s1 else s1.count (.lhe p) F.LHE_CNT_JOBS_FAILED

/-- A job ends on a port with a code. -/
def State.partEnd (s : State) (j : Job) (p : Port) (code : Byte) : State :=
  (s.partWith j.id p (fun x => { x with code := some code })).lheNote p j.op code

/-- The queued job that runs on a port. -/
def State.running (s : State) (p : Port) : Option Job :=
  s.graver.jobs.find? (fun j => j.queued && j.started && j.live p)

/-! ### Hooks of the ports -/

/-- VBUS did not come on: a POWER job that waits for it ends with POWER_FAIL (R388). -/
def State.powerFails (s : State) (p : Port) : State :=
  match s.running p with
  | none => s
  | some j =>
    match j.part p with
    | none => s
    | some x => if j.op = 1 ∧ x.phase = 3 then s.partEnd j p cPowerFail else s

/-- An attach or a detach at the captures of a port's console (R402): a marker, or the end of the capture. -/
def State.capMark (s : State) (p : Port) (attach : Bool) : State :=
  s.grvWith (fun g => { g with caps := g.caps.map (fun c =>
    if c.port = p ∧ !c.cdc ∧ c.ended.isNone then
      (if c.persist then { c with items := c.items ++ [.mark attach s.now] }
       else if attach then c else { c with ended := some cDetached })
    else c) })

end Sys2Proof.Machine
end

