-- ==== Sys2Proof/Machine/SsPort.lean ====
section
/-! DEFINITION. The SuperSpeed side of a full port (R299–R305): when its link may run, its entry to a state, its change bits
and its queues. -/

namespace Sys2Proof.Machine

/-- `SSP_STATUS.LINK_STATE` (R305). -/
def State.link (s : State) (f : Full) : Nat := s.get (.ssp f) F.SSP_STATUS_LINK_STATE

/-- The link state set. -/
def State.setLink (s : State) (f : Full) (v : Nat) : State := s.put (.ssp f) F.SSP_STATUS_LINK_STATE v

def lkU0 : Nat := 0
def lkU1 : Nat := 1
def lkU2 : Nat := 2
def lkU3 : Nat := 3
def lkDisabled : Nat := 4
def lkRxDetect : Nat := 5
def lkInactive : Nat := 6
def lkPolling : Nat := 7
def lkRecovery : Nat := 8
def lkHotReset : Nat := 9
def lkCompliance : Nat := 10
def lkLoopback : Nat := 11

/-! Change bits of a SuperSpeed port's `wPortChange`. -/
def sConnection : BitVec 16 := 1
def sOver : BitVec 16 := 8
def sReset : BitVec 16 := 16
def sBhReset : BitVec 16 := 32
def sLinkState : BitVec 16 := 64
def sConfigError : BitVec 16 := 128

/-- The port runs no SuperSpeed in compatibility mode (R14); its clock runs and its domain is out of reset. -/
def State.ssRuns (s : State) (f : Full) : Bool :=
  s.clockOn (.ssp f) && !s.domainInRst (.ssp f) && !s.compat

/-- `MAX_GEN` in force (R300, R446): 0 at thermal level 2. -/
def State.maxGen (s : State) (f : Full) : Nat :=
  if s.get .hlt F.HLT_STATUS_LEVEL = 2 then 0 else s.cfg (.ssp f) F.SSP_CFG_MAX_GEN

/-- The presentation whose context serves the port on SuperSpeed, if one owns it. -/
def State.ssSide (s : State) (f : Full) : Option (Fin 2) := if s.compat then none else s.ownerUp (fullPort f)

/-- `LHE_CFG.SS_ALLOW` in force: a value written is taken at the next ENUM (R408). -/
def State.ssLhe (s : State) (p : Port) : Bool :=
  match (s.lhe p).ssHeld with
  | none => s.cfgFlag (.lhe p) F.LHE_CFG_SS_ALLOW
  | some b => b

/-- The conditions of R301 under which a downstream link runs Rx.Detect, with those that disable it elsewhere (R52, R302,
R315, R324). -/
def State.ssAllowed (s : State) (f : Full) : Bool :=
  let p := fullPort f
  let k := fullPlate f
  s.ssRuns f && s.ccSt p == 4 && s.vbusOn p && !s.flag (.tcp p) F.TCP_PD_STATUS_DATA_ROLE
    && (match s.ssSide f with
        | some c => s.ssPowerBit f c
        | none => s.curOwner p == 3 && s.ssLhe p)
    && (s.get .clk F.CLK_ROOT_STATUS_LANE_PLATE_LOCKED).testBit k.val
    && (s.get .glb F.GLB_READY_PLATE_CAL).testBit k.val
    && !s.flag (.ssp f) F.SSP_STATUS_SS_ONLY2 && !(s.ssp f).hostDisabled
    && s.pageOn (.ssp f) && !s.badFound (.ssp f) 0x40 && !s.badFound (.ssp f) 0x54

/-- Change bits set in the owner's SuperSpeed view. -/
def State.addSsChg (s : State) (f : Full) (bits : BitVec 16) : State :=
  match s.ssSide f with
  | none => s
  | some c => s.sspWith f (fun x => { x with chg := x.chg.set c (x.chg[c] ||| bits) })

/-- Packets discarded for a port, counted (R313). -/
def State.ssDiscard (s : State) (f : Full) (n : Nat) : State := s.countBy (.ssp f) F.SSP_CNT_DISCARDS n

/-- A margining run that meets the link leaving U0, U1 or U2 ends with status 2; the count up to that point is the line's, which
the spec's inputs leave free (R319). DESIGN CHOICE, log 66. -/
def State.marginLost (s : State) (f : Full) : State :=
  if (s.ssp f).margining then
    let (w, s0) := s.free
    (((s0.sspWith f (fun x => { x with margining := false })).put (.ssp f) F.SSP_MARGIN_RES_ERRORS w.toNat).put (.ssp f)
      F.SSP_MARGIN_RES_STATUS 2).put (.ssp f) F.SSP_MARGIN_CMD_START 0
  else s

/-- The upstream link's state (R303, R305). -/
def State.upState (s : State) (u : Up) : Nat := s.get (.ups u) F.UPS_LINK_STATUS_LINK_STATE

/-- An upstream port in U3 drives its own exit LFPS (R310). -/
def State.upWake (s : State) (u : Up) : State :=
  if s.upState u = lkU3 then s.upLkWith u (fun l => { l with wakeExit := true }) else s

/-- A connect (bit 0), disconnect (1) or over-current (2) on a port wakes its suspended upstream link where the port's mask
permits it (R310). -/
def State.maskWake (s : State) (f : Full) (b : Nat) : State :=
  match s.ssSide f with
  | none => s
  | some u => if (s.get (.ssp f) F.SSP_STATUS_WAKE_MASK).testBit b then s.upWake u else s

/-- COMPLIANCE with `ASSERT` 0 where the link leaves Compliance. -/
def State.ssEndCompliance (s : State) (f : Full) : State :=
  if s.link f = lkCompliance then
    s.raisePort (.ssp f) (fullPort f) evCompliance (bit (s.ssp f).complianceAuto) false
  else s

/-- The link taken to a state in which no device is linked: a connected device is lost to the owner with `C_PORT_CONNECTION`
and SS_DOWN; packets toward the device are discarded (R313, R323). -/
def State.ssLeave (s0 : State) (f : Full) (dest cause : Nat) : State :=
  let s := s0.ssEndCompliance f
  let x := s.ssp f
  let s1 := if x.connected then
      ((if s.link f = lkInactive then s.addSsChg f sConnection
        else (s.addSsChg f sConnection).raisePort (.ssp f) (fullPort f) evSsDown cause)).maskWake f 1
    else s
  let s2 := ((s1.devLost (fullPort f) true).ssDiscard f x.down.length).sspWith f (fun y =>
    { y with connected := false, down := [], exiting := none, complianceAuto := false, loopMaster := false, reset := .none })
  ((s2.marginLost f).put (.ssp f) F.SSP_STATUS_GEN2 0).put (.ssp f) F.SSP_STATUS_FORCE_LPM 0 |>.setLink f dest

/-- The link taken to Rx.Detect, where the next Polling is the first. -/
def State.ssDetect (s : State) (f : Full) (cause : Nat) : State :=
  (s.ssLeave f lkRxDetect cause).sspWith f (fun y => { y with firstPoll := true })

/-- The link follows the conditions of R301: SS.Disabled where they fail, Rx.Detect where they come to hold. The cause is
that of the SS_DOWN of a link that goes down. -/
def State.ssEvalAs (s : State) (f : Full) (cause : Nat) : State :=
  if s.ssAllowed f then (if s.link f = lkDisabled then s.ssDetect f cause else s)
  else if s.link f = lkDisabled then s else s.ssLeave f lkDisabled cause

/-- As `ssEvalAs` with cause 0, detach or power. -/
def State.ssEval (s : State) (f : Full) : State := s.ssEvalAs f 0

/-- The SuperSpeed side of a port, if it is a full port. -/
def State.ssEvalPort (s : State) (p : Port) : State :=
  match fullOf p with
  | none => s
  | some f => s.ssEval f

/-- Both USB sides follow their conditions (R272, R301). -/
def State.usbEval (s : State) (p : Port) : State := (s.u2Eval p).ssEvalPort p

/-- A detach and a link entry to U0 that no ADC sample of the port lies between may fall into one cycle: then the detach stands, with SS_DOWN
and no `C_PORT_CONNECTION` for the connect (R320). A free value decides. DESIGN CHOICE, log 85. -/
def State.ssTie (s : State) (f : Full) : State :=
  match (s.ssp f).upFresh, s.ssSide f with
  | some b, some c =>
    if !(s.ssp f).connected then s else
    let r := s.free
    if r.1.getLsbD 0 then
      (r.2.sspWith f (fun x => { x with connected := false, chg := x.chg.set c (if b then x.chg[c] else x.chg[c] &&& ~~~sConnection) })).raisePort
        (.ssp f) (fullPort f) evSsDown 0
    else r.2
  | _, _ => s

/-- A detach clears what R302 holds until then; a link that the host has disabled stays so (R315). -/
def State.ssForget (s0 : State) (p : Port) : State :=
  match fullOf p with
  | none => s0
  | some f =>
    let s := s0.ssTie f
    ((s.put (.ssp f) F.SSP_STATUS_SS_ONLY2 0).put (.ssp f) F.SSP_STATUS_GEN2_BARRED 0).sspWith f
      (fun x => { x with pollFails := 0 })

/-- A change of `MAX_GEN` in force below the speed of a running link (R304). -/
def State.ssGenDrop (s : State) (f : Full) : State :=
  if s.flag (.ssp f) F.SSP_STATUS_GEN2 && s.maxGen f == 0 then s.ssDetect f 2 else s

end Sys2Proof.Machine
end

