-- ==== Sys2Proof/Machine/PdPolicy.lean ====
section
/-! DEFINITION. The policy table of a PD engine and what a grant allows it to offer (R236–R238). -/

namespace Sys2Proof.Machine

/-- PDO type: 0 Fixed, 1 Battery, 2 Variable, 3 APDO. -/
def pdoType (w : Word) : Nat := w.toNat / 2 ^ 30
/-- APDO type: 0 SPR PPS, 1 EPR AVS. -/
def apdoType (w : Word) : Nat := w.toNat / 2 ^ 28 % 4
/-- Fixed voltage, 50 mV. -/
def fixedV (w : Word) : Nat := w.toNat / 2 ^ 10 % 2 ^ 10
/-- Fixed current, 10 mA. -/
def fixedI (w : Word) : Nat := w.toNat % 2 ^ 10
/-- PPS maximum voltage, 100 mV. -/
def ppsMax (w : Word) : Nat := w.toNat / 2 ^ 17 % 2 ^ 8
/-- AVS maximum voltage, 100 mV. -/
def avsMax (w : Word) : Nat := w.toNat / 2 ^ 17 % 2 ^ 9
/-- APDO minimum voltage, 100 mV. -/
def apdoMin (w : Word) : Nat := w.toNat / 2 ^ 8 % 2 ^ 8
/-- APDO maximum voltage, 100 mV: bits [24:17] of a PPS APDO, [25:17] of an AVS APDO. -/
def apdoMax (w : Word) : Nat := if apdoType w = 0 then ppsMax w else avsMax w
/-- PPS current, 50 mA. -/
def ppsI (w : Word) : Nat := w.toNat % 2 ^ 7
/-- AVS PDP, W. -/
def avsPdp (w : Word) : Nat := w.toNat % 2 ^ 8

/-- The request lies within its PDO (R241). -/
def rdoFits (mv ma10 type : Nat) (w : Word) : Bool :=
  match type with
  | 2 => 100 * apdoMin w ≤ mv && mv ≤ 100 * ppsMax w && ma10 ≤ 5 * ppsI w
  | 4 => 100 * apdoMin w ≤ mv && mv ≤ 100 * avsMax w && mv * ma10 ≤ 100000 * avsPdp w
  | _ => ma10 ≤ fixedI w

/-- A contract of a type (`TCP_CONTRACT.TYPE`) lies within an offered PDO (R239). -/
def contractFits (mv ma10 type : Nat) (w : Word) : Bool :=
  (match type with
    | 2 => pdoType w == 3 && apdoType w == 0
    | 4 => pdoType w == 3 && apdoType w == 1
    | _ => pdoType w == 0 && 50 * fixedV w == mv) && rdoFits mv ma10 type w

/-- What the ordering check remembers of the valid PDOs before (R236). -/
structure PdoOrder where
  fixed : Nat
  apdo : Option (Nat × Nat)
  deriving DecidableEq, Repr

/-- Whether a PDO is valid in itself in positions 1–7, or in 8–11 of a full port (R236). -/
def pdoValid (isFull hi : Bool) (w : Word) : Bool :=
  let imax := if isFull then 500 else 300
  match pdoType w with
  | 0 => fixedI w ≤ imax && (if hi then fixedV w == 560 || fixedV w == 720 || fixedV w == 960 else decide (fixedV w ≤ 400))
  | 3 =>
    if hi then apdoType w == 1 && apdoMin w == 150 && avsMax w ≤ 480 && avsPdp w ≤ 240
    else apdoType w == 0 && 33 ≤ apdoMin w && ppsMax w ≤ 210 && 5 * ppsI w ≤ imax
  | _ => false

/-- Whether a valid PDO keeps the order (R236). -/
def pdoOrdered (o : PdoOrder) (w : Word) : Bool :=
  if pdoType w = 0 then o.apdo.isNone && o.fixed < fixedV w
  else match o.apdo with
    | none => true
    | some (mx, mn) => let m := apdoMax w; mx < m || (mx == m && mn < apdoMin w)

/-- The order after a valid PDO. -/
def pdoNext (o : PdoOrder) (w : Word) : PdoOrder :=
  if pdoType w = 0 then { o with fixed := fixedV w } else { o with apdo := some (apdoMax w, apdoMin w) }

/-- The PDOs of one range with invalid ones as zero; the flag tells whether one was invalid. -/
def pdoCheck (isFull hi : Bool) (o : PdoOrder) : List Word → List Word × Bool
  | [] => ([], false)
  | w :: t =>
    if w = 0 then (let r := pdoCheck isFull hi o t; (0 :: r.1, r.2))
    else if pdoValid isFull hi w && pdoOrdered o w then (let r := pdoCheck isFull hi (pdoNext o w) t; (w :: r.1, r.2))
    else (let r := pdoCheck isFull hi o t; (0 :: r.1, true))

/-- A policy PDO in force (R236). -/
def State.pdo (s : State) (p : Port) (k : Nat) : Word := s.rd ((PageId.tcp p).base + 0x104 + 4 * k)

/-- The valid policy PDOs: positions 1–7, positions 8–11, and `POLICY_ERR`. -/
def State.policy (s : State) (p : Port) : List Word × List Word × Bool :=
  let full := isFullPort p
  let one := s.pdo p 0
  let good := pdoType one == 0 && fixedV one == 100 && fixedI one ≤ (if full then 500 else 300)
  let first : Word := if good then one else 0x0001912C
  let lo := pdoCheck full false ⟨100, none⟩ ((List.range 6).map (fun i => s.pdo p (i + 1)))
  let hi := if full then pdoCheck full true ⟨0, none⟩ ((List.range 4).map (fun i => s.pdo p (i + 7))) else ([], false)
  (first :: lo.1, hi.1, !good || lo.2 || hi.2)

/-! ### Values in force -/

/-- The engine runs Revision 2.0 (R232). -/
def State.pdRev2 (s : State) (p : Port) : Bool := s.get (.tcp p) F.TCP_PD_STATUS_SPEC_REV == 1

/-- A mismatch has been found in a PD register of the TCP page (R69, R265). -/
def State.pdBad (s : State) (p : Port) : Bool := s.badIn (.tcp p) 0x100 0x140

/-- `PD_EN` in force (R262, R265). DEDUCED, log 27. -/
def State.pdEn (s : State) (p : Port) : Bool := s.flag (.tcp p) F.TCP_PD_POLICY_PD_EN && !s.pdBad p

/-- A policy flag in force: 0 in compatibility mode (R438). -/
def State.pdFlag (s : State) (p : Port) (f : Fld) : Bool := s.flag (.tcp p) f && !s.compatPort p

/-- `DRP` in force (R228, R438). -/
def State.drp (s : State) (p : Port) : Bool := s.cfgFlag (.tcp p) F.TCP_CC_CFG_DRP && !s.compatPort p

/-- `RP_MAX` in force. -/
def State.rpMax (s : State) (p : Port) : Nat := if s.compatPort p then 1 else s.cfg (.tcp p) F.TCP_CC_CFG_RP_MAX

/-- `BC_MODE` in force: in compatibility mode by the instance's `BC_EN` as taken at attach (R438). -/
def State.bcMode (s : State) (p : Port) : Nat :=
  if s.compatPort p then (if (s.cptRun (instOf p) 7).testBit 2 then 2 else 0) else s.cfg (.tcp p) F.TCP_CC_CFG_BC_MODE

/-- The present grant of a port, 0.1 W (R200). -/
def State.grant (s : State) (p : Port) : Nat := s.get .bgt (F.BGT_GRANTn_GRANT p.val)

/-- The default grant (R187). -/
def defaultGrant (p : Port) : Nat := if isFullPort p then 45 else 25

/-- EPR is usable on a port (R238). -/
def State.eprUsable (s : State) (p : Port) : Bool :=
  let pg := PageId.tcp p
  isFullPort p && s.pdFlag p F.TCP_PD_POLICY_EPR_EN && s.flag pg F.TCP_PD_STATUS_VCONN_SRC && !s.pdRev2 p && (s.pd p).cableGood &&
    s.get pg F.TCP_CABLE_CURRENT == 2 && s.get pg F.TCP_CABLE_VMAX == 3 && s.flag pg F.TCP_CABLE_EPR_CAPABLE

/-- The cable limit in 10 mA (R237): 3 A until discovery has succeeded (R248). -/
def State.cableLimit (s : State) (p : Port) : Nat :=
  if isFullPort p && (s.pd p).cableGood && s.get (.tcp p) F.TCP_CABLE_CURRENT == 2 then 500 else 300

/-! ### Derivation (R237) -/

/-- An offer: its PDOs by position, the counts of the two parts and what bounded it. -/
structure Offer where
  words : List Word
  spr : Nat
  epr : Nat
  grantBound : Bool
  cableBound : Bool
  policyErr : Bool
  deriving DecidableEq, Repr

/-- One derived PDO, if it is offered, and whether the grant and the cable lowered or omitted it. -/
def derivePdo (g cable : Nat) (pps : Bool) (w : Word) : Option Word × Bool × Bool :=
  if pdoType w = 0 then
    let gi := g * 200 / fixedV w
    let i := min (fixedI w) (min cable gi)
    let gb := decide (gi = i ∧ i < fixedI w)
    let cb := decide (cable = i ∧ i < fixedI w)
    ((if i < 100 then none else some (BitVec.ofNat 32 (fixedV w * 2 ^ 10 + i))), gb, cb)
  else if !pps then (none, false, false)
  else
    let gi := 20 * g / ppsMax w
    let i := min (ppsI w) (min (cable / 5) gi)
    let gb := decide (gi = i ∧ i < ppsI w)
    let cb := decide (cable / 5 = i ∧ i < ppsI w)
    let limited := decide (gi < min (ppsI w) (cable / 5))
    ((if i < 20 then none else some (BitVec.ofNat 32 (3 * 2 ^ 30 + bit limited * 2 ^ 27 + ppsMax w * 2 ^ 17 + apdoMin w * 2 ^ 8 + i))), gb, cb)

/-- One derived EPR PDO, if it is offered, and whether the grant lowered or omitted it. -/
def deriveEpr (g : Nat) (w : Word) : Option Word × Bool :=
  if pdoType w = 0 then
    let gi := g * 200 / fixedV w
    let i := min (fixedI w) (min 500 gi)
    ((if i < 100 then none else some (BitVec.ofNat 32 (fixedV w * 2 ^ 10 + i))), decide (gi = i ∧ i < fixedI w))
  else
    let d := min (avsPdp w) (g / 10)
    ((if d < 15 then none else some (BitVec.ofNat 32 (3 * 2 ^ 30 + 2 ^ 28 + avsMax w * 2 ^ 17 + apdoMin w * 2 ^ 8 + d))),
      decide (d < avsPdp w))

/-- The offer a port makes under its present grant and cable; the flag asks for EPR_Source_Capabilities. -/
def State.deriveOffer (s : State) (p : Port) (eprList : Bool) : Offer :=
  let (lo, hi, err) := s.policy p
  let g := s.grant p
  let cable := s.cableLimit p
  let usable := s.eprUsable p
  let one := lo.headD 0
  let gi := g * 2
  let i := min (fixedI one) (min cable gi)
  let first : Word := BitVec.ofNat 32
    (bit (s.drp p) * 2 ^ 29 + bit (s.curOwner p != 0) * 2 ^ 26 + bit usable * 2 ^ 23 + 100 * 2 ^ 10 + i)
  let rest := if s.compatPort p then [] else
    ((lo.drop 1).filter (· != 0)).map (derivePdo g cable (s.pdFlag p F.TCP_PD_POLICY_PPS_EN && !s.pdRev2 p))
  let spr := first :: rest.filterMap (·.1)
  let eprs := if eprList && usable then (hi.filter (· != 0)).map (deriveEpr g) else []
  let epr := eprs.filterMap (·.1)
  { words := if eprList then spr ++ List.replicate (7 - spr.length) 0 ++ epr else spr
    spr := spr.length, epr := epr.length
    grantBound := decide (gi = i ∧ i < fixedI one) || rest.any (·.2.1) || eprs.any (·.2)
    cableBound := decide (cable = i ∧ i < fixedI one) || rest.any (·.2.2)
    policyErr := err }

/-- The offer register after capabilities are sent (R263 `TCP_PD_OFFER`). -/
def State.noteOffer (s : State) (p : Port) (o : Offer) (epr : Bool) : State :=
  let pg := PageId.tcp p
  let s1 := ((s.put pg F.TCP_PD_OFFER_SPR_COUNT o.spr).put pg F.TCP_PD_OFFER_EPR_COUNT o.epr).setFlag pg F.TCP_PD_OFFER_EPR epr
  let s2 := ((s1.setFlag pg F.TCP_PD_OFFER_GRANT_BOUND o.grantBound).setFlag pg F.TCP_PD_OFFER_CABLE_BOUND o.cableBound).setFlag
    pg F.TCP_PD_OFFER_POLICY_ERR o.policyErr
  (s2.put pg F.TCP_PD_OFFER_GRANT (s.grant p)).pdWith p (fun d => { d with offer := o.words, offerDue := false, offerNow := false, capDue := false })

/-- The offer differs from the last one sent (R239): it is due in `SRC_READY`, at once where the contract exceeds the grant or
no longer matches an offered PDO. A list that is the last one sent again is not due. -/
def State.offerCheck (s : State) (p : Port) : State :=
  let pg := PageId.tcp p
  if !s.flag pg F.TCP_PD_STATUS_CONTRACT || s.flag pg F.TCP_PD_STATUS_POWER_ROLE then s else
  let o := s.deriveOffer p (s.flag pg F.TCP_PD_STATUS_EPR_MODE)
  if o.words = (s.pd p).offer then s.pdWith p (fun d => { d with offerDue := false, offerNow := false }) else
  let mv := s.get pg F.TCP_CONTRACT_V_MV
  let ma10 := s.get pg F.TCP_CONTRACT_I_10MA
  let overs := decide (10000 * s.grant p < mv * ma10)
  let same := o.words.any (contractFits mv ma10 (s.get pg F.TCP_CONTRACT_TYPE))
  s.pdWith p (fun d => { d with offerDue := true, offerNow := d.offerNow || overs || !same })

end Sys2Proof.Machine
end

