-- ==== Sys2Proof/Machine/PortPower.lean ====
section
/-! DEFINITION. A port's power as shared operations (chapters 08–10): leave at the arbiter, grant, Rp and fuse limit, BC 1.2,
VCONN, the SBU mux, the end of PD activity, opening the switch, trips and quarantine, and leaving an attached state. -/

namespace Sys2Proof.Machine

/-! ### Leave (R184) -/

/-- The arbiter changed. -/
def State.arbWith (s : State) (f : Arbiter → Arbiter) : State := { s with arb := f s.arb }

/-- Whether an operation's request waits, or has been granted and not reported done. -/
def State.asked (s : State) (op : LeaveOp) : Bool :=
  s.arb.asks.contains op || s.arb.reqs.any (fun r => r.op == op) || s.arb.running.contains op

/-- An operation asks for leave. -/
def State.askLeave (s : State) (op : LeaveOp) : State :=
  if s.asked op then s else s.arbWith (fun a => { a with asks := a.asks ++ [op] })

/-- A turn-on of the first batch after the load is settled; the last one sets `PACING_DONE` (R154). -/
def State.firstSettled (s : State) (p : Port) : State :=
  match s.arb.firstBatch with
  | none => s
  | some l =>
    let s1 := s.arbWith (fun a => { a with firstBatch := some (l.filter (· != p)) })
    if l ≠ [] ∧ l.filter (· != p) = [] then s1.put .glb F.GLB_READY_PACING_DONE 1 else s1

/-- The number of deferred requests follows (`BGT_DIE_STATUS.PENDING`). -/
def State.arbSync (s : State) : State :=
  s.put .bgt F.BGT_DIE_STATUS_PENDING (min (s.arb.reqs.filter (fun r => r.deferred.isSome)).length 127)

/-- A request that has not been granted withdrawn (R184). -/
def State.withdraw (s : State) (op : LeaveOp) : State :=
  if s.arb.asks.contains op || s.arb.reqs.any (fun r => r.op == op) then
    let s1 := (s.arbWith (fun a => { a with asks := a.asks.filter (· != op), reqs := a.reqs.filter (fun r => r.op != op) })).arbSync
    match op with
    | .turnOn p => (s1.put .bgt (F.BGT_GRANTn_STATE p.val) 0).firstSettled p
    | _ => s1
  else s

/-- A granted operation ends and reports done (R184). -/
def State.opDone (s : State) (op : LeaveOp) : State :=
  if s.arb.running.contains op then
    s.arbWith (fun a => { a with running := a.running.filter (· != op), dones := a.dones ++ [op] })
  else s

/-- A request withdrawn, or a granted operation reported done as failed. -/
def State.endLeave (s : State) (op : LeaveOp) : State := (s.withdraw op).opDone op

/-- A port's grant returned to the pool (R190); below 7.5 W the port is SDP (R217). -/
def State.returnGrant (s : State) (p : Port) : State :=
  ((s.put .bgt (F.BGT_GRANTn_GRANT p.val) 0).put .bgt (F.BGT_GRANTn_STATE p.val) 0).put (.tcp p) F.TCP_CC_STATUS_BC_NOW 0

/-! ### Rp, fuse limit and BC 1.2 (R198, R210, R217) -/

/-- An explicit contract as source is in force. -/
def State.contractSrc (s : State) (p : Port) : Bool :=
  s.flag (.tcp p) F.TCP_PD_STATUS_CONTRACT && !s.flag (.tcp p) F.TCP_PD_STATUS_POWER_ROLE

/-- The Rp code that the grant gives, capped by `RP_MAX` (R210): 1 Default, 2 1.5 A, 3 3.0 A. -/
def State.grantRp (s : State) (p : Port) : Nat :=
  let g := s.grant p
  min (min (s.rpMax p) 2 + 1) (if g < 75 then 1 else if g < 150 then 2 else 3)

/-- `RP_NOW` (R207, R210, R233). -/
def State.rpLevel (s : State) (p : Port) : Nat :=
  match s.ccSt p with
  | 2 | 3 | 8 | 11 | 12 => 1
  | 4 | 10 => if !s.vbusOn p then 1 else if s.contractSrc p then (if (s.pd p).sinkTx then 2 else 3) else s.grantRp p
  | _ => 0

/-- The current of Type-C power at an Rp code, mA (R198). -/
def rpMa (p : Port) (rp : Nat) : Nat := if rp = 3 then 3000 else if rp = 2 then 1500 else if isFullPort p then 900 else 500

/-- The current the fuse limit is based on: the contract's, or that of the grant-driven Rp. -/
def State.basisMa (s : State) (p : Port) : Nat :=
  if s.contractSrc p then 10 * s.get (.tcp p) F.TCP_CONTRACT_I_10MA else rpMa p (s.grantRp p)

/-- The present fuse limit set from a basis: 1.1 × the current (R198). -/
def State.setLimit (s : State) (p : Port) (ma : Nat) : State :=
  (s.put (.vbs p) F.VBS_TARGET_LIMIT_MA (min (11 * ma / 10) 65535)).vbsWith p (fun v => { v with newMa := ma, oldMa := ma })

/-- The limit raised at once when its basis rises (R210); a fall waits for the current test. -/
def State.raiseLimit (s : State) (p : Port) : State :=
  let ma := s.basisMa p
  if s.vbusOn p && decide (s.get (.vbs p) F.VBS_TARGET_LIMIT_MA < 11 * ma / 10) then s.setLimit p ma else s

/-- Rp follows its conditions, and with Type-C power the limit rises with it (R210). -/
def State.rpApply (s : State) (p : Port) : State :=
  let s1 := s.put (.tcp p) F.TCP_CC_STATUS_RP_NOW (s.rpLevel p)
  if s1.contractSrc p then s1 else s1.raiseLimit p

/-- The effective BC mode decided (R217). DEDUCED, log 51. -/
def State.bcDecide (s : State) (p : Port) : State :=
  let owned := s.curOwner p != 0
  let m := (s.tcp p).bcMode.val
  let v := if s.grant p < 75 then 0
    else if owned then (if m = 0 then 0 else if m = 3 then 2 else 1)
    else if m = 0 ∨ m = 1 then 0 else 2
  (s.put (.tcp p) F.TCP_CC_STATUS_BC_NOW v).usbEval p

/-- The console sequence may run (R259): source and DFP in `SRC_READY`, attempts left; never in compatibility mode (R438). -/
def State.modeMay (s : State) (p : Port) : Bool :=
  !s.compat && s.cfgFlag (.tcp p) F.TCP_CON_SVID_EN && !s.flag (.tcp p) F.TCP_PD_STATUS_POWER_ROLE && !s.flag (.tcp p) F.TCP_PD_STATUS_DATA_ROLE
    && s.get (.tcp p) F.TCP_PD_STATUS_PE_STATE == 5 && !s.flag (.tcp p) F.TCP_PD_STATUS_MODE_ENTERED && decide ((s.pd p).modeTries < 3)

/-- A sequence of the engine's own is due in `SRC_READY`: an offer that is due at once, a command, a console attempt that has begun, or a
VCONN_Swap (R239, R255, R259, R263). -/
def State.ownDue (s : State) (p : Port) : Bool :=
  let pg := PageId.tcp p
  let d := s.pd p
  d.offerNow || d.capDue || s.flag pg F.TCP_PD_CTRL_SEND_CAPS || s.flag pg F.TCP_PD_CTRL_SOFT_RESET || d.vconnDue ||
    (s.flag pg F.TCP_PD_CTRL_EXIT_MODE && s.flag pg F.TCP_PD_STATUS_MODE_ENTERED) || (d.modeStep == 1 && s.modeMay p)

/-- A sequence that is due starts the SinkTxNG wait of R233; before a contract that is the new capabilities after a CAP (R239, R241,
R263). -/
def State.pdKick (s : State) (p : Port) : State :=
  let d := s.pd p
  let st := s.get (.tcp p) F.TCP_PD_STATUS_PE_STATE
  if (st == 5 && s.ownDue p || st == 3 && d.capDue) && d.want == .none && !d.sinkTx then
    (s.pdWith p (fun d => { d with sinkTx := true })).rpApply p
  else s

/-- `FRS_ARMED` of a sink: the reservation is held for a partner that asks for FRS, and the grant covers 5 V × the FRS current (R254). -/
def State.frsEval (s : State) (p : Port) : State :=
  s.setFlag (.tcp p) F.TCP_PD_STATUS_FRS_ARMED (s.flag (.tcp p) F.TCP_PD_STATUS_POWER_ROLE && (s.pd p).reserved &&
    decide (0 < (s.pd p).frsMa) && decide ((s.pd p).frsMa ≤ 20 * s.grant p))

/-- The grant of a port has changed from an earlier value: Rp, limit, BC mode and the offer follow (R188, R210, R217, R239). -/
def State.grantChanged (s : State) (p : Port) (old : Nat) : State :=
  let s1 := s.rpApply p
  let s2 := if !s1.vbusOn p then s1
    else if old < 75 ∧ 75 ≤ s1.grant p then s1.bcDecide p
    else if s1.grant p < 75 then (s1.put (.tcp p) F.TCP_CC_STATUS_BC_NOW 0).usbEval p
    else s1
  ((s2.frsEval p).offerCheck p).pdKick p

/-! ### VCONN and the SBU mux (R216, R222) -/

/-- VCONN on toward the cable, and its discovery due (R216, R248). -/
def State.vconnOn (s : State) (p : Port) : State :=
  ((s.put (.tcp p) F.TCP_CC_STATUS_VCONN_ON 1).put (.tcp p) F.TCP_PD_STATUS_VCONN_SRC 1).put (.tcp p) F.TCP_CABLE_ATTEMPTS 0
    |>.pdWith p (fun d => { d with cableRun := true, cableGood := false })

/-- The messages on SOP′ that await GoodCRC are dropped: only the VCONN source sends there (R232). -/
def PdSt.dropPrime (d : PdSt) : PdSt :=
  if d.flight.any (·.sopPrime) then
    let rest := d.queued.filter (fun m => !m.sopPrime)
    { d with flight := rest.head?, queued := rest.tail, resends := 0 }
  else { d with queued := d.queued.filter (fun m => !m.sopPrime) }

/-- VCONN handed to the partner: the record of the cable stands (R255). -/
def State.vconnHand (s : State) (p : Port) : State :=
  ((s.put (.tcp p) F.TCP_CC_STATUS_VCONN_ON 0).put (.tcp p) F.TCP_PD_STATUS_VCONN_SRC 0).pdWith p (fun d =>
    { d.dropPrime with cableRun := false })

/-- VCONN off: the cable counts as 3 A, 20 V and not EPR-capable (R248). -/
def State.vconnOff (s : State) (p : Port) : State := (s.vconnHand p).pdWith p (fun d => { d with cableGood := false })

/-- VCONN at attach: a full port outside compatibility mode that found a powered cable (R216). -/
def State.vconnStart (s : State) (p : Port) : State :=
  if isFullPort p && !s.compat && s.ccSt p == 4 && (s.tcp p).partner == 2 && !(s.tcp p).vconnBarred then s.vconnOn p else s

/-- Detail of CONSOLE_ROUTED (R228). -/
def State.muxDetail (s : State) (p : Port) (mode : Bool) (cause : Nat) : Nat :=
  bit mode + 2 * s.get (.con p) F.CON_STATUS_RX_SBU2 + cause * 16

/-- The mux opened with a cause, both routing conditions forgotten or kept as the caller has set them (R222, R225). -/
def State.muxOpen (s : State) (p : Port) (mode : Bool) (cause : Nat) : State :=
  if !s.flag (.tcp p) F.TCP_CC_STATUS_SBU_ROUTED then s else
  let d := s.muxDetail p mode cause
  let s1 := (s.put (.tcp p) F.TCP_CC_STATUS_SBU_ROUTED 0).put (.con p) F.CON_STATUS_ROUTED 0
  let s2 := ((s1.conWith p (fun c => { c with tx := [], sending := none })).put (.con p) F.CON_STATUS_TX_LEVEL 0).put
    (.con p) F.CON_STATUS_BREAK 0
  s2.raisePort (.tcp p) p evConsoleRouted d false

/-- Every routing condition ended and the mux opened. -/
def State.muxEnd (s : State) (p : Port) (cause : Nat) : State :=
  let mode := (s.tcp p).routeMode && !(s.tcp p).routeDebug
  (s.tcpWith p (fun t => { t with routeDebug := false, routeMode := false })).muxOpen p mode cause

/-- The receive line chosen at a routing (R223). Under `RX_PIN` 0 it is the line that alone has held the idle level for 1 ms, which the
levels of the two lines decide: bits 0 and 1 of a free value. The value 3, which the table does not give, acts as 0. DESIGN CHOICE, log 9.
DESIGN CHOICE, log 87. -/
def State.rxLine (s : State) (p : Port) : Bool × State :=
  let cc2 := s.flag (.tcp p) F.TCP_CC_STATUS_ORIENT_VALID && s.flag (.tcp p) F.TCP_CC_STATUS_ORIENT
  match s.cfg (.con p) F.CON_CFG_RX_PIN with
  | 1 => (cc2, s)
  | 2 => (!cc2, s)
  | _ =>
    let r := s.free
    (if r.1.getLsbD 0 == r.1.getLsbD 1 then cc2 else r.1.getLsbD 1, r.2)

/-- The mux routed to the console tap if it is open and the tap may run (R222, R231). -/
def State.muxRoute (s : State) (p : Port) (mode : Bool) : State :=
  if s.flag (.tcp p) F.TCP_CC_STATUS_SBU_ROUTED || s.badFound (.con p) 0x40 || s.badFound (.con p) 0x44 then s else
  let (rx2, s0) := s.rxLine p
  let s1 := ((s0.put (.tcp p) F.TCP_CC_STATUS_SBU_ROUTED 1).put (.con p) F.CON_STATUS_ROUTED 1).setFlag
    (.con p) F.CON_STATUS_RX_SBU2 rx2
  s1.raisePort (.tcp p) p evConsoleRouted (s1.muxDetail p mode 0) true

/-- A routing condition arises (R222). -/
def State.routeBy (s : State) (p : Port) (mode : Bool) : State :=
  (s.tcpWith p (fun t => if mode then { t with routeMode := true } else { t with routeDebug := true })).muxRoute p mode

/-- A routing condition ends; the mux opens when none holds any more (R222). -/
def State.unrouteBy (s : State) (p : Port) (mode : Bool) (cause : Nat) : State :=
  let s1 := s.tcpWith p (fun t => if mode then { t with routeMode := false } else { t with routeDebug := false })
  if (s1.tcp p).routeDebug || (s1.tcp p).routeMode then s1 else s1.muxOpen p mode cause

/-! ### The end of PD activity -/

/-- Exit of the console mode (R259). -/
def State.modeExit (s : State) (p : Port) (cause muxCause : Nat) : State :=
  let pg := PageId.tcp p
  if !s.flag pg F.TCP_PD_STATUS_MODE_ENTERED then s else
  let d := (s.pd p).modeSvid.toNat + (s.pd p).modePos.val * 0x10000 + cause * 0x100000
  (((s.put pg F.TCP_PD_STATUS_MODE_ENTERED 0).put pg F.TCP_PD_CTRL_EXIT_MODE 0).unrouteBy p true muxCause).raisePort pg p evModeEnter d false

/-- Leave of kind 1 withdrawn, or reported done (R242, R257). -/
def State.endRaise (s : State) (p : Port) : State :=
  (s.endLeave (.raise p)).pdWith p (fun d => { d with raiseGranted := false, waitSent := false })

/-- The reservation of a sink ended (R254): its request withdrawn, or its grant returned while VBUS never closed. -/
def State.endReserve (s : State) (p : Port) : State :=
  if !(s.pd p).reserved then s else
  let s1 := (s.endLeave (.turnOn p)).pdWith p (fun d => { d with reserved := false })
  let s2 := if s1.gateOn p || s1.vbsStt p == 1 then s1 else s1.returnGrant p
  s2.put (.tcp p) F.TCP_PD_STATUS_FRS_ARMED 0

/-- The contract ended. -/
def State.endContract (s : State) (p : Port) : State :=
  let pg := PageId.tcp p
  ((s.put pg F.TCP_PD_STATUS_CONTRACT 0).put pg F.TCP_PD_STATUS_EPR_MODE 0).wr (pg.base + 0x84) 0 |>.wr (pg.base + 0x88) 0

/-- What a reset, detach or loss of VBUS ends in the engine: sequences, contract, leave, reservation, a SOFT_RESET that waits (R197,
R244, R257). -/
def State.pdEnd (s : State) (p : Port) (modeCause muxCause : Nat) : State :=
  let s1 := ((((s.modeExit p modeCause muxCause).endRaise p).endReserve p).endContract p).put (.tcp p) F.TCP_PD_CTRL_SOFT_RESET 0
  s1.pdWith p (fun d =>
    { d with
      flight := none, resends := 0, queued := [], want := .none, capsSent := 0, offer := [], offerDue := false, offerNow := false,
      capDue := false, sinkTx := false, req := none, accepted := false, transRun := false, modeStep := 0, swapOwn := false,
      swapPower := false, frsMa := 0, frsSeen := false, snkWaitVbus := false, snkFell := false, revokeWait := false, vconnDue := false })

/-- VBUS went off as source: the engine goes to IDLE (R234, R275), and with it the console mode is exited: its record names the cause of a
detach, and the mux opens by the exit (R222, R259). DESIGN CHOICE, log 87. -/
def State.pdStop (s : State) (p : Port) : State :=
  ((s.pdEnd p 3 1).put (.tcp p) F.TCP_PD_STATUS_PE_STATE 0).pdWith p (fun d => { d with hrPhase := 0 })

/-- A detach ends everything the engine holds (R234, R257); the last offer still reads. DEDUCED, log 54. -/
def State.pdDetach (s : State) (p : Port) : State :=
  let pg := PageId.tcp p
  ((s.pdEnd p 3 0).wr (pg.base + 0x80) 0).wr (pg.base + 0x8C) 0 |>.pdWith p (fun d => { freshPd with out := d.out })

/-! ### Opening the switch (R190, R197) -/

/-- VSET takes the codes that `VBS_CAL` holds now (R203). -/
def State.vsetLoad (s : State) (p : Port) : State :=
  let w := s.cfgWord (.vbs p) 0x4C
  s.vbsWith p (fun v => { v with cal := w })

/-- The switch opens under R197. `keep`: a PD hard reset cycles VBUS and the port keeps its default grant (R190). -/
def State.vbsOpenTo (s : State) (p : Port) (cause : Nat) (keep : Bool) (dest : Nat) : State :=
  let st := s.vbsStt p
  let s0 := s.withdraw (.turnOn p)
  if 1 ≤ st ∧ st ≤ 4 then
    let s1 := if 2 ≤ st then s0.raisePort (.vbs p) p evVbusOff cause else s0
    let s2 := ((s1.put (.vbs p) F.VBS_STATUS_GATE_ON 0).put (.vbs p) F.VBS_STATUS_DSCH_ON 1).put (.vbs p) F.VBS_STATUS_STATE dest
    let safe := s.flag (.vbs p) F.VBS_STATUS_SAFE0V
    let s3 := ((s2.put (.vbs p) F.VBS_TARGET_TARGET_MV 5000).vsetLoad p).vbsWith p (fun v =>
      { v with lastOver := false, lastRev := false, lastNear := false, slowRun := false, hrCycle := keep, highMv := 5000, vsetMv := 5000,
               trim := 0, safeSeen := safe })
    let s4 := s3.opDone (.turnOn p)
    let s5 := if keep then (s4.put .bgt (F.BGT_GRANTn_GRANT p.val) (defaultGrant p)).put (.tcp p) F.TCP_CC_STATUS_BC_NOW 0
      else (s4.pdStop p).returnGrant p
    (s5.rpApply p).usbEval p
  else if (s.vbs p).hrCycle && !keep then
    (((s0.vbsWith p (fun v => { v with hrCycle := false })).pdStop p).returnGrant p).rpApply p
  else s0

/-- The switch opens with a VBUS_OFF cause (R204). -/
def State.vbsOpen (s : State) (p : Port) (cause : Nat) : State := s.vbsOpenTo p cause false 5

/-! ### Leaving an attached state (R209, R218, R221, R228) -/

/-- The lane mux of a full port (R215): on the pair of the orientation, or on none. -/
def State.laneMux (s : State) (p : Port) (on : Bool) : State :=
  match fullOf p with
  | none => s
  | some f => s.setFlag (.ssp f) F.SSP_STATUS_PAIR2 (on && s.flag (.tcp p) F.TCP_CC_STATUS_ORIENT && !s.compat)

/-- The connection logic leaves whatever is attached for state `to`: ACCESSORY and DETACH where they are due, VBUS, VCONN and
the mux opened, PD ended, the USB ports disabled. -/
def State.ccEnd (s : State) (p : Port) (dest detachCause muxCause vbusCause : Nat) : State :=
  let pg := PageId.tcp p
  let t := s.tcp p
  let s1 := ((s.muxEnd p muxCause).vconnOff p).vbsOpen p vbusCause
  let s2 := if t.announced && (t.partner == 4 || t.partner == 5) then s1.raisePort pg p evAccessory t.partner.val false else s1
  let s3 := if t.announced then (s2.raisePort pg p evDetach (t.partner.val + detachCause * 16) true).capMark p false else s2
  let s4 := (s3.pdDetach p).tcpWith p (fun t =>
    { t with partner := 0, tryUsed := false, vconnBarred := false, announced := false })
  let s5 := ((s4.put pg F.TCP_CC_STATUS_LEAVE_WAIT 0).put pg F.TCP_CC_STATUS_ORIENT_VALID 0).put pg F.TCP_CC_STATUS_ORIENT 0
  let s6 := (((s5.put pg F.TCP_CC_STATUS_BC_NOW 0).put pg F.TCP_CC_STATUS_STATE dest).ssForget p).laneMux p false
  (s6.rpApply p).usbEval p

/-- The partner that a pair of classifications stands for as a source (R206): 0 none, 1 sink, 2 sink through a powered
cable, 4 Debug Accessory, 5 Audio Adapter Accessory; and the orientation. -/
def ccRow (l1 l2 : Nat) (dbg aud : Bool) : Fin 6 × Bool :=
  if l1 = 2 ∧ l2 = 2 then (if dbg then 4 else 0, false)
  else if l1 = 2 then (if l2 = 1 then 2 else 1, false)
  else if l2 = 2 then (if l1 = 1 then 2 else 1, true)
  else if l1 = 1 ∧ l2 = 1 then (if aud then 5 else 0, false)
  else (0, false)

/-- The row of R206 that the standing classifications make. -/
def State.ccRowNow (s : State) (p : Port) : Fin 6 × Bool :=
  ccRow (s.get (.tcp p) F.TCP_CC_STATUS_CC1_LVL) (s.get (.tcp p) F.TCP_CC_STATUS_CC2_LVL)
    (s.cfgFlag (.tcp p) F.TCP_CC_CFG_ACC_DEBUG) (s.cfgFlag (.tcp p) F.TCP_CC_CFG_ACC_AUDIO)

/-- The partner and orientation recorded (R206, R213). -/
def State.recordRow (s : State) (p : Port) (row : Fin 6 × Bool) : State :=
  let sink := row.1 == 1 || row.1 == 2
  ((s.tcpWith p (fun t => { t with partner := row.1 })).setFlag (.tcp p) F.TCP_CC_STATUS_ORIENT (sink && row.2)).setFlag
    (.tcp p) F.TCP_CC_STATUS_ORIENT_VALID sink

/-- The standing classifications act on the connection logic (R206, R208, R211): a row that attaches starts or changes the
attach debounce, Rp on one line while presenting Rd starts ATTACHWAIT_SNK. DEDUCED, log 51. -/
def State.ccEval (s : State) (p : Port) : State :=
  let pg := PageId.tcp p
  let rp1 := 3 ≤ s.get pg F.TCP_CC_STATUS_CC1_LVL
  let rp2 := 3 ≤ s.get pg F.TCP_CC_STATUS_CC2_LVL
  let row := s.ccRowNow p
  match s.ccSt p with
  | 2 => if row.1 == 1 || row.1 == 2 || row.1 == 4 then ((s.recordRow p row).put pg F.TCP_CC_STATUS_STATE 3).rpApply p else s
  | 3 => if (s.tcp p).announced || row.1 == 0 then s else s.recordRow p row
  | 5 => if rp1 ≠ rp2 then
      ((s.put pg F.TCP_CC_STATUS_STATE 6).setFlag pg F.TCP_CC_STATUS_ORIENT (decide rp2)).put pg F.TCP_CC_STATUS_ORIENT_VALID 1
    else s
  | 6 => if rp1 ≠ rp2 then s.setFlag pg F.TCP_CC_STATUS_ORIENT (decide rp2)
    else (s.put pg F.TCP_CC_STATUS_STATE 5).put pg F.TCP_CC_STATUS_ORIENT_VALID 0
  | _ => s

/-- UNATTACHED_SRC entered; `RECOVER` clears (R207, R228), and a pair of classifications that stands already starts the attach
debounce (R208). DEDUCED, log 51. -/
def State.toUnattached (s : State) (p : Port) : State :=
  (((s.put (.tcp p) F.TCP_CC_CTRL_RECOVER 0).put (.tcp p) F.TCP_CC_STATUS_STATE 2).rpApply p |>.usbEval p).ccEval p

/-- ERROR_RECOVERY entered (R221). -/
def State.toRecovery (s : State) (p : Port) : State :=
  (s.ccEnd p 1 1 3 0).count (.tcp p) F.TCP_CC_CNT_RECOVERIES

/-- The connection logic can run: not held in DISABLED by reset, fitting, quarantine, page or parity (R207, R229, R52). -/
def State.ccCanRun (s : State) (p : Port) : Bool :=
  s.portUp p && s.loaded && s.fitted p && s.pageOn (.tcp p) && !s.badFound (.tcp p) 0x40 && !s.badFound (.tcp p) 0x44 &&
    !s.flag .hlt (portBit F.HLT_QUAR_QUAR p)

/-! ### Quarantine and trips (R198, R218, R450) -/

/-- A port enters quarantine: its bit, the event, the end of whatever was attached, and the discharge of R197. The port domain is
held in reset once the discharge has ended. DEDUCED, log 42. -/
def State.quarEnter (s : State) (p : Port) (cause : Nat) : State :=
  let last := s.get (.vbs p) F.VBS_STATUS_LAST_CAUSE
  let s1 := ((s.put .hlt (portBit F.HLT_QUAR_QUAR p) 1).ccEnd p 0 3 7 6).powerFails p
  let s2 := ((s1.put (.vbs p) F.VBS_STATUS_STATE 7).put (.vbs p) F.VBS_STATUS_DSCH_ON 1).vbsWith p (fun v =>
    { v with retryRun := false, askOnSafe := false })
  let s3 := s2.healthWith (fun h => { h with quarDsch := h.quarDsch ||| (1#64 <<< p.val) })
  (s3.usbEval p).raisePort .hlt p evQuarantine (cause + last * 16)

/-- A window register's byte of a compatibility instance (R429). -/
def State.cptByte (s : State) (i : Inst) (a : Nat) : Nat := (s.rd (0x300000 + 0x1000 * i.val + 4 * a)).toNat % 256

/-- That byte set; its reserved bits stay zero (R430). -/
def State.setCptByte (s : State) (i : Inst) (a v : Nat) : State :=
  s.wr (0x300000 + 0x1000 * i.val + 4 * a) (BitVec.ofNat 32 (v % 256 &&& winMask a))

/-- Over-current shown to the owner at a trip of cause FAST or SLOW (R278, R306). -/
def State.overChange (s : State) (p : Port) : State :=
  let s1 := s.addChg p cOver
  match fullOf p with
  | none => s1
  | some f => (s1.addSsChg f sOver).maskWake f 2

/-- What a FAST or SLOW trip does in compatibility mode (R437); the tripped port itself opens with `cause`, that of the quarantine where the
trip leads to it (R450). -/
def State.compatTrip (s : State) (p : Port) (cause : Nat) : State :=
  let off (s : State) (q : Port) : State := ((s.setPowerBit q (compatSide q) false).vbsOpen q (if q = p then cause else 1)).u2Eval q
  let i := instOf p
  let ocGang := (s.cptRun i 6).testBit 3
  let pwrGang := (s.cptRun i 6).testBit 2
  let mask := if ocGang then 0xFF else 2 ^ (p.val % 8)
  let s1 := s.setCptByte i 0xF1 (s.cptByte i 0xF1 ||| mask)
  let s2 := (if ocGang then instPorts i else [p]).foldl (fun s q => s.overChange q) s1
  let s3 := (s2.count .cpt F.CPT_CNT_OVERCURRENTS).raisePort .cpt p evOvercurrent (mask + bit ocGang * 256 + i.val * 512)
  (if pwrGang then instPorts i else [p]).foldl off s3

/-- A trip of the port e-fuse (R198, R218): the mux and the switch open with the cause of the trip, or of the quarantine that it leads
to (R204, R222, R450). A close that trips before it has left OPEN, that of a power swap (R253), opens as one in SETTLE does. -/
def State.trip (s : State) (p : Port) (code : Nat) : State :=
  let pg := PageId.vbs p
  let before := s.get pg F.VBS_STATUS_CONSEC
  let after := min (before + 1) 15
  let s1 := s.countErr pg p F.VBS_CNT_TRIPS
  let s2 := if code = 4 then s1.countErr pg p F.VBS_CNT_OVP else s1
  let s3 := (s2.put pg F.VBS_STATUS_LAST_CAUSE code).put pg F.VBS_STATUS_CONSEC after
  let s4 := s3.raisePort pg p evPortFuseTrip (code + after * 16 + s.get pg F.VBS_IBUS_IBUS_MA * 0x10000)
  let s5 := if s.vbsStt p = 4 then
      s4.raisePort (.tcp p) p evTransitionFail (2 + s.get pg F.VBS_MEAS_VBUS * 16 + s.get pg F.VBS_TARGET_TARGET_MV / 10 * 0x10000)
    else s4
  let quar := decide (s.cfg pg F.VBS_FUSE_RETRIES ≤ before)
  let s6 := if code = 1 ∨ code = 2 then (if s5.compatPort p then s5.compatTrip p (if quar then 6 else 1) else s5.overChange p) else s5
  let s6 := if s6.vbsStt p = 0 then s6.put pg F.VBS_STATUS_STATE 1 else s6
  let s7 := (((s6.muxEnd p (if quar then 7 else 6)).vbsOpen p (if quar then 6 else 3)).powerFails p).vbsWith p
    (fun v => { v with tripFresh := true })
  if quar then s7.quarEnter p 1
  else (s7.vbsWith p (fun v => { v with retryRun := true })).ccEnd p 12 2 6 3

/-! ### Turn-on (R184, R196, R275) -/

/-- The switch of a port may close: not under FORCE_OFF, a VBS mismatch or a page that is off (R203, R205, R52). -/
def State.mayClose (s : State) (p : Port) : Bool :=
  s.portUp p && !s.flag (.vbs p) F.VBS_CTRL_FORCE_OFF && s.pageOn (.vbs p) &&
    !([0x40, 0x44, 0x48, 0x4C] : List Nat).any (s.badFound (.vbs p))

/-- The port may ask for turn-on leave as source, if its switch allows (R275). -/
def State.maySupply (s : State) (p : Port) : Bool :=
  s.mayClose p && s.hostAllows p && (s.tcp p).announced && [3, 4, 10].contains (s.ccSt p)

/-- The port may ask for turn-on leave now. -/
def State.mayTurnOn (s : State) (p : Port) : Bool := s.vbsStt p == 0 && s.maySupply p

/-- Turn-on leave asked, or due once vSafe0V has been seen (R196, R197, R198). -/
def State.askTurnOn (s : State) (p : Port) : State :=
  if !s.mayTurnOn p then
    (if s.vbsStt p = 5 ∧ (s.tcp p).announced then s.vbsWith p (fun v => { v with askOnSafe := true }) else s)
  else if (s.vbs p).dschLock then s.vbsWith p (fun v => { v with askOnSafe := true })
  else (s.put (.tcp p) F.TCP_CC_STATUS_LEAVE_WAIT 1).askLeave (.turnOn p)

/-- A sink has a use for a reservation: a power swap that is still to be tried, or a Fast Role Swap whose current the partner has named
(R253, R254). -/
def State.reserveNeeded (s : State) (p : Port) : Bool :=
  (s.pdFlag p F.TCP_PD_POLICY_SWAP_TO_SRC && decide ((s.pd p).prTries < 3)) ||
    (s.pdFlag p F.TCP_PD_POLICY_FRS_EN && decide (0 < (s.pd p).frsMa))

/-- A sink asks for the turn-on leave that reserves its grant (R253, R254), unless its switch may not close or it has been denied
(R185, R203, R205). -/
def State.askReserve (s : State) (p : Port) : State :=
  if s.mayClose p && s.vbsStt p == 0 && s.get .bgt (F.BGT_GRANTn_STATE p.val) != 4 && !(s.vbs p).dschLock then
    (s.pdWith p (fun d => { d with reserved := true })).askLeave (.turnOn p)
  else s

/-- A port asks again: a sink for its reservation, any other for turn-on leave (R185, R192, R203, R205). -/
def State.askAgain (s : State) (p : Port) : State :=
  if s.ccSt p = 7 then
    (if s.get (.tcp p) F.TCP_PD_STATUS_PE_STATE = 7 ∧ s.reserveNeeded p then s.askReserve p else s)
  else s.askTurnOn p

/-- A sink whose VBUS a revocation has removed asks at once, before the discharge is over (R192). -/
def State.askAtOnce (s : State) (p : Port) : State :=
  if s.vbsStt p = 5 && s.maySupply p && !(s.vbs p).retryRun then
    (s.put (.tcp p) F.TCP_CC_STATUS_LEAVE_WAIT 1).askLeave (.turnOn p)
  else s.askAgain p

/-- The attach is announced and leave asked (R208): ATTACH, or ACCESSORY for a Debug Accessory. -/
def State.announce (s : State) (p : Port) : State :=
  let pg := PageId.tcp p
  let t := s.tcp p
  let s1 := ((s.count pg F.TCP_CC_CNT_ATTACHES).capMark p true).tcpWith p (fun t =>
    { t with announced := true, bcMode := ⟨s.bcMode p % 4, Nat.mod_lt _ (by decide)⟩ })
  let s2 := if t.partner = 4 then s1.raisePort pg p evAccessory 4
    else s1.raisePort pg p evAttach
      (t.partner.val + 8 * s.get pg F.TCP_CC_STATUS_ORIENT + 16 * bit t.tryUsed + 32 * s.get pg F.TCP_CC_STATUS_RP_NOW)
  s2.askTurnOn p

/-- A leave that has been granted starts the close (R196 step 2, R208): the connection logic becomes attached, the lane mux
follows the orientation, VCONN turns on. A reservation drives VSET to the 5.00 V code (R253). -/
def State.turnOnGranted (s : State) (p : Port) : State :=
  let pg := PageId.tcp p
  let s1 := s.put pg F.TCP_CC_STATUS_LEAVE_WAIT 0
  if (s.pd p).reserved then
    ((s1.put (.vbs p) F.VBS_TARGET_TARGET_MV 5000).vsetLoad p).vbsWith p (fun v => { v with highMv := 5000, vsetMv := 5000, trim := 0 })
  else if s.flag (.vbs p) F.VBS_CTRL_FORCE_OFF || (s.vbsStt p != 0 && s.vbsStt p != 5) then (s1.opDone (.turnOn p)).returnGrant p
  else
    let entering := s.ccSt p == 3
    let s2 := if entering then s1.put pg F.TCP_CC_STATUS_STATE (if (s.tcp p).partner = 4 then 10 else 4) else s1
    let s3 := ((s2.put (.vbs p) F.VBS_STATUS_STATE 1).put (.vbs p) F.VBS_STATUS_DSCH_ON 1).put (.vbs p) F.VBS_TARGET_TARGET_MV 5000
    let s4 := ((s3.setLimit p (rpMa p 1)).vsetLoad p).vbsWith p (fun v => { v with highMv := 5000, vsetMv := 5000, lastNear := false, trim := 0 })
    let s5 := s4.laneMux p (s4.ccSt p == 4)
    let s6 := if s5.flag pg F.TCP_CC_STATUS_VCONN_ON then s5 else s5.vconnStart p
    let s7 := s6.rpApply p
    if entering && s7.ccSt p == 10 && s7.flag pg F.TCP_CC_CFG_DEBUG_CONSOLE then s7.routeBy p false else s7

end Sys2Proof.Machine
end

