-- ==== Sys2Proof/Machine/PdCore.lean ====
section
/-! DEFINITION. The PD engine's shared steps (R232–R259): sending, capabilities, contracts, resets, swaps, unexpected
messages. -/

namespace Sys2Proof.Machine

/-- `PE_STATE` (R234). -/
def State.pe (s : State) (p : Port) : Nat := s.get (.tcp p) F.TCP_PD_STATUS_PE_STATE

/-- `PE_STATE` set. -/
def State.setPe (s : State) (p : Port) (v : Nat) : State := s.put (.tcp p) F.TCP_PD_STATUS_PE_STATE v

/-- A message sent by the engine: recorded as output, and in flight until its GoodCRC (R232), after those the same event has sent
before it. DEDUCED, log 54. -/
def State.pdSay (s : State) (p : Port) (kind : PdKind) (objs : List Word := []) (bytes : List Byte := []) (prime : Bool := false) : State :=
  let m : PdOut := ⟨prime, kind, objs, bytes⟩
  let acked := kind != .hardReset && kind != .bist
  s.pdWith p (fun d =>
    if acked && d.flight.isSome && d.out.any (fun o => o.kind != .goodCrc) then { d with out := d.out ++ [m], queued := d.queued ++ [m] }
    else { d with out := d.out ++ [m], flight := if acked then some m else none, queued := [], resends := 0 })

/-- The output record emptied as a new event begins. -/
def State.pdFresh (s : State) (p : Port) : State := s.pdWith p (fun d => { d with out := [] })

/-- GoodCRC, which answers a message on SOP or SOP′ (R232). -/
def goodCrc (prime : Bool) : PdOut := ⟨prime, .goodCrc, [], []⟩

/-- A message received: a new event for the output record, which GoodCRC opens (R232). -/
def State.pdAck (s : State) (p : Port) (prime : Bool) : State := s.pdWith p (fun d => { d with out := [goodCrc prime] })

/-- The bytes of data objects, low byte of each first. -/
def objBytes (ws : List Word) : List Byte :=
  ws.flatMap (fun (w : Word) => [w.setWidth 8, (w >>> 8).setWidth 8, (w >>> 16).setWidth 8, (w >>> 24).setWidth 8])

/-- Capabilities sent: EPR_Source_Capabilities as the chunks of an extended message of 28 to 44 bytes (R232). -/
def State.sayCaps (s : State) (p : Port) (epr : Bool) (ws : List Word) : State :=
  if epr then (s.pdSay p .eprSourceCaps ws ((objBytes ws).take 26)).pdSay p .eprSourceCaps [] ((objBytes ws).drop 26)
  else s.pdSay p .sourceCaps ws

/-- The port is source. -/
def State.isSource (s : State) (p : Port) : Bool := !s.flag (.tcp p) F.TCP_PD_STATUS_POWER_ROLE

/-- The ready state of the role, or waiting for a first Request, or for new capabilities after a CAP, where no contract is in force
(R241, R250). -/
def State.toReady (s : State) (p : Port) : State :=
  let v := if s.isSource p then (if s.flag (.tcp p) F.TCP_PD_STATUS_CONTRACT then 5 else 3) else 7
  (((s.setPe p v).pdWith p (fun d =>
    { d with want := if v = 3 ∧ !d.capDue then .request else .none, sinkTx := false })).rpApply p).pdKick p

/-- The engine answers now: ready with no sequence running, or sending capabilities that none acknowledged (R240, R250). -/
def State.pdReady (s : State) (p : Port) : Bool :=
  ((s.pe p == 5 || s.pe p == 7) && (s.pd p).want == .none) || s.pe p == 2

/-! ### Capabilities (R237–R240) -/

/-- Source_Capabilities, or EPR_Source_Capabilities in EPR mode, derived and sent (R237, R239); the command SEND_CAPS runs until an
offer goes out at SRC_READY (table TCP_PD_CTRL). In a revocation the wait for a Request begins as they are sent (R249). -/
def State.sendCaps (s : State) (p : Port) : State :=
  let epr := s.flag (.tcp p) F.TCP_PD_STATUS_EPR_MODE
  let o := s.deriveOffer p epr
  let s1 := ((s.noteOffer p o epr).sayCaps p epr o.words).pdWith p (fun d =>
    { d with capsSent := d.capsSent + 1, revokeWait := s.get .bgt (F.BGT_GRANTn_STATE p.val) == 3 })
  if s.pe p = 5 then s1.put (.tcp p) F.TCP_PD_CTRL_SEND_CAPS 0 else s1

/-- The first capabilities of a start: SRC_SEND_CAPS (R240, R256). -/
def State.startCaps (s : State) (p : Port) : State :=
  ((s.setPe p 2).pdWith p (fun d => { d with capsSent := 0, want := .none, sinkTx := false })).sendCaps p |>.rpApply p

/-- The engine opens with Revision 3.x, or keeps the revision in use (R232). -/
def State.revOpen (s : State) (p : Port) : State :=
  if s.get (.tcp p) F.TCP_PD_STATUS_SPEC_REV = 0 then s.put (.tcp p) F.TCP_PD_STATUS_SPEC_REV 2 else s

/-- The engine starts after VBUS_ON (R240). DEDUCED, log 54. -/
def State.pdStart (s : State) (p : Port) : State :=
  if s.pdEn p && (s.ccSt p == 4 || s.ccSt p == 10) && s.vbusOn p then
    ((s.revOpen p).setPe p 1).pdWith p (fun d => { d with capsSent := 0, want := .none, hrPhase := 0 })
  else (s.setPe p 0).pdWith p (fun d => { d with hrPhase := 0 })

/-! ### Resets (R256–R258) -/

/-- A Soft_Reset counted and recorded. -/
def State.noteSoft (s : State) (p : Port) (sent : Bool) : State :=
  ((s.count (.tcp p) F.TCP_PD_CNT_SOFT_RESETS).raisePort (.tcp p) p evSoftReset (bit sent)).pdWith p (fun d => { d with idSop := 0 })

/-- The engine sends Soft_Reset (R251, R256); the command clears as its sequence begins (R263). -/
def State.sendSoft (s : State) (p : Port) : State :=
  ((((s.endRaise p).put (.tcp p) F.TCP_PD_CTRL_SOFT_RESET 0).setPe p 12).pdSay p .softReset).noteSoft p true |>.pdWith p (fun d =>
    { d with want := .softAccept, req := none, modeStep := 0, sinkTx := false, swapOwn := false })

/-- After a soft reset: a source sends capabilities, a sink waits for them (R256). -/
def State.softDone (s : State) (p : Port) : State :=
  if s.isSource p then s.startCaps p else (s.setPe p 6).pdWith p (fun d => { d with want := .none, swapPower := false })

/-- The end of a swap recorded (R264). -/
def State.swapEvent (s : State) (p : Port) (kind outcome : Nat) : State :=
  s.raisePort (.tcp p) p evSwap (kind + 4 * bit (s.pd p).swapOwn + 8 * outcome)

/-- A swap that a hard reset ends (R257, R258): a PR_Swap counts as one attempt. -/
def State.swapBroken (s : State) (p : Port) : State :=
  match s.pe p with
  | 8 => (s.swapEvent p 0 3).pdWith p (fun d => { d with prTries := d.prTries + 1 })
  | 9 => s.swapEvent p 3 3
  | 10 => s.swapEvent p 2 3
  | 11 => s.swapEvent p 1 3
  | _ => s

/-- A Fast Role Swap fails (R254): the switch opens with cause 5, SWAP outcome 3, ERROR_RECOVERY. -/
def State.frsFail (s : State) (p : Port) : State := ((s.swapEvent p 3 3).vbsOpen p 5).toRecovery p

/-- The engine abandons PD until detach (R257): Type-C power at 5 V. -/
def State.pdOff (s : State) (p : Port) : State :=
  let s1 := ((s.pdEnd p 2 2).setPe p 14).pdWith p (fun d => { d with cableRun := false })
  let s2 := if s1.vbusOn p && s1.get (.vbs p) F.VBS_TARGET_TARGET_MV != 5000 then
      (s1.put (.vbs p) F.VBS_STATUS_STATE 4).put (.vbs p) F.VBS_TARGET_TARGET_MV 5000
    else s1
  s2.rpApply p

/-- A hard reset, sent or received, with its reason (R257, R258, R264). -/
def State.hardReset (s : State) (p : Port) (sent : Bool) (reason : Nat) : State :=
  let pg := PageId.tcp p
  if [0, 13, 14].contains (s.pe p) then s
  else if 2 ≤ s.get pg F.TCP_PD_STATUS_HR_CONSEC then s.pdOff p
  else
    let n := s.get pg F.TCP_PD_STATUS_HR_CONSEC + 1
    let s1 := (s.put pg F.TCP_PD_STATUS_HR_CONSEC n).countErr pg p F.TCP_PD_CNT_HARD_RESETS
    let s2 := s1.raisePort pg p evHardReset (bit sent + 2 * reason + 32 * n)
    if s2.pe p = 9 then (if sent then s2.pdSay p .hardReset else s2).frsFail p
    else
      let s3 := s2.swapBroken p
      let source := s3.isSource p && s3.pe p != 8
      let s4 := ((if sent then s3.pdSay p .hardReset else s3).put pg F.TCP_PD_STATUS_SPEC_REV 2).pdWith p (fun d =>
        { d with revKnown := false, modeTries := 0 })
      if source then
        ((((s4.pdEnd p 2 2).put pg F.TCP_PD_STATUS_DATA_ROLE 0).setPe p 13).pdWith p (fun d => { d with hrPhase := 1 })).rpApply p
      else
        let s5 := if 1 ≤ s4.vbsStt p ∧ s4.vbsStt p ≤ 4 then s4.vbsOpen p 5 else s4
        (((s5.pdEnd p 2 2).put pg F.TCP_PD_STATUS_POWER_ROLE 1).put pg F.TCP_PD_STATUS_DATA_ROLE 1).setPe p 6
          |>.pdWith p (fun d => { d with snkWaitVbus := true })

/-! ### Unexpected messages (R251) -/

/-- PROTO_ERR counted and recorded: message type, class, and whether Hard_Reset handles it. -/
def State.protoErr (s : State) (p : Port) (num cls : Nat) (hard : Bool) : State :=
  (s.countErr (.tcp p) p F.TCP_PD_CNT_PROTO_ERR).raisePort (.tcp p) p evProtocolErr (num + 32 * cls + 128 * bit hard)

/-- The answer to a message the engine does not support: Reject under Revision 2.0 (R232). -/
def State.sayNotSupported (s : State) (p : Port) : State := s.pdSay p (if s.pdRev2 p then .reject else .notSupported)

/-- A message that is unexpected in its state, or a missing answer as class 3 (R251). DEDUCED, log 54. -/
def State.unexpected (s : State) (p : Port) (num cls : Nat) : State :=
  if s.pe p = 4 ∨ (s.pd p).swapPower then (s.protoErr p num cls true).hardReset p true 3
  else if s.pdReady p && cls != 3 then (s.protoErr p num cls false).sayNotSupported p
  else (s.protoErr p num cls false).sendSoft p

/-! ### Contracts (R241–R246) -/

/-- A request as its PDO reads it: voltage in mV, current in 10 mA, contract type; none where the position was not offered. -/
def State.readRdo (s : State) (p : Port) (rdo : Word) : Option (Nat × Nat × Nat × Word) :=
  let pos := rdo.toNat / 2 ^ 28
  match (if pos = 0 then none else (s.pd p).offer[pos - 1]?) with
  | none => none
  | some w =>
    if w = 0 then none
    else if pdoType w = 0 then some (50 * fixedV w, rdo.toNat / 2 ^ 10 % 2 ^ 10, if pos ≤ 7 then 1 else 3, w)
    else if apdoType w = 0 then some (20 * (rdo.toNat / 2 ^ 9 % 2 ^ 12), 5 * (rdo.toNat % 2 ^ 7), 2, w)
    else some (25 * (rdo.toNat / 2 ^ 9 % 2 ^ 12), 5 * (rdo.toNat % 2 ^ 7), 4, w)

/-- Voltage in mV and current in 10 mA of the present contract; before the first, 5 V at the fuse basis (R240). -/
def State.present (s : State) (p : Port) : Nat × Nat :=
  if s.flag (.tcp p) F.TCP_PD_STATUS_CONTRACT then (s.get (.tcp p) F.TCP_CONTRACT_V_MV, s.get (.tcp p) F.TCP_CONTRACT_I_10MA)
  else (5000, s.basisMa p / 10)

/-- Accept sent: the transition follows 28 ms after its GoodCRC (R243). -/
def State.acceptReq (s : State) (p : Port) (rdo : Word) (mv ma10 type : Nat) (w : Word) : State :=
  ((s.pdSay p .accept).setPe p 4).pdWith p (fun d =>
    { d with want := .none, req := none, waitSent := false, accepted := false, transRun := false, revokeWait := false,
             nextMin := 100 * apdoMin w, nextMv := mv, nextMa10 := ma10, nextType := ⟨type % 5, Nat.mod_lt _ (by decide)⟩,
             nextPos := ⟨rdo.toNat / 2 ^ 28 % 16, Nat.mod_lt _ (by decide)⟩, nextRdo := rdo })

/-- Reject sent; the engine is ready again. -/
def State.rejectReq (s : State) (p : Port) : State :=
  ((s.pdSay p .reject).pdWith p (fun d => { d with req := none, revokeWait := false })).toReady p

/-- A request is a raise (R241): its voltage or its power exceeds the present contract's; one for a position that is not offered names
no voltage. -/
def State.isRaise (s : State) (p : Port) (rdo : Word) : Bool :=
  match s.readRdo p rdo with
  | none => false
  | some (mv, ma10, _, _) => decide ((s.present p).1 < mv) || decide ((s.present p).1 * (s.present p).2 < mv * ma10)

/-- A Request decided (R241, R242): one that is no raise withdraws the leave request that is pending. -/
def State.decideRequest (s0 : State) (p : Port) (rdo : Word) : State :=
  let came := s0.pdWith p (fun d => { d with revokeWait := false })
  let s := if s0.isRaise p rdo then came else came.endRaise p
  match s.readRdo p rdo with
  | none => s.rejectReq p
  | some (mv, ma10, type, w) =>
    if !rdoFits mv ma10 type w then s.rejectReq p
    else if !s0.isRaise p rdo then s.acceptReq p rdo mv ma10 type w
    else if (s.pd p).raiseGranted && decide (mv * ma10 ≤ 10000 * s.grant p) then s.acceptReq p rdo mv ma10 type w
    else if (s.pd p).waitSent then (s.pdSay p .wait).toReady p |>.pdWith p (fun d => { d with req := some rdo })
    else ((s.setPe p 3).pdWith p (fun d => { d with want := .none, req := some rdo, revokeWait := false })).askLeave (.raise p)

/-- The arbiter grants a raise (R241, R242): accepted if its Request still waits for the answer, held otherwise. -/
def State.raiseGrant (s : State) (p : Port) : State :=
  match (s.pd p).req with
  | none => s.pdWith p (fun d => { d with raiseGranted := true })
  | some rdo =>
    if (s.pd p).waitSent then s.pdWith p (fun d => { d with raiseGranted := true, req := none })
    else match s.readRdo p rdo with
      | none => (s.opDone (.raise p)).rejectReq p
      | some (mv, ma10, type, w) => s.acceptReq p rdo mv ma10 type w

/-- The arbiter answers a raise CAP (R185, R239, R241): Reject, and new capabilities at once under R233. -/
def State.raiseCap (s : State) (p : Port) : State :=
  let s0 := s.pdWith p (fun d => { d with capDue := true })
  let s1 := if (s.pd p).waitSent then s0 else s0.rejectReq p
  (s1.pdWith p (fun d => { d with req := none, waitSent := false, want := if d.want = .request then .none else d.want })).pdKick p

/-- The contract being moved to takes effect (R243 step 4): PS_RDY, leave done, basis, CONTRACT. -/
def State.contractDone (s : State) (p : Port) : State :=
  let pg := PageId.tcp p
  let d := s.pd p
  let s1 := (s.pdSay p .psRdy).opDone (.raise p)
  let s2 := ((s1.put (.vbs p) F.VBS_STATUS_STATE 3).put (.vbs p) F.VBS_STATUS_DSCH_ON 0).put (.vbs p) F.VBS_TARGET_TARGET_MV d.nextMv
  let s3 := (((s2.put pg F.TCP_CONTRACT_V_MV d.nextMv).put pg F.TCP_CONTRACT_I_10MA d.nextMa10).put pg F.TCP_CONTRACT_TYPE d.nextType.val).put
    pg F.TCP_CONTRACT_POS d.nextPos.val
  let s4 := ((s3.put pg F.TCP_CONTRACT_RDO_RDO d.nextRdo.toNat).put pg F.TCP_PD_STATUS_CONTRACT 1).put pg F.TCP_PD_STATUS_HR_CONSEC 0
  let lim := 11 * (10 * d.nextMa10) / 10
  let s5 := if s4.get .bgt (F.BGT_GRANTn_STATE p.val) = 3 ∧ lim < s4.get (.vbs p) F.VBS_TARGET_LIMIT_MA then s4
    else s4.setLimit p (10 * d.nextMa10)
  let s6 := (s5.vbsWith p (fun v => { v with highMv := d.nextMv, lastNear := false })).pdWith p (fun d =>
    { d with transRun := false, raiseGranted := false, ppsMv := d.nextMv, ppsMin := d.nextMin, sinkTx := false })
  let s7 := s6.raisePort pg p evContract (d.nextPos.val + d.nextType.val * 16 + bit (s6.flag pg F.TCP_PD_STATUS_EPR_MODE) * 128
    + d.nextMv * d.nextMa10 / 10000 * 0x10000)
  (s7.toReady p).offerCheck p |>.pdKick p

/-- A sink in `SNK_READY` with Fast Role Swap enabled asks for the partner's Sink_Capabilities, once (R254). -/
def State.frsAsk (s : State) (p : Port) : State :=
  if s.pe p = 7 ∧ s.pdReady p ∧ s.pdFlag p F.TCP_PD_POLICY_FRS_EN ∧ (s.pd p).frsMa = 0 then
    (s.pdSay p .getSinkCap).pdWith p (fun d => { d with want := .sinkCaps })
  else s

/-- A contract as sink at zero draw takes effect (R252). -/
def State.sinkContract (s : State) (p : Port) : State :=
  let pg := PageId.tcp p
  let s1 := (((s.put pg F.TCP_CONTRACT_V_MV 5000).put pg F.TCP_CONTRACT_I_10MA 0).put pg F.TCP_CONTRACT_TYPE 1).put pg F.TCP_CONTRACT_POS 1
  let s2 := ((s1.put pg F.TCP_CONTRACT_RDO_RDO (2 ^ 28 + 2 ^ 26)).put pg F.TCP_PD_STATUS_CONTRACT 1).put pg F.TCP_PD_STATUS_HR_CONSEC 0
  (((s2.raisePort pg p evContract (1 + 16 + 256)).setPe p 7).pdWith p (fun d => { d with want := .none })).frsEval p |>.frsAsk p

/-! ### Swaps (R253–R255) -/

/-- A swap of the data role or VCONN is over: ready again under a contract, else the engine starts (R240). -/
def State.swapOver (s : State) (p : Port) : State :=
  let s1 := s.pdWith p (fun d => { d with swapOwn := false, swapPower := false, want := .none })
  if !s1.isSource p || s1.flag (.tcp p) F.TCP_PD_STATUS_CONTRACT then s1.toReady p else s1.pdStart p

/-- VCONN_Swap, if it is still due after the port has become source: a full port sends it under `TAKE_VCONN` (R255). -/
def State.vconnTake (s : State) (p : Port) : State :=
  let s1 := s.pdWith p (fun d => { d with vconnDue := false })
  if (s.pd p).vconnDue && isFullPort p && !s.compat && !s.flag (.tcp p) F.TCP_PD_STATUS_VCONN_SRC &&
      s.pdFlag p F.TCP_PD_POLICY_TAKE_VCONN && !(s.tcp p).vconnBarred then
    ((s1.pdSay p .vconnSwap).setPe p 10).pdWith p (fun d => { d with want := .swapAnswer, swapOwn := true, swapPower := false })
  else s1.swapOver p

/-- The engine sends DR_Swap. -/
def State.sendDrSwap (s : State) (p : Port) : State :=
  ((s.pdSay p .drSwap).setPe p 11).pdWith p (fun d => { d with want := .swapAnswer, swapOwn := true, swapPower := false })

/-- The next swap after the port has become source: DR_Swap while it is UFP (R253), then VCONN_Swap (R255). -/
def State.nextSwap (s : State) (p : Port) : State :=
  if s.flag (.tcp p) F.TCP_PD_STATUS_DATA_ROLE then s.sendDrSwap p else s.vconnTake p

/-- The port becomes DFP (R215, R219, R253): the lane mux is set and the data owner connects. -/
def State.becomeDfp (s : State) (p : Port) : State :=
  let s2 := (s.put (.tcp p) F.TCP_PD_STATUS_DATA_ROLE 0).laneMux p true
  (s2.pdWith p (fun d => { d with want := .none })).usbEval p

/-- A power swap completes: Rp, PS_RDY, ATTACHED_SRC, SWAP; then the data role (R253, R254). -/
def State.swapToSource (s : State) (p : Port) (kind : Nat) : State :=
  let pg := PageId.tcp p
  let s1 := ((s.put pg F.TCP_PD_STATUS_POWER_ROLE 0).put pg F.TCP_CC_STATUS_STATE 4).endContract p
  let s2 := ((s1.opDone (.turnOn p)).pdWith p (fun d =>
    { d with reserved := false, swapPower := false, want := .none, prTries := 0, frsSeen := false, vconnDue := true })).put pg F.TCP_PD_STATUS_FRS_ARMED 0
  let s3 := ((s2.pdSay p .psRdy).rpApply p).swapEvent p kind 0
  s3.nextSwap p

/-- The reservation of a sink ends when neither kind of swap needs it any more (R254). -/
def State.reserveCheck (s : State) (p : Port) : State := if s.reserveNeeded p then s else s.endReserve p

/-- A swap of the engine's own was refused or not answered: one attempt; after the third SWAP is raised (R253). -/
def State.swapTried (s : State) (p : Port) (outcome : Nat) : State :=
  match s.pe p with
  | 8 =>
    let n := (s.pd p).prTries + 1
    let s1 := s.pdWith p (fun d => { d with prTries := n, want := .none })
    let s2 := if 3 ≤ n then (s1.swapEvent p 0 outcome).reserveCheck p else s1
    (s2.pdWith p (fun d => { d with swapOwn := false })).setPe p 7
  | 11 =>
    let n := (s.pd p).drTries + 1
    let s1 := s.pdWith p (fun d => { d with drTries := n, want := .none })
    if 3 ≤ n then s1.swapEvent p 1 outcome else s1
  | 10 => s.swapEvent p 2 outcome
  | _ => s

/-- A refused swap is over; a VCONN_Swap that is due follows a DR_Swap, whatever its outcome (R255). -/
def State.swapRefused (s : State) (p : Port) (outcome : Nat) : State :=
  let s1 := s.swapTried p outcome
  if s.pe p = 11 then s1.vconnTake p else if s.pe p = 10 then s1.swapOver p else s1

end Sys2Proof.Machine
end

