-- ==== Sys2Proof/Machine/Vbs.lean ====
section
/-! DEFINITION. The VBUS switch of a port (R194–R198): samples, closing, trips and the waits that follow them. -/

namespace Sys2Proof.Machine

/-! ### Samples (R195) -/

/-- VBUS counts as units of 0.1 µV: 14.0625 mV a count. -/
def adcUv10 (counts : Nat) : Nat := 140625 * counts

/-- The sample lies within ±5 % of a target in mV. -/
def nearTarget (counts mv : Nat) : Bool := decide (9500 * mv ≤ adcUv10 counts) && decide (adcUv10 counts ≤ 10500 * mv)

/-- The current in mA toward the sink that a sense count gives (R195): 48.83 µV a count over `RSNS`. -/
def senseMa (rsns : Nat) (sense : Int) : Nat := min (4883 * sense.toNat / (10 * rsns)) 65535

/-- `RSNS` in force (R203). -/
def State.rsns (s : State) (p : Port) : Nat := clampTo 10 255 (s.cfg (.vbs p) F.VBS_FUSE_RSNS)

/-- The target in mV that an over-voltage is judged against (R198): the higher one while VBUS moves. -/
def State.ovpTarget (s : State) (p : Port) : Nat :=
  if s.vbsStt p = 4 then (s.vbs p).highMv else s.get (.vbs p) F.VBS_TARGET_TARGET_MV

/-- What one sample shows of the conditions that need two. -/
structure SampleFlags where
  low : Bool
  overs : Bool
  rev : Bool
  near : Bool
  deriving DecidableEq, Repr

/-- The conditions of a sample (R195, R198, R243). -/
def State.sampleFlags (s : State) (p : Port) (vbus vreg : Nat) : SampleFlags :=
  { low := decide (vbus ≤ 56)
    overs := s.gateOn p && decide (11000 * s.ovpTarget p < adcUv10 vbus)
    rev := s.vbusOn p && decide (5000000 + adcUv10 vreg < adcUv10 vbus)
    near := s.vbsStt p == 4 && nearTarget vbus (s.get (.vbs p) F.VBS_TARGET_TARGET_MV) }

/-- The sample recorded: measurements, vSafe0V, and the conditions remembered for the next sample. -/
def State.adcRecord (s : State) (p : Port) (vbus vreg : Nat) (sense : Int) : State :=
  let pg := PageId.vbs p
  let f := s.sampleFlags p vbus vreg
  let s1 := (s.put pg F.VBS_MEAS_VBUS (min vbus 4095)).put pg F.VBS_MEAS_VREG (min vreg 4095)
  let s2 := (s1.put pg F.VBS_IBUS_IBUS_MA (senseMa (s.rsns p) sense)).setFlag pg F.VBS_IBUS_REV (decide (sense < 0))
  let above := decide (s.get pg F.VBS_TARGET_LIMIT_MA < senseMa (s.rsns p) sense) && s.gateOn p
  let s3 := match fullOf p with
    | none => s2
    | some g => s2.sspWith g (fun x => { x with upFresh := none })
  ((s3.setFlag pg F.VBS_STATUS_SAFE0V (f.low && (s.vbs p).lastLow)).tcpWith p (fun t => { t with lrNew := none })).vbsWith p (fun v =>
    { v with safeSeen := v.safeSeen || (f.low && v.lastLow), lastLow := f.low, lastOver := f.overs, lastRev := f.rev, lastNear := f.near, slowRun := v.slowRun || above, tripFresh := false })

/-- A sample of a sink that waits after its hard reset (R253): VBUS has fallen below 3.67 V, and then come back to 4.0 V, which ends
the wait. DESIGN CHOICE, log 84. -/
def State.adcSink (s : State) (p : Port) (vbus : Nat) : State :=
  let d := s.pd p
  if !d.snkWaitVbus then s
  else if adcUv10 vbus < 36700000 then s.pdWith p (fun d => { d with snkFell := true })
  else if d.snkFell && decide (40000000 ≤ adcUv10 vbus) then s.pdWith p (fun d => { d with snkWaitVbus := false, snkFell := false })
  else s

/-- vSafe0V ends the bar of a failed discharge, and a turn-on that waits for it is asked (R197, R198). -/
def State.adcSafe (s : State) (p : Port) : State :=
  if s.flag (.vbs p) F.VBS_STATUS_SAFE0V && (s.vbs p).dschLock then
    let s1 := s.vbsWith p (fun v => { v with dschLock := false })
    if (s1.vbs p).askOnSafe then (s1.vbsWith p (fun v => { v with askOnSafe := false })).askTurnOn p else s1
  else s

/-- The open-loop VSET code for a target in mV, by the codes that VSET uses (R194, R203). -/
def State.vsetCode (s : State) (p : Port) (mv : Nat) : Int :=
  let w := (s.vbs p).cal
  (fldGet F.VBS_CAL_CODE_5V w : Int) + ((mv : Int) - 5000) * (fldGet F.VBS_CAL_CODE_PER_V w : Int) / 1000

/-- The CC line of the orientation is classified open (R245). -/
def State.ccOpen (s : State) (p : Port) : Bool :=
  (if s.flag (.tcp p) F.TCP_CC_STATUS_ORIENT then s.get (.tcp p) F.TCP_CC_STATUS_CC2_LVL
    else s.get (.tcp p) F.TCP_CC_STATUS_CC1_LVL) == 0

/-- `VSET_SLEW` in force, 0.1 V/ms (R203): five of its units are the mV of one sample. -/
def State.vsetSlew (s : State) (p : Port) : Nat := clampTo 10 255 (s.cfg (.vbs p) F.VBS_TIMING_VSET_SLEW)

/-- VSET takes the open-loop code of the target, in a transition by the slew of one sample at a time (R243), and holds the code it has
reached while the CC line is open (R245). -/
def State.vsetMove (s : State) (p : Port) : State :=
  let mv := s.get (.vbs p) F.VBS_TARGET_TARGET_MV
  let d := 5 * s.vsetSlew p
  if s.vbsStt p = 4 then
    (if s.ccOpen p then s else
      s.vbsWith p (fun v => { v with vsetMv := if v.vsetMv < mv then min mv (v.vsetMv + d) else max mv (v.vsetMv - d) }))
  else s.vbsWith p (fun v => { v with vsetMv := mv })

/-- One trim step (R194): against VREG before closing, against VBUS while closed, bounded to ±10 % of the open-loop code. A
sample at the count nearest the target takes no step, nor does one while VSET is held (R245). `TRIM_LIMIT` stands until the next step that is
not held at the bound. DESIGN CHOICE, log 14. DESIGN CHOICE, log 87. -/
def State.adcTrim (s0 : State) (p : Port) (vbus vreg : Nat) : State :=
  let st := s0.vbsStt p
  let s := s0.vsetLoad p
  if st = 1 ∨ st = 2 ∨ st = 3 ∨ (st = 4 ∧ !s0.ccOpen p) then
    let mv := s.get (.vbs p) F.VBS_TARGET_TARGET_MV
    let want := (70312 + 10000 * mv) / 140625
    let have_ := if st = 1 ∨ st = 2 then vreg else vbus
    let bound := (s.vsetCode p mv).natAbs / 10
    let old := (s.vbs p).trim
    let moved := if have_ < want then old + Config.trimStep else if want < have_ then old - Config.trimStep else old
    let new : Int := max (-(bound : Int)) (min (bound : Int) moved)
    (s.vbsWith p (fun v => { v with trim := new })).setFlag (.vbs p) F.VBS_STATUS_TRIM_LIMIT
      (decide (bound ≤ new.natAbs) && decide (have_ ≠ want))
  else s0

/-- VBUS has reached vSafe5V while closing (R196 step 4): ON, VBUS_ON, done; Rp, limit, BC mode, the USB ports and the PD
engine follow (R210, R217, R219, R240, R253). -/
def State.vbusReached (s : State) (p : Port) : State :=
  let pg := PageId.vbs p
  let s1 := (s.put pg F.VBS_STATUS_STATE 3).raisePort pg p evVbusOn (s.get pg F.VBS_MEAS_VBUS)
  let s2 := (s1.opDone (.turnOn p)).vbsWith p (fun v => { v with hrCycle := false, lastOver := false, lastRev := false })
  let s3 := ((s2.setLimit p (s2.basisMa p)).rpApply p).bcDecide p
  if s3.pe p = 8 ∧ (s3.pd p).swapPower then s3.swapToSource p 0 else s3.pdStart p

/-- The minimum voltage in mV of the PPS APDO under contract (R246). -/
def State.ppsFloor (s : State) (p : Port) : Nat := (s.pd p).ppsMin

/-- A PPS contract is in force as source. -/
def State.ppsNow (s : State) (p : Port) : Bool := s.contractSrc p && s.get (.tcp p) F.TCP_CONTRACT_TYPE == 2

/-- PPS current limiting (R246): the target falls or rises by 20 mV a sample. -/
def State.adcPps (s : State) (p : Port) : State :=
  if s.vbsStt p == 3 && s.ppsNow p then
    let mv := s.get (.vbs p) F.VBS_TARGET_TARGET_MV
    let i := s.get (.vbs p) F.VBS_IBUS_IBUS_MA
    let op := 10 * s.get (.tcp p) F.TCP_CONTRACT_I_10MA
    if op < i then s.put (.vbs p) F.VBS_TARGET_TARGET_MV (if s.ppsFloor p < mv then max (s.ppsFloor p) (mv - 20) else mv)
    else if i < op ∧ mv < (s.pd p).ppsMv then s.put (.vbs p) F.VBS_TARGET_TARGET_MV (min (s.pd p).ppsMv (mv + 20))
    else s
  else s

/-- The current test of R192 for a limit that waits to fall outside a revocation (R210): 10 ms of samples within 1.1 × the new
current. DEDUCED, log 52. -/
def State.adcFall (s : State) (p : Port) : State :=
  let ma := s.basisMa p
  if s.vbsStt p == 3 && s.get .bgt (F.BGT_GRANTn_STATE p.val) != 3 && decide (11 * ma / 10 < s.get (.vbs p) F.VBS_TARGET_LIMIT_MA)
      && decide (s.get (.vbs p) F.VBS_IBUS_IBUS_MA ≤ 11 * ma / 10) then
    if (s.vbs p).quiet < 200 then s.vbsWith p (fun v => { v with quiet := v.quiet + 1 })
    else (s.setLimit p ma).vbsWith p (fun v => { v with quiet := 0 })
  else s.vbsWith p (fun v => { v with quiet := 0 })

/-- VBUS moves to a new target (R243): the discharge helps a fall, and two samples near the target end the transition. -/
def State.adcMove (s : State) (p : Port) (was near : Bool) : State :=
  let pg := PageId.vbs p
  let s1 := s.setFlag pg F.VBS_STATUS_DSCH_ON
    (decide (10500 * s.get pg F.VBS_TARGET_TARGET_MV < adcUv10 (s.get pg F.VBS_MEAS_VBUS)))
  if was && near && !s.ccOpen p then
    if s.pe p = 4 ∧ (s.pd p).transRun then s1.contractDone p
    else ((s1.put pg F.VBS_STATUS_STATE 3).put pg F.VBS_STATUS_DSCH_ON 0).vbsWith p (fun v =>
      { v with highMv := s.get pg F.VBS_TARGET_TARGET_MV })
  else s1

/-- One sample of a port (R194, R195, R196, R198, R243, R246, R253). DEDUCED, log 52. -/
def State.adcSample (s : State) (p : Port) (vbus vreg : Nat) (sense : Int) : State :=
  let old := s.vbs p
  let f := s.sampleFlags p vbus vreg
  let s1 := (((s.adcRecord p vbus vreg sense).vsetMove p).adcTrim p vbus vreg).adcSafe p |>.adcSink p vbus
  if f.overs && old.lastOver then s1.trip p 4
  else if f.rev && old.lastRev then s1.trip p 6
  else if s.vbsStt p = 2 then (if 47500000 ≤ adcUv10 vbus then s1.vbusReached p else s1)
  else if s.vbsStt p = 4 then s1.adcMove p old.lastNear f.near
  else (s1.adcFall p).adcPps p

/-- ADC_SAMPLE (R195): every 50 µs in PCLK. -/
def execAdcSample (p : Port) (vbus vreg : Nat) (sense : Int) (s : State) : Host.Outcome State Fault Refusal :=
  .next (if s.portUp p then s.adcSample p vbus vreg sense else s)

/-! ### Closing (R196) -/

/-- The gate ramps: CLOSING. -/
def State.startClosing (s : State) (p : Port) : State :=
  ((s.put (.vbs p) F.VBS_STATUS_STATE 2).put (.vbs p) F.VBS_STATUS_DSCH_ON 0).put (.vbs p) F.VBS_STATUS_GATE_ON 1

/-- The checks of a close (R196 step 3): VREG within ±5 % of 5.00 V, then vSafe0V; a failed one trips. -/
def State.checkClose (s : State) (p : Port) : State :=
  if !nearTarget (s.get (.vbs p) F.VBS_MEAS_VREG) 5000 then s.trip p 5
  else if !s.flag (.vbs p) F.VBS_STATUS_SAFE0V then s.trip p 7
  else s.startClosing p

/-- SETTLE_END (R196 step 3). -/
def execSettleEnd (p : Port) (s : State) : Host.Outcome State Fault Refusal :=
  .next (if s.portUp p && s.vbsStt p == 1 then s.checkClose p else s)

/-- CLOSE_MAX_END (R196 step 5). -/
def execCloseMaxEnd (p : Port) (s : State) : Host.Outcome State Fault Refusal :=
  .next (if s.portUp p && s.vbsStt p == 2 then s.trip p 3 else s)

/-! ### Trips (R198) -/

/-- PORT_FAST_TRIP (R198): the comparator in CLOSING, ON or a transition. DEDUCED, log 52. -/
def execPortFastTrip (p : Port) (ma : Nat) (s : State) : Host.Outcome State Fault Refusal :=
  .next (if s.portUp p && s.gateOn p && decide (2 * s.get (.vbs p) F.VBS_TARGET_LIMIT_MA ≤ ma) then
    (s.put (.vbs p) F.VBS_IBUS_IBUS_MA (min ma 65535)).trip p 1 else s)

/-- The timed trip runs: not while VBUS moves, and under PPS only at the APDO minimum (R198, R246). DEDUCED, log 52. -/
def State.slowArmed (s : State) (p : Port) : Bool :=
  (s.vbsStt p == 2 || s.vbsStt p == 3) && (s.vbs p).slowRun
    && (!s.ppsNow p || decide (s.get (.vbs p) F.VBS_TARGET_TARGET_MV ≤ s.ppsFloor p))

/-- SLOW_TIME_END (R198). DESIGN CHOICE, log 4. -/
def execSlowTimeEnd (p : Port) (s : State) : Host.Outcome State Fault Refusal :=
  .next (if s.portUp p && s.slowArmed p then s.trip p 2 else s)

/-- PORT_CONSEC_CLEAR (R198): 60 s in ON with the slow timer at zero. -/
def execPortConsecClear (p : Port) (s : State) : Host.Outcome State Fault Refusal :=
  .next (if s.portUp p && s.vbsStt p == 3 then
    (s.put (.vbs p) F.VBS_STATUS_CONSEC 0).vbsWith p (fun v => { v with slowRun := false }) else s)

/-- A port asks again after a retry wait, counted (R198, R203). -/
def State.retryAsk (s : State) (p : Port) : State :=
  (s.count (.vbs p) F.VBS_CNT_RETRIES_RUN).announce p

/-- RETRY_INT_END (R198, R218): the wait after a trip is over; `held` tells whether Rd has held throughout the last `CC_DB`.
DESIGN CHOICE, log 4. -/
def execRetryIntEnd (p : Port) (held : Bool) (s : State) : Host.Outcome State Fault Refusal :=
  .next (if s.portUp p && (s.vbs p).retryRun then
    let s1 := s.vbsWith p (fun v => { v with retryRun := false })
    let s2 := if s1.vbsStt p = 6 then s1.put (.vbs p) F.VBS_STATUS_STATE 0 else s1
    if s2.ccSt p ≠ 12 then s2.askTurnOn p
    else
      let row := s2.ccRowNow p
      if held && (row.1 == 1 || row.1 == 2 || row.1 == 4) then
        (((s2.recordRow p row).put (.tcp p) F.TCP_CC_STATUS_STATE 3).rpApply p).retryAsk p
      else s2.toUnattached p
  else s)

/-- `FORCE_OFF` has changed (R203). -/
def State.forceOffChanged (s : State) (p : Port) : State :=
  if s.flag (.vbs p) F.VBS_CTRL_FORCE_OFF then (s.endReserve p).vbsOpen p 1 |>.put (.tcp p) F.TCP_CC_STATUS_LEAVE_WAIT 0
  else s.askAgain p

end Sys2Proof.Machine
end

