-- ==== Sys2Proof/Machine/Tcp.lean ====
section
/-! DEFINITION. The Type-C connection logic of a port (R206–R221): classifications, attach, detach, DRP and Try.SRC,
recovery, VCONN. -/

namespace Sys2Proof.Machine

/-- The code of a classification in `CC1_LVL` and `CC2_LVL` (R228). -/
def ccCode : CcLevel → Nat
  | .opn => 0
  | .ra => 1
  | .rd => 2
  | .vRdUsb => 3
  | .vRd15 => 4
  | .vRd30 => 5

/-- An upstream port takes the line that alone shows Rp as its orientation and reports its level (R226): a pair that has held for
`CC_DB`. DEDUCED, log 67. -/
def State.upClassify (s : State) (u : Up) (l1 l2 : Nat) : State :=
  let pg := PageId.ups u
  if !s.coreUp || !s.loaded then s
  else if decide (3 ≤ l1) == decide (3 ≤ l2) then
    (if s.flag pg F.UPS_CC_STATUS_ATTACHED then s else (s.put pg F.UPS_CC_STATUS_ORIENT_VALID 0).put pg F.UPS_CC_STATUS_RP_LVL 0)
  else
    let s1 := if s.flag pg F.UPS_CC_STATUS_ATTACHED then s
      else (s.setFlag pg F.UPS_CC_STATUS_ORIENT (decide (3 ≤ l2))).put pg F.UPS_CC_STATUS_ORIENT_VALID 1
    s1.put pg F.UPS_CC_STATUS_RP_LVL (max l1 l2 - 2)

/-- CC_CLASSIFY (R206, R226). -/
def execCcClassify (pp : PdPort) (cc1 cc2 : CcLevel) (s : State) : Host.Outcome State Fault Refusal :=
  .next (match pp with
    | .down p =>
      if s.portUp p then
        ((s.put (.tcp p) F.TCP_CC_STATUS_CC1_LVL (ccCode cc1)).put (.tcp p) F.TCP_CC_STATUS_CC2_LVL (ccCode cc2)).ccEval p
      else s
    | .up u => s.upClassify u (ccCode cc1) (ccCode cc2))

/-- AUDIO_ACC entered (R207, R214): ACCESSORY alone, no leave. DEDUCED, log 51. -/
def State.audioAttach (s : State) (p : Port) : State :=
  let pg := PageId.tcp p
  let s1 := ((s.recordRow p (5, false)).count pg F.TCP_CC_CNT_ATTACHES).capMark p true
  let s2 := (s1.tcpWith p (fun t => { t with announced := true })).put pg F.TCP_CC_STATUS_STATE 11
  ((s2.rpApply p).usbEval p).raisePort pg p evAccessory 5

/-- ATTACH (R208, R207): the attach classification has held for `CC_DB`. DEDUCED, log 51. -/
def execAttach (p : Port) (s : State) : Host.Outcome State Fault Refusal :=
  .next (if s.ccCanRun p && !(s.tcp p).announced && (s.ccSt p == 2 || s.ccSt p == 3) then
    let row := s.ccRowNow p
    if row.1 = 5 then s.audioAttach p
    else if s.ccSt p == 3 && row.1 != 0 then s.announce p
    else s
  else s)

/-- The terminations that hold the port attached have gone (R209, R213). -/
def State.rdGone (s : State) (p : Port) : Bool :=
  let l1 := s.get (.tcp p) F.TCP_CC_STATUS_CC1_LVL
  let l2 := s.get (.tcp p) F.TCP_CC_STATUS_CC2_LVL
  match s.ccSt p with
  | 3 => if (s.tcp p).partner == 4 then l1 != 2 && l2 != 2 else if s.flag (.tcp p) F.TCP_CC_STATUS_ORIENT then l2 != 2 else l1 != 2
  | 4 => if s.flag (.tcp p) F.TCP_CC_STATUS_ORIENT then l2 != 2 else l1 != 2
  | 7 => l1 == 0 && l2 == 0
  | 10 => l1 != 2 && l2 != 2
  | 11 => l1 != 1 || l2 != 1
  | _ => false

/-- DETACH (R209); during a Fast Role Swap, R254. DEDUCED, log 51. -/
def execDetach (p : Port) (s : State) : Host.Outcome State Fault Refusal :=
  .next (if s.portUp p && (s.tcp p).announced && s.rdGone p then
    if s.pe p = 9 then s.frsFail p
    else if s.ccSt p = 7 then s
    else (s.ccEnd p 2 0 0 0).ccEval p
  else s)

/-- DEBOUNCE_LOST (R208). DEDUCED, log 51. -/
def execDebounceLost (p : Port) (s : State) : Host.Outcome State Fault Refusal :=
  .next (if s.ccCanRun p && s.ccSt p == 3 && !(s.tcp p).announced && (s.ccRowNow p).1 == 0 then
    ((s.recordRow p (0, false)).put (.tcp p) F.TCP_CC_STATUS_STATE 2).rpApply p else s)

/-- DRP_TOGGLE (R211). -/
def execDrpToggle (p : Port) (s : State) : Host.Outcome State Fault Refusal :=
  .next (if s.ccCanRun p && s.drp p then
    if s.ccSt p = 2 then (if (s.ccRowNow p).1 = 0 then (s.put (.tcp p) F.TCP_CC_STATUS_STATE 5).rpApply p else s)
    else if s.ccSt p = 5 then (s.put (.tcp p) F.TCP_CC_STATUS_STATE 2).rpApply p else s
  else s)

/-- TRY_SRC (R211). -/
def execTrySrc (p : Port) (s : State) : Host.Outcome State Fault Refusal :=
  .next (if s.ccCanRun p && s.ccSt p == 6 then
    ((s.put (.tcp p) F.TCP_CC_STATUS_STATE 8).tcpWith p (fun t => { t with tryUsed := true })).rpApply p else s)

/-- TRY_SRC_SUCCESS (R211). -/
def execTrySrcSuccess (p : Port) (s : State) : Host.Outcome State Fault Refusal :=
  .next (if s.ccCanRun p && s.ccSt p == 8 && ((s.ccRowNow p).1 == 1 || (s.ccRowNow p).1 == 2) then
    ((((s.recordRow p (s.ccRowNow p)).count (.tcp p) F.TCP_CC_CNT_TRY_WINS).put (.tcp p) F.TCP_CC_STATUS_STATE 3).rpApply p).announce p
  else s)

/-- TRY_SRC_TIMEOUT (R211). -/
def execTrySrcTimeout (p : Port) (s : State) : Host.Outcome State Fault Refusal :=
  .next (if s.ccCanRun p && s.ccSt p == 8 then (s.put (.tcp p) F.TCP_CC_STATUS_STATE 9).rpApply p else s)

/-- A line shows Rp. -/
def State.rpSeen (s : State) (p : Port) : Bool :=
  decide (3 ≤ s.get (.tcp p) F.TCP_CC_STATUS_CC1_LVL) || decide (3 ≤ s.get (.tcp p) F.TCP_CC_STATUS_CC2_LVL)

/-- TRY_TIMEOUT (R211): only where no Rp is seen. -/
def execTryTimeout (p : Port) (s : State) : Host.Outcome State Fault Refusal :=
  .next (if s.ccCanRun p && s.ccSt p == 9 && !s.rpSeen p then
    (((s.put (.tcp p) F.TCP_CC_STATUS_STATE 5).put (.tcp p) F.TCP_CC_STATUS_ORIENT_VALID 0).tcpWith p
      (fun t => { t with tryUsed := false })).rpApply p else s)

/-- VBUS measured at the receptacle, 0.1 µV. -/
def State.vbusUv10 (s : State) (p : Port) : Nat := adcUv10 (s.get (.vbs p) F.VBS_MEAS_VBUS)

/-- SINK_ATTACH (R211, R212, R252). -/
def execSinkAttach (p : Port) (s : State) : Host.Outcome State Fault Refusal :=
  let pg := PageId.tcp p
  let rp1 := 3 ≤ s.get pg F.TCP_CC_STATUS_CC1_LVL
  let rp2 := 3 ≤ s.get pg F.TCP_CC_STATUS_CC2_LVL
  .next (if s.ccCanRun p && s.ccSt p == 9 && decide (rp1 ≠ rp2) && decide (40000000 ≤ s.vbusUv10 p) then
    let s1 := ((s.put pg F.TCP_CC_STATUS_STATE 7).setFlag pg F.TCP_CC_STATUS_ORIENT (decide rp2)).put pg F.TCP_CC_STATUS_ORIENT_VALID 1
    let s2 := ((s1.count pg F.TCP_CC_CNT_ATTACHES).capMark p true).tcpWith p (fun t =>
      { t with partner := 3, announced := true, bcMode := ⟨s.bcMode p % 4, Nat.mod_lt _ (by decide)⟩ })
    let s3 := ((s2.put pg F.TCP_PD_STATUS_POWER_ROLE 1).put pg F.TCP_PD_STATUS_DATA_ROLE 1)
    let s4 := if s.pdEn p then (s3.revOpen p).setPe p 6 else s3.setPe p 0
    let s5 := (s4.put (.vbs p) F.VBS_STATUS_DSCH_ON 0).rpApply p
    (s5.usbEval p).raisePort pg p evAttach (3 + 8 * bit (decide rp2) + 16 * bit (s.tcp p).tryUsed)
  else s)

/-- SINK_DETACH (R212): suspended while a swap or a sink hard reset runs (R253). -/
def execSinkDetach (p : Port) (s : State) : Host.Outcome State Fault Refusal :=
  .next (if s.portUp p && s.ccSt p == 7 && decide (s.vbusUv10 p < 36700000) && s.pe p != 8 && s.pe p != 9 &&
      !(s.pd p).snkWaitVbus then
    (s.ccEnd p 1 0 0 0).count (.tcp p) F.TCP_CC_CNT_RECOVERIES else s)

/-- ERROR_RECOVERY_END (R221). -/
def execErrorRecoveryEnd (p : Port) (s : State) : Host.Outcome State Fault Refusal :=
  .next (if s.ccCanRun p && s.ccSt p == 1 then s.toUnattached p else s)

/-- A trip and a recovery that no sample lies between may fall into one cycle, and then the trip stands (R227): a free value decides.
DESIGN CHOICE, log 84. -/
def State.tripHolds (s : State) (p : Port) : Bool × State :=
  if s.ccSt p == 12 && (s.vbs p).tripFresh then
    let r := s.free
    (r.1.getLsbD 0, r.2)
  else (false, s)

/-- `RECOVER` written, or an LR field of the page changed (R221, R227). DESIGN CHOICE, log 84. -/
def State.recoverNow (s : State) (p : Port) : State :=
  let r := s.tripHolds p
  if r.1 then r.2 else if s.ccCanRun p && s.ccSt p != 0 then r.2.toRecovery p else s

/-- The cable treated as one that does not answer (R248): CABLE, and the offer derived again. -/
def State.cableFail (s : State) (p : Port) : State :=
  let pg := PageId.tcp p
  let s1 := ((s.put pg F.TCP_CABLE_DISCOVERED 0).put pg F.TCP_CABLE_FAILED 1).put pg F.TCP_CABLE_CURRENT 0
  let s2 := ((s1.put pg F.TCP_CABLE_VMAX 0).put pg F.TCP_CABLE_EPR_CAPABLE 0).put pg F.TCP_CABLE_ACTIVE 0
  let s3 := s2.pdWith p (fun d => { d with cableRun := false, cableGood := false })
  ((s3.raisePort pg p evCable ((s3.rd (pg.base + 0x8C)).toNat % 256)).offerCheck p).pdKick p

/-- VCONN_TRIP (R216, R248). -/
def execVconnTrip (p : Port) (s : State) : Host.Outcome State Fault Refusal :=
  .next (if s.portUp p && s.flag (.tcp p) F.TCP_CC_STATUS_VCONN_ON then
    let s1 := ((s.vconnOff p).setFault (.tcp p) 8).countErr (.tcp p) p F.TCP_CC_CNT_VCONN_TRIPS
    (s1.tcpWith p (fun t => { t with vconnBarred := true })).cableFail p
  else s)

/-- The connection logic held in DISABLED: page off, parity, reset or fitting (R207, R229, R52). -/
def State.ccDisable (s : State) (p : Port) (detachCause muxCause vbusCause : Nat) : State :=
  if s.ccSt p = 0 then s else s.ccEnd p 0 detachCause muxCause vbusCause

/-- The connection logic leaves DISABLED (R136, R207). -/
def State.ccStart (s : State) (p : Port) : State :=
  if s.ccSt p = 0 ∧ s.ccCanRun p then s.toUnattached p else s

end Sys2Proof.Machine
end

