-- ==== Sys2Proof/Machine/ConTap.lean ====
section
/-! DEFINITION. The console tap (R222–R225, R230, R231): its FIFOs and its line. -/

namespace Sys2Proof.Machine

/-- The levels that `CON_STATUS` shows follow the FIFOs. -/
def State.conSync (s : State) (p : Port) : State :=
  (s.put (.con p) F.CON_STATUS_RX_LEVEL (s.con p).rx.length).put (.con p) F.CON_STATUS_TX_LEVEL (s.con p).tx.length

/-- The data bits of a character: seven of them under `DATA8` 0 (R223, R230). -/
def State.conBits (s : State) (p : Port) (b : Byte) : Byte := if s.cfgFlag (.con p) F.CON_CFG_DATA8 then b else b &&& 0x7F

/-- A parity error can be found: `PARITY` is even or odd (R230). -/
def State.conParity (s : State) (p : Port) : Bool := let v := s.cfg (.con p) F.CON_CFG_PARITY; v == 1 || v == 2

/-- A received byte enters the receive FIFO, or is dropped and counted (R225, R230). -/
def State.conReceive (s : State) (p : Port) (i : RxItem) : State :=
  let s1 := if i.frameErr then s.countErr (.con p) p F.CON_CNT_FRAMING else s
  if (s1.con p).rx.length < 256 then (s1.conWith p (fun c => { c with rx := c.rx ++ [i] })).conSync p
  else s1.countErr (.con p) p F.CON_CNT_OVERRUN

/-- A break is counted and delivers no byte (R224). -/
def State.conBreak (s : State) (p : Port) : State :=
  (s.count (.con p) F.CON_CNT_BREAKS).put (.con p) F.CON_STATUS_BREAK 1

/-- The word a read of `CON_RXDATA` returns, and the state with that byte removed (R230). -/
def State.conPop (s : State) (p : Port) : Word × State :=
  match (s.con p).rx with
  | [] => (0, s)
  | i :: t => (BitVec.ofNat 32 (i.byte.toNat + 256 + 512 * bit i.frameErr + 1024 * bit i.parErr),
      (s.conWith p (fun c => { c with rx := t })).conSync p)

/-- A write to `CON_TXDATA` (R225): queued, or counted in `TX_DROP`. An idle transmitter takes the byte at once. Bytes written with
`TX_EN` 0 are queued and shifted out as others are, onto no line. DESIGN CHOICE, log 87. -/
def State.conSend (s : State) (p : Port) (b : Byte) : State :=
  if !s.flag (.con p) F.CON_STATUS_ROUTED || decide (64 ≤ (s.con p).tx.length) then s.count (.con p) F.CON_CNT_TX_DROP
  else match (s.con p).sending with
    | none => if s.cfgFlag (.con p) F.PAGE_CTRL_EN then s.conWith p (fun c => { c with sending := some (s.conBits p b) })
      else (s.conWith p (fun c => { c with tx := c.tx ++ [b] })).conSync p
    | some _ => (s.conWith p (fun c => { c with tx := c.tx ++ [b] })).conSync p

/-- The transmitter takes its next queued byte with the data bits in force now, or stops where the page is off (R52, R230). -/
def State.conNext (s : State) (p : Port) : State :=
  if s.cfgFlag (.con p) F.PAGE_CTRL_EN then (s.conWith p (fun c => { c with sending := c.tx.head?.map (s.conBits p), tx := c.tx.drop 1 })).conSync p
  else s.conWith p (fun c => { c with sending := none })

/-- CON_TX_DONE (R223, R225). -/
def execConTxDone (p : Port) (s : State) : Host.Outcome State Fault Refusal :=
  .next (if s.portUp p && s.flag (.con p) F.CON_STATUS_ROUTED && (s.con p).sending.isSome then
    s.conNext p else s)

/-- Both FIFOs emptied and the lines idle (R230 `LEVEL`, R231). -/
def State.conEmpty (s : State) (p : Port) : State :=
  ((s.conWith p (fun _ => freshCon)).conSync p).put (.con p) F.CON_STATUS_BREAK 0

/-- The parity safe action (R231): the mux opens and both FIFOs are emptied; the routing conditions stand. -/
def State.conSafe (s : State) (p : Port) : State :=
  (s.muxOpen p ((s.tcp p).routeMode && !(s.tcp p).routeDebug) 5).conEmpty p

/-- The register rewritten: the mux routes again if a condition still holds (R231). -/
def State.conRestore (s : State) (p : Port) : State :=
  if (s.tcp p).routeDebug || (s.tcp p).routeMode then s.muxRoute p (!(s.tcp p).routeDebug) else s

end Sys2Proof.Machine
end

