-- ==== Sys2Proof/Machine/Crc.lean ====
section
/-! DEFINITION. CRC-32 as R139 gives it: polynomial 0x04C1_1DB7 reflected, initial value and final XOR all ones. -/

namespace Sys2Proof.Machine

/-- One bit of the reflected register: 0xEDB8_8320 is the polynomial with its bits reversed. -/
def crcBit (c : Word) : Word := if c.getLsbD 0 then (c >>> 1) ^^^ 0xEDB88320#32 else c >>> 1

/-- One byte taken into the register. -/
def crcByte (c : Word) (b : Byte) : Word :=
  crcBit (crcBit (crcBit (crcBit (crcBit (crcBit (crcBit (crcBit (c ^^^ b.setWidth 32))))))))

/-- Bytes taken into the register. -/
def crcBytes (c : Word) (bs : List Byte) : Word := bs.foldl crcByte c

/-- The register before the first byte. -/
def crcInit : Word := 0xFFFFFFFF#32

/-- The CRC of the bytes taken. -/
def crcFinal (c : Word) : Word := ~~~c

/-- The CRC-32 of a list of bytes. -/
def crc32 (bs : List Byte) : Word := crcFinal (crcBytes crcInit bs)

end Sys2Proof.Machine
end

