-- ==== Sys2Proof/Machine/Drc.lean ====
section
/-! DEFINITION. The attached memory (chapter 16): its contents and error correction, accesses by each class of requester,
training, scrubbing and the masters' windows. -/

namespace Sys2Proof.Machine

/-! ### Contents (R410, R414, R416) -/

/-- The cell that an address selects (R410): byte of the burst and column [11:0], bank group [13:12], bank [15:14], row [32:16], rank
from [33]. The fields of an address move down where ×16 devices have two bank groups and 8 Gb devices 16 row bits.
DESIGN CHOICE, log 13. -/
def DramGeom.cell (g : DramGeom) (a : Nat) : Nat :=
  let groups := if g.x16 then 2 else 4
  let rows := if g.d16 then 2 ^ 17 else 2 ^ 16
  let b := a / 2 ^ 12
  let r := b / groups / 4
  a % 2 ^ 12 + 2 ^ 12 * (b % groups) + 2 ^ 14 * (b / groups % 4) + 2 ^ 16 * (r % rows) + 2 ^ 33 * (r / rows)

/-- The word of cells that an 8-byte word of addresses selects. -/
def Dram.word (d : Dram) (w : Nat) : Nat := d.geom.cell (8 * w) / 8

/-- What an unlisted cell of the DRAM reads as: zero once cold training has zeroed the memory, else an open value.
DESIGN CHOICE, log 12. DESIGN CHOICE, log 13. -/
def Dram.dflt (d : Dram) (a : Nat) : Byte := if d.zeroed then 0 else Config.freeDram d.epoch a

/-- The byte at an address. -/
def Dram.byte (d : Dram) (a : Nat) : Byte := Sparse.get d.dflt d.mem (d.geom.cell a)

/-- A byte stored. -/
def Dram.putByte (d : Dram) (a : Nat) (b : Byte) : Dram := { d with mem := Sparse.put d.dflt d.mem (d.geom.cell a) b }

/-- Consecutive bytes stored from an address. -/
def Dram.putBytes (d : Dram) (a : Nat) : List Byte → Dram
  | [] => d
  | b :: t => (d.putByte a b).putBytes (a + 1) t

/-- The error recorded for an 8-byte word: whether it is uncorrectable. -/
def Dram.errAt (d : Dram) (w : Nat) : Option Bool := (d.errs.find? (fun e => e.1 == d.word w)).map (·.2)

/-- A word's error ended. -/
def Dram.mend (d : Dram) (w : Nat) : Dram := { d with errs := d.errs.filter (fun e => e.1 != d.word w) }

/-- The DRAM changed. -/
def State.dramWith (s : State) (f : Dram → Dram) : State := { s with dram := f s.dram }

/-- `DRC_STATUS.STATE`. -/
def State.drcSt (s : State) : Nat := s.get .drc F.DRC_STATUS_STATE

/-- `DRC_STATUS.STATE` set. -/
def State.setDrcSt (s : State) (v : Nat) : State := s.put .drc F.DRC_STATUS_STATE v

/-- The DRAM is trained and reachable: its domain out of reset, its clocks running (R411). -/
def State.dramUp (s : State) : Bool := s.drcSt == 4 && s.clockOn .drc && !s.domainInRst .drc && !s.drcPend

/-- New requests are served: with the page disabled they wait (R52). -/
def State.dramServes (s : State) : Bool := s.pageOn .drc

/-- The installed size in bytes, as `SIZE_MIB` reports it (R411). -/
def State.dramSize (s : State) : Nat := 2 ^ 20 * s.get .drc F.DRC_STATUS_SIZE_MIB

/-- Two ranks are fitted: `STRAP_DRAM` reads 0b10 (R36). -/
def State.ranks2 (s : State) : Bool := s.get .glb F.GLB_STRAPS_DRAM == 2

/-- The installed size in MiB that `DRC_GEOM` and the strapped ranks give (R409). -/
def State.geomMib (s : State) : Nat :=
  let perRank := (if s.cfgFlag .drc F.DRC_GEOM_X16 then 2048 else 4096) * (if s.cfgFlag .drc F.DRC_GEOM_D16GB then 2 else 1)
  perRank * (if s.ranks2 then 2 else 1)

/-! ### Error reports (R418) -/

/-- An error found at a word by a class: counted, recorded and reported. DEDUCED, log 73. -/
def State.eccNote (s : State) (w : Nat) (unc : Bool) (cls : Nat) : State :=
  let s1 := s.count .drc (if unc then F.DRC_ECC_CNT_UE else F.DRC_ECC_CNT_CE)
  let keep := !unc && s1.flag .drc F.DRC_ECC_ADDR_HI_UNCORR
  let s2 := if keep then s1 else
    (((s1.put .drc F.DRC_ECC_ADDR_LO_ADDR_LO (8 * w)).put .drc F.DRC_ECC_ADDR_HI_ADDR_HI (8 * w / 2 ^ 32)).setFlag .drc
      F.DRC_ECC_ADDR_HI_UNCORR unc).put .drc F.DRC_ECC_ADDR_HI_CLASS cls
  let d := 2 ^ 31 * bit (cls == 4) + w % 2 ^ 31
  let now := s.uptime.toNat / 10 ^ 7 + 1
  if unc then s2.raise .drc evEccUncorrected 0 d
  else if s.dram.ceAt = now then s2
  else (s2.dramWith (fun x => { x with ceAt := now })).raise .drc evEccCorrected 0 d

/-- One word read by a class: a single-bit error is corrected, and written back where `wb` says so. The flag tells of an
uncorrectable error. -/
def State.eccRead (s : State) (w : Nat) (cls : Nat) (wb : Bool) : Bool × State :=
  match s.dram.errAt w with
  | none => (false, s)
  | some false => (false, let s1 := s.eccNote w false cls; if wb then s1.dramWith (·.mend w) else s1)
  | some true => (true, s.eccNote w true cls)

/-- The indices of the 8-byte words that `n` bytes from an address touch. -/
def wordsOf (a n : Nat) : List Nat := (List.range ((a + n + 7) / 8 - a / 8)).map (fun i => a / 8 + i)

/-- The outcome of a DRAM access: the byte address of the first word that failed, if any. -/
abbrev Failed := Option Nat

/-- Bytes read (R416): uncorrectable words are returned as read. -/
def State.dramRead (s : State) (a n : Nat) (cls : Nat) : List Byte × Failed × State :=
  let bs := (List.range n).map (fun i => s.dram.byte (a + i))
  let r := (wordsOf a n).foldl
    (fun (acc : Failed × State) w =>
      let (bad, s1) := acc.2.eccRead w cls (s.cfgFlag .drc F.DRC_CFG_CORRECT_WB)
      (if bad ∧ acc.1 = none then some (8 * w) else acc.1, s1)) (none, s)
  (bs, r.1, r.2)

/-- Bytes of a write that fall in a word, with their address. -/
def inWord (a : Nat) (bs : List Byte) (w : Nat) : Nat × List Byte :=
  let lo := max a (8 * w)
  (lo, (bs.drop (lo - a)).take (8 * w + 8 - lo))

/-- One word of a write (R416): a partial write of a word with an uncorrectable error is not performed. -/
def State.dramWriteWord (s : State) (a : Nat) (bs : List Byte) (w : Nat) (cls : Nat) : Bool × State :=
  let (lo, part) := inWord a bs w
  if part.length = 8 then (false, s.dramWith (fun d => (d.putBytes lo part).mend w))
  else match s.eccRead w cls true with
    | (true, s1) => (true, s1)
    | (false, s1) => (false, s1.dramWith (·.putBytes lo part))

/-- Bytes written (R416). -/
def State.dramWrite (s : State) (a : Nat) (bs : List Byte) (cls : Nat) : Failed × State :=
  (wordsOf a bs.length).foldl
    (fun (acc : Failed × State) w =>
      let (bad, s1) := acc.2.dramWriteWord a bs w cls
      (if bad ∧ acc.1 = none then some (8 * w) else acc.1, s1)) (none, s)

/-! ### Host agents (R356, R411, R412) -/

/-- The class of a host agent. -/
def hostClass (u : Up) : Nat := u.val + 1

/-- A host agent's request lies inside its window and the installed size. -/
def State.hostInWin (s : State) (u : Up) (a n : Nat) : Bool :=
  let base := 2 ^ 20 * s.cfg .drc (F.DRC_HAu_WIN_BASE u.val)
  let limit := 2 ^ 20 * s.cfg .drc (F.DRC_HAu_WIN_LIMIT u.val)
  decide (base ≤ a ∧ a + n ≤ limit ∧ a + n ≤ s.dramSize)

/-- A host agent's read: status code, bytes, first failing address (R356). DEDUCED, log 69. -/
def State.hostRead (s : State) (u : Up) (a n : Nat) : Byte × List Byte × Failed × State :=
  if !s.dramUp then (1, List.replicate n 0, some a, s)
  else if !s.hostInWin u a n then (2, List.replicate n 0, some a, s.count .drc F.DRC_CNT_RANGE)
  else match s.dramRead a n (hostClass u) with
    | (bs, none, s1) => (0, bs, none, s1)
    | (bs, some f, s1) => (3, bs, some f, s1)

/-- A host agent's write: status code, first failing address. DEDUCED, log 69. -/
def State.hostWrite (s : State) (u : Up) (a : Nat) (bs : List Byte) : Byte × Failed × State :=
  if !s.dramUp then (1, some a, s)
  else if !s.hostInWin u a bs.length then (2, some a, s.count .drc F.DRC_CNT_RANGE)
  else match s.dramWrite a bs (hostClass u) with
    | (none, s1) => (0, none, s1)
    | (some f, s1) => (3, some f, s1)

/-! ### Master windows (R413, R424) -/

/-- A window's commands end at once: a register of it mismatches (R424). -/
def State.winBad (s : State) (w : WinIx) : Bool :=
  s.badIn .drc (0x80 + 0x10 * w.val) (0x8C + 0x10 * w.val) || s.badIn .drc (0x100 + 0x100 * w.val) (0x200 + 0x100 * w.val)

/-- Words of a window's command: 0 and values above 64 act as 64. -/
def State.winCount (s : State) (w : WinIx) : Nat :=
  let c := s.get .drc (F.DRC_WINw_CTRL_COUNT w.val)
  if c = 0 ∨ 64 < c then 64 else c

/-- A window's byte address. -/
def State.winAddr (s : State) (w : WinIx) : Nat :=
  s.get .drc (F.DRC_WINw_ADDR_LO_ADDR_LO w.val) / 4 * 4 + 2 ^ 32 * s.get .drc (F.DRC_WINw_ADDR_HI_ADDR_HI w.val)

/-- The bits of a window's commands as they read while it runs. -/
def State.winBits (s : State) (w : WinIx) (load store : Bool) : State :=
  (s.setFlag .drc (F.DRC_WINw_CTRL_LOAD w.val) load).setFlag .drc (F.DRC_WINw_CTRL_STORE w.val) store

/-- A window's changed command. -/
def State.setWin (s : State) (w : WinIx) (c : Option WinCmd) : State := s.dramWith (fun d => { d with win := d.win.set w c })

/-- `LOAD` or `STORE` written: a command that cannot start ends at once with `RESULT` 1. DEDUCED, log 73. -/
def State.winStart (s : State) (w : WinIx) (store : Bool) : State :=
  match s.dram.win[w] with
  | some c => s.setWin w (some { c with busySeen := true })
  | none =>
    let overs (s : State) : State := (s.winBits w false false).put .drc (F.DRC_WINw_CTRL_RESULT w.val) 1
    if !s.dramServes then (s.winBits w false false).put .drc (F.DRC_WINw_CTRL_RESULT w.val) 3
    else if s.winBad w then overs s
    else if !s.dramUp then overs (s.setFault .drc 9)
    else if s.dramSize < s.winAddr w + 4 * s.winCount w then overs ((s.setFault .drc 8).count .drc F.DRC_CNT_RANGE)
    else (s.winBits w (!store) store).setWin w (some ⟨store, s.winAddr w, s.winCount w, false⟩)

/-- The words of a window's buffer as bytes. -/
def State.winBytes (s : State) (w : WinIx) (n : Nat) : List Byte :=
  (List.range n).flatMap (fun i =>
    let v := s.get .drc (F.DRC_WINw_BUF_DATA (64 * w.val + i))
    [BitVec.ofNat 8 v, BitVec.ofNat 8 (v / 2 ^ 8), BitVec.ofNat 8 (v / 2 ^ 16), BitVec.ofNat 8 (v / 2 ^ 24)])

/-- Bytes put in a window's buffer. -/
def State.winFill (s : State) (w : WinIx) (n : Nat) (bs : List Byte) : State :=
  (List.range n).foldl (fun s i => s.putRw .drc (F.DRC_WINw_BUF_DATA (64 * w.val + i)) (leNat bs (4 * i) 4)) s

/-- The first `n` words of a window's command carried out, at the address it was started with; the flag tells of an uncorrectable
error. -/
def State.winAct (s : State) (w : WinIx) (c : WinCmd) (n : Nat) : Bool × State :=
  if c.store then
    let (f, s1) := s.dramWrite c.addr (s.winBytes w n) 3
    (f.isSome, s1)
  else
    let (bs, f, s1) := s.dramRead c.addr (4 * n) 3
    (f.isSome, s1.winFill w n bs)

/-- WINDOW_COMMAND_END. DEDUCED, log 73. -/
def execWindowCommandEnd (w : WinIx) (s : State) : Host.Outcome State Fault Refusal :=
  match s.dram.win[w] with
  | none => .next s
  | some c =>
    if !s.dramUp then .next s else
    let (bad, s1) := s.winAct w c c.count
    let s2 := if bad then s1.setFault .drc 10 else s1
    .next (((s2.setWin w none).winBits w false false).put .drc (F.DRC_WINw_CTRL_RESULT w.val)
      (if c.busySeen then 3 else if bad then 2 else 0))

/-- A running window command ended part way with a `RESULT`: 4 by a DRAM controller reset (R422), 1 by a register of the window that
mismatches (R424). Some of its words have been moved, how many is open. DEDUCED, log 73. -/
def State.winCut (s : State) (w : WinIx) (result : Nat) : State :=
  match s.dram.win[w] with
  | none => s
  | some c =>
    let (v, s0) := s.free
    let (_, s1) := s0.winAct w c (v.toNat % (c.count + 1))
    ((s1.setWin w none).winBits w false false).put .drc (F.DRC_WINw_CTRL_RESULT w.val) result

/-- A register of the DRC page comes to mismatch: the command of its window ends at once (R424). DEDUCED, log 73. -/
def State.winSafe (s : State) : State :=
  let cut (s : State) (w : WinIx) : State := if s.winBad w then s.winCut w 1 else s
  cut (cut s 0) 1

/-! ### Training (R414) -/

/-- Leave for a training asked. -/
def State.drcAsk (s : State) : State := (s.setDrcSt 2).askLeave .ddr

/-- The DRAM is trained: `READY` and the installed size. Its words are found by the geometry it was trained with (R410). -/
def State.drcReady (s : State) : State :=
  (((s.dramWith (fun d => { d with geom := ⟨s.cfgFlag .drc F.DRC_GEOM_X16, s.cfgFlag .drc F.DRC_GEOM_D16GB⟩ })).setDrcSt 4).put .drc F.DRC_STATUS_SIZE_MIB s.geomMib).put .glb F.GLB_READY_DRAM_READY 1

/-- A warm training writes the pattern area of each rank back with valid check bits (R414). DESIGN CHOICE, log 13. -/
def Dram.rewritten (d : Dram) : Dram := { d with errs := d.errs.filter (fun e => !Config.patternWord e.1) }

/-- TRAINING_END: the lanes that failed, beside those that failed before it. DESIGN CHOICE, log 13. -/
def execTrainingEnd (laneFail : BitVec 5) (s : State) : Host.Outcome State Fault Refusal :=
  if s.drcSt ≠ 3 ∨ !s.clockOn .drc ∨ s.domainInRst .drc then .next s else
  let s1 := (((s.count .drc F.DRC_CNT_TRAINS).opDone .ddr).put .drc F.DRC_STATUS_LANE_FAIL
    (s.get .drc F.DRC_STATUS_LANE_FAIL ||| laneFail.toNat))
  if laneFail ≠ 0 then
    if s.dram.again then .next ((s1.dramWith (fun d => { d with again := false, warm := false })).setDrcSt 5)
    else .next ((s1.dramWith (fun d => { d with again := true })).drcAsk)
  else
    let s2 := s1.dramWith (fun d => { d with again := false })
    if s.dram.warm then .next (s2.dramWith Dram.rewritten).drcReady
    else
      let s3 := s2.dramWith (fun d => { d with mem := [], zeroed := false, errs := [], epoch := d.epoch + 1 })
      if s.cfgFlag .drc F.DRC_CFG_INIT_ZERO then .next (s3.setDrcSt 7) else .next s3.drcReady

/-- ZEROING_END. -/
def execZeroingEnd (s : State) : Host.Outcome State Fault Refusal :=
  if s.drcSt = 7 then .next (s.dramWith (fun d => { d with mem := [], zeroed := true, errs := [] })).drcReady else .next s

/-- REFRESH: issued to each rank; no requester sees it (R415). -/
def execRefresh (s : State) : Host.Outcome State Fault Refusal := .next s

/-- ZQ_CALIBRATION: issued to each rank; no requester sees it (R415). -/
def execZqCalibration (s : State) : Host.Outcome State Fault Refusal := .next s

/-! ### Scrubbing (R417, R418) -/

/-- A bit error arises in a word: a second error in a word makes it uncorrectable, and the data of such a word are then open.
DEDUCED, log 73. -/
def State.eccUpset (s : State) (e : EccUpset) : State :=
  if e.double || (s.dram.errAt e.word).isSome then
    let (lo, s1) := s.free
    let (hi, s2) := s1.free
    s2.dramWith (fun d =>
      let d1 := d.mend e.word
      { d1.putBytes (8 * e.word) ((List.range 4).map (fun i => BitVec.ofNat 8 (lo.toNat >>> (8 * i))) ++
          (List.range 4).map (fun i => BitVec.ofNat 8 (hi.toNat >>> (8 * i)))) with errs := (d.word e.word, true) :: d1.errs })
  else s.dramWith (fun d => { d with errs := (d.word e.word, false) :: d.errs })

/-- The scrubber reads its next 64 bytes. -/
def State.scrubStep (s : State) : State :=
  let pos := s.dram.scrubPos
  let s1 := (wordsOf pos 64).foldl (fun s w => (s.eccRead w 4 true).2) s
  let next := pos + 64
  let wrap := decide (s.dramSize ≤ next)
  let s2 := s1.dramWith (fun d => { d with scrubPos := if wrap then 0 else next })
  (if wrap then s2.count .drc F.DRC_SCRUB_PASSES else s2).put .drc F.DRC_SCRUB_POS_MIB (if wrap then 0 else next / 2 ^ 20)

/-- A request of another class than the scrubber's is queued (R419): a window's command, a host's request or its bulk command.
DESIGN CHOICE, log 88. -/
def State.dramQueued (s : State) : Bool :=
  s.dram.win.any (·.isSome) || s.mgfSt.any (fun m => m.ep2Cmd.isSome || match m.exec with
    | none => false
    | some e => !e.finished && (e.breq == 5 || e.breq == 6))

/-- SCRUB: an error may have arisen since the last step; the scrubber is served where no other class has requests, or where it is more
than 1 s late (R419). DEDUCED, log 73. DESIGN CHOICE, log 88. -/
def execScrub (turn : ScrubTurn) (s : State) : Host.Outcome State Fault Refusal :=
  if !s.dramUp || !s.dramServes then .next s else
  let s1 := match turn.upset with
    | none => s
    | some e => if 8 * e.word + 8 ≤ s.dramSize then s.eccUpset e else s
  if s.cfg .drc F.DRC_CFG_SCRUB_HOURS = 0 || s.dramQueued && !turn.late then .next s1 else .next s1.scrubStep

/-- The scrubber restarted at address 0 (R417). -/
def State.scrubRestart (s : State) : State := (s.dramWith (fun d => { d with scrubPos := 0 })).put .drc F.DRC_SCRUB_POS_MIB 0

/-- DDR_ALERT. -/
def execDdrAlert (s : State) : Host.Outcome State Fault Refusal :=
  if s.dramUp then .next (s.count .drc F.DRC_CNT_ALERTS) else .next s

end Sys2Proof.Machine
end

