-- ==== Sys2Proof/Machine/MgfCore.lean ====
section
/-! DEFINITION. The management function as the hubs above it touch it (chapter 14): its instances, resets, suspend and notices;
and the semaphores its resets free (R94). -/

namespace Sys2Proof.Machine

/-! ### Semaphores freed by hardware (R94) -/

/-- The semaphore is held by an identity. -/
def State.semHeldBy (s : State) (n : Sem) (i : Ident) : Bool :=
  s.flag .glb (F.GLB_SEMn_OWNER_HELD n.val) && s.get .glb (F.GLB_SEMn_OWNER_OWNER_ID n.val) == i.owner.val &&
    s.get .glb (F.GLB_SEMn_OWNER_ORIGIN n.val) == i.origin.val

/-- A semaphore made free. -/
def State.semFree (s : State) (n : Sem) : State := s.wr (PageId.base .glb + 0x108 + 16 * n.val) 0

/-- A held semaphore freed by hardware, with its event (R94, R109). -/
def State.semFreeBy (s : State) (n : Sem) (e : Ev) : State :=
  let d := n.val + s.get .glb (F.GLB_SEMn_OWNER_OWNER_ID n.val) * 32 + s.get .glb (F.GLB_SEMn_OWNER_ORIGIN n.val) * 256
  (s.semFree n).raise .mgt e 0 d

/-- Every semaphore that satisfies a test freed as orphaned. -/
def State.semOrphan (s : State) (test : State → Sem → Bool) : State :=
  (List.finRange 32).foldl (fun s n => if test s n then s.semFreeBy n evSemOrphaned else s) s

/-- The semaphores of a host agent freed: its presentation detached or took a bus reset. DEDUCED, log 28. -/
def State.semOrphanHost (s : State) (u : Up) : State :=
  s.semOrphan (fun s n => s.semHeldBy n (s.identOf (hostReq u)))

/-! ### The management function -/

/-- The management function of a presentation. -/
def State.mgf (s : State) (u : Up) : MgfSt := s.mgfSt[u]

/-- The management function of a presentation changed. -/
def State.mgfWith (s : State) (u : Up) (f : MgfSt → MgfSt) : State := { s with mgfSt := s.mgfSt.set u (f s.mgfSt[u]) }

/-- The SuperSpeed instance is in service (R348). -/
def State.ssServes (s : State) (u : Up) : Bool := s.flag .mgf (F.MGF_Uu_STATUS_SS_IN_SERVICE u.val)

/-- An instance of the management function. -/
def MgfSt.inst (m : MgfSt) (ss : Bool) : MgfInst := if ss then m.ss else m.u2

/-- An instance changed. -/
def State.mgfInstWith (s : State) (u : Up) (ss : Bool) (f : MgfInst → MgfInst) : State :=
  s.mgfWith u (fun m => if ss then { m with ss := f m.ss } else { m with u2 := f m.u2 })

/-- `MGF_Uu_STATUS` follows the instance in service and the buffers (R369). -/
def State.mgfSync (s : State) (u : Up) : State :=
  let m := s.mgf u
  let i := m.inst (s.ssServes u)
  let s1 := (s.put .mgf (F.MGF_Uu_STATUS_ADDRESS u.val) i.address.toNat).put .mgf (F.MGF_Uu_STATUS_STATE u.val)
    (if i.suspended then 3 else i.st.val)
  let s2 := (s1.setFlag .mgf (F.MGF_Uu_STATUS_WAKE_EN u.val) i.remoteWake).setFlag .mgf (F.MGF_Uu_STATUS_CTRL_BUSY u.val) m.exec.isSome
  (s2.setFlag .mgf (F.MGF_Uu_STATUS_EP2_BUSY u.val) m.ep2Cmd.isSome).setFlag .mgf (F.MGF_Uu_STATUS_EP3_FULL u.val) (m.ep3Len != 0)

/-- The queue of a host agent (R120). -/
def hostQueue (u : Up) : QueueIx := ⟨u.val + 2, by omega⟩

/-- The queue of a host agent holds a record that meets the priority condition of R365. -/
def State.noticeDue (s : State) (u : Up) : Bool :=
  match (s.queue (hostQueue u)).topLevel with
  | none => false
  | some l => decide (s.notifyPri u ≤ l.val)

/-- EP1–EP3 emptied: a complete bulk command runs to its end with its status block discarded, as does one whose response
stands in the EP3 buffer (R360, R361, R367). The flag tells whether a status block is discarded. -/
def State.emptyEps (s : State) (u : Up) : Bool × State :=
  let m := s.mgf u
  let resp := m.ep3Len != 0
  let s1 := s.mgfWith u (fun m =>
    { m with ep2Len := 0, ep2Cmd := m.ep2Cmd.map (fun c => { c with lost := true }), ep3Len := 0, ep3Pos := 0, noticeOut := false })
  (m.ep2Cmd.isSome || resp, if resp then s1.put .mgf (F.MGF_Uu_BULK_LOST u.val) 1 else s1)

/-- Toggles and sequence numbers of EP1–EP3 set to zero and their halts cleared. -/
def State.clearSeqs (s : State) (u : Up) : State :=
  (s.mgfWith u (fun m => { m with seq := Vector.replicate 3 0 })).put .mgf (F.MGF_Uu_STATUS_HALT u.val) 0

/-- The stage of a control transfer that a reset meets (R370): 3 where a vendor request executes. Which stage of a transfer goes on
otherwise no command says: a free value. DESIGN CHOICE, log 87. -/
def State.stageMet (s : State) (u : Up) : Nat × State :=
  match (s.mgf u).exec with
  | some _ => (3, s)
  | none => let r := s.free; (r.1.toNat % 4, r.2)

/-- A reset of an instance of the management function (R360, R361, R370). -/
def State.fnReset (s : State) (u : Up) (ss : Bool) (kind : Nat) : State :=
  let s1 := s.mgfInstWith u ss (fun _ => freshMgfInst)
  if s.ssServes u == ss then
    let (met, s1) := s1.stageMet u
    let s1 := s1.mgfWith u (fun m => { m with exec := m.exec.map (fun e => { e with lost := true }), wakeDue := false,
                                              nrdy := Vector.replicate 4 false })
    let (lost, s2) := s1.emptyEps u
    let s3 := ((s2.clearSeqs u).count .mgf (F.MGF_Uu_CNT_RESETS u.val)).semOrphanHost u
    let s4 := s3.setFlag .mgf (F.MGF_Uu_STATUS_NOTICE_PENDING u.val) (s3.noticeDue u)
    (s4.mgfSync u).raisePres .mgf u evBusReset u.val (bit ss + 2 * kind + 8 * met + 32 * bit lost)
  else s1.mgfSync u

/-- An instance suspends or resumes with the bus above it. -/
def State.fnSuspend (s : State) (u : Up) (ss b : Bool) : State :=
  (s.mgfInstWith u ss (fun i => { i with suspended := b })).mgfSync u

end Sys2Proof.Machine
end

