-- ==== Sys2Proof/Machine/Usb2Hub.lean ====
section
/-! DEFINITION. USB 2.0 hub contexts and their ports (R266–R278, R284–R296): reset, suspend, resume and remote wake of
contexts, the states of a port, port power, and the hub-class requests. -/

namespace Sys2Proof.Machine

/-! ### Contexts -/

/-- The compatibility instance that a plate context is (R266: instance 2k + c). -/
def ctxInst (k : Plate) (c : Fin 2) : Inst := ⟨2 * k.val + c.val, by omega⟩

/-- An instance is attached (R432). -/
def State.instAttached (s : State) (i : Inst) : Bool := s.flag .cpt (fldBit F.CPT_STATUS_ATTACHED i.val)

/-- The presentation an instance belongs to (R425). -/
def State.instUp (s : State) (i : Inst) : Up := if (s.cfg .cpt F.CPT_CFG_UP_SEL).testBit i.val then 1 else 0

/-- The direct presentation is in force on presentation `u` (R426). -/
def State.isDirect (s : State) (u : Up) : Bool :=
  if u = 0 then s.flag .cpt F.CPT_STATUS_DIRECT_U0 else s.flag .cpt F.CPT_STATUS_DIRECT_U1

/-- The presentation a context is part of, while it is presented (R266, R325, R426). -/
def State.ctxUp (s : State) (hc : HubCtx) : Option Up :=
  match hc with
  | .plate k c =>
    if s.compat then (if s.instAttached (ctxInst k c) then some (s.instUp (ctxInst k c)) else none)
    else if s.isFlat c then none else some c
  | .pres u => if s.compat && s.isDirect u then none else some u

/-- The plate of a context is in reset. -/
def State.ctxHeld (s : State) (hc : HubCtx) : Bool :=
  match hc with
  | .plate k _ => s.plateInRst k
  | .pres _ => false

/-- The presentation is attached (R135). -/
def State.presAttached (s : State) (u : Up) : Bool := s.flag .prs (F.PRS_Uu_STATUS_ATTACHED u.val)

/-- The context is active: the core runs, it is presented on an attached upstream port, and its plate is out of reset. -/
def State.ctxActive (s : State) (hc : HubCtx) : Bool :=
  s.coreUp && !s.ctxHeld hc && match s.ctxUp hc with
    | none => false
    | some u => s.presAttached u

/-- The U2H page of a context's plate is enabled (R52); the contexts of a presentation have none. -/
def State.ctxPageOn (s : State) (hc : HubCtx) : Bool :=
  match hc with
  | .plate k _ => s.pageOn (.u2h k)
  | .pres _ => true

/-- The context hears its upstream segment: active, not suspended, its page enabled. DEDUCED, log 59. -/
def State.ctxHears (s : State) (hc : HubCtx) : Bool := s.ctxActive hc && !(s.hub hc).suspended && s.ctxPageOn hc

/-- The ports that a context stores a power bit and a view for. -/
def State.ctxPorts (s : State) (hc : HubCtx) : List Port :=
  match hc with
  | .plate k c => if s.compat then instPorts (ctxInst k c) else platePorts k
  | .pres u => if !s.compat && s.isFlat u then allPorts else []

/-- The contexts directly beneath a root context. -/
def State.beneath (s : State) (u : Up) : List HubCtx :=
  if s.compat then
    (List.finRange 8).filterMap (fun i : Inst =>
      if s.instExists i && s.instUp i == u then some (.plate ⟨i.val / 2, by omega⟩ ⟨i.val % 2, by omega⟩) else none)
  else if s.isFlat u then [] else allPlates.map (fun k => HubCtx.plate k u)

/-- An RC bit of 0xF0 of the instance a context is, set in compatibility mode (R429). -/
def State.cptSeen (s : State) (hc : HubCtx) (b : Nat) : State :=
  match hc with
  | .plate k c =>
    if s.compat then s.setCptByte (ctxInst k c) 0xF0 (s.cptByte (ctxInst k c) 0xF0 ||| 2 ^ b) else s
  | .pres _ => s

/-- A SUSPEND or RESUME record of a plate context (R295); root and flat contexts have no page to raise one on. DEDUCED, log 58. -/
def State.ctxRecord (s : State) (hc : HubCtx) (e : Ev) (detail : Nat) : State :=
  match hc, s.ctxUp hc with
  | .plate k _, some u => s.raisePres (.u2h k) u e k.val (detail + 2 ^ 31)
  | _, _ => s

/-- RESUME of a context with its cause. DEDUCED, log 58. -/
def State.ctxResumeRecord (s : State) (hc : HubCtx) (cause : Nat) : State :=
  s.ctxRecord hc evResume (cause + 16 * (hubSide hc).val)

/-- `RESUME_MERGED` of the plate a context lies on. -/
def State.countMerged (s : State) (hc : HubCtx) : State :=
  match hc with
  | .plate k _ => s.count (.u2h k) F.U2H_CNT_RESUME_MERGED
  | .pres _ => s

/-! ### Port power (R275–R277, R437) -/

/-- VBUS follows the host's power bits: opened with cause 1 where no bit lets it be on, leave asked where one does. -/
def State.hostPower (s : State) (p : Port) : State :=
  if s.hostAllows p then s.askTurnOn p else s.vbsOpen p 1

/-- A hold of a context's power bits for a port cleared. -/
def State.dropHold2 (s : State) (p : Port) (c : Fin 2) : State :=
  s.u2pWith p (fun u => { u with hold2 := u.hold2 &&& ~~~(1#2 <<< c.val) })

/-- Ports in the same gang (R437): all eight of a ganged instance, else the port alone. -/
def State.gang (s : State) (p : Port) : List Port :=
  if s.compat && (s.cptRun (instOf p) 6).testBit 2 then instPorts (instOf p) else [p]

/-- The owner's bit is 1 again: a powered-off port returns (R275). -/
def State.powerReturn (s : State) (p : Port) : State :=
  if s.u2St p = 1 then
    let s1 := s.hostPower p
    if s1.ccAttached p then (if s1.usbUsable p then s1.setU2 p (if s1.u2Barred p then 3 else 2) else s1.setU2 p 0)
    else s1.setU2 p 2
  else s.hostPower p

/-- `SetPortFeature(PORT_POWER)` on a port of a context: it sets the bit of every port of the gang, and acts on the gang's ports that the
context owns (R268, R437). DEDUCED, log 57. -/
def State.setHostPower (s : State) (hc : HubCtx) (p : Port) : State :=
  let c := hubSide hc
  let s1 := if s.compat then s.cptWith (instOf p) (fun c => { c with gangClr := 0 }) else s
  (s1.gang p).foldl (fun s q =>
    let s2 := (s.setPowerBit q c true).dropHold2 q c
    if s.ownsPort hc q then s2.powerReturn q else s2) s1

/-- A port of the owner powered off: POWERED_OFF, and VBUS as the host's bits say. -/
def State.powerOffPort (s : State) (p : Port) : State :=
  let s1 := if s.u2St p = 9 ∨ (1 < s.u2St p) then s.u2Gone p 1 else s
  (s1.u2Eval p).hostPower p

/-- `ClearPortFeature(PORT_POWER)` on a port of a context; a gang waits for all its ports (R437). -/
def State.clearHostPower (s : State) (hc : HubCtx) (p : Port) : State :=
  let c := hubSide hc
  let off (s : State) (q : Port) : State :=
    let s1 := (s.setPowerBit q c false).dropHold2 q c
    if s.ownsPort hc q then s1.powerOffPort q else s1
  if (s.gang p).length = 1 then off s p else
    let i := instOf p
    let m := (s.cpt[i]).gangClr ||| (1#8 <<< (p.val % 8))
    if m = 0xFF then (s.gang p).foldl off (s.cptWith i (fun c => { c with gangClr := 0 }))
    else s.cptWith i (fun c => { c with gangClr := m })

/-! ### Reset of a context (R276) -/

/-- The power bit and change bits a context stores for a port cleared; an owned port is powered off, with VBUS held for
`PWR_HOLD` where the bit governs it (R276). -/
def State.ctxResetPort (s : State) (hc : HubCtx) (p : Port) : State :=
  let c := hubSide hc
  let on := s.powerBit p c || (s.u2p p).hold2.getLsbD c.val
  let hold := on && s.cfg (.u2h (plateOf p)) F.U2H_TIMING_PWR_HOLD != 0 && (s.compat || s.cfgFlag (.u2h (plateOf p)) F.U2H_CFG_HOST_VBUS)
  let s1 := (s.setPowerBit p c false).u2pWith p (fun u =>
    { u with hold2 := if hold then u.hold2 ||| (1#2 <<< c.val) else u.hold2 &&& ~~~(1#2 <<< c.val),
             chg := u.chg.set c 0, rstView := u.rstView &&& ~~~(1#2 <<< c.val) })
  if s1.ownsPort hc p then s1.powerOffPort p else s1

/-- A root-level hub that is no longer configured ends the time that `FB_DELAY` counts (R343). -/
def State.fbForget (s : State) (hc : HubCtx) : State :=
  match hc with
  | .pres u => s.presWith u (fun x => { x with fbMet := false })
  | .plate _ _ => s

/-- One context returned to the default state (R276). -/
def State.ctxResetOne (s : State) (hc : HubCtx) (speed : Fin 3) : State :=
  let s1 := if (s.hub hc).suspended then s.ctxResumeRecord hc 4 else s
  let s2 := (s1.hubWith hc (fun _ => { freshHubCtx with speed := speed, st := 1 })).fbForget hc
  let s3 := (s.ctxPorts hc).foldl (fun s p => s.ctxResetPort hc p) s2
  let s4 := match hc with
    | .plate k c =>
      let s5 := s3.count (.u2h k) F.U2H_CNT_CTX_RESETS
      if s.compat then s5.cptWith (ctxInst k c) (fun x => { x with gangClr := 0 }) else s5
    | .pres u => if s.isFlat u && !s.compat then allPlates.foldl (fun s k => s.count (.u2h k) F.U2H_CNT_CTX_RESETS) s3 else s3
  s4.cptSeen hc 1

/-- A reset of a context; a root context's resets every context beneath it and the management function (R267, R276, R360). -/
def State.ctxReset (s : State) (hc : HubCtx) (speed : Fin 3) : State :=
  let s1 := s.ctxResetOne hc speed
  match hc with
  | .plate _ _ => s1
  | .pres u =>
    let s2 := (s1.beneath u).foldl (fun s h => if s.ctxActive h then s.ctxResetOne h speed else s) s1
    if s.compat then s2 else s2.fnReset u false 0

/-- CONTEXT_RESET: the flag says whether the upstream chirp gave a high-speed segment; an internal segment has the speed of the
root's. DEDUCED, log 28. -/
def execContextReset (hc : HubCtx) (hs : Bool) (s : State) : Host.Outcome State Fault Refusal :=
  if !s.ctxActive hc then .next s else
  let speed : Fin 3 := match hc with
    | .pres _ => if hs then 2 else 1
    | .plate _ c => if s.compat then (match s.ctxUp hc with
        | some u => if s.isDirect u then (if hs then 2 else 1) else (s.hub (.pres u)).speed
        | none => 0) else (s.hub (.pres c)).speed
  .next (s.ctxReset hc speed)

/-- PWR_HOLD_END: the holds of a context end; the flag selects the SuperSpeed power bits (R276, R306). -/
def execPwrHoldEnd (hc : HubCtx) (ss : Bool) (s : State) : Host.Outcome State Fault Refusal :=
  let c := hubSide hc
  .next ((s.ctxPorts hc).foldl (fun s p =>
    let held := if ss then (s.u2p p).holdS.getLsbD c.val else (s.u2p p).hold2.getLsbD c.val
    if !held then s else
    let s1 := s.u2pWith p (fun u =>
      if ss then { u with holdS := u.holdS &&& ~~~(1#2 <<< c.val) } else { u with hold2 := u.hold2 &&& ~~~(1#2 <<< c.val) })
    if s1.hostAllows p then s1 else s1.vbsOpen p 1) s)

/-! ### Suspend, resume and remote wake (R284–R288) -/

/-- The function and the contexts of a presentation that follow a context's suspend state. -/
def State.fnFollows (s : State) (hc : HubCtx) (b : Bool) : State :=
  match hc with
  | .pres u => if s.compat then s else s.fnSuspend u false b
  | .plate _ _ => s

/-- CONTEXT_SUSPEND. -/
def execContextSuspend (hc : HubCtx) (s : State) : Host.Outcome State Fault Refusal :=
  if !s.ctxActive hc || (s.hub hc).suspended then .next s else
  let s1 := s.hubWith hc (fun h => { h with suspended := true, drivesK := false, woke := false })
  .next (((s1.cptSeen hc 3).fnFollows hc true).ctxRecord hc evSuspend (4 * (hubSide hc).val))

/-- A port starts to drive resume K; the second flag says that its end sets the change bit. -/
def State.startResume (s : State) (p : Port) (fromL1 : Bool) (cause : Fin 5) (sets : Bool) : State :=
  (s.u2pWith p (fun u => { u with fromL1 := fromL1, resumeCause := cause, resumeSets := sets })).setU2 p 7

/-- A context that may signal a wake: suspended with remote wake enabled, its page on (R286, R52). -/
def State.ctxMayWake (s : State) (hc : HubCtx) : Bool :=
  s.ctxActive hc && (s.hub hc).suspended && (s.hub hc).remoteWake && s.ctxPageOn hc

/-- The port, if one is named, whose device's K a context would have propagated (R286). -/
def State.wakesOn (s : State) (hc : HubCtx) (device : Option Port) : Option Port :=
  device.filter (fun p =>
    s.ownerCtx p == some hc && s.portUp p && 5 ≤ s.u2St p && s.u2St p ≤ 8 && s.ctxMayWake hc && s.pageOn (.u2h (plateOf p)) &&
      !(s.u2St p == 8 && !s.flag (.u2p p) F.U2P_STATUS_L1_RWE))

/-- Host K and the K of a device that has not been propagated meet in one resume (R288): merged once, in the record of the port that
resumes, or else of the context. DEDUCED, log 58. -/
def State.mergeDevice (s : State) (hc : HubCtx) (p : Port) : State :=
  let s1 := s.count (.u2h (plateOf p)) F.U2H_CNT_RESUME_MERGED
  if s.u2St p = 6 then s1.startResume p false 3 true
  else if s.u2St p = 8 then s1.startResume p true 3 true
  else s1.ctxResumeRecord hc 3

/-- A suspended context resumed by K on its upstream segment; `device` names a port where a device's K stands that the context has
not begun to propagate, and `met` says that the context's own K has met no K of a host. DEDUCED, log 58. -/
def State.ctxResumeOne (s : State) (hc : HubCtx) (device : Option Port) (met : Bool) : State :=
  let h := s.hub hc
  if !h.suspended || !s.ctxActive hc then s else
  let s1 := (s.hubWith hc (fun h => { h with suspended := false, drivesK := false, woke := false, upK := true })).cptSeen hc 4
  let s2 := s1.fnFollows hc false
  if h.woke then (if h.drivesK && met then (s2.countMerged hc).ctxResumeRecord hc 3 else s2)
  else match s.wakesOn hc device with
    | some p => s2.mergeDevice hc p
    | none => s2.ctxResumeRecord hc 0

/-- A context resumed; the K is repeated to every context beneath it (R284). -/
def State.ctxResume (s : State) (hc : HubCtx) (device : Option Port) : State :=
  let s1 := s.ctxResumeOne hc device true
  match hc with
  | .plate _ _ => s1
  | .pres u => (s.beneath u).foldl (fun t h => t.ctxResumeOne h device (!(s.hub hc).woke)) s1

/-- CONTEXT_RESUME, with the K of a device that meets it (R288). -/
def execContextResume (at_ : ResumeAt) (s : State) : Host.Outcome State Fault Refusal :=
  if !s.ctxActive at_.ctx || !(s.hub at_.ctx).suspended then .next s else .next (s.ctxResume at_.ctx at_.device)

/-- A context drives K on its upstream segment (R286). -/
def State.ctxDriveK (s : State) (hc : HubCtx) : State :=
  if (s.hub hc).woke then s
  else (s.hubWith hc (fun h => { h with drivesK := true, woke := true })).ctxResumeRecord hc 2

/-- The root drives K: the other contexts beneath it resume with it (R286, R288 example). -/
def State.rootWake (s : State) (u : Up) : State :=
  if !s.ctxMayWake (.pres u) then s else
  let s1 := s.ctxDriveK (.pres u)
  (s1.beneath u).foldl (fun s h => if (s.hub h).woke then s else s.ctxResumeOne h none false) s1

/-- A wake propagated by a context, tier by tier (R286, R342). -/
def State.propagate (s : State) (hc : HubCtx) : State :=
  if !s.ctxMayWake hc then s else
  match hc with
  | .pres u => s.rootWake u
  | .plate _ _ =>
    let s1 := s.ctxDriveK hc
    match s.ctxUp hc with
    | some u => if s.compat && s.isDirect u then s1 else s1.rootWake u
    | none => s1

/-- Host and device meet in one resume of a port: merged once (R288). -/
def State.mergeResume (s : State) (p : Port) : State :=
  if (s.u2p p).resumeCause = 3 then s
  else (s.u2pWith p (fun u => { u with resumeCause := 3, resumeSets := true })).count (.u2h (plateOf p)) F.U2H_CNT_RESUME_MERGED

/-- A device's K on an owned port that resumes the port (R286, R287); `upK`: host K stands on the upstream segment (R288). -/
def State.wakePort (s : State) (p : Port) (upK : Bool) : State :=
  match s.u2St p with
  | 6 => if upK then (s.startResume p false 3 true).count (.u2h (plateOf p)) F.U2H_CNT_RESUME_MERGED else s.startResume p false 2 true
  | 8 => if s.flag (.u2p p) F.U2P_STATUS_L1_RWE then s.startResume p true 2 true
         else s.count (.u2h (plateOf p)) F.U2H_CNT_WAKE_BLOCKED
  | 7 =>
    if (s.u2p p).fromL1 && !s.flag (.u2p p) F.U2P_STATUS_L1_RWE then s.count (.u2h (plateOf p)) F.U2H_CNT_WAKE_BLOCKED
    else if (s.u2p p).resumeCause = 1 then s.mergeResume p else s
  | _ => s

/-- REMOTE_WAKE. -/
def execRemoteWake (p : Port) (s : State) : Host.Outcome State Fault Refusal :=
  match s.ownerCtx p with
  | none => .next s
  | some hc =>
    let st := s.u2St p
    if !s.portUp p || st < 5 || 8 < st || !s.ctxActive hc then .next s
    else if !(s.hub hc).suspended then .next (s.wakePort p (s.hub hc).upK)
    else if s.ctxMayWake hc && s.pageOn (.u2h (plateOf p)) then
      if st = 8 ∧ !s.flag (.u2p p) F.U2P_STATUS_L1_RWE then .next (s.wakePort p false) else .next ((s.wakePort p false).propagate hc)
    else .next (s.count (.u2h (plateOf p)) F.U2H_CNT_WAKE_BLOCKED)

/-- WAKE_PROPAGATION_END. -/
def execWakePropagationEnd (hc : HubCtx) (s : State) : Host.Outcome State Fault Refusal :=
  .next (s.hubWith hc (fun h => { h with drivesK := false }))

/-! ### Port state changes by the device -/

/-- The view index of the owner, as the records name it. -/
def State.ctxBit (s : State) (p : Port) : Nat :=
  match s.ownerSide p with
  | none => 0
  | some c => c.val

/-- CONNECT: a port owned by none rests in DISCONNECTED (R272). -/
def execConnect (p : Port) (low : Bool) (s : State) : Host.Outcome State Fault Refusal :=
  if !s.portUp p || s.u2St p != 2 || s.u2Barred p || s.curOwner p == 0 then .next s else
  let s1 := s.u2pWith p (fun u => { u with connected := true, lowSpeed := low })
  .next ((s1.addChg p cConnection).setU2 p 3)

/-- DISCONNECT. -/
def execDisconnect (p : Port) (s : State) : Host.Outcome State Fault Refusal :=
  if s.portUp p && (s.u2p p).connected && 3 ≤ s.u2St p && s.u2St p ≤ 8 then .next (s.u2Disconnect p) else .next s

/-- BABBLE. -/
def execBabble (p : Port) (s : State) : Host.Outcome State Fault Refusal :=
  if !s.portUp p || s.u2St p != 5 || (s.ownerCtx p).isNone then .next s
  else .next (((s.u2Disable p).addChg p cEnable).countErr (.u2p p) p F.U2P_CNT_BABBLE)

/-- A port reset started: SE0 is driven (R274, R288). DEDUCED, log 58. -/
def State.startReset (s : State) (p : Port) : State :=
  let st := s.u2St p
  let s1 := if 6 ≤ st ∧ st ≤ 8 then
      s.raisePort (.u2p p) p evResume (4 + 8 * bit (st == 8 || (s.u2p p).fromL1) + 16 * s.ctxBit p)
    else s
  let s2 := s1.u2pWith p (fun u => { u with chirped := false, fromL1 := false, lpm := none })
  ((s2.put (.u2p p) F.U2P_STATUS_L1_RWE 0).count (.u2p p) F.U2P_CNT_RESETS).setU2 p 4

/-- The upstream segment a port serves is high-speed: its owner context's, or the graver's host engine. -/
def State.chirpAllowed (s : State) (p : Port) : Bool :=
  !s.cfgFlag (.u2p p) F.U2P_CFG_HS_DISABLE && match s.ownerCtx p with
    | some hc => (s.hub hc).speed == 2
    | none => s.curOwner p == 3

/-- CHIRP_K. -/
def execChirpK (p : Port) (s : State) : Host.Outcome State Fault Refusal :=
  if s.portUp p && s.u2St p == 4 && s.chirpAllowed p && !(s.u2p p).lowSpeed then .next (s.u2pWith p (fun u => { u with chirped := true }))
  else .next s

/-- A view that owes `C_PORT_RESET` takes it (R268). -/
def State.payView (s : State) (p : Port) (c : Fin 2) : State :=
  if (s.u2p p).rstView.getLsbD c.val then
    s.u2pWith p (fun u => { u with chg := u.chg.set c (u.chg[c] ||| cReset), rstView := u.rstView &&& ~~~(1#2 <<< c.val) })
  else s

/-- PORT_RESET_END: the reset that runs on the port ends (R274), or `RESET_TIME` after a request in the view of a context that does
not own the port (R268). -/
def execPortResetEnd (which : PortResetOver) (s : State) : Host.Outcome State Fault Refusal :=
  match which with
  | .view p c => .next (s.payView p c)
  | .run p =>
    let u := s.u2p p
    if s.u2St p ≠ 4 then .next s else
    let sp := if u.chirped then 3 else if u.lowSpeed then 1 else 2
    .next (((s.put (.u2p p) F.U2P_STATUS_SPEED sp).addChg p cReset).setU2 p 5)

/-- RESUME_END. -/
def execResumeEnd (p : Port) (s : State) : Host.Outcome State Fault Refusal :=
  let u := s.u2p p
  if s.u2St p ≠ 7 ∨ u.fromL1 then .next s else
  let s1 := if u.resumeSets then s.addChg p cSuspend else s
  .next ((s1.setU2 p 5).raisePort (.u2p p) p evResume (u.resumeCause.val + 16 * s.ctxBit p))

/-- L1_EXIT_END. -/
def execL1ExitEnd (p : Port) (s : State) : Host.Outcome State Fault Refusal :=
  let u := s.u2p p
  if s.u2St p ≠ 7 ∨ !u.fromL1 then .next s else
  let s1 := (((s.put (.u2p p) F.U2P_STATUS_L1_RWE 0).u2pWith p (fun u => { u with fromL1 := false })).setU2 p 5)
  if u.resumeSets then
    .next ((s1.addChg p cL1).raisePort (.u2p p) p evResume (u.resumeCause.val + 8 + 16 * s.ctxBit p))
  else .next s1

/-! ### Hub-class requests (R289–R291) -/

/-- A request that names port `n` of a context: no answer from a context that does not hear, Request Error for a bad port
number, else what the device port or the internal port does. DEDUCED, log 59. -/
def State.portRequest (s : State) (hc : HubCtx) (n : Nat) (dev : Port → Bool → State) (internal : State) : State :=
  if !s.ctxHears hc then s.reply .silent
  else if n = 0 ∨ s.hubPorts hc < n then s.reply .stall
  else match s.hubPort hc n with
    | some p => dev p (s.ownsPort hc p)
    | none => internal

/-- A request on a context itself. DEDUCED, log 59. -/
def State.ctxRequest (s : State) (hc : HubCtx) (act : State) : State := if s.ctxHears hc then act else s.reply .silent

/-- An internal port of a root or flat context reports connected (R267, R426, R452). -/
def State.rootConnected (s : State) (u : Up) (n : Nat) : Bool :=
  if s.compat then
    if h : 1 ≤ n ∧ n ≤ 8 then let i : Inst := ⟨n - 1, by omega⟩; s.instExists i && s.instUp i == u && s.instAttached i else false
  else if s.isFlat u then true
  else if h : 1 ≤ n ∧ n ≤ 4 then
    !(s.cfg .hlt F.HLT_PLATE_ISO_ISO).testBit (n - 1)
  else true

/-- The context whose root port a request names. -/
def ctxPres : HubCtx → Up
  | .pres u => u
  | .plate _ c => c

/-- `wPortStatus` of an internal port: connected, enabled and powered at the segment's speed. -/
def State.rootStatus (s : State) (hc : HubCtx) (n : Nat) : Nat :=
  0x100 + (if s.rootConnected (ctxPres hc) n then 3 + 1024 * bit ((s.hub hc).speed == 2) else 0)

/-- Change bits of an internal port. -/
def State.rootChange (s : State) (hc : HubCtx) (n : Nat) : BitVec 16 :=
  if h : 1 ≤ n ∧ n ≤ 8 then ((s.hub hc).rootChg)[n - 1] else 0

/-- Change bits of an internal port changed. -/
def State.rootChgWith (s : State) (hc : HubCtx) (n : Nat) (f : BitVec 16 → BitVec 16) : State :=
  if h : 1 ≤ n ∧ n ≤ 8 then s.hubWith hc (fun x => { x with rootChg := x.rootChg.set (n - 1) (f (x.rootChg)[n - 1]) }) else s

/-- A reset of an internal port: the context or function behind it is reset (R267, R360). -/
def State.rootPortReset (s : State) (hc : HubCtx) (n : Nat) : State :=
  let u := ctxPres hc
  if !s.rootConnected u n then s else
  let s1 := if s.compat then
      (if h : 1 ≤ n ∧ n ≤ 8 then s.ctxResetOne (.plate ⟨(n - 1) / 2, by omega⟩ ⟨(n - 1) % 2, by omega⟩) (s.hub hc).speed else s)
    else if s.isFlat u then s.fnReset u false 1
    else if h : 1 ≤ n ∧ n ≤ 4 then s.ctxResetOne (.plate ⟨n - 1, by omega⟩ u) (s.hub hc).speed
    else s.fnReset u false 1
  s1.rootChgWith hc n (· ||| cReset)

/-- A request for a port whose e-fuse has just tripped fell in the trip's cycle or after it: a free value decides (R292). DESIGN
CHOICE, log 85. -/
def State.tripped (s : State) (p : Port) : Bool × State :=
  if (s.vbs p).tripFresh then (s.free.1.getLsbD 0, s.free.2) else (false, s)

/-- A request that acts on port `n` of a context: one that falls in the cycle of an e-fuse trip has no effect and is answered with
success (R292). DESIGN CHOICE, log 85. -/
def State.portAct (s : State) (hc : HubCtx) (n : Nat) (dev : State → Port → Bool → State) (internal : State) : State :=
  s.portRequest hc n
    (fun p own => let r := s.tripped p; if own && r.1 then r.2.reply .ack else dev r.2 p own) internal

/-- SET_PORT_RESET. -/
def execSetPortReset (hc : HubCtx) (n : Nat) (s : State) : Host.Outcome State Fault Refusal :=
  .next (s.portAct hc n
    (fun s p own =>
      let st := s.u2St p
      (if !own then s.u2pWith p (fun u => { u with rstView := u.rstView ||| (1#2 <<< (hubSide hc).val) })
        else if st = 3 ∨ (5 ≤ st ∧ st ≤ 8) then (if s.u2Barred p then s else s.startReset p) else s).reply .ack)
    ((s.rootPortReset hc n).reply .ack))

/-- SET_PORT_SUSPEND. -/
def execSetPortSuspend (hc : HubCtx) (n : Nat) (s : State) : Host.Outcome State Fault Refusal :=
  .next (s.portAct hc n
    (fun s p own =>
      (if own && s.u2St p == 5 then
        (s.setU2 p 6).raisePort (.u2p p) p evSuspend (1 + 4 * (hubSide hc).val)
      else s).reply .ack)
    (s.reply .ack))

/-- CLEAR_PORT_SUSPEND. -/
def execClearPortSuspend (hc : HubCtx) (n : Nat) (s : State) : Host.Outcome State Fault Refusal :=
  .next (s.portAct hc n
    (fun s p own =>
      (if own && s.u2St p == 6 then s.startResume p false 1 true
        else if own && s.u2St p == 7 && !(s.u2p p).fromL1 && (s.u2p p).resumeCause == 2 then s.mergeResume p
        else s).reply .ack)
    (s.reply .ack))

/-- CLEAR_PORT_ENABLE. -/
def execClearPortEnable (hc : HubCtx) (n : Nat) (s : State) : Host.Outcome State Fault Refusal :=
  .next (s.portAct hc n
    (fun s p own => (if own && 4 ≤ s.u2St p && s.u2St p ≤ 8 then s.u2Disable p else s).reply .ack)
    (s.reply .ack))

/-- SET_PORT_POWER. -/
def execSetPortPower (hc : HubCtx) (n : Nat) (s : State) : Host.Outcome State Fault Refusal :=
  .next (s.portAct hc n (fun s p _ => (s.setHostPower hc p).reply .ack) (s.reply .ack))

/-- CLEAR_PORT_POWER. -/
def execClearPortPower (hc : HubCtx) (n : Nat) (s : State) : Host.Outcome State Fault Refusal :=
  .next (s.portAct hc n (fun s p _ => (s.clearHostPower hc p).reply .ack) (s.reply .ack))

/-- SET_PORT_TEST. DEDUCED, log 59. -/
def execSetPortTest (hc : HubCtx) (n sel : Nat) (s : State) : Host.Outcome State Fault Refusal :=
  .next (s.portAct hc n
    (fun s p own =>
      if !own then s.reply .ack
      else if (s.hub hc).st == 3 && [1, 2, 3, 6].contains (s.u2St p) && 1 ≤ sel && sel ≤ 5 then
        ((s.put (.u2p p) F.U2P_STATUS_TEST_MODE sel).setU2 p 9).reply .ack
      else s.reply .stall)
    (s.reply .stall))

/-- L1 runs on a port: `LPM_EN`, which acts as 0 in compatibility mode, and `L1_EN` (R287, R436). -/
def State.l1On (s : State) (p : Port) : Bool :=
  !s.compat && s.cfgFlag (.u2h (plateOf p)) F.U2H_CFG_LPM_EN && s.cfgFlag (.u2p p) F.U2P_CFG_L1_EN

/-- SET_AND_TEST_PORT_L1: the status follows with the device's answer, or is 0x03 at once. -/
def execSetAndTestPortL1 (hc : HubCtx) (n : Nat) (_addr : BitVec 7) (hird : BitVec 4) (rwe : Bool) (s : State) :
    Host.Outcome State Fault Refusal :=
  .next (s.portAct hc n
    (fun s p own =>
      if !own then s.reply .ack
      else if s.u2St p = 5 ∧ 2 ≤ s.get (.u2p p) F.U2P_STATUS_SPEED then
        (if s.l1On p then (s.u2pWith p (fun u => { u with lpm := some (hird, rwe) })).reply .waits else s.reply (.bytes [3]))
      else s.reply .stall)
    (if s.rootConnected (ctxPres hc) n then s.reply (.bytes [3]) else s.reply .stall))

/-- LPM_ANSWER. DEDUCED, log 58. -/
def execLpmAnswer (p : Port) (ans : LpmAnswer) (s : State) : Host.Outcome State Fault Refusal :=
  match (s.u2p p).lpm with
  | none => .next s
  | some (hird, rwe) =>
    let s1 := s.u2pWith p (fun u => { u with lpm := none })
    let pg := PageId.u2p p
    match ans with
    | .ack =>
      let s2 := ((s1.put pg F.U2P_STATUS_HIRD hird.toNat).setFlag pg F.U2P_STATUS_L1_RWE rwe).count pg F.U2P_LPM_CNT_L1_ENTRIES
      .next (((s2.setU2 p 8).raisePort pg p evSuspend (3 + 4 * s.ctxBit p)).reply (.bytes [0]))
    | .nyet => .next ((s1.count pg F.U2P_LPM_CNT_L1_NYET).reply (.bytes [2]))
    | .stall => .next (s1.reply (.bytes [3]))
    | .none => .next ((s1.count pg F.U2P_LPM_CNT_L1_TIMEOUT).reply (.bytes [4]))

/-- CLEAR_PORT_L1. -/
def execClearPortL1 (hc : HubCtx) (n : Nat) (s : State) : Host.Outcome State Fault Refusal :=
  .next (s.portAct hc n
    (fun s p own =>
      (if own && s.u2St p == 8 then s.startResume p true 1 false
        else if own && s.u2St p == 7 && (s.u2p p).fromL1 && (s.u2p p).resumeCause == 2 then s.mergeResume p
        else s).reply .ack)
    (s.reply .ack))

/-- The change bit a `C_PORT` selector names (R290). -/
def changeOf (sel : Nat) : Option (BitVec 16) :=
  if 16 ≤ sel ∧ sel ≤ 20 then some (1#16 <<< (sel - 16)) else if sel = 23 then some cL1 else none

/-- CLEAR_CHANGE_BIT. -/
def execClearChangeBit (hc : HubCtx) (n sel : Nat) (s : State) : Host.Outcome State Fault Refusal :=
  match changeOf sel with
  | none => .next (s.ctxRequest hc (s.reply .stall))
  | some b =>
    let c := hubSide hc
    .next (s.portAct hc n
      (fun s p _ => (s.u2pWith p (fun u => { u with chg := u.chg.set c (u.chg[c] &&& ~~~b) })).reply .ack)
      ((s.rootChgWith hc n (· &&& ~~~b)).reply .ack))

/-- Bytes of a number, low byte first. -/
def leBytes (n v : Nat) : List Byte := (List.range n).map (fun i => BitVec.ofNat 8 (v >>> (8 * i)))

/-- The status and change words of port `n` of a context. -/
def State.viewOf (s : State) (hc : HubCtx) (n : Nat) : Nat × Nat :=
  match s.hubPort hc n with
  | some p => s.portView hc p
  | none => (s.rootStatus hc n, (s.rootChange hc n).toNat)

/-- GET_PORT_STATUS. -/
def execGetPortStatus (hc : HubCtx) (n : Nat) (s : State) : Host.Outcome State Fault Refusal :=
  let a := s.reply (.bytes (leBytes 2 (s.viewOf hc n).1 ++ leBytes 2 (s.viewOf hc n).2))
  .next (s.portRequest hc n (fun _ _ => a) a)

/-- A root context, whose downstream ports lead only to internal devices. -/
def State.isRoot (s : State) (hc : HubCtx) : Bool :=
  match hc with
  | .pres u => s.compat || !s.isFlat u
  | .plate _ _ => false

/-- Port `n` of a context is non-removable (R267, R289, R347, R429 `NONREM`). -/
def State.nonRemovable (s : State) (hc : HubCtx) (n : Nat) : Bool :=
  match s.hubPort hc n with
  | none => true
  | some p => !s.cfgFlag (.u2p p) F.U2P_CFG_REMOVABLE || (s.compat && (s.cptRun (instOf p) 9).testBit (p.val % 8))

/-- `wHubCharacteristics` (R289, R436). -/
def State.hubChars (s : State) (hc : HubCtx) : Nat :=
  match hc with
  | .plate k c =>
    if s.compat then
      let b := s.cptRun (ctxInst k c) 6
      bit (!b.testBit 2) + 4 * bit (b.testBit 4) + 8 * bit (!b.testBit 3)
    else 9
  | .pres _ => 9 + 4 * bit (s.isRoot hc)

/-- The hub descriptor (R289): every field the engine fills; `bHubContrCurrent` is the instance's in compatibility mode, else a
value the spec does not state. PRESUMED, log 60. DESIGN CHOICE, log 61. -/
def State.hubDescriptor (s : State) (hc : HubCtx) : List Byte × State :=
  let n := s.hubPorts hc
  let len := n / 8 + 1
  let rem := (List.range (n + 1)).foldl (fun m i => if i ≠ 0 ∧ s.nonRemovable hc i then m + 2 ^ i else m) 0
  let (cur, s1) : Byte × State := match hc with
    | .plate k c => if s.compat then (BitVec.ofNat 8 (s.cptRun (ctxInst k c) 0xB), s) else (s.free.1.truncate 8, s.free.2)
    | .pres _ => (s.free.1.truncate 8, s.free.2)
  ([BitVec.ofNat 8 (7 + 2 * len), 0x29, BitVec.ofNat 8 n] ++ leBytes 2 (s.hubChars hc) ++ [50, cur] ++ leBytes len rem ++
    List.replicate len 0xFF, s1)

/-- The hub offers single-TT and multi-TT alternate settings (R330, R436). -/
def State.offersMtt (s : State) (hc : HubCtx) : Bool :=
  (s.hub hc).speed == 2 && !s.isRoot hc && match hc with
    | .plate k c => !s.compat || (s.cptRun (ctxInst k c) 6).testBit 1
    | .pres _ => true

/-- SET_INTERFACE. -/
def execSetInterface (hc : HubCtx) (alt : Nat) (s : State) : Host.Outcome State Fault Refusal :=
  .next (s.ctxRequest hc
    (if (s.hub hc).st != 3 then s.reply .stall
     else if s.offersMtt hc && alt ≤ 1 then (s.hubWith hc (fun h => { h with multiTt := alt == 1 })).reply .ack
     else if alt = 0 then s.reply .ack
     else s.reply .stall))

/-- SetConfiguration on a hub context (R289). -/
def State.hubConfigure (s : State) (hc : HubCtx) (cfg : Nat) : State :=
  s.ctxRequest hc
    (if (s.hub hc).st.val < 2 ∨ 1 < cfg then s.reply .stall
     else (((if cfg = 0 then s.fbForget hc else s).hubWith hc (fun h =>
       { h with st := if cfg = 0 then 2 else 3, multiTt := false })).cptSeen hc 2).reply .ack)

/-- The status-change bitmap of a hub with `n` ports: bit p for a port with a change (R289). -/
def changeMap (n : Nat) (changed : Nat → Bool) : Nat := (List.range (n + 1)).foldl (fun m i => if i ≠ 0 ∧ changed i then m + 2 ^ i else m) 0

/-- An IN on the status-change endpoint of a USB 2.0 hub. -/
def State.hubPoll (s : State) (hc : HubCtx) : State :=
  let n := s.hubPorts hc
  let m := changeMap n (fun i => (s.viewOf hc i).2 != 0)
  s.ctxRequest hc
    (if (s.hub hc).st != 3 then s.reply .silent
     else if m = 0 then s.reply .nak else s.reply (.bytes (leBytes (n / 8 + 1) m)))

/-! ### Repeating (R269, R291, R339, R449) -/

/-- Payload bytes counted on a plate (R449). -/
def State.countU2 (s : State) (k : Plate) (n : Nat) : State :=
  let v := s.get .hlt (F.HLT_Pk_U2_BYTES_BYTES k.val) + 2 ^ 32 * s.get .hlt (F.HLT_Pk_U2_BYTES_HI_BYTES k.val) + n
  (s.put .hlt (F.HLT_Pk_U2_BYTES_BYTES k.val) v).put .hlt (F.HLT_Pk_U2_BYTES_HI_BYTES k.val) (v / 2 ^ 32)

/-- A port of a context that traffic of a full-speed segment is repeated to: full-speed packets to full-speed ports, low-speed packets
preceded by PRE to low-speed ports (R270). -/
def State.repeatsFull (s : State) (hc : HubCtx) (pre : Bool) (p : Port) : Bool :=
  s.ownsPort hc p && s.u2St p == 5 && s.get (.u2p p) F.U2P_STATUS_SPEED == (if pre then 1 else 2)

/-- A port of a context that high-speed traffic is repeated to. -/
def State.repeatsTo (s : State) (hc : HubCtx) (p : Port) : Bool :=
  s.ownsPort hc p && ((s.u2St p == 5 && s.get (.u2p p) F.U2P_STATUS_SPEED == 3) ||
    (s.u2St p == 9 && s.get (.u2p p) F.U2P_STATUS_TEST_MODE == 5))

/-- The contexts that carry a packet of a context's upstream segment to its ports. -/
def State.carriers (s : State) (hc : HubCtx) : List HubCtx :=
  match hc with
  | .plate _ _ => [hc]
  | .pres u => if !s.compat && s.isFlat u then [hc] else (s.beneath u).filter (fun h => s.ctxHears h)

/-- The ports a downstream packet of a context reaches: those that one of the contexts that carry it repeats to. -/
def State.reached (s : State) (hc : HubCtx) (hits : HubCtx → Port → Bool) : List Port :=
  (s.carriers hc).flatMap (fun h => (s.ctxPorts h).filter (fun p => hits h p && s.pageOn (.u2h (plateOf p))))

/-- A downstream packet repeated to the ports it reaches, its payload counted on each plate. -/
def State.repeatDown (s : State) (ps : List Port) (payload : Nat) : State :=
  (allPlates.foldl (fun s k => if ps.any (fun p => plateOf p == k) then s.countU2 k payload else s) s).reply (.repeated ps none)

/-- A port whose upstream packets its context repeats: at high speed from a high-speed port, on a full-speed segment from any (R269, R270). -/
def State.repeatsUp (s : State) (hc : HubCtx) (p : Port) : Bool :=
  ((s.hub hc).speed == 2 && s.repeatsTo hc p) ||
    ((s.hub hc).speed == 1 && (s.repeatsFull hc false p || s.repeatsFull hc true p) && s.pageOn (.u2h (plateOf p)))

end Sys2Proof.Machine
end

