-- ==== Sys2Proof/Machine/PrsMove.lean ====
section
/-! DEFINITION. Requests for a move of port ownership, and the wake that ends a batch of moves (R332, R338, R342, R346, R428). -/

namespace Sys2Proof.Machine

/-- `PRS_OWNERn` mismatches: the port takes part in no move (R346). -/
def State.ownerBad (s : State) (p : Port) : Bool := s.badFound .prs (0x100 + 4 * p.val)

/-- A move of the port is pending. -/
def State.moving (s : State) (p : Port) : Bool := s.flag .prs (F.PRS_OWNERn_MOVING p.val)

/-- The owner that `OWNER` asks for: itself, or in compatibility mode that of R428. -/
def State.ownerDest (s : State) (p : Port) : Nat :=
  let o := s.get .prs (F.PRS_OWNERn_OWNER p.val)
  if s.compat && (o == 1 || o == 2) then
    (if s.instExists (instOf p) then (s.instUp (instOf p)).val + 1 else 0)
  else o

/-- The cause of a pending move set. -/
def State.setMoveCause (s : State) (p : Port) (cause : Fin 5) : State := { s with moveCause := s.moveCause.set p cause }

/-- A pending move is past step 1 of R333, or waits at it (R52). -/
def State.setBegun (s : State) (p : Port) (b : Bool) : State :=
  { s with moveBegun := if b then s.moveBegun ||| (1#64 <<< p.val) else s.moveBegun &&& ~~~(1#64 <<< p.val) }

/-- A move of the batch to presentation `u` is still pending. -/
def State.batchRuns (s : State) (u : Up) : Bool := (s.pres u).batch.any (fun q => s.moving q)

/-- The last move of a failover or failback batch is over: each destination context that is suspended signals one wake, USB 2.0 and
SuperSpeed (R342). -/
def State.batchEnd (s : State) (u : Up) : State :=
  if (s.pres u).batch = [] ∨ s.batchRuns u then s else
  let s1 := (s.pres u).batch.foldl (fun s p =>
    let s2 := match s.ownerCtx p with
      | none => s
      | some hc => s.propagate hc
    match fullOf p with
    | none => s2
    | some f => s2.maskWake f 0) s
  s1.presWith u (fun x => { x with batch := [] })

/-- Both presentations' batches looked at. -/
def State.batchesEnd (s : State) : State := (s.batchEnd 0).batchEnd 1

/-- The pending move of a port cancelled: no view change and no record (R338). `OWNER` returns to the owner in force, from which it differs
only while a move is pending (R332). DEDUCED, log 68. -/
def State.moveCancel (s : State) (p : Port) : State :=
  let s0 := if s.ownerBad p || s.ownerDest p == s.curOwner p then s else s.putRw .prs (F.PRS_OWNERn_OWNER p.val) (s.curOwner p)
  let s1 := (s0.put .prs (F.PRS_OWNERn_MOVING p.val) 0).setBegun p false
  (([0, 1] : List Up).foldl (fun s u => s.presWith u (fun x => { x with batch := x.batch.filter (· ≠ p) })) s1).batchesEnd

/-- The move that `OWNER` asks for requested with a cause: step 1 of R333, which it does not pass while the page is off (R52). Software that
keeps the port where it is, against a failover or failback, clears `FAILED_OVER` (R338). DEDUCED, log 68. -/
def State.moveDecide (s : State) (p : Port) (cause : Fin 5) : State :=
  let dest := s.ownerDest p
  if s.moving p then
    if dest = s.curOwner p then
      (if cause = 0 ∧ (s.moveCause[p] = 1 ∨ s.moveCause[p] = 2) then s.put .prs (F.PRS_OWNERn_FAILED_OVER p.val) 0 else s).moveCancel p
    else s.setMoveCause p cause
  else if dest = s.curOwner p then s
  else ((s.setMoveCause p cause).put .prs (F.PRS_OWNERn_MOVING p.val) 1).setBegun p (s.pageOn .prs)

/-- A move to owner `v` requested (R332, R338); a cause of 0–4 as OWNER_MOVE names it. -/
def State.moveRequest (s : State) (p : Port) (v : Nat) (cause : Fin 5) : State :=
  if s.ownerBad p then s else (s.putRw .prs (F.PRS_OWNERn_OWNER p.val) v).moveDecide p cause

end Sys2Proof.Machine
end

