-- ==== Sys2Proof/Machine/SsHub.lean ====
section
/-! DEFINITION. SuperSpeed hubs and links (R297–R323): training, fallback, recovery, port and context resets, low-power
states, the hub-class requests, and the test modes. -/

namespace Sys2Proof.Machine

/-! ### Contexts and the upstream link -/

/-- The upstream link's state set. -/
def State.setUpState (s : State) (u : Up) (v : Nat) : State := s.put (.ups u) F.UPS_LINK_STATUS_LINK_STATE v

/-- The presentation of a SuperSpeed context. -/
def ssCtxUp : SsCtx → Up
  | .root u => u
  | .plate _ c => c

/-- A plate context of SuperSpeed is enabled (`SSH_CFG`, R321, R324). -/
def State.ssCtxOn (s : State) (k : Plate) (c : Fin 2) : Bool :=
  s.cfgFlag (.ssh k) (if c = 0 then F.SSH_CFG_CTX0_EN else F.SSH_CFG_CTX1_EN) && !s.badFound (.ssh k) 0x40

/-- A plate hub is connected to its root hub: enabled, its clock running, not isolated or in reset. -/
def State.ssPlateOn (s : State) (k : Plate) (c : Fin 2) : Bool :=
  s.ssCtxOn k c && s.clockOn (.ssh k) && !s.domainInRst (.ssh k) && !s.flag .hlt (fldBit F.HLT_PLATE_STATUS_ISOLATED k.val)

/-- A SuperSpeed context hears its host: the presentation's upstream link is in U0 and, for a plate hub, the hub is connected
and its page forwards. -/
def State.ssHears (s : State) (sc : SsCtx) : Bool :=
  s.coreUp && !s.compat && s.presAttached (ssCtxUp sc) && s.upState (ssCtxUp sc) == lkU0 && match sc with
    | .root _ => true
    | .plate k c => s.ssPlateOn k c && s.pageOn (.ssh k)

/-- Ports of a SuperSpeed hub (R297). -/
def ssPorts : SsCtx → Nat
  | .root _ => 5
  | .plate _ _ => 4

/-- The full port behind port `n` of a plate hub. -/
def ssPort (sc : SsCtx) (n : Nat) : Option Full :=
  match sc with
  | .root _ => none
  | .plate k _ => if h : 1 ≤ n ∧ n ≤ 4 then some ⟨4 * k.val + (n - 1), by omega⟩ else none

/-- The context owns a full port (R299). -/
def State.ssOwns (s : State) (sc : SsCtx) (f : Full) : Bool := s.ssSide f == some (ssCtxUp sc)

/-- A request that names port `n` of a SuperSpeed hub. -/
def State.ssRequest (s : State) (sc : SsCtx) (n : Nat) (dev : Full → Bool → State) (root : State) : State :=
  if !s.ssHears sc then s.reply .silent
  else if n = 0 ∨ ssPorts sc < n then s.reply .stall
  else match ssPort sc n with
    | some f => dev f (s.ssOwns sc f)
    | none => root

/-- A request that acts on the owner's port and is answered with success in any case. -/
def State.ssOwned (s : State) (sc : SsCtx) (n : Nat) (act : Full → State) : State :=
  s.ssRequest sc n (fun f own => (if own then act f else s).reply .ack) (s.reply .ack)

/-- Packets discarded from root queues of a plate, counted (R313). DEDUCED, log 65. -/
def State.routeDrop (s : State) (k : Plate) (n : Nat) : State := s.countBy (.ssh k) F.SSH_CNT_ROUTE_DROP n

/-- `MAX_GEN` of an upstream link in force (R446). -/
def State.upMaxGen (s : State) (u : Up) : Nat :=
  if s.get .hlt F.HLT_STATUS_LEVEL = 2 then 0 else s.cfg (.ups u) F.UPS_CFG_MAX_GEN

/-! ### Training (R301–R304) -/

/-- RX_DETECT. -/
def execRxDetect (f : Full) (found : Bool) (s : State) : Host.Outcome State Fault Refusal :=
  if s.link f = lkRxDetect ∧ found then .next (s.setLink f lkPolling) else .next s

/-- A link reaches U0 with a speed: the connect is reported where the port was not connected. -/
def State.ssLinkUp (s : State) (f : Full) (gen2 : Bool) : State :=
  let g := gen2 && s.maxGen f == 1 && !s.flag (.ssp f) F.SSP_STATUS_GEN2_BARRED
  let s1 := (s.setFlag (.ssp f) F.SSP_STATUS_GEN2 g).setLink f lkU0
  let s2 := if (s.ssp f).connected then s1 else (s1.addSsChg f sConnection).maskWake f 0
  let c := match s.ssSide f with
    | none => none
    | some u => some ((s.ssp f).chg[u] &&& sConnection != 0)
  let c' := if (s.ssp f).connected then (s.ssp f).upFresh else c
  (s2.sspWith f (fun x => { x with connected := true, upFresh := c', pollFails := 0, firstPoll := false,
                                   awaits := false, stale := false })).raisePort (.ssp f) (fullPort f) evSsUp
    (bit g + 4 * s.get (.ssp f) F.SSP_STATUS_PAIR2)

/-- LINK_U0: training, Recovery or an exit from U3 ends in U0. -/
def execLinkU0 (f : Full) (gen2 : Bool) (s : State) : Host.Outcome State Fault Refusal :=
  let x := s.ssp f
  if s.link f = lkPolling ∧ x.reset = .none then .next (s.ssLinkUp f gen2)
  else if s.link f = lkRecovery then .next (s.setLink f lkU0)
  else if s.link f = lkU3 ∧ x.exiting ≠ none then
    .next (((s.sspWith f (fun x => { x with exiting := none })).addSsChg f sLinkState).setLink f lkU0)
  else .next s

/-- SuperSpeed given up on a port (R302, first case). -/
def State.ssGiveUp (s : State) (f : Full) : State :=
  let s1 := (s.ssLeave f lkDisabled 0).put (.ssp f) F.SSP_STATUS_SS_ONLY2 1
  (s1.sspWith f (fun x => { x with pollFails := 0 })).raisePort (.ssp f) (fullPort f) evSsFallback 2

/-- POLLING_FAIL; `config`: the link cannot be configured after Polling (R315). -/
def execPollingFail (f : Full) (config : Bool) (s : State) : Host.Outcome State Fault Refusal :=
  if s.link f ≠ lkPolling then .next s else
  let s1 := s.countErr (.ssp f) (fullPort f) F.SSP_CNT_POLL_FAILS
  if config then .next ((s1.addSsChg f sConfigError).ssGiveUp f)
  else if 3 ≤ (s.ssp f).pollFails + 1 then .next (s1.ssGiveUp f)
  else .next ((s1.sspWith f (fun x => { x with pollFails := x.pollFails + 1, firstPoll := false })).setLink f lkRxDetect)

/-! ### Recovery and SS.Inactive (R302, R305, R316) -/

/-- The 1 s window of the RCLK tick that the uptime lies in. -/
def State.second (s : State) : Nat := s.uptime.toNat / 10 ^ 9

/-- The number of error-caused Recovery entries of a window with this one. -/
def windowCount (at_ n now : Nat) : Nat := if at_ = now then n + 1 else 1

/-- `RECOV_LIMIT` in force: 0 acts as 1. -/
def recovLimit (v : Nat) : Nat := if v = 0 then 1 else v

/-- An error-caused Recovery entry of a full port's link; `LINK_ERR` counts it and the header retry sequences before it (R316). -/
def State.ssRecovery (s : State) (f : Full) (symbols crcs retries : Nat) : State :=
  let pg := PageId.ssp f
  let p := fullPort f
  let n := windowCount (s.ssp f).recovAt (s.ssp f).recovWindow s.second
  let s1 := (((((s.countBy pg F.SSP_ERR_SYMBOL symbols).countBy pg F.SSP_ERR_HDR_CRC crcs).countBy pg F.SSP_ERR_LINK_ERR retries).countErr
    pg p F.SSP_ERR_LINK_ERR).countErr
    pg p F.SSP_ERR_RECOV).marginLost f
  let s2 := (s1.sspWith f (fun x => { x with recovAt := s.second, recovWindow := n })).setLink f lkRecovery
  if n ≠ recovLimit (s.cfg pg F.SSP_CFG_RECOV_LIMIT) then s2 else
  let s3 := s2.raisePort pg p evRecoveryLimit (min n 255)
  if s.cfgFlag pg F.SSP_CFG_AUTO_GEN1 && s.flag pg F.SSP_STATUS_GEN2 then
    ((s3.ssDetect f 2).put pg F.SSP_STATUS_GEN2_BARRED 1).raisePort pg p evSsFallback 1
  else s3

/-- An error-caused Recovery entry of an upstream link. -/
def State.upRecovery (s : State) (u : Up) (symbols crcs retries : Nat) : State :=
  let pg := PageId.ups u
  let n := windowCount (s.upLk u).recovAt (s.upLk u).recovWindow s.second
  let s1 := (((s.countBy pg F.UPS_ERR_SYMBOL symbols).countBy pg F.UPS_ERR_HDR_CRC crcs).countBy pg F.UPS_ERR_LINK_ERR (retries + 1)).count pg F.UPS_ERR_RECOV
  let s2 := (s1.upLkWith u (fun l => { l with recovAt := s.second, recovWindow := n })).setUpState u lkRecovery
  if n = recovLimit (s.cfg pg F.UPS_CFG_RECOV_LIMIT) then s2.raisePres pg u evRecoveryLimit u.val (min n 255 + 2 ^ 31) else s2

/-- LINK_RECOVERY, with the symbol errors, header CRC failures and header retry sequences that led to it. -/
def execLinkRecovery (lk : SsLink) (symbols : Nat) (hdrs : HdrErrs) (s : State) : Host.Outcome State Fault Refusal :=
  match lk with
  | .down f => if s.link f ≤ 2 then .next (s.ssRecovery f symbols hdrs.crcs hdrs.retries) else .next s
  | .up u => if s.upState u ≤ 2 then .next (s.upRecovery u symbols hdrs.crcs hdrs.retries) else .next s

/-- SS_INACTIVE. DEDUCED, log 64. -/
def execSsInactive (f : Full) (s : State) : Host.Outcome State Fault Refusal :=
  if s.link f ≠ lkRecovery then .next s else
  let s1 := (s.raisePort (.ssp f) (fullPort f) evSsDown 1).devLost (fullPort f) true
  let s2 := (s1.ssDiscard f (s.ssp f).down.length).sspWith f (fun x => { x with down := [] })
  .next ((s2.addSsChg f sLinkState).setLink f lkInactive)

/-! ### Resets (R307) -/

/-- A warm reset runs: the device stays connected in the view, and the link trains anew. DEDUCED, log 64. -/
def State.ssWarm (s : State) (f : Full) (portReset : Bool) : State :=
  let x := s.ssp f
  let down := x.connected && (s.link f ≤ 3 || s.link f == 8 || s.link f == 9)
  let s0 := s.ssEndCompliance f
  let s1 := if down then s0.raisePort (.ssp f) (fullPort f) evSsDown 2 else s0
  let s2 := ((s1.ssDiscard f x.down.length).marginLost f).count (.ssp f) F.SSP_CNT_WARM_RESETS
  let s3 := s2.sspWith f (fun y =>
    { y with down := [], exiting := none, complianceAuto := false, loopMaster := false, reset := .warm portReset, firstPoll := true })
  ((s3.put (.ssp f) F.SSP_STATUS_GEN2 0).put (.ssp f) F.SSP_STATUS_FORCE_LPM 0).setLink f lkRxDetect

/-- A hot reset runs. -/
def State.ssHot (s : State) (f : Full) : State :=
  (((s.marginLost f).sspWith f (fun y => { y with exiting := none, reset := .hot })).count (.ssp f) F.SSP_CNT_HOT_RESETS).put
    (.ssp f) F.SSP_STATUS_FORCE_LPM 0 |>.setLink f lkHotReset

/-- A view that does not own the port owes a reset change (R299). -/
def State.ssOwe (s : State) (f : Full) (c : Fin 2) (b : Nat) : State :=
  s.sspWith f (fun x => { x with rstView := x.rstView.set c (x.rstView[c] ||| (1#2 <<< b)) })

/-- SS_PORT_RESET; on root port 5 it resets the function (R360). -/
def execSsPortReset (sc : SsCtx) (n : Nat) (s : State) : Host.Outcome State Fault Refusal :=
  .next (s.ssRequest sc n
    (fun f own =>
      (if !own then s.ssOwe f (ssCtxUp sc) 0
       else if s.link f = lkDisabled then s
       else if s.link f = lkU0 then s.ssHot f else s.ssWarm f true).reply .ack)
    ((if n = 5 then s.fnReset (ssCtxUp sc) true 1 else s).reply .ack))

/-- The fallback of R302 cleared. -/
def State.ssClearFallback (s : State) (f : Full) : State :=
  ((s.put (.ssp f) F.SSP_STATUS_SS_ONLY2 0).put (.ssp f) F.SSP_STATUS_GEN2_BARRED 0).sspWith f (fun x => { x with pollFails := 0 })

/-- BH_PORT_RESET. DEDUCED, log 64. -/
def execBhPortReset (sc : SsCtx) (n : Nat) (s : State) : Host.Outcome State Fault Refusal :=
  .next (s.ssRequest sc n
    (fun f own =>
      (if !own then s.ssOwe f (ssCtxUp sc) 1
       else
        let s1 := s.ssClearFallback f
        if s1.link f = lkDisabled then s1.ssEval f else s1.ssWarm f false).reply .ack)
    ((if n = 5 then s.fnReset (ssCtxUp sc) true 1 else s).reply .ack))

/-- A view that does not own the port takes the change bit it owes (R299). -/
def State.ssPayView (s : State) (f : Full) (c : Fin 2) (bh : Bool) : State :=
  let b := bit bh
  if ((s.ssp f).rstView[c]).getLsbD b then
    s.sspWith f (fun x =>
      { x with chg := x.chg.set c (x.chg[c] ||| (if bh then sBhReset else sReset)), rstView := x.rstView.set c (x.rstView[c] &&& ~~~(1#2 <<< b)) })
  else s

/-- SS_RESET_END. -/
def execSsResetEnd (f : Full) (out : ResetOutcome) (s : State) : Host.Outcome State Fault Refusal :=
  let done (s : State) : State := s.sspWith f (fun x => { x with reset := .none })
  match (s.ssp f).reset, out with
  | _, .view c bh => .next (s.ssPayView f c bh)
  | .none, _ => .next s
  | .hot, .u0 _ => .next ((done (s.addSsChg f sReset)).setLink f lkU0)
  | .hot, .escalate => .next (s.ssWarm f true)
  | .hot, .none => .next s
  | .warm b, .u0 gen2 =>
    .next ((done (s.addSsChg f (sBhReset ||| (if b then sReset else 0)))).ssLinkUp f gen2)
  | .warm b, .none =>
    let s1 := s.addSsChg f (sBhReset ||| (if b then sReset else 0))
    let s2 := if (s.ssp f).connected then s1.addSsChg f sConnection else s1
    .next ((done (s2.sspWith f (fun x => { x with connected := false }))).setLink f lkRxDetect)
  | .warm _, .escalate => .next s

/-- A full port's side of a SuperSpeed context reset: the power bit cleared, with VBUS held for `PWR_HOLD` (R306), the view's
change bits cleared, an owned link taken to SS.Disabled with its queues emptied. -/
def State.ssResetPort (s : State) (k : Plate) (c : Fin 2) (j : Fin 4) : State :=
  let f : Full := ⟨4 * k.val + j.val, by omega⟩
  let p := fullPort f
  let sc := SsCtx.plate k c
  let on := (s.ssHub sc).power.getLsbD j.val || (s.u2p p).holdS.getLsbD c.val
  let hold := on && s.cfg (.u2h k) F.U2H_TIMING_PWR_HOLD != 0 && s.cfgFlag (.u2h k) F.U2H_CFG_HOST_VBUS
  let s1 := (s.ssHubWith sc (fun h => { h with power := h.power &&& ~~~(1#4 <<< j.val) })).u2pWith p (fun u =>
    { u with holdS := if hold then u.holdS ||| (1#2 <<< c.val) else u.holdS &&& ~~~(1#2 <<< c.val) })
  let s2 := if s1.ssOwns sc f then
      let up := (s1.ssp f).up.length
      let s3 := (s1.ssDiscard f up).sspWith f (fun x => { x with up := [] })
      (if s3.link f = lkDisabled then s3 else s3.ssLeave f lkDisabled 0).hostPower p
    else s1
  s2.sspWith f (fun x => { x with chg := x.chg.set c 0, rstView := x.rstView.set c 0 })

/-- One SuperSpeed plate context returned to the default state, its queues emptied (R307). -/
def State.ssCtxResetOne (s : State) (k : Plate) (c : Fin 2) : State :=
  let l := s.upLk c
  let n := (l.down[k]).length + (l.up[k]).length
  let s1 := (s.upLkWith c (fun l => { l with down := l.down.set k [], up := l.up.set k [] })).routeDrop k n
  let s2 := (List.finRange 4).foldl (fun s j => s.ssResetPort k c j) s1
  s2.ssHubWith (.plate k c) (fun h => { freshSsCtx with drops := h.drops })

/-- Every SuperSpeed context of a presentation reset, and the function's SuperSpeed instance with a kind (R307, R360). -/
def State.ssPresReset (s : State) (u : Up) (kind : Nat) : State :=
  let s1 := allPlates.foldl (fun s k => s.ssCtxResetOne k u) s
  let s2 := s1.ssHubWith (.root u) (fun h => { freshSsCtx with drops := h.drops })
  (s2.upLkWith u (fun l => { l with wakeExit := false })).fnReset u true kind

/-- UPSTREAM_LINK_TRAINED: a link whose lane PLL is not locked does not train (R16). DESIGN CHOICE, log 81. -/
def execUpstreamLinkTrained (u : Up) (res : UpTrain) (s : State) : Host.Outcome State Fault Refusal :=
  let pg := PageId.ups u
  let up := 2 ^ 31
  if s.upState u = lkRecovery then
    match res with
    | .up _ _ => .next (s.setUpState u lkU0)
    | .fail => .next (((s.raisePres pg u evSsDown u.val (1 + up)).ssPresReset u 0).setUpState u lkRxDetect)
  else if !(s.upState u = lkRxDetect ∨ s.upState u = lkPolling) ∨ s.compat ∨ !s.presAttached u ∨ !s.flag .clk (laneFld (.up u)) then .next s
  else match res with
    | .up gen2 x2 =>
      let g := gen2 && s.upMaxGen u == 1
      let s1 := ((s.setFlag pg F.UPS_LINK_STATUS_GEN2 g).setFlag pg F.UPS_LINK_STATUS_X2 x2).setUpState u lkU0
      let s2 := (s1.upLkWith u (fun l => { l with trainFails := 0 })).raisePres pg u evSsUp u.val (bit g + 2 * bit x2 + up)
      let s3 := if x2 then s2 else s2.raisePres pg u evSsFallback u.val (3 + up)
      .next (if !g && s.upMaxGen u == 1 then s3.raisePres pg u evSsFallback u.val (1 + up) else s3)
    | .fail =>
      if 3 ≤ (s.upLk u).trainFails + 1 then
        .next ((((s.upLkWith u (fun l => { l with trainFails := 0 })).setUpState u lkDisabled).put pg F.UPS_LINK_STATUS_U2_ONLY 1).raisePres
          pg u evSsFallback u.val (2 + up))
      else .next ((s.upLkWith u (fun l => { l with trainFails := l.trainFails + 1 })).setUpState u lkRxDetect)

/-- SS_CONTEXT_RESET: a hot reset returns the upstream link to U0, a warm one trains it anew. -/
def execSsContextReset (u : Up) (warm : Bool) (s : State) : Host.Outcome State Fault Refusal :=
  if s.compat ∨ !s.coreUp ∨ !s.presAttached u ∨ s.upState u = lkDisabled then .next s
  else .next ((s.ssPresReset u (if warm then 3 else 2)).setUpState u (if warm then lkRxDetect else lkU0))

/-! ### Link-state requests and power (R306, R310, R315) -/

/-- RESUME with cause 3 for two exits that merge (R311). DEDUCED, log 64. -/
def State.ssMerged (s : State) (f : Full) : State :=
  match s.ssSide f with
  | none => s
  | some u => s.raisePres (.u2h (fullPlate f)) u evResume (fullPlate f).val (3 + 16 * u.val + 2 ^ 31)

/-- SET_LINK_STATE_U3. -/
def execSetLinkStateU3 (sc : SsCtx) (n : Nat) (s : State) : Host.Outcome State Fault Refusal :=
  .next (s.ssOwned sc n (fun f => if s.link f = lkU0 then (s.marginLost f).setLink f lkU3 else s))

/-- SET_LINK_STATE_U0. -/
def execSetLinkStateU0 (sc : SsCtx) (n : Nat) (s : State) : Host.Outcome State Fault Refusal :=
  .next (s.ssOwned sc n (fun f =>
    if s.link f ≠ lkU3 then s
    else match (s.ssp f).exiting with
      | none => s.sspWith f (fun x => { x with exiting := some true })
      | some true => s
      | some false => (s.sspWith f (fun x => { x with exiting := some true })).ssMerged f))

/-- SET_LINK_STATE_DISABLED. -/
def execSetLinkStateDisabled (sc : SsCtx) (n : Nat) (s : State) : Host.Outcome State Fault Refusal :=
  .next (s.ssOwned sc n (fun f =>
    (s.sspWith f (fun x => { x with hostDisabled := true })).ssEval f))

/-- SET_LINK_STATE_RX_DETECT. -/
def execSetLinkStateRxDetect (sc : SsCtx) (n : Nat) (s : State) : Host.Outcome State Fault Refusal :=
  .next (s.ssOwned sc n (fun f =>
    let s1 := (s.ssClearFallback f).sspWith f (fun x => { x with hostDisabled := false })
    if s1.ssAllowed f then s1.ssDetect f 0 else s1))

/-- A SuperSpeed power bit of a plate context set or cleared, its hold ended. -/
def State.setSsPower (s : State) (k : Plate) (c : Fin 2) (f : Full) (b : Bool) : State :=
  let m := 1#4 <<< (f.val % 4)
  (s.ssHubWith (.plate k c) (fun h => { h with power := if b then h.power ||| m else h.power &&& ~~~m })).u2pWith (fullPort f)
    (fun u => { u with holdS := u.holdS &&& ~~~(1#2 <<< c.val) })

/-- SS_SET_PORT_POWER. -/
def execSsSetPortPower (sc : SsCtx) (n : Nat) (s : State) : Host.Outcome State Fault Refusal :=
  .next (s.ssRequest sc n
    (fun f own =>
      let s1 := s.setSsPower (fullPlate f) (ssCtxUp sc) f true
      (if own then (s1.hostPower (fullPort f)).ssEval f else s1).reply .ack)
    (s.reply .ack))

/-- SS_CLEAR_PORT_POWER. -/
def execSsClearPortPower (sc : SsCtx) (n : Nat) (s : State) : Host.Outcome State Fault Refusal :=
  .next (s.ssRequest sc n
    (fun f own =>
      let s1 := s.setSsPower (fullPlate f) (ssCtxUp sc) f false
      (if own then (s1.ssEval f).hostPower (fullPort f) else s1).reply .ack)
    (s.reply .ack))

/-- SET_PORT_U1_TIMEOUT: 0x80–0xFE acts as 0x7F (R308). -/
def execSetPortU1Timeout (sc : SsCtx) (n : Nat) (v : Byte) (s : State) : Host.Outcome State Fault Refusal :=
  let w := if 0x80 ≤ v.toNat ∧ v.toNat ≤ 0xFE then 0x7F else v.toNat
  .next (s.ssOwned sc n (fun f => s.put (.ssp f) F.SSP_STATUS_U1_TIMEOUT w))

/-- SET_PORT_U2_TIMEOUT: 0x01–0xFE is sent to the device in a U2 Inactivity Timeout LMP (R308). -/
def execSetPortU2Timeout (sc : SsCtx) (n : Nat) (v : Byte) (s : State) : Host.Outcome State Fault Refusal :=
  .next (s.ssOwned sc n (fun f =>
    (s.put (.ssp f) F.SSP_STATUS_U2_TIMEOUT v.toNat).sspWith f (fun x => { x with u2Lmp := if v = 0 ∨ v = 0xFF then x.u2Lmp else some v })))

/-- SET_REMOTE_WAKE_MASK. -/
def execSetRemoteWakeMask (sc : SsCtx) (n : Nat) (v : Byte) (s : State) : Host.Outcome State Fault Refusal :=
  .next (s.ssOwned sc n (fun f => s.put (.ssp f) F.SSP_STATUS_WAKE_MASK (v.toNat % 8)))

/-- SET_FORCE_LINKPM_ACCEPT. -/
def execSetForceLinkpmAccept (sc : SsCtx) (n : Nat) (s : State) : Host.Outcome State Fault Refusal :=
  .next (s.ssOwned sc n (fun f => s.put (.ssp f) F.SSP_STATUS_FORCE_LPM 1))

/-- The part is placed so that a plate hub has no usable nibble: its root hub's depth is 4 (R298). DEDUCED, log 65. -/
def State.noNibble (s : State) (sc : SsCtx) : Bool :=
  match sc with
  | .root _ => false
  | .plate _ c => (s.ssHub (.root c)).depth == some 4

/-- SET_HUB_DEPTH. DEDUCED, log 65. -/
def execSetHubDepth (sc : SsCtx) (depth : Nat) (s : State) : Host.Outcome State Fault Refusal :=
  if !s.ssHears sc then .next (s.reply .silent)
  else if s.noNibble sc then .next (s.reply .stall)
  else if h : depth < 5 then .next ((s.ssHubWith sc (fun x => { x with depth := some ⟨depth, h⟩ })).reply .ack)
  else .next (s.reply .stall)

/-- GET_PORT_ERROR_COUNT. -/
def execGetPortErrorCount (sc : SsCtx) (n : Nat) (s : State) : Host.Outcome State Fault Refusal :=
  .next (s.ssRequest sc n
    (fun f own => s.reply (.bytes (leBytes 2 (if own then s.get (.ssp f) F.SSP_ERR_LINK_ERR else 0))))
    (s.reply (.bytes [0, 0])))

/-- `wPortStatus` of a SuperSpeed port in a context's view (R299, R305). PRESUMED, log 62. -/
def State.ssStatus (s : State) (sc : SsCtx) (f : Full) : Nat :=
  let pw := 512 * bit ((s.ssHub sc).power.getLsbD (f.val % 4))
  if !s.ssOwns sc f then 128 + pw else
  let x := s.ssp f
  let l := s.link f
  let link := if l = lkCompliance ∨ l = lkLoopback ∨ l ≤ 9 then l else 4
  bit x.connected + 2 * bit (decide (l ≤ 3) || l == 8) + 8 * bit (s.overCurrent (fullPort f)) + 16 * bit (x.reset != .none)
    + 32 * link + pw

/-- `wPortStatus` of a port of the root hub (R315). PRESUMED, log 62. -/
def State.ssRootStatus (s : State) (u : Up) (n : Nat) : Nat :=
  let on := if h : 1 ≤ n ∧ n ≤ 4 then s.ssPlateOn ⟨n - 1, by omega⟩ u else true
  512 + (if on then 3 + 32 * s.upState u else 160)

/-- Change bits of a port of the root hub. -/
def State.ssRootChg (s : State) (sc : SsCtx) (n : Nat) : BitVec 16 := if h : 1 ≤ n ∧ n ≤ 5 then ((s.ssHub sc).rootChg)[n - 1] else 0

/-- SS_GET_PORT_STATUS; the extended form adds speed and lane count. -/
def execSsGetPortStatus (sc : SsCtx) (n : Nat) (ext : Bool) (s : State) : Host.Outcome State Fault Refusal :=
  let u := ssCtxUp sc
  .next (s.ssRequest sc n
    (fun f own =>
      let g := if own then s.get (.ssp f) F.SSP_STATUS_GEN2 else 0
      s.reply (.bytes (leBytes 2 (s.ssStatus sc f) ++ leBytes 2 ((s.ssp f).chg[u]).toNat ++ (if ext then leBytes 4 (g * 17) else []))))
    (let g := s.get (.ups u) F.UPS_LINK_STATUS_GEN2
     let x := s.get (.ups u) F.UPS_LINK_STATUS_X2
     s.reply (.bytes (leBytes 2 (s.ssRootStatus u n) ++ leBytes 2 (s.ssRootChg sc n).toNat ++ (if ext then leBytes 4 (g * 17 + x * 0x1100) else [])))))

/-- The change bit a SuperSpeed change selector names (R315). -/
def ssChangeOf (sel : Nat) : Option (BitVec 16) :=
  match sel with
  | 16 => some sConnection
  | 19 => some sOver
  | 20 => some sReset
  | 25 => some sLinkState
  | 26 => some sConfigError
  | 29 => some sBhReset
  | _ => none

/-- SS_CLEAR_CHANGE_BIT; selector 30 clears `FORCE_LINKPM_ACCEPT` (R308). -/
def execSsClearChangeBit (sc : SsCtx) (n sel : Nat) (s : State) : Host.Outcome State Fault Refusal :=
  let c := ssCtxUp sc
  if sel = 30 then .next (s.ssOwned sc n (fun f => s.put (.ssp f) F.SSP_STATUS_FORCE_LPM 0)) else
  match ssChangeOf sel with
  | none => .next (if s.ssHears sc then s.reply .stall else s.reply .silent)
  | some b =>
    .next (s.ssRequest sc n
      (fun f _ => (s.sspWith f (fun x => { x with chg := x.chg.set c (x.chg[c] &&& ~~~b) })).reply .ack)
      ((if h : 1 ≤ n ∧ n ≤ 5 then s.ssHubWith sc (fun x => { x with rootChg := x.rootChg.set (n - 1) ((x.rootChg)[n - 1] &&& ~~~b) })
        else s).reply .ack))

/-! ### Low-power states (R308–R311) -/

/-- A port may initiate U1 or U2 after its idle time. -/
def State.initiates (s : State) (f : Full) (u2 : Bool) : Bool :=
  let t := if u2 then s.get (.ssp f) F.SSP_STATUS_U2_TIMEOUT else s.get (.ssp f) F.SSP_STATUS_U1_TIMEOUT
  s.cfgFlag (.ssp f) F.SSP_CFG_LPM_ALLOW && t != 0 && t != 0xFF && (s.ssp f).down.isEmpty && (s.ssSide f).isSome

/-- A port accepts an LGO_Ux request of its device (R308, R320, R374). -/
def State.accepts (s : State) (f : Full) (u2 : Bool) : Bool :=
  let t := if u2 then s.get (.ssp f) F.SSP_STATUS_U2_TIMEOUT else s.get (.ssp f) F.SSP_STATUS_U1_TIMEOUT
  s.cfgFlag (.ssp f) F.SSP_CFG_LPM_ALLOW && (s.ssSide f).isSome &&
    (s.flag (.ssp f) F.SSP_STATUS_FORCE_LPM || t != 0) && (s.ssp f).down.isEmpty

/-- The upstream link may enter U1 or U2 (R309). -/
def State.upMayRest (s : State) (u : Up) (u2 : Bool) : Bool :=
  let root := s.ssHub (.root u)
  let deep := if u2 then 2 else 1
  (if u2 then root.u2En else root.u1En) && (s.upLk u).up.toList.all List.isEmpty &&
    (List.finRange 16).all (fun f => s.ssSide f != some u || ((s.ssp f).up.isEmpty && decide (deep ≤ s.link f) && decide (s.link f ≤ 6)))

/-- U1_INACTIVITY. DEDUCED, log 64. -/
def execU1Inactivity (lk : SsLink) (u2 : Bool) (s : State) : Host.Outcome State Fault Refusal :=
  let target := if u2 then lkU2 else lkU1
  match lk with
  | .down f => if s.link f < target ∧ s.initiates f u2 then .next (s.setLink f target) else .next s
  | .up u => if s.upState u < target ∧ s.upMayRest u u2 then .next (s.setUpState u target) else .next s

/-- LGO_UX: accepted with the link in the state asked, or rejected. -/
def execLgoUx (lk : SsLink) (u2 : Bool) (s : State) : Host.Outcome State Fault Refusal :=
  let target := if u2 then lkU2 else lkU1
  match lk with
  | .down f =>
    if s.link f ≠ lkU0 then .next (s.reply .silent)
    else if s.accepts f u2 then .next ((s.setLink f target).reply .ack) else .next (s.reply .nak)
  | .up u =>
    if s.upState u ≠ lkU0 then .next (s.reply .silent)
    else if s.upMayRest u u2 then .next ((s.setUpState u target).reply .ack) else .next (s.reply .nak)

/-- A port in U3 whose device drives its exit LFPS returns to U0; a host's request under way is merged (R310, R311). -/
def State.ssExit (s : State) (f : Full) : State :=
  let s1 := if (s.ssp f).exiting = some true then s.ssMerged f else s
  ((s1.sspWith f (fun x => { x with exiting := none })).addSsChg f sLinkState).setLink f lkU0

/-- SS_REMOTE_WAKE. -/
def execSsRemoteWake (f : Full) (s : State) : Host.Outcome State Fault Refusal :=
  match s.ssSide f with
  | none => .next s
  | some u =>
    if s.link f ≠ lkU3 then .next s else
    let s2 := s.ssExit f
    .next (if s.get (.ssp f) F.SSP_STATUS_WAKE_MASK != 0 || !(s.ssHub (.root u)).suspended then s2.upWake u else s2)

/-- Every SuperSpeed context of a presentation suspends or resumes with its upstream link (R310). -/
def State.ssSuspendAll (s : State) (u : Up) (b : Bool) : State :=
  let s1 := allPlates.foldl (fun s k => s.ssHubWith (.plate k u) (fun h => { h with suspended := b })) s
  (s1.ssHubWith (.root u) (fun h => { h with suspended := b })).fnSuspend u true b

/-- LGO_U3. -/
def execLgoU3 (u : Up) (s : State) : Host.Outcome State Fault Refusal :=
  if s.upState u ≤ 2 ∧ !s.compat ∧ s.presAttached u then .next ((s.setUpState u lkU3).ssSuspendAll u true) else .next s

/-- A port whose device drives its LFPS while the upstream link exits at the host's request: its exit proceeds, merged (R311). -/
def State.exitMerge (s : State) (u : Up) (device : Option Full) : State :=
  match device with
  | none => s
  | some f =>
    if s.ssSide f = some u ∧ s.link f = lkU3 then (if (s.ssp f).exiting = some true then s.ssExit f else (s.ssExit f).ssMerged f) else s

/-- UPSTREAM_EXIT_LFPS, with the exit LFPS of a device that meets it (R311). -/
def execUpstreamExitLfps (at_ : ExitAt) (s : State) : Host.Outcome State Fault Refusal :=
  let u := at_.up
  if s.upState u = lkU3 ∧ s.presAttached u then
    .next ((((s.setUpState u lkU0).upLkWith u (fun l => { l with wakeExit := false })).ssSuspendAll u false).exitMerge u at_.device)
  else .next s

/-- U1_U2_ENABLE. -/
def execU1U2Enable (sc : SsCtx) (u2 set : Bool) (s : State) : Host.Outcome State Fault Refusal :=
  if !s.ssHears sc then .next (s.reply .silent)
  else .next ((s.ssHubWith sc (fun h => if u2 then { h with u2En := set } else { h with u1En := set })).reply .ack)

/-- SetConfiguration on a SuperSpeed hub context. -/
def State.ssConfigure (s : State) (sc : SsCtx) (cfg : Nat) : State :=
  if !s.ssHears sc then s.reply .silent
  else if (s.ssHub sc).st = 0 ∨ 1 < cfg then s.reply .stall
  else (s.ssHubWith sc (fun h => { h with st := if cfg = 0 then 1 else 2 })).reply .ack

/-! ### Compliance, loopback and margining (R317–R319) -/

/-- COMPLIANCE_ENTRY. -/
def execComplianceEntry (f : Full) (s : State) : Host.Outcome State Fault Refusal :=
  if s.link f = lkPolling ∧ (s.ssp f).firstPoll ∧ s.cfgFlag (.ssp f) F.SSP_CFG_COMPLIANCE_EN then
    let s1 := (s.ssLeave f lkCompliance 6).sspWith f (fun x => { x with complianceAuto := true, pattern := 0 })
    .next (s1.raisePort (.ssp f) (fullPort f) evCompliance 1)
  else .next s

/-- A device is present on the link: it has been found and the link is not down. -/
def State.ssPresent (s : State) (f : Full) : Bool := s.link f != lkDisabled && s.link f != lkRxDetect

/-- `SSP_TEST.ENTER_CP` (R317). -/
def State.enterCompliance (s : State) (f : Full) : State :=
  if s.ssPresent f && s.link f != lkCompliance then
    ((s.ssLeave f lkCompliance 6).sspWith f (fun x => { x with pattern := 0 })).raisePort (.ssp f) (fullPort f) evCompliance 0
  else s

/-- `SSP_TEST.LOOP_MASTER` (R318). -/
def State.enterLoop (s : State) (f : Full) : State :=
  if s.ssPresent f && s.link f != lkLoopback then
    (s.ssLeave f lkLoopback 6).sspWith f (fun x => { x with loopMaster := true })
  else s

/-- `SSP_TEST.EXIT`, with the bit errors the loopback master has found (R317, R318). -/
def State.exitTest (s : State) (f : Full) (errors : Nat) : State :=
  if s.link f = lkCompliance then s.ssDetect f 6
  else if s.link f = lkLoopback then
    (if (s.ssp f).loopMaster then s.countBy (.ssp f) F.SSP_BERT_BIT_ERRORS errors else s).ssDetect f 6
  else s

/-- PING_LFPS. DESIGN CHOICE, log 66. -/
def execPingLfps (f : Full) (s : State) : Host.Outcome State Fault Refusal :=
  if s.link f = lkCompliance then .next (s.sspWith f (fun x => { x with pattern := x.pattern + 1 })) else .next s

/-- LOOPBACK_ENTRY. -/
def execLoopbackEntry (f : Full) (s : State) : Host.Outcome State Fault Refusal :=
  if s.link f = lkPolling ∨ s.link f = lkRecovery then .next (s.ssLeave f lkLoopback 6) else .next s

/-- `SSP_MARGIN_CMD.START` (R319). -/
def State.marginStart (s : State) (f : Full) : State :=
  let pg := PageId.ssp f
  if s.link f ≤ 2 then
    ((s.sspWith f (fun x => { x with margining := true })).put pg F.SSP_MARGIN_CMD_START 1)
  else ((s.put pg F.SSP_MARGIN_RES_STATUS 3).put pg F.SSP_MARGIN_CMD_START 0)

/-- MARGIN_END. -/
def execMarginEnd (f : Full) (errors : Nat) (s : State) : Host.Outcome State Fault Refusal :=
  let pg := PageId.ssp f
  if (s.ssp f).margining then
    .next ((((s.sspWith f (fun x => { x with margining := false })).put pg F.SSP_MARGIN_RES_ERRORS (min errors 0xFFFFFF)).put pg
      F.SSP_MARGIN_RES_STATUS 1).put pg F.SSP_MARGIN_CMD_START 0)
  else .next s

end Sys2Proof.Machine
end

