-- ==== Sys2Proof/Machine/Grv.lean ====
section
/-! DEFINITION. The job processor of the graver (chapter 15): addresses, descriptors, queues and chains, fan-out groups,
captures, completions. -/

namespace Sys2Proof.Machine

/-- The graver runs: its clock on, its domain out of reset. -/
def State.grvUp (s : State) : Bool := s.clockOn .grv && !s.domainInRst .grv

/-- No DRAM is fitted: space 1 stands in its place (R378). -/
def State.noDram (s : State) : Bool := s.flag .glb F.GLB_READY_DRAM_ABSENT

/-! ### Addresses and memory (R377, R378, R411) -/

/-- The graver's class at the DRAM controller. -/
def grvClass : Nat := 0
/-- Bytes of the fan-out buffer. -/
def bufSize : Nat := 0x200000
/-- `SPACE` of an encoded address. -/
def adrSpace (a : Nat) : Nat := a / 2 ^ 62
/-- `ADDR` of an encoded address. -/
def adrOff (a : Nat) : Nat := a % 2 ^ 34
/-- The reserved bits of an encoded address are zero. -/
def adrClean (a : Nat) : Bool := a / 2 ^ 34 % 2 ^ 28 == 0

/-- A link field keeps R377: zero, a 64-byte-aligned address in space 0 or 1, or a template index. -/
def linkOk (a : Nat) : Bool :=
  a == 0 || (adrClean a && adrOff a % 64 == 0 &&
    (adrSpace a == 0 || (adrSpace a == 1 && decide (adrOff a < bufSize)) || (adrSpace a == 2 && decide (adrOff a < 4096))))

/-- A data address of `n` bytes keeps R377: 4-byte aligned, in space 0 or within the fan-out buffer. -/
def dataOk (a n : Nat) : Bool :=
  adrClean a && adrOff a % 4 == 0 && (adrSpace a == 0 || (adrSpace a == 1 && decide (adrOff a + n ≤ bufSize)))

/-- The code of a DRAM that a job cannot reach: its controller in reset, or not trained (R386). -/
def State.dramLost (s : State) : Byte := if s.domainInRst .drc || s.drcPend then cDramErr else cNoDram

/-- The code an access of `n` bytes ends with at the start of a job, if it cannot be made (R378, R386, R411). -/
def State.dataCode (s : State) (a n : Nat) : Option Byte :=
  if adrSpace a = 1 then (if s.noDram then none else some cBadDesc)
  else if s.noDram then some cNoDram
  else if !s.dramUp then some s.dramLost
  else if s.dramSize < adrOff a + n then some cBadDesc
  else none

/-- An access of `n` bytes lies in a trained DRAM, but beyond its installed size (R411). -/
def State.dramBeyond (s : State) (a n : Nat) : Bool :=
  adrSpace a != 1 && !s.noDram && s.dramUp && decide (s.dramSize < adrOff a + n)

/-- An access of the graver refused for the installed size is counted (R423). -/
def State.noteBeyond (s : State) (a n : Nat) : State := if s.dramBeyond a n then s.count .drc F.DRC_CNT_RANGE else s

/-- Bytes of the fan-out buffer. -/
def State.bufGet (s : State) (a n : Nat) : List Byte :=
  (List.range n).map (fun i => Sparse.get (fun _ => (0 : Byte)) s.graver.buffer (a + i))

/-- Bytes stored in the fan-out buffer. -/
def State.bufPut (s : State) (a : Nat) : List Byte → State
  | [] => s
  | b :: bs => State.bufPut (s.grvWith (fun g => { g with buffer := Sparse.put (fun _ => (0 : Byte)) g.buffer a b })) (a + 1) bs

/-- Bytes read for a job: the bytes, or the code that the access ends with. -/
def State.grvRead (s : State) (a n : Nat) : (List Byte ⊕ Byte) × State :=
  if adrSpace a = 1 then (.inl (s.bufGet (adrOff a) n), s)
  else if !s.dramUp then (.inr s.dramLost, s)
  else match s.dramRead (adrOff a) n grvClass with
    | (bs, none, s1) => (.inl bs, s1)
    | (_, some _, s1) => (.inr cDramErr, s1)

/-- Bytes written for a job: the code that the access ends with, if it fails. -/
def State.grvWrite (s : State) (a : Nat) (bs : List Byte) : Option Byte × State :=
  if adrSpace a = 1 then (none, s.bufPut (adrOff a) bs)
  else if !s.dramUp then (some s.dramLost, s)
  else match s.dramWrite (adrOff a) bs grvClass with
    | (none, s1) => (none, s1)
    | (some _, s1) => (some cDramErr, s1)

/-- A job's access waits: the DRAM page is off (R52). -/
def State.grvWaits (s : State) (a : Nat) : Bool := adrSpace a == 0 && !s.noDram && !s.dramServes

/-! ### Descriptors (R383) -/

/-- The bits of the opcode fields at 0x24–0x3F that an opcode uses, as words. -/
def fieldMask : Nat → Option (List Nat)
  | 1 => some [0x3, 0xFFFFFFFF, 0, 0, 0, 0, 0]
  | 2 => some [0x7, 0, 0, 0, 0, 0, 0]
  | 3 => some [0xFFFFFFFF, 0x7, 0xFFFFFFFF, 0xFFFFFFFF, 0x1FFF, 0, 0]
  | 4 => some [0x01FFFFFF, 0, 0, 0, 0, 0, 0]
  | 5 => some [0xFFFFFFFF, 0xFFFFFFFF, 0xFFFFFFFF, 0xFFFFFFFF, 0, 0, 0]
  | 6 => some [0x10F, 0xFFFFFFFF, 0xFFFFFFFF, 0xFFFFFFFF, 0xFFFFFFFF, 0, 0]
  | 7 => some [0x10F, 0xFFFFFFFF, 0xFFFFFFFF, 0xFFFFFFFF, 0xFFFFFFFF, 0, 0]
  | 8 => some [0xFF0F07, 0xFFFFFFFF, 0xFFFFFFFF, 0x1F, 0, 0, 0]
  | 9 => some [0x10F, 0xFFFFFFFF, 0xFFFFFFFF, 0xFFFFFFFF, 0xFFFFFFFF, 0xFFFFFFFF, 0]
  | 10 => some [0x7, 0xFFFFFFFF, 0, 0, 0, 0, 0]
  | 11 => some [0x3, 0, 0, 0, 0, 0, 0]
  | 12 => some [0x7, 0, 0, 0, 0, 0, 0]
  | _ => none

/-- The reserved fields and bits of a job's descriptor are zero and its opcode is known. -/
def Job.clean (j : Job) : Bool :=
  match fieldMask j.op with
  | none => false
  | some ms =>
    byteAt j.desc 1 < 16 && leNat j.desc 2 2 == 0 &&
      (List.range 7).all (fun i => j.word (0x24 + 4 * i) &&& (0xFFFFFFFF ^^^ ms.getD i 0) == 0)

/-- `LENGTH`, with the bytes a CTRL transfers from its `SETUP`. -/
def Job.len (j : Job) : Nat := if j.op = 5 then leNat j.desc 0x2A 2 else j.quad 0x30
/-- The data address of a job that has one. -/
def Job.adr (j : Job) : Nat := if j.op = 3 ∨ j.op = 5 then j.quad 0x2C else j.quad 0x28
/-- The endpoint of a WRITE, READ, VERIFY or CDC CAPTURE. -/
def Job.ep (j : Job) : Nat := if j.op = 8 then j.word 0x24 / 256 % 16 else j.word 0x24 % 16
/-- VERIFY in mode 1, by CRC. -/
def Job.byCrc (j : Job) : Bool := j.op == 9 && (j.word 0x24).testBit 8
/-- CAPTURE of kind 1. -/
def Job.isCdc (j : Job) : Bool := j.op == 8 && (j.word 0x24).testBit 0
/-- Bytes of memory a job's data address spans: of a CAPTURE, up to the ring of its last port (R377, R401, R411). -/
def Job.span (j : Job) : Nat :=
  if j.op = 3 then 32 + j.word 0x34
  else if j.op = 8 then 2 ^ j.word 0x30 * j.ports.foldl (fun n x => max n (x.port.val + 1)) 0
  else j.len
/-- The job reads or writes memory. -/
def Job.usesMem (j : Job) : Bool :=
  match j.op with
  | 3 => j.adr != 0
  | 5 => j.len != 0
  | 6 | 7 | 8 => true
  | 9 => !j.byCrc
  | _ => false

/-- Field values outside their ranges (R383). -/
def Job.inRange (j : Job) : Bool :=
  match j.op with
  | 1 => j.word 0x24 != 3
  | 3 => decide (9 ≤ j.word 0x34 ∧ j.word 0x34 ≤ 4096)
  | 6 => decide (j.len ≤ 2 ^ 34)
  | 8 => decide (12 ≤ j.word 0x30 ∧ j.word 0x30 ≤ 30) && adrOff j.adr % 2 ^ j.word 0x30 == 0
  | 10 => decide (j.word 0x24 ≤ 4)
  | 11 => j.word 0x24 != 3
  | _ => true

/-- The opcode has an address field for data. -/
def Job.hasAdr (j : Job) : Bool := [3, 5, 6, 7, 8, 9].contains j.op

/-- The descriptor breaks R377 or R383; an address is checked whether or not the job uses it. -/
def Job.bad (j : Job) : Bool :=
  !(j.clean && j.inRange && linkOk (j.quad 0x10) && linkOk (j.quad 0x18) &&
    (!j.hasAdr || dataOk j.adr (if j.op = 8 || !j.usesMem then 0 else j.span)))

/-- A link that leads into memory the part does not have: space 1 with DRAM fitted (R378). -/
def State.linkCode (s : State) (a : Nat) : Option Byte :=
  if a = 0 ∨ adrSpace a = 2 then none
  else if adrSpace a = 1 then (if s.noDram then none else some cBadDesc)
  else if s.noDram then some cNoDram else none

/-- The code with which a whole job ends at once, for its descriptor or its memory. -/
def State.jobCode (s : State) (j : Job) : Option Byte :=
  if j.bad then some cBadDesc
  else if j.op = 8 ∧ s.noDram then some cNoDram
  else ((s.linkCode (j.quad 0x10)).or (s.linkCode (j.quad 0x18))).or (if j.usesMem then s.dataCode j.adr j.span
    else if j.hasAdr ∧ adrSpace j.adr = 1 ∧ !s.noDram then some cBadDesc else none)

/-! ### Ports as the engines see them (R374–R376) -/

/-- The graver owns a port. -/
def State.grvOwns (s : State) (p : Port) : Bool := s.curOwner p == 3

/-- A register of the LHE page mismatches (R407). -/
def State.lheBad (s : State) (p : Port) : Bool := s.badFound (.lhe p) 0x40

/-- A USB device is connected to the port, or its link is in U0 (R394). -/
def State.devThere (s : State) (p : Port) : Bool :=
  (s.u2p p).connected || match fullOf p with
    | none => false
    | some f => s.link f == lkU0

/-- The engine that serves a job on a port is the SuperSpeed one: ENUM has found the device there, and a job that moves data has its `SS`
flag set (R375). DEDUCED, log 71. -/
def State.jobSs (s : State) (j : Job) (p : Port) : Bool := (s.lhe p).onSs && (j.op == 3 || j.op == 4 || j.flag 2)

/-- The device that ENUM found still answers on an engine. -/
def State.devHere (s : State) (p : Port) (ss : Bool) : Bool :=
  if ss then !(s.lhe p).ssGone && (match fullOf p with
    | none => false
    | some f => s.link f == lkU0 || s.link f == lkRecovery)
  else s.u2St p == 5

/-- An endpoint of the table CONFIG loaded. -/
def State.endpoint (s : State) (p : Port) (num : Nat) (inDir : Bool) : Option EndPt :=
  (s.lhe p).eps.find? (fun e => e.num.toNat == num && e.inDir == inDir)

/-- The direction of the endpoint a job uses. -/
def Job.inDir (j : Job) : Bool := j.op != 6

/-- The code with which a job ends on a port as it starts there, if it does (R383, R384, R386). -/
def State.startCode (s : State) (j : Job) (p : Port) : Option Byte :=
  let owned := [3, 4, 5, 6, 7, 9, 11].contains j.op || j.isCdc || (j.op == 10 && j.word 0x24 == 4)
  let moves := [6, 7, 9].contains j.op || j.isCdc
  if s.lheBad p then some cParity
  else if owned && !s.grvOwns p then some cNotOwned
  else if j.op = 3 ∧ !s.devThere p then some cNoDevice
  else if (j.op = 4 ∨ j.op = 5 ∨ moves) ∧ !s.devThere p then some cNoDevice
  else if moves ∧ (s.endpoint p j.ep j.inDir).isNone then some cNotConfigured
  else if (j.op = 4 ∨ j.op = 5 ∨ moves) ∧ !s.devHere p (s.jobSs j p) then some cNoDevice
  else none

/-! ### The end of a job's part; fan-out groups (R395–R397) -/

/-- The members of a group that still share its window. -/
def Job.members (j : Job) : List JobPort := j.ports.filter (fun x => x.code.isNone && !x.solo)

/-- A job changed. -/
def State.jobWith (s : State) (id : Nat) (f : Job → Job) : State :=
  s.grvWith (fun g => { g with jobs := g.jobs.map (fun j => if j.id = id then f j else j) })

/-- A job by its number. -/
def State.job (s : State) (id : Nat) : Option Job := s.graver.jobs.find? (fun j => j.id == id)

/-- A fan-out window as the operation that asks for leave. -/
def winOp (w : Fin 2) : LeaveOp := .fanout ⟨w.val, by omega⟩

/-- A window that no group has or asks for, the lower first. -/
def State.freeWindow (s : State) : Option (Fin 2) :=
  [0, 1].find? (fun w : Fin 2 => !s.graver.jobs.any (fun j => (j.group == 2 || j.group == 3) && j.window == w))

/-- The group that has waited longest takes a free window and asks for leave; none starts while the graver is throttled
(R395, R446). -/
def State.askGroup (s : State) : State :=
  if s.get .hlt F.HLT_STATUS_LEVEL ≠ 0 then s else
  match s.freeWindow, s.graver.jobs.find? (fun j => j.group == 1) with
  | some w, some j => (s.jobWith j.id (fun j => { j with group := 2, window := w })).askLeave (winOp w)
  | _, _ => s

/-- The waiting groups take the windows that are free (R395). -/
def State.nextGroup (s : State) : State := s.askGroup.askGroup

/-- The graver is throttled: a group whose leave has not been granted withdraws it and waits again (R184, R446). -/
def State.holdGroups (s : State) : State :=
  let s1 := ([0, 1] : List (Fin 2)).foldl (fun s w => s.withdraw (winOp w)) s
  s1.grvWith (fun g => { g with jobs := g.jobs.map (fun j => if j.group = 2 then { j with group := 1 } else j) })

/-- A group whose last member has finished or left frees its window and reports done: R397 says when, where the table of R184 has the leave
done as the group's first write is issued. DESIGN CHOICE, log 87. -/
def State.groupCheck (s : State) (id : Nat) : State :=
  match s.job id with
  | none => s
  | some j =>
    if j.group = 0 ∨ j.members ≠ [] then s
    else if j.group = 1 then s.jobWith id (fun j => { j with group := 0 })
    else ((s.endLeave (winOp j.window)).jobWith id (fun j => { j with group := 0, win := [] })).nextGroup

/-- A job ends on a port with a code; its group, if any, follows. -/
def State.jobEnds (s : State) (j : Job) (p : Port) (code : Byte) : State := (s.partEnd j p code).groupCheck j.id

/-- A job ends with a code on each of its ports where it has not ended. -/
def State.jobEndsAll (s : State) (j : Job) (code : Byte) : State :=
  j.ports.foldl (fun s x => if x.code.isNone then s.jobEnds j x.port code else s) s

/-- The queued job that runs on a port ends with a code. -/
def State.runEnds (s : State) (p : Port) (code : Byte) : State :=
  match s.running p with
  | none => s
  | some j => s.jobEnds j p code

/-! ### Captures (R400–R402) -/

/-- A capture changed. -/
def State.capWith (s : State) (p : Port) (cdc : Bool) (f : Capture → Capture) : State :=
  s.grvWith (fun g => { g with caps := g.caps.map (fun c => if c.port = p ∧ c.cdc = cdc then f c else c) })

/-- The capture of a kind on a port. -/
def State.cap (s : State) (p : Port) (cdc : Bool) : Option Capture := s.graver.caps.find? (fun c => c.port == p && c.cdc == cdc)

/-- A capture of a kind runs on a port. -/
def State.capRuns (s : State) (p : Port) (cdc : Bool) : Bool := s.graver.caps.any (fun c => c.port == p && c.cdc == cdc && c.ended.isNone)

/-- Data bytes that a capture's buffer holds. -/
def capBytes (l : List CapItem) : Nat := l.foldl (fun n i => match i with | .byte _ _ _ => n + 1 | _ => n) 0

/-- Data bytes of a port that wait for DRAM, of either kind of capture. -/
def State.capWaits (s : State) (p : Port) : Nat := s.graver.caps.foldl (fun n c => if c.port = p then n + capBytes c.items else n) 0

/-- An item taken into a capture: a byte beyond the 512 of its port that wait for DRAM is lost and counted (R401). -/
def State.capTake (s : State) (p : Port) (cdc : Bool) (i : CapItem) : State :=
  match s.cap p cdc with
  | none => s
  | some _ =>
    match i with
    | .byte _ _ _ =>
      if 512 ≤ s.capWaits p then
        (s.count (.lhe p) F.LHE_CAP_LOST_BYTES).capWith p cdc (fun c => { c with lostSome := true })
      else s.capWith p cdc (fun c => { c with items := c.items ++ [i] })
    | _ => s.capWith p cdc (fun c => { c with items := c.items ++ [i] })

/-- A record as it is gathered: its bytes, its flags, the stamp of its first item, whether it closed by itself, and the items
left. -/
structure CapRec where
  data : List Byte
  flags : Nat
  stamp : Option (BitVec 64)
  closed : Bool
  left : List CapItem
  deriving DecidableEq, Repr

/-- The first record of a capture's items: 48 bytes, or up to the end of a break; a marker is a record of its own. DEDUCED, log 72. -/
def capGather (acc : List Byte) (flags : Nat) (stamp : Option (BitVec 64)) : List CapItem → CapRec
  | [] => ⟨acc, flags, stamp, false, []⟩
  | .byte b e t :: r =>
    let acc1 := acc ++ [b]
    let fl := if e then flags ||| 2 else flags
    if acc1.length = 48 then ⟨acc1, fl, stamp.or (some t), true, r⟩ else capGather acc1 fl (stamp.or (some t)) r
  | .brk t :: r => capGather acc (flags ||| 1) (stamp.or (some t)) r
  | .brkEnd :: r => if stamp.isSome then ⟨acc, flags, stamp, true, r⟩ else capGather acc flags stamp r
  | .mark a t :: r =>
    if stamp.isSome then ⟨acc, flags, stamp, true, .mark a t :: r⟩ else ⟨[], 8 + 16 * bit a, some t, true, r⟩

/-- The 64 bytes of a capture record. -/
def capRecord (p : Port) (k : Nat) (r : CapRec) (lost last : Bool) : List Byte :=
  leBytes 2 r.data.length ++ [BitVec.ofNat 8 p.val, BitVec.ofNat 8 (r.flags + 4 * bit lost + 32 * bit last)] ++ leBytes 4 k ++
    leBytes 8 (r.stamp.getD 0).toNat ++ r.data ++ List.replicate (48 - r.data.length) 0

/-- One record written to the ring of its port, or its bytes lost where the DRAM is unreachable. -/
def State.capWrite (s : State) (c : Capture) (r : CapRec) (last : Bool) : State :=
  let k := s.get (.lhe c.port) F.LHE_CAP_WR_RECORDS
  let slots := 2 ^ c.sizeLog2 / 64
  let a := c.base + 2 ^ c.sizeLog2 * c.port.val + 64 * (k % slots)
  let s0 := s.capWith c.port c.cdc (fun c => { c with items := r.left, lostSome := false })
  match s0.grvWrite a (capRecord c.port k r c.lostSome last) with
  | (none, s1) =>
    let s2 := s1.put (.lhe c.port) F.LHE_CAP_WR_RECORDS (k + 1)
    if (k + 1) % slots = 0 then s2.raiseWith .grv evCaptureWrap c.port.val ((k + 1) % 2 ^ 32) true (.job c.ring) else s2
  | (some _, s1) =>
    (s1.countBy (.lhe c.port) F.LHE_CAP_LOST_BYTES r.data.length).capWith c.port c.cdc (fun c => { c with lostSome := true })

/-- The records of an ended capture written, and its job's part ended once none is left. -/
def State.capDrain (s : State) (p : Port) (cdc : Bool) : Nat → State
  | 0 => s
  | n + 1 =>
    match s.cap p cdc with
    | none => s
    | some c =>
      match c.ended with
      | none => s
      | some code =>
        let r := capGather [] 0 none c.items
        if r.stamp.isSome then
          (if s.grvWaits 0 then s else State.capDrain (s.capWrite c r r.left.isEmpty) p cdc n)
        else
          let s1 := s.grvWith (fun g => { g with caps := g.caps.filter (fun c => !(c.port == p && c.cdc == cdc)) })
          match s1.job c.job with
          | none => s1
          | some j => s1.partEnd j p code

/-- A capture that has ended is written out. -/
def State.capFinish (s : State) (p : Port) (cdc : Bool) : State := s.capDrain p cdc 2000

/-- A capture ends with a code: its open record closes (R401, R402). -/
def State.capEnds (s : State) (p : Port) (cdc : Bool) (code : Byte) : State :=
  (s.capWith p cdc (fun c => if c.ended.isNone then { c with ended := some code } else c)).capFinish p cdc

/-- Both captures of a port end with a code. -/
def State.capsEnd (s : State) (p : Port) (code : Byte) : State := (s.capEnds p false code).capEnds p true code

/-! ### What reaches a port from outside its jobs -/

/-- The port moves away from the graver: its running job ends with LOST_OWNER, and so does a CDC capture (R387). -/
def State.grvLeaves (s : State) (p : Port) : State := (s.runEnds p cLostOwner).capEnds p true cLostOwner

/-- A move of the port has completed: a TAKE or GIVE that waits for it ends (R387, R404). -/
def State.grvMoved (s : State) (p : Port) : State :=
  match s.running p with
  | none => s
  | some j =>
    match j.part p with
    | none => s
    | some x =>
      if x.phase = 0 then s
      else if j.op = 2 then s.jobEnds j p (if s.curOwner p = 3 then cOk else cOwner)
      else s

/-- A reset of the port ends its part of every job with DETACHED (R403). -/
def State.lheReset (s : State) (p : Port) : State :=
  let s1 := s.graver.jobs.foldl (fun s j => if j.live p ∧ j.op ≠ 8 then s.jobEnds j p cDetached else s) s
  let s2 := s1.graver.jobs.foldl (fun s j => if j.live p ∧ j.op = 8 ∧ !s.graver.caps.any (fun c => c.job == j.id && c.port == p) then
    s.jobEnds j p cDetached else s) s1
  (s2.capsEnd p cDetached).lheWith p (fun _ => freshLhe)

/-- The LHE page is disabled, restarted or mismatched: running job and captures end with a code (R52, R407). -/
def State.lheStop (s : State) (p : Port) (code : Byte) : State := (s.runEnds p code).capsEnd p code

/-- The GRV page is disabled: each running queued job ends with STOPPED (R52). -/
def State.grvStop (s : State) : State := allPorts.foldl (fun s p => s.runEnds p cStopped) s

/-- Every chain, group and capture ends without completions or events (R403). DEDUCED, log 45. -/
def State.grvClear (s : State) : State :=
  let s1 := ([0, 1] : List (Fin 2)).foldl (fun s w => s.endLeave (winOp w)) s
  s1.grvWith (fun g => { g with jobs := [], caps := [], completions := [], fetchPtr := 3 })

/-! ### Completions (R382, R386, R405) -/

/-- Size of a job ring and of a completion ring. -/
def State.jrSize (s : State) (r : RingIx) : Nat := 2 ^ clampTo 4 16 (s.get .grv (F.GRV_JRr_CFG_SIZE_LOG2 r.val))
def State.crSize (s : State) (r : RingIx) : Nat := 2 ^ clampTo 4 16 (s.get .grv (F.GRV_CRr_CFG_SIZE_LOG2 r.val))

/-- `GRV_CRr_CONS` in force: values at or above the size act as 0. -/
def State.crCons (s : State) (r : RingIx) : Nat :=
  let c := s.get .grv (F.GRV_CRr_CONS_CONS r.val)
  if s.crSize r ≤ c then 0 else c

/-- The completion ring is full (R380). DEDUCED, log 30. -/
def State.crFull (s : State) (r : RingIx) : Bool := (s.get .grv (F.GRV_CRr_PROD_PROD r.val) + 1) % s.crSize r == s.crCons r

/-- A register of ring r mismatches (R407). -/
def State.ringBad (s : State) (r : RingIx) : Bool := s.badIn .grv (0x100 + 64 * r.val) (0x140 + 64 * r.val)

/-- A ring base as an encoded address: `SPACE` 2 and 3 act as 0. -/
def State.ringBase (s : State) (lo hi sp : Fld) : Nat :=
  let space := if s.get .grv sp = 1 then 2 ^ 62 else 0
  s.get .grv lo / 64 * 64 + 2 ^ 32 * s.get .grv hi + space

def State.jrBase (s : State) (r : RingIx) : Nat :=
  s.ringBase (F.GRV_JRr_BASE_LO_ADDR_LO r.val) (F.GRV_JRr_BASE_HI_ADDR_HI r.val) (F.GRV_JRr_BASE_HI_SPACE r.val)
def State.crBase (s : State) (r : RingIx) : Nat :=
  s.ringBase (F.GRV_CRr_BASE_LO_ADDR_LO r.val) (F.GRV_CRr_BASE_HI_ADDR_HI r.val) (F.GRV_CRr_BASE_HI_SPACE r.val)

/-- RING_FAULT of a kind: 0 doorbell range, 1 fetch error, 2 completion write error (R405). -/
def State.ringFault (s : State) (r : RingIx) (kind index : Nat) : State :=
  s.raiseWith .grv evRingFault r.val (r.val + 4 * kind + index % 2 ^ 16 * 2 ^ 16) true (.job r)

/-- A ring or descriptor address lies in memory that is there (R411). -/
def State.ringThere (s : State) (a n : Nat) : Bool :=
  if adrSpace a = 1 then s.noDram && decide (adrOff a + n ≤ bufSize) else !s.noDram && decide (adrOff a + n ≤ s.dramSize)

/-- A port set as the 64 bits of `OK_PORTS` and `FAIL_PORTS`. -/
def portSet (ps : List Port) : Nat := ps.foldl (fun n p => n ||| 2 ^ p.val) 0

/-- Ports of a 64-bit set. -/
def portsOf (v : Nat) : List Port := allPorts.filter (fun p => v.testBit p.val)

/-- The failing ports of a finished job, lowest first, with their codes. -/
def Job.failures (j : Job) : List (Port × Byte) :=
  allPorts.filterMap (fun p => match j.part p with
    | none => none
    | some x => match x.code with
      | none => none
      | some c => if c = cOk then none else some (p, c))

/-- The ports of a finished job that ended with OK. -/
def Job.oks (j : Job) : List Port := allPorts.filter (fun p => j.ports.any (fun x => x.port == p && x.code == some cOk))

/-- The 32 bytes of a completion entry. -/
def State.completionBytes (s : State) (j : Job) (code : Byte) (first : Nat) (ends : Bool) : List Byte :=
  let stopped := j.ports.any (fun x => x.code == some cStopped)
  let solo := j.ports.any (fun x => x.solo)
  leBytes 2 j.index.toNat ++ [BitVec.ofNat 8 (min (j.step + 1) 255), BitVec.ofNat 8 j.op, code, BitVec.ofNat 8 first,
      BitVec.ofNat 8 (bit ends + 2 * bit stopped + 4 * bit solo), 0] ++
    leBytes 8 (portSet j.oks) ++ leBytes 8 (portSet (j.failures.map (·.1))) ++ leBytes 4 (j.word 4) ++
    leBytes 4 (s.now.toNat / 1024)

/-- A completion entry of a chain waits, so the chain takes no further step (R382). -/
def State.chainHeld (s : State) (chain : Nat) : Bool := s.graver.completions.any (fun c => c.chain == chain)

/-! ### Chains (R384, R385) -/

/-- A new job at a place of the list: on ports that are not fitted it has ended at once with NO_DEVICE; one that breaks the rules
has ended at once on all of its ports; CAPTURE and STOP begin at once (R383, R384, R389). -/
def State.newJob (s : State) (chain : Nat) (r : RingIx) (index : BitVec 16) (step : Nat) (desc : List Byte) (ps : List Port) : Job × State :=
  let j : Job := ⟨s.graver.nextId, chain, r, index, step, desc, ps.map (fun p => ⟨p, none, 0, 0, crcInit, false⟩), false, 0, 0, [], 0⟩
  let j := if j.queued then j else { j with started := true }
  (j, s.grvWith (fun g => { g with nextId := g.nextId + 1 }))

/-- A job keeps the rules of its descriptor and its links, so that what refuses it at once is its access to memory. -/
def State.memRefused (s : State) (j : Job) : Bool :=
  !j.bad && j.usesMem && (s.linkCode (j.quad 0x10)).isNone && (s.linkCode (j.quad 0x18)).isNone

/-- The endings that a new job meets at once. -/
def State.settleJob (s : State) (j : Job) : State :=
  match s.jobCode j with
  | some c => (if s.memRefused j then s.noteBeyond j.adr j.span else s).jobEndsAll j c
  | none =>
    let s1 := j.ports.foldl (fun s x => if s.fitted x.port then s else s.jobEnds j x.port cNoDevice) s
    if j.op = 12 ∧ j.word 0x24 = 0 then s1.jobEndsAll j cOk else s1

/-- What a link or ring entry gives: its 64 bytes, or why not. -/
inductive Fetched where
  | desc (bs : List Byte)
  /-- it cannot be read: an uncorrectable error, the controller in reset, or memory that is not there -/
  | unread
  /-- it is read later: the DRAM is not trained or not served -/
  | later
  deriving DecidableEq, Repr

/-- The descriptor at an address (R377, R379, R381, R411). -/
def State.fetchAt (s : State) (a : Nat) : Fetched × State :=
  if adrSpace a = 2 then
    (.desc ((List.range 64).map (fun i => Sparse.get (fun _ => (0 : Byte)) s.graver.templates (adrOff a + i))), s)
  else if adrSpace a = 1 then (if s.ringThere a 64 then (.desc (s.bufGet (adrOff a) 64), s) else (.unread, s))
  else if s.noDram then (.unread, s)
  else if s.domainInRst .drc || s.drcPend then (.unread, s)
  else if !s.dramUp || !s.dramServes then (.later, s)
  else if !s.ringThere a 64 then (.unread, s.noteBeyond a 64)
  else match s.grvRead a 64 with
    | (.inl bs, s1) => (.desc bs, s1)
    | (.inr _, s1) => (.unread, s1)

/-- The ports of a finished job that follow a link: those that ended with OK, or with any code but OK and STOPPED. -/
def Job.followers (j : Job) (ok : Bool) : List Port :=
  allPorts.filter (fun p => j.ports.any (fun x => x.port == p && match x.code with
    | none => false
    | some c => if ok then c == cOk else c != cOk && c != cStopped))

/-- The links of a finished job with the ports that follow them. -/
def Job.links (j : Job) : List (Nat × List Port) :=
  let a := j.quad 0x10
  let b := j.quad 0x18
  let both := if a = b then [(a, allPorts.filter (fun p => (j.followers true).contains p || (j.followers false).contains p))]
    else [(a, j.followers true), (b, j.followers false)]
  both.filter (fun l => l.1 != 0 && l.2 != [])

/-- A fetch error (R381): recorded, and no completion is written. -/
def State.fetchError (s : State) (r : RingIx) (index : Nat) : State := (s.setFault .grv 9).ringFault r 1 index

/-- The jobs that a finished job's links lead to, in place of it; the flag asks to try again later. -/
def State.follow (s : State) (j : Job) : List (Nat × List Port) → List Job → Bool × List Job × State
  | [], acc => (false, acc, s)
  | (a, ps) :: t, acc =>
    match s.fetchAt a with
    | (.later, s1) => (true, acc, s1)
    | (.unread, s1) => State.follow (s1.fetchError j.ring j.index.toNat) j t acc
    | (.desc bs, s1) =>
      let (nj, s2) := s1.newJob j.chain j.ring j.index (min (j.step + 1) 255) bs ps
      State.follow s2 j t (acc ++ [nj])

/-- `FIRST_FAIL` and `CODE` of a finished job (R382). -/
def Job.outcome (j : Job) : Nat × Byte :=
  match j.failures.head? with
  | none => if j.ports = [] then (0xFF, cBadDesc) else (0xFF, cOk)
  | some (p, c) => (p.val, c)

/-- A finished job counted, and its records raised (R386, R405). -/
def State.noteJob (s : State) (j : Job) : State :=
  let (first, code) := j.outcome
  let bad := j.failures != [] || j.ports = []
  let s2 := s.count .grv (if bad then F.GRV_CNT_JOBS_FAILED else F.GRV_CNT_JOBS_OK)
  let s3 := if bad then
      s2.raiseWith .grv evJobFail j.ring.val (j.index.toNat + code.toNat * 2 ^ 16 + first * 2 ^ 24) true (.job j.ring)
    else s2
  if j.flag 1 then
    s3.raiseWith .grv evJobDone j.ring.val (j.index.toNat + j.op * 2 ^ 16 + min (j.step + 1) 255 * 2 ^ 24) true (.job j.ring)
  else s3

/-- A finished job leaves the list: counted, its records raised, its completion queued, its links followed (R382, R385, R386). -/
def State.finishJob (s : State) (j : Job) : State :=
  match s.follow j j.links [] with
  | (true, _, _) => s
  | (false, next, s1) =>
    let moved := j.links.flatMap (·.2)
    let leaves := j.ports.any (fun x => !moved.contains x.port) || j.ports = []
    let ends := j.ports.all (fun x => !moved.contains x.port)
    let s4 := s1.noteJob j
    let (first, code) := j.outcome
    let entry : Completion := ⟨j.ring, j.chain, s4.completionBytes j code first ends, false⟩
    let s5 := s4.grvWith (fun g =>
      { g with
        jobs := g.jobs.flatMap (fun x => if x.id = j.id then next
          else if x.chain = j.chain then [{ x with step := min (x.step + 1) 255 }] else [x])
        completions := if j.flag 0 || leaves then g.completions ++ [entry] else g.completions })
    next.foldl (fun s nj => s.settleJob nj) s5

/-! ### Fetching and starting (R381, R384) -/

/-- Ring r may be fetched now: enabled, not mismatched, not empty, its memory reachable; a ring in DRAM that is not fitted is not fetched
(R411). -/
def State.ringReady (s : State) (r : RingIx) : Bool :=
  s.flag .grv (F.GRV_JRr_CFG_EN r.val) && !s.ringBad r &&
    s.get .grv (F.GRV_JRr_PROD_PROD r.val) != s.get .grv (F.GRV_JRr_CONS_CONS r.val) &&
    (adrSpace (s.jrBase r) == 1 || (!s.noDram && (s.domainInRst .drc || s.drcPend || (s.dramUp && s.dramServes))))

/-- Chains in progress. -/
def State.chains (s : State) : List Nat := (s.graver.jobs.map (·.chain)).eraseDups

/-- `FETCH_EN` in force: 0 while `GRV_CFG` mismatches (R407). -/
def State.fetchOn (s : State) : Bool := s.flag .grv F.GRV_CFG_FETCH_EN && !s.badFound .grv 0x40

/-- The ring that is fetched next: in turn after the last one (R381). -/
def State.nextRing (s : State) : Option RingIx :=
  let k := s.graver.fetchPtr.val
  ([1, 2, 3, 4].map (fun i => (⟨(k + i) % 4, Nat.mod_lt _ (by decide)⟩ : RingIx))).find? (fun r => s.ringReady r)

/-- The descriptor of a ring entry becomes a job; one that names no port ends at once. -/
def State.acceptDesc (s : State) (r : RingIx) (ix : Nat) (bs : List Byte) : State :=
  let n := s.newJob s.graver.nextId r (BitVec.ofNat 16 ix) 0 bs (portsOf (leNat bs 8 8))
  let s4 := n.2.grvWith (fun g => { g with jobs := g.jobs ++ [n.1] })
  if n.1.ports = [] then s4.finishJob { n.1 with desc := n.1.desc.take 0x10 ++ List.replicate 16 0 ++ n.1.desc.drop 0x20 }
  else s4.settleJob n.1

/-- What a ring entry gave, taken. -/
def State.takeFetched (s : State) (r : RingIx) (ix : Nat) (x : Fetched) : State :=
  match x with
  | .desc bs => s.acceptDesc r ix bs
  | _ => s.fetchError r ix

/-- The next entry of a ring fetched: its index advances. -/
def State.fetchNext (s : State) (r : RingIx) : State :=
  let ix := s.get .grv (F.GRV_JRr_CONS_CONS r.val)
  let s1 := (s.grvWith (fun g => { g with fetchPtr := r })).put .grv (F.GRV_JRr_CONS_CONS r.val) ((ix + 1) % s.jrSize r)
  let x := s1.fetchAt (s.jrBase r + 64 * ix)
  x.2.takeFetched r ix x.1

/-- DESCRIPTOR_FETCH. -/
def execDescriptorFetch (s : State) : Host.Outcome State Fault Refusal :=
  if !s.grvUp || !s.pageOn .grv || !s.fetchOn || decide (256 ≤ s.chains.length) then .next s else
  match s.nextRing with
  | none => .next s
  | some r => .next (s.fetchNext r)

/-- The first job that stands in a port's queue. -/
def State.queueHead (s : State) (p : Port) : Option Job :=
  s.graver.jobs.find? (fun j => j.queued && j.has p && (j.started || j.live p))

/-- Another queued job has started on a port and is not finished. -/
def State.portTaken (s : State) (j : Job) (p : Port) : Bool :=
  s.graver.jobs.any (fun x => x.queued && x.started && x.has p && x.id != j.id)

/-- A job may start now: at the head of the queue of each port where it has not ended, no other job there, its chain not held, the pages
on. -/
def State.mayStart (s : State) (j : Job) : Bool :=
  !j.started && j.group == 0 && !j.finished && !s.chainHeld j.chain &&
    j.ports.all (fun x => x.code.isSome || (!s.portTaken j x.port &&
      ((s.queueHead x.port).map (·.id) == some j.id && s.pageOn (.lhe x.port) && !s.domainInRst (.lhe x.port))))

/-- A WAIT condition holds (R394). -/
def State.waitHolds (s : State) (p : Port) (cond : Nat) : Bool :=
  match cond with
  | 1 => s.ccAttached p
  | 2 => !s.ccAttached p
  | 3 => s.vbusOn p
  | 4 => s.devThere p
  | _ => false

/-- A job starts on one of its ports: the endings of R383 and R386, or the condition that holds already. -/
def State.startPart (s : State) (j : Job) (p : Port) : State :=
  let s0 := s.put (.lhe p) F.LHE_STATUS_SOLO 0
  let s1 := if [5, 6, 7, 9].contains j.op then (s0.put (.lhe p) F.LHE_POS_LO_POS 0).put (.lhe p) F.LHE_POS_HI_POS 0 else s0
  match s1.startCode j p with
  | some c => s1.jobEnds j p c
  | none =>
    if j.op = 2 ∧ s1.curOwner p = 3 then s1.jobEnds j p cOk
    else if j.op = 10 ∧ s1.waitHolds p (j.word 0x24) then s1.jobEnds j p cOk
    else s1

/-- A job starts on all of its ports (R384). -/
def State.startJob (s : State) (j : Job) : State :=
  j.ports.foldl (fun s x => if x.code.isNone then s.startPart j x.port else s) (s.jobWith j.id (fun j => { j with started := true }))

/-- A job runs as one fan-out group (R395). DEDUCED, log 72. -/
def Job.fansOut (j : Job) : Bool :=
  (j.op == 6 || (j.op == 9 && !j.byCrc)) && j.flag 3 && adrSpace j.adr == 0 && decide (1 < (j.ports.filter (·.code.isNone)).length)

/-- JOB_START: the job at the head of a port's queue. -/
def execJobStart (p : Port) (s : State) : Host.Outcome State Fault Refusal :=
  if !s.grvUp || !s.pageOn .grv then .next s else
  match s.queueHead p with
  | none => .next s
  | some j =>
    if !s.mayStart j then .next s
    else if j.fansOut then .next (s.jobWith j.id (fun j => { j with group := 1 })).nextGroup
    else .next (s.startJob j)

/-- Leave of kind 7 is granted: the group starts on all of its ports (R395). -/
def State.fanGrant (s : State) (w : Fin 2) : State :=
  match s.graver.jobs.find? (fun j => j.group == 2 && j.window == w) with
  | none => s.opDone (winOp w)
  | some j =>
    let s1 := s.jobWith j.id (fun j => { j with group := 3 })
    (s1.startJob { j with group := 3 }).groupCheck j.id

end Sys2Proof.Machine
end

