-- ==== Sys2Proof/Machine/GrvJobs.lean ====
section
/-! DEFINITION. The service jobs of the graver step by step (R387–R394), fan-out windows (R396), captures (R400–R402),
completions (R382) and ring restarts (R406). -/

namespace Sys2Proof.Machine

/-! ### One step of a job -/

/-- The job of an opcode that runs on a port whose engine can act: graver and LHE page up (R52). -/
def State.jobAt (s : State) (p : Port) (op : Nat) : Option (Job × JobPort) :=
  if !s.grvUp || !s.portUp p || !s.pageOn (.lhe p) then none else
  match s.running p with
  | none => none
  | some j => if j.op = op then (j.part p).map (fun x => (j, x)) else none

/-- The phase of a job on a port set. -/
def State.setPhase (s : State) (j : Job) (p : Port) (n : Nat) : State := s.partWith j.id p (fun x => { x with phase := n })

/-- Bytes moved, as the job and `LHE_POS` count them. -/
def State.setPos (s : State) (j : Job) (p : Port) (n : Nat) : State :=
  ((s.partWith j.id p (fun x => { x with pos := n })).put (.lhe p) F.LHE_POS_LO_POS n).put (.lhe p) F.LHE_POS_HI_POS (n / 2 ^ 32)

/-! ### TAKE and GIVE (R387) -/

/-- TAKE: the move is asked, or a later step finds it done or cancelled. DEDUCED, log 71. -/
def execTake (p : Port) (s : State) : Host.Outcome State Fault Refusal :=
  match s.jobAt p 2 with
  | none => .next s
  | some (j, x) =>
    if x.phase = 0 then
      if s.curOwner p = 3 then .next (s.jobEnds j p cOk)
      else if (j.word 0x24).testBit (s.curOwner p) then .next ((s.setPhase j p 1).moveRequest p 3 3)
      else .next (s.jobEnds j p cOwner)
    else if s.moving p then .next s
    else .next (s.jobEnds j p (if s.curOwner p = 3 then cOk else cOwner))

/-- GIVE: the move is asked, or a later step finds it cancelled. -/
def execGive (p : Port) (s : State) : Host.Outcome State Fault Refusal :=
  match s.jobAt p 11 with
  | none => .next s
  | some (j, x) =>
    if x.phase = 0 then .next ((s.setPhase j p 1).moveRequest p (j.word 0x24) 3)
    else if s.moving p then .next s
    else .next (s.jobEnds j p cLostOwner)

/-- The port leaves the graver at a move point: a GIVE to the owner that `OWNER` names ends with OK, anything else with
LOST_OWNER (R387, R404). -/
def State.grvGiven (s : State) (p : Port) : State :=
  match s.running p with
  | none => s.grvLeaves p
  | some j =>
    if j.op = 11 ∧ j.word 0x24 = s.get .prs (F.PRS_OWNERn_OWNER p.val) then (s.jobEnds j p cOk).grvLeaves p else s.grvLeaves p

/-! ### POWER (R388) -/

/-- `FORCE_OFF` written as a hardware update, with new parity: a mismatch that it ends lets the switch run again (R68, R205). -/
def State.grvForce (s : State) (p : Port) (b : Bool) : State :=
  if s.flag (.vbs p) F.VBS_CTRL_FORCE_OFF = b then s else
  let t := (s.putRw (.vbs p) F.VBS_CTRL_FORCE_OFF (bit b)).forceOffChanged p
  if s.badFound (.vbs p) 0x40 && !t.badFound (.vbs p) 0x40 then (t.askTurnOn p).usbEval p else t

/-- The port is in OPEN or RETRY_WAIT. -/
def State.vbsRests (s : State) (p : Port) : Bool := s.vbsStt p == 0 || s.vbsStt p == 6

/-- On: the bit cleared; the job ends at VBUS_ON, and fails under quarantine. -/
def State.powerOn (s : State) (j : Job) (p : Port) : State :=
  let s1 := (s.setPhase j p 3).grvForce p false
  if s1.vbusOn p then s1.jobEnds j p cOk else if s1.vbsStt p = 7 then s1.jobEnds j p cPowerFail else s1

/-- A later step of a POWER job that is coming on. -/
def State.powerWait (s : State) (j : Job) (p : Port) : State :=
  if s.vbusOn p then s.jobEnds j p cOk
  else if s.flag (.vbs p) F.VBS_CTRL_FORCE_OFF || s.vbsStt p == 7 then s.jobEnds j p cPowerFail else s

/-- POWER_OFF. DEDUCED, log 71. -/
def execPowerOff (p : Port) (s : State) : Host.Outcome State Fault Refusal :=
  match s.jobAt p 1 with
  | none => .next s
  | some (j, x) =>
    if j.word 0x24 ≠ 0 then .next s
    else if x.phase = 0 then
      let s1 := (s.setPhase j p 1).grvForce p true
      .next (if !s.gateOn p || s1.vbsRests p then s1.jobEnds j p cOk else s1)
    else .next (if s.vbsRests p then s.jobEnds j p cOk else s)

/-- POWER_ON. -/
def execPowerOn (p : Port) (s : State) : Host.Outcome State Fault Refusal :=
  match s.jobAt p 1 with
  | none => .next s
  | some (j, x) =>
    if j.word 0x24 ≠ 1 then .next s
    else if x.phase = 0 then .next (s.powerOn j p) else .next (s.powerWait j p)

/-- POWER_CYCLE: off; vSafe0V, from which `OFF_TIME` runs; its end; on. -/
def execPowerCycle (p : Port) (s : State) : Host.Outcome State Fault Refusal :=
  match s.jobAt p 1 with
  | none => .next s
  | some (j, x) =>
    if j.word 0x24 ≠ 2 then .next s
    else match x.phase with
      | 0 => .next ((s.setPhase j p 1).grvForce p true)
      | 1 => .next (if s.vbsRests p && s.flag (.vbs p) F.VBS_STATUS_SAFE0V then s.setPhase j p 2 else s)
      | 2 => .next (s.powerOn j p)
      | _ => .next (s.powerWait j p)

/-! ### Transactions (R375, R376) -/

/-- The key of an endpoint among the error counts; endpoint 0 has key 0. -/
def epKey (num : Nat) (inDir : Bool) : Nat := 2 * num + bit inDir

/-- Consecutive errors on an endpoint forgotten: a transaction has succeeded. -/
def State.xactOk (s : State) (p : Port) (k : Nat) : State :=
  s.lheWith p (fun l => { l with errs := l.errs.filter (fun e => e.1 != k) })

/-- A transaction error on an endpoint; the flag says that the retries are used up. -/
def State.xactErr (s : State) (p : Port) (k : Nat) : Bool × State :=
  let n := (((s.lhe p).errs.find? (fun e => e.1 == k)).map (·.2)).getD 0 + 1
  let s1 := (s.countErr (.lhe p) p F.LHE_CNT_XACT_ERRS).xactOk p k
  let limit := max 1 (s.cfg .grv F.GRV_CFG_XACT_RETRIES)
  if limit ≤ n then (true, s1) else (false, s1.lheWith p (fun l => { l with errs := (k, n) :: l.errs }))

/-- A STALL: counted, and the endpoint's toggle at zero after the ClearFeature that follows it. -/
def State.xactStall (s : State) (p : Port) (k : Nat) : State :=
  ((s.count (.lhe p) F.LHE_CNT_STALLS).xactOk p k).lheWith p (fun l =>
    { l with eps := l.eps.map (fun e => if epKey e.num.toNat e.inDir = k then { e with toggle := 0 } else e) })

/-- The answers that every job takes alike; another is handed on. -/
def State.answered (s : State) (j : Job) (p : Port) (k : Nat) (ans : DevAns) (f : State → DevAns → State) : State :=
  if !s.devHere p (s.jobSs j p) then s.jobEnds j p cDetached else
  match ans with
  | .stall => (s.xactStall p k).jobEnds j p cStall
  | .err => (match s.xactErr p k with
    | (true, s1) => s1.jobEnds j p cXactErr
    | (false, s1) => s1)
  | a => f (s.xactOk p k) a

/-! ### ENUM (R390) -/

/-- The index of the next descriptor of a type from an offset of a configuration descriptor, walking by `bLength`. -/
def descWalk (bs : List Byte) (f : Nat → Nat → Option α) : Nat → Nat → List α
  | 0, _ => []
  | n + 1, at_ =>
    let len := byteAt bs at_
    if len < 2 ∨ bs.length < at_ + len then [] else
    match f (byteAt bs (at_ + 1)) at_ with
    | none => descWalk bs f n (at_ + len)
    | some a => a :: descWalk bs f n (at_ + len)

/-- A hub by its device descriptor or by an interface (R374). -/
def isHubDevice (dev cfg : List Byte) : Bool :=
  byteAt dev 4 == 9 || (descWalk cfg (fun ty i => if ty = 4 then some (byteAt cfg (i + 5)) else none) cfg.length 0).contains 9

/-- `LHE_STATUS.SPEED` of the device that ENUM has found. -/
def State.lheSpeed (s : State) (p : Port) : Nat :=
  if (s.lhe p).onSs then (match fullOf p with
    | none => 0
    | some f => if s.flag (.ssp f) F.SSP_STATUS_GEN2 then 5 else 4)
  else s.get (.u2p p) F.U2P_STATUS_SPEED

/-- The full port whose SuperSpeed side ENUM may take: `SS_ALLOW` is 1 and `USB2_ONLY` is 0 (R375, R390). The `SS` flag is for the jobs
that move data: the example of R399 enumerates on SuperSpeed without it. DEDUCED, log 71. -/
def State.enumSs (s : State) (j : Job) (p : Port) : Option Full :=
  if s.ssLhe p && !(j.word 0x28).testBit 2 then fullOf p else none

/-- The reset of ENUM on USB 2.0. -/
def State.enumUsb2 (s : State) (j : Job) (p : Port) : State :=
  ((s.setPhase j p 1).lheWith p (fun l => { l with onSs := false })).startReset p

/-- ENUM takes SuperSpeed with a warm reset once the link is in U0; until 100 ms have passed it waits for a link that may run
(R375). DEDUCED, log 71. -/
def State.enumTry (s : State) (j : Job) (p : Port) (late : Bool) : State :=
  match s.enumSs j p with
  | none => s.enumUsb2 j p
  | some f =>
    if s.link f = lkU0 then ((s.setPhase j p 1).lheWith p (fun l => { l with onSs := true })).ssWarm f false
    else if late || !s.ssAllowed f then s.enumUsb2 j p
    else s.setPhase j p 2

/-- ENUM starts: the endpoint table is discarded, and `SS_ALLOW` is taken (R390, R408). DEDUCED, log 71. -/
def State.enumStart (s : State) (j : Job) (p : Port) : State :=
  let s1 := (s.put (.lhe p) F.LHE_STATUS_CONFIGURED 0).lheWith p (fun l => { l with eps := [], ssHeld := none, ssGone := false, addr := 0 })
  (s1.ssEvalPort p).enumTry j p false

/-- The reset of ENUM still runs. -/
def State.enumResets (s : State) (p : Port) : Bool :=
  if (s.lhe p).onSs then (match fullOf p with
    | none => false
    | some f => (s.ssp f).reset != .none)
  else s.u2St p == 4

/-- The eight bytes of a SETUP with a 16-bit wValue and wIndex and no data stage. -/
def setupBytes (reqType breq : Byte) (value index : Nat) : List Byte := [reqType, breq] ++ leBytes 2 value ++ leBytes 2 index ++ [0, 0]

/-- The address that ENUM gives a device: `LHE_CFG.ADDRESS`, where 0 acts as 1 (R408). -/
def State.lheAddress (s : State) (p : Port) : Nat := max 1 (s.cfg (.lhe p) F.LHE_CFG_ADDRESS)

/-- The device has its address, and its descriptors are recorded, stored, checked: of the configuration, the first `LIMIT` bytes. The answer
shows the SetAddress sent (R390). DEDUCED, log 71. -/
def State.enumDone (s0 : State) (j : Job) (p : Port) (dev cfg0 : List Byte) : State :=
  let vid := leNat dev 8 2
  let pid := leNat dev 10 2
  let cfg := cfg0.take (j.word 0x34)
  let adr := s0.lheAddress p
  let s := (s0.lheWith p (fun l => { l with addr := BitVec.ofNat 7 adr })).reply (.bytes (setupBytes 0 5 adr 0))
  let s1 := ((s.put (.lhe p) F.LHE_DEV_VID vid).put (.lhe p) F.LHE_DEV_PID pid).put (.lhe p) F.LHE_STATUS_SPEED (s.lheSpeed p)
  let r : Option Byte × State :=
    if j.adr = 0 then (none, s1)
    else match s1.grvWrite j.adr (dev.take 18) with
      | (some c, s2) => (some c, s2)
      | (none, s2) => s2.grvWrite (j.adr + 32) cfg
  let noMatch := (((j.word 0x28).testBit 0) && vid != j.word 0x24 % 2 ^ 16) || (((j.word 0x28).testBit 1) && pid != j.word 0x24 / 2 ^ 16)
  r.2.jobEnds j p (if isHubDevice dev cfg then cHub else if noMatch then cMatch else r.1.getD cOk)

/-- ENUM. -/
def execEnumJob (p : Port) (ans : DevAns) (s : State) : Host.Outcome State Fault Refusal :=
  match s.jobAt p 3 with
  | none => .next s
  | some (j, x) =>
    if x.phase = 0 then .next (if s.devThere p then s.enumStart j p else s.jobEnds j p cDetached)
    else if x.phase = 2 then .next (s.enumTry j p (ans == .late))
    else if s.enumResets p then .next s
    else .next (s.answered j p 0 ans (fun s1 a => match a with
      | .descs dev cfg => if j.adr != 0 && s.grvWaits j.adr then s else s1.enumDone j p dev cfg
      | _ => s))

/-! ### CONFIG (R391) -/

/-- What a walk over the configuration descriptor has found: the interface setting at hand is in force; the endpoint at hand is listed; the
endpoints. -/
structure EpWalk where
  live : Bool
  listed : Bool
  eps : List EndPt
  deriving DecidableEq, Repr

/-- One descriptor of the walk: an interface, an endpoint, a SuperSpeed companion. DEDUCED, log 72. -/
def epStep (cfg : List Byte) (intf alt : Nat) (setAlt ss : Bool) (w : EpWalk) (d : Nat × Nat) : EpWalk :=
  let (ty, i) := d
  if ty = 4 then { w with live := byteAt cfg (i + 3) == (if setAlt && byteAt cfg (i + 2) == intf then alt else 0), listed := false }
  else if ty = 5 ∧ ¬(w.live ∧ w.eps.length < 16 ∧ 2 ≤ byteAt cfg (i + 3) % 4) then { w with listed := false }
  else if ty = 5 then
    { w with listed := true, eps := w.eps ++ [⟨BitVec.ofNat 4 (byteAt cfg (i + 2)), (byteAt cfg (i + 2)).testBit 7, leNat cfg (i + 4) 2 % 2 ^ 11, 1, 0⟩] }
  else if ty = 0x30 ∧ w.listed ∧ ss then
    (match w.eps.reverse with
    | [] => w
    | e :: r => { w with eps := (({ e with burst := byteAt cfg (i + 2) + 1 } : EndPt) :: r).reverse })
  else w

/-- The endpoint table that a configuration descriptor gives (R391). -/
def epTable (cfg : List Byte) (intf alt : Nat) (setAlt ss : Bool) : List EndPt :=
  ((descWalk cfg (fun ty i => some (ty, i)) cfg.length 0).foldl (epStep cfg intf alt setAlt ss) ⟨false, false, []⟩).eps

/-- The requests that CONFIG sends: SetConfiguration, of the configuration read where `CFG_VALUE` is 0, and SetInterface where `SET_ALT`
asks for it (R391). -/
def configSetups (w : Nat) (cfg : List Byte) : List Byte :=
  setupBytes 0 9 (if w % 256 = 0 then byteAt cfg 5 else w % 256) 0 ++
    (if w.testBit 24 then setupBytes 1 0x0B (w / 2 ^ 16 % 256) (w / 2 ^ 8 % 256) else [])

/-- CONFIG; the answer shows the requests sent. -/
def execConfigJob (p : Port) (ans : DevAns) (s : State) : Host.Outcome State Fault Refusal :=
  match s.jobAt p 4 with
  | none => .next s
  | some (j, _) =>
    .next (s.answered j p 0 ans (fun s1 a => match a with
      | .descs _ cfg =>
        let w := j.word 0x24
        let eps := epTable cfg (w / 2 ^ 8 % 256) (w / 2 ^ 16 % 256) (w.testBit 24) (s.lhe p).onSs
        (((s1.lheWith p (fun l => { l with eps := eps })).put (.lhe p) F.LHE_STATUS_CONFIGURED 1).reply
          (.bytes (configSetups w cfg))).jobEnds j p cOk
      | _ => s))

/-! ### CTRL (R392) -/

/-- CTRL: the whole transfer, its direction and length from `SETUP`. -/
def execCtrlJob (p : Port) (ans : DevAns) (s : State) : Host.Outcome State Fault Refusal :=
  match s.jobAt p 5 with
  | none => .next s
  | some (j, _) =>
    if j.len != 0 && s.grvWaits j.adr then .next s else
    .next (s.answered j p 0 ans (fun s1 a =>
      let toHost := (byteAt j.desc 0x24).testBit 7 && j.len != 0
      match a with
      | .taken n =>
        if toHost then s
        else if j.len = 0 then s1.jobEnds j p cOk
        else (match s1.grvRead j.adr (min n j.len) with
          | (.inr c, s2) => s2.jobEnds j p c
          | (.inl bs, s2) => ((s2.setPos j p bs.length).reply (.bytes bs)).jobEnds j p cOk)
      | .data bs _ =>
        if !toHost then s
        else (match s1.grvWrite j.adr (bs.take j.len) with
          | (some c, s2) => s2.jobEnds j p c
          | (none, s2) => (s2.setPos j p (min bs.length j.len)).jobEnds j p cOk)
      | _ => s))

/-! ### Fan-out windows (R396) -/

/-- Bytes of a window. -/
def winSize : Nat := 0x100000

/-- A member leaves its group: from then on it reads on its own. DEDUCED, log 72. -/
def State.leaveGroup (s : State) (j : Job) (p : Port) (lag : Nat) : State :=
  let s1 := s.partWith j.id p (fun x => { x with solo := true })
  ((s1.put (.lhe p) F.LHE_STATUS_SOLO 1).count (.lhe p) F.LHE_CNT_LEAVES).raiseWith .grv evFanoutLeave p.val
    (j.index.toNat + j.ring.val * 2 ^ 16 + lag / 2 ^ 10 % 2 ^ 14 * 2 ^ 18) true (.job j.ring)

/-- The least position of the members, `n` where there is none. -/
def Job.slowest (j : Job) (n : Nat) : Nat := j.members.foldl (fun m x => min m x.pos) n

/-- The window follows the member on port `p` that needs the image bytes below `hi`: the other members that lag leave, its start advances to the slowest
member, and what is missing is read in 64-byte bursts; the code of a read that fails. -/
def State.winFollow (s : State) (j : Job) (p : Port) (hi : Nat) : Option Byte × State :=
  let far := hi - 1
  let s1 := if winSize + j.winAt ≤ far then
      j.members.foldl (fun s x => if x.port ≠ p ∧ winSize + x.pos ≤ far then s.leaveGroup j x.port (far - x.pos) else s) s
    else s
  let s2 := s1.jobWith j.id (fun j =>
    let b := j.slowest hi
    { j with win := j.win.drop (b - j.winAt), winAt := max j.winAt b })
  match s2.job j.id with
  | none => (none, s2)
  | some j2 =>
    let top := j2.winAt + j2.win.length
    let want := min j2.len ((hi + 63) / 64 * 64)
    if want ≤ top then (none, s2)
    else match s2.grvRead (j2.adr + top) (want - top) with
      | (.inr c, s3) => (some c, s3)
      | (.inl bs, s3) => (none, s3.jobWith j.id (fun j => { j with win := j.win ++ bs }))

/-- The image bytes that a job needs at its position on a port: from the group's window, or from memory (R396, R398). -/
def State.imageBytes (s : State) (j : Job) (x : JobPort) (n : Nat) : (List Byte ⊕ Byte) × State :=
  if j.group = 3 ∧ !x.solo then
    match s.winFollow j x.port (x.pos + n) with
    | (some c, s1) => (.inr c, s1)
    | (none, s1) => match s1.job j.id with
      | none => (.inl [], s1)
      | some j1 => (.inl ((j1.win.drop (x.pos - j1.winAt)).take n), s1)
  else s.grvRead (j.adr + x.pos) n

/-! ### WRITE, READ and VERIFY (R376, R393) -/

/-- The endpoint of a job used for `n` bytes: its toggle or sequence number advances by the packets. -/
def State.epUsed (s : State) (p : Port) (num : Nat) (inDir : Bool) (n : Nat) : State :=
  s.lheWith p (fun l => { l with eps := l.eps.map (fun e =>
    if e.num.toNat = num ∧ e.inDir = inDir then
      { e with toggle := (e.toggle + max 1 ((n + max 1 e.maxPacket - 1) / max 1 e.maxPacket)) % (if l.onSs then 32 else 2) }
    else e) })

/-- A zero-length packet ends a WRITE. -/
def State.needsZlp (s : State) (j : Job) (p : Port) : Bool :=
  (j.word 0x24).testBit 8 && match s.endpoint p j.ep false with
    | none => false
    | some e => j.len % max 1 e.maxPacket == 0

/-- The code a data step ends a job with: at its end, or at a short packet. -/
def Job.stepCode (j : Job) (pos : Nat) (short : Bool) (shortCode : Byte) : Option Byte :=
  if j.len ≤ pos then some cOk else if short then some shortCode else none

/-- A job ends on a port if a code says so; its group follows either way. -/
def State.endIf (s : State) (j : Job) (p : Port) : Option Byte → State
  | none => s
  | some c => s.jobEnds j p c

/-- JOB_WRITE: the device has acknowledged bytes of the image. DEDUCED, log 71. -/
def execJobWrite (p : Port) (ans : DevAns) (s : State) : Host.Outcome State Fault Refusal :=
  match s.jobAt p 6 with
  | none => .next s
  | some (j, x) =>
    if s.grvWaits j.adr then .next s else
    .next (s.answered j p (epKey j.ep false) ans (fun s1 a => match a with
      | .taken n =>
        if j.len ≤ x.pos then ((if s.needsZlp j p then s1.epUsed p j.ep false 0 else s1).reply (.bytes [])).jobEnds j p cOk
        else
          let m := min n (j.len - x.pos)
          if m = 0 then s1 else
          (match s1.imageBytes j x m with
          | (.inr c, s2) => s2.jobEnds j p c
          | (.inl bs, s2) =>
            let s3 := ((s2.setPos j p (x.pos + m)).epUsed p j.ep false m).reply (.bytes bs)
            if x.pos + m = j.len && !s3.needsZlp j p then s3.jobEnds j p cOk else s3.groupCheck j.id)
      | _ => s))

/-- JOB_READ: the device has sent bytes. -/
def execJobRead (p : Port) (ans : DevAns) (s : State) : Host.Outcome State Fault Refusal :=
  match s.jobAt p 7 with
  | none => .next s
  | some (j, x) =>
    if s.grvWaits j.adr then .next s else
    .next (s.answered j p (epKey j.ep true) ans (fun s1 a => match a with
      | .data bs short =>
        let got := bs.take (j.len - x.pos)
        (match s1.grvWrite (j.adr + x.pos) got with
        | (some c, s2) => s2.jobEnds j p c
        | (none, s2) =>
          let pos := x.pos + got.length
          ((s2.setPos j p pos).epUsed p j.ep true got.length).endIf j p
            (j.stepCode pos short (if (j.word 0x24).testBit 8 then cOk else cShort)))
      | _ => s))

/-- `LHE_MISMATCH` loaded. -/
def State.setMismatch (s : State) (p : Port) (n : Nat) : State :=
  (s.put (.lhe p) F.LHE_MISMATCH_LO_OFFSET n).put (.lhe p) F.LHE_MISMATCH_HI_OFFSET (n / 2 ^ 32)

/-- The place of the first difference of two lists. -/
def firstDiff : List Byte → List Byte → Option Nat
  | a :: as, b :: bs => if a = b then (firstDiff as bs).map (· + 1) else some 0
  | _, _ => none

/-- VERIFY_COMPARE: the device has sent bytes, which are compared with the image. -/
def execVerifyCompare (p : Port) (ans : DevAns) (s : State) : Host.Outcome State Fault Refusal :=
  match s.jobAt p 9 with
  | none => .next s
  | some (j, x) =>
    if j.byCrc || s.grvWaits j.adr then .next s else
    .next (s.answered j p (epKey j.ep true) ans (fun s1 a => match a with
      | .data bs short =>
        let got := bs.take (j.len - x.pos)
        let r := if got = [] then (.inl [], s1) else s1.imageBytes j x got.length
        (match r with
        | (.inr c, s2) => s2.jobEnds j p c
        | (.inl im, s2) =>
          let pos := x.pos + got.length
          let s3 := (s2.setPos j p pos).epUsed p j.ep true got.length
          match firstDiff got im with
          | some k => (s3.setMismatch p (x.pos + k)).jobEnds j p cMismatch
          | none => match j.stepCode pos short cShort with
            | some c => s3.jobEnds j p c
            | none => s3.groupCheck j.id)
      | _ => s))

/-- VERIFY_CRC: the device has sent bytes, whose CRC-32 is taken. -/
def execVerifyCrc (p : Port) (ans : DevAns) (s : State) : Host.Outcome State Fault Refusal :=
  match s.jobAt p 9 with
  | none => .next s
  | some (j, x) =>
    if !j.byCrc then .next s else
    .next (s.answered j p (epKey j.ep true) ans (fun s1 a => match a with
      | .data bs short =>
        let got := bs.take (j.len - x.pos)
        let crc := crcBytes x.crc got
        let pos := x.pos + got.length
        let s2 := ((s1.setPos j p pos).partWith j.id p (fun x => { x with crc := crc })).epUsed p j.ep true got.length
        if j.len ≤ pos ∧ (crcFinal crc).toNat ≠ j.word 0x38 then (s2.setMismatch p j.len).jobEnds j p cMismatch
        else s2.endIf j p (j.stepCode pos short cShort)
      | _ => s))

/-! ### WAIT (R394) -/

/-- A WAIT on a condition tested; condition 0 is the end of `TIME`. -/
def State.waitTest (s : State) (p : Port) (cond : Nat) : State :=
  match s.jobAt p 10 with
  | none => s
  | some (j, _) => if j.word 0x24 = cond ∧ (cond = 0 ∨ s.waitHolds p cond) then s.jobEnds j p cOk else s

/-- WAIT_TIME. -/
def execWaitTime (p : Port) (s : State) : Host.Outcome State Fault Refusal := .next (s.waitTest p 0)
/-- WAIT_ATTACH. -/
def execWaitAttach (p : Port) (s : State) : Host.Outcome State Fault Refusal := .next (s.waitTest p 1)
/-- WAIT_DETACH. -/
def execWaitDetach (p : Port) (s : State) : Host.Outcome State Fault Refusal := .next (s.waitTest p 2)
/-- WAIT_VBUS_ON. -/
def execWaitVbusOn (p : Port) (s : State) : Host.Outcome State Fault Refusal := .next (s.waitTest p 3)
/-- WAIT_USB_CONNECT. -/
def execWaitUsbConnect (p : Port) (s : State) : Host.Outcome State Fault Refusal := .next (s.waitTest p 4)

/-! ### STOP (R389) -/

/-- The CAPTUREs of a port that have not begun there end with a code; one whose chain a completion entry holds has not been reached. -/
def State.capsQuit (s : State) (p : Port) (code : Byte) : State :=
  s.graver.jobs.foldl (fun s j => if j.op = 8 ∧ j.live p ∧ !s.chainHeld j.chain ∧ !s.graver.caps.any (fun c => c.job == j.id && c.port == p) then
    s.jobEnds j p code else s) s

/-- The part of a STOP carried out on one port: 0 running, 1 captures, 2 queued. -/
def State.stopOn (s : State) (what : Nat) (p : Port) : State :=
  match what with
  | 0 => s.runEnds p cStopped
  | 1 => (s.capsQuit p cStopped).capsEnd p cStopped
  | _ => s.graver.jobs.foldl (fun s j => if j.queued && !j.started && j.live p then s.jobEnds j p cStopped else s) s

/-- The first STOP of a port with a flag that has not been carried out, and whose chain is not held (R382). -/
def State.stopJob (s : State) (p : Port) (what : Nat) : Option Job :=
  s.graver.jobs.find? (fun j => j.op == 12 && j.live p && !s.chainHeld j.chain && (j.word 0x24).testBit what &&
    !j.ports.any (fun x => x.phase.testBit what))

/-- One flag of a STOP carried out on all of its ports; with the last one it ends with OK. -/
def State.stopStep (s : State) (p : Port) (what : Nat) : State :=
  if !s.grvUp then s else
  match s.stopJob p what with
  | none => s
  | some j =>
    let live := j.ports.filter (fun x => x.code.isNone)
    let s1 := live.foldl (fun s x => s.stopOn what x.port) s
    let s2 := s1.jobWith j.id (fun j => { j with ports := j.ports.map (fun x => { x with phase := x.phase ||| 2 ^ what }) })
    match s2.job j.id with
    | none => s2
    | some j2 => if live.all (fun x => x.phase ||| 2 ^ what == j2.word 0x24) then s2.jobEndsAll j2 cOk else s2

/-- STOP_RUNNING. -/
def execStopRunning (p : Port) (s : State) : Host.Outcome State Fault Refusal := .next (s.stopStep p 0)
/-- STOP_CAPTURES. -/
def execStopCaptures (p : Port) (s : State) : Host.Outcome State Fault Refusal := .next (s.stopStep p 1)
/-- STOP_QUEUED. -/
def execStopQueued (p : Port) (s : State) : Host.Outcome State Fault Refusal := .next (s.stopStep p 2)

/-! ### Captures (R400–R402) -/

/-- The first CAPTURE of a kind that has not begun on a port, and whose chain is not held (R382). -/
def State.capWaiting (s : State) (p : Port) (cdc : Bool) : Option Job :=
  s.graver.jobs.find? (fun j => j.op == 8 && !s.chainHeld j.chain && j.isCdc == cdc && j.ports.any (fun x => x.port == p && x.code.isNone && x.phase == 0))

/-- The engines of a port can act: graver, port and LHE page up. -/
def State.lheUp (s : State) (p : Port) : Bool := s.grvUp && s.portUp p && s.pageOn (.lhe p)

/-- The SET_CONTROL_LINE_STATE with which a CDC capture begins under `DTR` (R400). -/
def Job.dtrSetup (j : Job) : List Byte := setupBytes 0x21 0x22 0x0003 (j.word 0x24 / 2 ^ 16 % 256)

/-- A capture begins on a port, or ends there at once. -/
def State.capBegin (s : State) (j : Job) (p : Port) : State :=
  match s.startCode j p with
  | some c => s.jobEnds j p c
  | none =>
    if s.capRuns p j.isCdc then s.jobEnds j p cBusy else
    let dtr := j.isCdc && (j.word 0x24).testBit 2
    let c : Capture := ⟨j.id, j.ring, p, j.isCdc, (j.word 0x24).testBit 1, j.adr, j.word 0x30, [], false, none, s.jobSs j p, dtr⟩
    let s1 := ((s.setPhase j p 1).put (.lhe p) F.LHE_CAP_WR_RECORDS 0).grvWith (fun g => { g with caps := g.caps ++ [c] })
    if dtr then s1.reply (.bytes j.dtrSetup) else s1

/-- CAPTURE_SBU: a capture of kind 0 begins. -/
def execCaptureSbu (p : Port) (s : State) : Host.Outcome State Fault Refusal :=
  if !s.lheUp p then .next s else
  match s.capWaiting p false with
  | none => .next s
  | some j => .next (s.capBegin j p)

/-- Bytes of a CDC poll taken, stamped as they arrive. -/
def State.capBytesIn (s : State) (p : Port) (bs : List Byte) : State := bs.foldl (fun s b => s.capTake p true (.byte b false s.now)) s

/-- A poll of a running CDC capture, after the acknowledge of the request with which it began (R376, R400, R402). -/
def State.capPoll (s : State) (c : Capture) (p : Port) (ans : DevAns) : State :=
  let ep := match s.job c.job with
    | none => 0
    | some j => j.ep
  let k := if c.dtr then epKey 0 false else epKey ep true
  if !s.devHere p c.ss then s.capEnds p true cDetached else
  match ans with
  | .stall => (s.xactStall p k).capEnds p true cStall
  | .err => (match s.xactErr p k with
    | (true, s1) => s1.capEnds p true cXactErr
    | (false, s1) => s1)
  | .taken _ => if c.dtr then (s.xactOk p k).capWith p true (fun c => { c with dtr := false }) else s
  | .data bs _ => if c.dtr then s else ((s.xactOk p k).epUsed p ep true bs.length).capBytesIn p bs
  | _ => s

/-- CAPTURE_CDC: a waiting capture begins, with SET_CONTROL_LINE_STATE where `DTR` asks for it; or a step of the running one. -/
def execCaptureCdc (p : Port) (ans : DevAns) (s : State) : Host.Outcome State Fault Refusal :=
  if !s.lheUp p then .next s else
  match s.capWaiting p true with
  | some j => .next (s.capBegin j p)
  | none => match s.cap p true with
    | none => .next s
    | some c => if c.ended.isSome then .next s else .next (s.capPoll c p ans)

/-- CAPTURE_RECORD_CLOSE: a record that is full or whose break has ended, or an open one after `IDLE_CLOSE`. -/
def execCaptureRecordClose (p : Port) (cdc : Bool) (why : CloseWhy) (s : State) : Host.Outcome State Fault Refusal :=
  if !s.grvUp || s.grvWaits 0 then .next s else
  match s.cap p cdc with
  | none => .next s
  | some c =>
    let r := capGather [] 0 none c.items
    if c.ended.isNone && (r.closed || (why == .idle && r.stamp.isSome)) then .next (s.capWrite c r false) else .next s

/-- CON_RX_BYTE (R224, R225, R400): the tap receives a byte or a break; an SBU capture takes it in place of the FIFO. -/
def execConRxByte (p : Port) (ch : RxChar) (s : State) : Host.Outcome State Fault Refusal :=
  if !s.portUp p || !s.flag (.con p) F.CON_STATUS_ROUTED then .next s
  else
    let capd := s.capRuns p false
    match ch with
    | .byte data fe parity =>
      let b := s.conBits p data
      let pe := parity && s.conParity p
      if !s.pageOn (.con p) then .next (s.countErr (.con p) p F.CON_CNT_OVERRUN)
      else if capd then
        .next ((if fe then s.countErr (.con p) p F.CON_CNT_FRAMING else s).capTake p false (.byte b (fe || pe) s.now))
      else .next (s.conReceive p ⟨b, fe, pe⟩)
    | .brk => .next (if capd then (s.conBreak p).capTake p false (.brk s.now) else s.conBreak p)
    | .brkEnd =>
      let s1 := s.put (.con p) F.CON_STATUS_BREAK 0
      .next (if capd then s1.capTake p false .brkEnd else s1)

/-! ### Ends, time-outs, completions (R382, R385, R402, R405) -/

/-- JOB_END: the first finished job of a port whose chain no completion entry holds. -/
def execJobEnd (p : Port) (s : State) : Host.Outcome State Fault Refusal :=
  if !s.grvUp then .next s else
  let s1 := (s.capFinish p false).capFinish p true
  match s1.graver.jobs.find? (fun j => j.has p && j.finished && !s1.chainHeld j.chain) with
  | none => .next s1
  | some j => .next (s1.finishJob j)

/-- JOB_TIMEOUT: of the running queued job, or of a capture of the kind given, which ends with OK. -/
def execJobTimeout (p : Port) (cap : Option Bool) (s : State) : Host.Outcome State Fault Refusal :=
  if !s.grvUp then .next s else
  match cap with
  | none => (match s.running p with
    | none => .next s
    | some j => if j.word 0x20 = 0 then .next s else .next (s.jobEnds j p cTimeout))
  | some cdc => (match s.cap p cdc with
    | none => .next s
    | some c => match s.job c.job with
      | none => .next s
      | some j => if j.word 0x20 = 0 then .next s else .next (s.capEnds p cdc cOk))

/-- The oldest completion entry of a ring. -/
def State.firstCompletion (s : State) (r : RingIx) : Option Completion := s.graver.completions.find? (fun c => c.ring == r)

/-- The oldest entry of a ring changed, or removed. -/
def replaceFirst (r : RingIx) (f : Completion → List Completion) : List Completion → List Completion
  | [] => []
  | c :: t => if c.ring = r then f c ++ t else c :: replaceFirst r f t

/-- An entry written where the producer index points, or RING_FAULT kind 2 and another try later. -/
def State.completionWrite (s : State) (r : RingIx) (c : Completion) : State :=
  let prod := s.get .grv (F.GRV_CRr_PROD_PROD r.val)
  let a := s.crBase r + 32 * prod
  let failed (s : State) : State :=
    (s.ringFault r 2 prod).grvWith (fun g => { g with completions := replaceFirst r (fun c => [{ c with failed := true }]) g.completions })
  if s.crFull r || s.ringBad r || s.grvWaits a then s
  else if !s.ringThere a 32 then failed (s.noteBeyond a 32)
  else match s.grvWrite a c.bytes with
    | (some _, s1) => failed s1
    | (none, s1) => (s1.put .grv (F.GRV_CRr_PROD_PROD r.val) ((prod + 1) % s.crSize r)).grvWith (fun g =>
        { g with completions := replaceFirst r (fun _ => []) g.completions })

/-- COMPLETION_WRITE. -/
def execCompletionWrite (r : RingIx) (s : State) : Host.Outcome State Fault Refusal :=
  match s.firstCompletion r with
  | none => .next s
  | some c => if !s.grvUp || c.failed then .next s else .next (s.completionWrite r c)

/-- COMPLETION_RETRY. -/
def execCompletionRetry (r : RingIx) (s : State) : Host.Outcome State Fault Refusal :=
  match s.firstCompletion r with
  | none => .next s
  | some c => if !s.grvUp || !c.failed then .next s else .next (s.completionWrite r c)

/-! ### Register effects (R378, R381, R406, R407) -/

/-- A write of the producer index: a doorbell, or DB_RANGE with RING_FAULT (R381). -/
def State.ringDoorbell (s : State) (r : RingIx) (v : Nat) : State :=
  if s.jrSize r ≤ v then (s.setFault .grv 8).ringFault r 0 v else s.put .grv (F.GRV_JRr_PROD_PROD r.val) v

/-- The chains of ring r end with STOPPED and without completions, and its indices return to 0 (R406). DEDUCED, log 72. -/
def State.ringRestart (s : State) (r : RingIx) : State :=
  let mine (j : Job) : Bool := j.ring == r
  let s1 := s.graver.caps.foldl (fun s c => if c.ring = r then s.capEnds c.port c.cdc cStopped else s) s
  let s2 := (s1.graver.jobs.filter mine).foldl (fun s j => s.jobEndsAll j cStopped) s1
  let s3 := (s2.graver.jobs.filter mine).foldl (fun s j => s.noteJob j) s2
  let s4 := s3.grvWith (fun g => { g with jobs := g.jobs.filter (fun j => !mine j), completions := g.completions.filter (fun c => c.ring != r) })
  ((((s4.putRw .grv (F.GRV_JRr_PROD_PROD r.val) 0).put .grv (F.GRV_JRr_CONS_CONS r.val) 0).put .grv (F.GRV_CRr_PROD_PROD r.val) 0).putRw
    .grv (F.GRV_CRr_CONS_CONS r.val) 0)

/-- The buffer window is closed: DRAM is fitted, or its pointer mismatches (R378, R407). -/
def State.bufShut (s : State) : Bool := !s.noDram || s.badFound .grv 0x4C

/-- The pointer one word on, wrapping at 2 MiB. -/
def State.bufStep (s : State) : State := s.putRw .grv F.GRV_BUF_PTR_PTR (s.get .grv F.GRV_BUF_PTR_PTR + 1)

/-- A write of `GRV_BUF_WDATA`: the enabled bytes stored. -/
def State.bufWrite (s : State) (be : BitVec 4) (v : Word) : State :=
  if s.bufShut then s.setFault .grv 10 else
  let a := 4 * s.get .grv F.GRV_BUF_PTR_PTR
  let s1 := ([0, 1, 2, 3] : List Nat).foldl (fun s i =>
    if be.getLsbD i then s.bufPut (a + i) [BitVec.ofNat 8 (v.toNat >>> (8 * i))] else s) s
  s1.bufStep

/-- A read of `GRV_BUF_RDATA`: zero with DRAM fitted, and under a mismatch of the pointer recorded as R151 does (R378, R407). -/
def State.bufRead (s : State) : Word × State :=
  if s.badFound .grv 0x4C then (0, s.setFault .grv 10)
  else if s.bufShut then (0, s)
  else (BitVec.ofNat 32 (leNat (s.bufGet (4 * s.get .grv F.GRV_BUF_PTR_PTR) 4) 0 4), s.bufStep)

end Sys2Proof.Machine
end

