-- ==== Sys2Proof/Machine/Mgf.lean ====
section
/-! DEFINITION. The management function (chapter 14): its endpoint memory, vendor requests and their stores, the bulk DRAM pipe,
event notices, and the standard requests that change its endpoints. -/

namespace Sys2Proof.Machine

/-! ### Endpoint memory (R350) -/

/-- Offset of presentation `u` in the endpoint memory. -/
def epmBase (u : Up) : Nat := 0x9000 * u.val
def epmEp2 : Nat := 0x0000
def epmEp3 : Nat := 0x4000
def epmEp0 : Nat := 0x8000
def epmEp1 : Nat := 0x8200
def epmEp0Other : Nat := 0x8240

/-- Bytes put in the endpoint memory from an offset. -/
def State.epmPut (s : State) (off : Nat) : List Byte → State
  | [] => s
  | b :: bs => State.epmPut { s with epm := Sparse.put (fun _ => (0 : Byte)) s.epm off b } (off + 1) bs

/-- `n` bytes of the endpoint memory from an offset. -/
def State.epmGet (s : State) (off n : Nat) : List Byte :=
  (List.range n).map (fun i => Sparse.get (fun _ => (0 : Byte)) s.epm (off + i))

/-- A parity mismatch found in a byte sent or executed: counted and recorded with its area (R350, R372). -/
def State.epmError (s : State) (u : Up) (area : Nat) : State :=
  (((s.count .epm F.EPM_ERR_PARITY_ERRS).put .epm F.EPM_STATUS_LAST_AREA area).put .epm F.EPM_STATUS_LAST_PRES u.val).setFault .epm 8

/-! ### Control requests -/

/-- The management function of a presentation is reached: native mode, presented on an attached upstream port (R347, R427). -/
def State.fnThere (s : State) (u : Up) : Bool := s.coreUp && !s.compat && s.presAttached u

/-- An instance of the function is reached: the SuperSpeed one only while the upstream link is up (R347). -/
def State.fnHears (s : State) (u : Up) (ss : Bool) : Bool := s.fnThere u && (!ss || decide (s.upState u ≤ 3 ∨ s.upState u = lkRecovery))

/-- A STALL given on EP0. -/
def State.fnStall (s : State) (u : Up) : State := (s.count .mgf (F.MGF_Uu_CNT_STALLS u.val)).reply .stall

/-- An endpoint of an instance has no data or space: NAK, or NRDY on SuperSpeed, which is noted (R364). -/
def State.epBusy (s : State) (fi : FnInst) (ep : Fin 4) : State :=
  if fi.ss then (s.mgfWith fi.up (fun m => { m with nrdy := m.nrdy.set ep true })).reply .nrdy else s.reply .nak

/-- What an endpoint that answered NRDY waits for (R364). -/
def State.epReady (s : State) (u : Up) (ep : Fin 4) : Bool :=
  let m := s.mgf u
  match ep with
  | 0 => match m.exec with
    | none => true
    | some e => e.finished
  | 1 => m.noticeOut || s.flag .mgf (F.MGF_Uu_STATUS_NOTICE_PENDING u.val)
  | 2 => m.ep2Cmd.isNone
  | 3 => m.ep3Len != 0

/-- The endpoints whose ERDY the SuperSpeed instance sends: those that have answered NRDY and are ready now (R364). -/
def State.erdy (s : State) (u : Up) : List (Fin 4) :=
  ([0, 1, 2, 3] : List (Fin 4)).filter (fun ep => (s.mgf u).nrdy[ep] && s.epReady u ep)

/-- An endpoint answers otherwise than with NRDY: nothing is owed. -/
def State.epServed (s : State) (u : Up) (ep : Fin 4) : State := s.mgfWith u (fun m => { m with nrdy := m.nrdy.set ep false })

/-- A vendor request reaches an instance: STALL unless it is the one in service, configured, with the page on (R348, R353, R52); NAK or NRDY
while another request executes (R357, R364). DEDUCED, log 69. -/
def State.vendor (s : State) (fi : FnInst) (ok : Bool) (act : State) : State :=
  let u := fi.up
  let i := (s.mgf u).inst fi.ss
  if !s.fnHears u fi.ss || i.suspended then s.reply .silent
  else if fi.ss ≠ s.ssServes u ∨ i.st ≠ 2 ∨ !s.pageOn .mgf ∨ !ok then s.fnStall u
  else if (s.mgf u).exec.isSome then s.epBusy fi 0
  else act

/-- The owner ID of a host agent. -/
def hostOwner (u : Up) : Byte := BitVec.ofNat 8 (u.val + 2)

/-- `MGT_HOST_GRANT` of a host agent. -/
def State.hostGrant (s : State) (u : Up) : Bool := s.cfgFlag .mgt (if u = 0 then F.MGT_HOST_GRANT_H0_WR else F.MGT_HOST_GRANT_H1_WR)

/-- The result store takes the outcome of a request (R358). -/
def State.setResult (s : State) (u : Up) (breq : Byte) (granted refused : Bool) (sts : List Byte) : State :=
  s.mgfWith u (fun m =>
    { m with result := breq :: BitVec.ofNat 8 sts.length :: hostOwner u :: BitVec.ofNat 8 (bit granted + 2 * bit refused) :: sts })

/-- A vendor request has been executed, counted. -/
def State.countVendor (s : State) (u : Up) : State := s.count .mgf (F.MGF_Uu_CNT_VENDOR_REQS u.val)

/-- A vendor request in execution set or ended. -/
def State.setExec (s : State) (u : Up) (e : Option VendorExec) : State :=
  (s.mgfWith u (fun m => { m with exec := e })).mgfSync u

/-- Execution of a request begins. -/
def State.vendorBegin (s : State) (u : Up) (breq : Byte) (addr len : Nat) (data : List Byte) : State :=
  (s.setExec u (some ⟨breq, s.hostGrant u, false, [], 0, addr, len, data, false, false⟩)).countVendor u

/-- The words of a register request are all done: their results stand (R355). -/
def State.vendorWords (s : State) (u : Up) (ws : List WordResult) : State :=
  s.mgfWith u (fun m => { m with exec := m.exec.map (fun e => { e with words := ws, finished := true }) })

/-- The access of a DRAM request, whole, once the controller serves it (R356, R52). -/
def State.vendorDram (s : State) (u : Up) : State :=
  match (s.mgf u).exec with
  | none => s
  | some e =>
    if e.finished || !s.dramServes then s
    else if e.breq = 5 then
      let (st, bs, _, s1) := s.hostRead u e.addr e.len
      s1.mgfWith u (fun m => { m with exec := some { e with dramStatus := st, data := bs, finished := true } })
    else if e.breq = 6 then
      let (st, _, s1) := s.hostWrite u e.addr e.data
      s1.mgfWith u (fun m => { m with exec := some { e with dramStatus := st, finished := true } })
    else s

/-- How many of `n` words of an access in progress a reset of the DRAM controller finds done: a free number. DESIGN CHOICE, log 87. -/
def State.wordsDone (s : State) (n : Nat) : Nat × State := let r := s.free; (r.1.toNat % n, r.2)

/-- A DRAM access of a host agent that the reset of the controller cuts after some of its words: the bytes read, zero from the failing word
on, and that word's address (R356 status 4, R20). A range error stands, as the access has never begun. -/
def State.hostCut (s : State) (u : Up) (write : Bool) (a n : Nat) (data : List Byte) : Byte × List Byte × Failed × State :=
  if !s.hostInWin u a n then (2, List.replicate n 0, some a, s.count .drc F.DRC_CNT_RANGE) else
  let r := s.wordsDone (n / 4)
  let k := 4 * r.1
  if write then (4, [], some (a + k), (r.2.hostWrite u a (data.take k)).2.2)
  else
    let q := r.2.hostRead u a k
    (4, q.2.1 ++ List.replicate (n - k) 0, some (a + k), q.2.2.2)

/-- A DRAM request in execution meets a reset of the DRAM controller (R356 status 4, R20). -/
def State.vendorCut (s : State) : State :=
  ([0, 1] : List Up).foldl (fun s u => match (s.mgf u).exec with
    | none => s
    | some e =>
      if e.finished || !(e.breq = 5 || e.breq = 6) || !s.dramUp || !s.dramServes then s
      else
        let q := s.hostCut u (e.breq == 6) e.addr e.len e.data
        q.2.2.2.mgfWith u (fun m => { m with exec := some { e with dramStatus := q.1, data := q.2.1, finished := true } })) s

/-- The bytes of a register request entry (R354): data, word status, zeros. -/
def entryBytes (w : WordResult) : List Byte := leBytes 4 w.data.toNat ++ [BitVec.ofNat 8 w.status.val, 0, 0, 0]

/-- The data stage of a finished read. -/
def VendorExec.stageBytes (e : VendorExec) : List Byte :=
  if e.breq = 1 then e.words.flatMap entryBytes else if e.breq = 5 then e.data else []

/-- The status bytes of a finished request. -/
def VendorExec.statuses (e : VendorExec) : List Byte :=
  if e.breq = 1 ∨ e.breq = 2 then e.words.map (fun w => BitVec.ofNat 8 w.status.val) else [e.dramStatus]

/-- VENDOR_REQUEST_DONE: the stores take the outcome, a refusal under R354 among them; the data or status stage follows, a STALL after a
refusal, unless a reset has met the request (R357, R358). DEDUCED, log 69. -/
def execVendorRequestDone (u : Up) (parityErr : Bool) (s : State) : Host.Outcome State Fault Refusal :=
  let s0 := s.vendorDram u
  match (s0.mgf u).exec with
  | none => .next s
  | some e =>
    if !e.finished then .next (s0.epBusy ⟨u, s.ssServes u⟩ 0) else
    let s1 := ((s0.setExec u none).setResult u e.breq e.granted e.refused e.statuses).epServed u 0
    let bs := e.stageBytes
    let read := e.breq = 1 ∨ e.breq = 5
    let s2 := if read then s1.mgfWith u (fun m => { m with replay := bs }) else s1
    if e.lost then .next (s2.reply .silent)
    else if e.refused then .next (s2.fnStall u)
    else if read then
      let s3 := s2.epmPut (epmBase u + epmEp0) bs
      .next (if parityErr then (s3.epmError u 0).fnStall u else s3.reply (.bytes bs))
    else .next (s2.reply .ack)

/-- Its wValue and wIndex are zero (R353). -/
def storePlain (rq : StoreReq) : Bool := rq.value == 0 && rq.index == 0

/-- GET_RESULT (R358). DEDUCED, log 69. -/
def execGetResult (fi : FnInst) (rq : StoreReq) (parityErr : Bool) (s : State) : Host.Outcome State Fault Refusal :=
  let u := fi.up
  let store := if (s.mgf u).result = [] then [0, 0, hostOwner u, 0] else (s.mgf u).result
  .next (s.vendor fi (storePlain rq && decide (1 ≤ rq.len ∧ rq.len ≤ 68))
    (if parityErr then (s.epmError u 5).fnStall u else (s.countVendor u).reply (.bytes (store.take rq.len))))

/-- VENDOR_REPLAY (R359). -/
def execVendorReplay (fi : FnInst) (rq : StoreReq) (parityErr : Bool) (s : State) : Host.Outcome State Fault Refusal :=
  let u := fi.up
  .next (s.vendor fi (storePlain rq && decide (1 ≤ rq.len ∧ rq.len ≤ 512))
    (if parityErr then (s.epmError u 5).fnStall u else (s.countVendor u).reply (.bytes ((s.mgf u).replay.take rq.len))))

/-- A length of a DRAM request that R353 allows. -/
def dramLen (n : Nat) : Bool := decide (4 ≤ n ∧ n ≤ 512) && n % 4 == 0

/-- DRAM_READ: execution begins at SETUP; its data follow at VENDOR_REQUEST_DONE. -/
def execDramRead (fi : FnInst) (waddr : BitVec 32) (len : Nat) (s : State) : Host.Outcome State Fault Refusal :=
  .next (s.vendor fi (dramLen len) ((s.vendorBegin fi.up 5 (4 * waddr.toNat) len []).reply .waits))

/-- DRAM_WRITE, its data stage complete. -/
def execDramWrite (fi : FnInst) (waddr : BitVec 32) (data : List Byte) (parityErr : Bool) (s : State) : Host.Outcome State Fault Refusal :=
  let u := fi.up
  .next (s.vendor fi (dramLen data.length)
    (let s1 := s.epmPut (epmBase u + epmEp0) data
     if parityErr then (s1.epmError u 0).fnStall u
     else (s1.vendorBegin u 6 (4 * waddr.toNat) data.length data).reply .waits))

/-! ### The bulk DRAM pipe (R362, R363) -/

/-- The instance in service moves data on EP1–EP3: configured, not suspended, the page on (R348, R52). -/
def State.epServes (s : State) (u : Up) : Bool :=
  let i := (s.mgf u).inst (s.ssServes u)
  s.fnHears u (s.ssServes u) && i.st == 2 && !i.suspended && s.pageOn .mgf

/-- An instance moves data on EP1–EP3; the other answers as if no data or space were available (R348). -/
def State.epMoves (s : State) (fi : FnInst) : Bool := fi.ss == s.ssServes fi.up && s.epServes fi.up

/-- An endpoint is halted. -/
def State.epHalted (s : State) (u : Up) (ep : Nat) : Bool := (s.get .mgf (F.MGF_Uu_STATUS_HALT u.val)).testBit (ep - 1)

/-- An endpoint's halt set or cleared. -/
def State.setHalt (s : State) (u : Up) (ep : Nat) (b : Bool) : State :=
  s.setFlag .mgf (fldBit (F.MGF_Uu_STATUS_HALT u.val) (ep - 1)) b

/-- The packets that carry `n` bytes of a bulk endpoint, by the speed of the instance in service (R351). -/
def State.packets (s : State) (u : Up) (n : Nat) : Nat :=
  let size := if s.ssServes u then 1024 else if (s.hub (.pres u)).speed = 2 then 512 else 64
  max 1 ((n + size - 1) / size)

/-- The next toggle or sequence number of EP1–EP3 after `k` acknowledged packets (R364). -/
def State.stepSeq (s : State) (u : Up) (i : Fin 3) (k : Nat) : State :=
  let ss := s.ssServes u
  s.mgfWith u (fun m => { m with seq := m.seq.set i (if ss then m.seq[i] + BitVec.ofNat 5 k else m.seq[i] ^^^ BitVec.ofNat 5 (k % 2)) })

/-- A command block keeps the rules of R362. -/
def bulkValid (bs : List Byte) : Bool :=
  let op := byteAt bs 0
  let len := leNat bs 4 4
  (op == 1 || op == 2) && byteAt bs 1 == 0 && len % 4 == 0 && decide (4 ≤ len ∧ len ≤ 16368) &&
    leNat bs 8 8 % 4 == 0 && decide (leNat bs 8 8 < 2 ^ 34)

/-- The bytes of a bulk command are complete: the block, and the data of a WRITE. DESIGN CHOICE, log 7. -/
def bulkWhole (bs : List Byte) : Bool :=
  bs.length == (if bulkValid bs && byteAt bs 0 == 2 then 16 + leNat bs 4 4 else 16)

/-- BULK_COMMAND. Packets whose toggle or sequence number has been taken already are acknowledged and discarded (R364). -/
def execBulkCommand (at_ : EpAt) (bytes : List Byte) (s : State) : Host.Outcome State Fault Refusal :=
  let u := at_.inst.up
  if !bulkWhole bytes then .fault .illFormed
  else if !s.epMoves at_.inst then .next (s.epBusy at_.inst 2)
  else if s.epHalted u 2 then .next (s.reply .stall)
  else if at_.seq ≠ (s.mgf u).seq[1] then .next (s.reply .ack)
  else if (s.mgf u).ep2Cmd.isSome then .next (s.epBusy at_.inst 2)
  else if !bulkValid bytes then
    .next ((((s.setHalt u 2 true).mgfWith u (fun m => { m with ep2Len := 0 })).count .mgf (F.MGF_Uu_CNT_STALLS u.val)).reply .ack)
  else
    let cmd : BulkCmd := ⟨byteAt bytes 0 == 2, BitVec.ofNat 16 (leNat bytes 2 2), leNat bytes 4 4, leNat bytes 8 8, false⟩
    let s1 := (s.epmPut (epmBase u + epmEp2) bytes).mgfWith u (fun m => { m with ep2Len := bytes.length, ep2Cmd := some cmd })
    .next ((((s1.stepSeq u 1 (s.packets u bytes.length)).epServed u 2).mgfSync u).reply .ack)

/-- The byte address of the first word of a request that fails: for a range error the first that lies outside (R363).
DEDUCED, log 70. -/
def State.bulkFailAddr (s : State) (u : Up) (st : Byte) (a n : Nat) (f : Failed) : Nat :=
  match f with
  | none => 0
  | some x =>
    if st = 2 then a + 4 * ((List.range (n / 4)).find? (fun i => !s.hostInWin u (a + 4 * i) 4)).getD 0 else x / 4 * 4

/-- The status block (R363). -/
def bulkStatus (c : BulkCmd) (st : Byte) (done fail : Nat) : List Byte :=
  [if c.write then 2 else 1, st] ++ leBytes 2 c.tag.toNat ++ leBytes 4 done ++ leBytes 8 fail

/-- A bulk command has executed: recorded in `MGF_Uu_BULK`, EP2 freed, its response placed in EP3 unless it is lost. DEDUCED, log 70. -/
def State.bulkDone (s : State) (u : Up) (c : BulkCmd) (st : Byte) (data : List Byte) (f : Failed) : State :=
  let fail := s.bulkFailAddr u st c.addr c.len f
  let moved := if st = 0 then c.len else if st = 3 ∨ st = 4 then fail - c.addr else 0
  let s1 := ((s.put .mgf (F.MGF_Uu_BULK_TAG u.val) c.tag.toNat).put .mgf (F.MGF_Uu_BULK_STATUS u.val) st.toNat).setFlag
    .mgf (F.MGF_Uu_BULK_WRITE u.val) c.write
  let s2 := (s1.put .mgf (F.MGF_Uu_BULK_VALID u.val) 1).setFlag .mgf (F.MGF_Uu_BULK_LOST u.val) c.lost
  let s3 := s2.mgfWith u (fun m => { m with ep2Cmd := none, ep2Len := 0 })
  if c.lost then s3.mgfSync u else
  let resp := data ++ bulkStatus c st moved fail
  ((s3.epmPut (epmBase u + epmEp3) resp).mgfWith u (fun m => { m with ep3Len := resp.length, ep3Pos := 0 })).mgfSync u

/-- A complete command of a kind that may execute now: EP3 empty, the DRAM served, and the pipe of a live command open.
DEDUCED, log 70. -/
def State.bulkReady (s : State) (u : Up) (write : Bool) : Option BulkCmd :=
  match (s.mgf u).ep2Cmd with
  | none => none
  | some c => if c.write == write && s.dramServes && (c.lost || ((s.mgf u).ep3Len == 0 && s.epServes u)) then some c else none

/-- A bulk command in execution meets a reset of the DRAM controller (R356 status 4, R20, R363). -/
def State.bulkCut (s : State) : State :=
  ([0, 1] : List Up).foldl (fun s u =>
    if !s.dramUp then s else
    match s.bulkReady u false, s.bulkReady u true with
    | some c, _ => let q := s.hostCut u false c.addr c.len []; q.2.2.2.bulkDone u c q.1 q.2.1 q.2.2.1
    | none, some c =>
      let q := s.hostCut u true c.addr c.len (s.epmGet (epmBase u + epmEp2 + 16) c.len)
      q.2.2.2.bulkDone u c q.1 [] q.2.2.1
    | none, none => s) s

/-- EP2 halts on a parity mismatch in its buffer; the command is not executed (R350). -/
def State.ep2Broken (s : State) (u : Up) : State :=
  ((((s.epmError u 2).setHalt u 2 true).mgfWith u (fun m => { m with ep2Cmd := none, ep2Len := 0 })).count
    .mgf (F.MGF_Uu_CNT_STALLS u.val)).mgfSync u

/-- BULK_READ. -/
def execBulkRead (u : Up) (parityErr : Bool) (s : State) : Host.Outcome State Fault Refusal :=
  match s.bulkReady u false with
  | none => .next s
  | some c =>
    if parityErr then .next (s.ep2Broken u) else
    let (st, bs, f, s1) := s.hostRead u c.addr c.len
    .next (s1.bulkDone u c st bs f)

/-- BULK_WRITE. -/
def execBulkWrite (u : Up) (parityErr : Bool) (s : State) : Host.Outcome State Fault Refusal :=
  match s.bulkReady u true with
  | none => .next s
  | some c =>
    if parityErr then .next (s.ep2Broken u) else
    let (st, f, s1) := s.hostWrite u c.addr (s.epmGet (epmBase u + epmEp2 + 16) c.len)
    .next (s1.bulkDone u c st [] f)

/-- EP3_ACK: `n` bytes of the response sent and acknowledged. -/
def execEp3Ack (fi : FnInst) (n : Nat) (parityErr : Bool) (s : State) : Host.Outcome State Fault Refusal :=
  let u := fi.up
  let m := s.mgf u
  if !s.epMoves fi then .next (s.epBusy fi 3)
  else if s.epHalted u 3 then .next (s.reply .stall)
  else if m.ep3Len = 0 then .next (s.epBusy fi 3)
  else if parityErr then
    .next ((((s.epmError u 3).setHalt u 3 true).count .mgf (F.MGF_Uu_CNT_STALLS u.val)).reply .stall)
  else
    let k := min n (m.ep3Len - m.ep3Pos)
    let pos := m.ep3Pos + k
    let done := pos = m.ep3Len
    let s1 := s.mgfWith u (fun m => { m with ep3Pos := if done then 0 else pos, ep3Len := if done then 0 else m.ep3Len })
    .next ((((s1.stepSeq u 2 (s.packets u k)).epServed u 3).mgfSync u).reply (.bytes (s.epmGet (epmBase u + epmEp3 + m.ep3Pos) k)))

/-! ### Notices (R365, R366) -/

/-- Bit n: level n of a queue satisfies a test. -/
def Queue.levelBits (q : Queue) (f : Level → Bool) : Nat :=
  (List.finRange 8).foldl (fun n i => if f q.levels[i] then n + 2 ^ i.val else n) 0

/-- The 16 bytes of a notice. DEDUCED, log 69. -/
def State.noticeBytes (s : State) (u : Up) (count : Byte) : List Byte :=
  let n := hostQueue u
  let q := s.queue n
  [BitVec.ofNat 8 (q.levelBits (fun l => l.recs != [])), BitVec.ofNat 8 (q.levelBits (fun l => l.lost != 0)),
    BitVec.ofNat 8 (s.get .evq (F.EVQ_WMn_WM n.val)), count] ++ leBytes 4 (q.depth % 1024) ++ leBytes 8 s.now.toNat

/-- NOTICE. -/
def execNotice (fi : FnInst) (parityErr : Bool) (s : State) : Host.Outcome State Fault Refusal :=
  let u := fi.up
  if !s.epMoves fi then .next (s.epBusy fi 1)
  else if s.epHalted u 1 then .next (s.reply .stall)
  else
    let m := s.mgf u
    if !m.noticeOut && !s.flag .mgf (F.MGF_Uu_STATUS_NOTICE_PENDING u.val) then .next (s.epBusy fi 1) else
    let s1 := if m.noticeOut then s else
      (s.epmPut (epmBase u + epmEp1) (s.noticeBytes u (m.noticeCount + 1))).mgfWith u
        (fun m => { m with noticeOut := true, noticeCount := m.noticeCount + 1 })
    if parityErr then
      .next ((((s1.epmError u 1).setHalt u 1 true).count .mgf (F.MGF_Uu_CNT_STALLS u.val)).reply .stall)
    else .next ((s1.epServed u 1).reply (.bytes (s1.epmGet (epmBase u + epmEp1) 16)))

/-- NOTICE_ACK. -/
def execNoticeAck (u : Up) (s : State) : Host.Outcome State Fault Refusal :=
  if !(s.mgf u).noticeOut || !s.epServes u then .next s
  else .next (((s.mgfWith u (fun m => { m with noticeOut := false })).put .mgf (F.MGF_Uu_STATUS_NOTICE_PENDING u.val) 0).stepSeq u 0 1)

/-- A notice that has become pending since an earlier state wakes its suspended host (R366). -/
def State.noticeWake (s before : State) : State :=
  ([0, 1] : List Up).foldl (fun s u =>
    let ss := s.ssServes u
    let i := (s.mgf u).inst ss
    if s.flag .mgf (F.MGF_Uu_STATUS_NOTICE_PENDING u.val) && !before.flag .mgf (F.MGF_Uu_STATUS_NOTICE_PENDING u.val) &&
        s.cfgFlag .mgf F.MGF_CFG_WAKE_ON_NOTICE && i.suspended && i.remoteWake && s.fnThere u then
      (if ss then (s.mgfWith u (fun m => { m with wakeDue := true })).upWake u else s.propagate (.pres u))
    else s) s

/-- FUNCTION_WAKE. -/
def execFunctionWake (u : Up) (s : State) : Host.Outcome State Fault Refusal :=
  if (s.mgf u).wakeDue && s.upState u == lkU0 && s.fnThere u then
    .next ((s.mgfWith u (fun m => { m with wakeDue := false })).reply .functionWake)
  else .next s

/-! ### Resets, configuration and halts (R348, R360, R368) -/

/-- FUNCTION_RESET. -/
def execFunctionReset (u : Up) (ss : Bool) (kind : Nat) (s : State) : Host.Outcome State Fault Refusal :=
  if s.fnHears u ss then .next (s.fnReset u ss (kind % 4)) else .next s

/-- EP1–EP3 of the instance in service emptied, with toggles and halts cleared (R368). -/
def State.epRestart (s : State) (u : Up) : State := ((s.emptyEps u).2.clearSeqs u).mgfSync u

/-- SetConfiguration with a value, or SetInterface with an alternate setting (R348, R351, R368). SetConfiguration with a value that the
instance has no configuration for is refused, and empties EP1–EP3 as any other does. DESIGN CHOICE, log 87. -/
def State.fnConfigure (s : State) (u : Up) (ss intf : Bool) (cfg : Nat) : State :=
  let i := (s.mgf u).inst ss
  let known := if intf then i.st == 2 && cfg == 0 else i.st != 0 && decide (cfg ≤ 1)
  if !s.fnHears u ss || i.suspended then s.reply .silent
  else if !known then (if s.ssServes u == ss && !intf then s.epRestart u else s).fnStall u
  else
    let s1 := if intf then s else s.mgfInstWith u ss (fun i => { i with st := if cfg = 1 then 2 else 1 })
    (if s.ssServes u == ss then s1.epRestart u else s1.mgfSync u).reply .ack

/-- MGF_SET_CONFIGURATION. -/
def execMgfSetConfiguration (u : Up) (ss intf : Bool) (cfg : Nat) (s : State) : Host.Outcome State Fault Refusal :=
  .next (s.fnConfigure u ss intf cfg)

/-- A request on an endpoint of an instance: EP1–EP3 themselves belong to the one in service. DESIGN CHOICE, log 87. -/
def State.epRequest (s : State) (fi : FnInst) (ep : Nat) (act : State) : State :=
  let i := (s.mgf fi.up).inst fi.ss
  if !s.fnHears fi.up fi.ss || i.suspended then s.reply .silent
  else if ep = 0 then s.reply .ack
  else if 3 < ep ∨ i.st ≠ 2 then s.fnStall fi.up
  else (if fi.ss = s.ssServes fi.up then act else s).reply .ack

/-- CLEAR_ENDPOINT_HALT: the toggle is zeroed, and the buffer emptied only where the endpoint was halted. -/
def execClearEndpointHalt (fi : FnInst) (ep : Nat) (s : State) : Host.Outcome State Fault Refusal :=
  let u := fi.up
  let was := s.epHalted u ep
  let s1 := (s.mgfWith u (fun m =>
    { m with
      seq := if h : 1 ≤ ep ∧ ep ≤ 3 then m.seq.set (ep - 1) 0 (by omega) else m.seq
      noticeOut := if ep = 1 ∧ was then false else m.noticeOut
      ep2Len := if ep = 2 ∧ was then 0 else m.ep2Len
      ep2Cmd := if ep = 2 ∧ was then none else m.ep2Cmd
      ep3Len := if ep = 3 ∧ was then 0 else m.ep3Len
      ep3Pos := if ep = 3 ∧ was then 0 else m.ep3Pos })).setHalt u ep false
  .next (s.epRequest fi ep (s1.mgfSync u))

/-- SET_ENDPOINT_HALT. -/
def execSetEndpointHalt (fi : FnInst) (ep : Nat) (s : State) : Host.Outcome State Fault Refusal :=
  .next (s.epRequest fi ep (s.setHalt fi.up ep true))

/-- IN_SERVICE_CHANGE: `SS_IN_SERVICE` follows whether the SuperSpeed instance is configured; EP1–EP3 are emptied. -/
def execInServiceChange (u : Up) (s : State) : Host.Outcome State Fault Refusal :=
  let want := (s.mgf u).ss.st == 2 && s.fnHears u true
  if want == s.ssServes u then .next s else
  let s1 := ((s.emptyEps u).2.clearSeqs u).setFlag .mgf (F.MGF_Uu_STATUS_SS_IN_SERVICE u.val) want
  .next ((s1.setFlag .mgf (F.MGF_Uu_STATUS_NOTICE_PENDING u.val) (s1.noticeDue u)).mgfSync u)

end Sys2Proof.Machine
end

