-- ==== Sys2Proof/Machine/SsQueue.lean ====
section
/-! DEFINITION. The SuperSpeed packet fabric (R298, R299, R308, R312, R313, R449): route-string decode and the queues. -/

namespace Sys2Proof.Machine

/-- Bytes a packet occupies with its header and CRCs (R312). -/
def packetBytes (p : SsPacket) : Nat := 24 + p.payload

/-- Bytes a queue holds. -/
def queueBytes (q : List SsPacket) : Nat := q.foldl (fun n p => n + packetBytes p) 0

/-- A queue has room for a packet: 32 KiB (R312). -/
def hasRoom (q : List SsPacket) (p : SsPacket) : Bool := decide (queueBytes q + packetBytes p ≤ 32768)

/-- The packets of a queue. -/
def State.ssq (s : State) (q : SsQueue) : List SsPacket :=
  match q with
  | .portDown f => (s.ssp f).down
  | .portUp f => (s.ssp f).up
  | .rootDown u k => (s.upLk u).down[k]
  | .rootUp u k => (s.upLk u).up[k]

/-- A queue replaced. -/
def State.setSsq (s : State) (q : SsQueue) (l : List SsPacket) : State :=
  match q with
  | .portDown f => s.sspWith f (fun x => { x with down := l })
  | .portUp f => s.sspWith f (fun x => { x with up := l })
  | .rootDown u k => s.upLkWith u (fun x => { x with down := x.down.set k l })
  | .rootUp u k => s.upLkWith u (fun x => { x with up := x.up.set k l })

/-- The nibble of a route string that a hub depth selects (R298). -/
def routeNibble (route : BitVec 20) (depth : Nat) : Nat := (route.toNat >>> (4 * depth)) % 16

/-- A header that a root hub discards, counted. DEDUCED, log 65. -/
def State.rootDrop (s : State) (u : Up) : State := s.ssHubWith (.root u) (fun h => { h with drops := h.drops + 1 })

/-- A packet put in a queue, or not taken while the queue has no room: the link behind it then has no credit (R313). -/
def State.ssPush (s : State) (q : SsQueue) (p : SsPacket) : State :=
  if hasRoom (s.ssq q) p then (s.setSsq q (s.ssq q ++ [p])).reply .ack else s.reply .waits

/-- A header that enters on an upstream link, decoded by the root hub. -/
def State.fromHost (s : State) (u : Up) (p : SsPacket) : State :=
  if p.itp then (s.presWith u (fun x => { x with tsLive := true, suspEnded := false })).reply .silent else
  match (s.ssHub (.root u)).depth with
  | none => (s.rootDrop u).reply .silent
  | some d =>
    let n := routeNibble p.route d.val
    if n = 0 ∨ n = 5 then s.reply .silent
    else if h : 1 ≤ n ∧ n ≤ 4 then s.ssPush (.rootDown u ⟨n - 1, by omega⟩) p
    else (s.rootDrop u).reply .silent

/-- A header that enters on a full port's link: the answer to a packet sent before a move is discarded and counted (R335). -/
def State.fromDevice (s : State) (f : Full) (p : SsPacket) : State :=
  let s1 := s.sspWith f (fun x => { x with awaits := false, stale := false })
  if (s.ssp f).stale then (s1.ssDiscard f 1).reply .silent else s1.ssPush (.portUp f) p

/-- The header errors that a header has taken on its way in, counted at its link (R316). -/
def State.headerErrs (s : State) (hd : SsPacket) : State :=
  match hd.entry with
  | .up u => (s.countBy (.ups u) F.UPS_ERR_HDR_CRC hd.errs.crcs).countBy (.ups u) F.UPS_ERR_LINK_ERR hd.errs.retries
  | .down f => (s.countBy (.ssp f) F.SSP_ERR_HDR_CRC hd.errs.crcs).countBy (.ssp f) F.SSP_ERR_LINK_ERR hd.errs.retries

/-- Payload bytes between a plate switch and the crossbar counted (R449). -/
def State.countSs (s : State) (k : Plate) (n : Nat) : State :=
  let v := s.get .hlt (F.HLT_Pk_SS_BYTES_BYTES k.val) + 2 ^ 32 * s.get .hlt (F.HLT_Pk_SS_BYTES_HI_BYTES k.val) + n
  (s.put .hlt (F.HLT_Pk_SS_BYTES_BYTES k.val) v).put .hlt (F.HLT_Pk_SS_BYTES_HI_BYTES k.val) (v / 2 ^ 32)

/-- A destination link that discards what is routed to it (R313). -/
def ssDead (l : Nat) : Bool := [lkDisabled, lkRxDetect, lkInactive, lkPolling, lkCompliance, lkLoopback].contains l

/-- The head packet of the root queue toward a plate decoded by the plate hub (R298, R299, R308, R313); `rest` is the queue
without it. A header deferred goes back upstream with its Deferred bit set, once there is room for it. -/
def State.toPlate (s : State) (u : Up) (k : Plate) (p : SsPacket) (rest : List SsPacket) : State :=
  let out := s.setSsq (.rootDown u k) rest
  if !s.ssPlateOn k u then out.rootDrop u else
  match (s.ssHub (.plate k u)).depth with
  | none => out.routeDrop k 1
  | some d =>
    let n := routeNibble p.route d.val
    if n = 0 then out
    else if h : 1 ≤ n ∧ n ≤ 4 then
      let f : Full := ⟨4 * k.val + (n - 1), by omega⟩
      let l := s.link f
      let moved := out.countSs k p.payload
      if s.ssSide f ≠ some u then out.routeDrop k 1
      else if ssDead l then out.ssDiscard f 1
      else if l = lkU1 ∨ l = lkU2 then
        let back : SsPacket := { p with entry := .down f, payload := 0, deferred := true }
        if hasRoom (s.ssq (.portUp f)) back then
          let s1 := (out.setLink f lkU0).count (.ssh k) F.SSH_CNT_DEFERRED
          s1.setSsq (.portUp f) (s1.ssq (.portUp f) ++ [back])
        else s
      else if hasRoom (s.ssq (.portDown f)) p then moved.setSsq (.portDown f) (moved.ssq (.portDown f) ++ [p])
      else s
    else out.routeDrop k 1

/-- The port's context is suspended, and forwards nothing downstream (R310). -/
def State.ssHeldDown (s : State) (f : Full) : Bool :=
  match s.ssSide f with
  | none => false
  | some u => (s.ssHub (.plate (fullPlate f) u)).suspended

/-- PACKET_FORWARD: the head packet of a queue moves on once the next queue or link takes it (R313). DESIGN CHOICE, log 74. -/
def execPacketForward (mv : SsSend) (s : State) : Host.Outcome State Fault Refusal :=
  let q := mv.queue
  match s.ssq q with
  | [] => .next s
  | p :: rest =>
    match q with
    | .portDown f =>
      if s.link f = lkU0 && !s.ssHeldDown f then
        .next (((s.setSsq q rest).sspWith f (fun x => { x with awaits := true, stale := false })).countBy (.ssp f) F.SSP_ERR_LINK_ERR mv.retries)
      else .next s
    | .portUp f =>
      let k := fullPlate f
      match s.ssSide f with
      | none => .next (s.setSsq q rest |>.ssDiscard f 1)
      | some u =>
        if s.ssPlateOn k u && s.pageOn (.ssh k) && hasRoom (s.ssq (.rootUp u k)) p then
          let s1 := (s.setSsq q rest).countSs k p.payload
          .next (s1.setSsq (.rootUp u k) (s1.ssq (.rootUp u k) ++ [p]))
        else .next s
    | .rootDown u k =>
      if (s.clockOn (.ssh k) && !s.pageOn (.ssh k)) || (s.ssHub (.plate k u)).suspended then .next s else .next (s.toPlate u k p rest)
    | .rootUp u _ =>
      let l := s.upState u
      if l ≤ 2 then .next (((s.setUpState u lkU0).setSsq q rest).countBy (.ups u) F.UPS_ERR_LINK_ERR mv.retries)
      else if ssDead l then .next ((s.setSsq q rest).rootDrop u)
      else .next s

end Sys2Proof.Machine
end

