-- ==== Sys2Proof/Machine/Prs.lean ====
section
/-! DEFINITION. Presentations: attach and detach (R135, R226, R344), the move point (R333–R337), liveness, failover and failback
(R339–R343, R346). -/

namespace Sys2Proof.Machine

/-! ### Attach and detach -/

/-- The contexts of a presentation, the root-level one first. -/
def State.upHubs (s : State) (u : Up) : List HubCtx := HubCtx.pres u :: s.beneath u

/-- A plate does not hold an attach back: calibrated, its branch stopped, or held in reset (R135). -/
def State.plateClear (s : State) (k : Plate) : Bool :=
  (s.get .glb F.GLB_READY_PLATE_CAL).testBit k.val || !s.fclkRun k || s.plateInRst k

/-- R135, with R427 for compatibility mode. -/
def State.mayAttach (s : State) (u : Up) : Bool :=
  s.coreUp && s.loaded && !s.presAttached u && (s.pres u).restart != 1 && s.flag (.ups u) F.UPS_CC_STATUS_ATTACHED &&
    (if s.compat then !s.isDirect u || (List.finRange 8).any (fun i : Inst => s.instAttached i && s.instUp i == u)
     else s.flag .glb F.GLB_READY_UP_CAL && allPlates.all s.plateClear)

/-- `ATTACHED` and its copy in `GLB_READY`. -/
def State.setAttached (s : State) (u : Up) (b : Bool) : State :=
  (s.setFlag .prs (F.PRS_Uu_STATUS_ATTACHED u.val) b).setFlag .glb (fldBit F.GLB_READY_PRES_ATTACHED u.val) b

/-- A presented context enters the default state on a segment that is full-speed until its reset. -/
def State.ctxWakeUp (s : State) (hc : HubCtx) : State :=
  if (s.ctxUp hc).isNone then s else s.hubWith hc (fun h => if h.st = 0 then { h with st := 1, speed := 1 } else h)

/-- The upstream SuperSpeed link of an attached presentation may run while its lane PLL is locked (R16, R52, R303). -/
def State.upMayRun (s : State) (u : Up) : Bool :=
  !s.compat && s.flag .clk (laneFld (.up u)) && s.presAttached u && s.pageOn (.ups u) && !s.flag (.ups u) F.UPS_LINK_STATUS_U2_ONLY

/-- PRES_ATTACH: termination and pull-up applied (R135); the SuperSpeed power bits are 0 until the hubs are enumerated (R329).
DEDUCED, log 67. -/
def execPresAttach (u : Up) (s : State) : Host.Outcome State Fault Refusal :=
  if !s.mayAttach u then .next s else
  let s1 := (s.setAttached u true).presWith u (fun x => { x with restart := 0, suspEnded := false })
  let s2 := s1.put .prs (if u = 0 then F.PRS_CTRL_REATTACH_U0 else F.PRS_CTRL_REATTACH_U1) 0
  let s3 := (s2.upHubs u).foldl (fun s hc => s.ctxWakeUp hc) s2
  let s4 := if s.compat then s3 else
    (allPlates.foldl (fun s k => (plateFulls k).foldl (fun s f => s.ssEval f) (s.ssHubWith (.plate k u) (fun h => { h with power := 0 }))) s3)
  let s5 := if s4.upMayRun u then s4.setUpState u lkRxDetect else s4
  .next ((s5.raisePres .prs u evPresAttach u.val (1 + 32 * bit (s5.isFlat u))))

/-- SuperSpeed of the upstream link gone: SS_DOWN with a cause where it was up, its contexts reset. DESIGN CHOICE, log 81. -/
def State.upGone (s : State) (u : Up) (cause : Nat) : State :=
  let up := s.upState u ≤ 3 || s.upState u == lkRecovery
  let s1 := if up then s.raisePres (.ups u) u evSsDown u.val (cause + 2 ^ 31) else s
  let s2 := if s.upState u = lkDisabled then s1 else s1.ssPresReset u 0
  ((s2.put (.ups u) F.UPS_LINK_STATUS_GEN2 0).put (.ups u) F.UPS_LINK_STATUS_X2 0).setUpState u lkDisabled

/-- Termination and pull-up removed, with the cause of PRES_DETACH: every context is reset, the stores of the function are emptied,
the semaphores of the host agent freed (R94, R344, R359). DEDUCED, log 28. DEDUCED, log 67. -/
def State.presDetach (s : State) (u : Up) (cause : Nat) : State :=
  if !s.presAttached u then s else
  let s1 := (s.ctxReset (.pres u) 0)
  let s2 := if s.compat then s1 else s1.upGone u 0
  let s3 := (s2.upHubs u).foldl (fun s hc => s.hubWith hc (fun h => { h with st := 0, speed := 0 })) s2
  let s4 := ((s3.setAttached u false).mgfWith u (fun m => { m with replay := [], result := [] })).presWith u (fun x =>
    { x with sofLive := false, tsLive := false, suspEnded := false, fbMet := false })
  (s4.raisePres .prs u evPresDetach u.val cause).semOrphanHost u

/-- The topology that `PRS_CFG` asks for comes into force (R325, R428). -/
def State.takeTopo (s : State) (u : Up) : State :=
  s.setFlag .prs (F.PRS_Uu_STATUS_FLAT u.val) (!s.compat && s.cfgFlag .prs (if u = 0 then F.PRS_CFG_TOPO_U0 else F.PRS_CFG_TOPO_U1))

/-- A restart of a presentation begins: off the bus for 100 ms (R344). -/
def State.presRestart (s : State) (u : Up) : State :=
  ((s.presDetach u 1).takeTopo u).presWith u (fun x => { x with restart := 1 })

/-- REATTACH_END: the 100 ms have passed. -/
def execReattachEnd (u : Up) (s : State) : Host.Outcome State Fault Refusal :=
  if (s.pres u).restart = 1 then .next (s.presWith u (fun x => { x with restart := 2 })) else .next s

/-! ### Liveness (R339) -/

/-- The presentation's host shows frames: condition 1 or 2. -/
def State.framesLive (s : State) (u : Up) : Bool := s.presAttached u && ((s.pres u).sofLive || (s.pres u).tsLive)

/-- `FO_SUSP_HOLD`. -/
def State.suspHold (s : State) : Bool := s.cfgFlag .prs F.PRS_FO_CFG_FO_SUSP_HOLD

/-- Condition 3 or 4 holds it, within `FO_SUSP_LIMIT`. -/
def State.suspLive (s : State) (u : Up) : Bool :=
  s.presAttached u && ((1 ≤ s.upState u && s.upState u ≤ 3) || (s.suspHold && (s.hub (.pres u)).suspended)) &&
    !((s.pres u).suspEnded && s.cfg .prs F.PRS_FO_CFG_FO_SUSP_LIMIT != 0)

/-- The presentation is live. DEDUCED, log 67. -/
def State.isLive (s : State) (u : Up) : Bool :=
  s.flag (.ups u) F.UPS_CC_STATUS_ATTACHED && ((s.pres u).restart != 0 || s.framesLive u || s.suspLive u)

/-- The other presentation. -/
def otherUp (u : Up) : Up := if u = 0 then 1 else 0

/-- Failover and failback run now: page on, `PRS_FO_CFG` not mismatched, native mode (R52, R346, R428). -/
def State.foRuns (s : State) : Bool := s.pageOn .prs && !s.badFound .prs 0x44 && !s.compat

/-- Ports with a pending move of a cause to a presentation join its batch. -/
def State.batchAdd (s : State) (u : Up) (ps : List Port) (cause : Fin 5) : State :=
  let mine := ps.filter (fun p => s.moving p && s.moveCause[p] == cause)
  s.presWith u (fun x => { x with batch := x.batch.filter (fun p => !mine.contains p) ++ mine })

/-- Ports moved to presentation `u` with a cause. DEDUCED, log 68. -/
def State.movePorts (s : State) (u : Up) (ps : List Port) (cause : Fin 5) : State :=
  (ps.foldl (fun s p => s.moveRequest p (u.val + 1) cause) s).batchAdd u ps cause

/-- Failback moves to a presentation that are still waiting are cancelled (R343). -/
def State.failbackCancel (s : State) (u : Up) : State :=
  allPorts.foldl (fun s p => if s.moving p && s.moveCause[p] == 2 && s.ownerDest p == u.val + 1 then s.moveCancel p else s) s

/-- A failover decided (R340, R341); `first` for the first decision after the loss. -/
def State.foDecide (s : State) (u : Up) (trigger : Fin 4) (first : Bool) : State :=
  let v := otherUp u
  let s0 := if first then ((s.count .prs F.PRS_CNT_FAILOVERS).presWith u (fun x => { x with fbMet := false })).failbackCancel u else s
  if s.presAttached v && s.isLive v then
    let ps := allPorts.filter (fun p => s.curOwner p == u.val + 1 && s.cfgFlag .prs (F.PRS_OWNERn_FO_EN p.val) && !s.ownerBad p)
    ((s0.raisePres .prs u evFailover u.val (trigger.val + 8 * ps.length)).presWith u (fun x => { x with foPending := 0 })).movePorts v ps 1
  else (s0.raisePres .prs u evFailover u.val (trigger.val + 1024)).presWith u (fun x => { x with foPending := trigger })

/-- A failover falls due: decided, or kept until it may be (R52, R346). DEDUCED, log 68. -/
def State.failover (s : State) (u : Up) (trigger : Fin 4) (first : Bool) : State :=
  if s.compat then s
  else if s.foRuns then s.foDecide u trigger first
  else s.presWith u (fun x => { x with foDue := trigger, foFirst := first })

/-- The presentation stops being live if its conditions say so. -/
def State.liveCheck (s : State) (u : Up) (trigger : Fin 4) : State :=
  if (s.pres u).live && !s.isLive u then (s.presWith u (fun x => { x with live := false })).failover u trigger true else s

/-- LIVENESS_LOSS: `FO_TIME` has passed since the last SOF and the last timestamp. -/
def execLivenessLoss (u : Up) (s : State) : Host.Outcome State Fault Refusal :=
  .next ((s.presWith u (fun x => { x with sofLive := false, tsLive := false, fbMet := false })).liveCheck u 2)

/-- FO_SUSP_LIMIT_END. -/
def execFoSuspLimitEnd (u : Up) (s : State) : Host.Outcome State Fault Refusal :=
  .next ((s.presWith u (fun x => { x with suspEnded := true })).liveCheck u 3)

/-- PRESENTATION_LIVE: nothing of its own failover is left, and one of the other presentation that found no target is decided
again (R341). -/
def execPresentationLive (u : Up) (s : State) : Host.Outcome State Fault Refusal :=
  if !s.coreUp || !s.isLive u then .next s else
  let s1 := s.presWith u (fun x => { x with live := true, foPending := 0, foDue := 0 })
  let v := otherUp u
  let t := (s1.pres v).foPending
  .next (if t ≠ 0 && !s1.isLive v then s1.failover v t false else s1)

/-- UPSTREAM_ATTACH (R226): `vbus` in counts of 14.0625 mV. DEDUCED, log 67. -/
def execUpstreamAttach (u : Up) (orient : Bool) (rp : Fin 4) (vbus : Nat) (s : State) : Host.Outcome State Fault Refusal :=
  if !s.coreUp || !s.loaded || rp == 0 || adcUv10 vbus < 4 * 10 ^ 7 then .next s else
  let pg := PageId.ups u
  .next (((((s.put pg F.UPS_CC_STATUS_ATTACHED 1).setFlag pg F.UPS_CC_STATUS_ORIENT orient).put pg F.UPS_CC_STATUS_ORIENT_VALID 1).put
    pg F.UPS_CC_STATUS_RP_LVL rp.val).put pg F.UPS_CC_STATUS_VBUS (min vbus 4095))

/-- UPSTREAM_DETACH (R226, R260, R339, R303): VBUS reads a value below 3.67 V that no rule states. DEDUCED, log 67. -/
def execUpstreamDetach (u : Up) (s : State) : Host.Outcome State Fault Refusal :=
  if !s.flag (.ups u) F.UPS_CC_STATUS_ATTACHED then .next s else
  let pg := PageId.ups u
  let r := s.free
  let w := r.1
  let s0 : State := { r.2 with upWant := r.2.upWant.set u .none }
  let s1 := (((s0.put pg F.UPS_CC_STATUS_ATTACHED 0).put pg F.UPS_CC_STATUS_ORIENT_VALID 0).put pg F.UPS_CC_STATUS_RP_LVL 0).put pg
    F.UPS_CC_STATUS_VBUS (w.toNat % 261)
  .next (((s1.presDetach u 0).put pg F.UPS_LINK_STATUS_U2_ONLY 0).liveCheck u 1)

/-! ### Failback (R343) -/

/-- The port's failover awaits its return to `HOME` = u. -/
def State.failedTo (s : State) (u : Up) (p : Port) : Bool :=
  s.flag .prs (F.PRS_OWNERn_FAILED_OVER p.val) && s.cfg .prs (F.PRS_OWNERn_HOME p.val) == u.val + 1 && !s.ownerBad p &&
    s.curOwner p != u.val + 1

/-- The port is idle in the sense of mode 2. -/
def State.portIdle (s : State) (p : Port) : Bool :=
  let st := s.u2St p
  (!(s.u2p p).connected || st == 3 || st == 6 || st == 8) && match fullOf p with
    | none => true
    | some f => s.link f != lkU0

/-- `FB_MODE` in force: 3 acts as 0. -/
def State.fbMode (s : State) : Nat := let m := s.cfg .prs F.PRS_FO_CFG_FB_MODE; if m = 3 then 0 else m

/-- One batch of ports returned to presentation `u`, recorded with its mode. -/
def State.failbackTo (s : State) (u : Up) (ps : List Port) (mode : Nat) : State :=
  if ps = [] then s else
  ((s.count .prs F.PRS_CNT_FAILBACKS).raisePres .prs u evFailback u.val (ps.length + 256 * mode)).movePorts u ps 2

/-- A failback of `FB_MODE` 1 or 2 decided, where failback runs now: of ports without a pending move, in mode 2 of the idle ones.
DEDUCED, log 68. -/
def State.fbDecide (s : State) (u : Up) : State :=
  let m := s.fbMode
  if m = 0 ∨ !s.foRuns ∨ !(s.pres u).fbMet then s
  else s.failbackTo u (allPorts.filter (fun p => s.failedTo u p && !s.moving p && (m == 1 || s.portIdle p))) m

/-- FB_DELAY_END: `HOME` = u has been live and configured for `FB_DELAY`; what cannot return now is decided again at the SOFs that
follow (R343). DEDUCED, log 68. -/
def execFbDelayEnd (u : Up) (s : State) : Host.Outcome State Fault Refusal :=
  if s.compat || !s.coreUp || !s.framesLive u || (s.hub (.pres u)).st != 3 then .next s
  else .next ((s.presWith u (fun x => { x with fbMet := true })).fbDecide u)

/-- SOF (R339): traffic has restarted, so that no K stands on the segments any more (R284), and a failback that waits is decided. -/
def execSof (u : Up) (s : State) : Host.Outcome State Fault Refusal :=
  if !s.coreUp || !s.presAttached u then .next s
  else
    let s1 := s.presWith u (fun x => { x with sofLive := true, suspEnded := false })
    .next (((HubCtx.pres u :: s1.beneath u).foldl (fun s h => s.hubWith h (fun c => { c with upK := false })) s1).fbDecide u)

/-- SS_HEADER; a timestamp packet also has a failback that waits decided (R343). DESIGN CHOICE, log 74. -/
def execSsHeader (hd : SsPacket) (s : State) : Host.Outcome State Fault Refusal :=
  let p : SsPacket := { hd with errs := ⟨0, 0⟩ }
  match hd.entry with
  | .up u =>
    if s.compat ∨ !s.presAttached u ∨ s.upState u ≠ lkU0 then .next (s.reply .silent)
    else
      let s1 := (s.headerErrs hd).fromHost u p
      .next (if hd.itp then s1.fbDecide u else s1)
  | .down f =>
    if s.link f ≠ lkU0 ∨ (s.ssSide f).isNone then .next (s.reply .silent) else .next ((s.headerErrs hd).fromDevice f p)

/-- A move with cause 2 is pending. -/
def State.failbackRuns (s : State) : Bool := allPorts.any (fun p => s.moving p && s.moveCause[p] == 2)

/-- `FAILBACK` ends once its moves are done. DEDUCED, log 68. -/
def State.failbackCheck (s : State) : State := if s.failbackRuns then s else s.put .prs F.PRS_CTRL_FAILBACK 0

/-- The `FAILBACK` command (R343). -/
def State.failbackAll (s : State) : State :=
  let s1 := s.put .prs F.PRS_CTRL_FAILBACK 1
  if s.compat then s1.failbackCheck
  else if !s.foRuns then s1
  else (([0, 1] : List Up).foldl (fun s u =>
    if s.presAttached u && s.isLive u then s.failbackTo u (allPorts.filter (s.failedTo u)) 3 else s) s1).failbackCheck

/-- What fell due while failover was held is decided (R52, R346). -/
def State.foResume (s : State) : State :=
  if !s.foRuns then s else
  let s1 := ([0, 1] : List Up).foldl (fun s u =>
    let x := s.pres u
    if x.foDue = 0 then s else
    let s0 := s.presWith u (fun x => { x with foDue := 0 })
    if s0.isLive u then s0 else s0.foDecide u x.foDue x.foFirst) s
  let s2 := ([0, 1] : List Up).foldl (fun s u => s.fbDecide u) s1
  if s2.flag .prs F.PRS_CTRL_FAILBACK && !s2.failbackRuns then s2.failbackAll else s2

/-! ### The move point (R333–R338) -/

/-- The packets from a full port's link that wait on the way to its old host are discarded and counted, and its change bits there follow
(R335, R268). -/
def State.ssMoveUp (s : State) (f : Full) (c : Fin 2) (wasThere : Bool) : State :=
  let k := fullPlate f
  let q := (s.upLk c).up[k]
  let mine (p : SsPacket) : Bool := p.entry == .down f
  ((s.upLkWith c (fun l => { l with up := l.up.set k (q.filter (fun p => !mine p)) })).ssDiscard f (q.filter mine).length).sspWith f
    (fun y => { y with chg := y.chg.set c (if wasThere then sConnection else 0) })

/-- Traffic of a full port's link ends at a move: packets queued for the port, or from it on their way to the old host, are discarded and
counted, and the answer to one that has been sent will be; Compliance and Loopback return to Rx.Detect (R333 step 4, R335). -/
def State.ssMoveOut (s : State) (f : Full) : State :=
  let x := s.ssp f
  let s1 := (s.ssDiscard f (x.down.length + x.up.length)).sspWith f (fun y => { y with down := [], up := [], stale := y.awaits })
  let s2 := match s1.ssSide f with
    | none => s1
    | some c => s1.ssMoveUp f c x.connected
  if s.link f = lkCompliance ∨ s.link f = lkLoopback then s2.ssDetect f 4 else s2

/-- Steps 3 and 4: the old view disconnects, with no other change bit left in it (R268), and the USB 2.0 port stops serving. -/
def State.moveOut (s : State) (p : Port) : State :=
  let st := s.u2St p
  let s1 := match s.ownerSide p with
    | none => s
    | some c => s.u2pWith p (fun u => { u with chg := u.chg.set c (if u.connected then cConnection else 0) })
  let s2 := if st = 9 then s1.u2Gone p 1 else if 4 ≤ st ∧ st ≤ 8 then (s1.u2Disable p).ttDrop p else s1.ttDrop p
  match fullOf p with
  | none => s2
  | some f => s2.ssMoveOut f

/-- The SuperSpeed hubs of a presentation are enumerable: its upstream link is up (R329). -/
def State.ssUpUp (s : State) (u : Up) : Bool := !s.compat && (s.upState u ≤ 3 || s.upState u == lkRecovery)

/-- Step 6: the new owner's power bits; an instance in hold keeps its ports powered off (R432). -/
def State.movePower (s : State) (p : Port) (wasTest : Bool) : State :=
  match s.ownerSide p with
  | none => s
  | some c =>
    let s1 := s.setPowerBit p c (!wasTest && (!s.compat || s.instAttached (instOf p)))
    match fullOf p with
    | none => s1
    | some f =>
      if !s1.ssUpUp c then s1 else
      let j := f.val % 4
      s1.ssHubWith (.plate (fullPlate f) c) (fun h =>
        { h with power := if wasTest then h.power &&& ~~~(1#4 <<< j) else h.power ||| (1#4 <<< j) })

/-- Step 6: the connects that the new owner sees. -/
def State.moveShow (s : State) (p : Port) : State :=
  match s.ownerSide p with
  | none => s
  | some c =>
    let s1 := if (s.u2p p).connected then s.addChg p cConnection else s
    match fullOf p with
    | none => s1
    | some f => if s1.ssUpUp c && (s1.ssp f).connected then s1.addSsChg f sConnection else s1

/-- A port without an owner for the steps of its move point between the old view and the new one, in which nothing it does reaches a host or
wakes one (R336). -/
def State.ownerless (s : State) (p : Port) : State := s.put .prs (F.PRS_OWNERn_CUR p.val) 0

/-- A full port's link that its new owner does not run goes down before the new view (R301, R333). -/
def State.ssMoveDown (s : State) (p : Port) (dest : Nat) (wasTest : Bool) : State :=
  match fullOf p with
  | none => s
  | some f =>
    if s.link f = lkDisabled || ((s.put .prs (F.PRS_OWNERn_CUR p.val) dest).movePower p wasTest).ssAllowed f then s else s.ssLeave f lkDisabled 4

/-- The owner in force set, and the move recorded (step 7). -/
def State.moveRecord (s : State) (p : Port) (old dest : Nat) (reattached : Bool) : State :=
  let cause := s.moveCause[p]
  let s1 := ((s.put .prs (F.PRS_OWNERn_CUR p.val) dest).put .prs (F.PRS_OWNERn_MOVING p.val) 0).setBegun p false
  let s2 := (s1.setFlag .prs (F.PRS_OWNERn_FAILED_OVER p.val) (cause == 1)).count .prs F.PRS_CNT_MOVES
  s2.raiseWith .prs evOwnerMove p.val (old + 4 * dest + 16 * cause.val + 128 * bit reattached) true
    (.move ⟨old % 4, Nat.mod_lt _ (by decide)⟩ ⟨dest % 4, Nat.mod_lt _ (by decide)⟩)

/-- A port reaches its move point: the old view and its traffic end, the connection logic recovers where `MOVE_REATTACH` or R220 asks for it,
then the new owner is in force and sees what is left. DEDUCED, log 68. -/
def State.movePoint (s : State) (p : Port) : State :=
  let old := s.curOwner p
  let dest := s.ownerDest p
  let wasTest := s.u2St p == 9
  let s1 := if old = 3 then s.grvGiven p else s
  let s2 := (s1.moveOut p).ownerless p
  let re := s.cfgFlag .prs F.PRS_CFG_MOVE_REATTACH && s.ccCanRun p && s.ccSt p != 0 && s.ccSt p != 12
  let dcp := s.get (.tcp p) F.TCP_CC_STATUS_BC_NOW == 2 && old == 0 && dest != 0 && ((s.tcp p).bcMode == 1 || (s.tcp p).bcMode == 2)
  let s3 := if re || (dcp && s2.ccAttached p) then s2.toRecovery p else s2
  let s4 := (s3.ssMoveDown p dest wasTest).moveRecord p old dest re
  let s5 := (s4.movePower p wasTest).moveShow p
  let s6 := if wasTest then s5 else s5.u2Eval p
  let s7 := match fullOf p with
    | none => s6
    | some f => s6.ssEvalAs f 4
  ((s7.grvMoved p).batchesEnd).failbackCheck

/-- MOVE_POINT: of a move that is past step 1 (R52, R333). -/
def execMovePoint (p : Port) (s : State) : Host.Outcome State Fault Refusal :=
  if s.coreUp && s.moving p && s.moveBegun.getLsbD p.val && !s.ownerBad p then .next (s.movePoint p) else .next s

/-- `PAGE_CTRL.BLK_RST` of PRS: every pending move is cancelled, the liveness times and the
time of `FB_DELAY` start from zero (R52). DEDUCED, log 68. -/
def State.prsRestart (s : State) : State :=
  let s1 := (allPorts.foldl (fun s p => if s.moving p then s.moveCancel p else s) s).failbackCheck
  ([0, 1] : List Up).foldl (fun s u => s.presWith u (fun x => { x with suspEnded := false, fbMet := false })) s1

/-- `PAGE_CTRL.EN` of PRS returns to 1: the moves that waited start, and what fell due is decided (R52). -/
def State.prsResume (s : State) : State :=
  (allPorts.foldl (fun s p => if s.moving p then s.setBegun p true else s) s).foResume

end Sys2Proof.Machine
end

