-- ==== Sys2Proof/Machine/Store.lean ====
section
/-! DEFINITION. The configuration store (R138–R157): the image format, validity and bank ranking, the application of sections to
registers, staging, commit and fetch. -/

namespace Sys2Proof.Machine

/-! ### Images (R138–R144) -/

/-- A byte of a bank; MRAM that nothing has written is blank, 0x00. DESIGN CHOICE, log 11. -/
def State.bankByte (s : State) (b : Fin 2) (i : Nat) : Byte := Sparse.get (fun _ => (0 : Byte)) s.mram[b] i

/-- A byte of the staging buffer; a core global reset sets the buffer to zero (R148). -/
def State.stageByte (s : State) (i : Nat) : Byte := Sparse.get (fun _ => (0 : Byte)) s.stage i

/-- Consecutive bytes of an image. -/
def imgBytes (g : Nat → Byte) (o n : Nat) : List Byte := (List.range n).map (fun i => g (o + i))

/-- A little-endian word of an image. -/
def imgWord (g : Nat → Byte) (o : Nat) : Nat :=
  (g o).toNat + 256 * ((g (o + 1)).toNat + 256 * ((g (o + 2)).toNat + 256 * (g (o + 3)).toNat))

/-- A section of an image: its tag and instance, whether word 0 [31:24] is clear, and the place of its body (R140). -/
structure Section where
  tag : Nat
  inst : Nat
  clean : Bool
  off : Nat
  len : Nat
  deriving DecidableEq, Repr

/-- `n` sections from an offset, ending exactly at `lim`; none where they do not parse (R140). -/
def imgSections (g : Nat → Byte) (lim : Nat) : Nat → Nat → Option (List Section)
  | 0, o => if o = lim then some [] else none
  | n + 1, o =>
    let len := imgWord g (o + 4)
    if o + 8 + len ≤ lim ∧ len % 4 = 0 then
      (imgSections g lim n (o + 8 + len)).map
        (fun t => ⟨imgWord g o % 2 ^ 16, imgWord g o / 2 ^ 16 % 2 ^ 8, imgWord g o / 2 ^ 24 == 0, o + 8, len⟩ :: t)
    else none

/-- `LENGTH`, `SEQ` and `FLAGS.COMPAT` of an image (R138). -/
def imgLen (g : Nat → Byte) : Nat := imgWord g 8
def imgSeq (g : Nat → Byte) : Nat := imgWord g 0x10
def imgCompat (g : Nat → Byte) : Bool := (g 0x14).getLsbD 0

/-- The sections of an image. -/
def imgParse (g : Nat → Byte) : Option (List Section) := imgSections g (imgLen g) (imgWord g 0x18) 0x40

/-- The CRC of an image, with the CRC field as zero (R139). -/
def imgCrc (g : Nat → Byte) : Word :=
  crc32 (imgBytes (fun i => if 0x0C ≤ i ∧ i < 0x10 then 0 else g i) 0 (imgLen g))

/-- The check of R143: 0, or the code of R155 for what fails first. DEDUCED, log 82. -/
def imgCheck (g : Nat → Byte) : Nat :=
  if imgWord g 0 ≠ 0x57494D43 then 1
  else if (g 5).toNat ≠ 1 then 2
  else if imgLen g % 4 ≠ 0 ∨ imgLen g < 0x40 ∨ 0x20000 < imgLen g then 3
  else if BitVec.ofNat 32 (imgWord g 0x0C) ≠ imgCrc g then 4
  else if imgWord g 0x18 < 1 ∨ 1024 < imgWord g 0x18 then 5
  else if (imgParse g).isNone then 5 else 0

/-- A bank is valid (R143). -/
def State.bankOk (s : State) (b : Fin 2) : Bool := imgCheck (s.bankByte b) == 0

/-- A bank is blank (R143). -/
def State.bankBlank (s : State) (b : Fin 2) : Bool :=
  let h := imgBytes (s.bankByte b) 0 0x40
  h.all (· == 0x00) || h.all (· == 0xFF)

/-- The other bank. -/
def otherBank (b : Fin 2) : Fin 2 := if b = 0 then 1 else 0

/-- The newer bank by `SEQ`, whatever its validity (R144). -/
def State.newerBank (s : State) : Fin 2 :=
  let d := (2 ^ 32 + imgSeq (s.bankByte 1) - imgSeq (s.bankByte 0)) % 2 ^ 32
  if 1 ≤ d ∧ d ≤ 0x7FFFFFFF then 1 else 0

/-- The newest valid bank (R144, R149, R150). -/
def State.newestValid (s : State) : Option (Fin 2) :=
  let b := s.newerBank
  if s.bankOk b then some b else if s.bankOk (otherBank b) then some (otherBank b) else none

/-- The image that the load will make active selects compatibility mode (R3); under bypass none does (R37). DEDUCED, log 82. -/
def State.imageSelects (s : State) : Bool :=
  !s.flag .glb F.GLB_STRAPS_CFG_BYPASS && match s.newestValid with
    | none => false
    | some b => imgCompat (s.bankByte b)

/-- The mode fixed for this run, at core reset release (R3, R4, R37): by the strap, by the image, by both or by neither.
DEDUCED, log 82. -/
def State.fixMode (s : State) : State :=
  let strap := s.flag .glb F.GLB_STRAPS_COMPAT
  let image := s.imageSelects
  ((s.setFlag .glb F.GLB_MODE_COMPAT (strap || image)).put .glb F.GLB_MODE_SOURCE (bit strap + 2 * bit image)).setFlag .cpt
    F.CPT_STATUS_COMPAT (strap || image)

/-- The validity bits and `SEQ` registers of the banks found by a check (R155). -/
def State.noteBanks (s : State) : State :=
  let one (s : State) (b : Fin 2) (f : Fld) : State :=
    (s.setFlag .cfg f (s.bankOk b)).put .cfg (F.CFG_BANK_SEQ_SEQ b.val) (if s.bankOk b then imgSeq (s.bankByte b) else 0)
  one (one s 0 F.CFG_STATUS_BANK0_VALID) 1 F.CFG_STATUS_BANK1_VALID

/-- The active image's bank, if there is one (R147). -/
def State.activeBank (s : State) : Option (Fin 2) :=
  if s.flag .cfg F.CFG_STATUS_ACTIVE_VALID then some (if s.flag .cfg F.CFG_STATUS_ACTIVE_BANK then 1 else 0) else none

/-- A bank becomes the active image (R147, R150): `STORED_COMPAT` follows it. -/
def State.setActive (s : State) (b : Fin 2) : State :=
  (((s.put .cfg F.CFG_STATUS_ACTIVE_VALID 1).put .cfg F.CFG_STATUS_ACTIVE_BANK b.val).put .cfg F.CFG_ACTIVE_SEQ_SEQ
    (imgSeq (s.bankByte b))).setFlag .glb F.GLB_MODE_STORED_COMPAT (imgCompat (s.bankByte b))

/-! ### Sections in force (R142) -/

/-- The instances of a tag; none for an unknown one. -/
def tagInstances : Nat → Option Nat
  | 0x01 => some 1
  | 0x02 => some 4
  | 0x03 => some 64
  | 0x04 => some 1
  | 0x10 => some 64
  | 0x20 => some 2
  | 0x30 => some 8
  | 0x40 => some 1
  | 0x50 => some 1
  | _ => none

/-- The body of a typed section keeps the length rule of its own chapter (R235, R379, R440). -/
def bodyOk (sec : Section) : Bool :=
  match sec.tag with
  | 0x10 => sec.len == 64
  | 0x30 => sec.len == 256
  | 0x40 => sec.len % 64 == 0 && decide (0 < sec.len ∧ sec.len ≤ 4096)
  | _ => true

/-- A section that is not skipped for its own words. -/
def sectionOk (sec : Section) : Bool :=
  sec.clean && (match tagInstances sec.tag with
    | none => false
    | some n => decide (sec.inst < n)) && bodyOk sec

/-- The sections that apply: of the typed ones for one tag and instance, only the last. -/
def keptSections : List Section → List Section
  | [] => []
  | a :: t =>
    if sectionOk a && !(decide (0x10 ≤ a.tag) && t.any (fun b => sectionOk b && b.tag == a.tag && b.inst == a.inst))
    then a :: keptSections t else keptSections t

/-! ### Applying sections (R141, R146) -/

/-- The pages of a register-list tag. -/
def tagOwns (tag inst : Nat) (pg : PageId) : Bool :=
  match tag, pg with
  | 0x01, .glb => true | 0x01, .clk => true | 0x01, .mgt => true | 0x01, .evq => true | 0x01, .cfg => true
  | 0x01, .pwe => true | 0x01, .bgt => true | 0x01, .hlt => true | 0x01, .cpt => true | 0x01, .prs => true
  | 0x01, .mgf => true | 0x01, .epm => true | 0x01, .ups _ => true
  | 0x02, .u2h k => k.val == inst
  | 0x02, .ssh k => k.val == inst
  | 0x03, .tcp p => p.val == inst
  | 0x03, .vbs p => p.val == inst
  | 0x03, .u2p p => p.val == inst
  | 0x03, .ssp f => (fullPort f).val == inst
  | 0x03, .con p => p.val == inst
  | 0x03, .lhe p => p.val == inst
  | 0x04, .grv => true
  | 0x04, .drc => true
  | 0x50, .bgt => true
  | _, _ => false

/-- A register of a page takes an image value in its RW and RWG fields, with new parity and no live-change consequence; bits that a
write stores as zero stay zero.
DESIGN CHOICE, log 38. -/
def State.loadReg (s : State) (pg : PageId) (off : Nat) (v : Word) : State :=
  let m := parityBits pg off
  let a := pg.base + off
  (s.wr a (((s.rd a &&& ~~~m) ||| (v &&& m)) &&& ~~~zeroBits pg off)).dropParity a (a + 4)

/-- The RW and RWG fields of a page returned to their reset values, with new parity (R19, R147). -/
def State.storedReset (s : State) (pg : PageId) : State :=
  (s.regs.filter (fun e => decide (pg.base ≤ e.1) && decide (e.1 < pg.base + 0x1000))).foldl
    (fun s e => s.loadReg pg (e.1 % 0x1000) (resetWord e.1)) s

/-- An entry skipped. -/
def State.skipEntry (s : State) : State := s.count .cfg F.CFG_LOAD_STATUS_SKIPPED_ENTRIES

/-- Whether a register-list address names a register that the tag may load. DEDUCED, log 37. -/
def entryOk (tag inst addr : Nat) : Bool :=
  decide (addr % 4 = 0) && match pageAt addr with
    | none => false
    | some pg => tagOwns tag inst pg && match pg.regAt (addr % 0x1000) with
      | none => false
      | some r => storedMask r.fields != 0

/-- One entry of a register list, applied to the pages of the purpose. -/
def State.applyEntry (s : State) (only : PageId → Bool) (tag inst addr : Nat) (v : Word) : State :=
  if entryOk tag inst addr then
    match pageAt addr with
    | none => s
    | some pg => if only pg && !(pg == .pwe && s.domainInRst .pwe) then s.loadReg pg (addr % 0x1000) v else s
  else s.skipEntry

/-- `n` entries of a register list from an offset, and a lone address word at its end (R141). -/
def State.applyList (s : State) (only : PageId → Bool) (g : Nat → Byte) (sec : Section) : State :=
  let s1 := (List.range (sec.len / 8)).foldl
    (fun s i => s.applyEntry only sec.tag sec.inst (imgWord g (sec.off + 8 * i)) (BitVec.ofNat 32 (imgWord g (sec.off + 8 * i + 4)))) s
  if sec.len % 8 = 4 then s1.skipEntry else s1

/-- The registers of a PORT_POLICY body (R235): word `k` at TCP offset 0x100 + 4k, with `FITTED`; bit 1 of word 0 is the CC role. -/
def State.applyPolicy (s : State) (p : Port) (g : Nat → Byte) (o : Nat) : State :=
  let s1 := (List.range 16).foldl
    (fun s k => if (PageId.tcp p).regAt (0x100 + 4 * k) = none then s
      else s.loadReg (.tcp p) (0x100 + 4 * k) (BitVec.ofNat 32 (imgWord g (o + 4 * k)))) s
  (s1.put (.tcp p) F.TCP_PD_POLICY_FITTED (fldGet F.TCP_PD_POLICY_FITTED (BitVec.ofNat 32 (imgWord g o)))).putRw
    (.tcp p) F.TCP_CC_CFG_DRP (imgWord g o / 2 % 2)

/-- A record of a PRES_DESC body keeps the rule of its kind (R331, R352). -/
def descOk (kind index len : Nat) : Bool :=
  match kind with
  | 0x01 => index == 0 && len == 16
  | 0x02 => decide (1 ≤ index ∧ index ≤ 31 ∧ 2 ≤ len ∧ len ≤ 252) && len % 2 == 0
  | 0x03 => index == 0 && decide (2 ≤ len ∧ len ≤ 8) && len % 2 == 0
  | 0x04 => index == 0 && len == 16
  | 0x10 => index == 0 && len == 8
  | _ => false

/-- The records of a PRES_DESC body with the later of one kind and index in place of the earlier, and the number skipped. -/
def descParse : Nat → List Byte → List DescRec → Nat → List DescRec × Nat
  | 0, _, acc, n => (acc, n)
  | fuel + 1, bs, acc, n =>
    match bs with
    | kind :: index :: l0 :: l1 :: rest =>
      let len := l0.toNat + 256 * l1.toNat
      let pad := (len + 3) / 4 * 4
      if rest.length < pad then (acc, n + 1)
      else if descOk kind.toNat index.toNat len then
        descParse fuel (rest.drop pad)
          (acc.filter (fun r => !(r.kind == kind && r.index == index)) ++ [⟨kind, index, rest.take len⟩]) n
      else descParse fuel (rest.drop pad) acc (n + 1)
    | _ => (acc, n)

/-- A PRES_DESC section loaded (R331). -/
def State.applyDesc (s : State) (u : Up) (g : Nat → Byte) (sec : Section) : State :=
  let (rs, n) := descParse (sec.len + 1) (imgBytes g sec.off sec.len) [] 0
  (s.presWith u (fun d => { d with desc := rs })).countBy .cfg F.CFG_LOAD_STATUS_SKIPPED_ENTRIES n

/-- The bytes of an emulated register file that the image supplies (R429, R440). -/
def cptImageBytes : List Nat := (List.range 0xC0).filter (fun a => a < 0x0C || 0x20 ≤ a) ++ [0xFE]

/-- A COMPAT_DEF section applied (R440). -/
def State.applyCompat (s : State) (i : Inst) (g : Nat → Byte) (o : Nat) : State :=
  cptImageBytes.foldl (fun s a => s.setCptByte i a (g (o + a)).toNat) s

/-- The template store loaded (R379). DESIGN CHOICE, log 38. -/
def State.applyTemplates (s : State) (g : Nat → Byte) (sec : Section) : State :=
  let l := (List.range sec.len).foldl (fun l i => Sparse.put (fun _ => (0 : Byte)) l i (g (sec.off + i))) []
  s.grvWith (fun v => { v with templates := l })

/-- One section applied to the pages of the purpose. -/
def State.applySection (s : State) (only : PageId → Bool) (g : Nat → Byte) (sec : Section) : State :=
  match sec.tag with
  | 0x10 => if h : sec.inst < 64 then s.applyPolicy ⟨sec.inst, h⟩ g sec.off else s
  | 0x20 => if h : sec.inst < 2 then s.applyDesc ⟨sec.inst, h⟩ g sec else s
  | 0x30 => if h : sec.inst < 8 then s.applyCompat ⟨sec.inst, h⟩ g sec.off else s
  | 0x40 => s.applyTemplates g sec
  | _ => s.applyList only g sec

/-- The sections of one tag and instance applied in file order. -/
def State.applyTag (s : State) (only : PageId → Bool) (g : Nat → Byte) (secs : List Section) (tag inst : Nat) : State :=
  (secs.filter (fun c => c.tag == tag && c.inst == inst)).foldl (fun s c => s.applySection only g c) s

/-- Every page. -/
def anyPage (_ : PageId) : Bool := true

/-- Sections of an active image applied for a restore (R147), with the counts of what it skipped (R155). DEDUCED, log 40. -/
def State.restore (s : State) (tags : List (Nat × Nat)) : State :=
  let s0 := (s.put .cfg F.CFG_LOAD_STATUS_SKIPPED_ENTRIES 0).put .cfg F.CFG_LOAD_STATUS_SKIPPED_SECTIONS 0
  match s.activeBank with
  | none => s0
  | some b =>
    let g := s.bankByte b
    match imgParse g with
    | none => s0
    | some secs =>
      let about := secs.filter (fun c => tags.any (fun t => t.1 == c.tag && t.2 == c.inst))
      let kept := keptSections about
      let s1 := s0.countBy .cfg F.CFG_LOAD_STATUS_SKIPPED_SECTIONS (about.length - kept.length)
      tags.foldl (fun s t => s.applyTag anyPage g kept t.1 t.2) s1

/-- The entries of one tag and instance for some of its pages applied anew: the MGT page (R21), or the pages of a stopped FCLK
branch (R17). The counts of the load stand. DEDUCED, log 40. -/
def State.reapply (s : State) (only : PageId → Bool) (tag inst : Nat) : State :=
  match s.activeBank with
  | none => s
  | some b =>
    let g := s.bankByte b
    match imgParse g with
    | none => s
    | some secs =>
      let s1 := s.applyTag only g (keptSections secs) tag inst
      (s1.put .cfg F.CFG_LOAD_STATUS_SKIPPED_ENTRIES (s.get .cfg F.CFG_LOAD_STATUS_SKIPPED_ENTRIES))

/-! ### Staging (R148, R151, R157) -/

/-- A commit or fetch runs. -/
def State.cfgBusy (s : State) : Bool := s.flag .cfg F.CFG_STATUS_BUSY

/-- `CFG_STAGE_PTR` mismatches (R157). -/
def State.stageBad (s : State) : Bool := s.badFound .cfg 0x60

/-- The byte offset of the pointer. -/
def State.stagePtr (s : State) : Nat := 4 * s.get .cfg F.CFG_STAGE_PTR_PTR

/-- The pointer advanced by 4, wrapping at 128 KiB. -/
def State.stageStep (s : State) : State := s.putRw .cfg F.CFG_STAGE_PTR_PTR (s.get .cfg F.CFG_STAGE_PTR_PTR + 1)

/-- Bytes stored in the staging buffer. -/
def State.stagePut (s : State) (o : Nat) (bs : List Byte) : State :=
  { s with stage := ((List.range bs.length).zip bs).foldl (fun l e => Sparse.put (fun _ => (0 : Byte)) l (o + e.1) e.2) s.stage }

/-- A write to `CFG_STAGE_WDATA`. -/
def State.stageWrite (s : State) (be : BitVec 4) (v : Word) : State :=
  if be = 0 then s
  else if s.cfgBusy || s.stageBad then s.setFault .cfg 9
  else ((List.range 4).foldl (fun s i => if be.getLsbD i then
    s.stagePut (s.stagePtr + i) [BitVec.ofNat 8 (v.toNat >>> (8 * i))] else s) s).stageStep

/-- A read of `CFG_STAGE_RDATA`. -/
def State.stageRead (s : State) : Word × State :=
  if s.cfgBusy || s.stageBad then (0, s.setFault .cfg 9)
  else (BitVec.ofNat 32 (imgWord s.stageByte s.stagePtr), s.stageStep)

/-! ### Commit (R150, R152, R153) -/

/-- `CFG_STATUS.BUSY` and the operation in progress. -/
def State.setCfgOp (s : State) (o : CfgOp) : State :=
  ({ s with cfgOp := o }).setFlag .cfg F.CFG_STATUS_BUSY (decide (o ≠ CfgOp.idle))

/-- The command bits of `CFG_CTRL` read 1 while their command runs (R56). -/
def State.setCfgCtrl (s : State) (v : Nat) : State := s.put .cfg ⟨0x5C, 0, 3⟩ v

/-- A commit or fetch ends with a result code, and its command bit clears. -/
def State.cfgEnd (s : State) (code : Nat) : State := ((s.setCfgOp .idle).setCfgCtrl 0).put .cfg F.CFG_STATUS_LAST_RESULT code

/-- A commit fails. DESIGN CHOICE, log 39. -/
def State.commitFail (s : State) (code : Nat) (target : Fin 2) : State :=
  (s.cfgEnd code).raise .cfg evCommitFail 0 (code + 256 * target.val)

/-- The target bank and new sequence number of a commit. -/
def State.commitTarget (s : State) : Fin 2 × Word :=
  match s.newestValid with
  | none => (0, 1)
  | some b => (otherBank b, BitVec.ofNat 32 (imgSeq (s.bankByte b) + 1))

/-- A command bit of `CFG_CTRL` is turned away (R151, R157). -/
def State.cfgReject (s : State) : Bool := s.cfgBusy || s.stageBad

/-- `CFG_CTRL.COMMIT`; the flag tells of a parity error met while the staging buffer is read. -/
def State.cmdCommit (s : State) (parityErr : Bool) : State :=
  if s.cfgReject then s.setFault .cfg 8 else
  let s1 := s.noteBanks
  let (target, seq) := s1.commitTarget
  let code := if parityErr then 6 else imgCheck s1.stageByte
  if code ≠ 0 then s1.commitFail code target
  else ((s1.setCfgOp (.leave target seq)).setCfgCtrl 1).askLeave .commit

/-- Leave for a commit is granted: the wear count rises, and the writing begins. -/
def State.commitGranted (s : State) : State :=
  match s.cfgOp with
  | .leave target seq =>
    let w := min (s.wear[target] + 1) (2 ^ 32 - 1)
    let s1 := { s with wear := s.wear.set target w }
    (if 100000000 ≤ w then s1.setFault .cfg 10 else s1).setCfgOp (.writing target seq)
  | _ => s

/-- A byte of the image that a commit writes: the staging image with its new `SEQ` and CRC. -/
def State.newImage (s : State) (seq : Word) : Nat → Byte :=
  let withSeq (i : Nat) : Byte := if 0x10 ≤ i ∧ i < 0x14 then BitVec.ofNat 8 (seq.toNat >>> (8 * (i - 0x10))) else s.stageByte i
  let crc := imgCrc withSeq
  fun i => if 0x0C ≤ i ∧ i < 0x10 then BitVec.ofNat 8 (crc.toNat >>> (8 * (i - 0x0C))) else withSeq i

/-- Bytes of a bank written. -/
def State.bankPut (s : State) (b : Fin 2) (es : List (Nat × Byte)) : State :=
  { s with mram := s.mram.set b (es.foldl (fun l e => Sparse.put (fun _ => (0 : Byte)) l e.1 e.2) s.mram[b]) }

/-- The bytes a commit writes, in the order it writes them: the body, then the header, its `SEQ` word first, so that a header that
is partly written ranks as the newer one and fails its check (R152). DEDUCED, log 82. -/
def State.commitBytes (s : State) (seq : Word) : List (Nat × Byte) :=
  let g := s.newImage seq
  let n := imgLen s.stageByte
  let hdr := (List.range 4).map (0x10 + ·) ++ (List.range 0x40).filter (fun i => i < 0x10 ∨ 0x14 ≤ i)
  ((List.range n).filter (fun i => 0x40 ≤ i) ++ hdr).map (fun i => (i, g i))

/-- The CRC word of a bank made wrong by an open pattern of bits: the read-back of a commit has not matched. DESIGN CHOICE, log 39. -/
def State.bankSpoil (s : State) (b : Fin 2) : State :=
  let r := s.free
  let bad := BitVec.ofNat 32 (imgWord (s.bankByte b) 0x0C) ^^^ (r.1 ||| 1)
  r.2.bankPut b ((List.range 4).map (fun i => (0x0C + i, BitVec.ofNat 8 (bad.toNat >>> (8 * i)))))

/-- The write and read-back of a commit end. A read-back that fails leaves the target with a CRC that does not match.
DESIGN CHOICE, log 39. -/
def State.commitEnd (s : State) (ok : Bool) : State :=
  match s.cfgOp with
  | .writing target seq =>
    let s1 := s.bankPut target (s.commitBytes seq)
    if ok then
      let g := s.newImage seq
      let s2 := (s1.stagePut 0x0C (imgBytes g 0x0C 8)).opDone .commit
      ((((s2.setActive target).noteBanks).cfgEnd 0).raise .cfg evCommitDone 0 seq.toNat)
    else
      (((s1.bankSpoil target).noteBanks).opDone .commit).commitFail 8 target
  | _ => s

/-- A core global reset or power failure meets a commit (R152): the words before the moment of failure, which is open, are
written. DESIGN CHOICE, log 39. DEDUCED, log 82. -/
def State.commitCut (s : State) : State :=
  match s.cfgOp with
  | .writing target seq =>
    let r := s.free
    let bs := s.commitBytes seq
    r.2.bankPut target (bs.take (4 * (r.1.toNat % (bs.length / 4 + 1))))
  | _ => s

/-! ### Fetch (R149) -/

/-- A fetch begins from a source bank, or finds none; its command bit reads 1 (R56). -/
def State.fetchBegin (s : State) (src : Option (Fin 2)) (cmd : Nat) : State := ((s.noteBanks).setCfgOp (.fetch src)).setCfgCtrl cmd

/-- `CFG_CTRL.FETCH_ACTIVE`. -/
def State.cmdFetchActive (s : State) : State := if s.cfgReject then s.setFault .cfg 8 else s.fetchBegin s.activeBank 2

/-- `CFG_CTRL.FETCH_OTHER`. -/
def State.cmdFetchOther (s : State) : State :=
  if s.cfgReject then s.setFault .cfg 8 else
  s.fetchBegin (match s.activeBank with
    | some b => if s.bankOk (otherBank b) then some (otherBank b) else none
    | none => s.newestValid) 4

/-- A fetch ends. -/
def State.fetchDone (s : State) : State :=
  match s.cfgOp with
  | .fetch none => s.cfgEnd 0x0A
  | .fetch (some b) => (s.stagePut 0 (imgBytes (s.bankByte b) 0 (imgLen (s.bankByte b)))).cfgEnd 0
  | _ => s

/-! ### Commands -/

/-- COMMIT_LEAVE_TIMEOUT (R150): the request is withdrawn. -/
def execCommitLeaveTimeout (s : State) : Host.Outcome State Fault Refusal :=
  .next (match s.cfgOp with
    | .leave target _ => (s.withdraw .commit).commitFail 7 target
    | _ => s)

/-- COMMIT_WRITE_END (R150). -/
def execCommitWriteEnd (ok : Bool) (s : State) : Host.Outcome State Fault Refusal := .next (s.commitEnd ok)

/-- FETCH_END (R149). -/
def execFetchEnd (s : State) : Host.Outcome State Fault Refusal := .next s.fetchDone

end Sys2Proof.Machine
end

