-- ==== Sys2Proof/Machine/PortReset.lean ====
section
/-! DEFINITION. The port reset domain (R17–R19, R41, R136, R147, R450, R451): what holds a port in reset, what its reset ends, and
its release from the active image. -/

namespace Sys2Proof.Machine

/-- A page returned to its reset values, with new parity. -/
def State.clearPage (s : State) (pg : PageId) : State :=
  (s.clearRegs pg.base (pg.base + 0x1000)).dropParity pg.base (pg.base + 0x1000)

/-- A `DISABLE` bit latched as 1 holds the port in reset while its instance is attached (R430). -/
def State.cptDisabled (s : State) (p : Port) : Bool :=
  s.compat && s.instAttached (instOf p) && (s.cptRun (instOf p) 8).testBit (p.val % 8)

/-- Quarantine holds the port domain in reset: the discharge on entry has ended (R450). -/
def State.quarHolds (s : State) (p : Port) : Bool :=
  s.flag .hlt (portBit F.HLT_QUAR_QUAR p) && !s.health.quarDsch.getLsbD p.val

/-- Some source of R17 other than the marking of R41 holds the port in reset. -/
def State.portHeld (s : State) (p : Port) : Bool :=
  s.coreHeld || (s.cfg .clk (F.CLK_PORT_RST_PORT_RST (p.val / 32))).testBit (p.val % 32) || s.plateInRst (plateOf p) ||
    s.quarHolds p || s.cptDisabled p

/-- The registers of a port's SSP page and the link's state as they leave reset; the views of the owners keep their change bits. -/
def State.sspClear (s : State) (f : Full) : State :=
  (s.clearPage (.ssp f)).sspWith f (fun x => { freshSsp with chg := x.chg })

/-- LR bits of `TCP_CC_CFG` written since the last sample may have been written in the cycle of the port reset, and are then in force when
the port leaves reset (R227): a free value decides. DESIGN CHOICE, log 84. -/
def State.lrKeep (s : State) (p : Port) : Option (BitVec 3) × State :=
  match (s.tcp p).lrNew with
  | none => (none, s)
  | some v =>
    let r := s.free
    (if r.1.getLsbD 0 then some v else none, r.2)

/-- The pages of a port returned to their reset values; `DSCH` is driven high (R34). What outlives the domain is kept: the marking last
applied (R41), the contexts' power bits and change bits, the state of the discharge of R197, and for a port in quarantine that it is
there and the cause of its trip, which `PORT_OVER_CURRENT` shows (R278). DEDUCED, log 41. -/
def State.portClear (s0 : State) (p : Port) : State :=
  let (keep, s) := s0.lrKeep p
  let quar := s.flag .hlt (portBit F.HLT_QUAR_QUAR p)
  let last := if quar then s.get (.vbs p) F.VBS_STATUS_LAST_CAUSE else 0
  let fit := s.get (.tcp p) F.TCP_PD_POLICY_FITTED
  let st := if quar then 7 else if s.flag (.vbs p) F.VBS_STATUS_DSCH_ON then 5 else 0
  let host := s.get (.u2p p) F.U2P_STATUS_HOST_POWER
  let s1 := (((((s.clearPage (.tcp p)).clearPage (.vbs p)).clearPage (.u2p p)).clearPage (.con p)).clearPage (.lhe p))
  let s2 := match fullOf p with
    | none => s1
    | some f => s1.sspClear f
  let s3 := ((((s2.put (.tcp p) F.TCP_PD_POLICY_FITTED fit).put (.vbs p) F.VBS_STATUS_DSCH_ON 1).put (.vbs p)
    F.VBS_STATUS_STATE st).put (.vbs p) F.VBS_STATUS_LAST_CAUSE last).put (.u2p p) F.U2P_STATUS_HOST_POWER host
  let s4 := (s3.u2pWith p (fun u => { freshU2p with chg := u.chg, hold2 := u.hold2, holdS := u.holdS })).vbsWith p
    (fun v => { freshVbs with dschLock := v.dschLock })
  (((s4.tcpWith p (fun _ => { freshTcp with lrKept := keep })).pdWith p (fun _ => freshPd)).conWith p (fun _ => freshCon)).lheWith p (fun _ => freshLhe)

/-- A port enters reset (R19): its switch opens and discharges, its owner sees a disconnect, its part of every job ends, a pending
move is cancelled (R338). DEDUCED, log 41. -/
def State.portReset (s : State) (p : Port) : State :=
  if s.portInRst p then s else
  let s1 := s.put .clk (portBit F.CLK_PORT_IN_RST_PORT_IN_RST p) 1
  let s2 := match fullOf p with
    | none => s1
    | some f => s1.ssEvalAs f 2
  let s3 := (((s2.ccDisable p 3 4 4).vbsOpen p 4).u2Eval p).lheReset p
  let s4 := if s3.moving p then (s3.moveCancel p).failbackCheck else s3
  s4.portClear p

/-- The owner that the active image assigns to a port (R19): the last entry of a GLOBAL section for `PRS_OWNERn`, or the reset value. -/
def State.imgOwner (s : State) (p : Port) : Nat :=
  let a := PageId.base .prs + 0x100 + 4 * p.val
  let w : Word := match s.activeBank with
    | none => resetWord a
    | some b =>
      let g := s.bankByte b
      match imgParse g with
      | none => resetWord a
      | some secs =>
        ((keptSections secs).filter (fun c => c.tag == 1)).foldl (fun w c =>
          (List.range (c.len / 8)).foldl (fun w i =>
            if imgWord g (c.off + 8 * i) = a then BitVec.ofNat 32 (imgWord g (c.off + 8 * i + 4)) else w) w) (resetWord a)
  fldGet (F.PRS_OWNERn_OWNER p.val) w

/-- The configuration registers of a port as its release begins: reset values, with `FITTED` = 1 (R19, R147, R235). -/
def State.portBlank (s : State) (p : Port) : State :=
  let s1 := ([.tcp p, .vbs p, .u2p p, .con p, .lhe p] : List PageId).foldl (fun s pg => s.storedReset pg)
    (s.put (.tcp p) F.TCP_PD_POLICY_FITTED 1)
  match fullOf p with
  | none => s1
  | some f => s1.storedReset (.ssp f)

/-- LR bits that the reset has kept are in force as the port leaves it (R227). DESIGN CHOICE, log 84. -/
def State.lrRestore (s : State) (p : Port) : State :=
  match (s.tcp p).lrKept with
  | none => s
  | some v => (s.put (.tcp p) ⟨0x40, 0, 3⟩ v.toNat).tcpWith p (fun t => { t with lrKept := none })

/-- A port's own sections applied anew from the active image, over reset values (R147). DESIGN CHOICE, log 84. -/
def State.portRestore (s : State) (p : Port) : State := ((s.portBlank p).restore [(0x10, p.val), (0x03, p.val)]).lrRestore p

/-- A restoration of a plate is over (R453): every fitted port is out of reset, and the calibration has completed or cannot run.
DEDUCED, log 40. -/
def State.restoreCheck (s : State) (k : Plate) : State :=
  let fit := (platePorts k).filter (fun p => s.fitted p)
  let cal := (s.get .glb F.GLB_READY_PLATE_CAL).testBit k.val
  if s.flag .hlt (fldBit F.HLT_PLATE_STATUS_RESTORING k.val) && fit.all (fun p => !s.portInRst p) && (cal || s.compat || !s.fclkRun k) then
    (s.put .hlt (fldBit F.HLT_PLATE_STATUS_RESTORING k.val) 0).raise .hlt evPlateRestored k.val
      (bit cal + 2 * fit.foldl (fun n p => n + 2 ^ (p.val % 16)) 0)
  else s

/-- What a quarantine that has ended had kept over the reset, its state and the cause of its trip, is gone at the port's release (R451).
DEDUCED, log 41. -/
def State.quarForget (s : State) (p : Port) : State :=
  if s.vbsStt p = 7 ∧ !s.flag .hlt (portBit F.HLT_QUAR_QUAR p) then
    (s.put (.vbs p) F.VBS_STATUS_STATE 0).put (.vbs p) F.VBS_STATUS_LAST_CAUSE 0
  else s

/-- A fitted port whose sections have been applied leaves reset: the owner of the image is asked for, and the CC role presented. A discharge
that has not ended goes on.
DEDUCED, log 41. -/
def State.portEnter (s0 : State) (p : Port) : State :=
  let s := s0.quarForget p
  let s1 := ((s.put .clk (portBit F.CLK_PORT_IN_RST_PORT_IN_RST p) 0).setFlag (.vbs p) F.VBS_STATUS_DSCH_ON (!(s.vbs p).dschDone)).vsetLoad p
  let s2 := s1.moveRequest p (s1.imgOwner p) 4
  ((s2.ccStart p).usbEval p).restoreCheck (plateOf p)

/-- A port's sections are applied and it leaves reset (R19, R136); one marked not fitted stays in reset. -/
def State.portRelease (s : State) (p : Port) : State :=
  let s1 := s.portRestore p
  if s1.fitted p then s1.portEnter p else s1

/-- A port follows the sources that hold it, once the load is complete. -/
def State.portFollow (s : State) (p : Port) : State :=
  if s.portHeld p then s.portReset p
  else if s.portInRst p && s.coreUp && s.loaded then s.portRelease p else s

/-- The discharge of a port is over: OPEN, WAIT where a retry interval still runs, or the quarantine's reset (R196, R197, R450). -/
def State.dischargeOver (s : State) (p : Port) : State :=
  let s1 := (s.put (.vbs p) F.VBS_STATUS_DSCH_ON 0).vbsWith p (fun v => { v with dschDone := true })
  if s.health.quarDsch.getLsbD p.val then
    (s1.healthWith (fun h => { h with quarDsch := h.quarDsch &&& ~~~(1#64 <<< p.val) })).portFollow p
  else if s.portInRst p then (if s.flag .hlt (portBit F.HLT_QUAR_QUAR p) then s1 else s1.put (.vbs p) F.VBS_STATUS_STATE 0)
  else s1.put (.vbs p) F.VBS_STATUS_STATE (if (s.vbs p).retryRun then 6 else 0)

/-- A discharge runs that R197 started, not one that helps a transition. -/
def State.discharging (s : State) (p : Port) : Bool :=
  s.flag (.vbs p) F.VBS_STATUS_DSCH_ON && (s.vbsStt p == 5 || s.vbsStt p == 7)

/-- The discharge that a reset of the port has begun, and that has not ended (R34, R197). -/
def State.resetDsch (s : State) (p : Port) : Bool := s.portInRst p && !(s.vbs p).dschDone

/-- `DSCH` is on without a transition: the discharge of R197, or the one that a reset leaves on at its release (R34). -/
def State.dschRuns (s : State) (p : Port) : Bool :=
  s.discharging p || s.resetDsch p || (s.flag (.vbs p) F.VBS_STATUS_DSCH_ON && s.vbsStt p == 0)

/-- DISCHARGE_END (R197): vSafe0V has been seen and 10 ms have passed. A turn-on that waits for it is asked. DEDUCED, log 42.
DEDUCED, log 51. -/
def execDischargeEnd (p : Port) (s : State) : Host.Outcome State Fault Refusal :=
  if !s.coreUp || !s.dschRuns p || !(s.portInRst p || (s.vbs p).safeSeen || s.flag (.vbs p) F.VBS_STATUS_SAFE0V) then .next s else
  let s1 := (s.vbsWith p (fun v => { v with dschLock := false })).dischargeOver p
  .next (if (s1.vbs p).askOnSafe then (s1.vbsWith p (fun v => { v with askOnSafe := false })).askTurnOn p else s1)

/-- DSCH_MAX_END (R197): vSafe0V has not been seen within `DSCH_MAX`. DEDUCED, log 42. -/
def execDschMaxEnd (p : Port) (s : State) : Host.Outcome State Fault Refusal :=
  if !s.coreUp || !s.dschRuns p || (s.vbs p).safeSeen || s.flag (.vbs p) F.VBS_STATUS_SAFE0V then .next s else
  let s1 := s.vbsWith p (fun v => { v with dschLock := true })
  let s2 := if s.portInRst p then s1 else (s1.setFault (.vbs p) 8).countErr (.vbs p) p F.VBS_CNT_DSCH_FAIL
  let k := plateOf p
  let s3 := s2.healthWith (fun h => { h with isoLate := if s.plateInRst k then h.isoLate ||| (1#4 <<< k.val) else h.isoLate })
  .next (s3.dischargeOver p)

end Sys2Proof.Machine
end

