-- ==== Sys2Proof/Machine/Cpt.lean ====
section
/-! DEFINITION. Compatibility with the PX2408 (chapter 17): instances in hold and attached, the emulated register file, and the legacy
I²C target (R97–R99, R434). -/

namespace Sys2Proof.Machine

/-! ### Named parts -/

/-- The USB 2.0 context that an instance is (R266). -/
def instCtx (i : Inst) : HubCtx := .plate ⟨i.val / 2, by omega⟩ ⟨i.val % 2, by omega⟩

/-- All instances. -/
def allInsts : List Inst := List.finRange 8

/-- The instance is in hold. -/
def State.instHolding (s : State) (i : Inst) : Bool := s.flag .cpt (fldBit F.CPT_STATUS_HOLDING i.val)

/-- Bytes 0x00–0xBF: the configuration area (R429). -/
def cptArea (a : Nat) : Bool := decide (a < 0xC0)

/-- A byte of the configuration area at which a register lies. -/
def cptStored (a : Nat) : Bool := decide (a < 0x0C ∨ (0x20 ≤ a ∧ a < 0xC0))

/-- A window byte of the instance mismatches (R444). -/
def State.instBad (s : State) (i : Inst) : Bool := s.bad.any (fun m => decide (m.addr / 0x1000 = 0x300 + i.val))

/-- The direct presentation is asked for and its condition holds (R426). -/
def State.directDue (s : State) (u : Up) : Bool :=
  s.compat && s.cfgFlag .cpt (if u = 0 then F.CPT_CFG_DIRECT_U0 else F.CPT_CFG_DIRECT_U1) &&
    (allInsts.filter (fun i => s.instExists i && s.instUp i == u)).length == 1

/-- `CPT_STATUS.DIRECT_Uu` set. -/
def State.setDirect (s : State) (u : Up) (b : Bool) : State :=
  s.setFlag .cpt (if u = 0 then F.CPT_STATUS_DIRECT_U0 else F.CPT_STATUS_DIRECT_U1) b

/-! ### Hold and attach (R432, R433) -/

/-- The ports of an instance powered off with its context as after R276. -/
def State.instCtxReset (s : State) (i : Inst) : State :=
  let hc := instCtx i
  (s.ctxPorts hc).foldl (fun s p => s.ctxResetPort hc p) (s.hubWith hc (fun _ => freshHubCtx))

/-- The instance is taken from its host: its pull-up removed when direct, else its root-hub port reports not connected. -/
def State.instLeave (s : State) (i : Inst) : State :=
  let u := s.instUp i
  if s.isDirect u then s.presDetach u 1 else s.rootChgWith (.pres u) (i.val + 1) (· ||| cConnection)

/-- An instance enters hold: the hold timer starts from zero, and ports held under `DISABLE` are released. DEDUCED, log 46. -/
def State.instHold (s : State) (i : Inst) : State :=
  let disabled := (instPorts i).filter s.cptDisabled
  let s0 := if s.instAttached i then s.instLeave i else s
  let s1 := ((s0.instCtxReset i).put .cpt (fldBit F.CPT_STATUS_ATTACHED i.val) 0).setFlag .cpt (fldBit F.CPT_STATUS_HOLDING i.val)
    (s.instExists i)
  let s2 := (s1.cptWith i (fun c => { c with timer := s.instExists i, dueCmd := none, dueTime := false, gangClr := 0 })).setCptByte i 0xFF 0
  disabled.foldl (fun s p => s.portFollow p) s2

/-- Detail bits [2:1] of the COMPAT records (R443). -/
def State.instDetail (s : State) (i : Inst) : Nat := 2 * (s.instUp i).val + 4 * bit (s.isDirect (s.instUp i))

/-- An instance's configuration area as its register file holds it. -/
def State.instArea (s : State) (i : Inst) : List Host.Cell :=
  ((List.range 0xC0).filter cptStored).foldl (fun l a => Sparse.put (fun _ => (0 : Byte)) l a (BitVec.ofNat 8 (s.cptByte i a))) []

/-- A write to a U2H page has taken effect (R283): the ports of a group whose `SINGLE_TT` bit changes have their TTs emptied.
DEDUCED, log 35. -/
def State.u2hWritten (s0 s : State) (k : Plate) (off : Nat) : State :=
  if off = 0x40 && s.compat then
    let d := s0.cfg (.u2h k) F.U2H_CFG_SINGLE_TT ^^^ s.cfg (.u2h k) F.U2H_CFG_SINGLE_TT
    ((platePorts k).filter (fun p => d.testBit (compatSide p).val)).foldl (fun s p => s.ttReset p) s
  else s

/-- An instance attaches with its configuration area as it stands: by a write (over I²C or through a window), or by the time-out. -/
def State.instAttach (s : State) (i : Inst) (cmd : Option Bool) : State :=
  let s1 := (s.cptWith i (fun c => { c with run := s.instArea i, timer := false, dueCmd := none, dueTime := false, gangClr := 0 })).setCptByte i 0xFF 1
  let s2 := (s1.put .cpt (fldBit F.CPT_STATUS_ATTACHED i.val) 1).put .cpt (fldBit F.CPT_STATUS_HOLDING i.val) 0
  let k : Plate := ⟨i.val / 2, by omega⟩
  let s3 := State.u2hWritten s2 (s2.putRw (.u2h k) (fldBit F.U2H_CFG_SINGLE_TT (i.val % 2)) (bit (!(s2.cptRun i 6).testBit 1))) k 0x40
  let u := s.instUp i
  let s4 := if s3.isDirect u then s3
    else
      let s5 := s3.rootChgWith (.pres u) (i.val + 1) (· ||| cConnection)
      if s5.presAttached u then s5.ctxWakeUp (instCtx i) else s5
  let s6 := ((instPorts i).filter s4.cptDisabled).foldl (fun s p => s.portFollow p) s4
  match cmd with
  | some i2c => (s6.count .cpt F.CPT_CNT_ATTACH_CMDS).raise .cpt evAttachCmd i.val (bit i2c + s6.instDetail i)
  | none => ((s6.cptSeen (instCtx i) 0).count .cpt F.CPT_CNT_HOLD_TIMEOUTS).raise .cpt evHoldTimeout i.val (s6.instDetail i)

/-- No instance attaches: the page is off, or a byte of the window mismatches (R52, R444). -/
def State.attachBarred (s : State) (i : Inst) : Bool := !s.pageOn .cpt || s.instBad i

/-- A write of 1 to `ATTACH` in hold; `i2c` tells where it came from. -/
def State.attachCmd (s : State) (i : Inst) (i2c : Bool) : State :=
  if !s.compat || !s.instHolding i then s
  else if s.attachBarred i then s.cptWith i (fun c => { c with dueCmd := some i2c })
  else s.instAttach i (some i2c)

/-- What was due attaches at once when the bar ends; the write goes before the time-out (R52, R441, R444). -/
def State.attachDue (s : State) (i : Inst) : State :=
  if !s.compat || !s.instHolding i || s.attachBarred i then s else
  match (s.cpt[i]).dueCmd with
  | some i2c => s.instAttach i (some i2c)
  | none => if (s.cpt[i]).dueTime then s.instAttach i none else s

/-- HOLD_TIMEOUT (R433). DESIGN CHOICE, log 4. DEDUCED, log 46. -/
def execHoldTimeout (i : Inst) (s : State) : Host.Outcome State Fault Refusal :=
  if !s.coreUp || !s.compat || !s.loaded || !s.instHolding i || !(s.cpt[i]).timer then .next s else
  let s1 := s.cptWith i (fun c => { c with timer := false })
  if (s.cptByte i 7).testBit 1 then .next s1
  else if s.attachBarred i then .next (s1.cptWith i (fun c => { c with dueTime := true }))
  else .next (s1.instAttach i none)

/-! ### `CPT_CFG` and `INST_RESET` (R435, R442) -/

/-- The direct presentations follow their conditions; one that changes restarts its presentation (R426). DEDUCED, log 46. -/
def State.directFollow (s : State) : State :=
  ([0, 1] : List Up).foldl (fun s u =>
    if s.directDue u = s.isDirect u then s else
    let s1 := (s.presRestart u).setDirect u (s.directDue u)
    (allInsts.filter (fun i => s1.instExists i && s1.instUp i == u)).foldl (fun s i => s.instHold i) s1) s

/-- `CPT_CFG` has been written over an earlier value in force: each instance whose bits have changed returns to hold or ceases to
exist, its disabled ports leaving reset with it, and a changed `DIRECT_Uu` restarts its presentation. -/
def State.cptCfgWritten (s : State) (old : Word) : State :=
  if !s.compat then s else
  let new := s.rd (PageId.base .cpt + 0x40)
  let d := old ^^^ new
  let moved := allInsts.filter (fun i => d.getLsbD i.val || d.getLsbD (8 + i.val))
  let s0 := s.wr (PageId.base .cpt + 0x40) old
  let s1 := moved.foldl (fun s i => if s.instAttached i then (s.instLeave i).put .cpt (fldBit F.CPT_STATUS_ATTACHED i.val) 0 else s) s0
  let s2 := moved.foldl (fun s i => s.instHold i) (s1.wr (PageId.base .cpt + 0x40) new)
  let freed := moved.flatMap (fun i => (instPorts i).filter s.cptDisabled)
  let s2 := freed.foldl (fun s p => s.portFollow p) s2
  let s3 := moved.foldl (fun s i => (instPorts i).foldl (fun s p => s.moveDecide p 0) s) s2
  let s4 := ([0, 1] : List Up).foldl (fun s u =>
    if d.getLsbD (16 + u.val) then
      (allInsts.filter (fun i => s.instExists i && s.instUp i == u)).foldl (fun s i => s.instHold i) (s.presRestart u)
    else s) s3
  s4.directFollow

/-- `INST_RESET` of one instance: hold, the area and revision reloaded, 0xF0 and 0xF1 cleared, the pointer at 0x00. DEDUCED, log 46. -/
def State.instReset (s : State) (i : Inst) : State :=
  let s1 := if s.instExists i then s.instHold i else s
  ((s1.clearPage (.win i)).reapply anyPage 0x30 i.val).cptWith i (fun c => { c with ptr := 0 })

/-- A write of `CPT_CTRL`: nothing in native mode, where no instance exists. -/
def State.instResets (s : State) (mask : Byte) : State :=
  if !s.compat then s else (allInsts.filter (fun i => mask.getLsbD i.val)).foldl (fun s i => s.instReset i) s

/-- `PAGE_CTRL.BLK_RST` of CPT: every instance returns to hold, its area as it stands (R52). -/
def State.cptRestart (s : State) : State :=
  if !s.compat then s else (allInsts.filter (fun i => s.instExists i)).foldl (fun s i => s.instHold i) s

/-! ### The windows (R429, R435) -/

/-- A byte written at an address of the emulated register file. -/
def State.winWrite (s : State) (i2c : Bool) (i : Inst) (a : Nat) (v : Byte) : State :=
  if a = 0xFF then (if v.getLsbD 0 then s.attachCmd i i2c else s)
  else if !cptArea a then s
  else if s.instAttached i then (s.cptSeen (instCtx i) 5).count .cpt F.CPT_CNT_LOCKED_WRITES
  else if !cptStored a then s
  else
    let (ended, s1) := (s.setCptByte i a v.toNat).mendParity (0x300000 + 0x1000 * i.val + 4 * a) 1
    if ended then s1.attachDue i else s1

/-- Bit j: `PORT_CONNECTION` of port j + 1 of an instance. -/
def State.instConn (s : State) (i : Inst) : Nat :=
  (instPorts i).foldl (fun n p => n + bit ((s.portView (instCtx i) p).1 % 2 == 1) * 2 ^ (p.val % 8)) 0

/-- A byte read from the emulated register file; an RC byte is cleared. -/
def State.winRead (s : State) (i : Inst) (a : Nat) : Byte × State :=
  let v := s.cptByte i a
  if a = 0xF0 ∨ a = 0xF1 then (BitVec.ofNat 8 v, s.setCptByte i a 0)
  else if a = 0xF2 then (BitVec.ofNat 8 (s.instConn i), s)
  else (BitVec.ofNat 8 v, s)

/-! ### The legacy I²C target (R97–R99, R434) -/

/-- The address of an enabled instance lies outside the reserved ranges (R98). -/
def State.legUsable (s : State) (i : Inst) : Bool :=
  let a := s.cfg .mgt (F.MGT_LEG_ADDR_ADDR i.val)
  s.cfgFlag .mgt (F.MGT_LEG_ADDR_AEN i.val) && decide (0x08 ≤ a ∧ a ≤ 0x77)

/-- The instance that answers an address: the lowest-numbered of the enabled ones that hold it. -/
def State.legInst (s : State) (addr : Nat) : Option Inst :=
  allInsts.find? (fun i => s.legUsable i && s.cfg .mgt (F.MGT_LEG_ADDR_ADDR i.val) == addr)

/-- The enabled instances that answer no address (R98). DEDUCED, log 46. -/
def State.legConflicts (s : State) : Nat :=
  (allInsts.filter (fun i => s.cfgFlag .mgt (F.MGT_LEG_ADDR_AEN i.val) &&
    s.legInst (s.cfg .mgt (F.MGT_LEG_ADDR_ADDR i.val)) != some i)).foldl (fun n i => n + 2 ^ i.val) 0

/-- The check of R98 after the address fields are written or loaded. -/
def State.legCheck (s : State) : State :=
  let c := s.legConflicts
  let s1 := s.setFlag .mgt F.MGT_LEG_STATUS_CONFLICT (c != 0)
  if c = 0 then s1 else s1.raise .mgt evLegConflict 0 c

/-- The legacy target listens. -/
def State.legOn (s : State) : Bool :=
  s.coreUp && s.compat && s.loaded && !s.domainInRst .mgt && s.cfgFlag .mgt F.MGT_LEG_CFG_EN && !([0x50, 0x54, 0x58] : List Nat).any (s.badFound .mgt)

/-- LEG_ADDRESS. -/
def execLegAddress (addr : BitVec 7) (rd : Bool) (s : State) : Host.Outcome State Fault Refusal :=
  match (if s.legOn then s.legInst addr.toNat else none) with
  | some i => .next (({ s with legacy := ⟨some (i, rd), true⟩ }).reply .ack)
  | none => .next (({ s with legacy := ⟨none, true⟩ }).reply .nak)

/-- LEG_WRITE_BYTE. -/
def execLegWriteByte (b : Byte) (s : State) : Host.Outcome State Fault Refusal :=
  match s.legacy.sel with
  | some (i, false) =>
    if !s.legOn then .next (s.reply .nak)
    else if s.legacy.first then
      .next ((({ s with legacy := { s.legacy with first := false } }).cptWith i (fun c => { c with ptr := b })).reply .ack)
    else .next (((s.winWrite true i (s.cpt[i]).ptr.toNat b).cptWith i (fun c => { c with ptr := (s.cpt[i]).ptr + 1 })).reply .ack)
  | _ => .next (s.reply .nak)

/-- LEG_READ_BYTE: a whole-word read, which finds a parity mismatch as any read does (R69, R97). -/
def execLegReadByte (s : State) : Host.Outcome State Fault Refusal :=
  match s.legacy.sel with
  | some (i, true) =>
    if !s.legOn then .next (s.reply .silent) else
    let a := (s.cpt[i]).ptr.toNat
    let (b, s1) := (s.findParity (0x300000 + 0x1000 * i.val + 4 * a)).2.winRead i a
    .next ((s1.cptWith i (fun c => { c with ptr := c.ptr + 1 })).reply (.bytes [b]))
  | _ => .next (s.reply .silent)

/-- LEG_SCL_TIMEOUT. -/
def execLegSclTimeout (s : State) : Host.Outcome State Fault Refusal :=
  if s.legacy.sel.isNone || !s.coreUp then .next s
  else .next (({ s with legacy := ⟨none, true⟩ }).count .mgt F.MGT_LEG_STATUS_TIMEOUT_CNT)

end Sys2Proof.Machine
end

