-- ==== Sys2Proof/Machine/Desc.lean ====
section
/-! DEFINITION. The standard requests of the presented devices (R289, R330, R331, R351, R352, R431, R436): descriptors, addresses
and configurations. -/

namespace Sys2Proof.Machine

/-! ### PRES_DESC records (R331, R352) -/

/-- The record of a kind and index that a presentation has loaded. -/
def State.descRec (s : State) (u : Up) (kind idx : Nat) : Option DescRec :=
  (s.pres u).desc.find? (fun r => r.kind.toNat == kind && r.index.toNat == idx)

/-- Bytes of a record, zero where it is not loaded. -/
def State.descNat (s : State) (u : Up) (kind off n : Nat) : Nat :=
  match s.descRec u kind 0 with
  | none => 0
  | some r => leNat r.body off n

/-- A string index that is served; index 0 stands for one that is not. -/
def State.strIndex (s : State) (u : Up) (i : Nat) : Nat := if (s.descRec u 2 i).isSome then i else 0

/-- The Container ID of a presentation. -/
def State.containerId (s : State) (u : Up) : List Byte :=
  match s.descRec u 4 0 with
  | some r => r.body.take 16
  | none => List.replicate 14 0 ++ [BitVec.ofNat 8 s.ownChip.val, BitVec.ofNat 8 u.val]

/-- A string descriptor. -/
def strDesc (text : List Byte) : List Byte := [BitVec.ofNat 8 (text.length + 2), 3] ++ text

/-- A string of a presentation: the language IDs at index 0. -/
def State.presString (s : State) (u : Up) (i : Nat) : Option (List Byte) :=
  if i = 0 then some (strDesc (match s.descRec u 3 0 with
    | some r => r.body
    | none => [0x09, 0x04]))
  else (s.descRec u 2 i).map (fun r => strDesc r.body)

/-! ### Compatibility strings (R431) -/

/-- The text of string slot 1–3 of an attached instance, if it is served. -/
def State.cptString (s : State) (i : Inst) (n : Nat) : Option (List Byte) :=
  let (base, size) := if n = 1 then (0x20, 46) else if n = 2 then (0x50, 62) else (0x90, 46)
  let l := s.cptRun i base
  if (s.cptRun i 7).testBit 0 ∧ 1 ≤ n ∧ n ≤ 3 ∧ l ≠ 0 ∧ l % 2 = 0 ∧ l ≤ size then
    some ((List.range l).map (fun k => BitVec.ofNat 8 (s.cptRun i (base + 1 + k))))
  else none

/-! ### Descriptors of a hub -/

/-- What a device's descriptors say that differs from one device to another. -/
structure DescBase where
  bcdUsb : Nat
  cls : Nat
  proto : Nat
  mps0 : Nat
  vid : Nat
  pid : Nat
  rel : Nat
  iMan : Nat
  iProd : Nat
  iSerial : Nat
  deriving DecidableEq, Repr

/-- The device descriptor. -/
def DescBase.device (d : DescBase) : List Byte :=
  [18, 1] ++ leBytes 2 d.bcdUsb ++ leBytes 1 d.cls ++ [0] ++ leBytes 1 d.proto ++ leBytes 1 d.mps0 ++ leBytes 2 d.vid ++ leBytes 2 d.pid ++
    leBytes 2 d.rel ++ leBytes 1 d.iMan ++ leBytes 1 d.iProd ++ leBytes 1 d.iSerial ++ [1]

/-- The device qualifier: the protocol at the other speed. -/
def DescBase.qualifier (d : DescBase) (proto : Nat) : List Byte :=
  [10, 6] ++ leBytes 2 d.bcdUsb ++ leBytes 1 d.cls ++ [0] ++ leBytes 1 proto ++ leBytes 1 d.mps0 ++ [1, 0]

/-- A configuration descriptor around its interfaces; `ty` 2, or 7 for the other speed. -/
def configDesc (ty attrs power : Nat) (body : List Byte) : List Byte :=
  [9] ++ leBytes 1 ty ++ leBytes 2 (9 + body.length) ++ [1, 1, 0] ++ leBytes 1 attrs ++ leBytes 1 power ++ body

/-- An interface descriptor. -/
def intfDesc (alt eps cls sub proto str : Nat) : List Byte :=
  [9, 4, 0] ++ leBytes 1 alt ++ leBytes 1 eps ++ leBytes 1 cls ++ leBytes 1 sub ++ leBytes 1 proto ++ leBytes 1 str

/-- An endpoint descriptor. -/
def epDesc (addr attrs mps interval : Nat) : List Byte :=
  [7, 5] ++ leBytes 1 addr ++ leBytes 1 attrs ++ leBytes 2 mps ++ leBytes 1 interval

/-- A SuperSpeed endpoint companion. -/
def epCompanion (burst bytes : Nat) : List Byte := [6, 0x30] ++ leBytes 1 burst ++ [0] ++ leBytes 2 bytes

/-- A BOS around its device capabilities. PRESUMED, log 60. -/
def bosDesc (caps : List (List Byte)) : List Byte :=
  [5, 15] ++ leBytes 2 (5 + caps.flatten.length) ++ leBytes 1 caps.length ++ caps.flatten

/-- The USB 2.0 Extension capability with LPM. -/
def lpmCap : List Byte := [7, 0x10, 2, 2, 0, 0, 0]
/-- The Container ID capability. -/
def State.containerCap (s : State) (u : Up) : List Byte := [20, 0x10, 4, 0] ++ s.containerId u

/-- `n` bytes that no rule states. DESIGN CHOICE, log 9. DESIGN CHOICE, log 61. -/
def State.freeBytes (s : State) : Nat → List Byte × State
  | 0 => ([], s)
  | n + 1 =>
    let r := State.freeBytes s n
    let q := r.2.free
    (r.1 ++ [q.1.truncate 8], q.2)

/-- The descriptor base of a USB 2.0 hub context at a speed. -/
def State.hubBase (s : State) (hc : HubCtx) (hs : Bool) : DescBase :=
  match hc with
  | .plate k c =>
    if s.compat then
      let i := ctxInst k c
      let b (a : Nat) : Nat := s.cptRun i a
      let idx (n : Nat) : Nat := if (s.cptString i n).isSome then n else 0
      ⟨0x0200, 9, if !hs then 0 else if (b 6).testBit 1 then 2 else 1, 64, b 0 + 256 * b 1, b 2 + 256 * b 3, b 4 + 256 * b 5, idx 1, idx 2, idx 3⟩
    else ⟨0x0210, 9, if hs then 2 else 0, 64, s.descNat c 1 0 2, s.descNat c 1 6 2, s.descNat c 1 10 2, s.strIndex c (s.descNat c 1 12 1),
      s.strIndex c (s.descNat c 1 13 1), s.strIndex c (s.descNat c 1 14 1)⟩
  | .pres u =>
    let flat := s.isFlat u && !s.compat
    ⟨0x0210, 9, if !hs then 0 else if flat then 2 else 1, 64, s.descNat u 1 0 2, s.descNat u 1 (if flat then 6 else 2) 2, s.descNat u 1 10 2,
      s.strIndex u (s.descNat u 1 12 1), s.strIndex u (s.descNat u 1 13 1), s.strIndex u (s.descNat u 1 14 1)⟩

/-- Bytes of a USB 2.0 hub's status-change endpoint. -/
def State.changeBytes (s : State) (hc : HubCtx) : Nat := s.hubPorts hc / 8 + 1

/-- A USB 2.0 hub context says that it is self-powered: by `SELF_PWR` of its instance in compatibility mode (R430). -/
def State.hubSelf (s : State) (hc : HubCtx) : Bool :=
  match hc with
  | .plate k c => !s.compat || (s.cptRun (ctxInst k c) 6).testBit 7
  | .pres _ => true

/-- The configuration of a USB 2.0 hub at a speed: with two alternate settings where it offers multi-TT. PRESUMED, log 60. -/
def State.hubConfigDesc (s : State) (hc : HubCtx) (ty : Nat) (hs : Bool) : List Byte :=
  let ep := epDesc 0x81 3 (s.changeBytes hc) (if hs then 8 else 16)
  let mtt := hs && !s.isRoot hc && match hc with
    | .plate k c => !s.compat || (s.cptRun (ctxInst k c) 6).testBit 1
    | .pres _ => true
  let body := if mtt then intfDesc 0 1 9 0 1 0 ++ ep ++ intfDesc 1 1 9 0 2 0 ++ ep else intfDesc 0 1 9 0 0 0 ++ ep
  match hc with
  | .plate k c =>
    if s.compat then
      let b := s.cptRun (ctxInst k c) 6
      configDesc ty (0x80 + 64 * bit (b.testBit 7) + 32 * bit (b.testBit 5)) (s.cptRun (ctxInst k c) 0xA) body
    else configDesc ty 0xE0 0 body
  | .pres _ => configDesc ty 0xE0 0 body

/-- The presentation whose records a context's descriptors come from. -/
def State.hubUp (s : State) (hc : HubCtx) : Up := (s.ctxUp hc).getD 0

/-- A descriptor of a USB 2.0 hub. -/
def State.hubDesc (s : State) (hc : HubCtx) (kind idx lang : Nat) : Option (List Byte) :=
  let u := s.hubUp hc
  let hs := (s.hub hc).speed == 2
  let inst : Option Inst := match hc with
    | .plate k c => if s.compat then some (ctxInst k c) else none
    | .pres _ => none
  match kind with
  | 1 => if idx = 0 then some (s.hubBase hc hs).device else none
  | 2 => if idx = 0 then some (s.hubConfigDesc hc 2 hs) else none
  | 3 => (match inst with
    | none => s.presString u idx
    | some i =>
      if idx = 0 then (if (s.cptRun i 7).testBit 0 then some (strDesc [0x09, 0x04]) else none)
      else if lang = 0x0409 then (s.cptString i idx).map strDesc else none)
  | 6 => if idx = 0 then some ((s.hubBase hc hs).qualifier (s.hubBase hc (!hs)).proto) else none
  | 7 => if idx = 0 then some (s.hubConfigDesc hc 7 (!hs)) else none
  | 15 => if inst.isSome ∨ idx ≠ 0 then none else some (bosDesc [lpmCap, s.containerCap u])
  | _ => none

/-! ### Descriptors of the SuperSpeed hubs and the function -/

/-- The SuperSpeed USB device capability in the layout of USB 3.2 (R6): full, high and super speed, all functions from full speed on; the
exit latencies from U1 and U2 are stated nowhere: constants among the codes that are not reserved. PRESUMED, log 60.
DESIGN CHOICE, log 61. -/
def ssCap : List Byte :=
  let n := Config.exitLatency.toNat
  [10, 0x10, 3, 0, 0x0E, 0, 1, BitVec.ofNat 8 (n % 11)] ++ leBytes 2 (n / 2 ^ 16 % 0x800)

/-- The SuperSpeedPlus capability in the layout of USB 3.2 (R6): 10 Gb/s symmetric, from one lane. PRESUMED, log 60. -/
def sspCap : List Byte := [20, 0x10, 0x0A, 0] ++ leBytes 4 1 ++ leBytes 2 0x1100 ++ [0, 0] ++ leBytes 4 0x000A4030 ++ leBytes 4 0x000A40B0

/-- The BOS of a SuperSpeed device of a presentation, with SuperSpeedPlus on the root hub. DESIGN CHOICE, log 61. -/
def State.ssBos (s : State) (u : Up) (root : Bool) : List Byte :=
  bosDesc (if root then [ssCap, sspCap, s.containerCap u] else [ssCap, s.containerCap u])

/-- The hub descriptor of a SuperSpeed hub (R297, R314, R315): per-port power switching and over-current, compound and every port
non-removable on the root hub, `wHubDelay` 300 ns; `bHubContrCurrent` is stated nowhere. PRESUMED, log 60. DESIGN CHOICE, log 61. -/
def State.ssHubDescriptor (s : State) (sc : SsCtx) : List Byte × State :=
  let r := s.free
  let root := match sc with
    | .root _ => true
    | .plate _ _ => false
  let fixed := changeMap (ssPorts sc) (fun n => match ssPort sc n with
    | some f => !s.cfgFlag (.ssp f) F.SSP_CFG_REMOVABLE
    | none => true)
  ([12, 0x2A, BitVec.ofNat 8 (ssPorts sc)] ++ leBytes 2 (9 + 4 * bit root) ++ [50, r.1.truncate 8, 0] ++ leBytes 2 300 ++ leBytes 2 fixed, r.2)

/-- A descriptor of a SuperSpeed hub. -/
def State.ssHubDesc (s : State) (sc : SsCtx) (kind idx : Nat) : Option (List Byte × State) :=
  let u := ssCtxUp sc
  let root := match sc with
    | .root _ => true
    | .plate _ _ => false
  match kind with
  | 1 =>
    if idx = 0 then
      some ((⟨0x0320, 9, 3, 9, s.descNat u 1 0 2, s.descNat u 1 (if root then 4 else 8) 2, s.descNat u 1 10 2, s.strIndex u (s.descNat u 1 12 1),
        s.strIndex u (s.descNat u 1 13 1), s.strIndex u (s.descNat u 1 14 1)⟩ : DescBase).device, s)
    else none
  | 2 => if idx = 0 then some (configDesc 2 0xE0 0 (intfDesc 0 1 9 0 0 0 ++ epDesc 0x81 0x13 2 8 ++ epCompanion 0 2), s) else none
  | 3 => (s.presString u idx).map (fun d => (d, s))
  | 15 => if idx = 0 then some (s.ssBos u root, s) else none
  | 0x2A => if idx = 0 then some (s.ssHubDescriptor sc) else none
  | _ => none

/-- The interface of the management function with its endpoints; the packet size of the bulk pair tells the speed. -/
def State.fnIntf (s : State) (u : Up) (bulk : Nat) : List Byte :=
  let c (b n : Nat) : List Byte := if bulk = 1024 then epCompanion b n else []
  intfDesc 0 3 0xFF 0x57 1 (s.strIndex u (s.descNat u 0x10 6 1)) ++ epDesc 0x81 3 16 (if bulk = 64 then 1 else 4) ++ c 0 16 ++
    epDesc 2 2 bulk 0 ++ c 15 0 ++ epDesc 0x83 2 bulk 0 ++ c 15 0

/-- The descriptor base of an instance of the management function. -/
def State.fnBase (s : State) (u : Up) (ss : Bool) : DescBase :=
  ⟨if ss then 0x0320 else 0x0210, 0, 0, if ss then 9 else 64, s.descNat u 1 0 2, s.descNat u 0x10 0 2, s.descNat u 0x10 2 2,
    s.strIndex u (s.descNat u 1 12 1), s.strIndex u (s.descNat u 0x10 4 1), s.strIndex u (s.descNat u 0x10 5 1)⟩

/-- A descriptor of the management function (R351). -/
def State.fnDesc (s : State) (u : Up) (ss : Bool) (kind idx : Nat) : Option (List Byte × State) :=
  let hs := (s.hub (.pres u)).speed == 2
  let bulk (hs : Bool) : Nat := if ss then 1024 else if hs then 512 else 64
  let other := !ss && idx == 0
  match kind with
  | 1 => if idx = 0 then some ((s.fnBase u ss).device, s) else none
  | 2 => if idx = 0 then some (configDesc 2 0xE0 0 (s.fnIntf u (bulk hs)), s) else none
  | 3 => (s.presString u idx).map (fun d => (d, s))
  | 6 => if other then some ((s.fnBase u ss).qualifier 0, s) else none
  | 7 => if other then some (configDesc 7 0xE0 0 (s.fnIntf u (bulk (!hs))), s) else none
  | 15 =>
    if idx ≠ 0 then none
    else if ss then some (s.ssBos u false, s)
    else some (bosDesc [lpmCap, s.containerCap u], s)
  | _ => none

/-- The answer of a device that has a descriptor, or a Request Error. -/
def State.descReply (s : State) (len : Nat) : Option (List Byte × State) → State
  | none => s.reply .stall
  | some (bs, s1) => s1.reply (.bytes (bs.take len))

/-- The function hears a standard request. PRESUMED, log 60. -/
def State.fnStandard (s : State) (u : Up) (ss : Bool) : Bool := s.fnHears u ss && !((s.mgf u).inst ss).suspended

/-- The data stage of an instance's standard request: its bytes pass through the EP0 buffer of the instance, in pieces of 64 bytes where it
is the one not in service, and a parity mismatch found there stalls it (R350, R372). DEDUCED, log 69. -/
def State.fnData (s : State) (u : Up) (ss : Bool) (bs : List Byte) (parityErr : Bool) : State :=
  let mine := ss == s.ssServes u
  let s1 := if mine then s.epmPut (epmBase u + epmEp0) bs
    else (List.range ((bs.length + 63) / 64)).foldl (fun s i => s.epmPut (epmBase u + epmEp0Other) ((bs.drop (64 * i)).take 64)) s
  if parityErr then (s1.epmError u (if mine then 0 else 4)).fnStall u else s1.reply (.bytes bs)

/-- GET_DESCRIPTOR. -/
def execGetDescriptor (dev : PresDevice) (desc : DescId) (lang : BitVec 16) (len : Nat) (parityErr : Bool) (s : State) :
    Host.Outcome State Fault Refusal :=
  let kind := desc.kind.toNat
  let idx := desc.idx.toNat
  match dev with
  | .hub hc => .next (s.ctxRequest hc (s.descReply len ((s.hubDesc hc kind idx lang.toNat).map (fun d => (d, s)))))
  | .ssHub sc => .next (if s.ssHears sc then s.descReply len (s.ssHubDesc sc kind idx) else s.reply .silent)
  | .fn u ss =>
    .next (if !s.fnStandard u ss then s.reply .silent
      else match s.fnDesc u ss kind idx with
        | none => s.fnStall u
        | some d => d.2.fnData u ss (d.1.take len) parityErr)

/-! ### Addresses and configurations (R289, R351) -/

/-- SET_ADDRESS. PRESUMED, log 60. -/
def execSetAddress (dev : PresDevice) (addr : BitVec 7) (s : State) : Host.Outcome State Fault Refusal :=
  match dev with
  | .hub hc =>
    .next (s.ctxRequest hc (if (s.hub hc).st = 3 then s.reply .stall
      else (s.hubWith hc (fun h => { h with address := addr, st := if addr = 0 then 1 else 2 })).reply .ack))
  | .ssHub sc =>
    .next (if !s.ssHears sc then s.reply .silent
      else if (s.ssHub sc).st = 2 then s.reply .stall
      else (s.ssHubWith sc (fun h => { h with address := addr, st := if addr = 0 then 0 else 1 })).reply .ack)
  | .fn u ss =>
    .next (if !s.fnStandard u ss then s.reply .silent
      else if ((s.mgf u).inst ss).st = 2 then s.fnStall u
      else ((s.mgfInstWith u ss (fun i => { i with address := addr, st := if addr = 0 then 0 else 1 })).mgfSync u).reply .ack)

/-- HUB_SET_CONFIGURATION. -/
def execHubSetConfiguration (dev : PresDevice) (cfg : Nat) (s : State) : Host.Outcome State Fault Refusal :=
  match dev with
  | .hub hc => .next (s.hubConfigure hc cfg)
  | .ssHub sc => .next (s.ssConfigure sc cfg)
  | .fn u ss => .next (s.fnConfigure u ss false cfg)

/-! ### Hub-class requests of both kinds of hub (R289, R315) -/

/-- A request on a hub itself: no answer from a hub that does not hear. -/
def State.anyHub (s : State) (hub : AnyHub) (act : State) : State :=
  match hub with
  | .usb2 hc => s.ctxRequest hc act
  | .ss sc => if s.ssHears sc then act else s.reply .silent

/-- Two bytes of a status from its bits. -/
def statusBytes (bits : List Bool) : List Byte := leBytes 2 (bits.foldr (fun b n => bit b + 2 * n) 0)

/-- What a USB 2.0 hub context answers to a standard GET: self-powered and its remote wake, its configuration, its alternate setting
(R289, R430); none is a Request Error. PRESUMED, log 60. -/
def State.hubGet (s : State) (hc : HubCtx) : StdGet → Option (List Byte)
  | .status => some (statusBytes [s.hubSelf hc, (s.hub hc).remoteWake])
  | .configuration => some [BitVec.ofNat 8 (bit ((s.hub hc).st == 3))]
  | .ifStatus n => if (s.hub hc).st = 3 ∧ n = 0 then some [0, 0] else none
  | .epStatus ep => if ep = 0 ∨ ((s.hub hc).st = 3 ∧ ep = 0x81) then some [0, 0] else none
  | .intf n => if (s.hub hc).st = 3 ∧ n = 0 then some [BitVec.ofNat 8 (bit (s.hub hc).multiTt)] else none

/-- The same of a SuperSpeed hub: self-powered, U1 and U2 enables. PRESUMED, log 60. -/
def State.ssHubGet (s : State) (sc : SsCtx) : StdGet → Option (List Byte)
  | .status => some (statusBytes [true, false, (s.ssHub sc).u1En, (s.ssHub sc).u2En])
  | .configuration => some [BitVec.ofNat 8 (bit ((s.ssHub sc).st == 2))]
  | .ifStatus n => if (s.ssHub sc).st = 2 ∧ n = 0 then some [0, 0] else none
  | .epStatus ep => if ep = 0 ∨ ((s.ssHub sc).st = 2 ∧ ep = 0x81) then some [0, 0] else none
  | .intf n => if (s.ssHub sc).st = 2 ∧ n = 0 then some [0] else none

/-- The same of an instance of the function: self-powered, remote wake as the host has enabled it, which a SuperSpeed device shows in its
interface's status; an endpoint's halt (R351, R368). PRESUMED, log 60. -/
def State.fnGet (s : State) (u : Up) (ss : Bool) (what : StdGet) : Option (List Byte) :=
  let i := (s.mgf u).inst ss
  match what with
  | .status => some (statusBytes [true, !ss && i.remoteWake])
  | .configuration => some [BitVec.ofNat 8 (bit (i.st == 2))]
  | .ifStatus n => if i.st = 2 ∧ n = 0 then some (statusBytes [ss, ss && i.remoteWake]) else none
  | .epStatus ep =>
    if ep = 0 then some [0, 0]
    else if i.st = 2 ∧ (ep = 0x81 ∨ ep = 2 ∨ ep = 0x83) then some (statusBytes [ss == s.ssServes u && s.epHalted u (ep % 16)])
    else none
  | .intf n => if i.st = 2 ∧ n = 0 then some [0] else none

/-- The answer to a standard GET. -/
def State.getReply (s : State) (r : Option (List Byte)) : State :=
  match r with
  | none => s.reply .stall
  | some bs => s.reply (.bytes bs)

/-- GET_HUB_STATUS; the standard GetStatus, GetConfiguration and GetInterface come by it too. DESIGN CHOICE, log 87. -/
def execGetHubStatus (req : StatusReq) (s : State) : Host.Outcome State Fault Refusal :=
  match req with
  | .hub hub => .next (s.anyHub hub (s.reply (.bytes [0, 0, 0, 0])))
  | .std (.hub hc) what _ => .next (s.anyHub (.usb2 hc) (s.getReply (s.hubGet hc what)))
  | .std (.ssHub sc) what _ => .next (s.anyHub (.ss sc) (s.getReply (s.ssHubGet sc what)))
  | .std (.fn u ss) what parityErr =>
    .next (if !s.fnStandard u ss then s.reply .silent
      else match s.fnGet u ss what with
        | none => s.fnStall u
        | some bs => s.fnData u ss bs parityErr)

/-- GET_HUB_DESCRIPTOR. -/
def execGetHubDescriptor (hub : AnyHub) (s : State) : Host.Outcome State Fault Refusal :=
  let d := match hub with
    | .usb2 hc => s.hubDescriptor hc
    | .ss sc => s.ssHubDescriptor sc
  .next (s.anyHub hub (d.2.reply (.bytes d.1)))

/-- HUB_REQUEST_ERROR: Request Error, but for the ClearHubFeature selectors of a USB 2.0 hub that succeed without effect (R289, R315); and the
STALL of an instance of the function (R351, R353). -/
def execHubRequestError (req : HubRequest) (s : State) : Host.Outcome State Fault Refusal :=
  .next (match req with
    | .clearHubFeature (.usb2 hc) sel => s.anyHub (.usb2 hc) (if sel ≤ 1 then s.reply .ack else s.reply .stall)
    | .clearHubFeature (.ss sc) _ => s.anyHub (.ss sc) (s.reply .stall)
    | .other hub => s.anyHub hub (s.reply .stall)
    | .fn fi => if s.fnStandard fi.up fi.ss then s.fnStall fi.up else s.reply .silent)

/-- The status-change endpoint of a SuperSpeed hub: two bytes, or NRDY while no change is held (R330). -/
def State.ssPoll (s : State) (sc : SsCtx) : State :=
  let m := changeMap (ssPorts sc) (fun n => match ssPort sc n with
    | some f => (s.ssp f).chg[ssCtxUp sc] != 0
    | none => s.ssRootChg sc n != 0)
  if !s.ssHears sc || (s.ssHub sc).st != 2 then s.reply .silent
  else if m = 0 then s.reply .nak else s.reply (.bytes (leBytes 2 m))

/-- STATUS_CHANGE_POLL. -/
def execStatusChangePoll (hub : AnyHub) (s : State) : Host.Outcome State Fault Refusal :=
  match hub with
  | .usb2 hc => .next (s.hubPoll hc)
  | .ss sc => .next (s.ssPoll sc)

/-- DEVICE_REMOTE_WAKEUP: of a hub context (R286) or an instance of the function (R366); a SuperSpeed hub has no such feature. PRESUMED,
log 60. -/
def execDeviceRemoteWakeup (dev : PresDevice) (set : Bool) (s : State) : Host.Outcome State Fault Refusal :=
  match dev with
  | .hub hc => .next (s.ctxRequest hc ((s.hubWith hc (fun h => { h with remoteWake := set })).reply .ack))
  | .ssHub sc => .next (if s.ssHears sc then s.reply .stall else s.reply .silent)
  | .fn u ss =>
    .next (if !s.fnStandard u ss then s.reply .silent
      else ((s.mgfInstWith u ss (fun i => { i with remoteWake := set })).mgfSync u).reply .ack)

/-! ### Packets repeated (R269, R270) -/

/-- HIGH_SPEED_PACKET: also the packets of a full-speed segment (R270), and an LPM transaction to a hub or function itself, which answers
STALL (R287, R351). DESIGN CHOICE, log 74. -/
def execHighSpeedPacket (pk : HsPacket) (s : State) : Host.Outcome State Fault Refusal :=
  match pk with
  | .down hc payload =>
    if s.ctxHears hc && (s.hub hc).speed == 2 then .next (s.repeatDown (s.reached hc s.repeatsTo) payload) else .next (s.reply .silent)
  | .fullDown hc pre payload =>
    if s.ctxHears hc && (s.hub hc).speed == 1 then .next (s.repeatDown (s.reached hc (fun h => s.repeatsFull h pre)) payload)
    else .next (s.reply .silent)
  | .up p payload =>
    match s.ownerCtx p with
    | none => .next (s.reply .silent)
    | some hc =>
      if s.ctxHears hc && s.repeatsUp hc p then .next ((s.countU2 (plateOf p) payload).reply (.repeated [] (some hc)))
      else .next (s.reply .silent)
  | .lpm dev =>
    match dev with
    | .hub hc => .next (s.ctxRequest hc (s.reply .stall))
    | .fn u false => .next (if s.fnHears u false then s.reply .stall else s.reply .silent)
    | .fn _ true | .ssHub _ => .next (s.reply .silent)

end Sys2Proof.Machine
end

