-- ==== Sys2Proof/Machine/Domain.lean ====
section
/-! DEFINITION. Clocks and reset domains (chapter 01): plates and their FCLK branches, calibrations (R484), the graver, the DRAM
controller (R20), the management domain (R21) and core global reset. -/

namespace Sys2Proof.Machine

/-! ### Calibrations (R134, R484) -/

/-- Plate k is due for calibration. -/
def State.calDue (s : State) (k : Plate) : Bool :=
  !s.compat && s.loaded && !s.plateInRst k && s.fclkRun k && !(s.get .glb F.GLB_READY_PLATE_CAL).testBit k.val

/-- The next plate that is due asks for leave, once the upstream lanes are calibrated and no other calibration is asked.
DEDUCED, log 44. DEDUCED, log 82. -/
def State.askPlateCal (s : State) : State :=
  if !s.flag .glb F.GLB_READY_UP_CAL || allPlates.any (fun k => s.asked (.plateCal k)) then s else
  match allPlates.find? s.calDue with
  | none => s
  | some k => s.askLeave (.plateCal k)

/-- A change on port k + 1 of both root hubs' SuperSpeed views. -/
def State.ssRootChange (s : State) (k : Plate) : State :=
  ([0, 1] : List Up).foldl (fun s u => if s.ssCtxOn k u then
    s.ssHubWith (.root u) (fun x => { x with rootChg := x.rootChg.set k.val (x.rootChg[k.val] ||| sConnection) }) else s) s

/-- PLATE_CALIBRATION_END: the links of the plate may run and its SuperSpeed hubs report connected (R453). -/
def execPlateCalibrationEnd (k : Plate) (s : State) : Host.Outcome State Fault Refusal :=
  if !s.coreUp || !s.arb.running.contains (.plateCal k) then .next s else
  let s1 := ((s.opDone (.plateCal k)).put .glb (fldBit F.GLB_READY_PLATE_CAL k.val) 1).ssRootChange k
  .next (((plateFulls k).foldl (fun s f => s.ssEval f) s1).restoreCheck k).askPlateCal

/-- UP_CALIBRATION_END. -/
def execUpCalibrationEnd (s : State) : Host.Outcome State Fault Refusal :=
  if !s.coreUp || !s.arb.running.contains .upCal then .next s
  else .next (((s.opDone .upCal).put .glb F.GLB_READY_UP_CAL 1).askPlateCal)

/-- `PLATE_CAL` clears, and a calibration that has not ended is abandoned (R484). -/
def State.calClear (s : State) (k : Plate) : State :=
  ((s.put .glb (fldBit F.GLB_READY_PLATE_CAL k.val) 0).endLeave (.plateCal k)).askPlateCal

/-! ### A plate's SuperSpeed side (R17) -/

/-- The SSH block and the SSP blocks of a plate reset: links down, queues emptied, contexts fresh with their power bits 1 as R277 gives
them at release. A lane mux holds while its port stays attached (R215). -/
def State.plateSsReset (s : State) (k : Plate) : State :=
  let s1 := (plateFulls k).foldl (fun s f => s.ssEvalAs f 2) s
  let s2 := (plateFulls k).foldl (fun s f =>
    ((s.sspClear f).setFlag (.ssp f) F.SSP_STATUS_PAIR2 (s.flag (.ssp f) F.SSP_STATUS_PAIR2)).sspWith f (fun _ => freshSsp)) s1
  let s3 := ([0, 1] : List Up).foldl (fun s u =>
    (s.ssHubWith (.plate k u) (fun _ => { freshSsCtx with power := 0xF })).upLkWith u
      (fun l => { l with down := l.down.set k [], up := l.up.set k [] })) s2
  s3.clearPage (.ssh k)

/-- The FCLK branch of a plate has stopped. -/
def State.fclkStop (s : State) (k : Plate) : State := (((s.ssRootChange k).plateSsReset k).calClear k).restoreCheck k

/-- The FCLK branch of a plate runs again: the SSH page and the SSP pages of the ports out of reset are restored. DEDUCED, log 43. -/
def State.fclkStart (s : State) (k : Plate) : State :=
  if s.plateInRst k then s else
  let s1 := s.reapply (· == .ssh k) 0x02 k.val
  let s2 := (plateFulls k).foldl (fun s f => if s.portInRst (fullPort f) then s else s.reapply (· == .ssp f) 0x03 (fullPort f).val) s1
  s2.askPlateCal

/-! ### Plate resets (R17–R19, R22, R452, R453) -/

/-- A source of R17 holds the plate in reset. -/
def State.plateHeld (s : State) (k : Plate) : Bool :=
  s.coreHeld || (s.cfg .clk F.CLK_RESET_PLATE_RST).testBit k.val || (s.cfg .hlt F.HLT_PLATE_ISO_ISO).testBit k.val

/-- The plate contexts forget their ports: change bits, owed changes and power holds. DEDUCED, log 43. -/
def State.plateViewsClear (s : State) (k : Plate) : State :=
  (platePorts k).foldl (fun s p => ([0, 1] : List (Fin 2)).foldl (fun s c =>
    if s.isFlat c && !s.compat then s else
    s.u2pWith p (fun u => { u with chg := u.chg.set c 0, hold2 := u.hold2 &&& ~~~(1#2 <<< c.val), holdS := u.holdS &&& ~~~(1#2 <<< c.val) })) s) s

/-- A plate enters reset: its ports, both contexts of its hub engine and its SuperSpeed switch. DEDUCED, log 43. -/
def State.plateReset (s : State) (k : Plate) : State :=
  if s.plateInRst k then s else
  let s1 := (s.ssRootChange k).put .clk (fldBit F.CLK_RESET_STATUS_PLATE_IN_RST k.val) 1
  let s2 := (((platePorts k).foldl (fun s p => s.portReset p) s1).plateSsReset k).plateViewsClear k
  let s3 := ([0, 1] : List (Fin 2)).foldl (fun s c => s.hubWith (.plate k c) (fun _ => freshHubCtx)) s2
  ((s3.clearPage (.u2h k)).calClear k)

/-- The stored power bits of a plate's contexts as they leave reset (R277); 0 in compatibility mode, where the instances are in hold. -/
def State.platePower (s : State) (k : Plate) : State :=
  (platePorts k).foldl (fun s p => ([0, 1] : List (Fin 2)).foldl (fun s c =>
    if s.isFlat c && !s.compat then s else s.setPowerBit p c (!s.compat)) s) s

/-- A plate leaves reset: its sections and those of its ports are applied, its contexts start afresh, and its calibration is asked. -/
def State.plateRelease (s : State) (k : Plate) : State :=
  let ps := platePorts k
  let s1 := ps.foldl (fun s p => s.portBlank p) (s.put .clk (fldBit F.CLK_RESET_STATUS_PLATE_IN_RST k.val) 0)
  let sr := s1.restore ((0x02, k.val) :: ps.flatMap (fun p => [(0x10, p.val), (0x03, p.val)]))
  let s2 := (ps.foldl (fun s p => s.lrRestore p) sr).platePower k
  let s3 := ([0, 1] : List Up).foldl (fun s u => if s.presAttached u && !s.compat then s.ctxWakeUp (.plate k u) else s) s2
  let s5 := if s.compat then ([0, 1] : List (Fin 2)).foldl (fun s c =>
    if s.instExists (ctxInst k c) then s.instHold (ctxInst k c) else s) s3 else s3
  let s6 := ps.foldl (fun s p => if s.portHeld p || !s.portInRst p || !s.fitted p then s else s.portEnter p) s5
  (s6.askPlateCal).restoreCheck k

/-- A plate follows its sources. -/
def State.plateFollow (s : State) (k : Plate) : State :=
  if s.plateHeld k then s.plateReset k else if s.plateInRst k then s.plateRelease k else s

/-! ### The graver (R403) -/

/-- A source holds the graver in reset. DESIGN CHOICE, log 79. -/
def State.graverHeld (s : State) : Bool := s.cfgFlag .clk F.CLK_RESET_GRAVER_RST || !s.cfgFlag .clk F.CLK_GATE_GCLK_RUN

/-- The template store emptied. -/
def State.dropTemplates (s : State) : State := s.grvWith (fun g => { g with templates := [] })

/-- The template store loaded anew from the active image (R379). -/
def State.loadTemplates (s : State) : State := s.dropTemplates.reapply anyPage 0x40 0

/-- The graver follows its sources. At release the GRV page takes the values that its Reset columns name, and the template store is
reloaded. The endpoint tables stay loaded, as `LHE_STATUS` says (R8, R403). DEDUCED, log 72. -/
def State.graverFollow (s : State) : State :=
  let b := s.flag .clk F.CLK_RESET_STATUS_GRAVER_IN_RST
  if s.graverHeld == b then s
  else if b then ((s.put .clk F.CLK_RESET_STATUS_GRAVER_IN_RST 0).reapply (· == .grv) 0x04 0).loadTemplates
  else
    let s1 := (s.grvClear.clearPage .grv).put .clk F.CLK_RESET_STATUS_GRAVER_IN_RST 1
    allPorts.foldl (fun s p => s.lheWith p (fun l => { l with errs := [] })) s1

/-! ### The DRAM controller (R20, R414) -/

/-- A source holds the DRAM controller in reset. -/
def State.drcHeld (s : State) : Bool :=
  s.cfgFlag .clk F.CLK_RESET_DRC_RST || !s.cfgFlag .clk F.CLK_GATE_DCLK_RUN || !s.cfgFlag .clk F.CLK_GATE_GCLK_RUN

/-- DCLK and GCLK set running or stopped. -/
def State.setClocks (s : State) (d g : Bool) : State := { s with dclkOn := d, gclkOn := g }

/-- DCLK and GCLK follow `CLK_GATE`, unless the sequence of R20 still runs. -/
def State.clocksFollow (s : State) : State :=
  if s.drcPend then s
  else s.setClocks (s.cfgFlag .clk F.CLK_GATE_DCLK_RUN) (s.cfgFlag .clk F.CLK_GATE_GCLK_RUN)

/-- The accesses in flight end with TARGET_RESET (R20). -/
def State.drcEndAccesses (s : State) : State := ((s.winCut 0 4).winCut 1 4).vendorCut.bulkCut

/-- The DRAM is not reachable. -/
def State.drcDown (s : State) : State := (s.put .glb F.GLB_READY_DRAM_READY 0).put .drc F.DRC_STATUS_SIZE_MIB 0

/-- The domain enters reset; the next training is warm if the DRAM waits in self-refresh. -/
def State.drcReset (s : State) (warm : Bool) : State :=
  let s1 := (((s.drcEndAccesses).endLeave .ddr).drcDown).clearPage .drc
  ((s1.dramWith (fun d => { d with warm := warm, again := false, scrubPos := 0 })).setDrcSt (bit !s.noDram)).put
    .clk F.CLK_RESET_STATUS_DRC_IN_RST 1

/-- The domain leaves reset with the values its Reset columns name, and asks for training. -/
def State.drcRelease (s : State) : State :=
  let s1 := (s.put .clk F.CLK_RESET_STATUS_DRC_IN_RST 0).reapply (· == .drc) 0x04 0
  if s.noDram || !s.loaded then s1 else s1.drcAsk

/-- The DRAM controller follows its sources: a trained DRAM goes to self-refresh first. -/
def State.drcFollow (s : State) : State :=
  let inRst := s.flag .clk F.CLK_RESET_STATUS_DRC_IN_RST
  if s.drcPend then s
  else if s.drcHeld then
    if inRst then s.clocksFollow
    else if s.drcSt = 4 then { s.drcEndAccesses with drcPend := true }
    else (s.drcReset false).clocksFollow
  else if inRst then (s.clocksFollow).drcRelease
  else s.clocksFollow

/-- An LR restart or `BLK_RST` of the DRC page: the sequence of R20, then retraining (R52, R422). A DRAM whose training has failed twice
stays untrained until a reset of its domain (R414). DEDUCED, log 45. -/
def State.drcRestart (s : State) : State :=
  if s.noDram || s.drcPend || !s.loaded || s.drcSt == 5 then s
  else if s.drcSt = 4 then { (s.drcEndAccesses.drcDown).setDrcSt 6 with drcPend := true }
  else
    let keep := (s.drcSt = 2 ∨ s.drcSt = 3) && s.dram.warm
    ((s.endLeave .ddr).dramWith (fun d => { d with warm := keep, again := false })).drcAsk

/-- SELF_REFRESH_ENTRY: a pending reset or clock stop takes effect, or the restart goes on to training. -/
def execSelfRefreshEntry (s : State) : Host.Outcome State Fault Refusal :=
  if !s.drcPend then .next s else
  let s1 := { s with drcPend := false }
  if s.drcSt = 6 ∧ !s.drcHeld then .next ((s1.dramWith (fun d => { d with warm := true, again := false })).drcAsk)
  else
    let s2 := (s1.drcReset true).clocksFollow
    .next (if s.drcHeld then s2 else s2.drcRelease)

/-! ### The management domain (R21) -/

/-- The MGT page as it leaves reset: the latched straps, no ring member but this chip, and not even it where its ID is a duplicate
(R107). -/
def State.mgtFresh (s : State) : State :=
  let id := s.get .glb F.GLB_STRAPS_CHIPID
  let s1 := (s.put .mgt F.MGT_CHIP_CHIP_ID id).put .mgt F.MGT_CHIP_RING_EN (s.get .glb F.GLB_STRAPS_RING_EN)
  (s1.put .mgt F.MGT_RING_STATUS_MEMBERS (if s.flag .mgt F.MGT_RING_STATUS_DUP_ID then 0 else 2 ^ id)).put .mgt F.MGT_RING_ROUTE_ROUTE (3 * 4 ^ id)

/-- A run that a reset of the management domain does not end: a host agent's or a vendor request's. -/
def AccessRun.outlivesMgt (r : AccessRun) : Bool :=
  match r.kind with
  | .frame => false
  | .ring _ => false
  | .single => r.who == .h0 || r.who == .h1
  | .vendor => true

/-- Frames in flight, responses, links and the legacy target lost. DEDUCED, log 45. -/
def State.mgtDrop (s : State) : State :=
  let s1 := { s with
    runs := s.runs.filter AccessRun.outlivesMgt, mports := Vector.replicate 2 freshMPort, ringSlots := [],
    ringSides := Vector.replicate 2 ⟨none, [], []⟩, legacy := ⟨none, true⟩ }
  [0, 1, 2, 3].foldl (fun s n => s.unhand n) s1

/-- The MGT page with its reset values and the latched straps; a chip that has found its ID elsewhere keeps `DUP_ID` until core reset
(R103). -/
def State.mgtPageReset (s : State) : State :=
  let dup := s.get .mgt F.MGT_RING_STATUS_DUP_ID
  ((s.clearPage .mgt).put .mgt F.MGT_RING_STATUS_DUP_ID dup).mgtFresh

/-- The management domain enters reset; the host agents keep their rights while the domain is held (R21). DEDUCED, log 45. -/
def State.mgtReset (s : State) : State :=
  let grant := fldGet ⟨0, 0, 2⟩ (s.cfgWord .mgt 0x44)
  let s1 := ((s.mgtPageReset).put .mgt ⟨0x44, 0, 2⟩ grant).mgtDrop
  ((s1.put .glb F.GLB_READY_MGT_READY 0).put .glb F.GLB_READY_RING_UP 0).put .clk F.CLK_RESET_STATUS_MGT_IN_RST 1

/-- The domain leaves reset: each MGT page register takes the value that the GLOBAL entries give it or its reset value, whatever the domain
has recorded while it was held, and the check of R98 runs. -/
def State.mgtRelease (s : State) : State :=
  (((s.mgtPageReset).put .clk F.CLK_RESET_STATUS_MGT_IN_RST 0).reapply (· == .mgt) 0x01 0).legCheck

/-- A write frame to the CLK page has not completed yet. -/
def State.clkFrameRuns (s : State) : Bool := s.runs.any (fun r => r.write && !r.done.isEmpty && decide (r.addr / 0x1000 = 1))

/-- `MGT_RST` asks for another state of the management domain than it is in. -/
def State.mgtWaits (s : State) : Bool :=
  s.locked && s.cfgFlag .clk F.CLK_RESET_MGT_RST != s.flag .clk F.CLK_RESET_STATUS_MGT_IN_RST

/-- The management domain follows `MGT_RST`, once the access that wrote it has completed: for a ring request, once its response has left
(R21). -/
def State.mgtFollow (s : State) : State :=
  if !s.mgtWaits || s.clkFrameRuns || s.ringSlots.any (fun x => x.holds) then s
  else if s.cfgFlag .clk F.CLK_RESET_MGT_RST then s.mgtReset else s.mgtRelease

/-- MGT_READY (R89): ports A and B begin to take frames. DESIGN CHOICE, log 2. -/
def execMgtReady (s : State) : Host.Outcome State Fault Refusal :=
  .next (if s.coreUp && !s.domainInRst .mgt then s.put .glb F.GLB_READY_MGT_READY 1 else s)

/-! ### Core global reset (R15, R17, R22, R152, R468) -/

/-- Core global reset is asserted with a cause: everything but the entry domain and MRAM returns to its reset state, and the contents of
the DRAM are open again. -/
def State.coreReset (s : State) (cause : Fin 8) : State :=
  let s0 := s.commitCut
  let pwe (a : Nat) : Bool := decide (0x5000 ≤ a ∧ a < 0x6000)
  { State.reset with
    pending := s0.pending, answer := s0.answer, freeCount := s0.freeCount, mram := s0.mram, wear := s0.wear,
    entry := { s0.entry with lastCause := cause }, regs := s0.regs.filter (fun e => pwe e.1),
    bad := s0.bad.filter (fun m => pwe m.addr), fifos := s0.fifos.filter (fun e => e.1 == 5), dram := freshDram (s0.dram.epoch + 1) }

/-- The core straps latched (R36, R37). -/
def State.latchStraps (s : State) (st : Straps) : State :=
  let w := st.chipId.val + 16 * bit st.compat + 32 * bit st.cfgBypass + 64 * st.dram.val + 256 * bit st.ringEn + 512 * bit s.entry.strapPref
  s.wr (PageId.base .glb + 0x60) (BitVec.ofNat 32 w)

/-- Core reset released with the straps that `GLB_STRAPS` holds: the mode is fixed (R4), the fitted ranks are known (R36), the reference
toggles, the root PLL starts, and the management domain waits in reset for its clock. -/
def State.coreRelease (s : State) : State :=
  let dram := s.get .glb F.GLB_STRAPS_DRAM
  let s1 := (({ s with coreHeld := false }).fixMode).setFlag .glb F.GLB_READY_DRAM_ABSENT (dram == 0 || dram == 3)
  (s1.mgtFresh.put .clk F.CLK_ROOT_STATUS_REF_PRESENT 1).put .clk F.CLK_RESET_STATUS_MGT_IN_RST 1

/-- SUPPLY_MONITOR_TRIP. -/
def execSupplyMonitorTrip (s : State) : Host.Outcome State Fault Refusal := .next (s.coreReset 0)

/-- CORERESET. -/
def execCorereset (s : State) : Host.Outcome State Fault Refusal := .next (s.coreReset 3)

/-- CORE_RESET_RELEASE. DESIGN CHOICE, log 2. -/
def execCoreResetRelease (st : Straps) (s : State) : Host.Outcome State Fault Refusal :=
  if s.coreHeld then .next ((s.latchStraps st).coreRelease) else .next s

/-- ROOT_UNLOCK: core global reset with cause 2; the latched straps stand while a new lock starts. DEDUCED, log 44. -/
def execRootUnlock (s : State) : Host.Outcome State Fault Refusal :=
  if !s.locked then .next s
  else .next ((s.coreReset 2).wr (PageId.base .glb + 0x60) (s.rd (PageId.base .glb + 0x60)))

/-- ROOT_LOCK: every core clock runs, the lane PLLs lock, the management domain leaves reset and the load begins. After a loss of lock
this is where start-up proceeds (R15). DESIGN CHOICE, log 2. DEDUCED, log 44. -/
def execRootLock (s : State) : Host.Outcome State Fault Refusal :=
  if s.locked || (s.coreHeld && s.entry.lastCause != 2) then .next s else
  let s0 := if s.coreHeld then s.coreRelease else s
  let s1 := (s0.put .clk F.CLK_ROOT_STATUS_ROOT_LOCKED 1).put .clk F.CLK_ROOT_STATUS_LANE_PLATE_LOCKED 0xF
  let s2 := ((s1.put .clk F.CLK_ROOT_STATUS_LANE_U0_LOCKED 1).put .clk F.CLK_ROOT_STATUS_LANE_U1_LOCKED 1).put .glb F.GLB_READY_CORE 1
  .next ((s2.put .clk F.CLK_RESET_STATUS_MGT_IN_RST 0).setClocks true true)

/-! ### Lane PLLs (R16) -/

/-- Detail of LANE_UNLOCK (R459). -/
def laneBit : Lane → Nat
  | .up u => 2 ^ u.val
  | .plate k => 2 ^ (k.val + 2)

/-- LANE_UNLOCK: only the links that the PLL serves fall. DEDUCED, log 44. -/
def execLaneUnlock (lane : Lane) (s : State) : Host.Outcome State Fault Refusal :=
  if !s.coreUp || !s.flag .clk (laneFld lane) then .next s else
  let s1 := ((s.put .clk (laneFld lane) 0).count .clk F.CLK_ROOT_STATUS_LANE_UNLOCK_CNT).raise .hlt evLaneUnlock 0 (laneBit lane)
  match lane with
  | .plate k => .next ((plateFulls k).foldl (fun s f => s.ssEvalAs f 3) s1)
  | .up u => .next (if s.compat || s.upState u = lkDisabled then s1 else s1.upGone u 3)

/-- LANE_RELOCK: the links retrain. -/
def execLaneRelock (lane : Lane) (s : State) : Host.Outcome State Fault Refusal :=
  if !s.coreUp || s.flag .clk (laneFld lane) then .next s else
  let s1 := s.put .clk (laneFld lane) 1
  match lane with
  | .plate k => .next ((plateFulls k).foldl (fun s f => s.ssEval f) s1)
  | .up u => .next (if s1.upMayRun u then s1.setUpState u lkRxDetect else s1)

end Sys2Proof.Machine
end

