-- ==== Sys2Proof/Machine/Bgt.lean ====
section
/-! DEFINITION. The budget arbiter (R181–R193, R447): pools, leave, grants, growth and revocation. -/

namespace Sys2Proof.Machine

/-! ### Configuration in force -/

/-- A register of the pools or of `BGT_CFG` mismatches (R202). -/
def State.poolBad (s : State) : Bool := [0x40, 0x44, 0x4C].any (s.badFound .bgt)

/-- A die-pool register mismatches (R202). -/
def State.dieBad (s : State) : Bool := [0x50, 0x54, 0x58].any (s.badFound .bgt)

/-- Revocation and growth stop, and every request is deferred (R202). -/
def State.bgtBad (s : State) : Bool := s.poolBad || s.dieBad

/-- `TARGET` of a port in force: 7.5 W in compatibility mode (R189, R202, R438). -/
def State.bgtTarget (s : State) (p : Port) : Nat :=
  if s.compatPort p && !s.badFound .bgt (0x80 + 4 * p.val) then 75
  else clampTo (defaultGrant p) (if isFullPort p then 2400 else 600) (s.cfg .bgt (F.BGT_PORTn_TARGET p.val))

/-- `CLASS` of a port in force (R202). -/
def State.bgtClass (s : State) (p : Port) : Nat := s.cfg .bgt (F.BGT_PORTn_CLASS p.val)

/-- `BGT_GRANTn.STATE`. -/
def State.grantSt (s : State) (p : Port) : Nat := s.get .bgt (F.BGT_GRANTn_STATE p.val)

/-- The committed total (R183). -/
def State.committed (s : State) : Nat := allPorts.foldl (fun n p => n + s.grant p) 0

/-- The port pool in force. -/
def State.poolCur (s : State) : Nat := s.get .bgt F.BGT_POOL_STATUS_CUR

/-- Free port power (R183). -/
def State.freePower (s : State) : Nat := s.poolCur - s.committed

/-- The size that feeds and shedding give the port pool (R181, R447). -/
def State.poolSize (s : State) : Nat :=
  let base := if !s.arb.goodA && !s.arb.goodB then 0
    else if s.flag .bgt F.BGT_POOL_STATUS_DUAL then s.cfg .bgt F.BGT_POOL_DUAL_POOL
    else s.cfg .bgt F.BGT_POOL_SINGLE_POOL
  base * (10 - s.get .hlt F.HLT_STATUS_SHED_STEPS) / 10

/-- Revocation runs: some revoked port is judged under R192. -/
def State.revoking (s : State) : Bool := allPorts.any (fun p => s.grantSt p == 3)

/-- What a port's contract takes, 0.1 W, rounded up (R191): its PD contract, or Type-C power at the Rp its grant gives.
DEDUCED, log 48. -/
def State.contractDw (s : State) (p : Port) : Nat :=
  if s.contractSrc p then (s.get (.tcp p) F.TCP_CONTRACT_V_MV * s.get (.tcp p) F.TCP_CONTRACT_I_10MA + 9999) / 10000
  else if s.vbusOn p then s.basisMa p * 5 / 100
  else 0

/-! ### Requests (R184–R186) -/

/-- The kind of an operation (R184). -/
def leaveKind : LeaveOp → Nat
  | .turnOn _ => 0
  | .raise _ => 1
  | .ddr => 3
  | .upCal => 4
  | .plateCal _ => 5
  | .commit => 6
  | .fanout _ => 7

/-- The port of a port operation. -/
def leavePort : LeaveOp → Option Port
  | .turnOn p => some p
  | .raise p => some p
  | _ => none

/-- The class of an operation (R184). -/
def State.leaveClass (s : State) : LeaveOp → Nat
  | .turnOn p => s.bgtClass p
  | .raise p => s.bgtClass p
  | .commit => 2
  | .fanout _ => 1
  | _ => 3

/-- The die cost of an operation (R184). -/
def State.leaveCost (s : State) : LeaveOp → Nat
  | .turnOn _ => s.cfg .bgt F.BGT_DIE_COST1_VBUS_ON
  | .raise _ => s.cfg .bgt F.BGT_DIE_COST1_RAISE
  | .ddr => s.cfg .bgt F.BGT_DIE_COST0_DDR
  | .upCal => s.cfg .bgt F.BGT_DIE_COST0_UPCAL
  | .plateCal _ => s.cfg .bgt F.BGT_DIE_COST0_PLATECAL
  | .commit => s.cfg .bgt F.BGT_DIE_COST0_COMMIT
  | .fanout _ => s.cfg .bgt F.BGT_DIE_COST1_FANOUT

/-- The rotation index of a port (R186). -/
def rotIndex (p : Port) : Nat := 4 * (p.val % 16) + p.val / 16

/-- The rotation index of an operation: 0 where no port is concerned. -/
def leaveRot (op : LeaveOp) : Nat :=
  match leavePort op with
  | some p => rotIndex p
  | none => 0

/-- Whether one request is taken before another (R186). -/
def State.takenBefore (s : State) (a b : LeaveReq) : Bool :=
  let ca := s.leaveClass a.op
  let cb := s.leaveClass b.op
  if ca ≠ cb then decide (cb < ca)
  else if a.arrival ≠ b.arrival then decide (a.arrival < b.arrival)
  else if leaveKind a.op ≠ leaveKind b.op then decide (leaveKind a.op < leaveKind b.op)
  else decide (leaveRot a.op < leaveRot b.op)

/-- A request put in its place. -/
def State.placeReq (s : State) (r : LeaveReq) : List LeaveReq → List LeaveReq
  | [] => [r]
  | x :: t => if s.takenBefore r x then r :: x :: t else x :: s.placeReq r t

/-- The pending requests in the order of R186. -/
def State.orderedReqs (s : State) : List LeaveReq := s.arb.reqs.foldl (fun l r => s.placeReq r l) []

/-- An answer of the arbiter (R185). -/
inductive Verdict where
  | grant | cap | deny
  | defer (reason : Fin 8)
  deriving DecidableEq, Repr

/-- The die pool lets an operation start now (R181, R185): within `ALLOW`, or alone in a window where it exceeds it. -/
def State.dieFits (s : State) (op : LeaveOp) : Bool :=
  let allow := clampTo 50 4000 (s.cfg .bgt F.BGT_DIE_CFG_ALLOW)
  let used := s.get .bgt F.BGT_DIE_STATUS_USED
  if allow < s.leaveCost op then used == 0 else decide (used + s.leaveCost op ≤ allow)

/-- The raise asked for exceeds the port's present grant (R185). -/
def State.raiseOver (s : State) (p : Port) : Bool :=
  match (s.pd p).req with
  | none => false
  | some rdo =>
    match s.readRdo p rdo with
    | none => false
    | some (mv, ma10, _, _) => decide (10000 * s.grant p < mv * ma10)

/-- The verdict on a request; `blocked` is one more than the highest class deferred for port power in this pass (R185, R186, R193,
R202, R52). -/
def State.verdict (s : State) (blocked : Nat) (op : LeaveOp) : Verdict :=
  if !s.pageOn .bgt || s.poolBad then .defer 1
  else if s.dieBad then .defer 2
  else match op with
  | .turnOn p =>
    if s.poolCur < defaultGrant p then .deny
    else if s.bgtClass p + 1 < blocked then .defer 4
    else if s.freePower < defaultGrant p - s.grant p then .defer 1
    else if !s.dieFits op then .defer 2
    else if !s.arb.paceFree then .defer 3
    else .grant
  | .raise p =>
    if s.revoking then .defer 5
    else if s.raiseOver p then .cap
    else if !s.dieFits op then .defer 2
    else .grant
  | _ => if s.dieFits op then .grant else .defer 2

/-- A GRANT or DEFER record of an operation (R201). -/
def State.leaveEvent (s : State) (e : Ev) (op : LeaveOp) (reason : Nat) : State :=
  let tail := leaveKind op * 0x1000 + reason * 0x10000
  match op with
  | .turnOn p => s.raisePort .bgt p e (s.grant p + tail)
  | .raise p => s.raisePort .bgt p e (s.grant p + tail)
  | .plateCal k => s.raise .bgt e k.val tail
  | _ => s.raise .bgt e 0 tail

/-- The first deferral of a request is answered, counted and recorded (R185). DEDUCED, log 48. -/
def State.deferReq (s : State) (r : LeaveReq) (why : Fin 8) : State :=
  if r.deferred.isSome then s else
  let s1 := (s.arbWith (fun a => { a with reqs := a.reqs.map (fun x => if x.op = r.op then { x with deferred := some why } else x) })).arbSync
  let s2 := (s1.count .bgt F.BGT_CNT_DEFERS).leaveEvent evDefer r.op why.val
  match r.op with
  | .turnOn p => s2.put .bgt (F.BGT_GRANTn_STATE p.val) 1
  | _ => s2

/-- A request left deferred by a decision, and whether it is for port power (R186, R188). -/
def State.leaveReq (s : State) (r : LeaveReq) (why : Fin 8) : State :=
  let lacks := leaveKind r.op == 0 && (why == 1 || why == 4)
  (s.deferReq r why).arbWith (fun a => { a with reqs := a.reqs.map (fun x => if x.op = r.op then { x with lacks } else x) })

/-- A request taken from the pending ones. -/
def State.dropReq (s : State) (op : LeaveOp) : State :=
  (s.arbWith (fun a => { a with reqs := a.reqs.filter (fun x => x.op != op) })).arbSync

/-- A port's grant set, and what follows it (R188). -/
def State.setGrant (s : State) (p : Port) (v : Nat) : State :=
  (s.put .bgt (F.BGT_GRANTn_GRANT p.val) v).grantChanged p (s.grant p)

/-- What a granted operation starts. -/
def State.startOp (s : State) : LeaveOp → State
  | .turnOn p => (s.turnOnGranted p).firstSettled p
  | .raise p => s.raiseGrant p
  | .ddr => s.setDrcSt 3
  | .commit => s.commitGranted
  | .fanout g => s.fanGrant ⟨g.val % 2, Nat.mod_lt _ (by decide)⟩
  | _ => s

/-- A GRANT (R185): the die cost is charged, a turn-on takes its pacing slot and its default grant, and the operation starts. -/
def State.grantReq (s : State) (op : LeaveOp) : State :=
  let s1 := (s.dropReq op).arbWith (fun a => { a with running := a.running ++ [op] })
  let s2 := s1.put .bgt F.BGT_DIE_STATUS_USED (min (s1.get .bgt F.BGT_DIE_STATUS_USED + s1.leaveCost op) 4095)
  let s3 := match op with
    | .turnOn p =>
      ((s2.arbWith (fun a => { a with paceFree := false })).setGrant p (max (s2.grant p) (defaultGrant p))).put .bgt
        (F.BGT_GRANTn_STATE p.val) 2
    | _ => s2
  (s3.leaveEvent evGrant op 0).startOp op

/-- A CAP (R185). -/
def State.capReq (s : State) (op : LeaveOp) : State :=
  let s1 := (s.dropReq op).leaveEvent evDefer op 6
  match op with
  | .raise p => s1.raiseCap p
  | _ => s1

/-- A DENY (R185): the request ends. -/
def State.denyReq (s : State) (op : LeaveOp) : State :=
  let s1 := (s.dropReq op).leaveEvent evDefer op 7
  match op with
  | .turnOn p =>
    (((s1.put .bgt (F.BGT_GRANTn_STATE p.val) 4).put (.tcp p) F.TCP_CC_STATUS_LEAVE_WAIT 0).firstSettled p).powerFails p
  | _ => s1

/-- One request of a pass: passed over with a deferral, or answered, which ends the pass (R186). -/
def State.tryReq (acc : State × Nat × Bool) (r : LeaveReq) : State × Nat × Bool :=
  match acc with
  | (s, blocked, true) => (s, blocked, true)
  | (s, blocked, false) =>
    match s.verdict blocked r.op with
    | .defer why =>
      (s.leaveReq r why, if why = 1 ∧ leaveKind r.op = 0 then max blocked (s.leaveClass r.op + 1) else blocked, false)
    | .grant => (s.grantReq r.op, blocked, true)
    | .cap => (s.capReq r.op, blocked, true)
    | .deny => (s.denyReq r.op, blocked, true)

/-- The decision of one RCLK cycle. -/
def State.decideOnce (s : State) : State × Bool :=
  let r := s.orderedReqs.foldl State.tryReq (s, 0, false)
  (r.1, r.2.2)

/-- Decisions of successive cycles, until nothing fits. -/
def State.decideUpTo : Nat → State → State
  | 0, s => s
  | n + 1, s => if s.decideOnce.2 then State.decideUpTo n s.decideOnce.1 else s.decideOnce.1

/-- The pending requests decided (R186). -/
def State.arbDecide (s : State) : State :=
  if s.coreUp && s.loaded then State.decideUpTo (s.arb.reqs.length + 1) s else s

/-! ### Growth (R188) -/

/-- The ports in the order of R186: class, then rotation index. -/
def State.serveOrder (s : State) : List Port :=
  [3, 2, 1, 0].flatMap (fun c => ((List.finRange 64).map (fun i => (⟨16 * (i.val % 4) + i.val / 4, by omega⟩ : Port))).filter
    (fun p => s.bgtClass p == c))

/-- A turn-on is deferred for port power, and has not been decided otherwise since (R186). -/
def State.portPowerWait (s : State) : Bool := s.arb.reqs.any (fun r => r.lacks)

/-- A port may take growth: its VBUS is on, or it holds a reservation (R254), and its grant lies below `TARGET`. -/
def State.growable (s : State) (p : Port) : Bool :=
  (s.vbusOn p || ((s.pd p).reserved && decide (0 < s.grant p))) && decide (s.grant p < s.bgtTarget p)

/-- Growth may run (R188, R193, R202, R447). -/
def State.mayGrow (s : State) : Bool :=
  s.coreUp && s.loaded && !s.bgtBad && !s.revoking && !s.portPowerWait && s.get .hlt F.HLT_STATUS_LEVEL != 2

/-- GROWTH (R188): one port takes the lesser of its shortfall and the free power. DEDUCED, log 48. -/
def execGrowth (s : State) : Host.Outcome State Fault Refusal :=
  .next (if !s.mayGrow || s.freePower = 0 then s else
    match s.serveOrder.find? s.growable with
    | none => s
    | some p => s.setGrant p (s.grant p + min (s.bgtTarget p - s.grant p) s.freePower))

/-! ### Revocation (R191–R193) -/

/-- The ports that hold a grant, in the order of R191: lowest class, then highest port number. -/
def State.revokeOrder (s : State) : List Port :=
  [0, 1, 2, 3].flatMap (fun c => allPorts.reverse.filter (fun p => s.bgtClass p == c && decide (0 < s.grant p)))

/-- The deficit. -/
def State.deficit (s : State) : Nat := s.committed - s.poolCur

/-- A REVOKE record (R201). DEDUCED, log 47. -/
def State.revokeEvent (s : State) (p : Port) (step : Nat) : State := s.raisePort .bgt p evRevoke (s.grant p + step * 0x1000)

/-- Headroom taken: the grant falls to the contract (R191 phase 1). -/
def State.cutHeadroom (s : State) (p : Port) (least : Nat) : State :=
  let dest := max (s.contractDw p) least
  if dest < s.grant p then s.setGrant p dest else s

/-- A port revoked: its grant falls to `to`, and it is judged under R192 (R191 phase 2). DEDUCED, log 48. -/
def State.revokeTo (s : State) (p : Port) (dest : Nat) : State :=
  if s.grant p ≤ dest then s else
  let s1 := if s.grantSt p = 3 then s else s.count .bgt F.BGT_CNT_REVOKES
  ((s1.put .bgt (F.BGT_GRANTn_STATE p.val) 3).setGrant p dest).revokeEvent p 1

/-- VBUS removed from a port with cause REVOKE, REVOKE step 3 (R192); a sink that is still attached asks again at once. -/
def State.revokeRemove (s : State) (p : Port) : State :=
  let s1 := ((s.vbsOpen p 2).endReserve p).returnGrant p
  (s1.revokeEvent p 3).askAtOnce p

/-- VBUS removed at once from a port that phase 2 may not have lowered. -/
def State.revokeForced (s : State) (p : Port) : State :=
  (if s.grantSt p = 3 then s else s.count .bgt F.BGT_CNT_REVOKES).revokeRemove p

/-- Grants lowered until the committed total lies within the pool in force (R191, R192). -/
def State.revokePool (s : State) : State :=
  if s.bgtBad then s else
  let order := s.revokeOrder
  let s1 := order.foldl (fun s p => if s.deficit = 0 then s else s.cutHeadroom p (defaultGrant p)) s
  let s2 := order.foldl (fun s p => if s.deficit = 0 then s else
    s.revokeTo p (max (defaultGrant p) (s.grant p - s.deficit))) s1
  order.foldl (fun s p => if s.deficit = 0 ∨ s.grant p = 0 then s else s.revokeForced p) s2

/-- Revocation of one port alone down to its `TARGET` (R200, R202). DEDUCED, log 47. -/
def State.revokePort (s : State) (p : Port) : State :=
  if s.bgtBad then s else (s.cutHeadroom p (s.bgtTarget p)).revokeTo p (s.bgtTarget p)

/-- The revocations of single ports that a mismatch has held up (R202). -/
def State.revokeHeld (s : State) : State :=
  allPorts.foldl (fun s p => if s.bgtTarget p < s.grant p then s.revokePort p else s) s

/-! ### The pool in force (R181, R182) -/

/-- A denied port asks again (R185). DEDUCED, log 47. -/
def State.askDenied (s : State) (p : Port) : State :=
  if s.grantSt p = 4 then (s.put .bgt (F.BGT_GRANTn_STATE p.val) 0).askAtOnce p else s

/-- The pool in force set anew: POOL_CHANGE where its size changes, or at its first setting; denied ports ask again. -/
def State.poolSet (s : State) (first : Bool) : State :=
  let new := s.poolSize
  if new = s.poolCur ∧ !first then s else
  let s1 := (s.put .bgt F.BGT_POOL_STATUS_CUR new).raise .bgt evPoolChange 0 (new + s.get .bgt F.BGT_POOL_STATUS_DUAL * 0x20000)
  s1.serveOrder.foldl (fun s p => s.askDenied p) s1

/-- The pool in force follows what it depends on; then revocation, then the pending requests (R187). -/
def State.poolFollow (s : State) : State :=
  if !(s.coreUp && s.loaded) then s else ((s.poolSet false).revokePool).arbDecide

/-- The first setting of the pool in force, as the load completes (R182): from the feeds good at that moment. DEDUCED, log 37. -/
def State.poolStart (s : State) : State :=
  let a := s.flag .pwe F.PWE_FEED_A_GOOD
  let b := s.flag .pwe F.PWE_FEED_B_GOOD
  ((s.arbWith (fun x => { x with goodA := a, goodB := b, growing := false })).setFlag .bgt F.BGT_POOL_STATUS_DUAL (a && b)).poolSet true

/-- FEED_GOODNESS_CHANGE (R182): a shrink at once, growth from zero at once, growth from one feed to two after `GROW_DELAY`. -/
def execFeedGoodnessChange (ga gb : Bool) (s : State) : Host.Outcome State Fault Refusal :=
  if !s.coreUp then .next s else
  let any := s.arb.goodA || s.arb.goodB
  let dual := s.flag .bgt F.BGT_POOL_STATUS_DUAL
  let s1 := s.arbWith (fun x => { x with goodA := ga, goodB := gb, growing := ga && gb && any && !dual })
  .next (s1.setFlag .bgt F.BGT_POOL_STATUS_DUAL (ga && gb && (dual || !any))).poolFollow

/-- GROW_DELAY_END (R182). -/
def execGrowDelayEnd (s : State) : Host.Outcome State Fault Refusal :=
  if !s.arb.growing then .next s
  else .next ((s.arbWith (fun x => { x with growing := false })).put .bgt F.BGT_POOL_STATUS_DUAL 1).poolFollow

/-! ### The arbiter's own commands -/

/-- Requests that reach the arbiter in one RCLK cycle (R184); the first turn-ons after the load settle `PACING_DONE` (R154). -/
def State.deliver (s : State) (ops : List LeaveOp) : State :=
  let come := s.arb.asks.filter (fun op => ops.contains op)
  let turn := come.filterMap (fun op => match op with
    | .turnOn p => some p
    | _ => none)
  s.arbWith (fun a =>
    { a with
      asks := a.asks.filter (fun op => !ops.contains op), arrivals := a.arrivals + 1,
      reqs := a.reqs ++ come.map (fun op => ⟨op, a.arrivals, none, false⟩),
      firstBatch := if a.firstBatch.isNone && !turn.isEmpty then some turn else a.firstBatch })

/-- LEAVE_REQUEST (R184–R187). -/
def execLeaveRequest (ops : List LeaveOp) (s : State) : Host.Outcome State Fault Refusal :=
  if !(s.coreUp && s.loaded) then .next s else .next (s.deliver ops).arbDecide

/-- LEAVE_DONE (R184). -/
def execLeaveDone (op : LeaveOp) (s : State) : Host.Outcome State Fault Refusal :=
  if !s.arb.dones.contains op then .next s
  else .next (s.arbWith (fun a => { a with dones := a.dones.filter (· != op) })).arbDecide

/-- LEAVE_WITHDRAW (R184). -/
def execLeaveWithdraw (op : LeaveOp) (s : State) : Host.Outcome State Fault Refusal :=
  let s1 := match op with
    | .turnOn p => s.put (.tcp p) F.TCP_CC_STATUS_LEAVE_WAIT 0
    | _ => s
  .next (if s.arb.reqs.any (fun r => r.op == op) then (s1.withdraw op).arbDecide else s)

/-- DIE_WINDOW (R181): a new window begins. -/
def execDieWindow (s : State) : Host.Outcome State Fault Refusal :=
  if !s.coreUp then .next s else .next (s.put .bgt F.BGT_DIE_STATUS_USED 0).arbDecide

/-- PACING_GAP_END (R184, R186). -/
def execPacingGapEnd (s : State) : Host.Outcome State Fault Refusal :=
  if !s.coreUp then .next s else .next (s.arbWith (fun a => { a with paceFree := true })).arbDecide

/-- PACING_DONE_TIMEOUT (R154). -/
def execPacingDoneTimeout (s : State) : Host.Outcome State Fault Refusal :=
  if !s.coreUp || !s.loaded || s.arb.firstBatch.isSome then .next s
  else .next ((s.arbWith (fun a => { a with firstBatch := some [] })).put .glb F.GLB_READY_PACING_DONE 1)

/-- REVOKE_TIME_END (R192). -/
def execRevokeTimeEnd (p : Port) (s : State) : Host.Outcome State Fault Refusal :=
  if !s.coreUp || s.grantSt p ≠ 3 || s.bgtBad then .next s else .next (s.revokeRemove p).arbDecide

/-- The limit of the new contract or Rp, and REVOKE step 2 (R192). -/
def State.revokeDone (s : State) (p : Port) : State :=
  ((s.put .bgt (F.BGT_GRANTn_STATE p.val) 2).setLimit p (s.basisMa p)).revokeEvent p 2

/-- REVOKE_SUCCESS (R192): the contract lies within the grant, and the measured current within 1.1 × the new current. -/
def execRevokeSuccess (p : Port) (s : State) : Host.Outcome State Fault Refusal :=
  if !s.coreUp || s.grantSt p ≠ 3 || s.grant p < s.contractDw p ||
      11 * s.basisMa p / 10 < s.get (.vbs p) F.VBS_IBUS_IBUS_MA then .next s
  else .next (s.revokeDone p).arbDecide

end Sys2Proof.Machine
end

