-- ==== Sys2Proof/Machine/Hlt.lean ====
section
/-! DEFINITION. The health controller (R445–R459): temperature, quarantine by software and its end, and plate isolation. -/

namespace Sys2Proof.Machine

/-! ### Temperature (R445–R447) -/

/-- A sensor reading in 0.25 °C units as an 11-bit field holds it. -/
def tempInt (w : Nat) : Int := if w % 2048 < 1024 then (w % 2048 : Nat) else (w % 2048 : Nat) - 2048

/-- `THROTTLE_C` in force, °C. -/
def State.throttleC (s : State) : Nat := clampTo 70 105 (s.cfg .hlt F.HLT_CFG_THROTTLE_C)

/-- `SHED_C` in force, °C. -/
def State.shedC (s : State) : Nat := max (clampTo 90 115 (s.cfg .hlt F.HLT_CFG_SHED_C)) (s.throttleC + 5)

/-- `HYST` in force, °C. -/
def State.hystC (s : State) : Nat := clampTo 2 15 (s.cfg .hlt F.HLT_CFG_HYST)

/-- `SHED_STEP` in force. -/
def State.shedStep (s : State) : Nat := clampTo 1 5 (s.cfg .hlt F.HLT_CFG_SHED_STEP)

/-- The sensor that reads highest, the lowest-numbered one of equals. -/
def hotSensor (ts : List (Nat × Int)) : Nat × Int :=
  ts.foldl (fun b t => if b.2 < t.2 then t else b) (ts.headD (0, 0))

/-- One sensor's registers after a sample. -/
def State.noteTemp (s : State) (i w : Nat) : State :=
  let s1 := s.put .hlt (F.HLT_TEMPs_TEMP i) (w % 2048)
  if tempInt (s.get .hlt (F.HLT_TEMPs_PEAK i)) < tempInt w then s1.put .hlt (F.HLT_TEMPs_PEAK i) (w % 2048) else s1

/-- The level that two consecutive readings of the hottest sensor give, in 0.25 °C (R446). -/
def nextLevel (level : Nat) (throttle shed hyst : Int) (a b : Int) : Nat :=
  let at_ (t : Int) : Bool := decide (t ≤ a) && decide (t ≤ b)
  let below (t : Int) : Bool := decide (a < t) && decide (b < t)
  if at_ shed then 2
  else if level = 2 ∧ !below (shed - hyst) then 2
  else if at_ throttle then 1
  else if level = 0 ∨ below (throttle - hyst) then 0
  else 1

/-- Detail of the thermal events on entry (R459). -/
def State.heatDetail (s : State) : Nat :=
  s.get .hlt F.HLT_STATUS_TEMP_MAX + s.get .hlt F.HLT_STATUS_HOT_SENSOR * 0x1000

/-- A running Gen 2 upstream link returns to Rx.Detect when `MAX_GEN` in force is 0 (R304). -/
def State.upGenDrop (s : State) (u : Up) : State :=
  if s.flag (.ups u) F.UPS_LINK_STATUS_GEN2 && s.upMaxGen u == 0 then
    let s1 := s.upGone u 2
    if s1.upMayRun u then s1.setUpState u lkRxDetect else s1
  else s

/-- `MAX_GEN` in force has fallen to 0 everywhere (R446). -/
def State.allGenDrop (s : State) : State :=
  if s.compat then s else
  ([0, 1] : List Up).foldl (fun s u => s.upGenDrop u) ((List.finRange 16).foldl (fun s f => s.ssGenDrop f) s)

/-- A cut of the pool in force (R447): THERMAL_SHED, and the pool follows. -/
def State.shedTo (s : State) (steps : Nat) : State :=
  let s1 := s.put .hlt F.HLT_STATUS_SHED_STEPS (min steps 10)
  (s1.raise .hlt evThermalShed 0 (s1.heatDetail + s1.get .hlt F.HLT_STATUS_SHED_STEPS * 0x10000)).poolFollow

/-- The thermal level changes (R446, R447). DEDUCED, log 49. -/
def State.toLevel (s : State) (old new : Nat) : State :=
  let s1 := (s.put .hlt F.HLT_STATUS_LEVEL new).holdGroups
  if old < new then
    if new = 2 then s1.allGenDrop.shedTo s1.shedStep else s1.raise .hlt evThermalThrottle 0 s1.heatDetail
  else
    let s2 := s1.raise .hlt evThermalClear 0 new
    let s3 := if old = 2 then (s2.put .hlt F.HLT_STATUS_SHED_STEPS 0).poolFollow else s2
    if new = 0 then s3.nextGroup else s3

/-- TEMP_SAMPLE (R446): the readings recorded, and the level judged with the sample before. DEDUCED, log 49. -/
def execTempSample (temps : Vector Nat 5) (s : State) : Host.Outcome State Fault Refusal :=
  if !s.coreUp then .next s else
  let ts := (List.range 5).zip temps.toList
  let hot := hotSensor (ts.map (fun t => (t.1, tempInt t.2)))
  let s1 := ts.foldl (fun s t => s.noteTemp t.1 t.2) s
  let s2 := (s1.put .hlt F.HLT_STATUS_HOT_SENSOR hot.1).put .hlt F.HLT_STATUS_TEMP_MAX (hot.2 % 2048).toNat
  let s3 := s2.healthWith (fun h => { h with lastMax := some hot.2 })
  let old := s.get .hlt F.HLT_STATUS_LEVEL
  match s.health.lastMax with
  | none => .next s3
  | some prev =>
    let new := nextLevel old (4 * s.throttleC) (4 * s.shedC) (4 * s.hystC) prev hot.2
    .next (if new = old then s3 else s3.toLevel old new)

/-- SHED_STEP_TIMER (R447). DEDUCED, log 49. -/
def execShedStepTimer (s : State) : Host.Outcome State Fault Refusal :=
  let steps := s.get .hlt F.HLT_STATUS_SHED_STEPS
  .next (if !s.coreUp || s.get .hlt F.HLT_STATUS_LEVEL ≠ 2 || 10 ≤ steps then s else s.shedTo (steps + s.shedStep))

/-- Every `PEAK` set to its `TEMP` (R458). -/
def State.peakClear (s : State) : State :=
  (List.range 5).foldl (fun s i => s.put .hlt (F.HLT_TEMPs_PEAK i) (s.get .hlt (F.HLT_TEMPs_TEMP i))) s

/-! ### Quarantine (R450, R451) -/

/-- The ports that a word of a pair of port registers names. -/
def wordPorts (hi : Bool) (v : Word) : List Port :=
  allPorts.filter (fun p => (p.val / 32 == bit hi) && v.getLsbD (p.val % 32))

/-- Ports put in quarantine by software (R450). -/
def State.quarByWrite (s : State) (hi : Bool) (v : Word) : State :=
  (wordPorts hi v).foldl (fun s p => if s.flag .hlt (portBit F.HLT_QUAR_QUAR p) then s else s.quarEnter p 2) s

/-- A port leaves quarantine and restarts under R19 (R451); another source may hold it in reset still (R18). -/
def State.quarLeave (s : State) (p : Port) (auto : Bool) : State :=
  if !s.flag .hlt (portBit F.HLT_QUAR_QUAR p) then s else
  let s1 := s.put .hlt (portBit F.HLT_QUAR_QUAR p) 0
  let s2 := s1.healthWith (fun h => { h with quarDsch := h.quarDsch &&& ~~~(1#64 <<< p.val) })
  ((s2.portReset p).portFollow p).raisePort .hlt p evQuarantineRelease (bit auto)

/-- Ports released by software (R451). DEDUCED, log 50. -/
def State.quarByRelease (s : State) (hi : Bool) (v : Word) : State := (wordPorts hi v).foldl (fun s p => s.quarLeave p false) s

/-- QUAR_AUTO_END (R451). -/
def execQuarAutoEnd (p : Port) (s : State) : Host.Outcome State Fault Refusal :=
  .next (if s.coreUp && s.cfg .hlt F.HLT_CFG_QUAR_AUTO != 0 then s.quarLeave p true else s)

/-! ### Plate isolation (R452, R453) -/

/-- The record of a plate's ports whose VBUS is on. -/
def State.plateOnPorts (s : State) (k : Plate) : BitVec 16 :=
  (platePorts k).foldl (fun v p => if s.vbusOn p then v ||| (1#16 <<< (p.val % 16)) else v) 0

/-- The USB 2.0 root ports that lead to plate k report a change, in the presentations where the plate's context is one (R452, R453). -/
def State.u2RootChange (s : State) (k : Plate) : State :=
  if s.compat then s else
  ([0, 1] : List Up).foldl (fun s u => if s.isFlat u then s else s.rootChgWith (.pres u) (k.val + 1) (· ||| cConnection)) s

/-- `HLT_PLATE_ISO` has set a plate's bit (R452): what was on is recorded, and the plate enters reset. -/
def State.isoBegin (s : State) (k : Plate) : State :=
  let s1 := (s.u2RootChange k).healthWith (fun h => { h with isoOn := h.isoOn.set k (s.plateOnPorts k), isoLate := h.isoLate &&& ~~~(1#4 <<< k.val) })
  ((s1.put .hlt (fldBit F.HLT_PLATE_STATUS_ISOLATED k.val) 0).put .hlt (fldBit F.HLT_PLATE_STATUS_RESTORING k.val) 0).plateFollow k

/-- It has cleared the bit (R453): the plate is restored. -/
def State.isoOver (s : State) (k : Plate) : State :=
  (((s.u2RootChange k).put .hlt (fldBit F.HLT_PLATE_STATUS_ISOLATED k.val) 0).put .hlt (fldBit F.HLT_PLATE_STATUS_RESTORING k.val) 1).plateFollow k

/-- `HLT_PLATE_ISO` has changed from an earlier value. -/
def State.isoChanged (s : State) (old : Nat) : State :=
  let new := s.cfg .hlt F.HLT_PLATE_ISO_ISO
  allPlates.foldl (fun s k =>
    if old.testBit k.val == new.testBit k.val then s
    else if new.testBit k.val then s.isoBegin k else s.isoOver k) s

/-- No port of a plate discharges any more. DEDUCED, log 50. -/
def State.plateDischarged (s : State) (k : Plate) : Bool := (platePorts k).all (fun p => !s.discharging p)

/-- PLATE_ISOLATED (R452 step 3). DEDUCED, log 50. -/
def execPlateIsolated (k : Plate) (s : State) : Host.Outcome State Fault Refusal :=
  .next (if s.coreUp && (s.cfg .hlt F.HLT_PLATE_ISO_ISO).testBit k.val && s.plateInRst k && s.plateDischarged k &&
      !s.flag .hlt (fldBit F.HLT_PLATE_STATUS_ISOLATED k.val) then
    (s.put .hlt (fldBit F.HLT_PLATE_STATUS_ISOLATED k.val) 1).raise .hlt evPlateIsolated k.val
      ((s.health.isoOn[k]).toNat + bit (s.health.isoLate.getLsbD k.val) * 0x10000)
  else s)

end Sys2Proof.Machine
end

