-- ==== Sys2Proof/Machine/Frame.lean ====
section
/-! DEFINITION. Management frames as the ports carry them (R80–R82): nibbles, high nibble and most significant byte first, the fields of
the header, the entries of a write, and CRC-16. -/

namespace Sys2Proof.Machine

/-- The number that nibbles spell, the first one most significant (R80). -/
def nibVal (ns : List Nibble) : Nat := ns.foldl (fun a n => 16 * a + n.toNat) 0

/-- `n` nibbles of a number, the most significant first (R80). -/
def toNibs (n v : Nat) : List Nibble := ((List.range n).map (fun i => BitVec.ofNat 4 (v >>> (4 * i)))).reverse

/-- A field of a frame: nibbles from a place on. -/
def nibField (ns : List Nibble) (o n : Nat) : Nat := nibVal ((ns.drop o).take n)

/-- `OPCODE` of a frame (R81). -/
def opcodeOf (ns : List Nibble) : Nibble := ns.getD 0 0

/-- The header of a frame: bits that must be 0 are ignored (R81). -/
def hdrOf (ns : List Nibble) : FrameHdr :=
  { waddr := BitVec.ofNat 24 (nibField ns 2 6), isLocal := (ns.getD 8 0).getLsbD 3, chip := (ns.getD 9 0).toFin,
    count := BitVec.ofNat 8 (nibField ns 10 2) }

/-- The words that a frame asks for (R81). -/
def hdrWords (h : FrameHdr) : Nat := h.count.toNat + 1

/-- The entries of a write frame: a nibble of byte enables and a word each (R81). -/
def entriesOf (ns : List Nibble) : List FrameWord :=
  (List.range (hdrWords (hdrOf ns))).map (fun i => ⟨ns.getD (12 + 9 * i) 0, BitVec.ofNat 32 (nibField ns (13 + 9 * i) 8)⟩)

/-- The nibbles of a frame before its CRC; `write` for the opcodes that carry entries (R81). -/
def bodyLen (write : Bool) (ns : List Nibble) : Nat := 12 + (if write then 9 * (hdrWords (hdrOf ns)) else 0)

/-- A frame of an opcode that has its whole length (R81, R83). DESIGN CHOICE, log 7. -/
def wholeFrame (op : Nibble) (write : Bool) (ns : List Nibble) : Bool := opcodeOf ns == op && ns.length == bodyLen write ns + 4

/-- A write frame in two parts, its header and what follows it. DESIGN CHOICE, log 7. -/
def wholeWrite (op : Nibble) (hdr rest : List Nibble) : Bool := hdr.length == 12 && wholeFrame op true (hdr ++ rest)

/-- An opcode that R81 does not give a meaning. -/
def unknownOpcode (op : Nibble) : Bool := !(op == 1 || op == 2 || op == 3 || op == 4 || op == 6)

/-- A frame of an unknown opcode: a header and a CRC. DESIGN CHOICE, log 7. DEDUCED, log 18. -/
def badFrame (ns : List Nibble) : Bool := unknownOpcode (opcodeOf ns) && ns.length == 16

/-! ### CRC-16 (R82) -/

/-- One bit, most significant first: polynomial 0x1021. -/
def crc16Bit (c : BitVec 16) (b : Bool) : BitVec 16 := if (c.getLsbD 15).xor b then (c <<< 1) ^^^ 0x1021#16 else c <<< 1

/-- One nibble taken into the register. -/
def crc16Nib (c : BitVec 16) (n : Nibble) : BitVec 16 :=
  crc16Bit (crc16Bit (crc16Bit (crc16Bit c (n.getLsbD 3)) (n.getLsbD 2)) (n.getLsbD 1)) (n.getLsbD 0)

/-- The CRC of nibbles in transmission order: initial value 0xFFFF, no final inversion. -/
def crc16 (ns : List Nibble) : BitVec 16 := ns.foldl crc16Nib 0xFFFF#16

/-- Nibbles with their CRC after them. -/
def withCrc (ns : List Nibble) : List Nibble := ns ++ toNibs 4 (crc16 ns).toNat

/-- The CRC of a received frame is right. -/
def crcGood (ns : List Nibble) : Bool := ns == withCrc (ns.take (ns.length - 4))

end Sys2Proof.Machine
end

