-- ==== Sys2Proof/Machine/Load.lean ====
section
/-! DEFINITION. The configuration load (R131–R137, R144–R146) and what the part does as it completes. -/

namespace Sys2Proof.Machine

/-- The order in which sections are applied (R146): tag and instance. -/
def loadOrder : List (Nat × Nat) :=
  [(0x01, 0), (0x50, 0), (0x04, 0), (0x20, 0), (0x20, 1)] ++ (List.range 8).map (fun i => (0x30, i)) ++ [(0x40, 0)] ++
    (List.range 4).flatMap (fun k => (0x02, k) :: (List.range 16).flatMap (fun n => [(0x10, 16 * k + n), (0x03, 16 * k + n)]))

/-- A bank loaded: it becomes the active image and its sections are applied, with the counts of what is skipped. -/
def State.loadBank (s : State) (b : Fin 2) : State :=
  let g := s.bankByte b
  match imgParse g with
  | none => s
  | some secs =>
    let kept := keptSections secs
    let s1 := (s.setActive b).countBy .cfg F.CFG_LOAD_STATUS_SKIPPED_SECTIONS (secs.length - kept.length)
    loadOrder.foldl (fun s t => s.applyTag anyPage g kept t.1 t.2) s1

/-- The banks are read and ranked, and the first valid one is loaded; the outcome of R145. -/
def State.loadStore (s : State) : Nat × State :=
  if s.flag .glb F.GLB_STRAPS_CFG_BYPASS then (4, s) else
  let s1 := s.noteBanks
  match s1.newestValid with
  | some b => (bit (b != s1.newerBank), s1.loadBank b)
  | none => (if s1.bankBlank 0 && s1.bankBlank 1 then 2 else 3, s1)

/-- The event of a load outcome (R145, R156). -/
def State.loadEvent (s : State) (newer : Fin 2) (code res : Nat) : State :=
  match res with
  | 0 => s.raise .cfg evLoadOk 0 (newer.val + 2 * bit (s.bankOk (otherBank newer)) + s.get .cfg F.CFG_LOAD_STATUS_SKIPPED_ENTRIES * 0x10000)
  | 1 => s.raise .cfg evLoadFallback 0 ((otherBank newer).val + code * 0x100)
  | n => s.raise .cfg evStoreEmpty 0 n

/-- `FAULT.WEAR` at a load that finds a worn bank (R153). -/
def State.wearCheck (s : State) : State :=
  if 100000000 ≤ s.wear[0] ∨ 100000000 ≤ s.wear[1] then s.setFault .cfg 10 else s

/-- The power bits of every context as they leave core reset (R277); 0 in compatibility mode, where the instances are in hold.
DEDUCED, log 37. -/
def State.powerBits (s : State) : State :=
  let s1 := allPorts.foldl (fun s p => (s.setPowerBit p 0 (!s.compat)).setPowerBit p 1 (!s.compat)) s
  allPlates.foldl (fun s k => ([0, 1] : List (Fin 2)).foldl (fun s c =>
    s.ssHubWith (.plate k c) (fun x => { x with power := 0xF })) s) s1

/-- The owners in force as the load leaves them (R332, R428), and the topologies (R325). DEDUCED, log 37. -/
def State.loadOwners (s : State) : State :=
  ((allPorts.foldl (fun s p => s.put .prs (F.PRS_OWNERn_CUR p.val) (s.ownerDest p)) s).takeTopo 0).takeTopo 1

/-- In compatibility mode every instance that exists enters hold (R432), and the direct presentations are found (R426). -/
def State.loadHold (s : State) : State :=
  if !s.compat then s else
  let s1 := (s.setDirect 0 (s.directDue 0)).setDirect 1 (s.directDue 1)
  (allInsts.filter s1.instExists).foldl (fun s i =>
    (s.put .cpt (fldBit F.CPT_STATUS_HOLDING i.val) 1).cptWith i (fun c => { c with timer := true })) s1

/-- Every fitted port that nothing holds leaves reset (R136). -/
def State.loadPorts (s : State) : State :=
  allPorts.foldl (fun s p => if s.fitted p && !s.portHeld p then s.put .clk (portBit F.CLK_PORT_IN_RST_PORT_IN_RST p) 0 else s) s

/-- All of them present their CC roles (R136). -/
def State.presentRoles (s : State) : State := allPorts.foldl (fun s p => (s.ccStart p).usbEval p) s

/-- The DRAM controller as the load leaves it: training is asked for where DRAM is fitted and its domain is out of reset (R134, R414). -/
def State.loadDram (s : State) : State :=
  let s1 := (s.setDrcSt (bit !s.noDram)).drcFollow
  if s1.noDram || s1.flag .clk F.CLK_RESET_STATUS_DRC_IN_RST then s1 else s1.drcAsk

/-- What follows the sections (steps 8 of R131, R134): the domains that the image holds in reset, the pool, owners, modes and roles,
the leaves asked, and the records that waited judged by the enables of the image (R137). DEDUCED, log 37. -/
def State.loadFinish (s : State) : State :=
  let s1 := ((s.put .glb F.GLB_READY_CFG_LOADED 1).loadFilter.powerBits).loadOwners.loadHold
  let s2 := (allPlates.foldl (fun s k => if s.plateHeld k then s.plateFollow k else s) s1).loadPorts
  let s3 := (s2.graverFollow.loadDram).poolStart
  let s4 := (if s3.compat then s3 else s3.askLeave .upCal).presentRoles
  s4.mgtFollow.legCheck

/-- LOAD_COMPLETE (R145). DESIGN CHOICE, log 2. -/
def execLoadComplete (s : State) : Host.Outcome State Fault Refusal :=
  if !s.coreUp || s.loaded then .next s else
  let (res, s1) := s.loadStore
  let newer := s.newerBank
  let s2 := (s1.put .cfg F.CFG_STATUS_LOAD_RESULT res).wearCheck
  let s3 := s2.loadEvent newer (imgCheck (s.bankByte newer)) res
  let s4 := if s3.get .glb F.GLB_STRAPS_DRAM = 3 then s3.raise .cfg evStrapInvalid 0 (s3.rd (PageId.base .glb + 0x60)).toNat else s3
  .next s4.loadFinish

end Sys2Proof.Machine
end

