-- ==== Sys2Proof/Machine/PdVdm.lean ====
section
/-! DEFINITION. Structured VDMs (R248, R259): cable discovery on SOP′, the console-mode sequence, answers to a partner's own
requests, and EPR mode entry (R247). -/

namespace Sys2Proof.Machine

/-! ### VDM headers -/

/-- The SVID a VDM header names. -/
def vdmSvid (h : Word) : Nat := h.toNat / 2 ^ 16
/-- The header is that of a structured VDM. -/
def vdmStructured (h : Word) : Bool := h.getLsbD 15
/-- The object position. -/
def vdmPos (h : Word) : Nat := h.toNat / 2 ^ 8 % 8
/-- Command type: 0 REQ, 1 ACK, 2 NAK, 3 BUSY. -/
def vdmType (h : Word) : Nat := h.toNat / 2 ^ 6 % 4
/-- Command: 1 Discover Identity, 2 Discover SVIDs, 3 Discover Modes, 4 Enter Mode, 5 Exit Mode, 6 Attention. -/
def vdmCmd (h : Word) : Nat := h.toNat % 2 ^ 5
/-- A request header for a command on an SVID: structured VDM version 2.1 under Revision 3.x, 1.0 under Revision 2.0 (R6).
PRESUMED, log 55. -/
def vdmReq (rev2 : Bool) (svid cmd pos : Nat) : Word :=
  BitVec.ofNat 32 (svid * 2 ^ 16 + 2 ^ 15 + (if rev2 then 0 else 5 * 2 ^ 11) + pos * 2 ^ 8 + cmd)
/-- The header of an answer to a request. -/
def vdmAns (h : Word) (ty : Nat) : Word := BitVec.ofNat 32 (h.toNat / 2 ^ 8 * 2 ^ 8 + ty * 2 ^ 6 + vdmCmd h)

/-! ### Cable discovery (R248) -/

/-- The cable's identity answer recorded: CABLE, the offer derived again. -/
def State.cableFound (s : State) (p : Port) (objs : List Word) : State :=
  let pg := PageId.tcp p
  let id := (objs.getD 1 0).toNat
  let v := (objs.getD 4 0).toNat
  let s1 := ((s.put pg F.TCP_CABLE_DISCOVERED 1).put pg F.TCP_CABLE_FAILED 0).put pg F.TCP_CABLE_CURRENT (v / 2 ^ 5 % 4)
  let s2 := ((s1.put pg F.TCP_CABLE_VMAX (v / 2 ^ 9 % 4)).put pg F.TCP_CABLE_EPR_CAPABLE (v / 2 ^ 17 % 2)).setFlag
    pg F.TCP_CABLE_ACTIVE (id / 2 ^ 27 % 8 == 4)
  let s3 := s2.pdWith p (fun d => { d with cableRun := false, cableGood := true })
  ((s3.raisePort pg p evCable ((s3.rd (pg.base + 0x8C)).toNat % 256)).offerCheck p).pdKick p

/-! ### EPR mode entry (R247) -/

/-- Enter Failed with its reason: the first condition that is not met. PRESUMED, log 55. -/
def State.eprFail (s : State) (p : Port) (reason : Nat) : State :=
  (s.pdSay p .eprMode [BitVec.ofNat 32 (4 * 2 ^ 24 + reason * 2 ^ 16)]).toReady p

/-- The cable meets R238. -/
def State.eprCable (s : State) (p : Port) : Bool :=
  (s.pd p).cableGood && s.get (.tcp p) F.TCP_CABLE_CURRENT == 2 && s.get (.tcp p) F.TCP_CABLE_VMAX == 3 && s.flag (.tcp p) F.TCP_CABLE_EPR_CAPABLE

/-- At least one EPR PDO would be offered. -/
def State.eprOffered (s : State) (p : Port) : Bool := decide (0 < (s.deriveOffer p true).epr)

/-- EPR_Mode (Enter) in `SRC_READY` under an SPR contract. -/
def State.eprEnter (s : State) (p : Port) : State :=
  if s.eprUsable p && s.eprOffered p && (s.rd ((PageId.tcp p).base + 0x88)).getLsbD 22 then
    let s1 := (s.pdSay p .eprMode [BitVec.ofNat 32 (2 * 2 ^ 24)]).pdSay p .vdm [vdmReq false 0xFF00 1 0] [] true
    (s1.setPe p 15).pdWith p (fun d => { d with want := .cable })
  else s.eprFail p (if !s.eprCable p then 1 else if !s.flag (.tcp p) F.TCP_PD_STATUS_VCONN_SRC then 2
    else if !(s.rd ((PageId.tcp p).base + 0x88)).getLsbD 22 then 3 else 4)

/-- The SOP′ answer of EPR mode entry has come. -/
def State.eprCableAnswer (s : State) (p : Port) (objs : List Word) : State :=
  let s1 := s.cableFound p objs
  if s1.eprUsable p then
    let s2 := (s1.pdSay p .eprMode [BitVec.ofNat 32 (3 * 2 ^ 24)]).put (.tcp p) F.TCP_PD_STATUS_EPR_MODE 1
    ((s2.setPe p 5).pdWith p (fun d => { d with want := .none })).sendCaps p
  else s1.eprFail p 1

/-! ### The console mode (R259) -/

/-- A step of the sequence sent: Discover Identity, Discover SVIDs, Discover Modes or Enter Mode. -/
def State.modeSend (s : State) (p : Port) (step : Fin 5) : State :=
  let svid := s.get (.tcp p) F.TCP_CON_SVID_SVID
  let v := s.pdRev2 p
  let h := match step with
    | 1 => vdmReq v 0xFF00 1 0
    | 2 => vdmReq v 0xFF00 2 0
    | 3 => vdmReq v svid 3 0
    | _ => vdmReq v svid 4 (s.pd p).modePos.val
  (s.pdSay p .vdm [h]).pdWith p (fun d => { d with modeStep := step, want := .vdm })

/-- The sequence is over. -/
def State.modeOver (s : State) (p : Port) : State :=
  (s.pdWith p (fun d => { d with modeStep := 0, want := .none })).toReady p

/-- An attempt has failed. -/
def State.modeFail (s : State) (p : Port) : State :=
  (s.pdWith p (fun d => { d with modeTries := d.modeTries + 1 })).modeOver p

/-- The SVIDs that Discover SVIDs data objects list. -/
def listedSvids (objs : List Word) : List Nat := objs.flatMap (fun w => [w.toNat / 2 ^ 16, w.toNat % 2 ^ 16])

/-- The position of the first mode that satisfies the mask and match, 0 for none. -/
def findMode (mask mtch : Word) (objs : List Word) : Nat :=
  match objs.findIdx? (fun w => w &&& mask == mtch &&& mask) with
  | none => 0
  | some i => i + 1

/-- An answer to the engine's own VDM. DEDUCED, log 53. PRESUMED, log 55. -/
def State.modeAnswer (s : State) (p : Port) (h : Word) (objs : List Word) : State :=
  let svid := s.get (.tcp p) F.TCP_CON_SVID_SVID
  if (s.pd p).modeStep = 0 then s.modeOver p
  else if vdmType h ≠ 1 then s.modeFail p
  else match (s.pd p).modeStep with
    | 1 => s.modeSend p 2
    | 2 => if (listedSvids objs).contains svid then s.modeSend p 3 else s.modeFail p
    | 3 =>
      let n := findMode (s.rd ((PageId.tcp p).base + 0x138)) (s.rd ((PageId.tcp p).base + 0x134)) objs
      if n = 0 ∨ 6 < n then s.modeFail p
      else (s.pdWith p (fun d => { d with modePos := ⟨n % 8, Nat.mod_lt _ (by decide)⟩ })).modeSend p 4
    | _ =>
      let s1 := ((s.put (.tcp p) F.TCP_PD_STATUS_MODE_ENTERED 1).pdWith p (fun d => { d with modeSvid := BitVec.ofNat 16 svid })).routeBy p true
      (s1.raisePort (.tcp p) p evModeEnter (svid + (s.pd p).modePos.val * 2 ^ 16)).modeOver p

/-- The Discover Identity ACK as DFP (R259): product type PDUSB Hub, `TCP_PD_ID`, a zero certification VDO. Under Revision 3.x the ID
header names a receptacle and a USB host, and a DFP VDO with the port's USB 2.0 and USB 3.2 capability follows (R6). PRESUMED, log 55. -/
def State.identityAck (s : State) (p : Port) (h : Word) : List Word :=
  let ids := fun x => [vdmAns h 1, BitVec.ofNat 32 (x + 2 ^ 23 + s.get (.tcp p) F.TCP_PD_ID_VID), 0,
    BitVec.ofNat 32 (s.get (.tcp p) F.TCP_PD_ID_PID * 2 ^ 16)]
  if s.pdRev2 p then ids 0
  else ids (2 ^ 31 + 2 ^ 22) ++ [BitVec.ofNat 32 (2 * 2 ^ 29 + (1 + 2 * bit (isFullPort p)) * 2 ^ 24 + p.val % 32)]

/-- A structured request of the partner (R259). -/
def State.vdmRequest (s : State) (p : Port) (h : Word) : State :=
  match vdmCmd h with
  | 1 => s.pdSay p .vdm (s.identityAck p h)
  | 5 => if s.flag (.tcp p) F.TCP_PD_STATUS_MODE_ENTERED && vdmSvid h == (s.pd p).modeSvid.toNat
      then (s.pdSay p .vdm [vdmAns h 1]).modeExit p 1 1 else s.pdSay p .vdm [vdmAns h 2]
  | 6 => s
  | _ => s.pdSay p .vdm [vdmAns h 2]

/-- Exit Mode sent for the entered console mode (R259). PRESUMED, log 55. -/
def State.sendExit (s : State) (p : Port) : State :=
  let h := vdmReq (s.pdRev2 p) (s.pd p).modeSvid.toNat 5 (s.pd p).modePos.val
  ((s.pdSay p .vdm [h]).modeExit p 0 1).pdWith p (fun d => { d with modeStep := 0, want := .vdm })

end Sys2Proof.Machine
end

