-- ==== Sys2Proof/Machine/Pd.lean ====
section
/-! DEFINITION. Messages received by the PD engines (R232, R240–R260): each command is one message on a downstream port's CC
line or an upstream one's. -/

namespace Sys2Proof.Machine

/-! ### Receiving -/

/-- The engine of a port takes messages: attached, PD running, no hard reset under way (R234, R257). DEDUCED, log 54. -/
def State.pdHears (s : State) (p : Port) : Bool :=
  s.portUp p && (s.ccSt p == 4 || s.ccSt p == 7 || s.ccSt p == 10) && !([0, 13, 14] : List Nat).contains (s.pe p)

/-- A message other than GoodCRC noted: GoodCRC goes out, the partner speaks PD, and the first one tells the revision (R232). -/
def State.pdNote (s : State) (p : Port) (m : PdMsg) : State :=
  let s1 := (s.pdAck p false).pdWith p (fun d => { d with partnerPd := true, revKnown := true })
  if (s.pd p).revKnown then s1 else s1.put (.tcp p) F.TCP_PD_STATUS_SPEC_REV (if m.rev2 then 1 else 2)

/-- A message on SOP handled by the engine of a port; one on SOP′ is only acknowledged, by the VCONN source, one on SOP″ not even that, and
an unchunked extended message is answered with Not_Supported (R232). -/
def State.pdTake (s : State) (p : Port) (m : PdMsg) (f : State → State) : State :=
  if !s.pdHears p || m.sopDouble then s
  else if m.sopPrime then (if s.flag (.tcp p) F.TCP_PD_STATUS_VCONN_SRC then s.pdAck p true else s)
  else if m.unchunked then (s.pdNote p m).sayNotSupported p
  else f (s.pdNote p m)

/-- A message answered in a ready state, unexpected elsewhere (R250, R251). -/
def State.pdAnswer (s : State) (p : Port) (num cls : Nat) (f : State → State) : State :=
  if s.pdReady p then f s else s.unexpected p num cls

/-- A message that a Revision 2.0 engine does not support (R232). -/
def State.rev3Only (s : State) (p : Port) (f : State → State) : State := if s.pdRev2 p then s.sayNotSupported p else f s

/-! ### The upstream engine (R260) -/

/-- The upstream engine runs. DEDUCED, log 56. -/
def State.upRuns (s : State) (u : Up) : Bool := s.coreUp && s.loaded && s.flag (.ups u) F.UPS_CC_STATUS_ATTACHED

/-- The upstream engine hears a message. DEDUCED, log 56. -/
def State.upHears (s : State) (u : Up) (m : PdMsg) : Bool := s.upRuns u && !m.sopPrime && !m.sopDouble

/-- What an upstream engine sends, and the answer it waits for then. DEDUCED, log 56. -/
def State.upSend (s : State) (u : Up) (out : List PdOut) (want : PdWant) : State :=
  { s with upPdOut := s.upPdOut.set u out, upWant := s.upWant.set u want }

/-- What an upstream engine answers to a message, GoodCRC first (R232). DEDUCED, log 56. -/
def State.upReply (s : State) (u : Up) (out : List PdOut) (want : PdWant) : State := s.upSend u (goodCrc false :: out) want

/-- An unexpected message, or a missing answer, inside a sequence of an upstream engine: Soft_Reset (R251, R260). DEDUCED, log 56. -/
def softResetOut : List PdOut := [⟨false, .softReset, [], []⟩]

/-- A control message as the answer of an upstream engine: Reject in place of Not_Supported under Revision 2.0. DEDUCED, log 56. -/
def upNot (m : PdMsg) : List PdOut := [⟨false, if m.rev2 then .reject else .notSupported, [], []⟩]

/-- `idVendor` and root `idProduct` of a presentation (R331): zero where no IDENT record is loaded. -/
def State.presIds (s : State) (u : Up) : Nat × Nat :=
  match (s.pres u).desc.find? (fun r => r.kind == 1) with
  | none => (0, 0)
  | some r => ((r.body.getD 0 0).toNat + 256 * (r.body.getD 1 0).toNat, (r.body.getD 2 0).toNat + 256 * (r.body.getD 3 0).toNat)

/-- A Vendor_Defined message at an upstream engine: a structured Discover Identity is answered with UFP product type PDUSB Hub, every
other structured VDM is NAKed, and an unstructured one gets Not_Supported (R260). Under Revision 3.x the ID header names a receptacle
and a USB device, and a UFP VDO with the presentation's USB capability follows (R6). DEDUCED, log 56. PRESUMED, log 55. -/
def State.upVdm (s : State) (u : Up) (m : PdMsg) : List PdOut :=
  let h := m.objs.getD 0 0
  let ids := s.presIds u
  let ack := fun x => [vdmAns h 1, BitVec.ofNat 32 (x + 2 ^ 27 + ids.1), 0, BitVec.ofNat 32 (ids.2 * 2 ^ 16)]
  if !vdmStructured h then upNot m
  else if vdmCmd h = 1 ∧ vdmType h = 0 then
    [⟨false, .vdm, if m.rev2 then ack 0 else ack (2 ^ 30 + 2 ^ 22) ++ [BitVec.ofNat 32
      (3 * 2 ^ 29 + (1 + 4 * bit (!s.compat)) * 2 ^ 24 + 2 ^ 6 + 2 * bit (!s.compat))], []⟩]
  else [⟨false, .vdm, [vdmAns h 2], []⟩]

/-- A message that an upstream engine answers while no sequence of its own runs, and that is unexpected inside one; an unchunked extended
message is answered with Not_Supported (R232, R251, R260). DEDUCED, log 56. -/
def State.upSay (s : State) (u : Up) (m : PdMsg) (out : List PdOut) : State :=
  if !s.upHears u m then s
  else if m.unchunked then s.upReply u (upNot m) s.upWant[u]
  else if s.upWant[u] = .none then s.upReply u out .none else s.upReply u softResetOut .softAccept

/-- A message of a sequence at an upstream engine: the answer it waits for ends the step that waits, any other is unexpected: Soft_Reset
inside a sequence, Not_Supported outside one (R251, R256, R260). DEDUCED, log 56. -/
def State.upStep (s : State) (u : Up) (m : PdMsg) (next : PdWant → Option PdWant) : State :=
  if !s.upHears u m then s else
  match next s.upWant[u] with
  | some w => s.upReply u [] w
  | none => if s.upWant[u] = .none then s.upReply u (upNot m) .none else s.upReply u softResetOut .softAccept

/-- Source_Capabilities at an upstream engine, outside a sequence or after a soft reset: a Request at zero draw, whose Accept is awaited
(R260). -/
def State.upCaps (s : State) (u : Up) (m : PdMsg) (rdo : Word) : State :=
  if !s.upHears u m then s
  else if s.upWant[u] = .none then s.upReply u [⟨false, .request, [rdo], []⟩] .acceptAsSink
  else s.upReply u softResetOut .softAccept

/-- A command that both kinds of engine may receive. DEDUCED, log 34. -/
def pdCommand (pp : PdPort) (m : PdMsg) (s : State) (down : Port → State → State) (up : Up → List PdOut) : State :=
  match pp with
  | .down p => s.pdTake p m (down p)
  | .up u => s.upSay u m (up u)

/-! ### Capabilities and contracts -/

/-- The Sink PDO of Get_Sink_Cap (R250): Fixed 5 V, 0 mA, Dual-Role Power per `DRP`. -/
def sinkPdo (drp : Bool) : Word := BitVec.ofNat 32 (bit drp * 2 ^ 29 + 100 * 2 ^ 10)

/-- The RDO at zero draw (R252): PDO1, 0 mA, USB Communications Capable. -/
def zeroRdo : Word := BitVec.ofNat 32 (2 ^ 28 + 2 ^ 26)

/-- Source_Capabilities as sink (R252). DEDUCED, log 53. -/
def State.onSourceCaps (s : State) (p : Port) : State :=
  if !s.isSource p && (s.pe p == 6 || (s.pe p == 7 && s.pdReady p)) then
    (s.pdSay p .request [zeroRdo]).pdWith p (fun d => { d with want := .acceptAsSink, snkWaitVbus := false, snkFell := false })
  else s.unexpected p 1 1

/-- SOURCE_CAPABILITIES (R252, R260). -/
def execSourceCapabilities (pp : PdPort) (msg : PdMsg) (s : State) : Host.Outcome State Fault Refusal :=
  .next (match pp with
    | .down p => s.pdTake p msg (fun s => s.onSourceCaps p)
    | .up u => s.upCaps u msg zeroRdo)

/-- A Request or EPR_Request (R241, R247, R250). -/
def State.onRequest (s : State) (p : Port) (m : PdMsg) : State :=
  let num := if m.epr then 9 else 2
  if s.isSource p && (s.pe p == 3 || (s.pe p == 5 && (s.pd p).want == .none)) && m.epr == s.flag (.tcp p) F.TCP_PD_STATUS_EPR_MODE then
    s.decideRequest p (m.objs.getD 0 0)
  else if !s.isSource p && s.pdReady p then s.sayNotSupported p
  else s.unexpected p num 1

/-- REQUEST (R241). -/
def execRequest (pp : PdPort) (msg : PdMsg) (s : State) : Host.Outcome State Fault Refusal :=
  .next (pdCommand pp msg s (fun p s => s.onRequest p msg) (fun _ => upNot msg))

/-- Get_Source_Cap (R250): as source the present offer, which opens a negotiation; as sink the offer it would make. -/
def State.onGetSourceCap (s : State) (p : Port) : State :=
  if s.isSource p then s.sendCaps p else s.sayCaps p false (s.deriveOffer p false).words

/-- GET_SOURCE_CAP (R250). -/
def execGetSourceCap (pp : PdPort) (msg : PdMsg) (s : State) : Host.Outcome State Fault Refusal :=
  .next (pdCommand pp msg s (fun p s => s.pdAnswer p 7 0 (fun s => s.onGetSourceCap p)) (fun _ => upNot msg))

/-- GET_SINK_CAP (R250, R260). -/
def execGetSinkCap (pp : PdPort) (msg : PdMsg) (s : State) : Host.Outcome State Fault Refusal :=
  .next (pdCommand pp msg s (fun p s => s.pdAnswer p 8 0 (fun s => s.pdSay p .sinkCaps [sinkPdo (s.drp p)]))
    (fun _ => [⟨false, .sinkCaps, [sinkPdo false], []⟩]))

/-- EPR_Get_Source_Cap (R250). -/
def State.onEprGetSourceCap (s : State) (p : Port) : State :=
  if !s.isSource p || !s.eprUsable p then s.sayNotSupported p
  else if s.flag (.tcp p) F.TCP_PD_STATUS_EPR_MODE then s.sendCaps p
  else s.sayCaps p true (s.deriveOffer p true).words

/-- EPR_GET_SOURCE_CAP (R250). -/
def execEprGetSourceCap (pp : PdPort) (msg : PdMsg) (s : State) : Host.Outcome State Fault Refusal :=
  .next (pdCommand pp msg s (fun p s => s.pdAnswer p 16 2 (fun s => s.onEprGetSourceCap p)) (fun _ => upNot msg))

/-! ### Swaps -/

/-- PR_SWAP (R250): Reject. -/
def execPrSwap (pp : PdPort) (msg : PdMsg) (s : State) : Host.Outcome State Fault Refusal :=
  .next (pdCommand pp msg s (fun p s => s.pdAnswer p 10 0 (fun s => s.pdSay p .reject)) (fun _ => [⟨false, .reject, [], []⟩]))

/-- DR_Swap (R250, R253): accepted while the port is UFP. -/
def State.onDrSwap (s : State) (p : Port) : State :=
  if s.flag (.tcp p) F.TCP_PD_STATUS_DATA_ROLE then
    let s1 := ((s.pdSay p .accept).becomeDfp p).pdWith p (fun d => { d with swapOwn := false })
    s1.swapEvent p 1 0
  else s.pdSay p .reject

/-- DR_SWAP (R253). -/
def execDrSwap (pp : PdPort) (msg : PdMsg) (s : State) : Host.Outcome State Fault Refusal :=
  .next (pdCommand pp msg s (fun p s => s.pdAnswer p 9 0 (fun s => s.onDrSwap p)) (fun _ => [⟨false, .reject, [], []⟩]))

/-- VCONN_Swap (R255). -/
def State.onVconnSwap (s : State) (p : Port) : State :=
  let own := s.flag (.tcp p) F.TCP_PD_STATUS_VCONN_SRC
  let take := if own then s.pdFlag p F.TCP_PD_POLICY_ACCEPT_VCS
    else s.pdFlag p F.TCP_PD_POLICY_TAKE_VCONN && !(s.tcp p).vconnBarred
  if !s.isSource p || !isFullPort p || s.compat || !take then s.pdSay p .reject
  else if own then
    ((s.pdSay p .accept).setPe p 10).pdWith p (fun d => { d with want := .psRdy, swapOwn := false, swapPower := true })
  else
    let s1 := (((s.pdSay p .accept).vconnOn p).pdSay p .psRdy).pdWith p (fun d => { d with swapOwn := false })
    s1.swapEvent p 2 0

/-- VCONN_SWAP (R255). -/
def execVconnSwap (pp : PdPort) (msg : PdMsg) (s : State) : Host.Outcome State Fault Refusal :=
  .next (pdCommand pp msg s (fun p s => s.pdAnswer p 11 0 (fun s => s.onVconnSwap p)) (fun _ => [⟨false, .reject, [], []⟩]))

/-- FR_SWAP (R250, R254): with the signal seen the engine is inside its own Fast Role Swap, where the message is unexpected. -/
def execFrSwap (pp : PdPort) (msg : PdMsg) (s : State) : Host.Outcome State Fault Refusal :=
  .next (pdCommand pp msg s (fun p s => s.pdAnswer p 19 0 (fun s => s.sayNotSupported p)) (fun _ => upNot msg))

/-! ### Resets -/

/-- Soft_Reset received (R256). -/
def State.onSoftReset (s : State) (p : Port) : State :=
  if s.pe p = 4 ∨ (s.pd p).swapPower then s.unexpected p 13 0
  else
    let s1 := (((s.endRaise p).put (.tcp p) F.TCP_PD_CTRL_SOFT_RESET 0).noteSoft p false).pdWith p (fun d =>
      { d with flight := none, queued := [], want := .none, req := none, modeStep := 0, swapOwn := false, sinkTx := false })
    (s1.pdSay p .accept).softDone p

/-- SOFT_RESET (R256, R260). -/
def execSoftReset (pp : PdPort) (msg : PdMsg) (s : State) : Host.Outcome State Fault Refusal :=
  .next (match pp with
    | .down p => s.pdTake p msg (fun s => s.onSoftReset p)
    | .up u => if s.upHears u msg then s.upReply u [⟨false, .accept, [], []⟩] .none else s)

/-- HARD_RESET (R257); at an upstream engine it changes nothing (R260). -/
def execHardReset (pp : PdPort) (msg : PdMsg) (s : State) : Host.Outcome State Fault Refusal :=
  .next (match pp with
    | .down p => if s.pdHears p && !msg.sopPrime && !msg.sopDouble then
        ((s.pdFresh p).pdWith p (fun d => { d with partnerPd := true })).hardReset p false 0 else s
    | .up u => if s.upHears u msg then s.upSend u [] .none else s)

/-! ### Information -/

/-- The internal temperature as Status carries it, °C: 1 stands for anything below 2. -/
def State.statusTemp (s : State) : Nat :=
  let raw := s.get .hlt F.HLT_STATUS_TEMP_MAX
  if raw < 1024 ∧ 8 ≤ raw then min (raw / 4) 255 else 1

/-- Current limiting has lowered the target of a PPS contract (R246). -/
def State.ppsLimiting (s : State) (p : Port) : Bool :=
  s.ppsNow p && decide (s.get (.vbs p) F.VBS_TARGET_TARGET_MV < (s.pd p).ppsMv)

/-- The Status data block (R250, R6): internal temperature, the OTP event flag while thermal shedding runs, and the current-limit flag of a
PPS contract; the other bytes report nothing. PRESUMED, log 55. -/
def State.statusBlock (s : State) (p : Port) : List Byte :=
  [BitVec.ofNat 8 s.statusTemp, 0, 0,
    BitVec.ofNat 8 (4 * bit (s.get .hlt F.HLT_STATUS_LEVEL == 2) + 16 * bit (s.ppsLimiting p)), 0, 0, 0]

/-- GET_STATUS (R250). -/
def execGetStatus (pp : PdPort) (msg : PdMsg) (s : State) : Host.Outcome State Fault Refusal :=
  .next (pdCommand pp msg s (fun p s => s.pdAnswer p 18 0 (fun s => s.rev3Only p (fun s =>
    s.pdSay p .status [] (s.statusBlock p)))) (fun _ => upNot msg))

/-- PPS_Status (R246, R6): voltage in 20 mV, current in 50 mA, and in bit 3 of the flags whether the current limit has lowered the target.
PRESUMED, log 55. -/
def State.ppsStatus (s : State) (p : Port) : List Byte :=
  let v := adcUv10 (s.get (.vbs p) F.VBS_MEAS_VBUS) / 200000
  [BitVec.ofNat 8 v, BitVec.ofNat 8 (v / 256), BitVec.ofNat 8 (s.get (.vbs p) F.VBS_IBUS_IBUS_MA / 50),
    BitVec.ofNat 8 (8 * bit (s.ppsLimiting p))]

/-- GET_PPS_STATUS (R246, R250). -/
def execGetPpsStatus (pp : PdPort) (msg : PdMsg) (s : State) : Host.Outcome State Fault Refusal :=
  .next (pdCommand pp msg s (fun p s => s.pdAnswer p 20 0 (fun s =>
    if s.ppsNow p then s.pdSay p .ppsStatus [] (s.ppsStatus p) else s.sayNotSupported p)) (fun _ => upNot msg))

/-- VID and PID of `TCP_PD_ID`, low bytes first. -/
def State.idBytes (s : State) (p : Port) : List Byte :=
  let v := s.get (.tcp p) F.TCP_PD_ID_VID
  let d := s.get (.tcp p) F.TCP_PD_ID_PID
  [BitVec.ofNat 8 v, BitVec.ofNat 8 (v / 256), BitVec.ofNat 8 d, BitVec.ofNat 8 (d / 256)]

/-- The Source_Capabilities_Extended data block (R250, R6): VID, PID, and the PDP of the grant as SPR rating, up to 100 W, and as EPR
rating; the other bytes report nothing. PRESUMED, log 55. -/
def State.extCapBlock (s : State) (p : Port) : List Byte :=
  let w := s.grant p / 10
  let epr := isFullPort p && s.pdFlag p F.TCP_PD_POLICY_EPR_EN
  s.idBytes p ++ List.replicate 19 0 ++ [BitVec.ofNat 8 (min w 100), BitVec.ofNat 8 (if epr then w else 0)]

/-- GET_SOURCE_CAP_EXTENDED (R250). -/
def execGetSourceCapExtended (pp : PdPort) (msg : PdMsg) (s : State) : Host.Outcome State Fault Refusal :=
  .next (pdCommand pp msg s (fun p s => s.pdAnswer p 17 0 (fun s => s.rev3Only p (fun s =>
    s.pdSay p .sourceCapsExt [] (s.extCapBlock p)))) (fun _ => upNot msg))

/-- The power of a PDO, W. -/
def pdoWatts (w : Word) : Nat :=
  if pdoType w = 0 then fixedV w * fixedI w / 2000
  else if apdoType w = 0 then ppsMax w * ppsI w / 200
  else avsPdp w

/-- The Source_Info data object (R250, R6): managed capability, maximum PDP, present PDP, and as reported PDP the largest of the present
offer, which the cable may limit. PRESUMED, log 55. -/
def State.sourceInfo (s : State) (p : Port) : Word :=
  let o := s.deriveOffer p (s.flag (.tcp p) F.TCP_PD_STATUS_EPR_MODE)
  BitVec.ofNat 32 ((if isFullPort p then 240 else 60) * 2 ^ 16 + s.grant p / 10 * 2 ^ 8 + (o.words.map pdoWatts).foldl max 0)

/-- GET_SOURCE_INFO (R250). -/
def execGetSourceInfo (pp : PdPort) (msg : PdMsg) (s : State) : Host.Outcome State Fault Refusal :=
  .next (pdCommand pp msg s (fun p s => s.pdAnswer p 23 0 (fun s =>
    s.pdSay p .sourceInfo [s.sourceInfo p])) (fun _ => upNot msg))

/-- GET_REVISION (R250): Revision 3.1. -/
def execGetRevision (pp : PdPort) (msg : PdMsg) (s : State) : Host.Outcome State Fault Refusal :=
  .next (pdCommand pp msg s (fun p s => s.pdAnswer p 24 0 (fun s => s.pdSay p .revision [0x31000000])) (fun _ => upNot msg))

/-- GET_MANUFACTURER_INFO (R250): VID, PID and the string "IM6416". -/
def execGetManufacturerInfo (pp : PdPort) (msg : PdMsg) (s : State) : Host.Outcome State Fault Refusal :=
  .next (pdCommand pp msg s (fun p s => s.pdAnswer p 6 2 (fun s => s.rev3Only p (fun s =>
    s.pdSay p .manufacturerInfo [] (s.idBytes p ++ [0x49, 0x4D, 0x36, 0x34, 0x31, 0x36])))) (fun _ => upNot msg))

/-! ### EPR (R247) -/

/-- EPR_Mode received as source. -/
def State.onEprMode (s : State) (p : Port) (obj : Word) : State :=
  let pg := PageId.tcp p
  let inEpr := s.flag pg F.TCP_PD_STATUS_EPR_MODE
  let spr := s.flag pg F.TCP_PD_STATUS_CONTRACT && [1, 2].contains (s.get pg F.TCP_CONTRACT_TYPE)
  match obj.toNat / 2 ^ 24 with
  | 1 => if s.pe p = 5 ∧ spr ∧ !inEpr then s.eprEnter p else s.unexpected p 10 1
  | 5 =>
    if !inEpr then s.unexpected p 10 1
    else if s.get pg F.TCP_CONTRACT_V_MV ≤ 20000 then (s.put pg F.TCP_PD_STATUS_EPR_MODE 0).sendCaps p
    else s.hardReset p true 10
  | _ => s.unexpected p 10 1

/-- EPR_MODE (R247). -/
def execEprMode (pp : PdPort) (msg : PdMsg) (s : State) : Host.Outcome State Fault Refusal :=
  .next (pdCommand pp msg s (fun p s => s.pdAnswer p 10 1 (fun s =>
    if s.isSource p then s.onEprMode p (msg.objs.getD 0 0) else s.sayNotSupported p)) (fun _ => upNot msg))

/-- EPR_KEEPALIVE (R247). -/
def execEprKeepalive (pp : PdPort) (msg : PdMsg) (s : State) : Host.Outcome State Fault Refusal :=
  .next (pdCommand pp msg s (fun p s => s.pdAnswer p 16 2 (fun s =>
    if s.isSource p && s.flag (.tcp p) F.TCP_PD_STATUS_EPR_MODE then s.pdSay p .eprKeepAliveAck
    else if s.isSource p then s.unexpected p 16 2 else s.sayNotSupported p)) (fun _ => upNot msg))

/-! ### Vendor-defined and other messages -/

/-- A structured VDM on SOP (R259): an answer to the engine's own, or a request of the partner. PRESUMED, log 55. -/
def State.onVdm (s : State) (p : Port) (objs : List Word) : State :=
  let h := objs.getD 0 0
  if !vdmStructured h then s.pdAnswer p 15 1 (fun s => s.sayNotSupported p)
  else if vdmType h ≠ 0 then
    (if (s.pd p).want = .vdm then s.modeAnswer p h (objs.drop 1) else s.unexpected p 15 1)
  else s.pdAnswer p 15 1 (fun s => s.vdmRequest p h)

/-- The last attempt of cable discovery has failed (R248). -/
def State.cableTried (s : State) (p : Port) : State :=
  if (s.pd p).cableRun && decide (20 ≤ s.get (.tcp p) F.TCP_CABLE_ATTEMPTS) then s.cableFail p else s

/-- A VDM on SOP′ (R232, R247, R248): the cable's answer to Discover Identity; NAK and BUSY fail the
attempt, or the EPR mode entry. -/
def State.onCableVdm (s : State) (p : Port) (objs : List Word) : State :=
  let h := objs.getD 0 0
  if vdmType h == 0 || vdmCmd h != 1 then s
  else if s.pe p = 15 then (if vdmType h = 1 then s.eprCableAnswer p objs else s.eprFail p 1)
  else if vdmType h ≠ 1 then s.cableTried p
  else if (s.pd p).cableRun then s.cableFound p objs
  else s

/-- VENDOR_DEFINED (R248, R259, R260). -/
def execVendorDefined (pp : PdPort) (msg : PdMsg) (s : State) : Host.Outcome State Fault Refusal :=
  .next (match pp with
    | .down p =>
      if msg.sopPrime && !msg.sopDouble then
        (if s.pdHears p && s.flag (.tcp p) F.TCP_PD_STATUS_VCONN_SRC then (s.pdAck p true).onCableVdm p msg.objs else s)
      else s.pdTake p msg (fun s => s.onVdm p msg.objs)
    | .up u => s.upSay u msg (s.upVdm u msg))

/-- PING (R250): GoodCRC only. -/
def execPingMsg (pp : PdPort) (msg : PdMsg) (s : State) : Host.Outcome State Fault Refusal :=
  .next (pdCommand pp msg s (fun _ s => s) (fun _ => upNot msg))

/-- ALERT (R250): GoodCRC only. -/
def execAlertMsg (pp : PdPort) (msg : PdMsg) (s : State) : Host.Outcome State Fault Refusal :=
  .next (pdCommand pp msg s (fun _ s => s) (fun _ => upNot msg))

/-- BIST (R250): Carrier Mode (5) and Test Data (8) run only at 5 V. -/
def State.onBist (s : State) (p : Port) (obj : Word) : State :=
  let mode := obj.toNat / 2 ^ 28
  if (mode = 5 ∨ mode = 8) ∧ (s.present p).1 = 5000 then s.pdSay p .bist [obj] else s

/-- BIST (R250). -/
def execBist (pp : PdPort) (msg : PdMsg) (s : State) : Host.Outcome State Fault Refusal :=
  .next (pdCommand pp msg s (fun p s => s.pdAnswer p 3 1 (fun s => s.onBist p (msg.objs.getD 0 0))) (fun _ => upNot msg))

/-- A message that the table of R250 answers with Not_Supported, by class and number; `sub` is the type of an Extended_Control message.
PRESUMED, log 55. -/
def pdListed (cls num sub : Nat) : Bool :=
  match cls with
  | 0 => ([2, 14, 21, 22] : List Nat).contains num
  | 1 => ([5, 7, 8] : List Nat).contains num
  | 2 => ([3, 4, 5, 8, 9, 10, 11, 13, 14, 30] : List Nat).contains num || (num == 16 && sub == 2)
  | _ => false

/-- FRS current that a Sink PDO's field asks for, mA (R254): Default USB Power counts as the port's default basis. -/
def frsNeed (p : Port) (w : Word) : Nat :=
  match w.toNat / 2 ^ 23 % 4 with
  | 0 => 0
  | 1 => rpMa p 1
  | 2 => 1500
  | _ => 3000

/-- The partner's Sink_Capabilities (R254): a non-zero FRS field takes the reservation. -/
def State.onSinkCaps (s : State) (p : Port) (w : Word) : State :=
  let s1 := s.pdWith p (fun d => { d with want := .none, frsMa := frsNeed p w })
  if frsNeed p w = 0 ∨ (s1.pd p).reserved then s1.grantChanged p (s1.grant p) else s1.askReserve p

/-- UNSUPPORTED_MESSAGE (R250, R251): Not_Supported; inside a sequence the messages that its rules expect, Sink_Capabilities
and Not_Supported, are taken. -/
def State.onUnsupported (s : State) (p : Port) (m : PdMsg) : State :=
  let num := m.num.toNat
  let cls := m.cls.toNat
  let want := (s.pd p).want
  if cls = 1 ∧ num = 4 ∧ want = .sinkCaps then s.onSinkCaps p (m.objs.getD 0 0)
  else if cls = 0 ∧ num = 16 ∧ want = .sinkCaps then s.pdWith p (fun d => { d with want := .none })
  else if cls = 0 ∧ num = 16 ∧ want = .swapAnswer ∧ s.pe p ≠ 9 then s.swapRefused p 1
  else if s.pdReady p && pdListed cls num ((m.objs.getD 0 0).toNat % 256) then s.sayNotSupported p
  else s.unexpected p num cls

/-- UNSUPPORTED_MESSAGE (R250). -/
def execUnsupportedMessage (pp : PdPort) (msg : PdMsg) (s : State) : Host.Outcome State Fault Refusal :=
  .next (pdCommand pp msg s (fun p s => s.onUnsupported p msg) (fun _ => upNot msg))

/-! ### Answers inside sequences -/

/-- After the data role is settled: VCONN where that is due, then ready again under a contract, else the start of the engine (R253,
R255). -/
def State.drDone (s : State) (p : Port) : State :=
  (s.pdWith p (fun d => { d with swapOwn := false, want := .none, drTries := 0 })).vconnTake p

/-- Accept (R252–R256). -/
def State.onAccept (s : State) (p : Port) : State :=
  match (s.pd p).want with
  | .softAccept => s.softDone p
  | .acceptAsSink => s.pdWith p (fun d => { d with want := .psRdy })
  | .swapAnswer =>
    if s.pe p = 8 ∨ s.pe p = 9 then s.pdWith p (fun d => { d with want := .psRdy, swapPower := true })
    else if s.pe p = 11 then ((s.becomeDfp p).swapEvent p 1 0).drDone p
    else if s.pe p = 10 then (((s.vconnOn p).pdSay p .psRdy).swapEvent p 2 0).swapOver p
    else s.unexpected p 3 0
  | _ => s.unexpected p 3 0

/-- ACCEPT (R253, R256). -/
def execAccept (pp : PdPort) (msg : PdMsg) (s : State) : Host.Outcome State Fault Refusal :=
  .next (match pp with
    | .down p => s.pdTake p msg (fun s => s.onAccept p)
    | .up u => s.upStep u msg (fun w => match w with
      | .acceptAsSink => some .psRdy
      | .softAccept => some .none
      | _ => none))

/-- Reject or Wait to a swap the engine sent (R253); in a Fast Role Swap only the missing Accept ends it (R254). DEDUCED, log 53. -/
def State.onRefusal (s : State) (p : Port) (num outcome : Nat) : State :=
  if (s.pd p).want = .swapAnswer then (if s.pe p = 9 then s else s.swapRefused p outcome)
  else s.unexpected p num 0

/-- REJECT (R253). -/
def execReject (pp : PdPort) (msg : PdMsg) (s : State) : Host.Outcome State Fault Refusal :=
  .next (match pp with
    | .down p => s.pdTake p msg (fun s => s.onRefusal p 4 1)
    | .up u => s.upStep u msg (fun w => if w = .acceptAsSink then some .none else none))

/-- WAIT (R253). -/
def execWaitMsg (pp : PdPort) (msg : PdMsg) (s : State) : Host.Outcome State Fault Refusal :=
  .next (match pp with
    | .down p => s.pdTake p msg (fun s => s.onRefusal p 12 2)
    | .up u => s.upStep u msg (fun w => if w = .acceptAsSink then some .none else none))

/-- PS_RDY (R252–R255): a power swap closes the switch under steps 3 and 4 of R196, and one whose reservation has been lost cannot go on.
DEDUCED, log 53. -/
def State.onPsRdy (s : State) (p : Port) : State :=
  if (s.pd p).want ≠ .psRdy then s.unexpected p 6 0
  else match s.pe p with
    | 8 => if s.mayClose p && (s.pd p).reserved then ((s.setLimit p (rpMa p 1)).pdWith p (fun d => { d with want := .none })).checkClose p
      else s.hardReset p true 2
    | 9 => s.swapToSource p 3
    | 10 => ((s.vconnHand p).swapEvent p 2 0).swapOver p
    | _ => s.sinkContract p

/-- PS_RDY (R253). DEDUCED, log 52. -/
def execPsRdy (pp : PdPort) (msg : PdMsg) (s : State) : Host.Outcome State Fault Refusal :=
  .next (match pp with
    | .down p => s.pdTake p msg (fun s => s.onPsRdy p)
    | .up u => s.upStep u msg (fun w => if w = .psRdy then some .none else none))

/-! ### GoodCRC (R232) -/

/-- Capabilities acknowledged: SRC_NEGOTIATE (R234, R240, R249). -/
def State.capsAcked (s : State) (p : Port) : State :=
  (s.setPe p 3).pdWith p (fun d =>
    { d with want := .request, partnerPd := true, revokeWait := s.get .bgt (F.BGT_GRANTn_STATE p.val) == 3 })

/-- GoodCRC for the message in flight. -/
def State.onGoodCrc (s : State) (p : Port) (m : PdMsg) : State :=
  match (s.pd p).flight with
  | none => s
  | some o =>
    if o.sopPrime ≠ m.sopPrime ∨ m.sopDouble then s else
    let s1 := s.pdWith p (fun d =>
      { d with flight := d.queued.head?, queued := d.queued.tail, resends := 0, idSop := if m.sopPrime then d.idSop else d.idSop + 1,
               idPrime := if m.sopPrime then d.idPrime + 1 else d.idPrime })
    let caps := o.kind = (if s.flag (.tcp p) F.TCP_PD_STATUS_EPR_MODE then .eprSourceCaps else .sourceCaps)
    let more := (s1.pd p).flight.any (fun m => m.kind == .eprSourceCaps)
    if caps ∧ !more ∧ s.isSource p ∧ (s.pe p = 2 ∨ s.pe p = 3 ∨ s.pe p = 5) then s1.capsAcked p
    else if o.kind = .accept ∧ s.pe p = 4 then s1.pdWith p (fun d => { d with accepted := true })
    else s1

/-- GOODCRC (R232). DEDUCED, log 54. -/
def execGoodcrc (pp : PdPort) (msg : PdMsg) (s : State) : Host.Outcome State Fault Refusal :=
  .next (match pp with
    | .down p => if s.pdHears p then (s.pdFresh p).onGoodCrc p msg else s
    | .up u => if s.upHears u msg then s.upSend u [] s.upWant[u] else s)

/-- A message is given up after its retries (R232): the rest of a chunked message with it. Capabilities end the engine's own sequence and
restore SinkTxOk (R233), the cable's silence ends an EPR entry (R247) and the last attempt of discovery (R248). -/
def State.giveUp (s : State) (p : Port) (o : PdOut) : State :=
  let s1 := (s.pdWith p (fun d =>
    let rest := d.queued.filter (fun m => !(m.kind == o.kind && m.kind == .eprSourceCaps))
    { d with flight := rest.head?, queued := rest.tail, resends := 0 })).countErr (.tcp p) p F.TCP_PD_CNT_TX_FAIL
  if s.pe p = 15 then s1.eprFail p 1
  else if o.sopPrime then s1.cableTried p
  else if s.pe p = 5 ∧ (o.kind = .sourceCaps ∨ o.kind = .eprSourceCaps) then
    (s1.pdWith p (fun d => { d with sinkTx := false })).rpApply p
  else s1

/-- GoodCRC missing: sent again up to twice, then given up (R232). -/
def State.onNoGoodCrc (s : State) (p : Port) : State :=
  match (s.pd p).flight with
  | none => s
  | some o =>
    if (s.pd p).resends < 2 then s.pdWith p (fun d => { d with out := d.out ++ [o], resends := d.resends + 1 })
    else s.giveUp p o

/-- GOODCRC_TIMEOUT (R232). -/
def execGoodcrcTimeout (pp : PdPort) (msg : PdMsg) (s : State) : Host.Outcome State Fault Refusal :=
  .next (match pp with
    | .down p => if s.pdHears p then (s.pdFresh p).onNoGoodCrc p else s
    | .up u => if s.upHears u msg then s.upSend u [] s.upWant[u] else s)

end Sys2Proof.Machine
end

