-- ==== Sys2Proof/Machine/PdTimers.lean ====
section
/-! DEFINITION. The timers and signals of the PD engine (R240–R262) and its commands. -/

namespace Sys2Proof.Machine

/-- A timer of an engine acts: the port's domain is out of reset. -/
def State.pdTick (s : State) (p : Port) (c : Bool) (f : State → State) : State :=
  if s.portUp p && c then f (s.pdFresh p) else s

/-- SRC_STARTUP_END (R240). -/
def execSrcStartupEnd (p : Port) (s : State) : Host.Outcome State Fault Refusal :=
  .next (s.pdTick p (s.pe p == 1 && s.vbusOn p) (fun s => s.startCaps p))

/-- SOURCE_CAP_RESEND (R240): up to 50 times. -/
def execSourceCapResend (p : Port) (s : State) : Host.Outcome State Fault Refusal :=
  .next (s.pdTick p (s.pe p == 2 && decide ((s.pd p).capsSent < 50)) (fun s => s.sendCaps p))

/-- The revocation of a port ends as its contract does (R249): neither step 2 nor step 3 is raised. -/
def State.revokeDropped (s : State) (p : Port) : State :=
  if s.get .bgt (F.BGT_GRANTn_STATE p.val) = 3 then s.put .bgt (F.BGT_GRANTn_STATE p.val) 2 else s

/-- No Request has answered the capabilities of a revocation (R249). -/
def State.revokeUnanswered (s : State) (p : Port) : State :=
  ((s.pdWith p (fun d => { d with revokeWait := false })).revokeDropped p).hardReset p true 9

/-- A missing answer (R251, R247, R253, R254, R256). DEDUCED, log 53. DEDUCED, log 54. -/
def State.noAnswer (s : State) (p : Port) : State :=
  match (s.pd p).want with
  | .none => s
  | .vdm => s
  | .cable => (s.protoErr p 0 3 false).eprFail p 1
  | .softAccept => (s.protoErr p 0 3 true).hardReset p true 2
  | .swapAnswer => if s.pe p = 9 then (s.protoErr p 0 3 false).frsFail p
      else ((s.protoErr p 0 3 false).swapTried p 2).sendSoft p
  | .request => if (s.pd p).revokeWait then s.revokeUnanswered p else (s.protoErr p 0 3 false).sendSoft p
  | .psRdy => if (s.pd p).swapPower then (s.protoErr p 0 3 true).hardReset p true 2 else (s.protoErr p 0 3 false).sendSoft p
  | _ => (s.protoErr p 0 3 false).sendSoft p

/-- A missing answer at an upstream engine (R251, R256, R260): Hard_Reset where it is the Accept of a Soft_Reset, which changes nothing
the engine controls, and Soft_Reset else. DEDUCED, log 56. -/
def State.upNoAnswer (s : State) (u : Up) : State :=
  if !s.upRuns u || s.upWant[u] = .none then s
  else if s.upWant[u] = .softAccept then s.upSend u [⟨false, .hardReset, [], []⟩] .none
  else s.upSend u softResetOut .softAccept

/-- SENDER_RESPONSE_TIMEOUT (R251). -/
def execSenderResponseTimeout (pp : PdPort) (s : State) : Host.Outcome State Fault Refusal :=
  .next (match pp with
    | .down p => s.pdTick p true (fun s => s.noAnswer p)
    | .up u => s.upNoAnswer u)

/-- The transition begins (R243 step 1): the target moves under the larger current; at an unchanged voltage it is over. -/
def State.startTransition (s : State) (p : Port) : State :=
  let d := s.pd p
  let (cv, ci) := s.present p
  let pg := PageId.vbs p
  let s1 := s.pdWith p (fun d => { d with transRun := true })
  if d.nextMv = cv then s1.contractDone p
  else
    let ma := 10 * max ci d.nextMa10
    let s2 := ((s1.put pg F.VBS_STATUS_STATE 4).put pg F.VBS_TARGET_TARGET_MV d.nextMv).put pg F.VBS_TARGET_LIMIT_MA
      (max (s.get pg F.VBS_TARGET_LIMIT_MA) (min (11 * ma / 10) 65535))
    s2.vbsWith p (fun v => { v with highMv := max cv d.nextMv, oldMa := 10 * ci, newMa := 10 * d.nextMa10, lastNear := false, lastOver := false })

/-- TRANSITION_START (R243): 28 ms after the GoodCRC of Accept. -/
def execTransitionStart (p : Port) (s : State) : Host.Outcome State Fault Refusal :=
  .next (s.pdTick p (s.pe p == 4 && (s.pd p).accepted && !(s.pd p).transRun && s.vbsStt p == 3) (fun s => s.startTransition p))

/-- A transition fails by time (R244). -/
def State.transFail (s : State) (p : Port) : State :=
  let s1 := s.setFault (.tcp p) 9
  let s2 := s1.raisePort (.tcp p) p evTransitionFail
    (1 + s.get (.vbs p) F.VBS_MEAS_VBUS * 16 + s.get (.vbs p) F.VBS_TARGET_TARGET_MV / 10 * 0x10000)
  (s2.endRaise p).hardReset p true 1

/-- TRANS_LIMIT_END (R244). -/
def execTransLimitEnd (p : Port) (s : State) : Host.Outcome State Fault Refusal :=
  .next (s.pdTick p (s.pe p == 4 && (s.pd p).transRun) (fun s => s.transFail p))

/-- WAIT_TIMER_END (R241). -/
def execWaitTimerEnd (p : Port) (s : State) : Host.Outcome State Fault Refusal :=
  .next (s.pdTick p (s.pe p == 3 && (s.pd p).req.isSome && !(s.pd p).waitSent) (fun s =>
    ((s.pdSay p .wait).toReady p).pdWith p (fun d => { d with waitSent := true })))

/-- LEAVE_HOLD_END (R242): leave reported done with no transition, or withdrawn. -/
def execLeaveHoldEnd (p : Port) (s : State) : Host.Outcome State Fault Refusal :=
  .next (s.pdTick p (((s.pd p).waitSent || (s.pd p).raiseGranted) && s.pe p != 4) (fun s =>
    (s.endRaise p).pdWith p (fun d => { d with req := none })))

/-- PPS_TIMEOUT (R246). -/
def execPpsTimeout (p : Port) (s : State) : Host.Outcome State Fault Refusal :=
  .next (s.pdTick p (s.ppsNow p) (fun s => s.hardReset p true 4))

/-- EPR_KEEPALIVE_TIMEOUT (R247). -/
def execEprKeepaliveTimeout (p : Port) (s : State) : Host.Outcome State Fault Refusal :=
  .next (s.pdTick p (s.flag (.tcp p) F.TCP_PD_STATUS_EPR_MODE) (fun s => s.hardReset p true 5))

/-- The engine sets SinkTxNG before a sequence of its own (R233). DEDUCED, log 54. -/
def State.startSinkTx (s : State) (p : Port) : State := (s.pdWith p (fun d => { d with sinkTx := true })).rpApply p

/-- DR_Swap is still due from a source that is UFP (R253). -/
def State.drMay (s : State) (p : Port) : Bool :=
  s.isSource p && s.flag (.tcp p) F.TCP_PD_STATUS_DATA_ROLE && decide ((s.pd p).drTries < 3) && s.pe p == 5

/-- The engine's own sequence starts 18 ms after SinkTxNG (R233): the sequence that is due. DEDUCED, log 53. -/
def State.ownSequence (s : State) (p : Port) : State :=
  let pg := PageId.tcp p
  let d := s.pd p
  if s.flag pg F.TCP_PD_CTRL_SOFT_RESET then (s.put pg F.TCP_PD_CTRL_SOFT_RESET 0).sendSoft p
  else if s.flag pg F.TCP_PD_CTRL_EXIT_MODE && s.flag pg F.TCP_PD_STATUS_MODE_ENTERED then s.sendExit p
  else if d.offerNow || d.offerDue || d.capDue || s.flag pg F.TCP_PD_CTRL_SEND_CAPS then s.sendCaps p
  else if d.vconnDue then s.vconnTake p
  else if d.modeStep = 1 ∧ s.modeMay p then s.modeSend p 1
  else if s.drMay p then s.sendDrSwap p
  else (s.pdWith p (fun d => { d with modeStep := 0 })).toReady p

/-- SINK_TX_END (R233); before a contract only the new capabilities after a CAP are due (R241). -/
def execSinkTxEnd (p : Port) (s : State) : Host.Outcome State Fault Refusal :=
  .next (s.pdTick p ((s.pd p).sinkTx && (s.pd p).want == .none) (fun s =>
    if s.pe p = 5 then s.ownSequence p
    else if s.pe p = 3 ∧ (s.pd p).capDue then (s.pdWith p (fun d => { d with sinkTx := false })).sendCaps p
    else s))

/-- CAPS_MERGE_END (R239). -/
def execCapsMergeEnd (p : Port) (s : State) : Host.Outcome State Fault Refusal :=
  .next (s.pdTick p (s.pe p == 5 && (s.pd p).offerDue && (s.pd p).want == .none) (fun s =>
    ((s.pdWith p (fun d => { d with offerNow := true })).pdKick p)))

/-- An SOP sequence runs, or a message awaits its GoodCRC: attempts of cable discovery wait (R248). -/
def State.pdBusy (s : State) (p : Port) : Bool :=
  let d := s.pd p
  d.want != .none || d.flight.isSome || (d.req.isSome && !d.waitSent)

/-- DISCOVER_IDENTITY_ATTEMPT (R248): waits while an SOP sequence runs, and sends nothing where the engine has no PD activity (R234,
R257). -/
def execDiscoverIdentityAttempt (p : Port) (s : State) : Host.Outcome State Fault Refusal :=
  .next (s.pdTick p ((s.pd p).cableRun && s.flag (.tcp p) F.TCP_PD_STATUS_VCONN_SRC && s.pdEn p && !s.pdBusy p &&
      !([0, 4, 13, 14] : List Nat).contains (s.pe p)) (fun s =>
    if 20 ≤ s.get (.tcp p) F.TCP_CABLE_ATTEMPTS then s.cableTried p
    else (s.count (.tcp p) F.TCP_CABLE_ATTEMPTS).pdSay p .vdm [vdmReq (s.pdRev2 p) 0xFF00 1 0] [] true))

/-- REVOKE_NO_REQUEST (R249). -/
def execRevokeNoRequest (p : Port) (s : State) : Host.Outcome State Fault Refusal :=
  .next (s.pdTick p (s.pd p).revokeWait (fun s => s.revokeUnanswered p))

/-- HARD_RESET_POWER_OFF (R257 step 2, R190). -/
def execHardResetPowerOff (p : Port) (s : State) : Host.Outcome State Fault Refusal :=
  .next (s.pdTick p (s.pe p == 13 && (s.pd p).hrPhase == 1) (fun s =>
    (((s.vbsOpenTo p 5 true 5).revokeDropped p).vconnOff p |>.muxEnd p 2).pdWith p (fun d => { d with hrPhase := 2 })))

/-- SRC_RECOVER_END (R257 steps 4 and 5): the switch closes with the default grant, VCONN turns on. -/
def execSrcRecoverEnd (p : Port) (s : State) : Host.Outcome State Fault Refusal :=
  .next (s.pdTick p (s.pe p == 13 && (s.pd p).hrPhase == 2 && s.flag (.vbs p) F.VBS_STATUS_SAFE0V && s.vbsStt p == 0) (fun s =>
    let s1 := (s.put (.vbs p) F.VBS_STATUS_STATE 1).put (.vbs p) F.VBS_STATUS_DSCH_ON 1
    ((s1.setLimit p (rpMa p 1)).vconnStart p).pdWith p (fun d => { d with hrPhase := 3 })))

/-- SINK_WAIT_CAP_TIMEOUT (R252). -/
def execSinkWaitCapTimeout (p : Port) (s : State) : Host.Outcome State Fault Refusal :=
  .next (s.pdTick p (s.pe p == 6 && !(s.pd p).snkWaitVbus && (s.pd p).want == .none) (fun s => s.hardReset p true 2))

/-- The reservation is held: its turn-on has been granted (R253). -/
def State.reserveHeld (s : State) (p : Port) : Bool :=
  (s.pd p).reserved && s.arb.running.contains (.turnOn p)

/-- SWAP_ATTEMPT (R253): a sink takes the reservation, then checks VREG and sends PR_Swap; a source that is UFP sends DR_Swap. -/
def execSwapAttempt (p : Port) (s : State) : Host.Outcome State Fault Refusal :=
  .next (s.pdTick p (s.pdReady p) (fun s =>
    if s.pe p = 7 ∧ s.pdFlag p F.TCP_PD_POLICY_SWAP_TO_SRC ∧ (s.pd p).prTries < 3 then
      if s.reserveHeld p then
        if !s.mayClose p then s
        else if !nearTarget (s.get (.vbs p) F.VBS_MEAS_VREG) 5000 then s.trip p 5
        else ((s.pdSay p .prSwap).setPe p 8).pdWith p (fun d => { d with want := .swapAnswer, swapOwn := true, swapPower := false })
      else s.askReserve p
    else if s.drMay p && !(s.pd p).sinkTx then s.startSinkTx p
    else s))

/-- SINK_HARD_RESET_TIMEOUT (R253): where VBUS is not there the port detaches through ERROR_RECOVERY. DESIGN CHOICE, log 84. -/
def execSinkHardResetTimeout (p : Port) (s : State) : Host.Outcome State Fault Refusal :=
  .next (s.pdTick p (s.ccSt p == 7 && (s.pd p).snkWaitVbus) (fun s =>
    if 40000000 ≤ s.vbusUv10 p then s.pdWith p (fun d => { d with snkWaitVbus := false, snkFell := false })
    else (s.ccEnd p 1 0 0 0).count (.tcp p) F.TCP_CC_CNT_RECOVERIES))

/-- FRS_SIGNAL (R254). -/
def execFrsSignal (p : Port) (s : State) : Host.Outcome State Fault Refusal :=
  .next (s.pdTick p (([6, 7, 12] : List Nat).contains (s.pe p) && s.flag (.tcp p) F.TCP_PD_STATUS_FRS_ARMED) (fun s =>
    ((s.pdSay p .frSwap).setPe p 9).pdWith p (fun d =>
      { d with frsSeen := true, want := .swapAnswer, swapOwn := true, swapPower := false })))

/-- FRS_VBUS_DROP (R254): GATE drives fully on, with the limit of the FRS current. -/
def execFrsVbusDrop (p : Port) (s : State) : Host.Outcome State Fault Refusal :=
  .next (s.pdTick p (s.pe p == 9 && (s.pd p).frsSeen && s.vbsStt p == 0 && s.mayClose p) (fun s =>
    let pg := PageId.vbs p
    let s1 := ((s.put pg F.VBS_STATUS_STATE 3).put pg F.VBS_STATUS_GATE_ON 1).put pg F.VBS_TARGET_TARGET_MV 5000
    let s2 := (s1.put pg F.VBS_STATUS_DSCH_ON 0).setLimit p (s.pd p).frsMa
    ((s2.raisePort pg p evVbusOn (s2.get pg F.VBS_MEAS_VBUS)).opDone (.turnOn p)).bcDecide p))

/-- CONSOLE_MODE_ATTEMPT (R259): the sequence begins with SinkTxNG. -/
def execConsoleModeAttempt (p : Port) (s : State) : Host.Outcome State Fault Refusal :=
  .next (s.pdTick p (s.modeMay p && (s.pd p).modeStep == 0 && s.pdReady p) (fun s =>
    (s.pdWith p (fun d => { d with modeStep := 1 })).startSinkTx p))

/-- VDM_RESPONSE_TIMEOUT (R259), of the console sequence, of an EPR mode entry (R247) or of the last attempt of discovery (R248). -/
def execVdmResponseTimeout (p : Port) (s : State) : Host.Outcome State Fault Refusal :=
  .next (s.pdTick p true (fun s =>
    if (s.pd p).want = .vdm then (if (s.pd p).modeStep = 0 then s.modeOver p else s.modeFail p)
    else if (s.pd p).want = .cable then s.eprFail p 1
    else if (s.pd p).flight.isNone then s.cableTried p
    else s))

/-! ### Commands and live changes (R239, R262, R263, R265) -/

/-- `HARD_RESET` (R263). -/
def State.cmdHardReset (s : State) (p : Port) : State := (s.pdFresh p).hardReset p true 6

/-- `SOFT_RESET` (R263): as source after SinkTxNG (R233), with the command standing until then. -/
def State.cmdSoftReset (s : State) (p : Port) : State :=
  if !s.pdReady p || s.pe p == 2 then s
  else if s.isSource p then (s.put (.tcp p) F.TCP_PD_CTRL_SOFT_RESET 1).startSinkTx p
  else (s.pdFresh p).sendSoft p

/-- `SEND_CAPS` (R263): the command stands until the next `SRC_READY`. -/
def State.cmdSendCaps (s : State) (p : Port) : State := (s.put (.tcp p) F.TCP_PD_CTRL_SEND_CAPS 1).pdKick p

/-- `REDISCOVER` (R248, R263). -/
def State.cmdRediscover (s : State) (p : Port) : State :=
  if isFullPort p && s.flag (.tcp p) F.TCP_PD_STATUS_VCONN_SRC then
    (s.put (.tcp p) F.TCP_CABLE_ATTEMPTS 0).pdWith p (fun d => { d with cableRun := true, cableGood := false })
  else s

/-- `EXIT_MODE` (R259, R263): as source the command stands until `SRC_READY`, and begins with SinkTxNG (R233). -/
def State.cmdExitMode (s : State) (p : Port) : State :=
  if !s.flag (.tcp p) F.TCP_PD_STATUS_MODE_ENTERED then s
  else if s.isSource p then (s.put (.tcp p) F.TCP_PD_CTRL_EXIT_MODE 1).pdKick p
  else (s.pdFresh p).sendExit p

/-- PD stopped by `PD_EN` or parity (R262, R265): the partner is hard-reset, then IDLE with Type-C power. -/
def State.pdDisable (s : State) (p : Port) (reason : Nat) : State :=
  let s1 := if (s.pd p).partnerPd then (s.pdFresh p).hardReset p true reason else s
  if s1.pe p = 13 then s1 else ((s1.modeExit p 0 1).pdOff p).setPe p 0

/-- `PD_EN` has changed (R262, R265): the engine starts at `SRC_STARTUP` if VBUS is on, and in `IDLE` otherwise. -/
def State.pdEnChanged (s : State) (p : Port) : State := if s.pdEn p then s.pdStart p else s.pdDisable p 8

/-- `SWAP_TO_SRC` or `FRS_EN` has changed (R253, R254). -/
def State.swapsChanged (s : State) (p : Port) : State :=
  let s1 := if s.pdFlag p F.TCP_PD_POLICY_FRS_EN then s
    else (s.pdWith p (fun d => { d with frsMa := 0 })).put (.tcp p) F.TCP_PD_STATUS_FRS_ARMED 0
  if s1.pe p = 8 ∨ s1.pe p = 9 then s else ((s1.reserveCheck p).pdFresh p).frsAsk p

end Sys2Proof.Machine
end

