-- ==== Sys2Proof/Machine/Pwe.lean ====
section
/-! DEFINITION. Board power entry (chapter 07): seating, inrush, feeds and the electronic fuse. -/

namespace Sys2Proof.Machine

/-! ### Named parts -/

/-- `PWE_STATUS.STATE` (R162): 0 DEBOUNCE, 1 RAMP, 2 ON, 3 WAIT, 4 LATCHED, 5 ILIM_FAULT. -/
def State.entrySt (s : State) : Nat := s.get .pwe F.PWE_STATUS_STATE

/-- The board side is in RAMP or ON. -/
def State.entryDrives (s : State) : Bool := s.entrySt == 1 || s.entrySt == 2

/-- A feed is good (R173). -/
def State.feedIsGood (s : State) : Feed → Bool
  | .a => s.flag .pwe F.PWE_FEED_A_GOOD
  | .b => s.flag .pwe F.PWE_FEED_B_GOOD

/-- The other feed. -/
def otherFeed : Feed → Feed
  | .a => .b
  | .b => .a

/-- `FEED_SEL` code of a feed. -/
def feedCode : Feed → Nat
  | .a => 1
  | .b => 2

/-- The preferred feed (R174). -/
def State.prefFeed (s : State) : Feed :=
  let b := if s.cfgFlag .pwe F.PWE_FEED_CFG_PREF_OVR then s.cfgFlag .pwe F.PWE_FEED_CFG_PREF else s.entry.strapPref
  if b then .b else .a

/-- A field of the entry domain's own record. -/
def State.withEntry (s : State) (f : Entry → Entry) : State := { s with entry := f s.entry }

/-- Every entry gate off, no feed selected, the fault timer at zero: R166 runs it in RAMP and ON alone. DESIGN CHOICE, log 89. -/
def State.entryGatesOff (s : State) : State :=
  ((s.withEntry (fun e => { e with hsGate := false, feedGateA := false, feedGateB := false, gap := none, timing := false })).put
    .pwe F.PWE_STATUS_FEED_SEL 0).put .pwe F.PWE_STATUS_LIMITING 0

/-- The gate of one feed set. -/
def State.setFeedGate (s : State) (fd : Feed) (on : Bool) : State :=
  s.withEntry (fun e => match fd with
    | .a => { e with feedGateA := on }
    | .b => { e with feedGateB := on })

/-- DEBOUNCE entered from another state: every gate off, the count from zero (R162, R164, R175). -/
def State.toDebounce (s : State) (why : Fin 4) : State :=
  ((s.entryGatesOff).put .pwe F.PWE_STATUS_STATE 0).withEntry (fun e => { e with debounced := false, startWhy := why })

/-- RAMP entered: the preferred feed if good, else the other (R162, R165, R174). -/
def State.toRamp (s : State) : State :=
  let fd := if s.feedIsGood s.prefFeed then s.prefFeed else otherFeed s.prefFeed
  let retry := s.entrySt == 3
  let s1 := if retry then s.count .pwe F.PWE_CNT_RETRIES_RUN else s
  let s2 := (s1.put .pwe F.PWE_STATUS_START_CAUSE (if retry then 1 else s.entry.startWhy.val)).put .pwe F.PWE_STATUS_STATE 1
  ((s2.put .pwe F.PWE_STATUS_FEED_SEL (feedCode fd)).withEntry
    (fun e => { e with hsGate := true, debounced := false, retryRun := false, timing := false })).setFeedGate fd true

/-- The effective limit in µV of sense voltage, cut to whole µV (R168). DESIGN CHOICE, log 89. -/
def State.entryLimitUv (s : State) : Nat :=
  s.get .pwe F.PWE_CEIL_CEIL_UV * (s.cfg .pwe F.PWE_ILIM_ILIM_FRAC + 1) / 256

/-- The present sense voltage in µV: a measurement, so a free value while the board draws and zero with the gates off (R112,
R165). DESIGN CHOICE, log 9. -/
def State.senseNow (s : State) : Nat × State :=
  if s.entryDrives then
    let (w, s1) := s.free
    (w.toNat % 65536, s1)
  else (0, s)

/-- A voltage in 0.1 V that leaves no doubt: a feed that shows it is in the window, whichever way it came there (R173). -/
def feedStays (dv : Nat) : Bool := decide (440 ≤ dv ∧ dv ≤ 610)

/-- A voltage in 0.1 V that a good feed can show: between the falling undervoltage and the rising overvoltage threshold. Between the two
thresholds of one comparator (42 to 44 V, 61 to 62 V) the way the feed came there decides, which the command tells by its name (R173).
DEDUCED, log 83. -/
def feedEnters (dv : Nat) : Bool := decide (420 ≤ dv ∧ dv ≤ 620)

/-- A trip: gates off, counted, recorded, then WAIT or LATCHED (R167). A sixteenth trip in a row leaves the 4-bit count at 15. DESIGN
CHOICE, log 89. -/
def State.entryTrip (s : State) (cause uv : Nat) : State :=
  let before := s.get .pwe F.PWE_STATUS_CONSEC
  let after := min (before + 1) 15
  let s1 := (s.entryGatesOff.count .pwe F.PWE_CNT_TRIPS).put .pwe F.PWE_STATUS_CONSEC after
  let s2 := (s1.put .pwe F.PWE_STATUS_LAST_CAUSE cause).put .pwe F.PWE_LOAD_ISNS_UV (min uv 65535)
  let s3 := s2.raise .pwe evEntryTrip 0 (cause + after * 16 + min (uv / 10) 0xFFFF * 0x10000)
  if before < s.cfg .pwe F.PWE_TRIP_CFG_RETRIES then
    (s3.put .pwe F.PWE_STATUS_STATE 3).withEntry (fun e => { e with retryRun := true, debounced := false })
  else (s3.put .pwe F.PWE_STATUS_STATE 4).raise .pwe evEntryLatchOff 0 (after * 16)

/-- The `HS_ILIM` resistor fails its check: every gate off, ILIM_FAULT (R170), which a latched controller reports and does not
enter (R162, R171). DEDUCED, log 83. -/
def State.ilimFail (s : State) (opn short : Bool) : State :=
  let s1 := (s.entryGatesOff.setFlag .pwe F.PWE_CEIL_ILIM_OPEN opn).setFlag .pwe F.PWE_CEIL_ILIM_SHORT short
  let s2 := if s.entrySt == 4 then s1 else s1.put .pwe F.PWE_STATUS_STATE 5
  s2.raise .pwe evIlimFault 0 (bit opn + 2 * bit short)

/-- A failed check of the resistor already stands (R170). -/
def State.ilimBad (s : State) : Bool := s.flag .pwe F.PWE_CEIL_ILIM_OPEN || s.flag .pwe F.PWE_CEIL_ILIM_SHORT

/-- The ceiling sense voltage that a resistor sets, cut to whole µV (R168, R169). DESIGN CHOICE, log 89. -/
def ceilingUv (rOhm : Nat) : Nat :=
  if rOhm ≤ 10000 then 50000 else if rOhm ≤ 100000 then 500000000 / rOhm else 5000

/-- The entry domain in its reset state (R161). -/
def entryReset : Entry :=
  { powered := false, pins := 0, debounced := false, retryRun := false, timing := false, gap := none, startWhy := 0,
    hsGate := false, feedGateA := false, feedGateB := false, strapPref := false, lastCause := 0 }

/-! ### Commands -/

/-- ENTRY_RESET_RELEASE (R161, R168, R170). -/
def execEntryResetRelease (prefB : Bool) (rIlim : Nat) (s : State) : Host.Outcome State Fault Refusal :=
  .next (if s.entry.powered then s else
    let s1 := s.withEntry (fun e => { e with powered := true, strapPref := prefB })
    let s2 := (s1.put .pwe F.PWE_STATUS_STATE 0).put .pwe F.PWE_CEIL_CEIL_UV (ceilingUv rIlim)
    if rIlim < 5000 then s2.ilimFail false true else if 150000 < rIlim then s2.ilimFail true false else s2)

/-- ENTRY_RESET (R161): every register, counter and record of the entry domain is lost. -/
def execEntryReset (s : State) : Host.Outcome State Fault Refusal :=
  .next (((s.withEntry (fun _ => entryReset)).clearRegs 0x5000 0x6000).dropParity 0x5000 0x6000 |>.setFifo 5 emptyFifo)

/-- SEATED (R163): both pins count as mated and the debounce count starts. -/
def execSeated (s : State) : Host.Outcome State Fault Refusal :=
  .next (if s.entry.powered then
    (s.put .pwe F.PWE_STATUS_SEATED 1).withEntry (fun e => { e with pins := 3, debounced := false }) else s)

/-- SEATING_LOSS (R164, R178): not a trip. -/
def execSeatingLoss (pins : BitVec 2) (s : State) : Host.Outcome State Fault Refusal :=
  .next (if s.entry.powered && s.flag .pwe F.PWE_STATUS_SEATED && pins != 3 then
    let s1 := ((s.put .pwe F.PWE_STATUS_SEATED 0).withEntry (fun e => { e with pins := pins, debounced := false })).count
      .pwe F.PWE_CNT_SEAT_LOSS
    (if s.entryDrives then s1.toDebounce 2 else s1).raise .pwe evSeating 0 pins.toNat
  else s)

/-- SEAT_DB_END (R162): the debounce has been met. -/
def execSeatDbEnd (s : State) : Host.Outcome State Fault Refusal :=
  .next (if s.entry.powered && s.flag .pwe F.PWE_STATUS_SEATED && (s.feedIsGood .a || s.feedIsGood .b) &&
      (s.entrySt == 0 || s.entrySt == 3) then
    let s1 := s.raise .pwe evSeating 0 s.entry.pins.toNat false
    if s.entrySt == 3 && s.entry.retryRun then s1.withEntry (fun e => { e with debounced := true }) else s1.toRamp
  else s)

/-- RAMP_END (R165): V_DS has fallen to 1 V. -/
def execRampEnd (s : State) : Host.Outcome State Fault Refusal :=
  .next (if s.entry.powered && s.entrySt == 1 then
    (s.put .pwe F.PWE_STATUS_STATE 2).put .pwe F.PWE_STATUS_LIMITING 0 else s)

/-- ENTRY_FAST_TRIP (R167): at twice the limit in whole µV. DESIGN CHOICE, log 89. -/
def execEntryFastTrip (uv : Nat) (s : State) : Host.Outcome State Fault Refusal :=
  .next (if s.entry.powered && s.entryDrives && decide (2 * s.entryLimitUv ≤ uv) then s.entryTrip 1 uv else s)

/-- FAULT_TIME_END (R166, R179): a lowered `FAULT_TIME` is reached by a timer that counts down, too. -/
def execFaultTimeEnd (uv : Nat) (s : State) : Host.Outcome State Fault Refusal :=
  .next (if s.entry.powered && s.entryDrives && (s.flag .pwe F.PWE_STATUS_LIMITING || s.entry.timing) then s.entryTrip 2 uv else s)

/-- RAMP_MAX_END (R166). -/
def execRampMaxEnd (uv : Nat) (s : State) : Host.Outcome State Fault Refusal :=
  .next (if s.entry.powered && s.entrySt == 1 then s.entryTrip 3 uv else s)

/-- ENTRY_LIMIT (R166, R167): the controller starts or stops limiting. -/
def execEntryLimit (above : Bool) (uv : Nat) (s : State) : Host.Outcome State Fault Refusal :=
  .next (if s.entry.powered && s.entryDrives then
    ((s.setFlag .pwe F.PWE_STATUS_LIMITING above).put .pwe F.PWE_LOAD_ISNS_UV (min uv 65535)).withEntry
      (fun e => { e with timing := e.timing || above }) else s)

/-- ENTRY_RETRY_END (R162). -/
def execEntryRetryEnd (s : State) : Host.Outcome State Fault Refusal :=
  .next (if s.entry.powered && s.entrySt == 3 && s.entry.retryRun then
    if s.entry.debounced then s.toRamp else s.withEntry (fun e => { e with retryRun := false })
  else s)

/-- ENTRY_CONSEC_CLEAR (R167). -/
def execEntryConsecClear (s : State) : Host.Outcome State Fault Refusal :=
  .next (if s.entry.powered && s.entrySt == 2 && !s.flag .pwe F.PWE_STATUS_LIMITING then
    (s.put .pwe F.PWE_STATUS_CONSEC 0).withEntry (fun e => { e with timing := false }) else s)

/-- ILIM_CHECK (R169, R170). DEDUCED, log 83. -/
def execIlimCheck (rOhm : Nat) (s : State) : Host.Outcome State Fault Refusal :=
  .next (if s.entry.powered && !s.ilimBad then
    if rOhm < 5000 then s.ilimFail false true else if 150000 < rOhm then s.ilimFail true false else s
  else s)

/-- The voltage of a feed last recorded, in 0.1 V. -/
def State.feedTenths (s : State) : Feed → Nat
  | .a => s.get .pwe F.PWE_FEED_FEEDA_V
  | .b => s.get .pwe F.PWE_FEED_FEEDB_V

/-- The measured voltage and goodness of a feed recorded. -/
def State.setFeed (s : State) (fd : Feed) (good : Bool) (dv : Nat) : State :=
  match fd with
  | .a => (s.setFlag .pwe F.PWE_FEED_A_GOOD good).put .pwe F.PWE_FEED_FEEDA_V (min dv 1023)
  | .b => (s.setFlag .pwe F.PWE_FEED_B_GOOD good).put .pwe F.PWE_FEED_FEEDB_V (min dv 1023)

/-- FEED_LOSS (R162, R173, R175): the target of a gap that is lost leaves the gap to the other feed while that one is good. `FEED_SEL` reads
none in a gap, and a ramp that has lost its feed is followed by `START_CAUSE` 3. DEDUCED, log 83. DESIGN CHOICE, log 89. -/
def execFeedLoss (fd : Feed) (count : Nat) (s : State) : Host.Outcome State Fault Refusal :=
  .next (if s.entry.powered && s.feedIsGood fd && !feedStays count then
    let o := otherFeed fd
    let sel := s.get .pwe F.PWE_STATUS_FEED_SEL == feedCode fd
    let toIt := match s.entry.gap with
      | some (g, _) => decide (g = fd)
      | none => false
    let s1 := s.setFeed fd false count
    let s2 := s1.raise .pwe evFeedLoss 0
      (feedCode fd - 1 + 2 * bit sel + 4 * bit (s.feedIsGood o) + min count 1023 * 16)
    if s.entrySt == 2 && (sel || toIt) && s.feedIsGood o then
      ((s2.setFeedGate fd false).put .pwe F.PWE_STATUS_FEED_SEL 0).withEntry (fun e => { e with gap := some (o, false) })
    else if s.entrySt == 1 && sel || s.entrySt == 2 && !s.feedIsGood o then s2.toDebounce 3
    else if s.feedIsGood o then s2 else s2.withEntry (fun e => { e with debounced := false })
  else s)

/-- The break-before-make gap in µs (R179). -/
def State.bbmGap (s : State) : Nat := clampTo 1 50 (s.cfg .pwe F.PWE_FEED_CFG_BBM_GAP)

/-- FEED_SWITCH (R175, R176). -/
def execFeedSwitch (s : State) : Host.Outcome State Fault Refusal :=
  .next (match s.entry.gap with
    | none => s
    | some (fd, ret) =>
      if s.entry.powered && s.entrySt == 2 && s.feedIsGood fd then
        let s1 := ((s.setFeedGate fd true).put .pwe F.PWE_STATUS_FEED_SEL (feedCode fd)).withEntry
          (fun e => { e with gap := none })
        (s1.count .pwe F.PWE_CNT_SWITCHES).raise .pwe evFeedSwitch 0 (feedCode fd - 1 + 2 * bit ret + s.bbmGap * 256)
      else s)

/-- FEED_GOOD (R173). -/
def execFeedGood (fd : Feed) (count : Nat) (s : State) : Host.Outcome State Fault Refusal :=
  .next (if s.entry.powered && !s.feedIsGood fd && feedEnters count then s.setFeed fd true count else s)

/-- FEED_RETURN (R176): the selected feed's gate goes off and the gap toward the preferred feed begins. -/
def execFeedReturn (s : State) : Host.Outcome State Fault Refusal :=
  let p := s.prefFeed
  .next (if s.entry.powered && s.entrySt == 2 && s.cfgFlag .pwe F.PWE_FEED_CFG_RETURN_EN && s.feedIsGood p &&
      s.get .pwe F.PWE_STATUS_FEED_SEL == feedCode (otherFeed p) then
    ((s.setFeedGate (otherFeed p) false).put .pwe F.PWE_STATUS_FEED_SEL 0).withEntry (fun e => { e with gap := some (p, true) })
  else s)

/-- ENTRY_SCRUB (R180): with the core unpowered, upsets of PWE registers, and the visit to one of them. DESIGN CHOICE, log 26. -/
def execEntryScrub (ups : List (Nat × Word)) (addr : Nat) (s : State) : Host.Outcome State Fault Refusal :=
  let own (a : Nat) : Bool := decide (0x5000 ≤ a ∧ a < 0x6000)
  .next (if s.entry.powered && s.coreHeld then
    let s1 := (ups.filter (fun u => own u.1)).foldl (fun s u => s.upset u.1 u.2) s
    if own addr then (s1.findParity addr).2 else s1
  else s)

/-- A PWE_ILIM value in force compared with the present current (R179): below half trips FAST, below it starts limiting. -/
def State.ilimWritten (s : State) : State :=
  let (uv, s0) := s.senseNow
  let s1 := s0.put .pwe F.PWE_LOAD_ISNS_UV uv
  if s.entryDrives && decide (2 * s.entryLimitUv < uv) then s1.entryTrip 1 uv
  else if s.entryDrives && decide (s.entryLimitUv < uv) then
    (s1.put .pwe F.PWE_STATUS_LIMITING 1).withEntry (fun e => { e with timing := true })
  else s1

end Sys2Proof.Machine
end

