-- ==== Sys2Proof/Machine/Tt.lean ====
section
/-! DEFINITION. Transaction translators (R279–R283, R289, R295): start-splits, complete-splits, the transactions on a port's
full-speed or low-speed bus, and the TT requests. -/

namespace Sys2Proof.Machine

/-- The code of a transfer type in TT_ERROR (R295). -/
def xferCode : XferType → Nat
  | .control => 0
  | .iso => 1
  | .bulk => 2
  | .interrupt => 3

/-- A transfer type that runs in the periodic pipeline. -/
def periodic : XferType → Bool
  | .iso | .interrupt => true
  | .control | .bulk => false

/-- TT_ERROR of a kind for a split of a port (R282, R295). -/
def State.ttError (s : State) (p : Port) (kind : Nat) (sp : Split) : State :=
  s.raisePort (.u2p p) p evTtError
    (kind + 16 * sp.dev.toNat + 2048 * sp.ep.toNat + 32768 * bit sp.inDir + 65536 * xferCode sp.ty)

/-- A split answered with an error counts in `TT_ERR` and raises TT_ERROR. -/
def State.ttFail (s : State) (p : Port) (kind : Nat) (sp : Split) : State :=
  (s.countErr (.u2p p) p F.U2P_CNT_TT_ERR).ttError p kind sp

/-- An entry of a TT is the one a complete-split of a port names. -/
def TtEntry.is (e : TtEntry) (p : Port) (sp : Split) : Bool :=
  e.port == p && e.split.dev == sp.dev && e.split.ep == sp.ep && e.split.ty == sp.ty && e.split.inDir == sp.inDir

/-- Bytes the OUT entries of the periodic pipeline hold. -/
def U2pSt.outBytes (u : U2pSt) : Nat :=
  u.periodic.foldl (fun n e => if e.split.inDir || e.dropped then n else n + e.split.data.length) 0

/-- Bytes the results of the periodic IN entries hold. -/
def U2pSt.inBytes (u : U2pSt) : Nat :=
  u.periodic.foldl (fun n e => match e.result with
    | some (.data _ _ bs) => n + bs.length
    | _ => n) 0

/-- The lowest free non-periodic buffer (R279, R281). -/
def U2pSt.freeBuf (u : U2pSt) : Option (Fin 4) := [0, 1, 2, 3].find? (fun b : Fin 4 => !u.nonper.any (fun e => e.1 == b))

/-- The port serves splits: owned by the context and enabled at full or low speed. -/
def State.splitPort (s : State) (p : Port) (own : Bool) : Bool :=
  own && s.u2St p == 5 && decide (s.get (.u2p p) F.U2P_STATUS_SPEED < 3)

/-- A start-split taken at the TT of a port (R279–R281, R289). DEDUCED, log 63. -/
def State.startSplit (s : State) (p : Port) (own : Bool) (sp : Split) : State :=
  let t := s.ttPort p
  let u := s.u2p t
  let stopped := s.flag (.u2p t) F.U2P_TT_STATUS_STOPPED
  let e : TtEntry := ⟨p, sp, false, none, false⟩
  let counted := s.countU2 (plateOf p) (if sp.inDir then 0 else sp.data.length)
  if periodic sp.ty then
    if stopped || !s.splitPort p own || 32 ≤ (u.periodic.filter (fun e => !e.dropped)).length ||
        (!sp.inDir && 1536 < u.outBytes + sp.data.length) then s.reply .silent
    else ((counted.u2pWith t (fun u => { u with periodic := u.periodic ++ [e] })).ttSync t).reply .silent
  else if stopped || !s.splitPort p own then s.reply .nak
  else match u.freeBuf with
    | none => s.reply .nak
    | some b => ((counted.u2pWith t (fun u => { u with nonper := u.nonper ++ [(b, e)] })).ttSync t).reply .ack

/-- A split reaches a TT only through a high-speed context (R269, R270). -/
def State.splitAt (s : State) (hc : HubCtx) (n : Nat) (dev : Port → Bool → State) : State :=
  if (s.hub hc).speed != 2 || n = 0 || s.hubPorts hc < n then s.reply .silent
  else s.portRequest hc n dev (s.reply .silent)

/-- START_SPLIT. -/
def execStartSplit (hc : HubCtx) (n : Nat) (sp : Split) (s : State) : Host.Outcome State Fault Refusal :=
  .next (s.splitAt hc n (fun p own => s.startSplit p own sp))

/-- The answer of a result (R282): none where the device gave no answer or a damaged packet. -/
def resultAnswer : TtResult → Option Answer
  | .ack => some .ack
  | .nak => some .nak
  | .stall => some .stall
  | .data d1 more bs => some (.data (if more then 2 else if d1 then 1 else 0) bs)
  | .bad => none

/-- Payload bytes a result carries upstream. -/
def resultBytes : TtResult → Nat
  | .data _ _ bs => bs.length
  | _ => 0

/-- More data of the transaction follows. -/
def resultMore : TtResult → Bool
  | .data _ more _ => more
  | _ => false

/-- A list whose first element that satisfies a test is replaced or removed. -/
def changeFirst {α : Type} (q : α → Bool) (f : α → Option α) : List α → List α
  | [] => []
  | a :: t => if q a then (match f a with
      | none => t
      | some b => b :: t) else a :: changeFirst q f t

/-- The entry a complete-split names is taken out, or left for the rest of its data. -/
def State.takeEntry (s : State) (t : Port) (per : Bool) (q : TtEntry → Bool) (more : Bool) : State :=
  let keep (e : TtEntry) : Option TtEntry := if more then some { e with result := none } else none
  (s.u2pWith t (fun u =>
    if per then { u with periodic := changeFirst q keep u.periodic }
    else { u with nonper := changeFirst (fun x => q x.2) (fun x => (keep x.2).map (fun e => (x.1, e))) u.nonper })).ttSync t

/-- A complete-split answered from a TT (R282). DEDUCED, log 63. -/
def State.completeSplit (s : State) (p : Port) (own : Bool) (sp : Split) : State :=
  let t := s.ttPort p
  let u := s.u2p t
  let per := periodic sp.ty
  let q := fun e : TtEntry => own && e.is p sp
  let found := if per then u.periodic.find? q else (u.nonper.find? (fun x => q x.2)).map (·.2)
  match found with
  | none => (s.ttFail p 2 sp).reply (if per then .nyet else .stall)
  | some e =>
    if e.dropped then ((s.takeEntry t per q false).ttFail p 1 sp).reply .err else
    match e.result with
    | none => s.reply .nyet
    | some r =>
      match resultAnswer r with
      | some a => ((s.takeEntry t per q (resultMore r)).countU2 (plateOf p) (resultBytes r)).reply a
      | none => ((s.takeEntry t per q false).ttFail p 1 sp).reply (if per then .err else .silent)

/-- COMPLETE_SPLIT. -/
def execCompleteSplit (hc : HubCtx) (n : Nat) (sp : Split) (s : State) : Host.Outcome State Fault Refusal :=
  .next (s.splitAt hc n (fun p own => s.completeSplit p own sp))

/-- An entry that waits for its transaction; under `StopTT` only the one on the bus (R289). -/
def ttWaits (stopped : Bool) (e : TtEntry) : Bool := e.result.isNone && !e.dropped && (!stopped || e.begun)

/-- The transaction on the bus of a TT ends with a result: the first of its pipeline in order of arrival (R280, R281). An isochronous
OUT keeps no result. DEDUCED, log 63. -/
def State.ttEnd (s : State) (t : Port) (per : Bool) (r : TtResult) : State :=
  let q := ttWaits (s.flag (.u2p t) F.U2P_TT_STATUS_STOPPED)
  let fin (e : TtEntry) : Option TtEntry :=
    if e.split.ty = .iso ∧ !e.split.inDir then none else some { e with begun := true, result := some r }
  (s.u2pWith t (fun u => if per then { u with periodic := changeFirst q fin u.periodic }
    else { u with nonper := changeFirst (fun x => q x.2) (fun x => some (x.1, { x.2 with begun := true, result := some r })) u.nonper })).ttSync t

/-- The result a transaction leaves: a periodic IN result for which the pipeline has no room counts as damaged (R279). DEDUCED,
log 63. -/
def State.ttResult (s : State) (t : Port) (fin : TtDone) : TtResult :=
  match (s.u2p t).periodic.find? (ttWaits (s.flag (.u2p t) F.U2P_TT_STATUS_STOPPED)) with
  | none => fin.res
  | some e => if fin.per ∧ e.split.inDir ∧ 1536 < (s.u2p t).inBytes + resultBytes fin.res then .bad else fin.res

/-- TT_TRANSACTION_END. -/
def execTtTransactionEnd (p : Port) (fin : TtDone) (s : State) : Host.Outcome State Fault Refusal :=
  let t := s.ttPort p
  .next (s.ttEnd t fin.per (s.ttResult t fin))

/-- The oldest periodic entry without a result is on the bus (R280). -/
def State.ttBegin (s : State) (t : Port) : State :=
  s.u2pWith t (fun u => { u with periodic := changeFirst (ttWaits false) (fun e => some { e with begun := true }) u.periodic })

/-- TT_STALE. DEDUCED, log 63. -/
def execTtStale (at_ : TtAt) (s0 : State) : Host.Outcome State Fault Refusal :=
  let t := s0.ttPort at_.port
  let s := if at_.onBus then s0.ttBegin t else s0
  let q (e : TtEntry) : Bool := e.result.isNone && !e.dropped && !e.begun
  match (s.u2p t).periodic.find? q with
  | none => .next s
  | some e =>
    let drop (e : TtEntry) : Option TtEntry := if e.split.ty = .iso ∧ !e.split.inDir then none else some { e with dropped := true }
    let s1 := (s.u2pWith t (fun u => { u with periodic := changeFirst q drop u.periodic })).ttSync t
    .next ((s1.countErr (.u2p e.port) e.port F.U2P_CNT_TT_STALE).ttError e.port 0 e.split)

/-- TT_RESULT_EXPIRE. -/
def execTtResultExpire (p : Port) (s : State) : Host.Outcome State Fault Refusal :=
  let t := s.ttPort p
  .next ((s.u2pWith t (fun u =>
    { u with periodic := changeFirst (fun e : TtEntry => e.result.isSome || e.dropped) (fun _ => none) u.periodic })).ttSync t)

/-- CLEAR_TT_BUFFER. -/
def execClearTtBuffer (hc : HubCtx) (n : Nat) (dev : BitVec 7) (ep : BitVec 4) (ty : XferType) (inDir : Bool) (s : State) :
    Host.Outcome State Fault Refusal :=
  .next (s.portAct hc n
    (fun s p own =>
      let t := s.ttPort p
      let hit (e : TtEntry) : Bool := own && e.split.dev == dev && e.split.ep == ep && e.split.ty == ty && e.split.inDir == inDir
      ((s.u2pWith t (fun u => { u with nonper := u.nonper.filter (fun x => !hit x.2) })).ttSync t).reply .ack)
    (s.reply .ack))

/-- RESET_TT. -/
def execResetTt (hc : HubCtx) (n : Nat) (s : State) : Host.Outcome State Fault Refusal :=
  .next (s.portAct hc n (fun s p own => (if own then s.ttReset (s.ttPort p) else s).reply .ack) (s.reply .ack))

/-- STOP_TT: the transaction on the bus, if any, is the first that waits. DEDUCED, log 63. -/
def execStopTt (hc : HubCtx) (n : Nat) (s : State) : Host.Outcome State Fault Refusal :=
  .next (s.portAct hc n
    (fun s p own =>
      let t := s.ttPort p
      let u := s.u2p t
      let q := ttWaits false
      let s1 := if u.periodic.any q then
          s.u2pWith t (fun u => { u with periodic := changeFirst q (fun e => some { e with begun := true }) u.periodic })
        else s.u2pWith t (fun u =>
          { u with nonper := changeFirst (fun x => q x.2) (fun x => some (x.1, { x.2 with begun := true })) u.nonper })
      (if own then s1.put (.u2p t) F.U2P_TT_STATUS_STOPPED 1 else s).reply .ack)
    (s.reply .ack))

end Sys2Proof.Machine
end

