-- ==== Sys2Proof/Machine/RegRead.lean ====
section
/-! DEFINITION. What a register reads as (R50, R52, R56): the stored word, the bits that follow other state, and the reads that have an
effect. -/

namespace Sys2Proof.Machine

/-! ### The page header -/

/-- `PAGE_STATUS.READY` (R51, R52). -/
def State.pageReady (s : State) (pg : PageId) : Bool :=
  s.clockOn pg && !s.domainInRst pg && match pg with
    | .bgt | .cpt | .prs | .mgf | .epm | .cfg => s.loaded
    | .ssh k => (s.get .glb F.GLB_READY_PLATE_CAL).testBit k.val
    | .ssp f => (s.get .glb F.GLB_READY_PLATE_CAL).testBit (fullPlate f).val
    | .ups _ => if s.compat then s.loaded else s.flag .glb F.GLB_READY_UP_CAL
    | .grv => s.loaded
    | .drc => s.drcSt == 4
    | _ => true

/-- The unit of work that a page had in progress has ended (R52). DEDUCED, log 30. -/
def State.pageIdle (s : State) (pg : PageId) : Bool :=
  match pg with
  | .con p => (s.con p).sending.isNone
  | .mgf => (s.mgf 0).exec.isNone && (s.mgf 1).exec.isNone
  | .drc => (s.dram.win[(0 : Fin 2)]).isNone && (s.dram.win[(1 : Fin 2)]).isNone
  | .prs => !allPorts.any (fun p => s.moving p && s.moveBegun.getLsbD p.val)
  | _ => true

/-- `PAGE_STATUS`: `READY` and `DISABLED` follow the block. -/
def State.pageStatus (s : State) (pg : PageId) : Word :=
  let w := fldSet F.PAGE_STATUS_READY (s.rd (pg.base + 8)) (bit (s.pageReady pg))
  fldSet F.PAGE_STATUS_DISABLED w (bit (!s.pageOn pg && s.pageIdle pg))

/-- `LIVE` (R50, R79). -/
def State.liveWord (s : State) (pg : PageId) : Word :=
  BitVec.ofNat 32 (bit (s.clockOn pg) + 2 * bit (!s.domainInRst pg) + 4 * bit (s.pageReady pg))

/-- `INT_STATUS` with `FAULT_SUM` (R50). -/
def State.intWord (s : State) (pg : PageId) : Word :=
  fldSet (F.INT_STATUS 31) (s.rd (pg.base + 0xC)) (bit (s.rd (pg.base + 0x14) != 0))

/-! ### Block registers that follow other state -/

/-- A word with a number of fields set. -/
def packWord (w : Word) (fs : List (Fld × Nat)) : Word := fs.foldl (fun w f => fldSet f.1 w f.2) w

/-- `GLB_SEM_HELD` (R91). -/
def State.semHeldWord (s : State) : Word :=
  BitVec.ofNat 32 ((List.range 32).foldl (fun n i => n + s.get .glb (F.GLB_SEMn_OWNER_HELD i) * 2 ^ i) 0)

/-- `EVQ_STATUSn` (R129). -/
def State.evqStatus (s : State) (n : QueueIx) : Word :=
  let q := s.queue n
  packWord 0 [(F.EVQ_STATUSn_NONEMPTY n.val, q.levelBits (fun l => !l.recs.isEmpty)),
    (F.EVQ_STATUSn_LOSING n.val, q.levelBits (fun l => l.lost != 0)), (F.EVQ_STATUSn_DEPTH n.val, q.depth)]

/-- `U2H_CTXc_STATUS` (R293). -/
def State.hubStatus (s : State) (k : Plate) (c : Fin 2) : Word :=
  let h := s.hub (.plate k c)
  let st := if !s.ctxActive (.plate k c) then 0 else if h.suspended then 4 else h.st.val
  packWord 0 [(F.U2H_CTX_STATUS_ADDRESS c.val, h.address.toNat), (F.U2H_CTX_STATUS_SPEED c.val, h.speed.val),
    (F.U2H_CTX_STATUS_STATE c.val, st), (F.U2H_CTX_STATUS_REMOTE_WAKE c.val, bit h.remoteWake),
    (F.U2H_CTX_STATUS_MULTI_TT c.val, bit h.multiTt)]

/-- `U2P_PORTSC` in the owner's view (R294). -/
def State.portScWord (s : State) (p : Port) : Word :=
  match s.ownerCtx p with
  | none => 0
  | some hc => packWord 0 [(F.U2P_PORTSC_PORT_STATUS, (s.portView hc p).1), (F.U2P_PORTSC_PORT_CHANGE, (s.portView hc p).2)]

/-- `SSH_CTXc_STATUS` (R320). -/
def State.ssHubStatus (s : State) (k : Plate) (c : Fin 2) : Word :=
  let h := s.ssHub (.plate k c)
  packWord 0 [(F.SSH_CTX_STATUS_ADDRESS c.val, h.address.toNat),
    (F.SSH_CTX_STATUS_DEPTH c.val, match h.depth with
      | none => 0
      | some d => d.val),
    (F.SSH_CTX_STATUS_DEPTH_SET c.val, bit h.depth.isSome), (F.SSH_CTX_STATUS_STATE c.val, if h.suspended then 3 else h.st.val),
    (F.SSH_CTX_STATUS_U1_EN c.val, bit h.u1En), (F.SSH_CTX_STATUS_U2_EN c.val, bit h.u2En),
    (F.SSH_CTX_STATUS_PORT_POWER c.val, h.power.toNat)]

/-- The fill of a queue in 1/256 of its 32 KiB (R320). -/
def queueFill (q : List SsPacket) : Nat := min (queueBytes q / 128) 255

/-- `SSH_QUEUE`: the fullest of the queues that serve a plate, in each direction. DEDUCED, log 30. -/
def State.sshQueueWord (s : State) (k : Plate) : Word :=
  let most (qs : List SsQueue) : Nat := qs.foldl (fun n q => max n (queueFill (s.ssq q))) 0
  packWord 0 [(F.SSH_QUEUE_DOWN_MAX, most ([.rootDown 0 k, .rootDown 1 k] ++ (plateFulls k).map .portDown)),
    (F.SSH_QUEUE_UP_MAX, most ([.rootUp 0 k, .rootUp 1 k] ++ (plateFulls k).map .portUp))]

/-- `PRS_Uu_STATUS` (R345). DEDUCED, log 30. -/
def State.presStatus (s : State) (u : Up) : Word :=
  let h := s.hub (.pres u)
  let l := s.upState u
  let ss := s.presAttached u && (l ≤ 3 || l == lkRecovery)
  packWord (s.rd (PageId.base .prs + 0x4C + 4 * u.val))
    [(F.PRS_Uu_STATUS_LIVE u.val, bit (s.isLive u)), (F.PRS_Uu_STATUS_HELD u.val, bit (s.isLive u && !s.framesLive u)),
     (F.PRS_Uu_STATUS_CONFIGURED u.val, bit (h.st == 3)), (F.PRS_Uu_STATUS_U2_SPEED u.val, if s.presAttached u then h.speed.val else 0),
     (F.PRS_Uu_STATUS_SS_GEN u.val, if ss then 1 + s.get (.ups u) F.UPS_LINK_STATUS_GEN2 else 0),
     (F.PRS_Uu_STATUS_SS_X2 u.val, if ss then s.get (.ups u) F.UPS_LINK_STATUS_X2 else 0),
     (F.PRS_Uu_STATUS_DESC_DEFAULT u.val, bit (s.descRec u 0x01 0).isNone),
     (F.PRS_Uu_STATUS_FAILED u.val, bit (allPorts.any (fun p =>
       s.flag .prs (F.PRS_OWNERn_FAILED_OVER p.val) && s.get .prs (F.PRS_OWNERn_HOME p.val) == u.val + 1))),
     (F.PRS_Uu_STATUS_OWNED u.val, (allPorts.filter (fun p => s.curOwner p == u.val + 1)).length)]

/-- `PRS_MOVING_LO`, `_HI` (R345). -/
def State.movingWord (s : State) (hi : Nat) : Word :=
  BitVec.ofNat 32 ((List.range 32).foldl (fun n i => n + s.get .prs (F.PRS_OWNERn_MOVING (32 * hi + i)) * 2 ^ i) 0)

/-- `GRV_STATUS` (R406). -/
def State.grvStatus (s : State) : Word :=
  packWord 0 [(F.GRV_STATUS_CHAINS, s.chains.length), (F.GRV_STATUS_GROUPS, (s.graver.jobs.filter (fun j => j.group == 3)).length),
    (F.GRV_STATUS_NO_DRAM, bit s.noDram), (F.GRV_STATUS_THROTTLED, bit (s.get .hlt F.HLT_STATUS_LEVEL != 0))]

/-- `GRV_Rr_STATUS` (R382, R406). -/
def State.ringStatus (s : State) (r : RingIx) : Word :=
  let active := ((s.graver.jobs.filter (fun j => j.ring == r)).map (·.chain)).eraseDups.length
  packWord 0 [(F.GRV_Rr_STATUS_CR_FULL r.val, bit (s.crFull r)), (F.GRV_Rr_STATUS_ACTIVE r.val, min active 255)]

/-- `LHE_STATUS.STATE` (R408). -/
def State.lheState (s : State) (p : Port) : Nat :=
  match s.running p with
  | some j =>
    if (j.part p).any (·.solo) then 4 else if j.group == 3 then 3 else 2
  | none => bit (s.graver.jobs.any (fun j => j.queued && j.live p))

/-- `LHE_STATUS` (R408): no speed is shown with no device. -/
def State.lheStatus (s : State) (p : Port) : Word :=
  packWord (s.rd ((PageId.lhe p).base + 0x44)) [(F.LHE_STATUS_STATE, s.lheState p), (F.LHE_STATUS_CAP_SBU, bit (s.capRuns p false)),
    (F.LHE_STATUS_CAP_CDC, bit (s.capRuns p true)),
    (F.LHE_STATUS_SPEED, if s.devThere p then s.get (.lhe p) F.LHE_STATUS_SPEED else 0)]

/-- The index of an array register at an offset: `start + i * stride` for some `i < n`. -/
def arrayIx (off start stride n : Nat) : Option (Fin n) :=
  if h : start ≤ off ∧ (off - start) % stride = 0 ∧ (off - start) / stride < n then some ⟨(off - start) / stride, h.2.2⟩ else none

/-- A peek latch of an empty queue, which reads 0 (R125). -/
def State.peekEmpty (s : State) (off : Nat) : Bool :=
  [0x54, 0x58, 0x5C].any (fun o => match arrayIx off o 0x40 4 with
    | some n => (s.queue n).depth == 0
    | none => false)

/-- The word that a block register reads as, without the effect of the read. -/
def State.blockWord (s : State) (pg : PageId) (off : Nat) : Word :=
  let w := s.rd (pg.base + off)
  match pg with
  | .glb =>
    if off = 0x48 then BitVec.ofNat 32 s.now.toNat
    else if off = 0x4C then BitVec.ofNat 32 (s.now.toNat / 2 ^ 32)
    else if off = 0x308 then s.semHeldWord else w
  | .clk =>
    if off = 0x44 ∧ s.compat then fldSet F.CLK_GATE_FCLK_PLATE_RUN w 0
    else if off = 0x5C then fldSet F.CLK_RESET_STATUS_LAST_CORE_CAUSE w s.entry.lastCause.val else w
  | .evq =>
    match arrayIx off 0x68 0x40 4 with
    | some n => s.evqStatus n
    | none => if s.peekEmpty off then 0 else w
  | .cfg => if off = 0x50 then BitVec.ofNat 32 s.wear[(0 : Fin 2)] else if off = 0x54 then BitVec.ofNat 32 s.wear[(1 : Fin 2)] else w
  | .pwe => if off = 0x60 then fldSet F.PWE_STATUS_PREF_EFF w (bit (s.prefFeed == .b)) else w
  | .bgt => if off = 0x48 then fldSet F.BGT_POOL_STATUS_REVOKING w (bit s.revoking) else w
  | .cpt => if off = 0x44 then fldSet F.CPT_STATUS_COMPAT w (bit s.compat) else w
  | .u2h k => if off = 0x48 then s.hubStatus k 0 else if off = 0x4C then s.hubStatus k 1 else w
  | .ssh k =>
    if off = 0x44 then s.ssHubStatus k 0 else if off = 0x48 then s.ssHubStatus k 1
    else if off = 0x50 then s.sshQueueWord k else w
  | .prs =>
    if off = 0x4C then s.presStatus 0 else if off = 0x50 then s.presStatus 1
    else if off = 0x54 then s.movingWord 0 else if off = 0x58 then s.movingWord 1 else w
  | .grv =>
    if off = 0x44 then s.grvStatus else
    match arrayIx off 0x128 0x40 4 with
    | some r => s.ringStatus r
    | none => w
  | .drc => if off = 0x54 then fldSet F.DRC_STATUS_RANKS2 w (bit s.ranks2) else w
  | .u2p p =>
    if off = 0x44 then fldSet F.U2P_STATUS_OVER_CURRENT w (bit (s.overCurrent p))
    else if off = 0x48 then s.portScWord p else w
  | .con p => if off = 0x48 then fldSet F.CON_STATUS_CAPTURED w (bit (s.capRuns p false)) else w
  | .lhe p => if off = 0x44 then s.lheStatus p else w
  | _ => w

/-- The registers that read one value in every state: `PAGE_ID` (R50), `PAGE_CTRL` where neither of its fields is stored (R51) and
`GLB_ID` (R1). -/
def fixedRead (pg : PageId) (off : Nat) : Bool := off == 0 || (off == 4 && fixedCtrl pg) || (pg == .glb && off == 0x40)

/-- The word that a register of a page with a header reads as, without the effect of the read; reserved offsets read zero (R72). -/
def State.view (s : State) (pg : PageId) (off : Nat) : Word :=
  if fixedRead pg off then resetWord (pg.base + off)
  else if off = 8 then s.pageStatus pg else if off = 0xC then s.intWord pg else if off = 0x1C then s.liveWord pg
  else if off < 0x40 then s.rd (pg.base + off) else s.blockWord pg off

/-! ### Reads with an effect -/

/-- A read of `GLB_SEMn_CLAIM` by an identity; a host agent without write grant takes nothing (R92). -/
def State.semClaimBy (s : State) (n : Sem) (i : Ident) (barred : Bool) : Word × State :=
  if barred then (0, s)
  else if s.flag .glb (F.GLB_SEMn_OWNER_HELD n.val) then ((if s.semHeldBy n i then 1 else 0), s)
  else (1, ((s.put .glb (F.GLB_SEMn_OWNER_HELD n.val) 1).put .glb (F.GLB_SEMn_OWNER_OWNER_ID n.val) i.owner.val).put
    .glb (F.GLB_SEMn_OWNER_ORIGIN n.val) i.origin.val)

/-- The record that a pop of a queue takes, if there is one: one on its way to a waiting pop, else the head record (R123, R126).
DEDUCED, log 20. -/
def State.popNow (s : State) (n : QueueIx) : Option (Word × State) :=
  match (s.queue n).handoff with
  | some r => some (r.w0, (s.setQueue n { s.queue n with handoff := none }).latchWords n false (some r))
  | none =>
    match s.popRecord n with
    | none => none
    | some (r, s1) => some (r.w0, s1.latchWords n false (some r))

/-- A read of `EVQ_PEEKn` (R125). -/
def State.peekNow (s : State) (n : QueueIx) : Word × State :=
  let r := s.peekRecord n
  ((match r with
    | none => 0
    | some r => r.w0), s.latchWords n true r)

/-- A read of `EPM_WIN_DATA` (R372, R373). DESIGN CHOICE, log 29. -/
def State.epmWinRead (s : State) : Word × State :=
  if s.badFound .epm 0x48 then (0, s) else
  let a := 4 * s.get .epm F.EPM_WIN_PTR_PTR
  let w := if a < 0x12000 then BitVec.ofNat 32 (leNat (s.epmGet a 4) 0 4) else 0
  if 0x12000 ≤ a ∨ !(decide (0x8280 ≤ a % 0x9000)) then
    (w, s.putRw .epm F.EPM_WIN_PTR_PTR (if a = 0x11FFC then 0 else a / 4 + 1))
  else
    let (v, s1) := s.free
    (v, s1.putRw .epm F.EPM_WIN_PTR_PTR (if a = 0x11FFC then 0 else a / 4 + 1))

/-- The queue whose `EVQ_POPn` lies at an offset of the EVQ page. -/
def popQueue (off : Nat) : Option QueueIx := arrayIx off 0x40 0x40 4

/-- `PWE_FEED`: the feeds' present voltages are measurements, free within the window of R173 for a feed that is good. DESIGN CHOICE, log 29. -/
def State.feedNow (s : State) : Word × State :=
  let volts (good : Bool) (w : Word) : Nat := if good then 420 + w.toNat % 201 else w.toNat % 1024
  let (a, s1) := s.free
  let (b, s2) := s1.free
  (fldSet F.PWE_FEED_FEEDB_V (fldSet F.PWE_FEED_FEEDA_V (s2.view .pwe 0x64) (volts (s.feedIsGood .a) a)) (volts (s.feedIsGood .b) b), s2)

/-- A read of a block register with its effect (R92, R125, R148, R230, R372, R378, R179); a pop is not among them.
DESIGN CHOICE, log 29. -/
def State.readBlock (s : State) (i : Ident) (barred : Bool) (pg : PageId) (off : Nat) : Word × State :=
  match pg with
  | .glb =>
    match arrayIx off 0x100 16 32 with
    | some n => s.semClaimBy n i barred
    | none => (s.view pg off, s)
  | .evq =>
    match arrayIx off 0x50 0x40 4 with
    | some n => s.peekNow n
    | none => (s.view pg off, s)
  | .cfg => if off = 0x68 then s.stageRead else (s.view pg off, s)
  | .pwe =>
    if off = 0x64 then s.feedNow
    else if off = 0x68 then
      let (v, s1) := s.free
      let (uv, s2) := s1.senseNow
      (fldSet F.PWE_LOAD_ISNS_UV (fldSet F.PWE_LOAD_VOUT (s2.view pg off) v.toNat) uv, s2)
    else (s.view pg off, s)
  | .con p => if off = 0x4C then s.conPop p else (s.view pg off, s)
  | .epm => if off = 0x4C then s.epmWinRead else (s.view pg off, s)
  | .grv => if off = 0x54 then s.bufRead else (s.view pg off, s)
  | .win x =>
    if off < 0x400 then
      let (b, s1) := s.winRead x (off / 4)
      (b.setWidth 32, s1)
    else (0, s)
  | _ => (s.view pg off, s)

end Sys2Proof.Machine
end

