-- ==== Sys2Proof/Machine/Live.lean ====
section
/-! DEFINITION. What a register write does beyond storing (R52, R58–R60, R70): the consequence of each field that a write
changes and of each command bit, by page, and the safe actions that start when a register comes to mismatch. Each hook
compares the state `s0` before the store with the state `s` after it. -/

namespace Sys2Proof.Machine

/-- A field in force differs between two states (R59). -/
def State.moved (s0 s : State) (pg : PageId) (f : Fld) : Bool := s0.cfg pg f != s.cfg pg f

/-! ### The page header (R52) -/

/-- The upstream link leaves for SS.Disabled, and returns to Rx.Detect where it may run. DEDUCED, log 31. -/
def State.upRestart (s : State) (u : Up) : State :=
  let s1 := if s.upState u = lkDisabled then s else s.upGone u 2
  if s1.upMayRun u then s1.setUpState u lkRxDetect else s1

/-- A VBUS port opens with a cause and asks for no leave. -/
def State.vbsHold (s : State) (p : Port) (cause : Nat) : State :=
  (((s.endReserve p).vbsOpen p cause).put (.tcp p) F.TCP_CC_STATUS_LEAVE_WAIT 0).powerFails p

/-- `PAGE_CTRL.EN` has come to act as 0 (R52). -/
def State.pageOffNow (s : State) (pg : PageId) : State :=
  match pg with
  | .ups u => if s.upState u = lkDisabled then s else s.upGone u 2
  | .grv => s.grvStop
  | .tcp p => s.ccDisable p 3 8 1
  | .vbs p => s.vbsHold p 1
  | .u2p p => s.u2Bar p
  | .ssp f => s.ssEvalAs f 2
  | .lhe p => s.lheStop p cStopped
  | _ => s

/-- `PAGE_CTRL.EN` has come to act as 1 again (R52). -/
def State.pageOnNow (s : State) (pg : PageId) : State :=
  match pg with
  | .bgt => s.arbDecide
  | .cpt => allInsts.foldl (fun s i => s.attachDue i) s
  | .prs => s.prsResume
  | .ups u => if s.upMayRun u then s.setUpState u lkRxDetect else s
  | .tcp p => if s.ccCanRun p && s.ccSt p == 0 then s.toRecovery p else s
  | .vbs p => s.askAgain p
  | .u2p p => s.u2Restart p
  | .ssp f => s.ssEval f
  | .con p => if (s.con p).sending.isNone && !(s.con p).tx.isEmpty then s.conNext p else s
  | _ => s

/-- A plate context is reset by `BLK_RST` of its page (R52, R276), with or without a host; one that a flat presentation leaves inactive
(R266), or that no instance is attached to, has nothing to reset. DEDUCED, log 36. -/
def State.ctxRestart (s : State) (hc : HubCtx) : State :=
  if s.ctxActive hc then s.ctxResetOne hc (s.hub hc).speed
  else if (s.ctxUp hc).isSome then (s.ctxResetOne hc 0).hubWith hc (fun _ => freshHubCtx)
  else s

/-- A write of 1 to `PAGE_CTRL.BLK_RST` (R52): the block restarts. -/
def State.blkRestart (s : State) (pg : PageId) : State :=
  match pg with
  | .bgt => s.arbDecide
  | .cpt => s.cptRestart
  | .prs => s.prsRestart
  | .u2h k => (s.ctxRestart (.plate k 0)).ctxRestart (.plate k 1)
  | .ssh k => (s.ssCtxResetOne k 0).ssCtxResetOne k 1
  | .ups u => s.upRestart u
  | .mgf => ((((s.fnReset 0 false 0).fnReset 0 true 0).fnReset 1 false 0).fnReset 1 true 0)
  | .grv => s.grvClear
  | .drc => s.drcRestart
  | .tcp p => s.recoverNow p
  | .vbs p => (s.vbsOpen p 1).askTurnOn p
  | .u2p p => s.u2Restart p
  | .ssp f => if s.link f = lkDisabled then s else s.ssDetect f 2
  | .con p => s.conEmpty p
  | .lhe p => ((s.lheStop p cStopped).lheWith p (fun l => { l with eps := [] })).put (.lhe p) F.LHE_STATUS_CONFIGURED 0
  | _ => s

/-- A page whose `BLK_RST` has an effect (R51, R52). -/
def hasBlkRst : PageId → Bool
  | .epm => false
  | .win _ => false
  | pg => !fixedCtrl pg

/-- A write of `PAGE_CTRL`: the unit of work ends or the block resumes, and `BLK_RST` restarts the block unless the register
mismatched before the write (R52, R71). -/
def State.ctrlWritten (s0 s : State) (pg : PageId) (v : Word) : State :=
  let s1 := if s0.pageOn pg == s.pageOn pg then s else if s.pageOn pg then s.pageOnNow pg else s.pageOffNow pg
  if v.getLsbD 1 && hasBlkRst pg && !s0.badFound pg 4 then
    ((s1.blkRestart pg).put pg F.PAGE_CTRL_BLK_RST 1).put pg F.PAGE_STATUS_RESTARTING 1
  else s1

/-! ### Clocks and resets (R13–R22) -/

/-- A plate follows its sources where they have changed. -/
def State.plateMoved (s : State) (k : Plate) : State := if s.plateHeld k == s.plateInRst k then s else s.plateFollow k

/-- A port follows its sources where they have changed. -/
def State.portMoved (s : State) (p : Port) : State := if s.portHeld p == s.portInRst p then s else s.portFollow p

/-- A write to the CLK page has taken effect. -/
def State.clkWritten (s0 s : State) (off : Nat) : State :=
  if off = 0x44 then
    let s1 := allPlates.foldl (fun a k => if s0.fclkRun k == s.fclkRun k then a else if s.fclkRun k then a.fclkStart k else a.fclkStop k) s
    (s1.drcFollow).graverFollow
  else if off = 0x4C then
    if s.cfgFlag .clk F.CLK_RESET_CORE_RST then s.coreReset 1
    else ((allPlates.foldl (fun s k => s.plateMoved k) s).graverFollow).drcFollow
  else if off = 0x54 ∨ off = 0x58 then
    (wordPorts (off == 0x58) (s0.cfgWord .clk off ^^^ s.cfgWord .clk off)).foldl (fun s p => s.portMoved p) s
  else s

/-! ### Management, queues and store -/

/-- A write to the MGT page has taken effect (R96, R98, R107). DEDUCED, log 35. -/
def State.mgtWritten (s0 s : State) (off : Nat) (ended : Bool) : State :=
  let changed := s0.cfgWord .mgt off != s.cfgWord .mgt off
  if off = 0x44 then
    if changed then s.raise .mgt evHostGrantChange 0 (s.cfgWord .mgt 0x44).toNat else s
  else if off = 0x4C then s.attnNotices
  else if off = 0x50 then (if changed then { s with legacy := ⟨none, true⟩ } else s)
  else if off = 0x54 ∨ off = 0x58 then
    if changed || ended then ({ s with legacy := ⟨none, true⟩ }).legCheck else s
  else s

/-- A write to the EVQ page has taken effect (R128, R129). -/
def State.evqWritten (s : State) (off : Nat) (v : Word) : State :=
  match arrayIx off 0x78 0x40 4, arrayIx off 0x74 0x40 4 with
  | some q, _ => if v.getLsbD 0 then s.flushQueue q else s
  | none, some q => s.notePeak q
  | none, none => s

/-- A write of `CFG_CTRL` (R149–R151): one command bit acts; several act as none and set `CMD_REJECT`. DEDUCED, log 34. -/
def State.cfgCommand (s : State) (v : Word) (parityErr : Bool) : State :=
  let n := (v &&& 7).toNat
  if n = 0 then s
  else if n = 1 then s.cmdCommit parityErr
  else if n = 2 then s.cmdFetchActive
  else if n = 4 then s.cmdFetchOther
  else s.setFault .cfg 8

/-! ### Power -/

/-- A write to the BGT page has taken effect (R182, R187, R200, R202). -/
def State.bgtWritten (s0 s : State) (off : Nat) (ended : Bool) : State :=
  if off = 0x40 ∨ off = 0x44 then
    if ended then s.revokeHeld.poolFollow else if s0.cfgWord .bgt off != s.cfgWord .bgt off then s.poolFollow else s
  else if 0x4C ≤ off ∧ off ≤ 0x58 then (if ended then s.revokeHeld.poolFollow else s)
  else match arrayIx off 0x80 4 64 with
    | some p =>
      if s.moved s0 .bgt (F.BGT_PORTn_TARGET p.val) && decide (s.bgtTarget p < s.grant p) then s.revokePort p else s
    | none => s

/-- A write to a VBS page has taken effect (R203, R205). -/
def State.vbsWritten (s0 s : State) (p : Port) (off : Nat) (ended : Bool) : State :=
  let s1 := if off = 0x40 && s.moved s0 (.vbs p) F.VBS_CTRL_FORCE_OFF then
      let t := s.forceOffChanged p
      if s.flag (.vbs p) F.VBS_CTRL_FORCE_OFF then t.powerFails p else t
    else s
  if ended && 0x40 ≤ off then (s1.askAgain p).usbEval p else s1

/-! ### Ports -/

/-- A write to the connection-logic registers of a TCP page has taken effect (R221, R228, R229); the fields that compatibility mode forces have
no effect there (R439). -/
def State.ccWritten (s0 s : State) (p : Port) (off : Nat) (v : Word) (ended : Bool) : State :=
  let pg := PageId.tcp p
  if off = 0x40 ∨ off = 0x44 then
    let lr := off == 0x40 && ((s.moved s0 pg F.TCP_CC_CFG_DRP && !s.compatPort p) || s.moved s0 pg F.TCP_CC_CFG_ACC_DEBUG || s.moved s0 pg F.TCP_CC_CFG_ACC_AUDIO)
    let s1 := if ended && s.ccSt p == 0 then (if s.ccCanRun p then s.toRecovery p else s) else if lr then (s.tcpWith p (fun t => { t with lrNew := some (BitVec.ofNat 3 (s.get pg ⟨0x40, 0, 3⟩)) })).recoverNow p else s
    let s2 := if off = 0x40 && s.moved s0 pg F.TCP_CC_CFG_DEBUG_CONSOLE && !s.cfgFlag pg F.TCP_CC_CFG_DEBUG_CONSOLE then
      s1.unrouteBy p false 9 else s1
    if off = 0x40 && s.moved s0 pg F.TCP_CC_CFG_RP_MAX then s2.rpApply p else s2
  else if off = 0x4C then
    if v.getLsbD 0 && s.ccCanRun p && s.ccSt p != 0 then (s.put pg F.TCP_CC_CTRL_RECOVER 1).recoverNow p else s
  else s

/-- A write of `TCP_PD_CTRL` (R263): the lowest command bit set acts. -/
def State.pdCommand (s : State) (p : Port) (v : Word) : State :=
  if v.getLsbD 0 then s.cmdHardReset p
  else if v.getLsbD 1 then s.cmdSoftReset p
  else if v.getLsbD 2 then s.cmdSendCaps p
  else if v.getLsbD 3 then s.cmdRediscover p
  else if v.getLsbD 4 then s.cmdExitMode p
  else s

/-- A write to the policy registers of a TCP page has taken effect (R236–R239, R253, R254, R259, R262, R265). -/
def State.policyWritten (s0 s : State) (p : Port) (off : Nat) : State :=
  let pg := PageId.tcp p
  let s1 := if s0.pdEn p == s.pdEn p then s else s.pdEnChanged p
  let s1 := if off = 0x100 && (s.moved s0 pg F.TCP_PD_POLICY_SWAP_TO_SRC || s.moved s0 pg F.TCP_PD_POLICY_FRS_EN) then
    s1.swapsChanged p else s1
  let s2 := if off = 0x130 && s.moved s0 pg F.TCP_CON_SVID_EN && !s.cfgFlag pg F.TCP_CON_SVID_EN then s1.cmdExitMode p else s1
  if (off = 0x100 && (s.moved s0 pg F.TCP_PD_POLICY_PPS_EN || s.moved s0 pg F.TCP_PD_POLICY_EPR_EN)) ||
      (decide (0x104 ≤ off ∧ off < 0x130) && s0.cfgWord pg off != s.cfgWord pg off) then (s2.offerCheck p).pdKick p
  else s2

/-- A write to a TCP page has taken effect. -/
def State.tcpWritten (s0 s : State) (p : Port) (off : Nat) (v : Word) (ended : Bool) : State :=
  if off = 0x90 then s.pdCommand p v
  else if 0x100 ≤ off then State.policyWritten s0 s p off
  else State.ccWritten s0 s p off v ended

/-- A write to a CON page has taken effect (R230, R231): a changed frame or baud field abandons the character in progress, a
changed level empties the FIFOs. -/
def State.conWritten (s0 s : State) (p : Port) (off : Nat) (ended : Bool) : State :=
  let pg := PageId.con p
  let la := (off == 0x40 && (s.moved s0 pg F.CON_CFG_DATA8 || s.moved s0 pg F.CON_CFG_PARITY || s.moved s0 pg F.CON_CFG_STOP2 ||
    s.moved s0 pg F.CON_CFG_TX_EN)) || (off == 0x44 && s.moved s0 pg F.CON_BAUD_DIV)
  let s1 := if la && (s.con p).sending.isSome then s.conNext p else s
  let s2 := if off = 0x40 && s.moved s0 pg F.CON_CFG_LEVEL then s1.conEmpty p else s1
  if ended && 0x40 ≤ off && !s.badFound pg 0x40 && !s.badFound pg 0x44 then s2.conRestore p else s2

/-! ### Hubs and presentations -/

/-- A write to a U2P page has taken effect (R294, R296). -/
def State.u2pWritten (s0 s : State) (p : Port) (off : Nat) (ended : Bool) : State :=
  if off = 0x40 && (s.moved s0 (.u2p p) F.U2P_CFG_HS_DISABLE || ended) then s.u2Restart p else s

/-- A plate context of SuperSpeed comes on or goes off: a change at its root port, and its reset (R321, R324). -/
def State.sshMoved (s0 s : State) (k : Plate) : State :=
  ([0, 1] : List Up).foldl (fun a c => if s0.ssCtxOn k c == s.ssCtxOn k c then a else
    (a.ssHubWith (.root c) (fun x => { x with rootChg := x.rootChg.set k.val (x.rootChg[k.val] ||| sConnection) })).ssCtxResetOne k c) s

/-- A write to an SSP page has taken effect (R304, R308, R317–R319, R324); `errors` are the bit errors that a loopback
master has found. DEDUCED, log 31. DEDUCED, log 34. -/
def State.sspWritten (s0 s : State) (f : Full) (off : Nat) (v : Word) (ended : Bool) (errors : Nat) : State :=
  let pg := PageId.ssp f
  if off = 0x50 then
    if v.getLsbD 0 then s.enterCompliance f else if v.getLsbD 1 then s.enterLoop f
    else if v.getLsbD 2 then s.exitTest f errors else s
  else if off = 0x58 then (if v.getLsbD 0 then s.marginStart f else s)
  else if off = 0x40 ∨ off = 0x54 then
    let s1 := if off = 0x40 && s.moved s0 pg F.SSP_CFG_MAX_GEN then
        let t := s.ssClearFallback f
        if t.link f = lkDisabled then t.ssEval f else t.ssDetect f 2
      else s
    let s2 := if off = 0x40 && s.moved s0 pg F.SSP_CFG_LPM_ALLOW && !s.cfgFlag pg F.SSP_CFG_LPM_ALLOW &&
        (s1.link f == lkU1 || s1.link f == lkU2) then s1.setLink f lkU0 else s1
    if ended then s2.ssEval f else s2
  else s

/-- A write to the PRS page has taken effect (R332, R343, R344, R346). DEDUCED, log 34. -/
def State.prsWritten (s0 s : State) (off : Nat) (v : Word) (ended : Bool) : State :=
  let topo (s : State) (u : Up) (f : Fld) : State := if s.moved s0 .prs f && !s.compat then s.presRestart u else s
  if off = 0x40 then topo (topo s 0 F.PRS_CFG_TOPO_U0) 1 F.PRS_CFG_TOPO_U1
  else if off = 0x44 then (if ended then s.foResume else s)
  else if off = 0x48 then
    if v.getLsbD 0 then (s.put .prs F.PRS_CTRL_REATTACH_U0 1).presRestart 0
    else if v.getLsbD 1 then (s.put .prs F.PRS_CTRL_REATTACH_U1 1).presRestart 1
    else if v.getLsbD 2 then s.failbackAll else s
  else match arrayIx off 0x100 4 64 with
    | some p => if s.moved s0 .prs (F.PRS_OWNERn_OWNER p.val) || ended then s.moveDecide p 0 else s
    | none => s

/-! ### Graver, memory, compatibility and health -/

/-- A write to an LHE page has taken effect: `SS_ALLOW` keeps the value in force until the next ENUM (R408). -/
def State.lheWritten (s0 s : State) (p : Port) (off : Nat) : State :=
  if off = 0x40 && s.moved s0 (.lhe p) F.LHE_CFG_SS_ALLOW && (s.lhe p).ssHeld.isNone then
    s.lheWith p (fun l => { l with ssHeld := some (s0.cfgFlag (.lhe p) F.LHE_CFG_SS_ALLOW) })
  else s

/-- A write to the GRV page has taken effect (R406): a changed LR field of ring r restarts it. -/
def State.grvWritten (s0 s : State) (off : Nat) : State :=
  if 0x100 ≤ off ∧ off < 0x200 then
    let r : RingIx := ⟨(off - 0x100) / 0x40 % 4, Nat.mod_lt _ (by decide)⟩
    let o := off % 0x40
    let lr := if o = 8 then s.moved s0 .grv (F.GRV_JRr_CFG_SIZE_LOG2 r.val)
      else (o == 0 || o == 4 || o == 0x14 || o == 0x18 || o == 0x1C) && s0.cfgWord .grv off != s.cfgWord .grv off
    if lr then s.ringRestart r else s
  else s

/-- A write to the DRC page has taken effect (R413, R417, R418, R422). -/
def State.drcWritten (s0 s : State) (off : Nat) (v : Word) : State :=
  if off = 0x40 then (if s.moved s0 .drc F.DRC_CFG_SCRUB_HOURS then s.scrubRestart else s)
  else if off = 0x44 ∨ off = 0x48 ∨ off = 0x4C then
    if s0.cfgWord .drc off != s.cfgWord .drc off then s.drcRestart else s
  else if off = 0x60 then (if v.getLsbD 31 then (s.wr (PageId.base .drc + 0x5C) 0).wr (PageId.base .drc + 0x60) 0 else s)
  else match arrayIx off 0x88 16 2 with
    | some w => if v.getLsbD 0 then s.winStart w false else if v.getLsbD 1 then s.winStart w true else s
    | none => s

/-- A write to the CPT page has taken effect (R425, R426, R435, R444). -/
def State.cptWritten (s0 s : State) (off : Nat) (v : Word) (ended : Bool) : State :=
  if off = 0x48 then s.instResets (v.setWidth 8)
  else if off = 0x40 then
    let s1 := if s0.cfgWord .cpt 0x40 != s.cfgWord .cpt 0x40 then s.cptCfgWritten (s0.cfgWord .cpt 0x40) else s
    if ended then allInsts.foldl (fun s i => s.attachDue i) s1 else s1
  else s

/-! ### Safe actions (R24, R71, R108, R130, R157, R180, R202, R205, R229, R231, R265, R296, R324, R346, R371, R373, R407, R424, R444) -/

/-- A register comes to mismatch: what its page does at once, beside the values that act in its place. A port that the TCP page disables so
detaches with cause 3 (R229). DEDUCED, log 27. DESIGN CHOICE, log 87. -/
def State.safeAction (s0 s : State) (pg : PageId) (off : Nat) : State :=
  if off < 0x40 then s else
  match pg with
  | .tcp p => if off < 0x100 then s.ccDisable p 3 5 7 else if s0.pdEn p then s.pdDisable p 7 else s
  | .vbs p => ((((s.endReserve p).vbsOpen p 7).put (.tcp p) F.TCP_CC_STATUS_LEAVE_WAIT 0).powerFails p).usbEval p
  | .con p => s.conSafe p
  | .u2p p => s.u2Bar p
  | .ssp f => s.ssEvalAs f 5
  | .ssh k => State.sshMoved s0 s k
  | .lhe p => s.lheStop p cParity
  | .bgt => match arrayIx off 0x80 4 64 with
    | some p => if decide (s.bgtTarget p < s.grant p) then s.revokePort p else s
    | none => s
  | .mgt => if off = 0x4C then s.attnNotices else s
  | .drc => s.winSafe
  | _ => s

/-- The scrubber or a read visits a register: a mismatch is reported, and one found now starts the safe action of its page (R69). -/
def State.parityVisit (s : State) (pg : PageId) (off : Nat) : State :=
  let s1 := (s.findParity (pg.base + off)).2
  if !s.badFound pg off && s1.badFound pg off then State.safeAction s s1 pg off else s1

end Sys2Proof.Machine
end

