-- ==== Sys2Proof/Machine/RegWrite.lean ====
section
/-! DEFINITION. The register write (R56–R60, R70, R73): which byte lanes act, how each field takes its bits, the end of a
parity mismatch, the consequence, and the live update of R455, whose entries are register writes. -/

namespace Sys2Proof.Machine

/-! ### Lanes and fields -/

/-- The bits of the byte lanes that a set of byte enables names. -/
def laneMask (be : BitVec 4) : Word :=
  BitVec.ofNat 32 ((if be.getLsbD 0 then 0xFF else 0) + (if be.getLsbD 1 then 0xFF00 else 0) +
    (if be.getLsbD 2 then 0xFF0000 else 0) + (if be.getLsbD 3 then 0xFF000000 else 0))

/-- A byte lane holds a bit of a field that a partial write leaves alone: RWG, CMD or CNT (R73). -/
def laneWhole (fs : List FieldDesc) (lane : Nat) : Bool :=
  fs.any (fun f => (f.ty == .rwg || f.ty == .cmd || f.ty == .cnt) && decide (f.lo < 8 * lane + 8 ∧ 8 * lane < f.lo + f.width))

/-- The byte lanes that a write with some byte enables acts on (R73). -/
def lanesOf (fs : List FieldDesc) (be : BitVec 4) : BitVec 4 :=
  if be = 0xF then be else
    BitVec.ofNat 4 ((List.range 4).foldl (fun n i => if be.getLsbD i && !laneWhole fs i then n + 2 ^ i else n) 0)

/-- A field's part of a write: the word with the bits of the field that the mask covers changed as its type says (R56). -/
def mergeField (v m : Word) (guarded : Bool) (w : Word) (f : FieldDesc) : Word :=
  let fm := fldMask ⟨0, f.lo, f.width⟩ &&& m
  match f.ty with
  | .rw | .cnt => (w &&& ~~~fm) ||| (v &&& fm)
  | .rwg => if guarded then (w &&& ~~~fm) ||| (v &&& fm) else w
  | .w1c => w &&& ~~~(v &&& fm)
  | .w1s => w ||| (v &&& fm)
  | .ro | .rc | .wo | .cmd => w

/-- The registers whose writes do not go through the plain store: their own rule stores what they take. -/
def ownStore (pg : PageId) (off : Nat) : Bool :=
  (off == 4 && fixedCtrl pg) || match pg with
  | .glb => off == 0x300
  | .hlt => off == 0x60 || off == 0x64 || decide (0x100 ≤ off)
  | .grv => (arrayIx off 0x10C 0x40 4).isSome
  | _ => false

/-- The fields of a register stored, and the parity of the bytes written made right (R56, R70). The flag tells whether a
mismatch of the register has ended. -/
def State.storeFields (s : State) (pg : PageId) (off : Nat) (be : BitVec 4) (v : Word) (guarded : Bool) : Bool × State :=
  match pg.regAt off with
  | none => (false, s)
  | some r =>
    if ownStore pg off then (false, s) else
    let lanes := lanesOf r.fields be
    let a := pg.base + off
    let w := (r.fields.foldl (mergeField v (laneMask lanes) guarded) (s.rd a)) &&& ~~~ zeroBits pg off
    let s1 := s.wr a w
    if r.fields.any (fun f => f.ty == .rwg) && !guarded then (false, s1) else s1.mendParity a lanes

/-! ### Consequences -/

/-- A write of `GLB_SEMn_REL` (R93). -/
def State.semRelBy (s : State) (n : Sem) (i : Ident) : State :=
  if s.semHeldBy n i then s.semFree n else s.mgtErr i F.MGT_ERRn_SEM

/-- Semaphores force-released by a guarded pair (R94). -/
def State.semForced (s : State) (v : Word) : State :=
  (List.finRange 32).foldl (fun s n => if v.getLsbD n.val && s.flag .glb (F.GLB_SEMn_OWNER_HELD n.val) then s.semFreeBy n evSemForced else s) s

/-- A write to the GLB page has taken effect. -/
def State.glbWritten (s : State) (i : Ident) (off : Nat) (v : Word) : State :=
  if off = 0x300 then s.semForced v
  else match arrayIx off 0x104 16 32 with
    | some n => s.semRelBy n i
    | none => s

/-- A write to a byte counter of a plate (R67, R449): the low word sets the whole counter, the high word takes nothing. -/
def State.byteCountWritten (s : State) (off : Nat) (v : Word) : State :=
  if off % 8 = 0 ∧ off < 0x140 then (s.wr (PageId.base .hlt + off) v).wr (PageId.base .hlt + off + 4) 0 else s

/-- A write to the HLT page but for the start of an update (R450–R453, R458). -/
def State.hltWritten (s0 s : State) (off : Nat) (be : BitVec 4) (v : Word) : State :=
  if off = 0x5C then (if v.getLsbD 0 then s.peakClear else s)
  else if off = 0x60 ∨ off = 0x64 then s.quarByRelease (off == 0x64) v
  else if off = 0x68 ∨ off = 0x6C then (if be = 0xF then s.quarByWrite (off == 0x6C) v else s)
  else if off = 0x70 then s.isoChanged (s0.cfg .hlt F.HLT_PLATE_ISO_ISO)
  else if 0x100 ≤ off then (if be = 0xF then s.byteCountWritten off v else s)
  else s

/-- A write of a producer index (R381): merged by byte into the present one. -/
def State.prodWritten (s : State) (r : RingIx) (be : BitVec 4) (v : Word) : State :=
  let f := F.GRV_JRr_PROD_PROD r.val
  let m := laneMask be
  let n := (((BitVec.ofNat 32 (s.get .grv f) &&& ~~~m) ||| (v &&& m)) &&& 0xFFFF).toNat
  let s1 := s.ringDoorbell r n
  if n < s.jrSize r then (s1.mendParity (PageId.base .grv + f.off) be).2 else s1

/-- An LR field has changed, or an LR command bit has been written (R58): a restart is in progress. DEDUCED, log 32. -/
def State.restarts (s0 s : State) (pg : PageId) (off : Nat) (v : Word) : Bool :=
  match pg.regAt off with
  | none => false
  | some r => r.fields.any (fun f => f.live == .lr &&
      (if f.ty = .cmd then fldGet ⟨0, f.lo, f.width⟩ v != 0 && !(pg == .cpt && !s.compat)
       else fldGet ⟨0, f.lo, f.width⟩ (s0.cfgWord pg off) != fldGet ⟨0, f.lo, f.width⟩ (s.cfgWord pg off)))

/-- The consequence of a write by page (R58–R60). `v` holds the bits written; `ended` tells that a mismatch of the register
has ended; the last two operands are what the surroundings add: a parity error met in the staging buffer, and the bit
errors that a loopback master has found. DEDUCED, log 32. -/
def State.pageWritten (s0 s : State) (i : Ident) (pg : PageId) (off : Nat) (be : BitVec 4) (v : Word) (ended parityErr : Bool)
    (errors : Nat) : State :=
  match pg with
  | .glb => s.glbWritten i off v
  | .clk => State.clkWritten s0 s off
  | .mgt => State.mgtWritten s0 s off ended
  | .evq => s.evqWritten off v
  | .cfg => if off = 0x5C then s.cfgCommand v parityErr else if off = 0x64 then s.stageWrite be v else s
  | .pwe => if off = 0x58 then s.ilimWritten else s
  | .bgt => State.bgtWritten s0 s off ended
  | .hlt => State.hltWritten s0 s off be v
  | .cpt => State.cptWritten s0 s off v ended
  | .u2h k => State.u2hWritten s0 s k off
  | .ssh k => if off = 0x40 then State.sshMoved s0 s k else s
  | .prs => State.prsWritten s0 s off v ended
  | .mgf => s
  | .epm => s
  | .grv =>
    match arrayIx off 0x10C 0x40 4 with
    | some r => s.prodWritten r be v
    | none => if off = 0x50 then s.bufWrite be v else State.grvWritten s0 s off
  | .drc => State.drcWritten s0 s off v
  | .ups u => if off = 0x40 && s.moved s0 (.ups u) F.UPS_CFG_MAX_GEN then s.upRestart u else s
  | .tcp p => State.tcpWritten s0 s p off v ended
  | .vbs p => State.vbsWritten s0 s p off ended
  | .u2p p => State.u2pWritten s0 s p off ended
  | .ssp f => State.sspWritten s0 s f off v ended errors
  | .con p => if off = 0x50 then (if be.getLsbD 0 then s.conSend p (v.setWidth 8) else s) else State.conWritten s0 s p off ended
  | .lhe p => State.lheWritten s0 s p off
  | .win _ => s

/-- What a write does beyond storing. -/
def State.afterWrite (s0 s : State) (i : Ident) (pg : PageId) (off : Nat) (be : BitVec 4) (v : Word) (ended parityErr : Bool)
    (errors : Nat) : State :=
  if off = 4 then (if fixedCtrl pg then s else State.ctrlWritten s0 s pg v)
  else if off = 0x14 then (if v.getLsbD 0 then s.clearParityFault pg else s)
  else if off < 0x40 then s
  else
    let s1 := if State.restarts s0 s pg off v then s.put pg F.PAGE_STATUS_RESTARTING 1 else s
    State.pageWritten s0 s1 i pg off be v ended parityErr errors

/-! ### The live update (R455) -/

/-- One entry of a live update: a register write of the stored fields in some byte lanes. The count is that of the entries
that have met a domain in reset. DEDUCED, log 33. -/
def State.liveEntry (acc : State × Nat) (pg : PageId) (off : Nat) (lanes : BitVec 4) (v : Word) : State × Nat :=
  let s := acc.1
  if !s.clockOn pg then acc
  else if s.domainInRst pg then (s, acc.2 + 1)
  else
    let m := parityBits pg off &&& laneMask lanes
    let a := pg.base + off
    let r := (s.wr a ((s.rd a &&& ~~~m) ||| (v &&& m))).mendParity a lanes
    (State.afterWrite s r.2 (s.identOf .a) pg off lanes (v &&& m) r.1 false 0, acc.2)

/-- The PORT_POLICY section of a port applied live (R235, R455): `FITTED` stays as it is. DEDUCED, log 33. -/
def State.livePolicy (acc : State × Nat) (p : Port) (g : Nat → Byte) (o : Nat) : State × Nat :=
  let a1 := (List.range 16).foldl (fun acc k =>
    if (PageId.tcp p).regAt (0x100 + 4 * k) = none then acc
    else State.liveEntry acc (.tcp p) (0x100 + 4 * k) 0xF (BitVec.ofNat 32 (imgWord g (o + 4 * k)))) acc
  State.liveEntry a1 (.tcp p) 0x40 1
    (fldSet F.TCP_CC_CFG_DRP (a1.1.rd ((PageId.tcp p).base + 0x40)) (imgWord g o / 2 % 2))

/-- A PORT section applied live: the entries that the load would take (R141). DEDUCED, log 33. -/
def State.liveList (acc : State × Nat) (g : Nat → Byte) (sec : Section) : State × Nat :=
  (List.range (sec.len / 8)).foldl (fun acc i =>
    let addr := imgWord g (sec.off + 8 * i)
    if entryOk sec.tag sec.inst addr then
      match pageAt addr with
      | none => acc
      | some pg => State.liveEntry acc pg (addr % 0x1000) 0xF (BitVec.ofNat 32 (imgWord g (sec.off + 8 * i + 4)))
    else acc) acc

/-- The update of one port: the sections of a tag applied, and whether the image lacks them. -/
def State.livePort (acc : (State × Nat) × Bool) (g : Nat → Byte) (secs : List Section) (tag : Nat) (p : Port) : (State × Nat) × Bool :=
  let mine := secs.filter (fun x => x.tag == tag && x.inst == p.val)
  (mine.foldl (fun a x => if tag = 0x10 then State.livePolicy a p g x.off else State.liveList a g x) acc.1, acc.2 || mine.isEmpty)

/-- The ports that an update names. -/
def State.updPorts (s : State) : List Port :=
  wordPorts false (s.rd (PageId.base .hlt + 0x90)) ++ wordPorts true (s.rd (PageId.base .hlt + 0x94))

/-- The sections of an update applied: the state, the result (0, or 2 where a section is absent) and the skipped entries. -/
def State.updApply (s : State) (g : Nat → Byte) (secs : List Section) : State × Fin 8 × Nat :=
  let kind := s.get .hlt F.HLT_UPD_CFG_KIND
  if kind = 2 then
    let u : Up := ⟨s.get .hlt F.HLT_UPD_CFG_INSTANCE % 2, Nat.mod_lt _ (by decide)⟩
    let mine := secs.filter (fun x => x.tag == 0x20 && x.inst == u.val)
    if mine.isEmpty then (s, 2, 0) else ((mine.foldl (fun s x => s.applyDesc u g x) s).presRestart u, 0, 0)
  else
    let r := s.updPorts.foldl (fun acc p => State.livePort acc g secs (if kind = 1 then 3 else 0x10) p) ((s, 0), false)
    (r.1.1, (if r.2 then 2 else 0), r.1.2)

/-- `HLT_UPD_STATUS` set: `RESULT` and `SKIPPED`. -/
def State.updResult (s : State) (res n : Nat) : State :=
  (s.put .hlt F.HLT_UPD_STATUS_RESULT res).put .hlt F.HLT_UPD_STATUS_SKIPPED (min n 0xFFFF)

/-- A register of the update mismatches (R457). -/
def State.updBad (s : State) : Bool := s.badIn .hlt 0x8C 0x98

/-- `HLT_UPD_CTRL.GO` (R455): the update begins; its sections are applied, and `UPDATE_END` records its result. DEDUCED, log 33. -/
def State.updGo (s : State) : State :=
  if s.flag .hlt F.HLT_UPD_STATUS_BUSY || s.updBad then s.put .hlt F.HLT_UPD_STATUS_RESULT 3 else
  match s.activeBank with
  | none => s.updResult 1 0
  | some b =>
    match imgParse (s.bankByte b) with
    | none => s.updResult 1 0
    | some secs =>
      let s1 := (s.put .hlt F.HLT_UPD_STATUS_BUSY 1).put .hlt F.HLT_UPD_CTRL_GO 1
      let (s2, res, n) := s1.updApply (s.bankByte b) (keptSections secs)
      s2.healthWith (fun h => { h with upd := some (res, n) })

/-! ### The write -/

/-- A write of a register with its byte enables by an identity: fields stored, mismatch ended, consequence begun (R55). -/
def State.writeReg (s : State) (i : Ident) (pg : PageId) (off : Nat) (be : BitVec 4) (v : Word) (guarded parityErr : Bool)
    (errors : Nat) : State :=
  match pg with
  | .win x => if be.getLsbD 0 then s.winWrite false x (off / 4) (v.setWidth 8) else s
  | _ =>
    match pg.regAt off with
    | none => s
    | some r =>
      let w := v &&& laneMask (lanesOf r.fields be)
      let st := s.storeFields pg off be v guarded
      if pg = .hlt ∧ off = 0x98 then (if w.getLsbD 0 then st.2.updGo else st.2)
      else State.afterWrite s st.2 i pg off be w st.1 parityErr errors

end Sys2Proof.Machine
end

