-- ==== Sys2Proof/Machine/Access.lean ====
section
/-! DEFINITION. The register access (R47–R49, R54–R64, R72–R79, R92–R96, R133): what a requester's read or write of a word
meets, guarded pairs, pops that wait, and runs of accesses. -/

namespace Sys2Proof.Machine

/-! ### Guarded pairs (R61–R63) -/

/-- The pending pair of an identity. -/
def State.pair (s : State) (i : Ident) : Option GuardPair := Sparse.get (fun _ => none) s.guards (identSlot i)

/-- The pending pair of an identity set. -/
def State.setPair (s : State) (i : Ident) (g : Option GuardPair) : State :=
  { s with guards := Sparse.put (fun _ => none) s.guards (identSlot i) g }

/-- The pending pair of an identity discarded, with `MGT_ERR.GUARD`. DEDUCED, log 17. -/
def State.breakPair (s : State) (i : Ident) : State :=
  match s.pair i with
  | none => s
  | some _ => (s.setPair i none).mgtErr i F.MGT_ERRn_GUARD

/-- An RWG register lies at an offset of a page. -/
def isRwg (pg : PageId) (off : Nat) : Bool :=
  match pg.regAt off with
  | none => false
  | some r => r.fields.any (fun f => f.ty == .rwg)

/-- A complement register lies at an offset of a page. -/
def isComplement (pg : PageId) (off : Nat) : Bool := decide (4 ≤ off) && isRwg pg (off - 4)

/-- A write that completes no pair, carried out in its own right (R63), with its word status. `broken`: it has broken a pair. -/
def State.writeOwn (s : State) (i : Ident) (pg : PageId) (off : Nat) (w : FrameWord) (broken parityErr : Bool) (errors : Nat) :
    Fin 16 × State :=
  let st : Fin 16 := if broken then 5 else 0
  if isRwg pg off then
    if w.be = 0xF then (st, s.setPair i (some ⟨pg.base + off, w.data⟩)) else (5, s.mgtErr i F.MGT_ERRn_GUARD)
  else if isComplement pg off then (5, s.mgtErr i F.MGT_ERRn_GUARD)
  else (st, s.writeReg i pg off w.be w.data false parityErr errors)

/-- A write that its target has taken, with its word status. -/
def State.writeTaken (s : State) (i : Ident) (pg : PageId) (off : Nat) (w : FrameWord) (parityErr : Bool) (errors : Nat) :
    Fin 16 × State :=
  if w.be = 0 then (0, s) else
  match s.pair i with
  | none => s.writeOwn i pg off w false parityErr errors
  | some g =>
    if pg.base + off = g.addr + 4 ∧ w.be = 0xF ∧ w.data = ~~~ g.value then
      (0, (s.setPair i none).writeReg i pg (off - 4) 0xF g.value true false 0)
    else (s.breakPair i).writeOwn i pg off w true parityErr errors

/-! ### Rights (R95) -/

/-- The presentation of a host agent. -/
def hostUp : Requester → Option Up
  | .h0 => some 0
  | .h1 => some 1
  | _ => none

/-- A register that a host agent may write whatever its grant (R93, R95, R380). DESIGN CHOICE, log 76. -/
def State.hostOwn (s : State) (u : Up) (pg : PageId) (off : Nat) : Bool :=
  match pg with
  | .evq => decide (0xC0 + 0x40 * u.val ≤ off ∧ off < 0x100 + 0x40 * u.val)
  | .grv => off == 0x18C + 0x40 * u.val || off == 0x1A4 + 0x40 * u.val
  | .glb => match arrayIx off 0x104 16 32 with
    | some n => s.semHeldBy n (s.identOf (hostReq u))
    | none => false
  | _ => false

/-- The write of a requester is refused (R95). DEDUCED, log 16. DESIGN CHOICE, log 76. -/
def State.denied (s : State) (who : Requester) (pg : Option PageId) (off : Nat) : Bool :=
  match hostUp who with
  | none => false
  | some u => match pg with
    | none => !s.hostGrant u
    | some pg => (pg == .mgt && (off == 0x44 || off == 0x48)) || !(s.hostGrant u || s.hostOwn u pg off)

/-- A claim read of a requester takes nothing (R92). -/
def State.barred (s : State) (who : Requester) : Bool :=
  match hostUp who with
  | none => false
  | some u => !s.hostGrant u

/-! ### One word -/

/-- The page that an access to a byte address meets; none for a page that no block occupies (R48, R49, R72). DEDUCED, log 15. -/
def State.accessPage (s : State) (addr : Nat) : Option PageId :=
  match pageAt addr with
  | some (.win i) => if s.compat then some (.win i) else none
  | p => p

/-- Registers that are read whatever the state of the block (R50). -/
def alwaysThere (pg : PageId) (off : Nat) : Bool :=
  match pg with
  | .win _ => false
  | _ => off == 0 || off == 0x1C

/-- Registers that masters A and B reach before the load is complete (R133). -/
def beforeLoad (pg : PageId) (off : Nat) : Bool :=
  match pg with
  | .glb => off == 0x40 || off == 0x48 || off == 0x4C || off == 0x60 || off == 0x64 || off == 0x68
  | .cfg => off == 0x40
  | _ => false

/-- A local master, whose accesses stall and hang (R76, R133). -/
def isMaster : Requester → Bool
  | .a => true
  | .b => true
  | _ => false

/-- An access to a page waits: before the load, or for the page's clock (R76, R133). -/
def State.stalls (s : State) (who : Requester) (pg : PageId) (off : Nat) : Bool :=
  isMaster who && !alwaysThere pg off && ((!s.loaded && !beforeLoad pg off) || !s.clockOn pg)

/-- A read that its target has taken: the word and the state, or none where a pop finds its queue empty. `resumed`: the
access has waited in the pop, so that a record on its way is its own (R126). A read that finds a mismatch returns the stored value (R69). -/
def State.readTaken (s : State) (who : Requester) (pg : PageId) (off : Nat) (resumed : Bool) : Option (Word × State) :=
  match (if pg = .evq then popQueue off else none) with
  | some n =>
    if resumed then s.popNow n
    else match s.popRecord n with
      | none => none
      | some (r, s2) => some (r.w0, s2.latchWords n false (some r))
  | none =>
    let r := s.readBlock (s.identOf who) (s.barred who) pg off
    some (r.1, r.2.parityVisit pg off)

/-- The status of a write that is not taken, with the pair it breaks (R63, R75, R78). DEDUCED, log 17. -/
def State.writeLost (s : State) (i : Ident) (w : Option FrameWord) : State :=
  match w with
  | none => s
  | some w => if w.be = 0 then s else s.breakPair i

/-- An access to a page that a block occupies; none where it waits. DEDUCED, log 15. -/
def State.accessBlock (s : State) (who : Requester) (pg : PageId) (off : Nat) (w : Option FrameWord) (resumed parityErr : Bool)
    (errors : Nat) : Option (WordResult × State) :=
  if s.stalls who pg off then none
  else if !alwaysThere pg off && !s.clockOn pg then some (⟨2, 0⟩, s.writeLost (s.identOf who) w)
  else if !alwaysThere pg off && s.domainInRst pg then some (⟨1, 0⟩, s.writeLost (s.identOf who) w)
  else match w with
    | some w =>
      let r := s.writeTaken (s.identOf who) pg off w parityErr errors
      some (⟨r.1, 0⟩, r.2)
    | none => (s.readTaken who pg off resumed).map (fun r => (⟨0, r.1⟩, r.2))

/-- One access to a word by a requester: its result and the state, or none where it waits. The word address stands for a
byte address; a write carries its entry. DEDUCED, log 16. -/
def State.access (s : State) (who : Requester) (addr : Nat) (w : Option FrameWord) (resumed parityErr : Bool) (errors : Nat) :
    Option (WordResult × State) :=
  let off := addr % 0x1000
  let pg := s.accessPage addr
  if (match w with
      | none => false
      | some w => w.be != 0 && s.denied who pg off) then
    some (⟨4, 0⟩, s.mgtErr (s.identOf who) F.MGT_ERRn_DENIED)
  else match pg with
    | none => match w with
      | none => some (⟨0, 0⟩, s)
      | some w =>
        if w.be = 0 then some (⟨0, 0⟩, s)
        else some (⟨if (s.pair (s.identOf who)).isSome then 5 else 0, 0⟩, s.breakPair (s.identOf who))
    | some pg => s.accessBlock who pg off w resumed parityErr errors

/-! ### Runs of accesses -/

/-- A word that may end with TIMEOUT (R78): not one of a local master, which hangs, not one of registers without a clock of their own, and
not a write that is refused or has no byte enables. -/
def State.mayTimeOut (s : State) (who : Requester) (addr : Nat) (w : Option FrameWord) : Bool :=
  let off := addr % 0x1000
  !isMaster who && (match s.accessPage addr with
    | none => false
    | some pg => !alwaysThere pg off) && !(match w with
    | none => false
    | some w => s.denied who (s.accessPage addr) off || w.be == 0)

/-- A word whose target's clock has stopped after issue (R78). `n` words of its run were issued before it: where there are any, the clock
may run still as the run begins, and stops once this word is issued. DEDUCED, log 17. -/
def State.timesOut (s : State) (who : Requester) (n addr : Nat) (w : Option FrameWord) : Bool :=
  s.mayTimeOut who addr w && (n != 0 || (match s.accessPage addr with
    | none => false
    | some pg => !s.clockOn pg))

/-- The bit errors that a loopback master has found since, counted where a frame reads `SSP_BERT` or ends the run (R318): what the link
has met is free. DESIGN CHOICE, log 19. -/
def State.loopErrors (s : State) (r : AccessRun) : State :=
  match s.accessPage r.addr, r.kind with
  | _, .single => s
  | some (.ssp f), _ =>
    if (s.ssp f).loopMaster && (r.addr % 0x1000 == 0x50 || r.addr % 0x1000 == 0x60) then
      let e := s.free
      e.2.countBy (.ssp f) F.SSP_BERT_BIT_ERRORS e.1.toNat
    else s
  | _, _ => s

/-- One word of a run: withdrawn with TIMEOUT and no effect, issued after that with the clock stopped, or taken (R78). -/
def State.runWord (s0 : State) (r : AccessRun) (w : FrameWord) (resumed parityErr : Bool) (errors : Nat) : Option (WordResult × State) :=
  let s := s0.loopErrors r
  let e := if r.write then some w else none
  match r.late with
  | none => s.access r.who r.addr e resumed parityErr errors
  | some k =>
    if r.done.length < k || !s.timesOut r.who k r.addr e then s.access r.who r.addr e resumed parityErr errors
    else if r.done.length = k then some (⟨3, 0⟩, s)
    else some (⟨2, 0⟩, s.writeLost (s.identOf r.who) e)

/-- The words of a run taken in order until one waits. A core global reset ends the run. DESIGN CHOICE, log 19. -/
def State.runOn (parityErr : Bool) (errors : Nat) : List FrameWord → Bool → AccessRun → State → AccessRun × State
  | [], _, r, s => ({ r with left := [] }, s)
  | w :: t, resumed, r, s =>
    match s.runWord r w resumed parityErr errors with
    | none => ({ r with left := w :: t }, s)
    | some (res, s1) =>
      let r1 := { r with addr := if r.fixed then r.addr else r.addr + 4, done := r.done ++ [res] }
      if s1.coreHeld then ({ r1 with left := [] }, s1) else State.runOn parityErr errors t false r1 s1

/-- The management port of a requester. -/
def portOf : Requester → Option Master
  | .a => some .a
  | .b => some .b
  | _ => none

/-- The nibbles of a response: status, word statuses with the data of a read, and CRC (R84). -/
def FrameResp.nibbles (r : FrameResp) : List Nibble :=
  withCrc (toNibs 2 r.status ++ (if r.status = 0 then r.words.flatMap (fun w =>
    BitVec.ofNat 4 w.status.val :: (if r.read then toNibs 8 w.data.toNat else [])) else []))

/-- A response driven on `Mx_D`, with `Mx_READY` high (R83). -/
def State.drive (s : State) (m : Master) (resp : FrameResp) : State :=
  (s.mportWith m (fun x => { x with out := resp.nibbles })).reply (.frame m resp)

/-- The response of an access that has reached execution: kept for `REPLAY`, and sent unless `Mx_CS_N` has risen (R85, R86).
DESIGN CHOICE, log 23. -/
def State.respond (s : State) (m : Master) (resp : FrameResp) : State :=
  let gone := (s.mport m).dropped
  let s1 := s.mportWith m (fun x =>
    { x with stored := some resp, remote := none, dropped := false, taken := !gone, late := x.late || gone })
  if gone then s1.reply .silent else s1.drive m resp

/-- The slot of a remote identity changed. -/
def State.slotWith (s : State) (m : Master) (c : Chip) (f : RingSlot → RingSlot) : State :=
  { s with ringSlots := s.ringSlots.map (fun x => if x.owner = m ∧ x.origin = c then f x else x) }

/-- The response that a run leaves: every word attempted (R84). -/
def AccessRun.resp (r : AccessRun) : FrameResp := ⟨0, r.done, !r.write⟩

/-- A run is over: its words are answered to whoever sent them (R55, R84, R355); the response of a ring request is owed to the request
and to every copy of it that has come meanwhile (R105). -/
def State.finishRun (s : State) (r : AccessRun) : State :=
  let s1 := match r.kind, r.who with
    | .frame, .a => s.respond .a r.resp
    | .frame, .b => s.respond .b r.resp
    | .ring q, .ring m c =>
      (s.slotWith m c (fun x => if x.seq = q then
        { x with resp := some r.resp, owed := x.owed + 1, holds := r.write && s.mgtWaits } else x)).reply .silent
    | .vendor, .h0 => s.vendorWords 0 r.done
    | .vendor, .h1 => s.vendorWords 1 r.done
    | _, _ => match r.done with
      | [w] => s.reply (.word w.status w.data)
      | _ => s.reply .silent
  s1.mgtFollow

/-- The runs that wait, replaced. -/
def State.setRuns (s : State) (rs : List AccessRun) : State := { s with runs := rs }

/-- A run taken as far as it goes: over, or waiting. After a core global reset nothing of it is left. -/
def State.settleRun (s : State) (r : AccessRun) : State :=
  if s.coreHeld then s.reply .silent
  else if r.left.isEmpty then s.finishRun r
  else (s.setRuns (s.runs ++ [r])).reply .waits

/-- A notice that the pops of a run of reads have made pending wakes a suspended host (R366). -/
def State.popsWake (s before : State) (r : AccessRun) : State := if r.write then s else s.noticeWake before

/-- A new run begun. DESIGN CHOICE, log 19. -/
def State.startRun (s : State) (r : AccessRun) (parityErr : Bool) (errors : Nat) : State :=
  let q := State.runOn parityErr errors r.left false r s
  (q.2.settleRun q.1).popsWake s r

/-- A run that waits tried again. -/
def State.resumeRun (s : State) (r : AccessRun) : State :=
  let q := State.runOn false 0 r.left true r (s.setRuns (s.runs.erase r))
  if q.2.coreHeld then q.2.reply .silent
  else if q.1.left.isEmpty then (q.2.finishRun q.1).popsWake s r
  else (q.2.setRuns (s.runs.map (fun x => if x = r then q.1 else x))).popsWake s r

/-- Every run that waits tried again, oldest first. DESIGN CHOICE, log 3. -/
def State.resumeRuns (s : State) : State := s.runs.foldl (fun s r => if s.runs.contains r then s.resumeRun r else s) s

/-! ### Who may access now -/

/-- Ports A and B and the ring take frames (R89, R101). -/
def State.mgtTakes (s : State) : Bool := s.coreUp && s.flag .glb F.GLB_READY_MGT_READY && !s.domainInRst .mgt

/-- A requester has an access that waits. DESIGN CHOICE, log 21. -/
def State.busyWith (s : State) (who : Requester) : Bool :=
  s.runs.any (fun r => r.who == who) || match portOf who with
    | none => false
    | some m => match (s.mport m).remote with
      | none => false
      | some x => !x.aborted

/-- Whether a requester's access enters the register file now; a host agent exists while its presentation is attached (R137),
and in native mode alone (R427).
DESIGN CHOICE, log 21. -/
def State.mayAccess (s : State) (who : Requester) : Bool :=
  !s.busyWith who && match who with
    | .a => s.mgtTakes
    | .b => s.mgtTakes
    | .h0 => s.coreUp && s.loaded && !s.compat && s.presAttached 0
    | .h1 => s.coreUp && s.loaded && !s.compat && s.presAttached 1
    | .ring _ _ => s.mgtTakes && s.loaded && !s.dupId

/-- One access of a requester outside any frame, with what the surroundings add. DESIGN CHOICE, log 21. -/
def State.oneWith (s : State) (who : Requester) (addr : Nat) (w : Option FrameWord) (parityErr : Bool) (errors : Nat) : State :=
  if !s.mayAccess who then s.reply .silent
  else s.startRun ⟨who, .single, w.isSome, false, addr, [w.getD ⟨0xF, 0⟩], [], none⟩ parityErr errors

/-- One read of a word. -/
def State.readOne (s : State) (who : Requester) (addr : Nat) : State := s.oneWith who addr none false 0

/-- One write of a word. -/
def State.writeOne (s : State) (who : Requester) (addr : Nat) (be : BitVec 4) (v : Word) : State :=
  s.oneWith who addr (some ⟨be, v⟩) false 0

/-- A guarded pair: the value written to an RWG register, then its complement to the next address (R61). -/
def State.pairOne (s : State) (who : Requester) (addr : Nat) (v : Word) : State :=
  (s.writeOne who addr 0xF v).writeOne who (addr + 4) 0xF (~~~v)

end Sys2Proof.Machine
end

