-- ==== Sys2Proof/WellFormed.lean ====
section
/-! DEFINITION. Which commands a sender can form: operands within the ranges their carriers have. -/

namespace Sys2Proof

/-- A byte address that names a word of the register space (R47): 24-bit word addresses. -/
def wordAddr (a : Nat) : Bool := a % 4 == 0 && decide (a < 2 ^ 26)

/-- The pages that begin with the page header (R49, R51): every page but the compatibility windows. -/
def headed : PageId → Bool
  | .win _ => false
  | _ => true

/-- The length a control request asks for fits its `wLength`. -/
def lengthWord (n : Nat) : Bool := decide (n < 65536)

/-- A ring request carries 1 to 16 words (R104). DESIGN CHOICE, log 7. -/
def requestWhole (rq : RingReq) : Bool := decide (1 ≤ rq.words.length ∧ rq.words.length ≤ 16)

/-- A roster names at most 15 chips in each direction, at 1 to 15 hops (R102). -/
def rosterWhole (ro : Roster) : Bool :=
  let ok (hs : List Hop) : Bool := decide (hs.length ≤ 15) && hs.all (fun h => decide (1 ≤ h.hops ∧ h.hops ≤ 15))
  decide (1 ≤ ro.hops ∧ ro.hops ≤ 15) && ok ro.ring0 && ok ro.ring1

/-- A ring frame carries a request of 1 to 16 words, a response of at most 16, or a roster of at most 15 chips (R102, R104). -/
def bodyWhole : RingBody → Bool
  | .request rq => requestWhole rq
  | .response _ _ _ ws => decide (ws.length ≤ 16)
  | .roster ro => rosterWhole ro
  | .notice .. => true

/-- The access that times out is one that its carrier can hold. -/
def lateWhole (place : Nat) : LateAccess → Bool
  | .single _ => wordAddr place
  | .ring rq => requestWhole rq && decide (place < rq.words.length)
  | .vendorRead _ _ _ len => lengthWord len && decide (place < len / 8)
  | .vendorWrite _ _ _ ents => lengthWord ents.length && decide (place < ents.length / 8)

/-- The data of a split transaction fit a start-split OUT packet (R280, R282). -/
def splitWhole (sp : Split) : Bool := decide (sp.data.length ≤ 1023)

/-- What a full-speed or low-speed transaction returns fits its packet (R282). -/
def resultWhole : TtResult → Bool
  | .data _ _ bs => decide (bs.length ≤ 1023)
  | _ => true

/-- A PD message carries at most seven data objects (R232). -/
def msgWhole (m : PdMsg) : Bool := decide (m.objs.length ≤ 7)

/-- A number of `n` bytes, least significant first, from an offset. -/
def numAt (bs : List Byte) (off : Nat) : Nat → Nat
  | 0 => 0
  | n + 1 => (bs.getD off 0).toNat + 256 * numAt bs (off + 1) n

/-- A bulk command block that keeps the rules of R362. -/
def blockValid (bs : List Byte) : Bool :=
  (numAt bs 0 1 == 1 || numAt bs 0 1 == 2) && numAt bs 1 1 == 0 && numAt bs 4 4 % 4 == 0 &&
    decide (4 ≤ numAt bs 4 4 ∧ numAt bs 4 4 ≤ 16368) && numAt bs 8 8 % 4 == 0 && decide (numAt bs 8 8 < 2 ^ 34)

/-- The bytes of a bulk command: the 16-byte block, and after a valid WRITE block its data (R362). -/
def bulkBytes (bs : List Byte) : Bool :=
  bs.length == (if blockValid bs && numAt bs 0 1 == 2 then 16 + numAt bs 4 4 else 16)

/-- The numbers a hub request names fit the bytes of its `wIndex` and `wValue` (R268). -/
def hubNumber (n : Nat) : Bool := decide (n < 256)

/-- The command can be formed by a sender. DESIGN CHOICE, log 7. -/
def Instr.wf : Instr → Bool
  | .supplyMonitorTrip => true
  | .coreResetRelease .. => true
  | .corereset => true
  | .coreRst .. => true
  | .plateRst .. => true
  | .graverRst .. => true
  | .drcRst .. => true
  | .mgtRst .. => true
  | .dclkRun .. => true
  | .gclkRun .. => true
  | .fclkPlateRun .. => true
  | .portRst .. => true
  | .selfRefreshEntry => true
  | .rootUnlock => true
  | .rootLock => true
  | .laneUnlock .. => true
  | .laneRelock .. => true
  | .guardFirstWrite _ addr _ _ => wordAddr addr
  | .guardComplementWrite _ addr _ _ => wordAddr addr
  | .guardExpire .. => true
  | .parityScrub ups addr => wordAddr addr && ups.all (fun u => wordAddr u.1)
  | .pageEnWrite _ pg _ => headed pg
  | .blkRst _ pg => headed pg
  | .restartComplete pg => headed pg
  | .portAbort .. => true
  | .accessTimeout late place _ => lateWhole place late
  | .registerWrite _ addr _ _ => wordAddr addr
  | .readF _ ns _ => Machine.wholeFrame 1 false ns
  | .writeF _ hdr rest _ => Machine.wholeWrite 2 hdr rest
  | .readFixed _ ns _ => Machine.wholeFrame 3 false ns
  | .writeFixed _ hdr rest _ => Machine.wholeWrite 4 hdr rest
  | .replay _ fr => Machine.wholeFrame 6 false fr.ns
  | .badOpcode _ ns _ => Machine.badFrame ns
  | .csNRise .. => true
  | .mgtReady .. => true
  | .attentionNotice .. => true
  | .semClaim .. => true
  | .semRelease .. => true
  | .semForce .. => true
  | .semOrphanEnd .. => true
  | .hostGrantChange .. => true
  | .legAddress .. => true
  | .legWriteByte .. => true
  | .legReadByte => true
  | .legSclTimeout => true
  | .linkUp .. => true
  | .miswire .. => true
  | .linkDown .. => true
  | .roster _ ro => rosterWhole ro
  | .ringForward fr => bodyWhole fr.body
  | .ringRequest rq => requestWhole rq
  | .ringResponse _ _ _ _ ws => decide (ws.length ≤ 16)
  | .ringRetry .. => true
  | .ringBusyTimeout .. => true
  | .eventRoute => true
  | .evqPop .. => true
  | .popComplete .. => true
  | .evqPopTimeout .. => true
  | .evqPeek .. => true
  | .flush .. => true
  | .uptimeAlign => true
  | .entryResetRelease .. => true
  | .entryReset => true
  | .loadComplete => true
  | .pacingDoneTimeout => true
  | .stageWrite .. => true
  | .stageRead .. => true
  | .commit .. => true
  | .commitLeaveTimeout => true
  | .commitWriteEnd .. => true
  | .fetchActive .. => true
  | .fetchOther .. => true
  | .fetchEnd => true
  | .seatingLoss .. => true
  | .seatDbEnd => true
  | .rampEnd => true
  | .entryFastTrip .. => true
  | .faultTimeEnd .. => true
  | .rampMaxEnd .. => true
  | .entryLimit .. => true
  | .entryRetryEnd => true
  | .entryConsecClear => true
  | .ilimCheck .. => true
  | .feedLoss .. => true
  | .feedSwitch => true
  | .feedGood .. => true
  | .feedReturn => true
  | .entryScrub ups addr => wordAddr addr && ups.all (fun u => wordAddr u.1)
  | .leaveRequest ops => decide ops.Nodup
  | .leaveDone .. => true
  | .leaveWithdraw .. => true
  | .dieWindow => true
  | .pacingGapEnd => true
  | .feedGoodnessChange .. => true
  | .growDelayEnd => true
  | .growth => true
  | .revokeTimeEnd .. => true
  | .revokeSuccess .. => true
  | .poolWrite .. => true
  | .targetWrite .. => true
  | .adcSample .. => true
  | .settleEnd .. => true
  | .closeMaxEnd .. => true
  | .dischargeEnd .. => true
  | .dschMaxEnd .. => true
  | .portFastTrip .. => true
  | .slowTimeEnd .. => true
  | .retryIntEnd .. => true
  | .portConsecClear .. => true
  | .forceOff .. => true
  | .ccClassify .. => true
  | .attach .. => true
  | .detach .. => true
  | .drpToggle .. => true
  | .trySrcSuccess .. => true
  | .trySrcTimeout .. => true
  | .tryTimeout .. => true
  | .sinkAttach .. => true
  | .sinkDetach .. => true
  | .errorRecoveryEnd .. => true
  | .recover .. => true
  | .vconnTrip .. => true
  | .conRxByte .. => true
  | .conRxdataRead .. => true
  | .conTxdataWrite .. => true
  | .conTxDone .. => true
  | .upstreamAttach .. => true
  | .upstreamDetach .. => true
  | .sourceCapabilities _ msg => msgWhole msg
  | .request _ msg => msgWhole msg
  | .getSourceCap _ msg => msgWhole msg
  | .getSinkCap _ msg => msgWhole msg
  | .eprGetSourceCap _ msg => msgWhole msg
  | .prSwap _ msg => msgWhole msg
  | .drSwap _ msg => msgWhole msg
  | .vconnSwap _ msg => msgWhole msg
  | .frSwap _ msg => msgWhole msg
  | .softReset _ msg => msgWhole msg
  | .hardReset _ msg => msgWhole msg
  | .getStatus _ msg => msgWhole msg
  | .getPpsStatus _ msg => msgWhole msg
  | .getSourceCapExtended _ msg => msgWhole msg
  | .getSourceInfo _ msg => msgWhole msg
  | .getRevision _ msg => msgWhole msg
  | .getManufacturerInfo _ msg => msgWhole msg
  | .eprMode _ msg => msgWhole msg
  | .eprKeepalive _ msg => msgWhole msg
  | .vendorDefined _ msg => msgWhole msg
  | .pingMsg _ msg => msgWhole msg
  | .alertMsg _ msg => msgWhole msg
  | .bist _ msg => msgWhole msg
  | .unsupportedMessage _ msg => msgWhole msg
  | .accept _ msg => msgWhole msg
  | .reject _ msg => msgWhole msg
  | .waitMsg _ msg => msgWhole msg
  | .psRdy _ msg => msgWhole msg
  | .goodcrc _ msg => msgWhole msg
  | .goodcrcTimeout _ msg => msgWhole msg
  | .srcStartupEnd .. => true
  | .sourceCapResend .. => true
  | .senderResponseTimeout .. => true
  | .transitionStart .. => true
  | .transLimitEnd .. => true
  | .waitTimerEnd .. => true
  | .leaveHoldEnd .. => true
  | .ppsTimeout .. => true
  | .eprKeepaliveTimeout .. => true
  | .sinkTxEnd .. => true
  | .capsMergeEnd .. => true
  | .discoverIdentityAttempt .. => true
  | .revokeNoRequest .. => true
  | .hardResetPowerOff .. => true
  | .srcRecoverEnd .. => true
  | .sinkWaitCapTimeout .. => true
  | .swapAttempt .. => true
  | .sinkHardResetTimeout .. => true
  | .frsSignal .. => true
  | .frsVbusDrop .. => true
  | .consoleModeAttempt .. => true
  | .vdmResponseTimeout .. => true
  | .pdCtrlHardReset .. => true
  | .pdCtrlSoftReset .. => true
  | .sendCaps .. => true
  | .rediscover .. => true
  | .exitMode .. => true
  | .pdEnWrite .. => true
  | .contextReset .. => true
  | .contextSuspend .. => true
  | .contextResume .. => true
  | .connect .. => true
  | .disconnect .. => true
  | .babble .. => true
  | .setPortReset _ n => hubNumber n
  | .chirpK .. => true
  | .portResetEnd .. => true
  | .setPortSuspend _ n => hubNumber n
  | .clearPortSuspend _ n => hubNumber n
  | .resumeEnd .. => true
  | .clearPortEnable _ n => hubNumber n
  | .setPortPower _ n => hubNumber n
  | .clearPortPower _ n => hubNumber n
  | .setPortTest _ n sel => hubNumber n && hubNumber sel
  | .setAndTestPortL1 _ n _ _ _ => hubNumber n
  | .lpmAnswer .. => true
  | .clearPortL1 _ n => hubNumber n
  | .l1ExitEnd .. => true
  | .remoteWake .. => true
  | .wakePropagationEnd .. => true
  | .pwrHoldEnd .. => true
  | .clearChangeBit _ n sel => hubNumber n && hubNumber sel
  | .getPortStatus _ n => hubNumber n
  | .getHubStatus .. => true
  | .getHubDescriptor .. => true
  | .getDescriptor _ _ _ len _ => lengthWord len
  | .setInterface _ alt => hubNumber alt
  | .hubRequestError .. => true
  | .clearTtBuffer _ n _ _ _ _ => hubNumber n
  | .resetTt _ n => hubNumber n
  | .stopTt _ n => hubNumber n
  | .statusChangePoll .. => true
  | .startSplit _ n sp => decide (n < 256) && splitWhole sp
  | .completeSplit _ n sp => decide (n < 256) && splitWhole sp
  | .ttTransactionEnd _ fin => resultWhole fin.res
  | .ttStale .. => true
  | .ttResultExpire .. => true
  | .rxDetect .. => true
  | .linkU0 .. => true
  | .pollingFail .. => true
  | .linkRecovery .. => true
  | .ssInactive .. => true
  | .ssPortReset _ n => hubNumber n
  | .bhPortReset _ n => hubNumber n
  | .ssResetEnd .. => true
  | .ssContextReset .. => true
  | .setLinkStateU3 _ n => hubNumber n
  | .setLinkStateU0 _ n => hubNumber n
  | .setLinkStateDisabled _ n => hubNumber n
  | .setLinkStateRxDetect _ n => hubNumber n
  | .ssSetPortPower _ n => hubNumber n
  | .ssClearPortPower _ n => hubNumber n
  | .setPortU1Timeout _ n _ => hubNumber n
  | .setPortU2Timeout _ n _ => hubNumber n
  | .setRemoteWakeMask _ n _ => hubNumber n
  | .setForceLinkpmAccept _ n => hubNumber n
  | .setHubDepth .. => true
  | .getPortErrorCount _ n => hubNumber n
  | .ssGetPortStatus _ n _ => hubNumber n
  | .ssClearChangeBit _ n sel => hubNumber n && hubNumber sel
  | .u1Inactivity .. => true
  | .lgoUx .. => true
  | .ssHeader .. => true
  | .packetForward .. => true
  | .ssRemoteWake .. => true
  | .upstreamLinkTrained .. => true
  | .complianceEntry .. => true
  | .enterCp .. => true
  | .loopMaster .. => true
  | .exitTest .. => true
  | .pingLfps .. => true
  | .loopbackEntry .. => true
  | .marginStart .. => true
  | .marginEnd .. => true
  | .maxGenWrite .. => true
  | .ownerWrite .. => true
  | .movePoint .. => true
  | .presAttach .. => true
  | .livenessLoss .. => true
  | .presentationLive .. => true
  | .foSuspLimitEnd .. => true
  | .fbDelayEnd .. => true
  | .failback .. => true
  | .reattach .. => true
  | .reattachEnd .. => true
  | .regRead _ _ _ len => lengthWord len
  | .regWrite _ _ _ ents _ => decide (ents.length ≤ 65535)
  | .getResult _ rq _ => lengthWord rq.len
  | .vendorReplay _ rq _ => lengthWord rq.len
  | .dramRead _ _ len => lengthWord len
  | .dramWrite _ _ data _ => decide (data.length ≤ 65535)
  | .vendorRequestDone .. => true
  | .bulkCommand _ bytes => bulkBytes bytes
  | .bulkRead .. => true
  | .bulkWrite .. => true
  | .ep3Ack .. => true
  | .notice .. => true
  | .noticeAck .. => true
  | .functionReset .. => true
  | .mgfSetConfiguration _ _ _ cfg => hubNumber cfg
  | .clearEndpointHalt .. => true
  | .setEndpointHalt .. => true
  | .inServiceChange .. => true
  | .functionWake .. => true
  | .epmWinRead .. => true
  | .doorbell .. => true
  | .descriptorFetch => true
  | .jobStart .. => true
  | .take .. => true
  | .give .. => true
  | .powerOff .. => true
  | .powerOn .. => true
  | .powerCycle .. => true
  | .enumJob .. => true
  | .configJob .. => true
  | .ctrlJob .. => true
  | .jobWrite .. => true
  | .jobRead .. => true
  | .captureSbu .. => true
  | .captureCdc .. => true
  | .verifyCompare .. => true
  | .verifyCrc .. => true
  | .waitTime .. => true
  | .waitAttach .. => true
  | .waitDetach .. => true
  | .waitVbusOn .. => true
  | .waitUsbConnect .. => true
  | .stopRunning .. => true
  | .stopCaptures .. => true
  | .stopQueued .. => true
  | .jobEnd .. => true
  | .jobTimeout .. => true
  | .completionWrite .. => true
  | .crConsWrite .. => true
  | .completionRetry .. => true
  | .captureRecordClose .. => true
  | .bufWdata .. => true
  | .bufRdata .. => true
  | .ringCfgRestart _ _ off _ _ => off % 4 == 0 && decide (off < 0x40)
  | .trainingEnd .. => true
  | .zeroingEnd => true
  | .refresh => true
  | .zqCalibration => true
  | .scrub .. => true
  | .load .. => true
  | .store .. => true
  | .windowCommandEnd .. => true
  | .eccClear .. => true
  | .ddrAlert => true
  | .compatAttach .. => true
  | .holdTimeout .. => true
  | .instReset .. => true
  | .rcRead .. => true
  | .configAreaWrite .. => true
  | .tempSample .. => true
  | .shedStepTimer => true
  | .quarSet .. => true
  | .quarRelease .. => true
  | .quarAutoEnd .. => true
  | .plateIsoSet .. => true
  | .plateIsolated .. => true
  | .plateIsoClear .. => true
  | .peakClr .. => true
  | .updatePortPolicy .. => true
  | .updatePort .. => true
  | .updatePresDesc .. => true
  | .updateEnd => true
  | .plateCalibrationEnd .. => true
  | .upCalibrationEnd => true
  | .seated => true
  | .trySrc .. => true
  | .debounceLost .. => true
  | .sof .. => true
  | .highSpeedPacket .. => true
  | .setAddress .. => true
  | .hubSetConfiguration _ cfg => hubNumber cfg
  | .deviceRemoteWakeup .. => true
  | .u1U2Enable .. => true
  | .lgoU3 .. => true
  | .upstreamExitLfps .. => true

end Sys2Proof
end

