-- ==== Sys2Proof/Machine/Ring.lean ====
section
/-! DEFINITION. Management frames and the Ngupin ring (R77, R80–R89, R100–R106): frames of ports A and B, their responses and
aborts, and the ring as origin, target and on the way. -/

namespace Sys2Proof.Machine

/-! ### Frames of the management ports -/

/-- A frame-level error: the frame status answered, and its bit of `MGT_ERRn` (R84, R107). -/
def State.frameErr (s : State) (m : Master) (status : Nat) : State :=
  let i := s.identOf (masterReq m)
  let s1 := if status = 2 ∨ status = 3 ∨ status = 4 ∨ status = 8 then s.mgtErr i F.MGT_ERRn_FRAME
    else if status = 6 ∨ status = 7 then s.mgtErr i F.MGT_ERRn_RING else s
  s1.drive m ⟨status, [], false⟩

/-- A request CRC that fails (R82). -/
def State.crcErr (s : State) (m : Master) : State :=
  let f := match m with
    | .a => F.MGT_PORT_CNT_A_CRC_CNT
    | .b => F.MGT_PORT_CNT_B_CRC_CNT
  ((s.count .mgt f).mgtErr (s.identOf (masterReq m)) F.MGT_ERRn_CRC).drive m ⟨1, [], false⟩

/-- The request of a port's remote access. -/
def isRequest (rq : RingReq) (fr : RingFrame) : Bool := fr.body == .request rq

/-- The ring frame of a request has not left this chip yet (R106). DESIGN CHOICE, log 22. -/
def State.unsent (s : State) (rq : RingReq) : Bool := ([0, 1] : List Side).any (fun side => (s.ringSides[side]).tx.any (isRequest rq))

/-- A request that has not left is taken from the queues. -/
def State.unqueue (s : State) (rq : RingReq) : State :=
  ([0, 1] : List Side).foldl (fun s side => s.sideWith side (fun x => { x with tx := x.tx.filter (fun fr => !isRequest rq fr) })) s

/-- The rules that a frame meets before its access: a port that takes no frame, a frame ignored to its end, CRC, a pending access, and the
opcode's own check (R82, R85, R86, R89). A frame begins as `Mx_CS_N` falls, which ends the drive of the one before (R80, R83).
DEDUCED, log 18. -/
def State.frameGate (s : State) (m : Master) (ns : List Nibble) (early : Bool) (act : State → State) : State :=
  let s1 := s.mportWith m (fun x => { x with out := [], high := false, taken := false, late := false })
  if !s.mgtTakes || early then s1.reply .silent
  else if !crcGood ns then s1.crcErr m
  else if s.busyWith (masterReq m) then s1.drive m ⟨5, [], false⟩
  else act s1

/-- A frame ends at this chip (R81, R104). -/
def State.frameLocal (s : State) (h : FrameHdr) : Bool := h.isLocal || h.chip == s.ownChip

/-- The request that a frame sends to another chip (R104). -/
def State.remoteReq (s : State) (m : Master) (h : FrameHdr) (write fixed : Bool) (ws : List FrameWord) : RingReq :=
  ⟨m, s.ownChip, (s.mport m).nextSeq, write, fixed, h.waddr, ws⟩

/-- A read or write frame whose request has been received whole (R81, R84, R104). DEDUCED, log 18. -/
def State.frame (s : State) (m : Master) (h : FrameHdr) (write fixed : Bool) (ws : List FrameWord) : State :=
  let n := hdrWords h
  if !fixed && decide (0x400 < h.waddr.toNat % 0x400 + n) then s.frameErr m 3
  else if s.frameLocal h then
    (s.mportWith m (fun x => { x with remote := none, dropped := false })).startRun
      ⟨masterReq m, .frame, write, fixed, 4 * h.waddr.toNat, ws, [], none⟩ false 0
  else if 16 < n then s.frameErr m 4
  else if s.route h.chip = 0 ∨ s.dupId then s.frameErr m 6
  else
    let rq := s.remoteReq m h write fixed ws
    ((s.mportWith m (fun x =>
      { x with remote := some ⟨h.chip, rq, 0, false, false, false⟩, nextSeq := x.nextSeq + 1, dropped := false })).ringSend
      h.chip (.request rq)).reply .waits

/-- The words that a read frame asks for. -/
def readWords (h : FrameHdr) : List FrameWord := List.replicate (hdrWords h) ⟨0xF, 0⟩

/-- READ. DESIGN CHOICE, log 7. -/
def execReadF (m : Master) (ns : List Nibble) (early : Bool) (s : State) : Host.Outcome State Fault Refusal :=
  if wholeFrame 1 false ns then .next (s.frameGate m ns early (fun s => s.frame m (hdrOf ns) false false (readWords (hdrOf ns))))
  else .fault .illFormed

/-- WRITE. DESIGN CHOICE, log 7. -/
def execWriteF (m : Master) (hdr rest : List Nibble) (early : Bool) (s : State) : Host.Outcome State Fault Refusal :=
  if wholeWrite 2 hdr rest then
    .next (s.frameGate m (hdr ++ rest) early (fun s => s.frame m (hdrOf hdr) true false (entriesOf (hdr ++ rest))))
  else .fault .illFormed

/-- READ_FIXED. DESIGN CHOICE, log 7. -/
def execReadFixed (m : Master) (ns : List Nibble) (early : Bool) (s : State) : Host.Outcome State Fault Refusal :=
  if wholeFrame 3 false ns then .next (s.frameGate m ns early (fun s => s.frame m (hdrOf ns) false true (readWords (hdrOf ns))))
  else .fault .illFormed

/-- WRITE_FIXED. DESIGN CHOICE, log 7. -/
def execWriteFixed (m : Master) (hdr rest : List Nibble) (early : Bool) (s : State) : Host.Outcome State Fault Refusal :=
  if wholeWrite 4 hdr rest then
    .next (s.frameGate m (hdr ++ rest) early (fun s => s.frame m (hdrOf hdr) true true (entriesOf (hdr ++ rest))))
  else .fault .illFormed

/-- REPLAY (R85). DEDUCED, log 18. -/
def execReplay (m : Master) (fr : PortFrame) (s : State) : Host.Outcome State Fault Refusal :=
  if wholeFrame 6 false fr.ns then .next (s.frameGate m fr.ns fr.early (fun s => match (s.mport m).stored with
    | none => s.frameErr m 8
    | some r => s.drive m r))
  else .fault .illFormed

/-- BAD_OPCODE. DEDUCED, log 18. -/
def execBadOpcode (m : Master) (ns : List Nibble) (early : Bool) (s : State) : Host.Outcome State Fault Refusal :=
  if badFrame ns then .next (s.frameGate m ns early (fun s => s.frameErr m 2)) else .fault .illFormed

/-- CS_N_RISE (R83, R86, R89): the port stops driving, and a frame that was ignored has ended; a rise with the access pending drops its
response, and the port abort that may follow is `PORT_ABORT`. An access pending at the rise may have been taken: it completes all the same,
and the abort finds it late. -/
def execCsNRise (m : Master) (moment : RiseMoment) (s : State) : Host.Outcome State Fault Refusal :=
  let s1 := s.mportWith m (fun x => { x with out := [], high := true })
  .next (match moment with
    | .beforeLastNibble => s1.reply .silent
    | .accessComplete => s1.reply .silent
    | .accessPending =>
      if s.busyWith (masterReq m) then (s1.mportWith m (fun x => { x with dropped := true })).reply .silent
      else (s1.mportWith m (fun x => { x with taken := false, late := x.taken })).reply .silent)

/-! ### The port abort (R77, R85, R106, R124) -/

/-- The errors of an abort: `ABORT_LATE` where a word has completed, `ABORT` where one is withdrawn. -/
def State.abortErrs (s : State) (m : Master) (late withdrawn : Bool) : State :=
  let i := s.identOf (masterReq m)
  let s1 := if withdrawn then s.mgtErr i F.MGT_ERRn_ABORT else s
  if late then s1.mgtErr i F.MGT_ERRn_ABORT_LATE else s1

/-- The pop that a withdrawn run waits in completes when its record is on its way. -/
def State.abortPop (s : State) (r : AccessRun) : Option (Word × State) :=
  match (List.finRange 4).find? (fun q => AccessRun.popsQueue q r) with
  | none => none
  | some q => if (s.queue q).handoff.isSome && s.runs.find? (AccessRun.popsQueue q) == some r then
      (s.setRuns (s.runs.erase r)).popNow q
    else none

/-- A run ended with the words done and the words withdrawn; the response is kept for `REPLAY` (R85, R124). -/
def State.abortWith (s : State) (m : Master) (r : AccessRun) (done : List WordResult) (left : List FrameWord) : State :=
  let resp : FrameResp := ⟨0, done ++ left.map (fun _ => ⟨6, 0⟩), !r.write⟩
  let s2 := s.mportWith m (fun x => { x with stored := some resp, dropped := false })
  ((s2.abortErrs m (!done.isEmpty) (!left.isEmpty)).mgtFollow).reply .silent

/-- The local run of a port withdrawn: a pop whose record is on its way completes, the words after it do not. -/
def State.abortRun (s : State) (m : Master) (r : AccessRun) : State :=
  match s.abortPop r with
  | none => (s.setRuns (s.runs.erase r)).abortWith m r r.done r.left
  | some x => x.2.abortWith m r (r.done ++ [⟨0, x.1⟩]) (r.left.drop 1)

/-- A remote access given up (R85, R106): one whose frame has not left is withdrawn; one that has been sent may or may not be executed, and
no resend follows. Each word is WITHDRAWN in the response that is kept. DESIGN CHOICE, log 22. -/
def State.abortRemote (s : State) (m : Master) (w : RemoteWait) : State :=
  let resp : FrameResp := ⟨0, w.req.words.map (fun _ => ⟨6, 0⟩), !w.req.write⟩
  let unsent := w.resends = 0 && !w.busy && s.unsent w.req
  let s1 := s.mportWith m (fun x =>
    { x with remote := if unsent then none else some { w with aborted := true }, stored := some resp, dropped := false })
  ((s1.unqueue w.req).abortErrs m (!unsent) unsent).reply .silent

/-- PORT_ABORT (R77, R86): `Mx_CS_N` has been high for 1 µs. DESIGN CHOICE, log 22. -/
def execPortAbort (m : Master) (s : State) : Host.Outcome State Fault Refusal :=
  if !(s.mport m).high then .next s else
  match s.runs.find? (fun r => r.who == masterReq m), (s.mport m).remote with
  | some r, _ => .next (s.abortRun m r)
  | none, some w => .next (if w.aborted then s else s.abortRemote m w)
  | none, none =>
    .next (if (s.mport m).late then ((s.mportWith m (fun x => { x with late := false })).abortErrs m true false).reply .silent else s)

/-! ### The ring as origin (R101, R104–R106) -/

/-- RING_RESPONSE: the first response for the sequence number is the master's. DESIGN CHOICE, log 22. DESIGN CHOICE, log 23. -/
def execRingResponse (m : Master) (seq : BitVec 8) (busy : Bool) (status : Byte) (ws : List WordResult) (s : State) :
    Host.Outcome State Fault Refusal :=
  match (s.mport m).remote with
  | none => .next s
  | some w =>
    let resp : FrameResp := ⟨status.toNat, ws, !w.req.write⟩
    if w.req.seq ≠ seq ∨ !s.mgtTakes ∨ s.dupId then .next s
    else if busy then .next (s.mportWith m (fun x => { x with remote := some { w with busySeen := true, busy := true } }))
    else if w.aborted then .next ((s.unqueue w.req).mportWith m (fun x => { x with remote := none, stored := some resp }))
    else .next ((s.unqueue w.req).respond m resp)

/-- `RETRIES` in force. -/
def State.ringRetries (s : State) : Nat := s.cfg .mgt F.MGT_RING_CFG_RETRIES

/-- The request of a remote access sent again, on the current route. -/
def State.resend (s : State) (m : Master) (w : RemoteWait) : State :=
  ((s.unqueue w.req).mportWith m (fun x => { x with remote := some w })).ringSend w.chip (.request w.req)

/-- The master of a remote access is told that no response has come (R104). DESIGN CHOICE, log 23. -/
def State.ringGivesUp (s : State) (m : Master) (w : RemoteWait) : State :=
  ((s.unqueue w.req).mgtErr (s.identOf (masterReq m)) F.MGT_ERRn_RING).respond m ⟨7, [], false⟩

/-- RING_RETRY: after a BUSY answer the request is repeated without counting; else it is sent again, or given up. A chip that has found its
own ID elsewhere sends nothing (R103). DESIGN CHOICE, log 23. -/
def execRingRetry (m : Master) (s : State) : Host.Outcome State Fault Refusal :=
  match (s.mport m).remote with
  | none => .next s
  | some w =>
    if w.aborted ∨ !s.mgtTakes then .next s
    else if s.dupId then .next (s.ringGivesUp m w)
    else if w.busySeen then .next (s.resend m { w with busySeen := false })
    else if w.resends < s.ringRetries then
      .next ((s.count .mgt F.MGT_RING_CNT_RETRY_CNT).resend m { w with resends := w.resends + 1, busy := false })
    else .next (s.ringGivesUp m w)

/-- RING_BUSY_TIMEOUT (R101): 10 ms of BUSY answers. A frame so answered has not reached execution, and the response kept for `REPLAY`
stays (R85). DESIGN CHOICE, log 23. -/
def execRingBusyTimeout (m : Master) (s : State) : Host.Outcome State Fault Refusal :=
  match (s.mport m).remote with
  | none => .next s
  | some w =>
    if w.aborted ∨ !w.busy ∨ !s.mgtTakes then .next s else
    let s1 := (s.unqueue w.req).mportWith m (fun x => { x with remote := none, dropped := false })
    .next (if (s.mport m).dropped then s1.reply .silent else s1.drive m ⟨5, [], false⟩)

/-! ### The ring as target (R104, R105) -/

/-- The response to a ring request on its way to the origin, by the current route and with the hop limit of its origin (R102, R104); on no
route it is lost. -/
def State.ringReply (s : State) (m : Master) (c : Chip) (seq : BitVec 8) (r : FrameResp) : State :=
  match s.sideTo c with
  | none => s.reply .silent
  | some side => s.reply (.ringOut side ⟨c, s.ownChip, 15, .response m seq (BitVec.ofNat 8 r.status) r.words⟩)

/-- The slot of a remote identity. -/
def State.slot (s : State) (m : Master) (c : Chip) : Option RingSlot := s.ringSlots.find? (fun x => x.owner = m ∧ x.origin = c)

/-- The slot of a remote identity marked pending for a sequence number; requests that wait go on waiting. DESIGN CHOICE, log 24. -/
def State.slotPend (s : State) (m : Master) (c : Chip) (q : BitVec 8) : State :=
  match s.slot m c with
  | some _ => s.slotWith m c (fun y => { y with seq := q, resp := none, owed := 0 })
  | none => { s with ringSlots := ⟨m, c, q, none, [], 0, false⟩ :: s.ringSlots }

/-- A ring request executed as ring ingress. `late`: the word that ends with TIMEOUT (R78). -/
def State.ringRun (s : State) (rq : RingReq) (late : Option Nat) : State :=
  (s.slotPend rq.owner rq.origin rq.seq).startRun
    ⟨.ring rq.owner rq.origin, .ring rq.seq, rq.write, rq.fixed, 4 * rq.waddr.toNat, rq.words, [], late⟩ false 0

/-- The response that a slot owes, once it stands, sent to the origin: one answer for each copy (R105). A management reset that its request
has asked for takes effect once the response has left (R21). DESIGN CHOICE, log 24. -/
def State.answerSlot (s : State) (m : Master) (c : Chip) : State :=
  match s.slot m c with
  | none => s
  | some x => match x.resp with
    | none => s
    | some r =>
      if x.owed = 0 then s
      else
        let s1 := (s.slotWith m c (fun y => { y with owed := y.owed - 1, holds := false })).ringReply m c x.seq r
        if x.holds then s1.mgtFollow else s1

/-- A ring request taken by this chip (R101, R103–R105). DESIGN CHOICE, log 24. -/
def State.ringTake (s : State) (rq : RingReq) (late : Option Nat) : State :=
  if s.dupId then s.reply .silent
  else if !s.mgtTakes ∨ !s.loaded then s.ringReply rq.owner rq.origin rq.seq ⟨5, [], false⟩
  else match s.slot rq.owner rq.origin with
    | none => (s.ringRun rq late).answerSlot rq.owner rq.origin
    | some x =>
      if x.seq = rq.seq then
        match x.resp with
        | some r => s.ringReply rq.owner rq.origin rq.seq r
        | none => (s.slotWith rq.owner rq.origin (fun y => { y with owed := y.owed + 1 })).reply .waits
      else if x.resp.isNone || x.owed != 0 || !x.waiting.isEmpty then
        (s.slotWith rq.owner rq.origin (fun y => { y with waiting := y.waiting ++ [rq] })).reply .waits
      else (s.ringRun rq late).answerSlot rq.owner rq.origin

/-- RING_REQUEST. DESIGN CHOICE, log 7. DESIGN CHOICE, log 24. -/
def execRingRequest (rq : RingReq) (s : State) : Host.Outcome State Fault Refusal :=
  if requestWhole rq then .next (s.ringTake rq none) else .fault .illFormed

/-- A slot's next request: one that repeats the last sequence number is answered from the store, another executes. -/
def State.slotNext (s : State) (x : RingSlot) : State :=
  match x.waiting with
  | [] => s
  | rq :: t =>
    let s1 := s.slotWith x.owner x.origin (fun y => { y with waiting := t })
    if rq.seq = x.seq then s1.slotWith x.owner x.origin (fun y => { y with owed := y.owed + 1 }) else s1.ringRun rq none

/-- Requests that have waited for the one in execution of their identity, and may execute now. DESIGN CHOICE, log 3.
DESIGN CHOICE, log 24. -/
def State.ringNext (s : State) : State :=
  s.ringSlots.foldl (fun s x => if x.resp.isSome && x.owed == 0 then s.slotNext x else s) s

/-! ### Links and routes (R88, R100–R103) -/

/-- The hops to a chip in the direction of a side, if it is reached. -/
def State.hops (s : State) (side : Side) (c : Chip) : Option Nat := ((s.ringSides[side]).reach.find? (fun h => h.chip == c)).map (fun h => h.hops)

/-- The routes that the rosters give (R102): fewer hops, RING0 on a tie. -/
def State.routeOf (s : State) (c : Chip) : Nat :=
  if c = s.ownChip then 3 else
  match s.hops 0 c, s.hops 1 c with
  | none, none => 0
  | some _, none => 1
  | none, some _ => 2
  | some a, some b => if a ≤ b then 1 else 2

/-- `LINKn_UP`. -/
def linkFld (side : Side) : Fld := if side = 0 then F.MGT_RING_STATUS_LINK0_UP else F.MGT_RING_STATUS_LINK1_UP

/-- `MISWIREn`. -/
def miswireFld (side : Side) : Fld := if side = 0 then F.MGT_RING_STATUS_MISWIRE0 else F.MGT_RING_STATUS_MISWIRE1

/-- Every chip. -/
def allChips : List Chip := List.finRange 16

/-- The attention bits of chips that are no longer reachable cleared (R88). -/
def State.attnDrop (s : State) (members : Nat) : State :=
  (s.put .mgt F.MGT_RING_ATTN_ATTN_A (s.get .mgt F.MGT_RING_ATTN_ATTN_A &&& members)).put .mgt F.MGT_RING_ATTN_ATTN_B
    (s.get .mgt F.MGT_RING_ATTN_ATTN_B &&& members)

/-- `MGT_RING_ROUTE`, `MEMBERS` and `CLOSED` formed anew from the rosters, with ROUTE_CHANGE where the members change.
DESIGN CHOICE, log 25. -/
def State.reroute (s : State) : State :=
  let old := s.get .mgt F.MGT_RING_STATUS_MEMBERS
  let there (c : Chip) : Bool := if c = s.ownChip then !s.dupId else s.routeOf c != 0
  let members := allChips.foldl (fun n c => if there c then n + 2 ^ c.val else n) 0
  let others := allChips.filter (fun c => c != s.ownChip && s.routeOf c != 0)
  let closed := !others.isEmpty && others.all (fun c => (s.hops 0 c).isSome && (s.hops 1 c).isSome)
  let s1 := allChips.foldl (fun a c => a.put .mgt ⟨0x68, 2 * c.val, 2⟩ (s.routeOf c)) s
  let s2 := ((s1.put .mgt F.MGT_RING_STATUS_MEMBERS members).setFlag .mgt F.MGT_RING_STATUS_CLOSED closed).attnDrop members
  if members = old then s2 else s2.raise .mgt evRouteChange 0 members

/-- `GLB_READY.RING_UP` follows the links. -/
def State.ringSync (s : State) : State :=
  s.setFlag .glb F.GLB_READY_RING_UP (s.flag .mgt (linkFld 0) || s.flag .mgt (linkFld 1))

/-- The other side of a chip. -/
def otherSide (side : Side) : Side := if side = 0 then 1 else 0

/-- A roster queued for a link that is up; one that has not left is replaced. -/
def State.queueRoster (s : State) (side : Side) (ro : Roster) : State :=
  if !s.flag .mgt (linkFld side) then s else
  let nb := (s.ringSides[side]).neighbour.getD s.ownChip
  (s.sideWith side (fun x => { x with tx := x.tx.filter (fun fr => match fr.body with
    | .roster _ => false
    | _ => true) })).queueOut side nb (.roster ro)

/-- The roster of this chip (R102). -/
def State.ownRoster (s : State) : Roster := ⟨s.ownChip, 1, (s.ringSides[0]).reach, (s.ringSides[1]).reach⟩

/-- The roster of this chip queued for both links; a chip that has found its own ID elsewhere sends none (R103). DESIGN CHOICE, log 25. -/
def State.sendRosters (s : State) : State := if s.dupId then s else (s.queueRoster 0 s.ownRoster).queueRoster 1 s.ownRoster

/-- The chips that a roster names in the direction of a side. -/
def rosterBeyond (ro : Roster) (side : Side) : List Hop := if side = 0 then ro.ring0 else ro.ring1

/-- The chips that lie in the direction of a side by a roster that has come from it: its sender and those beyond, with their hops. -/
def rosterSeen (ro : Roster) (side : Side) : List Hop :=
  (⟨ro.chip, ro.hops⟩ :: (rosterBeyond ro side).map (fun h => { h with hops := h.hops + ro.hops })).filter (fun h => decide (h.hops ≤ 15))

/-- This chip's own ID in a roster is that of another chip (R103), unless it can be this chip itself: the nearest in the direction the roster
has come from, or the last where the ring closes on the neighbour of the other side. DESIGN CHOICE, log 25. -/
def State.ownElsewhere (s : State) (side : Side) (ro : Roster) : Bool :=
  let own (h : Hop) : Bool := h.chip == s.ownChip
  let ahead := (⟨ro.chip, ro.hops⟩ : Hop) :: rosterBeyond ro side
  let before := ahead.takeWhile (fun h => !own h)
  let far := (s.ringSides[otherSide side]).neighbour
  let closes := s.flag .mgt (linkFld (otherSide side)) && before.length + 1 == ahead.length && (before.getLast?).map (fun h => h.chip) == far
  (ahead.any own && !closes) || ((rosterBeyond ro (otherSide side)).drop 1).any own

/-- LINK_UP (R100): a link that joins two RING0 sides, or two RING1 sides, never comes up. DESIGN CHOICE, log 25. -/
def execLinkUp (side : Side) (nb : Neighbour) (s : State) : Host.Outcome State Fault Refusal :=
  if !s.ringOn || s.flag .mgt (linkFld side) || nb.side == side then .next s else
  let s1 := s.sideWith side (fun x => { x with neighbour := some nb.chip })
  .next ((((((s1.put .mgt (linkFld side) 1).put .mgt (miswireFld side) 0).ringSync).raise .mgt evLinkUp 0 (side.val + 16 * nb.chip.val))).sendRosters)

/-- MISWIRE. DESIGN CHOICE, log 25. -/
def execMiswire (side : Side) (s : State) : Host.Outcome State Fault Refusal :=
  if !s.ringOn || s.flag .mgt (linkFld side) || s.flag .mgt (miswireFld side) then .next s
  else .next ((s.put .mgt (miswireFld side) 1).raise .mgt evMiswire 0 side.val)

/-- LINK_DOWN: the frames queued for the link are lost (R101–R103). -/
def execLinkDown (side : Side) (s : State) : Host.Outcome State Fault Refusal :=
  if !s.ringOn || !s.flag .mgt (linkFld side) then .next s else
  let nb := match (s.ringSides[side]).neighbour with
    | none => 0
    | some c => c.val
  let s1 := s.sideWith side (fun x => { x with reach := [], tx := [] })
  let s2 := ((s1.put .mgt (linkFld side) 0).count .mgt F.MGT_RING_CNT_LINK_DOWN_CNT).ringSync
  .next (((s2.raise .mgt evLinkDown 0 (side.val + 16 * nb)).reroute).sendRosters)

/-- What this chip would send of its own is dropped: frames that have not left, and responses owed (R103). DESIGN CHOICE, log 25. -/
def State.dropOwn (s : State) : State :=
  { s with ringSides := s.ringSides.map (fun x => { x with tx := [] }), ringSlots := [] }

/-- ROSTER: the chips reached in the direction of a side, as far as this chip itself; this chip's own ID elsewhere in it is a duplicate
(R103), and from then on this chip originates nothing. What the roster changes goes on to both neighbours; a chip that only forwards passes
the roster itself on. DESIGN CHOICE, log 25. -/
def execRoster (side : Side) (ro : Roster) (s : State) : Host.Outcome State Fault Refusal :=
  if !s.ringOn || !s.flag .mgt (linkFld side) then .next s else
  let s1 := s.sideWith side (fun x => { x with reach := (rosterSeen ro side).takeWhile (fun h => h.chip != s.ownChip) })
  if s.dupId then .next ((s1.reroute).queueRoster (otherSide side) { ro with hops := ro.hops + 1 })
  else if s.ownElsewhere side ro then .next (((s1.dropOwn.put .mgt F.MGT_RING_STATUS_DUP_ID 1).raise .mgt evDupChipId 0 s.ownChip.val).reroute)
  else .next (if (s.ringSides[side]).reach = (s1.ringSides[side]).reach then s1.reroute else (s1.reroute).sendRosters)

/-- RING_FORWARD: a frame on its way loses a hop; one that reaches 0, or finds no route, is discarded (R102, R103). -/
def execRingForward (fr : RingFrame) (s : State) : Host.Outcome State Fault Refusal :=
  if !s.ringOn || fr.dest = s.ownChip && !s.dupId then .next s
  else if fr.hopLimit.val ≤ 1 then .next (s.reply .silent)
  else .next (match s.sideTo fr.dest with
    | none => s.reply .silent
    | some side => s.reply (.ringOut side { fr with hopLimit := fr.hopLimit - 1 }))

/-- ATTENTION_NOTICE (R88). DESIGN CHOICE, log 25. -/
def execAttentionNotice (sender : Chip) (qb : Bool) (set : Bool) (s : State) : Host.Outcome State Fault Refusal :=
  if !s.ringOn || s.dupId then .next s else .next (s.setAttn sender qb set)

/-- SEM_ORPHAN_END (R94). -/
def execSemOrphanEnd (c : Chip) (s : State) : Host.Outcome State Fault Refusal :=
  if !s.coreUp || s.cfg .mgt F.MGT_RING_CFG_SEM_ORPHAN = 0 || c = s.ownChip || s.route c ≠ 0 then .next s
  else .next (s.semOrphan (fun s n => s.flag .glb (F.GLB_SEMn_OWNER_HELD n.val) && s.get .glb (F.GLB_SEMn_OWNER_ORIGIN n.val) == c.val))

/-! ### The tick of an idle block -/

/-- The frame at the head of a link's queue leaves. -/
def State.sendOne (s : State) (side : Side) : Option State :=
  if !s.flag .mgt (linkFld side) then none else
  match (s.ringSides[side]).tx with
  | [] => none
  | fr :: t => some ((s.sideWith side (fun x => { x with tx := t })).reply (.ringOut side fr))

/-- One output of the ring side: an answer that a slot owes, or the frame that a link sends next. DESIGN CHOICE, log 3. -/
def State.ringOutput (s : State) : State :=
  match s.ringSlots.find? (fun x => x.owed != 0 && x.resp.isSome) with
  | some x => s.answerSlot x.owner x.origin
  | none => match s.sendOne 0 with
    | some t => t
    | none => (s.sendOne 1).getD s

/-- What goes on without a command in one RCLK cycle: time advances, accesses that wait are tried again, ring requests that waited begin, changes of attention are told, and
one ring frame leaves. DESIGN CHOICE, log 3. -/
def State.tick (s : State) : State :=
  if s.coreUp then (s.rclkCycle.resumeRuns.ringNext.attnNotices).ringOutput else s

end Sys2Proof.Machine
end

