-- ==== Sys2Proof/Machine/HostExec.lean ====
section
/-! DEFINITION. The register requests of the management function (R353–R357): a host agent's words as register accesses. -/

namespace Sys2Proof.Machine

/-- The word address of a register request (R353). -/
def regWaddr (value index : BitVec 16) : BitVec 24 := (index.setWidth 8 ++ value).setWidth 24

/-- `FIXED` of a register request (R353). -/
def regFixed (index : BitVec 16) : Bool := index.getLsbD 8

/-- What R354 checks at SETUP: wIndex [15:9], the length, and words that keep to one page. -/
def regLen (value index : BitVec 16) (len : Nat) : Bool :=
  let waddr := regWaddr value index
  let fixed := regFixed index
  decide (index.toNat < 512) && len % 8 == 0 && decide (8 ≤ len ∧ len ≤ 512) && (fixed || decide (waddr.toNat % 0x400 + len / 8 ≤ 0x400))

/-- The run of a register request. -/
def regRun (u : Up) (write : Bool) (value index : BitVec 16) (ws : List FrameWord) (late : Option Nat) : AccessRun :=
  ⟨hostReq u, .vendor, write, regFixed index, 4 * (regWaddr value index).toNat, ws, [], late⟩

/-- A register read begun; `late` is the word that ends with TIMEOUT (R78). -/
def State.regReads (s : State) (fi : FnInst) (value index : BitVec 16) (len : Nat) (late : Option Nat) : State :=
  s.vendor fi (regLen value index len)
    (((s.vendorBegin fi.up 1 (4 * (regWaddr value index).toNat) len []).startRun
      (regRun fi.up false value index (List.replicate (len / 8) ⟨0xF, 0⟩) late) false 0).reply .waits)

/-- REG_READ. -/
def execRegRead (fi : FnInst) (value index : BitVec 16) (len : Nat) (s : State) : Host.Outcome State Fault Refusal :=
  .next (s.regReads fi value index len none)

/-- The entries of a REG_WRITE: eight bytes each (R354). -/
def regEntries : List Byte → List FrameWord
  | a :: b :: c :: d :: e :: _ :: _ :: _ :: t =>
    ⟨e.setWidth 4, BitVec.ofNat 32 (a.toNat + b.toNat * 0x100 + c.toNat * 0x10000 + d.toNat * 0x1000000)⟩ :: regEntries t
  | _ => []

/-- Every entry's reserved bytes and nibble are zero (R354). -/
def regClean : List Byte → Bool
  | _ :: _ :: _ :: _ :: e :: f :: g :: h :: t => decide (e.toNat < 16) && f == 0 && g == 0 && h == 0 && regClean t
  | _ => true

/-- A register write whose data stage is complete; `late` is the word that ends with TIMEOUT (R78). -/
def State.regWrites (s : State) (fi : FnInst) (value index : BitVec 16) (ents : List Byte) (parityErr : Bool) (late : Option Nat) :
    State :=
  let u := fi.up
  s.vendor fi (regLen value index ents.length)
    (let s1 := s.epmPut (epmBase u + epmEp0) ents
     if parityErr then (s1.epmError u 0).fnStall u
     else
       let s2 := s1.vendorBegin u 2 (4 * (regWaddr value index).toNat) ents.length []
       if !regClean ents then (s2.mgfWith u (fun m => { m with exec := m.exec.map (fun e => { e with refused := true, finished := true }) })).reply .waits
       else (s2.startRun (regRun u true value index (regEntries ents) late) false 0).reply .waits)

/-- REG_WRITE. -/
def execRegWrite (fi : FnInst) (value index : BitVec 16) (ents : List Byte) (parityErr : Bool) (s : State) :
    Host.Outcome State Fault Refusal :=
  .next (s.regWrites fi value index ents parityErr none)

/-- The address of a word of a run. -/
def wordAt (waddr : BitVec 24) (fixed : Bool) (n : Nat) : Nat := 4 * (waddr.toNat + if fixed then 0 else n)

/-- ACCESS_TIMEOUT (R78): the clock of the target page has stopped after the access was issued, and the word is withdrawn with TIMEOUT.
An access whose target's clock runs, and a local master's, does not time out; a word in the middle of a run may be issued before the
clock stops. DEDUCED, log 17. -/
def execAccessTimeout (late : LateAccess) (place : Nat) (wr : Option FrameWord) (s : State) : Host.Outcome State Fault Refusal :=
  match late with
  | .single who => .next (if s.timesOut who 0 place wr then s.reply (.word 3 0) else s)
  | .ring rq =>
    if !requestWhole rq || rq.words.length ≤ place then .fault .illFormed
    else if s.timesOut (.ring rq.owner rq.origin) place (wordAt rq.waddr rq.fixed place) (if rq.write then rq.words[place]? else none) then
      .next (s.ringTake rq (some place))
    else .next s
  | .vendorRead fi value index len =>
    .next (if s.timesOut (hostReq fi.up) place (wordAt (regWaddr value index) (regFixed index) place) none then
      s.regReads fi value index len (some place) else s)
  | .vendorWrite fi value index ents =>
    .next (if s.timesOut (hostReq fi.up) place (wordAt (regWaddr value index) (regFixed index) place) (regEntries ents)[place]? then
      s.regWrites fi value index ents false (some place) else s)

end Sys2Proof.Machine
end

