-- ==== Sys2Proof/Machine/RegRows.lean ====
section
/-! DEFINITION. The commands that are single register accesses: each is the read, the write or the guarded pair of one
register by a requester, whose effect the access rules give. -/

namespace Sys2Proof.Machine

/-- The byte address of a page's offset. -/
def regAddr (pg : PageId) (off : Nat) : Nat := pg.base + off

/-- A guarded pair that sets one field of an RWG register and leaves the others. -/
def State.pairField (s : State) (who : Requester) (pg : PageId) (f : Fld) (v : Nat) : State :=
  s.pairOne who (regAddr pg f.off) (fldSet f (s.rd (regAddr pg f.off)) v)

/-- A whole-word write that sets one field of a register and leaves the others. -/
def State.writeField (s : State) (who : Requester) (pg : PageId) (f : Fld) (v : Nat) : State :=
  s.writeOne who (regAddr pg f.off) 0xF (fldSet f (s.rd (regAddr pg f.off)) v)

/-- A page with the common header (R48, R49). -/
def hasHeader : PageId → Bool
  | .win _ => false
  | _ => true

/-! ### Any register -/

/-- REGISTER_WRITE (R56). -/
def execRegisterWrite (who : Requester) (addr : Nat) (be : BitVec 4) (v : Word) (s : State) : Host.Outcome State Fault Refusal :=
  .next (s.writeOne who addr be v)

/-- GUARD_FIRST_WRITE (R61). -/
def execGuardFirstWrite (who : Requester) (addr : Nat) (be : BitVec 4) (v : Word) (s : State) : Host.Outcome State Fault Refusal :=
  .next (s.writeOne who addr be v)

/-- GUARD_COMPLEMENT_WRITE (R61). -/
def execGuardComplementWrite (who : Requester) (addr : Nat) (be : BitVec 4) (v : Word) (s : State) : Host.Outcome State Fault Refusal :=
  .next (s.writeOne who addr be v)

/-- GUARD_EXPIRE (R63). -/
def execGuardExpire (idn : Ident) (s : State) : Host.Outcome State Fault Refusal := .next (s.breakPair idn)

/-- Bits of a register upset (R68); an upset that makes its parity right again ends a mismatch that had been found. A register that is
held in reset is not upset. DESIGN CHOICE, log 26. -/
def State.upsetAt (s : State) (addr : Nat) (flips : Word) : State :=
  match s.accessPage addr with
  | none => s
  | some pg =>
    if s.domainInRst pg then s else
    let s1 := s.upset addr flips
    if s.badFound pg (addr % 0x1000) && !s1.badFound pg (addr % 0x1000) then
      State.afterWrite s s1 (s.identOf .a) pg (addr % 0x1000) 0 0 true false 0
    else s1

/-- PARITY_SCRUB (R69): the upsets since the visit before, and the scrubber's visit to one register. A page whose clock is stopped or whose
domain is in reset is not scrubbed. DESIGN CHOICE, log 26. -/
def execParityScrub (ups : List (Nat × Word)) (addr : Nat) (s : State) : Host.Outcome State Fault Refusal :=
  let s1 := ups.foldl (fun s u => s.upsetAt u.1 u.2) s
  .next (match s1.accessPage addr with
    | none => s1
    | some pg => if !s1.clockOn pg || s1.domainInRst pg then s1 else s1.parityVisit pg (addr % 0x1000))

/-- PAGE_EN_WRITE (R52). -/
def execPageEnWrite (who : Requester) (pg : PageId) (en : Bool) (s : State) : Host.Outcome State Fault Refusal :=
  .next (if hasHeader pg then s.writeOne who (regAddr pg 4) 0xF (BitVec.ofNat 32 (bit en)) else s)

/-- BLK_RST (R52). -/
def execBlkRst (who : Requester) (pg : PageId) (s : State) : Host.Outcome State Fault Refusal :=
  .next (if hasHeader pg then s.writeOne who (regAddr pg 4) 0xF ((s.rd (regAddr pg 4) &&& 1) ||| 2) else s)

/-- RESTART_COMPLETE (R52). DEDUCED, log 32. -/
def execRestartComplete (pg : PageId) (s : State) : Host.Outcome State Fault Refusal :=
  .next (if hasHeader pg && s.flag pg F.PAGE_STATUS_RESTARTING then
    (s.put pg F.PAGE_CTRL_BLK_RST 0).put pg F.PAGE_STATUS_RESTARTING 0 else s)

/-! ### Clocks and resets (R13, R17–R22) -/

/-- CORE_RST. -/
def execCoreRst (who : Requester) (s : State) : Host.Outcome State Fault Refusal := .next (s.pairField who .clk F.CLK_RESET_CORE_RST 1)

/-- PLATE_RST. -/
def execPlateRst (who : Requester) (v : BitVec 4) (s : State) : Host.Outcome State Fault Refusal :=
  .next (s.pairField who .clk F.CLK_RESET_PLATE_RST v.toNat)

/-- GRAVER_RST. -/
def execGraverRst (who : Requester) (v : Bool) (s : State) : Host.Outcome State Fault Refusal :=
  .next (s.pairField who .clk F.CLK_RESET_GRAVER_RST (bit v))

/-- DRC_RST. -/
def execDrcRst (who : Requester) (v : Bool) (s : State) : Host.Outcome State Fault Refusal :=
  .next (s.pairField who .clk F.CLK_RESET_DRC_RST (bit v))

/-- MGT_RST. -/
def execMgtRst (who : Requester) (v : Bool) (s : State) : Host.Outcome State Fault Refusal :=
  .next (s.pairField who .clk F.CLK_RESET_MGT_RST (bit v))

/-- DCLK_RUN. -/
def execDclkRun (who : Requester) (v : Bool) (s : State) : Host.Outcome State Fault Refusal :=
  .next (s.pairField who .clk F.CLK_GATE_DCLK_RUN (bit v))

/-- GCLK_RUN. -/
def execGclkRun (who : Requester) (v : Bool) (s : State) : Host.Outcome State Fault Refusal :=
  .next (s.pairField who .clk F.CLK_GATE_GCLK_RUN (bit v))

/-- FCLK_PLATE_RUN. -/
def execFclkPlateRun (who : Requester) (v : BitVec 4) (s : State) : Host.Outcome State Fault Refusal :=
  .next (s.pairField who .clk F.CLK_GATE_FCLK_PLATE_RUN v.toNat)

/-- PORT_RST (R18, R19). -/
def execPortRst (who : Requester) (hi : Bool) (be : BitVec 4) (v : Word) (s : State) : Host.Outcome State Fault Refusal :=
  .next (s.writeOne who (regAddr .clk (if hi then 0x58 else 0x54)) be v)

/-! ### Semaphores and rights (R92–R96) -/

/-- SEM_CLAIM. -/
def execSemClaim (who : Requester) (n : Sem) (s : State) : Host.Outcome State Fault Refusal :=
  .next (s.readOne who (regAddr .glb (0x100 + 16 * n.val)))

/-- SEM_RELEASE. -/
def execSemRelease (who : Requester) (n : Sem) (be : BitVec 4) (s : State) : Host.Outcome State Fault Refusal :=
  .next (s.writeOne who (regAddr .glb (0x104 + 16 * n.val)) be 0)

/-- SEM_FORCE. -/
def execSemForce (who : Requester) (v : Word) (s : State) : Host.Outcome State Fault Refusal :=
  .next (s.pairOne who (regAddr .glb 0x300) v)

/-- HOST_GRANT_CHANGE. -/
def execHostGrantChange (who : Requester) (v : BitVec 2) (s : State) : Host.Outcome State Fault Refusal :=
  .next (s.pairOne who (regAddr .mgt 0x44) (v.setWidth 32))

/-! ### Event queues (R123–R129) -/

/-- EVQ_POP. -/
def execEvqPop (who : Requester) (q : QueueIx) (s : State) : Host.Outcome State Fault Refusal :=
  .next (s.readOne who (regAddr .evq (0x40 + 0x40 * q.val)))

/-- The oldest run that waits in a pop of a queue. -/
def State.popWaiter (s : State) (q : QueueIx) : Option AccessRun := s.runs.find? (AccessRun.popsQueue q)

/-- POP_COMPLETE (R126). DEDUCED, log 20. -/
def execPopComplete (q : QueueIx) (s : State) : Host.Outcome State Fault Refusal :=
  match s.popWaiter q, (s.queue q).handoff with
  | some r, some _ => .next (s.resumeRun r)
  | _, _ => .next s

/-- The queue that a run waits to pop. -/
def AccessRun.waitsOn (r : AccessRun) : Option QueueIx := (List.finRange 4).find? (fun q => AccessRun.popsQueue q r)

/-- A pop that has waited as long as it may ends with zero, and its run goes on (R124). -/
def State.popGivesUp (s : State) (r : AccessRun) (q : QueueIx) : State :=
  if (s.queue q).handoff.isSome && s.popWaiter q == some r then s.resumeRun r else
  let r1 := { r with addr := if r.fixed then r.addr else r.addr + 4, done := r.done ++ [⟨0, 0⟩] }
  let q2 := State.runOn false 0 (r.left.drop 1) false r1 (s.setRuns (s.runs.erase r))
  q2.2.settleRun q2.1

/-- EVQ_POP_TIMEOUT (R124). -/
def execEvqPopTimeout (who : Requester) (s : State) : Host.Outcome State Fault Refusal :=
  if isMaster who then .next s else
  match s.runs.find? (fun r => r.who == who && r.waitsOn.isSome) with
  | none => .next s
  | some r => match r.waitsOn with
    | none => .next s
    | some q => .next (s.popGivesUp r q)

/-- EVQ_PEEK. -/
def execEvqPeek (who : Requester) (q : QueueIx) (s : State) : Host.Outcome State Fault Refusal :=
  .next (s.readOne who (regAddr .evq (0x50 + 0x40 * q.val)))

/-- FLUSH. -/
def execFlush (who : Requester) (q : QueueIx) (s : State) : Host.Outcome State Fault Refusal :=
  .next (s.writeOne who (regAddr .evq (0x78 + 0x40 * q.val)) 0xF 1)

/-- EVENT_ROUTE (R115, R120); a notice that becomes pending may wake its host (R366). -/
def execEventRoute (s : State) : Host.Outcome State Fault Refusal := .next (if s.coreUp then s.routeOne.noticeWake s else s)

/-- UPTIME_ALIGN (R118). DESIGN CHOICE, log 5. -/
def execUptimeAlign (s : State) : Host.Outcome State Fault Refusal :=
  .next (if s.coreUp then s.alignUptime else s)

/-! ### The configuration store (R148–R151) -/

/-- STAGE_WRITE. -/
def execStageWrite (who : Requester) (be : BitVec 4) (v : Word) (s : State) : Host.Outcome State Fault Refusal :=
  .next (s.writeOne who (regAddr .cfg 0x64) be v)

/-- STAGE_READ. -/
def execStageRead (who : Requester) (s : State) : Host.Outcome State Fault Refusal := .next (s.readOne who (regAddr .cfg 0x68))

/-- COMMIT. DESIGN CHOICE, log 19. -/
def execCommit (who : Requester) (parityErr : Bool) (s : State) : Host.Outcome State Fault Refusal :=
  .next (s.oneWith who (regAddr .cfg 0x5C) (some ⟨0xF, 1⟩) parityErr 0)

/-- FETCH_ACTIVE. -/
def execFetchActive (who : Requester) (s : State) : Host.Outcome State Fault Refusal := .next (s.writeOne who (regAddr .cfg 0x5C) 0xF 2)

/-- FETCH_OTHER. -/
def execFetchOther (who : Requester) (s : State) : Host.Outcome State Fault Refusal := .next (s.writeOne who (regAddr .cfg 0x5C) 0xF 4)

/-! ### Power -/

/-- POOL_WRITE (R182, R200). -/
def execPoolWrite (who : Requester) (single : Bool) (be : BitVec 4) (v : Word) (s : State) : Host.Outcome State Fault Refusal :=
  .next (s.writeOne who (regAddr .bgt (if single then 0x44 else 0x40)) be v)

/-- TARGET_WRITE (R189, R200). -/
def execTargetWrite (who : Requester) (p : Port) (be : BitVec 4) (v : Word) (s : State) : Host.Outcome State Fault Refusal :=
  .next (s.writeOne who (regAddr .bgt (0x80 + 4 * p.val)) be v)

/-- FORCE_OFF (R203). -/
def execForceOff (who : Requester) (p : Port) (v : Bool) (s : State) : Host.Outcome State Fault Refusal :=
  .next (s.writeField who (.vbs p) F.VBS_CTRL_FORCE_OFF (bit v))

/-! ### Ports -/

/-- RECOVER (R221). -/
def execRecover (who : Requester) (p : Port) (s : State) : Host.Outcome State Fault Refusal :=
  .next (s.writeOne who (regAddr (.tcp p) 0x4C) 0xF 1)

/-- CON_RXDATA_READ (R230). -/
def execConRxdataRead (who : Requester) (p : Port) (s : State) : Host.Outcome State Fault Refusal :=
  .next (s.readOne who (regAddr (.con p) 0x4C))

/-- CON_TXDATA_WRITE (R225). -/
def execConTxdataWrite (who : Requester) (p : Port) (be : BitVec 4) (v : Word) (s : State) : Host.Outcome State Fault Refusal :=
  .next (s.writeOne who (regAddr (.con p) 0x50) be v)

/-- PD_CTRL_HARD_RESET (R257, R263). -/
def execPdCtrlHardReset (who : Requester) (p : Port) (s : State) : Host.Outcome State Fault Refusal :=
  .next (s.writeOne who (regAddr (.tcp p) 0x90) 0xF 1)

/-- PD_CTRL_SOFT_RESET (R256, R263). -/
def execPdCtrlSoftReset (who : Requester) (p : Port) (s : State) : Host.Outcome State Fault Refusal :=
  .next (s.writeOne who (regAddr (.tcp p) 0x90) 0xF 2)

/-- SEND_CAPS (R263). -/
def execSendCaps (who : Requester) (p : Port) (s : State) : Host.Outcome State Fault Refusal :=
  .next (s.writeOne who (regAddr (.tcp p) 0x90) 0xF 4)

/-- REDISCOVER (R248, R263). -/
def execRediscover (who : Requester) (p : Port) (s : State) : Host.Outcome State Fault Refusal :=
  .next (s.writeOne who (regAddr (.tcp p) 0x90) 0xF 8)

/-- EXIT_MODE (R259, R263). -/
def execExitMode (who : Requester) (p : Port) (s : State) : Host.Outcome State Fault Refusal :=
  .next (s.writeOne who (regAddr (.tcp p) 0x90) 0xF 16)

/-- PD_EN_WRITE (R262). -/
def execPdEnWrite (who : Requester) (p : Port) (v : Bool) (s : State) : Host.Outcome State Fault Refusal :=
  .next (s.writeField who (.tcp p) F.TCP_PD_POLICY_PD_EN (bit v))

/-! ### SuperSpeed and presentations -/

/-- ENTER_CP (R317). -/
def execEnterCp (who : Requester) (f : Full) (s : State) : Host.Outcome State Fault Refusal :=
  .next (s.writeOne who (regAddr (.ssp f) 0x50) 0xF 1)

/-- LOOP_MASTER (R318). -/
def execLoopMaster (who : Requester) (f : Full) (s : State) : Host.Outcome State Fault Refusal :=
  .next (s.writeOne who (regAddr (.ssp f) 0x50) 0xF 2)

/-- EXIT (R317, R318). DESIGN CHOICE, log 19. -/
def execExitTest (who : Requester) (f : Full) (errors : Nat) (s : State) : Host.Outcome State Fault Refusal :=
  .next (s.oneWith who (regAddr (.ssp f) 0x50) (some ⟨0xF, 4⟩) false errors)

/-- MARGIN_START (R319). -/
def execMarginStart (who : Requester) (f : Full) (s : State) : Host.Outcome State Fault Refusal :=
  .next (s.writeOne who (regAddr (.ssp f) 0x58) 0xF 1)

/-- MAX_GEN_WRITE (R304). -/
def execMaxGenWrite (who : Requester) (lk : SsLink) (v : Bool) (s : State) : Host.Outcome State Fault Refusal :=
  match lk with
  | .down f => .next (s.writeField who (.ssp f) F.SSP_CFG_MAX_GEN (bit v))
  | .up u => .next (s.writeField who (.ups u) F.UPS_CFG_MAX_GEN (bit v))

/-- OWNER_WRITE (R332, R338, R428). -/
def execOwnerWrite (who : Requester) (p : Port) (be : BitVec 4) (v : Word) (s : State) : Host.Outcome State Fault Refusal :=
  .next (s.writeOne who (regAddr .prs (0x100 + 4 * p.val)) be v)

/-- FAILBACK (R343). -/
def execFailback (who : Requester) (s : State) : Host.Outcome State Fault Refusal := .next (s.writeOne who (regAddr .prs 0x48) 0xF 4)

/-- REATTACH (R344). -/
def execReattach (who : Requester) (u : Up) (s : State) : Host.Outcome State Fault Refusal :=
  .next (s.writeOne who (regAddr .prs 0x48) 0xF (if u = 0 then 1 else 2))

/-! ### Function memory, graver and DRAM -/

/-- EPM_WIN_READ (R372). -/
def execEpmWinRead (who : Requester) (s : State) : Host.Outcome State Fault Refusal := .next (s.readOne who (regAddr .epm 0x4C))

/-- DOORBELL (R381). -/
def execDoorbell (who : Requester) (r : RingIx) (be : BitVec 4) (v : Word) (s : State) : Host.Outcome State Fault Refusal :=
  .next (s.writeOne who (regAddr .grv (0x10C + 0x40 * r.val)) be v)

/-- CR_CONS_WRITE (R382). -/
def execCrConsWrite (who : Requester) (r : RingIx) (be : BitVec 4) (v : Word) (s : State) : Host.Outcome State Fault Refusal :=
  .next (s.writeOne who (regAddr .grv (0x124 + 0x40 * r.val)) be v)

/-- BUF_WDATA (R378). -/
def execBufWdata (who : Requester) (be : BitVec 4) (v : Word) (s : State) : Host.Outcome State Fault Refusal :=
  .next (s.writeOne who (regAddr .grv 0x50) be v)

/-- BUF_RDATA (R378). -/
def execBufRdata (who : Requester) (s : State) : Host.Outcome State Fault Refusal := .next (s.readOne who (regAddr .grv 0x54))

/-- RING_CFG_RESTART (R406): a write to a register of ring r. -/
def execRingCfgRestart (who : Requester) (r : RingIx) (off : Nat) (be : BitVec 4) (v : Word) (s : State) : Host.Outcome State Fault Refusal :=
  .next (s.writeOne who (regAddr .grv (0x100 + 0x40 * r.val + off % 0x40)) be v)

/-- LOAD (R413). -/
def execLoad (who : Requester) (w : WinIx) (s : State) : Host.Outcome State Fault Refusal :=
  .next (s.writeField who .drc ⟨0x88 + 16 * w.val, 0, 2⟩ 1)

/-- STORE (R413). -/
def execStore (who : Requester) (w : WinIx) (s : State) : Host.Outcome State Fault Refusal :=
  .next (s.writeField who .drc ⟨0x88 + 16 * w.val, 0, 2⟩ 2)

/-- ECC_CLEAR (R418). -/
def execEccClear (who : Requester) (s : State) : Host.Outcome State Fault Refusal :=
  .next (s.writeOne who (regAddr .drc 0x60) 0xF 0x80000000)

/-! ### Compatibility windows (R429–R435) -/

/-- COMPAT_ATTACH (R432). -/
def execCompatAttach (who : Requester) (i : Inst) (s : State) : Host.Outcome State Fault Refusal :=
  .next (s.writeOne who (regAddr (.win i) 0x3FC) 0xF 1)

/-- INST_RESET (R435). -/
def execInstReset (who : Requester) (mask : Byte) (s : State) : Host.Outcome State Fault Refusal :=
  .next (s.writeOne who (regAddr .cpt 0x48) 0xF (mask.setWidth 32))

/-- RC_READ (R57, R429). -/
def execRcRead (who : Requester) (i : Inst) (off : Byte) (s : State) : Host.Outcome State Fault Refusal :=
  .next (s.readOne who (regAddr (.win i) (4 * off.toNat)))

/-- CONFIG_AREA_WRITE (R429). -/
def execConfigAreaWrite (who : Requester) (i : Inst) (off v : Byte) (s : State) : Host.Outcome State Fault Refusal :=
  .next (s.writeOne who (regAddr (.win i) (4 * off.toNat)) 1 (v.setWidth 32))

/-! ### Health (R450–R458) -/

/-- QUAR_SET. -/
def execQuarSet (who : Requester) (hi : Bool) (v : Word) (s : State) : Host.Outcome State Fault Refusal :=
  .next (s.writeOne who (regAddr .hlt (if hi then 0x6C else 0x68)) 0xF v)

/-- QUAR_RELEASE. -/
def execQuarRelease (who : Requester) (hi : Bool) (v : Word) (s : State) : Host.Outcome State Fault Refusal :=
  .next (s.writeOne who (regAddr .hlt (if hi then 0x64 else 0x60)) 0xF v)

/-- PLATE_ISO_SET: bits set beside those that stand. -/
def execPlateIsoSet (who : Requester) (v : BitVec 4) (s : State) : Host.Outcome State Fault Refusal :=
  .next (s.pairField who .hlt F.HLT_PLATE_ISO_ISO (s.get .hlt F.HLT_PLATE_ISO_ISO ||| v.toNat))

/-- PLATE_ISO_CLEAR: bits cleared among those that stand. -/
def execPlateIsoClear (who : Requester) (v : BitVec 4) (s : State) : Host.Outcome State Fault Refusal :=
  .next (s.pairField who .hlt F.HLT_PLATE_ISO_ISO (s.get .hlt F.HLT_PLATE_ISO_ISO &&& (~~~v).toNat))

/-- PEAK_CLR. -/
def execPeakClr (who : Requester) (s : State) : Host.Outcome State Fault Refusal := .next (s.writeOne who (regAddr .hlt 0x5C) 0xF 1)

/-- GO written where `KIND` selects an update. -/
def State.goWith (s : State) (who : Requester) (kinds : List Nat) : State :=
  if kinds.contains (s.get .hlt F.HLT_UPD_CFG_KIND) then s.writeOne who (regAddr .hlt 0x98) 0xF 1 else s

/-- UPDATE_PORT_POLICY. -/
def execUpdatePortPolicy (who : Requester) (s : State) : Host.Outcome State Fault Refusal := .next (s.goWith who [0, 3])

/-- UPDATE_PORT. -/
def execUpdatePort (who : Requester) (s : State) : Host.Outcome State Fault Refusal := .next (s.goWith who [1])

/-- UPDATE_PRES_DESC. -/
def execUpdatePresDesc (who : Requester) (s : State) : Host.Outcome State Fault Refusal := .next (s.goWith who [2])

/-- UPDATE_END. DEDUCED, log 33. -/
def execUpdateEnd (s : State) : Host.Outcome State Fault Refusal :=
  match s.health.upd with
  | none => .next s
  | some (r, n) =>
    .next ((((s.healthWith (fun h => { h with upd := none })).updResult r.val n).put .hlt F.HLT_UPD_STATUS_BUSY 0).put
      .hlt F.HLT_UPD_CTRL_GO 0)

end Sys2Proof.Machine
end

