-- ==== Sys2Proof/Machine/Dispatch.lean ====
section
/-! DEFINITION. The meaning of every command: one arm per constructor. -/

namespace Sys2Proof.Machine

/-- The command's effect on everything but the queue. -/
def exec (i : Instr) (s : State) : Host.Outcome State Fault Refusal :=
  match i with
  | .supplyMonitorTrip => Sys2Proof.Machine.execSupplyMonitorTrip s
  | .coreResetRelease st => Sys2Proof.Machine.execCoreResetRelease st s
  | .corereset => Sys2Proof.Machine.execCorereset s
  | .coreRst who => Sys2Proof.Machine.execCoreRst who s
  | .plateRst who v => Sys2Proof.Machine.execPlateRst who v s
  | .graverRst who v => Sys2Proof.Machine.execGraverRst who v s
  | .drcRst who v => Sys2Proof.Machine.execDrcRst who v s
  | .mgtRst who v => Sys2Proof.Machine.execMgtRst who v s
  | .dclkRun who v => Sys2Proof.Machine.execDclkRun who v s
  | .gclkRun who v => Sys2Proof.Machine.execGclkRun who v s
  | .fclkPlateRun who v => Sys2Proof.Machine.execFclkPlateRun who v s
  | .portRst who hi be v => Sys2Proof.Machine.execPortRst who hi be v s
  | .selfRefreshEntry => Sys2Proof.Machine.execSelfRefreshEntry s
  | .rootUnlock => Sys2Proof.Machine.execRootUnlock s
  | .rootLock => Sys2Proof.Machine.execRootLock s
  | .laneUnlock lane => Sys2Proof.Machine.execLaneUnlock lane s
  | .laneRelock lane => Sys2Proof.Machine.execLaneRelock lane s
  | .guardFirstWrite who addr be v => Sys2Proof.Machine.execGuardFirstWrite who addr be v s
  | .guardComplementWrite who addr be v => Sys2Proof.Machine.execGuardComplementWrite who addr be v s
  | .guardExpire idn => Sys2Proof.Machine.execGuardExpire idn s
  | .parityScrub ups addr => Sys2Proof.Machine.execParityScrub ups addr s
  | .pageEnWrite who pg en => Sys2Proof.Machine.execPageEnWrite who pg en s
  | .blkRst who pg => Sys2Proof.Machine.execBlkRst who pg s
  | .restartComplete pg => Sys2Proof.Machine.execRestartComplete pg s
  | .portAbort m => Sys2Proof.Machine.execPortAbort m s
  | .accessTimeout late place wr => Sys2Proof.Machine.execAccessTimeout late place wr s
  | .registerWrite who addr be v => Sys2Proof.Machine.execRegisterWrite who addr be v s
  | .readF m ns early => Sys2Proof.Machine.execReadF m ns early s
  | .writeF m hdr rest early => Sys2Proof.Machine.execWriteF m hdr rest early s
  | .readFixed m ns early => Sys2Proof.Machine.execReadFixed m ns early s
  | .writeFixed m hdr rest early => Sys2Proof.Machine.execWriteFixed m hdr rest early s
  | .replay m fr => Sys2Proof.Machine.execReplay m fr s
  | .badOpcode m ns early => Sys2Proof.Machine.execBadOpcode m ns early s
  | .csNRise m moment => Sys2Proof.Machine.execCsNRise m moment s
  | .mgtReady => Sys2Proof.Machine.execMgtReady s
  | .attentionNotice sender qb set => Sys2Proof.Machine.execAttentionNotice sender qb set s
  | .semClaim who n => Sys2Proof.Machine.execSemClaim who n s
  | .semRelease who n be => Sys2Proof.Machine.execSemRelease who n be s
  | .semForce who v => Sys2Proof.Machine.execSemForce who v s
  | .semOrphanEnd c => Sys2Proof.Machine.execSemOrphanEnd c s
  | .hostGrantChange who v => Sys2Proof.Machine.execHostGrantChange who v s
  | .legAddress addr rd => Sys2Proof.Machine.execLegAddress addr rd s
  | .legWriteByte b => Sys2Proof.Machine.execLegWriteByte b s
  | .legReadByte => Sys2Proof.Machine.execLegReadByte s
  | .legSclTimeout => Sys2Proof.Machine.execLegSclTimeout s
  | .linkUp side nb => Sys2Proof.Machine.execLinkUp side nb s
  | .miswire side => Sys2Proof.Machine.execMiswire side s
  | .linkDown side => Sys2Proof.Machine.execLinkDown side s
  | .roster side ro => Sys2Proof.Machine.execRoster side ro s
  | .ringForward fr => Sys2Proof.Machine.execRingForward fr s
  | .ringRequest rq => Sys2Proof.Machine.execRingRequest rq s
  | .ringResponse m seq busy status ws => Sys2Proof.Machine.execRingResponse m seq busy status ws s
  | .ringRetry m => Sys2Proof.Machine.execRingRetry m s
  | .ringBusyTimeout m => Sys2Proof.Machine.execRingBusyTimeout m s
  | .eventRoute => Sys2Proof.Machine.execEventRoute s
  | .evqPop who q => Sys2Proof.Machine.execEvqPop who q s
  | .popComplete q => Sys2Proof.Machine.execPopComplete q s
  | .evqPopTimeout who => Sys2Proof.Machine.execEvqPopTimeout who s
  | .evqPeek who q => Sys2Proof.Machine.execEvqPeek who q s
  | .flush who q => Sys2Proof.Machine.execFlush who q s
  | .uptimeAlign => Sys2Proof.Machine.execUptimeAlign s
  | .entryResetRelease prefB rIlim => Sys2Proof.Machine.execEntryResetRelease prefB rIlim s
  | .entryReset => Sys2Proof.Machine.execEntryReset s
  | .loadComplete => Sys2Proof.Machine.execLoadComplete s
  | .pacingDoneTimeout => Sys2Proof.Machine.execPacingDoneTimeout s
  | .stageWrite who be v => Sys2Proof.Machine.execStageWrite who be v s
  | .stageRead who => Sys2Proof.Machine.execStageRead who s
  | .commit who parityErr => Sys2Proof.Machine.execCommit who parityErr s
  | .commitLeaveTimeout => Sys2Proof.Machine.execCommitLeaveTimeout s
  | .commitWriteEnd ok => Sys2Proof.Machine.execCommitWriteEnd ok s
  | .fetchActive who => Sys2Proof.Machine.execFetchActive who s
  | .fetchOther who => Sys2Proof.Machine.execFetchOther who s
  | .fetchEnd => Sys2Proof.Machine.execFetchEnd s
  | .seatingLoss pins => Sys2Proof.Machine.execSeatingLoss pins s
  | .seatDbEnd => Sys2Proof.Machine.execSeatDbEnd s
  | .rampEnd => Sys2Proof.Machine.execRampEnd s
  | .entryFastTrip uv => Sys2Proof.Machine.execEntryFastTrip uv s
  | .faultTimeEnd uv => Sys2Proof.Machine.execFaultTimeEnd uv s
  | .rampMaxEnd uv => Sys2Proof.Machine.execRampMaxEnd uv s
  | .entryLimit above uv => Sys2Proof.Machine.execEntryLimit above uv s
  | .entryRetryEnd => Sys2Proof.Machine.execEntryRetryEnd s
  | .entryConsecClear => Sys2Proof.Machine.execEntryConsecClear s
  | .ilimCheck rOhm => Sys2Proof.Machine.execIlimCheck rOhm s
  | .feedLoss fd count => Sys2Proof.Machine.execFeedLoss fd count s
  | .feedSwitch => Sys2Proof.Machine.execFeedSwitch s
  | .feedGood fd count => Sys2Proof.Machine.execFeedGood fd count s
  | .feedReturn => Sys2Proof.Machine.execFeedReturn s
  | .entryScrub ups addr => Sys2Proof.Machine.execEntryScrub ups addr s
  | .leaveRequest ops => Sys2Proof.Machine.execLeaveRequest ops s
  | .leaveDone op => Sys2Proof.Machine.execLeaveDone op s
  | .leaveWithdraw op => Sys2Proof.Machine.execLeaveWithdraw op s
  | .dieWindow => Sys2Proof.Machine.execDieWindow s
  | .pacingGapEnd => Sys2Proof.Machine.execPacingGapEnd s
  | .feedGoodnessChange ga gb => Sys2Proof.Machine.execFeedGoodnessChange ga gb s
  | .growDelayEnd => Sys2Proof.Machine.execGrowDelayEnd s
  | .growth => Sys2Proof.Machine.execGrowth s
  | .revokeTimeEnd p => Sys2Proof.Machine.execRevokeTimeEnd p s
  | .revokeSuccess p => Sys2Proof.Machine.execRevokeSuccess p s
  | .poolWrite who single be v => Sys2Proof.Machine.execPoolWrite who single be v s
  | .targetWrite who p be v => Sys2Proof.Machine.execTargetWrite who p be v s
  | .adcSample p vbus vreg sense => Sys2Proof.Machine.execAdcSample p vbus vreg sense s
  | .settleEnd p => Sys2Proof.Machine.execSettleEnd p s
  | .closeMaxEnd p => Sys2Proof.Machine.execCloseMaxEnd p s
  | .dischargeEnd p => Sys2Proof.Machine.execDischargeEnd p s
  | .dschMaxEnd p => Sys2Proof.Machine.execDschMaxEnd p s
  | .portFastTrip p ma => Sys2Proof.Machine.execPortFastTrip p ma s
  | .slowTimeEnd p => Sys2Proof.Machine.execSlowTimeEnd p s
  | .retryIntEnd p held => Sys2Proof.Machine.execRetryIntEnd p held s
  | .portConsecClear p => Sys2Proof.Machine.execPortConsecClear p s
  | .forceOff who p v => Sys2Proof.Machine.execForceOff who p v s
  | .ccClassify pp cc1 cc2 => Sys2Proof.Machine.execCcClassify pp cc1 cc2 s
  | .attach p => Sys2Proof.Machine.execAttach p s
  | .detach p => Sys2Proof.Machine.execDetach p s
  | .drpToggle p => Sys2Proof.Machine.execDrpToggle p s
  | .trySrcSuccess p => Sys2Proof.Machine.execTrySrcSuccess p s
  | .trySrcTimeout p => Sys2Proof.Machine.execTrySrcTimeout p s
  | .tryTimeout p => Sys2Proof.Machine.execTryTimeout p s
  | .sinkAttach p => Sys2Proof.Machine.execSinkAttach p s
  | .sinkDetach p => Sys2Proof.Machine.execSinkDetach p s
  | .errorRecoveryEnd p => Sys2Proof.Machine.execErrorRecoveryEnd p s
  | .recover who p => Sys2Proof.Machine.execRecover who p s
  | .vconnTrip p => Sys2Proof.Machine.execVconnTrip p s
  | .conRxByte p ch => Sys2Proof.Machine.execConRxByte p ch s
  | .conRxdataRead who p => Sys2Proof.Machine.execConRxdataRead who p s
  | .conTxdataWrite who p be v => Sys2Proof.Machine.execConTxdataWrite who p be v s
  | .conTxDone p => Sys2Proof.Machine.execConTxDone p s
  | .upstreamAttach u orient rp vbus => Sys2Proof.Machine.execUpstreamAttach u orient rp vbus s
  | .upstreamDetach u => Sys2Proof.Machine.execUpstreamDetach u s
  | .sourceCapabilities pp msg => Sys2Proof.Machine.execSourceCapabilities pp msg s
  | .request pp msg => Sys2Proof.Machine.execRequest pp msg s
  | .getSourceCap pp msg => Sys2Proof.Machine.execGetSourceCap pp msg s
  | .getSinkCap pp msg => Sys2Proof.Machine.execGetSinkCap pp msg s
  | .eprGetSourceCap pp msg => Sys2Proof.Machine.execEprGetSourceCap pp msg s
  | .prSwap pp msg => Sys2Proof.Machine.execPrSwap pp msg s
  | .drSwap pp msg => Sys2Proof.Machine.execDrSwap pp msg s
  | .vconnSwap pp msg => Sys2Proof.Machine.execVconnSwap pp msg s
  | .frSwap pp msg => Sys2Proof.Machine.execFrSwap pp msg s
  | .softReset pp msg => Sys2Proof.Machine.execSoftReset pp msg s
  | .hardReset pp msg => Sys2Proof.Machine.execHardReset pp msg s
  | .getStatus pp msg => Sys2Proof.Machine.execGetStatus pp msg s
  | .getPpsStatus pp msg => Sys2Proof.Machine.execGetPpsStatus pp msg s
  | .getSourceCapExtended pp msg => Sys2Proof.Machine.execGetSourceCapExtended pp msg s
  | .getSourceInfo pp msg => Sys2Proof.Machine.execGetSourceInfo pp msg s
  | .getRevision pp msg => Sys2Proof.Machine.execGetRevision pp msg s
  | .getManufacturerInfo pp msg => Sys2Proof.Machine.execGetManufacturerInfo pp msg s
  | .eprMode pp msg => Sys2Proof.Machine.execEprMode pp msg s
  | .eprKeepalive pp msg => Sys2Proof.Machine.execEprKeepalive pp msg s
  | .vendorDefined pp msg => Sys2Proof.Machine.execVendorDefined pp msg s
  | .pingMsg pp msg => Sys2Proof.Machine.execPingMsg pp msg s
  | .alertMsg pp msg => Sys2Proof.Machine.execAlertMsg pp msg s
  | .bist pp msg => Sys2Proof.Machine.execBist pp msg s
  | .unsupportedMessage pp msg => Sys2Proof.Machine.execUnsupportedMessage pp msg s
  | .accept pp msg => Sys2Proof.Machine.execAccept pp msg s
  | .reject pp msg => Sys2Proof.Machine.execReject pp msg s
  | .waitMsg pp msg => Sys2Proof.Machine.execWaitMsg pp msg s
  | .psRdy pp msg => Sys2Proof.Machine.execPsRdy pp msg s
  | .goodcrc pp msg => Sys2Proof.Machine.execGoodcrc pp msg s
  | .goodcrcTimeout pp msg => Sys2Proof.Machine.execGoodcrcTimeout pp msg s
  | .srcStartupEnd p => Sys2Proof.Machine.execSrcStartupEnd p s
  | .sourceCapResend p => Sys2Proof.Machine.execSourceCapResend p s
  | .senderResponseTimeout pp => Sys2Proof.Machine.execSenderResponseTimeout pp s
  | .transitionStart p => Sys2Proof.Machine.execTransitionStart p s
  | .transLimitEnd p => Sys2Proof.Machine.execTransLimitEnd p s
  | .waitTimerEnd p => Sys2Proof.Machine.execWaitTimerEnd p s
  | .leaveHoldEnd p => Sys2Proof.Machine.execLeaveHoldEnd p s
  | .ppsTimeout p => Sys2Proof.Machine.execPpsTimeout p s
  | .eprKeepaliveTimeout p => Sys2Proof.Machine.execEprKeepaliveTimeout p s
  | .sinkTxEnd p => Sys2Proof.Machine.execSinkTxEnd p s
  | .capsMergeEnd p => Sys2Proof.Machine.execCapsMergeEnd p s
  | .discoverIdentityAttempt p => Sys2Proof.Machine.execDiscoverIdentityAttempt p s
  | .revokeNoRequest p => Sys2Proof.Machine.execRevokeNoRequest p s
  | .hardResetPowerOff p => Sys2Proof.Machine.execHardResetPowerOff p s
  | .srcRecoverEnd p => Sys2Proof.Machine.execSrcRecoverEnd p s
  | .sinkWaitCapTimeout p => Sys2Proof.Machine.execSinkWaitCapTimeout p s
  | .swapAttempt p => Sys2Proof.Machine.execSwapAttempt p s
  | .sinkHardResetTimeout p => Sys2Proof.Machine.execSinkHardResetTimeout p s
  | .frsSignal p => Sys2Proof.Machine.execFrsSignal p s
  | .frsVbusDrop p => Sys2Proof.Machine.execFrsVbusDrop p s
  | .consoleModeAttempt p => Sys2Proof.Machine.execConsoleModeAttempt p s
  | .vdmResponseTimeout p => Sys2Proof.Machine.execVdmResponseTimeout p s
  | .pdCtrlHardReset who p => Sys2Proof.Machine.execPdCtrlHardReset who p s
  | .pdCtrlSoftReset who p => Sys2Proof.Machine.execPdCtrlSoftReset who p s
  | .sendCaps who p => Sys2Proof.Machine.execSendCaps who p s
  | .rediscover who p => Sys2Proof.Machine.execRediscover who p s
  | .exitMode who p => Sys2Proof.Machine.execExitMode who p s
  | .pdEnWrite who p v => Sys2Proof.Machine.execPdEnWrite who p v s
  | .contextReset hc hs => Sys2Proof.Machine.execContextReset hc hs s
  | .contextSuspend hc => Sys2Proof.Machine.execContextSuspend hc s
  | .contextResume at_ => Sys2Proof.Machine.execContextResume at_ s
  | .connect p low => Sys2Proof.Machine.execConnect p low s
  | .disconnect p => Sys2Proof.Machine.execDisconnect p s
  | .babble p => Sys2Proof.Machine.execBabble p s
  | .setPortReset hc n => Sys2Proof.Machine.execSetPortReset hc n s
  | .chirpK p => Sys2Proof.Machine.execChirpK p s
  | .portResetEnd which => Sys2Proof.Machine.execPortResetEnd which s
  | .setPortSuspend hc n => Sys2Proof.Machine.execSetPortSuspend hc n s
  | .clearPortSuspend hc n => Sys2Proof.Machine.execClearPortSuspend hc n s
  | .resumeEnd p => Sys2Proof.Machine.execResumeEnd p s
  | .clearPortEnable hc n => Sys2Proof.Machine.execClearPortEnable hc n s
  | .setPortPower hc n => Sys2Proof.Machine.execSetPortPower hc n s
  | .clearPortPower hc n => Sys2Proof.Machine.execClearPortPower hc n s
  | .setPortTest hc n sel => Sys2Proof.Machine.execSetPortTest hc n sel s
  | .setAndTestPortL1 hc n addr hird rwe => Sys2Proof.Machine.execSetAndTestPortL1 hc n addr hird rwe s
  | .lpmAnswer p ans => Sys2Proof.Machine.execLpmAnswer p ans s
  | .clearPortL1 hc n => Sys2Proof.Machine.execClearPortL1 hc n s
  | .l1ExitEnd p => Sys2Proof.Machine.execL1ExitEnd p s
  | .remoteWake p => Sys2Proof.Machine.execRemoteWake p s
  | .wakePropagationEnd hc => Sys2Proof.Machine.execWakePropagationEnd hc s
  | .pwrHoldEnd hc ss => Sys2Proof.Machine.execPwrHoldEnd hc ss s
  | .clearChangeBit hc n sel => Sys2Proof.Machine.execClearChangeBit hc n sel s
  | .getPortStatus hc n => Sys2Proof.Machine.execGetPortStatus hc n s
  | .getHubStatus hub => Sys2Proof.Machine.execGetHubStatus hub s
  | .getHubDescriptor hub => Sys2Proof.Machine.execGetHubDescriptor hub s
  | .getDescriptor dev kind idx lang len => Sys2Proof.Machine.execGetDescriptor dev kind idx lang len s
  | .setInterface hc alt => Sys2Proof.Machine.execSetInterface hc alt s
  | .hubRequestError req => Sys2Proof.Machine.execHubRequestError req s
  | .clearTtBuffer hc n dev ep ty inDir => Sys2Proof.Machine.execClearTtBuffer hc n dev ep ty inDir s
  | .resetTt hc n => Sys2Proof.Machine.execResetTt hc n s
  | .stopTt hc n => Sys2Proof.Machine.execStopTt hc n s
  | .statusChangePoll hub => Sys2Proof.Machine.execStatusChangePoll hub s
  | .startSplit hc n sp => Sys2Proof.Machine.execStartSplit hc n sp s
  | .completeSplit hc n sp => Sys2Proof.Machine.execCompleteSplit hc n sp s
  | .ttTransactionEnd p fin => Sys2Proof.Machine.execTtTransactionEnd p fin s
  | .ttStale at_ => Sys2Proof.Machine.execTtStale at_ s
  | .ttResultExpire p => Sys2Proof.Machine.execTtResultExpire p s
  | .rxDetect f found => Sys2Proof.Machine.execRxDetect f found s
  | .linkU0 f gen2 => Sys2Proof.Machine.execLinkU0 f gen2 s
  | .pollingFail f config => Sys2Proof.Machine.execPollingFail f config s
  | .linkRecovery lk symbols hdrs => Sys2Proof.Machine.execLinkRecovery lk symbols hdrs s
  | .ssInactive f => Sys2Proof.Machine.execSsInactive f s
  | .ssPortReset sc n => Sys2Proof.Machine.execSsPortReset sc n s
  | .bhPortReset sc n => Sys2Proof.Machine.execBhPortReset sc n s
  | .ssResetEnd f out => Sys2Proof.Machine.execSsResetEnd f out s
  | .ssContextReset u warm => Sys2Proof.Machine.execSsContextReset u warm s
  | .setLinkStateU3 sc n => Sys2Proof.Machine.execSetLinkStateU3 sc n s
  | .setLinkStateU0 sc n => Sys2Proof.Machine.execSetLinkStateU0 sc n s
  | .setLinkStateDisabled sc n => Sys2Proof.Machine.execSetLinkStateDisabled sc n s
  | .setLinkStateRxDetect sc n => Sys2Proof.Machine.execSetLinkStateRxDetect sc n s
  | .ssSetPortPower sc n => Sys2Proof.Machine.execSsSetPortPower sc n s
  | .ssClearPortPower sc n => Sys2Proof.Machine.execSsClearPortPower sc n s
  | .setPortU1Timeout sc n v => Sys2Proof.Machine.execSetPortU1Timeout sc n v s
  | .setPortU2Timeout sc n v => Sys2Proof.Machine.execSetPortU2Timeout sc n v s
  | .setRemoteWakeMask sc n v => Sys2Proof.Machine.execSetRemoteWakeMask sc n v s
  | .setForceLinkpmAccept sc n => Sys2Proof.Machine.execSetForceLinkpmAccept sc n s
  | .setHubDepth sc depth => Sys2Proof.Machine.execSetHubDepth sc depth s
  | .getPortErrorCount sc n => Sys2Proof.Machine.execGetPortErrorCount sc n s
  | .ssGetPortStatus sc n ext => Sys2Proof.Machine.execSsGetPortStatus sc n ext s
  | .ssClearChangeBit sc n sel => Sys2Proof.Machine.execSsClearChangeBit sc n sel s
  | .u1Inactivity lk u2 => Sys2Proof.Machine.execU1Inactivity lk u2 s
  | .lgoUx lk u2 => Sys2Proof.Machine.execLgoUx lk u2 s
  | .ssHeader hd => Sys2Proof.Machine.execSsHeader hd s
  | .packetForward mv => Sys2Proof.Machine.execPacketForward mv s
  | .ssRemoteWake f => Sys2Proof.Machine.execSsRemoteWake f s
  | .upstreamLinkTrained u res => Sys2Proof.Machine.execUpstreamLinkTrained u res s
  | .complianceEntry f => Sys2Proof.Machine.execComplianceEntry f s
  | .enterCp who f => Sys2Proof.Machine.execEnterCp who f s
  | .loopMaster who f => Sys2Proof.Machine.execLoopMaster who f s
  | .exitTest who f errors => Sys2Proof.Machine.execExitTest who f errors s
  | .pingLfps f => Sys2Proof.Machine.execPingLfps f s
  | .loopbackEntry f => Sys2Proof.Machine.execLoopbackEntry f s
  | .marginStart who f => Sys2Proof.Machine.execMarginStart who f s
  | .marginEnd f errors => Sys2Proof.Machine.execMarginEnd f errors s
  | .maxGenWrite who lk v => Sys2Proof.Machine.execMaxGenWrite who lk v s
  | .ownerWrite who p be v => Sys2Proof.Machine.execOwnerWrite who p be v s
  | .movePoint p => Sys2Proof.Machine.execMovePoint p s
  | .presAttach u => Sys2Proof.Machine.execPresAttach u s
  | .livenessLoss u => Sys2Proof.Machine.execLivenessLoss u s
  | .presentationLive u => Sys2Proof.Machine.execPresentationLive u s
  | .foSuspLimitEnd u => Sys2Proof.Machine.execFoSuspLimitEnd u s
  | .fbDelayEnd u => Sys2Proof.Machine.execFbDelayEnd u s
  | .failback who => Sys2Proof.Machine.execFailback who s
  | .reattach who u => Sys2Proof.Machine.execReattach who u s
  | .reattachEnd u => Sys2Proof.Machine.execReattachEnd u s
  | .regRead u waddr fixed len => Sys2Proof.Machine.execRegRead u waddr fixed len s
  | .regWrite u waddr fixed ents parityErr => Sys2Proof.Machine.execRegWrite u waddr fixed ents parityErr s
  | .getResult u len parityErr => Sys2Proof.Machine.execGetResult u len parityErr s
  | .vendorReplay u len parityErr => Sys2Proof.Machine.execVendorReplay u len parityErr s
  | .dramRead u waddr len => Sys2Proof.Machine.execDramRead u waddr len s
  | .dramWrite u waddr data parityErr => Sys2Proof.Machine.execDramWrite u waddr data parityErr s
  | .vendorRequestDone u parityErr => Sys2Proof.Machine.execVendorRequestDone u parityErr s
  | .bulkCommand u bytes => Sys2Proof.Machine.execBulkCommand u bytes s
  | .bulkRead u parityErr => Sys2Proof.Machine.execBulkRead u parityErr s
  | .bulkWrite u parityErr => Sys2Proof.Machine.execBulkWrite u parityErr s
  | .ep3Ack u n parityErr => Sys2Proof.Machine.execEp3Ack u n parityErr s
  | .notice u parityErr => Sys2Proof.Machine.execNotice u parityErr s
  | .noticeAck u => Sys2Proof.Machine.execNoticeAck u s
  | .functionReset u ss kind => Sys2Proof.Machine.execFunctionReset u ss kind s
  | .mgfSetConfiguration u ss intf cfg => Sys2Proof.Machine.execMgfSetConfiguration u ss intf cfg s
  | .clearEndpointHalt u ep => Sys2Proof.Machine.execClearEndpointHalt u ep s
  | .setEndpointHalt u ep => Sys2Proof.Machine.execSetEndpointHalt u ep s
  | .inServiceChange u => Sys2Proof.Machine.execInServiceChange u s
  | .functionWake u => Sys2Proof.Machine.execFunctionWake u s
  | .epmWinRead who => Sys2Proof.Machine.execEpmWinRead who s
  | .doorbell who r be v => Sys2Proof.Machine.execDoorbell who r be v s
  | .descriptorFetch => Sys2Proof.Machine.execDescriptorFetch s
  | .jobStart p => Sys2Proof.Machine.execJobStart p s
  | .take p => Sys2Proof.Machine.execTake p s
  | .give p => Sys2Proof.Machine.execGive p s
  | .powerOff p => Sys2Proof.Machine.execPowerOff p s
  | .powerOn p => Sys2Proof.Machine.execPowerOn p s
  | .powerCycle p => Sys2Proof.Machine.execPowerCycle p s
  | .enumJob p ans => Sys2Proof.Machine.execEnumJob p ans s
  | .configJob p ans => Sys2Proof.Machine.execConfigJob p ans s
  | .ctrlJob p ans => Sys2Proof.Machine.execCtrlJob p ans s
  | .jobWrite p ans => Sys2Proof.Machine.execJobWrite p ans s
  | .jobRead p ans => Sys2Proof.Machine.execJobRead p ans s
  | .captureSbu p => Sys2Proof.Machine.execCaptureSbu p s
  | .captureCdc p ans => Sys2Proof.Machine.execCaptureCdc p ans s
  | .verifyCompare p ans => Sys2Proof.Machine.execVerifyCompare p ans s
  | .verifyCrc p ans => Sys2Proof.Machine.execVerifyCrc p ans s
  | .waitTime p => Sys2Proof.Machine.execWaitTime p s
  | .waitAttach p => Sys2Proof.Machine.execWaitAttach p s
  | .waitDetach p => Sys2Proof.Machine.execWaitDetach p s
  | .waitVbusOn p => Sys2Proof.Machine.execWaitVbusOn p s
  | .waitUsbConnect p => Sys2Proof.Machine.execWaitUsbConnect p s
  | .stopRunning p => Sys2Proof.Machine.execStopRunning p s
  | .stopCaptures p => Sys2Proof.Machine.execStopCaptures p s
  | .stopQueued p => Sys2Proof.Machine.execStopQueued p s
  | .jobEnd p => Sys2Proof.Machine.execJobEnd p s
  | .jobTimeout p cap => Sys2Proof.Machine.execJobTimeout p cap s
  | .completionWrite r => Sys2Proof.Machine.execCompletionWrite r s
  | .crConsWrite who r be v => Sys2Proof.Machine.execCrConsWrite who r be v s
  | .completionRetry r => Sys2Proof.Machine.execCompletionRetry r s
  | .captureRecordClose p cdc why => Sys2Proof.Machine.execCaptureRecordClose p cdc why s
  | .bufWdata who be v => Sys2Proof.Machine.execBufWdata who be v s
  | .bufRdata who => Sys2Proof.Machine.execBufRdata who s
  | .ringCfgRestart who r off be v => Sys2Proof.Machine.execRingCfgRestart who r off be v s
  | .trainingEnd laneFail => Sys2Proof.Machine.execTrainingEnd laneFail s
  | .zeroingEnd => Sys2Proof.Machine.execZeroingEnd s
  | .refresh => Sys2Proof.Machine.execRefresh s
  | .zqCalibration => Sys2Proof.Machine.execZqCalibration s
  | .scrub turn => Sys2Proof.Machine.execScrub turn s
  | .load who w => Sys2Proof.Machine.execLoad who w s
  | .store who w => Sys2Proof.Machine.execStore who w s
  | .windowCommandEnd w => Sys2Proof.Machine.execWindowCommandEnd w s
  | .eccClear who => Sys2Proof.Machine.execEccClear who s
  | .ddrAlert => Sys2Proof.Machine.execDdrAlert s
  | .compatAttach who inst => Sys2Proof.Machine.execCompatAttach who inst s
  | .holdTimeout inst => Sys2Proof.Machine.execHoldTimeout inst s
  | .instReset who mask => Sys2Proof.Machine.execInstReset who mask s
  | .rcRead who inst off => Sys2Proof.Machine.execRcRead who inst off s
  | .configAreaWrite who inst off v => Sys2Proof.Machine.execConfigAreaWrite who inst off v s
  | .tempSample temps => Sys2Proof.Machine.execTempSample temps s
  | .shedStepTimer => Sys2Proof.Machine.execShedStepTimer s
  | .quarSet who hi v => Sys2Proof.Machine.execQuarSet who hi v s
  | .quarRelease who hi v => Sys2Proof.Machine.execQuarRelease who hi v s
  | .quarAutoEnd p => Sys2Proof.Machine.execQuarAutoEnd p s
  | .plateIsoSet who v => Sys2Proof.Machine.execPlateIsoSet who v s
  | .plateIsolated k => Sys2Proof.Machine.execPlateIsolated k s
  | .plateIsoClear who v => Sys2Proof.Machine.execPlateIsoClear who v s
  | .peakClr who => Sys2Proof.Machine.execPeakClr who s
  | .updatePortPolicy who => Sys2Proof.Machine.execUpdatePortPolicy who s
  | .updatePort who => Sys2Proof.Machine.execUpdatePort who s
  | .updatePresDesc who => Sys2Proof.Machine.execUpdatePresDesc who s
  | .updateEnd => Sys2Proof.Machine.execUpdateEnd s
  | .plateCalibrationEnd k => Sys2Proof.Machine.execPlateCalibrationEnd k s
  | .upCalibrationEnd => Sys2Proof.Machine.execUpCalibrationEnd s
  | .seated => Sys2Proof.Machine.execSeated s
  | .trySrc p => Sys2Proof.Machine.execTrySrc p s
  | .debounceLost p => Sys2Proof.Machine.execDebounceLost p s
  | .sof u => Sys2Proof.Machine.execSof u s
  | .highSpeedPacket pk => Sys2Proof.Machine.execHighSpeedPacket pk s
  | .setAddress dev addr => Sys2Proof.Machine.execSetAddress dev addr s
  | .hubSetConfiguration dev cfg => Sys2Proof.Machine.execHubSetConfiguration dev cfg s
  | .deviceRemoteWakeup dev set => Sys2Proof.Machine.execDeviceRemoteWakeup dev set s
  | .u1U2Enable sc u2 set => Sys2Proof.Machine.execU1U2Enable sc u2 set s
  | .lgoU3 u => Sys2Proof.Machine.execLgoU3 u s
  | .upstreamExitLfps at_ => Sys2Proof.Machine.execUpstreamExitLfps at_ s

end Sys2Proof.Machine
end

