-- ==== Sys2Proof/Machine/Step.lean ====
section
/-! DEFINITION. One step of the block: the command at the front of the queue, or the tick of an idle block. -/

namespace Sys2Proof.Machine

/-- The state without the command at the front of its queue. -/
def State.withPending (s : State) (q : List Instr) : State := { s with pending := q }

/-- One step: the front command's effect with the queue's rest; on an empty queue, what goes on without a command.
DESIGN CHOICE, log 1. DESIGN CHOICE, log 3. DEDUCED, log 6. -/
def step (s : State) : Host.Outcome State Fault Refusal :=
  match s.pending with
  | [] => .next s.tick
  | c :: rest => exec c (s.withPending rest)

/-- The state with the command a word spells put at the front of its queue; no row of the table gives bits, so no word spells one.
DESIGN CHOICE, log 2. -/
def State.withFetchWord (s : State) (nbits w : Nat) : State :=
  match decodeTableWord nbits w with
  | none => s
  | some c => s.withPending (c :: s.pending)

end Sys2Proof.Machine
end

