-- ==== Sys2Proof/Machine/Pins.lean ====
section
/-! DEFINITION. The levels of the balls that the spec fixes from the state (R34, R44, R83, R87, R207): a port's power, CC and USB
balls, the management ports, the indicator output and the DRAM's reset. No command reads them. -/

namespace Sys2Proof.Machine

/-- "Core reset" of R34: core global reset, and any reset that covers the port. -/
def State.ballsHeld (s : State) (p : Port) : Bool := s.coreHeld || s.portInRst p

/-- `GATE` turns the port's switch on (R34, R196). -/
def State.gateBall (s : State) (p : Port) : Bool := !s.ballsHeld p && s.gateOn p

/-- `DSCH` is high: the discharge FET is on. A reset drives it high until the discharge of R197 has ended (R34, R197, R243). -/
def State.dschBall (s : State) (p : Port) : Bool :=
  s.coreHeld || s.flag (.vbs p) F.VBS_STATUS_DSCH_ON || s.resetDsch p

/-- The SBU line that the console tap drives, if any: the one that does not receive, while the mux is routed and `TX_EN` is 1; true is
`SBU2` (R223, R225). -/
def State.conTxLine (s : State) (p : Port) : Option Bool :=
  if s.flag (.con p) F.CON_STATUS_ROUTED && s.cfgFlag (.con p) F.CON_CFG_TX_EN then some (!s.flag (.con p) F.CON_STATUS_RX_SBU2) else none

/-- The 16-bit code on `VSET`: low in reset, else the open-loop code of the voltage reached with its correction (R34, R194). -/
def State.vsetBall (s : State) (p : Port) : Nat :=
  if s.ballsHeld p then 0 else min 0xFFFF (s.vsetCode p (s.vbs p).vsetMv + (s.vbs p).trim).toNat

/-- What a port presents on a CC line that carries no VCONN. -/
inductive CcTerm where
  | opened
  | rp
  | rd
  deriving DecidableEq, Repr

/-- The termination by connection state (R207), open in reset (R34). -/
def State.ccBall (s : State) (p : Port) : CcTerm :=
  if s.ballsHeld p || s.ccSt p ≤ 1 then .opened
  else if 5 ≤ s.ccSt p && s.ccSt p ≤ 7 || s.ccSt p == 9 then .rd
  else .rp

/-- The termination of an upstream port on both CC lines: open until the load is complete, then Rd while the core runs (R34, R226). -/
def State.upCcBall (s : State) (_ : Up) : CcTerm := if s.coreUp && s.loaded then .rd else .opened

/-- `DP` and `DM` of a port are high-impedance without a pull-up (R34, R272). -/
def State.usbHighZ (s : State) (p : Port) : Bool := s.ballsHeld p || decide (s.u2St p ≤ 1)

/-- `DP` and `DM` of an upstream port are high-impedance without a pull-up: no presentation is attached there (R34, R328). -/
def State.upUsbHighZ (s : State) (u : Up) : Bool := s.coreHeld || !s.presAttached u

/-- The SuperSpeed transmitters of a full port rest in electrical idle because a reset holds them (R34). -/
def State.txIdle (s : State) (f : Full) : Bool := s.ballsHeld (fullPort f)

/-- The SuperSpeed transmitters of an upstream port rest in electrical idle because core reset holds them (R34). -/
def State.upTxIdle (s : State) (_ : Up) : Bool := s.coreHeld

/-- What a ring link sends (R100). -/
inductive RingTx where
  /-- nothing: the ring is not strapped on, or its domain is in reset -/
  | off
  /-- training: K28.5 idles, then link-identity ordered sets with this chip ID and side -/
  | train (chip : Chip) (side : Side)
  /-- ring frames, on a link that is up -/
  | frames
  deriving DecidableEq, Repr

/-- What a ring link sends: it trains on its own once the management domain is out of reset, and until it is up (R100). -/
def State.ringTx (s : State) (side : Side) : RingTx :=
  if !s.ringOn then .off else if s.flag .mgt (linkFld side) then .frames else .train s.ownChip side

/-- `MA_READY` or `MB_READY` is high: a response is complete and driven (R34, R83, R89). -/
def State.readyBall (s : State) (m : Master) : Bool := s.mgtTakes && !(s.mport m).out.isEmpty

/-- `MA_INT_N` or `MB_INT_N` is pulled low; core reset releases it (R34, R87). -/
def State.intBall (s : State) (m : Master) : Bool := !s.coreHeld && s.intLine m

/-- Core reset holds the `LED_*` balls low (R34); what they shift out at other times the spec does not say. -/
def State.ledLow (s : State) : Bool := s.coreHeld

/-- `DDR_RESET_N` is low: no DRAM is fitted, or a reset or the wait for leave stands before a cold training (R34, R44, R414).
In the training itself the level follows the steps of R414 by time. -/
def State.ddrResetLow (s : State) : Bool := s.noDram || ((s.coreHeld || decide (s.drcSt ≤ 2)) && !s.dram.warm)

/-- The other `DDR_*` outputs are driven low: no DRAM is fitted (R44). -/
def State.ddrLow (s : State) : Bool := s.noDram

end Sys2Proof.Machine
end

