-- ==== Sys2Proof/Safety.lean ====
section
/-! DEFINITION. What counts as a safe state: every sparse store in its canonical form, every FIFO and queue level within the depth the
spec gives it. And the words that claims about commands use: when a register access is taken, and what stands after it. -/

namespace Sys2Proof.Machine

/-- What an unlisted byte of the MRAM banks and the buffers reads as. DESIGN CHOICE, log 12. -/
abbrev zeroByte : Nat → Byte := fun _ => 0

/-- The DRAM is in canonical form. -/
def Dram.Canon (d : Dram) : Prop := Sparse.wf d.dflt d.mem

/-- The invariant of the block. -/
structure State.Inv (s : State) : Prop where
  regs : Sparse.wf resetWord s.regs
  fifoForm : Sparse.wf (fun _ => emptyFifo) s.fifos
  mram : ∀ b : Fin 2, Sparse.wf zeroByte s.mram[b]
  stage : Sparse.wf zeroByte s.stage
  epm : Sparse.wf zeroByte s.epm
  templates : Sparse.wf zeroByte s.graver.templates
  buffer : Sparse.wf zeroByte s.graver.buffer
  dram : s.dram.Canon
  areas : ∀ i : Inst, Sparse.wf zeroByte s.cpt[i].run
  /-- a hand-off FIFO holds at most the records R115 and R178 give it -/
  fifos : ∀ e ∈ s.fifos, e.2.recs.length ≤ fifoDepth e.1
  /-- a queue level holds at most 64 records (R122) -/
  queues : ∀ (n : QueueIx) (l : Fin 8), ((s.queues[n]).levels[l]).recs.length ≤ 64

/-! ### When a register access is taken -/

/-- A page that an access can meet: the windows stand in compatibility mode only (R49). -/
def State.pageThere (s : State) : PageId → Bool
  | .win _ => s.compat
  | _ => true

/-- An access of a requester to an offset of a page reaches its target now: the requester's words are taken (R89, R93, R101), the page
stands, and its clock, its reset domain and the load do not keep the access (R74–R76, R133). -/
def State.reaches (s : State) (who : Requester) (pg : PageId) (off : Nat) : Bool :=
  s.mayAccess who && decide (off < 0x1000) && s.pageThere pg && !s.stalls who pg off &&
    (alwaysThere pg off || (s.clockOn pg && !s.domainInRst pg))

/-- A write of a requester to an offset of a page is taken: it reaches its target, is not refused (R95) and meets no pending guarded
pair of its identity (R61). -/
def State.takesWrite (s : State) (who : Requester) (pg : PageId) (off : Nat) : Bool :=
  s.reaches who pg off && !s.denied who (some pg) off && (s.pair (s.identOf who)).isNone

/-- What stands once a single access has been answered: a core global reset leaves no answer; a reset of the management domain
follows the answer (R21). -/
def State.afterAccess (s : State) (status : Fin 16) (data : Word) : State :=
  if s.coreHeld then s.reply .silent else (s.reply (.word status data)).mgtFollow

/-- The management domain is in the state that `CLK_RESET.MGT_RST` asks for (R21). -/
def State.mgtSettled (s : State) : Bool :=
  !s.locked || s.cfgFlag .clk F.CLK_RESET_MGT_RST == s.flag .clk F.CLK_RESET_STATUS_MGT_IN_RST

/-- What stands once a write of a requester has been taken (R55): the register write, then its answer. -/
def State.writeTakenBy (s : State) (who : Requester) (pg : PageId) (off : Nat) (be : BitVec 4) (v : Word) : State :=
  (s.writeReg (s.identOf who) pg off be v false false 0).afterAccess 0 0

/-- Both writes of a guarded pair are taken: the RWG register and its complement (R61). -/
def State.takesPair (s : State) (who : Requester) (pg : PageId) (off : Nat) : Bool :=
  s.takesWrite who pg off && s.takesWrite who pg (off + 4) && s.mgtSettled && !s.coreHeld

/-- What stands once a guarded pair has been taken (R61): the pair opened and answered, the guarded write, and its answer. -/
def State.pairTakenBy (s : State) (who : Requester) (pg : PageId) (off : Nat) (v : Word) : State :=
  let s1 := (s.setPair (s.identOf who) (some ⟨regAddr pg off, v⟩)).reply (.word 0 0)
  ((s1.setPair (s.identOf who) none).writeReg (s.identOf who) pg off 0xF v true false 0).afterAccess 0 0

/-! ### What a command can change -/

/-- The kinds of page, without the instance. -/
inductive PageKind where
  | glb | clk | mgt | evq | cfg | pwe | bgt | hlt | cpt | u2h | ssh | prs | mgf | epm | grv | drc | ups | tcp | vbs | u2p | ssp | con
  | lhe | win
  deriving DecidableEq, Repr

/-- The kind of a page. -/
def pageKind : PageId → PageKind
  | .glb => .glb
  | .clk => .clk
  | .mgt => .mgt
  | .evq => .evq
  | .cfg => .cfg
  | .pwe => .pwe
  | .bgt => .bgt
  | .hlt => .hlt
  | .cpt => .cpt
  | .u2h _ => .u2h
  | .ssh _ => .ssh
  | .prs => .prs
  | .mgf => .mgf
  | .epm => .epm
  | .grv => .grv
  | .drc => .drc
  | .ups _ => .ups
  | .tcp _ => .tcp
  | .vbs _ => .vbs
  | .u2p _ => .u2p
  | .ssp _ => .ssp
  | .con _ => .con
  | .lhe _ => .lhe
  | .win _ => .win

/-- The parts of the state that a command can change on its own, the queue apart: the registers by kind of page, and what lies behind them. -/
inductive Part where
  | page (k : PageKind)
  | answer | freeCount | coreHeld | dclkOn | gclkOn | drcPend | uptime | guards | bad | runs | mports | ringSlots | ringSides | legacy
  | routePtr | wear | cfgOp | entry | arb | u2pSt | hubCtx | sspSt | ssCtx | upLink | vbsSt | tcpSt | pdSt | upPdOut | conSt | presSt
  | moveCause | mgfSt | lheSt | health | fifos | queues | mram | stage | epm | graver | dram | cpt | grvTemplates | grvBuffer
  | dramMem
  deriving DecidableEq, Repr

/-- A part is the same in two states. -/
def Part.same (s t : State) : Part → Prop
  | .page k => ∀ (pg : PageId) (off : Nat), pageKind pg = k → off < 0x1000 → t.rd (pg.base + off) = s.rd (pg.base + off)
  | .graver => { t.graver with templates := [], buffer := [] } = { s.graver with templates := [], buffer := [] }
  | .grvTemplates => t.graver.templates = s.graver.templates
  | .grvBuffer => t.graver.buffer = s.graver.buffer
  | .dram => { t.dram with mem := [], epoch := 0, zeroed := false } = { s.dram with mem := [], epoch := 0, zeroed := false }
  | .dramMem => t.dram.mem = s.dram.mem ∧ t.dram.geom = s.dram.geom ∧ t.dram.epoch = s.dram.epoch ∧ t.dram.zeroed = s.dram.zeroed
  | .answer => t.answer = s.answer
  | .freeCount => t.freeCount = s.freeCount
  | .coreHeld => t.coreHeld = s.coreHeld
  | .dclkOn => t.dclkOn = s.dclkOn
  | .gclkOn => t.gclkOn = s.gclkOn
  | .drcPend => t.drcPend = s.drcPend
  | .uptime => t.uptime = s.uptime ∧ t.phase = s.phase ∧ t.copies = s.copies
  | .guards => t.guards = s.guards
  | .bad => t.bad = s.bad
  | .runs => t.runs = s.runs
  | .mports => t.mports = s.mports
  | .ringSlots => t.ringSlots = s.ringSlots
  | .ringSides => t.ringSides = s.ringSides
  | .legacy => t.legacy = s.legacy
  | .routePtr => t.routePtr = s.routePtr
  | .wear => t.wear = s.wear
  | .cfgOp => t.cfgOp = s.cfgOp
  | .entry => t.entry = s.entry
  | .arb => t.arb = s.arb
  | .u2pSt => t.u2pSt = s.u2pSt
  | .hubCtx => t.hubCtx = s.hubCtx
  | .sspSt => t.sspSt = s.sspSt
  | .ssCtx => t.ssCtx = s.ssCtx
  | .upLink => t.upLink = s.upLink
  | .vbsSt => t.vbsSt = s.vbsSt
  | .tcpSt => t.tcpSt = s.tcpSt
  | .pdSt => t.pdSt = s.pdSt
  | .upPdOut => t.upPdOut = s.upPdOut ∧ t.upWant = s.upWant
  | .conSt => t.conSt = s.conSt
  | .presSt => t.presSt = s.presSt
  | .moveCause => t.moveCause = s.moveCause ∧ t.moveBegun = s.moveBegun
  | .mgfSt => t.mgfSt = s.mgfSt
  | .lheSt => t.lheSt = s.lheSt
  | .health => t.health = s.health
  | .fifos => t.fifos = s.fifos
  | .queues => t.queues = s.queues
  | .mram => t.mram = s.mram
  | .stage => t.stage = s.stage
  | .epm => t.epm = s.epm
  | .cpt => t.cpt = s.cpt

/-- Every part. -/
def Part.all : List Part :=
  [.page .glb, .page .clk, .page .mgt, .page .evq, .page .cfg, .page .pwe, .page .bgt, .page .hlt, .page .cpt, .page .u2h, .page .ssh,
    .page .prs, .page .mgf, .page .epm, .page .grv, .page .drc, .page .ups, .page .tcp, .page .vbs, .page .u2p, .page .ssp,
    .page .con, .page .lhe, .page .win, .answer, .freeCount, .coreHeld, .dclkOn, .gclkOn, .drcPend, .uptime, .guards, .bad, .runs,
    .mports, .ringSlots, .ringSides, .legacy, .routePtr, .wear, .cfgOp, .entry, .arb, .u2pSt, .hubCtx, .sspSt, .ssCtx, .upLink,
    .vbsSt, .tcpSt, .pdSt, .upPdOut, .conSt, .presSt, .moveCause, .mgfSt, .lheSt, .health, .fifos, .queues, .mram, .stage, .epm,
    .graver, .dram, .cpt, .grvTemplates, .grvBuffer, .dramMem]

/-- Every part but some. -/
def Part.allBut (l : List Part) : List Part := Part.all.filter (fun p => !l.contains p)

/-- The parts through which a port's power goes on and off: its switch, its PD engine and CC logic, its USB sides, the budget, and the
event queues' sources. -/
def Part.portPower : List Part :=
  [.page .glb, .page .bgt, .page .tcp, .page .vbs, .page .u2p, .page .ssp, .page .con, .freeCount, .arb, .u2pSt, .sspSt, .upLink,
    .vbsSt, .tcpSt, .pdSt, .fifos]

/-- The parts that a command can change. -/
def touches : Instr → List Part
  | .supplyMonitorTrip | .corereset | .rootUnlock =>
    Part.allBut [.page .pwe, .wear]
  | .coreResetRelease .. =>
    [.page .glb, .page .clk, .page .mgt, .page .cpt, .coreHeld]
  | .coreRst .. | .plateRst .. | .graverRst .. | .drcRst .. | .mgtRst .. | .dclkRun .. | .gclkRun .. | .fclkPlateRun .. | .portRst ..
  | .guardFirstWrite .. | .guardComplementWrite .. | .parityScrub .. | .pageEnWrite .. | .blkRst .. | .accessTimeout ..
  | .registerWrite .. | .writeF .. | .writeFixed .. | .semRelease .. | .semForce .. | .hostGrantChange .. | .ringRequest ..
  | .popComplete .. | .evqPopTimeout .. | .flush .. | .stageWrite .. | .commit .. | .fetchActive .. | .fetchOther .. | .poolWrite ..
  | .targetWrite .. | .forceOff .. | .recover .. | .conTxdataWrite .. | .pdCtrlHardReset .. | .pdCtrlSoftReset .. | .sendCaps ..
  | .rediscover .. | .exitMode .. | .pdEnWrite .. | .enterCp .. | .loopMaster .. | .exitTest .. | .marginStart .. | .maxGenWrite ..
  | .ownerWrite .. | .failback .. | .reattach .. | .regWrite .. | .doorbell .. | .crConsWrite .. | .bufWdata .. | .ringCfgRestart ..
  | .load .. | .store .. | .eccClear .. | .compatAttach .. | .instReset .. | .configAreaWrite .. | .quarSet .. | .quarRelease ..
  | .plateIsoSet .. | .plateIsoClear .. | .peakClr .. | .updatePortPolicy .. | .updatePort .. | .updatePresDesc .. =>
    Part.allBut []
  | .selfRefreshEntry =>
    [.page .glb, .page .clk, .page .mgt, .page .evq, .page .cfg, .page .pwe, .page .bgt, .page .hlt, .page .cpt, .page .u2h,
      .page .ssh, .page .prs, .page .mgf, .page .epm, .page .grv, .page .drc, .page .ups, .page .tcp, .page .vbs, .page .u2p,
      .page .ssp, .page .con, .page .lhe, .page .win, .freeCount, .dclkOn, .gclkOn, .drcPend, .bad, .arb, .presSt, .mgfSt, .fifos,
      .epm, .dram, .grvTemplates, .dramMem]
  | .rootLock =>
    [.page .glb, .page .clk, .page .mgt, .page .cpt, .coreHeld, .dclkOn, .gclkOn]
  | .laneUnlock .. =>
    Part.portPower ++ [.page .clk, .page .mgt, .page .hlt, .page .ssh, .page .mgf, .page .ups, .ssCtx, .conSt, .mgfSt, .lheSt,
      .graver]
  | .laneRelock .. =>
    [.page .clk, .page .ups, .page .ssp, .freeCount, .sspSt, .upLink, .lheSt, .fifos, .graver]
  | .guardExpire .. =>
    [.page .mgt, .guards]
  | .restartComplete pg => [.page (pageKind pg)]
  | .portAbort .. =>
    [.page .glb, .page .clk, .page .mgt, .page .evq, .page .cfg, .page .pwe, .page .bgt, .page .hlt, .page .cpt, .page .u2h,
      .page .ssh, .page .prs, .page .mgf, .page .epm, .page .grv, .page .drc, .page .ups, .page .tcp, .page .vbs, .page .u2p,
      .page .ssp, .page .con, .page .lhe, .page .win, .answer, .bad, .runs, .mports, .ringSlots, .ringSides, .legacy, .presSt, .fifos,
      .queues, .grvTemplates]
  | .readF .. | .readFixed .. | .semClaim .. | .evqPop .. | .evqPeek .. | .stageRead .. | .conRxdataRead .. | .regRead ..
  | .epmWinRead .. | .bufRdata .. | .rcRead .. =>
    Part.allBut [.coreHeld, .dclkOn, .gclkOn, .drcPend, .uptime, .guards, .routePtr, .wear, .cfgOp, .entry, .upPdOut, .moveCause,
      .health, .mram, .stage, .epm, .cpt]
  | .replay .. | .badOpcode .. =>
    [.page .mgt, .answer, .mports]
  | .csNRise .. =>
    [.answer, .mports]
  | .mgtReady =>
    [.page .glb]
  | .attentionNotice .. =>
    [.page .mgt]
  | .semOrphanEnd .. =>
    [.page .glb, .page .mgt, .fifos]
  | .legAddress .. =>
    [.answer, .legacy]
  | .legWriteByte .. =>
    Part.allBut [.coreHeld, .dclkOn, .gclkOn, .drcPend, .uptime, .guards, .runs, .mports, .ringSlots, .ringSides, .routePtr, .wear,
      .cfgOp, .entry, .ssCtx, .upPdOut, .health, .queues, .mram, .stage, .epm]
  | .legReadByte =>
    [.page .glb, .page .clk, .page .mgt, .page .evq, .page .cfg, .page .pwe, .page .bgt, .page .hlt, .page .cpt, .page .u2h,
      .page .ssh, .page .prs, .page .mgf, .page .epm, .page .grv, .page .drc, .page .ups, .page .tcp, .page .vbs, .page .u2p,
      .page .ssp, .page .con, .page .lhe, .page .win, .answer, .bad, .fifos, .cpt]
  | .legSclTimeout =>
    [.page .mgt, .legacy]
  | .linkUp .. | .linkDown .. =>
    [.page .glb, .page .mgt, .ringSides, .fifos]
  | .miswire .. =>
    [.page .mgt, .fifos]
  | .roster .. =>
    [.page .mgt, .ringSlots, .ringSides, .fifos]
  | .ringForward .. | .getPortStatus .. | .statusChangePoll .. | .getPortErrorCount .. | .ssGetPortStatus .. =>
    [.answer]
  | .ringResponse .. | .ringBusyTimeout .. =>
    [.answer, .mports, .ringSides]
  | .ringRetry .. =>
    [.page .mgt, .answer, .mports, .ringSides]
  | .eventRoute =>
    [.page .mgt, .page .evq, .page .u2h, .page .mgf, .page .u2p, .page .win, .mports, .ringSides, .routePtr, .u2pSt, .hubCtx, .upLink,
      .mgfSt, .fifos, .queues]
  | .uptimeAlign =>
    [.uptime]
  | .entryResetRelease .. | .seatingLoss .. | .seatDbEnd | .entryFastTrip .. | .faultTimeEnd .. | .rampMaxEnd .. | .ilimCheck ..
  | .feedLoss .. | .feedSwitch =>
    [.page .pwe, .entry, .fifos]
  | .entryReset =>
    [.page .glb, .page .clk, .page .mgt, .page .evq, .page .cfg, .page .pwe, .page .bgt, .page .hlt, .page .cpt, .page .u2h,
      .page .ssh, .page .prs, .page .mgf, .page .epm, .page .grv, .page .drc, .page .ups, .page .tcp, .page .vbs, .page .u2p,
      .page .ssp, .page .con, .page .lhe, .page .win, .bad, .entry, .fifos]
  | .loadComplete =>
    Part.allBut [.answer, .coreHeld, .uptime, .guards, .routePtr, .wear, .cfgOp, .entry, .upPdOut, .health, .mram, .stage]
  | .pacingDoneTimeout | .upCalibrationEnd =>
    [.page .glb, .arb]
  | .commitLeaveTimeout =>
    [.page .glb, .page .cfg, .page .bgt, .cfgOp, .arb, .fifos]
  | .commitWriteEnd .. =>
    [.page .glb, .page .cfg, .freeCount, .cfgOp, .arb, .fifos, .mram, .stage]
  | .fetchEnd =>
    [.page .cfg, .cfgOp, .stage]
  | .rampEnd | .feedGood .. =>
    [.page .pwe]
  | .entryLimit .. | .entryRetryEnd | .entryConsecClear | .feedReturn | .seated =>
    [.page .pwe, .entry]
  | .entryScrub .. =>
    [.page .glb, .page .clk, .page .mgt, .page .evq, .page .cfg, .page .pwe, .page .bgt, .page .hlt, .page .cpt, .page .u2h,
      .page .ssh, .page .prs, .page .mgf, .page .epm, .page .grv, .page .drc, .page .ups, .page .tcp, .page .vbs, .page .u2p,
      .page .ssp, .page .con, .page .lhe, .page .win, .bad, .fifos]
  | .leaveRequest .. | .leaveDone .. | .leaveWithdraw .. | .dieWindow | .pacingGapEnd | .revokeSuccess .. =>
    Part.portPower ++ [.page .cfg, .page .drc, .page .lhe, .wear, .cfgOp, .lheSt, .graver]
  | .feedGoodnessChange .. | .growDelayEnd | .revokeTimeEnd .. =>
    Part.portPower ++ [.page .cfg, .page .drc, .page .lhe, .wear, .cfgOp, .conSt, .lheSt, .graver]
  | .growth =>
    [.page .bgt, .page .tcp, .page .vbs, .page .u2p, .page .ssp, .freeCount, .u2pSt, .sspSt, .upLink, .vbsSt, .pdSt, .lheSt, .fifos,
      .graver]
  | .adcSample .. | .settleEnd .. | .closeMaxEnd .. | .portFastTrip .. | .slowTimeEnd .. | .swapAttempt .. =>
    Part.portPower ++ [.page .hlt, .page .cpt, .page .lhe, .page .win, .conSt, .lheSt, .health, .graver]
  | .dischargeEnd .. | .dschMaxEnd .. | .quarAutoEnd .. =>
    Part.allBut [.answer, .coreHeld, .dclkOn, .gclkOn, .drcPend, .uptime, .guards, .runs, .mports, .ringSlots, .ringSides, .legacy,
      .routePtr, .wear, .cfgOp, .entry, .ssCtx, .upPdOut, .queues, .mram, .stage, .epm, .cpt]
  | .retryIntEnd .. | .attach .. =>
    [.page .tcp, .page .vbs, .page .u2p, .page .ssp, .freeCount, .arb, .u2pSt, .sspSt, .upLink, .vbsSt, .tcpSt, .lheSt, .fifos,
      .graver]
  | .portConsecClear .. =>
    [.page .vbs, .vbsSt]
  | .ccClassify .. =>
    [.page .ups, .page .tcp, .page .vbs, .vbsSt, .tcpSt]
  | .detach .. | .sinkDetach .. | .hardResetPowerOff .. | .sinkHardResetTimeout .. | .pwrHoldEnd .. =>
    Part.portPower ++ [.conSt, .lheSt, .graver]
  | .drpToggle .. | .trySrcTimeout .. =>
    [.page .tcp, .page .vbs, .vbsSt]
  | .trySrcSuccess .. =>
    [.page .tcp, .page .vbs, .arb, .vbsSt, .tcpSt, .fifos, .graver]
  | .tryTimeout .. | .trySrc .. | .debounceLost .. =>
    [.page .tcp, .page .vbs, .vbsSt, .tcpSt]
  | .sinkAttach .. | .errorRecoveryEnd .. =>
    [.page .tcp, .page .vbs, .page .u2p, .page .ssp, .freeCount, .u2pSt, .sspSt, .upLink, .vbsSt, .tcpSt, .lheSt, .fifos, .graver]
  | .vconnTrip .. =>
    [.page .hlt, .page .tcp, .page .vbs, .vbsSt, .tcpSt, .pdSt, .fifos]
  | .conRxByte .. =>
    [.page .hlt, .page .con, .page .lhe, .conSt, .graver]
  | .conTxDone .. =>
    [.page .con, .conSt]
  | .upstreamAttach .. =>
    [.page .ups]
  | .upstreamDetach .. =>
    Part.portPower ++ [.page .mgt, .page .u2h, .page .ssh, .page .prs, .page .mgf, .page .ups, .page .win, .bad, .hubCtx, .ssCtx,
      .upPdOut, .conSt, .presSt, .moveCause, .mgfSt, .lheSt, .graver, .cpt]
  | .sourceCapabilities .. | .request .. | .getSourceCap .. | .getSinkCap .. | .eprGetSourceCap .. | .prSwap .. | .drSwap ..
  | .vconnSwap .. | .frSwap .. | .softReset .. | .hardReset .. | .getStatus .. | .getPpsStatus .. | .getSourceCapExtended ..
  | .getSourceInfo .. | .getRevision .. | .getManufacturerInfo .. | .eprMode .. | .eprKeepalive .. | .vendorDefined .. | .bist ..
  | .unsupportedMessage .. | .accept .. | .reject .. | .waitMsg .. | .senderResponseTimeout .. =>
    Part.portPower ++ [.page .hlt, .upPdOut, .conSt, .lheSt, .graver]
  | .pingMsg .. | .alertMsg .. | .goodcrc .. =>
    [.page .tcp, .pdSt, .upPdOut]
  | .psRdy .. =>
    Part.portPower ++ [.page .hlt, .page .cpt, .page .lhe, .page .win, .upPdOut, .conSt, .lheSt, .health, .graver]
  | .goodcrcTimeout .. =>
    [.page .hlt, .page .tcp, .page .vbs, .vbsSt, .pdSt, .upPdOut, .fifos]
  | .srcStartupEnd .. | .waitTimerEnd .. | .capsMergeEnd .. | .srcRecoverEnd .. | .consoleModeAttempt .. =>
    [.page .tcp, .page .vbs, .vbsSt, .pdSt]
  | .sourceCapResend .. | .frsSignal .. =>
    [.page .tcp, .pdSt]
  | .transitionStart .. =>
    [.page .tcp, .page .vbs, .arb, .vbsSt, .pdSt, .fifos]
  | .transLimitEnd .. | .ppsTimeout .. | .eprKeepaliveTimeout .. | .revokeNoRequest .. | .sinkWaitCapTimeout .. =>
    Part.portPower ++ [.page .hlt, .conSt, .lheSt, .graver]
  | .leaveHoldEnd .. =>
    [.page .glb, .page .bgt, .arb, .pdSt]
  | .sinkTxEnd .. =>
    [.page .glb, .page .bgt, .page .tcp, .page .vbs, .page .con, .arb, .vbsSt, .tcpSt, .pdSt, .conSt, .fifos]
  | .discoverIdentityAttempt .. | .vdmResponseTimeout .. =>
    [.page .tcp, .page .vbs, .vbsSt, .pdSt, .fifos]
  | .frsVbusDrop .. =>
    [.page .tcp, .page .vbs, .page .u2p, .page .ssp, .freeCount, .arb, .u2pSt, .sspSt, .upLink, .vbsSt, .pdSt, .lheSt, .fifos,
      .graver]
  | .contextReset .. =>
    Part.portPower ++ [.page .mgt, .page .u2h, .page .mgf, .page .win, .hubCtx, .conSt, .presSt, .mgfSt, .lheSt, .graver, .cpt]
  | .contextSuspend .. =>
    [.page .u2h, .page .mgf, .page .win, .hubCtx, .mgfSt, .fifos]
  | .contextResume .. | .remoteWake .. =>
    [.page .u2h, .page .mgf, .page .u2p, .page .win, .u2pSt, .hubCtx, .mgfSt, .fifos]
  | .connect .. | .portResetEnd .. | .ttTransactionEnd .. | .ttResultExpire .. =>
    [.page .u2p, .u2pSt]
  | .disconnect .. =>
    [.page .u2p, .u2pSt, .lheSt, .graver]
  | .babble .. =>
    [.page .hlt, .page .u2p, .u2pSt]
  | .setPortReset .. =>
    Part.portPower ++ [.page .mgt, .page .u2h, .page .mgf, .page .win, .answer, .hubCtx, .conSt, .presSt, .mgfSt, .lheSt, .graver,
      .cpt]
  | .chirpK .. =>
    [.u2pSt]
  | .setPortSuspend .. =>
    [.page .u2p, .answer, .freeCount, .fifos]
  | .clearPortSuspend .. | .clearPortL1 .. =>
    [.page .u2h, .page .u2p, .answer, .freeCount, .u2pSt]
  | .resumeEnd .. | .l1ExitEnd .. =>
    [.page .u2p, .u2pSt, .fifos]
  | .clearPortEnable .. | .clearTtBuffer .. | .resetTt .. | .stopTt .. =>
    [.page .u2p, .answer, .freeCount, .u2pSt]
  | .setPortPower .. | .clearPortPower .. =>
    Part.portPower ++ [.answer, .conSt, .lheSt, .graver, .cpt]
  | .setPortTest .. =>
    [.page .u2p, .answer, .freeCount]
  | .setAndTestPortL1 .. =>
    [.answer, .freeCount, .u2pSt]
  | .lpmAnswer .. =>
    [.page .u2p, .answer, .u2pSt, .fifos]
  | .wakePropagationEnd .. =>
    [.hubCtx]
  | .clearChangeBit .. =>
    [.answer, .freeCount, .u2pSt, .hubCtx]
  | .getHubStatus .. =>
    [.page .mgf, .page .epm, .answer, .epm]
  | .getHubDescriptor .. =>
    [.answer, .freeCount]
  | .getDescriptor .. =>
    [.page .mgf, .page .epm, .answer, .freeCount, .epm]
  | .setInterface .. =>
    [.answer, .hubCtx]
  | .hubRequestError .. | .setEndpointHalt .. =>
    [.page .mgf, .answer]
  | .startSplit .. =>
    [.page .hlt, .page .u2p, .answer, .u2pSt]
  | .completeSplit .. =>
    [.page .hlt, .page .u2p, .answer, .u2pSt, .fifos]
  | .ttStale .. =>
    [.page .hlt, .page .u2p, .u2pSt, .fifos]
  | .rxDetect .. =>
    [.page .ssp]
  | .linkU0 .. =>
    [.page .ssp, .sspSt, .upLink, .fifos]
  | .pollingFail .. =>
    [.page .hlt, .page .ssp, .freeCount, .sspSt, .upLink, .lheSt, .fifos, .graver]
  | .linkRecovery .. =>
    [.page .hlt, .page .ups, .page .ssp, .freeCount, .sspSt, .upLink, .lheSt, .fifos, .graver]
  | .ssInactive .. =>
    [.page .ssp, .sspSt, .lheSt, .fifos, .graver]
  | .ssPortReset .. =>
    [.page .glb, .page .mgt, .page .mgf, .page .ssp, .answer, .freeCount, .sspSt, .mgfSt, .fifos]
  | .bhPortReset .. =>
    [.page .glb, .page .mgt, .page .mgf, .page .ssp, .answer, .freeCount, .sspSt, .upLink, .mgfSt, .lheSt, .fifos, .graver]
  | .ssResetEnd .. =>
    [.page .ssp, .freeCount, .sspSt, .upLink, .fifos]
  | .ssContextReset .. | .upstreamLinkTrained .. =>
    Part.portPower ++ [.page .mgt, .page .ssh, .page .mgf, .page .ups, .ssCtx, .conSt, .mgfSt, .lheSt, .graver]
  | .setLinkStateU3 .. =>
    [.page .ssp, .answer, .freeCount, .sspSt]
  | .setLinkStateU0 .. =>
    [.page .u2h, .answer, .sspSt, .fifos]
  | .setLinkStateDisabled .. | .setLinkStateRxDetect .. =>
    [.page .ssp, .answer, .freeCount, .sspSt, .upLink, .lheSt, .fifos, .graver]
  | .ssSetPortPower .. | .ssClearPortPower .. =>
    Part.portPower ++ [.answer, .ssCtx, .conSt, .lheSt, .graver]
  | .setPortU1Timeout .. | .setRemoteWakeMask .. | .setForceLinkpmAccept .. =>
    [.page .ssp, .answer]
  | .setPortU2Timeout .. =>
    [.page .ssp, .answer, .sspSt]
  | .setHubDepth .. | .u1U2Enable .. =>
    [.answer, .ssCtx]
  | .ssClearChangeBit .. =>
    [.page .ssp, .answer, .sspSt, .ssCtx]
  | .u1Inactivity .. =>
    [.page .ups, .page .ssp]
  | .lgoUx .. =>
    [.page .ups, .page .ssp, .answer]
  | .ssHeader .. =>
    [.page .u2h, .page .prs, .page .mgf, .page .ups, .page .u2p, .page .ssp, .page .win, .answer, .bad, .u2pSt, .hubCtx, .sspSt,
      .ssCtx, .upLink, .presSt, .moveCause, .mgfSt, .fifos]
  | .packetForward .. =>
    [.page .hlt, .page .ssh, .page .ups, .page .ssp, .sspSt, .ssCtx, .upLink]
  | .ssRemoteWake .. =>
    [.page .u2h, .page .ssp, .sspSt, .upLink, .fifos]
  | .complianceEntry .. | .loopbackEntry .. =>
    [.page .ssp, .freeCount, .sspSt, .upLink, .lheSt, .fifos, .graver]
  | .pingLfps .. =>
    [.sspSt]
  | .marginEnd .. =>
    [.page .ssp, .sspSt]
  | .movePoint .. =>
    Part.portPower ++ [.page .u2h, .page .prs, .page .mgf, .page .grv, .page .drc, .page .lhe, .page .win, .hubCtx, .ssCtx, .conSt,
      .presSt, .moveCause, .mgfSt, .lheSt, .graver, .dram, .grvBuffer, .dramMem]
  | .presAttach .. =>
    [.page .glb, .page .prs, .page .ups, .page .ssp, .freeCount, .hubCtx, .sspSt, .ssCtx, .upLink, .presSt, .lheSt, .fifos, .graver]
  | .livenessLoss .. | .presentationLive .. | .foSuspLimitEnd .. | .fbDelayEnd .. | .sof .. =>
    [.page .u2h, .page .prs, .page .mgf, .page .u2p, .page .win, .bad, .u2pSt, .hubCtx, .upLink, .presSt, .moveCause, .mgfSt, .fifos]
  | .reattachEnd .. =>
    [.presSt]
  | .getResult .. | .vendorReplay .. | .ep3Ack .. =>
    [.page .mgf, .page .epm, .answer, .mgfSt]
  | .dramRead .. | .mgfSetConfiguration .. | .clearEndpointHalt .. =>
    [.page .mgf, .answer, .mgfSt]
  | .dramWrite .. | .notice .. =>
    [.page .mgf, .page .epm, .answer, .mgfSt, .epm]
  | .vendorRequestDone .. =>
    [.page .mgf, .page .epm, .page .drc, .answer, .mgfSt, .fifos, .epm, .dram, .dramMem]
  | .bulkCommand .. =>
    [.page .mgf, .answer, .mgfSt, .epm]
  | .bulkRead .. =>
    [.page .mgf, .page .epm, .page .drc, .mgfSt, .fifos, .epm, .dram]
  | .bulkWrite .. =>
    [.page .mgf, .page .epm, .page .drc, .mgfSt, .fifos, .epm, .dram, .dramMem]
  | .noticeAck .. | .inServiceChange .. =>
    [.page .mgf, .mgfSt]
  | .functionReset .. =>
    [.page .glb, .page .mgt, .page .mgf, .freeCount, .mgfSt, .fifos]
  | .functionWake .. =>
    [.answer, .mgfSt]
  | .descriptorFetch =>
    [.page .glb, .page .bgt, .page .grv, .page .drc, .page .lhe, .arb, .fifos, .graver, .dram]
  | .jobStart .. | .waitTime .. | .waitAttach .. | .waitDetach .. | .waitVbusOn .. | .waitUsbConnect .. =>
    [.page .glb, .page .bgt, .page .lhe, .arb, .graver]
  | .take .. | .give .. =>
    [.page .glb, .page .bgt, .page .u2h, .page .prs, .page .mgf, .page .u2p, .page .lhe, .page .win, .bad, .arb, .u2pSt, .hubCtx,
      .upLink, .presSt, .moveCause, .mgfSt, .fifos, .graver]
  | .powerOff .. | .powerOn .. | .powerCycle .. =>
    Part.portPower ++ [.page .lhe, .bad, .conSt, .lheSt, .graver]
  | .enumJob .. =>
    [.page .glb, .page .bgt, .page .hlt, .page .drc, .page .u2p, .page .ssp, .page .lhe, .answer, .freeCount, .arb, .u2pSt, .sspSt,
      .upLink, .lheSt, .fifos, .graver, .dram, .grvBuffer, .dramMem]
  | .configJob .. =>
    [.page .glb, .page .bgt, .page .hlt, .page .lhe, .answer, .arb, .lheSt, .graver]
  | .ctrlJob .. =>
    [.page .glb, .page .bgt, .page .hlt, .page .drc, .page .lhe, .answer, .arb, .lheSt, .fifos, .graver, .dram, .grvBuffer, .dramMem]
  | .jobWrite .. =>
    [.page .glb, .page .bgt, .page .hlt, .page .grv, .page .drc, .page .lhe, .answer, .arb, .lheSt, .fifos, .graver, .dram]
  | .jobRead .. =>
    [.page .glb, .page .bgt, .page .hlt, .page .drc, .page .lhe, .arb, .lheSt, .fifos, .graver, .dram, .grvBuffer, .dramMem]
  | .captureSbu .. =>
    [.page .glb, .page .bgt, .page .lhe, .answer, .arb, .graver]
  | .captureCdc .. =>
    [.page .glb, .page .bgt, .page .hlt, .page .grv, .page .drc, .page .lhe, .answer, .arb, .lheSt, .fifos, .graver, .dram,
      .grvBuffer, .dramMem]
  | .verifyCompare .. =>
    [.page .glb, .page .bgt, .page .hlt, .page .grv, .page .drc, .page .lhe, .arb, .lheSt, .fifos, .graver, .dram]
  | .verifyCrc .. =>
    [.page .glb, .page .bgt, .page .hlt, .page .lhe, .arb, .lheSt, .graver]
  | .stopRunning .. | .stopCaptures .. | .stopQueued .. | .jobEnd .. | .jobTimeout .. =>
    [.page .glb, .page .bgt, .page .grv, .page .drc, .page .lhe, .arb, .fifos, .graver, .dram, .grvBuffer, .dramMem]
  | .completionWrite .. | .completionRetry .. =>
    [.page .grv, .page .drc, .fifos, .graver, .dram, .grvBuffer, .dramMem]
  | .captureRecordClose .. =>
    [.page .grv, .page .drc, .page .lhe, .fifos, .graver, .dram, .grvBuffer, .dramMem]
  | .trainingEnd .. =>
    [.page .glb, .page .drc, .arb, .dram, .dramMem]
  | .zeroingEnd =>
    [.page .glb, .page .drc, .dram, .dramMem]
  | .refresh | .zqCalibration =>
    []
  | .scrub .. =>
    [.page .drc, .freeCount, .fifos, .dram, .dramMem]
  | .windowCommandEnd .. =>
    [.page .drc, .bad, .fifos, .dram, .dramMem]
  | .ddrAlert =>
    [.page .drc]
  | .holdTimeout .. =>
    Part.allBut [.answer, .coreHeld, .dclkOn, .gclkOn, .drcPend, .uptime, .guards, .runs, .mports, .ringSlots, .ringSides, .legacy,
      .routePtr, .wear, .cfgOp, .entry, .ssCtx, .upPdOut, .health, .queues, .mram, .stage, .epm]
  | .tempSample .. =>
    Part.portPower ++ [.page .mgt, .page .cfg, .page .hlt, .page .ssh, .page .mgf, .page .drc, .page .ups, .page .lhe, .wear, .cfgOp,
      .ssCtx, .conSt, .mgfSt, .lheSt, .health, .graver]
  | .shedStepTimer =>
    Part.portPower ++ [.page .cfg, .page .hlt, .page .drc, .page .lhe, .wear, .cfgOp, .conSt, .lheSt, .graver]
  | .plateIsolated .. =>
    [.page .hlt, .fifos]
  | .updateEnd =>
    [.page .hlt, .health]
  | .plateCalibrationEnd .. =>
    [.page .glb, .page .hlt, .page .ssp, .freeCount, .arb, .sspSt, .ssCtx, .upLink, .lheSt, .fifos, .graver]
  | .highSpeedPacket .. =>
    [.page .hlt, .answer]
  | .setAddress .. =>
    [.page .mgf, .answer, .hubCtx, .ssCtx, .mgfSt]
  | .hubSetConfiguration .. =>
    [.page .mgf, .page .win, .answer, .hubCtx, .ssCtx, .presSt, .mgfSt]
  | .deviceRemoteWakeup .. =>
    [.page .mgf, .answer, .hubCtx, .mgfSt]
  | .lgoU3 .. =>
    [.page .mgf, .page .ups, .ssCtx, .mgfSt]
  | .upstreamExitLfps .. =>
    [.page .u2h, .page .mgf, .page .ups, .page .ssp, .sspSt, .ssCtx, .upLink, .mgfSt, .fifos]

end Sys2Proof.Machine
end

