-- ==== Sys2Proof/Certificates/Slice0/Obligations.lean ====
section
/-! DEFINITION. The statements for the provers, after the few functions they speak with. -/

namespace Sys2Proof.Machine

/-- What a core global reset leaves, with its cause (R17, R152): everything but the entry domain, MRAM and the wear counts is as reset
gives it. A commit that was writing is cut, and says nothing here. -/
def coreResetLeaves (s t : State) (cause : Fin 8) : Prop :=
  t.coreHeld = true ∧ t.entry = { s.entry with lastCause := cause } ∧
  (∀ a, t.rd a = if 0x5000 ≤ a ∧ a < 0x6000 then s.rd a else resetWord a) ∧
  t.mram = s.mram ∧ t.wear = s.wear ∧ t.queues = State.reset.queues ∧ t.runs = [] ∧ t.guards = [] ∧ t.stage = [] ∧ t.epm = [] ∧
  t.graver = State.reset.graver ∧ t.ringSlots = [] ∧ t.uptime = 0 ∧ t.dram.mem = [] ∧ t.dram.epoch = s.dram.epoch + 1

/-- A commit writes its target bank. -/
def State.committing (s : State) : Bool :=
  match s.cfgOp with
  | .writing _ _ => true
  | _ => false

/-- A request lies within its PDO and raises neither the voltage nor the power (R241). -/
def State.noRaise (s : State) (p : Port) (rdo : Word) : Bool :=
  match s.readRdo p rdo with
  | none => false
  | some (mv, ma10, type, w) =>
    rdoFits mv ma10 type w && decide (mv ≤ (s.present p).1) && decide (mv * ma10 ≤ (s.present p).1 * (s.present p).2)


/-- The code with which a job has ended on a port, if it has. -/
def State.endedWith (s : State) (j : Job) (p : Port) : Option Byte := ((s.job j.id).bind (·.part p)).bind (·.code)

/-- The phase and the position of a job on a port. -/
def State.phaseOf (s : State) (j : Job) (p : Port) : Option (Nat × Nat) := ((s.job j.id).bind (·.part p)).map (fun x => (x.phase, x.pos))

/-- A job of an opcode runs on a port, and no other job has its number. -/
def State.runsJob (s : State) (p : Port) (op : Nat) (j : Job) (x : JobPort) : Bool :=
  s.jobAt p op == some (j, x) && s.job j.id == some j

/-- What one bit of a field of a type becomes when a write brings a bit to it (R56). -/
def storedBit (ty : Access) (guarded old new : Bool) : Bool :=
  match ty with
  | .rw | .cnt => new
  | .rwg => if guarded then new else old
  | .w1c => old && !new
  | .w1s => old || new
  | .ro | .rc | .wo | .cmd => old

end Sys2Proof.Machine

open Sys2Proof Sys2Proof.Machine

/-- One step takes the command at the front of the queue and runs it with the rest of the queue waiting. With nothing waiting the step is
the tick of an idle block (the model's choice, log 3). Where the spec leaves a choice it rests on the model's, log 1 and 3. -/
def Obligations.StepTakesTheFrontCommand : Prop :=
  (∀ (c : Instr) (rest : List Instr) (s : State), s.pending = c :: rest → step s = exec c (s.withPending rest)) ∧
  (∀ s : State, s.pending = [] → step s = .next s.tick)

/-- Whatever the state, a well-formed command ends in a next state, no command is refused, and the one fault is that of a command no
sender can form. Where the spec leaves a choice it rests on the model's, log 7. -/
def Obligations.WellFormedCommandsComplete : Prop :=
  (∀ (c : Instr) (s : State), c.wf = true → ∃ t, exec c s = .next t) ∧
  (∀ (c : Instr) (s : State) (r : Refusal), exec c s ≠ .refused r) ∧
  (∀ (c : Instr) (s : State) (e : Fault), exec c s = .fault e → e = .illFormed ∧ c.wf = false)

/-- Whatever command is at the front: from a state whose stores are canonical and whose FIFOs and queue levels are within their depths
(R115, R122, R178), a step leads to such a state. -/
def Obligations.EveryStepKeepsTheInvariant : Prop :=
  (∀ s t : State, s.Inv → step s = .next t → t.Inv)

/-- The state after reset keeps the canonical forms and the depths. -/
def Obligations.ResetMeetsTheInvariant : Prop :=
  (State.reset.Inv)

/-- After reset the core is held, nothing waits, every page's header reads as R464 gives it, and the fields read their reset columns
(R107, R129). While the core is held, each port's switch is off and its discharge on, `VSET` is low, the CC lines are open, the USB 2.0
lines are high impedance, and the interrupt lines and LEDs are off (R34). Where the spec leaves a choice it rests on the model's, log 2. -/
def Obligations.ResetLeavesTheStatedValues : Prop :=
  (State.reset.coreHeld = true ∧ State.reset.pending = [] ∧ (∀ a, State.reset.rd a = resetWord a)) ∧
  (∀ pg : PageId, hasHeader pg = true → resetWord pg.base = BitVec.ofNat 32 (pg.typeCode * 0x1000000 + pg.inst * 0x10000 + 0x100) ∧
    resetWord (pg.base + 4) = 1 ∧ resetWord (pg.base + 0xC) = 0 ∧ resetWord (pg.base + 0x14) = 0) ∧
  (resetWord 0x2054 = 0xAFAEADAC ∧ resetWord 0x2058 = 0xB3B2B1B0 ∧ (∀ n : QueueIx, resetWord (0x3064 + 0x40 * n.val) = if n.val < 2 then
    0x83FE else 0x76) ∧ fldGet F.MGT_RING_CFG_RETRY_TIME (resetWord 0x2060) = 50 ∧ fldGet F.MGT_RING_CFG_RETRIES (resetWord 0x2060) = 3
    ∧ fldGet F.MGT_RING_CFG_SEM_ORPHAN (resetWord 0x2060) = 10) ∧
  (∀ (s : State) (p : Port) (m : Master), s.coreHeld = true → s.gateBall p = false ∧ s.dschBall p = true ∧ s.vsetBall p = 0 ∧ s.ccBall p =
    .opened ∧ s.usbHighZ p = true ∧ s.intBall m = false ∧ s.ledLow = true)

/-- R145: the outcome that the banks and `STRAP_CFG_BYPASS` give, and the bank that becomes the active image. -/
def Obligations.TheLoadHasTheOutcomesOfTheTable : Prop :=
  (∀ s : State, s.flag .glb F.GLB_STRAPS_CFG_BYPASS = true → s.loadStore.1 = 4 ∧ s.loadStore.2 = s) ∧
  (∀ s : State, s.flag .glb F.GLB_STRAPS_CFG_BYPASS = false → s.bankOk s.newerBank = true → s.loadStore.1 = 0) ∧
  (∀ s : State, s.flag .glb F.GLB_STRAPS_CFG_BYPASS = false → s.bankOk s.newerBank = false → s.bankOk (otherBank s.newerBank) = true →
    s.loadStore.1 = 1) ∧
  (∀ s : State, s.flag .glb F.GLB_STRAPS_CFG_BYPASS = false → s.bankOk 0 = false → s.bankOk 1 = false → s.loadStore.1 = (if s.bankBlank 0
    && s.bankBlank 1 then 2 else 3))

/-- A command that can change the answer only leaves everything else as it is; one that can change nothing does nothing. Where the spec
leaves a choice it rests on the model's, log 4 and 8. -/
def Obligations.AnswerOnlyCommandsChangeNothingElse : Prop :=
  (∀ (c : Instr) (s t : State), touches c = [.answer] → exec c s = .next t → t = s.reply t.answer) ∧
  (∀ (c : Instr) (s : State), touches c = [] → exec c s = .next s)

/-- Each command changes registers only on the kinds of page that `touches` lists for it; at every address of every other kind of page,
and at every address where no page lies, the word is the one before. -/
def Obligations.CommandsLeaveOtherPagesAlone : Prop :=
  (∀ (c : Instr) (s t : State) (pg : PageId) (off : Nat), exec c s = .next t → .page (pageKind pg) ∉ touches c → off < 0x1000 → t.rd
    (pg.base + off) = s.rd (pg.base + off)) ∧
  (∀ (c : Instr) (s t : State) (a : Nat), exec c s = .next t → pageAt a = none → t.rd a = s.rd a)

/-- Each command leaves the MRAM banks, the staging buffer, the endpoint memory, the graver's templates and buffer, the DRAM and the
emulated instances as they were, unless `touches` lists them for it. -/
def Obligations.CommandsLeaveOtherMemoriesAlone : Prop :=
  (∀ (c : Instr) (s t : State) (p : Part), exec c s = .next t → p ∉ touches c → p ∈ [Part.mram, .stage, .epm, .grvTemplates, .grvBuffer,
    .dramMem, .cpt] → p.same s t)

/-- No command changes the queue of commands, and each leaves every part of the state behind the registers that `touches` does not list
for it: FIFOs, queues, waiting accesses, arbiter, engines, contexts, links and clocks. Where the spec leaves a choice it rests on the
model's, log 1. -/
def Obligations.CommandsLeaveOtherStateAlone : Prop :=
  (∀ (c : Instr) (s t : State), exec c s = .next t → t.pending = s.pending) ∧
  (∀ (c : Instr) (s t : State) (p : Part), exec c s = .next t → p ∉ touches c → (∀ k, p ≠ .page k) → p.same s t)

/-- A register write stores each bit of a field as the field's type says (R56), in the byte lanes that act (R73); bits of aligned bases
that are kept at zero stay zero. -/
def Obligations.StoredFieldsFollowTheirTypes : Prop :=
  (∀ (s : State) (pg : PageId) (off : Nat) (be : BitVec 4) (v : Word) (guarded : Bool) (r : RegDesc) (f : FieldDesc) (i : Nat), pg.regAt
    off = some r → ownStore pg off = false → off < 0x1000 → f ∈ r.fields → f.lo ≤ i → i < f.lo + f.width → ((s.storeFields pg off be v
    guarded).2.rd (pg.base + off)).getLsbD i = (if (zeroBits pg off).getLsbD i then false else if (lanesOf r.fields be).getLsbD (i / 8)
    = false then (s.rd (pg.base + off)).getLsbD i else storedBit f.ty guarded ((s.rd (pg.base + off)).getLsbD i) (v.getLsbD i)))

/-- A staging write changes the four bytes at the staging pointer at most; a bulk WRITE changes the DRAM bytes that its block names and a
window's command those of its window's count at most; the end of a commit changes its target bank at most. Where the spec leaves a choice
it rests on the model's, log 39 and 73. -/
def Obligations.StoresLeaveOtherBytesAlone : Prop :=
  (∀ (who : Requester) (be : BitVec 4) (v : Word) (s t : State) (a : Nat), exec (.stageWrite who be v) s = .next t → ¬ (s.stagePtr ≤ a ∧ a
    < s.stagePtr + 4) → Sparse.get zeroByte t.stage a = Sparse.get zeroByte s.stage a) ∧
  (∀ (u : Up) (c : BulkCmd) (s t : State) (a : Nat), s.bulkReady u true = some c → exec (.bulkWrite u false) s = .next t → ¬ (c.addr ≤ a ∧
    a < c.addr + c.len) → t.dram.byte a = s.dram.byte a) ∧
  (∀ (w : WinIx) (c : WinCmd) (s t : State) (a : Nat), s.dram.win[w] = some c → exec (.windowCommandEnd w) s = .next t → ¬ (c.addr ≤ a ∧ a
    < c.addr + 4 * c.count) → t.dram.byte a = s.dram.byte a) ∧
  (∀ (w : WinIx) (s : State), s.dram.win[w] = none → exec (.windowCommandEnd w) s = .next s) ∧
  (∀ (ok : Bool) (tgt other : Fin 2) (c : Nat) (s t : State), s.cfgOp = .writing tgt c → other ≠ tgt → exec (.commitWriteEnd ok) s = .next
    t → t.mram[other] = s.mram[other])

/-- R1: `GLB_ID` reads 0x6416, revision A, minor revision 1 and 00 for every master and host agent that is heard, in both modes and before
the load too, and the read never waits. Commands that these clauses say complete, each with a next state of its own effect: readF. -/
def Obligations.EveryRequesterReadsTheIdentification : Prop :=
  (∀ (who : Requester) (resumed parityErr : Bool) (errors : Nat) (s : State), s.coreUp = true → (s.access who 0x40 none resumed parityErr
    errors).map (fun x => x.1) = some ⟨0, 0x6416A100⟩) ∧
  (∀ (m : Master) (ns : List Nibble) (s : State), wholeFrame 1 false ns = true → crcGood ns = true → s.mgtTakes = true → s.busyWith
    (masterReq m) = false → (hdrOf ns).waddr = 0x10 → (hdrOf ns).count = 0 → (hdrOf ns).isLocal = true → ∃ t, exec (.readF m ns false) s
    = .next t ∧ t.answer = .frame m ⟨0, [⟨0, 0x6416A100⟩], true⟩)

/-- R51: on GLB, CLK, MGT, EVQ, CFG, PWE and HLT, `PAGE_CTRL` reads `EN` 1 and `BLK_RST` 0, and a write to it changes nothing and records
nothing: no domain is reset by it. Commands that these clauses say complete, each with a next state of its own effect: registerWrite,
blkRst, pageEnWrite. -/
def Obligations.AlwaysOnPagesIgnorePageControl : Prop :=
  (∀ (who : Requester) (pg : PageId) (resumed parityErr : Bool) (errors : Nat) (s : State), pg ∈ [PageId.glb, .clk, .mgt, .evq, .cfg,
    .pwe, .hlt] → s.reaches who pg 4 = true → (s.access who (regAddr pg 4) none resumed parityErr errors).map (fun x => x.1) = some ⟨0,
    1⟩) ∧
  (∀ (who : Requester) (pg : PageId) (be : BitVec 4) (v : Word) (s : State), pg ∈ [PageId.glb, .clk, .mgt, .evq, .cfg, .pwe, .hlt] →
    s.takesWrite who pg 4 = true → ∃ t, exec (.registerWrite who (regAddr pg 4) be v) s = .next t ∧ t = (s.reply (.word 0 0)).mgtFollow) ∧
  (∀ (who : Requester) (pg : PageId) (s : State), pg ∈ [PageId.glb, .clk, .mgt, .evq, .cfg, .pwe, .hlt] → s.takesWrite who pg 4 = true → ∃
    t, exec (.blkRst who pg) s = .next t ∧ t = (s.reply (.word 0 0)).mgtFollow) ∧
  (∀ (who : Requester) (pg : PageId) (en : Bool) (s : State), pg ∈ [PageId.glb, .clk, .mgt, .evq, .cfg, .pwe, .hlt] → s.takesWrite who pg
    4 = true → ∃ t, exec (.pageEnWrite who pg en) s = .next t ∧ t = (s.reply (.word 0 0)).mgtFollow)

/-- R14: in compatibility mode the four plate branches of FCLK are stopped, `CLK_GATE.FCLK_PLATE_RUN` reads 0, and a guarded write of its
bits is accepted, leaves the branches stopped and keeps reading 0. Commands that these clauses say complete, each with a next state of its
own effect: fclkPlateRun. -/
def Obligations.PlateClocksStopInCompatibilityMode : Prop :=
  (∀ (k : Plate) (s : State), s.compat = true → s.fclkRun k = false ∧ fldGet F.CLK_GATE_FCLK_PLATE_RUN (s.view .clk 0x44) = 0) ∧
  (∀ (who : Requester) (k : Plate) (v : BitVec 4) (s : State), s.compat = true → s.takesPair who .clk 0x44 = true → ∃ t, exec
    (.fclkPlateRun who v) s = .next t ∧ t.answer = .word 0 0 ∧ t.fclkRun k = false ∧ fldGet F.CLK_GATE_FCLK_PLATE_RUN (t.view .clk 0x44)
    = 0)

/-- R93: the holder's write of `GLB_SEMn_REL` frees the semaphore, a host agent's too whatever its grant. Any other identity's write, or
one to a free semaphore, leaves it as it is and sets `MGT_ERRn.SEM` with the writer's origin. (A host agent without the grant that does
not hold it is refused before it gets there, R95.) Where the spec leaves a choice it rests on the model's, log 76. Commands that these
clauses say complete, each with a next state of its own effect: semRelease. -/
def Obligations.SemaphoreReleasesAreTheHolders : Prop :=
  (∀ (who : Requester) (n : Sem) (be : BitVec 4) (s : State), s.reaches who .glb (0x104 + 16 * n.val) = true → be ≠ 0 → s.semHeldBy n
    (s.identOf who) = true → ∃ t, exec (.semRelease who n be) s = .next t ∧ t.get .glb (F.GLB_SEMn_OWNER_HELD n.val) = 0) ∧
  (∀ (who : Requester) (n : Sem) (be : BitVec 4) (u : Up) (s : State), hostUp who = some u → s.hostGrant u = false → s.reaches who .glb
    (0x104 + 16 * n.val) = true → be ≠ 0 → s.semHeldBy n (s.identOf who) = true → ∃ t, exec (.semRelease who n be) s = .next t ∧ t.get
    .glb (F.GLB_SEMn_OWNER_HELD n.val) = 0) ∧
  (∀ (who : Requester) (n : Sem) (be : BitVec 4) (s : State), s.reaches who .glb (0x104 + 16 * n.val) = true → s.denied who (some .glb)
    (0x104 + 16 * n.val) = false → be ≠ 0 → s.semHeldBy n (s.identOf who) = false → s.mgtSettled = true → ∃ t, exec (.semRelease who n
    be) s = .next t ∧ t.rd (0x108 + 16 * n.val) = s.rd (0x108 + 16 * n.val) ∧ t.get .mgt (F.MGT_ERRn_SEM (s.identOf who).owner.val) = 1
    ∧ t.get .mgt (F.MGT_ERRn_ORIGIN (s.identOf who).owner.val) = (s.identOf who).origin.val) ∧
  (∀ (who : Requester) (n : Sem) (be : BitVec 4) (s : State), s.reaches who .glb (0x104 + 16 * n.val) = true → s.denied who (some .glb)
    (0x104 + 16 * n.val) = true → be ≠ 0 → ∃ t, exec (.semRelease who n be) s = .next t ∧ t.rd (0x108 + 16 * n.val) = s.rd (0x108 + 16 *
    n.val) ∧ t.answer = .word 4 0)

/-- R125: a read of `EVQ_PEEKn` answers at once with word 0 of the record a pop would take, loads its other words into the three latches
and removes nothing; of an empty queue all four words are zero. Commands that these clauses say complete, each with a next state of its
own effect: evqPeek. -/
def Obligations.PeekShowsTheNextRecord : Prop :=
  (∀ (who : Requester) (q : QueueIx) (r : EventRecord) (s : State), s.reaches who .evq (0x50 + 0x40 * q.val) = true → (s.popRecord q).map
    (fun x => x.1) = some r → s.mgtSettled = true → ∃ t, exec (.evqPeek who q) s = .next t ∧ t.answer = .word 0 r.w0 ∧ t.rd (0x3054 +
    0x40 * q.val) = r.detail ∧ t.rd (0x3058 + 0x40 * q.val) = r.w2 ∧ t.rd (0x305C + 0x40 * q.val) = r.w3 ∧ t.queues = s.queues) ∧
  (∀ (who : Requester) (q : QueueIx) (s : State), s.reaches who .evq (0x50 + 0x40 * q.val) = true → s.popRecord q = none → s.mgtSettled =
    true → ∃ t, exec (.evqPeek who q) s = .next t ∧ t.answer = .word 0 0 ∧ t.rd (0x3054 + 0x40 * q.val) = 0 ∧ t.rd (0x3058 + 0x40 *
    q.val) = 0 ∧ t.rd (0x305C + 0x40 * q.val) = 0 ∧ t.queues = s.queues)

/-- R433: an instance whose `ATTACH` has not been written in time attaches with its area as it stands, its byte 0xF0 and the `INT_STATUS`
bit of HOLD_TIMEOUT set; with `NO_TIMEOUT` it stays in hold and nothing is recorded (its timer is done). Where the CPT page is off or a
byte of the window mismatches, the attach waits (R52, R444). Commands that these clauses say complete, each with a next state of its own
effect: holdTimeout. -/
def Obligations.HoldTimeoutAttachesTheInstance : Prop :=
  (∀ (i : Inst) (s : State), s.coreUp = true → s.compat = true → s.loaded = true → s.instHolding i = true → s.cpt[i].timer = true →
    (s.cptByte i 7).testBit 1 = false → s.attachBarred i = false → ∃ t, exec (.holdTimeout i) s = .next t ∧ t.instAttached i = true ∧
    (t.cptByte i 0xF0).testBit 0 = true ∧ t.get .cpt (F.INT_STATUS 1) = 1 ∧ t.instHolding i = false ∧ t.cpt[i].run = s.instArea i ∧
    t.get .cpt F.CPT_CNT_HOLD_TIMEOUTS = min (s.get .cpt F.CPT_CNT_HOLD_TIMEOUTS + 1) (2 ^ F.CPT_CNT_HOLD_TIMEOUTS.width - 1)) ∧
  (∀ (i : Inst) (s : State), s.coreUp = true → s.compat = true → s.loaded = true → s.instHolding i = true → s.cpt[i].timer = true →
    (s.cptByte i 7).testBit 1 = true → ∃ t, exec (.holdTimeout i) s = .next t ∧ t = s.cptWith i (fun c => { c with timer := false })) ∧
  (∀ (i : Inst) (s : State), s.coreUp = true → s.compat = true → s.loaded = true → s.instHolding i = true → s.cpt[i].timer = true →
    (s.cptByte i 7).testBit 1 = false → s.attachBarred i = true → ∃ t, exec (.holdTimeout i) s = .next t ∧ t.instHolding i = true ∧
    t.cpt[i].dueTime = true)

/-- A core global reset by the supply monitors, by JTAG and by loss of root lock (R15, R17, R468): it is asserted with cause 0, 3 or 2,
and reaches neither the entry domain nor MRAM. Where the spec leaves a choice it rests on the model's, log 2 and 13. Commands that these
clauses say complete, each with a next state of its own effect: supplyMonitorTrip, corereset, rootUnlock. -/
def Obligations.CoreResetReachesAllButEntryAndMram : Prop :=
  (∀ (s : State), s.committing = false → ∃ t, exec .supplyMonitorTrip s = .next t ∧ coreResetLeaves s t 0) ∧
  (∀ (s : State), s.committing = false → ∃ t, exec .corereset s = .next t ∧ coreResetLeaves s t 3) ∧
  (∀ (s : State), s.committing = false → s.locked = true → ∃ t, exec .rootUnlock s = .next t ∧ t.coreHeld = true ∧ t.entry =
    { s.entry with lastCause := 2 } ∧ t.mram = s.mram ∧ t.wear = s.wear ∧ (∀ a, t.rd a = if (0x5000 ≤ a ∧ a < 0x6000) ∨ a = 0x60 then
    s.rd a else resetWord a))

/-- The Type-C connection logic (R206–R209, R211–R213, R216, R221): where each event takes a port whose logic can run, and what it records
of the partner. Where the spec leaves a choice it rests on the model's, log 4 and 51. Commands that these clauses say complete, each with
a next state of its own effect: ccClassify, attach, detach, debounceLost, drpToggle, trySrc, trySrcSuccess, trySrcTimeout, tryTimeout,
sinkAttach, sinkDetach, errorRecoveryEnd, vconnTrip. -/
def Obligations.TypeCEventsMoveTheConnectionState : Prop :=
  (∀ (p : Port) (cc1 : CcLevel) (cc2 : CcLevel) (s : State), s.ccCanRun p = true → ∃ t, exec (.ccClassify (.down p) cc1 cc2) s = .next t ∧
    t.get (.tcp p) F.TCP_CC_STATUS_CC1_LVL = ccCode cc1 ∧ t.get (.tcp p) F.TCP_CC_STATUS_CC2_LVL = ccCode cc2) ∧
  (∀ (p : Port) (s : State), s.ccCanRun p = true → (s.tcp p).announced = false → s.ccSt p = 3 → (s.ccRowNow p).1 ≠ 0 → (s.ccRowNow p).1 ≠
    5 → ∃ t, exec (.attach p) s = .next t ∧ (t.tcp p).announced = true ∧ t.get (.tcp p) F.TCP_CC_STATUS_STATE = 3) ∧
  (∀ (p : Port) (s : State), s.ccCanRun p = true → (s.tcp p).announced = false → s.ccSt p = 3 → (s.ccRowNow p).1 = 5 → ∃ t, exec (.attach
    p) s = .next t ∧ (t.tcp p).announced = true ∧ t.get (.tcp p) F.TCP_CC_STATUS_STATE = 11) ∧
  (∀ (p : Port) (s : State), s.portUp p = true → (s.tcp p).announced = true → s.rdGone p = true → s.pe p ≠ 9 → s.ccSt p ≠ 7 → ∃ t, exec
    (.detach p) s = .next t ∧ (t.get (.tcp p) F.TCP_CC_STATUS_STATE = (if (s.ccRowNow p).1 = 1 ∨ (s.ccRowNow p).1 = 2 ∨ (s.ccRowNow p).1
    = 4 then 3 else 2)) ∧ (t.tcp p).announced = false ∧ ((t.tcp p).partner = (if (s.ccRowNow p).1 = 1 ∨ (s.ccRowNow p).1 = 2 ∨
    (s.ccRowNow p).1 = 4 then (s.ccRowNow p).1 else 0))) ∧
  (∀ (p : Port) (s : State), s.ccCanRun p = true → s.ccSt p = 3 → (s.tcp p).announced = false → (s.ccRowNow p).1 = 0 → ∃ t, exec
    (.debounceLost p) s = .next t ∧ t.get (.tcp p) F.TCP_CC_STATUS_STATE = 2) ∧
  (∀ (p : Port) (s : State), s.ccCanRun p = true → s.drp p = true → s.ccSt p = 2 → (s.ccRowNow p).1 = 0 → ∃ t, exec (.drpToggle p) s =
    .next t ∧ t.get (.tcp p) F.TCP_CC_STATUS_STATE = 5) ∧
  (∀ (p : Port) (s : State), s.ccCanRun p = true → s.drp p = true → s.ccSt p = 5 → ∃ t, exec (.drpToggle p) s = .next t ∧ t.get (.tcp p)
    F.TCP_CC_STATUS_STATE = 2) ∧
  (∀ (p : Port) (s : State), s.ccCanRun p = true → s.ccSt p = 6 → ∃ t, exec (.trySrc p) s = .next t ∧ t.get (.tcp p) F.TCP_CC_STATUS_STATE
    = 8 ∧ (t.tcp p).tryUsed = true) ∧
  (∀ (p : Port) (s : State), s.ccCanRun p = true → s.ccSt p = 8 → ((s.ccRowNow p).1 = 1 ∨ (s.ccRowNow p).1 = 2) → ∃ t, exec
    (.trySrcSuccess p) s = .next t ∧ t.get (.tcp p) F.TCP_CC_STATUS_STATE = 3 ∧ (t.tcp p).announced = true) ∧
  (∀ (p : Port) (s : State), s.ccCanRun p = true → s.ccSt p = 8 → ∃ t, exec (.trySrcTimeout p) s = .next t ∧ t.get (.tcp p)
    F.TCP_CC_STATUS_STATE = 9) ∧
  (∀ (p : Port) (s : State), s.ccCanRun p = true → s.ccSt p = 9 → s.rpSeen p = false → ∃ t, exec (.tryTimeout p) s = .next t ∧ t.get (.tcp
    p) F.TCP_CC_STATUS_STATE = 5 ∧ (t.tcp p).tryUsed = false) ∧
  (∀ (p : Port) (s : State), s.rpSeen p = true → ∃ t, exec (.tryTimeout p) s = .next t ∧ t = s) ∧
  (∀ (p : Port) (s : State), s.ccCanRun p = true → s.ccSt p = 9 → 40000000 ≤ s.vbusUv10 p → (3 ≤ s.get (.tcp p) F.TCP_CC_STATUS_CC1_LVL ↔
    ¬ 3 ≤ s.get (.tcp p) F.TCP_CC_STATUS_CC2_LVL) → ∃ t, exec (.sinkAttach p) s = .next t ∧ t.get (.tcp p) F.TCP_CC_STATUS_STATE = 7 ∧
    (t.tcp p).partner = 3 ∧ (t.tcp p).announced = true) ∧
  (∀ (p : Port) (s : State), s.portUp p = true → s.ccSt p = 7 → s.vbusUv10 p < 36700000 → s.pe p ≠ 8 → s.pe p ≠ 9 → (s.pd p).snkWaitVbus =
    false → ∃ t, exec (.sinkDetach p) s = .next t ∧ t.get (.tcp p) F.TCP_CC_STATUS_STATE = 1 ∧ (t.tcp p).announced = false) ∧
  (∀ (p : Port) (s : State), s.ccCanRun p = true → s.ccSt p = 1 → ∃ t, exec (.errorRecoveryEnd p) s = .next t ∧ (t.get (.tcp p)
    F.TCP_CC_STATUS_STATE = (if (s.ccRowNow p).1 = 1 ∨ (s.ccRowNow p).1 = 2 ∨ (s.ccRowNow p).1 = 4 then 3 else 2))) ∧
  (∀ (p : Port) (s : State), s.portUp p = true → s.get (.tcp p) F.TCP_CC_STATUS_VCONN_ON = 1 → ∃ t, exec (.vconnTrip p) s = .next t ∧
    t.get (.tcp p) F.TCP_CC_STATUS_VCONN_ON = 0 ∧ (t.tcp p).vconnBarred = true)

/-- The VBUS switch (R195–R198): what a sample records, how a closing goes on or fails, what trips the port e-fuse, and how a discharge
ends. Where the spec leaves a choice it rests on the model's, log 4, 14 and 52. Commands that these clauses say complete, each with a next
state of its own effect: adcSample, settleEnd, closeMaxEnd, portFastTrip, slowTimeEnd, portConsecClear, retryIntEnd, dischargeEnd,
dschMaxEnd. -/
def Obligations.VbusSwitchFollowsItsEvents : Prop :=
  (∀ (p : Port) (vbus : Nat) (vreg : Nat) (sense : Int) (s : State), s.portUp p = true → s.get (.vbs p) F.VBS_STATUS_STATE = 0 → ∃ t, exec
    (.adcSample p vbus vreg sense) s = .next t ∧ t.get (.vbs p) F.VBS_MEAS_VBUS = min vbus 4095 ∧ t.get (.vbs p) F.VBS_MEAS_VREG = min
    vreg 4095 ∧ t.get (.vbs p) F.VBS_IBUS_IBUS_MA = senseMa (s.rsns p) sense ∧ t.get (.vbs p) F.VBS_STATUS_SAFE0V = bit (decide (vbus ≤
    56) && (s.vbs p).lastLow)) ∧
  (∀ (p : Port) (s : State), s.portUp p = true → s.get (.vbs p) F.VBS_STATUS_STATE = 1 → nearTarget (s.get (.vbs p) F.VBS_MEAS_VREG) 5000
    = true → s.get (.vbs p) F.VBS_STATUS_SAFE0V = 1 → ∃ t, exec (.settleEnd p) s = .next t ∧ t.get (.vbs p) F.VBS_STATUS_STATE = 2 ∧
    t.get (.vbs p) F.VBS_STATUS_GATE_ON = 1 ∧ t.get (.vbs p) F.VBS_STATUS_DSCH_ON = 0) ∧
  (∀ (p : Port) (s : State), s.portUp p = true → s.get (.vbs p) F.VBS_STATUS_STATE = 2 → s.get (.vbs p) F.VBS_STATUS_CONSEC < s.cfg (.vbs
    p) F.VBS_FUSE_RETRIES → ∃ t, exec (.closeMaxEnd p) s = .next t ∧ t.get (.tcp p) F.TCP_CC_STATUS_STATE = 12 ∧ t.get (.vbs p)
    F.VBS_STATUS_LAST_CAUSE = 3 ∧ t.get (.vbs p) F.VBS_STATUS_CONSEC = min (s.get (.vbs p) F.VBS_STATUS_CONSEC + 1) 15) ∧
  (∀ (p : Port) (ma : Nat) (s : State), s.portUp p = true → s.gateOn p = true → 2 * (s.get (.vbs p) F.VBS_TARGET_LIMIT_MA) ≤ ma → s.get
    (.vbs p) F.VBS_STATUS_CONSEC < s.cfg (.vbs p) F.VBS_FUSE_RETRIES → ∃ t, exec (.portFastTrip p ma) s = .next t ∧ t.get (.tcp p)
    F.TCP_CC_STATUS_STATE = 12 ∧ t.get (.vbs p) F.VBS_STATUS_LAST_CAUSE = 1) ∧
  (∀ (p : Port) (s : State), s.portUp p = true → s.slowArmed p = true → s.get (.vbs p) F.VBS_STATUS_CONSEC < s.cfg (.vbs p)
    F.VBS_FUSE_RETRIES → ∃ t, exec (.slowTimeEnd p) s = .next t ∧ t.get (.tcp p) F.TCP_CC_STATUS_STATE = 12 ∧ t.get (.vbs p)
    F.VBS_STATUS_LAST_CAUSE = 2) ∧
  (∀ (p : Port) (s : State), s.portUp p = true → s.slowArmed p = true → s.cfg (.vbs p) F.VBS_FUSE_RETRIES ≤ s.get (.vbs p)
    F.VBS_STATUS_CONSEC → ∃ t, exec (.slowTimeEnd p) s = .next t ∧ t.get .hlt (portBit F.HLT_QUAR_QUAR p) = 1 ∧ t.get (.vbs p)
    F.VBS_STATUS_STATE = 7) ∧
  (∀ (p : Port) (s : State), s.portUp p = true → s.get (.vbs p) F.VBS_STATUS_STATE = 3 → ∃ t, exec (.portConsecClear p) s = .next t ∧
    t.get (.vbs p) F.VBS_STATUS_CONSEC = 0 ∧ (t.vbs p).slowRun = false) ∧
  (∀ (p : Port) (held : Bool) (s : State), s.portUp p = true → (s.vbs p).retryRun = true → s.ccSt p = 12 → held = true → ((s.ccRowNow p).1
    = 1 ∨ (s.ccRowNow p).1 = 2 ∨ (s.ccRowNow p).1 = 4) → ∃ t, exec (.retryIntEnd p held) s = .next t ∧ t.get (.tcp p)
    F.TCP_CC_STATUS_STATE = 3 ∧ (t.vbs p).retryRun = false ∧ (t.tcp p).announced = true) ∧
  (∀ (p : Port) (held : Bool) (s : State), s.portUp p = true → (s.vbs p).retryRun = true → s.ccSt p = 12 → (s.ccRowNow p).1 = 0 → ∃ t,
    exec (.retryIntEnd p held) s = .next t ∧ t.get (.tcp p) F.TCP_CC_STATUS_STATE = 2 ∧ (t.vbs p).retryRun = false) ∧
  (∀ (p : Port) (s : State), s.portUp p = true → s.dschRuns p = true → ((s.vbs p).safeSeen = true ∨ s.get (.vbs p) F.VBS_STATUS_SAFE0V =
    1) → s.health.quarDsch.getLsbD p.val = false → ∃ t, exec (.dischargeEnd p) s = .next t ∧ t.get (.vbs p) F.VBS_STATUS_STATE = (if
    (s.vbs p).retryRun then 6 else 0) ∧ t.get (.vbs p) F.VBS_STATUS_DSCH_ON = 0 ∧ (t.vbs p).dschLock = false) ∧
  (∀ (p : Port) (s : State), s.portUp p = true → s.dschRuns p = true → (s.vbs p).safeSeen = false → s.flag (.vbs p) F.VBS_STATUS_SAFE0V =
    false → s.health.quarDsch.getLsbD p.val = false → ∃ t, exec (.dschMaxEnd p) s = .next t ∧ t.get (.vbs p) F.VBS_STATUS_STATE = (if
    (s.vbs p).retryRun then 6 else 0) ∧ t.get (.vbs p) F.VBS_STATUS_DSCH_ON = 0 ∧ (t.vbs p).dschLock = true ∧ t.get (.vbs p)
    F.VBS_CNT_DSCH_FAIL = min (s.get (.vbs p) F.VBS_CNT_DSCH_FAIL + 1) (2 ^ F.VBS_CNT_DSCH_FAIL.width - 1))

/-- Messages that a ready engine answers at once (R250, and R246 for PPS): the answer is the one thing it sends, and it stays where it
was. The engine of an upstream port (R260): it is a sink at zero draw that accepts a soft reset, rejects every swap and supports nothing
else. Where the spec leaves a choice it rests on the model's, log 53, 54, 55 and 56. Commands that these clauses say complete, each with a
next state of its own effect: getSinkCap, prSwap, getStatus, getPpsStatus, getSourceCapExtended, getSourceInfo, getRevision,
getManufacturerInfo, pingMsg, alertMsg, bist, frSwap, unsupportedMessage, sourceCapabilities, request, getSourceCap, drSwap, vconnSwap,
softReset, vendorDefined. -/
def Obligations.PdEnginesAnswerRequestsForInformation : Prop :=
  (∀ (p : Port) (msg : PdMsg) (s : State), s.pdHears p = true → msg.sopPrime = false → msg.sopDouble = false → msg.unchunked = false →
    s.pdReady p = true → ∃ t, exec (.getSinkCap (.down p) msg) s = .next t ∧ (t.pd p).out = [goodCrc false, ⟨false, .sinkCaps, [sinkPdo
    (s.drp p)], []⟩] ∧ t.get (.tcp p) F.TCP_PD_STATUS_PE_STATE = s.get (.tcp p) F.TCP_PD_STATUS_PE_STATE) ∧
  (∀ (p : Port) (msg : PdMsg) (s : State), s.pdHears p = true → msg.sopPrime = false → msg.sopDouble = false → msg.unchunked = false →
    s.pdReady p = true → ∃ t, exec (.prSwap (.down p) msg) s = .next t ∧ (t.pd p).out = [goodCrc false, ⟨false, .reject, [], []⟩] ∧
    t.get (.tcp p) F.TCP_PD_STATUS_PE_STATE = s.get (.tcp p) F.TCP_PD_STATUS_PE_STATE) ∧
  (∀ (p : Port) (msg : PdMsg) (s : State), s.pdHears p = true → msg.sopPrime = false → msg.sopDouble = false → msg.unchunked = false →
    s.pdReady p = true → s.get (.tcp p) F.TCP_PD_STATUS_SPEC_REV = 2 → (s.pd p).revKnown = true → ∃ t, exec (.getStatus (.down p) msg) s
    = .next t ∧ (t.pd p).out = [goodCrc false, ⟨false, .status, [], s.statusBlock p⟩]) ∧
  (∀ (p : Port) (msg : PdMsg) (s : State), s.pdHears p = true → msg.sopPrime = false → msg.sopDouble = false → msg.unchunked = false →
    s.pdReady p = true → s.ppsNow p = true → ∃ t, exec (.getPpsStatus (.down p) msg) s = .next t ∧ (t.pd p).out = [goodCrc false,
    ⟨false, .ppsStatus, [], s.ppsStatus p⟩]) ∧
  (∀ (p : Port) (msg : PdMsg) (s : State), s.pdHears p = true → msg.sopPrime = false → msg.sopDouble = false → msg.unchunked = false →
    s.pdReady p = true → s.ppsNow p = false → s.get (.tcp p) F.TCP_PD_STATUS_SPEC_REV = 2 → (s.pd p).revKnown = true → ∃ t, exec
    (.getPpsStatus (.down p) msg) s = .next t ∧ (t.pd p).out = [goodCrc false, ⟨false, .notSupported, [], []⟩]) ∧
  (∀ (p : Port) (msg : PdMsg) (s : State), s.pdHears p = true → msg.sopPrime = false → msg.sopDouble = false → msg.unchunked = false →
    s.pdReady p = true → s.get (.tcp p) F.TCP_PD_STATUS_SPEC_REV = 2 → (s.pd p).revKnown = true → ∃ t, exec (.getSourceCapExtended
    (.down p) msg) s = .next t ∧ (t.pd p).out = [goodCrc false, ⟨false, .sourceCapsExt, [], s.extCapBlock p⟩]) ∧
  (∀ (p : Port) (msg : PdMsg) (s : State), s.pdHears p = true → msg.sopPrime = false → msg.sopDouble = false → msg.unchunked = false →
    s.pdReady p = true → ∃ t, exec (.getSourceInfo (.down p) msg) s = .next t ∧ (t.pd p).out = [goodCrc false, ⟨false, .sourceInfo,
    [s.sourceInfo p], []⟩]) ∧
  (∀ (p : Port) (msg : PdMsg) (s : State), s.pdHears p = true → msg.sopPrime = false → msg.sopDouble = false → msg.unchunked = false →
    s.pdReady p = true → ∃ t, exec (.getRevision (.down p) msg) s = .next t ∧ (t.pd p).out = [goodCrc false, ⟨false, .revision,
    [0x31000000], []⟩]) ∧
  (∀ (p : Port) (msg : PdMsg) (s : State), s.pdHears p = true → msg.sopPrime = false → msg.sopDouble = false → msg.unchunked = false →
    s.pdReady p = true → s.get (.tcp p) F.TCP_PD_STATUS_SPEC_REV = 2 → (s.pd p).revKnown = true → ∃ t, exec (.getManufacturerInfo (.down
    p) msg) s = .next t ∧ (t.pd p).out = [goodCrc false, ⟨false, .manufacturerInfo, [], s.idBytes p ++ [0x49, 0x4D, 0x36, 0x34, 0x31,
    0x36]⟩]) ∧
  (∀ (p : Port) (msg : PdMsg) (s : State), s.pdHears p = true → msg.sopPrime = false → msg.sopDouble = false → msg.unchunked = false → ∃
    t, exec (.pingMsg (.down p) msg) s = .next t ∧ (t.pd p).out = [goodCrc false] ∧ t.get (.tcp p) F.TCP_PD_STATUS_PE_STATE = s.get
    (.tcp p) F.TCP_PD_STATUS_PE_STATE) ∧
  (∀ (p : Port) (msg : PdMsg) (s : State), s.pdHears p = true → msg.sopPrime = false → msg.sopDouble = false → msg.unchunked = false → ∃
    t, exec (.alertMsg (.down p) msg) s = .next t ∧ (t.pd p).out = [goodCrc false] ∧ t.get (.tcp p) F.TCP_PD_STATUS_PE_STATE = s.get
    (.tcp p) F.TCP_PD_STATUS_PE_STATE) ∧
  (∀ (p : Port) (msg : PdMsg) (s : State), s.pdHears p = true → msg.sopPrime = false → msg.sopDouble = false → msg.unchunked = false →
    s.pdReady p = true → (msg.objs.getD 0 0).toNat / 2 ^ 28 = 5 → (s.present p).1 = 5000 → ∃ t, exec (.bist (.down p) msg) s = .next t ∧
    (t.pd p).out = [goodCrc false, ⟨false, .bist, [msg.objs.getD 0 0], []⟩]) ∧
  (∀ (p : Port) (msg : PdMsg) (s : State), s.pdHears p = true → msg.sopPrime = false → msg.sopDouble = false → msg.unchunked = false →
    s.pdReady p = true → s.get (.tcp p) F.TCP_PD_STATUS_SPEC_REV = 2 → (s.pd p).revKnown = true → ∃ t, exec (.frSwap (.down p) msg) s =
    .next t ∧ (t.pd p).out = [goodCrc false, ⟨false, .notSupported, [], []⟩]) ∧
  (∀ (p : Port) (msg : PdMsg) (s : State), s.pdHears p = true → msg.sopPrime = false → msg.sopDouble = false → msg.unchunked = false →
    s.pdReady p = true → s.get (.tcp p) F.TCP_PD_STATUS_SPEC_REV = 2 → (s.pd p).revKnown = true → pdListed msg.cls.toNat msg.num.toNat
    ((msg.objs.getD 0 0).toNat % 256) = true → (s.pd p).want = .none → (¬ (msg.cls = 0 ∧ msg.num = 16)) → (¬ (msg.cls = 1 ∧ (msg.num = 4
    ∨ msg.num = 5))) → ∃ t, exec (.unsupportedMessage (.down p) msg) s = .next t ∧ (t.pd p).out = [goodCrc false, ⟨false, .notSupported,
    [], []⟩]) ∧
  (∀ (u : Up) (msg : PdMsg) (s : State), s.upHears u msg = true → msg.unchunked = false → s.upWant[u] = .none → ∃ t, exec
    (.sourceCapabilities (.up u) msg) s = .next t ∧ t.upPdOut[u] = [goodCrc false, ⟨false, .request, [zeroRdo], []⟩] ∧ t.upWant[u] =
    .acceptAsSink) ∧
  (∀ (u : Up) (msg : PdMsg) (s : State), s.upHears u msg = true → msg.unchunked = false → s.upWant[u] = .none → ∃ t, exec (.request (.up
    u) msg) s = .next t ∧ t.upPdOut[u] = goodCrc false :: upNot msg) ∧
  (∀ (u : Up) (msg : PdMsg) (s : State), s.upHears u msg = true → msg.unchunked = false → s.upWant[u] = .none → ∃ t, exec (.getSourceCap
    (.up u) msg) s = .next t ∧ t.upPdOut[u] = goodCrc false :: upNot msg) ∧
  (∀ (u : Up) (msg : PdMsg) (s : State), s.upHears u msg = true → msg.unchunked = false → s.upWant[u] = .none → ∃ t, exec (.getSinkCap
    (.up u) msg) s = .next t ∧ t.upPdOut[u] = [goodCrc false, ⟨false, .sinkCaps, [sinkPdo false], []⟩]) ∧
  (∀ (u : Up) (msg : PdMsg) (s : State), s.upHears u msg = true → msg.unchunked = false → s.upWant[u] = .none → ∃ t, exec (.prSwap (.up u)
    msg) s = .next t ∧ t.upPdOut[u] = [goodCrc false, ⟨false, .reject, [], []⟩]) ∧
  (∀ (u : Up) (msg : PdMsg) (s : State), s.upHears u msg = true → msg.unchunked = false → s.upWant[u] = .none → ∃ t, exec (.drSwap (.up u)
    msg) s = .next t ∧ t.upPdOut[u] = [goodCrc false, ⟨false, .reject, [], []⟩]) ∧
  (∀ (u : Up) (msg : PdMsg) (s : State), s.upHears u msg = true → msg.unchunked = false → s.upWant[u] = .none → ∃ t, exec (.vconnSwap (.up
    u) msg) s = .next t ∧ t.upPdOut[u] = [goodCrc false, ⟨false, .reject, [], []⟩]) ∧
  (∀ (u : Up) (msg : PdMsg) (s : State), s.upHears u msg = true → ∃ t, exec (.softReset (.up u) msg) s = .next t ∧ t.upPdOut[u] = [goodCrc
    false, ⟨false, .accept, [], []⟩] ∧ t.upWant[u] = .none) ∧
  (∀ (u : Up) (msg : PdMsg) (s : State), s.upHears u msg = true → msg.unchunked = false → s.upWant[u] = .none → ∃ t, exec (.getRevision
    (.up u) msg) s = .next t ∧ t.upPdOut[u] = goodCrc false :: upNot msg) ∧
  (∀ (u : Up) (msg : PdMsg) (s : State), s.upHears u msg = true → msg.unchunked = false → s.upWant[u] = .none → ∃ t, exec (.vendorDefined
    (.up u) msg) s = .next t ∧ t.upPdOut[u] = goodCrc false :: s.upVdm u msg)

/-- Power negotiation (R232, R240, R241, R247, R250, R252): what the engine sends and where it goes on a request, a repeat of its offer,
an acknowledged offer, and the offer of a source while it is sink. Where the spec leaves a choice it rests on the model's, log 53 and 54.
Commands that these clauses say complete, each with a next state of its own effect: request, getSourceCap, eprGetSourceCap,
sourceCapabilities, goodcrc, goodcrcTimeout, eprMode, eprKeepalive, vendorDefined. -/
def Obligations.PdEngineNegotiatesPower : Prop :=
  (∀ (p : Port) (msg : PdMsg) (s : State), s.pdHears p = true → msg.sopPrime = false → msg.sopDouble = false → msg.unchunked = false →
    s.isSource p = true → (s.pe p = 3 ∨ (s.pe p = 5 ∧ (s.pd p).want = .none)) → msg.epr = s.flag (.tcp p) F.TCP_PD_STATUS_EPR_MODE →
    s.readRdo p (msg.objs.getD 0 0) = none → s.get (.tcp p) F.TCP_PD_STATUS_CONTRACT = 1 → ∃ t, exec (.request (.down p) msg) s = .next
    t ∧ (t.pd p).out = [goodCrc false, ⟨false, .reject, [], []⟩] ∧ t.get (.tcp p) F.TCP_PD_STATUS_PE_STATE = 5) ∧
  (∀ (p : Port) (msg : PdMsg) (s : State), s.pdHears p = true → msg.sopPrime = false → msg.sopDouble = false → msg.unchunked = false →
    s.isSource p = true → (s.pe p = 3 ∨ (s.pe p = 5 ∧ (s.pd p).want = .none)) → msg.epr = s.flag (.tcp p) F.TCP_PD_STATUS_EPR_MODE →
    s.noRaise p (msg.objs.getD 0 0) = true → ∃ t, exec (.request (.down p) msg) s = .next t ∧ (t.pd p).out = [goodCrc false, ⟨false,
    .accept, [], []⟩] ∧ t.get (.tcp p) F.TCP_PD_STATUS_PE_STATE = 4 ∧ (t.pd p).nextRdo = msg.objs.getD 0 0) ∧
  (∀ (p : Port) (msg : PdMsg) (s : State), s.pdHears p = true → msg.sopPrime = false → msg.sopDouble = false → msg.unchunked = false →
    s.pdReady p = true → s.isSource p = true → ∃ t, exec (.getSourceCap (.down p) msg) s = .next t ∧ (t.pd p).out = goodCrc false :: (if
    s.flag (.tcp p) F.TCP_PD_STATUS_EPR_MODE then [⟨false, .eprSourceCaps, (t.pd p).offer, (objBytes (t.pd p).offer).take 26⟩, ⟨false,
    .eprSourceCaps, [], (objBytes (t.pd p).offer).drop 26⟩] else [⟨false, .sourceCaps, (t.pd p).offer, []⟩])) ∧
  (∀ (p : Port) (msg : PdMsg) (s : State), s.pdHears p = true → msg.sopPrime = false → msg.sopDouble = false → msg.unchunked = false →
    s.pdReady p = true → s.eprUsable p = false → s.get (.tcp p) F.TCP_PD_STATUS_SPEC_REV = 2 → (s.pd p).revKnown = true → ∃ t, exec
    (.eprGetSourceCap (.down p) msg) s = .next t ∧ (t.pd p).out = [goodCrc false, ⟨false, .notSupported, [], []⟩]) ∧
  (∀ (p : Port) (msg : PdMsg) (s : State), s.pdHears p = true → msg.sopPrime = false → msg.sopDouble = false → msg.unchunked = false →
    s.isSource p = false → (s.pe p = 6 ∨ (s.pe p = 7 ∧ (s.pd p).want = .none)) → ∃ t, exec (.sourceCapabilities (.down p) msg) s = .next
    t ∧ (t.pd p).out = [goodCrc false, ⟨false, .request, [zeroRdo], []⟩] ∧ (t.pd p).want = .acceptAsSink) ∧
  (∀ (p : Port) (msg : PdMsg) (s : State), s.pdHears p = true → msg.sopPrime = false → msg.sopDouble = false → msg.unchunked = false →
    (s.pd p).flight.map (fun o => (o.sopPrime, o.kind)) = some (false, .sourceCaps) → s.get (.tcp p) F.TCP_PD_STATUS_EPR_MODE = 0 →
    s.isSource p = true → (s.pd p).queued = [] → (s.pe p = 2 ∨ s.pe p = 5) → ∃ t, exec (.goodcrc (.down p) msg) s = .next t ∧ t.get
    (.tcp p) F.TCP_PD_STATUS_PE_STATE = 3 ∧ (t.pd p).want = .request ∧ (t.pd p).idSop = (s.pd p).idSop + 1) ∧
  (∀ (p : Port) (msg : PdMsg) (s : State), s.pdHears p = true → msg.sopPrime = false → msg.sopDouble = false → msg.unchunked = false →
    (s.pd p).flight.isSome = true → (s.pd p).resends < 2 → ∃ t, exec (.goodcrcTimeout (.down p) msg) s = .next t ∧ (t.pd p).out = (s.pd
    p).flight.toList ∧ (t.pd p).resends = (s.pd p).resends + 1) ∧
  (∀ (p : Port) (msg : PdMsg) (s : State), s.pdHears p = true → msg.sopPrime = false → msg.sopDouble = false → msg.unchunked = false →
    s.pdReady p = true → s.isSource p = true → s.pe p = 5 → (msg.objs.getD 0 0).toNat / 2 ^ 24 = 1 → s.get (.tcp p)
    F.TCP_PD_STATUS_CONTRACT = 1 → (s.get (.tcp p) F.TCP_CONTRACT_TYPE = 1 ∨ s.get (.tcp p) F.TCP_CONTRACT_TYPE = 2) → s.get (.tcp p)
    F.TCP_PD_STATUS_EPR_MODE = 0 → s.eprCable p = false → ∃ t, exec (.eprMode (.down p) msg) s = .next t ∧ (t.pd p).out = [goodCrc
    false, ⟨false, .eprMode, [BitVec.ofNat 32 (4 * 2 ^ 24 + 1 * 2 ^ 16)], []⟩] ∧ t.get (.tcp p) F.TCP_PD_STATUS_PE_STATE = 5) ∧
  (∀ (p : Port) (msg : PdMsg) (s : State), s.pdHears p = true → msg.sopPrime = false → msg.sopDouble = false → msg.unchunked = false →
    s.pdReady p = true → s.isSource p = true → s.get (.tcp p) F.TCP_PD_STATUS_EPR_MODE = 1 → ∃ t, exec (.eprKeepalive (.down p) msg) s =
    .next t ∧ (t.pd p).out = [goodCrc false, ⟨false, .eprKeepAliveAck, [], []⟩]) ∧
  (∀ (p : Port) (msg : PdMsg) (s : State), s.pdHears p = true → msg.sopPrime = false → msg.sopDouble = false → msg.unchunked = false →
    s.pdReady p = true → vdmStructured (msg.objs.getD 0 0) = true → vdmType (msg.objs.getD 0 0) = 0 → vdmCmd (msg.objs.getD 0 0) = 1 → ∃
    t, exec (.vendorDefined (.down p) msg) s = .next t ∧ (t.pd p).out = [goodCrc false, ⟨false, .vdm, (s.pdNote p msg).identityAck p
    (msg.objs.getD 0 0), []⟩])

/-- Swaps and resets (R253, R255–R258): which swaps a ready engine accepts or rejects, what the answers to its own swaps do, and what a
soft and a hard reset leave. Where the spec leaves a choice it rests on the model's, log 53 and 54. Commands that these clauses say
complete, each with a next state of its own effect: drSwap, vconnSwap, softReset, hardReset, accept, reject, waitMsg, psRdy. -/
def Obligations.PdEngineRunsSwapsAndResets : Prop :=
  (∀ (p : Port) (msg : PdMsg) (s : State), s.pdHears p = true → msg.sopPrime = false → msg.sopDouble = false → msg.unchunked = false →
    s.pdReady p = true → s.get (.tcp p) F.TCP_PD_STATUS_DATA_ROLE = 0 → ∃ t, exec (.drSwap (.down p) msg) s = .next t ∧ (t.pd p).out =
    [goodCrc false, ⟨false, .reject, [], []⟩]) ∧
  (∀ (p : Port) (msg : PdMsg) (s : State), s.pdHears p = true → msg.sopPrime = false → msg.sopDouble = false → msg.unchunked = false →
    s.pdReady p = true → s.get (.tcp p) F.TCP_PD_STATUS_DATA_ROLE = 1 → ∃ t, exec (.drSwap (.down p) msg) s = .next t ∧ (t.pd p).out =
    [goodCrc false, ⟨false, .accept, [], []⟩] ∧ t.get (.tcp p) F.TCP_PD_STATUS_DATA_ROLE = 0) ∧
  (∀ (p : Port) (msg : PdMsg) (s : State), s.pdHears p = true → msg.sopPrime = false → msg.sopDouble = false → msg.unchunked = false →
    s.pdReady p = true → s.isSource p = true → isFullPort p = true → s.compat = false → s.get (.tcp p) F.TCP_PD_STATUS_VCONN_SRC = 1 →
    s.get (.tcp p) F.TCP_PD_POLICY_ACCEPT_VCS = 1 → ∃ t, exec (.vconnSwap (.down p) msg) s = .next t ∧ (t.pd p).out = [goodCrc false,
    ⟨false, .accept, [], []⟩] ∧ t.get (.tcp p) F.TCP_PD_STATUS_PE_STATE = 10 ∧ (t.pd p).want = .psRdy) ∧
  (∀ (p : Port) (msg : PdMsg) (s : State), s.pdHears p = true → msg.sopPrime = false → msg.sopDouble = false → msg.unchunked = false →
    s.pdReady p = true → (s.isSource p = false ∨ isFullPort p = false) → ∃ t, exec (.vconnSwap (.down p) msg) s = .next t ∧ (t.pd p).out
    = [goodCrc false, ⟨false, .reject, [], []⟩]) ∧
  (∀ (p : Port) (msg : PdMsg) (s : State), s.pdHears p = true → msg.sopPrime = false → msg.sopDouble = false → msg.unchunked = false →
    s.pe p ≠ 4 → (s.pd p).swapPower = false → s.isSource p = false → ∃ t, exec (.softReset (.down p) msg) s = .next t ∧ t.get (.tcp p)
    F.TCP_PD_STATUS_PE_STATE = 6 ∧ (t.pd p).out.tail.head? = some ⟨false, .accept, [], []⟩ ∧ (t.pd p).idSop = 0) ∧
  (∀ (p : Port) (msg : PdMsg) (s : State), s.pdHears p = true → msg.sopPrime = false → msg.sopDouble = false → msg.unchunked = false →
    s.pe p ≠ 4 → (s.pd p).swapPower = false → s.isSource p = true → ∃ t, exec (.softReset (.down p) msg) s = .next t ∧ t.get (.tcp p)
    F.TCP_PD_STATUS_PE_STATE = 2 ∧ (t.pd p).out.tail.head? = some ⟨false, .accept, [], []⟩) ∧
  (∀ (p : Port) (msg : PdMsg) (s : State), s.pdHears p = true → msg.sopPrime = false → msg.sopDouble = false → msg.unchunked = false →
    s.get (.tcp p) F.TCP_PD_STATUS_HR_CONSEC < 2 → s.isSource p = true → s.pe p ≠ 8 → s.pe p ≠ 9 → ∃ t, exec (.hardReset (.down p) msg)
    s = .next t ∧ t.get (.tcp p) F.TCP_PD_STATUS_PE_STATE = 13 ∧ (t.pd p).hrPhase = 1 ∧ t.get (.tcp p) F.TCP_PD_STATUS_CONTRACT = 0 ∧
    t.get (.tcp p) F.TCP_PD_STATUS_DATA_ROLE = 0) ∧
  (∀ (p : Port) (msg : PdMsg) (s : State), s.pdHears p = true → msg.sopPrime = false → msg.sopDouble = false → msg.unchunked = false → 2 ≤
    s.get (.tcp p) F.TCP_PD_STATUS_HR_CONSEC → ∃ t, exec (.hardReset (.down p) msg) s = .next t ∧ t.get (.tcp p)
    F.TCP_PD_STATUS_PE_STATE = 14) ∧
  (∀ (p : Port) (msg : PdMsg) (s : State), s.pdHears p = true → msg.sopPrime = false → msg.sopDouble = false → msg.unchunked = false →
    (s.pd p).want = .acceptAsSink → ∃ t, exec (.accept (.down p) msg) s = .next t ∧ (t.pd p).want = .psRdy) ∧
  (∀ (p : Port) (msg : PdMsg) (s : State), s.pdHears p = true → msg.sopPrime = false → msg.sopDouble = false → msg.unchunked = false →
    (s.pd p).want = .swapAnswer → s.pe p = 8 → ∃ t, exec (.accept (.down p) msg) s = .next t ∧ (t.pd p).want = .psRdy ∧ (t.pd
    p).swapPower = true) ∧
  (∀ (p : Port) (msg : PdMsg) (s : State), s.pdHears p = true → msg.sopPrime = false → msg.sopDouble = false → msg.unchunked = false →
    (s.pd p).want = .swapAnswer → s.pe p = 8 → (s.pd p).prTries < 2 → ∃ t, exec (.reject (.down p) msg) s = .next t ∧ t.get (.tcp p)
    F.TCP_PD_STATUS_PE_STATE = 7 ∧ (t.pd p).prTries = (s.pd p).prTries + 1 ∧ (t.pd p).want = .none) ∧
  (∀ (p : Port) (msg : PdMsg) (s : State), s.pdHears p = true → msg.sopPrime = false → msg.sopDouble = false → msg.unchunked = false →
    (s.pd p).want = .swapAnswer → s.pe p = 8 → (s.pd p).prTries < 2 → ∃ t, exec (.waitMsg (.down p) msg) s = .next t ∧ t.get (.tcp p)
    F.TCP_PD_STATUS_PE_STATE = 7 ∧ (t.pd p).prTries = (s.pd p).prTries + 1 ∧ (t.pd p).want = .none) ∧
  (∀ (p : Port) (msg : PdMsg) (s : State), s.pdHears p = true → msg.sopPrime = false → msg.sopDouble = false → msg.unchunked = false →
    (s.pd p).want = .psRdy → (s.pe p = 6 ∨ s.pe p = 7) → ∃ t, exec (.psRdy (.down p) msg) s = .next t ∧ t.get (.tcp p)
    F.TCP_PD_STATUS_PE_STATE = 7 ∧ t.get (.tcp p) F.TCP_PD_STATUS_CONTRACT = 1 ∧ t.get (.tcp p) F.TCP_CONTRACT_V_MV = 5000 ∧ t.get (.tcp
    p) F.TCP_CONTRACT_I_10MA = 0)

/-- The timers of a source (R239–R249, R257): what each does when it ends in the state it belongs to. Where the spec leaves a choice it
rests on the model's, log 4, 53 and 54. Commands that these clauses say complete, each with a next state of its own effect: srcStartupEnd,
sourceCapResend, senderResponseTimeout, transitionStart, transLimitEnd, waitTimerEnd, leaveHoldEnd, ppsTimeout, eprKeepaliveTimeout,
sinkTxEnd, capsMergeEnd, revokeNoRequest, hardResetPowerOff, srcRecoverEnd. -/
def Obligations.PdTimersOfASource : Prop :=
  (∀ (p : Port) (s : State), s.portUp p = true → s.pe p = 1 → s.vbusOn p = true → ∃ t, exec (.srcStartupEnd p) s = .next t ∧ t.get (.tcp
    p) F.TCP_PD_STATUS_PE_STATE = 2 ∧ (t.pd p).capsSent = 1 ∧ t.get (.tcp p) F.TCP_PD_CTRL_SEND_CAPS = s.get (.tcp p)
    F.TCP_PD_CTRL_SEND_CAPS) ∧
  (∀ (p : Port) (s : State), s.portUp p = true → s.pe p = 2 → (s.pd p).capsSent < 50 → ∃ t, exec (.sourceCapResend p) s = .next t ∧ t.get
    (.tcp p) F.TCP_PD_STATUS_PE_STATE = 2 ∧ (t.pd p).capsSent = (s.pd p).capsSent + 1 ∧ (t.pd p).out = (if s.flag (.tcp p)
    F.TCP_PD_STATUS_EPR_MODE then [⟨false, .eprSourceCaps, (t.pd p).offer, (objBytes (t.pd p).offer).take 26⟩, ⟨false, .eprSourceCaps,
    [], (objBytes (t.pd p).offer).drop 26⟩] else [⟨false, .sourceCaps, (t.pd p).offer, []⟩])) ∧
  (∀ (p : Port) (s : State), s.portUp p = true → (s.pd p).want = .request → (s.pd p).revokeWait = false → ∃ t, exec
    (.senderResponseTimeout (.down p)) s = .next t ∧ t.get (.tcp p) F.TCP_PD_STATUS_PE_STATE = 12 ∧ (t.pd p).out = [⟨false, .softReset,
    [], []⟩] ∧ (t.pd p).want = .softAccept) ∧
  (∀ (p : Port) (s : State), s.portUp p = true → (s.pd p).want = .softAccept → s.get (.tcp p) F.TCP_PD_STATUS_HR_CONSEC < 2 → s.isSource p
    = true → s.pe p = 12 → ∃ t, exec (.senderResponseTimeout (.down p)) s = .next t ∧ t.get (.tcp p) F.TCP_PD_STATUS_PE_STATE = 13 ∧
    (t.pd p).out = [⟨false, .hardReset, [], []⟩]) ∧
  (∀ (p : Port) (s : State), s.portUp p = true → s.pe p = 4 → (s.pd p).accepted = true → (s.pd p).transRun = false → s.get (.vbs p)
    F.VBS_STATUS_STATE = 3 → (s.pd p).nextMv < 65536 → (s.pd p).nextMv ≠ (s.present p).1 → ∃ t, exec (.transitionStart p) s = .next t ∧
    t.get (.vbs p) F.VBS_STATUS_STATE = 4 ∧ t.get (.vbs p) F.VBS_TARGET_TARGET_MV = (s.pd p).nextMv ∧ (t.pd p).transRun = true) ∧
  (∀ (p : Port) (s : State), s.portUp p = true → s.pe p = 4 → (s.pd p).transRun = true → s.get (.tcp p) F.TCP_PD_STATUS_HR_CONSEC < 2 →
    s.isSource p = true → ∃ t, exec (.transLimitEnd p) s = .next t ∧ t.get (.tcp p) F.TCP_PD_STATUS_PE_STATE = 13 ∧ t.get (.tcp p)
    (F.FAULT 9) = 1 ∧ (t.pd p).out = [⟨false, .hardReset, [], []⟩]) ∧
  (∀ (p : Port) (s : State), s.portUp p = true → s.pe p = 3 → (s.pd p).req.isSome = true → (s.pd p).waitSent = false → ∃ t, exec
    (.waitTimerEnd p) s = .next t ∧ (t.pd p).waitSent = true ∧ (t.pd p).out = [⟨false, .wait, [], []⟩]) ∧
  (∀ (p : Port) (s : State), s.portUp p = true → ((s.pd p).waitSent = true ∨ (s.pd p).raiseGranted = true) → s.pe p ≠ 4 → ∃ t, exec
    (.leaveHoldEnd p) s = .next t ∧ (t.pd p).req = none ∧ (t.pd p).waitSent = false ∧ (t.pd p).raiseGranted = false ∧ .raise p ∉
    t.arb.running) ∧
  (∀ (p : Port) (s : State), s.portUp p = true → s.ppsNow p = true → s.get (.tcp p) F.TCP_PD_STATUS_HR_CONSEC < 2 → s.pe p = 5 → ∃ t, exec
    (.ppsTimeout p) s = .next t ∧ t.get (.tcp p) F.TCP_PD_STATUS_PE_STATE = 13 ∧ t.get (.tcp p) F.TCP_PD_STATUS_CONTRACT = 0) ∧
  (∀ (p : Port) (s : State), s.portUp p = true → s.get (.tcp p) F.TCP_PD_STATUS_EPR_MODE = 1 → s.get (.tcp p) F.TCP_PD_STATUS_HR_CONSEC <
    2 → s.isSource p = true → s.pe p = 5 → ∃ t, exec (.eprKeepaliveTimeout p) s = .next t ∧ t.get (.tcp p) F.TCP_PD_STATUS_PE_STATE = 13
    ∧ t.get (.tcp p) F.TCP_PD_STATUS_EPR_MODE = 0) ∧
  (∀ (p : Port) (s : State), s.portUp p = true → s.pe p = 5 → (s.pd p).sinkTx = true → (s.pd p).want = .none → s.get (.tcp p)
    F.TCP_PD_CTRL_SOFT_RESET = 1 → ∃ t, exec (.sinkTxEnd p) s = .next t ∧ t.get (.tcp p) F.TCP_PD_STATUS_PE_STATE = 12 ∧ (t.pd p).out =
    [⟨false, .softReset, [], []⟩] ∧ t.get (.tcp p) F.TCP_PD_CTRL_SOFT_RESET = 0) ∧
  (∀ (p : Port) (s : State), s.portUp p = true → s.pe p = 5 → (s.pd p).offerDue = true → (s.pd p).want = .none → ∃ t, exec (.capsMergeEnd
    p) s = .next t ∧ (t.pd p).offerNow = true ∧ (t.pd p).sinkTx = true) ∧
  (∀ (p : Port) (s : State), s.portUp p = true → (s.pd p).revokeWait = true → s.get (.tcp p) F.TCP_PD_STATUS_HR_CONSEC < 2 → s.isSource p
    = true → s.pe p = 3 → ∃ t, exec (.revokeNoRequest p) s = .next t ∧ t.get (.tcp p) F.TCP_PD_STATUS_PE_STATE = 13 ∧ (t.pd
    p).revokeWait = false) ∧
  (∀ (p : Port) (s : State), s.portUp p = true → s.pe p = 13 → (s.pd p).hrPhase = 1 → 1 ≤ s.vbsStt p → s.vbsStt p ≤ 4 → ∃ t, exec
    (.hardResetPowerOff p) s = .next t ∧ (t.pd p).hrPhase = 2 ∧ t.get (.vbs p) F.VBS_STATUS_STATE = 5 ∧ t.get (.vbs p)
    F.VBS_STATUS_DSCH_ON = 1 ∧ t.grant p = defaultGrant p ∧ t.get (.tcp p) F.TCP_CC_STATUS_VCONN_ON = 0) ∧
  (∀ (p : Port) (s : State), s.portUp p = true → s.pe p = 13 → (s.pd p).hrPhase = 2 → s.get (.vbs p) F.VBS_STATUS_SAFE0V = 1 → s.get (.vbs
    p) F.VBS_STATUS_STATE = 0 → ∃ t, exec (.srcRecoverEnd p) s = .next t ∧ t.get (.vbs p) F.VBS_STATUS_STATE = 1 ∧ t.get (.vbs p)
    F.VBS_STATUS_DSCH_ON = 1 ∧ (t.pd p).hrPhase = 3)

/-- The timers and signals of a sink, of cable discovery and of the console mode (R248, R252–R254, R259). Where the spec leaves a choice
it rests on the model's, log 4, 53 and 54. Commands that these clauses say complete, each with a next state of its own effect:
discoverIdentityAttempt, sinkWaitCapTimeout, swapAttempt, sinkHardResetTimeout, frsSignal, frsVbusDrop, consoleModeAttempt,
vdmResponseTimeout. -/
def Obligations.PdTimersOfASinkAndOfItsPartner : Prop :=
  (∀ (p : Port) (s : State), s.portUp p = true → (s.pd p).cableRun = true → s.get (.tcp p) F.TCP_PD_STATUS_VCONN_SRC = 1 → s.pdBusy p =
    false → s.pdEn p = true → ([0, 4, 13, 14] : List Nat).contains (s.pe p) = false → s.get (.tcp p) F.TCP_CABLE_ATTEMPTS < 20 → ∃ t,
    exec (.discoverIdentityAttempt p) s = .next t ∧ t.get (.tcp p) F.TCP_CABLE_ATTEMPTS = s.get (.tcp p) F.TCP_CABLE_ATTEMPTS + 1 ∧
    (t.pd p).out = [⟨true, .vdm, [vdmReq (s.pdRev2 p) 0xFF00 1 0], []⟩]) ∧
  (∀ (p : Port) (s : State), s.portUp p = true → (s.pd p).cableRun = true → s.get (.tcp p) F.TCP_PD_STATUS_VCONN_SRC = 1 → s.pdBusy p =
    false → s.pdEn p = true → ([0, 4, 13, 14] : List Nat).contains (s.pe p) = false → 20 ≤ s.get (.tcp p) F.TCP_CABLE_ATTEMPTS → ∃ t,
    exec (.discoverIdentityAttempt p) s = .next t ∧ t.get (.tcp p) F.TCP_CABLE_FAILED = 1 ∧ t.get (.tcp p) F.TCP_CABLE_DISCOVERED = 0 ∧
    (t.pd p).cableRun = false) ∧
  (∀ (p : Port) (s : State), s.portUp p = true → s.pe p = 6 → (s.pd p).snkWaitVbus = false → (s.pd p).want = .none → s.get (.tcp p)
    F.TCP_PD_STATUS_HR_CONSEC < 2 → s.isSource p = false → ∃ t, exec (.sinkWaitCapTimeout p) s = .next t ∧ t.get (.tcp p)
    F.TCP_PD_STATUS_PE_STATE = 6 ∧ (t.pd p).snkWaitVbus = true ∧ (t.pd p).out.head? = some ⟨false, .hardReset, [], []⟩) ∧
  (∀ (p : Port) (s : State), s.portUp p = true → s.pe p = 7 → (s.pd p).want = .none → s.pdFlag p F.TCP_PD_POLICY_SWAP_TO_SRC = true →
    (s.pd p).prTries < 3 → s.reserveHeld p = false → s.mayClose p = true → s.vbsStt p = 0 → s.get .bgt (F.BGT_GRANTn_STATE p.val) ≠ 4 →
    (s.vbs p).dschLock = false → ∃ t, exec (.swapAttempt p) s = .next t ∧ (t.pd p).reserved = true ∧ t.asked (.turnOn p) = true) ∧
  (∀ (p : Port) (s : State), s.portUp p = true → s.pe p = 7 → (s.pd p).want = .none → s.pdFlag p F.TCP_PD_POLICY_SWAP_TO_SRC = true →
    (s.pd p).prTries < 3 → s.reserveHeld p = true → s.mayClose p = true → nearTarget (s.get (.vbs p) F.VBS_MEAS_VREG) 5000 = true → ∃ t,
    exec (.swapAttempt p) s = .next t ∧ t.get (.tcp p) F.TCP_PD_STATUS_PE_STATE = 8 ∧ (t.pd p).out = [⟨false, .prSwap, [], []⟩] ∧ (t.pd
    p).want = .swapAnswer) ∧
  (∀ (p : Port) (s : State), s.portUp p = true → s.ccSt p = 7 → (s.pd p).snkWaitVbus = true → s.vbusUv10 p < 40000000 → ∃ t, exec
    (.sinkHardResetTimeout p) s = .next t ∧ t.get (.tcp p) F.TCP_CC_STATUS_STATE = 1 ∧ (t.tcp p).announced = false) ∧
  (∀ (p : Port) (s : State), s.portUp p = true → s.pe p = 7 → s.get (.tcp p) F.TCP_PD_STATUS_FRS_ARMED = 1 → ∃ t, exec (.frsSignal p) s =
    .next t ∧ t.get (.tcp p) F.TCP_PD_STATUS_PE_STATE = 9 ∧ (t.pd p).out = [⟨false, .frSwap, [], []⟩] ∧ (t.pd p).frsSeen = true) ∧
  (∀ (p : Port) (s : State), s.portUp p = true → s.pe p = 9 → (s.pd p).frsSeen = true → s.mayClose p = true → s.get (.vbs p)
    F.VBS_STATUS_STATE = 0 → ∃ t, exec (.frsVbusDrop p) s = .next t ∧ t.get (.vbs p) F.VBS_STATUS_STATE = 3 ∧ t.get (.vbs p)
    F.VBS_STATUS_GATE_ON = 1 ∧ t.get (.vbs p) F.VBS_TARGET_LIMIT_MA = min (11 * (s.pd p).frsMa / 10) 65535) ∧
  (∀ (p : Port) (s : State), s.portUp p = true → s.modeMay p = true → (s.pd p).modeStep = 0 → (s.pd p).want = .none → ∃ t, exec
    (.consoleModeAttempt p) s = .next t ∧ (t.pd p).modeStep = 1 ∧ (t.pd p).sinkTx = true) ∧
  (∀ (p : Port) (s : State), s.portUp p = true → (s.pd p).want = .vdm → (s.pd p).modeStep ≠ 0 → ∃ t, exec (.vdmResponseTimeout p) s =
    .next t ∧ (t.pd p).modeStep = 0 ∧ (t.pd p).modeTries = (s.pd p).modeTries + 1 ∧ (t.pd p).out = [])

/-- Board power entry (R161–R170): where each event of the seating pins, of the ramp and of the current limit takes the entry controller,
and what it leaves in the PWE registers. The two board feeds (R173–R176): a feed turns good, is lost with the other one good, and the
switch through the break-before-make gap ends. Where the spec leaves a choice it rests on the model's, log 4. Commands that these clauses
say complete, each with a next state of its own effect: entryResetRelease, entryReset, seated, seatingLoss, seatDbEnd, rampEnd,
entryFastTrip, faultTimeEnd, rampMaxEnd, entryLimit, entryRetryEnd, entryConsecClear, ilimCheck, entryScrub, feedGood, feedLoss,
feedSwitch, feedReturn. -/
def Obligations.EntryControllerFollowsSupplyAndFeeds : Prop :=
  (∀ (prefB : Bool) (r : Nat) (s : State), s.entry.powered = false → 5000 ≤ r → r ≤ 150000 → ∃ t, exec (.entryResetRelease prefB r) s =
    .next t ∧ t.entry.powered = true ∧ t.entry.strapPref = prefB ∧ t.get .pwe F.PWE_STATUS_STATE = 0 ∧ t.get .pwe F.PWE_CEIL_CEIL_UV =
    ceilingUv r) ∧
  (∀ (prefB : Bool) (r : Nat) (s : State), s.entry.powered = false → r < 5000 → ∃ t, exec (.entryResetRelease prefB r) s = .next t ∧ t.get
    .pwe F.PWE_STATUS_STATE = 5 ∧ t.get .pwe F.PWE_CEIL_ILIM_SHORT = 1) ∧
  (∀ (s : State), ∃ t, exec .entryReset s = .next t ∧ t.entry = freshEntry ∧ (∀ a < 0x1000, t.rd (0x5000 + a) = resetWord (0x5000 + a))) ∧
  (∀ (s : State), s.entry.powered = true → ∃ t, exec .seated s = .next t ∧ t.get .pwe F.PWE_STATUS_SEATED = 1 ∧ t.entry.pins = 3 ∧
    t.entry.debounced = false) ∧
  (∀ (pins : BitVec 2) (s : State), s.entry.powered = true → s.get .pwe F.PWE_STATUS_SEATED = 1 → pins ≠ 3 → ∃ t, exec (.seatingLoss pins)
    s = .next t ∧ t.get .pwe F.PWE_STATUS_SEATED = 0 ∧ t.get .pwe F.PWE_STATUS_STATE = (if s.entryDrives then 0 else s.entrySt) ∧
    t.entry.pins = pins) ∧
  (∀ (s : State), s.entry.powered = true → s.get .pwe F.PWE_STATUS_SEATED = 1 → (s.feedIsGood .a = true ∨ s.feedIsGood .b = true) → s.get
    .pwe F.PWE_STATUS_STATE = 0 → ∃ t, exec .seatDbEnd s = .next t ∧ t.get .pwe F.PWE_STATUS_STATE = 1 ∧ t.get .pwe
    F.PWE_STATUS_FEED_SEL = feedCode (if s.feedIsGood s.prefFeed then s.prefFeed else otherFeed s.prefFeed) ∧ t.entry.hsGate = true) ∧
  (∀ (s : State), s.entry.powered = true → s.get .pwe F.PWE_STATUS_STATE = 1 → ∃ t, exec .rampEnd s = .next t ∧ t.get .pwe
    F.PWE_STATUS_STATE = 2 ∧ t.get .pwe F.PWE_STATUS_LIMITING = 0) ∧
  (∀ (uv : Nat) (s : State), s.entry.powered = true → s.entryDrives = true → 2 * s.entryLimitUv ≤ uv → ∃ t, exec (.entryFastTrip uv) s =
    .next t ∧ t.get .pwe F.PWE_STATUS_STATE = (if s.get .pwe F.PWE_STATUS_CONSEC < s.cfg .pwe F.PWE_TRIP_CFG_RETRIES then 3 else 4) ∧
    t.get .pwe F.PWE_STATUS_LAST_CAUSE = 1 ∧ t.get .pwe F.PWE_STATUS_CONSEC = min (s.get .pwe F.PWE_STATUS_CONSEC + 1) 15 ∧
    t.entry.hsGate = false) ∧
  (∀ (uv : Nat) (s : State), s.entry.powered = true → s.entryDrives = true → s.get .pwe F.PWE_STATUS_LIMITING = 1 → ∃ t, exec
    (.faultTimeEnd uv) s = .next t ∧ t.get .pwe F.PWE_STATUS_STATE = (if s.get .pwe F.PWE_STATUS_CONSEC < s.cfg .pwe
    F.PWE_TRIP_CFG_RETRIES then 3 else 4) ∧ t.get .pwe F.PWE_STATUS_LAST_CAUSE = 2 ∧ t.entry.hsGate = false) ∧
  (∀ (uv : Nat) (s : State), s.entry.powered = true → s.get .pwe F.PWE_STATUS_STATE = 1 → ∃ t, exec (.rampMaxEnd uv) s = .next t ∧ t.get
    .pwe F.PWE_STATUS_STATE = (if s.get .pwe F.PWE_STATUS_CONSEC < s.cfg .pwe F.PWE_TRIP_CFG_RETRIES then 3 else 4) ∧ t.get .pwe
    F.PWE_STATUS_LAST_CAUSE = 3 ∧ t.entry.hsGate = false) ∧
  (∀ (above : Bool) (uv : Nat) (s : State), s.entry.powered = true → s.entryDrives = true → ∃ t, exec (.entryLimit above uv) s = .next t ∧
    t.get .pwe F.PWE_STATUS_LIMITING = bit above ∧ t.get .pwe F.PWE_LOAD_ISNS_UV = min uv 65535) ∧
  (∀ (s : State), s.entry.powered = true → s.get .pwe F.PWE_STATUS_STATE = 3 → s.entry.retryRun = true → s.entry.debounced = true → ∃ t,
    exec .entryRetryEnd s = .next t ∧ t.get .pwe F.PWE_STATUS_STATE = 1 ∧ t.get .pwe F.PWE_STATUS_START_CAUSE = 1 ∧ t.entry.hsGate =
    true) ∧
  (∀ (s : State), s.entry.powered = true → s.get .pwe F.PWE_STATUS_STATE = 2 → s.get .pwe F.PWE_STATUS_LIMITING = 0 → ∃ t, exec
    .entryConsecClear s = .next t ∧ t.get .pwe F.PWE_STATUS_CONSEC = 0) ∧
  (∀ (r : Nat) (s : State), s.entry.powered = true → s.ilimBad = false → s.get .pwe F.PWE_STATUS_STATE ≠ 4 → 150000 < r → ∃ t, exec
    (.ilimCheck r) s = .next t ∧ t.get .pwe F.PWE_STATUS_STATE = 5 ∧ t.get .pwe F.PWE_CEIL_ILIM_OPEN = 1 ∧ t.entry.hsGate = false) ∧
  (∀ (r : Nat) (s : State), s.entry.powered = true → s.ilimBad = false → s.get .pwe F.PWE_STATUS_STATE ≠ 4 → r < 5000 → ∃ t, exec
    (.ilimCheck r) s = .next t ∧ t.get .pwe F.PWE_STATUS_STATE = 5 ∧ t.get .pwe F.PWE_CEIL_ILIM_SHORT = 1 ∧ t.entry.hsGate = false) ∧
  (∀ (addr : Nat) (upset : Word) (s : State), s.entry.powered = true → s.coreHeld = true → 0x5000 ≤ addr → addr < 0x6000 → ∃ t, exec
    (.entryScrub [(addr, upset)] addr) s = .next t ∧ t = ((s.upset addr upset).findParity addr).2) ∧
  (∀ (fd : Feed) (n : Nat) (s : State), s.entry.powered = true → s.feedIsGood fd = false → feedEnters n = true → ∃ t, exec (.feedGood fd
    n) s = .next t ∧ t.feedIsGood fd = true ∧ t.feedTenths fd = min n 1023) ∧
  (∀ (fd : Feed) (n : Nat) (s : State), feedEnters n = false → ∃ t, exec (.feedGood fd n) s = .next t ∧ t = s) ∧
  (∀ (fd : Feed) (n : Nat) (s : State), feedStays n = false → s.entry.powered = true → s.feedIsGood fd = true → s.get .pwe
    F.PWE_STATUS_STATE = 2 → s.get .pwe F.PWE_STATUS_FEED_SEL = feedCode fd → s.feedIsGood (otherFeed fd) = true → ∃ t, exec (.feedLoss
    fd n) s = .next t ∧ t.feedIsGood fd = false ∧ t.get .pwe F.PWE_STATUS_FEED_SEL = 0 ∧ t.get .pwe F.PWE_STATUS_STATE = 2 ∧ t.entry.gap
    = some (otherFeed fd, false)) ∧
  (∀ (fd : Feed) (n : Nat) (s : State), feedStays n = false → s.entry.powered = true → s.feedIsGood fd = true → s.get .pwe
    F.PWE_STATUS_STATE = 2 → s.get .pwe F.PWE_STATUS_FEED_SEL = feedCode fd → s.feedIsGood (otherFeed fd) = false → ∃ t, exec (.feedLoss
    fd n) s = .next t ∧ t.get .pwe F.PWE_STATUS_STATE = 0 ∧ t.feedIsGood fd = false ∧ t.entry.hsGate = false) ∧
  (∀ (fd : Feed) (ret : Bool) (s : State), s.entry.gap = some (fd, ret) → s.entry.powered = true → s.get .pwe F.PWE_STATUS_STATE = 2 →
    s.feedIsGood fd = true → ∃ t, exec .feedSwitch s = .next t ∧ t.get .pwe F.PWE_STATUS_FEED_SEL = feedCode fd ∧ t.entry.gap = none ∧
    t.get .pwe F.PWE_CNT_SWITCHES = min (s.get .pwe F.PWE_CNT_SWITCHES + 1) (2 ^ F.PWE_CNT_SWITCHES.width - 1)) ∧
  (∀ (s : State), s.entry.powered = true → s.get .pwe F.PWE_STATUS_STATE = 2 → s.cfgFlag .pwe F.PWE_FEED_CFG_RETURN_EN = true →
    s.feedIsGood s.prefFeed = true → s.get .pwe F.PWE_STATUS_FEED_SEL = feedCode (otherFeed s.prefFeed) → ∃ t, exec .feedReturn s =
    .next t ∧ t.get .pwe F.PWE_STATUS_FEED_SEL = 0 ∧ t.entry.gap = some (s.prefFeed, true))

/-- The budget arbiter (R181–R193): how requests come, are reported done and are withdrawn, how windows and gaps begin anew, how the pool
follows the feeds, and how growth and revocation move a port's grant. What the pending requests are then answered is one operation. Where
the spec leaves a choice it rests on the model's, log 4 and 48. Commands that these clauses say complete, each with a next state of its
own effect: leaveRequest, leaveDone, leaveWithdraw, dieWindow, pacingGapEnd, pacingDoneTimeout, growth, revokeTimeEnd, revokeSuccess,
feedGoodnessChange, growDelayEnd. -/
def Obligations.ArbiterAnswersItsCommands : Prop :=
  (∀ (ops : List LeaveOp) (s : State), s.coreUp = true → s.loaded = true → ∃ t, exec (.leaveRequest ops) s = .next t ∧ t = (s.deliver
    ops).arbDecide) ∧
  (∀ (ops : List LeaveOp) (s : State), s.coreUp = true → s.loaded = true → ops = [.upCal] → s.arb.asks = [.upCal] → s.arb.reqs = [] →
    s.arb.running = [] → s.pageOn .bgt = true → s.bgtBad = false → s.dieFits .upCal = true → ∃ t, exec (.leaveRequest ops) s = .next t ∧
    .upCal ∈ t.arb.running ∧ t.get .bgt F.BGT_DIE_STATUS_USED = min (s.get .bgt F.BGT_DIE_STATUS_USED + s.leaveCost .upCal) 4095) ∧
  (∀ (op : LeaveOp) (s : State), op ∈ s.arb.dones → ∃ t, exec (.leaveDone op) s = .next t ∧ t = (s.arbWith (fun a =>
    { a with dones := a.dones.filter (· != op) })).arbDecide) ∧
  (∀ (p : Port) (s : State), s.arb.reqs.any (fun r => r.op == .turnOn p) = true → ∃ t, exec (.leaveWithdraw (.turnOn p)) s = .next t ∧ t =
    ((s.put (.tcp p) F.TCP_CC_STATUS_LEAVE_WAIT 0).withdraw (.turnOn p)).arbDecide) ∧
  (∀ (s : State), s.coreUp = true → ∃ t, exec .dieWindow s = .next t ∧ t = (s.put .bgt F.BGT_DIE_STATUS_USED 0).arbDecide) ∧
  (∀ (s : State), s.coreUp = true → s.arb.reqs = [] → ∃ t, exec .dieWindow s = .next t ∧ t.get .bgt F.BGT_DIE_STATUS_USED = 0) ∧
  (∀ (s : State), s.coreUp = true → ∃ t, exec .pacingGapEnd s = .next t ∧ t = (s.arbWith (fun a =>
    { a with paceFree := true })).arbDecide) ∧
  (∀ (s : State), s.coreUp = true → s.loaded = true → s.arb.firstBatch = none → ∃ t, exec .pacingDoneTimeout s = .next t ∧ t.get .glb
    F.GLB_READY_PACING_DONE = 1 ∧ t.arb.firstBatch = some []) ∧
  (∀ (p : Port) (s : State), s.mayGrow = true → s.freePower ≠ 0 → s.serveOrder.find? s.growable = some p → ∃ t, exec .growth s = .next t ∧
    t.grant p = s.grant p + min (s.bgtTarget p - s.grant p) s.freePower) ∧
  (∀ (p : Port) (s : State), s.coreUp = true → s.grantSt p = 3 → s.bgtBad = false → ∃ t, exec (.revokeTimeEnd p) s = .next t ∧ t =
    (s.revokeRemove p).arbDecide) ∧
  (∀ (p : Port) (s : State), s.coreUp = true → s.grantSt p = 3 → s.contractDw p ≤ s.grant p → s.get (.vbs p) F.VBS_IBUS_IBUS_MA ≤ 11 *
    s.basisMa p / 10 → ∃ t, exec (.revokeSuccess p) s = .next t ∧ t = (s.revokeDone p).arbDecide) ∧
  (∀ (ga : Bool) (gb : Bool) (s : State), s.coreUp = true → s.loaded = true → (ga = false ∨ gb = false) → s.bgtBad = false → ∃ t, exec
    (.feedGoodnessChange ga gb) s = .next t ∧ t.arb.goodA = ga ∧ t.arb.goodB = gb ∧ t.get .bgt F.BGT_POOL_STATUS_DUAL = 0) ∧
  (∀ (s : State), s.arb.growing = true → ∃ t, exec .growDelayEnd s = .next t ∧ t = ((s.arbWith (fun x => { x with growing := false })).put
    .bgt F.BGT_POOL_STATUS_DUAL 1).poolFollow)

/-- The end of a revocation (R191, R192): REVOKE_SUCCESS leaves the port granted with the limit of its new contract; REVOKE_TIME_END opens
the switch and returns the grant. Where the spec leaves a choice it rests on the model's, log 4, 47 and 48. Commands that these clauses
say complete, each with a next state of its own effect: revokeSuccess, revokeTimeEnd. -/
def Obligations.RevocationRunsByClassAndPort : Prop :=
  (∀ (p : Port) (s : State), s.coreUp = true → s.grantSt p = 3 → s.contractDw p ≤ s.grant p → s.get (.vbs p) F.VBS_IBUS_IBUS_MA ≤ 11 *
    s.basisMa p / 10 → s.arb.reqs = [] → ∃ t, exec (.revokeSuccess p) s = .next t ∧ t.grantSt p = 2 ∧ t.grant p = s.grant p ∧ t.get
    (.vbs p) F.VBS_TARGET_LIMIT_MA = min (11 * s.basisMa p / 10) 65535) ∧
  (∀ (p : Port) (s : State), s.coreUp = true → s.grantSt p = 3 → s.bgtBad = false → s.arb.reqs = [] → ∃ t, exec (.revokeTimeEnd p) s =
    .next t ∧ t.grantSt p = 0 ∧ t.grant p = 0 ∧ t.vbusOn p = false)

/-- Start-up (R15, R16, R20, R36, R37, R89, R131, R484): the release of core reset latches the straps; the root lock starts every core
clock and ends the reset of the management domain; ports A and B become ready; the calibrations and a self-refresh entry end; lane PLLs
lose and regain lock. Where the spec leaves a choice it rests on the model's, log 2 and 37. Commands that these clauses say complete, each
with a next state of its own effect: coreResetRelease, rootLock, mgtReady, upCalibrationEnd, plateCalibrationEnd, selfRefreshEntry,
laneUnlock, laneRelock. -/
def Obligations.StartUpCommandsComplete : Prop :=
  (∀ (st : Straps) (s : State), s.coreHeld = true → ∃ t, exec (.coreResetRelease st) s = .next t ∧ t.coreHeld = false ∧ t.get .glb
    F.GLB_STRAPS_CHIPID = st.chipId.val ∧ t.get .glb F.GLB_STRAPS_COMPAT = bit st.compat ∧ t.get .glb F.GLB_STRAPS_CFG_BYPASS = bit
    st.cfgBypass ∧ t.get .glb F.GLB_STRAPS_DRAM = st.dram.val ∧ t.get .glb F.GLB_STRAPS_RING_EN = bit st.ringEn ∧ t.get .mgt
    F.MGT_CHIP_CHIP_ID = st.chipId.val ∧ t.get .clk F.CLK_RESET_STATUS_MGT_IN_RST = 1) ∧
  (∀ (s : State), s.locked = false → (s.coreHeld = true → s.entry.lastCause = 2) → ∃ t, exec .rootLock s = .next t ∧ t.coreUp = true ∧
    t.get .clk F.CLK_ROOT_STATUS_LANE_PLATE_LOCKED = 15 ∧ t.get .clk F.CLK_ROOT_STATUS_LANE_U0_LOCKED = 1 ∧ t.get .clk
    F.CLK_ROOT_STATUS_LANE_U1_LOCKED = 1 ∧ t.get .glb F.GLB_READY_CORE = 1 ∧ t.get .clk F.CLK_RESET_STATUS_MGT_IN_RST = 0 ∧ t.dclkOn =
    true ∧ t.gclkOn = true) ∧
  (∀ (s : State), s.coreUp = true → s.domainInRst .mgt = false → ∃ t, exec .mgtReady s = .next t ∧ t.get .glb F.GLB_READY_MGT_READY = 1 ∧
    (∀ a, a ≠ 0x64 → t.rd a = s.rd a)) ∧
  (∀ (s : State), s.coreUp = true → .upCal ∈ s.arb.running → ∃ t, exec .upCalibrationEnd s = .next t ∧ t.get .glb F.GLB_READY_UP_CAL = 1) ∧
  (∀ (k : Plate) (s : State), s.coreUp = true → .plateCal k ∈ s.arb.running → ∃ t, exec (.plateCalibrationEnd k) s = .next t ∧ (t.get .glb
    F.GLB_READY_PLATE_CAL).testBit k.val = true) ∧
  (∀ (s : State), s.drcPend = true → s.drcHeld = true → ∃ t, exec .selfRefreshEntry s = .next t ∧ t.drcPend = false ∧ t.get .clk
    F.CLK_RESET_STATUS_DRC_IN_RST = 1 ∧ t.dram.warm = true ∧ t.get .glb F.GLB_READY_DRAM_READY = 0) ∧
  (∀ (k : Plate) (s : State), s.coreUp = true → s.flag .clk (laneFld (.plate k)) = true → ∃ t, exec (.laneUnlock (.plate k)) s = .next t ∧
    t.flag .clk (laneFld (.plate k)) = false ∧ t.get .clk F.CLK_ROOT_STATUS_LANE_UNLOCK_CNT = min (s.get .clk
    F.CLK_ROOT_STATUS_LANE_UNLOCK_CNT + 1) 65535) ∧
  (∀ (k : Plate) (s : State), s.coreUp = true → s.flag .clk (laneFld (.plate k)) = false → ∃ t, exec (.laneRelock (.plate k)) s = .next t
    ∧ t.flag .clk (laneFld (.plate k)) = true)

/-- Frames of ports A and B (R80–R86): the checks in their order, and a local frame of one word, here of `GLB_STRAPS`, a register no write
changes. A frame with a wrong CRC, an unknown opcode, and a second frame while one is pending change no register but their own error bits.
Where the spec leaves a choice it rests on the model's, log 18, 19 and 21. Commands that these clauses say complete, each with a next
state of its own effect: readF, readFixed, writeF, writeFixed, replay, badOpcode, csNRise, portAbort. -/
def Obligations.ManagementFramesAreAnswered : Prop :=
  (∀ (m : Master) (ns : List Nibble) (s : State), wholeFrame 1 false ns = true → s.mgtTakes = true → crcGood ns = true → s.busyWith
    (masterReq m) = false → s.loaded = true → s.coreUp = true → (hdrOf ns).waddr = 0x18 → (hdrOf ns).count = 0 → (hdrOf ns).isLocal =
    true → s.mgtSettled = true → ∃ t, exec (.readF m ns false) s = .next t ∧ t.answer = .frame m ⟨0, [⟨0, s.rd 0x60⟩], true⟩ ∧ (t.mport
    m).stored = some ⟨0, [⟨0, s.rd 0x60⟩], true⟩ ∧ (t.mport m).out = FrameResp.nibbles ⟨0, [⟨0, s.rd 0x60⟩], true⟩) ∧
  (∀ (m : Master) (ns : List Nibble) (s : State), wholeFrame 3 false ns = true → s.mgtTakes = true → crcGood ns = true → s.busyWith
    (masterReq m) = false → s.loaded = true → s.coreUp = true → (hdrOf ns).waddr = 0x18 → (hdrOf ns).count = 0 → (hdrOf ns).isLocal =
    true → s.mgtSettled = true → ∃ t, exec (.readFixed m ns false) s = .next t ∧ t.answer = .frame m ⟨0, [⟨0, s.rd 0x60⟩], true⟩ ∧
    (t.mport m).stored = some ⟨0, [⟨0, s.rd 0x60⟩], true⟩ ∧ (t.mport m).out = FrameResp.nibbles ⟨0, [⟨0, s.rd 0x60⟩], true⟩) ∧
  (∀ (m : Master) (hdr : List Nibble) (rest : List Nibble) (v : Word) (s : State), wholeWrite 2 hdr rest = true → s.mgtTakes = true →
    crcGood (hdr ++ rest) = true → s.busyWith (masterReq m) = false → s.loaded = true → s.coreUp = true → (hdrOf hdr).waddr = 0x18 →
    (hdrOf hdr).count = 0 → (hdrOf hdr).isLocal = true → entriesOf (hdr ++ rest) = [⟨0xF, v⟩] → s.mgtSettled = true → s.pair (s.identOf
    (masterReq m)) = none → ∃ t, exec (.writeF m hdr rest false) s = .next t ∧ t.answer = .frame m ⟨0, [⟨0, 0⟩], false⟩ ∧ t.rd 0x60 =
    s.rd 0x60) ∧
  (∀ (m : Master) (hdr : List Nibble) (rest : List Nibble) (v : Word) (s : State), wholeWrite 4 hdr rest = true → s.mgtTakes = true →
    crcGood (hdr ++ rest) = true → s.busyWith (masterReq m) = false → s.loaded = true → s.coreUp = true → (hdrOf hdr).waddr = 0x18 →
    (hdrOf hdr).count = 0 → (hdrOf hdr).isLocal = true → entriesOf (hdr ++ rest) = [⟨0xF, v⟩] → s.mgtSettled = true → s.pair (s.identOf
    (masterReq m)) = none → ∃ t, exec (.writeFixed m hdr rest false) s = .next t ∧ t.answer = .frame m ⟨0, [⟨0, 0⟩], false⟩ ∧ t.rd 0x60
    = s.rd 0x60) ∧
  (∀ (m : Master) (ns : List Nibble) (s : State), wholeFrame 1 false ns = true → ∃ t, exec (.readF m ns true) s = .next t ∧ t =
    (s.mportWith m (fun x => { x with out := [], high := false, taken := false, late := false })).reply .silent) ∧
  (∀ (m : Master) (ns : List Nibble) (s : State), wholeFrame 1 false ns = true → s.mgtTakes = true → crcGood ns = true → s.busyWith
    (masterReq m) = false → 0x400 < (hdrOf ns).waddr.toNat % 0x400 + ((hdrOf ns).count.toNat + 1) → ∃ t, exec (.readF m ns false) s =
    .next t ∧ t.answer = .frame m ⟨3, [], false⟩) ∧
  (∀ (m : Master) (ns : List Nibble) (s : State), wholeFrame 1 false ns = true → s.mgtTakes = true → crcGood ns = false → ∃ t, exec
    (.readF m ns false) s = .next t ∧ t.answer = .frame m ⟨1, [], false⟩ ∧ t.get .mgt (F.MGT_ERRn_CRC (masterOwner m).val) = 1) ∧
  (∀ (m : Master) (ns : List Nibble) (s : State), wholeFrame 1 false ns = true → s.mgtTakes = true → crcGood ns = true → s.busyWith
    (masterReq m) = true → ∃ t, exec (.readF m ns false) s = .next t ∧ t.answer = .frame m ⟨5, [], false⟩ ∧ t = (s.mportWith m (fun x =>
    { x with out := FrameResp.nibbles ⟨5, [], false⟩, high := false, taken := false, late := false })).reply (.frame m ⟨5, [], false⟩)) ∧
  (∀ (m : Master) (ns : List Nibble) (r : FrameResp) (s : State), wholeFrame 6 false ns = true → s.mgtTakes = true → crcGood ns = true →
    s.busyWith (masterReq m) = false → (s.mport m).stored = some r → ∃ t, exec (.replay m ⟨ns, false⟩) s = .next t ∧ t = (s.mportWith m
    (fun x => { x with out := r.nibbles, high := false, taken := false, late := false })).reply (.frame m r)) ∧
  (∀ (m : Master) (ns : List Nibble) (s : State), wholeFrame 6 false ns = true → s.mgtTakes = true → crcGood ns = true → s.busyWith
    (masterReq m) = false → (s.mport m).stored = none → ∃ t, exec (.replay m ⟨ns, false⟩) s = .next t ∧ t.answer = .frame m ⟨8, [],
    false⟩) ∧
  (∀ (m : Master) (ns : List Nibble) (s : State), badFrame ns = true → s.mgtTakes = true → crcGood ns = true → s.busyWith (masterReq m) =
    false → opcodeOf ns ∉ [1, 2, 3, 4, 6] → ∃ t, exec (.badOpcode m ns false) s = .next t ∧ t.answer = .frame m ⟨2, [], false⟩ ∧ t.get
    .mgt (F.MGT_ERRn_FRAME (masterOwner m).val) = 1) ∧
  (∀ (m : Master) (s : State), s.busyWith (masterReq m) = true → ∃ t, exec (.csNRise m .accessPending) s = .next t ∧ t = (s.mportWith m
    (fun x => { x with out := [], high := true, dropped := true })).reply .silent) ∧
  (∀ (m : Master) (moment : RiseMoment) (s : State), moment ≠ .accessPending → ∃ t, exec (.csNRise m moment) s = .next t ∧ t =
    (s.mportWith m (fun x => { x with out := [], high := true })).reply .silent ∧ (s.readyBall m = true → t.readyBall m = false)) ∧
  (∀ (m : Master) (s : State), (s.mport m).high = false → ∃ t, exec (.portAbort m) s = .next t ∧ t = s) ∧
  (∀ (m : Master) (w : RemoteWait) (s : State), (s.mport m).high = true → s.unsent w.req = false → (s.runs.find? (fun r => r.who ==
    masterReq m)) = none → (s.mport m).remote = some w → w.aborted = false → ∃ t, exec (.portAbort m) s = .next t ∧ (t.mport m).stored =
    some ⟨0, w.req.words.map (fun _ => ⟨6, 0⟩), !w.req.write⟩ ∧ (t.mport m).remote = some { w with aborted := true } ∧ t.get .mgt
    (F.MGT_ERRn_ABORT_LATE (masterOwner m).val) = 1 ∧ t.answer = .silent) ∧
  (∀ (m : Master) (w : RemoteWait) (s : State), (s.mport m).high = true → w.resends = 0 → w.busy = false → s.unsent w.req = true →
    (s.runs.find? (fun r => r.who == masterReq m)) = none → (s.mport m).remote = some w → w.aborted = false → ∃ t, exec (.portAbort m) s
    = .next t ∧ (t.mport m).stored = some ⟨0, w.req.words.map (fun _ => ⟨6, 0⟩), !w.req.write⟩ ∧ (t.mport m).remote = none ∧ t.unsent
    w.req = false ∧ t.get .mgt (F.MGT_ERRn_ABORT (masterOwner m).val) = 1 ∧ t.answer = .silent) ∧
  (∀ (m : Master) (r : AccessRun) (s : State), (s.mport m).high = true → (List.finRange 4).all (fun q => !AccessRun.popsQueue q r) = true
    → (s.runs.find? (fun r => r.who == masterReq m)) = some r → r.kind = .frame → r.done = [] → r.write = true → s.mgtSettled = true → ∃
    t, exec (.portAbort m) s = .next t ∧ t.answer = .silent ∧ (t.mport m).stored = some ⟨0, r.left.map (fun _ => ⟨6, 0⟩), false⟩ ∧
    t.runs = s.runs.erase r)

/-- The Ngupin ring (R88, R94, R100–R106): links and rosters, a duplicate chip ID, frames on their way, the master's wait and its ends,
the target's store and the response it sends, and attention notices. Where the spec leaves a choice it rests on the model's, log 22, 23,
24 and 25. Commands that these clauses say complete, each with a next state of its own effect: linkUp, miswire, linkDown, roster,
ringForward, ringRequest, ringResponse, ringRetry, ringBusyTimeout, attentionNotice, semOrphanEnd. -/
def Obligations.RingCarriesFrames : Prop :=
  (∀ (side : Side) (nb : Neighbour) (s : State), nb.side ≠ side → s.ringOn = true → s.flag .mgt (linkFld side) = false → ∃ t, exec
    (.linkUp side nb) s = .next t ∧ t.flag .mgt (linkFld side) = true ∧ t.get .glb F.GLB_READY_RING_UP = 1 ∧
    (t.ringSides[side]).neighbour = some nb.chip ∧ (s.dupId = false → (t.ringSides[side]).tx ≠ [])) ∧
  (∀ (side : Side) (nb : Chip) (s : State), ∃ t, exec (.linkUp side ⟨nb, side⟩) s = .next t ∧ t = s) ∧
  (∀ (side : Side) (s : State), s.ringOn = true → s.flag .mgt (linkFld side) = false → s.flag .mgt (miswireFld side) = false → ∃ t, exec
    (.miswire side) s = .next t ∧ t.flag .mgt (miswireFld side) = true) ∧
  (∀ (side : Side) (s : State), s.ringOn = true → s.flag .mgt (linkFld side) = true → ∃ t, exec (.linkDown side) s = .next t ∧ t.flag .mgt
    (linkFld side) = false ∧ (t.ringSides[side]).reach = [] ∧ t.get .mgt F.MGT_RING_CNT_LINK_DOWN_CNT = min (s.get .mgt
    F.MGT_RING_CNT_LINK_DOWN_CNT + 1) (2 ^ F.MGT_RING_CNT_LINK_DOWN_CNT.width - 1)) ∧
  (∀ (side : Side) (ro : Roster) (s : State), s.ringOn = true → s.flag .mgt (linkFld side) = true → s.dupId = false → s.ownElsewhere side
    ro = false → ∃ t, exec (.roster side ro) s = .next t ∧ (t.ringSides[side]).reach = (rosterSeen ro side).takeWhile (fun h => h.chip
    != s.ownChip) ∧ (∀ c : Chip, t.route c = t.routeOf c)) ∧
  (∀ (side : Side) (ro : Roster) (s : State), s.ringOn = true → s.flag .mgt (linkFld side) = true → s.dupId = false → s.ownElsewhere side
    ro = true → ∃ t, exec (.roster side ro) s = .next t ∧ t.dupId = true ∧ (t.ringSides[side]).tx = [] ∧ t.ringSlots = []) ∧
  (∀ (side : Side) (ro : Roster) (s : State), s.ringOn = true → s.flag .mgt (linkFld side) = true → s.flag .mgt (linkFld (otherSide side))
    = true → s.dupId = true → ∃ t, exec (.roster side ro) s = .next t ∧ (t.ringSides[otherSide side]).tx.any (fun fr => fr.body ==
    .roster { ro with hops := ro.hops + 1 }) = true) ∧
  (∀ (fr : RingFrame) (s : State), s.ringOn = true → fr.dest ≠ s.ownChip → fr.hopLimit.val ≤ 1 → ∃ t, exec (.ringForward fr) s = .next t ∧
    t = s.reply .silent) ∧
  (∀ (fr : RingFrame) (s : State), s.ringOn = true → fr.dest ≠ s.ownChip → 2 ≤ fr.hopLimit.val → s.route fr.dest = 1 → ∃ t, exec
    (.ringForward fr) s = .next t ∧ t = s.reply (.ringOut 0 { fr with hopLimit := fr.hopLimit - 1 })) ∧
  (∀ (rq : RingReq) (x : RingSlot) (r : FrameResp) (s : State), requestWhole rq = true → s.dupId = false → s.mgtTakes = true → s.loaded =
    true → s.slot rq.owner rq.origin = some x → x.seq = rq.seq → x.resp = some r → s.route rq.origin = 1 → ∃ t, exec (.ringRequest rq) s
    = .next t ∧ t = s.reply (.ringOut 0 ⟨rq.origin, s.ownChip, 15, .response rq.owner rq.seq (BitVec.ofNat 8 r.status) r.words⟩)) ∧
  (∀ (rq : RingReq) (s : State), s.dupId = false → s.mgtTakes = true → s.loaded = true → s.coreUp = true → s.busyWith (.ring rq.owner
    rq.origin) = false → s.slot rq.owner rq.origin = none → rq.write = false → rq.waddr = 0x18 → rq.words.length = 1 → s.mgtSettled =
    true → s.route rq.origin = 1 → ∃ t, exec (.ringRequest rq) s = .next t ∧ t.answer = .ringOut 0 ⟨rq.origin, s.ownChip, 15, .response
    rq.owner rq.seq 0 [⟨0, s.rd 0x60⟩]⟩ ∧ (t.slot rq.owner rq.origin).map (·.resp) = some (some ⟨0, [⟨0, s.rd 0x60⟩], true⟩)) ∧
  (∀ (rq : RingReq) (x : RingSlot) (s : State), requestWhole rq = true → s.dupId = false → s.mgtTakes = true → s.loaded = true → s.slot
    rq.owner rq.origin = some x → x.seq = rq.seq → x.resp = none → ∃ t, exec (.ringRequest rq) s = .next t ∧ (t.slot rq.owner
    rq.origin).map (·.owed) = some (x.owed + 1)) ∧
  (∀ (rq : RingReq) (x : RingSlot) (s : State), requestWhole rq = true → s.dupId = false → s.mgtTakes = true → s.loaded = true → s.slot
    rq.owner rq.origin = some x → x.seq ≠ rq.seq → x.resp = none → ∃ t, exec (.ringRequest rq) s = .next t ∧ (t.slot rq.owner
    rq.origin).map (·.waiting) = some (x.waiting ++ [rq])) ∧
  (∀ (m : Master) (w : RemoteWait) (st : Byte) (ws : List WordResult) (s : State), s.mgtTakes = true → s.dupId = false → (s.mport
    m).remote = some w → w.aborted = false → (s.mport m).dropped = false → ∃ t, exec (.ringResponse m w.req.seq false st ws) s = .next t
    ∧ t.answer = .frame m ⟨st.toNat, ws, !w.req.write⟩ ∧ (t.mport m).stored = some ⟨st.toNat, ws, !w.req.write⟩ ∧ (t.mport m).remote =
    none) ∧
  (∀ (m : Master) (w : RemoteWait) (s : State), s.mgtTakes = true → s.dupId = false → (s.mport m).remote = some w → w.aborted = false →
    w.busySeen = false → w.resends < s.ringRetries → ∃ t, exec (.ringRetry m) s = .next t ∧ (t.mport m).remote = some
    { w with resends := w.resends + 1, busy := false } ∧ (s.sideTo w.chip ≠ none → t.unsent w.req = true) ∧ t.get .mgt
    F.MGT_RING_CNT_RETRY_CNT = min (s.get .mgt F.MGT_RING_CNT_RETRY_CNT + 1) (2 ^ F.MGT_RING_CNT_RETRY_CNT.width - 1)) ∧
  (∀ (m : Master) (w : RemoteWait) (s : State), s.mgtTakes = true → (s.mport m).remote = some w → w.aborted = false → w.busySeen = false →
    s.ringRetries ≤ w.resends → ∃ t, exec (.ringRetry m) s = .next t ∧ (t.mport m).remote = none ∧ (t.mport m).stored = some ⟨7, [],
    false⟩ ∧ t.get .mgt (F.MGT_ERRn_RING (masterOwner m).val) = 1) ∧
  (∀ (m : Master) (w : RemoteWait) (s : State), s.mgtTakes = true → (s.mport m).remote = some w → w.aborted = false → w.busy = true → ∃ t,
    exec (.ringBusyTimeout m) s = .next t ∧ (t.mport m).remote = none ∧ (t.mport m).stored = (s.mport m).stored ∧ ((s.mport m).dropped =
    false → t.answer = .frame m ⟨5, [], false⟩)) ∧
  (∀ (c : Chip) (set : Bool) (s : State), s.ringOn = true → s.dupId = false → ∃ t, exec (.attentionNotice c true set) s = .next t ∧ (t.get
    .mgt F.MGT_RING_ATTN_ATTN_B).testBit c.val = set) ∧
  (∀ (c : Chip) (n : Sem) (s : State), s.coreUp = true → s.cfg .mgt F.MGT_RING_CFG_SEM_ORPHAN ≠ 0 → c ≠ s.ownChip → s.route c = 0 → s.get
    .glb (F.GLB_SEMn_OWNER_HELD n.val) = 1 → s.get .glb (F.GLB_SEMn_OWNER_ORIGIN n.val) = c.val → ∃ t, exec (.semOrphanEnd c) s = .next
    t ∧ t.get .glb (F.GLB_SEMn_OWNER_HELD n.val) = 0)

/-- Events (R115, R118, R120–R129): the uptime counts, one record leaves a source FIFO, a pop takes the head record, an empty pop of a
master waits and one that has waited completes or ends with zero, a peek takes nothing, and a flush empties a queue. Where the spec leaves
a choice it rests on the model's, log 5, 20 and 21. Commands that these clauses say complete, each with a next state of its own effect:
uptimeAlign, eventRoute, evqPop, popComplete, evqPopTimeout, flush. -/
def Obligations.EventsAreRoutedPoppedAndPeeked : Prop :=
  (∀ (s : State), s.coreUp = true → ∃ t, exec .uptimeAlign s = .next t ∧ t = s.alignUptime ∧ t.uptime = s.uptime + 1000 ∧ t.phase = 0 ∧ (∀
    d : Fin 11, t.copies[d] = if s.copyRuns d then copyStep d s.uptime s.phase.val 120 s.copies[d] else s.copies[d])) ∧
  (∀ (pg : Nat) (r : EventRecord) (rest : List EventRecord) (n : QueueIx) (s : State), s.coreUp = true → s.loaded = true → s.nextSource =
    some (pg, ⟨r :: rest, []⟩) → s.routes n r.cls.toNat = true → s.cfg .evq (F.EVQ_CFGn_MIN_PRI n.val) ≤ r.pri.val → (n.val < 2 ∨
    s.cfgFlag .evq (F.EVQ_CFGn_OWN_ONLY n.val) = false ∨ s.subjectOf n r.subj = true) → s.runs.any (AccessRun.popsQueue n) = false →
    ((s.queue n).levels[r.pri]).recs.length < 64 → ∃ t, exec .eventRoute s = .next t ∧ t.routePtr = pg ∧ (t.fifo pg).recs.take
    rest.length = rest ∧ ((t.queue n).levels[r.pri]).recs = ((s.queue n).levels[r.pri]).recs ++
    [{ r with filtered := decide (⟨r.cls, r.code, r.source⟩ ∈ (s.queue n).marks) }]) ∧
  (∀ (pg : Nat) (r : EventRecord) (rest : List EventRecord) (s : State), s.coreUp = true → s.loaded = true → s.nextSource = some (pg, ⟨r
    :: rest, []⟩) → (∀ n : QueueIx, s.routes n r.cls.toNat = false) → ∃ t, exec .eventRoute s = .next t ∧ t.routePtr = pg ∧ (t.fifo
    pg).recs = rest ∧ t.queues = s.queues) ∧
  (∀ (who : Requester) (q : QueueIx) (s : State), s.reaches who .evq (0x40 + 0x40 * q.val) = true → (s.popRecord q).isSome = true → ∃ t,
    exec (.evqPop who q) s = .next t ∧ t.answer = .word 0 (((s.popRecord q).map (fun x => x.1.w0)).getD 0) ∧ t.queues = ((s.popRecord
    q).map (fun x => x.2.queues)).getD s.queues ∧ t.rd (0x3044 + 0x40 * q.val) = ((s.popRecord q).map (fun x => x.1.detail)).getD 0 ∧
    t.rd (0x3048 + 0x40 * q.val) = ((s.popRecord q).map (fun x => x.1.w2)).getD 0 ∧ t.rd (0x304C + 0x40 * q.val) = ((s.popRecord q).map
    (fun x => x.1.w3)).getD 0) ∧
  (∀ (who : Requester) (q : QueueIx) (s : State), s.reaches who .evq (0x40 + 0x40 * q.val) = true → (s.popRecord q).isNone = true → ∃ t,
    exec (.evqPop who q) s = .next t ∧ t.answer = .waits ∧ t.runs = s.runs ++ [⟨who, .single, false, false, 0x3040 + 0x40 * q.val,
    [⟨0xF, 0⟩], [], none⟩]) ∧
  (∀ (q : QueueIx) (r : AccessRun) (x : EventRecord) (s : State), s.coreUp = true → s.loaded = true → s.popWaiter q = some r → (s.queue
    q).handoff = some x → r = ⟨.a, .single, false, false, 0x3040 + 0x40 * q.val, [⟨0xF, 0⟩], [], none⟩ → s.mgtSettled = true → ∃ t, exec
    (.popComplete q) s = .next t ∧ t.answer = .word 0 x.w0 ∧ (t.queue q).handoff = none ∧ t.runs = s.runs.erase r) ∧
  (∀ (q : QueueIx) (r : AccessRun) (s : State), s.coreUp = true → s.runs.find? (fun x => x.who == r.who && x.waitsOn.isSome) = some r →
    r.waitsOn = some q → (s.queue q).handoff = none → isMaster r.who = false → r.kind = .single → r.left.length = 1 → r.done = [] → ∃ t,
    exec (.evqPopTimeout r.who) s = .next t ∧ t.answer = .word 0 0 ∧ (s.runs = [r] → t.queues = s.queues)) ∧
  (∀ (who : Requester) (q : QueueIx) (s : State), s.takesWrite who .evq (0x78 + 0x40 * q.val) = true → s.mgtSettled = true → ∃ t, exec
    (.flush who q) s = .next t ∧ (t.queue q).depth = 0)

/-- Register writes (R54–R56, R61–R63, R78): a write that is taken is the register's write and the answer OK; a first write of a guarded
pair is remembered and stores nothing, its complement carries it out, anything else breaks it, and it expires. Where the spec leaves a
choice it rests on the model's, log 15, 16, 17, 21, 26 and 32. Commands that these clauses say complete, each with a next state of its own
effect: registerWrite, guardFirstWrite, guardComplementWrite, guardExpire, accessTimeout, parityScrub, pageEnWrite, blkRst,
restartComplete. -/
def Obligations.RegisterWritesAreTaken : Prop :=
  (∀ (who : Requester) (pg : PageId) (off : Nat) (be : BitVec 4) (v : Word) (s : State), s.takesWrite who pg off = true → isRwg pg off =
    false → isComplement pg off = false → be ≠ 0 → ∃ t, exec (.registerWrite who (regAddr pg off) be v) s = .next t ∧ t = s.writeTakenBy
    who pg off be v) ∧
  (∀ (who : Requester) (pg : PageId) (off : Nat) (v : Word) (s : State), s.takesWrite who pg off = true → isRwg pg off = true →
    s.mgtSettled = true → ∃ t, exec (.guardFirstWrite who (regAddr pg off) 0xF v) s = .next t ∧ t = (s.setPair (s.identOf who) (some
    ⟨regAddr pg off, v⟩)).reply (.word 0 0)) ∧
  (∀ (who : Requester) (pg : PageId) (off : Nat) (v : Word) (s : State), s.reaches who pg (off + 4) = true → s.denied who (some pg) (off +
    4) = false → s.pair (s.identOf who) = some ⟨regAddr pg off, v⟩ → ∃ t, exec (.guardComplementWrite who (regAddr pg (off + 4)) 0xF
    (~~~v)) s = .next t ∧ t = (((s.setPair (s.identOf who) none).writeReg (s.identOf who) pg off 0xF v true false 0).afterAccess 0 0)) ∧
  (∀ (who : Requester) (pg : PageId) (off : Nat) (v : Word) (w : Word) (s : State), s.reaches who pg (off + 4) = true → s.denied who (some
    pg) (off + 4) = false → s.pair (s.identOf who) = some ⟨regAddr pg off, v⟩ → isRwg pg off = true → isRwg pg (off + 4) = false → w ≠
    ~~~v → s.mgtSettled = true → ∃ t, exec (.guardComplementWrite who (regAddr pg (off + 4)) 0xF w) s = .next t ∧ t.answer = .word 5 0 ∧
    t.pair (s.identOf who) = none ∧ t.get .mgt (F.MGT_ERRn_GUARD (s.identOf who).owner.val) = 1 ∧ t.rd (regAddr pg off) = s.rd (regAddr
    pg off)) ∧
  (∀ (i : Ident) (s : State), (s.pair i).isSome = true → ∃ t, exec (.guardExpire i) s = .next t ∧ t.pair i = none ∧ t.get .mgt
    (F.MGT_ERRn_GUARD i.owner.val) = 1 ∧ t.get .mgt (F.MGT_ERRn_ORIGIN i.owner.val) = i.origin.val) ∧
  (∀ (who : Requester) (pg : PageId) (off : Nat) (s : State), isMaster who = false → off < 0x1000 → s.pageThere pg = true → alwaysThere pg
    off = false → s.clockOn pg = false → ∃ t, exec (.accessTimeout (.single who) (regAddr pg off) none) s = .next t ∧ t = s.reply (.word
    3 0)) ∧
  (∀ (addr : Nat) (upset : Word) (s : State), s.coreUp = true → 0x3060 = addr → s.badFound .evq 0x60 = false → ((s.upset addr
    upset).findParity addr).2.badFound .evq 0x60 = true → ∃ t, exec (.parityScrub [(addr, upset)] addr) s = .next t ∧ t.badFound .evq
    0x60 = true ∧ t.get .evq (F.FAULT 0) = 1) ∧
  (∀ (who : Requester) (pg : PageId) (en : Bool) (s : State), hasHeader pg = true → s.takesWrite who pg 4 = true → ∃ t, exec (.pageEnWrite
    who pg en) s = .next t ∧ t = s.writeTakenBy who pg 4 0xF (BitVec.ofNat 32 (bit en))) ∧
  (∀ (who : Requester) (pg : PageId) (s : State), hasHeader pg = true → s.takesWrite who pg 4 = true → ∃ t, exec (.blkRst who pg) s =
    .next t ∧ t = s.writeTakenBy who pg 4 0xF ((s.rd (regAddr pg 4) &&& 1) ||| 2)) ∧
  (∀ (pg : PageId) (s : State), hasHeader pg = true → s.get pg F.PAGE_STATUS_RESTARTING = 1 → ∃ t, exec (.restartComplete pg) s = .next t
    ∧ t.get pg F.PAGE_STATUS_RESTARTING = 0 ∧ t.get pg F.PAGE_CTRL_BLK_RST = 0)

/-- The guarded fields of the clock and reset page (R13, R17–R22), the port resets (R18), semaphores (R92–R94) and the host grants (R95,
R96): the pair or the write is taken, with its register's effect. Where the spec leaves a choice it rests on the model's, log 17, 21 and
35. Commands that these clauses say complete, each with a next state of its own effect: coreRst, plateRst, graverRst, drcRst, mgtRst,
dclkRun, gclkRun, fclkPlateRun, portRst, semClaim, semForce, hostGrantChange. -/
def Obligations.ResetAndGateWritesAreTaken : Prop :=
  (∀ (who : Requester) (s : State), s.takesPair who .clk 0x4C = true → s.committing = false → ∃ t, exec (.coreRst who) s = .next t ∧
    t.coreHeld = true ∧ t.entry.lastCause = 1 ∧ t.answer = .silent) ∧
  (∀ (who : Requester) (v : BitVec 4) (s : State), s.takesPair who .clk 0x4C = true → ∃ t, exec (.plateRst who v) s = .next t ∧ t =
    s.pairTakenBy who .clk 0x4C (fldSet F.CLK_RESET_PLATE_RST (s.rd (0x1000 + F.CLK_RESET_PLATE_RST.off)) v.toNat)) ∧
  (∀ (who : Requester) (v : Bool) (s : State), s.takesPair who .clk 0x4C = true → ∃ t, exec (.graverRst who v) s = .next t ∧ t =
    s.pairTakenBy who .clk 0x4C (fldSet F.CLK_RESET_GRAVER_RST (s.rd (0x1000 + F.CLK_RESET_GRAVER_RST.off)) (bit v))) ∧
  (∀ (who : Requester) (v : Bool) (s : State), s.takesPair who .clk 0x4C = true → ∃ t, exec (.drcRst who v) s = .next t ∧ t =
    s.pairTakenBy who .clk 0x4C (fldSet F.CLK_RESET_DRC_RST (s.rd (0x1000 + F.CLK_RESET_DRC_RST.off)) (bit v))) ∧
  (∀ (who : Requester) (v : Bool) (s : State), s.takesPair who .clk 0x4C = true → ∃ t, exec (.mgtRst who v) s = .next t ∧ t =
    s.pairTakenBy who .clk 0x4C (fldSet F.CLK_RESET_MGT_RST (s.rd (0x1000 + F.CLK_RESET_MGT_RST.off)) (bit v))) ∧
  (∀ (who : Requester) (v : Bool) (s : State), s.takesPair who .clk 0x44 = true → ∃ t, exec (.dclkRun who v) s = .next t ∧ t =
    s.pairTakenBy who .clk 0x44 (fldSet F.CLK_GATE_DCLK_RUN (s.rd (0x1000 + F.CLK_GATE_DCLK_RUN.off)) (bit v))) ∧
  (∀ (who : Requester) (v : Bool) (s : State), s.takesPair who .clk 0x44 = true → ∃ t, exec (.gclkRun who v) s = .next t ∧ t =
    s.pairTakenBy who .clk 0x44 (fldSet F.CLK_GATE_GCLK_RUN (s.rd (0x1000 + F.CLK_GATE_GCLK_RUN.off)) (bit v))) ∧
  (∀ (who : Requester) (v : BitVec 4) (s : State), s.takesPair who .clk 0x44 = true → ∃ t, exec (.fclkPlateRun who v) s = .next t ∧ t =
    s.pairTakenBy who .clk 0x44 (fldSet F.CLK_GATE_FCLK_PLATE_RUN (s.rd (0x1000 + F.CLK_GATE_FCLK_PLATE_RUN.off)) v.toNat)) ∧
  (∀ (who : Requester) (hi : Bool) (be : BitVec 4) (v : Word) (s : State), s.takesWrite who .clk (if hi then 0x58 else 0x54) = true → be ≠
    0 → ∃ t, exec (.portRst who hi be v) s = .next t ∧ t = s.writeTakenBy who .clk (if hi then 0x58 else 0x54) be v) ∧
  (∀ (who : Requester) (n : Sem) (s : State), s.reaches who .glb (0x100 + 16 * n.val) = true → s.barred who = false → s.get .glb
    (F.GLB_SEMn_OWNER_HELD n.val) = 0 → ∃ t, exec (.semClaim who n) s = .next t ∧ t.answer = .word 0 1 ∧ t.semHeldBy n (s.identOf who) =
    true) ∧
  (∀ (who : Requester) (n : Sem) (s : State), s.reaches who .glb (0x100 + 16 * n.val) = true → s.get .glb (F.GLB_SEMn_OWNER_HELD n.val) =
    1 → s.semHeldBy n (s.identOf who) = false → ∃ t, exec (.semClaim who n) s = .next t ∧ t.answer = .word 0 0 ∧ t.rd (0x108 + 16 *
    n.val) = s.rd (0x108 + 16 * n.val)) ∧
  (∀ (who : Requester) (v : Word) (n : Sem) (s : State), s.takesPair who .glb 0x300 = true → v.getLsbD n.val = true → ∃ t, exec (.semForce
    who v) s = .next t ∧ t.get .glb (F.GLB_SEMn_OWNER_HELD n.val) = 0) ∧
  (∀ (who : Requester) (v : BitVec 2) (s : State), s.takesPair who .mgt 0x44 = true → ∃ t, exec (.hostGrantChange who v) s = .next t ∧ t =
    s.pairTakenBy who .mgt 0x44 (v.setWidth 32))

/-- The register commands of the configuration store (R148–R150), the pools and targets (R182, R189), the ports' switches, Type-C logic,
console taps and PD engines (R203, R221, R225, R230, R262, R263): each is taken with its register's effect. Where the spec leaves a choice
it rests on the model's, log 21 and 34. Commands that these clauses say complete, each with a next state of its own effect: stageWrite,
stageRead, commit, fetchActive, fetchOther, poolWrite, targetWrite, forceOff, recover, conRxdataRead, conTxdataWrite, pdCtrlHardReset,
pdCtrlSoftReset, sendCaps, rediscover, exitMode, pdEnWrite. -/
def Obligations.StorePowerAndPortWritesAreTaken : Prop :=
  (∀ (who : Requester) (be : BitVec 4) (v : Word) (s : State), s.takesWrite who .cfg 0x64 = true → be ≠ 0 → ∃ t, exec (.stageWrite who be
    v) s = .next t ∧ t = s.writeTakenBy who .cfg 0x64 be v) ∧
  (∀ (who : Requester) (s : State), s.reaches who .cfg 0x68 = true → ∃ t, exec (.stageRead who) s = .next t ∧ t.answer = .word 0
    s.stageRead.1 ∧ t.stage = s.stage) ∧
  (∀ (who : Requester) (pe : Bool) (s : State), s.takesWrite who .cfg 0x5C = true → ∃ t, exec (.commit who pe) s = .next t ∧ t =
    (s.writeReg (s.identOf who) .cfg 0x5C 0xF 1 false pe 0).afterAccess 0 0) ∧
  (∀ (who : Requester) (s : State), s.takesWrite who .cfg 0x5C = true → ∃ t, exec (.fetchActive who) s = .next t ∧ t = s.writeTakenBy who
    .cfg 0x5C 0xF 2) ∧
  (∀ (who : Requester) (s : State), s.takesWrite who .cfg 0x5C = true → ∃ t, exec (.fetchOther who) s = .next t ∧ t = s.writeTakenBy who
    .cfg 0x5C 0xF 4) ∧
  (∀ (who : Requester) (single : Bool) (be : BitVec 4) (v : Word) (s : State), s.takesWrite who .bgt (if single then 0x44 else 0x40) =
    true → be ≠ 0 → ∃ t, exec (.poolWrite who single be v) s = .next t ∧ t = s.writeTakenBy who .bgt (if single then 0x44 else 0x40) be
    v) ∧
  (∀ (who : Requester) (p : Port) (be : BitVec 4) (v : Word) (s : State), s.takesWrite who .bgt (0x80 + 4 * p.val) = true → be ≠ 0 → ∃ t,
    exec (.targetWrite who p be v) s = .next t ∧ t = s.writeTakenBy who .bgt (0x80 + 4 * p.val) be v) ∧
  (∀ (who : Requester) (p : Port) (v : Bool) (s : State), s.takesWrite who (.vbs p) F.VBS_CTRL_FORCE_OFF.off = true → ∃ t, exec (.forceOff
    who p v) s = .next t ∧ t = s.writeTakenBy who (.vbs p) F.VBS_CTRL_FORCE_OFF.off 0xF (fldSet F.VBS_CTRL_FORCE_OFF (s.rd (regAddr
    (.vbs p) F.VBS_CTRL_FORCE_OFF.off)) (bit v))) ∧
  (∀ (who : Requester) (p : Port) (s : State), s.takesWrite who (.tcp p) 0x4C = true → ∃ t, exec (.recover who p) s = .next t ∧ t =
    s.writeTakenBy who (.tcp p) 0x4C 0xF 1) ∧
  (∀ (who : Requester) (p : Port) (s : State), s.reaches who (.con p) 0x4C = true → (s.con p).rx ≠ [] → ∃ t, exec (.conRxdataRead who p) s
    = .next t ∧ t.answer = .word 0 (s.conPop p).1 ∧ (t.con p).rx = (s.con p).rx.drop 1) ∧
  (∀ (who : Requester) (p : Port) (be : BitVec 4) (v : Word) (s : State), s.takesWrite who (.con p) 0x50 = true → be ≠ 0 → ∃ t, exec
    (.conTxdataWrite who p be v) s = .next t ∧ t = s.writeTakenBy who (.con p) 0x50 be v) ∧
  (∀ (who : Requester) (p : Port) (s : State), s.takesWrite who (.tcp p) 0x90 = true → ∃ t, exec (.pdCtrlHardReset who p) s = .next t ∧ t
    = s.writeTakenBy who (.tcp p) 0x90 0xF 1) ∧
  (∀ (who : Requester) (p : Port) (s : State), s.takesWrite who (.tcp p) 0x90 = true → ∃ t, exec (.pdCtrlSoftReset who p) s = .next t ∧ t
    = s.writeTakenBy who (.tcp p) 0x90 0xF 2) ∧
  (∀ (who : Requester) (p : Port) (s : State), s.takesWrite who (.tcp p) 0x90 = true → ∃ t, exec (.sendCaps who p) s = .next t ∧ t =
    s.writeTakenBy who (.tcp p) 0x90 0xF 4) ∧
  (∀ (who : Requester) (p : Port) (s : State), s.takesWrite who (.tcp p) 0x90 = true → ∃ t, exec (.rediscover who p) s = .next t ∧ t =
    s.writeTakenBy who (.tcp p) 0x90 0xF 8) ∧
  (∀ (who : Requester) (p : Port) (s : State), s.takesWrite who (.tcp p) 0x90 = true → ∃ t, exec (.exitMode who p) s = .next t ∧ t =
    s.writeTakenBy who (.tcp p) 0x90 0xF 16) ∧
  (∀ (who : Requester) (p : Port) (v : Bool) (s : State), s.takesWrite who (.tcp p) F.TCP_PD_POLICY_PD_EN.off = true → ∃ t, exec
    (.pdEnWrite who p v) s = .next t ∧ t = s.writeTakenBy who (.tcp p) F.TCP_PD_POLICY_PD_EN.off 0xF (fldSet F.TCP_PD_POLICY_PD_EN (s.rd
    (regAddr (.tcp p) F.TCP_PD_POLICY_PD_EN.off)) (bit v)))

/-- The register commands of the SuperSpeed ports (R304, R317–R319), the presentations (R332, R343, R344), the function memory (R372), the
graver (R378, R381, R382, R406) and the DRAM controller (R413, R418): each is taken with its register's effect. Where the spec leaves a
choice it rests on the model's, log 21, 31 and 34. Commands that these clauses say complete, each with a next state of its own effect:
enterCp, loopMaster, exitTest, marginStart, maxGenWrite, ownerWrite, failback, reattach, epmWinRead, doorbell, crConsWrite, bufWdata,
bufRdata, ringCfgRestart, load, store, eccClear. -/
def Obligations.LinkPresentationAndGraverWritesAreTaken : Prop :=
  (∀ (who : Requester) (f : Full) (s : State), s.takesWrite who (.ssp f) 0x50 = true → ∃ t, exec (.enterCp who f) s = .next t ∧ t =
    s.writeTakenBy who (.ssp f) 0x50 0xF 1) ∧
  (∀ (who : Requester) (f : Full) (s : State), s.takesWrite who (.ssp f) 0x50 = true → ∃ t, exec (.loopMaster who f) s = .next t ∧ t =
    s.writeTakenBy who (.ssp f) 0x50 0xF 2) ∧
  (∀ (who : Requester) (f : Full) (n : Nat) (s : State), s.takesWrite who (.ssp f) 0x50 = true → ∃ t, exec (.exitTest who f n) s = .next t
    ∧ t = (s.writeReg (s.identOf who) (.ssp f) 0x50 0xF 4 false false n).afterAccess 0 0) ∧
  (∀ (who : Requester) (f : Full) (s : State), s.takesWrite who (.ssp f) 0x58 = true → ∃ t, exec (.marginStart who f) s = .next t ∧ t =
    s.writeTakenBy who (.ssp f) 0x58 0xF 1) ∧
  (∀ (who : Requester) (f : Full) (v : Bool) (s : State), s.takesWrite who (.ssp f) F.SSP_CFG_MAX_GEN.off = true → ∃ t, exec (.maxGenWrite
    who (.down f) v) s = .next t ∧ t = s.writeTakenBy who (.ssp f) F.SSP_CFG_MAX_GEN.off 0xF (fldSet F.SSP_CFG_MAX_GEN (s.rd (regAddr
    (.ssp f) F.SSP_CFG_MAX_GEN.off)) (bit v))) ∧
  (∀ (who : Requester) (u : Up) (v : Bool) (s : State), s.takesWrite who (.ups u) F.UPS_CFG_MAX_GEN.off = true → ∃ t, exec (.maxGenWrite
    who (.up u) v) s = .next t ∧ t = s.writeTakenBy who (.ups u) F.UPS_CFG_MAX_GEN.off 0xF (fldSet F.UPS_CFG_MAX_GEN (s.rd (regAddr
    (.ups u) F.UPS_CFG_MAX_GEN.off)) (bit v))) ∧
  (∀ (who : Requester) (p : Port) (be : BitVec 4) (v : Word) (s : State), s.takesWrite who .prs (0x100 + 4 * p.val) = true → be ≠ 0 → ∃ t,
    exec (.ownerWrite who p be v) s = .next t ∧ t = s.writeTakenBy who .prs (0x100 + 4 * p.val) be v) ∧
  (∀ (who : Requester) (s : State), s.takesWrite who .prs 0x48 = true → ∃ t, exec (.failback who) s = .next t ∧ t = s.writeTakenBy who
    .prs 0x48 0xF 4) ∧
  (∀ (who : Requester) (u : Up) (s : State), s.takesWrite who .prs 0x48 = true → ∃ t, exec (.reattach who u) s = .next t ∧ t =
    s.writeTakenBy who .prs 0x48 0xF (if u = 0 then 1 else 2)) ∧
  (∀ (who : Requester) (s : State), s.reaches who .epm 0x4C = true → ∃ t, exec (.epmWinRead who) s = .next t ∧ t.answer = .word 0
    s.epmWinRead.1 ∧ t.epm = s.epm) ∧
  (∀ (who : Requester) (r : RingIx) (be : BitVec 4) (v : Word) (s : State), s.takesWrite who .grv (0x10C + 0x40 * r.val) = true → be ≠ 0 →
    ∃ t, exec (.doorbell who r be v) s = .next t ∧ t = s.writeTakenBy who .grv (0x10C + 0x40 * r.val) be v) ∧
  (∀ (who : Requester) (r : RingIx) (be : BitVec 4) (v : Word) (s : State), s.takesWrite who .grv (0x124 + 0x40 * r.val) = true → be ≠ 0 →
    ∃ t, exec (.crConsWrite who r be v) s = .next t ∧ t = s.writeTakenBy who .grv (0x124 + 0x40 * r.val) be v) ∧
  (∀ (who : Requester) (be : BitVec 4) (v : Word) (s : State), s.takesWrite who .grv 0x50 = true → be ≠ 0 → ∃ t, exec (.bufWdata who be v)
    s = .next t ∧ t = s.writeTakenBy who .grv 0x50 be v) ∧
  (∀ (who : Requester) (s : State), s.reaches who .grv 0x54 = true → ∃ t, exec (.bufRdata who) s = .next t ∧ t.answer = .word 0
    s.bufRead.1 ∧ (s.badFound .grv 0x4C = false → s.bufShut = false → s.bufRead.1 = BitVec.ofNat 32 (leNat (s.bufGet (4 * s.get .grv
    F.GRV_BUF_PTR_PTR) 4) 0 4) ∧ t.get .grv F.GRV_BUF_PTR_PTR = (s.get .grv F.GRV_BUF_PTR_PTR + 1) % 2 ^ 19)) ∧
  (∀ (who : Requester) (r : RingIx) (off : Nat) (be : BitVec 4) (v : Word) (s : State), s.takesWrite who .grv (0x100 + 0x40 * r.val + off
    % 0x40) = true → be ≠ 0 → ∃ t, exec (.ringCfgRestart who r off be v) s = .next t ∧ t = s.writeTakenBy who .grv (0x100 + 0x40 * r.val
    + off % 0x40) be v) ∧
  (∀ (who : Requester) (w : WinIx) (s : State), s.takesWrite who .drc (0x88 + 16 * w.val) = true → fldSet ⟨0x88 + 16 * w.val, 0, 2⟩ (s.rd
    (regAddr .drc (0x88 + 16 * w.val))) 1 ≠ 0 → ∃ t, exec (.load who w) s = .next t ∧ t = s.writeTakenBy who .drc (0x88 + 16 * w.val)
    0xF (fldSet ⟨0x88 + 16 * w.val, 0, 2⟩ (s.rd (regAddr .drc (0x88 + 16 * w.val))) 1)) ∧
  (∀ (who : Requester) (w : WinIx) (s : State), s.takesWrite who .drc (0x88 + 16 * w.val) = true → ∃ t, exec (.store who w) s = .next t ∧
    t = s.writeTakenBy who .drc (0x88 + 16 * w.val) 0xF (fldSet ⟨0x88 + 16 * w.val, 0, 2⟩ (s.rd (regAddr .drc (0x88 + 16 * w.val))) 2)) ∧
  (∀ (who : Requester) (s : State), s.takesWrite who .drc 0x60 = true → ∃ t, exec (.eccClear who) s = .next t ∧ t = s.writeTakenBy who
    .drc 0x60 0xF 0x80000000)

/-- The register commands of the compatibility windows (R57, R429, R432, R435) and of the health page (R450, R451, R455, R458): each is
taken with its register's effect; the end of a live update records its result. Where the spec leaves a choice it rests on the model's, log
21, 33 and 46. Commands that these clauses say complete, each with a next state of its own effect: compatAttach, instReset, rcRead,
configAreaWrite, quarSet, quarRelease, plateIsoSet, plateIsoClear, peakClr, updatePortPolicy, updatePort, updatePresDesc, updateEnd. -/
def Obligations.WindowAndHealthWritesAreTaken : Prop :=
  (∀ (who : Requester) (i : Inst) (s : State), s.takesWrite who (.win i) 0x3FC = true → ∃ t, exec (.compatAttach who i) s = .next t ∧ t =
    s.writeTakenBy who (.win i) 0x3FC 0xF 1) ∧
  (∀ (who : Requester) (m : Byte) (s : State), s.takesWrite who .cpt 0x48 = true → ∃ t, exec (.instReset who m) s = .next t ∧ t =
    s.writeTakenBy who .cpt 0x48 0xF (m.setWidth 32)) ∧
  (∀ (who : Requester) (i : Inst) (off : Byte) (s : State), s.reaches who (.win i) (4 * off.toNat) = true → ∃ t, exec (.rcRead who i off)
    s = .next t ∧ t.answer = .word 0 ((s.winRead i off.toNat).1.setWidth 32)) ∧
  (∀ (who : Requester) (i : Inst) (off : Byte) (v : Byte) (s : State), s.takesWrite who (.win i) (4 * off.toNat) = true → ∃ t, exec
    (.configAreaWrite who i off v) s = .next t ∧ t = s.writeTakenBy who (.win i) (4 * off.toNat) 1 (v.setWidth 32)) ∧
  (∀ (who : Requester) (hi : Bool) (v : Word) (s : State), s.takesWrite who .hlt (if hi then 0x6C else 0x68) = true → ∃ t, exec (.quarSet
    who hi v) s = .next t ∧ t = s.writeTakenBy who .hlt (if hi then 0x6C else 0x68) 0xF v) ∧
  (∀ (who : Requester) (hi : Bool) (v : Word) (s : State), s.takesWrite who .hlt (if hi then 0x64 else 0x60) = true → ∃ t, exec
    (.quarRelease who hi v) s = .next t ∧ t = s.writeTakenBy who .hlt (if hi then 0x64 else 0x60) 0xF v) ∧
  (∀ (who : Requester) (v : BitVec 4) (s : State), s.takesPair who .hlt 0x70 = true → ∃ t, exec (.plateIsoSet who v) s = .next t ∧ t =
    s.pairTakenBy who .hlt 0x70 (fldSet F.HLT_PLATE_ISO_ISO (s.rd 0x7070) (s.get .hlt F.HLT_PLATE_ISO_ISO ||| v.toNat))) ∧
  (∀ (who : Requester) (v : BitVec 4) (s : State), s.takesPair who .hlt 0x70 = true → ∃ t, exec (.plateIsoClear who v) s = .next t ∧ t =
    s.pairTakenBy who .hlt 0x70 (fldSet F.HLT_PLATE_ISO_ISO (s.rd 0x7070) (s.get .hlt F.HLT_PLATE_ISO_ISO &&& (~~~v).toNat))) ∧
  (∀ (who : Requester) (s : State), s.takesWrite who .hlt 0x5C = true → ∃ t, exec (.peakClr who) s = .next t ∧ t = s.writeTakenBy who .hlt
    0x5C 0xF 1) ∧
  (∀ (who : Requester) (s : State), s.takesWrite who .hlt 0x98 = true → (s.get .hlt F.HLT_UPD_CFG_KIND = 0 ∨ s.get .hlt F.HLT_UPD_CFG_KIND
    = 3) → ∃ t, exec (.updatePortPolicy who) s = .next t ∧ t = s.writeTakenBy who .hlt 0x98 0xF 1) ∧
  (∀ (who : Requester) (s : State), s.takesWrite who .hlt 0x98 = true → s.get .hlt F.HLT_UPD_CFG_KIND = 1 → ∃ t, exec (.updatePort who) s
    = .next t ∧ t = s.writeTakenBy who .hlt 0x98 0xF 1) ∧
  (∀ (who : Requester) (s : State), s.takesWrite who .hlt 0x98 = true → s.get .hlt F.HLT_UPD_CFG_KIND = 2 → ∃ t, exec (.updatePresDesc
    who) s = .next t ∧ t = s.writeTakenBy who .hlt 0x98 0xF 1) ∧
  (∀ (r : Fin 8) (n : Nat) (s : State), s.health.upd = some (r, n) → ∃ t, exec .updateEnd s = .next t ∧ t.health.upd = none ∧ t.get .hlt
    F.HLT_UPD_STATUS_RESULT = r.val ∧ t.get .hlt F.HLT_UPD_STATUS_SKIPPED = min n 65535 ∧ t.get .hlt F.HLT_UPD_STATUS_BUSY = 0 ∧ t.get
    .hlt F.HLT_UPD_CTRL_GO = 0)

/-- The USB 2.0 side of a port (R273, R274, R285–R288): connect and disconnect, babble, the reset with its chirp, and the ends of resume,
of L1 and of the LPM transaction. Where the spec leaves a choice it rests on the model's, log 57 and 58. Commands that these clauses say
complete, each with a next state of its own effect: connect, disconnect, babble, chirpK, portResetEnd, resumeEnd, l1ExitEnd, lpmAnswer,
remoteWake. -/
def Obligations.Usb2PortFollowsItsDevice : Prop :=
  (∀ (p : Port) (low : Bool) (s : State), s.portUp p = true → s.u2St p = 2 → s.u2Barred p = false → s.curOwner p ≠ 0 → ∃ t, exec (.connect
    p low) s = .next t ∧ t.u2St p = 3 ∧ (t.u2p p).connected = true ∧ (t.u2p p).lowSpeed = low) ∧
  (∀ (p : Port) (low : Bool) (s : State), s.curOwner p = 0 → ∃ t, exec (.connect p low) s = .next t ∧ t = s) ∧
  (∀ (p : Port) (s : State), s.portUp p = true → (s.u2p p).connected = true → 3 ≤ s.u2St p → s.u2St p ≤ 8 → ∃ t, exec (.disconnect p) s =
    .next t ∧ t.u2St p = 2 ∧ (t.u2p p).connected = false ∧ t.get (.u2p p) F.U2P_STATUS_SPEED = 0) ∧
  (∀ (p : Port) (s : State), s.portUp p = true → s.u2St p = 5 → (s.ownerCtx p).isSome = true → ∃ t, exec (.babble p) s = .next t ∧ t.u2St
    p = 3 ∧ t.get (.u2p p) F.U2P_CNT_BABBLE = min (s.get (.u2p p) F.U2P_CNT_BABBLE + 1) (2 ^ F.U2P_CNT_BABBLE.width - 1)) ∧
  (∀ (p : Port) (s : State), s.portUp p = true → s.u2St p = 4 → s.chirpAllowed p = true → (s.u2p p).lowSpeed = false → ∃ t, exec (.chirpK
    p) s = .next t ∧ t = s.u2pWith p (fun u => { u with chirped := true })) ∧
  (∀ (p : Port) (s : State), s.u2St p = 4 → ∃ t, exec (.portResetEnd (.run p)) s = .next t ∧ t.u2St p = 5 ∧ t.get (.u2p p)
    F.U2P_STATUS_SPEED = (if (s.u2p p).chirped then 3 else if (s.u2p p).lowSpeed then 1 else 2)) ∧
  (∀ (p : Port) (c : Fin 2) (s : State), (s.u2p p).rstView.getLsbD c.val = true → ∃ t, exec (.portResetEnd (.view p c)) s = .next t ∧
    (t.u2p p).rstView = (s.u2p p).rstView &&& ~~~(1#2 <<< c.val) ∧ (t.u2p p).chg[c] = (s.u2p p).chg[c] ||| cReset ∧ t.u2St p = s.u2St p) ∧
  (∀ (p : Port) (s : State), s.u2St p = 7 → (s.u2p p).fromL1 = false → ∃ t, exec (.resumeEnd p) s = .next t ∧ t.u2St p = 5) ∧
  (∀ (p : Port) (s : State), s.u2St p = 7 → (s.u2p p).fromL1 = true → ∃ t, exec (.l1ExitEnd p) s = .next t ∧ t.u2St p = 5 ∧ t.get (.u2p p)
    F.U2P_STATUS_L1_RWE = 0 ∧ (t.u2p p).fromL1 = false) ∧
  (∀ (p : Port) (hird : BitVec 4) (rwe : Bool) (s : State), (s.u2p p).lpm = some (hird, rwe) → ∃ t, exec (.lpmAnswer p .ack) s = .next t ∧
    t.u2St p = 8 ∧ t.get (.u2p p) F.U2P_STATUS_HIRD = hird.toNat ∧ t.get (.u2p p) F.U2P_STATUS_L1_RWE = bit rwe ∧ t.answer = .bytes [0]) ∧
  (∀ (p : Port) (hc : HubCtx) (s : State), s.portUp p = true → s.u2St p = 6 → s.ownerCtx p = some hc → s.ctxActive hc = true → (s.hub
    hc).suspended = false → (s.hub hc).upK = false → ∃ t, exec (.remoteWake p) s = .next t ∧ t.u2St p = 7 ∧ (t.u2p p).resumeCause = 2 ∧
    (t.u2p p).resumeSets = true)

/-- USB 2.0 hub contexts (R276, R284, R286): a reset leaves the default state, suspend and resume set and clear it, the end of a
propagated wake stops the K, and the end of `PWR_HOLD` ends the holds. The requests on a context itself are answered. Where the spec
leaves a choice it rests on the model's, log 4, 57, 58 and 59. Commands that these clauses say complete, each with a next state of its own
effect: contextReset, contextSuspend, contextResume, wakePropagationEnd, pwrHoldEnd, getHubStatus, getHubDescriptor, hubRequestError,
setInterface, deviceRemoteWakeup, statusChangePoll, setAddress, hubSetConfiguration, getDescriptor. -/
def Obligations.Usb2ContextsResetSuspendAndWake : Prop :=
  (∀ (hc : HubCtx) (hs : Bool) (s : State), s.ctxActive hc = true → s.compat = false → hc ≠ .pres 0 → hc ≠ .pres 1 → ∃ t, exec
    (.contextReset hc hs) s = .next t ∧ (t.hub hc).st = 1 ∧ (t.hub hc).address = 0 ∧ (t.hub hc).suspended = false) ∧
  (∀ (u : Up) (hs : Bool) (s : State), s.ctxActive (.pres u) = true → ∃ t, exec (.contextReset (.pres u) hs) s = .next t ∧ (t.hub (.pres
    u)).st = 1 ∧ (t.hub (.pres u)).speed = (if hs then 2 else 1)) ∧
  (∀ (hc : HubCtx) (s : State), s.ctxActive hc = true → (s.hub hc).suspended = false → ∃ t, exec (.contextSuspend hc) s = .next t ∧ (t.hub
    hc).suspended = true ∧ (t.hub hc).woke = false) ∧
  (∀ (hc : HubCtx) (s : State), s.ctxActive hc = true → (s.hub hc).suspended = true → ∃ t, exec (.contextResume ⟨hc, none⟩) s = .next t ∧
    (t.hub hc).suspended = false ∧ (t.hub hc).drivesK = false) ∧
  (∀ (hc : HubCtx) (s : State), ∃ t, exec (.wakePropagationEnd hc) s = .next t ∧ (t.hub hc).drivesK = false ∧ (t.hub hc).woke = (s.hub
    hc).woke) ∧
  (∀ (hc : HubCtx) (p : Port) (s : State), p ∈ s.ctxPorts hc → ∃ t, exec (.pwrHoldEnd hc false) s = .next t ∧ (t.u2p p).hold2.getLsbD
    (hubSide hc).val = false) ∧
  (∀ (hc : HubCtx) (s : State), s.ctxHears hc = true → ∃ t, exec (.getHubStatus (.hub (.usb2 hc))) s = .next t ∧ t = s.reply (.bytes [0,
    0, 0, 0])) ∧
  (∀ (hc : HubCtx) (s : State), s.ctxHears hc = true → ∃ t, exec (.getHubStatus (.std (.hub hc) .status false)) s = .next t ∧ t.answer =
    .bytes (statusBytes [s.hubSelf hc, (s.hub hc).remoteWake])) ∧
  (∀ (hc : HubCtx) (s : State), s.ctxHears hc = true → ∃ t, exec (.getHubDescriptor (.usb2 hc)) s = .next t ∧ t.answer = .bytes
    (s.hubDescriptor hc).1) ∧
  (∀ (hc : HubCtx) (s : State), s.ctxHears hc = true → ∃ t, exec (.hubRequestError (.other (.usb2 hc))) s = .next t ∧ t = s.reply .stall) ∧
  (∀ (hc : HubCtx) (sel : Nat) (s : State), s.ctxHears hc = true → sel ≤ 1 → ∃ t, exec (.hubRequestError (.clearHubFeature (.usb2 hc)
    sel)) s = .next t ∧ t = s.reply .ack) ∧
  (∀ (hc : HubCtx) (alt : Nat) (s : State), s.ctxHears hc = true → (s.hub hc).st = 3 → s.offersMtt hc = true → alt ≤ 1 → ∃ t, exec
    (.setInterface hc alt) s = .next t ∧ t.answer = .ack ∧ (t.hub hc).multiTt = (alt == 1)) ∧
  (∀ (hc : HubCtx) (b : Bool) (s : State), s.ctxHears hc = true → ∃ t, exec (.deviceRemoteWakeup (.hub hc) b) s = .next t ∧ t.answer =
    .ack ∧ (t.hub hc).remoteWake = b) ∧
  (∀ (hc : HubCtx) (s : State), s.ctxHears hc = true → (s.hub hc).st = 3 → (∀ i, i ≤ s.hubPorts hc → (s.viewOf hc i).2 = 0) → ∃ t, exec
    (.statusChangePoll (.usb2 hc)) s = .next t ∧ t = s.reply .nak) ∧
  (∀ (hc : HubCtx) (i : Nat) (s : State), s.ctxHears hc = true → (s.hub hc).st = 3 → 1 ≤ i → i ≤ s.hubPorts hc → (s.viewOf hc i).2 ≠ 0 → ∃
    t, exec (.statusChangePoll (.usb2 hc)) s = .next t ∧ t = s.reply (.bytes (leBytes (s.hubPorts hc / 8 + 1) (changeMap (s.hubPorts hc)
    (fun j => (s.viewOf hc j).2 != 0)))) ∧ (changeMap (s.hubPorts hc) (fun j => (s.viewOf hc j).2 != 0)).testBit i = true) ∧
  (∀ (hc : HubCtx) (addr : BitVec 7) (s : State), s.ctxHears hc = true → (s.hub hc).st ≠ 3 → ∃ t, exec (.setAddress (.hub hc) addr) s =
    .next t ∧ t.answer = .ack ∧ (t.hub hc).address = addr ∧ (t.hub hc).st = (if addr = 0 then 1 else 2)) ∧
  (∀ (hc : HubCtx) (cfg : Nat) (s : State), s.ctxHears hc = true → 2 ≤ (s.hub hc).st.val → cfg ≤ 1 → ∃ t, exec (.hubSetConfiguration (.hub
    hc) cfg) s = .next t ∧ t.answer = .ack ∧ (t.hub hc).st = (if cfg = 0 then 2 else 3)) ∧
  (∀ (hc : HubCtx) (desc : DescId) (lang : BitVec 16) (len : Nat) (pe : Bool) (s : State), s.ctxHears hc = true → s.hubDesc hc
    desc.kind.toNat desc.idx.toNat lang.toNat = none → ∃ t, exec (.getDescriptor (.hub hc) desc lang len pe) s = .next t ∧ t.answer =
    .stall) ∧
  (∀ (hc : HubCtx) (desc : DescId) (lang : BitVec 16) (len : Nat) (pe : Bool) (d : List Byte) (s : State), s.ctxHears hc = true →
    s.hubDesc hc desc.kind.toNat desc.idx.toNat lang.toNat = some d → ∃ t, exec (.getDescriptor (.hub hc) desc lang len pe) s = .next t
    ∧ t.answer = .bytes (d.take len))

/-- Hub-class requests that name a port (R268, R274, R275, R285–R291): what each does to an owned port, and that a port outside the
context is a request error. Where the spec leaves a choice it rests on the model's, log 57, 59 and 60. Commands that these clauses say
complete, each with a next state of its own effect: setPortReset, setPortSuspend, clearPortSuspend, clearPortEnable, setPortPower,
clearPortPower, setPortTest, setAndTestPortL1, clearPortL1, clearChangeBit, getPortStatus. -/
def Obligations.Usb2PortRequestsAreAnswered : Prop :=
  (∀ (hc : HubCtx) (n : Nat) (p : Port) (s : State), s.ctxHears hc = true → s.hubPort hc n = some p → n ≤ s.hubPorts hc → s.ownsPort hc p
    = true → (s.vbs p).tripFresh = false → s.u2St p = 5 → s.u2Barred p = false → ∃ t, exec (.setPortReset hc n) s = .next t ∧ t.u2St p =
    4 ∧ t.answer = .ack ∧ (t.u2p p).chirped = false) ∧
  (∀ (hc : HubCtx) (n : Nat) (p : Port) (s : State), s.ctxHears hc = true → s.hubPort hc n = some p → n ≤ s.hubPorts hc → s.ownsPort hc p
    = true → (s.vbs p).tripFresh = false → s.u2St p = 5 → ∃ t, exec (.setPortSuspend hc n) s = .next t ∧ t.u2St p = 6 ∧ t.answer = .ack) ∧
  (∀ (hc : HubCtx) (n : Nat) (p : Port) (s : State), s.ctxHears hc = true → s.hubPort hc n = some p → n ≤ s.hubPorts hc → s.ownsPort hc p
    = true → (s.vbs p).tripFresh = false → s.u2St p = 6 → ∃ t, exec (.clearPortSuspend hc n) s = .next t ∧ t.u2St p = 7 ∧ (t.u2p
    p).resumeCause = 1 ∧ t.answer = .ack) ∧
  (∀ (hc : HubCtx) (n : Nat) (p : Port) (s : State), s.ctxHears hc = true → s.hubPort hc n = some p → n ≤ s.hubPorts hc → s.ownsPort hc p
    = true → (s.vbs p).tripFresh = false → 4 ≤ s.u2St p → s.u2St p ≤ 8 → ∃ t, exec (.clearPortEnable hc n) s = .next t ∧ t.u2St p = 3 ∧
    t.get (.u2p p) F.U2P_STATUS_SPEED = s.get (.u2p p) F.U2P_STATUS_SPEED ∧ t.answer = .ack) ∧
  (∀ (hc : HubCtx) (n : Nat) (p : Port) (s : State), s.ctxHears hc = true → s.hubPort hc n = some p → n ≤ s.hubPorts hc → s.ownsPort hc p
    = true → (s.vbs p).tripFresh = false → s.compat = false → ∃ t, exec (.setPortPower hc n) s = .next t ∧ t.powerBit p (hubSide hc) =
    true ∧ t.answer = .ack) ∧
  (∀ (hc : HubCtx) (n : Nat) (p : Port) (s : State), s.ctxHears hc = true → s.hubPort hc n = some p → n ≤ s.hubPorts hc → s.ownsPort hc p
    = true → (s.vbs p).tripFresh = false → s.compat = false → ∃ t, exec (.clearPortPower hc n) s = .next t ∧ t.powerBit p (hubSide hc) =
    false ∧ t.answer = .ack) ∧
  (∀ (hc : HubCtx) (n : Nat) (p : Port) (sel : Nat) (s : State), s.ctxHears hc = true → s.hubPort hc n = some p → n ≤ s.hubPorts hc →
    s.ownsPort hc p = true → (s.vbs p).tripFresh = false → (s.hub hc).st = 3 → (s.u2St p = 2 ∨ s.u2St p = 3 ∨ s.u2St p = 6) → 1 ≤ sel →
    sel ≤ 5 → ∃ t, exec (.setPortTest hc n sel) s = .next t ∧ t.u2St p = 9 ∧ t.get (.u2p p) F.U2P_STATUS_TEST_MODE = sel ∧ t.answer =
    .ack) ∧
  (∀ (hc : HubCtx) (n : Nat) (p : Port) (a : BitVec 7) (hird : BitVec 4) (rwe : Bool) (s : State), s.ctxHears hc = true → s.hubPort hc n =
    some p → n ≤ s.hubPorts hc → s.ownsPort hc p = true → (s.vbs p).tripFresh = false → s.u2St p = 5 → 2 ≤ s.get (.u2p p)
    F.U2P_STATUS_SPEED → s.l1On p = true → ∃ t, exec (.setAndTestPortL1 hc n a hird rwe) s = .next t ∧ t.answer = .waits ∧ (t.u2p p).lpm
    = some (hird, rwe)) ∧
  (∀ (hc : HubCtx) (n : Nat) (p : Port) (s : State), s.ctxHears hc = true → s.hubPort hc n = some p → n ≤ s.hubPorts hc → s.ownsPort hc p
    = true → (s.vbs p).tripFresh = false → s.u2St p = 8 → ∃ t, exec (.clearPortL1 hc n) s = .next t ∧ t.u2St p = 7 ∧ (t.u2p p).fromL1 =
    true ∧ t.answer = .ack) ∧
  (∀ (hc : HubCtx) (n : Nat) (p : Port) (sel : Nat) (s : State), s.ctxHears hc = true → s.hubPort hc n = some p → n ≤ s.hubPorts hc →
    s.ownsPort hc p = true → (s.vbs p).tripFresh = false → 16 ≤ sel → sel ≤ 20 → ∃ t, exec (.clearChangeBit hc n sel) s = .next t ∧
    t.answer = .ack ∧ (t.u2p p).chg[(hubSide hc).val].getLsbD (sel - 16) = false) ∧
  (∀ (hc : HubCtx) (n : Nat) (p : Port) (s : State), s.ctxHears hc = true → s.hubPort hc n = some p → n ≤ s.hubPorts hc → s.ownsPort hc p
    = true → (s.vbs p).tripFresh = false → ∃ t, exec (.getPortStatus hc n) s = .next t ∧ t = s.reply (.bytes (leBytes 2 (s.portStatus p
    (hubSide hc)) ++ leBytes 2 ((s.u2p p).chg[(hubSide hc).val]).toNat))) ∧
  (∀ (hc : HubCtx) (n : Nat) (s : State), s.ctxHears hc = true → (n = 0 ∨ s.hubPorts hc < n) → ∃ t, exec (.setPortReset hc n) s = .next t
    ∧ t = s.reply .stall) ∧
  (∀ (hc : HubCtx) (n : Nat) (p : Port) (s : State), s.ctxHears hc = true → s.hubPort hc n = some p → n ≤ s.hubPorts hc → s.ownsPort hc p
    = true → (s.vbs p).tripFresh = true → ∃ t, exec (.setPortTest hc n 0) s = .next t ∧ t = s.free.2.reply (if s.free.1.getLsbD 0 then
    .ack else .stall))

/-- Transaction translators (R279–R282, R289): a non-periodic start-split takes a buffer while one is free and is NAKed when none is; the
transaction's end leaves its result, which a complete-split takes; stale and expired entries go; and the TT requests. Where the spec
leaves a choice it rests on the model's, log 4 and 63. Commands that these clauses say complete, each with a next state of its own effect:
startSplit, completeSplit, ttTransactionEnd, ttStale, ttResultExpire, clearTtBuffer, resetTt, stopTt, highSpeedPacket. -/
def Obligations.TransactionTranslatorsServeSplits : Prop :=
  (∀ (hc : HubCtx) (n : Nat) (p : Port) (sp : Split) (s : State), s.ctxHears hc = true → s.hubPort hc n = some p → n ≤ s.hubPorts hc →
    s.ownsPort hc p = true → (s.hub hc).speed = 2 → n ≠ 0 → periodic sp.ty = false → s.flag (.u2p (s.ttPort p)) F.U2P_TT_STATUS_STOPPED
    = false → s.splitPort p true = true → (s.u2p (s.ttPort p)).freeBuf.isSome = true → ∃ t, exec (.startSplit hc n sp) s = .next t ∧
    t.answer = .ack ∧ (t.u2p (s.ttPort p)).nonper.length = (s.u2p (s.ttPort p)).nonper.length + 1 ∧ (t.u2p (s.ttPort
    p)).nonper.getLast?.map (·.2) = some ⟨p, sp, false, none, false⟩) ∧
  (∀ (hc : HubCtx) (n : Nat) (p : Port) (sp : Split) (s : State), s.ctxHears hc = true → s.hubPort hc n = some p → n ≤ s.hubPorts hc →
    s.ownsPort hc p = true → (s.hub hc).speed = 2 → n ≠ 0 → periodic sp.ty = false → s.splitPort p true = true → (s.u2p (s.ttPort
    p)).freeBuf = none → ∃ t, exec (.startSplit hc n sp) s = .next t ∧ t = s.reply .nak) ∧
  (∀ (hc : HubCtx) (n : Nat) (p : Port) (sp : Split) (e : TtEntry) (r : TtResult) (a : Answer) (s : State), s.ctxHears hc = true →
    s.hubPort hc n = some p → n ≤ s.hubPorts hc → s.ownsPort hc p = true → (s.hub hc).speed = 2 → n ≠ 0 → periodic sp.ty = false →
    ((s.u2p (s.ttPort p)).nonper.find? (fun x => x.2.is p sp)).map (·.2) = some e → e.dropped = false → e.result = some r → resultAnswer
    r = some a → ∃ t, exec (.completeSplit hc n sp) s = .next t ∧ t.answer = a) ∧
  (∀ (hc : HubCtx) (n : Nat) (p : Port) (sp : Split) (s : State), s.ctxHears hc = true → s.hubPort hc n = some p → n ≤ s.hubPorts hc →
    s.ownsPort hc p = true → (s.hub hc).speed = 2 → n ≠ 0 → periodic sp.ty = false → (s.u2p (s.ttPort p)).nonper = [] → ∃ t, exec
    (.completeSplit hc n sp) s = .next t ∧ t.answer = .stall ∧ t.get (.u2p p) F.U2P_CNT_TT_ERR = min (s.get (.u2p p) F.U2P_CNT_TT_ERR +
    1) (2 ^ F.U2P_CNT_TT_ERR.width - 1)) ∧
  (∀ (p : Port) (b : Fin 4) (e : TtEntry) (rest : List (Fin 4 × TtEntry)) (fin : TtDone) (s : State), fin.per = false → (s.u2p (s.ttPort
    p)).nonper = (b, e) :: rest → ttWaits (s.flag (.u2p (s.ttPort p)) F.U2P_TT_STATUS_STOPPED) e = true → ∃ t, exec (.ttTransactionEnd p
    fin) s = .next t ∧ (t.u2p (s.ttPort p)).nonper = (b, { e with begun := true, result := some fin.res }) :: rest ∧ (t.u2p (s.ttPort
    p)).periodic = (s.u2p (s.ttPort p)).periodic) ∧
  (∀ (p : Port) (e : TtEntry) (rest : List TtEntry) (fin : TtDone) (s : State), fin.per = true → (s.u2p (s.ttPort p)).periodic = e :: rest
    → ttWaits (s.flag (.u2p (s.ttPort p)) F.U2P_TT_STATUS_STOPPED) e = true → e.split.inDir = false → ∃ t, exec (.ttTransactionEnd p
    fin) s = .next t ∧ (t.u2p (s.ttPort p)).periodic = (if e.split.ty = .iso then rest else
    { e with begun := true, result := some fin.res } :: rest) ∧ (t.u2p (s.ttPort p)).nonper = (s.u2p (s.ttPort p)).nonper) ∧
  (∀ (p : Port) (e : TtEntry) (rest : List TtEntry) (at_ : TtAt) (s : State), (s.u2p (s.ttPort at_.port)).periodic = e :: rest → e.result
    = none → e.dropped = false → e.begun = false → e.split.inDir = true → at_.onBus = false → e.port = p → ∃ t, exec (.ttStale at_) s =
    .next t ∧ (t.u2p (s.ttPort at_.port)).periodic = { e with dropped := true } :: rest ∧ t.get (.u2p p) F.U2P_CNT_TT_STALE = min (s.get
    (.u2p p) F.U2P_CNT_TT_STALE + 1) (2 ^ F.U2P_CNT_TT_STALE.width - 1)) ∧
  (∀ (p : Port) (e : TtEntry) (rest : List TtEntry) (s : State), (s.u2p (s.ttPort p)).periodic = e :: rest → e.result.isSome = true → ∃ t,
    exec (.ttResultExpire p) s = .next t ∧ (t.u2p (s.ttPort p)).periodic = rest) ∧
  (∀ (hc : HubCtx) (n : Nat) (p : Port) (dev : BitVec 7) (ep : BitVec 4) (ty : XferType) (dir : Bool) (s : State), s.ctxHears hc = true →
    s.hubPort hc n = some p → n ≤ s.hubPorts hc → s.ownsPort hc p = true → ∃ t, exec (.clearTtBuffer hc n dev ep ty dir) s = .next t ∧
    t.answer = .ack ∧ (∀ x ∈ (t.u2p (s.ttPort p)).nonper, ¬ (x.2.split.dev = dev ∧ x.2.split.ep = ep ∧ x.2.split.ty = ty ∧
    x.2.split.inDir = dir))) ∧
  (∀ (hc : HubCtx) (n : Nat) (p : Port) (s : State), s.ctxHears hc = true → s.hubPort hc n = some p → n ≤ s.hubPorts hc → s.ownsPort hc p
    = true → ∃ t, exec (.resetTt hc n) s = .next t ∧ t.answer = .ack ∧ (t.u2p (s.ttPort p)).nonper = [] ∧ (t.u2p (s.ttPort p)).periodic
    = [] ∧ t.get (.u2p (s.ttPort p)) F.U2P_TT_STATUS_STOPPED = 0) ∧
  (∀ (hc : HubCtx) (n : Nat) (p : Port) (s : State), s.ctxHears hc = true → s.hubPort hc n = some p → n ≤ s.hubPorts hc → s.ownsPort hc p
    = true → ∃ t, exec (.stopTt hc n) s = .next t ∧ t.answer = .ack ∧ t.get (.u2p (s.ttPort p)) F.U2P_TT_STATUS_STOPPED = 1) ∧
  (∀ (hc : HubCtx) (n : Nat) (s : State), s.ctxHears hc = true → (s.hub hc).speed = 2 → ∃ t, exec (.highSpeedPacket (.down hc n)) s =
    .next t ∧ t.answer = .repeated (s.reached hc s.repeatsTo) none) ∧
  (∀ (p : Port) (hc : HubCtx) (n : Nat) (s : State), s.ownerCtx p = some hc → s.ctxHears hc = true → s.repeatsUp hc p = true → ∃ t, exec
    (.highSpeedPacket (.up p n)) s = .next t ∧ t = (s.countU2 (plateOf p) n).reply (.repeated [] (some hc))) ∧
  (∀ (hc : HubCtx) (pre : Bool) (n : Nat) (s : State), s.ctxHears hc = true → (s.hub hc).speed = 1 → ∃ t, exec (.highSpeedPacket
    (.fullDown hc pre n)) s = .next t ∧ t.answer = .repeated (s.reached hc (fun h => s.repeatsFull h pre)) none) ∧
  (∀ (hc : HubCtx) (s : State), s.ctxHears hc = true → ∃ t, exec (.highSpeedPacket (.lpm (.hub hc))) s = .next t ∧ t = s.reply .stall)

/-- Downstream and upstream SuperSpeed links (R301–R305, R316): a receiver found starts Polling; training ends in U0 at a speed that both
ends allow; the third failure gives SuperSpeed up with SS_FALLBACK; an error takes a running link to Recovery, and Recovery that fails to
SS.Inactive. Where the spec leaves a choice it rests on the model's, log 31 and 64. Commands that these clauses say complete, each with a
next state of its own effect: rxDetect, linkU0, pollingFail, upstreamLinkTrained, linkRecovery, ssInactive. -/
def Obligations.SuperSpeedLinksTrainAndFallBack : Prop :=
  (∀ (f : Full) (s : State), s.link f = lkRxDetect → ∃ t, exec (.rxDetect f true) s = .next t ∧ t = s.setLink f lkPolling) ∧
  (∀ (f : Full) (s : State), ∃ t, exec (.rxDetect f false) s = .next t ∧ t = s) ∧
  (∀ (f : Full) (g : Bool) (s : State), s.link f = lkPolling → (s.ssp f).reset = .none → ∃ t, exec (.linkU0 f g) s = .next t ∧ t.link f =
    lkU0 ∧ (t.ssp f).connected = true ∧ (t.ssp f).pollFails = 0 ∧ t.get (.ssp f) F.SSP_STATUS_GEN2 = bit (g && s.maxGen f == 1 &&
    !s.flag (.ssp f) F.SSP_STATUS_GEN2_BARRED)) ∧
  (∀ (f : Full) (g : Bool) (s : State), s.link f = lkRecovery → ∃ t, exec (.linkU0 f g) s = .next t ∧ t = s.setLink f lkU0) ∧
  (∀ (f : Full) (c : Fin 2) (g : Bool) (s : State), s.link f = lkU3 → (s.ssp f).exiting ≠ none → s.ssSide f = some c → ∃ t, exec (.linkU0
    f g) s = .next t ∧ t.link f = lkU0 ∧ (t.ssp f).exiting = none ∧ (t.ssp f).chg[c] = (s.ssp f).chg[c] ||| sLinkState) ∧
  (∀ (f : Full) (s : State), s.link f = lkPolling → (s.ssp f).pollFails ≤ 1 → ∃ t, exec (.pollingFail f false) s = .next t ∧ t.link f =
    lkRxDetect ∧ (t.ssp f).pollFails = (s.ssp f).pollFails + 1 ∧ t.get (.ssp f) F.SSP_CNT_POLL_FAILS = min (s.get (.ssp f)
    F.SSP_CNT_POLL_FAILS + 1) (2 ^ F.SSP_CNT_POLL_FAILS.width - 1)) ∧
  (∀ (f : Full) (s : State), s.link f = lkPolling → 2 ≤ (s.ssp f).pollFails → ∃ t, exec (.pollingFail f false) s = .next t ∧ t.link f =
    lkDisabled ∧ t.get (.ssp f) F.SSP_STATUS_SS_ONLY2 = 1 ∧ (t.ssp f).pollFails = 0) ∧
  (∀ (f : Full) (c : Fin 2) (s : State), s.link f = lkPolling → s.ssSide f = some c → ∃ t, exec (.pollingFail f true) s = .next t ∧ t.link
    f = lkDisabled ∧ t.get (.ssp f) F.SSP_STATUS_SS_ONLY2 = 1 ∧ sConfigError &&& (t.ssp f).chg[c] = sConfigError) ∧
  (∀ (u : Up) (g : Bool) (x : Bool) (s : State), (s.upState u = lkRxDetect ∨ s.upState u = lkPolling) → s.compat = false → s.presAttached
    u = true → s.flag .clk (laneFld (.up u)) = true → ∃ t, exec (.upstreamLinkTrained u (.up g x)) s = .next t ∧ t.upState u = lkU0 ∧
    t.get (.ups u) F.UPS_LINK_STATUS_X2 = bit x ∧ t.get (.ups u) F.UPS_LINK_STATUS_GEN2 = bit (g && s.upMaxGen u == 1) ∧ (t.upLk
    u).trainFails = 0) ∧
  (∀ (u : Up) (s : State), (s.upState u = lkRxDetect ∨ s.upState u = lkPolling) → s.compat = false → s.presAttached u = true → s.flag .clk
    (laneFld (.up u)) = true → (s.upLk u).trainFails ≤ 1 → ∃ t, exec (.upstreamLinkTrained u .fail) s = .next t ∧ t.upState u =
    lkRxDetect ∧ (t.upLk u).trainFails = (s.upLk u).trainFails + 1) ∧
  (∀ (u : Up) (s : State), (s.upState u = lkRxDetect ∨ s.upState u = lkPolling) → s.compat = false → s.presAttached u = true → s.flag .clk
    (laneFld (.up u)) = true → 2 ≤ (s.upLk u).trainFails → ∃ t, exec (.upstreamLinkTrained u .fail) s = .next t ∧ t.upState u =
    lkDisabled ∧ t.get (.ups u) F.UPS_LINK_STATUS_U2_ONLY = 1) ∧
  (∀ (f : Full) (a : Nat) (b : Nat) (r : Nat) (s : State), s.link f ≤ 2 → windowCount (s.ssp f).recovAt (s.ssp f).recovWindow s.second ≠
    recovLimit (s.cfg (.ssp f) F.SSP_CFG_RECOV_LIMIT) → ∃ t, exec (.linkRecovery (.down f) a ⟨b, r⟩) s = .next t ∧ t.link f = lkRecovery
    ∧ t.get (.ssp f) F.SSP_ERR_LINK_ERR = min (s.get (.ssp f) F.SSP_ERR_LINK_ERR + r + 1) (2 ^ F.SSP_ERR_LINK_ERR.width - 1) ∧ t.get
    (.ssp f) F.SSP_ERR_RECOV = min (s.get (.ssp f) F.SSP_ERR_RECOV + 1) (2 ^ F.SSP_ERR_RECOV.width - 1) ∧ (t.ssp f).recovAt = s.second ∧
    (t.ssp f).recovWindow = windowCount (s.ssp f).recovAt (s.ssp f).recovWindow s.second) ∧
  (∀ (f : Full) (a : Nat) (b : Nat) (r : Nat) (s : State), s.link f ≤ 2 → windowCount (s.ssp f).recovAt (s.ssp f).recovWindow s.second =
    recovLimit (s.cfg (.ssp f) F.SSP_CFG_RECOV_LIMIT) → s.cfgFlag (.ssp f) F.SSP_CFG_AUTO_GEN1 = true → s.flag (.ssp f)
    F.SSP_STATUS_GEN2 = true → ∃ t, exec (.linkRecovery (.down f) a ⟨b, r⟩) s = .next t ∧ t.link f = lkRxDetect ∧ t.get (.ssp f)
    F.SSP_STATUS_GEN2_BARRED = 1 ∧ t.get (.ssp f) F.SSP_STATUS_GEN2 = 0) ∧
  (∀ (u : Up) (a : Nat) (b : Nat) (r : Nat) (s : State), s.upState u ≤ 2 → ∃ t, exec (.linkRecovery (.up u) a ⟨b, r⟩) s = .next t ∧
    t.upState u = lkRecovery ∧ t.get (.ups u) F.UPS_ERR_RECOV = min (s.get (.ups u) F.UPS_ERR_RECOV + 1) (2 ^ F.UPS_ERR_RECOV.width - 1)
    ∧ t.get (.ups u) F.UPS_ERR_LINK_ERR = min (s.get (.ups u) F.UPS_ERR_LINK_ERR + r + 1) (2 ^ F.UPS_ERR_LINK_ERR.width - 1)) ∧
  (∀ (f : Full) (c : Fin 2) (s : State), s.link f = lkRecovery → s.ssSide f = some c → ∃ t, exec (.ssInactive f) s = .next t ∧ t.link f =
    lkInactive ∧ (t.ssp f).down = [] ∧ (t.ssp f).chg[c] = (s.ssp f).chg[c] ||| sLinkState)

/-- SuperSpeed resets (R307): hot with the link in U0, warm otherwise, none where the link is disabled; how each ends; and a context
reset, which leaves every context of the presentation without depth, configuration or power bits. Where the spec leaves a choice it rests
on the model's, log 64. Commands that these clauses say complete, each with a next state of its own effect: ssPortReset, bhPortReset,
ssResetEnd, ssContextReset. -/
def Obligations.SuperSpeedPortsReset : Prop :=
  (∀ (sc : SsCtx) (n : Nat) (f : Full) (s : State), s.ssHears sc = true → ssPort sc n = some f → s.ssOwns sc f = true → s.link f = lkU0 →
    ∃ t, exec (.ssPortReset sc n) s = .next t ∧ t.link f = lkHotReset ∧ (t.ssp f).reset = .hot ∧ (t.ssp f).exiting = none ∧ t.answer =
    .ack ∧ t.get (.ssp f) F.SSP_CNT_HOT_RESETS = min (s.get (.ssp f) F.SSP_CNT_HOT_RESETS + 1) (2 ^ F.SSP_CNT_HOT_RESETS.width - 1) ∧
    t.get (.ssp f) F.SSP_STATUS_FORCE_LPM = 0) ∧
  (∀ (sc : SsCtx) (n : Nat) (f : Full) (s : State), s.ssHears sc = true → ssPort sc n = some f → s.ssOwns sc f = true → s.link f ≠ lkU0 →
    s.link f ≠ lkDisabled → ∃ t, exec (.ssPortReset sc n) s = .next t ∧ t.link f = lkRxDetect ∧ (t.ssp f).reset = .warm true ∧ (t.ssp
    f).exiting = none ∧ (t.ssp f).down = [] ∧ t.answer = .ack ∧ t.get (.ssp f) F.SSP_CNT_WARM_RESETS = min (s.get (.ssp f)
    F.SSP_CNT_WARM_RESETS + 1) (2 ^ F.SSP_CNT_WARM_RESETS.width - 1)) ∧
  (∀ (sc : SsCtx) (n : Nat) (f : Full) (s : State), s.ssHears sc = true → ssPort sc n = some f → s.ssOwns sc f = true → s.link f =
    lkDisabled → ∃ t, exec (.ssPortReset sc n) s = .next t ∧ t = s.reply .ack) ∧
  (∀ (sc : SsCtx) (n : Nat) (f : Full) (s : State), s.ssHears sc = true → ssPort sc n = some f → s.ssOwns sc f = true → s.link f ≠
    lkDisabled → ∃ t, exec (.bhPortReset sc n) s = .next t ∧ t.link f = lkRxDetect ∧ (t.ssp f).reset = .warm false ∧ t.get (.ssp f)
    F.SSP_STATUS_SS_ONLY2 = 0 ∧ t.get (.ssp f) F.SSP_STATUS_GEN2_BARRED = 0 ∧ t.answer = .ack ∧ t.get (.ssp f) F.SSP_CNT_WARM_RESETS =
    min (s.get (.ssp f) F.SSP_CNT_WARM_RESETS + 1) (2 ^ F.SSP_CNT_WARM_RESETS.width - 1)) ∧
  (∀ (sc : SsCtx) (n : Nat) (f : Full) (s : State), s.ssHears sc = true → ssPort sc n = some f → s.ssOwns sc f = false → ∃ t, exec
    (.ssPortReset sc n) s = .next t ∧ t = (s.ssOwe f (ssCtxUp sc) 0).reply .ack) ∧
  (∀ (sc : SsCtx) (n : Nat) (f : Full) (s : State), s.ssHears sc = true → ssPort sc n = some f → s.ssOwns sc f = false → ∃ t, exec
    (.bhPortReset sc n) s = .next t ∧ t = (s.ssOwe f (ssCtxUp sc) 1).reply .ack) ∧
  (∀ (f : Full) (c : Fin 2) (g : Bool) (s : State), (s.ssp f).reset = .hot → s.ssSide f = some c → ∃ t, exec (.ssResetEnd f (.u0 g)) s =
    .next t ∧ t.link f = lkU0 ∧ (t.ssp f).reset = .none ∧ (t.ssp f).chg[c] = (s.ssp f).chg[c] ||| sReset) ∧
  (∀ (f : Full) (s : State), (s.ssp f).reset = .hot → ∃ t, exec (.ssResetEnd f .escalate) s = .next t ∧ t.link f = lkRxDetect ∧ (t.ssp
    f).reset = .warm true ∧ t.get (.ssp f) F.SSP_CNT_WARM_RESETS = min (s.get (.ssp f) F.SSP_CNT_WARM_RESETS + 1) (2 ^
    F.SSP_CNT_WARM_RESETS.width - 1)) ∧
  (∀ (f : Full) (b : Bool) (c : Fin 2) (g : Bool) (s : State), (s.ssp f).reset = .warm b → s.ssSide f = some c → ∃ t, exec (.ssResetEnd f
    (.u0 g)) s = .next t ∧ t.link f = lkU0 ∧ (t.ssp f).reset = .none ∧ (t.ssp f).connected = true ∧ sBhReset &&& (t.ssp f).chg[c] =
    sBhReset) ∧
  (∀ (f : Full) (b : Bool) (c : Fin 2) (s : State), (s.ssp f).reset = .warm b → s.ssSide f = some c → ∃ t, exec (.ssResetEnd f .none) s =
    .next t ∧ t.link f = lkRxDetect ∧ (t.ssp f).reset = .none ∧ (t.ssp f).connected = false ∧ sBhReset &&& (t.ssp f).chg[c] = sBhReset) ∧
  (∀ (u : Up) (w : Bool) (k : Plate) (s : State), s.compat = false → s.coreUp = true → s.presAttached u = true → s.upState u ≠ lkDisabled
    → ∃ t, exec (.ssContextReset u w) s = .next t ∧ t.upState u = (if w then lkRxDetect else lkU0) ∧ (t.ssHub (.root u)).depth = none ∧
    (t.ssHub (.root u)).st = 0 ∧ (t.ssHub (.plate k u)).depth = none ∧ (t.ssHub (.plate k u)).st = 0 ∧ (t.ssHub (.plate k u)).power = 0)

/-- SuperSpeed hub-class requests on a port that the context owns (R315): link states, power bits, time-outs, the wake mask, the hub
depth, the error count and the status; a port number outside the hub is a request error; and a port of another presentation answers
success unchanged. Where the spec leaves a choice it rests on the model's, log 62 and 65. Commands that these clauses say complete, each
with a next state of its own effect: setLinkStateU3, setLinkStateU0, setLinkStateDisabled, setLinkStateRxDetect, ssSetPortPower,
ssClearPortPower, setPortU1Timeout, setPortU2Timeout, setRemoteWakeMask, setForceLinkpmAccept, setHubDepth, getPortErrorCount,
ssGetPortStatus, ssClearChangeBit, ssPortReset. -/
def Obligations.SuperSpeedRequestsAreAnswered : Prop :=
  (∀ (sc : SsCtx) (n : Nat) (f : Full) (s : State), s.ssHears sc = true → ssPort sc n = some f → s.ssOwns sc f = true → s.link f = lkU0 →
    ∃ t, exec (.setLinkStateU3 sc n) s = .next t ∧ t.link f = lkU3 ∧ t.answer = .ack) ∧
  (∀ (sc : SsCtx) (n : Nat) (f : Full) (s : State), s.ssHears sc = true → ssPort sc n = some f → s.ssOwns sc f = true → s.link f ≠ lkU0 →
    ∃ t, exec (.setLinkStateU3 sc n) s = .next t ∧ t = s.reply .ack) ∧
  (∀ (sc : SsCtx) (n : Nat) (f : Full) (s : State), s.ssHears sc = true → ssPort sc n = some f → s.ssOwns sc f = true → s.link f = lkU3 →
    ∃ t, exec (.setLinkStateU0 sc n) s = .next t ∧ t.link f = lkU3 ∧ (t.ssp f).exiting = some true ∧ t.answer = .ack) ∧
  (∀ (sc : SsCtx) (n : Nat) (f : Full) (s : State), s.ssHears sc = true → ssPort sc n = some f → s.ssOwns sc f = true → ∃ t, exec
    (.setLinkStateDisabled sc n) s = .next t ∧ t.link f = lkDisabled ∧ (t.ssp f).hostDisabled = true ∧ t.answer = .ack) ∧
  (∀ (sc : SsCtx) (n : Nat) (f : Full) (s : State), s.ssHears sc = true → ssPort sc n = some f → s.ssOwns sc f = true → ∃ t, exec
    (.setLinkStateRxDetect sc n) s = .next t ∧ (t.ssp f).hostDisabled = false ∧ (t.ssp f).pollFails = 0 ∧ t.get (.ssp f)
    F.SSP_STATUS_SS_ONLY2 = 0 ∧ t.answer = .ack) ∧
  (∀ (sc : SsCtx) (n : Nat) (f : Full) (s : State), s.ssHears sc = true → ssPort sc n = some f → s.ssOwns sc f = true → ∃ t, exec
    (.ssSetPortPower sc n) s = .next t ∧ t.ssPowerBit f (ssCtxUp sc) = true ∧ t.answer = .ack) ∧
  (∀ (sc : SsCtx) (n : Nat) (f : Full) (s : State), s.ssHears sc = true → ssPort sc n = some f → s.ssOwns sc f = true → ∃ t, exec
    (.ssClearPortPower sc n) s = .next t ∧ t.ssPowerBit f (ssCtxUp sc) = false ∧ t.link f = lkDisabled ∧ t.answer = .ack) ∧
  (∀ (sc : SsCtx) (n : Nat) (f : Full) (v : Byte) (s : State), s.ssHears sc = true → ssPort sc n = some f → s.ssOwns sc f = true → ∃ t,
    exec (.setPortU1Timeout sc n v) s = .next t ∧ t = (s.put (.ssp f) F.SSP_STATUS_U1_TIMEOUT (if 0x80 ≤ v.toNat ∧ v.toNat ≤ 0xFE then
    0x7F else v.toNat)).reply .ack) ∧
  (∀ (sc : SsCtx) (n : Nat) (f : Full) (v : Byte) (s : State), s.ssHears sc = true → ssPort sc n = some f → s.ssOwns sc f = true → ∃ t,
    exec (.setPortU2Timeout sc n v) s = .next t ∧ t.get (.ssp f) F.SSP_STATUS_U2_TIMEOUT = v.toNat ∧ ((t.ssp f).u2Lmp = (if v = 0 ∨ v =
    0xFF then (s.ssp f).u2Lmp else some v)) ∧ t.answer = .ack) ∧
  (∀ (sc : SsCtx) (n : Nat) (f : Full) (v : Byte) (s : State), s.ssHears sc = true → ssPort sc n = some f → s.ssOwns sc f = true → ∃ t,
    exec (.setRemoteWakeMask sc n v) s = .next t ∧ t = (s.put (.ssp f) F.SSP_STATUS_WAKE_MASK (v.toNat % 8)).reply .ack) ∧
  (∀ (sc : SsCtx) (n : Nat) (f : Full) (s : State), s.ssHears sc = true → ssPort sc n = some f → s.ssOwns sc f = true → ∃ t, exec
    (.setForceLinkpmAccept sc n) s = .next t ∧ t = (s.put (.ssp f) F.SSP_STATUS_FORCE_LPM 1).reply .ack) ∧
  (∀ (sc : SsCtx) (n : Nat) (f : Full) (s : State), s.ssHears sc = true → ssPort sc n = some f → s.ssOwns sc f = false → ∃ t, exec
    (.setLinkStateU3 sc n) s = .next t ∧ t = s.reply .ack) ∧
  (∀ (sc : SsCtx) (n : Nat) (f : Full) (s : State), s.ssHears sc = true → ssPort sc n = some f → s.ssOwns sc f = false → ∃ t, exec
    (.setLinkStateU0 sc n) s = .next t ∧ t = s.reply .ack) ∧
  (∀ (sc : SsCtx) (n : Nat) (f : Full) (s : State), s.ssHears sc = true → ssPort sc n = some f → s.ssOwns sc f = false → ∃ t, exec
    (.setLinkStateDisabled sc n) s = .next t ∧ t = s.reply .ack) ∧
  (∀ (sc : SsCtx) (n : Nat) (f : Full) (s : State), s.ssHears sc = true → ssPort sc n = some f → s.ssOwns sc f = false → ∃ t, exec
    (.setLinkStateRxDetect sc n) s = .next t ∧ t = s.reply .ack) ∧
  (∀ (sc : SsCtx) (n : Nat) (f : Full) (s : State), s.ssHears sc = true → ssPort sc n = some f → s.ssOwns sc f = false → ∃ t, exec
    (.setForceLinkpmAccept sc n) s = .next t ∧ t = s.reply .ack) ∧
  (∀ (sc : SsCtx) (d : Nat) (s : State), s.ssHears sc = true → d ≤ 4 → s.noNibble sc = false → ∃ t, exec (.setHubDepth sc d) s = .next t ∧
    (t.ssHub sc).depth.map Fin.val = some d ∧ t.answer = .ack) ∧
  (∀ (sc : SsCtx) (d : Nat) (s : State), s.ssHears sc = true → 5 ≤ d → ∃ t, exec (.setHubDepth sc d) s = .next t ∧ t = s.reply .stall) ∧
  (∀ (sc : SsCtx) (d : Nat) (s : State), s.ssHears sc = true → s.noNibble sc = true → ∃ t, exec (.setHubDepth sc d) s = .next t ∧ t =
    s.reply .stall) ∧
  (∀ (sc : SsCtx) (n : Nat) (f : Full) (s : State), s.ssHears sc = true → ssPort sc n = some f → s.ssOwns sc f = true → ∃ t, exec
    (.getPortErrorCount sc n) s = .next t ∧ t = s.reply (.bytes (leBytes 2 (s.get (.ssp f) F.SSP_ERR_LINK_ERR)))) ∧
  (∀ (sc : SsCtx) (n : Nat) (f : Full) (s : State), s.ssHears sc = true → ssPort sc n = some f → s.ssOwns sc f = true → ∃ t, exec
    (.ssGetPortStatus sc n false) s = .next t ∧ t = s.reply (.bytes (leBytes 2 (s.ssStatus sc f) ++ leBytes 2 ((s.ssp f).chg[ssCtxUp
    sc]).toNat))) ∧
  (∀ (sc : SsCtx) (n : Nat) (f : Full) (s : State), s.ssHears sc = true → ssPort sc n = some f → s.ssOwns sc f = true → ∃ t, exec
    (.ssGetPortStatus sc n true) s = .next t ∧ t = s.reply (.bytes (leBytes 2 (s.ssStatus sc f) ++ leBytes 2 ((s.ssp f).chg[ssCtxUp
    sc]).toNat ++ leBytes 4 (s.get (.ssp f) F.SSP_STATUS_GEN2 * 17)))) ∧
  (∀ (sc : SsCtx) (n : Nat) (f : Full) (sel : Nat) (b : BitVec 16) (s : State), s.ssHears sc = true → ssPort sc n = some f → s.ssOwns sc f
    = true → ssChangeOf sel = some b → ∃ t, exec (.ssClearChangeBit sc n sel) s = .next t ∧ (t.ssp f).chg[ssCtxUp sc] = (s.ssp
    f).chg[ssCtxUp sc] &&& ~~~b ∧ t.answer = .ack) ∧
  (∀ (sc : SsCtx) (n : Nat) (s : State), s.ssHears sc = true → (n = 0 ∨ ssPorts sc < n) → ∃ t, exec (.ssPortReset sc n) s = .next t ∧ t =
    s.reply .stall)

/-- U1, U2 and U3 (R308–R311): idle links that may rest do, LGO_Ux is accepted or rejected, U3 and its exits, and a device's wake.
Compliance, loopback and margining on a full port (R317–R319). Where the spec leaves a choice it rests on the model's, log 64 and 66.
Commands that these clauses say complete, each with a next state of its own effect: u1Inactivity, lgoUx, ssRemoteWake, lgoU3,
upstreamExitLfps, u1U2Enable, complianceEntry, pingLfps, loopbackEntry, marginEnd. -/
def Obligations.SuperSpeedLinksRestWakeAndTest : Prop :=
  (∀ (f : Full) (b : Bool) (s : State), s.link f < (if b then lkU2 else lkU1) → s.initiates f b = true → ∃ t, exec (.u1Inactivity (.down
    f) b) s = .next t ∧ t = s.setLink f (if b then lkU2 else lkU1)) ∧
  (∀ (u : Up) (b : Bool) (s : State), s.upState u < (if b then lkU2 else lkU1) → s.upMayRest u b = true → ∃ t, exec (.u1Inactivity (.up u)
    b) s = .next t ∧ t = s.setUpState u (if b then lkU2 else lkU1)) ∧
  (∀ (f : Full) (b : Bool) (s : State), s.link f = lkU0 → s.accepts f b = true → ∃ t, exec (.lgoUx (.down f) b) s = .next t ∧ t =
    (s.setLink f (if b then lkU2 else lkU1)).reply .ack) ∧
  (∀ (f : Full) (b : Bool) (s : State), s.link f = lkU0 → s.accepts f b = false → ∃ t, exec (.lgoUx (.down f) b) s = .next t ∧ t = s.reply
    .nak) ∧
  (∀ (f : Full) (b : Bool) (s : State), s.link f = lkU0 → s.cfgFlag (.ssp f) F.SSP_CFG_LPM_ALLOW = false → ∃ t, exec (.lgoUx (.down f) b)
    s = .next t ∧ t = s.reply .nak) ∧
  (∀ (u : Up) (b : Bool) (s : State), s.upState u = lkU0 → s.upMayRest u b = false → ∃ t, exec (.lgoUx (.up u) b) s = .next t ∧ t =
    s.reply .nak) ∧
  (∀ (f : Full) (u : Up) (s : State), s.ssSide f = some u → s.link f = lkU3 → ∃ t, exec (.ssRemoteWake f) s = .next t ∧ t.link f = lkU0 ∧
    (t.ssp f).exiting = none ∧ (t.ssp f).chg[u] = (s.ssp f).chg[u] ||| sLinkState) ∧
  (∀ (u : Up) (s : State), s.upState u ≤ 2 → s.compat = false → s.presAttached u = true → ∃ t, exec (.lgoU3 u) s = .next t ∧ t.upState u =
    lkU3 ∧ (t.ssHub (.root u)).suspended = true) ∧
  (∀ (u : Up) (s : State), s.upState u = lkU3 → s.presAttached u = true → ∃ t, exec (.upstreamExitLfps ⟨u, none⟩) s = .next t ∧ t.upState
    u = lkU0 ∧ (t.upLk u).wakeExit = false ∧ (t.ssHub (.root u)).suspended = false) ∧
  (∀ (sc : SsCtx) (b : Bool) (v : Bool) (s : State), s.ssHears sc = true → ∃ t, exec (.u1U2Enable sc b v) s = .next t ∧ (t.ssHub sc).u2En
    = (if b then v else (s.ssHub sc).u2En) ∧ (t.ssHub sc).u1En = (if b then (s.ssHub sc).u1En else v) ∧ t.answer = .ack) ∧
  (∀ (f : Full) (s : State), s.link f = lkPolling → (s.ssp f).firstPoll = true → s.cfgFlag (.ssp f) F.SSP_CFG_COMPLIANCE_EN = true → ∃ t,
    exec (.complianceEntry f) s = .next t ∧ t.link f = lkCompliance ∧ (t.ssp f).pattern = 0) ∧
  (∀ (f : Full) (s : State), s.cfgFlag (.ssp f) F.SSP_CFG_COMPLIANCE_EN = false → ∃ t, exec (.complianceEntry f) s = .next t ∧ t = s) ∧
  (∀ (f : Full) (s : State), s.link f = lkCompliance → ∃ t, exec (.pingLfps f) s = .next t ∧ (t.ssp f).pattern = (s.ssp f).pattern + 1 ∧
    t.link f = lkCompliance) ∧
  (∀ (f : Full) (s : State), (s.link f = lkPolling ∨ s.link f = lkRecovery) → ∃ t, exec (.loopbackEntry f) s = .next t ∧ t.link f =
    lkLoopback ∧ (t.ssp f).connected = false ∧ (t.ssp f).down = []) ∧
  (∀ (f : Full) (e : Nat) (s : State), (s.ssp f).margining = true → ∃ t, exec (.marginEnd f e) s = .next t ∧ t.get (.ssp f)
    F.SSP_MARGIN_RES_ERRORS = min e 0xFFFFFF ∧ t.get (.ssp f) F.SSP_MARGIN_RES_STATUS = 1 ∧ t.get (.ssp f) F.SSP_MARGIN_CMD_START = 0 ∧
    (t.ssp f).margining = false)

/-- The SuperSpeed fabric (R298, R308, R312, R313): a header is decoded by the root hub's depth and queued toward a plate, decoded again
by the plate hub and queued toward its port; a packet without room waits; packets toward a dead link are discarded and counted, one toward
a link in U1 or U2 goes back deferred, and the header errors met on the way are counted (R316). Where the spec leaves a choice it rests on
the model's, log 65 and 74. Commands that these clauses say complete, each with a next state of its own effect: ssHeader, packetForward. -/
def Obligations.SuperSpeedPacketsFollowTheirRoute : Prop :=
  (∀ (hd : SsPacket) (u : Up) (d : Fin 5) (k : Plate) (s : State), hd.entry = .up u → s.compat = false → s.presAttached u = true →
    s.upState u = lkU0 → hd.itp = false → (s.ssHub (.root u)).depth = some d → routeNibble hd.route d.val = k.val + 1 → hasRoom (s.ssq
    (.rootDown u k)) { hd with errs := ⟨0, 0⟩ } = true → ∃ t, exec (.ssHeader hd) s = .next t ∧ t.ssq (.rootDown u k) = s.ssq (.rootDown
    u k) ++ [{ hd with errs := ⟨0, 0⟩ }] ∧ t.get (.ups u) F.UPS_ERR_HDR_CRC = min (s.get (.ups u) F.UPS_ERR_HDR_CRC + hd.errs.crcs) (2 ^
    F.UPS_ERR_HDR_CRC.width - 1) ∧ t.answer = .ack) ∧
  (∀ (hd : SsPacket) (u : Up) (d : Fin 5) (k : Plate) (s : State), hd.entry = .up u → s.compat = false → s.presAttached u = true →
    s.upState u = lkU0 → hd.itp = false → (s.ssHub (.root u)).depth = some d → routeNibble hd.route d.val = k.val + 1 → hasRoom (s.ssq
    (.rootDown u k)) { hd with errs := ⟨0, 0⟩ } = false → ∃ t, exec (.ssHeader hd) s = .next t ∧ t = (s.headerErrs hd).reply .waits) ∧
  (∀ (hd : SsPacket) (u : Up) (d : Fin 5) (s : State), hd.entry = .up u → s.compat = false → s.presAttached u = true → s.upState u = lkU0
    → hd.itp = false → (s.ssHub (.root u)).depth = some d → 6 ≤ routeNibble hd.route d.val → ∃ t, exec (.ssHeader hd) s = .next t ∧
    (t.ssHub (.root u)).drops = (s.ssHub (.root u)).drops + 1 ∧ t.answer = .silent) ∧
  (∀ (hd : SsPacket) (u : Up) (s : State), hd.entry = .up u → s.compat = false → s.presAttached u = true → s.upState u = lkU0 → hd.itp =
    false → (s.ssHub (.root u)).depth = none → ∃ t, exec (.ssHeader hd) s = .next t ∧ (t.ssHub (.root u)).drops = (s.ssHub (.root
    u)).drops + 1 ∧ t.answer = .silent) ∧
  (∀ (hd : SsPacket) (f : Full) (s : State), hd.entry = .down f → s.link f = lkU0 → (s.ssSide f).isSome = true → (s.ssp f).stale = false →
    hasRoom (s.ssq (.portUp f)) { hd with errs := ⟨0, 0⟩ } = true → ∃ t, exec (.ssHeader hd) s = .next t ∧ t.ssq (.portUp f) = s.ssq
    (.portUp f) ++ [{ hd with errs := ⟨0, 0⟩ }] ∧ t.get (.ssp f) F.SSP_ERR_HDR_CRC = min (s.get (.ssp f) F.SSP_ERR_HDR_CRC +
    hd.errs.crcs) (2 ^ F.SSP_ERR_HDR_CRC.width - 1) ∧ t.answer = .ack) ∧
  (∀ (hd : SsPacket) (f : Full) (s : State), hd.entry = .down f → s.link f = lkU0 → (s.ssSide f).isSome = true → (s.ssp f).stale = true →
    ∃ t, exec (.ssHeader hd) s = .next t ∧ t.ssq (.portUp f) = s.ssq (.portUp f) ∧ t.get (.ssp f) F.SSP_CNT_DISCARDS = min (s.get (.ssp
    f) F.SSP_CNT_DISCARDS + 1) (2 ^ F.SSP_CNT_DISCARDS.width - 1) ∧ t.answer = .silent) ∧
  (∀ (p : SsPacket) (rest : List SsPacket) (f : Full) (n : Nat) (s : State), s.ssq (.portDown f) = p :: rest → s.link f = lkU0 →
    s.ssHeldDown f = false → ∃ t, exec (.packetForward ⟨.portDown f, n⟩) s = .next t ∧ t.ssq (.portDown f) = rest ∧ t.get (.ssp f)
    F.SSP_ERR_LINK_ERR = min (s.get (.ssp f) F.SSP_ERR_LINK_ERR + n) (2 ^ F.SSP_ERR_LINK_ERR.width - 1)) ∧
  (∀ (p : SsPacket) (rest : List SsPacket) (f : Full) (u : Up) (n : Nat) (s : State), s.ssq (.portUp f) = p :: rest → s.ssSide f = some u
    → s.ssPlateOn (fullPlate f) u = true → s.pageOn (.ssh (fullPlate f)) = true → hasRoom (s.ssq (.rootUp u (fullPlate f))) p = true → ∃
    t, exec (.packetForward ⟨.portUp f, n⟩) s = .next t ∧ t.ssq (.portUp f) = rest ∧ t.ssq (.rootUp u (fullPlate f)) = s.ssq (.rootUp u
    (fullPlate f)) ++ [p]) ∧
  (∀ (p : SsPacket) (rest : List SsPacket) (u : Up) (k : Plate) (d : Fin 5) (f : Full) (n : Nat) (s : State), s.ssq (.rootDown u k) = p ::
    rest → s.pageOn (.ssh k) = true → s.ssPlateOn k u = true → (s.ssHub (.plate k u)).suspended = false → (s.ssHub (.plate k u)).depth =
    some d → 1 ≤ routeNibble p.route d.val → f.val + 1 = 4 * k.val + routeNibble p.route d.val → routeNibble p.route d.val ≤ 4 →
    s.ssSide f = some u → s.link f = lkU0 → hasRoom (s.ssq (.portDown f)) p = true → ∃ t, exec (.packetForward ⟨.rootDown u k, n⟩) s =
    .next t ∧ t.ssq (.rootDown u k) = rest ∧ t.ssq (.portDown f) = s.ssq (.portDown f) ++ [p]) ∧
  (∀ (p : SsPacket) (rest : List SsPacket) (u : Up) (k : Plate) (d : Fin 5) (f : Full) (n : Nat) (s : State), s.ssq (.rootDown u k) = p ::
    rest → s.pageOn (.ssh k) = true → s.ssPlateOn k u = true → (s.ssHub (.plate k u)).suspended = false → (s.ssHub (.plate k u)).depth =
    some d → 1 ≤ routeNibble p.route d.val → f.val + 1 = 4 * k.val + routeNibble p.route d.val → routeNibble p.route d.val ≤ 4 →
    s.ssSide f = some u → ssDead (s.link f) = true → ∃ t, exec (.packetForward ⟨.rootDown u k, n⟩) s = .next t ∧ t.ssq (.rootDown u k) =
    rest ∧ t.ssq (.portDown f) = s.ssq (.portDown f) ∧ t.get (.ssp f) F.SSP_CNT_DISCARDS = min (s.get (.ssp f) F.SSP_CNT_DISCARDS + 1)
    (2 ^ F.SSP_CNT_DISCARDS.width - 1)) ∧
  (∀ (p : SsPacket) (rest : List SsPacket) (u : Up) (k : Plate) (d : Fin 5) (f : Full) (n : Nat) (s : State), s.ssq (.rootDown u k) = p ::
    rest → s.pageOn (.ssh k) = true → s.ssPlateOn k u = true → (s.ssHub (.plate k u)).suspended = false → (s.ssHub (.plate k u)).depth =
    some d → 1 ≤ routeNibble p.route d.val → f.val + 1 = 4 * k.val + routeNibble p.route d.val → routeNibble p.route d.val ≤ 4 →
    s.ssSide f ≠ some u → ∃ t, exec (.packetForward ⟨.rootDown u k, n⟩) s = .next t ∧ t.ssq (.rootDown u k) = rest ∧ t.get (.ssh k)
    F.SSH_CNT_ROUTE_DROP = min (s.get (.ssh k) F.SSH_CNT_ROUTE_DROP + 1) (2 ^ F.SSH_CNT_ROUTE_DROP.width - 1)) ∧
  (∀ (p : SsPacket) (rest : List SsPacket) (u : Up) (k : Plate) (d : Fin 5) (f : Full) (n : Nat) (s : State), s.ssq (.rootDown u k) = p ::
    rest → s.pageOn (.ssh k) = true → s.ssPlateOn k u = true → (s.ssHub (.plate k u)).suspended = false → (s.ssHub (.plate k u)).depth =
    some d → 1 ≤ routeNibble p.route d.val → f.val + 1 = 4 * k.val + routeNibble p.route d.val → routeNibble p.route d.val ≤ 4 →
    s.ssSide f = some u → (s.link f = lkU1 ∨ s.link f = lkU2) → hasRoom (s.ssq (.portUp f))
    { p with entry := .down f, payload := 0, deferred := true } = true → ∃ t, exec (.packetForward ⟨.rootDown u k, n⟩) s = .next t ∧
    t.ssq (.rootDown u k) = rest ∧ t.ssq (.portUp f) = s.ssq (.portUp f) ++
    [{ p with entry := .down f, payload := 0, deferred := true }] ∧ t.link f = lkU0 ∧ t.get (.ssh k) F.SSH_CNT_DEFERRED = min (s.get
    (.ssh k) F.SSH_CNT_DEFERRED + 1) (2 ^ F.SSH_CNT_DEFERRED.width - 1)) ∧
  (∀ (p : SsPacket) (rest : List SsPacket) (u : Up) (k : Plate) (d : Fin 5) (f : Full) (n : Nat) (s : State), s.ssq (.rootDown u k) = p ::
    rest → s.pageOn (.ssh k) = true → s.ssPlateOn k u = true → (s.ssHub (.plate k u)).suspended = false → (s.ssHub (.plate k u)).depth =
    some d → 1 ≤ routeNibble p.route d.val → f.val + 1 = 4 * k.val + routeNibble p.route d.val → routeNibble p.route d.val ≤ 4 →
    s.ssSide f = some u → s.link f = lkU0 → hasRoom (s.ssq (.portDown f)) p = false → ∃ t, exec (.packetForward ⟨.rootDown u k, n⟩) s =
    .next t ∧ t = s) ∧
  (∀ (p : SsPacket) (rest : List SsPacket) (u : Up) (k : Plate) (n : Nat) (s : State), s.ssq (.rootUp u k) = p :: rest → s.upState u ≤ 2 →
    ∃ t, exec (.packetForward ⟨.rootUp u k, n⟩) s = .next t ∧ t.ssq (.rootUp u k) = rest ∧ t.upState u = lkU0 ∧ t.get (.ups u)
    F.UPS_ERR_LINK_ERR = min (s.get (.ups u) F.UPS_ERR_LINK_ERR + n) (2 ^ F.UPS_ERR_LINK_ERR.width - 1))

/-- An upstream port attaches with its orientation, Rp level and VBUS and detaches without them (R226); a presentation attaches once R135
holds; a restart keeps it off the bus until its 100 ms end (R344). Where the spec leaves a choice it rests on the model's, log 9 and 67.
Commands that these clauses say complete, each with a next state of its own effect: upstreamAttach, upstreamDetach, presAttach,
reattachEnd, sof. -/
def Obligations.PresentationsAttachAndDetach : Prop :=
  (∀ (u : Up) (o : Bool) (rp : Fin 4) (v : Nat) (s : State), s.coreUp = true → s.loaded = true → rp ≠ 0 → 40000000 ≤ adcUv10 v → ∃ t, exec
    (.upstreamAttach u o rp v) s = .next t ∧ t.get (.ups u) F.UPS_CC_STATUS_ATTACHED = 1 ∧ t.get (.ups u) F.UPS_CC_STATUS_ORIENT = bit o
    ∧ t.get (.ups u) F.UPS_CC_STATUS_ORIENT_VALID = 1 ∧ t.get (.ups u) F.UPS_CC_STATUS_RP_LVL = rp.val ∧ t.get (.ups u)
    F.UPS_CC_STATUS_VBUS = min v 4095) ∧
  (∀ (u : Up) (o : Bool) (rp : Fin 4) (v : Nat) (s : State), (rp = 0 ∨ adcUv10 v < 40000000) → ∃ t, exec (.upstreamAttach u o rp v) s =
    .next t ∧ t = s) ∧
  (∀ (u : Up) (s : State), s.flag (.ups u) F.UPS_CC_STATUS_ATTACHED = true → ∃ t, exec (.upstreamDetach u) s = .next t ∧ t.presAttached u
    = false ∧ t.get (.ups u) F.UPS_CC_STATUS_ATTACHED = 0 ∧ t.get (.ups u) F.UPS_CC_STATUS_ORIENT_VALID = 0 ∧ t.get (.ups u)
    F.UPS_CC_STATUS_RP_LVL = 0 ∧ t.get (.ups u) F.UPS_LINK_STATUS_U2_ONLY = 0 ∧ t.isLive u = false) ∧
  (∀ (u : Up) (s : State), s.mayAttach u = true → ∃ t, exec (.presAttach u) s = .next t ∧ t.presAttached u = true ∧ (t.pres u).restart = 0
    ∧ t.get .glb (fldBit F.GLB_READY_PRES_ATTACHED u.val) = 1) ∧
  (∀ (u : Up) (s : State), s.mayAttach u = false → ∃ t, exec (.presAttach u) s = .next t ∧ t = s) ∧
  (∀ (u : Up) (s : State), (s.pres u).restart = 1 → ∃ t, exec (.reattachEnd u) s = .next t ∧ t = s.presWith u (fun x =>
    { x with restart := 2 })) ∧
  (∀ (u : Up) (s : State), s.coreUp = true → s.presAttached u = true → ∃ t, exec (.sof u) s = .next t ∧ (t.pres u).sofLive = true ∧
    (t.pres u).suspEnded = false ∧ (t.hub (.pres u)).upK = false ∧ t.framesLive u = true)

/-- A presentation whose frames stop is no longer live and fails over: with no live target it is kept for later with FAILOVER bit [10],
and decided again when one becomes live (R339–R341); the delay's end returns ports (R343); and the move point gives a port its new owner
(R333). Where the spec leaves a choice it rests on the model's, log 4, 67 and 68. Commands that these clauses say complete, each with a
next state of its own effect: livenessLoss, foSuspLimitEnd, presentationLive, fbDelayEnd, movePoint. -/
def Obligations.FailoverAndFailbackMovePorts : Prop :=
  (∀ (u : Up) (s : State), (s.pres u).restart = 0 → s.suspLive u = false → ∃ t, exec (.livenessLoss u) s = .next t ∧ (t.pres u).sofLive =
    false ∧ (t.pres u).tsLive = false ∧ (t.pres u).live = false) ∧
  (∀ (u : Up) (p : Port) (s : State), (s.pres u).live = true → (s.pres u).restart = 0 → s.suspLive u = false → s.foRuns = true →
    s.presAttached (otherUp u) = true → s.isLive (otherUp u) = true → s.curOwner p = u.val + 1 → s.cfgFlag .prs (F.PRS_OWNERn_FO_EN
    p.val) = true → s.ownerBad p = false → s.moving p = false → ∃ t, exec (.livenessLoss u) s = .next t ∧ t.moving p = true ∧ t.get .prs
    (F.PRS_OWNERn_OWNER p.val) = (otherUp u).val + 1 ∧ t.moveCause[p] = 1) ∧
  (∀ (u : Up) (s : State), (s.pres u).live = true → (s.pres u).restart = 0 → s.suspLive u = false → s.foRuns = true → s.isLive (otherUp u)
    = false → ∃ t, exec (.livenessLoss u) s = .next t ∧ (t.pres u).foPending = 2) ∧
  (∀ (u : Up) (s : State), (s.pres u).live = true → (s.pres u).restart = 0 → s.framesLive u = false → s.foRuns = true → s.cfg .prs
    F.PRS_FO_CFG_FO_SUSP_LIMIT ≠ 0 → ∃ t, exec (.foSuspLimitEnd u) s = .next t ∧ (t.pres u).suspEnded = true ∧ (t.pres u).live = false) ∧
  (∀ (u : Up) (s : State), s.coreUp = true → s.isLive u = true → (s.pres (otherUp u)).foPending = 0 → ∃ t, exec (.presentationLive u) s =
    .next t ∧ t = s.presWith u (fun x => { x with live := true, foPending := 0, foDue := 0 })) ∧
  (∀ (u : Up) (p : Port) (s : State), s.coreUp = true → s.presAttached u = true → s.isLive u = true → (s.pres (otherUp u)).foPending ≠ 0 →
    s.isLive (otherUp u) = false → s.foRuns = true → s.curOwner p = (otherUp u).val + 1 → s.cfgFlag .prs (F.PRS_OWNERn_FO_EN p.val) =
    true → s.ownerBad p = false → s.moving p = false → ∃ t, exec (.presentationLive u) s = .next t ∧ (t.pres u).live = true ∧ (t.pres
    (otherUp u)).foPending = 0 ∧ t.moving p = true ∧ t.moveCause[p] = 1) ∧
  (∀ (u : Up) (p : Port) (s : State), s.coreUp = true → s.compat = false → s.foRuns = true → s.fbMode = 1 → s.framesLive u = true → (s.hub
    (.pres u)).st = 3 → s.failedTo u p = true → s.moving p = false → ∃ t, exec (.fbDelayEnd u) s = .next t ∧ t.moving p = true ∧
    t.moveCause[p] = 2 ∧ t.get .prs (F.PRS_OWNERn_OWNER p.val) = u.val + 1) ∧
  (∀ (u : Up) (s : State), s.compat = false → s.coreUp = true → s.framesLive u = true → (s.hub (.pres u)).st = 3 → s.fbMode = 0 → ∃ t,
    exec (.fbDelayEnd u) s = .next t ∧ t = s.presWith u (fun x => { x with fbMet := true })) ∧
  (∀ (u : Up) (s : State), s.framesLive u = false → ∃ t, exec (.fbDelayEnd u) s = .next t ∧ t = s) ∧
  (∀ (p : Port) (s : State), s.coreUp = true → s.moving p = true → s.moveBegun.getLsbD p.val = true → s.ownerBad p = false → ∃ t, exec
    (.movePoint p) s = .next t ∧ t.curOwner p = s.ownerDest p ∧ t.moving p = false ∧ t.get .prs (F.PRS_OWNERn_FAILED_OVER p.val) = bit
    (s.moveCause[p] == 1) ∧ t.get .prs F.PRS_CNT_MOVES = min (s.get .prs F.PRS_CNT_MOVES + 1) (2 ^ F.PRS_CNT_MOVES.width - 1)) ∧
  (∀ (p : Port) (s : State), s.moveBegun.getLsbD p.val = false → ∃ t, exec (.movePoint p) s = .next t ∧ t = s) ∧
  (∀ (p : Port) (s : State), s.moving p = false → ∃ t, exec (.movePoint p) s = .next t ∧ t = s)

/-- Vendor requests (R353–R359): a register or DRAM request begins at SETUP or at its last data byte and waits; GET_RESULT and REPLAY
answer from the stores without an access; a request in another form or to the instance not in service is a STALL, one while another
executes a NAK or NRDY; at VENDOR_REQUEST_DONE a DRAM request moves its bytes, the stores take the outcome and a refused write is a STALL.
Where the spec leaves a choice it rests on the model's, log 69 and 87. Commands that these clauses say complete, each with a next state of
its own effect: regRead, regWrite, getResult, vendorReplay, dramRead, dramWrite, vendorRequestDone. -/
def Obligations.VendorRequestsExecuteOnce : Prop :=
  (∀ (fi : FnInst) (value : BitVec 16) (index : BitVec 16) (len : Nat) (s : State), s.fnHears fi.up fi.ss = true → s.ssServes fi.up =
    fi.ss → ((s.mgf fi.up).inst fi.ss).suspended = false → ((s.mgf fi.up).inst fi.ss).st = 2 → s.pageOn .mgf = true → (s.mgf fi.up).exec
    = none → regLen value index len = true → ∃ t, exec (.regRead fi value index len) s = .next t ∧ t = (((s.vendorBegin fi.up 1 (4 *
    (regWaddr value index).toNat) len []).startRun (regRun fi.up false value index (List.replicate (len / 8) ⟨0xF, 0⟩) none) false
    0).reply .waits) ∧ t.answer = .waits) ∧
  (∀ (fi : FnInst) (value : BitVec 16) (index : BitVec 16) (len : Nat) (s : State), s.fnHears fi.up fi.ss = true → s.ssServes fi.up =
    fi.ss → ((s.mgf fi.up).inst fi.ss).suspended = false → ((s.mgf fi.up).inst fi.ss).st = 2 → s.pageOn .mgf = true → (s.mgf fi.up).exec
    = none → regLen value index len = false → ∃ t, exec (.regRead fi value index len) s = .next t ∧ t.answer = .stall ∧ (t.mgf
    fi.up).exec = none ∧ t.get .mgf (F.MGF_Uu_CNT_STALLS fi.up.val) = min (s.get .mgf (F.MGF_Uu_CNT_STALLS fi.up.val) + 1) (2 ^
    (F.MGF_Uu_CNT_STALLS fi.up.val).width - 1)) ∧
  (∀ (fi : FnInst) (value : BitVec 16) (index : BitVec 16) (e : List Byte) (s : State), s.fnHears fi.up fi.ss = true → s.ssServes fi.up =
    fi.ss → ((s.mgf fi.up).inst fi.ss).suspended = false → ((s.mgf fi.up).inst fi.ss).st = 2 → s.pageOn .mgf = true → (s.mgf fi.up).exec
    = none → regLen value index e.length = true → regClean e = true → ∃ t, exec (.regWrite fi value index e false) s = .next t ∧
    t.answer = .waits ∧ t = ((((s.epmPut (epmBase fi.up + epmEp0) e).vendorBegin fi.up 2 (4 * (regWaddr value index).toNat) e.length
    []).startRun (regRun fi.up true value index (regEntries e) none) false 0).reply .waits)) ∧
  (∀ (fi : FnInst) (value : BitVec 16) (index : BitVec 16) (e : List Byte) (s : State), s.fnHears fi.up fi.ss = true → s.ssServes fi.up =
    fi.ss → ((s.mgf fi.up).inst fi.ss).suspended = false → ((s.mgf fi.up).inst fi.ss).st = 2 → s.pageOn .mgf = true → (s.mgf fi.up).exec
    = none → regLen value index e.length = true → regClean e = false → ∃ t, exec (.regWrite fi value index e false) s = .next t ∧
    t.answer = .waits ∧ t.runs = s.runs ∧ (t.mgf fi.up).exec.map (fun x => (x.refused, x.finished)) = some (true, true)) ∧
  (∀ (fi : FnInst) (rq : StoreReq) (s : State), s.fnHears fi.up fi.ss = true → s.ssServes fi.up = fi.ss → ((s.mgf fi.up).inst
    fi.ss).suspended = false → ((s.mgf fi.up).inst fi.ss).st = 2 → s.pageOn .mgf = true → (s.mgf fi.up).exec = none → storePlain rq =
    true → 1 ≤ rq.len → rq.len ≤ 68 → ∃ t, exec (.getResult fi rq false) s = .next t ∧ t.answer = .bytes ((if (s.mgf fi.up).result = []
    then [0, 0, hostOwner fi.up, 0] else (s.mgf fi.up).result).take rq.len) ∧ (t.mgf fi.up).result = (s.mgf fi.up).result ∧ t.get .mgf
    (F.MGF_Uu_CNT_VENDOR_REQS fi.up.val) = min (s.get .mgf (F.MGF_Uu_CNT_VENDOR_REQS fi.up.val) + 1) (2 ^ (F.MGF_Uu_CNT_VENDOR_REQS
    fi.up.val).width - 1)) ∧
  (∀ (fi : FnInst) (rq : StoreReq) (s : State), s.fnHears fi.up fi.ss = true → s.ssServes fi.up = fi.ss → ((s.mgf fi.up).inst
    fi.ss).suspended = false → ((s.mgf fi.up).inst fi.ss).st = 2 → s.pageOn .mgf = true → (s.mgf fi.up).exec = none → (storePlain rq =
    false ∨ rq.len = 0 ∨ 68 < rq.len) → ∃ t, exec (.getResult fi rq false) s = .next t ∧ t.answer = .stall ∧ t.get .mgf
    (F.MGF_Uu_CNT_STALLS fi.up.val) = min (s.get .mgf (F.MGF_Uu_CNT_STALLS fi.up.val) + 1) (2 ^ (F.MGF_Uu_CNT_STALLS fi.up.val).width -
    1)) ∧
  (∀ (fi : FnInst) (rq : StoreReq) (s : State), s.fnHears fi.up fi.ss = true → s.ssServes fi.up = fi.ss → ((s.mgf fi.up).inst
    fi.ss).suspended = false → ((s.mgf fi.up).inst fi.ss).st = 2 → s.pageOn .mgf = true → (s.mgf fi.up).exec = none → storePlain rq =
    true → 1 ≤ rq.len → rq.len ≤ 512 → ∃ t, exec (.vendorReplay fi rq false) s = .next t ∧ t.answer = .bytes ((s.mgf fi.up).replay.take
    rq.len) ∧ (t.mgf fi.up).replay = (s.mgf fi.up).replay ∧ t.get .mgf (F.MGF_Uu_CNT_VENDOR_REQS fi.up.val) = min (s.get .mgf
    (F.MGF_Uu_CNT_VENDOR_REQS fi.up.val) + 1) (2 ^ (F.MGF_Uu_CNT_VENDOR_REQS fi.up.val).width - 1)) ∧
  (∀ (fi : FnInst) (a : BitVec 32) (len : Nat) (s : State), s.fnHears fi.up fi.ss = true → s.ssServes fi.up = fi.ss → ((s.mgf fi.up).inst
    fi.ss).suspended = false → ((s.mgf fi.up).inst fi.ss).st = 2 → s.pageOn .mgf = true → (s.mgf fi.up).exec = none → dramLen len = true
    → ∃ t, exec (.dramRead fi a len) s = .next t ∧ t = ((s.vendorBegin fi.up 5 (4 * a.toNat) len []).reply .waits) ∧ t.answer = .waits) ∧
  (∀ (fi : FnInst) (a : BitVec 32) (d : List Byte) (s : State), s.fnHears fi.up fi.ss = true → s.ssServes fi.up = fi.ss → ((s.mgf
    fi.up).inst fi.ss).suspended = false → ((s.mgf fi.up).inst fi.ss).st = 2 → s.pageOn .mgf = true → (s.mgf fi.up).exec = none →
    dramLen d.length = true → ∃ t, exec (.dramWrite fi a d false) s = .next t ∧ t = ((((s.epmPut (epmBase fi.up + epmEp0) d).vendorBegin
    fi.up 6 (4 * a.toNat) d.length d)).reply .waits) ∧ t.answer = .waits) ∧
  (∀ (fi : FnInst) (value : BitVec 16) (s : State), s.fnHears fi.up fi.ss = true → s.ssServes fi.up = fi.ss → ((s.mgf fi.up).inst
    fi.ss).suspended = false → ((s.mgf fi.up).inst fi.ss).st = 2 → s.pageOn .mgf = true → (s.mgf fi.up).exec ≠ none → ∃ t, exec
    (.regRead fi value 0 8) s = .next t ∧ t = s.epBusy fi 0 ∧ t.answer = (if fi.ss then .nrdy else .nak)) ∧
  (∀ (fi : FnInst) (s : State), s.fnHears fi.up fi.ss = true → s.ssServes fi.up = fi.ss → ((s.mgf fi.up).inst fi.ss).suspended = false →
    ((s.mgf fi.up).inst fi.ss).st = 2 → s.pageOn .mgf = true → (s.mgf fi.up).exec ≠ none → ∃ t, exec (.dramRead fi 4 8) s = .next t ∧ t
    = s.epBusy fi 0 ∧ t.answer = (if fi.ss then .nrdy else .nak)) ∧
  (∀ (fi : FnInst) (s : State), s.fnHears fi.up fi.ss = true → s.ssServes fi.up = fi.ss → ((s.mgf fi.up).inst fi.ss).suspended = false →
    ((s.mgf fi.up).inst fi.ss).st = 2 → s.pageOn .mgf = true → (s.mgf fi.up).exec ≠ none → ∃ t, exec (.getResult fi ⟨0, 0, 4⟩ false) s =
    .next t ∧ t = s.epBusy fi 0 ∧ t.answer = (if fi.ss then .nrdy else .nak)) ∧
  (∀ (fi : FnInst) (s : State), s.fnHears fi.up fi.ss = true → s.ssServes fi.up = fi.ss → ((s.mgf fi.up).inst fi.ss).suspended = false →
    ((s.mgf fi.up).inst fi.ss).st = 2 → s.pageOn .mgf = true → (s.mgf fi.up).exec ≠ none → ∃ t, exec (.vendorReplay fi ⟨0, 0, 4⟩ false)
    s = .next t ∧ t = s.epBusy fi 0 ∧ t.answer = (if fi.ss then .nrdy else .nak)) ∧
  (∀ (u : Up) (e : VendorExec) (s : State), (s.mgf u).exec = some e → e.finished = true → e.lost = false → e.refused = false → (e.breq = 1
    ∨ e.breq = 5) → ∃ t, exec (.vendorRequestDone u false) s = .next t ∧ (t.mgf u).exec = none ∧ (t.mgf u).replay = e.stageBytes ∧
    t.answer = .bytes e.stageBytes ∧ (t.mgf u).result = e.breq :: BitVec.ofNat 8 e.statuses.length :: hostOwner u :: BitVec.ofNat 8 (bit
    e.granted) :: e.statuses) ∧
  (∀ (u : Up) (e : VendorExec) (s : State), (s.mgf u).exec = some e → e.finished = true → e.lost = false → e.refused = false → e.breq ≠ 1
    → e.breq ≠ 5 → ∃ t, exec (.vendorRequestDone u false) s = .next t ∧ (t.mgf u).exec = none ∧ (t.mgf u).replay = (s.mgf u).replay ∧
    t.answer = .ack) ∧
  (∀ (fi : FnInst) (a : BitVec 32) (len : Nat) (s : State), s.fnHears fi.up fi.ss = true → ((s.mgf fi.up).inst fi.ss).suspended = false →
    (s.ssServes fi.up ≠ fi.ss ∨ ((s.mgf fi.up).inst fi.ss).st ≠ 2 ∨ s.pageOn .mgf = false ∨ dramLen len = false) → ∃ t, exec (.dramRead
    fi a len) s = .next t ∧ t = s.fnStall fi.up ∧ t.answer = .stall) ∧
  (∀ (u : Up) (e : VendorExec) (s : State), (s.mgf u).exec = some e → e.finished = false → e.lost = false → e.refused = false → e.breq = 5
    → s.dramServes = true → ∃ t, exec (.vendorRequestDone u false) s = .next t ∧ (t.mgf u).exec = none ∧ t.answer = .bytes (s.hostRead u
    e.addr e.len).2.1 ∧ (t.mgf u).replay = (s.hostRead u e.addr e.len).2.1 ∧ (t.mgf u).result = [5, 1, hostOwner u, BitVec.ofNat 8 (bit
    e.granted), (s.hostRead u e.addr e.len).1] ∧ t.dram = (s.hostRead u e.addr e.len).2.2.2.dram) ∧
  (∀ (u : Up) (e : VendorExec) (s : State), (s.mgf u).exec = some e → e.finished = false → e.lost = false → e.refused = false → e.breq = 6
    → s.dramServes = true → ∃ t, exec (.vendorRequestDone u false) s = .next t ∧ (t.mgf u).exec = none ∧ t.answer = .ack ∧ (t.mgf
    u).result = [6, 1, hostOwner u, BitVec.ofNat 8 (bit e.granted), (s.hostWrite u e.addr e.data).1] ∧ t.dram = (s.hostWrite u e.addr
    e.data).2.2.dram) ∧
  (∀ (u : Up) (e : VendorExec) (s : State), (s.mgf u).exec = some e → e.finished = false → e.lost = false → e.refused = false → e.breq = 6
    → s.dramServes = true → s.dramUp = true → s.hostInWin u e.addr e.data.length = false → ∃ t, exec (.vendorRequestDone u false) s =
    .next t ∧ t.dram = s.dram ∧ (t.mgf u).result = [6, 1, hostOwner u, BitVec.ofNat 8 (bit e.granted), 2]) ∧
  (∀ (u : Up) (e : VendorExec) (s : State), (s.mgf u).exec = some e → e.finished = true → e.lost = false → e.refused = true → e.breq = 2 →
    ∃ t, exec (.vendorRequestDone u false) s = .next t ∧ (t.mgf u).exec = none ∧ (t.mgf u).replay = (s.mgf u).replay ∧ (t.mgf u).result
    = [2, BitVec.ofNat 8 e.words.length, hostOwner u, BitVec.ofNat 8 (bit e.granted + 2)] ++ e.statuses ∧ t.answer = .stall ∧ t.get .mgf
    (F.MGF_Uu_CNT_STALLS u.val) = min (s.get .mgf (F.MGF_Uu_CNT_STALLS u.val) + 1) (2 ^ (F.MGF_Uu_CNT_STALLS u.val).width - 1))

/-- The bulk pipe (R362–R364): a command block that keeps the rules is taken, one that breaks them halts EP2; an executed command leaves
its response in EP3, or nothing where a reset has met it; and each acknowledged part of the response frees EP3. Where the spec leaves a
choice it rests on the model's, log 70. Commands that these clauses say complete, each with a next state of its own effect: bulkCommand,
bulkRead, bulkWrite, ep3Ack. -/
def Obligations.BulkPipeMovesDramBytes : Prop :=
  (∀ (at_ : EpAt) (b : List Byte) (s : State), s.epMoves at_.inst = true → bulkWhole b = true → bulkValid b = true → s.epHalted
    at_.inst.up 2 = false → at_.seq = (s.mgf at_.inst.up).seq[1] → (s.mgf at_.inst.up).ep2Cmd = none → ∃ t, exec (.bulkCommand at_ b) s
    = .next t ∧ (t.mgf at_.inst.up).ep2Cmd = some ⟨byteAt b 0 == 2, BitVec.ofNat 16 (leNat b 2 2), leNat b 4 4, leNat b 8 8, false⟩ ∧
    (t.mgf at_.inst.up).ep2Len = b.length ∧ t.answer = .ack) ∧
  (∀ (at_ : EpAt) (b : List Byte) (s : State), s.epMoves at_.inst = true → bulkWhole b = true → bulkValid b = false → s.epHalted
    at_.inst.up 2 = false → at_.seq = (s.mgf at_.inst.up).seq[1] → (s.mgf at_.inst.up).ep2Cmd = none → ∃ t, exec (.bulkCommand at_ b) s
    = .next t ∧ t.epHalted at_.inst.up 2 = true ∧ (t.mgf at_.inst.up).ep2Len = 0 ∧ (t.mgf at_.inst.up).ep2Cmd = none ∧ t.get .mgf
    (F.MGF_Uu_CNT_STALLS at_.inst.up.val) = min (s.get .mgf (F.MGF_Uu_CNT_STALLS at_.inst.up.val) + 1) (2 ^ (F.MGF_Uu_CNT_STALLS
    at_.inst.up.val).width - 1)) ∧
  (∀ (at_ : EpAt) (b : List Byte) (s : State), s.epMoves at_.inst = true → bulkWhole b = true → s.epHalted at_.inst.up 2 = true → ∃ t,
    exec (.bulkCommand at_ b) s = .next t ∧ t = s.reply .stall) ∧
  (∀ (at_ : EpAt) (b : List Byte) (s : State), s.epMoves at_.inst = true → bulkWhole b = true → s.epHalted at_.inst.up 2 = false → at_.seq
    ≠ (s.mgf at_.inst.up).seq[1] → ∃ t, exec (.bulkCommand at_ b) s = .next t ∧ t = s.reply .ack) ∧
  (∀ (at_ : EpAt) (b : List Byte) (s : State), s.epMoves at_.inst = true → bulkWhole b = true → s.epHalted at_.inst.up 2 = false → at_.seq
    = (s.mgf at_.inst.up).seq[1] → (s.mgf at_.inst.up).ep2Cmd ≠ none → ∃ t, exec (.bulkCommand at_ b) s = .next t ∧ t = s.epBusy
    at_.inst 2 ∧ t.answer = (if at_.inst.ss then .nrdy else .nak)) ∧
  (∀ (u : Up) (c : BulkCmd) (s : State), s.bulkReady u false = some c → c.lost = false → ∃ t, exec (.bulkRead u false) s = .next t ∧
    (t.mgf u).ep2Cmd = none ∧ (t.mgf u).ep2Len = 0 ∧ (t.mgf u).ep3Pos = 0 ∧ (t.mgf u).ep3Len = c.len + 16 ∧ t.get .mgf
    (F.MGF_Uu_BULK_TAG u.val) = c.tag.toNat ∧ t.get .mgf (F.MGF_Uu_BULK_STATUS u.val) = (s.hostRead u c.addr c.len).1.toNat ∧ t.get .mgf
    (F.MGF_Uu_BULK_VALID u.val) = 1) ∧
  (∀ (u : Up) (c : BulkCmd) (s : State), s.bulkReady u true = some c → c.lost = true → ∃ t, exec (.bulkWrite u false) s = .next t ∧ (t.mgf
    u).ep2Cmd = none ∧ (t.mgf u).ep3Len = (s.mgf u).ep3Len ∧ t.get .mgf (F.MGF_Uu_BULK_LOST u.val) = 1 ∧ t.get .mgf (F.MGF_Uu_BULK_TAG
    u.val) = c.tag.toNat) ∧
  (∀ (u : Up) (c : BulkCmd) (s : State), s.bulkReady u true = some c → c.lost = false → ∃ t, exec (.bulkWrite u false) s = .next t ∧
    (t.mgf u).ep2Cmd = none ∧ (t.mgf u).ep3Len = 16 ∧ (t.mgf u).ep3Pos = 0 ∧ t.get .mgf (F.MGF_Uu_BULK_STATUS u.val) = (s.hostWrite u
    c.addr (s.epmGet (epmBase u + epmEp2 + 16) c.len)).1.toNat ∧ t.dram = (s.hostWrite u c.addr (s.epmGet (epmBase u + epmEp2 + 16)
    c.len)).2.2.dram) ∧
  (∀ (fi : FnInst) (n : Nat) (s : State), s.epMoves fi = true → s.epHalted fi.up 3 = false → (s.mgf fi.up).ep3Len ≠ 0 → (s.mgf
    fi.up).ep3Pos + n < (s.mgf fi.up).ep3Len → ∃ t, exec (.ep3Ack fi n false) s = .next t ∧ (t.mgf fi.up).ep3Pos = (s.mgf fi.up).ep3Pos
    + n ∧ (t.mgf fi.up).ep3Len = (s.mgf fi.up).ep3Len ∧ t.answer = .bytes (s.epmGet (epmBase fi.up + epmEp3 + (s.mgf fi.up).ep3Pos) n)) ∧
  (∀ (fi : FnInst) (n : Nat) (s : State), s.epMoves fi = true → s.epHalted fi.up 3 = false → (s.mgf fi.up).ep3Len ≠ 0 → (s.mgf
    fi.up).ep3Pos ≤ (s.mgf fi.up).ep3Len → (s.mgf fi.up).ep3Len ≤ (s.mgf fi.up).ep3Pos + n → ∃ t, exec (.ep3Ack fi n false) s = .next t
    ∧ (t.mgf fi.up).ep3Pos = 0 ∧ (t.mgf fi.up).ep3Len = 0) ∧
  (∀ (fi : FnInst) (n : Nat) (s : State), s.epMoves fi = true → s.epHalted fi.up 3 = false → (s.mgf fi.up).ep3Len ≠ 0 → ∃ t, exec (.ep3Ack
    fi n true) s = .next t ∧ t.epHalted fi.up 3 = true ∧ t.answer = .stall)

/-- The function's endpoints (R360, R364–R368): notices are sent until acknowledged; configuring it or resetting it clears halts, toggles
and buffers; halts come and go by request; the instance in service follows the SuperSpeed one. Where the spec leaves a choice it rests on
the model's, log 69, 70 and 87. Commands that these clauses say complete, each with a next state of its own effect: notice, noticeAck,
functionWake, functionReset, mgfSetConfiguration, setEndpointHalt, clearEndpointHalt, inServiceChange. -/
def Obligations.ManagementFunctionEndpointsAndNotices : Prop :=
  (∀ (fi : FnInst) (s : State), s.epMoves fi = true → s.epHalted fi.up 1 = false → (s.mgf fi.up).noticeOut = false → s.flag .mgf
    (F.MGF_Uu_STATUS_NOTICE_PENDING fi.up.val) = true → ∃ t, exec (.notice fi false) s = .next t ∧ (t.mgf fi.up).noticeOut = true ∧
    (t.mgf fi.up).noticeCount = (s.mgf fi.up).noticeCount + 1 ∧ t.answer = .bytes (t.epmGet (epmBase fi.up + epmEp1) 16)) ∧
  (∀ (fi : FnInst) (s : State), s.epMoves fi = true → s.epHalted fi.up 1 = false → (s.mgf fi.up).noticeOut = true → ∃ t, exec (.notice fi
    false) s = .next t ∧ t = (s.epServed fi.up 1).reply (.bytes (s.epmGet (epmBase fi.up + epmEp1) 16))) ∧
  (∀ (fi : FnInst) (s : State), s.epMoves fi = true → s.epHalted fi.up 1 = false → (s.mgf fi.up).noticeOut = false → s.flag .mgf
    (F.MGF_Uu_STATUS_NOTICE_PENDING fi.up.val) = false → ∃ t, exec (.notice fi false) s = .next t ∧ t = s.epBusy fi 1 ∧ t.answer = (if
    fi.ss then .nrdy else .nak)) ∧
  (∀ (u : Up) (s : State), s.epServes u = true → (s.mgf u).noticeOut = true → ∃ t, exec (.noticeAck u) s = .next t ∧ (t.mgf u).noticeOut =
    false ∧ t.get .mgf (F.MGF_Uu_STATUS_NOTICE_PENDING u.val) = 0) ∧
  (∀ (u : Up) (s : State), (s.mgf u).wakeDue = true → s.upState u = lkU0 → s.fnThere u = true → ∃ t, exec (.functionWake u) s = .next t ∧
    t.answer = .functionWake ∧ (t.mgf u).wakeDue = false) ∧
  (∀ (u : Up) (ss : Bool) (k : Nat) (s : State), s.fnHears u ss = true → s.ssServes u = ss → ∃ t, exec (.functionReset u ss k) s = .next t
    ∧ ((t.mgf u).inst ss).st = 0 ∧ ((t.mgf u).inst ss).address = 0 ∧ ((t.mgf u).inst ss).remoteWake = false ∧ (t.mgf u).ep2Len = 0 ∧
    (t.mgf u).ep3Len = 0 ∧ (t.mgf u).noticeOut = false ∧ t.get .mgf (F.MGF_Uu_STATUS_HALT u.val) = 0 ∧ (t.mgf u).result = (s.mgf
    u).result ∧ (t.mgf u).replay = (s.mgf u).replay) ∧
  (∀ (u : Up) (ss : Bool) (k : Nat) (s : State), s.fnHears u ss = true → s.ssServes u ≠ ss → ∃ t, exec (.functionReset u ss k) s = .next t
    ∧ ((t.mgf u).inst ss).st = 0 ∧ (t.mgf u).inst (s.ssServes u) = (s.mgf u).inst (s.ssServes u) ∧ (t.mgf u).ep2Len = (s.mgf u).ep2Len ∧
    (t.mgf u).ep3Len = (s.mgf u).ep3Len) ∧
  (∀ (u : Up) (ss : Bool) (v : Nat) (s : State), s.fnHears u ss = true → ((s.mgf u).inst ss).suspended = false → ((s.mgf u).inst ss).st ≠
    0 → v ≤ 1 → ∃ t, exec (.mgfSetConfiguration u ss false v) s = .next t ∧ ((t.mgf u).inst ss).st = (if v = 1 then 2 else 1) ∧ t.answer
    = .ack) ∧
  (∀ (u : Up) (ss : Bool) (v : Nat) (s : State), s.fnHears u ss = true → s.ssServes u = ss → ((s.mgf u).inst ss).suspended = false →
    ((s.mgf u).inst ss).st = 2 → v = 0 → ∃ t, exec (.mgfSetConfiguration u ss true v) s = .next t ∧ ((t.mgf u).inst ss).st = 2 ∧ (t.mgf
    u).ep3Len = 0 ∧ (t.mgf u).seq = Vector.replicate 3 0 ∧ t.get .mgf (F.MGF_Uu_STATUS_HALT u.val) = 0 ∧ t.answer = .ack) ∧
  (∀ (fi : FnInst) (ep : Nat) (s : State), s.fnHears fi.up fi.ss = true → s.ssServes fi.up = fi.ss → ((s.mgf fi.up).inst fi.ss).suspended
    = false → ((s.mgf fi.up).inst fi.ss).st = 2 → 1 ≤ ep → ep ≤ 3 → ∃ t, exec (.setEndpointHalt fi ep) s = .next t ∧ t.epHalted fi.up ep
    = true ∧ t.answer = .ack) ∧
  (∀ (fi : FnInst) (ep : Nat) (s : State), s.fnHears fi.up fi.ss = true → s.ssServes fi.up = fi.ss → ((s.mgf fi.up).inst fi.ss).suspended
    = false → ((s.mgf fi.up).inst fi.ss).st = 2 → 1 ≤ ep → ep ≤ 3 → ∃ t, exec (.clearEndpointHalt fi ep) s = .next t ∧ t.epHalted fi.up
    ep = false ∧ t.answer = .ack ∧ (t.mgf fi.up).ep3Len = (if ep = 3 ∧ s.epHalted fi.up 3 = true then 0 else (s.mgf fi.up).ep3Len)) ∧
  (∀ (fi : FnInst) (s : State), s.fnHears fi.up fi.ss = true → ((s.mgf fi.up).inst fi.ss).suspended = false → ∃ t, exec (.setEndpointHalt
    fi 0) s = .next t ∧ t = s.reply .ack) ∧
  (∀ (u : Up) (s : State), ∃ t, exec (.inServiceChange u) s = .next t ∧ t.ssServes u = ((s.mgf u).ss.st == 2 && s.fnHears u true)) ∧
  (∀ (u : Up) (s : State), ((s.mgf u).ss.st == 2 && s.fnHears u true) ≠ s.ssServes u → ∃ t, exec (.inServiceChange u) s = .next t ∧ (t.mgf
    u).ep2Len = 0 ∧ (t.mgf u).ep3Len = 0 ∧ (t.mgf u).noticeOut = false ∧ t.get .mgf (F.MGF_Uu_STATUS_HALT u.val) = 0)

/-- Steps of TAKE, GIVE and POWER on one of their ports (R387, R388): what is asked, what a finished or refused step ends with. Where the
spec leaves a choice it rests on the model's, log 71. Commands that these clauses say complete, each with a next state of its own effect:
take, give, powerOff, powerOn, powerCycle. -/
def Obligations.ServiceJobsMoveOwnershipAndPower : Prop :=
  (∀ (p : Port) (j : Job) (x : JobPort) (s : State), s.runsJob p 2 j x = true → x.phase = 0 → s.curOwner p = 3 → ∃ t, exec (.take p) s =
    .next t ∧ t.endedWith j p = some cOk ∧ t.get (.lhe p) F.LHE_STATUS_LAST_CODE = cOk.toNat) ∧
  (∀ (p : Port) (j : Job) (x : JobPort) (s : State), s.runsJob p 2 j x = true → x.phase = 0 → s.curOwner p ≠ 3 → (j.word 0x24).testBit
    (s.curOwner p) = true → s.ownerBad p = false → s.compat = false → s.moving p = false → ∃ t, exec (.take p) s = .next t ∧ t.moving p
    = true ∧ t.get .prs (F.PRS_OWNERn_OWNER p.val) = 3 ∧ t.phaseOf j p = some (1, x.pos)) ∧
  (∀ (p : Port) (j : Job) (x : JobPort) (s : State), s.runsJob p 2 j x = true → x.phase = 0 → s.curOwner p ≠ 3 → (j.word 0x24).testBit
    (s.curOwner p) = false → ∃ t, exec (.take p) s = .next t ∧ t.endedWith j p = some cOwner ∧ t.get (.lhe p) F.LHE_STATUS_LAST_CODE =
    cOwner.toNat) ∧
  (∀ (p : Port) (j : Job) (x : JobPort) (s : State), s.runsJob p 2 j x = true → x.phase ≠ 0 → s.moving p = false → ∃ t, exec (.take p) s =
    .next t ∧ t.endedWith j p = some (if s.curOwner p = 3 then cOk else cOwner)) ∧
  (∀ (p : Port) (j : Job) (x : JobPort) (s : State), s.runsJob p 11 j x = true → x.phase = 0 → s.curOwner p = 3 → j.word 0x24 < 3 →
    s.ownerBad p = false → s.compat = false → s.moving p = false → ∃ t, exec (.give p) s = .next t ∧ t.moving p = true ∧ t.get .prs
    (F.PRS_OWNERn_OWNER p.val) = j.word 0x24 ∧ t.phaseOf j p = some (1, x.pos)) ∧
  (∀ (p : Port) (j : Job) (x : JobPort) (s : State), s.runsJob p 11 j x = true → x.phase ≠ 0 → s.moving p = false → ∃ t, exec (.give p) s
    = .next t ∧ t.endedWith j p = some cLostOwner ∧ t.get (.lhe p) F.LHE_STATUS_LAST_CODE = cLostOwner.toNat) ∧
  (∀ (p : Port) (j : Job) (x : JobPort) (s : State), s.runsJob p 1 j x = true → j.word 0x24 = 0 → x.phase = 0 → ∃ t, exec (.powerOff p) s
    = .next t ∧ t.get (.vbs p) F.VBS_CTRL_FORCE_OFF = 1) ∧
  (∀ (p : Port) (j : Job) (x : JobPort) (s : State), s.runsJob p 1 j x = true → j.word 0x24 = 0 → x.phase ≠ 0 → s.vbsRests p = true → ∃ t,
    exec (.powerOff p) s = .next t ∧ t.endedWith j p = some cOk ∧ t.get (.lhe p) F.LHE_STATUS_LAST_CODE = cOk.toNat) ∧
  (∀ (p : Port) (j : Job) (x : JobPort) (s : State), s.runsJob p 1 j x = true → j.word 0x24 = 1 → x.phase = 0 → ∃ t, exec (.powerOn p) s =
    .next t ∧ t.get (.vbs p) F.VBS_CTRL_FORCE_OFF = 0) ∧
  (∀ (p : Port) (j : Job) (x : JobPort) (s : State), s.runsJob p 1 j x = true → j.word 0x24 = 1 → x.phase ≠ 0 → s.vbusOn p = true → ∃ t,
    exec (.powerOn p) s = .next t ∧ t.endedWith j p = some cOk ∧ t.get (.lhe p) F.LHE_STATUS_LAST_CODE = cOk.toNat) ∧
  (∀ (p : Port) (j : Job) (x : JobPort) (s : State), s.runsJob p 1 j x = true → j.word 0x24 = 1 → x.phase ≠ 0 → s.vbusOn p = false →
    s.flag (.vbs p) F.VBS_CTRL_FORCE_OFF = true → ∃ t, exec (.powerOn p) s = .next t ∧ t.endedWith j p = some cPowerFail ∧ t.get (.lhe
    p) F.LHE_STATUS_LAST_CODE = cPowerFail.toNat) ∧
  (∀ (p : Port) (j : Job) (x : JobPort) (s : State), s.runsJob p 1 j x = true → j.word 0x24 = 2 → x.phase = 0 → ∃ t, exec (.powerCycle p)
    s = .next t ∧ t.get (.vbs p) F.VBS_CTRL_FORCE_OFF = 1) ∧
  (∀ (p : Port) (j : Job) (x : JobPort) (s : State), s.runsJob p 1 j x = true → j.word 0x24 = 2 → x.phase = 1 → s.vbsRests p = true →
    s.flag (.vbs p) F.VBS_STATUS_SAFE0V = true → ∃ t, exec (.powerCycle p) s = .next t ∧ t.phaseOf j p = some (2, x.pos)) ∧
  (∀ (p : Port) (j : Job) (x : JobPort) (s : State), s.runsJob p 1 j x = true → j.word 0x24 = 2 → x.phase = 2 → ∃ t, exec (.powerCycle p)
    s = .next t ∧ t.get (.vbs p) F.VBS_CTRL_FORCE_OFF = 0) ∧
  (∀ (p : Port) (j : Job) (x : JobPort) (s : State), s.runsJob p 1 j x = true → j.word 0x24 = 2 → x.phase = 3 → s.vbusOn p = true → ∃ t,
    exec (.powerCycle p) s = .next t ∧ t.endedWith j p = some cOk ∧ t.get (.lhe p) F.LHE_STATUS_LAST_CODE = cOk.toNat)

/-- Steps of the jobs that speak to a device (R375, R376, R390–R393): enumeration and its outcome, the endpoint table, control and data
transfers, and verification by comparison and by CRC. A STALL or the last retry of an error ends a job, and so does the device's going.
Where the spec leaves a choice it rests on the model's, log 9, 71 and 72. Commands that these clauses say complete, each with a next state
of its own effect: enumJob, configJob, ctrlJob, jobWrite, jobRead, verifyCompare, verifyCrc. -/
def Obligations.ServiceJobsServeTheirDevices : Prop :=
  (∀ (p : Port) (j : Job) (x : JobPort) (ans : DevAns) (s : State), s.runsJob p 3 j x = true → x.phase = 0 → s.devThere p = true → ∃ t,
    exec (.enumJob p ans) s = .next t ∧ t.get (.lhe p) F.LHE_STATUS_CONFIGURED = 0 ∧ (t.lhe p).eps = [] ∧ (t.lhe p).addr = 0 ∧
    (t.phaseOf j p = some (1, x.pos) ∨ t.phaseOf j p = some (2, x.pos))) ∧
  (∀ (p : Port) (j : Job) (x : JobPort) (s : State), s.runsJob p 3 j x = true → x.phase = 2 → ∃ t, exec (.enumJob p .late) s = .next t ∧
    t.phaseOf j p = some (1, x.pos)) ∧
  (∀ (p : Port) (j : Job) (x : JobPort) (ans : DevAns) (s : State), s.runsJob p 3 j x = true → x.phase = 0 → s.devThere p = false → ∃ t,
    exec (.enumJob p ans) s = .next t ∧ t.endedWith j p = some cDetached ∧ t.get (.lhe p) F.LHE_STATUS_LAST_CODE = cDetached.toNat) ∧
  (∀ (p : Port) (j : Job) (x : JobPort) (dev : List Byte) (cfg : List Byte) (s : State), s.runsJob p 3 j x = true → x.phase = 1 →
    s.enumResets p = false → j.adr = 0 → s.devHere p (s.jobSs j p) = true → ∃ t, exec (.enumJob p (.descs dev cfg)) s = .next t ∧
    t.endedWith j p = some (if isHubDevice dev (cfg.take (j.word 0x34)) then cHub else if ((j.word 0x28).testBit 0 && leNat dev 8 2 !=
    j.word 0x24 % 2 ^ 16) || ((j.word 0x28).testBit 1 && leNat dev 10 2 != j.word 0x24 / 2 ^ 16) then cMatch else cOk) ∧ (t.lhe p).addr
    = BitVec.ofNat 7 (s.lheAddress p) ∧ t.answer = .bytes (setupBytes 0 5 (s.lheAddress p) 0) ∧ t.get (.lhe p) F.LHE_DEV_VID = leNat dev
    8 2 ∧ t.get (.lhe p) F.LHE_DEV_PID = leNat dev 10 2) ∧
  (∀ (p : Port) (j : Job) (x : JobPort) (dev : List Byte) (cfg : List Byte) (s : State), s.runsJob p 4 j x = true → s.devHere p (s.jobSs j
    p) = true → ∃ t, exec (.configJob p (.descs dev cfg)) s = .next t ∧ t.endedWith j p = some cOk ∧ t.answer = .bytes (configSetups
    (j.word 0x24) cfg) ∧ t.get (.lhe p) F.LHE_STATUS_LAST_CODE = cOk.toNat ∧ t.get (.lhe p) F.LHE_STATUS_CONFIGURED = 1 ∧ (t.lhe p).eps
    = epTable cfg (j.word 0x24 / 2 ^ 8 % 256) (j.word 0x24 / 2 ^ 16 % 256) ((j.word 0x24).testBit 24) (s.lhe p).onSs) ∧
  (∀ (p : Port) (j : Job) (x : JobPort) (s : State), s.runsJob p 4 j x = true → s.devHere p (s.jobSs j p) = true → ∃ t, exec (.configJob p
    .stall) s = .next t ∧ t.endedWith j p = some cStall ∧ t.get (.lhe p) F.LHE_STATUS_LAST_CODE = cStall.toNat ∧ t.get (.lhe p)
    F.LHE_CNT_STALLS = min (s.get (.lhe p) F.LHE_CNT_STALLS + 1) (2 ^ F.LHE_CNT_STALLS.width - 1)) ∧
  (∀ (p : Port) (j : Job) (x : JobPort) (ans : DevAns) (s : State), s.runsJob p 4 j x = true → s.devHere p (s.jobSs j p) = false → ∃ t,
    exec (.configJob p ans) s = .next t ∧ t.endedWith j p = some cDetached ∧ t.get (.lhe p) F.LHE_STATUS_LAST_CODE = cDetached.toNat) ∧
  (∀ (p : Port) (j : Job) (x : JobPort) (n : Nat) (s : State), s.runsJob p 5 j x = true → s.devHere p (s.jobSs j p) = true → j.len = 0 → ∃
    t, exec (.ctrlJob p (.taken n)) s = .next t ∧ t.endedWith j p = some cOk ∧ t.get (.lhe p) F.LHE_STATUS_LAST_CODE = cOk.toNat) ∧
  (∀ (p : Port) (j : Job) (x : JobPort) (s : State), s.runsJob p 5 j x = true → s.devHere p (s.jobSs j p) = true → j.len = 0 → (s.xactErr
    p 0).1 = true → ∃ t, exec (.ctrlJob p .err) s = .next t ∧ t.endedWith j p = some cXactErr ∧ t.get (.lhe p) F.LHE_STATUS_LAST_CODE =
    cXactErr.toNat) ∧
  (∀ (p : Port) (j : Job) (x : JobPort) (n : Nat) (s : State), s.runsJob p 6 j x = true → s.devHere p (s.jobSs j p) = true → s.grvWaits
    j.adr = false → j.len ≤ x.pos → ∃ t, exec (.jobWrite p (.taken n)) s = .next t ∧ t.endedWith j p = some cOk ∧ t.get (.lhe p)
    F.LHE_STATUS_LAST_CODE = cOk.toNat) ∧
  (∀ (p : Port) (j : Job) (x : JobPort) (n : Nat) (s : State), s.runsJob p 6 j x = true → s.devHere p (s.jobSs j p) = true → s.grvWaits
    j.adr = false → j.group = 0 → adrSpace j.adr = 1 → adrSpace (j.adr + x.pos) = 1 → 1 ≤ n → x.pos + n < j.len → ∃ t, exec (.jobWrite p
    (.taken n)) s = .next t ∧ t.phaseOf j p = some (x.phase, x.pos + n) ∧ t.answer = .bytes (s.bufGet (adrOff (j.adr + x.pos)) n)) ∧
  (∀ (p : Port) (j : Job) (x : JobPort) (bs : List Byte) (sh : Bool) (s : State), s.runsJob p 7 j x = true → s.devHere p (s.jobSs j p) =
    true → s.grvWaits j.adr = false → adrSpace (j.adr + x.pos) = 1 → x.pos + bs.length = j.len → ∃ t, exec (.jobRead p (.data bs sh)) s
    = .next t ∧ t.endedWith j p = some cOk ∧ t.get (.lhe p) F.LHE_STATUS_LAST_CODE = cOk.toNat ∧ t.phaseOf j p = some (x.phase, j.len) ∧
    t.bufGet (adrOff (j.adr + x.pos)) 1 = bs.take 1) ∧
  (∀ (p : Port) (j : Job) (x : JobPort) (bs : List Byte) (s : State), s.runsJob p 7 j x = true → s.devHere p (s.jobSs j p) = true →
    s.grvWaits j.adr = false → adrSpace (j.adr + x.pos) = 1 → x.pos + bs.length < j.len → ∃ t, exec (.jobRead p (.data bs true)) s =
    .next t ∧ t.endedWith j p = some (if (j.word 0x24).testBit 8 then cOk else cShort)) ∧
  (∀ (p : Port) (j : Job) (x : JobPort) (bs : List Byte) (sh : Bool) (s : State), s.runsJob p 9 j x = true → s.devHere p (s.jobSs j p) =
    true → j.byCrc = false → s.grvWaits j.adr = false → j.group = 0 → adrSpace (j.adr + x.pos) = 1 → 1 ≤ bs.length → x.pos + bs.length =
    j.len → firstDiff bs (s.bufGet (adrOff (j.adr + x.pos)) bs.length) = none → ∃ t, exec (.verifyCompare p (.data bs sh)) s = .next t ∧
    t.endedWith j p = some cOk ∧ t.get (.lhe p) F.LHE_STATUS_LAST_CODE = cOk.toNat) ∧
  (∀ (p : Port) (j : Job) (x : JobPort) (bs : List Byte) (sh : Bool) (k : Nat) (s : State), s.runsJob p 9 j x = true → s.devHere p
    (s.jobSs j p) = true → j.byCrc = false → s.grvWaits j.adr = false → j.group = 0 → adrSpace (j.adr + x.pos) = 1 → 1 ≤ bs.length →
    x.pos + bs.length ≤ j.len → firstDiff bs (s.bufGet (adrOff (j.adr + x.pos)) bs.length) = some k → ∃ t, exec (.verifyCompare p (.data
    bs sh)) s = .next t ∧ t.endedWith j p = some cMismatch ∧ t.get (.lhe p) F.LHE_STATUS_LAST_CODE = cMismatch.toNat ∧ t.get (.lhe p)
    F.LHE_MISMATCH_LO_OFFSET = (x.pos + k) % 2 ^ 32) ∧
  (∀ (p : Port) (j : Job) (x : JobPort) (bs : List Byte) (sh : Bool) (s : State), s.runsJob p 9 j x = true → s.devHere p (s.jobSs j p) =
    true → j.byCrc = true → x.pos + bs.length = j.len → ∃ t, exec (.verifyCrc p (.data bs sh)) s = .next t ∧ t.endedWith j p = some (if
    (crcFinal (crcBytes x.crc bs)).toNat = j.word 0x38 then cOk else cMismatch))

/-- WAIT ends when its condition holds (R394), STOP ends what its flags name (R389), TIMEOUT what has run too long (R383), and captures
run beside the queue, one of each kind on a port (R384, R400–R402). Where the spec leaves a choice it rests on the model's, log 4 and 71.
Commands that these clauses say complete, each with a next state of its own effect: waitTime, waitAttach, waitDetach, waitVbusOn,
waitUsbConnect, stopRunning, stopQueued, stopCaptures, captureSbu, captureCdc, captureRecordClose, jobTimeout. -/
def Obligations.WaitsAndStopsEndJobs : Prop :=
  (∀ (p : Port) (j : Job) (x : JobPort) (s : State), s.runsJob p 10 j x = true → j.word 0x24 = 0 → ∃ t, exec (.waitTime p) s = .next t ∧
    t.endedWith j p = some cOk ∧ t.get (.lhe p) F.LHE_STATUS_LAST_CODE = cOk.toNat) ∧
  (∀ (p : Port) (j : Job) (x : JobPort) (s : State), s.runsJob p 10 j x = true → j.word 0x24 = 1 → s.ccAttached p = true → ∃ t, exec
    (.waitAttach p) s = .next t ∧ t.endedWith j p = some cOk ∧ t.get (.lhe p) F.LHE_STATUS_LAST_CODE = cOk.toNat) ∧
  (∀ (p : Port) (j : Job) (x : JobPort) (s : State), s.runsJob p 10 j x = true → j.word 0x24 = 1 → s.ccAttached p = false → ∃ t, exec
    (.waitAttach p) s = .next t ∧ t = s) ∧
  (∀ (p : Port) (j : Job) (x : JobPort) (s : State), s.runsJob p 10 j x = true → j.word 0x24 = 2 → s.ccAttached p = false → ∃ t, exec
    (.waitDetach p) s = .next t ∧ t.endedWith j p = some cOk ∧ t.get (.lhe p) F.LHE_STATUS_LAST_CODE = cOk.toNat) ∧
  (∀ (p : Port) (j : Job) (x : JobPort) (s : State), s.runsJob p 10 j x = true → j.word 0x24 = 2 → s.ccAttached p = true → ∃ t, exec
    (.waitDetach p) s = .next t ∧ t = s) ∧
  (∀ (p : Port) (j : Job) (x : JobPort) (s : State), s.runsJob p 10 j x = true → j.word 0x24 = 3 → s.vbusOn p = true → ∃ t, exec
    (.waitVbusOn p) s = .next t ∧ t.endedWith j p = some cOk ∧ t.get (.lhe p) F.LHE_STATUS_LAST_CODE = cOk.toNat) ∧
  (∀ (p : Port) (j : Job) (x : JobPort) (s : State), s.runsJob p 10 j x = true → j.word 0x24 = 3 → s.vbusOn p = false → ∃ t, exec
    (.waitVbusOn p) s = .next t ∧ t = s) ∧
  (∀ (p : Port) (j : Job) (x : JobPort) (s : State), s.runsJob p 10 j x = true → j.word 0x24 = 4 → s.devThere p = true → ∃ t, exec
    (.waitUsbConnect p) s = .next t ∧ t.endedWith j p = some cOk ∧ t.get (.lhe p) F.LHE_STATUS_LAST_CODE = cOk.toNat) ∧
  (∀ (p : Port) (j : Job) (x : JobPort) (s : State), s.runsJob p 10 j x = true → j.word 0x24 = 4 → s.devThere p = false → ∃ t, exec
    (.waitUsbConnect p) s = .next t ∧ t = s) ∧
  (∀ (p : Port) (j : Job) (r : Job) (s : State), s.grvUp = true → s.stopJob p 0 = some j → s.running p = some r → s.job r.id = some r →
    (r.part p).isSome = true → r.id ≠ j.id → ∃ t, exec (.stopRunning p) s = .next t ∧ t.endedWith r p = some cStopped ∧ (t.running
    p).map (·.id) ≠ some r.id) ∧
  (∀ (p : Port) (j : Job) (r : Job) (s : State), s.grvUp = true → s.stopJob p 2 = some j → r ∈ s.graver.jobs → s.job r.id = some r →
    r.queued = true → r.started = false → r.live p = true → (r.part p).map (·.code) = some none → r.id ≠ j.id → ∃ t, exec (.stopQueued
    p) s = .next t ∧ t.endedWith r p = some cStopped) ∧
  (∀ (p : Port) (j : Job) (s : State), s.grvUp = true → s.stopJob p 1 = some j → ∃ t, exec (.stopCaptures p) s = .next t ∧ t.capRuns p
    false = false ∧ t.capRuns p true = false) ∧
  (∀ (p : Port) (j : Job) (s : State), s.lheUp p = true → s.capWaiting p false = some j → s.startCode j p = none → s.capRuns p j.isCdc =
    false → ∃ t, exec (.captureSbu p) s = .next t ∧ t.capRuns p j.isCdc = true ∧ t.get (.lhe p) F.LHE_CAP_WR_RECORDS = 0 ∧ (t.phaseOf j
    p = some (1, 0) ∨ s.job j.id ≠ some j ∨ (j.part p).map (·.pos) ≠ some 0)) ∧
  (∀ (p : Port) (j : Job) (s : State), s.lheUp p = true → s.capWaiting p false = some j → s.job j.id = some j → s.startCode j p = none →
    s.capRuns p j.isCdc = true → ∃ t, exec (.captureSbu p) s = .next t ∧ t.endedWith j p = some cBusy) ∧
  (∀ (p : Port) (j : Job) (ans : DevAns) (s : State), s.lheUp p = true → s.capWaiting p true = some j → s.job j.id = some j → s.startCode
    j p = some cNotOwned → ∃ t, exec (.captureCdc p ans) s = .next t ∧ t.endedWith j p = some cNotOwned) ∧
  (∀ (p : Port) (j : Job) (ans : DevAns) (s : State), s.lheUp p = true → s.capWaiting p true = some j → s.startCode j p = none → j.isCdc =
    true → s.capRuns p true = false → (j.word 0x24).testBit 2 = true → ∃ t, exec (.captureCdc p ans) s = .next t ∧ t.capRuns p true =
    true ∧ t.answer = .bytes j.dtrSetup ∧ t.get (.lhe p) F.LHE_CAP_WR_RECORDS = 0) ∧
  (∀ (p : Port) (c : Capture) (bs : List Byte) (sh : Bool) (s : State), s.lheUp p = true → s.capWaiting p true = none → s.cap p true =
    some c → c.ended = none → c.dtr = false → s.devHere p c.ss = true → ∃ t, exec (.captureCdc p (.data bs sh)) s = .next t ∧ t.capRuns
    p true = true ∧ (t.cap p true).map (fun d => capBytes d.items) = some (capBytes c.items + min bs.length (512 - s.capWaits p))) ∧
  (∀ (p : Port) (c : Capture) (n : Nat) (s : State), s.lheUp p = true → s.capWaiting p true = none → s.cap p true = some c → c.ended =
    none → c.dtr = true → s.devHere p c.ss = true → ∃ t, exec (.captureCdc p (.taken n)) s = .next t ∧ (t.cap p true).map (fun d =>
    (d.dtr, d.items, d.ended)) = some (false, c.items, none)) ∧
  (∀ (p : Port) (c : Capture) (ans : DevAns) (s : State), s.lheUp p = true → s.capWaiting p true = none → s.cap p true = some c → c.ended
    = none → s.devHere p c.ss = false → ∃ t, exec (.captureCdc p ans) s = .next t ∧ t.capRuns p true = false) ∧
  (∀ (p : Port) (cdc : Bool) (c : Capture) (s : State), s.grvUp = true → s.grvWaits 0 = false → s.cap p cdc = some c → c.ended = none →
    (capGather [] 0 none c.items).stamp.isSome = true → ∃ t, exec (.captureRecordClose p cdc .idle) s = .next t ∧ t = s.capWrite c
    (capGather [] 0 none c.items) false) ∧
  (∀ (p : Port) (j : Job) (s : State), s.grvUp = true → s.running p = some j → s.job j.id = some j → j.word 0x20 ≠ 0 → (j.part p).isSome =
    true → ∃ t, exec (.jobTimeout p none) s = .next t ∧ t.endedWith j p = some cTimeout ∧ t.get (.lhe p) F.LHE_STATUS_LAST_CODE =
    cTimeout.toNat) ∧
  (∀ (p : Port) (cdc : Bool) (c : Capture) (j : Job) (s : State), s.grvUp = true → s.cap p cdc = some c → s.job c.job = some j → j.word
    0x20 ≠ 0 → ∃ t, exec (.jobTimeout p (some cdc)) s = .next t ∧ t.capRuns p cdc = false)

/-- The job processor (R380–R385, R405): the next descriptor of a ring is fetched and its index advances; a job at the head of every queue
starts; a finished job leaves with its completion entry; and an entry is written where the producer index points, then the index advances.
Where the spec leaves a choice it rests on the model's, log 71 and 72. Commands that these clauses say complete, each with a next state of
its own effect: descriptorFetch, jobStart, jobEnd, completionWrite, completionRetry. -/
def Obligations.GraverRunsItsRings : Prop :=
  (∀ (r : RingIx) (s : State), s.grvUp = true → s.pageOn .grv = true → s.fetchOn = true → s.chains.length < 256 → s.nextRing = some r → ∃
    t, exec .descriptorFetch s = .next t ∧ t = s.fetchNext r ∧ t.get .grv (F.GRV_JRr_CONS_CONS r.val) = (s.get .grv (F.GRV_JRr_CONS_CONS
    r.val) + 1) % s.jrSize r ∧ t.graver.fetchPtr = r) ∧
  (∀ (p : Port) (j : Job) (s : State), s.grvUp = true → s.pageOn .grv = true → s.queueHead p = some j → s.mayStart j = true → j.fansOut =
    false → ∃ t, exec (.jobStart p) s = .next t ∧ t = s.startJob j ∧ (t.job j.id).map (·.started) = some true) ∧
  (∀ (p : Port) (j : Job) (s : State), s.grvUp = true → s.pageOn .grv = true → s.queueHead p = some j → s.mayStart j = true → j.fansOut =
    true → ∃ t, exec (.jobStart p) s = .next t ∧ t = (s.jobWith j.id (fun j => { j with group := 1 })).nextGroup) ∧
  (∀ (p : Port) (j : Job) (s : State), s.grvUp = true → s.cap p false = none → s.cap p true = none → s.graver.jobs.find? (fun j => j.has p
    && j.finished && !s.chainHeld j.chain) = some j → j.links = [] → ∃ t, exec (.jobEnd p) s = .next t ∧ t.job j.id = none ∧
    t.graver.completions.any (fun c => c.ring == j.ring && c.chain == j.chain) = true ∧ t.graver.jobs = s.graver.jobs.filter (fun i =>
    i.id != j.id)) ∧
  (∀ (r : RingIx) (c : Completion) (s : State), s.grvUp = true → s.firstCompletion r = some c → c.failed = false → s.crFull r = false →
    s.ringBad r = false → s.grvWaits (s.crBase r + 32 * s.get .grv (F.GRV_CRr_PROD_PROD r.val)) = false → s.ringThere (s.crBase r + 32 *
    s.get .grv (F.GRV_CRr_PROD_PROD r.val)) 32 = true → adrSpace (s.crBase r + 32 * s.get .grv (F.GRV_CRr_PROD_PROD r.val)) = 1 → ∃ t,
    exec (.completionWrite r) s = .next t ∧ t.get .grv (F.GRV_CRr_PROD_PROD r.val) = (s.get .grv (F.GRV_CRr_PROD_PROD r.val) + 1) %
    s.crSize r ∧ t.graver.completions = replaceFirst r (fun _ => []) s.graver.completions) ∧
  (∀ (r : RingIx) (s : State), s.crFull r = true → ∃ t, exec (.completionWrite r) s = .next t ∧ t = s) ∧
  (∀ (r : RingIx) (c : Completion) (s : State), s.grvUp = true → s.firstCompletion r = some c → c.failed = true → s.crFull r = false →
    s.ringBad r = false → s.grvWaits (s.crBase r + 32 * s.get .grv (F.GRV_CRr_PROD_PROD r.val)) = false → s.ringThere (s.crBase r + 32 *
    s.get .grv (F.GRV_CRr_PROD_PROD r.val)) 32 = true → adrSpace (s.crBase r + 32 * s.get .grv (F.GRV_CRr_PROD_PROD r.val)) = 1 → ∃ t,
    exec (.completionRetry r) s = .next t ∧ t.get .grv (F.GRV_CRr_PROD_PROD r.val) = (s.get .grv (F.GRV_CRr_PROD_PROD r.val) + 1) %
    s.crSize r ∧ t.graver.completions = replaceFirst r (fun _ => []) s.graver.completions) ∧
  (∀ (r : RingIx) (s : State), s.crFull r = true → ∃ t, exec (.completionRetry r) s = .next t ∧ t = s)

/-- The DRAM controller (R409–R418): training leaves it ready, asks for a second try or fails; cold training leaves open contents, zeroed
where asked; refresh and calibration are seen by no requester; the scrubber passes and wraps; a window command moves its words. Where the
spec leaves a choice it rests on the model's, log 4, 12, 13, 73 and 88. Commands that these clauses say complete, each with a next state
of its own effect: trainingEnd, zeroingEnd, refresh, zqCalibration, scrub, windowCommandEnd, ddrAlert. -/
def Obligations.DramTrainsScrubsAndServesWindows : Prop :=
  (∀ (s : State), s.drcSt = 3 → s.clockOn .drc = true → s.domainInRst .drc = false → s.dram.warm = true → ∃ t, exec (.trainingEnd 0) s =
    .next t ∧ t.drcSt = 4 ∧ t.get .drc F.DRC_STATUS_SIZE_MIB = s.geomMib ∧ t.get .glb F.GLB_READY_DRAM_READY = 1 ∧ t.dram.mem =
    s.dram.mem ∧ t.dram.errs = s.dram.errs.filter (fun e => !Config.patternWord e.1) ∧ t.get .drc F.DRC_CNT_TRAINS = min (s.get .drc
    F.DRC_CNT_TRAINS + 1) (2 ^ F.DRC_CNT_TRAINS.width - 1)) ∧
  (∀ (s : State), s.drcSt = 3 → s.clockOn .drc = true → s.domainInRst .drc = false → s.dram.warm = false → ∃ t, exec (.trainingEnd 0) s =
    .next t ∧ t.drcSt = (if s.cfgFlag .drc F.DRC_CFG_INIT_ZERO then 7 else 4) ∧ t.dram.mem = [] ∧ t.dram.errs = [] ∧ t.dram.zeroed =
    false ∧ t.dram.epoch = s.dram.epoch + 1) ∧
  (∀ (fail : BitVec 5) (s : State), s.drcSt = 3 → s.clockOn .drc = true → s.domainInRst .drc = false → fail ≠ 0 → s.dram.again = false → ∃
    t, exec (.trainingEnd fail) s = .next t ∧ t.dram.again = true ∧ t.get .drc F.DRC_STATUS_LANE_FAIL = s.get .drc
    F.DRC_STATUS_LANE_FAIL ||| fail.toNat ∧ (t.drcSt = 2 ∨ t.drcSt = 3)) ∧
  (∀ (fail : BitVec 5) (s : State), s.drcSt = 3 → s.clockOn .drc = true → s.domainInRst .drc = false → fail ≠ 0 → s.dram.again = true → ∃
    t, exec (.trainingEnd fail) s = .next t ∧ t.drcSt = 5 ∧ t.dram.again = false ∧ t.get .drc F.DRC_STATUS_LANE_FAIL = s.get .drc
    F.DRC_STATUS_LANE_FAIL ||| fail.toNat) ∧
  (∀ (s : State), s.drcSt = 7 → ∃ t, exec .zeroingEnd s = .next t ∧ t.drcSt = 4 ∧ t.dram.zeroed = true ∧ t.dram.mem = [] ∧ t.dram.errs =
    [] ∧ t.get .glb F.GLB_READY_DRAM_READY = 1) ∧
  (∀ (a : Nat) (s : State), s.drcSt = 7 → ∃ t, exec .zeroingEnd s = .next t ∧ t.dram.byte a = 0) ∧
  (∀ (s : State), ∃ t, exec .refresh s = .next t ∧ t = s) ∧
  (∀ (s : State), ∃ t, exec .zqCalibration s = .next t ∧ t = s) ∧
  (∀ (late : Bool) (s : State), s.dramUp = true → s.dramServes = true → (s.cfg .drc F.DRC_CFG_SCRUB_HOURS = 0 ∨ (s.dramQueued = true ∧
    late = false)) → ∃ t, exec (.scrub ⟨none, late⟩) s = .next t ∧ t = s) ∧
  (∀ (late : Bool) (s : State), s.dramUp = true → s.dramServes = true → s.cfg .drc F.DRC_CFG_SCRUB_HOURS ≠ 0 → (s.dramQueued = false ∨
    late = true) → s.dram.errs = [] → ∃ t, exec (.scrub ⟨none, late⟩) s = .next t ∧ t.dram.scrubPos = (if s.dramSize ≤ s.dram.scrubPos +
    64 then 0 else s.dram.scrubPos + 64) ∧ t.dram.mem = s.dram.mem) ∧
  (∀ (w : Nat) (late : Bool) (s : State), s.dramUp = true → s.dramServes = true → s.cfg .drc F.DRC_CFG_SCRUB_HOURS ≠ 0 → (s.dramQueued =
    false ∨ late = true) → s.dram.errs = [(s.dram.word w, false)] → 8 * w ∈ [s.dram.scrubPos, s.dram.scrubPos + 8, s.dram.scrubPos + 16,
    s.dram.scrubPos + 24, s.dram.scrubPos + 32, s.dram.scrubPos + 40, s.dram.scrubPos + 48, s.dram.scrubPos + 56] → ∃ t, exec (.scrub
    ⟨none, late⟩) s = .next t ∧ t.dram.errs = [] ∧ t.dram.mem = s.dram.mem ∧ t.get .drc F.DRC_ECC_CNT_CE = min (s.get .drc
    F.DRC_ECC_CNT_CE + 1) (2 ^ F.DRC_ECC_CNT_CE.width - 1)) ∧
  (∀ (w : Nat) (s : State), s.dramUp = true → s.dramServes = true → s.cfg .drc F.DRC_CFG_SCRUB_HOURS = 0 → 8 * w + 8 ≤ s.dramSize →
    (s.dram.errAt w).isNone = true → ∃ t, exec (.scrub ⟨some ⟨w, false⟩, false⟩) s = .next t ∧ t.dram.errs = (s.dram.word w, false) ::
    s.dram.errs ∧ t.dram.mem = s.dram.mem) ∧
  (∀ (w : WinIx) (c : WinCmd) (s : State), s.dramUp = true → s.dram.win[w] = some c → (s.winAct w c c.count).1 = false → c.busySeen =
    false → ∃ t, exec (.windowCommandEnd w) s = .next t ∧ t.dram.win[w] = none ∧ t.get .drc (F.DRC_WINw_CTRL_RESULT w.val) = 0 ∧ t.get
    .drc (F.DRC_WINw_CTRL_LOAD w.val) = 0 ∧ t.get .drc (F.DRC_WINw_CTRL_STORE w.val) = 0 ∧ t.dram.mem = (s.winAct w c
    c.count).2.dram.mem) ∧
  (∀ (w : WinIx) (c : WinCmd) (s : State), s.dramUp = true → s.dram.win[w] = some c → c.store = false → s.dram.errAt (c.addr / 8) = some
    true → c.busySeen = false → ∃ t, exec (.windowCommandEnd w) s = .next t ∧ t.get .drc (F.DRC_WINw_CTRL_RESULT w.val) = 2 ∧ t.dram.mem
    = s.dram.mem) ∧
  (∀ (s : State), s.dramUp = true → ∃ t, exec .ddrAlert s = .next t ∧ t = s.count .drc F.DRC_CNT_ALERTS) ∧
  (∀ (s : State), s.dramUp = false → ∃ t, exec .ddrAlert s = .next t ∧ t = s)

/-- The health controller (R446–R452): two samples at a threshold change the level, which sheds pool in steps; quarantine ends by itself
where asked; an isolated plate is recorded once none of its ports discharges. Where the spec leaves a choice it rests on the model's, log
4, 49 and 50. Commands that these clauses say complete, each with a next state of its own effect: tempSample, shedStepTimer, quarAutoEnd,
plateIsolated. -/
def Obligations.HealthControllerFollowsTemperature : Prop :=
  (∀ (ts : Vector Nat 5) (s : State), s.coreUp = true → s.health.lastMax = none → ∃ t, exec (.tempSample ts) s = .next t ∧ t.get .hlt
    F.HLT_STATUS_LEVEL = s.get .hlt F.HLT_STATUS_LEVEL ∧ t.health.lastMax = some (hotSensor (((List.range 5).zip ts.toList).map (fun x
    => (x.1, tempInt x.2)))).2 ∧ t.get .hlt F.HLT_STATUS_HOT_SENSOR = (hotSensor (((List.range 5).zip ts.toList).map (fun x => (x.1,
    tempInt x.2)))).1) ∧
  (∀ (ts : Vector Nat 5) (prev : Int) (s : State), s.coreUp = true → s.health.lastMax = some prev → ∃ t, exec (.tempSample ts) s = .next t
    ∧ t.get .hlt F.HLT_STATUS_LEVEL = nextLevel (s.get .hlt F.HLT_STATUS_LEVEL) (4 * s.throttleC) (4 * s.shedC) (4 * s.hystC) prev
    (hotSensor (((List.range 5).zip ts.toList).map (fun x => (x.1, tempInt x.2)))).2) ∧
  (∀ (ts : Vector Nat 5) (prev : Int) (i : Fin 5) (s : State), s.coreUp = true → ∃ t, exec (.tempSample ts) s = .next t ∧ t.get .hlt
    (F.HLT_TEMPs_TEMP i.val) = ts[i] % 2048) ∧
  (∀ (s : State), s.coreUp = true → s.get .hlt F.HLT_STATUS_LEVEL = 2 → s.get .hlt F.HLT_STATUS_SHED_STEPS < 10 → ∃ t, exec .shedStepTimer
    s = .next t ∧ t.get .hlt F.HLT_STATUS_SHED_STEPS = min (s.get .hlt F.HLT_STATUS_SHED_STEPS + s.shedStep) 10) ∧
  (∀ (s : State), (s.get .hlt F.HLT_STATUS_LEVEL ≠ 2 ∨ 10 ≤ s.get .hlt F.HLT_STATUS_SHED_STEPS) → ∃ t, exec .shedStepTimer s = .next t ∧ t
    = s) ∧
  (∀ (p : Port) (s : State), s.coreUp = true → s.cfg .hlt F.HLT_CFG_QUAR_AUTO ≠ 0 → s.flag .hlt (portBit F.HLT_QUAR_QUAR p) = true → ∃ t,
    exec (.quarAutoEnd p) s = .next t ∧ t.flag .hlt (portBit F.HLT_QUAR_QUAR p) = false) ∧
  (∀ (p : Port) (s : State), s.cfg .hlt F.HLT_CFG_QUAR_AUTO = 0 → ∃ t, exec (.quarAutoEnd p) s = .next t ∧ t = s) ∧
  (∀ (k : Plate) (s : State), s.coreUp = true → (s.cfg .hlt F.HLT_PLATE_ISO_ISO).testBit k.val = true → s.plateInRst k = true →
    s.plateDischarged k = true → ∃ t, exec (.plateIsolated k) s = .next t ∧ t.flag .hlt (fldBit F.HLT_PLATE_STATUS_ISOLATED k.val) =
    true) ∧
  (∀ (k : Plate) (s : State), s.plateDischarged k = false → ∃ t, exec (.plateIsolated k) s = .next t ∧ t = s)

/-- The configuration store: the load ends with its result code and the part configured (R134, R145); a commit writes the bank that is not
active or fails with its code (R150); a fetch fills the staging buffer or finds no valid bank (R149). Where the spec leaves a choice it
rests on the model's, log 37, 38 and 39. Commands that these clauses say complete, each with a next state of its own effect: loadComplete,
commitLeaveTimeout, commitWriteEnd, fetchEnd. -/
def Obligations.ConfigurationStoreLoadsCommitsAndFetches : Prop :=
  (∀ (s : State), s.coreUp = true → s.loaded = false → s.get .glb F.GLB_STRAPS_DRAM ≠ 3 → ∃ t, exec .loadComplete s = .next t ∧ (∃ u :
    State, t = u.loadFinish ∧ u.get .cfg F.CFG_STATUS_LOAD_RESULT = s.loadStore.1)) ∧
  (∀ (s : State), (s.coreUp = false ∨ s.loaded = true) → ∃ t, exec .loadComplete s = .next t ∧ t = s) ∧
  (∀ (b : Fin 2) (q : Word) (s : State), s.cfgOp = .leave b q → ∃ t, exec .commitLeaveTimeout s = .next t ∧ t.cfgOp = .idle ∧ t.get .cfg
    F.CFG_STATUS_LAST_RESULT = 7 ∧ t.get .cfg F.CFG_STATUS_BUSY = 0 ∧ t.mram = s.mram) ∧
  (∀ (b : Fin 2) (q : Word) (s : State), s.cfgOp = .writing b q → ∃ t, exec (.commitWriteEnd true) s = .next t ∧ t.cfgOp = .idle ∧ t.get
    .cfg F.CFG_STATUS_LAST_RESULT = 0 ∧ t.get .cfg F.CFG_STATUS_BUSY = 0 ∧ t.mram = (s.bankPut b (s.commitBytes q)).mram) ∧
  (∀ (b : Fin 2) (q : Word) (s : State), s.cfgOp = .writing b q → ∃ t, exec (.commitWriteEnd false) s = .next t ∧ t.cfgOp = .idle ∧ t.get
    .cfg F.CFG_STATUS_LAST_RESULT = 8 ∧ t.get .cfg F.CFG_STATUS_BUSY = 0 ∧ t.mram[otherBank b] = s.mram[otherBank b]) ∧
  (∀ (s : State), s.cfgOp = .fetch none → ∃ t, exec .fetchEnd s = .next t ∧ t.cfgOp = .idle ∧ t.get .cfg F.CFG_STATUS_LAST_RESULT = 10 ∧
    t.stage = s.stage) ∧
  (∀ (b : Fin 2) (s : State), s.cfgOp = .fetch (some b) → ∃ t, exec .fetchEnd s = .next t ∧ t = (s.stagePut 0 (imgBytes (s.bankByte b) 0
    (imgLen (s.bankByte b)))).cfgEnd 0)

/-- The legacy target (R97–R99, R434): the lowest instance with the address answers; the first byte written sets its pointer, each further
byte moves it; a time-out ends the transfer; and an instance whose hold ends attaches with its configuration area (R432, R433). The
console tap (R223–R225, R230): a received byte enters the FIFO while there is space and is lost and counted when there is none; the
transmitter takes its next byte when one has left. Where the spec leaves a choice it rests on the model's, log 4 and 46. Commands that
these clauses say complete, each with a next state of its own effect: legAddress, legWriteByte, legReadByte, legSclTimeout, conRxByte,
conTxDone. -/
def Obligations.ConsoleLineAndLegacyTargetMoveBytes : Prop :=
  (∀ (a : BitVec 7) (rd : Bool) (i : Inst) (s : State), s.legOn = true → s.legInst a.toNat = some i → ∃ t, exec (.legAddress a rd) s =
    .next t ∧ t.legacy.sel = some (i, rd) ∧ t.legacy.first = true ∧ t.answer = .ack) ∧
  (∀ (a : BitVec 7) (rd : Bool) (s : State), s.legInst a.toNat = none → ∃ t, exec (.legAddress a rd) s = .next t ∧ t.legacy.sel = none ∧
    t.answer = .nak) ∧
  (∀ (b : Byte) (i : Inst) (s : State), s.legOn = true → s.legacy.sel = some (i, false) → s.legacy.first = true → ∃ t, exec (.legWriteByte
    b) s = .next t ∧ t.cpt[i].ptr = b ∧ t.legacy.first = false ∧ t.answer = .ack) ∧
  (∀ (b : Byte) (i : Inst) (s : State), s.legOn = true → s.legacy.sel = some (i, false) → s.legacy.first = false → ∃ t, exec
    (.legWriteByte b) s = .next t ∧ t = ((s.winWrite true i s.cpt[i].ptr.toNat b).cptWith i (fun c =>
    { c with ptr := s.cpt[i].ptr + 1 })).reply .ack ∧ t.cpt[i].ptr = s.cpt[i].ptr + 1 ∧ t.answer = .ack) ∧
  (∀ (i : Inst) (s : State), s.legOn = true → s.legacy.sel = some (i, true) → ∃ t, exec .legReadByte s = .next t ∧ t.cpt[i].ptr =
    s.cpt[i].ptr + 1 ∧ t.answer = .bytes [(s.winRead i s.cpt[i].ptr.toNat).1]) ∧
  (∀ (i : Inst) (s : State), s.coreUp = true → s.legacy.sel.isSome = true → ∃ t, exec .legSclTimeout s = .next t ∧ t.legacy.sel = none ∧
    t.get .mgt F.MGT_LEG_STATUS_TIMEOUT_CNT = min (s.get .mgt F.MGT_LEG_STATUS_TIMEOUT_CNT + 1) (2 ^ F.MGT_LEG_STATUS_TIMEOUT_CNT.width
    - 1)) ∧
  (∀ (p : Port) (b : Byte) (fe : Bool) (pe : Bool) (s : State), s.portUp p = true → s.get (.con p) F.CON_STATUS_ROUTED = 1 → s.pageOn
    (.con p) = true → s.capRuns p false = false → (s.con p).rx.length < 256 → ∃ t, exec (.conRxByte p (.byte b fe pe)) s = .next t ∧
    (t.con p).rx = (s.con p).rx ++ [⟨s.conBits p b, fe, pe && s.conParity p⟩] ∧ t.get (.con p) F.CON_STATUS_RX_LEVEL = (s.con
    p).rx.length + 1) ∧
  (∀ (p : Port) (s : State), s.portUp p = true → s.get (.con p) F.CON_STATUS_ROUTED = 1 → s.cfgFlag (.con p) F.PAGE_CTRL_EN = true →
    (s.con p).sending.isSome = true → ∃ t, exec (.conTxDone p) s = .next t ∧ (t.con p).sending = (s.con p).tx.head? ∧ (t.con p).tx =
    (s.con p).tx.drop 1)
end

