-- ==== Sys2Proof/Laws/Sparse.lean ====
section
/-! SUPPORT. The laws of the sparse stores: a read after a write, and the canonical form. -/

namespace Sys2Proof.Machine

set_option linter.unreachableTactic false
set_option linter.unusedTactic false

variable {α : Type}

theorem Sparse.find_erase_same (l : List (Nat × α)) (k : Nat) : Sparse.find (Sparse.erase l k) k = none := by
  induction l with
  | nil => rfl
  | cons e t ih =>
    obtain ⟨a, v⟩ := e
    by_cases h : a = k <;> simp_all [Sparse.erase, Sparse.find]

theorem Sparse.find_erase_ne (l : List (Nat × α)) {k j : Nat} (h : j ≠ k) : Sparse.find (Sparse.erase l k) j = Sparse.find l j := by
  induction l with
  | nil => rfl
  | cons e t ih =>
    obtain ⟨a, v⟩ := e
    by_cases hk : a = k
    · subst hk; simp_all [Sparse.erase, Sparse.find, Ne.symm h]
    · by_cases hj : a = j <;> simp_all [Sparse.erase, Sparse.find]

theorem Sparse.find_insert_same (l : List (Nat × α)) (k : Nat) (v : α) (h : Sparse.find l k = none) :
    Sparse.find (Sparse.insert l k v) k = some v := by
  induction l with
  | nil => simp [Sparse.insert, Sparse.find]
  | cons e t ih =>
    obtain ⟨a, w⟩ := e
    by_cases hk : a = k
    · simp [Sparse.find, hk] at h
    · simp [Sparse.find, hk] at h
      by_cases hl : k < a <;> simp [Sparse.insert, hl, Sparse.find, hk, ih h]

theorem Sparse.find_insert_ne (l : List (Nat × α)) {k j : Nat} (v : α) (h : j ≠ k) :
    Sparse.find (Sparse.insert l k v) j = Sparse.find l j := by
  induction l with
  | nil => simp [Sparse.insert, Sparse.find, Ne.symm h]
  | cons e t ih =>
    obtain ⟨a, w⟩ := e
    by_cases hl : k < a
    · simp [Sparse.insert, hl, Sparse.find, Ne.symm h]
    · simp [Sparse.insert, hl, Sparse.find, ih]

/-- A read after a write to the same key gives the value written. -/
@[simp] theorem Sparse.get_put_same [DecidableEq α] (d : Nat → α) (l : List (Nat × α)) (k : Nat) (v : α) :
    Sparse.get d (Sparse.put d l k v) k = v := by
  unfold Sparse.get Sparse.put
  split
  · rename_i h; rw [Sparse.find_erase_same]; simp [h]
  · rw [Sparse.find_insert_same _ _ _ (Sparse.find_erase_same l k)]; rfl

/-- A write leaves every other key alone. -/
theorem Sparse.get_put_ne [DecidableEq α] (d : Nat → α) (l : List (Nat × α)) {k j : Nat} (v : α) (h : j ≠ k) :
    Sparse.get d (Sparse.put d l k v) j = Sparse.get d l j := by
  unfold Sparse.get Sparse.put
  split
  · rw [Sparse.find_erase_ne _ h]
  · rw [Sparse.find_insert_ne _ _ h, Sparse.find_erase_ne _ h]

theorem Sparse.get_put [DecidableEq α] (d : Nat → α) (l : List (Nat × α)) (k j : Nat) (v : α) :
    Sparse.get d (Sparse.put d l k v) j = if j = k then v else Sparse.get d l j := by
  split
  · rename_i h; subst h; simp
  · rename_i h; exact Sparse.get_put_ne d l v h

theorem Sparse.find_mem {l : List (Nat × α)} {k : Nat} {v : α} (h : Sparse.find l k = some v) : (k, v) ∈ l := by
  induction l with
  | nil => cases h
  | cons e t ih =>
    obtain ⟨a, w⟩ := e
    by_cases hk : a = k
    · simp [Sparse.find, hk] at h; simp [hk, h]
    · simp [Sparse.find, hk] at h; exact List.mem_cons_of_mem _ (ih h)

theorem Sparse.mem_insert (l : List (Nat × α)) (k : Nat) (v : α) (e : Nat × α) :
    e ∈ Sparse.insert l k v ↔ e = (k, v) ∨ e ∈ l := by
  induction l with
  | nil => simp [Sparse.insert]
  | cons x t ih =>
    obtain ⟨a, w⟩ := x
    by_cases hl : k < a
    · simp [Sparse.insert, hl]
    · simp only [Sparse.insert, hl, if_false, List.mem_cons, ih]
      constructor
      · rintro (h | h | h) <;> simp [h]
      · rintro (h | h | h) <;> simp [h]

theorem Sparse.mem_erase (l : List (Nat × α)) (k : Nat) (e : Nat × α) : e ∈ Sparse.erase l k ↔ e ∈ l ∧ e.1 ≠ k := by
  simp [Sparse.erase]

theorem Sparse.mem_put [DecidableEq α] {d : Nat → α} {l : List (Nat × α)} {k : Nat} {v : α} {e : Nat × α}
    (h : e ∈ Sparse.put d l k v) : e = (k, v) ∨ e ∈ l := by
  unfold Sparse.put at h
  split at h
  · exact Or.inr ((Sparse.mem_erase _ _ _).1 h).1
  · rcases (Sparse.mem_insert _ _ _ _).1 h with h | h
    · exact Or.inl h
    · exact Or.inr ((Sparse.mem_erase _ _ _).1 h).1

theorem Sparse.insert_rising (l : List (Nat × α)) (k : Nat) (v : α) (h : l.Pairwise (fun a b => a.1 < b.1))
    (hk : ∀ e ∈ l, e.1 ≠ k) : (Sparse.insert l k v).Pairwise (fun a b => a.1 < b.1) := by
  induction l with
  | nil => simp [Sparse.insert]
  | cons x t ih =>
    obtain ⟨a, w⟩ := x
    rw [List.pairwise_cons] at h
    unfold Sparse.insert
    split
    · rename_i hl
      refine List.pairwise_cons.2 ⟨?_, List.pairwise_cons.2 h⟩
      intro e he
      rcases List.mem_cons.1 he with rfl | he
      · exact hl
      · exact Nat.lt_trans hl (h.1 e he)
    · rename_i hl
      refine List.pairwise_cons.2 ⟨?_, ih h.2 (fun e he => hk e (List.mem_cons_of_mem _ he))⟩
      intro e he
      rcases (Sparse.mem_insert _ _ _ _).1 he with rfl | he
      · have := hk (a, w) List.mem_cons_self
        simp at this ⊢; omega
      · exact h.1 e he

/-- Every write keeps the canonical form. -/
theorem Sparse.put_wf [DecidableEq α] {d : Nat → α} {l : List (Nat × α)} (h : Sparse.wf d l) (k : Nat) (v : α) :
    Sparse.wf d (Sparse.put d l k v) := by
  have he : Sparse.wf d (Sparse.erase l k) :=
    ⟨h.1.filter _, fun e he => h.2 e ((Sparse.mem_erase _ _ _).1 he).1⟩
  unfold Sparse.put
  split
  · exact he
  · rename_i hv
    refine ⟨Sparse.insert_rising _ _ _ he.1 (fun e hm => ((Sparse.mem_erase _ _ _).1 hm).2), fun e hm => ?_⟩
    rcases (Sparse.mem_insert _ _ _ _).1 hm with rfl | hm
    · exact hv
    · exact he.2 e hm

theorem Sparse.nil_wf (d : Nat → α) : Sparse.wf d ([] : List (Nat × α)) := ⟨List.Pairwise.nil, by simp⟩

theorem Sparse.filter_wf {d : Nat → α} {l : List (Nat × α)} (h : Sparse.wf d l) (p : Nat × α → Bool) : Sparse.wf d (l.filter p) :=
  ⟨h.1.filter _, fun e he => h.2 e (List.mem_filter.1 he).1⟩

/-- Writes one after another keep the canonical form. -/
theorem Sparse.foldl_put_wf [DecidableEq α] {β : Type} {d : Nat → α} (xs : List β) (k : β → Nat) (v : β → α) :
    ∀ {l : List (Nat × α)}, Sparse.wf d l → Sparse.wf d (xs.foldl (fun l x => Sparse.put d l (k x) (v x)) l) := by
  induction xs with
  | nil => exact fun h => h
  | cons x t ih => exact fun h => ih (Sparse.put_wf h _ _)

end Sys2Proof.Machine
end

