-- ==== Sys2Proof/Laws/Fields.lean ====
section
/-! SUPPORT. The laws of registers: fields of a word, page bases, a field read after a field has been written, and what the shared
operations on registers and events leave alone. -/

namespace Sys2Proof.Machine

set_option linter.unreachableTactic false
set_option linter.unusedTactic false

/-! ### Fields of a word -/

theorem fldGet_testBit (f : Fld) (w : Word) (i : Nat) : (fldGet f w).testBit i = (decide (i < f.width) && w.getLsbD (f.lo + i)) := by
  simp [fldGet, Nat.testBit_mod_two_pow, Nat.testBit_shiftRight, BitVec.testBit_toNat]

theorem fldMask_bit (f : Fld) (j : Nat) : (fldMask f).getLsbD j = (decide (j < 32) && decide (f.lo ≤ j) && decide (j - f.lo < f.width)) := by
  simp only [fldMask, BitVec.getLsbD_ofNat, Nat.testBit_shiftLeft, Nat.testBit_two_pow_sub_one]
  rw [Bool.and_assoc]

theorem fldSet_bit (f : Fld) (w : Word) (v j : Nat) (hj : j < 32) :
    (fldSet f w v).getLsbD j = if f.lo ≤ j ∧ j < f.lo + f.width then v.testBit (j - f.lo) else w.getLsbD j := by
  simp only [fldSet, BitVec.getLsbD_or, BitVec.getLsbD_and, BitVec.getLsbD_not, fldMask_bit, BitVec.getLsbD_ofNat,
    Nat.testBit_shiftLeft, Nat.testBit_mod_two_pow]
  by_cases h1 : f.lo ≤ j
  · by_cases h2 : j - f.lo < f.width
    · have : j < f.lo + f.width := by omega
      simp [hj, h1, h2, this]
    · have : ¬ j < f.lo + f.width := by omega
      simp [hj, h1, h2, this]
  · have : ¬ (f.lo ≤ j ∧ j < f.lo + f.width) := fun h => h1 h.1
    simp [hj, h1]

/-- A field reads as the value written to it, modulo its width. -/
theorem fldGet_fldSet_same (f : Fld) (w : Word) (v : Nat) (h : f.lo + f.width ≤ 32) : fldGet f (fldSet f w v) = v % 2 ^ f.width := by
  apply Nat.eq_of_testBit_eq
  intro i
  rw [fldGet_testBit, Nat.testBit_mod_two_pow]
  by_cases hi : i < f.width
  · rw [fldSet_bit f w v _ (by omega)]
    have : f.lo ≤ f.lo + i ∧ f.lo + i < f.lo + f.width := by omega
    simp [this]
  · simp [hi]

/-- A write of one field leaves the others of its register alone. -/
theorem fldGet_fldSet_ne (f g : Fld) (w : Word) (v : Nat) (h : f.lo + f.width ≤ g.lo ∨ g.lo + g.width ≤ f.lo) :
    fldGet g (fldSet f w v) = fldGet g w := by
  apply Nat.eq_of_testBit_eq
  intro i
  rw [fldGet_testBit, fldGet_testBit]
  by_cases hi : i < g.width
  · by_cases hj : g.lo + i < 32
    · rw [fldSet_bit f w v _ hj]
      have : ¬ (f.lo ≤ g.lo + i ∧ g.lo + i < f.lo + f.width) := by omega
      simp [this]
    · simp [BitVec.getLsbD_of_ge _ _ (Nat.le_of_not_lt hj)]
  · simp [hi]

theorem fldGet_lt (f : Fld) (w : Word) : fldGet f w < 2 ^ f.width := Nat.mod_lt _ (Nat.two_pow_pos _)

/-! ### Page bases -/

theorem PageId.base_aligned (pg : PageId) : pg.base % 0x1000 = 0 := by
  cases pg <;> simp only [PageId.base, portBase] <;> omega

/-- A page occupies the addresses from its base. -/
theorem pageAt_base (pg : PageId) : pageAt pg.base = some pg := by
  cases pg with
  | u2h k => revert k; decide
  | ssh k => revert k; decide
  | ups u => revert u; decide
  | win i => revert i; decide
  | tcp p => revert p; decide +kernel
  | vbs p => revert p; decide +kernel
  | u2p p => revert p; decide +kernel
  | ssp f => revert f; decide +kernel
  | con p => revert p; decide +kernel
  | lhe p => revert p; decide +kernel
  | _ => decide

theorem PageId.base_inj {a b : PageId} (h : a.base = b.base) : a = b := by
  have := pageAt_base a
  rw [h, pageAt_base b] at this
  injection this with e
  exact e.symm

/-- Registers of different pages lie at different addresses. -/
theorem PageId.addr_ne {a b : PageId} (h : a ≠ b) {x y : Nat} (hx : x < 0x1000) (hy : y < 0x1000) : a.base + x ≠ b.base + y := by
  intro e
  have ha := PageId.base_aligned a
  have hb := PageId.base_aligned b
  exact h (PageId.base_inj (by omega))

/-! ### Registers -/

@[simp] theorem State.rd_wr_same (s : State) (a : Nat) (w : Word) : (s.wr a w).rd a = w := by simp [State.rd, State.wr]

theorem State.rd_wr_ne (s : State) {a b : Nat} (w : Word) (h : b ≠ a) : (s.wr a w).rd b = s.rd b :=
  Sparse.get_put_ne _ _ _ h

/-- A field reads as it was last written. -/
theorem State.get_put_same (s : State) (pg : PageId) (f : Fld) (v : Nat) (h : f.lo + f.width ≤ 32) :
    (s.put pg f v).get pg f = v % 2 ^ f.width := by
  simp [State.get, State.put, fldGet_fldSet_same f _ _ h]

/-- A write of a register leaves the registers at other offsets of its page alone. -/
theorem State.get_put_off (s : State) (pg : PageId) (f g : Fld) (v : Nat) (h : g.off ≠ f.off) : (s.put pg f v).get pg g = s.get pg g := by
  have hn : pg.base + g.off ≠ pg.base + f.off := by omega
  simp only [State.get, State.put, State.rd_wr_ne _ _ hn]

/-- A write of a field leaves the other fields of its register alone. -/
theorem State.get_put_bits (s : State) (pg : PageId) (f g : Fld) (v : Nat)
    (h : f.lo + f.width ≤ g.lo ∨ g.lo + g.width ≤ f.lo) : (s.put pg f v).get pg g = s.get pg g := by
  by_cases ho : g.off = f.off
  · have : pg.base + g.off = pg.base + f.off := by rw [ho]
    simp only [State.get, State.put, this, State.rd_wr_same, fldGet_fldSet_ne f g _ _ h]
  · exact State.get_put_off s pg f g v ho

/-- A write of a register leaves the other pages alone. -/
theorem State.get_put_page (s : State) {pg pg' : PageId} (f g : Fld) (v : Nat) (h : pg' ≠ pg) (hf : f.off < 0x1000) (hg : g.off < 0x1000) :
    (s.put pg f v).get pg' g = s.get pg' g := by
  simp only [State.get, State.put, State.rd_wr_ne _ _ (PageId.addr_ne h hg hf)]

@[simp] theorem State.put_bad (s : State) (pg : PageId) (f : Fld) (v : Nat) : (s.put pg f v).bad = s.bad := rfl
@[simp] theorem State.put_pending (s : State) (pg : PageId) (f : Fld) (v : Nat) : (s.put pg f v).pending = s.pending := rfl
@[simp] theorem State.put_coreHeld (s : State) (pg : PageId) (f : Fld) (v : Nat) : (s.put pg f v).coreHeld = s.coreHeld := rfl
@[simp] theorem State.put_answer (s : State) (pg : PageId) (f : Fld) (v : Nat) : (s.put pg f v).answer = s.answer := rfl
@[simp] theorem State.put_fifos (s : State) (pg : PageId) (f : Fld) (v : Nat) : (s.put pg f v).fifos = s.fifos := rfl

@[simp] theorem State.badAt_put (s : State) (pg : PageId) (f : Fld) (v a : Nat) : (s.put pg f v).badAt a = s.badAt a := rfl

/-! ### Events -/

@[simp] theorem State.handOff_rd (s : State) (page : Nat) (r : EventRecord) (a : Nat) : (s.handOff page r).rd a = s.rd a := by
  unfold State.handOff State.setFifo; dsimp only; split <;> rfl

/-- Raising an event leaves every register alone but the `INT_STATUS` of its page. -/
theorem State.get_raiseWith (s : State) (pg pg' : PageId) (e : Ev) (src d : Nat) (b : Bool) (j : Subject) (f : Fld)
    (h : pg' ≠ pg ∨ f.off ≠ 0xC) (hf : f.off < 0x1000) : (s.raiseWith pg e src d b j).get pg' f = s.get pg' f := by
  have key : ∀ n, (s.put pg (F.INT_STATUS n) 1).get pg' f = s.get pg' f := fun n => by
    by_cases hp : pg' = pg
    · subst hp
      exact State.get_put_off _ _ _ _ _ (by rcases h with h | h; exact absurd rfl h; exact h)
    · exact State.get_put_page _ _ _ _ hp (by simp [F.INT_STATUS]) hf
  unfold State.raiseWith
  split
  · simp [State.get]
  · dsimp only
    split
    · rename_i n _ _
      have := key n
      simpa [State.get] using this
    · exact key _

theorem State.get_raise (s : State) (pg pg' : PageId) (e : Ev) (src d : Nat) (b : Bool) (f : Fld) (h : pg' ≠ pg ∨ f.off ≠ 0xC)
    (hf : f.off < 0x1000) : (s.raise pg e src d b).get pg' f = s.get pg' f := State.get_raiseWith s pg pg' e src d b _ f h hf

theorem State.get_raisePort (s : State) (pg pg' : PageId) (p : Port) (e : Ev) (d : Nat) (b : Bool) (f : Fld)
    (h : pg' ≠ pg ∨ f.off ≠ 0xC) (hf : f.off < 0x1000) : (s.raisePort pg p e d b).get pg' f = s.get pg' f :=
  State.get_raiseWith s pg pg' e _ d b _ f h hf

theorem State.get_raisePres (s : State) (pg pg' : PageId) (u : Up) (e : Ev) (src d : Nat) (b : Bool) (f : Fld)
    (h : pg' ≠ pg ∨ f.off ≠ 0xC) (hf : f.off < 0x1000) : (s.raisePres pg u e src d b).get pg' f = s.get pg' f :=
  State.get_raiseWith s pg pg' e src d b _ f h hf

@[simp] theorem State.handOff_pending (s : State) (page : Nat) (r : EventRecord) : (s.handOff page r).pending = s.pending := by
  unfold State.handOff State.setFifo; dsimp only; split <;> rfl

@[simp] theorem State.raiseWith_pending (s : State) (pg : PageId) (e : Ev) (src d : Nat) (b : Bool) (j : Subject) :
    (s.raiseWith pg e src d b j).pending = s.pending := by
  unfold State.raiseWith
  split
  · simp
  · dsimp only; split <;> simp

end Sys2Proof.Machine
end

