-- ==== Sys2Proof/Laws/State.lean ====
section
/-! SUPPORT. What each update of the state leaves: one lemma per field and update, true by definition, so that no later proof
unfolds a record update. -/

namespace Sys2Proof.Machine

variable (s : State)

/-! ### `wr` -/

@[simp] theorem State.wr_pending (a : Nat) (w : Word) : (s.wr a w).pending = s.pending := rfl
@[simp] theorem State.wr_answer (a : Nat) (w : Word) : (s.wr a w).answer = s.answer := rfl
@[simp] theorem State.wr_freeCount (a : Nat) (w : Word) : (s.wr a w).freeCount = s.freeCount := rfl
@[simp] theorem State.wr_regs (a : Nat) (w : Word) : (s.wr a w).regs = Sparse.put resetWord s.regs a w := rfl
@[simp] theorem State.wr_coreHeld (a : Nat) (w : Word) : (s.wr a w).coreHeld = s.coreHeld := rfl
@[simp] theorem State.wr_dclkOn (a : Nat) (w : Word) : (s.wr a w).dclkOn = s.dclkOn := rfl
@[simp] theorem State.wr_gclkOn (a : Nat) (w : Word) : (s.wr a w).gclkOn = s.gclkOn := rfl
@[simp] theorem State.wr_drcPend (a : Nat) (w : Word) : (s.wr a w).drcPend = s.drcPend := rfl
@[simp] theorem State.wr_uptime (a : Nat) (w : Word) : (s.wr a w).uptime = s.uptime := rfl
@[simp] theorem State.wr_phase (a : Nat) (w : Word) : (s.wr a w).phase = s.phase := rfl
@[simp] theorem State.wr_copies (a : Nat) (w : Word) : (s.wr a w).copies = s.copies := rfl
@[simp] theorem State.wr_guards (a : Nat) (w : Word) : (s.wr a w).guards = s.guards := rfl
@[simp] theorem State.wr_bad (a : Nat) (w : Word) : (s.wr a w).bad = s.bad := rfl
@[simp] theorem State.wr_runs (a : Nat) (w : Word) : (s.wr a w).runs = s.runs := rfl
@[simp] theorem State.wr_mports (a : Nat) (w : Word) : (s.wr a w).mports = s.mports := rfl
@[simp] theorem State.wr_ringSlots (a : Nat) (w : Word) : (s.wr a w).ringSlots = s.ringSlots := rfl
@[simp] theorem State.wr_ringSides (a : Nat) (w : Word) : (s.wr a w).ringSides = s.ringSides := rfl
@[simp] theorem State.wr_legacy (a : Nat) (w : Word) : (s.wr a w).legacy = s.legacy := rfl
@[simp] theorem State.wr_fifos (a : Nat) (w : Word) : (s.wr a w).fifos = s.fifos := rfl
@[simp] theorem State.wr_routePtr (a : Nat) (w : Word) : (s.wr a w).routePtr = s.routePtr := rfl
@[simp] theorem State.wr_queues (a : Nat) (w : Word) : (s.wr a w).queues = s.queues := rfl
@[simp] theorem State.wr_mram (a : Nat) (w : Word) : (s.wr a w).mram = s.mram := rfl
@[simp] theorem State.wr_wear (a : Nat) (w : Word) : (s.wr a w).wear = s.wear := rfl
@[simp] theorem State.wr_stage (a : Nat) (w : Word) : (s.wr a w).stage = s.stage := rfl
@[simp] theorem State.wr_cfgOp (a : Nat) (w : Word) : (s.wr a w).cfgOp = s.cfgOp := rfl
@[simp] theorem State.wr_entry (a : Nat) (w : Word) : (s.wr a w).entry = s.entry := rfl
@[simp] theorem State.wr_arb (a : Nat) (w : Word) : (s.wr a w).arb = s.arb := rfl
@[simp] theorem State.wr_u2pSt (a : Nat) (w : Word) : (s.wr a w).u2pSt = s.u2pSt := rfl
@[simp] theorem State.wr_hubCtx (a : Nat) (w : Word) : (s.wr a w).hubCtx = s.hubCtx := rfl
@[simp] theorem State.wr_sspSt (a : Nat) (w : Word) : (s.wr a w).sspSt = s.sspSt := rfl
@[simp] theorem State.wr_ssCtx (a : Nat) (w : Word) : (s.wr a w).ssCtx = s.ssCtx := rfl
@[simp] theorem State.wr_upLink (a : Nat) (w : Word) : (s.wr a w).upLink = s.upLink := rfl
@[simp] theorem State.wr_vbsSt (a : Nat) (w : Word) : (s.wr a w).vbsSt = s.vbsSt := rfl
@[simp] theorem State.wr_tcpSt (a : Nat) (w : Word) : (s.wr a w).tcpSt = s.tcpSt := rfl
@[simp] theorem State.wr_pdSt (a : Nat) (w : Word) : (s.wr a w).pdSt = s.pdSt := rfl
@[simp] theorem State.wr_upPdOut (a : Nat) (w : Word) : (s.wr a w).upPdOut = s.upPdOut := rfl
@[simp] theorem State.wr_upWant (a : Nat) (w : Word) : (s.wr a w).upWant = s.upWant := rfl
@[simp] theorem State.wr_conSt (a : Nat) (w : Word) : (s.wr a w).conSt = s.conSt := rfl
@[simp] theorem State.wr_presSt (a : Nat) (w : Word) : (s.wr a w).presSt = s.presSt := rfl
@[simp] theorem State.wr_moveCause (a : Nat) (w : Word) : (s.wr a w).moveCause = s.moveCause := rfl
@[simp] theorem State.wr_moveBegun (a : Nat) (w : Word) : (s.wr a w).moveBegun = s.moveBegun := rfl
@[simp] theorem State.wr_mgfSt (a : Nat) (w : Word) : (s.wr a w).mgfSt = s.mgfSt := rfl
@[simp] theorem State.wr_epm (a : Nat) (w : Word) : (s.wr a w).epm = s.epm := rfl
@[simp] theorem State.wr_graver (a : Nat) (w : Word) : (s.wr a w).graver = s.graver := rfl
@[simp] theorem State.wr_lheSt (a : Nat) (w : Word) : (s.wr a w).lheSt = s.lheSt := rfl
@[simp] theorem State.wr_dram (a : Nat) (w : Word) : (s.wr a w).dram = s.dram := rfl
@[simp] theorem State.wr_cpt (a : Nat) (w : Word) : (s.wr a w).cpt = s.cpt := rfl
@[simp] theorem State.wr_health (a : Nat) (w : Word) : (s.wr a w).health = s.health := rfl

/-! ### `put` -/

@[simp] theorem State.put_freeCount (pg : PageId) (f : Fld) (v : Nat) : (s.put pg f v).freeCount = s.freeCount := rfl
@[simp] theorem State.put_dclkOn (pg : PageId) (f : Fld) (v : Nat) : (s.put pg f v).dclkOn = s.dclkOn := rfl
@[simp] theorem State.put_gclkOn (pg : PageId) (f : Fld) (v : Nat) : (s.put pg f v).gclkOn = s.gclkOn := rfl
@[simp] theorem State.put_drcPend (pg : PageId) (f : Fld) (v : Nat) : (s.put pg f v).drcPend = s.drcPend := rfl
@[simp] theorem State.put_uptime (pg : PageId) (f : Fld) (v : Nat) : (s.put pg f v).uptime = s.uptime := rfl
@[simp] theorem State.put_phase (pg : PageId) (f : Fld) (v : Nat) : (s.put pg f v).phase = s.phase := rfl
@[simp] theorem State.put_copies (pg : PageId) (f : Fld) (v : Nat) : (s.put pg f v).copies = s.copies := rfl
@[simp] theorem State.put_guards (pg : PageId) (f : Fld) (v : Nat) : (s.put pg f v).guards = s.guards := rfl
@[simp] theorem State.put_runs (pg : PageId) (f : Fld) (v : Nat) : (s.put pg f v).runs = s.runs := rfl
@[simp] theorem State.put_mports (pg : PageId) (f : Fld) (v : Nat) : (s.put pg f v).mports = s.mports := rfl
@[simp] theorem State.put_ringSlots (pg : PageId) (f : Fld) (v : Nat) : (s.put pg f v).ringSlots = s.ringSlots := rfl
@[simp] theorem State.put_ringSides (pg : PageId) (f : Fld) (v : Nat) : (s.put pg f v).ringSides = s.ringSides := rfl
@[simp] theorem State.put_legacy (pg : PageId) (f : Fld) (v : Nat) : (s.put pg f v).legacy = s.legacy := rfl
@[simp] theorem State.put_routePtr (pg : PageId) (f : Fld) (v : Nat) : (s.put pg f v).routePtr = s.routePtr := rfl
@[simp] theorem State.put_queues (pg : PageId) (f : Fld) (v : Nat) : (s.put pg f v).queues = s.queues := rfl
@[simp] theorem State.put_mram (pg : PageId) (f : Fld) (v : Nat) : (s.put pg f v).mram = s.mram := rfl
@[simp] theorem State.put_wear (pg : PageId) (f : Fld) (v : Nat) : (s.put pg f v).wear = s.wear := rfl
@[simp] theorem State.put_stage (pg : PageId) (f : Fld) (v : Nat) : (s.put pg f v).stage = s.stage := rfl
@[simp] theorem State.put_cfgOp (pg : PageId) (f : Fld) (v : Nat) : (s.put pg f v).cfgOp = s.cfgOp := rfl
@[simp] theorem State.put_entry (pg : PageId) (f : Fld) (v : Nat) : (s.put pg f v).entry = s.entry := rfl
@[simp] theorem State.put_arb (pg : PageId) (f : Fld) (v : Nat) : (s.put pg f v).arb = s.arb := rfl
@[simp] theorem State.put_u2pSt (pg : PageId) (f : Fld) (v : Nat) : (s.put pg f v).u2pSt = s.u2pSt := rfl
@[simp] theorem State.put_hubCtx (pg : PageId) (f : Fld) (v : Nat) : (s.put pg f v).hubCtx = s.hubCtx := rfl
@[simp] theorem State.put_sspSt (pg : PageId) (f : Fld) (v : Nat) : (s.put pg f v).sspSt = s.sspSt := rfl
@[simp] theorem State.put_ssCtx (pg : PageId) (f : Fld) (v : Nat) : (s.put pg f v).ssCtx = s.ssCtx := rfl
@[simp] theorem State.put_upLink (pg : PageId) (f : Fld) (v : Nat) : (s.put pg f v).upLink = s.upLink := rfl
@[simp] theorem State.put_vbsSt (pg : PageId) (f : Fld) (v : Nat) : (s.put pg f v).vbsSt = s.vbsSt := rfl
@[simp] theorem State.put_tcpSt (pg : PageId) (f : Fld) (v : Nat) : (s.put pg f v).tcpSt = s.tcpSt := rfl
@[simp] theorem State.put_pdSt (pg : PageId) (f : Fld) (v : Nat) : (s.put pg f v).pdSt = s.pdSt := rfl
@[simp] theorem State.put_upPdOut (pg : PageId) (f : Fld) (v : Nat) : (s.put pg f v).upPdOut = s.upPdOut := rfl
@[simp] theorem State.put_upWant (pg : PageId) (f : Fld) (v : Nat) : (s.put pg f v).upWant = s.upWant := rfl
@[simp] theorem State.put_conSt (pg : PageId) (f : Fld) (v : Nat) : (s.put pg f v).conSt = s.conSt := rfl
@[simp] theorem State.put_presSt (pg : PageId) (f : Fld) (v : Nat) : (s.put pg f v).presSt = s.presSt := rfl
@[simp] theorem State.put_moveCause (pg : PageId) (f : Fld) (v : Nat) : (s.put pg f v).moveCause = s.moveCause := rfl
@[simp] theorem State.put_moveBegun (pg : PageId) (f : Fld) (v : Nat) : (s.put pg f v).moveBegun = s.moveBegun := rfl
@[simp] theorem State.put_mgfSt (pg : PageId) (f : Fld) (v : Nat) : (s.put pg f v).mgfSt = s.mgfSt := rfl
@[simp] theorem State.put_epm (pg : PageId) (f : Fld) (v : Nat) : (s.put pg f v).epm = s.epm := rfl
@[simp] theorem State.put_graver (pg : PageId) (f : Fld) (v : Nat) : (s.put pg f v).graver = s.graver := rfl
@[simp] theorem State.put_lheSt (pg : PageId) (f : Fld) (v : Nat) : (s.put pg f v).lheSt = s.lheSt := rfl
@[simp] theorem State.put_dram (pg : PageId) (f : Fld) (v : Nat) : (s.put pg f v).dram = s.dram := rfl
@[simp] theorem State.put_cpt (pg : PageId) (f : Fld) (v : Nat) : (s.put pg f v).cpt = s.cpt := rfl
@[simp] theorem State.put_health (pg : PageId) (f : Fld) (v : Nat) : (s.put pg f v).health = s.health := rfl

/-! ### `reply` -/

@[simp] theorem State.reply_pending (a : Answer) : (s.reply a).pending = s.pending := rfl
@[simp] theorem State.reply_answer (a : Answer) : (s.reply a).answer = a := rfl
@[simp] theorem State.reply_freeCount (a : Answer) : (s.reply a).freeCount = s.freeCount := rfl
@[simp] theorem State.reply_regs (a : Answer) : (s.reply a).regs = s.regs := rfl
@[simp] theorem State.reply_coreHeld (a : Answer) : (s.reply a).coreHeld = s.coreHeld := rfl
@[simp] theorem State.reply_dclkOn (a : Answer) : (s.reply a).dclkOn = s.dclkOn := rfl
@[simp] theorem State.reply_gclkOn (a : Answer) : (s.reply a).gclkOn = s.gclkOn := rfl
@[simp] theorem State.reply_drcPend (a : Answer) : (s.reply a).drcPend = s.drcPend := rfl
@[simp] theorem State.reply_uptime (a : Answer) : (s.reply a).uptime = s.uptime := rfl
@[simp] theorem State.reply_phase (a : Answer) : (s.reply a).phase = s.phase := rfl
@[simp] theorem State.reply_copies (a : Answer) : (s.reply a).copies = s.copies := rfl
@[simp] theorem State.reply_guards (a : Answer) : (s.reply a).guards = s.guards := rfl
@[simp] theorem State.reply_bad (a : Answer) : (s.reply a).bad = s.bad := rfl
@[simp] theorem State.reply_runs (a : Answer) : (s.reply a).runs = s.runs := rfl
@[simp] theorem State.reply_mports (a : Answer) : (s.reply a).mports = s.mports := rfl
@[simp] theorem State.reply_ringSlots (a : Answer) : (s.reply a).ringSlots = s.ringSlots := rfl
@[simp] theorem State.reply_ringSides (a : Answer) : (s.reply a).ringSides = s.ringSides := rfl
@[simp] theorem State.reply_legacy (a : Answer) : (s.reply a).legacy = s.legacy := rfl
@[simp] theorem State.reply_fifos (a : Answer) : (s.reply a).fifos = s.fifos := rfl
@[simp] theorem State.reply_routePtr (a : Answer) : (s.reply a).routePtr = s.routePtr := rfl
@[simp] theorem State.reply_queues (a : Answer) : (s.reply a).queues = s.queues := rfl
@[simp] theorem State.reply_mram (a : Answer) : (s.reply a).mram = s.mram := rfl
@[simp] theorem State.reply_wear (a : Answer) : (s.reply a).wear = s.wear := rfl
@[simp] theorem State.reply_stage (a : Answer) : (s.reply a).stage = s.stage := rfl
@[simp] theorem State.reply_cfgOp (a : Answer) : (s.reply a).cfgOp = s.cfgOp := rfl
@[simp] theorem State.reply_entry (a : Answer) : (s.reply a).entry = s.entry := rfl
@[simp] theorem State.reply_arb (a : Answer) : (s.reply a).arb = s.arb := rfl
@[simp] theorem State.reply_u2pSt (a : Answer) : (s.reply a).u2pSt = s.u2pSt := rfl
@[simp] theorem State.reply_hubCtx (a : Answer) : (s.reply a).hubCtx = s.hubCtx := rfl
@[simp] theorem State.reply_sspSt (a : Answer) : (s.reply a).sspSt = s.sspSt := rfl
@[simp] theorem State.reply_ssCtx (a : Answer) : (s.reply a).ssCtx = s.ssCtx := rfl
@[simp] theorem State.reply_upLink (a : Answer) : (s.reply a).upLink = s.upLink := rfl
@[simp] theorem State.reply_vbsSt (a : Answer) : (s.reply a).vbsSt = s.vbsSt := rfl
@[simp] theorem State.reply_tcpSt (a : Answer) : (s.reply a).tcpSt = s.tcpSt := rfl
@[simp] theorem State.reply_pdSt (a : Answer) : (s.reply a).pdSt = s.pdSt := rfl
@[simp] theorem State.reply_upPdOut (a : Answer) : (s.reply a).upPdOut = s.upPdOut := rfl
@[simp] theorem State.reply_upWant (a : Answer) : (s.reply a).upWant = s.upWant := rfl
@[simp] theorem State.reply_conSt (a : Answer) : (s.reply a).conSt = s.conSt := rfl
@[simp] theorem State.reply_presSt (a : Answer) : (s.reply a).presSt = s.presSt := rfl
@[simp] theorem State.reply_moveCause (a : Answer) : (s.reply a).moveCause = s.moveCause := rfl
@[simp] theorem State.reply_moveBegun (a : Answer) : (s.reply a).moveBegun = s.moveBegun := rfl
@[simp] theorem State.reply_mgfSt (a : Answer) : (s.reply a).mgfSt = s.mgfSt := rfl
@[simp] theorem State.reply_epm (a : Answer) : (s.reply a).epm = s.epm := rfl
@[simp] theorem State.reply_graver (a : Answer) : (s.reply a).graver = s.graver := rfl
@[simp] theorem State.reply_lheSt (a : Answer) : (s.reply a).lheSt = s.lheSt := rfl
@[simp] theorem State.reply_dram (a : Answer) : (s.reply a).dram = s.dram := rfl
@[simp] theorem State.reply_cpt (a : Answer) : (s.reply a).cpt = s.cpt := rfl
@[simp] theorem State.reply_health (a : Answer) : (s.reply a).health = s.health := rfl

/-! ### `withPending` -/

@[simp] theorem State.withPending_pending (q : List Instr) : (s.withPending q).pending = q := rfl
@[simp] theorem State.withPending_answer (q : List Instr) : (s.withPending q).answer = s.answer := rfl
@[simp] theorem State.withPending_freeCount (q : List Instr) : (s.withPending q).freeCount = s.freeCount := rfl
@[simp] theorem State.withPending_regs (q : List Instr) : (s.withPending q).regs = s.regs := rfl
@[simp] theorem State.withPending_coreHeld (q : List Instr) : (s.withPending q).coreHeld = s.coreHeld := rfl
@[simp] theorem State.withPending_dclkOn (q : List Instr) : (s.withPending q).dclkOn = s.dclkOn := rfl
@[simp] theorem State.withPending_gclkOn (q : List Instr) : (s.withPending q).gclkOn = s.gclkOn := rfl
@[simp] theorem State.withPending_drcPend (q : List Instr) : (s.withPending q).drcPend = s.drcPend := rfl
@[simp] theorem State.withPending_uptime (q : List Instr) : (s.withPending q).uptime = s.uptime := rfl
@[simp] theorem State.withPending_phase (q : List Instr) : (s.withPending q).phase = s.phase := rfl
@[simp] theorem State.withPending_copies (q : List Instr) : (s.withPending q).copies = s.copies := rfl
@[simp] theorem State.withPending_guards (q : List Instr) : (s.withPending q).guards = s.guards := rfl
@[simp] theorem State.withPending_bad (q : List Instr) : (s.withPending q).bad = s.bad := rfl
@[simp] theorem State.withPending_runs (q : List Instr) : (s.withPending q).runs = s.runs := rfl
@[simp] theorem State.withPending_mports (q : List Instr) : (s.withPending q).mports = s.mports := rfl
@[simp] theorem State.withPending_ringSlots (q : List Instr) : (s.withPending q).ringSlots = s.ringSlots := rfl
@[simp] theorem State.withPending_ringSides (q : List Instr) : (s.withPending q).ringSides = s.ringSides := rfl
@[simp] theorem State.withPending_legacy (q : List Instr) : (s.withPending q).legacy = s.legacy := rfl
@[simp] theorem State.withPending_fifos (q : List Instr) : (s.withPending q).fifos = s.fifos := rfl
@[simp] theorem State.withPending_routePtr (q : List Instr) : (s.withPending q).routePtr = s.routePtr := rfl
@[simp] theorem State.withPending_queues (q : List Instr) : (s.withPending q).queues = s.queues := rfl
@[simp] theorem State.withPending_mram (q : List Instr) : (s.withPending q).mram = s.mram := rfl
@[simp] theorem State.withPending_wear (q : List Instr) : (s.withPending q).wear = s.wear := rfl
@[simp] theorem State.withPending_stage (q : List Instr) : (s.withPending q).stage = s.stage := rfl
@[simp] theorem State.withPending_cfgOp (q : List Instr) : (s.withPending q).cfgOp = s.cfgOp := rfl
@[simp] theorem State.withPending_entry (q : List Instr) : (s.withPending q).entry = s.entry := rfl
@[simp] theorem State.withPending_arb (q : List Instr) : (s.withPending q).arb = s.arb := rfl
@[simp] theorem State.withPending_u2pSt (q : List Instr) : (s.withPending q).u2pSt = s.u2pSt := rfl
@[simp] theorem State.withPending_hubCtx (q : List Instr) : (s.withPending q).hubCtx = s.hubCtx := rfl
@[simp] theorem State.withPending_sspSt (q : List Instr) : (s.withPending q).sspSt = s.sspSt := rfl
@[simp] theorem State.withPending_ssCtx (q : List Instr) : (s.withPending q).ssCtx = s.ssCtx := rfl
@[simp] theorem State.withPending_upLink (q : List Instr) : (s.withPending q).upLink = s.upLink := rfl
@[simp] theorem State.withPending_vbsSt (q : List Instr) : (s.withPending q).vbsSt = s.vbsSt := rfl
@[simp] theorem State.withPending_tcpSt (q : List Instr) : (s.withPending q).tcpSt = s.tcpSt := rfl
@[simp] theorem State.withPending_pdSt (q : List Instr) : (s.withPending q).pdSt = s.pdSt := rfl
@[simp] theorem State.withPending_upPdOut (q : List Instr) : (s.withPending q).upPdOut = s.upPdOut := rfl
@[simp] theorem State.withPending_upWant (q : List Instr) : (s.withPending q).upWant = s.upWant := rfl
@[simp] theorem State.withPending_conSt (q : List Instr) : (s.withPending q).conSt = s.conSt := rfl
@[simp] theorem State.withPending_presSt (q : List Instr) : (s.withPending q).presSt = s.presSt := rfl
@[simp] theorem State.withPending_moveCause (q : List Instr) : (s.withPending q).moveCause = s.moveCause := rfl
@[simp] theorem State.withPending_moveBegun (q : List Instr) : (s.withPending q).moveBegun = s.moveBegun := rfl
@[simp] theorem State.withPending_mgfSt (q : List Instr) : (s.withPending q).mgfSt = s.mgfSt := rfl
@[simp] theorem State.withPending_epm (q : List Instr) : (s.withPending q).epm = s.epm := rfl
@[simp] theorem State.withPending_graver (q : List Instr) : (s.withPending q).graver = s.graver := rfl
@[simp] theorem State.withPending_lheSt (q : List Instr) : (s.withPending q).lheSt = s.lheSt := rfl
@[simp] theorem State.withPending_dram (q : List Instr) : (s.withPending q).dram = s.dram := rfl
@[simp] theorem State.withPending_cpt (q : List Instr) : (s.withPending q).cpt = s.cpt := rfl
@[simp] theorem State.withPending_health (q : List Instr) : (s.withPending q).health = s.health := rfl

/-! ### `setRuns` -/

@[simp] theorem State.setRuns_pending (rs : List AccessRun) : (s.setRuns rs).pending = s.pending := rfl
@[simp] theorem State.setRuns_answer (rs : List AccessRun) : (s.setRuns rs).answer = s.answer := rfl
@[simp] theorem State.setRuns_freeCount (rs : List AccessRun) : (s.setRuns rs).freeCount = s.freeCount := rfl
@[simp] theorem State.setRuns_regs (rs : List AccessRun) : (s.setRuns rs).regs = s.regs := rfl
@[simp] theorem State.setRuns_coreHeld (rs : List AccessRun) : (s.setRuns rs).coreHeld = s.coreHeld := rfl
@[simp] theorem State.setRuns_dclkOn (rs : List AccessRun) : (s.setRuns rs).dclkOn = s.dclkOn := rfl
@[simp] theorem State.setRuns_gclkOn (rs : List AccessRun) : (s.setRuns rs).gclkOn = s.gclkOn := rfl
@[simp] theorem State.setRuns_drcPend (rs : List AccessRun) : (s.setRuns rs).drcPend = s.drcPend := rfl
@[simp] theorem State.setRuns_uptime (rs : List AccessRun) : (s.setRuns rs).uptime = s.uptime := rfl
@[simp] theorem State.setRuns_phase (rs : List AccessRun) : (s.setRuns rs).phase = s.phase := rfl
@[simp] theorem State.setRuns_copies (rs : List AccessRun) : (s.setRuns rs).copies = s.copies := rfl
@[simp] theorem State.setRuns_guards (rs : List AccessRun) : (s.setRuns rs).guards = s.guards := rfl
@[simp] theorem State.setRuns_bad (rs : List AccessRun) : (s.setRuns rs).bad = s.bad := rfl
@[simp] theorem State.setRuns_runs (rs : List AccessRun) : (s.setRuns rs).runs = rs := rfl
@[simp] theorem State.setRuns_mports (rs : List AccessRun) : (s.setRuns rs).mports = s.mports := rfl
@[simp] theorem State.setRuns_ringSlots (rs : List AccessRun) : (s.setRuns rs).ringSlots = s.ringSlots := rfl
@[simp] theorem State.setRuns_ringSides (rs : List AccessRun) : (s.setRuns rs).ringSides = s.ringSides := rfl
@[simp] theorem State.setRuns_legacy (rs : List AccessRun) : (s.setRuns rs).legacy = s.legacy := rfl
@[simp] theorem State.setRuns_fifos (rs : List AccessRun) : (s.setRuns rs).fifos = s.fifos := rfl
@[simp] theorem State.setRuns_routePtr (rs : List AccessRun) : (s.setRuns rs).routePtr = s.routePtr := rfl
@[simp] theorem State.setRuns_queues (rs : List AccessRun) : (s.setRuns rs).queues = s.queues := rfl
@[simp] theorem State.setRuns_mram (rs : List AccessRun) : (s.setRuns rs).mram = s.mram := rfl
@[simp] theorem State.setRuns_wear (rs : List AccessRun) : (s.setRuns rs).wear = s.wear := rfl
@[simp] theorem State.setRuns_stage (rs : List AccessRun) : (s.setRuns rs).stage = s.stage := rfl
@[simp] theorem State.setRuns_cfgOp (rs : List AccessRun) : (s.setRuns rs).cfgOp = s.cfgOp := rfl
@[simp] theorem State.setRuns_entry (rs : List AccessRun) : (s.setRuns rs).entry = s.entry := rfl
@[simp] theorem State.setRuns_arb (rs : List AccessRun) : (s.setRuns rs).arb = s.arb := rfl
@[simp] theorem State.setRuns_u2pSt (rs : List AccessRun) : (s.setRuns rs).u2pSt = s.u2pSt := rfl
@[simp] theorem State.setRuns_hubCtx (rs : List AccessRun) : (s.setRuns rs).hubCtx = s.hubCtx := rfl
@[simp] theorem State.setRuns_sspSt (rs : List AccessRun) : (s.setRuns rs).sspSt = s.sspSt := rfl
@[simp] theorem State.setRuns_ssCtx (rs : List AccessRun) : (s.setRuns rs).ssCtx = s.ssCtx := rfl
@[simp] theorem State.setRuns_upLink (rs : List AccessRun) : (s.setRuns rs).upLink = s.upLink := rfl
@[simp] theorem State.setRuns_vbsSt (rs : List AccessRun) : (s.setRuns rs).vbsSt = s.vbsSt := rfl
@[simp] theorem State.setRuns_tcpSt (rs : List AccessRun) : (s.setRuns rs).tcpSt = s.tcpSt := rfl
@[simp] theorem State.setRuns_pdSt (rs : List AccessRun) : (s.setRuns rs).pdSt = s.pdSt := rfl
@[simp] theorem State.setRuns_upPdOut (rs : List AccessRun) : (s.setRuns rs).upPdOut = s.upPdOut := rfl
@[simp] theorem State.setRuns_upWant (rs : List AccessRun) : (s.setRuns rs).upWant = s.upWant := rfl
@[simp] theorem State.setRuns_conSt (rs : List AccessRun) : (s.setRuns rs).conSt = s.conSt := rfl
@[simp] theorem State.setRuns_presSt (rs : List AccessRun) : (s.setRuns rs).presSt = s.presSt := rfl
@[simp] theorem State.setRuns_moveCause (rs : List AccessRun) : (s.setRuns rs).moveCause = s.moveCause := rfl
@[simp] theorem State.setRuns_moveBegun (rs : List AccessRun) : (s.setRuns rs).moveBegun = s.moveBegun := rfl
@[simp] theorem State.setRuns_mgfSt (rs : List AccessRun) : (s.setRuns rs).mgfSt = s.mgfSt := rfl
@[simp] theorem State.setRuns_epm (rs : List AccessRun) : (s.setRuns rs).epm = s.epm := rfl
@[simp] theorem State.setRuns_graver (rs : List AccessRun) : (s.setRuns rs).graver = s.graver := rfl
@[simp] theorem State.setRuns_lheSt (rs : List AccessRun) : (s.setRuns rs).lheSt = s.lheSt := rfl
@[simp] theorem State.setRuns_dram (rs : List AccessRun) : (s.setRuns rs).dram = s.dram := rfl
@[simp] theorem State.setRuns_cpt (rs : List AccessRun) : (s.setRuns rs).cpt = s.cpt := rfl
@[simp] theorem State.setRuns_health (rs : List AccessRun) : (s.setRuns rs).health = s.health := rfl

/-! ### `setPair` -/

@[simp] theorem State.setPair_pending (i : Ident) (g : Option GuardPair) : (s.setPair i g).pending = s.pending := rfl
@[simp] theorem State.setPair_answer (i : Ident) (g : Option GuardPair) : (s.setPair i g).answer = s.answer := rfl
@[simp] theorem State.setPair_freeCount (i : Ident) (g : Option GuardPair) : (s.setPair i g).freeCount = s.freeCount := rfl
@[simp] theorem State.setPair_regs (i : Ident) (g : Option GuardPair) : (s.setPair i g).regs = s.regs := rfl
@[simp] theorem State.setPair_coreHeld (i : Ident) (g : Option GuardPair) : (s.setPair i g).coreHeld = s.coreHeld := rfl
@[simp] theorem State.setPair_dclkOn (i : Ident) (g : Option GuardPair) : (s.setPair i g).dclkOn = s.dclkOn := rfl
@[simp] theorem State.setPair_gclkOn (i : Ident) (g : Option GuardPair) : (s.setPair i g).gclkOn = s.gclkOn := rfl
@[simp] theorem State.setPair_drcPend (i : Ident) (g : Option GuardPair) : (s.setPair i g).drcPend = s.drcPend := rfl
@[simp] theorem State.setPair_uptime (i : Ident) (g : Option GuardPair) : (s.setPair i g).uptime = s.uptime := rfl
@[simp] theorem State.setPair_phase (i : Ident) (g : Option GuardPair) : (s.setPair i g).phase = s.phase := rfl
@[simp] theorem State.setPair_copies (i : Ident) (g : Option GuardPair) : (s.setPair i g).copies = s.copies := rfl
@[simp] theorem State.setPair_bad (i : Ident) (g : Option GuardPair) : (s.setPair i g).bad = s.bad := rfl
@[simp] theorem State.setPair_runs (i : Ident) (g : Option GuardPair) : (s.setPair i g).runs = s.runs := rfl
@[simp] theorem State.setPair_mports (i : Ident) (g : Option GuardPair) : (s.setPair i g).mports = s.mports := rfl
@[simp] theorem State.setPair_ringSlots (i : Ident) (g : Option GuardPair) : (s.setPair i g).ringSlots = s.ringSlots := rfl
@[simp] theorem State.setPair_ringSides (i : Ident) (g : Option GuardPair) : (s.setPair i g).ringSides = s.ringSides := rfl
@[simp] theorem State.setPair_legacy (i : Ident) (g : Option GuardPair) : (s.setPair i g).legacy = s.legacy := rfl
@[simp] theorem State.setPair_fifos (i : Ident) (g : Option GuardPair) : (s.setPair i g).fifos = s.fifos := rfl
@[simp] theorem State.setPair_routePtr (i : Ident) (g : Option GuardPair) : (s.setPair i g).routePtr = s.routePtr := rfl
@[simp] theorem State.setPair_queues (i : Ident) (g : Option GuardPair) : (s.setPair i g).queues = s.queues := rfl
@[simp] theorem State.setPair_mram (i : Ident) (g : Option GuardPair) : (s.setPair i g).mram = s.mram := rfl
@[simp] theorem State.setPair_wear (i : Ident) (g : Option GuardPair) : (s.setPair i g).wear = s.wear := rfl
@[simp] theorem State.setPair_stage (i : Ident) (g : Option GuardPair) : (s.setPair i g).stage = s.stage := rfl
@[simp] theorem State.setPair_cfgOp (i : Ident) (g : Option GuardPair) : (s.setPair i g).cfgOp = s.cfgOp := rfl
@[simp] theorem State.setPair_entry (i : Ident) (g : Option GuardPair) : (s.setPair i g).entry = s.entry := rfl
@[simp] theorem State.setPair_arb (i : Ident) (g : Option GuardPair) : (s.setPair i g).arb = s.arb := rfl
@[simp] theorem State.setPair_u2pSt (i : Ident) (g : Option GuardPair) : (s.setPair i g).u2pSt = s.u2pSt := rfl
@[simp] theorem State.setPair_hubCtx (i : Ident) (g : Option GuardPair) : (s.setPair i g).hubCtx = s.hubCtx := rfl
@[simp] theorem State.setPair_sspSt (i : Ident) (g : Option GuardPair) : (s.setPair i g).sspSt = s.sspSt := rfl
@[simp] theorem State.setPair_ssCtx (i : Ident) (g : Option GuardPair) : (s.setPair i g).ssCtx = s.ssCtx := rfl
@[simp] theorem State.setPair_upLink (i : Ident) (g : Option GuardPair) : (s.setPair i g).upLink = s.upLink := rfl
@[simp] theorem State.setPair_vbsSt (i : Ident) (g : Option GuardPair) : (s.setPair i g).vbsSt = s.vbsSt := rfl
@[simp] theorem State.setPair_tcpSt (i : Ident) (g : Option GuardPair) : (s.setPair i g).tcpSt = s.tcpSt := rfl
@[simp] theorem State.setPair_pdSt (i : Ident) (g : Option GuardPair) : (s.setPair i g).pdSt = s.pdSt := rfl
@[simp] theorem State.setPair_upPdOut (i : Ident) (g : Option GuardPair) : (s.setPair i g).upPdOut = s.upPdOut := rfl
@[simp] theorem State.setPair_upWant (i : Ident) (g : Option GuardPair) : (s.setPair i g).upWant = s.upWant := rfl
@[simp] theorem State.setPair_conSt (i : Ident) (g : Option GuardPair) : (s.setPair i g).conSt = s.conSt := rfl
@[simp] theorem State.setPair_presSt (i : Ident) (g : Option GuardPair) : (s.setPair i g).presSt = s.presSt := rfl
@[simp] theorem State.setPair_moveCause (i : Ident) (g : Option GuardPair) : (s.setPair i g).moveCause = s.moveCause := rfl
@[simp] theorem State.setPair_moveBegun (i : Ident) (g : Option GuardPair) : (s.setPair i g).moveBegun = s.moveBegun := rfl
@[simp] theorem State.setPair_mgfSt (i : Ident) (g : Option GuardPair) : (s.setPair i g).mgfSt = s.mgfSt := rfl
@[simp] theorem State.setPair_epm (i : Ident) (g : Option GuardPair) : (s.setPair i g).epm = s.epm := rfl
@[simp] theorem State.setPair_graver (i : Ident) (g : Option GuardPair) : (s.setPair i g).graver = s.graver := rfl
@[simp] theorem State.setPair_lheSt (i : Ident) (g : Option GuardPair) : (s.setPair i g).lheSt = s.lheSt := rfl
@[simp] theorem State.setPair_dram (i : Ident) (g : Option GuardPair) : (s.setPair i g).dram = s.dram := rfl
@[simp] theorem State.setPair_cpt (i : Ident) (g : Option GuardPair) : (s.setPair i g).cpt = s.cpt := rfl
@[simp] theorem State.setPair_health (i : Ident) (g : Option GuardPair) : (s.setPair i g).health = s.health := rfl

/-! ### `setFifo` -/

@[simp] theorem State.setFifo_pending (n : Nat) (f : Fifo) : (s.setFifo n f).pending = s.pending := rfl
@[simp] theorem State.setFifo_answer (n : Nat) (f : Fifo) : (s.setFifo n f).answer = s.answer := rfl
@[simp] theorem State.setFifo_freeCount (n : Nat) (f : Fifo) : (s.setFifo n f).freeCount = s.freeCount := rfl
@[simp] theorem State.setFifo_regs (n : Nat) (f : Fifo) : (s.setFifo n f).regs = s.regs := rfl
@[simp] theorem State.setFifo_coreHeld (n : Nat) (f : Fifo) : (s.setFifo n f).coreHeld = s.coreHeld := rfl
@[simp] theorem State.setFifo_dclkOn (n : Nat) (f : Fifo) : (s.setFifo n f).dclkOn = s.dclkOn := rfl
@[simp] theorem State.setFifo_gclkOn (n : Nat) (f : Fifo) : (s.setFifo n f).gclkOn = s.gclkOn := rfl
@[simp] theorem State.setFifo_drcPend (n : Nat) (f : Fifo) : (s.setFifo n f).drcPend = s.drcPend := rfl
@[simp] theorem State.setFifo_uptime (n : Nat) (f : Fifo) : (s.setFifo n f).uptime = s.uptime := rfl
@[simp] theorem State.setFifo_phase (n : Nat) (f : Fifo) : (s.setFifo n f).phase = s.phase := rfl
@[simp] theorem State.setFifo_copies (n : Nat) (f : Fifo) : (s.setFifo n f).copies = s.copies := rfl
@[simp] theorem State.setFifo_guards (n : Nat) (f : Fifo) : (s.setFifo n f).guards = s.guards := rfl
@[simp] theorem State.setFifo_bad (n : Nat) (f : Fifo) : (s.setFifo n f).bad = s.bad := rfl
@[simp] theorem State.setFifo_runs (n : Nat) (f : Fifo) : (s.setFifo n f).runs = s.runs := rfl
@[simp] theorem State.setFifo_mports (n : Nat) (f : Fifo) : (s.setFifo n f).mports = s.mports := rfl
@[simp] theorem State.setFifo_ringSlots (n : Nat) (f : Fifo) : (s.setFifo n f).ringSlots = s.ringSlots := rfl
@[simp] theorem State.setFifo_ringSides (n : Nat) (f : Fifo) : (s.setFifo n f).ringSides = s.ringSides := rfl
@[simp] theorem State.setFifo_legacy (n : Nat) (f : Fifo) : (s.setFifo n f).legacy = s.legacy := rfl
@[simp] theorem State.setFifo_fifos (n : Nat) (f : Fifo) : (s.setFifo n f).fifos = Sparse.put (fun _ => emptyFifo) s.fifos n f := rfl
@[simp] theorem State.setFifo_routePtr (n : Nat) (f : Fifo) : (s.setFifo n f).routePtr = s.routePtr := rfl
@[simp] theorem State.setFifo_queues (n : Nat) (f : Fifo) : (s.setFifo n f).queues = s.queues := rfl
@[simp] theorem State.setFifo_mram (n : Nat) (f : Fifo) : (s.setFifo n f).mram = s.mram := rfl
@[simp] theorem State.setFifo_wear (n : Nat) (f : Fifo) : (s.setFifo n f).wear = s.wear := rfl
@[simp] theorem State.setFifo_stage (n : Nat) (f : Fifo) : (s.setFifo n f).stage = s.stage := rfl
@[simp] theorem State.setFifo_cfgOp (n : Nat) (f : Fifo) : (s.setFifo n f).cfgOp = s.cfgOp := rfl
@[simp] theorem State.setFifo_entry (n : Nat) (f : Fifo) : (s.setFifo n f).entry = s.entry := rfl
@[simp] theorem State.setFifo_arb (n : Nat) (f : Fifo) : (s.setFifo n f).arb = s.arb := rfl
@[simp] theorem State.setFifo_u2pSt (n : Nat) (f : Fifo) : (s.setFifo n f).u2pSt = s.u2pSt := rfl
@[simp] theorem State.setFifo_hubCtx (n : Nat) (f : Fifo) : (s.setFifo n f).hubCtx = s.hubCtx := rfl
@[simp] theorem State.setFifo_sspSt (n : Nat) (f : Fifo) : (s.setFifo n f).sspSt = s.sspSt := rfl
@[simp] theorem State.setFifo_ssCtx (n : Nat) (f : Fifo) : (s.setFifo n f).ssCtx = s.ssCtx := rfl
@[simp] theorem State.setFifo_upLink (n : Nat) (f : Fifo) : (s.setFifo n f).upLink = s.upLink := rfl
@[simp] theorem State.setFifo_vbsSt (n : Nat) (f : Fifo) : (s.setFifo n f).vbsSt = s.vbsSt := rfl
@[simp] theorem State.setFifo_tcpSt (n : Nat) (f : Fifo) : (s.setFifo n f).tcpSt = s.tcpSt := rfl
@[simp] theorem State.setFifo_pdSt (n : Nat) (f : Fifo) : (s.setFifo n f).pdSt = s.pdSt := rfl
@[simp] theorem State.setFifo_upPdOut (n : Nat) (f : Fifo) : (s.setFifo n f).upPdOut = s.upPdOut := rfl
@[simp] theorem State.setFifo_upWant (n : Nat) (f : Fifo) : (s.setFifo n f).upWant = s.upWant := rfl
@[simp] theorem State.setFifo_conSt (n : Nat) (f : Fifo) : (s.setFifo n f).conSt = s.conSt := rfl
@[simp] theorem State.setFifo_presSt (n : Nat) (f : Fifo) : (s.setFifo n f).presSt = s.presSt := rfl
@[simp] theorem State.setFifo_moveCause (n : Nat) (f : Fifo) : (s.setFifo n f).moveCause = s.moveCause := rfl
@[simp] theorem State.setFifo_moveBegun (n : Nat) (f : Fifo) : (s.setFifo n f).moveBegun = s.moveBegun := rfl
@[simp] theorem State.setFifo_mgfSt (n : Nat) (f : Fifo) : (s.setFifo n f).mgfSt = s.mgfSt := rfl
@[simp] theorem State.setFifo_epm (n : Nat) (f : Fifo) : (s.setFifo n f).epm = s.epm := rfl
@[simp] theorem State.setFifo_graver (n : Nat) (f : Fifo) : (s.setFifo n f).graver = s.graver := rfl
@[simp] theorem State.setFifo_lheSt (n : Nat) (f : Fifo) : (s.setFifo n f).lheSt = s.lheSt := rfl
@[simp] theorem State.setFifo_dram (n : Nat) (f : Fifo) : (s.setFifo n f).dram = s.dram := rfl
@[simp] theorem State.setFifo_cpt (n : Nat) (f : Fifo) : (s.setFifo n f).cpt = s.cpt := rfl
@[simp] theorem State.setFifo_health (n : Nat) (f : Fifo) : (s.setFifo n f).health = s.health := rfl

/-! ### `setQueue` -/

@[simp] theorem State.setQueue_pending (n : QueueIx) (q : Queue) : (s.setQueue n q).pending = s.pending := rfl
@[simp] theorem State.setQueue_answer (n : QueueIx) (q : Queue) : (s.setQueue n q).answer = s.answer := rfl
@[simp] theorem State.setQueue_freeCount (n : QueueIx) (q : Queue) : (s.setQueue n q).freeCount = s.freeCount := rfl
@[simp] theorem State.setQueue_regs (n : QueueIx) (q : Queue) : (s.setQueue n q).regs = s.regs := rfl
@[simp] theorem State.setQueue_coreHeld (n : QueueIx) (q : Queue) : (s.setQueue n q).coreHeld = s.coreHeld := rfl
@[simp] theorem State.setQueue_dclkOn (n : QueueIx) (q : Queue) : (s.setQueue n q).dclkOn = s.dclkOn := rfl
@[simp] theorem State.setQueue_gclkOn (n : QueueIx) (q : Queue) : (s.setQueue n q).gclkOn = s.gclkOn := rfl
@[simp] theorem State.setQueue_drcPend (n : QueueIx) (q : Queue) : (s.setQueue n q).drcPend = s.drcPend := rfl
@[simp] theorem State.setQueue_uptime (n : QueueIx) (q : Queue) : (s.setQueue n q).uptime = s.uptime := rfl
@[simp] theorem State.setQueue_phase (n : QueueIx) (q : Queue) : (s.setQueue n q).phase = s.phase := rfl
@[simp] theorem State.setQueue_copies (n : QueueIx) (q : Queue) : (s.setQueue n q).copies = s.copies := rfl
@[simp] theorem State.setQueue_guards (n : QueueIx) (q : Queue) : (s.setQueue n q).guards = s.guards := rfl
@[simp] theorem State.setQueue_bad (n : QueueIx) (q : Queue) : (s.setQueue n q).bad = s.bad := rfl
@[simp] theorem State.setQueue_runs (n : QueueIx) (q : Queue) : (s.setQueue n q).runs = s.runs := rfl
@[simp] theorem State.setQueue_mports (n : QueueIx) (q : Queue) : (s.setQueue n q).mports = s.mports := rfl
@[simp] theorem State.setQueue_ringSlots (n : QueueIx) (q : Queue) : (s.setQueue n q).ringSlots = s.ringSlots := rfl
@[simp] theorem State.setQueue_ringSides (n : QueueIx) (q : Queue) : (s.setQueue n q).ringSides = s.ringSides := rfl
@[simp] theorem State.setQueue_legacy (n : QueueIx) (q : Queue) : (s.setQueue n q).legacy = s.legacy := rfl
@[simp] theorem State.setQueue_fifos (n : QueueIx) (q : Queue) : (s.setQueue n q).fifos = s.fifos := rfl
@[simp] theorem State.setQueue_routePtr (n : QueueIx) (q : Queue) : (s.setQueue n q).routePtr = s.routePtr := rfl
@[simp] theorem State.setQueue_queues (n : QueueIx) (q : Queue) : (s.setQueue n q).queues = s.queues.set n q := rfl
@[simp] theorem State.setQueue_mram (n : QueueIx) (q : Queue) : (s.setQueue n q).mram = s.mram := rfl
@[simp] theorem State.setQueue_wear (n : QueueIx) (q : Queue) : (s.setQueue n q).wear = s.wear := rfl
@[simp] theorem State.setQueue_stage (n : QueueIx) (q : Queue) : (s.setQueue n q).stage = s.stage := rfl
@[simp] theorem State.setQueue_cfgOp (n : QueueIx) (q : Queue) : (s.setQueue n q).cfgOp = s.cfgOp := rfl
@[simp] theorem State.setQueue_entry (n : QueueIx) (q : Queue) : (s.setQueue n q).entry = s.entry := rfl
@[simp] theorem State.setQueue_arb (n : QueueIx) (q : Queue) : (s.setQueue n q).arb = s.arb := rfl
@[simp] theorem State.setQueue_u2pSt (n : QueueIx) (q : Queue) : (s.setQueue n q).u2pSt = s.u2pSt := rfl
@[simp] theorem State.setQueue_hubCtx (n : QueueIx) (q : Queue) : (s.setQueue n q).hubCtx = s.hubCtx := rfl
@[simp] theorem State.setQueue_sspSt (n : QueueIx) (q : Queue) : (s.setQueue n q).sspSt = s.sspSt := rfl
@[simp] theorem State.setQueue_ssCtx (n : QueueIx) (q : Queue) : (s.setQueue n q).ssCtx = s.ssCtx := rfl
@[simp] theorem State.setQueue_upLink (n : QueueIx) (q : Queue) : (s.setQueue n q).upLink = s.upLink := rfl
@[simp] theorem State.setQueue_vbsSt (n : QueueIx) (q : Queue) : (s.setQueue n q).vbsSt = s.vbsSt := rfl
@[simp] theorem State.setQueue_tcpSt (n : QueueIx) (q : Queue) : (s.setQueue n q).tcpSt = s.tcpSt := rfl
@[simp] theorem State.setQueue_pdSt (n : QueueIx) (q : Queue) : (s.setQueue n q).pdSt = s.pdSt := rfl
@[simp] theorem State.setQueue_upPdOut (n : QueueIx) (q : Queue) : (s.setQueue n q).upPdOut = s.upPdOut := rfl
@[simp] theorem State.setQueue_upWant (n : QueueIx) (q : Queue) : (s.setQueue n q).upWant = s.upWant := rfl
@[simp] theorem State.setQueue_conSt (n : QueueIx) (q : Queue) : (s.setQueue n q).conSt = s.conSt := rfl
@[simp] theorem State.setQueue_presSt (n : QueueIx) (q : Queue) : (s.setQueue n q).presSt = s.presSt := rfl
@[simp] theorem State.setQueue_moveCause (n : QueueIx) (q : Queue) : (s.setQueue n q).moveCause = s.moveCause := rfl
@[simp] theorem State.setQueue_moveBegun (n : QueueIx) (q : Queue) : (s.setQueue n q).moveBegun = s.moveBegun := rfl
@[simp] theorem State.setQueue_mgfSt (n : QueueIx) (q : Queue) : (s.setQueue n q).mgfSt = s.mgfSt := rfl
@[simp] theorem State.setQueue_epm (n : QueueIx) (q : Queue) : (s.setQueue n q).epm = s.epm := rfl
@[simp] theorem State.setQueue_graver (n : QueueIx) (q : Queue) : (s.setQueue n q).graver = s.graver := rfl
@[simp] theorem State.setQueue_lheSt (n : QueueIx) (q : Queue) : (s.setQueue n q).lheSt = s.lheSt := rfl
@[simp] theorem State.setQueue_dram (n : QueueIx) (q : Queue) : (s.setQueue n q).dram = s.dram := rfl
@[simp] theorem State.setQueue_cpt (n : QueueIx) (q : Queue) : (s.setQueue n q).cpt = s.cpt := rfl
@[simp] theorem State.setQueue_health (n : QueueIx) (q : Queue) : (s.setQueue n q).health = s.health := rfl

/-! ### `u2pWith` -/

@[simp] theorem State.u2pWith_pending (i : Port) (f : U2pSt → U2pSt) : (s.u2pWith i f).pending = s.pending := rfl
@[simp] theorem State.u2pWith_answer (i : Port) (f : U2pSt → U2pSt) : (s.u2pWith i f).answer = s.answer := rfl
@[simp] theorem State.u2pWith_freeCount (i : Port) (f : U2pSt → U2pSt) : (s.u2pWith i f).freeCount = s.freeCount := rfl
@[simp] theorem State.u2pWith_regs (i : Port) (f : U2pSt → U2pSt) : (s.u2pWith i f).regs = s.regs := rfl
@[simp] theorem State.u2pWith_coreHeld (i : Port) (f : U2pSt → U2pSt) : (s.u2pWith i f).coreHeld = s.coreHeld := rfl
@[simp] theorem State.u2pWith_dclkOn (i : Port) (f : U2pSt → U2pSt) : (s.u2pWith i f).dclkOn = s.dclkOn := rfl
@[simp] theorem State.u2pWith_gclkOn (i : Port) (f : U2pSt → U2pSt) : (s.u2pWith i f).gclkOn = s.gclkOn := rfl
@[simp] theorem State.u2pWith_drcPend (i : Port) (f : U2pSt → U2pSt) : (s.u2pWith i f).drcPend = s.drcPend := rfl
@[simp] theorem State.u2pWith_uptime (i : Port) (f : U2pSt → U2pSt) : (s.u2pWith i f).uptime = s.uptime := rfl
@[simp] theorem State.u2pWith_phase (i : Port) (f : U2pSt → U2pSt) : (s.u2pWith i f).phase = s.phase := rfl
@[simp] theorem State.u2pWith_copies (i : Port) (f : U2pSt → U2pSt) : (s.u2pWith i f).copies = s.copies := rfl
@[simp] theorem State.u2pWith_guards (i : Port) (f : U2pSt → U2pSt) : (s.u2pWith i f).guards = s.guards := rfl
@[simp] theorem State.u2pWith_bad (i : Port) (f : U2pSt → U2pSt) : (s.u2pWith i f).bad = s.bad := rfl
@[simp] theorem State.u2pWith_runs (i : Port) (f : U2pSt → U2pSt) : (s.u2pWith i f).runs = s.runs := rfl
@[simp] theorem State.u2pWith_mports (i : Port) (f : U2pSt → U2pSt) : (s.u2pWith i f).mports = s.mports := rfl
@[simp] theorem State.u2pWith_ringSlots (i : Port) (f : U2pSt → U2pSt) : (s.u2pWith i f).ringSlots = s.ringSlots := rfl
@[simp] theorem State.u2pWith_ringSides (i : Port) (f : U2pSt → U2pSt) : (s.u2pWith i f).ringSides = s.ringSides := rfl
@[simp] theorem State.u2pWith_legacy (i : Port) (f : U2pSt → U2pSt) : (s.u2pWith i f).legacy = s.legacy := rfl
@[simp] theorem State.u2pWith_fifos (i : Port) (f : U2pSt → U2pSt) : (s.u2pWith i f).fifos = s.fifos := rfl
@[simp] theorem State.u2pWith_routePtr (i : Port) (f : U2pSt → U2pSt) : (s.u2pWith i f).routePtr = s.routePtr := rfl
@[simp] theorem State.u2pWith_queues (i : Port) (f : U2pSt → U2pSt) : (s.u2pWith i f).queues = s.queues := rfl
@[simp] theorem State.u2pWith_mram (i : Port) (f : U2pSt → U2pSt) : (s.u2pWith i f).mram = s.mram := rfl
@[simp] theorem State.u2pWith_wear (i : Port) (f : U2pSt → U2pSt) : (s.u2pWith i f).wear = s.wear := rfl
@[simp] theorem State.u2pWith_stage (i : Port) (f : U2pSt → U2pSt) : (s.u2pWith i f).stage = s.stage := rfl
@[simp] theorem State.u2pWith_cfgOp (i : Port) (f : U2pSt → U2pSt) : (s.u2pWith i f).cfgOp = s.cfgOp := rfl
@[simp] theorem State.u2pWith_entry (i : Port) (f : U2pSt → U2pSt) : (s.u2pWith i f).entry = s.entry := rfl
@[simp] theorem State.u2pWith_arb (i : Port) (f : U2pSt → U2pSt) : (s.u2pWith i f).arb = s.arb := rfl
@[simp] theorem State.u2pWith_hubCtx (i : Port) (f : U2pSt → U2pSt) : (s.u2pWith i f).hubCtx = s.hubCtx := rfl
@[simp] theorem State.u2pWith_sspSt (i : Port) (f : U2pSt → U2pSt) : (s.u2pWith i f).sspSt = s.sspSt := rfl
@[simp] theorem State.u2pWith_ssCtx (i : Port) (f : U2pSt → U2pSt) : (s.u2pWith i f).ssCtx = s.ssCtx := rfl
@[simp] theorem State.u2pWith_upLink (i : Port) (f : U2pSt → U2pSt) : (s.u2pWith i f).upLink = s.upLink := rfl
@[simp] theorem State.u2pWith_vbsSt (i : Port) (f : U2pSt → U2pSt) : (s.u2pWith i f).vbsSt = s.vbsSt := rfl
@[simp] theorem State.u2pWith_tcpSt (i : Port) (f : U2pSt → U2pSt) : (s.u2pWith i f).tcpSt = s.tcpSt := rfl
@[simp] theorem State.u2pWith_pdSt (i : Port) (f : U2pSt → U2pSt) : (s.u2pWith i f).pdSt = s.pdSt := rfl
@[simp] theorem State.u2pWith_upPdOut (i : Port) (f : U2pSt → U2pSt) : (s.u2pWith i f).upPdOut = s.upPdOut := rfl
@[simp] theorem State.u2pWith_upWant (i : Port) (f : U2pSt → U2pSt) : (s.u2pWith i f).upWant = s.upWant := rfl
@[simp] theorem State.u2pWith_conSt (i : Port) (f : U2pSt → U2pSt) : (s.u2pWith i f).conSt = s.conSt := rfl
@[simp] theorem State.u2pWith_presSt (i : Port) (f : U2pSt → U2pSt) : (s.u2pWith i f).presSt = s.presSt := rfl
@[simp] theorem State.u2pWith_moveCause (i : Port) (f : U2pSt → U2pSt) : (s.u2pWith i f).moveCause = s.moveCause := rfl
@[simp] theorem State.u2pWith_moveBegun (i : Port) (f : U2pSt → U2pSt) : (s.u2pWith i f).moveBegun = s.moveBegun := rfl
@[simp] theorem State.u2pWith_mgfSt (i : Port) (f : U2pSt → U2pSt) : (s.u2pWith i f).mgfSt = s.mgfSt := rfl
@[simp] theorem State.u2pWith_epm (i : Port) (f : U2pSt → U2pSt) : (s.u2pWith i f).epm = s.epm := rfl
@[simp] theorem State.u2pWith_graver (i : Port) (f : U2pSt → U2pSt) : (s.u2pWith i f).graver = s.graver := rfl
@[simp] theorem State.u2pWith_lheSt (i : Port) (f : U2pSt → U2pSt) : (s.u2pWith i f).lheSt = s.lheSt := rfl
@[simp] theorem State.u2pWith_dram (i : Port) (f : U2pSt → U2pSt) : (s.u2pWith i f).dram = s.dram := rfl
@[simp] theorem State.u2pWith_cpt (i : Port) (f : U2pSt → U2pSt) : (s.u2pWith i f).cpt = s.cpt := rfl
@[simp] theorem State.u2pWith_health (i : Port) (f : U2pSt → U2pSt) : (s.u2pWith i f).health = s.health := rfl
@[simp] theorem State.u2pWith_rd (i : Port) (f : U2pSt → U2pSt) (a : Nat) : (s.u2pWith i f).rd a = s.rd a := rfl
@[simp] theorem State.u2pWith_get (i : Port) (f : U2pSt → U2pSt) (pg : PageId) (fl : Fld) : (s.u2pWith i f).get pg fl = s.get pg fl := rfl
@[simp] theorem State.u2pWith_flag (i : Port) (f : U2pSt → U2pSt) (pg : PageId) (fl : Fld) : (s.u2pWith i f).flag pg fl = s.flag pg fl := rfl
@[simp] theorem State.u2pWith_cfg (i : Port) (f : U2pSt → U2pSt) (pg : PageId) (fl : Fld) : (s.u2pWith i f).cfg pg fl = s.cfg pg fl := rfl
@[simp] theorem State.u2pWith_badAt (i : Port) (f : U2pSt → U2pSt) (a : Nat) : (s.u2pWith i f).badAt a = s.badAt a := rfl

/-! ### `sspWith` -/

@[simp] theorem State.sspWith_pending (i : Full) (f : SspSt → SspSt) : (s.sspWith i f).pending = s.pending := rfl
@[simp] theorem State.sspWith_answer (i : Full) (f : SspSt → SspSt) : (s.sspWith i f).answer = s.answer := rfl
@[simp] theorem State.sspWith_freeCount (i : Full) (f : SspSt → SspSt) : (s.sspWith i f).freeCount = s.freeCount := rfl
@[simp] theorem State.sspWith_regs (i : Full) (f : SspSt → SspSt) : (s.sspWith i f).regs = s.regs := rfl
@[simp] theorem State.sspWith_coreHeld (i : Full) (f : SspSt → SspSt) : (s.sspWith i f).coreHeld = s.coreHeld := rfl
@[simp] theorem State.sspWith_dclkOn (i : Full) (f : SspSt → SspSt) : (s.sspWith i f).dclkOn = s.dclkOn := rfl
@[simp] theorem State.sspWith_gclkOn (i : Full) (f : SspSt → SspSt) : (s.sspWith i f).gclkOn = s.gclkOn := rfl
@[simp] theorem State.sspWith_drcPend (i : Full) (f : SspSt → SspSt) : (s.sspWith i f).drcPend = s.drcPend := rfl
@[simp] theorem State.sspWith_uptime (i : Full) (f : SspSt → SspSt) : (s.sspWith i f).uptime = s.uptime := rfl
@[simp] theorem State.sspWith_phase (i : Full) (f : SspSt → SspSt) : (s.sspWith i f).phase = s.phase := rfl
@[simp] theorem State.sspWith_copies (i : Full) (f : SspSt → SspSt) : (s.sspWith i f).copies = s.copies := rfl
@[simp] theorem State.sspWith_guards (i : Full) (f : SspSt → SspSt) : (s.sspWith i f).guards = s.guards := rfl
@[simp] theorem State.sspWith_bad (i : Full) (f : SspSt → SspSt) : (s.sspWith i f).bad = s.bad := rfl
@[simp] theorem State.sspWith_runs (i : Full) (f : SspSt → SspSt) : (s.sspWith i f).runs = s.runs := rfl
@[simp] theorem State.sspWith_mports (i : Full) (f : SspSt → SspSt) : (s.sspWith i f).mports = s.mports := rfl
@[simp] theorem State.sspWith_ringSlots (i : Full) (f : SspSt → SspSt) : (s.sspWith i f).ringSlots = s.ringSlots := rfl
@[simp] theorem State.sspWith_ringSides (i : Full) (f : SspSt → SspSt) : (s.sspWith i f).ringSides = s.ringSides := rfl
@[simp] theorem State.sspWith_legacy (i : Full) (f : SspSt → SspSt) : (s.sspWith i f).legacy = s.legacy := rfl
@[simp] theorem State.sspWith_fifos (i : Full) (f : SspSt → SspSt) : (s.sspWith i f).fifos = s.fifos := rfl
@[simp] theorem State.sspWith_routePtr (i : Full) (f : SspSt → SspSt) : (s.sspWith i f).routePtr = s.routePtr := rfl
@[simp] theorem State.sspWith_queues (i : Full) (f : SspSt → SspSt) : (s.sspWith i f).queues = s.queues := rfl
@[simp] theorem State.sspWith_mram (i : Full) (f : SspSt → SspSt) : (s.sspWith i f).mram = s.mram := rfl
@[simp] theorem State.sspWith_wear (i : Full) (f : SspSt → SspSt) : (s.sspWith i f).wear = s.wear := rfl
@[simp] theorem State.sspWith_stage (i : Full) (f : SspSt → SspSt) : (s.sspWith i f).stage = s.stage := rfl
@[simp] theorem State.sspWith_cfgOp (i : Full) (f : SspSt → SspSt) : (s.sspWith i f).cfgOp = s.cfgOp := rfl
@[simp] theorem State.sspWith_entry (i : Full) (f : SspSt → SspSt) : (s.sspWith i f).entry = s.entry := rfl
@[simp] theorem State.sspWith_arb (i : Full) (f : SspSt → SspSt) : (s.sspWith i f).arb = s.arb := rfl
@[simp] theorem State.sspWith_u2pSt (i : Full) (f : SspSt → SspSt) : (s.sspWith i f).u2pSt = s.u2pSt := rfl
@[simp] theorem State.sspWith_hubCtx (i : Full) (f : SspSt → SspSt) : (s.sspWith i f).hubCtx = s.hubCtx := rfl
@[simp] theorem State.sspWith_ssCtx (i : Full) (f : SspSt → SspSt) : (s.sspWith i f).ssCtx = s.ssCtx := rfl
@[simp] theorem State.sspWith_upLink (i : Full) (f : SspSt → SspSt) : (s.sspWith i f).upLink = s.upLink := rfl
@[simp] theorem State.sspWith_vbsSt (i : Full) (f : SspSt → SspSt) : (s.sspWith i f).vbsSt = s.vbsSt := rfl
@[simp] theorem State.sspWith_tcpSt (i : Full) (f : SspSt → SspSt) : (s.sspWith i f).tcpSt = s.tcpSt := rfl
@[simp] theorem State.sspWith_pdSt (i : Full) (f : SspSt → SspSt) : (s.sspWith i f).pdSt = s.pdSt := rfl
@[simp] theorem State.sspWith_upPdOut (i : Full) (f : SspSt → SspSt) : (s.sspWith i f).upPdOut = s.upPdOut := rfl
@[simp] theorem State.sspWith_upWant (i : Full) (f : SspSt → SspSt) : (s.sspWith i f).upWant = s.upWant := rfl
@[simp] theorem State.sspWith_conSt (i : Full) (f : SspSt → SspSt) : (s.sspWith i f).conSt = s.conSt := rfl
@[simp] theorem State.sspWith_presSt (i : Full) (f : SspSt → SspSt) : (s.sspWith i f).presSt = s.presSt := rfl
@[simp] theorem State.sspWith_moveCause (i : Full) (f : SspSt → SspSt) : (s.sspWith i f).moveCause = s.moveCause := rfl
@[simp] theorem State.sspWith_moveBegun (i : Full) (f : SspSt → SspSt) : (s.sspWith i f).moveBegun = s.moveBegun := rfl
@[simp] theorem State.sspWith_mgfSt (i : Full) (f : SspSt → SspSt) : (s.sspWith i f).mgfSt = s.mgfSt := rfl
@[simp] theorem State.sspWith_epm (i : Full) (f : SspSt → SspSt) : (s.sspWith i f).epm = s.epm := rfl
@[simp] theorem State.sspWith_graver (i : Full) (f : SspSt → SspSt) : (s.sspWith i f).graver = s.graver := rfl
@[simp] theorem State.sspWith_lheSt (i : Full) (f : SspSt → SspSt) : (s.sspWith i f).lheSt = s.lheSt := rfl
@[simp] theorem State.sspWith_dram (i : Full) (f : SspSt → SspSt) : (s.sspWith i f).dram = s.dram := rfl
@[simp] theorem State.sspWith_cpt (i : Full) (f : SspSt → SspSt) : (s.sspWith i f).cpt = s.cpt := rfl
@[simp] theorem State.sspWith_health (i : Full) (f : SspSt → SspSt) : (s.sspWith i f).health = s.health := rfl
@[simp] theorem State.sspWith_rd (i : Full) (f : SspSt → SspSt) (a : Nat) : (s.sspWith i f).rd a = s.rd a := rfl
@[simp] theorem State.sspWith_get (i : Full) (f : SspSt → SspSt) (pg : PageId) (fl : Fld) : (s.sspWith i f).get pg fl = s.get pg fl := rfl
@[simp] theorem State.sspWith_flag (i : Full) (f : SspSt → SspSt) (pg : PageId) (fl : Fld) : (s.sspWith i f).flag pg fl = s.flag pg fl := rfl
@[simp] theorem State.sspWith_cfg (i : Full) (f : SspSt → SspSt) (pg : PageId) (fl : Fld) : (s.sspWith i f).cfg pg fl = s.cfg pg fl := rfl
@[simp] theorem State.sspWith_badAt (i : Full) (f : SspSt → SspSt) (a : Nat) : (s.sspWith i f).badAt a = s.badAt a := rfl

/-! ### `upLkWith` -/

@[simp] theorem State.upLkWith_pending (i : Up) (f : UpLinkSt → UpLinkSt) : (s.upLkWith i f).pending = s.pending := rfl
@[simp] theorem State.upLkWith_answer (i : Up) (f : UpLinkSt → UpLinkSt) : (s.upLkWith i f).answer = s.answer := rfl
@[simp] theorem State.upLkWith_freeCount (i : Up) (f : UpLinkSt → UpLinkSt) : (s.upLkWith i f).freeCount = s.freeCount := rfl
@[simp] theorem State.upLkWith_regs (i : Up) (f : UpLinkSt → UpLinkSt) : (s.upLkWith i f).regs = s.regs := rfl
@[simp] theorem State.upLkWith_coreHeld (i : Up) (f : UpLinkSt → UpLinkSt) : (s.upLkWith i f).coreHeld = s.coreHeld := rfl
@[simp] theorem State.upLkWith_dclkOn (i : Up) (f : UpLinkSt → UpLinkSt) : (s.upLkWith i f).dclkOn = s.dclkOn := rfl
@[simp] theorem State.upLkWith_gclkOn (i : Up) (f : UpLinkSt → UpLinkSt) : (s.upLkWith i f).gclkOn = s.gclkOn := rfl
@[simp] theorem State.upLkWith_drcPend (i : Up) (f : UpLinkSt → UpLinkSt) : (s.upLkWith i f).drcPend = s.drcPend := rfl
@[simp] theorem State.upLkWith_uptime (i : Up) (f : UpLinkSt → UpLinkSt) : (s.upLkWith i f).uptime = s.uptime := rfl
@[simp] theorem State.upLkWith_phase (i : Up) (f : UpLinkSt → UpLinkSt) : (s.upLkWith i f).phase = s.phase := rfl
@[simp] theorem State.upLkWith_copies (i : Up) (f : UpLinkSt → UpLinkSt) : (s.upLkWith i f).copies = s.copies := rfl
@[simp] theorem State.upLkWith_guards (i : Up) (f : UpLinkSt → UpLinkSt) : (s.upLkWith i f).guards = s.guards := rfl
@[simp] theorem State.upLkWith_bad (i : Up) (f : UpLinkSt → UpLinkSt) : (s.upLkWith i f).bad = s.bad := rfl
@[simp] theorem State.upLkWith_runs (i : Up) (f : UpLinkSt → UpLinkSt) : (s.upLkWith i f).runs = s.runs := rfl
@[simp] theorem State.upLkWith_mports (i : Up) (f : UpLinkSt → UpLinkSt) : (s.upLkWith i f).mports = s.mports := rfl
@[simp] theorem State.upLkWith_ringSlots (i : Up) (f : UpLinkSt → UpLinkSt) : (s.upLkWith i f).ringSlots = s.ringSlots := rfl
@[simp] theorem State.upLkWith_ringSides (i : Up) (f : UpLinkSt → UpLinkSt) : (s.upLkWith i f).ringSides = s.ringSides := rfl
@[simp] theorem State.upLkWith_legacy (i : Up) (f : UpLinkSt → UpLinkSt) : (s.upLkWith i f).legacy = s.legacy := rfl
@[simp] theorem State.upLkWith_fifos (i : Up) (f : UpLinkSt → UpLinkSt) : (s.upLkWith i f).fifos = s.fifos := rfl
@[simp] theorem State.upLkWith_routePtr (i : Up) (f : UpLinkSt → UpLinkSt) : (s.upLkWith i f).routePtr = s.routePtr := rfl
@[simp] theorem State.upLkWith_queues (i : Up) (f : UpLinkSt → UpLinkSt) : (s.upLkWith i f).queues = s.queues := rfl
@[simp] theorem State.upLkWith_mram (i : Up) (f : UpLinkSt → UpLinkSt) : (s.upLkWith i f).mram = s.mram := rfl
@[simp] theorem State.upLkWith_wear (i : Up) (f : UpLinkSt → UpLinkSt) : (s.upLkWith i f).wear = s.wear := rfl
@[simp] theorem State.upLkWith_stage (i : Up) (f : UpLinkSt → UpLinkSt) : (s.upLkWith i f).stage = s.stage := rfl
@[simp] theorem State.upLkWith_cfgOp (i : Up) (f : UpLinkSt → UpLinkSt) : (s.upLkWith i f).cfgOp = s.cfgOp := rfl
@[simp] theorem State.upLkWith_entry (i : Up) (f : UpLinkSt → UpLinkSt) : (s.upLkWith i f).entry = s.entry := rfl
@[simp] theorem State.upLkWith_arb (i : Up) (f : UpLinkSt → UpLinkSt) : (s.upLkWith i f).arb = s.arb := rfl
@[simp] theorem State.upLkWith_u2pSt (i : Up) (f : UpLinkSt → UpLinkSt) : (s.upLkWith i f).u2pSt = s.u2pSt := rfl
@[simp] theorem State.upLkWith_hubCtx (i : Up) (f : UpLinkSt → UpLinkSt) : (s.upLkWith i f).hubCtx = s.hubCtx := rfl
@[simp] theorem State.upLkWith_sspSt (i : Up) (f : UpLinkSt → UpLinkSt) : (s.upLkWith i f).sspSt = s.sspSt := rfl
@[simp] theorem State.upLkWith_ssCtx (i : Up) (f : UpLinkSt → UpLinkSt) : (s.upLkWith i f).ssCtx = s.ssCtx := rfl
@[simp] theorem State.upLkWith_vbsSt (i : Up) (f : UpLinkSt → UpLinkSt) : (s.upLkWith i f).vbsSt = s.vbsSt := rfl
@[simp] theorem State.upLkWith_tcpSt (i : Up) (f : UpLinkSt → UpLinkSt) : (s.upLkWith i f).tcpSt = s.tcpSt := rfl
@[simp] theorem State.upLkWith_pdSt (i : Up) (f : UpLinkSt → UpLinkSt) : (s.upLkWith i f).pdSt = s.pdSt := rfl
@[simp] theorem State.upLkWith_upPdOut (i : Up) (f : UpLinkSt → UpLinkSt) : (s.upLkWith i f).upPdOut = s.upPdOut := rfl
@[simp] theorem State.upLkWith_upWant (i : Up) (f : UpLinkSt → UpLinkSt) : (s.upLkWith i f).upWant = s.upWant := rfl
@[simp] theorem State.upLkWith_conSt (i : Up) (f : UpLinkSt → UpLinkSt) : (s.upLkWith i f).conSt = s.conSt := rfl
@[simp] theorem State.upLkWith_presSt (i : Up) (f : UpLinkSt → UpLinkSt) : (s.upLkWith i f).presSt = s.presSt := rfl
@[simp] theorem State.upLkWith_moveCause (i : Up) (f : UpLinkSt → UpLinkSt) : (s.upLkWith i f).moveCause = s.moveCause := rfl
@[simp] theorem State.upLkWith_moveBegun (i : Up) (f : UpLinkSt → UpLinkSt) : (s.upLkWith i f).moveBegun = s.moveBegun := rfl
@[simp] theorem State.upLkWith_mgfSt (i : Up) (f : UpLinkSt → UpLinkSt) : (s.upLkWith i f).mgfSt = s.mgfSt := rfl
@[simp] theorem State.upLkWith_epm (i : Up) (f : UpLinkSt → UpLinkSt) : (s.upLkWith i f).epm = s.epm := rfl
@[simp] theorem State.upLkWith_graver (i : Up) (f : UpLinkSt → UpLinkSt) : (s.upLkWith i f).graver = s.graver := rfl
@[simp] theorem State.upLkWith_lheSt (i : Up) (f : UpLinkSt → UpLinkSt) : (s.upLkWith i f).lheSt = s.lheSt := rfl
@[simp] theorem State.upLkWith_dram (i : Up) (f : UpLinkSt → UpLinkSt) : (s.upLkWith i f).dram = s.dram := rfl
@[simp] theorem State.upLkWith_cpt (i : Up) (f : UpLinkSt → UpLinkSt) : (s.upLkWith i f).cpt = s.cpt := rfl
@[simp] theorem State.upLkWith_health (i : Up) (f : UpLinkSt → UpLinkSt) : (s.upLkWith i f).health = s.health := rfl
@[simp] theorem State.upLkWith_rd (i : Up) (f : UpLinkSt → UpLinkSt) (a : Nat) : (s.upLkWith i f).rd a = s.rd a := rfl
@[simp] theorem State.upLkWith_get (i : Up) (f : UpLinkSt → UpLinkSt) (pg : PageId) (fl : Fld) : (s.upLkWith i f).get pg fl = s.get pg fl := rfl
@[simp] theorem State.upLkWith_flag (i : Up) (f : UpLinkSt → UpLinkSt) (pg : PageId) (fl : Fld) : (s.upLkWith i f).flag pg fl = s.flag pg fl := rfl
@[simp] theorem State.upLkWith_cfg (i : Up) (f : UpLinkSt → UpLinkSt) (pg : PageId) (fl : Fld) : (s.upLkWith i f).cfg pg fl = s.cfg pg fl := rfl
@[simp] theorem State.upLkWith_badAt (i : Up) (f : UpLinkSt → UpLinkSt) (a : Nat) : (s.upLkWith i f).badAt a = s.badAt a := rfl

/-! ### `vbsWith` -/

@[simp] theorem State.vbsWith_pending (i : Port) (f : VbsSt → VbsSt) : (s.vbsWith i f).pending = s.pending := rfl
@[simp] theorem State.vbsWith_answer (i : Port) (f : VbsSt → VbsSt) : (s.vbsWith i f).answer = s.answer := rfl
@[simp] theorem State.vbsWith_freeCount (i : Port) (f : VbsSt → VbsSt) : (s.vbsWith i f).freeCount = s.freeCount := rfl
@[simp] theorem State.vbsWith_regs (i : Port) (f : VbsSt → VbsSt) : (s.vbsWith i f).regs = s.regs := rfl
@[simp] theorem State.vbsWith_coreHeld (i : Port) (f : VbsSt → VbsSt) : (s.vbsWith i f).coreHeld = s.coreHeld := rfl
@[simp] theorem State.vbsWith_dclkOn (i : Port) (f : VbsSt → VbsSt) : (s.vbsWith i f).dclkOn = s.dclkOn := rfl
@[simp] theorem State.vbsWith_gclkOn (i : Port) (f : VbsSt → VbsSt) : (s.vbsWith i f).gclkOn = s.gclkOn := rfl
@[simp] theorem State.vbsWith_drcPend (i : Port) (f : VbsSt → VbsSt) : (s.vbsWith i f).drcPend = s.drcPend := rfl
@[simp] theorem State.vbsWith_uptime (i : Port) (f : VbsSt → VbsSt) : (s.vbsWith i f).uptime = s.uptime := rfl
@[simp] theorem State.vbsWith_phase (i : Port) (f : VbsSt → VbsSt) : (s.vbsWith i f).phase = s.phase := rfl
@[simp] theorem State.vbsWith_copies (i : Port) (f : VbsSt → VbsSt) : (s.vbsWith i f).copies = s.copies := rfl
@[simp] theorem State.vbsWith_guards (i : Port) (f : VbsSt → VbsSt) : (s.vbsWith i f).guards = s.guards := rfl
@[simp] theorem State.vbsWith_bad (i : Port) (f : VbsSt → VbsSt) : (s.vbsWith i f).bad = s.bad := rfl
@[simp] theorem State.vbsWith_runs (i : Port) (f : VbsSt → VbsSt) : (s.vbsWith i f).runs = s.runs := rfl
@[simp] theorem State.vbsWith_mports (i : Port) (f : VbsSt → VbsSt) : (s.vbsWith i f).mports = s.mports := rfl
@[simp] theorem State.vbsWith_ringSlots (i : Port) (f : VbsSt → VbsSt) : (s.vbsWith i f).ringSlots = s.ringSlots := rfl
@[simp] theorem State.vbsWith_ringSides (i : Port) (f : VbsSt → VbsSt) : (s.vbsWith i f).ringSides = s.ringSides := rfl
@[simp] theorem State.vbsWith_legacy (i : Port) (f : VbsSt → VbsSt) : (s.vbsWith i f).legacy = s.legacy := rfl
@[simp] theorem State.vbsWith_fifos (i : Port) (f : VbsSt → VbsSt) : (s.vbsWith i f).fifos = s.fifos := rfl
@[simp] theorem State.vbsWith_routePtr (i : Port) (f : VbsSt → VbsSt) : (s.vbsWith i f).routePtr = s.routePtr := rfl
@[simp] theorem State.vbsWith_queues (i : Port) (f : VbsSt → VbsSt) : (s.vbsWith i f).queues = s.queues := rfl
@[simp] theorem State.vbsWith_mram (i : Port) (f : VbsSt → VbsSt) : (s.vbsWith i f).mram = s.mram := rfl
@[simp] theorem State.vbsWith_wear (i : Port) (f : VbsSt → VbsSt) : (s.vbsWith i f).wear = s.wear := rfl
@[simp] theorem State.vbsWith_stage (i : Port) (f : VbsSt → VbsSt) : (s.vbsWith i f).stage = s.stage := rfl
@[simp] theorem State.vbsWith_cfgOp (i : Port) (f : VbsSt → VbsSt) : (s.vbsWith i f).cfgOp = s.cfgOp := rfl
@[simp] theorem State.vbsWith_entry (i : Port) (f : VbsSt → VbsSt) : (s.vbsWith i f).entry = s.entry := rfl
@[simp] theorem State.vbsWith_arb (i : Port) (f : VbsSt → VbsSt) : (s.vbsWith i f).arb = s.arb := rfl
@[simp] theorem State.vbsWith_u2pSt (i : Port) (f : VbsSt → VbsSt) : (s.vbsWith i f).u2pSt = s.u2pSt := rfl
@[simp] theorem State.vbsWith_hubCtx (i : Port) (f : VbsSt → VbsSt) : (s.vbsWith i f).hubCtx = s.hubCtx := rfl
@[simp] theorem State.vbsWith_sspSt (i : Port) (f : VbsSt → VbsSt) : (s.vbsWith i f).sspSt = s.sspSt := rfl
@[simp] theorem State.vbsWith_ssCtx (i : Port) (f : VbsSt → VbsSt) : (s.vbsWith i f).ssCtx = s.ssCtx := rfl
@[simp] theorem State.vbsWith_upLink (i : Port) (f : VbsSt → VbsSt) : (s.vbsWith i f).upLink = s.upLink := rfl
@[simp] theorem State.vbsWith_tcpSt (i : Port) (f : VbsSt → VbsSt) : (s.vbsWith i f).tcpSt = s.tcpSt := rfl
@[simp] theorem State.vbsWith_pdSt (i : Port) (f : VbsSt → VbsSt) : (s.vbsWith i f).pdSt = s.pdSt := rfl
@[simp] theorem State.vbsWith_upPdOut (i : Port) (f : VbsSt → VbsSt) : (s.vbsWith i f).upPdOut = s.upPdOut := rfl
@[simp] theorem State.vbsWith_upWant (i : Port) (f : VbsSt → VbsSt) : (s.vbsWith i f).upWant = s.upWant := rfl
@[simp] theorem State.vbsWith_conSt (i : Port) (f : VbsSt → VbsSt) : (s.vbsWith i f).conSt = s.conSt := rfl
@[simp] theorem State.vbsWith_presSt (i : Port) (f : VbsSt → VbsSt) : (s.vbsWith i f).presSt = s.presSt := rfl
@[simp] theorem State.vbsWith_moveCause (i : Port) (f : VbsSt → VbsSt) : (s.vbsWith i f).moveCause = s.moveCause := rfl
@[simp] theorem State.vbsWith_moveBegun (i : Port) (f : VbsSt → VbsSt) : (s.vbsWith i f).moveBegun = s.moveBegun := rfl
@[simp] theorem State.vbsWith_mgfSt (i : Port) (f : VbsSt → VbsSt) : (s.vbsWith i f).mgfSt = s.mgfSt := rfl
@[simp] theorem State.vbsWith_epm (i : Port) (f : VbsSt → VbsSt) : (s.vbsWith i f).epm = s.epm := rfl
@[simp] theorem State.vbsWith_graver (i : Port) (f : VbsSt → VbsSt) : (s.vbsWith i f).graver = s.graver := rfl
@[simp] theorem State.vbsWith_lheSt (i : Port) (f : VbsSt → VbsSt) : (s.vbsWith i f).lheSt = s.lheSt := rfl
@[simp] theorem State.vbsWith_dram (i : Port) (f : VbsSt → VbsSt) : (s.vbsWith i f).dram = s.dram := rfl
@[simp] theorem State.vbsWith_cpt (i : Port) (f : VbsSt → VbsSt) : (s.vbsWith i f).cpt = s.cpt := rfl
@[simp] theorem State.vbsWith_health (i : Port) (f : VbsSt → VbsSt) : (s.vbsWith i f).health = s.health := rfl
@[simp] theorem State.vbsWith_rd (i : Port) (f : VbsSt → VbsSt) (a : Nat) : (s.vbsWith i f).rd a = s.rd a := rfl
@[simp] theorem State.vbsWith_get (i : Port) (f : VbsSt → VbsSt) (pg : PageId) (fl : Fld) : (s.vbsWith i f).get pg fl = s.get pg fl := rfl
@[simp] theorem State.vbsWith_flag (i : Port) (f : VbsSt → VbsSt) (pg : PageId) (fl : Fld) : (s.vbsWith i f).flag pg fl = s.flag pg fl := rfl
@[simp] theorem State.vbsWith_cfg (i : Port) (f : VbsSt → VbsSt) (pg : PageId) (fl : Fld) : (s.vbsWith i f).cfg pg fl = s.cfg pg fl := rfl
@[simp] theorem State.vbsWith_badAt (i : Port) (f : VbsSt → VbsSt) (a : Nat) : (s.vbsWith i f).badAt a = s.badAt a := rfl

/-! ### `tcpWith` -/

@[simp] theorem State.tcpWith_pending (i : Port) (f : TcpSt → TcpSt) : (s.tcpWith i f).pending = s.pending := rfl
@[simp] theorem State.tcpWith_answer (i : Port) (f : TcpSt → TcpSt) : (s.tcpWith i f).answer = s.answer := rfl
@[simp] theorem State.tcpWith_freeCount (i : Port) (f : TcpSt → TcpSt) : (s.tcpWith i f).freeCount = s.freeCount := rfl
@[simp] theorem State.tcpWith_regs (i : Port) (f : TcpSt → TcpSt) : (s.tcpWith i f).regs = s.regs := rfl
@[simp] theorem State.tcpWith_coreHeld (i : Port) (f : TcpSt → TcpSt) : (s.tcpWith i f).coreHeld = s.coreHeld := rfl
@[simp] theorem State.tcpWith_dclkOn (i : Port) (f : TcpSt → TcpSt) : (s.tcpWith i f).dclkOn = s.dclkOn := rfl
@[simp] theorem State.tcpWith_gclkOn (i : Port) (f : TcpSt → TcpSt) : (s.tcpWith i f).gclkOn = s.gclkOn := rfl
@[simp] theorem State.tcpWith_drcPend (i : Port) (f : TcpSt → TcpSt) : (s.tcpWith i f).drcPend = s.drcPend := rfl
@[simp] theorem State.tcpWith_uptime (i : Port) (f : TcpSt → TcpSt) : (s.tcpWith i f).uptime = s.uptime := rfl
@[simp] theorem State.tcpWith_phase (i : Port) (f : TcpSt → TcpSt) : (s.tcpWith i f).phase = s.phase := rfl
@[simp] theorem State.tcpWith_copies (i : Port) (f : TcpSt → TcpSt) : (s.tcpWith i f).copies = s.copies := rfl
@[simp] theorem State.tcpWith_guards (i : Port) (f : TcpSt → TcpSt) : (s.tcpWith i f).guards = s.guards := rfl
@[simp] theorem State.tcpWith_bad (i : Port) (f : TcpSt → TcpSt) : (s.tcpWith i f).bad = s.bad := rfl
@[simp] theorem State.tcpWith_runs (i : Port) (f : TcpSt → TcpSt) : (s.tcpWith i f).runs = s.runs := rfl
@[simp] theorem State.tcpWith_mports (i : Port) (f : TcpSt → TcpSt) : (s.tcpWith i f).mports = s.mports := rfl
@[simp] theorem State.tcpWith_ringSlots (i : Port) (f : TcpSt → TcpSt) : (s.tcpWith i f).ringSlots = s.ringSlots := rfl
@[simp] theorem State.tcpWith_ringSides (i : Port) (f : TcpSt → TcpSt) : (s.tcpWith i f).ringSides = s.ringSides := rfl
@[simp] theorem State.tcpWith_legacy (i : Port) (f : TcpSt → TcpSt) : (s.tcpWith i f).legacy = s.legacy := rfl
@[simp] theorem State.tcpWith_fifos (i : Port) (f : TcpSt → TcpSt) : (s.tcpWith i f).fifos = s.fifos := rfl
@[simp] theorem State.tcpWith_routePtr (i : Port) (f : TcpSt → TcpSt) : (s.tcpWith i f).routePtr = s.routePtr := rfl
@[simp] theorem State.tcpWith_queues (i : Port) (f : TcpSt → TcpSt) : (s.tcpWith i f).queues = s.queues := rfl
@[simp] theorem State.tcpWith_mram (i : Port) (f : TcpSt → TcpSt) : (s.tcpWith i f).mram = s.mram := rfl
@[simp] theorem State.tcpWith_wear (i : Port) (f : TcpSt → TcpSt) : (s.tcpWith i f).wear = s.wear := rfl
@[simp] theorem State.tcpWith_stage (i : Port) (f : TcpSt → TcpSt) : (s.tcpWith i f).stage = s.stage := rfl
@[simp] theorem State.tcpWith_cfgOp (i : Port) (f : TcpSt → TcpSt) : (s.tcpWith i f).cfgOp = s.cfgOp := rfl
@[simp] theorem State.tcpWith_entry (i : Port) (f : TcpSt → TcpSt) : (s.tcpWith i f).entry = s.entry := rfl
@[simp] theorem State.tcpWith_arb (i : Port) (f : TcpSt → TcpSt) : (s.tcpWith i f).arb = s.arb := rfl
@[simp] theorem State.tcpWith_u2pSt (i : Port) (f : TcpSt → TcpSt) : (s.tcpWith i f).u2pSt = s.u2pSt := rfl
@[simp] theorem State.tcpWith_hubCtx (i : Port) (f : TcpSt → TcpSt) : (s.tcpWith i f).hubCtx = s.hubCtx := rfl
@[simp] theorem State.tcpWith_sspSt (i : Port) (f : TcpSt → TcpSt) : (s.tcpWith i f).sspSt = s.sspSt := rfl
@[simp] theorem State.tcpWith_ssCtx (i : Port) (f : TcpSt → TcpSt) : (s.tcpWith i f).ssCtx = s.ssCtx := rfl
@[simp] theorem State.tcpWith_upLink (i : Port) (f : TcpSt → TcpSt) : (s.tcpWith i f).upLink = s.upLink := rfl
@[simp] theorem State.tcpWith_vbsSt (i : Port) (f : TcpSt → TcpSt) : (s.tcpWith i f).vbsSt = s.vbsSt := rfl
@[simp] theorem State.tcpWith_pdSt (i : Port) (f : TcpSt → TcpSt) : (s.tcpWith i f).pdSt = s.pdSt := rfl
@[simp] theorem State.tcpWith_upPdOut (i : Port) (f : TcpSt → TcpSt) : (s.tcpWith i f).upPdOut = s.upPdOut := rfl
@[simp] theorem State.tcpWith_upWant (i : Port) (f : TcpSt → TcpSt) : (s.tcpWith i f).upWant = s.upWant := rfl
@[simp] theorem State.tcpWith_conSt (i : Port) (f : TcpSt → TcpSt) : (s.tcpWith i f).conSt = s.conSt := rfl
@[simp] theorem State.tcpWith_presSt (i : Port) (f : TcpSt → TcpSt) : (s.tcpWith i f).presSt = s.presSt := rfl
@[simp] theorem State.tcpWith_moveCause (i : Port) (f : TcpSt → TcpSt) : (s.tcpWith i f).moveCause = s.moveCause := rfl
@[simp] theorem State.tcpWith_moveBegun (i : Port) (f : TcpSt → TcpSt) : (s.tcpWith i f).moveBegun = s.moveBegun := rfl
@[simp] theorem State.tcpWith_mgfSt (i : Port) (f : TcpSt → TcpSt) : (s.tcpWith i f).mgfSt = s.mgfSt := rfl
@[simp] theorem State.tcpWith_epm (i : Port) (f : TcpSt → TcpSt) : (s.tcpWith i f).epm = s.epm := rfl
@[simp] theorem State.tcpWith_graver (i : Port) (f : TcpSt → TcpSt) : (s.tcpWith i f).graver = s.graver := rfl
@[simp] theorem State.tcpWith_lheSt (i : Port) (f : TcpSt → TcpSt) : (s.tcpWith i f).lheSt = s.lheSt := rfl
@[simp] theorem State.tcpWith_dram (i : Port) (f : TcpSt → TcpSt) : (s.tcpWith i f).dram = s.dram := rfl
@[simp] theorem State.tcpWith_cpt (i : Port) (f : TcpSt → TcpSt) : (s.tcpWith i f).cpt = s.cpt := rfl
@[simp] theorem State.tcpWith_health (i : Port) (f : TcpSt → TcpSt) : (s.tcpWith i f).health = s.health := rfl
@[simp] theorem State.tcpWith_rd (i : Port) (f : TcpSt → TcpSt) (a : Nat) : (s.tcpWith i f).rd a = s.rd a := rfl
@[simp] theorem State.tcpWith_get (i : Port) (f : TcpSt → TcpSt) (pg : PageId) (fl : Fld) : (s.tcpWith i f).get pg fl = s.get pg fl := rfl
@[simp] theorem State.tcpWith_flag (i : Port) (f : TcpSt → TcpSt) (pg : PageId) (fl : Fld) : (s.tcpWith i f).flag pg fl = s.flag pg fl := rfl
@[simp] theorem State.tcpWith_cfg (i : Port) (f : TcpSt → TcpSt) (pg : PageId) (fl : Fld) : (s.tcpWith i f).cfg pg fl = s.cfg pg fl := rfl
@[simp] theorem State.tcpWith_badAt (i : Port) (f : TcpSt → TcpSt) (a : Nat) : (s.tcpWith i f).badAt a = s.badAt a := rfl

/-! ### `pdWith` -/

@[simp] theorem State.pdWith_pending (i : Port) (f : PdSt → PdSt) : (s.pdWith i f).pending = s.pending := rfl
@[simp] theorem State.pdWith_answer (i : Port) (f : PdSt → PdSt) : (s.pdWith i f).answer = s.answer := rfl
@[simp] theorem State.pdWith_freeCount (i : Port) (f : PdSt → PdSt) : (s.pdWith i f).freeCount = s.freeCount := rfl
@[simp] theorem State.pdWith_regs (i : Port) (f : PdSt → PdSt) : (s.pdWith i f).regs = s.regs := rfl
@[simp] theorem State.pdWith_coreHeld (i : Port) (f : PdSt → PdSt) : (s.pdWith i f).coreHeld = s.coreHeld := rfl
@[simp] theorem State.pdWith_dclkOn (i : Port) (f : PdSt → PdSt) : (s.pdWith i f).dclkOn = s.dclkOn := rfl
@[simp] theorem State.pdWith_gclkOn (i : Port) (f : PdSt → PdSt) : (s.pdWith i f).gclkOn = s.gclkOn := rfl
@[simp] theorem State.pdWith_drcPend (i : Port) (f : PdSt → PdSt) : (s.pdWith i f).drcPend = s.drcPend := rfl
@[simp] theorem State.pdWith_uptime (i : Port) (f : PdSt → PdSt) : (s.pdWith i f).uptime = s.uptime := rfl
@[simp] theorem State.pdWith_phase (i : Port) (f : PdSt → PdSt) : (s.pdWith i f).phase = s.phase := rfl
@[simp] theorem State.pdWith_copies (i : Port) (f : PdSt → PdSt) : (s.pdWith i f).copies = s.copies := rfl
@[simp] theorem State.pdWith_guards (i : Port) (f : PdSt → PdSt) : (s.pdWith i f).guards = s.guards := rfl
@[simp] theorem State.pdWith_bad (i : Port) (f : PdSt → PdSt) : (s.pdWith i f).bad = s.bad := rfl
@[simp] theorem State.pdWith_runs (i : Port) (f : PdSt → PdSt) : (s.pdWith i f).runs = s.runs := rfl
@[simp] theorem State.pdWith_mports (i : Port) (f : PdSt → PdSt) : (s.pdWith i f).mports = s.mports := rfl
@[simp] theorem State.pdWith_ringSlots (i : Port) (f : PdSt → PdSt) : (s.pdWith i f).ringSlots = s.ringSlots := rfl
@[simp] theorem State.pdWith_ringSides (i : Port) (f : PdSt → PdSt) : (s.pdWith i f).ringSides = s.ringSides := rfl
@[simp] theorem State.pdWith_legacy (i : Port) (f : PdSt → PdSt) : (s.pdWith i f).legacy = s.legacy := rfl
@[simp] theorem State.pdWith_fifos (i : Port) (f : PdSt → PdSt) : (s.pdWith i f).fifos = s.fifos := rfl
@[simp] theorem State.pdWith_routePtr (i : Port) (f : PdSt → PdSt) : (s.pdWith i f).routePtr = s.routePtr := rfl
@[simp] theorem State.pdWith_queues (i : Port) (f : PdSt → PdSt) : (s.pdWith i f).queues = s.queues := rfl
@[simp] theorem State.pdWith_mram (i : Port) (f : PdSt → PdSt) : (s.pdWith i f).mram = s.mram := rfl
@[simp] theorem State.pdWith_wear (i : Port) (f : PdSt → PdSt) : (s.pdWith i f).wear = s.wear := rfl
@[simp] theorem State.pdWith_stage (i : Port) (f : PdSt → PdSt) : (s.pdWith i f).stage = s.stage := rfl
@[simp] theorem State.pdWith_cfgOp (i : Port) (f : PdSt → PdSt) : (s.pdWith i f).cfgOp = s.cfgOp := rfl
@[simp] theorem State.pdWith_entry (i : Port) (f : PdSt → PdSt) : (s.pdWith i f).entry = s.entry := rfl
@[simp] theorem State.pdWith_arb (i : Port) (f : PdSt → PdSt) : (s.pdWith i f).arb = s.arb := rfl
@[simp] theorem State.pdWith_u2pSt (i : Port) (f : PdSt → PdSt) : (s.pdWith i f).u2pSt = s.u2pSt := rfl
@[simp] theorem State.pdWith_hubCtx (i : Port) (f : PdSt → PdSt) : (s.pdWith i f).hubCtx = s.hubCtx := rfl
@[simp] theorem State.pdWith_sspSt (i : Port) (f : PdSt → PdSt) : (s.pdWith i f).sspSt = s.sspSt := rfl
@[simp] theorem State.pdWith_ssCtx (i : Port) (f : PdSt → PdSt) : (s.pdWith i f).ssCtx = s.ssCtx := rfl
@[simp] theorem State.pdWith_upLink (i : Port) (f : PdSt → PdSt) : (s.pdWith i f).upLink = s.upLink := rfl
@[simp] theorem State.pdWith_vbsSt (i : Port) (f : PdSt → PdSt) : (s.pdWith i f).vbsSt = s.vbsSt := rfl
@[simp] theorem State.pdWith_tcpSt (i : Port) (f : PdSt → PdSt) : (s.pdWith i f).tcpSt = s.tcpSt := rfl
@[simp] theorem State.pdWith_upPdOut (i : Port) (f : PdSt → PdSt) : (s.pdWith i f).upPdOut = s.upPdOut := rfl
@[simp] theorem State.pdWith_upWant (i : Port) (f : PdSt → PdSt) : (s.pdWith i f).upWant = s.upWant := rfl
@[simp] theorem State.pdWith_conSt (i : Port) (f : PdSt → PdSt) : (s.pdWith i f).conSt = s.conSt := rfl
@[simp] theorem State.pdWith_presSt (i : Port) (f : PdSt → PdSt) : (s.pdWith i f).presSt = s.presSt := rfl
@[simp] theorem State.pdWith_moveCause (i : Port) (f : PdSt → PdSt) : (s.pdWith i f).moveCause = s.moveCause := rfl
@[simp] theorem State.pdWith_moveBegun (i : Port) (f : PdSt → PdSt) : (s.pdWith i f).moveBegun = s.moveBegun := rfl
@[simp] theorem State.pdWith_mgfSt (i : Port) (f : PdSt → PdSt) : (s.pdWith i f).mgfSt = s.mgfSt := rfl
@[simp] theorem State.pdWith_epm (i : Port) (f : PdSt → PdSt) : (s.pdWith i f).epm = s.epm := rfl
@[simp] theorem State.pdWith_graver (i : Port) (f : PdSt → PdSt) : (s.pdWith i f).graver = s.graver := rfl
@[simp] theorem State.pdWith_lheSt (i : Port) (f : PdSt → PdSt) : (s.pdWith i f).lheSt = s.lheSt := rfl
@[simp] theorem State.pdWith_dram (i : Port) (f : PdSt → PdSt) : (s.pdWith i f).dram = s.dram := rfl
@[simp] theorem State.pdWith_cpt (i : Port) (f : PdSt → PdSt) : (s.pdWith i f).cpt = s.cpt := rfl
@[simp] theorem State.pdWith_health (i : Port) (f : PdSt → PdSt) : (s.pdWith i f).health = s.health := rfl
@[simp] theorem State.pdWith_rd (i : Port) (f : PdSt → PdSt) (a : Nat) : (s.pdWith i f).rd a = s.rd a := rfl
@[simp] theorem State.pdWith_get (i : Port) (f : PdSt → PdSt) (pg : PageId) (fl : Fld) : (s.pdWith i f).get pg fl = s.get pg fl := rfl
@[simp] theorem State.pdWith_flag (i : Port) (f : PdSt → PdSt) (pg : PageId) (fl : Fld) : (s.pdWith i f).flag pg fl = s.flag pg fl := rfl
@[simp] theorem State.pdWith_cfg (i : Port) (f : PdSt → PdSt) (pg : PageId) (fl : Fld) : (s.pdWith i f).cfg pg fl = s.cfg pg fl := rfl
@[simp] theorem State.pdWith_badAt (i : Port) (f : PdSt → PdSt) (a : Nat) : (s.pdWith i f).badAt a = s.badAt a := rfl

/-! ### `conWith` -/

@[simp] theorem State.conWith_pending (i : Port) (f : ConSt → ConSt) : (s.conWith i f).pending = s.pending := rfl
@[simp] theorem State.conWith_answer (i : Port) (f : ConSt → ConSt) : (s.conWith i f).answer = s.answer := rfl
@[simp] theorem State.conWith_freeCount (i : Port) (f : ConSt → ConSt) : (s.conWith i f).freeCount = s.freeCount := rfl
@[simp] theorem State.conWith_regs (i : Port) (f : ConSt → ConSt) : (s.conWith i f).regs = s.regs := rfl
@[simp] theorem State.conWith_coreHeld (i : Port) (f : ConSt → ConSt) : (s.conWith i f).coreHeld = s.coreHeld := rfl
@[simp] theorem State.conWith_dclkOn (i : Port) (f : ConSt → ConSt) : (s.conWith i f).dclkOn = s.dclkOn := rfl
@[simp] theorem State.conWith_gclkOn (i : Port) (f : ConSt → ConSt) : (s.conWith i f).gclkOn = s.gclkOn := rfl
@[simp] theorem State.conWith_drcPend (i : Port) (f : ConSt → ConSt) : (s.conWith i f).drcPend = s.drcPend := rfl
@[simp] theorem State.conWith_uptime (i : Port) (f : ConSt → ConSt) : (s.conWith i f).uptime = s.uptime := rfl
@[simp] theorem State.conWith_phase (i : Port) (f : ConSt → ConSt) : (s.conWith i f).phase = s.phase := rfl
@[simp] theorem State.conWith_copies (i : Port) (f : ConSt → ConSt) : (s.conWith i f).copies = s.copies := rfl
@[simp] theorem State.conWith_guards (i : Port) (f : ConSt → ConSt) : (s.conWith i f).guards = s.guards := rfl
@[simp] theorem State.conWith_bad (i : Port) (f : ConSt → ConSt) : (s.conWith i f).bad = s.bad := rfl
@[simp] theorem State.conWith_runs (i : Port) (f : ConSt → ConSt) : (s.conWith i f).runs = s.runs := rfl
@[simp] theorem State.conWith_mports (i : Port) (f : ConSt → ConSt) : (s.conWith i f).mports = s.mports := rfl
@[simp] theorem State.conWith_ringSlots (i : Port) (f : ConSt → ConSt) : (s.conWith i f).ringSlots = s.ringSlots := rfl
@[simp] theorem State.conWith_ringSides (i : Port) (f : ConSt → ConSt) : (s.conWith i f).ringSides = s.ringSides := rfl
@[simp] theorem State.conWith_legacy (i : Port) (f : ConSt → ConSt) : (s.conWith i f).legacy = s.legacy := rfl
@[simp] theorem State.conWith_fifos (i : Port) (f : ConSt → ConSt) : (s.conWith i f).fifos = s.fifos := rfl
@[simp] theorem State.conWith_routePtr (i : Port) (f : ConSt → ConSt) : (s.conWith i f).routePtr = s.routePtr := rfl
@[simp] theorem State.conWith_queues (i : Port) (f : ConSt → ConSt) : (s.conWith i f).queues = s.queues := rfl
@[simp] theorem State.conWith_mram (i : Port) (f : ConSt → ConSt) : (s.conWith i f).mram = s.mram := rfl
@[simp] theorem State.conWith_wear (i : Port) (f : ConSt → ConSt) : (s.conWith i f).wear = s.wear := rfl
@[simp] theorem State.conWith_stage (i : Port) (f : ConSt → ConSt) : (s.conWith i f).stage = s.stage := rfl
@[simp] theorem State.conWith_cfgOp (i : Port) (f : ConSt → ConSt) : (s.conWith i f).cfgOp = s.cfgOp := rfl
@[simp] theorem State.conWith_entry (i : Port) (f : ConSt → ConSt) : (s.conWith i f).entry = s.entry := rfl
@[simp] theorem State.conWith_arb (i : Port) (f : ConSt → ConSt) : (s.conWith i f).arb = s.arb := rfl
@[simp] theorem State.conWith_u2pSt (i : Port) (f : ConSt → ConSt) : (s.conWith i f).u2pSt = s.u2pSt := rfl
@[simp] theorem State.conWith_hubCtx (i : Port) (f : ConSt → ConSt) : (s.conWith i f).hubCtx = s.hubCtx := rfl
@[simp] theorem State.conWith_sspSt (i : Port) (f : ConSt → ConSt) : (s.conWith i f).sspSt = s.sspSt := rfl
@[simp] theorem State.conWith_ssCtx (i : Port) (f : ConSt → ConSt) : (s.conWith i f).ssCtx = s.ssCtx := rfl
@[simp] theorem State.conWith_upLink (i : Port) (f : ConSt → ConSt) : (s.conWith i f).upLink = s.upLink := rfl
@[simp] theorem State.conWith_vbsSt (i : Port) (f : ConSt → ConSt) : (s.conWith i f).vbsSt = s.vbsSt := rfl
@[simp] theorem State.conWith_tcpSt (i : Port) (f : ConSt → ConSt) : (s.conWith i f).tcpSt = s.tcpSt := rfl
@[simp] theorem State.conWith_pdSt (i : Port) (f : ConSt → ConSt) : (s.conWith i f).pdSt = s.pdSt := rfl
@[simp] theorem State.conWith_upPdOut (i : Port) (f : ConSt → ConSt) : (s.conWith i f).upPdOut = s.upPdOut := rfl
@[simp] theorem State.conWith_upWant (i : Port) (f : ConSt → ConSt) : (s.conWith i f).upWant = s.upWant := rfl
@[simp] theorem State.conWith_presSt (i : Port) (f : ConSt → ConSt) : (s.conWith i f).presSt = s.presSt := rfl
@[simp] theorem State.conWith_moveCause (i : Port) (f : ConSt → ConSt) : (s.conWith i f).moveCause = s.moveCause := rfl
@[simp] theorem State.conWith_moveBegun (i : Port) (f : ConSt → ConSt) : (s.conWith i f).moveBegun = s.moveBegun := rfl
@[simp] theorem State.conWith_mgfSt (i : Port) (f : ConSt → ConSt) : (s.conWith i f).mgfSt = s.mgfSt := rfl
@[simp] theorem State.conWith_epm (i : Port) (f : ConSt → ConSt) : (s.conWith i f).epm = s.epm := rfl
@[simp] theorem State.conWith_graver (i : Port) (f : ConSt → ConSt) : (s.conWith i f).graver = s.graver := rfl
@[simp] theorem State.conWith_lheSt (i : Port) (f : ConSt → ConSt) : (s.conWith i f).lheSt = s.lheSt := rfl
@[simp] theorem State.conWith_dram (i : Port) (f : ConSt → ConSt) : (s.conWith i f).dram = s.dram := rfl
@[simp] theorem State.conWith_cpt (i : Port) (f : ConSt → ConSt) : (s.conWith i f).cpt = s.cpt := rfl
@[simp] theorem State.conWith_health (i : Port) (f : ConSt → ConSt) : (s.conWith i f).health = s.health := rfl
@[simp] theorem State.conWith_rd (i : Port) (f : ConSt → ConSt) (a : Nat) : (s.conWith i f).rd a = s.rd a := rfl
@[simp] theorem State.conWith_get (i : Port) (f : ConSt → ConSt) (pg : PageId) (fl : Fld) : (s.conWith i f).get pg fl = s.get pg fl := rfl
@[simp] theorem State.conWith_flag (i : Port) (f : ConSt → ConSt) (pg : PageId) (fl : Fld) : (s.conWith i f).flag pg fl = s.flag pg fl := rfl
@[simp] theorem State.conWith_cfg (i : Port) (f : ConSt → ConSt) (pg : PageId) (fl : Fld) : (s.conWith i f).cfg pg fl = s.cfg pg fl := rfl
@[simp] theorem State.conWith_badAt (i : Port) (f : ConSt → ConSt) (a : Nat) : (s.conWith i f).badAt a = s.badAt a := rfl

/-! ### `presWith` -/

@[simp] theorem State.presWith_pending (i : Up) (f : PresSt → PresSt) : (s.presWith i f).pending = s.pending := rfl
@[simp] theorem State.presWith_answer (i : Up) (f : PresSt → PresSt) : (s.presWith i f).answer = s.answer := rfl
@[simp] theorem State.presWith_freeCount (i : Up) (f : PresSt → PresSt) : (s.presWith i f).freeCount = s.freeCount := rfl
@[simp] theorem State.presWith_regs (i : Up) (f : PresSt → PresSt) : (s.presWith i f).regs = s.regs := rfl
@[simp] theorem State.presWith_coreHeld (i : Up) (f : PresSt → PresSt) : (s.presWith i f).coreHeld = s.coreHeld := rfl
@[simp] theorem State.presWith_dclkOn (i : Up) (f : PresSt → PresSt) : (s.presWith i f).dclkOn = s.dclkOn := rfl
@[simp] theorem State.presWith_gclkOn (i : Up) (f : PresSt → PresSt) : (s.presWith i f).gclkOn = s.gclkOn := rfl
@[simp] theorem State.presWith_drcPend (i : Up) (f : PresSt → PresSt) : (s.presWith i f).drcPend = s.drcPend := rfl
@[simp] theorem State.presWith_uptime (i : Up) (f : PresSt → PresSt) : (s.presWith i f).uptime = s.uptime := rfl
@[simp] theorem State.presWith_phase (i : Up) (f : PresSt → PresSt) : (s.presWith i f).phase = s.phase := rfl
@[simp] theorem State.presWith_copies (i : Up) (f : PresSt → PresSt) : (s.presWith i f).copies = s.copies := rfl
@[simp] theorem State.presWith_guards (i : Up) (f : PresSt → PresSt) : (s.presWith i f).guards = s.guards := rfl
@[simp] theorem State.presWith_bad (i : Up) (f : PresSt → PresSt) : (s.presWith i f).bad = s.bad := rfl
@[simp] theorem State.presWith_runs (i : Up) (f : PresSt → PresSt) : (s.presWith i f).runs = s.runs := rfl
@[simp] theorem State.presWith_mports (i : Up) (f : PresSt → PresSt) : (s.presWith i f).mports = s.mports := rfl
@[simp] theorem State.presWith_ringSlots (i : Up) (f : PresSt → PresSt) : (s.presWith i f).ringSlots = s.ringSlots := rfl
@[simp] theorem State.presWith_ringSides (i : Up) (f : PresSt → PresSt) : (s.presWith i f).ringSides = s.ringSides := rfl
@[simp] theorem State.presWith_legacy (i : Up) (f : PresSt → PresSt) : (s.presWith i f).legacy = s.legacy := rfl
@[simp] theorem State.presWith_fifos (i : Up) (f : PresSt → PresSt) : (s.presWith i f).fifos = s.fifos := rfl
@[simp] theorem State.presWith_routePtr (i : Up) (f : PresSt → PresSt) : (s.presWith i f).routePtr = s.routePtr := rfl
@[simp] theorem State.presWith_queues (i : Up) (f : PresSt → PresSt) : (s.presWith i f).queues = s.queues := rfl
@[simp] theorem State.presWith_mram (i : Up) (f : PresSt → PresSt) : (s.presWith i f).mram = s.mram := rfl
@[simp] theorem State.presWith_wear (i : Up) (f : PresSt → PresSt) : (s.presWith i f).wear = s.wear := rfl
@[simp] theorem State.presWith_stage (i : Up) (f : PresSt → PresSt) : (s.presWith i f).stage = s.stage := rfl
@[simp] theorem State.presWith_cfgOp (i : Up) (f : PresSt → PresSt) : (s.presWith i f).cfgOp = s.cfgOp := rfl
@[simp] theorem State.presWith_entry (i : Up) (f : PresSt → PresSt) : (s.presWith i f).entry = s.entry := rfl
@[simp] theorem State.presWith_arb (i : Up) (f : PresSt → PresSt) : (s.presWith i f).arb = s.arb := rfl
@[simp] theorem State.presWith_u2pSt (i : Up) (f : PresSt → PresSt) : (s.presWith i f).u2pSt = s.u2pSt := rfl
@[simp] theorem State.presWith_hubCtx (i : Up) (f : PresSt → PresSt) : (s.presWith i f).hubCtx = s.hubCtx := rfl
@[simp] theorem State.presWith_sspSt (i : Up) (f : PresSt → PresSt) : (s.presWith i f).sspSt = s.sspSt := rfl
@[simp] theorem State.presWith_ssCtx (i : Up) (f : PresSt → PresSt) : (s.presWith i f).ssCtx = s.ssCtx := rfl
@[simp] theorem State.presWith_upLink (i : Up) (f : PresSt → PresSt) : (s.presWith i f).upLink = s.upLink := rfl
@[simp] theorem State.presWith_vbsSt (i : Up) (f : PresSt → PresSt) : (s.presWith i f).vbsSt = s.vbsSt := rfl
@[simp] theorem State.presWith_tcpSt (i : Up) (f : PresSt → PresSt) : (s.presWith i f).tcpSt = s.tcpSt := rfl
@[simp] theorem State.presWith_pdSt (i : Up) (f : PresSt → PresSt) : (s.presWith i f).pdSt = s.pdSt := rfl
@[simp] theorem State.presWith_upPdOut (i : Up) (f : PresSt → PresSt) : (s.presWith i f).upPdOut = s.upPdOut := rfl
@[simp] theorem State.presWith_upWant (i : Up) (f : PresSt → PresSt) : (s.presWith i f).upWant = s.upWant := rfl
@[simp] theorem State.presWith_conSt (i : Up) (f : PresSt → PresSt) : (s.presWith i f).conSt = s.conSt := rfl
@[simp] theorem State.presWith_moveCause (i : Up) (f : PresSt → PresSt) : (s.presWith i f).moveCause = s.moveCause := rfl
@[simp] theorem State.presWith_moveBegun (i : Up) (f : PresSt → PresSt) : (s.presWith i f).moveBegun = s.moveBegun := rfl
@[simp] theorem State.presWith_mgfSt (i : Up) (f : PresSt → PresSt) : (s.presWith i f).mgfSt = s.mgfSt := rfl
@[simp] theorem State.presWith_epm (i : Up) (f : PresSt → PresSt) : (s.presWith i f).epm = s.epm := rfl
@[simp] theorem State.presWith_graver (i : Up) (f : PresSt → PresSt) : (s.presWith i f).graver = s.graver := rfl
@[simp] theorem State.presWith_lheSt (i : Up) (f : PresSt → PresSt) : (s.presWith i f).lheSt = s.lheSt := rfl
@[simp] theorem State.presWith_dram (i : Up) (f : PresSt → PresSt) : (s.presWith i f).dram = s.dram := rfl
@[simp] theorem State.presWith_cpt (i : Up) (f : PresSt → PresSt) : (s.presWith i f).cpt = s.cpt := rfl
@[simp] theorem State.presWith_health (i : Up) (f : PresSt → PresSt) : (s.presWith i f).health = s.health := rfl
@[simp] theorem State.presWith_rd (i : Up) (f : PresSt → PresSt) (a : Nat) : (s.presWith i f).rd a = s.rd a := rfl
@[simp] theorem State.presWith_get (i : Up) (f : PresSt → PresSt) (pg : PageId) (fl : Fld) : (s.presWith i f).get pg fl = s.get pg fl := rfl
@[simp] theorem State.presWith_flag (i : Up) (f : PresSt → PresSt) (pg : PageId) (fl : Fld) : (s.presWith i f).flag pg fl = s.flag pg fl := rfl
@[simp] theorem State.presWith_cfg (i : Up) (f : PresSt → PresSt) (pg : PageId) (fl : Fld) : (s.presWith i f).cfg pg fl = s.cfg pg fl := rfl
@[simp] theorem State.presWith_badAt (i : Up) (f : PresSt → PresSt) (a : Nat) : (s.presWith i f).badAt a = s.badAt a := rfl

/-! ### `hubWith` -/

@[simp] theorem State.hubWith_pending (i : HubCtx) (f : HubCtxSt → HubCtxSt) : (s.hubWith i f).pending = s.pending := rfl
@[simp] theorem State.hubWith_answer (i : HubCtx) (f : HubCtxSt → HubCtxSt) : (s.hubWith i f).answer = s.answer := rfl
@[simp] theorem State.hubWith_freeCount (i : HubCtx) (f : HubCtxSt → HubCtxSt) : (s.hubWith i f).freeCount = s.freeCount := rfl
@[simp] theorem State.hubWith_regs (i : HubCtx) (f : HubCtxSt → HubCtxSt) : (s.hubWith i f).regs = s.regs := rfl
@[simp] theorem State.hubWith_coreHeld (i : HubCtx) (f : HubCtxSt → HubCtxSt) : (s.hubWith i f).coreHeld = s.coreHeld := rfl
@[simp] theorem State.hubWith_dclkOn (i : HubCtx) (f : HubCtxSt → HubCtxSt) : (s.hubWith i f).dclkOn = s.dclkOn := rfl
@[simp] theorem State.hubWith_gclkOn (i : HubCtx) (f : HubCtxSt → HubCtxSt) : (s.hubWith i f).gclkOn = s.gclkOn := rfl
@[simp] theorem State.hubWith_drcPend (i : HubCtx) (f : HubCtxSt → HubCtxSt) : (s.hubWith i f).drcPend = s.drcPend := rfl
@[simp] theorem State.hubWith_uptime (i : HubCtx) (f : HubCtxSt → HubCtxSt) : (s.hubWith i f).uptime = s.uptime := rfl
@[simp] theorem State.hubWith_phase (i : HubCtx) (f : HubCtxSt → HubCtxSt) : (s.hubWith i f).phase = s.phase := rfl
@[simp] theorem State.hubWith_copies (i : HubCtx) (f : HubCtxSt → HubCtxSt) : (s.hubWith i f).copies = s.copies := rfl
@[simp] theorem State.hubWith_guards (i : HubCtx) (f : HubCtxSt → HubCtxSt) : (s.hubWith i f).guards = s.guards := rfl
@[simp] theorem State.hubWith_bad (i : HubCtx) (f : HubCtxSt → HubCtxSt) : (s.hubWith i f).bad = s.bad := rfl
@[simp] theorem State.hubWith_runs (i : HubCtx) (f : HubCtxSt → HubCtxSt) : (s.hubWith i f).runs = s.runs := rfl
@[simp] theorem State.hubWith_mports (i : HubCtx) (f : HubCtxSt → HubCtxSt) : (s.hubWith i f).mports = s.mports := rfl
@[simp] theorem State.hubWith_ringSlots (i : HubCtx) (f : HubCtxSt → HubCtxSt) : (s.hubWith i f).ringSlots = s.ringSlots := rfl
@[simp] theorem State.hubWith_ringSides (i : HubCtx) (f : HubCtxSt → HubCtxSt) : (s.hubWith i f).ringSides = s.ringSides := rfl
@[simp] theorem State.hubWith_legacy (i : HubCtx) (f : HubCtxSt → HubCtxSt) : (s.hubWith i f).legacy = s.legacy := rfl
@[simp] theorem State.hubWith_fifos (i : HubCtx) (f : HubCtxSt → HubCtxSt) : (s.hubWith i f).fifos = s.fifos := rfl
@[simp] theorem State.hubWith_routePtr (i : HubCtx) (f : HubCtxSt → HubCtxSt) : (s.hubWith i f).routePtr = s.routePtr := rfl
@[simp] theorem State.hubWith_queues (i : HubCtx) (f : HubCtxSt → HubCtxSt) : (s.hubWith i f).queues = s.queues := rfl
@[simp] theorem State.hubWith_mram (i : HubCtx) (f : HubCtxSt → HubCtxSt) : (s.hubWith i f).mram = s.mram := rfl
@[simp] theorem State.hubWith_wear (i : HubCtx) (f : HubCtxSt → HubCtxSt) : (s.hubWith i f).wear = s.wear := rfl
@[simp] theorem State.hubWith_stage (i : HubCtx) (f : HubCtxSt → HubCtxSt) : (s.hubWith i f).stage = s.stage := rfl
@[simp] theorem State.hubWith_cfgOp (i : HubCtx) (f : HubCtxSt → HubCtxSt) : (s.hubWith i f).cfgOp = s.cfgOp := rfl
@[simp] theorem State.hubWith_entry (i : HubCtx) (f : HubCtxSt → HubCtxSt) : (s.hubWith i f).entry = s.entry := rfl
@[simp] theorem State.hubWith_arb (i : HubCtx) (f : HubCtxSt → HubCtxSt) : (s.hubWith i f).arb = s.arb := rfl
@[simp] theorem State.hubWith_u2pSt (i : HubCtx) (f : HubCtxSt → HubCtxSt) : (s.hubWith i f).u2pSt = s.u2pSt := rfl
@[simp] theorem State.hubWith_sspSt (i : HubCtx) (f : HubCtxSt → HubCtxSt) : (s.hubWith i f).sspSt = s.sspSt := rfl
@[simp] theorem State.hubWith_ssCtx (i : HubCtx) (f : HubCtxSt → HubCtxSt) : (s.hubWith i f).ssCtx = s.ssCtx := rfl
@[simp] theorem State.hubWith_upLink (i : HubCtx) (f : HubCtxSt → HubCtxSt) : (s.hubWith i f).upLink = s.upLink := rfl
@[simp] theorem State.hubWith_vbsSt (i : HubCtx) (f : HubCtxSt → HubCtxSt) : (s.hubWith i f).vbsSt = s.vbsSt := rfl
@[simp] theorem State.hubWith_tcpSt (i : HubCtx) (f : HubCtxSt → HubCtxSt) : (s.hubWith i f).tcpSt = s.tcpSt := rfl
@[simp] theorem State.hubWith_pdSt (i : HubCtx) (f : HubCtxSt → HubCtxSt) : (s.hubWith i f).pdSt = s.pdSt := rfl
@[simp] theorem State.hubWith_upPdOut (i : HubCtx) (f : HubCtxSt → HubCtxSt) : (s.hubWith i f).upPdOut = s.upPdOut := rfl
@[simp] theorem State.hubWith_upWant (i : HubCtx) (f : HubCtxSt → HubCtxSt) : (s.hubWith i f).upWant = s.upWant := rfl
@[simp] theorem State.hubWith_conSt (i : HubCtx) (f : HubCtxSt → HubCtxSt) : (s.hubWith i f).conSt = s.conSt := rfl
@[simp] theorem State.hubWith_presSt (i : HubCtx) (f : HubCtxSt → HubCtxSt) : (s.hubWith i f).presSt = s.presSt := rfl
@[simp] theorem State.hubWith_moveCause (i : HubCtx) (f : HubCtxSt → HubCtxSt) : (s.hubWith i f).moveCause = s.moveCause := rfl
@[simp] theorem State.hubWith_moveBegun (i : HubCtx) (f : HubCtxSt → HubCtxSt) : (s.hubWith i f).moveBegun = s.moveBegun := rfl
@[simp] theorem State.hubWith_mgfSt (i : HubCtx) (f : HubCtxSt → HubCtxSt) : (s.hubWith i f).mgfSt = s.mgfSt := rfl
@[simp] theorem State.hubWith_epm (i : HubCtx) (f : HubCtxSt → HubCtxSt) : (s.hubWith i f).epm = s.epm := rfl
@[simp] theorem State.hubWith_graver (i : HubCtx) (f : HubCtxSt → HubCtxSt) : (s.hubWith i f).graver = s.graver := rfl
@[simp] theorem State.hubWith_lheSt (i : HubCtx) (f : HubCtxSt → HubCtxSt) : (s.hubWith i f).lheSt = s.lheSt := rfl
@[simp] theorem State.hubWith_dram (i : HubCtx) (f : HubCtxSt → HubCtxSt) : (s.hubWith i f).dram = s.dram := rfl
@[simp] theorem State.hubWith_cpt (i : HubCtx) (f : HubCtxSt → HubCtxSt) : (s.hubWith i f).cpt = s.cpt := rfl
@[simp] theorem State.hubWith_health (i : HubCtx) (f : HubCtxSt → HubCtxSt) : (s.hubWith i f).health = s.health := rfl
@[simp] theorem State.hubWith_rd (i : HubCtx) (f : HubCtxSt → HubCtxSt) (a : Nat) : (s.hubWith i f).rd a = s.rd a := rfl
@[simp] theorem State.hubWith_get (i : HubCtx) (f : HubCtxSt → HubCtxSt) (pg : PageId) (fl : Fld) : (s.hubWith i f).get pg fl = s.get pg fl := rfl
@[simp] theorem State.hubWith_flag (i : HubCtx) (f : HubCtxSt → HubCtxSt) (pg : PageId) (fl : Fld) : (s.hubWith i f).flag pg fl = s.flag pg fl := rfl
@[simp] theorem State.hubWith_cfg (i : HubCtx) (f : HubCtxSt → HubCtxSt) (pg : PageId) (fl : Fld) : (s.hubWith i f).cfg pg fl = s.cfg pg fl := rfl
@[simp] theorem State.hubWith_badAt (i : HubCtx) (f : HubCtxSt → HubCtxSt) (a : Nat) : (s.hubWith i f).badAt a = s.badAt a := rfl

/-! ### `ssHubWith` -/

@[simp] theorem State.ssHubWith_pending (i : SsCtx) (f : SsCtxSt → SsCtxSt) : (s.ssHubWith i f).pending = s.pending := rfl
@[simp] theorem State.ssHubWith_answer (i : SsCtx) (f : SsCtxSt → SsCtxSt) : (s.ssHubWith i f).answer = s.answer := rfl
@[simp] theorem State.ssHubWith_freeCount (i : SsCtx) (f : SsCtxSt → SsCtxSt) : (s.ssHubWith i f).freeCount = s.freeCount := rfl
@[simp] theorem State.ssHubWith_regs (i : SsCtx) (f : SsCtxSt → SsCtxSt) : (s.ssHubWith i f).regs = s.regs := rfl
@[simp] theorem State.ssHubWith_coreHeld (i : SsCtx) (f : SsCtxSt → SsCtxSt) : (s.ssHubWith i f).coreHeld = s.coreHeld := rfl
@[simp] theorem State.ssHubWith_dclkOn (i : SsCtx) (f : SsCtxSt → SsCtxSt) : (s.ssHubWith i f).dclkOn = s.dclkOn := rfl
@[simp] theorem State.ssHubWith_gclkOn (i : SsCtx) (f : SsCtxSt → SsCtxSt) : (s.ssHubWith i f).gclkOn = s.gclkOn := rfl
@[simp] theorem State.ssHubWith_drcPend (i : SsCtx) (f : SsCtxSt → SsCtxSt) : (s.ssHubWith i f).drcPend = s.drcPend := rfl
@[simp] theorem State.ssHubWith_uptime (i : SsCtx) (f : SsCtxSt → SsCtxSt) : (s.ssHubWith i f).uptime = s.uptime := rfl
@[simp] theorem State.ssHubWith_phase (i : SsCtx) (f : SsCtxSt → SsCtxSt) : (s.ssHubWith i f).phase = s.phase := rfl
@[simp] theorem State.ssHubWith_copies (i : SsCtx) (f : SsCtxSt → SsCtxSt) : (s.ssHubWith i f).copies = s.copies := rfl
@[simp] theorem State.ssHubWith_guards (i : SsCtx) (f : SsCtxSt → SsCtxSt) : (s.ssHubWith i f).guards = s.guards := rfl
@[simp] theorem State.ssHubWith_bad (i : SsCtx) (f : SsCtxSt → SsCtxSt) : (s.ssHubWith i f).bad = s.bad := rfl
@[simp] theorem State.ssHubWith_runs (i : SsCtx) (f : SsCtxSt → SsCtxSt) : (s.ssHubWith i f).runs = s.runs := rfl
@[simp] theorem State.ssHubWith_mports (i : SsCtx) (f : SsCtxSt → SsCtxSt) : (s.ssHubWith i f).mports = s.mports := rfl
@[simp] theorem State.ssHubWith_ringSlots (i : SsCtx) (f : SsCtxSt → SsCtxSt) : (s.ssHubWith i f).ringSlots = s.ringSlots := rfl
@[simp] theorem State.ssHubWith_ringSides (i : SsCtx) (f : SsCtxSt → SsCtxSt) : (s.ssHubWith i f).ringSides = s.ringSides := rfl
@[simp] theorem State.ssHubWith_legacy (i : SsCtx) (f : SsCtxSt → SsCtxSt) : (s.ssHubWith i f).legacy = s.legacy := rfl
@[simp] theorem State.ssHubWith_fifos (i : SsCtx) (f : SsCtxSt → SsCtxSt) : (s.ssHubWith i f).fifos = s.fifos := rfl
@[simp] theorem State.ssHubWith_routePtr (i : SsCtx) (f : SsCtxSt → SsCtxSt) : (s.ssHubWith i f).routePtr = s.routePtr := rfl
@[simp] theorem State.ssHubWith_queues (i : SsCtx) (f : SsCtxSt → SsCtxSt) : (s.ssHubWith i f).queues = s.queues := rfl
@[simp] theorem State.ssHubWith_mram (i : SsCtx) (f : SsCtxSt → SsCtxSt) : (s.ssHubWith i f).mram = s.mram := rfl
@[simp] theorem State.ssHubWith_wear (i : SsCtx) (f : SsCtxSt → SsCtxSt) : (s.ssHubWith i f).wear = s.wear := rfl
@[simp] theorem State.ssHubWith_stage (i : SsCtx) (f : SsCtxSt → SsCtxSt) : (s.ssHubWith i f).stage = s.stage := rfl
@[simp] theorem State.ssHubWith_cfgOp (i : SsCtx) (f : SsCtxSt → SsCtxSt) : (s.ssHubWith i f).cfgOp = s.cfgOp := rfl
@[simp] theorem State.ssHubWith_entry (i : SsCtx) (f : SsCtxSt → SsCtxSt) : (s.ssHubWith i f).entry = s.entry := rfl
@[simp] theorem State.ssHubWith_arb (i : SsCtx) (f : SsCtxSt → SsCtxSt) : (s.ssHubWith i f).arb = s.arb := rfl
@[simp] theorem State.ssHubWith_u2pSt (i : SsCtx) (f : SsCtxSt → SsCtxSt) : (s.ssHubWith i f).u2pSt = s.u2pSt := rfl
@[simp] theorem State.ssHubWith_hubCtx (i : SsCtx) (f : SsCtxSt → SsCtxSt) : (s.ssHubWith i f).hubCtx = s.hubCtx := rfl
@[simp] theorem State.ssHubWith_sspSt (i : SsCtx) (f : SsCtxSt → SsCtxSt) : (s.ssHubWith i f).sspSt = s.sspSt := rfl
@[simp] theorem State.ssHubWith_upLink (i : SsCtx) (f : SsCtxSt → SsCtxSt) : (s.ssHubWith i f).upLink = s.upLink := rfl
@[simp] theorem State.ssHubWith_vbsSt (i : SsCtx) (f : SsCtxSt → SsCtxSt) : (s.ssHubWith i f).vbsSt = s.vbsSt := rfl
@[simp] theorem State.ssHubWith_tcpSt (i : SsCtx) (f : SsCtxSt → SsCtxSt) : (s.ssHubWith i f).tcpSt = s.tcpSt := rfl
@[simp] theorem State.ssHubWith_pdSt (i : SsCtx) (f : SsCtxSt → SsCtxSt) : (s.ssHubWith i f).pdSt = s.pdSt := rfl
@[simp] theorem State.ssHubWith_upPdOut (i : SsCtx) (f : SsCtxSt → SsCtxSt) : (s.ssHubWith i f).upPdOut = s.upPdOut := rfl
@[simp] theorem State.ssHubWith_upWant (i : SsCtx) (f : SsCtxSt → SsCtxSt) : (s.ssHubWith i f).upWant = s.upWant := rfl
@[simp] theorem State.ssHubWith_conSt (i : SsCtx) (f : SsCtxSt → SsCtxSt) : (s.ssHubWith i f).conSt = s.conSt := rfl
@[simp] theorem State.ssHubWith_presSt (i : SsCtx) (f : SsCtxSt → SsCtxSt) : (s.ssHubWith i f).presSt = s.presSt := rfl
@[simp] theorem State.ssHubWith_moveCause (i : SsCtx) (f : SsCtxSt → SsCtxSt) : (s.ssHubWith i f).moveCause = s.moveCause := rfl
@[simp] theorem State.ssHubWith_moveBegun (i : SsCtx) (f : SsCtxSt → SsCtxSt) : (s.ssHubWith i f).moveBegun = s.moveBegun := rfl
@[simp] theorem State.ssHubWith_mgfSt (i : SsCtx) (f : SsCtxSt → SsCtxSt) : (s.ssHubWith i f).mgfSt = s.mgfSt := rfl
@[simp] theorem State.ssHubWith_epm (i : SsCtx) (f : SsCtxSt → SsCtxSt) : (s.ssHubWith i f).epm = s.epm := rfl
@[simp] theorem State.ssHubWith_graver (i : SsCtx) (f : SsCtxSt → SsCtxSt) : (s.ssHubWith i f).graver = s.graver := rfl
@[simp] theorem State.ssHubWith_lheSt (i : SsCtx) (f : SsCtxSt → SsCtxSt) : (s.ssHubWith i f).lheSt = s.lheSt := rfl
@[simp] theorem State.ssHubWith_dram (i : SsCtx) (f : SsCtxSt → SsCtxSt) : (s.ssHubWith i f).dram = s.dram := rfl
@[simp] theorem State.ssHubWith_cpt (i : SsCtx) (f : SsCtxSt → SsCtxSt) : (s.ssHubWith i f).cpt = s.cpt := rfl
@[simp] theorem State.ssHubWith_health (i : SsCtx) (f : SsCtxSt → SsCtxSt) : (s.ssHubWith i f).health = s.health := rfl
@[simp] theorem State.ssHubWith_rd (i : SsCtx) (f : SsCtxSt → SsCtxSt) (a : Nat) : (s.ssHubWith i f).rd a = s.rd a := rfl
@[simp] theorem State.ssHubWith_get (i : SsCtx) (f : SsCtxSt → SsCtxSt) (pg : PageId) (fl : Fld) : (s.ssHubWith i f).get pg fl = s.get pg fl := rfl
@[simp] theorem State.ssHubWith_flag (i : SsCtx) (f : SsCtxSt → SsCtxSt) (pg : PageId) (fl : Fld) : (s.ssHubWith i f).flag pg fl = s.flag pg fl := rfl
@[simp] theorem State.ssHubWith_cfg (i : SsCtx) (f : SsCtxSt → SsCtxSt) (pg : PageId) (fl : Fld) : (s.ssHubWith i f).cfg pg fl = s.cfg pg fl := rfl
@[simp] theorem State.ssHubWith_badAt (i : SsCtx) (f : SsCtxSt → SsCtxSt) (a : Nat) : (s.ssHubWith i f).badAt a = s.badAt a := rfl

/-! ### `cptWith` -/

@[simp] theorem State.cptWith_pending (i : Inst) (f : CptInst → CptInst) : (s.cptWith i f).pending = s.pending := rfl
@[simp] theorem State.cptWith_answer (i : Inst) (f : CptInst → CptInst) : (s.cptWith i f).answer = s.answer := rfl
@[simp] theorem State.cptWith_freeCount (i : Inst) (f : CptInst → CptInst) : (s.cptWith i f).freeCount = s.freeCount := rfl
@[simp] theorem State.cptWith_regs (i : Inst) (f : CptInst → CptInst) : (s.cptWith i f).regs = s.regs := rfl
@[simp] theorem State.cptWith_coreHeld (i : Inst) (f : CptInst → CptInst) : (s.cptWith i f).coreHeld = s.coreHeld := rfl
@[simp] theorem State.cptWith_dclkOn (i : Inst) (f : CptInst → CptInst) : (s.cptWith i f).dclkOn = s.dclkOn := rfl
@[simp] theorem State.cptWith_gclkOn (i : Inst) (f : CptInst → CptInst) : (s.cptWith i f).gclkOn = s.gclkOn := rfl
@[simp] theorem State.cptWith_drcPend (i : Inst) (f : CptInst → CptInst) : (s.cptWith i f).drcPend = s.drcPend := rfl
@[simp] theorem State.cptWith_uptime (i : Inst) (f : CptInst → CptInst) : (s.cptWith i f).uptime = s.uptime := rfl
@[simp] theorem State.cptWith_phase (i : Inst) (f : CptInst → CptInst) : (s.cptWith i f).phase = s.phase := rfl
@[simp] theorem State.cptWith_copies (i : Inst) (f : CptInst → CptInst) : (s.cptWith i f).copies = s.copies := rfl
@[simp] theorem State.cptWith_guards (i : Inst) (f : CptInst → CptInst) : (s.cptWith i f).guards = s.guards := rfl
@[simp] theorem State.cptWith_bad (i : Inst) (f : CptInst → CptInst) : (s.cptWith i f).bad = s.bad := rfl
@[simp] theorem State.cptWith_runs (i : Inst) (f : CptInst → CptInst) : (s.cptWith i f).runs = s.runs := rfl
@[simp] theorem State.cptWith_mports (i : Inst) (f : CptInst → CptInst) : (s.cptWith i f).mports = s.mports := rfl
@[simp] theorem State.cptWith_ringSlots (i : Inst) (f : CptInst → CptInst) : (s.cptWith i f).ringSlots = s.ringSlots := rfl
@[simp] theorem State.cptWith_ringSides (i : Inst) (f : CptInst → CptInst) : (s.cptWith i f).ringSides = s.ringSides := rfl
@[simp] theorem State.cptWith_legacy (i : Inst) (f : CptInst → CptInst) : (s.cptWith i f).legacy = s.legacy := rfl
@[simp] theorem State.cptWith_fifos (i : Inst) (f : CptInst → CptInst) : (s.cptWith i f).fifos = s.fifos := rfl
@[simp] theorem State.cptWith_routePtr (i : Inst) (f : CptInst → CptInst) : (s.cptWith i f).routePtr = s.routePtr := rfl
@[simp] theorem State.cptWith_queues (i : Inst) (f : CptInst → CptInst) : (s.cptWith i f).queues = s.queues := rfl
@[simp] theorem State.cptWith_mram (i : Inst) (f : CptInst → CptInst) : (s.cptWith i f).mram = s.mram := rfl
@[simp] theorem State.cptWith_wear (i : Inst) (f : CptInst → CptInst) : (s.cptWith i f).wear = s.wear := rfl
@[simp] theorem State.cptWith_stage (i : Inst) (f : CptInst → CptInst) : (s.cptWith i f).stage = s.stage := rfl
@[simp] theorem State.cptWith_cfgOp (i : Inst) (f : CptInst → CptInst) : (s.cptWith i f).cfgOp = s.cfgOp := rfl
@[simp] theorem State.cptWith_entry (i : Inst) (f : CptInst → CptInst) : (s.cptWith i f).entry = s.entry := rfl
@[simp] theorem State.cptWith_arb (i : Inst) (f : CptInst → CptInst) : (s.cptWith i f).arb = s.arb := rfl
@[simp] theorem State.cptWith_u2pSt (i : Inst) (f : CptInst → CptInst) : (s.cptWith i f).u2pSt = s.u2pSt := rfl
@[simp] theorem State.cptWith_hubCtx (i : Inst) (f : CptInst → CptInst) : (s.cptWith i f).hubCtx = s.hubCtx := rfl
@[simp] theorem State.cptWith_sspSt (i : Inst) (f : CptInst → CptInst) : (s.cptWith i f).sspSt = s.sspSt := rfl
@[simp] theorem State.cptWith_ssCtx (i : Inst) (f : CptInst → CptInst) : (s.cptWith i f).ssCtx = s.ssCtx := rfl
@[simp] theorem State.cptWith_upLink (i : Inst) (f : CptInst → CptInst) : (s.cptWith i f).upLink = s.upLink := rfl
@[simp] theorem State.cptWith_vbsSt (i : Inst) (f : CptInst → CptInst) : (s.cptWith i f).vbsSt = s.vbsSt := rfl
@[simp] theorem State.cptWith_tcpSt (i : Inst) (f : CptInst → CptInst) : (s.cptWith i f).tcpSt = s.tcpSt := rfl
@[simp] theorem State.cptWith_pdSt (i : Inst) (f : CptInst → CptInst) : (s.cptWith i f).pdSt = s.pdSt := rfl
@[simp] theorem State.cptWith_upPdOut (i : Inst) (f : CptInst → CptInst) : (s.cptWith i f).upPdOut = s.upPdOut := rfl
@[simp] theorem State.cptWith_upWant (i : Inst) (f : CptInst → CptInst) : (s.cptWith i f).upWant = s.upWant := rfl
@[simp] theorem State.cptWith_conSt (i : Inst) (f : CptInst → CptInst) : (s.cptWith i f).conSt = s.conSt := rfl
@[simp] theorem State.cptWith_presSt (i : Inst) (f : CptInst → CptInst) : (s.cptWith i f).presSt = s.presSt := rfl
@[simp] theorem State.cptWith_moveCause (i : Inst) (f : CptInst → CptInst) : (s.cptWith i f).moveCause = s.moveCause := rfl
@[simp] theorem State.cptWith_moveBegun (i : Inst) (f : CptInst → CptInst) : (s.cptWith i f).moveBegun = s.moveBegun := rfl
@[simp] theorem State.cptWith_mgfSt (i : Inst) (f : CptInst → CptInst) : (s.cptWith i f).mgfSt = s.mgfSt := rfl
@[simp] theorem State.cptWith_epm (i : Inst) (f : CptInst → CptInst) : (s.cptWith i f).epm = s.epm := rfl
@[simp] theorem State.cptWith_graver (i : Inst) (f : CptInst → CptInst) : (s.cptWith i f).graver = s.graver := rfl
@[simp] theorem State.cptWith_lheSt (i : Inst) (f : CptInst → CptInst) : (s.cptWith i f).lheSt = s.lheSt := rfl
@[simp] theorem State.cptWith_dram (i : Inst) (f : CptInst → CptInst) : (s.cptWith i f).dram = s.dram := rfl
@[simp] theorem State.cptWith_health (i : Inst) (f : CptInst → CptInst) : (s.cptWith i f).health = s.health := rfl
@[simp] theorem State.cptWith_rd (i : Inst) (f : CptInst → CptInst) (a : Nat) : (s.cptWith i f).rd a = s.rd a := rfl
@[simp] theorem State.cptWith_get (i : Inst) (f : CptInst → CptInst) (pg : PageId) (fl : Fld) : (s.cptWith i f).get pg fl = s.get pg fl := rfl
@[simp] theorem State.cptWith_flag (i : Inst) (f : CptInst → CptInst) (pg : PageId) (fl : Fld) : (s.cptWith i f).flag pg fl = s.flag pg fl := rfl
@[simp] theorem State.cptWith_cfg (i : Inst) (f : CptInst → CptInst) (pg : PageId) (fl : Fld) : (s.cptWith i f).cfg pg fl = s.cfg pg fl := rfl
@[simp] theorem State.cptWith_badAt (i : Inst) (f : CptInst → CptInst) (a : Nat) : (s.cptWith i f).badAt a = s.badAt a := rfl

/-! ### `healthWith` -/

@[simp] theorem State.healthWith_pending (f : Health → Health) : (s.healthWith f).pending = s.pending := rfl
@[simp] theorem State.healthWith_answer (f : Health → Health) : (s.healthWith f).answer = s.answer := rfl
@[simp] theorem State.healthWith_freeCount (f : Health → Health) : (s.healthWith f).freeCount = s.freeCount := rfl
@[simp] theorem State.healthWith_regs (f : Health → Health) : (s.healthWith f).regs = s.regs := rfl
@[simp] theorem State.healthWith_coreHeld (f : Health → Health) : (s.healthWith f).coreHeld = s.coreHeld := rfl
@[simp] theorem State.healthWith_dclkOn (f : Health → Health) : (s.healthWith f).dclkOn = s.dclkOn := rfl
@[simp] theorem State.healthWith_gclkOn (f : Health → Health) : (s.healthWith f).gclkOn = s.gclkOn := rfl
@[simp] theorem State.healthWith_drcPend (f : Health → Health) : (s.healthWith f).drcPend = s.drcPend := rfl
@[simp] theorem State.healthWith_uptime (f : Health → Health) : (s.healthWith f).uptime = s.uptime := rfl
@[simp] theorem State.healthWith_phase (f : Health → Health) : (s.healthWith f).phase = s.phase := rfl
@[simp] theorem State.healthWith_copies (f : Health → Health) : (s.healthWith f).copies = s.copies := rfl
@[simp] theorem State.healthWith_guards (f : Health → Health) : (s.healthWith f).guards = s.guards := rfl
@[simp] theorem State.healthWith_bad (f : Health → Health) : (s.healthWith f).bad = s.bad := rfl
@[simp] theorem State.healthWith_runs (f : Health → Health) : (s.healthWith f).runs = s.runs := rfl
@[simp] theorem State.healthWith_mports (f : Health → Health) : (s.healthWith f).mports = s.mports := rfl
@[simp] theorem State.healthWith_ringSlots (f : Health → Health) : (s.healthWith f).ringSlots = s.ringSlots := rfl
@[simp] theorem State.healthWith_ringSides (f : Health → Health) : (s.healthWith f).ringSides = s.ringSides := rfl
@[simp] theorem State.healthWith_legacy (f : Health → Health) : (s.healthWith f).legacy = s.legacy := rfl
@[simp] theorem State.healthWith_fifos (f : Health → Health) : (s.healthWith f).fifos = s.fifos := rfl
@[simp] theorem State.healthWith_routePtr (f : Health → Health) : (s.healthWith f).routePtr = s.routePtr := rfl
@[simp] theorem State.healthWith_queues (f : Health → Health) : (s.healthWith f).queues = s.queues := rfl
@[simp] theorem State.healthWith_mram (f : Health → Health) : (s.healthWith f).mram = s.mram := rfl
@[simp] theorem State.healthWith_wear (f : Health → Health) : (s.healthWith f).wear = s.wear := rfl
@[simp] theorem State.healthWith_stage (f : Health → Health) : (s.healthWith f).stage = s.stage := rfl
@[simp] theorem State.healthWith_cfgOp (f : Health → Health) : (s.healthWith f).cfgOp = s.cfgOp := rfl
@[simp] theorem State.healthWith_entry (f : Health → Health) : (s.healthWith f).entry = s.entry := rfl
@[simp] theorem State.healthWith_arb (f : Health → Health) : (s.healthWith f).arb = s.arb := rfl
@[simp] theorem State.healthWith_u2pSt (f : Health → Health) : (s.healthWith f).u2pSt = s.u2pSt := rfl
@[simp] theorem State.healthWith_hubCtx (f : Health → Health) : (s.healthWith f).hubCtx = s.hubCtx := rfl
@[simp] theorem State.healthWith_sspSt (f : Health → Health) : (s.healthWith f).sspSt = s.sspSt := rfl
@[simp] theorem State.healthWith_ssCtx (f : Health → Health) : (s.healthWith f).ssCtx = s.ssCtx := rfl
@[simp] theorem State.healthWith_upLink (f : Health → Health) : (s.healthWith f).upLink = s.upLink := rfl
@[simp] theorem State.healthWith_vbsSt (f : Health → Health) : (s.healthWith f).vbsSt = s.vbsSt := rfl
@[simp] theorem State.healthWith_tcpSt (f : Health → Health) : (s.healthWith f).tcpSt = s.tcpSt := rfl
@[simp] theorem State.healthWith_pdSt (f : Health → Health) : (s.healthWith f).pdSt = s.pdSt := rfl
@[simp] theorem State.healthWith_upPdOut (f : Health → Health) : (s.healthWith f).upPdOut = s.upPdOut := rfl
@[simp] theorem State.healthWith_upWant (f : Health → Health) : (s.healthWith f).upWant = s.upWant := rfl
@[simp] theorem State.healthWith_conSt (f : Health → Health) : (s.healthWith f).conSt = s.conSt := rfl
@[simp] theorem State.healthWith_presSt (f : Health → Health) : (s.healthWith f).presSt = s.presSt := rfl
@[simp] theorem State.healthWith_moveCause (f : Health → Health) : (s.healthWith f).moveCause = s.moveCause := rfl
@[simp] theorem State.healthWith_moveBegun (f : Health → Health) : (s.healthWith f).moveBegun = s.moveBegun := rfl
@[simp] theorem State.healthWith_mgfSt (f : Health → Health) : (s.healthWith f).mgfSt = s.mgfSt := rfl
@[simp] theorem State.healthWith_epm (f : Health → Health) : (s.healthWith f).epm = s.epm := rfl
@[simp] theorem State.healthWith_graver (f : Health → Health) : (s.healthWith f).graver = s.graver := rfl
@[simp] theorem State.healthWith_lheSt (f : Health → Health) : (s.healthWith f).lheSt = s.lheSt := rfl
@[simp] theorem State.healthWith_dram (f : Health → Health) : (s.healthWith f).dram = s.dram := rfl
@[simp] theorem State.healthWith_cpt (f : Health → Health) : (s.healthWith f).cpt = s.cpt := rfl
@[simp] theorem State.healthWith_rd (f : Health → Health) (a : Nat) : (s.healthWith f).rd a = s.rd a := rfl
@[simp] theorem State.healthWith_get (f : Health → Health) (pg : PageId) (fl : Fld) : (s.healthWith f).get pg fl = s.get pg fl := rfl
@[simp] theorem State.healthWith_flag (f : Health → Health) (pg : PageId) (fl : Fld) : (s.healthWith f).flag pg fl = s.flag pg fl := rfl
@[simp] theorem State.healthWith_cfg (f : Health → Health) (pg : PageId) (fl : Fld) : (s.healthWith f).cfg pg fl = s.cfg pg fl := rfl
@[simp] theorem State.healthWith_badAt (f : Health → Health) (a : Nat) : (s.healthWith f).badAt a = s.badAt a := rfl

/-! ### `mportWith` -/

@[simp] theorem State.mportWith_pending (i : Master) (f : MPort → MPort) : (s.mportWith i f).pending = s.pending := rfl
@[simp] theorem State.mportWith_answer (i : Master) (f : MPort → MPort) : (s.mportWith i f).answer = s.answer := rfl
@[simp] theorem State.mportWith_freeCount (i : Master) (f : MPort → MPort) : (s.mportWith i f).freeCount = s.freeCount := rfl
@[simp] theorem State.mportWith_regs (i : Master) (f : MPort → MPort) : (s.mportWith i f).regs = s.regs := rfl
@[simp] theorem State.mportWith_coreHeld (i : Master) (f : MPort → MPort) : (s.mportWith i f).coreHeld = s.coreHeld := rfl
@[simp] theorem State.mportWith_dclkOn (i : Master) (f : MPort → MPort) : (s.mportWith i f).dclkOn = s.dclkOn := rfl
@[simp] theorem State.mportWith_gclkOn (i : Master) (f : MPort → MPort) : (s.mportWith i f).gclkOn = s.gclkOn := rfl
@[simp] theorem State.mportWith_drcPend (i : Master) (f : MPort → MPort) : (s.mportWith i f).drcPend = s.drcPend := rfl
@[simp] theorem State.mportWith_uptime (i : Master) (f : MPort → MPort) : (s.mportWith i f).uptime = s.uptime := rfl
@[simp] theorem State.mportWith_phase (i : Master) (f : MPort → MPort) : (s.mportWith i f).phase = s.phase := rfl
@[simp] theorem State.mportWith_copies (i : Master) (f : MPort → MPort) : (s.mportWith i f).copies = s.copies := rfl
@[simp] theorem State.mportWith_guards (i : Master) (f : MPort → MPort) : (s.mportWith i f).guards = s.guards := rfl
@[simp] theorem State.mportWith_bad (i : Master) (f : MPort → MPort) : (s.mportWith i f).bad = s.bad := rfl
@[simp] theorem State.mportWith_runs (i : Master) (f : MPort → MPort) : (s.mportWith i f).runs = s.runs := rfl
@[simp] theorem State.mportWith_ringSlots (i : Master) (f : MPort → MPort) : (s.mportWith i f).ringSlots = s.ringSlots := rfl
@[simp] theorem State.mportWith_ringSides (i : Master) (f : MPort → MPort) : (s.mportWith i f).ringSides = s.ringSides := rfl
@[simp] theorem State.mportWith_legacy (i : Master) (f : MPort → MPort) : (s.mportWith i f).legacy = s.legacy := rfl
@[simp] theorem State.mportWith_fifos (i : Master) (f : MPort → MPort) : (s.mportWith i f).fifos = s.fifos := rfl
@[simp] theorem State.mportWith_routePtr (i : Master) (f : MPort → MPort) : (s.mportWith i f).routePtr = s.routePtr := rfl
@[simp] theorem State.mportWith_queues (i : Master) (f : MPort → MPort) : (s.mportWith i f).queues = s.queues := rfl
@[simp] theorem State.mportWith_mram (i : Master) (f : MPort → MPort) : (s.mportWith i f).mram = s.mram := rfl
@[simp] theorem State.mportWith_wear (i : Master) (f : MPort → MPort) : (s.mportWith i f).wear = s.wear := rfl
@[simp] theorem State.mportWith_stage (i : Master) (f : MPort → MPort) : (s.mportWith i f).stage = s.stage := rfl
@[simp] theorem State.mportWith_cfgOp (i : Master) (f : MPort → MPort) : (s.mportWith i f).cfgOp = s.cfgOp := rfl
@[simp] theorem State.mportWith_entry (i : Master) (f : MPort → MPort) : (s.mportWith i f).entry = s.entry := rfl
@[simp] theorem State.mportWith_arb (i : Master) (f : MPort → MPort) : (s.mportWith i f).arb = s.arb := rfl
@[simp] theorem State.mportWith_u2pSt (i : Master) (f : MPort → MPort) : (s.mportWith i f).u2pSt = s.u2pSt := rfl
@[simp] theorem State.mportWith_hubCtx (i : Master) (f : MPort → MPort) : (s.mportWith i f).hubCtx = s.hubCtx := rfl
@[simp] theorem State.mportWith_sspSt (i : Master) (f : MPort → MPort) : (s.mportWith i f).sspSt = s.sspSt := rfl
@[simp] theorem State.mportWith_ssCtx (i : Master) (f : MPort → MPort) : (s.mportWith i f).ssCtx = s.ssCtx := rfl
@[simp] theorem State.mportWith_upLink (i : Master) (f : MPort → MPort) : (s.mportWith i f).upLink = s.upLink := rfl
@[simp] theorem State.mportWith_vbsSt (i : Master) (f : MPort → MPort) : (s.mportWith i f).vbsSt = s.vbsSt := rfl
@[simp] theorem State.mportWith_tcpSt (i : Master) (f : MPort → MPort) : (s.mportWith i f).tcpSt = s.tcpSt := rfl
@[simp] theorem State.mportWith_pdSt (i : Master) (f : MPort → MPort) : (s.mportWith i f).pdSt = s.pdSt := rfl
@[simp] theorem State.mportWith_upPdOut (i : Master) (f : MPort → MPort) : (s.mportWith i f).upPdOut = s.upPdOut := rfl
@[simp] theorem State.mportWith_upWant (i : Master) (f : MPort → MPort) : (s.mportWith i f).upWant = s.upWant := rfl
@[simp] theorem State.mportWith_conSt (i : Master) (f : MPort → MPort) : (s.mportWith i f).conSt = s.conSt := rfl
@[simp] theorem State.mportWith_presSt (i : Master) (f : MPort → MPort) : (s.mportWith i f).presSt = s.presSt := rfl
@[simp] theorem State.mportWith_moveCause (i : Master) (f : MPort → MPort) : (s.mportWith i f).moveCause = s.moveCause := rfl
@[simp] theorem State.mportWith_moveBegun (i : Master) (f : MPort → MPort) : (s.mportWith i f).moveBegun = s.moveBegun := rfl
@[simp] theorem State.mportWith_mgfSt (i : Master) (f : MPort → MPort) : (s.mportWith i f).mgfSt = s.mgfSt := rfl
@[simp] theorem State.mportWith_epm (i : Master) (f : MPort → MPort) : (s.mportWith i f).epm = s.epm := rfl
@[simp] theorem State.mportWith_graver (i : Master) (f : MPort → MPort) : (s.mportWith i f).graver = s.graver := rfl
@[simp] theorem State.mportWith_lheSt (i : Master) (f : MPort → MPort) : (s.mportWith i f).lheSt = s.lheSt := rfl
@[simp] theorem State.mportWith_dram (i : Master) (f : MPort → MPort) : (s.mportWith i f).dram = s.dram := rfl
@[simp] theorem State.mportWith_cpt (i : Master) (f : MPort → MPort) : (s.mportWith i f).cpt = s.cpt := rfl
@[simp] theorem State.mportWith_health (i : Master) (f : MPort → MPort) : (s.mportWith i f).health = s.health := rfl
@[simp] theorem State.mportWith_rd (i : Master) (f : MPort → MPort) (a : Nat) : (s.mportWith i f).rd a = s.rd a := rfl
@[simp] theorem State.mportWith_get (i : Master) (f : MPort → MPort) (pg : PageId) (fl : Fld) : (s.mportWith i f).get pg fl = s.get pg fl := rfl
@[simp] theorem State.mportWith_flag (i : Master) (f : MPort → MPort) (pg : PageId) (fl : Fld) : (s.mportWith i f).flag pg fl = s.flag pg fl := rfl
@[simp] theorem State.mportWith_cfg (i : Master) (f : MPort → MPort) (pg : PageId) (fl : Fld) : (s.mportWith i f).cfg pg fl = s.cfg pg fl := rfl
@[simp] theorem State.mportWith_badAt (i : Master) (f : MPort → MPort) (a : Nat) : (s.mportWith i f).badAt a = s.badAt a := rfl

/-! ### `lheWith` -/

@[simp] theorem State.lheWith_pending (i : Port) (f : LheSt → LheSt) : (s.lheWith i f).pending = s.pending := rfl
@[simp] theorem State.lheWith_answer (i : Port) (f : LheSt → LheSt) : (s.lheWith i f).answer = s.answer := rfl
@[simp] theorem State.lheWith_freeCount (i : Port) (f : LheSt → LheSt) : (s.lheWith i f).freeCount = s.freeCount := rfl
@[simp] theorem State.lheWith_regs (i : Port) (f : LheSt → LheSt) : (s.lheWith i f).regs = s.regs := rfl
@[simp] theorem State.lheWith_coreHeld (i : Port) (f : LheSt → LheSt) : (s.lheWith i f).coreHeld = s.coreHeld := rfl
@[simp] theorem State.lheWith_dclkOn (i : Port) (f : LheSt → LheSt) : (s.lheWith i f).dclkOn = s.dclkOn := rfl
@[simp] theorem State.lheWith_gclkOn (i : Port) (f : LheSt → LheSt) : (s.lheWith i f).gclkOn = s.gclkOn := rfl
@[simp] theorem State.lheWith_drcPend (i : Port) (f : LheSt → LheSt) : (s.lheWith i f).drcPend = s.drcPend := rfl
@[simp] theorem State.lheWith_uptime (i : Port) (f : LheSt → LheSt) : (s.lheWith i f).uptime = s.uptime := rfl
@[simp] theorem State.lheWith_phase (i : Port) (f : LheSt → LheSt) : (s.lheWith i f).phase = s.phase := rfl
@[simp] theorem State.lheWith_copies (i : Port) (f : LheSt → LheSt) : (s.lheWith i f).copies = s.copies := rfl
@[simp] theorem State.lheWith_guards (i : Port) (f : LheSt → LheSt) : (s.lheWith i f).guards = s.guards := rfl
@[simp] theorem State.lheWith_bad (i : Port) (f : LheSt → LheSt) : (s.lheWith i f).bad = s.bad := rfl
@[simp] theorem State.lheWith_runs (i : Port) (f : LheSt → LheSt) : (s.lheWith i f).runs = s.runs := rfl
@[simp] theorem State.lheWith_mports (i : Port) (f : LheSt → LheSt) : (s.lheWith i f).mports = s.mports := rfl
@[simp] theorem State.lheWith_ringSlots (i : Port) (f : LheSt → LheSt) : (s.lheWith i f).ringSlots = s.ringSlots := rfl
@[simp] theorem State.lheWith_ringSides (i : Port) (f : LheSt → LheSt) : (s.lheWith i f).ringSides = s.ringSides := rfl
@[simp] theorem State.lheWith_legacy (i : Port) (f : LheSt → LheSt) : (s.lheWith i f).legacy = s.legacy := rfl
@[simp] theorem State.lheWith_fifos (i : Port) (f : LheSt → LheSt) : (s.lheWith i f).fifos = s.fifos := rfl
@[simp] theorem State.lheWith_routePtr (i : Port) (f : LheSt → LheSt) : (s.lheWith i f).routePtr = s.routePtr := rfl
@[simp] theorem State.lheWith_queues (i : Port) (f : LheSt → LheSt) : (s.lheWith i f).queues = s.queues := rfl
@[simp] theorem State.lheWith_mram (i : Port) (f : LheSt → LheSt) : (s.lheWith i f).mram = s.mram := rfl
@[simp] theorem State.lheWith_wear (i : Port) (f : LheSt → LheSt) : (s.lheWith i f).wear = s.wear := rfl
@[simp] theorem State.lheWith_stage (i : Port) (f : LheSt → LheSt) : (s.lheWith i f).stage = s.stage := rfl
@[simp] theorem State.lheWith_cfgOp (i : Port) (f : LheSt → LheSt) : (s.lheWith i f).cfgOp = s.cfgOp := rfl
@[simp] theorem State.lheWith_entry (i : Port) (f : LheSt → LheSt) : (s.lheWith i f).entry = s.entry := rfl
@[simp] theorem State.lheWith_arb (i : Port) (f : LheSt → LheSt) : (s.lheWith i f).arb = s.arb := rfl
@[simp] theorem State.lheWith_u2pSt (i : Port) (f : LheSt → LheSt) : (s.lheWith i f).u2pSt = s.u2pSt := rfl
@[simp] theorem State.lheWith_hubCtx (i : Port) (f : LheSt → LheSt) : (s.lheWith i f).hubCtx = s.hubCtx := rfl
@[simp] theorem State.lheWith_sspSt (i : Port) (f : LheSt → LheSt) : (s.lheWith i f).sspSt = s.sspSt := rfl
@[simp] theorem State.lheWith_ssCtx (i : Port) (f : LheSt → LheSt) : (s.lheWith i f).ssCtx = s.ssCtx := rfl
@[simp] theorem State.lheWith_upLink (i : Port) (f : LheSt → LheSt) : (s.lheWith i f).upLink = s.upLink := rfl
@[simp] theorem State.lheWith_vbsSt (i : Port) (f : LheSt → LheSt) : (s.lheWith i f).vbsSt = s.vbsSt := rfl
@[simp] theorem State.lheWith_tcpSt (i : Port) (f : LheSt → LheSt) : (s.lheWith i f).tcpSt = s.tcpSt := rfl
@[simp] theorem State.lheWith_pdSt (i : Port) (f : LheSt → LheSt) : (s.lheWith i f).pdSt = s.pdSt := rfl
@[simp] theorem State.lheWith_upPdOut (i : Port) (f : LheSt → LheSt) : (s.lheWith i f).upPdOut = s.upPdOut := rfl
@[simp] theorem State.lheWith_upWant (i : Port) (f : LheSt → LheSt) : (s.lheWith i f).upWant = s.upWant := rfl
@[simp] theorem State.lheWith_conSt (i : Port) (f : LheSt → LheSt) : (s.lheWith i f).conSt = s.conSt := rfl
@[simp] theorem State.lheWith_presSt (i : Port) (f : LheSt → LheSt) : (s.lheWith i f).presSt = s.presSt := rfl
@[simp] theorem State.lheWith_moveCause (i : Port) (f : LheSt → LheSt) : (s.lheWith i f).moveCause = s.moveCause := rfl
@[simp] theorem State.lheWith_moveBegun (i : Port) (f : LheSt → LheSt) : (s.lheWith i f).moveBegun = s.moveBegun := rfl
@[simp] theorem State.lheWith_mgfSt (i : Port) (f : LheSt → LheSt) : (s.lheWith i f).mgfSt = s.mgfSt := rfl
@[simp] theorem State.lheWith_epm (i : Port) (f : LheSt → LheSt) : (s.lheWith i f).epm = s.epm := rfl
@[simp] theorem State.lheWith_graver (i : Port) (f : LheSt → LheSt) : (s.lheWith i f).graver = s.graver := rfl
@[simp] theorem State.lheWith_dram (i : Port) (f : LheSt → LheSt) : (s.lheWith i f).dram = s.dram := rfl
@[simp] theorem State.lheWith_cpt (i : Port) (f : LheSt → LheSt) : (s.lheWith i f).cpt = s.cpt := rfl
@[simp] theorem State.lheWith_health (i : Port) (f : LheSt → LheSt) : (s.lheWith i f).health = s.health := rfl
@[simp] theorem State.lheWith_rd (i : Port) (f : LheSt → LheSt) (a : Nat) : (s.lheWith i f).rd a = s.rd a := rfl
@[simp] theorem State.lheWith_get (i : Port) (f : LheSt → LheSt) (pg : PageId) (fl : Fld) : (s.lheWith i f).get pg fl = s.get pg fl := rfl
@[simp] theorem State.lheWith_flag (i : Port) (f : LheSt → LheSt) (pg : PageId) (fl : Fld) : (s.lheWith i f).flag pg fl = s.flag pg fl := rfl
@[simp] theorem State.lheWith_cfg (i : Port) (f : LheSt → LheSt) (pg : PageId) (fl : Fld) : (s.lheWith i f).cfg pg fl = s.cfg pg fl := rfl
@[simp] theorem State.lheWith_badAt (i : Port) (f : LheSt → LheSt) (a : Nat) : (s.lheWith i f).badAt a = s.badAt a := rfl

/-! ### `mgfWith` -/

@[simp] theorem State.mgfWith_pending (i : Up) (f : MgfSt → MgfSt) : (s.mgfWith i f).pending = s.pending := rfl
@[simp] theorem State.mgfWith_answer (i : Up) (f : MgfSt → MgfSt) : (s.mgfWith i f).answer = s.answer := rfl
@[simp] theorem State.mgfWith_freeCount (i : Up) (f : MgfSt → MgfSt) : (s.mgfWith i f).freeCount = s.freeCount := rfl
@[simp] theorem State.mgfWith_regs (i : Up) (f : MgfSt → MgfSt) : (s.mgfWith i f).regs = s.regs := rfl
@[simp] theorem State.mgfWith_coreHeld (i : Up) (f : MgfSt → MgfSt) : (s.mgfWith i f).coreHeld = s.coreHeld := rfl
@[simp] theorem State.mgfWith_dclkOn (i : Up) (f : MgfSt → MgfSt) : (s.mgfWith i f).dclkOn = s.dclkOn := rfl
@[simp] theorem State.mgfWith_gclkOn (i : Up) (f : MgfSt → MgfSt) : (s.mgfWith i f).gclkOn = s.gclkOn := rfl
@[simp] theorem State.mgfWith_drcPend (i : Up) (f : MgfSt → MgfSt) : (s.mgfWith i f).drcPend = s.drcPend := rfl
@[simp] theorem State.mgfWith_uptime (i : Up) (f : MgfSt → MgfSt) : (s.mgfWith i f).uptime = s.uptime := rfl
@[simp] theorem State.mgfWith_phase (i : Up) (f : MgfSt → MgfSt) : (s.mgfWith i f).phase = s.phase := rfl
@[simp] theorem State.mgfWith_copies (i : Up) (f : MgfSt → MgfSt) : (s.mgfWith i f).copies = s.copies := rfl
@[simp] theorem State.mgfWith_guards (i : Up) (f : MgfSt → MgfSt) : (s.mgfWith i f).guards = s.guards := rfl
@[simp] theorem State.mgfWith_bad (i : Up) (f : MgfSt → MgfSt) : (s.mgfWith i f).bad = s.bad := rfl
@[simp] theorem State.mgfWith_runs (i : Up) (f : MgfSt → MgfSt) : (s.mgfWith i f).runs = s.runs := rfl
@[simp] theorem State.mgfWith_mports (i : Up) (f : MgfSt → MgfSt) : (s.mgfWith i f).mports = s.mports := rfl
@[simp] theorem State.mgfWith_ringSlots (i : Up) (f : MgfSt → MgfSt) : (s.mgfWith i f).ringSlots = s.ringSlots := rfl
@[simp] theorem State.mgfWith_ringSides (i : Up) (f : MgfSt → MgfSt) : (s.mgfWith i f).ringSides = s.ringSides := rfl
@[simp] theorem State.mgfWith_legacy (i : Up) (f : MgfSt → MgfSt) : (s.mgfWith i f).legacy = s.legacy := rfl
@[simp] theorem State.mgfWith_fifos (i : Up) (f : MgfSt → MgfSt) : (s.mgfWith i f).fifos = s.fifos := rfl
@[simp] theorem State.mgfWith_routePtr (i : Up) (f : MgfSt → MgfSt) : (s.mgfWith i f).routePtr = s.routePtr := rfl
@[simp] theorem State.mgfWith_queues (i : Up) (f : MgfSt → MgfSt) : (s.mgfWith i f).queues = s.queues := rfl
@[simp] theorem State.mgfWith_mram (i : Up) (f : MgfSt → MgfSt) : (s.mgfWith i f).mram = s.mram := rfl
@[simp] theorem State.mgfWith_wear (i : Up) (f : MgfSt → MgfSt) : (s.mgfWith i f).wear = s.wear := rfl
@[simp] theorem State.mgfWith_stage (i : Up) (f : MgfSt → MgfSt) : (s.mgfWith i f).stage = s.stage := rfl
@[simp] theorem State.mgfWith_cfgOp (i : Up) (f : MgfSt → MgfSt) : (s.mgfWith i f).cfgOp = s.cfgOp := rfl
@[simp] theorem State.mgfWith_entry (i : Up) (f : MgfSt → MgfSt) : (s.mgfWith i f).entry = s.entry := rfl
@[simp] theorem State.mgfWith_arb (i : Up) (f : MgfSt → MgfSt) : (s.mgfWith i f).arb = s.arb := rfl
@[simp] theorem State.mgfWith_u2pSt (i : Up) (f : MgfSt → MgfSt) : (s.mgfWith i f).u2pSt = s.u2pSt := rfl
@[simp] theorem State.mgfWith_hubCtx (i : Up) (f : MgfSt → MgfSt) : (s.mgfWith i f).hubCtx = s.hubCtx := rfl
@[simp] theorem State.mgfWith_sspSt (i : Up) (f : MgfSt → MgfSt) : (s.mgfWith i f).sspSt = s.sspSt := rfl
@[simp] theorem State.mgfWith_ssCtx (i : Up) (f : MgfSt → MgfSt) : (s.mgfWith i f).ssCtx = s.ssCtx := rfl
@[simp] theorem State.mgfWith_upLink (i : Up) (f : MgfSt → MgfSt) : (s.mgfWith i f).upLink = s.upLink := rfl
@[simp] theorem State.mgfWith_vbsSt (i : Up) (f : MgfSt → MgfSt) : (s.mgfWith i f).vbsSt = s.vbsSt := rfl
@[simp] theorem State.mgfWith_tcpSt (i : Up) (f : MgfSt → MgfSt) : (s.mgfWith i f).tcpSt = s.tcpSt := rfl
@[simp] theorem State.mgfWith_pdSt (i : Up) (f : MgfSt → MgfSt) : (s.mgfWith i f).pdSt = s.pdSt := rfl
@[simp] theorem State.mgfWith_upPdOut (i : Up) (f : MgfSt → MgfSt) : (s.mgfWith i f).upPdOut = s.upPdOut := rfl
@[simp] theorem State.mgfWith_upWant (i : Up) (f : MgfSt → MgfSt) : (s.mgfWith i f).upWant = s.upWant := rfl
@[simp] theorem State.mgfWith_conSt (i : Up) (f : MgfSt → MgfSt) : (s.mgfWith i f).conSt = s.conSt := rfl
@[simp] theorem State.mgfWith_presSt (i : Up) (f : MgfSt → MgfSt) : (s.mgfWith i f).presSt = s.presSt := rfl
@[simp] theorem State.mgfWith_moveCause (i : Up) (f : MgfSt → MgfSt) : (s.mgfWith i f).moveCause = s.moveCause := rfl
@[simp] theorem State.mgfWith_moveBegun (i : Up) (f : MgfSt → MgfSt) : (s.mgfWith i f).moveBegun = s.moveBegun := rfl
@[simp] theorem State.mgfWith_epm (i : Up) (f : MgfSt → MgfSt) : (s.mgfWith i f).epm = s.epm := rfl
@[simp] theorem State.mgfWith_graver (i : Up) (f : MgfSt → MgfSt) : (s.mgfWith i f).graver = s.graver := rfl
@[simp] theorem State.mgfWith_lheSt (i : Up) (f : MgfSt → MgfSt) : (s.mgfWith i f).lheSt = s.lheSt := rfl
@[simp] theorem State.mgfWith_dram (i : Up) (f : MgfSt → MgfSt) : (s.mgfWith i f).dram = s.dram := rfl
@[simp] theorem State.mgfWith_cpt (i : Up) (f : MgfSt → MgfSt) : (s.mgfWith i f).cpt = s.cpt := rfl
@[simp] theorem State.mgfWith_health (i : Up) (f : MgfSt → MgfSt) : (s.mgfWith i f).health = s.health := rfl
@[simp] theorem State.mgfWith_rd (i : Up) (f : MgfSt → MgfSt) (a : Nat) : (s.mgfWith i f).rd a = s.rd a := rfl
@[simp] theorem State.mgfWith_get (i : Up) (f : MgfSt → MgfSt) (pg : PageId) (fl : Fld) : (s.mgfWith i f).get pg fl = s.get pg fl := rfl
@[simp] theorem State.mgfWith_flag (i : Up) (f : MgfSt → MgfSt) (pg : PageId) (fl : Fld) : (s.mgfWith i f).flag pg fl = s.flag pg fl := rfl
@[simp] theorem State.mgfWith_cfg (i : Up) (f : MgfSt → MgfSt) (pg : PageId) (fl : Fld) : (s.mgfWith i f).cfg pg fl = s.cfg pg fl := rfl
@[simp] theorem State.mgfWith_badAt (i : Up) (f : MgfSt → MgfSt) (a : Nat) : (s.mgfWith i f).badAt a = s.badAt a := rfl

/-! ### `grvWith` -/

@[simp] theorem State.grvWith_pending (f : Graver → Graver) : (s.grvWith f).pending = s.pending := rfl
@[simp] theorem State.grvWith_answer (f : Graver → Graver) : (s.grvWith f).answer = s.answer := rfl
@[simp] theorem State.grvWith_freeCount (f : Graver → Graver) : (s.grvWith f).freeCount = s.freeCount := rfl
@[simp] theorem State.grvWith_regs (f : Graver → Graver) : (s.grvWith f).regs = s.regs := rfl
@[simp] theorem State.grvWith_coreHeld (f : Graver → Graver) : (s.grvWith f).coreHeld = s.coreHeld := rfl
@[simp] theorem State.grvWith_dclkOn (f : Graver → Graver) : (s.grvWith f).dclkOn = s.dclkOn := rfl
@[simp] theorem State.grvWith_gclkOn (f : Graver → Graver) : (s.grvWith f).gclkOn = s.gclkOn := rfl
@[simp] theorem State.grvWith_drcPend (f : Graver → Graver) : (s.grvWith f).drcPend = s.drcPend := rfl
@[simp] theorem State.grvWith_uptime (f : Graver → Graver) : (s.grvWith f).uptime = s.uptime := rfl
@[simp] theorem State.grvWith_phase (f : Graver → Graver) : (s.grvWith f).phase = s.phase := rfl
@[simp] theorem State.grvWith_copies (f : Graver → Graver) : (s.grvWith f).copies = s.copies := rfl
@[simp] theorem State.grvWith_guards (f : Graver → Graver) : (s.grvWith f).guards = s.guards := rfl
@[simp] theorem State.grvWith_bad (f : Graver → Graver) : (s.grvWith f).bad = s.bad := rfl
@[simp] theorem State.grvWith_runs (f : Graver → Graver) : (s.grvWith f).runs = s.runs := rfl
@[simp] theorem State.grvWith_mports (f : Graver → Graver) : (s.grvWith f).mports = s.mports := rfl
@[simp] theorem State.grvWith_ringSlots (f : Graver → Graver) : (s.grvWith f).ringSlots = s.ringSlots := rfl
@[simp] theorem State.grvWith_ringSides (f : Graver → Graver) : (s.grvWith f).ringSides = s.ringSides := rfl
@[simp] theorem State.grvWith_legacy (f : Graver → Graver) : (s.grvWith f).legacy = s.legacy := rfl
@[simp] theorem State.grvWith_fifos (f : Graver → Graver) : (s.grvWith f).fifos = s.fifos := rfl
@[simp] theorem State.grvWith_routePtr (f : Graver → Graver) : (s.grvWith f).routePtr = s.routePtr := rfl
@[simp] theorem State.grvWith_queues (f : Graver → Graver) : (s.grvWith f).queues = s.queues := rfl
@[simp] theorem State.grvWith_mram (f : Graver → Graver) : (s.grvWith f).mram = s.mram := rfl
@[simp] theorem State.grvWith_wear (f : Graver → Graver) : (s.grvWith f).wear = s.wear := rfl
@[simp] theorem State.grvWith_stage (f : Graver → Graver) : (s.grvWith f).stage = s.stage := rfl
@[simp] theorem State.grvWith_cfgOp (f : Graver → Graver) : (s.grvWith f).cfgOp = s.cfgOp := rfl
@[simp] theorem State.grvWith_entry (f : Graver → Graver) : (s.grvWith f).entry = s.entry := rfl
@[simp] theorem State.grvWith_arb (f : Graver → Graver) : (s.grvWith f).arb = s.arb := rfl
@[simp] theorem State.grvWith_u2pSt (f : Graver → Graver) : (s.grvWith f).u2pSt = s.u2pSt := rfl
@[simp] theorem State.grvWith_hubCtx (f : Graver → Graver) : (s.grvWith f).hubCtx = s.hubCtx := rfl
@[simp] theorem State.grvWith_sspSt (f : Graver → Graver) : (s.grvWith f).sspSt = s.sspSt := rfl
@[simp] theorem State.grvWith_ssCtx (f : Graver → Graver) : (s.grvWith f).ssCtx = s.ssCtx := rfl
@[simp] theorem State.grvWith_upLink (f : Graver → Graver) : (s.grvWith f).upLink = s.upLink := rfl
@[simp] theorem State.grvWith_vbsSt (f : Graver → Graver) : (s.grvWith f).vbsSt = s.vbsSt := rfl
@[simp] theorem State.grvWith_tcpSt (f : Graver → Graver) : (s.grvWith f).tcpSt = s.tcpSt := rfl
@[simp] theorem State.grvWith_pdSt (f : Graver → Graver) : (s.grvWith f).pdSt = s.pdSt := rfl
@[simp] theorem State.grvWith_upPdOut (f : Graver → Graver) : (s.grvWith f).upPdOut = s.upPdOut := rfl
@[simp] theorem State.grvWith_upWant (f : Graver → Graver) : (s.grvWith f).upWant = s.upWant := rfl
@[simp] theorem State.grvWith_conSt (f : Graver → Graver) : (s.grvWith f).conSt = s.conSt := rfl
@[simp] theorem State.grvWith_presSt (f : Graver → Graver) : (s.grvWith f).presSt = s.presSt := rfl
@[simp] theorem State.grvWith_moveCause (f : Graver → Graver) : (s.grvWith f).moveCause = s.moveCause := rfl
@[simp] theorem State.grvWith_moveBegun (f : Graver → Graver) : (s.grvWith f).moveBegun = s.moveBegun := rfl
@[simp] theorem State.grvWith_mgfSt (f : Graver → Graver) : (s.grvWith f).mgfSt = s.mgfSt := rfl
@[simp] theorem State.grvWith_epm (f : Graver → Graver) : (s.grvWith f).epm = s.epm := rfl
@[simp] theorem State.grvWith_lheSt (f : Graver → Graver) : (s.grvWith f).lheSt = s.lheSt := rfl
@[simp] theorem State.grvWith_dram (f : Graver → Graver) : (s.grvWith f).dram = s.dram := rfl
@[simp] theorem State.grvWith_cpt (f : Graver → Graver) : (s.grvWith f).cpt = s.cpt := rfl
@[simp] theorem State.grvWith_health (f : Graver → Graver) : (s.grvWith f).health = s.health := rfl
@[simp] theorem State.grvWith_rd (f : Graver → Graver) (a : Nat) : (s.grvWith f).rd a = s.rd a := rfl
@[simp] theorem State.grvWith_get (f : Graver → Graver) (pg : PageId) (fl : Fld) : (s.grvWith f).get pg fl = s.get pg fl := rfl
@[simp] theorem State.grvWith_flag (f : Graver → Graver) (pg : PageId) (fl : Fld) : (s.grvWith f).flag pg fl = s.flag pg fl := rfl
@[simp] theorem State.grvWith_cfg (f : Graver → Graver) (pg : PageId) (fl : Fld) : (s.grvWith f).cfg pg fl = s.cfg pg fl := rfl
@[simp] theorem State.grvWith_badAt (f : Graver → Graver) (a : Nat) : (s.grvWith f).badAt a = s.badAt a := rfl

/-! ### `arbWith` -/

@[simp] theorem State.arbWith_pending (f : Arbiter → Arbiter) : (s.arbWith f).pending = s.pending := rfl
@[simp] theorem State.arbWith_answer (f : Arbiter → Arbiter) : (s.arbWith f).answer = s.answer := rfl
@[simp] theorem State.arbWith_freeCount (f : Arbiter → Arbiter) : (s.arbWith f).freeCount = s.freeCount := rfl
@[simp] theorem State.arbWith_regs (f : Arbiter → Arbiter) : (s.arbWith f).regs = s.regs := rfl
@[simp] theorem State.arbWith_coreHeld (f : Arbiter → Arbiter) : (s.arbWith f).coreHeld = s.coreHeld := rfl
@[simp] theorem State.arbWith_dclkOn (f : Arbiter → Arbiter) : (s.arbWith f).dclkOn = s.dclkOn := rfl
@[simp] theorem State.arbWith_gclkOn (f : Arbiter → Arbiter) : (s.arbWith f).gclkOn = s.gclkOn := rfl
@[simp] theorem State.arbWith_drcPend (f : Arbiter → Arbiter) : (s.arbWith f).drcPend = s.drcPend := rfl
@[simp] theorem State.arbWith_uptime (f : Arbiter → Arbiter) : (s.arbWith f).uptime = s.uptime := rfl
@[simp] theorem State.arbWith_phase (f : Arbiter → Arbiter) : (s.arbWith f).phase = s.phase := rfl
@[simp] theorem State.arbWith_copies (f : Arbiter → Arbiter) : (s.arbWith f).copies = s.copies := rfl
@[simp] theorem State.arbWith_guards (f : Arbiter → Arbiter) : (s.arbWith f).guards = s.guards := rfl
@[simp] theorem State.arbWith_bad (f : Arbiter → Arbiter) : (s.arbWith f).bad = s.bad := rfl
@[simp] theorem State.arbWith_runs (f : Arbiter → Arbiter) : (s.arbWith f).runs = s.runs := rfl
@[simp] theorem State.arbWith_mports (f : Arbiter → Arbiter) : (s.arbWith f).mports = s.mports := rfl
@[simp] theorem State.arbWith_ringSlots (f : Arbiter → Arbiter) : (s.arbWith f).ringSlots = s.ringSlots := rfl
@[simp] theorem State.arbWith_ringSides (f : Arbiter → Arbiter) : (s.arbWith f).ringSides = s.ringSides := rfl
@[simp] theorem State.arbWith_legacy (f : Arbiter → Arbiter) : (s.arbWith f).legacy = s.legacy := rfl
@[simp] theorem State.arbWith_fifos (f : Arbiter → Arbiter) : (s.arbWith f).fifos = s.fifos := rfl
@[simp] theorem State.arbWith_routePtr (f : Arbiter → Arbiter) : (s.arbWith f).routePtr = s.routePtr := rfl
@[simp] theorem State.arbWith_queues (f : Arbiter → Arbiter) : (s.arbWith f).queues = s.queues := rfl
@[simp] theorem State.arbWith_mram (f : Arbiter → Arbiter) : (s.arbWith f).mram = s.mram := rfl
@[simp] theorem State.arbWith_wear (f : Arbiter → Arbiter) : (s.arbWith f).wear = s.wear := rfl
@[simp] theorem State.arbWith_stage (f : Arbiter → Arbiter) : (s.arbWith f).stage = s.stage := rfl
@[simp] theorem State.arbWith_cfgOp (f : Arbiter → Arbiter) : (s.arbWith f).cfgOp = s.cfgOp := rfl
@[simp] theorem State.arbWith_entry (f : Arbiter → Arbiter) : (s.arbWith f).entry = s.entry := rfl
@[simp] theorem State.arbWith_u2pSt (f : Arbiter → Arbiter) : (s.arbWith f).u2pSt = s.u2pSt := rfl
@[simp] theorem State.arbWith_hubCtx (f : Arbiter → Arbiter) : (s.arbWith f).hubCtx = s.hubCtx := rfl
@[simp] theorem State.arbWith_sspSt (f : Arbiter → Arbiter) : (s.arbWith f).sspSt = s.sspSt := rfl
@[simp] theorem State.arbWith_ssCtx (f : Arbiter → Arbiter) : (s.arbWith f).ssCtx = s.ssCtx := rfl
@[simp] theorem State.arbWith_upLink (f : Arbiter → Arbiter) : (s.arbWith f).upLink = s.upLink := rfl
@[simp] theorem State.arbWith_vbsSt (f : Arbiter → Arbiter) : (s.arbWith f).vbsSt = s.vbsSt := rfl
@[simp] theorem State.arbWith_tcpSt (f : Arbiter → Arbiter) : (s.arbWith f).tcpSt = s.tcpSt := rfl
@[simp] theorem State.arbWith_pdSt (f : Arbiter → Arbiter) : (s.arbWith f).pdSt = s.pdSt := rfl
@[simp] theorem State.arbWith_upPdOut (f : Arbiter → Arbiter) : (s.arbWith f).upPdOut = s.upPdOut := rfl
@[simp] theorem State.arbWith_upWant (f : Arbiter → Arbiter) : (s.arbWith f).upWant = s.upWant := rfl
@[simp] theorem State.arbWith_conSt (f : Arbiter → Arbiter) : (s.arbWith f).conSt = s.conSt := rfl
@[simp] theorem State.arbWith_presSt (f : Arbiter → Arbiter) : (s.arbWith f).presSt = s.presSt := rfl
@[simp] theorem State.arbWith_moveCause (f : Arbiter → Arbiter) : (s.arbWith f).moveCause = s.moveCause := rfl
@[simp] theorem State.arbWith_moveBegun (f : Arbiter → Arbiter) : (s.arbWith f).moveBegun = s.moveBegun := rfl
@[simp] theorem State.arbWith_mgfSt (f : Arbiter → Arbiter) : (s.arbWith f).mgfSt = s.mgfSt := rfl
@[simp] theorem State.arbWith_epm (f : Arbiter → Arbiter) : (s.arbWith f).epm = s.epm := rfl
@[simp] theorem State.arbWith_graver (f : Arbiter → Arbiter) : (s.arbWith f).graver = s.graver := rfl
@[simp] theorem State.arbWith_lheSt (f : Arbiter → Arbiter) : (s.arbWith f).lheSt = s.lheSt := rfl
@[simp] theorem State.arbWith_dram (f : Arbiter → Arbiter) : (s.arbWith f).dram = s.dram := rfl
@[simp] theorem State.arbWith_cpt (f : Arbiter → Arbiter) : (s.arbWith f).cpt = s.cpt := rfl
@[simp] theorem State.arbWith_health (f : Arbiter → Arbiter) : (s.arbWith f).health = s.health := rfl
@[simp] theorem State.arbWith_rd (f : Arbiter → Arbiter) (a : Nat) : (s.arbWith f).rd a = s.rd a := rfl
@[simp] theorem State.arbWith_get (f : Arbiter → Arbiter) (pg : PageId) (fl : Fld) : (s.arbWith f).get pg fl = s.get pg fl := rfl
@[simp] theorem State.arbWith_flag (f : Arbiter → Arbiter) (pg : PageId) (fl : Fld) : (s.arbWith f).flag pg fl = s.flag pg fl := rfl
@[simp] theorem State.arbWith_cfg (f : Arbiter → Arbiter) (pg : PageId) (fl : Fld) : (s.arbWith f).cfg pg fl = s.cfg pg fl := rfl
@[simp] theorem State.arbWith_badAt (f : Arbiter → Arbiter) (a : Nat) : (s.arbWith f).badAt a = s.badAt a := rfl

/-! ### `dramWith` -/

@[simp] theorem State.dramWith_pending (f : Dram → Dram) : (s.dramWith f).pending = s.pending := rfl
@[simp] theorem State.dramWith_answer (f : Dram → Dram) : (s.dramWith f).answer = s.answer := rfl
@[simp] theorem State.dramWith_freeCount (f : Dram → Dram) : (s.dramWith f).freeCount = s.freeCount := rfl
@[simp] theorem State.dramWith_regs (f : Dram → Dram) : (s.dramWith f).regs = s.regs := rfl
@[simp] theorem State.dramWith_coreHeld (f : Dram → Dram) : (s.dramWith f).coreHeld = s.coreHeld := rfl
@[simp] theorem State.dramWith_dclkOn (f : Dram → Dram) : (s.dramWith f).dclkOn = s.dclkOn := rfl
@[simp] theorem State.dramWith_gclkOn (f : Dram → Dram) : (s.dramWith f).gclkOn = s.gclkOn := rfl
@[simp] theorem State.dramWith_drcPend (f : Dram → Dram) : (s.dramWith f).drcPend = s.drcPend := rfl
@[simp] theorem State.dramWith_uptime (f : Dram → Dram) : (s.dramWith f).uptime = s.uptime := rfl
@[simp] theorem State.dramWith_phase (f : Dram → Dram) : (s.dramWith f).phase = s.phase := rfl
@[simp] theorem State.dramWith_copies (f : Dram → Dram) : (s.dramWith f).copies = s.copies := rfl
@[simp] theorem State.dramWith_guards (f : Dram → Dram) : (s.dramWith f).guards = s.guards := rfl
@[simp] theorem State.dramWith_bad (f : Dram → Dram) : (s.dramWith f).bad = s.bad := rfl
@[simp] theorem State.dramWith_runs (f : Dram → Dram) : (s.dramWith f).runs = s.runs := rfl
@[simp] theorem State.dramWith_mports (f : Dram → Dram) : (s.dramWith f).mports = s.mports := rfl
@[simp] theorem State.dramWith_ringSlots (f : Dram → Dram) : (s.dramWith f).ringSlots = s.ringSlots := rfl
@[simp] theorem State.dramWith_ringSides (f : Dram → Dram) : (s.dramWith f).ringSides = s.ringSides := rfl
@[simp] theorem State.dramWith_legacy (f : Dram → Dram) : (s.dramWith f).legacy = s.legacy := rfl
@[simp] theorem State.dramWith_fifos (f : Dram → Dram) : (s.dramWith f).fifos = s.fifos := rfl
@[simp] theorem State.dramWith_routePtr (f : Dram → Dram) : (s.dramWith f).routePtr = s.routePtr := rfl
@[simp] theorem State.dramWith_queues (f : Dram → Dram) : (s.dramWith f).queues = s.queues := rfl
@[simp] theorem State.dramWith_mram (f : Dram → Dram) : (s.dramWith f).mram = s.mram := rfl
@[simp] theorem State.dramWith_wear (f : Dram → Dram) : (s.dramWith f).wear = s.wear := rfl
@[simp] theorem State.dramWith_stage (f : Dram → Dram) : (s.dramWith f).stage = s.stage := rfl
@[simp] theorem State.dramWith_cfgOp (f : Dram → Dram) : (s.dramWith f).cfgOp = s.cfgOp := rfl
@[simp] theorem State.dramWith_entry (f : Dram → Dram) : (s.dramWith f).entry = s.entry := rfl
@[simp] theorem State.dramWith_arb (f : Dram → Dram) : (s.dramWith f).arb = s.arb := rfl
@[simp] theorem State.dramWith_u2pSt (f : Dram → Dram) : (s.dramWith f).u2pSt = s.u2pSt := rfl
@[simp] theorem State.dramWith_hubCtx (f : Dram → Dram) : (s.dramWith f).hubCtx = s.hubCtx := rfl
@[simp] theorem State.dramWith_sspSt (f : Dram → Dram) : (s.dramWith f).sspSt = s.sspSt := rfl
@[simp] theorem State.dramWith_ssCtx (f : Dram → Dram) : (s.dramWith f).ssCtx = s.ssCtx := rfl
@[simp] theorem State.dramWith_upLink (f : Dram → Dram) : (s.dramWith f).upLink = s.upLink := rfl
@[simp] theorem State.dramWith_vbsSt (f : Dram → Dram) : (s.dramWith f).vbsSt = s.vbsSt := rfl
@[simp] theorem State.dramWith_tcpSt (f : Dram → Dram) : (s.dramWith f).tcpSt = s.tcpSt := rfl
@[simp] theorem State.dramWith_pdSt (f : Dram → Dram) : (s.dramWith f).pdSt = s.pdSt := rfl
@[simp] theorem State.dramWith_upPdOut (f : Dram → Dram) : (s.dramWith f).upPdOut = s.upPdOut := rfl
@[simp] theorem State.dramWith_upWant (f : Dram → Dram) : (s.dramWith f).upWant = s.upWant := rfl
@[simp] theorem State.dramWith_conSt (f : Dram → Dram) : (s.dramWith f).conSt = s.conSt := rfl
@[simp] theorem State.dramWith_presSt (f : Dram → Dram) : (s.dramWith f).presSt = s.presSt := rfl
@[simp] theorem State.dramWith_moveCause (f : Dram → Dram) : (s.dramWith f).moveCause = s.moveCause := rfl
@[simp] theorem State.dramWith_moveBegun (f : Dram → Dram) : (s.dramWith f).moveBegun = s.moveBegun := rfl
@[simp] theorem State.dramWith_mgfSt (f : Dram → Dram) : (s.dramWith f).mgfSt = s.mgfSt := rfl
@[simp] theorem State.dramWith_epm (f : Dram → Dram) : (s.dramWith f).epm = s.epm := rfl
@[simp] theorem State.dramWith_graver (f : Dram → Dram) : (s.dramWith f).graver = s.graver := rfl
@[simp] theorem State.dramWith_lheSt (f : Dram → Dram) : (s.dramWith f).lheSt = s.lheSt := rfl
@[simp] theorem State.dramWith_cpt (f : Dram → Dram) : (s.dramWith f).cpt = s.cpt := rfl
@[simp] theorem State.dramWith_health (f : Dram → Dram) : (s.dramWith f).health = s.health := rfl
@[simp] theorem State.dramWith_rd (f : Dram → Dram) (a : Nat) : (s.dramWith f).rd a = s.rd a := rfl
@[simp] theorem State.dramWith_get (f : Dram → Dram) (pg : PageId) (fl : Fld) : (s.dramWith f).get pg fl = s.get pg fl := rfl
@[simp] theorem State.dramWith_flag (f : Dram → Dram) (pg : PageId) (fl : Fld) : (s.dramWith f).flag pg fl = s.flag pg fl := rfl
@[simp] theorem State.dramWith_cfg (f : Dram → Dram) (pg : PageId) (fl : Fld) : (s.dramWith f).cfg pg fl = s.cfg pg fl := rfl
@[simp] theorem State.dramWith_badAt (f : Dram → Dram) (a : Nat) : (s.dramWith f).badAt a = s.badAt a := rfl

/-! ### Registers after `reply` -/

@[simp] theorem State.reply_rd (a : Answer) (b : Nat) : (s.reply a).rd b = s.rd b := rfl
@[simp] theorem State.reply_get (a : Answer) (pg : PageId) (fl : Fld) : (s.reply a).get pg fl = s.get pg fl := rfl
@[simp] theorem State.reply_flag (a : Answer) (pg : PageId) (fl : Fld) : (s.reply a).flag pg fl = s.flag pg fl := rfl
@[simp] theorem State.reply_cfg (a : Answer) (pg : PageId) (fl : Fld) : (s.reply a).cfg pg fl = s.cfg pg fl := rfl
@[simp] theorem State.reply_badAt (a : Answer) (b : Nat) : (s.reply a).badAt b = s.badAt b := rfl

/-! ### Registers after `withPending` -/

@[simp] theorem State.withPending_rd (q : List Instr) (b : Nat) : (s.withPending q).rd b = s.rd b := rfl
@[simp] theorem State.withPending_get (q : List Instr) (pg : PageId) (fl : Fld) : (s.withPending q).get pg fl = s.get pg fl := rfl
@[simp] theorem State.withPending_flag (q : List Instr) (pg : PageId) (fl : Fld) : (s.withPending q).flag pg fl = s.flag pg fl := rfl
@[simp] theorem State.withPending_cfg (q : List Instr) (pg : PageId) (fl : Fld) : (s.withPending q).cfg pg fl = s.cfg pg fl := rfl
@[simp] theorem State.withPending_badAt (q : List Instr) (b : Nat) : (s.withPending q).badAt b = s.badAt b := rfl

/-! ### Registers after `setRuns` -/

@[simp] theorem State.setRuns_rd (rs : List AccessRun) (b : Nat) : (s.setRuns rs).rd b = s.rd b := rfl
@[simp] theorem State.setRuns_get (rs : List AccessRun) (pg : PageId) (fl : Fld) : (s.setRuns rs).get pg fl = s.get pg fl := rfl
@[simp] theorem State.setRuns_flag (rs : List AccessRun) (pg : PageId) (fl : Fld) : (s.setRuns rs).flag pg fl = s.flag pg fl := rfl
@[simp] theorem State.setRuns_cfg (rs : List AccessRun) (pg : PageId) (fl : Fld) : (s.setRuns rs).cfg pg fl = s.cfg pg fl := rfl
@[simp] theorem State.setRuns_badAt (rs : List AccessRun) (b : Nat) : (s.setRuns rs).badAt b = s.badAt b := rfl

/-! ### Registers after `setPair` -/

@[simp] theorem State.setPair_rd (i : Ident) (g : Option GuardPair) (b : Nat) : (s.setPair i g).rd b = s.rd b := rfl
@[simp] theorem State.setPair_get (i : Ident) (g : Option GuardPair) (pg : PageId) (fl : Fld) : (s.setPair i g).get pg fl = s.get pg fl := rfl
@[simp] theorem State.setPair_flag (i : Ident) (g : Option GuardPair) (pg : PageId) (fl : Fld) : (s.setPair i g).flag pg fl = s.flag pg fl := rfl
@[simp] theorem State.setPair_cfg (i : Ident) (g : Option GuardPair) (pg : PageId) (fl : Fld) : (s.setPair i g).cfg pg fl = s.cfg pg fl := rfl
@[simp] theorem State.setPair_badAt (i : Ident) (g : Option GuardPair) (b : Nat) : (s.setPair i g).badAt b = s.badAt b := rfl

/-! ### Registers after `setFifo` -/

@[simp] theorem State.setFifo_rd (n : Nat) (f : Fifo) (b : Nat) : (s.setFifo n f).rd b = s.rd b := rfl
@[simp] theorem State.setFifo_get (n : Nat) (f : Fifo) (pg : PageId) (fl : Fld) : (s.setFifo n f).get pg fl = s.get pg fl := rfl
@[simp] theorem State.setFifo_flag (n : Nat) (f : Fifo) (pg : PageId) (fl : Fld) : (s.setFifo n f).flag pg fl = s.flag pg fl := rfl
@[simp] theorem State.setFifo_cfg (n : Nat) (f : Fifo) (pg : PageId) (fl : Fld) : (s.setFifo n f).cfg pg fl = s.cfg pg fl := rfl
@[simp] theorem State.setFifo_badAt (n : Nat) (f : Fifo) (b : Nat) : (s.setFifo n f).badAt b = s.badAt b := rfl

/-! ### Registers after `setQueue` -/

@[simp] theorem State.setQueue_rd (n : QueueIx) (q : Queue) (b : Nat) : (s.setQueue n q).rd b = s.rd b := rfl
@[simp] theorem State.setQueue_get (n : QueueIx) (q : Queue) (pg : PageId) (fl : Fld) : (s.setQueue n q).get pg fl = s.get pg fl := rfl
@[simp] theorem State.setQueue_flag (n : QueueIx) (q : Queue) (pg : PageId) (fl : Fld) : (s.setQueue n q).flag pg fl = s.flag pg fl := rfl
@[simp] theorem State.setQueue_cfg (n : QueueIx) (q : Queue) (pg : PageId) (fl : Fld) : (s.setQueue n q).cfg pg fl = s.cfg pg fl := rfl
@[simp] theorem State.setQueue_badAt (n : QueueIx) (q : Queue) (b : Nat) : (s.setQueue n q).badAt b = s.badAt b := rfl

/-! ### A part read after it was changed -/

@[simp] theorem State.u2pWith_same (i : Port) (f : U2pSt → U2pSt) : (s.u2pWith i f).u2p i = f ((s).u2p i) := by simp [State.u2pWith, State.u2p]
theorem State.u2pWith_ne (i j : Port) (f : U2pSt → U2pSt) (h : j ≠ i) : (s.u2pWith i f).u2p j = (s).u2p j := by
  have hv : i.val ≠ j.val := fun e => h (Fin.ext e.symm)
  simp [State.u2pWith, State.u2p, hv]
@[simp] theorem State.sspWith_same (i : Full) (f : SspSt → SspSt) : (s.sspWith i f).ssp i = f ((s).ssp i) := by simp [State.sspWith, State.ssp]
theorem State.sspWith_ne (i j : Full) (f : SspSt → SspSt) (h : j ≠ i) : (s.sspWith i f).ssp j = (s).ssp j := by
  have hv : i.val ≠ j.val := fun e => h (Fin.ext e.symm)
  simp [State.sspWith, State.ssp, hv]
@[simp] theorem State.upLkWith_same (i : Up) (f : UpLinkSt → UpLinkSt) : (s.upLkWith i f).upLk i = f ((s).upLk i) := by simp [State.upLkWith, State.upLk]
theorem State.upLkWith_ne (i j : Up) (f : UpLinkSt → UpLinkSt) (h : j ≠ i) : (s.upLkWith i f).upLk j = (s).upLk j := by
  have hv : i.val ≠ j.val := fun e => h (Fin.ext e.symm)
  simp [State.upLkWith, State.upLk, hv]
@[simp] theorem State.vbsWith_same (i : Port) (f : VbsSt → VbsSt) : (s.vbsWith i f).vbs i = f ((s).vbs i) := by simp [State.vbsWith, State.vbs]
theorem State.vbsWith_ne (i j : Port) (f : VbsSt → VbsSt) (h : j ≠ i) : (s.vbsWith i f).vbs j = (s).vbs j := by
  have hv : i.val ≠ j.val := fun e => h (Fin.ext e.symm)
  simp [State.vbsWith, State.vbs, hv]
@[simp] theorem State.tcpWith_same (i : Port) (f : TcpSt → TcpSt) : (s.tcpWith i f).tcp i = f ((s).tcp i) := by simp [State.tcpWith, State.tcp]
theorem State.tcpWith_ne (i j : Port) (f : TcpSt → TcpSt) (h : j ≠ i) : (s.tcpWith i f).tcp j = (s).tcp j := by
  have hv : i.val ≠ j.val := fun e => h (Fin.ext e.symm)
  simp [State.tcpWith, State.tcp, hv]
@[simp] theorem State.pdWith_same (i : Port) (f : PdSt → PdSt) : (s.pdWith i f).pd i = f ((s).pd i) := by simp [State.pdWith, State.pd]
theorem State.pdWith_ne (i j : Port) (f : PdSt → PdSt) (h : j ≠ i) : (s.pdWith i f).pd j = (s).pd j := by
  have hv : i.val ≠ j.val := fun e => h (Fin.ext e.symm)
  simp [State.pdWith, State.pd, hv]
@[simp] theorem State.conWith_same (i : Port) (f : ConSt → ConSt) : (s.conWith i f).con i = f ((s).con i) := by simp [State.conWith, State.con]
theorem State.conWith_ne (i j : Port) (f : ConSt → ConSt) (h : j ≠ i) : (s.conWith i f).con j = (s).con j := by
  have hv : i.val ≠ j.val := fun e => h (Fin.ext e.symm)
  simp [State.conWith, State.con, hv]
@[simp] theorem State.presWith_same (i : Up) (f : PresSt → PresSt) : (s.presWith i f).pres i = f ((s).pres i) := by simp [State.presWith, State.pres]
theorem State.presWith_ne (i j : Up) (f : PresSt → PresSt) (h : j ≠ i) : (s.presWith i f).pres j = (s).pres j := by
  have hv : i.val ≠ j.val := fun e => h (Fin.ext e.symm)
  simp [State.presWith, State.pres, hv]
@[simp] theorem State.mgfWith_same (i : Up) (f : MgfSt → MgfSt) : (s.mgfWith i f).mgfSt[i] = f ((s).mgfSt[i]) := by simp [State.mgfWith]
theorem State.mgfWith_ne (i j : Up) (f : MgfSt → MgfSt) (h : j ≠ i) : (s.mgfWith i f).mgfSt[j] = (s).mgfSt[j] := by
  have hv : i.val ≠ j.val := fun e => h (Fin.ext e.symm)
  simp [State.mgfWith, hv]
@[simp] theorem State.lheWith_same (i : Port) (f : LheSt → LheSt) : (s.lheWith i f).lheSt[i] = f ((s).lheSt[i]) := by simp [State.lheWith]
theorem State.lheWith_ne (i j : Port) (f : LheSt → LheSt) (h : j ≠ i) : (s.lheWith i f).lheSt[j] = (s).lheSt[j] := by
  have hv : i.val ≠ j.val := fun e => h (Fin.ext e.symm)
  simp [State.lheWith, hv]

end Sys2Proof.Machine
end

