-- ==== Sys2Proof/Laws/Access.lean ====
section
/-! SUPPORT. What a single register access does when it is taken. -/

namespace Sys2Proof.Machine

set_option linter.unreachableTactic false
set_option linter.unusedTactic false

/-- A page occupies every address of its 4 KiB. -/
theorem pageAt_off (pg : PageId) {off : Nat} (h : off < 0x1000) : pageAt (pg.base + off) = some pg := by
  have hb := PageId.base_aligned pg
  have hq : (pg.base + off) / 0x1000 = pg.base / 0x1000 := by omega
  have : pageAt (pg.base + off) = pageAt pg.base := by
    unfold pageAt
    simp only [hq]
  rw [this, pageAt_base]

theorem PageId.off_mod (pg : PageId) {off : Nat} (h : off < 0x1000) : (pg.base + off) % 0x1000 = off := by
  have hb := PageId.base_aligned pg
  omega

theorem State.accessPage_there (s : State) (pg : PageId) {off : Nat} (h : off < 0x1000) (ht : s.pageThere pg = true) :
    s.accessPage (pg.base + off) = some pg := by
  unfold State.accessPage
  rw [pageAt_off pg h]
  cases pg <;> simp_all [State.pageThere]

/-- A single access counts no bit errors of a loopback run beforehand. -/
@[simp] theorem State.loopErrors_single (s : State) (r : AccessRun) (h : r.kind = .single) : s.loopErrors r = s := by
  unfold State.loopErrors
  rw [h]

/-- A write that is taken and breaks no pair: the register write, then the answer OK. -/
theorem State.oneWith_taken (s : State) (who : Requester) (pg : PageId) (off : Nat) (be : BitVec 4) (v : Word) (pe : Bool) (er : Nat)
    (h : s.takesWrite who pg off = true) (hbe : be ≠ 0) (hg : isRwg pg off = false) (hc : isComplement pg off = false) :
    s.oneWith who (regAddr pg off) (some ⟨be, v⟩) pe er =
      (s.writeReg (s.identOf who) pg off be v false pe er).afterAccess 0 0 := by
  simp only [State.takesWrite, State.reaches, Bool.and_eq_true, Bool.not_eq_true', decide_eq_true_eq, Option.isNone_iff_eq_none] at h
  obtain ⟨⟨⟨⟨⟨⟨hm, ho⟩, ht⟩, hs⟩, hx⟩, hd⟩, hp⟩ := h
  have hap := s.accessPage_there pg ho ht
  have hck : (!alwaysThere pg off && !s.clockOn pg) = false := by
    rcases Bool.eq_false_or_eq_true (alwaysThere pg off) with e | e <;> simp_all
  have hdr : (!alwaysThere pg off && s.domainInRst pg) = false := by
    rcases Bool.eq_false_or_eq_true (alwaysThere pg off) with e | e <;> simp_all
  have hb0 : ¬ be = 0#4 := hbe
  simp [State.oneWith, hm, State.startRun, State.runOn, State.runWord, State.access, regAddr, hap, PageId.off_mod pg ho, hd, State.accessBlock, hs,
    hck, hdr, State.writeTaken, hb0, hp, State.writeOwn, hg, hc, State.afterAccess, State.settleRun, State.popsWake, State.finishRun]

theorem State.mgtFollow_settled (s : State) (h : s.mgtSettled = true) : s.mgtFollow = s := by
  have hw : s.mgtWaits = false := by
    simp only [State.mgtSettled, Bool.or_eq_true, Bool.not_eq_true', beq_iff_eq] at h
    unfold State.mgtWaits
    rcases h with h | h <;> simp [h]
  simp [State.mgtFollow, hw]

/-- A guarded pair that is taken: the pair opened and answered, then completed by the guarded write and answered. -/
theorem State.pairOne_taken (s : State) (who : Requester) (pg : PageId) (off : Nat) (v : Word)
    (h1 : s.takesWrite who pg off = true) (h2 : s.takesWrite who pg (off + 4) = true) (hg : isRwg pg off = true)
    (hm : s.mgtSettled = true) (hh : s.coreHeld = false) :
    s.pairOne who (regAddr pg off) v =
      ((((s.setPair (s.identOf who) (some ⟨regAddr pg off, v⟩)).reply (.word 0 0)).setPair (s.identOf who) none).writeReg
        (s.identOf who) pg off 0xF v true false 0).afterAccess 0 0 := by
  simp only [State.takesWrite, State.reaches, Bool.and_eq_true, Bool.not_eq_true', decide_eq_true_eq, Option.isNone_iff_eq_none] at h1 h2
  obtain ⟨⟨⟨⟨⟨⟨hma, ho⟩, ht⟩, hs⟩, hx⟩, hd⟩, hp⟩ := h1
  obtain ⟨⟨⟨⟨⟨⟨-, ho4⟩, -⟩, hs4⟩, hx4⟩, hd4⟩, -⟩ := h2
  have hap := s.accessPage_there pg ho ht
  have hap4 := s.accessPage_there pg ho4 ht
  have hck : (!alwaysThere pg off && !s.clockOn pg) = false := by
    rcases Bool.eq_false_or_eq_true (alwaysThere pg off) with e | e <;> simp_all
  have hdr : (!alwaysThere pg off && s.domainInRst pg) = false := by
    rcases Bool.eq_false_or_eq_true (alwaysThere pg off) with e | e <;> simp_all
  have hck4 : (!alwaysThere pg (off + 4) && !s.clockOn pg) = false := by
    rcases Bool.eq_false_or_eq_true (alwaysThere pg (off + 4)) with e | e <;> simp_all
  have hdr4 : (!alwaysThere pg (off + 4) && s.domainInRst pg) = false := by
    rcases Bool.eq_false_or_eq_true (alwaysThere pg (off + 4)) with e | e <;> simp_all
  have first : s.writeOne who (regAddr pg off) 0xF v =
      (s.setPair (s.identOf who) (some ⟨regAddr pg off, v⟩)).reply (.word 0 0) := by
    have hset : ((s.setPair (s.identOf who) (some ⟨regAddr pg off, v⟩)).reply (.word 0 0)).mgtFollow = _ :=
      State.mgtFollow_settled _ (by exact hm)
    simp [State.writeOne, State.oneWith, hma, State.startRun, State.runOn, State.runWord, State.access, regAddr, hap, PageId.off_mod pg ho, hd,
      State.accessBlock, hs, hck, hdr, State.writeTaken, hp, State.writeOwn, hg, State.settleRun, State.popsWake, State.finishRun, hh]
    simpa [regAddr] using hset
  have hident : ((s.setPair (s.identOf who) (some ⟨regAddr pg off, v⟩)).reply (.word 0 0)).identOf who = s.identOf who := by
    cases who <;> rfl
  unfold State.pairOne
  rw [first]
  have hma' : ((s.setPair (s.identOf who) (some ⟨regAddr pg off, v⟩)).reply (.word 0 0)).mayAccess who = true := hma
  have hap4' : ((s.setPair (s.identOf who) (some ⟨regAddr pg off, v⟩)).reply (.word 0 0)).accessPage (pg.base + (off + 4)) = some pg := hap4
  have hd4' : ((s.setPair (s.identOf who) (some ⟨regAddr pg off, v⟩)).reply (.word 0 0)).denied who (some pg) (off + 4) = false := hd4
  have hs4' : ((s.setPair (s.identOf who) (some ⟨regAddr pg off, v⟩)).reply (.word 0 0)).stalls who pg (off + 4) = false := hs4
  have hck4' : (!alwaysThere pg (off + 4) && !((s.setPair (s.identOf who) (some ⟨regAddr pg off, v⟩)).reply (.word 0 0)).clockOn pg) = false := by
    rw [← hck4]; cases pg <;> rfl
  have hdr4' : (!alwaysThere pg (off + 4) && ((s.setPair (s.identOf who) (some ⟨regAddr pg off, v⟩)).reply (.word 0 0)).domainInRst pg) = false := by
    rw [← hdr4]; cases pg <;> rfl
  have hpair : ((s.setPair (s.identOf who) (some ⟨regAddr pg off, v⟩)).reply (.word 0 0)).pair (s.identOf who) = some ⟨regAddr pg off, v⟩ := by
    simp [State.pair, State.setPair, State.reply, Sparse.get_put_same]
  generalize hu : (s.setPair (s.identOf who) (some ⟨regAddr pg off, v⟩)).reply (.word 0 0) = u at *
  simp [State.writeOne, State.oneWith, hma', State.startRun, State.runOn, State.runWord, State.access, regAddr, hap4', Nat.add_assoc, PageId.off_mod pg ho4,
    hd4', State.accessBlock, hs4', hck4', hdr4', State.writeTaken, hident, hpair, State.settleRun, State.popsWake, State.finishRun, State.afterAccess]

end Sys2Proof.Machine
end

