-- ==== Sys2Proof/Laws/Dram.lean ====
section
/-! SUPPORT. The cells of the DRAM: no two addresses select one cell, and a read after a write. -/

namespace Sys2Proof.Machine

/-- An address is its cell's fields put back in the address order of a geometry. -/
theorem DramGeom.cell_inj (g : DramGeom) {a b : Nat} (h : g.cell a = g.cell b) : a = b := by
  unfold DramGeom.cell at h
  rcases g with ⟨_ | _, _ | _⟩ <;> simp only [Bool.false_eq_true, if_true, if_false] at h <;> omega

@[simp] theorem Dram.byte_putByte_same (d : Dram) (a : Nat) (b : Byte) : (d.putByte a b).byte a = b :=
  Sparse.get_put_same d.dflt d.mem _ b

/-- A byte stored leaves every other address as it was, whatever the geometry. -/
theorem Dram.byte_putByte_ne (d : Dram) {a c : Nat} (b : Byte) (h : c ≠ a) : (d.putByte a b).byte c = d.byte c := by
  have hc : d.geom.cell c ≠ d.geom.cell a := fun e => h (d.geom.cell_inj e)
  exact Sparse.get_put_ne d.dflt d.mem b hc

end Sys2Proof.Machine
end

