-- ==== Sys2Proof/Laws/Get.lean ====
section
/-! SUPPORT. A field read after the shared operations: writes of other fields, of other pages, counters, flags and events. -/

namespace Sys2Proof.Machine

set_option linter.unreachableTactic false
set_option linter.unusedTactic false

/-- A key of a filtered list reads as before where the filter keeps its entries, else as its default. -/
theorem Sparse.get_filter {α : Type} (d : Nat → α) (l : List (Nat × α)) (p : Nat → Bool) (k : Nat) :
    Sparse.get d (l.filter (fun e => p e.1)) k = if p k then Sparse.get d l k else d k := by
  induction l with
  | nil => simp [Sparse.get, Sparse.find]
  | cons e t ih =>
    obtain ⟨a, v⟩ := e
    by_cases hk : a = k
    · subst hk
      cases hp : p a
      · simp [hp] at ih ⊢
        exact ih
      · simp [hp, Sparse.get, Sparse.find]
    · cases hp : p a <;> simp [hp, Sparse.get, Sparse.find, hk] at ih ⊢ <;> exact ih

/-- A write of one field leaves every field of another name alone, on whatever page. -/
theorem State.get_put_fld (s : State) (pg pg' : PageId) (f g : Fld) (v : Nat) (hf : f.off < 0x1000) (hg : g.off < 0x1000)
    (h : g.off ≠ f.off ∨ f.lo + f.width ≤ g.lo ∨ g.lo + g.width ≤ f.lo) : (s.put pg f v).get pg' g = s.get pg' g := by
  by_cases hp : pg' = pg
  · subst hp
    rcases h with h | h
    · exact State.get_put_off _ _ _ _ _ h
    · exact State.get_put_bits _ _ _ _ _ h
  · exact State.get_put_page _ _ _ _ hp hf hg

theorem State.flag_put_same (s : State) (pg : PageId) (f : Fld) (v : Nat) (h : f.lo + f.width ≤ 32) :
    (s.put pg f v).flag pg f = (v % 2 ^ f.width != 0) := by simp [State.flag, State.get_put_same s pg f v h]

theorem State.flag_put_fld (s : State) (pg pg' : PageId) (f g : Fld) (v : Nat) (hf : f.off < 0x1000) (hg : g.off < 0x1000)
    (h : g.off ≠ f.off ∨ f.lo + f.width ≤ g.lo ∨ g.lo + g.width ≤ f.lo) : (s.put pg f v).flag pg' g = s.flag pg' g := by
  simp [State.flag, State.get_put_fld s pg pg' f g v hf hg h]

theorem State.flag_put_page (s : State) {pg pg' : PageId} (f g : Fld) (v : Nat) (h : pg' ≠ pg) (hf : f.off < 0x1000) (hg : g.off < 0x1000) :
    (s.put pg f v).flag pg' g = s.flag pg' g := by simp [State.flag, State.get_put_page s f g v h hf hg]

theorem State.flag_raiseWith (s : State) (pg pg' : PageId) (e : Ev) (src d : Nat) (b : Bool) (j : Subject) (f : Fld)
    (h : pg' ≠ pg ∨ f.off ≠ 0xC) (hf : f.off < 0x1000) : (s.raiseWith pg e src d b j).flag pg' f = s.flag pg' f := by
  simp [State.flag, State.get_raiseWith s pg pg' e src d b j f h hf]

@[simp] theorem State.raiseWith_regs_of (s : State) (pg : PageId) (e : Ev) (src d : Nat) (b : Bool) (j : Subject) :
    (s.raiseWith pg e src d b j).bad = s.bad := by
  unfold State.raiseWith State.handOff State.setFifo
  split
  · dsimp only; split <;> rfl
  · dsimp only; split
    · split <;> rfl
    · rfl

end Sys2Proof.Machine
end

