-- ==== Sys2Proof/Laws/InvBase.lean ====
section
/-! SUPPORT. The invariant of Safety.lean: what a change that touches no store leaves, and the primitive changes of each store. -/

namespace Sys2Proof.Machine

set_option linter.unreachableTactic false
set_option linter.unusedTactic false

/-- An outcome whose next state, if it is one, keeps the invariant. -/
structure State.InvO (o : Host.Outcome State Fault Refusal) : Prop where
  keeps : ∀ t, o = .next t → t.Inv

theorem State.invO_next {t : State} (h : t.Inv) : State.InvO (.next t) := by
  exact ⟨fun u hu => by cases hu; exact h⟩

theorem State.invO_fault (r : Fault) : State.InvO (.fault r) := by
  exact ⟨fun u hu => by cases hu⟩

theorem inv_ite {c : Prop} [Decidable c] {a b : State} (ha : a.Inv) (hb : b.Inv) : (if c then a else b).Inv := by
  split <;> assumption

theorem invO_ite {c : Prop} [Decidable c] {a b : Host.Outcome State Fault Refusal} (ha : State.InvO a) (hb : State.InvO b) :
    State.InvO (if c then a else b) := by
  split <;> assumption

theorem inv_dite {c : Prop} [Decidable c] {a : c → State} {b : ¬c → State} (ha : ∀ h, (a h).Inv) (hb : ∀ h, (b h).Inv) :
    (dite c a b).Inv := by
  split
  · exact ha _
  · exact hb _

theorem inv_foldl {α : Type} {f : State → α → State} {l : List α} {s : State} (hf : ∀ s x, s.Inv → (f s x).Inv) (h : s.Inv) :
    (l.foldl f s).Inv := by
  induction l generalizing s with
  | nil => exact h
  | cons x t ih => exact ih (hf _ _ h)

theorem inv_of_snd {α : Type} {p : α × State} {a : α} {s : State} (e : p = (a, s)) (h : p.2.Inv) : s.Inv := by
  subst e; exact h

theorem inv_of_snd2 {α β : Type} {p : α × β × State} {a : α} {b : β} {s : State} (e : p = (a, b, s)) (h : p.2.2.Inv) : s.Inv := by
  subst e; exact h

theorem inv_of_snd3 {α β γ : Type} {p : α × β × γ × State} {a : α} {b : β} {c : γ} {s : State} (e : p = (a, b, c, s))
    (h : p.2.2.2.Inv) : s.Inv := by
  subst e; exact h

theorem inv_of_fst {α : Type} {p : State × α} {a : α} {s : State} (e : p = (s, a)) (h : p.1.Inv) : s.Inv := by
  subst e; exact h

theorem inv_foldl_snd {α β : Type} {f : β × State → α → β × State} {l : List α} {p : β × State}
    (hf : ∀ p x, p.2.Inv → (f p x).2.Inv) (h : p.2.Inv) : (l.foldl f p).2.Inv := by
  induction l generalizing p with
  | nil => exact h
  | cons x t ih => exact ih (hf _ _ h)

theorem inv_foldl_fst {α β : Type} {f : State × β → α → State × β} {l : List α} {p : State × β}
    (hf : ∀ p x, p.1.Inv → (f p x).1.Inv) (h : p.1.Inv) : (l.foldl f p).1.Inv := by
  induction l generalizing p with
  | nil => exact h
  | cons x t ih => exact ih (hf _ _ h)

theorem inv_foldl_fst2 {α β γ : Type} {f : (State × β) × γ → α → (State × β) × γ} {l : List α} {p : (State × β) × γ}
    (hf : ∀ p x, p.1.1.Inv → (f p x).1.1.Inv) (h : p.1.1.Inv) : (l.foldl f p).1.1.Inv := by
  induction l generalizing p with
  | nil => exact h
  | cons x t ih => exact ih (hf _ _ h)

theorem Dram.putByte_canon {d : Dram} (h : d.Canon) (a : Nat) (b : Byte) : (d.putByte a b).Canon := Sparse.put_wf h _ _

theorem Dram.putBytes_canon {d : Dram} (h : d.Canon) (a : Nat) (bs : List Byte) : (d.putBytes a bs).Canon := by
  induction bs generalizing d a with
  | nil => exact h
  | cons b t ih => exact ih (Dram.putByte_canon h a b) _

/-- A change of the DRAM that leaves its contents keeps the form. -/
theorem Dram.Canon.of {d e : Dram} (h : d.Canon) (h1 : e.mem = d.mem) (h2 : e.epoch = d.epoch) (h3 : e.zeroed = d.zeroed) : e.Canon := by
  have hd : e.dflt = d.dflt := by funext a; simp [Dram.dflt, h2, h3]
  unfold Dram.Canon
  rw [hd, h1]
  exact h

theorem Dram.mend_canon {d : Dram} (h : d.Canon) (w : Nat) : (d.mend w).Canon := h.of rfl rfl rfl

/-- A change that touches no store keeps the invariant. -/
theorem State.Inv.of {s t : State} (h : s.Inv) (h1 : t.regs = s.regs) (h2 : t.fifos = s.fifos) (h3 : t.mram = s.mram)
    (h4 : t.stage = s.stage) (h5 : t.epm = s.epm) (h6 : t.graver.templates = s.graver.templates)
    (h7 : t.graver.buffer = s.graver.buffer) (h8 : t.dram = s.dram) (h9 : t.cpt = s.cpt) (h10 : t.queues = s.queues) : t.Inv where
  regs := h1 ▸ h.regs
  fifoForm := h2 ▸ h.fifoForm
  mram := h3 ▸ h.mram
  stage := h4 ▸ h.stage
  epm := h5 ▸ h.epm
  templates := h6 ▸ h.templates
  buffer := h7 ▸ h.buffer
  dram := h8 ▸ h.dram
  areas := h9 ▸ h.areas
  fifos := h2 ▸ h.fifos
  queues := h10 ▸ h.queues

theorem State.wr_inv (s : State) (addr : Nat) (w : Word) (h : s.Inv) : (s.wr addr w).Inv :=
  { h with regs := Sparse.put_wf h.regs _ _ }

theorem State.clearRegs_inv (s : State) (lo hi : Nat) (h : s.Inv) : (s.clearRegs lo hi).Inv :=
  { h with regs := Sparse.filter_wf h.regs _ }

theorem State.setFifo_inv (s : State) (page : Nat) (f : Fifo) (h : s.Inv) (hf : f.recs.length ≤ fifoDepth page) :
    (s.setFifo page f).Inv :=
  { h with
    fifoForm := Sparse.put_wf h.fifoForm _ _
    fifos := fun e he => by
      have he' : e ∈ Sparse.put (fun _ => emptyFifo) s.fifos page f := he
      rcases Sparse.mem_put he' with rfl | he
      · exact hf
      · exact h.fifos e he }

theorem State.setQueue_inv (s : State) (n : QueueIx) (q : Queue) (h : s.Inv) (hq : ∀ l : Fin 8, (q.levels[l]).recs.length ≤ 64) :
    (s.setQueue n q).Inv :=
  { h with
    queues := fun m l => by
      by_cases hm : n = m
      · subst hm; simpa [State.setQueue] using hq l
      · have := h.queues m l
        have hv : n.val ≠ m.val := fun e => hm (Fin.ext e)
        simp [State.setQueue, hv]
        simpa using this }

theorem State.Inv.set_pending {s : State} {x : List Instr} (h : s.Inv) : State.Inv { s with pending := x } :=
  h.of rfl rfl rfl rfl rfl rfl rfl rfl rfl rfl

theorem State.Inv.set_answer {s : State} {x : Answer} (h : s.Inv) : State.Inv { s with answer := x } :=
  h.of rfl rfl rfl rfl rfl rfl rfl rfl rfl rfl

theorem State.Inv.set_freeCount {s : State} {x : Nat} (h : s.Inv) : State.Inv { s with freeCount := x } :=
  h.of rfl rfl rfl rfl rfl rfl rfl rfl rfl rfl

theorem State.Inv.set_coreHeld {s : State} {x : Bool} (h : s.Inv) : State.Inv { s with coreHeld := x } :=
  h.of rfl rfl rfl rfl rfl rfl rfl rfl rfl rfl

theorem State.Inv.set_dclkOn {s : State} {x : Bool} (h : s.Inv) : State.Inv { s with dclkOn := x } :=
  h.of rfl rfl rfl rfl rfl rfl rfl rfl rfl rfl

theorem State.Inv.set_gclkOn {s : State} {x : Bool} (h : s.Inv) : State.Inv { s with gclkOn := x } :=
  h.of rfl rfl rfl rfl rfl rfl rfl rfl rfl rfl

theorem State.Inv.set_drcPend {s : State} {x : Bool} (h : s.Inv) : State.Inv { s with drcPend := x } :=
  h.of rfl rfl rfl rfl rfl rfl rfl rfl rfl rfl

theorem State.Inv.set_uptime {s : State} {x : BitVec 64} (h : s.Inv) : State.Inv { s with uptime := x } :=
  h.of rfl rfl rfl rfl rfl rfl rfl rfl rfl rfl

theorem State.Inv.set_guards {s : State} {x : List (Nat × Option GuardPair)} (h : s.Inv) : State.Inv { s with guards := x } :=
  h.of rfl rfl rfl rfl rfl rfl rfl rfl rfl rfl

theorem State.Inv.set_bad {s : State} {x : List Mismatch} (h : s.Inv) : State.Inv { s with bad := x } :=
  h.of rfl rfl rfl rfl rfl rfl rfl rfl rfl rfl

theorem State.Inv.set_runs {s : State} {x : List AccessRun} (h : s.Inv) : State.Inv { s with runs := x } :=
  h.of rfl rfl rfl rfl rfl rfl rfl rfl rfl rfl

theorem State.Inv.set_mports {s : State} {x : Vector MPort 2} (h : s.Inv) : State.Inv { s with mports := x } :=
  h.of rfl rfl rfl rfl rfl rfl rfl rfl rfl rfl

theorem State.Inv.set_ringSlots {s : State} {x : List RingSlot} (h : s.Inv) : State.Inv { s with ringSlots := x } :=
  h.of rfl rfl rfl rfl rfl rfl rfl rfl rfl rfl

theorem State.Inv.set_ringSides {s : State} {x : Vector RingSide 2} (h : s.Inv) : State.Inv { s with ringSides := x } :=
  h.of rfl rfl rfl rfl rfl rfl rfl rfl rfl rfl

theorem State.Inv.set_legacy {s : State} {x : LegacyTarget} (h : s.Inv) : State.Inv { s with legacy := x } :=
  h.of rfl rfl rfl rfl rfl rfl rfl rfl rfl rfl

theorem State.Inv.set_routePtr {s : State} {x : Nat} (h : s.Inv) : State.Inv { s with routePtr := x } :=
  h.of rfl rfl rfl rfl rfl rfl rfl rfl rfl rfl

theorem State.Inv.set_wear {s : State} {x : Vector Nat 2} (h : s.Inv) : State.Inv { s with wear := x } :=
  h.of rfl rfl rfl rfl rfl rfl rfl rfl rfl rfl

theorem State.Inv.set_cfgOp {s : State} {x : CfgOp} (h : s.Inv) : State.Inv { s with cfgOp := x } :=
  h.of rfl rfl rfl rfl rfl rfl rfl rfl rfl rfl

theorem State.Inv.set_entry {s : State} {x : Entry} (h : s.Inv) : State.Inv { s with entry := x } :=
  h.of rfl rfl rfl rfl rfl rfl rfl rfl rfl rfl

theorem State.Inv.set_arb {s : State} {x : Arbiter} (h : s.Inv) : State.Inv { s with arb := x } :=
  h.of rfl rfl rfl rfl rfl rfl rfl rfl rfl rfl

theorem State.Inv.set_u2pSt {s : State} {x : Vector U2pSt 64} (h : s.Inv) : State.Inv { s with u2pSt := x } :=
  h.of rfl rfl rfl rfl rfl rfl rfl rfl rfl rfl

theorem State.Inv.set_hubCtx {s : State} {x : Vector HubCtxSt 10} (h : s.Inv) : State.Inv { s with hubCtx := x } :=
  h.of rfl rfl rfl rfl rfl rfl rfl rfl rfl rfl

theorem State.Inv.set_sspSt {s : State} {x : Vector SspSt 16} (h : s.Inv) : State.Inv { s with sspSt := x } :=
  h.of rfl rfl rfl rfl rfl rfl rfl rfl rfl rfl

theorem State.Inv.set_ssCtx {s : State} {x : Vector SsCtxSt 10} (h : s.Inv) : State.Inv { s with ssCtx := x } :=
  h.of rfl rfl rfl rfl rfl rfl rfl rfl rfl rfl

theorem State.Inv.set_upLink {s : State} {x : Vector UpLinkSt 2} (h : s.Inv) : State.Inv { s with upLink := x } :=
  h.of rfl rfl rfl rfl rfl rfl rfl rfl rfl rfl

theorem State.Inv.set_vbsSt {s : State} {x : Vector VbsSt 64} (h : s.Inv) : State.Inv { s with vbsSt := x } :=
  h.of rfl rfl rfl rfl rfl rfl rfl rfl rfl rfl

theorem State.Inv.set_tcpSt {s : State} {x : Vector TcpSt 64} (h : s.Inv) : State.Inv { s with tcpSt := x } :=
  h.of rfl rfl rfl rfl rfl rfl rfl rfl rfl rfl

theorem State.Inv.set_pdSt {s : State} {x : Vector PdSt 64} (h : s.Inv) : State.Inv { s with pdSt := x } :=
  h.of rfl rfl rfl rfl rfl rfl rfl rfl rfl rfl

theorem State.Inv.set_upPdOut {s : State} {x : Vector (List PdOut) 2} (h : s.Inv) : State.Inv { s with upPdOut := x } :=
  h.of rfl rfl rfl rfl rfl rfl rfl rfl rfl rfl

theorem State.Inv.set_conSt {s : State} {x : Vector ConSt 64} (h : s.Inv) : State.Inv { s with conSt := x } :=
  h.of rfl rfl rfl rfl rfl rfl rfl rfl rfl rfl

theorem State.Inv.set_presSt {s : State} {x : Vector PresSt 2} (h : s.Inv) : State.Inv { s with presSt := x } :=
  h.of rfl rfl rfl rfl rfl rfl rfl rfl rfl rfl

theorem State.Inv.set_moveBegun {s : State} {x : BitVec 64} (h : s.Inv) : State.Inv { s with moveBegun := x } :=
  h.of rfl rfl rfl rfl rfl rfl rfl rfl rfl rfl

theorem State.Inv.set_moveCause {s : State} {x : Vector (Fin 5) 64} (h : s.Inv) : State.Inv { s with moveCause := x } :=
  h.of rfl rfl rfl rfl rfl rfl rfl rfl rfl rfl

theorem State.Inv.set_mgfSt {s : State} {x : Vector MgfSt 2} (h : s.Inv) : State.Inv { s with mgfSt := x } :=
  h.of rfl rfl rfl rfl rfl rfl rfl rfl rfl rfl

theorem State.Inv.set_lheSt {s : State} {x : Vector LheSt 64} (h : s.Inv) : State.Inv { s with lheSt := x } :=
  h.of rfl rfl rfl rfl rfl rfl rfl rfl rfl rfl

theorem State.Inv.set_upWant {s : State} {x : Vector PdWant 2} (h : s.Inv) : State.Inv { s with upWant := x } :=
  h.of rfl rfl rfl rfl rfl rfl rfl rfl rfl rfl

theorem State.Inv.set_copies {s : State} {x : Vector (BitVec 80) 11} (h : s.Inv) : State.Inv { s with copies := x } :=
  h.of rfl rfl rfl rfl rfl rfl rfl rfl rfl rfl

theorem State.Inv.set_phase {s : State} {x : Fin 120} (h : s.Inv) : State.Inv { s with phase := x } :=
  h.of rfl rfl rfl rfl rfl rfl rfl rfl rfl rfl

theorem State.Inv.set_health {s : State} {x : Health} (h : s.Inv) : State.Inv { s with health := x } :=
  h.of rfl rfl rfl rfl rfl rfl rfl rfl rfl rfl

end Sys2Proof.Machine
end

