-- ==== Sys2Proof/Laws/InvOps.lean ====
section
/-! SUPPORT. What the definitions of Machine/Ops.lean keep: each one leaves the invariant of Safety.lean as it was. -/

namespace Sys2Proof.Machine

set_option linter.unreachableTactic false
set_option linter.unusedTactic false

theorem State.put_inv (s : State) (pg : PageId) (f : Fld) (v : Nat) (hI : s.Inv) : (State.put s pg f v).Inv := by
  unfold State.put
  repeat' (with_reducible (first | assumption | apply State.wr_inv))

theorem State.setFlag_inv (s : State) (pg : PageId) (f : Fld) (b : Bool) (hI : s.Inv) : (State.setFlag s pg f b).Inv := by
  unfold State.setFlag
  repeat' (with_reducible (first | assumption | apply State.put_inv))

theorem State.countBy_inv (s : State) (pg : PageId) (f : Fld) (n : Nat) (hI : s.Inv) : (State.countBy s pg f n).Inv := by
  unfold State.countBy
  repeat' (with_reducible (first | assumption | apply State.put_inv))

theorem State.count_inv (s : State) (pg : PageId) (f : Fld) (hI : s.Inv) : (State.count s pg f).Inv := by
  unfold State.count
  repeat' (with_reducible (first | assumption | apply State.countBy_inv))

theorem State.mgtErr_inv (s : State) (i : Ident) (f : Nat → Fld) (hI : s.Inv) : (State.mgtErr s i f).Inv := by
  unfold State.mgtErr
  repeat' (with_reducible (first | assumption | apply State.put_inv))

theorem State.free_inv (s : State) (h : s.Inv) : (State.free s).2.Inv := h.set_freeCount

theorem State.reply_inv (s : State) (a : Answer) (hI : s.Inv) : (State.reply s a).Inv := by
  unfold State.reply
  try dsimp only
  repeat' (first | (with_reducible (first | assumption)) | (with_reducible apply State.Inv.set_answer))

theorem State.copiesTo_inv (s : State) (b : Nat) (hI : s.Inv) : (State.copiesTo s b).Inv := by
  unfold State.copiesTo
  try dsimp only
  repeat' (first | (with_reducible (first | assumption | apply inv_ite)) | (intro _) | split | (with_reducible apply State.Inv.set_copies))

theorem State.alignUptime_inv (s : State) (hI : s.Inv) : (State.alignUptime s).Inv := by
  unfold State.alignUptime State.copiesTo
  exact hI.of rfl rfl rfl rfl rfl rfl rfl rfl rfl rfl

theorem State.rclkCycle_inv (s : State) (hI : s.Inv) : (State.rclkCycle s).Inv := by
  unfold State.rclkCycle State.copiesTo
  split
  · exact hI.of rfl rfl rfl rfl rfl rfl rfl rfl rfl rfl
  · exact hI

end Sys2Proof.Machine
end

