-- ==== Sys2Proof/Laws/InvFlags.lean ====
section
/-! SUPPORT. What the definitions of Machine/Flags.lean keep: each one leaves the invariant of Safety.lean as it was. -/

namespace Sys2Proof.Machine

set_option linter.unreachableTactic false
set_option linter.unusedTactic false

theorem State.fifo_len (s : State) (page : Nat) (h : s.Inv) : (s.fifo page).recs.length ≤ fifoDepth page := by
  unfold State.fifo Sparse.get
  cases hf : Sparse.find s.fifos page with
  | none => simp [emptyFifo]
  | some f => exact h.fifos _ (Sparse.find_mem hf)

theorem State.handOff_inv (s : State) (page : Nat) (r : EventRecord) (h : s.Inv) : (State.handOff s page r).Inv := by
  unfold State.handOff
  dsimp only
  split
  · rename_i hc
    exact State.setFifo_inv s page _ h (by simp; omega)
  · exact State.setFifo_inv s page _ h (State.fifo_len s page h)

theorem State.raiseWith_inv (s : State) (pg : PageId) (e : Ev) (src : Nat) (detail : Nat) (assert : Bool) (subj : Subject) (hI : s.Inv) : (State.raiseWith s pg e src detail assert subj).Inv := by
  unfold State.raiseWith
  try dsimp only
  repeat' (first | (with_reducible (first | assumption | apply State.put_inv | apply State.handOff_inv | apply inv_ite)) | split)

theorem State.raisePort_inv (s : State) (pg : PageId) (p : Port) (e : Ev) (detail : Nat) (assert : Bool) (hI : s.Inv) : (State.raisePort s pg p e detail assert).Inv := by
  unfold State.raisePort
  repeat' (with_reducible (first | assumption | apply State.raiseWith_inv))

theorem State.raise_inv (s : State) (pg : PageId) (e : Ev) (src : Nat) (detail : Nat) (assert : Bool) (hI : s.Inv) : (State.raise s pg e src detail assert).Inv := by
  unfold State.raise
  repeat' (with_reducible (first | assumption | apply State.raiseWith_inv))

theorem State.raisePres_inv (s : State) (pg : PageId) (u : Up) (e : Ev) (src detail : Nat) (assert : Bool) (hI : s.Inv) : (State.raisePres s pg u e src detail assert).Inv := by
  unfold State.raisePres
  repeat' (with_reducible (first | assumption | apply State.raiseWith_inv))

theorem State.setFault_inv (s : State) (pg : PageId) (n : Nat) (hI : s.Inv) : (State.setFault s pg n).Inv := by
  unfold State.setFault
  repeat' (with_reducible (first | assumption | apply State.put_inv))

theorem State.mportWith_inv (s : State) (m : Master) (f : MPort → MPort) (hI : s.Inv) : (State.mportWith s m f).Inv := by
  unfold State.mportWith
  try dsimp only
  repeat' (first | (with_reducible (first | assumption)) | (with_reducible apply State.Inv.set_mports))

theorem State.sideWith_inv (s : State) (side : Side) (f : RingSide → RingSide) (hI : s.Inv) : (State.sideWith s side f).Inv := by
  unfold State.sideWith
  try dsimp only
  repeat' (first | (with_reducible (first | assumption)) | (with_reducible apply State.Inv.set_ringSides))

theorem State.queueOut_inv (s : State) (side : Side) (dest : Chip) (body : RingBody) (hI : s.Inv) : (State.queueOut s side dest body).Inv := by
  unfold State.queueOut
  try dsimp only
  repeat' (first | (with_reducible (first | assumption | apply State.sideWith_inv)) | (intro _))

theorem State.ringSend_inv (s : State) (c : Chip) (body : RingBody) (hI : s.Inv) : (State.ringSend s c body).Inv := by
  unfold State.ringSend
  try dsimp only
  repeat' (first | (with_reducible (first | assumption | apply State.queueOut_inv)) | split)

theorem State.setAttn_inv (s : State) (c : Chip) (qb set : Bool) (hI : s.Inv) : (State.setAttn s c qb set).Inv := by
  unfold State.setAttn
  repeat' (first | (with_reducible (first | assumption | apply State.setFlag_inv | apply inv_ite)) | split)

theorem State.attnNotice_inv (s : State) (m : Master) (hI : s.Inv) : (State.attnNotice s m).Inv := by
  unfold State.attnNotice
  try dsimp -iota only
  repeat' (first | split | (with_reducible (first | assumption | apply State.mportWith_inv | apply State.ringSend_inv | apply State.setAttn_inv | apply inv_ite)) | (intro _) | (refine inv_of_snd (by with_reducible assumption) ?_))

theorem State.attnNotices_inv (s : State) (hI : s.Inv) : (State.attnNotices s).Inv := by
  unfold State.attnNotices
  repeat' (with_reducible (first | assumption | apply State.attnNotice_inv))

theorem State.notePeak_inv (s : State) (n : QueueIx) (hI : s.Inv) : (State.notePeak s n).Inv := by
  unfold State.notePeak
  try dsimp only
  repeat' (first | (with_reducible (first | assumption | apply State.put_inv | apply inv_ite)) | split)

theorem State.noteNotice_inv (s : State) (n : QueueIx) (l : Fin 8) (wm : Bool) (hI : s.Inv) : (State.noteNotice s n l wm).Inv := by
  unfold State.noteNotice
  try dsimp only
  repeat' (first | (with_reducible (first | assumption | apply State.put_inv | apply inv_ite)) | split)

theorem State.storeRecord_inv (s : State) (n : QueueIx) (l : Fin 8) (r : EventRecord)
    (hl : ((s.queue n).levels[l]).recs.length < 64) (h : s.Inv) : (State.storeRecord s n l r).Inv := by
  have h1 : (s.setQueue n { s.queue n with levels := (s.queue n).levels.set l ⟨((s.queue n).levels[l]).recs ++ [r], ((s.queue n).levels[l]).lost⟩ }).Inv := by
    refine State.setQueue_inv s n _ h (fun m => ?_)
    by_cases hm : l = m
    · subst hm; simp at hl ⊢; omega
    · have hv : l.val ≠ m.val := fun e => hm (Fin.ext e)
      have := h.queues n m
      simp [hv]
      simpa [State.queue] using this
  unfold State.storeRecord
  dsimp only
  repeat' (first | (with_reducible (first | assumption | apply State.attnNotices_inv | apply State.noteNotice_inv | apply State.notePeak_inv | apply State.put_inv | apply inv_ite)))

theorem State.pushRecord_inv (s : State) (n : QueueIx) (r : EventRecord) (h : s.Inv) : (State.pushRecord s n r).Inv := by
  unfold State.pushRecord
  dsimp only
  split
  · exact State.setQueue_inv s n _ h (h.queues n)
  · split
    · exact State.storeRecord_inv s n _ r (by assumption) h
    · refine State.count_inv _ _ _ (State.setQueue_inv s n _ h (fun m => ?_))
      by_cases hm : r.pri = m
      · subst hm
        have := h.queues n r.pri
        simpa [State.queue] using this
      · have hv : r.pri.val ≠ m.val := fun e => hm (Fin.ext e)
        have := h.queues n m
        simp [hv]
        simpa [State.queue] using this

theorem State.popRecord_inv (s t : State) (n : QueueIx) (r : EventRecord) (h : s.Inv) (ht : State.popRecord s n = some (r, t)) : t.Inv := by
  unfold State.popRecord at ht
  dsimp only at ht
  split at ht
  · cases ht
  · rename_i l hl
    split at ht
    · cases ht
    · rename_i x rest hr
      have hq : (s.setQueue n { s.queue n with levels := (s.queue n).levels.set l { recs := rest, lost := 0 } }).Inv := by
        refine State.setQueue_inv s n _ h (fun m => ?_)
        by_cases hm : l = m
        · subst hm
          have := h.queues n l
          have e : (s.queues[n]).levels[l] = (s.queue n).levels[l] := rfl
          rw [e, hr] at this
          simp at this ⊢; omega
        · have hv : l.val ≠ m.val := fun e => hm (Fin.ext e)
          have := h.queues n m
          simp [hv]
          simpa [State.queue] using this
      cases ht
      split
      · exact State.attnNotices_inv _ hq
      · refine State.storeRecord_inv _ n l _ ?_ hq
        have := h.queues n l
        have e : (s.queues[n]).levels[l] = (s.queue n).levels[l] := rfl
        rw [e, hr] at this
        simp [State.queue, State.setQueue] at this ⊢; omega

theorem State.latchWords_inv (s : State) (n : QueueIx) (peek : Bool) (r : Option EventRecord) (hI : s.Inv) : (State.latchWords s n peek r).Inv := by
  unfold State.latchWords
  try dsimp only
  repeat' (first | (with_reducible (first | assumption | apply State.wr_inv | apply inv_ite)) | split)

theorem State.unhand_inv (s : State) (n : QueueIx) (h : s.Inv) : (State.unhand s n).Inv := by
  unfold State.unhand
  dsimp only
  split
  · exact h
  · rename_i r hr
    split
    · exact h
    · have hq : ∀ k, (s.setQueue n { s.queue n with handoff := none, levels := (s.queue n).levels.set r.pri { recs := (r :: ((s.queue n).levels[r.pri]).recs).take 64, lost := k } }).Inv := fun k => by
        refine State.setQueue_inv s n _ h (fun m => ?_)
        by_cases hm : r.pri = m
        · subst hm; simp
        · have hv : r.pri.val ≠ m.val := fun e => hm (Fin.ext e)
          have := h.queues n m
          simp [hv]
          simpa [State.queue] using this
      split
      · exact State.attnNotices_inv _ (State.notePeak_inv _ _ (hq _))
      · exact State.attnNotices_inv _ (State.count_inv _ _ _ (hq _))

theorem State.flushQueue_inv (s : State) (n : QueueIx) (h : s.Inv) : (State.flushQueue s n).Inv := by
  unfold State.flushQueue
  dsimp only
  refine State.attnNotices_inv _ (State.latchWords_inv _ _ _ _ (State.latchWords_inv _ _ _ _ (State.put_inv _ _ _ _ (State.setQueue_inv s n _ h (fun m => ?_)))))
  simp

theorem State.offerTo_inv (s : State) (r : EventRecord) (n : QueueIx) (h : s.Inv) : (State.offerTo s r n).Inv := by
  unfold State.offerTo
  dsimp only
  split
  · split
    · exact State.setQueue_inv s n _ h (h.queues n)
    · exact State.pushRecord_inv _ _ _ (State.setQueue_inv s n _ h (h.queues n))
  · exact h

theorem State.offer_inv (s : State) (r : EventRecord) (hI : s.Inv) : (State.offer s r).Inv := by
  unfold State.offer
  try dsimp only
  repeat' (first | (with_reducible (first | assumption | apply State.offerTo_inv | refine inv_foldl (fun _ _ _ => ?_) ?_ | refine inv_foldl_snd (fun _ _ _ => ?_) ?_ | refine inv_foldl_fst (fun _ _ _ => ?_) ?_ | refine inv_foldl_fst2 (fun _ _ _ => ?_) ?_)) | (intro _))

theorem State.nextSource_mem (s : State) (e : Nat × Fifo) (h : s.nextSource = some e) : e ∈ s.fifos := by
  unfold State.nextSource at h
  split at h
  · rename_i x hx
    cases h; exact List.mem_of_find?_eq_some hx
  · exact List.mem_of_mem_head? h

theorem State.routeOne_inv (s : State) (h : s.Inv) : (State.routeOne s).Inv := by
  unfold State.routeOne
  split
  · exact h
  · split
    · exact h
    · rename_i pg f hs
      split
      · exact h
      · rename_i r rest hr
        refine State.offer_inv _ _ (State.Inv.set_routePtr (State.setFifo_inv s pg _ h ?_))
        have hl := h.fifos _ (State.nextSource_mem s _ hs)
        simp only [hr, List.length_cons] at hl
        unfold Fifo.drained
        split
        · simp; omega
        · simp; omega

theorem Fifo.refill_len (d : Nat) (os : List OverCount) (recs : List EventRecord) (h : recs.length ≤ d) :
    (Fifo.refill d recs os).recs.length ≤ d := by
  induction os generalizing recs with
  | nil => exact h
  | cons o os ih =>
    unfold Fifo.refill
    split
    · exact ih _ (by simp; omega)
    · exact h

theorem State.loadFilter_inv (s : State) (h : s.Inv) : (State.loadFilter s).Inv := by
  unfold State.loadFilter
  have gen : ∀ (l : List (Nat × Fifo)) (a : State), (∀ e ∈ l, e.2.recs.length ≤ fifoDepth e.1) → a.Inv →
      (l.foldl (fun a e => a.setFifo e.1 (Fifo.refill (fifoDepth e.1) (e.2.recs.filter (s.admits e.1))
        (e.2.overs.filter (fun o => s.admits e.1 o.last)))) a).Inv := by
    intro l
    induction l with
    | nil => intro a _ ha; exact ha
    | cons e l ih =>
      intro a hl ha
      refine ih _ (fun x hx => hl x (List.mem_cons_of_mem _ hx)) (State.setFifo_inv a e.1 _ ha (Fifo.refill_len _ _ _ ?_))
      exact Nat.le_trans (List.length_filter_le _ _) (hl e (List.mem_cons_self ..))
  exact gen _ _ h.fifos h

end Sys2Proof.Machine
end

