-- ==== Sys2Proof/Laws/InvParity.lean ====
section
/-! SUPPORT. What the definitions of Machine/Parity.lean keep: each one leaves the invariant of Safety.lean as it was. -/

namespace Sys2Proof.Machine

set_option linter.unreachableTactic false
set_option linter.unusedTactic false

theorem State.upset_inv (s : State) (addr : Nat) (flips : Word) (hI : s.Inv) : (State.upset s addr flips).Inv := by
  unfold State.upset
  try dsimp only
  repeat' (first | (with_reducible (first | assumption | apply State.wr_inv | apply inv_ite)) | (intro _) | split | (with_reducible apply State.Inv.set_bad))

theorem State.findParity_inv (s : State) (addr : Nat) (h : s.Inv) : (State.findParity s addr).2.Inv := by
  unfold State.findParity
  dsimp only
  repeat' (first | (with_reducible (first | assumption | apply State.handOff_inv | apply State.put_inv | apply State.count_inv | apply State.setFault_inv | apply inv_ite)) | split | with_reducible apply State.Inv.set_bad)

theorem State.mendParity_inv (s : State) (addr : Nat) (be : BitVec 4) (h : s.Inv) : (State.mendParity s addr be).2.Inv := by
  unfold State.mendParity
  dsimp only
  repeat' (first | (with_reducible (first | assumption | apply inv_ite)) | split | with_reducible apply State.Inv.set_bad)

theorem State.putRw_inv (s : State) (pg : PageId) (f : Fld) (v : Nat) (hI : s.Inv) : (State.putRw s pg f v).Inv := by
  unfold State.putRw
  repeat' (with_reducible (first | assumption | apply State.put_inv | apply State.mendParity_inv))

theorem State.clearParityFault_inv (s : State) (pg : PageId) (hI : s.Inv) : (State.clearParityFault s pg).Inv := by
  unfold State.clearParityFault
  try dsimp only
  repeat' (first | (with_reducible (first | assumption | apply State.wr_inv | apply inv_ite)) | (intro _) | split | (with_reducible apply State.Inv.set_bad))

theorem State.dropParity_inv (s : State) (lo hi : Nat) (hI : s.Inv) : (State.dropParity s lo hi).Inv := by
  unfold State.dropParity
  try dsimp only
  repeat' (first | (with_reducible (first | assumption)) | (intro _) | split | (with_reducible apply State.Inv.set_bad))

end Sys2Proof.Machine
end

