-- ==== Sys2Proof/Laws/InvParts.lean ====
section
/-! SUPPORT. What the definitions of Machine/Parts.lean keep: each one leaves the invariant of Safety.lean as it was. -/

namespace Sys2Proof.Machine

set_option linter.unreachableTactic false
set_option linter.unusedTactic false

theorem State.u2pWith_inv (s : State) (i : Port) (f : U2pSt → U2pSt) (hI : s.Inv) : (State.u2pWith s i f).Inv := by
  unfold State.u2pWith
  try dsimp only
  repeat' (first | (with_reducible (first | assumption)) | (with_reducible apply State.Inv.set_u2pSt))

theorem State.healthWith_inv (s : State) (f : Health → Health) (hI : s.Inv) : (State.healthWith s f).Inv := by
  unfold State.healthWith
  try dsimp only
  repeat' (first | (with_reducible (first | assumption)) | (with_reducible apply State.Inv.set_health))

theorem State.cptWith_inv (s : State) (i : Inst) (f : CptInst → CptInst) (h : s.Inv)
    (hf : ∀ c : CptInst, Sparse.wf zeroByte c.run → Sparse.wf zeroByte (f c).run) : (State.cptWith s i f).Inv :=
  { h with
    areas := fun j => by
      by_cases hj : i = j
      · subst hj; simpa [State.cptWith] using hf _ (h.areas i)
      · have hv : i.val ≠ j.val := fun e => hj (Fin.ext e)
        have := h.areas j
        simp [State.cptWith, hv]
        simpa using this }

theorem State.sspWith_inv (s : State) (i : Full) (f : SspSt → SspSt) (hI : s.Inv) : (State.sspWith s i f).Inv := by
  unfold State.sspWith
  try dsimp only
  repeat' (first | (with_reducible (first | assumption)) | (with_reducible apply State.Inv.set_sspSt))

theorem State.upLkWith_inv (s : State) (i : Up) (f : UpLinkSt → UpLinkSt) (hI : s.Inv) : (State.upLkWith s i f).Inv := by
  unfold State.upLkWith
  try dsimp only
  repeat' (first | (with_reducible (first | assumption)) | (with_reducible apply State.Inv.set_upLink))

theorem State.vbsWith_inv (s : State) (i : Port) (f : VbsSt → VbsSt) (hI : s.Inv) : (State.vbsWith s i f).Inv := by
  unfold State.vbsWith
  try dsimp only
  repeat' (first | (with_reducible (first | assumption)) | (with_reducible apply State.Inv.set_vbsSt))

theorem State.tcpWith_inv (s : State) (i : Port) (f : TcpSt → TcpSt) (hI : s.Inv) : (State.tcpWith s i f).Inv := by
  unfold State.tcpWith
  try dsimp only
  repeat' (first | (with_reducible (first | assumption)) | (with_reducible apply State.Inv.set_tcpSt))

theorem State.pdWith_inv (s : State) (i : Port) (f : PdSt → PdSt) (hI : s.Inv) : (State.pdWith s i f).Inv := by
  unfold State.pdWith
  try dsimp only
  repeat' (first | (with_reducible (first | assumption)) | (with_reducible apply State.Inv.set_pdSt))

theorem State.conWith_inv (s : State) (i : Port) (f : ConSt → ConSt) (hI : s.Inv) : (State.conWith s i f).Inv := by
  unfold State.conWith
  try dsimp only
  repeat' (first | (with_reducible (first | assumption)) | (with_reducible apply State.Inv.set_conSt))

theorem State.presWith_inv (s : State) (i : Up) (f : PresSt → PresSt) (hI : s.Inv) : (State.presWith s i f).Inv := by
  unfold State.presWith
  try dsimp only
  repeat' (first | (with_reducible (first | assumption)) | (with_reducible apply State.Inv.set_presSt))

theorem State.hubWith_inv (s : State) (hc : HubCtx) (f : HubCtxSt → HubCtxSt) (hI : s.Inv) : (State.hubWith s hc f).Inv := by
  unfold State.hubWith
  try dsimp only
  repeat' (first | (with_reducible (first | assumption)) | (with_reducible apply State.Inv.set_hubCtx))

theorem State.ssHubWith_inv (s : State) (sc : SsCtx) (f : SsCtxSt → SsCtxSt) (hI : s.Inv) : (State.ssHubWith s sc f).Inv := by
  unfold State.ssHubWith
  try dsimp only
  repeat' (first | (with_reducible (first | assumption)) | (with_reducible apply State.Inv.set_ssCtx))

theorem State.lheWith_inv (s : State) (p : Port) (f : LheSt → LheSt) (hI : s.Inv) : (State.lheWith s p f).Inv := by
  unfold State.lheWith
  try dsimp only
  repeat' (first | (with_reducible (first | assumption)) | (with_reducible apply State.Inv.set_lheSt))

theorem State.devLost_inv (s : State) (p : Port) (ss : Bool) (hI : s.Inv) : (State.devLost s p ss).Inv := by
  unfold State.devLost
  dsimp only
  split <;> exact hI.of rfl rfl rfl rfl rfl rfl rfl rfl rfl rfl

end Sys2Proof.Machine
end

