-- ==== Sys2Proof/Laws/InvUsb2Port.lean ====
section
/-! SUPPORT. What the definitions of Machine/Usb2Port.lean keep: each one leaves the invariant of Safety.lean as it was. -/

namespace Sys2Proof.Machine

set_option linter.unreachableTactic false
set_option linter.unusedTactic false

theorem State.countErr_inv (s : State) (pg : PageId) (p : Port) (f : Fld) (hI : s.Inv) : (State.countErr s pg p f).Inv := by
  unfold State.countErr
  repeat' (with_reducible (first | assumption | apply State.put_inv | apply State.count_inv))

theorem State.setU2_inv (s : State) (p : Port) (v : Nat) (hI : s.Inv) : (State.setU2 s p v).Inv := by
  unfold State.setU2
  repeat' (with_reducible (first | assumption | apply State.put_inv))

theorem State.setPowerBit_inv (s : State) (p : Port) (c : Fin 2) (b : Bool) (hI : s.Inv) : (State.setPowerBit s p c b).Inv := by
  unfold State.setPowerBit
  repeat' (with_reducible (first | assumption | apply State.setFlag_inv))

theorem State.addChg_inv (s : State) (p : Port) (bits : BitVec 16) (hI : s.Inv) : (State.addChg s p bits).Inv := by
  unfold State.addChg
  try dsimp only
  repeat' (first | (with_reducible (first | assumption | apply State.u2pWith_inv)) | (intro _) | split)

theorem State.ttSync_inv (s : State) (t : Port) (hI : s.Inv) : (State.ttSync s t).Inv := by
  unfold State.ttSync
  try dsimp only
  repeat' (first | (with_reducible (first | assumption | apply State.put_inv | apply inv_ite | refine inv_foldl (fun _ _ _ => ?_) ?_)) | (intro _) | split)

theorem State.ttDrop_inv (s : State) (p : Port) (hI : s.Inv) : (State.ttDrop s p).Inv := by
  unfold State.ttDrop
  try dsimp only
  repeat' (first | (with_reducible (first | assumption | apply State.u2pWith_inv | apply State.ttSync_inv)) | (intro _))

theorem State.ttReset_inv (s : State) (t : Port) (hI : s.Inv) : (State.ttReset s t).Inv := by
  unfold State.ttReset
  try dsimp only
  repeat' (first | (with_reducible (first | assumption | apply State.put_inv | apply State.u2pWith_inv | apply State.ttSync_inv)) | (intro _))

theorem State.u2Gone_inv (s : State) (p : Port) (st : Nat) (hI : s.Inv) : (State.u2Gone s p st).Inv := by
  unfold State.u2Gone
  try dsimp only
  repeat' (first | (with_reducible (first | assumption | apply State.put_inv | apply State.u2pWith_inv | apply State.devLost_inv | apply State.setU2_inv | apply State.addChg_inv | apply State.ttDrop_inv | apply inv_ite)) | (intro _) | split)

theorem State.u2Disable_inv (s : State) (p : Port) (hI : s.Inv) : (State.u2Disable s p).Inv := by
  unfold State.u2Disable
  try dsimp only
  repeat' (first | (with_reducible (first | assumption | apply State.put_inv | apply State.u2pWith_inv | apply State.setU2_inv)) | (intro _))

theorem State.u2Eval_inv (s : State) (p : Port) (hI : s.Inv) : (State.u2Eval s p).Inv := by
  unfold State.u2Eval
  try dsimp only
  repeat' (first | (with_reducible (first | assumption | apply State.setU2_inv | apply State.u2Gone_inv | apply inv_ite)) | split)

theorem State.u2Restart_inv (s : State) (p : Port) (hI : s.Inv) : (State.u2Restart s p).Inv := by
  unfold State.u2Restart
  repeat' (first | (with_reducible (first | assumption | apply State.u2Gone_inv | apply inv_ite)) | split)

theorem State.u2Bar_inv (s : State) (p : Port) (hI : s.Inv) : (State.u2Bar s p).Inv := by
  unfold State.u2Bar
  repeat' (first | (with_reducible (first | assumption | apply State.addChg_inv | apply State.u2Disable_inv | apply inv_ite)) | split)

theorem State.u2Disconnect_inv (s : State) (p : Port) (hI : s.Inv) : (State.u2Disconnect s p).Inv := by
  unfold State.u2Disconnect
  repeat' (with_reducible (first | assumption | apply State.u2Gone_inv))

end Sys2Proof.Machine
end

