-- ==== Sys2Proof/Laws/InvSsPort.lean ====
section
/-! SUPPORT. What the definitions of Machine/SsPort.lean keep: each one leaves the invariant of Safety.lean as it was. -/

namespace Sys2Proof.Machine

set_option linter.unreachableTactic false
set_option linter.unusedTactic false

theorem State.setLink_inv (s : State) (f : Full) (v : Nat) (hI : s.Inv) : (State.setLink s f v).Inv := by
  unfold State.setLink
  repeat' (with_reducible (first | assumption | apply State.put_inv))

theorem State.addSsChg_inv (s : State) (f : Full) (bits : BitVec 16) (hI : s.Inv) : (State.addSsChg s f bits).Inv := by
  unfold State.addSsChg
  try dsimp only
  repeat' (first | (with_reducible (first | assumption | apply State.sspWith_inv)) | (intro _) | split)

theorem State.ssDiscard_inv (s : State) (f : Full) (n : Nat) (hI : s.Inv) : (State.ssDiscard s f n).Inv := by
  unfold State.ssDiscard
  repeat' (with_reducible (first | assumption | apply State.countBy_inv))

theorem State.marginLost_inv (s : State) (f : Full) (hI : s.Inv) : (State.marginLost s f).Inv := by
  unfold State.marginLost
  try dsimp -iota only
  repeat' (first | split | (with_reducible (first | assumption | apply State.put_inv | apply State.free_inv | apply State.sspWith_inv | apply inv_ite)) | (intro _) | (refine inv_of_snd (by with_reducible assumption) ?_))

theorem State.upWake_inv (s : State) (u : Up) (hI : s.Inv) : (State.upWake s u).Inv := by
  unfold State.upWake
  try dsimp only
  repeat' (first | (with_reducible (first | assumption | apply State.upLkWith_inv | apply inv_ite)) | (intro _) | split)

theorem State.maskWake_inv (s : State) (f : Full) (b : Nat) (hI : s.Inv) : (State.maskWake s f b).Inv := by
  unfold State.maskWake
  try dsimp only
  repeat' (first | (with_reducible (first | assumption | apply State.upWake_inv | apply inv_ite)) | split)

theorem State.ssEndCompliance_inv (s : State) (f : Full) (hI : s.Inv) : (State.ssEndCompliance s f).Inv := by
  unfold State.ssEndCompliance
  repeat' (first | (with_reducible (first | assumption | apply State.raisePort_inv | apply inv_ite)) | split)

theorem State.ssLeave_inv (s0 : State) (f : Full) (dest cause : Nat) (hI : s0.Inv) : (State.ssLeave s0 f dest cause).Inv := by
  unfold State.ssLeave
  try dsimp only
  repeat' (first | (with_reducible (first | assumption | apply State.put_inv | apply State.raisePort_inv | apply State.sspWith_inv | apply State.devLost_inv | apply State.setLink_inv | apply State.addSsChg_inv | apply State.ssDiscard_inv | apply State.marginLost_inv | apply State.maskWake_inv | apply State.ssEndCompliance_inv | apply inv_ite)) | (intro _) | split)

theorem State.ssDetect_inv (s : State) (f : Full) (cause : Nat) (hI : s.Inv) : (State.ssDetect s f cause).Inv := by
  unfold State.ssDetect
  try dsimp only
  repeat' (first | (with_reducible (first | assumption | apply State.sspWith_inv | apply State.ssLeave_inv)) | (intro _))

theorem State.ssEvalAs_inv (s : State) (f : Full) (cause : Nat) (hI : s.Inv) : (State.ssEvalAs s f cause).Inv := by
  unfold State.ssEvalAs
  repeat' (first | (with_reducible (first | assumption | apply State.ssLeave_inv | apply State.ssDetect_inv | apply inv_ite)) | split)

theorem State.ssEval_inv (s : State) (f : Full) (hI : s.Inv) : (State.ssEval s f).Inv := by
  unfold State.ssEval
  repeat' (with_reducible (first | assumption | apply State.ssEvalAs_inv))

theorem State.ssEvalPort_inv (s : State) (p : Port) (hI : s.Inv) : (State.ssEvalPort s p).Inv := by
  unfold State.ssEvalPort
  try dsimp only
  repeat' (first | (with_reducible (first | assumption | apply State.ssEval_inv)) | split)

theorem State.usbEval_inv (s : State) (p : Port) (hI : s.Inv) : (State.usbEval s p).Inv := by
  unfold State.usbEval
  repeat' (with_reducible (first | assumption | apply State.u2Eval_inv | apply State.ssEvalPort_inv))

theorem State.ssTie_inv (s : State) (f : Full) (hI : s.Inv) : (State.ssTie s f).Inv := by
  unfold State.ssTie
  try dsimp only
  repeat' (first | (with_reducible (first | assumption | apply State.free_inv | apply State.raisePort_inv | apply State.sspWith_inv | apply inv_ite)) | (intro _) | split)

theorem State.ssForget_inv (s0 : State) (p : Port) (hI : s0.Inv) : (State.ssForget s0 p).Inv := by
  unfold State.ssForget
  try dsimp only
  repeat' (first | (with_reducible (first | assumption | apply State.put_inv | apply State.sspWith_inv | apply State.ssTie_inv)) | (intro _) | split)

theorem State.ssGenDrop_inv (s : State) (f : Full) (hI : s.Inv) : (State.ssGenDrop s f).Inv := by
  unfold State.ssGenDrop
  repeat' (first | (with_reducible (first | assumption | apply State.ssDetect_inv | apply inv_ite)) | split)

end Sys2Proof.Machine
end

