-- ==== Sys2Proof/Laws/InvGrvCore.lean ====
section
/-! SUPPORT. What the definitions of Machine/GrvCore.lean keep: each one leaves the invariant of Safety.lean as it was. -/

namespace Sys2Proof.Machine

set_option linter.unreachableTactic false
set_option linter.unusedTactic false

theorem State.grvWith_inv (s : State) (f : Graver → Graver) (h : s.Inv) (ht : (f s.graver).templates = s.graver.templates)
    (hb : (f s.graver).buffer = s.graver.buffer) : (State.grvWith s f).Inv :=
  h.of rfl rfl rfl rfl rfl ht hb rfl rfl rfl

theorem State.partWith_inv (s : State) (id : Nat) (p : Port) (f : JobPort → JobPort) (hI : s.Inv) : (State.partWith s id p f).Inv := by
  unfold State.partWith
  try dsimp only
  repeat' (first | (with_reducible (first | assumption | refine State.grvWith_inv _ _ ?_ rfl rfl | apply inv_ite)) | (intro _) | split)

theorem State.lheNote_inv (s : State) (p : Port) (op : Nat) (code : Byte) (hI : s.Inv) : (State.lheNote s p op code).Inv := by
  unfold State.lheNote
  try dsimp only
  repeat' (first | (with_reducible (first | assumption | apply State.put_inv | apply State.count_inv | apply inv_ite)) | split)

theorem State.partEnd_inv (s : State) (j : Job) (p : Port) (code : Byte) (hI : s.Inv) : (State.partEnd s j p code).Inv := by
  unfold State.partEnd
  try dsimp only
  repeat' (first | (with_reducible (first | assumption | apply State.partWith_inv | apply State.lheNote_inv)) | (intro _))

theorem State.powerFails_inv (s : State) (p : Port) (hI : s.Inv) : (State.powerFails s p).Inv := by
  unfold State.powerFails
  try dsimp only
  repeat' (first | (with_reducible (first | assumption | apply State.partEnd_inv | apply inv_ite)) | split)

theorem State.capMark_inv (s : State) (p : Port) (attach : Bool) (hI : s.Inv) : (State.capMark s p attach).Inv := by
  unfold State.capMark
  try dsimp only
  repeat' (first | (with_reducible (first | assumption | refine State.grvWith_inv _ _ ?_ rfl rfl | apply inv_ite)) | (intro _) | split)

end Sys2Proof.Machine
end

