-- ==== Sys2Proof/Laws/InvPdPolicy.lean ====
section
/-! SUPPORT. What the definitions of Machine/PdPolicy.lean keep: each one leaves the invariant of Safety.lean as it was. -/

namespace Sys2Proof.Machine

set_option linter.unreachableTactic false
set_option linter.unusedTactic false

theorem State.noteOffer_inv (s : State) (p : Port) (o : Offer) (epr : Bool) (hI : s.Inv) : (State.noteOffer s p o epr).Inv := by
  unfold State.noteOffer
  try dsimp only
  repeat' (first | (with_reducible (first | assumption | apply State.put_inv | apply State.setFlag_inv | apply State.offer_inv | apply State.pdWith_inv)) | (intro _))

theorem State.offerCheck_inv (s : State) (p : Port) (hI : s.Inv) : (State.offerCheck s p).Inv := by
  unfold State.offerCheck
  try dsimp only
  repeat' (first | (with_reducible (first | assumption | apply State.offer_inv | apply State.pdWith_inv | apply inv_ite)) | (intro _) | split)

end Sys2Proof.Machine
end

