-- ==== Sys2Proof/Laws/InvPortPower.lean ====
section
/-! SUPPORT. What the definitions of Machine/PortPower.lean keep: each one leaves the invariant of Safety.lean as it was. -/

namespace Sys2Proof.Machine

set_option linter.unreachableTactic false
set_option linter.unusedTactic false

theorem State.arbWith_inv (s : State) (f : Arbiter → Arbiter) (hI : s.Inv) : (State.arbWith s f).Inv := by
  unfold State.arbWith
  try dsimp only
  repeat' (first | (with_reducible (first | assumption)) | (with_reducible apply State.Inv.set_arb))

theorem State.askLeave_inv (s : State) (op : LeaveOp) (hI : s.Inv) : (State.askLeave s op).Inv := by
  unfold State.askLeave
  try dsimp only
  repeat' (first | (with_reducible (first | assumption | apply State.arbWith_inv | apply inv_ite)) | (intro _) | split)

theorem State.firstSettled_inv (s : State) (p : Port) (hI : s.Inv) : (State.firstSettled s p).Inv := by
  unfold State.firstSettled
  try dsimp only
  repeat' (first | (with_reducible (first | assumption | apply State.put_inv | apply State.arbWith_inv | apply inv_ite)) | (intro _) | split | (refine inv_of_snd (by with_reducible assumption) ?_))

theorem State.arbSync_inv (s : State) (hI : s.Inv) : (State.arbSync s).Inv := by
  unfold State.arbSync
  try dsimp only
  repeat' (first | (with_reducible (first | assumption | apply State.put_inv)) | (intro _))

theorem State.withdraw_inv (s : State) (op : LeaveOp) (hI : s.Inv) : (State.withdraw s op).Inv := by
  unfold State.withdraw
  try dsimp only
  repeat' (first | (with_reducible (first | assumption | apply State.put_inv | apply State.arbWith_inv | apply State.firstSettled_inv | apply State.arbSync_inv | apply inv_ite)) | (intro _) | split)

theorem State.opDone_inv (s : State) (op : LeaveOp) (hI : s.Inv) : (State.opDone s op).Inv := by
  unfold State.opDone
  try dsimp only
  repeat' (first | (with_reducible (first | assumption | apply State.arbWith_inv | apply inv_ite)) | (intro _) | split)

theorem State.endLeave_inv (s : State) (op : LeaveOp) (hI : s.Inv) : (State.endLeave s op).Inv := by
  unfold State.endLeave
  repeat' (with_reducible (first | assumption | apply State.withdraw_inv | apply State.opDone_inv))

theorem State.returnGrant_inv (s : State) (p : Port) (hI : s.Inv) : (State.returnGrant s p).Inv := by
  unfold State.returnGrant
  repeat' (with_reducible (first | assumption | apply State.put_inv))

theorem State.setLimit_inv (s : State) (p : Port) (ma : Nat) (hI : s.Inv) : (State.setLimit s p ma).Inv := by
  unfold State.setLimit
  try dsimp only
  repeat' (first | (with_reducible (first | assumption | apply State.put_inv | apply State.vbsWith_inv)) | (intro _))

theorem State.raiseLimit_inv (s : State) (p : Port) (hI : s.Inv) : (State.raiseLimit s p).Inv := by
  unfold State.raiseLimit
  try dsimp only
  repeat' (first | (with_reducible (first | assumption | apply State.setLimit_inv | apply inv_ite)) | split)

theorem State.rpApply_inv (s : State) (p : Port) (hI : s.Inv) : (State.rpApply s p).Inv := by
  unfold State.rpApply
  try dsimp only
  repeat' (first | (with_reducible (first | assumption | apply State.put_inv | apply State.raiseLimit_inv | apply inv_ite)) | split)

theorem State.bcDecide_inv (s : State) (p : Port) (hI : s.Inv) : (State.bcDecide s p).Inv := by
  unfold State.bcDecide
  try dsimp only
  repeat' (first | (with_reducible (first | assumption | apply State.put_inv | apply State.usbEval_inv | apply inv_ite)) | split)

theorem State.pdKick_inv (s : State) (p : Port) (hI : s.Inv) : (State.pdKick s p).Inv := by
  unfold State.pdKick
  try dsimp only
  repeat' (first | (with_reducible (first | assumption | apply State.pdWith_inv | apply State.rpApply_inv | apply inv_ite)) | (intro _) | split)

theorem State.frsEval_inv (s : State) (p : Port) (hI : s.Inv) : (State.frsEval s p).Inv := by
  unfold State.frsEval
  repeat' (with_reducible (first | assumption | apply State.setFlag_inv))

theorem State.grantChanged_inv (s : State) (p : Port) (old : Nat) (hI : s.Inv) : (State.grantChanged s p old).Inv := by
  unfold State.grantChanged
  try dsimp only
  repeat' (first | (with_reducible (first | assumption | apply State.put_inv | apply State.usbEval_inv | apply State.offerCheck_inv | apply State.rpApply_inv | apply State.bcDecide_inv | apply State.pdKick_inv | apply State.frsEval_inv | apply inv_ite)) | split)

theorem State.vconnOn_inv (s : State) (p : Port) (hI : s.Inv) : (State.vconnOn s p).Inv := by
  unfold State.vconnOn
  try dsimp only
  repeat' (first | (with_reducible (first | assumption | apply State.put_inv | apply State.pdWith_inv)) | (intro _))

theorem State.vconnHand_inv (s : State) (p : Port) (hI : s.Inv) : (State.vconnHand s p).Inv := by
  unfold State.vconnHand
  try dsimp only
  repeat' (first | (with_reducible (first | assumption | apply State.put_inv | apply State.pdWith_inv)) | (intro _))

theorem State.vconnOff_inv (s : State) (p : Port) (hI : s.Inv) : (State.vconnOff s p).Inv := by
  unfold State.vconnOff
  try dsimp only
  repeat' (first | (with_reducible (first | assumption | apply State.pdWith_inv | apply State.vconnHand_inv)) | (intro _))

theorem State.vconnStart_inv (s : State) (p : Port) (hI : s.Inv) : (State.vconnStart s p).Inv := by
  unfold State.vconnStart
  repeat' (first | (with_reducible (first | assumption | apply State.vconnOn_inv | apply inv_ite)) | split)

theorem State.muxOpen_inv (s : State) (p : Port) (mode : Bool) (cause : Nat) (hI : s.Inv) : (State.muxOpen s p mode cause).Inv := by
  unfold State.muxOpen
  try dsimp only
  repeat' (first | (with_reducible (first | assumption | apply State.put_inv | apply State.raisePort_inv | apply State.conWith_inv | apply inv_ite)) | (intro _) | split)

theorem State.muxEnd_inv (s : State) (p : Port) (cause : Nat) (hI : s.Inv) : (State.muxEnd s p cause).Inv := by
  unfold State.muxEnd
  try dsimp only
  repeat' (first | (with_reducible (first | assumption | apply State.tcpWith_inv | apply State.muxOpen_inv)) | (intro _))

theorem State.rxLine_inv (s : State) (p : Port) (hI : s.Inv) : (State.rxLine s p).2.Inv := by
  unfold State.rxLine
  try dsimp only
  repeat' (first | (with_reducible (first | assumption | apply State.free_inv | apply inv_ite)) | split)

theorem State.muxRoute_inv (s : State) (p : Port) (mode : Bool) (hI : s.Inv) : (State.muxRoute s p mode).Inv := by
  unfold State.muxRoute
  try dsimp -iota only
  repeat' (first | split | (with_reducible (first | assumption | apply State.put_inv | apply State.setFlag_inv | apply State.raisePort_inv | apply State.rxLine_inv | apply inv_ite)) | (refine inv_of_snd (by with_reducible assumption) ?_))

theorem State.routeBy_inv (s : State) (p : Port) (mode : Bool) (hI : s.Inv) : (State.routeBy s p mode).Inv := by
  unfold State.routeBy
  try dsimp only
  repeat' (first | (with_reducible (first | assumption | apply State.tcpWith_inv | apply State.muxRoute_inv | apply inv_ite)) | (intro _) | split)

theorem State.unrouteBy_inv (s : State) (p : Port) (mode : Bool) (cause : Nat) (hI : s.Inv) : (State.unrouteBy s p mode cause).Inv := by
  unfold State.unrouteBy
  try dsimp only
  repeat' (first | (with_reducible (first | assumption | apply State.tcpWith_inv | apply State.muxOpen_inv | apply inv_ite)) | (intro _) | split)

theorem State.modeExit_inv (s : State) (p : Port) (cause muxCause : Nat) (hI : s.Inv) : (State.modeExit s p cause muxCause).Inv := by
  unfold State.modeExit
  try dsimp only
  repeat' (first | (with_reducible (first | assumption | apply State.put_inv | apply State.raisePort_inv | apply State.unrouteBy_inv | apply inv_ite)) | split)

theorem State.endRaise_inv (s : State) (p : Port) (hI : s.Inv) : (State.endRaise s p).Inv := by
  unfold State.endRaise
  try dsimp only
  repeat' (first | (with_reducible (first | assumption | apply State.raise_inv | apply State.pdWith_inv | apply State.endLeave_inv)) | (intro _))

theorem State.endReserve_inv (s : State) (p : Port) (hI : s.Inv) : (State.endReserve s p).Inv := by
  unfold State.endReserve
  try dsimp only
  repeat' (first | (with_reducible (first | assumption | apply State.put_inv | apply State.pdWith_inv | apply State.endLeave_inv | apply State.returnGrant_inv | apply inv_ite)) | (intro _) | split)

theorem State.endContract_inv (s : State) (p : Port) (hI : s.Inv) : (State.endContract s p).Inv := by
  unfold State.endContract
  try dsimp only
  repeat' (with_reducible (first | assumption | apply State.wr_inv | apply State.put_inv))

theorem State.pdEnd_inv (s : State) (p : Port) (modeCause muxCause : Nat) (hI : s.Inv) : (State.pdEnd s p modeCause muxCause).Inv := by
  unfold State.pdEnd
  try dsimp only
  repeat' (first | (with_reducible (first | assumption | apply State.put_inv | apply State.offer_inv | apply State.pdWith_inv | apply State.modeExit_inv | apply State.endRaise_inv | apply State.endReserve_inv | apply State.endContract_inv)) | (intro _))

theorem State.pdStop_inv (s : State) (p : Port) (hI : s.Inv) : (State.pdStop s p).Inv := by
  unfold State.pdStop
  try dsimp only
  repeat' (first | (with_reducible (first | assumption | apply State.put_inv | apply State.pdWith_inv | apply State.pdEnd_inv)) | (intro _))

theorem State.pdDetach_inv (s : State) (p : Port) (hI : s.Inv) : (State.pdDetach s p).Inv := by
  unfold State.pdDetach
  try dsimp only
  repeat' (first | (with_reducible (first | assumption | apply State.wr_inv | apply State.pdWith_inv | apply State.pdEnd_inv)) | (intro _))

theorem State.vsetLoad_inv (s : State) (p : Port) (hI : s.Inv) : (State.vsetLoad s p).Inv := by
  unfold State.vsetLoad
  try dsimp only
  repeat' (first | (with_reducible (first | assumption | apply State.vbsWith_inv)) | (intro _))

theorem State.vbsOpenTo_inv (s : State) (p : Port) (cause : Nat) (keep : Bool) (dest : Nat) (hI : s.Inv) : (State.vbsOpenTo s p cause keep dest).Inv := by
  unfold State.vbsOpenTo
  try dsimp only
  repeat' (first | (with_reducible (first | assumption | apply State.put_inv | apply State.raisePort_inv | apply State.vbsWith_inv | apply State.usbEval_inv | apply State.withdraw_inv | apply State.opDone_inv | apply State.returnGrant_inv | apply State.rpApply_inv | apply State.pdStop_inv | apply State.vsetLoad_inv | apply inv_ite)) | (intro _) | split)

theorem State.vbsOpen_inv (s : State) (p : Port) (cause : Nat) (hI : s.Inv) : (State.vbsOpen s p cause).Inv := by
  unfold State.vbsOpen
  repeat' (with_reducible (first | assumption | apply State.vbsOpenTo_inv))

theorem State.laneMux_inv (s : State) (p : Port) (on : Bool) (hI : s.Inv) : (State.laneMux s p on).Inv := by
  unfold State.laneMux
  try dsimp only
  repeat' (first | (with_reducible (first | assumption | apply State.setFlag_inv)) | split)

theorem State.ccEnd_inv (s : State) (p : Port) (dest detachCause muxCause vbusCause : Nat) (hI : s.Inv) : (State.ccEnd s p dest detachCause muxCause vbusCause).Inv := by
  unfold State.ccEnd
  try dsimp only
  repeat' (first | (with_reducible (first | assumption | apply State.put_inv | apply State.raisePort_inv | apply State.tcpWith_inv | apply State.usbEval_inv | apply State.ssForget_inv | apply State.capMark_inv | apply State.rpApply_inv | apply State.vconnOff_inv | apply State.muxEnd_inv | apply State.pdDetach_inv | apply State.vbsOpen_inv | apply State.laneMux_inv | apply inv_ite)) | (intro _) | split)

theorem State.recordRow_inv (s : State) (p : Port) (row : Fin 6 × Bool) (hI : s.Inv) : (State.recordRow s p row).Inv := by
  unfold State.recordRow
  try dsimp only
  repeat' (first | (with_reducible (first | assumption | apply State.setFlag_inv | apply State.tcpWith_inv)) | (intro _))

theorem State.ccEval_inv (s : State) (p : Port) (hI : s.Inv) : (State.ccEval s p).Inv := by
  unfold State.ccEval
  try dsimp only
  repeat' (first | (with_reducible (first | assumption | apply State.put_inv | apply State.setFlag_inv | apply State.rpApply_inv | apply State.recordRow_inv | apply inv_ite)) | split)

theorem State.toUnattached_inv (s : State) (p : Port) (hI : s.Inv) : (State.toUnattached s p).Inv := by
  unfold State.toUnattached
  repeat' (with_reducible (first | assumption | apply State.put_inv | apply State.usbEval_inv | apply State.rpApply_inv | apply State.ccEval_inv))

theorem State.toRecovery_inv (s : State) (p : Port) (hI : s.Inv) : (State.toRecovery s p).Inv := by
  unfold State.toRecovery
  repeat' (with_reducible (first | assumption | apply State.count_inv | apply State.ccEnd_inv))

theorem State.quarEnter_inv (s : State) (p : Port) (cause : Nat) (hI : s.Inv) : (State.quarEnter s p cause).Inv := by
  unfold State.quarEnter
  try dsimp only
  repeat' (first | (with_reducible (first | assumption | apply State.put_inv | apply State.raisePort_inv | apply State.healthWith_inv | apply State.vbsWith_inv | apply State.usbEval_inv | apply State.powerFails_inv | apply State.ccEnd_inv)) | (intro _))

theorem State.setCptByte_inv (s : State) (i : Inst) (a v : Nat) (hI : s.Inv) : (State.setCptByte s i a v).Inv := by
  unfold State.setCptByte
  repeat' (with_reducible (first | assumption | apply State.wr_inv))

theorem State.overChange_inv (s : State) (p : Port) (hI : s.Inv) : (State.overChange s p).Inv := by
  unfold State.overChange
  try dsimp only
  repeat' (first | (with_reducible (first | assumption | apply State.addChg_inv | apply State.addSsChg_inv | apply State.maskWake_inv)) | split)

theorem State.compatTrip_inv (s : State) (p : Port) (cause : Nat) (hI : s.Inv) : (State.compatTrip s p cause).Inv := by
  unfold State.compatTrip
  try dsimp only
  repeat' (first | (with_reducible (first | assumption | apply State.count_inv | apply State.raisePort_inv | apply State.setPowerBit_inv | apply State.u2Eval_inv | apply State.vbsOpen_inv | apply State.setCptByte_inv | apply State.overChange_inv | apply inv_ite | refine inv_foldl (fun _ _ _ => ?_) ?_)) | (intro _) | split)

theorem State.trip_inv (s : State) (p : Port) (code : Nat) (hI : s.Inv) : (State.trip s p code).Inv := by
  unfold State.trip
  try dsimp only
  repeat' (first | (with_reducible (first | assumption | apply State.put_inv | apply State.raisePort_inv | apply State.vbsWith_inv | apply State.countErr_inv | apply State.powerFails_inv | apply State.muxEnd_inv | apply State.vbsOpen_inv | apply State.ccEnd_inv | apply State.quarEnter_inv | apply State.overChange_inv | apply State.compatTrip_inv | apply inv_ite)) | (intro _) | split)

theorem State.askTurnOn_inv (s : State) (p : Port) (hI : s.Inv) : (State.askTurnOn s p).Inv := by
  unfold State.askTurnOn
  try dsimp only
  repeat' (first | (with_reducible (first | assumption | apply State.put_inv | apply State.vbsWith_inv | apply State.askLeave_inv | apply inv_ite)) | (intro _) | split)

theorem State.askReserve_inv (s : State) (p : Port) (hI : s.Inv) : (State.askReserve s p).Inv := by
  unfold State.askReserve
  try dsimp only
  repeat' (first | (with_reducible (first | assumption | apply State.pdWith_inv | apply State.askLeave_inv | apply inv_ite)) | (intro _) | split)

theorem State.askAgain_inv (s : State) (p : Port) (hI : s.Inv) : (State.askAgain s p).Inv := by
  unfold State.askAgain
  repeat' (first | (with_reducible (first | assumption | apply State.askTurnOn_inv | apply State.askReserve_inv | apply inv_ite)) | split)

theorem State.askAtOnce_inv (s : State) (p : Port) (hI : s.Inv) : (State.askAtOnce s p).Inv := by
  unfold State.askAtOnce
  repeat' (first | (with_reducible (first | assumption | apply State.put_inv | apply State.askLeave_inv | apply State.askAgain_inv | apply inv_ite)) | split)

theorem State.announce_inv (s : State) (p : Port) (hI : s.Inv) : (State.announce s p).Inv := by
  unfold State.announce
  try dsimp only
  repeat' (first | (with_reducible (first | assumption | apply State.count_inv | apply State.raisePort_inv | apply State.tcpWith_inv | apply State.capMark_inv | apply State.askTurnOn_inv | apply inv_ite)) | (intro _) | split)

theorem State.turnOnGranted_inv (s : State) (p : Port) (hI : s.Inv) : (State.turnOnGranted s p).Inv := by
  unfold State.turnOnGranted
  try dsimp only
  repeat' (first | split | (with_reducible (first | assumption | apply State.put_inv | apply State.vbsWith_inv | apply State.opDone_inv | apply State.returnGrant_inv | apply State.setLimit_inv | apply State.rpApply_inv | apply State.vconnStart_inv | apply State.routeBy_inv | apply State.vsetLoad_inv | apply State.laneMux_inv | apply inv_ite)) | (intro _) | (refine inv_of_snd (by with_reducible assumption) ?_))

end Sys2Proof.Machine
end

