-- ==== Sys2Proof/Laws/InvPdCore.lean ====
section
/-! SUPPORT. What the definitions of Machine/PdCore.lean keep: each one leaves the invariant of Safety.lean as it was. -/

namespace Sys2Proof.Machine

set_option linter.unreachableTactic false
set_option linter.unusedTactic false

theorem State.setPe_inv (s : State) (p : Port) (v : Nat) (hI : s.Inv) : (State.setPe s p v).Inv := by
  unfold State.setPe
  repeat' (with_reducible (first | assumption | apply State.put_inv))

theorem State.pdSay_inv (s : State) (p : Port) (kind : PdKind) (objs : List Word) (bytes : List Byte) (prime : Bool) (hI : s.Inv) : (State.pdSay s p kind objs bytes prime).Inv := by
  unfold State.pdSay
  try dsimp only
  repeat' (first | (with_reducible (first | assumption | apply State.pdWith_inv | apply inv_ite)) | (intro _) | split)

theorem State.pdFresh_inv (s : State) (p : Port) (hI : s.Inv) : (State.pdFresh s p).Inv := by
  unfold State.pdFresh
  try dsimp only
  repeat' (first | (with_reducible (first | assumption | apply State.pdWith_inv)) | (intro _))

theorem State.pdAck_inv (s : State) (p : Port) (prime : Bool) (hI : s.Inv) : (State.pdAck s p prime).Inv := by
  unfold State.pdAck
  try dsimp only
  repeat' (first | (with_reducible (first | assumption | apply State.pdWith_inv)) | (intro _))

theorem State.sayCaps_inv (s : State) (p : Port) (epr : Bool) (ws : List Word) (hI : s.Inv) : (State.sayCaps s p epr ws).Inv := by
  unfold State.sayCaps
  repeat' (first | (with_reducible (first | assumption | apply State.pdSay_inv | apply inv_ite)) | split)

theorem State.toReady_inv (s : State) (p : Port) (hI : s.Inv) : (State.toReady s p).Inv := by
  unfold State.toReady
  try dsimp only
  repeat' (first | (with_reducible (first | assumption | apply State.pdWith_inv | apply State.rpApply_inv | apply State.pdKick_inv | apply State.setPe_inv | apply inv_ite)) | (intro _) | split)

theorem State.sendCaps_inv (s : State) (p : Port) (hI : s.Inv) : (State.sendCaps s p).Inv := by
  unfold State.sendCaps
  try dsimp only
  repeat' (first | (with_reducible (first | assumption | apply State.put_inv | apply State.pdWith_inv | apply State.noteOffer_inv | apply State.sayCaps_inv | apply inv_ite)) | (intro _) | split)

theorem State.startCaps_inv (s : State) (p : Port) (hI : s.Inv) : (State.startCaps s p).Inv := by
  unfold State.startCaps
  try dsimp only
  repeat' (first | (with_reducible (first | assumption | apply State.pdWith_inv | apply State.rpApply_inv | apply State.setPe_inv | apply State.sendCaps_inv)) | (intro _))

theorem State.revOpen_inv (s : State) (p : Port) (hI : s.Inv) : (State.revOpen s p).Inv := by
  unfold State.revOpen
  repeat' (first | (with_reducible (first | assumption | apply State.put_inv | apply inv_ite)) | split)

theorem State.pdStart_inv (s : State) (p : Port) (hI : s.Inv) : (State.pdStart s p).Inv := by
  unfold State.pdStart
  try dsimp only
  repeat' (first | (with_reducible (first | assumption | apply State.pdWith_inv | apply State.setPe_inv | apply State.revOpen_inv | apply inv_ite)) | (intro _) | split)

theorem State.noteSoft_inv (s : State) (p : Port) (sent : Bool) (hI : s.Inv) : (State.noteSoft s p sent).Inv := by
  unfold State.noteSoft
  try dsimp only
  repeat' (first | (with_reducible (first | assumption | apply State.count_inv | apply State.raisePort_inv | apply State.pdWith_inv)) | (intro _))

theorem State.sendSoft_inv (s : State) (p : Port) (hI : s.Inv) : (State.sendSoft s p).Inv := by
  unfold State.sendSoft
  try dsimp only
  repeat' (first | (with_reducible (first | assumption | apply State.put_inv | apply State.pdWith_inv | apply State.endRaise_inv | apply State.setPe_inv | apply State.pdSay_inv | apply State.noteSoft_inv)) | (intro _))

theorem State.softDone_inv (s : State) (p : Port) (hI : s.Inv) : (State.softDone s p).Inv := by
  unfold State.softDone
  try dsimp only
  repeat' (first | (with_reducible (first | assumption | apply State.pdWith_inv | apply State.setPe_inv | apply State.startCaps_inv | apply inv_ite)) | (intro _) | split)

theorem State.swapEvent_inv (s : State) (p : Port) (kind outcome : Nat) (hI : s.Inv) : (State.swapEvent s p kind outcome).Inv := by
  unfold State.swapEvent
  repeat' (with_reducible (first | assumption | apply State.raisePort_inv))

theorem State.swapBroken_inv (s : State) (p : Port) (hI : s.Inv) : (State.swapBroken s p).Inv := by
  unfold State.swapBroken
  try dsimp only
  repeat' (first | (with_reducible (first | assumption | apply State.pdWith_inv | apply State.swapEvent_inv)) | (intro _) | split)

theorem State.frsFail_inv (s : State) (p : Port) (hI : s.Inv) : (State.frsFail s p).Inv := by
  unfold State.frsFail
  repeat' (with_reducible (first | assumption | apply State.vbsOpen_inv | apply State.toRecovery_inv | apply State.swapEvent_inv))

theorem State.pdOff_inv (s : State) (p : Port) (hI : s.Inv) : (State.pdOff s p).Inv := by
  unfold State.pdOff
  try dsimp only
  repeat' (first | (with_reducible (first | assumption | apply State.put_inv | apply State.pdWith_inv | apply State.rpApply_inv | apply State.pdEnd_inv | apply State.setPe_inv | apply inv_ite)) | (intro _) | split)

theorem State.hardReset_inv (s : State) (p : Port) (sent : Bool) (reason : Nat) (hI : s.Inv) : (State.hardReset s p sent reason).Inv := by
  unfold State.hardReset
  try dsimp only
  repeat' (first | (with_reducible (first | assumption | apply State.put_inv | apply State.raisePort_inv | apply State.pdWith_inv | apply State.countErr_inv | apply State.rpApply_inv | apply State.pdEnd_inv | apply State.vbsOpen_inv | apply State.setPe_inv | apply State.pdSay_inv | apply State.swapBroken_inv | apply State.frsFail_inv | apply State.pdOff_inv | apply inv_ite)) | (intro _) | split)

theorem State.protoErr_inv (s : State) (p : Port) (num cls : Nat) (hard : Bool) (hI : s.Inv) : (State.protoErr s p num cls hard).Inv := by
  unfold State.protoErr
  repeat' (with_reducible (first | assumption | apply State.raisePort_inv | apply State.countErr_inv))

theorem State.sayNotSupported_inv (s : State) (p : Port) (hI : s.Inv) : (State.sayNotSupported s p).Inv := by
  unfold State.sayNotSupported
  repeat' (first | (with_reducible (first | assumption | apply State.pdSay_inv | apply inv_ite)) | split)

theorem State.unexpected_inv (s : State) (p : Port) (num cls : Nat) (hI : s.Inv) : (State.unexpected s p num cls).Inv := by
  unfold State.unexpected
  repeat' (first | (with_reducible (first | assumption | apply State.sendSoft_inv | apply State.hardReset_inv | apply State.protoErr_inv | apply State.sayNotSupported_inv | apply inv_ite)) | split)

theorem State.acceptReq_inv (s : State) (p : Port) (rdo : Word) (mv ma10 type : Nat) (w : Word) (hI : s.Inv) : (State.acceptReq s p rdo mv ma10 type w).Inv := by
  unfold State.acceptReq
  try dsimp only
  repeat' (first | (with_reducible (first | assumption | apply State.pdWith_inv | apply State.setPe_inv | apply State.pdSay_inv)) | (intro _))

theorem State.rejectReq_inv (s : State) (p : Port) (hI : s.Inv) : (State.rejectReq s p).Inv := by
  unfold State.rejectReq
  try dsimp only
  repeat' (first | (with_reducible (first | assumption | apply State.pdWith_inv | apply State.pdSay_inv | apply State.toReady_inv)) | (intro _))

theorem State.decideRequest_inv (s0 : State) (p : Port) (rdo : Word) (hI : s0.Inv) : (State.decideRequest s0 p rdo).Inv := by
  unfold State.decideRequest
  try dsimp only
  repeat' (first | (with_reducible (first | assumption | apply State.raise_inv | apply State.pdWith_inv | apply State.askLeave_inv | apply State.endRaise_inv | apply State.setPe_inv | apply State.pdSay_inv | apply State.toReady_inv | apply State.acceptReq_inv | apply State.rejectReq_inv | apply inv_ite)) | (intro _) | split | (refine inv_of_snd (by with_reducible assumption) ?_))

theorem State.raiseGrant_inv (s : State) (p : Port) (hI : s.Inv) : (State.raiseGrant s p).Inv := by
  unfold State.raiseGrant
  try dsimp only
  repeat' (first | (with_reducible (first | assumption | apply State.raise_inv | apply State.pdWith_inv | apply State.opDone_inv | apply State.acceptReq_inv | apply State.rejectReq_inv | apply inv_ite)) | (intro _) | split | (refine inv_of_snd (by with_reducible assumption) ?_))

theorem State.raiseCap_inv (s : State) (p : Port) (hI : s.Inv) : (State.raiseCap s p).Inv := by
  unfold State.raiseCap
  try dsimp only
  repeat' (first | (with_reducible (first | assumption | apply State.pdWith_inv | apply State.pdKick_inv | apply State.rejectReq_inv | apply inv_ite)) | (intro _) | split)

theorem State.contractDone_inv (s : State) (p : Port) (hI : s.Inv) : (State.contractDone s p).Inv := by
  unfold State.contractDone
  try dsimp only
  repeat' (first | (with_reducible (first | assumption | apply State.put_inv | apply State.raisePort_inv | apply State.raise_inv | apply State.vbsWith_inv | apply State.pdWith_inv | apply State.offerCheck_inv | apply State.opDone_inv | apply State.setLimit_inv | apply State.pdKick_inv | apply State.pdSay_inv | apply State.toReady_inv | apply inv_ite)) | (intro _) | split)

theorem State.frsAsk_inv (s : State) (p : Port) (hI : s.Inv) : (State.frsAsk s p).Inv := by
  unfold State.frsAsk
  try dsimp only
  repeat' (first | (with_reducible (first | assumption | apply State.pdWith_inv | apply State.pdSay_inv | apply inv_ite)) | (intro _) | split)

theorem State.sinkContract_inv (s : State) (p : Port) (hI : s.Inv) : (State.sinkContract s p).Inv := by
  unfold State.sinkContract
  try dsimp only
  repeat' (first | (with_reducible (first | assumption | apply State.put_inv | apply State.raisePort_inv | apply State.pdWith_inv | apply State.frsEval_inv | apply State.setPe_inv | apply State.frsAsk_inv)) | (intro _))

theorem State.swapOver_inv (s : State) (p : Port) (hI : s.Inv) : (State.swapOver s p).Inv := by
  unfold State.swapOver
  try dsimp only
  repeat' (first | (with_reducible (first | assumption | apply State.pdWith_inv | apply State.toReady_inv | apply State.pdStart_inv | apply inv_ite)) | (intro _) | split)

theorem State.vconnTake_inv (s : State) (p : Port) (hI : s.Inv) : (State.vconnTake s p).Inv := by
  unfold State.vconnTake
  try dsimp only
  repeat' (first | (with_reducible (first | assumption | apply State.pdWith_inv | apply State.setPe_inv | apply State.pdSay_inv | apply State.swapOver_inv | apply inv_ite)) | (intro _) | split)

theorem State.sendDrSwap_inv (s : State) (p : Port) (hI : s.Inv) : (State.sendDrSwap s p).Inv := by
  unfold State.sendDrSwap
  try dsimp only
  repeat' (first | (with_reducible (first | assumption | apply State.pdWith_inv | apply State.setPe_inv | apply State.pdSay_inv)) | (intro _))

theorem State.nextSwap_inv (s : State) (p : Port) (hI : s.Inv) : (State.nextSwap s p).Inv := by
  unfold State.nextSwap
  repeat' (first | (with_reducible (first | assumption | apply State.vconnTake_inv | apply State.sendDrSwap_inv | apply inv_ite)) | split)

theorem State.becomeDfp_inv (s : State) (p : Port) (hI : s.Inv) : (State.becomeDfp s p).Inv := by
  unfold State.becomeDfp
  try dsimp only
  repeat' (first | (with_reducible (first | assumption | apply State.put_inv | apply State.pdWith_inv | apply State.usbEval_inv | apply State.laneMux_inv)) | (intro _))

theorem State.swapToSource_inv (s : State) (p : Port) (kind : Nat) (hI : s.Inv) : (State.swapToSource s p kind).Inv := by
  unfold State.swapToSource
  try dsimp only
  repeat' (first | (with_reducible (first | assumption | apply State.put_inv | apply State.pdWith_inv | apply State.opDone_inv | apply State.rpApply_inv | apply State.endContract_inv | apply State.pdSay_inv | apply State.swapEvent_inv | apply State.nextSwap_inv)) | (intro _))

theorem State.reserveCheck_inv (s : State) (p : Port) (hI : s.Inv) : (State.reserveCheck s p).Inv := by
  unfold State.reserveCheck
  repeat' (first | (with_reducible (first | assumption | apply State.endReserve_inv | apply inv_ite)) | split)

theorem State.swapTried_inv (s : State) (p : Port) (outcome : Nat) (hI : s.Inv) : (State.swapTried s p outcome).Inv := by
  unfold State.swapTried
  try dsimp only
  repeat' (first | (with_reducible (first | assumption | apply State.pdWith_inv | apply State.setPe_inv | apply State.swapEvent_inv | apply State.reserveCheck_inv | apply inv_ite)) | (intro _) | split)

theorem State.swapRefused_inv (s : State) (p : Port) (outcome : Nat) (hI : s.Inv) : (State.swapRefused s p outcome).Inv := by
  unfold State.swapRefused
  try dsimp only
  repeat' (first | (with_reducible (first | assumption | apply State.swapOver_inv | apply State.vconnTake_inv | apply State.swapTried_inv | apply inv_ite)) | split)

end Sys2Proof.Machine
end

