-- ==== Sys2Proof/Laws/InvVbs.lean ====
section
/-! SUPPORT. What the definitions of Machine/Vbs.lean keep: each one leaves the invariant of Safety.lean as it was. -/

namespace Sys2Proof.Machine

set_option linter.unreachableTactic false
set_option linter.unusedTactic false

theorem State.adcRecord_inv (s : State) (p : Port) (vbus vreg : Nat) (sense : Int) (hI : s.Inv) : (State.adcRecord s p vbus vreg sense).Inv := by
  unfold State.adcRecord
  try dsimp -iota only
  repeat' (first | split | (with_reducible (first | assumption | apply State.put_inv | apply State.setFlag_inv | apply State.sspWith_inv | apply State.vbsWith_inv | apply State.tcpWith_inv)) | (intro _) | (refine inv_of_snd (by with_reducible assumption) ?_))

theorem State.adcSink_inv (s : State) (p : Port) (vbus : Nat) (hI : s.Inv) : (State.adcSink s p vbus).Inv := by
  unfold State.adcSink
  try dsimp only
  repeat' (first | (with_reducible (first | assumption | apply State.pdWith_inv | apply inv_ite)) | (intro _) | split)

theorem State.adcSafe_inv (s : State) (p : Port) (hI : s.Inv) : (State.adcSafe s p).Inv := by
  unfold State.adcSafe
  try dsimp only
  repeat' (first | (with_reducible (first | assumption | apply State.vbsWith_inv | apply State.askTurnOn_inv | apply inv_ite)) | (intro _) | split)

theorem State.vsetMove_inv (s : State) (p : Port) (hI : s.Inv) : (State.vsetMove s p).Inv := by
  unfold State.vsetMove
  try dsimp only
  repeat' (first | (with_reducible (first | assumption | apply State.vbsWith_inv | apply inv_ite)) | (intro _) | split)

theorem State.adcTrim_inv (s0 : State) (p : Port) (vbus vreg : Nat) (hI : s0.Inv) : (State.adcTrim s0 p vbus vreg).Inv := by
  unfold State.adcTrim
  try dsimp only
  repeat' (first | (with_reducible (first | assumption | apply State.setFlag_inv | apply State.vbsWith_inv | apply State.vsetLoad_inv | apply inv_ite | apply inv_dite)) | (intro _) | split)

theorem State.vbusReached_inv (s : State) (p : Port) (hI : s.Inv) : (State.vbusReached s p).Inv := by
  unfold State.vbusReached
  try dsimp only
  repeat' (first | (with_reducible (first | assumption | apply State.put_inv | apply State.raisePort_inv | apply State.vbsWith_inv | apply State.opDone_inv | apply State.setLimit_inv | apply State.rpApply_inv | apply State.bcDecide_inv | apply State.pdStart_inv | apply State.swapToSource_inv | apply inv_ite)) | (intro _) | split)

theorem State.adcPps_inv (s : State) (p : Port) (hI : s.Inv) : (State.adcPps s p).Inv := by
  unfold State.adcPps
  try dsimp only
  repeat' (first | (with_reducible (first | assumption | apply State.put_inv | apply inv_ite)) | split)

theorem State.adcFall_inv (s : State) (p : Port) (hI : s.Inv) : (State.adcFall s p).Inv := by
  unfold State.adcFall
  try dsimp only
  repeat' (first | (with_reducible (first | assumption | apply State.vbsWith_inv | apply State.setLimit_inv | apply inv_ite)) | (intro _) | split)

theorem State.adcMove_inv (s : State) (p : Port) (was near : Bool) (hI : s.Inv) : (State.adcMove s p was near).Inv := by
  unfold State.adcMove
  try dsimp only
  repeat' (first | (with_reducible (first | assumption | apply State.put_inv | apply State.setFlag_inv | apply State.vbsWith_inv | apply State.contractDone_inv | apply inv_ite)) | (intro _) | split)

theorem State.adcSample_inv (s : State) (p : Port) (vbus vreg : Nat) (sense : Int) (hI : s.Inv) : (State.adcSample s p vbus vreg sense).Inv := by
  unfold State.adcSample
  try dsimp only
  repeat' (first | (with_reducible (first | assumption | apply State.trip_inv | apply State.adcRecord_inv | apply State.adcSink_inv | apply State.adcSafe_inv | apply State.vsetMove_inv | apply State.adcTrim_inv | apply State.vbusReached_inv | apply State.adcPps_inv | apply State.adcFall_inv | apply State.adcMove_inv | apply inv_ite)) | split)

theorem execAdcSample_inv (p : Port) (vbus vreg : Nat) (sense : Int) (s : State) (hI : s.Inv) : State.InvO (execAdcSample p vbus vreg sense s) := by
  unfold execAdcSample
  repeat' (first | (with_reducible (first | assumption | apply State.adcSample_inv | apply State.invO_next | apply inv_ite | apply invO_ite)) | split)

theorem State.startClosing_inv (s : State) (p : Port) (hI : s.Inv) : (State.startClosing s p).Inv := by
  unfold State.startClosing
  repeat' (with_reducible (first | assumption | apply State.put_inv))

theorem State.checkClose_inv (s : State) (p : Port) (hI : s.Inv) : (State.checkClose s p).Inv := by
  unfold State.checkClose
  repeat' (first | (with_reducible (first | assumption | apply State.trip_inv | apply State.startClosing_inv | apply inv_ite)) | split)

theorem execSettleEnd_inv (p : Port) (s : State) (hI : s.Inv) : State.InvO (execSettleEnd p s) := by
  unfold execSettleEnd
  repeat' (first | (with_reducible (first | assumption | apply State.checkClose_inv | apply State.invO_next | apply inv_ite | apply invO_ite)) | split)

theorem execCloseMaxEnd_inv (p : Port) (s : State) (hI : s.Inv) : State.InvO (execCloseMaxEnd p s) := by
  unfold execCloseMaxEnd
  repeat' (first | (with_reducible (first | assumption | apply State.trip_inv | apply State.invO_next | apply inv_ite | apply invO_ite)) | split)

theorem execPortFastTrip_inv (p : Port) (ma : Nat) (s : State) (hI : s.Inv) : State.InvO (execPortFastTrip p ma s) := by
  unfold execPortFastTrip
  repeat' (first | (with_reducible (first | assumption | apply State.put_inv | apply State.trip_inv | apply State.invO_next | apply inv_ite | apply invO_ite)) | split)

theorem execSlowTimeEnd_inv (p : Port) (s : State) (hI : s.Inv) : State.InvO (execSlowTimeEnd p s) := by
  unfold execSlowTimeEnd
  repeat' (first | (with_reducible (first | assumption | apply State.trip_inv | apply State.invO_next | apply inv_ite | apply invO_ite)) | split)

theorem execPortConsecClear_inv (p : Port) (s : State) (hI : s.Inv) : State.InvO (execPortConsecClear p s) := by
  unfold execPortConsecClear
  try dsimp only
  repeat' (first | (with_reducible (first | assumption | apply State.put_inv | apply State.vbsWith_inv | apply State.invO_next | apply inv_ite | apply invO_ite)) | (intro _) | split)

theorem State.retryAsk_inv (s : State) (p : Port) (hI : s.Inv) : (State.retryAsk s p).Inv := by
  unfold State.retryAsk
  repeat' (with_reducible (first | assumption | apply State.count_inv | apply State.announce_inv))

theorem execRetryIntEnd_inv (p : Port) (held : Bool) (s : State) (hI : s.Inv) : State.InvO (execRetryIntEnd p held s) := by
  unfold execRetryIntEnd
  try dsimp only
  repeat' (first | (with_reducible (first | assumption | apply State.put_inv | apply State.vbsWith_inv | apply State.rpApply_inv | apply State.recordRow_inv | apply State.toUnattached_inv | apply State.askTurnOn_inv | apply State.retryAsk_inv | apply State.invO_next | apply inv_ite | apply invO_ite | apply inv_dite)) | (intro _) | split)

theorem State.forceOffChanged_inv (s : State) (p : Port) (hI : s.Inv) : (State.forceOffChanged s p).Inv := by
  unfold State.forceOffChanged
  repeat' (first | (with_reducible (first | assumption | apply State.put_inv | apply State.endReserve_inv | apply State.vbsOpen_inv | apply State.askAgain_inv | apply inv_ite)) | split)

end Sys2Proof.Machine
end

