-- ==== Sys2Proof/Laws/InvTcp.lean ====
section
/-! SUPPORT. What the definitions of Machine/Tcp.lean keep: each one leaves the invariant of Safety.lean as it was. -/

namespace Sys2Proof.Machine

set_option linter.unreachableTactic false
set_option linter.unusedTactic false

theorem State.upClassify_inv (s : State) (u : Up) (l1 l2 : Nat) (hI : s.Inv) : (State.upClassify s u l1 l2).Inv := by
  unfold State.upClassify
  try dsimp only
  repeat' (first | (with_reducible (first | assumption | apply State.put_inv | apply State.setFlag_inv | apply inv_ite)) | split)

theorem execCcClassify_inv (pp : PdPort) (cc1 cc2 : CcLevel) (s : State) (hI : s.Inv) : State.InvO (execCcClassify pp cc1 cc2 s) := by
  unfold execCcClassify
  try dsimp only
  repeat' (first | (with_reducible (first | assumption | apply State.put_inv | apply State.ccEval_inv | apply State.upClassify_inv | apply State.invO_next | apply inv_ite | apply invO_ite)) | split)

theorem State.audioAttach_inv (s : State) (p : Port) (hI : s.Inv) : (State.audioAttach s p).Inv := by
  unfold State.audioAttach
  try dsimp only
  repeat' (first | (with_reducible (first | assumption | apply State.put_inv | apply State.count_inv | apply State.raisePort_inv | apply State.tcpWith_inv | apply State.usbEval_inv | apply State.capMark_inv | apply State.rpApply_inv | apply State.recordRow_inv)) | (intro _))

theorem execAttach_inv (p : Port) (s : State) (hI : s.Inv) : State.InvO (execAttach p s) := by
  unfold execAttach
  try dsimp only
  repeat' (first | (with_reducible (first | assumption | apply State.announce_inv | apply State.audioAttach_inv | apply State.invO_next | apply inv_ite | apply invO_ite)) | split)

theorem execDetach_inv (p : Port) (s : State) (hI : s.Inv) : State.InvO (execDetach p s) := by
  unfold execDetach
  repeat' (first | (with_reducible (first | assumption | apply State.ccEnd_inv | apply State.ccEval_inv | apply State.frsFail_inv | apply State.invO_next | apply inv_ite | apply invO_ite)) | split)

theorem execDebounceLost_inv (p : Port) (s : State) (hI : s.Inv) : State.InvO (execDebounceLost p s) := by
  unfold execDebounceLost
  repeat' (first | (with_reducible (first | assumption | apply State.put_inv | apply State.rpApply_inv | apply State.recordRow_inv | apply State.invO_next | apply inv_ite | apply invO_ite)) | split)

theorem execDrpToggle_inv (p : Port) (s : State) (hI : s.Inv) : State.InvO (execDrpToggle p s) := by
  unfold execDrpToggle
  repeat' (first | (with_reducible (first | assumption | apply State.put_inv | apply State.rpApply_inv | apply State.invO_next | apply inv_ite | apply invO_ite)) | split)

theorem execTrySrc_inv (p : Port) (s : State) (hI : s.Inv) : State.InvO (execTrySrc p s) := by
  unfold execTrySrc
  try dsimp only
  repeat' (first | (with_reducible (first | assumption | apply State.put_inv | apply State.tcpWith_inv | apply State.rpApply_inv | apply State.invO_next | apply inv_ite | apply invO_ite)) | (intro _) | split)

theorem execTrySrcSuccess_inv (p : Port) (s : State) (hI : s.Inv) : State.InvO (execTrySrcSuccess p s) := by
  unfold execTrySrcSuccess
  repeat' (first | (with_reducible (first | assumption | apply State.put_inv | apply State.count_inv | apply State.rpApply_inv | apply State.recordRow_inv | apply State.announce_inv | apply State.invO_next | apply inv_ite | apply invO_ite)) | split)

theorem execTrySrcTimeout_inv (p : Port) (s : State) (hI : s.Inv) : State.InvO (execTrySrcTimeout p s) := by
  unfold execTrySrcTimeout
  repeat' (first | (with_reducible (first | assumption | apply State.put_inv | apply State.rpApply_inv | apply State.invO_next | apply inv_ite | apply invO_ite)) | split)

theorem execTryTimeout_inv (p : Port) (s : State) (hI : s.Inv) : State.InvO (execTryTimeout p s) := by
  unfold execTryTimeout
  try dsimp only
  repeat' (first | (with_reducible (first | assumption | apply State.put_inv | apply State.tcpWith_inv | apply State.rpApply_inv | apply State.invO_next | apply inv_ite | apply invO_ite)) | (intro _) | split)

theorem execSinkAttach_inv (p : Port) (s : State) (hI : s.Inv) : State.InvO (execSinkAttach p s) := by
  unfold execSinkAttach
  try dsimp only
  repeat' (first | (with_reducible (first | assumption | apply State.put_inv | apply State.setFlag_inv | apply State.count_inv | apply State.raisePort_inv | apply State.tcpWith_inv | apply State.usbEval_inv | apply State.capMark_inv | apply State.rpApply_inv | apply State.setPe_inv | apply State.revOpen_inv | apply State.invO_next | apply inv_ite | apply invO_ite)) | (intro _) | split)

theorem execSinkDetach_inv (p : Port) (s : State) (hI : s.Inv) : State.InvO (execSinkDetach p s) := by
  unfold execSinkDetach
  repeat' (first | (with_reducible (first | assumption | apply State.count_inv | apply State.ccEnd_inv | apply State.invO_next | apply inv_ite | apply invO_ite)) | split)

theorem execErrorRecoveryEnd_inv (p : Port) (s : State) (hI : s.Inv) : State.InvO (execErrorRecoveryEnd p s) := by
  unfold execErrorRecoveryEnd
  repeat' (first | (with_reducible (first | assumption | apply State.toUnattached_inv | apply State.invO_next | apply inv_ite | apply invO_ite)) | split)

theorem State.tripHolds_inv (s : State) (p : Port) (hI : s.Inv) : (State.tripHolds s p).2.Inv := by
  unfold State.tripHolds
  try dsimp only
  repeat' (first | (with_reducible (first | assumption | apply State.free_inv | apply inv_ite)) | split)

theorem State.recoverNow_inv (s : State) (p : Port) (hI : s.Inv) : (State.recoverNow s p).Inv := by
  unfold State.recoverNow
  try dsimp only
  repeat' (first | (with_reducible (first | assumption | apply State.toRecovery_inv | apply State.tripHolds_inv | apply inv_ite)) | split)

theorem State.cableFail_inv (s : State) (p : Port) (hI : s.Inv) : (State.cableFail s p).Inv := by
  unfold State.cableFail
  try dsimp only
  repeat' (first | (with_reducible (first | assumption | apply State.put_inv | apply State.raisePort_inv | apply State.pdWith_inv | apply State.offerCheck_inv | apply State.pdKick_inv)) | (intro _))

theorem execVconnTrip_inv (p : Port) (s : State) (hI : s.Inv) : State.InvO (execVconnTrip p s) := by
  unfold execVconnTrip
  try dsimp only
  repeat' (first | (with_reducible (first | assumption | apply State.setFault_inv | apply State.tcpWith_inv | apply State.countErr_inv | apply State.vconnOff_inv | apply State.cableFail_inv | apply State.invO_next | apply inv_ite | apply invO_ite)) | (intro _) | split)

theorem State.ccDisable_inv (s : State) (p : Port) (detachCause muxCause vbusCause : Nat) (hI : s.Inv) : (State.ccDisable s p detachCause muxCause vbusCause).Inv := by
  unfold State.ccDisable
  repeat' (first | (with_reducible (first | assumption | apply State.ccEnd_inv | apply inv_ite)) | split)

theorem State.ccStart_inv (s : State) (p : Port) (hI : s.Inv) : (State.ccStart s p).Inv := by
  unfold State.ccStart
  repeat' (first | (with_reducible (first | assumption | apply State.toUnattached_inv | apply inv_ite)) | split)

end Sys2Proof.Machine
end

