-- ==== Sys2Proof/Laws/InvConTap.lean ====
section
/-! SUPPORT. What the definitions of Machine/ConTap.lean keep: each one leaves the invariant of Safety.lean as it was. -/

namespace Sys2Proof.Machine

set_option linter.unreachableTactic false
set_option linter.unusedTactic false

theorem State.conSync_inv (s : State) (p : Port) (hI : s.Inv) : (State.conSync s p).Inv := by
  unfold State.conSync
  repeat' (with_reducible (first | assumption | apply State.put_inv))

theorem State.conReceive_inv (s : State) (p : Port) (i : RxItem) (hI : s.Inv) : (State.conReceive s p i).Inv := by
  unfold State.conReceive
  try dsimp only
  repeat' (first | (with_reducible (first | assumption | apply State.conWith_inv | apply State.countErr_inv | apply State.conSync_inv | apply inv_ite)) | (intro _) | split)

theorem State.conBreak_inv (s : State) (p : Port) (hI : s.Inv) : (State.conBreak s p).Inv := by
  unfold State.conBreak
  repeat' (with_reducible (first | assumption | apply State.put_inv | apply State.count_inv))

theorem State.conPop_inv (s : State) (p : Port) (hI : s.Inv) : (State.conPop s p).2.Inv := by
  unfold State.conPop
  try dsimp only
  repeat' (first | (with_reducible (first | assumption | apply State.conWith_inv | apply State.conSync_inv)) | (intro _) | split)

theorem State.conSend_inv (s : State) (p : Port) (b : Byte) (hI : s.Inv) : (State.conSend s p b).Inv := by
  unfold State.conSend
  try dsimp only
  repeat' (first | (with_reducible (first | assumption | apply State.count_inv | apply State.conWith_inv | apply State.conSync_inv | apply inv_ite)) | (intro _) | split | (refine inv_of_snd (by with_reducible assumption) ?_))

theorem State.conNext_inv (s : State) (p : Port) (hI : s.Inv) : (State.conNext s p).Inv := by
  unfold State.conNext
  try dsimp only
  repeat' (first | (with_reducible (first | assumption | apply State.conWith_inv | apply State.conSync_inv | apply inv_ite)) | (intro _) | split)

theorem execConTxDone_inv (p : Port) (s : State) (hI : s.Inv) : State.InvO (execConTxDone p s) := by
  unfold execConTxDone
  repeat' (first | (with_reducible (first | assumption | apply State.conNext_inv | apply State.invO_next | apply inv_ite | apply invO_ite)) | split)

theorem State.conEmpty_inv (s : State) (p : Port) (hI : s.Inv) : (State.conEmpty s p).Inv := by
  unfold State.conEmpty
  try dsimp only
  repeat' (first | (with_reducible (first | assumption | apply State.put_inv | apply State.conWith_inv | apply State.conSync_inv)) | (intro _))

theorem State.conSafe_inv (s : State) (p : Port) (hI : s.Inv) : (State.conSafe s p).Inv := by
  unfold State.conSafe
  repeat' (with_reducible (first | assumption | apply State.muxOpen_inv | apply State.conEmpty_inv))

theorem State.conRestore_inv (s : State) (p : Port) (hI : s.Inv) : (State.conRestore s p).Inv := by
  unfold State.conRestore
  repeat' (first | (with_reducible (first | assumption | apply State.muxRoute_inv | apply inv_ite)) | split)

end Sys2Proof.Machine
end

