-- ==== Sys2Proof/Laws/InvDrc.lean ====
section
/-! SUPPORT. What the definitions of Machine/Drc.lean keep: each one leaves the invariant of Safety.lean as it was. -/

namespace Sys2Proof.Machine

set_option linter.unreachableTactic false
set_option linter.unusedTactic false

theorem State.dramWith_inv (s : State) (f : Dram → Dram) (h : s.Inv) (hf : ∀ d : Dram, d.Canon → (f d).Canon) :
    (State.dramWith s f).Inv :=
  { h with dram := hf _ h.dram }

theorem State.setDrcSt_inv (s : State) (v : Nat) (hI : s.Inv) : (State.setDrcSt s v).Inv := by
  unfold State.setDrcSt
  repeat' (with_reducible (first | assumption | apply State.put_inv))

theorem State.eccNote_inv (s : State) (w : Nat) (unc : Bool) (cls : Nat) (hI : s.Inv) : (State.eccNote s w unc cls).Inv := by
  unfold State.eccNote
  try dsimp only
  repeat' (first | (with_reducible (first | assumption | apply State.put_inv | apply State.setFlag_inv | apply State.count_inv | apply State.raise_inv | refine State.dramWith_inv _ _ ?_ ?_ | apply inv_ite)) | (with_reducible (first | (exact fun _ hd => Dram.Canon.of hd rfl rfl rfl) | (exact fun _ hd => Dram.putBytes_canon hd _ _) | (exact fun _ hd => Dram.mend_canon (Dram.putBytes_canon hd _ _) _) | (exact fun _ hd => Dram.mend_canon hd _) | (exact fun _ hd => Dram.Canon.of (Dram.putBytes_canon (Dram.mend_canon hd _) _ _) rfl rfl rfl)))| (exact fun _ _ => Sparse.nil_wf _) | (intro _) | split)

theorem State.eccRead_inv (s : State) (w : Nat) (cls : Nat) (wb : Bool) (hI : s.Inv) : (State.eccRead s w cls wb).2.Inv := by
  unfold State.eccRead
  try dsimp only
  repeat' (first | (with_reducible (first | assumption | refine State.dramWith_inv _ _ ?_ ?_ | apply State.eccNote_inv | apply inv_ite)) | (with_reducible (first | (exact fun _ hd => Dram.Canon.of hd rfl rfl rfl) | (exact fun _ hd => Dram.putBytes_canon hd _ _) | (exact fun _ hd => Dram.mend_canon (Dram.putBytes_canon hd _ _) _) | (exact fun _ hd => Dram.mend_canon hd _) | (exact fun _ hd => Dram.Canon.of (Dram.putBytes_canon (Dram.mend_canon hd _) _ _) rfl rfl rfl)))| (exact fun _ _ => Sparse.nil_wf _) | split)

theorem State.dramRead_inv (s : State) (a n : Nat) (cls : Nat) (hI : s.Inv) : (State.dramRead s a n cls).2.2.Inv := by
  unfold State.dramRead
  try dsimp -iota only
  repeat' (first | split | (with_reducible (first | assumption | apply State.eccRead_inv | apply inv_ite | refine inv_foldl (fun _ _ _ => ?_) ?_ | refine inv_foldl_snd (fun _ _ _ => ?_) ?_ | refine inv_foldl_fst (fun _ _ _ => ?_) ?_ | refine inv_foldl_fst2 (fun _ _ _ => ?_) ?_)) | (intro _) | (refine inv_of_snd (by with_reducible assumption) ?_))

theorem State.dramWriteWord_inv (s : State) (a : Nat) (bs : List Byte) (w : Nat) (cls : Nat) (hI : s.Inv) : (State.dramWriteWord s a bs w cls).2.Inv := by
  unfold State.dramWriteWord
  try dsimp -iota only
  repeat' (first | split | (with_reducible (first | assumption | refine State.dramWith_inv _ _ ?_ ?_ | apply State.eccRead_inv | apply inv_ite)) | (with_reducible (first | (exact fun _ hd => Dram.Canon.of hd rfl rfl rfl) | (exact fun _ hd => Dram.putBytes_canon hd _ _) | (exact fun _ hd => Dram.mend_canon (Dram.putBytes_canon hd _ _) _) | (exact fun _ hd => Dram.mend_canon hd _) | (exact fun _ hd => Dram.Canon.of (Dram.putBytes_canon (Dram.mend_canon hd _) _ _) rfl rfl rfl)))| (exact fun _ _ => Sparse.nil_wf _) | (intro _) | (refine inv_of_snd (by with_reducible assumption) ?_))

theorem State.dramWrite_inv (s : State) (a : Nat) (bs : List Byte) (cls : Nat) (hI : s.Inv) : (State.dramWrite s a bs cls).2.Inv := by
  unfold State.dramWrite
  try dsimp -iota only
  repeat' (first | split | (with_reducible (first | assumption | apply State.dramWriteWord_inv | apply inv_ite | refine inv_foldl (fun _ _ _ => ?_) ?_ | refine inv_foldl_snd (fun _ _ _ => ?_) ?_ | refine inv_foldl_fst (fun _ _ _ => ?_) ?_ | refine inv_foldl_fst2 (fun _ _ _ => ?_) ?_)) | (intro _) | (refine inv_of_snd (by with_reducible assumption) ?_))

theorem State.hostRead_inv (s : State) (u : Up) (a n : Nat) (hI : s.Inv) : (State.hostRead s u a n).2.2.2.Inv := by
  unfold State.hostRead
  try dsimp -iota only
  repeat' (first | split | (with_reducible (first | assumption | apply State.count_inv | apply State.dramRead_inv | apply inv_ite | apply inv_dite | refine inv_foldl (fun _ _ _ => ?_) ?_ | refine inv_foldl_snd (fun _ _ _ => ?_) ?_ | refine inv_foldl_fst (fun _ _ _ => ?_) ?_ | refine inv_foldl_fst2 (fun _ _ _ => ?_) ?_)) | (intro _) | (refine inv_of_snd (by with_reducible assumption) ?_) | (refine inv_of_snd2 (by with_reducible assumption) ?_) | (refine inv_of_snd3 (by with_reducible assumption) ?_) | (refine inv_of_fst (by with_reducible assumption) ?_))

theorem State.hostWrite_inv (s : State) (u : Up) (a : Nat) (bs : List Byte) (hI : s.Inv) : (State.hostWrite s u a bs).2.2.Inv := by
  unfold State.hostWrite
  try dsimp -iota only
  repeat' (first | split | (with_reducible (first | assumption | apply State.count_inv | apply State.dramWrite_inv | apply inv_ite)) | (refine inv_of_snd (by with_reducible assumption) ?_))

theorem State.winBits_inv (s : State) (w : WinIx) (load store : Bool) (hI : s.Inv) : (State.winBits s w load store).Inv := by
  unfold State.winBits
  repeat' (with_reducible (first | assumption | apply State.setFlag_inv))

theorem State.setWin_inv (s : State) (w : WinIx) (c : Option WinCmd) (hI : s.Inv) : (State.setWin s w c).Inv := by
  unfold State.setWin
  try dsimp only
  repeat' (first | (with_reducible (first | assumption | refine State.dramWith_inv _ _ ?_ ?_)) | (with_reducible (first | (exact fun _ hd => Dram.Canon.of hd rfl rfl rfl) | (exact fun _ hd => Dram.putBytes_canon hd _ _) | (exact fun _ hd => Dram.mend_canon (Dram.putBytes_canon hd _ _) _) | (exact fun _ hd => Dram.mend_canon hd _) | (exact fun _ hd => Dram.Canon.of (Dram.putBytes_canon (Dram.mend_canon hd _) _ _) rfl rfl rfl)))| (exact fun _ _ => Sparse.nil_wf _) | (intro _))

theorem State.winStart_inv (s : State) (w : WinIx) (store : Bool) (hI : s.Inv) : (State.winStart s w store).Inv := by
  unfold State.winStart
  try dsimp only
  repeat' (first | (with_reducible (first | assumption | apply State.put_inv | apply State.count_inv | apply State.setFault_inv | apply State.winBits_inv | apply State.setWin_inv | apply inv_ite)) | split)

theorem State.winFill_inv (s : State) (w : WinIx) (n : Nat) (bs : List Byte) (hI : s.Inv) : (State.winFill s w n bs).Inv := by
  unfold State.winFill
  try dsimp only
  repeat' (first | (with_reducible (first | assumption | apply State.putRw_inv | refine inv_foldl (fun _ _ _ => ?_) ?_)) | (intro _))

theorem State.winAct_inv (s : State) (w : WinIx) (c : WinCmd) (n : Nat) (hI : s.Inv) : (State.winAct s w c n).2.Inv := by
  unfold State.winAct
  try dsimp -iota only
  repeat' (first | split | (with_reducible (first | assumption | apply State.dramRead_inv | apply State.dramWrite_inv | apply State.winFill_inv | apply inv_ite | apply inv_dite | refine inv_foldl (fun _ _ _ => ?_) ?_ | refine inv_foldl_snd (fun _ _ _ => ?_) ?_ | refine inv_foldl_fst (fun _ _ _ => ?_) ?_ | refine inv_foldl_fst2 (fun _ _ _ => ?_) ?_)) | (intro _) | (refine inv_of_snd (by with_reducible assumption) ?_) | (refine inv_of_snd2 (by with_reducible assumption) ?_) | (refine inv_of_snd3 (by with_reducible assumption) ?_) | (refine inv_of_fst (by with_reducible assumption) ?_))

theorem execWindowCommandEnd_inv (w : WinIx) (s : State) (hI : s.Inv) : State.InvO (execWindowCommandEnd w s) := by
  unfold execWindowCommandEnd
  try dsimp -iota only
  repeat' (first | split | (with_reducible (first | assumption | apply State.put_inv | apply State.count_inv | apply State.setFault_inv | apply State.winBits_inv | apply State.setWin_inv | apply State.winAct_inv | apply State.invO_next | apply inv_ite | apply invO_ite)) | (refine inv_of_snd (by with_reducible assumption) ?_))

theorem State.winCut_inv (s : State) (w : WinIx) (result : Nat) (hI : s.Inv) : (State.winCut s w result).Inv := by
  unfold State.winCut
  try dsimp -iota only
  repeat' (first | split | (with_reducible (first | assumption | apply State.put_inv | apply State.count_inv | apply State.free_inv | apply State.winBits_inv | apply State.setWin_inv | apply State.winAct_inv)) | (refine inv_of_snd (by with_reducible assumption) ?_))

theorem State.winSafe_inv (s : State) (hI : s.Inv) : (State.winSafe s).Inv := by
  unfold State.winSafe
  try dsimp only
  repeat' (first | (with_reducible (first | assumption | apply State.winCut_inv | apply inv_ite)) | split)

theorem State.drcAsk_inv (s : State) (hI : s.Inv) : (State.drcAsk s).Inv := by
  unfold State.drcAsk
  repeat' (with_reducible (first | assumption | apply State.askLeave_inv | apply State.setDrcSt_inv))

theorem State.drcReady_inv (s : State) (hI : s.Inv) : (State.drcReady s).Inv := by
  unfold State.drcReady
  try dsimp only
  repeat' (first | (with_reducible (first | assumption | apply State.put_inv | refine State.dramWith_inv _ _ ?_ ?_ | apply State.setDrcSt_inv)) | (with_reducible (first | (exact fun _ hd => Dram.Canon.of hd rfl rfl rfl) | (exact fun _ hd => Dram.putBytes_canon hd _ _) | (exact fun _ hd => Dram.mend_canon (Dram.putBytes_canon hd _ _) _) | (exact fun _ hd => Dram.mend_canon hd _) | (exact fun _ hd => Dram.Canon.of (Dram.putBytes_canon (Dram.mend_canon hd _) _ _) rfl rfl rfl)))| (exact fun _ _ => Sparse.nil_wf _) | (intro _))

theorem execTrainingEnd_inv (laneFail : BitVec 5) (s : State) (hI : s.Inv) : State.InvO (execTrainingEnd laneFail s) := by
  unfold execTrainingEnd
  try dsimp only
  repeat' (first | (with_reducible (first | assumption | apply State.put_inv | apply State.count_inv | apply State.opDone_inv | refine State.dramWith_inv _ _ ?_ ?_ | apply State.setDrcSt_inv | apply State.drcAsk_inv | apply State.drcReady_inv | apply State.invO_next | apply inv_ite | apply invO_ite)) | (with_reducible (first | (exact fun _ hd => Dram.Canon.of hd rfl rfl rfl) | (exact fun _ hd => Dram.putBytes_canon hd _ _) | (exact fun _ hd => Dram.mend_canon (Dram.putBytes_canon hd _ _) _) | (exact fun _ hd => Dram.mend_canon hd _) | (exact fun _ hd => Dram.Canon.of (Dram.putBytes_canon (Dram.mend_canon hd _) _ _) rfl rfl rfl)))| (exact fun _ _ => Sparse.nil_wf _) | (intro _) | split)

theorem execZeroingEnd_inv (s : State) (hI : s.Inv) : State.InvO (execZeroingEnd s) := by
  unfold execZeroingEnd
  try dsimp only
  repeat' (first | (with_reducible (first | assumption | refine State.dramWith_inv _ _ ?_ ?_ | apply State.drcReady_inv | apply State.invO_next | apply inv_ite | apply invO_ite)) | (with_reducible (first | (exact fun _ hd => Dram.Canon.of hd rfl rfl rfl) | (exact fun _ hd => Dram.putBytes_canon hd _ _) | (exact fun _ hd => Dram.mend_canon (Dram.putBytes_canon hd _ _) _) | (exact fun _ hd => Dram.mend_canon hd _) | (exact fun _ hd => Dram.Canon.of (Dram.putBytes_canon (Dram.mend_canon hd _) _ _) rfl rfl rfl)))| (exact fun _ _ => Sparse.nil_wf _) | (intro _) | split)

theorem execRefresh_inv (s : State) (hI : s.Inv) : State.InvO (execRefresh s) := by
  unfold execRefresh
  repeat' (with_reducible (first | assumption | apply State.invO_next))

theorem execZqCalibration_inv (s : State) (hI : s.Inv) : State.InvO (execZqCalibration s) := by
  unfold execZqCalibration
  repeat' (with_reducible (first | assumption | apply State.invO_next))

theorem State.eccUpset_inv (s : State) (e : EccUpset) (hI : s.Inv) : (State.eccUpset s e).Inv := by
  unfold State.eccUpset
  try dsimp -iota only
  repeat' (first | split | (with_reducible (first | assumption | apply State.free_inv | refine State.dramWith_inv _ _ ?_ ?_ | apply inv_ite)) | (with_reducible (first | (exact fun _ hd => Dram.Canon.of hd rfl rfl rfl) | (exact fun _ hd => Dram.putBytes_canon hd _ _) | (exact fun _ hd => Dram.mend_canon (Dram.putBytes_canon hd _ _) _) | (exact fun _ hd => Dram.mend_canon hd _) | (exact fun _ hd => Dram.Canon.of (Dram.putBytes_canon (Dram.mend_canon hd _) _ _) rfl rfl rfl)))| (exact fun _ _ => Sparse.nil_wf _) | (intro _) | (refine inv_of_snd (by with_reducible assumption) ?_))

theorem State.scrubStep_inv (s : State) (hI : s.Inv) : (State.scrubStep s).Inv := by
  unfold State.scrubStep
  try dsimp only
  repeat' (first | (with_reducible (first | assumption | apply State.put_inv | apply State.count_inv | refine State.dramWith_inv _ _ ?_ ?_ | apply State.eccRead_inv | apply inv_ite | refine inv_foldl (fun _ _ _ => ?_) ?_)) | (with_reducible (first | (exact fun _ hd => Dram.Canon.of hd rfl rfl rfl) | (exact fun _ hd => Dram.putBytes_canon hd _ _) | (exact fun _ hd => Dram.mend_canon (Dram.putBytes_canon hd _ _) _) | (exact fun _ hd => Dram.mend_canon hd _) | (exact fun _ hd => Dram.Canon.of (Dram.putBytes_canon (Dram.mend_canon hd _) _ _) rfl rfl rfl)))| (exact fun _ _ => Sparse.nil_wf _) | (intro _) | split)

theorem execScrub_inv (turn : ScrubTurn) (s : State) (hI : s.Inv) : State.InvO (execScrub turn s) := by
  unfold execScrub
  try dsimp only
  repeat' (first | (with_reducible (first | assumption | apply State.upset_inv | apply State.eccUpset_inv | apply State.scrubStep_inv | apply State.invO_next | apply inv_ite | apply invO_ite)) | split)

theorem State.scrubRestart_inv (s : State) (hI : s.Inv) : (State.scrubRestart s).Inv := by
  unfold State.scrubRestart
  try dsimp only
  repeat' (first | (with_reducible (first | assumption | apply State.put_inv | refine State.dramWith_inv _ _ ?_ ?_)) | (with_reducible (first | (exact fun _ hd => Dram.Canon.of hd rfl rfl rfl) | (exact fun _ hd => Dram.putBytes_canon hd _ _) | (exact fun _ hd => Dram.mend_canon (Dram.putBytes_canon hd _ _) _) | (exact fun _ hd => Dram.mend_canon hd _) | (exact fun _ hd => Dram.Canon.of (Dram.putBytes_canon (Dram.mend_canon hd _) _ _) rfl rfl rfl)))| (exact fun _ _ => Sparse.nil_wf _) | (intro _))

theorem execDdrAlert_inv (s : State) (hI : s.Inv) : State.InvO (execDdrAlert s) := by
  unfold execDdrAlert
  repeat' (first | (with_reducible (first | assumption | apply State.count_inv | apply State.invO_next | apply inv_ite | apply invO_ite)) | split)

end Sys2Proof.Machine
end

