-- ==== Sys2Proof/Laws/InvMgfCore.lean ====
section
/-! SUPPORT. What the definitions of Machine/MgfCore.lean keep: each one leaves the invariant of Safety.lean as it was. -/

namespace Sys2Proof.Machine

set_option linter.unreachableTactic false
set_option linter.unusedTactic false

theorem State.semFree_inv (s : State) (n : Sem) (hI : s.Inv) : (State.semFree s n).Inv := by
  unfold State.semFree
  repeat' (with_reducible (first | assumption | apply State.wr_inv))

theorem State.semFreeBy_inv (s : State) (n : Sem) (e : Ev) (hI : s.Inv) : (State.semFreeBy s n e).Inv := by
  unfold State.semFreeBy
  try dsimp only
  repeat' (with_reducible (first | assumption | apply State.raise_inv | apply State.semFree_inv))

theorem State.semOrphan_inv (s : State) (test : State → Sem → Bool) (hI : s.Inv) : (State.semOrphan s test).Inv := by
  unfold State.semOrphan
  try dsimp only
  repeat' (first | (with_reducible (first | assumption | apply State.semFreeBy_inv | apply inv_ite | refine inv_foldl (fun _ _ _ => ?_) ?_)) | (intro _) | split)

theorem State.semOrphanHost_inv (s : State) (u : Up) (hI : s.Inv) : (State.semOrphanHost s u).Inv := by
  unfold State.semOrphanHost
  try dsimp only
  repeat' (first | (with_reducible (first | assumption | apply State.semOrphan_inv)) | (intro _))

theorem State.mgfWith_inv (s : State) (u : Up) (f : MgfSt → MgfSt) (hI : s.Inv) : (State.mgfWith s u f).Inv := by
  unfold State.mgfWith
  try dsimp only
  repeat' (first | (with_reducible (first | assumption)) | (with_reducible apply State.Inv.set_mgfSt))

theorem State.mgfInstWith_inv (s : State) (u : Up) (ss : Bool) (f : MgfInst → MgfInst) (hI : s.Inv) : (State.mgfInstWith s u ss f).Inv := by
  unfold State.mgfInstWith
  try dsimp only
  repeat' (first | (with_reducible (first | assumption | apply State.mgfWith_inv | apply inv_ite)) | (intro _) | split)

theorem State.mgfSync_inv (s : State) (u : Up) (hI : s.Inv) : (State.mgfSync s u).Inv := by
  unfold State.mgfSync
  try dsimp only
  repeat' (first | (with_reducible (first | assumption | apply State.put_inv | apply State.setFlag_inv | apply inv_ite)) | split)

theorem State.emptyEps_inv (s : State) (u : Up) (hI : s.Inv) : (State.emptyEps s u).2.Inv := by
  unfold State.emptyEps
  try dsimp only
  repeat' (first | (with_reducible (first | assumption | apply State.put_inv | apply State.mgfWith_inv | apply inv_ite)) | (intro _) | split)

theorem State.clearSeqs_inv (s : State) (u : Up) (hI : s.Inv) : (State.clearSeqs s u).Inv := by
  unfold State.clearSeqs
  try dsimp only
  repeat' (first | (with_reducible (first | assumption | apply State.put_inv | apply State.mgfWith_inv)) | (intro _))

theorem State.stageMet_inv (s : State) (u : Up) (hI : s.Inv) : (State.stageMet s u).2.Inv := by
  unfold State.stageMet
  try dsimp only
  repeat' (first | (with_reducible (first | assumption | apply State.free_inv)) | split)

theorem State.fnReset_inv (s : State) (u : Up) (ss : Bool) (kind : Nat) (hI : s.Inv) : (State.fnReset s u ss kind).Inv := by
  unfold State.fnReset
  try dsimp -iota only
  repeat' (first | split | (with_reducible (first | assumption | apply State.setFlag_inv | apply State.count_inv | apply State.raisePres_inv | apply State.semOrphanHost_inv | apply State.mgfWith_inv | apply State.mgfInstWith_inv | apply State.mgfSync_inv | apply State.emptyEps_inv | apply State.clearSeqs_inv | apply State.stageMet_inv | apply inv_ite)) | (intro _) | (refine inv_of_snd (by with_reducible assumption) ?_))

theorem State.fnSuspend_inv (s : State) (u : Up) (ss b : Bool) (hI : s.Inv) : (State.fnSuspend s u ss b).Inv := by
  unfold State.fnSuspend
  try dsimp only
  repeat' (first | (with_reducible (first | assumption | apply State.mgfInstWith_inv | apply State.mgfSync_inv)) | (intro _))

end Sys2Proof.Machine
end

