-- ==== Sys2Proof/Laws/InvUsb2Hub.lean ====
section
/-! SUPPORT. What the definitions of Machine/Usb2Hub.lean keep: each one leaves the invariant of Safety.lean as it was. -/

namespace Sys2Proof.Machine

set_option linter.unreachableTactic false
set_option linter.unusedTactic false

theorem State.cptSeen_inv (s : State) (hc : HubCtx) (b : Nat) (hI : s.Inv) : (State.cptSeen s hc b).Inv := by
  unfold State.cptSeen
  try dsimp only
  repeat' (first | (with_reducible (first | assumption | apply State.setCptByte_inv | apply inv_ite)) | split)

theorem State.ctxRecord_inv (s : State) (hc : HubCtx) (e : Ev) (detail : Nat) (hI : s.Inv) : (State.ctxRecord s hc e detail).Inv := by
  unfold State.ctxRecord
  try dsimp only
  repeat' (first | (with_reducible (first | assumption | apply State.raisePres_inv)) | split)

theorem State.ctxResumeRecord_inv (s : State) (hc : HubCtx) (cause : Nat) (hI : s.Inv) : (State.ctxResumeRecord s hc cause).Inv := by
  unfold State.ctxResumeRecord
  repeat' (with_reducible (first | assumption | apply State.ctxRecord_inv))

theorem State.countMerged_inv (s : State) (hc : HubCtx) (hI : s.Inv) : (State.countMerged s hc).Inv := by
  unfold State.countMerged
  try dsimp only
  repeat' (first | (with_reducible (first | assumption | apply State.count_inv)) | split)

theorem State.hostPower_inv (s : State) (p : Port) (hI : s.Inv) : (State.hostPower s p).Inv := by
  unfold State.hostPower
  repeat' (first | (with_reducible (first | assumption | apply State.vbsOpen_inv | apply State.askTurnOn_inv | apply inv_ite)) | split)

theorem State.dropHold2_inv (s : State) (p : Port) (c : Fin 2) (hI : s.Inv) : (State.dropHold2 s p c).Inv := by
  unfold State.dropHold2
  try dsimp only
  repeat' (first | (with_reducible (first | assumption | apply State.u2pWith_inv)) | (intro _))

theorem State.powerReturn_inv (s : State) (p : Port) (hI : s.Inv) : (State.powerReturn s p).Inv := by
  unfold State.powerReturn
  try dsimp only
  repeat' (first | (with_reducible (first | assumption | apply State.setU2_inv | apply State.hostPower_inv | apply inv_ite)) | split)

theorem State.setHostPower_inv (s : State) (hc : HubCtx) (p : Port) (hI : s.Inv) : (State.setHostPower s hc p).Inv := by
  unfold State.setHostPower
  try dsimp only
  repeat' (first | (with_reducible (first | assumption | refine State.cptWith_inv _ _ _ ?_ ?_ | apply State.setPowerBit_inv | apply State.dropHold2_inv | apply State.powerReturn_inv | apply inv_ite | refine inv_foldl (fun _ _ _ => ?_) ?_)) | (exact fun _ hc => hc) | (intro _) | split)

theorem State.powerOffPort_inv (s : State) (p : Port) (hI : s.Inv) : (State.powerOffPort s p).Inv := by
  unfold State.powerOffPort
  try dsimp only
  repeat' (first | (with_reducible (first | assumption | apply State.u2Gone_inv | apply State.u2Eval_inv | apply State.hostPower_inv | apply inv_ite)) | split)

theorem State.clearHostPower_inv (s : State) (hc : HubCtx) (p : Port) (hI : s.Inv) : (State.clearHostPower s hc p).Inv := by
  unfold State.clearHostPower
  try dsimp only
  repeat' (first | (with_reducible (first | assumption | refine State.cptWith_inv _ _ _ ?_ ?_ | apply State.setPowerBit_inv | apply State.dropHold2_inv | apply State.powerOffPort_inv | apply inv_ite | refine inv_foldl (fun _ _ _ => ?_) ?_)) | (exact fun _ hc => hc) | (intro _) | split)

theorem State.ctxResetPort_inv (s : State) (hc : HubCtx) (p : Port) (hI : s.Inv) : (State.ctxResetPort s hc p).Inv := by
  unfold State.ctxResetPort
  try dsimp only
  repeat' (first | split | (with_reducible (first | assumption | apply State.u2pWith_inv | apply State.setPowerBit_inv | apply State.powerOffPort_inv | apply inv_ite | apply inv_dite)) | (intro _) | (refine inv_of_snd (by with_reducible assumption) ?_))

theorem State.fbForget_inv (s : State) (hc : HubCtx) (hI : s.Inv) : (State.fbForget s hc).Inv := by
  unfold State.fbForget
  try dsimp only
  repeat' (first | (with_reducible (first | assumption | apply State.presWith_inv)) | (intro _) | split)

theorem State.ctxResetOne_inv (s : State) (hc : HubCtx) (speed : Fin 3) (hI : s.Inv) : (State.ctxResetOne s hc speed).Inv := by
  unfold State.ctxResetOne
  try dsimp only
  repeat' (first | (with_reducible (first | assumption | apply State.count_inv | refine State.cptWith_inv _ _ _ ?_ ?_ | apply State.hubWith_inv | apply State.cptSeen_inv | apply State.ctxResumeRecord_inv | apply State.ctxResetPort_inv | apply State.fbForget_inv | apply inv_ite | refine inv_foldl (fun _ _ _ => ?_) ?_ | refine inv_foldl_snd (fun _ _ _ => ?_) ?_ | refine inv_foldl_fst (fun _ _ _ => ?_) ?_ | refine inv_foldl_fst2 (fun _ _ _ => ?_) ?_)) | (exact fun _ hc => hc) | (intro _) | split)

theorem State.ctxReset_inv (s : State) (hc : HubCtx) (speed : Fin 3) (hI : s.Inv) : (State.ctxReset s hc speed).Inv := by
  unfold State.ctxReset
  try dsimp only
  repeat' (first | (with_reducible (first | assumption | apply State.fnReset_inv | apply State.ctxResetOne_inv | apply inv_ite | refine inv_foldl (fun _ _ _ => ?_) ?_)) | (intro _) | split)

theorem execContextReset_inv (hc : HubCtx) (hs : Bool) (s : State) (hI : s.Inv) : State.InvO (execContextReset hc hs s) := by
  unfold execContextReset
  try dsimp only
  repeat' (first | (with_reducible (first | assumption | apply State.ctxReset_inv | apply State.invO_next | apply inv_ite | apply invO_ite | apply inv_dite)) | split)

theorem execPwrHoldEnd_inv (hc : HubCtx) (ss : Bool) (s : State) (hI : s.Inv) : State.InvO (execPwrHoldEnd hc ss s) := by
  unfold execPwrHoldEnd
  try dsimp only
  repeat' (first | (with_reducible (first | assumption | apply State.u2pWith_inv | apply State.vbsOpen_inv | apply State.invO_next | apply inv_ite | apply invO_ite | refine inv_foldl (fun _ _ _ => ?_) ?_)) | (intro _) | split)

theorem State.fnFollows_inv (s : State) (hc : HubCtx) (b : Bool) (hI : s.Inv) : (State.fnFollows s hc b).Inv := by
  unfold State.fnFollows
  try dsimp only
  repeat' (first | (with_reducible (first | assumption | apply State.fnSuspend_inv | apply inv_ite)) | split)

theorem execContextSuspend_inv (hc : HubCtx) (s : State) (hI : s.Inv) : State.InvO (execContextSuspend hc s) := by
  unfold execContextSuspend
  try dsimp only
  repeat' (first | split | (with_reducible (first | assumption | apply State.hubWith_inv | apply State.cptSeen_inv | apply State.ctxRecord_inv | apply State.fnFollows_inv | apply State.invO_next | apply inv_ite | apply invO_ite)) | (intro _) | (refine inv_of_snd (by with_reducible assumption) ?_))

theorem State.startResume_inv (s : State) (p : Port) (fromL1 : Bool) (cause : Fin 5) (sets : Bool) (hI : s.Inv) : (State.startResume s p fromL1 cause sets).Inv := by
  unfold State.startResume
  try dsimp only
  repeat' (first | (with_reducible (first | assumption | apply State.u2pWith_inv | apply State.setU2_inv)) | (intro _))

theorem State.mergeDevice_inv (s : State) (hc : HubCtx) (p : Port) (hI : s.Inv) : (State.mergeDevice s hc p).Inv := by
  unfold State.mergeDevice
  try dsimp only
  repeat' (first | (with_reducible (first | assumption | apply State.count_inv | apply State.ctxResumeRecord_inv | apply State.startResume_inv | apply inv_ite)) | split)

theorem State.ctxResumeOne_inv (s : State) (hc : HubCtx) (device : Option Port) (met : Bool) (hI : s.Inv) : (State.ctxResumeOne s hc device met).Inv := by
  unfold State.ctxResumeOne
  try dsimp only
  repeat' (first | (with_reducible (first | assumption | apply State.hubWith_inv | apply State.cptSeen_inv | apply State.ctxResumeRecord_inv | apply State.countMerged_inv | apply State.fnFollows_inv | apply State.mergeDevice_inv | apply inv_ite | apply inv_dite)) | (intro _) | split)

theorem State.ctxResume_inv (s : State) (hc : HubCtx) (device : Option Port) (hI : s.Inv) : (State.ctxResume s hc device).Inv := by
  unfold State.ctxResume
  try dsimp only
  repeat' (first | (with_reducible (first | assumption | apply State.ctxResumeOne_inv | refine inv_foldl (fun _ _ _ => ?_) ?_)) | (intro _) | split)

theorem execContextResume_inv (at_ : ResumeAt) (s : State) (hI : s.Inv) : State.InvO (execContextResume at_ s) := by
  unfold execContextResume
  repeat' (first | (with_reducible (first | assumption | apply State.ctxResume_inv | apply State.invO_next | apply inv_ite | apply invO_ite)) | split)

theorem State.ctxDriveK_inv (s : State) (hc : HubCtx) (hI : s.Inv) : (State.ctxDriveK s hc).Inv := by
  unfold State.ctxDriveK
  try dsimp only
  repeat' (first | (with_reducible (first | assumption | apply State.hubWith_inv | apply State.ctxResumeRecord_inv | apply inv_ite)) | (intro _) | split)

theorem State.rootWake_inv (s : State) (u : Up) (hI : s.Inv) : (State.rootWake s u).Inv := by
  unfold State.rootWake
  try dsimp only
  repeat' (first | (with_reducible (first | assumption | apply State.ctxResumeOne_inv | apply State.ctxDriveK_inv | apply inv_ite | refine inv_foldl (fun _ _ _ => ?_) ?_)) | (intro _) | split)

theorem State.propagate_inv (s : State) (hc : HubCtx) (hI : s.Inv) : (State.propagate s hc).Inv := by
  unfold State.propagate
  try dsimp only
  repeat' (first | (with_reducible (first | assumption | apply State.ctxDriveK_inv | apply State.rootWake_inv | apply inv_ite)) | split)

theorem State.mergeResume_inv (s : State) (p : Port) (hI : s.Inv) : (State.mergeResume s p).Inv := by
  unfold State.mergeResume
  try dsimp only
  repeat' (first | (with_reducible (first | assumption | apply State.count_inv | apply State.u2pWith_inv | apply inv_ite)) | (intro _) | split)

theorem State.wakePort_inv (s : State) (p : Port) (upK : Bool) (hI : s.Inv) : (State.wakePort s p upK).Inv := by
  unfold State.wakePort
  try dsimp only
  repeat' (first | (with_reducible (first | assumption | apply State.count_inv | apply State.startResume_inv | apply State.mergeResume_inv | apply inv_ite)) | split)

theorem execRemoteWake_inv (p : Port) (s : State) (hI : s.Inv) : State.InvO (execRemoteWake p s) := by
  unfold execRemoteWake
  try dsimp only
  repeat' (first | (with_reducible (first | assumption | apply State.count_inv | apply State.propagate_inv | apply State.wakePort_inv | apply State.invO_next | apply inv_ite | apply invO_ite)) | split)

theorem execWakePropagationEnd_inv (hc : HubCtx) (s : State) (hI : s.Inv) : State.InvO (execWakePropagationEnd hc s) := by
  unfold execWakePropagationEnd
  try dsimp only
  repeat' (first | (with_reducible (first | assumption | apply State.hubWith_inv | apply State.invO_next)) | (intro _))

theorem execConnect_inv (p : Port) (low : Bool) (s : State) (hI : s.Inv) : State.InvO (execConnect p low s) := by
  unfold execConnect
  try dsimp only
  repeat' (first | (with_reducible (first | assumption | apply State.u2pWith_inv | apply State.setU2_inv | apply State.addChg_inv | apply State.invO_next | apply inv_ite | apply invO_ite)) | (intro _) | split)

theorem execDisconnect_inv (p : Port) (s : State) (hI : s.Inv) : State.InvO (execDisconnect p s) := by
  unfold execDisconnect
  repeat' (first | (with_reducible (first | assumption | apply State.u2Disconnect_inv | apply State.invO_next | apply inv_ite | apply invO_ite)) | split)

theorem execBabble_inv (p : Port) (s : State) (hI : s.Inv) : State.InvO (execBabble p s) := by
  unfold execBabble
  repeat' (first | (with_reducible (first | assumption | apply State.countErr_inv | apply State.addChg_inv | apply State.u2Disable_inv | apply State.invO_next | apply inv_ite | apply invO_ite)) | split)

theorem State.startReset_inv (s : State) (p : Port) (hI : s.Inv) : (State.startReset s p).Inv := by
  unfold State.startReset
  try dsimp only
  repeat' (first | split | (with_reducible (first | assumption | apply State.put_inv | apply State.count_inv | apply State.raisePort_inv | apply State.u2pWith_inv | apply State.setU2_inv | apply inv_ite)) | (intro _) | (refine inv_of_snd (by with_reducible assumption) ?_))

theorem execChirpK_inv (p : Port) (s : State) (hI : s.Inv) : State.InvO (execChirpK p s) := by
  unfold execChirpK
  try dsimp only
  repeat' (first | (with_reducible (first | assumption | apply State.u2pWith_inv | apply State.invO_next | apply inv_ite | apply invO_ite)) | (intro _) | split)

theorem State.payView_inv (s : State) (p : Port) (c : Fin 2) (hI : s.Inv) : (State.payView s p c).Inv := by
  unfold State.payView
  try dsimp only
  repeat' (first | (with_reducible (first | assumption | apply State.u2pWith_inv | apply inv_ite)) | (intro _) | split)

theorem execPortResetEnd_inv (which : PortResetOver) (s : State) (hI : s.Inv) : State.InvO (execPortResetEnd which s) := by
  unfold execPortResetEnd
  try dsimp only
  repeat' (first | (with_reducible (first | assumption | apply State.put_inv | apply State.setU2_inv | apply State.addChg_inv | apply State.payView_inv | apply State.invO_next | apply inv_ite | apply invO_ite)) | split)

theorem execResumeEnd_inv (p : Port) (s : State) (hI : s.Inv) : State.InvO (execResumeEnd p s) := by
  unfold execResumeEnd
  try dsimp only
  repeat' (first | (with_reducible (first | assumption | apply State.raisePort_inv | apply State.setU2_inv | apply State.addChg_inv | apply State.invO_next | apply inv_ite | apply invO_ite)) | split)

theorem execL1ExitEnd_inv (p : Port) (s : State) (hI : s.Inv) : State.InvO (execL1ExitEnd p s) := by
  unfold execL1ExitEnd
  try dsimp only
  repeat' (first | (with_reducible (first | assumption | apply State.put_inv | apply State.raisePort_inv | apply State.u2pWith_inv | apply State.setU2_inv | apply State.addChg_inv | apply State.invO_next | apply inv_ite | apply invO_ite)) | (intro _) | split)

theorem State.portRequest_inv (s : State) (hc : HubCtx) (n : Nat) (dev : Port → Bool → State) (internal : State) (hf0 : ∀ x0 x1, (dev x0 x1).Inv) (hI : s.Inv) (hI1 : internal.Inv) : (State.portRequest s hc n dev internal).Inv := by
  unfold State.portRequest
  try dsimp only
  repeat' (first | (with_reducible (first | assumption | apply hf0 | apply State.reply_inv | apply inv_ite)) | (intro _) | split)

theorem State.ctxRequest_inv (s : State) (hc : HubCtx) (act : State) (hI : s.Inv) (hI1 : act.Inv) : (State.ctxRequest s hc act).Inv := by
  unfold State.ctxRequest
  repeat' (first | (with_reducible (first | assumption | apply State.reply_inv | apply inv_ite)) | split)

theorem State.rootChgWith_inv (s : State) (hc : HubCtx) (n : Nat) (f : BitVec 16 → BitVec 16) (hI : s.Inv) : (State.rootChgWith s hc n f).Inv := by
  unfold State.rootChgWith
  try dsimp only
  repeat' (first | (with_reducible (first | assumption | apply State.hubWith_inv | apply inv_ite | apply inv_dite)) | (intro _) | split)

theorem State.rootPortReset_inv (s : State) (hc : HubCtx) (n : Nat) (hI : s.Inv) : (State.rootPortReset s hc n).Inv := by
  unfold State.rootPortReset
  try dsimp only
  repeat' (first | (with_reducible (first | assumption | apply State.fnReset_inv | apply State.ctxResetOne_inv | apply State.rootChgWith_inv | apply inv_ite | apply inv_dite | refine inv_foldl (fun _ _ _ => ?_) ?_ | refine inv_foldl_snd (fun _ _ _ => ?_) ?_ | refine inv_foldl_fst (fun _ _ _ => ?_) ?_ | refine inv_foldl_fst2 (fun _ _ _ => ?_) ?_)) | (intro _) | split | (refine inv_of_snd (by with_reducible assumption) ?_) | (refine inv_of_snd2 (by with_reducible assumption) ?_) | (refine inv_of_snd3 (by with_reducible assumption) ?_) | (refine inv_of_fst (by with_reducible assumption) ?_))

theorem State.tripped_inv (s : State) (p : Port) (hI : s.Inv) : (State.tripped s p).2.Inv := by
  unfold State.tripped
  repeat' (first | (with_reducible (first | assumption | apply State.free_inv | apply inv_ite)) | split)

theorem State.portAct_inv (s : State) (hc : HubCtx) (n : Nat) (dev : State → Port → Bool → State) (internal : State) (hf0 : ∀ x0 x1 x2, x0.Inv → (dev x0 x1 x2).Inv) (hI : s.Inv) (hI1 : internal.Inv) : (State.portAct s hc n dev internal).Inv := by
  unfold State.portAct
  try dsimp only
  repeat' (first | (with_reducible (first | assumption | apply hf0 | apply State.reply_inv | refine State.portRequest_inv _ _ _ _ _ (fun _ _ => ?_) ?_ ?_ | apply State.tripped_inv | apply inv_ite)) | (intro _) | split)

theorem execSetPortReset_inv (hc : HubCtx) (n : Nat) (s : State) (hI : s.Inv) : State.InvO (execSetPortReset hc n s) := by
  unfold execSetPortReset
  try dsimp only
  repeat' (first | (with_reducible (first | assumption | apply State.reply_inv | apply State.u2pWith_inv | apply State.startReset_inv | apply State.rootPortReset_inv | refine State.portAct_inv _ _ _ _ _ (fun _ _ _ _ => ?_) ?_ ?_ | apply State.invO_next | apply inv_ite | apply invO_ite)) | (intro _) | split)

theorem execSetPortSuspend_inv (hc : HubCtx) (n : Nat) (s : State) (hI : s.Inv) : State.InvO (execSetPortSuspend hc n s) := by
  unfold execSetPortSuspend
  try dsimp only
  repeat' (first | (with_reducible (first | assumption | apply State.reply_inv | apply State.raisePort_inv | apply State.setU2_inv | refine State.portAct_inv _ _ _ _ _ (fun _ _ _ _ => ?_) ?_ ?_ | apply State.invO_next | apply inv_ite | apply invO_ite)) | (intro _) | split)

theorem execClearPortSuspend_inv (hc : HubCtx) (n : Nat) (s : State) (hI : s.Inv) : State.InvO (execClearPortSuspend hc n s) := by
  unfold execClearPortSuspend
  try dsimp only
  repeat' (first | (with_reducible (first | assumption | apply State.reply_inv | apply State.startResume_inv | apply State.mergeResume_inv | refine State.portAct_inv _ _ _ _ _ (fun _ _ _ _ => ?_) ?_ ?_ | apply State.invO_next | apply inv_ite | apply invO_ite)) | (intro _) | split)

theorem execClearPortEnable_inv (hc : HubCtx) (n : Nat) (s : State) (hI : s.Inv) : State.InvO (execClearPortEnable hc n s) := by
  unfold execClearPortEnable
  try dsimp only
  repeat' (first | (with_reducible (first | assumption | apply State.reply_inv | apply State.u2Disable_inv | refine State.portAct_inv _ _ _ _ _ (fun _ _ _ _ => ?_) ?_ ?_ | apply State.invO_next | apply inv_ite | apply invO_ite)) | (intro _) | split)

theorem execSetPortPower_inv (hc : HubCtx) (n : Nat) (s : State) (hI : s.Inv) : State.InvO (execSetPortPower hc n s) := by
  unfold execSetPortPower
  try dsimp only
  repeat' (first | (with_reducible (first | assumption | apply State.reply_inv | apply State.setHostPower_inv | refine State.portAct_inv _ _ _ _ _ (fun _ _ _ _ => ?_) ?_ ?_ | apply State.invO_next)) | (intro _))

theorem execClearPortPower_inv (hc : HubCtx) (n : Nat) (s : State) (hI : s.Inv) : State.InvO (execClearPortPower hc n s) := by
  unfold execClearPortPower
  try dsimp only
  repeat' (first | (with_reducible (first | assumption | apply State.reply_inv | apply State.clearHostPower_inv | refine State.portAct_inv _ _ _ _ _ (fun _ _ _ _ => ?_) ?_ ?_ | apply State.invO_next)) | (intro _))

theorem execSetPortTest_inv (hc : HubCtx) (n sel : Nat) (s : State) (hI : s.Inv) : State.InvO (execSetPortTest hc n sel s) := by
  unfold execSetPortTest
  try dsimp only
  repeat' (first | (with_reducible (first | assumption | apply State.put_inv | apply State.reply_inv | apply State.setU2_inv | refine State.portAct_inv _ _ _ _ _ (fun _ _ _ _ => ?_) ?_ ?_ | apply State.invO_next | apply inv_ite | apply invO_ite)) | (intro _) | split)

theorem execSetAndTestPortL1_inv (hc : HubCtx) (n : Nat) (_addr : BitVec 7) (hird : BitVec 4) (rwe : Bool) (s : State) (hI : s.Inv) : State.InvO (execSetAndTestPortL1 hc n _addr hird rwe s) := by
  unfold execSetAndTestPortL1
  try dsimp only
  repeat' (first | (with_reducible (first | assumption | apply State.reply_inv | apply State.u2pWith_inv | refine State.portAct_inv _ _ _ _ _ (fun _ _ _ _ => ?_) ?_ ?_ | apply State.invO_next | apply inv_ite | apply invO_ite)) | (intro _) | split | (refine inv_of_snd (by with_reducible assumption) ?_))

theorem execLpmAnswer_inv (p : Port) (ans : LpmAnswer) (s : State) (hI : s.Inv) : State.InvO (execLpmAnswer p ans s) := by
  unfold execLpmAnswer
  try dsimp only
  repeat' (first | (with_reducible (first | assumption | apply State.put_inv | apply State.setFlag_inv | apply State.count_inv | apply State.reply_inv | apply State.raisePort_inv | apply State.u2pWith_inv | apply State.setU2_inv | apply State.invO_next)) | (intro _) | split | (refine inv_of_snd (by with_reducible assumption) ?_))

theorem execClearPortL1_inv (hc : HubCtx) (n : Nat) (s : State) (hI : s.Inv) : State.InvO (execClearPortL1 hc n s) := by
  unfold execClearPortL1
  try dsimp only
  repeat' (first | (with_reducible (first | assumption | apply State.reply_inv | apply State.startResume_inv | apply State.mergeResume_inv | refine State.portAct_inv _ _ _ _ _ (fun _ _ _ _ => ?_) ?_ ?_ | apply State.invO_next | apply inv_ite | apply invO_ite)) | (intro _) | split)

theorem execClearChangeBit_inv (hc : HubCtx) (n sel : Nat) (s : State) (hI : s.Inv) : State.InvO (execClearChangeBit hc n sel s) := by
  unfold execClearChangeBit
  try dsimp only
  repeat' (first | (with_reducible (first | assumption | apply State.reply_inv | apply State.u2pWith_inv | apply State.ctxRequest_inv | apply State.rootChgWith_inv | refine State.portAct_inv _ _ _ _ _ (fun _ _ _ _ => ?_) ?_ ?_ | apply State.invO_next)) | (intro _) | split)

theorem execGetPortStatus_inv (hc : HubCtx) (n : Nat) (s : State) (hI : s.Inv) : State.InvO (execGetPortStatus hc n s) := by
  unfold execGetPortStatus
  try dsimp only
  repeat' (first | (with_reducible (first | assumption | apply State.reply_inv | refine State.portRequest_inv _ _ _ _ _ (fun _ _ => ?_) ?_ ?_ | apply State.invO_next)) | (intro _))

theorem State.hubDescriptor_inv (s : State) (hc : HubCtx) (hI : s.Inv) : (State.hubDescriptor s hc).2.Inv := by
  unfold State.hubDescriptor
  try dsimp -iota only
  repeat' (first | split | (with_reducible (first | assumption | apply State.free_inv | apply inv_ite | refine inv_foldl (fun _ _ _ => ?_) ?_ | refine inv_foldl_snd (fun _ _ _ => ?_) ?_ | refine inv_foldl_fst (fun _ _ _ => ?_) ?_ | refine inv_foldl_fst2 (fun _ _ _ => ?_) ?_)) | (intro _) | (refine inv_of_snd (by with_reducible assumption) ?_))

theorem execSetInterface_inv (hc : HubCtx) (alt : Nat) (s : State) (hI : s.Inv) : State.InvO (execSetInterface hc alt s) := by
  unfold execSetInterface
  try dsimp only
  repeat' (first | (with_reducible (first | assumption | apply State.reply_inv | apply State.hubWith_inv | apply State.ctxRequest_inv | apply State.invO_next | apply inv_ite | apply invO_ite)) | (intro _) | split)

theorem State.hubConfigure_inv (s : State) (hc : HubCtx) (cfg : Nat) (hI : s.Inv) : (State.hubConfigure s hc cfg).Inv := by
  unfold State.hubConfigure
  try dsimp only
  repeat' (first | (with_reducible (first | assumption | apply State.reply_inv | apply State.hubWith_inv | apply State.cptSeen_inv | apply State.fbForget_inv | apply State.ctxRequest_inv | apply inv_ite)) | (intro _) | split)

theorem State.hubPoll_inv (s : State) (hc : HubCtx) (hI : s.Inv) : (State.hubPoll s hc).Inv := by
  unfold State.hubPoll
  try dsimp only
  repeat' (first | (with_reducible (first | assumption | apply State.reply_inv | apply State.ctxRequest_inv | apply inv_ite)) | (intro _) | split)

theorem State.countU2_inv (s : State) (k : Plate) (n : Nat) (hI : s.Inv) : (State.countU2 s k n).Inv := by
  unfold State.countU2
  try dsimp only
  repeat' (with_reducible (first | assumption | apply State.put_inv))

theorem State.repeatDown_inv (s : State) (ps : List Port) (payload : Nat) (hI : s.Inv) : (State.repeatDown s ps payload).Inv := by
  unfold State.repeatDown
  try dsimp only
  repeat' (first | (with_reducible (first | assumption | apply State.reply_inv | apply State.countU2_inv | apply inv_ite | refine inv_foldl (fun _ _ _ => ?_) ?_)) | (intro _) | split)

end Sys2Proof.Machine
end

