-- ==== Sys2Proof/Laws/InvPrsMove.lean ====
section
/-! SUPPORT. What the definitions of Machine/PrsMove.lean keep: each one leaves the invariant of Safety.lean as it was. -/

namespace Sys2Proof.Machine

set_option linter.unreachableTactic false
set_option linter.unusedTactic false

theorem State.setMoveCause_inv (s : State) (p : Port) (cause : Fin 5) (hI : s.Inv) : (State.setMoveCause s p cause).Inv := by
  unfold State.setMoveCause
  try dsimp only
  repeat' (first | (with_reducible (first | assumption)) | (with_reducible apply State.Inv.set_moveCause))

theorem State.setBegun_inv (s : State) (p : Port) (b : Bool) (hI : s.Inv) : (State.setBegun s p b).Inv := by
  unfold State.setBegun
  try dsimp only
  repeat' (first | (with_reducible (first | assumption | apply inv_ite)) | split | (with_reducible apply State.Inv.set_moveBegun))

theorem State.batchEnd_inv (s : State) (u : Up) (hI : s.Inv) : (State.batchEnd s u).Inv := by
  unfold State.batchEnd
  try dsimp only
  repeat' (first | (with_reducible (first | assumption | apply State.presWith_inv | apply State.maskWake_inv | apply State.propagate_inv | apply inv_ite | refine inv_foldl (fun _ _ _ => ?_) ?_)) | (intro _) | split)

theorem State.batchesEnd_inv (s : State) (hI : s.Inv) : (State.batchesEnd s).Inv := by
  unfold State.batchesEnd
  repeat' (with_reducible (first | assumption | apply State.batchEnd_inv))

theorem State.moveCancel_inv (s : State) (p : Port) (hI : s.Inv) : (State.moveCancel s p).Inv := by
  unfold State.moveCancel
  try dsimp only
  repeat' (first | (with_reducible (first | assumption | apply State.put_inv | apply State.putRw_inv | apply State.presWith_inv | apply State.setBegun_inv | apply State.batchesEnd_inv | apply inv_ite | refine inv_foldl (fun _ _ _ => ?_) ?_ | refine inv_foldl_snd (fun _ _ _ => ?_) ?_ | refine inv_foldl_fst (fun _ _ _ => ?_) ?_ | refine inv_foldl_fst2 (fun _ _ _ => ?_) ?_)) | (intro _) | split)

theorem State.moveDecide_inv (s : State) (p : Port) (cause : Fin 5) (hI : s.Inv) : (State.moveDecide s p cause).Inv := by
  unfold State.moveDecide
  try dsimp only
  repeat' (first | (with_reducible (first | assumption | apply State.put_inv | apply State.setMoveCause_inv | apply State.setBegun_inv | apply State.moveCancel_inv | apply inv_ite)) | split)

theorem State.moveRequest_inv (s : State) (p : Port) (v : Nat) (cause : Fin 5) (hI : s.Inv) : (State.moveRequest s p v cause).Inv := by
  unfold State.moveRequest
  repeat' (first | (with_reducible (first | assumption | apply State.putRw_inv | apply State.moveDecide_inv | apply inv_ite)) | split)

end Sys2Proof.Machine
end

