-- ==== Sys2Proof/Laws/InvSsHub.lean ====
section
/-! SUPPORT. What the definitions of Machine/SsHub.lean keep: each one leaves the invariant of Safety.lean as it was. -/

namespace Sys2Proof.Machine

set_option linter.unreachableTactic false
set_option linter.unusedTactic false

theorem State.setUpState_inv (s : State) (u : Up) (v : Nat) (hI : s.Inv) : (State.setUpState s u v).Inv := by
  unfold State.setUpState
  repeat' (with_reducible (first | assumption | apply State.put_inv))

theorem State.ssRequest_inv (s : State) (sc : SsCtx) (n : Nat) (dev : Full → Bool → State) (root : State) (hf0 : ∀ x0 x1, (dev x0 x1).Inv) (hI : s.Inv) (hI1 : root.Inv) : (State.ssRequest s sc n dev root).Inv := by
  unfold State.ssRequest
  try dsimp only
  repeat' (first | (with_reducible (first | assumption | apply hf0 | apply State.reply_inv | apply inv_ite)) | (intro _) | split)

theorem State.ssOwned_inv (s : State) (sc : SsCtx) (n : Nat) (act : Full → State) (hf0 : ∀ x0, (act x0).Inv) (hI : s.Inv) : (State.ssOwned s sc n act).Inv := by
  unfold State.ssOwned
  try dsimp only
  repeat' (first | (with_reducible (first | assumption | apply hf0 | apply State.reply_inv | refine State.ssRequest_inv _ _ _ _ _ (fun _ _ => ?_) ?_ ?_ | apply inv_ite)) | (intro _) | split)

theorem State.routeDrop_inv (s : State) (k : Plate) (n : Nat) (hI : s.Inv) : (State.routeDrop s k n).Inv := by
  unfold State.routeDrop
  repeat' (with_reducible (first | assumption | apply State.countBy_inv))

theorem execRxDetect_inv (f : Full) (found : Bool) (s : State) (hI : s.Inv) : State.InvO (execRxDetect f found s) := by
  unfold execRxDetect
  repeat' (first | (with_reducible (first | assumption | apply State.setLink_inv | apply State.invO_next | apply inv_ite | apply invO_ite)) | split)

theorem State.ssLinkUp_inv (s : State) (f : Full) (gen2 : Bool) (hI : s.Inv) : (State.ssLinkUp s f gen2).Inv := by
  unfold State.ssLinkUp
  try dsimp only
  repeat' (first | (with_reducible (first | assumption | apply State.setFlag_inv | apply State.raisePort_inv | apply State.sspWith_inv | apply State.setLink_inv | apply State.addSsChg_inv | apply State.maskWake_inv | apply inv_ite)) | (intro _) | split | (refine inv_of_snd (by with_reducible assumption) ?_))

theorem execLinkU0_inv (f : Full) (gen2 : Bool) (s : State) (hI : s.Inv) : State.InvO (execLinkU0 f gen2 s) := by
  unfold execLinkU0
  try dsimp only
  repeat' (first | (with_reducible (first | assumption | apply State.sspWith_inv | apply State.setLink_inv | apply State.addSsChg_inv | apply State.ssLinkUp_inv | apply State.invO_next | apply inv_ite | apply invO_ite)) | (intro _) | split)

theorem State.ssGiveUp_inv (s : State) (f : Full) (hI : s.Inv) : (State.ssGiveUp s f).Inv := by
  unfold State.ssGiveUp
  try dsimp only
  repeat' (first | (with_reducible (first | assumption | apply State.put_inv | apply State.raisePort_inv | apply State.sspWith_inv | apply State.ssLeave_inv)) | (intro _))

theorem execPollingFail_inv (f : Full) (config : Bool) (s : State) (hI : s.Inv) : State.InvO (execPollingFail f config s) := by
  unfold execPollingFail
  try dsimp only
  repeat' (first | (with_reducible (first | assumption | apply State.sspWith_inv | apply State.countErr_inv | apply State.setLink_inv | apply State.addSsChg_inv | apply State.ssGiveUp_inv | apply State.invO_next | apply inv_ite | apply invO_ite)) | (intro _) | split)

theorem State.ssRecovery_inv (s : State) (f : Full) (symbols crcs retries : Nat) (hI : s.Inv) : (State.ssRecovery s f symbols crcs retries).Inv := by
  unfold State.ssRecovery
  try dsimp only
  repeat' (first | (with_reducible (first | assumption | apply State.put_inv | apply State.countBy_inv | apply State.raisePort_inv | apply State.sspWith_inv | apply State.countErr_inv | apply State.setLink_inv | apply State.marginLost_inv | apply State.ssDetect_inv | apply inv_ite)) | (intro _) | split)

theorem State.upRecovery_inv (s : State) (u : Up) (symbols crcs retries : Nat) (hI : s.Inv) : (State.upRecovery s u symbols crcs retries).Inv := by
  unfold State.upRecovery
  try dsimp only
  repeat' (first | (with_reducible (first | assumption | apply State.countBy_inv | apply State.count_inv | apply State.raisePres_inv | apply State.upLkWith_inv | apply State.setUpState_inv | apply inv_ite)) | (intro _) | split)

theorem execLinkRecovery_inv (lk : SsLink) (symbols : Nat) (hdrs : HdrErrs) (s : State) (hI : s.Inv) : State.InvO (execLinkRecovery lk symbols hdrs s) := by
  unfold execLinkRecovery
  try dsimp only
  repeat' (first | (with_reducible (first | assumption | apply State.ssRecovery_inv | apply State.upRecovery_inv | apply State.invO_next | apply inv_ite | apply invO_ite)) | split)

theorem execSsInactive_inv (f : Full) (s : State) (hI : s.Inv) : State.InvO (execSsInactive f s) := by
  unfold execSsInactive
  try dsimp only
  repeat' (first | (with_reducible (first | assumption | apply State.raisePort_inv | apply State.sspWith_inv | apply State.devLost_inv | apply State.setLink_inv | apply State.addSsChg_inv | apply State.ssDiscard_inv | apply State.invO_next | apply inv_ite | apply invO_ite)) | (intro _) | split)

theorem State.ssWarm_inv (s : State) (f : Full) (portReset : Bool) (hI : s.Inv) : (State.ssWarm s f portReset).Inv := by
  unfold State.ssWarm
  try dsimp only
  repeat' (first | (with_reducible (first | assumption | apply State.put_inv | apply State.count_inv | apply State.raisePort_inv | apply State.sspWith_inv | apply State.setLink_inv | apply State.ssDiscard_inv | apply State.marginLost_inv | apply State.ssEndCompliance_inv | apply inv_ite)) | (intro _) | split)

theorem State.ssHot_inv (s : State) (f : Full) (hI : s.Inv) : (State.ssHot s f).Inv := by
  unfold State.ssHot
  try dsimp only
  repeat' (first | (with_reducible (first | assumption | apply State.put_inv | apply State.count_inv | apply State.sspWith_inv | apply State.setLink_inv | apply State.marginLost_inv)) | (intro _))

theorem State.ssOwe_inv (s : State) (f : Full) (c : Fin 2) (b : Nat) (hI : s.Inv) : (State.ssOwe s f c b).Inv := by
  unfold State.ssOwe
  try dsimp only
  repeat' (first | (with_reducible (first | assumption | apply State.sspWith_inv)) | (intro _))

theorem execSsPortReset_inv (sc : SsCtx) (n : Nat) (s : State) (hI : s.Inv) : State.InvO (execSsPortReset sc n s) := by
  unfold execSsPortReset
  try dsimp only
  repeat' (first | (with_reducible (first | assumption | apply State.reply_inv | apply State.fnReset_inv | refine State.ssRequest_inv _ _ _ _ _ (fun _ _ => ?_) ?_ ?_ | apply State.ssWarm_inv | apply State.ssHot_inv | apply State.ssOwe_inv | apply State.invO_next | apply inv_ite | apply invO_ite)) | (intro _) | split)

theorem State.ssClearFallback_inv (s : State) (f : Full) (hI : s.Inv) : (State.ssClearFallback s f).Inv := by
  unfold State.ssClearFallback
  try dsimp only
  repeat' (first | (with_reducible (first | assumption | apply State.put_inv | apply State.sspWith_inv)) | (intro _))

theorem execBhPortReset_inv (sc : SsCtx) (n : Nat) (s : State) (hI : s.Inv) : State.InvO (execBhPortReset sc n s) := by
  unfold execBhPortReset
  try dsimp only
  repeat' (first | (with_reducible (first | assumption | apply State.reply_inv | apply State.ssEval_inv | apply State.fnReset_inv | refine State.ssRequest_inv _ _ _ _ _ (fun _ _ => ?_) ?_ ?_ | apply State.ssWarm_inv | apply State.ssOwe_inv | apply State.ssClearFallback_inv | apply State.invO_next | apply inv_ite | apply invO_ite)) | (intro _) | split)

theorem State.ssPayView_inv (s : State) (f : Full) (c : Fin 2) (bh : Bool) (hI : s.Inv) : (State.ssPayView s f c bh).Inv := by
  unfold State.ssPayView
  try dsimp only
  repeat' (first | split | (with_reducible (first | assumption | apply State.sspWith_inv | apply inv_ite)) | (intro _) | (refine inv_of_snd (by with_reducible assumption) ?_))

theorem execSsResetEnd_inv (f : Full) (out : ResetOutcome) (s : State) (hI : s.Inv) : State.InvO (execSsResetEnd f out s) := by
  unfold execSsResetEnd
  try dsimp only
  repeat' (first | (with_reducible (first | assumption | apply State.sspWith_inv | apply State.setLink_inv | apply State.addSsChg_inv | apply State.ssLinkUp_inv | apply State.ssWarm_inv | apply State.ssPayView_inv | apply State.invO_next | apply inv_ite | apply invO_ite)) | (intro _) | split)

theorem State.ssResetPort_inv (s : State) (k : Plate) (c : Fin 2) (j : Fin 4) (hI : s.Inv) : (State.ssResetPort s k c j).Inv := by
  unfold State.ssResetPort
  try dsimp only
  repeat' (first | split | (with_reducible (first | assumption | apply State.u2pWith_inv | apply State.sspWith_inv | apply State.ssHubWith_inv | apply State.ssDiscard_inv | apply State.ssLeave_inv | apply State.hostPower_inv | apply inv_ite | apply inv_dite)) | (intro _) | (refine inv_of_snd (by with_reducible assumption) ?_))

theorem State.ssCtxResetOne_inv (s : State) (k : Plate) (c : Fin 2) (hI : s.Inv) : (State.ssCtxResetOne s k c).Inv := by
  unfold State.ssCtxResetOne
  try dsimp only
  repeat' (first | (with_reducible (first | assumption | apply State.upLkWith_inv | apply State.ssHubWith_inv | apply State.routeDrop_inv | apply State.ssResetPort_inv | refine inv_foldl (fun _ _ _ => ?_) ?_ | refine inv_foldl_snd (fun _ _ _ => ?_) ?_ | refine inv_foldl_fst (fun _ _ _ => ?_) ?_ | refine inv_foldl_fst2 (fun _ _ _ => ?_) ?_)) | (intro _))

theorem State.ssPresReset_inv (s : State) (u : Up) (kind : Nat) (hI : s.Inv) : (State.ssPresReset s u kind).Inv := by
  unfold State.ssPresReset
  try dsimp only
  repeat' (first | (with_reducible (first | assumption | apply State.upLkWith_inv | apply State.ssHubWith_inv | apply State.fnReset_inv | apply State.ssCtxResetOne_inv | refine inv_foldl (fun _ _ _ => ?_) ?_)) | (intro _))

theorem execUpstreamLinkTrained_inv (u : Up) (res : UpTrain) (s : State) (hI : s.Inv) : State.InvO (execUpstreamLinkTrained u res s) := by
  unfold execUpstreamLinkTrained
  try dsimp only
  repeat' (first | (with_reducible (first | assumption | apply State.put_inv | apply State.setFlag_inv | apply State.raisePres_inv | apply State.upLkWith_inv | apply State.setUpState_inv | apply State.ssPresReset_inv | apply State.invO_next | apply inv_ite | apply invO_ite)) | (intro _) | split)

theorem execSsContextReset_inv (u : Up) (warm : Bool) (s : State) (hI : s.Inv) : State.InvO (execSsContextReset u warm s) := by
  unfold execSsContextReset
  repeat' (first | (with_reducible (first | assumption | apply State.setUpState_inv | apply State.ssPresReset_inv | apply State.invO_next | apply inv_ite | apply invO_ite)) | split)

theorem State.ssMerged_inv (s : State) (f : Full) (hI : s.Inv) : (State.ssMerged s f).Inv := by
  unfold State.ssMerged
  try dsimp only
  repeat' (first | (with_reducible (first | assumption | apply State.raisePres_inv)) | split)

theorem execSetLinkStateU3_inv (sc : SsCtx) (n : Nat) (s : State) (hI : s.Inv) : State.InvO (execSetLinkStateU3 sc n s) := by
  unfold execSetLinkStateU3
  try dsimp only
  repeat' (first | (with_reducible (first | assumption | apply State.setLink_inv | apply State.marginLost_inv | refine State.ssOwned_inv _ _ _ _ (fun _ => ?_) ?_ | apply State.invO_next | apply inv_ite | apply invO_ite)) | (intro _) | split)

theorem execSetLinkStateU0_inv (sc : SsCtx) (n : Nat) (s : State) (hI : s.Inv) : State.InvO (execSetLinkStateU0 sc n s) := by
  unfold execSetLinkStateU0
  try dsimp only
  repeat' (first | (with_reducible (first | assumption | apply State.sspWith_inv | refine State.ssOwned_inv _ _ _ _ (fun _ => ?_) ?_ | apply State.ssMerged_inv | apply State.invO_next | apply inv_ite | apply invO_ite)) | (intro _) | split)

theorem execSetLinkStateDisabled_inv (sc : SsCtx) (n : Nat) (s : State) (hI : s.Inv) : State.InvO (execSetLinkStateDisabled sc n s) := by
  unfold execSetLinkStateDisabled
  try dsimp only
  repeat' (first | (with_reducible (first | assumption | apply State.sspWith_inv | apply State.ssEval_inv | refine State.ssOwned_inv _ _ _ _ (fun _ => ?_) ?_ | apply State.invO_next)) | (intro _))

theorem execSetLinkStateRxDetect_inv (sc : SsCtx) (n : Nat) (s : State) (hI : s.Inv) : State.InvO (execSetLinkStateRxDetect sc n s) := by
  unfold execSetLinkStateRxDetect
  try dsimp only
  repeat' (first | (with_reducible (first | assumption | apply State.sspWith_inv | apply State.ssDetect_inv | refine State.ssOwned_inv _ _ _ _ (fun _ => ?_) ?_ | apply State.ssClearFallback_inv | apply State.invO_next | apply inv_ite | apply invO_ite)) | (intro _) | split)

theorem State.setSsPower_inv (s : State) (k : Plate) (c : Fin 2) (f : Full) (b : Bool) (hI : s.Inv) : (State.setSsPower s k c f b).Inv := by
  unfold State.setSsPower
  try dsimp only
  repeat' (first | (with_reducible (first | assumption | apply State.u2pWith_inv | apply State.ssHubWith_inv | apply inv_ite)) | (intro _) | split)

theorem execSsSetPortPower_inv (sc : SsCtx) (n : Nat) (s : State) (hI : s.Inv) : State.InvO (execSsSetPortPower sc n s) := by
  unfold execSsSetPortPower
  try dsimp only
  repeat' (first | (with_reducible (first | assumption | apply State.reply_inv | apply State.ssEval_inv | apply State.hostPower_inv | refine State.ssRequest_inv _ _ _ _ _ (fun _ _ => ?_) ?_ ?_ | apply State.setSsPower_inv | apply State.invO_next | apply inv_ite | apply invO_ite)) | (intro _) | split)

theorem execSsClearPortPower_inv (sc : SsCtx) (n : Nat) (s : State) (hI : s.Inv) : State.InvO (execSsClearPortPower sc n s) := by
  unfold execSsClearPortPower
  try dsimp only
  repeat' (first | (with_reducible (first | assumption | apply State.reply_inv | apply State.ssEval_inv | apply State.hostPower_inv | refine State.ssRequest_inv _ _ _ _ _ (fun _ _ => ?_) ?_ ?_ | apply State.setSsPower_inv | apply State.invO_next | apply inv_ite | apply invO_ite)) | (intro _) | split)

theorem execSetPortU1Timeout_inv (sc : SsCtx) (n : Nat) (v : Byte) (s : State) (hI : s.Inv) : State.InvO (execSetPortU1Timeout sc n v s) := by
  unfold execSetPortU1Timeout
  try dsimp only
  repeat' (first | (with_reducible (first | assumption | apply State.put_inv | refine State.ssOwned_inv _ _ _ _ (fun _ => ?_) ?_ | apply State.invO_next | apply inv_ite | apply invO_ite)) | (intro _) | split)

theorem execSetPortU2Timeout_inv (sc : SsCtx) (n : Nat) (v : Byte) (s : State) (hI : s.Inv) : State.InvO (execSetPortU2Timeout sc n v s) := by
  unfold execSetPortU2Timeout
  try dsimp only
  repeat' (first | (with_reducible (first | assumption | apply State.put_inv | apply State.sspWith_inv | refine State.ssOwned_inv _ _ _ _ (fun _ => ?_) ?_ | apply State.invO_next | apply inv_ite | apply invO_ite)) | (intro _) | split)

theorem execSetRemoteWakeMask_inv (sc : SsCtx) (n : Nat) (v : Byte) (s : State) (hI : s.Inv) : State.InvO (execSetRemoteWakeMask sc n v s) := by
  unfold execSetRemoteWakeMask
  try dsimp only
  repeat' (first | (with_reducible (first | assumption | apply State.put_inv | refine State.ssOwned_inv _ _ _ _ (fun _ => ?_) ?_ | apply State.invO_next)) | (intro _))

theorem execSetForceLinkpmAccept_inv (sc : SsCtx) (n : Nat) (s : State) (hI : s.Inv) : State.InvO (execSetForceLinkpmAccept sc n s) := by
  unfold execSetForceLinkpmAccept
  try dsimp only
  repeat' (first | (with_reducible (first | assumption | apply State.put_inv | refine State.ssOwned_inv _ _ _ _ (fun _ => ?_) ?_ | apply State.invO_next)) | (intro _))

theorem execSetHubDepth_inv (sc : SsCtx) (depth : Nat) (s : State) (hI : s.Inv) : State.InvO (execSetHubDepth sc depth s) := by
  unfold execSetHubDepth
  try dsimp only
  repeat' (first | (with_reducible (first | assumption | apply State.reply_inv | apply State.ssHubWith_inv | apply State.invO_next | apply inv_ite | apply invO_ite | apply inv_dite)) | (intro _) | split)

theorem execGetPortErrorCount_inv (sc : SsCtx) (n : Nat) (s : State) (hI : s.Inv) : State.InvO (execGetPortErrorCount sc n s) := by
  unfold execGetPortErrorCount
  try dsimp only
  repeat' (first | (with_reducible (first | assumption | apply State.reply_inv | refine State.ssRequest_inv _ _ _ _ _ (fun _ _ => ?_) ?_ ?_ | apply State.invO_next | apply inv_ite | apply invO_ite)) | (intro _) | split)

theorem execSsGetPortStatus_inv (sc : SsCtx) (n : Nat) (ext : Bool) (s : State) (hI : s.Inv) : State.InvO (execSsGetPortStatus sc n ext s) := by
  unfold execSsGetPortStatus
  try dsimp only
  repeat' (first | (with_reducible (first | assumption | apply State.reply_inv | refine State.ssRequest_inv _ _ _ _ _ (fun _ _ => ?_) ?_ ?_ | apply State.invO_next | apply inv_ite | apply invO_ite)) | (intro _) | split)

theorem execSsClearChangeBit_inv (sc : SsCtx) (n sel : Nat) (s : State) (hI : s.Inv) : State.InvO (execSsClearChangeBit sc n sel s) := by
  unfold execSsClearChangeBit
  try dsimp only
  repeat' (first | (with_reducible (first | assumption | apply State.put_inv | apply State.reply_inv | apply State.sspWith_inv | apply State.ssHubWith_inv | refine State.ssRequest_inv _ _ _ _ _ (fun _ _ => ?_) ?_ ?_ | refine State.ssOwned_inv _ _ _ _ (fun _ => ?_) ?_ | apply State.invO_next | apply inv_ite | apply invO_ite | apply inv_dite)) | (intro _) | split)

theorem execU1Inactivity_inv (lk : SsLink) (u2 : Bool) (s : State) (hI : s.Inv) : State.InvO (execU1Inactivity lk u2 s) := by
  unfold execU1Inactivity
  try dsimp only
  repeat' (first | (with_reducible (first | assumption | apply State.setLink_inv | apply State.setUpState_inv | apply State.invO_next | apply inv_ite | apply invO_ite)) | split)

theorem execLgoUx_inv (lk : SsLink) (u2 : Bool) (s : State) (hI : s.Inv) : State.InvO (execLgoUx lk u2 s) := by
  unfold execLgoUx
  try dsimp only
  repeat' (first | (with_reducible (first | assumption | apply State.reply_inv | apply State.setLink_inv | apply State.setUpState_inv | apply State.invO_next | apply inv_ite | apply invO_ite)) | split)

theorem State.ssExit_inv (s : State) (f : Full) (hI : s.Inv) : (State.ssExit s f).Inv := by
  unfold State.ssExit
  try dsimp only
  repeat' (first | (with_reducible (first | assumption | apply State.sspWith_inv | apply State.setLink_inv | apply State.addSsChg_inv | apply State.ssMerged_inv | apply inv_ite)) | (intro _) | split)

theorem execSsRemoteWake_inv (f : Full) (s : State) (hI : s.Inv) : State.InvO (execSsRemoteWake f s) := by
  unfold execSsRemoteWake
  try dsimp only
  repeat' (first | (with_reducible (first | assumption | apply State.upWake_inv | apply State.ssExit_inv | apply State.invO_next | apply inv_ite | apply invO_ite)) | split)

theorem State.ssSuspendAll_inv (s : State) (u : Up) (b : Bool) (hI : s.Inv) : (State.ssSuspendAll s u b).Inv := by
  unfold State.ssSuspendAll
  try dsimp only
  repeat' (first | (with_reducible (first | assumption | apply State.ssHubWith_inv | apply State.fnSuspend_inv | refine inv_foldl (fun _ _ _ => ?_) ?_)) | (intro _))

theorem execLgoU3_inv (u : Up) (s : State) (hI : s.Inv) : State.InvO (execLgoU3 u s) := by
  unfold execLgoU3
  repeat' (first | (with_reducible (first | assumption | apply State.setUpState_inv | apply State.ssSuspendAll_inv | apply State.invO_next | apply inv_ite | apply invO_ite)) | split)

theorem State.exitMerge_inv (s : State) (u : Up) (device : Option Full) (hI : s.Inv) : (State.exitMerge s u device).Inv := by
  unfold State.exitMerge
  try dsimp only
  repeat' (first | (with_reducible (first | assumption | apply State.ssMerged_inv | apply State.ssExit_inv | apply inv_ite)) | split)

theorem execUpstreamExitLfps_inv (at_ : ExitAt) (s : State) (hI : s.Inv) : State.InvO (execUpstreamExitLfps at_ s) := by
  unfold execUpstreamExitLfps
  try dsimp only
  repeat' (first | (with_reducible (first | assumption | apply State.upLkWith_inv | apply State.setUpState_inv | apply State.ssSuspendAll_inv | apply State.exitMerge_inv | apply State.invO_next | apply inv_ite | apply invO_ite)) | (intro _) | split)

theorem execU1U2Enable_inv (sc : SsCtx) (u2 set : Bool) (s : State) (hI : s.Inv) : State.InvO (execU1U2Enable sc u2 set s) := by
  unfold execU1U2Enable
  try dsimp only
  repeat' (first | (with_reducible (first | assumption | apply State.reply_inv | apply State.ssHubWith_inv | apply State.invO_next | apply inv_ite | apply invO_ite)) | (intro _) | split)

theorem State.ssConfigure_inv (s : State) (sc : SsCtx) (cfg : Nat) (hI : s.Inv) : (State.ssConfigure s sc cfg).Inv := by
  unfold State.ssConfigure
  try dsimp only
  repeat' (first | (with_reducible (first | assumption | apply State.reply_inv | apply State.ssHubWith_inv | apply inv_ite)) | (intro _) | split)

theorem execComplianceEntry_inv (f : Full) (s : State) (hI : s.Inv) : State.InvO (execComplianceEntry f s) := by
  unfold execComplianceEntry
  try dsimp only
  repeat' (first | (with_reducible (first | assumption | apply State.raisePort_inv | apply State.sspWith_inv | apply State.ssLeave_inv | apply State.invO_next | apply inv_ite | apply invO_ite)) | (intro _) | split)

theorem State.enterCompliance_inv (s : State) (f : Full) (hI : s.Inv) : (State.enterCompliance s f).Inv := by
  unfold State.enterCompliance
  try dsimp only
  repeat' (first | (with_reducible (first | assumption | apply State.raisePort_inv | apply State.sspWith_inv | apply State.ssLeave_inv | apply inv_ite)) | (intro _) | split)

theorem State.enterLoop_inv (s : State) (f : Full) (hI : s.Inv) : (State.enterLoop s f).Inv := by
  unfold State.enterLoop
  try dsimp only
  repeat' (first | (with_reducible (first | assumption | apply State.sspWith_inv | apply State.ssLeave_inv | apply inv_ite)) | (intro _) | split)

theorem State.exitTest_inv (s : State) (f : Full) (errors : Nat) (hI : s.Inv) : (State.exitTest s f errors).Inv := by
  unfold State.exitTest
  repeat' (first | (with_reducible (first | assumption | apply State.countBy_inv | apply State.ssDetect_inv | apply inv_ite)) | split)

theorem execPingLfps_inv (f : Full) (s : State) (hI : s.Inv) : State.InvO (execPingLfps f s) := by
  unfold execPingLfps
  try dsimp only
  repeat' (first | (with_reducible (first | assumption | apply State.sspWith_inv | apply State.invO_next | apply inv_ite | apply invO_ite)) | (intro _) | split)

theorem execLoopbackEntry_inv (f : Full) (s : State) (hI : s.Inv) : State.InvO (execLoopbackEntry f s) := by
  unfold execLoopbackEntry
  repeat' (first | (with_reducible (first | assumption | apply State.ssLeave_inv | apply State.invO_next | apply inv_ite | apply invO_ite)) | split)

theorem State.marginStart_inv (s : State) (f : Full) (hI : s.Inv) : (State.marginStart s f).Inv := by
  unfold State.marginStart
  try dsimp only
  repeat' (first | (with_reducible (first | assumption | apply State.put_inv | apply State.sspWith_inv | apply inv_ite)) | (intro _) | split)

theorem execMarginEnd_inv (f : Full) (errors : Nat) (s : State) (hI : s.Inv) : State.InvO (execMarginEnd f errors s) := by
  unfold execMarginEnd
  try dsimp only
  repeat' (first | (with_reducible (first | assumption | apply State.put_inv | apply State.sspWith_inv | apply State.invO_next | apply inv_ite | apply invO_ite)) | (intro _) | split)

end Sys2Proof.Machine
end

