-- ==== Sys2Proof/Laws/InvGrv.lean ====
section
/-! SUPPORT. What the definitions of Machine/Grv.lean keep: each one leaves the invariant of Safety.lean as it was. -/

namespace Sys2Proof.Machine

set_option linter.unreachableTactic false
set_option linter.unusedTactic false

theorem State.noteBeyond_inv (s : State) (a n : Nat) (hI : s.Inv) : (State.noteBeyond s a n).Inv := by
  unfold State.noteBeyond
  repeat' (first | (with_reducible (first | assumption | apply State.count_inv | apply inv_ite)) | split)

theorem State.bufPut_inv (s : State) (a : Nat) (bs : List Byte) (h : s.Inv) : (State.bufPut s a bs).Inv := by
  induction bs generalizing s a with
  | nil => exact h
  | cons b t ih =>
    refine ih _ _ ?_
    exact { h with templates := h.templates, buffer := Sparse.put_wf h.buffer _ _ }

theorem State.grvRead_inv (s : State) (a n : Nat) (hI : s.Inv) : (State.grvRead s a n).2.Inv := by
  unfold State.grvRead
  try dsimp -iota only
  repeat' (first | split | (with_reducible (first | assumption | apply State.dramRead_inv | apply inv_ite | apply inv_dite | refine inv_foldl (fun _ _ _ => ?_) ?_ | refine inv_foldl_snd (fun _ _ _ => ?_) ?_ | refine inv_foldl_fst (fun _ _ _ => ?_) ?_ | refine inv_foldl_fst2 (fun _ _ _ => ?_) ?_)) | (intro _) | (refine inv_of_snd (by with_reducible assumption) ?_) | (refine inv_of_snd2 (by with_reducible assumption) ?_) | (refine inv_of_snd3 (by with_reducible assumption) ?_) | (refine inv_of_fst (by with_reducible assumption) ?_))

theorem State.grvWrite_inv (s : State) (a : Nat) (bs : List Byte) (hI : s.Inv) : (State.grvWrite s a bs).2.Inv := by
  unfold State.grvWrite
  try dsimp -iota only
  repeat' (first | split | (with_reducible (first | assumption | apply State.dramWrite_inv | apply State.bufPut_inv | apply inv_ite)) | (refine inv_of_snd (by with_reducible assumption) ?_))

theorem State.jobWith_inv (s : State) (id : Nat) (f : Job → Job) (hI : s.Inv) : (State.jobWith s id f).Inv := by
  unfold State.jobWith
  try dsimp only
  repeat' (first | (with_reducible (first | assumption | refine State.grvWith_inv _ _ ?_ rfl rfl | apply inv_ite)) | (intro _) | split)

theorem State.askGroup_inv (s : State) (hI : s.Inv) : (State.askGroup s).Inv := by
  unfold State.askGroup
  try dsimp only
  repeat' (first | (with_reducible (first | assumption | apply State.askLeave_inv | apply State.jobWith_inv | apply inv_ite)) | (intro _) | split)

theorem State.nextGroup_inv (s : State) (hI : s.Inv) : (State.nextGroup s).Inv := by
  unfold State.nextGroup
  repeat' (with_reducible (first | assumption | apply State.askGroup_inv))

theorem State.holdGroups_inv (s : State) (hI : s.Inv) : (State.holdGroups s).Inv := by
  unfold State.holdGroups
  try dsimp only
  repeat' (first | (with_reducible (first | assumption | refine State.grvWith_inv _ _ ?_ rfl rfl | apply State.withdraw_inv | apply inv_ite | refine inv_foldl (fun _ _ _ => ?_) ?_ | refine inv_foldl_snd (fun _ _ _ => ?_) ?_ | refine inv_foldl_fst (fun _ _ _ => ?_) ?_ | refine inv_foldl_fst2 (fun _ _ _ => ?_) ?_)) | (intro _) | split)

theorem State.groupCheck_inv (s : State) (id : Nat) (hI : s.Inv) : (State.groupCheck s id).Inv := by
  unfold State.groupCheck
  try dsimp only
  repeat' (first | (with_reducible (first | assumption | apply State.endLeave_inv | apply State.jobWith_inv | apply State.nextGroup_inv | apply inv_ite)) | (intro _) | split)

theorem State.jobEnds_inv (s : State) (j : Job) (p : Port) (code : Byte) (hI : s.Inv) : (State.jobEnds s j p code).Inv := by
  unfold State.jobEnds
  repeat' (with_reducible (first | assumption | apply State.partEnd_inv | apply State.groupCheck_inv))

theorem State.jobEndsAll_inv (s : State) (j : Job) (code : Byte) (hI : s.Inv) : (State.jobEndsAll s j code).Inv := by
  unfold State.jobEndsAll
  try dsimp only
  repeat' (first | (with_reducible (first | assumption | apply State.jobEnds_inv | apply inv_ite | refine inv_foldl (fun _ _ _ => ?_) ?_)) | (intro _) | split)

theorem State.runEnds_inv (s : State) (p : Port) (code : Byte) (hI : s.Inv) : (State.runEnds s p code).Inv := by
  unfold State.runEnds
  try dsimp only
  repeat' (first | (with_reducible (first | assumption | apply State.jobEnds_inv)) | split)

theorem State.capWith_inv (s : State) (p : Port) (cdc : Bool) (f : Capture → Capture) (hI : s.Inv) : (State.capWith s p cdc f).Inv := by
  unfold State.capWith
  try dsimp only
  repeat' (first | (with_reducible (first | assumption | refine State.grvWith_inv _ _ ?_ rfl rfl | apply inv_ite)) | (intro _) | split)

theorem State.capTake_inv (s : State) (p : Port) (cdc : Bool) (i : CapItem) (hI : s.Inv) : (State.capTake s p cdc i).Inv := by
  unfold State.capTake
  try dsimp only
  repeat' (first | (with_reducible (first | assumption | apply State.count_inv | apply State.capWith_inv | apply inv_ite)) | (intro _) | split)

theorem State.capWrite_inv (s : State) (c : Capture) (r : CapRec) (last : Bool) (hI : s.Inv) : (State.capWrite s c r last).Inv := by
  unfold State.capWrite
  try dsimp -iota only
  repeat' (first | split | (with_reducible (first | assumption | apply State.put_inv | apply State.countBy_inv | apply State.raiseWith_inv | apply State.grvWrite_inv | apply State.capWith_inv | apply inv_ite)) | (intro _) | (refine inv_of_snd (by with_reducible assumption) ?_))

theorem State.capDrain_inv (s : State) (p : Port) (cdc : Bool) (n : Nat) (h : s.Inv) : (State.capDrain s p cdc n).Inv := by
  induction n generalizing s with
  | zero => exact h
  | succ n ih =>
    unfold State.capDrain
    try dsimp -iota only
    repeat' (first | split | (with_reducible (first | assumption | apply ih | apply State.capWrite_inv | apply State.partEnd_inv | refine State.grvWith_inv _ _ ?_ rfl rfl)))

theorem State.capFinish_inv (s : State) (p : Port) (cdc : Bool) (hI : s.Inv) : (State.capFinish s p cdc).Inv := by
  unfold State.capFinish
  repeat' (with_reducible (first | assumption | apply State.capDrain_inv))

theorem State.capEnds_inv (s : State) (p : Port) (cdc : Bool) (code : Byte) (hI : s.Inv) : (State.capEnds s p cdc code).Inv := by
  unfold State.capEnds
  try dsimp only
  repeat' (first | (with_reducible (first | assumption | apply State.capWith_inv | apply State.capFinish_inv | apply inv_ite)) | (intro _) | split)

theorem State.capsEnd_inv (s : State) (p : Port) (code : Byte) (hI : s.Inv) : (State.capsEnd s p code).Inv := by
  unfold State.capsEnd
  repeat' (with_reducible (first | assumption | apply State.capEnds_inv))

theorem State.grvLeaves_inv (s : State) (p : Port) (hI : s.Inv) : (State.grvLeaves s p).Inv := by
  unfold State.grvLeaves
  repeat' (with_reducible (first | assumption | apply State.runEnds_inv | apply State.capEnds_inv))

theorem State.grvMoved_inv (s : State) (p : Port) (hI : s.Inv) : (State.grvMoved s p).Inv := by
  unfold State.grvMoved
  try dsimp only
  repeat' (first | (with_reducible (first | assumption | apply State.jobEnds_inv | apply inv_ite)) | split)

theorem State.lheReset_inv (s : State) (p : Port) (hI : s.Inv) : (State.lheReset s p).Inv := by
  unfold State.lheReset
  try dsimp only
  repeat' (first | (with_reducible (first | assumption | apply State.lheWith_inv | apply State.jobEnds_inv | apply State.capsEnd_inv | apply inv_ite | refine inv_foldl (fun _ _ _ => ?_) ?_)) | (intro _) | split)

theorem State.lheStop_inv (s : State) (p : Port) (code : Byte) (hI : s.Inv) : (State.lheStop s p code).Inv := by
  unfold State.lheStop
  repeat' (with_reducible (first | assumption | apply State.runEnds_inv | apply State.capsEnd_inv))

theorem State.grvStop_inv (s : State) (hI : s.Inv) : (State.grvStop s).Inv := by
  unfold State.grvStop
  try dsimp only
  repeat' (first | (with_reducible (first | assumption | apply State.runEnds_inv | refine inv_foldl (fun _ _ _ => ?_) ?_)) | (intro _))

theorem State.grvClear_inv (s : State) (hI : s.Inv) : (State.grvClear s).Inv := by
  unfold State.grvClear
  try dsimp only
  repeat' (first | (with_reducible (first | assumption | refine State.grvWith_inv _ _ ?_ rfl rfl | apply State.endLeave_inv | refine inv_foldl (fun _ _ _ => ?_) ?_ | refine inv_foldl_snd (fun _ _ _ => ?_) ?_ | refine inv_foldl_fst (fun _ _ _ => ?_) ?_ | refine inv_foldl_fst2 (fun _ _ _ => ?_) ?_)) | (intro _))

theorem State.ringFault_inv (s : State) (r : RingIx) (kind index : Nat) (hI : s.Inv) : (State.ringFault s r kind index).Inv := by
  unfold State.ringFault
  repeat' (with_reducible (first | assumption | apply State.raiseWith_inv))

theorem State.newJob_inv (s : State) (chain : Nat) (r : RingIx) (index : BitVec 16) (step : Nat) (desc : List Byte) (ps : List Port) (hI : s.Inv) : (State.newJob s chain r index step desc ps).2.Inv := by
  unfold State.newJob
  try dsimp only
  repeat' (first | (with_reducible (first | assumption | refine State.grvWith_inv _ _ ?_ rfl rfl | apply inv_ite)) | (intro _) | split)

theorem State.settleJob_inv (s : State) (j : Job) (hI : s.Inv) : (State.settleJob s j).Inv := by
  unfold State.settleJob
  try dsimp only
  repeat' (first | (with_reducible (first | assumption | apply State.noteBeyond_inv | apply State.jobEnds_inv | apply State.jobEndsAll_inv | apply inv_ite | refine inv_foldl (fun _ _ _ => ?_) ?_)) | (intro _) | split)

theorem State.fetchAt_inv (s : State) (a : Nat) (hI : s.Inv) : (State.fetchAt s a).2.Inv := by
  unfold State.fetchAt
  try dsimp -iota only
  repeat' (first | split | (with_reducible (first | assumption | apply State.noteBeyond_inv | apply State.grvRead_inv | apply inv_ite)) | (intro _) | (refine inv_of_snd (by with_reducible assumption) ?_))

theorem State.fetchError_inv (s : State) (r : RingIx) (index : Nat) (hI : s.Inv) : (State.fetchError s r index).Inv := by
  unfold State.fetchError
  repeat' (with_reducible (first | assumption | apply State.setFault_inv | apply State.ringFault_inv))

theorem State.follow_inv (s : State) (j : Job) (ls : List (Nat × List Port)) (acc : List Job) (h : s.Inv) :
    (State.follow s j ls acc).2.2.Inv := by
  induction ls generalizing s acc with
  | nil => exact h
  | cons x t ih =>
    obtain ⟨a, ps⟩ := x
    unfold State.follow
    try dsimp -iota only
    have hf := State.fetchAt_inv s a h
    repeat' (first | split | (with_reducible (first | assumption | apply ih | apply State.fetchError_inv | apply State.newJob_inv)))
    · rename_i e
      exact inv_of_snd e hf
    · rename_i e
      exact inv_of_snd e hf
    · rename_i e1 _ _ _ e2
      exact inv_of_snd e2 (State.newJob_inv _ _ _ _ _ _ _ (inv_of_snd e1 hf))

theorem State.noteJob_inv (s : State) (j : Job) (hI : s.Inv) : (State.noteJob s j).Inv := by
  unfold State.noteJob
  try dsimp -iota only
  repeat' (first | split | (with_reducible (first | assumption | apply State.count_inv | apply State.raiseWith_inv | apply inv_ite)) | (with_reducible apply State.Inv.set_bad) | (refine inv_of_snd (by with_reducible assumption) ?_))

theorem State.finishJob_inv (s : State) (j : Job) (hI : s.Inv) : (State.finishJob s j).Inv := by
  unfold State.finishJob
  try dsimp -iota only
  repeat' (first | split | (with_reducible (first | assumption | refine State.grvWith_inv _ _ ?_ rfl rfl | apply State.settleJob_inv | apply State.follow_inv | apply State.noteJob_inv | apply inv_ite | apply inv_dite | refine inv_foldl (fun _ _ _ => ?_) ?_ | refine inv_foldl_snd (fun _ _ _ => ?_) ?_ | refine inv_foldl_fst (fun _ _ _ => ?_) ?_ | refine inv_foldl_fst2 (fun _ _ _ => ?_) ?_)) | (intro _) | (refine inv_of_snd (by with_reducible assumption) ?_) | (refine inv_of_snd2 (by with_reducible assumption) ?_) | (refine inv_of_snd3 (by with_reducible assumption) ?_) | (refine inv_of_fst (by with_reducible assumption) ?_))

theorem State.acceptDesc_inv (s : State) (r : RingIx) (ix : Nat) (bs : List Byte) (hI : s.Inv) : (State.acceptDesc s r ix bs).Inv := by
  unfold State.acceptDesc
  try dsimp only
  repeat' (first | (with_reducible (first | assumption | refine State.grvWith_inv _ _ ?_ rfl rfl | apply State.newJob_inv | apply State.settleJob_inv | apply State.finishJob_inv | apply inv_ite)) | (intro _) | split)

theorem State.takeFetched_inv (s : State) (r : RingIx) (ix : Nat) (x : Fetched) (hI : s.Inv) : (State.takeFetched s r ix x).Inv := by
  unfold State.takeFetched
  try dsimp only
  repeat' (first | (with_reducible (first | assumption | apply State.fetchError_inv | apply State.acceptDesc_inv)) | split)

theorem State.fetchNext_inv (s : State) (r : RingIx) (hI : s.Inv) : (State.fetchNext s r).Inv := by
  unfold State.fetchNext
  try dsimp only
  repeat' (first | (with_reducible (first | assumption | apply State.put_inv | refine State.grvWith_inv _ _ ?_ rfl rfl | apply State.fetchAt_inv | apply State.takeFetched_inv)) | (intro _))

theorem execDescriptorFetch_inv (s : State) (hI : s.Inv) : State.InvO (execDescriptorFetch s) := by
  unfold execDescriptorFetch
  try dsimp only
  repeat' (first | (with_reducible (first | assumption | apply State.fetchNext_inv | apply State.invO_next | apply inv_ite | apply invO_ite)) | split)

theorem State.startPart_inv (s : State) (j : Job) (p : Port) (hI : s.Inv) : (State.startPart s j p).Inv := by
  unfold State.startPart
  try dsimp only
  repeat' (first | (with_reducible (first | assumption | apply State.put_inv | apply State.jobEnds_inv | apply inv_ite)) | split)

theorem State.startJob_inv (s : State) (j : Job) (hI : s.Inv) : (State.startJob s j).Inv := by
  unfold State.startJob
  try dsimp only
  repeat' (first | (with_reducible (first | assumption | apply State.jobWith_inv | apply State.startPart_inv | apply inv_ite | refine inv_foldl (fun _ _ _ => ?_) ?_)) | (intro _) | split)

theorem execJobStart_inv (p : Port) (s : State) (hI : s.Inv) : State.InvO (execJobStart p s) := by
  unfold execJobStart
  try dsimp only
  repeat' (first | (with_reducible (first | assumption | apply State.jobWith_inv | apply State.nextGroup_inv | apply State.startJob_inv | apply State.invO_next | apply inv_ite | apply invO_ite)) | (intro _) | split)

theorem State.fanGrant_inv (s : State) (w : Fin 2) (hI : s.Inv) : (State.fanGrant s w).Inv := by
  unfold State.fanGrant
  try dsimp only
  repeat' (first | (with_reducible (first | assumption | apply State.opDone_inv | apply State.jobWith_inv | apply State.groupCheck_inv | apply State.startJob_inv)) | (intro _) | split)

end Sys2Proof.Machine
end

