-- ==== Sys2Proof/Laws/InvGrvJobs.lean ====
section
/-! SUPPORT. What the definitions of Machine/GrvJobs.lean keep: each one leaves the invariant of Safety.lean as it was. -/

namespace Sys2Proof.Machine

set_option linter.unreachableTactic false
set_option linter.unusedTactic false

theorem State.setPhase_inv (s : State) (j : Job) (p : Port) (n : Nat) (hI : s.Inv) : (State.setPhase s j p n).Inv := by
  unfold State.setPhase
  try dsimp only
  repeat' (first | (with_reducible (first | assumption | apply State.partWith_inv)) | (intro _) | (with_reducible apply State.Inv.set_phase))

theorem State.setPos_inv (s : State) (j : Job) (p : Port) (n : Nat) (hI : s.Inv) : (State.setPos s j p n).Inv := by
  unfold State.setPos
  try dsimp only
  repeat' (first | (with_reducible (first | assumption | apply State.put_inv | apply State.partWith_inv)) | (intro _))

theorem execTake_inv (p : Port) (s : State) (hI : s.Inv) : State.InvO (execTake p s) := by
  unfold execTake
  try dsimp only
  repeat' (first | (with_reducible (first | assumption | apply State.moveRequest_inv | apply State.jobEnds_inv | apply State.setPhase_inv | apply State.invO_next | apply inv_ite | apply invO_ite)) | split | (refine inv_of_snd (by with_reducible assumption) ?_))

theorem execGive_inv (p : Port) (s : State) (hI : s.Inv) : State.InvO (execGive p s) := by
  unfold execGive
  try dsimp only
  repeat' (first | (with_reducible (first | assumption | apply State.moveRequest_inv | apply State.jobEnds_inv | apply State.setPhase_inv | apply State.invO_next | apply inv_ite | apply invO_ite)) | split | (refine inv_of_snd (by with_reducible assumption) ?_))

theorem State.grvGiven_inv (s : State) (p : Port) (hI : s.Inv) : (State.grvGiven s p).Inv := by
  unfold State.grvGiven
  try dsimp only
  repeat' (first | (with_reducible (first | assumption | apply State.jobEnds_inv | apply State.grvLeaves_inv | apply inv_ite)) | split)

theorem State.grvForce_inv (s : State) (p : Port) (b : Bool) (hI : s.Inv) : (State.grvForce s p b).Inv := by
  unfold State.grvForce
  try dsimp only
  repeat' (first | (with_reducible (first | assumption | apply State.putRw_inv | apply State.usbEval_inv | apply State.askTurnOn_inv | apply State.forceOffChanged_inv | apply inv_ite)) | split)

theorem State.powerOn_inv (s : State) (j : Job) (p : Port) (hI : s.Inv) : (State.powerOn s j p).Inv := by
  unfold State.powerOn
  try dsimp only
  repeat' (first | (with_reducible (first | assumption | apply State.jobEnds_inv | apply State.setPhase_inv | apply State.grvForce_inv | apply inv_ite)) | split)

theorem State.powerWait_inv (s : State) (j : Job) (p : Port) (hI : s.Inv) : (State.powerWait s j p).Inv := by
  unfold State.powerWait
  repeat' (first | (with_reducible (first | assumption | apply State.jobEnds_inv | apply inv_ite)) | split)

theorem execPowerOff_inv (p : Port) (s : State) (hI : s.Inv) : State.InvO (execPowerOff p s) := by
  unfold execPowerOff
  try dsimp only
  repeat' (first | (with_reducible (first | assumption | apply State.jobEnds_inv | apply State.setPhase_inv | apply State.grvForce_inv | apply State.invO_next | apply inv_ite | apply invO_ite)) | split | (refine inv_of_snd (by with_reducible assumption) ?_))

theorem execPowerOn_inv (p : Port) (s : State) (hI : s.Inv) : State.InvO (execPowerOn p s) := by
  unfold execPowerOn
  try dsimp only
  repeat' (first | (with_reducible (first | assumption | apply State.powerOn_inv | apply State.powerWait_inv | apply State.invO_next | apply inv_ite | apply invO_ite)) | split | (refine inv_of_snd (by with_reducible assumption) ?_))

theorem execPowerCycle_inv (p : Port) (s : State) (hI : s.Inv) : State.InvO (execPowerCycle p s) := by
  unfold execPowerCycle
  try dsimp only
  repeat' (first | (with_reducible (first | assumption | apply State.setPhase_inv | apply State.grvForce_inv | apply State.powerOn_inv | apply State.powerWait_inv | apply State.invO_next | apply inv_ite | apply invO_ite)) | split | (refine inv_of_snd (by with_reducible assumption) ?_))

theorem State.xactOk_inv (s : State) (p : Port) (k : Nat) (hI : s.Inv) : (State.xactOk s p k).Inv := by
  unfold State.xactOk
  try dsimp only
  repeat' (first | (with_reducible (first | assumption | apply State.lheWith_inv)) | (intro _))

theorem State.xactErr_inv (s : State) (p : Port) (k : Nat) (hI : s.Inv) : (State.xactErr s p k).2.Inv := by
  unfold State.xactErr
  try dsimp only
  repeat' (first | (with_reducible (first | assumption | apply State.lheWith_inv | apply State.countErr_inv | apply State.xactOk_inv | apply inv_ite)) | (intro _) | split)

theorem State.xactStall_inv (s : State) (p : Port) (k : Nat) (hI : s.Inv) : (State.xactStall s p k).Inv := by
  unfold State.xactStall
  try dsimp only
  repeat' (first | (with_reducible (first | assumption | apply State.count_inv | apply State.lheWith_inv | apply State.xactOk_inv | apply inv_ite)) | (intro _) | split)

theorem State.answered_inv (s : State) (j : Job) (p : Port) (k : Nat) (ans : DevAns) (f : State → DevAns → State) (hf0 : ∀ x0 x1, x0.Inv → (f x0 x1).Inv) (hI : s.Inv) : (State.answered s j p k ans f).Inv := by
  unfold State.answered
  try dsimp -iota only
  repeat' (first | split | (with_reducible (first | assumption | apply hf0 | apply State.jobEnds_inv | apply State.xactOk_inv | apply State.xactErr_inv | apply State.xactStall_inv | apply inv_ite)) | (intro _) | (refine inv_of_snd (by with_reducible assumption) ?_))

theorem State.enumUsb2_inv (s : State) (j : Job) (p : Port) (hI : s.Inv) : (State.enumUsb2 s j p).Inv := by
  unfold State.enumUsb2
  try dsimp only
  repeat' (first | (with_reducible (first | assumption | apply State.lheWith_inv | apply State.startReset_inv | apply State.setPhase_inv)) | (intro _))

theorem State.enumTry_inv (s : State) (j : Job) (p : Port) (late : Bool) (hI : s.Inv) : (State.enumTry s j p late).Inv := by
  unfold State.enumTry
  try dsimp only
  repeat' (first | (with_reducible (first | assumption | apply State.lheWith_inv | apply State.ssWarm_inv | apply State.setPhase_inv | apply State.enumUsb2_inv | apply inv_ite)) | (intro _) | split)

theorem State.enumStart_inv (s : State) (j : Job) (p : Port) (hI : s.Inv) : (State.enumStart s j p).Inv := by
  unfold State.enumStart
  try dsimp only
  repeat' (first | (with_reducible (first | assumption | apply State.put_inv | apply State.lheWith_inv | apply State.ssEvalPort_inv | apply State.enumTry_inv)) | (intro _))

theorem State.enumDone_inv (s0 : State) (j : Job) (p : Port) (dev cfg0 : List Byte) (hI : s0.Inv) : (State.enumDone s0 j p dev cfg0).Inv := by
  unfold State.enumDone
  try dsimp -iota only
  repeat' (first | split | (with_reducible (first | assumption | apply State.put_inv | apply State.reply_inv | apply State.lheWith_inv | apply State.grvWrite_inv | apply State.jobEnds_inv | apply inv_ite)) | (intro _) | (refine inv_of_snd (by with_reducible assumption) ?_))

theorem execEnumJob_inv (p : Port) (ans : DevAns) (s : State) (hI : s.Inv) : State.InvO (execEnumJob p ans s) := by
  unfold execEnumJob
  try dsimp only
  repeat' (first | (with_reducible (first | assumption | apply State.jobEnds_inv | refine State.answered_inv _ _ _ _ _ _ (fun _ _ _ => ?_) ?_ | apply State.enumTry_inv | apply State.enumStart_inv | apply State.enumDone_inv | apply State.invO_next | apply inv_ite | apply invO_ite)) | (intro _) | split | (refine inv_of_snd (by with_reducible assumption) ?_))

theorem execConfigJob_inv (p : Port) (ans : DevAns) (s : State) (hI : s.Inv) : State.InvO (execConfigJob p ans s) := by
  unfold execConfigJob
  try dsimp only
  repeat' (first | (with_reducible (first | assumption | apply State.put_inv | apply State.reply_inv | apply State.lheWith_inv | apply State.jobEnds_inv | refine State.answered_inv _ _ _ _ _ _ (fun _ _ _ => ?_) ?_ | apply State.invO_next)) | (intro _) | split | (refine inv_of_snd (by with_reducible assumption) ?_))

theorem execCtrlJob_inv (p : Port) (ans : DevAns) (s : State) (hI : s.Inv) : State.InvO (execCtrlJob p ans s) := by
  unfold execCtrlJob
  try dsimp -iota only
  repeat' (first | split | (with_reducible (first | assumption | apply State.reply_inv | apply State.grvRead_inv | apply State.grvWrite_inv | apply State.jobEnds_inv | apply State.setPos_inv | refine State.answered_inv _ _ _ _ _ _ (fun _ _ _ => ?_) ?_ | apply State.invO_next | apply inv_ite | apply invO_ite)) | (intro _) | (refine inv_of_snd (by with_reducible assumption) ?_))

theorem State.leaveGroup_inv (s : State) (j : Job) (p : Port) (lag : Nat) (hI : s.Inv) : (State.leaveGroup s j p lag).Inv := by
  unfold State.leaveGroup
  try dsimp only
  repeat' (first | (with_reducible (first | assumption | apply State.put_inv | apply State.count_inv | apply State.raiseWith_inv | apply State.partWith_inv)) | (intro _))

theorem State.winFollow_inv (s : State) (j : Job) (p : Port) (hi : Nat) (hI : s.Inv) : (State.winFollow s j p hi).2.Inv := by
  unfold State.winFollow
  try dsimp -iota only
  repeat' (first | split | (with_reducible (first | assumption | apply State.grvRead_inv | apply State.jobWith_inv | apply State.leaveGroup_inv | apply inv_ite | refine inv_foldl (fun _ _ _ => ?_) ?_ | refine inv_foldl_snd (fun _ _ _ => ?_) ?_ | refine inv_foldl_fst (fun _ _ _ => ?_) ?_ | refine inv_foldl_fst2 (fun _ _ _ => ?_) ?_)) | (intro _) | (refine inv_of_snd (by with_reducible assumption) ?_))

theorem State.imageBytes_inv (s : State) (j : Job) (x : JobPort) (n : Nat) (hI : s.Inv) : (State.imageBytes s j x n).2.Inv := by
  unfold State.imageBytes
  try dsimp -iota only
  repeat' (first | split | (with_reducible (first | assumption | apply State.grvRead_inv | apply State.winFollow_inv | apply inv_ite)) | (refine inv_of_snd (by with_reducible assumption) ?_))

theorem State.epUsed_inv (s : State) (p : Port) (num : Nat) (inDir : Bool) (n : Nat) (hI : s.Inv) : (State.epUsed s p num inDir n).Inv := by
  unfold State.epUsed
  try dsimp only
  repeat' (first | (with_reducible (first | assumption | apply State.lheWith_inv | apply inv_ite)) | (intro _) | split)

theorem State.endIf_inv (s : State) (j : Job) (p : Port) (c : Option Byte) (h : s.Inv) : (State.endIf s j p c).Inv := by
  cases c with
  | none => exact h
  | some c => exact State.jobEnds_inv s j p c h

theorem execJobWrite_inv (p : Port) (ans : DevAns) (s : State) (hI : s.Inv) : State.InvO (execJobWrite p ans s) := by
  unfold execJobWrite
  try dsimp -iota only
  repeat' (first | split | (with_reducible (first | assumption | apply State.reply_inv | apply State.groupCheck_inv | apply State.jobEnds_inv | apply State.setPos_inv | refine State.answered_inv _ _ _ _ _ _ (fun _ _ _ => ?_) ?_ | apply State.imageBytes_inv | apply State.epUsed_inv | apply State.invO_next | apply inv_ite | apply invO_ite)) | (intro _) | (refine inv_of_snd (by with_reducible assumption) ?_))

theorem execJobRead_inv (p : Port) (ans : DevAns) (s : State) (hI : s.Inv) : State.InvO (execJobRead p ans s) := by
  unfold execJobRead
  try dsimp -iota only
  repeat' (first | split | (with_reducible (first | assumption | apply State.grvWrite_inv | apply State.jobEnds_inv | apply State.setPos_inv | refine State.answered_inv _ _ _ _ _ _ (fun _ _ _ => ?_) ?_ | apply State.epUsed_inv | apply State.endIf_inv | apply State.invO_next | apply inv_ite | apply invO_ite)) | (intro _) | (refine inv_of_snd (by with_reducible assumption) ?_))

theorem State.setMismatch_inv (s : State) (p : Port) (n : Nat) (hI : s.Inv) : (State.setMismatch s p n).Inv := by
  unfold State.setMismatch
  repeat' (with_reducible (first | assumption | apply State.put_inv))

theorem execVerifyCompare_inv (p : Port) (ans : DevAns) (s : State) (hI : s.Inv) : State.InvO (execVerifyCompare p ans s) := by
  unfold execVerifyCompare
  try dsimp -iota only
  repeat' (first | split | (with_reducible (first | assumption | apply State.groupCheck_inv | apply State.jobEnds_inv | apply State.setPos_inv | refine State.answered_inv _ _ _ _ _ _ (fun _ _ _ => ?_) ?_ | apply State.imageBytes_inv | apply State.epUsed_inv | apply State.setMismatch_inv | apply State.invO_next | apply inv_ite | apply invO_ite)) | (intro _) | (refine inv_of_snd (by with_reducible assumption) ?_))

theorem execVerifyCrc_inv (p : Port) (ans : DevAns) (s : State) (hI : s.Inv) : State.InvO (execVerifyCrc p ans s) := by
  unfold execVerifyCrc
  try dsimp only
  repeat' (first | (with_reducible (first | assumption | apply State.partWith_inv | apply State.jobEnds_inv | apply State.setPos_inv | refine State.answered_inv _ _ _ _ _ _ (fun _ _ _ => ?_) ?_ | apply State.epUsed_inv | apply State.endIf_inv | apply State.setMismatch_inv | apply State.invO_next | apply inv_ite | apply invO_ite)) | (intro _) | split | (refine inv_of_snd (by with_reducible assumption) ?_))

theorem State.waitTest_inv (s : State) (p : Port) (cond : Nat) (hI : s.Inv) : (State.waitTest s p cond).Inv := by
  unfold State.waitTest
  try dsimp only
  repeat' (first | (with_reducible (first | assumption | apply State.jobEnds_inv | apply inv_ite)) | split | (refine inv_of_snd (by with_reducible assumption) ?_))

theorem execWaitTime_inv (p : Port) (s : State) (hI : s.Inv) : State.InvO (execWaitTime p s) := by
  unfold execWaitTime
  repeat' (with_reducible (first | assumption | apply State.waitTest_inv | apply State.invO_next))

theorem execWaitAttach_inv (p : Port) (s : State) (hI : s.Inv) : State.InvO (execWaitAttach p s) := by
  unfold execWaitAttach
  repeat' (with_reducible (first | assumption | apply State.waitTest_inv | apply State.invO_next))

theorem execWaitDetach_inv (p : Port) (s : State) (hI : s.Inv) : State.InvO (execWaitDetach p s) := by
  unfold execWaitDetach
  repeat' (with_reducible (first | assumption | apply State.waitTest_inv | apply State.invO_next))

theorem execWaitVbusOn_inv (p : Port) (s : State) (hI : s.Inv) : State.InvO (execWaitVbusOn p s) := by
  unfold execWaitVbusOn
  repeat' (with_reducible (first | assumption | apply State.waitTest_inv | apply State.invO_next))

theorem execWaitUsbConnect_inv (p : Port) (s : State) (hI : s.Inv) : State.InvO (execWaitUsbConnect p s) := by
  unfold execWaitUsbConnect
  repeat' (with_reducible (first | assumption | apply State.waitTest_inv | apply State.invO_next))

theorem State.capsQuit_inv (s : State) (p : Port) (code : Byte) (hI : s.Inv) : (State.capsQuit s p code).Inv := by
  unfold State.capsQuit
  try dsimp only
  repeat' (first | (with_reducible (first | assumption | apply State.jobEnds_inv | apply inv_ite | refine inv_foldl (fun _ _ _ => ?_) ?_)) | (intro _) | split)

theorem State.stopOn_inv (s : State) (what : Nat) (p : Port) (hI : s.Inv) : (State.stopOn s what p).Inv := by
  unfold State.stopOn
  try dsimp only
  repeat' (first | (with_reducible (first | assumption | apply State.jobEnds_inv | apply State.runEnds_inv | apply State.capsEnd_inv | apply State.capsQuit_inv | apply inv_ite | refine inv_foldl (fun _ _ _ => ?_) ?_)) | (intro _) | split)

theorem State.stopStep_inv (s : State) (p : Port) (what : Nat) (hI : s.Inv) : (State.stopStep s p what).Inv := by
  unfold State.stopStep
  try dsimp only
  repeat' (first | (with_reducible (first | assumption | apply State.jobWith_inv | apply State.jobEndsAll_inv | apply State.stopOn_inv | apply inv_ite | refine inv_foldl (fun _ _ _ => ?_) ?_)) | (intro _) | split | (with_reducible apply State.Inv.set_phase))

theorem execStopRunning_inv (p : Port) (s : State) (hI : s.Inv) : State.InvO (execStopRunning p s) := by
  unfold execStopRunning
  repeat' (with_reducible (first | assumption | apply State.stopStep_inv | apply State.invO_next))

theorem execStopCaptures_inv (p : Port) (s : State) (hI : s.Inv) : State.InvO (execStopCaptures p s) := by
  unfold execStopCaptures
  repeat' (with_reducible (first | assumption | apply State.stopStep_inv | apply State.invO_next))

theorem execStopQueued_inv (p : Port) (s : State) (hI : s.Inv) : State.InvO (execStopQueued p s) := by
  unfold execStopQueued
  repeat' (with_reducible (first | assumption | apply State.stopStep_inv | apply State.invO_next))

theorem State.capBegin_inv (s : State) (j : Job) (p : Port) (hI : s.Inv) : (State.capBegin s j p).Inv := by
  unfold State.capBegin
  try dsimp only
  repeat' (first | (with_reducible (first | assumption | apply State.put_inv | apply State.reply_inv | refine State.grvWith_inv _ _ ?_ rfl rfl | apply State.jobEnds_inv | apply State.setPhase_inv | apply inv_ite)) | (intro _) | split)

theorem execCaptureSbu_inv (p : Port) (s : State) (hI : s.Inv) : State.InvO (execCaptureSbu p s) := by
  unfold execCaptureSbu
  try dsimp only
  repeat' (first | (with_reducible (first | assumption | apply State.capBegin_inv | apply State.invO_next | apply inv_ite | apply invO_ite)) | split)

theorem State.capBytesIn_inv (s : State) (p : Port) (bs : List Byte) (hI : s.Inv) : (State.capBytesIn s p bs).Inv := by
  unfold State.capBytesIn
  try dsimp only
  repeat' (first | (with_reducible (first | assumption | apply State.capTake_inv | refine inv_foldl (fun _ _ _ => ?_) ?_)) | (intro _))

theorem State.capPoll_inv (s : State) (c : Capture) (p : Port) (ans : DevAns) (hI : s.Inv) : (State.capPoll s c p ans).Inv := by
  unfold State.capPoll
  try dsimp -iota only
  repeat' (first | split | (with_reducible (first | assumption | apply State.capWith_inv | apply State.capEnds_inv | apply State.xactOk_inv | apply State.xactErr_inv | apply State.xactStall_inv | apply State.epUsed_inv | apply State.capBytesIn_inv | apply inv_ite)) | (intro _) | (refine inv_of_snd (by with_reducible assumption) ?_))

theorem execCaptureCdc_inv (p : Port) (ans : DevAns) (s : State) (hI : s.Inv) : State.InvO (execCaptureCdc p ans s) := by
  unfold execCaptureCdc
  try dsimp only
  repeat' (first | (with_reducible (first | assumption | apply State.capBegin_inv | apply State.capPoll_inv | apply State.invO_next | apply inv_ite | apply invO_ite)) | split)

theorem execCaptureRecordClose_inv (p : Port) (cdc : Bool) (why : CloseWhy) (s : State) (hI : s.Inv) : State.InvO (execCaptureRecordClose p cdc why s) := by
  unfold execCaptureRecordClose
  try dsimp only
  repeat' (first | (with_reducible (first | assumption | apply State.capWrite_inv | apply State.invO_next | apply inv_ite | apply invO_ite)) | split)

theorem execConRxByte_inv (p : Port) (ch : RxChar) (s : State) (hI : s.Inv) : State.InvO (execConRxByte p ch s) := by
  unfold execConRxByte
  try dsimp only
  repeat' (first | (with_reducible (first | assumption | apply State.put_inv | apply State.countErr_inv | apply State.conReceive_inv | apply State.conBreak_inv | apply State.capTake_inv | apply State.invO_next | apply inv_ite | apply invO_ite)) | split)

theorem execJobEnd_inv (p : Port) (s : State) (hI : s.Inv) : State.InvO (execJobEnd p s) := by
  unfold execJobEnd
  try dsimp only
  repeat' (first | (with_reducible (first | assumption | apply State.capFinish_inv | apply State.finishJob_inv | apply State.invO_next | apply inv_ite | apply invO_ite)) | (intro _) | split)

theorem execJobTimeout_inv (p : Port) (cap : Option Bool) (s : State) (hI : s.Inv) : State.InvO (execJobTimeout p cap s) := by
  unfold execJobTimeout
  try dsimp only
  repeat' (first | (with_reducible (first | assumption | apply State.jobEnds_inv | apply State.capEnds_inv | apply State.invO_next | apply inv_ite | apply invO_ite)) | split)

theorem State.completionWrite_inv (s : State) (r : RingIx) (c : Completion) (hI : s.Inv) : (State.completionWrite s r c).Inv := by
  unfold State.completionWrite
  try dsimp -iota only
  repeat' (first | split | (with_reducible (first | assumption | apply State.put_inv | refine State.grvWith_inv _ _ ?_ rfl rfl | apply State.noteBeyond_inv | apply State.grvWrite_inv | apply State.ringFault_inv | apply inv_ite)) | (intro _) | (refine inv_of_snd (by with_reducible assumption) ?_))

theorem execCompletionWrite_inv (r : RingIx) (s : State) (hI : s.Inv) : State.InvO (execCompletionWrite r s) := by
  unfold execCompletionWrite
  try dsimp only
  repeat' (first | (with_reducible (first | assumption | apply State.completionWrite_inv | apply State.invO_next | apply inv_ite | apply invO_ite)) | split)

theorem execCompletionRetry_inv (r : RingIx) (s : State) (hI : s.Inv) : State.InvO (execCompletionRetry r s) := by
  unfold execCompletionRetry
  try dsimp only
  repeat' (first | (with_reducible (first | assumption | apply State.completionWrite_inv | apply State.invO_next | apply inv_ite | apply invO_ite)) | split)

theorem State.ringDoorbell_inv (s : State) (r : RingIx) (v : Nat) (hI : s.Inv) : (State.ringDoorbell s r v).Inv := by
  unfold State.ringDoorbell
  repeat' (first | (with_reducible (first | assumption | apply State.put_inv | apply State.setFault_inv | apply State.ringFault_inv | apply inv_ite)) | split)

theorem State.ringRestart_inv (s : State) (r : RingIx) (hI : s.Inv) : (State.ringRestart s r).Inv := by
  unfold State.ringRestart
  try dsimp only
  repeat' (first | (with_reducible (first | assumption | apply State.put_inv | apply State.putRw_inv | refine State.grvWith_inv _ _ ?_ rfl rfl | apply State.jobEndsAll_inv | apply State.capEnds_inv | apply State.noteJob_inv | apply inv_ite | refine inv_foldl (fun _ _ _ => ?_) ?_ | refine inv_foldl_snd (fun _ _ _ => ?_) ?_ | refine inv_foldl_fst (fun _ _ _ => ?_) ?_ | refine inv_foldl_fst2 (fun _ _ _ => ?_) ?_)) | (intro _) | split)

theorem State.bufStep_inv (s : State) (hI : s.Inv) : (State.bufStep s).Inv := by
  unfold State.bufStep
  repeat' (with_reducible (first | assumption | apply State.putRw_inv))

theorem State.bufWrite_inv (s : State) (be : BitVec 4) (v : Word) (hI : s.Inv) : (State.bufWrite s be v).Inv := by
  unfold State.bufWrite
  try dsimp only
  repeat' (first | (with_reducible (first | assumption | apply State.setFault_inv | apply State.bufPut_inv | apply State.bufStep_inv | apply inv_ite | refine inv_foldl (fun _ _ _ => ?_) ?_ | refine inv_foldl_snd (fun _ _ _ => ?_) ?_ | refine inv_foldl_fst (fun _ _ _ => ?_) ?_ | refine inv_foldl_fst2 (fun _ _ _ => ?_) ?_)) | (intro _) | split)

theorem State.bufRead_inv (s : State) (hI : s.Inv) : (State.bufRead s).2.Inv := by
  unfold State.bufRead
  repeat' (first | (with_reducible (first | assumption | apply State.setFault_inv | apply State.bufStep_inv | apply inv_ite)) | split)

end Sys2Proof.Machine
end

