-- ==== Sys2Proof/Laws/InvMgf.lean ====
section
/-! SUPPORT. What the definitions of Machine/Mgf.lean keep: each one leaves the invariant of Safety.lean as it was. -/

namespace Sys2Proof.Machine

set_option linter.unreachableTactic false
set_option linter.unusedTactic false

theorem State.epmPut_inv (s : State) (off : Nat) (bs : List Byte) (h : s.Inv) : (State.epmPut s off bs).Inv := by
  induction bs generalizing s off with
  | nil => exact h
  | cons b t ih => exact ih _ _ { h with epm := Sparse.put_wf h.epm _ _ }

theorem State.epmError_inv (s : State) (u : Up) (area : Nat) (hI : s.Inv) : (State.epmError s u area).Inv := by
  unfold State.epmError
  repeat' (with_reducible (first | assumption | apply State.put_inv | apply State.count_inv | apply State.setFault_inv))

theorem State.fnStall_inv (s : State) (u : Up) (hI : s.Inv) : (State.fnStall s u).Inv := by
  unfold State.fnStall
  repeat' (with_reducible (first | assumption | apply State.count_inv | apply State.reply_inv))

theorem State.epBusy_inv (s : State) (fi : FnInst) (ep : Fin 4) (hI : s.Inv) : (State.epBusy s fi ep).Inv := by
  unfold State.epBusy
  try dsimp only
  repeat' (first | (with_reducible (first | assumption | apply State.reply_inv | apply State.mgfWith_inv | apply inv_ite)) | (intro _) | split)

theorem State.epServed_inv (s : State) (u : Up) (ep : Fin 4) (hI : s.Inv) : (State.epServed s u ep).Inv := by
  unfold State.epServed
  try dsimp only
  repeat' (first | (with_reducible (first | assumption | apply State.mgfWith_inv)) | (intro _))

theorem State.vendor_inv (s : State) (fi : FnInst) (ok : Bool) (act : State) (hI : s.Inv) (hI1 : act.Inv) : (State.vendor s fi ok act).Inv := by
  unfold State.vendor
  try dsimp only
  repeat' (first | (with_reducible (first | assumption | apply State.reply_inv | apply State.fnStall_inv | apply State.epBusy_inv | apply inv_ite)) | split)

theorem State.setResult_inv (s : State) (u : Up) (breq : Byte) (granted refused : Bool) (sts : List Byte) (hI : s.Inv) : (State.setResult s u breq granted refused sts).Inv := by
  unfold State.setResult
  try dsimp only
  repeat' (first | (with_reducible (first | assumption | apply State.mgfWith_inv)) | (intro _))

theorem State.countVendor_inv (s : State) (u : Up) (hI : s.Inv) : (State.countVendor s u).Inv := by
  unfold State.countVendor
  repeat' (with_reducible (first | assumption | apply State.count_inv))

theorem State.setExec_inv (s : State) (u : Up) (e : Option VendorExec) (hI : s.Inv) : (State.setExec s u e).Inv := by
  unfold State.setExec
  try dsimp only
  repeat' (first | (with_reducible (first | assumption | apply State.mgfWith_inv | apply State.mgfSync_inv)) | (intro _))

theorem State.vendorBegin_inv (s : State) (u : Up) (breq : Byte) (addr len : Nat) (data : List Byte) (hI : s.Inv) : (State.vendorBegin s u breq addr len data).Inv := by
  unfold State.vendorBegin
  repeat' (with_reducible (first | assumption | apply State.countVendor_inv | apply State.setExec_inv))

theorem State.vendorWords_inv (s : State) (u : Up) (ws : List WordResult) (hI : s.Inv) : (State.vendorWords s u ws).Inv := by
  unfold State.vendorWords
  try dsimp only
  repeat' (first | (with_reducible (first | assumption | apply State.mgfWith_inv)) | (intro _))

theorem State.vendorDram_inv (s : State) (u : Up) (hI : s.Inv) : (State.vendorDram s u).Inv := by
  unfold State.vendorDram
  try dsimp -iota only
  repeat' (first | split | (with_reducible (first | assumption | apply State.hostRead_inv | apply State.hostWrite_inv | apply State.mgfWith_inv | apply inv_ite | apply inv_dite | refine inv_foldl (fun _ _ _ => ?_) ?_ | refine inv_foldl_snd (fun _ _ _ => ?_) ?_ | refine inv_foldl_fst (fun _ _ _ => ?_) ?_ | refine inv_foldl_fst2 (fun _ _ _ => ?_) ?_)) | (intro _) | (refine inv_of_snd (by with_reducible assumption) ?_) | (refine inv_of_snd2 (by with_reducible assumption) ?_) | (refine inv_of_snd3 (by with_reducible assumption) ?_) | (refine inv_of_fst (by with_reducible assumption) ?_))

theorem State.wordsDone_inv (s : State) (n : Nat) (hI : s.Inv) : (State.wordsDone s n).2.Inv := by
  unfold State.wordsDone
  try dsimp only
  repeat' (with_reducible (first | assumption | apply State.free_inv))

theorem State.hostCut_inv (s : State) (u : Up) (write : Bool) (a n : Nat) (data : List Byte) (hI : s.Inv) : (State.hostCut s u write a n data).2.2.2.Inv := by
  unfold State.hostCut
  try dsimp only
  repeat' (first | (with_reducible (first | assumption | apply State.count_inv | apply State.hostRead_inv | apply State.hostWrite_inv | apply State.wordsDone_inv | apply inv_ite)) | split | (refine inv_of_snd (by with_reducible assumption) ?_))

theorem State.vendorCut_inv (s : State) (hI : s.Inv) : (State.vendorCut s).Inv := by
  unfold State.vendorCut
  try dsimp only
  repeat' (first | (with_reducible (first | assumption | apply State.mgfWith_inv | apply State.hostCut_inv | apply inv_ite | refine inv_foldl (fun _ _ _ => ?_) ?_ | refine inv_foldl_snd (fun _ _ _ => ?_) ?_ | refine inv_foldl_fst (fun _ _ _ => ?_) ?_ | refine inv_foldl_fst2 (fun _ _ _ => ?_) ?_)) | (intro _) | split)

theorem execVendorRequestDone_inv (u : Up) (parityErr : Bool) (s : State) (hI : s.Inv) : State.InvO (execVendorRequestDone u parityErr s) := by
  unfold execVendorRequestDone
  try dsimp only
  repeat' (first | (with_reducible (first | assumption | apply State.reply_inv | apply State.mgfWith_inv | apply State.epmPut_inv | apply State.epmError_inv | apply State.fnStall_inv | apply State.epBusy_inv | apply State.epServed_inv | apply State.setResult_inv | apply State.setExec_inv | apply State.vendorDram_inv | apply State.invO_next | apply inv_ite | apply invO_ite)) | (intro _) | split)

theorem execGetResult_inv (fi : FnInst) (rq : StoreReq) (parityErr : Bool) (s : State) (hI : s.Inv) : State.InvO (execGetResult fi rq parityErr s) := by
  unfold execGetResult
  try dsimp only
  repeat' (first | (with_reducible (first | assumption | apply State.reply_inv | apply State.epmError_inv | apply State.fnStall_inv | apply State.vendor_inv | apply State.countVendor_inv | apply State.invO_next | apply inv_ite | apply invO_ite)) | split)

theorem execVendorReplay_inv (fi : FnInst) (rq : StoreReq) (parityErr : Bool) (s : State) (hI : s.Inv) : State.InvO (execVendorReplay fi rq parityErr s) := by
  unfold execVendorReplay
  try dsimp only
  repeat' (first | (with_reducible (first | assumption | apply State.reply_inv | apply State.epmError_inv | apply State.fnStall_inv | apply State.vendor_inv | apply State.countVendor_inv | apply State.invO_next | apply inv_ite | apply invO_ite)) | split)

theorem execDramRead_inv (fi : FnInst) (waddr : BitVec 32) (len : Nat) (s : State) (hI : s.Inv) : State.InvO (execDramRead fi waddr len s) := by
  unfold execDramRead
  repeat' (with_reducible (first | assumption | apply State.reply_inv | apply State.vendor_inv | apply State.vendorBegin_inv | apply State.invO_next))

theorem execDramWrite_inv (fi : FnInst) (waddr : BitVec 32) (data : List Byte) (parityErr : Bool) (s : State) (hI : s.Inv) : State.InvO (execDramWrite fi waddr data parityErr s) := by
  unfold execDramWrite
  try dsimp only
  repeat' (first | (with_reducible (first | assumption | apply State.reply_inv | apply State.epmPut_inv | apply State.epmError_inv | apply State.fnStall_inv | apply State.vendor_inv | apply State.vendorBegin_inv | apply State.invO_next | apply inv_ite | apply invO_ite)) | split)

theorem State.setHalt_inv (s : State) (u : Up) (ep : Nat) (b : Bool) (hI : s.Inv) : (State.setHalt s u ep b).Inv := by
  unfold State.setHalt
  repeat' (with_reducible (first | assumption | apply State.setFlag_inv))

theorem State.stepSeq_inv (s : State) (u : Up) (i : Fin 3) (k : Nat) (hI : s.Inv) : (State.stepSeq s u i k).Inv := by
  unfold State.stepSeq
  try dsimp only
  repeat' (first | (with_reducible (first | assumption | apply State.mgfWith_inv | apply inv_ite)) | (intro _) | split)

theorem execBulkCommand_inv (at_ : EpAt) (bytes : List Byte) (s : State) (hI : s.Inv) : State.InvO (execBulkCommand at_ bytes s) := by
  unfold execBulkCommand
  try dsimp only
  repeat' (first | (with_reducible (first | assumption | apply State.count_inv | apply State.reply_inv | apply State.mgfWith_inv | apply State.mgfSync_inv | apply State.epmPut_inv | apply State.epBusy_inv | apply State.epServed_inv | apply State.setHalt_inv | apply State.stepSeq_inv | apply State.invO_next | apply inv_ite | apply invO_ite | apply State.invO_fault)) | (intro _) | split)

theorem State.bulkDone_inv (s : State) (u : Up) (c : BulkCmd) (st : Byte) (data : List Byte) (f : Failed) (hI : s.Inv) : (State.bulkDone s u c st data f).Inv := by
  unfold State.bulkDone
  try dsimp only
  repeat' (first | (with_reducible (first | assumption | apply State.put_inv | apply State.setFlag_inv | apply State.mgfWith_inv | apply State.mgfSync_inv | apply State.epmPut_inv | apply inv_ite)) | (intro _) | split)

theorem State.bulkCut_inv (s : State) (hI : s.Inv) : (State.bulkCut s).Inv := by
  unfold State.bulkCut
  try dsimp only
  repeat' (first | (with_reducible (first | assumption | apply State.hostCut_inv | apply State.bulkDone_inv | apply inv_ite | refine inv_foldl (fun _ _ _ => ?_) ?_ | refine inv_foldl_snd (fun _ _ _ => ?_) ?_ | refine inv_foldl_fst (fun _ _ _ => ?_) ?_ | refine inv_foldl_fst2 (fun _ _ _ => ?_) ?_)) | (intro _) | split)

theorem State.ep2Broken_inv (s : State) (u : Up) (hI : s.Inv) : (State.ep2Broken s u).Inv := by
  unfold State.ep2Broken
  try dsimp only
  repeat' (first | (with_reducible (first | assumption | apply State.count_inv | apply State.mgfWith_inv | apply State.mgfSync_inv | apply State.epmError_inv | apply State.setHalt_inv)) | (intro _))

theorem execBulkRead_inv (u : Up) (parityErr : Bool) (s : State) (hI : s.Inv) : State.InvO (execBulkRead u parityErr s) := by
  unfold execBulkRead
  try dsimp -iota only
  repeat' (first | split | (with_reducible (first | assumption | apply State.hostRead_inv | apply State.bulkDone_inv | apply State.ep2Broken_inv | apply State.invO_next | apply inv_ite | apply invO_ite | apply inv_dite | refine inv_foldl (fun _ _ _ => ?_) ?_ | refine inv_foldl_snd (fun _ _ _ => ?_) ?_ | refine inv_foldl_fst (fun _ _ _ => ?_) ?_ | refine inv_foldl_fst2 (fun _ _ _ => ?_) ?_)) | (intro _) | (refine inv_of_snd (by with_reducible assumption) ?_) | (refine inv_of_snd2 (by with_reducible assumption) ?_) | (refine inv_of_snd3 (by with_reducible assumption) ?_) | (refine inv_of_fst (by with_reducible assumption) ?_))

theorem execBulkWrite_inv (u : Up) (parityErr : Bool) (s : State) (hI : s.Inv) : State.InvO (execBulkWrite u parityErr s) := by
  unfold execBulkWrite
  try dsimp -iota only
  repeat' (first | split | (with_reducible (first | assumption | apply State.hostWrite_inv | apply State.bulkDone_inv | apply State.ep2Broken_inv | apply State.invO_next | apply inv_ite | apply invO_ite | apply inv_dite | refine inv_foldl (fun _ _ _ => ?_) ?_ | refine inv_foldl_snd (fun _ _ _ => ?_) ?_ | refine inv_foldl_fst (fun _ _ _ => ?_) ?_ | refine inv_foldl_fst2 (fun _ _ _ => ?_) ?_)) | (intro _) | (refine inv_of_snd (by with_reducible assumption) ?_) | (refine inv_of_snd2 (by with_reducible assumption) ?_) | (refine inv_of_snd3 (by with_reducible assumption) ?_) | (refine inv_of_fst (by with_reducible assumption) ?_))

theorem execEp3Ack_inv (fi : FnInst) (n : Nat) (parityErr : Bool) (s : State) (hI : s.Inv) : State.InvO (execEp3Ack fi n parityErr s) := by
  unfold execEp3Ack
  try dsimp only
  repeat' (first | (with_reducible (first | assumption | apply State.count_inv | apply State.reply_inv | apply State.mgfWith_inv | apply State.mgfSync_inv | apply State.epmError_inv | apply State.epBusy_inv | apply State.epServed_inv | apply State.setHalt_inv | apply State.stepSeq_inv | apply State.invO_next | apply inv_ite | apply invO_ite)) | (intro _) | split)

theorem execNotice_inv (fi : FnInst) (parityErr : Bool) (s : State) (hI : s.Inv) : State.InvO (execNotice fi parityErr s) := by
  unfold execNotice
  try dsimp only
  repeat' (first | (with_reducible (first | assumption | apply State.count_inv | apply State.reply_inv | apply State.mgfWith_inv | apply State.epmPut_inv | apply State.epmError_inv | apply State.epBusy_inv | apply State.epServed_inv | apply State.setHalt_inv | apply State.invO_next | apply inv_ite | apply invO_ite)) | (intro _) | split)

theorem execNoticeAck_inv (u : Up) (s : State) (hI : s.Inv) : State.InvO (execNoticeAck u s) := by
  unfold execNoticeAck
  try dsimp only
  repeat' (first | (with_reducible (first | assumption | apply State.put_inv | apply State.mgfWith_inv | apply State.stepSeq_inv | apply State.invO_next | apply inv_ite | apply invO_ite)) | (intro _) | split)

theorem State.noticeWake_inv (s before : State) (hI : s.Inv) : (State.noticeWake s before).Inv := by
  unfold State.noticeWake
  try dsimp only
  repeat' (first | (with_reducible (first | assumption | apply State.upWake_inv | apply State.mgfWith_inv | apply State.propagate_inv | apply inv_ite | refine inv_foldl (fun _ _ _ => ?_) ?_ | refine inv_foldl_snd (fun _ _ _ => ?_) ?_ | refine inv_foldl_fst (fun _ _ _ => ?_) ?_ | refine inv_foldl_fst2 (fun _ _ _ => ?_) ?_)) | (intro _) | split)

theorem execFunctionWake_inv (u : Up) (s : State) (hI : s.Inv) : State.InvO (execFunctionWake u s) := by
  unfold execFunctionWake
  try dsimp only
  repeat' (first | (with_reducible (first | assumption | apply State.reply_inv | apply State.mgfWith_inv | apply State.invO_next | apply inv_ite | apply invO_ite)) | (intro _) | split)

theorem execFunctionReset_inv (u : Up) (ss : Bool) (kind : Nat) (s : State) (hI : s.Inv) : State.InvO (execFunctionReset u ss kind s) := by
  unfold execFunctionReset
  repeat' (first | (with_reducible (first | assumption | apply State.fnReset_inv | apply State.invO_next | apply inv_ite | apply invO_ite)) | split)

theorem State.epRestart_inv (s : State) (u : Up) (hI : s.Inv) : (State.epRestart s u).Inv := by
  unfold State.epRestart
  repeat' (with_reducible (first | assumption | apply State.mgfSync_inv | apply State.emptyEps_inv | apply State.clearSeqs_inv))

theorem State.fnConfigure_inv (s : State) (u : Up) (ss intf : Bool) (cfg : Nat) (hI : s.Inv) : (State.fnConfigure s u ss intf cfg).Inv := by
  unfold State.fnConfigure
  try dsimp only
  repeat' (first | (with_reducible (first | assumption | apply State.reply_inv | apply State.mgfInstWith_inv | apply State.mgfSync_inv | apply State.fnStall_inv | apply State.epRestart_inv | apply inv_ite)) | (intro _) | split)

theorem execMgfSetConfiguration_inv (u : Up) (ss intf : Bool) (cfg : Nat) (s : State) (hI : s.Inv) : State.InvO (execMgfSetConfiguration u ss intf cfg s) := by
  unfold execMgfSetConfiguration
  repeat' (with_reducible (first | assumption | apply State.fnConfigure_inv | apply State.invO_next))

theorem State.epRequest_inv (s : State) (fi : FnInst) (ep : Nat) (act : State) (hI : s.Inv) (hI1 : act.Inv) : (State.epRequest s fi ep act).Inv := by
  unfold State.epRequest
  try dsimp only
  repeat' (first | (with_reducible (first | assumption | apply State.reply_inv | apply State.fnStall_inv | apply inv_ite)) | split)

theorem execClearEndpointHalt_inv (fi : FnInst) (ep : Nat) (s : State) (hI : s.Inv) : State.InvO (execClearEndpointHalt fi ep s) := by
  unfold execClearEndpointHalt
  try dsimp only
  repeat' (first | (with_reducible (first | assumption | apply State.mgfWith_inv | apply State.mgfSync_inv | apply State.setHalt_inv | apply State.epRequest_inv | apply State.invO_next | apply inv_ite | apply invO_ite | apply inv_dite)) | (intro _) | split)

theorem execSetEndpointHalt_inv (fi : FnInst) (ep : Nat) (s : State) (hI : s.Inv) : State.InvO (execSetEndpointHalt fi ep s) := by
  unfold execSetEndpointHalt
  repeat' (with_reducible (first | assumption | apply State.setHalt_inv | apply State.epRequest_inv | apply State.invO_next))

theorem execInServiceChange_inv (u : Up) (s : State) (hI : s.Inv) : State.InvO (execInServiceChange u s) := by
  unfold execInServiceChange
  try dsimp only
  repeat' (first | (with_reducible (first | assumption | apply State.setFlag_inv | apply State.mgfSync_inv | apply State.emptyEps_inv | apply State.clearSeqs_inv | apply State.invO_next | apply inv_ite | apply invO_ite)) | split)

end Sys2Proof.Machine
end

