-- ==== Sys2Proof/Laws/InvSsQueue.lean ====
section
/-! SUPPORT. What the definitions of Machine/SsQueue.lean keep: each one leaves the invariant of Safety.lean as it was. -/

namespace Sys2Proof.Machine

set_option linter.unreachableTactic false
set_option linter.unusedTactic false

theorem State.setSsq_inv (s : State) (q : SsQueue) (l : List SsPacket) (hI : s.Inv) : (State.setSsq s q l).Inv := by
  unfold State.setSsq
  try dsimp only
  repeat' (first | (with_reducible (first | assumption | apply State.sspWith_inv | apply State.upLkWith_inv)) | (intro _) | split)

theorem State.rootDrop_inv (s : State) (u : Up) (hI : s.Inv) : (State.rootDrop s u).Inv := by
  unfold State.rootDrop
  try dsimp only
  repeat' (first | (with_reducible (first | assumption | apply State.ssHubWith_inv)) | (intro _))

theorem State.ssPush_inv (s : State) (q : SsQueue) (p : SsPacket) (hI : s.Inv) : (State.ssPush s q p).Inv := by
  unfold State.ssPush
  repeat' (first | (with_reducible (first | assumption | apply State.reply_inv | apply State.setSsq_inv | apply inv_ite | apply inv_dite)) | split)

theorem State.fromHost_inv (s : State) (u : Up) (p : SsPacket) (hI : s.Inv) : (State.fromHost s u p).Inv := by
  unfold State.fromHost
  try dsimp only
  repeat' (first | (with_reducible (first | assumption | apply State.reply_inv | apply State.presWith_inv | apply State.rootDrop_inv | apply State.ssPush_inv | apply inv_ite | apply inv_dite)) | (intro _) | split)

theorem State.fromDevice_inv (s : State) (f : Full) (p : SsPacket) (hI : s.Inv) : (State.fromDevice s f p).Inv := by
  unfold State.fromDevice
  try dsimp only
  repeat' (first | (with_reducible (first | assumption | apply State.reply_inv | apply State.sspWith_inv | apply State.ssDiscard_inv | apply State.ssPush_inv | apply inv_ite)) | (intro _) | split)

theorem State.headerErrs_inv (s : State) (hd : SsPacket) (hI : s.Inv) : (State.headerErrs s hd).Inv := by
  unfold State.headerErrs
  try dsimp only
  repeat' (first | (with_reducible (first | assumption | apply State.countBy_inv)) | split)

theorem State.countSs_inv (s : State) (k : Plate) (n : Nat) (hI : s.Inv) : (State.countSs s k n).Inv := by
  unfold State.countSs
  try dsimp only
  repeat' (with_reducible (first | assumption | apply State.put_inv))

theorem State.toPlate_inv (s : State) (u : Up) (k : Plate) (p : SsPacket) (rest : List SsPacket) (hI : s.Inv) : (State.toPlate s u k p rest).Inv := by
  unfold State.toPlate
  try dsimp only
  repeat' (first | (with_reducible (first | assumption | apply State.count_inv | apply State.setLink_inv | apply State.ssDiscard_inv | apply State.routeDrop_inv | apply State.setSsq_inv | apply State.rootDrop_inv | apply State.countSs_inv | apply inv_ite | apply inv_dite | refine inv_foldl (fun _ _ _ => ?_) ?_ | refine inv_foldl_snd (fun _ _ _ => ?_) ?_ | refine inv_foldl_fst (fun _ _ _ => ?_) ?_ | refine inv_foldl_fst2 (fun _ _ _ => ?_) ?_)) | (intro _) | split | (with_reducible apply State.Inv.set_entry) | (refine inv_of_snd (by with_reducible assumption) ?_) | (refine inv_of_snd2 (by with_reducible assumption) ?_) | (refine inv_of_snd3 (by with_reducible assumption) ?_) | (refine inv_of_fst (by with_reducible assumption) ?_))

theorem execPacketForward_inv (mv : SsSend) (s : State) (hI : s.Inv) : State.InvO (execPacketForward mv s) := by
  unfold execPacketForward
  try dsimp only
  repeat' (first | (with_reducible (first | assumption | apply State.countBy_inv | apply State.sspWith_inv | apply State.ssDiscard_inv | apply State.setUpState_inv | apply State.setSsq_inv | apply State.rootDrop_inv | apply State.countSs_inv | apply State.toPlate_inv | apply State.invO_next | apply inv_ite | apply invO_ite)) | (intro _) | split)

end Sys2Proof.Machine
end

