-- ==== Sys2Proof/Laws/InvPrs.lean ====
section
/-! SUPPORT. What the definitions of Machine/Prs.lean keep: each one leaves the invariant of Safety.lean as it was. -/

namespace Sys2Proof.Machine

set_option linter.unreachableTactic false
set_option linter.unusedTactic false

theorem State.setAttached_inv (s : State) (u : Up) (b : Bool) (hI : s.Inv) : (State.setAttached s u b).Inv := by
  unfold State.setAttached
  repeat' (with_reducible (first | assumption | apply State.setFlag_inv))

theorem State.ctxWakeUp_inv (s : State) (hc : HubCtx) (hI : s.Inv) : (State.ctxWakeUp s hc).Inv := by
  unfold State.ctxWakeUp
  try dsimp only
  repeat' (first | (with_reducible (first | assumption | apply State.hubWith_inv | apply inv_ite | apply inv_dite)) | (intro _) | split)

theorem execPresAttach_inv (u : Up) (s : State) (hI : s.Inv) : State.InvO (execPresAttach u s) := by
  unfold execPresAttach
  try dsimp only
  repeat' (first | (with_reducible (first | assumption | apply State.put_inv | apply State.raisePres_inv | apply State.presWith_inv | apply State.ssHubWith_inv | apply State.ssEval_inv | apply State.setUpState_inv | apply State.setAttached_inv | apply State.ctxWakeUp_inv | apply State.invO_next | apply inv_ite | apply invO_ite | refine inv_foldl (fun _ _ _ => ?_) ?_ | refine inv_foldl_snd (fun _ _ _ => ?_) ?_ | refine inv_foldl_fst (fun _ _ _ => ?_) ?_ | refine inv_foldl_fst2 (fun _ _ _ => ?_) ?_)) | (intro _) | split)

theorem State.upGone_inv (s : State) (u : Up) (cause : Nat) (hI : s.Inv) : (State.upGone s u cause).Inv := by
  unfold State.upGone
  try dsimp only
  repeat' (first | (with_reducible (first | assumption | apply State.put_inv | apply State.raisePres_inv | apply State.setUpState_inv | apply State.ssPresReset_inv | apply inv_ite)) | split)

theorem State.presDetach_inv (s : State) (u : Up) (cause : Nat) (hI : s.Inv) : (State.presDetach s u cause).Inv := by
  unfold State.presDetach
  try dsimp only
  repeat' (first | (with_reducible (first | assumption | apply State.raisePres_inv | apply State.presWith_inv | apply State.hubWith_inv | apply State.semOrphanHost_inv | apply State.mgfWith_inv | apply State.ctxReset_inv | apply State.setAttached_inv | apply State.upGone_inv | apply inv_ite | refine inv_foldl (fun _ _ _ => ?_) ?_ | refine inv_foldl_snd (fun _ _ _ => ?_) ?_ | refine inv_foldl_fst (fun _ _ _ => ?_) ?_ | refine inv_foldl_fst2 (fun _ _ _ => ?_) ?_)) | (intro _) | split)

theorem State.takeTopo_inv (s : State) (u : Up) (hI : s.Inv) : (State.takeTopo s u).Inv := by
  unfold State.takeTopo
  repeat' (first | (with_reducible (first | assumption | apply State.setFlag_inv | apply inv_ite)) | split)

theorem State.presRestart_inv (s : State) (u : Up) (hI : s.Inv) : (State.presRestart s u).Inv := by
  unfold State.presRestart
  try dsimp only
  repeat' (first | (with_reducible (first | assumption | apply State.presWith_inv | apply State.presDetach_inv | apply State.takeTopo_inv)) | (intro _))

theorem execReattachEnd_inv (u : Up) (s : State) (hI : s.Inv) : State.InvO (execReattachEnd u s) := by
  unfold execReattachEnd
  try dsimp only
  repeat' (first | (with_reducible (first | assumption | apply State.presWith_inv | apply State.invO_next | apply inv_ite | apply invO_ite)) | (intro _) | split)

theorem State.batchAdd_inv (s : State) (u : Up) (ps : List Port) (cause : Fin 5) (hI : s.Inv) : (State.batchAdd s u ps cause).Inv := by
  unfold State.batchAdd
  try dsimp only
  repeat' (first | (with_reducible (first | assumption | apply State.presWith_inv)) | (intro _))

theorem State.movePorts_inv (s : State) (u : Up) (ps : List Port) (cause : Fin 5) (hI : s.Inv) : (State.movePorts s u ps cause).Inv := by
  unfold State.movePorts
  try dsimp only
  repeat' (first | (with_reducible (first | assumption | apply State.moveRequest_inv | apply State.batchAdd_inv | refine inv_foldl (fun _ _ _ => ?_) ?_)) | (intro _))

theorem State.failbackCancel_inv (s : State) (u : Up) (hI : s.Inv) : (State.failbackCancel s u).Inv := by
  unfold State.failbackCancel
  try dsimp only
  repeat' (first | (with_reducible (first | assumption | apply State.moveCancel_inv | apply inv_ite | refine inv_foldl (fun _ _ _ => ?_) ?_)) | (intro _) | split)

theorem State.foDecide_inv (s : State) (u : Up) (trigger : Fin 4) (first : Bool) (hI : s.Inv) : (State.foDecide s u trigger first).Inv := by
  unfold State.foDecide
  try dsimp only
  repeat' (first | (with_reducible (first | assumption | apply State.count_inv | apply State.raisePres_inv | apply State.presWith_inv | apply State.movePorts_inv | apply State.failbackCancel_inv | apply inv_ite)) | (intro _) | split)

theorem State.failover_inv (s : State) (u : Up) (trigger : Fin 4) (first : Bool) (hI : s.Inv) : (State.failover s u trigger first).Inv := by
  unfold State.failover
  try dsimp only
  repeat' (first | (with_reducible (first | assumption | apply State.presWith_inv | apply State.foDecide_inv | apply inv_ite)) | (intro _) | split)

theorem State.liveCheck_inv (s : State) (u : Up) (trigger : Fin 4) (hI : s.Inv) : (State.liveCheck s u trigger).Inv := by
  unfold State.liveCheck
  try dsimp only
  repeat' (first | (with_reducible (first | assumption | apply State.presWith_inv | apply State.failover_inv | apply inv_ite)) | (intro _) | split)

theorem execLivenessLoss_inv (u : Up) (s : State) (hI : s.Inv) : State.InvO (execLivenessLoss u s) := by
  unfold execLivenessLoss
  try dsimp only
  repeat' (first | (with_reducible (first | assumption | apply State.presWith_inv | apply State.liveCheck_inv | apply State.invO_next)) | (intro _))

theorem execFoSuspLimitEnd_inv (u : Up) (s : State) (hI : s.Inv) : State.InvO (execFoSuspLimitEnd u s) := by
  unfold execFoSuspLimitEnd
  try dsimp only
  repeat' (first | (with_reducible (first | assumption | apply State.presWith_inv | apply State.liveCheck_inv | apply State.invO_next)) | (intro _))

theorem execPresentationLive_inv (u : Up) (s : State) (hI : s.Inv) : State.InvO (execPresentationLive u s) := by
  unfold execPresentationLive
  try dsimp only
  repeat' (first | (with_reducible (first | assumption | apply State.presWith_inv | apply State.failover_inv | apply State.invO_next | apply inv_ite | apply invO_ite)) | (intro _) | split)

theorem execUpstreamAttach_inv (u : Up) (orient : Bool) (rp : Fin 4) (vbus : Nat) (s : State) (hI : s.Inv) : State.InvO (execUpstreamAttach u orient rp vbus s) := by
  unfold execUpstreamAttach
  try dsimp only
  repeat' (first | (with_reducible (first | assumption | apply State.put_inv | apply State.setFlag_inv | apply State.invO_next | apply inv_ite | apply invO_ite)) | split)

theorem execUpstreamDetach_inv (u : Up) (s : State) (hI : s.Inv) : State.InvO (execUpstreamDetach u s) := by
  unfold execUpstreamDetach
  try dsimp only
  repeat' (first | (with_reducible (first | assumption | apply State.put_inv | apply State.free_inv | apply State.presDetach_inv | apply State.liveCheck_inv | apply State.invO_next | apply inv_ite | apply invO_ite)) | split | (with_reducible apply State.Inv.set_upWant))

theorem State.failbackTo_inv (s : State) (u : Up) (ps : List Port) (mode : Nat) (hI : s.Inv) : (State.failbackTo s u ps mode).Inv := by
  unfold State.failbackTo
  repeat' (first | (with_reducible (first | assumption | apply State.count_inv | apply State.raisePres_inv | apply State.movePorts_inv | apply inv_ite)) | split)

theorem State.fbDecide_inv (s : State) (u : Up) (hI : s.Inv) : (State.fbDecide s u).Inv := by
  unfold State.fbDecide
  try dsimp only
  repeat' (first | (with_reducible (first | assumption | apply State.failbackTo_inv | apply inv_ite)) | (intro _) | split)

theorem execFbDelayEnd_inv (u : Up) (s : State) (hI : s.Inv) : State.InvO (execFbDelayEnd u s) := by
  unfold execFbDelayEnd
  try dsimp only
  repeat' (first | (with_reducible (first | assumption | apply State.presWith_inv | apply State.fbDecide_inv | apply State.invO_next | apply inv_ite | apply invO_ite)) | (intro _) | split)

theorem execSof_inv (u : Up) (s : State) (hI : s.Inv) : State.InvO (execSof u s) := by
  unfold execSof
  try dsimp only
  repeat' (first | (with_reducible (first | assumption | apply State.presWith_inv | apply State.hubWith_inv | apply State.fbDecide_inv | apply State.invO_next | apply inv_ite | apply invO_ite | refine inv_foldl (fun _ _ _ => ?_) ?_ | refine inv_foldl_snd (fun _ _ _ => ?_) ?_ | refine inv_foldl_fst (fun _ _ _ => ?_) ?_ | refine inv_foldl_fst2 (fun _ _ _ => ?_) ?_)) | (intro _) | split)

theorem execSsHeader_inv (hd : SsPacket) (s : State) (hI : s.Inv) : State.InvO (execSsHeader hd s) := by
  unfold execSsHeader
  try dsimp only
  repeat' (first | (with_reducible (first | assumption | apply State.reply_inv | apply State.fromHost_inv | apply State.fromDevice_inv | apply State.headerErrs_inv | apply State.fbDecide_inv | apply State.invO_next | apply inv_ite | apply invO_ite | apply inv_dite)) | split)

theorem State.failbackCheck_inv (s : State) (hI : s.Inv) : (State.failbackCheck s).Inv := by
  unfold State.failbackCheck
  repeat' (first | (with_reducible (first | assumption | apply State.put_inv | apply inv_ite)) | split)

theorem State.failbackAll_inv (s : State) (hI : s.Inv) : (State.failbackAll s).Inv := by
  unfold State.failbackAll
  try dsimp only
  repeat' (first | (with_reducible (first | assumption | apply State.put_inv | apply State.failbackTo_inv | apply State.failbackCheck_inv | apply inv_ite | refine inv_foldl (fun _ _ _ => ?_) ?_ | refine inv_foldl_snd (fun _ _ _ => ?_) ?_ | refine inv_foldl_fst (fun _ _ _ => ?_) ?_ | refine inv_foldl_fst2 (fun _ _ _ => ?_) ?_)) | (intro _) | split)

theorem State.foResume_inv (s : State) (hI : s.Inv) : (State.foResume s).Inv := by
  unfold State.foResume
  try dsimp only
  repeat' (first | (with_reducible (first | assumption | apply State.presWith_inv | apply State.foDecide_inv | apply State.fbDecide_inv | apply State.failbackAll_inv | apply inv_ite | refine inv_foldl (fun _ _ _ => ?_) ?_ | refine inv_foldl_snd (fun _ _ _ => ?_) ?_ | refine inv_foldl_fst (fun _ _ _ => ?_) ?_ | refine inv_foldl_fst2 (fun _ _ _ => ?_) ?_)) | (intro _) | split)

theorem State.ssMoveUp_inv (s : State) (f : Full) (c : Fin 2) (wasThere : Bool) (hI : s.Inv) : (State.ssMoveUp s f c wasThere).Inv := by
  unfold State.ssMoveUp
  try dsimp only
  repeat' (first | (with_reducible (first | assumption | apply State.sspWith_inv | apply State.upLkWith_inv | apply State.ssDiscard_inv | apply inv_ite)) | (intro _) | split)

theorem State.ssMoveOut_inv (s : State) (f : Full) (hI : s.Inv) : (State.ssMoveOut s f).Inv := by
  unfold State.ssMoveOut
  try dsimp only
  repeat' (first | (with_reducible (first | assumption | apply State.sspWith_inv | apply State.ssDiscard_inv | apply State.ssDetect_inv | apply State.ssMoveUp_inv | apply inv_ite)) | (intro _) | split)

theorem State.moveOut_inv (s : State) (p : Port) (hI : s.Inv) : (State.moveOut s p).Inv := by
  unfold State.moveOut
  try dsimp only
  repeat' (first | (with_reducible (first | assumption | apply State.u2pWith_inv | apply State.ttDrop_inv | apply State.u2Gone_inv | apply State.u2Disable_inv | apply State.ssMoveOut_inv | apply inv_ite)) | (intro _) | split)

theorem State.movePower_inv (s : State) (p : Port) (wasTest : Bool) (hI : s.Inv) : (State.movePower s p wasTest).Inv := by
  unfold State.movePower
  try dsimp only
  repeat' (first | (with_reducible (first | assumption | apply State.ssHubWith_inv | apply State.setPowerBit_inv | apply inv_ite)) | (intro _) | split)

theorem State.moveShow_inv (s : State) (p : Port) (hI : s.Inv) : (State.moveShow s p).Inv := by
  unfold State.moveShow
  try dsimp only
  repeat' (first | (with_reducible (first | assumption | apply State.addChg_inv | apply State.addSsChg_inv | apply inv_ite)) | split)

theorem State.ownerless_inv (s : State) (p : Port) (hI : s.Inv) : (State.ownerless s p).Inv := by
  unfold State.ownerless
  repeat' (with_reducible (first | assumption | apply State.put_inv))

theorem State.ssMoveDown_inv (s : State) (p : Port) (dest : Nat) (wasTest : Bool) (hI : s.Inv) : (State.ssMoveDown s p dest wasTest).Inv := by
  unfold State.ssMoveDown
  try dsimp only
  repeat' (first | (with_reducible (first | assumption | apply State.put_inv | apply State.ssLeave_inv | apply State.movePower_inv | apply inv_ite)) | split)

theorem State.moveRecord_inv (s : State) (p : Port) (old dest : Nat) (reattached : Bool) (hI : s.Inv) : (State.moveRecord s p old dest reattached).Inv := by
  unfold State.moveRecord
  try dsimp only
  repeat' (with_reducible (first | assumption | apply State.put_inv | apply State.setFlag_inv | apply State.count_inv | apply State.raiseWith_inv | apply State.setBegun_inv))

theorem State.movePoint_inv (s : State) (p : Port) (hI : s.Inv) : (State.movePoint s p).Inv := by
  unfold State.movePoint
  try dsimp only
  repeat' (first | (with_reducible (first | assumption | apply State.u2Eval_inv | apply State.ssEvalAs_inv | apply State.toRecovery_inv | apply State.batchesEnd_inv | apply State.grvMoved_inv | apply State.grvGiven_inv | apply State.failbackCheck_inv | apply State.moveOut_inv | apply State.movePower_inv | apply State.moveShow_inv | apply State.ownerless_inv | apply State.ssMoveDown_inv | apply State.moveRecord_inv | apply inv_ite)) | split)

theorem execMovePoint_inv (p : Port) (s : State) (hI : s.Inv) : State.InvO (execMovePoint p s) := by
  unfold execMovePoint
  repeat' (first | (with_reducible (first | assumption | apply State.movePoint_inv | apply State.invO_next | apply inv_ite | apply invO_ite)) | split)

theorem State.prsRestart_inv (s : State) (hI : s.Inv) : (State.prsRestart s).Inv := by
  unfold State.prsRestart
  try dsimp only
  repeat' (first | (with_reducible (first | assumption | apply State.presWith_inv | apply State.moveCancel_inv | apply State.failbackCheck_inv | apply inv_ite | refine inv_foldl (fun _ _ _ => ?_) ?_ | refine inv_foldl_snd (fun _ _ _ => ?_) ?_ | refine inv_foldl_fst (fun _ _ _ => ?_) ?_ | refine inv_foldl_fst2 (fun _ _ _ => ?_) ?_)) | (intro _) | split)

theorem State.prsResume_inv (s : State) (hI : s.Inv) : (State.prsResume s).Inv := by
  unfold State.prsResume
  try dsimp only
  repeat' (first | (with_reducible (first | assumption | apply State.setBegun_inv | apply State.foResume_inv | apply inv_ite | refine inv_foldl (fun _ _ _ => ?_) ?_)) | (intro _) | split)

end Sys2Proof.Machine
end

