-- ==== Sys2Proof/Laws/InvStore.lean ====
section
/-! SUPPORT. What the definitions of Machine/Store.lean keep: each one leaves the invariant of Safety.lean as it was. -/

namespace Sys2Proof.Machine

set_option linter.unreachableTactic false
set_option linter.unusedTactic false

theorem State.fixMode_inv (s : State) (hI : s.Inv) : (State.fixMode s).Inv := by
  unfold State.fixMode
  try dsimp only
  repeat' (with_reducible (first | assumption | apply State.put_inv | apply State.setFlag_inv))

theorem State.noteBanks_inv (s : State) (hI : s.Inv) : (State.noteBanks s).Inv := by
  unfold State.noteBanks
  try dsimp only
  repeat' (first | (with_reducible (first | assumption | apply State.put_inv | apply State.setFlag_inv | apply inv_ite)) | split)

theorem State.setActive_inv (s : State) (b : Fin 2) (hI : s.Inv) : (State.setActive s b).Inv := by
  unfold State.setActive
  repeat' (with_reducible (first | assumption | apply State.put_inv | apply State.setFlag_inv))

theorem State.loadReg_inv (s : State) (pg : PageId) (off : Nat) (v : Word) (hI : s.Inv) : (State.loadReg s pg off v).Inv := by
  unfold State.loadReg
  try dsimp only
  repeat' (with_reducible (first | assumption | apply State.wr_inv | apply State.dropParity_inv))

theorem State.storedReset_inv (s : State) (pg : PageId) (hI : s.Inv) : (State.storedReset s pg).Inv := by
  unfold State.storedReset
  try dsimp only
  repeat' (first | (with_reducible (first | assumption | apply State.loadReg_inv | refine inv_foldl (fun _ _ _ => ?_) ?_)) | (intro _))

theorem State.skipEntry_inv (s : State) (hI : s.Inv) : (State.skipEntry s).Inv := by
  unfold State.skipEntry
  repeat' (with_reducible (first | assumption | apply State.count_inv))

theorem State.applyEntry_inv (s : State) (only : PageId → Bool) (tag inst addr : Nat) (v : Word) (hI : s.Inv) : (State.applyEntry s only tag inst addr v).Inv := by
  unfold State.applyEntry
  try dsimp only
  repeat' (first | (with_reducible (first | assumption | apply State.loadReg_inv | apply State.skipEntry_inv | apply inv_ite)) | split)

theorem State.applyList_inv (s : State) (only : PageId → Bool) (g : Nat → Byte) (sec : Section) (hI : s.Inv) : (State.applyList s only g sec).Inv := by
  unfold State.applyList
  try dsimp only
  repeat' (first | (with_reducible (first | assumption | apply State.skipEntry_inv | apply State.applyEntry_inv | apply inv_ite | refine inv_foldl (fun _ _ _ => ?_) ?_)) | (intro _) | split)

theorem State.applyPolicy_inv (s : State) (p : Port) (g : Nat → Byte) (o : Nat) (hI : s.Inv) : (State.applyPolicy s p g o).Inv := by
  unfold State.applyPolicy
  try dsimp only
  repeat' (first | (with_reducible (first | assumption | apply State.put_inv | apply State.putRw_inv | apply State.loadReg_inv | apply inv_ite | refine inv_foldl (fun _ _ _ => ?_) ?_)) | (intro _) | split)

theorem State.applyDesc_inv (s : State) (u : Up) (g : Nat → Byte) (sec : Section) (hI : s.Inv) : (State.applyDesc s u g sec).Inv := by
  unfold State.applyDesc
  try dsimp -iota only
  repeat' (first | split | (with_reducible (first | assumption | apply State.countBy_inv | apply State.presWith_inv)) | (intro _) | (refine inv_of_snd (by with_reducible assumption) ?_))

theorem State.applyCompat_inv (s : State) (i : Inst) (g : Nat → Byte) (o : Nat) (hI : s.Inv) : (State.applyCompat s i g o).Inv := by
  unfold State.applyCompat
  try dsimp only
  repeat' (first | (with_reducible (first | assumption | apply State.setCptByte_inv | refine inv_foldl (fun _ _ _ => ?_) ?_)) | (intro _))

theorem State.applyTemplates_inv (s : State) (g : Nat → Byte) (sec : Section) (h : s.Inv) : (State.applyTemplates s g sec).Inv :=
  { h with templates := Sparse.foldl_put_wf _ _ _ (Sparse.nil_wf zeroByte), buffer := h.buffer }

theorem State.applySection_inv (s : State) (only : PageId → Bool) (g : Nat → Byte) (sec : Section) (hI : s.Inv) : (State.applySection s only g sec).Inv := by
  unfold State.applySection
  try dsimp only
  repeat' (first | (with_reducible (first | assumption | apply State.applyList_inv | apply State.applyPolicy_inv | apply State.applyDesc_inv | apply State.applyCompat_inv | apply State.applyTemplates_inv | apply inv_ite | apply inv_dite | refine inv_foldl (fun _ _ _ => ?_) ?_ | refine inv_foldl_snd (fun _ _ _ => ?_) ?_ | refine inv_foldl_fst (fun _ _ _ => ?_) ?_ | refine inv_foldl_fst2 (fun _ _ _ => ?_) ?_)) | (intro _) | split | (refine inv_of_snd (by with_reducible assumption) ?_) | (refine inv_of_snd2 (by with_reducible assumption) ?_) | (refine inv_of_snd3 (by with_reducible assumption) ?_) | (refine inv_of_fst (by with_reducible assumption) ?_))

theorem State.applyTag_inv (s : State) (only : PageId → Bool) (g : Nat → Byte) (secs : List Section) (tag inst : Nat) (hI : s.Inv) : (State.applyTag s only g secs tag inst).Inv := by
  unfold State.applyTag
  try dsimp only
  repeat' (first | (with_reducible (first | assumption | apply State.applySection_inv | refine inv_foldl (fun _ _ _ => ?_) ?_)) | (intro _))

theorem State.restore_inv (s : State) (tags : List (Nat × Nat)) (hI : s.Inv) : (State.restore s tags).Inv := by
  unfold State.restore
  try dsimp only
  repeat' (first | (with_reducible (first | assumption | apply State.put_inv | apply State.countBy_inv | apply State.applyTag_inv | refine inv_foldl (fun _ _ _ => ?_) ?_)) | (intro _) | split)

theorem State.reapply_inv (s : State) (only : PageId → Bool) (tag inst : Nat) (hI : s.Inv) : (State.reapply s only tag inst).Inv := by
  unfold State.reapply
  try dsimp only
  repeat' (first | (with_reducible (first | assumption | apply State.put_inv | apply State.applyTag_inv)) | split)

theorem State.stageStep_inv (s : State) (hI : s.Inv) : (State.stageStep s).Inv := by
  unfold State.stageStep
  repeat' (with_reducible (first | assumption | apply State.putRw_inv))

theorem State.stagePut_inv (s : State) (o : Nat) (bs : List Byte) (h : s.Inv) : (State.stagePut s o bs).Inv :=
  { h with stage := Sparse.foldl_put_wf ((List.range bs.length).zip bs) (fun e => o + e.1) (fun e => e.2) h.stage }

theorem State.stageWrite_inv (s : State) (be : BitVec 4) (v : Word) (hI : s.Inv) : (State.stageWrite s be v).Inv := by
  unfold State.stageWrite
  try dsimp only
  repeat' (first | (with_reducible (first | assumption | apply State.setFault_inv | apply State.stageStep_inv | apply State.stagePut_inv | apply inv_ite | refine inv_foldl (fun _ _ _ => ?_) ?_)) | (intro _) | split)

theorem State.stageRead_inv (s : State) (hI : s.Inv) : (State.stageRead s).2.Inv := by
  unfold State.stageRead
  repeat' (first | (with_reducible (first | assumption | apply State.setFault_inv | apply State.stageStep_inv | apply inv_ite)) | split)

theorem State.setCfgOp_inv (s : State) (o : CfgOp) (hI : s.Inv) : (State.setCfgOp s o).Inv := by
  unfold State.setCfgOp
  try dsimp only
  repeat' (first | (with_reducible (first | assumption | apply State.setFlag_inv)) | (with_reducible apply State.Inv.set_cfgOp))

theorem State.setCfgCtrl_inv (s : State) (v : Nat) (hI : s.Inv) : (State.setCfgCtrl s v).Inv := by
  unfold State.setCfgCtrl
  repeat' (with_reducible (first | assumption | apply State.put_inv))

theorem State.cfgEnd_inv (s : State) (code : Nat) (hI : s.Inv) : (State.cfgEnd s code).Inv := by
  unfold State.cfgEnd
  repeat' (with_reducible (first | assumption | apply State.put_inv | apply State.setCfgOp_inv | apply State.setCfgCtrl_inv))

theorem State.commitFail_inv (s : State) (code : Nat) (target : Fin 2) (hI : s.Inv) : (State.commitFail s code target).Inv := by
  unfold State.commitFail
  repeat' (with_reducible (first | assumption | apply State.raise_inv | apply State.cfgEnd_inv))

theorem State.cmdCommit_inv (s : State) (parityErr : Bool) (hI : s.Inv) : (State.cmdCommit s parityErr).Inv := by
  unfold State.cmdCommit
  try dsimp -iota only
  repeat' (first | split | (with_reducible (first | assumption | apply State.setFault_inv | apply State.askLeave_inv | apply State.noteBanks_inv | apply State.setCfgOp_inv | apply State.setCfgCtrl_inv | apply State.commitFail_inv | apply inv_ite)) | (refine inv_of_snd (by with_reducible assumption) ?_))

theorem State.commitGranted_inv (s : State) (hI : s.Inv) : (State.commitGranted s).Inv := by
  unfold State.commitGranted
  try dsimp only
  repeat' (first | (with_reducible (first | assumption | apply State.setFault_inv | apply State.setCfgOp_inv | apply inv_ite)) | split | (with_reducible apply State.Inv.set_wear))

theorem State.bankPut_inv (s : State) (b : Fin 2) (es : List (Nat × Byte)) (h : s.Inv) : (State.bankPut s b es).Inv :=
  { h with
    mram := fun c => by
      by_cases hc : b = c
      · subst hc
        have := Sparse.foldl_put_wf es (fun e => e.1) (fun e => e.2) (h.mram b)
        have e : (s.bankPut b es).mram[b] = es.foldl (fun l e => Sparse.put (fun _ => (0 : Byte)) l e.1 e.2) s.mram[b] := by
          simp [State.bankPut]
        rw [e]; exact this
      · have hv : b.val ≠ c.val := fun e => hc (Fin.ext e)
        have := h.mram c
        simp [State.bankPut, hv]
        simpa using this }

theorem State.bankSpoil_inv (s : State) (b : Fin 2) (hI : s.Inv) : (State.bankSpoil s b).Inv := by
  unfold State.bankSpoil
  try dsimp only
  repeat' (first | (with_reducible (first | assumption | apply State.free_inv | apply State.bankPut_inv)) | (intro _) | (with_reducible apply State.Inv.set_bad))

theorem State.commitEnd_inv (s : State) (ok : Bool) (hI : s.Inv) : (State.commitEnd s ok).Inv := by
  unfold State.commitEnd
  try dsimp only
  repeat' (first | (with_reducible (first | assumption | apply State.raise_inv | apply State.opDone_inv | apply State.noteBanks_inv | apply State.setActive_inv | apply State.stagePut_inv | apply State.cfgEnd_inv | apply State.commitFail_inv | apply State.bankPut_inv | apply State.bankSpoil_inv | apply inv_ite)) | split)

theorem State.commitCut_inv (s : State) (hI : s.Inv) : (State.commitCut s).Inv := by
  unfold State.commitCut
  try dsimp only
  repeat' (first | (with_reducible (first | assumption | apply State.free_inv | apply State.bankPut_inv)) | split)

theorem State.fetchBegin_inv (s : State) (src : Option (Fin 2)) (cmd : Nat) (hI : s.Inv) : (State.fetchBegin s src cmd).Inv := by
  unfold State.fetchBegin
  repeat' (with_reducible (first | assumption | apply State.noteBanks_inv | apply State.setCfgOp_inv | apply State.setCfgCtrl_inv))

theorem State.cmdFetchActive_inv (s : State) (hI : s.Inv) : (State.cmdFetchActive s).Inv := by
  unfold State.cmdFetchActive
  repeat' (first | (with_reducible (first | assumption | apply State.setFault_inv | apply State.fetchBegin_inv | apply inv_ite)) | split)

theorem State.cmdFetchOther_inv (s : State) (hI : s.Inv) : (State.cmdFetchOther s).Inv := by
  unfold State.cmdFetchOther
  try dsimp only
  repeat' (first | (with_reducible (first | assumption | apply State.setFault_inv | apply State.fetchBegin_inv | apply inv_ite)) | split | (refine inv_of_snd (by with_reducible assumption) ?_))

theorem State.fetchDone_inv (s : State) (hI : s.Inv) : (State.fetchDone s).Inv := by
  unfold State.fetchDone
  try dsimp only
  repeat' (first | (with_reducible (first | assumption | apply State.stagePut_inv | apply State.cfgEnd_inv)) | split)

theorem execCommitLeaveTimeout_inv (s : State) (hI : s.Inv) : State.InvO (execCommitLeaveTimeout s) := by
  unfold execCommitLeaveTimeout
  try dsimp only
  repeat' (first | (with_reducible (first | assumption | apply State.withdraw_inv | apply State.commitFail_inv | apply State.invO_next)) | split)

theorem execCommitWriteEnd_inv (ok : Bool) (s : State) (hI : s.Inv) : State.InvO (execCommitWriteEnd ok s) := by
  unfold execCommitWriteEnd
  repeat' (with_reducible (first | assumption | apply State.commitEnd_inv | apply State.invO_next))

theorem execFetchEnd_inv (s : State) (hI : s.Inv) : State.InvO (execFetchEnd s) := by
  unfold execFetchEnd
  repeat' (with_reducible (first | assumption | apply State.fetchDone_inv | apply State.invO_next))

end Sys2Proof.Machine
end

