-- ==== Sys2Proof/Laws/InvPortReset.lean ====
section
/-! SUPPORT. What the definitions of Machine/PortReset.lean keep: each one leaves the invariant of Safety.lean as it was. -/

namespace Sys2Proof.Machine

set_option linter.unreachableTactic false
set_option linter.unusedTactic false

theorem State.clearPage_inv (s : State) (pg : PageId) (hI : s.Inv) : (State.clearPage s pg).Inv := by
  unfold State.clearPage
  repeat' (with_reducible (first | assumption | apply State.clearRegs_inv | apply State.dropParity_inv))

theorem State.sspClear_inv (s : State) (f : Full) (hI : s.Inv) : (State.sspClear s f).Inv := by
  unfold State.sspClear
  try dsimp only
  repeat' (first | (with_reducible (first | assumption | apply State.sspWith_inv | apply State.clearPage_inv)) | (intro _))

theorem State.lrKeep_inv (s : State) (p : Port) (hI : s.Inv) : (State.lrKeep s p).2.Inv := by
  unfold State.lrKeep
  try dsimp only
  repeat' (first | (with_reducible (first | assumption | apply State.free_inv | apply inv_ite)) | split)

theorem State.portClear_inv (s0 : State) (p : Port) (hI : s0.Inv) : (State.portClear s0 p).Inv := by
  unfold State.portClear
  try dsimp -iota only
  repeat' (first | split | (with_reducible (first | assumption | apply State.put_inv | apply State.u2pWith_inv | apply State.vbsWith_inv | apply State.tcpWith_inv | apply State.pdWith_inv | apply State.conWith_inv | apply State.lheWith_inv | apply State.clearPage_inv | apply State.sspClear_inv | apply State.lrKeep_inv | apply inv_ite)) | (intro _) | (refine inv_of_snd (by with_reducible assumption) ?_))

theorem State.portReset_inv (s : State) (p : Port) (hI : s.Inv) : (State.portReset s p).Inv := by
  unfold State.portReset
  try dsimp only
  repeat' (first | (with_reducible (first | assumption | apply State.put_inv | apply State.u2Eval_inv | apply State.ssEvalAs_inv | apply State.vbsOpen_inv | apply State.ccDisable_inv | apply State.moveCancel_inv | apply State.lheReset_inv | apply State.failbackCheck_inv | apply State.portClear_inv | apply inv_ite)) | split)

theorem State.portBlank_inv (s : State) (p : Port) (hI : s.Inv) : (State.portBlank s p).Inv := by
  unfold State.portBlank
  try dsimp only
  repeat' (first | (with_reducible (first | assumption | apply State.put_inv | apply State.storedReset_inv | refine inv_foldl (fun _ _ _ => ?_) ?_ | refine inv_foldl_snd (fun _ _ _ => ?_) ?_ | refine inv_foldl_fst (fun _ _ _ => ?_) ?_ | refine inv_foldl_fst2 (fun _ _ _ => ?_) ?_)) | (intro _) | split)

theorem State.lrRestore_inv (s : State) (p : Port) (hI : s.Inv) : (State.lrRestore s p).Inv := by
  unfold State.lrRestore
  try dsimp only
  repeat' (first | (with_reducible (first | assumption | apply State.put_inv | apply State.tcpWith_inv)) | (intro _) | split)

theorem State.portRestore_inv (s : State) (p : Port) (hI : s.Inv) : (State.portRestore s p).Inv := by
  unfold State.portRestore
  repeat' (with_reducible (first | assumption | apply State.restore_inv | apply State.portBlank_inv | apply State.lrRestore_inv))

theorem State.restoreCheck_inv (s : State) (k : Plate) (hI : s.Inv) : (State.restoreCheck s k).Inv := by
  unfold State.restoreCheck
  try dsimp only
  repeat' (first | (with_reducible (first | assumption | apply State.put_inv | apply State.raise_inv | apply inv_ite | refine inv_foldl (fun _ _ _ => ?_) ?_)) | (intro _) | split)

theorem State.quarForget_inv (s : State) (p : Port) (hI : s.Inv) : (State.quarForget s p).Inv := by
  unfold State.quarForget
  repeat' (first | (with_reducible (first | assumption | apply State.put_inv | apply inv_ite)) | split)

theorem State.portEnter_inv (s0 : State) (p : Port) (hI : s0.Inv) : (State.portEnter s0 p).Inv := by
  unfold State.portEnter
  try dsimp only
  repeat' (with_reducible (first | assumption | apply State.put_inv | apply State.setFlag_inv | apply State.usbEval_inv | apply State.vsetLoad_inv | apply State.ccStart_inv | apply State.moveRequest_inv | apply State.restoreCheck_inv | apply State.quarForget_inv))

theorem State.portRelease_inv (s : State) (p : Port) (hI : s.Inv) : (State.portRelease s p).Inv := by
  unfold State.portRelease
  try dsimp only
  repeat' (first | (with_reducible (first | assumption | apply State.portRestore_inv | apply State.portEnter_inv | apply inv_ite)) | split)

theorem State.portFollow_inv (s : State) (p : Port) (hI : s.Inv) : (State.portFollow s p).Inv := by
  unfold State.portFollow
  repeat' (first | (with_reducible (first | assumption | apply State.portReset_inv | apply State.portRelease_inv | apply inv_ite)) | split)

theorem State.dischargeOver_inv (s : State) (p : Port) (hI : s.Inv) : (State.dischargeOver s p).Inv := by
  unfold State.dischargeOver
  try dsimp only
  repeat' (first | (with_reducible (first | assumption | apply State.put_inv | apply State.healthWith_inv | apply State.vbsWith_inv | apply State.portFollow_inv | apply inv_ite)) | (intro _) | split)

theorem execDischargeEnd_inv (p : Port) (s : State) (hI : s.Inv) : State.InvO (execDischargeEnd p s) := by
  unfold execDischargeEnd
  try dsimp only
  repeat' (first | (with_reducible (first | assumption | apply State.vbsWith_inv | apply State.askTurnOn_inv | apply State.dischargeOver_inv | apply State.invO_next | apply inv_ite | apply invO_ite)) | (intro _) | split)

theorem execDschMaxEnd_inv (p : Port) (s : State) (hI : s.Inv) : State.InvO (execDschMaxEnd p s) := by
  unfold execDschMaxEnd
  try dsimp only
  repeat' (first | (with_reducible (first | assumption | apply State.setFault_inv | apply State.healthWith_inv | apply State.vbsWith_inv | apply State.countErr_inv | apply State.dischargeOver_inv | apply State.invO_next | apply inv_ite | apply invO_ite)) | (intro _) | split)

end Sys2Proof.Machine
end

