-- ==== Sys2Proof/Laws/InvCpt.lean ====
section
/-! SUPPORT. What the definitions of Machine/Cpt.lean keep: each one leaves the invariant of Safety.lean as it was. -/

namespace Sys2Proof.Machine

set_option linter.unreachableTactic false
set_option linter.unusedTactic false

theorem State.setDirect_inv (s : State) (u : Up) (b : Bool) (hI : s.Inv) : (State.setDirect s u b).Inv := by
  unfold State.setDirect
  repeat' (first | (with_reducible (first | assumption | apply State.setFlag_inv | apply inv_ite)) | split)

theorem State.instCtxReset_inv (s : State) (i : Inst) (hI : s.Inv) : (State.instCtxReset s i).Inv := by
  unfold State.instCtxReset
  try dsimp only
  repeat' (first | (with_reducible (first | assumption | apply State.hubWith_inv | apply State.ctxResetPort_inv | refine inv_foldl (fun _ _ _ => ?_) ?_)) | (intro _))

theorem State.instLeave_inv (s : State) (i : Inst) (hI : s.Inv) : (State.instLeave s i).Inv := by
  unfold State.instLeave
  try dsimp only
  repeat' (first | (with_reducible (first | assumption | apply State.rootChgWith_inv | apply State.presDetach_inv | apply inv_ite)) | split)

theorem State.instHold_inv (s : State) (i : Inst) (hI : s.Inv) : (State.instHold s i).Inv := by
  unfold State.instHold
  try dsimp only
  repeat' (first | (with_reducible (first | assumption | apply State.put_inv | apply State.setFlag_inv | refine State.cptWith_inv _ _ _ ?_ ?_ | apply State.setCptByte_inv | apply State.portFollow_inv | apply State.instCtxReset_inv | apply State.instLeave_inv | apply inv_ite | refine inv_foldl (fun _ _ _ => ?_) ?_ | refine inv_foldl_snd (fun _ _ _ => ?_) ?_ | refine inv_foldl_fst (fun _ _ _ => ?_) ?_ | refine inv_foldl_fst2 (fun _ _ _ => ?_) ?_)) | (exact fun _ hc => hc) | (intro _) | split)

theorem State.instArea_wf (s : State) (i : Inst) : Sparse.wf zeroByte (s.instArea i) :=
  Sparse.foldl_put_wf ((List.range 0xC0).filter cptStored) (fun a => a) (fun a => BitVec.ofNat 8 (s.cptByte i a)) (Sparse.nil_wf zeroByte)

theorem State.u2hWritten_inv (s0 s : State) (k : Plate) (off : Nat) (hI1 : s.Inv) : (State.u2hWritten s0 s k off).Inv := by
  unfold State.u2hWritten
  try dsimp only
  repeat' (first | (with_reducible (first | assumption | apply State.ttReset_inv | apply inv_ite | refine inv_foldl (fun _ _ _ => ?_) ?_)) | (intro _) | split)

theorem State.instAttach_inv (s : State) (i : Inst) (cmd : Option Bool) (hI : s.Inv) : (State.instAttach s i cmd).Inv := by
  unfold State.instAttach
  try dsimp only
  repeat' (first | (with_reducible (first | assumption | apply State.put_inv | apply State.count_inv | apply State.raise_inv | apply State.putRw_inv | refine State.cptWith_inv _ _ _ ?_ ?_ | apply State.setCptByte_inv | apply State.cptSeen_inv | apply State.rootChgWith_inv | apply State.ctxWakeUp_inv | apply State.portFollow_inv | apply State.instArea_inv | apply State.u2hWritten_inv | apply inv_ite | refine inv_foldl (fun _ _ _ => ?_) ?_ | refine inv_foldl_snd (fun _ _ _ => ?_) ?_ | refine inv_foldl_fst (fun _ _ _ => ?_) ?_ | refine inv_foldl_fst2 (fun _ _ _ => ?_) ?_)) | (exact fun _ _ => State.instArea_wf _ _) | (intro _) | split)

theorem State.attachCmd_inv (s : State) (i : Inst) (i2c : Bool) (hI : s.Inv) : (State.attachCmd s i i2c).Inv := by
  unfold State.attachCmd
  try dsimp only
  repeat' (first | (with_reducible (first | assumption | refine State.cptWith_inv _ _ _ ?_ ?_ | apply State.instAttach_inv | apply inv_ite)) | (exact fun _ hc => hc) | (intro _) | split)

theorem State.attachDue_inv (s : State) (i : Inst) (hI : s.Inv) : (State.attachDue s i).Inv := by
  unfold State.attachDue
  try dsimp only
  repeat' (first | (with_reducible (first | assumption | apply State.instAttach_inv | apply inv_ite)) | split)

theorem execHoldTimeout_inv (i : Inst) (s : State) (hI : s.Inv) : State.InvO (execHoldTimeout i s) := by
  unfold execHoldTimeout
  try dsimp only
  repeat' (first | (with_reducible (first | assumption | refine State.cptWith_inv _ _ _ ?_ ?_ | apply State.instAttach_inv | apply State.invO_next | apply inv_ite | apply invO_ite)) | (exact fun _ hc => hc) | (intro _) | split)

theorem State.directFollow_inv (s : State) (hI : s.Inv) : (State.directFollow s).Inv := by
  unfold State.directFollow
  try dsimp only
  repeat' (first | (with_reducible (first | assumption | apply State.presRestart_inv | apply State.setDirect_inv | apply State.instHold_inv | apply inv_ite | refine inv_foldl (fun _ _ _ => ?_) ?_ | refine inv_foldl_snd (fun _ _ _ => ?_) ?_ | refine inv_foldl_fst (fun _ _ _ => ?_) ?_ | refine inv_foldl_fst2 (fun _ _ _ => ?_) ?_)) | (intro _) | split)

theorem State.cptCfgWritten_inv (s : State) (old : Word) (hI : s.Inv) : (State.cptCfgWritten s old).Inv := by
  unfold State.cptCfgWritten
  try dsimp only
  repeat' (first | (with_reducible (first | assumption | apply State.wr_inv | apply State.put_inv | apply State.moveDecide_inv | apply State.presRestart_inv | apply State.portFollow_inv | apply State.instLeave_inv | apply State.instHold_inv | apply State.directFollow_inv | apply inv_ite | refine inv_foldl (fun _ _ _ => ?_) ?_ | refine inv_foldl_snd (fun _ _ _ => ?_) ?_ | refine inv_foldl_fst (fun _ _ _ => ?_) ?_ | refine inv_foldl_fst2 (fun _ _ _ => ?_) ?_)) | (intro _) | split)

theorem State.instReset_inv (s : State) (i : Inst) (hI : s.Inv) : (State.instReset s i).Inv := by
  unfold State.instReset
  try dsimp only
  repeat' (first | (with_reducible (first | assumption | refine State.cptWith_inv _ _ _ ?_ ?_ | apply State.reapply_inv | apply State.clearPage_inv | apply State.instHold_inv | apply inv_ite)) | (exact fun _ hc => hc) | (intro _) | split)

theorem State.instResets_inv (s : State) (mask : Byte) (hI : s.Inv) : (State.instResets s mask).Inv := by
  unfold State.instResets
  try dsimp only
  repeat' (first | (with_reducible (first | assumption | apply State.instReset_inv | apply inv_ite | refine inv_foldl (fun _ _ _ => ?_) ?_)) | (intro _) | split)

theorem State.cptRestart_inv (s : State) (hI : s.Inv) : (State.cptRestart s).Inv := by
  unfold State.cptRestart
  try dsimp only
  repeat' (first | (with_reducible (first | assumption | apply State.instHold_inv | apply inv_ite | refine inv_foldl (fun _ _ _ => ?_) ?_)) | (intro _) | split)

theorem State.winWrite_inv (s : State) (i2c : Bool) (i : Inst) (a : Nat) (v : Byte) (hI : s.Inv) : (State.winWrite s i2c i a v).Inv := by
  unfold State.winWrite
  try dsimp -iota only
  repeat' (first | split | (with_reducible (first | assumption | apply State.count_inv | apply State.mendParity_inv | apply State.setCptByte_inv | apply State.cptSeen_inv | apply State.attachCmd_inv | apply State.attachDue_inv | apply inv_ite)) | (refine inv_of_snd (by with_reducible assumption) ?_))

theorem State.winRead_inv (s : State) (i : Inst) (a : Nat) (hI : s.Inv) : (State.winRead s i a).2.Inv := by
  unfold State.winRead
  try dsimp only
  repeat' (first | (with_reducible (first | assumption | apply State.setCptByte_inv | apply inv_ite)) | split)

theorem State.legCheck_inv (s : State) (hI : s.Inv) : (State.legCheck s).Inv := by
  unfold State.legCheck
  try dsimp only
  repeat' (first | (with_reducible (first | assumption | apply State.setFlag_inv | apply State.raise_inv | apply inv_ite)) | split)

theorem execLegAddress_inv (addr : BitVec 7) (rd : Bool) (s : State) (hI : s.Inv) : State.InvO (execLegAddress addr rd s) := by
  unfold execLegAddress
  try dsimp only
  repeat' (first | (with_reducible (first | assumption | apply State.reply_inv | apply State.invO_next | apply inv_ite | apply invO_ite)) | split | (with_reducible apply State.Inv.set_legacy) | (refine inv_of_snd (by with_reducible assumption) ?_))

theorem execLegWriteByte_inv (b : Byte) (s : State) (hI : s.Inv) : State.InvO (execLegWriteByte b s) := by
  unfold execLegWriteByte
  try dsimp only
  repeat' (first | (with_reducible (first | assumption | apply State.reply_inv | refine State.cptWith_inv _ _ _ ?_ ?_ | apply State.winWrite_inv | apply State.invO_next | apply inv_ite | apply invO_ite)) | (exact fun _ hc => hc) | (intro _) | split | (with_reducible apply State.Inv.set_legacy) | (refine inv_of_snd (by with_reducible assumption) ?_))

theorem execLegReadByte_inv (s : State) (hI : s.Inv) : State.InvO (execLegReadByte s) := by
  unfold execLegReadByte
  try dsimp -iota only
  repeat' (first | split | (with_reducible (first | assumption | apply State.reply_inv | apply State.findParity_inv | refine State.cptWith_inv _ _ _ ?_ ?_ | apply State.winRead_inv | apply State.invO_next | apply inv_ite | apply invO_ite)) | (exact fun _ hc => hc) | (intro _) | (refine inv_of_snd (by with_reducible assumption) ?_))

theorem execLegSclTimeout_inv (s : State) (hI : s.Inv) : State.InvO (execLegSclTimeout s) := by
  unfold execLegSclTimeout
  try dsimp only
  repeat' (first | (with_reducible (first | assumption | apply State.count_inv | apply State.invO_next | apply inv_ite | apply invO_ite)) | split | (with_reducible apply State.Inv.set_legacy))

end Sys2Proof.Machine
end

