-- ==== Sys2Proof/Laws/InvDesc.lean ====
section
/-! SUPPORT. What the definitions of Machine/Desc.lean keep: each one leaves the invariant of Safety.lean as it was. -/

namespace Sys2Proof.Machine

set_option linter.unreachableTactic false
set_option linter.unusedTactic false

theorem State.freeBytes_inv (s : State) (n : Nat) (h : s.Inv) : (State.freeBytes s n).2.Inv := by
  induction n with
  | zero => exact h
  | succ n ih => exact State.free_inv _ ih

theorem State.ssHubDescriptor_inv (s : State) (sc : SsCtx) (hI : s.Inv) : (State.ssHubDescriptor s sc).2.Inv := by
  unfold State.ssHubDescriptor
  try dsimp only
  repeat' (first | (with_reducible (first | assumption | apply State.free_inv)) | (intro _) | split)

theorem State.ssHubDesc_inv (s t : State) (sc : SsCtx) (kind idx : Nat) (bs : List Byte) (h : s.Inv)
    (ht : s.ssHubDesc sc kind idx = some (bs, t)) : t.Inv := by
  unfold State.ssHubDesc at ht
  dsimp only at ht
  repeat' split at ht
  all_goals first
    | (injection ht with ht; with_reducible exact inv_of_snd ht h)
    | (cases ht; done)
    | (cases hp : s.presString (ssCtxUp sc) idx <;> rw [hp] at ht <;> cases ht <;> exact h)
    | (injection ht with ht; with_reducible exact inv_of_snd ht (State.ssBos_inv _ _ _ h))
    | (injection ht with ht; with_reducible exact inv_of_snd ht (State.ssHubDescriptor_inv _ _ h))

theorem State.fnDesc_inv (s t : State) (u : Up) (ss : Bool) (kind idx : Nat) (bs : List Byte) (h : s.Inv)
    (ht : s.fnDesc u ss kind idx = some (bs, t)) : t.Inv := by
  unfold State.fnDesc at ht
  dsimp only at ht
  repeat' split at ht
  all_goals first
    | (injection ht with ht; with_reducible exact inv_of_snd ht h)
    | (cases ht; done)
    | (cases hp : s.presString u idx <;> rw [hp] at ht <;> cases ht <;> exact h)
    | (injection ht with ht; with_reducible exact inv_of_snd ht (State.ssBos_inv _ _ _ h))

theorem State.descReply_inv (s : State) (len : Nat) (o : Option (List Byte × State)) (h : s.Inv)
    (ho : ∀ bs t, o = some (bs, t) → t.Inv) : (State.descReply s len o).Inv := by
  cases o with
  | none => exact State.reply_inv _ _ h
  | some p => exact State.reply_inv _ _ (ho p.1 p.2 rfl)

theorem State.fnData_inv (s : State) (u : Up) (ss : Bool) (bs : List Byte) (parityErr : Bool) (hI : s.Inv) : (State.fnData s u ss bs parityErr).Inv := by
  unfold State.fnData
  try dsimp only
  repeat' (first | (with_reducible (first | assumption | apply State.reply_inv | apply State.epmPut_inv | apply State.epmError_inv | apply State.fnStall_inv | apply inv_ite | refine inv_foldl (fun _ _ _ => ?_) ?_)) | (intro _) | split)

theorem execGetDescriptor_inv (dev : PresDevice) (desc : DescId) (lang : BitVec 16) (len : Nat) (parityErr : Bool) (s : State)
    (h : s.Inv) : State.InvO (execGetDescriptor dev desc lang len parityErr s) := by
  unfold execGetDescriptor
  dsimp only
  cases dev with
  | hub hc =>
    refine State.invO_next (State.ctxRequest_inv _ _ _ h (State.descReply_inv _ _ _ h (fun bs t e => ?_)))
    cases hp : s.hubDesc hc desc.kind.toNat desc.idx.toNat lang.toNat <;> rw [hp] at e <;> cases e
    exact h
  | ssHub sc =>
    exact State.invO_next (inv_ite (State.descReply_inv _ _ _ h (fun bs t e => State.ssHubDesc_inv s t sc _ _ bs h e)) (State.reply_inv _ _ h))
  | fn u ss =>
    refine State.invO_next (inv_ite (State.reply_inv _ _ h) ?_)
    cases hp : s.fnDesc u ss desc.kind.toNat desc.idx.toNat with
    | none => exact State.fnStall_inv _ _ h
    | some d => exact State.fnData_inv _ _ _ _ _ (State.fnDesc_inv s d.2 u ss _ _ d.1 h hp)

theorem execSetAddress_inv (dev : PresDevice) (addr : BitVec 7) (s : State) (hI : s.Inv) : State.InvO (execSetAddress dev addr s) := by
  unfold execSetAddress
  try dsimp only
  repeat' (first | (with_reducible (first | assumption | apply State.reply_inv | apply State.hubWith_inv | apply State.ssHubWith_inv | apply State.mgfInstWith_inv | apply State.mgfSync_inv | apply State.ctxRequest_inv | apply State.fnStall_inv | apply State.invO_next | apply inv_ite | apply invO_ite)) | (intro _) | split)

theorem execHubSetConfiguration_inv (dev : PresDevice) (cfg : Nat) (s : State) (hI : s.Inv) : State.InvO (execHubSetConfiguration dev cfg s) := by
  unfold execHubSetConfiguration
  try dsimp only
  repeat' (first | (with_reducible (first | assumption | apply State.hubConfigure_inv | apply State.ssConfigure_inv | apply State.fnConfigure_inv | apply State.invO_next)) | split)

theorem State.anyHub_inv (s : State) (hub : AnyHub) (act : State) (hI : s.Inv) (hI1 : act.Inv) : (State.anyHub s hub act).Inv := by
  unfold State.anyHub
  try dsimp only
  repeat' (first | (with_reducible (first | assumption | apply State.reply_inv | apply State.ctxRequest_inv | apply inv_ite)) | split)

theorem State.getReply_inv (s : State) (r : Option (List Byte)) (hI : s.Inv) : (State.getReply s r).Inv := by
  unfold State.getReply
  try dsimp only
  repeat' (first | (with_reducible (first | assumption | apply State.reply_inv)) | split)

theorem execGetHubStatus_inv (req : StatusReq) (s : State) (hI : s.Inv) : State.InvO (execGetHubStatus req s) := by
  unfold execGetHubStatus
  try dsimp only
  repeat' (first | (with_reducible (first | assumption | apply State.reply_inv | apply State.fnStall_inv | apply State.fnData_inv | apply State.anyHub_inv | apply State.getReply_inv | apply State.invO_next | apply inv_ite | apply invO_ite)) | split)

theorem execGetHubDescriptor_inv (hub : AnyHub) (s : State) (hI : s.Inv) : State.InvO (execGetHubDescriptor hub s) := by
  unfold execGetHubDescriptor
  try dsimp only
  repeat' (first | (with_reducible (first | assumption | apply State.reply_inv | apply State.hubDescriptor_inv | apply State.ssHubDescriptor_inv | apply State.anyHub_inv | apply State.invO_next)) | split)

theorem execHubRequestError_inv (req : HubRequest) (s : State) (hI : s.Inv) : State.InvO (execHubRequestError req s) := by
  unfold execHubRequestError
  try dsimp only
  repeat' (first | (with_reducible (first | assumption | apply State.reply_inv | apply State.fnStall_inv | apply State.anyHub_inv | apply State.invO_next | apply inv_ite | apply invO_ite)) | split)

theorem State.ssPoll_inv (s : State) (sc : SsCtx) (hI : s.Inv) : (State.ssPoll s sc).Inv := by
  unfold State.ssPoll
  try dsimp only
  repeat' (first | (with_reducible (first | assumption | apply State.reply_inv | apply inv_ite)) | (intro _) | split)

theorem execStatusChangePoll_inv (hub : AnyHub) (s : State) (hI : s.Inv) : State.InvO (execStatusChangePoll hub s) := by
  unfold execStatusChangePoll
  try dsimp only
  repeat' (first | (with_reducible (first | assumption | apply State.hubPoll_inv | apply State.ssPoll_inv | apply State.invO_next)) | split)

theorem execDeviceRemoteWakeup_inv (dev : PresDevice) (set : Bool) (s : State) (hI : s.Inv) : State.InvO (execDeviceRemoteWakeup dev set s) := by
  unfold execDeviceRemoteWakeup
  try dsimp only
  repeat' (first | (with_reducible (first | assumption | apply State.reply_inv | apply State.hubWith_inv | apply State.mgfInstWith_inv | apply State.mgfSync_inv | apply State.ctxRequest_inv | apply State.invO_next | apply inv_ite | apply invO_ite)) | (intro _) | split)

theorem execHighSpeedPacket_inv (pk : HsPacket) (s : State) (hI : s.Inv) : State.InvO (execHighSpeedPacket pk s) := by
  unfold execHighSpeedPacket
  try dsimp only
  repeat' (first | (with_reducible (first | assumption | apply State.reply_inv | apply State.ctxRequest_inv | apply State.countU2_inv | apply State.repeatDown_inv | apply State.invO_next | apply inv_ite | apply invO_ite)) | (intro _) | split)

end Sys2Proof.Machine
end

