-- ==== Sys2Proof/Laws/InvDomain.lean ====
section
/-! SUPPORT. What the definitions of Machine/Domain.lean keep: each one leaves the invariant of Safety.lean as it was. -/

namespace Sys2Proof.Machine

set_option linter.unreachableTactic false
set_option linter.unusedTactic false

theorem State.askPlateCal_inv (s : State) (hI : s.Inv) : (State.askPlateCal s).Inv := by
  unfold State.askPlateCal
  try dsimp only
  repeat' (first | (with_reducible (first | assumption | apply State.askLeave_inv | apply inv_ite)) | (intro _) | split)

theorem State.ssRootChange_inv (s : State) (k : Plate) (hI : s.Inv) : (State.ssRootChange s k).Inv := by
  unfold State.ssRootChange
  try dsimp only
  repeat' (first | (with_reducible (first | assumption | apply State.ssHubWith_inv | apply inv_ite | refine inv_foldl (fun _ _ _ => ?_) ?_ | refine inv_foldl_snd (fun _ _ _ => ?_) ?_ | refine inv_foldl_fst (fun _ _ _ => ?_) ?_ | refine inv_foldl_fst2 (fun _ _ _ => ?_) ?_)) | (intro _) | split)

theorem execPlateCalibrationEnd_inv (k : Plate) (s : State) (hI : s.Inv) : State.InvO (execPlateCalibrationEnd k s) := by
  unfold execPlateCalibrationEnd
  try dsimp only
  repeat' (first | (with_reducible (first | assumption | apply State.put_inv | apply State.ssEval_inv | apply State.opDone_inv | apply State.restoreCheck_inv | apply State.askPlateCal_inv | apply State.ssRootChange_inv | apply State.invO_next | apply inv_ite | apply invO_ite | refine inv_foldl (fun _ _ _ => ?_) ?_)) | (intro _) | split)

theorem execUpCalibrationEnd_inv (s : State) (hI : s.Inv) : State.InvO (execUpCalibrationEnd s) := by
  unfold execUpCalibrationEnd
  repeat' (first | (with_reducible (first | assumption | apply State.put_inv | apply State.opDone_inv | apply State.askPlateCal_inv | apply State.invO_next | apply inv_ite | apply invO_ite)) | split)

theorem State.calClear_inv (s : State) (k : Plate) (hI : s.Inv) : (State.calClear s k).Inv := by
  unfold State.calClear
  repeat' (with_reducible (first | assumption | apply State.put_inv | apply State.endLeave_inv | apply State.askPlateCal_inv))

theorem State.plateSsReset_inv (s : State) (k : Plate) (hI : s.Inv) : (State.plateSsReset s k).Inv := by
  unfold State.plateSsReset
  try dsimp only
  repeat' (first | (with_reducible (first | assumption | apply State.setFlag_inv | apply State.sspWith_inv | apply State.upLkWith_inv | apply State.ssHubWith_inv | apply State.ssEvalAs_inv | apply State.clearPage_inv | apply State.sspClear_inv | refine inv_foldl (fun _ _ _ => ?_) ?_ | refine inv_foldl_snd (fun _ _ _ => ?_) ?_ | refine inv_foldl_fst (fun _ _ _ => ?_) ?_ | refine inv_foldl_fst2 (fun _ _ _ => ?_) ?_)) | (intro _))

theorem State.fclkStop_inv (s : State) (k : Plate) (hI : s.Inv) : (State.fclkStop s k).Inv := by
  unfold State.fclkStop
  repeat' (with_reducible (first | assumption | apply State.restoreCheck_inv | apply State.ssRootChange_inv | apply State.calClear_inv | apply State.plateSsReset_inv))

theorem State.fclkStart_inv (s : State) (k : Plate) (hI : s.Inv) : (State.fclkStart s k).Inv := by
  unfold State.fclkStart
  try dsimp only
  repeat' (first | (with_reducible (first | assumption | apply State.reapply_inv | apply State.askPlateCal_inv | apply inv_ite | refine inv_foldl (fun _ _ _ => ?_) ?_)) | (intro _) | split)

theorem State.plateViewsClear_inv (s : State) (k : Plate) (hI : s.Inv) : (State.plateViewsClear s k).Inv := by
  unfold State.plateViewsClear
  try dsimp only
  repeat' (first | (with_reducible (first | assumption | apply State.u2pWith_inv | apply inv_ite | refine inv_foldl (fun _ _ _ => ?_) ?_ | refine inv_foldl_snd (fun _ _ _ => ?_) ?_ | refine inv_foldl_fst (fun _ _ _ => ?_) ?_ | refine inv_foldl_fst2 (fun _ _ _ => ?_) ?_)) | (intro _) | split)

theorem State.plateReset_inv (s : State) (k : Plate) (hI : s.Inv) : (State.plateReset s k).Inv := by
  unfold State.plateReset
  try dsimp only
  repeat' (first | (with_reducible (first | assumption | apply State.put_inv | apply State.hubWith_inv | apply State.clearPage_inv | apply State.portReset_inv | apply State.ssRootChange_inv | apply State.calClear_inv | apply State.plateSsReset_inv | apply State.plateViewsClear_inv | apply inv_ite | refine inv_foldl (fun _ _ _ => ?_) ?_ | refine inv_foldl_snd (fun _ _ _ => ?_) ?_ | refine inv_foldl_fst (fun _ _ _ => ?_) ?_ | refine inv_foldl_fst2 (fun _ _ _ => ?_) ?_)) | (intro _) | split)

theorem State.platePower_inv (s : State) (k : Plate) (hI : s.Inv) : (State.platePower s k).Inv := by
  unfold State.platePower
  try dsimp only
  repeat' (first | (with_reducible (first | assumption | apply State.setPowerBit_inv | apply inv_ite | refine inv_foldl (fun _ _ _ => ?_) ?_ | refine inv_foldl_snd (fun _ _ _ => ?_) ?_ | refine inv_foldl_fst (fun _ _ _ => ?_) ?_ | refine inv_foldl_fst2 (fun _ _ _ => ?_) ?_)) | (intro _) | split)

theorem State.plateRelease_inv (s : State) (k : Plate) (hI : s.Inv) : (State.plateRelease s k).Inv := by
  unfold State.plateRelease
  try dsimp only
  repeat' (first | (with_reducible (first | assumption | apply State.put_inv | apply State.ctxWakeUp_inv | apply State.restore_inv | apply State.portBlank_inv | apply State.lrRestore_inv | apply State.restoreCheck_inv | apply State.portEnter_inv | apply State.instHold_inv | apply State.askPlateCal_inv | apply State.platePower_inv | apply inv_ite | refine inv_foldl (fun _ _ _ => ?_) ?_ | refine inv_foldl_snd (fun _ _ _ => ?_) ?_ | refine inv_foldl_fst (fun _ _ _ => ?_) ?_ | refine inv_foldl_fst2 (fun _ _ _ => ?_) ?_)) | (intro _) | split)

theorem State.plateFollow_inv (s : State) (k : Plate) (hI : s.Inv) : (State.plateFollow s k).Inv := by
  unfold State.plateFollow
  repeat' (first | (with_reducible (first | assumption | apply State.plateReset_inv | apply State.plateRelease_inv | apply inv_ite)) | split)

theorem State.dropTemplates_inv (s : State) (h : s.Inv) : (State.dropTemplates s).Inv :=
  { h with templates := Sparse.nil_wf zeroByte, buffer := h.buffer }

theorem State.loadTemplates_inv (s : State) (hI : s.Inv) : (State.loadTemplates s).Inv := by
  unfold State.loadTemplates
  repeat' (with_reducible (first | assumption | apply State.reapply_inv | apply State.dropTemplates_inv))

theorem State.graverFollow_inv (s : State) (hI : s.Inv) : (State.graverFollow s).Inv := by
  unfold State.graverFollow
  try dsimp only
  repeat' (first | (with_reducible (first | assumption | apply State.put_inv | apply State.lheWith_inv | apply State.grvClear_inv | apply State.reapply_inv | apply State.clearPage_inv | apply State.loadTemplates_inv | apply inv_ite | refine inv_foldl (fun _ _ _ => ?_) ?_)) | (intro _) | split)

theorem State.setClocks_inv (s : State) (d g : Bool) (h : s.Inv) : (State.setClocks s d g).Inv := h.of rfl rfl rfl rfl rfl rfl rfl rfl rfl rfl

theorem State.clocksFollow_inv (s : State) (hI : s.Inv) : (State.clocksFollow s).Inv := by
  unfold State.clocksFollow
  repeat' (first | (with_reducible (first | assumption | apply State.setClocks_inv | apply inv_ite)) | split)

theorem State.drcEndAccesses_inv (s : State) (hI : s.Inv) : (State.drcEndAccesses s).Inv := by
  unfold State.drcEndAccesses
  repeat' (with_reducible (first | assumption | apply State.winCut_inv | apply State.vendorCut_inv | apply State.bulkCut_inv))

theorem State.drcDown_inv (s : State) (hI : s.Inv) : (State.drcDown s).Inv := by
  unfold State.drcDown
  repeat' (with_reducible (first | assumption | apply State.put_inv))

theorem State.drcReset_inv (s : State) (warm : Bool) (hI : s.Inv) : (State.drcReset s warm).Inv := by
  unfold State.drcReset
  try dsimp only
  repeat' (first | (with_reducible (first | assumption | apply State.put_inv | apply State.endLeave_inv | refine State.dramWith_inv _ _ ?_ ?_ | apply State.setDrcSt_inv | apply State.clearPage_inv | apply State.drcEndAccesses_inv | apply State.drcDown_inv)) | (with_reducible (first | (exact fun _ hd => Dram.Canon.of hd rfl rfl rfl) | (exact fun _ hd => Dram.putBytes_canon hd _ _) | (exact fun _ hd => Dram.mend_canon (Dram.putBytes_canon hd _ _) _) | (exact fun _ hd => Dram.mend_canon hd _) | (exact fun _ hd => Dram.Canon.of (Dram.putBytes_canon (Dram.mend_canon hd _) _ _) rfl rfl rfl)))| (exact fun _ _ => Sparse.nil_wf _) | (intro _))

theorem State.drcRelease_inv (s : State) (hI : s.Inv) : (State.drcRelease s).Inv := by
  unfold State.drcRelease
  try dsimp only
  repeat' (first | (with_reducible (first | assumption | apply State.put_inv | apply State.drcAsk_inv | apply State.reapply_inv | apply inv_ite)) | split)

theorem State.drcFollow_inv (s : State) (hI : s.Inv) : (State.drcFollow s).Inv := by
  unfold State.drcFollow
  try dsimp only
  repeat' (first | (with_reducible (first | assumption | apply State.clocksFollow_inv | apply State.drcEndAccesses_inv | apply State.drcReset_inv | apply State.drcRelease_inv | apply inv_ite)) | split | (with_reducible apply State.Inv.set_drcPend))

theorem State.drcRestart_inv (s : State) (hI : s.Inv) : (State.drcRestart s).Inv := by
  unfold State.drcRestart
  try dsimp only
  repeat' (first | (with_reducible (first | assumption | apply State.endLeave_inv | refine State.dramWith_inv _ _ ?_ ?_ | apply State.setDrcSt_inv | apply State.drcAsk_inv | apply State.drcEndAccesses_inv | apply State.drcDown_inv | apply inv_ite)) | (with_reducible (first | (exact fun _ hd => Dram.Canon.of hd rfl rfl rfl) | (exact fun _ hd => Dram.putBytes_canon hd _ _) | (exact fun _ hd => Dram.mend_canon (Dram.putBytes_canon hd _ _) _) | (exact fun _ hd => Dram.mend_canon hd _) | (exact fun _ hd => Dram.Canon.of (Dram.putBytes_canon (Dram.mend_canon hd _) _ _) rfl rfl rfl)))| (exact fun _ _ => Sparse.nil_wf _) | (intro _) | split | (with_reducible apply State.Inv.set_drcPend))

theorem execSelfRefreshEntry_inv (s : State) (hI : s.Inv) : State.InvO (execSelfRefreshEntry s) := by
  unfold execSelfRefreshEntry
  try dsimp only
  repeat' (first | (with_reducible (first | assumption | refine State.dramWith_inv _ _ ?_ ?_ | apply State.drcAsk_inv | apply State.clocksFollow_inv | apply State.drcReset_inv | apply State.drcRelease_inv | apply State.invO_next | apply inv_ite | apply invO_ite)) | (with_reducible (first | (exact fun _ hd => Dram.Canon.of hd rfl rfl rfl) | (exact fun _ hd => Dram.putBytes_canon hd _ _) | (exact fun _ hd => Dram.mend_canon (Dram.putBytes_canon hd _ _) _) | (exact fun _ hd => Dram.mend_canon hd _) | (exact fun _ hd => Dram.Canon.of (Dram.putBytes_canon (Dram.mend_canon hd _) _ _) rfl rfl rfl)))| (exact fun _ _ => Sparse.nil_wf _) | (intro _) | split | (with_reducible apply State.Inv.set_drcPend))

theorem State.mgtFresh_inv (s : State) (hI : s.Inv) : (State.mgtFresh s).Inv := by
  unfold State.mgtFresh
  try dsimp only
  repeat' (first | (with_reducible (first | assumption | apply State.put_inv | apply inv_ite)) | split)

theorem State.mgtDrop_inv (s : State) (h : s.Inv) : (State.mgtDrop s).Inv := by
  unfold State.mgtDrop
  exact inv_foldl (fun _ _ hs => State.unhand_inv _ _ hs) (h.of rfl rfl rfl rfl rfl rfl rfl rfl rfl rfl)

theorem State.mgtPageReset_inv (s : State) (hI : s.Inv) : (State.mgtPageReset s).Inv := by
  unfold State.mgtPageReset
  try dsimp only
  repeat' (with_reducible (first | assumption | apply State.put_inv | apply State.clearPage_inv | apply State.mgtFresh_inv))

theorem State.mgtReset_inv (s : State) (hI : s.Inv) : (State.mgtReset s).Inv := by
  unfold State.mgtReset
  try dsimp only
  repeat' (with_reducible (first | assumption | apply State.put_inv | apply State.mgtDrop_inv | apply State.mgtPageReset_inv))

theorem State.mgtRelease_inv (s : State) (hI : s.Inv) : (State.mgtRelease s).Inv := by
  unfold State.mgtRelease
  repeat' (with_reducible (first | assumption | apply State.put_inv | apply State.reapply_inv | apply State.legCheck_inv | apply State.mgtPageReset_inv))

theorem State.mgtFollow_inv (s : State) (hI : s.Inv) : (State.mgtFollow s).Inv := by
  unfold State.mgtFollow
  try dsimp only
  repeat' (first | (with_reducible (first | assumption | apply State.mgtReset_inv | apply State.mgtRelease_inv | apply inv_ite)) | (intro _) | split)

theorem execMgtReady_inv (s : State) (hI : s.Inv) : State.InvO (execMgtReady s) := by
  unfold execMgtReady
  repeat' (first | (with_reducible (first | assumption | apply State.put_inv | apply State.invO_next | apply inv_ite | apply invO_ite)) | split)

theorem State.coreReset_inv (s : State) (cause : Fin 8) (h : s.Inv) : (State.coreReset s cause).Inv :=
  have hc := State.commitCut_inv s h
  { regs := Sparse.filter_wf hc.regs _
    fifoForm := Sparse.filter_wf hc.fifoForm _
    mram := hc.mram
    stage := Sparse.nil_wf _
    epm := Sparse.nil_wf _
    templates := Sparse.nil_wf _
    buffer := Sparse.nil_wf _
    dram := Sparse.nil_wf _
    areas := fun i => by simpa [State.coreReset, State.reset, freshCpt] using Sparse.nil_wf zeroByte
    fifos := fun e he => hc.fifos e (List.mem_filter.1 he).1
    queues := fun n l => by simp [State.coreReset, State.reset, freshQueue] }

theorem State.latchStraps_inv (s : State) (st : Straps) (hI : s.Inv) : (State.latchStraps s st).Inv := by
  unfold State.latchStraps
  try dsimp only
  repeat' (with_reducible (first | assumption | apply State.wr_inv))

theorem State.coreRelease_inv (s : State) (hI : s.Inv) : (State.coreRelease s).Inv := by
  unfold State.coreRelease
  try dsimp only
  repeat' (first | (with_reducible (first | assumption | apply State.put_inv | apply State.setFlag_inv | apply State.fixMode_inv | apply State.mgtFresh_inv)) | (with_reducible apply State.Inv.set_coreHeld))

theorem execSupplyMonitorTrip_inv (s : State) (hI : s.Inv) : State.InvO (execSupplyMonitorTrip s) := by
  unfold execSupplyMonitorTrip
  repeat' (with_reducible (first | assumption | apply State.coreReset_inv | apply State.invO_next))

theorem execCorereset_inv (s : State) (hI : s.Inv) : State.InvO (execCorereset s) := by
  unfold execCorereset
  repeat' (with_reducible (first | assumption | apply State.coreReset_inv | apply State.invO_next))

theorem execCoreResetRelease_inv (st : Straps) (s : State) (hI : s.Inv) : State.InvO (execCoreResetRelease st s) := by
  unfold execCoreResetRelease
  repeat' (first | (with_reducible (first | assumption | apply State.latchStraps_inv | apply State.coreRelease_inv | apply State.invO_next | apply inv_ite | apply invO_ite)) | split)

theorem execRootUnlock_inv (s : State) (hI : s.Inv) : State.InvO (execRootUnlock s) := by
  unfold execRootUnlock
  repeat' (first | (with_reducible (first | assumption | apply State.wr_inv | apply State.coreReset_inv | apply State.invO_next | apply inv_ite | apply invO_ite)) | split)

theorem execRootLock_inv (s : State) (hI : s.Inv) : State.InvO (execRootLock s) := by
  unfold execRootLock
  try dsimp only
  repeat' (first | (with_reducible (first | assumption | apply State.put_inv | apply State.setClocks_inv | apply State.coreRelease_inv | apply State.invO_next | apply inv_ite | apply invO_ite)) | split)

theorem execLaneUnlock_inv (lane : Lane) (s : State) (hI : s.Inv) : State.InvO (execLaneUnlock lane s) := by
  unfold execLaneUnlock
  try dsimp only
  repeat' (first | (with_reducible (first | assumption | apply State.put_inv | apply State.count_inv | apply State.raise_inv | apply State.ssEvalAs_inv | apply State.upGone_inv | apply State.invO_next | apply inv_ite | apply invO_ite | refine inv_foldl (fun _ _ _ => ?_) ?_)) | (intro _) | split)

theorem execLaneRelock_inv (lane : Lane) (s : State) (hI : s.Inv) : State.InvO (execLaneRelock lane s) := by
  unfold execLaneRelock
  try dsimp only
  repeat' (first | (with_reducible (first | assumption | apply State.put_inv | apply State.ssEval_inv | apply State.setUpState_inv | apply State.invO_next | apply inv_ite | apply invO_ite | refine inv_foldl (fun _ _ _ => ?_) ?_)) | (intro _) | split)

end Sys2Proof.Machine
end

