-- ==== Sys2Proof/Laws/InvBgt.lean ====
section
/-! SUPPORT. What the definitions of Machine/Bgt.lean keep: each one leaves the invariant of Safety.lean as it was. -/

namespace Sys2Proof.Machine

set_option linter.unreachableTactic false
set_option linter.unusedTactic false

theorem State.leaveEvent_inv (s : State) (e : Ev) (op : LeaveOp) (reason : Nat) (hI : s.Inv) : (State.leaveEvent s e op reason).Inv := by
  unfold State.leaveEvent
  try dsimp only
  repeat' (first | (with_reducible (first | assumption | apply State.raisePort_inv | apply State.raise_inv)) | split)

theorem State.deferReq_inv (s : State) (r : LeaveReq) (why : Fin 8) (hI : s.Inv) : (State.deferReq s r why).Inv := by
  unfold State.deferReq
  try dsimp only
  repeat' (first | (with_reducible (first | assumption | apply State.put_inv | apply State.count_inv | apply State.arbWith_inv | apply State.arbSync_inv | apply State.leaveEvent_inv | apply inv_ite)) | (intro _) | split)

theorem State.leaveReq_inv (s : State) (r : LeaveReq) (why : Fin 8) (hI : s.Inv) : (State.leaveReq s r why).Inv := by
  unfold State.leaveReq
  try dsimp only
  repeat' (first | (with_reducible (first | assumption | apply State.arbWith_inv | apply State.deferReq_inv | apply inv_ite)) | (intro _) | split)

theorem State.dropReq_inv (s : State) (op : LeaveOp) (hI : s.Inv) : (State.dropReq s op).Inv := by
  unfold State.dropReq
  try dsimp only
  repeat' (first | (with_reducible (first | assumption | apply State.arbWith_inv | apply State.arbSync_inv)) | (intro _))

theorem State.setGrant_inv (s : State) (p : Port) (v : Nat) (hI : s.Inv) : (State.setGrant s p v).Inv := by
  unfold State.setGrant
  repeat' (with_reducible (first | assumption | apply State.put_inv | apply State.grantChanged_inv))

theorem State.startOp_inv (s : State) (a0 : LeaveOp) (hI : s.Inv) : (State.startOp s a0).Inv := by
  unfold State.startOp
  repeat' (first | (with_reducible (first | assumption | apply State.raise_inv | apply State.firstSettled_inv | apply State.turnOnGranted_inv | apply State.raiseGrant_inv | apply State.setDrcSt_inv | apply State.fanGrant_inv | apply State.commitGranted_inv)) | split)

theorem State.grantReq_inv (s : State) (op : LeaveOp) (hI : s.Inv) : (State.grantReq s op).Inv := by
  unfold State.grantReq
  try dsimp only
  repeat' (first | (with_reducible (first | assumption | apply State.put_inv | apply State.arbWith_inv | apply State.leaveEvent_inv | apply State.dropReq_inv | apply State.setGrant_inv | apply State.startOp_inv)) | (intro _) | split)

theorem State.capReq_inv (s : State) (op : LeaveOp) (hI : s.Inv) : (State.capReq s op).Inv := by
  unfold State.capReq
  try dsimp only
  repeat' (first | (with_reducible (first | assumption | apply State.raise_inv | apply State.raiseCap_inv | apply State.leaveEvent_inv | apply State.dropReq_inv)) | split)

theorem State.denyReq_inv (s : State) (op : LeaveOp) (hI : s.Inv) : (State.denyReq s op).Inv := by
  unfold State.denyReq
  try dsimp only
  repeat' (first | (with_reducible (first | assumption | apply State.put_inv | apply State.powerFails_inv | apply State.firstSettled_inv | apply State.leaveEvent_inv | apply State.dropReq_inv)) | split)

theorem State.tryReq_inv (acc : State × Nat × Bool) (r : LeaveReq) (hI : acc.1.Inv) : (State.tryReq acc r).1.Inv := by
  unfold State.tryReq
  try dsimp -iota only
  repeat' (first | split | (with_reducible (first | assumption | apply State.leaveReq_inv | apply State.grantReq_inv | apply State.capReq_inv | apply State.denyReq_inv | apply inv_ite)) | (refine inv_of_snd (by with_reducible assumption) ?_))

theorem State.decideOnce_inv (s : State) (hI : s.Inv) : (State.decideOnce s).1.Inv := by
  unfold State.decideOnce
  try dsimp only
  repeat' (with_reducible (first | assumption | apply State.tryReq_inv | refine inv_foldl (fun _ _ _ => ?_) ?_ | refine inv_foldl_snd (fun _ _ _ => ?_) ?_ | refine inv_foldl_fst (fun _ _ _ => ?_) ?_ | refine inv_foldl_fst2 (fun _ _ _ => ?_) ?_))

theorem State.decideUpTo_inv (n : Nat) (s : State) (h : s.Inv) : (State.decideUpTo n s).Inv := by
  induction n generalizing s with
  | zero => exact h
  | succ n ih =>
    unfold State.decideUpTo
    exact inv_ite (ih _ (State.decideOnce_inv s h)) (State.decideOnce_inv s h)

theorem State.arbDecide_inv (s : State) (hI : s.Inv) : (State.arbDecide s).Inv := by
  unfold State.arbDecide
  repeat' (first | (with_reducible (first | assumption | apply State.decideUpTo_inv | apply inv_ite)) | split)

theorem execGrowth_inv (s : State) (hI : s.Inv) : State.InvO (execGrowth s) := by
  unfold execGrowth
  try dsimp only
  repeat' (first | (with_reducible (first | assumption | apply State.setGrant_inv | apply State.invO_next | apply inv_ite | apply invO_ite)) | split)

theorem State.revokeEvent_inv (s : State) (p : Port) (step : Nat) (hI : s.Inv) : (State.revokeEvent s p step).Inv := by
  unfold State.revokeEvent
  repeat' (with_reducible (first | assumption | apply State.raisePort_inv))

theorem State.cutHeadroom_inv (s : State) (p : Port) (least : Nat) (hI : s.Inv) : (State.cutHeadroom s p least).Inv := by
  unfold State.cutHeadroom
  try dsimp only
  repeat' (first | (with_reducible (first | assumption | apply State.setGrant_inv | apply inv_ite)) | split)

theorem State.revokeTo_inv (s : State) (p : Port) (dest : Nat) (hI : s.Inv) : (State.revokeTo s p dest).Inv := by
  unfold State.revokeTo
  try dsimp only
  repeat' (first | (with_reducible (first | assumption | apply State.put_inv | apply State.count_inv | apply State.setGrant_inv | apply State.revokeEvent_inv | apply inv_ite)) | split)

theorem State.revokeRemove_inv (s : State) (p : Port) (hI : s.Inv) : (State.revokeRemove s p).Inv := by
  unfold State.revokeRemove
  try dsimp only
  repeat' (with_reducible (first | assumption | apply State.returnGrant_inv | apply State.endReserve_inv | apply State.vbsOpen_inv | apply State.askAtOnce_inv | apply State.revokeEvent_inv))

theorem State.revokeForced_inv (s : State) (p : Port) (hI : s.Inv) : (State.revokeForced s p).Inv := by
  unfold State.revokeForced
  repeat' (first | (with_reducible (first | assumption | apply State.count_inv | apply State.revokeRemove_inv | apply inv_ite)) | split)

theorem State.revokePool_inv (s : State) (hI : s.Inv) : (State.revokePool s).Inv := by
  unfold State.revokePool
  try dsimp only
  repeat' (first | (with_reducible (first | assumption | apply State.cutHeadroom_inv | apply State.revokeTo_inv | apply State.revokeForced_inv | apply inv_ite | refine inv_foldl (fun _ _ _ => ?_) ?_)) | (intro _) | split)

theorem State.revokePort_inv (s : State) (p : Port) (hI : s.Inv) : (State.revokePort s p).Inv := by
  unfold State.revokePort
  repeat' (first | (with_reducible (first | assumption | apply State.cutHeadroom_inv | apply State.revokeTo_inv | apply inv_ite)) | split)

theorem State.revokeHeld_inv (s : State) (hI : s.Inv) : (State.revokeHeld s).Inv := by
  unfold State.revokeHeld
  try dsimp only
  repeat' (first | (with_reducible (first | assumption | apply State.revokePort_inv | apply inv_ite | refine inv_foldl (fun _ _ _ => ?_) ?_)) | (intro _) | split)

theorem State.askDenied_inv (s : State) (p : Port) (hI : s.Inv) : (State.askDenied s p).Inv := by
  unfold State.askDenied
  repeat' (first | (with_reducible (first | assumption | apply State.put_inv | apply State.askAtOnce_inv | apply inv_ite)) | split)

theorem State.poolSet_inv (s : State) (first : Bool) (hI : s.Inv) : (State.poolSet s first).Inv := by
  unfold State.poolSet
  try dsimp only
  repeat' (first | (with_reducible (first | assumption | apply State.put_inv | apply State.raise_inv | apply State.askDenied_inv | apply inv_ite | refine inv_foldl (fun _ _ _ => ?_) ?_)) | (intro _) | split)

theorem State.poolFollow_inv (s : State) (hI : s.Inv) : (State.poolFollow s).Inv := by
  unfold State.poolFollow
  repeat' (first | (with_reducible (first | assumption | apply State.arbDecide_inv | apply State.revokePool_inv | apply State.poolSet_inv | apply inv_ite)) | split)

theorem State.poolStart_inv (s : State) (hI : s.Inv) : (State.poolStart s).Inv := by
  unfold State.poolStart
  try dsimp only
  repeat' (first | (with_reducible (first | assumption | apply State.setFlag_inv | apply State.arbWith_inv | apply State.poolSet_inv)) | (intro _))

theorem execFeedGoodnessChange_inv (ga gb : Bool) (s : State) (hI : s.Inv) : State.InvO (execFeedGoodnessChange ga gb s) := by
  unfold execFeedGoodnessChange
  try dsimp only
  repeat' (first | (with_reducible (first | assumption | apply State.setFlag_inv | apply State.arbWith_inv | apply State.poolFollow_inv | apply State.invO_next | apply inv_ite | apply invO_ite)) | (intro _) | split)

theorem execGrowDelayEnd_inv (s : State) (hI : s.Inv) : State.InvO (execGrowDelayEnd s) := by
  unfold execGrowDelayEnd
  try dsimp only
  repeat' (first | (with_reducible (first | assumption | apply State.put_inv | apply State.arbWith_inv | apply State.poolFollow_inv | apply State.invO_next | apply inv_ite | apply invO_ite)) | (intro _) | split)

theorem State.deliver_inv (s : State) (ops : List LeaveOp) (hI : s.Inv) : (State.deliver s ops).Inv := by
  unfold State.deliver
  try dsimp only
  repeat' (first | (with_reducible (first | assumption | apply State.arbWith_inv | apply inv_ite)) | (intro _) | split)

theorem execLeaveRequest_inv (ops : List LeaveOp) (s : State) (hI : s.Inv) : State.InvO (execLeaveRequest ops s) := by
  unfold execLeaveRequest
  repeat' (first | (with_reducible (first | assumption | apply State.arbDecide_inv | apply State.deliver_inv | apply State.invO_next | apply inv_ite | apply invO_ite)) | split)

theorem execLeaveDone_inv (op : LeaveOp) (s : State) (hI : s.Inv) : State.InvO (execLeaveDone op s) := by
  unfold execLeaveDone
  try dsimp only
  repeat' (first | (with_reducible (first | assumption | apply State.arbWith_inv | apply State.arbDecide_inv | apply State.invO_next | apply inv_ite | apply invO_ite)) | (intro _) | split)

theorem execLeaveWithdraw_inv (op : LeaveOp) (s : State) (hI : s.Inv) : State.InvO (execLeaveWithdraw op s) := by
  unfold execLeaveWithdraw
  try dsimp only
  repeat' (first | (with_reducible (first | assumption | apply State.put_inv | apply State.withdraw_inv | apply State.arbDecide_inv | apply State.invO_next | apply inv_ite | apply invO_ite)) | (intro _) | split)

theorem execDieWindow_inv (s : State) (hI : s.Inv) : State.InvO (execDieWindow s) := by
  unfold execDieWindow
  repeat' (first | (with_reducible (first | assumption | apply State.put_inv | apply State.arbDecide_inv | apply State.invO_next | apply inv_ite | apply invO_ite)) | split)

theorem execPacingGapEnd_inv (s : State) (hI : s.Inv) : State.InvO (execPacingGapEnd s) := by
  unfold execPacingGapEnd
  try dsimp only
  repeat' (first | (with_reducible (first | assumption | apply State.arbWith_inv | apply State.arbDecide_inv | apply State.invO_next | apply inv_ite | apply invO_ite)) | (intro _) | split)

theorem execPacingDoneTimeout_inv (s : State) (hI : s.Inv) : State.InvO (execPacingDoneTimeout s) := by
  unfold execPacingDoneTimeout
  try dsimp only
  repeat' (first | (with_reducible (first | assumption | apply State.put_inv | apply State.arbWith_inv | apply State.invO_next | apply inv_ite | apply invO_ite)) | (intro _) | split)

theorem execRevokeTimeEnd_inv (p : Port) (s : State) (hI : s.Inv) : State.InvO (execRevokeTimeEnd p s) := by
  unfold execRevokeTimeEnd
  repeat' (first | (with_reducible (first | assumption | apply State.arbDecide_inv | apply State.revokeRemove_inv | apply State.invO_next | apply inv_ite | apply invO_ite)) | split)

theorem State.revokeDone_inv (s : State) (p : Port) (hI : s.Inv) : (State.revokeDone s p).Inv := by
  unfold State.revokeDone
  repeat' (with_reducible (first | assumption | apply State.put_inv | apply State.setLimit_inv | apply State.revokeEvent_inv))

theorem execRevokeSuccess_inv (p : Port) (s : State) (hI : s.Inv) : State.InvO (execRevokeSuccess p s) := by
  unfold execRevokeSuccess
  repeat' (first | (with_reducible (first | assumption | apply State.arbDecide_inv | apply State.revokeDone_inv | apply State.invO_next | apply inv_ite | apply invO_ite)) | split)

end Sys2Proof.Machine
end

