-- ==== Sys2Proof/Laws/InvHlt.lean ====
section
/-! SUPPORT. What the definitions of Machine/Hlt.lean keep: each one leaves the invariant of Safety.lean as it was. -/

namespace Sys2Proof.Machine

set_option linter.unreachableTactic false
set_option linter.unusedTactic false

theorem State.noteTemp_inv (s : State) (i w : Nat) (hI : s.Inv) : (State.noteTemp s i w).Inv := by
  unfold State.noteTemp
  try dsimp only
  repeat' (first | (with_reducible (first | assumption | apply State.put_inv | apply inv_ite)) | split)

theorem State.upGenDrop_inv (s : State) (u : Up) (hI : s.Inv) : (State.upGenDrop s u).Inv := by
  unfold State.upGenDrop
  try dsimp only
  repeat' (first | (with_reducible (first | assumption | apply State.setUpState_inv | apply State.upGone_inv | apply inv_ite)) | split)

theorem State.allGenDrop_inv (s : State) (hI : s.Inv) : (State.allGenDrop s).Inv := by
  unfold State.allGenDrop
  try dsimp only
  repeat' (first | (with_reducible (first | assumption | apply State.ssGenDrop_inv | apply State.upGenDrop_inv | apply inv_ite | refine inv_foldl (fun _ _ _ => ?_) ?_ | refine inv_foldl_snd (fun _ _ _ => ?_) ?_ | refine inv_foldl_fst (fun _ _ _ => ?_) ?_ | refine inv_foldl_fst2 (fun _ _ _ => ?_) ?_)) | (intro _) | split)

theorem State.shedTo_inv (s : State) (steps : Nat) (hI : s.Inv) : (State.shedTo s steps).Inv := by
  unfold State.shedTo
  try dsimp only
  repeat' (with_reducible (first | assumption | apply State.put_inv | apply State.raise_inv | apply State.poolFollow_inv))

theorem State.toLevel_inv (s : State) (old new : Nat) (hI : s.Inv) : (State.toLevel s old new).Inv := by
  unfold State.toLevel
  try dsimp only
  repeat' (first | (with_reducible (first | assumption | apply State.put_inv | apply State.raise_inv | apply State.nextGroup_inv | apply State.holdGroups_inv | apply State.poolFollow_inv | apply State.allGenDrop_inv | apply State.shedTo_inv | apply inv_ite)) | split)

theorem execTempSample_inv (temps : Vector Nat 5) (s : State) (hI : s.Inv) : State.InvO (execTempSample temps s) := by
  unfold execTempSample
  try dsimp only
  repeat' (first | (with_reducible (first | assumption | apply State.put_inv | apply State.healthWith_inv | apply State.noteTemp_inv | apply State.toLevel_inv | apply State.invO_next | apply inv_ite | apply invO_ite | refine inv_foldl (fun _ _ _ => ?_) ?_ | refine inv_foldl_snd (fun _ _ _ => ?_) ?_ | refine inv_foldl_fst (fun _ _ _ => ?_) ?_ | refine inv_foldl_fst2 (fun _ _ _ => ?_) ?_)) | (intro _) | split)

theorem execShedStepTimer_inv (s : State) (hI : s.Inv) : State.InvO (execShedStepTimer s) := by
  unfold execShedStepTimer
  try dsimp only
  repeat' (first | (with_reducible (first | assumption | apply State.shedTo_inv | apply State.invO_next | apply inv_ite | apply invO_ite)) | split)

theorem State.peakClear_inv (s : State) (hI : s.Inv) : (State.peakClear s).Inv := by
  unfold State.peakClear
  try dsimp only
  repeat' (first | (with_reducible (first | assumption | apply State.put_inv | refine inv_foldl (fun _ _ _ => ?_) ?_)) | (intro _))

theorem State.quarByWrite_inv (s : State) (hi : Bool) (v : Word) (hI : s.Inv) : (State.quarByWrite s hi v).Inv := by
  unfold State.quarByWrite
  try dsimp only
  repeat' (first | (with_reducible (first | assumption | apply State.quarEnter_inv | apply inv_ite | refine inv_foldl (fun _ _ _ => ?_) ?_)) | (intro _) | split)

theorem State.quarLeave_inv (s : State) (p : Port) (auto : Bool) (hI : s.Inv) : (State.quarLeave s p auto).Inv := by
  unfold State.quarLeave
  try dsimp only
  repeat' (first | (with_reducible (first | assumption | apply State.put_inv | apply State.raisePort_inv | apply State.healthWith_inv | apply State.portReset_inv | apply State.portFollow_inv | apply inv_ite)) | (intro _) | split)

theorem State.quarByRelease_inv (s : State) (hi : Bool) (v : Word) (hI : s.Inv) : (State.quarByRelease s hi v).Inv := by
  unfold State.quarByRelease
  try dsimp only
  repeat' (first | (with_reducible (first | assumption | apply State.quarLeave_inv | refine inv_foldl (fun _ _ _ => ?_) ?_)) | (intro _))

theorem execQuarAutoEnd_inv (p : Port) (s : State) (hI : s.Inv) : State.InvO (execQuarAutoEnd p s) := by
  unfold execQuarAutoEnd
  repeat' (first | (with_reducible (first | assumption | apply State.quarLeave_inv | apply State.invO_next | apply inv_ite | apply invO_ite)) | split)

theorem State.u2RootChange_inv (s : State) (k : Plate) (hI : s.Inv) : (State.u2RootChange s k).Inv := by
  unfold State.u2RootChange
  try dsimp only
  repeat' (first | (with_reducible (first | assumption | apply State.rootChgWith_inv | apply inv_ite | refine inv_foldl (fun _ _ _ => ?_) ?_ | refine inv_foldl_snd (fun _ _ _ => ?_) ?_ | refine inv_foldl_fst (fun _ _ _ => ?_) ?_ | refine inv_foldl_fst2 (fun _ _ _ => ?_) ?_)) | (intro _) | split)

theorem State.isoBegin_inv (s : State) (k : Plate) (hI : s.Inv) : (State.isoBegin s k).Inv := by
  unfold State.isoBegin
  try dsimp only
  repeat' (first | (with_reducible (first | assumption | apply State.put_inv | apply State.healthWith_inv | apply State.plateFollow_inv | apply State.u2RootChange_inv)) | (intro _))

theorem State.isoOver_inv (s : State) (k : Plate) (hI : s.Inv) : (State.isoOver s k).Inv := by
  unfold State.isoOver
  repeat' (with_reducible (first | assumption | apply State.put_inv | apply State.plateFollow_inv | apply State.u2RootChange_inv))

theorem State.isoChanged_inv (s : State) (old : Nat) (hI : s.Inv) : (State.isoChanged s old).Inv := by
  unfold State.isoChanged
  try dsimp only
  repeat' (first | (with_reducible (first | assumption | apply State.isoBegin_inv | apply State.isoOver_inv | apply inv_ite | refine inv_foldl (fun _ _ _ => ?_) ?_)) | (intro _) | split)

theorem execPlateIsolated_inv (k : Plate) (s : State) (hI : s.Inv) : State.InvO (execPlateIsolated k s) := by
  unfold execPlateIsolated
  repeat' (first | (with_reducible (first | assumption | apply State.put_inv | apply State.raise_inv | apply State.invO_next | apply inv_ite | apply invO_ite)) | split)

end Sys2Proof.Machine
end

