-- ==== Sys2Proof/Laws/InvLoad.lean ====
section
/-! SUPPORT. What the definitions of Machine/Load.lean keep: each one leaves the invariant of Safety.lean as it was. -/

namespace Sys2Proof.Machine

set_option linter.unreachableTactic false
set_option linter.unusedTactic false

theorem State.loadBank_inv (s : State) (b : Fin 2) (hI : s.Inv) : (State.loadBank s b).Inv := by
  unfold State.loadBank
  try dsimp only
  repeat' (first | (with_reducible (first | assumption | apply State.countBy_inv | apply State.setActive_inv | apply State.applyTag_inv | refine inv_foldl (fun _ _ _ => ?_) ?_)) | (intro _) | split)

theorem State.loadStore_inv (s : State) (hI : s.Inv) : (State.loadStore s).2.Inv := by
  unfold State.loadStore
  try dsimp only
  repeat' (first | (with_reducible (first | assumption | apply State.noteBanks_inv | apply State.loadBank_inv | apply inv_ite)) | split)

theorem State.loadEvent_inv (s : State) (newer : Fin 2) (code res : Nat) (hI : s.Inv) : (State.loadEvent s newer code res).Inv := by
  unfold State.loadEvent
  try dsimp only
  repeat' (first | (with_reducible (first | assumption | apply State.raise_inv)) | split)

theorem State.wearCheck_inv (s : State) (hI : s.Inv) : (State.wearCheck s).Inv := by
  unfold State.wearCheck
  repeat' (first | (with_reducible (first | assumption | apply State.setFault_inv | apply inv_ite)) | split)

theorem State.powerBits_inv (s : State) (hI : s.Inv) : (State.powerBits s).Inv := by
  unfold State.powerBits
  try dsimp only
  repeat' (first | (with_reducible (first | assumption | apply State.ssHubWith_inv | apply State.setPowerBit_inv | refine inv_foldl (fun _ _ _ => ?_) ?_ | refine inv_foldl_snd (fun _ _ _ => ?_) ?_ | refine inv_foldl_fst (fun _ _ _ => ?_) ?_ | refine inv_foldl_fst2 (fun _ _ _ => ?_) ?_)) | (intro _))

theorem State.loadOwners_inv (s : State) (hI : s.Inv) : (State.loadOwners s).Inv := by
  unfold State.loadOwners
  try dsimp only
  repeat' (first | (with_reducible (first | assumption | apply State.put_inv | apply State.takeTopo_inv | refine inv_foldl (fun _ _ _ => ?_) ?_)) | (intro _))

theorem State.loadHold_inv (s : State) (hI : s.Inv) : (State.loadHold s).Inv := by
  unfold State.loadHold
  try dsimp only
  repeat' (first | (with_reducible (first | assumption | apply State.put_inv | refine State.cptWith_inv _ _ _ ?_ ?_ | apply State.setDirect_inv | apply inv_ite | refine inv_foldl (fun _ _ _ => ?_) ?_)) | (exact fun _ hc => hc) | (intro _) | split)

theorem State.loadPorts_inv (s : State) (hI : s.Inv) : (State.loadPorts s).Inv := by
  unfold State.loadPorts
  try dsimp only
  repeat' (first | (with_reducible (first | assumption | apply State.put_inv | apply inv_ite | refine inv_foldl (fun _ _ _ => ?_) ?_)) | (intro _) | split)

theorem State.presentRoles_inv (s : State) (hI : s.Inv) : (State.presentRoles s).Inv := by
  unfold State.presentRoles
  try dsimp only
  repeat' (first | (with_reducible (first | assumption | apply State.usbEval_inv | apply State.ccStart_inv | refine inv_foldl (fun _ _ _ => ?_) ?_)) | (intro _))

theorem State.loadDram_inv (s : State) (hI : s.Inv) : (State.loadDram s).Inv := by
  unfold State.loadDram
  try dsimp only
  repeat' (first | (with_reducible (first | assumption | apply State.setDrcSt_inv | apply State.drcAsk_inv | apply State.drcFollow_inv | apply inv_ite)) | split)

theorem State.loadFinish_inv (s : State) (hI : s.Inv) : (State.loadFinish s).Inv := by
  unfold State.loadFinish
  try dsimp only
  repeat' (first | (with_reducible (first | assumption | apply State.put_inv | apply State.loadFilter_inv | apply State.askLeave_inv | apply State.legCheck_inv | apply State.plateFollow_inv | apply State.graverFollow_inv | apply State.mgtFollow_inv | apply State.poolStart_inv | apply State.powerBits_inv | apply State.loadOwners_inv | apply State.loadHold_inv | apply State.loadPorts_inv | apply State.presentRoles_inv | apply State.loadDram_inv | apply inv_ite | refine inv_foldl (fun _ _ _ => ?_) ?_)) | (intro _) | split)

theorem execLoadComplete_inv (s : State) (hI : s.Inv) : State.InvO (execLoadComplete s) := by
  unfold execLoadComplete
  try dsimp -iota only
  repeat' (first | split | (with_reducible (first | assumption | apply State.put_inv | apply State.raise_inv | apply State.loadStore_inv | apply State.loadEvent_inv | apply State.wearCheck_inv | apply State.loadFinish_inv | apply State.invO_next | apply inv_ite | apply invO_ite)) | (refine inv_of_snd (by with_reducible assumption) ?_))

end Sys2Proof.Machine
end

