-- ==== Sys2Proof/Laws/InvPdVdm.lean ====
section
/-! SUPPORT. What the definitions of Machine/PdVdm.lean keep: each one leaves the invariant of Safety.lean as it was. -/

namespace Sys2Proof.Machine

set_option linter.unreachableTactic false
set_option linter.unusedTactic false

theorem State.cableFound_inv (s : State) (p : Port) (objs : List Word) (hI : s.Inv) : (State.cableFound s p objs).Inv := by
  unfold State.cableFound
  try dsimp only
  repeat' (first | (with_reducible (first | assumption | apply State.put_inv | apply State.setFlag_inv | apply State.raisePort_inv | apply State.pdWith_inv | apply State.offerCheck_inv | apply State.pdKick_inv)) | (intro _))

theorem State.eprFail_inv (s : State) (p : Port) (reason : Nat) (hI : s.Inv) : (State.eprFail s p reason).Inv := by
  unfold State.eprFail
  repeat' (with_reducible (first | assumption | apply State.pdSay_inv | apply State.toReady_inv))

theorem State.eprEnter_inv (s : State) (p : Port) (hI : s.Inv) : (State.eprEnter s p).Inv := by
  unfold State.eprEnter
  try dsimp only
  repeat' (first | (with_reducible (first | assumption | apply State.pdWith_inv | apply State.setPe_inv | apply State.pdSay_inv | apply State.eprFail_inv | apply inv_ite)) | (intro _) | split)

theorem State.eprCableAnswer_inv (s : State) (p : Port) (objs : List Word) (hI : s.Inv) : (State.eprCableAnswer s p objs).Inv := by
  unfold State.eprCableAnswer
  try dsimp only
  repeat' (first | (with_reducible (first | assumption | apply State.put_inv | apply State.pdWith_inv | apply State.setPe_inv | apply State.pdSay_inv | apply State.sendCaps_inv | apply State.cableFound_inv | apply State.eprFail_inv | apply inv_ite)) | (intro _) | split)

theorem State.modeSend_inv (s : State) (p : Port) (step : Fin 5) (hI : s.Inv) : (State.modeSend s p step).Inv := by
  unfold State.modeSend
  try dsimp only
  repeat' (first | (with_reducible (first | assumption | apply State.pdWith_inv | apply State.pdSay_inv)) | (intro _) | split)

theorem State.modeOver_inv (s : State) (p : Port) (hI : s.Inv) : (State.modeOver s p).Inv := by
  unfold State.modeOver
  try dsimp only
  repeat' (first | (with_reducible (first | assumption | apply State.pdWith_inv | apply State.toReady_inv)) | (intro _))

theorem State.modeFail_inv (s : State) (p : Port) (hI : s.Inv) : (State.modeFail s p).Inv := by
  unfold State.modeFail
  try dsimp only
  repeat' (first | (with_reducible (first | assumption | apply State.pdWith_inv | apply State.modeOver_inv)) | (intro _))

theorem State.modeAnswer_inv (s : State) (p : Port) (h : Word) (objs : List Word) (hI : s.Inv) : (State.modeAnswer s p h objs).Inv := by
  unfold State.modeAnswer
  try dsimp only
  repeat' (first | (with_reducible (first | assumption | apply State.put_inv | apply State.raisePort_inv | apply State.pdWith_inv | apply State.routeBy_inv | apply State.modeSend_inv | apply State.modeOver_inv | apply State.modeFail_inv | apply inv_ite)) | (intro _) | split)

theorem State.vdmRequest_inv (s : State) (p : Port) (h : Word) (hI : s.Inv) : (State.vdmRequest s p h).Inv := by
  unfold State.vdmRequest
  try dsimp only
  repeat' (first | (with_reducible (first | assumption | apply State.modeExit_inv | apply State.pdSay_inv | apply inv_ite)) | split)

theorem State.sendExit_inv (s : State) (p : Port) (hI : s.Inv) : (State.sendExit s p).Inv := by
  unfold State.sendExit
  try dsimp only
  repeat' (first | (with_reducible (first | assumption | apply State.pdWith_inv | apply State.modeExit_inv | apply State.pdSay_inv)) | (intro _))

end Sys2Proof.Machine
end

