-- ==== Sys2Proof/Laws/InvPd.lean ====
section
/-! SUPPORT. What the definitions of Machine/Pd.lean keep: each one leaves the invariant of Safety.lean as it was. -/

namespace Sys2Proof.Machine

set_option linter.unreachableTactic false
set_option linter.unusedTactic false

theorem State.pdNote_inv (s : State) (p : Port) (m : PdMsg) (hI : s.Inv) : (State.pdNote s p m).Inv := by
  unfold State.pdNote
  try dsimp only
  repeat' (first | (with_reducible (first | assumption | apply State.put_inv | apply State.pdWith_inv | apply State.pdAck_inv | apply inv_ite)) | (intro _) | split)

theorem State.pdTake_inv (s : State) (p : Port) (m : PdMsg) (f : State → State) (hf0 : ∀ x0, x0.Inv → (f x0).Inv) (hI : s.Inv) : (State.pdTake s p m f).Inv := by
  unfold State.pdTake
  repeat' (first | (with_reducible (first | assumption | apply hf0 | apply State.pdAck_inv | apply State.sayNotSupported_inv | apply State.pdNote_inv | apply inv_ite)) | (intro _) | split)

theorem State.pdAnswer_inv (s : State) (p : Port) (num cls : Nat) (f : State → State) (hf0 : ∀ x0, x0.Inv → (f x0).Inv) (hI : s.Inv) : (State.pdAnswer s p num cls f).Inv := by
  unfold State.pdAnswer
  repeat' (first | (with_reducible (first | assumption | apply hf0 | apply State.unexpected_inv | apply inv_ite)) | (intro _) | split)

theorem State.rev3Only_inv (s : State) (p : Port) (f : State → State) (hf0 : ∀ x0, x0.Inv → (f x0).Inv) (hI : s.Inv) : (State.rev3Only s p f).Inv := by
  unfold State.rev3Only
  repeat' (first | (with_reducible (first | assumption | apply hf0 | apply State.sayNotSupported_inv | apply inv_ite)) | (intro _) | split)

theorem State.upSend_inv (s : State) (u : Up) (out : List PdOut) (want : PdWant) (hI : s.Inv) : (State.upSend s u out want).Inv := by
  unfold State.upSend
  exact (hI.set_upPdOut (x := s.upPdOut.set u out)).set_upWant

theorem State.upReply_inv (s : State) (u : Up) (out : List PdOut) (want : PdWant) (hI : s.Inv) : (State.upReply s u out want).Inv := by
  unfold State.upReply
  repeat' (with_reducible (first | assumption | apply State.upSend_inv))

theorem State.upSay_inv (s : State) (u : Up) (m : PdMsg) (out : List PdOut) (hI : s.Inv) : (State.upSay s u m out).Inv := by
  unfold State.upSay
  repeat' (first | (with_reducible (first | assumption | apply State.upReply_inv | apply inv_ite)) | split)

theorem State.upStep_inv (s : State) (u : Up) (m : PdMsg) (next : PdWant → Option PdWant) (hI : s.Inv) : (State.upStep s u m next).Inv := by
  unfold State.upStep
  try dsimp only
  repeat' (first | (with_reducible (first | assumption | apply State.upReply_inv | apply inv_ite)) | split)

theorem State.upCaps_inv (s : State) (u : Up) (m : PdMsg) (rdo : Word) (hI : s.Inv) : (State.upCaps s u m rdo).Inv := by
  unfold State.upCaps
  repeat' (first | (with_reducible (first | assumption | apply State.upReply_inv | apply inv_ite)) | split)

theorem pdCommand_inv (pp : PdPort) (m : PdMsg) (s : State) (down : Port → State → State) (up : Up → List PdOut) (hf0 : ∀ x0 x1, x1.Inv → (down x0 x1).Inv) (hI : s.Inv) : (pdCommand pp m s down up).Inv := by
  unfold pdCommand
  try dsimp only
  repeat' (first | (with_reducible (first | assumption | apply hf0 | refine State.pdTake_inv _ _ _ _ (fun _ _ => ?_) ?_ | apply State.upSay_inv)) | (intro _) | split)

theorem State.onSourceCaps_inv (s : State) (p : Port) (hI : s.Inv) : (State.onSourceCaps s p).Inv := by
  unfold State.onSourceCaps
  try dsimp only
  repeat' (first | split | (with_reducible (first | assumption | apply State.pdWith_inv | apply State.pdSay_inv | apply State.unexpected_inv | apply inv_ite)) | (intro _) | (refine inv_of_snd (by with_reducible assumption) ?_))

theorem execSourceCapabilities_inv (pp : PdPort) (msg : PdMsg) (s : State) (hI : s.Inv) : State.InvO (execSourceCapabilities pp msg s) := by
  unfold execSourceCapabilities
  try dsimp only
  repeat' (first | (with_reducible (first | assumption | refine State.pdTake_inv _ _ _ _ (fun _ _ => ?_) ?_ | apply State.upCaps_inv | apply State.onSourceCaps_inv | apply State.invO_next)) | (intro _) | split)

theorem State.onRequest_inv (s : State) (p : Port) (m : PdMsg) (hI : s.Inv) : (State.onRequest s p m).Inv := by
  unfold State.onRequest
  try dsimp only
  repeat' (first | (with_reducible (first | assumption | apply State.sayNotSupported_inv | apply State.unexpected_inv | apply State.decideRequest_inv | apply inv_ite)) | split)

theorem execRequest_inv (pp : PdPort) (msg : PdMsg) (s : State) (hI : s.Inv) : State.InvO (execRequest pp msg s) := by
  unfold execRequest
  try dsimp only
  repeat' (first | (with_reducible (first | assumption | refine pdCommand_inv _ _ _ _ _ (fun _ _ _ => ?_) ?_ | apply State.onRequest_inv | apply State.invO_next)) | (intro _))

theorem State.onGetSourceCap_inv (s : State) (p : Port) (hI : s.Inv) : (State.onGetSourceCap s p).Inv := by
  unfold State.onGetSourceCap
  repeat' (first | (with_reducible (first | assumption | apply State.sayCaps_inv | apply State.sendCaps_inv | apply inv_ite)) | split)

theorem execGetSourceCap_inv (pp : PdPort) (msg : PdMsg) (s : State) (hI : s.Inv) : State.InvO (execGetSourceCap pp msg s) := by
  unfold execGetSourceCap
  try dsimp only
  repeat' (first | (with_reducible (first | assumption | refine State.pdAnswer_inv _ _ _ _ _ (fun _ _ => ?_) ?_ | refine pdCommand_inv _ _ _ _ _ (fun _ _ _ => ?_) ?_ | apply State.onGetSourceCap_inv | apply State.invO_next)) | (intro _))

theorem execGetSinkCap_inv (pp : PdPort) (msg : PdMsg) (s : State) (hI : s.Inv) : State.InvO (execGetSinkCap pp msg s) := by
  unfold execGetSinkCap
  try dsimp only
  repeat' (first | (with_reducible (first | assumption | apply State.pdSay_inv | refine State.pdAnswer_inv _ _ _ _ _ (fun _ _ => ?_) ?_ | refine pdCommand_inv _ _ _ _ _ (fun _ _ _ => ?_) ?_ | apply State.invO_next)) | (intro _))

theorem State.onEprGetSourceCap_inv (s : State) (p : Port) (hI : s.Inv) : (State.onEprGetSourceCap s p).Inv := by
  unfold State.onEprGetSourceCap
  repeat' (first | (with_reducible (first | assumption | apply State.sayCaps_inv | apply State.sendCaps_inv | apply State.sayNotSupported_inv | apply inv_ite)) | split)

theorem execEprGetSourceCap_inv (pp : PdPort) (msg : PdMsg) (s : State) (hI : s.Inv) : State.InvO (execEprGetSourceCap pp msg s) := by
  unfold execEprGetSourceCap
  try dsimp only
  repeat' (first | (with_reducible (first | assumption | refine State.pdAnswer_inv _ _ _ _ _ (fun _ _ => ?_) ?_ | refine pdCommand_inv _ _ _ _ _ (fun _ _ _ => ?_) ?_ | apply State.onEprGetSourceCap_inv | apply State.invO_next)) | (intro _))

theorem execPrSwap_inv (pp : PdPort) (msg : PdMsg) (s : State) (hI : s.Inv) : State.InvO (execPrSwap pp msg s) := by
  unfold execPrSwap
  try dsimp only
  repeat' (first | (with_reducible (first | assumption | apply State.pdSay_inv | refine State.pdAnswer_inv _ _ _ _ _ (fun _ _ => ?_) ?_ | refine pdCommand_inv _ _ _ _ _ (fun _ _ _ => ?_) ?_ | apply State.invO_next)) | (intro _))

theorem State.onDrSwap_inv (s : State) (p : Port) (hI : s.Inv) : (State.onDrSwap s p).Inv := by
  unfold State.onDrSwap
  try dsimp only
  repeat' (first | (with_reducible (first | assumption | apply State.pdWith_inv | apply State.pdSay_inv | apply State.swapEvent_inv | apply State.becomeDfp_inv | apply inv_ite)) | (intro _) | split)

theorem execDrSwap_inv (pp : PdPort) (msg : PdMsg) (s : State) (hI : s.Inv) : State.InvO (execDrSwap pp msg s) := by
  unfold execDrSwap
  try dsimp only
  repeat' (first | (with_reducible (first | assumption | refine State.pdAnswer_inv _ _ _ _ _ (fun _ _ => ?_) ?_ | refine pdCommand_inv _ _ _ _ _ (fun _ _ _ => ?_) ?_ | apply State.onDrSwap_inv | apply State.invO_next)) | (intro _))

theorem State.onVconnSwap_inv (s : State) (p : Port) (hI : s.Inv) : (State.onVconnSwap s p).Inv := by
  unfold State.onVconnSwap
  try dsimp only
  repeat' (first | (with_reducible (first | assumption | apply State.pdWith_inv | apply State.vconnOn_inv | apply State.setPe_inv | apply State.pdSay_inv | apply State.swapEvent_inv | apply inv_ite)) | (intro _) | split)

theorem execVconnSwap_inv (pp : PdPort) (msg : PdMsg) (s : State) (hI : s.Inv) : State.InvO (execVconnSwap pp msg s) := by
  unfold execVconnSwap
  try dsimp only
  repeat' (first | (with_reducible (first | assumption | refine State.pdAnswer_inv _ _ _ _ _ (fun _ _ => ?_) ?_ | refine pdCommand_inv _ _ _ _ _ (fun _ _ _ => ?_) ?_ | apply State.onVconnSwap_inv | apply State.invO_next)) | (intro _))

theorem execFrSwap_inv (pp : PdPort) (msg : PdMsg) (s : State) (hI : s.Inv) : State.InvO (execFrSwap pp msg s) := by
  unfold execFrSwap
  try dsimp only
  repeat' (first | (with_reducible (first | assumption | apply State.sayNotSupported_inv | refine State.pdAnswer_inv _ _ _ _ _ (fun _ _ => ?_) ?_ | refine pdCommand_inv _ _ _ _ _ (fun _ _ _ => ?_) ?_ | apply State.invO_next)) | (intro _))

theorem State.onSoftReset_inv (s : State) (p : Port) (hI : s.Inv) : (State.onSoftReset s p).Inv := by
  unfold State.onSoftReset
  try dsimp only
  repeat' (first | (with_reducible (first | assumption | apply State.put_inv | apply State.pdWith_inv | apply State.endRaise_inv | apply State.pdSay_inv | apply State.noteSoft_inv | apply State.softDone_inv | apply State.unexpected_inv | apply inv_ite)) | (intro _) | split)

theorem execSoftReset_inv (pp : PdPort) (msg : PdMsg) (s : State) (hI : s.Inv) : State.InvO (execSoftReset pp msg s) := by
  unfold execSoftReset
  try dsimp only
  repeat' (first | (with_reducible (first | assumption | refine State.pdTake_inv _ _ _ _ (fun _ _ => ?_) ?_ | apply State.upReply_inv | apply State.onSoftReset_inv | apply State.invO_next | apply inv_ite | apply invO_ite)) | (intro _) | split)

theorem execHardReset_inv (pp : PdPort) (msg : PdMsg) (s : State) (hI : s.Inv) : State.InvO (execHardReset pp msg s) := by
  unfold execHardReset
  try dsimp only
  repeat' (first | (with_reducible (first | assumption | apply State.pdWith_inv | apply State.pdFresh_inv | apply State.hardReset_inv | apply State.upSend_inv | apply State.invO_next | apply inv_ite | apply invO_ite)) | (intro _) | split)

theorem execGetStatus_inv (pp : PdPort) (msg : PdMsg) (s : State) (hI : s.Inv) : State.InvO (execGetStatus pp msg s) := by
  unfold execGetStatus
  try dsimp only
  repeat' (first | (with_reducible (first | assumption | apply State.pdSay_inv | refine State.pdAnswer_inv _ _ _ _ _ (fun _ _ => ?_) ?_ | refine State.rev3Only_inv _ _ _ (fun _ _ => ?_) ?_ | refine pdCommand_inv _ _ _ _ _ (fun _ _ _ => ?_) ?_ | apply State.invO_next)) | (intro _))

theorem execGetPpsStatus_inv (pp : PdPort) (msg : PdMsg) (s : State) (hI : s.Inv) : State.InvO (execGetPpsStatus pp msg s) := by
  unfold execGetPpsStatus
  try dsimp only
  repeat' (first | (with_reducible (first | assumption | apply State.pdSay_inv | apply State.sayNotSupported_inv | refine State.pdAnswer_inv _ _ _ _ _ (fun _ _ => ?_) ?_ | refine pdCommand_inv _ _ _ _ _ (fun _ _ _ => ?_) ?_ | apply State.invO_next | apply inv_ite | apply invO_ite)) | (intro _) | split)

theorem execGetSourceCapExtended_inv (pp : PdPort) (msg : PdMsg) (s : State) (hI : s.Inv) : State.InvO (execGetSourceCapExtended pp msg s) := by
  unfold execGetSourceCapExtended
  try dsimp only
  repeat' (first | (with_reducible (first | assumption | apply State.pdSay_inv | refine State.pdAnswer_inv _ _ _ _ _ (fun _ _ => ?_) ?_ | refine State.rev3Only_inv _ _ _ (fun _ _ => ?_) ?_ | refine pdCommand_inv _ _ _ _ _ (fun _ _ _ => ?_) ?_ | apply State.invO_next)) | (intro _))

theorem execGetSourceInfo_inv (pp : PdPort) (msg : PdMsg) (s : State) (hI : s.Inv) : State.InvO (execGetSourceInfo pp msg s) := by
  unfold execGetSourceInfo
  try dsimp only
  repeat' (first | (with_reducible (first | assumption | apply State.pdSay_inv | refine State.pdAnswer_inv _ _ _ _ _ (fun _ _ => ?_) ?_ | refine pdCommand_inv _ _ _ _ _ (fun _ _ _ => ?_) ?_ | apply State.invO_next)) | (intro _))

theorem execGetRevision_inv (pp : PdPort) (msg : PdMsg) (s : State) (hI : s.Inv) : State.InvO (execGetRevision pp msg s) := by
  unfold execGetRevision
  try dsimp only
  repeat' (first | (with_reducible (first | assumption | apply State.pdSay_inv | refine State.pdAnswer_inv _ _ _ _ _ (fun _ _ => ?_) ?_ | refine pdCommand_inv _ _ _ _ _ (fun _ _ _ => ?_) ?_ | apply State.invO_next)) | (intro _))

theorem execGetManufacturerInfo_inv (pp : PdPort) (msg : PdMsg) (s : State) (hI : s.Inv) : State.InvO (execGetManufacturerInfo pp msg s) := by
  unfold execGetManufacturerInfo
  try dsimp only
  repeat' (first | (with_reducible (first | assumption | apply State.pdSay_inv | refine State.pdAnswer_inv _ _ _ _ _ (fun _ _ => ?_) ?_ | refine State.rev3Only_inv _ _ _ (fun _ _ => ?_) ?_ | refine pdCommand_inv _ _ _ _ _ (fun _ _ _ => ?_) ?_ | apply State.invO_next)) | (intro _))

theorem State.onEprMode_inv (s : State) (p : Port) (obj : Word) (hI : s.Inv) : (State.onEprMode s p obj).Inv := by
  unfold State.onEprMode
  try dsimp only
  repeat' (first | (with_reducible (first | assumption | apply State.put_inv | apply State.sendCaps_inv | apply State.hardReset_inv | apply State.unexpected_inv | apply State.eprEnter_inv | apply inv_ite)) | split)

theorem execEprMode_inv (pp : PdPort) (msg : PdMsg) (s : State) (hI : s.Inv) : State.InvO (execEprMode pp msg s) := by
  unfold execEprMode
  try dsimp only
  repeat' (first | (with_reducible (first | assumption | apply State.sayNotSupported_inv | refine State.pdAnswer_inv _ _ _ _ _ (fun _ _ => ?_) ?_ | refine pdCommand_inv _ _ _ _ _ (fun _ _ _ => ?_) ?_ | apply State.onEprMode_inv | apply State.invO_next | apply inv_ite | apply invO_ite)) | (intro _) | split)

theorem execEprKeepalive_inv (pp : PdPort) (msg : PdMsg) (s : State) (hI : s.Inv) : State.InvO (execEprKeepalive pp msg s) := by
  unfold execEprKeepalive
  try dsimp only
  repeat' (first | (with_reducible (first | assumption | apply State.pdSay_inv | apply State.sayNotSupported_inv | apply State.unexpected_inv | refine State.pdAnswer_inv _ _ _ _ _ (fun _ _ => ?_) ?_ | refine pdCommand_inv _ _ _ _ _ (fun _ _ _ => ?_) ?_ | apply State.invO_next | apply inv_ite | apply invO_ite)) | (intro _) | split)

theorem State.onVdm_inv (s : State) (p : Port) (objs : List Word) (hI : s.Inv) : (State.onVdm s p objs).Inv := by
  unfold State.onVdm
  try dsimp only
  repeat' (first | (with_reducible (first | assumption | apply State.sayNotSupported_inv | apply State.unexpected_inv | apply State.modeAnswer_inv | apply State.vdmRequest_inv | refine State.pdAnswer_inv _ _ _ _ _ (fun _ _ => ?_) ?_ | apply inv_ite)) | (intro _) | split)

theorem State.cableTried_inv (s : State) (p : Port) (hI : s.Inv) : (State.cableTried s p).Inv := by
  unfold State.cableTried
  repeat' (first | (with_reducible (first | assumption | apply State.cableFail_inv | apply inv_ite)) | split)

theorem State.onCableVdm_inv (s : State) (p : Port) (objs : List Word) (hI : s.Inv) : (State.onCableVdm s p objs).Inv := by
  unfold State.onCableVdm
  try dsimp only
  repeat' (first | (with_reducible (first | assumption | apply State.cableFound_inv | apply State.eprFail_inv | apply State.eprCableAnswer_inv | apply State.cableTried_inv | apply inv_ite)) | split)

theorem execVendorDefined_inv (pp : PdPort) (msg : PdMsg) (s : State) (hI : s.Inv) : State.InvO (execVendorDefined pp msg s) := by
  unfold execVendorDefined
  try dsimp only
  repeat' (first | (with_reducible (first | assumption | apply State.pdAck_inv | refine State.pdTake_inv _ _ _ _ (fun _ _ => ?_) ?_ | apply State.upSay_inv | apply State.onVdm_inv | apply State.onCableVdm_inv | apply State.invO_next | apply inv_ite | apply invO_ite)) | (intro _) | split)

theorem execPingMsg_inv (pp : PdPort) (msg : PdMsg) (s : State) (hI : s.Inv) : State.InvO (execPingMsg pp msg s) := by
  unfold execPingMsg
  try dsimp only
  repeat' (first | (with_reducible (first | assumption | refine pdCommand_inv _ _ _ _ _ (fun _ _ _ => ?_) ?_ | apply State.invO_next)) | (intro _))

theorem execAlertMsg_inv (pp : PdPort) (msg : PdMsg) (s : State) (hI : s.Inv) : State.InvO (execAlertMsg pp msg s) := by
  unfold execAlertMsg
  try dsimp only
  repeat' (first | (with_reducible (first | assumption | refine pdCommand_inv _ _ _ _ _ (fun _ _ _ => ?_) ?_ | apply State.invO_next)) | (intro _))

theorem State.onBist_inv (s : State) (p : Port) (obj : Word) (hI : s.Inv) : (State.onBist s p obj).Inv := by
  unfold State.onBist
  try dsimp only
  repeat' (first | (with_reducible (first | assumption | apply State.pdSay_inv | apply inv_ite)) | split)

theorem execBist_inv (pp : PdPort) (msg : PdMsg) (s : State) (hI : s.Inv) : State.InvO (execBist pp msg s) := by
  unfold execBist
  try dsimp only
  repeat' (first | (with_reducible (first | assumption | refine State.pdAnswer_inv _ _ _ _ _ (fun _ _ => ?_) ?_ | refine pdCommand_inv _ _ _ _ _ (fun _ _ _ => ?_) ?_ | apply State.onBist_inv | apply State.invO_next)) | (intro _))

theorem State.onSinkCaps_inv (s : State) (p : Port) (w : Word) (hI : s.Inv) : (State.onSinkCaps s p w).Inv := by
  unfold State.onSinkCaps
  try dsimp only
  repeat' (first | (with_reducible (first | assumption | apply State.pdWith_inv | apply State.grantChanged_inv | apply State.askReserve_inv | apply inv_ite)) | (intro _) | split)

theorem State.onUnsupported_inv (s : State) (p : Port) (m : PdMsg) (hI : s.Inv) : (State.onUnsupported s p m).Inv := by
  unfold State.onUnsupported
  try dsimp only
  repeat' (first | (with_reducible (first | assumption | apply State.pdWith_inv | apply State.sayNotSupported_inv | apply State.unexpected_inv | apply State.swapRefused_inv | apply State.onSinkCaps_inv | apply inv_ite)) | (intro _) | split)

theorem execUnsupportedMessage_inv (pp : PdPort) (msg : PdMsg) (s : State) (hI : s.Inv) : State.InvO (execUnsupportedMessage pp msg s) := by
  unfold execUnsupportedMessage
  try dsimp only
  repeat' (first | (with_reducible (first | assumption | refine pdCommand_inv _ _ _ _ _ (fun _ _ _ => ?_) ?_ | apply State.onUnsupported_inv | apply State.invO_next)) | (intro _))

theorem State.drDone_inv (s : State) (p : Port) (hI : s.Inv) : (State.drDone s p).Inv := by
  unfold State.drDone
  try dsimp only
  repeat' (first | (with_reducible (first | assumption | apply State.pdWith_inv | apply State.vconnTake_inv)) | (intro _))

theorem State.onAccept_inv (s : State) (p : Port) (hI : s.Inv) : (State.onAccept s p).Inv := by
  unfold State.onAccept
  try dsimp only
  repeat' (first | (with_reducible (first | assumption | apply State.pdWith_inv | apply State.vconnOn_inv | apply State.pdSay_inv | apply State.softDone_inv | apply State.swapEvent_inv | apply State.unexpected_inv | apply State.swapOver_inv | apply State.becomeDfp_inv | apply State.drDone_inv | apply inv_ite)) | (intro _) | split)

theorem execAccept_inv (pp : PdPort) (msg : PdMsg) (s : State) (hI : s.Inv) : State.InvO (execAccept pp msg s) := by
  unfold execAccept
  try dsimp only
  repeat' (first | (with_reducible (first | assumption | refine State.pdTake_inv _ _ _ _ (fun _ _ => ?_) ?_ | apply State.upStep_inv | apply State.onAccept_inv | apply State.invO_next)) | (intro _) | split)

theorem State.onRefusal_inv (s : State) (p : Port) (num outcome : Nat) (hI : s.Inv) : (State.onRefusal s p num outcome).Inv := by
  unfold State.onRefusal
  repeat' (first | (with_reducible (first | assumption | apply State.unexpected_inv | apply State.swapRefused_inv | apply inv_ite)) | split)

theorem execReject_inv (pp : PdPort) (msg : PdMsg) (s : State) (hI : s.Inv) : State.InvO (execReject pp msg s) := by
  unfold execReject
  try dsimp only
  repeat' (first | (with_reducible (first | assumption | refine State.pdTake_inv _ _ _ _ (fun _ _ => ?_) ?_ | apply State.upStep_inv | apply State.onRefusal_inv | apply State.invO_next | apply inv_ite | apply invO_ite)) | (intro _) | split)

theorem execWaitMsg_inv (pp : PdPort) (msg : PdMsg) (s : State) (hI : s.Inv) : State.InvO (execWaitMsg pp msg s) := by
  unfold execWaitMsg
  try dsimp only
  repeat' (first | (with_reducible (first | assumption | refine State.pdTake_inv _ _ _ _ (fun _ _ => ?_) ?_ | apply State.upStep_inv | apply State.onRefusal_inv | apply State.invO_next | apply inv_ite | apply invO_ite)) | (intro _) | split)

theorem State.onPsRdy_inv (s : State) (p : Port) (hI : s.Inv) : (State.onPsRdy s p).Inv := by
  unfold State.onPsRdy
  try dsimp only
  repeat' (first | (with_reducible (first | assumption | apply State.pdWith_inv | apply State.setLimit_inv | apply State.vconnHand_inv | apply State.swapEvent_inv | apply State.hardReset_inv | apply State.unexpected_inv | apply State.sinkContract_inv | apply State.swapOver_inv | apply State.swapToSource_inv | apply State.checkClose_inv | apply inv_ite)) | (intro _) | split)

theorem execPsRdy_inv (pp : PdPort) (msg : PdMsg) (s : State) (hI : s.Inv) : State.InvO (execPsRdy pp msg s) := by
  unfold execPsRdy
  try dsimp only
  repeat' (first | (with_reducible (first | assumption | refine State.pdTake_inv _ _ _ _ (fun _ _ => ?_) ?_ | apply State.upStep_inv | apply State.onPsRdy_inv | apply State.invO_next | apply inv_ite | apply invO_ite)) | (intro _) | split)

theorem State.capsAcked_inv (s : State) (p : Port) (hI : s.Inv) : (State.capsAcked s p).Inv := by
  unfold State.capsAcked
  try dsimp only
  repeat' (first | (with_reducible (first | assumption | apply State.pdWith_inv | apply State.setPe_inv)) | (intro _))

theorem State.onGoodCrc_inv (s : State) (p : Port) (m : PdMsg) (hI : s.Inv) : (State.onGoodCrc s p m).Inv := by
  unfold State.onGoodCrc
  try dsimp only
  repeat' (first | (with_reducible (first | assumption | apply State.pdWith_inv | apply State.capsAcked_inv | apply inv_ite)) | (intro _) | split)

theorem execGoodcrc_inv (pp : PdPort) (msg : PdMsg) (s : State) (hI : s.Inv) : State.InvO (execGoodcrc pp msg s) := by
  unfold execGoodcrc
  try dsimp only
  repeat' (first | (with_reducible (first | assumption | apply State.pdFresh_inv | apply State.upSend_inv | apply State.onGoodCrc_inv | apply State.invO_next | apply inv_ite | apply invO_ite)) | split)

theorem State.giveUp_inv (s : State) (p : Port) (o : PdOut) (hI : s.Inv) : (State.giveUp s p o).Inv := by
  unfold State.giveUp
  try dsimp only
  repeat' (first | (with_reducible (first | assumption | apply State.pdWith_inv | apply State.countErr_inv | apply State.rpApply_inv | apply State.eprFail_inv | apply State.cableTried_inv | apply inv_ite)) | (intro _) | split)

theorem State.onNoGoodCrc_inv (s : State) (p : Port) (hI : s.Inv) : (State.onNoGoodCrc s p).Inv := by
  unfold State.onNoGoodCrc
  try dsimp only
  repeat' (first | (with_reducible (first | assumption | apply State.pdWith_inv | apply State.giveUp_inv | apply inv_ite)) | (intro _) | split)

theorem execGoodcrcTimeout_inv (pp : PdPort) (msg : PdMsg) (s : State) (hI : s.Inv) : State.InvO (execGoodcrcTimeout pp msg s) := by
  unfold execGoodcrcTimeout
  try dsimp only
  repeat' (first | (with_reducible (first | assumption | apply State.pdFresh_inv | apply State.upSend_inv | apply State.onNoGoodCrc_inv | apply State.invO_next | apply inv_ite | apply invO_ite)) | split)

end Sys2Proof.Machine
end

