-- ==== Sys2Proof/Laws/InvPdTimers.lean ====
section
/-! SUPPORT. What the definitions of Machine/PdTimers.lean keep: each one leaves the invariant of Safety.lean as it was. -/

namespace Sys2Proof.Machine

set_option linter.unreachableTactic false
set_option linter.unusedTactic false

theorem State.pdTick_inv (s : State) (p : Port) (c : Bool) (f : State → State) (hf0 : ∀ x0, x0.Inv → (f x0).Inv) (hI : s.Inv) : (State.pdTick s p c f).Inv := by
  unfold State.pdTick
  repeat' (first | (with_reducible (first | assumption | apply hf0 | apply State.pdFresh_inv | apply inv_ite)) | (intro _) | split)

theorem execSrcStartupEnd_inv (p : Port) (s : State) (hI : s.Inv) : State.InvO (execSrcStartupEnd p s) := by
  unfold execSrcStartupEnd
  try dsimp only
  repeat' (first | (with_reducible (first | assumption | apply State.startCaps_inv | refine State.pdTick_inv _ _ _ _ (fun _ _ => ?_) ?_ | apply State.invO_next)) | (intro _))

theorem execSourceCapResend_inv (p : Port) (s : State) (hI : s.Inv) : State.InvO (execSourceCapResend p s) := by
  unfold execSourceCapResend
  try dsimp only
  repeat' (first | (with_reducible (first | assumption | apply State.sendCaps_inv | refine State.pdTick_inv _ _ _ _ (fun _ _ => ?_) ?_ | apply State.invO_next)) | (intro _))

theorem State.revokeDropped_inv (s : State) (p : Port) (hI : s.Inv) : (State.revokeDropped s p).Inv := by
  unfold State.revokeDropped
  repeat' (first | (with_reducible (first | assumption | apply State.put_inv | apply inv_ite)) | split)

theorem State.revokeUnanswered_inv (s : State) (p : Port) (hI : s.Inv) : (State.revokeUnanswered s p).Inv := by
  unfold State.revokeUnanswered
  try dsimp only
  repeat' (first | (with_reducible (first | assumption | apply State.pdWith_inv | apply State.hardReset_inv | apply State.revokeDropped_inv)) | (intro _))

theorem State.noAnswer_inv (s : State) (p : Port) (hI : s.Inv) : (State.noAnswer s p).Inv := by
  unfold State.noAnswer
  try dsimp only
  repeat' (first | (with_reducible (first | assumption | apply State.sendSoft_inv | apply State.frsFail_inv | apply State.hardReset_inv | apply State.protoErr_inv | apply State.swapTried_inv | apply State.eprFail_inv | apply State.revokeUnanswered_inv | apply inv_ite)) | split)

theorem State.upNoAnswer_inv (s : State) (u : Up) (hI : s.Inv) : (State.upNoAnswer s u).Inv := by
  unfold State.upNoAnswer
  repeat' (first | (with_reducible (first | assumption | apply State.hardReset_inv | apply State.upSend_inv | apply inv_ite)) | split)

theorem execSenderResponseTimeout_inv (pp : PdPort) (s : State) (hI : s.Inv) : State.InvO (execSenderResponseTimeout pp s) := by
  unfold execSenderResponseTimeout
  try dsimp only
  repeat' (first | (with_reducible (first | assumption | refine State.pdTick_inv _ _ _ _ (fun _ _ => ?_) ?_ | apply State.noAnswer_inv | apply State.upNoAnswer_inv | apply State.invO_next)) | (intro _) | split)

theorem State.startTransition_inv (s : State) (p : Port) (hI : s.Inv) : (State.startTransition s p).Inv := by
  unfold State.startTransition
  try dsimp -iota only
  repeat' (first | split | (with_reducible (first | assumption | apply State.put_inv | apply State.vbsWith_inv | apply State.pdWith_inv | apply State.contractDone_inv | apply inv_ite)) | (intro _) | (refine inv_of_snd (by with_reducible assumption) ?_))

theorem execTransitionStart_inv (p : Port) (s : State) (hI : s.Inv) : State.InvO (execTransitionStart p s) := by
  unfold execTransitionStart
  try dsimp only
  repeat' (first | (with_reducible (first | assumption | refine State.pdTick_inv _ _ _ _ (fun _ _ => ?_) ?_ | apply State.startTransition_inv | apply State.invO_next)) | (intro _))

theorem State.transFail_inv (s : State) (p : Port) (hI : s.Inv) : (State.transFail s p).Inv := by
  unfold State.transFail
  try dsimp only
  repeat' (with_reducible (first | assumption | apply State.raisePort_inv | apply State.setFault_inv | apply State.endRaise_inv | apply State.hardReset_inv))

theorem execTransLimitEnd_inv (p : Port) (s : State) (hI : s.Inv) : State.InvO (execTransLimitEnd p s) := by
  unfold execTransLimitEnd
  try dsimp only
  repeat' (first | (with_reducible (first | assumption | refine State.pdTick_inv _ _ _ _ (fun _ _ => ?_) ?_ | apply State.transFail_inv | apply State.invO_next)) | (intro _))

theorem execWaitTimerEnd_inv (p : Port) (s : State) (hI : s.Inv) : State.InvO (execWaitTimerEnd p s) := by
  unfold execWaitTimerEnd
  try dsimp only
  repeat' (first | (with_reducible (first | assumption | apply State.pdWith_inv | apply State.pdSay_inv | apply State.toReady_inv | refine State.pdTick_inv _ _ _ _ (fun _ _ => ?_) ?_ | apply State.invO_next)) | (intro _))

theorem execLeaveHoldEnd_inv (p : Port) (s : State) (hI : s.Inv) : State.InvO (execLeaveHoldEnd p s) := by
  unfold execLeaveHoldEnd
  try dsimp only
  repeat' (first | (with_reducible (first | assumption | apply State.pdWith_inv | apply State.endRaise_inv | refine State.pdTick_inv _ _ _ _ (fun _ _ => ?_) ?_ | apply State.invO_next)) | (intro _))

theorem execPpsTimeout_inv (p : Port) (s : State) (hI : s.Inv) : State.InvO (execPpsTimeout p s) := by
  unfold execPpsTimeout
  try dsimp only
  repeat' (first | (with_reducible (first | assumption | apply State.hardReset_inv | refine State.pdTick_inv _ _ _ _ (fun _ _ => ?_) ?_ | apply State.invO_next)) | (intro _))

theorem execEprKeepaliveTimeout_inv (p : Port) (s : State) (hI : s.Inv) : State.InvO (execEprKeepaliveTimeout p s) := by
  unfold execEprKeepaliveTimeout
  try dsimp only
  repeat' (first | (with_reducible (first | assumption | apply State.hardReset_inv | refine State.pdTick_inv _ _ _ _ (fun _ _ => ?_) ?_ | apply State.invO_next)) | (intro _))

theorem State.startSinkTx_inv (s : State) (p : Port) (hI : s.Inv) : (State.startSinkTx s p).Inv := by
  unfold State.startSinkTx
  try dsimp only
  repeat' (first | (with_reducible (first | assumption | apply State.pdWith_inv | apply State.rpApply_inv)) | (intro _))

theorem State.ownSequence_inv (s : State) (p : Port) (hI : s.Inv) : (State.ownSequence s p).Inv := by
  unfold State.ownSequence
  try dsimp only
  repeat' (first | (with_reducible (first | assumption | apply State.put_inv | apply State.pdWith_inv | apply State.toReady_inv | apply State.sendCaps_inv | apply State.sendSoft_inv | apply State.vconnTake_inv | apply State.sendDrSwap_inv | apply State.modeSend_inv | apply State.sendExit_inv | apply inv_ite)) | (intro _) | split)

theorem execSinkTxEnd_inv (p : Port) (s : State) (hI : s.Inv) : State.InvO (execSinkTxEnd p s) := by
  unfold execSinkTxEnd
  try dsimp only
  repeat' (first | (with_reducible (first | assumption | apply State.pdWith_inv | apply State.sendCaps_inv | refine State.pdTick_inv _ _ _ _ (fun _ _ => ?_) ?_ | apply State.ownSequence_inv | apply State.invO_next | apply inv_ite | apply invO_ite)) | (intro _) | split)

theorem execCapsMergeEnd_inv (p : Port) (s : State) (hI : s.Inv) : State.InvO (execCapsMergeEnd p s) := by
  unfold execCapsMergeEnd
  try dsimp only
  repeat' (first | (with_reducible (first | assumption | apply State.pdWith_inv | apply State.pdKick_inv | refine State.pdTick_inv _ _ _ _ (fun _ _ => ?_) ?_ | apply State.invO_next)) | (intro _))

theorem execDiscoverIdentityAttempt_inv (p : Port) (s : State) (hI : s.Inv) : State.InvO (execDiscoverIdentityAttempt p s) := by
  unfold execDiscoverIdentityAttempt
  try dsimp only
  repeat' (first | (with_reducible (first | assumption | apply State.count_inv | apply State.pdSay_inv | apply State.cableTried_inv | refine State.pdTick_inv _ _ _ _ (fun _ _ => ?_) ?_ | apply State.invO_next | apply inv_ite | apply invO_ite)) | (intro _) | split)

theorem execRevokeNoRequest_inv (p : Port) (s : State) (hI : s.Inv) : State.InvO (execRevokeNoRequest p s) := by
  unfold execRevokeNoRequest
  try dsimp only
  repeat' (first | (with_reducible (first | assumption | refine State.pdTick_inv _ _ _ _ (fun _ _ => ?_) ?_ | apply State.revokeUnanswered_inv | apply State.invO_next)) | (intro _))

theorem execHardResetPowerOff_inv (p : Port) (s : State) (hI : s.Inv) : State.InvO (execHardResetPowerOff p s) := by
  unfold execHardResetPowerOff
  try dsimp only
  repeat' (first | (with_reducible (first | assumption | apply State.pdWith_inv | apply State.vconnOff_inv | apply State.muxEnd_inv | apply State.vbsOpenTo_inv | refine State.pdTick_inv _ _ _ _ (fun _ _ => ?_) ?_ | apply State.revokeDropped_inv | apply State.invO_next)) | (intro _))

theorem execSrcRecoverEnd_inv (p : Port) (s : State) (hI : s.Inv) : State.InvO (execSrcRecoverEnd p s) := by
  unfold execSrcRecoverEnd
  try dsimp only
  repeat' (first | (with_reducible (first | assumption | apply State.put_inv | apply State.pdWith_inv | apply State.setLimit_inv | apply State.vconnStart_inv | refine State.pdTick_inv _ _ _ _ (fun _ _ => ?_) ?_ | apply State.invO_next)) | (intro _))

theorem execSinkWaitCapTimeout_inv (p : Port) (s : State) (hI : s.Inv) : State.InvO (execSinkWaitCapTimeout p s) := by
  unfold execSinkWaitCapTimeout
  try dsimp only
  repeat' (first | (with_reducible (first | assumption | apply State.hardReset_inv | refine State.pdTick_inv _ _ _ _ (fun _ _ => ?_) ?_ | apply State.invO_next)) | (intro _))

theorem execSwapAttempt_inv (p : Port) (s : State) (hI : s.Inv) : State.InvO (execSwapAttempt p s) := by
  unfold execSwapAttempt
  try dsimp only
  repeat' (first | (with_reducible (first | assumption | apply State.pdWith_inv | apply State.trip_inv | apply State.askReserve_inv | apply State.setPe_inv | apply State.pdSay_inv | refine State.pdTick_inv _ _ _ _ (fun _ _ => ?_) ?_ | apply State.startSinkTx_inv | apply State.invO_next | apply inv_ite | apply invO_ite)) | (intro _) | split)

theorem execSinkHardResetTimeout_inv (p : Port) (s : State) (hI : s.Inv) : State.InvO (execSinkHardResetTimeout p s) := by
  unfold execSinkHardResetTimeout
  try dsimp only
  repeat' (first | (with_reducible (first | assumption | apply State.count_inv | apply State.pdWith_inv | apply State.ccEnd_inv | refine State.pdTick_inv _ _ _ _ (fun _ _ => ?_) ?_ | apply State.invO_next | apply inv_ite | apply invO_ite)) | (intro _) | split)

theorem execFrsSignal_inv (p : Port) (s : State) (hI : s.Inv) : State.InvO (execFrsSignal p s) := by
  unfold execFrsSignal
  try dsimp only
  repeat' (first | (with_reducible (first | assumption | apply State.pdWith_inv | apply State.setPe_inv | apply State.pdSay_inv | refine State.pdTick_inv _ _ _ _ (fun _ _ => ?_) ?_ | apply State.invO_next)) | (intro _))

theorem execFrsVbusDrop_inv (p : Port) (s : State) (hI : s.Inv) : State.InvO (execFrsVbusDrop p s) := by
  unfold execFrsVbusDrop
  try dsimp only
  repeat' (first | (with_reducible (first | assumption | apply State.put_inv | apply State.raisePort_inv | apply State.opDone_inv | apply State.setLimit_inv | apply State.bcDecide_inv | refine State.pdTick_inv _ _ _ _ (fun _ _ => ?_) ?_ | apply State.invO_next)) | (intro _))

theorem execConsoleModeAttempt_inv (p : Port) (s : State) (hI : s.Inv) : State.InvO (execConsoleModeAttempt p s) := by
  unfold execConsoleModeAttempt
  try dsimp only
  repeat' (first | (with_reducible (first | assumption | apply State.pdWith_inv | refine State.pdTick_inv _ _ _ _ (fun _ _ => ?_) ?_ | apply State.startSinkTx_inv | apply State.invO_next)) | (intro _))

theorem execVdmResponseTimeout_inv (p : Port) (s : State) (hI : s.Inv) : State.InvO (execVdmResponseTimeout p s) := by
  unfold execVdmResponseTimeout
  try dsimp only
  repeat' (first | (with_reducible (first | assumption | apply State.eprFail_inv | apply State.modeOver_inv | apply State.modeFail_inv | apply State.cableTried_inv | refine State.pdTick_inv _ _ _ _ (fun _ _ => ?_) ?_ | apply State.invO_next | apply inv_ite | apply invO_ite)) | (intro _) | split)

theorem State.cmdHardReset_inv (s : State) (p : Port) (hI : s.Inv) : (State.cmdHardReset s p).Inv := by
  unfold State.cmdHardReset
  repeat' (with_reducible (first | assumption | apply State.pdFresh_inv | apply State.hardReset_inv))

theorem State.cmdSoftReset_inv (s : State) (p : Port) (hI : s.Inv) : (State.cmdSoftReset s p).Inv := by
  unfold State.cmdSoftReset
  repeat' (first | (with_reducible (first | assumption | apply State.put_inv | apply State.pdFresh_inv | apply State.sendSoft_inv | apply State.startSinkTx_inv | apply inv_ite)) | split)

theorem State.cmdSendCaps_inv (s : State) (p : Port) (hI : s.Inv) : (State.cmdSendCaps s p).Inv := by
  unfold State.cmdSendCaps
  repeat' (with_reducible (first | assumption | apply State.put_inv | apply State.pdKick_inv))

theorem State.cmdRediscover_inv (s : State) (p : Port) (hI : s.Inv) : (State.cmdRediscover s p).Inv := by
  unfold State.cmdRediscover
  try dsimp only
  repeat' (first | (with_reducible (first | assumption | apply State.put_inv | apply State.pdWith_inv | apply inv_ite)) | (intro _) | split)

theorem State.cmdExitMode_inv (s : State) (p : Port) (hI : s.Inv) : (State.cmdExitMode s p).Inv := by
  unfold State.cmdExitMode
  repeat' (first | (with_reducible (first | assumption | apply State.put_inv | apply State.pdKick_inv | apply State.pdFresh_inv | apply State.sendExit_inv | apply inv_ite)) | split)

theorem State.pdDisable_inv (s : State) (p : Port) (reason : Nat) (hI : s.Inv) : (State.pdDisable s p reason).Inv := by
  unfold State.pdDisable
  try dsimp only
  repeat' (first | (with_reducible (first | assumption | apply State.modeExit_inv | apply State.setPe_inv | apply State.pdFresh_inv | apply State.pdOff_inv | apply State.hardReset_inv | apply inv_ite)) | split)

theorem State.pdEnChanged_inv (s : State) (p : Port) (hI : s.Inv) : (State.pdEnChanged s p).Inv := by
  unfold State.pdEnChanged
  repeat' (first | (with_reducible (first | assumption | apply State.pdStart_inv | apply State.pdDisable_inv | apply inv_ite)) | split)

theorem State.swapsChanged_inv (s : State) (p : Port) (hI : s.Inv) : (State.swapsChanged s p).Inv := by
  unfold State.swapsChanged
  try dsimp only
  repeat' (first | (with_reducible (first | assumption | apply State.put_inv | apply State.pdWith_inv | apply State.pdFresh_inv | apply State.frsAsk_inv | apply State.reserveCheck_inv | apply inv_ite)) | (intro _) | split)

end Sys2Proof.Machine
end

