-- ==== Sys2Proof/Laws/InvPwe.lean ====
section
/-! SUPPORT. What the definitions of Machine/Pwe.lean keep: each one leaves the invariant of Safety.lean as it was. -/

namespace Sys2Proof.Machine

set_option linter.unreachableTactic false
set_option linter.unusedTactic false

theorem State.withEntry_inv (s : State) (f : Entry → Entry) (hI : s.Inv) : (State.withEntry s f).Inv := by
  unfold State.withEntry
  try dsimp only
  repeat' (first | (with_reducible (first | assumption)) | (with_reducible apply State.Inv.set_entry))

theorem State.entryGatesOff_inv (s : State) (hI : s.Inv) : (State.entryGatesOff s).Inv := by
  unfold State.entryGatesOff
  try dsimp only
  repeat' (first | (with_reducible (first | assumption | apply State.put_inv | apply State.withEntry_inv)) | (intro _))

theorem State.setFeedGate_inv (s : State) (fd : Feed) (on : Bool) (hI : s.Inv) : (State.setFeedGate s fd on).Inv := by
  unfold State.setFeedGate
  try dsimp only
  repeat' (first | (with_reducible (first | assumption | apply State.withEntry_inv)) | (intro _) | split)

theorem State.toDebounce_inv (s : State) (why : Fin 4) (hI : s.Inv) : (State.toDebounce s why).Inv := by
  unfold State.toDebounce
  try dsimp only
  repeat' (first | (with_reducible (first | assumption | apply State.put_inv | apply State.withEntry_inv | apply State.entryGatesOff_inv)) | (intro _))

theorem State.toRamp_inv (s : State) (hI : s.Inv) : (State.toRamp s).Inv := by
  unfold State.toRamp
  try dsimp only
  repeat' (first | (with_reducible (first | assumption | apply State.put_inv | apply State.count_inv | apply State.withEntry_inv | apply State.setFeedGate_inv | apply inv_ite)) | (intro _) | split)

theorem State.senseNow_inv (s : State) (hI : s.Inv) : (State.senseNow s).2.Inv := by
  unfold State.senseNow
  try dsimp -iota only
  repeat' (first | split | (with_reducible (first | assumption | apply State.free_inv | apply inv_ite)) | (refine inv_of_snd (by with_reducible assumption) ?_))

theorem State.entryTrip_inv (s : State) (cause uv : Nat) (hI : s.Inv) : (State.entryTrip s cause uv).Inv := by
  unfold State.entryTrip
  try dsimp only
  repeat' (first | (with_reducible (first | assumption | apply State.put_inv | apply State.count_inv | apply State.raise_inv | apply State.withEntry_inv | apply State.entryGatesOff_inv | apply inv_ite)) | (intro _) | split)

theorem State.ilimFail_inv (s : State) (opn short : Bool) (hI : s.Inv) : (State.ilimFail s opn short).Inv := by
  unfold State.ilimFail
  try dsimp only
  repeat' (first | (with_reducible (first | assumption | apply State.put_inv | apply State.setFlag_inv | apply State.raise_inv | apply State.entryGatesOff_inv | apply inv_ite)) | split)

theorem execEntryResetRelease_inv (prefB : Bool) (rIlim : Nat) (s : State) (hI : s.Inv) : State.InvO (execEntryResetRelease prefB rIlim s) := by
  unfold execEntryResetRelease
  try dsimp only
  repeat' (first | (with_reducible (first | assumption | apply State.put_inv | apply State.withEntry_inv | apply State.ilimFail_inv | apply State.invO_next | apply inv_ite | apply invO_ite)) | (intro _) | split)

theorem execEntryReset_inv (s : State) (hI : s.Inv) : State.InvO (execEntryReset s) :=
  State.invO_next (State.setFifo_inv _ 5 _ (State.dropParity_inv _ _ _ (State.clearRegs_inv _ _ _ (State.withEntry_inv _ _ hI)))
    (by simp [emptyFifo]))

theorem execSeated_inv (s : State) (hI : s.Inv) : State.InvO (execSeated s) := by
  unfold execSeated
  try dsimp only
  repeat' (first | (with_reducible (first | assumption | apply State.put_inv | apply State.withEntry_inv | apply State.invO_next | apply inv_ite | apply invO_ite)) | (intro _) | split)

theorem execSeatingLoss_inv (pins : BitVec 2) (s : State) (hI : s.Inv) : State.InvO (execSeatingLoss pins s) := by
  unfold execSeatingLoss
  try dsimp only
  repeat' (first | (with_reducible (first | assumption | apply State.put_inv | apply State.count_inv | apply State.raise_inv | apply State.withEntry_inv | apply State.toDebounce_inv | apply State.invO_next | apply inv_ite | apply invO_ite)) | (intro _) | split)

theorem execSeatDbEnd_inv (s : State) (hI : s.Inv) : State.InvO (execSeatDbEnd s) := by
  unfold execSeatDbEnd
  try dsimp only
  repeat' (first | (with_reducible (first | assumption | apply State.raise_inv | apply State.withEntry_inv | apply State.toRamp_inv | apply State.invO_next | apply inv_ite | apply invO_ite)) | (intro _) | split)

theorem execRampEnd_inv (s : State) (hI : s.Inv) : State.InvO (execRampEnd s) := by
  unfold execRampEnd
  repeat' (first | (with_reducible (first | assumption | apply State.put_inv | apply State.invO_next | apply inv_ite | apply invO_ite)) | split)

theorem execEntryFastTrip_inv (uv : Nat) (s : State) (hI : s.Inv) : State.InvO (execEntryFastTrip uv s) := by
  unfold execEntryFastTrip
  repeat' (first | (with_reducible (first | assumption | apply State.entryTrip_inv | apply State.invO_next | apply inv_ite | apply invO_ite)) | split)

theorem execFaultTimeEnd_inv (uv : Nat) (s : State) (hI : s.Inv) : State.InvO (execFaultTimeEnd uv s) := by
  unfold execFaultTimeEnd
  repeat' (first | (with_reducible (first | assumption | apply State.entryTrip_inv | apply State.invO_next | apply inv_ite | apply invO_ite)) | split)

theorem execRampMaxEnd_inv (uv : Nat) (s : State) (hI : s.Inv) : State.InvO (execRampMaxEnd uv s) := by
  unfold execRampMaxEnd
  repeat' (first | (with_reducible (first | assumption | apply State.entryTrip_inv | apply State.invO_next | apply inv_ite | apply invO_ite)) | split)

theorem execEntryLimit_inv (above : Bool) (uv : Nat) (s : State) (hI : s.Inv) : State.InvO (execEntryLimit above uv s) := by
  unfold execEntryLimit
  try dsimp only
  repeat' (first | (with_reducible (first | assumption | apply State.put_inv | apply State.setFlag_inv | apply State.withEntry_inv | apply State.invO_next | apply inv_ite | apply invO_ite)) | (intro _) | split)

theorem execEntryRetryEnd_inv (s : State) (hI : s.Inv) : State.InvO (execEntryRetryEnd s) := by
  unfold execEntryRetryEnd
  try dsimp only
  repeat' (first | (with_reducible (first | assumption | apply State.withEntry_inv | apply State.toRamp_inv | apply State.invO_next | apply inv_ite | apply invO_ite)) | (intro _) | split)

theorem execEntryConsecClear_inv (s : State) (hI : s.Inv) : State.InvO (execEntryConsecClear s) := by
  unfold execEntryConsecClear
  try dsimp only
  repeat' (first | (with_reducible (first | assumption | apply State.put_inv | apply State.withEntry_inv | apply State.invO_next | apply inv_ite | apply invO_ite)) | (intro _) | split)

theorem execIlimCheck_inv (rOhm : Nat) (s : State) (hI : s.Inv) : State.InvO (execIlimCheck rOhm s) := by
  unfold execIlimCheck
  repeat' (first | (with_reducible (first | assumption | apply State.ilimFail_inv | apply State.invO_next | apply inv_ite | apply invO_ite)) | split)

theorem State.setFeed_inv (s : State) (fd : Feed) (good : Bool) (dv : Nat) (hI : s.Inv) : (State.setFeed s fd good dv).Inv := by
  unfold State.setFeed
  try dsimp only
  repeat' (first | (with_reducible (first | assumption | apply State.put_inv | apply State.setFlag_inv)) | split)

theorem execFeedLoss_inv (fd : Feed) (count : Nat) (s : State) (hI : s.Inv) : State.InvO (execFeedLoss fd count s) := by
  unfold execFeedLoss
  try dsimp only
  repeat' (first | (with_reducible (first | assumption | apply State.put_inv | apply State.count_inv | apply State.raise_inv | apply State.withEntry_inv | apply State.setFeedGate_inv | apply State.toDebounce_inv | apply State.setFeed_inv | apply State.invO_next | apply inv_ite | apply invO_ite)) | (intro _) | split | (refine inv_of_snd (by with_reducible assumption) ?_))

theorem execFeedSwitch_inv (s : State) (hI : s.Inv) : State.InvO (execFeedSwitch s) := by
  unfold execFeedSwitch
  try dsimp only
  repeat' (first | (with_reducible (first | assumption | apply State.put_inv | apply State.count_inv | apply State.raise_inv | apply State.withEntry_inv | apply State.setFeedGate_inv | apply State.invO_next | apply inv_ite | apply invO_ite)) | (intro _) | split | (refine inv_of_snd (by with_reducible assumption) ?_))

theorem execFeedGood_inv (fd : Feed) (count : Nat) (s : State) (hI : s.Inv) : State.InvO (execFeedGood fd count s) := by
  unfold execFeedGood
  repeat' (first | (with_reducible (first | assumption | apply State.count_inv | apply State.setFeed_inv | apply State.invO_next | apply inv_ite | apply invO_ite)) | split)

theorem execFeedReturn_inv (s : State) (hI : s.Inv) : State.InvO (execFeedReturn s) := by
  unfold execFeedReturn
  try dsimp only
  repeat' (first | (with_reducible (first | assumption | apply State.put_inv | apply State.withEntry_inv | apply State.setFeedGate_inv | apply State.invO_next | apply inv_ite | apply invO_ite)) | (intro _) | split | (refine inv_of_snd (by with_reducible assumption) ?_))

theorem execEntryScrub_inv (ups : List (Nat × Word)) (addr : Nat) (s : State) (hI : s.Inv) : State.InvO (execEntryScrub ups addr s) := by
  unfold execEntryScrub
  try dsimp only
  repeat' (first | (with_reducible (first | assumption | apply State.upset_inv | apply State.findParity_inv | apply State.invO_next | apply inv_ite | apply invO_ite | refine inv_foldl (fun _ _ _ => ?_) ?_)) | (intro _) | split)

theorem State.ilimWritten_inv (s : State) (hI : s.Inv) : (State.ilimWritten s).Inv := by
  unfold State.ilimWritten
  try dsimp -iota only
  repeat' (first | split | (with_reducible (first | assumption | apply State.put_inv | apply State.withEntry_inv | apply State.senseNow_inv | apply State.entryTrip_inv | apply inv_ite)) | (intro _) | (refine inv_of_snd (by with_reducible assumption) ?_))

end Sys2Proof.Machine
end

