-- ==== Sys2Proof/Laws/InvTt.lean ====
section
/-! SUPPORT. What the definitions of Machine/Tt.lean keep: each one leaves the invariant of Safety.lean as it was. -/

namespace Sys2Proof.Machine

set_option linter.unreachableTactic false
set_option linter.unusedTactic false

theorem State.ttError_inv (s : State) (p : Port) (kind : Nat) (sp : Split) (hI : s.Inv) : (State.ttError s p kind sp).Inv := by
  unfold State.ttError
  repeat' (with_reducible (first | assumption | apply State.raisePort_inv))

theorem State.ttFail_inv (s : State) (p : Port) (kind : Nat) (sp : Split) (hI : s.Inv) : (State.ttFail s p kind sp).Inv := by
  unfold State.ttFail
  repeat' (with_reducible (first | assumption | apply State.countErr_inv | apply State.ttError_inv))

theorem State.startSplit_inv (s : State) (p : Port) (own : Bool) (sp : Split) (hI : s.Inv) : (State.startSplit s p own sp).Inv := by
  unfold State.startSplit
  try dsimp only
  repeat' (first | (with_reducible (first | assumption | apply State.reply_inv | apply State.u2pWith_inv | apply State.ttSync_inv | apply State.countU2_inv | apply inv_ite)) | (intro _) | split)

theorem State.splitAt_inv (s : State) (hc : HubCtx) (n : Nat) (dev : Port → Bool → State) (hf0 : ∀ x0 x1, (dev x0 x1).Inv) (hI : s.Inv) : (State.splitAt s hc n dev).Inv := by
  unfold State.splitAt
  repeat' (first | (with_reducible (first | assumption | apply hf0 | apply State.reply_inv | refine State.portRequest_inv _ _ _ _ _ (fun _ _ => ?_) ?_ ?_ | apply inv_ite)) | (intro _) | split)

theorem execStartSplit_inv (hc : HubCtx) (n : Nat) (sp : Split) (s : State) (hI : s.Inv) : State.InvO (execStartSplit hc n sp s) := by
  unfold execStartSplit
  try dsimp only
  repeat' (first | (with_reducible (first | assumption | apply State.startSplit_inv | refine State.splitAt_inv _ _ _ _ (fun _ _ => ?_) ?_ | apply State.invO_next)) | (intro _))

theorem State.takeEntry_inv (s : State) (t : Port) (per : Bool) (q : TtEntry → Bool) (more : Bool) (hI : s.Inv) : (State.takeEntry s t per q more).Inv := by
  unfold State.takeEntry
  try dsimp only
  repeat' (first | (with_reducible (first | assumption | apply State.u2pWith_inv | apply State.ttSync_inv | apply inv_ite)) | (intro _) | split)

theorem State.completeSplit_inv (s : State) (p : Port) (own : Bool) (sp : Split) (hI : s.Inv) : (State.completeSplit s p own sp).Inv := by
  unfold State.completeSplit
  try dsimp only
  repeat' (first | (with_reducible (first | assumption | apply State.reply_inv | apply State.countU2_inv | apply State.ttFail_inv | apply State.takeEntry_inv | apply inv_ite)) | (intro _) | split)

theorem execCompleteSplit_inv (hc : HubCtx) (n : Nat) (sp : Split) (s : State) (hI : s.Inv) : State.InvO (execCompleteSplit hc n sp s) := by
  unfold execCompleteSplit
  try dsimp only
  repeat' (first | (with_reducible (first | assumption | refine State.splitAt_inv _ _ _ _ (fun _ _ => ?_) ?_ | apply State.completeSplit_inv | apply State.invO_next)) | (intro _))

theorem State.ttEnd_inv (s : State) (t : Port) (per : Bool) (r : TtResult) (hI : s.Inv) : (State.ttEnd s t per r).Inv := by
  unfold State.ttEnd
  try dsimp only
  repeat' (first | (with_reducible (first | assumption | apply State.u2pWith_inv | apply State.ttSync_inv | apply inv_ite)) | (intro _) | split | (refine inv_of_snd (by with_reducible assumption) ?_))

theorem execTtTransactionEnd_inv (p : Port) (fin : TtDone) (s : State) (hI : s.Inv) : State.InvO (execTtTransactionEnd p fin s) := by
  unfold execTtTransactionEnd
  try dsimp only
  repeat' (with_reducible (first | assumption | apply State.ttEnd_inv | apply State.invO_next))

theorem State.ttBegin_inv (s : State) (t : Port) (hI : s.Inv) : (State.ttBegin s t).Inv := by
  unfold State.ttBegin
  try dsimp only
  repeat' (first | (with_reducible (first | assumption | apply State.u2pWith_inv)) | (intro _))

theorem execTtStale_inv (at_ : TtAt) (s0 : State) (hI : s0.Inv) : State.InvO (execTtStale at_ s0) := by
  unfold execTtStale
  try dsimp only
  repeat' (first | (with_reducible (first | assumption | apply State.u2pWith_inv | apply State.countErr_inv | apply State.ttSync_inv | apply State.ttError_inv | apply State.ttBegin_inv | apply State.invO_next | apply inv_ite | apply invO_ite)) | (intro _) | split)

theorem execTtResultExpire_inv (p : Port) (s : State) (hI : s.Inv) : State.InvO (execTtResultExpire p s) := by
  unfold execTtResultExpire
  try dsimp only
  repeat' (first | (with_reducible (first | assumption | apply State.u2pWith_inv | apply State.ttSync_inv | apply State.invO_next)) | (intro _))

theorem execClearTtBuffer_inv (hc : HubCtx) (n : Nat) (dev : BitVec 7) (ep : BitVec 4) (ty : XferType) (inDir : Bool) (s : State) (hI : s.Inv) : State.InvO (execClearTtBuffer hc n dev ep ty inDir s) := by
  unfold execClearTtBuffer
  try dsimp only
  repeat' (first | (with_reducible (first | assumption | apply State.reply_inv | apply State.u2pWith_inv | apply State.ttSync_inv | refine State.portAct_inv _ _ _ _ _ (fun _ _ _ _ => ?_) ?_ ?_ | apply State.invO_next)) | (intro _))

theorem execResetTt_inv (hc : HubCtx) (n : Nat) (s : State) (hI : s.Inv) : State.InvO (execResetTt hc n s) := by
  unfold execResetTt
  try dsimp only
  repeat' (first | (with_reducible (first | assumption | apply State.reply_inv | apply State.ttReset_inv | refine State.portAct_inv _ _ _ _ _ (fun _ _ _ _ => ?_) ?_ ?_ | apply State.invO_next | apply inv_ite | apply invO_ite)) | (intro _) | split)

theorem execStopTt_inv (hc : HubCtx) (n : Nat) (s : State) (hI : s.Inv) : State.InvO (execStopTt hc n s) := by
  unfold execStopTt
  try dsimp only
  repeat' (first | (with_reducible (first | assumption | apply State.put_inv | apply State.reply_inv | apply State.u2pWith_inv | refine State.portAct_inv _ _ _ _ _ (fun _ _ _ _ => ?_) ?_ ?_ | apply State.invO_next | apply inv_ite | apply invO_ite)) | (intro _) | split | (refine inv_of_snd (by with_reducible assumption) ?_))

end Sys2Proof.Machine
end

