-- ==== Sys2Proof/Laws/InvRegRead.lean ====
section
/-! SUPPORT. What the definitions of Machine/RegRead.lean keep: each one leaves the invariant of Safety.lean as it was. -/

namespace Sys2Proof.Machine

set_option linter.unreachableTactic false
set_option linter.unusedTactic false

theorem State.semClaimBy_inv (s : State) (n : Sem) (i : Ident) (barred : Bool) (hI : s.Inv) : (State.semClaimBy s n i barred).2.Inv := by
  unfold State.semClaimBy
  repeat' (first | (with_reducible (first | assumption | apply State.put_inv | apply inv_ite)) | split)

theorem State.popNow_inv (s t : State) (n : QueueIx) (w : Word) (hI : s.Inv) (e : s.popNow n = some (w, t)) : t.Inv := by
  unfold State.popNow at e
  dsimp only at e
  split at e
  · cases e
    exact State.latchWords_inv _ _ _ _ (State.setQueue_inv s n _ hI (hI.queues n))
  · split at e
    · cases e
    · rename_i r s1 hp
      cases e
      exact State.latchWords_inv _ _ _ _ (State.popRecord_inv s s1 n r hI hp)

theorem State.peekNow_inv (s : State) (n : QueueIx) (hI : s.Inv) : (State.peekNow s n).2.Inv := by
  unfold State.peekNow
  try dsimp only
  repeat' (first | (with_reducible (first | assumption | apply State.latchWords_inv)) | split)

theorem State.epmWinRead_inv (s : State) (hI : s.Inv) : (State.epmWinRead s).2.Inv := by
  unfold State.epmWinRead
  try dsimp -iota only
  repeat' (first | split | (with_reducible (first | assumption | apply State.free_inv | apply State.putRw_inv | apply inv_ite)) | (refine inv_of_snd (by with_reducible assumption) ?_))

theorem State.feedNow_inv (s : State) (hI : s.Inv) : (State.feedNow s).2.Inv := by
  unfold State.feedNow
  try dsimp -iota only
  repeat' (first | split | (with_reducible (first | assumption | apply State.free_inv | apply inv_ite)) | (refine inv_of_snd (by with_reducible assumption) ?_))

theorem State.readBlock_inv (s : State) (i : Ident) (barred : Bool) (pg : PageId) (off : Nat) (hI : s.Inv) : (State.readBlock s i barred pg off).2.Inv := by
  unfold State.readBlock
  try dsimp -iota only
  repeat' (first | split | (with_reducible (first | assumption | apply State.free_inv | apply State.conPop_inv | apply State.bufRead_inv | apply State.stageRead_inv | apply State.winRead_inv | apply State.senseNow_inv | apply State.semClaimBy_inv | apply State.peekNow_inv | apply State.epmWinRead_inv | apply State.feedNow_inv | apply inv_ite)) | (refine inv_of_snd (by with_reducible assumption) ?_))

end Sys2Proof.Machine
end

