-- ==== Sys2Proof/Laws/InvLive.lean ====
section
/-! SUPPORT. What the definitions of Machine/Live.lean keep: each one leaves the invariant of Safety.lean as it was. -/

namespace Sys2Proof.Machine

set_option linter.unreachableTactic false
set_option linter.unusedTactic false

theorem State.upRestart_inv (s : State) (u : Up) (hI : s.Inv) : (State.upRestart s u).Inv := by
  unfold State.upRestart
  try dsimp only
  repeat' (first | (with_reducible (first | assumption | apply State.setUpState_inv | apply State.upGone_inv | apply inv_ite)) | split)

theorem State.vbsHold_inv (s : State) (p : Port) (cause : Nat) (hI : s.Inv) : (State.vbsHold s p cause).Inv := by
  unfold State.vbsHold
  repeat' (with_reducible (first | assumption | apply State.put_inv | apply State.powerFails_inv | apply State.endReserve_inv | apply State.vbsOpen_inv))

theorem State.pageOffNow_inv (s : State) (pg : PageId) (hI : s.Inv) : (State.pageOffNow s pg).Inv := by
  unfold State.pageOffNow
  try dsimp only
  repeat' (first | (with_reducible (first | assumption | apply State.u2Bar_inv | apply State.ssEvalAs_inv | apply State.ccDisable_inv | apply State.lheStop_inv | apply State.grvStop_inv | apply State.upGone_inv | apply State.vbsHold_inv | apply inv_ite)) | split)

theorem State.pageOnNow_inv (s : State) (pg : PageId) (hI : s.Inv) : (State.pageOnNow s pg).Inv := by
  unfold State.pageOnNow
  try dsimp only
  repeat' (first | (with_reducible (first | assumption | apply State.u2Restart_inv | apply State.ssEval_inv | apply State.toRecovery_inv | apply State.askAgain_inv | apply State.conNext_inv | apply State.setUpState_inv | apply State.prsResume_inv | apply State.attachDue_inv | apply State.arbDecide_inv | apply inv_ite | refine inv_foldl (fun _ _ _ => ?_) ?_)) | (intro _) | split)

theorem State.ctxRestart_inv (s : State) (hc : HubCtx) (hI : s.Inv) : (State.ctxRestart s hc).Inv := by
  unfold State.ctxRestart
  try dsimp only
  repeat' (first | (with_reducible (first | assumption | apply State.hubWith_inv | apply State.ctxResetOne_inv | apply inv_ite)) | (intro _) | split)

theorem State.blkRestart_inv (s : State) (pg : PageId) (hI : s.Inv) : (State.blkRestart s pg).Inv := by
  unfold State.blkRestart
  try dsimp only
  repeat' (first | (with_reducible (first | assumption | apply State.put_inv | apply State.lheWith_inv | apply State.u2Restart_inv | apply State.ssDetect_inv | apply State.vbsOpen_inv | apply State.askTurnOn_inv | apply State.recoverNow_inv | apply State.conEmpty_inv | apply State.fnReset_inv | apply State.ssCtxResetOne_inv | apply State.lheStop_inv | apply State.grvClear_inv | apply State.prsRestart_inv | apply State.cptRestart_inv | apply State.drcRestart_inv | apply State.arbDecide_inv | apply State.upRestart_inv | apply State.ctxRestart_inv | apply inv_ite)) | (intro _) | split)

theorem State.ctrlWritten_inv (s0 s : State) (pg : PageId) (v : Word) (hI1 : s.Inv) : (State.ctrlWritten s0 s pg v).Inv := by
  unfold State.ctrlWritten
  try dsimp only
  repeat' (first | (with_reducible (first | assumption | apply State.put_inv | apply State.pageOffNow_inv | apply State.pageOnNow_inv | apply State.blkRestart_inv | apply inv_ite)) | split)

theorem State.plateMoved_inv (s : State) (k : Plate) (hI : s.Inv) : (State.plateMoved s k).Inv := by
  unfold State.plateMoved
  repeat' (first | (with_reducible (first | assumption | apply State.plateFollow_inv | apply inv_ite)) | split)

theorem State.portMoved_inv (s : State) (p : Port) (hI : s.Inv) : (State.portMoved s p).Inv := by
  unfold State.portMoved
  repeat' (first | (with_reducible (first | assumption | apply State.portFollow_inv | apply inv_ite)) | split)

theorem State.clkWritten_inv (s0 s : State) (off : Nat) (hI1 : s.Inv) : (State.clkWritten s0 s off).Inv := by
  unfold State.clkWritten
  try dsimp only
  repeat' (first | (with_reducible (first | assumption | apply State.fclkStop_inv | apply State.fclkStart_inv | apply State.graverFollow_inv | apply State.drcFollow_inv | apply State.coreReset_inv | apply State.plateMoved_inv | apply State.portMoved_inv | apply inv_ite | refine inv_foldl (fun _ _ _ => ?_) ?_)) | (intro _) | split)

theorem State.mgtWritten_inv (s0 s : State) (off : Nat) (ended : Bool) (hI1 : s.Inv) : (State.mgtWritten s0 s off ended).Inv := by
  unfold State.mgtWritten
  try dsimp only
  repeat' (first | (with_reducible (first | assumption | apply State.raise_inv | apply State.attnNotices_inv | apply State.legCheck_inv | apply inv_ite)) | split | (with_reducible apply State.Inv.set_legacy))

theorem State.evqWritten_inv (s : State) (off : Nat) (v : Word) (hI : s.Inv) : (State.evqWritten s off v).Inv := by
  unfold State.evqWritten
  try dsimp only
  repeat' (first | (with_reducible (first | assumption | apply State.notePeak_inv | apply State.flushQueue_inv | apply inv_ite)) | split)

theorem State.cfgCommand_inv (s : State) (v : Word) (parityErr : Bool) (hI : s.Inv) : (State.cfgCommand s v parityErr).Inv := by
  unfold State.cfgCommand
  try dsimp only
  repeat' (first | (with_reducible (first | assumption | apply State.setFault_inv | apply State.cmdCommit_inv | apply State.cmdFetchActive_inv | apply State.cmdFetchOther_inv | apply inv_ite)) | split)

theorem State.bgtWritten_inv (s0 s : State) (off : Nat) (ended : Bool) (hI1 : s.Inv) : (State.bgtWritten s0 s off ended).Inv := by
  unfold State.bgtWritten
  try dsimp only
  repeat' (first | (with_reducible (first | assumption | apply State.revokePort_inv | apply State.revokeHeld_inv | apply State.poolFollow_inv | apply inv_ite)) | split)

theorem State.vbsWritten_inv (s0 s : State) (p : Port) (off : Nat) (ended : Bool) (hI1 : s.Inv) : (State.vbsWritten s0 s p off ended).Inv := by
  unfold State.vbsWritten
  try dsimp only
  repeat' (first | (with_reducible (first | assumption | apply State.usbEval_inv | apply State.powerFails_inv | apply State.askAgain_inv | apply State.forceOffChanged_inv | apply inv_ite)) | split)

theorem State.ccWritten_inv (s0 s : State) (p : Port) (off : Nat) (v : Word) (ended : Bool) (hI1 : s.Inv) : (State.ccWritten s0 s p off v ended).Inv := by
  unfold State.ccWritten
  try dsimp only
  repeat' (first | (with_reducible (first | assumption | apply State.put_inv | apply State.tcpWith_inv | apply State.rpApply_inv | apply State.unrouteBy_inv | apply State.toRecovery_inv | apply State.recoverNow_inv | apply inv_ite)) | (intro _) | split | (refine inv_of_snd (by with_reducible assumption) ?_))

theorem State.pdCommand_inv (s : State) (p : Port) (v : Word) (hI : s.Inv) : (State.pdCommand s p v).Inv := by
  unfold State.pdCommand
  repeat' (first | (with_reducible (first | assumption | apply State.cmdHardReset_inv | apply State.cmdSoftReset_inv | apply State.cmdSendCaps_inv | apply State.cmdRediscover_inv | apply State.cmdExitMode_inv | apply inv_ite)) | split)

theorem State.policyWritten_inv (s0 s : State) (p : Port) (off : Nat) (hI1 : s.Inv) : (State.policyWritten s0 s p off).Inv := by
  unfold State.policyWritten
  try dsimp only
  repeat' (first | (with_reducible (first | assumption | apply State.offerCheck_inv | apply State.pdKick_inv | apply State.cmdExitMode_inv | apply State.pdEnChanged_inv | apply State.swapsChanged_inv | apply inv_ite)) | split)

theorem State.tcpWritten_inv (s0 s : State) (p : Port) (off : Nat) (v : Word) (ended : Bool) (hI : s0.Inv) (hI1 : s.Inv) : (State.tcpWritten s0 s p off v ended).Inv := by
  unfold State.tcpWritten
  repeat' (first | (with_reducible (first | assumption | refine pdCommand_inv _ _ _ _ _ (fun _ _ _ => ?_) ?_ | apply State.ccWritten_inv | apply State.pdCommand_inv | apply State.policyWritten_inv | apply inv_ite)) | split)

theorem State.conWritten_inv (s0 s : State) (p : Port) (off : Nat) (ended : Bool) (hI1 : s.Inv) : (State.conWritten s0 s p off ended).Inv := by
  unfold State.conWritten
  try dsimp only
  repeat' (first | (with_reducible (first | assumption | apply State.conNext_inv | apply State.conEmpty_inv | apply State.conRestore_inv | apply inv_ite)) | split)

theorem State.u2pWritten_inv (s0 s : State) (p : Port) (off : Nat) (ended : Bool) (hI1 : s.Inv) : (State.u2pWritten s0 s p off ended).Inv := by
  unfold State.u2pWritten
  repeat' (first | (with_reducible (first | assumption | apply State.u2Restart_inv | apply inv_ite)) | split)

theorem State.sshMoved_inv (s0 s : State) (k : Plate) (hI1 : s.Inv) : (State.sshMoved s0 s k).Inv := by
  unfold State.sshMoved
  try dsimp only
  repeat' (first | (with_reducible (first | assumption | apply State.ssHubWith_inv | apply State.ssCtxResetOne_inv | apply inv_ite | refine inv_foldl (fun _ _ _ => ?_) ?_ | refine inv_foldl_snd (fun _ _ _ => ?_) ?_ | refine inv_foldl_fst (fun _ _ _ => ?_) ?_ | refine inv_foldl_fst2 (fun _ _ _ => ?_) ?_)) | (intro _) | split)

theorem State.sspWritten_inv (s0 s : State) (f : Full) (off : Nat) (v : Word) (ended : Bool) (errors : Nat) (hI1 : s.Inv) : (State.sspWritten s0 s f off v ended errors).Inv := by
  unfold State.sspWritten
  try dsimp only
  repeat' (first | (with_reducible (first | assumption | apply State.setLink_inv | apply State.ssDetect_inv | apply State.ssEval_inv | apply State.ssClearFallback_inv | apply State.enterCompliance_inv | apply State.enterLoop_inv | apply State.exitTest_inv | apply State.marginStart_inv | apply inv_ite)) | split)

theorem State.prsWritten_inv (s0 s : State) (off : Nat) (v : Word) (ended : Bool) (hI1 : s.Inv) : (State.prsWritten s0 s off v ended).Inv := by
  unfold State.prsWritten
  try dsimp only
  repeat' (first | (with_reducible (first | assumption | apply State.put_inv | apply State.moveDecide_inv | apply State.presRestart_inv | apply State.failbackAll_inv | apply State.foResume_inv | apply inv_ite)) | split)

theorem State.lheWritten_inv (s0 s : State) (p : Port) (off : Nat) (hI : s0.Inv) (hI1 : s.Inv) : (State.lheWritten s0 s p off).Inv := by
  unfold State.lheWritten
  try dsimp only
  repeat' (first | (with_reducible (first | assumption | apply State.lheWith_inv | apply inv_ite)) | (intro _) | split | (refine inv_of_snd (by with_reducible assumption) ?_))

theorem State.grvWritten_inv (s0 s : State) (off : Nat) (hI1 : s.Inv) : (State.grvWritten s0 s off).Inv := by
  unfold State.grvWritten
  try dsimp only
  repeat' (first | (with_reducible (first | assumption | apply State.ringRestart_inv | apply inv_ite)) | split)

theorem State.drcWritten_inv (s0 s : State) (off : Nat) (v : Word) (hI1 : s.Inv) : (State.drcWritten s0 s off v).Inv := by
  unfold State.drcWritten
  try dsimp only
  repeat' (first | (with_reducible (first | assumption | apply State.wr_inv | apply State.winStart_inv | apply State.scrubRestart_inv | apply State.drcRestart_inv | apply inv_ite)) | split)

theorem State.cptWritten_inv (s0 s : State) (off : Nat) (v : Word) (ended : Bool) (hI1 : s.Inv) : (State.cptWritten s0 s off v ended).Inv := by
  unfold State.cptWritten
  try dsimp only
  repeat' (first | (with_reducible (first | assumption | apply State.attachDue_inv | apply State.cptCfgWritten_inv | apply State.instResets_inv | apply inv_ite | refine inv_foldl (fun _ _ _ => ?_) ?_)) | (intro _) | split)

theorem State.safeAction_inv (s0 s : State) (pg : PageId) (off : Nat) (hI : s0.Inv) (hI1 : s.Inv) : (State.safeAction s0 s pg off).Inv := by
  unfold State.safeAction
  try dsimp only
  repeat' (first | (with_reducible (first | assumption | apply State.put_inv | apply State.attnNotices_inv | apply State.u2Bar_inv | apply State.ssEvalAs_inv | apply State.usbEval_inv | apply State.powerFails_inv | apply State.endReserve_inv | apply State.vbsOpen_inv | apply State.ccDisable_inv | apply State.conSafe_inv | apply State.winSafe_inv | apply State.lheStop_inv | apply State.revokePort_inv | apply State.pdDisable_inv | apply State.sshMoved_inv | apply inv_ite)) | split)

theorem State.parityVisit_inv (s : State) (pg : PageId) (off : Nat) (hI : s.Inv) : (State.parityVisit s pg off).Inv := by
  unfold State.parityVisit
  try dsimp only
  repeat' (first | (with_reducible (first | assumption | apply State.findParity_inv | apply State.safeAction_inv | apply inv_ite)) | split)

end Sys2Proof.Machine
end

