-- ==== Sys2Proof/Laws/InvRegWrite.lean ====
section
/-! SUPPORT. What the definitions of Machine/RegWrite.lean keep: each one leaves the invariant of Safety.lean as it was. -/

namespace Sys2Proof.Machine

set_option linter.unreachableTactic false
set_option linter.unusedTactic false

theorem State.storeFields_inv (s : State) (pg : PageId) (off : Nat) (be : BitVec 4) (v : Word) (guarded : Bool) (hI : s.Inv) : (State.storeFields s pg off be v guarded).2.Inv := by
  unfold State.storeFields
  try dsimp only
  repeat' (first | (with_reducible (first | assumption | apply State.wr_inv | apply State.mendParity_inv | apply inv_ite | refine inv_foldl (fun _ _ _ => ?_) ?_ | refine inv_foldl_snd (fun _ _ _ => ?_) ?_ | refine inv_foldl_fst (fun _ _ _ => ?_) ?_ | refine inv_foldl_fst2 (fun _ _ _ => ?_) ?_)) | (intro _) | split)

theorem State.semRelBy_inv (s : State) (n : Sem) (i : Ident) (hI : s.Inv) : (State.semRelBy s n i).Inv := by
  unfold State.semRelBy
  repeat' (first | (with_reducible (first | assumption | apply State.mgtErr_inv | apply State.semFree_inv | apply inv_ite)) | split)

theorem State.semForced_inv (s : State) (v : Word) (hI : s.Inv) : (State.semForced s v).Inv := by
  unfold State.semForced
  try dsimp only
  repeat' (first | (with_reducible (first | assumption | apply State.semFreeBy_inv | apply inv_ite | refine inv_foldl (fun _ _ _ => ?_) ?_)) | (intro _) | split)

theorem State.glbWritten_inv (s : State) (i : Ident) (off : Nat) (v : Word) (hI : s.Inv) : (State.glbWritten s i off v).Inv := by
  unfold State.glbWritten
  try dsimp only
  repeat' (first | (with_reducible (first | assumption | apply State.semRelBy_inv | apply State.semForced_inv | apply inv_ite)) | split)

theorem State.byteCountWritten_inv (s : State) (off : Nat) (v : Word) (hI : s.Inv) : (State.byteCountWritten s off v).Inv := by
  unfold State.byteCountWritten
  repeat' (first | (with_reducible (first | assumption | apply State.wr_inv | apply inv_ite)) | split)

theorem State.hltWritten_inv (s0 s : State) (off : Nat) (be : BitVec 4) (v : Word) (hI1 : s.Inv) : (State.hltWritten s0 s off be v).Inv := by
  unfold State.hltWritten
  repeat' (first | (with_reducible (first | assumption | apply State.peakClear_inv | apply State.quarByWrite_inv | apply State.quarByRelease_inv | apply State.isoChanged_inv | apply State.byteCountWritten_inv | apply inv_ite)) | split)

theorem State.prodWritten_inv (s : State) (r : RingIx) (be : BitVec 4) (v : Word) (hI : s.Inv) : (State.prodWritten s r be v).Inv := by
  unfold State.prodWritten
  try dsimp only
  repeat' (first | (with_reducible (first | assumption | apply State.mendParity_inv | apply State.ringDoorbell_inv | apply inv_ite)) | split)

theorem State.pageWritten_inv (s0 s : State) (i : Ident) (pg : PageId) (off : Nat) (be : BitVec 4) (v : Word) (ended parityErr : Bool) (errors : Nat) (hI : s0.Inv) (hI1 : s.Inv) : (State.pageWritten s0 s i pg off be v ended parityErr errors).Inv := by
  unfold State.pageWritten
  try dsimp only
  repeat' (first | (with_reducible (first | assumption | apply State.conSend_inv | apply State.bufWrite_inv | apply State.stageWrite_inv | apply State.u2hWritten_inv | apply State.ilimWritten_inv | apply State.upRestart_inv | apply State.clkWritten_inv | apply State.mgtWritten_inv | apply State.evqWritten_inv | apply State.cfgCommand_inv | apply State.bgtWritten_inv | apply State.vbsWritten_inv | apply State.tcpWritten_inv | apply State.conWritten_inv | apply State.u2pWritten_inv | apply State.sshMoved_inv | apply State.sspWritten_inv | apply State.prsWritten_inv | apply State.lheWritten_inv | apply State.grvWritten_inv | apply State.drcWritten_inv | apply State.cptWritten_inv | apply State.glbWritten_inv | apply State.hltWritten_inv | apply State.prodWritten_inv | apply inv_ite)) | split)

theorem State.afterWrite_inv (s0 s : State) (i : Ident) (pg : PageId) (off : Nat) (be : BitVec 4) (v : Word) (ended parityErr : Bool) (errors : Nat) (hI : s0.Inv) (hI1 : s.Inv) : (State.afterWrite s0 s i pg off be v ended parityErr errors).Inv := by
  unfold State.afterWrite
  try dsimp only
  repeat' (first | (with_reducible (first | assumption | apply State.put_inv | apply State.clearParityFault_inv | apply State.ctrlWritten_inv | apply State.pageWritten_inv | apply inv_ite)) | split)

theorem State.liveEntry_inv (acc : State × Nat) (pg : PageId) (off : Nat) (lanes : BitVec 4) (v : Word) (hI : acc.1.Inv) : (State.liveEntry acc pg off lanes v).1.Inv := by
  unfold State.liveEntry
  try dsimp only
  repeat' (first | split | (with_reducible (first | assumption | apply State.wr_inv | apply State.mendParity_inv | apply State.afterWrite_inv | apply inv_ite)) | (refine inv_of_snd (by with_reducible assumption) ?_))

theorem State.livePolicy_inv (acc : State × Nat) (p : Port) (g : Nat → Byte) (o : Nat) (hI : acc.1.Inv) : (State.livePolicy acc p g o).1.Inv := by
  unfold State.livePolicy
  try dsimp only
  repeat' (first | (with_reducible (first | assumption | apply State.liveEntry_inv | apply inv_ite | refine inv_foldl (fun _ _ _ => ?_) ?_ | refine inv_foldl_snd (fun _ _ _ => ?_) ?_ | refine inv_foldl_fst (fun _ _ _ => ?_) ?_ | refine inv_foldl_fst2 (fun _ _ _ => ?_) ?_)) | (intro _) | split)

theorem State.liveList_inv (acc : State × Nat) (g : Nat → Byte) (sec : Section) (hI : acc.1.Inv) : (State.liveList acc g sec).1.Inv := by
  unfold State.liveList
  try dsimp only
  repeat' (first | (with_reducible (first | assumption | apply State.liveEntry_inv | apply inv_ite | refine inv_foldl (fun _ _ _ => ?_) ?_ | refine inv_foldl_snd (fun _ _ _ => ?_) ?_ | refine inv_foldl_fst (fun _ _ _ => ?_) ?_ | refine inv_foldl_fst2 (fun _ _ _ => ?_) ?_)) | (intro _) | split)

theorem State.livePort_inv (acc : (State × Nat) × Bool) (g : Nat → Byte) (secs : List Section) (tag : Nat) (p : Port) (hI : acc.1.1.Inv) : (State.livePort acc g secs tag p).1.1.Inv := by
  unfold State.livePort
  try dsimp only
  repeat' (first | (with_reducible (first | assumption | apply State.livePolicy_inv | apply State.liveList_inv | apply inv_ite | refine inv_foldl (fun _ _ _ => ?_) ?_ | refine inv_foldl_snd (fun _ _ _ => ?_) ?_ | refine inv_foldl_fst (fun _ _ _ => ?_) ?_ | refine inv_foldl_fst2 (fun _ _ _ => ?_) ?_)) | (intro _) | split)

theorem State.updApply_inv (s : State) (g : Nat → Byte) (secs : List Section) (hI : s.Inv) : (State.updApply s g secs).1.Inv := by
  unfold State.updApply
  try dsimp only
  repeat' (first | (with_reducible (first | assumption | apply State.presRestart_inv | apply State.applyDesc_inv | apply State.livePort_inv | apply inv_ite | refine inv_foldl (fun _ _ _ => ?_) ?_ | refine inv_foldl_snd (fun _ _ _ => ?_) ?_ | refine inv_foldl_fst (fun _ _ _ => ?_) ?_ | refine inv_foldl_fst2 (fun _ _ _ => ?_) ?_)) | (intro _) | split)

theorem State.updResult_inv (s : State) (res n : Nat) (hI : s.Inv) : (State.updResult s res n).Inv := by
  unfold State.updResult
  repeat' (with_reducible (first | assumption | apply State.put_inv))

theorem State.updGo_inv (s : State) (hI : s.Inv) : (State.updGo s).Inv := by
  unfold State.updGo
  try dsimp -iota only
  repeat' (first | split | (with_reducible (first | assumption | apply State.put_inv | apply State.healthWith_inv | apply State.updApply_inv | apply State.updResult_inv | apply inv_ite | apply inv_dite | refine inv_foldl (fun _ _ _ => ?_) ?_ | refine inv_foldl_snd (fun _ _ _ => ?_) ?_ | refine inv_foldl_fst (fun _ _ _ => ?_) ?_ | refine inv_foldl_fst2 (fun _ _ _ => ?_) ?_)) | (intro _) | (refine inv_of_snd (by with_reducible assumption) ?_) | (refine inv_of_snd2 (by with_reducible assumption) ?_) | (refine inv_of_snd3 (by with_reducible assumption) ?_) | (refine inv_of_fst (by with_reducible assumption) ?_))

theorem State.writeReg_inv (s : State) (i : Ident) (pg : PageId) (off : Nat) (be : BitVec 4) (v : Word) (guarded parityErr : Bool) (errors : Nat) (hI : s.Inv) : (State.writeReg s i pg off be v guarded parityErr errors).Inv := by
  unfold State.writeReg
  try dsimp only
  repeat' (first | (with_reducible (first | assumption | apply State.winWrite_inv | apply State.storeFields_inv | apply State.afterWrite_inv | apply State.updGo_inv | apply inv_ite)) | split)

end Sys2Proof.Machine
end

