-- ==== Sys2Proof/Laws/InvAccess.lean ====
section
/-! SUPPORT. What the definitions of Machine/Access.lean keep: each one leaves the invariant of Safety.lean as it was. -/

namespace Sys2Proof.Machine

set_option linter.unreachableTactic false
set_option linter.unusedTactic false

theorem State.setPair_inv (s : State) (i : Ident) (g : Option GuardPair) (hI : s.Inv) : (State.setPair s i g).Inv := by
  unfold State.setPair
  try dsimp only
  repeat' (first | (with_reducible (first | assumption | apply State.put_inv)) | (intro _) | (with_reducible apply State.Inv.set_guards))

theorem State.breakPair_inv (s : State) (i : Ident) (hI : s.Inv) : (State.breakPair s i).Inv := by
  unfold State.breakPair
  try dsimp only
  repeat' (first | (with_reducible (first | assumption | apply State.mgtErr_inv | apply State.setPair_inv)) | split)

theorem State.writeOwn_inv (s : State) (i : Ident) (pg : PageId) (off : Nat) (w : FrameWord) (broken parityErr : Bool) (errors : Nat) (hI : s.Inv) : (State.writeOwn s i pg off w broken parityErr errors).2.Inv := by
  unfold State.writeOwn
  try dsimp only
  repeat' (first | (with_reducible (first | assumption | apply State.mgtErr_inv | apply State.writeReg_inv | apply State.setPair_inv | apply inv_ite)) | split)

theorem State.writeTaken_inv (s : State) (i : Ident) (pg : PageId) (off : Nat) (w : FrameWord) (parityErr : Bool) (errors : Nat) (hI : s.Inv) : (State.writeTaken s i pg off w parityErr errors).2.Inv := by
  unfold State.writeTaken
  try dsimp only
  repeat' (first | (with_reducible (first | assumption | apply State.writeReg_inv | apply State.setPair_inv | apply State.breakPair_inv | apply State.writeOwn_inv | apply inv_ite)) | split)

theorem State.readTaken_inv (s t : State) (who : Requester) (pg : PageId) (off : Nat) (resumed : Bool) (w : Word) (hI : s.Inv)
    (e : s.readTaken who pg off resumed = some (w, t)) : t.Inv := by
  unfold State.readTaken at e
  dsimp only at e
  split at e
  · split at e
    · exact State.popNow_inv _ _ _ _ hI e
    · split at e
      · cases e
      · rename_i r s2 hp
        cases e
        exact State.latchWords_inv _ _ _ _ (State.popRecord_inv _ _ _ _ hI hp)
  · cases e
    exact State.parityVisit_inv _ _ _ (State.readBlock_inv _ _ _ _ _ hI)

theorem State.writeLost_inv (s : State) (i : Ident) (w : Option FrameWord) (hI : s.Inv) : (State.writeLost s i w).Inv := by
  unfold State.writeLost
  try dsimp only
  repeat' (first | (with_reducible (first | assumption | apply State.breakPair_inv | apply inv_ite)) | split)

theorem State.accessBlock_inv (s t : State) (who : Requester) (pg : PageId) (off : Nat) (w : Option FrameWord)
    (resumed parityErr : Bool) (errors : Nat) (res : WordResult) (hI : s.Inv)
    (e : s.accessBlock who pg off w resumed parityErr errors = some (res, t)) : t.Inv := by
  unfold State.accessBlock at e
  split at e
  · cases e
  · split at e
    · cases e; exact State.writeLost_inv _ _ _ hI
    · split at e
      · cases e; exact State.writeLost_inv _ _ _ hI
      · cases w with
        | some w => cases e; exact State.writeTaken_inv _ _ _ _ _ _ _ hI
        | none =>
          cases hr : s.readTaken who pg off resumed with
          | none => simp [hr] at e
          | some q =>
            obtain ⟨v, u⟩ := q
            simp only [hr, Option.map_some] at e
            cases e
            exact State.readTaken_inv _ _ _ _ _ _ _ hI hr

theorem State.access_inv (s t : State) (who : Requester) (addr : Nat) (w : Option FrameWord) (resumed parityErr : Bool)
    (errors : Nat) (res : WordResult) (hI : s.Inv) (e : s.access who addr w resumed parityErr errors = some (res, t)) : t.Inv := by
  unfold State.access at e
  dsimp only at e
  generalize s.accessPage addr = pg at e
  cases w with
  | none =>
    simp only [Bool.false_eq_true, if_false] at e
    cases pg with
    | none => cases e; exact hI
    | some pg => exact State.accessBlock_inv _ _ _ _ _ _ _ _ _ _ hI e
  | some w =>
    dsimp only at e
    split at e
    · cases e; exact State.mgtErr_inv _ _ _ hI
    · cases pg with
      | none =>
        dsimp only at e
        split at e
        · cases e; exact hI
        · cases e; exact State.breakPair_inv _ _ hI
      | some pg => exact State.accessBlock_inv _ _ _ _ _ _ _ _ _ _ hI e

theorem State.loopErrors_inv (s : State) (r : AccessRun) (hI : s.Inv) : (State.loopErrors s r).Inv := by
  unfold State.loopErrors
  try dsimp only
  repeat' (first | (with_reducible (first | assumption | apply State.countBy_inv | apply State.free_inv | apply inv_ite)) | split | (refine inv_of_snd (by with_reducible assumption) ?_))

theorem State.runWord_inv (s t : State) (r : AccessRun) (w : FrameWord) (resumed parityErr : Bool) (errors : Nat) (res : WordResult)
    (hI : s.Inv) (e : s.runWord r w resumed parityErr errors = some (res, t)) : t.Inv := by
  unfold State.runWord at e
  dsimp only at e
  have h1 : (s.loopErrors r).Inv := State.loopErrors_inv _ _ hI
  generalize s.loopErrors r = u at e h1
  generalize (if r.write = true then some w else none) = x at e
  split at e
  · exact State.access_inv _ _ _ _ _ _ _ _ _ h1 e
  · split at e
    · exact State.access_inv _ _ _ _ _ _ _ _ _ h1 e
    · split at e
      · cases e; exact h1
      · cases e; exact State.writeLost_inv _ _ _ h1

theorem State.runOn_inv (parityErr : Bool) (errors : Nat) (ws : List FrameWord) (resumed : Bool) (r : AccessRun) (s : State)
    (hI : s.Inv) : (State.runOn parityErr errors ws resumed r s).2.Inv := by
  induction ws generalizing resumed r s with
  | nil => exact hI
  | cons w t ih =>
    unfold State.runOn
    cases ha : s.runWord r w resumed parityErr errors with
    | none => exact hI
    | some q =>
      obtain ⟨res, s1⟩ := q
      have h1 := State.runWord_inv _ _ _ _ _ _ _ _ hI ha
      dsimp only
      split
      · exact h1
      · exact ih _ _ _ h1

theorem State.drive_inv (s : State) (m : Master) (resp : FrameResp) (hI : s.Inv) : (State.drive s m resp).Inv := by
  unfold State.drive
  try dsimp only
  repeat' (first | (with_reducible (first | assumption | apply State.reply_inv | apply State.mportWith_inv)) | (intro _))

theorem State.respond_inv (s : State) (m : Master) (resp : FrameResp) (hI : s.Inv) : (State.respond s m resp).Inv := by
  unfold State.respond
  try dsimp only
  repeat' (first | (with_reducible (first | assumption | apply State.reply_inv | apply State.mportWith_inv | apply State.drive_inv | apply inv_ite)) | (intro _) | split)

theorem State.slotWith_inv (s : State) (m : Master) (c : Chip) (f : RingSlot → RingSlot) (hI : s.Inv) : (State.slotWith s m c f).Inv := by
  unfold State.slotWith
  try dsimp only
  repeat' (first | (with_reducible (first | assumption | apply inv_ite)) | (intro _) | split | (with_reducible apply State.Inv.set_ringSlots))

theorem State.finishRun_inv (s : State) (r : AccessRun) (hI : s.Inv) : (State.finishRun s r).Inv := by
  unfold State.finishRun
  try dsimp only
  repeat' (first | (with_reducible (first | assumption | apply State.reply_inv | apply State.vendor_inv | apply State.vendorWords_inv | apply State.mgtFollow_inv | apply State.respond_inv | apply State.slotWith_inv | apply inv_ite)) | (intro _) | split)

theorem State.setRuns_inv (s : State) (rs : List AccessRun) (hI : s.Inv) : (State.setRuns s rs).Inv := by
  unfold State.setRuns
  try dsimp only
  repeat' (first | (with_reducible (first | assumption)) | (with_reducible apply State.Inv.set_runs))

theorem State.settleRun_inv (s : State) (r : AccessRun) (hI : s.Inv) : (State.settleRun s r).Inv := by
  unfold State.settleRun
  repeat' (first | (with_reducible (first | assumption | apply State.reply_inv | apply State.finishRun_inv | apply State.setRuns_inv | apply inv_ite)) | split)

theorem State.popsWake_inv (s before : State) (r : AccessRun) (hI : s.Inv) (hI1 : before.Inv) : (State.popsWake s before r).Inv := by
  unfold State.popsWake
  repeat' (first | (with_reducible (first | assumption | apply State.noticeWake_inv | apply inv_ite)) | split)

theorem State.startRun_inv (s : State) (r : AccessRun) (parityErr : Bool) (errors : Nat) (hI : s.Inv) : (State.startRun s r parityErr errors).Inv := by
  unfold State.startRun
  try dsimp only
  repeat' (with_reducible (first | assumption | apply State.runOn_inv | apply State.settleRun_inv | apply State.popsWake_inv))

theorem State.resumeRun_inv (s : State) (r : AccessRun) (hI : s.Inv) : (State.resumeRun s r).Inv := by
  unfold State.resumeRun
  try dsimp only
  repeat' (first | (with_reducible (first | assumption | apply State.reply_inv | apply State.runOn_inv | apply State.finishRun_inv | apply State.setRuns_inv | apply State.popsWake_inv | apply inv_ite)) | (intro _) | split)

theorem State.resumeRuns_inv (s : State) (hI : s.Inv) : (State.resumeRuns s).Inv := by
  unfold State.resumeRuns
  try dsimp only
  repeat' (first | (with_reducible (first | assumption | apply State.resumeRun_inv | apply inv_ite | refine inv_foldl (fun _ _ _ => ?_) ?_)) | (intro _) | split)

theorem State.oneWith_inv (s : State) (who : Requester) (addr : Nat) (w : Option FrameWord) (parityErr : Bool) (errors : Nat) (hI : s.Inv) : (State.oneWith s who addr w parityErr errors).Inv := by
  unfold State.oneWith
  repeat' (first | (with_reducible (first | assumption | apply State.reply_inv | apply State.startRun_inv | apply inv_ite)) | split)

theorem State.readOne_inv (s : State) (who : Requester) (addr : Nat) (hI : s.Inv) : (State.readOne s who addr).Inv := by
  unfold State.readOne
  repeat' (with_reducible (first | assumption | apply State.oneWith_inv))

theorem State.writeOne_inv (s : State) (who : Requester) (addr : Nat) (be : BitVec 4) (v : Word) (hI : s.Inv) : (State.writeOne s who addr be v).Inv := by
  unfold State.writeOne
  repeat' (with_reducible (first | assumption | apply State.oneWith_inv))

theorem State.pairOne_inv (s : State) (who : Requester) (addr : Nat) (v : Word) (hI : s.Inv) : (State.pairOne s who addr v).Inv := by
  unfold State.pairOne
  repeat' (with_reducible (first | assumption | apply State.writeOne_inv))

end Sys2Proof.Machine
end

