-- ==== Sys2Proof/Laws/InvRing.lean ====
section
/-! SUPPORT. What the definitions of Machine/Ring.lean keep: each one leaves the invariant of Safety.lean as it was. -/

namespace Sys2Proof.Machine

set_option linter.unreachableTactic false
set_option linter.unusedTactic false

theorem State.frameErr_inv (s : State) (m : Master) (status : Nat) (hI : s.Inv) : (State.frameErr s m status).Inv := by
  unfold State.frameErr
  try dsimp only
  repeat' (first | (with_reducible (first | assumption | apply State.mgtErr_inv | apply State.drive_inv | apply inv_ite)) | split)

theorem State.crcErr_inv (s : State) (m : Master) (hI : s.Inv) : (State.crcErr s m).Inv := by
  unfold State.crcErr
  try dsimp only
  repeat' (first | (with_reducible (first | assumption | apply State.count_inv | apply State.mgtErr_inv | apply State.drive_inv)) | split)

theorem State.unqueue_inv (s : State) (rq : RingReq) (hI : s.Inv) : (State.unqueue s rq).Inv := by
  unfold State.unqueue
  try dsimp only
  repeat' (first | (with_reducible (first | assumption | apply State.sideWith_inv | refine inv_foldl (fun _ _ _ => ?_) ?_ | refine inv_foldl_snd (fun _ _ _ => ?_) ?_ | refine inv_foldl_fst (fun _ _ _ => ?_) ?_ | refine inv_foldl_fst2 (fun _ _ _ => ?_) ?_)) | (intro _))

theorem State.frameGate_inv (s : State) (m : Master) (ns : List Nibble) (early : Bool) (act : State → State) (hf0 : ∀ x0, x0.Inv → (act x0).Inv) (hI : s.Inv) : (State.frameGate s m ns early act).Inv := by
  unfold State.frameGate
  try dsimp only
  repeat' (first | (with_reducible (first | assumption | apply hf0 | apply State.reply_inv | apply State.mportWith_inv | apply State.drive_inv | apply State.crcErr_inv | apply inv_ite)) | (intro _) | split)

theorem State.frame_inv (s : State) (m : Master) (h : FrameHdr) (write fixed : Bool) (ws : List FrameWord) (hI : s.Inv) : (State.frame s m h write fixed ws).Inv := by
  unfold State.frame
  try dsimp only
  repeat' (first | (with_reducible (first | assumption | apply State.reply_inv | apply State.mportWith_inv | apply State.ringSend_inv | apply State.startRun_inv | apply State.frameErr_inv | apply inv_ite)) | (intro _) | split)

theorem execReadF_inv (m : Master) (ns : List Nibble) (early : Bool) (s : State) (hI : s.Inv) : State.InvO (execReadF m ns early s) := by
  unfold execReadF
  try dsimp only
  repeat' (first | (with_reducible (first | assumption | refine State.frameGate_inv _ _ _ _ _ (fun _ _ => ?_) ?_ | apply State.frame_inv | apply State.invO_next | apply inv_ite | apply invO_ite | apply State.invO_fault)) | (intro _) | split)

theorem execWriteF_inv (m : Master) (hdr rest : List Nibble) (early : Bool) (s : State) (hI : s.Inv) : State.InvO (execWriteF m hdr rest early s) := by
  unfold execWriteF
  try dsimp only
  repeat' (first | (with_reducible (first | assumption | refine State.frameGate_inv _ _ _ _ _ (fun _ _ => ?_) ?_ | apply State.frame_inv | apply State.invO_next | apply inv_ite | apply invO_ite | apply State.invO_fault)) | (intro _) | split)

theorem execReadFixed_inv (m : Master) (ns : List Nibble) (early : Bool) (s : State) (hI : s.Inv) : State.InvO (execReadFixed m ns early s) := by
  unfold execReadFixed
  try dsimp only
  repeat' (first | (with_reducible (first | assumption | refine State.frameGate_inv _ _ _ _ _ (fun _ _ => ?_) ?_ | apply State.frame_inv | apply State.invO_next | apply inv_ite | apply invO_ite | apply State.invO_fault)) | (intro _) | split)

theorem execWriteFixed_inv (m : Master) (hdr rest : List Nibble) (early : Bool) (s : State) (hI : s.Inv) : State.InvO (execWriteFixed m hdr rest early s) := by
  unfold execWriteFixed
  try dsimp only
  repeat' (first | (with_reducible (first | assumption | refine State.frameGate_inv _ _ _ _ _ (fun _ _ => ?_) ?_ | apply State.frame_inv | apply State.invO_next | apply inv_ite | apply invO_ite | apply State.invO_fault)) | (intro _) | split)

theorem execReplay_inv (m : Master) (fr : PortFrame) (s : State) (hI : s.Inv) : State.InvO (execReplay m fr s) := by
  unfold execReplay
  try dsimp only
  repeat' (first | (with_reducible (first | assumption | apply State.drive_inv | apply State.frameErr_inv | refine State.frameGate_inv _ _ _ _ _ (fun _ _ => ?_) ?_ | apply State.invO_next | apply inv_ite | apply invO_ite | apply State.invO_fault)) | (intro _) | split)

theorem execBadOpcode_inv (m : Master) (ns : List Nibble) (early : Bool) (s : State) (hI : s.Inv) : State.InvO (execBadOpcode m ns early s) := by
  unfold execBadOpcode
  try dsimp only
  repeat' (first | (with_reducible (first | assumption | apply State.frameErr_inv | refine State.frameGate_inv _ _ _ _ _ (fun _ _ => ?_) ?_ | apply State.invO_next | apply inv_ite | apply invO_ite | apply State.invO_fault)) | (intro _) | split)

theorem execCsNRise_inv (m : Master) (moment : RiseMoment) (s : State) (hI : s.Inv) : State.InvO (execCsNRise m moment s) := by
  unfold execCsNRise
  try dsimp only
  repeat' (first | (with_reducible (first | assumption | apply State.reply_inv | apply State.mportWith_inv | apply State.invO_next | apply inv_ite | apply invO_ite)) | (intro _) | split)

theorem State.abortErrs_inv (s : State) (m : Master) (late withdrawn : Bool) (hI : s.Inv) : (State.abortErrs s m late withdrawn).Inv := by
  unfold State.abortErrs
  try dsimp only
  repeat' (first | (with_reducible (first | assumption | apply State.mgtErr_inv | apply inv_ite)) | split)

theorem State.abortPop_inv (s t : State) (r : AccessRun) (w : Word) (hI : s.Inv) (e : s.abortPop r = some (w, t)) : t.Inv := by
  unfold State.abortPop at e
  split at e
  · cases e
  · split at e
    · exact State.popNow_inv _ _ _ _ (State.setRuns_inv _ _ hI) e
    · cases e

theorem State.abortWith_inv (s : State) (m : Master) (r : AccessRun) (done : List WordResult) (left : List FrameWord) (hI : s.Inv) : (State.abortWith s m r done left).Inv := by
  unfold State.abortWith
  try dsimp only
  repeat' (first | (with_reducible (first | assumption | apply State.reply_inv | apply State.mportWith_inv | apply State.mgtFollow_inv | apply State.abortErrs_inv)) | (intro _))

theorem State.abortRun_inv (s : State) (m : Master) (r : AccessRun) (hI : s.Inv) : (State.abortRun s m r).Inv := by
  unfold State.abortRun
  cases h : s.abortPop r with
  | none => exact State.abortWith_inv _ _ _ _ _ (State.setRuns_inv _ _ hI)
  | some x => exact State.abortWith_inv _ _ _ _ _ (State.abortPop_inv s x.2 r x.1 hI h)

theorem State.abortRemote_inv (s : State) (m : Master) (w : RemoteWait) (hI : s.Inv) : (State.abortRemote s m w).Inv := by
  unfold State.abortRemote
  try dsimp only
  repeat' (first | (with_reducible (first | assumption | apply State.reply_inv | apply State.mportWith_inv | apply State.unqueue_inv | apply State.abortErrs_inv | apply inv_ite)) | (intro _) | split)

theorem execPortAbort_inv (m : Master) (s : State) (hI : s.Inv) : State.InvO (execPortAbort m s) := by
  unfold execPortAbort
  try dsimp only
  repeat' (first | (with_reducible (first | assumption | apply State.reply_inv | apply State.mportWith_inv | apply State.abortErrs_inv | apply State.abortRun_inv | apply State.abortRemote_inv | apply State.invO_next | apply inv_ite | apply invO_ite)) | (intro _) | split)

theorem execRingResponse_inv (m : Master) (seq : BitVec 8) (busy : Bool) (status : Byte) (ws : List WordResult) (s : State) (hI : s.Inv) : State.InvO (execRingResponse m seq busy status ws s) := by
  unfold execRingResponse
  try dsimp only
  repeat' (first | (with_reducible (first | assumption | apply State.mportWith_inv | apply State.respond_inv | apply State.unqueue_inv | apply State.invO_next | apply inv_ite | apply invO_ite)) | (intro _) | split)

theorem State.resend_inv (s : State) (m : Master) (w : RemoteWait) (hI : s.Inv) : (State.resend s m w).Inv := by
  unfold State.resend
  try dsimp only
  repeat' (first | (with_reducible (first | assumption | apply State.mportWith_inv | apply State.ringSend_inv | apply State.unqueue_inv)) | (intro _))

theorem State.ringGivesUp_inv (s : State) (m : Master) (w : RemoteWait) (hI : s.Inv) : (State.ringGivesUp s m w).Inv := by
  unfold State.ringGivesUp
  repeat' (with_reducible (first | assumption | apply State.mgtErr_inv | apply State.respond_inv | apply State.unqueue_inv))

theorem execRingRetry_inv (m : Master) (s : State) (hI : s.Inv) : State.InvO (execRingRetry m s) := by
  unfold execRingRetry
  try dsimp only
  repeat' (first | (with_reducible (first | assumption | apply State.count_inv | apply State.resend_inv | apply State.ringGivesUp_inv | apply State.invO_next | apply inv_ite | apply invO_ite)) | split)

theorem execRingBusyTimeout_inv (m : Master) (s : State) (hI : s.Inv) : State.InvO (execRingBusyTimeout m s) := by
  unfold execRingBusyTimeout
  try dsimp only
  repeat' (first | (with_reducible (first | assumption | apply State.reply_inv | apply State.mportWith_inv | apply State.drive_inv | apply State.unqueue_inv | apply State.invO_next | apply inv_ite | apply invO_ite)) | (intro _) | split)

theorem State.ringReply_inv (s : State) (m : Master) (c : Chip) (seq : BitVec 8) (r : FrameResp) (hI : s.Inv) : (State.ringReply s m c seq r).Inv := by
  unfold State.ringReply
  try dsimp only
  repeat' (first | (with_reducible (first | assumption | apply State.reply_inv)) | split)

theorem State.slotPend_inv (s : State) (m : Master) (c : Chip) (q : BitVec 8) (hI : s.Inv) : (State.slotPend s m c q).Inv := by
  unfold State.slotPend
  try dsimp only
  repeat' (first | (with_reducible (first | assumption | apply State.slotWith_inv)) | (intro _) | split | (with_reducible apply State.Inv.set_ringSlots))

theorem State.ringRun_inv (s : State) (rq : RingReq) (late : Option Nat) (hI : s.Inv) : (State.ringRun s rq late).Inv := by
  unfold State.ringRun
  repeat' (with_reducible (first | assumption | apply State.startRun_inv | apply State.slotPend_inv))

theorem State.answerSlot_inv (s : State) (m : Master) (c : Chip) (hI : s.Inv) : (State.answerSlot s m c).Inv := by
  unfold State.answerSlot
  try dsimp only
  repeat' (first | (with_reducible (first | assumption | apply State.mgtFollow_inv | apply State.slotWith_inv | apply State.ringReply_inv | apply inv_ite)) | (intro _) | split)

theorem State.ringTake_inv (s : State) (rq : RingReq) (late : Option Nat) (hI : s.Inv) : (State.ringTake s rq late).Inv := by
  unfold State.ringTake
  try dsimp only
  repeat' (first | (with_reducible (first | assumption | apply State.reply_inv | apply State.slotWith_inv | apply State.ringReply_inv | apply State.ringRun_inv | apply State.answerSlot_inv | apply inv_ite)) | (intro _) | split)

theorem execRingRequest_inv (rq : RingReq) (s : State) (hI : s.Inv) : State.InvO (execRingRequest rq s) := by
  unfold execRingRequest
  repeat' (first | (with_reducible (first | assumption | apply State.ringTake_inv | apply State.invO_next | apply inv_ite | apply invO_ite | apply State.invO_fault)) | split)

theorem State.slotNext_inv (s : State) (x : RingSlot) (hI : s.Inv) : (State.slotNext s x).Inv := by
  unfold State.slotNext
  try dsimp only
  repeat' (first | (with_reducible (first | assumption | apply State.slotWith_inv | apply State.ringRun_inv | apply inv_ite)) | (intro _) | split)

theorem State.ringNext_inv (s : State) (hI : s.Inv) : (State.ringNext s).Inv := by
  unfold State.ringNext
  try dsimp only
  repeat' (first | (with_reducible (first | assumption | apply State.slotNext_inv | apply inv_ite | refine inv_foldl (fun _ _ _ => ?_) ?_)) | (intro _) | split)

theorem State.attnDrop_inv (s : State) (members : Nat) (hI : s.Inv) : (State.attnDrop s members).Inv := by
  unfold State.attnDrop
  repeat' (with_reducible (first | assumption | apply State.put_inv))

theorem State.reroute_inv (s : State) (hI : s.Inv) : (State.reroute s).Inv := by
  unfold State.reroute
  try dsimp only
  repeat' (first | (with_reducible (first | assumption | apply State.put_inv | apply State.setFlag_inv | apply State.raise_inv | apply State.attnDrop_inv | apply inv_ite | refine inv_foldl (fun _ _ _ => ?_) ?_ | refine inv_foldl_snd (fun _ _ _ => ?_) ?_ | refine inv_foldl_fst (fun _ _ _ => ?_) ?_ | refine inv_foldl_fst2 (fun _ _ _ => ?_) ?_)) | (intro _) | split)

theorem State.ringSync_inv (s : State) (hI : s.Inv) : (State.ringSync s).Inv := by
  unfold State.ringSync
  repeat' (with_reducible (first | assumption | apply State.setFlag_inv))

theorem State.queueRoster_inv (s : State) (side : Side) (ro : Roster) (hI : s.Inv) : (State.queueRoster s side ro).Inv := by
  unfold State.queueRoster
  try dsimp only
  repeat' (first | (with_reducible (first | assumption | apply State.sideWith_inv | apply State.queueOut_inv | apply inv_ite)) | (intro _) | split)

theorem State.sendRosters_inv (s : State) (hI : s.Inv) : (State.sendRosters s).Inv := by
  unfold State.sendRosters
  repeat' (first | (with_reducible (first | assumption | apply State.queueRoster_inv | apply inv_ite)) | split)

theorem execLinkUp_inv (side : Side) (nb : Neighbour) (s : State) (hI : s.Inv) : State.InvO (execLinkUp side nb s) := by
  unfold execLinkUp
  try dsimp only
  repeat' (first | (with_reducible (first | assumption | apply State.put_inv | apply State.raise_inv | apply State.sideWith_inv | apply State.ringSync_inv | apply State.sendRosters_inv | apply State.invO_next | apply inv_ite | apply invO_ite)) | (intro _) | split)

theorem execMiswire_inv (side : Side) (s : State) (hI : s.Inv) : State.InvO (execMiswire side s) := by
  unfold execMiswire
  repeat' (first | (with_reducible (first | assumption | apply State.put_inv | apply State.raise_inv | apply State.invO_next | apply inv_ite | apply invO_ite)) | split)

theorem execLinkDown_inv (side : Side) (s : State) (hI : s.Inv) : State.InvO (execLinkDown side s) := by
  unfold execLinkDown
  try dsimp only
  repeat' (first | (with_reducible (first | assumption | apply State.put_inv | apply State.count_inv | apply State.raise_inv | apply State.sideWith_inv | apply State.reroute_inv | apply State.ringSync_inv | apply State.sendRosters_inv | apply State.invO_next | apply inv_ite | apply invO_ite)) | (intro _) | split)

theorem State.dropOwn_inv (s : State) (hI : s.Inv) : (State.dropOwn s).Inv := by
  unfold State.dropOwn
  exact hI.of rfl rfl rfl rfl rfl rfl rfl rfl rfl rfl

theorem execRoster_inv (side : Side) (ro : Roster) (s : State) (hI : s.Inv) : State.InvO (execRoster side ro s) := by
  unfold execRoster
  try dsimp only
  repeat' (first | (with_reducible (first | assumption | apply State.put_inv | apply State.raise_inv | apply State.sideWith_inv | apply State.reroute_inv | apply State.queueRoster_inv | apply State.sendRosters_inv | apply State.dropOwn_inv | apply State.invO_next | apply inv_ite | apply invO_ite)) | (intro _) | split)

theorem execRingForward_inv (fr : RingFrame) (s : State) (hI : s.Inv) : State.InvO (execRingForward fr s) := by
  unfold execRingForward
  try dsimp only
  repeat' (first | (with_reducible (first | assumption | apply State.reply_inv | apply State.invO_next | apply inv_ite | apply invO_ite)) | split)

theorem execAttentionNotice_inv (sender : Chip) (qb : Bool) (set : Bool) (s : State) (hI : s.Inv) : State.InvO (execAttentionNotice sender qb set s) := by
  unfold execAttentionNotice
  repeat' (first | (with_reducible (first | assumption | apply State.setAttn_inv | apply State.invO_next | apply inv_ite | apply invO_ite)) | split)

theorem execSemOrphanEnd_inv (c : Chip) (s : State) (hI : s.Inv) : State.InvO (execSemOrphanEnd c s) := by
  unfold execSemOrphanEnd
  try dsimp only
  repeat' (first | (with_reducible (first | assumption | apply State.semOrphan_inv | apply State.invO_next | apply inv_ite | apply invO_ite)) | (intro _) | split)

theorem State.sendOne_inv (s t : State) (side : Side) (hI : s.Inv) (e : s.sendOne side = some t) : t.Inv := by
  unfold State.sendOne at e
  split at e
  · cases e
  · split at e
    · cases e
    · cases e
      exact State.reply_inv _ _ (State.sideWith_inv _ _ _ hI)

theorem State.ringOutput_inv (s : State) (hI : s.Inv) : (State.ringOutput s).Inv := by
  unfold State.ringOutput
  split
  · exact State.answerSlot_inv _ _ _ hI
  · split
    · exact State.sendOne_inv _ _ _ hI (by assumption)
    · cases h : s.sendOne 1 with
      | none => exact hI
      | some t => exact State.sendOne_inv _ _ _ hI h

theorem State.tick_inv (s : State) (hI : s.Inv) : (State.tick s).Inv := by
  unfold State.tick
  repeat' (first | (with_reducible (first | assumption | apply State.rclkCycle_inv | apply State.attnNotices_inv | apply State.resumeRuns_inv | apply State.ringNext_inv | apply State.ringOutput_inv | apply inv_ite)) | split)

end Sys2Proof.Machine
end

