-- ==== Sys2Proof/Laws/InvHostExec.lean ====
section
/-! SUPPORT. What the definitions of Machine/HostExec.lean keep: each one leaves the invariant of Safety.lean as it was. -/

namespace Sys2Proof.Machine

set_option linter.unreachableTactic false
set_option linter.unusedTactic false

theorem State.regReads_inv (s : State) (fi : FnInst) (value index : BitVec 16) (len : Nat) (late : Option Nat) (hI : s.Inv) : (State.regReads s fi value index len late).Inv := by
  unfold State.regReads
  repeat' (with_reducible (first | assumption | apply State.reply_inv | apply State.vendor_inv | apply State.vendorBegin_inv | apply State.startRun_inv))

theorem execRegRead_inv (fi : FnInst) (value index : BitVec 16) (len : Nat) (s : State) (hI : s.Inv) : State.InvO (execRegRead fi value index len s) := by
  unfold execRegRead
  repeat' (with_reducible (first | assumption | apply State.regReads_inv | apply State.invO_next))

theorem State.regWrites_inv (s : State) (fi : FnInst) (value index : BitVec 16) (ents : List Byte) (parityErr : Bool) (late : Option Nat) (hI : s.Inv) : (State.regWrites s fi value index ents parityErr late).Inv := by
  unfold State.regWrites
  try dsimp only
  repeat' (first | (with_reducible (first | assumption | apply State.reply_inv | apply State.mgfWith_inv | apply State.epmPut_inv | apply State.epmError_inv | apply State.fnStall_inv | apply State.vendor_inv | apply State.vendorBegin_inv | apply State.startRun_inv | apply inv_ite)) | (intro _) | split)

theorem execRegWrite_inv (fi : FnInst) (value index : BitVec 16) (ents : List Byte) (parityErr : Bool) (s : State) (hI : s.Inv) : State.InvO (execRegWrite fi value index ents parityErr s) := by
  unfold execRegWrite
  repeat' (with_reducible (first | assumption | apply State.regWrites_inv | apply State.invO_next))

theorem execAccessTimeout_inv (late : LateAccess) (place : Nat) (wr : Option FrameWord) (s : State) (hI : s.Inv) : State.InvO (execAccessTimeout late place wr s) := by
  unfold execAccessTimeout
  try dsimp only
  repeat' (first | (with_reducible (first | assumption | apply State.wr_inv | apply State.reply_inv | apply State.ringTake_inv | apply State.regReads_inv | apply State.regWrites_inv | apply State.invO_next | apply inv_ite | apply invO_ite | apply State.invO_fault)) | split)

end Sys2Proof.Machine
end

