-- ==== Sys2Proof/Laws/InvRegRows.lean ====
section
/-! SUPPORT. What the definitions of Machine/RegRows.lean keep: each one leaves the invariant of Safety.lean as it was. -/

namespace Sys2Proof.Machine

set_option linter.unreachableTactic false
set_option linter.unusedTactic false

theorem State.pairField_inv (s : State) (who : Requester) (pg : PageId) (f : Fld) (v : Nat) (hI : s.Inv) : (State.pairField s who pg f v).Inv := by
  unfold State.pairField
  repeat' (with_reducible (first | assumption | apply State.pairOne_inv))

theorem State.writeField_inv (s : State) (who : Requester) (pg : PageId) (f : Fld) (v : Nat) (hI : s.Inv) : (State.writeField s who pg f v).Inv := by
  unfold State.writeField
  repeat' (with_reducible (first | assumption | apply State.writeOne_inv))

theorem execRegisterWrite_inv (who : Requester) (addr : Nat) (be : BitVec 4) (v : Word) (s : State) (hI : s.Inv) : State.InvO (execRegisterWrite who addr be v s) := by
  unfold execRegisterWrite
  repeat' (with_reducible (first | assumption | apply State.writeOne_inv | apply State.invO_next))

theorem execGuardFirstWrite_inv (who : Requester) (addr : Nat) (be : BitVec 4) (v : Word) (s : State) (hI : s.Inv) : State.InvO (execGuardFirstWrite who addr be v s) := by
  unfold execGuardFirstWrite
  repeat' (with_reducible (first | assumption | apply State.writeOne_inv | apply State.invO_next))

theorem execGuardComplementWrite_inv (who : Requester) (addr : Nat) (be : BitVec 4) (v : Word) (s : State) (hI : s.Inv) : State.InvO (execGuardComplementWrite who addr be v s) := by
  unfold execGuardComplementWrite
  repeat' (with_reducible (first | assumption | apply State.writeOne_inv | apply State.invO_next))

theorem execGuardExpire_inv (idn : Ident) (s : State) (hI : s.Inv) : State.InvO (execGuardExpire idn s) := by
  unfold execGuardExpire
  repeat' (with_reducible (first | assumption | apply State.breakPair_inv | apply State.invO_next))

theorem State.upsetAt_inv (s : State) (addr : Nat) (flips : Word) (hI : s.Inv) : (State.upsetAt s addr flips).Inv := by
  unfold State.upsetAt
  try dsimp only
  repeat' (first | (with_reducible (first | assumption | apply State.upset_inv | apply State.afterWrite_inv | apply inv_ite)) | split)

theorem execParityScrub_inv (ups : List (Nat × Word)) (addr : Nat) (s : State) (hI : s.Inv) : State.InvO (execParityScrub ups addr s) := by
  unfold execParityScrub
  try dsimp only
  repeat' (first | (with_reducible (first | assumption | apply State.parityVisit_inv | apply State.upsetAt_inv | apply State.invO_next | apply inv_ite | apply invO_ite | refine inv_foldl (fun _ _ _ => ?_) ?_ | refine inv_foldl_snd (fun _ _ _ => ?_) ?_ | refine inv_foldl_fst (fun _ _ _ => ?_) ?_ | refine inv_foldl_fst2 (fun _ _ _ => ?_) ?_)) | (intro _) | split)

theorem execPageEnWrite_inv (who : Requester) (pg : PageId) (en : Bool) (s : State) (hI : s.Inv) : State.InvO (execPageEnWrite who pg en s) := by
  unfold execPageEnWrite
  repeat' (first | (with_reducible (first | assumption | apply State.writeOne_inv | apply State.invO_next | apply inv_ite | apply invO_ite | apply inv_dite)) | split)

theorem execBlkRst_inv (who : Requester) (pg : PageId) (s : State) (hI : s.Inv) : State.InvO (execBlkRst who pg s) := by
  unfold execBlkRst
  repeat' (first | (with_reducible (first | assumption | apply State.writeOne_inv | apply State.invO_next | apply inv_ite | apply invO_ite | apply inv_dite)) | split)

theorem execRestartComplete_inv (pg : PageId) (s : State) (hI : s.Inv) : State.InvO (execRestartComplete pg s) := by
  unfold execRestartComplete
  repeat' (first | (with_reducible (first | assumption | apply State.put_inv | apply State.invO_next | apply inv_ite | apply invO_ite | apply inv_dite)) | split)

theorem execCoreRst_inv (who : Requester) (s : State) (hI : s.Inv) : State.InvO (execCoreRst who s) := by
  unfold execCoreRst
  repeat' (with_reducible (first | assumption | apply State.pairField_inv | apply State.invO_next))

theorem execPlateRst_inv (who : Requester) (v : BitVec 4) (s : State) (hI : s.Inv) : State.InvO (execPlateRst who v s) := by
  unfold execPlateRst
  repeat' (with_reducible (first | assumption | apply State.pairField_inv | apply State.invO_next))

theorem execGraverRst_inv (who : Requester) (v : Bool) (s : State) (hI : s.Inv) : State.InvO (execGraverRst who v s) := by
  unfold execGraverRst
  repeat' (with_reducible (first | assumption | apply State.pairField_inv | apply State.invO_next))

theorem execDrcRst_inv (who : Requester) (v : Bool) (s : State) (hI : s.Inv) : State.InvO (execDrcRst who v s) := by
  unfold execDrcRst
  repeat' (with_reducible (first | assumption | apply State.pairField_inv | apply State.invO_next))

theorem execMgtRst_inv (who : Requester) (v : Bool) (s : State) (hI : s.Inv) : State.InvO (execMgtRst who v s) := by
  unfold execMgtRst
  repeat' (with_reducible (first | assumption | apply State.pairField_inv | apply State.invO_next))

theorem execDclkRun_inv (who : Requester) (v : Bool) (s : State) (hI : s.Inv) : State.InvO (execDclkRun who v s) := by
  unfold execDclkRun
  repeat' (with_reducible (first | assumption | apply State.pairField_inv | apply State.invO_next))

theorem execGclkRun_inv (who : Requester) (v : Bool) (s : State) (hI : s.Inv) : State.InvO (execGclkRun who v s) := by
  unfold execGclkRun
  repeat' (with_reducible (first | assumption | apply State.pairField_inv | apply State.invO_next))

theorem execFclkPlateRun_inv (who : Requester) (v : BitVec 4) (s : State) (hI : s.Inv) : State.InvO (execFclkPlateRun who v s) := by
  unfold execFclkPlateRun
  repeat' (with_reducible (first | assumption | apply State.pairField_inv | apply State.invO_next))

theorem execPortRst_inv (who : Requester) (hi : Bool) (be : BitVec 4) (v : Word) (s : State) (hI : s.Inv) : State.InvO (execPortRst who hi be v s) := by
  unfold execPortRst
  repeat' (first | (with_reducible (first | assumption | apply State.writeOne_inv | apply State.invO_next | apply inv_ite | apply invO_ite | apply inv_dite)) | split)

theorem execSemClaim_inv (who : Requester) (n : Sem) (s : State) (hI : s.Inv) : State.InvO (execSemClaim who n s) := by
  unfold execSemClaim
  repeat' (with_reducible (first | assumption | apply State.readOne_inv | apply State.invO_next))

theorem execSemRelease_inv (who : Requester) (n : Sem) (be : BitVec 4) (s : State) (hI : s.Inv) : State.InvO (execSemRelease who n be s) := by
  unfold execSemRelease
  repeat' (with_reducible (first | assumption | apply State.writeOne_inv | apply State.invO_next))

theorem execSemForce_inv (who : Requester) (v : Word) (s : State) (hI : s.Inv) : State.InvO (execSemForce who v s) := by
  unfold execSemForce
  repeat' (with_reducible (first | assumption | apply State.pairOne_inv | apply State.invO_next))

theorem execHostGrantChange_inv (who : Requester) (v : BitVec 2) (s : State) (hI : s.Inv) : State.InvO (execHostGrantChange who v s) := by
  unfold execHostGrantChange
  repeat' (with_reducible (first | assumption | apply State.pairOne_inv | apply State.invO_next))

theorem execEvqPop_inv (who : Requester) (q : QueueIx) (s : State) (hI : s.Inv) : State.InvO (execEvqPop who q s) := by
  unfold execEvqPop
  repeat' (with_reducible (first | assumption | apply State.readOne_inv | apply State.invO_next))

theorem execPopComplete_inv (q : QueueIx) (s : State) (hI : s.Inv) : State.InvO (execPopComplete q s) := by
  unfold execPopComplete
  try dsimp only
  repeat' (first | (with_reducible (first | assumption | apply State.resumeRun_inv | apply State.invO_next)) | split)

theorem State.popGivesUp_inv (s : State) (r : AccessRun) (q : QueueIx) (hI : s.Inv) : (State.popGivesUp s r q).Inv := by
  unfold State.popGivesUp
  try dsimp only
  repeat' (first | (with_reducible (first | assumption | apply State.runOn_inv | apply State.setRuns_inv | apply State.settleRun_inv | apply State.resumeRun_inv | apply inv_ite)) | split)

theorem execEvqPopTimeout_inv (who : Requester) (s : State) (hI : s.Inv) : State.InvO (execEvqPopTimeout who s) := by
  unfold execEvqPopTimeout
  try dsimp only
  repeat' (first | (with_reducible (first | assumption | apply State.popGivesUp_inv | apply State.invO_next | apply inv_ite | apply invO_ite)) | (intro _) | split)

theorem execEvqPeek_inv (who : Requester) (q : QueueIx) (s : State) (hI : s.Inv) : State.InvO (execEvqPeek who q s) := by
  unfold execEvqPeek
  repeat' (with_reducible (first | assumption | apply State.readOne_inv | apply State.invO_next))

theorem execFlush_inv (who : Requester) (q : QueueIx) (s : State) (hI : s.Inv) : State.InvO (execFlush who q s) := by
  unfold execFlush
  repeat' (with_reducible (first | assumption | apply State.writeOne_inv | apply State.invO_next))

theorem execEventRoute_inv (s : State) (hI : s.Inv) : State.InvO (execEventRoute s) := by
  unfold execEventRoute
  repeat' (first | (with_reducible (first | assumption | apply State.routeOne_inv | apply State.noticeWake_inv | apply State.invO_next | apply inv_ite | apply invO_ite)) | split)

theorem execUptimeAlign_inv (s : State) (hI : s.Inv) : State.InvO (execUptimeAlign s) := by
  unfold execUptimeAlign
  repeat' (first | (with_reducible (first | assumption | apply State.alignUptime_inv | apply State.invO_next | apply inv_ite | apply invO_ite)) | split)

theorem execStageWrite_inv (who : Requester) (be : BitVec 4) (v : Word) (s : State) (hI : s.Inv) : State.InvO (execStageWrite who be v s) := by
  unfold execStageWrite
  repeat' (with_reducible (first | assumption | apply State.writeOne_inv | apply State.invO_next))

theorem execStageRead_inv (who : Requester) (s : State) (hI : s.Inv) : State.InvO (execStageRead who s) := by
  unfold execStageRead
  repeat' (with_reducible (first | assumption | apply State.readOne_inv | apply State.invO_next))

theorem execCommit_inv (who : Requester) (parityErr : Bool) (s : State) (hI : s.Inv) : State.InvO (execCommit who parityErr s) := by
  unfold execCommit
  repeat' (with_reducible (first | assumption | apply State.oneWith_inv | apply State.invO_next))

theorem execFetchActive_inv (who : Requester) (s : State) (hI : s.Inv) : State.InvO (execFetchActive who s) := by
  unfold execFetchActive
  repeat' (with_reducible (first | assumption | apply State.writeOne_inv | apply State.invO_next))

theorem execFetchOther_inv (who : Requester) (s : State) (hI : s.Inv) : State.InvO (execFetchOther who s) := by
  unfold execFetchOther
  repeat' (with_reducible (first | assumption | apply State.writeOne_inv | apply State.invO_next))

theorem execPoolWrite_inv (who : Requester) (single : Bool) (be : BitVec 4) (v : Word) (s : State) (hI : s.Inv) : State.InvO (execPoolWrite who single be v s) := by
  unfold execPoolWrite
  repeat' (first | (with_reducible (first | assumption | apply State.writeOne_inv | apply State.invO_next | apply inv_ite | apply invO_ite)) | split)

theorem execTargetWrite_inv (who : Requester) (p : Port) (be : BitVec 4) (v : Word) (s : State) (hI : s.Inv) : State.InvO (execTargetWrite who p be v s) := by
  unfold execTargetWrite
  repeat' (with_reducible (first | assumption | apply State.writeOne_inv | apply State.invO_next))

theorem execForceOff_inv (who : Requester) (p : Port) (v : Bool) (s : State) (hI : s.Inv) : State.InvO (execForceOff who p v s) := by
  unfold execForceOff
  repeat' (with_reducible (first | assumption | apply State.writeField_inv | apply State.invO_next))

theorem execRecover_inv (who : Requester) (p : Port) (s : State) (hI : s.Inv) : State.InvO (execRecover who p s) := by
  unfold execRecover
  repeat' (with_reducible (first | assumption | apply State.writeOne_inv | apply State.invO_next))

theorem execConRxdataRead_inv (who : Requester) (p : Port) (s : State) (hI : s.Inv) : State.InvO (execConRxdataRead who p s) := by
  unfold execConRxdataRead
  repeat' (with_reducible (first | assumption | apply State.readOne_inv | apply State.invO_next))

theorem execConTxdataWrite_inv (who : Requester) (p : Port) (be : BitVec 4) (v : Word) (s : State) (hI : s.Inv) : State.InvO (execConTxdataWrite who p be v s) := by
  unfold execConTxdataWrite
  repeat' (with_reducible (first | assumption | apply State.writeOne_inv | apply State.invO_next))

theorem execPdCtrlHardReset_inv (who : Requester) (p : Port) (s : State) (hI : s.Inv) : State.InvO (execPdCtrlHardReset who p s) := by
  unfold execPdCtrlHardReset
  repeat' (with_reducible (first | assumption | apply State.writeOne_inv | apply State.invO_next))

theorem execPdCtrlSoftReset_inv (who : Requester) (p : Port) (s : State) (hI : s.Inv) : State.InvO (execPdCtrlSoftReset who p s) := by
  unfold execPdCtrlSoftReset
  repeat' (with_reducible (first | assumption | apply State.writeOne_inv | apply State.invO_next))

theorem execSendCaps_inv (who : Requester) (p : Port) (s : State) (hI : s.Inv) : State.InvO (execSendCaps who p s) := by
  unfold execSendCaps
  repeat' (with_reducible (first | assumption | apply State.writeOne_inv | apply State.invO_next))

theorem execRediscover_inv (who : Requester) (p : Port) (s : State) (hI : s.Inv) : State.InvO (execRediscover who p s) := by
  unfold execRediscover
  repeat' (with_reducible (first | assumption | apply State.writeOne_inv | apply State.invO_next))

theorem execExitMode_inv (who : Requester) (p : Port) (s : State) (hI : s.Inv) : State.InvO (execExitMode who p s) := by
  unfold execExitMode
  repeat' (with_reducible (first | assumption | apply State.writeOne_inv | apply State.invO_next))

theorem execPdEnWrite_inv (who : Requester) (p : Port) (v : Bool) (s : State) (hI : s.Inv) : State.InvO (execPdEnWrite who p v s) := by
  unfold execPdEnWrite
  repeat' (with_reducible (first | assumption | apply State.writeField_inv | apply State.invO_next))

theorem execEnterCp_inv (who : Requester) (f : Full) (s : State) (hI : s.Inv) : State.InvO (execEnterCp who f s) := by
  unfold execEnterCp
  repeat' (with_reducible (first | assumption | apply State.writeOne_inv | apply State.invO_next))

theorem execLoopMaster_inv (who : Requester) (f : Full) (s : State) (hI : s.Inv) : State.InvO (execLoopMaster who f s) := by
  unfold execLoopMaster
  repeat' (with_reducible (first | assumption | apply State.writeOne_inv | apply State.invO_next))

theorem execExitTest_inv (who : Requester) (f : Full) (errors : Nat) (s : State) (hI : s.Inv) : State.InvO (execExitTest who f errors s) := by
  unfold execExitTest
  repeat' (with_reducible (first | assumption | apply State.oneWith_inv | apply State.invO_next))

theorem execMarginStart_inv (who : Requester) (f : Full) (s : State) (hI : s.Inv) : State.InvO (execMarginStart who f s) := by
  unfold execMarginStart
  repeat' (with_reducible (first | assumption | apply State.writeOne_inv | apply State.invO_next))

theorem execMaxGenWrite_inv (who : Requester) (lk : SsLink) (v : Bool) (s : State) (hI : s.Inv) : State.InvO (execMaxGenWrite who lk v s) := by
  unfold execMaxGenWrite
  try dsimp only
  repeat' (first | (with_reducible (first | assumption | apply State.writeField_inv | apply State.invO_next)) | split)

theorem execOwnerWrite_inv (who : Requester) (p : Port) (be : BitVec 4) (v : Word) (s : State) (hI : s.Inv) : State.InvO (execOwnerWrite who p be v s) := by
  unfold execOwnerWrite
  repeat' (with_reducible (first | assumption | apply State.writeOne_inv | apply State.invO_next))

theorem execFailback_inv (who : Requester) (s : State) (hI : s.Inv) : State.InvO (execFailback who s) := by
  unfold execFailback
  repeat' (with_reducible (first | assumption | apply State.writeOne_inv | apply State.invO_next))

theorem execReattach_inv (who : Requester) (u : Up) (s : State) (hI : s.Inv) : State.InvO (execReattach who u s) := by
  unfold execReattach
  repeat' (first | (with_reducible (first | assumption | apply State.writeOne_inv | apply State.invO_next | apply inv_ite | apply invO_ite)) | split)

theorem execEpmWinRead_inv (who : Requester) (s : State) (hI : s.Inv) : State.InvO (execEpmWinRead who s) := by
  unfold execEpmWinRead
  repeat' (with_reducible (first | assumption | apply State.readOne_inv | apply State.invO_next))

theorem execDoorbell_inv (who : Requester) (r : RingIx) (be : BitVec 4) (v : Word) (s : State) (hI : s.Inv) : State.InvO (execDoorbell who r be v s) := by
  unfold execDoorbell
  repeat' (with_reducible (first | assumption | apply State.writeOne_inv | apply State.invO_next))

theorem execCrConsWrite_inv (who : Requester) (r : RingIx) (be : BitVec 4) (v : Word) (s : State) (hI : s.Inv) : State.InvO (execCrConsWrite who r be v s) := by
  unfold execCrConsWrite
  repeat' (with_reducible (first | assumption | apply State.writeOne_inv | apply State.invO_next))

theorem execBufWdata_inv (who : Requester) (be : BitVec 4) (v : Word) (s : State) (hI : s.Inv) : State.InvO (execBufWdata who be v s) := by
  unfold execBufWdata
  repeat' (with_reducible (first | assumption | apply State.writeOne_inv | apply State.invO_next))

theorem execBufRdata_inv (who : Requester) (s : State) (hI : s.Inv) : State.InvO (execBufRdata who s) := by
  unfold execBufRdata
  repeat' (with_reducible (first | assumption | apply State.readOne_inv | apply State.invO_next))

theorem execRingCfgRestart_inv (who : Requester) (r : RingIx) (off : Nat) (be : BitVec 4) (v : Word) (s : State) (hI : s.Inv) : State.InvO (execRingCfgRestart who r off be v s) := by
  unfold execRingCfgRestart
  repeat' (with_reducible (first | assumption | apply State.writeOne_inv | apply State.invO_next))

theorem execLoad_inv (who : Requester) (w : WinIx) (s : State) (hI : s.Inv) : State.InvO (execLoad who w s) := by
  unfold execLoad
  repeat' (with_reducible (first | assumption | apply State.writeField_inv | apply State.invO_next))

theorem execStore_inv (who : Requester) (w : WinIx) (s : State) (hI : s.Inv) : State.InvO (execStore who w s) := by
  unfold execStore
  repeat' (with_reducible (first | assumption | apply State.writeField_inv | apply State.invO_next))

theorem execEccClear_inv (who : Requester) (s : State) (hI : s.Inv) : State.InvO (execEccClear who s) := by
  unfold execEccClear
  repeat' (with_reducible (first | assumption | apply State.writeOne_inv | apply State.invO_next))

theorem execCompatAttach_inv (who : Requester) (i : Inst) (s : State) (hI : s.Inv) : State.InvO (execCompatAttach who i s) := by
  unfold execCompatAttach
  repeat' (with_reducible (first | assumption | apply State.writeOne_inv | apply State.invO_next))

theorem execInstReset_inv (who : Requester) (mask : Byte) (s : State) (hI : s.Inv) : State.InvO (execInstReset who mask s) := by
  unfold execInstReset
  repeat' (with_reducible (first | assumption | apply State.writeOne_inv | apply State.invO_next))

theorem execRcRead_inv (who : Requester) (i : Inst) (off : Byte) (s : State) (hI : s.Inv) : State.InvO (execRcRead who i off s) := by
  unfold execRcRead
  repeat' (with_reducible (first | assumption | apply State.readOne_inv | apply State.invO_next))

theorem execConfigAreaWrite_inv (who : Requester) (i : Inst) (off v : Byte) (s : State) (hI : s.Inv) : State.InvO (execConfigAreaWrite who i off v s) := by
  unfold execConfigAreaWrite
  repeat' (with_reducible (first | assumption | apply State.writeOne_inv | apply State.invO_next))

theorem execQuarSet_inv (who : Requester) (hi : Bool) (v : Word) (s : State) (hI : s.Inv) : State.InvO (execQuarSet who hi v s) := by
  unfold execQuarSet
  repeat' (first | (with_reducible (first | assumption | apply State.writeOne_inv | apply State.invO_next | apply inv_ite | apply invO_ite | apply inv_dite)) | split)

theorem execQuarRelease_inv (who : Requester) (hi : Bool) (v : Word) (s : State) (hI : s.Inv) : State.InvO (execQuarRelease who hi v s) := by
  unfold execQuarRelease
  repeat' (first | (with_reducible (first | assumption | apply State.writeOne_inv | apply State.invO_next | apply inv_ite | apply invO_ite | apply inv_dite)) | split)

theorem execPlateIsoSet_inv (who : Requester) (v : BitVec 4) (s : State) (hI : s.Inv) : State.InvO (execPlateIsoSet who v s) := by
  unfold execPlateIsoSet
  repeat' (with_reducible (first | assumption | apply State.pairField_inv | apply State.invO_next))

theorem execPlateIsoClear_inv (who : Requester) (v : BitVec 4) (s : State) (hI : s.Inv) : State.InvO (execPlateIsoClear who v s) := by
  unfold execPlateIsoClear
  repeat' (with_reducible (first | assumption | apply State.pairField_inv | apply State.invO_next))

theorem execPeakClr_inv (who : Requester) (s : State) (hI : s.Inv) : State.InvO (execPeakClr who s) := by
  unfold execPeakClr
  repeat' (with_reducible (first | assumption | apply State.writeOne_inv | apply State.invO_next))

theorem State.goWith_inv (s : State) (who : Requester) (kinds : List Nat) (hI : s.Inv) : (State.goWith s who kinds).Inv := by
  unfold State.goWith
  repeat' (first | (with_reducible (first | assumption | apply State.writeOne_inv | apply inv_ite)) | split)

theorem execUpdatePortPolicy_inv (who : Requester) (s : State) (hI : s.Inv) : State.InvO (execUpdatePortPolicy who s) := by
  unfold execUpdatePortPolicy
  repeat' (with_reducible (first | assumption | apply State.goWith_inv | apply State.invO_next))

theorem execUpdatePort_inv (who : Requester) (s : State) (hI : s.Inv) : State.InvO (execUpdatePort who s) := by
  unfold execUpdatePort
  repeat' (with_reducible (first | assumption | apply State.goWith_inv | apply State.invO_next))

theorem execUpdatePresDesc_inv (who : Requester) (s : State) (hI : s.Inv) : State.InvO (execUpdatePresDesc who s) := by
  unfold execUpdatePresDesc
  repeat' (with_reducible (first | assumption | apply State.goWith_inv | apply State.invO_next))

theorem execUpdateEnd_inv (s : State) (hI : s.Inv) : State.InvO (execUpdateEnd s) := by
  unfold execUpdateEnd
  try dsimp only
  repeat' (first | (with_reducible (first | assumption | apply State.put_inv | apply State.healthWith_inv | apply State.updResult_inv | apply State.invO_next)) | (intro _) | split | (refine inv_of_snd (by with_reducible assumption) ?_))

end Sys2Proof.Machine
end

