-- ==== Sys2Proof/Tests/Slice0.lean ====
section
/-! SUPPORT. Tests: ill-formed commands that the check refuses, single steps whose results the spec's own examples and tables give, and
for each statement with hypotheses states and operands that meet them. -/

namespace Sys2Proof.Machine

set_option Elab.async false

/-! ### Small states -/

/-- A state with a list of fields set. -/
def State.putAll (s : State) (l : List (PageId × Fld × Nat)) : State := l.foldl (fun s e => s.put e.1 e.2.1 e.2.2) s

/-- A small state that stands for the part after its load: core running, clocks on, every port out of reset. -/
def w0 : State :=
  { State.reset with coreHeld := false, dclkOn := true, gclkOn := true, entry := { freshEntry with powered := true } }.putAll
    [(.clk, F.CLK_ROOT_STATUS_ROOT_LOCKED, 1), (.clk, F.CLK_ROOT_STATUS_REF_PRESENT, 1), (.clk, F.CLK_ROOT_STATUS_LANE_PLATE_LOCKED, 15),
     (.clk, F.CLK_ROOT_STATUS_LANE_U0_LOCKED, 1), (.clk, F.CLK_ROOT_STATUS_LANE_U1_LOCKED, 1),
     (.clk, ⟨0x60, 0, 32⟩, 0), (.clk, ⟨0x64, 0, 32⟩, 0), (.glb, F.GLB_READY_CORE, 1), (.glb, F.GLB_READY_CFG_LOADED, 1),
     (.glb, F.GLB_READY_MGT_READY, 1)]


/-- A descriptor's 64 bytes from its opcode, its flags and its words from 0x24. -/
def descOf (op flags : Byte) (ws : List Nat) (timeout : Nat := 0) : List Byte :=
  [op, flags] ++ List.replicate 30 0 ++ leBytes 4 timeout ++ (ws ++ List.replicate (7 - ws.length) 0).flatMap (leBytes 4)

/-- A job on port 0. -/
def jobOf (desc : List Byte) (started : Bool) (x : JobPort) : Job := ⟨0, 0, 0, 0, 0, desc, [x], started, 0, 0, [], 0⟩

/-- A job's part on port 0 at a phase and a position. -/
def partOf (phase pos : Nat) : JobPort := ⟨0, none, phase, pos, crcInit, false⟩

/-- A state with one job, its port the graver's. -/
def wJob (j : Job) : State :=
  ((w0.put .clk F.CLK_RESET_STATUS_GRAVER_IN_RST 0).put .prs (F.PRS_OWNERn_CUR 0) 3).grvWith (fun g => { g with jobs := [j], nextId := 1 })

/-- The nibbles of a frame: opcode, word address, `LOCAL` and its nibble, `COUNT` and entries, with the CRC. -/
def frameOf (op : Nibble) (waddr : Nat) (loc : Nibble) (count : Nat) (ents : List FrameWord) : List Nibble :=
  withCrc ([op, 0] ++ toNibs 6 waddr ++ [loc, 0] ++ toNibs 2 count ++ ents.flatMap (fun w => w.be :: toNibs 8 w.data.toNat))

/-- A request of master A that reads the word `GLB_STRAPS` lies at. -/
def reqOf (origin : Chip) (seq : BitVec 8) : RingReq := ⟨.a, origin, seq, false, false, 0x18, [⟨0xF, 0⟩]⟩

/-! ### Commands that no sender can form -/

theorem test_wf_word_address : Instr.wf (.registerWrite .a 0x2062 0xF 0) = false := by decide
theorem test_wf_address_space : Instr.wf (.guardFirstWrite .a 0x4000000 0xF 0) = false := by decide
theorem test_wf_complement_address : Instr.wf (.guardComplementWrite .a 0x1051 0xF 0) = false := by decide
theorem test_wf_scrub_address : Instr.wf (.parityScrub [] 0x3061) = false ∧ Instr.wf (.entryScrub [(0x5042, 1)] 0x5040) = false := by decide
theorem test_wf_timeout_address : Instr.wf (.accessTimeout (.single .h0) 0x40001 none) = false := by decide
theorem test_wf_timeout_word : Instr.wf (.accessTimeout (.ring (reqOf 1 0)) 1 none) = false := by decide
theorem test_wf_page_header : Instr.wf (.pageEnWrite .a (.win 0) true) = false ∧ Instr.wf (.blkRst .a (.win 1)) = false ∧
    Instr.wf (.restartComplete (.win 2)) = false := by decide
theorem test_wf_write_count : Instr.wf (.writeF .a ((frameOf 2 0 8 1 [⟨0xF, 0⟩]).take 12) ((frameOf 2 0 8 1 [⟨0xF, 0⟩]).drop 12) false) = false ∧
    Instr.wf (.writeFixed .a ((frameOf 4 0 8 0 []).take 12) [] false) = false := by decide +kernel
theorem test_wf_frame_length : Instr.wf (.readF .a [1, 0] false) = false ∧ Instr.wf (.readFixed .a (frameOf 1 0 8 0 []) false) = false ∧
    Instr.wf (.replay .a ⟨[], false⟩) = false := by decide +kernel
theorem test_wf_opcode : Instr.wf (.badOpcode .a (frameOf 1 0 8 0 []) false) = false ∧
    Instr.wf (.badOpcode .a (frameOf 5 0 8 0 []) false) = true := by decide +kernel
theorem test_wf_roster : Instr.wf (.roster 0 ⟨1, 17, [], []⟩) = false ∧ Instr.wf (.roster 0 ⟨1, 1, List.replicate 17 ⟨1, 2⟩, []⟩) = false := by decide
theorem test_wf_late_access : Instr.wf (.accessTimeout (.ring ⟨.a, 1, 0, false, false, 0, [⟨0xF, 0⟩]⟩) 1 none) = false := by decide
theorem test_wf_ring_request : Instr.wf (.ringRequest ⟨.a, 1, 0, false, false, 0, []⟩) = false ∧
    Instr.wf (.ringForward ⟨2, 1, 3, .request ⟨.a, 1, 0, false, false, 0, List.replicate 17 ⟨0, 0⟩⟩⟩) = false := by decide
theorem test_wf_ring_response : Instr.wf (.ringResponse .a 1 false 0 (List.replicate 17 ⟨0, 0⟩)) = false := by decide
theorem test_wf_leave_request : Instr.wf (.leaveRequest [.turnOn 3, .turnOn 3]) = false := by decide
theorem test_wf_pd_message : Instr.wf (.request (.down 0) ⟨false, false, false, false, false, 2, 0, List.replicate 8 0⟩) = false := by decide
theorem test_wf_hub_number : Instr.wf (.setPortReset (.plate 0 0) 256) = false ∧ Instr.wf (.setPortTest (.plate 0 0) 1 256) = false := by
  decide
theorem test_wf_length : Instr.wf (.getDescriptor (.hub (.plate 0 0)) ⟨1, 0⟩ 0 65536 false) = false ∧
    Instr.wf (.dramRead ⟨0, false⟩ 0 65536) = false := by decide
theorem test_wf_split : Instr.wf (.startSplit (.plate 0 0) 1 ⟨1, 1, false, .bulk, List.replicate 1024 0⟩) = false ∧
    Instr.wf (.startSplit (.plate 0 0) 256 ⟨1, 1, false, .bulk, []⟩) = false := by decide +kernel
theorem test_wf_tt_result : Instr.wf (.ttTransactionEnd 0 ⟨false, .data false false (List.replicate 1024 0)⟩) = false := by decide +kernel
theorem test_wf_bulk : Instr.wf (.bulkCommand ⟨⟨0, false⟩, 0⟩ [1, 0, 0]) = false ∧
    Instr.wf (.bulkCommand ⟨⟨0, false⟩, 0⟩ [2, 0, 7, 0, 4, 0, 0, 0, 0, 0, 0, 0, 0, 0, 0, 0]) = false ∧
    Instr.wf (.bulkCommand ⟨⟨0, false⟩, 0⟩ [2, 0, 7, 0, 4, 0, 0, 0, 0, 0, 0, 0, 0, 0, 0, 0, 9, 9, 9, 9]) = true := by decide
theorem test_wf_ring_offset : Instr.wf (.ringCfgRestart .a 0 2 0xF 0) = false ∧ Instr.wf (.ringCfgRestart .a 0 0x40 0xF 0) = false := by decide

/-! ### Addresses and checks -/

/-- 00 (register notation): `INT_STATUS` of P37's TCP page lies at 0x0022_800C. -/
theorem test_tcp_address : regAddr (.tcp 37) 0xC = 0x22800C := by decide

/-- 19 (R460): P50's LHE page is at 0x0029_5000 and reads 0x3532_0100. -/
theorem test_lhe_page_id : (PageId.lhe 50).base = 0x295000 ∧ resetWord 0x295000 = 0x35320100 := by decide +kernel

/-- 19 (R460): the SSP page of P04, a basic port, is reserved. -/
theorem test_basic_port_has_no_ssp : pageAt 0x123000 = none := by decide

/-- R139: the check value of the CRC-32 with these parameters over the digits 1 to 9. -/
theorem test_crc32 : crc32 [0x31, 0x32, 0x33, 0x34, 0x35, 0x36, 0x37, 0x38, 0x39] = 0xCBF43926 := by decide +kernel

/-- R82: the check value of the CRC-16 with these parameters over the digits 1 to 9. -/
theorem test_crc16 : crc16 ([0x31, 0x32, 0x33, 0x34, 0x35, 0x36, 0x37, 0x38, 0x39].flatMap (toNibs 2)) = 0x29B1 := by decide +kernel

/-- R81: opcode 2 with `LOCAL` and `COUNT` 0 writes one word, the byte enables before it, most significant nibble first. -/
theorem test_header : hdrOf [2, 0, 0, 0, 0, 8, 1, 8, 8, 0, 0, 0, 3, 1, 2, 3, 4, 5, 6, 7, 8] = ⟨0x818, true, 0, 0⟩ ∧
    entriesOf [2, 0, 0, 0, 0, 8, 1, 8, 8, 0, 0, 0, 3, 1, 2, 3, 4, 5, 6, 7, 8] = [⟨3, 0x12345678⟩] := by decide +kernel

/-- R34, R35: after reset a port's switch is off, its discharge on, its CC lines open, and both interrupt lines are released. -/
theorem test_reset_pins : State.reset.gateBall 5 = false ∧ State.reset.dschBall 5 = true ∧ State.reset.ccBall 5 = .opened ∧
    State.reset.intBall .a = false ∧ State.reset.readyBall .b = false := by decide +kernel

/-- R144, R145: `SEQ` 0xFFFF_FFFE in bank 0 and 1 in bank 1: bank 1 is newer. -/
theorem test_newer_bank :
    ((State.reset.bankPut 0 [(0x10, 0xFE), (0x11, 0xFF), (0x12, 0xFF), (0x13, 0xFF)]).bankPut 1 [(0x10, 1)]).newerBank = 1 := by
  decide +kernel

/-- R168, R169: 20 kΩ is a ceiling of 25 mV; `ILIM_FRAC` 0x9F then gives 15.625 mV. -/
theorem test_entry_limit : ceilingUv 20000 = 25000 ∧
    (w0.putAll [(.pwe, F.PWE_CEIL_CEIL_UV, 25000), (.pwe, F.PWE_ILIM_ILIM_FRAC, 0x9F)]).entryLimitUv = 15625 := by decide +kernel

/-- R237: P18 with a 5 A, 50 V, EPR-capable cable and a grant of 100.0 W offers 3, 3, 3, 5 A, PPS 4.75 A power limited, EPR 3.57, 2.77,
2.08 A and AVS 100 W. -/
theorem test_pd_offer :
    (((w0.putAll [(.bgt, F.BGT_GRANTn_GRANT 18, 1000), (.tcp 18, F.TCP_CABLE_CURRENT, 2), (.tcp 18, F.TCP_CABLE_VMAX, 3),
      (.tcp 18, F.TCP_CABLE_EPR_CAPABLE, 1), (.tcp 18, F.TCP_PD_STATUS_VCONN_SRC, 1), (.tcp 18, F.TCP_PD_STATUS_SPEC_REV, 2)]).pdWith
        18 (fun d => { d with cableGood := true })).deriveOffer 18 true).words.map (fun w => w.toNat % (if pdoType w = 0 then 1024 else 128)) = [300, 300, 300, 500, 95, 0, 0, 357, 277, 208, 100] := by
  decide +kernel

/-! ### Single steps -/

/-- 00: writing 8 to `INT_STATUS` of P37's TCP page clears bit 3 and no other (W1C). -/
theorem test_w1c : (match execRegisterWrite .a 0x22800C 0xF 8 (w0.putAll [(.tcp 37, F.INT_STATUS 3, 1), (.tcp 37, F.INT_STATUS 1, 1)]) with
    | .next t => (t.get (.tcp 37) (F.INT_STATUS 3), t.get (.tcp 37) (F.INT_STATUS 1))
    | _ => (9, 9)) = (0, 1) := by decide +kernel

/-- 03 (R61): the first write of the pair opens it and `CLK_RESET` still reads 0. -/
theorem test_guard_first : (match execGuardFirstWrite .a 0x104C 0xF 4 w0 with
    | .next t => (t.pair ⟨0, 0⟩, t.rd 0x104C)
    | _ => (none, 9)) = (some ⟨0x104C, 4⟩, 0) := by decide +kernel

/-- 03 (R61): the complement carries the value out: plate 2 is held in reset. -/
theorem test_guard_second :
    (match execGuardComplementWrite .a 0x1050 0xF 0xFFFFFFFB (w0.setPair ⟨0, 0⟩ (some ⟨0x104C, 4⟩)) with
    | .next t => (t.pair ⟨0, 0⟩, t.rd 0x104C)
    | _ => (none, 9)) = (none, 4) := by decide +kernel

/-- R73: a partial write leaves an RW byte whose enable is 0 as it was. -/
theorem test_byte_enables : (match execRegisterWrite .a 0x2060 0x1 0xFF (w0.putAll [(.mgt, F.MGT_RING_CFG_RETRY_TIME, 60)]) with
    | .next t => (t.get .mgt F.MGT_RING_CFG_RETRY_TIME, t.get .mgt F.MGT_RING_CFG_SEM_ORPHAN)
    | _ => (0, 0)) = (255, 10) := by decide +kernel

/-- R72: a write to a reserved page is ignored and answered OK. -/
theorem test_reserved_page : (match execRegisterWrite .a 0x123000 0xF 7 w0 with
    | .next t => (t.answer, t.rd 0x123000)
    | _ => (.silent, 9)) = (.word 0 0, 0) := by decide +kernel

/-- R92: a free semaphore is taken and 1 returned; R93: its holder frees it. -/
theorem test_semaphore_claim : (match execSemClaim .b 7 w0 with
    | .next t => (t.answer, t.get .glb (F.GLB_SEMn_OWNER_HELD 7), t.get .glb (F.GLB_SEMn_OWNER_OWNER_ID 7))
    | _ => (.silent, 9, 9)) = (.word 0 1, 1, 1) := by decide +kernel

/-- R82: a frame with a wrong CRC is answered CRC_ERR and counted. -/
theorem test_frame_crc : (match execReadF .a ((frameOf 1 0x10 8 0 []).set 7 1) false w0 with
    | .next t => (t.answer, t.get .mgt F.MGT_PORT_CNT_A_CRC_CNT)
    | _ => (.silent, 9)) = (.frame .a ⟨1, [], false⟩, 1) := by decide +kernel

/-- R81: a burst that would leave its page is answered PAGE_CROSS. -/
theorem test_page_cross : (match execReadF .b (frameOf 1 0x3FF 8 1 []) false w0 with
    | .next t => t.answer
    | _ => .silent) = .frame .b ⟨3, [], false⟩ := by decide +kernel

/-- R67: a write to the low word of a plate's byte counter sets the whole counter. -/
theorem test_byte_counter : (match execRegisterWrite .a 0x7100 0xF 5 (w0.putAll [(.hlt, ⟨0x104, 0, 32⟩, 3)]) with
    | .next t => (t.rd 0x7100, t.rd 0x7104)
    | _ => (9, 9)) = (5, 0) := by decide +kernel

/-- R95: a host agent without the grant is refused. -/
theorem test_denied : (match execRegisterWrite .h0 0x2060 0xF 0 (w0.putAll [(.prs, F.PRS_Uu_STATUS_ATTACHED 0, 1)]) with
    | .next t => (t.answer, t.get .mgt (F.MGT_ERRn_DENIED 2), t.get .mgt F.MGT_RING_CFG_RETRIES)
    | _ => (.silent, 9, 9)) = (.word 4 0, 1, 3) := by decide +kernel

/-- R123, R125: a pop of an empty queue by a master waits. -/
theorem test_empty_pop : (match execEvqPop .a 0 w0 with
    | .next t => (t.answer, t.runs.length)
    | _ => (.silent, 9)) = (.waits, 1) := by decide +kernel

/-- R15, R17: a loss of the root's lock asserts core global reset with cause 2. -/
theorem test_root_unlock : (match execRootUnlock w0 with
    | .next t => (t.coreHeld, t.entry.lastCause.val)
    | _ => (false, 9)) = (true, 2) := by decide +kernel

/-- R89: before MGT_READY ports A and B take no frames. -/
theorem test_no_frames_before_ready : (match execReadF .a (frameOf 1 0x10 8 0 []) false State.reset with
    | .next t => t.answer
    | _ => .waits) = .silent := by decide +kernel

/-- R119, R120: a record raised with its `INT_ENABLE` bit set stands in its source's FIFO. -/
theorem test_raise : ((w0.putAll [(.mgt, F.INT_ENABLE 0, 1)]).raise .mgt evLinkDown 1 5).get .mgt (F.INT_STATUS 0) = 1 := by
  decide +kernel

/-- R14: in compatibility mode no plate clock runs. -/
theorem test_compat_clocks : (w0.putAll [(.glb, F.GLB_MODE_COMPAT, 1), (.clk, F.CLK_GATE_FCLK_PLATE_RUN, 15)]).fclkRun 3 = false := by
  decide +kernel

/-- R411: an access at the installed size is out of range for a host agent. -/
theorem test_dram_range : ((w0.putAll [(.drc, F.DRC_STATUS_STATE, 4), (.drc, F.DRC_STATUS_SIZE_MIB, 1), (.drc, F.DRC_HAu_WIN_LIMIT 0, 9)]).hostRead
    0 0x100000 4).1 = 2 := by decide +kernel

/-- The step with nothing waiting is the tick: at reset it changes nothing. -/
theorem test_idle : step State.reset = .next State.reset := rfl

/-- One command taken from the front of the queue. -/
theorem test_front : (match step (w0.withPending [.mgtReady, .uptimeAlign]) with
    | .next t => t.pending
    | _ => []) = [.uptimeAlign] := by decide +kernel

/-- A state beside reset keeps the invariant. -/
theorem nearReset_inv : State.Inv { State.reset with coreHeld := false } where
  regs := Sparse.nil_wf _
  fifoForm := Sparse.nil_wf _
  mram := fun b => by simpa [State.reset] using Sparse.nil_wf zeroByte
  stage := Sparse.nil_wf _
  epm := Sparse.nil_wf _
  templates := Sparse.nil_wf _
  buffer := Sparse.nil_wf _
  dram := Sparse.nil_wf _
  areas := fun i => by simpa [State.reset, freshCpt] using Sparse.nil_wf zeroByte
  fifos := fun e he => by cases he
  queues := fun n l => by simp [State.reset, freshQueue]

/-! ### Witnesses for the statements' hypotheses -/

theorem witness_StepTakesTheFrontCommand :
    (∃ (c : Instr) (rest : List Instr) (s : State), s.pending = c :: rest) ∧
    (∃ s : State, s.pending = []) :=
  ⟨⟨.mgtReady, [], w0.withPending [.mgtReady], rfl⟩,
   ⟨w0, rfl⟩⟩

theorem witness_WellFormedCommandsComplete :
    (∃ c : Instr, c.wf = true) ∧
    (∃ (c : Instr) (s : State) (e : Fault), exec c s = .fault e) :=
  ⟨⟨.mgtReady, rfl⟩,
   ⟨.badOpcode .a [] false, w0, .illFormed, rfl⟩⟩

theorem witness_EveryStepKeepsTheInvariant :
    (∃ s t : State, s.Inv ∧ step s = .next t) :=
   ⟨{ State.reset with coreHeld := false }, _, nearReset_inv, rfl⟩

theorem witness_ResetLeavesTheStatedValues :
    (∃ pg : PageId, hasHeader pg = true) ∧
    (∃ s : State, s.coreHeld = true) :=
  ⟨⟨.glb, rfl⟩,
   ⟨State.reset, rfl⟩⟩

theorem witness_TheLoadHasTheOutcomesOfTheTable :
    (∃ s : State, s.flag .glb F.GLB_STRAPS_CFG_BYPASS = true) ∧
    (∃ s : State, s.flag .glb F.GLB_STRAPS_CFG_BYPASS = false ∧ s.bankOk 0 = false ∧ s.bankOk 1 = false) :=
  ⟨⟨w0.setFlag .glb F.GLB_STRAPS_CFG_BYPASS true, by decide +kernel⟩,
   ⟨w0, by decide +kernel⟩⟩

theorem witness_AnswerOnlyCommandsChangeNothingElse :
    (∃ (c : Instr) (s t : State), touches c = [.answer] ∧ exec c s = .next t) ∧
    (∃ c : Instr, touches c = []) :=
  ⟨⟨.getPortStatus (.plate 0 0) 1, w0, _, rfl, rfl⟩,
   ⟨.refresh, rfl⟩⟩

theorem witness_CommandsLeaveOtherPagesAlone :
    (∃ (c : Instr) (s t : State) (pg : PageId), exec c s = .next t ∧ .page (pageKind pg) ∉ touches c) ∧
    (∃ a : Nat, pageAt a = none) :=
  ⟨⟨.mgtReady, w0, _, .clk, rfl, by decide⟩,
   ⟨0xFFF000, by decide⟩⟩

theorem witness_CommandsLeaveOtherMemoriesAlone :
    (∃ (c : Instr) (s t : State) (p : Part), exec c s = .next t ∧ p ∉ touches c ∧ p ∈ [Part.mram, .stage, .epm, .grvTemplates, .grvBuffer,
      .dramMem, .cpt]) :=
   ⟨.mgtReady, w0, _, .mram, rfl, by decide, by decide⟩

theorem witness_CommandsLeaveOtherStateAlone :
    (∃ (c : Instr) (s t : State), exec c s = .next t) ∧
    (∃ (c : Instr) (s t : State) (p : Part), exec c s = .next t ∧ p ∉ touches c ∧ ∀ k, p ≠ .page k) :=
  ⟨⟨.mgtReady, w0, _, rfl⟩,
   ⟨.mgtReady, w0, _, .mram, rfl, by decide, fun _ h => by cases h⟩⟩

theorem witness_StoredFieldsFollowTheirTypes :
    (∃ (pg : PageId) (off : Nat) (r : RegDesc), pg.regAt off = some r ∧ ownStore pg off = false) :=
   ⟨.hlt, 0x40, (PageId.hlt.regAt 0x40).getD ⟨0, 0, 0, []⟩, by decide +kernel⟩

theorem witness_StoresLeaveOtherBytesAlone :
    (∃ (s t : State), exec (.stageWrite .a 0xF 1) s = .next t) ∧
    (∃ (s : State) (c : BulkCmd), s.bulkReady 0 true = some c) ∧
    (∃ (c : WinCmd) (s t : State), s.dram.win[(0 : WinIx)] = some c ∧ exec (.windowCommandEnd 0) s = .next t) ∧
    (∃ s : State, s.dram.win[(0 : WinIx)] = none) ∧
    (∃ (s : State) (c : Nat), s.cfgOp = .writing 0 c) :=
  ⟨⟨w0, _, rfl⟩,
   ⟨w0.mgfWith 0 (fun m => { m with ep2Cmd := some ⟨true, 7, 8, 16, true⟩ }), ⟨true, 7, 8, 16, true⟩, by decide +kernel⟩,
   ⟨⟨false, 0, 2, false⟩, w0.dramWith (fun d => { d with win := d.win.set 0 (some ⟨false, 0, 2, false⟩) }), _, rfl, rfl⟩,
   ⟨w0, rfl⟩,
   ⟨{ w0 with cfgOp := .writing 0 0 }, 0, rfl⟩⟩

theorem witness_EveryRequesterReadsTheIdentification :
    (∃ s : State, s.coreUp = true ∧ s.compat = true) ∧
    (∃ (m : Master) (ns : List Nibble) (s : State), wholeFrame 1 false ns = true ∧ crcGood ns = true ∧ s.mgtTakes = true ∧ s.busyWith
      (masterReq m) = false ∧ (hdrOf ns).waddr = 0x10 ∧ (hdrOf ns).count = 0 ∧ (hdrOf ns).isLocal = true) :=
  ⟨⟨w0.putAll [(.glb, F.GLB_MODE_COMPAT, 1)], by decide +kernel⟩,
   ⟨.a, frameOf 1 0x10 8 0 [], w0, by decide +kernel⟩⟩

theorem witness_AlwaysOnPagesIgnorePageControl :
    (∃ s : State, s.reaches .a .mgt 4 = true) ∧
    (∃ (who : Requester) (pg : PageId) (s : State), pg ∈ [PageId.glb, .clk, .mgt, .evq, .cfg, .pwe, .hlt] ∧ s.takesWrite who pg 4 = true) ∧
    (∃ (who : Requester) (pg : PageId) (s : State), pg ∈ [PageId.glb, .clk, .mgt, .evq, .cfg, .pwe, .hlt] ∧ s.takesWrite who pg 4 = true) ∧
    (∃ (who : Requester) (pg : PageId) (s : State), pg ∈ [PageId.glb, .clk, .mgt, .evq, .cfg, .pwe, .hlt] ∧ s.takesWrite who pg 4 = true) :=
  ⟨⟨w0, by decide +kernel⟩,
   ⟨.a, .mgt, w0, by decide +kernel⟩,
   ⟨.b, .evq, w0, by decide +kernel⟩,
   ⟨.h1, .pwe, (w0.putAll [(.mgt, F.MGT_HOST_GRANT_H1_WR, 1), (.prs, F.PRS_Uu_STATUS_ATTACHED 1, 1)]), by decide +kernel⟩⟩

theorem witness_PlateClocksStopInCompatibilityMode :
    (∃ s : State, s.compat = true) ∧
    (∃ (who : Requester) (s : State), s.compat = true ∧ s.takesPair who .clk 0x44 = true) :=
  ⟨⟨w0.putAll [(.glb, F.GLB_MODE_COMPAT, 1)], by decide +kernel⟩,
   ⟨.a, (w0.putAll [(.glb, F.GLB_MODE_COMPAT, 1)]), by decide +kernel⟩⟩

theorem witness_SemaphoreReleasesAreTheHolders :
    (∃ (who : Requester) (n : Sem) (be : BitVec 4) (s : State), s.reaches who .glb (0x104 + 16 * n.val) = true ∧ be ≠ 0 ∧ s.semHeldBy n
      (s.identOf who) = true) ∧
    (∃ (who : Requester) (n : Sem) (be : BitVec 4) (u : Up) (s : State), hostUp who = some u ∧ s.hostGrant u = false ∧ s.reaches who .glb
      (0x104 + 16 * n.val) = true ∧ be ≠ 0 ∧ s.semHeldBy n (s.identOf who) = true) ∧
    (∃ (who : Requester) (n : Sem) (be : BitVec 4) (s : State), s.reaches who .glb (0x104 + 16 * n.val) = true ∧ s.denied who (some .glb)
      (0x104 + 16 * n.val) = false ∧ be ≠ 0 ∧ s.semHeldBy n (s.identOf who) = false ∧ s.mgtSettled = true) ∧
    (∃ (who : Requester) (n : Sem) (be : BitVec 4) (s : State), s.reaches who .glb (0x104 + 16 * n.val) = true ∧ s.denied who (some .glb)
      (0x104 + 16 * n.val) = true ∧ be ≠ 0) :=
  ⟨⟨.a, 3, 1, ((fun s : State => s.put .glb (F.GLB_SEMn_OWNER_HELD 3) 1) w0), by decide +kernel⟩,
   ⟨.h0, 5, 15, 0, (((fun s : State => (s.put .glb (F.GLB_SEMn_OWNER_HELD 5) 1).put .glb (F.GLB_SEMn_OWNER_OWNER_ID 5) 2) w0).putAll
      [(.prs, F.PRS_Uu_STATUS_ATTACHED 0, 1)]), by decide +kernel⟩,
   ⟨.b, 3, 1, ((fun s : State => s.put .glb (F.GLB_SEMn_OWNER_HELD 3) 1) w0), by decide +kernel⟩,
   ⟨.h1, 31, 8, (w0.putAll [(.prs, F.PRS_Uu_STATUS_ATTACHED 1, 1)]), by decide +kernel⟩⟩

theorem witness_PeekShowsTheNextRecord :
    (∃ (who : Requester) (q : QueueIx) (r : EventRecord) (s : State), s.reaches who .evq (0x50 + 0x40 * q.val) = true ∧ (s.popRecord q).map
      (fun x => x.1) = some r ∧ s.mgtSettled = true) ∧
    (∃ (who : Requester) (q : QueueIx) (s : State), s.reaches who .evq (0x50 + 0x40 * q.val) = true ∧ s.popRecord q = none ∧ s.mgtSettled =
      true) :=
  ⟨⟨.a, 0, ⟨9, 2, 0, 6, false, false, false, false, true, 0, 0, .none⟩, ((fun s : State => s.setQueue 0
      { s.queue 0 with levels := (s.queue 0).levels.set 6 ⟨[⟨9, 2, 0, 6, false, false, false, false, true, 0, 0, .none⟩], 0⟩ }) w0),
      by decide +kernel⟩,
   ⟨.h0, 2, (w0.putAll [(.prs, F.PRS_Uu_STATUS_ATTACHED 0, 1)]), by decide +kernel⟩⟩

theorem witness_HoldTimeoutAttachesTheInstance :
    (∃ (i : Inst) (s : State), s.coreUp = true ∧ s.compat = true ∧ s.loaded = true ∧ s.instHolding i = true ∧ s.cpt[i].timer = true ∧
      (s.cptByte i 7).testBit 1 = false ∧ s.attachBarred i = false) ∧
    (∃ (i : Inst) (s : State), s.coreUp = true ∧ s.compat = true ∧ s.loaded = true ∧ s.instHolding i = true ∧ s.cpt[i].timer = true ∧
      (s.cptByte i 7).testBit 1 = true) ∧
    (∃ (i : Inst) (s : State), s.coreUp = true ∧ s.compat = true ∧ s.loaded = true ∧ s.instHolding i = true ∧ s.cpt[i].timer = true ∧
      (s.cptByte i 7).testBit 1 = false ∧ s.attachBarred i = true) :=
  ⟨⟨0, ((fun s : State => s.cptWith 0 (fun c => { c with timer := true })) ((fun s : State => s.put .cpt (fldBit F.CPT_STATUS_HOLDING 0) 1)
      ((fun s : State => s.put .glb F.GLB_MODE_COMPAT 1) w0))), by decide +kernel⟩,
   ⟨0, ((fun s : State => s.setCptByte 0 7 2) ((fun s : State => s.cptWith 0 (fun c => { c with timer := true })) ((fun s : State => s.put
      .cpt (fldBit F.CPT_STATUS_HOLDING 0) 1) ((fun s : State => s.put .glb F.GLB_MODE_COMPAT 1) w0)))), by decide +kernel⟩,
   ⟨0, (((fun s : State => s.cptWith 0 (fun c => { c with timer := true })) ((fun s : State => s.put .cpt (fldBit F.CPT_STATUS_HOLDING 0)
      1) ((fun s : State => s.put .glb F.GLB_MODE_COMPAT 1) w0))).putAll [(.cpt, F.PAGE_CTRL_EN, 0)]), by decide +kernel⟩⟩

theorem witness_CoreResetReachesAllButEntryAndMram :
    (∃ (s : State), s.committing = false) ∧
    (∃ (s : State), s.committing = false) ∧
    (∃ (s : State), s.committing = false ∧ s.locked = true) :=
  ⟨⟨w0, by decide +kernel⟩,
   ⟨w0, by decide +kernel⟩,
   ⟨w0, by decide +kernel⟩⟩

theorem witness_TypeCEventsMoveTheConnectionState :
    (∃ (p : Port) (s : State), s.ccCanRun p = true) ∧
    (∃ (p : Port) (s : State), s.ccCanRun p = true ∧ (s.tcp p).announced = false ∧ s.ccSt p = 3 ∧ (s.ccRowNow p).1 ≠ 0 ∧ (s.ccRowNow p).1 ≠
      5) ∧
    (∃ (p : Port) (s : State), s.ccCanRun p = true ∧ (s.tcp p).announced = false ∧ s.ccSt p = 3 ∧ (s.ccRowNow p).1 = 5) ∧
    (∃ (p : Port) (s : State), s.portUp p = true ∧ (s.tcp p).announced = true ∧ s.rdGone p = true ∧ s.pe p ≠ 9 ∧ s.ccSt p ≠ 7) ∧
    (∃ (p : Port) (s : State), s.ccCanRun p = true ∧ s.ccSt p = 3 ∧ (s.tcp p).announced = false ∧ (s.ccRowNow p).1 = 0) ∧
    (∃ (p : Port) (s : State), s.ccCanRun p = true ∧ s.drp p = true ∧ s.ccSt p = 2 ∧ (s.ccRowNow p).1 = 0) ∧
    (∃ (p : Port) (s : State), s.ccCanRun p = true ∧ s.drp p = true ∧ s.ccSt p = 5) ∧
    (∃ (p : Port) (s : State), s.ccCanRun p = true ∧ s.ccSt p = 6) ∧
    (∃ (p : Port) (s : State), s.ccCanRun p = true ∧ s.ccSt p = 8 ∧ ((s.ccRowNow p).1 = 1 ∨ (s.ccRowNow p).1 = 2)) ∧
    (∃ (p : Port) (s : State), s.ccCanRun p = true ∧ s.ccSt p = 8) ∧
    (∃ (p : Port) (s : State), s.ccCanRun p = true ∧ s.ccSt p = 9 ∧ s.rpSeen p = false) ∧
    (∃ (p : Port) (s : State), s.rpSeen p = true) ∧
    (∃ (p : Port) (s : State), s.ccCanRun p = true ∧ s.ccSt p = 9 ∧ 40000000 ≤ s.vbusUv10 p ∧ (3 ≤ s.get (.tcp p) F.TCP_CC_STATUS_CC1_LVL ↔
      ¬ 3 ≤ s.get (.tcp p) F.TCP_CC_STATUS_CC2_LVL)) ∧
    (∃ (p : Port) (s : State), s.portUp p = true ∧ s.ccSt p = 7 ∧ s.vbusUv10 p < 36700000 ∧ s.pe p ≠ 8 ∧ s.pe p ≠ 9 ∧ (s.pd p).snkWaitVbus =
      false) ∧
    (∃ (p : Port) (s : State), s.ccCanRun p = true ∧ s.ccSt p = 1) ∧
    (∃ (p : Port) (s : State), s.portUp p = true ∧ s.get (.tcp p) F.TCP_CC_STATUS_VCONN_ON = 1) :=
  ⟨⟨0, (w0.putAll [(.tcp 0, F.TCP_PD_POLICY_FITTED, 1)]), by decide +kernel⟩,
   ⟨0, (w0.putAll [(.tcp 0, F.TCP_PD_POLICY_FITTED, 1), (.tcp 0, F.TCP_CC_STATUS_STATE, 3), (.tcp 0, F.TCP_CC_STATUS_CC1_LVL, 2)]),
      by decide +kernel⟩,
   ⟨0, (w0.putAll [(.tcp 0, F.TCP_PD_POLICY_FITTED, 1), (.tcp 0, F.TCP_CC_STATUS_STATE, 3), (.tcp 0, F.TCP_CC_STATUS_CC1_LVL, 1), (.tcp 0,
      F.TCP_CC_STATUS_CC2_LVL, 1), (.tcp 0, F.TCP_CC_CFG_ACC_AUDIO, 1)]), by decide +kernel⟩,
   ⟨0, ((fun s : State => s.tcpWith 0 (fun c => { c with announced := true, partner := 1 })) (w0.putAll [(.tcp 0, F.TCP_CC_STATUS_STATE,
      4)])), by decide +kernel⟩,
   ⟨0, (w0.putAll [(.tcp 0, F.TCP_PD_POLICY_FITTED, 1), (.tcp 0, F.TCP_CC_STATUS_STATE, 3)]), by decide +kernel⟩,
   ⟨0, (w0.putAll [(.tcp 0, F.TCP_PD_POLICY_FITTED, 1), (.tcp 0, F.TCP_CC_STATUS_STATE, 2), (.tcp 0, F.TCP_CC_CFG_DRP, 1)]),
      by decide +kernel⟩,
   ⟨0, (w0.putAll [(.tcp 0, F.TCP_PD_POLICY_FITTED, 1), (.tcp 0, F.TCP_CC_STATUS_STATE, 5), (.tcp 0, F.TCP_CC_CFG_DRP, 1)]),
      by decide +kernel⟩,
   ⟨0, (w0.putAll [(.tcp 0, F.TCP_PD_POLICY_FITTED, 1), (.tcp 0, F.TCP_CC_STATUS_STATE, 6)]), by decide +kernel⟩,
   ⟨0, (w0.putAll [(.tcp 0, F.TCP_PD_POLICY_FITTED, 1), (.tcp 0, F.TCP_CC_STATUS_STATE, 8), (.tcp 0, F.TCP_CC_STATUS_CC1_LVL, 2)]),
      by decide +kernel⟩,
   ⟨0, (w0.putAll [(.tcp 0, F.TCP_PD_POLICY_FITTED, 1), (.tcp 0, F.TCP_CC_STATUS_STATE, 8)]), by decide +kernel⟩,
   ⟨0, (w0.putAll [(.tcp 0, F.TCP_PD_POLICY_FITTED, 1), (.tcp 0, F.TCP_CC_STATUS_STATE, 9)]), by decide +kernel⟩,
   ⟨0, (w0.putAll [(.tcp 0, F.TCP_CC_STATUS_STATE, 9), (.tcp 0, F.TCP_CC_STATUS_CC1_LVL, 3)]), by decide +kernel⟩,
   ⟨0, (w0.putAll [(.tcp 0, F.TCP_PD_POLICY_FITTED, 1), (.tcp 0, F.TCP_CC_STATUS_STATE, 9), (.tcp 0, F.TCP_CC_STATUS_CC1_LVL, 3), (.vbs 0,
      F.VBS_MEAS_VBUS, 350)]), by decide +kernel⟩,
   ⟨0, (w0.putAll [(.tcp 0, F.TCP_CC_STATUS_STATE, 7)]), by decide +kernel⟩,
   ⟨0, (w0.putAll [(.tcp 0, F.TCP_PD_POLICY_FITTED, 1), (.tcp 0, F.TCP_CC_STATUS_STATE, 1)]), by decide +kernel⟩,
   ⟨0, (w0.putAll [(.tcp 0, F.TCP_CC_STATUS_VCONN_ON, 1)]), by decide +kernel⟩⟩

theorem witness_VbusSwitchFollowsItsEvents :
    (∃ (p : Port) (s : State), s.portUp p = true ∧ s.get (.vbs p) F.VBS_STATUS_STATE = 0) ∧
    (∃ (p : Port) (s : State), s.portUp p = true ∧ s.get (.vbs p) F.VBS_STATUS_STATE = 1 ∧ nearTarget (s.get (.vbs p) F.VBS_MEAS_VREG) 5000
      = true ∧ s.get (.vbs p) F.VBS_STATUS_SAFE0V = 1) ∧
    (∃ (p : Port) (s : State), s.portUp p = true ∧ s.get (.vbs p) F.VBS_STATUS_STATE = 2 ∧ s.get (.vbs p) F.VBS_STATUS_CONSEC < s.cfg (.vbs
      p) F.VBS_FUSE_RETRIES) ∧
    (∃ (p : Port) (ma : Nat) (s : State), s.portUp p = true ∧ s.gateOn p = true ∧ 2 * (s.get (.vbs p) F.VBS_TARGET_LIMIT_MA) ≤ ma ∧ s.get
      (.vbs p) F.VBS_STATUS_CONSEC < s.cfg (.vbs p) F.VBS_FUSE_RETRIES) ∧
    (∃ (p : Port) (s : State), s.portUp p = true ∧ s.slowArmed p = true ∧ s.get (.vbs p) F.VBS_STATUS_CONSEC < s.cfg (.vbs p)
      F.VBS_FUSE_RETRIES) ∧
    (∃ (p : Port) (s : State), s.portUp p = true ∧ s.slowArmed p = true ∧ s.cfg (.vbs p) F.VBS_FUSE_RETRIES ≤ s.get (.vbs p)
      F.VBS_STATUS_CONSEC) ∧
    (∃ (p : Port) (s : State), s.portUp p = true ∧ s.get (.vbs p) F.VBS_STATUS_STATE = 3) ∧
    (∃ (p : Port) (held : Bool) (s : State), s.portUp p = true ∧ (s.vbs p).retryRun = true ∧ s.ccSt p = 12 ∧ held = true ∧ ((s.ccRowNow p).1
      = 1 ∨ (s.ccRowNow p).1 = 2 ∨ (s.ccRowNow p).1 = 4)) ∧
    (∃ (p : Port) (s : State), s.portUp p = true ∧ (s.vbs p).retryRun = true ∧ s.ccSt p = 12 ∧ (s.ccRowNow p).1 = 0) ∧
    (∃ (p : Port) (s : State), s.portUp p = true ∧ s.dschRuns p = true ∧ ((s.vbs p).safeSeen = true ∨ s.get (.vbs p) F.VBS_STATUS_SAFE0V =
      1) ∧ s.health.quarDsch.getLsbD p.val = false) ∧
    (∃ (p : Port) (s : State), s.portUp p = true ∧ s.dschRuns p = true ∧ (s.vbs p).safeSeen = false ∧ s.flag (.vbs p) F.VBS_STATUS_SAFE0V =
      false ∧ s.health.quarDsch.getLsbD p.val = false) :=
  ⟨⟨0, w0, by decide +kernel⟩,
   ⟨0, (w0.putAll [(.vbs 0, F.VBS_STATUS_STATE, 1), (.vbs 0, F.VBS_MEAS_VREG, 356), (.vbs 0, F.VBS_STATUS_SAFE0V, 1)]), by decide +kernel⟩,
   ⟨0, (w0.putAll [(.vbs 0, F.VBS_STATUS_STATE, 2)]), by decide +kernel⟩,
   ⟨0, 9000, (w0.putAll [(.vbs 0, F.VBS_STATUS_STATE, 3)]), by decide +kernel⟩,
   ⟨0, ((fun s : State => s.vbsWith 0 (fun c => { c with slowRun := true })) (w0.putAll [(.vbs 0, F.VBS_STATUS_STATE, 3)])),
      by decide +kernel⟩,
   ⟨0, ((fun s : State => s.vbsWith 0 (fun c => { c with slowRun := true })) (w0.putAll [(.vbs 0, F.VBS_STATUS_STATE, 3), (.vbs 0,
      F.VBS_STATUS_CONSEC, 15)])), by decide +kernel⟩,
   ⟨0, (w0.putAll [(.vbs 0, F.VBS_STATUS_STATE, 3), (.vbs 0, F.VBS_STATUS_CONSEC, 3)]), by decide +kernel⟩,
   ⟨0, true, ((fun s : State => s.vbsWith 0 (fun c => { c with retryRun := true })) (w0.putAll [(.tcp 0, F.TCP_CC_STATUS_STATE, 12), (.tcp
      0, F.TCP_CC_STATUS_CC1_LVL, 2)])), by decide +kernel⟩,
   ⟨0, ((fun s : State => s.vbsWith 0 (fun c => { c with retryRun := true })) (w0.putAll [(.tcp 0, F.TCP_CC_STATUS_STATE, 12)])),
      by decide +kernel⟩,
   ⟨0, (w0.putAll [(.vbs 0, F.VBS_STATUS_STATE, 5), (.vbs 0, F.VBS_STATUS_DSCH_ON, 1), (.vbs 0, F.VBS_STATUS_SAFE0V, 1)]),
      by decide +kernel⟩,
   ⟨0, (w0.putAll [(.vbs 0, F.VBS_STATUS_STATE, 5), (.vbs 0, F.VBS_STATUS_DSCH_ON, 1)]), by decide +kernel⟩⟩

theorem witness_PdEnginesAnswerRequestsForInformation :
    (∃ (p : Port) (msg : PdMsg) (s : State), s.pdHears p = true ∧ msg.sopPrime = false ∧ msg.sopDouble = false ∧ msg.unchunked = false ∧
      s.pdReady p = true) ∧
    (∃ (p : Port) (msg : PdMsg) (s : State), s.pdHears p = true ∧ msg.sopPrime = false ∧ msg.sopDouble = false ∧ msg.unchunked = false ∧
      s.pdReady p = true) ∧
    (∃ (p : Port) (msg : PdMsg) (s : State), s.pdHears p = true ∧ msg.sopPrime = false ∧ msg.sopDouble = false ∧ msg.unchunked = false ∧
      s.pdReady p = true ∧ s.get (.tcp p) F.TCP_PD_STATUS_SPEC_REV = 2 ∧ (s.pd p).revKnown = true) ∧
    (∃ (p : Port) (msg : PdMsg) (s : State), s.pdHears p = true ∧ msg.sopPrime = false ∧ msg.sopDouble = false ∧ msg.unchunked = false ∧
      s.pdReady p = true ∧ s.ppsNow p = true) ∧
    (∃ (p : Port) (msg : PdMsg) (s : State), s.pdHears p = true ∧ msg.sopPrime = false ∧ msg.sopDouble = false ∧ msg.unchunked = false ∧
      s.pdReady p = true ∧ s.ppsNow p = false ∧ s.get (.tcp p) F.TCP_PD_STATUS_SPEC_REV = 2 ∧ (s.pd p).revKnown = true) ∧
    (∃ (p : Port) (msg : PdMsg) (s : State), s.pdHears p = true ∧ msg.sopPrime = false ∧ msg.sopDouble = false ∧ msg.unchunked = false ∧
      s.pdReady p = true ∧ s.get (.tcp p) F.TCP_PD_STATUS_SPEC_REV = 2 ∧ (s.pd p).revKnown = true) ∧
    (∃ (p : Port) (msg : PdMsg) (s : State), s.pdHears p = true ∧ msg.sopPrime = false ∧ msg.sopDouble = false ∧ msg.unchunked = false ∧
      s.pdReady p = true) ∧
    (∃ (p : Port) (msg : PdMsg) (s : State), s.pdHears p = true ∧ msg.sopPrime = false ∧ msg.sopDouble = false ∧ msg.unchunked = false ∧
      s.pdReady p = true) ∧
    (∃ (p : Port) (msg : PdMsg) (s : State), s.pdHears p = true ∧ msg.sopPrime = false ∧ msg.sopDouble = false ∧ msg.unchunked = false ∧
      s.pdReady p = true ∧ s.get (.tcp p) F.TCP_PD_STATUS_SPEC_REV = 2 ∧ (s.pd p).revKnown = true) ∧
    (∃ (p : Port) (msg : PdMsg) (s : State), s.pdHears p = true ∧ msg.sopPrime = false ∧ msg.sopDouble = false ∧ msg.unchunked = false) ∧
    (∃ (p : Port) (msg : PdMsg) (s : State), s.pdHears p = true ∧ msg.sopPrime = false ∧ msg.sopDouble = false ∧ msg.unchunked = false) ∧
    (∃ (p : Port) (msg : PdMsg) (s : State), s.pdHears p = true ∧ msg.sopPrime = false ∧ msg.sopDouble = false ∧ msg.unchunked = false ∧
      s.pdReady p = true ∧ (msg.objs.getD 0 0).toNat / 2 ^ 28 = 5 ∧ (s.present p).1 = 5000) ∧
    (∃ (p : Port) (msg : PdMsg) (s : State), s.pdHears p = true ∧ msg.sopPrime = false ∧ msg.sopDouble = false ∧ msg.unchunked = false ∧
      s.pdReady p = true ∧ s.get (.tcp p) F.TCP_PD_STATUS_SPEC_REV = 2 ∧ (s.pd p).revKnown = true) ∧
    (∃ (p : Port) (msg : PdMsg) (s : State), s.pdHears p = true ∧ msg.sopPrime = false ∧ msg.sopDouble = false ∧ msg.unchunked = false ∧
      s.pdReady p = true ∧ s.get (.tcp p) F.TCP_PD_STATUS_SPEC_REV = 2 ∧ (s.pd p).revKnown = true ∧ pdListed msg.cls.toNat msg.num.toNat
      ((msg.objs.getD 0 0).toNat % 256) = true ∧ (s.pd p).want = .none ∧ ¬ (msg.cls = 0 ∧ msg.num = 16) ∧ (¬ (msg.cls = 1 ∧ (msg.num = 4
      ∨ msg.num = 5)))) ∧
    (∃ (u : Up) (msg : PdMsg) (s : State), s.upHears u msg = true ∧ msg.unchunked = false ∧ s.upWant[u] = .none) ∧
    (∃ (u : Up) (msg : PdMsg) (s : State), s.upHears u msg = true ∧ msg.unchunked = false ∧ s.upWant[u] = .none) ∧
    (∃ (u : Up) (msg : PdMsg) (s : State), s.upHears u msg = true ∧ msg.unchunked = false ∧ s.upWant[u] = .none) ∧
    (∃ (u : Up) (msg : PdMsg) (s : State), s.upHears u msg = true ∧ msg.unchunked = false ∧ s.upWant[u] = .none) ∧
    (∃ (u : Up) (msg : PdMsg) (s : State), s.upHears u msg = true ∧ msg.unchunked = false ∧ s.upWant[u] = .none) ∧
    (∃ (u : Up) (msg : PdMsg) (s : State), s.upHears u msg = true ∧ msg.unchunked = false ∧ s.upWant[u] = .none) ∧
    (∃ (u : Up) (msg : PdMsg) (s : State), s.upHears u msg = true ∧ msg.unchunked = false ∧ s.upWant[u] = .none) ∧
    (∃ (u : Up) (msg : PdMsg) (s : State), s.upHears u msg = true) ∧
    (∃ (u : Up) (msg : PdMsg) (s : State), s.upHears u msg = true ∧ msg.unchunked = false ∧ s.upWant[u] = .none) ∧
    (∃ (u : Up) (msg : PdMsg) (s : State), s.upHears u msg = true ∧ msg.unchunked = false ∧ s.upWant[u] = .none) :=
  ⟨⟨0, ⟨false, false, false, false, false, 8, 0, []⟩, (w0.putAll [(.tcp 0, F.TCP_CC_STATUS_STATE, 4), (.tcp 0, F.TCP_PD_STATUS_PE_STATE,
      5), (.tcp 0, F.TCP_PD_STATUS_SPEC_REV, 2)]), by decide +kernel⟩,
   ⟨0, ⟨false, false, false, false, false, 10, 0, []⟩, (w0.putAll [(.tcp 0, F.TCP_CC_STATUS_STATE, 4), (.tcp 0, F.TCP_PD_STATUS_PE_STATE,
      5), (.tcp 0, F.TCP_PD_STATUS_SPEC_REV, 2)]), by decide +kernel⟩,
   ⟨0, ⟨false, false, false, false, false, 18, 0, []⟩, ((fun s : State => s.pdWith 0 (fun d => { d with revKnown := true })) (w0.putAll
      [(.tcp 0, F.TCP_CC_STATUS_STATE, 4), (.tcp 0, F.TCP_PD_STATUS_PE_STATE, 5), (.tcp 0, F.TCP_PD_STATUS_SPEC_REV, 2)])),
      by decide +kernel⟩,
   ⟨0, ⟨false, false, false, false, false, 20, 0, []⟩, (w0.putAll [(.tcp 0, F.TCP_CC_STATUS_STATE, 4), (.tcp 0, F.TCP_PD_STATUS_PE_STATE,
      5), (.tcp 0, F.TCP_PD_STATUS_SPEC_REV, 2), (.tcp 0, F.TCP_PD_STATUS_CONTRACT, 1), (.tcp 0, F.TCP_CONTRACT_TYPE, 2)]),
      by decide +kernel⟩,
   ⟨0, ⟨false, false, false, false, false, 20, 0, []⟩, ((fun s : State => s.pdWith 0 (fun d => { d with revKnown := true })) (w0.putAll
      [(.tcp 0, F.TCP_CC_STATUS_STATE, 4), (.tcp 0, F.TCP_PD_STATUS_PE_STATE, 5), (.tcp 0, F.TCP_PD_STATUS_SPEC_REV, 2)])),
      by decide +kernel⟩,
   ⟨0, ⟨false, false, false, false, false, 17, 0, []⟩, ((fun s : State => s.pdWith 0 (fun d => { d with revKnown := true })) (w0.putAll
      [(.tcp 0, F.TCP_CC_STATUS_STATE, 4), (.tcp 0, F.TCP_PD_STATUS_PE_STATE, 5), (.tcp 0, F.TCP_PD_STATUS_SPEC_REV, 2)])),
      by decide +kernel⟩,
   ⟨0, ⟨false, false, false, false, false, 23, 0, []⟩, (w0.putAll [(.tcp 0, F.TCP_CC_STATUS_STATE, 4), (.tcp 0, F.TCP_PD_STATUS_PE_STATE,
      5), (.tcp 0, F.TCP_PD_STATUS_SPEC_REV, 2)]), by decide +kernel⟩,
   ⟨0, ⟨false, false, false, false, false, 24, 0, []⟩, (w0.putAll [(.tcp 0, F.TCP_CC_STATUS_STATE, 4), (.tcp 0, F.TCP_PD_STATUS_PE_STATE,
      5), (.tcp 0, F.TCP_PD_STATUS_SPEC_REV, 2)]), by decide +kernel⟩,
   ⟨0, ⟨false, false, false, false, false, 6, 2, []⟩, ((fun s : State => s.pdWith 0 (fun d => { d with revKnown := true })) (w0.putAll
      [(.tcp 0, F.TCP_CC_STATUS_STATE, 4), (.tcp 0, F.TCP_PD_STATUS_PE_STATE, 5), (.tcp 0, F.TCP_PD_STATUS_SPEC_REV, 2)])),
      by decide +kernel⟩,
   ⟨0, ⟨false, false, false, false, false, 5, 0, []⟩, (w0.putAll [(.tcp 0, F.TCP_CC_STATUS_STATE, 4), (.tcp 0, F.TCP_PD_STATUS_PE_STATE,
      5), (.tcp 0, F.TCP_PD_STATUS_SPEC_REV, 2)]), by decide +kernel⟩,
   ⟨0, ⟨false, false, false, false, false, 6, 1, []⟩, (w0.putAll [(.tcp 0, F.TCP_CC_STATUS_STATE, 4), (.tcp 0, F.TCP_PD_STATUS_PE_STATE,
      5), (.tcp 0, F.TCP_PD_STATUS_SPEC_REV, 2)]), by decide +kernel⟩,
   ⟨0, ⟨false, false, false, false, false, 3, 1, [0x50000000]⟩, (w0.putAll [(.tcp 0, F.TCP_CC_STATUS_STATE, 4), (.tcp 0,
      F.TCP_PD_STATUS_PE_STATE, 5), (.tcp 0, F.TCP_PD_STATUS_SPEC_REV, 2)]), by decide +kernel⟩,
   ⟨0, ⟨false, false, false, false, false, 19, 0, []⟩, ((fun s : State => s.pdWith 0 (fun d => { d with revKnown := true })) (w0.putAll
      [(.tcp 0, F.TCP_CC_STATUS_STATE, 4), (.tcp 0, F.TCP_PD_STATUS_PE_STATE, 5), (.tcp 0, F.TCP_PD_STATUS_SPEC_REV, 2)])),
      by decide +kernel⟩,
   ⟨0, ⟨false, false, false, false, false, 22, 0, []⟩, ((fun s : State => s.pdWith 0 (fun d => { d with revKnown := true })) (w0.putAll
      [(.tcp 0, F.TCP_CC_STATUS_STATE, 4), (.tcp 0, F.TCP_PD_STATUS_PE_STATE, 5), (.tcp 0, F.TCP_PD_STATUS_SPEC_REV, 2)])),
      by decide +kernel⟩,
   ⟨0, ⟨false, false, false, false, false, 9, 0, []⟩, (w0.putAll [(.ups 0, F.UPS_CC_STATUS_ATTACHED, 1)]), by decide +kernel⟩,
   ⟨0, ⟨false, false, false, false, false, 9, 0, []⟩, (w0.putAll [(.ups 0, F.UPS_CC_STATUS_ATTACHED, 1)]), by decide +kernel⟩,
   ⟨0, ⟨false, false, false, false, false, 9, 0, []⟩, (w0.putAll [(.ups 0, F.UPS_CC_STATUS_ATTACHED, 1)]), by decide +kernel⟩,
   ⟨0, ⟨false, false, false, false, false, 9, 0, []⟩, (w0.putAll [(.ups 0, F.UPS_CC_STATUS_ATTACHED, 1)]), by decide +kernel⟩,
   ⟨0, ⟨false, false, false, false, false, 9, 0, []⟩, (w0.putAll [(.ups 0, F.UPS_CC_STATUS_ATTACHED, 1)]), by decide +kernel⟩,
   ⟨0, ⟨false, false, false, false, false, 9, 0, []⟩, (w0.putAll [(.ups 0, F.UPS_CC_STATUS_ATTACHED, 1)]), by decide +kernel⟩,
   ⟨0, ⟨false, false, false, false, false, 9, 0, []⟩, (w0.putAll [(.ups 0, F.UPS_CC_STATUS_ATTACHED, 1)]), by decide +kernel⟩,
   ⟨0, ⟨false, false, false, false, false, 9, 0, []⟩, (w0.putAll [(.ups 0, F.UPS_CC_STATUS_ATTACHED, 1)]), by decide +kernel⟩,
   ⟨0, ⟨false, false, false, false, false, 9, 0, []⟩, (w0.putAll [(.ups 0, F.UPS_CC_STATUS_ATTACHED, 1)]), by decide +kernel⟩,
   ⟨0, ⟨false, false, false, false, false, 9, 0, []⟩, (w0.putAll [(.ups 0, F.UPS_CC_STATUS_ATTACHED, 1)]), by decide +kernel⟩⟩

theorem witness_PdEngineNegotiatesPower :
    (∃ (p : Port) (msg : PdMsg) (s : State), s.pdHears p = true ∧ msg.sopPrime = false ∧ msg.sopDouble = false ∧ msg.unchunked = false ∧
      s.isSource p = true ∧ (s.pe p = 3 ∨ (s.pe p = 5 ∧ (s.pd p).want = .none)) ∧ msg.epr = s.flag (.tcp p) F.TCP_PD_STATUS_EPR_MODE ∧
      s.readRdo p (msg.objs.getD 0 0) = none ∧ s.get (.tcp p) F.TCP_PD_STATUS_CONTRACT = 1) ∧
    (∃ (p : Port) (msg : PdMsg) (s : State), s.pdHears p = true ∧ msg.sopPrime = false ∧ msg.sopDouble = false ∧ msg.unchunked = false ∧
      s.isSource p = true ∧ (s.pe p = 3 ∨ (s.pe p = 5 ∧ (s.pd p).want = .none)) ∧ msg.epr = s.flag (.tcp p) F.TCP_PD_STATUS_EPR_MODE ∧
      s.noRaise p (msg.objs.getD 0 0) = true) ∧
    (∃ (p : Port) (msg : PdMsg) (s : State), s.pdHears p = true ∧ msg.sopPrime = false ∧ msg.sopDouble = false ∧ msg.unchunked = false ∧
      s.pdReady p = true ∧ s.isSource p = true) ∧
    (∃ (p : Port) (msg : PdMsg) (s : State), s.pdHears p = true ∧ msg.sopPrime = false ∧ msg.sopDouble = false ∧ msg.unchunked = false ∧
      s.pdReady p = true ∧ s.eprUsable p = false ∧ s.get (.tcp p) F.TCP_PD_STATUS_SPEC_REV = 2 ∧ (s.pd p).revKnown = true) ∧
    (∃ (p : Port) (msg : PdMsg) (s : State), s.pdHears p = true ∧ msg.sopPrime = false ∧ msg.sopDouble = false ∧ msg.unchunked = false ∧
      s.isSource p = false ∧ (s.pe p = 6 ∨ (s.pe p = 7 ∧ (s.pd p).want = .none))) ∧
    (∃ (p : Port) (msg : PdMsg) (s : State), s.pdHears p = true ∧ msg.sopPrime = false ∧ msg.sopDouble = false ∧ msg.unchunked = false ∧
      (s.pd p).flight.map (fun o => (o.sopPrime, o.kind)) = some (false, .sourceCaps) ∧ s.get (.tcp p) F.TCP_PD_STATUS_EPR_MODE = 0 ∧
      s.isSource p = true ∧ (s.pd p).queued = [] ∧ (s.pe p = 2 ∨ s.pe p = 5)) ∧
    (∃ (p : Port) (msg : PdMsg) (s : State), s.pdHears p = true ∧ msg.sopPrime = false ∧ msg.sopDouble = false ∧ msg.unchunked = false ∧
      (s.pd p).flight.isSome = true ∧ (s.pd p).resends < 2) ∧
    (∃ (p : Port) (msg : PdMsg) (s : State), s.pdHears p = true ∧ msg.sopPrime = false ∧ msg.sopDouble = false ∧ msg.unchunked = false ∧
      s.pdReady p = true ∧ s.isSource p = true ∧ s.pe p = 5 ∧ (msg.objs.getD 0 0).toNat / 2 ^ 24 = 1 ∧ s.get (.tcp p)
      F.TCP_PD_STATUS_CONTRACT = 1 ∧ (s.get (.tcp p) F.TCP_CONTRACT_TYPE = 1 ∨ s.get (.tcp p) F.TCP_CONTRACT_TYPE = 2) ∧ s.get (.tcp p)
      F.TCP_PD_STATUS_EPR_MODE = 0 ∧ s.eprCable p = false) ∧
    (∃ (p : Port) (msg : PdMsg) (s : State), s.pdHears p = true ∧ msg.sopPrime = false ∧ msg.sopDouble = false ∧ msg.unchunked = false ∧
      s.pdReady p = true ∧ s.isSource p = true ∧ s.get (.tcp p) F.TCP_PD_STATUS_EPR_MODE = 1) ∧
    (∃ (p : Port) (msg : PdMsg) (s : State), s.pdHears p = true ∧ msg.sopPrime = false ∧ msg.sopDouble = false ∧ msg.unchunked = false ∧
      s.pdReady p = true ∧ vdmStructured (msg.objs.getD 0 0) = true ∧ vdmType (msg.objs.getD 0 0) = 0 ∧ vdmCmd (msg.objs.getD 0 0) = 1) :=
  ⟨⟨0, ⟨false, false, false, false, false, 2, 1, []⟩, (w0.putAll [(.tcp 0, F.TCP_CC_STATUS_STATE, 4), (.tcp 0, F.TCP_PD_STATUS_PE_STATE,
      5), (.tcp 0, F.TCP_PD_STATUS_SPEC_REV, 2), (.tcp 0, F.TCP_PD_STATUS_CONTRACT, 1)]), by decide +kernel⟩,
   ⟨0, ⟨false, false, false, false, false, 2, 1, [0x1000280A]⟩, ((fun s : State => s.pdWith 0 (fun d => { d with offer := [0x0001912C] }))
      (w0.putAll [(.tcp 0, F.TCP_CC_STATUS_STATE, 4), (.tcp 0, F.TCP_PD_STATUS_PE_STATE, 5), (.tcp 0, F.TCP_PD_STATUS_SPEC_REV, 2)])),
      by decide +kernel⟩,
   ⟨0, ⟨false, false, false, false, false, 7, 0, []⟩, (w0.putAll [(.tcp 0, F.TCP_CC_STATUS_STATE, 4), (.tcp 0, F.TCP_PD_STATUS_PE_STATE,
      5), (.tcp 0, F.TCP_PD_STATUS_SPEC_REV, 2)]), by decide +kernel⟩,
   ⟨0, ⟨false, false, false, false, false, 16, 2, []⟩, ((fun s : State => s.pdWith 0 (fun d => { d with revKnown := true })) (w0.putAll
      [(.tcp 0, F.TCP_CC_STATUS_STATE, 4), (.tcp 0, F.TCP_PD_STATUS_PE_STATE, 5), (.tcp 0, F.TCP_PD_STATUS_SPEC_REV, 2)])),
      by decide +kernel⟩,
   ⟨0, ⟨false, false, false, false, false, 1, 1, []⟩, (w0.putAll [(.tcp 0, F.TCP_CC_STATUS_STATE, 7), (.tcp 0, F.TCP_PD_STATUS_PE_STATE,
      7), (.tcp 0, F.TCP_PD_STATUS_SPEC_REV, 2), (.tcp 0, F.TCP_PD_STATUS_POWER_ROLE, 1), (.tcp 0, F.TCP_PD_STATUS_DATA_ROLE, 1)]),
      by decide +kernel⟩,
   ⟨0, ⟨false, false, false, false, false, 1, 0, []⟩, ((fun s : State => s.pdWith 0 (fun d =>
      { d with flight := some ⟨false, .sourceCaps, [], []⟩ })) (w0.putAll [(.tcp 0, F.TCP_CC_STATUS_STATE, 4), (.tcp 0,
      F.TCP_PD_STATUS_PE_STATE, 5), (.tcp 0, F.TCP_PD_STATUS_SPEC_REV, 2)])), by decide +kernel⟩,
   ⟨0, ⟨false, false, false, false, false, 1, 0, []⟩, ((fun s : State => s.pdWith 0 (fun d =>
      { d with flight := some ⟨false, .sourceCaps, [], []⟩ })) (w0.putAll [(.tcp 0, F.TCP_CC_STATUS_STATE, 4), (.tcp 0,
      F.TCP_PD_STATUS_PE_STATE, 5), (.tcp 0, F.TCP_PD_STATUS_SPEC_REV, 2)])), by decide +kernel⟩,
   ⟨0, ⟨false, false, false, false, false, 10, 1, [0x01000000]⟩, (w0.putAll [(.tcp 0, F.TCP_CC_STATUS_STATE, 4), (.tcp 0,
      F.TCP_PD_STATUS_PE_STATE, 5), (.tcp 0, F.TCP_PD_STATUS_SPEC_REV, 2), (.tcp 0, F.TCP_PD_STATUS_CONTRACT, 1), (.tcp 0,
      F.TCP_CONTRACT_TYPE, 1)]), by decide +kernel⟩,
   ⟨0, ⟨false, false, false, false, false, 16, 2, []⟩, (w0.putAll [(.tcp 0, F.TCP_CC_STATUS_STATE, 4), (.tcp 0, F.TCP_PD_STATUS_PE_STATE,
      5), (.tcp 0, F.TCP_PD_STATUS_SPEC_REV, 2), (.tcp 0, F.TCP_PD_STATUS_EPR_MODE, 1)]), by decide +kernel⟩,
   ⟨0, ⟨false, false, false, false, false, 15, 1, [0xFF008001]⟩, (w0.putAll [(.tcp 0, F.TCP_CC_STATUS_STATE, 4), (.tcp 0,
      F.TCP_PD_STATUS_PE_STATE, 5), (.tcp 0, F.TCP_PD_STATUS_SPEC_REV, 2)]), by decide +kernel⟩⟩

theorem witness_PdEngineRunsSwapsAndResets :
    (∃ (p : Port) (msg : PdMsg) (s : State), s.pdHears p = true ∧ msg.sopPrime = false ∧ msg.sopDouble = false ∧ msg.unchunked = false ∧
      s.pdReady p = true ∧ s.get (.tcp p) F.TCP_PD_STATUS_DATA_ROLE = 0) ∧
    (∃ (p : Port) (msg : PdMsg) (s : State), s.pdHears p = true ∧ msg.sopPrime = false ∧ msg.sopDouble = false ∧ msg.unchunked = false ∧
      s.pdReady p = true ∧ s.get (.tcp p) F.TCP_PD_STATUS_DATA_ROLE = 1) ∧
    (∃ (p : Port) (msg : PdMsg) (s : State), s.pdHears p = true ∧ msg.sopPrime = false ∧ msg.sopDouble = false ∧ msg.unchunked = false ∧
      s.pdReady p = true ∧ s.isSource p = true ∧ isFullPort p = true ∧ s.compat = false ∧ s.get (.tcp p) F.TCP_PD_STATUS_VCONN_SRC = 1 ∧
      s.get (.tcp p) F.TCP_PD_POLICY_ACCEPT_VCS = 1) ∧
    (∃ (p : Port) (msg : PdMsg) (s : State), s.pdHears p = true ∧ msg.sopPrime = false ∧ msg.sopDouble = false ∧ msg.unchunked = false ∧
      s.pdReady p = true ∧ (s.isSource p = false ∨ isFullPort p = false)) ∧
    (∃ (p : Port) (msg : PdMsg) (s : State), s.pdHears p = true ∧ msg.sopPrime = false ∧ msg.sopDouble = false ∧ msg.unchunked = false ∧
      s.pe p ≠ 4 ∧ (s.pd p).swapPower = false ∧ s.isSource p = false) ∧
    (∃ (p : Port) (msg : PdMsg) (s : State), s.pdHears p = true ∧ msg.sopPrime = false ∧ msg.sopDouble = false ∧ msg.unchunked = false ∧
      s.pe p ≠ 4 ∧ (s.pd p).swapPower = false ∧ s.isSource p = true) ∧
    (∃ (p : Port) (msg : PdMsg) (s : State), s.pdHears p = true ∧ msg.sopPrime = false ∧ msg.sopDouble = false ∧ msg.unchunked = false ∧
      s.get (.tcp p) F.TCP_PD_STATUS_HR_CONSEC < 2 ∧ s.isSource p = true ∧ s.pe p ≠ 8 ∧ s.pe p ≠ 9) ∧
    (∃ (p : Port) (msg : PdMsg) (s : State), s.pdHears p = true ∧ msg.sopPrime = false ∧ msg.sopDouble = false ∧ msg.unchunked = false ∧ 2 ≤
      s.get (.tcp p) F.TCP_PD_STATUS_HR_CONSEC) ∧
    (∃ (p : Port) (msg : PdMsg) (s : State), s.pdHears p = true ∧ msg.sopPrime = false ∧ msg.sopDouble = false ∧ msg.unchunked = false ∧
      (s.pd p).want = .acceptAsSink) ∧
    (∃ (p : Port) (msg : PdMsg) (s : State), s.pdHears p = true ∧ msg.sopPrime = false ∧ msg.sopDouble = false ∧ msg.unchunked = false ∧
      (s.pd p).want = .swapAnswer ∧ s.pe p = 8) ∧
    (∃ (p : Port) (msg : PdMsg) (s : State), s.pdHears p = true ∧ msg.sopPrime = false ∧ msg.sopDouble = false ∧ msg.unchunked = false ∧
      (s.pd p).want = .swapAnswer ∧ s.pe p = 8 ∧ (s.pd p).prTries < 2) ∧
    (∃ (p : Port) (msg : PdMsg) (s : State), s.pdHears p = true ∧ msg.sopPrime = false ∧ msg.sopDouble = false ∧ msg.unchunked = false ∧
      (s.pd p).want = .swapAnswer ∧ s.pe p = 8 ∧ (s.pd p).prTries < 2) ∧
    (∃ (p : Port) (msg : PdMsg) (s : State), s.pdHears p = true ∧ msg.sopPrime = false ∧ msg.sopDouble = false ∧ msg.unchunked = false ∧
      (s.pd p).want = .psRdy ∧ (s.pe p = 6 ∨ s.pe p = 7)) :=
  ⟨⟨0, ⟨false, false, false, false, false, 9, 0, []⟩, (w0.putAll [(.tcp 0, F.TCP_CC_STATUS_STATE, 4), (.tcp 0, F.TCP_PD_STATUS_PE_STATE,
      5), (.tcp 0, F.TCP_PD_STATUS_SPEC_REV, 2)]), by decide +kernel⟩,
   ⟨0, ⟨false, false, false, false, false, 9, 0, []⟩, (w0.putAll [(.tcp 0, F.TCP_CC_STATUS_STATE, 4), (.tcp 0, F.TCP_PD_STATUS_PE_STATE,
      5), (.tcp 0, F.TCP_PD_STATUS_SPEC_REV, 2), (.tcp 0, F.TCP_PD_STATUS_DATA_ROLE, 1)]), by decide +kernel⟩,
   ⟨0, ⟨false, false, false, false, false, 11, 0, []⟩, (w0.putAll [(.tcp 0, F.TCP_CC_STATUS_STATE, 4), (.tcp 0, F.TCP_PD_STATUS_PE_STATE,
      5), (.tcp 0, F.TCP_PD_STATUS_SPEC_REV, 2), (.tcp 0, F.TCP_PD_STATUS_VCONN_SRC, 1), (.tcp 0, F.TCP_PD_POLICY_ACCEPT_VCS, 1)]),
      by decide +kernel⟩,
   ⟨0, ⟨false, false, false, false, false, 11, 0, []⟩, (w0.putAll [(.tcp 0, F.TCP_CC_STATUS_STATE, 7), (.tcp 0, F.TCP_PD_STATUS_PE_STATE,
      7), (.tcp 0, F.TCP_PD_STATUS_SPEC_REV, 2), (.tcp 0, F.TCP_PD_STATUS_POWER_ROLE, 1), (.tcp 0, F.TCP_PD_STATUS_DATA_ROLE, 1)]),
      by decide +kernel⟩,
   ⟨0, ⟨false, false, false, false, false, 13, 0, []⟩, (w0.putAll [(.tcp 0, F.TCP_CC_STATUS_STATE, 7), (.tcp 0, F.TCP_PD_STATUS_PE_STATE,
      7), (.tcp 0, F.TCP_PD_STATUS_SPEC_REV, 2), (.tcp 0, F.TCP_PD_STATUS_POWER_ROLE, 1), (.tcp 0, F.TCP_PD_STATUS_DATA_ROLE, 1)]),
      by decide +kernel⟩,
   ⟨0, ⟨false, false, false, false, false, 13, 0, []⟩, (w0.putAll [(.tcp 0, F.TCP_CC_STATUS_STATE, 4), (.tcp 0, F.TCP_PD_STATUS_PE_STATE,
      5), (.tcp 0, F.TCP_PD_STATUS_SPEC_REV, 2)]), by decide +kernel⟩,
   ⟨0, ⟨false, false, false, false, false, 0, 0, []⟩, (w0.putAll [(.tcp 0, F.TCP_CC_STATUS_STATE, 4), (.tcp 0, F.TCP_PD_STATUS_PE_STATE,
      5), (.tcp 0, F.TCP_PD_STATUS_SPEC_REV, 2)]), by decide +kernel⟩,
   ⟨0, ⟨false, false, false, false, false, 0, 0, []⟩, (w0.putAll [(.tcp 0, F.TCP_CC_STATUS_STATE, 4), (.tcp 0, F.TCP_PD_STATUS_PE_STATE,
      5), (.tcp 0, F.TCP_PD_STATUS_SPEC_REV, 2), (.tcp 0, F.TCP_PD_STATUS_HR_CONSEC, 2)]), by decide +kernel⟩,
   ⟨0, ⟨false, false, false, false, false, 3, 0, []⟩, ((fun s : State => s.pdWith 0 (fun d => { d with want := .acceptAsSink })) (w0.putAll
      [(.tcp 0, F.TCP_CC_STATUS_STATE, 7), (.tcp 0, F.TCP_PD_STATUS_PE_STATE, 7), (.tcp 0, F.TCP_PD_STATUS_SPEC_REV, 2), (.tcp 0,
      F.TCP_PD_STATUS_POWER_ROLE, 1), (.tcp 0, F.TCP_PD_STATUS_DATA_ROLE, 1)])), by decide +kernel⟩,
   ⟨0, ⟨false, false, false, false, false, 3, 0, []⟩, ((fun s : State => s.pdWith 0 (fun d => { d with want := .swapAnswer })) (w0.putAll
      [(.tcp 0, F.TCP_CC_STATUS_STATE, 7), (.tcp 0, F.TCP_PD_STATUS_PE_STATE, 7), (.tcp 0, F.TCP_PD_STATUS_SPEC_REV, 2), (.tcp 0,
      F.TCP_PD_STATUS_POWER_ROLE, 1), (.tcp 0, F.TCP_PD_STATUS_DATA_ROLE, 1), (.tcp 0, F.TCP_PD_STATUS_PE_STATE, 8)])),
      by decide +kernel⟩,
   ⟨0, ⟨false, false, false, false, false, 4, 0, []⟩, ((fun s : State => s.pdWith 0 (fun d => { d with want := .swapAnswer })) (w0.putAll
      [(.tcp 0, F.TCP_CC_STATUS_STATE, 7), (.tcp 0, F.TCP_PD_STATUS_PE_STATE, 7), (.tcp 0, F.TCP_PD_STATUS_SPEC_REV, 2), (.tcp 0,
      F.TCP_PD_STATUS_POWER_ROLE, 1), (.tcp 0, F.TCP_PD_STATUS_DATA_ROLE, 1), (.tcp 0, F.TCP_PD_STATUS_PE_STATE, 8)])),
      by decide +kernel⟩,
   ⟨0, ⟨false, false, false, false, false, 12, 0, []⟩, ((fun s : State => s.pdWith 0 (fun d => { d with want := .swapAnswer })) (w0.putAll
      [(.tcp 0, F.TCP_CC_STATUS_STATE, 7), (.tcp 0, F.TCP_PD_STATUS_PE_STATE, 7), (.tcp 0, F.TCP_PD_STATUS_SPEC_REV, 2), (.tcp 0,
      F.TCP_PD_STATUS_POWER_ROLE, 1), (.tcp 0, F.TCP_PD_STATUS_DATA_ROLE, 1), (.tcp 0, F.TCP_PD_STATUS_PE_STATE, 8)])),
      by decide +kernel⟩,
   ⟨0, ⟨false, false, false, false, false, 6, 0, []⟩, ((fun s : State => s.pdWith 0 (fun d => { d with want := .psRdy })) (w0.putAll [(.tcp
      0, F.TCP_CC_STATUS_STATE, 7), (.tcp 0, F.TCP_PD_STATUS_PE_STATE, 7), (.tcp 0, F.TCP_PD_STATUS_SPEC_REV, 2), (.tcp 0,
      F.TCP_PD_STATUS_POWER_ROLE, 1), (.tcp 0, F.TCP_PD_STATUS_DATA_ROLE, 1)])), by decide +kernel⟩⟩

theorem witness_PdTimersOfASource :
    (∃ (p : Port) (s : State), s.portUp p = true ∧ s.pe p = 1 ∧ s.vbusOn p = true) ∧
    (∃ (p : Port) (s : State), s.portUp p = true ∧ s.pe p = 2 ∧ (s.pd p).capsSent < 50) ∧
    (∃ (p : Port) (s : State), s.portUp p = true ∧ (s.pd p).want = .request ∧ (s.pd p).revokeWait = false) ∧
    (∃ (p : Port) (s : State), s.portUp p = true ∧ (s.pd p).want = .softAccept ∧ s.get (.tcp p) F.TCP_PD_STATUS_HR_CONSEC < 2 ∧ s.isSource p
      = true ∧ s.pe p = 12) ∧
    (∃ (p : Port) (s : State), s.portUp p = true ∧ s.pe p = 4 ∧ (s.pd p).accepted = true ∧ (s.pd p).transRun = false ∧ s.get (.vbs p)
      F.VBS_STATUS_STATE = 3 ∧ (s.pd p).nextMv < 65536 ∧ (s.pd p).nextMv ≠ (s.present p).1) ∧
    (∃ (p : Port) (s : State), s.portUp p = true ∧ s.pe p = 4 ∧ (s.pd p).transRun = true ∧ s.get (.tcp p) F.TCP_PD_STATUS_HR_CONSEC < 2 ∧
      s.isSource p = true) ∧
    (∃ (p : Port) (s : State), s.portUp p = true ∧ s.pe p = 3 ∧ (s.pd p).req.isSome = true ∧ (s.pd p).waitSent = false) ∧
    (∃ (p : Port) (s : State), s.portUp p = true ∧ ((s.pd p).waitSent = true ∨ (s.pd p).raiseGranted = true) ∧ s.pe p ≠ 4) ∧
    (∃ (p : Port) (s : State), s.portUp p = true ∧ s.ppsNow p = true ∧ s.get (.tcp p) F.TCP_PD_STATUS_HR_CONSEC < 2 ∧ s.pe p = 5) ∧
    (∃ (p : Port) (s : State), s.portUp p = true ∧ s.get (.tcp p) F.TCP_PD_STATUS_EPR_MODE = 1 ∧ s.get (.tcp p) F.TCP_PD_STATUS_HR_CONSEC <
      2 ∧ s.isSource p = true ∧ s.pe p = 5) ∧
    (∃ (p : Port) (s : State), s.portUp p = true ∧ s.pe p = 5 ∧ (s.pd p).sinkTx = true ∧ (s.pd p).want = .none ∧ s.get (.tcp p)
      F.TCP_PD_CTRL_SOFT_RESET = 1) ∧
    (∃ (p : Port) (s : State), s.portUp p = true ∧ s.pe p = 5 ∧ (s.pd p).offerDue = true ∧ (s.pd p).want = .none) ∧
    (∃ (p : Port) (s : State), s.portUp p = true ∧ (s.pd p).revokeWait = true ∧ s.get (.tcp p) F.TCP_PD_STATUS_HR_CONSEC < 2 ∧ s.isSource p
      = true ∧ s.pe p = 3) ∧
    (∃ (p : Port) (s : State), s.portUp p = true ∧ s.pe p = 13 ∧ (s.pd p).hrPhase = 1 ∧ 1 ≤ s.vbsStt p ∧ s.vbsStt p ≤ 4) ∧
    (∃ (p : Port) (s : State), s.portUp p = true ∧ s.pe p = 13 ∧ (s.pd p).hrPhase = 2 ∧ s.get (.vbs p) F.VBS_STATUS_SAFE0V = 1 ∧ s.get (.vbs
      p) F.VBS_STATUS_STATE = 0) :=
  ⟨⟨0, (w0.putAll [(.tcp 0, F.TCP_CC_STATUS_STATE, 4), (.tcp 0, F.TCP_PD_STATUS_PE_STATE, 5), (.tcp 0, F.TCP_PD_STATUS_SPEC_REV, 2), (.tcp
      0, F.TCP_PD_STATUS_PE_STATE, 1), (.vbs 0, F.VBS_STATUS_STATE, 3)]), by decide +kernel⟩,
   ⟨0, (w0.putAll [(.tcp 0, F.TCP_CC_STATUS_STATE, 4), (.tcp 0, F.TCP_PD_STATUS_PE_STATE, 5), (.tcp 0, F.TCP_PD_STATUS_SPEC_REV, 2), (.tcp
      0, F.TCP_PD_STATUS_PE_STATE, 2)]), by decide +kernel⟩,
   ⟨0, ((fun s : State => s.pdWith 0 (fun d => { d with want := .request })) (w0.putAll [(.tcp 0, F.TCP_CC_STATUS_STATE, 4), (.tcp 0,
      F.TCP_PD_STATUS_PE_STATE, 5), (.tcp 0, F.TCP_PD_STATUS_SPEC_REV, 2)])), by decide +kernel⟩,
   ⟨0, ((fun s : State => s.pdWith 0 (fun d => { d with want := .softAccept })) (w0.putAll [(.tcp 0, F.TCP_CC_STATUS_STATE, 4), (.tcp 0,
      F.TCP_PD_STATUS_PE_STATE, 5), (.tcp 0, F.TCP_PD_STATUS_SPEC_REV, 2), (.tcp 0, F.TCP_PD_STATUS_PE_STATE, 12)])), by decide +kernel⟩,
   ⟨0, ((fun s : State => s.pdWith 0 (fun d => { d with nextMv := 9000, accepted := true })) (w0.putAll [(.tcp 0, F.TCP_CC_STATUS_STATE,
      4), (.tcp 0, F.TCP_PD_STATUS_PE_STATE, 5), (.tcp 0, F.TCP_PD_STATUS_SPEC_REV, 2), (.tcp 0, F.TCP_PD_STATUS_PE_STATE, 4), (.vbs 0,
      F.VBS_STATUS_STATE, 3)])), by decide +kernel⟩,
   ⟨0, ((fun s : State => s.pdWith 0 (fun d => { d with transRun := true })) (w0.putAll [(.tcp 0, F.TCP_CC_STATUS_STATE, 4), (.tcp 0,
      F.TCP_PD_STATUS_PE_STATE, 5), (.tcp 0, F.TCP_PD_STATUS_SPEC_REV, 2), (.tcp 0, F.TCP_PD_STATUS_PE_STATE, 4)])), by decide +kernel⟩,
   ⟨0, ((fun s : State => s.pdWith 0 (fun d => { d with req := some 0 })) (w0.putAll [(.tcp 0, F.TCP_CC_STATUS_STATE, 4), (.tcp 0,
      F.TCP_PD_STATUS_PE_STATE, 5), (.tcp 0, F.TCP_PD_STATUS_SPEC_REV, 2), (.tcp 0, F.TCP_PD_STATUS_PE_STATE, 3)])), by decide +kernel⟩,
   ⟨0, ((fun s : State => s.pdWith 0 (fun d => { d with waitSent := true })) (w0.putAll [(.tcp 0, F.TCP_CC_STATUS_STATE, 4), (.tcp 0,
      F.TCP_PD_STATUS_PE_STATE, 5), (.tcp 0, F.TCP_PD_STATUS_SPEC_REV, 2)])), by decide +kernel⟩,
   ⟨0, (w0.putAll [(.tcp 0, F.TCP_CC_STATUS_STATE, 4), (.tcp 0, F.TCP_PD_STATUS_PE_STATE, 5), (.tcp 0, F.TCP_PD_STATUS_SPEC_REV, 2), (.tcp
      0, F.TCP_PD_STATUS_CONTRACT, 1), (.tcp 0, F.TCP_CONTRACT_TYPE, 2)]), by decide +kernel⟩,
   ⟨0, (w0.putAll [(.tcp 0, F.TCP_CC_STATUS_STATE, 4), (.tcp 0, F.TCP_PD_STATUS_PE_STATE, 5), (.tcp 0, F.TCP_PD_STATUS_SPEC_REV, 2), (.tcp
      0, F.TCP_PD_STATUS_EPR_MODE, 1)]), by decide +kernel⟩,
   ⟨0, ((fun s : State => s.pdWith 0 (fun d => { d with sinkTx := true })) (w0.putAll [(.tcp 0, F.TCP_CC_STATUS_STATE, 4), (.tcp 0,
      F.TCP_PD_STATUS_PE_STATE, 5), (.tcp 0, F.TCP_PD_STATUS_SPEC_REV, 2), (.tcp 0, F.TCP_PD_CTRL_SOFT_RESET, 1)])), by decide +kernel⟩,
   ⟨0, ((fun s : State => s.pdWith 0 (fun d => { d with offerDue := true })) (w0.putAll [(.tcp 0, F.TCP_CC_STATUS_STATE, 4), (.tcp 0,
      F.TCP_PD_STATUS_PE_STATE, 5), (.tcp 0, F.TCP_PD_STATUS_SPEC_REV, 2)])), by decide +kernel⟩,
   ⟨0, ((fun s : State => s.pdWith 0 (fun d => { d with revokeWait := true })) (w0.putAll [(.tcp 0, F.TCP_CC_STATUS_STATE, 4), (.tcp 0,
      F.TCP_PD_STATUS_PE_STATE, 5), (.tcp 0, F.TCP_PD_STATUS_SPEC_REV, 2), (.tcp 0, F.TCP_PD_STATUS_PE_STATE, 3)])), by decide +kernel⟩,
   ⟨0, ((fun s : State => s.pdWith 0 (fun d => { d with hrPhase := 1 })) (w0.putAll [(.tcp 0, F.TCP_CC_STATUS_STATE, 4), (.tcp 0,
      F.TCP_PD_STATUS_PE_STATE, 5), (.tcp 0, F.TCP_PD_STATUS_SPEC_REV, 2), (.tcp 0, F.TCP_PD_STATUS_PE_STATE, 13), (.vbs 0,
      F.VBS_STATUS_STATE, 3)])), by decide +kernel⟩,
   ⟨0, ((fun s : State => s.pdWith 0 (fun d => { d with hrPhase := 2 })) (w0.putAll [(.tcp 0, F.TCP_CC_STATUS_STATE, 4), (.tcp 0,
      F.TCP_PD_STATUS_PE_STATE, 5), (.tcp 0, F.TCP_PD_STATUS_SPEC_REV, 2), (.tcp 0, F.TCP_PD_STATUS_PE_STATE, 13), (.vbs 0,
      F.VBS_STATUS_SAFE0V, 1)])), by decide +kernel⟩⟩

theorem witness_PdTimersOfASinkAndOfItsPartner :
    (∃ (p : Port) (s : State), s.portUp p = true ∧ (s.pd p).cableRun = true ∧ s.get (.tcp p) F.TCP_PD_STATUS_VCONN_SRC = 1 ∧ s.pdBusy p =
      false ∧ s.pdEn p = true ∧ ([0, 4, 13, 14] : List Nat).contains (s.pe p) = false ∧ s.get (.tcp p) F.TCP_CABLE_ATTEMPTS < 20) ∧
    (∃ (p : Port) (s : State), s.portUp p = true ∧ (s.pd p).cableRun = true ∧ s.get (.tcp p) F.TCP_PD_STATUS_VCONN_SRC = 1 ∧ s.pdBusy p =
      false ∧ s.pdEn p = true ∧ ([0, 4, 13, 14] : List Nat).contains (s.pe p) = false ∧ 20 ≤ s.get (.tcp p) F.TCP_CABLE_ATTEMPTS) ∧
    (∃ (p : Port) (s : State), s.portUp p = true ∧ s.pe p = 6 ∧ (s.pd p).snkWaitVbus = false ∧ (s.pd p).want = .none ∧ s.get (.tcp p)
      F.TCP_PD_STATUS_HR_CONSEC < 2 ∧ s.isSource p = false) ∧
    (∃ (p : Port) (s : State), s.portUp p = true ∧ s.pe p = 7 ∧ (s.pd p).want = .none ∧ s.pdFlag p F.TCP_PD_POLICY_SWAP_TO_SRC = true ∧
      (s.pd p).prTries < 3 ∧ s.reserveHeld p = false ∧ s.mayClose p = true ∧ s.vbsStt p = 0 ∧ s.get .bgt (F.BGT_GRANTn_STATE p.val) ≠ 4
      ∧ (s.vbs p).dschLock = false) ∧
    (∃ (p : Port) (s : State), s.portUp p = true ∧ s.pe p = 7 ∧ (s.pd p).want = .none ∧ s.pdFlag p F.TCP_PD_POLICY_SWAP_TO_SRC = true ∧
      (s.pd p).prTries < 3 ∧ s.reserveHeld p = true ∧ s.mayClose p = true ∧ nearTarget (s.get (.vbs p) F.VBS_MEAS_VREG) 5000 = true) ∧
    (∃ (p : Port) (s : State), s.portUp p = true ∧ s.ccSt p = 7 ∧ (s.pd p).snkWaitVbus = true ∧ s.vbusUv10 p < 40000000) ∧
    (∃ (p : Port) (s : State), s.portUp p = true ∧ s.pe p = 7 ∧ s.get (.tcp p) F.TCP_PD_STATUS_FRS_ARMED = 1) ∧
    (∃ (p : Port) (s : State), s.portUp p = true ∧ s.pe p = 9 ∧ (s.pd p).frsSeen = true ∧ s.mayClose p = true ∧ s.get (.vbs p)
      F.VBS_STATUS_STATE = 0) ∧
    (∃ (p : Port) (s : State), s.portUp p = true ∧ s.modeMay p = true ∧ (s.pd p).modeStep = 0 ∧ (s.pd p).want = .none) ∧
    (∃ (p : Port) (s : State), s.portUp p = true ∧ (s.pd p).want = .vdm ∧ (s.pd p).modeStep ≠ 0) :=
  ⟨⟨0, ((fun s : State => s.pdWith 0 (fun d => { d with cableRun := true })) (w0.putAll [(.tcp 0, F.TCP_CC_STATUS_STATE, 4), (.tcp 0,
      F.TCP_PD_STATUS_PE_STATE, 5), (.tcp 0, F.TCP_PD_STATUS_SPEC_REV, 2), (.tcp 0, F.TCP_PD_STATUS_VCONN_SRC, 1)])), by decide +kernel⟩,
   ⟨0, ((fun s : State => s.pdWith 0 (fun d => { d with cableRun := true })) (w0.putAll [(.tcp 0, F.TCP_CC_STATUS_STATE, 4), (.tcp 0,
      F.TCP_PD_STATUS_PE_STATE, 5), (.tcp 0, F.TCP_PD_STATUS_SPEC_REV, 2), (.tcp 0, F.TCP_PD_STATUS_VCONN_SRC, 1), (.tcp 0,
      F.TCP_CABLE_ATTEMPTS, 20)])), by decide +kernel⟩,
   ⟨0, (w0.putAll [(.tcp 0, F.TCP_CC_STATUS_STATE, 7), (.tcp 0, F.TCP_PD_STATUS_PE_STATE, 7), (.tcp 0, F.TCP_PD_STATUS_SPEC_REV, 2), (.tcp
      0, F.TCP_PD_STATUS_POWER_ROLE, 1), (.tcp 0, F.TCP_PD_STATUS_DATA_ROLE, 1), (.tcp 0, F.TCP_PD_STATUS_PE_STATE, 6)]),
      by decide +kernel⟩,
   ⟨0, (w0.putAll [(.tcp 0, F.TCP_CC_STATUS_STATE, 7), (.tcp 0, F.TCP_PD_STATUS_PE_STATE, 7), (.tcp 0, F.TCP_PD_STATUS_SPEC_REV, 2), (.tcp
      0, F.TCP_PD_STATUS_POWER_ROLE, 1), (.tcp 0, F.TCP_PD_STATUS_DATA_ROLE, 1), (.tcp 0, F.TCP_PD_POLICY_SWAP_TO_SRC, 1)]),
      by decide +kernel⟩,
   ⟨0, ((fun s : State => s.arbWith (fun a => { a with running := [.turnOn 0] })) ((fun s : State => s.pdWith 0 (fun d =>
      { d with reserved := true })) (w0.putAll [(.tcp 0, F.TCP_CC_STATUS_STATE, 7), (.tcp 0, F.TCP_PD_STATUS_PE_STATE, 7), (.tcp 0,
      F.TCP_PD_STATUS_SPEC_REV, 2), (.tcp 0, F.TCP_PD_STATUS_POWER_ROLE, 1), (.tcp 0, F.TCP_PD_STATUS_DATA_ROLE, 1), (.tcp 0,
      F.TCP_PD_POLICY_SWAP_TO_SRC, 1), (.vbs 0, F.VBS_MEAS_VREG, 356)]))), by decide +kernel⟩,
   ⟨0, ((fun s : State => s.pdWith 0 (fun d => { d with snkWaitVbus := true })) (w0.putAll [(.tcp 0, F.TCP_CC_STATUS_STATE, 7), (.tcp 0,
      F.TCP_PD_STATUS_PE_STATE, 7), (.tcp 0, F.TCP_PD_STATUS_SPEC_REV, 2), (.tcp 0, F.TCP_PD_STATUS_POWER_ROLE, 1), (.tcp 0,
      F.TCP_PD_STATUS_DATA_ROLE, 1)])), by decide +kernel⟩,
   ⟨0, (w0.putAll [(.tcp 0, F.TCP_CC_STATUS_STATE, 7), (.tcp 0, F.TCP_PD_STATUS_PE_STATE, 7), (.tcp 0, F.TCP_PD_STATUS_SPEC_REV, 2), (.tcp
      0, F.TCP_PD_STATUS_POWER_ROLE, 1), (.tcp 0, F.TCP_PD_STATUS_DATA_ROLE, 1), (.tcp 0, F.TCP_PD_STATUS_FRS_ARMED, 1)]),
      by decide +kernel⟩,
   ⟨0, ((fun s : State => s.pdWith 0 (fun d => { d with frsSeen := true })) (w0.putAll [(.tcp 0, F.TCP_CC_STATUS_STATE, 7), (.tcp 0,
      F.TCP_PD_STATUS_PE_STATE, 7), (.tcp 0, F.TCP_PD_STATUS_SPEC_REV, 2), (.tcp 0, F.TCP_PD_STATUS_POWER_ROLE, 1), (.tcp 0,
      F.TCP_PD_STATUS_DATA_ROLE, 1), (.tcp 0, F.TCP_PD_STATUS_PE_STATE, 9)])), by decide +kernel⟩,
   ⟨0, (w0.putAll [(.tcp 0, F.TCP_CC_STATUS_STATE, 4), (.tcp 0, F.TCP_PD_STATUS_PE_STATE, 5), (.tcp 0, F.TCP_PD_STATUS_SPEC_REV, 2), (.tcp
      0, F.TCP_CON_SVID_EN, 1)]), by decide +kernel⟩,
   ⟨0, ((fun s : State => s.pdWith 0 (fun d => { d with want := .vdm, modeStep := 2 })) (w0.putAll [(.tcp 0, F.TCP_CC_STATUS_STATE, 4),
      (.tcp 0, F.TCP_PD_STATUS_PE_STATE, 5), (.tcp 0, F.TCP_PD_STATUS_SPEC_REV, 2)])), by decide +kernel⟩⟩

theorem witness_EntryControllerFollowsSupplyAndFeeds :
    (∃ (r : Nat) (s : State), s.entry.powered = false ∧ 5000 ≤ r ∧ r ≤ 150000) ∧
    (∃ (r : Nat) (s : State), s.entry.powered = false ∧ r < 5000) ∧
    (∃ (s : State), s.entry.powered = true) ∧
    (∃ (pins : BitVec 2) (s : State), s.entry.powered = true ∧ s.get .pwe F.PWE_STATUS_SEATED = 1 ∧ pins ≠ 3) ∧
    (∃ (s : State), s.entry.powered = true ∧ s.get .pwe F.PWE_STATUS_SEATED = 1 ∧ (s.feedIsGood .a = true ∨ s.feedIsGood .b = true) ∧ s.get
      .pwe F.PWE_STATUS_STATE = 0) ∧
    (∃ (s : State), s.entry.powered = true ∧ s.get .pwe F.PWE_STATUS_STATE = 1) ∧
    (∃ (uv : Nat) (s : State), s.entry.powered = true ∧ s.entryDrives = true ∧ 2 * s.entryLimitUv ≤ uv) ∧
    (∃ (s : State), s.entry.powered = true ∧ s.entryDrives = true ∧ s.get .pwe F.PWE_STATUS_LIMITING = 1) ∧
    (∃ (s : State), s.entry.powered = true ∧ s.get .pwe F.PWE_STATUS_STATE = 1) ∧
    (∃ (s : State), s.entry.powered = true ∧ s.entryDrives = true) ∧
    (∃ (s : State), s.entry.powered = true ∧ s.get .pwe F.PWE_STATUS_STATE = 3 ∧ s.entry.retryRun = true ∧ s.entry.debounced = true) ∧
    (∃ (s : State), s.entry.powered = true ∧ s.get .pwe F.PWE_STATUS_STATE = 2 ∧ s.get .pwe F.PWE_STATUS_LIMITING = 0) ∧
    (∃ (r : Nat) (s : State), s.entry.powered = true ∧ s.ilimBad = false ∧ s.get .pwe F.PWE_STATUS_STATE ≠ 4 ∧ 150000 < r) ∧
    (∃ (r : Nat) (s : State), s.entry.powered = true ∧ s.ilimBad = false ∧ s.get .pwe F.PWE_STATUS_STATE ≠ 4 ∧ r < 5000) ∧
    (∃ (addr : Nat) (s : State), s.entry.powered = true ∧ s.coreHeld = true ∧ 0x5000 ≤ addr ∧ addr < 0x6000) ∧
    (∃ (fd : Feed) (n : Nat) (s : State), s.entry.powered = true ∧ s.feedIsGood fd = false ∧ feedEnters n = true) ∧
    (∃ (n : Nat) (s : State), feedEnters n = false) ∧
    (∃ (fd : Feed) (n : Nat) (s : State), feedStays n = false ∧ s.entry.powered = true ∧ s.feedIsGood fd = true ∧ s.get .pwe
      F.PWE_STATUS_STATE = 2 ∧ s.get .pwe F.PWE_STATUS_FEED_SEL = feedCode fd ∧ s.feedIsGood (otherFeed fd) = true) ∧
    (∃ (fd : Feed) (n : Nat) (s : State), feedStays n = false ∧ s.entry.powered = true ∧ s.feedIsGood fd = true ∧ s.get .pwe
      F.PWE_STATUS_STATE = 2 ∧ s.get .pwe F.PWE_STATUS_FEED_SEL = feedCode fd ∧ s.feedIsGood (otherFeed fd) = false) ∧
    (∃ (fd : Feed) (ret : Bool) (s : State), s.entry.gap = some (fd, ret) ∧ s.entry.powered = true ∧ s.get .pwe F.PWE_STATUS_STATE = 2 ∧
      s.feedIsGood fd = true) ∧
    (∃ (s : State), s.entry.powered = true ∧ s.get .pwe F.PWE_STATUS_STATE = 2 ∧ s.cfgFlag .pwe F.PWE_FEED_CFG_RETURN_EN = true ∧
      s.feedIsGood s.prefFeed = true ∧ s.get .pwe F.PWE_STATUS_FEED_SEL = feedCode (otherFeed s.prefFeed)) :=
  ⟨⟨20000, ((fun s : State => { s with entry := freshEntry }) w0), by decide +kernel⟩,
   ⟨4999, ((fun s : State => { s with entry := freshEntry }) w0), by decide +kernel⟩,
   ⟨w0, by decide +kernel⟩,
   ⟨1, (w0.putAll [(.pwe, F.PWE_STATUS_SEATED, 1), (.pwe, F.PWE_STATUS_STATE, 2)]), by decide +kernel⟩,
   ⟨(w0.putAll [(.pwe, F.PWE_STATUS_SEATED, 1), (.pwe, F.PWE_FEED_A_GOOD, 1)]), by decide +kernel⟩,
   ⟨(w0.putAll [(.pwe, F.PWE_STATUS_STATE, 1)]), by decide +kernel⟩,
   ⟨200000, (w0.putAll [(.pwe, F.PWE_STATUS_STATE, 2)]), by decide +kernel⟩,
   ⟨(w0.putAll [(.pwe, F.PWE_STATUS_STATE, 2), (.pwe, F.PWE_STATUS_LIMITING, 1)]), by decide +kernel⟩,
   ⟨(w0.putAll [(.pwe, F.PWE_STATUS_STATE, 1), (.pwe, F.PWE_STATUS_CONSEC, 15)]), by decide +kernel⟩,
   ⟨(w0.putAll [(.pwe, F.PWE_STATUS_STATE, 1)]), by decide +kernel⟩,
   ⟨((fun s : State => s.withEntry (fun e => { e with retryRun := true, debounced := true })) (w0.putAll [(.pwe, F.PWE_STATUS_STATE, 3)])),
      by decide +kernel⟩,
   ⟨(w0.putAll [(.pwe, F.PWE_STATUS_STATE, 2), (.pwe, F.PWE_STATUS_CONSEC, 2)]), by decide +kernel⟩,
   ⟨150001, w0, by decide +kernel⟩,
   ⟨4999, w0, by decide +kernel⟩,
   ⟨0x5040, ((fun s : State => { s with coreHeld := true }) w0), by decide +kernel⟩,
   ⟨.a, 450, w0, by decide +kernel⟩,
   ⟨419, w0, by decide +kernel⟩,
   ⟨.b, 2000, (w0.putAll [(.pwe, F.PWE_STATUS_STATE, 2), (.pwe, F.PWE_STATUS_FEED_SEL, 2), (.pwe, F.PWE_FEED_A_GOOD, 1), (.pwe,
      F.PWE_FEED_B_GOOD, 1)]), by decide +kernel⟩,
   ⟨.a, 10, (w0.putAll [(.pwe, F.PWE_STATUS_STATE, 2), (.pwe, F.PWE_STATUS_FEED_SEL, 1), (.pwe, F.PWE_FEED_A_GOOD, 1)]), by decide +kernel⟩,
   ⟨.b, false, ((fun s : State => s.withEntry (fun e => { e with gap := some (.b, false) })) (w0.putAll [(.pwe, F.PWE_STATUS_STATE, 2),
      (.pwe, F.PWE_FEED_B_GOOD, 1)])), by decide +kernel⟩,
   ⟨(w0.putAll [(.pwe, F.PWE_STATUS_STATE, 2), (.pwe, F.PWE_STATUS_FEED_SEL, 2), (.pwe, F.PWE_FEED_A_GOOD, 1), (.pwe,
      F.PWE_FEED_CFG_RETURN_EN, 1)]), by decide +kernel⟩⟩

theorem witness_ArbiterAnswersItsCommands :
    (∃ (s : State), s.coreUp = true ∧ s.loaded = true) ∧
    (∃ (ops : List LeaveOp) (s : State), s.coreUp = true ∧ s.loaded = true ∧ ops = [.upCal] ∧ s.arb.asks = [.upCal] ∧ s.arb.reqs = [] ∧
      s.arb.running = [] ∧ s.pageOn .bgt = true ∧ s.bgtBad = false ∧ s.dieFits .upCal = true) ∧
    (∃ (op : LeaveOp) (s : State), op ∈ s.arb.dones) ∧
    (∃ (p : Port) (s : State), s.arb.reqs.any (fun r => r.op == .turnOn p) = true) ∧
    (∃ (s : State), s.coreUp = true) ∧
    (∃ (s : State), s.coreUp = true ∧ s.arb.reqs = []) ∧
    (∃ (s : State), s.coreUp = true) ∧
    (∃ (s : State), s.coreUp = true ∧ s.loaded = true ∧ s.arb.firstBatch = none) ∧
    (∃ (p : Port) (s : State), s.mayGrow = true ∧ s.freePower ≠ 0 ∧ s.serveOrder.find? s.growable = some p) ∧
    (∃ (p : Port) (s : State), s.coreUp = true ∧ s.grantSt p = 3 ∧ s.bgtBad = false) ∧
    (∃ (p : Port) (s : State), s.coreUp = true ∧ s.grantSt p = 3 ∧ s.contractDw p ≤ s.grant p ∧ s.get (.vbs p) F.VBS_IBUS_IBUS_MA ≤ 11 *
      s.basisMa p / 10) ∧
    (∃ (ga : Bool) (gb : Bool) (s : State), s.coreUp = true ∧ s.loaded = true ∧ (ga = false ∨ gb = false) ∧ s.bgtBad = false) ∧
    (∃ (s : State), s.arb.growing = true) :=
  ⟨⟨w0, by decide +kernel⟩,
   ⟨[.upCal], ((fun s : State => s.arbWith (fun a => { a with asks := [.upCal] })) w0), by decide +kernel⟩,
   ⟨.upCal, ((fun s : State => s.arbWith (fun a => { a with dones := [.upCal] })) w0), by decide +kernel⟩,
   ⟨0, ((fun s : State => s.arbWith (fun a => { a with reqs := [⟨.turnOn 0, 0, none, false⟩] })) w0), by decide +kernel⟩,
   ⟨w0, by decide +kernel⟩,
   ⟨(w0.putAll [(.bgt, F.BGT_DIE_STATUS_USED, 99)]), by decide +kernel⟩,
   ⟨w0, by decide +kernel⟩,
   ⟨w0, by decide +kernel⟩,
   ⟨0, (w0.putAll [(.bgt, F.BGT_POOL_STATUS_CUR, 500), (.vbs 0, F.VBS_STATUS_STATE, 3)]), by decide +kernel⟩,
   ⟨0, ((fun s : State => s.put .bgt (F.BGT_GRANTn_STATE 0) 3) w0), by decide +kernel⟩,
   ⟨0, ((fun s : State => s.put .bgt (F.BGT_GRANTn_STATE 0) 3) w0), by decide +kernel⟩,
   ⟨false, true, ((fun s : State => s.arbWith (fun a => { a with goodA := true, goodB := true })) (w0.putAll [(.bgt,
      F.BGT_POOL_STATUS_DUAL, 1)])), by decide +kernel⟩,
   ⟨((fun s : State => s.arbWith (fun a => { a with growing := true, goodA := true, goodB := true })) w0), by decide +kernel⟩⟩

theorem witness_RevocationRunsByClassAndPort :
    (∃ (p : Port) (s : State), s.coreUp = true ∧ s.grantSt p = 3 ∧ s.contractDw p ≤ s.grant p ∧ s.get (.vbs p) F.VBS_IBUS_IBUS_MA ≤ 11 *
      s.basisMa p / 10 ∧ s.arb.reqs = []) ∧
    (∃ (p : Port) (s : State), s.coreUp = true ∧ s.grantSt p = 3 ∧ s.bgtBad = false ∧ s.arb.reqs = []) :=
  ⟨⟨0, ((fun s : State => s.put .bgt (F.BGT_GRANTn_STATE 0) 3) w0), by decide +kernel⟩,
   ⟨0, ((fun s : State => (s.put .bgt (F.BGT_GRANTn_STATE 0) 3).put (.vbs 0) F.VBS_STATUS_STATE 3) w0), by decide +kernel⟩⟩

theorem witness_StartUpCommandsComplete :
    (∃ (s : State), s.coreHeld = true) ∧
    (∃ (s : State), s.locked = false ∧ (s.coreHeld = true → s.entry.lastCause = 2)) ∧
    (∃ (s : State), s.coreUp = true ∧ s.domainInRst .mgt = false) ∧
    (∃ (s : State), s.coreUp = true ∧ .upCal ∈ s.arb.running) ∧
    (∃ (k : Plate) (s : State), s.coreUp = true ∧ .plateCal k ∈ s.arb.running) ∧
    (∃ (s : State), s.drcPend = true ∧ s.drcHeld = true) ∧
    (∃ (k : Plate) (s : State), s.coreUp = true ∧ s.flag .clk (laneFld (.plate k)) = true) ∧
    (∃ (k : Plate) (s : State), s.coreUp = true ∧ s.flag .clk (laneFld (.plate k)) = false) :=
  ⟨⟨((fun s : State => { s with coreHeld := true }) w0), by decide +kernel⟩,
   ⟨(w0.putAll [(.clk, F.CLK_ROOT_STATUS_ROOT_LOCKED, 0)]), by decide +kernel⟩,
   ⟨(w0.putAll [(.glb, F.GLB_READY_MGT_READY, 0)]), by decide +kernel⟩,
   ⟨((fun s : State => s.arbWith (fun a => { a with running := [.upCal] })) w0), by decide +kernel⟩,
   ⟨1, ((fun s : State => s.arbWith (fun a => { a with running := [.plateCal 1] })) w0), by decide +kernel⟩,
   ⟨((fun s : State => { s with drcPend := true }) (w0.putAll [(.clk, F.CLK_RESET_DRC_RST, 1)])), by decide +kernel⟩,
   ⟨0, w0, by decide +kernel⟩,
   ⟨0, (w0.putAll [(.clk, F.CLK_ROOT_STATUS_LANE_PLATE_LOCKED, 14)]), by decide +kernel⟩⟩

theorem witness_ManagementFramesAreAnswered :
    (∃ (m : Master) (ns : List Nibble) (s : State), wholeFrame 1 false ns = true ∧ s.mgtTakes = true ∧ crcGood ns = true ∧ s.busyWith
      (masterReq m) = false ∧ s.loaded = true ∧ s.coreUp = true ∧ (hdrOf ns).waddr = 0x18 ∧ (hdrOf ns).count = 0 ∧ (hdrOf ns).isLocal =
      true ∧ s.mgtSettled = true) ∧
    (∃ (m : Master) (ns : List Nibble) (s : State), wholeFrame 3 false ns = true ∧ s.mgtTakes = true ∧ crcGood ns = true ∧ s.busyWith
      (masterReq m) = false ∧ s.loaded = true ∧ s.coreUp = true ∧ (hdrOf ns).waddr = 0x18 ∧ (hdrOf ns).count = 0 ∧ (hdrOf ns).isLocal =
      true ∧ s.mgtSettled = true) ∧
    (∃ (m : Master) (hdr : List Nibble) (rest : List Nibble) (v : Word) (s : State), wholeWrite 2 hdr rest = true ∧ s.mgtTakes = true ∧
      crcGood (hdr ++ rest) = true ∧ s.busyWith (masterReq m) = false ∧ s.loaded = true ∧ s.coreUp = true ∧ (hdrOf hdr).waddr = 0x18 ∧
      (hdrOf hdr).count = 0 ∧ (hdrOf hdr).isLocal = true ∧ entriesOf (hdr ++ rest) = [⟨0xF, v⟩] ∧ s.mgtSettled = true ∧ s.pair
      (s.identOf (masterReq m)) = none) ∧
    (∃ (m : Master) (hdr : List Nibble) (rest : List Nibble) (v : Word) (s : State), wholeWrite 4 hdr rest = true ∧ s.mgtTakes = true ∧
      crcGood (hdr ++ rest) = true ∧ s.busyWith (masterReq m) = false ∧ s.loaded = true ∧ s.coreUp = true ∧ (hdrOf hdr).waddr = 0x18 ∧
      (hdrOf hdr).count = 0 ∧ (hdrOf hdr).isLocal = true ∧ entriesOf (hdr ++ rest) = [⟨0xF, v⟩] ∧ s.mgtSettled = true ∧ s.pair
      (s.identOf (masterReq m)) = none) ∧
    (∃ (ns : List Nibble) (s : State), wholeFrame 1 false ns = true) ∧
    (∃ (m : Master) (ns : List Nibble) (s : State), wholeFrame 1 false ns = true ∧ s.mgtTakes = true ∧ crcGood ns = true ∧ s.busyWith
      (masterReq m) = false ∧ 0x400 < (hdrOf ns).waddr.toNat % 0x400 + ((hdrOf ns).count.toNat + 1)) ∧
    (∃ (ns : List Nibble) (s : State), wholeFrame 1 false ns = true ∧ s.mgtTakes = true ∧ crcGood ns = false) ∧
    (∃ (m : Master) (ns : List Nibble) (s : State), wholeFrame 1 false ns = true ∧ s.mgtTakes = true ∧ crcGood ns = true ∧ s.busyWith
      (masterReq m) = true) ∧
    (∃ (m : Master) (ns : List Nibble) (r : FrameResp) (s : State), wholeFrame 6 false ns = true ∧ s.mgtTakes = true ∧ crcGood ns = true ∧
      s.busyWith (masterReq m) = false ∧ (s.mport m).stored = some r) ∧
    (∃ (m : Master) (ns : List Nibble) (s : State), wholeFrame 6 false ns = true ∧ s.mgtTakes = true ∧ crcGood ns = true ∧ s.busyWith
      (masterReq m) = false ∧ (s.mport m).stored = none) ∧
    (∃ (m : Master) (ns : List Nibble) (s : State), badFrame ns = true ∧ s.mgtTakes = true ∧ crcGood ns = true ∧ s.busyWith (masterReq m) =
      false ∧ opcodeOf ns ∉ [1, 2, 3, 4, 6]) ∧
    (∃ (m : Master) (s : State), s.busyWith (masterReq m) = true) ∧
    (∃ (moment : RiseMoment) (s : State), moment ≠ .accessPending) ∧
    (∃ (m : Master) (s : State), (s.mport m).high = false) ∧
    (∃ (m : Master) (w : RemoteWait) (s : State), (s.mport m).high = true ∧ s.unsent w.req = false ∧ (s.runs.find? (fun r => r.who ==
      masterReq m)) = none ∧ (s.mport m).remote = some w ∧ w.aborted = false) ∧
    (∃ (m : Master) (w : RemoteWait) (s : State), (s.mport m).high = true ∧ w.resends = 0 ∧ w.busy = false ∧ s.unsent w.req = true ∧
      (s.runs.find? (fun r => r.who == masterReq m)) = none ∧ (s.mport m).remote = some w ∧ w.aborted = false) ∧
    (∃ (m : Master) (r : AccessRun) (s : State), (s.mport m).high = true ∧ (List.finRange 4).all (fun q => !AccessRun.popsQueue q r) = true
      ∧ (s.runs.find? (fun r => r.who == masterReq m)) = some r ∧ r.kind = .frame ∧ r.done = [] ∧ r.write = true ∧ s.mgtSettled = true) :=
  ⟨⟨.a, frameOf 1 0x18 8 0 [], w0, by decide +kernel⟩,
   ⟨.a, frameOf 3 0x18 8 0 [], w0, by decide +kernel⟩,
   ⟨.a, (frameOf 2 0x18 8 0 [⟨0xF, 7⟩]).take 12, (frameOf 2 0x18 8 0 [⟨0xF, 7⟩]).drop 12, 7, w0, by decide +kernel⟩,
   ⟨.a, (frameOf 4 0x18 8 0 [⟨0xF, 7⟩]).take 12, (frameOf 4 0x18 8 0 [⟨0xF, 7⟩]).drop 12, 7, w0, by decide +kernel⟩,
   ⟨frameOf 1 0x18 8 0 [], w0, by decide +kernel⟩,
   ⟨.a, frameOf 1 0x3FF 8 1 [], w0, by decide +kernel⟩,
   ⟨(frameOf 1 0x18 8 0 []).set 15 0, w0, by decide +kernel⟩,
   ⟨.a, frameOf 1 0x18 8 0 [], ((fun s : State => s.setRuns [⟨.a, .frame, false, false, 0, [⟨0xF, 0⟩], [], none⟩]) w0), by decide +kernel⟩,
   ⟨.a, frameOf 6 0 0 0 [], ⟨0, [⟨0, 5⟩], true⟩, ((fun s : State => s.mportWith .a (fun x =>
      { x with stored := some ⟨0, [⟨0, 5⟩], true⟩ })) w0), by decide +kernel⟩,
   ⟨.a, frameOf 6 0 0 0 [], w0, by decide +kernel⟩,
   ⟨.a, frameOf 9 0 0 0 [], w0, by decide +kernel⟩,
   ⟨.a, ((fun s : State => s.setRuns [⟨.a, .frame, false, false, 0, [⟨0xF, 0⟩], [], none⟩]) w0), by decide +kernel⟩,
   ⟨.beforeLastNibble, w0, by decide +kernel⟩,
   ⟨.a, ((fun s : State => s.mportWith .a (fun x => { x with high := false })) w0), by decide +kernel⟩,
   ⟨.a, ⟨2, reqOf 0 5, 0, false, false, false⟩, ((fun s : State => s.mportWith .a (fun x =>
      { x with remote := some ⟨2, reqOf 0 5, 0, false, false, false⟩, high := true })) w0), by decide +kernel⟩,
   ⟨.a, ⟨2, reqOf 0 5, 0, false, false, false⟩, ((fun s : State => (s.mportWith .a (fun x =>
      { x with remote := some ⟨2, reqOf 0 5, 0, false, false, false⟩, high := true })).queueOut 0 2 (.request (reqOf 0 5))) w0),
      by decide +kernel⟩,
   ⟨.a, ⟨.a, .frame, true, false, 0, [⟨0xF, 0⟩], [], none⟩, ((fun s : State => (s.setRuns [⟨.a, .frame, true, false, 0, [⟨0xF, 0⟩], [],
      none⟩]).mportWith .a (fun x => { x with high := true })) w0), by decide +kernel⟩⟩

theorem witness_RingCarriesFrames :
    (∃ (side : Side) (nb : Neighbour) (s : State), nb.side ≠ side ∧ s.ringOn = true ∧ s.flag .mgt (linkFld side) = false) ∧
    (∃ (side : Side) (s : State), s.ringOn = true ∧ s.flag .mgt (linkFld side) = false ∧ s.flag .mgt (miswireFld side) = false) ∧
    (∃ (side : Side) (s : State), s.ringOn = true ∧ s.flag .mgt (linkFld side) = true) ∧
    (∃ (side : Side) (ro : Roster) (s : State), s.ringOn = true ∧ s.flag .mgt (linkFld side) = true ∧ s.dupId = false ∧ s.ownElsewhere side
      ro = false) ∧
    (∃ (side : Side) (ro : Roster) (s : State), s.ringOn = true ∧ s.flag .mgt (linkFld side) = true ∧ s.dupId = false ∧ s.ownElsewhere side
      ro = true) ∧
    (∃ (side : Side) (s : State), s.ringOn = true ∧ s.flag .mgt (linkFld side) = true ∧ s.flag .mgt (linkFld (otherSide side)) = true ∧
      s.dupId = true) ∧
    (∃ (fr : RingFrame) (s : State), s.ringOn = true ∧ fr.dest ≠ s.ownChip ∧ fr.hopLimit.val ≤ 1) ∧
    (∃ (fr : RingFrame) (s : State), s.ringOn = true ∧ fr.dest ≠ s.ownChip ∧ 2 ≤ fr.hopLimit.val ∧ s.route fr.dest = 1) ∧
    (∃ (rq : RingReq) (x : RingSlot) (r : FrameResp) (s : State), requestWhole rq = true ∧ s.dupId = false ∧ s.mgtTakes = true ∧ s.loaded =
      true ∧ s.slot rq.owner rq.origin = some x ∧ x.seq = rq.seq ∧ x.resp = some r ∧ s.route rq.origin = 1) ∧
    (∃ (rq : RingReq) (s : State), s.dupId = false ∧ s.mgtTakes = true ∧ s.loaded = true ∧ s.coreUp = true ∧ s.busyWith (.ring rq.owner
      rq.origin) = false ∧ s.slot rq.owner rq.origin = none ∧ rq.write = false ∧ rq.waddr = 0x18 ∧ rq.words.length = 1 ∧ s.mgtSettled =
      true ∧ s.route rq.origin = 1) ∧
    (∃ (rq : RingReq) (x : RingSlot) (s : State), requestWhole rq = true ∧ s.dupId = false ∧ s.mgtTakes = true ∧ s.loaded = true ∧ s.slot
      rq.owner rq.origin = some x ∧ x.seq = rq.seq ∧ x.resp = none) ∧
    (∃ (rq : RingReq) (x : RingSlot) (s : State), requestWhole rq = true ∧ s.dupId = false ∧ s.mgtTakes = true ∧ s.loaded = true ∧ s.slot
      rq.owner rq.origin = some x ∧ x.seq ≠ rq.seq ∧ x.resp = none) ∧
    (∃ (m : Master) (w : RemoteWait) (s : State), s.mgtTakes = true ∧ s.dupId = false ∧ (s.mport m).remote = some w ∧ w.aborted = false ∧
      (s.mport m).dropped = false) ∧
    (∃ (m : Master) (w : RemoteWait) (s : State), s.mgtTakes = true ∧ s.dupId = false ∧ (s.mport m).remote = some w ∧ w.aborted = false ∧
      w.busySeen = false ∧ w.resends < s.ringRetries) ∧
    (∃ (m : Master) (w : RemoteWait) (s : State), s.mgtTakes = true ∧ (s.mport m).remote = some w ∧ w.aborted = false ∧ w.busySeen = false ∧
      s.ringRetries ≤ w.resends) ∧
    (∃ (m : Master) (w : RemoteWait) (s : State), s.mgtTakes = true ∧ (s.mport m).remote = some w ∧ w.aborted = false ∧ w.busy = true) ∧
    (∃ (s : State), s.ringOn = true ∧ s.dupId = false) ∧
    (∃ (c : Chip) (n : Sem) (s : State), s.coreUp = true ∧ s.cfg .mgt F.MGT_RING_CFG_SEM_ORPHAN ≠ 0 ∧ c ≠ s.ownChip ∧ s.route c = 0 ∧ s.get
      .glb (F.GLB_SEMn_OWNER_HELD n.val) = 1 ∧ s.get .glb (F.GLB_SEMn_OWNER_ORIGIN n.val) = c.val) :=
  ⟨⟨0, ⟨2, 1⟩, (w0.putAll [(.mgt, F.MGT_CHIP_RING_EN, 1)]), by decide +kernel⟩,
   ⟨1, (w0.putAll [(.mgt, F.MGT_CHIP_RING_EN, 1)]), by decide +kernel⟩,
   ⟨0, (w0.putAll [(.mgt, F.MGT_CHIP_RING_EN, 1), (.mgt, F.MGT_RING_STATUS_LINK0_UP, 1)]), by decide +kernel⟩,
   ⟨0, ⟨2, 1, [⟨3, 1⟩], []⟩, (w0.putAll [(.mgt, F.MGT_CHIP_RING_EN, 1), (.mgt, F.MGT_RING_STATUS_LINK0_UP, 1)]), by decide +kernel⟩,
   ⟨0, ⟨2, 1, [⟨0, 1⟩, ⟨4, 2⟩], []⟩, (w0.putAll [(.mgt, F.MGT_CHIP_RING_EN, 1), (.mgt, F.MGT_RING_STATUS_LINK0_UP, 1)]), by decide +kernel⟩,
   ⟨0, (w0.putAll [(.mgt, F.MGT_CHIP_RING_EN, 1), (.mgt, F.MGT_RING_STATUS_LINK0_UP, 1), (.mgt, F.MGT_RING_STATUS_LINK1_UP, 1), (.mgt,
      F.MGT_RING_STATUS_DUP_ID, 1)]), by decide +kernel⟩,
   ⟨⟨2, 3, 1, .notice true true⟩, (w0.putAll [(.mgt, F.MGT_CHIP_RING_EN, 1)]), by decide +kernel⟩,
   ⟨⟨2, 3, 5, .notice true true⟩, ((fun s : State => s.put .mgt ⟨0x68, 4, 2⟩ 1) (w0.putAll [(.mgt, F.MGT_CHIP_RING_EN, 1)])),
      by decide +kernel⟩,
   ⟨⟨.a, 3, 7, false, false, 0x18, [⟨0xF, 0⟩]⟩, ⟨.a, 3, 7, some ⟨0, [⟨0, 9⟩], true⟩, [], 0, false⟩, ⟨0, [⟨0, 9⟩], true⟩, ((fun s : State =>
      { s with ringSlots := [⟨.a, 3, 7, some ⟨0, [⟨0, 9⟩], true⟩, [], 0, false⟩] }) ((fun s : State => s.put .mgt ⟨0x68, 6, 2⟩ 1)
      (w0.putAll [(.mgt, F.MGT_CHIP_RING_EN, 1)]))), by decide +kernel⟩,
   ⟨⟨.a, 3, 7, false, false, 0x18, [⟨0xF, 0⟩]⟩, ((fun s : State => s.put .mgt ⟨0x68, 6, 2⟩ 1) (w0.putAll [(.mgt, F.MGT_CHIP_RING_EN, 1)])),
      by decide +kernel⟩,
   ⟨⟨.a, 3, 7, false, false, 0x18, [⟨0xF, 0⟩]⟩, ⟨.a, 3, 7, none, [], 0, false⟩, ((fun s : State =>
      { s with ringSlots := [⟨.a, 3, 7, none, [], 0, false⟩] }) w0), by decide +kernel⟩,
   ⟨⟨.a, 3, 8, false, false, 0x18, [⟨0xF, 0⟩]⟩, ⟨.a, 3, 7, none, [], 0, false⟩, ((fun s : State =>
      { s with ringSlots := [⟨.a, 3, 7, none, [], 0, false⟩] }) w0), by decide +kernel⟩,
   ⟨.a, ⟨2, reqOf 0 5, 0, false, false, false⟩, ((fun s : State => s.mportWith .a (fun x =>
      { x with remote := some ⟨2, reqOf 0 5, 0, false, false, false⟩ })) w0), by decide +kernel⟩,
   ⟨.a, ⟨2, reqOf 0 5, 0, false, false, false⟩, ((fun s : State => s.mportWith .a (fun x =>
      { x with remote := some ⟨2, reqOf 0 5, 0, false, false, false⟩ })) (w0.putAll [(.mgt, F.MGT_RING_CFG_RETRIES, 3)])),
      by decide +kernel⟩,
   ⟨.a, ⟨2, reqOf 0 5, 3, false, false, false⟩, ((fun s : State => s.mportWith .a (fun x =>
      { x with remote := some ⟨2, reqOf 0 5, 3, false, false, false⟩ })) (w0.putAll [(.mgt, F.MGT_RING_CFG_RETRIES, 3)])),
      by decide +kernel⟩,
   ⟨.a, ⟨2, reqOf 0 5, 3, true, true, false⟩, ((fun s : State => s.mportWith .a (fun x =>
      { x with remote := some ⟨2, reqOf 0 5, 3, true, true, false⟩ })) w0), by decide +kernel⟩,
   ⟨(w0.putAll [(.mgt, F.MGT_CHIP_RING_EN, 1)]), by decide +kernel⟩,
   ⟨2, 4, ((fun s : State => (s.put .glb (F.GLB_SEMn_OWNER_HELD 4) 1).put .glb (F.GLB_SEMn_OWNER_ORIGIN 4) 2) (w0.putAll [(.mgt,
      F.MGT_RING_CFG_SEM_ORPHAN, 1)])), by decide +kernel⟩⟩

theorem witness_EventsAreRoutedPoppedAndPeeked :
    (∃ (s : State), s.coreUp = true) ∧
    (∃ (pg : Nat) (r : EventRecord) (rest : List EventRecord) (n : QueueIx) (s : State), s.coreUp = true ∧ s.loaded = true ∧ s.nextSource =
      some (pg, ⟨r :: rest, []⟩) ∧ s.routes n r.cls.toNat = true ∧ s.cfg .evq (F.EVQ_CFGn_MIN_PRI n.val) ≤ r.pri.val ∧ (n.val < 2 ∨
      s.cfgFlag .evq (F.EVQ_CFGn_OWN_ONLY n.val) = false ∨ s.subjectOf n r.subj = true) ∧ s.runs.any (AccessRun.popsQueue n) = false ∧
      ((s.queue n).levels[r.pri]).recs.length < 64) ∧
    (∃ (pg : Nat) (r : EventRecord) (rest : List EventRecord) (s : State), s.coreUp = true ∧ s.loaded = true ∧ s.nextSource = some (pg, ⟨r
      :: rest, []⟩) ∧ (∀ n : QueueIx, s.routes n r.cls.toNat = false)) ∧
    (∃ (who : Requester) (q : QueueIx) (s : State), s.reaches who .evq (0x40 + 0x40 * q.val) = true ∧ (s.popRecord q).isSome = true) ∧
    (∃ (who : Requester) (q : QueueIx) (s : State), s.reaches who .evq (0x40 + 0x40 * q.val) = true ∧ (s.popRecord q).isNone = true) ∧
    (∃ (q : QueueIx) (r : AccessRun) (x : EventRecord) (s : State), s.coreUp = true ∧ s.loaded = true ∧ s.popWaiter q = some r ∧ (s.queue
      q).handoff = some x ∧ r = ⟨.a, .single, false, false, 0x3040 + 0x40 * q.val, [⟨0xF, 0⟩], [], none⟩ ∧ s.mgtSettled = true) ∧
    (∃ (q : QueueIx) (r : AccessRun) (s : State), s.coreUp = true ∧ s.runs.find? (fun x => x.who == r.who && x.waitsOn.isSome) = some r ∧
      r.waitsOn = some q ∧ (s.queue q).handoff = none ∧ isMaster r.who = false ∧ r.kind = .single ∧ r.left.length = 1 ∧ r.done = []) ∧
    (∃ (who : Requester) (q : QueueIx) (s : State), s.takesWrite who .evq (0x78 + 0x40 * q.val) = true ∧ s.mgtSettled = true) :=
  ⟨⟨w0, by decide +kernel⟩,
   ⟨7, ⟨9, 2, 0, 6, false, false, false, false, true, 0, 0, .none⟩, [], 0, ((fun s : State => (s.setFifo 7 ⟨[⟨9, 2, 0, 6, false, false,
      false, false, true, 0, 0, .none⟩], []⟩).put .evq (F.EVQ_ROUTEn_CLASS_EN 0) 0xFFFF) w0), by decide +kernel⟩,
   ⟨7, ⟨9, 2, 0, 6, false, false, false, false, true, 0, 0, .none⟩, [], ((fun s : State => ((((s.setFifo 7 ⟨[⟨9, 2, 0, 6, false, false,
      false, false, true, 0, 0, .none⟩], []⟩).put .evq (F.EVQ_ROUTEn_CLASS_EN 0) 0).put .evq (F.EVQ_ROUTEn_CLASS_EN 1) 0).put .evq
      (F.EVQ_ROUTEn_CLASS_EN 2) 0).put .evq (F.EVQ_ROUTEn_CLASS_EN 3) 0) w0), by decide +kernel⟩,
   ⟨.a, 0, ((fun s : State => s.setQueue 0
      { s.queue 0 with levels := (s.queue 0).levels.set 6 ⟨[⟨9, 2, 0, 6, false, false, false, false, true, 0, 0, .none⟩], 0⟩ }) w0),
      by decide +kernel⟩,
   ⟨.a, 0, w0, by decide +kernel⟩,
   ⟨0, ⟨.a, .single, false, false, 0x3040, [⟨0xF, 0⟩], [], none⟩, ⟨9, 2, 0, 6, false, false, false, false, true, 0, 0, .none⟩, ((fun s :
      State => (s.setRuns [⟨.a, .single, false, false, 0x3040, [⟨0xF, 0⟩], [], none⟩]).setQueue 0
      { s.queue 0 with handoff := some ⟨9, 2, 0, 6, false, false, false, false, true, 0, 0, .none⟩ }) w0), by decide +kernel⟩,
   ⟨0, ⟨.h0, .single, false, false, 0x3040, [⟨0xF, 0⟩], [], none⟩, ((fun s : State => s.setRuns [⟨.h0, .single, false, false, 0x3040,
      [⟨0xF, 0⟩], [], none⟩]) w0), by decide +kernel⟩,
   ⟨.a, 0, ((fun s : State => s.setQueue 0
      { s.queue 0 with levels := (s.queue 0).levels.set 6 ⟨[⟨9, 2, 0, 6, false, false, false, false, true, 0, 0, .none⟩], 0⟩ }) w0),
      by decide +kernel⟩⟩

theorem witness_RegisterWritesAreTaken :
    (∃ (who : Requester) (pg : PageId) (off : Nat) (be : BitVec 4) (s : State), s.takesWrite who pg off = true ∧ isRwg pg off = false ∧
      isComplement pg off = false ∧ be ≠ 0) ∧
    (∃ (who : Requester) (pg : PageId) (off : Nat) (s : State), s.takesWrite who pg off = true ∧ isRwg pg off = true ∧ s.mgtSettled = true) ∧
    (∃ (who : Requester) (pg : PageId) (off : Nat) (v : Word) (s : State), s.reaches who pg (off + 4) = true ∧ s.denied who (some pg) (off +
      4) = false ∧ s.pair (s.identOf who) = some ⟨regAddr pg off, v⟩) ∧
    (∃ (who : Requester) (pg : PageId) (off : Nat) (v : Word) (w : Word) (s : State), s.reaches who pg (off + 4) = true ∧ s.denied who (some
      pg) (off + 4) = false ∧ s.pair (s.identOf who) = some ⟨regAddr pg off, v⟩ ∧ isRwg pg off = true ∧ isRwg pg (off + 4) = false ∧ w ≠
      ~~~v ∧ s.mgtSettled = true) ∧
    (∃ (i : Ident) (s : State), (s.pair i).isSome = true) ∧
    (∃ (who : Requester) (pg : PageId) (off : Nat) (s : State), isMaster who = false ∧ off < 0x1000 ∧ s.pageThere pg = true ∧ alwaysThere pg
      off = false ∧ s.clockOn pg = false) ∧
    (∃ (addr : Nat) (upset : Word) (s : State), s.coreUp = true ∧ 0x3060 = addr ∧ s.badFound .evq 0x60 = false ∧ ((s.upset addr
      upset).findParity addr).2.badFound .evq 0x60 = true) ∧
    (∃ (who : Requester) (pg : PageId) (s : State), hasHeader pg = true ∧ s.takesWrite who pg 4 = true) ∧
    (∃ (who : Requester) (pg : PageId) (s : State), hasHeader pg = true ∧ s.takesWrite who pg 4 = true) ∧
    (∃ (pg : PageId) (s : State), hasHeader pg = true ∧ s.get pg F.PAGE_STATUS_RESTARTING = 1) :=
  ⟨⟨.a, .evq, 0x60, 15, w0, by decide +kernel⟩,
   ⟨.a, .clk, 0x4C, w0, by decide +kernel⟩,
   ⟨.a, .hlt, 0x70, 0, ((fun s : State => s.setPair (s.identOf .a) (some ⟨0x7070, 0⟩)) w0), by decide +kernel⟩,
   ⟨.a, .hlt, 0x70, 0, 1, ((fun s : State => s.setPair (s.identOf .a) (some ⟨0x7070, 0⟩)) w0), by decide +kernel⟩,
   ⟨⟨0, 0⟩, ((fun s : State => s.setPair ⟨0, 0⟩ (some ⟨0x7070, 0⟩)) w0), by decide +kernel⟩,
   ⟨.h0, .grv, 0x40, ((fun s : State => { s with gclkOn := false }) w0), by decide +kernel⟩,
   ⟨0x3060, 0x100, w0, by decide +kernel⟩,
   ⟨.a, .hlt, w0, by decide +kernel⟩,
   ⟨.a, .hlt, w0, by decide +kernel⟩,
   ⟨.tcp 0, (w0.putAll [(.tcp 0, F.PAGE_STATUS_RESTARTING, 1)]), by decide +kernel⟩⟩

theorem witness_ResetAndGateWritesAreTaken :
    (∃ (who : Requester) (s : State), s.takesPair who .clk 0x4C = true ∧ s.committing = false) ∧
    (∃ (who : Requester) (s : State), s.takesPair who .clk 0x4C = true) ∧
    (∃ (who : Requester) (s : State), s.takesPair who .clk 0x4C = true) ∧
    (∃ (who : Requester) (s : State), s.takesPair who .clk 0x4C = true) ∧
    (∃ (who : Requester) (s : State), s.takesPair who .clk 0x4C = true) ∧
    (∃ (who : Requester) (s : State), s.takesPair who .clk 0x44 = true) ∧
    (∃ (who : Requester) (s : State), s.takesPair who .clk 0x44 = true) ∧
    (∃ (who : Requester) (s : State), s.takesPair who .clk 0x44 = true) ∧
    (∃ (who : Requester) (hi : Bool) (be : BitVec 4) (s : State), s.takesWrite who .clk (if hi then 0x58 else 0x54) = true ∧ be ≠ 0) ∧
    (∃ (who : Requester) (n : Sem) (s : State), s.reaches who .glb (0x100 + 16 * n.val) = true ∧ s.barred who = false ∧ s.get .glb
      (F.GLB_SEMn_OWNER_HELD n.val) = 0) ∧
    (∃ (who : Requester) (n : Sem) (s : State), s.reaches who .glb (0x100 + 16 * n.val) = true ∧ s.get .glb (F.GLB_SEMn_OWNER_HELD n.val) =
      1 ∧ s.semHeldBy n (s.identOf who) = false) ∧
    (∃ (who : Requester) (v : Word) (n : Sem) (s : State), s.takesPair who .glb 0x300 = true ∧ v.getLsbD n.val = true) ∧
    (∃ (who : Requester) (s : State), s.takesPair who .mgt 0x44 = true) :=
  ⟨⟨.a, w0, by decide +kernel⟩,
   ⟨.a, w0, by decide +kernel⟩,
   ⟨.a, w0, by decide +kernel⟩,
   ⟨.a, w0, by decide +kernel⟩,
   ⟨.a, w0, by decide +kernel⟩,
   ⟨.a, w0, by decide +kernel⟩,
   ⟨.a, w0, by decide +kernel⟩,
   ⟨.a, w0, by decide +kernel⟩,
   ⟨.a, false, 15, w0, by decide +kernel⟩,
   ⟨.a, 3, w0, by decide +kernel⟩,
   ⟨.a, 3, ((fun s : State => (s.put .glb (F.GLB_SEMn_OWNER_HELD 3) 1).put .glb (F.GLB_SEMn_OWNER_ORIGIN 3) 5) w0), by decide +kernel⟩,
   ⟨.a, 8, 3, ((fun s : State => s.put .glb (F.GLB_SEMn_OWNER_HELD 3) 1) w0), by decide +kernel⟩,
   ⟨.a, w0, by decide +kernel⟩⟩

theorem witness_StorePowerAndPortWritesAreTaken :
    (∃ (who : Requester) (be : BitVec 4) (s : State), s.takesWrite who .cfg 0x64 = true ∧ be ≠ 0) ∧
    (∃ (who : Requester) (s : State), s.reaches who .cfg 0x68 = true) ∧
    (∃ (who : Requester) (s : State), s.takesWrite who .cfg 0x5C = true) ∧
    (∃ (who : Requester) (s : State), s.takesWrite who .cfg 0x5C = true) ∧
    (∃ (who : Requester) (s : State), s.takesWrite who .cfg 0x5C = true) ∧
    (∃ (who : Requester) (single : Bool) (be : BitVec 4) (s : State), s.takesWrite who .bgt (if single then 0x44 else 0x40) = true ∧ be ≠ 0) ∧
    (∃ (who : Requester) (p : Port) (be : BitVec 4) (s : State), s.takesWrite who .bgt (0x80 + 4 * p.val) = true ∧ be ≠ 0) ∧
    (∃ (who : Requester) (p : Port) (s : State), s.takesWrite who (.vbs p) F.VBS_CTRL_FORCE_OFF.off = true) ∧
    (∃ (who : Requester) (p : Port) (s : State), s.takesWrite who (.tcp p) 0x4C = true) ∧
    (∃ (who : Requester) (p : Port) (s : State), s.reaches who (.con p) 0x4C = true ∧ (s.con p).rx ≠ []) ∧
    (∃ (who : Requester) (p : Port) (be : BitVec 4) (s : State), s.takesWrite who (.con p) 0x50 = true ∧ be ≠ 0) ∧
    (∃ (who : Requester) (p : Port) (s : State), s.takesWrite who (.tcp p) 0x90 = true) ∧
    (∃ (who : Requester) (p : Port) (s : State), s.takesWrite who (.tcp p) 0x90 = true) ∧
    (∃ (who : Requester) (p : Port) (s : State), s.takesWrite who (.tcp p) 0x90 = true) ∧
    (∃ (who : Requester) (p : Port) (s : State), s.takesWrite who (.tcp p) 0x90 = true) ∧
    (∃ (who : Requester) (p : Port) (s : State), s.takesWrite who (.tcp p) 0x90 = true) ∧
    (∃ (who : Requester) (p : Port) (s : State), s.takesWrite who (.tcp p) F.TCP_PD_POLICY_PD_EN.off = true) :=
  ⟨⟨.a, 15, w0, by decide +kernel⟩,
   ⟨.a, w0, by decide +kernel⟩,
   ⟨.a, w0, by decide +kernel⟩,
   ⟨.a, w0, by decide +kernel⟩,
   ⟨.a, w0, by decide +kernel⟩,
   ⟨.a, false, 15, w0, by decide +kernel⟩,
   ⟨.a, 0, 15, w0, by decide +kernel⟩,
   ⟨.a, 0, w0, by decide +kernel⟩,
   ⟨.a, 0, w0, by decide +kernel⟩,
   ⟨.a, 0, ((fun s : State => s.conWith 0 (fun c => { c with rx := [⟨65, false, true⟩] })) w0), by decide +kernel⟩,
   ⟨.a, 0, 15, w0, by decide +kernel⟩,
   ⟨.a, 0, w0, by decide +kernel⟩,
   ⟨.a, 0, w0, by decide +kernel⟩,
   ⟨.a, 0, w0, by decide +kernel⟩,
   ⟨.a, 0, w0, by decide +kernel⟩,
   ⟨.a, 0, w0, by decide +kernel⟩,
   ⟨.a, 0, w0, by decide +kernel⟩⟩

theorem witness_LinkPresentationAndGraverWritesAreTaken :
    (∃ (who : Requester) (f : Full) (s : State), s.takesWrite who (.ssp f) 0x50 = true) ∧
    (∃ (who : Requester) (f : Full) (s : State), s.takesWrite who (.ssp f) 0x50 = true) ∧
    (∃ (who : Requester) (f : Full) (s : State), s.takesWrite who (.ssp f) 0x50 = true) ∧
    (∃ (who : Requester) (f : Full) (s : State), s.takesWrite who (.ssp f) 0x58 = true) ∧
    (∃ (who : Requester) (f : Full) (s : State), s.takesWrite who (.ssp f) F.SSP_CFG_MAX_GEN.off = true) ∧
    (∃ (who : Requester) (u : Up) (s : State), s.takesWrite who (.ups u) F.UPS_CFG_MAX_GEN.off = true) ∧
    (∃ (who : Requester) (p : Port) (be : BitVec 4) (s : State), s.takesWrite who .prs (0x100 + 4 * p.val) = true ∧ be ≠ 0) ∧
    (∃ (who : Requester) (s : State), s.takesWrite who .prs 0x48 = true) ∧
    (∃ (who : Requester) (s : State), s.takesWrite who .prs 0x48 = true) ∧
    (∃ (who : Requester) (s : State), s.reaches who .epm 0x4C = true) ∧
    (∃ (who : Requester) (r : RingIx) (be : BitVec 4) (s : State), s.takesWrite who .grv (0x10C + 0x40 * r.val) = true ∧ be ≠ 0) ∧
    (∃ (who : Requester) (r : RingIx) (be : BitVec 4) (s : State), s.takesWrite who .grv (0x124 + 0x40 * r.val) = true ∧ be ≠ 0) ∧
    (∃ (who : Requester) (be : BitVec 4) (s : State), s.takesWrite who .grv 0x50 = true ∧ be ≠ 0) ∧
    (∃ (who : Requester) (s : State), s.reaches who .grv 0x54 = true) ∧
    (∃ (who : Requester) (r : RingIx) (off : Nat) (be : BitVec 4) (s : State), s.takesWrite who .grv (0x100 + 0x40 * r.val + off % 0x40) =
      true ∧ be ≠ 0) ∧
    (∃ (who : Requester) (w : WinIx) (s : State), s.takesWrite who .drc (0x88 + 16 * w.val) = true ∧ fldSet ⟨0x88 + 16 * w.val, 0, 2⟩ (s.rd
      (regAddr .drc (0x88 + 16 * w.val))) 1 ≠ 0) ∧
    (∃ (who : Requester) (w : WinIx) (s : State), s.takesWrite who .drc (0x88 + 16 * w.val) = true) ∧
    (∃ (who : Requester) (s : State), s.takesWrite who .drc 0x60 = true) :=
  ⟨⟨.a, 0, w0, by decide +kernel⟩,
   ⟨.a, 0, w0, by decide +kernel⟩,
   ⟨.a, 0, w0, by decide +kernel⟩,
   ⟨.a, 0, w0, by decide +kernel⟩,
   ⟨.a, 0, w0, by decide +kernel⟩,
   ⟨.a, 0, w0, by decide +kernel⟩,
   ⟨.a, 0, 15, w0, by decide +kernel⟩,
   ⟨.a, w0, by decide +kernel⟩,
   ⟨.a, w0, by decide +kernel⟩,
   ⟨.a, w0, by decide +kernel⟩,
   ⟨.a, 1, 15, w0, by decide +kernel⟩,
   ⟨.a, 1, 15, w0, by decide +kernel⟩,
   ⟨.a, 15, w0, by decide +kernel⟩,
   ⟨.a, w0, by decide +kernel⟩,
   ⟨.a, 1, 0x14, 15, w0, by decide +kernel⟩,
   ⟨.a, 1, w0, by decide +kernel⟩,
   ⟨.a, 1, w0, by decide +kernel⟩,
   ⟨.a, w0, by decide +kernel⟩⟩

theorem witness_WindowAndHealthWritesAreTaken :
    (∃ (who : Requester) (i : Inst) (s : State), s.takesWrite who (.win i) 0x3FC = true) ∧
    (∃ (who : Requester) (s : State), s.takesWrite who .cpt 0x48 = true) ∧
    (∃ (who : Requester) (i : Inst) (off : Byte) (s : State), s.reaches who (.win i) (4 * off.toNat) = true) ∧
    (∃ (who : Requester) (i : Inst) (off : Byte) (s : State), s.takesWrite who (.win i) (4 * off.toNat) = true) ∧
    (∃ (who : Requester) (hi : Bool) (s : State), s.takesWrite who .hlt (if hi then 0x6C else 0x68) = true) ∧
    (∃ (who : Requester) (hi : Bool) (s : State), s.takesWrite who .hlt (if hi then 0x64 else 0x60) = true) ∧
    (∃ (who : Requester) (s : State), s.takesPair who .hlt 0x70 = true) ∧
    (∃ (who : Requester) (s : State), s.takesPair who .hlt 0x70 = true) ∧
    (∃ (who : Requester) (s : State), s.takesWrite who .hlt 0x5C = true) ∧
    (∃ (who : Requester) (s : State), s.takesWrite who .hlt 0x98 = true ∧ (s.get .hlt F.HLT_UPD_CFG_KIND = 0 ∨ s.get .hlt F.HLT_UPD_CFG_KIND
      = 3)) ∧
    (∃ (who : Requester) (s : State), s.takesWrite who .hlt 0x98 = true ∧ s.get .hlt F.HLT_UPD_CFG_KIND = 1) ∧
    (∃ (who : Requester) (s : State), s.takesWrite who .hlt 0x98 = true ∧ s.get .hlt F.HLT_UPD_CFG_KIND = 2) ∧
    (∃ (r : Fin 8) (n : Nat) (s : State), s.health.upd = some (r, n)) :=
  ⟨⟨.a, 0, (w0.putAll [(.glb, F.GLB_MODE_COMPAT, 1)]), by decide +kernel⟩,
   ⟨.a, (w0.putAll [(.glb, F.GLB_MODE_COMPAT, 1)]), by decide +kernel⟩,
   ⟨.a, 0, 3, (w0.putAll [(.glb, F.GLB_MODE_COMPAT, 1)]), by decide +kernel⟩,
   ⟨.a, 0, 3, (w0.putAll [(.glb, F.GLB_MODE_COMPAT, 1)]), by decide +kernel⟩,
   ⟨.a, false, w0, by decide +kernel⟩,
   ⟨.a, false, w0, by decide +kernel⟩,
   ⟨.a, w0, by decide +kernel⟩,
   ⟨.a, w0, by decide +kernel⟩,
   ⟨.a, w0, by decide +kernel⟩,
   ⟨.a, w0, by decide +kernel⟩,
   ⟨.a, (w0.putAll [(.hlt, F.HLT_UPD_CFG_KIND, 1)]), by decide +kernel⟩,
   ⟨.a, (w0.putAll [(.hlt, F.HLT_UPD_CFG_KIND, 2)]), by decide +kernel⟩,
   ⟨2, 3, ((fun s : State => s.healthWith (fun h => { h with upd := some (2, 3) })) (w0.putAll [(.hlt, F.HLT_UPD_STATUS_BUSY, 1)])),
      by decide +kernel⟩⟩

theorem witness_Usb2PortFollowsItsDevice :
    (∃ (p : Port) (s : State), s.portUp p = true ∧ s.u2St p = 2 ∧ s.u2Barred p = false ∧ s.curOwner p ≠ 0) ∧
    (∃ (p : Port) (s : State), s.curOwner p = 0) ∧
    (∃ (p : Port) (s : State), s.portUp p = true ∧ (s.u2p p).connected = true ∧ 3 ≤ s.u2St p ∧ s.u2St p ≤ 8) ∧
    (∃ (p : Port) (s : State), s.portUp p = true ∧ s.u2St p = 5 ∧ (s.ownerCtx p).isSome = true) ∧
    (∃ (p : Port) (s : State), s.portUp p = true ∧ s.u2St p = 4 ∧ s.chirpAllowed p = true ∧ (s.u2p p).lowSpeed = false) ∧
    (∃ (p : Port) (s : State), s.u2St p = 4) ∧
    (∃ (p : Port) (c : Fin 2) (s : State), (s.u2p p).rstView.getLsbD c.val = true) ∧
    (∃ (p : Port) (s : State), s.u2St p = 7 ∧ (s.u2p p).fromL1 = false) ∧
    (∃ (p : Port) (s : State), s.u2St p = 7 ∧ (s.u2p p).fromL1 = true) ∧
    (∃ (p : Port) (hird : BitVec 4) (rwe : Bool) (s : State), (s.u2p p).lpm = some (hird, rwe)) ∧
    (∃ (p : Port) (hc : HubCtx) (s : State), s.portUp p = true ∧ s.u2St p = 6 ∧ s.ownerCtx p = some hc ∧ s.ctxActive hc = true ∧ (s.hub
      hc).suspended = false ∧ (s.hub hc).upK = false) :=
  ⟨⟨0, (w0.putAll [(.u2p 0, F.U2P_STATUS_STATE, 2), (.prs, F.PRS_OWNERn_CUR 0, 1)]), by decide +kernel⟩,
   ⟨0, (w0.putAll [(.prs, F.PRS_OWNERn_CUR 0, 0)]), by decide +kernel⟩,
   ⟨0, ((fun s : State => s.u2pWith 0 (fun u => { u with connected := true })) (w0.putAll [(.u2p 0, F.U2P_STATUS_STATE, 5)])),
      by decide +kernel⟩,
   ⟨0, (w0.putAll [(.u2p 0, F.U2P_STATUS_STATE, 5), (.prs, F.PRS_OWNERn_CUR 0, 1), (.prs, F.PRS_Uu_STATUS_ATTACHED 0, 1)]),
      by decide +kernel⟩,
   ⟨0, (w0.putAll [(.u2p 0, F.U2P_STATUS_STATE, 4), (.prs, F.PRS_OWNERn_CUR 0, 3)]), by decide +kernel⟩,
   ⟨0, (w0.putAll [(.u2p 0, F.U2P_STATUS_STATE, 4)]), by decide +kernel⟩,
   ⟨0, 1, ((fun s : State => s.u2pWith 0 (fun u => { u with rstView := 2 })) (w0.putAll [(.u2p 0, F.U2P_STATUS_STATE, 3)])),
      by decide +kernel⟩,
   ⟨0, (w0.putAll [(.u2p 0, F.U2P_STATUS_STATE, 7)]), by decide +kernel⟩,
   ⟨0, ((fun s : State => s.u2pWith 0 (fun u => { u with fromL1 := true })) (w0.putAll [(.u2p 0, F.U2P_STATUS_STATE, 7)])),
      by decide +kernel⟩,
   ⟨0, 3, true, ((fun s : State => s.u2pWith 0 (fun u => { u with lpm := some (3, true) })) w0), by decide +kernel⟩,
   ⟨0, .plate 0 0, (w0.putAll [(.u2p 0, F.U2P_STATUS_STATE, 6), (.prs, F.PRS_OWNERn_CUR 0, 1), (.prs, F.PRS_Uu_STATUS_ATTACHED 0, 1)]),
      by decide +kernel⟩⟩

theorem witness_Usb2ContextsResetSuspendAndWake :
    (∃ (hc : HubCtx) (s : State), s.ctxActive hc = true ∧ s.compat = false ∧ hc ≠ .pres 0 ∧ hc ≠ .pres 1) ∧
    (∃ (u : Up) (s : State), s.ctxActive (.pres u) = true) ∧
    (∃ (hc : HubCtx) (s : State), s.ctxActive hc = true ∧ (s.hub hc).suspended = false) ∧
    (∃ (hc : HubCtx) (s : State), s.ctxActive hc = true ∧ (s.hub hc).suspended = true) ∧
    (∃ (hc : HubCtx) (p : Port) (s : State), p ∈ s.ctxPorts hc) ∧
    (∃ (hc : HubCtx) (s : State), s.ctxHears hc = true) ∧
    (∃ (hc : HubCtx) (s : State), s.ctxHears hc = true) ∧
    (∃ (hc : HubCtx) (s : State), s.ctxHears hc = true) ∧
    (∃ (hc : HubCtx) (s : State), s.ctxHears hc = true) ∧
    (∃ (hc : HubCtx) (sel : Nat) (s : State), s.ctxHears hc = true ∧ sel ≤ 1) ∧
    (∃ (hc : HubCtx) (alt : Nat) (s : State), s.ctxHears hc = true ∧ (s.hub hc).st = 3 ∧ s.offersMtt hc = true ∧ alt ≤ 1) ∧
    (∃ (hc : HubCtx) (s : State), s.ctxHears hc = true) ∧
    (∃ (hc : HubCtx) (s : State), s.ctxHears hc = true ∧ (s.hub hc).st = 3 ∧ (∀ i, i ≤ s.hubPorts hc → (s.viewOf hc i).2 = 0)) ∧
    (∃ (hc : HubCtx) (i : Nat) (s : State), s.ctxHears hc = true ∧ (s.hub hc).st = 3 ∧ 1 ≤ i ∧ i ≤ s.hubPorts hc ∧ (s.viewOf hc i).2 ≠ 0) ∧
    (∃ (hc : HubCtx) (s : State), s.ctxHears hc = true ∧ (s.hub hc).st ≠ 3) ∧
    (∃ (hc : HubCtx) (cfg : Nat) (s : State), s.ctxHears hc = true ∧ 2 ≤ (s.hub hc).st.val ∧ cfg ≤ 1) ∧
    (∃ (hc : HubCtx) (desc : DescId) (lang : BitVec 16) (s : State), s.ctxHears hc = true ∧ s.hubDesc hc desc.kind.toNat desc.idx.toNat
      lang.toNat = none) ∧
    (∃ (hc : HubCtx) (desc : DescId) (lang : BitVec 16) (d : List Byte) (s : State), s.ctxHears hc = true ∧ s.hubDesc hc desc.kind.toNat
      desc.idx.toNat lang.toNat = some d) :=
  ⟨⟨.plate 0 0, (w0.putAll [(.prs, F.PRS_OWNERn_CUR 0, 1), (.prs, F.PRS_Uu_STATUS_ATTACHED 0, 1)]), by decide +kernel⟩,
   ⟨0, (w0.putAll [(.prs, F.PRS_OWNERn_CUR 0, 1), (.prs, F.PRS_Uu_STATUS_ATTACHED 0, 1)]), by decide +kernel⟩,
   ⟨.plate 0 0, (w0.putAll [(.prs, F.PRS_OWNERn_CUR 0, 1), (.prs, F.PRS_Uu_STATUS_ATTACHED 0, 1)]), by decide +kernel⟩,
   ⟨.plate 0 0, ((fun s : State => s.hubWith (.plate 0 0) (fun h => { h with suspended := true })) (w0.putAll [(.prs, F.PRS_OWNERn_CUR 0,
      1), (.prs, F.PRS_Uu_STATUS_ATTACHED 0, 1)])), by decide +kernel⟩,
   ⟨.plate 0 0, 1, ((fun s : State => s.u2pWith 1 (fun u => { u with hold2 := 1 })) w0), by decide +kernel⟩,
   ⟨.plate 0 0, (w0.putAll [(.prs, F.PRS_OWNERn_CUR 0, 1), (.prs, F.PRS_Uu_STATUS_ATTACHED 0, 1)]), by decide +kernel⟩,
   ⟨.plate 0 0, (w0.putAll [(.prs, F.PRS_OWNERn_CUR 0, 1), (.prs, F.PRS_Uu_STATUS_ATTACHED 0, 1)]), by decide +kernel⟩,
   ⟨.plate 0 0, (w0.putAll [(.prs, F.PRS_OWNERn_CUR 0, 1), (.prs, F.PRS_Uu_STATUS_ATTACHED 0, 1)]), by decide +kernel⟩,
   ⟨.plate 0 0, (w0.putAll [(.prs, F.PRS_OWNERn_CUR 0, 1), (.prs, F.PRS_Uu_STATUS_ATTACHED 0, 1)]), by decide +kernel⟩,
   ⟨.plate 0 0, 1, (w0.putAll [(.prs, F.PRS_OWNERn_CUR 0, 1), (.prs, F.PRS_Uu_STATUS_ATTACHED 0, 1)]), by decide +kernel⟩,
   ⟨.plate 0 0, 1, ((fun s : State => s.hubWith (.plate 0 0) (fun h => { h with st := 3, speed := 2 })) (w0.putAll [(.prs, F.PRS_OWNERn_CUR
      0, 1), (.prs, F.PRS_Uu_STATUS_ATTACHED 0, 1)])), by decide +kernel⟩,
   ⟨.plate 0 0, (w0.putAll [(.prs, F.PRS_OWNERn_CUR 0, 1), (.prs, F.PRS_Uu_STATUS_ATTACHED 0, 1)]), by decide +kernel⟩,
   ⟨.plate 0 0, ((fun s : State => s.hubWith (.plate 0 0) (fun h => { h with st := 3 })) (w0.putAll [(.prs, F.PRS_OWNERn_CUR 0, 1), (.prs,
      F.PRS_Uu_STATUS_ATTACHED 0, 1)])), by decide +kernel⟩,
   ⟨.plate 0 0, 1, ((fun s : State => s.u2pWith 0 (fun u => { u with chg := u.chg.set 0 1 })) ((fun s : State => s.hubWith (.plate 0 0)
      (fun h => { h with st := 3 })) (w0.putAll [(.prs, F.PRS_OWNERn_CUR 0, 1), (.prs, F.PRS_Uu_STATUS_ATTACHED 0, 1)]))),
      by decide +kernel⟩,
   ⟨.plate 0 0, (w0.putAll [(.prs, F.PRS_OWNERn_CUR 0, 1), (.prs, F.PRS_Uu_STATUS_ATTACHED 0, 1)]), by decide +kernel⟩,
   ⟨.plate 0 0, 1, ((fun s : State => s.hubWith (.plate 0 0) (fun h => { h with st := 2 })) (w0.putAll [(.prs, F.PRS_OWNERn_CUR 0, 1),
      (.prs, F.PRS_Uu_STATUS_ATTACHED 0, 1)])), by decide +kernel⟩,
   ⟨.plate 0 0, ⟨0x77, 0⟩, 0, (w0.putAll [(.prs, F.PRS_OWNERn_CUR 0, 1), (.prs, F.PRS_Uu_STATUS_ATTACHED 0, 1)]), by decide +kernel⟩,
   ⟨.plate 0 0, ⟨1, 0⟩, 0, ((w0.hubDesc (.plate 0 0) 1 0 0).getD []), (w0.putAll [(.prs, F.PRS_OWNERn_CUR 0, 1), (.prs,
      F.PRS_Uu_STATUS_ATTACHED 0, 1)]), by decide +kernel⟩⟩

theorem witness_Usb2PortRequestsAreAnswered :
    (∃ (hc : HubCtx) (n : Nat) (p : Port) (s : State), s.ctxHears hc = true ∧ s.hubPort hc n = some p ∧ n ≤ s.hubPorts hc ∧ s.ownsPort hc p
      = true ∧ (s.vbs p).tripFresh = false ∧ s.u2St p = 5 ∧ s.u2Barred p = false) ∧
    (∃ (hc : HubCtx) (n : Nat) (p : Port) (s : State), s.ctxHears hc = true ∧ s.hubPort hc n = some p ∧ n ≤ s.hubPorts hc ∧ s.ownsPort hc p
      = true ∧ (s.vbs p).tripFresh = false ∧ s.u2St p = 5) ∧
    (∃ (hc : HubCtx) (n : Nat) (p : Port) (s : State), s.ctxHears hc = true ∧ s.hubPort hc n = some p ∧ n ≤ s.hubPorts hc ∧ s.ownsPort hc p
      = true ∧ (s.vbs p).tripFresh = false ∧ s.u2St p = 6) ∧
    (∃ (hc : HubCtx) (n : Nat) (p : Port) (s : State), s.ctxHears hc = true ∧ s.hubPort hc n = some p ∧ n ≤ s.hubPorts hc ∧ s.ownsPort hc p
      = true ∧ (s.vbs p).tripFresh = false ∧ 4 ≤ s.u2St p ∧ s.u2St p ≤ 8) ∧
    (∃ (hc : HubCtx) (n : Nat) (p : Port) (s : State), s.ctxHears hc = true ∧ s.hubPort hc n = some p ∧ n ≤ s.hubPorts hc ∧ s.ownsPort hc p
      = true ∧ (s.vbs p).tripFresh = false ∧ s.compat = false) ∧
    (∃ (hc : HubCtx) (n : Nat) (p : Port) (s : State), s.ctxHears hc = true ∧ s.hubPort hc n = some p ∧ n ≤ s.hubPorts hc ∧ s.ownsPort hc p
      = true ∧ (s.vbs p).tripFresh = false ∧ s.compat = false) ∧
    (∃ (hc : HubCtx) (n : Nat) (p : Port) (sel : Nat) (s : State), s.ctxHears hc = true ∧ s.hubPort hc n = some p ∧ n ≤ s.hubPorts hc ∧
      s.ownsPort hc p = true ∧ (s.vbs p).tripFresh = false ∧ (s.hub hc).st = 3 ∧ (s.u2St p = 2 ∨ s.u2St p = 3 ∨ s.u2St p = 6) ∧ 1 ≤ sel
      ∧ sel ≤ 5) ∧
    (∃ (hc : HubCtx) (n : Nat) (p : Port) (s : State), s.ctxHears hc = true ∧ s.hubPort hc n = some p ∧ n ≤ s.hubPorts hc ∧ s.ownsPort hc p
      = true ∧ (s.vbs p).tripFresh = false ∧ s.u2St p = 5 ∧ 2 ≤ s.get (.u2p p) F.U2P_STATUS_SPEED ∧ s.l1On p = true) ∧
    (∃ (hc : HubCtx) (n : Nat) (p : Port) (s : State), s.ctxHears hc = true ∧ s.hubPort hc n = some p ∧ n ≤ s.hubPorts hc ∧ s.ownsPort hc p
      = true ∧ (s.vbs p).tripFresh = false ∧ s.u2St p = 8) ∧
    (∃ (hc : HubCtx) (n : Nat) (p : Port) (sel : Nat) (s : State), s.ctxHears hc = true ∧ s.hubPort hc n = some p ∧ n ≤ s.hubPorts hc ∧
      s.ownsPort hc p = true ∧ (s.vbs p).tripFresh = false ∧ 16 ≤ sel ∧ sel ≤ 20) ∧
    (∃ (hc : HubCtx) (n : Nat) (p : Port) (s : State), s.ctxHears hc = true ∧ s.hubPort hc n = some p ∧ n ≤ s.hubPorts hc ∧ s.ownsPort hc p
      = true ∧ (s.vbs p).tripFresh = false) ∧
    (∃ (hc : HubCtx) (n : Nat) (s : State), s.ctxHears hc = true ∧ (n = 0 ∨ s.hubPorts hc < n)) ∧
    (∃ (hc : HubCtx) (n : Nat) (p : Port) (s : State), s.ctxHears hc = true ∧ s.hubPort hc n = some p ∧ n ≤ s.hubPorts hc ∧ s.ownsPort hc p
      = true ∧ (s.vbs p).tripFresh = true) :=
  ⟨⟨.plate 0 0, 1, 0, (w0.putAll [(.u2p 0, F.U2P_STATUS_STATE, 5), (.prs, F.PRS_OWNERn_CUR 0, 1), (.prs, F.PRS_Uu_STATUS_ATTACHED 0, 1)]),
      by decide +kernel⟩,
   ⟨.plate 0 0, 1, 0, (w0.putAll [(.u2p 0, F.U2P_STATUS_STATE, 5), (.prs, F.PRS_OWNERn_CUR 0, 1), (.prs, F.PRS_Uu_STATUS_ATTACHED 0, 1)]),
      by decide +kernel⟩,
   ⟨.plate 0 0, 1, 0, (w0.putAll [(.u2p 0, F.U2P_STATUS_STATE, 6), (.prs, F.PRS_OWNERn_CUR 0, 1), (.prs, F.PRS_Uu_STATUS_ATTACHED 0, 1)]),
      by decide +kernel⟩,
   ⟨.plate 0 0, 1, 0, (w0.putAll [(.u2p 0, F.U2P_STATUS_STATE, 5), (.prs, F.PRS_OWNERn_CUR 0, 1), (.prs, F.PRS_Uu_STATUS_ATTACHED 0, 1)]),
      by decide +kernel⟩,
   ⟨.plate 0 0, 1, 0, (w0.putAll [(.u2p 0, F.U2P_STATUS_STATE, 1), (.prs, F.PRS_OWNERn_CUR 0, 1), (.prs, F.PRS_Uu_STATUS_ATTACHED 0, 1)]),
      by decide +kernel⟩,
   ⟨.plate 0 0, 1, 0, (w0.putAll [(.u2p 0, F.U2P_STATUS_STATE, 5), (.prs, F.PRS_OWNERn_CUR 0, 1), (.prs, F.PRS_Uu_STATUS_ATTACHED 0, 1)]),
      by decide +kernel⟩,
   ⟨.plate 0 0, 1, 0, 4, ((fun s : State => s.hubWith (.plate 0 0) (fun h => { h with st := 3 })) (w0.putAll [(.u2p 0, F.U2P_STATUS_STATE,
      3), (.prs, F.PRS_OWNERn_CUR 0, 1), (.prs, F.PRS_Uu_STATUS_ATTACHED 0, 1)])), by decide +kernel⟩,
   ⟨.plate 0 0, 1, 0, (w0.putAll [(.u2p 0, F.U2P_STATUS_STATE, 5), (.u2p 0, F.U2P_STATUS_SPEED, 3), (.u2h 0, F.U2H_CFG_LPM_EN, 1), (.u2p 0,
      F.U2P_CFG_L1_EN, 1), (.prs, F.PRS_OWNERn_CUR 0, 1), (.prs, F.PRS_Uu_STATUS_ATTACHED 0, 1)]), by decide +kernel⟩,
   ⟨.plate 0 0, 1, 0, (w0.putAll [(.u2p 0, F.U2P_STATUS_STATE, 8), (.prs, F.PRS_OWNERn_CUR 0, 1), (.prs, F.PRS_Uu_STATUS_ATTACHED 0, 1)]),
      by decide +kernel⟩,
   ⟨.plate 0 0, 1, 0, 16, ((fun s : State => s.u2pWith 0 (fun u => { u with chg := u.chg.set 0 1 })) (w0.putAll [(.prs, F.PRS_OWNERn_CUR 0,
      1), (.prs, F.PRS_Uu_STATUS_ATTACHED 0, 1)])), by decide +kernel⟩,
   ⟨.plate 0 0, 1, 0, (w0.putAll [(.u2p 0, F.U2P_STATUS_STATE, 5), (.prs, F.PRS_OWNERn_CUR 0, 1), (.prs, F.PRS_Uu_STATUS_ATTACHED 0, 1)]),
      by decide +kernel⟩,
   ⟨.plate 0 0, 17, (w0.putAll [(.prs, F.PRS_OWNERn_CUR 0, 1), (.prs, F.PRS_Uu_STATUS_ATTACHED 0, 1)]), by decide +kernel⟩,
   ⟨.plate 0 0, 1, 0, ((fun s : State => s.vbsWith 0 (fun v => { v with tripFresh := true })) (w0.putAll [(.prs, F.PRS_OWNERn_CUR 0, 1),
      (.prs, F.PRS_Uu_STATUS_ATTACHED 0, 1)])), by decide +kernel⟩⟩

theorem witness_TransactionTranslatorsServeSplits :
    (∃ (hc : HubCtx) (n : Nat) (p : Port) (sp : Split) (s : State), s.ctxHears hc = true ∧ s.hubPort hc n = some p ∧ n ≤ s.hubPorts hc ∧
      s.ownsPort hc p = true ∧ (s.hub hc).speed = 2 ∧ n ≠ 0 ∧ periodic sp.ty = false ∧ s.flag (.u2p (s.ttPort p))
      F.U2P_TT_STATUS_STOPPED = false ∧ s.splitPort p true = true ∧ (s.u2p (s.ttPort p)).freeBuf.isSome = true) ∧
    (∃ (hc : HubCtx) (n : Nat) (p : Port) (sp : Split) (s : State), s.ctxHears hc = true ∧ s.hubPort hc n = some p ∧ n ≤ s.hubPorts hc ∧
      s.ownsPort hc p = true ∧ (s.hub hc).speed = 2 ∧ n ≠ 0 ∧ periodic sp.ty = false ∧ s.splitPort p true = true ∧ (s.u2p (s.ttPort
      p)).freeBuf = none) ∧
    (∃ (hc : HubCtx) (n : Nat) (p : Port) (sp : Split) (e : TtEntry) (r : TtResult) (a : Answer) (s : State), s.ctxHears hc = true ∧
      s.hubPort hc n = some p ∧ n ≤ s.hubPorts hc ∧ s.ownsPort hc p = true ∧ (s.hub hc).speed = 2 ∧ n ≠ 0 ∧ periodic sp.ty = false ∧
      ((s.u2p (s.ttPort p)).nonper.find? (fun x => x.2.is p sp)).map (·.2) = some e ∧ e.dropped = false ∧ e.result = some r ∧
      resultAnswer r = some a) ∧
    (∃ (hc : HubCtx) (n : Nat) (p : Port) (sp : Split) (s : State), s.ctxHears hc = true ∧ s.hubPort hc n = some p ∧ n ≤ s.hubPorts hc ∧
      s.ownsPort hc p = true ∧ (s.hub hc).speed = 2 ∧ n ≠ 0 ∧ periodic sp.ty = false ∧ (s.u2p (s.ttPort p)).nonper = []) ∧
    (∃ (p : Port) (b : Fin 4) (e : TtEntry) (rest : List (Fin 4 × TtEntry)) (fin : TtDone) (s : State), fin.per = false ∧ (s.u2p (s.ttPort
      p)).nonper = (b, e) :: rest ∧ ttWaits (s.flag (.u2p (s.ttPort p)) F.U2P_TT_STATUS_STOPPED) e = true) ∧
    (∃ (p : Port) (e : TtEntry) (rest : List TtEntry) (fin : TtDone) (s : State), fin.per = true ∧ (s.u2p (s.ttPort p)).periodic = e :: rest
      ∧ ttWaits (s.flag (.u2p (s.ttPort p)) F.U2P_TT_STATUS_STOPPED) e = true ∧ e.split.inDir = false) ∧
    (∃ (p : Port) (e : TtEntry) (rest : List TtEntry) (at_ : TtAt) (s : State), (s.u2p (s.ttPort at_.port)).periodic = e :: rest ∧ e.result
      = none ∧ e.dropped = false ∧ e.begun = false ∧ e.split.inDir = true ∧ at_.onBus = false ∧ e.port = p) ∧
    (∃ (p : Port) (e : TtEntry) (rest : List TtEntry) (s : State), (s.u2p (s.ttPort p)).periodic = e :: rest ∧ e.result.isSome = true) ∧
    (∃ (hc : HubCtx) (n : Nat) (p : Port) (s : State), s.ctxHears hc = true ∧ s.hubPort hc n = some p ∧ n ≤ s.hubPorts hc ∧ s.ownsPort hc p
      = true) ∧
    (∃ (hc : HubCtx) (n : Nat) (p : Port) (s : State), s.ctxHears hc = true ∧ s.hubPort hc n = some p ∧ n ≤ s.hubPorts hc ∧ s.ownsPort hc p
      = true) ∧
    (∃ (hc : HubCtx) (n : Nat) (p : Port) (s : State), s.ctxHears hc = true ∧ s.hubPort hc n = some p ∧ n ≤ s.hubPorts hc ∧ s.ownsPort hc p
      = true) ∧
    (∃ (hc : HubCtx) (s : State), s.ctxHears hc = true ∧ (s.hub hc).speed = 2) ∧
    (∃ (p : Port) (hc : HubCtx) (s : State), s.ownerCtx p = some hc ∧ s.ctxHears hc = true ∧ s.repeatsUp hc p = true) ∧
    (∃ (hc : HubCtx) (s : State), s.ctxHears hc = true ∧ (s.hub hc).speed = 1) ∧
    (∃ (hc : HubCtx) (s : State), s.ctxHears hc = true) :=
  ⟨⟨.plate 0 0, 1, 0, ⟨5, 1, false, .bulk, [1, 2]⟩, ((fun s : State => s.hubWith (.plate 0 0) (fun h => { h with speed := 2 })) (w0.putAll
      [(.u2p 0, F.U2P_STATUS_STATE, 5), (.prs, F.PRS_OWNERn_CUR 0, 1), (.prs, F.PRS_Uu_STATUS_ATTACHED 0, 1)])), by decide +kernel⟩,
   ⟨.plate 0 0, 1, 0, ⟨5, 1, false, .bulk, [1, 2]⟩, ((fun s : State => s.u2pWith 0 (fun u =>
      { u with nonper := [0, 1, 2, 3].map (fun b => (b, ⟨0, ⟨5, 1, false, .bulk, []⟩, false, none, false⟩)) })) ((fun s : State =>
      s.hubWith (.plate 0 0) (fun h => { h with speed := 2 })) (w0.putAll [(.u2p 0, F.U2P_STATUS_STATE, 5), (.prs, F.PRS_OWNERn_CUR 0,
      1), (.prs, F.PRS_Uu_STATUS_ATTACHED 0, 1)]))), by decide +kernel⟩,
   ⟨.plate 0 0, 1, 0, ⟨5, 1, false, .bulk, [1, 2]⟩, ⟨0, ⟨5, 1, false, .bulk, [1, 2]⟩, true, some .ack, false⟩, .ack, .ack, ((fun s : State
      => s.u2pWith 0 (fun u => { u with nonper := [(0, ⟨0, ⟨5, 1, false, .bulk, [1, 2]⟩, true, some .ack, false⟩)] })) ((fun s : State
      => s.hubWith (.plate 0 0) (fun h => { h with speed := 2 })) (w0.putAll [(.u2p 0, F.U2P_STATUS_STATE, 5), (.prs, F.PRS_OWNERn_CUR
      0, 1), (.prs, F.PRS_Uu_STATUS_ATTACHED 0, 1)]))), by decide +kernel⟩,
   ⟨.plate 0 0, 1, 0, ⟨5, 1, false, .bulk, [1, 2]⟩, ((fun s : State => s.hubWith (.plate 0 0) (fun h => { h with speed := 2 })) (w0.putAll
      [(.u2p 0, F.U2P_STATUS_STATE, 5), (.prs, F.PRS_OWNERn_CUR 0, 1), (.prs, F.PRS_Uu_STATUS_ATTACHED 0, 1)])), by decide +kernel⟩,
   ⟨0, 0, ⟨0, ⟨5, 1, false, .bulk, [1, 2]⟩, false, none, false⟩, [], ⟨false, .nak⟩, ((fun s : State => s.u2pWith 0 (fun u =>
      { u with nonper := [(0, ⟨0, ⟨5, 1, false, .bulk, [1, 2]⟩, false, none, false⟩)] })) w0), by decide +kernel⟩,
   ⟨0, ⟨0, ⟨5, 1, false, .interrupt, [1, 2]⟩, false, none, false⟩, [], ⟨true, .nak⟩, ((fun s : State => s.u2pWith 0 (fun u =>
      { u with periodic := [⟨0, ⟨5, 1, false, .interrupt, [1, 2]⟩, false, none, false⟩] })) w0), by decide +kernel⟩,
   ⟨0, ⟨0, ⟨5, 1, true, .interrupt, []⟩, false, none, false⟩, [], ⟨0, false⟩, ((fun s : State => s.u2pWith 0 (fun u =>
      { u with periodic := [⟨0, ⟨5, 1, true, .interrupt, []⟩, false, none, false⟩] })) w0), by decide +kernel⟩,
   ⟨0, ⟨0, ⟨5, 1, true, .interrupt, []⟩, true, some .nak, false⟩, [], ((fun s : State => s.u2pWith 0 (fun u =>
      { u with periodic := [⟨0, ⟨5, 1, true, .interrupt, []⟩, true, some .nak, false⟩] })) w0), by decide +kernel⟩,
   ⟨.plate 0 0, 1, 0, ((fun s : State => s.u2pWith 0 (fun u =>
      { u with nonper := [(0, ⟨0, ⟨5, 1, false, .bulk, [1, 2]⟩, false, none, false⟩)] })) (w0.putAll [(.prs, F.PRS_OWNERn_CUR 0, 1),
      (.prs, F.PRS_Uu_STATUS_ATTACHED 0, 1)])), by decide +kernel⟩,
   ⟨.plate 0 0, 1, 0, ((fun s : State => s.u2pWith 0 (fun u =>
      { u with nonper := [(0, ⟨0, ⟨5, 1, false, .bulk, [1, 2]⟩, false, none, false⟩)] })) (w0.putAll [(.prs, F.PRS_OWNERn_CUR 0, 1),
      (.prs, F.PRS_Uu_STATUS_ATTACHED 0, 1)])), by decide +kernel⟩,
   ⟨.plate 0 0, 1, 0, (w0.putAll [(.prs, F.PRS_OWNERn_CUR 0, 1), (.prs, F.PRS_Uu_STATUS_ATTACHED 0, 1)]), by decide +kernel⟩,
   ⟨.plate 0 0, ((fun s : State => s.hubWith (.plate 0 0) (fun h => { h with speed := 2 })) (w0.putAll [(.prs, F.PRS_OWNERn_CUR 0, 1),
      (.prs, F.PRS_Uu_STATUS_ATTACHED 0, 1)])), by decide +kernel⟩,
   ⟨0, .plate 0 0, ((fun s : State => s.hubWith (.plate 0 0) (fun h => { h with speed := 2 })) (w0.putAll [(.u2p 0, F.U2P_STATUS_STATE, 5),
      (.u2p 0, F.U2P_STATUS_SPEED, 3), (.prs, F.PRS_OWNERn_CUR 0, 1), (.prs, F.PRS_Uu_STATUS_ATTACHED 0, 1)])), by decide +kernel⟩,
   ⟨.plate 0 0, ((fun s : State => s.hubWith (.plate 0 0) (fun h => { h with speed := 1 })) (w0.putAll [(.prs, F.PRS_OWNERn_CUR 0, 1),
      (.prs, F.PRS_Uu_STATUS_ATTACHED 0, 1)])), by decide +kernel⟩,
   ⟨.plate 0 0, (w0.putAll [(.prs, F.PRS_OWNERn_CUR 0, 1), (.prs, F.PRS_Uu_STATUS_ATTACHED 0, 1)]), by decide +kernel⟩⟩

theorem witness_SuperSpeedLinksTrainAndFallBack :
    (∃ (f : Full) (s : State), s.link f = lkRxDetect) ∧
    (∃ (f : Full) (s : State), s.link f = lkPolling ∧ (s.ssp f).reset = .none) ∧
    (∃ (f : Full) (s : State), s.link f = lkRecovery) ∧
    (∃ (f : Full) (c : Fin 2) (s : State), s.link f = lkU3 ∧ (s.ssp f).exiting ≠ none ∧ s.ssSide f = some c) ∧
    (∃ (f : Full) (s : State), s.link f = lkPolling ∧ (s.ssp f).pollFails ≤ 1) ∧
    (∃ (f : Full) (s : State), s.link f = lkPolling ∧ 2 ≤ (s.ssp f).pollFails) ∧
    (∃ (f : Full) (c : Fin 2) (s : State), s.link f = lkPolling ∧ s.ssSide f = some c) ∧
    (∃ (u : Up) (s : State), (s.upState u = lkRxDetect ∨ s.upState u = lkPolling) ∧ s.compat = false ∧ s.presAttached u = true ∧ s.flag .clk
      (laneFld (.up u)) = true) ∧
    (∃ (u : Up) (s : State), (s.upState u = lkRxDetect ∨ s.upState u = lkPolling) ∧ s.compat = false ∧ s.presAttached u = true ∧ s.flag .clk
      (laneFld (.up u)) = true ∧ (s.upLk u).trainFails ≤ 1) ∧
    (∃ (u : Up) (s : State), (s.upState u = lkRxDetect ∨ s.upState u = lkPolling) ∧ s.compat = false ∧ s.presAttached u = true ∧ s.flag .clk
      (laneFld (.up u)) = true ∧ 2 ≤ (s.upLk u).trainFails) ∧
    (∃ (f : Full) (s : State), s.link f ≤ 2 ∧ windowCount (s.ssp f).recovAt (s.ssp f).recovWindow s.second ≠ recovLimit (s.cfg (.ssp f)
      F.SSP_CFG_RECOV_LIMIT)) ∧
    (∃ (f : Full) (s : State), s.link f ≤ 2 ∧ windowCount (s.ssp f).recovAt (s.ssp f).recovWindow s.second = recovLimit (s.cfg (.ssp f)
      F.SSP_CFG_RECOV_LIMIT) ∧ s.cfgFlag (.ssp f) F.SSP_CFG_AUTO_GEN1 = true ∧ s.flag (.ssp f) F.SSP_STATUS_GEN2 = true) ∧
    (∃ (u : Up) (s : State), s.upState u ≤ 2) ∧
    (∃ (f : Full) (c : Fin 2) (s : State), s.link f = lkRecovery ∧ s.ssSide f = some c) :=
  ⟨⟨0, (w0.putAll [(.ssp 0, F.SSP_STATUS_LINK_STATE, 5)]), by decide +kernel⟩,
   ⟨0, (w0.putAll [(.ssp 0, F.SSP_STATUS_LINK_STATE, 7)]), by decide +kernel⟩,
   ⟨0, (w0.putAll [(.ssp 0, F.SSP_STATUS_LINK_STATE, 8)]), by decide +kernel⟩,
   ⟨0, 0, ((fun s : State => s.sspWith 0 (fun x => { x with exiting := some true })) (w0.putAll [(.ssp 0, F.SSP_STATUS_LINK_STATE, 3),
      (.prs, F.PRS_OWNERn_CUR 0, 1), (.prs, F.PRS_Uu_STATUS_ATTACHED 0, 1), (.ssh 0, F.SSH_CFG_CTX0_EN, 1), (.ups 0,
      F.UPS_LINK_STATUS_LINK_STATE, 0)])), by decide +kernel⟩,
   ⟨0, (w0.putAll [(.ssp 0, F.SSP_STATUS_LINK_STATE, 7)]), by decide +kernel⟩,
   ⟨0, ((fun s : State => s.sspWith 0 (fun x => { x with pollFails := 2 })) (w0.putAll [(.ssp 0, F.SSP_STATUS_LINK_STATE, 7)])),
      by decide +kernel⟩,
   ⟨0, 0, (w0.putAll [(.ssp 0, F.SSP_STATUS_LINK_STATE, 7), (.prs, F.PRS_OWNERn_CUR 0, 1), (.prs, F.PRS_Uu_STATUS_ATTACHED 0, 1), (.ssh 0,
      F.SSH_CFG_CTX0_EN, 1), (.ups 0, F.UPS_LINK_STATUS_LINK_STATE, 0)]), by decide +kernel⟩,
   ⟨0, (w0.putAll [(.clk, F.CLK_ROOT_STATUS_LANE_U0_LOCKED, 1), (.ups 0, F.UPS_LINK_STATUS_LINK_STATE, 7), (.prs, F.PRS_Uu_STATUS_ATTACHED
      0, 1)]), by decide +kernel⟩,
   ⟨0, (w0.putAll [(.clk, F.CLK_ROOT_STATUS_LANE_U0_LOCKED, 1), (.ups 0, F.UPS_LINK_STATUS_LINK_STATE, 7), (.prs, F.PRS_Uu_STATUS_ATTACHED
      0, 1)]), by decide +kernel⟩,
   ⟨0, ((fun s : State => s.upLkWith 0 (fun l => { l with trainFails := 2 })) (w0.putAll [(.clk, F.CLK_ROOT_STATUS_LANE_U0_LOCKED, 1),
      (.ups 0, F.UPS_LINK_STATUS_LINK_STATE, 7), (.prs, F.PRS_Uu_STATUS_ATTACHED 0, 1)])), by decide +kernel⟩,
   ⟨0, (w0.putAll [(.ssp 0, F.SSP_STATUS_LINK_STATE, 1), (.ssp 0, F.SSP_CFG_RECOV_LIMIT, 5)]), by decide +kernel⟩,
   ⟨0, (w0.putAll [(.ssp 0, F.SSP_STATUS_LINK_STATE, 1), (.ssp 0, F.SSP_CFG_RECOV_LIMIT, 1), (.ssp 0, F.SSP_CFG_AUTO_GEN1, 1), (.ssp 0,
      F.SSP_STATUS_GEN2, 1)]), by decide +kernel⟩,
   ⟨0, (w0.putAll [(.ups 0, F.UPS_LINK_STATUS_LINK_STATE, 0), (.prs, F.PRS_Uu_STATUS_ATTACHED 0, 1)]), by decide +kernel⟩,
   ⟨0, 0, (w0.putAll [(.ssp 0, F.SSP_STATUS_LINK_STATE, 8), (.prs, F.PRS_OWNERn_CUR 0, 1), (.prs, F.PRS_Uu_STATUS_ATTACHED 0, 1), (.ssh 0,
      F.SSH_CFG_CTX0_EN, 1), (.ups 0, F.UPS_LINK_STATUS_LINK_STATE, 0)]), by decide +kernel⟩⟩

theorem witness_SuperSpeedPortsReset :
    (∃ (sc : SsCtx) (n : Nat) (f : Full) (s : State), s.ssHears sc = true ∧ ssPort sc n = some f ∧ s.ssOwns sc f = true ∧ s.link f = lkU0) ∧
    (∃ (sc : SsCtx) (n : Nat) (f : Full) (s : State), s.ssHears sc = true ∧ ssPort sc n = some f ∧ s.ssOwns sc f = true ∧ s.link f ≠ lkU0 ∧
      s.link f ≠ lkDisabled) ∧
    (∃ (sc : SsCtx) (n : Nat) (f : Full) (s : State), s.ssHears sc = true ∧ ssPort sc n = some f ∧ s.ssOwns sc f = true ∧ s.link f =
      lkDisabled) ∧
    (∃ (sc : SsCtx) (n : Nat) (f : Full) (s : State), s.ssHears sc = true ∧ ssPort sc n = some f ∧ s.ssOwns sc f = true ∧ s.link f ≠
      lkDisabled) ∧
    (∃ (sc : SsCtx) (n : Nat) (f : Full) (s : State), s.ssHears sc = true ∧ ssPort sc n = some f ∧ s.ssOwns sc f = false) ∧
    (∃ (sc : SsCtx) (n : Nat) (f : Full) (s : State), s.ssHears sc = true ∧ ssPort sc n = some f ∧ s.ssOwns sc f = false) ∧
    (∃ (f : Full) (c : Fin 2) (s : State), (s.ssp f).reset = .hot ∧ s.ssSide f = some c) ∧
    (∃ (f : Full) (s : State), (s.ssp f).reset = .hot) ∧
    (∃ (f : Full) (b : Bool) (c : Fin 2) (s : State), (s.ssp f).reset = .warm b ∧ s.ssSide f = some c) ∧
    (∃ (f : Full) (b : Bool) (c : Fin 2) (s : State), (s.ssp f).reset = .warm b ∧ s.ssSide f = some c) ∧
    (∃ (u : Up) (s : State), s.compat = false ∧ s.coreUp = true ∧ s.presAttached u = true ∧ s.upState u ≠ lkDisabled) :=
  ⟨⟨.plate 0 0, 1, 0, (w0.putAll [(.ssp 0, F.SSP_STATUS_LINK_STATE, 0), (.prs, F.PRS_OWNERn_CUR 0, 1), (.prs, F.PRS_Uu_STATUS_ATTACHED 0,
      1), (.ssh 0, F.SSH_CFG_CTX0_EN, 1), (.ups 0, F.UPS_LINK_STATUS_LINK_STATE, 0)]), by decide +kernel⟩,
   ⟨.plate 0 0, 1, 0, (w0.putAll [(.ssp 0, F.SSP_STATUS_LINK_STATE, 6), (.prs, F.PRS_OWNERn_CUR 0, 1), (.prs, F.PRS_Uu_STATUS_ATTACHED 0,
      1), (.ssh 0, F.SSH_CFG_CTX0_EN, 1), (.ups 0, F.UPS_LINK_STATUS_LINK_STATE, 0)]), by decide +kernel⟩,
   ⟨.plate 0 0, 1, 0, (w0.putAll [(.ssp 0, F.SSP_STATUS_LINK_STATE, 4), (.prs, F.PRS_OWNERn_CUR 0, 1), (.prs, F.PRS_Uu_STATUS_ATTACHED 0,
      1), (.ssh 0, F.SSH_CFG_CTX0_EN, 1), (.ups 0, F.UPS_LINK_STATUS_LINK_STATE, 0)]), by decide +kernel⟩,
   ⟨.plate 0 0, 1, 0, (w0.putAll [(.ssp 0, F.SSP_STATUS_LINK_STATE, 6), (.prs, F.PRS_OWNERn_CUR 0, 1), (.prs, F.PRS_Uu_STATUS_ATTACHED 0,
      1), (.ssh 0, F.SSH_CFG_CTX0_EN, 1), (.ups 0, F.UPS_LINK_STATUS_LINK_STATE, 0)]), by decide +kernel⟩,
   ⟨.plate 0 0, 1, 0, (w0.putAll [(.ssp 0, F.SSP_STATUS_LINK_STATE, 0), (.prs, F.PRS_OWNERn_CUR 0, 2), (.prs, F.PRS_Uu_STATUS_ATTACHED 0,
      1), (.ssh 0, F.SSH_CFG_CTX0_EN, 1), (.ups 0, F.UPS_LINK_STATUS_LINK_STATE, 0)]), by decide +kernel⟩,
   ⟨.plate 0 0, 1, 0, (w0.putAll [(.ssp 0, F.SSP_STATUS_LINK_STATE, 0), (.prs, F.PRS_OWNERn_CUR 0, 2), (.prs, F.PRS_Uu_STATUS_ATTACHED 0,
      1), (.ssh 0, F.SSH_CFG_CTX0_EN, 1), (.ups 0, F.UPS_LINK_STATUS_LINK_STATE, 0)]), by decide +kernel⟩,
   ⟨0, 0, ((fun s : State => s.sspWith 0 (fun x => { x with reset := .hot })) (w0.putAll [(.ssp 0, F.SSP_STATUS_LINK_STATE, 9), (.prs,
      F.PRS_OWNERn_CUR 0, 1), (.prs, F.PRS_Uu_STATUS_ATTACHED 0, 1), (.ssh 0, F.SSH_CFG_CTX0_EN, 1), (.ups 0,
      F.UPS_LINK_STATUS_LINK_STATE, 0)])), by decide +kernel⟩,
   ⟨0, ((fun s : State => s.sspWith 0 (fun x => { x with reset := .hot })) (w0.putAll [(.ssp 0, F.SSP_STATUS_LINK_STATE, 9)])),
      by decide +kernel⟩,
   ⟨0, true, 0, ((fun s : State => s.sspWith 0 (fun x => { x with reset := .warm true })) (w0.putAll [(.ssp 0, F.SSP_STATUS_LINK_STATE, 7),
      (.prs, F.PRS_OWNERn_CUR 0, 1), (.prs, F.PRS_Uu_STATUS_ATTACHED 0, 1), (.ssh 0, F.SSH_CFG_CTX0_EN, 1), (.ups 0,
      F.UPS_LINK_STATUS_LINK_STATE, 0)])), by decide +kernel⟩,
   ⟨0, true, 0, ((fun s : State => s.sspWith 0 (fun x => { x with reset := .warm true, connected := true })) (w0.putAll [(.ssp 0,
      F.SSP_STATUS_LINK_STATE, 5), (.prs, F.PRS_OWNERn_CUR 0, 1), (.prs, F.PRS_Uu_STATUS_ATTACHED 0, 1), (.ssh 0, F.SSH_CFG_CTX0_EN, 1),
      (.ups 0, F.UPS_LINK_STATUS_LINK_STATE, 0)])), by decide +kernel⟩,
   ⟨0, (w0.putAll [(.ups 0, F.UPS_LINK_STATUS_LINK_STATE, 0), (.prs, F.PRS_Uu_STATUS_ATTACHED 0, 1)]), by decide +kernel⟩⟩

theorem witness_SuperSpeedRequestsAreAnswered :
    (∃ (sc : SsCtx) (n : Nat) (f : Full) (s : State), s.ssHears sc = true ∧ ssPort sc n = some f ∧ s.ssOwns sc f = true ∧ s.link f = lkU0) ∧
    (∃ (sc : SsCtx) (n : Nat) (f : Full) (s : State), s.ssHears sc = true ∧ ssPort sc n = some f ∧ s.ssOwns sc f = true ∧ s.link f ≠ lkU0) ∧
    (∃ (sc : SsCtx) (n : Nat) (f : Full) (s : State), s.ssHears sc = true ∧ ssPort sc n = some f ∧ s.ssOwns sc f = true ∧ s.link f = lkU3) ∧
    (∃ (sc : SsCtx) (n : Nat) (f : Full) (s : State), s.ssHears sc = true ∧ ssPort sc n = some f ∧ s.ssOwns sc f = true) ∧
    (∃ (sc : SsCtx) (n : Nat) (f : Full) (s : State), s.ssHears sc = true ∧ ssPort sc n = some f ∧ s.ssOwns sc f = true) ∧
    (∃ (sc : SsCtx) (n : Nat) (f : Full) (s : State), s.ssHears sc = true ∧ ssPort sc n = some f ∧ s.ssOwns sc f = true) ∧
    (∃ (sc : SsCtx) (n : Nat) (f : Full) (s : State), s.ssHears sc = true ∧ ssPort sc n = some f ∧ s.ssOwns sc f = true) ∧
    (∃ (sc : SsCtx) (n : Nat) (f : Full) (s : State), s.ssHears sc = true ∧ ssPort sc n = some f ∧ s.ssOwns sc f = true) ∧
    (∃ (sc : SsCtx) (n : Nat) (f : Full) (s : State), s.ssHears sc = true ∧ ssPort sc n = some f ∧ s.ssOwns sc f = true) ∧
    (∃ (sc : SsCtx) (n : Nat) (f : Full) (s : State), s.ssHears sc = true ∧ ssPort sc n = some f ∧ s.ssOwns sc f = true) ∧
    (∃ (sc : SsCtx) (n : Nat) (f : Full) (s : State), s.ssHears sc = true ∧ ssPort sc n = some f ∧ s.ssOwns sc f = true) ∧
    (∃ (sc : SsCtx) (n : Nat) (f : Full) (s : State), s.ssHears sc = true ∧ ssPort sc n = some f ∧ s.ssOwns sc f = false) ∧
    (∃ (sc : SsCtx) (n : Nat) (f : Full) (s : State), s.ssHears sc = true ∧ ssPort sc n = some f ∧ s.ssOwns sc f = false) ∧
    (∃ (sc : SsCtx) (n : Nat) (f : Full) (s : State), s.ssHears sc = true ∧ ssPort sc n = some f ∧ s.ssOwns sc f = false) ∧
    (∃ (sc : SsCtx) (n : Nat) (f : Full) (s : State), s.ssHears sc = true ∧ ssPort sc n = some f ∧ s.ssOwns sc f = false) ∧
    (∃ (sc : SsCtx) (n : Nat) (f : Full) (s : State), s.ssHears sc = true ∧ ssPort sc n = some f ∧ s.ssOwns sc f = false) ∧
    (∃ (sc : SsCtx) (d : Nat) (s : State), s.ssHears sc = true ∧ d ≤ 4 ∧ s.noNibble sc = false) ∧
    (∃ (sc : SsCtx) (d : Nat) (s : State), s.ssHears sc = true ∧ 5 ≤ d) ∧
    (∃ (sc : SsCtx) (s : State), s.ssHears sc = true ∧ s.noNibble sc = true) ∧
    (∃ (sc : SsCtx) (n : Nat) (f : Full) (s : State), s.ssHears sc = true ∧ ssPort sc n = some f ∧ s.ssOwns sc f = true) ∧
    (∃ (sc : SsCtx) (n : Nat) (f : Full) (s : State), s.ssHears sc = true ∧ ssPort sc n = some f ∧ s.ssOwns sc f = true) ∧
    (∃ (sc : SsCtx) (n : Nat) (f : Full) (s : State), s.ssHears sc = true ∧ ssPort sc n = some f ∧ s.ssOwns sc f = true) ∧
    (∃ (sc : SsCtx) (n : Nat) (f : Full) (sel : Nat) (b : BitVec 16) (s : State), s.ssHears sc = true ∧ ssPort sc n = some f ∧ s.ssOwns sc f
      = true ∧ ssChangeOf sel = some b) ∧
    (∃ (sc : SsCtx) (n : Nat) (s : State), s.ssHears sc = true ∧ (n = 0 ∨ ssPorts sc < n)) :=
  ⟨⟨.plate 0 0, 1, 0, (w0.putAll [(.ssp 0, F.SSP_STATUS_LINK_STATE, 0), (.prs, F.PRS_OWNERn_CUR 0, 1), (.prs, F.PRS_Uu_STATUS_ATTACHED 0,
      1), (.ssh 0, F.SSH_CFG_CTX0_EN, 1), (.ups 0, F.UPS_LINK_STATUS_LINK_STATE, 0)]), by decide +kernel⟩,
   ⟨.plate 0 0, 1, 0, (w0.putAll [(.ssp 0, F.SSP_STATUS_LINK_STATE, 5), (.prs, F.PRS_OWNERn_CUR 0, 1), (.prs, F.PRS_Uu_STATUS_ATTACHED 0,
      1), (.ssh 0, F.SSH_CFG_CTX0_EN, 1), (.ups 0, F.UPS_LINK_STATUS_LINK_STATE, 0)]), by decide +kernel⟩,
   ⟨.plate 0 0, 1, 0, (w0.putAll [(.ssp 0, F.SSP_STATUS_LINK_STATE, 3), (.prs, F.PRS_OWNERn_CUR 0, 1), (.prs, F.PRS_Uu_STATUS_ATTACHED 0,
      1), (.ssh 0, F.SSH_CFG_CTX0_EN, 1), (.ups 0, F.UPS_LINK_STATUS_LINK_STATE, 0)]), by decide +kernel⟩,
   ⟨.plate 0 0, 1, 0, (w0.putAll [(.ssp 0, F.SSP_STATUS_LINK_STATE, 0), (.prs, F.PRS_OWNERn_CUR 0, 1), (.prs, F.PRS_Uu_STATUS_ATTACHED 0,
      1), (.ssh 0, F.SSH_CFG_CTX0_EN, 1), (.ups 0, F.UPS_LINK_STATUS_LINK_STATE, 0)]), by decide +kernel⟩,
   ⟨.plate 0 0, 1, 0, (w0.putAll [(.ssp 0, F.SSP_STATUS_LINK_STATE, 4), (.prs, F.PRS_OWNERn_CUR 0, 1), (.prs, F.PRS_Uu_STATUS_ATTACHED 0,
      1), (.ssh 0, F.SSH_CFG_CTX0_EN, 1), (.ups 0, F.UPS_LINK_STATUS_LINK_STATE, 0), (.ssp 0, F.SSP_STATUS_SS_ONLY2, 1)]),
      by decide +kernel⟩,
   ⟨.plate 0 0, 1, 0, (w0.putAll [(.ssp 0, F.SSP_STATUS_LINK_STATE, 4), (.prs, F.PRS_OWNERn_CUR 0, 1), (.prs, F.PRS_Uu_STATUS_ATTACHED 0,
      1), (.ssh 0, F.SSH_CFG_CTX0_EN, 1), (.ups 0, F.UPS_LINK_STATUS_LINK_STATE, 0)]), by decide +kernel⟩,
   ⟨.plate 0 0, 1, 0, (w0.putAll [(.ssp 0, F.SSP_STATUS_LINK_STATE, 0), (.prs, F.PRS_OWNERn_CUR 0, 1), (.prs, F.PRS_Uu_STATUS_ATTACHED 0,
      1), (.ssh 0, F.SSH_CFG_CTX0_EN, 1), (.ups 0, F.UPS_LINK_STATUS_LINK_STATE, 0)]), by decide +kernel⟩,
   ⟨.plate 0 0, 1, 0, (w0.putAll [(.prs, F.PRS_OWNERn_CUR 0, 1), (.prs, F.PRS_Uu_STATUS_ATTACHED 0, 1), (.ssh 0, F.SSH_CFG_CTX0_EN, 1),
      (.ups 0, F.UPS_LINK_STATUS_LINK_STATE, 0)]), by decide +kernel⟩,
   ⟨.plate 0 0, 1, 0, (w0.putAll [(.prs, F.PRS_OWNERn_CUR 0, 1), (.prs, F.PRS_Uu_STATUS_ATTACHED 0, 1), (.ssh 0, F.SSH_CFG_CTX0_EN, 1),
      (.ups 0, F.UPS_LINK_STATUS_LINK_STATE, 0)]), by decide +kernel⟩,
   ⟨.plate 0 0, 1, 0, (w0.putAll [(.prs, F.PRS_OWNERn_CUR 0, 1), (.prs, F.PRS_Uu_STATUS_ATTACHED 0, 1), (.ssh 0, F.SSH_CFG_CTX0_EN, 1),
      (.ups 0, F.UPS_LINK_STATUS_LINK_STATE, 0)]), by decide +kernel⟩,
   ⟨.plate 0 0, 1, 0, (w0.putAll [(.prs, F.PRS_OWNERn_CUR 0, 1), (.prs, F.PRS_Uu_STATUS_ATTACHED 0, 1), (.ssh 0, F.SSH_CFG_CTX0_EN, 1),
      (.ups 0, F.UPS_LINK_STATUS_LINK_STATE, 0)]), by decide +kernel⟩,
   ⟨.plate 0 0, 1, 0, (w0.putAll [(.ssp 0, F.SSP_STATUS_LINK_STATE, 0), (.prs, F.PRS_OWNERn_CUR 0, 2), (.prs, F.PRS_Uu_STATUS_ATTACHED 0,
      1), (.ssh 0, F.SSH_CFG_CTX0_EN, 1), (.ups 0, F.UPS_LINK_STATUS_LINK_STATE, 0)]), by decide +kernel⟩,
   ⟨.plate 0 0, 1, 0, (w0.putAll [(.ssp 0, F.SSP_STATUS_LINK_STATE, 0), (.prs, F.PRS_OWNERn_CUR 0, 2), (.prs, F.PRS_Uu_STATUS_ATTACHED 0,
      1), (.ssh 0, F.SSH_CFG_CTX0_EN, 1), (.ups 0, F.UPS_LINK_STATUS_LINK_STATE, 0)]), by decide +kernel⟩,
   ⟨.plate 0 0, 1, 0, (w0.putAll [(.ssp 0, F.SSP_STATUS_LINK_STATE, 0), (.prs, F.PRS_OWNERn_CUR 0, 2), (.prs, F.PRS_Uu_STATUS_ATTACHED 0,
      1), (.ssh 0, F.SSH_CFG_CTX0_EN, 1), (.ups 0, F.UPS_LINK_STATUS_LINK_STATE, 0)]), by decide +kernel⟩,
   ⟨.plate 0 0, 1, 0, (w0.putAll [(.ssp 0, F.SSP_STATUS_LINK_STATE, 0), (.prs, F.PRS_OWNERn_CUR 0, 2), (.prs, F.PRS_Uu_STATUS_ATTACHED 0,
      1), (.ssh 0, F.SSH_CFG_CTX0_EN, 1), (.ups 0, F.UPS_LINK_STATUS_LINK_STATE, 0)]), by decide +kernel⟩,
   ⟨.plate 0 0, 1, 0, (w0.putAll [(.ssp 0, F.SSP_STATUS_LINK_STATE, 0), (.prs, F.PRS_OWNERn_CUR 0, 2), (.prs, F.PRS_Uu_STATUS_ATTACHED 0,
      1), (.ssh 0, F.SSH_CFG_CTX0_EN, 1), (.ups 0, F.UPS_LINK_STATUS_LINK_STATE, 0)]), by decide +kernel⟩,
   ⟨.plate 0 0, 2, (w0.putAll [(.prs, F.PRS_OWNERn_CUR 0, 1), (.prs, F.PRS_Uu_STATUS_ATTACHED 0, 1), (.ssh 0, F.SSH_CFG_CTX0_EN, 1), (.ups
      0, F.UPS_LINK_STATUS_LINK_STATE, 0)]), by decide +kernel⟩,
   ⟨.plate 0 0, 5, (w0.putAll [(.prs, F.PRS_OWNERn_CUR 0, 1), (.prs, F.PRS_Uu_STATUS_ATTACHED 0, 1), (.ssh 0, F.SSH_CFG_CTX0_EN, 1), (.ups
      0, F.UPS_LINK_STATUS_LINK_STATE, 0)]), by decide +kernel⟩,
   ⟨.plate 0 0, ((fun s : State => s.ssHubWith (.root 0) (fun h => { h with depth := some 4 })) (w0.putAll [(.prs, F.PRS_OWNERn_CUR 0, 1),
      (.prs, F.PRS_Uu_STATUS_ATTACHED 0, 1), (.ssh 0, F.SSH_CFG_CTX0_EN, 1), (.ups 0, F.UPS_LINK_STATUS_LINK_STATE, 0)])),
      by decide +kernel⟩,
   ⟨.plate 0 0, 1, 0, (w0.putAll [(.prs, F.PRS_OWNERn_CUR 0, 1), (.prs, F.PRS_Uu_STATUS_ATTACHED 0, 1), (.ssh 0, F.SSH_CFG_CTX0_EN, 1),
      (.ups 0, F.UPS_LINK_STATUS_LINK_STATE, 0), (.ssp 0, F.SSP_ERR_LINK_ERR, 300)]), by decide +kernel⟩,
   ⟨.plate 0 0, 1, 0, (w0.putAll [(.ssp 0, F.SSP_STATUS_LINK_STATE, 0), (.prs, F.PRS_OWNERn_CUR 0, 1), (.prs, F.PRS_Uu_STATUS_ATTACHED 0,
      1), (.ssh 0, F.SSH_CFG_CTX0_EN, 1), (.ups 0, F.UPS_LINK_STATUS_LINK_STATE, 0)]), by decide +kernel⟩,
   ⟨.plate 0 0, 1, 0, (w0.putAll [(.ssp 0, F.SSP_STATUS_LINK_STATE, 0), (.prs, F.PRS_OWNERn_CUR 0, 1), (.prs, F.PRS_Uu_STATUS_ATTACHED 0,
      1), (.ssh 0, F.SSH_CFG_CTX0_EN, 1), (.ups 0, F.UPS_LINK_STATUS_LINK_STATE, 0)]), by decide +kernel⟩,
   ⟨.plate 0 0, 1, 0, 25, 64, ((fun s : State => s.sspWith 0 (fun x => { x with chg := x.chg.set 0 65 })) (w0.putAll [(.prs,
      F.PRS_OWNERn_CUR 0, 1), (.prs, F.PRS_Uu_STATUS_ATTACHED 0, 1), (.ssh 0, F.SSH_CFG_CTX0_EN, 1), (.ups 0,
      F.UPS_LINK_STATUS_LINK_STATE, 0)])), by decide +kernel⟩,
   ⟨.plate 0 0, 5, (w0.putAll [(.prs, F.PRS_OWNERn_CUR 0, 1), (.prs, F.PRS_Uu_STATUS_ATTACHED 0, 1), (.ssh 0, F.SSH_CFG_CTX0_EN, 1), (.ups
      0, F.UPS_LINK_STATUS_LINK_STATE, 0)]), by decide +kernel⟩⟩

theorem witness_SuperSpeedLinksRestWakeAndTest :
    (∃ (f : Full) (b : Bool) (s : State), s.link f < (if b then lkU2 else lkU1) ∧ s.initiates f b = true) ∧
    (∃ (u : Up) (b : Bool) (s : State), s.upState u < (if b then lkU2 else lkU1) ∧ s.upMayRest u b = true) ∧
    (∃ (f : Full) (b : Bool) (s : State), s.link f = lkU0 ∧ s.accepts f b = true) ∧
    (∃ (f : Full) (b : Bool) (s : State), s.link f = lkU0 ∧ s.accepts f b = false) ∧
    (∃ (f : Full) (s : State), s.link f = lkU0 ∧ s.cfgFlag (.ssp f) F.SSP_CFG_LPM_ALLOW = false) ∧
    (∃ (u : Up) (b : Bool) (s : State), s.upState u = lkU0 ∧ s.upMayRest u b = false) ∧
    (∃ (f : Full) (u : Up) (s : State), s.ssSide f = some u ∧ s.link f = lkU3) ∧
    (∃ (u : Up) (s : State), s.upState u ≤ 2 ∧ s.compat = false ∧ s.presAttached u = true) ∧
    (∃ (u : Up) (s : State), s.upState u = lkU3 ∧ s.presAttached u = true) ∧
    (∃ (sc : SsCtx) (s : State), s.ssHears sc = true) ∧
    (∃ (f : Full) (s : State), s.link f = lkPolling ∧ (s.ssp f).firstPoll = true ∧ s.cfgFlag (.ssp f) F.SSP_CFG_COMPLIANCE_EN = true) ∧
    (∃ (f : Full) (s : State), s.cfgFlag (.ssp f) F.SSP_CFG_COMPLIANCE_EN = false) ∧
    (∃ (f : Full) (s : State), s.link f = lkCompliance) ∧
    (∃ (f : Full) (s : State), (s.link f = lkPolling ∨ s.link f = lkRecovery)) ∧
    (∃ (f : Full) (s : State), (s.ssp f).margining = true) :=
  ⟨⟨0, false, (w0.putAll [(.ssp 0, F.SSP_STATUS_LINK_STATE, 0), (.prs, F.PRS_OWNERn_CUR 0, 1), (.prs, F.PRS_Uu_STATUS_ATTACHED 0, 1), (.ssh
      0, F.SSH_CFG_CTX0_EN, 1), (.ups 0, F.UPS_LINK_STATUS_LINK_STATE, 0), (.ssp 0, F.SSP_CFG_LPM_ALLOW, 1), (.ssp 0,
      F.SSP_STATUS_U1_TIMEOUT, 5)]), by decide +kernel⟩,
   ⟨0, false, ((fun s : State => s.ssHubWith (.root 0) (fun h => { h with u1En := true })) (w0.putAll [(.ups 0,
      F.UPS_LINK_STATUS_LINK_STATE, 0), (.prs, F.PRS_Uu_STATUS_ATTACHED 0, 1)])), by decide +kernel⟩,
   ⟨0, true, (w0.putAll [(.ssp 0, F.SSP_STATUS_LINK_STATE, 0), (.prs, F.PRS_OWNERn_CUR 0, 1), (.prs, F.PRS_Uu_STATUS_ATTACHED 0, 1), (.ssh
      0, F.SSH_CFG_CTX0_EN, 1), (.ups 0, F.UPS_LINK_STATUS_LINK_STATE, 0), (.ssp 0, F.SSP_CFG_LPM_ALLOW, 1), (.ssp 0,
      F.SSP_STATUS_U2_TIMEOUT, 255)]), by decide +kernel⟩,
   ⟨0, true, (w0.putAll [(.ssp 0, F.SSP_STATUS_LINK_STATE, 0), (.prs, F.PRS_OWNERn_CUR 0, 1), (.prs, F.PRS_Uu_STATUS_ATTACHED 0, 1), (.ssh
      0, F.SSH_CFG_CTX0_EN, 1), (.ups 0, F.UPS_LINK_STATUS_LINK_STATE, 0)]), by decide +kernel⟩,
   ⟨0, (w0.putAll [(.ssp 0, F.SSP_STATUS_LINK_STATE, 0), (.prs, F.PRS_OWNERn_CUR 0, 1), (.prs, F.PRS_Uu_STATUS_ATTACHED 0, 1), (.ssh 0,
      F.SSH_CFG_CTX0_EN, 1), (.ups 0, F.UPS_LINK_STATUS_LINK_STATE, 0), (.ssp 0, F.SSP_STATUS_U2_TIMEOUT, 255), (.ssp 0,
      F.SSP_CFG_LPM_ALLOW, 0)]), by decide +kernel⟩,
   ⟨0, true, (w0.putAll [(.ups 0, F.UPS_LINK_STATUS_LINK_STATE, 0), (.prs, F.PRS_Uu_STATUS_ATTACHED 0, 1)]), by decide +kernel⟩,
   ⟨0, 0, (w0.putAll [(.ssp 0, F.SSP_STATUS_LINK_STATE, 3), (.prs, F.PRS_OWNERn_CUR 0, 1), (.prs, F.PRS_Uu_STATUS_ATTACHED 0, 1), (.ssh 0,
      F.SSH_CFG_CTX0_EN, 1), (.ups 0, F.UPS_LINK_STATUS_LINK_STATE, 0)]), by decide +kernel⟩,
   ⟨0, (w0.putAll [(.ups 0, F.UPS_LINK_STATUS_LINK_STATE, 0), (.prs, F.PRS_Uu_STATUS_ATTACHED 0, 1)]), by decide +kernel⟩,
   ⟨0, (w0.putAll [(.ups 0, F.UPS_LINK_STATUS_LINK_STATE, 3), (.prs, F.PRS_Uu_STATUS_ATTACHED 0, 1)]), by decide +kernel⟩,
   ⟨.root 0, (w0.putAll [(.ups 0, F.UPS_LINK_STATUS_LINK_STATE, 0), (.prs, F.PRS_Uu_STATUS_ATTACHED 0, 1)]), by decide +kernel⟩,
   ⟨0, ((fun s : State => s.sspWith 0 (fun x => { x with firstPoll := true })) (w0.putAll [(.ssp 0, F.SSP_STATUS_LINK_STATE, 7), (.ssp 0,
      F.SSP_CFG_COMPLIANCE_EN, 1)])), by decide +kernel⟩,
   ⟨0, (w0.putAll [(.ssp 0, F.SSP_STATUS_LINK_STATE, 7), (.ssp 0, F.SSP_CFG_COMPLIANCE_EN, 0)]), by decide +kernel⟩,
   ⟨0, (w0.putAll [(.ssp 0, F.SSP_STATUS_LINK_STATE, 10)]), by decide +kernel⟩,
   ⟨0, (w0.putAll [(.ssp 0, F.SSP_STATUS_LINK_STATE, 8)]), by decide +kernel⟩,
   ⟨0, ((fun s : State => s.sspWith 0 (fun x => { x with margining := true })) (w0.putAll [(.ssp 0, F.SSP_STATUS_LINK_STATE, 0)])),
      by decide +kernel⟩⟩

theorem witness_SuperSpeedPacketsFollowTheirRoute :
    (∃ (hd : SsPacket) (u : Up) (d : Fin 5) (k : Plate) (s : State), hd.entry = .up u ∧ s.compat = false ∧ s.presAttached u = true ∧
      s.upState u = lkU0 ∧ hd.itp = false ∧ (s.ssHub (.root u)).depth = some d ∧ routeNibble hd.route d.val = k.val + 1 ∧ hasRoom (s.ssq
      (.rootDown u k)) { hd with errs := ⟨0, 0⟩ } = true) ∧
    (∃ (hd : SsPacket) (u : Up) (d : Fin 5) (k : Plate) (s : State), hd.entry = .up u ∧ s.compat = false ∧ s.presAttached u = true ∧
      s.upState u = lkU0 ∧ hd.itp = false ∧ (s.ssHub (.root u)).depth = some d ∧ routeNibble hd.route d.val = k.val + 1 ∧ hasRoom (s.ssq
      (.rootDown u k)) { hd with errs := ⟨0, 0⟩ } = false) ∧
    (∃ (hd : SsPacket) (u : Up) (d : Fin 5) (s : State), hd.entry = .up u ∧ s.compat = false ∧ s.presAttached u = true ∧ s.upState u = lkU0
      ∧ hd.itp = false ∧ (s.ssHub (.root u)).depth = some d ∧ 6 ≤ routeNibble hd.route d.val) ∧
    (∃ (hd : SsPacket) (u : Up) (s : State), hd.entry = .up u ∧ s.compat = false ∧ s.presAttached u = true ∧ s.upState u = lkU0 ∧ hd.itp =
      false ∧ (s.ssHub (.root u)).depth = none) ∧
    (∃ (hd : SsPacket) (f : Full) (s : State), hd.entry = .down f ∧ s.link f = lkU0 ∧ (s.ssSide f).isSome = true ∧ (s.ssp f).stale = false ∧
      hasRoom (s.ssq (.portUp f)) { hd with errs := ⟨0, 0⟩ } = true) ∧
    (∃ (hd : SsPacket) (f : Full) (s : State), hd.entry = .down f ∧ s.link f = lkU0 ∧ (s.ssSide f).isSome = true ∧ (s.ssp f).stale = true) ∧
    (∃ (p : SsPacket) (rest : List SsPacket) (f : Full) (s : State), s.ssq (.portDown f) = p :: rest ∧ s.link f = lkU0 ∧ s.ssHeldDown f =
      false) ∧
    (∃ (p : SsPacket) (rest : List SsPacket) (f : Full) (u : Up) (s : State), s.ssq (.portUp f) = p :: rest ∧ s.ssSide f = some u ∧
      s.ssPlateOn (fullPlate f) u = true ∧ s.pageOn (.ssh (fullPlate f)) = true ∧ hasRoom (s.ssq (.rootUp u (fullPlate f))) p = true) ∧
    (∃ (p : SsPacket) (rest : List SsPacket) (u : Up) (k : Plate) (d : Fin 5) (f : Full) (s : State), s.ssq (.rootDown u k) = p :: rest ∧
      s.pageOn (.ssh k) = true ∧ s.ssPlateOn k u = true ∧ (s.ssHub (.plate k u)).suspended = false ∧ (s.ssHub (.plate k u)).depth = some
      d ∧ 1 ≤ routeNibble p.route d.val ∧ f.val + 1 = 4 * k.val + routeNibble p.route d.val ∧ routeNibble p.route d.val ≤ 4 ∧ s.ssSide f
      = some u ∧ s.link f = lkU0 ∧ hasRoom (s.ssq (.portDown f)) p = true) ∧
    (∃ (p : SsPacket) (rest : List SsPacket) (u : Up) (k : Plate) (d : Fin 5) (f : Full) (s : State), s.ssq (.rootDown u k) = p :: rest ∧
      s.pageOn (.ssh k) = true ∧ s.ssPlateOn k u = true ∧ (s.ssHub (.plate k u)).suspended = false ∧ (s.ssHub (.plate k u)).depth = some
      d ∧ 1 ≤ routeNibble p.route d.val ∧ f.val + 1 = 4 * k.val + routeNibble p.route d.val ∧ routeNibble p.route d.val ≤ 4 ∧ s.ssSide f
      = some u ∧ ssDead (s.link f) = true) ∧
    (∃ (p : SsPacket) (rest : List SsPacket) (u : Up) (k : Plate) (d : Fin 5) (f : Full) (s : State), s.ssq (.rootDown u k) = p :: rest ∧
      s.pageOn (.ssh k) = true ∧ s.ssPlateOn k u = true ∧ (s.ssHub (.plate k u)).suspended = false ∧ (s.ssHub (.plate k u)).depth = some
      d ∧ 1 ≤ routeNibble p.route d.val ∧ f.val + 1 = 4 * k.val + routeNibble p.route d.val ∧ routeNibble p.route d.val ≤ 4 ∧ s.ssSide f
      ≠ some u) ∧
    (∃ (p : SsPacket) (rest : List SsPacket) (u : Up) (k : Plate) (d : Fin 5) (f : Full) (s : State), s.ssq (.rootDown u k) = p :: rest ∧
      s.pageOn (.ssh k) = true ∧ s.ssPlateOn k u = true ∧ (s.ssHub (.plate k u)).suspended = false ∧ (s.ssHub (.plate k u)).depth = some
      d ∧ 1 ≤ routeNibble p.route d.val ∧ f.val + 1 = 4 * k.val + routeNibble p.route d.val ∧ routeNibble p.route d.val ≤ 4 ∧ s.ssSide f
      = some u ∧ (s.link f = lkU1 ∨ s.link f = lkU2) ∧ hasRoom (s.ssq (.portUp f))
      { p with entry := .down f, payload := 0, deferred := true } = true) ∧
    (∃ (p : SsPacket) (rest : List SsPacket) (u : Up) (k : Plate) (d : Fin 5) (f : Full) (s : State), s.ssq (.rootDown u k) = p :: rest ∧
      s.pageOn (.ssh k) = true ∧ s.ssPlateOn k u = true ∧ (s.ssHub (.plate k u)).suspended = false ∧ (s.ssHub (.plate k u)).depth = some
      d ∧ 1 ≤ routeNibble p.route d.val ∧ f.val + 1 = 4 * k.val + routeNibble p.route d.val ∧ routeNibble p.route d.val ≤ 4 ∧ s.ssSide f
      = some u ∧ s.link f = lkU0 ∧ hasRoom (s.ssq (.portDown f)) p = false) ∧
    (∃ (p : SsPacket) (rest : List SsPacket) (u : Up) (k : Plate) (s : State), s.ssq (.rootUp u k) = p :: rest ∧ s.upState u ≤ 2) :=
  ⟨⟨⟨.up 0, 1, 64, false, false, ⟨0, 0⟩⟩, 0, 0, 0, ((fun s : State => s.ssHubWith (.root 0) (fun h => { h with depth := some 0 }))
      (w0.putAll [(.ups 0, F.UPS_LINK_STATUS_LINK_STATE, 0), (.prs, F.PRS_Uu_STATUS_ATTACHED 0, 1)])), by decide +kernel⟩,
   ⟨⟨.up 0, 1, 64, false, false, ⟨0, 0⟩⟩, 0, 0, 0, ((fun s : State => s.setSsq (.rootDown 0 0) [⟨.up 0, 1, 32768, false, false, ⟨0, 0⟩⟩])
      ((fun s : State => s.ssHubWith (.root 0) (fun h => { h with depth := some 0 })) (w0.putAll [(.ups 0, F.UPS_LINK_STATUS_LINK_STATE,
      0), (.prs, F.PRS_Uu_STATUS_ATTACHED 0, 1)]))), by decide +kernel⟩,
   ⟨⟨.up 0, 7, 64, false, false, ⟨0, 0⟩⟩, 0, 0, ((fun s : State => s.ssHubWith (.root 0) (fun h => { h with depth := some 0 })) (w0.putAll
      [(.ups 0, F.UPS_LINK_STATUS_LINK_STATE, 0), (.prs, F.PRS_Uu_STATUS_ATTACHED 0, 1)])), by decide +kernel⟩,
   ⟨⟨.up 0, 1, 64, false, false, ⟨0, 0⟩⟩, 0, (w0.putAll [(.ups 0, F.UPS_LINK_STATUS_LINK_STATE, 0), (.prs, F.PRS_Uu_STATUS_ATTACHED 0,
      1)]), by decide +kernel⟩,
   ⟨⟨.down 0, 0, 64, false, false, ⟨0, 0⟩⟩, 0, (w0.putAll [(.ssp 0, F.SSP_STATUS_LINK_STATE, 0), (.prs, F.PRS_OWNERn_CUR 0, 1), (.prs,
      F.PRS_Uu_STATUS_ATTACHED 0, 1), (.ssh 0, F.SSH_CFG_CTX0_EN, 1), (.ups 0, F.UPS_LINK_STATUS_LINK_STATE, 0)]), by decide +kernel⟩,
   ⟨⟨.down 0, 0, 64, false, false, ⟨0, 0⟩⟩, 0, ((fun s : State => s.sspWith 0 (fun x => { x with stale := true })) (w0.putAll [(.ssp 0,
      F.SSP_STATUS_LINK_STATE, 0), (.prs, F.PRS_OWNERn_CUR 0, 1), (.prs, F.PRS_Uu_STATUS_ATTACHED 0, 1), (.ssh 0, F.SSH_CFG_CTX0_EN, 1),
      (.ups 0, F.UPS_LINK_STATUS_LINK_STATE, 0)])), by decide +kernel⟩,
   ⟨⟨.up 0, 0x11, 64, false, false, ⟨0, 0⟩⟩, [], 0, ((fun s : State => s.setSsq (.portDown 0) [⟨.up 0, 0x11, 64, false, false, ⟨0, 0⟩⟩])
      (w0.putAll [(.ssp 0, F.SSP_STATUS_LINK_STATE, 0)])), by decide +kernel⟩,
   ⟨⟨.up 0, 0x11, 64, false, false, ⟨0, 0⟩⟩, [], 0, 0, ((fun s : State => s.setSsq (.portUp 0) [⟨.up 0, 0x11, 64, false, false, ⟨0, 0⟩⟩])
      (w0.putAll [(.prs, F.PRS_OWNERn_CUR 0, 1), (.prs, F.PRS_Uu_STATUS_ATTACHED 0, 1), (.ssh 0, F.SSH_CFG_CTX0_EN, 1), (.ups 0,
      F.UPS_LINK_STATUS_LINK_STATE, 0)])), by decide +kernel⟩,
   ⟨⟨.up 0, 0x11, 64, false, false, ⟨0, 0⟩⟩, [], 0, 0, 1, 0, ((fun s : State => s.setSsq (.rootDown 0 0) [⟨.up 0, 0x11, 64, false, false,
      ⟨0, 0⟩⟩]) ((fun s : State => s.ssHubWith (.plate 0 0) (fun h => { h with depth := some 1 })) (w0.putAll [(.prs, F.PRS_OWNERn_CUR
      0, 1), (.prs, F.PRS_Uu_STATUS_ATTACHED 0, 1), (.ssh 0, F.SSH_CFG_CTX0_EN, 1), (.ups 0, F.UPS_LINK_STATUS_LINK_STATE, 0), (.ssp 0,
      F.SSP_STATUS_LINK_STATE, 0)]))), by decide +kernel⟩,
   ⟨⟨.up 0, 0x11, 64, false, false, ⟨0, 0⟩⟩, [], 0, 0, 1, 0, ((fun s : State => s.setSsq (.rootDown 0 0) [⟨.up 0, 0x11, 64, false, false,
      ⟨0, 0⟩⟩]) ((fun s : State => s.ssHubWith (.plate 0 0) (fun h => { h with depth := some 1 })) (w0.putAll [(.prs, F.PRS_OWNERn_CUR
      0, 1), (.prs, F.PRS_Uu_STATUS_ATTACHED 0, 1), (.ssh 0, F.SSH_CFG_CTX0_EN, 1), (.ups 0, F.UPS_LINK_STATUS_LINK_STATE, 0), (.ssp 0,
      F.SSP_STATUS_LINK_STATE, 5)]))), by decide +kernel⟩,
   ⟨⟨.up 0, 0x11, 64, false, false, ⟨0, 0⟩⟩, [], 0, 0, 1, 0, ((fun s : State => s.setSsq (.rootDown 0 0) [⟨.up 0, 0x11, 64, false, false,
      ⟨0, 0⟩⟩]) ((fun s : State => s.ssHubWith (.plate 0 0) (fun h => { h with depth := some 1 })) (w0.putAll [(.prs, F.PRS_OWNERn_CUR
      0, 2), (.prs, F.PRS_Uu_STATUS_ATTACHED 0, 1), (.ssh 0, F.SSH_CFG_CTX0_EN, 1), (.ups 0, F.UPS_LINK_STATUS_LINK_STATE, 0), (.ssp 0,
      F.SSP_STATUS_LINK_STATE, 0)]))), by decide +kernel⟩,
   ⟨⟨.up 0, 0x11, 64, false, false, ⟨0, 0⟩⟩, [], 0, 0, 1, 0, ((fun s : State => s.setSsq (.rootDown 0 0) [⟨.up 0, 0x11, 64, false, false,
      ⟨0, 0⟩⟩]) ((fun s : State => s.ssHubWith (.plate 0 0) (fun h => { h with depth := some 1 })) (w0.putAll [(.prs, F.PRS_OWNERn_CUR
      0, 1), (.prs, F.PRS_Uu_STATUS_ATTACHED 0, 1), (.ssh 0, F.SSH_CFG_CTX0_EN, 1), (.ups 0, F.UPS_LINK_STATUS_LINK_STATE, 0), (.ssp 0,
      F.SSP_STATUS_LINK_STATE, 1)]))), by decide +kernel⟩,
   ⟨⟨.up 0, 0x11, 64, false, false, ⟨0, 0⟩⟩, [], 0, 0, 1, 0, ((fun s : State => s.setSsq (.portDown 0) [⟨.up 0, 1, 32768, false, false, ⟨0,
      0⟩⟩]) ((fun s : State => s.setSsq (.rootDown 0 0) [⟨.up 0, 0x11, 64, false, false, ⟨0, 0⟩⟩]) ((fun s : State => s.ssHubWith
      (.plate 0 0) (fun h => { h with depth := some 1 })) (w0.putAll [(.prs, F.PRS_OWNERn_CUR 0, 1), (.prs, F.PRS_Uu_STATUS_ATTACHED 0,
      1), (.ssh 0, F.SSH_CFG_CTX0_EN, 1), (.ups 0, F.UPS_LINK_STATUS_LINK_STATE, 0), (.ssp 0, F.SSP_STATUS_LINK_STATE, 0)])))),
      by decide +kernel⟩,
   ⟨⟨.up 0, 0x11, 64, false, false, ⟨0, 0⟩⟩, [], 0, 0, ((fun s : State => s.setSsq (.rootUp 0 0) [⟨.up 0, 0x11, 64, false, false, ⟨0, 0⟩⟩])
      (w0.putAll [(.ups 0, F.UPS_LINK_STATUS_LINK_STATE, 1), (.prs, F.PRS_Uu_STATUS_ATTACHED 0, 1)])), by decide +kernel⟩⟩

theorem witness_PresentationsAttachAndDetach :
    (∃ (rp : Fin 4) (v : Nat) (s : State), s.coreUp = true ∧ s.loaded = true ∧ rp ≠ 0 ∧ 40000000 ≤ adcUv10 v) ∧
    (∃ (rp : Fin 4) (v : Nat) (s : State), (rp = 0 ∨ adcUv10 v < 40000000)) ∧
    (∃ (u : Up) (s : State), s.flag (.ups u) F.UPS_CC_STATUS_ATTACHED = true) ∧
    (∃ (u : Up) (s : State), s.mayAttach u = true) ∧
    (∃ (u : Up) (s : State), s.mayAttach u = false) ∧
    (∃ (u : Up) (s : State), (s.pres u).restart = 1) ∧
    (∃ (u : Up) (s : State), s.coreUp = true ∧ s.presAttached u = true) :=
  ⟨⟨2, 356, w0, by decide +kernel⟩,
   ⟨2, 100, w0, by decide +kernel⟩,
   ⟨0, (w0.putAll [(.prs, F.PRS_Uu_STATUS_ATTACHED 0, 1), (.ups 0, F.UPS_CC_STATUS_ATTACHED, 1)]), by decide +kernel⟩,
   ⟨0, (w0.putAll [(.ups 0, F.UPS_CC_STATUS_ATTACHED, 1), (.glb, F.GLB_READY_UP_CAL, 1), (.glb, F.GLB_READY_PLATE_CAL, 15)]),
      by decide +kernel⟩,
   ⟨0, w0, by decide +kernel⟩,
   ⟨0, ((fun s : State => s.presWith 0 (fun x => { x with restart := 1 })) w0), by decide +kernel⟩,
   ⟨0, (w0.putAll [(.prs, F.PRS_Uu_STATUS_ATTACHED 0, 1), (.ups 0, F.UPS_CC_STATUS_ATTACHED, 1)]), by decide +kernel⟩⟩

theorem witness_FailoverAndFailbackMovePorts :
    (∃ (u : Up) (s : State), (s.pres u).restart = 0 ∧ s.suspLive u = false) ∧
    (∃ (u : Up) (p : Port) (s : State), (s.pres u).live = true ∧ (s.pres u).restart = 0 ∧ s.suspLive u = false ∧ s.foRuns = true ∧
      s.presAttached (otherUp u) = true ∧ s.isLive (otherUp u) = true ∧ s.curOwner p = u.val + 1 ∧ s.cfgFlag .prs (F.PRS_OWNERn_FO_EN
      p.val) = true ∧ s.ownerBad p = false ∧ s.moving p = false) ∧
    (∃ (u : Up) (s : State), (s.pres u).live = true ∧ (s.pres u).restart = 0 ∧ s.suspLive u = false ∧ s.foRuns = true ∧ s.isLive (otherUp u)
      = false) ∧
    (∃ (u : Up) (s : State), (s.pres u).live = true ∧ (s.pres u).restart = 0 ∧ s.framesLive u = false ∧ s.foRuns = true ∧ s.cfg .prs
      F.PRS_FO_CFG_FO_SUSP_LIMIT ≠ 0) ∧
    (∃ (u : Up) (s : State), s.coreUp = true ∧ s.isLive u = true ∧ (s.pres (otherUp u)).foPending = 0) ∧
    (∃ (u : Up) (p : Port) (s : State), s.coreUp = true ∧ s.presAttached u = true ∧ s.isLive u = true ∧ (s.pres (otherUp u)).foPending ≠ 0 ∧
      s.isLive (otherUp u) = false ∧ s.foRuns = true ∧ s.curOwner p = (otherUp u).val + 1 ∧ s.cfgFlag .prs (F.PRS_OWNERn_FO_EN p.val) =
      true ∧ s.ownerBad p = false ∧ s.moving p = false) ∧
    (∃ (u : Up) (p : Port) (s : State), s.coreUp = true ∧ s.compat = false ∧ s.foRuns = true ∧ s.fbMode = 1 ∧ s.framesLive u = true ∧ (s.hub
      (.pres u)).st = 3 ∧ s.failedTo u p = true ∧ s.moving p = false) ∧
    (∃ (u : Up) (s : State), s.compat = false ∧ s.coreUp = true ∧ s.framesLive u = true ∧ (s.hub (.pres u)).st = 3 ∧ s.fbMode = 0) ∧
    (∃ (u : Up) (s : State), s.framesLive u = false) ∧
    (∃ (p : Port) (s : State), s.coreUp = true ∧ s.moving p = true ∧ s.moveBegun.getLsbD p.val = true ∧ s.ownerBad p = false) ∧
    (∃ (p : Port) (s : State), s.moveBegun.getLsbD p.val = false) ∧
    (∃ (p : Port) (s : State), s.moving p = false) :=
  ⟨⟨0, ((fun s : State => s.presWith 0 (fun x => { x with live := true, sofLive := true })) (w0.putAll [(.prs, F.PRS_Uu_STATUS_ATTACHED 0,
      1), (.ups 0, F.UPS_CC_STATUS_ATTACHED, 1)])), by decide +kernel⟩,
   ⟨0, 3, (((fun s : State => s.presWith 1 (fun x => { x with live := true, sofLive := true })) (((fun s : State => s.presWith 0 (fun x =>
      { x with live := true, sofLive := true })) (w0.putAll [(.prs, F.PRS_Uu_STATUS_ATTACHED 0, 1), (.ups 0, F.UPS_CC_STATUS_ATTACHED,
      1)])).putAll [(.prs, F.PRS_Uu_STATUS_ATTACHED 1, 1), (.ups 1, F.UPS_CC_STATUS_ATTACHED, 1)])).putAll [(.prs, F.PRS_OWNERn_CUR 3,
      1), (.prs, F.PRS_OWNERn_FO_EN 3, 1)]), by decide +kernel⟩,
   ⟨0, ((fun s : State => s.presWith 0 (fun x => { x with live := true, sofLive := true })) (w0.putAll [(.prs, F.PRS_Uu_STATUS_ATTACHED 0,
      1), (.ups 0, F.UPS_CC_STATUS_ATTACHED, 1)])), by decide +kernel⟩,
   ⟨0, (((fun s : State => s.presWith 0 (fun x => { x with live := true })) (w0.putAll [(.prs, F.PRS_Uu_STATUS_ATTACHED 0, 1), (.ups 0,
      F.UPS_CC_STATUS_ATTACHED, 1)])).putAll [(.ups 0, F.UPS_LINK_STATUS_LINK_STATE, 3), (.prs, F.PRS_FO_CFG_FO_SUSP_LIMIT, 2)]),
      by decide +kernel⟩,
   ⟨0, ((fun s : State => s.presWith 0 (fun x => { x with sofLive := true })) (w0.putAll [(.prs, F.PRS_Uu_STATUS_ATTACHED 0, 1), (.ups 0,
      F.UPS_CC_STATUS_ATTACHED, 1)])), by decide +kernel⟩,
   ⟨0, 3, (((fun s : State => s.presWith 1 (fun x => { x with foPending := 2 })) ((fun s : State => s.presWith 0 (fun x =>
      { x with sofLive := true })) (w0.putAll [(.prs, F.PRS_Uu_STATUS_ATTACHED 0, 1), (.ups 0, F.UPS_CC_STATUS_ATTACHED, 1)]))).putAll
      [(.prs, F.PRS_OWNERn_CUR 3, 2), (.prs, F.PRS_OWNERn_FO_EN 3, 1)]), by decide +kernel⟩,
   ⟨0, 3, (((fun s : State => s.hubWith (.pres 0) (fun h => { h with st := 3 })) ((fun s : State => s.presWith 0 (fun x =>
      { x with live := true, sofLive := true })) (w0.putAll [(.prs, F.PRS_Uu_STATUS_ATTACHED 0, 1), (.ups 0, F.UPS_CC_STATUS_ATTACHED,
      1)]))).putAll [(.prs, F.PRS_FO_CFG_FB_MODE, 1), (.prs, F.PRS_OWNERn_CUR 3, 2), (.prs, F.PRS_OWNERn_FAILED_OVER 3, 1), (.prs,
      F.PRS_OWNERn_HOME 3, 1)]), by decide +kernel⟩,
   ⟨0, (((fun s : State => s.hubWith (.pres 0) (fun h => { h with st := 3 })) ((fun s : State => s.presWith 0 (fun x =>
      { x with live := true, sofLive := true })) (w0.putAll [(.prs, F.PRS_Uu_STATUS_ATTACHED 0, 1), (.ups 0, F.UPS_CC_STATUS_ATTACHED,
      1)]))).putAll [(.prs, F.PRS_FO_CFG_FB_MODE, 0)]), by decide +kernel⟩,
   ⟨0, w0, by decide +kernel⟩,
   ⟨0, ((fun s : State => s.setBegun 0 true) (w0.putAll [(.prs, F.PRS_OWNERn_MOVING 0, 1), (.prs, F.PRS_OWNERn_OWNER 0, 2), (.prs,
      F.PRS_OWNERn_CUR 0, 1)])), by decide +kernel⟩,
   ⟨0, w0, by decide +kernel⟩,
   ⟨0, w0, by decide +kernel⟩⟩

theorem witness_VendorRequestsExecuteOnce :
    (∃ (fi : FnInst) (value : BitVec 16) (index : BitVec 16) (len : Nat) (s : State), s.fnHears fi.up fi.ss = true ∧ s.ssServes fi.up =
      fi.ss ∧ ((s.mgf fi.up).inst fi.ss).suspended = false ∧ ((s.mgf fi.up).inst fi.ss).st = 2 ∧ s.pageOn .mgf = true ∧ (s.mgf
      fi.up).exec = none ∧ regLen value index len = true) ∧
    (∃ (fi : FnInst) (value : BitVec 16) (index : BitVec 16) (len : Nat) (s : State), s.fnHears fi.up fi.ss = true ∧ s.ssServes fi.up =
      fi.ss ∧ ((s.mgf fi.up).inst fi.ss).suspended = false ∧ ((s.mgf fi.up).inst fi.ss).st = 2 ∧ s.pageOn .mgf = true ∧ (s.mgf
      fi.up).exec = none ∧ regLen value index len = false) ∧
    (∃ (fi : FnInst) (value : BitVec 16) (index : BitVec 16) (e : List Byte) (s : State), s.fnHears fi.up fi.ss = true ∧ s.ssServes fi.up =
      fi.ss ∧ ((s.mgf fi.up).inst fi.ss).suspended = false ∧ ((s.mgf fi.up).inst fi.ss).st = 2 ∧ s.pageOn .mgf = true ∧ (s.mgf
      fi.up).exec = none ∧ regLen value index e.length = true ∧ regClean e = true) ∧
    (∃ (fi : FnInst) (value : BitVec 16) (index : BitVec 16) (e : List Byte) (s : State), s.fnHears fi.up fi.ss = true ∧ s.ssServes fi.up =
      fi.ss ∧ ((s.mgf fi.up).inst fi.ss).suspended = false ∧ ((s.mgf fi.up).inst fi.ss).st = 2 ∧ s.pageOn .mgf = true ∧ (s.mgf
      fi.up).exec = none ∧ regLen value index e.length = true ∧ regClean e = false) ∧
    (∃ (fi : FnInst) (rq : StoreReq) (s : State), s.fnHears fi.up fi.ss = true ∧ s.ssServes fi.up = fi.ss ∧ ((s.mgf fi.up).inst
      fi.ss).suspended = false ∧ ((s.mgf fi.up).inst fi.ss).st = 2 ∧ s.pageOn .mgf = true ∧ (s.mgf fi.up).exec = none ∧ storePlain rq =
      true ∧ 1 ≤ rq.len ∧ rq.len ≤ 68) ∧
    (∃ (fi : FnInst) (rq : StoreReq) (s : State), s.fnHears fi.up fi.ss = true ∧ s.ssServes fi.up = fi.ss ∧ ((s.mgf fi.up).inst
      fi.ss).suspended = false ∧ ((s.mgf fi.up).inst fi.ss).st = 2 ∧ s.pageOn .mgf = true ∧ (s.mgf fi.up).exec = none ∧ (storePlain rq =
      false ∨ rq.len = 0 ∨ 68 < rq.len)) ∧
    (∃ (fi : FnInst) (rq : StoreReq) (s : State), s.fnHears fi.up fi.ss = true ∧ s.ssServes fi.up = fi.ss ∧ ((s.mgf fi.up).inst
      fi.ss).suspended = false ∧ ((s.mgf fi.up).inst fi.ss).st = 2 ∧ s.pageOn .mgf = true ∧ (s.mgf fi.up).exec = none ∧ storePlain rq =
      true ∧ 1 ≤ rq.len ∧ rq.len ≤ 512) ∧
    (∃ (fi : FnInst) (len : Nat) (s : State), s.fnHears fi.up fi.ss = true ∧ s.ssServes fi.up = fi.ss ∧ ((s.mgf fi.up).inst fi.ss).suspended
      = false ∧ ((s.mgf fi.up).inst fi.ss).st = 2 ∧ s.pageOn .mgf = true ∧ (s.mgf fi.up).exec = none ∧ dramLen len = true) ∧
    (∃ (fi : FnInst) (d : List Byte) (s : State), s.fnHears fi.up fi.ss = true ∧ s.ssServes fi.up = fi.ss ∧ ((s.mgf fi.up).inst
      fi.ss).suspended = false ∧ ((s.mgf fi.up).inst fi.ss).st = 2 ∧ s.pageOn .mgf = true ∧ (s.mgf fi.up).exec = none ∧ dramLen d.length
      = true) ∧
    (∃ (fi : FnInst) (s : State), s.fnHears fi.up fi.ss = true ∧ s.ssServes fi.up = fi.ss ∧ ((s.mgf fi.up).inst fi.ss).suspended = false ∧
      ((s.mgf fi.up).inst fi.ss).st = 2 ∧ s.pageOn .mgf = true ∧ (s.mgf fi.up).exec ≠ none) ∧
    (∃ (fi : FnInst) (s : State), s.fnHears fi.up fi.ss = true ∧ s.ssServes fi.up = fi.ss ∧ ((s.mgf fi.up).inst fi.ss).suspended = false ∧
      ((s.mgf fi.up).inst fi.ss).st = 2 ∧ s.pageOn .mgf = true ∧ (s.mgf fi.up).exec ≠ none) ∧
    (∃ (fi : FnInst) (s : State), s.fnHears fi.up fi.ss = true ∧ s.ssServes fi.up = fi.ss ∧ ((s.mgf fi.up).inst fi.ss).suspended = false ∧
      ((s.mgf fi.up).inst fi.ss).st = 2 ∧ s.pageOn .mgf = true ∧ (s.mgf fi.up).exec ≠ none) ∧
    (∃ (fi : FnInst) (s : State), s.fnHears fi.up fi.ss = true ∧ s.ssServes fi.up = fi.ss ∧ ((s.mgf fi.up).inst fi.ss).suspended = false ∧
      ((s.mgf fi.up).inst fi.ss).st = 2 ∧ s.pageOn .mgf = true ∧ (s.mgf fi.up).exec ≠ none) ∧
    (∃ (u : Up) (e : VendorExec) (s : State), (s.mgf u).exec = some e ∧ e.finished = true ∧ e.lost = false ∧ e.refused = false ∧ (e.breq = 1
      ∨ e.breq = 5)) ∧
    (∃ (u : Up) (e : VendorExec) (s : State), (s.mgf u).exec = some e ∧ e.finished = true ∧ e.lost = false ∧ e.refused = false ∧ e.breq ≠ 1
      ∧ e.breq ≠ 5) ∧
    (∃ (fi : FnInst) (len : Nat) (s : State), s.fnHears fi.up fi.ss = true ∧ ((s.mgf fi.up).inst fi.ss).suspended = false ∧ (s.ssServes
      fi.up ≠ fi.ss ∨ ((s.mgf fi.up).inst fi.ss).st ≠ 2 ∨ s.pageOn .mgf = false ∨ dramLen len = false)) ∧
    (∃ (u : Up) (e : VendorExec) (s : State), (s.mgf u).exec = some e ∧ e.finished = false ∧ e.lost = false ∧ e.refused = false ∧ e.breq = 5
      ∧ s.dramServes = true) ∧
    (∃ (u : Up) (e : VendorExec) (s : State), (s.mgf u).exec = some e ∧ e.finished = false ∧ e.lost = false ∧ e.refused = false ∧ e.breq = 6
      ∧ s.dramServes = true) ∧
    (∃ (u : Up) (e : VendorExec) (s : State), (s.mgf u).exec = some e ∧ e.finished = false ∧ e.lost = false ∧ e.refused = false ∧ e.breq = 6
      ∧ s.dramServes = true ∧ s.dramUp = true ∧ s.hostInWin u e.addr e.data.length = false) ∧
    (∃ (u : Up) (e : VendorExec) (s : State), (s.mgf u).exec = some e ∧ e.finished = true ∧ e.lost = false ∧ e.refused = true ∧ e.breq = 2) :=
  ⟨⟨⟨0, false⟩, 0x40, 0, 16, ((fun s : State => s.mgfWith 0 (fun m => { m with u2 := { m.u2 with st := 2 } })) (w0.putAll [(.prs,
      F.PRS_Uu_STATUS_ATTACHED 0, 1)])), by decide +kernel⟩,
   ⟨⟨0, false⟩, 0x40, 0, 12, ((fun s : State => s.mgfWith 0 (fun m => { m with u2 := { m.u2 with st := 2 } })) (w0.putAll [(.prs,
      F.PRS_Uu_STATUS_ATTACHED 0, 1)])), by decide +kernel⟩,
   ⟨⟨0, false⟩, 0x40, 0, [1, 2, 3, 4, 15, 0, 0, 0], ((fun s : State => s.mgfWith 0 (fun m => { m with u2 := { m.u2 with st := 2 } }))
      (w0.putAll [(.prs, F.PRS_Uu_STATUS_ATTACHED 0, 1)])), by decide +kernel⟩,
   ⟨⟨0, false⟩, 0x40, 0, [1, 2, 3, 4, 15, 0, 0, 1], ((fun s : State => s.mgfWith 0 (fun m => { m with u2 := { m.u2 with st := 2 } }))
      (w0.putAll [(.prs, F.PRS_Uu_STATUS_ATTACHED 0, 1)])), by decide +kernel⟩,
   ⟨⟨0, false⟩, ⟨0, 0, 8⟩, ((fun s : State => s.mgfWith 0 (fun m => { m with u2 := { m.u2 with st := 2 } })) (w0.putAll [(.prs,
      F.PRS_Uu_STATUS_ATTACHED 0, 1)])), by decide +kernel⟩,
   ⟨⟨0, false⟩, ⟨0, 0, 0⟩, ((fun s : State => s.mgfWith 0 (fun m => { m with u2 := { m.u2 with st := 2 } })) (w0.putAll [(.prs,
      F.PRS_Uu_STATUS_ATTACHED 0, 1)])), by decide +kernel⟩,
   ⟨⟨0, false⟩, ⟨0, 0, 8⟩, ((fun s : State => s.mgfWith 0 (fun m => { m with replay := [1, 2, 3] })) ((fun s : State => s.mgfWith 0 (fun m
      => { m with u2 := { m.u2 with st := 2 } })) (w0.putAll [(.prs, F.PRS_Uu_STATUS_ATTACHED 0, 1)]))), by decide +kernel⟩,
   ⟨⟨0, false⟩, 8, (((fun s : State => s.mgfWith 0 (fun m => { m with u2 := { m.u2 with st := 2 } })) (w0.putAll [(.prs,
      F.PRS_Uu_STATUS_ATTACHED 0, 1)])).putAll [(.drc, F.DRC_STATUS_STATE, 4), (.drc, F.DRC_STATUS_SIZE_MIB, 4096), (.drc,
      F.DRC_HAu_WIN_LIMIT 0, 4096), (.drc, F.DRC_HAu_WIN_BASE 0, 0)]), by decide +kernel⟩,
   ⟨⟨0, false⟩, [1, 2, 3, 4], (((fun s : State => s.mgfWith 0 (fun m => { m with u2 := { m.u2 with st := 2 } })) (w0.putAll [(.prs,
      F.PRS_Uu_STATUS_ATTACHED 0, 1)])).putAll [(.drc, F.DRC_STATUS_STATE, 4), (.drc, F.DRC_STATUS_SIZE_MIB, 4096), (.drc,
      F.DRC_HAu_WIN_LIMIT 0, 4096), (.drc, F.DRC_HAu_WIN_BASE 0, 0)]), by decide +kernel⟩,
   ⟨⟨0, false⟩, ((fun s : State => s.mgfWith 0 (fun m => { m with exec := some ⟨1, false, false, [], 0, 0, 8, [], false, false⟩ })) ((fun s
      : State => s.mgfWith 0 (fun m => { m with u2 := { m.u2 with st := 2 } })) (w0.putAll [(.prs, F.PRS_Uu_STATUS_ATTACHED 0, 1)]))),
      by decide +kernel⟩,
   ⟨⟨0, false⟩, ((fun s : State => s.mgfWith 0 (fun m => { m with exec := some ⟨1, false, false, [], 0, 0, 8, [], false, false⟩ })) ((fun s
      : State => s.mgfWith 0 (fun m => { m with u2 := { m.u2 with st := 2 } })) (w0.putAll [(.prs, F.PRS_Uu_STATUS_ATTACHED 0, 1)]))),
      by decide +kernel⟩,
   ⟨⟨0, false⟩, ((fun s : State => s.mgfWith 0 (fun m => { m with exec := some ⟨1, false, false, [], 0, 0, 8, [], false, false⟩ })) ((fun s
      : State => s.mgfWith 0 (fun m => { m with u2 := { m.u2 with st := 2 } })) (w0.putAll [(.prs, F.PRS_Uu_STATUS_ATTACHED 0, 1)]))),
      by decide +kernel⟩,
   ⟨⟨0, false⟩, ((fun s : State => s.mgfWith 0 (fun m => { m with exec := some ⟨1, false, false, [], 0, 0, 8, [], false, false⟩ })) ((fun s
      : State => s.mgfWith 0 (fun m => { m with u2 := { m.u2 with st := 2 } })) (w0.putAll [(.prs, F.PRS_Uu_STATUS_ATTACHED 0, 1)]))),
      by decide +kernel⟩,
   ⟨0, ⟨1, true, false, [⟨0, 0x12345678⟩], 0, 0, 8, [], true, false⟩, ((fun s : State => s.mgfWith 0 (fun m =>
      { m with exec := some ⟨1, true, false, [⟨0, 0x12345678⟩], 0, 0, 8, [], true, false⟩ })) (w0.putAll [(.prs,
      F.PRS_Uu_STATUS_ATTACHED 0, 1)])), by decide +kernel⟩,
   ⟨0, ⟨2, false, false, [⟨2, 0⟩], 0, 0, 8, [], true, false⟩, ((fun s : State => s.mgfWith 0 (fun m =>
      { m with exec := some ⟨2, false, false, [⟨2, 0⟩], 0, 0, 8, [], true, false⟩ })) (w0.putAll [(.prs, F.PRS_Uu_STATUS_ATTACHED 0,
      1)])), by decide +kernel⟩,
   ⟨⟨0, true⟩, 8, (w0.putAll [(.prs, F.PRS_Uu_STATUS_ATTACHED 0, 1), (.ups 0, F.UPS_LINK_STATUS_LINK_STATE, 0)]), by decide +kernel⟩,
   ⟨0, ⟨5, true, false, [], 0, 16, 8, [], false, false⟩, ((fun s : State => s.mgfWith 0 (fun m =>
      { m with exec := some ⟨5, true, false, [], 0, 16, 8, [], false, false⟩ })) (w0.putAll [(.prs, F.PRS_Uu_STATUS_ATTACHED 0, 1),
      (.drc, F.DRC_STATUS_STATE, 4), (.drc, F.DRC_STATUS_SIZE_MIB, 4096), (.drc, F.DRC_HAu_WIN_LIMIT 0, 4096), (.drc, F.DRC_HAu_WIN_BASE
      0, 0)])), by decide +kernel⟩,
   ⟨0, ⟨6, true, false, [], 0, 16, 4, [1, 2, 3, 4], false, false⟩, ((fun s : State => s.mgfWith 0 (fun m =>
      { m with exec := some ⟨6, true, false, [], 0, 16, 4, [1, 2, 3, 4], false, false⟩ })) (w0.putAll [(.prs, F.PRS_Uu_STATUS_ATTACHED
      0, 1), (.drc, F.DRC_STATUS_STATE, 4), (.drc, F.DRC_STATUS_SIZE_MIB, 4096), (.drc, F.DRC_HAu_WIN_LIMIT 0, 4096), (.drc,
      F.DRC_HAu_WIN_BASE 0, 0)])), by decide +kernel⟩,
   ⟨0, ⟨6, true, false, [], 0, 16, 4, [1, 2, 3, 4], false, false⟩, ((fun s : State => s.mgfWith 0 (fun m =>
      { m with exec := some ⟨6, true, false, [], 0, 16, 4, [1, 2, 3, 4], false, false⟩ })) (w0.putAll [(.prs, F.PRS_Uu_STATUS_ATTACHED
      0, 1), (.drc, F.DRC_STATUS_STATE, 4), (.drc, F.DRC_STATUS_SIZE_MIB, 4096), (.drc, F.DRC_HAu_WIN_LIMIT 0, 0)])), by decide +kernel⟩,
   ⟨0, ⟨2, false, true, [], 0, 0, 8, [], true, false⟩, ((fun s : State => s.mgfWith 0 (fun m =>
      { m with exec := some ⟨2, false, true, [], 0, 0, 8, [], true, false⟩ })) (w0.putAll [(.prs, F.PRS_Uu_STATUS_ATTACHED 0, 1)])),
      by decide +kernel⟩⟩

theorem witness_BulkPipeMovesDramBytes :
    (∃ (at_ : EpAt) (b : List Byte) (s : State), s.epMoves at_.inst = true ∧ bulkWhole b = true ∧ bulkValid b = true ∧ s.epHalted
      at_.inst.up 2 = false ∧ at_.seq = (s.mgf at_.inst.up).seq[1] ∧ (s.mgf at_.inst.up).ep2Cmd = none) ∧
    (∃ (at_ : EpAt) (b : List Byte) (s : State), s.epMoves at_.inst = true ∧ bulkWhole b = true ∧ bulkValid b = false ∧ s.epHalted
      at_.inst.up 2 = false ∧ at_.seq = (s.mgf at_.inst.up).seq[1] ∧ (s.mgf at_.inst.up).ep2Cmd = none) ∧
    (∃ (at_ : EpAt) (b : List Byte) (s : State), s.epMoves at_.inst = true ∧ bulkWhole b = true ∧ s.epHalted at_.inst.up 2 = true) ∧
    (∃ (at_ : EpAt) (b : List Byte) (s : State), s.epMoves at_.inst = true ∧ bulkWhole b = true ∧ s.epHalted at_.inst.up 2 = false ∧ at_.seq
      ≠ (s.mgf at_.inst.up).seq[1]) ∧
    (∃ (at_ : EpAt) (b : List Byte) (s : State), s.epMoves at_.inst = true ∧ bulkWhole b = true ∧ s.epHalted at_.inst.up 2 = false ∧ at_.seq
      = (s.mgf at_.inst.up).seq[1] ∧ (s.mgf at_.inst.up).ep2Cmd ≠ none) ∧
    (∃ (u : Up) (c : BulkCmd) (s : State), s.bulkReady u false = some c ∧ c.lost = false) ∧
    (∃ (u : Up) (c : BulkCmd) (s : State), s.bulkReady u true = some c ∧ c.lost = true) ∧
    (∃ (u : Up) (c : BulkCmd) (s : State), s.bulkReady u true = some c ∧ c.lost = false) ∧
    (∃ (fi : FnInst) (n : Nat) (s : State), s.epMoves fi = true ∧ s.epHalted fi.up 3 = false ∧ (s.mgf fi.up).ep3Len ≠ 0 ∧ (s.mgf
      fi.up).ep3Pos + n < (s.mgf fi.up).ep3Len) ∧
    (∃ (fi : FnInst) (n : Nat) (s : State), s.epMoves fi = true ∧ s.epHalted fi.up 3 = false ∧ (s.mgf fi.up).ep3Len ≠ 0 ∧ (s.mgf
      fi.up).ep3Pos ≤ (s.mgf fi.up).ep3Len ∧ (s.mgf fi.up).ep3Len ≤ (s.mgf fi.up).ep3Pos + n) ∧
    (∃ (fi : FnInst) (s : State), s.epMoves fi = true ∧ s.epHalted fi.up 3 = false ∧ (s.mgf fi.up).ep3Len ≠ 0) :=
  ⟨⟨⟨⟨0, false⟩, 0⟩, [1, 0, 7, 0, 8, 0, 0, 0, 16, 0, 0, 0, 0, 0, 0, 0], ((fun s : State => s.mgfWith 0 (fun m =>
      { m with u2 := { m.u2 with st := 2 } })) (w0.putAll [(.prs, F.PRS_Uu_STATUS_ATTACHED 0, 1)])), by decide +kernel⟩,
   ⟨⟨⟨0, false⟩, 0⟩, [9, 0, 7, 0, 8, 0, 0, 0, 16, 0, 0, 0, 0, 0, 0, 0], ((fun s : State => s.mgfWith 0 (fun m =>
      { m with u2 := { m.u2 with st := 2 } })) (w0.putAll [(.prs, F.PRS_Uu_STATUS_ATTACHED 0, 1)])), by decide +kernel⟩,
   ⟨⟨⟨0, false⟩, 0⟩, [1, 0, 7, 0, 8, 0, 0, 0, 16, 0, 0, 0, 0, 0, 0, 0], ((fun s : State => s.setHalt 0 2 true) ((fun s : State => s.mgfWith
      0 (fun m => { m with u2 := { m.u2 with st := 2 } })) (w0.putAll [(.prs, F.PRS_Uu_STATUS_ATTACHED 0, 1)]))), by decide +kernel⟩,
   ⟨⟨⟨0, false⟩, 1⟩, [1, 0, 7, 0, 8, 0, 0, 0, 16, 0, 0, 0, 0, 0, 0, 0], ((fun s : State => s.mgfWith 0 (fun m =>
      { m with u2 := { m.u2 with st := 2 } })) (w0.putAll [(.prs, F.PRS_Uu_STATUS_ATTACHED 0, 1)])), by decide +kernel⟩,
   ⟨⟨⟨0, false⟩, 0⟩, [1, 0, 7, 0, 8, 0, 0, 0, 16, 0, 0, 0, 0, 0, 0, 0], ((fun s : State => s.mgfWith 0 (fun m =>
      { m with ep2Cmd := some ⟨false, 7, 8, 16, false⟩ })) ((fun s : State => s.mgfWith 0 (fun m =>
      { m with u2 := { m.u2 with st := 2 } })) (w0.putAll [(.prs, F.PRS_Uu_STATUS_ATTACHED 0, 1)]))), by decide +kernel⟩,
   ⟨0, ⟨false, 7, 8, 16, false⟩, ((fun s : State => s.mgfWith 0 (fun m => { m with ep2Cmd := some ⟨false, 7, 8, 16, false⟩ })) (((fun s :
      State => s.mgfWith 0 (fun m => { m with u2 := { m.u2 with st := 2 } })) (w0.putAll [(.prs, F.PRS_Uu_STATUS_ATTACHED 0,
      1)])).putAll [(.drc, F.DRC_STATUS_STATE, 4), (.drc, F.DRC_STATUS_SIZE_MIB, 4096), (.drc, F.DRC_HAu_WIN_LIMIT 0, 4096), (.drc,
      F.DRC_HAu_WIN_BASE 0, 0)])), by decide +kernel⟩,
   ⟨0, ⟨true, 7, 8, 16, true⟩, ((fun s : State => s.mgfWith 0 (fun m => { m with ep2Cmd := some ⟨true, 7, 8, 16, true⟩ })) (((fun s : State
      => s.mgfWith 0 (fun m => { m with u2 := { m.u2 with st := 2 } })) (w0.putAll [(.prs, F.PRS_Uu_STATUS_ATTACHED 0, 1)])).putAll
      [(.drc, F.DRC_STATUS_STATE, 4), (.drc, F.DRC_STATUS_SIZE_MIB, 4096), (.drc, F.DRC_HAu_WIN_LIMIT 0, 4096), (.drc,
      F.DRC_HAu_WIN_BASE 0, 0)])), by decide +kernel⟩,
   ⟨0, ⟨true, 7, 8, 16, false⟩, ((fun s : State => s.mgfWith 0 (fun m => { m with ep2Cmd := some ⟨true, 7, 8, 16, false⟩ })) (((fun s :
      State => s.mgfWith 0 (fun m => { m with u2 := { m.u2 with st := 2 } })) (w0.putAll [(.prs, F.PRS_Uu_STATUS_ATTACHED 0,
      1)])).putAll [(.drc, F.DRC_STATUS_STATE, 4), (.drc, F.DRC_STATUS_SIZE_MIB, 4096), (.drc, F.DRC_HAu_WIN_LIMIT 0, 4096), (.drc,
      F.DRC_HAu_WIN_BASE 0, 0)])), by decide +kernel⟩,
   ⟨⟨0, false⟩, 5, ((fun s : State => s.mgfWith 0 (fun m => { m with ep3Len := 16 })) ((fun s : State => s.mgfWith 0 (fun m =>
      { m with u2 := { m.u2 with st := 2 } })) (w0.putAll [(.prs, F.PRS_Uu_STATUS_ATTACHED 0, 1)]))), by decide +kernel⟩,
   ⟨⟨0, false⟩, 16, ((fun s : State => s.mgfWith 0 (fun m => { m with ep3Len := 16 })) ((fun s : State => s.mgfWith 0 (fun m =>
      { m with u2 := { m.u2 with st := 2 } })) (w0.putAll [(.prs, F.PRS_Uu_STATUS_ATTACHED 0, 1)]))), by decide +kernel⟩,
   ⟨⟨0, false⟩, ((fun s : State => s.mgfWith 0 (fun m => { m with ep3Len := 16 })) ((fun s : State => s.mgfWith 0 (fun m =>
      { m with u2 := { m.u2 with st := 2 } })) (w0.putAll [(.prs, F.PRS_Uu_STATUS_ATTACHED 0, 1)]))), by decide +kernel⟩⟩

theorem witness_ManagementFunctionEndpointsAndNotices :
    (∃ (fi : FnInst) (s : State), s.epMoves fi = true ∧ s.epHalted fi.up 1 = false ∧ (s.mgf fi.up).noticeOut = false ∧ s.flag .mgf
      (F.MGF_Uu_STATUS_NOTICE_PENDING fi.up.val) = true) ∧
    (∃ (fi : FnInst) (s : State), s.epMoves fi = true ∧ s.epHalted fi.up 1 = false ∧ (s.mgf fi.up).noticeOut = true) ∧
    (∃ (fi : FnInst) (s : State), s.epMoves fi = true ∧ s.epHalted fi.up 1 = false ∧ (s.mgf fi.up).noticeOut = false ∧ s.flag .mgf
      (F.MGF_Uu_STATUS_NOTICE_PENDING fi.up.val) = false) ∧
    (∃ (u : Up) (s : State), s.epServes u = true ∧ (s.mgf u).noticeOut = true) ∧
    (∃ (u : Up) (s : State), (s.mgf u).wakeDue = true ∧ s.upState u = lkU0 ∧ s.fnThere u = true) ∧
    (∃ (u : Up) (ss : Bool) (s : State), s.fnHears u ss = true ∧ s.ssServes u = ss) ∧
    (∃ (u : Up) (ss : Bool) (s : State), s.fnHears u ss = true ∧ s.ssServes u ≠ ss) ∧
    (∃ (u : Up) (ss : Bool) (v : Nat) (s : State), s.fnHears u ss = true ∧ ((s.mgf u).inst ss).suspended = false ∧ ((s.mgf u).inst ss).st ≠
      0 ∧ v ≤ 1) ∧
    (∃ (u : Up) (ss : Bool) (v : Nat) (s : State), s.fnHears u ss = true ∧ s.ssServes u = ss ∧ ((s.mgf u).inst ss).suspended = false ∧
      ((s.mgf u).inst ss).st = 2 ∧ v = 0) ∧
    (∃ (fi : FnInst) (ep : Nat) (s : State), s.fnHears fi.up fi.ss = true ∧ s.ssServes fi.up = fi.ss ∧ ((s.mgf fi.up).inst fi.ss).suspended
      = false ∧ ((s.mgf fi.up).inst fi.ss).st = 2 ∧ 1 ≤ ep ∧ ep ≤ 3) ∧
    (∃ (fi : FnInst) (ep : Nat) (s : State), s.fnHears fi.up fi.ss = true ∧ s.ssServes fi.up = fi.ss ∧ ((s.mgf fi.up).inst fi.ss).suspended
      = false ∧ ((s.mgf fi.up).inst fi.ss).st = 2 ∧ 1 ≤ ep ∧ ep ≤ 3) ∧
    (∃ (fi : FnInst) (s : State), s.fnHears fi.up fi.ss = true ∧ ((s.mgf fi.up).inst fi.ss).suspended = false) ∧
    (∃ (u : Up) (s : State), ((s.mgf u).ss.st == 2 && s.fnHears u true) ≠ s.ssServes u) :=
  ⟨⟨⟨0, false⟩, (((fun s : State => s.mgfWith 0 (fun m => { m with u2 := { m.u2 with st := 2 } })) (w0.putAll [(.prs,
      F.PRS_Uu_STATUS_ATTACHED 0, 1)])).putAll [(.mgf, F.MGF_Uu_STATUS_NOTICE_PENDING 0, 1)]), by decide +kernel⟩,
   ⟨⟨0, false⟩, ((fun s : State => s.mgfWith 0 (fun m => { m with noticeOut := true })) ((fun s : State => s.mgfWith 0 (fun m =>
      { m with u2 := { m.u2 with st := 2 } })) (w0.putAll [(.prs, F.PRS_Uu_STATUS_ATTACHED 0, 1)]))), by decide +kernel⟩,
   ⟨⟨0, false⟩, ((fun s : State => s.mgfWith 0 (fun m => { m with u2 := { m.u2 with st := 2 } })) (w0.putAll [(.prs,
      F.PRS_Uu_STATUS_ATTACHED 0, 1)])), by decide +kernel⟩,
   ⟨0, ((fun s : State => s.mgfWith 0 (fun m => { m with noticeOut := true })) ((fun s : State => s.mgfWith 0 (fun m =>
      { m with u2 := { m.u2 with st := 2 } })) (w0.putAll [(.prs, F.PRS_Uu_STATUS_ATTACHED 0, 1)]))), by decide +kernel⟩,
   ⟨0, ((fun s : State => s.mgfWith 0 (fun m => { m with wakeDue := true })) (w0.putAll [(.prs, F.PRS_Uu_STATUS_ATTACHED 0, 1), (.ups 0,
      F.UPS_LINK_STATUS_LINK_STATE, 0)])), by decide +kernel⟩,
   ⟨0, false, ((fun s : State => s.mgfWith 0 (fun m => { m with u2 := { m.u2 with st := 2 } })) (w0.putAll [(.prs, F.PRS_Uu_STATUS_ATTACHED
      0, 1)])), by decide +kernel⟩,
   ⟨0, true, (((fun s : State => s.mgfWith 0 (fun m => { m with u2 := { m.u2 with st := 2 } })) (w0.putAll [(.prs, F.PRS_Uu_STATUS_ATTACHED
      0, 1)])).putAll [(.ups 0, F.UPS_LINK_STATUS_LINK_STATE, 0)]), by decide +kernel⟩,
   ⟨0, false, 1, ((fun s : State => s.mgfWith 0 (fun m => { m with u2 := { m.u2 with st := 1 } })) (w0.putAll [(.prs,
      F.PRS_Uu_STATUS_ATTACHED 0, 1)])), by decide +kernel⟩,
   ⟨0, false, 0, ((fun s : State => s.mgfWith 0 (fun m => { m with u2 := { m.u2 with st := 2 } })) (w0.putAll [(.prs,
      F.PRS_Uu_STATUS_ATTACHED 0, 1)])), by decide +kernel⟩,
   ⟨⟨0, false⟩, 2, ((fun s : State => s.mgfWith 0 (fun m => { m with u2 := { m.u2 with st := 2 } })) (w0.putAll [(.prs,
      F.PRS_Uu_STATUS_ATTACHED 0, 1)])), by decide +kernel⟩,
   ⟨⟨0, false⟩, 3, ((fun s : State => s.mgfWith 0 (fun m => { m with ep3Len := 16 })) ((fun s : State => s.setHalt 0 3 true) ((fun s :
      State => s.mgfWith 0 (fun m => { m with u2 := { m.u2 with st := 2 } })) (w0.putAll [(.prs, F.PRS_Uu_STATUS_ATTACHED 0, 1)])))),
      by decide +kernel⟩,
   ⟨⟨0, false⟩, ((fun s : State => s.mgfWith 0 (fun m => { m with u2 := { m.u2 with st := 2 } })) (w0.putAll [(.prs,
      F.PRS_Uu_STATUS_ATTACHED 0, 1)])), by decide +kernel⟩,
   ⟨0, ((fun s : State => s.mgfWith 0 (fun m => { m with ss := { m.ss with st := 2 } })) (w0.putAll [(.prs, F.PRS_Uu_STATUS_ATTACHED 0, 1),
      (.ups 0, F.UPS_LINK_STATUS_LINK_STATE, 0)])), by decide +kernel⟩⟩

theorem witness_ServiceJobsMoveOwnershipAndPower :
    (∃ (p : Port) (j : Job) (x : JobPort) (s : State), s.runsJob p 2 j x = true ∧ x.phase = 0 ∧ s.curOwner p = 3) ∧
    (∃ (p : Port) (j : Job) (x : JobPort) (s : State), s.runsJob p 2 j x = true ∧ x.phase = 0 ∧ s.curOwner p ≠ 3 ∧ (j.word 0x24).testBit
      (s.curOwner p) = true ∧ s.ownerBad p = false ∧ s.compat = false ∧ s.moving p = false) ∧
    (∃ (p : Port) (j : Job) (x : JobPort) (s : State), s.runsJob p 2 j x = true ∧ x.phase = 0 ∧ s.curOwner p ≠ 3 ∧ (j.word 0x24).testBit
      (s.curOwner p) = false) ∧
    (∃ (p : Port) (j : Job) (x : JobPort) (s : State), s.runsJob p 2 j x = true ∧ x.phase ≠ 0 ∧ s.moving p = false) ∧
    (∃ (p : Port) (j : Job) (x : JobPort) (s : State), s.runsJob p 11 j x = true ∧ x.phase = 0 ∧ s.curOwner p = 3 ∧ j.word 0x24 < 3 ∧
      s.ownerBad p = false ∧ s.compat = false ∧ s.moving p = false) ∧
    (∃ (p : Port) (j : Job) (x : JobPort) (s : State), s.runsJob p 11 j x = true ∧ x.phase ≠ 0 ∧ s.moving p = false) ∧
    (∃ (p : Port) (j : Job) (x : JobPort) (s : State), s.runsJob p 1 j x = true ∧ j.word 0x24 = 0 ∧ x.phase = 0) ∧
    (∃ (p : Port) (j : Job) (x : JobPort) (s : State), s.runsJob p 1 j x = true ∧ j.word 0x24 = 0 ∧ x.phase ≠ 0 ∧ s.vbsRests p = true) ∧
    (∃ (p : Port) (j : Job) (x : JobPort) (s : State), s.runsJob p 1 j x = true ∧ j.word 0x24 = 1 ∧ x.phase = 0) ∧
    (∃ (p : Port) (j : Job) (x : JobPort) (s : State), s.runsJob p 1 j x = true ∧ j.word 0x24 = 1 ∧ x.phase ≠ 0 ∧ s.vbusOn p = true) ∧
    (∃ (p : Port) (j : Job) (x : JobPort) (s : State), s.runsJob p 1 j x = true ∧ j.word 0x24 = 1 ∧ x.phase ≠ 0 ∧ s.vbusOn p = false ∧
      s.flag (.vbs p) F.VBS_CTRL_FORCE_OFF = true) ∧
    (∃ (p : Port) (j : Job) (x : JobPort) (s : State), s.runsJob p 1 j x = true ∧ j.word 0x24 = 2 ∧ x.phase = 0) ∧
    (∃ (p : Port) (j : Job) (x : JobPort) (s : State), s.runsJob p 1 j x = true ∧ j.word 0x24 = 2 ∧ x.phase = 1 ∧ s.vbsRests p = true ∧
      s.flag (.vbs p) F.VBS_STATUS_SAFE0V = true) ∧
    (∃ (p : Port) (j : Job) (x : JobPort) (s : State), s.runsJob p 1 j x = true ∧ j.word 0x24 = 2 ∧ x.phase = 2) ∧
    (∃ (p : Port) (j : Job) (x : JobPort) (s : State), s.runsJob p 1 j x = true ∧ j.word 0x24 = 2 ∧ x.phase = 3 ∧ s.vbusOn p = true) :=
  ⟨⟨0, (jobOf (descOf 2 0 [1]) true (partOf 0 0)), (partOf 0 0), ((fun s : State => (fun _ : State => wJob (jobOf (descOf 2 0 [1]) true
      (partOf 0 0))) s) w0), by decide +kernel⟩,
   ⟨0, (jobOf (descOf 2 0 [2]) true (partOf 0 0)), (partOf 0 0), (((fun s : State => (fun _ : State => wJob (jobOf (descOf 2 0 [2]) true
      (partOf 0 0))) s) w0).putAll [(.prs, F.PRS_OWNERn_CUR 0, 1)]), by decide +kernel⟩,
   ⟨0, (jobOf (descOf 2 0 [2]) true (partOf 0 0)), (partOf 0 0), (((fun s : State => (fun _ : State => wJob (jobOf (descOf 2 0 [2]) true
      (partOf 0 0))) s) w0).putAll [(.prs, F.PRS_OWNERn_CUR 0, 2)]), by decide +kernel⟩,
   ⟨0, (jobOf (descOf 2 0 [2]) true (partOf 1 0)), (partOf 1 0), ((fun s : State => (fun _ : State => wJob (jobOf (descOf 2 0 [2]) true
      (partOf 1 0))) s) w0), by decide +kernel⟩,
   ⟨0, (jobOf (descOf 11 0 [1]) true (partOf 0 0)), (partOf 0 0), ((fun s : State => (fun _ : State => wJob (jobOf (descOf 11 0 [1]) true
      (partOf 0 0))) s) w0), by decide +kernel⟩,
   ⟨0, (jobOf (descOf 11 0 [1]) true (partOf 1 0)), (partOf 1 0), ((fun s : State => (fun _ : State => wJob (jobOf (descOf 11 0 [1]) true
      (partOf 1 0))) s) w0), by decide +kernel⟩,
   ⟨0, (jobOf (descOf 1 0 [0]) true (partOf 0 0)), (partOf 0 0), (((fun s : State => (fun _ : State => wJob (jobOf (descOf 1 0 [0]) true
      (partOf 0 0))) s) w0).putAll [(.vbs 0, F.VBS_STATUS_STATE, 3)]), by decide +kernel⟩,
   ⟨0, (jobOf (descOf 1 0 [0]) true (partOf 1 0)), (partOf 1 0), ((fun s : State => (fun _ : State => wJob (jobOf (descOf 1 0 [0]) true
      (partOf 1 0))) s) w0), by decide +kernel⟩,
   ⟨0, (jobOf (descOf 1 0 [1]) true (partOf 0 0)), (partOf 0 0), (((fun s : State => (fun _ : State => wJob (jobOf (descOf 1 0 [1]) true
      (partOf 0 0))) s) w0).putAll [(.vbs 0, F.VBS_CTRL_FORCE_OFF, 1)]), by decide +kernel⟩,
   ⟨0, (jobOf (descOf 1 0 [1]) true (partOf 3 0)), (partOf 3 0), (((fun s : State => (fun _ : State => wJob (jobOf (descOf 1 0 [1]) true
      (partOf 3 0))) s) w0).putAll [(.vbs 0, F.VBS_STATUS_STATE, 3)]), by decide +kernel⟩,
   ⟨0, (jobOf (descOf 1 0 [1]) true (partOf 3 0)), (partOf 3 0), (((fun s : State => (fun _ : State => wJob (jobOf (descOf 1 0 [1]) true
      (partOf 3 0))) s) w0).putAll [(.vbs 0, F.VBS_CTRL_FORCE_OFF, 1)]), by decide +kernel⟩,
   ⟨0, (jobOf (descOf 1 0 [2]) true (partOf 0 0)), (partOf 0 0), (((fun s : State => (fun _ : State => wJob (jobOf (descOf 1 0 [2]) true
      (partOf 0 0))) s) w0).putAll [(.vbs 0, F.VBS_STATUS_STATE, 3)]), by decide +kernel⟩,
   ⟨0, (jobOf (descOf 1 0 [2]) true (partOf 1 0)), (partOf 1 0), (((fun s : State => (fun _ : State => wJob (jobOf (descOf 1 0 [2]) true
      (partOf 1 0))) s) w0).putAll [(.vbs 0, F.VBS_STATUS_SAFE0V, 1)]), by decide +kernel⟩,
   ⟨0, (jobOf (descOf 1 0 [2]) true (partOf 2 0)), (partOf 2 0), (((fun s : State => (fun _ : State => wJob (jobOf (descOf 1 0 [2]) true
      (partOf 2 0))) s) w0).putAll [(.vbs 0, F.VBS_CTRL_FORCE_OFF, 1)]), by decide +kernel⟩,
   ⟨0, (jobOf (descOf 1 0 [2]) true (partOf 3 0)), (partOf 3 0), (((fun s : State => (fun _ : State => wJob (jobOf (descOf 1 0 [2]) true
      (partOf 3 0))) s) w0).putAll [(.vbs 0, F.VBS_STATUS_STATE, 3)]), by decide +kernel⟩⟩

theorem witness_ServiceJobsServeTheirDevices :
    (∃ (p : Port) (j : Job) (x : JobPort) (s : State), s.runsJob p 3 j x = true ∧ x.phase = 0 ∧ s.devThere p = true) ∧
    (∃ (p : Port) (j : Job) (x : JobPort) (s : State), s.runsJob p 3 j x = true ∧ x.phase = 2) ∧
    (∃ (p : Port) (j : Job) (x : JobPort) (s : State), s.runsJob p 3 j x = true ∧ x.phase = 0 ∧ s.devThere p = false) ∧
    (∃ (p : Port) (j : Job) (x : JobPort) (s : State), s.runsJob p 3 j x = true ∧ x.phase = 1 ∧ s.enumResets p = false ∧ j.adr = 0 ∧
      s.devHere p (s.jobSs j p) = true) ∧
    (∃ (p : Port) (j : Job) (x : JobPort) (s : State), s.runsJob p 4 j x = true ∧ s.devHere p (s.jobSs j p) = true) ∧
    (∃ (p : Port) (j : Job) (x : JobPort) (s : State), s.runsJob p 4 j x = true ∧ s.devHere p (s.jobSs j p) = true) ∧
    (∃ (p : Port) (j : Job) (x : JobPort) (s : State), s.runsJob p 4 j x = true ∧ s.devHere p (s.jobSs j p) = false) ∧
    (∃ (p : Port) (j : Job) (x : JobPort) (s : State), s.runsJob p 5 j x = true ∧ s.devHere p (s.jobSs j p) = true ∧ j.len = 0) ∧
    (∃ (p : Port) (j : Job) (x : JobPort) (s : State), s.runsJob p 5 j x = true ∧ s.devHere p (s.jobSs j p) = true ∧ j.len = 0 ∧ (s.xactErr
      p 0).1 = true) ∧
    (∃ (p : Port) (j : Job) (x : JobPort) (s : State), s.runsJob p 6 j x = true ∧ s.devHere p (s.jobSs j p) = true ∧ s.grvWaits j.adr =
      false ∧ j.len ≤ x.pos) ∧
    (∃ (p : Port) (j : Job) (x : JobPort) (n : Nat) (s : State), s.runsJob p 6 j x = true ∧ s.devHere p (s.jobSs j p) = true ∧ s.grvWaits
      j.adr = false ∧ j.group = 0 ∧ adrSpace j.adr = 1 ∧ adrSpace (j.adr + x.pos) = 1 ∧ 1 ≤ n ∧ x.pos + n < j.len) ∧
    (∃ (p : Port) (j : Job) (x : JobPort) (bs : List Byte) (s : State), s.runsJob p 7 j x = true ∧ s.devHere p (s.jobSs j p) = true ∧
      s.grvWaits j.adr = false ∧ adrSpace (j.adr + x.pos) = 1 ∧ x.pos + bs.length = j.len) ∧
    (∃ (p : Port) (j : Job) (x : JobPort) (bs : List Byte) (s : State), s.runsJob p 7 j x = true ∧ s.devHere p (s.jobSs j p) = true ∧
      s.grvWaits j.adr = false ∧ adrSpace (j.adr + x.pos) = 1 ∧ x.pos + bs.length < j.len) ∧
    (∃ (p : Port) (j : Job) (x : JobPort) (bs : List Byte) (s : State), s.runsJob p 9 j x = true ∧ s.devHere p (s.jobSs j p) = true ∧
      j.byCrc = false ∧ s.grvWaits j.adr = false ∧ j.group = 0 ∧ adrSpace (j.adr + x.pos) = 1 ∧ 1 ≤ bs.length ∧ x.pos + bs.length =
      j.len ∧ firstDiff bs (s.bufGet (adrOff (j.adr + x.pos)) bs.length) = none) ∧
    (∃ (p : Port) (j : Job) (x : JobPort) (bs : List Byte) (k : Nat) (s : State), s.runsJob p 9 j x = true ∧ s.devHere p (s.jobSs j p) =
      true ∧ j.byCrc = false ∧ s.grvWaits j.adr = false ∧ j.group = 0 ∧ adrSpace (j.adr + x.pos) = 1 ∧ 1 ≤ bs.length ∧ x.pos + bs.length
      ≤ j.len ∧ firstDiff bs (s.bufGet (adrOff (j.adr + x.pos)) bs.length) = some k) ∧
    (∃ (p : Port) (j : Job) (x : JobPort) (bs : List Byte) (s : State), s.runsJob p 9 j x = true ∧ s.devHere p (s.jobSs j p) = true ∧
      j.byCrc = true ∧ x.pos + bs.length = j.len) :=
  ⟨⟨0, (jobOf (descOf 3 0 []) true (partOf 0 0)), (partOf 0 0), ((fun s : State => s.u2pWith 0 (fun u => { u with connected := true }))
      (((fun s : State => (fun _ : State => wJob (jobOf (descOf 3 0 []) true (partOf 0 0))) s) w0).putAll [(.u2p 0, F.U2P_STATUS_STATE,
      5), (.u2p 0, F.U2P_STATUS_SPEED, 3)])), by decide +kernel⟩,
   ⟨0, (jobOf (descOf 3 0 []) true (partOf 2 0)), (partOf 2 0), (((fun s : State => (fun _ : State => wJob (jobOf (descOf 3 0 []) true
      (partOf 2 0))) s) w0).putAll [(.u2p 0, F.U2P_STATUS_STATE, 5), (.u2p 0, F.U2P_STATUS_SPEED, 3)]), by decide +kernel⟩,
   ⟨0, (jobOf (descOf 3 0 []) true (partOf 0 0)), (partOf 0 0), ((fun s : State => (fun _ : State => wJob (jobOf (descOf 3 0 []) true
      (partOf 0 0))) s) w0), by decide +kernel⟩,
   ⟨0, (jobOf (descOf 3 0 []) true (partOf 1 0)), (partOf 1 0), (((fun s : State => (fun _ : State => wJob (jobOf (descOf 3 0 []) true
      (partOf 1 0))) s) w0).putAll [(.u2p 0, F.U2P_STATUS_STATE, 5), (.u2p 0, F.U2P_STATUS_SPEED, 3)]), by decide +kernel⟩,
   ⟨0, (jobOf (descOf 4 0 []) true (partOf 0 0)), (partOf 0 0), (((fun s : State => (fun _ : State => wJob (jobOf (descOf 4 0 []) true
      (partOf 0 0))) s) w0).putAll [(.u2p 0, F.U2P_STATUS_STATE, 5), (.u2p 0, F.U2P_STATUS_SPEED, 3)]), by decide +kernel⟩,
   ⟨0, (jobOf (descOf 4 0 []) true (partOf 0 0)), (partOf 0 0), (((fun s : State => (fun _ : State => wJob (jobOf (descOf 4 0 []) true
      (partOf 0 0))) s) w0).putAll [(.u2p 0, F.U2P_STATUS_STATE, 5), (.u2p 0, F.U2P_STATUS_SPEED, 3)]), by decide +kernel⟩,
   ⟨0, (jobOf (descOf 4 0 []) true (partOf 0 0)), (partOf 0 0), ((fun s : State => (fun _ : State => wJob (jobOf (descOf 4 0 []) true
      (partOf 0 0))) s) w0), by decide +kernel⟩,
   ⟨0, (jobOf (descOf 5 0 [0, 0]) true (partOf 0 0)), (partOf 0 0), (((fun s : State => (fun _ : State => wJob (jobOf (descOf 5 0 [0, 0])
      true (partOf 0 0))) s) w0).putAll [(.u2p 0, F.U2P_STATUS_STATE, 5), (.u2p 0, F.U2P_STATUS_SPEED, 3)]), by decide +kernel⟩,
   ⟨0, (jobOf (descOf 5 0 [0, 0]) true (partOf 0 0)), (partOf 0 0), (((fun s : State => (fun _ : State => wJob (jobOf (descOf 5 0 [0, 0])
      true (partOf 0 0))) s) w0).putAll [(.u2p 0, F.U2P_STATUS_STATE, 5), (.u2p 0, F.U2P_STATUS_SPEED, 3), (.grv,
      F.GRV_CFG_XACT_RETRIES, 1)]), by decide +kernel⟩,
   ⟨0, (jobOf (descOf 6 0 [1, 0, 0x40000000, 4]) true (partOf 0 4)), (partOf 0 4), (((fun s : State => (fun _ : State => wJob (jobOf
      (descOf 6 0 [1, 0, 0x40000000, 4]) true (partOf 0 4))) s) w0).putAll [(.u2p 0, F.U2P_STATUS_STATE, 5), (.u2p 0,
      F.U2P_STATUS_SPEED, 3)]), by decide +kernel⟩,
   ⟨0, (jobOf (descOf 6 0 [1, 0, 0x40000000, 8]) true (partOf 0 0)), (partOf 0 0), 4, (((fun s : State => (fun _ : State => wJob (jobOf
      (descOf 6 0 [1, 0, 0x40000000, 8]) true (partOf 0 0))) s) w0).putAll [(.u2p 0, F.U2P_STATUS_STATE, 5), (.u2p 0,
      F.U2P_STATUS_SPEED, 3)]), by decide +kernel⟩,
   ⟨0, (jobOf (descOf 7 0 [1, 0, 0x40000000, 8]) true (partOf 0 4)), (partOf 0 4), [5, 6, 7, 8], (((fun s : State => (fun _ : State => wJob
      (jobOf (descOf 7 0 [1, 0, 0x40000000, 8]) true (partOf 0 4))) s) w0).putAll [(.u2p 0, F.U2P_STATUS_STATE, 5), (.u2p 0,
      F.U2P_STATUS_SPEED, 3)]), by decide +kernel⟩,
   ⟨0, (jobOf (descOf 7 0 [1, 0, 0x40000000, 8]) true (partOf 0 4)), (partOf 0 4), [5, 6], (((fun s : State => (fun _ : State => wJob
      (jobOf (descOf 7 0 [1, 0, 0x40000000, 8]) true (partOf 0 4))) s) w0).putAll [(.u2p 0, F.U2P_STATUS_STATE, 5), (.u2p 0,
      F.U2P_STATUS_SPEED, 3)]), by decide +kernel⟩,
   ⟨0, (jobOf (descOf 9 0 [1, 0, 0x40000000, 8]) true (partOf 0 4)), (partOf 0 4), [0, 0, 0, 0], (((fun s : State => (fun _ : State => wJob
      (jobOf (descOf 9 0 [1, 0, 0x40000000, 8]) true (partOf 0 4))) s) w0).putAll [(.u2p 0, F.U2P_STATUS_STATE, 5), (.u2p 0,
      F.U2P_STATUS_SPEED, 3)]), by decide +kernel⟩,
   ⟨0, (jobOf (descOf 9 0 [1, 0, 0x40000000, 8]) true (partOf 0 4)), (partOf 0 4), [0, 9, 0, 0], 1, (((fun s : State => (fun _ : State =>
      wJob (jobOf (descOf 9 0 [1, 0, 0x40000000, 8]) true (partOf 0 4))) s) w0).putAll [(.u2p 0, F.U2P_STATUS_STATE, 5), (.u2p 0,
      F.U2P_STATUS_SPEED, 3)]), by decide +kernel⟩,
   ⟨0, (jobOf (descOf 9 0 [0x101, 0, 0, 4, 0, 0x2144DF1C]) true (partOf 0 0)), (partOf 0 0), [0, 0, 0, 0], (((fun s : State => (fun _ :
      State => wJob (jobOf (descOf 9 0 [0x101, 0, 0, 4, 0, 0x2144DF1C]) true (partOf 0 0))) s) w0).putAll [(.u2p 0, F.U2P_STATUS_STATE,
      5), (.u2p 0, F.U2P_STATUS_SPEED, 3)]), by decide +kernel⟩⟩

theorem witness_WaitsAndStopsEndJobs :
    (∃ (p : Port) (j : Job) (x : JobPort) (s : State), s.runsJob p 10 j x = true ∧ j.word 0x24 = 0) ∧
    (∃ (p : Port) (j : Job) (x : JobPort) (s : State), s.runsJob p 10 j x = true ∧ j.word 0x24 = 1 ∧ s.ccAttached p = true) ∧
    (∃ (p : Port) (j : Job) (x : JobPort) (s : State), s.runsJob p 10 j x = true ∧ j.word 0x24 = 1 ∧ s.ccAttached p = false) ∧
    (∃ (p : Port) (j : Job) (x : JobPort) (s : State), s.runsJob p 10 j x = true ∧ j.word 0x24 = 2 ∧ s.ccAttached p = false) ∧
    (∃ (p : Port) (j : Job) (x : JobPort) (s : State), s.runsJob p 10 j x = true ∧ j.word 0x24 = 2 ∧ s.ccAttached p = true) ∧
    (∃ (p : Port) (j : Job) (x : JobPort) (s : State), s.runsJob p 10 j x = true ∧ j.word 0x24 = 3 ∧ s.vbusOn p = true) ∧
    (∃ (p : Port) (j : Job) (x : JobPort) (s : State), s.runsJob p 10 j x = true ∧ j.word 0x24 = 3 ∧ s.vbusOn p = false) ∧
    (∃ (p : Port) (j : Job) (x : JobPort) (s : State), s.runsJob p 10 j x = true ∧ j.word 0x24 = 4 ∧ s.devThere p = true) ∧
    (∃ (p : Port) (j : Job) (x : JobPort) (s : State), s.runsJob p 10 j x = true ∧ j.word 0x24 = 4 ∧ s.devThere p = false) ∧
    (∃ (p : Port) (j : Job) (r : Job) (s : State), s.grvUp = true ∧ s.stopJob p 0 = some j ∧ s.running p = some r ∧ s.job r.id = some r ∧
      (r.part p).isSome = true ∧ r.id ≠ j.id) ∧
    (∃ (p : Port) (j : Job) (r : Job) (s : State), s.grvUp = true ∧ s.stopJob p 2 = some j ∧ r ∈ s.graver.jobs ∧ s.job r.id = some r ∧
      r.queued = true ∧ r.started = false ∧ r.live p = true ∧ (r.part p).map (·.code) = some none ∧ r.id ≠ j.id) ∧
    (∃ (p : Port) (j : Job) (s : State), s.grvUp = true ∧ s.stopJob p 1 = some j) ∧
    (∃ (p : Port) (j : Job) (s : State), s.lheUp p = true ∧ s.capWaiting p false = some j ∧ s.startCode j p = none ∧ s.capRuns p j.isCdc =
      false) ∧
    (∃ (p : Port) (j : Job) (s : State), s.lheUp p = true ∧ s.capWaiting p false = some j ∧ s.job j.id = some j ∧ s.startCode j p = none ∧
      s.capRuns p j.isCdc = true) ∧
    (∃ (p : Port) (j : Job) (s : State), s.lheUp p = true ∧ s.capWaiting p true = some j ∧ s.job j.id = some j ∧ s.startCode j p = some
      cNotOwned) ∧
    (∃ (p : Port) (j : Job) (s : State), s.lheUp p = true ∧ s.capWaiting p true = some j ∧ s.startCode j p = none ∧ j.isCdc = true ∧
      s.capRuns p true = false ∧ (j.word 0x24).testBit 2 = true) ∧
    (∃ (p : Port) (c : Capture) (s : State), s.lheUp p = true ∧ s.capWaiting p true = none ∧ s.cap p true = some c ∧ c.ended = none ∧ c.dtr
      = false ∧ s.devHere p c.ss = true) ∧
    (∃ (p : Port) (c : Capture) (s : State), s.lheUp p = true ∧ s.capWaiting p true = none ∧ s.cap p true = some c ∧ c.ended = none ∧ c.dtr
      = true ∧ s.devHere p c.ss = true) ∧
    (∃ (p : Port) (c : Capture) (s : State), s.lheUp p = true ∧ s.capWaiting p true = none ∧ s.cap p true = some c ∧ c.ended = none ∧
      s.devHere p c.ss = false) ∧
    (∃ (p : Port) (cdc : Bool) (c : Capture) (s : State), s.grvUp = true ∧ s.grvWaits 0 = false ∧ s.cap p cdc = some c ∧ c.ended = none ∧
      (capGather [] 0 none c.items).stamp.isSome = true) ∧
    (∃ (p : Port) (j : Job) (s : State), s.grvUp = true ∧ s.running p = some j ∧ s.job j.id = some j ∧ j.word 0x20 ≠ 0 ∧ (j.part p).isSome =
      true) ∧
    (∃ (p : Port) (cdc : Bool) (c : Capture) (j : Job) (s : State), s.grvUp = true ∧ s.cap p cdc = some c ∧ s.job c.job = some j ∧ j.word
      0x20 ≠ 0) :=
  ⟨⟨0, (jobOf (descOf 10 0 [0]) true (partOf 0 0)), (partOf 0 0), ((fun s : State => (fun _ : State => wJob (jobOf (descOf 10 0 [0]) true
      (partOf 0 0))) s) w0), by decide +kernel⟩,
   ⟨0, (jobOf (descOf 10 0 [1]) true (partOf 0 0)), (partOf 0 0), (((fun s : State => (fun _ : State => wJob (jobOf (descOf 10 0 [1]) true
      (partOf 0 0))) s) w0).putAll [(.tcp 0, F.TCP_CC_STATUS_STATE, 4)]), by decide +kernel⟩,
   ⟨0, (jobOf (descOf 10 0 [1]) true (partOf 0 0)), (partOf 0 0), ((fun s : State => (fun _ : State => wJob (jobOf (descOf 10 0 [1]) true
      (partOf 0 0))) s) w0), by decide +kernel⟩,
   ⟨0, (jobOf (descOf 10 0 [2]) true (partOf 0 0)), (partOf 0 0), ((fun s : State => (fun _ : State => wJob (jobOf (descOf 10 0 [2]) true
      (partOf 0 0))) s) w0), by decide +kernel⟩,
   ⟨0, (jobOf (descOf 10 0 [2]) true (partOf 0 0)), (partOf 0 0), (((fun s : State => (fun _ : State => wJob (jobOf (descOf 10 0 [2]) true
      (partOf 0 0))) s) w0).putAll [(.tcp 0, F.TCP_CC_STATUS_STATE, 4)]), by decide +kernel⟩,
   ⟨0, (jobOf (descOf 10 0 [3]) true (partOf 0 0)), (partOf 0 0), (((fun s : State => (fun _ : State => wJob (jobOf (descOf 10 0 [3]) true
      (partOf 0 0))) s) w0).putAll [(.vbs 0, F.VBS_STATUS_STATE, 3)]), by decide +kernel⟩,
   ⟨0, (jobOf (descOf 10 0 [3]) true (partOf 0 0)), (partOf 0 0), ((fun s : State => (fun _ : State => wJob (jobOf (descOf 10 0 [3]) true
      (partOf 0 0))) s) w0), by decide +kernel⟩,
   ⟨0, (jobOf (descOf 10 0 [4]) true (partOf 0 0)), (partOf 0 0), ((fun s : State => s.u2pWith 0 (fun u => { u with connected := true }))
      ((fun s : State => (fun _ : State => wJob (jobOf (descOf 10 0 [4]) true (partOf 0 0))) s) w0)), by decide +kernel⟩,
   ⟨0, (jobOf (descOf 10 0 [4]) true (partOf 0 0)), (partOf 0 0), ((fun s : State => (fun _ : State => wJob (jobOf (descOf 10 0 [4]) true
      (partOf 0 0))) s) w0), by decide +kernel⟩,
   ⟨0, { jobOf (descOf 12 0 [1]) true (partOf 0 0) with id := 1 }, (jobOf (descOf 6 0 [1]) true (partOf 0 0)), ((fun s : State => (wJob
      (jobOf (descOf 6 0 [1]) true (partOf 0 0))).grvWith (fun g =>
      { g with jobs := [(jobOf (descOf 6 0 [1]) true (partOf 0 0)), { jobOf (descOf 12 0 [1]) true (partOf 0 0) with id := 1 }] })) w0),
      by decide +kernel⟩,
   ⟨0, { jobOf (descOf 12 0 [4]) true (partOf 0 0) with id := 1 }, (jobOf (descOf 6 0 [1]) false (partOf 0 0)), ((fun s : State => (wJob
      (jobOf (descOf 6 0 [1]) false (partOf 0 0))).grvWith (fun g =>
      { g with jobs := [(jobOf (descOf 6 0 [1]) false (partOf 0 0)), { jobOf (descOf 12 0 [4]) true (partOf 0 0) with id := 1 }] }))
      w0), by decide +kernel⟩,
   ⟨0, { jobOf (descOf 12 0 [2]) true (partOf 0 0) with id := 1 }, ((fun s : State => (wJob (jobOf (descOf 6 0 [1]) true (partOf 0
      0))).grvWith (fun g =>
      { g with jobs := [(jobOf (descOf 6 0 [1]) true (partOf 0 0)), { jobOf (descOf 12 0 [2]) true (partOf 0 0) with id := 1 }] })) w0),
      by decide +kernel⟩,
   ⟨0, (jobOf (descOf 8 0 [0, 0, 0, 12]) true (partOf 0 0)), ((fun s : State => (wJob (jobOf (descOf 8 0 [0, 0, 0, 12]) true (partOf 0
      0))).grvWith (fun g => { g with caps := [] })) w0), by decide +kernel⟩,
   ⟨0, (jobOf (descOf 8 0 [0, 0, 0, 12]) true (partOf 0 0)), ((fun s : State => (wJob (jobOf (descOf 8 0 [0, 0, 0, 12]) true (partOf 0
      0))).grvWith (fun g => { g with caps := [⟨0, 0, 0, false, false, 0, 12, [], false, none, false, false⟩] })) w0),
      by decide +kernel⟩,
   ⟨0, (jobOf (descOf 8 0 [1, 0, 0, 12]) true (partOf 0 0)), (((fun s : State => (wJob (jobOf (descOf 8 0 [1, 0, 0, 12]) true (partOf 0
      0))).grvWith (fun g => { g with caps := [] })) w0).putAll [(.prs, F.PRS_OWNERn_CUR 0, 1)]), by decide +kernel⟩,
   ⟨0, (jobOf (descOf 8 0 [0x105, 0, 0, 12]) true (partOf 0 0)), ((fun s : State => s.u2pWith 0 (fun u => { u with connected := true }))
      ((fun s : State => s.lheWith 0 (fun l => { l with eps := [⟨1, true, 64, 1, 0⟩] })) (((fun s : State => (wJob (jobOf (descOf 8 0
      [0x105, 0, 0, 12]) true (partOf 0 0))).grvWith (fun g => { g with caps := [] })) w0).putAll [(.u2p 0, F.U2P_STATUS_STATE, 5),
      (.u2p 0, F.U2P_STATUS_SPEED, 3)]))), by decide +kernel⟩,
   ⟨0, ⟨0, 0, 0, true, false, 0, 12, [], false, none, false, false⟩, (((fun s : State => (wJob (jobOf (descOf 6 0 [1]) true (partOf 0
      0))).grvWith (fun g => { g with caps := [⟨0, 0, 0, true, false, 0, 12, [], false, none, false, false⟩] })) w0).putAll [(.u2p 0,
      F.U2P_STATUS_STATE, 5), (.u2p 0, F.U2P_STATUS_SPEED, 3)]), by decide +kernel⟩,
   ⟨0, ⟨0, 0, 0, true, false, 0, 12, [], false, none, false, true⟩, (((fun s : State => (wJob (jobOf (descOf 6 0 [1]) true (partOf 0
      0))).grvWith (fun g => { g with caps := [⟨0, 0, 0, true, false, 0, 12, [], false, none, false, true⟩] })) w0).putAll [(.u2p 0,
      F.U2P_STATUS_STATE, 5), (.u2p 0, F.U2P_STATUS_SPEED, 3)]), by decide +kernel⟩,
   ⟨0, ⟨0, 0, 0, true, false, 0, 12, [], false, none, false, false⟩, ((fun s : State => (wJob (jobOf (descOf 6 0 [1]) true (partOf 0
      0))).grvWith (fun g => { g with caps := [⟨0, 0, 0, true, false, 0, 12, [], false, none, false, false⟩] })) w0), by decide +kernel⟩,
   ⟨0, false, ⟨0, 0, 0, false, false, 0, 12, [.byte 65 false 7], false, none, false, false⟩, ((fun s : State => (wJob (jobOf (descOf 6 0
      [1]) true (partOf 0 0))).grvWith (fun g =>
      { g with caps := [⟨0, 0, 0, false, false, 0, 12, [.byte 65 false 7], false, none, false, false⟩] })) w0), by decide +kernel⟩,
   ⟨0, (jobOf (descOf 6 0 [1] 5) true (partOf 0 0)), ((fun s : State => (fun _ : State => wJob (jobOf (descOf 6 0 [1] 5) true (partOf 0
      0))) s) w0), by decide +kernel⟩,
   ⟨0, false, ⟨0, 0, 0, false, false, 0, 12, [], false, none, false, false⟩, (jobOf (descOf 8 0 [0, 0, 0, 12] 5) true (partOf 0 0)), ((fun
      s : State => (wJob (jobOf (descOf 8 0 [0, 0, 0, 12] 5) true (partOf 0 0))).grvWith (fun g =>
      { g with caps := [⟨0, 0, 0, false, false, 0, 12, [], false, none, false, false⟩] })) w0), by decide +kernel⟩⟩

theorem witness_GraverRunsItsRings :
    (∃ (r : RingIx) (s : State), s.grvUp = true ∧ s.pageOn .grv = true ∧ s.fetchOn = true ∧ s.chains.length < 256 ∧ s.nextRing = some r) ∧
    (∃ (p : Port) (j : Job) (s : State), s.grvUp = true ∧ s.pageOn .grv = true ∧ s.queueHead p = some j ∧ s.mayStart j = true ∧ j.fansOut =
      false) ∧
    (∃ (p : Port) (j : Job) (s : State), s.grvUp = true ∧ s.pageOn .grv = true ∧ s.queueHead p = some j ∧ s.mayStart j = true ∧ j.fansOut =
      true) ∧
    (∃ (p : Port) (j : Job) (s : State), s.grvUp = true ∧ s.cap p false = none ∧ s.cap p true = none ∧ s.graver.jobs.find? (fun j => j.has p
      && j.finished && !s.chainHeld j.chain) = some j ∧ j.links = []) ∧
    (∃ (r : RingIx) (c : Completion) (s : State), s.grvUp = true ∧ s.firstCompletion r = some c ∧ c.failed = false ∧ s.crFull r = false ∧
      s.ringBad r = false ∧ s.grvWaits (s.crBase r + 32 * s.get .grv (F.GRV_CRr_PROD_PROD r.val)) = false ∧ s.ringThere (s.crBase r + 32
      * s.get .grv (F.GRV_CRr_PROD_PROD r.val)) 32 = true ∧ adrSpace (s.crBase r + 32 * s.get .grv (F.GRV_CRr_PROD_PROD r.val)) = 1) ∧
    (∃ (r : RingIx) (s : State), s.crFull r = true) ∧
    (∃ (r : RingIx) (c : Completion) (s : State), s.grvUp = true ∧ s.firstCompletion r = some c ∧ c.failed = true ∧ s.crFull r = false ∧
      s.ringBad r = false ∧ s.grvWaits (s.crBase r + 32 * s.get .grv (F.GRV_CRr_PROD_PROD r.val)) = false ∧ s.ringThere (s.crBase r + 32
      * s.get .grv (F.GRV_CRr_PROD_PROD r.val)) 32 = true ∧ adrSpace (s.crBase r + 32 * s.get .grv (F.GRV_CRr_PROD_PROD r.val)) = 1) ∧
    (∃ (r : RingIx) (s : State), s.crFull r = true) :=
  ⟨⟨0, (((fun s : State => (fun _ : State => wJob (jobOf (descOf 6 0 []) true (partOf 0 0))) s) w0).putAll [(.grv, F.GRV_CFG_FETCH_EN, 1),
      (.grv, F.GRV_JRr_CFG_EN 0, 1), (.grv, F.GRV_JRr_CFG_SIZE_LOG2 0, 4), (.grv, F.GRV_JRr_BASE_HI_SPACE 0, 1), (.grv,
      F.GRV_JRr_PROD_PROD 0, 1), (.glb, F.GLB_READY_DRAM_ABSENT, 1)]), by decide +kernel⟩,
   ⟨0, (jobOf (descOf 1 0 [1]) false (partOf 0 0)), ((fun s : State => (fun _ : State => wJob (jobOf (descOf 1 0 [1]) false (partOf 0 0)))
      s) w0), by decide +kernel⟩,
   ⟨0, ⟨0, 0, 0, 0, 0, descOf 6 8 [1, 0, 0, 64], [⟨0, none, 0, 0, crcInit, false⟩, ⟨1, none, 0, 0, crcInit, false⟩], false, 0, 0, [], 0⟩,
      ((fun s : State => (fun _ : State => wJob ⟨0, 0, 0, 0, 0, descOf 6 8 [1, 0, 0, 64], [⟨0, none, 0, 0, crcInit, false⟩, ⟨1, none, 0,
      0, crcInit, false⟩], false, 0, 0, [], 0⟩) s) w0), by decide +kernel⟩,
   ⟨0, (jobOf (descOf 6 1 []) true ⟨0, some cOk, 0, 0, crcInit, false⟩), ((fun s : State => (fun _ : State => wJob (jobOf (descOf 6 1 [])
      true ⟨0, some cOk, 0, 0, crcInit, false⟩)) s) w0), by decide +kernel⟩,
   ⟨0, ⟨0, 0, List.replicate 32 7, false⟩, (((fun s : State => (wJob (jobOf (descOf 6 0 []) true (partOf 0 0))).grvWith (fun g =>
      { g with completions := [⟨0, 0, List.replicate 32 7, false⟩] })) w0).putAll [(.grv, F.GRV_CRr_CFG_SIZE_LOG2 0, 4), (.grv,
      F.GRV_CRr_BASE_HI_SPACE 0, 1), (.glb, F.GLB_READY_DRAM_ABSENT, 1)]), by decide +kernel⟩,
   ⟨0, (w0.putAll [(.grv, F.GRV_CRr_CFG_SIZE_LOG2 0, 4), (.grv, F.GRV_CRr_PROD_PROD 0, 15)]), by decide +kernel⟩,
   ⟨0, ⟨0, 0, List.replicate 32 7, true⟩, (((fun s : State => (wJob (jobOf (descOf 6 0 []) true (partOf 0 0))).grvWith (fun g =>
      { g with completions := [⟨0, 0, List.replicate 32 7, true⟩] })) w0).putAll [(.grv, F.GRV_CRr_CFG_SIZE_LOG2 0, 4), (.grv,
      F.GRV_CRr_BASE_HI_SPACE 0, 1), (.glb, F.GLB_READY_DRAM_ABSENT, 1)]), by decide +kernel⟩,
   ⟨0, (w0.putAll [(.grv, F.GRV_CRr_CFG_SIZE_LOG2 0, 4), (.grv, F.GRV_CRr_PROD_PROD 0, 15)]), by decide +kernel⟩⟩

theorem witness_DramTrainsScrubsAndServesWindows :
    (∃ (s : State), s.drcSt = 3 ∧ s.clockOn .drc = true ∧ s.domainInRst .drc = false ∧ s.dram.warm = true) ∧
    (∃ (s : State), s.drcSt = 3 ∧ s.clockOn .drc = true ∧ s.domainInRst .drc = false ∧ s.dram.warm = false) ∧
    (∃ (fail : BitVec 5) (s : State), s.drcSt = 3 ∧ s.clockOn .drc = true ∧ s.domainInRst .drc = false ∧ fail ≠ 0 ∧ s.dram.again = false) ∧
    (∃ (fail : BitVec 5) (s : State), s.drcSt = 3 ∧ s.clockOn .drc = true ∧ s.domainInRst .drc = false ∧ fail ≠ 0 ∧ s.dram.again = true) ∧
    (∃ (s : State), s.drcSt = 7) ∧
    (∃ (s : State), s.drcSt = 7) ∧
    (∃ (late : Bool) (s : State), s.dramUp = true ∧ s.dramServes = true ∧ (s.cfg .drc F.DRC_CFG_SCRUB_HOURS = 0 ∨ (s.dramQueued = true ∧
      late = false))) ∧
    (∃ (late : Bool) (s : State), s.dramUp = true ∧ s.dramServes = true ∧ s.cfg .drc F.DRC_CFG_SCRUB_HOURS ≠ 0 ∧ (s.dramQueued = false ∨
      late = true) ∧ s.dram.errs = []) ∧
    (∃ (w : Nat) (late : Bool) (s : State), s.dramUp = true ∧ s.dramServes = true ∧ s.cfg .drc F.DRC_CFG_SCRUB_HOURS ≠ 0 ∧ (s.dramQueued =
      false ∨ late = true) ∧ s.dram.errs = [(s.dram.word w, false)] ∧ 8 * w ∈ [s.dram.scrubPos, s.dram.scrubPos + 8, s.dram.scrubPos +
      16, s.dram.scrubPos + 24, s.dram.scrubPos + 32, s.dram.scrubPos + 40, s.dram.scrubPos + 48, s.dram.scrubPos + 56]) ∧
    (∃ (w : Nat) (s : State), s.dramUp = true ∧ s.dramServes = true ∧ s.cfg .drc F.DRC_CFG_SCRUB_HOURS = 0 ∧ 8 * w + 8 ≤ s.dramSize ∧
      (s.dram.errAt w).isNone = true) ∧
    (∃ (w : WinIx) (c : WinCmd) (s : State), s.dramUp = true ∧ s.dram.win[w] = some c ∧ (s.winAct w c c.count).1 = false ∧ c.busySeen =
      false) ∧
    (∃ (w : WinIx) (c : WinCmd) (s : State), s.dramUp = true ∧ s.dram.win[w] = some c ∧ c.store = false ∧ s.dram.errAt (c.addr / 8) = some
      true ∧ c.busySeen = false) ∧
    (∃ (s : State), s.dramUp = true) ∧
    (∃ (s : State), s.dramUp = false) :=
  ⟨⟨((fun s : State => s.dramWith (fun d => { d with warm := true })) (w0.putAll [(.clk, F.CLK_RESET_STATUS_DRC_IN_RST, 0), (.drc,
      F.DRC_STATUS_STATE, 3), (.drc, F.DRC_STATUS_SIZE_MIB, 64)])), by decide +kernel⟩,
   ⟨(w0.putAll [(.clk, F.CLK_RESET_STATUS_DRC_IN_RST, 0), (.drc, F.DRC_STATUS_STATE, 3), (.drc, F.DRC_STATUS_SIZE_MIB, 64)]),
      by decide +kernel⟩,
   ⟨4, (w0.putAll [(.clk, F.CLK_RESET_STATUS_DRC_IN_RST, 0), (.drc, F.DRC_STATUS_STATE, 3), (.drc, F.DRC_STATUS_SIZE_MIB, 64)]),
      by decide +kernel⟩,
   ⟨4, ((fun s : State => s.dramWith (fun d => { d with again := true })) (w0.putAll [(.clk, F.CLK_RESET_STATUS_DRC_IN_RST, 0), (.drc,
      F.DRC_STATUS_STATE, 3), (.drc, F.DRC_STATUS_SIZE_MIB, 64)])), by decide +kernel⟩,
   ⟨(w0.putAll [(.clk, F.CLK_RESET_STATUS_DRC_IN_RST, 0), (.drc, F.DRC_STATUS_STATE, 7), (.drc, F.DRC_STATUS_SIZE_MIB, 64)]),
      by decide +kernel⟩,
   ⟨(w0.putAll [(.clk, F.CLK_RESET_STATUS_DRC_IN_RST, 0), (.drc, F.DRC_STATUS_STATE, 7), (.drc, F.DRC_STATUS_SIZE_MIB, 64)]),
      by decide +kernel⟩,
   ⟨false, (w0.putAll [(.clk, F.CLK_RESET_STATUS_DRC_IN_RST, 0), (.drc, F.DRC_STATUS_STATE, 4), (.drc, F.DRC_STATUS_SIZE_MIB, 64), (.drc,
      F.DRC_CFG_SCRUB_HOURS, 0)]), by decide +kernel⟩,
   ⟨false, (w0.putAll [(.clk, F.CLK_RESET_STATUS_DRC_IN_RST, 0), (.drc, F.DRC_STATUS_STATE, 4), (.drc, F.DRC_STATUS_SIZE_MIB, 64), (.drc,
      F.DRC_CFG_SCRUB_HOURS, 5)]), by decide +kernel⟩,
   ⟨3, true, ((fun s : State => s.dramWith (fun d => { d with errs := [(3, false)] })) (w0.putAll [(.clk, F.CLK_RESET_STATUS_DRC_IN_RST,
      0), (.drc, F.DRC_STATUS_STATE, 4), (.drc, F.DRC_STATUS_SIZE_MIB, 64), (.drc, F.DRC_CFG_SCRUB_HOURS, 5)])), by decide +kernel⟩,
   ⟨3, (w0.putAll [(.clk, F.CLK_RESET_STATUS_DRC_IN_RST, 0), (.drc, F.DRC_STATUS_STATE, 4), (.drc, F.DRC_STATUS_SIZE_MIB, 64), (.drc,
      F.DRC_CFG_SCRUB_HOURS, 0)]), by decide +kernel⟩,
   ⟨0, ⟨false, 0, 2, false⟩, ((fun s : State => s.dramWith (fun d => { d with win := d.win.set 0 (some ⟨false, 0, 2, false⟩) })) (w0.putAll
      [(.clk, F.CLK_RESET_STATUS_DRC_IN_RST, 0), (.drc, F.DRC_STATUS_STATE, 4), (.drc, F.DRC_STATUS_SIZE_MIB, 64), (.drc,
      F.DRC_WINw_CTRL_COUNT 0, 2)])), by decide +kernel⟩,
   ⟨0, ⟨false, 0, 2, false⟩, ((fun s : State => s.dramWith (fun d =>
      { d with win := d.win.set 0 (some ⟨false, 0, 2, false⟩), errs := [(0, true)] })) (w0.putAll [(.clk, F.CLK_RESET_STATUS_DRC_IN_RST,
      0), (.drc, F.DRC_STATUS_STATE, 4), (.drc, F.DRC_STATUS_SIZE_MIB, 64), (.drc, F.DRC_WINw_CTRL_COUNT 0, 2)])), by decide +kernel⟩,
   ⟨(w0.putAll [(.clk, F.CLK_RESET_STATUS_DRC_IN_RST, 0), (.drc, F.DRC_STATUS_STATE, 4), (.drc, F.DRC_STATUS_SIZE_MIB, 64)]),
      by decide +kernel⟩,
   ⟨(w0.putAll [(.clk, F.CLK_RESET_STATUS_DRC_IN_RST, 0), (.drc, F.DRC_STATUS_STATE, 2), (.drc, F.DRC_STATUS_SIZE_MIB, 64)]),
      by decide +kernel⟩⟩

theorem witness_HealthControllerFollowsTemperature :
    (∃ (s : State), s.coreUp = true ∧ s.health.lastMax = none) ∧
    (∃ (prev : Int) (s : State), s.coreUp = true ∧ s.health.lastMax = some prev) ∧
    (∃ (s : State), s.coreUp = true) ∧
    (∃ (s : State), s.coreUp = true ∧ s.get .hlt F.HLT_STATUS_LEVEL = 2 ∧ s.get .hlt F.HLT_STATUS_SHED_STEPS < 10) ∧
    (∃ (s : State), (s.get .hlt F.HLT_STATUS_LEVEL ≠ 2 ∨ 10 ≤ s.get .hlt F.HLT_STATUS_SHED_STEPS)) ∧
    (∃ (p : Port) (s : State), s.coreUp = true ∧ s.cfg .hlt F.HLT_CFG_QUAR_AUTO ≠ 0 ∧ s.flag .hlt (portBit F.HLT_QUAR_QUAR p) = true) ∧
    (∃ (s : State), s.cfg .hlt F.HLT_CFG_QUAR_AUTO = 0) ∧
    (∃ (k : Plate) (s : State), s.coreUp = true ∧ (s.cfg .hlt F.HLT_PLATE_ISO_ISO).testBit k.val = true ∧ s.plateInRst k = true ∧
      s.plateDischarged k = true) ∧
    (∃ (k : Plate) (s : State), s.plateDischarged k = false) :=
  ⟨⟨w0, by decide +kernel⟩,
   ⟨400, ((fun s : State => s.healthWith (fun h => { h with lastMax := some 400 })) w0), by decide +kernel⟩,
   ⟨((fun s : State => s.healthWith (fun h => { h with lastMax := some 470 })) w0), by decide +kernel⟩,
   ⟨(w0.putAll [(.hlt, F.HLT_STATUS_LEVEL, 2), (.hlt, F.HLT_STATUS_SHED_STEPS, 1)]), by decide +kernel⟩,
   ⟨w0, by decide +kernel⟩,
   ⟨3, ((fun s : State => s.put .hlt (portBit F.HLT_QUAR_QUAR 3) 1) (w0.putAll [(.hlt, F.HLT_CFG_QUAR_AUTO, 1)])), by decide +kernel⟩,
   ⟨(w0.putAll [(.hlt, F.HLT_CFG_QUAR_AUTO, 0)]), by decide +kernel⟩,
   ⟨1, (w0.putAll [(.hlt, F.HLT_PLATE_ISO_ISO, 2), (.clk, F.CLK_RESET_STATUS_PLATE_IN_RST, 2)]), by decide +kernel⟩,
   ⟨1, (w0.putAll [(.vbs 16, F.VBS_STATUS_DSCH_ON, 1), (.vbs 16, F.VBS_STATUS_STATE, 5)]), by decide +kernel⟩⟩

theorem witness_ConfigurationStoreLoadsCommitsAndFetches :
    (∃ (s : State), s.coreUp = true ∧ s.loaded = false ∧ s.get .glb F.GLB_STRAPS_DRAM ≠ 3) ∧
    (∃ (s : State), (s.coreUp = false ∨ s.loaded = true)) ∧
    (∃ (b : Fin 2) (q : Word) (s : State), s.cfgOp = .leave b q) ∧
    (∃ (b : Fin 2) (q : Word) (s : State), s.cfgOp = .writing b q) ∧
    (∃ (b : Fin 2) (q : Word) (s : State), s.cfgOp = .writing b q) ∧
    (∃ (s : State), s.cfgOp = .fetch none) ∧
    (∃ (b : Fin 2) (s : State), s.cfgOp = .fetch (some b)) :=
  ⟨⟨(w0.putAll [(.glb, F.GLB_READY_CFG_LOADED, 0)]), by decide +kernel⟩,
   ⟨w0, by decide +kernel⟩,
   ⟨0, 5, ((fun s : State => s.setCfgOp (.leave 0 5)) w0), by decide +kernel⟩,
   ⟨0, 5, ((fun s : State => s.setCfgOp (.writing 0 5)) w0), by decide +kernel⟩,
   ⟨0, 5, ((fun s : State => s.setCfgOp (.writing 0 5)) w0), by decide +kernel⟩,
   ⟨((fun s : State => s.setCfgOp (.fetch none)) w0), by decide +kernel⟩,
   ⟨0, ((fun s : State => s.setCfgOp (.fetch (some 0))) w0), by decide +kernel⟩⟩

theorem witness_ConsoleLineAndLegacyTargetMoveBytes :
    (∃ (a : BitVec 7) (i : Inst) (s : State), s.legOn = true ∧ s.legInst a.toNat = some i) ∧
    (∃ (a : BitVec 7) (s : State), s.legInst a.toNat = none) ∧
    (∃ (i : Inst) (s : State), s.legOn = true ∧ s.legacy.sel = some (i, false) ∧ s.legacy.first = true) ∧
    (∃ (i : Inst) (s : State), s.legOn = true ∧ s.legacy.sel = some (i, false) ∧ s.legacy.first = false) ∧
    (∃ (i : Inst) (s : State), s.legOn = true ∧ s.legacy.sel = some (i, true)) ∧
    (∃ (s : State), s.coreUp = true ∧ s.legacy.sel.isSome = true) ∧
    (∃ (p : Port) (s : State), s.portUp p = true ∧ s.get (.con p) F.CON_STATUS_ROUTED = 1 ∧ s.pageOn (.con p) = true ∧ s.capRuns p false =
      false ∧ (s.con p).rx.length < 256) ∧
    (∃ (p : Port) (s : State), s.portUp p = true ∧ s.get (.con p) F.CON_STATUS_ROUTED = 1 ∧ s.cfgFlag (.con p) F.PAGE_CTRL_EN = true ∧
      (s.con p).sending.isSome = true) :=
  ⟨⟨0x2C, 0, (((fun s : State => s.put .glb F.GLB_MODE_COMPAT 1) w0).putAll [(.mgt, F.MGT_LEG_CFG_EN, 1), (.mgt, F.MGT_LEG_ADDR_AEN 0, 1),
      (.mgt, F.MGT_LEG_ADDR_ADDR 0, 0x2C), (.clk, F.CLK_RESET_STATUS_MGT_IN_RST, 0)]), by decide +kernel⟩,
   ⟨0x50, (((fun s : State => s.put .glb F.GLB_MODE_COMPAT 1) w0).putAll [(.mgt, F.MGT_LEG_CFG_EN, 1), (.mgt, F.MGT_LEG_ADDR_AEN 0, 1),
      (.mgt, F.MGT_LEG_ADDR_ADDR 0, 0x2C), (.clk, F.CLK_RESET_STATUS_MGT_IN_RST, 0)]), by decide +kernel⟩,
   ⟨0, ((fun s : State => (fun x : State => { x with legacy := ⟨some (0, false), true⟩ }) s) (((fun s : State => s.put .glb
      F.GLB_MODE_COMPAT 1) w0).putAll [(.mgt, F.MGT_LEG_CFG_EN, 1), (.mgt, F.MGT_LEG_ADDR_AEN 0, 1), (.mgt, F.MGT_LEG_ADDR_ADDR 0,
      0x2C), (.clk, F.CLK_RESET_STATUS_MGT_IN_RST, 0)])), by decide +kernel⟩,
   ⟨0, ((fun s : State => (fun x : State => { x with legacy := ⟨some (0, false), false⟩ }) s) (((fun s : State => s.put .glb
      F.GLB_MODE_COMPAT 1) w0).putAll [(.mgt, F.MGT_LEG_CFG_EN, 1), (.mgt, F.MGT_LEG_ADDR_AEN 0, 1), (.mgt, F.MGT_LEG_ADDR_ADDR 0,
      0x2C), (.clk, F.CLK_RESET_STATUS_MGT_IN_RST, 0)])), by decide +kernel⟩,
   ⟨0, ((fun s : State => (fun x : State => { x with legacy := ⟨some (0, true), true⟩ }) s) (((fun s : State => s.put .glb
      F.GLB_MODE_COMPAT 1) w0).putAll [(.mgt, F.MGT_LEG_CFG_EN, 1), (.mgt, F.MGT_LEG_ADDR_AEN 0, 1), (.mgt, F.MGT_LEG_ADDR_ADDR 0,
      0x2C), (.clk, F.CLK_RESET_STATUS_MGT_IN_RST, 0)])), by decide +kernel⟩,
   ⟨((fun s : State => (fun x : State => { x with legacy := ⟨some (0, true), true⟩ }) s) (((fun s : State => s.put .glb F.GLB_MODE_COMPAT
      1) w0).putAll [(.mgt, F.MGT_LEG_CFG_EN, 1), (.mgt, F.MGT_LEG_ADDR_AEN 0, 1), (.mgt, F.MGT_LEG_ADDR_ADDR 0, 0x2C), (.clk,
      F.CLK_RESET_STATUS_MGT_IN_RST, 0)])), by decide +kernel⟩,
   ⟨0, (w0.putAll [(.con 0, F.CON_STATUS_ROUTED, 1)]), by decide +kernel⟩,
   ⟨0, ((fun s : State => s.conWith 0 (fun c => { c with sending := some 1, tx := [2, 3] })) (w0.putAll [(.con 0, F.CON_STATUS_ROUTED,
      1)])), by decide +kernel⟩⟩

end Sys2Proof.Machine
end

namespace Sys2Proof.Machine

/-! PROOFS. The identification register (O13): what a read of `GLB_ID` by a READ frame keeps, up to the answer at the port. -/

/-! ### What an operation keeps -/

/-- The state `t` keeps of `s` the answer, the level of core global reset and every stored field of the pages `pgs`. -/
structure State.KeepsPages (pgs : List PageId) (s t : State) : Prop where
  answer : t.answer = s.answer
  coreHeld : t.coreHeld = s.coreHeld
  get : ∀ pg ∈ pgs, ∀ f : Fld, f.off < 0x1000 → t.get pg f = s.get pg f

section
variable {pgs : List PageId} {s u t : State}

theorem State.KeepsPages.refl (s : State) : s.KeepsPages pgs s := ⟨rfl, rfl, fun _ _ _ _ => rfl⟩

theorem State.KeepsPages.trans (hu : s.KeepsPages pgs u) (ht : u.KeepsPages pgs t) : s.KeepsPages pgs t :=
  ⟨ht.answer.trans hu.answer, ht.coreHeld.trans hu.coreHeld, fun pg hpg f hf => (ht.get pg hpg f hf).trans (hu.get pg hpg f hf)⟩

/-- A change of hidden state keeps every page. -/
theorem State.KeepsPages.of_regs (h : s.KeepsPages pgs u) (hr : t.regs = u.regs) (ha : t.answer = u.answer)
    (hc : t.coreHeld = u.coreHeld) : s.KeepsPages pgs t :=
  h.trans ⟨ha, hc, fun pg _ f _ => by simp only [State.get, State.rd, hr]⟩

/-- A write of a field of another page keeps the pages. -/
theorem State.KeepsPages.put (h : s.KeepsPages pgs u) {pg : PageId} (f : Fld) (v : Nat) (hpg : pg ∉ pgs) (hf : f.off < 0x1000) :
    s.KeepsPages pgs (u.put pg f v) :=
  h.trans ⟨rfl, rfl, fun _ hpg' g hg => State.get_put_page u f g v (fun e => hpg (e ▸ hpg')) hf hg⟩

theorem State.KeepsPages.flag (h : s.KeepsPages pgs t) {pg : PageId} (hpg : pg ∈ pgs) {f : Fld} (hf : f.off < 0x1000) :
    t.flag pg f = s.flag pg f := by
  simp only [State.flag, h.get pg hpg f hf]

end

/-! ### A read that meets a mismatch -/

/-- A record handed to its source changes the hand-off FIFOs alone. -/
theorem State.handOff_parts (s : State) (page : Nat) (r : EventRecord) : ∃ fifos, s.handOff page r = { s with fifos := fifos } := by
  unfold State.handOff
  extract_lets f
  split <;> exact ⟨_, rfl⟩

/-- A mismatch found (R69) is told in the page that reports it, in HLT and, for a window, in CPT: the other pages stay. -/
theorem State.findParity_keepsPages {pgs : List PageId} (s : State) {addr : Nat} {pg : PageId} (ha : pageAt addr = some pg)
    (hr : reportPage pg ∉ pgs) (hh : .hlt ∉ pgs) (hc : .cpt ∉ pgs) : s.KeepsPages pgs (s.findParity addr).2 := by
  unfold State.findParity
  split
  · next pg' b hp _ =>
    obtain rfl : pg = pg' := Option.some.inj (ha.symm.trans hp)
    extract_lets rp
    split
    · exact .refl s
    next s1 s2 s3 s4 _ =>
    have h1 : s.KeepsPages pgs s1 := by
      unfold s1
      split
      · exact (State.KeepsPages.refl s).put _ _ hr (by decide)
      · exact (((State.KeepsPages.refl s).put _ _ hr (by decide)).put _ _ hr (by decide)).put _ _ hr (by decide)
    have h2 : s.KeepsPages pgs s2 := h1.of_regs rfl rfl rfl
    have h3 : s.KeepsPages pgs s3 := by
      unfold s3
      split
      · exact h2
      · exact (h2.put _ _ hh (by decide)).put _ _ hh (by decide)
    have h4 : s.KeepsPages pgs s4 := by
      unfold s4
      split
      · exact h3.put _ _ hc (by decide)
      · exact h3
    obtain ⟨fifos, hf⟩ := s4.handOff_parts (rp.base / 0x1000) (s4.mkRecord rp evParity pg.inst addr true .none)
    exact hf ▸ h4.of_regs rfl rfl rfl
  · exact .refl s

/-- A mismatch found changes nothing at the management ports. -/
theorem State.findParity_mports (s : State) (addr : Nat) : (s.findParity addr).2.mports = s.mports := by
  unfold State.findParity
  split
  · extract_lets rp
    split
    · rfl
    next s1 s2 s3 s4 _ =>
    have h1 : s1.mports = s.mports := by unfold s1; split <;> rfl
    have h3 : s3.mports = s2.mports := by unfold s3; split <;> rfl
    have h4 : s4.mports = s3.mports := by unfold s4; split <;> rfl
    obtain ⟨fifos, hf⟩ := s4.handOff_parts (rp.base / 0x1000) (s4.mkRecord rp evParity (PageId.inst _) addr true .none)
    rw [hf]
    exact h4.trans (h3.trans h1)
  · rfl

/-! ### The management domain entering reset -/

/-- A notice of attention (R88) changes registers in MGT alone. -/
theorem State.attnNotice_keepsPages {pgs : List PageId} (s : State) (m : Master) (hm : .mgt ∉ pgs) :
    s.KeepsPages pgs (s.attnNotice m) := by
  unfold State.attnNotice
  extract_lets now
  split
  split
  · exact .refl s
  next s1 _ _ _ _ _ =>
  have h1 : s.KeepsPages pgs s1 := (State.KeepsPages.refl s).of_regs rfl rfl rfl
  split
  · exact h1.put _ _ hm (by simp only [fldBit]; split <;> decide)
  · unfold State.ringSend
    split
    · exact h1
    · exact h1.of_regs rfl rfl rfl

theorem State.attnNotices_keepsPages {pgs : List PageId} (s : State) (hm : .mgt ∉ pgs) : s.KeepsPages pgs s.attnNotices :=
  (s.attnNotice_keepsPages .a hm).trans (State.attnNotice_keepsPages _ .b hm)

/-- A record that goes back to its queue is told in EVQ and MGT alone (R126, R88). -/
theorem State.unhand_keepsPages {pgs : List PageId} (s : State) (n : QueueIx) (he : .evq ∉ pgs) (hm : .mgt ∉ pgs) :
    s.KeepsPages pgs (s.unhand n) := by
  have hpeak : (F.EVQ_PEAKn_PEAK n.val).off < 0x1000 := by simp only [F.EVQ_PEAKn_PEAK]; omega
  have hlost : (F.EVQ_LOSTn_LOST n.val).off < 0x1000 := by simp only [F.EVQ_LOSTn_LOST]; omega
  unfold State.unhand
  extract_lets q
  split
  · exact .refl s
  · split
    · exact .refl s
    extract_lets lv back s1
    have h1 : s.KeepsPages pgs s1 := (State.KeepsPages.refl s).of_regs rfl rfl rfl
    refine State.KeepsPages.trans ?_ (State.attnNotices_keepsPages _ hm)
    split
    · unfold State.notePeak
      extract_lets d
      split
      · exact h1.put _ _ he hpeak
      · exact h1
    · exact h1.put _ _ he hlost

theorem State.mgtDrop_keepsPages {pgs : List PageId} (s : State) (he : .evq ∉ pgs) (hm : .mgt ∉ pgs) :
    s.KeepsPages pgs s.mgtDrop := by
  unfold State.mgtDrop
  extract_lets s1
  have h1 : s.KeepsPages pgs s1 := (State.KeepsPages.refl s).of_regs rfl rfl rfl
  have step : ∀ (t : State) (n : QueueIx), s.KeepsPages pgs t → s.KeepsPages pgs (t.unhand n) :=
    fun t n h => h.trans (t.unhand_keepsPages n he hm)
  exact step _ 3 (step _ 2 (step _ 1 (step _ 0 h1)))

/-- A page cleared leaves the fields of every other page. -/
theorem State.clearPage_keepsPages {pgs : List PageId} (s : State) {pg : PageId} (h : pg ∉ pgs) : s.KeepsPages pgs (s.clearPage pg) := by
  refine ⟨rfl, rfl, fun pg' hpg' f hf => ?_⟩
  have hne : pg' ≠ pg := fun e => h (e ▸ hpg')
  have hout : ¬ (pg.base ≤ pg'.base + f.off ∧ pg'.base + f.off < pg.base + 0x1000) := fun hin =>
    PageId.addr_ne hne hf (y := pg'.base + f.off - pg.base) (by omega) (by omega)
  have hrd : (s.clearPage pg).rd (pg'.base + f.off) = s.rd (pg'.base + f.off) := by
    refine (Sparse.get_filter resetWord s.regs (fun a => !(decide (pg.base ≤ a) && decide (a < pg.base + 0x1000))) _).trans ?_
    simp only [Bool.not_and, Bool.or_eq_true, Bool.not_eq_true', decide_eq_false_iff_not, not_and_or.1 hout, if_true, State.rd]
  simp only [State.get, hrd]

theorem State.mgtPageReset_keepsPages {pgs : List PageId} (s : State) (hm : .mgt ∉ pgs) : s.KeepsPages pgs s.mgtPageReset := by
  unfold State.mgtPageReset State.mgtFresh
  have h1 := (s.clearPage_keepsPages hm).put F.MGT_RING_STATUS_DUP_ID (s.get .mgt F.MGT_RING_STATUS_DUP_ID) hm (by decide)
  exact (((h1.put _ _ hm (by decide)).put _ _ hm (by decide)).put _ _ hm (by decide)).put _ _ hm (by decide)

/-- As the management domain enters reset, registers change in GLB, CLK, MGT and EVQ alone (R21). -/
theorem State.mgtReset_keepsPages {pgs : List PageId} (s : State) (hg : .glb ∉ pgs) (hk : .clk ∉ pgs) (hm : .mgt ∉ pgs)
    (he : .evq ∉ pgs) : s.KeepsPages pgs s.mgtReset := by
  unfold State.mgtReset
  extract_lets grant s1
  have h1 : s.KeepsPages pgs s1 :=
    ((s.mgtPageReset_keepsPages hm).put _ _ hm (by decide)).trans (State.mgtDrop_keepsPages _ he hm)
  exact ((h1.put _ _ hg (by decide)).put _ _ hg (by decide)).put _ _ hk (by decide)

/-- A domain that is out of reset can only enter it (R21). -/
theorem State.mgtFollow_of_out (s : State) (h : s.flag .clk F.CLK_RESET_STATUS_MGT_IN_RST = false) :
    s.mgtFollow = s ∨ s.mgtFollow = s.mgtReset := by
  unfold State.mgtFollow
  split
  · exact .inl rfl
  next hw =>
  have hwaits : s.mgtWaits = true := by
    by_contra hno
    exact hw (by simp [hno])
  have hrst : s.cfgFlag .clk F.CLK_RESET_MGT_RST = true := by
    simp only [State.mgtWaits, h, Bool.and_eq_true, bne_iff_ne, ne_eq, Bool.not_eq_false] at hwaits
    exact hwaits.2
  exact .inr (if_pos hrst)

/-- Where the domain is out of reset, what follows an access leaves the answer and the MGF page. -/
theorem State.mgtFollow_keepsPages (s : State) (h : s.flag .clk F.CLK_RESET_STATUS_MGT_IN_RST = false) :
    s.KeepsPages [.mgf] s.mgtFollow := by
  rcases s.mgtFollow_of_out h with e | e
  · rw [e]
    exact .refl s
  · rw [e]
    exact s.mgtReset_keepsPages (by decide) (by decide) (by decide) (by decide)

/-- No suspended host is woken where no notice has become pending (R366). -/
theorem State.noticeWake_of_get_mgf {s before : State} (h : ∀ f : Fld, f.off < 0x1000 → s.get .mgf f = before.get .mgf f) :
    s.noticeWake before = s := by
  have hp : ∀ u : Up, s.flag .mgf (F.MGF_Uu_STATUS_NOTICE_PENDING u.val) = before.flag .mgf (F.MGF_Uu_STATUS_NOTICE_PENDING u.val) :=
    fun u => congrArg (· != 0) (h _ (by simp only [F.MGF_Uu_STATUS_NOTICE_PENDING]; omega))
  exact List.foldl_fixed' (fun u => if_neg (by simp [hp u])) _

/-! ### The identification register -/

/-- 0x6416, revision A, minor revision 1 (log 78) and 00 (R1). -/
theorem resetWord_GLB_ID : resetWord (PageId.base .glb + 0x40) = 0x6416A100 := by decide

theorem State.accessPage_GLB_ID (s : State) : s.accessPage 0x40 = some .glb := rfl

/-- `GLB_ID` reads as its reset word, whatever the register file holds (R1). -/
theorem State.view_GLB_ID (s : State) : s.view .glb 0x40 = 0x6416A100 :=
  (if_pos (by decide : fixedRead .glb 0x40 = true)).trans resetWord_GLB_ID

/-- No page's safe action follows a mismatch in GLB: a read reports it and no more. -/
theorem State.parityVisit_GLB_ID (s : State) : s.parityVisit .glb 0x40 = (s.findParity 0x40).2 := by
  unfold State.parityVisit
  extract_lets s1
  split <;> rfl

/-- Every requester that is heard reads `GLB_ID` at once (R1, R133): the word, and the state after the check of its parity. -/
theorem State.access_GLB_ID (s : State) (who : Requester) (resumed parityErr : Bool) (errors : Nat) (hup : s.coreUp = true) :
    s.access who 0x40 none resumed parityErr errors = some (⟨0, 0x6416A100⟩, (s.findParity 0x40).2) := by
  obtain ⟨hheld, hlock⟩ : s.coreHeld = false ∧ s.locked = true := by simpa [State.coreUp] using hup
  have hstall : s.stalls who .glb 0x40 = false := by simp [State.stalls, beforeLoad, State.clockOn, hlock]
  have htaken : s.readTaken who .glb 0x40 resumed = some (0x6416A100, (s.findParity 0x40).2) := by
    have hblock : s.readBlock (s.identOf who) (s.barred who) .glb 0x40 = (s.view .glb 0x40, s) := rfl
    simp [State.readTaken, hblock, s.view_GLB_ID, s.parityVisit_GLB_ID]
  simp [State.access, s.accessPage_GLB_ID, State.accessBlock, hstall, State.clockOn, hlock, State.domainInRst, hheld, htaken]

/-! ### A READ frame of one word -/

/-- The run of a READ frame of one word at this chip. -/
def readRun (m : Master) (addr : Nat) : AccessRun := ⟨masterReq m, .frame, false, false, addr, [⟨0xF, 0⟩], [], none⟩

/-- A management port as a frame to this chip begins: what it drove before has ended, and nothing is dropped (R80, R86). -/
def State.frameBegun (s : State) (m : Master) : State :=
  (s.mportWith m (fun x => { x with out := [], high := false, taken := false, late := false })).mportWith m
    (fun x => { x with remote := none, dropped := false })

/-- A READ frame of one word that its port takes and that ends at this chip begins a run of that word (R81, R82). -/
theorem exec_readF_one (m : Master) (ns : List Nibble) (s : State) (hw : wholeFrame 1 false ns = true) (hc : crcGood ns = true)
    (ht : s.mgtTakes = true) (hb : s.busyWith (masterReq m) = false) (hn : (hdrOf ns).count = 0) (hl : (hdrOf ns).isLocal = true) :
    exec (.readF m ns false) s = .next ((s.frameBegun m).startRun (readRun m (4 * (hdrOf ns).waddr.toNat)) false 0) := by
  have hone : hdrWords (hdrOf ns) = 1 := by simp [hdrWords, hn]
  have hfit : ¬ 0x400 < (hdrOf ns).waddr.toNat % 0x400 + 1 := by omega
  refine (if_pos hw).trans (congrArg Host.Outcome.next ?_)
  simp [State.frameGate, ht, hc, hb, State.frame, hone, hfit, State.frameLocal, hl, readWords, readRun, State.frameBegun]

/-- That run over: its word is answered. -/
def readDone (m : Master) (addr : Nat) (res : WordResult) : AccessRun :=
  ⟨masterReq m, .frame, false, false, addr + 4, [], [res], none⟩

/-- The run of one word whose access is taken at once is over with it (R84). -/
theorem State.startRun_readRun {s t : State} {m : Master} {addr : Nat} {res : WordResult}
    (hl : s.loopErrors (readRun m addr) = s) (ha : s.access (masterReq m) addr none false false 0 = some (res, t))
    (hc : t.coreHeld = false) : s.startRun (readRun m addr) false 0 = (t.finishRun (readDone m addr res)).noticeWake s := by
  have hword : s.runWord (readRun m addr) ⟨0xF, 0⟩ false false 0 = some (res, t) := by
    unfold State.runWord
    rw [hl]
    exact ha
  have hrun : State.runOn false 0 [⟨0xF, 0⟩] false (readRun m addr) s = (readDone m addr res, t) := by
    rw [State.runOn, hword]
    simp only [hc, Bool.false_eq_true, if_false, State.runOn]
    rfl
  have hsettle : t.settleRun (readDone m addr res) = t.finishRun (readDone m addr res) := by
    simp [State.settleRun, hc, readDone]
  change ((State.runOn false 0 [⟨0xF, 0⟩] false (readRun m addr) s).2.settleRun
    (State.runOn false 0 [⟨0xF, 0⟩] false (readRun m addr) s).1).noticeWake s = _
  rw [hrun, hsettle]

/-- A response is sent where its frame has not been given up (R85, R86). -/
theorem State.respond_answer {s : State} {m : Master} (r : FrameResp) (hd : (s.mport m).dropped = false) :
    (s.respond m r).answer = .frame m r := by
  unfold State.respond
  rw [hd]
  rfl

theorem State.respond_regs (s : State) (m : Master) (r : FrameResp) : (s.respond m r).regs = s.regs := by
  unfold State.respond
  extract_lets gone s1
  split <;> rfl

/-- A response changes no register. -/
theorem State.respond_get (s : State) (m : Master) (r : FrameResp) (pg : PageId) (f : Fld) : (s.respond m r).get pg f = s.get pg f := by
  simp only [State.get, State.rd, State.respond_regs]

/-- Bit errors of a loopback run are counted at SSP registers alone (R318). -/
theorem State.loopErrors_GLB_ID (s : State) (m : Master) : s.loopErrors (readRun m 0x40) = s := by
  have hpage : s.accessPage (readRun m 0x40).addr = some .glb := s.accessPage_GLB_ID
  unfold State.loopErrors
  rw [hpage]
  rfl

/-- A frame whose port still waits for it is answered with the word, and what follows changes neither that answer nor the MGF page. -/
theorem State.finishRun_readDone {s : State} {m : Master} (addr : Nat) (res : WordResult) (hd : (s.mport m).dropped = false)
    (hr : s.flag .clk F.CLK_RESET_STATUS_MGT_IN_RST = false) :
    (s.finishRun (readDone m addr res)).answer = .frame m ⟨0, [res], true⟩ ∧
      ∀ f : Fld, f.off < 0x1000 → (s.finishRun (readDone m addr res)).get .mgf f = s.get .mgf f := by
  have hfin : s.finishRun (readDone m addr res) = (s.respond m ⟨0, [res], true⟩).mgtFollow := by cases m <;> rfl
  have hflag : (s.respond m ⟨0, [res], true⟩).flag .clk F.CLK_RESET_STATUS_MGT_IN_RST = false := by
    simpa only [State.flag, State.respond_get] using hr
  have hkeep := State.mgtFollow_keepsPages _ hflag
  rw [hfin]
  exact ⟨hkeep.answer.trans (State.respond_answer _ hd),
    fun f hf => (hkeep.get .mgf (by decide) f hf).trans (State.respond_get ..)⟩

/-- Settles O13: the read is taken at once in every state with the core up, and the answer to the frame outlives what follows it. -/
theorem everyRequesterReadsTheIdentification : Obligations.EveryRequesterReadsTheIdentification := by
  unfold Obligations.EveryRequesterReadsTheIdentification
  refine ⟨fun who resumed parityErr errors s hup => by rw [s.access_GLB_ID who resumed parityErr errors hup]; rfl, ?_⟩
  intro m ns s hw hcrc htakes hbusy hword hcount hlocal
  obtain ⟨⟨hup, -⟩, hrst⟩ : (s.coreUp = true ∧ s.flag .glb F.GLB_READY_MGT_READY = true) ∧ s.domainInRst .mgt = false := by
    simpa [State.mgtTakes] using htakes
  obtain ⟨hheld, hout⟩ : s.coreHeld = false ∧ s.flag .clk F.CLK_RESET_STATUS_MGT_IN_RST = false := by
    simpa [State.domainInRst] using hrst
  have haccess := (s.frameBegun m).access_GLB_ID (masterReq m) false false 0 hup
  have hkeep : (s.frameBegun m).KeepsPages [.clk, .mgf] ((s.frameBegun m).findParity 0x40).2 :=
    State.findParity_keepsPages _ (pg := .glb) rfl (by decide) (by decide) (by decide)
  have hports := (s.frameBegun m).findParity_mports 0x40
  generalize ((s.frameBegun m).findParity 0x40).2 = t at haccess hkeep hports
  have hdropped : (t.mport m).dropped = false := by simp [State.mport, hports, State.frameBegun, State.mportWith]
  obtain ⟨hanswer, hmgf⟩ := State.finishRun_readDone 0x40 ⟨0, 0x6416A100⟩ hdropped ((hkeep.flag (by decide) (by decide)).trans hout)
  have hwake := State.noticeWake_of_get_mgf (fun f hf => (hmgf f hf).trans (hkeep.get .mgf (by decide) f hf))
  refine ⟨_, exec_readF_one m ns s hw hcrc htakes hbusy hcount hlocal, ?_⟩
  have haddr : 4 * (hdrOf ns).waddr.toNat = 0x40 := by rw [hword]; rfl
  rw [haddr, State.startRun_readRun (State.loopErrors_GLB_ID _ m) haccess (hkeep.coreHeld.trans hheld), hwake, hanswer]

end Sys2Proof.Machine

namespace Sys2Proof.Machine

/-! PROOFS. What reset leaves (O5): the reset word of a register by its page and offset, the common header (R50, R464), and the balls
that core reset holds (R34). -/

/-! ### The reset word of a register of a page -/

section
variable {pg : PageId} {off : Nat}

/-- Where the field maps give a page or a row member a value of its own, the register holds that value. -/
theorem resetWord_of_instReset {v : Nat} (hoff : off < 0x1000) (hv : instReset pg off = some v) :
    resetWord (pg.base + off) = BitVec.ofNat 32 v := by
  simp only [resetWord, pageAt_off pg hoff, PageId.off_mod pg hoff, hv]

/-- Everywhere else past `PAGE_ID`, a register holds the reset column of its row. -/
theorem resetWord_of_regAt {r : RegDesc} (hoff : off < 0x1000) (hne : off ≠ 0) (hi : instReset pg off = none)
    (hr : pg.regAt off = some r) : resetWord (pg.base + off) = BitVec.ofNat 32 (packReset r.fields) := by
  simp only [resetWord, pageAt_off pg hoff, PageId.off_mod pg hoff, hi, hne, hr, if_false]

/-! ### The common header -/

/-- No register of the header has a value of its own page by page. -/
theorem instReset_header (h : hasHeader pg = true) (hoff : off < 0x20) : instReset pg off = none := by
  cases pg with
  | bgt => exact dif_neg (by omega)
  | evq => exact (if_neg (by omega)).trans (if_neg (by omega))
  | tcp p => exact if_neg (by omega)
  | mgt => exact if_neg (by omega)
  | win i => simp [hasHeader] at h
  | _ => rfl

/-- The table of a page with a header begins with the header's rows. -/
theorem PageId.regs_of_hasHeader (h : hasHeader pg = true) : ∃ block, pg.regs = headerRegs ++ block := by
  cases pg with
  | win i => simp [hasHeader] at h
  | _ => exact ⟨_, rfl⟩

/-- A row of the header is found at its offset whatever the page's block registers are. -/
theorem PageId.regAt_header (h : hasHeader pg = true) {r : RegDesc} (hr : headerRegs.find? (·.holds off) = some r) :
    pg.regAt off = some r := by
  obtain ⟨block, hblock⟩ := PageId.regs_of_hasHeader h
  rw [PageId.regAt, hblock, List.find?_append, hr, Option.some_or]

/-- A header register past `PAGE_ID` holds the reset column of the header's table on every page (R50, R464). -/
theorem resetWord_header (h : hasHeader pg = true) {r : RegDesc} (hoff : off < 0x20) (hne : off ≠ 0)
    (hr : headerRegs.find? (·.holds off) = some r) : resetWord (pg.base + off) = BitVec.ofNat 32 (packReset r.fields) :=
  resetWord_of_regAt (by omega) hne (instReset_header h hoff) (PageId.regAt_header h hr)

/-- `PAGE_ID` is made of the page's type and number, with version 1 (R464). -/
theorem resetWord_PAGE_ID (h : hasHeader pg = true) :
    resetWord pg.base = BitVec.ofNat 32 (pg.typeCode * 0x1000000 + pg.inst * 0x10000 + 0x100) := by
  have hoff : pg.base % 0x1000 = 0 := PageId.base_aligned pg
  have hi : instReset pg 0 = none := instReset_header h (by decide)
  simp only [resetWord, pageAt_base, hoff, hi, if_true]
  cases pg with
  | win i => simp [hasHeader] at h
  | _ => rfl

end

/-! ### The fields of MGT and EVQ -/

/-- `EVQ_ROUTEn`: queues 0 and 1 hold the reset column of the row that all four share, queues 2 and 3 a value of their own (R129). -/
theorem resetWord_EVQ_ROUTE (n : QueueIx) : resetWord (0x3064 + 0x40 * n.val) = if n.val < 2 then 0x83FE else 0x76 := by
  revert n
  decide

/-- `MGT_RING_CFG` at reset: 50, 3 and 10 in its three fields (R107). -/
theorem resetWord_MGT_RING_CFG : resetWord 0x2060 = 0xA0332 :=
  resetWord_of_regAt (pg := .mgt) (off := 0x60) (by decide) (by decide) rfl rfl

/-! ### The balls that core reset holds (R34) -/

section
variable {s : State}

/-- Core global reset covers every port. -/
theorem State.ballsHeld_of_coreHeld (h : s.coreHeld = true) (p : Port) : s.ballsHeld p = true := by
  simp [State.ballsHeld, h]

theorem State.gateBall_of_ballsHeld {p : Port} (h : s.ballsHeld p = true) : s.gateBall p = false := by
  simp [State.gateBall, h]

theorem State.dschBall_of_coreHeld (h : s.coreHeld = true) (p : Port) : s.dschBall p = true := by
  simp [State.dschBall, h]

theorem State.vsetBall_of_ballsHeld {p : Port} (h : s.ballsHeld p = true) : s.vsetBall p = 0 := if_pos h

theorem State.ccBall_of_ballsHeld {p : Port} (h : s.ballsHeld p = true) : s.ccBall p = .opened := by
  simp [State.ccBall, h]

theorem State.usbHighZ_of_ballsHeld {p : Port} (h : s.ballsHeld p = true) : s.usbHighZ p = true := by
  simp [State.usbHighZ, h]

theorem State.intBall_of_coreHeld (h : s.coreHeld = true) (m : Master) : s.intBall m = false := by
  simp [State.intBall, h]

end

/-- Settles O5: a header register's word follows from the header's rows, which lead every page's table, and each ball's level from the
hold on its port. -/
theorem resetLeavesTheStatedValues : Obligations.ResetLeavesTheStatedValues := by
  unfold Obligations.ResetLeavesTheStatedValues
  refine ⟨⟨rfl, rfl, fun _ => rfl⟩, fun pg hpg => ?header, ?fields, fun s p m hheld => ?balls⟩
  case header =>
    exact ⟨resetWord_PAGE_ID hpg, resetWord_header (off := 0x4) hpg (by decide) (by decide) rfl,
      resetWord_header (off := 0xC) hpg (by decide) (by decide) rfl, resetWord_header (off := 0x14) hpg (by decide) (by decide) rfl⟩
  case fields =>
    have hleg0 : resetWord 0x2054 = 0xAFAEADAC := resetWord_of_regAt (pg := .mgt) (off := 0x54) (by decide) (by decide) rfl rfl
    have hleg1 : resetWord 0x2058 = 0xB3B2B1B0 := resetWord_of_instReset (pg := .mgt) (off := 0x58) (by decide) rfl
    rw [resetWord_MGT_RING_CFG]
    exact ⟨hleg0, hleg1, resetWord_EVQ_ROUTE, by decide, by decide, by decide⟩
  case balls =>
    have hport : s.ballsHeld p = true := State.ballsHeld_of_coreHeld hheld p
    exact ⟨State.gateBall_of_ballsHeld hport, State.dschBall_of_coreHeld hheld p, State.vsetBall_of_ballsHeld hport,
      State.ccBall_of_ballsHeld hport, State.usbHighZ_of_ballsHeld hport, State.intBall_of_coreHeld hheld m, hheld⟩

end Sys2Proof.Machine

namespace Sys2Proof.Machine

/-! PROOFS. What a register write stores (O11): the bits of a register's fields lie apart, so each takes the write as its own type says
(R56), in the byte lanes that act (R73). -/

/-! ### The fields of a register lie apart -/

/-- The fields of a register stand in the order of their bits, inside the word, and share none. -/
def fieldsApart (fs : List FieldDesc) : Bool :=
  fs.all (fun f => decide (f.lo + f.width ≤ 32)) && decide (fs.Pairwise (fun f g => f.lo + f.width ≤ g.lo))

/-- Every register of every page has its fields apart. -/
theorem PageId.regs_fieldsApart (pg : PageId) : pg.regs.all (fun r => fieldsApart r.fields) = true := by
  cases pg with
  | tcp p =>
    simp only [PageId.regs]
    cases isFullPort p <;> decide +kernel
  | _ => simp only [PageId.regs]; decide +kernel

theorem fieldsApart_of_regAt {pg : PageId} {off : Nat} {r : RegDesc} (hr : pg.regAt off = some r) : fieldsApart r.fields = true :=
  List.all_eq_true.1 (PageId.regs_fieldsApart pg) r (List.mem_of_find?_eq_some hr)

theorem fieldsApart_iff {fs : List FieldDesc} : fieldsApart fs = true ↔
    (∀ f ∈ fs, f.lo + f.width ≤ 32) ∧ fs.Pairwise (fun f g => f.lo + f.width ≤ g.lo) := by
  simp [fieldsApart]

/-! ### One bit of a write -/

/-- The mask of a set of byte enables has the bits of the bytes it names. -/
theorem laneMask_bit (be : BitVec 4) {i : Nat} (hi : i < 32) : (laneMask be).getLsbD i = be.getLsbD (i / 8) := by
  revert be i
  decide +kernel

section
variable (v m w : Word) (g : Bool) {f : FieldDesc} {i : Nat}

/-- A field's part of a write: the bits that the field and the mask share take the write as the field's type says, no other bit moves. -/
theorem mergeField_bit (hi : i < 32) : (mergeField v m g w f).getLsbD i =
    if (fldMask ⟨0, f.lo, f.width⟩ &&& m).getLsbD i then storedBit f.ty g (w.getLsbD i) (v.getLsbD i) else w.getLsbD i := by
  unfold mergeField storedBit
  generalize fldMask ⟨0, f.lo, f.width⟩ &&& m = k
  have put : ((w &&& ~~~k) ||| (v &&& k)).getLsbD i = if k.getLsbD i then v.getLsbD i else w.getLsbD i := by
    cases hk : k.getLsbD i <;> simp [-BitVec.getLsbD_eq_getElem, hk, hi]
  cases f.ty with
  | rw | cnt => exact put
  | rwg => cases g with
    | true => exact put
    | false => exact (ite_self _).symm
  | w1c => cases hk : k.getLsbD i <;> simp [-BitVec.getLsbD_eq_getElem, hk, hi]
  | w1s => cases hk : k.getLsbD i <;> simp [-BitVec.getLsbD_eq_getElem, hk]
  | ro | rc | wo | cmd => exact (ite_self _).symm

/-- A bit outside the field stays. -/
theorem mergeField_bit_outside (h : ¬ (f.lo ≤ i ∧ i < f.lo + f.width)) : (mergeField v m g w f).getLsbD i = w.getLsbD i := by
  have hmask : (fldMask ⟨0, f.lo, f.width⟩).getLsbD i = false := by
    simp only [fldMask_bit, Bool.and_eq_false_iff, decide_eq_false_iff_not]
    omega
  by_cases hi : i < 32
  · rw [mergeField_bit v m w g hi, BitVec.getLsbD_and, hmask]
    rfl
  · rw [BitVec.getLsbD_of_ge _ _ (Nat.le_of_not_lt hi), BitVec.getLsbD_of_ge _ _ (Nat.le_of_not_lt hi)]

/-- A bit inside the field takes the write as the field's type says, where the mask covers it. -/
theorem mergeField_bit_inside (hlo : f.lo ≤ i) (hhi : i < f.lo + f.width) (hi : i < 32) :
    (mergeField v m g w f).getLsbD i = if m.getLsbD i = false then w.getLsbD i else storedBit f.ty g (w.getLsbD i) (v.getLsbD i) := by
  have hmask : (fldMask ⟨0, f.lo, f.width⟩).getLsbD i = true := by
    simp only [fldMask_bit, Bool.and_eq_true, decide_eq_true_eq]
    omega
  rw [mergeField_bit v m w g hi, BitVec.getLsbD_and, hmask]
  cases m.getLsbD i <;> rfl

/-- Fields that do not hold a bit leave it, one after the other. -/
theorem foldl_mergeField_outside (fs : List FieldDesc) (h : ∀ f ∈ fs, ¬ (f.lo ≤ i ∧ i < f.lo + f.width)) :
    (fs.foldl (mergeField v m g) w).getLsbD i = w.getLsbD i := by
  induction fs generalizing w with
  | nil => rfl
  | cons f fs ih =>
    rw [List.foldl_cons, ih _ (fun x hx => h x (List.mem_cons_of_mem f hx)), mergeField_bit_outside v m w g (h f List.mem_cons_self)]

/-- Where the fields lie apart, a bit takes the write as the one field that holds it says. -/
theorem foldl_mergeField_inside {fs : List FieldDesc} (hfs : fieldsApart fs = true) (hf : f ∈ fs) (hlo : f.lo ≤ i)
    (hhi : i < f.lo + f.width) : (fs.foldl (mergeField v m g) w).getLsbD i =
      if m.getLsbD i = false then w.getLsbD i else storedBit f.ty g (w.getLsbD i) (v.getLsbD i) := by
  obtain ⟨hword, hapart⟩ := fieldsApart_iff.1 hfs
  have hi : i < 32 := Nat.lt_of_lt_of_le hhi (hword f hf)
  obtain ⟨before, after, rfl⟩ := List.append_of_mem hf
  obtain ⟨-, hrest, hbefore⟩ := List.pairwise_append.1 hapart
  have hafter : ∀ x ∈ after, ¬ (x.lo ≤ i ∧ i < x.lo + x.width) := fun x hx hin => by
    have := List.rel_of_pairwise_cons hrest hx
    omega
  have hbefore' : ∀ x ∈ before, ¬ (x.lo ≤ i ∧ i < x.lo + x.width) := fun x hx hin => by
    have := hbefore x hx f List.mem_cons_self
    omega
  rw [List.foldl_append, List.foldl_cons, foldl_mergeField_outside v m _ g after hafter, mergeField_bit_inside v m _ g hlo hhi hi,
    foldl_mergeField_outside v m w g before hbefore']

end

/-! ### The store -/

/-- Parity made right changes no register. -/
theorem State.mendParity_rd (s : State) (addr : Nat) (be : BitVec 4) (a : Nat) : (s.mendParity addr be).2.rd a = s.rd a := by
  unfold State.mendParity
  split
  · rfl
  · extract_lets left
    split <;> rfl

/-- The word that a write leaves in a register that goes through the plain store: its fields merged, its zero bits cleared. -/
theorem State.storeFields_rd (s : State) {pg : PageId} {off : Nat} {r : RegDesc} (be : BitVec 4) (v : Word) (guarded : Bool)
    (hr : pg.regAt off = some r) (hown : ownStore pg off = false) : (s.storeFields pg off be v guarded).2.rd (pg.base + off) =
      (r.fields.foldl (mergeField v (laneMask (lanesOf r.fields be)) guarded) (s.rd (pg.base + off))) &&& ~~~ zeroBits pg off := by
  simp only [State.storeFields, hr, hown, Bool.false_eq_true, if_false]
  split
  · exact State.rd_wr_same ..
  · rw [State.mendParity_rd, State.rd_wr_same]

/-- Settles O11: a bit of the word stored is that of the one field that holds it, unless it is kept at zero. -/
theorem storedFieldsFollowTheirTypes : Obligations.StoredFieldsFollowTheirTypes := by
  unfold Obligations.StoredFieldsFollowTheirTypes
  intro s pg off be v guarded r f i hr hown _ hf hlo hhi
  have hfs := fieldsApart_of_regAt hr
  have hi : i < 32 := Nat.lt_of_lt_of_le hhi ((fieldsApart_iff.1 hfs).1 f hf)
  rw [s.storeFields_rd be v guarded hr hown, BitVec.getLsbD_and, BitVec.getLsbD_not, foldl_mergeField_inside _ _ _ _ hfs hf hlo hhi,
    laneMask_bit _ hi]
  cases (zeroBits pg off).getLsbD i
  case false => simp [hi]
  case true => simp

end Sys2Proof.Machine

namespace Sys2Proof.Machine

/-! PROOFS. A single access that reaches its target: the page it meets, the write or the read that the target takes, and what stands once
it has been answered (R54, R55, R74–R76). -/

section
variable {s : State} {who : Requester} {pg : PageId} {off : Nat}

/-! ### Who is heard -/

/-- Only a running core hears a requester (R89, R101, R137). -/
theorem State.coreHeld_of_mayAccess (h : s.mayAccess who = true) : s.coreHeld = false := by
  have hup : s.coreUp = true := by
    cases who <;> simp only [State.mayAccess, State.mgtTakes, Bool.and_eq_true] at h <;> tauto
  simp only [State.coreUp, Bool.and_eq_true, Bool.not_eq_true'] at hup
  exact hup.1

theorem State.mayAccess_of_reaches (h : s.reaches who pg off = true) : s.mayAccess who = true := by
  simp only [State.reaches, Bool.and_eq_true] at h
  tauto

theorem State.off_lt_of_reaches (h : s.reaches who pg off = true) : off < 0x1000 := by
  simp only [State.reaches, Bool.and_eq_true, decide_eq_true_eq] at h
  tauto

theorem State.coreHeld_of_reaches (h : s.reaches who pg off = true) : s.coreHeld = false :=
  State.coreHeld_of_mayAccess (State.mayAccess_of_reaches h)

/-- A write that is taken reaches its target, is not refused and meets no pending pair. -/
theorem State.takesWrite_iff : s.takesWrite who pg off = true ↔
    s.reaches who pg off = true ∧ s.denied who (some pg) off = false ∧ s.pair (s.identOf who) = none := by
  simp [State.takesWrite, and_assoc]

/-! ### What the target does -/

/-- Neither the load nor the clock nor the reset domain of its page keeps an access that reaches its target (R74–R76, R133). -/
theorem State.unhindered_of_reaches (h : s.reaches who pg off = true) : s.stalls who pg off = false ∧
    (!alwaysThere pg off && !s.clockOn pg) = false ∧ (!alwaysThere pg off && s.domainInRst pg) = false := by
  simp only [State.reaches, Bool.and_eq_true, Bool.or_eq_true, Bool.not_eq_true', decide_eq_true_eq] at h
  obtain ⟨⟨-, hstall⟩, hthere⟩ := h
  rcases hthere with e | ⟨hclock, hreset⟩
  · simp [hstall, e]
  · simp [hstall, hclock, hreset]

theorem State.accessPage_of_reaches (h : s.reaches who pg off = true) : s.accessPage (regAddr pg off) = some pg := by
  simp only [State.reaches, Bool.and_eq_true, decide_eq_true_eq] at h
  obtain ⟨⟨⟨⟨-, hoff⟩, hthere⟩, -⟩, -⟩ := h
  exact s.accessPage_there pg hoff hthere

/-- A write that reaches its target and is not refused is taken there. -/
theorem State.access_write (h : s.reaches who pg off = true) (hd : s.denied who (some pg) off = false) (w : FrameWord)
    (resumed parityErr : Bool) (errors : Nat) : s.access who (regAddr pg off) (some w) resumed parityErr errors =
      some (⟨(s.writeTaken (s.identOf who) pg off w parityErr errors).1, 0⟩,
        (s.writeTaken (s.identOf who) pg off w parityErr errors).2) := by
  have hoff : regAddr pg off % 0x1000 = off := PageId.off_mod pg (State.off_lt_of_reaches h)
  obtain ⟨hstall, hclock, hreset⟩ := State.unhindered_of_reaches h
  simp only [State.access, State.accessPage_of_reaches h, hoff, hd, Bool.and_false, Bool.false_eq_true, if_false, State.accessBlock,
    hstall, hclock, hreset]

/-- A read that reaches its target is taken there. -/
theorem State.access_read (h : s.reaches who pg off = true) (resumed parityErr : Bool) (errors : Nat) :
    s.access who (regAddr pg off) none resumed parityErr errors =
      (s.readTaken who pg off resumed).map (fun r => (⟨0, r.1⟩, r.2)) := by
  have hoff : regAddr pg off % 0x1000 = off := PageId.off_mod pg (State.off_lt_of_reaches h)
  obtain ⟨hstall, hclock, hreset⟩ := State.unhindered_of_reaches h
  simp only [State.access, State.accessPage_of_reaches h, hoff, Bool.false_eq_true, if_false, State.accessBlock, hstall, hclock, hreset]

/-- Where a page has no safe action beyond the values that act, a visit to a register finds its mismatch and no more (R69). -/
theorem State.parityVisit_of_noSafeAction (s : State) (h : ∀ s0 s1 : State, State.safeAction s0 s1 pg off = s1) :
    s.parityVisit pg off = (s.findParity (pg.base + off)).2 := by
  unfold State.parityVisit
  extract_lets s1
  rw [h, ite_self]

/-! ### What stands after it -/

/-- A run of one word whose access does not wait is over with it. -/
theorem State.runOn_one {t : State} {r : AccessRun} {w : FrameWord} {res : WordResult} {resumed parityErr : Bool} {errors : Nat}
    (h : s.runWord r w resumed parityErr errors = some (res, t)) : State.runOn parityErr errors [w] resumed r s =
      ({ r with addr := if r.fixed then r.addr else r.addr + 4, done := r.done ++ [res], left := [] }, t) := by
  rw [State.runOn, h]
  dsimp only
  split <;> rfl

/-- A single access that is over is answered with its word (R55). -/
theorem State.settleRun_single (write fixed : Bool) (addr : Nat) (res : WordResult) (late : Option Nat) :
    s.settleRun ⟨who, .single, write, fixed, addr, [], [res], late⟩ = s.afterAccess res.status res.data := by
  unfold State.settleRun State.afterAccess
  split
  · rfl
  · cases who <;> rfl

/-- A single access that does not wait is answered with its word; a read may wake a host by what it pops (R55, R366). -/
theorem State.oneWith_of_access {t : State} {addr : Nat} {w : Option FrameWord} {res : WordResult} {parityErr : Bool} {errors : Nat}
    (hm : s.mayAccess who = true) (ha : s.access who addr w false parityErr errors = some (res, t)) :
    s.oneWith who addr w parityErr errors =
      if w.isSome then t.afterAccess res.status res.data else (t.afterAccess res.status res.data).noticeWake s := by
  have hword : s.runWord ⟨who, .single, w.isSome, false, addr, [w.getD ⟨0xF, 0⟩], [], none⟩ (w.getD ⟨0xF, 0⟩) false parityErr
      errors = some (res, t) := by
    unfold State.runWord
    rw [State.loopErrors_single _ _ rfl]
    cases w <;> exact ha
  have hrun := State.runOn_one hword
  unfold State.oneWith State.startRun State.popsWake
  simp only [hm, Bool.not_true, Bool.false_eq_true, if_false]
  rw [hrun]
  exact congrArg (fun x : State => if w.isSome then x else x.noticeWake s) (State.settleRun_single ..)

/-- A write that reaches its target and is not refused: what the target takes, and its answer. -/
theorem State.writeOne_of_reaches (h : s.reaches who pg off = true) (hd : s.denied who (some pg) off = false) (be : BitVec 4) (v : Word) :
    s.writeOne who (regAddr pg off) be v = (s.writeTaken (s.identOf who) pg off ⟨be, v⟩ false 0).2.afterAccess
      (s.writeTaken (s.identOf who) pg off ⟨be, v⟩ false 0).1 0 := by
  rw [State.writeOne, State.oneWith_of_access (State.mayAccess_of_reaches h) (State.access_write h hd ⟨be, v⟩ false false 0)]
  exact if_pos rfl

/-- Where core global reset is not asserted, the access is answered. -/
theorem State.afterAccess_of_running (h : s.coreHeld = false) (st : Fin 16) (v : Word) :
    s.afterAccess st v = (s.reply (.word st v)).mgtFollow := by
  simp [State.afterAccess, h]

/-- A read that reaches its target is answered with the word taken, where the read keeps CLK and MGF and the management domain is out of
reset: what follows the answer then changes neither. -/
theorem State.readOne_answer {u : State} {v : Word} (h : s.reaches who pg off = true) (ht : s.readTaken who pg off false = some (v, u))
    (hkeep : s.KeepsPages [.clk, .mgf] u) (hout : s.flag .clk F.CLK_RESET_STATUS_MGT_IN_RST = false) :
    (s.readOne who (regAddr pg off)).answer = .word 0 v := by
  have haccess : s.access who (regAddr pg off) none false false 0 = some (⟨0, v⟩, u) := by
    rw [State.access_read h, ht]
    rfl
  have hheld : u.coreHeld = false := hkeep.coreHeld.trans (State.coreHeld_of_reaches h)
  have hfollow : (u.reply (.word 0 v)).KeepsPages [.mgf] (u.reply (.word 0 v)).mgtFollow :=
    State.mgtFollow_keepsPages _ ((hkeep.flag (by decide) (by decide)).trans hout)
  rw [State.readOne, State.oneWith_of_access (State.mayAccess_of_reaches h) haccess, if_neg (by decide),
    State.afterAccess_of_running hheld]
  rw [State.noticeWake_of_get_mgf (fun f hf => (hfollow.get .mgf (by decide) f hf).trans (hkeep.get .mgf (by decide) f hf))]
  exact hfollow.answer

/-- Where the management domain is settled too, nothing follows the answer. -/
theorem State.afterAccess_of_settled (h : s.coreHeld = false) (hm : s.mgtSettled = true) (st : Fin 16) (v : Word) :
    s.afterAccess st v = s.reply (.word st v) := by
  rw [State.afterAccess_of_running h, State.mgtFollow_settled _ (by exact hm)]

/-- A whole-word write of a plain register that is taken (R55, R56). -/
theorem State.writeOne_taken (h : s.takesWrite who pg off = true) {be : BitVec 4} (hbe : be ≠ 0) (hg : isRwg pg off = false)
    (hc : isComplement pg off = false) (v : Word) : s.writeOne who (regAddr pg off) be v = s.writeTakenBy who pg off be v :=
  s.oneWith_taken who pg off be v false 0 h hbe hg hc

end

/-! ### The page header -/

section
variable {pg : PageId}

/-- `PAGE_CTRL` is neither guarded nor a complement register (R50, R61). -/
theorem isRwg_PAGE_CTRL (h : hasHeader pg = true) : isRwg pg 4 = false := by
  rw [isRwg, PageId.regAt_header h (off := 4) rfl]
  rfl

theorem isComplement_PAGE_CTRL (h : hasHeader pg = true) : isComplement pg 4 = false := by
  have : isRwg pg 0 = false := by
    rw [isRwg, PageId.regAt_header h (off := 0) rfl]
    rfl
  simp [isComplement, this]

end

end Sys2Proof.Machine

namespace Sys2Proof.Machine

/-! PROOFS. `PAGE_CTRL` of the pages that are always on (O14): a read gives its reset word and a write takes nothing (R51). -/

section
variable {pg : PageId}

/-- The pages that R51 names are those whose `PAGE_CTRL` is not stored. -/
theorem fixedCtrl_of_mem (h : pg ∈ [PageId.glb, .clk, .mgt, .evq, .cfg, .pwe, .hlt]) : fixedCtrl pg = true := by
  revert pg
  decide

theorem hasHeader_of_fixedCtrl (h : fixedCtrl pg = true) : hasHeader pg = true := by
  cases pg with
  | win i => cases h
  | _ => rfl

/-- `PAGE_CTRL` reads as its reset word there: `EN` 1 and `BLK_RST` 0. -/
theorem State.view_PAGE_CTRL (s : State) (h : fixedCtrl pg = true) : s.view pg 4 = 1 := by
  have hfixed : fixedRead pg 4 = true := by simp [fixedRead, h]
  rw [State.view, if_pos hfixed]
  exact resetWord_header (off := 4) (hasHeader_of_fixedCtrl h) (by decide) (by decide) rfl

/-- No read of these registers has an effect. -/
theorem State.readBlock_PAGE_CTRL (s : State) (i : Ident) (barred : Bool) (h : fixedCtrl pg = true) :
    s.readBlock i barred pg 4 = (s.view pg 4, s) := by
  cases pg with
  | glb | clk | mgt | evq | cfg | pwe | hlt => rfl
  | _ => cases h

/-- A write of `PAGE_CTRL` changes nothing there: it is not stored and restarts nothing. -/
theorem State.writeReg_PAGE_CTRL (s : State) (i : Ident) (be : BitVec 4) (v : Word) (guarded parityErr : Bool) (errors : Nat)
    (h : fixedCtrl pg = true) : s.writeReg i pg 4 be v guarded parityErr errors = s := by
  have hown : ownStore pg 4 = true := by simp [ownStore, h]
  obtain ⟨r, hr⟩ : ∃ r, pg.regAt 4 = some r := ⟨_, PageId.regAt_header (hasHeader_of_fixedCtrl h) rfl⟩
  have hstore : s.storeFields pg 4 be v guarded = (false, s) := by simp [State.storeFields, hr, hown]
  cases pg with
  | glb | clk | mgt | evq | cfg | pwe | hlt =>
    unfold State.writeReg
    dsimp only
    rw [hr, hstore]
    rfl
  | _ => cases h

/-- A write of `PAGE_CTRL` that is taken there is answered, whatever its byte enables, and no more. -/
theorem State.writeOne_PAGE_CTRL {s : State} {who : Requester} (h : fixedCtrl pg = true) (ht : s.takesWrite who pg 4 = true)
    (be : BitVec 4) (v : Word) : s.writeOne who (regAddr pg 4) be v = (s.reply (.word 0 0)).mgtFollow := by
  obtain ⟨hreach, hdenied, hpair⟩ := State.takesWrite_iff.1 ht
  have hpg := hasHeader_of_fixedCtrl h
  have htaken : s.writeTaken (s.identOf who) pg 4 ⟨be, v⟩ false 0 = (0, s) := by
    unfold State.writeTaken State.writeOwn
    simp only [hpair, isRwg_PAGE_CTRL hpg, isComplement_PAGE_CTRL hpg, s.writeReg_PAGE_CTRL _ _ _ _ _ _ h, Bool.false_eq_true, if_false,
      ite_self]
  rw [State.writeOne_of_reaches hreach hdenied, htaken, State.afterAccess_of_running (State.coreHeld_of_reaches hreach)]

end

/-- Settles O14: the read is taken with the reset word, and each of the three commands is a write of `PAGE_CTRL`. -/
theorem alwaysOnPagesIgnorePageControl : Obligations.AlwaysOnPagesIgnorePageControl := by
  unfold Obligations.AlwaysOnPagesIgnorePageControl
  refine ⟨fun who pg resumed parityErr errors s hpg hreach => ?read, fun who pg be v s hpg ht => ?write, fun who pg s hpg ht => ?blkRst,
    fun who pg en s hpg ht => ?pageEn⟩
  case read =>
    have h := fixedCtrl_of_mem hpg
    have htaken : s.readTaken who pg 4 resumed = some (1, s.parityVisit pg 4) := by
      have hpop : (if pg = .evq then popQueue 4 else none) = none := ite_self _
      simp only [State.readTaken, hpop, s.readBlock_PAGE_CTRL _ _ h, s.view_PAGE_CTRL h]
    rw [State.access_read hreach, htaken]
    rfl
  case write => exact ⟨_, rfl, State.writeOne_PAGE_CTRL (fixedCtrl_of_mem hpg) ht be v⟩
  case blkRst =>
    have h := fixedCtrl_of_mem hpg
    exact ⟨_, rfl, (if_pos (hasHeader_of_fixedCtrl h)).trans (State.writeOne_PAGE_CTRL h ht _ _)⟩
  case pageEn =>
    have h := fixedCtrl_of_mem hpg
    exact ⟨_, rfl, (if_pos (hasHeader_of_fixedCtrl h)).trans (State.writeOne_PAGE_CTRL h ht _ _)⟩

end Sys2Proof.Machine

namespace Sys2Proof.Machine

/-! PROOFS. What a register write that is taken does (O34): guarded pairs and their ends (R61–R63), an access whose target's clock has
stopped (R78), the scrubber's visit (R69) and the end of a restart (R52). -/

/-! ### Guarded pairs -/

section
variable (s : State) (i : Ident)

@[simp] theorem State.pair_setPair (g : Option GuardPair) : (s.setPair i g).pair i = g := Sparse.get_put_same _ s.guards _ g

theorem State.pair_breakPair : (s.breakPair i).pair i = none := by
  unfold State.breakPair
  split
  · assumption
  · exact s.pair_setPair i none

@[simp] theorem State.reply_pair (a : Answer) : (s.reply a).pair i = s.pair i := rfl

@[simp] theorem State.mgtErr_pair (j : Ident) (f : Nat → Fld) : (s.mgtErr j f).pair i = s.pair i := rfl

@[simp] theorem State.mgtErr_coreHeld (f : Nat → Fld) : (s.mgtErr i f).coreHeld = s.coreHeld := rfl

/-- An error bit is recorded in `MGT_ERRn` alone (R107). -/
theorem State.mgtErr_guard_rd {a : Nat} (h : a ≠ PageId.base .mgt + (0x80 + 4 * i.owner.val)) :
    (s.mgtErr i F.MGT_ERRn_GUARD).rd a = s.rd a :=
  (State.rd_wr_ne _ _ h).trans (State.rd_wr_ne _ _ h)

theorem State.mgtErr_guard_set : (s.mgtErr i F.MGT_ERRn_GUARD).get .mgt (F.MGT_ERRn_GUARD i.owner.val) = 1 :=
  (State.get_put_bits _ _ _ _ _ (.inr (show 0 + 1 ≤ 16 by omega))).trans (State.get_put_same _ _ _ _ (show 0 + 1 ≤ 32 by omega))

theorem State.mgtErr_guard_origin :
    (s.mgtErr i F.MGT_ERRn_GUARD).get .mgt (F.MGT_ERRn_ORIGIN i.owner.val) = i.origin.val :=
  (State.get_put_same _ _ _ _ (show 16 + 4 ≤ 32 by omega)).trans (Nat.mod_eq_of_lt i.origin.isLt)

/-- Whether the management domain is settled lies in the clock and reset page alone (R21). -/
theorem State.mgtSettled_congr {s t : State} (hclk : ∀ f : Fld, f.off < 0x1000 → t.get .clk f = s.get .clk f) (hbad : t.bad = s.bad) :
    t.mgtSettled = s.mgtSettled := by
  simp only [State.mgtSettled, State.locked, State.cfgFlag, State.cfg, State.heldAt, State.mismatch, State.badAt, State.flag, hbad,
    hclk F.CLK_ROOT_STATUS_ROOT_LOCKED (by decide), hclk F.CLK_RESET_MGT_RST (by decide),
    hclk F.CLK_RESET_STATUS_MGT_IN_RST (by decide)]

/-- A record in MGT does not unsettle the management domain. -/
theorem State.mgtErr_guard_settled : (s.mgtErr i F.MGT_ERRn_GUARD).mgtSettled = s.mgtSettled := by
  refine State.mgtSettled_congr (fun f hf => ?_) rfl
  have haddr : PageId.base .clk + f.off ≠ PageId.base .mgt + (0x80 + 4 * i.owner.val) := PageId.addr_ne (by decide) hf (by omega)
  simp only [State.get, s.mgtErr_guard_rd i haddr]

/-- A pair broken is recorded against its identity (R63). -/
theorem State.breakPair_of_pair (h : (s.pair i).isSome = true) : s.breakPair i = (s.setPair i none).mgtErr i F.MGT_ERRn_GUARD := by
  obtain ⟨g, hg⟩ := Option.isSome_iff_exists.1 h
  rw [State.breakPair, hg]

end

/-! ### Guarded writes at their target -/

section
variable {s : State} {i : Ident} {pg : PageId} {off : Nat} {parityErr : Bool} {errors : Nat}

/-- The first write of a pair is remembered and stores nothing (R61). -/
theorem State.writeTaken_first (hp : s.pair i = none) (hg : isRwg pg off = true) (v : Word) :
    s.writeTaken i pg off ⟨0xF, v⟩ parityErr errors = (0, s.setPair i (some ⟨regAddr pg off, v⟩)) := by
  simp [State.writeTaken, State.writeOwn, hp, hg, regAddr]

/-- Its complement carries the guarded write out (R61). -/
theorem State.writeTaken_complement {v : Word} (hp : s.pair i = some ⟨regAddr pg off, v⟩) :
    s.writeTaken i pg (off + 4) ⟨0xF, ~~~v⟩ parityErr errors = (0, (s.setPair i none).writeReg i pg off 0xF v true false 0) := by
  simp [State.writeTaken, hp, regAddr, Nat.add_assoc]

/-- Any other value there breaks the pair, and completes none itself (R63). -/
theorem State.writeTaken_wrongComplement {v w : Word} (hp : s.pair i = some ⟨regAddr pg off, v⟩) (hg : isRwg pg off = true)
    (hn : isRwg pg (off + 4) = false) (hw : w ≠ ~~~v) : s.writeTaken i pg (off + 4) ⟨0xF, w⟩ parityErr errors =
      (5, ((s.setPair i none).mgtErr i F.MGT_ERRn_GUARD).mgtErr i F.MGT_ERRn_GUARD) := by
  have hc : isComplement pg (off + 4) = true := by simp [isComplement, hg]
  simp [State.writeTaken, State.writeOwn, State.breakPair, hp, hn, hc, hw]

/-- A guarded register is none of the error registers. -/
theorem ne_MGT_ERR_of_isRwg (hoff : off < 0x1000) (hg : isRwg pg off = true) (n : Fin 4) :
    regAddr pg off ≠ PageId.base .mgt + (0x80 + 4 * n.val) := by
  by_cases hpg : pg = .mgt
  · subst hpg
    have hplain : isRwg .mgt (0x80 + 4 * n.val) = false := by
      revert n
      decide
    intro he
    have : off = 0x80 + 4 * n.val := by
      unfold regAddr at he
      omega
    rw [this, hplain] at hg
    cases hg
  · exact PageId.addr_ne hpg hoff (by omega)

/-- A first write of a pair that is taken is answered OK and remembered, and no more (R61). -/
theorem State.writeOne_first {who : Requester} (ht : s.takesWrite who pg off = true) (hg : isRwg pg off = true)
    (hm : s.mgtSettled = true) (v : Word) : s.writeOne who (regAddr pg off) 0xF v =
      (s.setPair (s.identOf who) (some ⟨regAddr pg off, v⟩)).reply (.word 0 0) := by
  obtain ⟨hreach, hdenied, hpair⟩ := State.takesWrite_iff.1 ht
  have hsettled : (s.setPair (s.identOf who) (some ⟨regAddr pg off, v⟩)).mgtSettled = true := hm
  have hheld : (s.setPair (s.identOf who) (some ⟨regAddr pg off, v⟩)).coreHeld = false := State.coreHeld_of_reaches hreach
  rw [State.writeOne_of_reaches hreach hdenied, State.writeTaken_first hpair hg, State.afterAccess_of_settled hheld hsettled]

/-- A wrong complement value is answered GUARD_VIOLATION: the pair is gone and both writes are recorded (R63). -/
theorem State.writeOne_wrongComplement {who : Requester} {v w : Word} (hreach : s.reaches who pg (off + 4) = true)
    (hd : s.denied who (some pg) (off + 4) = false) (hp : s.pair (s.identOf who) = some ⟨regAddr pg off, v⟩) (hg : isRwg pg off = true)
    (hn : isRwg pg (off + 4) = false) (hw : w ≠ ~~~v) (hm : s.mgtSettled = true) : s.writeOne who (regAddr pg (off + 4)) 0xF w =
      (((s.setPair (s.identOf who) none).mgtErr (s.identOf who) F.MGT_ERRn_GUARD).mgtErr (s.identOf who) F.MGT_ERRn_GUARD).reply
        (.word 5 0) := by
  have hsettled : (((s.setPair (s.identOf who) none).mgtErr (s.identOf who) F.MGT_ERRn_GUARD).mgtErr (s.identOf who)
      F.MGT_ERRn_GUARD).mgtSettled = true :=
    (State.mgtErr_guard_settled _ _).trans ((State.mgtErr_guard_settled _ _).trans hm)
  have hheld : (((s.setPair (s.identOf who) none).mgtErr (s.identOf who) F.MGT_ERRn_GUARD).mgtErr (s.identOf who)
      F.MGT_ERRn_GUARD).coreHeld = false := by simp [State.coreHeld_of_reaches hreach]
  rw [State.writeOne_of_reaches hreach hd, State.writeTaken_wrongComplement hp hg hn hw, State.afterAccess_of_settled hheld hsettled]

end

/-! ### A mismatch upset, found and reported -/

theorem State.badFound_eq_any (s : State) (pg : PageId) (off : Nat) :
    s.badFound pg off = s.bad.any (fun m => m.found && m.addr == pg.base + off) := by
  rw [State.badFound, State.badAt]
  cases h : s.bad.find? (fun m => m.found && m.addr == pg.base + off) with
  | none => simpa [-Bool.and_eq_true] using h
  | some m => exact (List.any_of_mem (List.mem_of_find?_eq_some h) (List.find?_some h)).symm

section
variable (s : State) (addr : Nat) (flips : Word)

/-- An upset changes the register it meets and the list of mismatches. -/
theorem State.upset_rd_ne {a : Nat} (h : a ≠ addr) : (s.upset addr flips).rd a = s.rd a := by
  unfold State.upset
  split
  · rfl
  extract_lets off odd s1
  have h1 : s1.rd a = s.rd a := State.rd_wr_ne _ _ h
  split
  · split
    · exact h1
    · exact h1
  · exact h1

theorem State.upset_coreHeld : (s.upset addr flips).coreHeld = s.coreHeld := by
  unfold State.upset
  split
  · rfl
  · extract_lets off odd s1
    split
    · split <;> rfl
    · rfl

/-- No upset is found as it happens (R68, R69). -/
theorem State.upset_badFound {pg : PageId} {off : Nat} (h : s.badFound pg off = false) :
    (s.upset addr flips).badFound pg off = false := by
  rw [State.badFound_eq_any] at h ⊢
  unfold State.upset
  split
  · exact h
  extract_lets odd s1
  split
  · split
    · exact h
    · exact h
  · rw [List.any_eq_false] at h ⊢
    intro m hm
    dsimp only at hm
    split at hm
    · exact h m (List.mem_filter.1 hm).1
    · obtain ⟨x, hx, rfl⟩ := List.mem_map.1 hm
      have := h x hx
      split <;> exact this

end

section
variable (s : State) {pg : PageId} {off : Nat}

/-- A visit finds what had not been reported. -/
theorem State.mismatch_of_findParity {addr : Nat} (h0 : s.badFound pg off = false)
    (h1 : (s.findParity addr).2.badFound pg off = true) : ∃ b, s.mismatch addr = some b ∧ b.reported = false := by
  by_contra hno
  have same : (s.findParity addr).2 = s := by
    unfold State.findParity
    split
    · next b _ hb =>
      have hrep : b.reported = true := by
        by_contra hr
        exact hno ⟨b, hb, Bool.eq_false_iff.2 hr⟩
      extract_lets rp
      rw [if_pos hrep]
    · rfl
  rw [same, h0] at h1
  cases h1

/-- A mismatch reported sets `FAULT.PARITY` of the page that reports it (R69). -/
theorem State.findParity_fault {b : Mismatch} (hoff : off < 0x1000) (hb : s.mismatch (pg.base + off) = some b)
    (hr : b.reported = false) : (s.findParity (pg.base + off)).2.get (reportPage pg) (F.FAULT 0) = 1 := by
  unfold State.findParity
  split
  · next pg' b' hp hb' =>
    obtain rfl : pg = pg' := Option.some.inj ((pageAt_off pg hoff).symm.trans hp)
    obtain rfl : b = b' := Option.some.inj (hb.symm.trans hb')
    extract_lets rp
    split
    · next hrep => cases hr.symm.trans hrep
    next s1 s2 s3 s4 _ =>
    have h1 : s1.get rp (F.FAULT 0) = 1 := by
      unfold s1
      split
      · next hset =>
        have hlt := fldGet_lt (F.FAULT 0) (s.rd (rp.base + 0x14))
        rw [State.get_put_off _ _ _ _ _ (by decide)]
        simp only [State.flag, State.get, F.FAULT, bne_iff_ne, ne_eq] at hset hlt ⊢
        omega
      · exact State.get_put_same _ _ _ _ (by decide)
    have h3 : s3.get rp (F.FAULT 0) = 1 := by
      unfold s3
      split
      · exact h1
      · rw [State.get_put_fld _ _ _ _ _ _ (by decide) (by decide) (by decide), State.count, State.countBy,
          State.get_put_fld _ _ _ _ _ _ (by decide) (by decide) (by decide)]
        exact h1
    have h4 : s4.get rp (F.FAULT 0) = 1 := by
      unfold s4
      split
      · rw [State.get_put_fld _ _ _ _ _ _ (by decide) (by decide) (by decide)]
        exact h3
      · exact h3
    simp only [State.get, State.handOff_rd] at h4 ⊢
    exact h4
  · next hno => exact absurd hb (hno _ _ (pageAt_off pg hoff))

end

/-- No safe action of EVQ is more than the values that act (R130). -/
theorem State.safeAction_evq (s0 s : State) (off : Nat) : State.safeAction s0 s .evq off = s := by
  unfold State.safeAction
  exact ite_self _

/-- A scrub of a register of EVQ with one upset there before it, where no mismatch had been found (R69). -/
theorem exec_parityScrub_evq {s : State} {off : Nat} (hoff : off < 0x1000) (flips : Word) (hup : s.coreUp = true)
    (hbad : s.badFound .evq off = false) : exec (.parityScrub [(PageId.base .evq + off, flips)] (PageId.base .evq + off)) s =
      .next ((s.upset (PageId.base .evq + off) flips).findParity (PageId.base .evq + off)).2 := by
  obtain ⟨hheld, hlock⟩ : s.coreHeld = false ∧ s.locked = true := by simpa [State.coreUp] using hup
  have hpage : ∀ t : State, t.accessPage (PageId.base .evq + off) = some .evq := fun t => t.accessPage_there .evq hoff rfl
  have hmod : (PageId.base .evq + off) % 0x1000 = off := PageId.off_mod .evq hoff
  have hupset : s.upsetAt (PageId.base .evq + off) flips = s.upset (PageId.base .evq + off) flips := by
    simp [State.upsetAt, hpage, State.domainInRst, hheld, hmod, hbad]
  have hlock' : (s.upset (PageId.base .evq + off) flips).locked = true := by
    have haddr : PageId.base .clk + 0x40 ≠ PageId.base .evq + off := PageId.addr_ne (by decide) (by decide) hoff
    simpa only [State.locked, State.flag, State.get, F.CLK_ROOT_STATUS_ROOT_LOCKED, State.upset_rd_ne _ _ _ haddr] using hlock
  refine congrArg Host.Outcome.next ?_
  simp only [List.foldl_cons, List.foldl_nil, hupset, hpage, State.clockOn, hlock', State.domainInRst, State.upset_coreHeld, hheld,
    Bool.not_true, Bool.or_false, Bool.false_eq_true, if_false, hmod,
    State.parityVisit_of_noSafeAction _ (fun s0 s1 => State.safeAction_evq s0 s1 off)]

/-! ### An access whose target's clock has stopped -/

/-- A word of a host agent or a remote master whose target's clock does not run may be withdrawn (R78). -/
theorem State.timesOut_read {s : State} {who : Requester} {pg : PageId} {off : Nat} (hm : isMaster who = false) (hoff : off < 0x1000)
    (ht : s.pageThere pg = true) (ha : alwaysThere pg off = false) (hc : s.clockOn pg = false) :
    s.timesOut who 0 (regAddr pg off) none = true := by
  have hpage : s.accessPage (regAddr pg off) = some pg := s.accessPage_there pg hoff ht
  have hmod : regAddr pg off % 0x1000 = off := PageId.off_mod pg hoff
  simp [State.timesOut, State.mayTimeOut, hm, hpage, hmod, ha, hc]

/-! ### The end of a restart -/

/-- As a restart ends, `RESTARTING` and `BLK_RST` read 0 (R52). -/
theorem exec_restartComplete {s : State} {pg : PageId} (hpg : hasHeader pg = true) (hr : s.get pg F.PAGE_STATUS_RESTARTING = 1) :
    exec (.restartComplete pg) s = .next ((s.put pg F.PAGE_CTRL_BLK_RST 0).put pg F.PAGE_STATUS_RESTARTING 0) :=
  congrArg Host.Outcome.next (if_pos (by simp [hpg, State.flag, hr]))

/-- Settles O34: each write is what its target takes of it, with the answer that follows; the rest from the scrubber's visit, the stopped
clock and the end of a restart. -/
theorem registerWritesAreTaken : Obligations.RegisterWritesAreTaken := by
  unfold Obligations.RegisterWritesAreTaken
  refine ⟨fun who pg off be v s ht hg hc hbe => ?plain, fun who pg off v s ht hg hm => ?first,
    fun who pg off v s hreach hdenied hpair => ?complement, fun who pg off v w s hreach hdenied hpair hg hn hw hm => ?wrong,
    fun i s hpair => ?expire, fun who pg off s hm hoff hthere halways hclock => ?timeout, fun addr upset s hup haddr hbad hfound => ?scrub,
    fun who pg en s hpg ht => ?pageEn, fun who pg s hpg ht => ?blkRst, fun pg s hpg hr => ?restart⟩
  case plain => exact ⟨_, rfl, State.writeOne_taken ht hbe hg hc v⟩
  case first => exact ⟨_, rfl, State.writeOne_first ht hg hm v⟩
  case complement =>
    refine ⟨_, rfl, ?_⟩
    rw [State.writeOne_of_reaches hreach hdenied, State.writeTaken_complement hpair]
  case wrong =>
    have hoff : off < 0x1000 := by have := State.off_lt_of_reaches hreach; omega
    have haddr := ne_MGT_ERR_of_isRwg hoff hg (s.identOf who).owner
    refine ⟨_, rfl, ?_⟩
    rw [State.writeOne_wrongComplement hreach hdenied hpair hg hn hw hm]
    refine ⟨rfl, by simp, ?_, ?_⟩
    · rw [State.reply_get, State.mgtErr_guard_set]
    · rw [State.reply_rd, State.mgtErr_guard_rd _ _ haddr, State.mgtErr_guard_rd _ _ haddr, State.setPair_rd]
  case expire =>
    refine ⟨_, rfl, s.pair_breakPair i, ?_⟩
    rw [s.breakPair_of_pair i hpair]
    exact ⟨State.mgtErr_guard_set _ i, State.mgtErr_guard_origin _ i⟩
  case timeout => exact ⟨_, congrArg Host.Outcome.next (if_pos (State.timesOut_read hm hoff hthere halways hclock)), rfl⟩
  case scrub =>
    subst haddr
    obtain ⟨b, hb, hreported⟩ := State.mismatch_of_findParity _ (s.upset_badFound _ upset hbad) hfound
    exact ⟨_, exec_parityScrub_evq (off := 0x60) (by decide) upset hup hbad, hfound,
      State.findParity_fault (pg := .evq) (off := 0x60) _ (by decide) hb hreported⟩
  case pageEn =>
    exact ⟨_, rfl, (if_pos hpg).trans (State.writeOne_taken ht (by decide) (isRwg_PAGE_CTRL hpg) (isComplement_PAGE_CTRL hpg) _)⟩
  case blkRst =>
    exact ⟨_, rfl, (if_pos hpg).trans (State.writeOne_taken ht (by decide) (isRwg_PAGE_CTRL hpg) (isComplement_PAGE_CTRL hpg) _)⟩
  case restart =>
    refine ⟨_, exec_restartComplete hpg hr, State.get_put_same _ _ _ _ (by decide), ?_⟩
    rw [State.get_put_off _ _ _ _ _ (by decide), State.get_put_same _ _ _ _ (by decide)]
    rfl

end Sys2Proof.Machine

namespace Sys2Proof.Machine

/-! PROOFS. The register commands of the compatibility windows and of the health page (O38): each is one access that its target takes,
and the end of a live update records its result. -/

/-! ### Which of these registers are guarded -/

/-- No register of a window is guarded. -/
theorem isRwg_win (i : Inst) (off : Nat) : isRwg (.win i) off = false := by
  have hregs : (PageId.win i).regs.all (fun r => !r.fields.any (fun f => f.ty == .rwg)) = true := rfl
  unfold isRwg
  split
  · rfl
  · next r hr => simpa using List.all_eq_true.1 hregs r (List.mem_of_find?_eq_some hr)

theorem isComplement_win (i : Inst) (off : Nat) : isComplement (.win i) off = false := by simp [isComplement, isRwg_win]

/-- The registers of CPT and HLT that these commands write whole: `CPT_CTRL`, the peak clear, the quarantine registers and `GO` of a
live update (R435, R450, R455, R458). -/
def wholeWritten : List (PageId × Nat) :=
  [(.cpt, 0x48), (.hlt, 0x5C), (.hlt, 0x60), (.hlt, 0x64), (.hlt, 0x68), (.hlt, 0x6C), (.hlt, 0x98)]

/-- None of them is guarded and none is a complement. -/
theorem plain_of_wholeWritten : ∀ r ∈ wholeWritten, isRwg r.1 r.2 = false ∧ isComplement r.1 r.2 = false := by decide

section
variable {s : State} {who : Requester}

/-- A whole-word write of one of these registers is its register write. -/
theorem State.writeOne_whole {pg : PageId} {off : Nat} (h : (pg, off) ∈ wholeWritten) (ht : s.takesWrite who pg off = true) (v : Word) :
    s.writeOne who (regAddr pg off) 0xF v = s.writeTakenBy who pg off 0xF v :=
  State.writeOne_taken ht (by decide) (plain_of_wholeWritten _ h).1 (plain_of_wholeWritten _ h).2 v

/-- A byte of a window written is its register write. -/
theorem State.writeOne_win {i : Inst} {off : Nat} {be : BitVec 4} (hbe : be ≠ 0) (ht : s.takesWrite who (.win i) off = true) (v : Word) :
    s.writeOne who (regAddr (.win i) off) be v = s.writeTakenBy who (.win i) off be v :=
  State.writeOne_taken ht hbe (isRwg_win i off) (isComplement_win i off) v

/-- A guarded pair that is taken opens its pair and completes it (R61). -/
theorem State.pairOne_PLATE_ISO (ht : s.takesPair who .hlt 0x70 = true) (v : Word) :
    s.pairOne who (regAddr .hlt 0x70) v = s.pairTakenBy who .hlt 0x70 v := by
  simp only [State.takesPair, Bool.and_eq_true, Bool.not_eq_true'] at ht
  obtain ⟨⟨⟨hfirst, hsecond⟩, hsettled⟩, hheld⟩ := ht
  exact s.pairOne_taken who .hlt 0x70 v hfirst hsecond (by decide) hsettled hheld

/-- `GO` where `KIND` selects the update is the register's write. -/
theorem State.goWith_of_kind {kinds : List Nat} (hk : s.get .hlt F.HLT_UPD_CFG_KIND ∈ kinds) (ht : s.takesWrite who .hlt 0x98 = true) :
    s.goWith who kinds = s.writeTakenBy who .hlt 0x98 0xF 1 :=
  (if_pos (List.contains_iff_mem.2 hk)).trans (State.writeOne_whole (by decide) ht 1)

end

/-! ### A read of a window -/

section
variable {s : State} {who : Requester} {i : Inst} {off : Nat}

/-- No safe action of a window is more than the values that act (R444). -/
theorem State.safeAction_win (s0 s : State) (i : Inst) (off : Nat) : State.safeAction s0 s (.win i) off = s := by
  unfold State.safeAction
  exact ite_self _

/-- A byte read of a window leaves every other page (R57, R429). -/
theorem State.winRead_keepsPages {pgs : List PageId} (s : State) {a : Nat} (hw : .win i ∉ pgs) (ha : a < 0x100) :
    s.KeepsPages pgs (s.winRead i a).2 := by
  unfold State.winRead
  extract_lets v
  split
  · refine ⟨rfl, rfl, fun pg hpg f hf => ?_⟩
    have hne : pg ≠ .win i := fun e => hw (e ▸ hpg)
    have haddr : pg.base + f.off ≠ (PageId.win i).base + 4 * a := PageId.addr_ne hne hf (by omega)
    exact congrArg (fldGet f) (State.rd_wr_ne s _ haddr)
  · split <;> exact .refl s

/-- A window stands in compatibility mode, where no host agent exists: whoever reaches it is heard by the management domain (R49, R427). -/
theorem State.mgtOut_of_reaches_win (h : s.reaches who (.win i) off = true) : s.flag .clk F.CLK_RESET_STATUS_MGT_IN_RST = false := by
  have hcompat : s.compat = true := by
    simp only [State.reaches, State.pageThere, Bool.and_eq_true] at h
    tauto
  have hmay := State.mayAccess_of_reaches h
  have htakes : s.mgtTakes = true := by
    cases who <;> simp only [State.mayAccess, hcompat, Bool.not_true, Bool.and_false, Bool.false_and, Bool.and_eq_true] at hmay <;> tauto
  simp only [State.mgtTakes, State.domainInRst, Bool.and_eq_true, Bool.not_eq_true', Bool.or_eq_false_iff] at htakes
  exact htakes.2.2

/-- A read of a byte of a window is answered with the byte that the register file gives (R429). -/
theorem State.readOne_win {a : Nat} (ha : a < 0x100) (h : s.reaches who (.win i) (4 * a) = true) :
    (s.readOne who (regAddr (.win i) (4 * a))).answer = .word 0 ((s.winRead i a).1.setWidth 32) := by
  have htaken : s.readTaken who (.win i) (4 * a) false = some ((s.winRead i a).1.setWidth 32,
      ((s.winRead i a).2.findParity ((PageId.win i).base + 4 * a)).2) := by
    have hoff : 4 * a < 0x400 := by omega
    have hbyte : 4 * a / 4 = a := by omega
    have hpop : (if PageId.win i = .evq then popQueue (4 * a) else none) = none := rfl
    rw [← State.parityVisit_of_noSafeAction _ (fun s0 s1 => State.safeAction_win s0 s1 i (4 * a))]
    simp only [State.readTaken, hpop, State.readBlock, hoff, hbyte, if_true]
  have hkeep := (s.winRead_keepsPages (i := i) (pgs := [.clk, .mgf]) (by simp) ha).trans
    (State.findParity_keepsPages (pgs := [.clk, .mgf]) (s.winRead i a).2 (pageAt_off (.win i) (off := 4 * a) (by omega))
      (by simp [reportPage]) (by decide) (by decide))
  exact State.readOne_answer h htaken hkeep (State.mgtOut_of_reaches_win h)

end

/-! ### The end of a live update -/

/-- What `UPDATE_END` records in `HLT_UPD_STATUS` and `HLT_UPD_CTRL` (R455). -/
def State.updRecorded (s : State) (r n : Nat) : State := ((s.updResult r n).put .hlt F.HLT_UPD_STATUS_BUSY 0).put .hlt F.HLT_UPD_CTRL_GO 0

/-- An update that runs ends with its result recorded. -/
theorem execUpdateEnd_of_running {s : State} {r : Fin 8} {n : Nat} (h : s.health.upd = some (r, n)) :
    execUpdateEnd s = .next ((s.healthWith (fun x => { x with upd := none })).updRecorded r.val n) := by
  unfold execUpdateEnd
  rw [h]
  rfl

section
variable (s : State) (r n : Nat)

theorem State.updRecorded_RESULT (hr : r < 8) : (s.updRecorded r n).get .hlt F.HLT_UPD_STATUS_RESULT = r := by
  unfold State.updRecorded State.updResult
  rw [State.get_put_off _ _ _ _ _ (by decide), State.get_put_bits _ _ _ _ _ (by decide), State.get_put_bits _ _ _ _ _ (by decide),
    State.get_put_same _ _ _ _ (by decide)]
  exact Nat.mod_eq_of_lt hr

theorem State.updRecorded_SKIPPED : (s.updRecorded r n).get .hlt F.HLT_UPD_STATUS_SKIPPED = min n 65535 := by
  unfold State.updRecorded State.updResult
  rw [State.get_put_off _ _ _ _ _ (by decide), State.get_put_bits _ _ _ _ _ (by decide), State.get_put_same _ _ _ _ (by decide)]
  exact Nat.mod_eq_of_lt (show min n 65535 < 65536 by omega)

theorem State.updRecorded_BUSY : (s.updRecorded r n).get .hlt F.HLT_UPD_STATUS_BUSY = 0 := by
  unfold State.updRecorded
  rw [State.get_put_off _ _ _ _ _ (by decide), State.get_put_same _ _ _ _ (by decide)]
  rfl

theorem State.updRecorded_GO : (s.updRecorded r n).get .hlt F.HLT_UPD_CTRL_GO = 0 :=
  State.get_put_same _ _ _ _ (by decide)

end

/-- Settles O38: each command is one access of its register that is taken; what a read of a window and the end of an update leave follows
from their registers alone. -/
theorem windowAndHealthWritesAreTaken : Obligations.WindowAndHealthWritesAreTaken := by
  unfold Obligations.WindowAndHealthWritesAreTaken
  refine ⟨fun who i s ht => ?compatAttach, fun who m s ht => ?instReset, fun who i off s hreach => ?rcRead,
    fun who i off v s ht => ?configAreaWrite, fun who hi v s ht => ?quarSet, fun who hi v s ht => ?quarRelease,
    fun who v s ht => ?plateIsoSet, fun who v s ht => ?plateIsoClear, fun who s ht => ?peakClr, fun who s ht hkind => ?updatePortPolicy,
    fun who s ht hkind => ?updatePort, fun who s ht hkind => ?updatePresDesc, fun r n s hupd => ?updateEnd⟩
  case compatAttach => exact ⟨_, rfl, State.writeOne_win (by decide) ht 1⟩
  case instReset => exact ⟨_, rfl, State.writeOne_whole (by decide) ht _⟩
  case rcRead => exact ⟨_, rfl, State.readOne_win off.isLt hreach⟩
  case configAreaWrite => exact ⟨_, rfl, State.writeOne_win (by decide) ht _⟩
  case quarSet => exact ⟨_, rfl, State.writeOne_whole (by cases hi <;> decide) ht v⟩
  case quarRelease => exact ⟨_, rfl, State.writeOne_whole (by cases hi <;> decide) ht v⟩
  case plateIsoSet => exact ⟨_, rfl, State.pairOne_PLATE_ISO ht _⟩
  case plateIsoClear => exact ⟨_, rfl, State.pairOne_PLATE_ISO ht _⟩
  case peakClr => exact ⟨_, rfl, State.writeOne_whole (by decide) ht 1⟩
  case updatePortPolicy => exact ⟨_, rfl, State.goWith_of_kind (by simpa using hkind) ht⟩
  case updatePort => exact ⟨_, rfl, State.goWith_of_kind (by simpa using hkind) ht⟩
  case updatePresDesc => exact ⟨_, rfl, State.goWith_of_kind (by simpa using hkind) ht⟩
  case updateEnd =>
    exact ⟨_, execUpdateEnd_of_running hupd, rfl, State.updRecorded_RESULT _ _ n r.isLt, State.updRecorded_SKIPPED ..,
      State.updRecorded_BUSY .., State.updRecorded_GO ..⟩

end Sys2Proof.Machine

namespace Sys2Proof.Machine

/-! PROOFS. What a command can end in (O2): the tree of each command's decisions has a next state at every leaf, but for the commands whose
carrier's form is checked first. -/

/-- What a command may end in: a next state, or the fault of a command that no sender can form. -/
inductive Answers (wf : Bool) : Host.Outcome State Fault Refusal → Prop
  | next {t : State} : Answers wf (.next t)
  | illFormed (h : wf = false) : Answers wf (.fault .illFormed)

namespace Answers

variable {wf : Bool} {α : Type}

theorem ite {c : Prop} [Decidable c] {a b : Host.Outcome State Fault Refusal} (ha : Answers wf a) (hb : Answers wf b) :
    Answers wf (if c then a else b) := by
  split
  · exact ha
  · exact hb

theorem dite {c : Prop} [Decidable c] {a : c → Host.Outcome State Fault Refusal} {b : ¬ c → Host.Outcome State Fault Refusal}
    (ha : ∀ h, Answers wf (a h)) (hb : ∀ h, Answers wf (b h)) : Answers wf (if h : c then a h else b h) := by
  split
  · exact ha _
  · exact hb _

theorem option {o : Option α} {a : Host.Outcome State Fault Refusal} {f : α → Host.Outcome State Fault Refusal} (ha : Answers wf a)
    (hf : ∀ x, Answers wf (f x)) : Answers wf (Option.casesOn o a f) := by
  cases o with
  | none => exact ha
  | some x => exact hf x

/-- A command whose carrier is checked for the form that `Instr.wf` asks for. -/
theorem whole {t : State} : Answers wf (if wf then .next t else .fault .illFormed) := by
  cases wf with
  | true => exact next
  | false => exact illFormed rfl

/-- A command that is turned away first where its form is not what `Instr.wf` asks for. -/
theorem turnedAway {c : Prop} [Decidable c] {a : Host.Outcome State Fault Refusal} (h : c → wf = false) (ha : Answers wf a) :
    Answers wf (if c then .fault .illFormed else a) := by
  split
  · next hc => exact illFormed (h hc)
  · exact ha

end Answers

/-- The numbers of a bulk command are read alike by its sender's rule and by the function (R362). -/
theorem numAt_eq_leNat (bs : List Byte) (off n : Nat) : numAt bs off n = leNat bs off n := by
  induction n generalizing off with
  | zero => rfl
  | succ n ih => exact congrArg (byteAt bs off + 256 * ·) (ih (off + 1))

theorem leNat_one (bs : List Byte) (off : Nat) : leNat bs off 1 = byteAt bs off := rfl

theorem bulkBytes_eq_bulkWhole (bytes : List Byte) : bulkBytes bytes = bulkWhole bytes := by
  have hvalid : blockValid bytes = bulkValid bytes := by simp only [blockValid, bulkValid, numAt_eq_leNat, leNat_one]
  simp only [bulkBytes, bulkWhole, hvalid, numAt_eq_leNat, leNat_one]

set_option smartUnfolding false in
/-- Every command's tree of decisions, leaf by leaf: the cases group the commands whose trees have one shape. (Lean's smart unfolding keeps a
definition folded while its `match` waits for a value; without it each tree shows as it is written.) -/
theorem exec_answers (c : Instr) (s : State) : Answers c.wf (exec c s) := by
  cases c with
  | readF | writeF | readFixed | writeFixed | replay | badOpcode | ringRequest => exact .whole
  | zeroingEnd | ddrAlert | contextReset | contextSuspend | contextResume | connect | disconnect | babble | chirpK | resumeEnd | rxDetect
  | ssInactive | ssContextReset | lgoU3 | upstreamExitLfps | u1U2Enable | complianceEntry | pingLfps | loopbackEntry | marginEnd
  | noticeAck | functionWake | functionReset | inServiceChange | presAttach | reattachEnd | presentationLive | upstreamAttach
  | upstreamDetach | fbDelayEnd | sof | movePoint | dischargeEnd | dschMaxEnd | legSclTimeout | plateCalibrationEnd | upCalibrationEnd
  | coreResetRelease | rootUnlock | rootLock | feedGoodnessChange | growDelayEnd | leaveRequest | leaveDone | dieWindow | pacingGapEnd
  | pacingDoneTimeout | revokeTimeEnd | revokeSuccess | loadComplete | linkUp | miswire | linkDown | attentionNotice | semOrphanEnd =>
    exact .ite .next .next
  | scrub | l1ExitEnd | selfRefreshEntry | ringForward => exact .ite .next (.ite .next .next)
  | linkU0 | pollingFail | holdTimeout | roster => exact .ite .next (.ite .next (.ite .next .next))
  | setHubDepth => exact .ite .next (.ite .next (.dite (fun _ => .next) fun _ => .next))
  | clearChangeBit | configJob | updateEnd => exact .option .next fun _ => .next
  | windowCommandEnd | ssRemoteWake | ctrlJob | jobWrite | jobRead | verifyCompare | verifyCrc | completionWrite | completionRetry
  | bulkRead | bulkWrite | ringBusyTimeout => exact .option .next fun _ => .ite .next .next
  | give | powerOff | powerOn => exact .option .next fun _ => .ite .next (.ite .next .next)
  | enumJob | ringResponse => exact .option .next fun _ => .ite .next (.ite .next (.ite .next .next))
  | ringRetry | vendorRequestDone => exact .option .next fun _ => .ite .next (.ite .next (.ite .next (.ite .next .next)))
  | take => exact .option .next fun _ => .ite (.ite .next (.ite .next .next)) (.ite .next .next)
  | remoteWake => exact .option .next fun _ => .ite .next (.ite .next (.ite (.ite .next .next) .next))
  | ttStale | legAddress => exact .option .next fun _ => .next
  | descriptorFetch | captureSbu | jobEnd | tempSample => exact .ite .next (.option .next fun _ => .next)
  | evqPopTimeout => exact .ite .next (.option .next fun _ => .option .next fun _ => .next)
  | portAbort => exact .ite .next (.option (.option .next fun _ => .next) fun _ => .next)
  | jobStart => exact .ite .next (.option .next fun _ => .ite .next (.ite .next .next))
  | captureRecordClose => exact .ite .next (.option .next fun _ => .ite .next .next)
  | captureCdc => exact .ite .next (.option (.option .next fun _ => .ite .next .next) fun _ => .next)
  | ssClearChangeBit => exact .ite .next (.option .next fun _ => .next)
  | trainingEnd => exact .ite .next (.ite (.ite .next .next) (.ite .next (.ite .next .next)))
  | ep3Ack => exact .ite .next (.ite .next (.ite .next (.ite .next .next)))
  | notice => exact .ite .next (.ite .next (.ite .next (.ite .next .next)))
  | popComplete q =>
    change Answers _ (execPopComplete q s)
    unfold execPopComplete
    split <;> exact .next
  | legWriteByte b =>
    change Answers _ (execLegWriteByte b s)
    unfold execLegWriteByte
    split
    · exact .ite .next (.ite .next .next)
    · exact .next
  | legReadByte =>
    change Answers _ (execLegReadByte s)
    unfold execLegReadByte
    split
    · exact .ite .next .next
    · exact .next
  | jobTimeout p cap =>
    refine .ite .next ?_
    cases cap with
    | none => exact .option .next fun _ => .ite .next .next
    | some cdc => exact .option .next fun _ => .option .next fun _ => .ite .next .next
  | conRxByte p ch =>
    refine .ite .next ?_
    cases ch with
    | byte => exact .ite .next (.ite .next .next)
    | brk | brkEnd => exact .next
  | portResetEnd which => cases which with
    | view => exact .next
    | run => exact .ite .next .next
  | lpmAnswer p ans => cases ans <;> exact .option .next fun _ => .next
  | linkRecovery lk | u1Inactivity lk => cases lk <;> exact .ite .next .next
  | lgoUx lk => cases lk <;> exact .ite .next (.ite .next .next)
  | maxGenWrite who lk => cases lk <;> exact .next
  | ssResetEnd f out =>
    change Answers _ (execSsResetEnd f out s)
    unfold execSsResetEnd
    extract_lets
    split <;> exact .next
  | upstreamLinkTrained u res => cases res with
    | up => exact .ite .next (.ite .next .next)
    | fail => exact .ite .next (.ite .next (.ite .next .next))
  | powerCycle p =>
    refine .option .next fun _ => .ite .next ?_
    split <;> exact .next
  | packetForward mv =>
    change Answers _ (execPacketForward mv s)
    unfold execPacketForward
    extract_lets q
    split
    · exact .next
    · cases q with
      | portDown | rootDown => exact .ite .next .next
      | portUp => exact .option .next fun _ => .ite .next .next
      | rootUp => exact .ite .next (.ite .next .next)
  | ssHeader hd =>
    change Answers _ (execSsHeader hd s)
    unfold execSsHeader
    extract_lets p
    split <;> exact .ite .next .next
  | getDescriptor dev | setAddress dev | hubSetConfiguration dev | deviceRemoteWakeup dev => cases dev <;> exact .next
  | getHubStatus req =>
    change Answers _ (execGetHubStatus req s)
    unfold execGetHubStatus
    split <;> exact .next
  | statusChangePoll hub => cases hub <;> exact .next
  | highSpeedPacket pk =>
    change Answers _ (execHighSpeedPacket pk s)
    unfold execHighSpeedPacket
    split
    · exact .ite .next .next
    · exact .ite .next .next
    · exact .option .next fun _ => .ite .next .next
    · split <;> exact .next
  | laneUnlock lane | laneRelock lane => cases lane <;> exact .ite .next .next
  | bulkCommand at_ bytes =>
    have hform : (!bulkWhole bytes) = true → bulkBytes bytes = false := by simp [bulkBytes_eq_bulkWhole]
    refine .turnedAway hform ?_
    exact .ite .next (.ite .next (.ite .next (.ite .next (.ite .next .next))))
  | accessTimeout late place wr => cases late with
    | ring rq =>
      have hform : (!requestWhole rq || decide (rq.words.length ≤ place)) = true →
          lateWhole place (.ring rq) = false := by
        cases h : requestWhole rq <;> simp [lateWhole, h]
      exact .turnedAway hform (.ite .next .next)
    | single | vendorRead | vendorWrite => exact .next
  | _ => exact .next

/-- Settles O2: each clause reads off what a command may end in. -/
theorem wellFormedCommandsComplete : Obligations.WellFormedCommandsComplete := by
  unfold Obligations.WellFormedCommandsComplete
  refine ⟨fun c s hwf => ?next, fun c s r hr => ?refused, fun c s e he => ?fault⟩
  case next =>
    have h := exec_answers c s
    rw [hwf] at h
    cases h' : exec c s with
    | next t => exact ⟨t, rfl⟩
    | fault e => rw [h'] at h; cases h with | illFormed h => cases h
    | refused r => rw [h'] at h; cases h
  case refused =>
    have h := exec_answers c s
    rw [hr] at h
    cases h
  case fault =>
    have h := exec_answers c s
    rw [he] at h
    cases h with
    | illFormed hwf => exact ⟨rfl, hwf⟩

end Sys2Proof.Machine

namespace Sys2Proof.Machine

/-! PROOFS. Releasing a semaphore (O16): the statement holds of every state whose pending pair no run keeps from being set at a guarded
register, but it asks it of every state. -/

/-- Master A, in a running core, holds semaphore 3, and the pending pair of its identity lies at `GLB_SEM3_CLAIM` with the value whose complement
is 0. No write leaves such a pair, since that register is not guarded (R61). -/
def claimPairState : State :=
  (((((({ State.reset with coreHeld := false }).put .clk F.CLK_ROOT_STATUS_ROOT_LOCKED 1).put .clk F.CLK_RESET_STATUS_MGT_IN_RST 0).put .glb
    F.GLB_READY_CFG_LOADED 1).put .glb F.GLB_READY_MGT_READY 1).put .glb (F.GLB_SEMn_OWNER_HELD 3) 1).setPair ⟨0, 0⟩
      (some ⟨regAddr .glb 0x130, 0xFFFFFFFF⟩)

/-- A release writes 0 (R93), so here it completes the pair, and the write at the claim register frees nothing. -/
theorem claimPairState_release_held :
    (claimPairState.writeOne .a (regAddr .glb 0x134) 0xF 0).get .glb (F.GLB_SEMn_OWNER_HELD 3) = 1 := by decide +kernel

/-- Refutes O16: from `claimPairState`, where the holder's release reaches its register, the semaphore is still held after it. -/
theorem not_semaphoreReleasesAreTheHolders : ¬ Obligations.SemaphoreReleasesAreTheHolders := by
  unfold Obligations.SemaphoreReleasesAreTheHolders
  rintro ⟨hfrees, -⟩
  have hreach : claimPairState.reaches .a .glb (0x104 + 16 * (3 : Sem).val) = true := by decide +kernel
  have hholder : claimPairState.semHeldBy 3 (claimPairState.identOf .a) = true := by decide +kernel
  obtain ⟨t, hnext, hfree⟩ := hfrees .a 3 0xF claimPairState hreach (by decide) hholder
  cases hnext
  exact absurd (hfree.symm.trans claimPairState_release_held) (by decide)

end Sys2Proof.Machine

namespace Sys2Proof.Machine

/-! PROOFS. The management ports (O31): what a port holds after each of its operations, what a recorded error leaves, and a frame of one word
at this chip from its gate to its response (R80–R86, R107). -/

/-! ### A management port -/

section
variable (s : State) (m : Master)

@[simp] theorem State.mport_mportWith (f : MPort → MPort) : (s.mportWith m f).mport m = f (s.mport m) := by
  simp [State.mport, State.mportWith]

/-- Two changes of a port are one. -/
theorem State.mportWith_mportWith (f g : MPort → MPort) : (s.mportWith m f).mportWith m g = s.mportWith m (fun x => g (f x)) := by
  simp [State.mportWith]

@[simp] theorem State.reply_mport (a : Answer) : (s.reply a).mport m = s.mport m := rfl

@[simp] theorem State.drive_mport (r : FrameResp) : (s.drive m r).mport m = { s.mport m with out := r.nibbles } := by
  simp [State.drive]

/-- The response of an access is kept for `REPLAY`, and no remote access is left (R85). -/
theorem State.respond_stored (r : FrameResp) : ((s.respond m r).mport m).stored = some r := by
  unfold State.respond
  extract_lets gone s1
  split <;> simp [s1]

theorem State.respond_remote (r : FrameResp) : ((s.respond m r).mport m).remote = none := by
  unfold State.respond
  extract_lets gone s1
  split <;> simp [s1]

theorem State.respond_bad (r : FrameResp) : (s.respond m r).bad = s.bad := by
  unfold State.respond
  extract_lets gone s1
  split <;> rfl

theorem State.respond_rd (r : FrameResp) (a : Nat) : (s.respond m r).rd a = s.rd a := by
  simp only [State.rd, State.respond_regs]

/-- Where the frame still waits, the port drives the response (R83). -/
theorem State.respond_out (r : FrameResp) (h : (s.mport m).dropped = false) : ((s.respond m r).mport m).out = r.nibbles := by
  unfold State.respond
  rw [h]
  simp

end

/-! ### A recorded error (R107) -/

section
variable (s : State) (i : Ident)

/-- An error bit recorded reads 1. -/
theorem State.mgtErr_get (f : Nat → Fld) (hw : (f i.owner.val).width = 1) (hlo : (f i.owner.val).lo < 16) :
    (s.mgtErr i f).get .mgt (f i.owner.val) = 1 := by
  have hset := State.get_put_same s .mgt (f i.owner.val) 1 (by omega)
  rw [hw] at hset
  refine (State.get_put_bits _ _ _ _ _ (.inr ?_)).trans hset
  simp only [F.MGT_ERRn_ORIGIN]
  omega

/-- An error recorded changes fields of `MGT_ERRn` alone. -/
theorem State.mgtErr_get_ne (f : Nat → Fld) {pg : PageId} {g : Fld} (hf : (f i.owner.val).off = 0x80 + 4 * i.owner.val)
    (hg : g.off < 0x1000) (h : pg ≠ .mgt ∨ g.off < 0x80) : (s.mgtErr i f).get pg g = s.get pg g := by
  have horigin : (F.MGT_ERRn_ORIGIN i.owner.val).off = 0x80 + 4 * i.owner.val := rfl
  have hn := i.owner.isLt
  rcases h with h | h
  · exact (State.get_put_page _ _ _ _ h (by omega) hg).trans (State.get_put_page _ _ _ _ h (by omega) hg)
  · exact (State.get_put_fld _ _ _ _ _ _ (by omega) hg (.inl (by omega))).trans
      (State.get_put_fld _ _ _ _ _ _ (by omega) hg (.inl (by omega)))

/-- An error recorded does not unsettle the management domain. -/
theorem State.mgtErr_settled (f : Nat → Fld) (hf : (f i.owner.val).off = 0x80 + 4 * i.owner.val) :
    (s.mgtErr i f).mgtSettled = s.mgtSettled :=
  State.mgtSettled_congr (fun _ hg => s.mgtErr_get_ne i f hf hg (.inl (by decide))) rfl

end

/-- A local master's errors are recorded in the register of its owner ID. -/
theorem State.identOf_masterReq_owner (s : State) (m : Master) : (s.identOf (masterReq m)).owner = masterOwner m := by
  cases m <;> rfl

/-- A one-bit error recorded for an identity of a local master reads 1 in that master's register. -/
theorem State.masterErr_get (s : State) {i : Ident} {m : Master} (hi : i.owner = masterOwner m) (f : Nat → Fld)
    (hw : (f (masterOwner m).val).width = 1) (hlo : (f (masterOwner m).val).lo < 16) :
    (s.mgtErr i f).get .mgt (f (masterOwner m).val) = 1 := by
  have h := s.mgtErr_get i f
  rw [hi] at h
  exact h hw hlo

/-! ### The gate of a frame (R80, R82, R85) -/

section
variable {s : State} {m : Master} {ns : List Nibble} {act : State → State}

/-- A port as a frame begins: what it drove before has ended. -/
def State.portBegun (s : State) (m : Master) : State :=
  s.mportWith m (fun x => { x with out := [], high := false, taken := false, late := false })

/-- A response driven at once by the port of a frame that begins. -/
theorem State.portBegun_drive (s : State) (m : Master) (r : FrameResp) : (s.portBegun m).drive m r =
    (s.mportWith m (fun x => { x with out := r.nibbles, high := false, taken := false, late := false })).reply (.frame m r) :=
  congrArg (State.reply · (.frame m r)) (State.mportWith_mportWith ..)

/-- A frame whose CRC holds, at a port that waits for nothing, goes on to its opcode. -/
theorem State.frameGate_open (ht : s.mgtTakes = true) (hc : crcGood ns = true) (hb : s.busyWith (masterReq m) = false) :
    s.frameGate m ns false act = act (s.portBegun m) := by
  simp [State.frameGate, ht, hc, hb, State.portBegun]

/-- A frame that is ignored to its end does no more than begin (R82). -/
theorem State.frameGate_early : s.frameGate m ns true act = (s.portBegun m).reply .silent := by
  simp [State.frameGate, State.portBegun]

theorem State.frameGate_crc (ht : s.mgtTakes = true) (hc : crcGood ns = false) :
    s.frameGate m ns false act = (s.portBegun m).crcErr m := by
  simp [State.frameGate, ht, hc, State.portBegun]

theorem State.frameGate_busy (ht : s.mgtTakes = true) (hc : crcGood ns = true) (hb : s.busyWith (masterReq m) = true) :
    s.frameGate m ns false act = (s.portBegun m).drive m ⟨5, [], false⟩ := by
  simp [State.frameGate, ht, hc, hb, State.portBegun]

end

/-- A CRC that fails is answered with status 1 and recorded (R82, R107). -/
theorem State.crcErr_answered (s : State) (m : Master) : (s.crcErr m).answer = .frame m ⟨1, [], false⟩ ∧
    (s.crcErr m).get .mgt (F.MGT_ERRn_CRC (masterOwner m).val) = 1 := by
  unfold State.crcErr
  extract_lets f
  exact ⟨rfl, State.masterErr_get _ (s.identOf_masterReq_owner m) F.MGT_ERRn_CRC rfl (by simp [F.MGT_ERRn_CRC])⟩

/-- A frame error is answered with its status. -/
theorem State.frameErr_answer (s : State) (m : Master) (status : Nat) : (s.frameErr m status).answer = .frame m ⟨status, [], false⟩ := rfl

/-- An unknown opcode is recorded (R107). -/
theorem State.frameErr_two (s : State) (m : Master) : (s.frameErr m 2).get .mgt (F.MGT_ERRn_FRAME (masterOwner m).val) = 1 :=
  State.masterErr_get s (s.identOf_masterReq_owner m) F.MGT_ERRn_FRAME rfl (by simp [F.MGT_ERRn_FRAME])

/-- Words that would run past the page end the frame with status 3 (R84). -/
theorem State.frame_pastPage (s : State) (m : Master) (h : FrameHdr) (write : Bool) (ws : List FrameWord)
    (hp : 0x400 < h.waddr.toNat % 0x400 + (h.count.toNat + 1)) : s.frame m h write false ws = s.frameErr m 3 := by
  have hwords : 0x400 < h.waddr.toNat % 0x400 + hdrWords h := hp
  simp [State.frame, hwords]

/-! ### A frame of one word at this chip -/

theorem State.coreHeld_of_coreUp {s : State} (h : s.coreUp = true) : s.coreHeld = false := by
  simp only [State.coreUp, Bool.and_eq_true, Bool.not_eq_true'] at h
  exact h.1

/-- The run that a frame of one word begins. -/
def wordRun (m : Master) (write fixed : Bool) (addr : Nat) (w : FrameWord) : AccessRun :=
  ⟨masterReq m, .frame, write, fixed, addr, [w], [], none⟩

/-- A frame of one word that ends at this chip begins its run (R81). -/
theorem State.frame_one (s : State) (m : Master) (h : FrameHdr) (write fixed : Bool) (w : FrameWord) (hn : h.count = 0)
    (hl : h.isLocal = true) : (s.portBegun m).frame m h write fixed [w] =
      (s.frameBegun m).startRun (wordRun m write fixed (4 * h.waddr.toNat) w) false 0 := by
  have hone : hdrWords h = 1 := by simp [hdrWords, hn]
  have hfit : ¬ 0x400 < h.waddr.toNat % 0x400 + 1 := by omega
  simp [State.frame, hone, hfit, State.frameLocal, hl, wordRun, State.portBegun, State.frameBegun]

/-- The run of one word whose access is taken at once is over with it: its response is sent, and nothing follows it where the management
domain is settled and no notice has become pending. -/
theorem State.startRun_wordRun {s t : State} {m : Master} {write fixed : Bool} {addr : Nat} {w : FrameWord} {res : WordResult}
    (hl : s.loopErrors (wordRun m write fixed addr w) = s)
    (ha : s.access (masterReq m) addr (if write then some w else none) false false 0 = some (res, t)) (hc : t.coreHeld = false)
    (hset : t.mgtSettled = true) (hmgf : ∀ f : Fld, f.off < 0x1000 → t.get .mgf f = s.get .mgf f) :
    s.startRun (wordRun m write fixed addr w) false 0 = t.respond m ⟨0, [res], !write⟩ := by
  have hword : s.runWord (wordRun m write fixed addr w) w false false 0 = some (res, t) := by
    unfold State.runWord
    rw [hl]
    exact ha
  have hfollow : (t.respond m ⟨0, [res], !write⟩).mgtFollow = t.respond m ⟨0, [res], !write⟩ :=
    State.mgtFollow_settled _ ((State.mgtSettled_congr (fun f _ => State.respond_get ..) (State.respond_bad ..)).trans hset)
  have hwake : (t.respond m ⟨0, [res], !write⟩).noticeWake s = t.respond m ⟨0, [res], !write⟩ :=
    State.noticeWake_of_get_mgf (fun f hf => (State.respond_get ..).trans (hmgf f hf))
  have hfin : ∀ a : Nat, t.settleRun ⟨masterReq m, .frame, write, fixed, a, [], [res], none⟩ = t.respond m ⟨0, [res], !write⟩ := by
    intro a
    rw [← hfollow]
    simp only [State.settleRun, hc, Bool.false_eq_true, if_false]
    cases m <;> rfl
  have hrun := State.runOn_one hword
  unfold State.startRun State.popsWake
  dsimp only [wordRun] at hrun ⊢
  rw [hrun]
  dsimp only
  rw [List.nil_append, hfin, hwake]
  exact ite_self _

/-! ### `GLB_STRAPS`, a register that no write changes (R3, R50) -/

/-- A change of the mismatches of one register leaves those of another as they are. -/
theorem find_mismatch_map {addr a : Nat} (g : Mismatch → Mismatch) (hg : ∀ x, (g x).addr = x.addr) (h : a ≠ addr) (l : List Mismatch) :
    (l.map (fun x => if x.addr = addr then g x else x)).find? (fun x => x.addr == a) = l.find? (fun x => x.addr == a) := by
  induction l with
  | nil => rfl
  | cons x l ih =>
    by_cases hx : x.addr = addr
    · have hne : (addr == a) = false := by simpa using Ne.symm h
      simpa [hx, hne, hg] using ih
    · simp only [List.map_cons, hx, if_false, List.find?_cons, ih]

theorem find_mismatch_filter {addr a : Nat} (h : a ≠ addr) (l : List Mismatch) :
    (l.filter (fun x => x.addr != addr)).find? (fun x => x.addr == a) = l.find? (fun x => x.addr == a) := by
  have hkeep : ∀ x : Mismatch, (x.addr != addr && x.addr == a) = (x.addr == a) := fun x => by
    rw [Bool.eq_iff_iff]
    simp only [Bool.and_eq_true, bne_iff_ne, beq_iff_eq]
    omega
  rw [List.find?_filter]
  simp only [Bool.decide_and, Bool.decide_eq_true, hkeep]

/-- A check of one register finds no mismatch of another. -/
theorem State.findParity_mismatch (s : State) {addr a : Nat} (h : a ≠ addr) : (s.findParity addr).2.mismatch a = s.mismatch a := by
  unfold State.findParity
  split
  · extract_lets rp
    split
    · rfl
    next s1 s2 s3 s4 _ =>
    have h1 : s1.bad = s.bad := by unfold s1; split <;> rfl
    have h2 : s2.mismatch a = s.mismatch a := by
      simp only [s2, State.mismatch, h1]
      exact find_mismatch_map (fun x => { x with found := true, reported := true }) (fun _ => rfl) h _
    have h3 : s3.bad = s2.bad := by unfold s3; split <;> rfl
    have h4 : s4.bad = s3.bad := by unfold s4; split <;> rfl
    obtain ⟨fifos, hf⟩ := s4.handOff_parts (rp.base / 0x1000) (s4.mkRecord rp evParity (PageId.inst _) addr true .none)
    rw [hf]
    simp only [State.mismatch, h4, h3] at h2 ⊢
    exact h2
  · rfl

/-- Parity made right at one register leaves the mismatches of every other. -/
theorem State.mendParity_mismatch (s : State) {addr a : Nat} (be : BitVec 4) (h : a ≠ addr) :
    (s.mendParity addr be).2.mismatch a = s.mismatch a := by
  unfold State.mendParity
  split
  · rfl
  next b _ =>
  extract_lets left
  split
  · exact find_mismatch_filter h s.bad
  · exact find_mismatch_map (fun x => { x with lanes := left }) (fun _ => rfl) h s.bad

/-- Whether the management domain is settled lies in the clock and reset page and in the mismatches of `CLK_RESET` (R21, R24). -/
theorem State.mgtSettled_of_mismatch {s t : State} (hclk : ∀ f : Fld, f.off < 0x1000 → t.get .clk f = s.get .clk f)
    (hbad : t.mismatch (PageId.base .clk + 0x4C) = s.mismatch (PageId.base .clk + 0x4C)) : t.mgtSettled = s.mgtSettled := by
  have hheld : t.heldAt .clk F.CLK_RESET_MGT_RST.off = s.heldAt .clk F.CLK_RESET_MGT_RST.off := hbad
  simp only [State.mgtSettled, State.locked, State.cfgFlag, State.cfg, hheld, State.flag,
    hclk F.CLK_ROOT_STATUS_ROOT_LOCKED (by decide), hclk F.CLK_RESET_MGT_RST (by decide),
    hclk F.CLK_RESET_STATUS_MGT_IN_RST (by decide)]

/-- Every requester that is heard after the load reads the word that `GLB_STRAPS` holds. -/
theorem State.access_GLB_STRAPS_read (s : State) (who : Requester) (resumed parityErr : Bool) (errors : Nat) (hup : s.coreUp = true) :
    s.access who 0x60 none resumed parityErr errors = some (⟨0, s.rd 0x60⟩, (s.findParity 0x60).2) := by
  obtain ⟨hheld, hlock⟩ : s.coreHeld = false ∧ s.locked = true := by simpa [State.coreUp] using hup
  have hpage : s.accessPage 0x60 = some .glb := rfl
  have hstall : s.stalls who .glb 0x60 = false := by simp [State.stalls, beforeLoad, State.clockOn, hlock]
  have hblock : s.readBlock (s.identOf who) (s.barred who) .glb 0x60 = (s.rd 0x60, s) := rfl
  have hvisit : s.parityVisit .glb 0x60 = (s.findParity 0x60).2 := State.parityVisit_of_noSafeAction s (fun s0 s1 => ite_self _)
  have htaken : s.readTaken who .glb 0x60 resumed = some (s.rd 0x60, (s.findParity 0x60).2) := by
    simp [State.readTaken, hblock, hvisit]
  simp [State.access, hpage, State.accessBlock, hstall, State.clockOn, hlock, State.domainInRst, hheld, htaken]

/-- The state after a write of `GLB_STRAPS`: the word stands, and the parity of the lanes written is right. -/
def State.strapsWritten (s : State) : State := ((s.wr 0x60 (s.rd 0x60)).mendParity 0x60 0xF).2

/-- A register with read-only fields alone keeps its word under a write (R56). -/
theorem foldl_mergeField_of_ro (v m w : Word) (g : Bool) {fs : List FieldDesc} (h : ∀ f ∈ fs, f.ty = .ro) :
    fs.foldl (mergeField v m g) w = w := by
  induction fs generalizing w with
  | nil => rfl
  | cons f fs ih =>
    have hf : mergeField v m g w f = w := by simp [mergeField, h f List.mem_cons_self]
    rw [List.foldl_cons, hf]
    exact ih w (fun x hx => h x (List.mem_cons_of_mem f hx))

/-- `GLB_STRAPS` has read-only fields alone. -/
theorem regAt_GLB_STRAPS : ∃ r, PageId.glb.regAt 0x60 = some r ∧ ∀ f ∈ r.fields, f.ty = .ro ∧ f.live = .none :=
  ⟨_, rfl, by decide⟩

/-- So a write of `GLB_STRAPS` stores nothing and has no consequence (R56, R58). -/
theorem State.writeReg_GLB_STRAPS (s : State) (i : Ident) (v : Word) (parityErr : Bool) (errors : Nat) :
    s.writeReg i .glb 0x60 0xF v false parityErr errors = s.strapsWritten := by
  obtain ⟨r, hr, hfields⟩ := regAt_GLB_STRAPS
  have hword : ∀ m, r.fields.foldl (mergeField v m false) (s.rd 0x60) &&& ~~~ zeroBits .glb 0x60 = s.rd 0x60 := by
    intro m
    rw [foldl_mergeField_of_ro _ _ _ _ (fun f hf => (hfields f hf).1)]
    exact BitVec.and_allOnes
  have hrwg : r.fields.any (fun f => f.ty == .rwg) = false := by
    rw [List.any_eq_false]
    intro f hf
    simp [(hfields f hf).1]
  have hstore : (s.storeFields .glb 0x60 0xF v false).2 = s.strapsWritten := by
    have hown : ownStore .glb 0x60 = false := rfl
    have haddr : PageId.base .glb + 0x60 = 0x60 := rfl
    simp only [State.storeFields, hr, hown, hrwg, haddr, hword, State.strapsWritten, lanesOf, Bool.false_eq_true, if_false, if_true,
      Bool.false_and]
  have hrestarts : ∀ s0 s1 w, State.restarts s0 s1 .glb 0x60 w = false := by
    intro s0 s1 w
    simp only [State.restarts, hr, List.any_eq_false]
    intro f hf
    simp [(hfields f hf).2]
  have hafter : ∀ (u : State) be w e, State.afterWrite s u i .glb 0x60 be w e parityErr errors = u := by
    intro u be w e
    simp only [State.afterWrite, hrestarts]
    rfl
  unfold State.writeReg
  simp only [hr, hafter, hstore]
  simp

/-- A write of `GLB_STRAPS` by a local master that meets no pending pair is answered OK, whatever it brings. -/
theorem State.access_GLB_STRAPS_write (s : State) (m : Master) (v : Word) (resumed parityErr : Bool) (errors : Nat)
    (hup : s.coreUp = true) (hp : s.pair (s.identOf (masterReq m)) = none) :
    s.access (masterReq m) 0x60 (some ⟨0xF, v⟩) resumed parityErr errors = some (⟨0, 0⟩, s.strapsWritten) := by
  obtain ⟨hheld, hlock⟩ : s.coreHeld = false ∧ s.locked = true := by simpa [State.coreUp] using hup
  have hpage : s.accessPage 0x60 = some .glb := rfl
  have hstall : s.stalls (masterReq m) .glb 0x60 = false := by simp [State.stalls, beforeLoad, State.clockOn, hlock]
  have hdenied : s.denied (masterReq m) (some .glb) 0x60 = false := by cases m <;> rfl
  have hrwg : isRwg .glb 0x60 = false := rfl
  have hcomp : isComplement .glb 0x60 = false := rfl
  have htaken : s.writeTaken (s.identOf (masterReq m)) .glb 0x60 ⟨0xF, v⟩ parityErr errors = (0, s.strapsWritten) := by
    simp only [State.writeTaken, State.writeOwn, hp, hrwg, hcomp, State.writeReg_GLB_STRAPS, Bool.false_eq_true, if_false]
    rfl
  simp only [State.access, hpage, State.accessBlock, hdenied, hstall, State.clockOn, hlock, State.domainInRst, hheld, htaken,
    Bool.and_false, Bool.not_true, Bool.false_eq_true, if_false]

section
variable (s : State)

/-- What a check of `GLB_STRAPS` leaves of a port and of what stands beside it. -/
theorem State.strapsRead_keepsPages : s.KeepsPages [.clk, .mgt, .mgf] (s.findParity 0x60).2 :=
  State.findParity_keepsPages s (pg := .glb) rfl (by decide) (by decide) (by decide)

theorem State.strapsRead_settled : (s.findParity 0x60).2.mgtSettled = s.mgtSettled :=
  State.mgtSettled_of_mismatch (fun f hf => s.strapsRead_keepsPages.get .clk (by decide) f hf) (s.findParity_mismatch (by decide))

/-- The register file reads as before once `GLB_STRAPS` has been written. -/
theorem State.strapsWritten_rd (a : Nat) : s.strapsWritten.rd a = s.rd a := by
  rw [State.strapsWritten, State.mendParity_rd]
  by_cases h : a = 0x60
  · rw [h, State.rd_wr_same]
  · exact State.rd_wr_ne _ _ h

theorem State.strapsWritten_get (pg : PageId) (f : Fld) : s.strapsWritten.get pg f = s.get pg f := by
  simp only [State.get, State.strapsWritten_rd]

theorem State.strapsWritten_settled : s.strapsWritten.mgtSettled = s.mgtSettled :=
  State.mgtSettled_of_mismatch (fun f _ => s.strapsWritten_get .clk f) (State.mendParity_mismatch _ _ (by decide))

/-- A write of `GLB_STRAPS` changes the register file's parity alone. -/
theorem State.strapsWritten_parts : s.strapsWritten.coreHeld = s.coreHeld ∧ s.strapsWritten.mports = s.mports := by
  unfold State.strapsWritten State.mendParity
  split
  · exact ⟨rfl, rfl⟩
  · extract_lets left
    split <;> exact ⟨rfl, rfl⟩

end

/-! ### Frames of `GLB_STRAPS` -/

section
variable {s : State} {m : Master} {ns : List Nibble} {h : FrameHdr} {fixed : Bool}

theorem State.loopErrors_wordRun_glb (s : State) (m : Master) (write fixed : Bool) (w : FrameWord) :
    s.loopErrors (wordRun m write fixed 0x60 w) = s := by
  have hpage : s.accessPage (wordRun m write fixed 0x60 w).addr = some .glb := (rfl : s.accessPage 0x60 = some .glb)
  unfold State.loopErrors
  rw [hpage]
  rfl

theorem State.frameBegun_dropped (s : State) (m : Master) : ((s.frameBegun m).mport m).dropped = false := by
  simp [State.frameBegun]

/-- A frame that reads `GLB_STRAPS` is answered with its word, at the port and in the store (R84, R85). -/
theorem State.frameGate_reads_GLB_STRAPS (ht : s.mgtTakes = true) (hc : crcGood ns = true) (hb : s.busyWith (masterReq m) = false)
    (hup : s.coreUp = true) (hm : s.mgtSettled = true) (ha : h.waddr = 0x18) (hn : h.count = 0) (hl : h.isLocal = true) :
    let t := s.frameGate m ns false (fun s => s.frame m h false fixed (readWords h))
    t.answer = .frame m ⟨0, [⟨0, s.rd 0x60⟩], true⟩ ∧ (t.mport m).stored = some ⟨0, [⟨0, s.rd 0x60⟩], true⟩ ∧
      (t.mport m).out = FrameResp.nibbles ⟨0, [⟨0, s.rd 0x60⟩], true⟩ := by
  have hwords : readWords h = [⟨0xF, 0⟩] := by simp [readWords, hdrWords, hn]
  have haddr : 4 * h.waddr.toNat = 0x60 := by rw [ha]; rfl
  have hkeep := (s.frameBegun m).strapsRead_keepsPages
  have hrun := State.startRun_wordRun (fixed := fixed) (State.loopErrors_wordRun_glb (s.frameBegun m) m false fixed ⟨0xF, 0⟩)
    (State.access_GLB_STRAPS_read (s.frameBegun m) (masterReq m) false false 0 hup) (hkeep.coreHeld.trans (State.coreHeld_of_coreUp hup))
    ((State.strapsRead_settled _).trans hm) (fun f hf => hkeep.get .mgf (by decide) f hf)
  have hdrop : (((s.frameBegun m).findParity 0x60).2.mport m).dropped = false := by
    simpa only [State.mport, State.findParity_mports] using s.frameBegun_dropped m
  intro t
  simp only [t, State.frameGate_open ht hc hb, hwords, State.frame_one s m h false fixed _ hn hl, haddr, hrun]
  exact ⟨State.respond_answer _ hdrop, State.respond_stored .., State.respond_out _ _ _ hdrop⟩

/-- A frame that writes `GLB_STRAPS` is answered OK, and the register reads as before. -/
theorem State.frameGate_writes_GLB_STRAPS {v : Word} {ws : List FrameWord} (ht : s.mgtTakes = true) (hc : crcGood ns = true)
    (hb : s.busyWith (masterReq m) = false) (hup : s.coreUp = true) (hm : s.mgtSettled = true)
    (hp : s.pair (s.identOf (masterReq m)) = none) (ha : h.waddr = 0x18) (hn : h.count = 0) (hl : h.isLocal = true)
    (hws : ws = [⟨0xF, v⟩]) :
    let t := s.frameGate m ns false (fun s => s.frame m h true fixed ws)
    t.answer = .frame m ⟨0, [⟨0, 0⟩], false⟩ ∧ t.rd 0x60 = s.rd 0x60 := by
  have haddr : 4 * h.waddr.toNat = 0x60 := by rw [ha]; rfl
  obtain ⟨hcore, hmports⟩ := (s.frameBegun m).strapsWritten_parts
  have hpair : (s.frameBegun m).pair ((s.frameBegun m).identOf (masterReq m)) = none := by cases m <;> exact hp
  have hrun := State.startRun_wordRun (fixed := fixed) (State.loopErrors_wordRun_glb (s.frameBegun m) m true fixed ⟨0xF, v⟩)
    (State.access_GLB_STRAPS_write (s.frameBegun m) m v false false 0 hup hpair) (hcore.trans (State.coreHeld_of_coreUp hup))
    ((State.strapsWritten_settled _).trans hm) (fun f _ => State.strapsWritten_get _ .mgf f)
  have hdrop : ((s.frameBegun m).strapsWritten.mport m).dropped = false := by
    simpa only [State.mport, hmports] using s.frameBegun_dropped m
  intro t
  simp only [t, State.frameGate_open ht hc hb, hws, State.frame_one s m h true fixed _ hn hl, haddr, hrun]
  exact ⟨State.respond_answer _ hdrop, (State.respond_rd ..).trans (State.strapsWritten_rd _ _)⟩

end

/-! ### Requests that have not left (R106) -/

section
variable (s : State) (rq : RingReq)

@[simp] theorem State.unqueue_mport (m : Master) : (s.unqueue rq).mport m = s.mport m := rfl

@[simp] theorem State.unqueue_get (pg : PageId) (f : Fld) : (s.unqueue rq).get pg f = s.get pg f := rfl

/-- A request taken from the queues stands in neither. -/
theorem State.unqueue_tx (side : Side) :
    ((s.unqueue rq).ringSides[side]).tx = (s.ringSides[side]).tx.filter (fun fr => !isRequest rq fr) := by
  match side with
  | 0 => simp [State.unqueue, State.sideWith]
  | 1 => simp [State.unqueue, State.sideWith]

theorem State.unqueue_unsent : (s.unqueue rq).unsent rq = false := by
  have hside : ∀ side : Side, ((s.unqueue rq).ringSides[side]).tx.any (isRequest rq) = false := fun side => by
    rw [State.unqueue_tx]
    simp
  simp only [State.unsent, List.any_cons, List.any_nil, hside, Bool.or_self]

end

/-! ### The abort of a port (R77, R85, R106) -/

section
variable (s : State) (m : Master)

/-- The errors of an abort change registers alone. -/
theorem State.abortErrs_parts (late withdrawn : Bool) : (s.abortErrs m late withdrawn).mports = s.mports ∧
    (s.abortErrs m late withdrawn).ringSides = s.ringSides ∧ (s.abortErrs m late withdrawn).runs = s.runs := by
  cases late <;> cases withdrawn <;> exact ⟨rfl, rfl, rfl⟩

theorem State.abortErrs_late (withdrawn : Bool) :
    (s.abortErrs m true withdrawn).get .mgt (F.MGT_ERRn_ABORT_LATE (masterOwner m).val) = 1 :=
  State.masterErr_get _ (s.identOf_masterReq_owner m) F.MGT_ERRn_ABORT_LATE rfl (by simp [F.MGT_ERRn_ABORT_LATE])

theorem State.abortErrs_withdrawn : (s.abortErrs m false true).get .mgt (F.MGT_ERRn_ABORT (masterOwner m).val) = 1 :=
  State.masterErr_get _ (s.identOf_masterReq_owner m) F.MGT_ERRn_ABORT rfl (by simp [F.MGT_ERRn_ABORT])

theorem State.abortErrs_settled (late withdrawn : Bool) : (s.abortErrs m late withdrawn).mgtSettled = s.mgtSettled := by
  have habort := s.mgtErr_settled (s.identOf (masterReq m)) F.MGT_ERRn_ABORT rfl
  have hlate := fun t : State => t.mgtErr_settled (s.identOf (masterReq m)) F.MGT_ERRn_ABORT_LATE rfl
  cases late <;> cases withdrawn
  · rfl
  · exact habort
  · exact hlate s
  · exact (hlate _).trans habort

end

section
variable {s : State} {m : Master}

/-- A remote access given up: each of its words is withdrawn in the response kept for `REPLAY` (R85, R106). -/
theorem State.abortRemote_port (s : State) (m : Master) (w : RemoteWait) :
    ((s.abortRemote m w).mport m).stored = some ⟨0, w.req.words.map (fun _ => ⟨6, 0⟩), !w.req.write⟩ ∧
    ((s.abortRemote m w).mport m).remote =
      (if w.resends = 0 ∧ w.busy = false ∧ s.unsent w.req = true then none else some { w with aborted := true }) ∧
    (s.abortRemote m w).answer = .silent := by
  unfold State.abortRemote
  extract_lets resp unsent s1
  obtain ⟨hmports, -, -⟩ := (s1.unqueue w.req).abortErrs_parts m (!unsent) unsent
  have hport : (((s1.unqueue w.req).abortErrs m (!unsent) unsent).reply .silent).mport m = s1.mport m := by
    rw [State.reply_mport, State.mport, hmports]
    rfl
  rw [hport]
  refine ⟨congrArg MPort.stored (State.mport_mportWith ..), ?_, rfl⟩
  simp [s1, unsent, and_assoc]

/-- An abort of a request that is on its way is late (R106). -/
theorem State.abortRemote_sent {w : RemoteWait} (h : s.unsent w.req = false) :
    (s.abortRemote m w).get .mgt (F.MGT_ERRn_ABORT_LATE (masterOwner m).val) = 1 := by
  unfold State.abortRemote
  simp only [h, Bool.and_false, Bool.not_false, State.reply_get]
  exact State.abortErrs_late ..

/-- A request that has not left is withdrawn: it leaves no more (R106). -/
theorem State.abortRemote_unsent {w : RemoteWait} (hr : w.resends = 0) (hb : w.busy = false) (h : s.unsent w.req = true) :
    (s.abortRemote m w).get .mgt (F.MGT_ERRn_ABORT (masterOwner m).val) = 1 ∧ (s.abortRemote m w).unsent w.req = false := by
  unfold State.abortRemote
  simp only [h, hr, hb, Bool.not_false, Bool.not_true, decide_true, Bool.and_true, State.reply_get, if_true]
  refine ⟨State.abortErrs_withdrawn .., ?_⟩
  have hunsent := (s.mportWith m (fun x => { x with
    remote := none, stored := some ⟨0, w.req.words.map (fun _ => ⟨6, 0⟩), !w.req.write⟩, dropped := false })).unqueue_unsent w.req
  obtain ⟨-, hsides, -⟩ := ((s.mportWith m (fun x => { x with
    remote := none, stored := some ⟨0, w.req.words.map (fun _ => ⟨6, 0⟩), !w.req.write⟩, dropped := false })).unqueue
      w.req).abortErrs_parts m false true
  simpa only [State.unsent, State.reply_ringSides, hsides] using hunsent

/-- A local run given up where no pop of it has a record on its way: what is done stands, the rest is withdrawn (R85, R124). -/
theorem State.abortRun_of_noPop {r : AccessRun} (hpop : (List.finRange 4).all (fun q => !AccessRun.popsQueue q r) = true) :
    s.abortRun m r = (s.setRuns (s.runs.erase r)).abortWith m r r.done r.left := by
  have hnone : s.abortPop r = none := by
    have hfind : (List.finRange 4).find? (fun q => AccessRun.popsQueue q r) = none := by
      rw [List.find?_eq_none]
      intro q hq
      simpa using List.all_eq_true.1 hpop q hq
    rw [State.abortPop, hfind]
  rw [State.abortRun, hnone]

/-- What such an abort leaves, where the management domain is settled. -/
theorem State.abortWith_port (hm : s.mgtSettled = true) (r : AccessRun) (done : List WordResult) (left : List FrameWord) :
    ((s.abortWith m r done left).mport m).stored = some ⟨0, done ++ left.map (fun _ => ⟨6, 0⟩), !r.write⟩ ∧
    (s.abortWith m r done left).runs = s.runs ∧ (s.abortWith m r done left).answer = .silent := by
  unfold State.abortWith
  extract_lets resp s2
  obtain ⟨hmports, -, hruns⟩ := s2.abortErrs_parts m (!done.isEmpty) (!left.isEmpty)
  have hsettled : (s2.abortErrs m (!done.isEmpty) (!left.isEmpty)).mgtSettled = true := (State.abortErrs_settled ..).trans hm
  rw [State.mgtFollow_settled _ hsettled]
  refine ⟨?_, hruns, rfl⟩
  rw [State.reply_mport, State.mport, hmports]
  exact congrArg MPort.stored (State.mport_mportWith ..)

end

section
variable {s : State} {m : Master}

theorem execPortAbort_low (h : (s.mport m).high = false) : execPortAbort m s = .next s := by
  simp [execPortAbort, h]

theorem execPortAbort_run {r : AccessRun} (h : (s.mport m).high = true) (hr : s.runs.find? (fun r => r.who == masterReq m) = some r) :
    execPortAbort m s = .next (s.abortRun m r) := by
  simp [execPortAbort, h, hr]

theorem execPortAbort_remote {w : RemoteWait} (h : (s.mport m).high = true) (hr : s.runs.find? (fun r => r.who == masterReq m) = none)
    (hw : (s.mport m).remote = some w) (ha : w.aborted = false) : execPortAbort m s = .next (s.abortRemote m w) := by
  simp [execPortAbort, h, hr, hw, ha]

/-- A rise with no access pending ends what the port drove (R83, R86). -/
theorem execCsNRise_idle {moment : RiseMoment} (h : moment ≠ .accessPending) : execCsNRise m moment s =
    .next ((s.mportWith m (fun x => { x with out := [], high := true })).reply .silent) := by
  cases moment with
  | accessPending => exact absurd rfl h
  | _ => rfl

theorem execCsNRise_pending (hb : s.busyWith (masterReq m) = true) : execCsNRise m .accessPending s =
    .next ((s.mportWith m (fun x => { x with out := [], high := true, dropped := true })).reply .silent) := by
  simp [execCsNRise, hb, State.mportWith]

end

/-- Settles O31: each command is its frame's way through the gate, or what stands at the port as `Mx_CS_N` rises. -/
theorem managementFramesAreAnswered : Obligations.ManagementFramesAreAnswered := by
  unfold Obligations.ManagementFramesAreAnswered
  refine ⟨fun m ns s hw ht hc hb _ hup ha hn hl hm => ?readF, fun m ns s hw ht hc hb _ hup ha hn hl hm => ?readFixed,
    fun m hdr rest v s hw ht hc hb _ hup ha hn hl he hm hp => ?writeF,
    fun m hdr rest v s hw ht hc hb _ hup ha hn hl he hm hp => ?writeFixed, fun m ns s hw => ?early,
    fun m ns s hw ht hc hb hp => ?pastPage, fun m ns s hw ht hc => ?crc, fun m ns s hw ht hc hb => ?busy,
    fun m ns r s hw ht hc hb hr => ?replay, fun m ns s hw ht hc hb hr => ?replayNone, fun m ns s hw ht hc hb _ => ?opcode,
    fun m s hb => ?risePending, fun m moment s hne => ?rise, fun m s hlow => ?abortLow, fun m w s hh hu hr hw ha => ?abortSent,
    fun m w s hh hres hbusy hu hr hw ha => ?abortUnsent, fun m r s hh hpop hr hk hd hwr hm => ?abortRun⟩
  case readF => exact ⟨_, if_pos hw, State.frameGate_reads_GLB_STRAPS ht hc hb hup hm ha hn hl⟩
  case readFixed => exact ⟨_, if_pos hw, State.frameGate_reads_GLB_STRAPS ht hc hb hup hm ha hn hl⟩
  case writeF => exact ⟨_, if_pos hw, State.frameGate_writes_GLB_STRAPS ht hc hb hup hm hp ha hn hl he⟩
  case writeFixed => exact ⟨_, if_pos hw, State.frameGate_writes_GLB_STRAPS ht hc hb hup hm hp ha hn hl he⟩
  case early => exact ⟨_, if_pos hw, State.frameGate_early⟩
  case pastPage =>
    refine ⟨_, if_pos hw, ?_⟩
    rw [State.frameGate_open ht hc hb, State.frame_pastPage _ _ _ _ _ hp]
    exact State.frameErr_answer ..
  case crc =>
    refine ⟨_, if_pos hw, ?_⟩
    rw [State.frameGate_crc ht hc]
    exact State.crcErr_answered ..
  case busy =>
    refine ⟨_, if_pos hw, ?_⟩
    rw [State.frameGate_busy ht hc hb]
    exact ⟨rfl, s.portBegun_drive m _⟩
  case replay =>
    refine ⟨_, if_pos hw, ?_⟩
    have hstored : ((s.portBegun m).mport m).stored = some r := (congrArg MPort.stored (State.mport_mportWith ..)).trans hr
    rw [State.frameGate_open ht hc hb]
    simp only [hstored]
    exact s.portBegun_drive m r
  case replayNone =>
    refine ⟨_, if_pos hw, ?_⟩
    have hstored : ((s.portBegun m).mport m).stored = none := (congrArg MPort.stored (State.mport_mportWith ..)).trans hr
    rw [State.frameGate_open ht hc hb]
    simp only [hstored]
    exact State.frameErr_answer ..
  case opcode =>
    refine ⟨_, if_pos hw, ?_⟩
    rw [State.frameGate_open ht hc hb]
    exact ⟨State.frameErr_answer .., State.frameErr_two ..⟩
  case risePending => exact ⟨_, execCsNRise_pending hb, rfl⟩
  case rise => exact ⟨_, execCsNRise_idle hne, rfl, fun _ => by simp [State.readyBall]⟩
  case abortLow => exact ⟨s, execPortAbort_low hlow, rfl⟩
  case abortSent =>
    obtain ⟨hstored, hremote, hanswer⟩ := s.abortRemote_port m w
    rw [if_neg (by simp [hu])] at hremote
    exact ⟨_, execPortAbort_remote hh hr hw ha, hstored, hremote, State.abortRemote_sent hu, hanswer⟩
  case abortUnsent =>
    obtain ⟨hstored, hremote, hanswer⟩ := s.abortRemote_port m w
    rw [if_pos ⟨hres, hbusy, hu⟩] at hremote
    obtain ⟨herr, hgone⟩ := State.abortRemote_unsent (m := m) hres hbusy hu
    exact ⟨_, execPortAbort_remote hh hr hw ha, hstored, hremote, hgone, herr, hanswer⟩
  case abortRun =>
    obtain ⟨hstored, hruns, hanswer⟩ := State.abortWith_port (s := s.setRuns (s.runs.erase r)) (m := m) hm r r.done r.left
    rw [hd, hwr] at hstored
    refine ⟨_, execPortAbort_run hh hr, ?_⟩
    rw [State.abortRun_of_noPop hpop, hd]
    rw [hd] at hruns hanswer
    exact ⟨hanswer, hstored, hruns⟩

end Sys2Proof.Machine

namespace Sys2Proof.Machine

/-! PROOFS. The Ngupin ring (O32): what stands on a side of it, what a new set of routes leaves, the slots of remote identities, and a request
executed as ring ingress (R88, R94, R100–R106). -/

/-! ### One side of the ring -/

section
variable (s : State)

@[simp] theorem State.side_sideWith (side : Side) (f : RingSide → RingSide) :
    (s.sideWith side f).ringSides[side] = f (s.ringSides[side]) := by
  simp [State.sideWith]

theorem State.side_sideWith_ne {side other : Side} (f : RingSide → RingSide) (h : other ≠ side) :
    (s.sideWith side f).ringSides[other] = s.ringSides[other] := by
  have hne : side.val ≠ other.val := fun e => h (Fin.ext e.symm)
  simp [State.sideWith, hne]

/-- Two changes of a side are one. -/
theorem State.sideWith_sideWith (side : Side) (f g : RingSide → RingSide) :
    (s.sideWith side f).sideWith side g = s.sideWith side (fun x => g (f x)) := by
  simp [State.sideWith]

/-- A counter raised by one reads so, up to the largest value of its field (R56). -/
theorem State.get_count_same (pg : PageId) (f : Fld) (h : f.lo + f.width ≤ 32) :
    (s.count pg f).get pg f = min (s.get pg f + 1) (2 ^ f.width - 1) := by
  have hpos := Nat.two_pow_pos f.width
  exact (State.get_put_same _ _ _ _ h).trans (Nat.mod_eq_of_lt (by omega))

/-- An event raised changes registers and hand-off FIFOs alone. -/
theorem State.raise_parts (pg : PageId) (e : Ev) (src d : Nat) (b : Bool) : (s.raise pg e src d b).ringSides = s.ringSides ∧
    (s.raise pg e src d b).ringSlots = s.ringSlots := by
  have hand : ∀ (t : State) (page : Nat) (r : EventRecord), (t.handOff page r).ringSides = t.ringSides ∧
      (t.handOff page r).ringSlots = t.ringSlots := fun t page r => by
    obtain ⟨fifos, hf⟩ := t.handOff_parts page r
    rw [hf]
    exact ⟨rfl, rfl⟩
  unfold State.raise State.raiseWith
  split
  · exact hand _ _ _
  · extract_lets s1
    split
    · exact hand s1 _ _
    · exact ⟨rfl, rfl⟩

end

/-- What an exchange of rosters leaves as it is: the registers, the slots of remote identities, and of each side its neighbour and the chips
reached. -/
structure State.KeepsRing (s t : State) : Prop where
  regs : t.regs = s.regs
  slots : t.ringSlots = s.ringSlots
  neighbour : ∀ side : Side, (t.ringSides[side]).neighbour = (s.ringSides[side]).neighbour
  reach : ∀ side : Side, (t.ringSides[side]).reach = (s.ringSides[side]).reach

section
variable {s t u : State}

theorem State.KeepsRing.refl (s : State) : s.KeepsRing s := ⟨rfl, rfl, fun _ => rfl, fun _ => rfl⟩

theorem State.KeepsRing.trans (h : s.KeepsRing t) (h' : t.KeepsRing u) : s.KeepsRing u :=
  ⟨h'.regs.trans h.regs, h'.slots.trans h.slots, fun side => (h'.neighbour side).trans (h.neighbour side),
    fun side => (h'.reach side).trans (h.reach side)⟩

theorem State.KeepsRing.get (h : s.KeepsRing t) (pg : PageId) (f : Fld) : t.get pg f = s.get pg f := by
  simp only [State.get, State.rd, h.regs]

theorem State.KeepsRing.flag (h : s.KeepsRing t) (pg : PageId) (f : Fld) : t.flag pg f = s.flag pg f :=
  congrArg (· != 0) (h.get pg f)

/-- Frames queued for a link change nothing else. -/
theorem State.sideWith_tx_keepsRing (s : State) (side : Side) (tx : RingSide → List RingFrame) :
    s.KeepsRing (s.sideWith side (fun x => { x with tx := tx x })) := by
  refine ⟨rfl, rfl, fun other => ?_, fun other => ?_⟩ <;>
  · by_cases h : other = side
    · subst h
      rw [State.side_sideWith]
    · rw [State.side_sideWith_ne _ _ h]

end

/-! ### Rosters sent (R102) -/

section
variable (s : State) (side : Side) (ro : Roster)

/-- A roster queued for a link that is up is the last frame of its queue. -/
theorem State.queueRoster_up (h : s.flag .mgt (linkFld side) = true) : ∃ (tx : RingSide → List RingFrame) (fr : RingFrame),
    s.queueRoster side ro = s.sideWith side (fun x => { x with tx := tx x ++ [fr] }) ∧ fr.body = .roster ro := by
  unfold State.queueRoster State.queueOut
  rw [h, if_neg (by decide)]
  exact ⟨_, _, State.sideWith_sideWith .., rfl⟩

theorem State.queueRoster_down (h : s.flag .mgt (linkFld side) = false) : s.queueRoster side ro = s := by
  unfold State.queueRoster
  rw [h]
  rfl

theorem State.queueRoster_keepsRing : s.KeepsRing (s.queueRoster side ro) := by
  cases h : s.flag .mgt (linkFld side) with
  | false =>
    rw [s.queueRoster_down side ro h]
    exact .refl s
  | true =>
    obtain ⟨tx, fr, hq, -⟩ := s.queueRoster_up side ro h
    rw [hq]
    exact s.sideWith_tx_keepsRing side (fun x => tx x ++ [fr])

/-- The other side of a queue keeps its frames. -/
theorem State.queueRoster_tx_ne {other : Side} (h : other ≠ side) :
    ((s.queueRoster side ro).ringSides[other]).tx = (s.ringSides[other]).tx := by
  cases hf : s.flag .mgt (linkFld side) with
  | false => rw [s.queueRoster_down side ro hf]
  | true =>
    obtain ⟨tx, fr, hq, -⟩ := s.queueRoster_up side ro hf
    rw [hq, State.side_sideWith_ne _ _ h]

theorem State.queueRoster_any (h : s.flag .mgt (linkFld side) = true) :
    ((s.queueRoster side ro).ringSides[side]).tx.any (fun fr => fr.body == .roster ro) = true := by
  obtain ⟨tx, fr, hq, hbody⟩ := s.queueRoster_up side ro h
  rw [hq, State.side_sideWith]
  simp [hbody]

theorem State.sendRosters_keepsRing : s.KeepsRing s.sendRosters := by
  unfold State.sendRosters
  split
  · exact .refl s
  · exact (State.queueRoster_keepsRing _ _ _).trans (State.queueRoster_keepsRing _ _ _)

/-- A chip that originates frames queues its roster for each link that is up. -/
theorem State.sendRosters_tx (hd : s.dupId = false) (h : s.flag .mgt (linkFld side) = true) :
    (s.sendRosters.ringSides[side]).tx ≠ [] := by
  have hsend : s.sendRosters = (s.queueRoster 0 s.ownRoster).queueRoster 1 s.ownRoster := by simp [State.sendRosters, hd]
  have hany : (s.sendRosters.ringSides[side]).tx.any (fun fr => fr.body == .roster s.ownRoster) = true := by
    rw [hsend]
    match side with
    | 0 =>
      rw [State.queueRoster_tx_ne _ 1 _ (by decide)]
      exact s.queueRoster_any 0 _ h
    | 1 => exact State.queueRoster_any _ 1 _ (((s.queueRoster_keepsRing 0 _).flag ..).trans h)
  intro hnil
  rw [hnil] at hany
  cases hany

end

/-! ### Routes formed anew (R102) -/

/-- Routes are two bits wide. -/
theorem State.routeOf_lt (s : State) (c : Chip) : s.routeOf c < 4 := by
  unfold State.routeOf
  split
  · decide
  · split
    · decide
    · decide
    · decide
    · split <;> decide

/-- The routes follow from this chip's ID and the chips reached. -/
theorem State.routeOf_congr {s t : State} (hid : t.get .mgt F.MGT_CHIP_CHIP_ID = s.get .mgt F.MGT_CHIP_CHIP_ID)
    (hreach : ∀ side : Side, (t.ringSides[side]).reach = (s.ringSides[side]).reach) (c : Chip) : t.routeOf c = s.routeOf c := by
  have hown : t.ownChip = s.ownChip := by simp only [State.ownChip, hid]
  have hhops : ∀ side, t.hops side c = s.hops side c := fun side => by simp only [State.hops, hreach]
  unfold State.routeOf
  rw [hown, hhops, hhops]

/-- The route fields written one after another. -/
theorem State.foldl_put_route (r : Chip → Nat) (l : List Chip) (s : State) (c : Chip) :
    (l.foldl (fun a c => a.put .mgt ⟨0x68, 2 * c.val, 2⟩ (r c)) s).route c = if c ∈ l then r c % 4 else s.route c := by
  induction l generalizing s with
  | nil => simp
  | cons x l ih =>
    rw [List.foldl_cons, ih]
    by_cases hl : c ∈ l
    · simp [hl]
    · by_cases hx : c = x
      · subst hx
        simp only [hl, List.mem_cons, true_or, if_true, if_false]
        exact State.get_put_same _ _ _ _ (show 2 * c.val + 2 ≤ 32 by omega)
      · have hne : c.val ≠ x.val := fun e => hx (Fin.ext e)
        simp only [hl, hx, List.mem_cons, or_self, if_false]
        exact State.get_put_bits _ _ _ _ _ (show 2 * x.val + 2 ≤ 2 * c.val ∨ 2 * c.val + 2 ≤ 2 * x.val by omega)

section
variable (s : State)

/-- The routes of every chip written to `MGT_RING_ROUTE`. -/
def State.routesPut (s : State) : State := allChips.foldl (fun a c => a.put .mgt ⟨0x68, 2 * c.val, 2⟩ (s.routeOf c)) s

/-- What goes with the routes: `MEMBERS`, `CLOSED` and the attention bits of the chips that are left (R88, R102). -/
def State.membersPut (s : State) (members : Nat) (closed : Bool) : State :=
  ((s.put .mgt F.MGT_RING_STATUS_MEMBERS members).setFlag .mgt F.MGT_RING_STATUS_CLOSED closed).attnDrop members

/-- `reroute` writes both, and raises an event where the members change. -/
theorem State.reroute_cases : ∃ (members : Nat) (closed : Bool), s.reroute = s.routesPut.membersPut members closed ∨
    s.reroute = (s.routesPut.membersPut members closed).raise .mgt evRouteChange 0 members := by
  unfold State.reroute
  extract_lets old there members others closed s1 s2
  refine ⟨members, closed, ?_⟩
  split
  · exact .inl rfl
  · exact .inr rfl

/-- A field that `reroute` does not write. -/
def rerouteLeaves (pg : PageId) (g : Fld) : Bool :=
  g.off < 0x1000 && (pg != .mgt || (g.off != 0xC && g.off != 0x68 && g.off != 0x70 && (g.off != 0x64 || g.lo + g.width ≤ 2 ||
    (3 ≤ g.lo && g.lo + g.width ≤ 16))))

/-- Each write of `reroute` leaves such a field. -/
theorem State.put_rerouteLeaves {t : State} {pg : PageId} {f g : Fld} (v : Nat) (hg : rerouteLeaves pg g = true)
    (hf : f.off = 0x68 ∨ f.off = 0x70 ∨ f = F.MGT_RING_STATUS_MEMBERS ∨ f = F.MGT_RING_STATUS_CLOSED) :
    (t.put .mgt f v).get pg g = t.get pg g := by
  simp only [rerouteLeaves, Bool.and_eq_true, Bool.or_eq_true, bne_iff_ne, ne_eq, decide_eq_true_eq] at hg
  obtain ⟨hoff, hpg | hmgt⟩ := hg
  · refine State.get_put_page _ _ _ _ hpg ?_ hoff
    rcases hf with h | h | rfl | rfl
    · omega
    · omega
    · decide
    · decide
  · obtain ⟨⟨⟨-, h68⟩, h70⟩, h64⟩ := hmgt
    refine State.get_put_fld _ _ _ _ _ _ ?_ hoff ?_
    · rcases hf with h | h | rfl | rfl
      · omega
      · omega
      · decide
      · decide
    · rcases hf with h | h | rfl | rfl
      · exact .inl (by omega)
      · exact .inl (by omega)
      · simp only [F.MGT_RING_STATUS_MEMBERS]
        omega
      · simp only [F.MGT_RING_STATUS_CLOSED]
        omega

theorem State.routesPut_get {pg : PageId} {g : Fld} (hg : rerouteLeaves pg g = true) : s.routesPut.get pg g = s.get pg g := by
  unfold State.routesPut
  generalize s.routeOf = r
  induction allChips generalizing s with
  | nil => rfl
  | cons c l ih => exact (ih _).trans (State.put_rerouteLeaves _ hg (.inl rfl))

theorem State.membersPut_get (members : Nat) (closed : Bool) {pg : PageId} {g : Fld} (hg : rerouteLeaves pg g = true) :
    (s.membersPut members closed).get pg g = s.get pg g := by
  unfold State.membersPut State.attnDrop State.setFlag
  rw [State.put_rerouteLeaves _ hg (.inr (.inl rfl)), State.put_rerouteLeaves _ hg (.inr (.inl rfl)),
    State.put_rerouteLeaves _ hg (.inr (.inr (.inr rfl))), State.put_rerouteLeaves _ hg (.inr (.inr (.inl rfl)))]

theorem State.reroute_get {pg : PageId} {g : Fld} (hg : rerouteLeaves pg g = true) : s.reroute.get pg g = s.get pg g := by
  have hput : ∀ members closed, (s.routesPut.membersPut members closed).get pg g = s.get pg g := fun members closed =>
    (State.membersPut_get _ _ _ hg).trans (s.routesPut_get hg)
  obtain ⟨members, closed, h | h⟩ := s.reroute_cases
  · rw [h, hput]
  · have hraise : (pg ≠ .mgt ∨ g.off ≠ 0xC) ∧ g.off < 0x1000 := by
      simp only [rerouteLeaves, Bool.and_eq_true, Bool.or_eq_true, bne_iff_ne, ne_eq, decide_eq_true_eq] at hg
      tauto
    rw [h, State.get_raise _ _ _ _ _ _ _ _ hraise.1 hraise.2, hput]

theorem State.reroute_flag {pg : PageId} {g : Fld} (hg : rerouteLeaves pg g = true) : s.reroute.flag pg g = s.flag pg g :=
  congrArg (· != 0) (s.reroute_get hg)

theorem State.routesPut_parts : s.routesPut.ringSides = s.ringSides ∧ s.routesPut.ringSlots = s.ringSlots := by
  unfold State.routesPut
  generalize s.routeOf = r
  induction allChips generalizing s with
  | nil => exact ⟨rfl, rfl⟩
  | cons c l ih => exact ih _

theorem State.membersPut_parts (members : Nat) (closed : Bool) : (s.membersPut members closed).ringSides = s.ringSides ∧
    (s.membersPut members closed).ringSlots = s.ringSlots := ⟨rfl, rfl⟩

/-- `reroute` changes nothing of the ring but registers. -/
theorem State.reroute_parts : s.reroute.ringSides = s.ringSides ∧ s.reroute.ringSlots = s.ringSlots := by
  obtain ⟨members, closed, h⟩ := s.reroute_cases
  obtain ⟨hsides, hslots⟩ := s.routesPut.membersPut_parts members closed
  obtain ⟨hsides', hslots'⟩ := (s.routesPut.membersPut members closed).raise_parts .mgt evRouteChange 0 members true
  obtain ⟨hroutes, hrouteSlots⟩ := s.routesPut_parts
  rcases h with h | h <;> rw [h]
  · exact ⟨hsides.trans hroutes, hslots.trans hrouteSlots⟩
  · exact ⟨hsides'.trans (hsides.trans hroutes), hslots'.trans (hslots.trans hrouteSlots)⟩

theorem State.membersPut_route (members : Nat) (closed : Bool) (c : Chip) : (s.membersPut members closed).route c = s.route c := by
  have hoff : ∀ (t : State) (f : Fld) (v : Nat), f.off ≠ 0x68 → (t.put .mgt f v).route c = t.route c := fun t f v h =>
    State.get_put_off _ _ _ _ _ (Ne.symm h)
  unfold State.membersPut State.attnDrop State.setFlag
  rw [hoff _ _ _ (by decide), hoff _ _ _ (by decide), hoff _ _ _ (by decide), hoff _ _ _ (by decide)]

/-- After it, every chip's route is the one that the chips reached give. -/
theorem State.reroute_route (c : Chip) : s.reroute.route c = s.reroute.routeOf c := by
  have hof : s.reroute.routeOf c = s.routeOf c :=
    State.routeOf_congr (s.reroute_get (by decide)) (fun side => by rw [s.reroute_parts.1]) c
  have hput : ∀ members closed, (s.routesPut.membersPut members closed).route c = s.routeOf c := fun members closed => by
    rw [State.membersPut_route, State.routesPut, State.foldl_put_route, if_pos (show c ∈ allChips from List.mem_finRange c)]
    exact Nat.mod_eq_of_lt (s.routeOf_lt c)
  rw [hof]
  obtain ⟨members, closed, h | h⟩ := s.reroute_cases
  · rw [h, hput]
  · rw [h, ← hput members closed]
    exact State.get_raise _ _ _ _ _ _ _ _ (.inr (show 0x68 ≠ 0xC by decide)) (show 0x68 < 0x1000 by decide)

end

/-! ### Links (R100–R102) -/

theorem linkFld_eq (side : Side) : linkFld side = ⟨0x64, side.val, 1⟩ := match side with
  | 0 => rfl
  | 1 => rfl

theorem miswireFld_eq (side : Side) : miswireFld side = ⟨0x64, 4 + side.val, 1⟩ := match side with
  | 0 => rfl
  | 1 => rfl

theorem linkFld_off (side : Side) : (linkFld side).off = 0x64 := by rw [linkFld_eq]

theorem rerouteLeaves_linkFld (side : Side) : rerouteLeaves .mgt (linkFld side) = true := match side with
  | 0 => rfl
  | 1 => rfl

section
variable (s : State) (side : Side)

/-- `RING_UP` lies in GLB: it follows the links and leaves MGT as it is. -/
theorem State.ringSync_get {g : Fld} (hg : g.off < 0x1000) : s.ringSync.get .mgt g = s.get .mgt g :=
  State.get_put_page _ _ _ _ (by decide) (by decide) hg

theorem State.ringSync_up (h : s.flag .mgt (linkFld side) = true) : s.ringSync.get .glb F.GLB_READY_RING_UP = 1 := by
  have hany : (s.flag .mgt (linkFld 0) || s.flag .mgt (linkFld 1)) = true := match side with
    | 0 => by rw [h, Bool.true_or]
    | 1 => by rw [h, Bool.or_true]
  unfold State.ringSync
  rw [hany]
  exact State.get_put_same _ _ _ _ (by decide)

/-- An event raised in MGT leaves the fields of its other registers. -/
theorem State.raise_mgt_flag (e : Ev) (src d : Nat) (b : Bool) {g : Fld} (hc : g.off ≠ 0xC) (hg : g.off < 0x1000) :
    (s.raise .mgt e src d b).flag .mgt g = s.flag .mgt g := congrArg (· != 0) (State.get_raise _ _ _ _ _ _ _ _ (.inr hc) hg)

/-- A link that has come up, before the rosters tell of it. -/
def State.linkedUp (s : State) (side : Side) (nb : Chip) : State :=
  ((((s.sideWith side (fun x => { x with neighbour := some nb })).put .mgt (linkFld side) 1).put .mgt (miswireFld side) 0).ringSync).raise
    .mgt evLinkUp 0 (side.val + 16 * nb.val)

theorem execLinkUp_joins {nb : Neighbour} (hnb : nb.side ≠ side) (hon : s.ringOn = true) (hdown : s.flag .mgt (linkFld side) = false) :
    execLinkUp side nb s = .next (s.linkedUp side nb.chip).sendRosters := by
  simp [execLinkUp, State.linkedUp, hnb, hon, hdown]

/-- A link that joins two sides of one kind never comes up. -/
theorem execLinkUp_sameSide (nb : Chip) : execLinkUp side ⟨nb, side⟩ s = .next s := by simp [execLinkUp]

theorem State.linkedUp_flag (nb : Chip) {g : Fld} (hc : g.off ≠ 0xC) (hg : g.off < 0x1000) : (s.linkedUp side nb).flag .mgt g =
    ((s.put .mgt (linkFld side) 1).put .mgt (miswireFld side) 0).flag .mgt g :=
  (State.raise_mgt_flag _ _ _ _ _ hc hg).trans (congrArg (· != 0) (State.ringSync_get _ hg))

theorem State.linkedUp_link (nb : Chip) : (s.linkedUp side nb).flag .mgt (linkFld side) = true := by
  have hside := side.isLt
  have hput : ((s.put .mgt (linkFld side) 1).put .mgt (miswireFld side) 0).get .mgt (linkFld side) = 1 := by
    rw [State.get_put_bits _ _ _ _ _ (.inr (by simp only [linkFld_eq, miswireFld_eq]; omega)), linkFld_eq]
    exact State.get_put_same _ _ _ _ (show side.val + 1 ≤ 32 by omega)
  rw [State.linkedUp_flag _ _ _ (by rw [linkFld_off]; decide) (by rw [linkFld_off]; decide), State.flag, hput]
  rfl

theorem State.linkedUp_dupId (nb : Chip) : (s.linkedUp side nb).dupId = s.dupId := by
  have hside := side.isLt
  have hput : ((s.put .mgt (linkFld side) 1).put .mgt (miswireFld side) 0).get .mgt F.MGT_RING_STATUS_DUP_ID =
      s.get .mgt F.MGT_RING_STATUS_DUP_ID := by
    rw [State.get_put_bits _ _ _ _ _ (.inr (by simp only [miswireFld_eq, F.MGT_RING_STATUS_DUP_ID]; omega)),
      State.get_put_bits _ _ _ _ _ (.inl (by simp only [linkFld_eq, F.MGT_RING_STATUS_DUP_ID]; omega))]
  exact (State.linkedUp_flag _ _ _ (by decide) (by decide)).trans (congrArg (· != 0) hput)

theorem State.linkedUp_ringUp (nb : Chip) : (s.linkedUp side nb).get .glb F.GLB_READY_RING_UP = 1 := by
  refine (State.get_raise _ _ _ _ _ _ _ _ (.inl (by decide)) (by decide)).trans (State.ringSync_up _ side ?_)
  rw [← State.linkedUp_link s side nb, State.linkedUp_flag _ _ _ (by rw [linkFld_off]; decide) (by rw [linkFld_off]; decide)]
  rfl

theorem State.linkedUp_neighbour (nb : Chip) : ((s.linkedUp side nb).ringSides[side]).neighbour = some nb := by
  unfold State.linkedUp
  rw [(State.raise_parts _ _ _ _ _ _).1]
  exact congrArg RingSide.neighbour (s.side_sideWith side (fun x => { x with neighbour := some nb }))

theorem execMiswire_finds (hon : s.ringOn = true) (hdown : s.flag .mgt (linkFld side) = false)
    (hright : s.flag .mgt (miswireFld side) = false) :
    execMiswire side s = .next ((s.put .mgt (miswireFld side) 1).raise .mgt evMiswire 0 side.val) := by
  simp [execMiswire, hon, hdown, hright]

/-- A link that has gone down, before the routes follow. -/
def State.linkedDown (s : State) (side : Side) : State :=
  let nb := match (s.ringSides[side]).neighbour with
    | none => 0
    | some c => c.val
  ((((s.sideWith side (fun x => { x with reach := [], tx := [] })).put .mgt (linkFld side) 0).count
    .mgt F.MGT_RING_CNT_LINK_DOWN_CNT).ringSync).raise .mgt evLinkDown 0 (side.val + 16 * nb)

theorem execLinkDown_drops (hon : s.ringOn = true) (hup : s.flag .mgt (linkFld side) = true) :
    execLinkDown side s = .next (s.linkedDown side).reroute.sendRosters := by
  simp only [execLinkDown, hon, hup, Bool.not_true, Bool.or_self, Bool.false_eq_true, if_false]
  rfl

theorem State.linkedDown_get {g : Fld} (hc : g.off ≠ 0xC) (hg : g.off < 0x1000) : (s.linkedDown side).get .mgt g =
    ((s.put .mgt (linkFld side) 0).count .mgt F.MGT_RING_CNT_LINK_DOWN_CNT).get .mgt g :=
  (State.get_raise _ _ _ _ _ _ _ _ (.inr hc) hg).trans (State.ringSync_get _ hg)

theorem State.linkedDown_link : (s.linkedDown side).flag .mgt (linkFld side) = false := by
  have hside := side.isLt
  have hput : ((s.put .mgt (linkFld side) 0).count .mgt F.MGT_RING_CNT_LINK_DOWN_CNT).get .mgt (linkFld side) = 0 := by
    rw [State.count, State.countBy, State.get_put_off _ _ _ _ _ (by rw [linkFld_off]; decide), linkFld_eq]
    exact State.get_put_same _ _ _ _ (show side.val + 1 ≤ 32 by omega)
  rw [State.flag, State.linkedDown_get _ _ (by rw [linkFld_off]; decide) (by rw [linkFld_off]; decide), hput]
  rfl

theorem State.linkedDown_count : (s.linkedDown side).get .mgt F.MGT_RING_CNT_LINK_DOWN_CNT =
    min (s.get .mgt F.MGT_RING_CNT_LINK_DOWN_CNT + 1) (2 ^ F.MGT_RING_CNT_LINK_DOWN_CNT.width - 1) := by
  rw [State.linkedDown_get _ _ (by decide) (by decide), State.get_count_same _ _ _ (by decide),
    State.get_put_off _ _ _ _ _ (by rw [linkFld_off]; decide)]

theorem State.linkedDown_reach : ((s.linkedDown side).ringSides[side]).reach = [] := by
  unfold State.linkedDown
  rw [(State.raise_parts _ _ _ _ _ _).1]
  exact congrArg RingSide.reach (s.side_sideWith side (fun x => { x with reach := [], tx := [] }))

end

/-! ### Rosters taken (R102, R103) -/

section
variable (s : State) (side : Side) (ro : Roster)

/-- A roster taken: the chips that lie in the direction it has come from, as far as this chip itself. -/
def State.reachTaken (s : State) (side : Side) (ro : Roster) : State :=
  s.sideWith side (fun x => { x with reach := (rosterSeen ro side).takeWhile (fun h => h.chip != s.ownChip) })

/-- The state of a chip that finds its own ID elsewhere (R103). -/
def State.dupFound (s : State) (side : Side) (ro : Roster) : State :=
  ((s.reachTaken side ro).dropOwn.put .mgt F.MGT_RING_STATUS_DUP_ID 1).raise .mgt evDupChipId 0 s.ownChip.val

section
variable (hon : s.ringOn = true) (hup : s.flag .mgt (linkFld side) = true)
include hon hup

theorem execRoster_forwards (hd : s.dupId = true) : execRoster side ro s =
    .next ((s.reachTaken side ro).reroute.queueRoster (otherSide side) { ro with hops := ro.hops + 1 }) := by
  simp [execRoster, State.reachTaken, hon, hup, hd]

theorem execRoster_duplicate (hd : s.dupId = false) (helse : s.ownElsewhere side ro = true) :
    execRoster side ro s = .next (s.dupFound side ro).reroute := by
  simp [execRoster, State.reachTaken, State.dupFound, hon, hup, hd, helse]

/-- A roster that tells of no duplicate forms the routes anew, and may be followed by rosters of this chip. -/
theorem execRoster_reaches (hd : s.dupId = false) (helse : s.ownElsewhere side ro = false) :
    ∃ t, execRoster side ro s = .next t ∧ (s.reachTaken side ro).reroute.KeepsRing t := by
  simp only [execRoster, hon, hup, hd, helse, Bool.not_true, Bool.or_self, Bool.false_eq_true, if_false]
  refine ⟨_, rfl, ?_⟩
  split
  · exact .refl _
  · exact State.sendRosters_keepsRing _

end

theorem State.reachTaken_reroute_reach : ((s.reachTaken side ro).reroute.ringSides[side]).reach =
    (rosterSeen ro side).takeWhile (fun h => h.chip != s.ownChip) := by
  rw [(State.reroute_parts _).1]
  exact congrArg RingSide.reach (State.side_sideWith ..)

theorem State.dupFound_reroute_dupId : (s.dupFound side ro).reroute.dupId = true := by
  have hput : ((s.reachTaken side ro).dropOwn.put .mgt F.MGT_RING_STATUS_DUP_ID 1).get .mgt F.MGT_RING_STATUS_DUP_ID = 1 :=
    State.get_put_same _ _ _ _ (by decide)
  rw [State.dupId, State.reroute_flag _ (by decide), State.dupFound, State.raise_mgt_flag _ _ _ _ _ (by decide) (by decide), State.flag,
    hput]
  rfl

/-- Nothing that it would send of its own is left. -/
theorem State.dupFound_reroute_parts : ((s.dupFound side ro).reroute.ringSides[side]).tx = [] ∧
    (s.dupFound side ro).reroute.ringSlots = [] := by
  obtain ⟨hsides, hslots⟩ := (s.dupFound side ro).reroute_parts
  obtain ⟨hsides', hslots'⟩ := ((s.reachTaken side ro).dropOwn.put .mgt F.MGT_RING_STATUS_DUP_ID 1).raise_parts .mgt evDupChipId 0
    s.ownChip.val true
  rw [hsides, hslots, State.dupFound, hsides', hslots']
  exact ⟨by simp [State.dropOwn], rfl⟩

end

/-! ### Frames on their way (R102, R103) -/

section
variable {s : State} {c : Chip}

theorem State.sideTo_of_route_one (h : s.route c = 1) : s.sideTo c = some 0 := if_pos h

variable {fr : RingFrame} (hon : s.ringOn = true) (hdest : fr.dest ≠ s.ownChip)
include hon hdest

/-- A frame at its hop limit is discarded. -/
theorem execRingForward_discards (hlimit : fr.hopLimit.val ≤ 1) : execRingForward fr s = .next (s.reply .silent) := by
  simp [execRingForward, hon, hdest, hlimit]

/-- A frame with a route loses a hop and goes on. -/
theorem execRingForward_passes (hlimit : 2 ≤ fr.hopLimit.val) (hroute : s.route fr.dest = 1) :
    execRingForward fr s = .next (s.reply (.ringOut 0 { fr with hopLimit := fr.hopLimit - 1 })) := by
  have hlimit' : ¬ fr.hopLimit.val ≤ 1 := by omega
  simp [execRingForward, hon, hdest, hlimit', State.sideTo_of_route_one hroute]

end

/-! ### The slot of a remote identity (R104, R105) -/

section
variable {s : State} {m : Master} {c : Chip}

/-- A change of a slot that leaves whose it is. -/
theorem State.slot_slotWith {f : RingSlot → RingSlot} (hf : ∀ x, (f x).owner = x.owner ∧ (f x).origin = x.origin) :
    (s.slotWith m c f).slot m c = (s.slot m c).map f := by
  have hkeep : ∀ x : RingSlot, ((if x.owner = m ∧ x.origin = c then f x else x).owner = m ∧
      (if x.owner = m ∧ x.origin = c then f x else x).origin = c) = (x.owner = m ∧ x.origin = c) := fun x => by
    split
    · rw [(hf x).1, (hf x).2]
    · rfl
  unfold State.slot State.slotWith
  rw [List.find?_map]
  simp only [Function.comp_def, hkeep]
  cases hx : s.ringSlots.find? (fun x => x.owner = m ∧ x.origin = c) with
  | none => rfl
  | some x => exact congrArg some (if_pos (by simpa using List.find?_some hx))

/-- The response that is sent by a route. -/
theorem State.ringReply_of_route_one {seq : BitVec 8} {r : FrameResp} (h : s.route c = 1) : s.ringReply m c seq r =
    s.reply (.ringOut 0 ⟨c, s.ownChip, 15, .response m seq (BitVec.ofNat 8 r.status) r.words⟩) := by
  unfold State.ringReply
  rw [State.sideTo_of_route_one h]

/-- The slot that owes one response sends it. -/
theorem State.answerSlot_of_owed_one {x : RingSlot} {r : FrameResp} (hx : s.slot m c = some x) (hr : x.resp = some r)
    (howed : x.owed = 1) (hholds : x.holds = false) : s.answerSlot m c =
      (s.slotWith m c (fun y => { y with owed := y.owed - 1, holds := false })).ringReply m c x.seq r := by
  simp [State.answerSlot, hx, hr, howed, hholds]

end

section
variable {s : State} {rq : RingReq} (hw : requestWhole rq = true) (hd : s.dupId = false) (ht : s.mgtTakes = true) (hl : s.loaded = true)
include hw hd ht hl

theorem execRingRequest_first (hx : s.slot rq.owner rq.origin = none) :
    execRingRequest rq s = .next ((s.ringRun rq none).answerSlot rq.owner rq.origin) := by
  simp [execRingRequest, State.ringTake, hw, hd, ht, hl, hx]

variable {x : RingSlot} (hx : s.slot rq.owner rq.origin = some x)
include hx

/-- A request that repeats the last one is answered from the store. -/
theorem execRingRequest_repeats {r : FrameResp} (hseq : x.seq = rq.seq) (hr : x.resp = some r) :
    execRingRequest rq s = .next (s.ringReply rq.owner rq.origin rq.seq r) := by
  simp [execRingRequest, State.ringTake, hw, hd, ht, hl, hx, hseq, hr]

/-- A copy of the request in execution is owed an answer more. -/
theorem execRingRequest_copies (hseq : x.seq = rq.seq) (hr : x.resp = none) : execRingRequest rq s =
    .next ((s.slotWith rq.owner rq.origin (fun y => { y with owed := y.owed + 1 })).reply .waits) := by
  simp [execRingRequest, State.ringTake, hw, hd, ht, hl, hx, hseq, hr]

/-- Another request waits for the one in execution. -/
theorem execRingRequest_waits (hseq : x.seq ≠ rq.seq) (hr : x.resp = none) : execRingRequest rq s =
    .next ((s.slotWith rq.owner rq.origin (fun y => { y with waiting := y.waiting ++ [rq] })).reply .waits) := by
  simp [execRingRequest, State.ringTake, hw, hd, ht, hl, hx, hseq, hr]

end

/-! ### A request of `GLB_STRAPS` executed (R101, R104) -/

/-- A mismatch found changes nothing of the slots. -/
theorem State.findParity_ringSlots (s : State) (addr : Nat) : (s.findParity addr).2.ringSlots = s.ringSlots := by
  unfold State.findParity
  split
  · extract_lets rp
    split
    · rfl
    next s1 s2 s3 s4 _ =>
    have h1 : s1.ringSlots = s.ringSlots := by unfold s1; split <;> rfl
    have h3 : s3.ringSlots = s2.ringSlots := by unfold s3; split <;> rfl
    have h4 : s4.ringSlots = s3.ringSlots := by unfold s4; split <;> rfl
    obtain ⟨fifos, hf⟩ := s4.handOff_parts (rp.base / 0x1000) (s4.mkRecord rp evParity (PageId.inst _) addr true .none)
    rw [hf]
    exact h4.trans (h3.trans h1)
  · rfl

section
variable {s : State} {m : Master} {c : Chip}

/-- An identity without a slot gets one, marked pending (R105). -/
theorem State.slotPend_first (q : BitVec 8) (hx : s.slot m c = none) :
    s.slotPend m c q = { s with ringSlots := ⟨m, c, q, none, [], 0, false⟩ :: s.ringSlots } := by
  rw [State.slotPend, hx]

/-- What a read leaves in the slot of its request. -/
def slotAnswered (q : BitVec 8) (r : FrameResp) (x : RingSlot) : RingSlot :=
  if x.seq = q then { x with resp := some r, owed := x.owed + 1, holds := false } else x

theorem slotAnswered_keeps (q : BitVec 8) (r : FrameResp) (x : RingSlot) :
    (slotAnswered q r x).owner = x.owner ∧ (slotAnswered q r x).origin = x.origin := by
  unfold slotAnswered
  split <;> exact ⟨rfl, rfl⟩

/-- A request that reads one word whose access is taken at once is over with it: its response stands in the slot. -/
theorem State.startRun_ringRead {t : State} {q : BitVec 8} {fixed : Bool} {addr : Nat} {w : FrameWord} {res : WordResult}
    (hloop : s.loopErrors ⟨.ring m c, .ring q, false, fixed, addr, [w], [], none⟩ = s)
    (ha : s.access (.ring m c) addr none false false 0 = some (res, t)) (hc : t.coreHeld = false) (hset : t.mgtSettled = true)
    (hmgf : ∀ f : Fld, f.off < 0x1000 → t.get .mgf f = s.get .mgf f) :
    s.startRun ⟨.ring m c, .ring q, false, fixed, addr, [w], [], none⟩ false 0 =
      (t.slotWith m c (slotAnswered q ⟨0, [res], true⟩)).reply .silent := by
  have hword : s.runWord ⟨.ring m c, .ring q, false, fixed, addr, [w], [], none⟩ w false false 0 = some (res, t) := by
    unfold State.runWord
    rw [hloop]
    exact ha
  have hfollow : ((t.slotWith m c (slotAnswered q ⟨0, [res], true⟩)).reply .silent).mgtFollow =
      (t.slotWith m c (slotAnswered q ⟨0, [res], true⟩)).reply .silent := State.mgtFollow_settled _ hset
  have hfin : ∀ a : Nat, t.settleRun ⟨.ring m c, .ring q, false, fixed, a, [], [res], none⟩ =
      (t.slotWith m c (slotAnswered q ⟨0, [res], true⟩)).reply .silent := by
    intro a
    rw [← hfollow]
    simp only [State.settleRun, hc, Bool.false_eq_true, if_false]
    rfl
  have hrun := State.runOn_one hword
  unfold State.startRun State.popsWake
  dsimp only at hrun ⊢
  rw [hrun]
  dsimp only
  rw [List.nil_append, hfin]
  exact State.noticeWake_of_get_mgf hmgf

end

section
variable {s : State} {rq : RingReq} {w : FrameWord}

/-- The slot of an identity's first request as it executes. -/
def State.firstPend (s : State) (rq : RingReq) : State :=
  { s with ringSlots := ⟨rq.owner, rq.origin, rq.seq, none, [], 0, false⟩ :: s.ringSlots }

/-- The first request of an identity, which reads `GLB_STRAPS`, is over at once. -/
theorem State.ringRun_reads_GLB_STRAPS (hup : s.coreUp = true) (hm : s.mgtSettled = true) (hx : s.slot rq.owner rq.origin = none)
    (hr : rq.write = false) (ha : rq.waddr = 0x18) (hws : rq.words = [w]) : s.ringRun rq none =
      (((s.firstPend rq).findParity 0x60).2.slotWith rq.owner rq.origin (slotAnswered rq.seq ⟨0, [⟨0, s.rd 0x60⟩], true⟩)).reply .silent := by
  have haddr : 4 * rq.waddr.toNat = 0x60 := by rw [ha]; rfl
  have hkeep := (s.firstPend rq).strapsRead_keepsPages
  unfold State.ringRun
  rw [State.slotPend_first _ hx, hr, hws, haddr]
  refine State.startRun_ringRead (s := s.firstPend rq) ?_ (State.access_GLB_STRAPS_read _ _ _ _ _ hup) ?_ ?_
    (fun f hf => hkeep.get .mgf (by decide) f hf)
  · have hpage : (s.firstPend rq).accessPage 0x60 = some .glb := rfl
    unfold State.loopErrors
    dsimp only
    rw [hpage]
  · exact hkeep.coreHeld.trans (State.coreHeld_of_coreUp hup)
  · exact (State.strapsRead_settled _).trans hm

/-- Its response is sent to the origin and stands in the slot (R104, R105). -/
theorem State.ringRun_answers_GLB_STRAPS (hup : s.coreUp = true) (hm : s.mgtSettled = true) (hx : s.slot rq.owner rq.origin = none)
    (hr : rq.write = false) (ha : rq.waddr = 0x18) (hws : rq.words = [w]) (hroute : s.route rq.origin = 1) :
    let t := (s.ringRun rq none).answerSlot rq.owner rq.origin
    t.answer = .ringOut 0 ⟨rq.origin, s.ownChip, 15, .response rq.owner rq.seq 0 [⟨0, s.rd 0x60⟩]⟩ ∧
      (t.slot rq.owner rq.origin).map (·.resp) = some (some ⟨0, [⟨0, s.rd 0x60⟩], true⟩) := by
  have hkeep := (s.firstPend rq).strapsRead_keepsPages
  have hslot : (s.ringRun rq none).slot rq.owner rq.origin =
      some ⟨rq.owner, rq.origin, rq.seq, some ⟨0, [⟨0, s.rd 0x60⟩], true⟩, [], 1, false⟩ := by
    have hpend : ((s.firstPend rq).findParity 0x60).2.slot rq.owner rq.origin = some ⟨rq.owner, rq.origin, rq.seq, none, [], 0, false⟩ := by
      simp [State.slot, State.findParity_ringSlots, State.firstPend]
    rw [State.ringRun_reads_GLB_STRAPS hup hm hx hr ha hws]
    refine (State.slot_slotWith (slotAnswered_keeps _ _)).trans ?_
    rw [hpend]
    simp [slotAnswered]
  have hget : ∀ f : Fld, f.off < 0x1000 → (s.ringRun rq none).get .mgt f = s.get .mgt f := fun f hf => by
    rw [State.ringRun_reads_GLB_STRAPS hup hm hx hr ha hws]
    exact hkeep.get .mgt (by decide) f hf
  have hown : (s.ringRun rq none).ownChip = s.ownChip := by simp only [State.ownChip, hget F.MGT_CHIP_CHIP_ID (by decide)]
  intro t
  have hanswer : t = ((s.ringRun rq none).slotWith rq.owner rq.origin (fun y => { y with owed := y.owed - 1, holds := false })).reply
      (.ringOut 0 ⟨rq.origin, (s.ringRun rq none).ownChip, 15, .response rq.owner rq.seq 0 [⟨0, s.rd 0x60⟩]⟩) :=
    (State.answerSlot_of_owed_one hslot rfl rfl rfl).trans
      (State.ringReply_of_route_one ((hget ⟨0x68, 2 * rq.origin.val, 2⟩ (show 0x68 < 0x1000 by decide)).trans hroute))
  rw [hanswer, hown]
  refine ⟨rfl, ?_⟩
  have hkept := State.slot_slotWith (s := s.ringRun rq none) (m := rq.owner) (c := rq.origin)
    (f := fun y => { y with owed := y.owed - 1, holds := false }) (fun _ => ⟨rfl, rfl⟩)
  rw [hslot] at hkept
  exact congrArg (Option.map (·.resp)) hkept

end
/-! ### The wait of a master and its ends (R101, R104, R106) -/

section
variable {s : State} {m : Master} {w : RemoteWait} (hw : (s.mport m).remote = some w) (ha : w.aborted = false)

section
variable (ht : s.mgtTakes = true)
include hw ha ht

theorem execRingResponse_takes (hd : s.dupId = false) (st : Byte) (ws : List WordResult) :
    execRingResponse m w.req.seq false st ws s = .next ((s.unqueue w.req).respond m ⟨st.toNat, ws, !w.req.write⟩) := by
  simp [execRingResponse, hw, ht, hd, ha]

theorem execRingRetry_resends (hd : s.dupId = false) (hb : w.busySeen = false) (hr : w.resends < s.ringRetries) : execRingRetry m s =
    .next ((s.count .mgt F.MGT_RING_CNT_RETRY_CNT).resend m { w with resends := w.resends + 1, busy := false }) := by
  simp [execRingRetry, hw, ht, hd, ha, hb, hr]

/-- With its own ID elsewhere, too, a chip gives the access up (R103). -/
theorem execRingRetry_givesUp (hb : w.busySeen = false) (hr : s.ringRetries ≤ w.resends) :
    execRingRetry m s = .next (s.ringGivesUp m w) := by
  have hnot : ¬ w.resends < s.ringRetries := by omega
  simp [execRingRetry, hw, ht, ha, hb, hnot]

theorem execRingBusyTimeout_ends (hb : w.busy = true) : execRingBusyTimeout m s =
    .next (if (s.mport m).dropped then ((s.unqueue w.req).mportWith m (fun x => { x with remote := none, dropped := false })).reply .silent
      else ((s.unqueue w.req).mportWith m (fun x => { x with remote := none, dropped := false })).drive m ⟨5, [], false⟩) := by
  simp [execRingBusyTimeout, hw, ht, ha, hb]

end

/-- The access that is told of no response has ended, with status 7 (R104, R107). -/
theorem State.ringGivesUp_port (s : State) (m : Master) (w : RemoteWait) : ((s.ringGivesUp m w).mport m).remote = none ∧
    ((s.ringGivesUp m w).mport m).stored = some ⟨7, [], false⟩ ∧ (s.ringGivesUp m w).get .mgt (F.MGT_ERRn_RING (masterOwner m).val) = 1 := by
  refine ⟨State.respond_remote .., State.respond_stored .., (State.respond_get ..).trans ?_⟩
  exact State.masterErr_get _ (s.identOf_masterReq_owner m) F.MGT_ERRn_RING rfl (by simp [F.MGT_ERRn_RING])

end

section
variable (s : State)

/-- A frame sent changes the queues of the links alone. -/
theorem State.ringSend_mport (c : Chip) (body : RingBody) (m : Master) : (s.ringSend c body).mport m = s.mport m := by
  unfold State.ringSend
  split <;> rfl

theorem State.ringSend_get (c : Chip) (body : RingBody) (pg : PageId) (f : Fld) : (s.ringSend c body).get pg f = s.get pg f := by
  unfold State.ringSend
  split <;> rfl

/-- A request sent by a route waits for its link. -/
theorem State.ringSend_unsent (c : Chip) (rq : RingReq) (h : s.sideTo c ≠ none) : (s.ringSend c (.request rq)).unsent rq = true := by
  obtain ⟨side, hside⟩ := Option.ne_none_iff_exists'.1 h
  have hqueued : ((s.ringSend c (.request rq)).ringSides[side]).tx.any (isRequest rq) = true := by
    rw [State.ringSend, hside]
    dsimp only
    rw [State.queueOut, State.side_sideWith]
    simp [isRequest]
  have hmem : side ∈ ([0, 1] : List Side) := match side with
    | 0 => by decide
    | 1 => by decide
  exact List.any_eq_true.2 ⟨side, hmem, hqueued⟩

variable (m : Master) (w : RemoteWait)

theorem State.resend_remote : ((s.resend m w).mport m).remote = some w := by
  rw [State.resend, State.ringSend_mport, State.mport_mportWith]

theorem State.resend_get (pg : PageId) (f : Fld) : (s.resend m w).get pg f = s.get pg f := by
  rw [State.resend, State.ringSend_get]
  rfl

theorem State.resend_unsent (h : s.sideTo w.chip ≠ none) : (s.resend m w).unsent w.req = true :=
  State.ringSend_unsent _ _ _ h

/-- A resend is counted without a change of the routes. -/
theorem State.count_retry_sideTo (c : Chip) : (s.count .mgt F.MGT_RING_CNT_RETRY_CNT).sideTo c = s.sideTo c := by
  have hroute : (s.count .mgt F.MGT_RING_CNT_RETRY_CNT).route c = s.route c :=
    State.get_put_off _ _ _ _ _ (show 0x68 ≠ 0x6C by decide)
  unfold State.sideTo
  rw [hroute]

end

/-! ### Attention (R88) -/

/-- A bit of a field, set as a field of its own. -/
theorem fldGet_fldSet_fldBit (f : Fld) (w : Word) (k : Nat) (b : Bool) (hk : k < f.width) (hf : f.lo + f.width ≤ 32) :
    (fldGet f (fldSet (fldBit f k) w (bit b))).testBit k = b := by
  rw [fldGet_testBit, fldSet_bit _ _ _ _ (by omega), if_pos (by simp only [fldBit]; omega)]
  cases b <;> simp [fldBit, bit, hk]

theorem State.setAttn_get (s : State) (c : Chip) (set : Bool) :
    ((s.setAttn c true set).get .mgt F.MGT_RING_ATTN_ATTN_B).testBit c.val = set := by
  have hput : (s.setAttn c true set).rd (PageId.base .mgt + F.MGT_RING_ATTN_ATTN_B.off) =
      fldSet (fldBit F.MGT_RING_ATTN_ATTN_B c.val) (s.rd (PageId.base .mgt + F.MGT_RING_ATTN_ATTN_B.off)) (bit set) := State.rd_wr_same _ _ _
  rw [State.get, hput]
  exact fldGet_fldSet_fldBit _ _ _ _ c.isLt (by decide)

theorem execAttentionNotice_tells {s : State} (c : Chip) (qb set : Bool) (hon : s.ringOn = true) (hd : s.dupId = false) :
    execAttentionNotice c qb set s = .next (s.setAttn c qb set) := by
  simp [execAttentionNotice, hon, hd]

/-! ### Semaphores of a chip that is gone (R94) -/

section
variable (s : State)

/-- A semaphore freed reads free. -/
theorem State.semFreeBy_held (n : Sem) (e : Ev) : (s.semFreeBy n e).get .glb (F.GLB_SEMn_OWNER_HELD n.val) = 0 := by
  have hoff : (F.GLB_SEMn_OWNER_HELD n.val).off < 0x1000 := by simp only [F.GLB_SEMn_OWNER_HELD]; omega
  refine (State.get_raise _ _ _ _ _ _ _ _ (.inl (by decide)) hoff).trans ?_
  have haddr : PageId.base .glb + (F.GLB_SEMn_OWNER_HELD n.val).off = PageId.base .glb + 0x108 + 16 * n.val := (Nat.add_assoc ..).symm
  rw [State.get, haddr, State.semFree, State.rd_wr_same]
  simp [fldGet]

/-- Another semaphore's owner stays. -/
theorem State.semFreeBy_get_ne {n k : Sem} (e : Ev) (h : k ≠ n) {f : Fld} (hf : f.off = 0x108 + 16 * k.val) :
    (s.semFreeBy n e).get .glb f = s.get .glb f := by
  have hne : k.val ≠ n.val := fun he => h (Fin.ext he)
  refine (State.get_raise _ _ _ _ _ _ _ _ (.inl (by decide)) (by omega)).trans ?_
  simp only [State.get, State.semFree]
  rw [State.rd_wr_ne _ _ (by omega)]

/-- The test of a semaphore that a chip holds (R94). -/
def heldFrom (c : Chip) (s : State) (n : Sem) : Bool :=
  s.flag .glb (F.GLB_SEMn_OWNER_HELD n.val) && s.get .glb (F.GLB_SEMn_OWNER_ORIGIN n.val) == c.val

/-- After every semaphore of a list has been tested, one of them that no longer passes, or that the chip held, is free. -/
theorem State.foldl_semFreeBy_held (c : Chip) (k : Sem) (l : List Sem) (s : State)
    (h : s.get .glb (F.GLB_SEMn_OWNER_HELD k.val) = 0 ∨ k ∈ l ∧ heldFrom c s k = true) :
    (l.foldl (fun s n => if heldFrom c s n then s.semFreeBy n evSemOrphaned else s) s).get .glb (F.GLB_SEMn_OWNER_HELD k.val) = 0 := by
  induction l generalizing s with
  | nil => exact h.resolve_right (fun hk => absurd hk.1 List.not_mem_nil)
  | cons n l ih =>
    rw [List.foldl_cons]
    apply ih
    by_cases hn : k = n
    · subst hn
      left
      rcases h with h | ⟨-, h⟩
      · split
        · exact s.semFreeBy_held k _
        · exact h
      · rw [if_pos h]
        exact s.semFreeBy_held k _
    · have hsame : ∀ f : Fld, f.off = 0x108 + 16 * k.val →
          (if heldFrom c s n then s.semFreeBy n evSemOrphaned else s).get .glb f = s.get .glb f := fun f hf => by
        split
        · exact s.semFreeBy_get_ne _ hn hf
        · rfl
      refine h.imp (fun h => (hsame _ rfl).trans h) (fun ⟨hmem, h⟩ => ⟨(List.mem_cons.1 hmem).resolve_left hn, ?_⟩)
      rw [heldFrom, State.flag, hsame _ rfl, hsame _ rfl]
      exact h

theorem execSemOrphanEnd_frees {s : State} {c : Chip} (hup : s.coreUp = true) (hcfg : s.cfg .mgt F.MGT_RING_CFG_SEM_ORPHAN ≠ 0)
    (hc : c ≠ s.ownChip) (hroute : s.route c = 0) : execSemOrphanEnd c s = .next (s.semOrphan (heldFrom c)) := by
  simp [execSemOrphanEnd, hup, hcfg, hc, hroute]
  rfl

end

/-- Settles O32: each command by what it leaves of the links, the routes, the slots and the waiting port. -/
theorem ringCarriesFrames : Obligations.RingCarriesFrames := by
  unfold Obligations.RingCarriesFrames
  refine ⟨fun side nb s hnb hon hdown => ?linkUp, fun side nb s => ?linkSameSide, fun side s hon hdown hright => ?miswire,
    fun side s hon hup => ?linkDown, fun side ro s hon hup hd helse => ?roster, fun side ro s hon hup hd helse => ?duplicate,
    fun side ro s hon hup hfar hd => ?rosterPassed, fun fr s hon hdest hlimit => ?discard, fun fr s hon hdest hlimit hroute => ?pass,
    fun rq x r s hw hd ht hl hx hseq hr hroute => ?repeated, fun rq s hd ht hl hup _ hx hr ha hn hm hroute => ?first,
    fun rq x s hw hd ht hl hx hseq hr => ?copy, fun rq x s hw hd ht hl hx hseq hr => ?waits,
    fun m w st ws s ht hd hw ha hdrop => ?response, fun m w s ht hd hw ha hb hr => ?resend, fun m w s ht hw ha hb hr => ?givesUp,
    fun m w s ht hw ha hb => ?busyTimeout, fun c set s hon hd => ?attention, fun c n s hup hcfg hc hroute hheld horigin => ?semOrphan⟩
  case linkUp =>
    have hkeep := (s.linkedUp side nb.chip).sendRosters_keepsRing
    have hlink := s.linkedUp_link side nb.chip
    exact ⟨_, execLinkUp_joins s side hnb hon hdown, (hkeep.flag ..).trans hlink, (hkeep.get ..).trans (s.linkedUp_ringUp side nb.chip),
      (hkeep.neighbour side).trans (s.linkedUp_neighbour side nb.chip),
      fun hd => State.sendRosters_tx _ side ((s.linkedUp_dupId side nb.chip).trans hd) hlink⟩
  case linkSameSide => exact ⟨s, execLinkUp_sameSide s side nb, rfl⟩
  case miswire =>
    refine ⟨_, execMiswire_finds s side hon hdown hright, ?_⟩
    have hlo : (miswireFld side).lo + (miswireFld side).width ≤ 32 := by
      simp only [miswireFld_eq]
      omega
    rw [State.raise_mgt_flag _ _ _ _ _ (by rw [miswireFld_eq]; simp) (by rw [miswireFld_eq]; simp), State.flag_put_same _ _ _ _ hlo,
      miswireFld_eq]
    rfl
  case linkDown =>
    have hkeep := (s.linkedDown side).reroute.sendRosters_keepsRing
    refine ⟨_, execLinkDown_drops s side hon hup, ?_, ?_, ?_⟩
    · rw [hkeep.flag, State.reroute_flag _ (rerouteLeaves_linkFld side), State.linkedDown_link]
    · rw [hkeep.reach, (State.reroute_parts _).1, State.linkedDown_reach]
    · rw [hkeep.get, State.reroute_get _ (by decide), State.linkedDown_count]
  case roster =>
    obtain ⟨t, hnext, hkeep⟩ := execRoster_reaches s side ro hon hup hd helse
    refine ⟨t, hnext, (hkeep.reach side).trans (s.reachTaken_reroute_reach side ro), fun c => ?_⟩
    calc t.route c = (s.reachTaken side ro).reroute.route c := hkeep.get ..
      _ = (s.reachTaken side ro).reroute.routeOf c := State.reroute_route _ c
      _ = t.routeOf c := (State.routeOf_congr (hkeep.get ..) hkeep.reach c).symm
  case duplicate =>
    exact ⟨_, execRoster_duplicate s side ro hon hup hd helse, s.dupFound_reroute_dupId side ro, s.dupFound_reroute_parts side ro⟩
  case rosterPassed =>
    exact ⟨_, execRoster_forwards s side ro hon hup hd,
      State.queueRoster_any _ _ _ ((State.reroute_flag _ (rerouteLeaves_linkFld _)).trans hfar)⟩
  case discard => exact ⟨_, execRingForward_discards hon hdest hlimit, rfl⟩
  case pass => exact ⟨_, execRingForward_passes hon hdest hlimit hroute, rfl⟩
  case repeated => exact ⟨_, execRingRequest_repeats hw hd ht hl hx hseq hr, State.ringReply_of_route_one hroute⟩
  case first =>
    obtain ⟨w, hws⟩ := List.length_eq_one_iff.1 hn
    have hw : requestWhole rq = true := by simp [requestWhole, hn]
    exact ⟨_, execRingRequest_first hw hd ht hl hx, State.ringRun_answers_GLB_STRAPS hup hm hx hr ha hws hroute⟩
  case copy =>
    have hslot := State.slot_slotWith (s := s) (m := rq.owner) (c := rq.origin) (f := fun y => { y with owed := y.owed + 1 })
      (fun _ => ⟨rfl, rfl⟩)
    rw [hx] at hslot
    exact ⟨_, execRingRequest_copies hw hd ht hl hx hseq hr, congrArg (Option.map (·.owed)) hslot⟩
  case waits =>
    have hslot := State.slot_slotWith (s := s) (m := rq.owner) (c := rq.origin)
      (f := fun y => { y with waiting := y.waiting ++ [rq] }) (fun _ => ⟨rfl, rfl⟩)
    rw [hx] at hslot
    exact ⟨_, execRingRequest_waits hw hd ht hl hx hseq hr, congrArg (Option.map (·.waiting)) hslot⟩
  case response =>
    exact ⟨_, execRingResponse_takes hw ha ht hd st ws, State.respond_answer _ hdrop, State.respond_stored .., State.respond_remote ..⟩
  case resend =>
    refine ⟨_, execRingRetry_resends hw ha ht hd hb hr, State.resend_remote .., fun hside => ?_, ?_⟩
    · exact State.resend_unsent _ m { w with resends := w.resends + 1, busy := false }
        (by rwa [State.count_retry_sideTo])
    · rw [State.resend_get, State.get_count_same _ _ _ (by decide)]
  case givesUp => exact ⟨_, execRingRetry_givesUp hw ha ht hb hr, s.ringGivesUp_port m w⟩
  case busyTimeout =>
    refine ⟨_, execRingBusyTimeout_ends hw ha ht hb, ?_, ?_, fun hdrop => ?_⟩
    · split <;> simp
    · split <;> simp
    · rw [hdrop]
      rfl
  case attention => exact ⟨_, execAttentionNotice_tells c true set hon hd, s.setAttn_get c set⟩
  case semOrphan =>
    have hheldFrom : heldFrom c s n = true := by simp [heldFrom, State.flag, hheld, horigin]
    exact ⟨_, execSemOrphanEnd_frees hup hcfg hc hroute,
      State.foldl_semFreeBy_held c n _ s (.inr ⟨List.mem_finRange n, hheldFrom⟩)⟩

end Sys2Proof.Machine

namespace Sys2Proof.Machine

/-! PROOFS. The invariant (O3, O4): it holds of the state after reset, and the lemma of each command's meaning (Laws/) carries it over a step. -/

/-- An empty store is in canonical form. -/
theorem Sparse.wf_nil {α : Type} (dflt : Nat → α) : Sparse.wf dflt [] :=
  ⟨List.Pairwise.nil, fun _ he => absurd he List.not_mem_nil⟩

theorem State.reset_inv : State.reset.Inv where
  regs := Sparse.wf_nil _
  fifoForm := Sparse.wf_nil _
  mram b := by simpa [State.reset] using Sparse.wf_nil zeroByte
  stage := Sparse.wf_nil _
  epm := Sparse.wf_nil _
  templates := Sparse.wf_nil _
  buffer := Sparse.wf_nil _
  dram := Sparse.wf_nil _
  areas i := by simpa [State.reset, freshCpt] using Sparse.wf_nil zeroByte
  fifos _ he := absurd he List.not_mem_nil
  queues n l := by simp [State.reset, freshQueue]

/-- Settles O4: every store, FIFO and queue is empty. -/
theorem resetMeetsTheInvariant : Obligations.ResetMeetsTheInvariant := State.reset_inv

/-- Every command's meaning keeps the invariant: each arm is the lemma of Laws/ about it. -/
theorem exec_inv (c : Instr) (s : State) (hI : s.Inv) : State.InvO (exec c s) := match c with
  | .supplyMonitorTrip => execSupplyMonitorTrip_inv s hI
  | .coreResetRelease st => execCoreResetRelease_inv st s hI
  | .corereset => execCorereset_inv s hI
  | .coreRst who => execCoreRst_inv who s hI
  | .plateRst who v => execPlateRst_inv who v s hI
  | .graverRst who v => execGraverRst_inv who v s hI
  | .drcRst who v => execDrcRst_inv who v s hI
  | .mgtRst who v => execMgtRst_inv who v s hI
  | .dclkRun who v => execDclkRun_inv who v s hI
  | .gclkRun who v => execGclkRun_inv who v s hI
  | .fclkPlateRun who v => execFclkPlateRun_inv who v s hI
  | .portRst who hi be v => execPortRst_inv who hi be v s hI
  | .selfRefreshEntry => execSelfRefreshEntry_inv s hI
  | .rootUnlock => execRootUnlock_inv s hI
  | .rootLock => execRootLock_inv s hI
  | .laneUnlock lane => execLaneUnlock_inv lane s hI
  | .laneRelock lane => execLaneRelock_inv lane s hI
  | .guardFirstWrite who addr be v => execGuardFirstWrite_inv who addr be v s hI
  | .guardComplementWrite who addr be v => execGuardComplementWrite_inv who addr be v s hI
  | .guardExpire idn => execGuardExpire_inv idn s hI
  | .parityScrub ups addr => execParityScrub_inv ups addr s hI
  | .pageEnWrite who pg en => execPageEnWrite_inv who pg en s hI
  | .blkRst who pg => execBlkRst_inv who pg s hI
  | .restartComplete pg => execRestartComplete_inv pg s hI
  | .portAbort m => execPortAbort_inv m s hI
  | .accessTimeout late place wr => execAccessTimeout_inv late place wr s hI
  | .registerWrite who addr be v => execRegisterWrite_inv who addr be v s hI
  | .readF m ns early => execReadF_inv m ns early s hI
  | .writeF m hdr rest early => execWriteF_inv m hdr rest early s hI
  | .readFixed m ns early => execReadFixed_inv m ns early s hI
  | .writeFixed m hdr rest early => execWriteFixed_inv m hdr rest early s hI
  | .replay m fr => execReplay_inv m fr s hI
  | .badOpcode m ns early => execBadOpcode_inv m ns early s hI
  | .csNRise m moment => execCsNRise_inv m moment s hI
  | .mgtReady => execMgtReady_inv s hI
  | .attentionNotice sender qb set => execAttentionNotice_inv sender qb set s hI
  | .semClaim who n => execSemClaim_inv who n s hI
  | .semRelease who n be => execSemRelease_inv who n be s hI
  | .semForce who v => execSemForce_inv who v s hI
  | .semOrphanEnd c => execSemOrphanEnd_inv c s hI
  | .hostGrantChange who v => execHostGrantChange_inv who v s hI
  | .legAddress addr rd => execLegAddress_inv addr rd s hI
  | .legWriteByte b => execLegWriteByte_inv b s hI
  | .legReadByte => execLegReadByte_inv s hI
  | .legSclTimeout => execLegSclTimeout_inv s hI
  | .linkUp side nb => execLinkUp_inv side nb s hI
  | .miswire side => execMiswire_inv side s hI
  | .linkDown side => execLinkDown_inv side s hI
  | .roster side ro => execRoster_inv side ro s hI
  | .ringForward fr => execRingForward_inv fr s hI
  | .ringRequest rq => execRingRequest_inv rq s hI
  | .ringResponse m seq busy status ws => execRingResponse_inv m seq busy status ws s hI
  | .ringRetry m => execRingRetry_inv m s hI
  | .ringBusyTimeout m => execRingBusyTimeout_inv m s hI
  | .eventRoute => execEventRoute_inv s hI
  | .evqPop who q => execEvqPop_inv who q s hI
  | .popComplete q => execPopComplete_inv q s hI
  | .evqPopTimeout who => execEvqPopTimeout_inv who s hI
  | .evqPeek who q => execEvqPeek_inv who q s hI
  | .flush who q => execFlush_inv who q s hI
  | .uptimeAlign => execUptimeAlign_inv s hI
  | .entryResetRelease prefB rIlim => execEntryResetRelease_inv prefB rIlim s hI
  | .entryReset => execEntryReset_inv s hI
  | .loadComplete => execLoadComplete_inv s hI
  | .pacingDoneTimeout => execPacingDoneTimeout_inv s hI
  | .stageWrite who be v => execStageWrite_inv who be v s hI
  | .stageRead who => execStageRead_inv who s hI
  | .commit who parityErr => execCommit_inv who parityErr s hI
  | .commitLeaveTimeout => execCommitLeaveTimeout_inv s hI
  | .commitWriteEnd ok => execCommitWriteEnd_inv ok s hI
  | .fetchActive who => execFetchActive_inv who s hI
  | .fetchOther who => execFetchOther_inv who s hI
  | .fetchEnd => execFetchEnd_inv s hI
  | .seatingLoss pins => execSeatingLoss_inv pins s hI
  | .seatDbEnd => execSeatDbEnd_inv s hI
  | .rampEnd => execRampEnd_inv s hI
  | .entryFastTrip uv => execEntryFastTrip_inv uv s hI
  | .faultTimeEnd uv => execFaultTimeEnd_inv uv s hI
  | .rampMaxEnd uv => execRampMaxEnd_inv uv s hI
  | .entryLimit above uv => execEntryLimit_inv above uv s hI
  | .entryRetryEnd => execEntryRetryEnd_inv s hI
  | .entryConsecClear => execEntryConsecClear_inv s hI
  | .ilimCheck rOhm => execIlimCheck_inv rOhm s hI
  | .feedLoss fd count => execFeedLoss_inv fd count s hI
  | .feedSwitch => execFeedSwitch_inv s hI
  | .feedGood fd count => execFeedGood_inv fd count s hI
  | .feedReturn => execFeedReturn_inv s hI
  | .entryScrub ups addr => execEntryScrub_inv ups addr s hI
  | .leaveRequest ops => execLeaveRequest_inv ops s hI
  | .leaveDone op => execLeaveDone_inv op s hI
  | .leaveWithdraw op => execLeaveWithdraw_inv op s hI
  | .dieWindow => execDieWindow_inv s hI
  | .pacingGapEnd => execPacingGapEnd_inv s hI
  | .feedGoodnessChange ga gb => execFeedGoodnessChange_inv ga gb s hI
  | .growDelayEnd => execGrowDelayEnd_inv s hI
  | .growth => execGrowth_inv s hI
  | .revokeTimeEnd p => execRevokeTimeEnd_inv p s hI
  | .revokeSuccess p => execRevokeSuccess_inv p s hI
  | .poolWrite who single be v => execPoolWrite_inv who single be v s hI
  | .targetWrite who p be v => execTargetWrite_inv who p be v s hI
  | .adcSample p vbus vreg sense => execAdcSample_inv p vbus vreg sense s hI
  | .settleEnd p => execSettleEnd_inv p s hI
  | .closeMaxEnd p => execCloseMaxEnd_inv p s hI
  | .dischargeEnd p => execDischargeEnd_inv p s hI
  | .dschMaxEnd p => execDschMaxEnd_inv p s hI
  | .portFastTrip p ma => execPortFastTrip_inv p ma s hI
  | .slowTimeEnd p => execSlowTimeEnd_inv p s hI
  | .retryIntEnd p held => execRetryIntEnd_inv p held s hI
  | .portConsecClear p => execPortConsecClear_inv p s hI
  | .forceOff who p v => execForceOff_inv who p v s hI
  | .ccClassify pp cc1 cc2 => execCcClassify_inv pp cc1 cc2 s hI
  | .attach p => execAttach_inv p s hI
  | .detach p => execDetach_inv p s hI
  | .drpToggle p => execDrpToggle_inv p s hI
  | .trySrcSuccess p => execTrySrcSuccess_inv p s hI
  | .trySrcTimeout p => execTrySrcTimeout_inv p s hI
  | .tryTimeout p => execTryTimeout_inv p s hI
  | .sinkAttach p => execSinkAttach_inv p s hI
  | .sinkDetach p => execSinkDetach_inv p s hI
  | .errorRecoveryEnd p => execErrorRecoveryEnd_inv p s hI
  | .recover who p => execRecover_inv who p s hI
  | .vconnTrip p => execVconnTrip_inv p s hI
  | .conRxByte p ch => execConRxByte_inv p ch s hI
  | .conRxdataRead who p => execConRxdataRead_inv who p s hI
  | .conTxdataWrite who p be v => execConTxdataWrite_inv who p be v s hI
  | .conTxDone p => execConTxDone_inv p s hI
  | .upstreamAttach u orient rp vbus => execUpstreamAttach_inv u orient rp vbus s hI
  | .upstreamDetach u => execUpstreamDetach_inv u s hI
  | .sourceCapabilities pp msg => execSourceCapabilities_inv pp msg s hI
  | .request pp msg => execRequest_inv pp msg s hI
  | .getSourceCap pp msg => execGetSourceCap_inv pp msg s hI
  | .getSinkCap pp msg => execGetSinkCap_inv pp msg s hI
  | .eprGetSourceCap pp msg => execEprGetSourceCap_inv pp msg s hI
  | .prSwap pp msg => execPrSwap_inv pp msg s hI
  | .drSwap pp msg => execDrSwap_inv pp msg s hI
  | .vconnSwap pp msg => execVconnSwap_inv pp msg s hI
  | .frSwap pp msg => execFrSwap_inv pp msg s hI
  | .softReset pp msg => execSoftReset_inv pp msg s hI
  | .hardReset pp msg => execHardReset_inv pp msg s hI
  | .getStatus pp msg => execGetStatus_inv pp msg s hI
  | .getPpsStatus pp msg => execGetPpsStatus_inv pp msg s hI
  | .getSourceCapExtended pp msg => execGetSourceCapExtended_inv pp msg s hI
  | .getSourceInfo pp msg => execGetSourceInfo_inv pp msg s hI
  | .getRevision pp msg => execGetRevision_inv pp msg s hI
  | .getManufacturerInfo pp msg => execGetManufacturerInfo_inv pp msg s hI
  | .eprMode pp msg => execEprMode_inv pp msg s hI
  | .eprKeepalive pp msg => execEprKeepalive_inv pp msg s hI
  | .vendorDefined pp msg => execVendorDefined_inv pp msg s hI
  | .pingMsg pp msg => execPingMsg_inv pp msg s hI
  | .alertMsg pp msg => execAlertMsg_inv pp msg s hI
  | .bist pp msg => execBist_inv pp msg s hI
  | .unsupportedMessage pp msg => execUnsupportedMessage_inv pp msg s hI
  | .accept pp msg => execAccept_inv pp msg s hI
  | .reject pp msg => execReject_inv pp msg s hI
  | .waitMsg pp msg => execWaitMsg_inv pp msg s hI
  | .psRdy pp msg => execPsRdy_inv pp msg s hI
  | .goodcrc pp msg => execGoodcrc_inv pp msg s hI
  | .goodcrcTimeout pp msg => execGoodcrcTimeout_inv pp msg s hI
  | .srcStartupEnd p => execSrcStartupEnd_inv p s hI
  | .sourceCapResend p => execSourceCapResend_inv p s hI
  | .senderResponseTimeout pp => execSenderResponseTimeout_inv pp s hI
  | .transitionStart p => execTransitionStart_inv p s hI
  | .transLimitEnd p => execTransLimitEnd_inv p s hI
  | .waitTimerEnd p => execWaitTimerEnd_inv p s hI
  | .leaveHoldEnd p => execLeaveHoldEnd_inv p s hI
  | .ppsTimeout p => execPpsTimeout_inv p s hI
  | .eprKeepaliveTimeout p => execEprKeepaliveTimeout_inv p s hI
  | .sinkTxEnd p => execSinkTxEnd_inv p s hI
  | .capsMergeEnd p => execCapsMergeEnd_inv p s hI
  | .discoverIdentityAttempt p => execDiscoverIdentityAttempt_inv p s hI
  | .revokeNoRequest p => execRevokeNoRequest_inv p s hI
  | .hardResetPowerOff p => execHardResetPowerOff_inv p s hI
  | .srcRecoverEnd p => execSrcRecoverEnd_inv p s hI
  | .sinkWaitCapTimeout p => execSinkWaitCapTimeout_inv p s hI
  | .swapAttempt p => execSwapAttempt_inv p s hI
  | .sinkHardResetTimeout p => execSinkHardResetTimeout_inv p s hI
  | .frsSignal p => execFrsSignal_inv p s hI
  | .frsVbusDrop p => execFrsVbusDrop_inv p s hI
  | .consoleModeAttempt p => execConsoleModeAttempt_inv p s hI
  | .vdmResponseTimeout p => execVdmResponseTimeout_inv p s hI
  | .pdCtrlHardReset who p => execPdCtrlHardReset_inv who p s hI
  | .pdCtrlSoftReset who p => execPdCtrlSoftReset_inv who p s hI
  | .sendCaps who p => execSendCaps_inv who p s hI
  | .rediscover who p => execRediscover_inv who p s hI
  | .exitMode who p => execExitMode_inv who p s hI
  | .pdEnWrite who p v => execPdEnWrite_inv who p v s hI
  | .contextReset hc hs => execContextReset_inv hc hs s hI
  | .contextSuspend hc => execContextSuspend_inv hc s hI
  | .contextResume at_ => execContextResume_inv at_ s hI
  | .connect p low => execConnect_inv p low s hI
  | .disconnect p => execDisconnect_inv p s hI
  | .babble p => execBabble_inv p s hI
  | .setPortReset hc n => execSetPortReset_inv hc n s hI
  | .chirpK p => execChirpK_inv p s hI
  | .portResetEnd which => execPortResetEnd_inv which s hI
  | .setPortSuspend hc n => execSetPortSuspend_inv hc n s hI
  | .clearPortSuspend hc n => execClearPortSuspend_inv hc n s hI
  | .resumeEnd p => execResumeEnd_inv p s hI
  | .clearPortEnable hc n => execClearPortEnable_inv hc n s hI
  | .setPortPower hc n => execSetPortPower_inv hc n s hI
  | .clearPortPower hc n => execClearPortPower_inv hc n s hI
  | .setPortTest hc n sel => execSetPortTest_inv hc n sel s hI
  | .setAndTestPortL1 hc n addr hird rwe => execSetAndTestPortL1_inv hc n addr hird rwe s hI
  | .lpmAnswer p ans => execLpmAnswer_inv p ans s hI
  | .clearPortL1 hc n => execClearPortL1_inv hc n s hI
  | .l1ExitEnd p => execL1ExitEnd_inv p s hI
  | .remoteWake p => execRemoteWake_inv p s hI
  | .wakePropagationEnd hc => execWakePropagationEnd_inv hc s hI
  | .pwrHoldEnd hc ss => execPwrHoldEnd_inv hc ss s hI
  | .clearChangeBit hc n sel => execClearChangeBit_inv hc n sel s hI
  | .getPortStatus hc n => execGetPortStatus_inv hc n s hI
  | .getHubStatus hub => execGetHubStatus_inv hub s hI
  | .getHubDescriptor hub => execGetHubDescriptor_inv hub s hI
  | .getDescriptor dev kind idx lang len => execGetDescriptor_inv dev kind idx lang len s hI
  | .setInterface hc alt => execSetInterface_inv hc alt s hI
  | .hubRequestError req => execHubRequestError_inv req s hI
  | .clearTtBuffer hc n dev ep ty inDir => execClearTtBuffer_inv hc n dev ep ty inDir s hI
  | .resetTt hc n => execResetTt_inv hc n s hI
  | .stopTt hc n => execStopTt_inv hc n s hI
  | .statusChangePoll hub => execStatusChangePoll_inv hub s hI
  | .startSplit hc n sp => execStartSplit_inv hc n sp s hI
  | .completeSplit hc n sp => execCompleteSplit_inv hc n sp s hI
  | .ttTransactionEnd p fin => execTtTransactionEnd_inv p fin s hI
  | .ttStale at_ => execTtStale_inv at_ s hI
  | .ttResultExpire p => execTtResultExpire_inv p s hI
  | .rxDetect f found => execRxDetect_inv f found s hI
  | .linkU0 f gen2 => execLinkU0_inv f gen2 s hI
  | .pollingFail f config => execPollingFail_inv f config s hI
  | .linkRecovery lk symbols hdrs => execLinkRecovery_inv lk symbols hdrs s hI
  | .ssInactive f => execSsInactive_inv f s hI
  | .ssPortReset sc n => execSsPortReset_inv sc n s hI
  | .bhPortReset sc n => execBhPortReset_inv sc n s hI
  | .ssResetEnd f out => execSsResetEnd_inv f out s hI
  | .ssContextReset u warm => execSsContextReset_inv u warm s hI
  | .setLinkStateU3 sc n => execSetLinkStateU3_inv sc n s hI
  | .setLinkStateU0 sc n => execSetLinkStateU0_inv sc n s hI
  | .setLinkStateDisabled sc n => execSetLinkStateDisabled_inv sc n s hI
  | .setLinkStateRxDetect sc n => execSetLinkStateRxDetect_inv sc n s hI
  | .ssSetPortPower sc n => execSsSetPortPower_inv sc n s hI
  | .ssClearPortPower sc n => execSsClearPortPower_inv sc n s hI
  | .setPortU1Timeout sc n v => execSetPortU1Timeout_inv sc n v s hI
  | .setPortU2Timeout sc n v => execSetPortU2Timeout_inv sc n v s hI
  | .setRemoteWakeMask sc n v => execSetRemoteWakeMask_inv sc n v s hI
  | .setForceLinkpmAccept sc n => execSetForceLinkpmAccept_inv sc n s hI
  | .setHubDepth sc depth => execSetHubDepth_inv sc depth s hI
  | .getPortErrorCount sc n => execGetPortErrorCount_inv sc n s hI
  | .ssGetPortStatus sc n ext => execSsGetPortStatus_inv sc n ext s hI
  | .ssClearChangeBit sc n sel => execSsClearChangeBit_inv sc n sel s hI
  | .u1Inactivity lk u2 => execU1Inactivity_inv lk u2 s hI
  | .lgoUx lk u2 => execLgoUx_inv lk u2 s hI
  | .ssHeader hd => execSsHeader_inv hd s hI
  | .packetForward mv => execPacketForward_inv mv s hI
  | .ssRemoteWake f => execSsRemoteWake_inv f s hI
  | .upstreamLinkTrained u res => execUpstreamLinkTrained_inv u res s hI
  | .complianceEntry f => execComplianceEntry_inv f s hI
  | .enterCp who f => execEnterCp_inv who f s hI
  | .loopMaster who f => execLoopMaster_inv who f s hI
  | .exitTest who f errors => execExitTest_inv who f errors s hI
  | .pingLfps f => execPingLfps_inv f s hI
  | .loopbackEntry f => execLoopbackEntry_inv f s hI
  | .marginStart who f => execMarginStart_inv who f s hI
  | .marginEnd f errors => execMarginEnd_inv f errors s hI
  | .maxGenWrite who lk v => execMaxGenWrite_inv who lk v s hI
  | .ownerWrite who p be v => execOwnerWrite_inv who p be v s hI
  | .movePoint p => execMovePoint_inv p s hI
  | .presAttach u => execPresAttach_inv u s hI
  | .livenessLoss u => execLivenessLoss_inv u s hI
  | .presentationLive u => execPresentationLive_inv u s hI
  | .foSuspLimitEnd u => execFoSuspLimitEnd_inv u s hI
  | .fbDelayEnd u => execFbDelayEnd_inv u s hI
  | .failback who => execFailback_inv who s hI
  | .reattach who u => execReattach_inv who u s hI
  | .reattachEnd u => execReattachEnd_inv u s hI
  | .regRead u waddr fixed len => execRegRead_inv u waddr fixed len s hI
  | .regWrite u waddr fixed ents parityErr => execRegWrite_inv u waddr fixed ents parityErr s hI
  | .getResult u len parityErr => execGetResult_inv u len parityErr s hI
  | .vendorReplay u len parityErr => execVendorReplay_inv u len parityErr s hI
  | .dramRead u waddr len => execDramRead_inv u waddr len s hI
  | .dramWrite u waddr data parityErr => execDramWrite_inv u waddr data parityErr s hI
  | .vendorRequestDone u parityErr => execVendorRequestDone_inv u parityErr s hI
  | .bulkCommand u bytes => execBulkCommand_inv u bytes s hI
  | .bulkRead u parityErr => execBulkRead_inv u parityErr s hI
  | .bulkWrite u parityErr => execBulkWrite_inv u parityErr s hI
  | .ep3Ack u n parityErr => execEp3Ack_inv u n parityErr s hI
  | .notice u parityErr => execNotice_inv u parityErr s hI
  | .noticeAck u => execNoticeAck_inv u s hI
  | .functionReset u ss kind => execFunctionReset_inv u ss kind s hI
  | .mgfSetConfiguration u ss intf cfg => execMgfSetConfiguration_inv u ss intf cfg s hI
  | .clearEndpointHalt u ep => execClearEndpointHalt_inv u ep s hI
  | .setEndpointHalt u ep => execSetEndpointHalt_inv u ep s hI
  | .inServiceChange u => execInServiceChange_inv u s hI
  | .functionWake u => execFunctionWake_inv u s hI
  | .epmWinRead who => execEpmWinRead_inv who s hI
  | .doorbell who r be v => execDoorbell_inv who r be v s hI
  | .descriptorFetch => execDescriptorFetch_inv s hI
  | .jobStart p => execJobStart_inv p s hI
  | .take p => execTake_inv p s hI
  | .give p => execGive_inv p s hI
  | .powerOff p => execPowerOff_inv p s hI
  | .powerOn p => execPowerOn_inv p s hI
  | .powerCycle p => execPowerCycle_inv p s hI
  | .enumJob p ans => execEnumJob_inv p ans s hI
  | .configJob p ans => execConfigJob_inv p ans s hI
  | .ctrlJob p ans => execCtrlJob_inv p ans s hI
  | .jobWrite p ans => execJobWrite_inv p ans s hI
  | .jobRead p ans => execJobRead_inv p ans s hI
  | .captureSbu p => execCaptureSbu_inv p s hI
  | .captureCdc p ans => execCaptureCdc_inv p ans s hI
  | .verifyCompare p ans => execVerifyCompare_inv p ans s hI
  | .verifyCrc p ans => execVerifyCrc_inv p ans s hI
  | .waitTime p => execWaitTime_inv p s hI
  | .waitAttach p => execWaitAttach_inv p s hI
  | .waitDetach p => execWaitDetach_inv p s hI
  | .waitVbusOn p => execWaitVbusOn_inv p s hI
  | .waitUsbConnect p => execWaitUsbConnect_inv p s hI
  | .stopRunning p => execStopRunning_inv p s hI
  | .stopCaptures p => execStopCaptures_inv p s hI
  | .stopQueued p => execStopQueued_inv p s hI
  | .jobEnd p => execJobEnd_inv p s hI
  | .jobTimeout p cap => execJobTimeout_inv p cap s hI
  | .completionWrite r => execCompletionWrite_inv r s hI
  | .crConsWrite who r be v => execCrConsWrite_inv who r be v s hI
  | .completionRetry r => execCompletionRetry_inv r s hI
  | .captureRecordClose p cdc why => execCaptureRecordClose_inv p cdc why s hI
  | .bufWdata who be v => execBufWdata_inv who be v s hI
  | .bufRdata who => execBufRdata_inv who s hI
  | .ringCfgRestart who r off be v => execRingCfgRestart_inv who r off be v s hI
  | .trainingEnd laneFail => execTrainingEnd_inv laneFail s hI
  | .zeroingEnd => execZeroingEnd_inv s hI
  | .refresh => execRefresh_inv s hI
  | .zqCalibration => execZqCalibration_inv s hI
  | .scrub turn => execScrub_inv turn s hI
  | .load who w => execLoad_inv who w s hI
  | .store who w => execStore_inv who w s hI
  | .windowCommandEnd w => execWindowCommandEnd_inv w s hI
  | .eccClear who => execEccClear_inv who s hI
  | .ddrAlert => execDdrAlert_inv s hI
  | .compatAttach who inst => execCompatAttach_inv who inst s hI
  | .holdTimeout inst => execHoldTimeout_inv inst s hI
  | .instReset who mask => execInstReset_inv who mask s hI
  | .rcRead who inst off => execRcRead_inv who inst off s hI
  | .configAreaWrite who inst off v => execConfigAreaWrite_inv who inst off v s hI
  | .tempSample temps => execTempSample_inv temps s hI
  | .shedStepTimer => execShedStepTimer_inv s hI
  | .quarSet who hi v => execQuarSet_inv who hi v s hI
  | .quarRelease who hi v => execQuarRelease_inv who hi v s hI
  | .quarAutoEnd p => execQuarAutoEnd_inv p s hI
  | .plateIsoSet who v => execPlateIsoSet_inv who v s hI
  | .plateIsolated k => execPlateIsolated_inv k s hI
  | .plateIsoClear who v => execPlateIsoClear_inv who v s hI
  | .peakClr who => execPeakClr_inv who s hI
  | .updatePortPolicy who => execUpdatePortPolicy_inv who s hI
  | .updatePort who => execUpdatePort_inv who s hI
  | .updatePresDesc who => execUpdatePresDesc_inv who s hI
  | .updateEnd => execUpdateEnd_inv s hI
  | .plateCalibrationEnd k => execPlateCalibrationEnd_inv k s hI
  | .upCalibrationEnd => execUpCalibrationEnd_inv s hI
  | .seated => execSeated_inv s hI
  | .trySrc p => execTrySrc_inv p s hI
  | .debounceLost p => execDebounceLost_inv p s hI
  | .sof u => execSof_inv u s hI
  | .highSpeedPacket pk => execHighSpeedPacket_inv pk s hI
  | .setAddress dev addr => execSetAddress_inv dev addr s hI
  | .hubSetConfiguration dev cfg => execHubSetConfiguration_inv dev cfg s hI
  | .deviceRemoteWakeup dev set => execDeviceRemoteWakeup_inv dev set s hI
  | .u1U2Enable sc u2 set => execU1U2Enable_inv sc u2 set s hI
  | .lgoU3 u => execLgoU3_inv u s hI
  | .upstreamExitLfps at_ => execUpstreamExitLfps_inv at_ s hI

theorem step_inv (s : State) (hI : s.Inv) : State.InvO (step s) := by
  unfold step
  cases s.pending with
  | nil => exact State.invO_next (State.tick_inv s hI)
  | cons c rest => exact exec_inv c _ hI.set_pending

/-- Settles O3: the front command's meaning, or the idle tick, keeps the invariant. -/
theorem everyStepKeepsTheInvariant : Obligations.EveryStepKeepsTheInvariant := by
  unfold Obligations.EveryStepKeepsTheInvariant
  exact fun s t hI ht => (step_inv s hI).keeps t ht

end Sys2Proof.Machine


namespace Sys2Proof.Machine

/-! PROOFS. A read of `EVQ_PEEKn` (O17, R125): the record it shows is the one a pop would take, and beside its latches and the check of its
parity it changes nothing. -/

section
variable (s : State) (q : QueueIx)

/-- The record that a peek shows is the one that a pop takes. -/
theorem State.popRecord_fst : (s.popRecord q).map (fun x => x.1) = s.peekRecord q := by
  unfold State.popRecord State.peekRecord
  extract_lets queue
  cases queue.topLevel with
  | none => rfl
  | some l =>
    dsimp only
    split
    · next h => rw [h]; rfl
    · next h => rw [h]; rfl

/-- The register of queue `q` in an array of the EVQ page. -/
theorem arrayIx_queue (start : Nat) : arrayIx (start + 0x40 * q.val) start 0x40 4 = some q := by
  have hcond : start ≤ start + 0x40 * q.val ∧ (start + 0x40 * q.val - start) % 0x40 = 0 ∧ (start + 0x40 * q.val - start) / 0x40 < 4 := by
    omega
  rw [arrayIx, dif_pos hcond]
  exact congrArg some (Fin.ext (by simp))

/-- `EVQ_PEEKn` is no `EVQ_POPn`. -/
theorem popQueue_peek : popQueue (0x50 + 0x40 * q.val) = none := by
  rw [popQueue, arrayIx, dif_neg (by omega)]

/-! ### What a peek leaves -/

/-- The state after a peek: its latches loaded, and its register's parity checked. -/
def State.peeked : State := ((s.latchWords q true (s.peekRecord q)).findParity (0x3050 + 0x40 * q.val)).2

/-- The page of `EVQ_PEEKn`. -/
theorem pageAt_peek : pageAt (0x3050 + 0x40 * q.val) = some .evq := by
  have haddr : 0x3050 + 0x40 * q.val = PageId.base .evq + (0x50 + 0x40 * q.val) := by
    rw [← Nat.add_assoc]
    rfl
  rw [haddr]
  exact pageAt_off .evq (by omega)

/-- The three latches hold the words asked for. -/
theorem State.latchWords_peek_rd (r : Option EventRecord) :
    (s.latchWords q true r).rd (0x3054 + 0x40 * q.val) = (r.map (·.detail)).getD 0 ∧
    (s.latchWords q true r).rd (0x3058 + 0x40 * q.val) = (r.map (·.w2)).getD 0 ∧
    (s.latchWords q true r).rd (0x305C + 0x40 * q.val) = (r.map (·.w3)).getD 0 := by
  have h4 : 0x3040 + 0x40 * q.val + 0x10 + 4 = 0x3054 + 0x40 * q.val := by omega
  have h8 : 0x3040 + 0x40 * q.val + 0x10 + 8 = 0x3058 + 0x40 * q.val := by omega
  have h12 : 0x3040 + 0x40 * q.val + 0x10 + 12 = 0x305C + 0x40 * q.val := by omega
  simp only [State.latchWords, if_true, h4, h8, h12]
  refine ⟨?_, ?_, ?_⟩
  · rw [State.rd_wr_ne _ _ (by omega), State.rd_wr_ne _ _ (by omega), State.rd_wr_same]
    cases r <;> rfl
  · rw [State.rd_wr_ne _ _ (by omega), State.rd_wr_same]
    cases r <;> rfl
  · rw [State.rd_wr_same]
    cases r <;> rfl

/-- A write of a word outside the pages keeps them. -/
theorem State.KeepsPages.wr {pgs : List PageId} {s u : State} (h : s.KeepsPages pgs u) {a : Nat} (w : Word)
    (ha : ∀ pg ∈ pgs, ∀ off < 0x1000, pg.base + off ≠ a) : s.KeepsPages pgs (u.wr a w) :=
  h.trans ⟨rfl, rfl, fun pg hpg f hf => congrArg (fldGet f) (State.rd_wr_ne u w (ha pg hpg _ hf))⟩

/-- The latches lie in the EVQ page. -/
theorem State.latchWords_keepsPages {pgs : List PageId} (peek : Bool) (r : Option EventRecord) (he : .evq ∉ pgs) :
    s.KeepsPages pgs (s.latchWords q peek r) := by
  have hother : ∀ a, 0x3000 ≤ a → a < 0x4000 → ∀ pg ∈ pgs, ∀ off < 0x1000, pg.base + off ≠ a := fun a hlo hhi pg hpg off hoff e =>
    PageId.addr_ne (b := .evq) (fun e => he (e ▸ hpg)) hoff (show a - 0x3000 < 0x1000 by omega)
      (e.trans (Nat.add_sub_cancel' hlo).symm)
  unfold State.latchWords
  extract_lets base w
  have hlo : 0x3000 ≤ base := by omega
  have hhi : base + 12 < 0x4000 := by
    have : (if peek then 0x10 else 0) ≤ 0x10 := by split <;> omega
    omega
  exact (((State.KeepsPages.refl s).wr _ (hother _ (by omega) (by omega))).wr _ (hother _ (by omega) (by omega))).wr _
    (hother _ (by omega) hhi)

/-- A check of a register's parity changes no queue. -/
theorem State.findParity_queues (addr : Nat) : (s.findParity addr).2.queues = s.queues := by
  unfold State.findParity
  split
  · extract_lets rp
    split
    · rfl
    next s1 s2 s3 s4 _ =>
    have h1 : s1.queues = s.queues := by unfold s1; split <;> rfl
    have h3 : s3.queues = s2.queues := by unfold s3; split <;> rfl
    have h4 : s4.queues = s3.queues := by unfold s4; split <;> rfl
    obtain ⟨fifos, hf⟩ := s4.handOff_parts (rp.base / 0x1000) (s4.mkRecord rp evParity (PageId.inst _) addr true .none)
    rw [hf]
    exact h4.trans (h3.trans h1)
  · rfl

/-- A check of a register's parity in EVQ is told in the page's header and in HLT: the block registers of EVQ stay. -/
theorem State.findParity_evq_rd {addr off : Nat} (ha : pageAt addr = some .evq) (hlo : 0x40 ≤ off) (hhi : off < 0x1000) :
    (s.findParity addr).2.rd (0x3000 + off) = s.rd (0x3000 + off) := by
  have hdr : ∀ (t : State) (f : Fld) (v : Nat), f.off < 0x40 → (t.put .evq f v).rd (0x3000 + off) = t.rd (0x3000 + off) :=
    fun t f v hf => State.rd_wr_ne t _ (fun e => absurd (show 0x3000 + off = 0x3000 + f.off from e) (by omega))
  have hhlt : ∀ (t : State) (f : Fld) (v : Nat), f.off < 0x1000 → (t.put .hlt f v).rd (0x3000 + off) = t.rd (0x3000 + off) :=
    fun t f v hf => State.rd_wr_ne t _ (PageId.addr_ne (a := .evq) (b := .hlt) (by decide) hhi hf)
  unfold State.findParity
  split
  · next pg b hp _ =>
    obtain rfl : PageId.evq = pg := Option.some.inj (ha.symm.trans hp)
    extract_lets rp
    split
    · rfl
    next s1 s2 s3 s4 _ =>
    have h1 : s1.rd (0x3000 + off) = s.rd (0x3000 + off) := by
      unfold s1
      split
      · exact hdr _ _ _ (by decide)
      · exact (hdr _ _ _ (by decide)).trans ((hdr _ _ _ (by decide)).trans (hdr _ _ _ (by decide)))
    have h3 : s3.rd (0x3000 + off) = s2.rd (0x3000 + off) := by
      unfold s3
      split
      · rfl
      · exact (hhlt _ _ _ (by decide)).trans (hhlt _ _ _ (by decide))
    rw [State.handOff_rd]
    exact h3.trans h1
  · rfl

/-- A peek leaves the pages but EVQ and HLT. -/
theorem State.peeked_keepsPages : s.KeepsPages [.clk, .mgf] (s.peeked q) :=
  (s.latchWords_keepsPages q true _ (by decide)).trans
    (State.findParity_keepsPages _ (pageAt_peek q) (by decide) (by decide) (by decide))

theorem State.peeked_queues : (s.peeked q).queues = s.queues := State.findParity_queues _ _

theorem State.peeked_settled : (s.peeked q).mgtSettled = s.mgtSettled :=
  State.mgtSettled_of_mismatch (fun f hf => (s.peeked_keepsPages q).get .clk (by decide) f hf)
    (State.findParity_mismatch _ (show 0x104C ≠ 0x3050 + 0x40 * q.val by omega))

theorem State.peeked_rd : (s.peeked q).rd (0x3054 + 0x40 * q.val) = ((s.peekRecord q).map (·.detail)).getD 0 ∧
    (s.peeked q).rd (0x3058 + 0x40 * q.val) = ((s.peekRecord q).map (·.w2)).getD 0 ∧
    (s.peeked q).rd (0x305C + 0x40 * q.val) = ((s.peekRecord q).map (·.w3)).getD 0 := by
  have hkeep : ∀ off, 0x54 ≤ off → off ≤ 0x5C → (s.peeked q).rd (0x3000 + off + 0x40 * q.val) =
      (s.latchWords q true (s.peekRecord q)).rd (0x3000 + off + 0x40 * q.val) := fun off hlo hhi => by
    rw [Nat.add_assoc]
    exact State.findParity_evq_rd _ (pageAt_peek q) (by omega) (by omega)
  obtain ⟨hdetail, hw2, hw3⟩ := s.latchWords_peek_rd q (s.peekRecord q)
  exact ⟨(hkeep 0x54 (by decide) (by decide)).trans hdetail, (hkeep 0x58 (by decide) (by decide)).trans hw2,
    (hkeep 0x5C (by decide) (by decide)).trans hw3⟩

/-! ### The read -/

variable {s q} {who : Requester}

/-- A read of `EVQ_PEEKn` gives word 0 of the record and leaves the state after the peek. -/
theorem State.readTaken_peek : s.readTaken who .evq (0x50 + 0x40 * q.val) false =
    some (((s.peekRecord q).map (·.w0)).getD 0, s.peeked q) := by
  have hvisit : ∀ t : State, t.parityVisit .evq (0x50 + 0x40 * q.val) = (t.findParity (0x3050 + 0x40 * q.val)).2 := fun t => by
    rw [State.parityVisit_of_noSafeAction t (fun s0 s1 => State.safeAction_evq s0 s1 _)]
    exact congrArg (fun a => (t.findParity a).2) (Nat.add_assoc 0x3000 0x50 (0x40 * q.val)).symm
  have hblock : s.readBlock (s.identOf who) (s.barred who) .evq (0x50 + 0x40 * q.val) = s.peekNow q := by
    simp only [State.readBlock, arrayIx_queue]
  have hword : (s.peekNow q).1 = ((s.peekRecord q).map (·.w0)).getD 0 := by
    unfold State.peekNow
    cases s.peekRecord q <;> rfl
  simp only [State.readTaken, if_true, popQueue_peek, hblock, hvisit, hword]
  rfl

/-- A peek that reaches its register is answered, and what follows the answer of a settled management domain is nothing (R125, R21). -/
theorem State.readOne_peek (h : s.reaches who .evq (0x50 + 0x40 * q.val) = true) (hm : s.mgtSettled = true) :
    s.readOne who (regAddr .evq (0x50 + 0x40 * q.val)) = (s.peeked q).reply (.word 0 (((s.peekRecord q).map (·.w0)).getD 0)) := by
  have haccess : s.access who (regAddr .evq (0x50 + 0x40 * q.val)) none false false 0 =
      some (⟨0, ((s.peekRecord q).map (·.w0)).getD 0⟩, s.peeked q) := by
    rw [State.access_read h, State.readTaken_peek]
    rfl
  have hkeep := s.peeked_keepsPages q
  have hheld : (s.peeked q).coreHeld = false := hkeep.coreHeld.trans (State.coreHeld_of_reaches h)
  rw [State.readOne, State.oneWith_of_access (State.mayAccess_of_reaches h) haccess, if_neg (by decide),
    State.afterAccess_of_settled hheld ((s.peeked_settled q).trans hm)]
  exact State.noticeWake_of_get_mgf (fun f hf => hkeep.get .mgf (by decide) f hf)

end

/-- Settles O17: the peek's answer and latches are the words of the record that a pop would take, or zero. -/
theorem peekShowsTheNextRecord : Obligations.PeekShowsTheNextRecord := by
  unfold Obligations.PeekShowsTheNextRecord
  refine ⟨fun who q r s hreach hpop hm => ?record, fun who q s hreach hpop hm => ?empty⟩
  case record =>
    have hpeek : s.peekRecord q = some r := (s.popRecord_fst q).symm.trans hpop
    obtain ⟨hdetail, hw2, hw3⟩ := s.peeked_rd q
    rw [hpeek] at hdetail hw2 hw3
    refine ⟨_, congrArg Host.Outcome.next (State.readOne_peek hreach hm), ?_, hdetail, hw2, hw3, s.peeked_queues q⟩
    rw [hpeek]
    rfl
  case empty =>
    have hpeek : s.peekRecord q = none := by rw [← s.popRecord_fst q, hpop]; rfl
    obtain ⟨hdetail, hw2, hw3⟩ := s.peeked_rd q
    rw [hpeek] at hdetail hw2 hw3
    refine ⟨_, congrArg Host.Outcome.next (State.readOne_peek hreach hm), ?_, hdetail, hw2, hw3, s.peeked_queues q⟩
    rw [hpeek]
    rfl

end Sys2Proof.Machine


namespace Sys2Proof.Machine

/-! PROOFS. The event queues (O33): the statement says what a pop leaves of the queues for every state, but only asks of a pop that a waiter's
record completes, and of a flush, that the management domain be settled. Where it is not, the pop's answer is followed by the reset that
`CLK_RESET.MGT_RST` asks for, and a record on its way to a port's pop goes back to its queue (R21, R126). -/

/-- A record of a temperature alarm, the oldest in its queue. -/
def waitingRecord : EventRecord := ⟨9, 2, 0, 6, false, false, false, false, true, 0, 0, .none⟩

/-- A queue that holds one record. -/
def oneRecordQueue : Queue := { freshQueue with levels := freshQueue.levels.set 6 ⟨[waitingRecord], 0⟩ }

/-- The read of `EVQ_POP1` by which port B waits. -/
def portBPop : AccessRun := ⟨.b, .frame, false, false, 0x3080, [⟨0xF, 0⟩], [], none⟩

/-- A running core whose queue 0 holds a record. Port B waits in a pop of queue 1, for which a record is on its way, and `MGT_RST` is
written while the management domain is not in reset yet. -/
def unsettledPopState : State :=
  (((((({ State.reset with coreHeld := false, runs := [portBPop] }).put .clk F.CLK_ROOT_STATUS_ROOT_LOCKED 1).put .clk
    F.CLK_RESET_STATUS_MGT_IN_RST 0).put .clk F.CLK_RESET_MGT_RST 1).put .glb F.GLB_READY_CFG_LOADED 1).put .glb F.GLB_READY_MGT_READY 1
    |>.setQueue 0 oneRecordQueue).setQueue 1 { freshQueue with handoff := some waitingRecord }

/-- Port A's pop takes the record of queue 0 and leaves queue 1 as it was. -/
theorem unsettledPopState_popRecord :
    (unsettledPopState.popRecord 0).map (fun x => (x.2.queue 1).handoff) = some (some waitingRecord) := by decide +kernel

/-- The reset that follows port A's pop gives up port B's, so the record on its way goes back to queue 1. -/
theorem unsettledPopState_pop_handoff :
    ((unsettledPopState.readOne .a (regAddr .evq 0x40)).queue 1).handoff = none := by decide +kernel

/-- Refutes O33: from `unsettledPopState` a pop of queue 0 changes queue 1 as well. -/
theorem not_eventsAreRoutedPoppedAndPeeked : ¬ Obligations.EventsAreRoutedPoppedAndPeeked := by
  unfold Obligations.EventsAreRoutedPoppedAndPeeked
  rintro ⟨-, -, -, hpops, -⟩
  have hreach : unsettledPopState.reaches .a .evq (0x40 + 0x40 * (0 : QueueIx).val) = true := by decide +kernel
  obtain ⟨taken, htaken, hkept⟩ := Option.map_eq_some_iff.1 unsettledPopState_popRecord
  obtain ⟨t, hnext, -, hqueues, -⟩ := hpops .a 0 unsettledPopState hreach (by rw [htaken]; rfl)
  have ht : unsettledPopState.readOne .a (regAddr .evq 0x40) = t := Host.Outcome.next.inj hnext
  have hleft : t.queues = taken.2.queues := by rw [hqueues, htaken]; rfl
  have hback : (t.queue 1).handoff = none := ht ▸ unsettledPopState_pop_handoff
  rw [State.queue, hleft] at hback
  exact absurd (hkept.symm.trans hback) (by decide)

end Sys2Proof.Machine


namespace Sys2Proof.Machine

/-! PROOFS. The frame of every command (O10): which parts of the state behind the registers each operation of the model can change. The
lemma about an operation bears its name and says: where the list `M` holds the parts that the operation can change, a state that keeps all
but `M` of an earlier one still does after the operation. So the proof of an operation follows its definition, by the lemmas about the
operations it is made of, and the table `exec_leads` names the lemma of every command. -/

/-! ### Parts that stay -/

/-- A part of the state that lies behind the registers. -/
def Part.hidden : Part → Bool
  | .page _ => false
  | _ => true

theorem Part.subset_of_all {l m : List Part} (h : l.all (m.contains ·) = true) : l ⊆ m :=
  fun p hp => List.contains_iff_mem.1 (List.all_eq_true.1 h p hp)

/-- What a register write can change is every part. -/
theorem Part.all_subset : Part.all ⊆ Part.allBut [] :=
  Part.subset_of_all rfl

theorem Part.same_refl (p : Part) (s : State) : p.same s s := by
  cases p <;> simp [Part.same]

theorem Part.same_trans {p : Part} {s t u : State} (ht : p.same s t) (hu : p.same t u) : p.same s u := by
  cases p
  case page k => exact fun pg off hk ho => (hu pg off hk ho).trans (ht pg off hk ho)
  all_goals simp_all [Part.same]

/-- The state `t` keeps of `s` the queue of commands and every hidden part that is not among `M`. -/
structure State.KeepsBut (M : List Part) (s t : State) : Prop where
  pending : t.pending = s.pending
  same : ∀ p : Part, p.hidden = true → p ∉ M → p.same s t

/-- An outcome whose next state, if it is one, keeps all but `M`. -/
structure State.LeadsBut (M : List Part) (s : State) (o : Host.Outcome State Fault Refusal) : Prop where
  keeps : ∀ t, o = .next t → s.KeepsBut M t

/-- The parts that a run of reads can change: what a read pops, the arbiter and the ports that a parity mismatch found by it makes safe, and
what follows an access (R21, R69, R124, R366). -/
def Part.readParts : List Part :=
  [.answer, .freeCount, .bad, .runs, .mports, .ringSlots, .ringSides, .legacy, .arb, .u2pSt, .hubCtx, .sspSt, .ssCtx, .upLink, .vbsSt,
    .tcpSt, .pdSt, .conSt, .presSt, .mgfSt, .lheSt, .fifos, .queues, .graver, .dram, .grvTemplates, .grvBuffer, .dramMem]

/-- The parts that a core reset changes: all but the wear of the banks (R17). -/
def Part.resetParts : List Part := Part.allBut [.page .pwe, .wear]

/-- The parts that a run of accesses can change. -/
def Part.runParts (write : Bool) : List Part := if write then Part.all else Part.readParts

theorem Part.readParts_subset_runParts (write : Bool) : Part.readParts ⊆ Part.runParts write := by
  cases write <;> decide

theorem Part.runParts_subset_all {write : Bool} : Part.runParts write ⊆ Part.all := by
  cases write <;> decide

namespace State.KeepsBut

open List (Subset.trans)

variable {M : List Part} {was s t : State}

theorem refl (s : State) : s.KeepsBut M s := ⟨rfl, fun p _ _ => p.same_refl s⟩

theorem trans (h : was.KeepsBut M s) (ht : s.KeepsBut M t) : was.KeepsBut M t :=
  ⟨ht.pending.trans h.pending, fun p hp hm => Part.same_trans (h.same p hp hm) (ht.same p hp hm)⟩

/-- A change of the parts `L` alone. -/
theorem change {L : List Part} (hM : L ⊆ M) (h : was.KeepsBut M s) (hpending : t.pending = s.pending)
    (hsame : ∀ p : Part, p.hidden = true → p ∉ L → p.same s t) : was.KeepsBut M t :=
  h.trans ⟨hpending, fun p hp hm => hsame p hp (fun hl => hm (hM hl))⟩

/-! ### The shapes of the operations -/

theorem ite {c : Prop} [Decidable c] (hs : was.KeepsBut M s) (ht : was.KeepsBut M t) : was.KeepsBut M (if c then s else t) := by
  split
  · exact hs
  · exact ht

theorem dite {c : Prop} [Decidable c] {f : c → State} {g : ¬ c → State} (hf : ∀ hc, was.KeepsBut M (f hc))
    (hg : ∀ hc, was.KeepsBut M (g hc)) : was.KeepsBut M (if hc : c then f hc else g hc) := by
  split
  · exact hf _
  · exact hg _

section
variable {α β γ : Type} {l : List α}

theorem foldl {f : State → α → State} (hf : ∀ s x, was.KeepsBut M s → was.KeepsBut M (f s x)) (h : was.KeepsBut M s) :
    was.KeepsBut M (l.foldl f s) := by
  induction l generalizing s with
  | nil => exact h
  | cons x l ih => exact ih (hf _ _ h)

theorem foldl_snd {f : β × State → α → β × State} {p : β × State}
    (hf : ∀ p x, was.KeepsBut M p.2 → was.KeepsBut M (f p x).2) (h : was.KeepsBut M p.2) : was.KeepsBut M (l.foldl f p).2 := by
  induction l generalizing p with
  | nil => exact h
  | cons x l ih => exact ih (hf _ _ h)

theorem foldl_fst {f : State × β → α → State × β} {p : State × β}
    (hf : ∀ p x, was.KeepsBut M p.1 → was.KeepsBut M (f p x).1) (h : was.KeepsBut M p.1) : was.KeepsBut M (l.foldl f p).1 := by
  induction l generalizing p with
  | nil => exact h
  | cons x l ih => exact ih (hf _ _ h)

theorem foldl_fst2 {f : (State × β) × γ → α → (State × β) × γ} {p : (State × β) × γ}
    (hf : ∀ p x, was.KeepsBut M p.1.1 → was.KeepsBut M (f p x).1.1) (h : was.KeepsBut M p.1.1) :
    was.KeepsBut M (l.foldl f p).1.1 := by
  induction l generalizing p with
  | nil => exact h
  | cons x l ih => exact ih (hf _ _ h)

theorem of_fst {p : State × α} {a : α} (e : p = (s, a)) (h : was.KeepsBut M p.1) : was.KeepsBut M s := by
  subst e
  exact h

theorem of_snd {p : α × State} {a : α} (e : p = (a, s)) (h : was.KeepsBut M p.2) : was.KeepsBut M s := by
  subst e
  exact h

theorem of_snd2 {p : α × β × State} {a : α} {b : β} (e : p = (a, b, s)) (h : was.KeepsBut M p.2.2) : was.KeepsBut M s := by
  subst e
  exact h

theorem of_snd3 {p : α × β × γ × State} {a : α} {b : β} {c : γ} (e : p = (a, b, c, s)) (h : was.KeepsBut M p.2.2.2) :
    was.KeepsBut M s := by
  subst e
  exact h

end

theorem next (h : was.KeepsBut M s) : was.LeadsBut M (.next s) := ⟨fun _ e => Host.Outcome.next.inj e ▸ h⟩

theorem fault {e : Fault} : was.LeadsBut M (.fault e) := ⟨fun _ h => nomatch h⟩

theorem iteO {c : Prop} [Decidable c] {a b : Host.Outcome State Fault Refusal} (ha : was.LeadsBut M a) (hb : was.LeadsBut M b) :
    was.LeadsBut M (if c then a else b) := by
  split
  · exact ha
  · exact hb

/-! ### The primitive changes -/

theorem set_arb {x} (hM : [.arb] ⊆ M) (h : was.KeepsBut M s) : was.KeepsBut M { s with arb := x } :=
  h.change hM rfl fun p _ _ => by cases p <;> trivial

theorem set_bad {x} (hM : [.bad] ⊆ M) (h : was.KeepsBut M s) : was.KeepsBut M { s with bad := x } :=
  h.change hM rfl fun p _ _ => by cases p <;> trivial

theorem set_cfgOp {x} (hM : [.cfgOp] ⊆ M) (h : was.KeepsBut M s) : was.KeepsBut M { s with cfgOp := x } :=
  h.change hM rfl fun p _ _ => by cases p <;> trivial

theorem set_conSt {x} (hM : [.conSt] ⊆ M) (h : was.KeepsBut M s) : was.KeepsBut M { s with conSt := x } :=
  h.change hM rfl fun p _ _ => by cases p <;> trivial

theorem set_copies {x} (hM : [.uptime] ⊆ M) (h : was.KeepsBut M s) : was.KeepsBut M { s with copies := x } :=
  h.change hM rfl fun p _ _ => by cases p <;> trivial

theorem set_coreHeld {x} (hM : [.coreHeld] ⊆ M) (h : was.KeepsBut M s) : was.KeepsBut M { s with coreHeld := x } :=
  h.change hM rfl fun p _ _ => by cases p <;> trivial

theorem set_drcPend {x} (hM : [.drcPend] ⊆ M) (h : was.KeepsBut M s) : was.KeepsBut M { s with drcPend := x } :=
  h.change hM rfl fun p _ _ => by cases p <;> trivial

theorem set_entry {x} (hM : [.entry] ⊆ M) (h : was.KeepsBut M s) : was.KeepsBut M { s with entry := x } :=
  h.change hM rfl fun p _ _ => by cases p <;> trivial

theorem set_graverJobs {x} (hM : [.graver] ⊆ M) (h : was.KeepsBut M s) :
    was.KeepsBut M { s with graver := { s.graver with caps := x } } :=
  h.change hM rfl fun p _ _ => by cases p <;> trivial

theorem set_health {x} (hM : [.health] ⊆ M) (h : was.KeepsBut M s) : was.KeepsBut M { s with health := x } :=
  h.change hM rfl fun p _ _ => by cases p <;> trivial

theorem set_hubCtx {x} (hM : [.hubCtx] ⊆ M) (h : was.KeepsBut M s) : was.KeepsBut M { s with hubCtx := x } :=
  h.change hM rfl fun p _ _ => by cases p <;> trivial

theorem set_legacy {x} (hM : [.legacy] ⊆ M) (h : was.KeepsBut M s) : was.KeepsBut M { s with legacy := x } :=
  h.change hM rfl fun p _ _ => by cases p <;> trivial

theorem set_lheSt {x} (hM : [.lheSt] ⊆ M) (h : was.KeepsBut M s) : was.KeepsBut M { s with lheSt := x } :=
  h.change hM rfl fun p _ _ => by cases p <;> trivial

theorem set_mgfSt {x} (hM : [.mgfSt] ⊆ M) (h : was.KeepsBut M s) : was.KeepsBut M { s with mgfSt := x } :=
  h.change hM rfl fun p _ _ => by cases p <;> trivial

theorem set_moveBegun {x} (hM : [.moveCause] ⊆ M) (h : was.KeepsBut M s) : was.KeepsBut M { s with moveBegun := x } :=
  h.change hM rfl fun p _ _ => by cases p <;> trivial

theorem set_moveCause {x} (hM : [.moveCause] ⊆ M) (h : was.KeepsBut M s) : was.KeepsBut M { s with moveCause := x } :=
  h.change hM rfl fun p _ _ => by cases p <;> trivial

theorem set_pdSt {x} (hM : [.pdSt] ⊆ M) (h : was.KeepsBut M s) : was.KeepsBut M { s with pdSt := x } :=
  h.change hM rfl fun p _ _ => by cases p <;> trivial

theorem set_phase {x} (hM : [.uptime] ⊆ M) (h : was.KeepsBut M s) : was.KeepsBut M { s with phase := x } :=
  h.change hM rfl fun p _ _ => by cases p <;> trivial

theorem set_presSt {x} (hM : [.presSt] ⊆ M) (h : was.KeepsBut M s) : was.KeepsBut M { s with presSt := x } :=
  h.change hM rfl fun p _ _ => by cases p <;> trivial

theorem set_ringSlots {x} (hM : [.ringSlots] ⊆ M) (h : was.KeepsBut M s) : was.KeepsBut M { s with ringSlots := x } :=
  h.change hM rfl fun p _ _ => by cases p <;> trivial

theorem set_routePtr {x} (hM : [.routePtr] ⊆ M) (h : was.KeepsBut M s) : was.KeepsBut M { s with routePtr := x } :=
  h.change hM rfl fun p _ _ => by cases p <;> trivial

theorem set_ssCtx {x} (hM : [.ssCtx] ⊆ M) (h : was.KeepsBut M s) : was.KeepsBut M { s with ssCtx := x } :=
  h.change hM rfl fun p _ _ => by cases p <;> trivial

theorem set_sspSt {x} (hM : [.sspSt] ⊆ M) (h : was.KeepsBut M s) : was.KeepsBut M { s with sspSt := x } :=
  h.change hM rfl fun p _ _ => by cases p <;> trivial

theorem set_tcpSt {x} (hM : [.tcpSt] ⊆ M) (h : was.KeepsBut M s) : was.KeepsBut M { s with tcpSt := x } :=
  h.change hM rfl fun p _ _ => by cases p <;> trivial

theorem set_u2pSt {x} (hM : [.u2pSt] ⊆ M) (h : was.KeepsBut M s) : was.KeepsBut M { s with u2pSt := x } :=
  h.change hM rfl fun p _ _ => by cases p <;> trivial

theorem set_upLink {x} (hM : [.upLink] ⊆ M) (h : was.KeepsBut M s) : was.KeepsBut M { s with upLink := x } :=
  h.change hM rfl fun p _ _ => by cases p <;> trivial

theorem set_upWant {x} (hM : [.upPdOut] ⊆ M) (h : was.KeepsBut M s) : was.KeepsBut M { s with upWant := x } :=
  h.change hM rfl fun p _ _ => by cases p <;> trivial

theorem set_vbsSt {x} (hM : [.vbsSt] ⊆ M) (h : was.KeepsBut M s) : was.KeepsBut M { s with vbsSt := x } :=
  h.change hM rfl fun p _ _ => by cases p <;> trivial

theorem set_wear {x} (hM : [.wear] ⊆ M) (h : was.KeepsBut M s) : was.KeepsBut M { s with wear := x } :=
  h.change hM rfl fun p _ _ => by cases p <;> trivial

/-- A register is no hidden part. -/
theorem wr {a w} (h : was.KeepsBut M s) : was.KeepsBut M (s.wr a w) :=
  h.change (List.nil_subset M) rfl fun p _ _ => by cases p <;> trivial

theorem clearRegs {lo hi} (h : was.KeepsBut M s) : was.KeepsBut M (s.clearRegs lo hi) :=
  h.change (List.nil_subset M) rfl fun p _ _ => by cases p <;> trivial

theorem setFifo {page f} (hM : [.fifos] ⊆ M) (h : was.KeepsBut M s) : was.KeepsBut M (s.setFifo page f) :=
  h.change hM rfl fun p _ _ => by cases p <;> trivial

theorem setQueue {n q} (hM : [.queues] ⊆ M) (h : was.KeepsBut M s) : was.KeepsBut M (s.setQueue n q) :=
  h.change hM rfl fun p _ _ => by cases p <;> trivial

/-! ### The definitions of Machine/Ops.lean -/

theorem put {pg f v} (h : was.KeepsBut M s) : was.KeepsBut M (s.put pg f v) :=
  wr h

theorem setFlag {pg f b} (h : was.KeepsBut M s) : was.KeepsBut M (s.setFlag pg f b) :=
  put h

theorem countBy {pg f n} (h : was.KeepsBut M s) : was.KeepsBut M (s.countBy pg f n) :=
  put h

theorem count {pg f} (h : was.KeepsBut M s) : was.KeepsBut M (s.count pg f) :=
  countBy h

theorem mgtErr {i f} (h : was.KeepsBut M s) : was.KeepsBut M (s.mgtErr i f) :=
  put (put h)

theorem free (hM : [.freeCount] ⊆ M) (h : was.KeepsBut M s) : was.KeepsBut M s.free.2 :=
  h.change hM rfl fun p _ _ => by cases p <;> trivial

theorem reply {a} (hM : [.answer] ⊆ M) (h : was.KeepsBut M s) : was.KeepsBut M (s.reply a) :=
  h.change hM rfl fun p _ _ => by cases p <;> trivial

theorem copiesTo {b} (hM : [.uptime] ⊆ M) (h : was.KeepsBut M s) : was.KeepsBut M (s.copiesTo b) :=
  set_copies hM h

theorem alignUptime (hM : [.uptime] ⊆ M) (h : was.KeepsBut M s) : was.KeepsBut M s.alignUptime :=
  (copiesTo (b := 120) hM h).change hM rfl fun p _ _ => by cases p <;> trivial

/-! ### The definitions of Machine/Flags.lean -/

theorem handOff {page r} (hM : [.fifos] ⊆ M) (h : was.KeepsBut M s) : was.KeepsBut M (s.handOff page r) := by
  unfold State.handOff
  dsimp only
  repeat' first | (with_reducible first | assumption | apply setFifo) | split

theorem raiseWith {pg e src detail assert subj} (hM : [.fifos] ⊆ M) (h : was.KeepsBut M s) :
    was.KeepsBut M (s.raiseWith pg e src detail assert subj) := by
  unfold State.raiseWith
  repeat' first | (with_reducible first | assumption | apply put | apply handOff) | split

theorem raisePort {pg p e detail assert} (hM : [.fifos] ⊆ M) (h : was.KeepsBut M s) : was.KeepsBut M (s.raisePort pg p e detail assert) :=
  raiseWith hM h

theorem raise {pg e src detail assert} (hM : [.fifos] ⊆ M) (h : was.KeepsBut M s) : was.KeepsBut M (s.raise pg e src detail assert) :=
  raiseWith hM h

theorem raisePres {pg u e src detail assert} (hM : [.fifos] ⊆ M) (h : was.KeepsBut M s) :
    was.KeepsBut M (s.raisePres pg u e src detail assert) :=
  raiseWith hM h

theorem setFault {pg n} (h : was.KeepsBut M s) : was.KeepsBut M (s.setFault pg n) :=
  put h

theorem mportWith {m f} (hM : [.mports] ⊆ M) (h : was.KeepsBut M s) : was.KeepsBut M (s.mportWith m f) :=
  h.change hM rfl fun p _ _ => by cases p <;> trivial

theorem sideWith {side f} (hM : [.ringSides] ⊆ M) (h : was.KeepsBut M s) : was.KeepsBut M (s.sideWith side f) :=
  h.change hM rfl fun p _ _ => by cases p <;> trivial

theorem queueOut {side dest body} (hM : [.ringSides] ⊆ M) (h : was.KeepsBut M s) : was.KeepsBut M (s.queueOut side dest body) :=
  sideWith hM h

theorem ringSend {c body} (hM : [.ringSides] ⊆ M) (h : was.KeepsBut M s) : was.KeepsBut M (s.ringSend c body) := by
  unfold State.ringSend
  repeat' first | (with_reducible first | assumption | apply queueOut) | split

theorem setAttn {c qb set} (h : was.KeepsBut M s) : was.KeepsBut M (s.setAttn c qb set) :=
  setFlag h

theorem attnNotice {m} (hM : [.mports, .ringSides] ⊆ M) (h : was.KeepsBut M s) : was.KeepsBut M (s.attnNotice m) :=
  ite h (ite (setAttn (mportWith (Subset.trans (by decide) hM) h)) (ringSend (Subset.trans (by decide) hM) (mportWith
    (Subset.trans (by decide) hM) h)))

theorem attnNotices (hM : [.mports, .ringSides] ⊆ M) (h : was.KeepsBut M s) : was.KeepsBut M s.attnNotices :=
  attnNotice hM (attnNotice hM h)

theorem notePeak {n} (h : was.KeepsBut M s) : was.KeepsBut M (s.notePeak n) :=
  ite (put h) h

theorem noteNotice {n l wm} (h : was.KeepsBut M s) : was.KeepsBut M (s.noteNotice n l wm) :=
  ite h (ite (put h) h)

theorem storeRecord {n l r} (hM : [.mports, .ringSides, .queues] ⊆ M) (h : was.KeepsBut M s) : was.KeepsBut M (s.storeRecord n l r) :=
  attnNotices (Subset.trans (by decide) hM) (noteNotice (notePeak (ite (put (setQueue (Subset.trans (by decide) hM) h)) (setQueue
    (Subset.trans (by decide) hM) h))))

theorem pushRecord {n r} (hM : [.mports, .ringSides, .queues] ⊆ M) (h : was.KeepsBut M s) : was.KeepsBut M (s.pushRecord n r) :=
  ite (setQueue (Subset.trans (by decide) hM) h) (ite (storeRecord hM h) (count (setQueue (Subset.trans (by decide) hM) h)))

theorem popRecord {n r} (hM : [.mports, .ringSides, .queues] ⊆ M) (h : was.KeepsBut M s) (e : s.popRecord n = some (r, t)) :
    was.KeepsBut M t := by
  unfold State.popRecord at e
  dsimp only at e
  have hq : [Part.queues] ⊆ M := Subset.trans (by decide) hM
  split at e
  · cases e
  split at e
  · cases e
  obtain ⟨-, rfl⟩ := Prod.mk.inj (Option.some.inj e)
  exact ite (attnNotices (Subset.trans (by decide) hM) (setQueue hq h)) (storeRecord hM (setQueue hq h))

theorem latchWords {n peek r} (h : was.KeepsBut M s) : was.KeepsBut M (s.latchWords n peek r) :=
  wr (wr (wr h))

theorem unhand {n} (hM : [.mports, .ringSides, .queues] ⊆ M) (h : was.KeepsBut M s) : was.KeepsBut M (s.unhand n) := by
  unfold State.unhand
  dsimp only
  repeat' first
    | with_reducible first
      | assumption | exact Subset.trans (by decide) hM | apply attnNotices | apply notePeak | apply count | apply setQueue
    | split

theorem flushQueue {n} (hM : [.mports, .ringSides, .queues] ⊆ M) (h : was.KeepsBut M s) : was.KeepsBut M (s.flushQueue n) :=
  attnNotices (Subset.trans (by decide) hM) (latchWords (latchWords (put (setQueue (Subset.trans (by decide) hM) h))))

theorem offerTo {r n} (hM : [.mports, .ringSides, .queues] ⊆ M) (h : was.KeepsBut M s) : was.KeepsBut M (s.offerTo r n) :=
  ite (ite (setQueue (Subset.trans (by decide) hM) h) (pushRecord hM (setQueue (Subset.trans (by decide) hM) h))) h

theorem offer {r} (hM : [.mports, .ringSides, .queues] ⊆ M) (h : was.KeepsBut M s) : was.KeepsBut M (s.offer r) :=
  foldl (fun _ _ h' => offerTo hM h') h

theorem routeOne (hM : [.mports, .ringSides, .routePtr, .fifos, .queues] ⊆ M) (h : was.KeepsBut M s) : was.KeepsBut M s.routeOne := by
  unfold State.routeOne
  repeat' first
    | with_reducible first
      | assumption | exact Subset.trans (by decide) hM | apply offer | apply setFifo
    | split | with_reducible apply set_routePtr

theorem loadFilter (hM : [.fifos] ⊆ M) (h : was.KeepsBut M s) : was.KeepsBut M s.loadFilter :=
  foldl (fun _ _ h' => setFifo hM h') h

/-! ### The definitions of Machine/Parity.lean -/

theorem upset {addr flips} (hM : [.bad] ⊆ M) (h : was.KeepsBut M s) : was.KeepsBut M (s.upset addr flips) := by
  unfold State.upset
  repeat' first | (with_reducible first | assumption | apply wr) | split | with_reducible apply set_bad

theorem findParity {addr} (hM : [.bad, .fifos] ⊆ M) (h : was.KeepsBut M s) : was.KeepsBut M (s.findParity addr).2 := by
  unfold State.findParity
  repeat' first
    | with_reducible first
      | assumption | exact Subset.trans (by decide) hM | apply handOff | apply put | apply count | apply setFault
    | split | with_reducible apply set_bad

theorem mendParity {addr be} (hM : [.bad] ⊆ M) (h : was.KeepsBut M s) : was.KeepsBut M (s.mendParity addr be).2 := by
  unfold State.mendParity
  dsimp only
  repeat' first | (with_reducible first | assumption) | split | with_reducible apply set_bad

theorem putRw {pg f v} (hM : [.bad] ⊆ M) (h : was.KeepsBut M s) : was.KeepsBut M (s.putRw pg f v) :=
  mendParity hM (put h)

theorem clearParityFault {pg} (hM : [.bad] ⊆ M) (h : was.KeepsBut M s) : was.KeepsBut M (s.clearParityFault pg) :=
  set_bad hM (wr h)

theorem dropParity {lo hi} (hM : [.bad] ⊆ M) (h : was.KeepsBut M s) : was.KeepsBut M (s.dropParity lo hi) :=
  set_bad hM h

/-! ### The definitions of Machine/Parts.lean -/

theorem u2pWith {i f} (hM : [.u2pSt] ⊆ M) (h : was.KeepsBut M s) : was.KeepsBut M (s.u2pWith i f) :=
  set_u2pSt hM h

theorem healthWith {f} (hM : [.health] ⊆ M) (h : was.KeepsBut M s) : was.KeepsBut M (s.healthWith f) :=
  set_health hM h

theorem cptWith {i f} (hM : [.cpt] ⊆ M) (h : was.KeepsBut M s) : was.KeepsBut M (s.cptWith i f) :=
  h.change hM rfl fun p _ _ => by cases p <;> trivial

theorem sspWith {i f} (hM : [.sspSt] ⊆ M) (h : was.KeepsBut M s) : was.KeepsBut M (s.sspWith i f) :=
  set_sspSt hM h

theorem upLkWith {i f} (hM : [.upLink] ⊆ M) (h : was.KeepsBut M s) : was.KeepsBut M (s.upLkWith i f) :=
  set_upLink hM h

theorem vbsWith {i f} (hM : [.vbsSt] ⊆ M) (h : was.KeepsBut M s) : was.KeepsBut M (s.vbsWith i f) :=
  set_vbsSt hM h

theorem tcpWith {i f} (hM : [.tcpSt] ⊆ M) (h : was.KeepsBut M s) : was.KeepsBut M (s.tcpWith i f) :=
  set_tcpSt hM h

theorem pdWith {i f} (hM : [.pdSt] ⊆ M) (h : was.KeepsBut M s) : was.KeepsBut M (s.pdWith i f) :=
  set_pdSt hM h

theorem conWith {i f} (hM : [.conSt] ⊆ M) (h : was.KeepsBut M s) : was.KeepsBut M (s.conWith i f) :=
  set_conSt hM h

theorem presWith {i f} (hM : [.presSt] ⊆ M) (h : was.KeepsBut M s) : was.KeepsBut M (s.presWith i f) :=
  set_presSt hM h

theorem hubWith {hc f} (hM : [.hubCtx] ⊆ M) (h : was.KeepsBut M s) : was.KeepsBut M (s.hubWith hc f) :=
  set_hubCtx hM h

theorem ssHubWith {sc f} (hM : [.ssCtx] ⊆ M) (h : was.KeepsBut M s) : was.KeepsBut M (s.ssHubWith sc f) :=
  set_ssCtx hM h

theorem lheWith {p f} (hM : [.lheSt] ⊆ M) (h : was.KeepsBut M s) : was.KeepsBut M (s.lheWith p f) :=
  set_lheSt hM h

theorem devLost {p ss} (hM : [.lheSt, .graver] ⊆ M) (h : was.KeepsBut M s) : was.KeepsBut M (s.devLost p ss) :=
  ite (lheWith (Subset.trans (by decide) hM) (set_graverJobs (Subset.trans (by decide) hM) h)) (set_graverJobs
    (Subset.trans (by decide) hM) h)

/-! ### The definitions of Machine/Usb2Port.lean -/

theorem countErr {pg p f} (h : was.KeepsBut M s) : was.KeepsBut M (s.countErr pg p f) :=
  put (count h)

theorem setU2 {p v} (h : was.KeepsBut M s) : was.KeepsBut M (s.setU2 p v) :=
  put h

theorem setPowerBit {p c b} (h : was.KeepsBut M s) : was.KeepsBut M (s.setPowerBit p c b) :=
  setFlag h

theorem addChg {p bits} (hM : [.u2pSt] ⊆ M) (h : was.KeepsBut M s) : was.KeepsBut M (s.addChg p bits) := by
  unfold State.addChg
  repeat' first | (with_reducible first | assumption | apply u2pWith) | split

theorem ttSync {t0} (h : was.KeepsBut M s) : was.KeepsBut M (s.ttSync t0) :=
  put (put (put h))

theorem ttDrop {p} (hM : [.u2pSt] ⊆ M) (h : was.KeepsBut M s) : was.KeepsBut M (s.ttDrop p) :=
  ttSync (u2pWith hM h)

theorem ttReset {t0} (hM : [.u2pSt] ⊆ M) (h : was.KeepsBut M s) : was.KeepsBut M (s.ttReset t0) :=
  ttSync (put (u2pWith hM h))

theorem u2Gone {p st} (hM : [.u2pSt, .lheSt, .graver] ⊆ M) (h : was.KeepsBut M s) : was.KeepsBut M (s.u2Gone p st) :=
  setU2 (ttDrop (Subset.trans (by decide) hM) (put (put (put (u2pWith (Subset.trans (by decide) hM) (ite (devLost
    (Subset.trans (by decide) hM) (addChg (Subset.trans (by decide) hM) h)) h))))))

theorem u2Disable {p} (hM : [.u2pSt] ⊆ M) (h : was.KeepsBut M s) : was.KeepsBut M (s.u2Disable p) :=
  setU2 (put (u2pWith hM h))

theorem u2Eval {p} (hM : [.u2pSt, .lheSt, .graver] ⊆ M) (h : was.KeepsBut M s) : was.KeepsBut M (s.u2Eval p) :=
  ite h (ite (ite h (u2Gone hM h)) (ite (ite h (u2Gone hM h)) (ite (ite h (u2Gone hM h)) (ite (ite h (setU2 h)) (ite (setU2 h) (ite (setU2
    h) h))))))

theorem u2Restart {p} (hM : [.u2pSt, .lheSt, .graver] ⊆ M) (h : was.KeepsBut M s) : was.KeepsBut M (s.u2Restart p) :=
  ite h (u2Gone hM h)

theorem u2Bar {p} (hM : [.u2pSt] ⊆ M) (h : was.KeepsBut M s) : was.KeepsBut M (s.u2Bar p) :=
  ite h (addChg hM (u2Disable hM h))

theorem u2Disconnect {p} (hM : [.u2pSt, .lheSt, .graver] ⊆ M) (h : was.KeepsBut M s) : was.KeepsBut M (s.u2Disconnect p) :=
  u2Gone hM h

/-! ### The definitions of Machine/SsPort.lean -/

theorem setLink {f v} (h : was.KeepsBut M s) : was.KeepsBut M (s.setLink f v) :=
  put h

theorem addSsChg {f bits} (hM : [.sspSt] ⊆ M) (h : was.KeepsBut M s) : was.KeepsBut M (s.addSsChg f bits) := by
  unfold State.addSsChg
  repeat' first | (with_reducible first | assumption | apply sspWith) | split

theorem ssDiscard {f n} (h : was.KeepsBut M s) : was.KeepsBut M (s.ssDiscard f n) :=
  countBy h

theorem marginLost {f} (hM : [.freeCount, .sspSt] ⊆ M) (h : was.KeepsBut M s) : was.KeepsBut M (s.marginLost f) :=
  ite (put (put (put (sspWith (Subset.trans (by decide) hM) (free (Subset.trans (by decide) hM) h))))) h

theorem upWake {u} (hM : [.upLink] ⊆ M) (h : was.KeepsBut M s) : was.KeepsBut M (s.upWake u) :=
  ite (upLkWith hM h) h

theorem maskWake {f b} (hM : [.upLink] ⊆ M) (h : was.KeepsBut M s) : was.KeepsBut M (s.maskWake f b) := by
  unfold State.maskWake
  repeat' first | (with_reducible first | assumption | apply upWake) | split

theorem ssEndCompliance {f} (hM : [.fifos] ⊆ M) (h : was.KeepsBut M s) : was.KeepsBut M (s.ssEndCompliance f) :=
  ite (raisePort hM h) h

theorem ssLeave {s0 f dest cause} (hM : [.freeCount, .sspSt, .upLink, .lheSt, .fifos, .graver] ⊆ M) (h : was.KeepsBut M s0) :
    was.KeepsBut M (State.ssLeave s0 f dest cause) :=
  setLink (put (put (marginLost (Subset.trans (by decide) hM) (sspWith (Subset.trans (by decide) hM) (ssDiscard (devLost
    (Subset.trans (by decide) hM) (ite (maskWake (Subset.trans (by decide) hM) (ite (addSsChg (Subset.trans (by decide) hM)
    (ssEndCompliance (Subset.trans (by decide) hM) h)) (raisePort (Subset.trans (by decide) hM) (addSsChg (Subset.trans (by decide) hM)
    (ssEndCompliance (Subset.trans (by decide) hM) h))))) (ssEndCompliance (Subset.trans (by decide) hM) h))))))))

theorem ssDetect {f cause} (hM : [.freeCount, .sspSt, .upLink, .lheSt, .fifos, .graver] ⊆ M) (h : was.KeepsBut M s) :
    was.KeepsBut M (s.ssDetect f cause) :=
  sspWith (Subset.trans (by decide) hM) (ssLeave hM h)

theorem ssEvalAs {f cause} (hM : [.freeCount, .sspSt, .upLink, .lheSt, .fifos, .graver] ⊆ M) (h : was.KeepsBut M s) :
    was.KeepsBut M (s.ssEvalAs f cause) :=
  ite (ite (ssDetect hM h) h) (ite h (ssLeave hM h))

theorem ssEval {f} (hM : [.freeCount, .sspSt, .upLink, .lheSt, .fifos, .graver] ⊆ M) (h : was.KeepsBut M s) :
    was.KeepsBut M (s.ssEval f) :=
  ssEvalAs hM h

theorem ssEvalPort {p} (hM : [.freeCount, .sspSt, .upLink, .lheSt, .fifos, .graver] ⊆ M) (h : was.KeepsBut M s) :
    was.KeepsBut M (s.ssEvalPort p) := by
  unfold State.ssEvalPort
  repeat' first | (with_reducible first | assumption | apply ssEval) | split

theorem usbEval {p} (hM : [.freeCount, .u2pSt, .sspSt, .upLink, .lheSt, .fifos, .graver] ⊆ M) (h : was.KeepsBut M s) :
    was.KeepsBut M (s.usbEval p) :=
  ssEvalPort (Subset.trans (by decide) hM) (u2Eval (Subset.trans (by decide) hM) h)

theorem ssTie {f} (hM : [.freeCount, .sspSt, .fifos] ⊆ M) (h : was.KeepsBut M s) : was.KeepsBut M (s.ssTie f) := by
  unfold State.ssTie
  repeat' first
    | with_reducible first
      | assumption | exact Subset.trans (by decide) hM | apply ite | apply free | apply raisePort | apply sspWith
    | split

theorem ssForget {s0 p} (hM : [.freeCount, .sspSt, .fifos] ⊆ M) (h : was.KeepsBut M s0) : was.KeepsBut M (State.ssForget s0 p) := by
  unfold State.ssForget
  repeat' first
    | with_reducible first
      | assumption | exact Subset.trans (by decide) hM | apply put | apply sspWith | apply ssTie
    | split

theorem ssGenDrop {f} (hM : [.freeCount, .sspSt, .upLink, .lheSt, .fifos, .graver] ⊆ M) (h : was.KeepsBut M s) :
    was.KeepsBut M (s.ssGenDrop f) :=
  ite (ssDetect hM h) h

/-! ### The definitions of Machine/GrvCore.lean -/

/-- A change of the job processor that leaves the template store and the buffer. -/
theorem grvWith {f} (hM : [.graver] ⊆ M) (h : was.KeepsBut M s) (ht : ∀ g, (f g).templates = g.templates)
    (hb : ∀ g, (f g).buffer = g.buffer) : was.KeepsBut M (s.grvWith f) :=
  h.change hM rfl fun p _ hp => by
    cases p
    case grvTemplates => exact ht _
    case grvBuffer => exact hb _
    all_goals trivial

theorem partWith {id p f} (hM : [.graver] ⊆ M) (h : was.KeepsBut M s) : was.KeepsBut M (s.partWith id p f) :=
  grvWith hM h (fun _ => rfl) (fun _ => rfl)

theorem lheNote {p op code} (h : was.KeepsBut M s) : was.KeepsBut M (s.lheNote p op code) :=
  ite (put (put h)) (count (put (put h)))

theorem partEnd {j p code} (hM : [.graver] ⊆ M) (h : was.KeepsBut M s) : was.KeepsBut M (s.partEnd j p code) :=
  lheNote (partWith hM h)

theorem powerFails {p} (hM : [.graver] ⊆ M) (h : was.KeepsBut M s) : was.KeepsBut M (s.powerFails p) := by
  unfold State.powerFails
  repeat' first | (with_reducible first | assumption | apply partEnd) | split

theorem capMark {p attach} (hM : [.graver] ⊆ M) (h : was.KeepsBut M s) : was.KeepsBut M (s.capMark p attach) :=
  grvWith hM h (fun _ => rfl) (fun _ => rfl)

/-! ### The definitions of Machine/PdPolicy.lean -/

theorem noteOffer {p o epr} (hM : [.pdSt] ⊆ M) (h : was.KeepsBut M s) : was.KeepsBut M (s.noteOffer p o epr) := by
  unfold State.noteOffer
  repeat' with_reducible first | assumption | apply put | apply setFlag | apply pdWith

theorem offerCheck {p} (hM : [.pdSt] ⊆ M) (h : was.KeepsBut M s) : was.KeepsBut M (s.offerCheck p) :=
  ite h (ite (pdWith hM h) (pdWith hM h))

/-! ### The definitions of Machine/PortPower.lean -/

theorem arbWith {f} (hM : [.arb] ⊆ M) (h : was.KeepsBut M s) : was.KeepsBut M (s.arbWith f) :=
  set_arb hM h

theorem askLeave {op} (hM : [.arb] ⊆ M) (h : was.KeepsBut M s) : was.KeepsBut M (s.askLeave op) :=
  ite h (arbWith hM h)

theorem firstSettled {p} (hM : [.arb] ⊆ M) (h : was.KeepsBut M s) : was.KeepsBut M (s.firstSettled p) := by
  unfold State.firstSettled
  repeat' first | (with_reducible first | assumption | apply put | apply arbWith) | split

theorem arbSync (h : was.KeepsBut M s) : was.KeepsBut M s.arbSync :=
  put h

theorem withdraw {op} (hM : [.arb] ⊆ M) (h : was.KeepsBut M s) : was.KeepsBut M (s.withdraw op) := by
  unfold State.withdraw
  repeat' first | (with_reducible first | assumption | apply put | apply arbWith | apply firstSettled | apply arbSync) | split

theorem opDone {op} (hM : [.arb] ⊆ M) (h : was.KeepsBut M s) : was.KeepsBut M (s.opDone op) :=
  ite (arbWith hM h) h

theorem endLeave {op} (hM : [.arb] ⊆ M) (h : was.KeepsBut M s) : was.KeepsBut M (s.endLeave op) :=
  opDone hM (withdraw hM h)

theorem returnGrant {p} (h : was.KeepsBut M s) : was.KeepsBut M (s.returnGrant p) :=
  put (put (put h))

theorem setLimit {p ma} (hM : [.vbsSt] ⊆ M) (h : was.KeepsBut M s) : was.KeepsBut M (s.setLimit p ma) :=
  vbsWith hM (put h)

theorem raiseLimit {p} (hM : [.vbsSt] ⊆ M) (h : was.KeepsBut M s) : was.KeepsBut M (s.raiseLimit p) :=
  ite (setLimit hM h) h

theorem rpApply {p} (hM : [.vbsSt] ⊆ M) (h : was.KeepsBut M s) : was.KeepsBut M (s.rpApply p) :=
  ite (put h) (raiseLimit hM (put h))

theorem bcDecide {p} (hM : [.freeCount, .u2pSt, .sspSt, .upLink, .lheSt, .fifos, .graver] ⊆ M) (h : was.KeepsBut M s) :
    was.KeepsBut M (s.bcDecide p) :=
  usbEval hM (put h)

theorem pdKick {p} (hM : [.vbsSt, .pdSt] ⊆ M) (h : was.KeepsBut M s) : was.KeepsBut M (s.pdKick p) :=
  ite (rpApply (Subset.trans (by decide) hM) (pdWith (Subset.trans (by decide) hM) h)) h

theorem frsEval {p} (h : was.KeepsBut M s) : was.KeepsBut M (s.frsEval p) :=
  setFlag h

theorem grantChanged {p old} (hM : [.freeCount, .u2pSt, .sspSt, .upLink, .vbsSt, .pdSt, .lheSt, .fifos, .graver] ⊆ M)
    (h : was.KeepsBut M s) : was.KeepsBut M (s.grantChanged p old) :=
  pdKick (Subset.trans (by decide) hM) (offerCheck (Subset.trans (by decide) hM) (frsEval (ite (rpApply (Subset.trans (by decide) hM) h)
    (ite (bcDecide (Subset.trans (by decide) hM) (rpApply (Subset.trans (by decide) hM) h)) (ite (usbEval (Subset.trans (by decide) hM)
    (put (rpApply (Subset.trans (by decide) hM) h))) (rpApply (Subset.trans (by decide) hM) h))))))

theorem vconnOn {p} (hM : [.pdSt] ⊆ M) (h : was.KeepsBut M s) : was.KeepsBut M (s.vconnOn p) :=
  pdWith hM (put (put (put h)))

theorem vconnHand {p} (hM : [.pdSt] ⊆ M) (h : was.KeepsBut M s) : was.KeepsBut M (s.vconnHand p) :=
  pdWith hM (put (put h))

theorem vconnOff {p} (hM : [.pdSt] ⊆ M) (h : was.KeepsBut M s) : was.KeepsBut M (s.vconnOff p) :=
  pdWith hM (vconnHand hM h)

theorem vconnStart {p} (hM : [.pdSt] ⊆ M) (h : was.KeepsBut M s) : was.KeepsBut M (s.vconnStart p) :=
  ite (vconnOn hM h) h

theorem muxOpen {p mode cause} (hM : [.conSt, .fifos] ⊆ M) (h : was.KeepsBut M s) : was.KeepsBut M (s.muxOpen p mode cause) :=
  ite h (raisePort (Subset.trans (by decide) hM) (put (put (conWith (Subset.trans (by decide) hM) (put (put h))))))

theorem muxEnd {p cause} (hM : [.tcpSt, .conSt, .fifos] ⊆ M) (h : was.KeepsBut M s) : was.KeepsBut M (s.muxEnd p cause) :=
  muxOpen (Subset.trans (by decide) hM) (tcpWith (Subset.trans (by decide) hM) h)

theorem rxLine {p} (hM : [.freeCount] ⊆ M) (h : was.KeepsBut M s) : was.KeepsBut M (s.rxLine p).2 := by
  unfold State.rxLine
  repeat' first | (with_reducible first | assumption | apply free) | split

theorem muxRoute {p mode} (hM : [.freeCount, .fifos] ⊆ M) (h : was.KeepsBut M s) : was.KeepsBut M (s.muxRoute p mode) :=
  ite h (raisePort (Subset.trans (by decide) hM) (setFlag (put (put (rxLine (Subset.trans (by decide) hM) h)))))

theorem routeBy {p mode} (hM : [.freeCount, .tcpSt, .fifos] ⊆ M) (h : was.KeepsBut M s) : was.KeepsBut M (s.routeBy p mode) :=
  muxRoute (Subset.trans (by decide) hM) (tcpWith (Subset.trans (by decide) hM) h)

theorem unrouteBy {p mode cause} (hM : [.tcpSt, .conSt, .fifos] ⊆ M) (h : was.KeepsBut M s) : was.KeepsBut M (s.unrouteBy p mode cause) :=
  ite (tcpWith (Subset.trans (by decide) hM) h) (muxOpen (Subset.trans (by decide) hM) (tcpWith (Subset.trans (by decide) hM) h))

theorem modeExit {p cause muxCause} (hM : [.tcpSt, .conSt, .fifos] ⊆ M) (h : was.KeepsBut M s) :
    was.KeepsBut M (s.modeExit p cause muxCause) :=
  ite h (raisePort (Subset.trans (by decide) hM) (unrouteBy hM (put (put h))))

theorem endRaise {p} (hM : [.arb, .pdSt] ⊆ M) (h : was.KeepsBut M s) : was.KeepsBut M (s.endRaise p) :=
  pdWith (Subset.trans (by decide) hM) (endLeave (Subset.trans (by decide) hM) h)

theorem endReserve {p} (hM : [.arb, .pdSt] ⊆ M) (h : was.KeepsBut M s) : was.KeepsBut M (s.endReserve p) :=
  ite h (put (ite (pdWith (Subset.trans (by decide) hM) (endLeave (Subset.trans (by decide) hM) h)) (returnGrant (pdWith
    (Subset.trans (by decide) hM) (endLeave (Subset.trans (by decide) hM) h)))))

theorem endContract {p} (h : was.KeepsBut M s) : was.KeepsBut M (s.endContract p) :=
  wr (wr (put (put h)))

theorem pdEnd {p modeCause muxCause} (hM : [.arb, .tcpSt, .pdSt, .conSt, .fifos] ⊆ M) (h : was.KeepsBut M s) :
    was.KeepsBut M (s.pdEnd p modeCause muxCause) := by
  unfold State.pdEnd
  repeat' with_reducible first
    | assumption | exact Subset.trans (by decide) hM | apply put | apply pdWith | apply modeExit | apply endRaise | apply endReserve
    | apply endContract

theorem pdStop {p} (hM : [.arb, .tcpSt, .pdSt, .conSt, .fifos] ⊆ M) (h : was.KeepsBut M s) : was.KeepsBut M (s.pdStop p) :=
  pdWith (Subset.trans (by decide) hM) (put (pdEnd hM h))

theorem pdDetach {p} (hM : [.arb, .tcpSt, .pdSt, .conSt, .fifos] ⊆ M) (h : was.KeepsBut M s) : was.KeepsBut M (s.pdDetach p) := by
  unfold State.pdDetach
  repeat' with_reducible first | assumption | exact Subset.trans (by decide) hM | apply wr | apply pdWith | apply pdEnd

theorem vsetLoad {p} (hM : [.vbsSt] ⊆ M) (h : was.KeepsBut M s) : was.KeepsBut M (s.vsetLoad p) := by
  unfold State.vsetLoad
  repeat' with_reducible first | assumption | apply vbsWith

theorem vbsOpenTo {p cause keep dest} (hM : [.freeCount, .arb, .u2pSt, .sspSt, .upLink, .vbsSt, .tcpSt, .pdSt, .conSt, .lheSt, .fifos,
    .graver] ⊆ M) (h : was.KeepsBut M s) : was.KeepsBut M (s.vbsOpenTo p cause keep dest) := by
  unfold State.vbsOpenTo
  repeat' with_reducible first
    | assumption | exact Subset.trans (by decide) hM | apply ite | apply put | apply raisePort | apply vbsWith | apply usbEval
    | apply withdraw | apply opDone | apply returnGrant | apply rpApply | apply pdStop | apply vsetLoad

theorem vbsOpen {p cause} (hM : [.freeCount, .arb, .u2pSt, .sspSt, .upLink, .vbsSt, .tcpSt, .pdSt, .conSt, .lheSt, .fifos, .graver] ⊆ M)
    (h : was.KeepsBut M s) : was.KeepsBut M (s.vbsOpen p cause) :=
  vbsOpenTo hM h

theorem laneMux {p on} (h : was.KeepsBut M s) : was.KeepsBut M (s.laneMux p on) := by
  unfold State.laneMux
  repeat' first | (with_reducible first | assumption | apply setFlag) | split

theorem ccEnd {p dest detachCause muxCause vbusCause} (hM : [.freeCount, .arb, .u2pSt, .sspSt, .upLink, .vbsSt, .tcpSt, .pdSt, .conSt,
    .lheSt, .fifos, .graver] ⊆ M) (h : was.KeepsBut M s) : was.KeepsBut M (s.ccEnd p dest detachCause muxCause vbusCause) := by
  unfold State.ccEnd
  repeat' with_reducible first
    | assumption | exact Subset.trans (by decide) hM | apply ite | apply put | apply raisePort | apply tcpWith | apply usbEval
    | apply ssForget | apply capMark | apply rpApply | apply vconnOff | apply muxEnd | apply pdDetach | apply vbsOpen | apply laneMux

theorem recordRow {p row} (hM : [.tcpSt] ⊆ M) (h : was.KeepsBut M s) : was.KeepsBut M (s.recordRow p row) :=
  setFlag (setFlag (tcpWith hM h))

theorem ccEval {p} (hM : [.vbsSt, .tcpSt] ⊆ M) (h : was.KeepsBut M s) : was.KeepsBut M (s.ccEval p) := by
  unfold State.ccEval
  dsimp only
  repeat' first
    | with_reducible first
      | assumption | exact Subset.trans (by decide) hM | apply put | apply setFlag | apply rpApply | apply recordRow
    | split

theorem toUnattached {p} (hM : [.freeCount, .u2pSt, .sspSt, .upLink, .vbsSt, .tcpSt, .lheSt, .fifos, .graver] ⊆ M) (h : was.KeepsBut M s)
    : was.KeepsBut M (s.toUnattached p) :=
  ccEval (Subset.trans (by decide) hM) (usbEval (Subset.trans (by decide) hM) (rpApply (Subset.trans (by decide) hM) (put (put h))))

theorem toRecovery {p} (hM : [.freeCount, .arb, .u2pSt, .sspSt, .upLink, .vbsSt, .tcpSt, .pdSt, .conSt, .lheSt, .fifos, .graver] ⊆ M)
    (h : was.KeepsBut M s) : was.KeepsBut M (s.toRecovery p) :=
  count (ccEnd hM h)

theorem quarEnter {p cause} (hM : [.freeCount, .arb, .u2pSt, .sspSt, .upLink, .vbsSt, .tcpSt, .pdSt, .conSt, .lheSt, .health, .fifos,
    .graver] ⊆ M) (h : was.KeepsBut M s) : was.KeepsBut M (s.quarEnter p cause) :=
  raisePort (Subset.trans (by decide) hM) (usbEval (Subset.trans (by decide) hM) (healthWith (Subset.trans (by decide) hM) (vbsWith
    (Subset.trans (by decide) hM) (put (put (powerFails (Subset.trans (by decide) hM) (ccEnd (Subset.trans (by decide) hM) (put h))))))))

theorem setCptByte {i a v} (h : was.KeepsBut M s) : was.KeepsBut M (s.setCptByte i a v) :=
  wr h

theorem overChange {p} (hM : [.u2pSt, .sspSt, .upLink] ⊆ M) (h : was.KeepsBut M s) : was.KeepsBut M (s.overChange p) := by
  unfold State.overChange
  repeat' first
    | with_reducible first
      | assumption | exact Subset.trans (by decide) hM | apply addChg | apply addSsChg | apply maskWake
    | split

theorem compatTrip {p cause} (hM : [.freeCount, .arb, .u2pSt, .sspSt, .upLink, .vbsSt, .tcpSt, .pdSt, .conSt, .lheSt, .fifos, .graver] ⊆
    M) (h : was.KeepsBut M s) : was.KeepsBut M (s.compatTrip p cause) :=
  foldl (fun _ _ h' => u2Eval (Subset.trans (by decide) hM) (vbsOpen hM (setPowerBit h'))) (raisePort (Subset.trans (by decide) hM) (count
    (foldl (fun _ _ h' => overChange (Subset.trans (by decide) hM) h') (setCptByte h))))

theorem trip {p code} (hM : [.freeCount, .arb, .u2pSt, .sspSt, .upLink, .vbsSt, .tcpSt, .pdSt, .conSt, .lheSt, .health, .fifos, .graver]
    ⊆ M) (h : was.KeepsBut M s) : was.KeepsBut M (s.trip p code) := by
  unfold State.trip
  repeat' with_reducible first
    | assumption | exact Subset.trans (by decide) hM | apply ite | apply put | apply raisePort | apply vbsWith | apply countErr
    | apply powerFails | apply muxEnd | apply vbsOpen | apply ccEnd | apply quarEnter | apply overChange | apply compatTrip

theorem askTurnOn {p} (hM : [.arb, .vbsSt] ⊆ M) (h : was.KeepsBut M s) : was.KeepsBut M (s.askTurnOn p) :=
  ite (ite (vbsWith (Subset.trans (by decide) hM) h) h) (ite (vbsWith (Subset.trans (by decide) hM) h) (askLeave
    (Subset.trans (by decide) hM) (put h)))

theorem askReserve {p} (hM : [.arb, .pdSt] ⊆ M) (h : was.KeepsBut M s) : was.KeepsBut M (s.askReserve p) :=
  ite (askLeave (Subset.trans (by decide) hM) (pdWith (Subset.trans (by decide) hM) h)) h

theorem askAgain {p} (hM : [.arb, .vbsSt, .pdSt] ⊆ M) (h : was.KeepsBut M s) : was.KeepsBut M (s.askAgain p) :=
  ite (ite (askReserve (Subset.trans (by decide) hM) h) h) (askTurnOn (Subset.trans (by decide) hM) h)

theorem askAtOnce {p} (hM : [.arb, .vbsSt, .pdSt] ⊆ M) (h : was.KeepsBut M s) : was.KeepsBut M (s.askAtOnce p) :=
  ite (askLeave (Subset.trans (by decide) hM) (put h)) (askAgain hM h)

theorem announce {p} (hM : [.arb, .vbsSt, .tcpSt, .fifos, .graver] ⊆ M) (h : was.KeepsBut M s) : was.KeepsBut M (s.announce p) :=
  askTurnOn (Subset.trans (by decide) hM) (ite (raisePort (Subset.trans (by decide) hM) (tcpWith (Subset.trans (by decide) hM) (capMark
    (Subset.trans (by decide) hM) (count h)))) (raisePort (Subset.trans (by decide) hM) (tcpWith (Subset.trans (by decide) hM) (capMark
    (Subset.trans (by decide) hM) (count h)))))

theorem turnOnGranted {p} (hM : [.freeCount, .arb, .vbsSt, .tcpSt, .pdSt, .fifos] ⊆ M) (h : was.KeepsBut M s) :
    was.KeepsBut M (s.turnOnGranted p) := by
  unfold State.turnOnGranted
  repeat' with_reducible first
    | assumption | exact Subset.trans (by decide) hM | apply ite | apply put | apply vbsWith | apply opDone | apply returnGrant
    | apply setLimit | apply rpApply | apply vconnStart | apply routeBy | apply vsetLoad | apply laneMux

/-! ### The definitions of Machine/PdCore.lean -/

theorem setPe {p v} (h : was.KeepsBut M s) : was.KeepsBut M (s.setPe p v) :=
  put h

theorem pdSay {p kind objs bytes prime} (hM : [.pdSt] ⊆ M) (h : was.KeepsBut M s) : was.KeepsBut M (s.pdSay p kind objs bytes prime) := by
  unfold State.pdSay
  repeat' with_reducible first | assumption | apply pdWith

theorem pdFresh {p} (hM : [.pdSt] ⊆ M) (h : was.KeepsBut M s) : was.KeepsBut M (s.pdFresh p) :=
  pdWith hM h

theorem pdAck {p prime} (hM : [.pdSt] ⊆ M) (h : was.KeepsBut M s) : was.KeepsBut M (s.pdAck p prime) :=
  pdWith hM h

theorem sayCaps {p epr ws} (hM : [.pdSt] ⊆ M) (h : was.KeepsBut M s) : was.KeepsBut M (s.sayCaps p epr ws) :=
  ite (pdSay hM (pdSay hM h)) (pdSay hM h)

theorem toReady {p} (hM : [.vbsSt, .pdSt] ⊆ M) (h : was.KeepsBut M s) : was.KeepsBut M (s.toReady p) :=
  pdKick hM (rpApply (Subset.trans (by decide) hM) (pdWith (Subset.trans (by decide) hM) (setPe h)))

theorem sendCaps {p} (hM : [.pdSt] ⊆ M) (h : was.KeepsBut M s) : was.KeepsBut M (s.sendCaps p) :=
  ite (put (pdWith hM (sayCaps hM (noteOffer hM h)))) (pdWith hM (sayCaps hM (noteOffer hM h)))

theorem startCaps {p} (hM : [.vbsSt, .pdSt] ⊆ M) (h : was.KeepsBut M s) : was.KeepsBut M (s.startCaps p) :=
  rpApply (Subset.trans (by decide) hM) (sendCaps (Subset.trans (by decide) hM) (pdWith (Subset.trans (by decide) hM) (setPe h)))

theorem revOpen {p} (h : was.KeepsBut M s) : was.KeepsBut M (s.revOpen p) :=
  ite (put h) h

theorem pdStart {p} (hM : [.pdSt] ⊆ M) (h : was.KeepsBut M s) : was.KeepsBut M (s.pdStart p) :=
  ite (pdWith hM (setPe (revOpen h))) (pdWith hM (setPe h))

theorem noteSoft {p sent} (hM : [.pdSt, .fifos] ⊆ M) (h : was.KeepsBut M s) : was.KeepsBut M (s.noteSoft p sent) :=
  pdWith (Subset.trans (by decide) hM) (raisePort (Subset.trans (by decide) hM) (count h))

theorem sendSoft {p} (hM : [.arb, .pdSt, .fifos] ⊆ M) (h : was.KeepsBut M s) : was.KeepsBut M (s.sendSoft p) :=
  pdWith (Subset.trans (by decide) hM) (noteSoft (Subset.trans (by decide) hM) (pdSay (Subset.trans (by decide) hM) (setPe (put (endRaise
    (Subset.trans (by decide) hM) h)))))

theorem softDone {p} (hM : [.vbsSt, .pdSt] ⊆ M) (h : was.KeepsBut M s) : was.KeepsBut M (s.softDone p) :=
  ite (startCaps hM h) (pdWith (Subset.trans (by decide) hM) (setPe h))

theorem swapEvent {p kind outcome} (hM : [.fifos] ⊆ M) (h : was.KeepsBut M s) : was.KeepsBut M (s.swapEvent p kind outcome) :=
  raisePort hM h

theorem swapBroken {p} (hM : [.pdSt, .fifos] ⊆ M) (h : was.KeepsBut M s) : was.KeepsBut M (s.swapBroken p) := by
  unfold State.swapBroken
  repeat' first | (with_reducible first | assumption | exact Subset.trans (by decide) hM | apply pdWith | apply swapEvent) | split

theorem frsFail {p} (hM : [.freeCount, .arb, .u2pSt, .sspSt, .upLink, .vbsSt, .tcpSt, .pdSt, .conSt, .lheSt, .fifos, .graver] ⊆ M)
    (h : was.KeepsBut M s) : was.KeepsBut M (s.frsFail p) :=
  toRecovery hM (vbsOpen hM (swapEvent (Subset.trans (by decide) hM) h))

theorem pdOff {p} (hM : [.arb, .vbsSt, .tcpSt, .pdSt, .conSt, .fifos] ⊆ M) (h : was.KeepsBut M s) : was.KeepsBut M (s.pdOff p) :=
  rpApply (Subset.trans (by decide) hM) (ite (put (put (pdWith (Subset.trans (by decide) hM) (setPe (pdEnd (Subset.trans (by decide) hM)
    h))))) (pdWith (Subset.trans (by decide) hM) (setPe (pdEnd (Subset.trans (by decide) hM) h))))

theorem hardReset {p sent reason} (hM : [.freeCount, .arb, .u2pSt, .sspSt, .upLink, .vbsSt, .tcpSt, .pdSt, .conSt, .lheSt, .fifos,
    .graver] ⊆ M) (h : was.KeepsBut M s) : was.KeepsBut M (s.hardReset p sent reason) := by
  unfold State.hardReset
  repeat' with_reducible first
    | assumption | exact Subset.trans (by decide) hM | apply ite | apply put | apply raisePort | apply pdWith | apply countErr
    | apply rpApply | apply pdEnd | apply vbsOpen | apply setPe | apply pdSay | apply swapBroken | apply frsFail | apply pdOff

theorem protoErr {p num cls hard} (hM : [.fifos] ⊆ M) (h : was.KeepsBut M s) : was.KeepsBut M (s.protoErr p num cls hard) :=
  raisePort hM (countErr h)

theorem sayNotSupported {p} (hM : [.pdSt] ⊆ M) (h : was.KeepsBut M s) : was.KeepsBut M (s.sayNotSupported p) :=
  pdSay hM h

theorem unexpected {p num cls} (hM : [.freeCount, .arb, .u2pSt, .sspSt, .upLink, .vbsSt, .tcpSt, .pdSt, .conSt, .lheSt, .fifos, .graver]
    ⊆ M) (h : was.KeepsBut M s) : was.KeepsBut M (s.unexpected p num cls) :=
  ite (hardReset hM (protoErr (Subset.trans (by decide) hM) h)) (ite (sayNotSupported (Subset.trans (by decide) hM) (protoErr
    (Subset.trans (by decide) hM) h)) (sendSoft (Subset.trans (by decide) hM) (protoErr (Subset.trans (by decide) hM) h)))

theorem acceptReq {p rdo mv ma10 type w} (hM : [.pdSt] ⊆ M) (h : was.KeepsBut M s) : was.KeepsBut M (s.acceptReq p rdo mv ma10 type w) :=
  pdWith hM (setPe (pdSay hM h))

theorem rejectReq {p} (hM : [.vbsSt, .pdSt] ⊆ M) (h : was.KeepsBut M s) : was.KeepsBut M (s.rejectReq p) :=
  toReady hM (pdWith (Subset.trans (by decide) hM) (pdSay (Subset.trans (by decide) hM) h))

theorem decideRequest {s0 p rdo} (hM : [.arb, .vbsSt, .pdSt] ⊆ M) (h : was.KeepsBut M s0) :
    was.KeepsBut M (State.decideRequest s0 p rdo) := by
  unfold State.decideRequest
  dsimp only
  repeat' first
    | with_reducible first
      | assumption | exact Subset.trans (by decide) hM | apply pdWith | apply askLeave | apply endRaise | apply setPe | apply pdSay
      | apply toReady | apply acceptReq | apply rejectReq
    | split

theorem raiseGrant {p} (hM : [.arb, .vbsSt, .pdSt] ⊆ M) (h : was.KeepsBut M s) : was.KeepsBut M (s.raiseGrant p) := by
  unfold State.raiseGrant
  repeat' first
    | with_reducible first
      | assumption | exact Subset.trans (by decide) hM | apply pdWith | apply opDone | apply acceptReq | apply rejectReq
    | split

theorem raiseCap {p} (hM : [.vbsSt, .pdSt] ⊆ M) (h : was.KeepsBut M s) : was.KeepsBut M (s.raiseCap p) :=
  pdKick hM (pdWith (Subset.trans (by decide) hM) (ite (pdWith (Subset.trans (by decide) hM) h) (rejectReq hM (pdWith
    (Subset.trans (by decide) hM) h))))

theorem contractDone {p} (hM : [.arb, .vbsSt, .pdSt, .fifos] ⊆ M) (h : was.KeepsBut M s) : was.KeepsBut M (s.contractDone p) :=
  pdKick (Subset.trans (by decide) hM) (offerCheck (Subset.trans (by decide) hM) (toReady (Subset.trans (by decide) hM) (raisePort
    (Subset.trans (by decide) hM) (pdWith (Subset.trans (by decide) hM) (vbsWith (Subset.trans (by decide) hM) (ite (put (put (put (put
    (put (put (put (put (put (put (opDone (Subset.trans (by decide) hM) (pdSay (Subset.trans (by decide) hM) h)))))))))))) (setLimit
    (Subset.trans (by decide) hM) (put (put (put (put (put (put (put (put (put (put (opDone (Subset.trans (by decide) hM) (pdSay
    (Subset.trans (by decide) hM) h)))))))))))))))))))

theorem frsAsk {p} (hM : [.pdSt] ⊆ M) (h : was.KeepsBut M s) : was.KeepsBut M (s.frsAsk p) :=
  ite (pdWith hM (pdSay hM h)) h

theorem sinkContract {p} (hM : [.pdSt, .fifos] ⊆ M) (h : was.KeepsBut M s) : was.KeepsBut M (s.sinkContract p) :=
  frsAsk (Subset.trans (by decide) hM) (frsEval (pdWith (Subset.trans (by decide) hM) (setPe (raisePort (Subset.trans (by decide) hM) (put
    (put (put (put (put (put (put h)))))))))))

theorem swapOver {p} (hM : [.vbsSt, .pdSt] ⊆ M) (h : was.KeepsBut M s) : was.KeepsBut M (s.swapOver p) :=
  ite (toReady hM (pdWith (Subset.trans (by decide) hM) h)) (pdStart (Subset.trans (by decide) hM) (pdWith (Subset.trans (by decide) hM)
    h))

theorem vconnTake {p} (hM : [.vbsSt, .pdSt] ⊆ M) (h : was.KeepsBut M s) : was.KeepsBut M (s.vconnTake p) :=
  ite (pdWith (Subset.trans (by decide) hM) (setPe (pdSay (Subset.trans (by decide) hM) (pdWith (Subset.trans (by decide) hM) h))))
    (swapOver hM (pdWith (Subset.trans (by decide) hM) h))

theorem sendDrSwap {p} (hM : [.pdSt] ⊆ M) (h : was.KeepsBut M s) : was.KeepsBut M (s.sendDrSwap p) :=
  pdWith hM (setPe (pdSay hM h))

theorem nextSwap {p} (hM : [.vbsSt, .pdSt] ⊆ M) (h : was.KeepsBut M s) : was.KeepsBut M (s.nextSwap p) :=
  ite (sendDrSwap (Subset.trans (by decide) hM) h) (vconnTake hM h)

theorem becomeDfp {p} (hM : [.freeCount, .u2pSt, .sspSt, .upLink, .pdSt, .lheSt, .fifos, .graver] ⊆ M) (h : was.KeepsBut M s) :
    was.KeepsBut M (s.becomeDfp p) :=
  usbEval (Subset.trans (by decide) hM) (pdWith (Subset.trans (by decide) hM) (laneMux (put h)))

theorem swapToSource {p kind} (hM : [.arb, .vbsSt, .pdSt, .fifos] ⊆ M) (h : was.KeepsBut M s) : was.KeepsBut M (s.swapToSource p kind) :=
  nextSwap (Subset.trans (by decide) hM) (swapEvent (Subset.trans (by decide) hM) (rpApply (Subset.trans (by decide) hM) (pdSay
    (Subset.trans (by decide) hM) (put (pdWith (Subset.trans (by decide) hM) (opDone (Subset.trans (by decide) hM) (endContract (put (put
    h)))))))))

theorem reserveCheck {p} (hM : [.arb, .pdSt] ⊆ M) (h : was.KeepsBut M s) : was.KeepsBut M (s.reserveCheck p) :=
  ite h (endReserve hM h)

theorem swapTried {p outcome} (hM : [.arb, .pdSt, .fifos] ⊆ M) (h : was.KeepsBut M s) : was.KeepsBut M (s.swapTried p outcome) := by
  unfold State.swapTried
  repeat' first
    | with_reducible first
      | assumption | exact Subset.trans (by decide) hM | apply ite | apply pdWith | apply setPe | apply swapEvent | apply reserveCheck
    | split

theorem swapRefused {p outcome} (hM : [.arb, .vbsSt, .pdSt, .fifos] ⊆ M) (h : was.KeepsBut M s) :
    was.KeepsBut M (s.swapRefused p outcome) :=
  ite (vconnTake (Subset.trans (by decide) hM) (swapTried (Subset.trans (by decide) hM) h)) (ite (swapOver (Subset.trans (by decide) hM)
    (swapTried (Subset.trans (by decide) hM) h)) (swapTried (Subset.trans (by decide) hM) h))

/-! ### The definitions of Machine/Vbs.lean -/

theorem adcRecord {p vbus vreg sense} (hM : [.sspSt, .vbsSt, .tcpSt] ⊆ M) (h : was.KeepsBut M s) :
    was.KeepsBut M (s.adcRecord p vbus vreg sense) := by
  unfold State.adcRecord
  repeat' first
    | split
    | with_reducible first
      | assumption | exact Subset.trans (by decide) hM | apply put | apply setFlag | apply sspWith | apply vbsWith | apply tcpWith

theorem adcSink {p vbus} (hM : [.pdSt] ⊆ M) (h : was.KeepsBut M s) : was.KeepsBut M (s.adcSink p vbus) :=
  ite h (ite (pdWith hM h) (ite (pdWith hM h) h))

theorem adcSafe {p} (hM : [.arb, .vbsSt] ⊆ M) (h : was.KeepsBut M s) : was.KeepsBut M (s.adcSafe p) :=
  ite (ite (askTurnOn hM (vbsWith (Subset.trans (by decide) hM) (vbsWith (Subset.trans (by decide) hM) h))) (vbsWith
    (Subset.trans (by decide) hM) h)) h

theorem vsetMove {p} (hM : [.vbsSt] ⊆ M) (h : was.KeepsBut M s) : was.KeepsBut M (s.vsetMove p) :=
  ite (ite h (vbsWith hM h)) (vbsWith hM h)

theorem adcTrim {s0 p vbus vreg} (hM : [.vbsSt] ⊆ M) (h : was.KeepsBut M s0) : was.KeepsBut M (State.adcTrim s0 p vbus vreg) :=
  ite (setFlag (vbsWith hM (vsetLoad hM h))) h

theorem vbusReached {p} (hM : [.freeCount, .arb, .u2pSt, .sspSt, .upLink, .vbsSt, .pdSt, .lheSt, .fifos, .graver] ⊆ M)
    (h : was.KeepsBut M s) : was.KeepsBut M (s.vbusReached p) :=
  ite (swapToSource (Subset.trans (by decide) hM) (bcDecide (Subset.trans (by decide) hM) (rpApply (Subset.trans (by decide) hM) (setLimit
    (Subset.trans (by decide) hM) (vbsWith (Subset.trans (by decide) hM) (opDone (Subset.trans (by decide) hM) (raisePort
    (Subset.trans (by decide) hM) (put h)))))))) (pdStart (Subset.trans (by decide) hM) (bcDecide (Subset.trans (by decide) hM) (rpApply
    (Subset.trans (by decide) hM) (setLimit (Subset.trans (by decide) hM) (vbsWith (Subset.trans (by decide) hM) (opDone
    (Subset.trans (by decide) hM) (raisePort (Subset.trans (by decide) hM) (put h))))))))

theorem adcPps {p} (h : was.KeepsBut M s) : was.KeepsBut M (s.adcPps p) :=
  ite (ite (put h) (ite (put h) h)) h

theorem adcFall {p} (hM : [.vbsSt] ⊆ M) (h : was.KeepsBut M s) : was.KeepsBut M (s.adcFall p) :=
  ite (ite (vbsWith hM h) (vbsWith hM (setLimit hM h))) (vbsWith hM h)

theorem adcMove {p prior near} (hM : [.arb, .vbsSt, .pdSt, .fifos] ⊆ M) (h : was.KeepsBut M s) :
    was.KeepsBut M (s.adcMove p prior near) :=
  ite (ite (contractDone hM (setFlag h)) (vbsWith (Subset.trans (by decide) hM) (put (put (setFlag h))))) (setFlag h)

theorem adcSample {p vbus vreg sense} (hM : [.freeCount, .arb, .u2pSt, .sspSt, .upLink, .vbsSt, .tcpSt, .pdSt, .conSt, .lheSt, .health,
    .fifos, .graver] ⊆ M) (h : was.KeepsBut M s) : was.KeepsBut M (s.adcSample p vbus vreg sense) := by
  unfold State.adcSample
  repeat' with_reducible first
    | assumption | exact Subset.trans (by decide) hM | apply ite | apply trip | apply adcRecord | apply adcSink | apply adcSafe
    | apply vsetMove | apply adcTrim | apply vbusReached | apply adcPps | apply adcFall | apply adcMove

theorem startClosing {p} (h : was.KeepsBut M s) : was.KeepsBut M (s.startClosing p) :=
  put (put (put h))

theorem checkClose {p} (hM : [.freeCount, .arb, .u2pSt, .sspSt, .upLink, .vbsSt, .tcpSt, .pdSt, .conSt, .lheSt, .health, .fifos,
    .graver] ⊆ M) (h : was.KeepsBut M s) : was.KeepsBut M (s.checkClose p) :=
  ite (trip hM h) (ite (trip hM h) (startClosing h))

theorem retryAsk {p} (hM : [.arb, .vbsSt, .tcpSt, .fifos, .graver] ⊆ M) (h : was.KeepsBut M s) : was.KeepsBut M (s.retryAsk p) :=
  announce hM (count h)

theorem execRetryIntEnd_leads {p held} (hM : [.freeCount, .arb, .u2pSt, .sspSt, .upLink, .vbsSt, .tcpSt, .lheSt, .fifos, .graver] ⊆ M)
    (h : was.KeepsBut M s) : was.LeadsBut M (execRetryIntEnd p held s) :=
  next (ite (ite (askTurnOn (Subset.trans (by decide) hM) (ite (put (vbsWith (Subset.trans (by decide) hM) h)) (vbsWith
    (Subset.trans (by decide) hM) h))) (ite (retryAsk (Subset.trans (by decide) hM) (rpApply (Subset.trans (by decide) hM) (put (recordRow
    (Subset.trans (by decide) hM) (ite (put (vbsWith (Subset.trans (by decide) hM) h)) (vbsWith (Subset.trans (by decide) hM) h))))))
    (toUnattached (Subset.trans (by decide) hM) (ite (put (vbsWith (Subset.trans (by decide) hM) h)) (vbsWith
    (Subset.trans (by decide) hM) h))))) h)

theorem forceOffChanged {p} (hM : [.freeCount, .arb, .u2pSt, .sspSt, .upLink, .vbsSt, .tcpSt, .pdSt, .conSt, .lheSt, .fifos, .graver] ⊆ M)
    (h : was.KeepsBut M s) : was.KeepsBut M (s.forceOffChanged p) :=
  ite (put (vbsOpen hM (endReserve (Subset.trans (by decide) hM) h))) (askAgain (Subset.trans (by decide) hM) h)

/-! ### The definitions of Machine/Tcp.lean -/

theorem upClassify {u l1 l2} (h : was.KeepsBut M s) : was.KeepsBut M (s.upClassify u l1 l2) :=
  ite h (ite (ite h (put (put h))) (put (ite h (put (setFlag h)))))

theorem execCcClassify_leads {pp cc1 cc2} (hM : [.vbsSt, .tcpSt] ⊆ M) (h : was.KeepsBut M s) :
    was.LeadsBut M (execCcClassify pp cc1 cc2 s) := by
  unfold execCcClassify
  repeat' first | (with_reducible first | assumption | apply next | apply put | apply ccEval | apply upClassify) | split

theorem audioAttach {p} (hM : [.freeCount, .u2pSt, .sspSt, .upLink, .vbsSt, .tcpSt, .lheSt, .fifos, .graver] ⊆ M) (h : was.KeepsBut M s) :
    was.KeepsBut M (s.audioAttach p) :=
  raisePort (Subset.trans (by decide) hM) (usbEval (Subset.trans (by decide) hM) (rpApply (Subset.trans (by decide) hM) (put (tcpWith
    (Subset.trans (by decide) hM) (capMark (Subset.trans (by decide) hM) (count (recordRow (Subset.trans (by decide) hM) h)))))))

theorem execAttach_leads {p} (hM : [.freeCount, .arb, .u2pSt, .sspSt, .upLink, .vbsSt, .tcpSt, .lheSt, .fifos, .graver] ⊆ M)
    (h : was.KeepsBut M s) : was.LeadsBut M (execAttach p s) :=
  next (ite (ite (audioAttach (Subset.trans (by decide) hM) h) (ite (announce (Subset.trans (by decide) hM) h) h)) h)

theorem execDetach_leads {p} (hM : [.freeCount, .arb, .u2pSt, .sspSt, .upLink, .vbsSt, .tcpSt, .pdSt, .conSt, .lheSt, .fifos, .graver] ⊆
    M) (h : was.KeepsBut M s) : was.LeadsBut M (execDetach p s) :=
  next (ite (ite (frsFail hM h) (ite h (ccEval (Subset.trans (by decide) hM) (ccEnd hM h)))) h)

theorem execDebounceLost_leads {p} (hM : [.vbsSt, .tcpSt] ⊆ M) (h : was.KeepsBut M s) : was.LeadsBut M (execDebounceLost p s) :=
  next (ite (rpApply (Subset.trans (by decide) hM) (put (recordRow (Subset.trans (by decide) hM) h))) h)

theorem execDrpToggle_leads {p} (hM : [.vbsSt] ⊆ M) (h : was.KeepsBut M s) : was.LeadsBut M (execDrpToggle p s) :=
  next (ite (ite (ite (rpApply hM (put h)) h) (ite (rpApply hM (put h)) h)) h)

theorem execTrySrc_leads {p} (hM : [.vbsSt, .tcpSt] ⊆ M) (h : was.KeepsBut M s) : was.LeadsBut M (execTrySrc p s) :=
  next (ite (rpApply (Subset.trans (by decide) hM) (tcpWith (Subset.trans (by decide) hM) (put h))) h)

theorem execTrySrcSuccess_leads {p} (hM : [.arb, .vbsSt, .tcpSt, .fifos, .graver] ⊆ M) (h : was.KeepsBut M s) :
    was.LeadsBut M (execTrySrcSuccess p s) :=
  next (ite (announce hM (rpApply (Subset.trans (by decide) hM) (put (count (recordRow (Subset.trans (by decide) hM) h))))) h)

theorem execTryTimeout_leads {p} (hM : [.vbsSt, .tcpSt] ⊆ M) (h : was.KeepsBut M s) : was.LeadsBut M (execTryTimeout p s) :=
  next (ite (rpApply (Subset.trans (by decide) hM) (tcpWith (Subset.trans (by decide) hM) (put (put h)))) h)

theorem execSinkAttach_leads {p} (hM : [.freeCount, .u2pSt, .sspSt, .upLink, .vbsSt, .tcpSt, .lheSt, .fifos, .graver] ⊆ M)
    (h : was.KeepsBut M s) : was.LeadsBut M (execSinkAttach p s) :=
  next (ite (raisePort (Subset.trans (by decide) hM) (usbEval (Subset.trans (by decide) hM) (rpApply (Subset.trans (by decide) hM) (put
    (ite (setPe (revOpen (put (put (tcpWith (Subset.trans (by decide) hM) (capMark (Subset.trans (by decide) hM) (count (put (setFlag (put
    h)))))))))) (setPe (put (put (tcpWith (Subset.trans (by decide) hM) (capMark (Subset.trans (by decide) hM) (count (put (setFlag (put
    h)))))))))))))) h)

theorem tripHolds {p} (hM : [.freeCount] ⊆ M) (h : was.KeepsBut M s) : was.KeepsBut M (s.tripHolds p).2 := by
  unfold State.tripHolds
  repeat' first | (with_reducible first | assumption | apply free) | split

theorem recoverNow {p} (hM : [.freeCount, .arb, .u2pSt, .sspSt, .upLink, .vbsSt, .tcpSt, .pdSt, .conSt, .lheSt, .fifos, .graver] ⊆ M)
    (h : was.KeepsBut M s) : was.KeepsBut M (s.recoverNow p) :=
  ite (tripHolds (Subset.trans (by decide) hM) h) (ite (toRecovery hM (tripHolds (Subset.trans (by decide) hM) h)) h)

theorem cableFail {p} (hM : [.vbsSt, .pdSt, .fifos] ⊆ M) (h : was.KeepsBut M s) : was.KeepsBut M (s.cableFail p) :=
  pdKick (Subset.trans (by decide) hM) (offerCheck (Subset.trans (by decide) hM) (raisePort (Subset.trans (by decide) hM) (pdWith
    (Subset.trans (by decide) hM) (put (put (put (put (put (put h)))))))))

theorem execVconnTrip_leads {p} (hM : [.vbsSt, .tcpSt, .pdSt, .fifos] ⊆ M) (h : was.KeepsBut M s) : was.LeadsBut M (execVconnTrip p s) :=
  next (ite (cableFail (Subset.trans (by decide) hM) (tcpWith (Subset.trans (by decide) hM) (countErr (setFault (vconnOff
    (Subset.trans (by decide) hM) h))))) h)

theorem ccDisable {p detachCause muxCause vbusCause} (hM : [.freeCount, .arb, .u2pSt, .sspSt, .upLink, .vbsSt, .tcpSt, .pdSt, .conSt,
    .lheSt, .fifos, .graver] ⊆ M) (h : was.KeepsBut M s) : was.KeepsBut M (s.ccDisable p detachCause muxCause vbusCause) :=
  ite h (ccEnd hM h)

theorem ccStart {p} (hM : [.freeCount, .u2pSt, .sspSt, .upLink, .vbsSt, .tcpSt, .lheSt, .fifos, .graver] ⊆ M) (h : was.KeepsBut M s) :
    was.KeepsBut M (s.ccStart p) :=
  ite (toUnattached hM h) h

/-! ### The definitions of Machine/ConTap.lean -/

theorem conSync {p} (h : was.KeepsBut M s) : was.KeepsBut M (s.conSync p) :=
  put (put h)

theorem conReceive {p i} (hM : [.conSt] ⊆ M) (h : was.KeepsBut M s) : was.KeepsBut M (s.conReceive p i) :=
  ite (conSync (conWith hM (ite (countErr h) h))) (countErr (ite (countErr h) h))

theorem conBreak {p} (h : was.KeepsBut M s) : was.KeepsBut M (s.conBreak p) :=
  put (count h)

theorem conPop {p} (hM : [.conSt] ⊆ M) (h : was.KeepsBut M s) : was.KeepsBut M (s.conPop p).2 := by
  unfold State.conPop
  repeat' first | (with_reducible first | assumption | apply conWith | apply conSync) | split

theorem conSend {p b} (hM : [.conSt] ⊆ M) (h : was.KeepsBut M s) : was.KeepsBut M (s.conSend p b) := by
  unfold State.conSend
  repeat' first | (with_reducible first | assumption | apply count | apply conWith | apply conSync) | split

theorem conNext {p} (hM : [.conSt] ⊆ M) (h : was.KeepsBut M s) : was.KeepsBut M (s.conNext p) :=
  ite (conSync (conWith hM h)) (conWith hM h)

theorem conEmpty {p} (hM : [.conSt] ⊆ M) (h : was.KeepsBut M s) : was.KeepsBut M (s.conEmpty p) :=
  put (conSync (conWith hM h))

theorem conSafe {p} (hM : [.conSt, .fifos] ⊆ M) (h : was.KeepsBut M s) : was.KeepsBut M (s.conSafe p) :=
  conEmpty (Subset.trans (by decide) hM) (muxOpen hM h)

theorem conRestore {p} (hM : [.freeCount, .fifos] ⊆ M) (h : was.KeepsBut M s) : was.KeepsBut M (s.conRestore p) :=
  ite (muxRoute hM h) h

/-! ### The definitions of Machine/Drc.lean -/

/-- A change of the DRAM controller that leaves the memory. -/
theorem dramWith {f} (hM : [.dram] ⊆ M) (h : was.KeepsBut M s)
    (hf : ∀ d, (f d).mem = d.mem ∧ (f d).geom = d.geom ∧ (f d).epoch = d.epoch ∧ (f d).zeroed = d.zeroed) :
    was.KeepsBut M (s.dramWith f) :=
  h.change hM rfl fun p _ hp => by
    cases p
    case dramMem => exact hf _
    all_goals trivial

/-- A change of the DRAM controller or its memory. -/
theorem dramWith_any {f} (hM : [.dram, .dramMem] ⊆ M) (h : was.KeepsBut M s) : was.KeepsBut M (s.dramWith f) :=
  h.change hM rfl fun p _ _ => by cases p <;> trivial

theorem setDrcSt {v} (h : was.KeepsBut M s) : was.KeepsBut M (s.setDrcSt v) :=
  put h

theorem eccNote {w unc cls} (hM : [.fifos, .dram] ⊆ M) (h : was.KeepsBut M s) : was.KeepsBut M (s.eccNote w unc cls) :=
  ite (raise (Subset.trans (by decide) hM) (ite (count h) (put (setFlag (put (put (count h))))))) (ite (ite (count h) (put (setFlag (put
    (put (count h)))))) (raise (Subset.trans (by decide) hM) (dramWith (Subset.trans (by decide) hM) (ite (count h) (put (setFlag (put
    (put (count h)))))) (fun _ => ⟨rfl, rfl, rfl, rfl⟩))))

theorem eccRead {w cls wb} (hM : [.fifos, .dram] ⊆ M) (h : was.KeepsBut M s) : was.KeepsBut M (s.eccRead w cls wb).2 := by
  unfold State.eccRead
  repeat' first
    | with_reducible first
      | intro _ | assumption | exact Subset.trans (by decide) hM | apply eccNote | apply dramWith
    | exact ⟨rfl, rfl, rfl, rfl⟩ | split

theorem dramRead {a n cls} (hM : [.fifos, .dram] ⊆ M) (h : was.KeepsBut M s) : was.KeepsBut M (s.dramRead a n cls).2.2 :=
  foldl_snd (fun _ _ h' => eccRead hM h') h

theorem dramWriteWord {a bs w cls} (hM : [.fifos, .dram, .dramMem] ⊆ M) (h : was.KeepsBut M s) :
    was.KeepsBut M (s.dramWriteWord a bs w cls).2 := by
  unfold State.dramWriteWord
  repeat' first
    | split
    | with_reducible first
      | assumption | exact Subset.trans (by decide) hM | apply eccRead | apply dramWith_any
    | refine of_snd (by with_reducible assumption) ?_

theorem dramWrite {a bs cls} (hM : [.fifos, .dram, .dramMem] ⊆ M) (h : was.KeepsBut M s) : was.KeepsBut M (s.dramWrite a bs cls).2 :=
  foldl_snd (fun _ _ h' => dramWriteWord hM h') h

theorem hostRead {u a n} (hM : [.fifos, .dram] ⊆ M) (h : was.KeepsBut M s) : was.KeepsBut M (s.hostRead u a n).2.2.2 := by
  unfold State.hostRead
  repeat' first
    | split
    | with_reducible first
      | assumption | apply count | apply dramRead
    | refine of_snd2 (by with_reducible assumption) ?_

theorem hostWrite {u a bs} (hM : [.fifos, .dram, .dramMem] ⊆ M) (h : was.KeepsBut M s) : was.KeepsBut M (s.hostWrite u a bs).2.2 := by
  unfold State.hostWrite
  repeat' first
    | split
    | with_reducible first
      | assumption | apply count | apply dramWrite
    | refine of_snd (by with_reducible assumption) ?_

theorem winBits {w load store} (h : was.KeepsBut M s) : was.KeepsBut M (s.winBits w load store) :=
  setFlag (setFlag h)

theorem setWin {w c} (hM : [.dram] ⊆ M) (h : was.KeepsBut M s) : was.KeepsBut M (s.setWin w c) :=
  dramWith hM h (fun _ => ⟨rfl, rfl, rfl, rfl⟩)

theorem winStart {w store} (hM : [.dram] ⊆ M) (h : was.KeepsBut M s) : was.KeepsBut M (s.winStart w store) := by
  unfold State.winStart
  repeat' first | (with_reducible first | assumption | apply put | apply count | apply setFault | apply winBits | apply setWin) | split

theorem winFill {w n bs} (hM : [.bad] ⊆ M) (h : was.KeepsBut M s) : was.KeepsBut M (s.winFill w n bs) :=
  foldl (fun _ _ h' => putRw hM h') h

theorem winAct {w c n} (hM : [.bad, .fifos, .dram, .dramMem] ⊆ M) (h : was.KeepsBut M s) : was.KeepsBut M (s.winAct w c n).2 := by
  unfold State.winAct
  repeat' first
    | split
    | with_reducible first
      | assumption | exact Subset.trans (by decide) hM | apply dramRead | apply dramWrite | apply winFill
    | refine of_snd (by with_reducible assumption) ?_ | refine of_snd2 (by with_reducible assumption) ?_

theorem execWindowCommandEnd_leads {w} (hM : [.bad, .fifos, .dram, .dramMem] ⊆ M) (h : was.KeepsBut M s) :
    was.LeadsBut M (execWindowCommandEnd w s) := by
  unfold execWindowCommandEnd
  repeat' first
    | split
    | with_reducible first
      | assumption | exact Subset.trans (by decide) hM | apply next | apply put | apply setFault | apply winBits | apply setWin
      | apply winAct
    | refine of_snd (by with_reducible assumption) ?_

theorem winCut {w result} (hM : [.freeCount, .bad, .fifos, .dram, .dramMem] ⊆ M) (h : was.KeepsBut M s) :
    was.KeepsBut M (s.winCut w result) := by
  unfold State.winCut
  repeat' first
    | split
    | with_reducible first
      | assumption | exact Subset.trans (by decide) hM | apply put | apply free | apply winBits | apply setWin | apply winAct
    | refine of_snd (by with_reducible assumption) ?_

theorem winSafe (hM : [.freeCount, .bad, .fifos, .dram, .dramMem] ⊆ M) (h : was.KeepsBut M s) : was.KeepsBut M s.winSafe :=
  ite (winCut hM (ite (winCut hM h) h)) (ite (winCut hM h) h)

theorem drcAsk (hM : [.arb] ⊆ M) (h : was.KeepsBut M s) : was.KeepsBut M s.drcAsk :=
  askLeave hM (setDrcSt h)

theorem drcReady (hM : [.dram, .dramMem] ⊆ M) (h : was.KeepsBut M s) : was.KeepsBut M s.drcReady :=
  put (put (setDrcSt (dramWith_any hM h)))

theorem execTrainingEnd_leads {laneFail} (hM : [.arb, .dram, .dramMem] ⊆ M) (h : was.KeepsBut M s) :
    was.LeadsBut M (execTrainingEnd laneFail s) := by
  unfold execTrainingEnd
  repeat' with_reducible first
    | assumption | exact Subset.trans (by decide) hM | apply iteO | apply next | apply put | apply count | apply opDone | apply setDrcSt
    | apply drcAsk | apply drcReady | apply dramWith_any

theorem eccUpset {e} (hM : [.freeCount, .dram, .dramMem] ⊆ M) (h : was.KeepsBut M s) : was.KeepsBut M (s.eccUpset e) :=
  ite (dramWith_any (Subset.trans (by decide) hM) (free (Subset.trans (by decide) hM) (free (Subset.trans (by decide) hM) h)))
    (dramWith_any (Subset.trans (by decide) hM) h)

theorem scrubStep (hM : [.fifos, .dram] ⊆ M) (h : was.KeepsBut M s) : was.KeepsBut M s.scrubStep :=
  put (ite (count (dramWith (Subset.trans (by decide) hM) (foldl (fun _ _ h' => eccRead hM h') h) (fun _ => ⟨rfl, rfl, rfl, rfl⟩)))
    (dramWith (Subset.trans (by decide) hM) (foldl (fun _ _ h' => eccRead hM h') h) (fun _ => ⟨rfl, rfl, rfl, rfl⟩)))

theorem execScrub_leads {turn} (hM : [.freeCount, .fifos, .dram, .dramMem] ⊆ M) (h : was.KeepsBut M s) :
    was.LeadsBut M (execScrub turn s) := by
  unfold execScrub
  repeat' first
    | with_reducible first
      | assumption | exact Subset.trans (by decide) hM | apply next | apply eccUpset | apply scrubStep
    | split

theorem scrubRestart (hM : [.dram] ⊆ M) (h : was.KeepsBut M s) : was.KeepsBut M s.scrubRestart :=
  put (dramWith hM h (fun _ => ⟨rfl, rfl, rfl, rfl⟩))

/-! ### The definitions of Machine/MgfCore.lean -/

theorem semFree {n} (h : was.KeepsBut M s) : was.KeepsBut M (s.semFree n) :=
  wr h

theorem semFreeBy {n e} (hM : [.fifos] ⊆ M) (h : was.KeepsBut M s) : was.KeepsBut M (s.semFreeBy n e) :=
  raise hM (semFree h)

theorem semOrphan {test} (hM : [.fifos] ⊆ M) (h : was.KeepsBut M s) : was.KeepsBut M (s.semOrphan test) :=
  foldl (fun _ _ h' => ite (semFreeBy hM h') h') h

theorem semOrphanHost {u} (hM : [.fifos] ⊆ M) (h : was.KeepsBut M s) : was.KeepsBut M (s.semOrphanHost u) :=
  semOrphan hM h

theorem mgfWith {u f} (hM : [.mgfSt] ⊆ M) (h : was.KeepsBut M s) : was.KeepsBut M (s.mgfWith u f) :=
  set_mgfSt hM h

theorem mgfInstWith {u ss f} (hM : [.mgfSt] ⊆ M) (h : was.KeepsBut M s) : was.KeepsBut M (s.mgfInstWith u ss f) :=
  mgfWith hM h

theorem mgfSync {u} (h : was.KeepsBut M s) : was.KeepsBut M (s.mgfSync u) :=
  setFlag (setFlag (setFlag (setFlag (put (put h)))))

theorem emptyEps {u} (hM : [.mgfSt] ⊆ M) (h : was.KeepsBut M s) : was.KeepsBut M (s.emptyEps u).2 :=
  ite (put (mgfWith hM h)) (mgfWith hM h)

theorem clearSeqs {u} (hM : [.mgfSt] ⊆ M) (h : was.KeepsBut M s) : was.KeepsBut M (s.clearSeqs u) :=
  put (mgfWith hM h)

theorem stageMet {u} (hM : [.freeCount] ⊆ M) (h : was.KeepsBut M s) : was.KeepsBut M (s.stageMet u).2 := by
  unfold State.stageMet
  repeat' first | (with_reducible first | assumption | apply free) | split

theorem fnReset {u ss kind} (hM : [.freeCount, .mgfSt, .fifos] ⊆ M) (h : was.KeepsBut M s) : was.KeepsBut M (s.fnReset u ss kind) :=
  ite (raisePres (Subset.trans (by decide) hM) (mgfSync (setFlag (semOrphanHost (Subset.trans (by decide) hM) (count (clearSeqs
    (Subset.trans (by decide) hM) (emptyEps (Subset.trans (by decide) hM) (mgfWith (Subset.trans (by decide) hM) (stageMet
    (Subset.trans (by decide) hM) (mgfInstWith (Subset.trans (by decide) hM) h)))))))))) (mgfSync (mgfInstWith
    (Subset.trans (by decide) hM) h))

theorem fnSuspend {u ss b} (hM : [.mgfSt] ⊆ M) (h : was.KeepsBut M s) : was.KeepsBut M (s.fnSuspend u ss b) :=
  mgfSync (mgfInstWith hM h)

/-! ### The definitions of Machine/Usb2Hub.lean -/

theorem cptSeen {hc b} (h : was.KeepsBut M s) : was.KeepsBut M (s.cptSeen hc b) := by
  unfold State.cptSeen
  repeat' first | (with_reducible first | assumption | apply setCptByte) | split

theorem ctxRecord {hc e detail} (hM : [.fifos] ⊆ M) (h : was.KeepsBut M s) : was.KeepsBut M (s.ctxRecord hc e detail) := by
  unfold State.ctxRecord
  repeat' first | (with_reducible first | assumption | apply raisePres) | split

theorem ctxResumeRecord {hc cause} (hM : [.fifos] ⊆ M) (h : was.KeepsBut M s) : was.KeepsBut M (s.ctxResumeRecord hc cause) :=
  ctxRecord hM h

theorem countMerged {hc} (h : was.KeepsBut M s) : was.KeepsBut M (s.countMerged hc) := by
  unfold State.countMerged
  repeat' first | (with_reducible first | assumption | apply count) | split

theorem hostPower {p} (hM : [.freeCount, .arb, .u2pSt, .sspSt, .upLink, .vbsSt, .tcpSt, .pdSt, .conSt, .lheSt, .fifos, .graver] ⊆ M)
    (h : was.KeepsBut M s) : was.KeepsBut M (s.hostPower p) :=
  ite (askTurnOn (Subset.trans (by decide) hM) h) (vbsOpen hM h)

theorem dropHold2 {p c} (hM : [.u2pSt] ⊆ M) (h : was.KeepsBut M s) : was.KeepsBut M (s.dropHold2 p c) :=
  u2pWith hM h

theorem powerReturn {p} (hM : [.freeCount, .arb, .u2pSt, .sspSt, .upLink, .vbsSt, .tcpSt, .pdSt, .conSt, .lheSt, .fifos, .graver] ⊆ M)
    (h : was.KeepsBut M s) : was.KeepsBut M (s.powerReturn p) :=
  ite (ite (ite (setU2 (hostPower hM h)) (setU2 (hostPower hM h))) (setU2 (hostPower hM h))) (hostPower hM h)

theorem setHostPower {hc p} (hM : [.freeCount, .arb, .u2pSt, .sspSt, .upLink, .vbsSt, .tcpSt, .pdSt, .conSt, .lheSt, .fifos, .graver,
    .cpt] ⊆ M) (h : was.KeepsBut M s) : was.KeepsBut M (s.setHostPower hc p) :=
  foldl (fun _ _ h' => ite (powerReturn (Subset.trans (by decide) hM) (dropHold2 (Subset.trans (by decide) hM) (setPowerBit h')))
    (dropHold2 (Subset.trans (by decide) hM) (setPowerBit h'))) (ite (cptWith (Subset.trans (by decide) hM) h) h)

theorem powerOffPort {p} (hM : [.freeCount, .arb, .u2pSt, .sspSt, .upLink, .vbsSt, .tcpSt, .pdSt, .conSt, .lheSt, .fifos, .graver] ⊆ M)
    (h : was.KeepsBut M s) : was.KeepsBut M (s.powerOffPort p) :=
  hostPower hM (u2Eval (Subset.trans (by decide) hM) (ite (u2Gone (Subset.trans (by decide) hM) h) h))

theorem clearHostPower {hc p} (hM : [.freeCount, .arb, .u2pSt, .sspSt, .upLink, .vbsSt, .tcpSt, .pdSt, .conSt, .lheSt, .fifos, .graver,
    .cpt] ⊆ M) (h : was.KeepsBut M s) : was.KeepsBut M (s.clearHostPower hc p) :=
  ite (ite (powerOffPort (Subset.trans (by decide) hM) (dropHold2 (Subset.trans (by decide) hM) (setPowerBit h))) (dropHold2
    (Subset.trans (by decide) hM) (setPowerBit h))) (ite (foldl (fun _ _ h' => ite (powerOffPort (Subset.trans (by decide) hM) (dropHold2
    (Subset.trans (by decide) hM) (setPowerBit h'))) (dropHold2 (Subset.trans (by decide) hM) (setPowerBit h'))) (cptWith
    (Subset.trans (by decide) hM) h)) (cptWith (Subset.trans (by decide) hM) h))

theorem ctxResetPort {hc p} (hM : [.freeCount, .arb, .u2pSt, .sspSt, .upLink, .vbsSt, .tcpSt, .pdSt, .conSt, .lheSt, .fifos, .graver] ⊆ M)
    (h : was.KeepsBut M s) : was.KeepsBut M (s.ctxResetPort hc p) :=
  ite (powerOffPort hM (u2pWith (Subset.trans (by decide) hM) (setPowerBit h))) (u2pWith (Subset.trans (by decide) hM) (setPowerBit h))

theorem fbForget {hc} (hM : [.presSt] ⊆ M) (h : was.KeepsBut M s) : was.KeepsBut M (s.fbForget hc) := by
  unfold State.fbForget
  repeat' first | (with_reducible first | assumption | apply presWith) | split

theorem ctxResetOne {hc speed} (hM : [.freeCount, .arb, .u2pSt, .hubCtx, .sspSt, .upLink, .vbsSt, .tcpSt, .pdSt, .conSt, .presSt,
    .lheSt, .fifos, .graver, .cpt] ⊆ M) (h : was.KeepsBut M s) : was.KeepsBut M (s.ctxResetOne hc speed) := by
  unfold State.ctxResetOne
  repeat' first
    | with_reducible first
      | assumption | exact Subset.trans (by decide) hM | apply count | apply hubWith | apply cptSeen | apply ctxResumeRecord
      | apply ctxResetPort | apply fbForget | apply cptWith | refine foldl (fun _ _ _ => ?_) ?_
    | split

theorem ctxReset {hc speed} (hM : [.freeCount, .arb, .u2pSt, .hubCtx, .sspSt, .upLink, .vbsSt, .tcpSt, .pdSt, .conSt, .presSt, .mgfSt,
    .lheSt, .fifos, .graver, .cpt] ⊆ M) (h : was.KeepsBut M s) : was.KeepsBut M (s.ctxReset hc speed) := by
  unfold State.ctxReset
  repeat' first
    | with_reducible first
      | assumption | exact Subset.trans (by decide) hM | apply fnReset | apply ctxResetOne | refine foldl (fun _ _ _ => ?_) ?_
    | split

theorem execPwrHoldEnd_leads {hc ss} (hM : [.freeCount, .arb, .u2pSt, .sspSt, .upLink, .vbsSt, .tcpSt, .pdSt, .conSt, .lheSt, .fifos,
    .graver] ⊆ M) (h : was.KeepsBut M s) : was.LeadsBut M (execPwrHoldEnd hc ss s) :=
  next (foldl (fun _ _ h' => ite h' (ite (u2pWith (Subset.trans (by decide) hM) h') (vbsOpen hM (u2pWith (Subset.trans (by decide) hM)
    h')))) h)

theorem fnFollows {hc b} (hM : [.mgfSt] ⊆ M) (h : was.KeepsBut M s) : was.KeepsBut M (s.fnFollows hc b) := by
  unfold State.fnFollows
  repeat' first | (with_reducible first | assumption | apply fnSuspend) | split

theorem execContextSuspend_leads {hc} (hM : [.hubCtx, .mgfSt, .fifos] ⊆ M) (h : was.KeepsBut M s) :
    was.LeadsBut M (execContextSuspend hc s) :=
  iteO (next h) (next (ctxRecord (Subset.trans (by decide) hM) (fnFollows (Subset.trans (by decide) hM) (cptSeen (hubWith
    (Subset.trans (by decide) hM) h)))))

theorem startResume {p fromL1 cause sets} (hM : [.u2pSt] ⊆ M) (h : was.KeepsBut M s) :
    was.KeepsBut M (s.startResume p fromL1 cause sets) :=
  setU2 (u2pWith hM h)

theorem mergeDevice {hc p} (hM : [.u2pSt, .fifos] ⊆ M) (h : was.KeepsBut M s) : was.KeepsBut M (s.mergeDevice hc p) :=
  ite (startResume (Subset.trans (by decide) hM) (count h)) (ite (startResume (Subset.trans (by decide) hM) (count h)) (ctxResumeRecord
    (Subset.trans (by decide) hM) (count h)))

theorem ctxResumeOne {hc device met} (hM : [.u2pSt, .hubCtx, .mgfSt, .fifos] ⊆ M) (h : was.KeepsBut M s) :
    was.KeepsBut M (s.ctxResumeOne hc device met) := by
  unfold State.ctxResumeOne
  repeat' first
    | with_reducible first
      | assumption | exact Subset.trans (by decide) hM | apply ite | apply hubWith | apply cptSeen | apply ctxResumeRecord
      | apply countMerged | apply fnFollows | apply mergeDevice
    | split

theorem ctxResume {hc device} (hM : [.u2pSt, .hubCtx, .mgfSt, .fifos] ⊆ M) (h : was.KeepsBut M s) :
    was.KeepsBut M (s.ctxResume hc device) := by
  unfold State.ctxResume
  repeat' first | (with_reducible first | assumption | apply ctxResumeOne | refine foldl (fun _ _ _ => ?_) ?_) | split

theorem ctxDriveK {hc} (hM : [.hubCtx, .fifos] ⊆ M) (h : was.KeepsBut M s) : was.KeepsBut M (s.ctxDriveK hc) :=
  ite h (ctxResumeRecord (Subset.trans (by decide) hM) (hubWith (Subset.trans (by decide) hM) h))

theorem rootWake {u} (hM : [.u2pSt, .hubCtx, .mgfSt, .fifos] ⊆ M) (h : was.KeepsBut M s) : was.KeepsBut M (s.rootWake u) :=
  ite h (foldl (fun _ _ h' => ite h' (ctxResumeOne hM h')) (ctxDriveK (Subset.trans (by decide) hM) h))

theorem propagate {hc} (hM : [.u2pSt, .hubCtx, .mgfSt, .fifos] ⊆ M) (h : was.KeepsBut M s) : was.KeepsBut M (s.propagate hc) := by
  unfold State.propagate
  repeat' first | (with_reducible first | assumption | exact Subset.trans (by decide) hM | apply ctxDriveK | apply rootWake) | split

theorem mergeResume {p} (hM : [.u2pSt] ⊆ M) (h : was.KeepsBut M s) : was.KeepsBut M (s.mergeResume p) :=
  ite h (count (u2pWith hM h))

theorem wakePort {p upK} (hM : [.u2pSt] ⊆ M) (h : was.KeepsBut M s) : was.KeepsBut M (s.wakePort p upK) := by
  unfold State.wakePort
  repeat' first | (with_reducible first | assumption | apply count | apply startResume | apply mergeResume) | split

theorem execRemoteWake_leads {p} (hM : [.u2pSt, .hubCtx, .mgfSt, .fifos] ⊆ M) (h : was.KeepsBut M s) :
    was.LeadsBut M (execRemoteWake p s) := by
  unfold execRemoteWake
  repeat' first
    | with_reducible first
      | assumption | exact Subset.trans (by decide) hM | apply iteO | apply next | apply count | apply propagate | apply wakePort
    | split

theorem startReset {p} (hM : [.u2pSt, .fifos] ⊆ M) (h : was.KeepsBut M s) : was.KeepsBut M (s.startReset p) :=
  setU2 (count (put (u2pWith (Subset.trans (by decide) hM) (ite (raisePort (Subset.trans (by decide) hM) h) h))))

theorem payView {p c} (hM : [.u2pSt] ⊆ M) (h : was.KeepsBut M s) : was.KeepsBut M (s.payView p c) :=
  ite (u2pWith hM h) h

theorem execPortResetEnd_leads {which} (hM : [.u2pSt] ⊆ M) (h : was.KeepsBut M s) : was.LeadsBut M (execPortResetEnd which s) := by
  unfold execPortResetEnd
  repeat' first | (with_reducible first | assumption | apply next | apply put | apply setU2 | apply addChg | apply payView) | split

theorem execResumeEnd_leads {p} (hM : [.u2pSt, .fifos] ⊆ M) (h : was.KeepsBut M s) : was.LeadsBut M (execResumeEnd p s) :=
  iteO (next h) (next (raisePort (Subset.trans (by decide) hM) (setU2 (ite (addChg (Subset.trans (by decide) hM) h) h))))

theorem execL1ExitEnd_leads {p} (hM : [.u2pSt, .fifos] ⊆ M) (h : was.KeepsBut M s) : was.LeadsBut M (execL1ExitEnd p s) :=
  iteO (next h) (iteO (next (raisePort (Subset.trans (by decide) hM) (addChg (Subset.trans (by decide) hM) (setU2 (u2pWith
    (Subset.trans (by decide) hM) (put h)))))) (next (setU2 (u2pWith (Subset.trans (by decide) hM) (put h)))))

theorem portRequest {hc n dev internal} (hM : [.answer] ⊆ M) (h0 : was.KeepsBut M s) (h1 : was.KeepsBut M internal)
    (hf0 : ∀ x0 x1, was.KeepsBut M (dev x0 x1)) : was.KeepsBut M (s.portRequest hc n dev internal) := by
  unfold State.portRequest
  repeat' first | (with_reducible first | assumption | apply hf0 | apply reply) | split

theorem ctxRequest {hc act} (hM : [.answer] ⊆ M) (h : was.KeepsBut M s) (h0 : was.KeepsBut M act) :
    was.KeepsBut M (s.ctxRequest hc act) :=
  ite h0 (reply hM h)

theorem rootChgWith {hc n f} (hM : [.hubCtx] ⊆ M) (h : was.KeepsBut M s) : was.KeepsBut M (s.rootChgWith hc n f) :=
  dite (fun _ => hubWith hM h) (fun _ => h)

theorem rootPortReset {hc n} (hM : [.freeCount, .arb, .u2pSt, .hubCtx, .sspSt, .upLink, .vbsSt, .tcpSt, .pdSt, .conSt, .presSt, .mgfSt,
    .lheSt, .fifos, .graver, .cpt] ⊆ M) (h : was.KeepsBut M s) : was.KeepsBut M (s.rootPortReset hc n) :=
  ite h (rootChgWith (Subset.trans (by decide) hM) (ite (dite (fun _ => ctxResetOne (Subset.trans (by decide) hM) h) (fun _ => h)) (ite
    (fnReset (Subset.trans (by decide) hM) h) (dite (fun _ => ctxResetOne (Subset.trans (by decide) hM) h) (fun _ => fnReset
    (Subset.trans (by decide) hM) h)))))

theorem tripped {p} (hM : [.freeCount] ⊆ M) (h : was.KeepsBut M s) : was.KeepsBut M (s.tripped p).2 := by
  unfold State.tripped
  repeat' first | (with_reducible first | assumption | apply free) | split

theorem portAct {hc n dev internal} (hM : [.answer, .freeCount] ⊆ M) (h : was.KeepsBut M s) (h0 : was.KeepsBut M internal)
    (hf0 : ∀ x0 x1 x2, was.KeepsBut M x0 → was.KeepsBut M (dev x0 x1 x2)) : was.KeepsBut M (s.portAct hc n dev internal) :=
  portRequest (Subset.trans (by decide) hM) h h0 (fun _ _ => ite (reply (Subset.trans (by decide) hM) (tripped
    (Subset.trans (by decide) hM) h)) (hf0 _ _ _ (tripped (Subset.trans (by decide) hM) h)))

theorem execSetPortReset_leads {hc n} (hM : [.answer, .freeCount, .arb, .u2pSt, .hubCtx, .sspSt, .upLink, .vbsSt, .tcpSt, .pdSt, .conSt,
    .presSt, .mgfSt, .lheSt, .fifos, .graver, .cpt] ⊆ M) (h : was.KeepsBut M s) : was.LeadsBut M (execSetPortReset hc n s) :=
  next (portAct (Subset.trans (by decide) hM) h (reply (Subset.trans (by decide) hM) (rootPortReset (Subset.trans (by decide) hM) h))
    (fun _ _ _ h' => reply (Subset.trans (by decide) hM) (ite (u2pWith (Subset.trans (by decide) hM) h') (ite (ite h' (startReset
    (Subset.trans (by decide) hM) h')) h'))))

theorem execSetPortSuspend_leads {hc n} (hM : [.answer, .freeCount, .fifos] ⊆ M) (h : was.KeepsBut M s) :
    was.LeadsBut M (execSetPortSuspend hc n s) :=
  next (portAct (Subset.trans (by decide) hM) h (reply (Subset.trans (by decide) hM) h) (fun _ _ _ h' => reply
    (Subset.trans (by decide) hM) (ite (raisePort (Subset.trans (by decide) hM) (setU2 h')) h')))

theorem execClearPortSuspend_leads {hc n} (hM : [.answer, .freeCount, .u2pSt] ⊆ M) (h : was.KeepsBut M s) :
    was.LeadsBut M (execClearPortSuspend hc n s) :=
  next (portAct (Subset.trans (by decide) hM) h (reply (Subset.trans (by decide) hM) h) (fun _ _ _ h' => reply
    (Subset.trans (by decide) hM) (ite (startResume (Subset.trans (by decide) hM) h') (ite (mergeResume (Subset.trans (by decide) hM) h')
    h'))))

theorem execClearPortEnable_leads {hc n} (hM : [.answer, .freeCount, .u2pSt] ⊆ M) (h : was.KeepsBut M s) :
    was.LeadsBut M (execClearPortEnable hc n s) :=
  next (portAct (Subset.trans (by decide) hM) h (reply (Subset.trans (by decide) hM) h) (fun _ _ _ h' => reply
    (Subset.trans (by decide) hM) (ite (u2Disable (Subset.trans (by decide) hM) h') h')))

theorem execSetPortPower_leads {hc n} (hM : [.answer, .freeCount, .arb, .u2pSt, .sspSt, .upLink, .vbsSt, .tcpSt, .pdSt, .conSt, .lheSt,
    .fifos, .graver, .cpt] ⊆ M) (h : was.KeepsBut M s) : was.LeadsBut M (execSetPortPower hc n s) :=
  next (portAct (Subset.trans (by decide) hM) h (reply (Subset.trans (by decide) hM) h) (fun _ _ _ h' => reply
    (Subset.trans (by decide) hM) (setHostPower (Subset.trans (by decide) hM) h')))

theorem execClearPortPower_leads {hc n} (hM : [.answer, .freeCount, .arb, .u2pSt, .sspSt, .upLink, .vbsSt, .tcpSt, .pdSt, .conSt,
    .lheSt, .fifos, .graver, .cpt] ⊆ M) (h : was.KeepsBut M s) : was.LeadsBut M (execClearPortPower hc n s) :=
  next (portAct (Subset.trans (by decide) hM) h (reply (Subset.trans (by decide) hM) h) (fun _ _ _ h' => reply
    (Subset.trans (by decide) hM) (clearHostPower (Subset.trans (by decide) hM) h')))

theorem execSetPortTest_leads {hc n sel} (hM : [.answer, .freeCount] ⊆ M) (h : was.KeepsBut M s) :
    was.LeadsBut M (execSetPortTest hc n sel s) :=
  next (portAct hM h (reply (Subset.trans (by decide) hM) h) (fun _ _ _ h' => ite (reply (Subset.trans (by decide) hM) h') (ite (reply
    (Subset.trans (by decide) hM) (setU2 (put h'))) (reply (Subset.trans (by decide) hM) h'))))

theorem execSetAndTestPortL1_leads {hc n addr hird rwe} (hM : [.answer, .freeCount, .u2pSt] ⊆ M) (h : was.KeepsBut M s) :
    was.LeadsBut M (execSetAndTestPortL1 hc n addr hird rwe s) :=
  next (portAct (Subset.trans (by decide) hM) h (ite (reply (Subset.trans (by decide) hM) h) (reply (Subset.trans (by decide) hM) h))
    (fun _ _ _ h' => ite (reply (Subset.trans (by decide) hM) h') (ite (ite (reply (Subset.trans (by decide) hM) (u2pWith
    (Subset.trans (by decide) hM) h')) (reply (Subset.trans (by decide) hM) h')) (reply (Subset.trans (by decide) hM) h'))))

theorem execLpmAnswer_leads {p ans} (hM : [.answer, .u2pSt, .fifos] ⊆ M) (h : was.KeepsBut M s) :
    was.LeadsBut M (execLpmAnswer p ans s) := by
  unfold execLpmAnswer
  repeat' first
    | with_reducible first
      | assumption | exact Subset.trans (by decide) hM | apply next | apply put | apply setFlag | apply count | apply reply
      | apply raisePort | apply u2pWith | apply setU2
    | split

theorem execClearPortL1_leads {hc n} (hM : [.answer, .freeCount, .u2pSt] ⊆ M) (h : was.KeepsBut M s) :
    was.LeadsBut M (execClearPortL1 hc n s) :=
  next (portAct (Subset.trans (by decide) hM) h (reply (Subset.trans (by decide) hM) h) (fun _ _ _ h' => reply
    (Subset.trans (by decide) hM) (ite (startResume (Subset.trans (by decide) hM) h') (ite (mergeResume (Subset.trans (by decide) hM) h')
    h'))))

theorem execClearChangeBit_leads {hc n sel} (hM : [.answer, .freeCount, .u2pSt, .hubCtx] ⊆ M) (h : was.KeepsBut M s) :
    was.LeadsBut M (execClearChangeBit hc n sel s) := by
  unfold execClearChangeBit
  repeat' first
    | with_reducible first
      | intro _ | assumption | exact Subset.trans (by decide) hM | apply next | apply reply | apply u2pWith | apply ctxRequest
      | apply rootChgWith | apply portAct
    | split

theorem execGetPortStatus_leads {hc n} (hM : [.answer] ⊆ M) (h : was.KeepsBut M s) : was.LeadsBut M (execGetPortStatus hc n s) :=
  next (portRequest hM h (reply hM h) (fun _ _ => reply hM h))

theorem hubDescriptor {hc} (hM : [.freeCount] ⊆ M) (h : was.KeepsBut M s) : was.KeepsBut M (s.hubDescriptor hc).2 := by
  unfold State.hubDescriptor
  repeat' first | split | (with_reducible first | assumption | apply free) | refine of_snd (by with_reducible assumption) ?_

theorem execSetInterface_leads {hc alt} (hM : [.answer, .hubCtx] ⊆ M) (h : was.KeepsBut M s) :
    was.LeadsBut M (execSetInterface hc alt s) :=
  next (ctxRequest (Subset.trans (by decide) hM) h (ite (reply (Subset.trans (by decide) hM) h) (ite (reply (Subset.trans (by decide) hM)
    (hubWith (Subset.trans (by decide) hM) h)) (ite (reply (Subset.trans (by decide) hM) h) (reply (Subset.trans (by decide) hM) h)))))

theorem hubConfigure {hc cfg} (hM : [.answer, .hubCtx, .presSt] ⊆ M) (h : was.KeepsBut M s) : was.KeepsBut M (s.hubConfigure hc cfg) :=
  ctxRequest (Subset.trans (by decide) hM) h (ite (reply (Subset.trans (by decide) hM) h) (reply (Subset.trans (by decide) hM) (cptSeen
    (hubWith (Subset.trans (by decide) hM) (ite (fbForget (Subset.trans (by decide) hM) h) h)))))

theorem hubPoll {hc} (hM : [.answer] ⊆ M) (h : was.KeepsBut M s) : was.KeepsBut M (s.hubPoll hc) :=
  ctxRequest hM h (ite (reply hM h) (ite (reply hM h) (reply hM h)))

theorem countU2 {k n} (h : was.KeepsBut M s) : was.KeepsBut M (s.countU2 k n) :=
  put (put h)

theorem repeatDown {ps payload} (hM : [.answer] ⊆ M) (h : was.KeepsBut M s) : was.KeepsBut M (s.repeatDown ps payload) :=
  reply hM (foldl (fun _ _ h' => ite (countU2 h') h') h)

/-! ### The definitions of Machine/PrsMove.lean -/

theorem setMoveCause {p cause} (hM : [.moveCause] ⊆ M) (h : was.KeepsBut M s) : was.KeepsBut M (s.setMoveCause p cause) :=
  set_moveCause hM h

theorem setBegun {p b} (hM : [.moveCause] ⊆ M) (h : was.KeepsBut M s) : was.KeepsBut M (s.setBegun p b) :=
  set_moveBegun hM h

theorem batchEnd {u} (hM : [.u2pSt, .hubCtx, .upLink, .presSt, .mgfSt, .fifos] ⊆ M) (h : was.KeepsBut M s) :
    was.KeepsBut M (s.batchEnd u) := by
  unfold State.batchEnd
  repeat' first
    | with_reducible first
      | assumption | exact Subset.trans (by decide) hM | apply presWith | apply maskWake | apply propagate
      | refine foldl (fun _ _ _ => ?_) ?_
    | split

theorem batchesEnd (hM : [.u2pSt, .hubCtx, .upLink, .presSt, .mgfSt, .fifos] ⊆ M) (h : was.KeepsBut M s) : was.KeepsBut M s.batchesEnd :=
  batchEnd hM (batchEnd hM h)

theorem moveCancel {p} (hM : [.bad, .u2pSt, .hubCtx, .upLink, .presSt, .moveCause, .mgfSt, .fifos] ⊆ M) (h : was.KeepsBut M s) :
    was.KeepsBut M (s.moveCancel p) :=
  batchesEnd (Subset.trans (by decide) hM) (foldl (fun _ _ h' => presWith (Subset.trans (by decide) hM) h') (setBegun
    (Subset.trans (by decide) hM) (put (ite h (putRw (Subset.trans (by decide) hM) h)))))

theorem moveDecide {p cause} (hM : [.bad, .u2pSt, .hubCtx, .upLink, .presSt, .moveCause, .mgfSt, .fifos] ⊆ M) (h : was.KeepsBut M s) :
    was.KeepsBut M (s.moveDecide p cause) :=
  ite (ite (moveCancel hM (ite (put h) h)) (setMoveCause (Subset.trans (by decide) hM) h)) (ite h (setBegun (Subset.trans (by decide) hM)
    (put (setMoveCause (Subset.trans (by decide) hM) h))))

theorem moveRequest {p v cause} (hM : [.bad, .u2pSt, .hubCtx, .upLink, .presSt, .moveCause, .mgfSt, .fifos] ⊆ M) (h : was.KeepsBut M s) :
    was.KeepsBut M (s.moveRequest p v cause) :=
  ite h (moveDecide hM (putRw (Subset.trans (by decide) hM) h))

/-! ### The definitions of Machine/SsHub.lean -/

theorem setUpState {u v} (h : was.KeepsBut M s) : was.KeepsBut M (s.setUpState u v) :=
  put h

theorem ssRequest {sc n dev root} (hM : [.answer] ⊆ M) (h0 : was.KeepsBut M s) (h1 : was.KeepsBut M root)
    (hf0 : ∀ x0 x1, was.KeepsBut M (dev x0 x1)) : was.KeepsBut M (s.ssRequest sc n dev root) := by
  unfold State.ssRequest
  repeat' first | (with_reducible first | assumption | apply hf0 | apply reply) | split

theorem ssOwned {sc n act} (hM : [.answer] ⊆ M) (h0 : was.KeepsBut M s) (hf0 : ∀ x0, was.KeepsBut M (act x0)) :
    was.KeepsBut M (s.ssOwned sc n act) :=
  ssRequest hM h0 (reply hM h0) (fun _ _ => reply hM (ite (hf0 _) h0))

theorem routeDrop {k n} (h : was.KeepsBut M s) : was.KeepsBut M (s.routeDrop k n) :=
  countBy h

theorem ssLinkUp {f gen2} (hM : [.sspSt, .upLink, .fifos] ⊆ M) (h : was.KeepsBut M s) : was.KeepsBut M (s.ssLinkUp f gen2) :=
  raisePort (Subset.trans (by decide) hM) (sspWith (Subset.trans (by decide) hM) (ite (setLink (setFlag h)) (maskWake
    (Subset.trans (by decide) hM) (addSsChg (Subset.trans (by decide) hM) (setLink (setFlag h))))))

theorem execLinkU0_leads {f gen2} (hM : [.sspSt, .upLink, .fifos] ⊆ M) (h : was.KeepsBut M s) : was.LeadsBut M (execLinkU0 f gen2 s) :=
  iteO (next (ssLinkUp hM h)) (iteO (next (setLink h)) (iteO (next (setLink (addSsChg (Subset.trans (by decide) hM) (sspWith
    (Subset.trans (by decide) hM) h)))) (next h)))

theorem ssGiveUp {f} (hM : [.freeCount, .sspSt, .upLink, .lheSt, .fifos, .graver] ⊆ M) (h : was.KeepsBut M s) :
    was.KeepsBut M (s.ssGiveUp f) :=
  raisePort (Subset.trans (by decide) hM) (sspWith (Subset.trans (by decide) hM) (put (ssLeave hM h)))

theorem execPollingFail_leads {f config} (hM : [.freeCount, .sspSt, .upLink, .lheSt, .fifos, .graver] ⊆ M) (h : was.KeepsBut M s) :
    was.LeadsBut M (execPollingFail f config s) :=
  iteO (next h) (iteO (next (ssGiveUp hM (addSsChg (Subset.trans (by decide) hM) (countErr h)))) (iteO (next (ssGiveUp hM (countErr h)))
    (next (setLink (sspWith (Subset.trans (by decide) hM) (countErr h))))))

theorem ssRecovery {f symbols crcs retries} (hM : [.freeCount, .sspSt, .upLink, .lheSt, .fifos, .graver] ⊆ M) (h : was.KeepsBut M s) :
    was.KeepsBut M (s.ssRecovery f symbols crcs retries) := by
  unfold State.ssRecovery
  repeat' with_reducible first
    | assumption | exact Subset.trans (by decide) hM | apply ite | apply put | apply countBy | apply raisePort | apply sspWith
    | apply countErr | apply setLink | apply marginLost | apply ssDetect

theorem upRecovery {u symbols crcs retries} (hM : [.upLink, .fifos] ⊆ M) (h : was.KeepsBut M s) :
    was.KeepsBut M (s.upRecovery u symbols crcs retries) :=
  ite (raisePres (Subset.trans (by decide) hM) (setUpState (upLkWith (Subset.trans (by decide) hM) (count (countBy (countBy (countBy
    h))))))) (setUpState (upLkWith (Subset.trans (by decide) hM) (count (countBy (countBy (countBy h))))))

theorem execLinkRecovery_leads {lk symbols hdrs} (hM : [.freeCount, .sspSt, .upLink, .lheSt, .fifos, .graver] ⊆ M) (h : was.KeepsBut M s)
    : was.LeadsBut M (execLinkRecovery lk symbols hdrs s) := by
  unfold execLinkRecovery
  repeat' first
    | with_reducible first
      | assumption | exact Subset.trans (by decide) hM | apply next | apply ssRecovery | apply upRecovery
    | split

theorem execSsInactive_leads {f} (hM : [.sspSt, .lheSt, .fifos, .graver] ⊆ M) (h : was.KeepsBut M s) :
    was.LeadsBut M (execSsInactive f s) :=
  iteO (next h) (next (setLink (addSsChg (Subset.trans (by decide) hM) (sspWith (Subset.trans (by decide) hM) (ssDiscard (devLost
    (Subset.trans (by decide) hM) (raisePort (Subset.trans (by decide) hM) h)))))))

theorem ssWarm {f portReset} (hM : [.freeCount, .sspSt, .fifos] ⊆ M) (h : was.KeepsBut M s) : was.KeepsBut M (s.ssWarm f portReset) :=
  setLink (put (put (sspWith (Subset.trans (by decide) hM) (count (marginLost (Subset.trans (by decide) hM) (ssDiscard (ite (raisePort
    (Subset.trans (by decide) hM) (ssEndCompliance (Subset.trans (by decide) hM) h)) (ssEndCompliance (Subset.trans (by decide) hM)
    h))))))))

theorem ssHot {f} (hM : [.freeCount, .sspSt] ⊆ M) (h : was.KeepsBut M s) : was.KeepsBut M (s.ssHot f) :=
  setLink (put (count (sspWith (Subset.trans (by decide) hM) (marginLost hM h))))

theorem ssOwe {f c b} (hM : [.sspSt] ⊆ M) (h : was.KeepsBut M s) : was.KeepsBut M (s.ssOwe f c b) :=
  sspWith hM h

theorem execSsPortReset_leads {sc n} (hM : [.answer, .freeCount, .sspSt, .mgfSt, .fifos] ⊆ M) (h : was.KeepsBut M s) :
    was.LeadsBut M (execSsPortReset sc n s) :=
  next (ssRequest (Subset.trans (by decide) hM) h (reply (Subset.trans (by decide) hM) (ite (fnReset (Subset.trans (by decide) hM) h) h))
    (fun _ _ => reply (Subset.trans (by decide) hM) (ite (ssOwe (Subset.trans (by decide) hM) h) (ite h (ite (ssHot
    (Subset.trans (by decide) hM) h) (ssWarm (Subset.trans (by decide) hM) h))))))

theorem ssClearFallback {f} (hM : [.sspSt] ⊆ M) (h : was.KeepsBut M s) : was.KeepsBut M (s.ssClearFallback f) :=
  sspWith hM (put (put h))

theorem execBhPortReset_leads {sc n} (hM : [.answer, .freeCount, .sspSt, .upLink, .mgfSt, .lheSt, .fifos, .graver] ⊆ M)
    (h : was.KeepsBut M s) : was.LeadsBut M (execBhPortReset sc n s) :=
  next (ssRequest (Subset.trans (by decide) hM) h (reply (Subset.trans (by decide) hM) (ite (fnReset (Subset.trans (by decide) hM) h) h))
    (fun _ _ => reply (Subset.trans (by decide) hM) (ite (ssOwe (Subset.trans (by decide) hM) h) (ite (ssEval
    (Subset.trans (by decide) hM) (ssClearFallback (Subset.trans (by decide) hM) h)) (ssWarm (Subset.trans (by decide) hM)
    (ssClearFallback (Subset.trans (by decide) hM) h))))))

theorem ssPayView {f c bh} (hM : [.sspSt] ⊆ M) (h : was.KeepsBut M s) : was.KeepsBut M (s.ssPayView f c bh) :=
  ite (sspWith hM h) h

theorem execSsResetEnd_leads {f out} (hM : [.freeCount, .sspSt, .upLink, .fifos] ⊆ M) (h : was.KeepsBut M s) :
    was.LeadsBut M (execSsResetEnd f out s) := by
  unfold execSsResetEnd
  repeat' first
    | with_reducible first
      | assumption | exact Subset.trans (by decide) hM | apply next | apply sspWith | apply setLink | apply addSsChg | apply ssLinkUp
      | apply ssWarm | apply ssPayView
    | split

theorem ssResetPort {k c j} (hM : [.freeCount, .arb, .u2pSt, .sspSt, .ssCtx, .upLink, .vbsSt, .tcpSt, .pdSt, .conSt, .lheSt, .fifos,
    .graver] ⊆ M) (h : was.KeepsBut M s) : was.KeepsBut M (s.ssResetPort k c j) := by
  unfold State.ssResetPort
  repeat' with_reducible first
    | assumption | exact Subset.trans (by decide) hM | apply ite | apply u2pWith | apply sspWith | apply ssHubWith | apply ssDiscard
    | apply ssLeave | apply hostPower

theorem ssCtxResetOne {k c} (hM : [.freeCount, .arb, .u2pSt, .sspSt, .ssCtx, .upLink, .vbsSt, .tcpSt, .pdSt, .conSt, .lheSt, .fifos,
    .graver] ⊆ M) (h : was.KeepsBut M s) : was.KeepsBut M (s.ssCtxResetOne k c) := by
  unfold State.ssCtxResetOne
  repeat' with_reducible first
    | assumption | exact Subset.trans (by decide) hM | apply upLkWith | apply ssHubWith | apply routeDrop | apply ssResetPort
    | refine foldl (fun _ _ _ => ?_) ?_

theorem ssPresReset {u kind} (hM : [.freeCount, .arb, .u2pSt, .sspSt, .ssCtx, .upLink, .vbsSt, .tcpSt, .pdSt, .conSt, .mgfSt, .lheSt,
    .fifos, .graver] ⊆ M) (h : was.KeepsBut M s) : was.KeepsBut M (s.ssPresReset u kind) := by
  unfold State.ssPresReset
  repeat' with_reducible first
    | assumption | exact Subset.trans (by decide) hM | apply upLkWith | apply ssHubWith | apply fnReset | apply ssCtxResetOne
    | refine foldl (fun _ _ _ => ?_) ?_

theorem execUpstreamLinkTrained_leads {u res} (hM : [.freeCount, .arb, .u2pSt, .sspSt, .ssCtx, .upLink, .vbsSt, .tcpSt, .pdSt, .conSt,
    .mgfSt, .lheSt, .fifos, .graver] ⊆ M) (h : was.KeepsBut M s) : was.LeadsBut M (execUpstreamLinkTrained u res s) := by
  unfold execUpstreamLinkTrained
  repeat' first
    | with_reducible first
      | assumption | exact Subset.trans (by decide) hM | apply next | apply put | apply setFlag | apply raisePres | apply upLkWith
      | apply setUpState | apply ssPresReset
    | split

theorem ssMerged {f} (hM : [.fifos] ⊆ M) (h : was.KeepsBut M s) : was.KeepsBut M (s.ssMerged f) := by
  unfold State.ssMerged
  repeat' first | (with_reducible first | assumption | apply raisePres) | split

theorem execSetLinkStateU3_leads {sc n} (hM : [.answer, .freeCount, .sspSt] ⊆ M) (h : was.KeepsBut M s) :
    was.LeadsBut M (execSetLinkStateU3 sc n s) :=
  next (ssOwned (Subset.trans (by decide) hM) h (fun _ => ite (setLink (marginLost (Subset.trans (by decide) hM) h)) h))

theorem execSetLinkStateU0_leads {sc n} (hM : [.answer, .sspSt, .fifos] ⊆ M) (h : was.KeepsBut M s) :
    was.LeadsBut M (execSetLinkStateU0 sc n s) := by
  unfold execSetLinkStateU0
  repeat' first
    | with_reducible first
      | intro _ | assumption | exact Subset.trans (by decide) hM | apply next | apply sspWith | apply ssMerged | apply ssOwned
    | split

theorem execSetLinkStateDisabled_leads {sc n} (hM : [.answer, .freeCount, .sspSt, .upLink, .lheSt, .fifos, .graver] ⊆ M)
    (h : was.KeepsBut M s) : was.LeadsBut M (execSetLinkStateDisabled sc n s) :=
  next (ssOwned (Subset.trans (by decide) hM) h (fun _ => ssEval (Subset.trans (by decide) hM) (sspWith (Subset.trans (by decide) hM) h)))

theorem execSetLinkStateRxDetect_leads {sc n} (hM : [.answer, .freeCount, .sspSt, .upLink, .lheSt, .fifos, .graver] ⊆ M)
    (h : was.KeepsBut M s) : was.LeadsBut M (execSetLinkStateRxDetect sc n s) :=
  next (ssOwned (Subset.trans (by decide) hM) h (fun _ => ite (ssDetect (Subset.trans (by decide) hM) (sspWith
    (Subset.trans (by decide) hM) (ssClearFallback (Subset.trans (by decide) hM) h))) (sspWith (Subset.trans (by decide) hM)
    (ssClearFallback (Subset.trans (by decide) hM) h))))

theorem setSsPower {k c f b} (hM : [.u2pSt, .ssCtx] ⊆ M) (h : was.KeepsBut M s) : was.KeepsBut M (s.setSsPower k c f b) := by
  unfold State.setSsPower
  repeat' with_reducible first | assumption | exact Subset.trans (by decide) hM | apply u2pWith | apply ssHubWith

theorem execSsSetPortPower_leads {sc n} (hM : [.answer, .freeCount, .arb, .u2pSt, .sspSt, .ssCtx, .upLink, .vbsSt, .tcpSt, .pdSt,
    .conSt, .lheSt, .fifos, .graver] ⊆ M) (h : was.KeepsBut M s) : was.LeadsBut M (execSsSetPortPower sc n s) :=
  next (ssRequest (Subset.trans (by decide) hM) h (reply (Subset.trans (by decide) hM) h) (fun _ _ => reply (Subset.trans (by decide) hM)
    (ite (ssEval (Subset.trans (by decide) hM) (hostPower (Subset.trans (by decide) hM) (setSsPower (Subset.trans (by decide) hM) h)))
    (setSsPower (Subset.trans (by decide) hM) h))))

theorem execSsClearPortPower_leads {sc n} (hM : [.answer, .freeCount, .arb, .u2pSt, .sspSt, .ssCtx, .upLink, .vbsSt, .tcpSt, .pdSt,
    .conSt, .lheSt, .fifos, .graver] ⊆ M) (h : was.KeepsBut M s) : was.LeadsBut M (execSsClearPortPower sc n s) :=
  next (ssRequest (Subset.trans (by decide) hM) h (reply (Subset.trans (by decide) hM) h) (fun _ _ => reply (Subset.trans (by decide) hM)
    (ite (hostPower (Subset.trans (by decide) hM) (ssEval (Subset.trans (by decide) hM) (setSsPower (Subset.trans (by decide) hM) h)))
    (setSsPower (Subset.trans (by decide) hM) h))))

theorem execSetPortU1Timeout_leads {sc n v} (hM : [.answer] ⊆ M) (h : was.KeepsBut M s) :
    was.LeadsBut M (execSetPortU1Timeout sc n v s) :=
  next (ssOwned hM h (fun _ => put h))

theorem execSetPortU2Timeout_leads {sc n v} (hM : [.answer, .sspSt] ⊆ M) (h : was.KeepsBut M s) :
    was.LeadsBut M (execSetPortU2Timeout sc n v s) :=
  next (ssOwned (Subset.trans (by decide) hM) h (fun _ => sspWith (Subset.trans (by decide) hM) (put h)))

theorem execSetRemoteWakeMask_leads {sc n v} (hM : [.answer] ⊆ M) (h : was.KeepsBut M s) :
    was.LeadsBut M (execSetRemoteWakeMask sc n v s) :=
  next (ssOwned hM h (fun _ => put h))

theorem execSetForceLinkpmAccept_leads {sc n} (hM : [.answer] ⊆ M) (h : was.KeepsBut M s) :
    was.LeadsBut M (execSetForceLinkpmAccept sc n s) :=
  next (ssOwned hM h (fun _ => put h))

theorem execSetHubDepth_leads {sc depth} (hM : [.answer, .ssCtx] ⊆ M) (h : was.KeepsBut M s) :
    was.LeadsBut M (execSetHubDepth sc depth s) := by
  unfold execSetHubDepth
  repeat' first
    | with_reducible first
      | assumption | exact Subset.trans (by decide) hM | apply next | apply reply | apply ssHubWith
    | split

theorem execGetPortErrorCount_leads {sc n} (hM : [.answer] ⊆ M) (h : was.KeepsBut M s) : was.LeadsBut M (execGetPortErrorCount sc n s) :=
  next (ssRequest hM h (reply hM h) (fun _ _ => reply hM h))

theorem execSsGetPortStatus_leads {sc n ext} (hM : [.answer] ⊆ M) (h : was.KeepsBut M s) :
    was.LeadsBut M (execSsGetPortStatus sc n ext s) :=
  next (ssRequest hM h (reply hM h) (fun _ _ => reply hM h))

theorem execSsClearChangeBit_leads {sc n sel} (hM : [.answer, .sspSt, .ssCtx] ⊆ M) (h : was.KeepsBut M s) :
    was.LeadsBut M (execSsClearChangeBit sc n sel s) := by
  unfold execSsClearChangeBit
  repeat' first
    | with_reducible first
      | intro _ | assumption | exact Subset.trans (by decide) hM | apply iteO | apply next | apply put | apply reply | apply sspWith
      | apply ssHubWith | apply ssRequest | apply ssOwned
    | split

theorem execU1Inactivity_leads {lk u2} (h : was.KeepsBut M s) : was.LeadsBut M (execU1Inactivity lk u2 s) := by
  unfold execU1Inactivity
  repeat' first | (with_reducible first | assumption | apply iteO | apply next | apply setLink | apply setUpState) | split

theorem execLgoUx_leads {lk u2} (hM : [.answer] ⊆ M) (h : was.KeepsBut M s) : was.LeadsBut M (execLgoUx lk u2 s) := by
  unfold execLgoUx
  repeat' first | (with_reducible first | assumption | apply next | apply reply | apply setLink | apply setUpState) | split

theorem ssExit {f} (hM : [.sspSt, .fifos] ⊆ M) (h : was.KeepsBut M s) : was.KeepsBut M (s.ssExit f) :=
  setLink (addSsChg (Subset.trans (by decide) hM) (sspWith (Subset.trans (by decide) hM) (ite (ssMerged (Subset.trans (by decide) hM) h)
    h)))

theorem execSsRemoteWake_leads {f} (hM : [.sspSt, .upLink, .fifos] ⊆ M) (h : was.KeepsBut M s) :
    was.LeadsBut M (execSsRemoteWake f s) := by
  unfold execSsRemoteWake
  repeat' first
    | with_reducible first
      | assumption | exact Subset.trans (by decide) hM | apply next | apply upWake | apply ssExit
    | split

theorem ssSuspendAll {u b} (hM : [.ssCtx, .mgfSt] ⊆ M) (h : was.KeepsBut M s) : was.KeepsBut M (s.ssSuspendAll u b) :=
  fnSuspend (Subset.trans (by decide) hM) (ssHubWith (Subset.trans (by decide) hM) (foldl (fun _ _ h' => ssHubWith
    (Subset.trans (by decide) hM) h') h))

theorem exitMerge {u device} (hM : [.sspSt, .fifos] ⊆ M) (h : was.KeepsBut M s) : was.KeepsBut M (s.exitMerge u device) := by
  unfold State.exitMerge
  repeat' first | (with_reducible first | assumption | exact Subset.trans (by decide) hM | apply ssMerged | apply ssExit) | split

theorem execUpstreamExitLfps_leads {at_} (hM : [.sspSt, .ssCtx, .upLink, .mgfSt, .fifos] ⊆ M) (h : was.KeepsBut M s) :
    was.LeadsBut M (execUpstreamExitLfps at_ s) :=
  iteO (next (exitMerge (Subset.trans (by decide) hM) (ssSuspendAll (Subset.trans (by decide) hM) (upLkWith (Subset.trans (by decide) hM)
    (setUpState h))))) (next h)

theorem execU1U2Enable_leads {sc u2 set} (hM : [.answer, .ssCtx] ⊆ M) (h : was.KeepsBut M s) :
    was.LeadsBut M (execU1U2Enable sc u2 set s) :=
  iteO (next (reply (Subset.trans (by decide) hM) h)) (next (reply (Subset.trans (by decide) hM) (ssHubWith (Subset.trans (by decide) hM)
    h)))

theorem ssConfigure {sc cfg} (hM : [.answer, .ssCtx] ⊆ M) (h : was.KeepsBut M s) : was.KeepsBut M (s.ssConfigure sc cfg) :=
  ite (reply (Subset.trans (by decide) hM) h) (ite (reply (Subset.trans (by decide) hM) h) (reply (Subset.trans (by decide) hM) (ssHubWith
    (Subset.trans (by decide) hM) h)))

theorem execComplianceEntry_leads {f} (hM : [.freeCount, .sspSt, .upLink, .lheSt, .fifos, .graver] ⊆ M) (h : was.KeepsBut M s) :
    was.LeadsBut M (execComplianceEntry f s) :=
  iteO (next (raisePort (Subset.trans (by decide) hM) (sspWith (Subset.trans (by decide) hM) (ssLeave hM h)))) (next h)

theorem enterCompliance {f} (hM : [.freeCount, .sspSt, .upLink, .lheSt, .fifos, .graver] ⊆ M) (h : was.KeepsBut M s) :
    was.KeepsBut M (s.enterCompliance f) :=
  ite (raisePort (Subset.trans (by decide) hM) (sspWith (Subset.trans (by decide) hM) (ssLeave hM h))) h

theorem enterLoop {f} (hM : [.freeCount, .sspSt, .upLink, .lheSt, .fifos, .graver] ⊆ M) (h : was.KeepsBut M s) :
    was.KeepsBut M (s.enterLoop f) :=
  ite (sspWith (Subset.trans (by decide) hM) (ssLeave hM h)) h

theorem exitTest {f errors} (hM : [.freeCount, .sspSt, .upLink, .lheSt, .fifos, .graver] ⊆ M) (h : was.KeepsBut M s) :
    was.KeepsBut M (s.exitTest f errors) :=
  ite (ssDetect hM h) (ite (ssDetect hM (ite (countBy h) h)) h)

theorem marginStart {f} (hM : [.sspSt] ⊆ M) (h : was.KeepsBut M s) : was.KeepsBut M (s.marginStart f) :=
  ite (put (sspWith hM h)) (put (put h))

/-! ### The definitions of Machine/Grv.lean -/

theorem noteBeyond {a n} (h : was.KeepsBut M s) : was.KeepsBut M (s.noteBeyond a n) :=
  ite (count h) h

theorem bufPut {a bs} (hM : [.grvBuffer] ⊆ M) (h : was.KeepsBut M s) : was.KeepsBut M (s.bufPut a bs) := by
  induction bs generalizing s a with
  | nil => exact h
  | cons b bs ih => exact ih (h.change hM rfl fun p _ _ => by cases p <;> trivial)

theorem grvRead {a n} (hM : [.fifos, .dram] ⊆ M) (h : was.KeepsBut M s) : was.KeepsBut M (s.grvRead a n).2 := by
  unfold State.grvRead
  repeat' first | split | (with_reducible first | assumption | apply dramRead) | refine of_snd2 (by with_reducible assumption) ?_

theorem grvWrite {a bs} (hM : [.fifos, .dram, .grvBuffer, .dramMem] ⊆ M) (h : was.KeepsBut M s) : was.KeepsBut M (s.grvWrite a bs).2 := by
  unfold State.grvWrite
  repeat' first
    | split
    | with_reducible first
      | assumption | exact Subset.trans (by decide) hM | apply dramWrite | apply bufPut
    | refine of_snd (by with_reducible assumption) ?_

theorem jobWith {id f} (hM : [.graver] ⊆ M) (h : was.KeepsBut M s) : was.KeepsBut M (s.jobWith id f) :=
  grvWith hM h (fun _ => rfl) (fun _ => rfl)

theorem askGroup (hM : [.arb, .graver] ⊆ M) (h : was.KeepsBut M s) : was.KeepsBut M s.askGroup := by
  unfold State.askGroup
  repeat' first | (with_reducible first | assumption | exact Subset.trans (by decide) hM | apply askLeave | apply jobWith) | split

theorem nextGroup (hM : [.arb, .graver] ⊆ M) (h : was.KeepsBut M s) : was.KeepsBut M s.nextGroup :=
  askGroup hM (askGroup hM h)

theorem holdGroups (hM : [.arb, .graver] ⊆ M) (h : was.KeepsBut M s) : was.KeepsBut M s.holdGroups := by
  unfold State.holdGroups
  repeat' first
    | with_reducible first
      | intro _ | assumption | exact Subset.trans (by decide) hM | apply withdraw | apply grvWith | refine foldl (fun _ _ _ => ?_) ?_
    | rfl

theorem groupCheck {id} (hM : [.arb, .graver] ⊆ M) (h : was.KeepsBut M s) : was.KeepsBut M (s.groupCheck id) := by
  unfold State.groupCheck
  repeat' first
    | with_reducible first
      | assumption | exact Subset.trans (by decide) hM | apply endLeave | apply jobWith | apply nextGroup
    | split

theorem jobEnds {j p code} (hM : [.arb, .graver] ⊆ M) (h : was.KeepsBut M s) : was.KeepsBut M (s.jobEnds j p code) :=
  groupCheck hM (partEnd (Subset.trans (by decide) hM) h)

theorem jobEndsAll {j code} (hM : [.arb, .graver] ⊆ M) (h : was.KeepsBut M s) : was.KeepsBut M (s.jobEndsAll j code) :=
  foldl (fun _ _ h' => ite (jobEnds hM h') h') h

theorem runEnds {p code} (hM : [.arb, .graver] ⊆ M) (h : was.KeepsBut M s) : was.KeepsBut M (s.runEnds p code) := by
  unfold State.runEnds
  repeat' first | (with_reducible first | assumption | apply jobEnds) | split

theorem capWith {p cdc f} (hM : [.graver] ⊆ M) (h : was.KeepsBut M s) : was.KeepsBut M (s.capWith p cdc f) :=
  grvWith hM h (fun _ => rfl) (fun _ => rfl)

theorem capTake {p cdc i} (hM : [.graver] ⊆ M) (h : was.KeepsBut M s) : was.KeepsBut M (s.capTake p cdc i) := by
  unfold State.capTake
  repeat' first | (with_reducible first | assumption | apply count | apply capWith) | split

theorem capWrite {c r last} (hM : [.fifos, .graver, .dram, .grvBuffer, .dramMem] ⊆ M) (h : was.KeepsBut M s) :
    was.KeepsBut M (s.capWrite c r last) := by
  unfold State.capWrite
  dsimp -iota only
  repeat' first
    | split
    | with_reducible first
      | assumption | exact Subset.trans (by decide) hM | apply put | apply countBy | apply raiseWith | apply grvWrite | apply capWith
    | refine of_snd (by with_reducible assumption) ?_

theorem capDrain {p cdc n} (hM : [.fifos, .graver, .dram, .grvBuffer, .dramMem] ⊆ M) (h : was.KeepsBut M s) :
    was.KeepsBut M (s.capDrain p cdc n) := by
  induction n generalizing s with
  | zero => exact h
  | succ n ih =>
    unfold State.capDrain
    dsimp -iota only
    repeat' first
      | split
      | with_reducible first
        | assumption | exact Subset.trans (by decide) hM | apply ih | apply capWrite | apply partEnd | apply grvWith
      | exact fun _ => rfl

theorem capFinish {p cdc} (hM : [.fifos, .graver, .dram, .grvBuffer, .dramMem] ⊆ M) (h : was.KeepsBut M s) :
    was.KeepsBut M (s.capFinish p cdc) :=
  capDrain hM h

theorem capEnds {p cdc code} (hM : [.fifos, .graver, .dram, .grvBuffer, .dramMem] ⊆ M) (h : was.KeepsBut M s) :
    was.KeepsBut M (s.capEnds p cdc code) :=
  capFinish hM (capWith (Subset.trans (by decide) hM) h)

theorem capsEnd {p code} (hM : [.fifos, .graver, .dram, .grvBuffer, .dramMem] ⊆ M) (h : was.KeepsBut M s) :
    was.KeepsBut M (s.capsEnd p code) :=
  capEnds hM (capEnds hM h)

theorem grvLeaves {p} (hM : [.arb, .fifos, .graver, .dram, .grvBuffer, .dramMem] ⊆ M) (h : was.KeepsBut M s) :
    was.KeepsBut M (s.grvLeaves p) :=
  capEnds (Subset.trans (by decide) hM) (runEnds (Subset.trans (by decide) hM) h)

theorem grvMoved {p} (hM : [.arb, .graver] ⊆ M) (h : was.KeepsBut M s) : was.KeepsBut M (s.grvMoved p) := by
  unfold State.grvMoved
  repeat' first | (with_reducible first | assumption | apply jobEnds) | split

theorem lheReset {p} (hM : [.arb, .lheSt, .fifos, .graver, .dram, .grvBuffer, .dramMem] ⊆ M) (h : was.KeepsBut M s) :
    was.KeepsBut M (s.lheReset p) := by
  unfold State.lheReset
  repeat' with_reducible first
    | assumption | exact Subset.trans (by decide) hM | apply ite | apply lheWith | apply jobEnds | apply capsEnd
    | refine foldl (fun _ _ _ => ?_) ?_

theorem lheStop {p code} (hM : [.arb, .fifos, .graver, .dram, .grvBuffer, .dramMem] ⊆ M) (h : was.KeepsBut M s) :
    was.KeepsBut M (s.lheStop p code) :=
  capsEnd (Subset.trans (by decide) hM) (runEnds (Subset.trans (by decide) hM) h)

theorem grvStop (hM : [.arb, .graver] ⊆ M) (h : was.KeepsBut M s) : was.KeepsBut M s.grvStop :=
  foldl (fun _ _ h' => runEnds hM h') h

theorem grvClear (hM : [.arb, .graver] ⊆ M) (h : was.KeepsBut M s) : was.KeepsBut M s.grvClear := by
  unfold State.grvClear
  repeat' first
    | with_reducible first
      | intro _ | assumption | exact Subset.trans (by decide) hM | apply endLeave | apply grvWith | refine foldl (fun _ _ _ => ?_) ?_
    | rfl

theorem ringFault {r kind index} (hM : [.fifos] ⊆ M) (h : was.KeepsBut M s) : was.KeepsBut M (s.ringFault r kind index) :=
  raiseWith hM h

theorem newJob {chain r index step desc ps} (hM : [.graver] ⊆ M) (h : was.KeepsBut M s) :
    was.KeepsBut M (s.newJob chain r index step desc ps).2 := by
  unfold State.newJob
  repeat' first | (with_reducible first | intro _ | assumption | apply grvWith) | rfl

theorem settleJob {j} (hM : [.arb, .graver] ⊆ M) (h : was.KeepsBut M s) : was.KeepsBut M (s.settleJob j) := by
  unfold State.settleJob
  repeat' first
    | with_reducible first
      | assumption | apply noteBeyond | apply jobEnds | apply jobEndsAll | refine foldl (fun _ _ _ => ?_) ?_
    | split

theorem fetchAt {a} (hM : [.fifos, .dram] ⊆ M) (h : was.KeepsBut M s) : was.KeepsBut M (s.fetchAt a).2 := by
  unfold State.fetchAt
  repeat' first
    | split
    | with_reducible first
      | assumption | apply noteBeyond | apply grvRead
    | refine of_snd (by with_reducible assumption) ?_

theorem fetchError {r index} (hM : [.fifos] ⊆ M) (h : was.KeepsBut M s) : was.KeepsBut M (s.fetchError r index) :=
  ringFault hM (setFault h)

theorem follow {j ls acc} (hM : [.fifos, .graver, .dram] ⊆ M) (h : was.KeepsBut M s) : was.KeepsBut M (s.follow j ls acc).2.2 := by
  induction ls generalizing s acc with
  | nil => exact h
  | cons x ls ih =>
    obtain ⟨a, ps⟩ := x
    unfold State.follow
    have hf := fetchAt (a := a) (Subset.trans (by decide) hM) h
    split
    · next e => exact of_snd e hf
    · next e => exact ih (fetchError (Subset.trans (by decide) hM) (of_snd e hf))
    · next e =>
      split
      next e2 => exact ih (of_snd e2 (newJob (Subset.trans (by decide) hM) (of_snd e hf)))

theorem noteJob {j} (hM : [.fifos] ⊆ M) (h : was.KeepsBut M s) : was.KeepsBut M (s.noteJob j) :=
  ite (raiseWith hM (ite (raiseWith hM (count h)) (count h))) (ite (raiseWith hM (count h)) (count h))

theorem finishJob {j} (hM : [.arb, .fifos, .graver, .dram] ⊆ M) (h : was.KeepsBut M s) : was.KeepsBut M (s.finishJob j) := by
  unfold State.finishJob
  repeat' first
    | split
    | with_reducible first
      | intro _ | assumption | exact Subset.trans (by decide) hM | apply settleJob | apply follow | apply noteJob | apply grvWith
      | refine foldl (fun _ _ _ => ?_) ?_
    | rfl | refine of_snd2 (by with_reducible assumption) ?_

theorem acceptDesc {r ix bs} (hM : [.arb, .fifos, .graver, .dram] ⊆ M) (h : was.KeepsBut M s) : was.KeepsBut M (s.acceptDesc r ix bs) :=
  ite (finishJob hM (grvWith (Subset.trans (by decide) hM) (newJob (Subset.trans (by decide) hM) h) (fun _ => rfl) (fun _ => rfl)))
    (settleJob (Subset.trans (by decide) hM) (grvWith (Subset.trans (by decide) hM) (newJob (Subset.trans (by decide) hM) h) (fun _ =>
    rfl) (fun _ => rfl)))

theorem takeFetched {r ix x} (hM : [.arb, .fifos, .graver, .dram] ⊆ M) (h : was.KeepsBut M s) :
    was.KeepsBut M (s.takeFetched r ix x) := by
  unfold State.takeFetched
  repeat' first | (with_reducible first | assumption | exact Subset.trans (by decide) hM | apply fetchError | apply acceptDesc) | split

theorem fetchNext {r} (hM : [.arb, .fifos, .graver, .dram] ⊆ M) (h : was.KeepsBut M s) : was.KeepsBut M (s.fetchNext r) :=
  takeFetched hM (fetchAt (Subset.trans (by decide) hM) (put (grvWith (Subset.trans (by decide) hM) h (fun _ => rfl) (fun _ => rfl))))

theorem execDescriptorFetch_leads (hM : [.arb, .fifos, .graver, .dram] ⊆ M) (h : was.KeepsBut M s) :
    was.LeadsBut M (execDescriptorFetch s) := by
  unfold execDescriptorFetch
  repeat' first | (with_reducible first | assumption | apply next | apply fetchNext) | split

theorem startPart {j p} (hM : [.arb, .graver] ⊆ M) (h : was.KeepsBut M s) : was.KeepsBut M (s.startPart j p) := by
  unfold State.startPart
  dsimp only
  repeat' first | (with_reducible first | assumption | apply put | apply jobEnds) | split

theorem startJob {j} (hM : [.arb, .graver] ⊆ M) (h : was.KeepsBut M s) : was.KeepsBut M (s.startJob j) :=
  foldl (fun _ _ h' => ite (startPart hM h') h') (jobWith (Subset.trans (by decide) hM) h)

theorem execJobStart_leads {p} (hM : [.arb, .graver] ⊆ M) (h : was.KeepsBut M s) : was.LeadsBut M (execJobStart p s) := by
  unfold execJobStart
  repeat' first
    | with_reducible first
      | assumption | exact Subset.trans (by decide) hM | apply next | apply jobWith | apply nextGroup | apply startJob
    | split

theorem fanGrant {w} (hM : [.arb, .graver] ⊆ M) (h : was.KeepsBut M s) : was.KeepsBut M (s.fanGrant w) := by
  unfold State.fanGrant
  repeat' first
    | with_reducible first
      | assumption | exact Subset.trans (by decide) hM | apply opDone | apply jobWith | apply groupCheck | apply startJob
    | split

/-! ### The definitions of Machine/GrvJobs.lean -/

theorem setPhase {j p n} (hM : [.graver] ⊆ M) (h : was.KeepsBut M s) : was.KeepsBut M (s.setPhase j p n) :=
  partWith hM h

theorem setPos {j p n} (hM : [.graver] ⊆ M) (h : was.KeepsBut M s) : was.KeepsBut M (s.setPos j p n) :=
  put (put (partWith hM h))

theorem execTake_leads {p} (hM : [.bad, .arb, .u2pSt, .hubCtx, .upLink, .presSt, .moveCause, .mgfSt, .fifos, .graver] ⊆ M)
    (h : was.KeepsBut M s) : was.LeadsBut M (execTake p s) := by
  unfold execTake
  repeat' first
    | with_reducible first
      | assumption | exact Subset.trans (by decide) hM | apply next | apply moveRequest | apply jobEnds | apply setPhase
    | split

theorem execGive_leads {p} (hM : [.bad, .arb, .u2pSt, .hubCtx, .upLink, .presSt, .moveCause, .mgfSt, .fifos, .graver] ⊆ M)
    (h : was.KeepsBut M s) : was.LeadsBut M (execGive p s) := by
  unfold execGive
  repeat' first
    | with_reducible first
      | assumption | exact Subset.trans (by decide) hM | apply next | apply moveRequest | apply jobEnds | apply setPhase
    | split

theorem grvGiven {p} (hM : [.arb, .fifos, .graver, .dram, .grvBuffer, .dramMem] ⊆ M) (h : was.KeepsBut M s) :
    was.KeepsBut M (s.grvGiven p) := by
  unfold State.grvGiven
  repeat' first | (with_reducible first | assumption | exact Subset.trans (by decide) hM | apply jobEnds | apply grvLeaves) | split

theorem grvForce {p b} (hM : [.freeCount, .bad, .arb, .u2pSt, .sspSt, .upLink, .vbsSt, .tcpSt, .pdSt, .conSt, .lheSt, .fifos, .graver] ⊆
    M) (h : was.KeepsBut M s) : was.KeepsBut M (s.grvForce p b) :=
  ite h (ite (usbEval (Subset.trans (by decide) hM) (askTurnOn (Subset.trans (by decide) hM) (forceOffChanged
    (Subset.trans (by decide) hM) (putRw (Subset.trans (by decide) hM) h)))) (forceOffChanged (Subset.trans (by decide) hM) (putRw
    (Subset.trans (by decide) hM) h)))

theorem powerOn {j p} (hM : [.freeCount, .bad, .arb, .u2pSt, .sspSt, .upLink, .vbsSt, .tcpSt, .pdSt, .conSt, .lheSt, .fifos, .graver] ⊆ M)
    (h : was.KeepsBut M s) : was.KeepsBut M (s.powerOn j p) :=
  ite (jobEnds (Subset.trans (by decide) hM) (grvForce hM (setPhase (Subset.trans (by decide) hM) h))) (ite (jobEnds
    (Subset.trans (by decide) hM) (grvForce hM (setPhase (Subset.trans (by decide) hM) h))) (grvForce hM (setPhase
    (Subset.trans (by decide) hM) h)))

theorem powerWait {j p} (hM : [.arb, .graver] ⊆ M) (h : was.KeepsBut M s) : was.KeepsBut M (s.powerWait j p) :=
  ite (jobEnds hM h) (ite (jobEnds hM h) h)

theorem execPowerOff_leads {p} (hM : [.freeCount, .bad, .arb, .u2pSt, .sspSt, .upLink, .vbsSt, .tcpSt, .pdSt, .conSt, .lheSt, .fifos,
    .graver] ⊆ M) (h : was.KeepsBut M s) : was.LeadsBut M (execPowerOff p s) := by
  unfold execPowerOff
  repeat' first
    | with_reducible first
      | assumption | exact Subset.trans (by decide) hM | apply next | apply jobEnds | apply setPhase | apply grvForce
    | split

theorem execPowerOn_leads {p} (hM : [.freeCount, .bad, .arb, .u2pSt, .sspSt, .upLink, .vbsSt, .tcpSt, .pdSt, .conSt, .lheSt, .fifos,
    .graver] ⊆ M) (h : was.KeepsBut M s) : was.LeadsBut M (execPowerOn p s) := by
  unfold execPowerOn
  repeat' first
    | with_reducible first
      | assumption | exact Subset.trans (by decide) hM | apply next | apply powerOn | apply powerWait
    | split

theorem execPowerCycle_leads {p} (hM : [.freeCount, .bad, .arb, .u2pSt, .sspSt, .upLink, .vbsSt, .tcpSt, .pdSt, .conSt, .lheSt, .fifos,
    .graver] ⊆ M) (h : was.KeepsBut M s) : was.LeadsBut M (execPowerCycle p s) := by
  unfold execPowerCycle
  repeat' first
    | with_reducible first
      | assumption | exact Subset.trans (by decide) hM | apply next | apply setPhase | apply grvForce | apply powerOn | apply powerWait
    | split

theorem xactOk {p k} (hM : [.lheSt] ⊆ M) (h : was.KeepsBut M s) : was.KeepsBut M (s.xactOk p k) :=
  lheWith hM h

theorem xactErr {p k} (hM : [.lheSt] ⊆ M) (h : was.KeepsBut M s) : was.KeepsBut M (s.xactErr p k).2 := by
  unfold State.xactErr
  dsimp only
  repeat' first | (with_reducible first | assumption | apply lheWith | apply countErr | apply xactOk) | split

theorem xactStall {p k} (hM : [.lheSt] ⊆ M) (h : was.KeepsBut M s) : was.KeepsBut M (s.xactStall p k) :=
  lheWith hM (xactOk hM (count h))

theorem answered {j p k ans f} (hM : [.arb, .lheSt, .graver] ⊆ M) (h : was.KeepsBut M s)
    (hf0 : ∀ x0 x1, was.KeepsBut M x0 → was.KeepsBut M (f x0 x1)) : was.KeepsBut M (s.answered j p k ans f) := by
  unfold State.answered
  repeat' first
    | split
    | with_reducible first
      | assumption | exact Subset.trans (by decide) hM | apply hf0 | apply jobEnds | apply xactOk | apply xactErr | apply xactStall
    | refine of_snd (by with_reducible assumption) ?_

theorem enumUsb2 {j p} (hM : [.u2pSt, .lheSt, .fifos, .graver] ⊆ M) (h : was.KeepsBut M s) : was.KeepsBut M (s.enumUsb2 j p) :=
  startReset (Subset.trans (by decide) hM) (lheWith (Subset.trans (by decide) hM) (setPhase (Subset.trans (by decide) hM) h))

theorem enumTry {j p late} (hM : [.freeCount, .u2pSt, .sspSt, .lheSt, .fifos, .graver] ⊆ M) (h : was.KeepsBut M s) :
    was.KeepsBut M (s.enumTry j p late) := by
  unfold State.enumTry
  repeat' first
    | with_reducible first
      | assumption | exact Subset.trans (by decide) hM | apply lheWith | apply ssWarm | apply setPhase | apply enumUsb2
    | split

theorem enumStart {j p} (hM : [.freeCount, .u2pSt, .sspSt, .upLink, .lheSt, .fifos, .graver] ⊆ M) (h : was.KeepsBut M s) :
    was.KeepsBut M (s.enumStart j p) :=
  enumTry (Subset.trans (by decide) hM) (ssEvalPort (Subset.trans (by decide) hM) (lheWith (Subset.trans (by decide) hM) (put h)))

theorem enumDone {s0 j p dev cfg0} (hM : [.answer, .arb, .lheSt, .fifos, .graver, .dram, .grvBuffer, .dramMem] ⊆ M)
    (h : was.KeepsBut M s0) : was.KeepsBut M (State.enumDone s0 j p dev cfg0) := by
  unfold State.enumDone
  repeat' first
    | split
    | with_reducible first
      | assumption | exact Subset.trans (by decide) hM | apply put | apply reply | apply lheWith | apply grvWrite | apply jobEnds
    | refine of_snd (by with_reducible assumption) ?_

theorem execEnumJob_leads {p ans} (hM : [.answer, .freeCount, .arb, .u2pSt, .sspSt, .upLink, .lheSt, .fifos, .graver, .dram, .grvBuffer,
    .dramMem] ⊆ M) (h : was.KeepsBut M s) : was.LeadsBut M (execEnumJob p ans s) := by
  unfold execEnumJob
  repeat' first
    | with_reducible first
      | intro _ | assumption | exact Subset.trans (by decide) hM | apply next | apply jobEnds | apply enumTry | apply enumStart
      | apply enumDone | apply answered
    | split

theorem execConfigJob_leads {p ans} (hM : [.answer, .arb, .lheSt, .graver] ⊆ M) (h : was.KeepsBut M s) :
    was.LeadsBut M (execConfigJob p ans s) := by
  unfold execConfigJob
  repeat' first
    | with_reducible first
      | intro _ | assumption | exact Subset.trans (by decide) hM | apply next | apply put | apply reply | apply lheWith | apply jobEnds
      | apply answered
    | split

theorem execCtrlJob_leads {p ans} (hM : [.answer, .arb, .lheSt, .fifos, .graver, .dram, .grvBuffer, .dramMem] ⊆ M) (h : was.KeepsBut M s)
    : was.LeadsBut M (execCtrlJob p ans s) := by
  unfold execCtrlJob
  repeat' first
    | split
    | with_reducible first
      | intro _ | assumption | exact Subset.trans (by decide) hM | apply ite | apply next | apply reply | apply grvRead | apply grvWrite
      | apply jobEnds | apply setPos | apply answered
    | refine of_snd (by with_reducible assumption) ?_

theorem leaveGroup {j p lag} (hM : [.fifos, .graver] ⊆ M) (h : was.KeepsBut M s) : was.KeepsBut M (s.leaveGroup j p lag) := by
  unfold State.leaveGroup
  repeat' with_reducible first
    | assumption | exact Subset.trans (by decide) hM | apply put | apply count | apply raiseWith | apply partWith

theorem winFollow {j p hi} (hM : [.fifos, .graver, .dram] ⊆ M) (h : was.KeepsBut M s) : was.KeepsBut M (s.winFollow j p hi).2 := by
  unfold State.winFollow
  dsimp -iota only
  repeat' first
    | split
    | with_reducible first
      | assumption | exact Subset.trans (by decide) hM | apply grvRead | apply jobWith | apply leaveGroup
      | refine foldl (fun _ _ _ => ?_) ?_
    | refine of_snd (by with_reducible assumption) ?_

theorem imageBytes {j x n} (hM : [.fifos, .graver, .dram] ⊆ M) (h : was.KeepsBut M s) : was.KeepsBut M (s.imageBytes j x n).2 := by
  unfold State.imageBytes
  repeat' first
    | split
    | with_reducible first
      | assumption | exact Subset.trans (by decide) hM | apply grvRead | apply winFollow
    | refine of_snd (by with_reducible assumption) ?_

theorem epUsed {p num inDir n} (hM : [.lheSt] ⊆ M) (h : was.KeepsBut M s) : was.KeepsBut M (s.epUsed p num inDir n) :=
  lheWith hM h

theorem endIf {j p c} (hM : [.arb, .graver] ⊆ M) (h : was.KeepsBut M s) : was.KeepsBut M (s.endIf j p c) := by
  cases c with
  | none => exact h
  | some c => exact jobEnds hM h

theorem execJobWrite_leads {p ans} (hM : [.answer, .arb, .lheSt, .fifos, .graver, .dram] ⊆ M) (h : was.KeepsBut M s) :
    was.LeadsBut M (execJobWrite p ans s) := by
  unfold execJobWrite
  repeat' first
    | split
    | with_reducible first
      | intro _ | assumption | exact Subset.trans (by decide) hM | apply ite | apply next | apply reply | apply groupCheck | apply jobEnds
      | apply setPos | apply imageBytes | apply epUsed | apply answered
    | refine of_snd (by with_reducible assumption) ?_

theorem execJobRead_leads {p ans} (hM : [.arb, .lheSt, .fifos, .graver, .dram, .grvBuffer, .dramMem] ⊆ M) (h : was.KeepsBut M s) :
    was.LeadsBut M (execJobRead p ans s) := by
  unfold execJobRead
  dsimp -iota only
  repeat' first
    | split
    | with_reducible first
      | intro _ | assumption | exact Subset.trans (by decide) hM | apply next | apply grvWrite | apply jobEnds | apply setPos
      | apply epUsed | apply endIf | apply answered
    | refine of_snd (by with_reducible assumption) ?_

theorem setMismatch {p n} (h : was.KeepsBut M s) : was.KeepsBut M (s.setMismatch p n) :=
  put (put h)

theorem execVerifyCompare_leads {p ans} (hM : [.arb, .lheSt, .fifos, .graver, .dram] ⊆ M) (h : was.KeepsBut M s) :
    was.LeadsBut M (execVerifyCompare p ans s) := by
  unfold execVerifyCompare
  dsimp -iota only
  repeat' first
    | split
    | with_reducible first
      | intro _ | assumption | exact Subset.trans (by decide) hM | apply next | apply groupCheck | apply jobEnds | apply setPos
      | apply imageBytes | apply epUsed | apply setMismatch | apply answered
    | refine of_snd (by with_reducible assumption) ?_

theorem execVerifyCrc_leads {p ans} (hM : [.arb, .lheSt, .graver] ⊆ M) (h : was.KeepsBut M s) :
    was.LeadsBut M (execVerifyCrc p ans s) := by
  unfold execVerifyCrc
  repeat' first
    | with_reducible first
      | intro _ | assumption | exact Subset.trans (by decide) hM | apply ite | apply next | apply partWith | apply jobEnds | apply setPos
      | apply epUsed | apply endIf | apply setMismatch | apply answered
    | split

theorem waitTest {p cond} (hM : [.arb, .graver] ⊆ M) (h : was.KeepsBut M s) : was.KeepsBut M (s.waitTest p cond) := by
  unfold State.waitTest
  repeat' first | (with_reducible first | assumption | apply jobEnds) | split

theorem capsQuit {p code} (hM : [.arb, .graver] ⊆ M) (h : was.KeepsBut M s) : was.KeepsBut M (s.capsQuit p code) :=
  foldl (fun _ _ h' => ite (jobEnds hM h') h') h

theorem stopOn {what p} (hM : [.arb, .fifos, .graver, .dram, .grvBuffer, .dramMem] ⊆ M) (h : was.KeepsBut M s) :
    was.KeepsBut M (s.stopOn what p) := by
  unfold State.stopOn
  repeat' first
    | with_reducible first
      | assumption | exact Subset.trans (by decide) hM | apply jobEnds | apply runEnds | apply capsEnd | apply capsQuit
      | refine foldl (fun _ _ _ => ?_) ?_
    | split

theorem stopStep {p what} (hM : [.arb, .fifos, .graver, .dram, .grvBuffer, .dramMem] ⊆ M) (h : was.KeepsBut M s) :
    was.KeepsBut M (s.stopStep p what) := by
  unfold State.stopStep
  dsimp only
  repeat' first
    | with_reducible first
      | assumption | exact Subset.trans (by decide) hM | apply jobWith | apply jobEndsAll | apply stopOn
      | refine foldl (fun _ _ _ => ?_) ?_
    | split

theorem capBegin {j p} (hM : [.answer, .arb, .graver] ⊆ M) (h : was.KeepsBut M s) : was.KeepsBut M (s.capBegin j p) := by
  unfold State.capBegin
  repeat' first
    | with_reducible first
      | intro _ | assumption | exact Subset.trans (by decide) hM | apply ite | apply put | apply reply | apply jobEnds | apply setPhase
      | apply grvWith
    | rfl | split

theorem execCaptureSbu_leads {p} (hM : [.answer, .arb, .graver] ⊆ M) (h : was.KeepsBut M s) : was.LeadsBut M (execCaptureSbu p s) := by
  unfold execCaptureSbu
  repeat' first | (with_reducible first | assumption | apply next | apply capBegin) | split

theorem capBytesIn {p bs} (hM : [.graver] ⊆ M) (h : was.KeepsBut M s) : was.KeepsBut M (s.capBytesIn p bs) :=
  foldl (fun _ _ h' => capTake hM h') h

theorem capPoll {c p ans} (hM : [.lheSt, .fifos, .graver, .dram, .grvBuffer, .dramMem] ⊆ M) (h : was.KeepsBut M s) :
    was.KeepsBut M (s.capPoll c p ans) := by
  unfold State.capPoll
  dsimp -iota only
  repeat' first
    | split
    | with_reducible first
      | assumption | exact Subset.trans (by decide) hM | apply capWith | apply capEnds | apply xactOk | apply xactErr | apply xactStall
      | apply epUsed | apply capBytesIn
    | refine of_snd (by with_reducible assumption) ?_

theorem execCaptureCdc_leads {p ans} (hM : [.answer, .arb, .lheSt, .fifos, .graver, .dram, .grvBuffer, .dramMem] ⊆ M)
    (h : was.KeepsBut M s) : was.LeadsBut M (execCaptureCdc p ans s) := by
  unfold execCaptureCdc
  repeat' first
    | with_reducible first
      | assumption | exact Subset.trans (by decide) hM | apply next | apply capBegin | apply capPoll
    | split

theorem execCaptureRecordClose_leads {p cdc why} (hM : [.fifos, .graver, .dram, .grvBuffer, .dramMem] ⊆ M) (h : was.KeepsBut M s) :
    was.LeadsBut M (execCaptureRecordClose p cdc why s) := by
  unfold execCaptureRecordClose
  repeat' first | (with_reducible first | assumption | apply iteO | apply next | apply capWrite) | split

theorem execConRxByte_leads {p ch} (hM : [.conSt, .graver] ⊆ M) (h : was.KeepsBut M s) : was.LeadsBut M (execConRxByte p ch s) := by
  unfold execConRxByte
  repeat' first
    | with_reducible first
      | assumption | exact Subset.trans (by decide) hM | apply iteO | apply next | apply put | apply countErr | apply conReceive
      | apply conBreak | apply capTake
    | split

theorem execJobEnd_leads {p} (hM : [.arb, .fifos, .graver, .dram, .grvBuffer, .dramMem] ⊆ M) (h : was.KeepsBut M s) :
    was.LeadsBut M (execJobEnd p s) := by
  unfold execJobEnd
  dsimp only
  repeat' first
    | with_reducible first
      | assumption | exact Subset.trans (by decide) hM | apply next | apply capFinish | apply finishJob
    | split

theorem execJobTimeout_leads {p cap} (hM : [.arb, .fifos, .graver, .dram, .grvBuffer, .dramMem] ⊆ M) (h : was.KeepsBut M s) :
    was.LeadsBut M (execJobTimeout p cap s) := by
  unfold execJobTimeout
  repeat' first
    | with_reducible first
      | assumption | exact Subset.trans (by decide) hM | apply next | apply jobEnds | apply capEnds
    | split

theorem completionWrite {r c} (hM : [.fifos, .graver, .dram, .grvBuffer, .dramMem] ⊆ M) (h : was.KeepsBut M s) :
    was.KeepsBut M (s.completionWrite r c) := by
  unfold State.completionWrite
  repeat' first
    | split
    | with_reducible first
      | intro _ | assumption | exact Subset.trans (by decide) hM | apply ite | apply put | apply noteBeyond | apply grvWrite
      | apply ringFault | apply grvWith
    | rfl | refine of_snd (by with_reducible assumption) ?_

theorem execCompletionWrite_leads {r} (hM : [.fifos, .graver, .dram, .grvBuffer, .dramMem] ⊆ M) (h : was.KeepsBut M s) :
    was.LeadsBut M (execCompletionWrite r s) := by
  unfold execCompletionWrite
  repeat' first | (with_reducible first | assumption | apply next | apply completionWrite) | split

theorem execCompletionRetry_leads {r} (hM : [.fifos, .graver, .dram, .grvBuffer, .dramMem] ⊆ M) (h : was.KeepsBut M s) :
    was.LeadsBut M (execCompletionRetry r s) := by
  unfold execCompletionRetry
  repeat' first | (with_reducible first | assumption | apply next | apply completionWrite) | split

theorem ringDoorbell {r v} (hM : [.fifos] ⊆ M) (h : was.KeepsBut M s) : was.KeepsBut M (s.ringDoorbell r v) :=
  ite (ringFault hM (setFault h)) (put h)

theorem ringRestart {r} (hM : [.bad, .arb, .fifos, .graver, .dram, .grvBuffer, .dramMem] ⊆ M) (h : was.KeepsBut M s) :
    was.KeepsBut M (s.ringRestart r) :=
  putRw (Subset.trans (by decide) hM) (put (put (putRw (Subset.trans (by decide) hM) (grvWith (Subset.trans (by decide) hM) (foldl
    (fun _ _ h' => noteJob (Subset.trans (by decide) hM) h') (foldl (fun _ _ h' => jobEndsAll (Subset.trans (by decide) hM) h') (foldl
    (fun _ _ h' => ite (capEnds (Subset.trans (by decide) hM) h') h') h))) (fun _ => rfl) (fun _ => rfl)))))

theorem bufStep (hM : [.bad] ⊆ M) (h : was.KeepsBut M s) : was.KeepsBut M s.bufStep :=
  putRw hM h

theorem bufWrite {be v} (hM : [.bad, .grvBuffer] ⊆ M) (h : was.KeepsBut M s) : was.KeepsBut M (s.bufWrite be v) :=
  ite (setFault h) (bufStep (Subset.trans (by decide) hM) (foldl (fun _ _ h' => ite (bufPut (Subset.trans (by decide) hM) h') h') h))

theorem bufRead (hM : [.bad] ⊆ M) (h : was.KeepsBut M s) : was.KeepsBut M s.bufRead.2 := by
  unfold State.bufRead
  repeat' first | (with_reducible first | assumption | apply setFault | apply bufStep) | split

/-! ### The definitions of Machine/Mgf.lean -/

theorem epmPut {off bs} (hM : [.epm] ⊆ M) (h : was.KeepsBut M s) : was.KeepsBut M (s.epmPut off bs) := by
  induction bs generalizing s off with
  | nil => exact h
  | cons b bs ih => exact ih (h.change hM rfl fun p _ _ => by cases p <;> trivial)

theorem epmError {u area} (h : was.KeepsBut M s) : was.KeepsBut M (s.epmError u area) :=
  setFault (put (put (count h)))

theorem fnStall {u} (hM : [.answer] ⊆ M) (h : was.KeepsBut M s) : was.KeepsBut M (s.fnStall u) :=
  reply hM (count h)

theorem epBusy {fi ep} (hM : [.answer, .mgfSt] ⊆ M) (h : was.KeepsBut M s) : was.KeepsBut M (s.epBusy fi ep) :=
  ite (reply (Subset.trans (by decide) hM) (mgfWith (Subset.trans (by decide) hM) h)) (reply (Subset.trans (by decide) hM) h)

theorem epServed {u ep} (hM : [.mgfSt] ⊆ M) (h : was.KeepsBut M s) : was.KeepsBut M (s.epServed u ep) :=
  mgfWith hM h

theorem vendor {fi ok act} (hM : [.answer, .mgfSt] ⊆ M) (h : was.KeepsBut M s) (h0 : was.KeepsBut M act) :
    was.KeepsBut M (s.vendor fi ok act) :=
  ite (reply (Subset.trans (by decide) hM) h) (ite (fnStall (Subset.trans (by decide) hM) h) (ite (epBusy hM h) h0))

theorem setResult {u breq granted refused sts} (hM : [.mgfSt] ⊆ M) (h : was.KeepsBut M s) :
    was.KeepsBut M (s.setResult u breq granted refused sts) :=
  mgfWith hM h

theorem countVendor {u} (h : was.KeepsBut M s) : was.KeepsBut M (s.countVendor u) :=
  count h

theorem setExec {u e} (hM : [.mgfSt] ⊆ M) (h : was.KeepsBut M s) : was.KeepsBut M (s.setExec u e) :=
  mgfSync (mgfWith hM h)

theorem vendorBegin {u breq addr len data} (hM : [.mgfSt] ⊆ M) (h : was.KeepsBut M s) :
    was.KeepsBut M (s.vendorBegin u breq addr len data) :=
  countVendor (setExec hM h)

theorem vendorWords {u ws} (hM : [.mgfSt] ⊆ M) (h : was.KeepsBut M s) : was.KeepsBut M (s.vendorWords u ws) :=
  mgfWith hM h

theorem vendorDram {u} (hM : [.mgfSt, .fifos, .dram, .dramMem] ⊆ M) (h : was.KeepsBut M s) : was.KeepsBut M (s.vendorDram u) := by
  unfold State.vendorDram
  repeat' first
    | split
    | with_reducible first
      | assumption | exact Subset.trans (by decide) hM | apply hostRead | apply hostWrite | apply mgfWith
    | refine of_snd2 (by with_reducible assumption) ?_ | refine of_snd3 (by with_reducible assumption) ?_

theorem wordsDone {n} (hM : [.freeCount] ⊆ M) (h : was.KeepsBut M s) : was.KeepsBut M (s.wordsDone n).2 :=
  free hM h

theorem hostCut {u write a n data} (hM : [.freeCount, .fifos, .dram, .dramMem] ⊆ M) (h : was.KeepsBut M s) :
    was.KeepsBut M (s.hostCut u write a n data).2.2.2 := by
  unfold State.hostCut
  repeat' first
    | with_reducible first
      | assumption | exact Subset.trans (by decide) hM | apply count | apply hostRead | apply hostWrite | apply wordsDone
    | split

theorem vendorCut (hM : [.freeCount, .mgfSt, .fifos, .dram, .dramMem] ⊆ M) (h : was.KeepsBut M s) : was.KeepsBut M s.vendorCut := by
  unfold State.vendorCut
  repeat' first
    | with_reducible first
      | assumption | exact Subset.trans (by decide) hM | apply mgfWith | apply hostCut | refine foldl (fun _ _ _ => ?_) ?_
    | split

theorem execVendorRequestDone_leads {u parityErr} (hM : [.answer, .mgfSt, .fifos, .epm, .dram, .dramMem] ⊆ M) (h : was.KeepsBut M s) :
    was.LeadsBut M (execVendorRequestDone u parityErr s) := by
  unfold execVendorRequestDone
  dsimp only
  repeat' first
    | with_reducible first
      | assumption | exact Subset.trans (by decide) hM | apply next | apply reply | apply mgfWith | apply epmPut | apply epmError
      | apply fnStall | apply epBusy | apply epServed | apply setResult | apply setExec | apply vendorDram
    | split

theorem execGetResult_leads {fi rq parityErr} (hM : [.answer, .mgfSt] ⊆ M) (h : was.KeepsBut M s) :
    was.LeadsBut M (execGetResult fi rq parityErr s) :=
  next (vendor hM h (ite (fnStall (Subset.trans (by decide) hM) (epmError h)) (reply (Subset.trans (by decide) hM) (countVendor h))))

theorem execVendorReplay_leads {fi rq parityErr} (hM : [.answer, .mgfSt] ⊆ M) (h : was.KeepsBut M s) :
    was.LeadsBut M (execVendorReplay fi rq parityErr s) :=
  next (vendor hM h (ite (fnStall (Subset.trans (by decide) hM) (epmError h)) (reply (Subset.trans (by decide) hM) (countVendor h))))

theorem execDramRead_leads {fi waddr len} (hM : [.answer, .mgfSt] ⊆ M) (h : was.KeepsBut M s) :
    was.LeadsBut M (execDramRead fi waddr len s) :=
  next (vendor hM h (reply (Subset.trans (by decide) hM) (vendorBegin (Subset.trans (by decide) hM) h)))

theorem execDramWrite_leads {fi waddr data parityErr} (hM : [.answer, .mgfSt, .epm] ⊆ M) (h : was.KeepsBut M s) :
    was.LeadsBut M (execDramWrite fi waddr data parityErr s) :=
  next (vendor (Subset.trans (by decide) hM) h (ite (fnStall (Subset.trans (by decide) hM) (epmError (epmPut (Subset.trans (by decide) hM)
    h))) (reply (Subset.trans (by decide) hM) (vendorBegin (Subset.trans (by decide) hM) (epmPut (Subset.trans (by decide) hM) h)))))

theorem setHalt {u ep b} (h : was.KeepsBut M s) : was.KeepsBut M (s.setHalt u ep b) :=
  setFlag h

theorem stepSeq {u i k} (hM : [.mgfSt] ⊆ M) (h : was.KeepsBut M s) : was.KeepsBut M (s.stepSeq u i k) := by
  unfold State.stepSeq
  repeat' with_reducible first | assumption | apply mgfWith

theorem execBulkCommand_leads {at_ bytes} (hM : [.answer, .mgfSt, .epm] ⊆ M) (h : was.KeepsBut M s) :
    was.LeadsBut M (execBulkCommand at_ bytes s) :=
  iteO fault (iteO (next (epBusy (Subset.trans (by decide) hM) h)) (iteO (next (reply (Subset.trans (by decide) hM) h)) (iteO (next (reply
    (Subset.trans (by decide) hM) h)) (iteO (next (epBusy (Subset.trans (by decide) hM) h)) (iteO (next (reply
    (Subset.trans (by decide) hM) (count (mgfWith (Subset.trans (by decide) hM) (setHalt h))))) (next (reply (Subset.trans (by decide) hM)
    (mgfSync (epServed (Subset.trans (by decide) hM) (stepSeq (Subset.trans (by decide) hM) (mgfWith (Subset.trans (by decide) hM) (epmPut
    (Subset.trans (by decide) hM) h))))))))))))

theorem bulkDone {u c st data f} (hM : [.mgfSt, .epm] ⊆ M) (h : was.KeepsBut M s) : was.KeepsBut M (s.bulkDone u c st data f) :=
  ite (mgfSync (mgfWith (Subset.trans (by decide) hM) (setFlag (put (setFlag (put (put h))))))) (mgfSync (mgfWith
    (Subset.trans (by decide) hM) (epmPut (Subset.trans (by decide) hM) (mgfWith (Subset.trans (by decide) hM) (setFlag (put (setFlag (put
    (put h)))))))))

theorem bulkCut (hM : [.freeCount, .mgfSt, .fifos, .epm, .dram, .dramMem] ⊆ M) (h : was.KeepsBut M s) : was.KeepsBut M s.bulkCut := by
  unfold State.bulkCut
  repeat' first
    | with_reducible first
      | assumption | exact Subset.trans (by decide) hM | apply hostCut | apply bulkDone | refine foldl (fun _ _ _ => ?_) ?_
    | split

theorem ep2Broken {u} (hM : [.mgfSt] ⊆ M) (h : was.KeepsBut M s) : was.KeepsBut M (s.ep2Broken u) :=
  mgfSync (count (mgfWith hM (setHalt (epmError h))))

theorem execBulkRead_leads {u parityErr} (hM : [.mgfSt, .fifos, .epm, .dram] ⊆ M) (h : was.KeepsBut M s) :
    was.LeadsBut M (execBulkRead u parityErr s) := by
  unfold execBulkRead
  repeat' first
    | split
    | with_reducible first
      | assumption | exact Subset.trans (by decide) hM | apply next | apply hostRead | apply bulkDone | apply ep2Broken
    | refine of_snd3 (by with_reducible assumption) ?_

theorem execBulkWrite_leads {u parityErr} (hM : [.mgfSt, .fifos, .epm, .dram, .dramMem] ⊆ M) (h : was.KeepsBut M s) :
    was.LeadsBut M (execBulkWrite u parityErr s) := by
  unfold execBulkWrite
  repeat' first
    | split
    | with_reducible first
      | assumption | exact Subset.trans (by decide) hM | apply next | apply hostWrite | apply bulkDone | apply ep2Broken
    | refine of_snd2 (by with_reducible assumption) ?_

theorem execEp3Ack_leads {fi n parityErr} (hM : [.answer, .mgfSt] ⊆ M) (h : was.KeepsBut M s) :
    was.LeadsBut M (execEp3Ack fi n parityErr s) :=
  iteO (next (epBusy hM h)) (iteO (next (reply (Subset.trans (by decide) hM) h)) (iteO (next (epBusy hM h)) (iteO (next (reply
    (Subset.trans (by decide) hM) (count (setHalt (epmError h))))) (next (reply (Subset.trans (by decide) hM) (mgfSync (epServed
    (Subset.trans (by decide) hM) (stepSeq (Subset.trans (by decide) hM) (mgfWith (Subset.trans (by decide) hM) h)))))))))

theorem execNotice_leads {fi parityErr} (hM : [.answer, .mgfSt, .epm] ⊆ M) (h : was.KeepsBut M s) :
    was.LeadsBut M (execNotice fi parityErr s) :=
  iteO (next (epBusy (Subset.trans (by decide) hM) h)) (iteO (next (reply (Subset.trans (by decide) hM) h)) (iteO (next (epBusy
    (Subset.trans (by decide) hM) h)) (iteO (next (reply (Subset.trans (by decide) hM) (count (setHalt (epmError (ite h (mgfWith
    (Subset.trans (by decide) hM) (epmPut (Subset.trans (by decide) hM) h)))))))) (next (reply (Subset.trans (by decide) hM) (epServed
    (Subset.trans (by decide) hM) (ite h (mgfWith (Subset.trans (by decide) hM) (epmPut (Subset.trans (by decide) hM) h)))))))))

theorem noticeWake {before} (hM : [.u2pSt, .hubCtx, .upLink, .mgfSt, .fifos] ⊆ M) (h : was.KeepsBut M s) :
    was.KeepsBut M (s.noticeWake before) :=
  foldl (fun _ _ h' => ite (ite (upWake (Subset.trans (by decide) hM) (mgfWith (Subset.trans (by decide) hM) h')) (propagate
    (Subset.trans (by decide) hM) h')) h') h

theorem execFunctionWake_leads {u} (hM : [.answer, .mgfSt] ⊆ M) (h : was.KeepsBut M s) : was.LeadsBut M (execFunctionWake u s) :=
  iteO (next (reply (Subset.trans (by decide) hM) (mgfWith (Subset.trans (by decide) hM) h))) (next h)

theorem epRestart {u} (hM : [.mgfSt] ⊆ M) (h : was.KeepsBut M s) : was.KeepsBut M (s.epRestart u) :=
  mgfSync (clearSeqs hM (emptyEps hM h))

theorem fnConfigure {u ss intf cfg} (hM : [.answer, .mgfSt] ⊆ M) (h : was.KeepsBut M s) : was.KeepsBut M (s.fnConfigure u ss intf cfg) :=
  ite (reply (Subset.trans (by decide) hM) h) (ite (fnStall (Subset.trans (by decide) hM) (ite (epRestart (Subset.trans (by decide) hM) h)
    h)) (reply (Subset.trans (by decide) hM) (ite (epRestart (Subset.trans (by decide) hM) (ite h (mgfInstWith
    (Subset.trans (by decide) hM) h))) (mgfSync (ite h (mgfInstWith (Subset.trans (by decide) hM) h))))))

theorem epRequest {fi ep act} (hM : [.answer] ⊆ M) (h : was.KeepsBut M s) (h0 : was.KeepsBut M act) :
    was.KeepsBut M (s.epRequest fi ep act) :=
  ite (reply hM h) (ite (reply hM h) (ite (fnStall hM h) (reply hM (ite h0 h))))

theorem execClearEndpointHalt_leads {fi ep} (hM : [.answer, .mgfSt] ⊆ M) (h : was.KeepsBut M s) :
    was.LeadsBut M (execClearEndpointHalt fi ep s) :=
  next (epRequest (Subset.trans (by decide) hM) h (mgfSync (setHalt (mgfWith (Subset.trans (by decide) hM) h))))

theorem execInServiceChange_leads {u} (hM : [.mgfSt] ⊆ M) (h : was.KeepsBut M s) : was.LeadsBut M (execInServiceChange u s) :=
  iteO (next h) (next (mgfSync (setFlag (setFlag (clearSeqs hM (emptyEps hM h))))))

/-! ### The definitions of Machine/SsQueue.lean -/

theorem setSsq {q l} (hM : [.sspSt, .upLink] ⊆ M) (h : was.KeepsBut M s) : was.KeepsBut M (s.setSsq q l) := by
  unfold State.setSsq
  repeat' first | (with_reducible first | assumption | exact Subset.trans (by decide) hM | apply sspWith | apply upLkWith) | split

theorem rootDrop {u} (hM : [.ssCtx] ⊆ M) (h : was.KeepsBut M s) : was.KeepsBut M (s.rootDrop u) :=
  ssHubWith hM h

theorem ssPush {q p} (hM : [.answer, .sspSt, .upLink] ⊆ M) (h : was.KeepsBut M s) : was.KeepsBut M (s.ssPush q p) :=
  ite (reply (Subset.trans (by decide) hM) (setSsq (Subset.trans (by decide) hM) h)) (reply (Subset.trans (by decide) hM) h)

theorem fromHost {u p} (hM : [.answer, .sspSt, .ssCtx, .upLink, .presSt] ⊆ M) (h : was.KeepsBut M s) :
    was.KeepsBut M (s.fromHost u p) := by
  unfold State.fromHost
  repeat' first
    | with_reducible first
      | intro _ | assumption | exact Subset.trans (by decide) hM | apply ite | apply reply | apply presWith | apply rootDrop
      | apply ssPush
    | split

theorem fromDevice {f p} (hM : [.answer, .sspSt, .upLink] ⊆ M) (h : was.KeepsBut M s) : was.KeepsBut M (s.fromDevice f p) :=
  ite (reply (Subset.trans (by decide) hM) (ssDiscard (sspWith (Subset.trans (by decide) hM) h))) (ssPush hM (sspWith
    (Subset.trans (by decide) hM) h))

theorem headerErrs {hd} (h : was.KeepsBut M s) : was.KeepsBut M (s.headerErrs hd) := by
  unfold State.headerErrs
  repeat' first | (with_reducible first | assumption | apply countBy) | split

theorem countSs {k n} (h : was.KeepsBut M s) : was.KeepsBut M (s.countSs k n) :=
  put (put h)

theorem toPlate {u k p rest} (hM : [.sspSt, .ssCtx, .upLink] ⊆ M) (h : was.KeepsBut M s) : was.KeepsBut M (s.toPlate u k p rest) := by
  unfold State.toPlate
  repeat' first
    | with_reducible first
      | intro _ | assumption | exact Subset.trans (by decide) hM | apply ite | apply count | apply setLink | apply ssDiscard
      | apply routeDrop | apply setSsq | apply rootDrop | apply countSs
    | split

theorem execPacketForward_leads {mv} (hM : [.sspSt, .ssCtx, .upLink] ⊆ M) (h : was.KeepsBut M s) :
    was.LeadsBut M (execPacketForward mv s) := by
  unfold execPacketForward
  dsimp only
  repeat' first
    | with_reducible first
      | assumption | exact Subset.trans (by decide) hM | apply next | apply countBy | apply sspWith | apply ssDiscard | apply setUpState
      | apply setSsq | apply rootDrop | apply countSs | apply toPlate
    | split

/-! ### The definitions of Machine/Prs.lean -/

theorem setAttached {u b} (h : was.KeepsBut M s) : was.KeepsBut M (s.setAttached u b) :=
  setFlag (setFlag h)

theorem ctxWakeUp {hc} (hM : [.hubCtx] ⊆ M) (h : was.KeepsBut M s) : was.KeepsBut M (s.ctxWakeUp hc) :=
  ite h (hubWith hM h)

theorem execPresAttach_leads {u} (hM : [.freeCount, .hubCtx, .sspSt, .ssCtx, .upLink, .presSt, .lheSt, .fifos, .graver] ⊆ M)
    (h : was.KeepsBut M s) : was.LeadsBut M (execPresAttach u s) := by
  unfold execPresAttach
  repeat' with_reducible first
    | assumption | exact Subset.trans (by decide) hM | apply ite | apply iteO | apply next | apply put | apply raisePres | apply presWith
    | apply ssHubWith | apply ssEval | apply setUpState | apply setAttached | apply ctxWakeUp | refine foldl (fun _ _ _ => ?_) ?_

theorem upGone {u cause} (hM : [.freeCount, .arb, .u2pSt, .sspSt, .ssCtx, .upLink, .vbsSt, .tcpSt, .pdSt, .conSt, .mgfSt, .lheSt,
    .fifos, .graver] ⊆ M) (h : was.KeepsBut M s) : was.KeepsBut M (s.upGone u cause) :=
  setUpState (put (put (ite (ite (raisePres (Subset.trans (by decide) hM) h) h) (ssPresReset hM (ite (raisePres
    (Subset.trans (by decide) hM) h) h)))))

theorem presDetach {u cause} (hM : [.freeCount, .arb, .u2pSt, .hubCtx, .sspSt, .ssCtx, .upLink, .vbsSt, .tcpSt, .pdSt, .conSt, .presSt,
    .mgfSt, .lheSt, .fifos, .graver, .cpt] ⊆ M) (h : was.KeepsBut M s) : was.KeepsBut M (s.presDetach u cause) :=
  ite h (semOrphanHost (Subset.trans (by decide) hM) (raisePres (Subset.trans (by decide) hM) (presWith (Subset.trans (by decide) hM)
    (mgfWith (Subset.trans (by decide) hM) (setAttached (foldl (fun _ _ h' => hubWith (Subset.trans (by decide) hM) h') (ite (ctxReset
    (Subset.trans (by decide) hM) h) (upGone (Subset.trans (by decide) hM) (ctxReset (Subset.trans (by decide) hM) h)))))))))

theorem takeTopo {u} (h : was.KeepsBut M s) : was.KeepsBut M (s.takeTopo u) :=
  setFlag h

theorem presRestart {u} (hM : [.freeCount, .arb, .u2pSt, .hubCtx, .sspSt, .ssCtx, .upLink, .vbsSt, .tcpSt, .pdSt, .conSt, .presSt,
    .mgfSt, .lheSt, .fifos, .graver, .cpt] ⊆ M) (h : was.KeepsBut M s) : was.KeepsBut M (s.presRestart u) :=
  presWith (Subset.trans (by decide) hM) (takeTopo (presDetach hM h))

theorem batchAdd {u ps cause} (hM : [.presSt] ⊆ M) (h : was.KeepsBut M s) : was.KeepsBut M (s.batchAdd u ps cause) := by
  unfold State.batchAdd
  repeat' with_reducible first | assumption | apply presWith

theorem movePorts {u ps cause} (hM : [.bad, .u2pSt, .hubCtx, .upLink, .presSt, .moveCause, .mgfSt, .fifos] ⊆ M) (h : was.KeepsBut M s) :
    was.KeepsBut M (s.movePorts u ps cause) :=
  batchAdd (Subset.trans (by decide) hM) (foldl (fun _ _ h' => moveRequest hM h') h)

theorem failbackCancel {u} (hM : [.bad, .u2pSt, .hubCtx, .upLink, .presSt, .moveCause, .mgfSt, .fifos] ⊆ M) (h : was.KeepsBut M s) :
    was.KeepsBut M (s.failbackCancel u) :=
  foldl (fun _ _ h' => ite (moveCancel hM h') h') h

theorem foDecide {u trigger first} (hM : [.bad, .u2pSt, .hubCtx, .upLink, .presSt, .moveCause, .mgfSt, .fifos] ⊆ M) (h : was.KeepsBut M s)
    : was.KeepsBut M (s.foDecide u trigger first) :=
  ite (movePorts hM (presWith (Subset.trans (by decide) hM) (raisePres (Subset.trans (by decide) hM) (ite (failbackCancel hM (presWith
    (Subset.trans (by decide) hM) (count h))) h)))) (presWith (Subset.trans (by decide) hM) (raisePres (Subset.trans (by decide) hM) (ite
    (failbackCancel hM (presWith (Subset.trans (by decide) hM) (count h))) h)))

theorem failover {u trigger first} (hM : [.bad, .u2pSt, .hubCtx, .upLink, .presSt, .moveCause, .mgfSt, .fifos] ⊆ M) (h : was.KeepsBut M s)
    : was.KeepsBut M (s.failover u trigger first) :=
  ite h (ite (foDecide hM h) (presWith (Subset.trans (by decide) hM) h))

theorem liveCheck {u trigger} (hM : [.bad, .u2pSt, .hubCtx, .upLink, .presSt, .moveCause, .mgfSt, .fifos] ⊆ M) (h : was.KeepsBut M s) :
    was.KeepsBut M (s.liveCheck u trigger) :=
  ite (failover hM (presWith (Subset.trans (by decide) hM) h)) h

theorem execPresentationLive_leads {u} (hM : [.bad, .u2pSt, .hubCtx, .upLink, .presSt, .moveCause, .mgfSt, .fifos] ⊆ M)
    (h : was.KeepsBut M s) : was.LeadsBut M (execPresentationLive u s) :=
  iteO (next h) (next (ite (failover hM (presWith (Subset.trans (by decide) hM) h)) (presWith (Subset.trans (by decide) hM) h)))

theorem execUpstreamDetach_leads {u} (hM : [.freeCount, .bad, .arb, .u2pSt, .hubCtx, .sspSt, .ssCtx, .upLink, .vbsSt, .tcpSt, .pdSt,
    .upPdOut, .conSt, .presSt, .moveCause, .mgfSt, .lheSt, .fifos, .graver, .cpt] ⊆ M) (h : was.KeepsBut M s) :
    was.LeadsBut M (execUpstreamDetach u s) :=
  iteO (next h) (next (liveCheck (Subset.trans (by decide) hM) (put (presDetach (Subset.trans (by decide) hM) (put (put (put (put
    (set_upWant (Subset.trans (by decide) hM) (free (Subset.trans (by decide) hM) h))))))))))

theorem failbackTo {u ps mode} (hM : [.bad, .u2pSt, .hubCtx, .upLink, .presSt, .moveCause, .mgfSt, .fifos] ⊆ M) (h : was.KeepsBut M s) :
    was.KeepsBut M (s.failbackTo u ps mode) :=
  ite h (movePorts hM (raisePres (Subset.trans (by decide) hM) (count h)))

theorem fbDecide {u} (hM : [.bad, .u2pSt, .hubCtx, .upLink, .presSt, .moveCause, .mgfSt, .fifos] ⊆ M) (h : was.KeepsBut M s) :
    was.KeepsBut M (s.fbDecide u) :=
  ite h (failbackTo hM h)

theorem execSof_leads {u} (hM : [.bad, .u2pSt, .hubCtx, .upLink, .presSt, .moveCause, .mgfSt, .fifos] ⊆ M) (h : was.KeepsBut M s) :
    was.LeadsBut M (execSof u s) :=
  iteO (next h) (next (fbDecide hM (foldl (fun _ _ h' => hubWith (Subset.trans (by decide) hM) h') (presWith (Subset.trans (by decide) hM)
    h))))

theorem execSsHeader_leads {hd} (hM : [.answer, .bad, .u2pSt, .hubCtx, .sspSt, .ssCtx, .upLink, .presSt, .moveCause, .mgfSt, .fifos] ⊆ M)
    (h : was.KeepsBut M s) : was.LeadsBut M (execSsHeader hd s) := by
  unfold execSsHeader
  repeat' first
    | with_reducible first
      | assumption | exact Subset.trans (by decide) hM | apply next | apply reply | apply fromHost | apply fromDevice | apply headerErrs
      | apply fbDecide
    | split

theorem failbackCheck (h : was.KeepsBut M s) : was.KeepsBut M s.failbackCheck :=
  ite h (put h)

theorem failbackAll (hM : [.bad, .u2pSt, .hubCtx, .upLink, .presSt, .moveCause, .mgfSt, .fifos] ⊆ M) (h : was.KeepsBut M s) :
    was.KeepsBut M s.failbackAll :=
  ite (failbackCheck (put h)) (ite (put h) (failbackCheck (foldl (fun _ _ h' => ite (failbackTo hM h') h') (put h))))

theorem foResume (hM : [.bad, .u2pSt, .hubCtx, .upLink, .presSt, .moveCause, .mgfSt, .fifos] ⊆ M) (h : was.KeepsBut M s) :
    was.KeepsBut M s.foResume :=
  ite h (ite (failbackAll hM (foldl (fun _ _ h' => fbDecide hM h') (foldl (fun _ _ h' => ite h' (ite (presWith
    (Subset.trans (by decide) hM) h') (foDecide hM (presWith (Subset.trans (by decide) hM) h')))) h))) (foldl (fun _ _ h' => fbDecide hM
    h') (foldl (fun _ _ h' => ite h' (ite (presWith (Subset.trans (by decide) hM) h') (foDecide hM (presWith (Subset.trans (by decide) hM)
    h')))) h)))

theorem ssMoveUp {f c wasThere} (hM : [.sspSt, .upLink] ⊆ M) (h : was.KeepsBut M s) : was.KeepsBut M (s.ssMoveUp f c wasThere) := by
  unfold State.ssMoveUp
  repeat' with_reducible first | assumption | exact Subset.trans (by decide) hM | apply sspWith | apply upLkWith | apply ssDiscard

theorem ssMoveOut {f} (hM : [.freeCount, .sspSt, .upLink, .lheSt, .fifos, .graver] ⊆ M) (h : was.KeepsBut M s) :
    was.KeepsBut M (s.ssMoveOut f) := by
  unfold State.ssMoveOut
  repeat' first
    | with_reducible first
      | assumption | exact Subset.trans (by decide) hM | apply ite | apply sspWith | apply ssDiscard | apply ssDetect | apply ssMoveUp
    | split

theorem moveOut {p} (hM : [.freeCount, .u2pSt, .sspSt, .upLink, .lheSt, .fifos, .graver] ⊆ M) (h : was.KeepsBut M s) :
    was.KeepsBut M (s.moveOut p) := by
  unfold State.moveOut
  repeat' first
    | with_reducible first
      | assumption | exact Subset.trans (by decide) hM | apply ite | apply u2pWith | apply ttDrop | apply u2Gone | apply u2Disable
      | apply ssMoveOut
    | split

theorem movePower {p wasTest} (hM : [.ssCtx] ⊆ M) (h : was.KeepsBut M s) : was.KeepsBut M (s.movePower p wasTest) := by
  unfold State.movePower
  repeat' first | (with_reducible first | assumption | apply ite | apply ssHubWith | apply setPowerBit) | split

theorem moveShow {p} (hM : [.u2pSt, .sspSt] ⊆ M) (h : was.KeepsBut M s) : was.KeepsBut M (s.moveShow p) := by
  unfold State.moveShow
  repeat' first
    | with_reducible first
      | assumption | exact Subset.trans (by decide) hM | apply ite | apply addChg | apply addSsChg
    | split

theorem ownerless {p} (h : was.KeepsBut M s) : was.KeepsBut M (s.ownerless p) :=
  put h

theorem ssMoveDown {p dest wasTest} (hM : [.freeCount, .sspSt, .ssCtx, .upLink, .lheSt, .fifos, .graver] ⊆ M) (h : was.KeepsBut M s) :
    was.KeepsBut M (s.ssMoveDown p dest wasTest) := by
  unfold State.ssMoveDown
  repeat' first | (with_reducible first | assumption | exact Subset.trans (by decide) hM | apply ssLeave) | split

theorem moveRecord {p old dest reattached} (hM : [.moveCause, .fifos] ⊆ M) (h : was.KeepsBut M s) :
    was.KeepsBut M (s.moveRecord p old dest reattached) := by
  unfold State.moveRecord
  repeat' with_reducible first
    | assumption | exact Subset.trans (by decide) hM | apply put | apply setFlag | apply count | apply raiseWith | apply setBegun

theorem movePoint {p} (hM : [.freeCount, .arb, .u2pSt, .hubCtx, .sspSt, .ssCtx, .upLink, .vbsSt, .tcpSt, .pdSt, .conSt, .presSt,
    .moveCause, .mgfSt, .lheSt, .fifos, .graver, .dram, .grvBuffer, .dramMem] ⊆ M) (h : was.KeepsBut M s) :
    was.KeepsBut M (s.movePoint p) := by
  unfold State.movePoint
  repeat' first
    | with_reducible first
      | assumption | exact Subset.trans (by decide) hM | apply u2Eval | apply ssEvalAs | apply toRecovery | apply batchesEnd
      | apply grvMoved | apply grvGiven | apply failbackCheck | apply moveOut | apply movePower | apply moveShow | apply ownerless
      | apply ssMoveDown | apply moveRecord
    | split

theorem prsRestart (hM : [.bad, .u2pSt, .hubCtx, .upLink, .presSt, .moveCause, .mgfSt, .fifos] ⊆ M) (h : was.KeepsBut M s) :
    was.KeepsBut M s.prsRestart :=
  foldl (fun _ _ h' => presWith (Subset.trans (by decide) hM) h') (failbackCheck (foldl (fun _ _ h' => ite (moveCancel hM h') h') h))

theorem prsResume (hM : [.bad, .u2pSt, .hubCtx, .upLink, .presSt, .moveCause, .mgfSt, .fifos] ⊆ M) (h : was.KeepsBut M s) :
    was.KeepsBut M s.prsResume :=
  foResume hM (foldl (fun _ _ h' => ite (setBegun (Subset.trans (by decide) hM) h') h') h)

/-! ### The definitions of Machine/Store.lean -/

theorem fixMode (h : was.KeepsBut M s) : was.KeepsBut M s.fixMode :=
  setFlag (put (setFlag h))

theorem noteBanks (h : was.KeepsBut M s) : was.KeepsBut M s.noteBanks :=
  put (setFlag (put (setFlag h)))

theorem setActive {b} (h : was.KeepsBut M s) : was.KeepsBut M (s.setActive b) :=
  setFlag (put (put (put h)))

theorem loadReg {pg off v} (hM : [.bad] ⊆ M) (h : was.KeepsBut M s) : was.KeepsBut M (s.loadReg pg off v) :=
  dropParity hM (wr h)

theorem storedReset {pg} (hM : [.bad] ⊆ M) (h : was.KeepsBut M s) : was.KeepsBut M (s.storedReset pg) :=
  foldl (fun _ _ h' => loadReg hM h') h

theorem skipEntry (h : was.KeepsBut M s) : was.KeepsBut M s.skipEntry :=
  count h

theorem applyEntry {only tag inst addr v} (hM : [.bad] ⊆ M) (h : was.KeepsBut M s) :
    was.KeepsBut M (s.applyEntry only tag inst addr v) := by
  unfold State.applyEntry
  repeat' first | (with_reducible first | assumption | apply loadReg | apply skipEntry) | split

theorem applyList {only g sec} (hM : [.bad] ⊆ M) (h : was.KeepsBut M s) : was.KeepsBut M (s.applyList only g sec) :=
  ite (skipEntry (foldl (fun _ _ h' => applyEntry hM h') h)) (foldl (fun _ _ h' => applyEntry hM h') h)

theorem applyPolicy {p g o} (hM : [.bad] ⊆ M) (h : was.KeepsBut M s) : was.KeepsBut M (s.applyPolicy p g o) :=
  putRw hM (put (foldl (fun _ _ h' => ite h' (loadReg hM h')) h))

theorem applyDesc {u g sec} (hM : [.presSt] ⊆ M) (h : was.KeepsBut M s) : was.KeepsBut M (s.applyDesc u g sec) :=
  countBy (presWith hM h)

theorem applyCompat {i g o} (h : was.KeepsBut M s) : was.KeepsBut M (s.applyCompat i g o) :=
  foldl (fun _ _ h' => setCptByte h') h

theorem applyTemplates {g sec} (hM : [.grvTemplates] ⊆ M) (h : was.KeepsBut M s) : was.KeepsBut M (s.applyTemplates g sec) :=
  h.change hM rfl fun p _ _ => by cases p <;> trivial

theorem applySection {only g sec} (hM : [.bad, .presSt, .grvTemplates] ⊆ M) (h : was.KeepsBut M s) :
    was.KeepsBut M (s.applySection only g sec) := by
  unfold State.applySection
  repeat' first
    | with_reducible first
      | intro _ | assumption | exact Subset.trans (by decide) hM | apply applyList | apply applyPolicy | apply applyDesc
      | apply applyCompat | apply applyTemplates
    | split

theorem applyTag {only g secs tag inst} (hM : [.bad, .presSt, .grvTemplates] ⊆ M) (h : was.KeepsBut M s) :
    was.KeepsBut M (s.applyTag only g secs tag inst) :=
  foldl (fun _ _ h' => applySection hM h') h

theorem restore {tags} (hM : [.bad, .presSt, .grvTemplates] ⊆ M) (h : was.KeepsBut M s) : was.KeepsBut M (s.restore tags) := by
  unfold State.restore
  dsimp only
  repeat' first
    | with_reducible first
      | assumption | apply put | apply countBy | apply applyTag | refine foldl (fun _ _ _ => ?_) ?_
    | split

theorem reapply {only tag inst} (hM : [.bad, .presSt, .grvTemplates] ⊆ M) (h : was.KeepsBut M s) :
    was.KeepsBut M (s.reapply only tag inst) := by
  unfold State.reapply
  dsimp only
  repeat' first | (with_reducible first | assumption | apply put | apply applyTag) | split

theorem stageStep (hM : [.bad] ⊆ M) (h : was.KeepsBut M s) : was.KeepsBut M s.stageStep :=
  putRw hM h

theorem stagePut {o bs} (hM : [.stage] ⊆ M) (h : was.KeepsBut M s) : was.KeepsBut M (s.stagePut o bs) :=
  h.change hM rfl fun p _ _ => by cases p <;> trivial

theorem stageWrite {be v} (hM : [.bad, .stage] ⊆ M) (h : was.KeepsBut M s) : was.KeepsBut M (s.stageWrite be v) :=
  ite h (ite (setFault h) (stageStep (Subset.trans (by decide) hM) (foldl (fun _ _ h' => ite (stagePut (Subset.trans (by decide) hM) h')
    h') h)))

theorem stageRead (hM : [.bad] ⊆ M) (h : was.KeepsBut M s) : was.KeepsBut M s.stageRead.2 := by
  unfold State.stageRead
  repeat' first | (with_reducible first | assumption | apply setFault | apply stageStep) | split

theorem setCfgOp {o} (hM : [.cfgOp] ⊆ M) (h : was.KeepsBut M s) : was.KeepsBut M (s.setCfgOp o) :=
  setFlag (set_cfgOp hM h)

theorem setCfgCtrl {v} (h : was.KeepsBut M s) : was.KeepsBut M (s.setCfgCtrl v) :=
  put h

theorem cfgEnd {code} (hM : [.cfgOp] ⊆ M) (h : was.KeepsBut M s) : was.KeepsBut M (s.cfgEnd code) :=
  put (setCfgCtrl (setCfgOp hM h))

theorem commitFail {code target} (hM : [.cfgOp, .fifos] ⊆ M) (h : was.KeepsBut M s) : was.KeepsBut M (s.commitFail code target) :=
  raise (Subset.trans (by decide) hM) (cfgEnd (Subset.trans (by decide) hM) h)

theorem cmdCommit {parityErr} (hM : [.cfgOp, .arb, .fifos] ⊆ M) (h : was.KeepsBut M s) : was.KeepsBut M (s.cmdCommit parityErr) :=
  ite (setFault h) (ite (commitFail (Subset.trans (by decide) hM) (noteBanks h)) (askLeave (Subset.trans (by decide) hM) (setCfgCtrl
    (setCfgOp (Subset.trans (by decide) hM) (noteBanks h)))))

theorem commitGranted (hM : [.wear, .cfgOp] ⊆ M) (h : was.KeepsBut M s) : was.KeepsBut M s.commitGranted := by
  unfold State.commitGranted
  repeat' first
    | with_reducible first
      | assumption | exact Subset.trans (by decide) hM | apply setFault | apply setCfgOp
    | split | with_reducible apply set_wear

theorem bankPut {b es} (hM : [.mram] ⊆ M) (h : was.KeepsBut M s) : was.KeepsBut M (s.bankPut b es) :=
  h.change hM rfl fun p _ _ => by cases p <;> trivial

theorem bankSpoil {b} (hM : [.freeCount, .mram] ⊆ M) (h : was.KeepsBut M s) : was.KeepsBut M (s.bankSpoil b) :=
  bankPut (Subset.trans (by decide) hM) (free (Subset.trans (by decide) hM) h)

theorem commitEnd {ok} (hM : [.freeCount, .cfgOp, .arb, .fifos, .mram, .stage] ⊆ M) (h : was.KeepsBut M s) :
    was.KeepsBut M (s.commitEnd ok) := by
  unfold State.commitEnd
  repeat' first
    | with_reducible first
      | assumption | exact Subset.trans (by decide) hM | apply raise | apply opDone | apply noteBanks | apply setActive | apply stagePut
      | apply cfgEnd | apply commitFail | apply bankPut | apply bankSpoil
    | split

theorem commitCut (hM : [.freeCount, .mram] ⊆ M) (h : was.KeepsBut M s) : was.KeepsBut M s.commitCut := by
  unfold State.commitCut
  repeat' first | (with_reducible first | assumption | exact Subset.trans (by decide) hM | apply free | apply bankPut) | split

theorem fetchBegin {src cmd} (hM : [.cfgOp] ⊆ M) (h : was.KeepsBut M s) : was.KeepsBut M (s.fetchBegin src cmd) :=
  setCfgCtrl (setCfgOp hM (noteBanks h))

theorem cmdFetchActive (hM : [.cfgOp] ⊆ M) (h : was.KeepsBut M s) : was.KeepsBut M s.cmdFetchActive :=
  ite (setFault h) (fetchBegin hM h)

theorem cmdFetchOther (hM : [.cfgOp] ⊆ M) (h : was.KeepsBut M s) : was.KeepsBut M s.cmdFetchOther :=
  ite (setFault h) (fetchBegin hM h)

theorem fetchDone (hM : [.cfgOp, .stage] ⊆ M) (h : was.KeepsBut M s) : was.KeepsBut M s.fetchDone := by
  unfold State.fetchDone
  repeat' first | (with_reducible first | assumption | exact Subset.trans (by decide) hM | apply stagePut | apply cfgEnd) | split

theorem execCommitLeaveTimeout_leads (hM : [.cfgOp, .arb, .fifos] ⊆ M) (h : was.KeepsBut M s) :
    was.LeadsBut M (execCommitLeaveTimeout s) := by
  unfold execCommitLeaveTimeout
  repeat' first
    | with_reducible first
      | assumption | exact Subset.trans (by decide) hM | apply next | apply withdraw | apply commitFail
    | split

/-! ### The definitions of Machine/PortReset.lean -/

theorem clearPage {pg} (hM : [.bad] ⊆ M) (h : was.KeepsBut M s) : was.KeepsBut M (s.clearPage pg) :=
  dropParity hM (clearRegs h)

theorem sspClear {f} (hM : [.bad, .sspSt] ⊆ M) (h : was.KeepsBut M s) : was.KeepsBut M (s.sspClear f) :=
  sspWith (Subset.trans (by decide) hM) (clearPage (Subset.trans (by decide) hM) h)

theorem lrKeep {p} (hM : [.freeCount] ⊆ M) (h : was.KeepsBut M s) : was.KeepsBut M (s.lrKeep p).2 := by
  unfold State.lrKeep
  repeat' first | (with_reducible first | assumption | apply free) | split

theorem portClear {s0 p} (hM : [.freeCount, .bad, .u2pSt, .sspSt, .vbsSt, .tcpSt, .pdSt, .conSt, .lheSt] ⊆ M) (h : was.KeepsBut M s0) :
    was.KeepsBut M (State.portClear s0 p) := by
  unfold State.portClear
  repeat' first
    | split
    | with_reducible first
      | assumption | exact Subset.trans (by decide) hM | apply put | apply u2pWith | apply vbsWith | apply tcpWith | apply pdWith
      | apply conWith | apply lheWith | apply clearPage | apply sspClear | apply lrKeep
    | refine of_snd (by with_reducible assumption) ?_

theorem portReset {p} (hM : [.freeCount, .bad, .arb, .u2pSt, .hubCtx, .sspSt, .upLink, .vbsSt, .tcpSt, .pdSt, .conSt, .presSt,
    .moveCause, .mgfSt, .lheSt, .fifos, .graver, .dram, .grvBuffer, .dramMem] ⊆ M) (h : was.KeepsBut M s) :
    was.KeepsBut M (s.portReset p) := by
  unfold State.portReset
  repeat' first
    | with_reducible first
      | assumption | exact Subset.trans (by decide) hM | apply put | apply u2Eval | apply ssEvalAs | apply vbsOpen | apply ccDisable
      | apply moveCancel | apply lheReset | apply failbackCheck | apply portClear
    | split

theorem portBlank {p} (hM : [.bad] ⊆ M) (h : was.KeepsBut M s) : was.KeepsBut M (s.portBlank p) := by
  unfold State.portBlank
  repeat' first | (with_reducible first | assumption | apply put | apply storedReset | refine foldl (fun _ _ _ => ?_) ?_) | split

theorem lrRestore {p} (hM : [.tcpSt] ⊆ M) (h : was.KeepsBut M s) : was.KeepsBut M (s.lrRestore p) := by
  unfold State.lrRestore
  repeat' first | (with_reducible first | assumption | apply put | apply tcpWith) | split

theorem portRestore {p} (hM : [.bad, .tcpSt, .presSt, .grvTemplates] ⊆ M) (h : was.KeepsBut M s) : was.KeepsBut M (s.portRestore p) :=
  lrRestore (Subset.trans (by decide) hM) (restore (Subset.trans (by decide) hM) (portBlank (Subset.trans (by decide) hM) h))

theorem restoreCheck {k} (hM : [.fifos] ⊆ M) (h : was.KeepsBut M s) : was.KeepsBut M (s.restoreCheck k) :=
  ite (raise hM (put h)) h

theorem quarForget {p} (h : was.KeepsBut M s) : was.KeepsBut M (s.quarForget p) :=
  ite (put (put h)) h

theorem portEnter {s0 p} (hM : [.freeCount, .bad, .u2pSt, .hubCtx, .sspSt, .upLink, .vbsSt, .tcpSt, .presSt, .moveCause, .mgfSt, .lheSt,
    .fifos, .graver] ⊆ M) (h : was.KeepsBut M s0) : was.KeepsBut M (State.portEnter s0 p) :=
  restoreCheck (Subset.trans (by decide) hM) (usbEval (Subset.trans (by decide) hM) (ccStart (Subset.trans (by decide) hM) (moveRequest
    (Subset.trans (by decide) hM) (vsetLoad (Subset.trans (by decide) hM) (setFlag (put (quarForget h)))))))

theorem portRelease {p} (hM : [.freeCount, .bad, .u2pSt, .hubCtx, .sspSt, .upLink, .vbsSt, .tcpSt, .presSt, .moveCause, .mgfSt, .lheSt,
    .fifos, .graver, .grvTemplates] ⊆ M) (h : was.KeepsBut M s) : was.KeepsBut M (s.portRelease p) :=
  ite (portEnter (Subset.trans (by decide) hM) (portRestore (Subset.trans (by decide) hM) h)) (portRestore (Subset.trans (by decide) hM)
    h)

theorem portFollow {p} (hM : [.freeCount, .bad, .arb, .u2pSt, .hubCtx, .sspSt, .upLink, .vbsSt, .tcpSt, .pdSt, .conSt, .presSt,
    .moveCause, .mgfSt, .lheSt, .fifos, .graver, .dram, .grvTemplates, .grvBuffer, .dramMem] ⊆ M) (h : was.KeepsBut M s) :
    was.KeepsBut M (s.portFollow p) :=
  ite (portReset (Subset.trans (by decide) hM) h) (ite (portRelease (Subset.trans (by decide) hM) h) h)

theorem dischargeOver {p} (hM : [.freeCount, .bad, .arb, .u2pSt, .hubCtx, .sspSt, .upLink, .vbsSt, .tcpSt, .pdSt, .conSt, .presSt,
    .moveCause, .mgfSt, .lheSt, .health, .fifos, .graver, .dram, .grvTemplates, .grvBuffer, .dramMem] ⊆ M) (h : was.KeepsBut M s) :
    was.KeepsBut M (s.dischargeOver p) :=
  ite (portFollow (Subset.trans (by decide) hM) (healthWith (Subset.trans (by decide) hM) (vbsWith (Subset.trans (by decide) hM) (put
    h)))) (ite (ite (vbsWith (Subset.trans (by decide) hM) (put h)) (put (vbsWith (Subset.trans (by decide) hM) (put h)))) (put (vbsWith
    (Subset.trans (by decide) hM) (put h))))

theorem execDischargeEnd_leads {p} (hM : [.freeCount, .bad, .arb, .u2pSt, .hubCtx, .sspSt, .upLink, .vbsSt, .tcpSt, .pdSt, .conSt,
    .presSt, .moveCause, .mgfSt, .lheSt, .health, .fifos, .graver, .dram, .grvTemplates, .grvBuffer, .dramMem] ⊆ M) (h : was.KeepsBut M s)
    : was.LeadsBut M (execDischargeEnd p s) :=
  iteO (next h) (next (ite (askTurnOn (Subset.trans (by decide) hM) (vbsWith (Subset.trans (by decide) hM) (dischargeOver hM (vbsWith
    (Subset.trans (by decide) hM) h)))) (dischargeOver hM (vbsWith (Subset.trans (by decide) hM) h))))

theorem execDschMaxEnd_leads {p} (hM : [.freeCount, .bad, .arb, .u2pSt, .hubCtx, .sspSt, .upLink, .vbsSt, .tcpSt, .pdSt, .conSt,
    .presSt, .moveCause, .mgfSt, .lheSt, .health, .fifos, .graver, .dram, .grvTemplates, .grvBuffer, .dramMem] ⊆ M) (h : was.KeepsBut M s)
    : was.LeadsBut M (execDschMaxEnd p s) :=
  iteO (next h) (next (dischargeOver hM (healthWith (Subset.trans (by decide) hM) (ite (vbsWith (Subset.trans (by decide) hM) h) (countErr
    (setFault (vbsWith (Subset.trans (by decide) hM) h)))))))

/-! ### The definitions of Machine/Cpt.lean -/

theorem setDirect {u b} (h : was.KeepsBut M s) : was.KeepsBut M (s.setDirect u b) :=
  setFlag h

theorem instCtxReset {i} (hM : [.freeCount, .arb, .u2pSt, .hubCtx, .sspSt, .upLink, .vbsSt, .tcpSt, .pdSt, .conSt, .lheSt, .fifos,
    .graver] ⊆ M) (h : was.KeepsBut M s) : was.KeepsBut M (s.instCtxReset i) :=
  foldl (fun _ _ h' => ctxResetPort (Subset.trans (by decide) hM) h') (hubWith (Subset.trans (by decide) hM) h)

theorem instLeave {i} (hM : [.freeCount, .arb, .u2pSt, .hubCtx, .sspSt, .ssCtx, .upLink, .vbsSt, .tcpSt, .pdSt, .conSt, .presSt, .mgfSt,
    .lheSt, .fifos, .graver, .cpt] ⊆ M) (h : was.KeepsBut M s) : was.KeepsBut M (s.instLeave i) :=
  ite (presDetach hM h) (rootChgWith (Subset.trans (by decide) hM) h)

theorem instHold {i} (hM : [.freeCount, .bad, .arb, .u2pSt, .hubCtx, .sspSt, .ssCtx, .upLink, .vbsSt, .tcpSt, .pdSt, .conSt, .presSt,
    .moveCause, .mgfSt, .lheSt, .fifos, .graver, .dram, .cpt, .grvTemplates, .grvBuffer, .dramMem] ⊆ M) (h : was.KeepsBut M s) :
    was.KeepsBut M (s.instHold i) :=
  foldl (fun _ _ h' => portFollow (Subset.trans (by decide) hM) h') (setCptByte (cptWith (Subset.trans (by decide) hM) (setFlag (put
    (instCtxReset (Subset.trans (by decide) hM) (ite (instLeave (Subset.trans (by decide) hM) h) h))))))

theorem u2hWritten {s0 k off} (hM : [.u2pSt] ⊆ M) (h : was.KeepsBut M s) : was.KeepsBut M (State.u2hWritten s0 s k off) :=
  ite (foldl (fun _ _ h' => ttReset hM h') h) h

theorem instAttach {i cmd} (hM : [.freeCount, .bad, .arb, .u2pSt, .hubCtx, .sspSt, .upLink, .vbsSt, .tcpSt, .pdSt, .conSt, .presSt,
    .moveCause, .mgfSt, .lheSt, .fifos, .graver, .dram, .cpt, .grvTemplates, .grvBuffer, .dramMem] ⊆ M) (h : was.KeepsBut M s) :
    was.KeepsBut M (s.instAttach i cmd) := by
  unfold State.instAttach
  repeat' first
    | with_reducible first
      | assumption | exact Subset.trans (by decide) hM | apply ite | apply put | apply count | apply raise | apply putRw
      | apply setCptByte | apply cptSeen | apply rootChgWith | apply ctxWakeUp | apply portFollow | apply u2hWritten | apply cptWith
      | refine foldl (fun _ _ _ => ?_) ?_
    | split

theorem attachCmd {i i2c} (hM : [.freeCount, .bad, .arb, .u2pSt, .hubCtx, .sspSt, .upLink, .vbsSt, .tcpSt, .pdSt, .conSt, .presSt,
    .moveCause, .mgfSt, .lheSt, .fifos, .graver, .dram, .cpt, .grvTemplates, .grvBuffer, .dramMem] ⊆ M) (h : was.KeepsBut M s) :
    was.KeepsBut M (s.attachCmd i i2c) :=
  ite h (ite (cptWith (Subset.trans (by decide) hM) h) (instAttach hM h))

theorem attachDue {i} (hM : [.freeCount, .bad, .arb, .u2pSt, .hubCtx, .sspSt, .upLink, .vbsSt, .tcpSt, .pdSt, .conSt, .presSt,
    .moveCause, .mgfSt, .lheSt, .fifos, .graver, .dram, .cpt, .grvTemplates, .grvBuffer, .dramMem] ⊆ M) (h : was.KeepsBut M s) :
    was.KeepsBut M (s.attachDue i) := by
  unfold State.attachDue
  repeat' first | (with_reducible first | assumption | apply instAttach) | split

theorem execHoldTimeout_leads {i} (hM : [.freeCount, .bad, .arb, .u2pSt, .hubCtx, .sspSt, .upLink, .vbsSt, .tcpSt, .pdSt, .conSt,
    .presSt, .moveCause, .mgfSt, .lheSt, .fifos, .graver, .dram, .cpt, .grvTemplates, .grvBuffer, .dramMem] ⊆ M) (h : was.KeepsBut M s) :
    was.LeadsBut M (execHoldTimeout i s) :=
  iteO (next h) (iteO (next (cptWith (Subset.trans (by decide) hM) h)) (iteO (next (cptWith (Subset.trans (by decide) hM) (cptWith
    (Subset.trans (by decide) hM) h))) (next (instAttach hM (cptWith (Subset.trans (by decide) hM) h)))))

theorem directFollow (hM : [.freeCount, .bad, .arb, .u2pSt, .hubCtx, .sspSt, .ssCtx, .upLink, .vbsSt, .tcpSt, .pdSt, .conSt, .presSt,
    .moveCause, .mgfSt, .lheSt, .fifos, .graver, .dram, .cpt, .grvTemplates, .grvBuffer, .dramMem] ⊆ M) (h : was.KeepsBut M s) :
    was.KeepsBut M s.directFollow :=
  foldl (fun _ _ h' => ite h' (foldl (fun _ _ h' => instHold hM h') (setDirect (presRestart (Subset.trans (by decide) hM) h')))) h

theorem cptCfgWritten {old} (hM : [.freeCount, .bad, .arb, .u2pSt, .hubCtx, .sspSt, .ssCtx, .upLink, .vbsSt, .tcpSt, .pdSt, .conSt,
    .presSt, .moveCause, .mgfSt, .lheSt, .fifos, .graver, .dram, .cpt, .grvTemplates, .grvBuffer, .dramMem] ⊆ M) (h : was.KeepsBut M s) :
    was.KeepsBut M (s.cptCfgWritten old) :=
  ite h (directFollow hM (foldl (fun _ _ h' => ite (foldl (fun _ _ h' => instHold hM h') (presRestart (Subset.trans (by decide) hM) h'))
    h') (foldl (fun _ _ h' => foldl (fun _ _ h' => moveDecide (Subset.trans (by decide) hM) h') h') (foldl (fun _ _ h' => portFollow
    (Subset.trans (by decide) hM) h') (foldl (fun _ _ h' => instHold hM h') (wr (foldl (fun _ _ h' => ite (put (instLeave
    (Subset.trans (by decide) hM) h')) h') (wr h))))))))

theorem instReset {i} (hM : [.freeCount, .bad, .arb, .u2pSt, .hubCtx, .sspSt, .ssCtx, .upLink, .vbsSt, .tcpSt, .pdSt, .conSt, .presSt,
    .moveCause, .mgfSt, .lheSt, .fifos, .graver, .dram, .cpt, .grvTemplates, .grvBuffer, .dramMem] ⊆ M) (h : was.KeepsBut M s) :
    was.KeepsBut M (s.instReset i) := by
  unfold State.instReset
  repeat' with_reducible first
    | assumption | exact Subset.trans (by decide) hM | apply ite | apply reapply | apply clearPage | apply instHold | apply cptWith

theorem instResets {mask} (hM : [.freeCount, .bad, .arb, .u2pSt, .hubCtx, .sspSt, .ssCtx, .upLink, .vbsSt, .tcpSt, .pdSt, .conSt,
    .presSt, .moveCause, .mgfSt, .lheSt, .fifos, .graver, .dram, .cpt, .grvTemplates, .grvBuffer, .dramMem] ⊆ M) (h : was.KeepsBut M s) :
    was.KeepsBut M (s.instResets mask) :=
  ite h (foldl (fun _ _ h' => instReset hM h') h)

theorem cptRestart (hM : [.freeCount, .bad, .arb, .u2pSt, .hubCtx, .sspSt, .ssCtx, .upLink, .vbsSt, .tcpSt, .pdSt, .conSt, .presSt,
    .moveCause, .mgfSt, .lheSt, .fifos, .graver, .dram, .cpt, .grvTemplates, .grvBuffer, .dramMem] ⊆ M) (h : was.KeepsBut M s) :
    was.KeepsBut M s.cptRestart :=
  ite h (foldl (fun _ _ h' => instHold hM h') h)

theorem winWrite {i2c i a v} (hM : [.freeCount, .bad, .arb, .u2pSt, .hubCtx, .sspSt, .upLink, .vbsSt, .tcpSt, .pdSt, .conSt, .presSt,
    .moveCause, .mgfSt, .lheSt, .fifos, .graver, .dram, .cpt, .grvTemplates, .grvBuffer, .dramMem] ⊆ M) (h : was.KeepsBut M s) :
    was.KeepsBut M (s.winWrite i2c i a v) :=
  ite (ite (attachCmd hM h) h) (ite h (ite (count (cptSeen h)) (ite h (ite (attachDue hM (mendParity (Subset.trans (by decide) hM)
    (setCptByte h))) (mendParity (Subset.trans (by decide) hM) (setCptByte h))))))

theorem winRead {i a} (h : was.KeepsBut M s) : was.KeepsBut M (s.winRead i a).2 := by
  unfold State.winRead
  repeat' first | (with_reducible first | assumption | apply setCptByte) | split

theorem legCheck (hM : [.fifos] ⊆ M) (h : was.KeepsBut M s) : was.KeepsBut M s.legCheck :=
  ite (setFlag h) (raise hM (setFlag h))

theorem execLegAddress_leads {addr rd} (hM : [.answer, .legacy] ⊆ M) (h : was.KeepsBut M s) :
    was.LeadsBut M (execLegAddress addr rd s) := by
  unfold execLegAddress
  repeat' first
    | with_reducible first
      | assumption | exact Subset.trans (by decide) hM | apply next | apply reply
    | split | with_reducible apply set_legacy

theorem execLegWriteByte_leads {b} (hM : [.answer, .freeCount, .bad, .legacy, .arb, .u2pSt, .hubCtx, .sspSt, .upLink, .vbsSt, .tcpSt,
    .pdSt, .conSt, .presSt, .moveCause, .mgfSt, .lheSt, .fifos, .graver, .dram, .cpt, .grvTemplates, .grvBuffer, .dramMem] ⊆ M)
    (h : was.KeepsBut M s) : was.LeadsBut M (execLegWriteByte b s) := by
  unfold execLegWriteByte
  repeat' first
    | with_reducible first
      | assumption | exact Subset.trans (by decide) hM | apply next | apply reply | apply winWrite | apply cptWith
    | split | with_reducible apply set_legacy

theorem execLegReadByte_leads (hM : [.answer, .bad, .fifos, .cpt] ⊆ M) (h : was.KeepsBut M s) : was.LeadsBut M (execLegReadByte s) := by
  unfold execLegReadByte
  repeat' first
    | split
    | with_reducible first
      | assumption | exact Subset.trans (by decide) hM | apply ite | apply iteO | apply next | apply reply | apply findParity
      | apply winRead | apply cptWith

/-! ### The definitions of Machine/Desc.lean -/

theorem ssHubDescriptor {sc} (hM : [.freeCount] ⊆ M) (h : was.KeepsBut M s) : was.KeepsBut M (s.ssHubDescriptor sc).2 :=
  free hM h

theorem ssHubDesc {sc kind idx bs} (hM : [.freeCount] ⊆ M) (h : was.KeepsBut M s) (e : s.ssHubDesc sc kind idx = some (bs, t)) :
    was.KeepsBut M t := by
  have hsame : ∀ {d : List Byte}, some (d, s) = some (bs, t) → was.KeepsBut M t := fun e =>
    (Prod.mk.inj (Option.some.inj e)).2 ▸ h
  unfold State.ssHubDesc at e
  dsimp only at e
  split at e
  · split at e
    · exact hsame e
    · cases e
  · split at e
    · exact hsame e
    · cases e
  · obtain ⟨d, -, e⟩ := Option.map_eq_some_iff.1 e
    exact (Prod.mk.inj e).2 ▸ h
  · split at e
    · exact hsame e
    · cases e
  · split at e
    · exact of_snd (Option.some.inj e) (ssHubDescriptor hM h)
    · cases e
  · cases e

theorem fnDesc {u ss kind idx bs} (h : was.KeepsBut M s) (e : s.fnDesc u ss kind idx = some (bs, t)) : was.KeepsBut M t := by
  suffices hsame : t = s from hsame ▸ h
  have same : ∀ {d : List Byte}, some (d, s) = some (bs, t) → t = s := fun e => (Prod.mk.inj (Option.some.inj e)).2.symm
  unfold State.fnDesc at e
  extract_lets at e
  split at e
  case h_3 =>
    obtain ⟨d, -, e⟩ := Option.map_eq_some_iff.1 e
    exact (Prod.mk.inj e).2.symm
  all_goals
    repeat' split at e
    all_goals first
      | exact same e
      | cases e

theorem descReply {len o} (hM : [.answer] ⊆ M) (h : was.KeepsBut M s) (ho : ∀ bs t, o = some (bs, t) → was.KeepsBut M t) :
    was.KeepsBut M (s.descReply len o) := by
  cases o with
  | none => exact reply hM h
  | some p => exact reply hM (ho p.1 p.2 rfl)

theorem fnData {u ss bs parityErr} (hM : [.answer, .epm] ⊆ M) (h : was.KeepsBut M s) : was.KeepsBut M (s.fnData u ss bs parityErr) :=
  ite (fnStall (Subset.trans (by decide) hM) (epmError (ite (epmPut (Subset.trans (by decide) hM) h) (foldl (fun _ _ h' => epmPut
    (Subset.trans (by decide) hM) h') h)))) (reply (Subset.trans (by decide) hM) (ite (epmPut (Subset.trans (by decide) hM) h) (foldl
    (fun _ _ h' => epmPut (Subset.trans (by decide) hM) h') h)))

theorem execGetDescriptor_leads {dev desc lang len parityErr} (hM : [.answer, .freeCount, .epm] ⊆ M) (h : was.KeepsBut M s) :
    was.LeadsBut M (execGetDescriptor dev desc lang len parityErr s) := by
  have hanswer : [Part.answer] ⊆ M := Subset.trans (by decide) hM
  unfold execGetDescriptor
  dsimp only
  cases dev with
  | hub hc =>
    refine next (ctxRequest hanswer h (descReply hanswer h fun bs t e => ?_))
    obtain ⟨d, -, e⟩ := Option.map_eq_some_iff.1 e
    exact (Prod.mk.inj e).2 ▸ h
  | ssHub sc =>
    exact next (ite (descReply hanswer h fun bs t e => ssHubDesc (Subset.trans (by decide) hM) h e) (reply hanswer h))
  | fn u ss =>
    refine next (ite (reply hanswer h) ?_)
    cases hd : s.fnDesc u ss desc.kind.toNat desc.idx.toNat with
    | none => exact fnStall (Subset.trans (by decide) hM) h
    | some d => exact fnData (Subset.trans (by decide) hM) (fnDesc h hd)

theorem execSetAddress_leads {dev addr} (hM : [.answer, .hubCtx, .ssCtx, .mgfSt] ⊆ M) (h : was.KeepsBut M s) :
    was.LeadsBut M (execSetAddress dev addr s) := by
  unfold execSetAddress
  repeat' first
    | with_reducible first
      | assumption | exact Subset.trans (by decide) hM | apply next | apply reply | apply hubWith | apply ssHubWith | apply mgfInstWith
      | apply mgfSync | apply ctxRequest | apply fnStall
    | split

theorem execHubSetConfiguration_leads {dev cfg} (hM : [.answer, .hubCtx, .ssCtx, .presSt, .mgfSt] ⊆ M) (h : was.KeepsBut M s) :
    was.LeadsBut M (execHubSetConfiguration dev cfg s) := by
  unfold execHubSetConfiguration
  repeat' first
    | with_reducible first
      | assumption | exact Subset.trans (by decide) hM | apply next | apply hubConfigure | apply ssConfigure | apply fnConfigure
    | split

theorem anyHub {hub act} (hM : [.answer] ⊆ M) (h : was.KeepsBut M s) (h0 : was.KeepsBut M act) : was.KeepsBut M (s.anyHub hub act) := by
  unfold State.anyHub
  repeat' first | (with_reducible first | assumption | apply reply | apply ctxRequest) | split

theorem getReply {r} (hM : [.answer] ⊆ M) (h : was.KeepsBut M s) : was.KeepsBut M (s.getReply r) := by
  unfold State.getReply
  repeat' first | (with_reducible first | assumption | apply reply) | split

theorem execGetHubStatus_leads {req} (hM : [.answer, .epm] ⊆ M) (h : was.KeepsBut M s) : was.LeadsBut M (execGetHubStatus req s) := by
  unfold execGetHubStatus
  repeat' first
    | with_reducible first
      | assumption | exact Subset.trans (by decide) hM | apply next | apply reply | apply fnStall | apply fnData | apply anyHub
      | apply getReply
    | split

theorem execGetHubDescriptor_leads {hub} (hM : [.answer, .freeCount] ⊆ M) (h : was.KeepsBut M s) :
    was.LeadsBut M (execGetHubDescriptor hub s) := by
  unfold execGetHubDescriptor
  repeat' first
    | with_reducible first
      | assumption | exact Subset.trans (by decide) hM | apply next | apply reply | apply hubDescriptor | apply ssHubDescriptor
      | apply anyHub
    | split

theorem execHubRequestError_leads {req} (hM : [.answer] ⊆ M) (h : was.KeepsBut M s) : was.LeadsBut M (execHubRequestError req s) := by
  unfold execHubRequestError
  repeat' first | (with_reducible first | assumption | apply next | apply reply | apply fnStall | apply anyHub) | split

theorem ssPoll {sc} (hM : [.answer] ⊆ M) (h : was.KeepsBut M s) : was.KeepsBut M (s.ssPoll sc) :=
  ite (reply hM h) (ite (reply hM h) (reply hM h))

theorem execStatusChangePoll_leads {hub} (hM : [.answer] ⊆ M) (h : was.KeepsBut M s) : was.LeadsBut M (execStatusChangePoll hub s) := by
  unfold execStatusChangePoll
  repeat' first | (with_reducible first | assumption | apply next | apply hubPoll | apply ssPoll) | split

theorem execDeviceRemoteWakeup_leads {dev set} (hM : [.answer, .hubCtx, .mgfSt] ⊆ M) (h : was.KeepsBut M s) :
    was.LeadsBut M (execDeviceRemoteWakeup dev set s) := by
  unfold execDeviceRemoteWakeup
  repeat' first
    | with_reducible first
      | assumption | exact Subset.trans (by decide) hM | apply next | apply reply | apply hubWith | apply mgfInstWith | apply mgfSync
      | apply ctxRequest
    | split

theorem execHighSpeedPacket_leads {pk} (hM : [.answer] ⊆ M) (h : was.KeepsBut M s) : was.LeadsBut M (execHighSpeedPacket pk s) := by
  unfold execHighSpeedPacket
  repeat' first
    | with_reducible first
      | assumption | apply next | apply reply | apply ctxRequest | apply countU2 | apply repeatDown
    | split

/-! ### The definitions of Machine/Domain.lean -/

theorem askPlateCal (hM : [.arb] ⊆ M) (h : was.KeepsBut M s) : was.KeepsBut M s.askPlateCal := by
  unfold State.askPlateCal
  repeat' first | (with_reducible first | assumption | apply askLeave) | split

theorem ssRootChange {k} (hM : [.ssCtx] ⊆ M) (h : was.KeepsBut M s) : was.KeepsBut M (s.ssRootChange k) :=
  foldl (fun _ _ h' => ite (ssHubWith hM h') h') h

theorem execPlateCalibrationEnd_leads {k} (hM : [.freeCount, .arb, .sspSt, .ssCtx, .upLink, .lheSt, .fifos, .graver] ⊆ M)
    (h : was.KeepsBut M s) : was.LeadsBut M (execPlateCalibrationEnd k s) :=
  iteO (next h) (next (askPlateCal (Subset.trans (by decide) hM) (restoreCheck (Subset.trans (by decide) hM) (foldl (fun _ _ h' => ssEval
    (Subset.trans (by decide) hM) h') (ssRootChange (Subset.trans (by decide) hM) (put (opDone (Subset.trans (by decide) hM) h)))))))

theorem calClear {k} (hM : [.arb] ⊆ M) (h : was.KeepsBut M s) : was.KeepsBut M (s.calClear k) :=
  askPlateCal hM (endLeave hM (put h))

theorem plateSsReset {k} (hM : [.freeCount, .bad, .sspSt, .ssCtx, .upLink, .lheSt, .fifos, .graver] ⊆ M) (h : was.KeepsBut M s) :
    was.KeepsBut M (s.plateSsReset k) :=
  clearPage (Subset.trans (by decide) hM) (foldl (fun _ _ h' => upLkWith (Subset.trans (by decide) hM) (ssHubWith
    (Subset.trans (by decide) hM) h')) (foldl (fun _ _ h' => sspWith (Subset.trans (by decide) hM) (setFlag (sspClear
    (Subset.trans (by decide) hM) h'))) (foldl (fun _ _ h' => ssEvalAs (Subset.trans (by decide) hM) h') h)))

theorem fclkStop {k} (hM : [.freeCount, .bad, .arb, .sspSt, .ssCtx, .upLink, .lheSt, .fifos, .graver] ⊆ M) (h : was.KeepsBut M s) :
    was.KeepsBut M (s.fclkStop k) :=
  restoreCheck (Subset.trans (by decide) hM) (calClear (Subset.trans (by decide) hM) (plateSsReset (Subset.trans (by decide) hM)
    (ssRootChange (Subset.trans (by decide) hM) h)))

theorem fclkStart {k} (hM : [.bad, .arb, .presSt, .grvTemplates] ⊆ M) (h : was.KeepsBut M s) : was.KeepsBut M (s.fclkStart k) :=
  ite h (askPlateCal (Subset.trans (by decide) hM) (foldl (fun _ _ h' => ite h' (reapply (Subset.trans (by decide) hM) h')) (reapply
    (Subset.trans (by decide) hM) h)))

theorem plateViewsClear {k} (hM : [.u2pSt] ⊆ M) (h : was.KeepsBut M s) : was.KeepsBut M (s.plateViewsClear k) :=
  foldl (fun _ _ h' => foldl (fun _ _ h' => ite h' (u2pWith hM h')) h') h

theorem plateReset {k} (hM : [.freeCount, .bad, .arb, .u2pSt, .hubCtx, .sspSt, .ssCtx, .upLink, .vbsSt, .tcpSt, .pdSt, .conSt, .presSt,
    .moveCause, .mgfSt, .lheSt, .fifos, .graver, .dram, .grvBuffer, .dramMem] ⊆ M) (h : was.KeepsBut M s) :
    was.KeepsBut M (s.plateReset k) :=
  ite h (calClear (Subset.trans (by decide) hM) (clearPage (Subset.trans (by decide) hM) (foldl (fun _ _ h' => hubWith
    (Subset.trans (by decide) hM) h') (plateViewsClear (Subset.trans (by decide) hM) (plateSsReset (Subset.trans (by decide) hM) (foldl
    (fun _ _ h' => portReset (Subset.trans (by decide) hM) h') (put (ssRootChange (Subset.trans (by decide) hM) h))))))))

theorem platePower {k} (h : was.KeepsBut M s) : was.KeepsBut M (s.platePower k) :=
  foldl (fun _ _ h' => foldl (fun _ _ h' => ite h' (setPowerBit h')) h') h

theorem plateRelease {k} (hM : [.freeCount, .bad, .arb, .u2pSt, .hubCtx, .sspSt, .ssCtx, .upLink, .vbsSt, .tcpSt, .pdSt, .conSt,
    .presSt, .moveCause, .mgfSt, .lheSt, .fifos, .graver, .dram, .cpt, .grvTemplates, .grvBuffer, .dramMem] ⊆ M) (h : was.KeepsBut M s) :
    was.KeepsBut M (s.plateRelease k) := by
  unfold State.plateRelease
  repeat' with_reducible first
    | assumption | exact Subset.trans (by decide) hM | apply ite | apply put | apply ctxWakeUp | apply restore | apply portBlank
    | apply lrRestore | apply restoreCheck | apply portEnter | apply instHold | apply askPlateCal | apply platePower
    | refine foldl (fun _ _ _ => ?_) ?_

theorem plateFollow {k} (hM : [.freeCount, .bad, .arb, .u2pSt, .hubCtx, .sspSt, .ssCtx, .upLink, .vbsSt, .tcpSt, .pdSt, .conSt, .presSt,
    .moveCause, .mgfSt, .lheSt, .fifos, .graver, .dram, .cpt, .grvTemplates, .grvBuffer, .dramMem] ⊆ M) (h : was.KeepsBut M s) :
    was.KeepsBut M (s.plateFollow k) :=
  ite (plateReset (Subset.trans (by decide) hM) h) (ite (plateRelease hM h) h)

theorem dropTemplates (hM : [.grvTemplates] ⊆ M) (h : was.KeepsBut M s) : was.KeepsBut M (s.dropTemplates) :=
  h.change hM rfl fun p _ _ => by cases p <;> trivial

theorem loadTemplates (hM : [.bad, .presSt, .grvTemplates] ⊆ M) (h : was.KeepsBut M s) : was.KeepsBut M s.loadTemplates :=
  reapply hM (dropTemplates (Subset.trans (by decide) hM) h)

theorem graverFollow (hM : [.bad, .arb, .presSt, .lheSt, .graver, .grvTemplates] ⊆ M) (h : was.KeepsBut M s) :
    was.KeepsBut M s.graverFollow :=
  ite h (ite (loadTemplates (Subset.trans (by decide) hM) (reapply (Subset.trans (by decide) hM) (put h))) (foldl (fun _ _ h' => lheWith
    (Subset.trans (by decide) hM) h') (put (clearPage (Subset.trans (by decide) hM) (grvClear (Subset.trans (by decide) hM) h)))))

theorem setClocks {d g} (hM : [.dclkOn, .gclkOn] ⊆ M) (h : was.KeepsBut M s) : was.KeepsBut M (s.setClocks d g) :=
  h.change hM rfl fun p _ _ => by cases p <;> trivial

theorem clocksFollow (hM : [.dclkOn, .gclkOn] ⊆ M) (h : was.KeepsBut M s) : was.KeepsBut M s.clocksFollow :=
  ite h (setClocks hM h)

theorem drcEndAccesses (hM : [.freeCount, .bad, .mgfSt, .fifos, .epm, .dram, .dramMem] ⊆ M) (h : was.KeepsBut M s) :
    was.KeepsBut M s.drcEndAccesses :=
  bulkCut (Subset.trans (by decide) hM) (vendorCut (Subset.trans (by decide) hM) (winCut (Subset.trans (by decide) hM) (winCut
    (Subset.trans (by decide) hM) h)))

theorem drcDown (h : was.KeepsBut M s) : was.KeepsBut M s.drcDown :=
  put (put h)

theorem drcReset {warm} (hM : [.freeCount, .bad, .arb, .mgfSt, .fifos, .epm, .dram, .dramMem] ⊆ M) (h : was.KeepsBut M s) :
    was.KeepsBut M (s.drcReset warm) :=
  put (setDrcSt (dramWith_any (Subset.trans (by decide) hM) (clearPage (Subset.trans (by decide) hM) (drcDown (endLeave
    (Subset.trans (by decide) hM) (drcEndAccesses (Subset.trans (by decide) hM) h))))))

theorem drcRelease (hM : [.bad, .arb, .presSt, .grvTemplates] ⊆ M) (h : was.KeepsBut M s) : was.KeepsBut M s.drcRelease :=
  ite (reapply (Subset.trans (by decide) hM) (put h)) (drcAsk (Subset.trans (by decide) hM) (reapply (Subset.trans (by decide) hM) (put
    h)))

theorem drcFollow (hM : [.freeCount, .dclkOn, .gclkOn, .drcPend, .bad, .arb, .presSt, .mgfSt, .fifos, .epm, .dram, .grvTemplates,
    .dramMem] ⊆ M) (h : was.KeepsBut M s) : was.KeepsBut M s.drcFollow :=
  ite h (ite (ite (clocksFollow (Subset.trans (by decide) hM) h) (ite (set_drcPend (Subset.trans (by decide) hM) (drcEndAccesses
    (Subset.trans (by decide) hM) h)) (clocksFollow (Subset.trans (by decide) hM) (drcReset (Subset.trans (by decide) hM) h)))) (ite
    (drcRelease (Subset.trans (by decide) hM) (clocksFollow (Subset.trans (by decide) hM) h)) (clocksFollow (Subset.trans (by decide) hM)
    h)))

theorem drcRestart (hM : [.freeCount, .drcPend, .bad, .arb, .mgfSt, .fifos, .epm, .dram, .dramMem] ⊆ M) (h : was.KeepsBut M s) :
    was.KeepsBut M s.drcRestart :=
  ite h (ite (set_drcPend (Subset.trans (by decide) hM) (setDrcSt (drcDown (drcEndAccesses (Subset.trans (by decide) hM) h)))) (drcAsk
    (Subset.trans (by decide) hM) (dramWith_any (Subset.trans (by decide) hM) (endLeave (Subset.trans (by decide) hM) h))))

theorem execSelfRefreshEntry_leads (hM : [.freeCount, .dclkOn, .gclkOn, .drcPend, .bad, .arb, .presSt, .mgfSt, .fifos, .epm, .dram,
    .grvTemplates, .dramMem] ⊆ M) (h : was.KeepsBut M s) : was.LeadsBut M (execSelfRefreshEntry s) :=
  iteO (next h) (iteO (next (drcAsk (Subset.trans (by decide) hM) (dramWith_any (Subset.trans (by decide) hM) (set_drcPend
    (Subset.trans (by decide) hM) h)))) (next (ite (clocksFollow (Subset.trans (by decide) hM) (drcReset (Subset.trans (by decide) hM)
    (set_drcPend (Subset.trans (by decide) hM) h))) (drcRelease (Subset.trans (by decide) hM) (clocksFollow (Subset.trans (by decide) hM)
    (drcReset (Subset.trans (by decide) hM) (set_drcPend (Subset.trans (by decide) hM) h)))))))

theorem mgtFresh (h : was.KeepsBut M s) : was.KeepsBut M s.mgtFresh :=
  put (put (put (put h)))

theorem mgtDrop (hM : [.runs, .mports, .ringSlots, .ringSides, .legacy, .queues] ⊆ M) (h : was.KeepsBut M s) :
    was.KeepsBut M s.mgtDrop := by
  unfold State.mgtDrop
  exact foldl (fun _ _ h => unhand (Subset.trans (by decide) hM) h) (h.change hM rfl fun p _ _ => by cases p <;> trivial)

theorem mgtPageReset (hM : [.bad] ⊆ M) (h : was.KeepsBut M s) : was.KeepsBut M s.mgtPageReset :=
  mgtFresh (put (clearPage hM h))

theorem mgtReset (hM : [.bad, .runs, .mports, .ringSlots, .ringSides, .legacy, .queues] ⊆ M) (h : was.KeepsBut M s) :
    was.KeepsBut M s.mgtReset :=
  put (put (put (mgtDrop (Subset.trans (by decide) hM) (put (mgtPageReset (Subset.trans (by decide) hM) h)))))

theorem mgtRelease (hM : [.bad, .presSt, .fifos, .grvTemplates] ⊆ M) (h : was.KeepsBut M s) : was.KeepsBut M s.mgtRelease :=
  legCheck (Subset.trans (by decide) hM) (reapply (Subset.trans (by decide) hM) (put (mgtPageReset (Subset.trans (by decide) hM) h)))

theorem mgtFollow (hM : [.bad, .runs, .mports, .ringSlots, .ringSides, .legacy, .presSt, .fifos, .queues, .grvTemplates] ⊆ M)
    (h : was.KeepsBut M s) : was.KeepsBut M s.mgtFollow :=
  ite h (ite (mgtReset (Subset.trans (by decide) hM) h) (mgtRelease (Subset.trans (by decide) hM) h))

theorem coreReset {cause} (hM : Part.resetParts ⊆ M) (h : was.KeepsBut M s) : was.KeepsBut M (s.coreReset cause) :=
  (commitCut (Subset.trans (by decide) hM) h).change hM rfl fun p _ _ => by cases p <;> trivial

theorem latchStraps {st} (h : was.KeepsBut M s) : was.KeepsBut M (s.latchStraps st) :=
  wr h

theorem coreRelease (hM : [.coreHeld] ⊆ M) (h : was.KeepsBut M s) : was.KeepsBut M s.coreRelease :=
  put (put (mgtFresh (setFlag (fixMode (set_coreHeld hM h)))))

theorem execRootLock_leads (hM : [.coreHeld, .dclkOn, .gclkOn] ⊆ M) (h : was.KeepsBut M s) : was.LeadsBut M (execRootLock s) :=
  iteO (next h) (next (setClocks (Subset.trans (by decide) hM) (put (put (put (put (put (put (ite (coreRelease
    (Subset.trans (by decide) hM) h) h)))))))))

theorem execLaneUnlock_leads {lane} (hM : [.freeCount, .arb, .u2pSt, .sspSt, .ssCtx, .upLink, .vbsSt, .tcpSt, .pdSt, .conSt, .mgfSt,
    .lheSt, .fifos, .graver] ⊆ M) (h : was.KeepsBut M s) : was.LeadsBut M (execLaneUnlock lane s) := by
  unfold execLaneUnlock
  repeat' first
    | with_reducible first
      | assumption | exact Subset.trans (by decide) hM | apply next | apply put | apply count | apply raise | apply ssEvalAs
      | apply upGone | refine foldl (fun _ _ _ => ?_) ?_
    | split

theorem execLaneRelock_leads {lane} (hM : [.freeCount, .sspSt, .upLink, .lheSt, .fifos, .graver] ⊆ M) (h : was.KeepsBut M s) :
    was.LeadsBut M (execLaneRelock lane s) := by
  unfold execLaneRelock
  repeat' first
    | with_reducible first
      | assumption | apply next | apply put | apply ssEval | apply setUpState | refine foldl (fun _ _ _ => ?_) ?_
    | split

/-! ### The definitions of Machine/Bgt.lean -/

theorem leaveEvent {e op reason} (hM : [.fifos] ⊆ M) (h : was.KeepsBut M s) : was.KeepsBut M (s.leaveEvent e op reason) := by
  unfold State.leaveEvent
  repeat' first | (with_reducible first | assumption | apply raisePort | apply raise) | split

theorem deferReq {r why} (hM : [.arb, .fifos] ⊆ M) (h : was.KeepsBut M s) : was.KeepsBut M (s.deferReq r why) := by
  unfold State.deferReq
  repeat' first
    | with_reducible first
      | assumption | exact Subset.trans (by decide) hM | apply put | apply count | apply arbWith | apply arbSync | apply leaveEvent
    | split

theorem leaveReq {r why} (hM : [.arb, .fifos] ⊆ M) (h : was.KeepsBut M s) : was.KeepsBut M (s.leaveReq r why) := by
  unfold State.leaveReq
  repeat' with_reducible first | assumption | exact Subset.trans (by decide) hM | apply arbWith | apply deferReq

theorem dropReq {op} (hM : [.arb] ⊆ M) (h : was.KeepsBut M s) : was.KeepsBut M (s.dropReq op) :=
  arbSync (arbWith hM h)

theorem setGrant {p v} (hM : [.freeCount, .u2pSt, .sspSt, .upLink, .vbsSt, .pdSt, .lheSt, .fifos, .graver] ⊆ M) (h : was.KeepsBut M s) :
    was.KeepsBut M (s.setGrant p v) :=
  grantChanged hM (put h)

theorem startOp {a0} (hM : [.freeCount, .wear, .cfgOp, .arb, .vbsSt, .tcpSt, .pdSt, .fifos, .graver] ⊆ M) (h : was.KeepsBut M s) :
    was.KeepsBut M (s.startOp a0) := by
  unfold State.startOp
  repeat' first
    | with_reducible first
      | assumption | exact Subset.trans (by decide) hM | apply firstSettled | apply turnOnGranted | apply raiseGrant | apply setDrcSt
      | apply fanGrant | apply commitGranted
    | split

theorem grantReq {op} (hM : [.freeCount, .wear, .cfgOp, .arb, .u2pSt, .sspSt, .upLink, .vbsSt, .tcpSt, .pdSt, .lheSt, .fifos, .graver] ⊆
    M) (h : was.KeepsBut M s) : was.KeepsBut M (s.grantReq op) := by
  unfold State.grantReq
  repeat' first
    | with_reducible first
      | assumption | exact Subset.trans (by decide) hM | apply put | apply arbWith | apply leaveEvent | apply dropReq | apply setGrant
      | apply startOp
    | split

theorem capReq {op} (hM : [.arb, .vbsSt, .pdSt, .fifos] ⊆ M) (h : was.KeepsBut M s) : was.KeepsBut M (s.capReq op) := by
  unfold State.capReq
  repeat' first
    | with_reducible first
      | assumption | exact Subset.trans (by decide) hM | apply raiseCap | apply leaveEvent | apply dropReq
    | split

theorem denyReq {op} (hM : [.arb, .fifos, .graver] ⊆ M) (h : was.KeepsBut M s) : was.KeepsBut M (s.denyReq op) := by
  unfold State.denyReq
  repeat' first
    | with_reducible first
      | assumption | exact Subset.trans (by decide) hM | apply put | apply powerFails | apply firstSettled | apply leaveEvent
      | apply dropReq
    | split

theorem tryReq {acc r} (hM : [.freeCount, .wear, .cfgOp, .arb, .u2pSt, .sspSt, .upLink, .vbsSt, .tcpSt, .pdSt, .lheSt, .fifos, .graver]
    ⊆ M) (h : was.KeepsBut M acc.1) : was.KeepsBut M (State.tryReq acc r).1 := by
  unfold State.tryReq
  repeat' first
    | split
    | with_reducible first
      | assumption | exact Subset.trans (by decide) hM | apply leaveReq | apply grantReq | apply capReq | apply denyReq

theorem decideOnce (hM : [.freeCount, .wear, .cfgOp, .arb, .u2pSt, .sspSt, .upLink, .vbsSt, .tcpSt, .pdSt, .lheSt, .fifos, .graver] ⊆ M)
    (h : was.KeepsBut M s) : was.KeepsBut M s.decideOnce.1 :=
  foldl_fst (fun _ _ h' => tryReq hM h') h

theorem decideUpTo {n} (hM : [.freeCount, .wear, .cfgOp, .arb, .u2pSt, .sspSt, .upLink, .vbsSt, .tcpSt, .pdSt, .lheSt, .fifos, .graver]
    ⊆ M) (h : was.KeepsBut M s) : was.KeepsBut M (State.decideUpTo n s) := by
  induction n generalizing s with
  | zero => exact h
  | succ n ih => exact ite (ih (decideOnce hM h)) (decideOnce hM h)

theorem arbDecide (hM : [.freeCount, .wear, .cfgOp, .arb, .u2pSt, .sspSt, .upLink, .vbsSt, .tcpSt, .pdSt, .lheSt, .fifos, .graver] ⊆ M)
    (h : was.KeepsBut M s) : was.KeepsBut M s.arbDecide :=
  ite (decideUpTo hM h) h

theorem execGrowth_leads (hM : [.freeCount, .u2pSt, .sspSt, .upLink, .vbsSt, .pdSt, .lheSt, .fifos, .graver] ⊆ M) (h : was.KeepsBut M s) :
    was.LeadsBut M (execGrowth s) := by
  unfold execGrowth
  repeat' first | (with_reducible first | assumption | apply next | apply setGrant) | split

theorem revokeEvent {p step} (hM : [.fifos] ⊆ M) (h : was.KeepsBut M s) : was.KeepsBut M (s.revokeEvent p step) :=
  raisePort hM h

theorem cutHeadroom {p least} (hM : [.freeCount, .u2pSt, .sspSt, .upLink, .vbsSt, .pdSt, .lheSt, .fifos, .graver] ⊆ M)
    (h : was.KeepsBut M s) : was.KeepsBut M (s.cutHeadroom p least) :=
  ite (setGrant hM h) h

theorem revokeTo {p dest} (hM : [.freeCount, .u2pSt, .sspSt, .upLink, .vbsSt, .pdSt, .lheSt, .fifos, .graver] ⊆ M) (h : was.KeepsBut M s)
    : was.KeepsBut M (s.revokeTo p dest) :=
  ite h (revokeEvent (Subset.trans (by decide) hM) (setGrant hM (put (ite h (count h)))))

theorem revokeRemove {p} (hM : [.freeCount, .arb, .u2pSt, .sspSt, .upLink, .vbsSt, .tcpSt, .pdSt, .conSt, .lheSt, .fifos, .graver] ⊆ M)
    (h : was.KeepsBut M s) : was.KeepsBut M (s.revokeRemove p) :=
  askAtOnce (Subset.trans (by decide) hM) (revokeEvent (Subset.trans (by decide) hM) (returnGrant (endReserve
    (Subset.trans (by decide) hM) (vbsOpen hM h))))

theorem revokeForced {p} (hM : [.freeCount, .arb, .u2pSt, .sspSt, .upLink, .vbsSt, .tcpSt, .pdSt, .conSt, .lheSt, .fifos, .graver] ⊆ M)
    (h : was.KeepsBut M s) : was.KeepsBut M (s.revokeForced p) :=
  revokeRemove hM (ite h (count h))

theorem revokePool (hM : [.freeCount, .arb, .u2pSt, .sspSt, .upLink, .vbsSt, .tcpSt, .pdSt, .conSt, .lheSt, .fifos, .graver] ⊆ M)
    (h : was.KeepsBut M s) : was.KeepsBut M s.revokePool :=
  ite h (foldl (fun _ _ h' => ite h' (revokeForced hM h')) (foldl (fun _ _ h' => ite h' (revokeTo (Subset.trans (by decide) hM) h'))
    (foldl (fun _ _ h' => ite h' (cutHeadroom (Subset.trans (by decide) hM) h')) h)))

theorem revokePort {p} (hM : [.freeCount, .u2pSt, .sspSt, .upLink, .vbsSt, .pdSt, .lheSt, .fifos, .graver] ⊆ M) (h : was.KeepsBut M s) :
    was.KeepsBut M (s.revokePort p) :=
  ite h (revokeTo hM (cutHeadroom hM h))

theorem revokeHeld (hM : [.freeCount, .u2pSt, .sspSt, .upLink, .vbsSt, .pdSt, .lheSt, .fifos, .graver] ⊆ M) (h : was.KeepsBut M s) :
    was.KeepsBut M s.revokeHeld :=
  foldl (fun _ _ h' => ite (revokePort hM h') h') h

theorem askDenied {p} (hM : [.arb, .vbsSt, .pdSt] ⊆ M) (h : was.KeepsBut M s) : was.KeepsBut M (s.askDenied p) :=
  ite (askAtOnce hM (put h)) h

theorem poolSet {first} (hM : [.arb, .vbsSt, .pdSt, .fifos] ⊆ M) (h : was.KeepsBut M s) : was.KeepsBut M (s.poolSet first) :=
  ite h (foldl (fun _ _ h' => askDenied (Subset.trans (by decide) hM) h') (raise (Subset.trans (by decide) hM) (put h)))

theorem poolFollow (hM : [.freeCount, .wear, .cfgOp, .arb, .u2pSt, .sspSt, .upLink, .vbsSt, .tcpSt, .pdSt, .conSt, .lheSt, .fifos,
    .graver] ⊆ M) (h : was.KeepsBut M s) : was.KeepsBut M s.poolFollow :=
  ite h (arbDecide (Subset.trans (by decide) hM) (revokePool (Subset.trans (by decide) hM) (poolSet (Subset.trans (by decide) hM) h)))

theorem poolStart (hM : [.arb, .vbsSt, .pdSt, .fifos] ⊆ M) (h : was.KeepsBut M s) : was.KeepsBut M s.poolStart :=
  poolSet hM (setFlag (arbWith (Subset.trans (by decide) hM) h))

theorem execFeedGoodnessChange_leads {ga gb} (hM : [.freeCount, .wear, .cfgOp, .arb, .u2pSt, .sspSt, .upLink, .vbsSt, .tcpSt, .pdSt,
    .conSt, .lheSt, .fifos, .graver] ⊆ M) (h : was.KeepsBut M s) : was.LeadsBut M (execFeedGoodnessChange ga gb s) :=
  iteO (next h) (next (poolFollow hM (setFlag (arbWith (Subset.trans (by decide) hM) h))))

theorem execGrowDelayEnd_leads (hM : [.freeCount, .wear, .cfgOp, .arb, .u2pSt, .sspSt, .upLink, .vbsSt, .tcpSt, .pdSt, .conSt, .lheSt,
    .fifos, .graver] ⊆ M) (h : was.KeepsBut M s) : was.LeadsBut M (execGrowDelayEnd s) :=
  iteO (next h) (next (poolFollow hM (put (arbWith (Subset.trans (by decide) hM) h))))

theorem deliver {ops} (hM : [.arb] ⊆ M) (h : was.KeepsBut M s) : was.KeepsBut M (s.deliver ops) := by
  unfold State.deliver
  repeat' with_reducible first | assumption | apply arbWith

theorem execLeaveWithdraw_leads {op} (hM : [.freeCount, .wear, .cfgOp, .arb, .u2pSt, .sspSt, .upLink, .vbsSt, .tcpSt, .pdSt, .lheSt,
    .fifos, .graver] ⊆ M) (h : was.KeepsBut M s) : was.LeadsBut M (execLeaveWithdraw op s) := by
  unfold execLeaveWithdraw
  repeat' first
    | with_reducible first
      | assumption | exact Subset.trans (by decide) hM | apply next | apply put | apply withdraw | apply arbDecide
    | split

theorem execRevokeTimeEnd_leads {p} (hM : [.freeCount, .wear, .cfgOp, .arb, .u2pSt, .sspSt, .upLink, .vbsSt, .tcpSt, .pdSt, .conSt,
    .lheSt, .fifos, .graver] ⊆ M) (h : was.KeepsBut M s) : was.LeadsBut M (execRevokeTimeEnd p s) :=
  iteO (next h) (next (arbDecide (Subset.trans (by decide) hM) (revokeRemove (Subset.trans (by decide) hM) h)))

theorem revokeDone {p} (hM : [.vbsSt, .fifos] ⊆ M) (h : was.KeepsBut M s) : was.KeepsBut M (s.revokeDone p) :=
  revokeEvent (Subset.trans (by decide) hM) (setLimit (Subset.trans (by decide) hM) (put h))

theorem execRevokeSuccess_leads {p} (hM : [.freeCount, .wear, .cfgOp, .arb, .u2pSt, .sspSt, .upLink, .vbsSt, .tcpSt, .pdSt, .lheSt,
    .fifos, .graver] ⊆ M) (h : was.KeepsBut M s) : was.LeadsBut M (execRevokeSuccess p s) :=
  iteO (next h) (next (arbDecide hM (revokeDone (Subset.trans (by decide) hM) h)))

/-! ### The definitions of Machine/Hlt.lean -/

theorem noteTemp {i w} (h : was.KeepsBut M s) : was.KeepsBut M (s.noteTemp i w) :=
  ite (put (put h)) (put h)

theorem upGenDrop {u} (hM : [.freeCount, .arb, .u2pSt, .sspSt, .ssCtx, .upLink, .vbsSt, .tcpSt, .pdSt, .conSt, .mgfSt, .lheSt, .fifos,
    .graver] ⊆ M) (h : was.KeepsBut M s) : was.KeepsBut M (s.upGenDrop u) :=
  ite (ite (setUpState (upGone hM h)) (upGone hM h)) h

theorem allGenDrop (hM : [.freeCount, .arb, .u2pSt, .sspSt, .ssCtx, .upLink, .vbsSt, .tcpSt, .pdSt, .conSt, .mgfSt, .lheSt, .fifos,
    .graver] ⊆ M) (h : was.KeepsBut M s) : was.KeepsBut M s.allGenDrop :=
  ite h (foldl (fun _ _ h' => upGenDrop hM h') (foldl (fun _ _ h' => ssGenDrop (Subset.trans (by decide) hM) h') h))

theorem shedTo {steps} (hM : [.freeCount, .wear, .cfgOp, .arb, .u2pSt, .sspSt, .upLink, .vbsSt, .tcpSt, .pdSt, .conSt, .lheSt, .fifos,
    .graver] ⊆ M) (h : was.KeepsBut M s) : was.KeepsBut M (s.shedTo steps) :=
  poolFollow hM (raise (Subset.trans (by decide) hM) (put h))

theorem toLevel {old new} (hM : [.freeCount, .wear, .cfgOp, .arb, .u2pSt, .sspSt, .ssCtx, .upLink, .vbsSt, .tcpSt, .pdSt, .conSt,
    .mgfSt, .lheSt, .fifos, .graver] ⊆ M) (h : was.KeepsBut M s) : was.KeepsBut M (s.toLevel old new) := by
  unfold State.toLevel
  repeat' with_reducible first
    | assumption | exact Subset.trans (by decide) hM | apply ite | apply put | apply raise | apply nextGroup | apply holdGroups
    | apply poolFollow | apply allGenDrop | apply shedTo

theorem execTempSample_leads {temps} (hM : [.freeCount, .wear, .cfgOp, .arb, .u2pSt, .sspSt, .ssCtx, .upLink, .vbsSt, .tcpSt, .pdSt,
    .conSt, .mgfSt, .lheSt, .health, .fifos, .graver] ⊆ M) (h : was.KeepsBut M s) : was.LeadsBut M (execTempSample temps s) := by
  unfold execTempSample
  repeat' first
    | with_reducible first
      | assumption | exact Subset.trans (by decide) hM | apply next | apply put | apply healthWith | apply noteTemp | apply toLevel
      | refine foldl (fun _ _ _ => ?_) ?_
    | split

theorem peakClear (h : was.KeepsBut M s) : was.KeepsBut M s.peakClear :=
  foldl (fun _ _ h' => put h') h

theorem quarByWrite {hi v} (hM : [.freeCount, .arb, .u2pSt, .sspSt, .upLink, .vbsSt, .tcpSt, .pdSt, .conSt, .lheSt, .health, .fifos,
    .graver] ⊆ M) (h : was.KeepsBut M s) : was.KeepsBut M (s.quarByWrite hi v) :=
  foldl (fun _ _ h' => ite h' (quarEnter hM h')) h

theorem quarLeave {p auto} (hM : [.freeCount, .bad, .arb, .u2pSt, .hubCtx, .sspSt, .upLink, .vbsSt, .tcpSt, .pdSt, .conSt, .presSt,
    .moveCause, .mgfSt, .lheSt, .health, .fifos, .graver, .dram, .grvTemplates, .grvBuffer, .dramMem] ⊆ M) (h : was.KeepsBut M s) :
    was.KeepsBut M (s.quarLeave p auto) :=
  ite h (raisePort (Subset.trans (by decide) hM) (portFollow (Subset.trans (by decide) hM) (portReset (Subset.trans (by decide) hM)
    (healthWith (Subset.trans (by decide) hM) (put h)))))

theorem quarByRelease {hi v} (hM : [.freeCount, .bad, .arb, .u2pSt, .hubCtx, .sspSt, .upLink, .vbsSt, .tcpSt, .pdSt, .conSt, .presSt,
    .moveCause, .mgfSt, .lheSt, .health, .fifos, .graver, .dram, .grvTemplates, .grvBuffer, .dramMem] ⊆ M) (h : was.KeepsBut M s) :
    was.KeepsBut M (s.quarByRelease hi v) :=
  foldl (fun _ _ h' => quarLeave hM h') h

theorem u2RootChange {k} (hM : [.hubCtx] ⊆ M) (h : was.KeepsBut M s) : was.KeepsBut M (s.u2RootChange k) :=
  ite h (foldl (fun _ _ h' => ite h' (rootChgWith hM h')) h)

theorem isoBegin {k} (hM : [.freeCount, .bad, .arb, .u2pSt, .hubCtx, .sspSt, .ssCtx, .upLink, .vbsSt, .tcpSt, .pdSt, .conSt, .presSt,
    .moveCause, .mgfSt, .lheSt, .health, .fifos, .graver, .dram, .cpt, .grvTemplates, .grvBuffer, .dramMem] ⊆ M) (h : was.KeepsBut M s) :
    was.KeepsBut M (s.isoBegin k) :=
  plateFollow (Subset.trans (by decide) hM) (put (put (healthWith (Subset.trans (by decide) hM) (u2RootChange
    (Subset.trans (by decide) hM) h))))

theorem isoOver {k} (hM : [.freeCount, .bad, .arb, .u2pSt, .hubCtx, .sspSt, .ssCtx, .upLink, .vbsSt, .tcpSt, .pdSt, .conSt, .presSt,
    .moveCause, .mgfSt, .lheSt, .fifos, .graver, .dram, .cpt, .grvTemplates, .grvBuffer, .dramMem] ⊆ M) (h : was.KeepsBut M s) :
    was.KeepsBut M (s.isoOver k) :=
  plateFollow hM (put (put (u2RootChange (Subset.trans (by decide) hM) h)))

theorem isoChanged {old} (hM : [.freeCount, .bad, .arb, .u2pSt, .hubCtx, .sspSt, .ssCtx, .upLink, .vbsSt, .tcpSt, .pdSt, .conSt,
    .presSt, .moveCause, .mgfSt, .lheSt, .health, .fifos, .graver, .dram, .cpt, .grvTemplates, .grvBuffer, .dramMem] ⊆ M)
    (h : was.KeepsBut M s) : was.KeepsBut M (s.isoChanged old) :=
  foldl (fun _ _ h' => ite h' (ite (isoBegin hM h') (isoOver (Subset.trans (by decide) hM) h'))) h

/-! ### The definitions of Machine/Load.lean -/

theorem loadBank {b} (hM : [.bad, .presSt, .grvTemplates] ⊆ M) (h : was.KeepsBut M s) : was.KeepsBut M (s.loadBank b) := by
  unfold State.loadBank
  dsimp only
  repeat' first
    | with_reducible first
      | assumption | apply countBy | apply setActive | apply applyTag | refine foldl (fun _ _ _ => ?_) ?_
    | split

theorem loadStore (hM : [.bad, .presSt, .grvTemplates] ⊆ M) (h : was.KeepsBut M s) : was.KeepsBut M s.loadStore.2 := by
  unfold State.loadStore
  dsimp only
  repeat' first | (with_reducible first | assumption | apply noteBanks | apply loadBank) | split

theorem loadEvent {newer code res} (hM : [.fifos] ⊆ M) (h : was.KeepsBut M s) : was.KeepsBut M (s.loadEvent newer code res) := by
  unfold State.loadEvent
  repeat' first | (with_reducible first | assumption | apply raise) | split

theorem wearCheck (h : was.KeepsBut M s) : was.KeepsBut M s.wearCheck :=
  ite (setFault h) h

theorem powerBits (hM : [.ssCtx] ⊆ M) (h : was.KeepsBut M s) : was.KeepsBut M s.powerBits :=
  foldl (fun _ _ h' => foldl (fun _ _ h' => ssHubWith hM h') h') (foldl (fun _ _ h' => setPowerBit (setPowerBit h')) h)

theorem loadOwners (h : was.KeepsBut M s) : was.KeepsBut M s.loadOwners :=
  takeTopo (takeTopo (foldl (fun _ _ h' => put h') h))

theorem loadHold (hM : [.cpt] ⊆ M) (h : was.KeepsBut M s) : was.KeepsBut M s.loadHold :=
  ite h (foldl (fun _ _ h' => cptWith hM (put h')) (setDirect (setDirect h)))

theorem loadPorts (h : was.KeepsBut M s) : was.KeepsBut M s.loadPorts :=
  foldl (fun _ _ h' => ite (put h') h') h

theorem presentRoles (hM : [.freeCount, .u2pSt, .sspSt, .upLink, .vbsSt, .tcpSt, .lheSt, .fifos, .graver] ⊆ M) (h : was.KeepsBut M s) :
    was.KeepsBut M s.presentRoles :=
  foldl (fun _ _ h' => usbEval (Subset.trans (by decide) hM) (ccStart hM h')) h

theorem loadDram (hM : [.freeCount, .dclkOn, .gclkOn, .drcPend, .bad, .arb, .presSt, .mgfSt, .fifos, .epm, .dram, .grvTemplates,
    .dramMem] ⊆ M) (h : was.KeepsBut M s) : was.KeepsBut M s.loadDram :=
  ite (drcFollow hM (setDrcSt h)) (drcAsk (Subset.trans (by decide) hM) (drcFollow hM (setDrcSt h)))

theorem loadFinish (hM : [.freeCount, .dclkOn, .gclkOn, .drcPend, .bad, .runs, .mports, .ringSlots, .ringSides, .legacy, .arb, .u2pSt,
    .hubCtx, .sspSt, .ssCtx, .upLink, .vbsSt, .tcpSt, .pdSt, .conSt, .presSt, .moveCause, .mgfSt, .lheSt, .fifos, .queues, .epm,
    .graver, .dram, .cpt, .grvTemplates, .grvBuffer, .dramMem] ⊆ M) (h : was.KeepsBut M s) : was.KeepsBut M s.loadFinish := by
  unfold State.loadFinish
  repeat' with_reducible first
    | assumption | exact Subset.trans (by decide) hM | apply ite | apply put | apply loadFilter | apply askLeave | apply legCheck
    | apply plateFollow | apply graverFollow | apply mgtFollow | apply poolStart | apply powerBits | apply loadOwners | apply loadHold
    | apply loadPorts | apply presentRoles | apply loadDram | refine foldl (fun _ _ _ => ?_) ?_

theorem execLoadComplete_leads (hM : [.freeCount, .dclkOn, .gclkOn, .drcPend, .bad, .runs, .mports, .ringSlots, .ringSides, .legacy,
    .arb, .u2pSt, .hubCtx, .sspSt, .ssCtx, .upLink, .vbsSt, .tcpSt, .pdSt, .conSt, .presSt, .moveCause, .mgfSt, .lheSt, .fifos, .queues,
    .epm, .graver, .dram, .cpt, .grvTemplates, .grvBuffer, .dramMem] ⊆ M) (h : was.KeepsBut M s) : was.LeadsBut M (execLoadComplete s) :=
  iteO (next h) (next (loadFinish hM (ite (raise (Subset.trans (by decide) hM) (loadEvent (Subset.trans (by decide) hM) (wearCheck (put
    (loadStore (Subset.trans (by decide) hM) h))))) (loadEvent (Subset.trans (by decide) hM) (wearCheck (put (loadStore
    (Subset.trans (by decide) hM) h)))))))

/-! ### The definitions of Machine/PdVdm.lean -/

theorem cableFound {p objs} (hM : [.vbsSt, .pdSt, .fifos] ⊆ M) (h : was.KeepsBut M s) : was.KeepsBut M (s.cableFound p objs) :=
  pdKick (Subset.trans (by decide) hM) (offerCheck (Subset.trans (by decide) hM) (raisePort (Subset.trans (by decide) hM) (pdWith
    (Subset.trans (by decide) hM) (setFlag (put (put (put (put (put h)))))))))

theorem eprFail {p reason} (hM : [.vbsSt, .pdSt] ⊆ M) (h : was.KeepsBut M s) : was.KeepsBut M (s.eprFail p reason) :=
  toReady hM (pdSay (Subset.trans (by decide) hM) h)

theorem eprEnter {p} (hM : [.vbsSt, .pdSt] ⊆ M) (h : was.KeepsBut M s) : was.KeepsBut M (s.eprEnter p) :=
  ite (pdWith (Subset.trans (by decide) hM) (setPe (pdSay (Subset.trans (by decide) hM) (pdSay (Subset.trans (by decide) hM) h))))
    (eprFail hM h)

theorem eprCableAnswer {p objs} (hM : [.vbsSt, .pdSt, .fifos] ⊆ M) (h : was.KeepsBut M s) : was.KeepsBut M (s.eprCableAnswer p objs) :=
  ite (sendCaps (Subset.trans (by decide) hM) (pdWith (Subset.trans (by decide) hM) (setPe (put (pdSay (Subset.trans (by decide) hM)
    (cableFound hM h)))))) (eprFail (Subset.trans (by decide) hM) (cableFound hM h))

theorem modeSend {p step} (hM : [.pdSt] ⊆ M) (h : was.KeepsBut M s) : was.KeepsBut M (s.modeSend p step) := by
  unfold State.modeSend
  repeat' with_reducible first | assumption | apply pdWith | apply pdSay

theorem modeOver {p} (hM : [.vbsSt, .pdSt] ⊆ M) (h : was.KeepsBut M s) : was.KeepsBut M (s.modeOver p) :=
  toReady hM (pdWith (Subset.trans (by decide) hM) h)

theorem modeFail {p} (hM : [.vbsSt, .pdSt] ⊆ M) (h : was.KeepsBut M s) : was.KeepsBut M (s.modeFail p) :=
  modeOver hM (pdWith (Subset.trans (by decide) hM) h)

theorem modeAnswer {p hdr objs} (hM : [.freeCount, .vbsSt, .tcpSt, .pdSt, .fifos] ⊆ M) (h : was.KeepsBut M s) :
    was.KeepsBut M (s.modeAnswer p hdr objs) := by
  unfold State.modeAnswer
  repeat' first
    | with_reducible first
      | assumption | exact Subset.trans (by decide) hM | apply ite | apply put | apply raisePort | apply pdWith | apply routeBy
      | apply modeSend | apply modeOver | apply modeFail
    | split

theorem vdmRequest {p hdr} (hM : [.tcpSt, .pdSt, .conSt, .fifos] ⊆ M) (h : was.KeepsBut M s) : was.KeepsBut M (s.vdmRequest p hdr) := by
  unfold State.vdmRequest
  repeat' first | (with_reducible first | assumption | exact Subset.trans (by decide) hM | apply modeExit | apply pdSay) | split

theorem sendExit {p} (hM : [.tcpSt, .pdSt, .conSt, .fifos] ⊆ M) (h : was.KeepsBut M s) : was.KeepsBut M (s.sendExit p) := by
  unfold State.sendExit
  repeat' with_reducible first | assumption | exact Subset.trans (by decide) hM | apply pdWith | apply modeExit | apply pdSay

/-! ### The definitions of Machine/Pd.lean -/

theorem pdNote {p m} (hM : [.pdSt] ⊆ M) (h : was.KeepsBut M s) : was.KeepsBut M (s.pdNote p m) :=
  ite (pdWith hM (pdAck hM h)) (put (pdWith hM (pdAck hM h)))

theorem pdTake {p m f} (hM : [.pdSt] ⊆ M) (h : was.KeepsBut M s) (hf0 : ∀ x0, was.KeepsBut M x0 → was.KeepsBut M (f x0)) :
    was.KeepsBut M (s.pdTake p m f) :=
  ite h (ite (ite (pdAck hM h) h) (ite (sayNotSupported hM (pdNote hM h)) (hf0 _ (pdNote hM h))))

theorem pdAnswer {p num cls f} (hM : [.freeCount, .arb, .u2pSt, .sspSt, .upLink, .vbsSt, .tcpSt, .pdSt, .conSt, .lheSt, .fifos, .graver]
    ⊆ M) (h : was.KeepsBut M s) (hf0 : ∀ x0, was.KeepsBut M x0 → was.KeepsBut M (f x0)) : was.KeepsBut M (s.pdAnswer p num cls f) :=
  ite (hf0 _ h) (unexpected hM h)

theorem rev3Only {p f} (hM : [.pdSt] ⊆ M) (h : was.KeepsBut M s) (hf0 : ∀ x0, was.KeepsBut M x0 → was.KeepsBut M (f x0)) :
    was.KeepsBut M (s.rev3Only p f) :=
  ite (sayNotSupported hM h) (hf0 _ h)

theorem upSend {u out want} (hM : [.upPdOut] ⊆ M) (h : was.KeepsBut M s) : was.KeepsBut M (s.upSend u out want) :=
  h.change hM rfl fun p _ _ => by cases p <;> trivial

theorem upReply {u out want} (hM : [.upPdOut] ⊆ M) (h : was.KeepsBut M s) : was.KeepsBut M (s.upReply u out want) :=
  upSend hM h

theorem upSay {u m out} (hM : [.upPdOut] ⊆ M) (h : was.KeepsBut M s) : was.KeepsBut M (s.upSay u m out) :=
  ite h (ite (upReply hM h) (ite (upReply hM h) (upReply hM h)))

theorem upStep {u m next} (hM : [.upPdOut] ⊆ M) (h : was.KeepsBut M s) : was.KeepsBut M (s.upStep u m next) := by
  unfold State.upStep
  repeat' first | (with_reducible first | assumption | apply upReply) | split

theorem upCaps {u m rdo} (hM : [.upPdOut] ⊆ M) (h : was.KeepsBut M s) : was.KeepsBut M (s.upCaps u m rdo) :=
  ite h (ite (upReply hM h) (upReply hM h))

theorem pdCommand_keeps {pp m down up} (hM : [.pdSt, .upPdOut] ⊆ M) (h : was.KeepsBut M s)
    (hf0 : ∀ x0 x1, was.KeepsBut M x1 → was.KeepsBut M (down x0 x1)) : was.KeepsBut M (Machine.pdCommand pp m s down up) := by
  unfold Machine.pdCommand
  repeat' first
    | with_reducible first
      | assumption | exact Subset.trans (by decide) hM | apply hf0 | apply upSay | apply pdTake
    | split

theorem onSourceCaps {p} (hM : [.freeCount, .arb, .u2pSt, .sspSt, .upLink, .vbsSt, .tcpSt, .pdSt, .conSt, .lheSt, .fifos, .graver] ⊆ M)
    (h : was.KeepsBut M s) : was.KeepsBut M (s.onSourceCaps p) :=
  ite (pdWith (Subset.trans (by decide) hM) (pdSay (Subset.trans (by decide) hM) h)) (unexpected hM h)

theorem execSourceCapabilities_leads {pp msg} (hM : [.freeCount, .arb, .u2pSt, .sspSt, .upLink, .vbsSt, .tcpSt, .pdSt, .upPdOut, .conSt,
    .lheSt, .fifos, .graver] ⊆ M) (h : was.KeepsBut M s) : was.LeadsBut M (execSourceCapabilities pp msg s) := by
  unfold execSourceCapabilities
  repeat' first
    | with_reducible first
      | intro _ | assumption | exact Subset.trans (by decide) hM | apply next | apply upCaps | apply onSourceCaps | apply pdTake
    | split

theorem onRequest {p m} (hM : [.freeCount, .arb, .u2pSt, .sspSt, .upLink, .vbsSt, .tcpSt, .pdSt, .conSt, .lheSt, .fifos, .graver] ⊆ M)
    (h : was.KeepsBut M s) : was.KeepsBut M (s.onRequest p m) :=
  ite (decideRequest (Subset.trans (by decide) hM) h) (ite (sayNotSupported (Subset.trans (by decide) hM) h) (unexpected hM h))

theorem execRequest_leads {pp msg} (hM : [.freeCount, .arb, .u2pSt, .sspSt, .upLink, .vbsSt, .tcpSt, .pdSt, .upPdOut, .conSt, .lheSt,
    .fifos, .graver] ⊆ M) (h : was.KeepsBut M s) : was.LeadsBut M (execRequest pp msg s) :=
  next (pdCommand_keeps (Subset.trans (by decide) hM) h (fun _ _ h' => onRequest (Subset.trans (by decide) hM) h'))

theorem onGetSourceCap {p} (hM : [.pdSt] ⊆ M) (h : was.KeepsBut M s) : was.KeepsBut M (s.onGetSourceCap p) :=
  ite (sendCaps hM h) (sayCaps hM h)

theorem execGetSourceCap_leads {pp msg} (hM : [.freeCount, .arb, .u2pSt, .sspSt, .upLink, .vbsSt, .tcpSt, .pdSt, .upPdOut, .conSt,
    .lheSt, .fifos, .graver] ⊆ M) (h : was.KeepsBut M s) : was.LeadsBut M (execGetSourceCap pp msg s) :=
  next (pdCommand_keeps (Subset.trans (by decide) hM) h (fun _ _ h' => pdAnswer (Subset.trans (by decide) hM) h' (fun _ h' =>
    onGetSourceCap (Subset.trans (by decide) hM) h')))

theorem execGetSinkCap_leads {pp msg} (hM : [.freeCount, .arb, .u2pSt, .sspSt, .upLink, .vbsSt, .tcpSt, .pdSt, .upPdOut, .conSt, .lheSt,
    .fifos, .graver] ⊆ M) (h : was.KeepsBut M s) : was.LeadsBut M (execGetSinkCap pp msg s) :=
  next (pdCommand_keeps (Subset.trans (by decide) hM) h (fun _ _ h' => pdAnswer (Subset.trans (by decide) hM) h' (fun _ h' => pdSay
    (Subset.trans (by decide) hM) h')))

theorem onEprGetSourceCap {p} (hM : [.pdSt] ⊆ M) (h : was.KeepsBut M s) : was.KeepsBut M (s.onEprGetSourceCap p) :=
  ite (sayNotSupported hM h) (ite (sendCaps hM h) (sayCaps hM h))

theorem execEprGetSourceCap_leads {pp msg} (hM : [.freeCount, .arb, .u2pSt, .sspSt, .upLink, .vbsSt, .tcpSt, .pdSt, .upPdOut, .conSt,
    .lheSt, .fifos, .graver] ⊆ M) (h : was.KeepsBut M s) : was.LeadsBut M (execEprGetSourceCap pp msg s) :=
  next (pdCommand_keeps (Subset.trans (by decide) hM) h (fun _ _ h' => pdAnswer (Subset.trans (by decide) hM) h' (fun _ h' =>
    onEprGetSourceCap (Subset.trans (by decide) hM) h')))

theorem execPrSwap_leads {pp msg} (hM : [.freeCount, .arb, .u2pSt, .sspSt, .upLink, .vbsSt, .tcpSt, .pdSt, .upPdOut, .conSt, .lheSt,
    .fifos, .graver] ⊆ M) (h : was.KeepsBut M s) : was.LeadsBut M (execPrSwap pp msg s) :=
  next (pdCommand_keeps (Subset.trans (by decide) hM) h (fun _ _ h' => pdAnswer (Subset.trans (by decide) hM) h' (fun _ h' => pdSay
    (Subset.trans (by decide) hM) h')))

theorem onDrSwap {p} (hM : [.freeCount, .u2pSt, .sspSt, .upLink, .pdSt, .lheSt, .fifos, .graver] ⊆ M) (h : was.KeepsBut M s) :
    was.KeepsBut M (s.onDrSwap p) :=
  ite (swapEvent (Subset.trans (by decide) hM) (pdWith (Subset.trans (by decide) hM) (becomeDfp hM (pdSay (Subset.trans (by decide) hM)
    h)))) (pdSay (Subset.trans (by decide) hM) h)

theorem execDrSwap_leads {pp msg} (hM : [.freeCount, .arb, .u2pSt, .sspSt, .upLink, .vbsSt, .tcpSt, .pdSt, .upPdOut, .conSt, .lheSt,
    .fifos, .graver] ⊆ M) (h : was.KeepsBut M s) : was.LeadsBut M (execDrSwap pp msg s) :=
  next (pdCommand_keeps (Subset.trans (by decide) hM) h (fun _ _ h' => pdAnswer (Subset.trans (by decide) hM) h' (fun _ h' => onDrSwap
    (Subset.trans (by decide) hM) h')))

theorem onVconnSwap {p} (hM : [.pdSt, .fifos] ⊆ M) (h : was.KeepsBut M s) : was.KeepsBut M (s.onVconnSwap p) :=
  ite (pdSay (Subset.trans (by decide) hM) h) (ite (pdWith (Subset.trans (by decide) hM) (setPe (pdSay (Subset.trans (by decide) hM) h)))
    (swapEvent (Subset.trans (by decide) hM) (pdWith (Subset.trans (by decide) hM) (pdSay (Subset.trans (by decide) hM) (vconnOn
    (Subset.trans (by decide) hM) (pdSay (Subset.trans (by decide) hM) h))))))

theorem execVconnSwap_leads {pp msg} (hM : [.freeCount, .arb, .u2pSt, .sspSt, .upLink, .vbsSt, .tcpSt, .pdSt, .upPdOut, .conSt, .lheSt,
    .fifos, .graver] ⊆ M) (h : was.KeepsBut M s) : was.LeadsBut M (execVconnSwap pp msg s) :=
  next (pdCommand_keeps (Subset.trans (by decide) hM) h (fun _ _ h' => pdAnswer (Subset.trans (by decide) hM) h' (fun _ h' => onVconnSwap
    (Subset.trans (by decide) hM) h')))

theorem execFrSwap_leads {pp msg} (hM : [.freeCount, .arb, .u2pSt, .sspSt, .upLink, .vbsSt, .tcpSt, .pdSt, .upPdOut, .conSt, .lheSt,
    .fifos, .graver] ⊆ M) (h : was.KeepsBut M s) : was.LeadsBut M (execFrSwap pp msg s) :=
  next (pdCommand_keeps (Subset.trans (by decide) hM) h (fun _ _ h' => pdAnswer (Subset.trans (by decide) hM) h' (fun _ h' =>
    sayNotSupported (Subset.trans (by decide) hM) h')))

theorem onSoftReset {p} (hM : [.freeCount, .arb, .u2pSt, .sspSt, .upLink, .vbsSt, .tcpSt, .pdSt, .conSt, .lheSt, .fifos, .graver] ⊆ M)
    (h : was.KeepsBut M s) : was.KeepsBut M (s.onSoftReset p) :=
  ite (unexpected hM h) (softDone (Subset.trans (by decide) hM) (pdSay (Subset.trans (by decide) hM) (pdWith (Subset.trans (by decide) hM)
    (noteSoft (Subset.trans (by decide) hM) (put (endRaise (Subset.trans (by decide) hM) h))))))

theorem execSoftReset_leads {pp msg} (hM : [.freeCount, .arb, .u2pSt, .sspSt, .upLink, .vbsSt, .tcpSt, .pdSt, .upPdOut, .conSt, .lheSt,
    .fifos, .graver] ⊆ M) (h : was.KeepsBut M s) : was.LeadsBut M (execSoftReset pp msg s) := by
  unfold execSoftReset
  repeat' first
    | with_reducible first
      | intro _ | assumption | exact Subset.trans (by decide) hM | apply next | apply upReply | apply onSoftReset | apply pdTake
    | split

theorem execHardReset_leads {pp msg} (hM : [.freeCount, .arb, .u2pSt, .sspSt, .upLink, .vbsSt, .tcpSt, .pdSt, .upPdOut, .conSt, .lheSt,
    .fifos, .graver] ⊆ M) (h : was.KeepsBut M s) : was.LeadsBut M (execHardReset pp msg s) := by
  unfold execHardReset
  repeat' first
    | with_reducible first
      | assumption | exact Subset.trans (by decide) hM | apply next | apply pdWith | apply pdFresh | apply hardReset | apply upSend
    | split

theorem execGetStatus_leads {pp msg} (hM : [.freeCount, .arb, .u2pSt, .sspSt, .upLink, .vbsSt, .tcpSt, .pdSt, .upPdOut, .conSt, .lheSt,
    .fifos, .graver] ⊆ M) (h : was.KeepsBut M s) : was.LeadsBut M (execGetStatus pp msg s) :=
  next (pdCommand_keeps (Subset.trans (by decide) hM) h (fun _ _ h' => pdAnswer (Subset.trans (by decide) hM) h' (fun _ h' => rev3Only
    (Subset.trans (by decide) hM) h' (fun _ h' => pdSay (Subset.trans (by decide) hM) h'))))

theorem execGetPpsStatus_leads {pp msg} (hM : [.freeCount, .arb, .u2pSt, .sspSt, .upLink, .vbsSt, .tcpSt, .pdSt, .upPdOut, .conSt,
    .lheSt, .fifos, .graver] ⊆ M) (h : was.KeepsBut M s) : was.LeadsBut M (execGetPpsStatus pp msg s) :=
  next (pdCommand_keeps (Subset.trans (by decide) hM) h (fun _ _ h' => pdAnswer (Subset.trans (by decide) hM) h' (fun _ h' => ite (pdSay
    (Subset.trans (by decide) hM) h') (sayNotSupported (Subset.trans (by decide) hM) h'))))

theorem execGetSourceCapExtended_leads {pp msg} (hM : [.freeCount, .arb, .u2pSt, .sspSt, .upLink, .vbsSt, .tcpSt, .pdSt, .upPdOut,
    .conSt, .lheSt, .fifos, .graver] ⊆ M) (h : was.KeepsBut M s) : was.LeadsBut M (execGetSourceCapExtended pp msg s) :=
  next (pdCommand_keeps (Subset.trans (by decide) hM) h (fun _ _ h' => pdAnswer (Subset.trans (by decide) hM) h' (fun _ h' => rev3Only
    (Subset.trans (by decide) hM) h' (fun _ h' => pdSay (Subset.trans (by decide) hM) h'))))

theorem execGetSourceInfo_leads {pp msg} (hM : [.freeCount, .arb, .u2pSt, .sspSt, .upLink, .vbsSt, .tcpSt, .pdSt, .upPdOut, .conSt,
    .lheSt, .fifos, .graver] ⊆ M) (h : was.KeepsBut M s) : was.LeadsBut M (execGetSourceInfo pp msg s) :=
  next (pdCommand_keeps (Subset.trans (by decide) hM) h (fun _ _ h' => pdAnswer (Subset.trans (by decide) hM) h' (fun _ h' => pdSay
    (Subset.trans (by decide) hM) h')))

theorem execGetRevision_leads {pp msg} (hM : [.freeCount, .arb, .u2pSt, .sspSt, .upLink, .vbsSt, .tcpSt, .pdSt, .upPdOut, .conSt,
    .lheSt, .fifos, .graver] ⊆ M) (h : was.KeepsBut M s) : was.LeadsBut M (execGetRevision pp msg s) :=
  next (pdCommand_keeps (Subset.trans (by decide) hM) h (fun _ _ h' => pdAnswer (Subset.trans (by decide) hM) h' (fun _ h' => pdSay
    (Subset.trans (by decide) hM) h')))

theorem execGetManufacturerInfo_leads {pp msg} (hM : [.freeCount, .arb, .u2pSt, .sspSt, .upLink, .vbsSt, .tcpSt, .pdSt, .upPdOut,
    .conSt, .lheSt, .fifos, .graver] ⊆ M) (h : was.KeepsBut M s) : was.LeadsBut M (execGetManufacturerInfo pp msg s) :=
  next (pdCommand_keeps (Subset.trans (by decide) hM) h (fun _ _ h' => pdAnswer (Subset.trans (by decide) hM) h' (fun _ h' => rev3Only
    (Subset.trans (by decide) hM) h' (fun _ h' => pdSay (Subset.trans (by decide) hM) h'))))

theorem onEprMode {p obj} (hM : [.freeCount, .arb, .u2pSt, .sspSt, .upLink, .vbsSt, .tcpSt, .pdSt, .conSt, .lheSt, .fifos, .graver] ⊆ M)
    (h : was.KeepsBut M s) : was.KeepsBut M (s.onEprMode p obj) := by
  unfold State.onEprMode
  repeat' first
    | with_reducible first
      | assumption | exact Subset.trans (by decide) hM | apply ite | apply put | apply sendCaps | apply hardReset | apply unexpected
      | apply eprEnter
    | split

theorem execEprMode_leads {pp msg} (hM : [.freeCount, .arb, .u2pSt, .sspSt, .upLink, .vbsSt, .tcpSt, .pdSt, .upPdOut, .conSt, .lheSt,
    .fifos, .graver] ⊆ M) (h : was.KeepsBut M s) : was.LeadsBut M (execEprMode pp msg s) :=
  next (pdCommand_keeps (Subset.trans (by decide) hM) h (fun _ _ h' => pdAnswer (Subset.trans (by decide) hM) h' (fun _ h' => ite
    (onEprMode (Subset.trans (by decide) hM) h') (sayNotSupported (Subset.trans (by decide) hM) h'))))

theorem execEprKeepalive_leads {pp msg} (hM : [.freeCount, .arb, .u2pSt, .sspSt, .upLink, .vbsSt, .tcpSt, .pdSt, .upPdOut, .conSt,
    .lheSt, .fifos, .graver] ⊆ M) (h : was.KeepsBut M s) : was.LeadsBut M (execEprKeepalive pp msg s) :=
  next (pdCommand_keeps (Subset.trans (by decide) hM) h (fun _ _ h' => pdAnswer (Subset.trans (by decide) hM) h' (fun _ h' => ite (pdSay
    (Subset.trans (by decide) hM) h') (ite (unexpected (Subset.trans (by decide) hM) h') (sayNotSupported (Subset.trans (by decide) hM)
    h')))))

theorem onVdm {p objs} (hM : [.freeCount, .arb, .u2pSt, .sspSt, .upLink, .vbsSt, .tcpSt, .pdSt, .conSt, .lheSt, .fifos, .graver] ⊆ M)
    (h : was.KeepsBut M s) : was.KeepsBut M (s.onVdm p objs) :=
  ite (pdAnswer hM h (fun _ h' => sayNotSupported (Subset.trans (by decide) hM) h')) (ite (ite (modeAnswer (Subset.trans (by decide) hM)
    h) (unexpected hM h)) (pdAnswer hM h (fun _ h' => vdmRequest (Subset.trans (by decide) hM) h')))

theorem cableTried {p} (hM : [.vbsSt, .pdSt, .fifos] ⊆ M) (h : was.KeepsBut M s) : was.KeepsBut M (s.cableTried p) :=
  ite (cableFail hM h) h

theorem onCableVdm {p objs} (hM : [.vbsSt, .pdSt, .fifos] ⊆ M) (h : was.KeepsBut M s) : was.KeepsBut M (s.onCableVdm p objs) :=
  ite h (ite (ite (eprCableAnswer hM h) (eprFail (Subset.trans (by decide) hM) h)) (ite (cableTried hM h) (ite (cableFound hM h) h)))

theorem execVendorDefined_leads {pp msg} (hM : [.freeCount, .arb, .u2pSt, .sspSt, .upLink, .vbsSt, .tcpSt, .pdSt, .upPdOut, .conSt,
    .lheSt, .fifos, .graver] ⊆ M) (h : was.KeepsBut M s) : was.LeadsBut M (execVendorDefined pp msg s) := by
  unfold execVendorDefined
  repeat' first
    | with_reducible first
      | intro _ | assumption | exact Subset.trans (by decide) hM | apply next | apply pdAck | apply upSay | apply onVdm | apply onCableVdm
      | apply pdTake
    | split

theorem execPingMsg_leads {pp msg} (hM : [.pdSt, .upPdOut] ⊆ M) (h : was.KeepsBut M s) : was.LeadsBut M (execPingMsg pp msg s) :=
  next (pdCommand_keeps hM h (fun _ _ h' => h'))

theorem execAlertMsg_leads {pp msg} (hM : [.pdSt, .upPdOut] ⊆ M) (h : was.KeepsBut M s) : was.LeadsBut M (execAlertMsg pp msg s) :=
  next (pdCommand_keeps hM h (fun _ _ h' => h'))

theorem onBist {p obj} (hM : [.pdSt] ⊆ M) (h : was.KeepsBut M s) : was.KeepsBut M (s.onBist p obj) :=
  ite (pdSay hM h) h

theorem execBist_leads {pp msg} (hM : [.freeCount, .arb, .u2pSt, .sspSt, .upLink, .vbsSt, .tcpSt, .pdSt, .upPdOut, .conSt, .lheSt,
    .fifos, .graver] ⊆ M) (h : was.KeepsBut M s) : was.LeadsBut M (execBist pp msg s) :=
  next (pdCommand_keeps (Subset.trans (by decide) hM) h (fun _ _ h' => pdAnswer (Subset.trans (by decide) hM) h' (fun _ h' => onBist
    (Subset.trans (by decide) hM) h')))

theorem onSinkCaps {p w} (hM : [.freeCount, .arb, .u2pSt, .sspSt, .upLink, .vbsSt, .pdSt, .lheSt, .fifos, .graver] ⊆ M)
    (h : was.KeepsBut M s) : was.KeepsBut M (s.onSinkCaps p w) :=
  ite (grantChanged (Subset.trans (by decide) hM) (pdWith (Subset.trans (by decide) hM) h)) (askReserve (Subset.trans (by decide) hM)
    (pdWith (Subset.trans (by decide) hM) h))

theorem onUnsupported {p m} (hM : [.freeCount, .arb, .u2pSt, .sspSt, .upLink, .vbsSt, .tcpSt, .pdSt, .conSt, .lheSt, .fifos, .graver] ⊆ M)
    (h : was.KeepsBut M s) : was.KeepsBut M (s.onUnsupported p m) :=
  ite (onSinkCaps (Subset.trans (by decide) hM) h) (ite (pdWith (Subset.trans (by decide) hM) h) (ite (swapRefused
    (Subset.trans (by decide) hM) h) (ite (sayNotSupported (Subset.trans (by decide) hM) h) (unexpected hM h))))

theorem execUnsupportedMessage_leads {pp msg} (hM : [.freeCount, .arb, .u2pSt, .sspSt, .upLink, .vbsSt, .tcpSt, .pdSt, .upPdOut, .conSt,
    .lheSt, .fifos, .graver] ⊆ M) (h : was.KeepsBut M s) : was.LeadsBut M (execUnsupportedMessage pp msg s) :=
  next (pdCommand_keeps (Subset.trans (by decide) hM) h (fun _ _ h' => onUnsupported (Subset.trans (by decide) hM) h'))

theorem drDone {p} (hM : [.vbsSt, .pdSt] ⊆ M) (h : was.KeepsBut M s) : was.KeepsBut M (s.drDone p) :=
  vconnTake hM (pdWith (Subset.trans (by decide) hM) h)

theorem onAccept {p} (hM : [.freeCount, .arb, .u2pSt, .sspSt, .upLink, .vbsSt, .tcpSt, .pdSt, .conSt, .lheSt, .fifos, .graver] ⊆ M)
    (h : was.KeepsBut M s) : was.KeepsBut M (s.onAccept p) := by
  unfold State.onAccept
  repeat' first
    | with_reducible first
      | assumption | exact Subset.trans (by decide) hM | apply pdWith | apply vconnOn | apply pdSay | apply softDone | apply swapEvent
      | apply unexpected | apply swapOver | apply becomeDfp | apply drDone
    | split

theorem execAccept_leads {pp msg} (hM : [.freeCount, .arb, .u2pSt, .sspSt, .upLink, .vbsSt, .tcpSt, .pdSt, .upPdOut, .conSt, .lheSt,
    .fifos, .graver] ⊆ M) (h : was.KeepsBut M s) : was.LeadsBut M (execAccept pp msg s) := by
  unfold execAccept
  repeat' first
    | with_reducible first
      | intro _ | assumption | exact Subset.trans (by decide) hM | apply next | apply upStep | apply onAccept | apply pdTake
    | split

theorem onRefusal {p num outcome} (hM : [.freeCount, .arb, .u2pSt, .sspSt, .upLink, .vbsSt, .tcpSt, .pdSt, .conSt, .lheSt, .fifos,
    .graver] ⊆ M) (h : was.KeepsBut M s) : was.KeepsBut M (s.onRefusal p num outcome) :=
  ite (ite h (swapRefused (Subset.trans (by decide) hM) h)) (unexpected hM h)

theorem execReject_leads {pp msg} (hM : [.freeCount, .arb, .u2pSt, .sspSt, .upLink, .vbsSt, .tcpSt, .pdSt, .upPdOut, .conSt, .lheSt,
    .fifos, .graver] ⊆ M) (h : was.KeepsBut M s) : was.LeadsBut M (execReject pp msg s) := by
  unfold execReject
  repeat' first
    | with_reducible first
      | intro _ | assumption | exact Subset.trans (by decide) hM | apply next | apply upStep | apply onRefusal | apply pdTake
    | split

theorem execWaitMsg_leads {pp msg} (hM : [.freeCount, .arb, .u2pSt, .sspSt, .upLink, .vbsSt, .tcpSt, .pdSt, .upPdOut, .conSt, .lheSt,
    .fifos, .graver] ⊆ M) (h : was.KeepsBut M s) : was.LeadsBut M (execWaitMsg pp msg s) := by
  unfold execWaitMsg
  repeat' first
    | with_reducible first
      | intro _ | assumption | exact Subset.trans (by decide) hM | apply next | apply upStep | apply onRefusal | apply pdTake
    | split

theorem onPsRdy {p} (hM : [.freeCount, .arb, .u2pSt, .sspSt, .upLink, .vbsSt, .tcpSt, .pdSt, .conSt, .lheSt, .health, .fifos, .graver] ⊆
    M) (h : was.KeepsBut M s) : was.KeepsBut M (s.onPsRdy p) := by
  unfold State.onPsRdy
  repeat' first
    | with_reducible first
      | assumption | exact Subset.trans (by decide) hM | apply pdWith | apply setLimit | apply vconnHand | apply swapEvent
      | apply hardReset | apply unexpected | apply sinkContract | apply swapOver | apply swapToSource | apply checkClose
    | split

theorem execPsRdy_leads {pp msg} (hM : [.freeCount, .arb, .u2pSt, .sspSt, .upLink, .vbsSt, .tcpSt, .pdSt, .upPdOut, .conSt, .lheSt,
    .health, .fifos, .graver] ⊆ M) (h : was.KeepsBut M s) : was.LeadsBut M (execPsRdy pp msg s) := by
  unfold execPsRdy
  repeat' first
    | with_reducible first
      | intro _ | assumption | exact Subset.trans (by decide) hM | apply next | apply upStep | apply onPsRdy | apply pdTake
    | split

theorem capsAcked {p} (hM : [.pdSt] ⊆ M) (h : was.KeepsBut M s) : was.KeepsBut M (s.capsAcked p) :=
  pdWith hM (setPe h)

theorem onGoodCrc {p m} (hM : [.pdSt] ⊆ M) (h : was.KeepsBut M s) : was.KeepsBut M (s.onGoodCrc p m) := by
  unfold State.onGoodCrc
  repeat' first | (with_reducible first | assumption | apply ite | apply pdWith | apply capsAcked) | split

theorem execGoodcrc_leads {pp msg} (hM : [.pdSt, .upPdOut] ⊆ M) (h : was.KeepsBut M s) : was.LeadsBut M (execGoodcrc pp msg s) := by
  unfold execGoodcrc
  repeat' first
    | with_reducible first
      | assumption | exact Subset.trans (by decide) hM | apply next | apply pdFresh | apply upSend | apply onGoodCrc
    | split

theorem giveUp {p o} (hM : [.vbsSt, .pdSt, .fifos] ⊆ M) (h : was.KeepsBut M s) : was.KeepsBut M (s.giveUp p o) :=
  ite (eprFail (Subset.trans (by decide) hM) (countErr (pdWith (Subset.trans (by decide) hM) h))) (ite (cableTried hM (countErr (pdWith
    (Subset.trans (by decide) hM) h))) (ite (rpApply (Subset.trans (by decide) hM) (pdWith (Subset.trans (by decide) hM) (countErr (pdWith
    (Subset.trans (by decide) hM) h)))) (countErr (pdWith (Subset.trans (by decide) hM) h))))

theorem onNoGoodCrc {p} (hM : [.vbsSt, .pdSt, .fifos] ⊆ M) (h : was.KeepsBut M s) : was.KeepsBut M (s.onNoGoodCrc p) := by
  unfold State.onNoGoodCrc
  repeat' first | (with_reducible first | assumption | exact Subset.trans (by decide) hM | apply pdWith | apply giveUp) | split

theorem execGoodcrcTimeout_leads {pp msg} (hM : [.vbsSt, .pdSt, .upPdOut, .fifos] ⊆ M) (h : was.KeepsBut M s) :
    was.LeadsBut M (execGoodcrcTimeout pp msg s) := by
  unfold execGoodcrcTimeout
  repeat' first
    | with_reducible first
      | assumption | exact Subset.trans (by decide) hM | apply next | apply pdFresh | apply upSend | apply onNoGoodCrc
    | split

/-! ### The definitions of Machine/PdTimers.lean -/

theorem pdTick {p c f} (hM : [.pdSt] ⊆ M) (h : was.KeepsBut M s) (hf0 : ∀ x0, was.KeepsBut M x0 → was.KeepsBut M (f x0)) :
    was.KeepsBut M (s.pdTick p c f) :=
  ite (hf0 _ (pdFresh hM h)) h

theorem execSrcStartupEnd_leads {p} (hM : [.vbsSt, .pdSt] ⊆ M) (h : was.KeepsBut M s) : was.LeadsBut M (execSrcStartupEnd p s) :=
  next (pdTick (Subset.trans (by decide) hM) h (fun _ h' => startCaps hM h'))

theorem execSourceCapResend_leads {p} (hM : [.pdSt] ⊆ M) (h : was.KeepsBut M s) : was.LeadsBut M (execSourceCapResend p s) :=
  next (pdTick hM h (fun _ h' => sendCaps hM h'))

theorem revokeDropped {p} (h : was.KeepsBut M s) : was.KeepsBut M (s.revokeDropped p) :=
  ite (put h) h

theorem revokeUnanswered {p} (hM : [.freeCount, .arb, .u2pSt, .sspSt, .upLink, .vbsSt, .tcpSt, .pdSt, .conSt, .lheSt, .fifos, .graver] ⊆
    M) (h : was.KeepsBut M s) : was.KeepsBut M (s.revokeUnanswered p) :=
  hardReset hM (revokeDropped (pdWith (Subset.trans (by decide) hM) h))

theorem noAnswer {p} (hM : [.freeCount, .arb, .u2pSt, .sspSt, .upLink, .vbsSt, .tcpSt, .pdSt, .conSt, .lheSt, .fifos, .graver] ⊆ M)
    (h : was.KeepsBut M s) : was.KeepsBut M (s.noAnswer p) := by
  unfold State.noAnswer
  repeat' first
    | with_reducible first
      | assumption | exact Subset.trans (by decide) hM | apply sendSoft | apply frsFail | apply hardReset | apply protoErr
      | apply swapTried | apply eprFail | apply revokeUnanswered
    | split

theorem upNoAnswer {u} (hM : [.upPdOut] ⊆ M) (h : was.KeepsBut M s) : was.KeepsBut M (s.upNoAnswer u) :=
  ite h (ite (upSend hM h) (upSend hM h))

theorem execSenderResponseTimeout_leads {pp} (hM : [.freeCount, .arb, .u2pSt, .sspSt, .upLink, .vbsSt, .tcpSt, .pdSt, .upPdOut, .conSt,
    .lheSt, .fifos, .graver] ⊆ M) (h : was.KeepsBut M s) : was.LeadsBut M (execSenderResponseTimeout pp s) := by
  unfold execSenderResponseTimeout
  repeat' first
    | with_reducible first
      | intro _ | assumption | exact Subset.trans (by decide) hM | apply next | apply noAnswer | apply upNoAnswer | apply pdTick
    | split

theorem startTransition {p} (hM : [.arb, .vbsSt, .pdSt, .fifos] ⊆ M) (h : was.KeepsBut M s) : was.KeepsBut M (s.startTransition p) :=
  ite (contractDone hM (pdWith (Subset.trans (by decide) hM) h)) (vbsWith (Subset.trans (by decide) hM) (put (put (put (pdWith
    (Subset.trans (by decide) hM) h)))))

theorem execTransitionStart_leads {p} (hM : [.arb, .vbsSt, .pdSt, .fifos] ⊆ M) (h : was.KeepsBut M s) :
    was.LeadsBut M (execTransitionStart p s) :=
  next (pdTick (Subset.trans (by decide) hM) h (fun _ h' => startTransition hM h'))

theorem transFail {p} (hM : [.freeCount, .arb, .u2pSt, .sspSt, .upLink, .vbsSt, .tcpSt, .pdSt, .conSt, .lheSt, .fifos, .graver] ⊆ M)
    (h : was.KeepsBut M s) : was.KeepsBut M (s.transFail p) :=
  hardReset hM (endRaise (Subset.trans (by decide) hM) (raisePort (Subset.trans (by decide) hM) (setFault h)))

theorem execTransLimitEnd_leads {p} (hM : [.freeCount, .arb, .u2pSt, .sspSt, .upLink, .vbsSt, .tcpSt, .pdSt, .conSt, .lheSt, .fifos,
    .graver] ⊆ M) (h : was.KeepsBut M s) : was.LeadsBut M (execTransLimitEnd p s) :=
  next (pdTick (Subset.trans (by decide) hM) h (fun _ h' => transFail hM h'))

theorem execWaitTimerEnd_leads {p} (hM : [.vbsSt, .pdSt] ⊆ M) (h : was.KeepsBut M s) : was.LeadsBut M (execWaitTimerEnd p s) :=
  next (pdTick (Subset.trans (by decide) hM) h (fun _ h' => pdWith (Subset.trans (by decide) hM) (toReady hM (pdSay
    (Subset.trans (by decide) hM) h'))))

theorem execLeaveHoldEnd_leads {p} (hM : [.arb, .pdSt] ⊆ M) (h : was.KeepsBut M s) : was.LeadsBut M (execLeaveHoldEnd p s) :=
  next (pdTick (Subset.trans (by decide) hM) h (fun _ h' => pdWith (Subset.trans (by decide) hM) (endRaise hM h')))

theorem execPpsTimeout_leads {p} (hM : [.freeCount, .arb, .u2pSt, .sspSt, .upLink, .vbsSt, .tcpSt, .pdSt, .conSt, .lheSt, .fifos,
    .graver] ⊆ M) (h : was.KeepsBut M s) : was.LeadsBut M (execPpsTimeout p s) :=
  next (pdTick (Subset.trans (by decide) hM) h (fun _ h' => hardReset hM h'))

theorem execEprKeepaliveTimeout_leads {p} (hM : [.freeCount, .arb, .u2pSt, .sspSt, .upLink, .vbsSt, .tcpSt, .pdSt, .conSt, .lheSt,
    .fifos, .graver] ⊆ M) (h : was.KeepsBut M s) : was.LeadsBut M (execEprKeepaliveTimeout p s) :=
  next (pdTick (Subset.trans (by decide) hM) h (fun _ h' => hardReset hM h'))

theorem startSinkTx {p} (hM : [.vbsSt, .pdSt] ⊆ M) (h : was.KeepsBut M s) : was.KeepsBut M (s.startSinkTx p) :=
  rpApply (Subset.trans (by decide) hM) (pdWith (Subset.trans (by decide) hM) h)

theorem ownSequence {p} (hM : [.arb, .vbsSt, .tcpSt, .pdSt, .conSt, .fifos] ⊆ M) (h : was.KeepsBut M s) :
    was.KeepsBut M (s.ownSequence p) :=
  ite (sendSoft (Subset.trans (by decide) hM) (put h)) (ite (sendExit (Subset.trans (by decide) hM) h) (ite (sendCaps
    (Subset.trans (by decide) hM) h) (ite (vconnTake (Subset.trans (by decide) hM) h) (ite (modeSend (Subset.trans (by decide) hM) h) (ite
    (sendDrSwap (Subset.trans (by decide) hM) h) (toReady (Subset.trans (by decide) hM) (pdWith (Subset.trans (by decide) hM) h)))))))

theorem execSinkTxEnd_leads {p} (hM : [.arb, .vbsSt, .tcpSt, .pdSt, .conSt, .fifos] ⊆ M) (h : was.KeepsBut M s) :
    was.LeadsBut M (execSinkTxEnd p s) :=
  next (pdTick (Subset.trans (by decide) hM) h (fun _ h' => ite (ownSequence hM h') (ite (sendCaps (Subset.trans (by decide) hM) (pdWith
    (Subset.trans (by decide) hM) h')) h')))

theorem execCapsMergeEnd_leads {p} (hM : [.vbsSt, .pdSt] ⊆ M) (h : was.KeepsBut M s) : was.LeadsBut M (execCapsMergeEnd p s) :=
  next (pdTick (Subset.trans (by decide) hM) h (fun _ h' => pdKick hM (pdWith (Subset.trans (by decide) hM) h')))

theorem execDiscoverIdentityAttempt_leads {p} (hM : [.vbsSt, .pdSt, .fifos] ⊆ M) (h : was.KeepsBut M s) :
    was.LeadsBut M (execDiscoverIdentityAttempt p s) :=
  next (pdTick (Subset.trans (by decide) hM) h (fun _ h' => ite (cableTried hM h') (pdSay (Subset.trans (by decide) hM) (count h'))))

theorem execRevokeNoRequest_leads {p} (hM : [.freeCount, .arb, .u2pSt, .sspSt, .upLink, .vbsSt, .tcpSt, .pdSt, .conSt, .lheSt, .fifos,
    .graver] ⊆ M) (h : was.KeepsBut M s) : was.LeadsBut M (execRevokeNoRequest p s) :=
  next (pdTick (Subset.trans (by decide) hM) h (fun _ h' => revokeUnanswered hM h'))

theorem execHardResetPowerOff_leads {p} (hM : [.freeCount, .arb, .u2pSt, .sspSt, .upLink, .vbsSt, .tcpSt, .pdSt, .conSt, .lheSt, .fifos,
    .graver] ⊆ M) (h : was.KeepsBut M s) : was.LeadsBut M (execHardResetPowerOff p s) :=
  next (pdTick (Subset.trans (by decide) hM) h (fun _ h' => pdWith (Subset.trans (by decide) hM) (muxEnd (Subset.trans (by decide) hM)
    (vconnOff (Subset.trans (by decide) hM) (revokeDropped (vbsOpenTo hM h'))))))

theorem execSrcRecoverEnd_leads {p} (hM : [.vbsSt, .pdSt] ⊆ M) (h : was.KeepsBut M s) : was.LeadsBut M (execSrcRecoverEnd p s) :=
  next (pdTick (Subset.trans (by decide) hM) h (fun _ h' => pdWith (Subset.trans (by decide) hM) (vconnStart (Subset.trans (by decide) hM)
    (setLimit (Subset.trans (by decide) hM) (put (put h'))))))

theorem execSinkWaitCapTimeout_leads {p} (hM : [.freeCount, .arb, .u2pSt, .sspSt, .upLink, .vbsSt, .tcpSt, .pdSt, .conSt, .lheSt,
    .fifos, .graver] ⊆ M) (h : was.KeepsBut M s) : was.LeadsBut M (execSinkWaitCapTimeout p s) :=
  next (pdTick (Subset.trans (by decide) hM) h (fun _ h' => hardReset hM h'))

theorem execSwapAttempt_leads {p} (hM : [.freeCount, .arb, .u2pSt, .sspSt, .upLink, .vbsSt, .tcpSt, .pdSt, .conSt, .lheSt, .health,
    .fifos, .graver] ⊆ M) (h : was.KeepsBut M s) : was.LeadsBut M (execSwapAttempt p s) :=
  next (pdTick (Subset.trans (by decide) hM) h (fun _ h' => ite (ite (ite h' (ite (trip hM h') (pdWith (Subset.trans (by decide) hM)
    (setPe (pdSay (Subset.trans (by decide) hM) h'))))) (askReserve (Subset.trans (by decide) hM) h')) (ite (startSinkTx
    (Subset.trans (by decide) hM) h') h')))

theorem execSinkHardResetTimeout_leads {p} (hM : [.freeCount, .arb, .u2pSt, .sspSt, .upLink, .vbsSt, .tcpSt, .pdSt, .conSt, .lheSt,
    .fifos, .graver] ⊆ M) (h : was.KeepsBut M s) : was.LeadsBut M (execSinkHardResetTimeout p s) :=
  next (pdTick (Subset.trans (by decide) hM) h (fun _ h' => ite (pdWith (Subset.trans (by decide) hM) h') (count (ccEnd hM h'))))

theorem execFrsSignal_leads {p} (hM : [.pdSt] ⊆ M) (h : was.KeepsBut M s) : was.LeadsBut M (execFrsSignal p s) :=
  next (pdTick hM h (fun _ h' => pdWith hM (setPe (pdSay hM h'))))

theorem execFrsVbusDrop_leads {p} (hM : [.freeCount, .arb, .u2pSt, .sspSt, .upLink, .vbsSt, .pdSt, .lheSt, .fifos, .graver] ⊆ M)
    (h : was.KeepsBut M s) : was.LeadsBut M (execFrsVbusDrop p s) :=
  next (pdTick (Subset.trans (by decide) hM) h (fun _ h' => bcDecide (Subset.trans (by decide) hM) (opDone (Subset.trans (by decide) hM)
    (raisePort (Subset.trans (by decide) hM) (setLimit (Subset.trans (by decide) hM) (put (put (put (put h')))))))))

theorem execConsoleModeAttempt_leads {p} (hM : [.vbsSt, .pdSt] ⊆ M) (h : was.KeepsBut M s) :
    was.LeadsBut M (execConsoleModeAttempt p s) :=
  next (pdTick (Subset.trans (by decide) hM) h (fun _ h' => startSinkTx hM (pdWith (Subset.trans (by decide) hM) h')))

theorem execVdmResponseTimeout_leads {p} (hM : [.vbsSt, .pdSt, .fifos] ⊆ M) (h : was.KeepsBut M s) :
    was.LeadsBut M (execVdmResponseTimeout p s) :=
  next (pdTick (Subset.trans (by decide) hM) h (fun _ h' => ite (ite (modeOver (Subset.trans (by decide) hM) h') (modeFail
    (Subset.trans (by decide) hM) h')) (ite (eprFail (Subset.trans (by decide) hM) h') (ite (cableTried hM h') h'))))

theorem cmdHardReset {p} (hM : [.freeCount, .arb, .u2pSt, .sspSt, .upLink, .vbsSt, .tcpSt, .pdSt, .conSt, .lheSt, .fifos, .graver] ⊆ M)
    (h : was.KeepsBut M s) : was.KeepsBut M (s.cmdHardReset p) :=
  hardReset hM (pdFresh (Subset.trans (by decide) hM) h)

theorem cmdSoftReset {p} (hM : [.arb, .vbsSt, .pdSt, .fifos] ⊆ M) (h : was.KeepsBut M s) : was.KeepsBut M (s.cmdSoftReset p) :=
  ite h (ite (startSinkTx (Subset.trans (by decide) hM) (put h)) (sendSoft (Subset.trans (by decide) hM) (pdFresh
    (Subset.trans (by decide) hM) h)))

theorem cmdSendCaps {p} (hM : [.vbsSt, .pdSt] ⊆ M) (h : was.KeepsBut M s) : was.KeepsBut M (s.cmdSendCaps p) :=
  pdKick hM (put h)

theorem cmdRediscover {p} (hM : [.pdSt] ⊆ M) (h : was.KeepsBut M s) : was.KeepsBut M (s.cmdRediscover p) :=
  ite (pdWith hM (put h)) h

theorem cmdExitMode {p} (hM : [.vbsSt, .tcpSt, .pdSt, .conSt, .fifos] ⊆ M) (h : was.KeepsBut M s) : was.KeepsBut M (s.cmdExitMode p) :=
  ite h (ite (pdKick (Subset.trans (by decide) hM) (put h)) (sendExit (Subset.trans (by decide) hM) (pdFresh (Subset.trans (by decide) hM)
    h)))

theorem pdDisable {p reason} (hM : [.freeCount, .arb, .u2pSt, .sspSt, .upLink, .vbsSt, .tcpSt, .pdSt, .conSt, .lheSt, .fifos, .graver] ⊆
    M) (h : was.KeepsBut M s) : was.KeepsBut M (s.pdDisable p reason) :=
  ite (ite (hardReset hM (pdFresh (Subset.trans (by decide) hM) h)) h) (setPe (pdOff (Subset.trans (by decide) hM) (modeExit
    (Subset.trans (by decide) hM) (ite (hardReset hM (pdFresh (Subset.trans (by decide) hM) h)) h))))

theorem pdEnChanged {p} (hM : [.freeCount, .arb, .u2pSt, .sspSt, .upLink, .vbsSt, .tcpSt, .pdSt, .conSt, .lheSt, .fifos, .graver] ⊆ M)
    (h : was.KeepsBut M s) : was.KeepsBut M (s.pdEnChanged p) :=
  ite (pdStart (Subset.trans (by decide) hM) h) (pdDisable hM h)

theorem swapsChanged {p} (hM : [.arb, .pdSt] ⊆ M) (h : was.KeepsBut M s) : was.KeepsBut M (s.swapsChanged p) :=
  ite h (frsAsk (Subset.trans (by decide) hM) (pdFresh (Subset.trans (by decide) hM) (reserveCheck hM (ite h (put (pdWith
    (Subset.trans (by decide) hM) h))))))

/-! ### The definitions of Machine/Pwe.lean -/

theorem withEntry {f} (hM : [.entry] ⊆ M) (h : was.KeepsBut M s) : was.KeepsBut M (s.withEntry f) :=
  set_entry hM h

theorem entryGatesOff (hM : [.entry] ⊆ M) (h : was.KeepsBut M s) : was.KeepsBut M s.entryGatesOff :=
  put (put (withEntry hM h))

theorem setFeedGate {fd on} (hM : [.entry] ⊆ M) (h : was.KeepsBut M s) : was.KeepsBut M (s.setFeedGate fd on) :=
  withEntry hM h

theorem toDebounce {why} (hM : [.entry] ⊆ M) (h : was.KeepsBut M s) : was.KeepsBut M (s.toDebounce why) :=
  withEntry hM (put (entryGatesOff hM h))

theorem toRamp (hM : [.entry] ⊆ M) (h : was.KeepsBut M s) : was.KeepsBut M s.toRamp :=
  setFeedGate hM (withEntry hM (put (put (put (ite (count h) h)))))

theorem senseNow (hM : [.freeCount] ⊆ M) (h : was.KeepsBut M s) : was.KeepsBut M s.senseNow.2 := by
  unfold State.senseNow
  repeat' first | split | (with_reducible first | assumption | apply free) | refine of_snd (by with_reducible assumption) ?_

theorem entryTrip {cause uv} (hM : [.entry, .fifos] ⊆ M) (h : was.KeepsBut M s) : was.KeepsBut M (s.entryTrip cause uv) :=
  ite (withEntry (Subset.trans (by decide) hM) (put (raise (Subset.trans (by decide) hM) (put (put (put (count (entryGatesOff
    (Subset.trans (by decide) hM) h)))))))) (raise (Subset.trans (by decide) hM) (put (raise (Subset.trans (by decide) hM) (put (put (put
    (count (entryGatesOff (Subset.trans (by decide) hM) h))))))))

theorem ilimFail {opn short} (hM : [.entry, .fifos] ⊆ M) (h : was.KeepsBut M s) : was.KeepsBut M (s.ilimFail opn short) :=
  raise (Subset.trans (by decide) hM) (ite (setFlag (setFlag (entryGatesOff (Subset.trans (by decide) hM) h))) (put (setFlag (setFlag
    (entryGatesOff (Subset.trans (by decide) hM) h)))))

theorem execEntryResetRelease_leads {prefB rIlim} (hM : [.entry, .fifos] ⊆ M) (h : was.KeepsBut M s) :
    was.LeadsBut M (execEntryResetRelease prefB rIlim s) :=
  next (ite h (ite (ilimFail hM (put (put (withEntry (Subset.trans (by decide) hM) h)))) (ite (ilimFail hM (put (put (withEntry
    (Subset.trans (by decide) hM) h)))) (put (put (withEntry (Subset.trans (by decide) hM) h))))))

theorem execEntryReset_leads (hM : [.bad, .entry, .fifos] ⊆ M) (h : was.KeepsBut M s) : was.LeadsBut M (execEntryReset s) :=
  next (setFifo (Subset.trans (by decide) hM) (dropParity (Subset.trans (by decide) hM) (clearRegs (withEntry
    (Subset.trans (by decide) hM) h))))

theorem execSeatingLoss_leads {pins} (hM : [.entry, .fifos] ⊆ M) (h : was.KeepsBut M s) : was.LeadsBut M (execSeatingLoss pins s) :=
  next (ite (raise (Subset.trans (by decide) hM) (ite (toDebounce (Subset.trans (by decide) hM) (count (withEntry
    (Subset.trans (by decide) hM) (put h)))) (count (withEntry (Subset.trans (by decide) hM) (put h))))) h)

theorem execSeatDbEnd_leads (hM : [.entry, .fifos] ⊆ M) (h : was.KeepsBut M s) : was.LeadsBut M (execSeatDbEnd s) :=
  next (ite (ite (withEntry (Subset.trans (by decide) hM) (raise (Subset.trans (by decide) hM) h)) (toRamp (Subset.trans (by decide) hM)
    (raise (Subset.trans (by decide) hM) h))) h)

theorem setFeed {fd good dv} (h : was.KeepsBut M s) : was.KeepsBut M (s.setFeed fd good dv) := by
  unfold State.setFeed
  repeat' first | (with_reducible first | assumption | apply put | apply setFlag) | split

theorem execFeedLoss_leads {fd count} (hM : [.entry, .fifos] ⊆ M) (h : was.KeepsBut M s) : was.LeadsBut M (execFeedLoss fd count s) :=
  next (ite (ite (withEntry (Subset.trans (by decide) hM) (put (setFeedGate (Subset.trans (by decide) hM) (raise
    (Subset.trans (by decide) hM) (setFeed h))))) (ite (toDebounce (Subset.trans (by decide) hM) (raise (Subset.trans (by decide) hM)
    (setFeed h))) (ite (raise (Subset.trans (by decide) hM) (setFeed h)) (withEntry (Subset.trans (by decide) hM) (raise
    (Subset.trans (by decide) hM) (setFeed h)))))) h)

theorem execFeedSwitch_leads (hM : [.entry, .fifos] ⊆ M) (h : was.KeepsBut M s) : was.LeadsBut M (execFeedSwitch s) := by
  unfold execFeedSwitch
  repeat' first
    | with_reducible first
      | assumption | exact Subset.trans (by decide) hM | apply next | apply put | apply count | apply raise | apply withEntry
      | apply setFeedGate
    | split

theorem execEntryScrub_leads {ups addr} (hM : [.bad, .fifos] ⊆ M) (h : was.KeepsBut M s) : was.LeadsBut M (execEntryScrub ups addr s) :=
  next (ite (ite (findParity hM (foldl (fun _ _ h' => upset (Subset.trans (by decide) hM) h') h)) (foldl (fun _ _ h' => upset
    (Subset.trans (by decide) hM) h') h)) h)

theorem ilimWritten (hM : [.freeCount, .entry, .fifos] ⊆ M) (h : was.KeepsBut M s) : was.KeepsBut M s.ilimWritten :=
  ite (entryTrip (Subset.trans (by decide) hM) (put (senseNow (Subset.trans (by decide) hM) h))) (ite (withEntry
    (Subset.trans (by decide) hM) (put (put (senseNow (Subset.trans (by decide) hM) h)))) (put (senseNow (Subset.trans (by decide) hM)
    h)))

/-! ### The definitions of Machine/Tt.lean -/

theorem ttError {p kind sp} (hM : [.fifos] ⊆ M) (h : was.KeepsBut M s) : was.KeepsBut M (s.ttError p kind sp) :=
  raisePort hM h

theorem ttFail {p kind sp} (hM : [.fifos] ⊆ M) (h : was.KeepsBut M s) : was.KeepsBut M (s.ttFail p kind sp) :=
  ttError hM (countErr h)

theorem startSplit {p own sp} (hM : [.answer, .u2pSt] ⊆ M) (h : was.KeepsBut M s) : was.KeepsBut M (s.startSplit p own sp) := by
  unfold State.startSplit
  repeat' first
    | with_reducible first
      | assumption | exact Subset.trans (by decide) hM | apply ite | apply reply | apply u2pWith | apply ttSync | apply countU2
    | split

theorem splitAt {hc n dev} (hM : [.answer] ⊆ M) (h0 : was.KeepsBut M s) (hf0 : ∀ x0 x1, was.KeepsBut M (dev x0 x1)) :
    was.KeepsBut M (s.splitAt hc n dev) :=
  ite (reply hM h0) (portRequest hM h0 (reply hM h0) hf0)

theorem execStartSplit_leads {hc n sp} (hM : [.answer, .u2pSt] ⊆ M) (h : was.KeepsBut M s) : was.LeadsBut M (execStartSplit hc n sp s) :=
  next (splitAt (Subset.trans (by decide) hM) h (fun _ _ => startSplit hM h))

theorem takeEntry {t0 per q more} (hM : [.u2pSt] ⊆ M) (h : was.KeepsBut M s) : was.KeepsBut M (s.takeEntry t0 per q more) :=
  ttSync (u2pWith hM h)

theorem completeSplit {p own sp} (hM : [.answer, .u2pSt, .fifos] ⊆ M) (h : was.KeepsBut M s) :
    was.KeepsBut M (s.completeSplit p own sp) := by
  unfold State.completeSplit
  dsimp only
  repeat' first
    | with_reducible first
      | assumption | exact Subset.trans (by decide) hM | apply reply | apply countU2 | apply ttFail | apply takeEntry
    | split

theorem execCompleteSplit_leads {hc n sp} (hM : [.answer, .u2pSt, .fifos] ⊆ M) (h : was.KeepsBut M s) :
    was.LeadsBut M (execCompleteSplit hc n sp s) :=
  next (splitAt (Subset.trans (by decide) hM) h (fun _ _ => completeSplit hM h))

theorem ttEnd {t0 per r} (hM : [.u2pSt] ⊆ M) (h : was.KeepsBut M s) : was.KeepsBut M (s.ttEnd t0 per r) :=
  ttSync (u2pWith hM h)

theorem ttBegin {t0} (hM : [.u2pSt] ⊆ M) (h : was.KeepsBut M s) : was.KeepsBut M (s.ttBegin t0) :=
  u2pWith hM h

theorem execTtStale_leads {at_ s0} (hM : [.u2pSt, .fifos] ⊆ M) (h : was.KeepsBut M s0) : was.LeadsBut M (execTtStale at_ s0) := by
  unfold execTtStale
  dsimp only
  repeat' first
    | with_reducible first
      | assumption | exact Subset.trans (by decide) hM | apply next | apply u2pWith | apply countErr | apply ttSync | apply ttError
      | apply ttBegin
    | split

theorem execClearTtBuffer_leads {hc n dev ep ty inDir} (hM : [.answer, .freeCount, .u2pSt] ⊆ M) (h : was.KeepsBut M s) :
    was.LeadsBut M (execClearTtBuffer hc n dev ep ty inDir s) :=
  next (portAct (Subset.trans (by decide) hM) h (reply (Subset.trans (by decide) hM) h) (fun _ _ _ h' => reply
    (Subset.trans (by decide) hM) (ttSync (u2pWith (Subset.trans (by decide) hM) h'))))

theorem execResetTt_leads {hc n} (hM : [.answer, .freeCount, .u2pSt] ⊆ M) (h : was.KeepsBut M s) : was.LeadsBut M (execResetTt hc n s) :=
  next (portAct (Subset.trans (by decide) hM) h (reply (Subset.trans (by decide) hM) h) (fun _ _ _ h' => reply
    (Subset.trans (by decide) hM) (ite (ttReset (Subset.trans (by decide) hM) h') h')))

theorem execStopTt_leads {hc n} (hM : [.answer, .freeCount, .u2pSt] ⊆ M) (h : was.KeepsBut M s) : was.LeadsBut M (execStopTt hc n s) :=
  next (portAct (Subset.trans (by decide) hM) h (reply (Subset.trans (by decide) hM) h) (fun _ _ _ h' => reply
    (Subset.trans (by decide) hM) (ite (put (ite (u2pWith (Subset.trans (by decide) hM) h') (u2pWith (Subset.trans (by decide) hM) h')))
    h')))

/-! ### The definitions of Machine/RegRead.lean -/

theorem semClaimBy {n i barred} (h : was.KeepsBut M s) : was.KeepsBut M (s.semClaimBy n i barred).2 := by
  unfold State.semClaimBy
  repeat' first | (with_reducible first | assumption | apply put) | split

theorem popNow {n w} (hM : [.mports, .ringSides, .queues] ⊆ M) (h : was.KeepsBut M s) (e : s.popNow n = some (w, t)) :
    was.KeepsBut M t := by
  unfold State.popNow at e
  split at e
  · obtain ⟨-, rfl⟩ := Prod.mk.inj (Option.some.inj e)
    exact latchWords (setQueue (Subset.trans (by decide) hM) h)
  · split at e
    · cases e
    · next hp =>
      obtain ⟨-, rfl⟩ := Prod.mk.inj (Option.some.inj e)
      exact latchWords (popRecord hM h hp)

theorem peekNow {n} (h : was.KeepsBut M s) : was.KeepsBut M (s.peekNow n).2 :=
  latchWords h

theorem epmWinRead (hM : [.freeCount, .bad] ⊆ M) (h : was.KeepsBut M s) : was.KeepsBut M s.epmWinRead.2 := by
  unfold State.epmWinRead
  dsimp -iota only
  repeat' first
    | split
    | with_reducible first
      | assumption | exact Subset.trans (by decide) hM | apply free | apply putRw
    | refine of_snd (by with_reducible assumption) ?_

theorem feedNow (hM : [.freeCount] ⊆ M) (h : was.KeepsBut M s) : was.KeepsBut M s.feedNow.2 :=
  free hM (free hM h)

theorem readBlock {i barred pg off} (hM : [.freeCount, .bad, .conSt] ⊆ M) (h : was.KeepsBut M s) :
    was.KeepsBut M (s.readBlock i barred pg off).2 := by
  unfold State.readBlock
  repeat' first
    | split
    | with_reducible first
      | assumption | exact Subset.trans (by decide) hM | apply free | apply conPop | apply bufRead | apply stageRead | apply winRead
      | apply senseNow | apply semClaimBy | apply peekNow | apply epmWinRead | apply feedNow
    | refine of_snd (by with_reducible assumption) ?_

/-! ### The definitions of Machine/Live.lean -/

theorem upRestart {u} (hM : [.freeCount, .arb, .u2pSt, .sspSt, .ssCtx, .upLink, .vbsSt, .tcpSt, .pdSt, .conSt, .mgfSt, .lheSt, .fifos,
    .graver] ⊆ M) (h : was.KeepsBut M s) : was.KeepsBut M (s.upRestart u) :=
  ite (setUpState (ite h (upGone hM h))) (ite h (upGone hM h))

theorem vbsHold {p cause} (hM : [.freeCount, .arb, .u2pSt, .sspSt, .upLink, .vbsSt, .tcpSt, .pdSt, .conSt, .lheSt, .fifos, .graver] ⊆ M)
    (h : was.KeepsBut M s) : was.KeepsBut M (s.vbsHold p cause) :=
  powerFails (Subset.trans (by decide) hM) (put (vbsOpen hM (endReserve (Subset.trans (by decide) hM) h)))

theorem pageOffNow {pg} (hM : [.freeCount, .arb, .u2pSt, .sspSt, .ssCtx, .upLink, .vbsSt, .tcpSt, .pdSt, .conSt, .mgfSt, .lheSt, .fifos,
    .graver, .dram, .grvBuffer, .dramMem] ⊆ M) (h : was.KeepsBut M s) : was.KeepsBut M (s.pageOffNow pg) := by
  unfold State.pageOffNow
  repeat' first
    | with_reducible first
      | assumption | exact Subset.trans (by decide) hM | apply u2Bar | apply ssEvalAs | apply ccDisable | apply lheStop | apply grvStop
      | apply upGone | apply vbsHold
    | split

theorem pageOnNow {pg} (hM : [.freeCount, .bad, .wear, .cfgOp, .arb, .u2pSt, .hubCtx, .sspSt, .upLink, .vbsSt, .tcpSt, .pdSt, .conSt,
    .presSt, .moveCause, .mgfSt, .lheSt, .fifos, .graver, .dram, .cpt, .grvTemplates, .grvBuffer, .dramMem] ⊆ M) (h : was.KeepsBut M s) :
    was.KeepsBut M (s.pageOnNow pg) := by
  unfold State.pageOnNow
  repeat' first
    | with_reducible first
      | assumption | exact Subset.trans (by decide) hM | apply u2Restart | apply ssEval | apply toRecovery | apply askAgain
      | apply conNext | apply setUpState | apply prsResume | apply attachDue | apply arbDecide | refine foldl (fun _ _ _ => ?_) ?_
    | split

theorem ctxRestart {hc} (hM : [.freeCount, .arb, .u2pSt, .hubCtx, .sspSt, .upLink, .vbsSt, .tcpSt, .pdSt, .conSt, .presSt, .lheSt,
    .fifos, .graver, .cpt] ⊆ M) (h : was.KeepsBut M s) : was.KeepsBut M (s.ctxRestart hc) :=
  ite (ctxResetOne hM h) (ite (hubWith (Subset.trans (by decide) hM) (ctxResetOne hM h)) h)

theorem blkRestart {pg} (hM : [.freeCount, .drcPend, .bad, .wear, .cfgOp, .arb, .u2pSt, .hubCtx, .sspSt, .ssCtx, .upLink, .vbsSt,
    .tcpSt, .pdSt, .conSt, .presSt, .moveCause, .mgfSt, .lheSt, .fifos, .epm, .graver, .dram, .cpt, .grvTemplates, .grvBuffer, .dramMem]
    ⊆ M) (h : was.KeepsBut M s) : was.KeepsBut M (s.blkRestart pg) := by
  unfold State.blkRestart
  repeat' first
    | with_reducible first
      | assumption | exact Subset.trans (by decide) hM | apply put | apply lheWith | apply u2Restart | apply ssDetect | apply vbsOpen
      | apply askTurnOn | apply recoverNow | apply conEmpty | apply fnReset | apply ssCtxResetOne | apply lheStop | apply grvClear
      | apply prsRestart | apply cptRestart | apply drcRestart | apply arbDecide | apply upRestart | apply ctxRestart
    | split

theorem ctrlWritten {s0 pg v} (hM : [.freeCount, .drcPend, .bad, .wear, .cfgOp, .arb, .u2pSt, .hubCtx, .sspSt, .ssCtx, .upLink, .vbsSt,
    .tcpSt, .pdSt, .conSt, .presSt, .moveCause, .mgfSt, .lheSt, .fifos, .epm, .graver, .dram, .cpt, .grvTemplates, .grvBuffer, .dramMem]
    ⊆ M) (h : was.KeepsBut M s) : was.KeepsBut M (State.ctrlWritten s0 s pg v) :=
  ite (put (put (blkRestart hM (ite h (ite (pageOnNow (Subset.trans (by decide) hM) h) (pageOffNow (Subset.trans (by decide) hM) h))))))
    (ite h (ite (pageOnNow (Subset.trans (by decide) hM) h) (pageOffNow (Subset.trans (by decide) hM) h)))

theorem plateMoved {k} (hM : [.freeCount, .bad, .arb, .u2pSt, .hubCtx, .sspSt, .ssCtx, .upLink, .vbsSt, .tcpSt, .pdSt, .conSt, .presSt,
    .moveCause, .mgfSt, .lheSt, .fifos, .graver, .dram, .cpt, .grvTemplates, .grvBuffer, .dramMem] ⊆ M) (h : was.KeepsBut M s) :
    was.KeepsBut M (s.plateMoved k) :=
  ite h (plateFollow hM h)

theorem portMoved {p} (hM : [.freeCount, .bad, .arb, .u2pSt, .hubCtx, .sspSt, .upLink, .vbsSt, .tcpSt, .pdSt, .conSt, .presSt,
    .moveCause, .mgfSt, .lheSt, .fifos, .graver, .dram, .grvTemplates, .grvBuffer, .dramMem] ⊆ M) (h : was.KeepsBut M s) :
    was.KeepsBut M (s.portMoved p) :=
  ite h (portFollow hM h)

theorem clkWritten {s0 off} (hM : Part.all ⊆ M) (h : was.KeepsBut M s) : was.KeepsBut M (State.clkWritten s0 s off) :=
  ite (graverFollow (Subset.trans (by decide) hM) (drcFollow (Subset.trans (by decide) hM) (foldl (fun _ _ h' => ite h' (ite (fclkStart
    (Subset.trans (by decide) hM) h') (fclkStop (Subset.trans (by decide) hM) h'))) h))) (ite (ite (coreReset
    (Subset.trans (by decide) hM) h) (drcFollow (Subset.trans (by decide) hM) (graverFollow (Subset.trans (by decide) hM) (foldl
    (fun _ _ h' => plateMoved (Subset.trans (by decide) hM) h') h)))) (ite (foldl (fun _ _ h' => portMoved (Subset.trans (by decide) hM)
    h') h) h))

theorem mgtWritten {s0 off ended} (hM : [.mports, .ringSides, .legacy, .fifos] ⊆ M) (h : was.KeepsBut M s) :
    was.KeepsBut M (State.mgtWritten s0 s off ended) :=
  ite (ite (raise (Subset.trans (by decide) hM) h) h) (ite (attnNotices (Subset.trans (by decide) hM) h) (ite (ite (set_legacy
    (Subset.trans (by decide) hM) h) h) (ite (ite (legCheck (Subset.trans (by decide) hM) (set_legacy (Subset.trans (by decide) hM) h)) h)
    h)))

theorem evqWritten {off v} (hM : [.mports, .ringSides, .queues] ⊆ M) (h : was.KeepsBut M s) : was.KeepsBut M (s.evqWritten off v) := by
  unfold State.evqWritten
  repeat' first | (with_reducible first | assumption | apply notePeak | apply flushQueue) | split

theorem cfgCommand {v parityErr} (hM : [.cfgOp, .arb, .fifos] ⊆ M) (h : was.KeepsBut M s) : was.KeepsBut M (s.cfgCommand v parityErr) :=
  ite h (ite (cmdCommit hM h) (ite (cmdFetchActive (Subset.trans (by decide) hM) h) (ite (cmdFetchOther (Subset.trans (by decide) hM) h)
    (setFault h))))

theorem bgtWritten {s0 off ended} (hM : [.freeCount, .wear, .cfgOp, .arb, .u2pSt, .sspSt, .upLink, .vbsSt, .tcpSt, .pdSt, .conSt,
    .lheSt, .fifos, .graver] ⊆ M) (h : was.KeepsBut M s) : was.KeepsBut M (State.bgtWritten s0 s off ended) := by
  unfold State.bgtWritten
  repeat' first
    | with_reducible first
      | assumption | exact Subset.trans (by decide) hM | apply revokePort | apply revokeHeld | apply poolFollow
    | split

theorem vbsWritten {s0 p off ended} (hM : [.freeCount, .arb, .u2pSt, .sspSt, .upLink, .vbsSt, .tcpSt, .pdSt, .conSt, .lheSt, .fifos,
    .graver] ⊆ M) (h : was.KeepsBut M s) : was.KeepsBut M (State.vbsWritten s0 s p off ended) :=
  ite (usbEval (Subset.trans (by decide) hM) (askAgain (Subset.trans (by decide) hM) (ite (ite (powerFails (Subset.trans (by decide) hM)
    (forceOffChanged hM h)) (forceOffChanged hM h)) h))) (ite (ite (powerFails (Subset.trans (by decide) hM) (forceOffChanged hM h))
    (forceOffChanged hM h)) h)

theorem ccWritten {s0 p off v ended} (hM : [.freeCount, .arb, .u2pSt, .sspSt, .upLink, .vbsSt, .tcpSt, .pdSt, .conSt, .lheSt, .fifos,
    .graver] ⊆ M) (h : was.KeepsBut M s) : was.KeepsBut M (State.ccWritten s0 s p off v ended) := by
  unfold State.ccWritten
  repeat' with_reducible first
    | assumption | exact Subset.trans (by decide) hM | apply ite | apply put | apply tcpWith | apply rpApply | apply unrouteBy
    | apply toRecovery | apply recoverNow

theorem pdCommand {p v} (hM : [.freeCount, .arb, .u2pSt, .sspSt, .upLink, .vbsSt, .tcpSt, .pdSt, .conSt, .lheSt, .fifos, .graver] ⊆ M)
    (h : was.KeepsBut M s) : was.KeepsBut M (s.pdCommand p v) :=
  ite (cmdHardReset hM h) (ite (cmdSoftReset (Subset.trans (by decide) hM) h) (ite (cmdSendCaps (Subset.trans (by decide) hM) h) (ite
    (cmdRediscover (Subset.trans (by decide) hM) h) (ite (cmdExitMode (Subset.trans (by decide) hM) h) h))))

theorem policyWritten {s0 p off} (hM : [.freeCount, .arb, .u2pSt, .sspSt, .upLink, .vbsSt, .tcpSt, .pdSt, .conSt, .lheSt, .fifos,
    .graver] ⊆ M) (h : was.KeepsBut M s) : was.KeepsBut M (State.policyWritten s0 s p off) := by
  unfold State.policyWritten
  repeat' with_reducible first
    | assumption | exact Subset.trans (by decide) hM | apply ite | apply offerCheck | apply pdKick | apply cmdExitMode | apply pdEnChanged
    | apply swapsChanged

theorem tcpWritten {s0 p off v ended} (hM : [.freeCount, .arb, .u2pSt, .sspSt, .upLink, .vbsSt, .tcpSt, .pdSt, .conSt, .lheSt, .fifos,
    .graver] ⊆ M) (h : was.KeepsBut M s) : was.KeepsBut M (State.tcpWritten s0 s p off v ended) :=
  ite (pdCommand hM h) (ite (policyWritten hM h) (ccWritten hM h))

theorem conWritten {s0 p off ended} (hM : [.freeCount, .conSt, .fifos] ⊆ M) (h : was.KeepsBut M s) :
    was.KeepsBut M (State.conWritten s0 s p off ended) :=
  ite (conRestore (Subset.trans (by decide) hM) (ite (conEmpty (Subset.trans (by decide) hM) (ite (conNext (Subset.trans (by decide) hM)
    h) h)) (ite (conNext (Subset.trans (by decide) hM) h) h))) (ite (conEmpty (Subset.trans (by decide) hM) (ite (conNext
    (Subset.trans (by decide) hM) h) h)) (ite (conNext (Subset.trans (by decide) hM) h) h))

theorem u2pWritten {s0 p off ended} (hM : [.u2pSt, .lheSt, .graver] ⊆ M) (h : was.KeepsBut M s) :
    was.KeepsBut M (State.u2pWritten s0 s p off ended) :=
  ite (u2Restart hM h) h

theorem sshMoved {s0 k} (hM : [.freeCount, .arb, .u2pSt, .sspSt, .ssCtx, .upLink, .vbsSt, .tcpSt, .pdSt, .conSt, .lheSt, .fifos,
    .graver] ⊆ M) (h : was.KeepsBut M s) : was.KeepsBut M (State.sshMoved s0 s k) := by
  unfold State.sshMoved
  repeat' with_reducible first
    | assumption | exact Subset.trans (by decide) hM | apply ite | apply ssHubWith | apply ssCtxResetOne
    | refine foldl (fun _ _ _ => ?_) ?_

theorem sspWritten {s0 f off v ended errors} (hM : [.freeCount, .sspSt, .upLink, .lheSt, .fifos, .graver] ⊆ M) (h : was.KeepsBut M s) :
    was.KeepsBut M (State.sspWritten s0 s f off v ended errors) := by
  unfold State.sspWritten
  repeat' with_reducible first
    | assumption | exact Subset.trans (by decide) hM | apply ite | apply setLink | apply ssDetect | apply ssEval | apply ssClearFallback
    | apply enterCompliance | apply enterLoop | apply exitTest | apply marginStart

theorem prsWritten {s0 off v ended} (hM : [.freeCount, .bad, .arb, .u2pSt, .hubCtx, .sspSt, .ssCtx, .upLink, .vbsSt, .tcpSt, .pdSt,
    .conSt, .presSt, .moveCause, .mgfSt, .lheSt, .fifos, .graver, .cpt] ⊆ M) (h : was.KeepsBut M s) :
    was.KeepsBut M (State.prsWritten s0 s off v ended) := by
  unfold State.prsWritten
  repeat' first
    | with_reducible first
      | assumption | exact Subset.trans (by decide) hM | apply ite | apply put | apply moveDecide | apply presRestart | apply failbackAll
      | apply foResume
    | split

theorem lheWritten {s0 p off} (hM : [.lheSt] ⊆ M) (h : was.KeepsBut M s) : was.KeepsBut M (State.lheWritten s0 s p off) :=
  ite (lheWith hM h) h

theorem grvWritten {s0 off} (hM : [.bad, .arb, .fifos, .graver, .dram, .grvBuffer, .dramMem] ⊆ M) (h : was.KeepsBut M s) :
    was.KeepsBut M (State.grvWritten s0 s off) :=
  ite (ite (ringRestart hM h) h) h

theorem drcWritten {s0 off v} (hM : [.freeCount, .drcPend, .bad, .arb, .mgfSt, .fifos, .epm, .dram, .dramMem] ⊆ M) (h : was.KeepsBut M s)
    : was.KeepsBut M (State.drcWritten s0 s off v) := by
  unfold State.drcWritten
  repeat' first
    | with_reducible first
      | assumption | exact Subset.trans (by decide) hM | apply wr | apply winStart | apply scrubRestart | apply drcRestart
    | split

theorem cptWritten {s0 off v ended} (hM : [.freeCount, .bad, .arb, .u2pSt, .hubCtx, .sspSt, .ssCtx, .upLink, .vbsSt, .tcpSt, .pdSt,
    .conSt, .presSt, .moveCause, .mgfSt, .lheSt, .fifos, .graver, .dram, .cpt, .grvTemplates, .grvBuffer, .dramMem] ⊆ M)
    (h : was.KeepsBut M s) : was.KeepsBut M (State.cptWritten s0 s off v ended) :=
  ite (instResets hM h) (ite (ite (foldl (fun _ _ h' => attachDue (Subset.trans (by decide) hM) h') (ite (cptCfgWritten hM h) h)) (ite
    (cptCfgWritten hM h) h)) h)

theorem safeAction {s0 pg off} (hM : [.freeCount, .bad, .mports, .ringSides, .arb, .u2pSt, .sspSt, .ssCtx, .upLink, .vbsSt, .tcpSt,
    .pdSt, .conSt, .lheSt, .fifos, .graver, .dram, .grvBuffer, .dramMem] ⊆ M) (h : was.KeepsBut M s) :
    was.KeepsBut M (State.safeAction s0 s pg off) := by
  unfold State.safeAction
  repeat' first
    | with_reducible first
      | assumption | exact Subset.trans (by decide) hM | apply put | apply attnNotices | apply u2Bar | apply ssEvalAs | apply usbEval
      | apply powerFails | apply endReserve | apply vbsOpen | apply ccDisable | apply conSafe | apply winSafe | apply lheStop
      | apply revokePort | apply pdDisable | apply sshMoved
    | split

theorem parityVisit {pg off} (hM : [.freeCount, .bad, .mports, .ringSides, .arb, .u2pSt, .sspSt, .ssCtx, .upLink, .vbsSt, .tcpSt, .pdSt,
    .conSt, .lheSt, .fifos, .graver, .dram, .grvBuffer, .dramMem] ⊆ M) (h : was.KeepsBut M s) : was.KeepsBut M (s.parityVisit pg off) :=
  ite (safeAction hM (findParity (Subset.trans (by decide) hM) h)) (findParity (Subset.trans (by decide) hM) h)

/-! ### The definitions of Machine/RegWrite.lean -/

theorem storeFields {pg off be v guarded} (hM : [.bad] ⊆ M) (h : was.KeepsBut M s) :
    was.KeepsBut M (s.storeFields pg off be v guarded).2 := by
  unfold State.storeFields
  repeat' first | (with_reducible first | assumption | apply wr | apply mendParity) | split

theorem semRelBy {n i} (h : was.KeepsBut M s) : was.KeepsBut M (s.semRelBy n i) :=
  ite (semFree h) (mgtErr h)

theorem semForced {v} (hM : [.fifos] ⊆ M) (h : was.KeepsBut M s) : was.KeepsBut M (s.semForced v) :=
  foldl (fun _ _ h' => ite (semFreeBy hM h') h') h

theorem glbWritten {i off v} (hM : [.fifos] ⊆ M) (h : was.KeepsBut M s) : was.KeepsBut M (s.glbWritten i off v) := by
  unfold State.glbWritten
  repeat' first | (with_reducible first | assumption | apply semRelBy | apply semForced) | split

theorem byteCountWritten {off v} (h : was.KeepsBut M s) : was.KeepsBut M (s.byteCountWritten off v) :=
  ite (wr (wr h)) h

theorem hltWritten {s0 off be v} (hM : [.freeCount, .bad, .arb, .u2pSt, .hubCtx, .sspSt, .ssCtx, .upLink, .vbsSt, .tcpSt, .pdSt, .conSt,
    .presSt, .moveCause, .mgfSt, .lheSt, .health, .fifos, .graver, .dram, .cpt, .grvTemplates, .grvBuffer, .dramMem] ⊆ M)
    (h : was.KeepsBut M s) : was.KeepsBut M (State.hltWritten s0 s off be v) :=
  ite (ite (peakClear h) h) (ite (quarByRelease (Subset.trans (by decide) hM) h) (ite (ite (quarByWrite (Subset.trans (by decide) hM) h)
    h) (ite (isoChanged hM h) (ite (ite (byteCountWritten h) h) h))))

theorem prodWritten {r be v} (hM : [.bad, .fifos] ⊆ M) (h : was.KeepsBut M s) : was.KeepsBut M (s.prodWritten r be v) :=
  ite (mendParity (Subset.trans (by decide) hM) (ringDoorbell (Subset.trans (by decide) hM) h)) (ringDoorbell
    (Subset.trans (by decide) hM) h)

theorem pageWritten {s0 i pg off be v ended parityErr errors} (hM : Part.all ⊆ M) (h : was.KeepsBut M s) :
    was.KeepsBut M (State.pageWritten s0 s i pg off be v ended parityErr errors) := by
  unfold State.pageWritten
  repeat' first
    | with_reducible first
      | assumption | exact Subset.trans (by decide) hM | apply conSend | apply bufWrite | apply stageWrite | apply u2hWritten
      | apply ilimWritten | apply upRestart | apply clkWritten | apply mgtWritten | apply evqWritten | apply cfgCommand | apply bgtWritten
      | apply vbsWritten | apply tcpWritten | apply conWritten | apply u2pWritten | apply sshMoved | apply sspWritten | apply prsWritten
      | apply lheWritten | apply grvWritten | apply drcWritten | apply cptWritten | apply glbWritten | apply hltWritten
      | apply prodWritten
    | split

theorem afterWrite {s0 i pg off be v ended parityErr errors} (hM : Part.all ⊆ M) (h : was.KeepsBut M s) :
    was.KeepsBut M (State.afterWrite s0 s i pg off be v ended parityErr errors) :=
  ite (ite h (ctrlWritten (Subset.trans (by decide) hM) h)) (ite (ite (clearParityFault (Subset.trans (by decide) hM) h) h) (ite h
    (pageWritten hM (ite (put h) h))))

theorem liveEntry {acc pg off lanes v} (hM : Part.all ⊆ M) (h : was.KeepsBut M acc.1) :
    was.KeepsBut M (State.liveEntry acc pg off lanes v).1 := by
  unfold State.liveEntry
  dsimp only
  repeat' first
    | split
    | with_reducible first
      | assumption | exact Subset.trans (by decide) hM | apply wr | apply mendParity | apply afterWrite

theorem livePolicy {acc p g o} (hM : Part.all ⊆ M) (h : was.KeepsBut M acc.1) : was.KeepsBut M (State.livePolicy acc p g o).1 := by
  unfold State.livePolicy
  repeat' first | (with_reducible first | assumption | apply liveEntry | refine foldl_fst (fun _ _ _ => ?_) ?_) | split

theorem liveList {acc g sec} (hM : Part.all ⊆ M) (h : was.KeepsBut M acc.1) : was.KeepsBut M (State.liveList acc g sec).1 := by
  unfold State.liveList
  dsimp only
  repeat' first | (with_reducible first | assumption | apply liveEntry | refine foldl_fst (fun _ _ _ => ?_) ?_) | split

theorem livePort {acc g secs tag p} (hM : Part.all ⊆ M) (h : was.KeepsBut M acc.1.1) :
    was.KeepsBut M (State.livePort acc g secs tag p).1.1 := by
  unfold State.livePort
  repeat' first | (with_reducible first | assumption | apply livePolicy | apply liveList | refine foldl_fst (fun _ _ _ => ?_) ?_) | split

theorem updApply {g secs} (hM : Part.all ⊆ M) (h : was.KeepsBut M s) : was.KeepsBut M (s.updApply g secs).1 := by
  unfold State.updApply
  dsimp only
  repeat' first
    | with_reducible first
      | assumption | exact Subset.trans (by decide) hM | apply presRestart | apply applyDesc | apply livePort
      | refine foldl (fun _ _ _ => ?_) ?_ | refine foldl_fst2 (fun _ _ _ => ?_) ?_
    | split

theorem updResult {res n} (h : was.KeepsBut M s) : was.KeepsBut M (s.updResult res n) :=
  put (put h)

theorem updGo (hM : Part.all ⊆ M) (h : was.KeepsBut M s) : was.KeepsBut M s.updGo := by
  unfold State.updGo
  repeat' first
    | split
    | with_reducible first
      | assumption | exact Subset.trans (by decide) hM | apply put | apply healthWith | apply updApply | apply updResult

theorem writeReg {i pg off be v guarded parityErr errors} (hM : Part.all ⊆ M) (h : was.KeepsBut M s) :
    was.KeepsBut M (s.writeReg i pg off be v guarded parityErr errors) := by
  unfold State.writeReg
  repeat' first
    | with_reducible first
      | assumption | exact Subset.trans (by decide) hM | apply ite | apply winWrite | apply storeFields | apply afterWrite | apply updGo
    | split

/-! ### The definitions of Machine/Access.lean -/

theorem setPair {i g} (hM : [.guards] ⊆ M) (h : was.KeepsBut M s) : was.KeepsBut M (s.setPair i g) :=
  h.change hM rfl fun p _ _ => by cases p <;> trivial

theorem breakPair {i} (hM : [.guards] ⊆ M) (h : was.KeepsBut M s) : was.KeepsBut M (s.breakPair i) := by
  unfold State.breakPair
  repeat' first | (with_reducible first | assumption | apply mgtErr | apply setPair) | split

theorem writeOwn {i pg off w broken parityErr errors} (hM : Part.all ⊆ M) (h : was.KeepsBut M s) :
    was.KeepsBut M (s.writeOwn i pg off w broken parityErr errors).2 := by
  unfold State.writeOwn
  repeat' first
    | with_reducible first
      | assumption | exact Subset.trans (by decide) hM | apply mgtErr | apply writeReg | apply setPair
    | split

theorem writeTaken {i pg off w parityErr errors} (hM : Part.all ⊆ M) (h : was.KeepsBut M s) :
    was.KeepsBut M (s.writeTaken i pg off w parityErr errors).2 := by
  unfold State.writeTaken
  repeat' first
    | with_reducible first
      | assumption | exact Subset.trans (by decide) hM | apply writeReg | apply setPair | apply breakPair | apply writeOwn
    | split

theorem readTaken {who pg off resumed w} (hM : Part.readParts ⊆ M) (h : was.KeepsBut M s)
    (e : s.readTaken who pg off resumed = some (w, t)) : was.KeepsBut M t := by
  unfold State.readTaken at e
  split at e
  · split at e
    · exact popNow (Subset.trans (by decide) hM) h e
    · split at e
      · cases e
      · next hp =>
        obtain ⟨-, rfl⟩ := Prod.mk.inj (Option.some.inj e)
        exact latchWords (popRecord (Subset.trans (by decide) hM) h hp)
  · obtain ⟨-, rfl⟩ := Prod.mk.inj (Option.some.inj e)
    have hblock := readBlock (i := s.identOf who) (barred := s.barred who) (pg := pg) (off := off) (Subset.trans (by decide) hM) h
    exact parityVisit (Subset.trans (by decide) hM) hblock

/-- A read that is lost breaks no pair. -/
theorem writeLost {i w} (hM : Part.runParts w.isSome ⊆ M) (h : was.KeepsBut M s) : was.KeepsBut M (s.writeLost i w) := by
  cases w with
  | none => exact h
  | some w => exact ite h (breakPair (Subset.trans (show _ ⊆ Part.all by decide) hM) h)

theorem accessBlock {who pg off w resumed parityErr errors res} (hM : Part.runParts w.isSome ⊆ M) (h : was.KeepsBut M s)
    (e : s.accessBlock who pg off w resumed parityErr errors = some (res, t)) : was.KeepsBut M t := by
  unfold State.accessBlock at e
  split at e
  · cases e
  split at e
  · obtain ⟨-, rfl⟩ := Prod.mk.inj (Option.some.inj e)
    exact writeLost hM h
  split at e
  · obtain ⟨-, rfl⟩ := Prod.mk.inj (Option.some.inj e)
    exact writeLost hM h
  cases w with
  | some w =>
    obtain ⟨-, rfl⟩ := Prod.mk.inj (Option.some.inj e)
    exact writeTaken hM h
  | none =>
    obtain ⟨r, hr, e⟩ := Option.map_eq_some_iff.1 e
    obtain ⟨-, rfl⟩ := Prod.mk.inj e
    exact readTaken hM h hr

theorem access {who addr w resumed parityErr errors res} (hM : Part.runParts w.isSome ⊆ M) (h : was.KeepsBut M s)
    (e : s.access who addr w resumed parityErr errors = some (res, t)) : was.KeepsBut M t := by
  unfold State.access at e
  cases w with
  | none =>
    rw [if_neg Bool.false_ne_true] at e
    dsimp only at e
    split at e
    · obtain ⟨-, rfl⟩ := Prod.mk.inj (Option.some.inj e)
      exact h
    · exact accessBlock hM h e
  | some w =>
    dsimp only at e
    split at e
    · obtain ⟨-, rfl⟩ := Prod.mk.inj (Option.some.inj e)
      exact mgtErr h
    split at e
    · split at e
      · obtain ⟨-, rfl⟩ := Prod.mk.inj (Option.some.inj e)
        exact h
      · obtain ⟨-, rfl⟩ := Prod.mk.inj (Option.some.inj e)
        exact breakPair (Subset.trans (show _ ⊆ Part.all by decide) hM) h
    · exact accessBlock hM h e

theorem loopErrors {r} (hM : [.freeCount] ⊆ M) (h : was.KeepsBut M s) : was.KeepsBut M (s.loopErrors r) := by
  unfold State.loopErrors
  repeat' first | (with_reducible first | assumption | apply countBy | apply free) | split

theorem runWord {r w resumed parityErr errors res} (hM : Part.runParts r.write ⊆ M) (h : was.KeepsBut M s)
    (e : s.runWord r w resumed parityErr errors = some (res, t)) : was.KeepsBut M t := by
  have hword : Part.runParts (if r.write then some w else none).isSome ⊆ M := by
    cases hw : r.write <;> rw [hw] at hM <;> exact hM
  have herrors := loopErrors (r := r) (Subset.trans (by decide) (Subset.trans (Part.readParts_subset_runParts r.write) hM)) h
  unfold State.runWord at e
  extract_lets s1 entry at e
  split at e
  · exact access hword herrors e
  · split at e
    · exact access hword herrors e
    · split at e
      · obtain ⟨-, rfl⟩ := Prod.mk.inj (Option.some.inj e)
        exact herrors
      · obtain ⟨-, rfl⟩ := Prod.mk.inj (Option.some.inj e)
        exact writeLost hword herrors

theorem runOn {parityErr errors ws resumed r} (hM : Part.runParts r.write ⊆ M) (h : was.KeepsBut M s) :
    was.KeepsBut M (State.runOn parityErr errors ws resumed r s).2 := by
  induction ws generalizing resumed r s with
  | nil => exact h
  | cons w ws ih =>
    unfold State.runOn
    cases hw : s.runWord r w resumed parityErr errors with
    | none => exact h
    | some q =>
      have hq := runWord hM h hw
      dsimp only
      split
      · exact hq
      · exact ih hM hq

/-- A run stays one of reads, or of writes. -/
theorem runOn_write {parityErr errors ws resumed r} : (State.runOn parityErr errors ws resumed r s).1.write = r.write := by
  induction ws generalizing resumed r s with
  | nil => rfl
  | cons w ws ih =>
    unfold State.runOn
    cases s.runWord r w resumed parityErr errors with
    | none => rfl
    | some q =>
      dsimp only
      split
      · rfl
      · exact ih

theorem drive {m resp} (hM : [.answer, .mports] ⊆ M) (h : was.KeepsBut M s) : was.KeepsBut M (s.drive m resp) :=
  reply (Subset.trans (by decide) hM) (mportWith (Subset.trans (by decide) hM) h)

theorem respond {m resp} (hM : [.answer, .mports] ⊆ M) (h : was.KeepsBut M s) : was.KeepsBut M (s.respond m resp) :=
  ite (reply (Subset.trans (by decide) hM) (mportWith (Subset.trans (by decide) hM) h)) (drive hM (mportWith (Subset.trans (by decide) hM)
    h))

theorem slotWith {m c f} (hM : [.ringSlots] ⊆ M) (h : was.KeepsBut M s) : was.KeepsBut M (s.slotWith m c f) :=
  h.change hM rfl fun p _ _ => by cases p <;> trivial

theorem finishRun {r} (hM : [.answer, .bad, .runs, .mports, .ringSlots, .ringSides, .legacy, .presSt, .mgfSt, .fifos, .queues,
    .grvTemplates] ⊆ M) (h : was.KeepsBut M s) : was.KeepsBut M (s.finishRun r) := by
  unfold State.finishRun
  repeat' first
    | with_reducible first
      | assumption | exact Subset.trans (by decide) hM | apply reply | apply vendorWords | apply mgtFollow | apply respond
      | apply slotWith
    | split

theorem setRuns {rs} (hM : [.runs] ⊆ M) (h : was.KeepsBut M s) : was.KeepsBut M (s.setRuns rs) :=
  h.change hM rfl fun p _ _ => by cases p <;> trivial

theorem settleRun {r} (hM : [.answer, .bad, .runs, .mports, .ringSlots, .ringSides, .legacy, .presSt, .mgfSt, .fifos, .queues,
    .grvTemplates] ⊆ M) (h : was.KeepsBut M s) : was.KeepsBut M (s.settleRun r) :=
  ite (reply (Subset.trans (by decide) hM) h) (ite (finishRun hM h) (reply (Subset.trans (by decide) hM) (setRuns
    (Subset.trans (by decide) hM) h)))

theorem popsWake {before r} (hM : [.u2pSt, .hubCtx, .upLink, .mgfSt, .fifos] ⊆ M) (h : was.KeepsBut M s) :
    was.KeepsBut M (s.popsWake before r) :=
  ite h (noticeWake hM h)

theorem startRun {r parityErr errors} (hM : Part.runParts r.write ⊆ M) (h : was.KeepsBut M s) :
    was.KeepsBut M (s.startRun r parityErr errors) := by
  have hread := Subset.trans (Part.readParts_subset_runParts r.write) hM
  exact popsWake (Subset.trans (by decide) hread) (settleRun (Subset.trans (by decide) hread) (runOn hM h))

theorem resumeRun {r} (hM : Part.all ⊆ M) (h : was.KeepsBut M s) : was.KeepsBut M (s.resumeRun r) := by
  unfold State.resumeRun
  repeat' first
    | with_reducible first
      | assumption | exact Subset.trans (by decide) hM | apply ite | apply reply | apply runOn | apply finishRun | apply setRuns
      | apply popsWake
    | exact List.Subset.trans Part.runParts_subset_all hM

theorem oneWith {who addr w parityErr errors} (hM : Part.runParts w.isSome ⊆ M) (h : was.KeepsBut M s) :
    was.KeepsBut M (s.oneWith who addr w parityErr errors) := by
  unfold State.oneWith
  exact ite (reply (Subset.trans (by decide) (Subset.trans (Part.readParts_subset_runParts _) hM)) h) (startRun hM h)

theorem readOne {who addr} (hM : Part.readParts ⊆ M) (h : was.KeepsBut M s) : was.KeepsBut M (s.readOne who addr) :=
  oneWith hM h

theorem writeOne {who addr be v} (hM : Part.all ⊆ M) (h : was.KeepsBut M s) : was.KeepsBut M (s.writeOne who addr be v) := by
  unfold State.writeOne
  repeat' first | (with_reducible first | assumption | apply oneWith) | exact List.Subset.trans Part.runParts_subset_all hM

theorem pairOne {who addr v} (hM : Part.all ⊆ M) (h : was.KeepsBut M s) : was.KeepsBut M (s.pairOne who addr v) :=
  writeOne hM (writeOne hM h)

/-! ### The definitions of Machine/Ring.lean -/

theorem frameErr {m status} (hM : [.answer, .mports] ⊆ M) (h : was.KeepsBut M s) : was.KeepsBut M (s.frameErr m status) :=
  drive hM (ite (mgtErr h) (ite (mgtErr h) h))

theorem crcErr {m} (hM : [.answer, .mports] ⊆ M) (h : was.KeepsBut M s) : was.KeepsBut M (s.crcErr m) :=
  drive hM (mgtErr (count h))

theorem unqueue {rq} (hM : [.ringSides] ⊆ M) (h : was.KeepsBut M s) : was.KeepsBut M (s.unqueue rq) :=
  foldl (fun _ _ h' => sideWith hM h') h

theorem frameGate {m ns early act} (hM : [.answer, .mports] ⊆ M) (h : was.KeepsBut M s)
    (hf0 : ∀ x0, was.KeepsBut M x0 → was.KeepsBut M (act x0)) : was.KeepsBut M (s.frameGate m ns early act) :=
  ite (reply (Subset.trans (by decide) hM) (mportWith (Subset.trans (by decide) hM) h)) (ite (crcErr hM (mportWith
    (Subset.trans (by decide) hM) h)) (ite (drive hM (mportWith (Subset.trans (by decide) hM) h)) (hf0 _ (mportWith
    (Subset.trans (by decide) hM) h))))

theorem frame {m hdr write fixed ws} (hM : Part.runParts write ⊆ M) (h : was.KeepsBut M s) :
    was.KeepsBut M (s.frame m hdr write fixed ws) := by
  have hread := Subset.trans (Part.readParts_subset_runParts write) hM
  unfold State.frame
  repeat' with_reducible first
    | assumption | exact Subset.trans (by decide) hread | apply ite | apply frameErr | apply startRun | apply mportWith | apply reply
    | apply ringSend

theorem execReadF_leads {m ns early} (hM : Part.readParts ⊆ M) (h : was.KeepsBut M s) : was.LeadsBut M (execReadF m ns early s) :=
  iteO (next (frameGate (Subset.trans (by decide) hM) h (fun _ h' => frame (Subset.trans (by decide) hM) h'))) fault

theorem execWriteF_leads {m hdr rest early} (hM : Part.all ⊆ M) (h : was.KeepsBut M s) : was.LeadsBut M (execWriteF m hdr rest early s) :=
  iteO (next (frameGate (Subset.trans (by decide) hM) h (fun _ h' => frame (Subset.trans (by decide) hM) h'))) fault

theorem execReadFixed_leads {m ns early} (hM : Part.readParts ⊆ M) (h : was.KeepsBut M s) : was.LeadsBut M (execReadFixed m ns early s) :=
  iteO (next (frameGate (Subset.trans (by decide) hM) h (fun _ h' => frame (Subset.trans (by decide) hM) h'))) fault

theorem execWriteFixed_leads {m hdr rest early} (hM : Part.all ⊆ M) (h : was.KeepsBut M s) :
    was.LeadsBut M (execWriteFixed m hdr rest early s) :=
  iteO (next (frameGate (Subset.trans (by decide) hM) h (fun _ h' => frame (Subset.trans (by decide) hM) h'))) fault

theorem execReplay_leads {m fr} (hM : [.answer, .mports] ⊆ M) (h : was.KeepsBut M s) : was.LeadsBut M (execReplay m fr s) := by
  unfold execReplay
  repeat' first
    | with_reducible first
      | intro _ | assumption | apply next | apply fault | apply drive | apply frameErr | apply frameGate
    | split

theorem execBadOpcode_leads {m ns early} (hM : [.answer, .mports] ⊆ M) (h : was.KeepsBut M s) :
    was.LeadsBut M (execBadOpcode m ns early s) :=
  iteO (next (frameGate hM h (fun _ h' => frameErr hM h'))) fault

theorem execCsNRise_leads {m moment} (hM : [.answer, .mports] ⊆ M) (h : was.KeepsBut M s) : was.LeadsBut M (execCsNRise m moment s) := by
  unfold execCsNRise
  repeat' first
    | with_reducible first
      | assumption | exact Subset.trans (by decide) hM | apply next | apply reply | apply mportWith
    | split

theorem abortErrs {m late withdrawn} (h : was.KeepsBut M s) : was.KeepsBut M (s.abortErrs m late withdrawn) :=
  ite (mgtErr (ite (mgtErr h) h)) (ite (mgtErr h) h)

theorem abortPop {r w} (hM : [.runs, .mports, .ringSides, .queues] ⊆ M) (h : was.KeepsBut M s) (e : s.abortPop r = some (w, t)) :
    was.KeepsBut M t := by
  unfold State.abortPop at e
  split at e
  · cases e
  · split at e
    · exact popNow (Subset.trans (by decide) hM) (setRuns (Subset.trans (by decide) hM) h) e
    · cases e

theorem abortWith {m r done left} (hM : [.answer, .bad, .runs, .mports, .ringSlots, .ringSides, .legacy, .presSt, .fifos, .queues,
    .grvTemplates] ⊆ M) (h : was.KeepsBut M s) : was.KeepsBut M (s.abortWith m r done left) :=
  reply (Subset.trans (by decide) hM) (mgtFollow (Subset.trans (by decide) hM) (abortErrs (mportWith (Subset.trans (by decide) hM) h)))

theorem abortRun {m r} (hM : [.answer, .bad, .runs, .mports, .ringSlots, .ringSides, .legacy, .presSt, .fifos, .queues, .grvTemplates] ⊆
    M) (h : was.KeepsBut M s) : was.KeepsBut M (s.abortRun m r) := by
  unfold State.abortRun
  split
  · exact abortWith (Subset.trans (by decide) hM) (setRuns (Subset.trans (by decide) hM) h)
  · next e => exact abortWith (Subset.trans (by decide) hM) (abortPop (Subset.trans (by decide) hM) h e)

theorem abortRemote {m w} (hM : [.answer, .mports, .ringSides] ⊆ M) (h : was.KeepsBut M s) : was.KeepsBut M (s.abortRemote m w) :=
  reply (Subset.trans (by decide) hM) (abortErrs (unqueue (Subset.trans (by decide) hM) (mportWith (Subset.trans (by decide) hM) h)))

theorem execPortAbort_leads {m} (hM : [.answer, .bad, .runs, .mports, .ringSlots, .ringSides, .legacy, .presSt, .fifos, .queues,
    .grvTemplates] ⊆ M) (h : was.KeepsBut M s) : was.LeadsBut M (execPortAbort m s) := by
  unfold execPortAbort
  repeat' first
    | with_reducible first
      | assumption | exact Subset.trans (by decide) hM | apply next | apply reply | apply mportWith | apply abortErrs | apply abortRun
      | apply abortRemote
    | split

theorem execRingResponse_leads {m seq busy status ws} (hM : [.answer, .mports, .ringSides] ⊆ M) (h : was.KeepsBut M s) :
    was.LeadsBut M (execRingResponse m seq busy status ws s) := by
  unfold execRingResponse
  repeat' first
    | with_reducible first
      | assumption | exact Subset.trans (by decide) hM | apply next | apply mportWith | apply respond | apply unqueue
    | split

theorem resend {m w} (hM : [.mports, .ringSides] ⊆ M) (h : was.KeepsBut M s) : was.KeepsBut M (s.resend m w) :=
  ringSend (Subset.trans (by decide) hM) (mportWith (Subset.trans (by decide) hM) (unqueue (Subset.trans (by decide) hM) h))

theorem ringGivesUp {m w} (hM : [.answer, .mports, .ringSides] ⊆ M) (h : was.KeepsBut M s) : was.KeepsBut M (s.ringGivesUp m w) :=
  respond (Subset.trans (by decide) hM) (mgtErr (unqueue (Subset.trans (by decide) hM) h))

theorem execRingRetry_leads {m} (hM : [.answer, .mports, .ringSides] ⊆ M) (h : was.KeepsBut M s) :
    was.LeadsBut M (execRingRetry m s) := by
  unfold execRingRetry
  repeat' first
    | with_reducible first
      | assumption | exact Subset.trans (by decide) hM | apply next | apply count | apply resend | apply ringGivesUp
    | split

theorem execRingBusyTimeout_leads {m} (hM : [.answer, .mports, .ringSides] ⊆ M) (h : was.KeepsBut M s) :
    was.LeadsBut M (execRingBusyTimeout m s) := by
  unfold execRingBusyTimeout
  repeat' first
    | with_reducible first
      | assumption | exact Subset.trans (by decide) hM | apply next | apply reply | apply mportWith | apply drive | apply unqueue
    | split

theorem ringReply {m c seq r} (hM : [.answer] ⊆ M) (h : was.KeepsBut M s) : was.KeepsBut M (s.ringReply m c seq r) := by
  unfold State.ringReply
  repeat' first | (with_reducible first | assumption | apply reply) | split

theorem slotPend {m c q} (hM : [.ringSlots] ⊆ M) (h : was.KeepsBut M s) : was.KeepsBut M (s.slotPend m c q) := by
  unfold State.slotPend
  repeat' first | (with_reducible first | assumption | apply slotWith) | split | with_reducible apply set_ringSlots

theorem ringRun {rq late} (hM : Part.all ⊆ M) (h : was.KeepsBut M s) : was.KeepsBut M (s.ringRun rq late) := by
  unfold State.ringRun
  repeat' first
    | with_reducible first
      | assumption | exact Subset.trans (by decide) hM | apply startRun | apply slotPend
    | exact List.Subset.trans Part.runParts_subset_all hM

theorem answerSlot {m c} (hM : [.answer, .bad, .runs, .mports, .ringSlots, .ringSides, .legacy, .presSt, .fifos, .queues, .grvTemplates]
    ⊆ M) (h : was.KeepsBut M s) : was.KeepsBut M (s.answerSlot m c) := by
  unfold State.answerSlot
  repeat' first
    | with_reducible first
      | assumption | exact Subset.trans (by decide) hM | apply mgtFollow | apply slotWith | apply ringReply
    | split

theorem ringTake {rq late} (hM : Part.all ⊆ M) (h : was.KeepsBut M s) : was.KeepsBut M (s.ringTake rq late) := by
  unfold State.ringTake
  repeat' first
    | with_reducible first
      | assumption | exact Subset.trans (by decide) hM | apply reply | apply slotWith | apply ringReply | apply ringRun | apply answerSlot
    | split

theorem attnDrop {members} (h : was.KeepsBut M s) : was.KeepsBut M (s.attnDrop members) :=
  put (put h)

theorem reroute (hM : [.fifos] ⊆ M) (h : was.KeepsBut M s) : was.KeepsBut M s.reroute :=
  ite (attnDrop (setFlag (put (foldl (fun _ _ h' => put h') h)))) (raise hM (attnDrop (setFlag (put (foldl (fun _ _ h' => put h') h)))))

theorem ringSync (h : was.KeepsBut M s) : was.KeepsBut M s.ringSync :=
  setFlag h

theorem queueRoster {side ro} (hM : [.ringSides] ⊆ M) (h : was.KeepsBut M s) : was.KeepsBut M (s.queueRoster side ro) :=
  ite h (queueOut hM (sideWith hM h))

theorem sendRosters (hM : [.ringSides] ⊆ M) (h : was.KeepsBut M s) : was.KeepsBut M s.sendRosters :=
  ite h (queueRoster hM (queueRoster hM h))

theorem execLinkUp_leads {side nb} (hM : [.ringSides, .fifos] ⊆ M) (h : was.KeepsBut M s) : was.LeadsBut M (execLinkUp side nb s) :=
  iteO (next h) (next (sendRosters (Subset.trans (by decide) hM) (raise (Subset.trans (by decide) hM) (ringSync (put (put (sideWith
    (Subset.trans (by decide) hM) h)))))))

theorem execLinkDown_leads {side} (hM : [.ringSides, .fifos] ⊆ M) (h : was.KeepsBut M s) : was.LeadsBut M (execLinkDown side s) :=
  iteO (next h) (next (sendRosters (Subset.trans (by decide) hM) (reroute (Subset.trans (by decide) hM) (raise
    (Subset.trans (by decide) hM) (ringSync (count (put (sideWith (Subset.trans (by decide) hM) h))))))))

theorem dropOwn (hM : [.ringSlots, .ringSides] ⊆ M) (h : was.KeepsBut M s) : was.KeepsBut M (s.dropOwn) :=
  h.change hM rfl fun p _ _ => by cases p <;> trivial

theorem execRoster_leads {side ro} (hM : [.ringSlots, .ringSides, .fifos] ⊆ M) (h : was.KeepsBut M s) :
    was.LeadsBut M (execRoster side ro s) :=
  iteO (next h) (iteO (next (queueRoster (Subset.trans (by decide) hM) (reroute (Subset.trans (by decide) hM) (sideWith
    (Subset.trans (by decide) hM) h)))) (iteO (next (reroute (Subset.trans (by decide) hM) (raise (Subset.trans (by decide) hM) (put
    (dropOwn (Subset.trans (by decide) hM) (sideWith (Subset.trans (by decide) hM) h)))))) (next (ite (reroute
    (Subset.trans (by decide) hM) (sideWith (Subset.trans (by decide) hM) h)) (sendRosters (Subset.trans (by decide) hM) (reroute
    (Subset.trans (by decide) hM) (sideWith (Subset.trans (by decide) hM) h)))))))

theorem execRingForward_leads {fr} (hM : [.answer] ⊆ M) (h : was.KeepsBut M s) : was.LeadsBut M (execRingForward fr s) := by
  unfold execRingForward
  repeat' first | (with_reducible first | assumption | apply next | apply reply) | split

/-! ### The definitions of Machine/HostExec.lean -/

theorem regReads {fi value index len late} (hM : Part.readParts ⊆ M) (h : was.KeepsBut M s) :
    was.KeepsBut M (s.regReads fi value index len late) :=
  vendor (Subset.trans (by decide) hM) h (reply (Subset.trans (by decide) hM) (startRun hM (vendorBegin (Subset.trans (by decide) hM) h)))

theorem regWrites {fi value index ents parityErr late} (hM : Part.all ⊆ M) (h : was.KeepsBut M s) :
    was.KeepsBut M (s.regWrites fi value index ents parityErr late) := by
  unfold State.regWrites
  repeat' first
    | with_reducible first
      | assumption | exact Subset.trans (by decide) hM | apply ite | apply reply | apply mgfWith | apply epmPut | apply epmError
      | apply fnStall | apply vendor | apply vendorBegin | apply startRun
    | exact List.Subset.trans Part.runParts_subset_all hM

theorem execAccessTimeout_leads {late place wr} (hM : Part.all ⊆ M) (h : was.KeepsBut M s) :
    was.LeadsBut M (execAccessTimeout late place wr s) := by
  unfold execAccessTimeout
  repeat' first
    | with_reducible first
      | assumption | exact Subset.trans (by decide) hM | apply next | apply fault | apply reply | apply ringTake | apply regReads
      | apply regWrites
    | split

/-! ### The definitions of Machine/RegRows.lean -/

theorem pairField {who pg f v} (hM : Part.all ⊆ M) (h : was.KeepsBut M s) : was.KeepsBut M (s.pairField who pg f v) :=
  pairOne hM h

theorem writeField {who pg f v} (hM : Part.all ⊆ M) (h : was.KeepsBut M s) : was.KeepsBut M (s.writeField who pg f v) :=
  writeOne hM h

theorem upsetAt {addr flips} (hM : Part.all ⊆ M) (h : was.KeepsBut M s) : was.KeepsBut M (s.upsetAt addr flips) := by
  unfold State.upsetAt
  repeat' first
    | with_reducible first
      | assumption | exact Subset.trans (by decide) hM | apply ite | apply upset | apply afterWrite
    | split

theorem execParityScrub_leads {ups addr} (hM : Part.all ⊆ M) (h : was.KeepsBut M s) : was.LeadsBut M (execParityScrub ups addr s) := by
  unfold execParityScrub
  repeat' first
    | with_reducible first
      | assumption | exact Subset.trans (by decide) hM | apply next | apply parityVisit | apply upsetAt
      | refine foldl (fun _ _ _ => ?_) ?_
    | split

theorem execPopComplete_leads {q} (hM : Part.all ⊆ M) (h : was.KeepsBut M s) : was.LeadsBut M (execPopComplete q s) := by
  unfold execPopComplete
  repeat' first | (with_reducible first | assumption | apply next | apply resumeRun) | split

theorem popGivesUp {r q} (hM : Part.all ⊆ M) (h : was.KeepsBut M s) : was.KeepsBut M (s.popGivesUp r q) := by
  unfold State.popGivesUp
  repeat' first
    | with_reducible first
      | assumption | exact Subset.trans (by decide) hM | apply ite | apply runOn | apply setRuns | apply settleRun | apply resumeRun
    | exact List.Subset.trans Part.runParts_subset_all hM

theorem execEvqPopTimeout_leads {who} (hM : Part.all ⊆ M) (h : was.KeepsBut M s) : was.LeadsBut M (execEvqPopTimeout who s) := by
  unfold execEvqPopTimeout
  repeat' first | (with_reducible first | assumption | apply next | apply popGivesUp) | split

theorem execEventRoute_leads (hM : [.mports, .ringSides, .routePtr, .u2pSt, .hubCtx, .upLink, .mgfSt, .fifos, .queues] ⊆ M)
    (h : was.KeepsBut M s) : was.LeadsBut M (execEventRoute s) :=
  next (ite (noticeWake (Subset.trans (by decide) hM) (routeOne (Subset.trans (by decide) hM) h)) h)

theorem execMaxGenWrite_leads {who lk v} (hM : Part.all ⊆ M) (h : was.KeepsBut M s) : was.LeadsBut M (execMaxGenWrite who lk v s) := by
  unfold execMaxGenWrite
  repeat' first | (with_reducible first | assumption | apply next | apply writeField) | split

theorem goWith {who kinds} (hM : Part.all ⊆ M) (h : was.KeepsBut M s) : was.KeepsBut M (s.goWith who kinds) :=
  ite (writeOne hM h) h

theorem execUpdateEnd_leads (hM : [.health] ⊆ M) (h : was.KeepsBut M s) : was.LeadsBut M (execUpdateEnd s) := by
  unfold execUpdateEnd
  repeat' first
    | with_reducible first
      | assumption | exact Subset.trans (by decide) hM | apply next | apply put | apply healthWith | apply updResult
    | split

/-! ### The commands -/

/-- Every command's meaning keeps what `touches` does not list: each arm is the lemma about its operation. -/
theorem exec_leads (c : Instr) (s : State) : s.LeadsBut (touches c) (exec c s) := match c with
  | .supplyMonitorTrip => next (coreReset (.refl _) (.refl s))
  | .coreResetRelease .. => iteO (next (coreRelease (Part.subset_of_all rfl) (latchStraps (.refl s)))) (next (.refl s))
  | .corereset => next (coreReset (.refl _) (.refl s))
  | .coreRst .. => next (pairField Part.all_subset (.refl s))
  | .plateRst .. => next (pairField Part.all_subset (.refl s))
  | .graverRst .. => next (pairField Part.all_subset (.refl s))
  | .drcRst .. => next (pairField Part.all_subset (.refl s))
  | .mgtRst .. => next (pairField Part.all_subset (.refl s))
  | .dclkRun .. => next (pairField Part.all_subset (.refl s))
  | .gclkRun .. => next (pairField Part.all_subset (.refl s))
  | .fclkPlateRun .. => next (pairField Part.all_subset (.refl s))
  | .portRst .. => next (writeOne Part.all_subset (.refl s))
  | .selfRefreshEntry => execSelfRefreshEntry_leads (Part.subset_of_all rfl) (.refl s)
  | .rootUnlock => iteO (next (.refl s)) (next (wr (coreReset (.refl _) (.refl s))))
  | .rootLock => execRootLock_leads (Part.subset_of_all rfl) (.refl s)
  | .laneUnlock .. => execLaneUnlock_leads (Part.subset_of_all rfl) (.refl s)
  | .laneRelock .. => execLaneRelock_leads (Part.subset_of_all rfl) (.refl s)
  | .guardFirstWrite .. => next (writeOne Part.all_subset (.refl s))
  | .guardComplementWrite .. => next (writeOne Part.all_subset (.refl s))
  | .guardExpire .. => next (breakPair (Part.subset_of_all rfl) (.refl s))
  | .parityScrub .. => execParityScrub_leads Part.all_subset (.refl s)
  | .pageEnWrite .. => next (ite (writeOne Part.all_subset (.refl s)) (.refl s))
  | .blkRst .. => next (ite (writeOne Part.all_subset (.refl s)) (.refl s))
  | .restartComplete .. => next (ite (put (put (.refl s))) (.refl s))
  | .portAbort .. => execPortAbort_leads (Part.subset_of_all rfl) (.refl s)
  | .accessTimeout .. => execAccessTimeout_leads Part.all_subset (.refl s)
  | .registerWrite .. => next (writeOne Part.all_subset (.refl s))
  | .readF .. => execReadF_leads (Part.subset_of_all rfl) (.refl s)
  | .writeF .. => execWriteF_leads Part.all_subset (.refl s)
  | .readFixed .. => execReadFixed_leads (Part.subset_of_all rfl) (.refl s)
  | .writeFixed .. => execWriteFixed_leads Part.all_subset (.refl s)
  | .replay .. => execReplay_leads (Part.subset_of_all rfl) (.refl s)
  | .badOpcode .. => execBadOpcode_leads (Part.subset_of_all rfl) (.refl s)
  | .csNRise .. => execCsNRise_leads (Part.subset_of_all rfl) (.refl s)
  | .mgtReady => next (ite (put (.refl s)) (.refl s))
  | .attentionNotice .. => iteO (next (.refl s)) (next (setAttn (.refl s)))
  | .semClaim .. => next (readOne (Part.subset_of_all rfl) (.refl s))
  | .semRelease .. => next (writeOne Part.all_subset (.refl s))
  | .semForce .. => next (pairOne Part.all_subset (.refl s))
  | .semOrphanEnd .. => iteO (next (.refl s)) (next (semOrphan (Part.subset_of_all rfl) (.refl s)))
  | .hostGrantChange .. => next (pairOne Part.all_subset (.refl s))
  | .legAddress .. => execLegAddress_leads (Part.subset_of_all rfl) (.refl s)
  | .legWriteByte .. => execLegWriteByte_leads (Part.subset_of_all rfl) (.refl s)
  | .legReadByte => execLegReadByte_leads (Part.subset_of_all rfl) (.refl s)
  | .legSclTimeout => iteO (next (.refl s)) (next (count (set_legacy (Part.subset_of_all rfl) (.refl s))))
  | .linkUp .. => execLinkUp_leads (Part.subset_of_all rfl) (.refl s)
  | .miswire .. => iteO (next (.refl s)) (next (raise (Part.subset_of_all rfl) (put (.refl s))))
  | .linkDown .. => execLinkDown_leads (Part.subset_of_all rfl) (.refl s)
  | .roster .. => execRoster_leads (Part.subset_of_all rfl) (.refl s)
  | .ringForward .. => execRingForward_leads (Part.subset_of_all rfl) (.refl s)
  | .ringRequest .. => iteO (next (ringTake Part.all_subset (.refl s))) fault
  | .ringResponse .. => execRingResponse_leads (Part.subset_of_all rfl) (.refl s)
  | .ringRetry .. => execRingRetry_leads (Part.subset_of_all rfl) (.refl s)
  | .ringBusyTimeout .. => execRingBusyTimeout_leads (Part.subset_of_all rfl) (.refl s)
  | .eventRoute => execEventRoute_leads (Part.subset_of_all rfl) (.refl s)
  | .evqPop .. => next (readOne (Part.subset_of_all rfl) (.refl s))
  | .popComplete .. => execPopComplete_leads Part.all_subset (.refl s)
  | .evqPopTimeout .. => execEvqPopTimeout_leads Part.all_subset (.refl s)
  | .evqPeek .. => next (readOne (Part.subset_of_all rfl) (.refl s))
  | .flush .. => next (writeOne Part.all_subset (.refl s))
  | .uptimeAlign => next (ite (alignUptime (Part.subset_of_all rfl) (.refl s)) (.refl s))
  | .entryResetRelease .. => execEntryResetRelease_leads (Part.subset_of_all rfl) (.refl s)
  | .entryReset => execEntryReset_leads (Part.subset_of_all rfl) (.refl s)
  | .loadComplete => execLoadComplete_leads (Part.subset_of_all rfl) (.refl s)
  | .pacingDoneTimeout => iteO (next (.refl s)) (next (put (arbWith (Part.subset_of_all rfl) (.refl s))))
  | .stageWrite .. => next (writeOne Part.all_subset (.refl s))
  | .stageRead .. => next (readOne (Part.subset_of_all rfl) (.refl s))
  | .commit .. => next (oneWith Part.all_subset (.refl s))
  | .commitLeaveTimeout => execCommitLeaveTimeout_leads (Part.subset_of_all rfl) (.refl s)
  | .commitWriteEnd .. => next (commitEnd (Part.subset_of_all rfl) (.refl s))
  | .fetchActive .. => next (writeOne Part.all_subset (.refl s))
  | .fetchOther .. => next (writeOne Part.all_subset (.refl s))
  | .fetchEnd => next (fetchDone (Part.subset_of_all rfl) (.refl s))
  | .seatingLoss .. => execSeatingLoss_leads (Part.subset_of_all rfl) (.refl s)
  | .seatDbEnd => execSeatDbEnd_leads (Part.subset_of_all rfl) (.refl s)
  | .rampEnd => next (ite (put (put (.refl s))) (.refl s))
  | .entryFastTrip .. => next (ite (entryTrip (Part.subset_of_all rfl) (.refl s)) (.refl s))
  | .faultTimeEnd .. => next (ite (entryTrip (Part.subset_of_all rfl) (.refl s)) (.refl s))
  | .rampMaxEnd .. => next (ite (entryTrip (Part.subset_of_all rfl) (.refl s)) (.refl s))
  | .entryLimit .. => next (ite (withEntry (Part.subset_of_all rfl) (put (setFlag (.refl s)))) (.refl s))
  | .entryRetryEnd => next (ite (ite (toRamp (Part.subset_of_all rfl) (.refl s)) (withEntry (Part.subset_of_all rfl) (.refl s)))
      (.refl s))
  | .entryConsecClear => next (ite (withEntry (Part.subset_of_all rfl) (put (.refl s))) (.refl s))
  | .ilimCheck .. => next (ite (ite (ilimFail (Part.subset_of_all rfl) (.refl s)) (ite (ilimFail (Part.subset_of_all rfl) (.refl s))
      (.refl s))) (.refl s))
  | .feedLoss .. => execFeedLoss_leads (Part.subset_of_all rfl) (.refl s)
  | .feedSwitch => execFeedSwitch_leads (Part.subset_of_all rfl) (.refl s)
  | .feedGood .. => next (ite (setFeed (.refl s)) (.refl s))
  | .feedReturn => next (ite (withEntry (Part.subset_of_all rfl) (put (setFeedGate (Part.subset_of_all rfl) (.refl s)))) (.refl s))
  | .entryScrub .. => execEntryScrub_leads (Part.subset_of_all rfl) (.refl s)
  | .leaveRequest .. => iteO (next (.refl s)) (next (arbDecide (Part.subset_of_all rfl) (deliver (Part.subset_of_all rfl) (.refl s))))
  | .leaveDone .. => iteO (next (.refl s)) (next (arbDecide (Part.subset_of_all rfl) (arbWith (Part.subset_of_all rfl) (.refl s))))
  | .leaveWithdraw .. => execLeaveWithdraw_leads (Part.subset_of_all rfl) (.refl s)
  | .dieWindow => iteO (next (.refl s)) (next (arbDecide (Part.subset_of_all rfl) (put (.refl s))))
  | .pacingGapEnd => iteO (next (.refl s)) (next (arbDecide (Part.subset_of_all rfl) (arbWith (Part.subset_of_all rfl) (.refl s))))
  | .feedGoodnessChange .. => execFeedGoodnessChange_leads (Part.subset_of_all rfl) (.refl s)
  | .growDelayEnd => execGrowDelayEnd_leads (Part.subset_of_all rfl) (.refl s)
  | .growth => execGrowth_leads (Part.subset_of_all rfl) (.refl s)
  | .revokeTimeEnd .. => execRevokeTimeEnd_leads (Part.subset_of_all rfl) (.refl s)
  | .revokeSuccess .. => execRevokeSuccess_leads (Part.subset_of_all rfl) (.refl s)
  | .poolWrite .. => next (writeOne Part.all_subset (.refl s))
  | .targetWrite .. => next (writeOne Part.all_subset (.refl s))
  | .adcSample .. => next (ite (adcSample (Part.subset_of_all rfl) (.refl s)) (.refl s))
  | .settleEnd .. => next (ite (checkClose (Part.subset_of_all rfl) (.refl s)) (.refl s))
  | .closeMaxEnd .. => next (ite (trip (Part.subset_of_all rfl) (.refl s)) (.refl s))
  | .dischargeEnd .. => execDischargeEnd_leads (Part.subset_of_all rfl) (.refl s)
  | .dschMaxEnd .. => execDschMaxEnd_leads (Part.subset_of_all rfl) (.refl s)
  | .portFastTrip .. => next (ite (trip (Part.subset_of_all rfl) (put (.refl s))) (.refl s))
  | .slowTimeEnd .. => next (ite (trip (Part.subset_of_all rfl) (.refl s)) (.refl s))
  | .retryIntEnd .. => execRetryIntEnd_leads (Part.subset_of_all rfl) (.refl s)
  | .portConsecClear .. => next (ite (vbsWith (Part.subset_of_all rfl) (put (.refl s))) (.refl s))
  | .forceOff .. => next (writeField Part.all_subset (.refl s))
  | .ccClassify .. => execCcClassify_leads (Part.subset_of_all rfl) (.refl s)
  | .attach .. => execAttach_leads (Part.subset_of_all rfl) (.refl s)
  | .detach .. => execDetach_leads (Part.subset_of_all rfl) (.refl s)
  | .drpToggle .. => execDrpToggle_leads (Part.subset_of_all rfl) (.refl s)
  | .trySrcSuccess .. => execTrySrcSuccess_leads (Part.subset_of_all rfl) (.refl s)
  | .trySrcTimeout .. => next (ite (rpApply (Part.subset_of_all rfl) (put (.refl s))) (.refl s))
  | .tryTimeout .. => execTryTimeout_leads (Part.subset_of_all rfl) (.refl s)
  | .sinkAttach .. => execSinkAttach_leads (Part.subset_of_all rfl) (.refl s)
  | .sinkDetach .. => next (ite (count (ccEnd (Part.subset_of_all rfl) (.refl s))) (.refl s))
  | .errorRecoveryEnd .. => next (ite (toUnattached (Part.subset_of_all rfl) (.refl s)) (.refl s))
  | .recover .. => next (writeOne Part.all_subset (.refl s))
  | .vconnTrip .. => execVconnTrip_leads (Part.subset_of_all rfl) (.refl s)
  | .conRxByte .. => execConRxByte_leads (Part.subset_of_all rfl) (.refl s)
  | .conRxdataRead .. => next (readOne (Part.subset_of_all rfl) (.refl s))
  | .conTxdataWrite .. => next (writeOne Part.all_subset (.refl s))
  | .conTxDone .. => next (ite (conNext (Part.subset_of_all rfl) (.refl s)) (.refl s))
  | .upstreamAttach .. => iteO (next (.refl s)) (next (put (put (put (setFlag (put (.refl s)))))))
  | .upstreamDetach .. => execUpstreamDetach_leads (Part.subset_of_all rfl) (.refl s)
  | .sourceCapabilities .. => execSourceCapabilities_leads (Part.subset_of_all rfl) (.refl s)
  | .request .. => execRequest_leads (Part.subset_of_all rfl) (.refl s)
  | .getSourceCap .. => execGetSourceCap_leads (Part.subset_of_all rfl) (.refl s)
  | .getSinkCap .. => execGetSinkCap_leads (Part.subset_of_all rfl) (.refl s)
  | .eprGetSourceCap .. => execEprGetSourceCap_leads (Part.subset_of_all rfl) (.refl s)
  | .prSwap .. => execPrSwap_leads (Part.subset_of_all rfl) (.refl s)
  | .drSwap .. => execDrSwap_leads (Part.subset_of_all rfl) (.refl s)
  | .vconnSwap .. => execVconnSwap_leads (Part.subset_of_all rfl) (.refl s)
  | .frSwap .. => execFrSwap_leads (Part.subset_of_all rfl) (.refl s)
  | .softReset .. => execSoftReset_leads (Part.subset_of_all rfl) (.refl s)
  | .hardReset .. => execHardReset_leads (Part.subset_of_all rfl) (.refl s)
  | .getStatus .. => execGetStatus_leads (Part.subset_of_all rfl) (.refl s)
  | .getPpsStatus .. => execGetPpsStatus_leads (Part.subset_of_all rfl) (.refl s)
  | .getSourceCapExtended .. => execGetSourceCapExtended_leads (Part.subset_of_all rfl) (.refl s)
  | .getSourceInfo .. => execGetSourceInfo_leads (Part.subset_of_all rfl) (.refl s)
  | .getRevision .. => execGetRevision_leads (Part.subset_of_all rfl) (.refl s)
  | .getManufacturerInfo .. => execGetManufacturerInfo_leads (Part.subset_of_all rfl) (.refl s)
  | .eprMode .. => execEprMode_leads (Part.subset_of_all rfl) (.refl s)
  | .eprKeepalive .. => execEprKeepalive_leads (Part.subset_of_all rfl) (.refl s)
  | .vendorDefined .. => execVendorDefined_leads (Part.subset_of_all rfl) (.refl s)
  | .pingMsg .. => execPingMsg_leads (Part.subset_of_all rfl) (.refl s)
  | .alertMsg .. => execAlertMsg_leads (Part.subset_of_all rfl) (.refl s)
  | .bist .. => execBist_leads (Part.subset_of_all rfl) (.refl s)
  | .unsupportedMessage .. => execUnsupportedMessage_leads (Part.subset_of_all rfl) (.refl s)
  | .accept .. => execAccept_leads (Part.subset_of_all rfl) (.refl s)
  | .reject .. => execReject_leads (Part.subset_of_all rfl) (.refl s)
  | .waitMsg .. => execWaitMsg_leads (Part.subset_of_all rfl) (.refl s)
  | .psRdy .. => execPsRdy_leads (Part.subset_of_all rfl) (.refl s)
  | .goodcrc .. => execGoodcrc_leads (Part.subset_of_all rfl) (.refl s)
  | .goodcrcTimeout .. => execGoodcrcTimeout_leads (Part.subset_of_all rfl) (.refl s)
  | .srcStartupEnd .. => execSrcStartupEnd_leads (Part.subset_of_all rfl) (.refl s)
  | .sourceCapResend .. => execSourceCapResend_leads (Part.subset_of_all rfl) (.refl s)
  | .senderResponseTimeout .. => execSenderResponseTimeout_leads (Part.subset_of_all rfl) (.refl s)
  | .transitionStart .. => execTransitionStart_leads (Part.subset_of_all rfl) (.refl s)
  | .transLimitEnd .. => execTransLimitEnd_leads (Part.subset_of_all rfl) (.refl s)
  | .waitTimerEnd .. => execWaitTimerEnd_leads (Part.subset_of_all rfl) (.refl s)
  | .leaveHoldEnd .. => execLeaveHoldEnd_leads (Part.subset_of_all rfl) (.refl s)
  | .ppsTimeout .. => execPpsTimeout_leads (Part.subset_of_all rfl) (.refl s)
  | .eprKeepaliveTimeout .. => execEprKeepaliveTimeout_leads (Part.subset_of_all rfl) (.refl s)
  | .sinkTxEnd .. => execSinkTxEnd_leads (Part.subset_of_all rfl) (.refl s)
  | .capsMergeEnd .. => execCapsMergeEnd_leads (Part.subset_of_all rfl) (.refl s)
  | .discoverIdentityAttempt .. => execDiscoverIdentityAttempt_leads (Part.subset_of_all rfl) (.refl s)
  | .revokeNoRequest .. => execRevokeNoRequest_leads (Part.subset_of_all rfl) (.refl s)
  | .hardResetPowerOff .. => execHardResetPowerOff_leads (Part.subset_of_all rfl) (.refl s)
  | .srcRecoverEnd .. => execSrcRecoverEnd_leads (Part.subset_of_all rfl) (.refl s)
  | .sinkWaitCapTimeout .. => execSinkWaitCapTimeout_leads (Part.subset_of_all rfl) (.refl s)
  | .swapAttempt .. => execSwapAttempt_leads (Part.subset_of_all rfl) (.refl s)
  | .sinkHardResetTimeout .. => execSinkHardResetTimeout_leads (Part.subset_of_all rfl) (.refl s)
  | .frsSignal .. => execFrsSignal_leads (Part.subset_of_all rfl) (.refl s)
  | .frsVbusDrop .. => execFrsVbusDrop_leads (Part.subset_of_all rfl) (.refl s)
  | .consoleModeAttempt .. => execConsoleModeAttempt_leads (Part.subset_of_all rfl) (.refl s)
  | .vdmResponseTimeout .. => execVdmResponseTimeout_leads (Part.subset_of_all rfl) (.refl s)
  | .pdCtrlHardReset .. => next (writeOne Part.all_subset (.refl s))
  | .pdCtrlSoftReset .. => next (writeOne Part.all_subset (.refl s))
  | .sendCaps .. => next (writeOne Part.all_subset (.refl s))
  | .rediscover .. => next (writeOne Part.all_subset (.refl s))
  | .exitMode .. => next (writeOne Part.all_subset (.refl s))
  | .pdEnWrite .. => next (writeField Part.all_subset (.refl s))
  | .contextReset .. => iteO (next (.refl s)) (next (ctxReset (Part.subset_of_all rfl) (.refl s)))
  | .contextSuspend .. => execContextSuspend_leads (Part.subset_of_all rfl) (.refl s)
  | .contextResume .. => iteO (next (.refl s)) (next (ctxResume (Part.subset_of_all rfl) (.refl s)))
  | .connect .. => iteO (next (.refl s)) (next (setU2 (addChg (Part.subset_of_all rfl) (u2pWith (Part.subset_of_all rfl) (.refl s)))))
  | .disconnect .. => iteO (next (u2Disconnect (Part.subset_of_all rfl) (.refl s))) (next (.refl s))
  | .babble .. => iteO (next (.refl s)) (next (countErr (addChg (Part.subset_of_all rfl) (u2Disable (Part.subset_of_all rfl) (.refl s)))))
  | .setPortReset .. => execSetPortReset_leads (Part.subset_of_all rfl) (.refl s)
  | .chirpK .. => iteO (next (u2pWith (Part.subset_of_all rfl) (.refl s))) (next (.refl s))
  | .portResetEnd .. => execPortResetEnd_leads (Part.subset_of_all rfl) (.refl s)
  | .setPortSuspend .. => execSetPortSuspend_leads (Part.subset_of_all rfl) (.refl s)
  | .clearPortSuspend .. => execClearPortSuspend_leads (Part.subset_of_all rfl) (.refl s)
  | .resumeEnd .. => execResumeEnd_leads (Part.subset_of_all rfl) (.refl s)
  | .clearPortEnable .. => execClearPortEnable_leads (Part.subset_of_all rfl) (.refl s)
  | .setPortPower .. => execSetPortPower_leads (Part.subset_of_all rfl) (.refl s)
  | .clearPortPower .. => execClearPortPower_leads (Part.subset_of_all rfl) (.refl s)
  | .setPortTest .. => execSetPortTest_leads (Part.subset_of_all rfl) (.refl s)
  | .setAndTestPortL1 _ _ addr _ _ => execSetAndTestPortL1_leads (addr := addr) (Part.subset_of_all rfl) (.refl s)
  | .lpmAnswer .. => execLpmAnswer_leads (Part.subset_of_all rfl) (.refl s)
  | .clearPortL1 .. => execClearPortL1_leads (Part.subset_of_all rfl) (.refl s)
  | .l1ExitEnd .. => execL1ExitEnd_leads (Part.subset_of_all rfl) (.refl s)
  | .remoteWake .. => execRemoteWake_leads (Part.subset_of_all rfl) (.refl s)
  | .wakePropagationEnd .. => next (hubWith (Part.subset_of_all rfl) (.refl s))
  | .pwrHoldEnd .. => execPwrHoldEnd_leads (Part.subset_of_all rfl) (.refl s)
  | .clearChangeBit .. => execClearChangeBit_leads (Part.subset_of_all rfl) (.refl s)
  | .getPortStatus .. => execGetPortStatus_leads (Part.subset_of_all rfl) (.refl s)
  | .getHubStatus .. => execGetHubStatus_leads (Part.subset_of_all rfl) (.refl s)
  | .getHubDescriptor .. => execGetHubDescriptor_leads (Part.subset_of_all rfl) (.refl s)
  | .getDescriptor .. => execGetDescriptor_leads (Part.subset_of_all rfl) (.refl s)
  | .setInterface .. => execSetInterface_leads (Part.subset_of_all rfl) (.refl s)
  | .hubRequestError .. => execHubRequestError_leads (Part.subset_of_all rfl) (.refl s)
  | .clearTtBuffer .. => execClearTtBuffer_leads (Part.subset_of_all rfl) (.refl s)
  | .resetTt .. => execResetTt_leads (Part.subset_of_all rfl) (.refl s)
  | .stopTt .. => execStopTt_leads (Part.subset_of_all rfl) (.refl s)
  | .statusChangePoll .. => execStatusChangePoll_leads (Part.subset_of_all rfl) (.refl s)
  | .startSplit .. => execStartSplit_leads (Part.subset_of_all rfl) (.refl s)
  | .completeSplit .. => execCompleteSplit_leads (Part.subset_of_all rfl) (.refl s)
  | .ttTransactionEnd .. => next (ttEnd (Part.subset_of_all rfl) (.refl s))
  | .ttStale .. => execTtStale_leads (Part.subset_of_all rfl) (.refl s)
  | .ttResultExpire .. => next (ttSync (u2pWith (Part.subset_of_all rfl) (.refl s)))
  | .rxDetect .. => iteO (next (setLink (.refl s))) (next (.refl s))
  | .linkU0 .. => execLinkU0_leads (Part.subset_of_all rfl) (.refl s)
  | .pollingFail .. => execPollingFail_leads (Part.subset_of_all rfl) (.refl s)
  | .linkRecovery .. => execLinkRecovery_leads (Part.subset_of_all rfl) (.refl s)
  | .ssInactive .. => execSsInactive_leads (Part.subset_of_all rfl) (.refl s)
  | .ssPortReset .. => execSsPortReset_leads (Part.subset_of_all rfl) (.refl s)
  | .bhPortReset .. => execBhPortReset_leads (Part.subset_of_all rfl) (.refl s)
  | .ssResetEnd .. => execSsResetEnd_leads (Part.subset_of_all rfl) (.refl s)
  | .ssContextReset .. => iteO (next (.refl s)) (next (setUpState (ssPresReset (Part.subset_of_all rfl) (.refl s))))
  | .setLinkStateU3 .. => execSetLinkStateU3_leads (Part.subset_of_all rfl) (.refl s)
  | .setLinkStateU0 .. => execSetLinkStateU0_leads (Part.subset_of_all rfl) (.refl s)
  | .setLinkStateDisabled .. => execSetLinkStateDisabled_leads (Part.subset_of_all rfl) (.refl s)
  | .setLinkStateRxDetect .. => execSetLinkStateRxDetect_leads (Part.subset_of_all rfl) (.refl s)
  | .ssSetPortPower .. => execSsSetPortPower_leads (Part.subset_of_all rfl) (.refl s)
  | .ssClearPortPower .. => execSsClearPortPower_leads (Part.subset_of_all rfl) (.refl s)
  | .setPortU1Timeout .. => execSetPortU1Timeout_leads (Part.subset_of_all rfl) (.refl s)
  | .setPortU2Timeout .. => execSetPortU2Timeout_leads (Part.subset_of_all rfl) (.refl s)
  | .setRemoteWakeMask .. => execSetRemoteWakeMask_leads (Part.subset_of_all rfl) (.refl s)
  | .setForceLinkpmAccept .. => execSetForceLinkpmAccept_leads (Part.subset_of_all rfl) (.refl s)
  | .setHubDepth .. => execSetHubDepth_leads (Part.subset_of_all rfl) (.refl s)
  | .getPortErrorCount .. => execGetPortErrorCount_leads (Part.subset_of_all rfl) (.refl s)
  | .ssGetPortStatus .. => execSsGetPortStatus_leads (Part.subset_of_all rfl) (.refl s)
  | .ssClearChangeBit .. => execSsClearChangeBit_leads (Part.subset_of_all rfl) (.refl s)
  | .u1Inactivity .. => execU1Inactivity_leads (.refl s)
  | .lgoUx .. => execLgoUx_leads (Part.subset_of_all rfl) (.refl s)
  | .ssHeader .. => execSsHeader_leads (Part.subset_of_all rfl) (.refl s)
  | .packetForward .. => execPacketForward_leads (Part.subset_of_all rfl) (.refl s)
  | .ssRemoteWake .. => execSsRemoteWake_leads (Part.subset_of_all rfl) (.refl s)
  | .upstreamLinkTrained .. => execUpstreamLinkTrained_leads (Part.subset_of_all rfl) (.refl s)
  | .complianceEntry .. => execComplianceEntry_leads (Part.subset_of_all rfl) (.refl s)
  | .enterCp .. => next (writeOne Part.all_subset (.refl s))
  | .loopMaster .. => next (writeOne Part.all_subset (.refl s))
  | .exitTest .. => next (oneWith Part.all_subset (.refl s))
  | .pingLfps .. => iteO (next (sspWith (Part.subset_of_all rfl) (.refl s))) (next (.refl s))
  | .loopbackEntry .. => iteO (next (ssLeave (Part.subset_of_all rfl) (.refl s))) (next (.refl s))
  | .marginStart .. => next (writeOne Part.all_subset (.refl s))
  | .marginEnd .. => iteO (next (put (put (put (sspWith (Part.subset_of_all rfl) (.refl s)))))) (next (.refl s))
  | .maxGenWrite .. => execMaxGenWrite_leads Part.all_subset (.refl s)
  | .ownerWrite .. => next (writeOne Part.all_subset (.refl s))
  | .movePoint .. => iteO (next (movePoint (Part.subset_of_all rfl) (.refl s))) (next (.refl s))
  | .presAttach .. => execPresAttach_leads (Part.subset_of_all rfl) (.refl s)
  | .livenessLoss .. => next (liveCheck (Part.subset_of_all rfl) (presWith (Part.subset_of_all rfl) (.refl s)))
  | .presentationLive .. => execPresentationLive_leads (Part.subset_of_all rfl) (.refl s)
  | .foSuspLimitEnd .. => next (liveCheck (Part.subset_of_all rfl) (presWith (Part.subset_of_all rfl) (.refl s)))
  | .fbDelayEnd .. => iteO (next (.refl s)) (next (fbDecide (Part.subset_of_all rfl) (presWith (Part.subset_of_all rfl) (.refl s))))
  | .failback .. => next (writeOne Part.all_subset (.refl s))
  | .reattach .. => next (writeOne Part.all_subset (.refl s))
  | .reattachEnd .. => iteO (next (presWith (Part.subset_of_all rfl) (.refl s))) (next (.refl s))
  | .regRead .. => next (regReads (Part.subset_of_all rfl) (.refl s))
  | .regWrite .. => next (regWrites Part.all_subset (.refl s))
  | .getResult .. => execGetResult_leads (Part.subset_of_all rfl) (.refl s)
  | .vendorReplay .. => execVendorReplay_leads (Part.subset_of_all rfl) (.refl s)
  | .dramRead .. => execDramRead_leads (Part.subset_of_all rfl) (.refl s)
  | .dramWrite .. => execDramWrite_leads (Part.subset_of_all rfl) (.refl s)
  | .vendorRequestDone .. => execVendorRequestDone_leads (Part.subset_of_all rfl) (.refl s)
  | .bulkCommand .. => execBulkCommand_leads (Part.subset_of_all rfl) (.refl s)
  | .bulkRead .. => execBulkRead_leads (Part.subset_of_all rfl) (.refl s)
  | .bulkWrite .. => execBulkWrite_leads (Part.subset_of_all rfl) (.refl s)
  | .ep3Ack .. => execEp3Ack_leads (Part.subset_of_all rfl) (.refl s)
  | .notice .. => execNotice_leads (Part.subset_of_all rfl) (.refl s)
  | .noticeAck .. => iteO (next (.refl s)) (next (stepSeq (Part.subset_of_all rfl) (put (mgfWith (Part.subset_of_all rfl) (.refl s)))))
  | .functionReset .. => iteO (next (fnReset (Part.subset_of_all rfl) (.refl s))) (next (.refl s))
  | .mgfSetConfiguration .. => next (fnConfigure (Part.subset_of_all rfl) (.refl s))
  | .clearEndpointHalt .. => execClearEndpointHalt_leads (Part.subset_of_all rfl) (.refl s)
  | .setEndpointHalt .. => next (epRequest (Part.subset_of_all rfl) (.refl s) (setHalt (.refl s)))
  | .inServiceChange .. => execInServiceChange_leads (Part.subset_of_all rfl) (.refl s)
  | .functionWake .. => execFunctionWake_leads (Part.subset_of_all rfl) (.refl s)
  | .epmWinRead .. => next (readOne (Part.subset_of_all rfl) (.refl s))
  | .doorbell .. => next (writeOne Part.all_subset (.refl s))
  | .descriptorFetch => execDescriptorFetch_leads (Part.subset_of_all rfl) (.refl s)
  | .jobStart .. => execJobStart_leads (Part.subset_of_all rfl) (.refl s)
  | .take .. => execTake_leads (Part.subset_of_all rfl) (.refl s)
  | .give .. => execGive_leads (Part.subset_of_all rfl) (.refl s)
  | .powerOff .. => execPowerOff_leads (Part.subset_of_all rfl) (.refl s)
  | .powerOn .. => execPowerOn_leads (Part.subset_of_all rfl) (.refl s)
  | .powerCycle .. => execPowerCycle_leads (Part.subset_of_all rfl) (.refl s)
  | .enumJob .. => execEnumJob_leads (Part.subset_of_all rfl) (.refl s)
  | .configJob .. => execConfigJob_leads (Part.subset_of_all rfl) (.refl s)
  | .ctrlJob .. => execCtrlJob_leads (Part.subset_of_all rfl) (.refl s)
  | .jobWrite .. => execJobWrite_leads (Part.subset_of_all rfl) (.refl s)
  | .jobRead .. => execJobRead_leads (Part.subset_of_all rfl) (.refl s)
  | .captureSbu .. => execCaptureSbu_leads (Part.subset_of_all rfl) (.refl s)
  | .captureCdc .. => execCaptureCdc_leads (Part.subset_of_all rfl) (.refl s)
  | .verifyCompare .. => execVerifyCompare_leads (Part.subset_of_all rfl) (.refl s)
  | .verifyCrc .. => execVerifyCrc_leads (Part.subset_of_all rfl) (.refl s)
  | .waitTime .. => next (waitTest (Part.subset_of_all rfl) (.refl s))
  | .waitAttach .. => next (waitTest (Part.subset_of_all rfl) (.refl s))
  | .waitDetach .. => next (waitTest (Part.subset_of_all rfl) (.refl s))
  | .waitVbusOn .. => next (waitTest (Part.subset_of_all rfl) (.refl s))
  | .waitUsbConnect .. => next (waitTest (Part.subset_of_all rfl) (.refl s))
  | .stopRunning .. => next (stopStep (Part.subset_of_all rfl) (.refl s))
  | .stopCaptures .. => next (stopStep (Part.subset_of_all rfl) (.refl s))
  | .stopQueued .. => next (stopStep (Part.subset_of_all rfl) (.refl s))
  | .jobEnd .. => execJobEnd_leads (Part.subset_of_all rfl) (.refl s)
  | .jobTimeout .. => execJobTimeout_leads (Part.subset_of_all rfl) (.refl s)
  | .completionWrite .. => execCompletionWrite_leads (Part.subset_of_all rfl) (.refl s)
  | .crConsWrite .. => next (writeOne Part.all_subset (.refl s))
  | .completionRetry .. => execCompletionRetry_leads (Part.subset_of_all rfl) (.refl s)
  | .captureRecordClose .. => execCaptureRecordClose_leads (Part.subset_of_all rfl) (.refl s)
  | .bufWdata .. => next (writeOne Part.all_subset (.refl s))
  | .bufRdata .. => next (readOne (Part.subset_of_all rfl) (.refl s))
  | .ringCfgRestart .. => next (writeOne Part.all_subset (.refl s))
  | .trainingEnd .. => execTrainingEnd_leads (Part.subset_of_all rfl) (.refl s)
  | .zeroingEnd => iteO (next (drcReady (Part.subset_of_all rfl) (dramWith_any (Part.subset_of_all rfl) (.refl s)))) (next (.refl s))
  | .refresh => next (.refl s)
  | .zqCalibration => next (.refl s)
  | .scrub .. => execScrub_leads (Part.subset_of_all rfl) (.refl s)
  | .load .. => next (writeField Part.all_subset (.refl s))
  | .store .. => next (writeField Part.all_subset (.refl s))
  | .windowCommandEnd .. => execWindowCommandEnd_leads (Part.subset_of_all rfl) (.refl s)
  | .eccClear .. => next (writeOne Part.all_subset (.refl s))
  | .ddrAlert => iteO (next (count (.refl s))) (next (.refl s))
  | .compatAttach .. => next (writeOne Part.all_subset (.refl s))
  | .holdTimeout .. => execHoldTimeout_leads (Part.subset_of_all rfl) (.refl s)
  | .instReset .. => next (writeOne Part.all_subset (.refl s))
  | .rcRead .. => next (readOne (Part.subset_of_all rfl) (.refl s))
  | .configAreaWrite .. => next (writeOne Part.all_subset (.refl s))
  | .tempSample .. => execTempSample_leads (Part.subset_of_all rfl) (.refl s)
  | .shedStepTimer => next (ite (.refl s) (shedTo (Part.subset_of_all rfl) (.refl s)))
  | .quarSet .. => next (writeOne Part.all_subset (.refl s))
  | .quarRelease .. => next (writeOne Part.all_subset (.refl s))
  | .quarAutoEnd .. => next (ite (quarLeave (Part.subset_of_all rfl) (.refl s)) (.refl s))
  | .plateIsoSet .. => next (pairField Part.all_subset (.refl s))
  | .plateIsolated .. => next (ite (raise (Part.subset_of_all rfl) (put (.refl s))) (.refl s))
  | .plateIsoClear .. => next (pairField Part.all_subset (.refl s))
  | .peakClr .. => next (writeOne Part.all_subset (.refl s))
  | .updatePortPolicy .. => next (goWith Part.all_subset (.refl s))
  | .updatePort .. => next (goWith Part.all_subset (.refl s))
  | .updatePresDesc .. => next (goWith Part.all_subset (.refl s))
  | .updateEnd => execUpdateEnd_leads (Part.subset_of_all rfl) (.refl s)
  | .plateCalibrationEnd .. => execPlateCalibrationEnd_leads (Part.subset_of_all rfl) (.refl s)
  | .upCalibrationEnd => iteO (next (.refl s)) (next (askPlateCal (Part.subset_of_all rfl) (put (opDone (Part.subset_of_all rfl)
      (.refl s)))))
  | .seated => next (ite (withEntry (Part.subset_of_all rfl) (put (.refl s))) (.refl s))
  | .trySrc .. => execTrySrc_leads (Part.subset_of_all rfl) (.refl s)
  | .debounceLost .. => execDebounceLost_leads (Part.subset_of_all rfl) (.refl s)
  | .sof .. => execSof_leads (Part.subset_of_all rfl) (.refl s)
  | .highSpeedPacket .. => execHighSpeedPacket_leads (Part.subset_of_all rfl) (.refl s)
  | .setAddress .. => execSetAddress_leads (Part.subset_of_all rfl) (.refl s)
  | .hubSetConfiguration .. => execHubSetConfiguration_leads (Part.subset_of_all rfl) (.refl s)
  | .deviceRemoteWakeup .. => execDeviceRemoteWakeup_leads (Part.subset_of_all rfl) (.refl s)
  | .u1U2Enable .. => execU1U2Enable_leads (Part.subset_of_all rfl) (.refl s)
  | .lgoU3 .. => iteO (next (ssSuspendAll (Part.subset_of_all rfl) (setUpState (.refl s)))) (next (.refl s))
  | .upstreamExitLfps .. => execUpstreamExitLfps_leads (Part.subset_of_all rfl) (.refl s)

end State.KeepsBut

/-- Settles O10: the queue of commands is in no command's reach, and each leaves every hidden part that `touches` does not list. -/
theorem commandsLeaveOtherStateAlone : Obligations.CommandsLeaveOtherStateAlone := by
  unfold Obligations.CommandsLeaveOtherStateAlone
  refine ⟨fun c s t ht => ((State.KeepsBut.exec_leads c s).keeps t ht).pending, fun c s t p ht hp hk => ?_⟩
  refine ((State.KeepsBut.exec_leads c s).keeps t ht).same p ?_ hp
  cases p with
  | page k => exact absurd rfl (hk k)
  | _ => rfl

end Sys2Proof.Machine

namespace Sys2Proof.Machine

/-! PROOFS. The frame of the memories (O9): they are hidden parts, so the frame of every command (O10) covers them. -/

/-- The memories that commands store to, each a part of its own. -/
def Part.memories : List Part := [.mram, .stage, .epm, .grvTemplates, .grvBuffer, .dramMem, .cpt]

theorem Part.hidden_of_memory : ∀ p ∈ Part.memories, p.hidden = true := by decide

/-- Settles O9: no memory is a page of registers, so each command keeps those that `touches` does not list for it. -/
theorem commandsLeaveOtherMemoriesAlone : Obligations.CommandsLeaveOtherMemoriesAlone := by
  unfold Obligations.CommandsLeaveOtherMemoriesAlone
  intro c s t p ht hp hmemory
  exact ((State.KeepsBut.exec_leads c s).keeps t ht).same p (Part.hidden_of_memory p hmemory) hp

end Sys2Proof.Machine

namespace Sys2Proof.Machine

/-! PROOFS. What the budget arbiter's decisions and a presentation's attach and detach leave of the registers (O28, O48): a few marked
fields stand through all that they start. As with the frame of the hidden parts, the lemma about an operation bears its name and follows its
definition, by the lemmas about the operations it is made of. -/

/-! ### The marked fields -/

/-- The fields that neither the arbiter's decisions nor a presentation's loss of its bus write: what an upstream port has found at its
connector, that a presentation is attached, and which pool is in force; with `grants`, the grants of the ports too. -/
def markField (grants : Bool) (pg : PageId) (f : Fld) : Prop :=
  match pg with
  | .ups _ => f.off = 0x44 ∨ f = F.UPS_LINK_STATUS_U2_ONLY
  | .prs => f.off = 0x4C ∨ f.off = 0x50
  | .glb => f.off = 0x64 ∧ 11 ≤ f.lo ∧ f.lo + f.width ≤ 13
  | .bgt => f = F.BGT_POOL_STATUS_DUAL ∨ (grants = true ∧ 0x180 ≤ f.off ∧ f.off < 0x280)
  | _ => False

/-- A field whose write leaves those fields as they are. -/
def clearField (grants : Bool) (k : PageKind) (f : Fld) : Bool :=
  Nat.blt f.off 0x1000 && match k with
    | .ups => Nat.blt f.off 0x44 || Nat.blt 0x48 f.off || (f.off == 0x48 && Nat.ble (f.lo + f.width) 6)
    | .prs => Nat.blt f.off 0x4C || Nat.blt 0x50 f.off
    | .glb => Nat.blt f.off 0x64 || Nat.blt 0x64 f.off || Nat.ble 13 f.lo
    | .bgt => (Nat.blt f.off 0x48 || Nat.blt 0x48 f.off || Nat.ble (f.lo + f.width) 17) && (Nat.blt f.off 0x180 || !grants)
    | _ => true

theorem markField.off_lt {g : Bool} {pg : PageId} {f : Fld} (h : markField g pg f) : f.off < 0x1000 := by
  cases pg with
  | ups u => rcases h with h | h <;> simp [h, F.UPS_LINK_STATUS_U2_ONLY]
  | prs => rcases h with h | h <;> omega
  | glb => obtain ⟨h, -⟩ := h; omega
  | bgt => rcases h with h | ⟨-, -, h⟩
           · simp [h, F.BGT_POOL_STATUS_DUAL]
           · omega
  | _ => cases h

/-- On one page, such a field shares no bit with a kept one. -/
theorem clearField.apart {g : Bool} {pg : PageId} {f m : Fld} (hf : clearField g (pageKind pg) f = true) (hm : markField g pg m) :
    m.off ≠ f.off ∨ f.lo + f.width ≤ m.lo ∨ m.lo + m.width ≤ f.lo := by
  cases pg with
  | ups u =>
    simp only [clearField, pageKind, Bool.and_eq_true, Bool.or_eq_true, Nat.blt_eq, Nat.ble_eq, beq_iff_eq] at hf
    rcases hm with h | rfl
    · omega
    · simp only [F.UPS_LINK_STATUS_U2_ONLY]; omega
  | prs =>
    simp only [clearField, pageKind, Bool.and_eq_true, Bool.or_eq_true, Nat.blt_eq] at hf
    rcases hm with h | h <;> omega
  | glb =>
    simp only [clearField, pageKind, Bool.and_eq_true, Bool.or_eq_true, Nat.blt_eq, Nat.ble_eq] at hf
    obtain ⟨hoff, hlo, hhi⟩ := hm
    omega
  | bgt =>
    simp only [clearField, pageKind, Bool.and_eq_true, Bool.or_eq_true, Bool.not_eq_true', Nat.blt_eq, Nat.ble_eq] at hf
    rcases hm with rfl | ⟨rfl, hlo, hhi⟩
    · simp only [F.BGT_POOL_STATUS_DUAL]; omega
    · simp only [Bool.true_eq_false, or_false] at hf; omega
  | _ => cases hm

section
variable {g : Bool} {f : Fld}

/-- No register of the common header holds a kept field (R50). -/
theorem clearField_header (pg : PageId) (h : f.off < 0x40) : clearField g (pageKind pg) f = true := by
  have hlt : f.off < 0x1000 := by omega
  have hups : f.off < 0x44 := by omega
  cases pg <;> simp [clearField, pageKind, hlt, hups] <;> omega

theorem clearField_mgf (h : f.off < 0x1000) : clearField g (pageKind .mgf) f = true := by
  simpa [clearField, pageKind] using h

theorem clearField_win {i : Inst} (h : f.off < 0x1000) : clearField g (pageKind (.win i)) f = true := by
  simpa [clearField, pageKind] using h

/-- The registers of a port's grant, where the grants need not stay. -/
theorem clearField_grant (p : Port) {lo w : Nat} : clearField false (pageKind .bgt) ⟨0x180 + 4 * p.val, lo, w⟩ = true := by
  simp only [clearField, pageKind, Bool.and_eq_true, Bool.or_eq_true, Nat.blt_eq, Bool.not_false, or_true, and_true]
  omega

theorem clearField_owner (p : Port) {lo w : Nat} : clearField g (pageKind .prs) ⟨0x100 + 4 * p.val, lo, w⟩ = true := by
  simp only [clearField, pageKind, Bool.and_eq_true, Bool.or_eq_true, Nat.blt_eq]
  omega

/-- The owner register of a semaphore. -/
theorem clearField_sem (n : Sem) {lo w : Nat} : clearField g (pageKind .glb) ⟨0x108 + 16 * n.val, lo, w⟩ = true := by
  simp only [clearField, pageKind, Bool.and_eq_true, Bool.or_eq_true, Nat.blt_eq]
  omega

end

/-- The state `t` keeps the marked fields of `s`, and which feeds the arbiter takes for good. -/
structure State.Steady (grants : Bool) (s t : State) : Prop where
  get : ∀ (pg : PageId) (f : Fld), markField grants pg f → t.get pg f = s.get pg f
  goodA : t.arb.goodA = s.arb.goodA
  goodB : t.arb.goodB = s.arb.goodB

/-- A register written whole is its one field of 32 bits set. -/
theorem State.wr_eq_put (s : State) (pg : PageId) (off : Nat) (w : Word) : s.wr (pg.base + off) w = s.put pg ⟨off, 0, 32⟩ w.toNat := by
  have hset : fldSet ⟨off, 0, 32⟩ (s.rd (pg.base + off)) w.toNat = w := by
    apply BitVec.eq_of_getLsbD_eq
    intro i hi
    rw [fldSet_bit _ _ _ _ hi]
    simp [hi, BitVec.testBit_toNat]
  simp only [State.put, hset]

namespace State.Steady

variable {g : Bool} {was s t : State}

theorem refl (s : State) : s.Steady g s := ⟨fun _ _ _ => rfl, rfl, rfl⟩

theorem trans (h : was.Steady g s) (ht : s.Steady g t) : was.Steady g t :=
  ⟨fun pg f hf => (ht.get pg f hf).trans (h.get pg f hf), ht.goodA.trans h.goodA, ht.goodB.trans h.goodB⟩

/-- A change of hidden state alone. -/
theorem hidden (h : was.Steady g s) (hregs : t.regs = s.regs) (hA : t.arb.goodA = s.arb.goodA) (hB : t.arb.goodB = s.arb.goodB) :
    was.Steady g t :=
  h.trans ⟨fun pg f _ => by simp only [State.get, State.rd, hregs], hA, hB⟩

/-! ### The shapes of the operations -/

theorem ite {c : Prop} [Decidable c] (hs : was.Steady g s) (ht : was.Steady g t) : was.Steady g (if c then s else t) := by
  split
  · exact hs
  · exact ht

section
variable {α β : Type} {l : List α}

theorem foldl {f : State → α → State} (hf : ∀ s x, was.Steady g s → was.Steady g (f s x)) (h : was.Steady g s) :
    was.Steady g (l.foldl f s) := by
  induction l generalizing s with
  | nil => exact h
  | cons x l ih => exact ih (hf _ _ h)

theorem foldl_fst {f : State × β → α → State × β} {p : State × β}
    (hf : ∀ p x, was.Steady g p.1 → was.Steady g (f p x).1) (h : was.Steady g p.1) : was.Steady g (l.foldl f p).1 := by
  induction l generalizing p with
  | nil => exact h
  | cons x l ih => exact ih (hf _ _ h)

end

/-! ### The primitive changes -/

theorem put {pg f v} (h : was.Steady g s) (hf : clearField g (pageKind pg) f = true) : was.Steady g (s.put pg f v) := by
  refine h.trans ⟨fun pg' m hm => ?_, rfl, rfl⟩
  by_cases he : pg' = pg
  · subst he
    rcases clearField.apart hf hm with hoff | hbits
    · exact State.get_put_off _ _ _ _ _ hoff
    · exact State.get_put_bits _ _ _ _ _ hbits
  · have hlt : f.off < 0x1000 := by
      simp only [clearField, Bool.and_eq_true, Nat.blt_eq] at hf
      exact hf.1
    exact State.get_put_page _ _ _ _ he hlt hm.off_lt

/-- A register written whole. -/
theorem wr {pg : PageId} {off w} (h : was.Steady g s) (hf : clearField g (pageKind pg) ⟨off, 0, 32⟩ = true) :
    was.Steady g (s.wr (pg.base + off) w) :=
  State.wr_eq_put s pg off w ▸ put h hf

theorem setFifo {page f} (h : was.Steady g s) : was.Steady g (s.setFifo page f) :=
  h.hidden rfl rfl rfl

/-! ### The definitions of Machine/Ops.lean -/

theorem setFlag {pg f b} (h : was.Steady g s) (hf : clearField g (pageKind pg) f = true) :
    was.Steady g (s.setFlag pg f b) :=
  put h hf

theorem countBy {pg f n} (h : was.Steady g s) (hf : clearField g (pageKind pg) f = true) :
    was.Steady g (s.countBy pg f n) :=
  put h hf

theorem count {pg f} (h : was.Steady g s) (hf : clearField g (pageKind pg) f = true) : was.Steady g (s.count pg f) :=
  countBy h hf

theorem free (h : was.Steady g s) : was.Steady g s.free.2 :=
  h.hidden rfl rfl rfl

/-! ### The definitions of Machine/Flags.lean -/

theorem handOff {page r} (h : was.Steady g s) : was.Steady g (s.handOff page r) := by
  unfold State.handOff
  dsimp only
  repeat' first | (with_reducible first | assumption | apply setFifo) | split

theorem raiseWith {pg e src detail assert subj} (h : was.Steady g s) :
    was.Steady g (s.raiseWith pg e src detail assert subj) := by
  unfold State.raiseWith
  split
  · exact handOff h
  next b _ =>
    have hput : was.Steady g (s.put pg (F.INT_STATUS b) 1) := put h (clearField_header pg (show 0xC < 0x40 by decide))
    exact ite (handOff hput) hput

theorem raisePort {pg p e detail assert} (h : was.Steady g s) : was.Steady g (s.raisePort pg p e detail assert) :=
  raiseWith h

theorem raise {pg e src detail assert} (h : was.Steady g s) : was.Steady g (s.raise pg e src detail assert) :=
  raiseWith h

theorem raisePres {pg u e src detail assert} (h : was.Steady g s) :
    was.Steady g (s.raisePres pg u e src detail assert) :=
  raiseWith h

theorem setFault {pg n} (h : was.Steady g s) : was.Steady g (s.setFault pg n) :=
  put h (clearField_header pg (show 0x14 < 0x40 by decide))

/-! ### The definitions of Machine/Parity.lean -/

theorem mendParity {addr be} (h : was.Steady g s) : was.Steady g (s.mendParity addr be).2 := by
  unfold State.mendParity
  split
  · exact h
  · dsimp only
    split <;> exact h.hidden rfl rfl rfl

theorem putRw {pg f v} (h : was.Steady g s) (hf : clearField g (pageKind pg) f = true) :
    was.Steady g (s.putRw pg f v) :=
  mendParity (put h hf)

/-! ### The definitions of Machine/Parts.lean -/

theorem u2pWith {i f} (h : was.Steady g s) : was.Steady g (s.u2pWith i f) :=
  h.hidden rfl rfl rfl

theorem cptWith {i f} (h : was.Steady g s) : was.Steady g (s.cptWith i f) :=
  h.hidden rfl rfl rfl

theorem sspWith {i f} (h : was.Steady g s) : was.Steady g (s.sspWith i f) :=
  h.hidden rfl rfl rfl

theorem upLkWith {i f} (h : was.Steady g s) : was.Steady g (s.upLkWith i f) :=
  h.hidden rfl rfl rfl

theorem vbsWith {i f} (h : was.Steady g s) : was.Steady g (s.vbsWith i f) :=
  h.hidden rfl rfl rfl

theorem tcpWith {i f} (h : was.Steady g s) : was.Steady g (s.tcpWith i f) :=
  h.hidden rfl rfl rfl

theorem pdWith {i f} (h : was.Steady g s) : was.Steady g (s.pdWith i f) :=
  h.hidden rfl rfl rfl

theorem conWith {i f} (h : was.Steady g s) : was.Steady g (s.conWith i f) :=
  h.hidden rfl rfl rfl

theorem presWith {i f} (h : was.Steady g s) : was.Steady g (s.presWith i f) :=
  h.hidden rfl rfl rfl

theorem hubWith {hc f} (h : was.Steady g s) : was.Steady g (s.hubWith hc f) :=
  h.hidden rfl rfl rfl

theorem ssHubWith {sc f} (h : was.Steady g s) : was.Steady g (s.ssHubWith sc f) :=
  h.hidden rfl rfl rfl

theorem lheWith {p f} (h : was.Steady g s) : was.Steady g (s.lheWith p f) :=
  h.hidden rfl rfl rfl

theorem devLost {p ss} (h : was.Steady g s) : was.Steady g (s.devLost p ss) :=
  ite (lheWith (h.hidden rfl rfl rfl)) (h.hidden rfl rfl rfl)

/-! ### The definitions of Machine/Usb2Port.lean -/

theorem setU2 {p v} (h : was.Steady g s) : was.Steady g (s.setU2 p v) :=
  put h rfl

theorem setPowerBit {p c b} (h : was.Steady g s) : was.Steady g (s.setPowerBit p c b) :=
  setFlag h rfl

theorem addChg {p bits} (h : was.Steady g s) : was.Steady g (s.addChg p bits) := by
  unfold State.addChg
  repeat' first | (with_reducible first | assumption | apply u2pWith) | split

theorem ttSync {t0} (h : was.Steady g s) : was.Steady g (s.ttSync t0) :=
  put (put (put h rfl) rfl) rfl

theorem ttDrop {p} (h : was.Steady g s) : was.Steady g (s.ttDrop p) :=
  ttSync (u2pWith h)

theorem u2Gone {p st} (h : was.Steady g s) : was.Steady g (s.u2Gone p st) :=
  setU2 (ttDrop (put (put (put (u2pWith (ite (devLost (addChg h)) h)) rfl) rfl) rfl))

theorem u2Eval {p} (h : was.Steady g s) : was.Steady g (s.u2Eval p) :=
  ite h (ite (ite h (u2Gone h)) (ite (ite h (u2Gone h)) (ite (ite h (u2Gone h)) (ite (ite h (setU2 h)) (ite (setU2 h) (ite (setU2
    h) h))))))

/-! ### The definitions of Machine/SsPort.lean -/

theorem setLink {f v} (h : was.Steady g s) : was.Steady g (s.setLink f v) :=
  put h rfl

theorem addSsChg {f bits} (h : was.Steady g s) : was.Steady g (s.addSsChg f bits) := by
  unfold State.addSsChg
  repeat' first | (with_reducible first | assumption | apply sspWith) | split

theorem ssDiscard {f n} (h : was.Steady g s) : was.Steady g (s.ssDiscard f n) :=
  countBy h rfl

theorem marginLost {f} (h : was.Steady g s) : was.Steady g (s.marginLost f) :=
  ite (put (put (put (sspWith (free h)) rfl) rfl) rfl) h

theorem upWake {u} (h : was.Steady g s) : was.Steady g (s.upWake u) :=
  ite (upLkWith h) h

theorem maskWake {f b} (h : was.Steady g s) : was.Steady g (s.maskWake f b) := by
  unfold State.maskWake
  repeat' first | (with_reducible first | assumption | apply upWake) | split

theorem ssEndCompliance {f} (h : was.Steady g s) : was.Steady g (s.ssEndCompliance f) :=
  ite (raisePort h) h

theorem ssLeave {s0 f dest cause} (h : was.Steady g s0) :
    was.Steady g (State.ssLeave s0 f dest cause) :=
  setLink (put (put (marginLost (sspWith (ssDiscard (devLost (ite (maskWake (ite (addSsChg
    (ssEndCompliance h)) (raisePort (addSsChg
    (ssEndCompliance h))))) (ssEndCompliance h)))))) rfl) rfl)

theorem ssDetect {f cause} (h : was.Steady g s) :
    was.Steady g (s.ssDetect f cause) :=
  sspWith (ssLeave h)

theorem ssEvalAs {f cause} (h : was.Steady g s) :
    was.Steady g (s.ssEvalAs f cause) :=
  ite (ite (ssDetect h) h) (ite h (ssLeave h))

theorem ssEval {f} (h : was.Steady g s) :
    was.Steady g (s.ssEval f) :=
  ssEvalAs h

theorem ssEvalPort {p} (h : was.Steady g s) :
    was.Steady g (s.ssEvalPort p) := by
  unfold State.ssEvalPort
  repeat' first | (with_reducible first | assumption | apply ssEval) | split

theorem usbEval {p} (h : was.Steady g s) :
    was.Steady g (s.usbEval p) :=
  ssEvalPort (u2Eval h)

/-! ### The definitions of Machine/GrvCore.lean -/

theorem grvWith {f} (h : was.Steady g s) : was.Steady g (s.grvWith f) :=
  h.hidden rfl rfl rfl

theorem partWith {id p f} (h : was.Steady g s) : was.Steady g (s.partWith id p f) :=
  grvWith h

theorem lheNote {p op code} (h : was.Steady g s) : was.Steady g (s.lheNote p op code) :=
  ite (put (put h rfl) rfl) (count (put (put h rfl) rfl) rfl)

theorem partEnd {j p code} (h : was.Steady g s) : was.Steady g (s.partEnd j p code) :=
  lheNote (partWith h)

theorem powerFails {p} (h : was.Steady g s) : was.Steady g (s.powerFails p) := by
  unfold State.powerFails
  repeat' first | (with_reducible first | assumption | apply partEnd) | split

/-! ### The definitions of Machine/PdPolicy.lean -/

theorem offerCheck {p} (h : was.Steady g s) : was.Steady g (s.offerCheck p) :=
  ite h (ite (pdWith h) (pdWith h))

/-! ### The definitions of Machine/PortPower.lean -/

theorem arbWith {f} (h : was.Steady g s)
    (hf : ∀ a : Arbiter, (f a).goodA = a.goodA ∧ (f a).goodB = a.goodB) : was.Steady g (s.arbWith f) :=
  h.hidden rfl (hf _).1 (hf _).2

theorem askLeave {op} (h : was.Steady g s) : was.Steady g (s.askLeave op) :=
  ite h (arbWith h (fun _ => ⟨rfl, rfl⟩))

theorem firstSettled {p} (h : was.Steady g s) : was.Steady g (s.firstSettled p) := by
  unfold State.firstSettled
  repeat' first | (with_reducible first | assumption | apply put | apply arbWith) | exact rfl | exact fun _ => ⟨rfl, rfl⟩ | split

theorem arbSync (h : was.Steady g s) : was.Steady g s.arbSync :=
  put h rfl

theorem putGrant {p : Port} {v} (h : was.Steady false s) : was.Steady false (s.put .bgt (F.BGT_GRANTn_GRANT p.val) v) :=
  put h (clearField_grant p)

theorem putGrantSt {p : Port} {v} (h : was.Steady false s) : was.Steady false (s.put .bgt (F.BGT_GRANTn_STATE p.val) v) :=
  put h (clearField_grant p)

theorem withdraw {op} (h : was.Steady false s) : was.Steady false (s.withdraw op) := by
  unfold State.withdraw
  repeat' first
    | with_reducible first
      | assumption | apply putGrantSt | apply put | apply arbWith | apply firstSettled | apply arbSync
    | exact rfl | exact fun _ => ⟨rfl, rfl⟩ | split

theorem opDone {op} (h : was.Steady g s) : was.Steady g (s.opDone op) :=
  ite (arbWith h (fun _ => ⟨rfl, rfl⟩)) h

theorem endLeave {op} (h : was.Steady false s) : was.Steady false (s.endLeave op) :=
  opDone (withdraw h)

theorem returnGrant {p} (h : was.Steady false s) : was.Steady false (s.returnGrant p) :=
  put (putGrantSt (putGrant h)) rfl

theorem setLimit {p ma} (h : was.Steady g s) : was.Steady g (s.setLimit p ma) :=
  vbsWith (put h rfl)

theorem raiseLimit {p} (h : was.Steady g s) : was.Steady g (s.raiseLimit p) :=
  ite (setLimit h) h

theorem rpApply {p} (h : was.Steady g s) : was.Steady g (s.rpApply p) :=
  ite (put h rfl) (raiseLimit (put h rfl))

theorem bcDecide {p} (h : was.Steady g s) :
    was.Steady g (s.bcDecide p) :=
  usbEval (put h rfl)

theorem pdKick {p} (h : was.Steady g s) : was.Steady g (s.pdKick p) :=
  ite (rpApply (pdWith h)) h

theorem frsEval {p} (h : was.Steady g s) : was.Steady g (s.frsEval p) :=
  setFlag h rfl

theorem grantChanged {p old}
    (h : was.Steady g s) : was.Steady g (s.grantChanged p old) :=
  pdKick (offerCheck (frsEval (ite (rpApply h)
    (ite (bcDecide (rpApply h)) (ite (usbEval
    (put (rpApply h) rfl)) (rpApply h))))))

theorem vconnOn {p} (h : was.Steady g s) : was.Steady g (s.vconnOn p) :=
  pdWith (put (put (put h rfl) rfl) rfl)

theorem vconnStart {p} (h : was.Steady g s) : was.Steady g (s.vconnStart p) :=
  ite (vconnOn h) h

theorem muxOpen {p mode cause} (h : was.Steady g s) : was.Steady g (s.muxOpen p mode cause) :=
  ite h (raisePort (put (put (conWith (put (put h rfl) rfl)) rfl) rfl))

theorem rxLine {p} (h : was.Steady g s) : was.Steady g (s.rxLine p).2 := by
  unfold State.rxLine
  repeat' first | (with_reducible first | assumption | apply free) | split

theorem muxRoute {p mode} (h : was.Steady g s) : was.Steady g (s.muxRoute p mode) :=
  ite h (raisePort (setFlag (put (put (rxLine h) rfl) rfl) rfl))

theorem routeBy {p mode} (h : was.Steady g s) : was.Steady g (s.routeBy p mode) :=
  muxRoute (tcpWith h)

theorem unrouteBy {p mode cause} (h : was.Steady g s) : was.Steady g (s.unrouteBy p mode cause) :=
  ite (tcpWith h) (muxOpen (tcpWith h))

theorem modeExit {p cause muxCause} (h : was.Steady g s) :
    was.Steady g (s.modeExit p cause muxCause) :=
  ite h (raisePort (unrouteBy (put (put h rfl) rfl)))

theorem endRaise {p} (h : was.Steady false s) : was.Steady false (s.endRaise p) :=
  pdWith (endLeave h)

theorem endReserve {p} (h : was.Steady false s) : was.Steady false (s.endReserve p) :=
  ite h (put (ite (pdWith (endLeave h)) (returnGrant (pdWith (endLeave h)))) rfl)

theorem endContract {p} (h : was.Steady g s) : was.Steady g (s.endContract p) :=
  wr (wr (put (put h rfl) rfl) rfl) rfl

theorem pdEnd {p modeCause muxCause} (h : was.Steady false s) :
    was.Steady false (s.pdEnd p modeCause muxCause) := by
  unfold State.pdEnd
  repeat' first
    | with_reducible first
      | assumption | apply put | apply pdWith | apply modeExit | apply endRaise | apply endReserve
      | apply endContract
    | exact rfl

theorem pdStop {p} (h : was.Steady false s) : was.Steady false (s.pdStop p) :=
  pdWith (put (pdEnd h) rfl)

theorem vsetLoad {p} (h : was.Steady g s) : was.Steady g (s.vsetLoad p) := by
  unfold State.vsetLoad
  repeat' with_reducible first | assumption | apply vbsWith

theorem vbsOpenTo {p cause keep dest} (h : was.Steady false s) : was.Steady false (s.vbsOpenTo p cause keep dest) := by
  unfold State.vbsOpenTo
  repeat' first
    | with_reducible first
      | assumption | apply ite | apply putGrantSt | apply putGrant | apply put | apply raisePort | apply vbsWith | apply usbEval
      | apply withdraw | apply opDone | apply returnGrant | apply rpApply | apply pdStop | apply vsetLoad
    | exact rfl

theorem vbsOpen {p cause}
    (h : was.Steady false s) : was.Steady false (s.vbsOpen p cause) :=
  vbsOpenTo h

theorem laneMux {p on} (h : was.Steady g s) : was.Steady g (s.laneMux p on) := by
  unfold State.laneMux
  repeat' first | (with_reducible first | assumption | apply setFlag) | exact rfl | split

theorem setCptByte {i a v} (h : was.Steady g s) (ha : a < 0x400) : was.Steady g (s.setCptByte i a v) :=
  wr (pg := .win i) h (clearField_win (show 4 * a < 0x1000 by omega))

theorem askTurnOn {p} (h : was.Steady g s) : was.Steady g (s.askTurnOn p) :=
  ite (ite (vbsWith h) h) (ite (vbsWith h) (askLeave (put h rfl)))

theorem askReserve {p} (h : was.Steady g s) : was.Steady g (s.askReserve p) :=
  ite (askLeave (pdWith h)) h

theorem askAgain {p} (h : was.Steady g s) : was.Steady g (s.askAgain p) :=
  ite (ite (askReserve h) h) (askTurnOn h)

theorem askAtOnce {p} (h : was.Steady g s) : was.Steady g (s.askAtOnce p) :=
  ite (askLeave (put h rfl)) (askAgain h)

theorem turnOnGranted {p} (h : was.Steady false s) :
    was.Steady false (s.turnOnGranted p) := by
  unfold State.turnOnGranted
  repeat' first
    | with_reducible first
      | assumption | apply ite | apply put | apply vbsWith | apply opDone | apply returnGrant
      | apply setLimit | apply rpApply | apply vconnStart | apply routeBy | apply vsetLoad | apply laneMux
    | exact rfl

/-! ### The definitions of Machine/PdCore.lean -/

theorem setPe {p v} (h : was.Steady g s) : was.Steady g (s.setPe p v) :=
  put h rfl

theorem pdSay {p kind objs bytes prime} (h : was.Steady g s) : was.Steady g (s.pdSay p kind objs bytes prime) := by
  unfold State.pdSay
  repeat' with_reducible first | assumption | apply pdWith

theorem toReady {p} (h : was.Steady g s) : was.Steady g (s.toReady p) :=
  pdKick (rpApply (pdWith (setPe h)))

theorem acceptReq {p rdo mv ma10 type w} (h : was.Steady g s) : was.Steady g (s.acceptReq p rdo mv ma10 type w) :=
  pdWith (setPe (pdSay h))

theorem rejectReq {p} (h : was.Steady g s) : was.Steady g (s.rejectReq p) :=
  toReady (pdWith (pdSay h))

theorem raiseGrant {p} (h : was.Steady g s) : was.Steady g (s.raiseGrant p) := by
  unfold State.raiseGrant
  repeat' first
    | with_reducible first
      | assumption | apply pdWith | apply opDone | apply acceptReq | apply rejectReq
    | split

theorem raiseCap {p} (h : was.Steady g s) : was.Steady g (s.raiseCap p) :=
  pdKick (pdWith (ite (pdWith h) (rejectReq (pdWith h))))

/-! ### The definitions of Machine/Drc.lean -/

theorem setDrcSt {v} (h : was.Steady g s) : was.Steady g (s.setDrcSt v) :=
  put h rfl

/-! ### The definitions of Machine/MgfCore.lean -/

theorem semFree {n} (h : was.Steady g s) : was.Steady g (s.semFree n) := by
  have hwr := wr (w := 0) h (clearField_sem (g := g) n)
  rwa [← Nat.add_assoc] at hwr

theorem semFreeBy {n e} (h : was.Steady g s) : was.Steady g (s.semFreeBy n e) :=
  raise (semFree h)

theorem semOrphan {test} (h : was.Steady g s) : was.Steady g (s.semOrphan test) :=
  foldl (fun _ _ h' => ite (semFreeBy h') h') h

theorem semOrphanHost {u} (h : was.Steady g s) : was.Steady g (s.semOrphanHost u) :=
  semOrphan h

theorem mgfWith {u f} (h : was.Steady g s) : was.Steady g (s.mgfWith u f) :=
  h.hidden rfl rfl rfl

theorem mgfInstWith {u ss f} (h : was.Steady g s) : was.Steady g (s.mgfInstWith u ss f) :=
  mgfWith h

theorem mgfSync {u} (h : was.Steady g s) : was.Steady g (s.mgfSync u) := by
  have hclear : ∀ {lo w}, clearField g (pageKind .mgf) ⟨0x44 + 4 * u.val, lo, w⟩ = true :=
    clearField_mgf (show 0x44 + 4 * u.val < 0x1000 by omega)
  exact setFlag (setFlag (setFlag (setFlag (put (put h hclear) hclear) hclear) hclear) hclear) hclear

theorem emptyEps {u} (h : was.Steady g s) : was.Steady g (s.emptyEps u).2 :=
  ite (put (mgfWith h) (clearField_mgf (f := F.MGF_Uu_BULK_LOST u.val) (by simp only [F.MGF_Uu_BULK_LOST]; omega))) (mgfWith h)

theorem clearSeqs {u} (h : was.Steady g s) : was.Steady g (s.clearSeqs u) :=
  put (mgfWith h) (clearField_mgf (f := F.MGF_Uu_STATUS_HALT u.val) (by simp only [F.MGF_Uu_STATUS_HALT]; omega))

theorem stageMet {u} (h : was.Steady g s) : was.Steady g (s.stageMet u).2 := by
  unfold State.stageMet
  repeat' first | (with_reducible first | assumption | apply free) | split

theorem fnReset {u ss kind} (h : was.Steady g s) : was.Steady g (s.fnReset u ss kind) :=
  ite (raisePres (mgfSync (setFlag (semOrphanHost (count (clearSeqs (emptyEps (mgfWith (stageMet (mgfInstWith h)))))
    (clearField_mgf (f := F.MGF_Uu_CNT_RESETS u.val) (by simp only [F.MGF_Uu_CNT_RESETS]; omega))))
    (clearField_mgf (f := F.MGF_Uu_STATUS_NOTICE_PENDING u.val) (by simp only [F.MGF_Uu_STATUS_NOTICE_PENDING]; omega)))))
    (mgfSync (mgfInstWith h))

theorem fnSuspend {u ss b} (h : was.Steady g s) : was.Steady g (s.fnSuspend u ss b) :=
  mgfSync (mgfInstWith h)

/-! ### The definitions of Machine/Usb2Hub.lean -/

theorem cptSeen {hc b} (h : was.Steady g s) : was.Steady g (s.cptSeen hc b) := by
  unfold State.cptSeen
  split
  · exact ite (setCptByte h (by decide)) h
  · exact h

theorem ctxRecord {hc e detail} (h : was.Steady g s) : was.Steady g (s.ctxRecord hc e detail) := by
  unfold State.ctxRecord
  repeat' first | (with_reducible first | assumption | apply raisePres) | split

theorem ctxResumeRecord {hc cause} (h : was.Steady g s) : was.Steady g (s.ctxResumeRecord hc cause) :=
  ctxRecord h

theorem countMerged {hc} (h : was.Steady g s) : was.Steady g (s.countMerged hc) := by
  unfold State.countMerged
  repeat' first | (with_reducible first | assumption | apply count) | exact rfl | split

theorem hostPower {p}
    (h : was.Steady false s) : was.Steady false (s.hostPower p) :=
  ite (askTurnOn h) (vbsOpen h)

theorem powerOffPort {p}
    (h : was.Steady false s) : was.Steady false (s.powerOffPort p) :=
  hostPower (u2Eval (ite (u2Gone h) h))

theorem ctxResetPort {hc p}
    (h : was.Steady false s) : was.Steady false (s.ctxResetPort hc p) :=
  ite (powerOffPort (u2pWith (setPowerBit h))) (u2pWith (setPowerBit h))

theorem fbForget {hc} (h : was.Steady g s) : was.Steady g (s.fbForget hc) := by
  unfold State.fbForget
  repeat' first | (with_reducible first | assumption | apply presWith) | split

theorem ctxResetOne {hc speed} (h : was.Steady false s) : was.Steady false (s.ctxResetOne hc speed) := by
  unfold State.ctxResetOne
  repeat' first
    | with_reducible first
      | assumption | apply count | apply hubWith | apply cptSeen | apply ctxResumeRecord
      | apply ctxResetPort | apply fbForget | apply cptWith | refine foldl (fun _ _ _ => ?_) ?_
    | exact rfl | split

theorem ctxReset {hc speed} (h : was.Steady false s) : was.Steady false (s.ctxReset hc speed) := by
  unfold State.ctxReset
  repeat' first
    | with_reducible first
      | assumption | apply fnReset | apply ctxResetOne | refine foldl (fun _ _ _ => ?_) ?_
    | split

theorem fnFollows {hc b} (h : was.Steady g s) : was.Steady g (s.fnFollows hc b) := by
  unfold State.fnFollows
  repeat' first | (with_reducible first | assumption | apply fnSuspend) | split

theorem startResume {p fromL1 cause sets} (h : was.Steady g s) :
    was.Steady g (s.startResume p fromL1 cause sets) :=
  setU2 (u2pWith h)

theorem mergeDevice {hc p} (h : was.Steady g s) : was.Steady g (s.mergeDevice hc p) :=
  ite (startResume (count h rfl)) (ite (startResume (count h rfl)) (ctxResumeRecord (count h rfl)))

theorem ctxResumeOne {hc device met} (h : was.Steady g s) :
    was.Steady g (s.ctxResumeOne hc device met) := by
  unfold State.ctxResumeOne
  repeat' first
    | with_reducible first
      | assumption | apply ite | apply hubWith | apply cptSeen | apply ctxResumeRecord
      | apply countMerged | apply fnFollows | apply mergeDevice
    | split

theorem ctxDriveK {hc} (h : was.Steady g s) : was.Steady g (s.ctxDriveK hc) :=
  ite h (ctxResumeRecord (hubWith h))

theorem rootWake {u} (h : was.Steady g s) : was.Steady g (s.rootWake u) :=
  ite h (foldl (fun _ _ h' => ite h' (ctxResumeOne h')) (ctxDriveK h))

theorem propagate {hc} (h : was.Steady g s) : was.Steady g (s.propagate hc) := by
  unfold State.propagate
  repeat' first | (with_reducible first | assumption | apply ctxDriveK | apply rootWake) | split

/-! ### The definitions of Machine/PrsMove.lean -/

theorem setMoveCause {p cause} (h : was.Steady g s) : was.Steady g (s.setMoveCause p cause) :=
  h.hidden rfl rfl rfl

theorem setBegun {p b} (h : was.Steady g s) : was.Steady g (s.setBegun p b) :=
  h.hidden rfl rfl rfl

theorem batchEnd {u} (h : was.Steady g s) :
    was.Steady g (s.batchEnd u) := by
  unfold State.batchEnd
  repeat' first
    | with_reducible first
      | assumption | apply presWith | apply maskWake | apply propagate
      | refine foldl (fun _ _ _ => ?_) ?_
    | split

theorem batchesEnd (h : was.Steady g s) : was.Steady g s.batchesEnd :=
  batchEnd (batchEnd h)

theorem moveCancel {p} (h : was.Steady g s) :
    was.Steady g (s.moveCancel p) :=
  batchesEnd (foldl (fun _ _ h' => presWith h') (setBegun (put (ite h (putRw h (clearField_owner p))) (clearField_owner p))))

theorem moveDecide {p cause} (h : was.Steady g s) :
    was.Steady g (s.moveDecide p cause) :=
  ite (ite (moveCancel (ite (put h (clearField_owner p)) h)) (setMoveCause h)) (ite h (setBegun
    (put (setMoveCause h) (clearField_owner p))))

theorem moveRequest {p v cause} (h : was.Steady g s) :
    was.Steady g (s.moveRequest p v cause) :=
  ite h (moveDecide (putRw h (clearField_owner p)))

/-! ### The definitions of Machine/SsHub.lean -/

theorem setUpState {u v} (h : was.Steady g s) : was.Steady g (s.setUpState u v) :=
  put h rfl

theorem routeDrop {k n} (h : was.Steady g s) : was.Steady g (s.routeDrop k n) :=
  countBy h rfl

theorem ssResetPort {k c j} (h : was.Steady false s) : was.Steady false (s.ssResetPort k c j) := by
  unfold State.ssResetPort
  repeat' with_reducible first
    | assumption | apply ite | apply u2pWith | apply sspWith | apply ssHubWith | apply ssDiscard
    | apply ssLeave | apply hostPower

theorem ssCtxResetOne {k c} (h : was.Steady false s) : was.Steady false (s.ssCtxResetOne k c) := by
  unfold State.ssCtxResetOne
  repeat' with_reducible first
    | assumption | apply upLkWith | apply ssHubWith | apply routeDrop | apply ssResetPort
    | refine foldl (fun _ _ _ => ?_) ?_

theorem ssPresReset {u kind} (h : was.Steady false s) : was.Steady false (s.ssPresReset u kind) := by
  unfold State.ssPresReset
  repeat' with_reducible first
    | assumption | apply upLkWith | apply ssHubWith | apply fnReset | apply ssCtxResetOne
    | refine foldl (fun _ _ _ => ?_) ?_

/-! ### The definitions of Machine/Grv.lean -/

theorem jobWith {id f} (h : was.Steady g s) : was.Steady g (s.jobWith id f) :=
  grvWith h

theorem askGroup (h : was.Steady g s) : was.Steady g s.askGroup := by
  unfold State.askGroup
  repeat' first | (with_reducible first | assumption | apply askLeave | apply jobWith) | split

theorem nextGroup (h : was.Steady g s) : was.Steady g s.nextGroup :=
  askGroup (askGroup h)

theorem groupCheck {id} (h : was.Steady false s) : was.Steady false (s.groupCheck id) := by
  unfold State.groupCheck
  repeat' first
    | with_reducible first
      | assumption | apply endLeave | apply jobWith | apply nextGroup
    | split

theorem jobEnds {j p code} (h : was.Steady false s) : was.Steady false (s.jobEnds j p code) :=
  groupCheck (partEnd h)

theorem startPart {j p} (h : was.Steady false s) : was.Steady false (s.startPart j p) := by
  unfold State.startPart
  dsimp only
  repeat' first | (with_reducible first | assumption | apply put | apply jobEnds) | exact rfl | split

theorem startJob {j} (h : was.Steady false s) : was.Steady false (s.startJob j) :=
  foldl (fun _ _ h' => ite (startPart h') h') (jobWith h)

theorem fanGrant {w} (h : was.Steady false s) : was.Steady false (s.fanGrant w) := by
  unfold State.fanGrant
  repeat' first
    | with_reducible first
      | assumption | apply opDone | apply jobWith | apply groupCheck | apply startJob
    | split

/-! ### The definitions of Machine/Prs.lean -/

theorem ctxWakeUp {hc} (h : was.Steady g s) : was.Steady g (s.ctxWakeUp hc) :=
  ite h (hubWith h)

theorem upGone {u cause} (h : was.Steady false s) : was.Steady false (s.upGone u cause) :=
  setUpState (put (put (ite (ite (raisePres h) h) (ssPresReset (ite (raisePres h) h))) rfl) rfl)

theorem batchAdd {u ps cause} (h : was.Steady g s) : was.Steady g (s.batchAdd u ps cause) := by
  unfold State.batchAdd
  repeat' with_reducible first | assumption | apply presWith

theorem movePorts {u ps cause} (h : was.Steady g s) :
    was.Steady g (s.movePorts u ps cause) :=
  batchAdd (foldl (fun _ _ h' => moveRequest h') h)

theorem failbackCancel {u} (h : was.Steady g s) :
    was.Steady g (s.failbackCancel u) :=
  foldl (fun _ _ h' => ite (moveCancel h') h') h

theorem foDecide {u trigger first} (h : was.Steady g s)
    : was.Steady g (s.foDecide u trigger first) :=
  ite (movePorts (presWith (raisePres (ite (failbackCancel (presWith (count h rfl))) h)))) (presWith (raisePres (ite
    (failbackCancel (presWith (count h rfl))) h)))

theorem failover {u trigger first} (h : was.Steady g s)
    : was.Steady g (s.failover u trigger first) :=
  ite h (ite (foDecide h) (presWith h))

theorem liveCheck {u trigger} (h : was.Steady g s) :
    was.Steady g (s.liveCheck u trigger) :=
  ite (failover (presWith h)) h

theorem failbackTo {u ps mode} (h : was.Steady g s) :
    was.Steady g (s.failbackTo u ps mode) :=
  ite h (movePorts (raisePres (count h rfl)))

theorem fbDecide {u} (h : was.Steady g s) :
    was.Steady g (s.fbDecide u) :=
  ite h (failbackTo h)

/-! ### The definitions of Machine/Store.lean -/

theorem setCfgOp {o} (h : was.Steady g s) : was.Steady g (s.setCfgOp o) :=
  setFlag (h.hidden rfl rfl rfl) rfl

theorem commitGranted (h : was.Steady g s) : was.Steady g s.commitGranted := by
  unfold State.commitGranted
  split
  · next target seq _ =>
    have hwear : was.Steady g { s with wear := s.wear.set target (min (s.wear[target] + 1) (2 ^ 32 - 1)) } := h.hidden rfl rfl rfl
    exact setCfgOp (ite (setFault hwear) hwear)
  · exact h

/-! ### The definitions of Machine/Bgt.lean -/

theorem leaveEvent {e op reason} (h : was.Steady g s) : was.Steady g (s.leaveEvent e op reason) := by
  unfold State.leaveEvent
  repeat' first | (with_reducible first | assumption | apply raisePort | apply raise) | split

theorem deferReq {r why} (h : was.Steady false s) : was.Steady false (s.deferReq r why) := by
  unfold State.deferReq
  repeat' first
    | with_reducible first
      | assumption | apply putGrantSt | apply put | apply count | apply arbWith | apply arbSync | apply leaveEvent
    | exact rfl | exact fun _ => ⟨rfl, rfl⟩ | split

theorem leaveReq {r why} (h : was.Steady false s) : was.Steady false (s.leaveReq r why) := by
  unfold State.leaveReq
  repeat' first
    | with_reducible first
      | assumption | apply arbWith | apply deferReq
    | exact fun _ => ⟨rfl, rfl⟩

theorem dropReq {op} (h : was.Steady g s) : was.Steady g (s.dropReq op) :=
  arbSync (arbWith h (fun _ => ⟨rfl, rfl⟩))

theorem setGrant {p v} (h : was.Steady false s) :
    was.Steady false (s.setGrant p v) :=
  grantChanged (putGrant h)

theorem startOp {a0} (h : was.Steady false s) :
    was.Steady false (s.startOp a0) := by
  unfold State.startOp
  repeat' first
    | with_reducible first
      | assumption | apply firstSettled | apply turnOnGranted | apply raiseGrant | apply setDrcSt
      | apply fanGrant | apply commitGranted
    | split

theorem grantReq {op} (h : was.Steady false s) : was.Steady false (s.grantReq op) := by
  unfold State.grantReq
  repeat' first
    | with_reducible first
      | assumption | apply putGrantSt | apply put | apply arbWith | apply leaveEvent | apply dropReq | apply setGrant
      | apply startOp
    | exact rfl | exact fun _ => ⟨rfl, rfl⟩ | split

theorem capReq {op} (h : was.Steady false s) : was.Steady false (s.capReq op) := by
  unfold State.capReq
  repeat' first
    | with_reducible first
      | assumption | apply raiseCap | apply leaveEvent | apply dropReq
    | split

theorem denyReq {op} (h : was.Steady false s) : was.Steady false (s.denyReq op) := by
  unfold State.denyReq
  repeat' first
    | with_reducible first
      | assumption | apply putGrantSt | apply put | apply powerFails | apply firstSettled | apply leaveEvent
      | apply dropReq
    | exact rfl | split

theorem tryReq {acc r} (h : was.Steady false acc.1) : was.Steady false (State.tryReq acc r).1 := by
  unfold State.tryReq
  repeat' first
    | split
    | with_reducible first
      | assumption | apply leaveReq | apply grantReq | apply capReq | apply denyReq

theorem decideOnce
    (h : was.Steady false s) : was.Steady false s.decideOnce.1 :=
  foldl_fst (fun _ _ h' => tryReq h') h

theorem decideUpTo {n} (h : was.Steady false s) : was.Steady false (State.decideUpTo n s) := by
  induction n generalizing s with
  | zero => exact h
  | succ n ih => exact ite (ih (decideOnce h)) (decideOnce h)

theorem arbDecide
    (h : was.Steady false s) : was.Steady false s.arbDecide :=
  ite (decideUpTo h) h

theorem revokeEvent {p step} (h : was.Steady g s) : was.Steady g (s.revokeEvent p step) :=
  raisePort h

theorem cutHeadroom {p least}
    (h : was.Steady false s) : was.Steady false (s.cutHeadroom p least) :=
  ite (setGrant h) h

theorem revokeTo {p dest} (h : was.Steady false s)
    : was.Steady false (s.revokeTo p dest) :=
  ite h (revokeEvent (setGrant (putGrantSt (ite h (count h rfl)))))

theorem revokeRemove {p}
    (h : was.Steady false s) : was.Steady false (s.revokeRemove p) :=
  askAtOnce (revokeEvent (returnGrant (endReserve (vbsOpen h))))

theorem revokeForced {p}
    (h : was.Steady false s) : was.Steady false (s.revokeForced p) :=
  revokeRemove (ite h (count h rfl))

theorem revokePool
    (h : was.Steady false s) : was.Steady false s.revokePool :=
  ite h (foldl (fun _ _ h' => ite h' (revokeForced h')) (foldl (fun _ _ h' => ite h' (revokeTo h'))
    (foldl (fun _ _ h' => ite h' (cutHeadroom h')) h)))

theorem askDenied {p} (h : was.Steady false s) : was.Steady false (s.askDenied p) :=
  ite (askAtOnce (putGrantSt h)) h

theorem poolSet {first} (h : was.Steady false s) : was.Steady false (s.poolSet first) :=
  ite h (foldl (fun _ _ h' => askDenied h') (raise (put h rfl)))

theorem poolFollow (h : was.Steady false s) : was.Steady false s.poolFollow :=
  ite h (arbDecide (revokePool (poolSet h)))


end State.Steady
end Sys2Proof.Machine

namespace Sys2Proof.Machine

/-! PROOFS. The budget arbiter's commands (O28): what the pending requests are answered is one operation; with none pending it does nothing,
and with one that fits it grants that one. -/

/-! ### Decisions of the arbiter -/

section
variable {s : State}

/-- With no request pending there is nothing to decide (R186). -/
theorem State.decideOnce_of_idle (h : s.arb.reqs = []) : s.decideOnce = (s, false) := by
  simp [State.decideOnce, State.orderedReqs, h]

theorem State.decideUpTo_of_idle (n : Nat) (h : s.arb.reqs = []) : State.decideUpTo n s = s := by
  cases n with
  | zero => rfl
  | succ n => simp [State.decideUpTo, State.decideOnce_of_idle h]

theorem State.arbDecide_of_idle (h : s.arb.reqs = []) : s.arbDecide = s := by
  unfold State.arbDecide
  rw [State.decideUpTo_of_idle _ h, ite_self]

/-- One request that is granted alone: its grant is the whole decision. -/
theorem State.arbDecide_of_grant {r : LeaveReq} (hup : s.coreUp = true) (hload : s.loaded = true) (hreq : s.arb.reqs = [r])
    (hgrant : s.verdict 0 r.op = .grant) (hidle : (s.grantReq r.op).arb.reqs = []) : s.arbDecide = s.grantReq r.op := by
  have horder : s.orderedReqs = [r] := by simp [State.orderedReqs, hreq, State.placeReq]
  have honce : s.decideOnce = (s.grantReq r.op, true) := by
    simp [State.decideOnce, horder, State.tryReq, hgrant]
  unfold State.arbDecide
  rw [if_pos (by simp [hup, hload]), State.decideUpTo, honce]
  exact State.decideUpTo_of_idle _ hidle

end

/-! ### The upstream calibration granted (R184, R185) -/

section
variable {s : State}

/-- The arbiter once the only operation that asks, the upstream calibration, has reached it. -/
def Arbiter.upCalAsked (a : Arbiter) : Arbiter :=
  { a with asks := [], arrivals := a.arrivals + 1, reqs := [⟨.upCal, a.arrivals, none, false⟩] }

theorem State.deliver_upCal (hasks : s.arb.asks = [.upCal]) (hreqs : s.arb.reqs = []) :
    s.deliver [.upCal] = s.arbWith Arbiter.upCalAsked := by
  simp [State.deliver, State.arbWith, Arbiter.upCalAsked, hasks, hreqs]

/-- An operation of no port is granted where its die cost fits (R185). -/
theorem State.verdict_upCal (hon : s.pageOn .bgt = true) (hbad : s.bgtBad = false) (hfits : s.dieFits .upCal = true) (blocked : Nat) :
    s.verdict blocked .upCal = .grant := by
  obtain ⟨hpool, hdie⟩ : s.poolBad = false ∧ s.dieBad = false := by simpa [State.bgtBad] using hbad
  simp [State.verdict, hon, hpool, hdie, hfits]

/-- The calibration granted: its die cost is charged and it runs. -/
def State.upCalCharged (s : State) : State :=
  let s1 := (s.dropReq .upCal).arbWith (fun a => { a with running := a.running ++ [.upCal] })
  s1.put .bgt F.BGT_DIE_STATUS_USED (min (s1.get .bgt F.BGT_DIE_STATUS_USED + s1.leaveCost .upCal) 4095)

theorem State.grantReq_upCal (s : State) : s.grantReq .upCal =
    s.upCalCharged.raise .bgt evGrant 0 (leaveKind .upCal * 0x1000 + 0 * 0x10000) := rfl

theorem State.raiseWith_arb (s : State) (pg : PageId) (e : Ev) (src d : Nat) (b : Bool) (j : Subject) :
    (s.raiseWith pg e src d b j).arb = s.arb := by
  unfold State.raiseWith
  split
  · obtain ⟨fifos, hf⟩ := s.handOff_parts (pg.base / 0x1000) (s.mkRecord pg e src d b j)
    rw [hf]
  · next n _ =>
    extract_lets s1
    obtain ⟨fifos, hf⟩ := s1.handOff_parts (pg.base / 0x1000) (s1.mkRecord pg e src d b j)
    rw [hf]
    split <;> rfl

theorem State.grantReq_upCal_arb (s : State) : (s.grantReq .upCal).arb =
    { s.arb with reqs := s.arb.reqs.filter (fun x => x.op != .upCal), running := s.arb.running ++ [.upCal] } := by
  rw [State.grantReq_upCal]
  exact State.raiseWith_arb ..

/-- A request dropped leaves the registers but the count of deferred ones. -/
theorem State.dropReq_get (s : State) (op : LeaveOp) {pg : PageId} {f : Fld} (hf : f.off < 0x1000)
    (h : f.lo + f.width ≤ 16 ∨ f.off ≠ 0x5C) :
    (s.dropReq op).get pg f = s.get pg f := by
  refine (State.get_put_fld _ _ _ F.BGT_DIE_STATUS_PENDING f _ (by decide) hf ?_).trans rfl
  simp only [F.BGT_DIE_STATUS_PENDING]
  omega

theorem State.grantReq_upCal_USED (s : State) : (s.grantReq .upCal).get .bgt F.BGT_DIE_STATUS_USED =
    min (s.get .bgt F.BGT_DIE_STATUS_USED + s.leaveCost .upCal) 4095 := by
  have hcost : (s.dropReq .upCal).leaveCost .upCal = s.leaveCost .upCal := by
    have hget := s.dropReq_get .upCal (pg := .bgt) (f := F.BGT_DIE_COST0_UPCAL) (by decide) (by decide)
    simp only [State.leaveCost, State.cfg, hget]
    rfl
  rw [State.grantReq_upCal, State.get_raise _ _ _ _ _ _ _ _ (by decide) (by decide)]
  unfold State.upCalCharged
  extract_lets s1
  rw [State.get_put_same _ _ _ _ (by decide)]
  have hused : s1.get .bgt F.BGT_DIE_STATUS_USED = s.get .bgt F.BGT_DIE_STATUS_USED := s.dropReq_get .upCal (by decide) (by decide)
  have hcost1 : s1.leaveCost .upCal = s.leaveCost .upCal := hcost
  rw [hused, hcost1]
  exact Nat.mod_eq_of_lt (show min _ 4095 < 4096 by omega)

end

/-! ### Grants that grow (R188) -/

section
variable {s : State} {p : Port}

/-- `TARGET` in force fits its field (R189). -/
theorem State.bgtTarget_le (s : State) (p : Port) : s.bgtTarget p ≤ 2400 := by
  have hdflt : defaultGrant p ≤ 2400 := by unfold defaultGrant; split <;> decide
  unfold State.bgtTarget clampTo
  grind

/-- A grant set reads as the value set: what follows it writes no grant (R188). -/
theorem State.grant_setGrant {v : Nat} (hv : v < 4096) : (s.setGrant p v).grant p = v := by
  have hkeep : (s.put .bgt (F.BGT_GRANTn_GRANT p.val) v).Steady true (s.setGrant p v) := State.Steady.grantChanged (.refl _)
  have hmark : markField true .bgt (F.BGT_GRANTn_GRANT p.val) :=
    .inr ⟨rfl, Nat.le_add_right .., show 0x180 + 4 * p.val < 0x280 by omega⟩
  refine (hkeep.get _ _ hmark).trans ((State.get_put_same _ _ _ _ (show 0 + 12 ≤ 32 by decide)).trans (Nat.mod_eq_of_lt hv))

end

/-! ### The pool -/

/-- The feeds as FEED_GOODNESS_CHANGE names them, and the pool that they ask for (R182); what follows the pool comes after it. -/
def State.feedsChanged (s : State) (ga gb : Bool) : State :=
  let any := s.arb.goodA || s.arb.goodB
  let dual := s.flag .bgt F.BGT_POOL_STATUS_DUAL
  (s.arbWith (fun x => { x with goodA := ga, goodB := gb, growing := ga && gb && any && !dual })).setFlag .bgt F.BGT_POOL_STATUS_DUAL
    (ga && gb && (dual || !any))

theorem exec_feedGoodnessChange {s : State} (hup : s.coreUp = true) (ga gb : Bool) :
    exec (.feedGoodnessChange ga gb) s = .next (s.feedsChanged ga gb).poolFollow :=
  if_neg (by simp [hup])

/-- With a feed lost the pool of one feed or of none is in force at once (R182). -/
theorem State.feedsChanged_DUAL (s : State) {ga gb : Bool} (h : ga = false ∨ gb = false) :
    (s.feedsChanged ga gb).get .bgt F.BGT_POOL_STATUS_DUAL = 0 := by
  have hboth : (ga && gb) = false := by rcases h with rfl | rfl <;> simp
  unfold State.feedsChanged
  rw [hboth]
  exact State.get_put_same _ _ _ _ (by decide)

/-- Settles O28: most commands hand their state to the decision at once; a grant that grows and the pool that a lost feed leaves stand because
nothing that follows writes them. -/
theorem arbiterAnswersItsCommands : Obligations.ArbiterAnswersItsCommands := by
  unfold Obligations.ArbiterAnswersItsCommands
  refine ⟨fun ops s hup hload => ?request, fun ops s hup hload hops hasks hreqs _ hon hbad hfits => ?upCal, fun op s hdone => ?done,
    fun p s hreq => ?withdraw, fun s hup => ?window, fun s hup hreqs => ?emptyWindow, fun s hup => ?gap,
    fun s hup hload hfirst => ?pacing, fun p s hmay hfree hfind => ?growth, fun p s hup hst hbad => ?timeEnd,
    fun p s hup hst hfits hcur => ?success, fun ga gb s hup hload hlost _ => ?feeds, fun s hgrow => ?growDelay⟩
  case request => exact ⟨_, if_neg (by simp [hup, hload]), rfl⟩
  case upCal =>
    subst hops
    have hdeliver := State.deliver_upCal hasks hreqs
    have hverdict : (s.arbWith Arbiter.upCalAsked).verdict 0 .upCal = .grant := State.verdict_upCal hon hbad hfits 0
    have hdecide : (s.arbWith Arbiter.upCalAsked).arbDecide = (s.arbWith Arbiter.upCalAsked).grantReq .upCal :=
      State.arbDecide_of_grant (r := ⟨.upCal, s.arb.arrivals, none, false⟩) hup hload rfl hverdict
        (congrArg Arbiter.reqs (State.grantReq_upCal_arb _))
    refine ⟨_, if_neg (by simp [hup, hload]), ?_⟩
    rw [hdeliver, hdecide]
    refine ⟨?_, State.grantReq_upCal_USED _⟩
    rw [State.grantReq_upCal_arb]
    exact List.mem_append_right _ List.mem_cons_self
  case done => exact ⟨_, if_neg (by simpa using hdone), rfl⟩
  case withdraw => exact ⟨_, congrArg Host.Outcome.next (if_pos hreq), rfl⟩
  case window => exact ⟨_, if_neg (by simp [hup]), rfl⟩
  case emptyWindow =>
    refine ⟨_, if_neg (by simp [hup]), ?_⟩
    rw [State.arbDecide_of_idle (by exact hreqs)]
    exact State.get_put_same _ _ _ _ (by decide)
  case gap => exact ⟨_, if_neg (by simp [hup]), rfl⟩
  case pacing => exact ⟨_, if_neg (by simp [hup, hload, hfirst]), State.get_put_same _ _ _ _ (by decide), rfl⟩
  case growth =>
    have hexec : exec .growth s = .next (s.setGrant p (s.grant p + min (s.bgtTarget p - s.grant p) s.freePower)) := by
      simp [exec, execGrowth, hmay, hfree, hfind]
    have hbelow : s.grant p < s.bgtTarget p := by
      have hgrowable : s.growable p = true := List.find?_some hfind
      simp only [State.growable, Bool.and_eq_true, decide_eq_true_eq] at hgrowable
      exact hgrowable.2
    have htarget := s.bgtTarget_le p
    exact ⟨_, hexec, State.grant_setGrant (by omega)⟩
  case timeEnd => exact ⟨_, if_neg (by simp [hup, hst, hbad]), rfl⟩
  case success => exact ⟨_, if_neg (by simp [hup, hst]; omega), rfl⟩
  case feeds =>
    have hkeep : (s.feedsChanged ga gb).Steady false (s.feedsChanged ga gb).poolFollow := .poolFollow (.refl _)
    exact ⟨_, exec_feedGoodnessChange hup ga gb, hkeep.goodA, hkeep.goodB,
      (hkeep.get .bgt _ (.inl rfl)).trans (s.feedsChanged_DUAL hlost)⟩
  case growDelay => exact ⟨_, if_neg (by simp [hgrow]), rfl⟩

end Sys2Proof.Machine

namespace Sys2Proof.Machine

/-! PROOFS. Attach and detach of presentations (O48). -/

/-! ### The upstream connector (R226) -/

section
variable {s : State} {u : Up}

/-- An upstream port whose connector has lost its source: no orientation, no Rp, VBUS at a free value below 3.67 V. -/
def State.unplugged (s : State) (u : Up) : State :=
  let pg := PageId.ups u
  let s0 : State := { s.free.2 with upWant := s.free.2.upWant.set u .none }
  (((s0.put pg F.UPS_CC_STATUS_ATTACHED 0).put pg F.UPS_CC_STATUS_ORIENT_VALID 0).put pg F.UPS_CC_STATUS_RP_LVL 0).put pg
    F.UPS_CC_STATUS_VBUS (s.free.1.toNat % 261)

theorem exec_upstreamDetach (h : s.flag (.ups u) F.UPS_CC_STATUS_ATTACHED = true) : exec (.upstreamDetach u) s =
    .next ((((s.unplugged u).presDetach u 0).put (.ups u) F.UPS_LINK_STATUS_U2_ONLY 0).liveCheck u 1) :=
  if_neg (by simp [h])

theorem State.unplugged_CC_STATUS (s : State) (u : Up) : (s.unplugged u).get (.ups u) F.UPS_CC_STATUS_ATTACHED = 0 ∧
    (s.unplugged u).get (.ups u) F.UPS_CC_STATUS_ORIENT_VALID = 0 ∧ (s.unplugged u).get (.ups u) F.UPS_CC_STATUS_RP_LVL = 0 := by
  unfold State.unplugged
  extract_lets pg s0
  refine ⟨?_, ?_, ?_⟩
  · rw [State.get_put_bits _ _ _ _ _ (by decide), State.get_put_bits _ _ _ _ _ (by decide), State.get_put_bits _ _ _ _ _ (by decide),
      State.get_put_same _ _ _ _ (by decide)]
    rfl
  · rw [State.get_put_bits _ _ _ _ _ (by decide), State.get_put_bits _ _ _ _ _ (by decide), State.get_put_same _ _ _ _ (by decide)]
    rfl
  · rw [State.get_put_bits _ _ _ _ _ (by decide), State.get_put_same _ _ _ _ (by decide)]
    rfl

end

/-! ### A presentation's bit -/

section
variable {s : State} {u : Up}

theorem State.presAttached_setAttached (s : State) (u : Up) (b : Bool) : (s.setAttached u b).presAttached u = b := by
  have hoff : (F.PRS_Uu_STATUS_ATTACHED u.val).off < 0x1000 := show 0x4C + 4 * u.val < 0x1000 by omega
  unfold State.setAttached State.presAttached State.setFlag
  rw [State.flag_put_page _ _ _ _ (by decide) (by exact (by decide : (0x64 : Nat) < 0x1000)) hoff,
    State.flag_put_same _ _ _ _ (show 0 + 1 ≤ 32 by decide)]
  cases b <;> rfl

theorem State.setAttached_READY (s : State) (u : Up) : (s.setAttached u true).get .glb (fldBit F.GLB_READY_PRES_ATTACHED u.val) = 1 := by
  refine (State.get_put_same _ _ _ _ (show 11 + u.val + 1 ≤ 32 by omega)).trans rfl

/-- An upstream port's own registers stay as its presentation's bit changes. -/
theorem State.setAttached_ups (s : State) (b : Bool) {f : Fld} (hf : f.off < 0x1000) :
    (s.setAttached u b).get (.ups u) f = s.get (.ups u) f := by
  unfold State.setAttached State.setFlag
  rw [State.get_put_page _ _ _ _ (by simp) (by exact (by decide : (0x64 : Nat) < 0x1000)) hf,
    State.get_put_page _ _ _ _ (by simp) (show 0x4C + 4 * u.val < 0x1000 by omega) hf]

/-- Where `PRS_Uu_STATUS.ATTACHED` stands. -/
theorem markField_ATTACHED (g : Bool) (u : Up) : markField g .prs (F.PRS_Uu_STATUS_ATTACHED u.val) := by
  rcases (by omega : u.val = 0 ∨ u.val = 1) with h | h <;> rw [h]
  · exact .inl rfl
  · exact .inr rfl

theorem State.Steady.presAttached {g : Bool} {t : State} (h : s.Steady g t) (u : Up) : t.presAttached u = s.presAttached u := by
  simp only [State.presAttached, State.flag, h.get _ _ (markField_ATTACHED g u)]

end

/-! ### Detach (R344) -/

/-- A detach but for its bit: what comes before it and what comes after it keep the marked fields. -/
theorem State.presDetach_split {s : State} {u : Up} (h : s.presAttached u = true) (cause : Nat) :
    ∃ s3, s.Steady false s3 ∧ (s3.setAttached u false).Steady false (s.presDetach u cause) := by
  unfold State.presDetach
  rw [if_neg (by simp [h])]
  extract_lets s1 s2 s3 s4
  have h1 : s.Steady false s1 := .ctxReset (.refl s)
  have h2 : s.Steady false s2 := .ite h1 (.upGone h1)
  exact ⟨s3, .foldl (fun _ _ h' => .hubWith h') h2, .semOrphanHost (.raisePres (.presWith (.mgfWith (.refl _))))⟩

theorem State.presDetach_presAttached (s : State) (u : Up) (cause : Nat) : (s.presDetach u cause).presAttached u = false := by
  by_cases h : s.presAttached u = true
  · obtain ⟨s3, -, hafter⟩ := State.presDetach_split h cause
    rw [hafter.presAttached, State.presAttached_setAttached]
  · have hno : s.presAttached u = false := by simpa using h
    have hself : s.presDetach u cause = s := if_pos (by simp [hno])
    rw [hself, hno]

/-- A detach leaves what the connector shows. -/
theorem State.presDetach_ups (s : State) (u : Up) (cause : Nat) {f : Fld} (hf : markField false (.ups u) f) :
    (s.presDetach u cause).get (.ups u) f = s.get (.ups u) f := by
  by_cases h : s.presAttached u = true
  · obtain ⟨s3, hbefore, hafter⟩ := State.presDetach_split h cause
    rw [hafter.get _ _ hf, State.setAttached_ups _ _ hf.off_lt, hbefore.get _ _ hf]
  · have hself : s.presDetach u cause = s := if_pos (by simpa using h)
    rw [hself]

/-! ### Attach (R135) -/

section
variable {s : State} {u : Up}

/-- The presentation's bit set and its restart over: where PRES_ATTACH begins. -/
def State.attachBegun (s : State) (u : Up) : State :=
  ((s.setAttached u true).presWith u (fun x => { x with restart := 0, suspEnded := false })).put .prs
    (if u = 0 then F.PRS_CTRL_REATTACH_U0 else F.PRS_CTRL_REATTACH_U1) 0

/-- A presentation's contexts in their default state. -/
def State.contextsWoken (s : State) (u : Up) : State := (s.upHubs u).foldl (fun s hc => s.ctxWakeUp hc) s

/-- The links of the ports looked at, the SuperSpeed power bits of the presentation's plate contexts 0 (R329). -/
def State.linksLooked (s : State) (u : Up) : State :=
  allPlates.foldl (fun s k => (plateFulls k).foldl (fun s f => s.ssEval f) (s.ssHubWith (.plate k u) (fun h => { h with power := 0 }))) s

/-- The rest of an attach, in native or in compatibility mode: contexts, links and record. -/
def State.attachEnded (s : State) (u : Up) (compat : Bool) : State :=
  let s4 := if compat then s.contextsWoken u else (s.contextsWoken u).linksLooked u
  let s5 := if s4.upMayRun u then s4.setUpState u lkRxDetect else s4
  s5.raisePres .prs u evPresAttach u.val (1 + 32 * bit (s5.isFlat u))

theorem exec_presAttach (h : s.mayAttach u = true) : exec (.presAttach u) s = .next ((s.attachBegun u).attachEnded u s.compat) :=
  if_neg (by simp [h])

theorem State.attachBegun_steady (s : State) (u : Up) : (s.setAttached u true).Steady false (s.attachBegun u) :=
  .put (.presWith (.refl _)) (by split <;> rfl)

theorem State.attachEnded_steady (s : State) (u : Up) (compat : Bool) : s.Steady false (s.attachEnded u compat) := by
  have hcontexts : s.Steady false (s.contextsWoken u) := .foldl (fun _ _ h => .ctxWakeUp h) (.refl s)
  have hlinks : s.Steady false ((s.contextsWoken u).linksLooked u) :=
    .foldl (fun _ _ h => .foldl (fun _ _ h' => .ssEval h') (.ssHubWith h)) hcontexts
  have hboth := hcontexts.ite (c := compat = true) hlinks
  exact .raisePres (.ite (.setUpState hboth) hboth)

/-- The hidden parts that an attach changes once its presentation's own is set. -/
def Part.attachParts : List Part := [.freeCount, .hubCtx, .sspSt, .ssCtx, .upLink, .lheSt, .fifos, .graver]

theorem State.attachEnded_keeps (s : State) (u : Up) (compat : Bool) : s.KeepsBut Part.attachParts (s.attachEnded u compat) := by
  have hcontexts : s.KeepsBut Part.attachParts (s.contextsWoken u) := .foldl (fun _ _ h => .ctxWakeUp (by decide) h) (.refl s)
  have hlinks : s.KeepsBut Part.attachParts ((s.contextsWoken u).linksLooked u) :=
    .foldl (fun _ _ h => .foldl (fun _ _ h' => .ssEval (by decide) h') (.ssHubWith (by decide) h)) hcontexts
  have hboth := hcontexts.ite (c := compat = true) hlinks
  exact .raisePres (by decide) (.ite (.setUpState hboth) hboth)

/-- What an attach leaves: the presentation's bit and its copy in `GLB_READY`, and no restart. -/
theorem State.attached_parts (s : State) (u : Up) (compat : Bool) : ((s.attachBegun u).attachEnded u compat).presAttached u = true ∧
    (((s.attachBegun u).attachEnded u compat).pres u).restart = 0 ∧
    ((s.attachBegun u).attachEnded u compat).get .glb (fldBit F.GLB_READY_PRES_ATTACHED u.val) = 1 := by
  have hkeep := (s.attachBegun_steady u).trans ((s.attachBegun u).attachEnded_steady u compat)
  have hpres : ((s.attachBegun u).attachEnded u compat).presSt = (s.attachBegun u).presSt :=
    ((s.attachBegun u).attachEnded_keeps u compat).same .presSt rfl (by decide)
  have hmark : markField false .glb (fldBit F.GLB_READY_PRES_ATTACHED u.val) :=
    ⟨rfl, show 11 ≤ 11 + u.val by omega, show 11 + u.val + 1 ≤ 13 by omega⟩
  refine ⟨(hkeep.presAttached u).trans (s.presAttached_setAttached u true), ?_, (hkeep.get _ _ hmark).trans (s.setAttached_READY u)⟩
  have hsame : ((s.attachBegun u).attachEnded u compat).pres u = ((s.setAttached u true).presWith u
      (fun x => { x with restart := 0, suspEnded := false })).pres u := congrArg (fun v => v[u]) hpres
  rw [hsame, State.presWith_same]

end

/-! ### Moves asked of ports without one (R332) -/

section
variable {s : State}

theorem State.putRw_get (s : State) (pg : PageId) (f : Fld) (v : Nat) (pg' : PageId) (f' : Fld) :
    (s.putRw pg f v).get pg' f' = (s.put pg f v).get pg' f' := by
  simp only [State.get, State.putRw, State.mendParity_rd]

/-- `MOVING` is not `OWNER`, nor lies in another port's register. -/
theorem State.moving_putRw_OWNER (s : State) (p q : Port) (v : Nat) :
    (s.putRw .prs (F.PRS_OWNERn_OWNER p.val) v).moving q = s.moving q := by
  have hget : (s.put .prs (F.PRS_OWNERn_OWNER p.val) v).get .prs (F.PRS_OWNERn_MOVING q.val) = s.get .prs (F.PRS_OWNERn_MOVING q.val) :=
    State.get_put_bits _ _ _ _ _ (.inl (show 0 + 2 ≤ 10 by decide))
  simp only [State.moving, State.flag, State.putRw_get, hget]

theorem State.moving_put_MOVING_ne (s : State) {p q : Port} (h : q ≠ p) (v : Nat) :
    (s.put .prs (F.PRS_OWNERn_MOVING p.val) v).moving q = s.moving q := by
  have hne : q.val ≠ p.val := fun e => h (Fin.ext e)
  have hget : (s.put .prs (F.PRS_OWNERn_MOVING p.val) v).get .prs (F.PRS_OWNERn_MOVING q.val) = s.get .prs (F.PRS_OWNERn_MOVING q.val) :=
    State.get_put_off _ _ _ _ _ (show 0x100 + 4 * q.val ≠ 0x100 + 4 * p.val by omega)
  simp only [State.moving, State.flag, hget]

/-- A move of a port without one is begun, or is none (R332). -/
theorem State.moveDecide_of_still {p : Port} (h : s.moving p = false) (cause : Fin 5) : s.moveDecide p cause = s ∨
    s.moveDecide p cause = ((s.setMoveCause p cause).put .prs (F.PRS_OWNERn_MOVING p.val) 1).setBegun p (s.pageOn .prs) := by
  unfold State.moveDecide
  rw [h]
  extract_lets dest
  rw [if_neg Bool.false_ne_true]
  split
  · exact .inl rfl
  · exact .inr rfl

/-- So it changes parity marks and moves alone, and no other port's move. -/
theorem State.moveRequest_of_still {p : Port} (h : s.moving p = false) (v : Nat) (cause : Fin 5) :
    s.KeepsBut [.bad, .moveCause] (s.moveRequest p v cause) ∧ ∀ q, q ≠ p → (s.moveRequest p v cause).moving q = s.moving q := by
  have hkeep : s.KeepsBut [.bad, .moveCause] (s.putRw .prs (F.PRS_OWNERn_OWNER p.val) v) := .putRw (by decide) (.refl s)
  unfold State.moveRequest
  split
  · exact ⟨.refl s, fun _ _ => rfl⟩
  · rcases State.moveDecide_of_still ((s.moving_putRw_OWNER p p v).trans h) cause with e | e <;> rw [e]
    · exact ⟨hkeep, fun q _ => s.moving_putRw_OWNER p q v⟩
    · exact ⟨.setBegun (by decide) (.put (.setMoveCause (by decide) hkeep)),
        fun q hq => (State.moving_put_MOVING_ne _ hq 1).trans (s.moving_putRw_OWNER p q v)⟩

/-- Moves asked of ports that have none. -/
theorem State.moveRequests_of_still {ps : List Port} (hps : ps.Nodup) (h : ∀ p ∈ ps, s.moving p = false) (v : Nat) (cause : Fin 5) :
    s.KeepsBut [.bad, .moveCause] (ps.foldl (fun s p => s.moveRequest p v cause) s) := by
  induction ps generalizing s with
  | nil => exact .refl s
  | cons p ps ih =>
    obtain ⟨hp, hps'⟩ := List.nodup_cons.1 hps
    obtain ⟨hkeep, hothers⟩ := State.moveRequest_of_still (h p List.mem_cons_self) v cause
    refine hkeep.trans (ih hps' fun q hq => ?_)
    rw [hothers q (fun e => hp (e ▸ hq))]
    exact h q (List.mem_cons_of_mem p hq)

/-- A presentation but for its batch of moves. -/
def State.presBut (s : State) (u : Up) : PresSt := { s.pres u with batch := [] }

/-- Moves asked of ports that have none leave the hub contexts, and of the presentations all but a batch. -/
theorem State.movePorts_of_still {ps : List Port} (hps : ps.Nodup) (h : ∀ p ∈ ps, s.moving p = false) (u : Up) (cause : Fin 5) :
    (s.movePorts u ps cause).hubCtx = s.hubCtx ∧ (s.movePorts u ps cause).presBut u = s.presBut u := by
  have hkeep := State.moveRequests_of_still hps h (u.val + 1) cause
  have hhub := hkeep.same .hubCtx rfl (by decide)
  have hpres := hkeep.same .presSt rfl (by decide)
  refine ⟨hhub, ?_⟩
  unfold State.movePorts State.batchAdd State.presBut
  rw [State.presWith_same]
  simp only [State.pres, show State.presSt _ = s.presSt from hpres]

theorem State.moving_failbackNoted (s : State) (u : Up) (d : Nat) (q : Port) :
    ((s.count .prs F.PRS_CNT_FAILBACKS).raisePres .prs u evFailback u.val d).moving q = s.moving q := by
  have hget : (s.count .prs F.PRS_CNT_FAILBACKS).get .prs (F.PRS_OWNERn_MOVING q.val) = s.get .prs (F.PRS_OWNERn_MOVING q.val) :=
    State.get_put_off _ _ _ _ _ (show 0x100 + 4 * q.val ≠ 0x5C by omega)
  have hraise := State.get_raisePres (s.count .prs F.PRS_CNT_FAILBACKS) .prs .prs u evFailback u.val d true (F.PRS_OWNERn_MOVING q.val)
    (.inr (show 0x100 + 4 * q.val ≠ 0xC by omega)) (show 0x100 + 4 * q.val < 0x1000 by omega)
  simp only [State.moving, State.flag, hraise, hget]

/-- The ports that a failback chooses have no move. -/
theorem State.moving_of_mem_filter {ps : List Port} {a b : Port → Bool} {p : Port}
    (h : p ∈ ps.filter (fun p => a p && !s.moving p && b p)) : s.moving p = false := by
  have hchosen := (List.mem_filter.1 h).2
  simp only [Bool.and_eq_true, Bool.not_eq_true'] at hchosen
  exact hchosen.1.2

/-- A failback decided leaves the hub contexts, and of the presentation all but its batch: it asks moves of ports without one (R343). -/
theorem State.fbDecide_keeps (s : State) (u : Up) : (s.fbDecide u).hubCtx = s.hubCtx ∧ (s.fbDecide u).presBut u = s.presBut u := by
  unfold State.fbDecide State.failbackTo
  extract_lets m
  split
  · exact ⟨rfl, rfl⟩
  split
  · exact ⟨rfl, rfl⟩
  have hnoted (d : Nat) : s.KeepsBut [.fifos] ((s.count .prs F.PRS_CNT_FAILBACKS).raisePres .prs u evFailback u.val d) :=
    .raisePres (by decide) (.count (.refl s))
  obtain ⟨hhub, hpres⟩ := State.movePorts_of_still ((List.nodup_finRange 64).filter _) (fun p hp =>
    (s.moving_failbackNoted u _ p).trans (State.moving_of_mem_filter hp)) u 2
  refine ⟨hhub.trans ((hnoted _).same .hubCtx rfl (by decide)), hpres.trans ?_⟩
  simp only [State.presBut, State.pres, show State.presSt _ = s.presSt from (hnoted _).same .presSt rfl (by decide)]

end

/-! ### A start of frame (R339, R284) -/

section
variable {s : State} {u : Up}

/-- No K stands on the segment above a context any more. -/
def State.endUpK (s : State) (h : HubCtx) : State := s.hubWith h (fun c => { c with upK := false })

theorem State.upK_endUpK_same (s : State) (h : HubCtx) : ((s.endUpK h).hub h).upK = false := by
  simp [State.endUpK, State.hubWith, State.hub]

theorem State.upK_endUpK {h : HubCtx} (hfree : (s.hub h).upK = false) (h' : HubCtx) : ((s.endUpK h').hub h).upK = false := by
  by_cases hix : HubIx h' = HubIx h
  · simp [State.endUpK, State.hubWith, State.hub, hix]
  · have hne : (HubIx h').val ≠ (HubIx h).val := fun e => hix (Fin.ext e)
    simpa [State.endUpK, State.hubWith, State.hub, Vector.getElem_set, hne] using hfree

theorem State.upK_foldl_endUpK {h : HubCtx} (hcs : List HubCtx) (hfree : (s.hub h).upK = false) :
    ((hcs.foldl State.endUpK s).hub h).upK = false := by
  induction hcs generalizing s with
  | nil => exact hfree
  | cons h' hcs ih => exact ih (State.upK_endUpK hfree h')

/-- The state in which a presentation has seen a start of frame. -/
def State.frameSeen (s : State) (u : Up) : State :=
  let s1 := s.presWith u (fun x => { x with sofLive := true, suspEnded := false })
  (HubCtx.pres u :: s1.beneath u).foldl State.endUpK s1

theorem exec_sof (hcore : s.coreUp = true) (hon : s.presAttached u = true) : exec (.sof u) s = .next ((s.frameSeen u).fbDecide u) :=
  if_neg (by simp [hcore, hon])

theorem State.frameSeen_pres (s : State) (u : Up) : (s.frameSeen u).pres u = { s.pres u with sofLive := true, suspEnded := false } := by
  have hkeep : (s.presWith u (fun x => { x with sofLive := true, suspEnded := false })).KeepsBut [.hubCtx] (s.frameSeen u) :=
    .foldl (fun _ _ h => .hubWith (by decide) h) (.refl _)
  have hpres : (s.frameSeen u).presSt = (s.presWith u (fun x => { x with sofLive := true, suspEnded := false })).presSt :=
    hkeep.same .presSt rfl (by decide)
  exact (congrArg (fun v => v[u]) hpres).trans (s.presWith_same ..)

theorem State.frameSeen_upK (s : State) (u : Up) : ((s.frameSeen u).hub (.pres u)).upK = false := by
  unfold State.frameSeen
  rw [List.foldl_cons]
  exact State.upK_foldl_endUpK _ (State.upK_endUpK_same _ _)

theorem State.frameSeen_steady (s : State) (u : Up) : s.Steady false (s.frameSeen u) :=
  .foldl (fun _ _ h => .hubWith h) (.presWith (.refl s))

/-- What a start of frame leaves: the presentation is live by its frames, no K stands on its segment. -/
theorem State.sof_parts (s : State) (u : Up) : (((s.frameSeen u).fbDecide u).pres u).sofLive = true ∧
    (((s.frameSeen u).fbDecide u).pres u).suspEnded = false ∧ (((s.frameSeen u).fbDecide u).hub (.pres u)).upK = false ∧
    ((s.frameSeen u).fbDecide u).presAttached u = s.presAttached u := by
  obtain ⟨hhub, hpres⟩ := (s.frameSeen u).fbDecide_keeps u
  have hsof := congrArg PresSt.sofLive hpres
  have hsusp := congrArg PresSt.suspEnded hpres
  simp only [State.presBut, State.frameSeen_pres] at hsof hsusp
  refine ⟨hsof, hsusp, ?_, ((s.frameSeen_steady u).trans (.fbDecide (.refl _))).presAttached u⟩
  rw [State.hub, hhub]
  exact s.frameSeen_upK u

end

/-! ### The obligation -/

section
variable {s : State} {u : Up}

/-- What a connector that gets a source shows (R226). -/
def State.plugged (s : State) (u : Up) (o : Bool) (rp : Fin 4) (v : Nat) : State :=
  let pg := PageId.ups u
  ((((s.put pg F.UPS_CC_STATUS_ATTACHED 1).setFlag pg F.UPS_CC_STATUS_ORIENT o).put pg F.UPS_CC_STATUS_ORIENT_VALID 1).put
    pg F.UPS_CC_STATUS_RP_LVL rp.val).put pg F.UPS_CC_STATUS_VBUS (min v 4095)

theorem exec_upstreamAttach {o : Bool} {rp : Fin 4} {v : Nat} (hcore : s.coreUp = true) (hloaded : s.loaded = true) (hrp : rp ≠ 0)
    (hv : 40000000 ≤ adcUv10 v) : exec (.upstreamAttach u o rp v) s = .next (s.plugged u o rp v) :=
  if_neg (by simp [hcore, hloaded, hrp]; omega)

theorem exec_upstreamAttach_none {o : Bool} {rp : Fin 4} {v : Nat} (h : rp = 0 ∨ adcUv10 v < 40000000) :
    exec (.upstreamAttach u o rp v) s = .next s :=
  if_pos (by rcases h with h | h <;> simp [h])

/-- The five fields lie apart in one register. -/
theorem State.plugged_CC_STATUS (s : State) (u : Up) (o : Bool) (rp : Fin 4) (v : Nat) :
    (s.plugged u o rp v).get (.ups u) F.UPS_CC_STATUS_ATTACHED = 1 ∧ (s.plugged u o rp v).get (.ups u) F.UPS_CC_STATUS_ORIENT = bit o ∧
    (s.plugged u o rp v).get (.ups u) F.UPS_CC_STATUS_ORIENT_VALID = 1 ∧
    (s.plugged u o rp v).get (.ups u) F.UPS_CC_STATUS_RP_LVL = rp.val ∧
    (s.plugged u o rp v).get (.ups u) F.UPS_CC_STATUS_VBUS = min v 4095 := by
  unfold State.plugged State.setFlag
  extract_lets pg
  refine ⟨?_, ?_, ?_, ?_, ?_⟩
  · rw [State.get_put_bits _ _ _ _ _ (by decide), State.get_put_bits _ _ _ _ _ (by decide), State.get_put_bits _ _ _ _ _ (by decide),
      State.get_put_bits _ _ _ _ _ (by decide), State.get_put_same _ _ _ _ (by decide)]
    rfl
  · rw [State.get_put_bits _ _ _ _ _ (by decide), State.get_put_bits _ _ _ _ _ (by decide), State.get_put_bits _ _ _ _ _ (by decide),
      State.get_put_same _ _ _ _ (by decide)]
    cases o <;> rfl
  · rw [State.get_put_bits _ _ _ _ _ (by decide), State.get_put_bits _ _ _ _ _ (by decide), State.get_put_same _ _ _ _ (by decide)]
    rfl
  · rw [State.get_put_bits _ _ _ _ _ (by decide), State.get_put_same _ _ _ _ (by decide)]
    exact Nat.mod_eq_of_lt rp.isLt
  · rw [State.get_put_same _ _ _ _ (by decide)]
    exact Nat.mod_eq_of_lt (show min v 4095 < 4096 by omega)

/-- The state after a detach of an upstream port. -/
def State.detached (s : State) (u : Up) : State :=
  (((s.unplugged u).presDetach u 0).put (.ups u) F.UPS_LINK_STATUS_U2_ONLY 0).liveCheck u 1

theorem State.detached_steady (s : State) (u : Up) :
    (((s.unplugged u).presDetach u 0).put (.ups u) F.UPS_LINK_STATUS_U2_ONLY 0).Steady false (s.detached u) := .liveCheck (.refl _)

/-- A detach leaves what the unplugged connector shows. -/
theorem State.detached_CC_STATUS (s : State) (u : Up) {f : Fld} (hf : f.off = 0x44) (hm : markField false (.ups u) f) :
    (s.detached u).get (.ups u) f = (s.unplugged u).get (.ups u) f := by
  rw [(s.detached_steady u).get _ _ hm, State.get_put_off _ _ _ _ _ (by rw [hf]; decide), State.presDetach_ups _ _ _ hm]

theorem State.detached_presAttached (s : State) (u : Up) : (s.detached u).presAttached u = false := by
  rw [(s.detached_steady u).presAttached, State.presAttached,
    State.flag_put_page _ _ _ _ (by simp) (by decide) (markField_ATTACHED false u).off_lt]
  exact State.presDetach_presAttached _ u 0

theorem State.detached_U2_ONLY (s : State) (u : Up) : (s.detached u).get (.ups u) F.UPS_LINK_STATUS_U2_ONLY = 0 := by
  rw [(s.detached_steady u).get _ _ (show markField false (.ups u) F.UPS_LINK_STATUS_U2_ONLY from .inr rfl)]
  exact State.get_put_same _ _ _ _ (by decide)

/-- Settles O48: each clause from what its command leaves; the fields shown lie apart from what a detach, an attach and a failback move
(`State.Steady`). -/
theorem presentationsAttachAndDetach : Obligations.PresentationsAttachAndDetach := by
  unfold Obligations.PresentationsAttachAndDetach
  refine ⟨fun u o rp v s hcore hloaded hrp hv => ⟨_, exec_upstreamAttach hcore hloaded hrp hv, s.plugged_CC_STATUS u o rp v⟩,
    fun u o rp v s h => ⟨_, exec_upstreamAttach_none h, rfl⟩, fun u s h => ⟨s.detached u, exec_upstreamDetach h, ?detach⟩,
    fun u s h => ⟨_, exec_presAttach h, s.attached_parts u s.compat⟩, fun u s h => ⟨s, if_pos (by simp [h]), rfl⟩,
    fun u s h => ⟨_, if_pos h, rfl⟩, fun u s hcore hon => ⟨_, exec_sof hcore hon, ?frame⟩⟩
  case detach =>
    obtain ⟨hatt, hvalid, hrp⟩ := s.unplugged_CC_STATUS u
    have hgone : (s.detached u).get (.ups u) F.UPS_CC_STATUS_ATTACHED = 0 := (s.detached_CC_STATUS u rfl (.inl rfl)).trans hatt
    refine ⟨s.detached_presAttached u, hgone, (s.detached_CC_STATUS u rfl (.inl rfl)).trans hvalid,
      (s.detached_CC_STATUS u rfl (.inl rfl)).trans hrp, s.detached_U2_ONLY u, ?_⟩
    simp [State.isLive, State.flag, hgone]
  case frame =>
    obtain ⟨hsof, hsusp, hupK, hsame⟩ := s.sof_parts u
    refine ⟨hsof, hsusp, hupK, ?_⟩
    simp [State.framesLive, hsame, hon, hsof]

end

end Sys2Proof.Machine

namespace Sys2Proof.Machine

/-! PROOFS. The reads of the store, the power and the port registers (O36): the statement says what a read of `CON_RXDATA` leaves of the
receive FIFO for every state, but the read also visits the register's parity, and a mismatch found there empties the FIFO (R69, R231). -/

/-- A running core in which port 0's console tap holds two characters, and in whose `CON_RXDATA` stands a mismatch not found yet. -/
def unvisitedRxState : State :=
  ((((({ State.reset with coreHeld := false, bad := [⟨(PageId.con 0).base + 0x4C, 1, false, false, 0⟩] }).put .clk
    F.CLK_ROOT_STATUS_ROOT_LOCKED 1).put .clk F.CLK_RESET_STATUS_MGT_IN_RST 0).put .glb F.GLB_READY_CFG_LOADED 1).put .glb
    F.GLB_READY_MGT_READY 1).put .clk (portBit F.CLK_PORT_IN_RST_PORT_IN_RST 0) 0
    |>.conWith 0 (fun _ => ⟨[⟨0x41, false, false⟩, ⟨0x42, false, false⟩], [], none⟩)

/-- The read finds the mismatch, and the tap's safe action leaves nothing in the FIFO. -/
theorem unvisitedRxState_read_rx : ((unvisitedRxState.readOne .a (regAddr (.con 0) 0x4C)).con 0).rx = [] := by decide +kernel

/-- Refutes O36: from `unvisitedRxState` a read of `CON_RXDATA` takes both characters. No run reaches this state: `CON_RXDATA` has no
parity of its own (`parityBits`), but the statement asks its clause of every state. -/
theorem not_storePowerAndPortWritesAreTaken : ¬ Obligations.StorePowerAndPortWritesAreTaken := by
  unfold Obligations.StorePowerAndPortWritesAreTaken
  rintro ⟨-, -, -, -, -, -, -, -, -, hreads, -⟩
  have hreach : unvisitedRxState.reaches .a (.con 0) 0x4C = true := by decide +kernel
  have hheld : (unvisitedRxState.con 0).rx = [⟨0x41, false, false⟩, ⟨0x42, false, false⟩] := by decide +kernel
  obtain ⟨t, hnext, -, hrx⟩ := hreads .a 0 unvisitedRxState hreach (by rw [hheld]; exact List.cons_ne_nil _ _)
  have ht : unvisitedRxState.readOne .a (regAddr (.con 0) 0x4C) = t := Host.Outcome.next.inj hnext
  rw [← ht, unvisitedRxState_read_rx, hheld] at hrx
  exact absurd hrx (by decide)

end Sys2Proof.Machine

namespace Sys2Proof.Machine

/-! PROOFS. The stores of bytes (O12): a staging write, a bulk WRITE, a window's command and the end of a commit change the bytes that they
name and no others. -/

/-! ### The staging buffer (R148) -/

section
variable {s t : State} {a : Nat}

/-- Every part but the staging buffer. -/
def Part.butStage : List Part := Part.allBut [.stage]

/-- The byte of the staging buffer at `a` is the same in two states. -/
def State.SameStaged (a : Nat) (s t : State) : Prop := Sparse.get zeroByte t.stage a = Sparse.get zeroByte s.stage a

theorem State.SameStaged.trans {u : State} (h : s.SameStaged a t) (ht : t.SameStaged a u) : s.SameStaged a u := Eq.trans ht h

theorem State.KeepsBut.sameStaged (h : s.KeepsBut Part.butStage t) (a : Nat) : s.SameStaged a t :=
  congrArg (Sparse.get zeroByte · a) (h.same .stage rfl (by decide))

/-- The address is none of the four bytes at the staging pointer. -/
def State.offStaged (s : State) (a : Nat) : Prop := ¬ (s.stagePtr ≤ a ∧ a < s.stagePtr + 4)

theorem State.offStaged_of_rd (ha : s.offStaged a) (h : t.rd (regAddr .cfg 0x60) = s.rd (regAddr .cfg 0x60)) : t.offStaged a := by
  have hptr : t.stagePtr = s.stagePtr := congrArg (fun w => 4 * fldGet F.CFG_STAGE_PTR_PTR w) h
  rwa [State.offStaged, hptr]

/-- One byte put at the staging pointer or one of the three places after it. -/
theorem State.stagePut_one (ha : s.offStaged a) {i : Nat} (hi : i < 4) (b : Byte) : s.SameStaged a (s.stagePut (s.stagePtr + i) [b]) := by
  refine Sparse.get_put_ne _ _ _ fun e => ha ?_
  simp only at e
  omega

/-- The bytes of a word put in turn. -/
theorem State.stagePut_word (ha : s.offStaged a) (be : BitVec 4) (v : Word) {is : List Nat} (his : ∀ i ∈ is, i < 4) :
    s.SameStaged a (is.foldl (fun s i => if be.getLsbD i then
      s.stagePut (s.stagePtr + i) [BitVec.ofNat 8 (v.toNat >>> (8 * i))] else s) s) := by
  induction is generalizing s with
  | nil => rfl
  | cons i is ih =>
    have hrest (j) (hj : j ∈ is) : j < 4 := his j (List.mem_cons_of_mem i hj)
    rw [List.foldl_cons]
    by_cases hb : be.getLsbD i = true
    · rw [if_pos hb]
      exact (State.stagePut_one ha (his i List.mem_cons_self) _).trans (ih (State.offStaged_of_rd ha rfl) hrest)
    · rw [if_neg hb]
      exact ih ha hrest

theorem State.stageWrite_sameStaged (ha : s.offStaged a) (be : BitVec 4) (v : Word) : s.SameStaged a (s.stageWrite be v) := by
  unfold State.stageWrite
  split
  · rfl
  split
  · rfl
  · have hstep (u : State) : u.SameStaged a u.stageStep :=
      State.KeepsBut.sameStaged (.stageStep (Part.subset_of_all rfl) (.refl u)) a
    exact (State.stagePut_word ha be v (by simp)).trans (hstep _)

/-! ### The write to `CFG_STAGE_DATA` -/

/-- A store to another register leaves the staging pointer. -/
theorem State.storeFields_rd_PTR (s : State) (be : BitVec 4) (v : Word) (guarded : Bool) :
    (s.storeFields .cfg 0x64 be v guarded).2.rd (regAddr .cfg 0x60) = s.rd (regAddr .cfg 0x60) := by
  have hne (w : Word) : (s.wr (PageId.cfg.base + 0x64) w).rd (regAddr .cfg 0x60) = s.rd (regAddr .cfg 0x60) :=
    s.rd_wr_ne w (show PageId.cfg.base + 0x60 ≠ PageId.cfg.base + 0x64 by omega)
  unfold State.storeFields
  split
  · rfl
  split
  · rfl
  · extract_lets lanes addr w s1
    split
    · exact hne w
    · rw [State.mendParity_rd]
      exact hne w

/-- The write of the register does no more than store, note that it asks for a restart, and stage the word. -/
theorem State.writeReg_STAGE_DATA (ha : s.offStaged a) (i : Ident) (be : BitVec 4) (v : Word) (guarded parityErr : Bool) (errors : Nat) :
    s.SameStaged a (s.writeReg i .cfg 0x64 be v guarded parityErr errors) := by
  unfold State.writeReg
  dsimp only
  split
  · rfl
  next r _ =>
  have hstore : s.SameStaged a (s.storeFields .cfg 0x64 be v guarded).2 :=
    State.KeepsBut.sameStaged (.storeFields (Part.subset_of_all rfl) (.refl s)) a
  have hptr := State.offStaged_of_rd ha (s.storeFields_rd_PTR be v guarded)
  rw [if_neg (by decide)]
  unfold State.afterWrite
  rw [if_neg (by decide), if_neg (by decide), if_neg (by decide)]
  refine hstore.trans ?_
  dsimp only [State.pageWritten]
  rw [if_neg (by decide), if_pos rfl]
  split
  · exact State.stageWrite_sameStaged (State.offStaged_of_rd hptr (State.rd_wr_ne _ _ (by decide))) be _
  · exact State.stageWrite_sameStaged hptr be _

/-- The write of the staging pointer, which a guarded pair may complete, stages nothing. -/
theorem State.writeReg_STAGE_PTR (s : State) (a : Nat) (i : Ident) (be : BitVec 4) (v : Word) (guarded parityErr : Bool) (errors : Nat) :
    s.SameStaged a (s.writeReg i .cfg 0x60 be v guarded parityErr errors) := by
  unfold State.writeReg
  dsimp only
  split
  · rfl
  next r _ =>
  have hstore : s.KeepsBut Part.butStage (s.storeFields .cfg 0x60 be v guarded).2 := .storeFields (Part.subset_of_all rfl) (.refl s)
  rw [if_neg (by decide)]
  unfold State.afterWrite
  rw [if_neg (by decide), if_neg (by decide), if_neg (by decide)]
  dsimp only [State.pageWritten]
  rw [if_neg (by decide), if_neg (by decide)]
  exact State.KeepsBut.sameStaged (.ite (.put hstore) hstore) a

theorem isRwg_STAGE : isRwg .cfg 0x60 = false ∧ isRwg .cfg 0x64 = false := by decide

/-- A write that completes no pair. -/
theorem State.writeOwn_sameStaged (ha : s.offStaged a) (i : Ident) (w : FrameWord) (broken parityErr : Bool) (errors : Nat) :
    s.SameStaged a (s.writeOwn i .cfg 0x64 w broken parityErr errors).2 := by
  obtain ⟨hptr, hdata⟩ := isRwg_STAGE
  have hcomplement : isComplement .cfg 0x64 = false := by
    rw [isComplement, hptr, Bool.and_false]
  unfold State.writeOwn
  rw [hdata, hcomplement]
  exact State.writeReg_STAGE_DATA ha i w.be w.data false parityErr errors

theorem State.breakPair_offStaged (ha : s.offStaged a) (i : Ident) : (s.breakPair i).offStaged a := by
  unfold State.breakPair State.mgtErr
  split
  · exact ha
  · refine State.offStaged_of_rd ha ((State.rd_wr_ne _ _ ?_).trans (State.rd_wr_ne _ _ ?_))
    · exact PageId.addr_ne (by decide) (by decide) (show 0x80 + 4 * i.owner.val < 0x1000 by omega)
    · exact PageId.addr_ne (by decide) (by decide) (show 0x80 + 4 * i.owner.val < 0x1000 by omega)

theorem State.breakPair_sameStaged (s : State) (a : Nat) (i : Ident) : s.SameStaged a (s.breakPair i) :=
  State.KeepsBut.sameStaged (.breakPair (Part.subset_of_all rfl) (.refl s)) a

theorem State.writeTaken_sameStaged (ha : s.offStaged a) (i : Ident) (w : FrameWord) (parityErr : Bool) (errors : Nat) :
    s.SameStaged a (s.writeTaken i .cfg 0x64 w parityErr errors).2 := by
  unfold State.writeTaken
  split
  · rfl
  split
  · exact State.writeOwn_sameStaged ha i w false parityErr errors
  next g _ =>
    split
    · have hopen : s.SameStaged a (s.setPair i none) := State.KeepsBut.sameStaged (.setPair (Part.subset_of_all rfl) (.refl s)) a
      exact hopen.trans (State.writeReg_STAGE_PTR _ a i 0xF g.value true false 0)
    · exact (s.breakPair_sameStaged a i).trans (State.writeOwn_sameStaged (State.breakPair_offStaged ha i) i w true parityErr errors)

/-! ### The access and its answer -/

theorem State.accessBlock_sameStaged (ha : s.offStaged a) {who : Requester} {w : FrameWord} {resumed parityErr : Bool} {errors : Nat}
    {res : WordResult} (h : s.accessBlock who .cfg 0x64 (some w) resumed parityErr errors = some (res, t)) : s.SameStaged a t := by
  have hlost : s.SameStaged a (s.writeLost (s.identOf who) (some w)) :=
    State.KeepsBut.sameStaged (.ite (.refl s) (.breakPair (Part.subset_of_all rfl) (.refl s))) a
  unfold State.accessBlock at h
  split at h
  · cases h
  split at h
  · obtain ⟨-, rfl⟩ := Prod.mk.inj (Option.some.inj h)
    exact hlost
  split at h
  · obtain ⟨-, rfl⟩ := Prod.mk.inj (Option.some.inj h)
    exact hlost
  · obtain ⟨-, rfl⟩ := Prod.mk.inj (Option.some.inj h)
    exact State.writeTaken_sameStaged ha _ w parityErr errors

theorem State.access_sameStaged (ha : s.offStaged a) {who : Requester} {w : FrameWord} {resumed parityErr : Bool} {errors : Nat}
    {res : WordResult} (h : s.access who (regAddr .cfg 0x64) (some w) resumed parityErr errors = some (res, t)) : s.SameStaged a t := by
  have hpage : s.accessPage (regAddr .cfg 0x64) = some .cfg := s.accessPage_there .cfg (by decide) rfl
  have hoff : regAddr .cfg 0x64 % 0x1000 = 0x64 := PageId.off_mod .cfg (by decide)
  unfold State.access at h
  simp only [hpage, hoff] at h
  split at h
  · obtain ⟨-, rfl⟩ := Prod.mk.inj (Option.some.inj h)
    exact State.KeepsBut.sameStaged (.mgtErr (.refl s)) a
  · exact State.accessBlock_sameStaged ha h

/-- A single write, whether it enters the register file, waits or is answered. -/
theorem State.writeOne_sameStaged (ha : s.offStaged a) (who : Requester) (be : BitVec 4) (v : Word) :
    s.SameStaged a (s.writeOne who (regAddr .cfg 0x64) be v) := by
  unfold State.writeOne
  by_cases hmay : s.mayAccess who = true
  case neg =>
    have hsilent : s.oneWith who (regAddr .cfg 0x64) (some ⟨be, v⟩) false 0 = s.reply .silent := if_pos (by simp [hmay])
    rw [hsilent]
    rfl
  cases haccess : s.access who (regAddr .cfg 0x64) (some ⟨be, v⟩) false false 0 with
  | some x =>
    obtain ⟨res, t⟩ := x
    rw [State.oneWith_of_access hmay haccess]
    have hanswer : t.KeepsBut Part.butStage (t.afterAccess res.status res.data) :=
      .ite (.reply (Part.subset_of_all rfl) (.refl t)) (.mgtFollow (Part.subset_of_all rfl) (.reply (Part.subset_of_all rfl) (.refl t)))
    exact (State.access_sameStaged ha haccess).trans (hanswer.sameStaged a)
  | none =>
    have hword : s.runWord ⟨who, .single, true, false, regAddr .cfg 0x64, [⟨be, v⟩], [], none⟩ ⟨be, v⟩ false false 0 = none := by
      unfold State.runWord
      rw [State.loopErrors_single _ _ rfl]
      exact haccess
    have hrun : State.runOn false 0 [⟨be, v⟩] false ⟨who, .single, true, false, regAddr .cfg 0x64, [⟨be, v⟩], [], none⟩ s =
        (⟨who, .single, true, false, regAddr .cfg 0x64, [⟨be, v⟩], [], none⟩, s) := by
      rw [State.runOn, hword]
    have hwaits (r : AccessRun) : s.KeepsBut Part.butStage (s.settleRun r) := .settleRun (Part.subset_of_all rfl) (.refl s)
    unfold State.oneWith State.startRun
    simp only [hmay, Bool.not_true, Bool.false_eq_true, if_false, Option.isSome_some, Option.getD_some]
    rw [hrun]
    exact (hwaits _).sameStaged a

end

/-! ### The DRAM (R362, R416, R422) -/

section
variable {s t : State} {c : Nat}

/-- Every part but the DRAM's bytes. -/
def Part.butDramMem : List Part := Part.allBut [.dramMem]

/-- The byte of the DRAM at `c` is the same in two states. -/
def State.SameDram (c : Nat) (s t : State) : Prop := t.dram.byte c = s.dram.byte c

theorem State.SameDram.trans {u : State} (h : s.SameDram c t) (ht : t.SameDram c u) : s.SameDram c u := Eq.trans ht h

theorem State.SameDram.foldl_snd {α β : Type} {l : List α} {f : β × State → α → β × State} 
    (hf : ∀ (p : β × State) (x : α), p.2.SameDram c (f p x).2) (p : β × State) : p.2.SameDram c (l.foldl f p).2 := by
  induction l generalizing p with
  | nil => rfl
  | cons x l ih => exact (hf p x).trans (ih (f p x))

theorem State.KeepsBut.sameDram (h : s.KeepsBut Part.butDramMem t) (c : Nat) : s.SameDram c t := by
  obtain ⟨hmem, hgeom, hepoch, hzeroed⟩ := h.same .dramMem rfl (by decide)
  have hdflt : t.dram.dflt = s.dram.dflt := by
    funext a
    simp only [Dram.dflt, hepoch, hzeroed]
  rw [State.SameDram, Dram.byte, hdflt, hmem, hgeom, Dram.byte]

/-- Consecutive bytes stored leave every address before and after them. -/
theorem Dram.byte_putBytes (d : Dram) (a : Nat) (bs : List Byte) (h : ¬ (a ≤ c ∧ c < a + bs.length)) :
    (d.putBytes a bs).byte c = d.byte c := by
  induction bs generalizing d a with
  | nil => rfl
  | cons b bs ih =>
    rw [List.length_cons] at h
    have hrest : ¬ (a + 1 ≤ c ∧ c < a + 1 + bs.length) := by omega
    have hfirst : c ≠ a := by omega
    exact (ih _ _ hrest).trans (d.byte_putByte_ne b hfirst)

/-- The bytes of a write that fall in a word lie within the write. -/
theorem inWord_within {a w : Nat} {bs : List Byte} (h : ¬ (a ≤ c ∧ c < a + bs.length)) :
    ¬ ((inWord a bs w).1 ≤ c ∧ c < (inWord a bs w).1 + (inWord a bs w).2.length) := by
  simp only [inWord, List.length_take, List.length_drop]
  omega

theorem State.dramWriteWord_sameDram (s : State) {a : Nat} {bs : List Byte} (h : ¬ (a ≤ c ∧ c < a + bs.length)) (w cls : Nat) :
    s.SameDram c (s.dramWriteWord a bs w cls).2 := by
  have hput (d : Dram) : (d.putBytes (inWord a bs w).1 (inWord a bs w).2).byte c = d.byte c := d.byte_putBytes _ _ (inWord_within h)
  have hread : s.SameDram c (s.eccRead w cls true).2 := State.KeepsBut.sameDram (.eccRead (Part.subset_of_all rfl) (.refl s)) c
  unfold State.dramWriteWord
  dsimp only
  split
  · exact hput s.dram
  split
  next t heq =>
    rw [heq] at hread
    exact hread
  next t heq =>
    rw [heq] at hread
    exact hread.trans (hput t.dram)

/-- Bytes written leave the others, whichever words are met (R416). -/
theorem State.dramWrite_sameDram (s : State) {a : Nat} {bs : List Byte} (h : ¬ (a ≤ c ∧ c < a + bs.length)) (cls : Nat) :
    s.SameDram c (s.dramWrite a bs cls).2 :=
  State.SameDram.foldl_snd (β := Failed) (fun acc w => acc.2.dramWriteWord_sameDram h w cls) (none, s)

theorem State.hostWrite_sameDram (s : State) (u : Up) {a : Nat} {bs : List Byte} (h : ¬ (a ≤ c ∧ c < a + bs.length)) :
    s.SameDram c (s.hostWrite u a bs).2.2 := by
  have hwrite := s.dramWrite_sameDram h (hostClass u)
  unfold State.hostWrite
  split
  · rfl
  split
  · exact State.KeepsBut.sameDram (.count (.refl s)) c
  split
  next t heq =>
    rw [heq] at hwrite
    exact hwrite
  next f t heq =>
    rw [heq] at hwrite
    exact hwrite

/-- A bulk WRITE: the stores of its block, and what records that it is done. -/
theorem bulkWrite_sameDram {u : Up} {cmd : BulkCmd} (hready : s.bulkReady u true = some cmd) (h : exec (.bulkWrite u false) s = .next t)
    (hc : ¬ (cmd.addr ≤ c ∧ c < cmd.addr + cmd.len)) : s.SameDram c t := by
  have hdone (v : State) (st : Byte) (f : Failed) : v.SameDram c (v.bulkDone u cmd st [] f) :=
    State.KeepsBut.sameDram (.bulkDone (Part.subset_of_all rfl) (.refl v)) c
  have hlen : (s.epmGet (epmBase u + epmEp2 + 16) cmd.len).length = cmd.len := by simp [State.epmGet]
  have hwrite := s.hostWrite_sameDram (c := c) u (a := cmd.addr) (bs := s.epmGet (epmBase u + epmEp2 + 16) cmd.len) (by rwa [hlen])
  have hexec : exec (.bulkWrite u false) s = execBulkWrite u false s := rfl
  rw [hexec, execBulkWrite, hready] at h
  obtain rfl := Host.Outcome.next.inj h
  exact hwrite.trans (hdone _ _ _)

/-! ### A window's command (R422) -/

theorem State.winBytes_length (s : State) (w : WinIx) (n : Nat) : (s.winBytes w n).length = 4 * n := by
  simp [State.winBytes, List.length_flatMap, Nat.mul_comm]

/-- A load writes no byte of the DRAM, a store those of its words. -/
theorem State.winAct_sameDram (s : State) (w : WinIx) {cmd : WinCmd} {n : Nat} (h : ¬ (cmd.addr ≤ c ∧ c < cmd.addr + 4 * n)) :
    s.SameDram c (s.winAct w cmd n).2 := by
  unfold State.winAct
  split
  · exact s.dramWrite_sameDram (by rwa [State.winBytes_length]) 3
  · exact State.KeepsBut.sameDram (.winFill (Part.subset_of_all rfl) (.dramRead (Part.subset_of_all rfl) (.refl s))) c

theorem windowCommandEnd_sameDram {w : WinIx} {cmd : WinCmd} (hwin : s.dram.win[w] = some cmd)
    (h : exec (.windowCommandEnd w) s = .next t) (hc : ¬ (cmd.addr ≤ c ∧ c < cmd.addr + 4 * cmd.count)) : s.SameDram c t := by
  have hact := s.winAct_sameDram w hc
  have hend (v : State) (r : Nat) : v.SameDram c (((v.setWin w none).winBits w false false).put .drc (F.DRC_WINw_CTRL_RESULT w.val) r) :=
    State.KeepsBut.sameDram (.put (.winBits (.setWin (Part.subset_of_all rfl) (.refl v)))) c
  have hfault (v : State) (b : Bool) : v.SameDram c (if b then v.setFault .drc 10 else v) :=
    State.KeepsBut.sameDram (.ite (.setFault (.refl v)) (.refl v)) c
  have hexec : exec (.windowCommandEnd w) s = execWindowCommandEnd w s := rfl
  rw [hexec, execWindowCommandEnd, hwin] at h
  dsimp only at h
  split at h
  · obtain rfl := Host.Outcome.next.inj h
    rfl
  · obtain rfl := Host.Outcome.next.inj h
    exact (hact.trans (hfault _ _)).trans (hend _ _)

end

/-! ### The end of a commit (R150) -/

section
variable {s t : State}

/-- Every part but the MRAM banks. -/
def Part.butMram : List Part := Part.allBut [.mram]

theorem State.KeepsBut.bank (h : s.KeepsBut Part.butMram t) (b : Fin 2) : t.mram[b] = s.mram[b] :=
  congrArg (·[b]) (h.same .mram rfl (by decide) : t.mram = s.mram)

theorem State.bankPut_other (s : State) {tgt other : Fin 2} (h : other ≠ tgt) (es : List (Nat × Byte)) :
    (s.bankPut tgt es).mram[other] = s.mram[other] := by
  have hne : tgt.val ≠ other.val := fun e => h (Fin.ext e.symm)
  simp [State.bankPut, hne]

theorem State.bankSpoil_other (s : State) {tgt other : Fin 2} (h : other ≠ tgt) : (s.bankSpoil tgt).mram[other] = s.mram[other] :=
  (State.bankPut_other _ h _).trans (State.KeepsBut.bank (.free (Part.subset_of_all rfl) (.refl s)) other)

/-- What ends a commit changes no bank beyond the target. -/
theorem State.commitEnd_other {tgt other : Fin 2} {seq : Word} (hop : s.cfgOp = .writing tgt seq) (h : other ≠ tgt) (ok : Bool) :
    (s.commitEnd ok).mram[other] = s.mram[other] := by
  have hput := s.bankPut_other h (s.commitBytes seq)
  unfold State.commitEnd
  rw [hop]
  dsimp -zeta only
  extract_lets s1 g s2
  split
  · have hstaged : s1.KeepsBut Part.butMram s2 := .opDone (Part.subset_of_all rfl) (.stagePut (Part.subset_of_all rfl) (.refl s1))
    exact (State.KeepsBut.bank (.raise (Part.subset_of_all rfl) (.cfgEnd (Part.subset_of_all rfl) (.noteBanks (.setActive hstaged))))
      other).trans hput
  · exact (State.KeepsBut.bank (.commitFail (Part.subset_of_all rfl) (.opDone (Part.subset_of_all rfl) (.noteBanks (.refl _))))
      other).trans ((s1.bankSpoil_other h).trans hput)

end

/-- Settles O12: each store reaches its own bytes alone, and what follows it keeps the memory (`State.KeepsBut`). -/
theorem storesLeaveOtherBytesAlone : Obligations.StoresLeaveOtherBytesAlone := by
  unfold Obligations.StoresLeaveOtherBytesAlone
  refine ⟨fun who be v s t a h ha => ?staged, fun u c s t a hready h ha => bulkWrite_sameDram hready h ha,
    fun w c s t a hwin h ha => windowCommandEnd_sameDram hwin h ha, fun w s hwin => ?idle, fun ok tgt other seq s t hop hne h => ?commit⟩
  case staged =>
    obtain rfl : s.writeOne who (regAddr .cfg 0x64) be v = t := Host.Outcome.next.inj h
    exact State.writeOne_sameStaged ha who be v
  case idle =>
    have hexec : exec (.windowCommandEnd w) s = execWindowCommandEnd w s := rfl
    rw [hexec, execWindowCommandEnd, hwin]
  case commit =>
    obtain rfl : s.commitEnd ok = t := Host.Outcome.next.inj h
    exact State.commitEnd_other hop hne ok

end Sys2Proof.Machine

namespace Sys2Proof.Machine

/-! PROOFS. Board power entry (O27): what each shared operation of the entry controller leaves of the PWE registers and of the entry
domain's own record, and each command as the operations it is made of. The PWE page has no `INT_STATUS` bit, so a record of the entry
domain changes its hand-off FIFO alone (R178); every other fact is one of fields that lie apart. -/

/-! ### Registers and hidden parts -/

section
variable (s : State)

/-- A field reads as a value that fits it. -/
theorem State.get_put_fits (pg : PageId) (f : Fld) (v : Nat) (h : f.lo + f.width ≤ 32) (hv : v < 2 ^ f.width) :
    (s.put pg f v).get pg f = v :=
  (State.get_put_same s pg f v h).trans (Nat.mod_eq_of_lt hv)

theorem State.raise_pwe_parts (e : Ev) (src d : Nat) (b : Bool) : ∃ fifos, s.raise .pwe e src d b = { s with fifos := fifos } :=
  s.handOff_parts _ _

@[simp] theorem State.get_raise_pwe (e : Ev) (src d : Nat) (b : Bool) (pg : PageId) (f : Fld) :
    (s.raise .pwe e src d b).get pg f = s.get pg f := by
  obtain ⟨fifos, hf⟩ := s.raise_pwe_parts e src d b
  rw [hf]
  rfl

@[simp] theorem State.entry_raise_pwe (e : Ev) (src d : Nat) (b : Bool) : (s.raise .pwe e src d b).entry = s.entry := by
  obtain ⟨fifos, hf⟩ := s.raise_pwe_parts e src d b
  rw [hf]

@[simp] theorem State.get_withEntry (g : Entry → Entry) (pg : PageId) (f : Fld) : (s.withEntry g).get pg f = s.get pg f := rfl

@[simp] theorem State.entry_withEntry (g : Entry → Entry) : (s.withEntry g).entry = g s.entry := rfl

@[simp] theorem State.get_setFeedGate (fd : Feed) (on : Bool) (pg : PageId) (f : Fld) :
    (s.setFeedGate fd on).get pg f = s.get pg f := rfl

@[simp] theorem State.hsGate_setFeedGate (fd : Feed) (on : Bool) : (s.setFeedGate fd on).entry.hsGate = s.entry.hsGate := by
  cases fd <;> rfl

@[simp] theorem State.entry_count (pg : PageId) (f : Fld) : (s.count pg f).entry = s.entry := rfl

/-- A counter raised leaves the fields that lie apart from it. -/
theorem State.get_count_fld (pg pg' : PageId) (f g : Fld) (hf : f.off < 0x1000) (hg : g.off < 0x1000)
    (h : g.off ≠ f.off ∨ f.lo + f.width ≤ g.lo ∨ g.lo + g.width ≤ f.lo) : (s.count pg f).get pg' g = s.get pg' g :=
  State.get_put_fld s pg pg' f g _ hf hg h

end

/-! ### The shared operations of the controller -/

section
variable (s : State)

/-- `STATE`, `FEED_SEL` and `LIMITING` are the low six bits of `PWE_STATUS`: a write of one leaves every field outside them. -/
theorem State.get_put_statusLow {f g : Fld} (v : Nat) (hoff : f.off = 0x60) (hlow : f.lo + f.width ≤ 6) (h : g.off ≠ 0x60 ∨ 6 ≤ g.lo) :
    (s.put .pwe f v).get .pwe g = s.get .pwe g := by
  rcases h with h | h
  · exact State.get_put_off _ _ _ _ _ (by omega)
  · exact State.get_put_bits _ _ _ _ _ (.inl (by omega))

/-- DEBOUNCE entered (R162, R164). -/
theorem State.toDebounce_parts (why : Fin 4) : (s.toDebounce why).get .pwe F.PWE_STATUS_STATE = 0 ∧
    (s.toDebounce why).entry.hsGate = false ∧ (s.toDebounce why).entry.pins = s.entry.pins := by
  unfold State.toDebounce
  simp only [State.get_withEntry, State.entry_withEntry]
  exact ⟨State.get_put_fits _ _ _ _ (by decide) (by decide), rfl, rfl⟩

/-- DEBOUNCE entered leaves the fields outside `PWE_STATUS`, and those of it above `LIMITING`. -/
theorem State.get_toDebounce (why : Fin 4) {f : Fld} (h : f.off ≠ 0x60 ∨ 6 ≤ f.lo) :
    (s.toDebounce why).get .pwe f = s.get .pwe f := by
  unfold State.toDebounce State.entryGatesOff
  rw [State.get_withEntry, State.get_put_statusLow _ _ rfl (by decide) h, State.get_put_statusLow _ _ rfl (by decide) h,
    State.get_put_statusLow _ _ rfl (by decide) h, State.get_withEntry]

/-- The feed that a ramp draws from: the preferred one if good, else the other (R174). -/
def State.rampFeed (s : State) : Feed := if s.feedIsGood s.prefFeed then s.prefFeed else otherFeed s.prefFeed

theorem feedCode_lt (fd : Feed) : feedCode fd < 4 := by cases fd <;> decide

/-- RAMP entered (R162, R165, R174). -/
theorem State.toRamp_parts : s.toRamp.get .pwe F.PWE_STATUS_STATE = 1 ∧ s.toRamp.get .pwe F.PWE_STATUS_FEED_SEL = feedCode s.rampFeed ∧
    s.toRamp.get .pwe F.PWE_STATUS_START_CAUSE = (if s.entrySt == 3 then 1 else s.entry.startWhy.val) ∧
    s.toRamp.entry.hsGate = true := by
  unfold State.toRamp
  extract_lets fd retry s1 s2
  simp only [State.get_setFeedGate, State.get_withEntry, State.hsGate_setFeedGate, State.entry_withEntry]
  have hcause : (if retry = true then 1 else s.entry.startWhy.val) < 8 := by split <;> omega
  refine ⟨?_, State.get_put_fits _ _ _ _ (by decide) (feedCode_lt fd), ?_, trivial⟩
  · rw [State.get_put_bits _ _ _ _ _ (by decide), State.get_put_fits _ _ _ _ (by decide) (by decide)]
  · rw [State.get_put_bits _ _ _ _ _ (by decide), State.get_put_bits _ _ _ _ _ (by decide),
      State.get_put_fits _ _ _ _ (by decide) hcause]

/-- What a trip counts and records before the number of retries decides where it leads (R167). -/
def State.tripRecorded (s : State) (cause uv : Nat) : State :=
  let after := min (s.get .pwe F.PWE_STATUS_CONSEC + 1) 15
  ((((s.entryGatesOff.count .pwe F.PWE_CNT_TRIPS).put .pwe F.PWE_STATUS_CONSEC after).put .pwe F.PWE_STATUS_LAST_CAUSE cause).put
    .pwe F.PWE_LOAD_ISNS_UV (min uv 65535)).raise .pwe evEntryTrip 0 (cause + after * 16 + min (uv / 10) 0xFFFF * 0x10000)

theorem State.entryTrip_eq (cause uv : Nat) : s.entryTrip cause uv =
    if s.get .pwe F.PWE_STATUS_CONSEC < s.cfg .pwe F.PWE_TRIP_CFG_RETRIES then
      ((s.tripRecorded cause uv).put .pwe F.PWE_STATUS_STATE 3).withEntry (fun e => { e with retryRun := true, debounced := false })
    else ((s.tripRecorded cause uv).put .pwe F.PWE_STATUS_STATE 4).raise .pwe evEntryLatchOff 0
      (min (s.get .pwe F.PWE_STATUS_CONSEC + 1) 15 * 16) := rfl

theorem State.tripRecorded_parts {cause : Nat} (hcause : cause < 8) (uv : Nat) :
    (s.tripRecorded cause uv).get .pwe F.PWE_STATUS_LAST_CAUSE = cause ∧
    (s.tripRecorded cause uv).get .pwe F.PWE_STATUS_CONSEC = min (s.get .pwe F.PWE_STATUS_CONSEC + 1) 15 ∧
    (s.tripRecorded cause uv).entry.hsGate = false := by
  unfold State.tripRecorded
  extract_lets after
  simp only [State.get_raise_pwe, State.entry_raise_pwe]
  refine ⟨?_, ?_, rfl⟩
  · rw [State.get_put_off _ _ _ _ _ (by decide), State.get_put_fits _ _ _ _ (by decide) hcause]
  · rw [State.get_put_off _ _ _ _ _ (by decide), State.get_put_bits _ _ _ _ _ (by decide),
      State.get_put_fits _ _ _ _ (by decide) (show after < 16 by omega)]

/-- A trip (R167): gates off, counted and recorded, then WAIT or LATCHED. -/
theorem State.entryTrip_parts {cause : Nat} (hcause : cause < 8) (uv : Nat) :
    (s.entryTrip cause uv).get .pwe F.PWE_STATUS_STATE =
      (if s.get .pwe F.PWE_STATUS_CONSEC < s.cfg .pwe F.PWE_TRIP_CFG_RETRIES then 3 else 4) ∧
    (s.entryTrip cause uv).get .pwe F.PWE_STATUS_LAST_CAUSE = cause ∧
    (s.entryTrip cause uv).get .pwe F.PWE_STATUS_CONSEC = min (s.get .pwe F.PWE_STATUS_CONSEC + 1) 15 ∧
    (s.entryTrip cause uv).entry.hsGate = false := by
  obtain ⟨hlast, hconsec, hgate⟩ := s.tripRecorded_parts hcause uv
  have hstate (v : Nat) : ((s.tripRecorded cause uv).put .pwe F.PWE_STATUS_STATE v).get .pwe F.PWE_STATUS_LAST_CAUSE = cause ∧
      ((s.tripRecorded cause uv).put .pwe F.PWE_STATUS_STATE v).get .pwe F.PWE_STATUS_CONSEC =
        min (s.get .pwe F.PWE_STATUS_CONSEC + 1) 15 :=
    ⟨(State.get_put_bits _ _ _ _ _ (by decide)).trans hlast, (State.get_put_bits _ _ _ _ _ (by decide)).trans hconsec⟩
  rw [State.entryTrip_eq]
  split
  · simp only [State.get_withEntry, State.entry_withEntry]
    exact ⟨State.get_put_fits _ _ _ _ (by decide) (by decide), (hstate 3).1, (hstate 3).2, hgate⟩
  · simp only [State.get_raise_pwe, State.entry_raise_pwe]
    exact ⟨State.get_put_fits _ _ _ _ (by decide) (by decide), (hstate 4).1, (hstate 4).2, hgate⟩

theorem bit_lt (b : Bool) : bit b < 2 := by cases b <;> decide

/-- A resistor that fails its check (R170), but for a latched controller. -/
theorem State.ilimFail_parts (h : s.entrySt ≠ 4) (opn short : Bool) : (s.ilimFail opn short).get .pwe F.PWE_STATUS_STATE = 5 ∧
    (s.ilimFail opn short).get .pwe F.PWE_CEIL_ILIM_OPEN = bit opn ∧
    (s.ilimFail opn short).get .pwe F.PWE_CEIL_ILIM_SHORT = bit short ∧ (s.ilimFail opn short).entry.hsGate = false := by
  have hopen : (s.entrySt == 4) = false := by simpa using h
  unfold State.ilimFail
  simp only [hopen, Bool.false_eq_true, if_false, State.get_raise_pwe, State.entry_raise_pwe, State.setFlag]
  refine ⟨State.get_put_fits _ _ _ _ (by decide) (by decide), ?_, ?_, rfl⟩
  · rw [State.get_put_off _ _ _ _ _ (by decide), State.get_put_bits _ _ _ _ _ (by decide),
      State.get_put_fits _ _ _ _ (by decide) (bit_lt opn)]
  · rw [State.get_put_off _ _ _ _ _ (by decide), State.get_put_fits _ _ _ _ (by decide) (bit_lt short)]

end

/-! ### Feeds (R173, R174) -/

section
variable {s t : State} {fd : Feed}

/-- Whether a feed is good stands in `PWE_FEED`. -/
theorem State.feedIsGood_congr (h : ∀ f : Fld, f.off = 0x64 → t.get .pwe f = s.get .pwe f) (fd : Feed) :
    t.feedIsGood fd = s.feedIsGood fd := by
  cases fd <;> exact congrArg (· != 0) (h _ rfl)

/-- A feed's goodness and voltage lie apart, and read as recorded. -/
theorem State.setFeed_parts (s : State) (fd : Feed) (good : Bool) (dv : Nat) : (s.setFeed fd good dv).feedIsGood fd = good ∧
    (s.setFeed fd good dv).feedTenths fd = min dv 1023 := by
  have hfits : min dv 1023 < 1024 := by omega
  have hgood : (bit good != 0) = good := by cases good <;> rfl
  cases fd <;>
    exact ⟨(congrArg (· != 0) ((State.get_put_bits _ _ _ _ _ (by decide)).trans
      (State.get_put_fits _ _ _ _ (by decide) (bit_lt good)))).trans hgood, State.get_put_fits _ _ _ _ (by decide) hfits⟩

/-- A feed's record leaves the other registers of the page. -/
theorem State.get_setFeed (s : State) (fd : Feed) (good : Bool) (dv : Nat) {f : Fld} (h : f.off ≠ 0x64) :
    (s.setFeed fd good dv).get .pwe f = s.get .pwe f := by
  cases fd <;> exact (State.get_put_off _ _ _ _ _ h).trans (State.get_put_off _ _ _ _ _ h)

end

/-! ### Entry reset (R161) -/

section
variable {s : State}

/-- Registers cleared read as reset leaves them. -/
theorem State.rd_clearRegs (s : State) {lo hi a : Nat} (hlo : lo ≤ a) (hhi : a < hi) : (s.clearRegs lo hi).rd a = resetWord a := by
  refine (Sparse.get_filter resetWord s.regs (fun k => !(decide (lo ≤ k) && decide (k < hi))) a).trans (if_neg ?_)
  simp [hlo, hhi]

theorem ceilingUv_lt (r : Nat) : ceilingUv r < 65536 := by
  unfold ceilingUv
  split
  · decide
  · next hr =>
    have hquot : 500000000 / r ≤ 500000000 / 10000 := Nat.div_le_div_left (by omega) (by decide)
    split <;> omega

/-- The entry domain out of its reset, before the check of the resistor. -/
def State.entryReleased (s : State) (prefB : Bool) (r : Nat) : State :=
  ((s.withEntry (fun e => { e with powered := true, strapPref := prefB })).put .pwe F.PWE_STATUS_STATE 0).put .pwe F.PWE_CEIL_CEIL_UV
    (ceilingUv r)

theorem exec_entryResetRelease (h : s.entry.powered = false) (prefB : Bool) (r : Nat) : exec (.entryResetRelease prefB r) s =
    .next (if r < 5000 then (s.entryReleased prefB r).ilimFail false true
      else if 150000 < r then (s.entryReleased prefB r).ilimFail true false else s.entryReleased prefB r) :=
  congrArg Host.Outcome.next (if_neg (by simp [h]))

theorem State.entryReleased_STATE (s : State) (prefB : Bool) (r : Nat) : (s.entryReleased prefB r).get .pwe F.PWE_STATUS_STATE = 0 :=
  (State.get_put_off _ _ _ _ _ (by decide)).trans (State.get_put_fits _ _ _ _ (by decide) (by decide))

end

/-! ### Seating, the ramp and its retries (R162–R166) -/

section
variable {s : State}

/-- Seating lost, counted: before the controller follows it and records it (R164). -/
def State.unseated (s : State) (pins : BitVec 2) : State :=
  ((s.put .pwe F.PWE_STATUS_SEATED 0).withEntry (fun e => { e with pins := pins, debounced := false })).count .pwe F.PWE_CNT_SEAT_LOSS

theorem exec_seatingLoss {pins : BitVec 2} (hpow : s.entry.powered = true) (hseat : s.get .pwe F.PWE_STATUS_SEATED = 1)
    (hpins : pins ≠ 3) : exec (.seatingLoss pins) s =
    .next ((if s.entryDrives then (s.unseated pins).toDebounce 2 else s.unseated pins).raise .pwe evSeating 0 pins.toNat) :=
  congrArg Host.Outcome.next (if_pos (by simpa [hpow, State.flag, hseat] using hpins))

theorem State.unseated_parts (s : State) (pins : BitVec 2) : (s.unseated pins).get .pwe F.PWE_STATUS_SEATED = 0 ∧
    (s.unseated pins).get .pwe F.PWE_STATUS_STATE = s.entrySt ∧ (s.unseated pins).entry.pins = pins := by
  unfold State.unseated
  rw [State.get_count_fld _ _ _ _ _ (by decide) (by decide) (by decide), State.get_count_fld _ _ _ _ _ (by decide) (by decide) (by decide),
    State.entry_count, State.get_withEntry, State.get_withEntry]
  exact ⟨State.get_put_fits _ _ _ _ (by decide) (by decide), State.get_put_bits _ _ _ _ _ (by decide), rfl⟩

/-- In DEBOUNCE the debounce met starts the ramp, once its end has been recorded. -/
theorem exec_seatDbEnd (hpow : s.entry.powered = true) (hseat : s.get .pwe F.PWE_STATUS_SEATED = 1)
    (hgood : s.feedIsGood .a = true ∨ s.feedIsGood .b = true) (hst : s.get .pwe F.PWE_STATUS_STATE = 0) :
    exec .seatDbEnd s = .next (s.raise .pwe evSeating 0 s.entry.pins.toNat false).toRamp :=
  (congrArg Host.Outcome.next (if_pos (by simp [hpow, State.flag, hseat, hgood, State.entrySt, hst]))).trans
    (congrArg Host.Outcome.next (if_neg (by simp [State.entrySt, hst])))

/-- A record changes no feed and no preference. -/
theorem State.rampFeed_raise_pwe (s : State) (e : Ev) (src d : Nat) (b : Bool) : (s.raise .pwe e src d b).rampFeed = s.rampFeed := by
  obtain ⟨fifos, hf⟩ := s.raise_pwe_parts e src d b
  rw [hf]
  rfl

theorem exec_entryRetryEnd (hpow : s.entry.powered = true) (hst : s.get .pwe F.PWE_STATUS_STATE = 3) (hrun : s.entry.retryRun = true)
    (hdb : s.entry.debounced = true) : exec .entryRetryEnd s = .next s.toRamp :=
  (congrArg Host.Outcome.next (if_pos (by simp [hpow, State.entrySt, hst, hrun]))).trans (congrArg Host.Outcome.next (if_pos hdb))

theorem exec_rampEnd (hpow : s.entry.powered = true) (hst : s.get .pwe F.PWE_STATUS_STATE = 1) :
    exec .rampEnd s = .next ((s.put .pwe F.PWE_STATUS_STATE 2).put .pwe F.PWE_STATUS_LIMITING 0) :=
  congrArg Host.Outcome.next (if_pos (by simp [hpow, State.entrySt, hst]))

end

/-! ### The current limit (R166–R170) -/

section
variable {s : State}

theorem exec_entryFastTrip {uv : Nat} (hpow : s.entry.powered = true) (hdrives : s.entryDrives = true) (hlim : 2 * s.entryLimitUv ≤ uv) :
    exec (.entryFastTrip uv) s = .next (s.entryTrip 1 uv) :=
  congrArg Host.Outcome.next (if_pos (by simp [hpow, hdrives, hlim]))

theorem exec_faultTimeEnd (uv : Nat) (hpow : s.entry.powered = true) (hdrives : s.entryDrives = true)
    (hlim : s.get .pwe F.PWE_STATUS_LIMITING = 1) : exec (.faultTimeEnd uv) s = .next (s.entryTrip 2 uv) :=
  congrArg Host.Outcome.next (if_pos (by simp [hpow, hdrives, State.flag, hlim]))

theorem exec_rampMaxEnd (uv : Nat) (hpow : s.entry.powered = true) (hst : s.get .pwe F.PWE_STATUS_STATE = 1) :
    exec (.rampMaxEnd uv) s = .next (s.entryTrip 3 uv) :=
  congrArg Host.Outcome.next (if_pos (by simp [hpow, State.entrySt, hst]))

theorem exec_entryLimit (above : Bool) (uv : Nat) (hpow : s.entry.powered = true) (hdrives : s.entryDrives = true) :
    exec (.entryLimit above uv) s = .next (((s.setFlag .pwe F.PWE_STATUS_LIMITING above).put .pwe F.PWE_LOAD_ISNS_UV
      (min uv 65535)).withEntry (fun e => { e with timing := e.timing || above })) :=
  congrArg Host.Outcome.next (if_pos (by simp [hpow, hdrives]))

theorem exec_entryConsecClear (hpow : s.entry.powered = true) (hst : s.get .pwe F.PWE_STATUS_STATE = 2)
    (hlim : s.get .pwe F.PWE_STATUS_LIMITING = 0) : exec .entryConsecClear s =
    .next ((s.put .pwe F.PWE_STATUS_CONSEC 0).withEntry (fun e => { e with timing := false })) :=
  congrArg Host.Outcome.next (if_pos (by simp [hpow, State.entrySt, hst, State.flag, hlim]))

theorem exec_ilimCheck (r : Nat) (hpow : s.entry.powered = true) (hbad : s.ilimBad = false) : exec (.ilimCheck r) s =
    .next (if r < 5000 then s.ilimFail false true else if 150000 < r then s.ilimFail true false else s) :=
  congrArg Host.Outcome.next (if_pos (by simp [hpow, hbad]))

end

/-! ### Feeds lost and switched (R173–R176) -/

section
variable {s : State} {fd : Feed} {n : Nat}

/-- A feed's loss noted and recorded, before the controller follows it. -/
def State.feedLost (s : State) (fd : Feed) (n : Nat) : State :=
  (s.setFeed fd false n).raise .pwe evFeedLoss 0 (feedCode fd - 1 + 2 * bit (s.get .pwe F.PWE_STATUS_FEED_SEL == feedCode fd) +
    4 * bit (s.feedIsGood (otherFeed fd)) + min n 1023 * 16)

theorem State.feedIsGood_feedLost (s : State) (fd : Feed) (n : Nat) : (s.feedLost fd n).feedIsGood fd = false :=
  (State.feedIsGood_congr (fun _ _ => State.get_raise_pwe ..) fd).trans (s.setFeed_parts fd false n).1

theorem State.get_feedLost (s : State) (fd : Feed) (n : Nat) {f : Fld} (h : f.off ≠ 0x64) :
    (s.feedLost fd n).get .pwe f = s.get .pwe f :=
  (State.get_raise_pwe ..).trans (s.get_setFeed fd false n h)

/-- The gap toward a feed begun: the selected feed's gate off and none selected (R175). -/
def State.gapBegun (s : State) (fd : Feed) (ret : Bool) : State :=
  ((s.setFeedGate (otherFeed fd) false).put .pwe F.PWE_STATUS_FEED_SEL 0).withEntry (fun e => { e with gap := some (fd, ret) })

theorem otherFeed_otherFeed (fd : Feed) : otherFeed (otherFeed fd) = fd := by cases fd <;> rfl

/-- The selected feed lost in ON with the other one good: the gap toward that one begins. -/
theorem exec_feedLoss_switch (hstays : feedStays n = false) (hpow : s.entry.powered = true) (hgood : s.feedIsGood fd = true)
    (hst : s.get .pwe F.PWE_STATUS_STATE = 2) (hsel : s.get .pwe F.PWE_STATUS_FEED_SEL = feedCode fd)
    (hother : s.feedIsGood (otherFeed fd) = true) : exec (.feedLoss fd n) s = .next ((s.feedLost fd n).gapBegun (otherFeed fd) false) := by
  refine (congrArg Host.Outcome.next (if_pos (by simp [hpow, hgood, hstays]))).trans
    ((congrArg Host.Outcome.next (if_pos (by simp [State.entrySt, hst, hsel, hother]))).trans ?_)
  unfold State.gapBegun
  rw [otherFeed_otherFeed]
  rfl

/-- The last good feed lost in ON: DEBOUNCE. -/
theorem exec_feedLoss_debounce (hstays : feedStays n = false) (hpow : s.entry.powered = true) (hgood : s.feedIsGood fd = true)
    (hst : s.get .pwe F.PWE_STATUS_STATE = 2) (hother : s.feedIsGood (otherFeed fd) = false) :
    exec (.feedLoss fd n) s = .next ((s.feedLost fd n).toDebounce 3) :=
  (congrArg Host.Outcome.next (if_pos (by simp [hpow, hgood, hstays]))).trans
    ((congrArg Host.Outcome.next (if_neg (by simp [hother]))).trans
      (congrArg Host.Outcome.next (if_pos (by simp [State.entrySt, hst, hother]))))

theorem State.gapBegun_parts (s : State) (fd : Feed) (ret : Bool) : (s.gapBegun fd ret).get .pwe F.PWE_STATUS_FEED_SEL = 0 ∧
    (s.gapBegun fd ret).get .pwe F.PWE_STATUS_STATE = s.get .pwe F.PWE_STATUS_STATE ∧
    (s.gapBegun fd ret).entry.gap = some (fd, ret) := by
  unfold State.gapBegun
  simp only [State.get_withEntry, State.entry_withEntry, and_true]
  exact ⟨State.get_put_fits _ _ _ _ (by decide) (by decide), State.get_put_bits _ _ _ _ _ (by decide)⟩

theorem State.feedIsGood_gapBegun (s : State) (g : Feed) (ret : Bool) (fd : Feed) :
    (s.gapBegun g ret).feedIsGood fd = s.feedIsGood fd :=
  State.feedIsGood_congr (fun f hf => State.get_put_off _ _ F.PWE_STATUS_FEED_SEL f _ (by rw [hf]; decide)) fd

/-- The gap's end: the target's gate on, selected and counted (R175, R176). -/
def State.feedSwitched (s : State) (fd : Feed) : State :=
  (((s.setFeedGate fd true).put .pwe F.PWE_STATUS_FEED_SEL (feedCode fd)).withEntry (fun e => { e with gap := none })).count
    .pwe F.PWE_CNT_SWITCHES

theorem exec_feedSwitch {ret : Bool} (hgap : s.entry.gap = some (fd, ret)) (hpow : s.entry.powered = true)
    (hst : s.get .pwe F.PWE_STATUS_STATE = 2) (hgood : s.feedIsGood fd = true) : exec .feedSwitch s = .next
      ((s.feedSwitched fd).raise .pwe evFeedSwitch 0 (feedCode fd - 1 + 2 * bit ret + s.bbmGap * 256)) := by
  have hexec : exec .feedSwitch s = execFeedSwitch s := rfl
  rw [hexec, execFeedSwitch, hgap]
  exact congrArg Host.Outcome.next (if_pos (by simp [hpow, State.entrySt, hst, hgood]))

theorem State.feedSwitched_parts (s : State) (fd : Feed) : (s.feedSwitched fd).get .pwe F.PWE_STATUS_FEED_SEL = feedCode fd ∧
    (s.feedSwitched fd).entry.gap = none ∧ (s.feedSwitched fd).get .pwe F.PWE_CNT_SWITCHES =
      min (s.get .pwe F.PWE_CNT_SWITCHES + 1) (2 ^ F.PWE_CNT_SWITCHES.width - 1) := by
  unfold State.feedSwitched
  refine ⟨?_, rfl, ?_⟩
  · rw [State.get_count_fld _ _ _ _ _ (by decide) (by decide) (by decide), State.get_withEntry]
    exact State.get_put_fits _ _ _ _ (by decide) (feedCode_lt fd)
  · rw [State.get_count_same _ _ _ (by decide), State.get_withEntry, State.get_put_off _ _ _ _ _ (by decide), State.get_setFeedGate]

theorem exec_feedReturn (hpow : s.entry.powered = true) (hst : s.get .pwe F.PWE_STATUS_STATE = 2)
    (hret : s.cfgFlag .pwe F.PWE_FEED_CFG_RETURN_EN = true) (hgood : s.feedIsGood s.prefFeed = true)
    (hsel : s.get .pwe F.PWE_STATUS_FEED_SEL = feedCode (otherFeed s.prefFeed)) :
    exec .feedReturn s = .next (s.gapBegun s.prefFeed true) :=
  congrArg Host.Outcome.next (if_pos (by simp [hpow, State.entrySt, hst, hret, hgood, hsel]))

end

/-! ### The scrubber (R180) -/

theorem exec_entryScrub {s : State} {addr : Nat} (upset : Word) (hpow : s.entry.powered = true) (hheld : s.coreHeld = true)
    (hlo : 0x5000 ≤ addr) (hhi : addr < 0x6000) :
    exec (.entryScrub [(addr, upset)] addr) s = .next ((s.upset addr upset).findParity addr).2 := by
  have hexec : exec (.entryScrub [(addr, upset)] addr) s = execEntryScrub [(addr, upset)] addr s := rfl
  simp [hexec, execEntryScrub, hpow, hheld, hlo, hhi]

/-- Settles O27: each command is one of the controller's shared operations, whose parts stand above. -/
theorem entryControllerFollowsSupplyAndFeeds : Obligations.EntryControllerFollowsSupplyAndFeeds := by
  unfold Obligations.EntryControllerFollowsSupplyAndFeeds
  refine ⟨fun prefB r s hpow hlo hhi => ?release, fun prefB r s hpow hshort => ?releaseShort,
    fun s => ⟨_, rfl, rfl, fun a ha => State.rd_clearRegs _ (Nat.le_add_right ..) (by omega)⟩, fun s hpow => ?seated,
    fun pins s hpow hseat hpins => ?seatingLoss, fun s hpow hseat hgood hst => ?seatDbEnd, fun s hpow hst => ?rampEnd,
    fun uv s hpow hdrives hlim => ⟨_, exec_entryFastTrip hpow hdrives hlim, s.entryTrip_parts (by decide) uv⟩,
    fun uv s hpow hdrives hlim => ?faultTimeEnd, fun uv s hpow hst => ?rampMaxEnd, fun above uv s hpow hdrives => ?limit,
    fun s hpow hst hrun hdb => ?retryEnd, fun s hpow hst hlim => ⟨_, exec_entryConsecClear hpow hst hlim, ?consecClear⟩,
    fun r s hpow hbad hst hopen => ?ilimOpen, fun r s hpow hbad hst hshort => ?ilimShort,
    fun addr upset s hpow hheld hlo hhi => ⟨_, exec_entryScrub upset hpow hheld hlo hhi, rfl⟩,
    fun fd n s hpow hgood hin => ⟨_, congrArg Host.Outcome.next (if_pos (by simp [hpow, hgood, hin])), s.setFeed_parts fd true n⟩,
    fun fd n s hout => ⟨s, congrArg Host.Outcome.next (if_neg (by simp [hout])), rfl⟩,
    fun fd n s hstays hpow hgood hst hsel hother => ?lossSwitch, fun fd n s hstays hpow hgood hst hsel hother => ?lossDebounce,
    fun fd ret s hgap hpow hst hgood => ?switch, fun s hpow hst hret hgood hsel => ?feedReturn⟩
  case release =>
    have hexec := exec_entryResetRelease hpow prefB r
    rw [if_neg (by omega), if_neg (by omega)] at hexec
    exact ⟨_, hexec, rfl, rfl, s.entryReleased_STATE prefB r, State.get_put_fits _ _ _ _ (by decide) (ceilingUv_lt r)⟩
  case releaseShort =>
    have hexec := exec_entryResetRelease hpow prefB r
    rw [if_pos hshort] at hexec
    have hst : (s.entryReleased prefB r).entrySt ≠ 4 := by rw [State.entrySt, s.entryReleased_STATE]; decide
    obtain ⟨hfault, -, hbit, -⟩ := State.ilimFail_parts _ hst false true
    exact ⟨_, hexec, hfault, hbit⟩
  case seated =>
    refine ⟨_, congrArg Host.Outcome.next (if_pos hpow), ?_, rfl, rfl⟩
    exact (State.get_withEntry ..).trans (State.get_put_fits _ _ _ _ (by decide) (by decide))
  case seatingLoss =>
    refine ⟨_, exec_seatingLoss hpow hseat hpins, ?_⟩
    obtain ⟨hgone, hst, hpin⟩ := s.unseated_parts pins
    obtain ⟨hzero, -, hsame⟩ := (s.unseated pins).toDebounce_parts 2
    simp only [State.get_raise_pwe, State.entry_raise_pwe]
    split
    · exact ⟨((s.unseated pins).get_toDebounce 2 (by decide)).trans hgone, hzero, hsame.trans hpin⟩
    · exact ⟨hgone, hst, hpin⟩
  case seatDbEnd =>
    obtain ⟨hramp, hsel, -, hgate⟩ := State.toRamp_parts (s.raise .pwe evSeating 0 s.entry.pins.toNat false)
    rw [State.rampFeed_raise_pwe] at hsel
    exact ⟨_, exec_seatDbEnd hpow hseat hgood hst, hramp, hsel, hgate⟩
  case rampEnd =>
    refine ⟨_, exec_rampEnd hpow hst, ?_, State.get_put_fits _ _ _ _ (by decide) (by decide)⟩
    exact (State.get_put_bits _ _ _ _ _ (by decide)).trans (State.get_put_fits _ _ _ _ (by decide) (by decide))
  case faultTimeEnd =>
    obtain ⟨hst, hcause, -, hgate⟩ := s.entryTrip_parts (cause := 2) (by decide) uv
    exact ⟨_, exec_faultTimeEnd uv hpow hdrives hlim, hst, hcause, hgate⟩
  case rampMaxEnd =>
    obtain ⟨hnext, hcause, -, hgate⟩ := s.entryTrip_parts (cause := 3) (by decide) uv
    exact ⟨_, exec_rampMaxEnd uv hpow hst, hnext, hcause, hgate⟩
  case limit =>
    refine ⟨_, exec_entryLimit above uv hpow hdrives, ?_, ?_⟩
    · rw [State.get_withEntry, State.get_put_off _ _ _ _ _ (by decide)]
      exact State.get_put_fits _ _ _ _ (by decide) (bit_lt above)
    · rw [State.get_withEntry]
      exact State.get_put_fits _ _ _ _ (by decide) (show min uv 65535 < 65536 by omega)
  case retryEnd =>
    obtain ⟨hramp, -, hcause, hgate⟩ := s.toRamp_parts
    rw [State.entrySt, hst] at hcause
    exact ⟨_, exec_entryRetryEnd hpow hst hrun hdb, hramp, hcause, hgate⟩
  case consecClear => exact (State.get_withEntry ..).trans (State.get_put_fits _ _ _ _ (by decide) (by decide))
  case ilimOpen =>
    have hexec := exec_ilimCheck r hpow hbad
    rw [if_neg (by omega), if_pos hopen] at hexec
    obtain ⟨hfault, hbit, -, hgate⟩ := s.ilimFail_parts hst true false
    exact ⟨_, hexec, hfault, hbit, hgate⟩
  case ilimShort =>
    have hexec := exec_ilimCheck r hpow hbad
    rw [if_pos hshort] at hexec
    obtain ⟨hfault, -, hbit, hgate⟩ := s.ilimFail_parts hst false true
    exact ⟨_, hexec, hfault, hbit, hgate⟩
  case lossSwitch =>
    obtain ⟨hnone, hkept, hgap⟩ := (s.feedLost fd n).gapBegun_parts (otherFeed fd) false
    exact ⟨_, exec_feedLoss_switch hstays hpow hgood hst hsel hother, (State.feedIsGood_gapBegun ..).trans (s.feedIsGood_feedLost fd n),
      hnone, (hkept.trans (s.get_feedLost fd n (by decide))).trans hst, hgap⟩
  case lossDebounce =>
    obtain ⟨hzero, hgate, -⟩ := (s.feedLost fd n).toDebounce_parts 3
    have hlost : ((s.feedLost fd n).toDebounce 3).feedIsGood fd = false :=
      (State.feedIsGood_congr (fun f hf => State.get_toDebounce _ 3 (.inl (by rw [hf]; decide))) fd).trans (s.feedIsGood_feedLost fd n)
    exact ⟨_, exec_feedLoss_debounce hstays hpow hgood hst hother, hzero, hlost, hgate⟩
  case switch =>
    refine ⟨_, exec_feedSwitch hgap hpow hst hgood, ?_⟩
    simp only [State.get_raise_pwe, State.entry_raise_pwe]
    exact s.feedSwitched_parts fd
  case feedReturn =>
    obtain ⟨hnone, -, hgap⟩ := s.gapBegun_parts s.prefFeed true
    exact ⟨_, exec_feedReturn hpow hst hret hgood hsel, hnone, hgap⟩

end Sys2Proof.Machine

namespace Sys2Proof.Machine

/-! PROOFS. Which registers the operations of a port's power write (O21, O29): a zone is a stretch of registers of one kind of page, and the
lemma about an operation bears its name, says in which zones it writes and follows its definition. Every field that misses those
zones stands, on every port's page; of `INT_STATUS`, which any event sets, nothing is said. -/

/-! ### Zones -/

/-- The bits `lo` to `hi - 1` of the registers `first` to `last` of every page of a kind. -/
structure Zone where
  kind : PageKind
  first : Nat
  last : Nat
  lo : Nat
  hi : Nat
  deriving DecidableEq

/-- The zone of one field. -/
def Zone.field (k : PageKind) (f : Fld) : Zone := ⟨k, f.off, f.off, f.lo, f.lo + f.width⟩

/-- The zone of whole registers. -/
def Zone.regs (k : PageKind) (first last : Nat) : Zone := ⟨k, first, last, 0, 32⟩

/-- A field lies in a zone. -/
def Zone.covers (z : Zone) (k : PageKind) (f : Fld) : Bool :=
  z.kind == k && Nat.ble z.first f.off && Nat.ble f.off z.last && Nat.ble z.lo f.lo && Nat.ble (f.lo + f.width) z.hi && Nat.blt f.off 0x1000

/-- A field shares no bit with a zone. -/
def Zone.misses (z : Zone) (k : PageKind) (f : Fld) : Bool :=
  z.kind != k || Nat.blt f.off z.first || Nat.blt z.last f.off || Nat.ble (f.lo + f.width) z.lo || Nat.ble z.hi f.lo

/-- A field of a page, `INT_STATUS` apart, that misses every one of some zones. -/
def Zone.spared (W : List Zone) (k : PageKind) (f : Fld) : Bool :=
  Nat.blt f.off 0x1000 && f.off != 0xC && W.all (·.misses k f)

theorem Zone.apart {z : Zone} {k : PageKind} {f g : Fld} (hf : z.covers k f = true) (hg : z.misses k g = true) :
    g.off ≠ f.off ∨ f.lo + f.width ≤ g.lo ∨ g.lo + g.width ≤ f.lo := by
  simp only [Zone.covers, Zone.misses, Bool.and_eq_true, Bool.or_eq_true, Nat.ble_eq, Nat.blt_eq, bne_iff_ne, beq_iff_eq] at hf hg
  obtain ⟨⟨⟨⟨⟨hkind, _⟩, _⟩, _⟩, _⟩, _⟩ := hf
  obtain (((hne | _) | _) | _) | _ := hg
  · exact absurd hkind hne
  all_goals omega

/-- A field of a kind of page that no zone is of. -/
theorem Zone.spared_of_kind {W : List Zone} {k : PageKind} {f : Fld} (hk : W.all (·.kind != k) = true) (hlt : f.off < 0x1000)
    (hoff : f.off ≠ 0xC) : Zone.spared W k f = true := by
  simp only [Zone.spared, Bool.and_eq_true, Nat.blt_eq, bne_iff_ne, List.all_eq_true] at hk ⊢
  exact ⟨⟨hlt, hoff⟩, fun z hz => by simp [Zone.misses, hk z hz]⟩

/-- What a request for leave writes (R197). -/
def Zone.ask : List Zone := [.field .tcp F.TCP_CC_STATUS_LEAVE_WAIT]

/-- What a leave withdrawn and a grant returned write (R184, R190). -/
def Zone.budget : List Zone :=
  [.field .bgt F.BGT_DIE_STATUS_PENDING, .regs .bgt 0x180 0x27C, .field .glb F.GLB_READY_PACING_DONE, .field .tcp F.TCP_CC_STATUS_BC_NOW]

/-- What Rp and the fuse limit write as they follow their conditions (R198, R210). -/
def Zone.rp : List Zone := [.field .tcp F.TCP_CC_STATUS_RP_NOW, .field .vbs F.VBS_TARGET_LIMIT_MA]

/-- The pages of both USB sides (R272, R301). -/
def Zone.usb : List Zone := [.regs .u2p 0x40 0xFFC, .regs .ssp 0x40 0xFFC]

/-- What an opened SBU mux writes (R222). -/
def Zone.mux : List Zone := [.field .tcp F.TCP_CC_STATUS_SBU_ROUTED, .regs .con 0x40 0xFFC]

/-- What the end of PD activity writes (R197, R234). -/
def Zone.pdEnd : List Zone := .regs .tcp 0x80 0x90 :: Zone.budget ++ Zone.mux

/-- What an opened switch writes besides its own status (R190, R197). -/
def Zone.opened : List Zone := .field .vbs F.VBS_TARGET_TARGET_MV :: Zone.usb ++ Zone.rp ++ Zone.pdEnd

/-- The status of the switch, but for what its trips record. -/
def Zone.gate : List Zone :=
  [.field .vbs F.VBS_STATUS_STATE, .field .vbs F.VBS_STATUS_GATE_ON, .field .vbs F.VBS_STATUS_DSCH_ON]

/-- What the opening of the switch writes. -/
def Zone.opening : List Zone := Zone.gate ++ Zone.opened

/-- What the connection logic writes as it leaves an attached state (R209, R218). -/
def Zone.leaving : List Zone :=
  [.field .tcp F.TCP_CC_STATUS_STATE, .field .tcp F.TCP_CC_STATUS_ORIENT, .field .tcp F.TCP_CC_STATUS_ORIENT_VALID,
    .field .tcp F.TCP_CC_STATUS_VCONN_ON, .field .tcp F.TCP_CC_STATUS_LEAVE_WAIT] ++ Zone.opening

/-- A port's page of the host engine. -/
def Zone.lhe : List Zone := [.regs .lhe 0x40 0xFFC]

/-- What a trip writes between its record and the wait or quarantine it leads to (R198, R437). -/
def Zone.tripping : List Zone := [.regs .cpt 0x4C 0x4C, .regs .win 0 0xFFC] ++ Zone.lhe ++ Zone.opening

/-! ### Writes within zones -/

/-- From `s` to `t` only fields in the zones `W` have been written, and no request has come to the arbiter. -/
structure State.WritesIn (W : List Zone) (s t : State) : Prop where
  get : ∀ (pg : PageId) (f : Fld), Zone.spared W (pageKind pg) f = true → t.get pg f = s.get pg f
  idle : s.arb.reqs = [] → t.arb.reqs = []

namespace State.WritesIn

open List (Subset.trans)

variable {L W : List Zone} {was s t : State}

theorem refl (s : State) : s.WritesIn W s := ⟨fun _ _ _ => rfl, id⟩

theorem trans (h : was.WritesIn W s) (ht : s.WritesIn W t) : was.WritesIn W t :=
  ⟨fun pg f hf => (ht.get pg f hf).trans (h.get pg f hf), fun hi => ht.idle (h.idle hi)⟩

/-- What is written in fewer zones is written in more. -/
theorem mono (hW : L ⊆ W) (h : s.WritesIn L t) : s.WritesIn W t := by
  refine ⟨fun pg f hf => h.get pg f ?_, h.idle⟩
  simp only [Zone.spared, Bool.and_eq_true, List.all_eq_true] at hf ⊢
  obtain ⟨hin, hmiss⟩ := hf
  exact ⟨hin, fun z hz => hmiss z (hW hz)⟩

/-- A change of hidden state alone. -/
theorem hidden (h : was.WritesIn W s) (hregs : t.regs = s.regs) (harb : s.arb.reqs = [] → t.arb.reqs = []) : was.WritesIn W t :=
  h.trans ⟨fun pg f _ => by simp only [State.get, State.rd, hregs], harb⟩

/-! ### The shapes of the operations -/

theorem ite {c : Prop} [Decidable c] (hs : was.WritesIn W s) (ht : was.WritesIn W t) : was.WritesIn W (if c then s else t) := by
  split
  · exact hs
  · exact ht

theorem foldl {α : Type} {l : List α} {f : State → α → State} (hf : ∀ s x, was.WritesIn W s → was.WritesIn W (f s x))
    (h : was.WritesIn W s) : was.WritesIn W (l.foldl f s) := by
  induction l generalizing s with
  | nil => exact h
  | cons x l ih => exact ih (hf _ _ h)

/-! ### The primitive changes -/

theorem put {pg f v} (hW : L ⊆ W) (hf : L.any (·.covers (pageKind pg) f) = true) (h : was.WritesIn W s) :
    was.WritesIn W (s.put pg f v) := by
  obtain ⟨z, hz, hcov⟩ := List.any_eq_true.1 hf
  refine h.trans ⟨fun pg' g hg => ?_, id⟩
  simp only [Zone.spared, Bool.and_eq_true, Nat.blt_eq, List.all_eq_true] at hg
  obtain ⟨⟨hlt, -⟩, hmiss⟩ := hg
  by_cases he : pg' = pg
  · subst he
    rcases Zone.apart hcov (hmiss z (hW hz)) with hoff | hbits
    · exact State.get_put_off _ _ _ _ _ hoff
    · exact State.get_put_bits _ _ _ _ _ hbits
  · have hin : f.off < 0x1000 := by
      simp only [Zone.covers, Bool.and_eq_true, Nat.blt_eq] at hcov
      exact hcov.2
    exact State.get_put_page _ _ _ _ he hin hlt

theorem setFlag {pg f b} (hW : L ⊆ W) (hf : L.any (·.covers (pageKind pg) f) = true) (h : was.WritesIn W s) :
    was.WritesIn W (s.setFlag pg f b) :=
  put hW hf h

theorem count {pg f} (hW : L ⊆ W) (hf : L.any (·.covers (pageKind pg) f) = true) (h : was.WritesIn W s) :
    was.WritesIn W (s.count pg f) :=
  put hW hf h

/-- A register written whole. -/
theorem wr {pg : PageId} {off w} (hW : L ⊆ W) (hf : L.any (·.covers (pageKind pg) ⟨off, 0, 32⟩) = true) (h : was.WritesIn W s) :
    was.WritesIn W (s.wr (pg.base + off) w) :=
  State.wr_eq_put s pg off w ▸ put hW hf h

theorem raiseWith {pg e src detail assert subj} (h : was.WritesIn W s) : was.WritesIn W (s.raiseWith pg e src detail assert subj) := by
  refine h.trans ⟨fun pg' f hf => ?_, fun hi => by rw [State.raiseWith_arb, hi]⟩
  simp only [Zone.spared, Bool.and_eq_true, Nat.blt_eq, bne_iff_ne] at hf
  obtain ⟨⟨hlt, hoff⟩, -⟩ := hf
  exact State.get_raiseWith _ _ _ _ _ _ _ _ _ (.inr hoff) hlt

theorem raisePort {pg p e detail assert} (h : was.WritesIn W s) : was.WritesIn W (s.raisePort pg p e detail assert) :=
  raiseWith h

theorem free (h : was.WritesIn W s) : was.WritesIn W s.free.2 :=
  h.hidden rfl id

/-! ### The definitions of Machine/Parts.lean -/

theorem u2pWith {i f} (h : was.WritesIn W s) : was.WritesIn W (s.u2pWith i f) :=
  h.hidden rfl id

theorem sspWith {i f} (h : was.WritesIn W s) : was.WritesIn W (s.sspWith i f) :=
  h.hidden rfl id

theorem upLkWith {i f} (h : was.WritesIn W s) : was.WritesIn W (s.upLkWith i f) :=
  h.hidden rfl id

theorem vbsWith {i f} (h : was.WritesIn W s) : was.WritesIn W (s.vbsWith i f) :=
  h.hidden rfl id

theorem tcpWith {i f} (h : was.WritesIn W s) : was.WritesIn W (s.tcpWith i f) :=
  h.hidden rfl id

theorem pdWith {i f} (h : was.WritesIn W s) : was.WritesIn W (s.pdWith i f) :=
  h.hidden rfl id

theorem conWith {i f} (h : was.WritesIn W s) : was.WritesIn W (s.conWith i f) :=
  h.hidden rfl id

theorem healthWith {f} (h : was.WritesIn W s) : was.WritesIn W (s.healthWith f) :=
  h.hidden rfl id

theorem grvWith {f} (h : was.WritesIn W s) : was.WritesIn W (s.grvWith f) :=
  h.hidden rfl id

theorem devLost {p ss} (h : was.WritesIn W s) : was.WritesIn W (s.devLost p ss) :=
  ite (h.hidden rfl id) (h.hidden rfl id)

/-! ### The definitions of Machine/Usb2Port.lean -/

theorem countErr {pg p f} (hW : L ⊆ W) (hf : L.any (·.covers (pageKind pg) f) = true) (hE : .regs .hlt 0x7C 0x80 ∈ W)
    (h : was.WritesIn W s) : was.WritesIn W (s.countErr pg p f) := by
  have hcov : (Zone.regs .hlt 0x7C 0x80).covers .hlt (portBit F.HLT_ERR_SUM_ERR p) = true := by
    simp [Zone.covers, Zone.regs, portBit, F.HLT_ERR_SUM_ERR]
    omega
  exact put (L := [.regs .hlt 0x7C 0x80]) (by simpa using hE) (List.any_eq_true.2 ⟨_, List.mem_cons_self, hcov⟩) (count hW hf h)

theorem setU2 {p v} (hW : Zone.usb ⊆ W) (h : was.WritesIn W s) : was.WritesIn W (s.setU2 p v) :=
  put hW rfl h

theorem setPowerBit {p c b} (hW : Zone.usb ⊆ W) (h : was.WritesIn W s) : was.WritesIn W (s.setPowerBit p c b) := by
  have hcov : (Zone.regs .u2p 0x40 0xFFC).covers .u2p (fldBit F.U2P_STATUS_HOST_POWER c.val) = true := by
    simp [Zone.covers, Zone.regs, fldBit, F.U2P_STATUS_HOST_POWER]
    omega
  exact setFlag hW (List.any_eq_true.2 ⟨_, List.mem_cons_self, hcov⟩) h

theorem addChg {p bits} (h : was.WritesIn W s) : was.WritesIn W (s.addChg p bits) := by
  unfold State.addChg
  split
  · exact h
  · exact u2pWith h

theorem ttDrop {p} (hW : Zone.usb ⊆ W) (h : was.WritesIn W s) : was.WritesIn W (s.ttDrop p) :=
  put hW rfl (put hW rfl (put hW rfl (u2pWith h)))

theorem u2Gone {p st} (hW : Zone.usb ⊆ W) (h : was.WritesIn W s) : was.WritesIn W (s.u2Gone p st) :=
  setU2 hW (ttDrop hW (put hW rfl (put hW rfl (put hW rfl (u2pWith (ite (devLost (addChg h)) h))))))

theorem u2Eval {p} (hW : Zone.usb ⊆ W) (h : was.WritesIn W s) : was.WritesIn W (s.u2Eval p) :=
  have hgone {v : Nat} : was.WritesIn W (s.u2Gone p v) := u2Gone hW h
  have hset {v : Nat} : was.WritesIn W (s.setU2 p v) := setU2 hW h
  ite h (ite (ite h hgone) (ite (ite h hgone) (ite (ite h hgone) (ite (ite h hset) (ite hset (ite hset h))))))

/-! ### The definitions of Machine/SsPort.lean -/

theorem addSsChg {f bits} (h : was.WritesIn W s) : was.WritesIn W (s.addSsChg f bits) := by
  unfold State.addSsChg
  split
  · exact h
  · exact sspWith h

theorem marginLost {f} (hW : Zone.usb ⊆ W) (h : was.WritesIn W s) : was.WritesIn W (s.marginLost f) :=
  ite (put hW rfl (put hW rfl (put hW rfl (sspWith (free h))))) h

theorem maskWake {f b} (h : was.WritesIn W s) : was.WritesIn W (s.maskWake f b) := by
  unfold State.maskWake
  split
  · exact h
  · exact ite (ite (upLkWith h) h) h

theorem ssLeave {f dest cause} (hW : Zone.usb ⊆ W) (h : was.WritesIn W s) : was.WritesIn W (s.ssLeave f dest cause) :=
  have hend : was.WritesIn W (s.ssEndCompliance f) := ite (raisePort h) h
  put hW rfl (put hW rfl (put hW rfl (marginLost hW (sspWith (put hW rfl (devLost
    (ite (maskWake (ite (addSsChg hend) (raisePort (addSsChg hend)))) hend)))))))

theorem ssDetect {f cause} (hW : Zone.usb ⊆ W) (h : was.WritesIn W s) : was.WritesIn W (s.ssDetect f cause) :=
  sspWith (ssLeave hW h)

theorem ssEval {f} (hW : Zone.usb ⊆ W) (h : was.WritesIn W s) : was.WritesIn W (s.ssEval f) :=
  ite (ite (ssDetect hW h) h) (ite h (ssLeave hW h))

theorem usbEval {p} (hW : Zone.usb ⊆ W) (h : was.WritesIn W s) : was.WritesIn W (s.usbEval p) := by
  unfold State.usbEval State.ssEvalPort
  split
  · exact u2Eval hW h
  · exact ssEval hW (u2Eval hW h)

theorem ssTie {f} (h : was.WritesIn W s) : was.WritesIn W (s.ssTie f) := by
  unfold State.ssTie
  split
  · exact ite h (ite (raisePort (sspWith (free h))) (free h))
  · exact h

theorem ssForget {p} (hW : Zone.usb ⊆ W) (h : was.WritesIn W s) : was.WritesIn W (s.ssForget p) := by
  unfold State.ssForget
  split
  · exact h
  · exact sspWith (put hW rfl (put hW rfl (ssTie h)))

/-! ### The definitions of Machine/GrvCore.lean -/

theorem partEnd {j p code} (hW : Zone.lhe ⊆ W) (h : was.WritesIn W s) : was.WritesIn W (s.partEnd j p code) :=
  ite (put hW rfl (put hW rfl (grvWith h))) (count hW rfl (put hW rfl (put hW rfl (grvWith h))))

theorem powerFails {p} (hW : Zone.lhe ⊆ W) (h : was.WritesIn W s) : was.WritesIn W (s.powerFails p) := by
  unfold State.powerFails
  repeat' first | (with_reducible first | assumption | apply partEnd hW) | split

/-! ### The definitions of Machine/PortPower.lean -/

theorem arbWith {f} (h : was.WritesIn W s) (hf : ∀ a : Arbiter, a.reqs = [] → (f a).reqs = []) : was.WritesIn W (s.arbWith f) :=
  h.hidden rfl (hf _)

theorem askLeave {op} (h : was.WritesIn W s) : was.WritesIn W (s.askLeave op) :=
  ite h (arbWith h fun _ hi => hi)

theorem opDone {op} (h : was.WritesIn W s) : was.WritesIn W (s.opDone op) :=
  ite (arbWith h fun _ hi => hi) h

theorem firstSettled {p} (hW : Zone.budget ⊆ W) (h : was.WritesIn W s) : was.WritesIn W (s.firstSettled p) := by
  unfold State.firstSettled
  split
  · exact h
  · exact ite (put hW rfl (arbWith h fun _ hi => hi)) (arbWith h fun _ hi => hi)

/-- A field of a port's grant register. -/
theorem putGrant {p : Port} {lo w v : Nat} (hb : lo + w ≤ 32) (hW : Zone.budget ⊆ W) (h : was.WritesIn W s) :
    was.WritesIn W (s.put .bgt ⟨0x180 + 4 * p.val, lo, w⟩ v) := by
  have hcov : (Zone.regs .bgt 0x180 0x27C).covers .bgt ⟨0x180 + 4 * p.val, lo, w⟩ = true := by
    simp [Zone.covers, Zone.regs]
    omega
  exact put hW (List.any_eq_true.2 ⟨.regs .bgt 0x180 0x27C, by decide, hcov⟩) h

theorem withdraw {op} (hW : Zone.budget ⊆ W) (h : was.WritesIn W s) : was.WritesIn W (s.withdraw op) := by
  have hgone : was.WritesIn W (s.arbWith (fun a =>
      { a with asks := a.asks.filter (· != op), reqs := a.reqs.filter (fun r => r.op != op) })).arbSync :=
    put hW rfl (arbWith h fun a hi => by simp [hi])
  unfold State.withdraw
  split
  · dsimp only
    split
    · exact firstSettled hW (putGrant (by decide) hW hgone)
    · exact hgone
  · exact h

theorem endLeave {op} (hW : Zone.budget ⊆ W) (h : was.WritesIn W s) : was.WritesIn W (s.endLeave op) :=
  opDone (withdraw hW h)

theorem returnGrant {p} (hW : Zone.budget ⊆ W) (h : was.WritesIn W s) : was.WritesIn W (s.returnGrant p) :=
  put hW rfl (putGrant (by decide) hW (putGrant (by decide) hW h))

theorem setLimit {p ma} (hW : Zone.rp ⊆ W) (h : was.WritesIn W s) : was.WritesIn W (s.setLimit p ma) :=
  vbsWith (put hW rfl h)

theorem rpApply {p} (hW : Zone.rp ⊆ W) (h : was.WritesIn W s) : was.WritesIn W (s.rpApply p) :=
  have hnow : was.WritesIn W (s.put (.tcp p) F.TCP_CC_STATUS_RP_NOW (s.rpLevel p)) := put hW rfl h
  ite hnow (ite (setLimit hW hnow) hnow)

theorem muxOpen {p mode cause} (hW : Zone.mux ⊆ W) (h : was.WritesIn W s) : was.WritesIn W (s.muxOpen p mode cause) :=
  ite h (raisePort (put hW rfl (put hW rfl (conWith (put hW rfl (put hW rfl h))))))

theorem muxEnd {p cause} (hW : Zone.mux ⊆ W) (h : was.WritesIn W s) : was.WritesIn W (s.muxEnd p cause) :=
  muxOpen hW (tcpWith h)

theorem modeExit {p cause muxCause} (hW : Zone.pdEnd ⊆ W) (h : was.WritesIn W s) : was.WritesIn W (s.modeExit p cause muxCause) :=
  have hout : was.WritesIn W ((s.put (.tcp p) F.TCP_PD_STATUS_MODE_ENTERED 0).put (.tcp p) F.TCP_PD_CTRL_EXIT_MODE 0) :=
    put hW rfl (put hW rfl h)
  ite h (raisePort (ite (tcpWith hout) (muxOpen (Subset.trans (by decide) hW) (tcpWith hout))))

theorem endRaise {p} (hW : Zone.budget ⊆ W) (h : was.WritesIn W s) : was.WritesIn W (s.endRaise p) :=
  pdWith (endLeave hW h)

theorem endReserve {p} (hW : Zone.pdEnd ⊆ W) (h : was.WritesIn W s) : was.WritesIn W (s.endReserve p) :=
  have hbudget : Zone.budget ⊆ W := Subset.trans (by decide) hW
  have hended : was.WritesIn W ((s.endLeave (.turnOn p)).pdWith p (fun d => { d with reserved := false })) := pdWith (endLeave hbudget h)
  ite h (put hW rfl (ite hended (returnGrant hbudget hended)))

theorem endContract {p} (hW : Zone.pdEnd ⊆ W) (h : was.WritesIn W s) : was.WritesIn W (s.endContract p) :=
  wr hW rfl (wr hW rfl (put hW rfl (put hW rfl h)))

theorem pdEnd {p modeCause muxCause} (hW : Zone.pdEnd ⊆ W) (h : was.WritesIn W s) : was.WritesIn W (s.pdEnd p modeCause muxCause) := by
  unfold State.pdEnd
  exact pdWith (put hW rfl (endContract hW (endReserve hW (endRaise (Subset.trans (by decide) hW) (modeExit hW h)))))

theorem pdStop {p} (hW : Zone.pdEnd ⊆ W) (h : was.WritesIn W s) : was.WritesIn W (s.pdStop p) :=
  pdWith (put hW rfl (pdEnd hW h))

theorem pdDetach {p} (hW : Zone.pdEnd ⊆ W) (h : was.WritesIn W s) : was.WritesIn W (s.pdDetach p) := by
  unfold State.pdDetach
  exact pdWith (wr hW rfl (wr hW rfl (pdEnd hW h)))

theorem vsetLoad {p} (h : was.WritesIn W s) : was.WritesIn W (s.vsetLoad p) := by
  unfold State.vsetLoad
  exact vbsWith h

theorem vconnOff {p} (hW : Zone.leaving ⊆ W) (h : was.WritesIn W s) : was.WritesIn W (s.vconnOff p) :=
  pdWith (pdWith (put hW rfl (put hW rfl h)))

theorem laneMux {p on} (hW : Zone.usb ⊆ W) (h : was.WritesIn W s) : was.WritesIn W (s.laneMux p on) := by
  unfold State.laneMux
  split
  · exact h
  · exact setFlag hW rfl h

theorem askTurnOn {p} (hW : Zone.ask ⊆ W) (h : was.WritesIn W s) : was.WritesIn W (s.askTurnOn p) :=
  ite (ite (vbsWith h) h) (ite (vbsWith h) (askLeave (put hW rfl h)))

theorem askAtOnce {p} (hW : Zone.ask ⊆ W) (h : was.WritesIn W s) : was.WritesIn W (s.askAtOnce p) :=
  ite (askLeave (put hW rfl h)) (ite (ite (ite (askLeave (pdWith h)) h) h) (askTurnOn hW h))

end State.WritesIn

end Sys2Proof.Machine

namespace Sys2Proof.Machine

/-! PROOFS. The VBUS switch as it opens, and the connection logic as it leaves what was attached (R190, R197, R209, R450). -/

/-! ### The switch opens -/

/-- Where the gate or the settling was on, the switch takes its new state, and what follows leaves that. -/
theorem State.vbsOpenTo_of_closed {s : State} {p : Port} (h : 1 ≤ s.vbsStt p ∧ s.vbsStt p ≤ 4) (cause : Nat) (keep : Bool)
    (dest : Nat) : ∃ u, s.WritesIn Zone.opening u ∧
      (u.put (.vbs p) F.VBS_STATUS_STATE dest).WritesIn Zone.opened (s.vbsOpenTo p cause keep dest) := by
  unfold State.vbsOpenTo
  extract_lets st s0 s1 s2 safe s3 s4 s5
  rw [if_pos h]
  have h0 : s.WritesIn Zone.opening s0 := .withdraw (by decide) (.refl s)
  have h1 : s.WritesIn Zone.opening s1 := .ite (.raisePort h0) h0
  have h4 : s2.WritesIn Zone.opened s4 := .opDone (.vbsWith (.vsetLoad (.put (List.Subset.refl _) rfl (.refl s2))))
  have h5 : s2.WritesIn Zone.opened s5 :=
    .ite (.put (List.Subset.refl _) rfl (.putGrant (by decide) (by decide) h4)) (.returnGrant (by decide) (.pdStop (by decide) h4))
  exact ⟨_, .put (List.Subset.refl _) rfl (.put (List.Subset.refl _) rfl h1), .usbEval (by decide) (.rpApply (by decide) h5)⟩

/-- Where the switch was open it stays as it was. -/
theorem State.vbsOpenTo_of_open {s : State} {p : Port} (h : ¬ (1 ≤ s.vbsStt p ∧ s.vbsStt p ≤ 4)) (cause : Nat) (keep : Bool)
    (dest : Nat) : s.WritesIn Zone.opened (s.vbsOpenTo p cause keep dest) := by
  unfold State.vbsOpenTo
  extract_lets st s0
  rw [if_neg h]
  have h0 : s.WritesIn Zone.opened s0 := .withdraw (by decide) (.refl s)
  exact .ite (.rpApply (by decide) (.returnGrant (by decide) (.pdStop (by decide) (.vbsWith h0)))) h0

/-- After an opening VBUS is not on. -/
theorem State.vbusOn_vbsOpen (s : State) (p : Port) (cause : Nat) : (s.vbsOpen p cause).vbusOn p = false := by
  have hspare : Zone.spared Zone.opened (pageKind (.vbs p)) F.VBS_STATUS_STATE = true := rfl
  by_cases h : 1 ≤ s.vbsStt p ∧ s.vbsStt p ≤ 4
  · obtain ⟨u, -, hafter⟩ := State.vbsOpenTo_of_closed h cause false 5
    have hst : (s.vbsOpen p cause).vbsStt p = 5 := (hafter.get _ _ hspare).trans (State.get_put_fits _ _ _ _ (by decide) (by decide))
    simp [State.vbusOn, hst]
  · have hst : (s.vbsOpen p cause).vbsStt p = s.vbsStt p := (State.vbsOpenTo_of_open h cause false 5).get _ _ hspare
    simp only [State.vbusOn, hst, Bool.or_eq_false_iff, beq_eq_false_iff_ne]
    omega

namespace State.WritesIn

open List (Subset.trans)

variable {W : List Zone} {was s : State}

theorem vbsOpen {p cause} (hW : Zone.opening ⊆ W) (h : was.WritesIn W s) : was.WritesIn W (s.vbsOpen p cause) := by
  refine h.trans (mono hW ?_)
  by_cases hst : 1 ≤ s.vbsStt p ∧ s.vbsStt p ≤ 4
  · obtain ⟨u, hbefore, hafter⟩ := State.vbsOpenTo_of_closed hst cause false 5
    exact (put (L := Zone.gate) (by decide) rfl hbefore).trans (hafter.mono (by decide))
  · exact (State.vbsOpenTo_of_open hst cause false 5).mono (by decide)

end State.WritesIn

/-! ### The connection logic leaves what was attached -/

/-- The connection logic's new state stands through what follows it; before it lie the zones of a leave. -/
theorem State.ccEnd_split (s : State) (p : Port) (dest detachCause muxCause vbusCause : Nat) : ∃ u, s.WritesIn Zone.leaving u ∧
    (u.put (.tcp p) F.TCP_CC_STATUS_STATE dest).WritesIn (Zone.usb ++ Zone.rp) (s.ccEnd p dest detachCause muxCause vbusCause) := by
  unfold State.ccEnd
  extract_lets pg t s1 s2 s3 s4 s5 s6
  have hall : Zone.leaving ⊆ Zone.leaving := List.Subset.refl _
  have h1 : s.WritesIn Zone.leaving s1 := .vbsOpen (by decide) (.vconnOff hall (.muxEnd (by decide) (.refl s)))
  have h2 : s.WritesIn Zone.leaving s2 := .ite (.raisePort h1) h1
  have h3 : s.WritesIn Zone.leaving s3 := .ite (.grvWith (.raisePort h2)) h2
  have h5 : s.WritesIn Zone.leaving s5 := .put hall rfl (.put hall rfl (.put hall rfl (.tcpWith (.pdDetach (by decide) h3))))
  exact ⟨_, .put hall rfl h5, .usbEval (by decide) (.rpApply (by decide) (.laneMux (by decide) (.ssForget (by decide) (.refl _))))⟩

theorem State.ccSt_ccEnd (s : State) (p : Port) {dest : Nat} (hd : dest < 16) (detachCause muxCause vbusCause : Nat) :
    (s.ccEnd p dest detachCause muxCause vbusCause).get (.tcp p) F.TCP_CC_STATUS_STATE = dest := by
  obtain ⟨u, -, hafter⟩ := s.ccEnd_split p dest detachCause muxCause vbusCause
  exact (hafter.get _ _ rfl).trans (State.get_put_fits _ _ _ _ (by decide) hd)

theorem State.WritesIn.ccEnd {W : List Zone} {was s : State} {p dest detachCause muxCause vbusCause} (hW : Zone.leaving ⊆ W)
    (h : was.WritesIn W s) : was.WritesIn W (s.ccEnd p dest detachCause muxCause vbusCause) := by
  obtain ⟨u, hbefore, hafter⟩ := s.ccEnd_split p dest detachCause muxCause vbusCause
  exact h.trans (.mono hW ((State.WritesIn.put (List.Subset.refl _) rfl hbefore).trans (hafter.mono (by decide))))

/-! ### Quarantine -/

/-- A port's bit of the quarantine registers lies in none of the zones of a leave. -/
theorem Zone.spared_QUAR (p : Port) : Zone.spared (Zone.lhe ++ Zone.leaving) .hlt (portBit F.HLT_QUAR_QUAR p) = true :=
  Zone.spared_of_kind (by decide) (show 0x60 + 4 * (p.val / 32) < 0x1000 by omega) (show 0x60 + 4 * (p.val / 32) ≠ 0xC by omega)

/-- A port that enters quarantine (R450). -/
theorem State.quarEnter_parts (s : State) (p : Port) (cause : Nat) :
    (s.quarEnter p cause).get .hlt (portBit F.HLT_QUAR_QUAR p) = 1 ∧ (s.quarEnter p cause).get (.vbs p) F.VBS_STATUS_STATE = 7 := by
  unfold State.quarEnter
  extract_lets last s1 s2 s3
  have hleft : (s.put .hlt (portBit F.HLT_QUAR_QUAR p) 1).WritesIn (Zone.lhe ++ Zone.leaving) s1 :=
    .powerFails (by decide) (.ccEnd (by decide) (.refl _))
  have hrest : (s1.put (.vbs p) F.VBS_STATUS_STATE 7).WritesIn (.field .vbs F.VBS_STATUS_DSCH_ON :: Zone.usb)
      ((s3.usbEval p).raisePort .hlt p evQuarantine (cause + last * 16)) :=
    .raisePort (.usbEval (by decide) (.healthWith (.vbsWith (.put (List.Subset.refl _) rfl (.refl _)))))
  have hall := (State.WritesIn.put (L := Zone.gate) (by decide) rfl hleft).trans (hrest.mono (by decide))
  refine ⟨(hall.get .hlt _ (Zone.spared_QUAR p)).trans ?_, (hrest.get _ _ rfl).trans (State.get_put_fits _ _ _ _ (by decide) (by decide))⟩
  exact State.get_put_fits _ _ _ _ (show p.val % 32 + 1 ≤ 32 by omega) (show 1 < 2 ^ 1 by decide)

end Sys2Proof.Machine

namespace Sys2Proof.Machine

/-! PROOFS. The end of a revocation (R191, R192, O29). -/

section
variable {s : State} {p : Port}

theorem exec_revokeSuccess (hup : s.coreUp = true) (hst : s.grantSt p = 3) (hfits : s.contractDw p ≤ s.grant p)
    (hcur : s.get (.vbs p) F.VBS_IBUS_IBUS_MA ≤ 11 * s.basisMa p / 10) : exec (.revokeSuccess p) s = .next (s.revokeDone p).arbDecide :=
  if_neg (by simp [hup, hst]; omega)

theorem exec_revokeTimeEnd (hup : s.coreUp = true) (hst : s.grantSt p = 3) (hbad : s.bgtBad = false) :
    exec (.revokeTimeEnd p) s = .next (s.revokeRemove p).arbDecide :=
  if_neg (by simp [hup, hst, hbad])

/-- A port's grant and its state stand where no zone is of the arbiter's page. -/
theorem State.WritesIn.grants {W : List Zone} {s t : State} (h : s.WritesIn W t) (hW : W.all (·.kind != .bgt) = true) (p : Port) :
    t.grantSt p = s.grantSt p ∧ t.grant p = s.grant p := by
  have hspared {lo w : Nat} : Zone.spared W .bgt ⟨0x180 + 4 * p.val, lo, w⟩ = true :=
    Zone.spared_of_kind hW (show 0x180 + 4 * p.val < 0x1000 by omega) (show 0x180 + 4 * p.val ≠ 0xC by omega)
  exact ⟨h.get .bgt (F.BGT_GRANTn_STATE p.val) hspared, h.get .bgt (F.BGT_GRANTn_GRANT p.val) hspared⟩

/-- A state of the grant set leaves its amount. -/
theorem State.grants_put_STATE (s : State) (p : Port) {v : Nat} (hv : v < 8) :
    (s.put .bgt (F.BGT_GRANTn_STATE p.val) v).grantSt p = v ∧ (s.put .bgt (F.BGT_GRANTn_STATE p.val) v).grant p = s.grant p :=
  ⟨State.get_put_fits s .bgt (F.BGT_GRANTn_STATE p.val) v (show 12 + 3 ≤ 32 by decide) hv,
    State.get_put_bits s .bgt (F.BGT_GRANTn_STATE p.val) (F.BGT_GRANTn_GRANT p.val) v (.inr (show 0 + 12 ≤ 12 by decide))⟩

theorem State.grants_returnGrant (s : State) (p : Port) : (s.returnGrant p).grantSt p = 0 ∧ (s.returnGrant p).grant p = 0 := by
  unfold State.returnGrant
  have hmode {u : State} : u.WritesIn [.field .tcp F.TCP_CC_STATUS_BC_NOW] (u.put (.tcp p) F.TCP_CC_STATUS_BC_NOW 0) :=
    .put (List.Subset.refl _) rfl (.refl u)
  obtain ⟨hst, hgrant⟩ := (hmode (u := (s.put .bgt (F.BGT_GRANTn_GRANT p.val) 0).put .bgt (F.BGT_GRANTn_STATE p.val) 0)).grants rfl p
  obtain ⟨hput, hkept⟩ := (s.put .bgt (F.BGT_GRANTn_GRANT p.val) 0).grants_put_STATE p (v := 0) (by decide)
  have hzero := State.get_put_fits s .bgt (F.BGT_GRANTn_GRANT p.val) 0 (show 0 + 12 ≤ 32 by decide) (show 0 < 2 ^ 12 by decide)
  exact ⟨hst.trans hput, (hgrant.trans hkept).trans hzero⟩

/-- A revocation met: granted, with the limit of the contract (R192). -/
theorem State.revokeDone_parts (s : State) (p : Port) : (s.revokeDone p).grantSt p = 2 ∧ (s.revokeDone p).grant p = s.grant p ∧
    (s.revokeDone p).get (.vbs p) F.VBS_TARGET_LIMIT_MA = min (11 * s.basisMa p / 10) 65535 ∧
    (s.arb.reqs = [] → (s.revokeDone p).arb.reqs = []) := by
  have hafter : (s.put .bgt (F.BGT_GRANTn_STATE p.val) 2).WritesIn Zone.rp (s.revokeDone p) := by
    unfold State.revokeDone State.revokeEvent
    exact .raisePort (.setLimit (List.Subset.refl _) (.refl _))
  have hlast : ((s.put .bgt (F.BGT_GRANTn_STATE p.val) 2).setLimit p (s.basisMa p)).WritesIn [] (s.revokeDone p) := by
    unfold State.revokeDone State.revokeEvent
    exact .raisePort (.refl _)
  obtain ⟨hst, hgrant⟩ := hafter.grants rfl p
  obtain ⟨hput, hkept⟩ := s.grants_put_STATE p (v := 2) (by decide)
  refine ⟨hst.trans hput, hgrant.trans hkept, ?_, hafter.idle⟩
  exact ((hlast.get _ _ rfl).trans (State.vbsWith_get ..)).trans
    (State.get_put_fits _ _ _ _ (by decide) (show min _ 65535 < 65536 by omega))

/-- A revocation that has failed: VBUS is off and the grant returned (R192). -/
theorem State.revokeRemove_parts (s : State) (p : Port) : (s.revokeRemove p).grantSt p = 0 ∧ (s.revokeRemove p).grant p = 0 ∧
    (s.revokeRemove p).vbusOn p = false ∧ (s.arb.reqs = [] → (s.revokeRemove p).arb.reqs = []) := by
  have hopen : s.WritesIn Zone.opening (s.vbsOpen p 2) := .vbsOpen (List.Subset.refl _) (.refl s)
  have hreturn : (s.vbsOpen p 2).WritesIn Zone.pdEnd (((s.vbsOpen p 2).endReserve p).returnGrant p) :=
    .returnGrant (by decide) (.endReserve (List.Subset.refl _) (.refl _))
  have hask : (((s.vbsOpen p 2).endReserve p).returnGrant p).WritesIn Zone.ask (s.revokeRemove p) := by
    unfold State.revokeRemove State.revokeEvent
    exact .askAtOnce (List.Subset.refl _) (.raisePort (.refl _))
  obtain ⟨hst, hgrant⟩ := hask.grants rfl p
  obtain ⟨hnone, hzero⟩ := ((s.vbsOpen p 2).endReserve p).grants_returnGrant p
  have hswitch : (s.revokeRemove p).vbsStt p = (s.vbsOpen p 2).vbsStt p :=
    (hask.get (.vbs p) F.VBS_STATUS_STATE rfl).trans (hreturn.get (.vbs p) F.VBS_STATUS_STATE rfl)
  have hoff := s.vbusOn_vbsOpen p 2
  rw [State.vbusOn, ← hswitch] at hoff
  exact ⟨hst.trans hnone, hgrant.trans hzero, hoff, fun hidle => hask.idle (hreturn.idle (hopen.idle hidle))⟩

end

/-- Settles O29: what ends a revocation writes neither grant nor switch again, and leaves the arbiter nothing to decide. -/
theorem revocationRunsByClassAndPort : Obligations.RevocationRunsByClassAndPort := by
  unfold Obligations.RevocationRunsByClassAndPort
  refine ⟨fun p s hup hst hfits hcur hidle => ?success, fun p s hup hst hbad hidle => ?timeEnd⟩
  case success =>
    obtain ⟨hgranted, hkept, hlimit, hnone⟩ := s.revokeDone_parts p
    have hexec := exec_revokeSuccess hup hst hfits hcur
    rw [State.arbDecide_of_idle (hnone hidle)] at hexec
    exact ⟨_, hexec, hgranted, hkept, hlimit⟩
  case timeEnd =>
    obtain ⟨hnotGranted, hreturned, hoff, hnone⟩ := s.revokeRemove_parts p
    have hexec := exec_revokeTimeEnd hup hst hbad
    rw [State.arbDecide_of_idle (hnone hidle)] at hexec
    exact ⟨_, hexec, hnotGranted, hreturned, hoff⟩

end Sys2Proof.Machine

namespace Sys2Proof.Machine

/-! PROOFS. The VBUS switch and its events (O21): a trip, a sample, the end of a retry wait and the end of a discharge. -/

/-! ### A trip (R198) -/

namespace State.WritesIn

open List (Subset.trans)

variable {W : List Zone} {was s : State}

theorem overChange {p} (h : was.WritesIn W s) : was.WritesIn W (s.overChange p) := by
  unfold State.overChange
  split
  · exact addChg h
  · exact maskWake (addSsChg (addChg h))

theorem setCptByte {i v} (hW : Zone.tripping ⊆ W) (h : was.WritesIn W s) : was.WritesIn W (s.setCptByte i 0xF1 v) :=
  wr (pg := .win i) hW rfl h

theorem compatTrip {p cause} (hW : Zone.tripping ⊆ W) (h : was.WritesIn W s) : was.WritesIn W (s.compatTrip p cause) :=
  have husb : Zone.usb ⊆ W := Subset.trans (by decide) hW
  foldl (fun _ _ h' => u2Eval husb (vbsOpen (Subset.trans (by decide) hW) (setPowerBit husb h')))
    (raisePort (count hW rfl (foldl (fun _ _ h' => overChange h') (setCptByte hW h))))

end State.WritesIn

/-- A trip counted, with its cause and its place in the row of trips recorded. -/
def State.tripNoted (s : State) (p : Port) (code : Nat) : State :=
  let s1 := s.countErr (.vbs p) p F.VBS_CNT_TRIPS
  let s2 := if code = 4 then s1.countErr (.vbs p) p F.VBS_CNT_OVP else s1
  (s2.put (.vbs p) F.VBS_STATUS_LAST_CAUSE code).put (.vbs p) F.VBS_STATUS_CONSEC (min (s.get (.vbs p) F.VBS_STATUS_CONSEC + 1) 15)

theorem State.tripNoted_parts (s : State) (p : Port) {code : Nat} (hcode : code < 8) :
    (s.tripNoted p code).get (.vbs p) F.VBS_STATUS_LAST_CAUSE = code ∧
    (s.tripNoted p code).get (.vbs p) F.VBS_STATUS_CONSEC = min (s.get (.vbs p) F.VBS_STATUS_CONSEC + 1) 15 :=
  ⟨(State.get_put_bits _ _ _ _ _ (by decide)).trans (State.get_put_fits _ _ _ _ (by decide) hcode),
    State.get_put_fits _ _ _ _ (by decide) (show min _ 15 < 16 by omega)⟩

/-- What a trip does once it is noted: the switch opens, and the trips in a row decide between the wait and quarantine. -/
theorem State.trip_split (s : State) (p : Port) (code : Nat) : ∃ u, (s.tripNoted p code).WritesIn Zone.tripping u ∧
    s.trip p code = if s.cfg (.vbs p) F.VBS_FUSE_RETRIES ≤ s.get (.vbs p) F.VBS_STATUS_CONSEC then u.quarEnter p 1
      else (u.vbsWith p (fun v => { v with retryRun := true })).ccEnd p 12 2 6 3 := by
  unfold State.trip
  extract_lets pg before after s1 s2 s3 s4 s5 quar s6 s6' s7
  have hall : Zone.tripping ⊆ Zone.tripping := List.Subset.refl _
  have h4 : (s.tripNoted p code).WritesIn Zone.tripping s4 := .raisePort (.refl s3)
  have h5 : (s.tripNoted p code).WritesIn Zone.tripping s5 := .ite (.raisePort h4) h4
  have h6 : (s.tripNoted p code).WritesIn Zone.tripping s6 := .ite (.ite (.compatTrip hall h5) (.overChange h5)) h5
  have h6' : (s.tripNoted p code).WritesIn Zone.tripping s6' := .ite (.put hall rfl h6) h6
  have h7 : (s.tripNoted p code).WritesIn Zone.tripping s7 :=
    .vbsWith (.powerFails (by decide) (.vbsOpen (by decide) (.muxEnd (by decide) h6')))
  exact ⟨s7, h7, by simp only [quar, before, pg, decide_eq_true_eq]⟩

/-- A trip with retries left leaves the port in its wait, the cause and the row of trips recorded. -/
theorem State.trip_of_retry {s : State} {p : Port} {code : Nat} (hcode : code < 8)
    (h : s.get (.vbs p) F.VBS_STATUS_CONSEC < s.cfg (.vbs p) F.VBS_FUSE_RETRIES) :
    (s.trip p code).get (.tcp p) F.TCP_CC_STATUS_STATE = 12 ∧ (s.trip p code).get (.vbs p) F.VBS_STATUS_LAST_CAUSE = code ∧
    (s.trip p code).get (.vbs p) F.VBS_STATUS_CONSEC = min (s.get (.vbs p) F.VBS_STATUS_CONSEC + 1) 15 := by
  obtain ⟨hcause, hconsec⟩ := s.tripNoted_parts p hcode
  obtain ⟨u, hu, htrip⟩ := s.trip_split p code
  rw [htrip, if_neg (by omega)]
  have hwait : (s.tripNoted p code).WritesIn (Zone.tripping ++ Zone.leaving) (u.vbsWith p (fun v => { v with retryRun := true })) :=
    .vbsWith (hu.mono (by decide))
  have hleft := hwait.ccEnd (p := p) (dest := 12) (detachCause := 2) (muxCause := 6) (vbusCause := 3) (by decide)
  exact ⟨State.ccSt_ccEnd _ p (by decide) 2 6 3, (hleft.get _ _ rfl).trans hcause, (hleft.get _ _ rfl).trans hconsec⟩

/-- A trip with none left leads to quarantine. -/
theorem State.trip_of_quar {s : State} {p : Port} (code : Nat)
    (h : s.cfg (.vbs p) F.VBS_FUSE_RETRIES ≤ s.get (.vbs p) F.VBS_STATUS_CONSEC) :
    (s.trip p code).get .hlt (portBit F.HLT_QUAR_QUAR p) = 1 ∧ (s.trip p code).get (.vbs p) F.VBS_STATUS_STATE = 7 := by
  obtain ⟨u, -, htrip⟩ := s.trip_split p code
  rw [htrip, if_pos h]
  exact u.quarEnter_parts p 1

/-! ### A sample (R195) -/

/-- What a sample measures. -/
def State.adcMeasured (s : State) (p : Port) (vbus vreg : Nat) (sense : Int) : State :=
  (((s.put (.vbs p) F.VBS_MEAS_VBUS (min vbus 4095)).put (.vbs p) F.VBS_MEAS_VREG (min vreg 4095)).put (.vbs p) F.VBS_IBUS_IBUS_MA
    (senseMa (s.rsns p) sense)).setFlag (.vbs p) F.VBS_IBUS_REV (decide (sense < 0))

theorem senseMa_lt (rsns : Nat) (sense : Int) : senseMa rsns sense < 65536 := Nat.lt_succ_of_le (Nat.min_le_right ..)

section
variable (s : State) (p : Port) (vbus vreg : Nat) (sense : Int)

theorem State.adcMeasured_parts : (s.adcMeasured p vbus vreg sense).get (.vbs p) F.VBS_MEAS_VBUS = min vbus 4095 ∧
    (s.adcMeasured p vbus vreg sense).get (.vbs p) F.VBS_MEAS_VREG = min vreg 4095 ∧
    (s.adcMeasured p vbus vreg sense).get (.vbs p) F.VBS_IBUS_IBUS_MA = senseMa (s.rsns p) sense ∧
    (s.adcMeasured p vbus vreg sense).vbsStt p = s.vbsStt p := by
  unfold State.adcMeasured State.vbsStt State.setFlag
  refine ⟨?_, ?_, ?_, ?_⟩
  · rw [State.get_put_off _ _ _ _ _ (by decide), State.get_put_off _ _ _ _ _ (by decide), State.get_put_bits _ _ _ _ _ (by decide)]
    exact State.get_put_fits _ _ _ _ (by decide) (show min vbus 4095 < 4096 by omega)
  · rw [State.get_put_off _ _ _ _ _ (by decide), State.get_put_off _ _ _ _ _ (by decide)]
    exact State.get_put_fits _ _ _ _ (by decide) (show min vreg 4095 < 4096 by omega)
  · rw [State.get_put_bits _ _ _ _ _ (by decide)]
    exact State.get_put_fits _ _ _ _ (by decide) (senseMa_lt _ _)
  · rw [State.get_put_off _ _ _ _ _ (by decide), State.get_put_off _ _ _ _ _ (by decide), State.get_put_off _ _ _ _ _ (by decide),
      State.get_put_off _ _ _ _ _ (by decide)]

/-- A sample's record is what it measures and vSafe0V. -/
theorem State.adcRecord_split : 
    (s.adcMeasured p vbus vreg sense).WritesIn [.field .vbs F.VBS_STATUS_SAFE0V] (s.adcRecord p vbus vreg sense) ∧
    (s.adcRecord p vbus vreg sense).get (.vbs p) F.VBS_STATUS_SAFE0V = bit (decide (vbus ≤ 56) && (s.vbs p).lastLow) := by
  unfold State.adcRecord
  extract_lets pg f s1 s2 above s3
  have hlinked : (s.adcMeasured p vbus vreg sense).WritesIn [.field .vbs F.VBS_STATUS_SAFE0V] s3 := by
    simp only [s3]
    split
    · exact .refl s2
    · exact .sspWith (.refl s2)
  refine ⟨.vbsWith (.tcpWith (.setFlag (List.Subset.refl _) rfl hlinked)), ?_⟩
  rw [State.vbsWith_get, State.tcpWith_get]
  exact State.get_put_fits _ _ _ _ (by decide) (bit_lt _)

end

/-! The steps of a sample that follow its record, where the switch is open. -/

section
variable {s : State} {p : Port}

theorem State.vsetMove_writes (s : State) (p : Port) : s.WritesIn Zone.ask (s.vsetMove p) :=
  .ite (.ite (.refl s) (.vbsWith (.refl s))) (.vbsWith (.refl s))

theorem State.adcTrim_of_open (h : s.vbsStt p = 0) (vbus vreg : Nat) : s.adcTrim p vbus vreg = s := by
  simp [State.adcTrim, h]

theorem State.adcSafe_writes (s : State) (p : Port) : s.WritesIn Zone.ask (s.adcSafe p) :=
  .ite (.ite (.askTurnOn (List.Subset.refl _) (.vbsWith (.vbsWith (.refl s)))) (.vbsWith (.refl s))) (.refl s)

theorem State.adcSink_writes (s : State) (p : Port) (vbus : Nat) : s.WritesIn Zone.ask (s.adcSink p vbus) :=
  .ite (.refl s) (.ite (.pdWith (.refl s)) (.ite (.pdWith (.refl s)) (.refl s)))

theorem State.adcFall_of_open (h : s.vbsStt p = 0) : s.WritesIn Zone.ask (s.adcFall p) := by
  have hquiet : s.adcFall p = s.vbsWith p (fun v => { v with quiet := 0 }) := by simp [State.adcFall, h]
  rw [hquiet]
  exact .vbsWith (.refl s)

theorem State.adcPps_of_open (h : s.vbsStt p = 0) : s.adcPps p = s := by
  simp [State.adcPps, h]

/-- A request for leave leaves the state of every switch. -/
theorem State.WritesIn.vbsStt {t : State} (h : s.WritesIn Zone.ask t) (p : Port) : t.vbsStt p = s.vbsStt p :=
  h.get (.vbs p) F.VBS_STATUS_STATE rfl

/-- A sample of an open switch changes no register but its record, save that it may ask for leave (R197). -/
theorem State.adcSample_of_open (h : s.vbsStt p = 0) (vbus vreg : Nat) (sense : Int) :
    (s.adcMeasured p vbus vreg sense).WritesIn (.field .vbs F.VBS_STATUS_SAFE0V :: Zone.ask) (s.adcSample p vbus vreg sense) ∧
    (s.adcSample p vbus vreg sense).get (.vbs p) F.VBS_STATUS_SAFE0V = bit (decide (vbus ≤ 56) && (s.vbs p).lastLow) := by
  obtain ⟨-, -, -, hmeasured⟩ := s.adcMeasured_parts p vbus vreg sense
  obtain ⟨hrecord, hsafe⟩ := s.adcRecord_split p vbus vreg sense
  have hon : s.vbusOn p = false := by simp [State.vbusOn, h]
  have hgate : s.gateOn p = false := by simp [State.gateOn, h, hon]
  have hsteps : s.adcSample p vbus vreg sense =
      ((((((s.adcRecord p vbus vreg sense).vsetMove p).adcTrim p vbus vreg).adcSafe p).adcSink p vbus).adcFall p).adcPps p := by
    simp [State.adcSample, State.sampleFlags, hgate, hon, h]
  have hopen : (s.adcRecord p vbus vreg sense).vbsStt p = 0 := (hrecord.get (.vbs p) F.VBS_STATUS_STATE rfl).trans (hmeasured.trans h)
  have hset := (s.adcRecord p vbus vreg sense).vsetMove_writes p
  have hsunk := (hset.trans (State.adcSafe_writes _ p)).trans (State.adcSink_writes _ p vbus)
  have hrest := hsunk.trans (State.adcFall_of_open ((hsunk.vbsStt p).trans hopen))
  rw [hsteps, State.adcTrim_of_open ((hset.vbsStt p).trans hopen), State.adcPps_of_open ((hrest.vbsStt p).trans hopen)]
  exact ⟨(hrecord.mono (by decide)).trans (hrest.mono (by decide)), (hrest.get _ _ rfl).trans hsafe⟩

end

/-! ### What a request for leave and a new Rp leave of the switch -/

theorem State.KeepsBut.vbs {M : List Part} {s t : State} (h : s.KeepsBut M t) (hM : .vbsSt ∉ M) (p : Port) : t.vbs p = s.vbs p :=
  congrArg (fun v => v[p]) (h.same .vbsSt rfl hM)

theorem State.KeepsBut.tcp {M : List Part} {s t : State} (h : s.KeepsBut M t) (hM : .tcpSt ∉ M) (p : Port) : t.tcp p = s.tcp p :=
  congrArg (fun v => v[p]) (h.same .tcpSt rfl hM)

section
variable (s : State) (p : Port)

theorem State.vbs_askTurnOn : ∃ b, (s.askTurnOn p).vbs p = { s.vbs p with askOnSafe := b } := by
  unfold State.askTurnOn
  split
  · split
    · exact ⟨true, State.vbsWith_same ..⟩
    · exact ⟨_, rfl⟩
  split
  · exact ⟨true, State.vbsWith_same ..⟩
  · have hkeep : s.KeepsBut [.arb] ((s.put (.tcp p) F.TCP_CC_STATUS_LEAVE_WAIT 1).askLeave (.turnOn p)) :=
      .askLeave (by decide) (.put (.refl s))
    exact ⟨_, hkeep.vbs (by decide) p⟩

theorem State.vbs_rpApply : ∃ o n, (s.rpApply p).vbs p = { s.vbs p with oldMa := o, newMa := n } := by
  unfold State.rpApply State.raiseLimit
  extract_lets s1 ma
  split
  · exact ⟨_, _, rfl⟩
  split
  · exact ⟨ma, ma, State.vbsWith_same ..⟩
  · exact ⟨_, _, rfl⟩

theorem State.retryRun_askTurnOn : ((s.askTurnOn p).vbs p).retryRun = (s.vbs p).retryRun := by
  obtain ⟨b, h⟩ := s.vbs_askTurnOn p
  rw [h]

theorem State.dschLock_askTurnOn : ((s.askTurnOn p).vbs p).dschLock = (s.vbs p).dschLock := by
  obtain ⟨b, h⟩ := s.vbs_askTurnOn p
  rw [h]

theorem State.retryRun_rpApply : ((s.rpApply p).vbs p).retryRun = (s.vbs p).retryRun := by
  obtain ⟨o, n, h⟩ := s.vbs_rpApply p
  rw [h]

/-- An attach announced (R208), but for the leave it asks for. -/
theorem State.announce_split : ∃ u, s.WritesIn [.field .tcp F.TCP_CC_CNT_ATTACHES] u ∧ (u.tcp p).announced = true ∧
    u.vbs p = s.vbs p ∧ s.announce p = u.askTurnOn p := by
  unfold State.announce
  extract_lets pg t s1 s2
  have h1 : s.WritesIn [.field .tcp F.TCP_CC_CNT_ATTACHES] s1 := .tcpWith (.grvWith (.count (List.Subset.refl _) rfl (.refl s)))
  have h2 : s1.KeepsBut [.fifos] s2 := .ite (.raisePort (by decide) (.refl s1)) (.raisePort (by decide) (.refl s1))
  have hannounced : (s1.tcp p).announced = true := by simp only [s1, State.tcpWith_same]
  refine ⟨s2, .ite (.raisePort h1) (.raisePort h1), ?_, h2.vbs (by decide) p, rfl⟩
  rw [h2.tcp (by decide), hannounced]

end

/-! ### The end of a retry wait (R198, R218) -/

section
variable {s t : State} {p : Port}

/-- A value in force stands with its register and the mismatches found. -/
theorem State.cfg_congr (hbad : t.bad = s.bad) {pg : PageId} {f : Fld} (hget : t.get pg f = s.get pg f) : t.cfg pg f = s.cfg pg f := by
  unfold State.cfg State.heldAt State.mismatch State.badAt
  rw [hbad, hget]

/-- The row that the classifications make stands with the four fields it is read from. -/
theorem State.ccRowNow_congr {W : List Zone} (h : s.WritesIn W t) (hbad : t.bad = s.bad) (hW : [F.TCP_CC_STATUS_CC1_LVL,
    F.TCP_CC_STATUS_CC2_LVL, F.TCP_CC_CFG_ACC_DEBUG, F.TCP_CC_CFG_ACC_AUDIO].all (Zone.spared W .tcp) = true) :
    t.ccRowNow p = s.ccRowNow p := by
  simp only [List.all_cons, List.all_nil, Bool.and_true, Bool.and_eq_true] at hW
  obtain ⟨h1, h2, hdebug, haudio⟩ := hW
  have hcfg {f : Fld} (hf : Zone.spared W .tcp f = true) : t.cfg (.tcp p) f = s.cfg (.tcp p) f := State.cfg_congr hbad (h.get _ _ hf)
  simp only [State.ccRowNow, State.cfgFlag, h.get (.tcp p) _ h1, h.get (.tcp p) _ h2, hcfg hdebug, hcfg haudio]

/-- The wait is over: a switch that waited is open. -/
def State.retryEnded (s : State) (p : Port) : State :=
  let s1 := s.vbsWith p (fun v => { v with retryRun := false })
  if s1.vbsStt p = 6 then s1.put (.vbs p) F.VBS_STATUS_STATE 0 else s1

theorem State.retryEnded_writes (s : State) (p : Port) : s.WritesIn Zone.gate (s.retryEnded p) :=
  .ite (.put (List.Subset.refl _) rfl (.vbsWith (.refl s))) (.vbsWith (.refl s))

theorem State.retryEnded_keeps (s : State) (p : Port) :
    (s.vbsWith p (fun v => { v with retryRun := false })).KeepsBut [] (s.retryEnded p) :=
  .ite (.put (.refl _)) (.refl _)

theorem State.retryRun_retryEnded (s : State) (p : Port) : ((s.retryEnded p).vbs p).retryRun = false := by
  rw [(s.retryEnded_keeps p).vbs (by decide), State.vbsWith_same]

theorem State.ccRowNow_retryEnded (s : State) (p : Port) : (s.retryEnded p).ccRowNow p = s.ccRowNow p :=
  State.ccRowNow_congr (s.retryEnded_writes p) ((s.retryEnded_keeps p).same .bad rfl (by decide)) rfl

/-- The row that attaches a port, and the debounce of it begun anew, before the port asks again. -/
def State.reattached (s : State) (p : Port) (row : Fin 6 × Bool) : State :=
  ((s.recordRow p row).put (.tcp p) F.TCP_CC_STATUS_STATE 3).rpApply p

/-- A port of the connection logic's wait attaches again where its classifications have held, else it is unattached. -/
theorem exec_retryIntEnd (held : Bool) (hup : s.portUp p = true) (hrun : (s.vbs p).retryRun = true) (hcc : s.ccSt p = 12) :
    exec (.retryIntEnd p held) s = .next (if held && ((s.ccRowNow p).1 == 1 || (s.ccRowNow p).1 == 2 || (s.ccRowNow p).1 == 4) then
      ((s.retryEnded p).reattached p (s.ccRowNow p)).retryAsk p else (s.retryEnded p).toUnattached p) := by
  have hst : (s.retryEnded p).ccSt p = 12 := ((s.retryEnded_writes p).get _ _ rfl).trans hcc
  rw [← s.ccRowNow_retryEnded p]
  exact (congrArg Host.Outcome.next (if_pos (by simp [hup, hrun]))).trans
    (congrArg Host.Outcome.next (if_neg (by simpa [State.retryEnded] using hst)))

/-- A port that attaches again: in ATTACHWAIT_SRC, announced. -/
theorem State.reattached_parts (s : State) (p : Port) (row : Fin 6 × Bool) :
    ((s.reattached p row).retryAsk p).get (.tcp p) F.TCP_CC_STATUS_STATE = 3 ∧
    (((s.reattached p row).retryAsk p).vbs p).retryRun = (s.vbs p).retryRun ∧
    (((s.reattached p row).retryAsk p).tcp p).announced = true := by
  obtain ⟨u, hwrites, hannounced, hvbs, hannounce⟩ := ((s.reattached p row).count (.vbs p) F.VBS_CNT_RETRIES_RUN).announce_split p
  have hask : (s.reattached p row).retryAsk p = u.askTurnOn p := hannounce
  have hrp : ((s.recordRow p row).put (.tcp p) F.TCP_CC_STATUS_STATE 3).WritesIn Zone.rp (s.reattached p row) :=
    .rpApply (List.Subset.refl _) (.refl _)
  have hcc : (s.reattached p row).get (.tcp p) F.TCP_CC_STATUS_STATE = 3 :=
    (hrp.get _ _ rfl).trans (State.get_put_fits _ _ _ _ (by decide) (by decide))
  have hlast : (s.reattached p row).WritesIn (.field .tcp F.TCP_CC_CNT_ATTACHES :: .field .vbs F.VBS_CNT_RETRIES_RUN :: Zone.ask)
      (u.askTurnOn p) :=
    .askTurnOn (by decide) ((State.WritesIn.count (List.Subset.refl _) rfl (.refl _)).trans (hwrites.mono (by decide)))
  have htcp : u.KeepsBut [.arb, .vbsSt] (u.askTurnOn p) := .askTurnOn (by decide) (.refl u)
  have hrow : s.KeepsBut [.tcpSt] ((s.recordRow p row).put (.tcp p) F.TCP_CC_STATUS_STATE 3) := .put (.recordRow (by decide) (.refl s))
  have hcount : (s.reattached p row).KeepsBut [] ((s.reattached p row).count (.vbs p) F.VBS_CNT_RETRIES_RUN) := .count (.refl _)
  rw [hask]
  refine ⟨(hlast.get _ _ rfl).trans hcc, ?_, by rw [htcp.tcp (by decide), hannounced]⟩
  rw [State.retryRun_askTurnOn, hvbs, hcount.vbs (by decide), State.reattached, State.retryRun_rpApply, hrow.vbs (by decide)]

/-- No row attaches: the classifications leave UNATTACHED_SRC as it is. -/
theorem State.ccEval_of_no_row (hcc : s.ccSt p = 2) (hrow : (s.ccRowNow p).1 = 0) : s.ccEval p = s := by
  unfold State.ccEval
  simp [hcc, hrow]

/-- UNATTACHED_SRC entered, before the classifications are looked at. -/
def State.unattached (s : State) (p : Port) : State :=
  (((s.put (.tcp p) F.TCP_CC_CTRL_RECOVER 0).put (.tcp p) F.TCP_CC_STATUS_STATE 2).rpApply p).usbEval p

/-- A port returned to UNATTACHED_SRC with nothing to attach (R207). -/
theorem State.toUnattached_parts (hrow : (s.ccRowNow p).1 = 0) : (s.toUnattached p).get (.tcp p) F.TCP_CC_STATUS_STATE = 2 ∧
    ((s.toUnattached p).vbs p).retryRun = (s.vbs p).retryRun := by
  have hall : s.WritesIn ([.field .tcp F.TCP_CC_CTRL_RECOVER, .field .tcp F.TCP_CC_STATUS_STATE] ++ Zone.usb ++ Zone.rp) (s.unattached p) :=
    .usbEval (by decide) (.rpApply (by decide) (.put (List.Subset.refl _) rfl (.put (List.Subset.refl _) rfl (.refl s))))
  have hrest : ((s.put (.tcp p) F.TCP_CC_CTRL_RECOVER 0).put (.tcp p) F.TCP_CC_STATUS_STATE 2).WritesIn (Zone.usb ++ Zone.rp)
      (s.unattached p) := .usbEval (by decide) (.rpApply (by decide) (.refl _))
  have hkeep : s.KeepsBut [.freeCount, .u2pSt, .sspSt, .upLink, .vbsSt, .lheSt, .fifos, .graver] (s.unattached p) :=
    .usbEval (by decide) (.rpApply (by decide) (.put (.put (.refl s))))
  have husb : (((s.put (.tcp p) F.TCP_CC_CTRL_RECOVER 0).put (.tcp p) F.TCP_CC_STATUS_STATE 2).rpApply p).KeepsBut
      [.freeCount, .u2pSt, .sspSt, .upLink, .lheSt, .fifos, .graver] (s.unattached p) := .usbEval (by decide) (.refl _)
  have hcc : (s.unattached p).ccSt p = 2 := (hrest.get _ _ rfl).trans (State.get_put_fits _ _ _ _ (by decide) (by decide))
  have hsame : (s.unattached p).ccRowNow p = s.ccRowNow p := State.ccRowNow_congr hall (hkeep.same .bad rfl (by decide)) rfl
  have hself : s.toUnattached p = s.unattached p := State.ccEval_of_no_row (s := s.unattached p) hcc (by rw [hsame, hrow])
  rw [hself]
  refine ⟨hcc, ?_⟩
  rw [husb.vbs (by decide), State.retryRun_rpApply]
  rfl

end

/-! ### The end of a discharge (R197) -/

@[simp] theorem State.health_healthWith (s : State) (f : Health → Health) : (s.healthWith f).health = f s.health := rfl

@[simp] theorem State.portInRst_vbsWith (s : State) (q : Port) (f : VbsSt → VbsSt) (p : Port) :
    (s.vbsWith q f).portInRst p = s.portInRst p := by
  rw [State.portInRst, State.vbsWith_flag, State.portInRst]

section
variable {s : State} {p : Port}

theorem State.portUp_iff : s.portUp p = true ↔ s.coreUp = true ∧ s.portInRst p = false := by
  simp [State.portUp]

/-- Outside quarantine and reset the discharge leaves the switch open, or in its wait. -/
theorem State.dischargeOver_of_plain (hquar : s.health.quarDsch.getLsbD p.val = false) (hrst : s.portInRst p = false) :
    s.dischargeOver p = ((s.put (.vbs p) F.VBS_STATUS_DSCH_ON 0).vbsWith p (fun v => { v with dschDone := true })).put (.vbs p)
      F.VBS_STATUS_STATE (if (s.vbs p).retryRun then 6 else 0) := by
  unfold State.dischargeOver
  rw [hquar, hrst]
  rfl

theorem State.dischargeOver_parts (hquar : s.health.quarDsch.getLsbD p.val = false) (hrst : s.portInRst p = false) :
    (s.dischargeOver p).get (.vbs p) F.VBS_STATUS_STATE = (if (s.vbs p).retryRun then 6 else 0) ∧
    (s.dischargeOver p).get (.vbs p) F.VBS_STATUS_DSCH_ON = 0 ∧ ((s.dischargeOver p).vbs p).dschLock = (s.vbs p).dschLock ∧
    s.WritesIn Zone.gate (s.dischargeOver p) := by
  rw [State.dischargeOver_of_plain hquar hrst]
  refine ⟨State.get_put_fits _ _ _ _ (by decide) (by split <;> decide), ?_, ?_, ?_⟩
  · rw [State.get_put_bits _ _ _ _ _ (by decide), State.vbsWith_get]
    exact State.get_put_fits _ _ _ _ (by decide) (by decide)
  · have hkeep {u : State} {v : Nat} : u.KeepsBut [] (u.put (.vbs p) F.VBS_STATUS_STATE v) := .put (.refl u)
    have hfirst : s.KeepsBut [] (s.put (.vbs p) F.VBS_STATUS_DSCH_ON 0) := .put (.refl s)
    rw [hkeep.vbs (by decide), State.vbsWith_same, hfirst.vbs (by decide)]
  · exact .put (List.Subset.refl _) rfl (.vbsWith (.put (List.Subset.refl _) rfl (.refl s)))

/-- A turn-on that waited for vSafe0V is asked. -/
def State.askAwaited (s : State) (p : Port) : State :=
  if (s.vbs p).askOnSafe then (s.vbsWith p (fun v => { v with askOnSafe := false })).askTurnOn p else s

theorem State.askAwaited_parts (s : State) (p : Port) : s.WritesIn Zone.ask (s.askAwaited p) ∧
    ((s.askAwaited p).vbs p).dschLock = (s.vbs p).dschLock := by
  refine ⟨.ite (.askTurnOn (List.Subset.refl _) (.vbsWith (.refl s))) (.refl s), ?_⟩
  unfold State.askAwaited
  split
  · rw [State.dschLock_askTurnOn, State.vbsWith_same]
  · rfl

theorem exec_dischargeEnd (hup : s.portUp p = true) (hruns : s.dschRuns p = true)
    (hsafe : (s.vbs p).safeSeen = true ∨ s.get (.vbs p) F.VBS_STATUS_SAFE0V = 1) : exec (.dischargeEnd p) s =
      .next (((s.vbsWith p (fun v => { v with dschLock := false })).dischargeOver p).askAwaited p) := by
  obtain ⟨hcore, -⟩ := State.portUp_iff.1 hup
  refine if_neg ?_
  rcases hsafe with h | h <;> simp [hcore, hruns, h, State.flag]

/-- A discharge that has failed, recorded and counted (R197). -/
def State.dschCounted (s : State) (p : Port) : State :=
  ((s.vbsWith p (fun v => { v with dschLock := true })).setFault (.vbs p) 8).countErr (.vbs p) p F.VBS_CNT_DSCH_FAIL

/-- And the isolation of a plate in reset told that it came late (R452). -/
def State.dschFailed (s : State) (p : Port) : State :=
  let k := plateOf p
  (s.dschCounted p).healthWith (fun h => { h with isoLate := if s.plateInRst k then h.isoLate ||| (1#4 <<< k.val) else h.isoLate })

theorem exec_dschMaxEnd (hup : s.portUp p = true) (hruns : s.dschRuns p = true) (hseen : (s.vbs p).safeSeen = false)
    (hsafe : s.flag (.vbs p) F.VBS_STATUS_SAFE0V = false) : exec (.dschMaxEnd p) s = .next ((s.dschFailed p).dischargeOver p) := by
  obtain ⟨hcore, hrst⟩ := State.portUp_iff.1 hup
  have hexec : exec (.dschMaxEnd p) s = execDschMaxEnd p s := rfl
  rw [hexec, execDschMaxEnd, if_neg (by simp [hcore, hruns, hseen, hsafe])]
  dsimp only
  rw [if_neg (by simp [hrst])]
  rfl

/-- A failed discharge leaves the reset of ports as it was. -/
theorem State.portInRst_dschFailed (s : State) (p : Port) : (s.dschFailed p).portInRst p = s.portInRst p := by
  have hW : s.WritesIn [.field .vbs F.VBS_CNT_DSCH_FAIL, .regs .vbs 0x14 0x14, .regs .hlt 0x7C 0x80] (s.dschFailed p) := by
    unfold State.dschFailed State.dschCounted
    exact .healthWith (.countErr (List.Subset.refl _) rfl (by decide) (.put (List.Subset.refl _) rfl (.vbsWith (.refl s))))
  have hget := hW.get .clk (portBit F.CLK_PORT_IN_RST_PORT_IN_RST p)
    (Zone.spared_of_kind rfl (by simp only [portBit, F.CLK_PORT_IN_RST_PORT_IN_RST]; omega)
      (by simp only [portBit, F.CLK_PORT_IN_RST_PORT_IN_RST]; omega))
  simp only [State.portInRst, State.flag, hget]

theorem State.dschFailed_parts (s : State) (p : Port) : (s.dschFailed p).vbs p = { s.vbs p with dschLock := true } ∧
    (s.dschFailed p).health.quarDsch = s.health.quarDsch ∧
    (s.dschFailed p).get (.vbs p) F.VBS_CNT_DSCH_FAIL =
      min (s.get (.vbs p) F.VBS_CNT_DSCH_FAIL + 1) (2 ^ F.VBS_CNT_DSCH_FAIL.width - 1) := by
  have hcounted : (s.vbsWith p (fun v => { v with dschLock := true })).KeepsBut [] (s.dschCounted p) := .countErr (.setFault (.refl _))
  have htold : (s.dschCounted p).KeepsBut [.health] (s.dschFailed p) := by
    unfold State.dschFailed
    exact .healthWith (by decide) (.refl _)
  have hhealth : (s.dschCounted p).health = s.health := hcounted.same .health rfl (by decide)
  refine ⟨by rw [htold.vbs (by decide), hcounted.vbs (by decide), State.vbsWith_same], ?_, ?_⟩
  · unfold State.dschFailed
    dsimp only
    rw [State.health_healthWith, hhealth]
  unfold State.dschFailed State.dschCounted State.countErr State.setFault
  dsimp only
  rw [State.healthWith_get, State.get_put_page _ _ _ _ (by simp) (by simp only [portBit, F.HLT_ERR_SUM_ERR]; omega) (by decide),
    State.get_count_same _ _ _ (by decide), State.get_put_off _ _ _ _ _ (by decide), State.vbsWith_get]

end

/-! ### The commands of the switch -/

section
variable {s : State} {p : Port}

theorem exec_adcSample (hup : s.portUp p = true) (vbus vreg : Nat) (sense : Int) :
    exec (.adcSample p vbus vreg sense) s = .next (s.adcSample p vbus vreg sense) :=
  congrArg Host.Outcome.next (if_pos hup)

theorem exec_settleEnd (hup : s.portUp p = true) (hst : s.get (.vbs p) F.VBS_STATUS_STATE = 1)
    (hreg : nearTarget (s.get (.vbs p) F.VBS_MEAS_VREG) 5000 = true) (hsafe : s.get (.vbs p) F.VBS_STATUS_SAFE0V = 1) :
    exec (.settleEnd p) s = .next (s.startClosing p) := by
  have hcheck : s.checkClose p = s.startClosing p := (if_neg (by simp [hreg])).trans (if_neg (by simp [State.flag, hsafe]))
  rw [← hcheck]
  exact congrArg Host.Outcome.next (if_pos (by simp [hup, State.vbsStt, hst]))

/-- CLOSING entered: the gate ramps and the discharge is off. -/
theorem State.startClosing_parts (s : State) (p : Port) : (s.startClosing p).get (.vbs p) F.VBS_STATUS_STATE = 2 ∧
    (s.startClosing p).get (.vbs p) F.VBS_STATUS_GATE_ON = 1 ∧ (s.startClosing p).get (.vbs p) F.VBS_STATUS_DSCH_ON = 0 := by
  unfold State.startClosing
  refine ⟨?_, State.get_put_fits _ _ _ _ (by decide) (by decide), ?_⟩
  · rw [State.get_put_bits _ _ _ _ _ (by decide), State.get_put_bits _ _ _ _ _ (by decide)]
    exact State.get_put_fits _ _ _ _ (by decide) (by decide)
  · rw [State.get_put_bits _ _ _ _ _ (by decide)]
    exact State.get_put_fits _ _ _ _ (by decide) (by decide)

theorem exec_closeMaxEnd (hup : s.portUp p = true) (hst : s.get (.vbs p) F.VBS_STATUS_STATE = 2) :
    exec (.closeMaxEnd p) s = .next (s.trip p 3) :=
  congrArg Host.Outcome.next (if_pos (by simp [hup, State.vbsStt, hst]))

theorem exec_portFastTrip {ma : Nat} (hup : s.portUp p = true) (hgate : s.gateOn p = true)
    (hma : 2 * s.get (.vbs p) F.VBS_TARGET_LIMIT_MA ≤ ma) :
    exec (.portFastTrip p ma) s = .next ((s.put (.vbs p) F.VBS_IBUS_IBUS_MA (min ma 65535)).trip p 1) :=
  congrArg Host.Outcome.next (if_pos (by simp [hup, hgate, hma]))

theorem exec_slowTimeEnd (hup : s.portUp p = true) (harm : s.slowArmed p = true) : exec (.slowTimeEnd p) s = .next (s.trip p 2) :=
  congrArg Host.Outcome.next (if_pos (by simp [hup, harm]))

theorem exec_portConsecClear (hup : s.portUp p = true) (hst : s.get (.vbs p) F.VBS_STATUS_STATE = 3) : exec (.portConsecClear p) s =
    .next ((s.put (.vbs p) F.VBS_STATUS_CONSEC 0).vbsWith p (fun v => { v with slowRun := false })) :=
  congrArg Host.Outcome.next (if_pos (by simp [hup, State.vbsStt, hst]))

end

/-- Settles O21: a trip's record stands through the opening and the leave that follow it (`State.WritesIn`); the other commands are a
sample's record, a wait's end or a discharge's end, whose parts stand above. -/
theorem vbusSwitchFollowsItsEvents : Obligations.VbusSwitchFollowsItsEvents := by
  unfold Obligations.VbusSwitchFollowsItsEvents
  refine ⟨fun p vbus vreg sense s hup hst => ?sample,
    fun p s hup hst hreg hsafe => ⟨_, exec_settleEnd hup hst hreg hsafe, s.startClosing_parts p⟩,
    fun p s hup hst hfew => ⟨_, exec_closeMaxEnd hup hst, State.trip_of_retry (by decide) hfew⟩,
    fun p ma s hup hgate hma hfew => ⟨_, exec_portFastTrip hup hgate hma, ?fast⟩,
    fun p s hup harm hfew => ⟨_, exec_slowTimeEnd hup harm, ?slow⟩,
    fun p s hup harm hmany => ⟨_, exec_slowTimeEnd hup harm, State.trip_of_quar 2 hmany⟩,
    fun p s hup hst => ⟨_, exec_portConsecClear hup hst, ?clear⟩, fun p held s hup hrun hcc hheld hrow => ?attach,
    fun p held s hup hrun hcc hrow => ?detach, fun p s hup hruns hsafe hquar => ?discharged,
    fun p s hup hruns hseen hsafe hquar => ?failed⟩
  case sample =>
    obtain ⟨hvbus, hvreg, hcur, -⟩ := s.adcMeasured_parts p vbus vreg sense
    obtain ⟨hrest, hsafe⟩ := State.adcSample_of_open hst vbus vreg sense
    exact ⟨_, exec_adcSample hup vbus vreg sense, (hrest.get _ _ rfl).trans hvbus, (hrest.get _ _ rfl).trans hvreg,
      (hrest.get _ _ rfl).trans hcur, hsafe⟩
  case fast =>
    have hconsec := State.get_put_off s (.vbs p) F.VBS_IBUS_IBUS_MA F.VBS_STATUS_CONSEC (min ma 65535) (by decide)
    have hretries : (s.put (.vbs p) F.VBS_IBUS_IBUS_MA (min ma 65535)).cfg (.vbs p) F.VBS_FUSE_RETRIES =
        s.cfg (.vbs p) F.VBS_FUSE_RETRIES :=
      State.cfg_congr (State.put_bad ..) (State.get_put_off s (.vbs p) F.VBS_IBUS_IBUS_MA F.VBS_FUSE_RETRIES _ (by decide))
    obtain ⟨hcc, hcause, -⟩ := State.trip_of_retry (p := p) (code := 1) (by decide) (hconsec.trans_lt (hfew.trans_eq hretries.symm))
    exact ⟨hcc, hcause⟩
  case slow =>
    obtain ⟨hcc, hcause, -⟩ := State.trip_of_retry (p := p) (code := 2) (by decide) hfew
    exact ⟨hcc, hcause⟩
  case clear => exact ⟨(State.vbsWith_get ..).trans (State.get_put_fits _ _ _ _ (by decide) (by decide)), by rw [State.vbsWith_same]⟩
  case attach =>
    have hexec := exec_retryIntEnd held hup hrun hcc
    rw [if_pos (by simpa [hheld, or_assoc] using hrow)] at hexec
    obtain ⟨hst, hdone, hannounced⟩ := (s.retryEnded p).reattached_parts p (s.ccRowNow p)
    exact ⟨_, hexec, hst, hdone.trans (s.retryRun_retryEnded p), hannounced⟩
  case detach =>
    have hexec := exec_retryIntEnd held hup hrun hcc
    rw [if_neg (by simp [hrow])] at hexec
    obtain ⟨hst, hdone⟩ := State.toUnattached_parts (s := s.retryEnded p) (p := p) (by rw [s.ccRowNow_retryEnded, hrow])
    exact ⟨_, hexec, hst, hdone.trans (s.retryRun_retryEnded p)⟩
  case discharged =>
    obtain ⟨-, hrst⟩ := State.portUp_iff.1 hup
    obtain ⟨hst, hoff, hlock, -⟩ := State.dischargeOver_parts (s := s.vbsWith p (fun v => { v with dschLock := false }))
      (by rwa [State.vbsWith_health]) (by rwa [State.portInRst_vbsWith])
    obtain ⟨hask, hkept⟩ := ((s.vbsWith p (fun v => { v with dschLock := false })).dischargeOver p).askAwaited_parts p
    rw [State.vbsWith_same] at hst hlock
    exact ⟨_, exec_dischargeEnd hup hruns hsafe, (hask.get _ _ rfl).trans hst, (hask.get _ _ rfl).trans hoff, hkept.trans hlock⟩
  case failed =>
    obtain ⟨-, hrst⟩ := State.portUp_iff.1 hup
    obtain ⟨hvbs, hsame, hcount⟩ := s.dschFailed_parts p
    obtain ⟨hst, hoff, hlock, hkept⟩ :=
      State.dischargeOver_parts (by rw [hsame, hquar]) ((s.portInRst_dschFailed p).trans hrst)
    rw [hvbs] at hst hlock
    exact ⟨_, exec_dschMaxEnd hup hruns hseen hsafe, hst, hoff, hlock, (hkept.get _ _ rfl).trans hcount⟩

end Sys2Proof.Machine

namespace Sys2Proof.Machine

/-! PROOFS. The Type-C connection logic and its events (O20): what each operation leaves of the state that it has entered and of the record
of the partner (R206–R216, R221). -/

/-! ### The zones of the connection logic -/

/-- What the classifications write as they act on the connection logic (R206, R208, R211). -/
def Zone.classified : List Zone :=
  [.field .tcp F.TCP_CC_STATUS_STATE, .field .tcp F.TCP_CC_STATUS_ORIENT, .field .tcp F.TCP_CC_STATUS_ORIENT_VALID] ++ Zone.rp

/-- What a sink's attach writes once the partner is recorded: the roles and the engine, the discharge, Rp and both USB sides (R212). -/
def Zone.sinkStart : List Zone := [.regs .tcp 0x80 0x80, .field .vbs F.VBS_STATUS_DSCH_ON] ++ Zone.usb ++ Zone.rp

/-- What a cable that counts as unanswering writes (R248). -/
def Zone.cable : List Zone := .regs .tcp 0x8C 0x8C :: Zone.rp

namespace State.WritesIn

open List (Subset.trans)

variable {W : List Zone} {was s : State}

theorem recordRow {p row} (hW : Zone.classified ⊆ W) (h : was.WritesIn W s) : was.WritesIn W (s.recordRow p row) :=
  setFlag hW rfl (setFlag hW rfl (tcpWith h))

theorem ccEval {p} (hW : Zone.classified ⊆ W) (h : was.WritesIn W s) : was.WritesIn W (s.ccEval p) := by
  have hrow {row : Fin 6 × Bool} : was.WritesIn W (s.recordRow p row) := recordRow hW h
  unfold State.ccEval
  extract_lets pg rp1 rp2 row
  split
  · exact ite (rpApply (Subset.trans (by decide) hW) (put hW rfl hrow)) h
  · exact ite h hrow
  · exact ite (put hW rfl (setFlag hW rfl (put hW rfl h))) h
  · exact ite (setFlag hW rfl h) (put hW rfl (put hW rfl h))
  · exact h

theorem setPe {p v} (hW : Zone.sinkStart ⊆ W) (h : was.WritesIn W s) : was.WritesIn W (s.setPe p v) :=
  put hW rfl h

theorem revOpen {p} (hW : Zone.sinkStart ⊆ W) (h : was.WritesIn W s) : was.WritesIn W (s.revOpen p) :=
  ite (put hW rfl h) h

theorem offerCheck {p} (h : was.WritesIn W s) : was.WritesIn W (s.offerCheck p) :=
  ite h (ite (pdWith h) (pdWith h))

theorem pdKick {p} (hW : Zone.rp ⊆ W) (h : was.WritesIn W s) : was.WritesIn W (s.pdKick p) :=
  ite (rpApply hW (pdWith h)) h

theorem cableFail {p} (hW : Zone.cable ⊆ W) (h : was.WritesIn W s) : was.WritesIn W (s.cableFail p) :=
  pdKick (Subset.trans (by decide) hW) (offerCheck (raisePort (pdWith
    (put hW rfl (put hW rfl (put hW rfl (put hW rfl (put hW rfl (put hW rfl h)))))))))

end State.WritesIn

/-! ### A state entered, with Rp after it -/

section
variable (s : State) (p : Port)

@[simp] theorem State.ccSt_rpApply : (s.rpApply p).get (.tcp p) F.TCP_CC_STATUS_STATE = s.get (.tcp p) F.TCP_CC_STATUS_STATE :=
  (State.WritesIn.rpApply (W := Zone.rp) (List.Subset.refl _) (.refl s)).get _ _ rfl

@[simp] theorem State.tcp_rpApply : (s.rpApply p).tcp p = s.tcp p :=
  (State.KeepsBut.rpApply (M := [.vbsSt]) (List.Subset.refl _) (.refl s)).tcp (by decide) p

@[simp] theorem State.tcp_put (pg : PageId) (f : Fld) (v : Nat) : (s.put pg f v).tcp p = s.tcp p := rfl

theorem State.ccSt_put {v : Nat} (hv : v < 16) :
    (s.put (.tcp p) F.TCP_CC_STATUS_STATE v).get (.tcp p) F.TCP_CC_STATUS_STATE = v :=
  State.get_put_fits _ _ _ _ (by decide) hv

theorem State.ccSt_rpApply_put {v : Nat} (hv : v < 16) :
    ((s.put (.tcp p) F.TCP_CC_STATUS_STATE v).rpApply p).get (.tcp p) F.TCP_CC_STATUS_STATE = v :=
  (State.ccSt_rpApply ..).trans (s.ccSt_put p hv)

/-- The attach debounce begun: ATTACHWAIT_SRC, with the row's partner recorded (R208). -/
theorem State.reattached_ccSt_tcp (row : Fin 6 × Bool) : (s.reattached p row).get (.tcp p) F.TCP_CC_STATUS_STATE = 3 ∧
    (s.reattached p row).tcp p = { s.tcp p with partner := row.1 } := by
  unfold State.reattached State.recordRow State.setFlag
  exact ⟨State.ccSt_rpApply_put _ p (by decide), by simp⟩

/-- An attach announced leaves the state of the connection logic (R208). -/
theorem State.announce_parts : (s.announce p).get (.tcp p) F.TCP_CC_STATUS_STATE = s.get (.tcp p) F.TCP_CC_STATUS_STATE ∧
    ((s.announce p).tcp p).announced = true := by
  obtain ⟨u, hwrites, hannounced, -, hannounce⟩ := s.announce_split p
  have hask : u.WritesIn Zone.ask (u.askTurnOn p) := .askTurnOn (List.Subset.refl _) (.refl u)
  have hkeep : u.KeepsBut [.arb, .vbsSt] (u.askTurnOn p) := .askTurnOn (by decide) (.refl u)
  rw [hannounce, hkeep.tcp (by decide)]
  exact ⟨(hask.get _ _ rfl).trans (hwrites.get _ _ rfl), hannounced⟩

/-- AUDIO_ACC entered (R214): the debounce of an accessory is over and announced. -/
theorem State.audioAttach_parts : (s.audioAttach p).get (.tcp p) F.TCP_CC_STATUS_STATE = 11 ∧
    ((s.audioAttach p).tcp p).announced = true := by
  unfold State.audioAttach
  extract_lets pg s1 s2
  have hrest : s2.WritesIn (Zone.usb ++ Zone.rp) (((s2.rpApply p).usbEval p).raisePort pg p evAccessory 5) :=
    .raisePort (.usbEval (by decide) (.rpApply (by decide) (.refl s2)))
  have hkeep : s2.KeepsBut [.freeCount, .u2pSt, .sspSt, .upLink, .vbsSt, .lheSt, .fifos, .graver]
      (((s2.rpApply p).usbEval p).raisePort pg p evAccessory 5) :=
    .raisePort (by decide) (.usbEval (by decide) (.rpApply (by decide) (.refl s2)))
  refine ⟨(hrest.get _ _ rfl).trans (State.ccSt_put _ p (by decide)), ?_⟩
  rw [hkeep.tcp (by decide), State.tcp_put, State.tcpWith_same]

end

/-! ### The classifications of an unattached port (R206, R208) -/

section
variable {s : State} {p : Port}

/-- In UNATTACHED_SRC a row that attaches starts the debounce, and no other row does anything. -/
theorem State.ccEval_of_unattached (hcc : s.ccSt p = 2) : s.ccEval p =
    if (s.ccRowNow p).1 = 1 ∨ (s.ccRowNow p).1 = 2 ∨ (s.ccRowNow p).1 = 4 then s.reattached p (s.ccRowNow p) else s := by
  unfold State.ccEval State.reattached
  simp [hcc, or_assoc]

theorem State.ccEval_unattached_parts (hcc : s.ccSt p = 2) :
    (s.ccEval p).get (.tcp p) F.TCP_CC_STATUS_STATE =
      (if (s.ccRowNow p).1 = 1 ∨ (s.ccRowNow p).1 = 2 ∨ (s.ccRowNow p).1 = 4 then 3 else 2) ∧
    ((s.ccEval p).tcp p).announced = (s.tcp p).announced ∧
    ((s.ccEval p).tcp p).partner =
      (if (s.ccRowNow p).1 = 1 ∨ (s.ccRowNow p).1 = 2 ∨ (s.ccRowNow p).1 = 4 then (s.ccRowNow p).1 else (s.tcp p).partner) := by
  rw [State.ccEval_of_unattached hcc]
  split
  · obtain ⟨hst, htcp⟩ := s.reattached_ccSt_tcp p (s.ccRowNow p)
    simp [hst, htcp]
  · exact ⟨hcc, rfl, rfl⟩

end

section
variable (s : State) (p : Port)

theorem State.unattached_writes : ((s.put (.tcp p) F.TCP_CC_CTRL_RECOVER 0).put (.tcp p) F.TCP_CC_STATUS_STATE 2).WritesIn
    (Zone.usb ++ Zone.rp) (s.unattached p) :=
  .usbEval (by decide) (.rpApply (by decide) (.refl _))

theorem State.ccSt_unattached : (s.unattached p).ccSt p = 2 :=
  ((s.unattached_writes p).get _ _ rfl).trans (State.ccSt_put _ p (by decide))

theorem State.ccRowNow_unattached : (s.unattached p).ccRowNow p = s.ccRowNow p := by
  have hput : s.WritesIn [.field .tcp F.TCP_CC_CTRL_RECOVER, .field .tcp F.TCP_CC_STATUS_STATE]
      ((s.put (.tcp p) F.TCP_CC_CTRL_RECOVER 0).put (.tcp p) F.TCP_CC_STATUS_STATE 2) :=
    .put (List.Subset.refl _) rfl (.put (List.Subset.refl _) rfl (.refl s))
  have hkeep : s.KeepsBut [.freeCount, .u2pSt, .sspSt, .upLink, .vbsSt, .lheSt, .fifos, .graver] (s.unattached p) :=
    .usbEval (by decide) (.rpApply (by decide) (.put (.put (.refl s))))
  exact State.ccRowNow_congr (W := [.field .tcp F.TCP_CC_CTRL_RECOVER, .field .tcp F.TCP_CC_STATUS_STATE] ++ Zone.usb ++ Zone.rp)
    ((hput.mono (by decide)).trans ((s.unattached_writes p).mono (by decide))) (hkeep.same .bad rfl (by decide)) rfl

/-- A port returned to UNATTACHED_SRC attaches again at once where its classifications stand already (R208). -/
theorem State.ccSt_toUnattached : (s.toUnattached p).get (.tcp p) F.TCP_CC_STATUS_STATE =
    if (s.ccRowNow p).1 = 1 ∨ (s.ccRowNow p).1 = 2 ∨ (s.ccRowNow p).1 = 4 then 3 else 2 := by
  obtain ⟨hst, -, -⟩ := State.ccEval_unattached_parts (s.ccSt_unattached p)
  rwa [s.ccRowNow_unattached] at hst

/-! ### The end of an attached state (R209) -/

/-- A leave forgets the partner. -/
theorem State.tcp_ccEnd (dest detachCause muxCause vbusCause : Nat) :
    ((s.ccEnd p dest detachCause muxCause vbusCause).tcp p).announced = false ∧
    ((s.ccEnd p dest detachCause muxCause vbusCause).tcp p).partner = 0 := by
  unfold State.ccEnd
  extract_lets pg t s1 s2 s3 s4 s5 s6
  have hkeep : s4.KeepsBut [.freeCount, .u2pSt, .sspSt, .upLink, .vbsSt, .lheSt, .fifos, .graver] ((s6.rpApply p).usbEval p) :=
    .usbEval (by decide) (.rpApply (by decide) (.laneMux (.ssForget (by decide) (.put (.put (.put (.put (.put (.refl s4)))))))))
  rw [hkeep.tcp (by decide), State.tcpWith_same]
  exact ⟨rfl, rfl⟩

theorem State.ccRowNow_ccEnd (dest detachCause muxCause vbusCause : Nat) :
    (s.ccEnd p dest detachCause muxCause vbusCause).ccRowNow p = s.ccRowNow p := by
  have hkeep : s.KeepsBut [.freeCount, .arb, .u2pSt, .sspSt, .upLink, .vbsSt, .tcpSt, .pdSt, .conSt, .lheSt, .fifos, .graver]
      (s.ccEnd p dest detachCause muxCause vbusCause) := .ccEnd (List.Subset.refl _) (.refl s)
  exact State.ccRowNow_congr (.ccEnd (List.Subset.refl Zone.leaving) (.refl s)) (hkeep.same .bad rfl (by decide)) rfl

/-! ### A sink's attach (R211, R212) -/

/-- The attach of a sink recorded, with the line of its Rp. -/
def State.sinkNoted (s : State) (p : Port) (rp2 : Bool) : State :=
  let s1 := ((s.put (.tcp p) F.TCP_CC_STATUS_STATE 7).setFlag (.tcp p) F.TCP_CC_STATUS_ORIENT rp2).put (.tcp p)
    F.TCP_CC_STATUS_ORIENT_VALID 1
  ((s1.count (.tcp p) F.TCP_CC_CNT_ATTACHES).capMark p true).tcpWith p (fun t =>
    { t with partner := 3, announced := true, bcMode := ⟨s.bcMode p % 4, Nat.mod_lt _ (by decide)⟩ })

theorem State.sinkNoted_parts (rp2 : Bool) : (s.sinkNoted p rp2).get (.tcp p) F.TCP_CC_STATUS_STATE = 7 ∧
    ((s.sinkNoted p rp2).tcp p).partner = 3 ∧ ((s.sinkNoted p rp2).tcp p).announced = true := by
  have hafter : (s.put (.tcp p) F.TCP_CC_STATUS_STATE 7).WritesIn [.field .tcp F.TCP_CC_STATUS_ORIENT,
      .field .tcp F.TCP_CC_STATUS_ORIENT_VALID, .field .tcp F.TCP_CC_CNT_ATTACHES] (s.sinkNoted p rp2) := by
    unfold State.sinkNoted
    exact .tcpWith (.grvWith (.count (List.Subset.refl _) rfl
      (.put (List.Subset.refl _) rfl (.setFlag (List.Subset.refl _) rfl (.refl _)))))
  refine ⟨(hafter.get _ _ rfl).trans (s.ccSt_put p (by decide)), ?_⟩
  unfold State.sinkNoted
  rw [State.tcpWith_same]
  exact ⟨rfl, rfl⟩

end

section
variable {s : State} {p : Port}

/-- Once it is recorded, a sink's attach leaves the state of the connection logic and the record of the partner. -/
theorem exec_sinkAttach (hrun : s.ccCanRun p = true) (hcc : s.ccSt p = 9) (hvbus : 40000000 ≤ s.vbusUv10 p)
    (hrp : 3 ≤ s.get (.tcp p) F.TCP_CC_STATUS_CC1_LVL ↔ ¬ 3 ≤ s.get (.tcp p) F.TCP_CC_STATUS_CC2_LVL) :
    ∃ rp2 t, exec (.sinkAttach p) s = .next t ∧ (s.sinkNoted p rp2).WritesIn Zone.sinkStart t ∧
      t.tcp p = (s.sinkNoted p rp2).tcp p := by
  have hone : (3 ≤ s.get (.tcp p) F.TCP_CC_STATUS_CC1_LVL) ≠ (3 ≤ s.get (.tcp p) F.TCP_CC_STATUS_CC2_LVL) := by
    rw [ne_eq, eq_iff_iff]
    tauto
  have hexec : exec (.sinkAttach p) s = execSinkAttach p s := rfl
  unfold execSinkAttach at hexec
  extract_lets pg rp1 rp2 s1 s2 s3 s4 s5 at hexec
  rw [if_pos (by simp [hrun, hcc, hvbus, rp1, rp2, pg, hone])] at hexec
  have h3 : s2.WritesIn Zone.sinkStart s3 := .put (List.Subset.refl _) rfl (.put (List.Subset.refl _) rfl (.refl s2))
  have h4 : s2.WritesIn Zone.sinkStart s4 :=
    .ite (.setPe (List.Subset.refl _) (.revOpen (List.Subset.refl _) h3)) (.setPe (List.Subset.refl _) h3)
  have h5 : s2.WritesIn Zone.sinkStart s5 := .rpApply (by decide) (.put (List.Subset.refl _) rfl h4)
  have hkeep : s2.KeepsBut [.vbsSt] s5 :=
    .rpApply (by decide) (.put (.ite (.setPe (.revOpen (.put (.put (.refl s2))))) (.setPe (.put (.put (.refl s2))))))
  have hlast : s5.KeepsBut [.freeCount, .u2pSt, .sspSt, .upLink, .lheSt, .fifos, .graver]
      ((s5.usbEval p).raisePort pg p evAttach (3 + 8 * bit (decide rp2) + 16 * bit (s.tcp p).tryUsed)) :=
    .raisePort (by decide) (.usbEval (by decide) (.refl s5))
  exact ⟨decide rp2, _, hexec, .raisePort (.usbEval (by decide) h5), (hlast.tcp (by decide) p).trans (hkeep.tcp (by decide) p)⟩

end

/-! ### A VCONN trip (R216, R248) -/

/-- VCONN tripped: off, recorded and counted, and barred until the detach. -/
def State.vconnTripped (s : State) (p : Port) : State :=
  (((s.vconnOff p).setFault (.tcp p) 8).countErr (.tcp p) p F.TCP_CC_CNT_VCONN_TRIPS).tcpWith p (fun t => { t with vconnBarred := true })

/-- What a VCONN trip writes once VCONN is off. -/
def Zone.vconnTrip : List Zone :=
  [.field .tcp F.TCP_PD_STATUS_VCONN_SRC, .field .tcp (F.FAULT 8), .field .tcp F.TCP_CC_CNT_VCONN_TRIPS, .regs .hlt 0x7C 0x80] ++ Zone.cable

theorem State.vconnTripped_parts (s : State) (p : Port) :
    ((s.vconnTripped p).cableFail p).get (.tcp p) F.TCP_CC_STATUS_VCONN_ON = 0 ∧
    (((s.vconnTripped p).cableFail p).tcp p).vconnBarred = true := by
  have hall : Zone.vconnTrip ⊆ Zone.vconnTrip := List.Subset.refl _
  have hoff : (s.put (.tcp p) F.TCP_CC_STATUS_VCONN_ON 0).WritesIn Zone.vconnTrip (s.vconnOff p) :=
    .pdWith (.pdWith (.put hall rfl (.refl _)))
  have hafter : (s.put (.tcp p) F.TCP_CC_STATUS_VCONN_ON 0).WritesIn Zone.vconnTrip ((s.vconnTripped p).cableFail p) :=
    .cableFail (by decide) (.tcpWith (.countErr hall rfl (by decide) (.put hall rfl hoff)))
  have hkeep : (s.vconnTripped p).KeepsBut [.vbsSt, .pdSt, .fifos] ((s.vconnTripped p).cableFail p) :=
    .cableFail (List.Subset.refl _) (.refl _)
  refine ⟨(hafter.get _ _ rfl).trans (State.get_put_fits _ _ _ _ (by decide) (by decide)), ?_⟩
  rw [hkeep.tcp (by decide), State.vconnTripped, State.tcpWith_same]

/-! ### The commands of the connection logic -/

theorem ccCode_lt (l : CcLevel) : ccCode l < 8 := by
  cases l <;> decide

section
variable {s : State} {p : Port}

theorem State.portUp_of_ccCanRun (h : s.ccCanRun p = true) : s.portUp p = true := by
  simp only [State.ccCanRun, Bool.and_eq_true, and_assoc] at h
  exact h.1

/-- A pair of classifications stands as it was reported, whatever it then moves (R206). -/
theorem exec_ccClassify_down (cc1 cc2 : CcLevel) (hup : s.portUp p = true) : ∃ t, exec (.ccClassify (.down p) cc1 cc2) s = .next t ∧
    t.get (.tcp p) F.TCP_CC_STATUS_CC1_LVL = ccCode cc1 ∧ t.get (.tcp p) F.TCP_CC_STATUS_CC2_LVL = ccCode cc2 := by
  have heval {u : State} : u.WritesIn Zone.classified (u.ccEval p) := .ccEval (List.Subset.refl _) (.refl u)
  refine ⟨_, congrArg Host.Outcome.next (if_pos hup), (heval.get _ _ rfl).trans ?_, (heval.get _ _ rfl).trans ?_⟩
  · rw [State.get_put_bits _ _ _ _ _ (by decide)]
    exact State.get_put_fits _ _ _ _ (by decide) (ccCode_lt cc1)
  · exact State.get_put_fits _ _ _ _ (by decide) (ccCode_lt cc2)

theorem exec_attach_announce (hrun : s.ccCanRun p = true) (hnew : (s.tcp p).announced = false) (hcc : s.ccSt p = 3)
    (hrow : (s.ccRowNow p).1 ≠ 0) (haudio : (s.ccRowNow p).1 ≠ 5) : exec (.attach p) s = .next (s.announce p) :=
  (congrArg Host.Outcome.next (if_pos (by simp [hrun, hnew, hcc]))).trans
    ((congrArg Host.Outcome.next (if_neg haudio)).trans (congrArg Host.Outcome.next (if_pos (by simp [hcc, hrow]))))

theorem exec_attach_audio (hrun : s.ccCanRun p = true) (hnew : (s.tcp p).announced = false) (hcc : s.ccSt p = 3)
    (haudio : (s.ccRowNow p).1 = 5) : exec (.attach p) s = .next (s.audioAttach p) :=
  (congrArg Host.Outcome.next (if_pos (by simp [hrun, hnew, hcc]))).trans (congrArg Host.Outcome.next (if_pos haudio))

theorem exec_detach (hup : s.portUp p = true) (hann : (s.tcp p).announced = true) (hgone : s.rdGone p = true) (hpe : s.pe p ≠ 9)
    (hcc : s.ccSt p ≠ 7) : exec (.detach p) s = .next ((s.ccEnd p 2 0 0 0).ccEval p) :=
  (congrArg Host.Outcome.next (if_pos (by simp [hup, hann, hgone]))).trans
    ((congrArg Host.Outcome.next (if_neg hpe)).trans (congrArg Host.Outcome.next (if_neg hcc)))

theorem exec_debounceLost (hrun : s.ccCanRun p = true) (hcc : s.ccSt p = 3) (hnew : (s.tcp p).announced = false)
    (hrow : (s.ccRowNow p).1 = 0) : exec (.debounceLost p) s =
      .next (((s.recordRow p (0, false)).put (.tcp p) F.TCP_CC_STATUS_STATE 2).rpApply p) :=
  congrArg Host.Outcome.next (if_pos (by simp [hrun, hcc, hnew, hrow]))

theorem exec_drpToggle_sink (hrun : s.ccCanRun p = true) (hdrp : s.drp p = true) (hcc : s.ccSt p = 2) (hrow : (s.ccRowNow p).1 = 0) :
    exec (.drpToggle p) s = .next ((s.put (.tcp p) F.TCP_CC_STATUS_STATE 5).rpApply p) :=
  (congrArg Host.Outcome.next (if_pos (by simp [hrun, hdrp]))).trans
    ((congrArg Host.Outcome.next (if_pos hcc)).trans (congrArg Host.Outcome.next (if_pos hrow)))

theorem exec_drpToggle_source (hrun : s.ccCanRun p = true) (hdrp : s.drp p = true) (hcc : s.ccSt p = 5) :
    exec (.drpToggle p) s = .next ((s.put (.tcp p) F.TCP_CC_STATUS_STATE 2).rpApply p) :=
  (congrArg Host.Outcome.next (if_pos (by simp [hrun, hdrp]))).trans
    ((congrArg Host.Outcome.next (if_neg (by simp [hcc]))).trans (congrArg Host.Outcome.next (if_pos hcc)))

theorem exec_trySrc (hrun : s.ccCanRun p = true) (hcc : s.ccSt p = 6) : exec (.trySrc p) s =
    .next (((s.put (.tcp p) F.TCP_CC_STATUS_STATE 8).tcpWith p (fun t => { t with tryUsed := true })).rpApply p) :=
  congrArg Host.Outcome.next (if_pos (by simp [hrun, hcc]))

theorem exec_trySrcSuccess (hrun : s.ccCanRun p = true) (hcc : s.ccSt p = 8) (hrow : (s.ccRowNow p).1 = 1 ∨ (s.ccRowNow p).1 = 2) :
    exec (.trySrcSuccess p) s = .next (((((s.recordRow p (s.ccRowNow p)).count (.tcp p) F.TCP_CC_CNT_TRY_WINS).put (.tcp p)
      F.TCP_CC_STATUS_STATE 3).rpApply p).announce p) :=
  congrArg Host.Outcome.next (if_pos (by simp [hrun, hcc, hrow]))

theorem exec_trySrcTimeout (hrun : s.ccCanRun p = true) (hcc : s.ccSt p = 8) :
    exec (.trySrcTimeout p) s = .next ((s.put (.tcp p) F.TCP_CC_STATUS_STATE 9).rpApply p) :=
  congrArg Host.Outcome.next (if_pos (by simp [hrun, hcc]))

theorem exec_tryTimeout (hrun : s.ccCanRun p = true) (hcc : s.ccSt p = 9) (hrp : s.rpSeen p = false) : exec (.tryTimeout p) s =
    .next ((((s.put (.tcp p) F.TCP_CC_STATUS_STATE 5).put (.tcp p) F.TCP_CC_STATUS_ORIENT_VALID 0).tcpWith p
      (fun t => { t with tryUsed := false })).rpApply p) :=
  congrArg Host.Outcome.next (if_pos (by simp [hrun, hcc, hrp]))

theorem exec_tryTimeout_of_rpSeen (hrp : s.rpSeen p = true) : exec (.tryTimeout p) s = .next s :=
  congrArg Host.Outcome.next (if_neg (by simp [hrp]))

theorem exec_sinkDetach (hup : s.portUp p = true) (hcc : s.ccSt p = 7) (hvbus : s.vbusUv10 p < 36700000) (hswap : s.pe p ≠ 8)
    (hfast : s.pe p ≠ 9) (hwait : (s.pd p).snkWaitVbus = false) :
    exec (.sinkDetach p) s = .next ((s.ccEnd p 1 0 0 0).count (.tcp p) F.TCP_CC_CNT_RECOVERIES) :=
  congrArg Host.Outcome.next (if_pos (by simp [hup, hcc, hvbus, hswap, hfast, hwait]))

theorem exec_errorRecoveryEnd (hrun : s.ccCanRun p = true) (hcc : s.ccSt p = 1) :
    exec (.errorRecoveryEnd p) s = .next (s.toUnattached p) :=
  congrArg Host.Outcome.next (if_pos (by simp [hrun, hcc]))

theorem exec_vconnTrip (hup : s.portUp p = true) (hon : s.get (.tcp p) F.TCP_CC_STATUS_VCONN_ON = 1) :
    exec (.vconnTrip p) s = .next ((s.vconnTripped p).cableFail p) :=
  congrArg Host.Outcome.next (if_pos (by simp [hup, State.flag, hon]))

end

/-- Settles O20: the state that a command enters stands through what follows it (`State.WritesIn`), and so does the record of the partner
(`State.KeepsBut`); where a port comes back to UNATTACHED_SRC, the classifications that stand decide what is next. -/
theorem typeCEventsMoveTheConnectionState : Obligations.TypeCEventsMoveTheConnectionState := by
  unfold Obligations.TypeCEventsMoveTheConnectionState
  refine ⟨fun p cc1 cc2 s hrun => exec_ccClassify_down cc1 cc2 (State.portUp_of_ccCanRun hrun),
    fun p s hrun hnew hcc hrow haudio => ⟨_, exec_attach_announce hrun hnew hcc hrow haudio, ?attach⟩,
    fun p s hrun hnew hcc haudio => ⟨_, exec_attach_audio hrun hnew hcc haudio, ?audio⟩,
    fun p s hup hann hgone hpe hcc => ⟨_, exec_detach hup hann hgone hpe hcc, ?detach⟩,
    fun p s hrun hcc hnew hrow => ⟨_, exec_debounceLost hrun hcc hnew hrow, State.ccSt_rpApply_put _ p (by decide)⟩,
    fun p s hrun hdrp hcc hrow => ⟨_, exec_drpToggle_sink hrun hdrp hcc hrow, State.ccSt_rpApply_put s p (by decide)⟩,
    fun p s hrun hdrp hcc => ⟨_, exec_drpToggle_source hrun hdrp hcc, State.ccSt_rpApply_put s p (by decide)⟩,
    fun p s hrun hcc => ⟨_, exec_trySrc hrun hcc, ?trySrc⟩,
    fun p s hrun hcc hrow => ⟨_, exec_trySrcSuccess hrun hcc hrow, ?trySrcSuccess⟩,
    fun p s hrun hcc => ⟨_, exec_trySrcTimeout hrun hcc, State.ccSt_rpApply_put s p (by decide)⟩,
    fun p s hrun hcc hrp => ⟨_, exec_tryTimeout hrun hcc hrp, ?tryTimeout⟩,
    fun p s hrp => ⟨s, exec_tryTimeout_of_rpSeen hrp, rfl⟩,
    fun p s hrun hcc hvbus hrp => ?sinkAttach,
    fun p s hup hcc hvbus hswap hfast hwait => ⟨_, exec_sinkDetach hup hcc hvbus hswap hfast hwait, ?sinkDetach⟩,
    fun p s hrun hcc => ⟨_, exec_errorRecoveryEnd hrun hcc, s.ccSt_toUnattached p⟩,
    fun p s hup hon => ⟨_, exec_vconnTrip hup hon, s.vconnTripped_parts p⟩⟩
  case attach =>
    obtain ⟨hst, hannounced⟩ := s.announce_parts p
    exact ⟨hannounced, hst.trans hcc⟩
  case audio => exact (s.audioAttach_parts p).symm
  case detach =>
    obtain ⟨hforgot, hnone⟩ := s.tcp_ccEnd p 2 0 0 0
    obtain ⟨hst, hann', hpartner⟩ := State.ccEval_unattached_parts (s.ccSt_ccEnd p (dest := 2) (by decide) 0 0 0)
    rw [s.ccRowNow_ccEnd] at hst hpartner
    rw [hnone] at hpartner
    exact ⟨hst, hann'.trans hforgot, hpartner⟩
  case trySrc => exact ⟨(State.ccSt_rpApply ..).trans (s.ccSt_put p (by decide)), by rw [State.tcp_rpApply, State.tcpWith_same]⟩
  case trySrcSuccess =>
    obtain ⟨hst, hannounced⟩ := State.announce_parts _ p
    exact ⟨hst.trans (State.ccSt_rpApply_put _ p (by decide)), hannounced⟩
  case tryTimeout =>
    refine ⟨(State.ccSt_rpApply ..).trans ?_, by rw [State.tcp_rpApply, State.tcpWith_same]⟩
    rw [State.tcpWith_get, State.get_put_bits _ _ _ _ _ (by decide)]
    exact s.ccSt_put p (by decide)
  case sinkAttach =>
    obtain ⟨rp2, t, hexec, hafter, htcp⟩ := exec_sinkAttach hrun hcc hvbus hrp
    obtain ⟨hst, hpartner, hannounced⟩ := s.sinkNoted_parts p rp2
    exact ⟨t, hexec, (hafter.get _ _ rfl).trans hst, by rw [htcp, hpartner], by rw [htcp, hannounced]⟩
  case sinkDetach =>
    obtain ⟨hforgot, -⟩ := s.tcp_ccEnd p 1 0 0 0
    exact ⟨(State.get_put_bits _ _ _ _ _ (by decide)).trans (s.ccSt_ccEnd p (by decide) 0 0 0), hforgot⟩

end Sys2Proof.Machine

namespace Sys2Proof.Machine

/-! PROOFS. The PD engine's shared steps (O22–O26): what each leaves of the engine's hidden part, which registers it writes, and what a
message that is heard and a timer that acts begin with (R232). -/

/-! ### The hidden part of an engine -/

theorem State.KeepsBut.pd {M : List Part} {s t : State} (h : s.KeepsBut M t) (hM : .pdSt ∉ M) (p : Port) : t.pd p = s.pd p :=
  congrArg (fun v => v[p]) (h.same .pdSt rfl hM)

/-- A message waits behind the one that is in flight (R232). -/
def PdSt.waits (d : PdSt) (m : PdOut) : Bool :=
  (m.kind != .hardReset && m.kind != .bist) && d.flight.isSome && d.out.any (fun o => o.kind != .goodCrc)

/-- The engine once it has sent a message. -/
@[simps] def PdSt.say (d : PdSt) (m : PdOut) : PdSt :=
  { d with
    out := d.out ++ [m]
    flight := if d.waits m then d.flight else if m.kind != .hardReset && m.kind != .bist then some m else none
    queued := if d.waits m then d.queued ++ [m] else []
    resends := if d.waits m then d.resends else 0 }

/-- What a reset, a detach or a loss of VBUS leaves of the engine (R257). -/
@[simps] def PdSt.ended (d : PdSt) : PdSt :=
  { d with
    flight := none, resends := 0, queued := [], want := .none, capsSent := 0, offer := [], offerDue := false, offerNow := false,
    capDue := false, sinkTx := false, req := none, accepted := false, transRun := false, modeStep := 0, swapOwn := false,
    swapPower := false, frsMa := 0, frsSeen := false, snkWaitVbus := false, snkFell := false, revokeWait := false, vconnDue := false,
    raiseGranted := false, waitSent := false, reserved := false }

/-- A sequence is due in the present state, and nothing holds its SinkTxNG wait back (R233). -/
def State.pdDue (s : State) (p : Port) : Bool :=
  (s.pe p == 5 && s.ownDue p || s.pe p == 3 && (s.pd p).capDue) && (s.pd p).want == .none && !(s.pd p).sinkTx

section
variable (s : State) (p : Port)

@[simp] theorem State.pd_put (pg : PageId) (f : Fld) (v : Nat) : (s.put pg f v).pd p = s.pd p := rfl

@[simp] theorem State.pd_setPe (v : Nat) : (s.setPe p v).pd p = s.pd p := rfl

@[simp] theorem State.pd_raisePort (pg : PageId) (q : Port) (e : Ev) (d : Nat) (b : Bool) : (s.raisePort pg q e d b).pd p = s.pd p :=
  (State.KeepsBut.raisePort (M := [.fifos]) (List.Subset.refl _) (.refl s)).pd (by decide) p

@[simp] theorem State.pd_rpApply : (s.rpApply p).pd p = s.pd p :=
  (State.KeepsBut.rpApply (M := [.vbsSt]) (List.Subset.refl _) (.refl s)).pd (by decide) p

@[simp] theorem State.pd_swapEvent (kind outcome : Nat) : (s.swapEvent p kind outcome).pd p = s.pd p :=
  s.pd_raisePort ..

@[simp] theorem State.pd_protoErr (num cls : Nat) (hard : Bool) : (s.protoErr p num cls hard).pd p = s.pd p :=
  (State.KeepsBut.protoErr (M := [.fifos]) (List.Subset.refl _) (.refl s)).pd (by decide) p

@[simp] theorem State.pd_modeExit (cause muxCause : Nat) : (s.modeExit p cause muxCause).pd p = s.pd p :=
  (State.KeepsBut.modeExit (M := [.tcpSt, .conSt, .fifos]) (List.Subset.refl _) (.refl s)).pd (by decide) p

@[simp] theorem State.pd_endLeave (op : LeaveOp) : (s.endLeave op).pd p = s.pd p :=
  (State.KeepsBut.endLeave (M := [.arb]) (List.Subset.refl _) (.refl s)).pd (by decide) p

@[simp] theorem State.pd_pdSay (kind : PdKind) (objs : List Word) (bytes : List Byte) (prime : Bool) :
    (s.pdSay p kind objs bytes prime).pd p = (s.pd p).say ⟨prime, kind, objs, bytes⟩ := by
  simp only [State.pdSay, State.pdWith_same, PdSt.say, PdSt.waits]
  split <;> simp_all

@[simp] theorem State.pd_endRaise : (s.endRaise p).pd p = { s.pd p with raiseGranted := false, waitSent := false } := by
  simp [State.endRaise]

@[simp] theorem State.pd_endReserve : (s.endReserve p).pd p = { s.pd p with reserved := false } := by
  unfold State.endReserve
  extract_lets s1 s2
  have h1 : s1.pd p = { s.pd p with reserved := false } := by simp [s1]
  have h2 : s2.pd p = s1.pd p := (State.KeepsBut.ite (M := []) (.refl s1) (.returnGrant (.refl s1))).pd (by decide) p
  split
  case isTrue h =>
    have hnone : (s.pd p).reserved = false := by simpa using h
    rw [← hnone]
  case isFalse => rw [State.pd_put, h2, h1]

@[simp] theorem State.pd_pdEnd (modeCause muxCause : Nat) : (s.pdEnd p modeCause muxCause).pd p = (s.pd p).ended := by
  have hcontract {u : State} : (u.endContract p).pd p = u.pd p := rfl
  simp [State.pdEnd, PdSt.ended, hcontract]

theorem State.pdKick_eq : s.pdKick p = if s.pdDue p then s.startSinkTx p else s := rfl

theorem State.pd_pdKick : (s.pdKick p).pd p = { s.pd p with sinkTx := (s.pd p).sinkTx || s.pdDue p } := by
  rw [State.pdKick_eq]
  cases s.pdDue p
  · rw [Bool.or_false]
    rfl
  · simp [State.startSinkTx]

/-- The ready state entered waits for a Request or for nothing, and may begin the wait of a sequence (R233, R241). -/
theorem State.pd_toReady : ∃ w b, (s.toReady p).pd p = { s.pd p with want := w, sinkTx := b } := by
  unfold State.toReady
  extract_lets v
  rw [State.pd_pdKick, State.pd_rpApply, State.pdWith_same]
  exact ⟨_, _, rfl⟩

end

/-! ### The registers it writes -/

theorem State.WritesIn.flag {W : List Zone} {s t : State} (h : s.WritesIn W t) (pg : PageId) (f : Fld)
    (hf : Zone.spared W (pageKind pg) f = true) : t.flag pg f = s.flag pg f := by
  rw [State.flag, h.get pg f hf, State.flag]

theorem State.WritesIn.pe {W : List Zone} {s t : State} (h : s.WritesIn W t) (p : Port)
    (hf : Zone.spared W .tcp F.TCP_PD_STATUS_PE_STATE = true) : t.pe p = s.pe p :=
  h.get (.tcp p) _ hf

theorem State.WritesIn.isSource {W : List Zone} {s t : State} (h : s.WritesIn W t) (p : Port)
    (hf : Zone.spared W .tcp F.TCP_PD_STATUS_POWER_ROLE = true) : t.isSource p = s.isSource p := by
  rw [State.isSource, h.flag (.tcp p) _ hf, State.isSource]

namespace State.WritesIn

variable {W : List Zone} {was s : State}

theorem pdSay {p kind objs bytes prime} (h : was.WritesIn W s) : was.WritesIn W (s.pdSay p kind objs bytes prime) := by
  unfold State.pdSay
  exact pdWith h

theorem swapEvent {p kind outcome} (h : was.WritesIn W s) : was.WritesIn W (s.swapEvent p kind outcome) :=
  raisePort h

end State.WritesIn

section
variable (s : State) (p : Port)

/-- The engine's state entered. -/
theorem State.pe_setPe {v : Nat} (hv : v < 16) : (s.setPe p v).get (.tcp p) F.TCP_PD_STATUS_PE_STATE = v :=
  State.get_put_fits _ _ _ _ (by decide) hv

theorem State.toReady_writes : ∃ v, v = (if s.isSource p then (if s.flag (.tcp p) F.TCP_PD_STATUS_CONTRACT then 5 else 3) else 7) ∧
    (s.setPe p v).WritesIn Zone.rp (s.toReady p) :=
  ⟨_, rfl, .pdKick (List.Subset.refl _) (.rpApply (List.Subset.refl _) (.pdWith (.refl _)))⟩

/-- The state a ready engine enters (R241, R250). -/
theorem State.pe_toReady : (s.toReady p).get (.tcp p) F.TCP_PD_STATUS_PE_STATE =
    if s.isSource p then (if s.flag (.tcp p) F.TCP_PD_STATUS_CONTRACT then 5 else 3) else 7 := by
  obtain ⟨v, hv, h⟩ := s.toReady_writes p
  rw [h.get _ _ rfl, ← hv]
  exact s.pe_setPe p (by rw [hv]; split <;> [split; skip] <;> decide)

end

/-! ### A message heard, and a timer that acts -/

section
variable (s : State) (p : Port) (m : PdMsg)

@[simp] theorem State.pd_pdFresh : (s.pdFresh p).pd p = { s.pd p with out := [] } := s.pdWith_same ..

@[simp] theorem State.pdFresh_get (pg : PageId) (f : Fld) : (s.pdFresh p).get pg f = s.get pg f := rfl

@[simp] theorem State.pdFresh_flag (pg : PageId) (f : Fld) : (s.pdFresh p).flag pg f = s.flag pg f := rfl

@[simp] theorem State.pdFresh_pe : (s.pdFresh p).pe p = s.pe p := rfl

@[simp] theorem State.pdFresh_present : (s.pdFresh p).present p = s.present p := rfl

theorem State.pdNote_writes : s.WritesIn [.field .tcp F.TCP_PD_STATUS_SPEC_REV] (s.pdNote p m) :=
  .ite (.pdWith (.pdWith (.refl s))) (.put (List.Subset.refl _) rfl (.pdWith (.pdWith (.refl s))))

theorem State.pdNote_keeps : s.KeepsBut [.pdSt] (s.pdNote p m) :=
  .ite (.pdWith (List.Subset.refl _) (.pdAck (List.Subset.refl _) (.refl s)))
    (.put (.pdWith (List.Subset.refl _) (.pdAck (List.Subset.refl _) (.refl s))))

@[simp] theorem State.pd_pdNote :
    (s.pdNote p m).pd p = { s.pd p with out := [goodCrc false], partnerPd := true, revKnown := true } := by
  unfold State.pdNote
  extract_lets s1
  have h1 : s1.pd p = { s.pd p with out := [goodCrc false], partnerPd := true, revKnown := true } := by simp [s1, State.pdAck]
  split
  · exact h1
  · exact h1

@[simp] theorem State.pdNote_pe : (s.pdNote p m).pe p = s.pe p := (s.pdNote_writes p m).pe p rfl

@[simp] theorem State.pdNote_isSource : (s.pdNote p m).isSource p = s.isSource p :=
  (s.pdNote_writes p m).isSource p rfl

@[simp] theorem State.pdNote_pdReady : (s.pdNote p m).pdReady p = s.pdReady p := by
  simp [State.pdReady]

/-- The revision apart, a message noted leaves every register. -/
theorem State.pdNote_get (pg : PageId) (f : Fld) (hf : Zone.spared [.field .tcp F.TCP_PD_STATUS_SPEC_REV] (pageKind pg) f = true) :
    (s.pdNote p m).get pg f = s.get pg f :=
  (s.pdNote_writes p m).get pg f hf

theorem State.pdNote_flag (pg : PageId) (f : Fld) (hf : Zone.spared [.field .tcp F.TCP_PD_STATUS_SPEC_REV] (pageKind pg) f = true) :
    (s.pdNote p m).flag pg f = s.flag pg f :=
  (s.pdNote_writes p m).flag pg f hf

theorem State.pdNote_cfg (pg : PageId) (f : Fld) (hf : Zone.spared [.field .tcp F.TCP_PD_STATUS_SPEC_REV] (pageKind pg) f = true) :
    (s.pdNote p m).cfg pg f = s.cfg pg f :=
  State.cfg_congr ((s.pdNote_keeps p m).same .bad rfl (by decide)) (s.pdNote_get p m pg f hf)

theorem State.pdNote_compatPort : (s.pdNote p m).compatPort p = s.compatPort p := by
  unfold State.compatPort State.compat State.instExists
  rw [s.pdNote_flag p m _ _ rfl, s.pdNote_cfg p m _ _ rfl]

/-- The present contract stands as a message is noted, and so does the current that Rp gives before the first one. -/
theorem State.pdNote_present : (s.pdNote p m).present p = s.present p := by
  have hgrant : (s.pdNote p m).grant p = s.grant p :=
    s.pdNote_get p m .bgt _ (Zone.spared_of_kind rfl (show 0x180 + 4 * p.val < 0x1000 by omega) (show 0x180 + 4 * p.val ≠ 0xC by omega))
  have hrp : (s.pdNote p m).rpMax p = s.rpMax p := by
    unfold State.rpMax
    rw [s.pdNote_compatPort, s.pdNote_cfg p m _ _ rfl]
  have hsource : (s.pdNote p m).contractSrc p = s.contractSrc p := by
    unfold State.contractSrc
    rw [s.pdNote_flag p m _ _ rfl, s.pdNote_flag p m _ _ rfl]
  unfold State.present State.basisMa State.grantRp
  rw [hgrant, hrp, hsource, s.pdNote_flag p m _ _ rfl, s.pdNote_get p m _ _ rfl, s.pdNote_get p m _ _ rfl]

end

section
variable {s : State} {p : Port} {m : PdMsg}

/-- Once the partner's revision is known, a message changes no register by being noted (R232). -/
theorem State.pdNote_get_of_known (hknown : (s.pd p).revKnown = true) (pg : PageId) (f : Fld) :
    (s.pdNote p m).get pg f = s.get pg f := by
  unfold State.pdNote
  rw [if_pos hknown]
  rfl

theorem State.pdNote_rev3 (hrev : s.get (.tcp p) F.TCP_PD_STATUS_SPEC_REV = 2) (hknown : (s.pd p).revKnown = true) :
    (s.pdNote p m).pdRev2 p = false := by
  rw [State.pdRev2, State.pdNote_get_of_known hknown, hrev]
  rfl

/-- A message on SOP that is heard reaches its rule. -/
theorem State.pdTake_heard {f : State → State} (hhears : s.pdHears p = true) (hprime : m.sopPrime = false)
    (hdouble : m.sopDouble = false) (hchunked : m.unchunked = false) : s.pdTake p m f = f (s.pdNote p m) := by
  simp [State.pdTake, hhears, hprime, hdouble, hchunked]

/-- And it is answered at once in a ready state (R250). -/
theorem State.pdTake_answered {f : State → State} {num cls : Nat} (hhears : s.pdHears p = true) (hprime : m.sopPrime = false)
    (hdouble : m.sopDouble = false) (hchunked : m.unchunked = false) (hready : s.pdReady p = true) :
    s.pdTake p m (fun u => u.pdAnswer p num cls f) = f (s.pdNote p m) :=
  (State.pdTake_heard hhears hprime hdouble hchunked).trans (if_pos (by simpa using hready))

theorem State.pdTick_acts {f : State → State} {c : Bool} (hup : s.portUp p = true) (hc : c = true) :
    s.pdTick p c f = f (s.pdFresh p) :=
  if_pos (by simp [hup, hc])

end

end Sys2Proof.Machine

namespace Sys2Proof.Machine

/-! PROOFS. Requests for information (O22): the statement has Source_Info report the offer of the state before the message for every
state, but the first message of a partner settles the revision (R232), and a Revision 2.0 engine offers no PPS APDO (R237). -/

/-- A source, attached in a running core, that sends its capabilities before its partner has spoken. Its grant is 33 W, and the first PDO
after the 5 V one is a PPS APDO up to 11 V, which leaves the fixed PDOs behind it out of order (R236). -/
def unheardSourceState : State :=
  ((((((({ State.reset with coreHeld := false }).put .clk F.CLK_ROOT_STATUS_ROOT_LOCKED 1).put .clk
    (portBit F.CLK_PORT_IN_RST_PORT_IN_RST 0) 0).put (.tcp 0) F.TCP_CC_STATUS_STATE 4).put (.tcp 0) F.TCP_PD_STATUS_PE_STATE 2).put
    (.tcp 0) F.TCP_PD_STATUS_SPEC_REV 2).put (.tcp 0) F.TCP_PD_POLICY_PPS_EN 1).put (.tcp 0) (F.TCP_PDOk_PDO 1)
      (3 * 2 ^ 30 + 110 * 2 ^ 17 + 33 * 2 ^ 8 + 60) |>.put .bgt (F.BGT_GRANTn_GRANT 0) 330

/-- Get_Source_Info from a partner of Revision 2.0. -/
def rev2GetSourceInfo : PdMsg := ⟨true, false, false, false, false, 23, 0, []⟩

/-- Once the message is noted, the largest offered power is the 15 W at 5 V, no longer the 33 W of the PPS APDO. -/
theorem unheardSourceState_sourceInfo : unheardSourceState.sourceInfo 0 = BitVec.ofNat 32 (240 * 2 ^ 16 + 33 * 2 ^ 8 + 33) ∧
    (unheardSourceState.pdNote 0 rev2GetSourceInfo).sourceInfo 0 = BitVec.ofNat 32 (240 * 2 ^ 16 + 33 * 2 ^ 8 + 15) := by decide +kernel

/-- Source_Info as the engine answers it: from the state in which the message has been noted. -/
theorem exec_getSourceInfo {s : State} {p : Port} {msg : PdMsg} (hhears : s.pdHears p = true) (hprime : msg.sopPrime = false)
    (hdouble : msg.sopDouble = false) (hchunked : msg.unchunked = false) (hready : s.pdReady p = true) :
    exec (.getSourceInfo (.down p) msg) s = .next ((s.pdNote p msg).pdSay p .sourceInfo [(s.pdNote p msg).sourceInfo p]) :=
  congrArg Host.Outcome.next (State.pdTake_answered hhears hprime hdouble hchunked hready)

/-- Refutes O22: from `unheardSourceState` the first message, of Revision 2.0, is answered with a smaller reported power. -/
theorem not_pdEnginesAnswerRequestsForInformation : ¬ Obligations.PdEnginesAnswerRequestsForInformation := by
  unfold Obligations.PdEnginesAnswerRequestsForInformation
  rintro ⟨-, -, -, -, -, -, hinfo, -⟩
  have hhears : unheardSourceState.pdHears 0 = true := by decide +kernel
  have hready : unheardSourceState.pdReady 0 = true := by decide +kernel
  obtain ⟨t, hnext, hout⟩ := hinfo 0 rev2GetSourceInfo unheardSourceState hhears rfl rfl rfl hready
  obtain ⟨hbefore, hnoted⟩ := unheardSourceState_sourceInfo
  have ht := Host.Outcome.next.inj ((exec_getSourceInfo hhears rfl rfl rfl hready).symm.trans hnext)
  rw [← ht, State.pd_pdSay, PdSt.say_out, State.pd_pdNote, hbefore, hnoted] at hout
  exact absurd hout (by decide)

end Sys2Proof.Machine

namespace Sys2Proof.Machine

/-! PROOFS. Power negotiation (O23): requests and their answers, capabilities sent and acknowledged, EPR mode and Discover Identity (R232,
R240, R241, R247, R250, R252, R259). -/

/-! ### Capabilities sent (R237, R239) -/

/-- The engine once it has sent some messages, in order. -/
def PdSt.sayAll (d : PdSt) (ms : List PdOut) : PdSt := ms.foldl PdSt.say d

theorem PdSt.sayAll_parts (d : PdSt) (ms : List PdOut) : (d.sayAll ms).out = d.out ++ ms ∧ (d.sayAll ms).offer = d.offer ∧
    (d.sayAll ms).capsSent = d.capsSent := by
  induction ms generalizing d with
  | nil => simp [PdSt.sayAll]
  | cons m ms ih =>
    obtain ⟨hout, hoffer, hsent⟩ := ih (d.say m)
    exact ⟨hout.trans (by simp), hoffer, hsent⟩

/-- The messages that an offer is sent in (R232). -/
def capsOut (epr : Bool) (words : List Word) : List PdOut :=
  if epr then [⟨false, .eprSourceCaps, words, (objBytes words).take 26⟩, ⟨false, .eprSourceCaps, [], (objBytes words).drop 26⟩]
  else [⟨false, .sourceCaps, words, []⟩]

section
variable (s : State) (p : Port)

theorem State.pd_sayCaps (epr : Bool) (words : List Word) : (s.sayCaps p epr words).pd p = (s.pd p).sayAll (capsOut epr words) := by
  unfold State.sayCaps capsOut PdSt.sayAll
  cases epr <;> simp

/-- An offer sent is the one that is derived, and counted (R237, R240). -/
theorem State.sendCaps_parts :
    ((s.sendCaps p).pd p).out = (s.pd p).out ++ capsOut (s.flag (.tcp p) F.TCP_PD_STATUS_EPR_MODE) ((s.sendCaps p).pd p).offer ∧
    ((s.sendCaps p).pd p).capsSent = (s.pd p).capsSent + 1 := by
  unfold State.sendCaps
  extract_lets epr o s1
  have hpd : (if s.pe p = 5 then s1.put (.tcp p) F.TCP_PD_CTRL_SEND_CAPS 0 else s1).pd p = s1.pd p := by
    split
    · exact State.pd_put ..
    · rfl
  have hnoted : (s.noteOffer p o epr).pd p =
      { s.pd p with offer := o.words, offerDue := false, offerNow := false, capDue := false } := by
    simp only [State.noteOffer, State.pdWith_same, State.setFlag, State.pd_put]
  obtain ⟨hout, hoffer, hsent⟩ := ((s.noteOffer p o epr).pd p).sayAll_parts (capsOut epr o.words)
  rw [hpd, State.pdWith_same, State.pd_sayCaps]
  dsimp only
  rw [hout, hoffer, hsent, hnoted]
  exact ⟨rfl, rfl⟩

/-- Away from SRC_READY an offer sent writes the offer register alone; the command SEND_CAPS stands (R263). -/
theorem State.sendCaps_writes (h : s.pe p ≠ 5) : s.WritesIn [.regs .tcp 0x98 0x98] (s.sendCaps p) := by
  unfold State.sendCaps
  extract_lets epr o s1
  have hall : [Zone.regs .tcp 0x98 0x98] ⊆ [Zone.regs .tcp 0x98 0x98] := List.Subset.refl _
  have hnote : s.WritesIn [.regs .tcp 0x98 0x98] (s.noteOffer p o epr) := by
    unfold State.noteOffer
    exact .pdWith (.put hall rfl (.setFlag hall rfl (.setFlag hall rfl (.setFlag hall rfl (.setFlag hall rfl (.put hall rfl
      (.put hall rfl (.refl s))))))))
  rw [if_neg h]
  exact .pdWith (.ite (.pdSay (.pdSay hnote)) (.pdSay hnote))

end

/-! ### Requests (R241) -/

/-- A Request that is no raise is heard: the leave of a raise before it ends (R242). -/
def State.requestHeard (s : State) (p : Port) : State := (s.pdWith p (fun d => { d with revokeWait := false })).endRaise p

section
variable {s : State} {p : Port} {rdo : Word}

theorem State.requestHeard_writes (s : State) (p : Port) : s.WritesIn Zone.budget (s.requestHeard p) :=
  .endRaise (List.Subset.refl _) (.pdWith (.refl s))

theorem State.pd_requestHeard (s : State) (p : Port) :
    (s.requestHeard p).pd p = { s.pd p with revokeWait := false, raiseGranted := false, waitSent := false } := by
  simp [State.requestHeard]

/-- The PDO that a request names is one of the last offer. -/
theorem State.readRdo_congr {t : State} (h : (t.pd p).offer = (s.pd p).offer) (rdo : Word) : t.readRdo p rdo = s.readRdo p rdo := by
  unfold State.readRdo
  rw [h]

theorem State.readRdo_requestHeard : (s.requestHeard p).readRdo p rdo = s.readRdo p rdo :=
  State.readRdo_congr (by rw [State.pd_requestHeard]) rdo

theorem State.decideRequest_unoffered (hnone : s.readRdo p rdo = none) : s.decideRequest p rdo = (s.requestHeard p).rejectReq p := by
  have hraise : s.isRaise p rdo = false := by simp [State.isRaise, hnone]
  have hread : (s.requestHeard p).readRdo p rdo = none := State.readRdo_requestHeard.trans hnone
  unfold State.requestHeard at hread ⊢
  simp only [State.decideRequest, hraise, Bool.false_eq_true, if_false, hread]

theorem State.decideRequest_fits {mv ma10 type : Nat} {w : Word} (hsome : s.readRdo p rdo = some (mv, ma10, type, w))
    (hfits : rdoFits mv ma10 type w = true) (hraise : s.isRaise p rdo = false) :
    s.decideRequest p rdo = (s.requestHeard p).acceptReq p rdo mv ma10 type w := by
  have hread : (s.requestHeard p).readRdo p rdo = some (mv, ma10, type, w) := State.readRdo_requestHeard.trans hsome
  unfold State.requestHeard at hread ⊢
  simp [State.decideRequest, hraise, hread, hfits]

theorem State.noRaise_iff : s.noRaise p rdo = true ↔ ∃ mv ma10 type w, s.readRdo p rdo = some (mv, ma10, type, w) ∧
    rdoFits mv ma10 type w = true ∧ s.isRaise p rdo = false := by
  unfold State.noRaise State.isRaise
  rcases s.readRdo p rdo with _ | ⟨mv, ma10, type, w⟩ <;> simp [and_assoc]

/-- A request rejected leaves the engine ready. -/
theorem State.rejectReq_parts (hsource : s.isSource p = true) (hcontract : s.get (.tcp p) F.TCP_PD_STATUS_CONTRACT = 1) :
    ((s.rejectReq p).pd p).out = (s.pd p).out ++ [⟨false, .reject, [], []⟩] ∧
    (s.rejectReq p).get (.tcp p) F.TCP_PD_STATUS_PE_STATE = 5 := by
  unfold State.rejectReq
  constructor
  · obtain ⟨w, b, hready⟩ := ((s.pdSay p .reject).pdWith p (fun d => { d with req := none, revokeWait := false })).pd_toReady p
    simp [hready]
  · have hflag : s.flag (.tcp p) F.TCP_PD_STATUS_CONTRACT = true := by simp [State.flag, hcontract]
    exact (State.pe_toReady ..).trans ((if_pos hsource).trans (if_pos hflag))

theorem State.acceptReq_parts (s : State) (p : Port) (rdo : Word) (mv ma10 type : Nat) (w : Word) :
    ((s.acceptReq p rdo mv ma10 type w).pd p).out = (s.pd p).out ++ [⟨false, .accept, [], []⟩] ∧
    (s.acceptReq p rdo mv ma10 type w).get (.tcp p) F.TCP_PD_STATUS_PE_STATE = 4 ∧
    ((s.acceptReq p rdo mv ma10 type w).pd p).nextRdo = rdo := by
  unfold State.acceptReq
  refine ⟨by simp, ?_, by simp⟩
  rw [State.pdWith_get, State.pe_setPe _ _ (by decide)]

end

/-! ### The commands -/

section
variable {s : State} {p : Port} {msg : PdMsg} (hhears : s.pdHears p = true) (hprime : msg.sopPrime = false)
  (hdouble : msg.sopDouble = false) (hchunked : msg.unchunked = false)
include hhears hprime hdouble hchunked

theorem exec_request (hsource : s.isSource p = true) (hpe : s.pe p = 3 ∨ (s.pe p = 5 ∧ (s.pd p).want = .none))
    (hepr : msg.epr = s.flag (.tcp p) F.TCP_PD_STATUS_EPR_MODE) :
    exec (.request (.down p) msg) s = .next ((s.pdNote p msg).decideRequest p (msg.objs.getD 0 0)) := by
  have hrule : (s.pdNote p msg).onRequest p msg = (s.pdNote p msg).decideRequest p (msg.objs.getD 0 0) := by
    refine if_pos ?_
    rw [s.pdNote_flag p msg _ _ rfl, ← hepr]
    rcases hpe with hpe | ⟨hpe, hwant⟩ <;> simp [*]
  exact congrArg Host.Outcome.next
    ((State.pdTake_heard (f := fun u => u.onRequest p msg) hhears hprime hdouble hchunked).trans hrule)

theorem exec_getSourceCap (hready : s.pdReady p = true) (hsource : s.isSource p = true) :
    exec (.getSourceCap (.down p) msg) s = .next ((s.pdNote p msg).sendCaps p) := by
  have hrule : (s.pdNote p msg).onGetSourceCap p = (s.pdNote p msg).sendCaps p := if_pos (by simpa using hsource)
  exact congrArg Host.Outcome.next ((State.pdTake_answered hhears hprime hdouble hchunked hready).trans hrule)

theorem exec_eprGetSourceCap (hready : s.pdReady p = true) (hunusable : (s.pdNote p msg).eprUsable p = false) :
    exec (.eprGetSourceCap (.down p) msg) s = .next ((s.pdNote p msg).sayNotSupported p) := by
  have hrule : (s.pdNote p msg).onEprGetSourceCap p = (s.pdNote p msg).sayNotSupported p := if_pos (by simp [hunusable])
  exact congrArg Host.Outcome.next ((State.pdTake_answered hhears hprime hdouble hchunked hready).trans hrule)

theorem exec_sourceCapabilities (hsink : s.isSource p = false) (hpe : s.pe p = 6 ∨ (s.pe p = 7 ∧ (s.pd p).want = .none)) :
    exec (.sourceCapabilities (.down p) msg) s = .next (((s.pdNote p msg).pdSay p .request [zeroRdo]).pdWith p
      (fun d => { d with want := .acceptAsSink, snkWaitVbus := false, snkFell := false })) := by
  refine congrArg Host.Outcome.next ((State.pdTake_heard hhears hprime hdouble hchunked).trans (if_pos ?_))
  rcases hpe with hpe | ⟨hpe, hwant⟩ <;> simp [State.pdReady, *]

theorem exec_eprMode (hready : s.pdReady p = true) (hsource : s.isSource p = true) :
    exec (.eprMode (.down p) msg) s = .next ((s.pdNote p msg).onEprMode p (msg.objs.getD 0 0)) := by
  refine congrArg Host.Outcome.next ((State.pdTake_answered hhears hprime hdouble hchunked hready).trans (if_pos ?_))
  simpa using hsource

theorem exec_eprKeepalive (hready : s.pdReady p = true) (hsource : s.isSource p = true)
    (hepr : s.get (.tcp p) F.TCP_PD_STATUS_EPR_MODE = 1) :
    exec (.eprKeepalive (.down p) msg) s = .next ((s.pdNote p msg).pdSay p .eprKeepAliveAck) := by
  refine congrArg Host.Outcome.next ((State.pdTake_answered hhears hprime hdouble hchunked hready).trans (if_pos ?_))
  rw [s.pdNote_flag p msg _ _ rfl, State.flag, hepr, s.pdNote_isSource, hsource]
  rfl

theorem exec_vendorDefined_identity (hready : s.pdReady p = true) (hstruct : vdmStructured (msg.objs.getD 0 0) = true)
    (htype : vdmType (msg.objs.getD 0 0) = 0) (hcmd : vdmCmd (msg.objs.getD 0 0) = 1) : exec (.vendorDefined (.down p) msg) s =
      .next ((s.pdNote p msg).pdSay p .vdm ((s.pdNote p msg).identityAck p (msg.objs.getD 0 0))) := by
  have hrule : (s.pdNote p msg).onVdm p msg.objs =
      (s.pdNote p msg).pdSay p .vdm ((s.pdNote p msg).identityAck p (msg.objs.getD 0 0)) := by
    unfold State.onVdm State.pdAnswer State.vdmRequest
    simp only [hstruct, htype, hcmd, s.pdNote_pdReady, hready]
    rfl
  exact congrArg Host.Outcome.next ((if_neg (by simp [hprime])).trans ((State.pdTake_heard hhears hprime hdouble hchunked).trans hrule))

end

section
variable {s : State} {p : Port} {m : PdMsg}

theorem exec_goodcrc (hhears : s.pdHears p = true) : exec (.goodcrc (.down p) m) s = .next ((s.pdFresh p).onGoodCrc p m) :=
  congrArg Host.Outcome.next (if_pos hhears)

theorem exec_goodcrcTimeout (hhears : s.pdHears p = true) :
    exec (.goodcrcTimeout (.down p) m) s = .next ((s.pdFresh p).onNoGoodCrc p) :=
  congrArg Host.Outcome.next (if_pos hhears)

/-- The GoodCRC of an SPR offer begins the negotiation (R240). -/
theorem State.onGoodCrc_caps (hflight : (s.pd p).flight.map (fun o => (o.sopPrime, o.kind)) = some (false, .sourceCaps))
    (hprime : m.sopPrime = false) (hdouble : m.sopDouble = false) (hepr : s.get (.tcp p) F.TCP_PD_STATUS_EPR_MODE = 0)
    (hsource : s.isSource p = true) (hqueued : (s.pd p).queued = []) (hpe : s.pe p = 2 ∨ s.pe p = 5) :
    (s.onGoodCrc p m).get (.tcp p) F.TCP_PD_STATUS_PE_STATE = 3 ∧ ((s.onGoodCrc p m).pd p).want = .request ∧
    ((s.onGoodCrc p m).pd p).idSop = (s.pd p).idSop + 1 := by
  obtain ⟨o, ho, hkind⟩ := Option.map_eq_some_iff.1 hflight
  obtain ⟨hsop, hcaps⟩ := Prod.mk.inj hkind
  have hacked : s.onGoodCrc p m = (s.pdWith p (fun d =>
      { d with flight := d.queued.head?, queued := d.queued.tail, resends := 0, idSop := d.idSop + 1 })).capsAcked p := by
    have hmode : s.flag (.tcp p) F.TCP_PD_STATUS_EPR_MODE = false := by simp [State.flag, hepr]
    have hstate : s.pe p = 2 ∨ s.pe p = 3 ∨ s.pe p = 5 := by tauto
    unfold State.onGoodCrc
    simp [ho, hsop, hcaps, hprime, hdouble, hmode, hsource, hqueued, hstate]
  rw [hacked]
  unfold State.capsAcked
  refine ⟨?_, by simp, by simp⟩
  rw [State.pdWith_get, State.pe_setPe _ _ (by decide)]

/-- A message whose GoodCRC is missing goes out again, twice at most (R232). -/
theorem State.onNoGoodCrc_resent (hflight : (s.pd p).flight.isSome = true) (hfew : (s.pd p).resends < 2) :
    ((s.onNoGoodCrc p).pd p).out = (s.pd p).out ++ (s.pd p).flight.toList ∧
    ((s.onNoGoodCrc p).pd p).resends = (s.pd p).resends + 1 := by
  obtain ⟨o, ho⟩ := Option.isSome_iff_exists.1 hflight
  unfold State.onNoGoodCrc
  simp [ho, hfew]

/-! ### EPR mode (R247) -/

theorem State.eprUsable_of_cable (h : s.eprCable p = false) : s.eprUsable p = false := by
  unfold State.eprCable at h
  unfold State.eprUsable
  simp only [Bool.and_assoc] at h ⊢
  rw [h]
  simp

theorem State.pdNote_eprCable : (s.pdNote p m).eprCable p = s.eprCable p := by
  unfold State.eprCable
  rw [s.pdNote_flag p m _ _ rfl, s.pdNote_get p m _ _ rfl, s.pdNote_get p m _ _ rfl, State.pd_pdNote]

theorem State.pdNote_eprUsable (hknown : (s.pd p).revKnown = true) : (s.pdNote p m).eprUsable p = s.eprUsable p := by
  unfold State.eprUsable State.pdFlag State.pdRev2 State.flag
  simp only [State.pdNote_get_of_known hknown, State.pdNote_compatPort, State.pd_pdNote]

/-- Enter Failed names the cable, and the engine is ready again. -/
theorem State.eprFail_parts (hsource : s.isSource p = true) (hcontract : s.get (.tcp p) F.TCP_PD_STATUS_CONTRACT = 1) (reason : Nat) :
    ((s.eprFail p reason).pd p).out = (s.pd p).out ++ [⟨false, .eprMode, [BitVec.ofNat 32 (4 * 2 ^ 24 + reason * 2 ^ 16)], []⟩] ∧
    (s.eprFail p reason).get (.tcp p) F.TCP_PD_STATUS_PE_STATE = 5 := by
  unfold State.eprFail
  constructor
  · obtain ⟨w, b, hready⟩ := (s.pdSay p .eprMode [BitVec.ofNat 32 (4 * 2 ^ 24 + reason * 2 ^ 16)]).pd_toReady p
    rw [hready]
    simp
  · have hflag : s.flag (.tcp p) F.TCP_PD_STATUS_CONTRACT = true := by simp [State.flag, hcontract]
    exact (State.pe_toReady ..).trans ((if_pos hsource).trans (if_pos hflag))

theorem State.onEprMode_cable {obj : Word} (hpe : s.pe p = 5) (hobj : obj.toNat / 2 ^ 24 = 1)
    (hcontract : s.get (.tcp p) F.TCP_PD_STATUS_CONTRACT = 1)
    (htype : s.get (.tcp p) F.TCP_CONTRACT_TYPE = 1 ∨ s.get (.tcp p) F.TCP_CONTRACT_TYPE = 2)
    (hepr : s.get (.tcp p) F.TCP_PD_STATUS_EPR_MODE = 0) (hcable : s.eprCable p = false) : s.onEprMode p obj = s.eprFail p 1 := by
  have henter : s.eprEnter p = s.eprFail p 1 := by
    unfold State.eprEnter
    rw [State.eprUsable_of_cable hcable, hcable]
    rfl
  rw [← henter]
  unfold State.onEprMode
  rw [hobj]
  simp [hpe, State.flag, hcontract, hepr, htype]

/-- A message that a Revision 3.x engine does not support (R232). -/
theorem State.sayNotSupported_out (hrev : s.pdRev2 p = false) :
    ((s.sayNotSupported p).pd p).out = (s.pd p).out ++ [⟨false, .notSupported, [], []⟩] := by
  simp [State.sayNotSupported, hrev]

end

/-- Settles O23: each command is one of the engine's shared steps from the state in which the message has been noted. -/
theorem pdEngineNegotiatesPower : Obligations.PdEngineNegotiatesPower := by
  unfold Obligations.PdEngineNegotiatesPower
  refine ⟨fun p msg s hhears hprime hdouble hchunked hsource hpe hepr hnone hcontract =>
      ⟨_, exec_request hhears hprime hdouble hchunked hsource hpe hepr, ?rejected⟩,
    fun p msg s hhears hprime hdouble hchunked hsource hpe hepr hno =>
      ⟨_, exec_request hhears hprime hdouble hchunked hsource hpe hepr, ?accepted⟩,
    fun p msg s hhears hprime hdouble hchunked hready hsource =>
      ⟨_, exec_getSourceCap hhears hprime hdouble hchunked hready hsource, ?offered⟩,
    fun p msg s hhears hprime hdouble hchunked hready hunusable hrev hknown =>
      ⟨_, exec_eprGetSourceCap hhears hprime hdouble hchunked hready ((State.pdNote_eprUsable hknown).trans hunusable), ?unsupported⟩,
    fun p msg s hhears hprime hdouble hchunked hsink hpe =>
      ⟨_, exec_sourceCapabilities hhears hprime hdouble hchunked hsink hpe, by simp, by simp⟩,
    fun p msg s hhears hprime hdouble hchunked hflight hepr hsource hqueued hpe =>
      ⟨_, exec_goodcrc hhears, ?acked⟩,
    fun p msg s hhears hprime hdouble hchunked hflight hfew => ⟨_, exec_goodcrcTimeout hhears, ?resent⟩,
    fun p msg s hhears hprime hdouble hchunked hready hsource hpe hobj hcontract htype hepr hcable =>
      ⟨_, exec_eprMode hhears hprime hdouble hchunked hready hsource, ?entry⟩,
    fun p msg s hhears hprime hdouble hchunked hready hsource hepr =>
      ⟨_, exec_eprKeepalive hhears hprime hdouble hchunked hready hsource hepr, by simp⟩,
    fun p msg s hhears hprime hdouble hchunked hready hstruct htype hcmd =>
      ⟨_, exec_vendorDefined_identity hhears hprime hdouble hchunked hready hstruct htype hcmd, by simp⟩⟩
  case rejected =>
    have hread : (s.pdNote p msg).readRdo p (msg.objs.getD 0 0) = none := (State.readRdo_congr (by simp) _).trans hnone
    have hheard := (s.pdNote p msg).requestHeard_writes p
    obtain ⟨hout, hpe'⟩ := State.rejectReq_parts (s := (s.pdNote p msg).requestHeard p)
      ((hheard.isSource p rfl).trans (by simpa using hsource))
      ((hheard.get _ _ rfl).trans ((s.pdNote_get p msg _ _ rfl).trans hcontract))
    rw [State.decideRequest_unoffered hread]
    exact ⟨hout.trans (by simp [State.pd_requestHeard]), hpe'⟩
  case accepted =>
    obtain ⟨mv, ma10, type, w, hread, hfits, hraise⟩ := State.noRaise_iff.1 hno
    have hread' : (s.pdNote p msg).readRdo p (msg.objs.getD 0 0) = some (mv, ma10, type, w) :=
      (State.readRdo_congr (by simp) _).trans hread
    have hraise' : (s.pdNote p msg).isRaise p (msg.objs.getD 0 0) = false := by
      rw [← hraise]
      simp only [State.isRaise, hread, hread', s.pdNote_present]
    rw [State.decideRequest_fits hread' hfits hraise']
    obtain ⟨hout, hpe', hrdo⟩ := ((s.pdNote p msg).requestHeard p).acceptReq_parts p (msg.objs.getD 0 0) mv ma10 type w
    exact ⟨hout.trans (by simp [State.pd_requestHeard]), hpe', hrdo⟩
  case offered =>
    obtain ⟨hout, -⟩ := (s.pdNote p msg).sendCaps_parts p
    rw [hout, s.pdNote_flag p msg _ _ rfl, State.pd_pdNote]
    rfl
  case unsupported => exact (State.sayNotSupported_out (State.pdNote_rev3 hrev hknown)).trans (by simp)
  case acked =>
    simpa using State.onGoodCrc_caps (s := s.pdFresh p) (p := p) (by simpa using hflight) hprime hdouble hepr hsource
      (by simpa using hqueued) hpe
  case resent => simpa using State.onNoGoodCrc_resent (s := s.pdFresh p) (p := p) (by simpa using hflight) (by simpa using hfew)
  case entry =>
    rw [State.onEprMode_cable (s := s.pdNote p msg) (by simpa using hpe) hobj ((s.pdNote_get p msg _ _ rfl).trans hcontract)
      (by rwa [s.pdNote_get p msg (.tcp p) F.TCP_CONTRACT_TYPE rfl]) ((s.pdNote_get p msg _ _ rfl).trans hepr)
      (State.pdNote_eprCable.trans hcable)]
    obtain ⟨hout, hpe'⟩ := State.eprFail_parts (s := s.pdNote p msg) (p := p) (by simpa using hsource)
      ((s.pdNote_get p msg _ _ rfl).trans hcontract) 1
    exact ⟨hout.trans (by simp), hpe'⟩

end Sys2Proof.Machine

namespace Sys2Proof.Machine

/-! PROOFS. Swaps and resets of the PD engine (O24): soft and hard resets, which swaps are answered how, and the answers to the engine's own
swaps (R250, R252, R253, R255–R258). -/

/-! ### Capabilities from the start (R240, R256) -/

section
variable (s : State) (p : Port)

theorem State.startCaps_parts : (s.startCaps p).get (.tcp p) F.TCP_PD_STATUS_PE_STATE = 2 ∧ ((s.startCaps p).pd p).capsSent = 1 ∧
    (∃ caps, ((s.startCaps p).pd p).out = (s.pd p).out ++ caps) ∧
    s.WritesIn ([.field .tcp F.TCP_PD_STATUS_PE_STATE, .regs .tcp 0x98 0x98] ++ Zone.rp) (s.startCaps p) := by
  unfold State.startCaps
  generalize hu : (s.setPe p 2).pdWith p (fun d => { d with capsSent := 0, want := .none, sinkTx := false }) = u
  have hput : s.WritesIn [.field .tcp F.TCP_PD_STATUS_PE_STATE] u := hu ▸ .pdWith (.put (List.Subset.refl _) rfl (.refl s))
  have hpd : u.pd p = { s.pd p with capsSent := 0, want := .none, sinkTx := false } := by simp [← hu]
  have hpe : u.pe p = 2 := by
    rw [← hu, State.pe, State.pdWith_get, State.pe_setPe _ _ (by decide)]
  have hsent := u.sendCaps_writes p (by rw [hpe]; decide)
  have hwrites : u.WritesIn (.regs .tcp 0x98 0x98 :: Zone.rp) ((u.sendCaps p).rpApply p) := .rpApply (by decide) (hsent.mono (by decide))
  obtain ⟨hout, hcount⟩ := u.sendCaps_parts p
  rw [State.pd_rpApply, hout, hcount, hpd]
  exact ⟨(hwrites.get _ _ rfl).trans hpe, rfl, ⟨_, rfl⟩, (hput.mono (by decide)).trans (hwrites.mono (by decide))⟩

end

/-! ### A soft reset (R256) -/

/-- A Soft_Reset heard and accepted. -/
def State.softHeard (s : State) (p : Port) : State :=
  ((((s.endRaise p).put (.tcp p) F.TCP_PD_CTRL_SOFT_RESET 0).noteSoft p false).pdWith p (fun d =>
    { d with flight := none, queued := [], want := .none, req := none, modeStep := 0, swapOwn := false, sinkTx := false })).pdSay p .accept

/-- What a soft reset writes before the engine goes on (R242, R263, R264). -/
def Zone.soft : List Zone := [.field .tcp F.TCP_PD_CTRL_SOFT_RESET, .field .tcp F.TCP_PD_CNT_SOFT_RESETS] ++ Zone.budget

section
variable {s : State} {p : Port}

theorem State.pd_noteSoft (s : State) (p : Port) (sent : Bool) : (s.noteSoft p sent).pd p = { s.pd p with idSop := 0 } := by
  simp only [State.noteSoft, State.pdWith_same, State.pd_raisePort, State.count, State.countBy, State.pd_put]

theorem State.WritesIn.noteSoft {W : List Zone} {was : State} {sent : Bool} (hW : Zone.soft ⊆ W) (h : was.WritesIn W s) :
    was.WritesIn W (s.noteSoft p sent) :=
  .pdWith (.raisePort (.count hW rfl h))

theorem State.softHeard_writes (s : State) (p : Port) : s.WritesIn Zone.soft (s.softHeard p) := by
  exact .pdSay (.pdWith (.noteSoft (List.Subset.refl _) (.put (List.Subset.refl _) rfl (.endRaise (by decide) (.refl s)))))

theorem State.pd_softHeard (s : State) (p : Port) :
    ((s.softHeard p).pd p).out = (s.pd p).out ++ [⟨false, .accept, [], []⟩] ∧ ((s.softHeard p).pd p).idSop = 0 := by
  simp [State.softHeard, State.pd_noteSoft]

theorem State.onSoftReset_heard (hpe : s.pe p ≠ 4) (hpower : (s.pd p).swapPower = false) :
    s.onSoftReset p = (s.softHeard p).softDone p :=
  if_neg (by simp [hpe, hpower])

/-- A sink waits for capabilities after a soft reset, a source sends them. -/
theorem State.softDone_sink (hsink : s.isSource p = false) : (s.softDone p).get (.tcp p) F.TCP_PD_STATUS_PE_STATE = 6 ∧
    (s.softDone p).pd p = { s.pd p with want := .none, swapPower := false } := by
  have hdone : s.softDone p = (s.setPe p 6).pdWith p (fun d => { d with want := .none, swapPower := false }) :=
    if_neg (by simp [hsink])
  rw [hdone, State.pdWith_same, State.pdWith_get, State.pe_setPe _ _ (by decide)]
  exact ⟨rfl, rfl⟩

theorem State.softDone_source (hsource : s.isSource p = true) : s.softDone p = s.startCaps p := if_pos hsource

end

/-! ### A hard reset (R257, R258) -/

/-- A hard reset counted and recorded, with the swap that it ends. -/
def State.hardNoted (s : State) (p : Port) (sent : Bool) (reason : Nat) : State :=
  let n := s.get (.tcp p) F.TCP_PD_STATUS_HR_CONSEC + 1
  let s1 := (s.put (.tcp p) F.TCP_PD_STATUS_HR_CONSEC n).countErr (.tcp p) p F.TCP_PD_CNT_HARD_RESETS
  let s2 := (s1.raisePort (.tcp p) p evHardReset (bit sent + 2 * reason + 32 * n)).swapBroken p
  ((if sent then s2.pdSay p .hardReset else s2).put (.tcp p) F.TCP_PD_STATUS_SPEC_REV 2).pdWith p (fun d =>
    { d with revKnown := false, modeTries := 0 })

/-- What a source then does: it ends its activity and cycles VBUS. -/
def State.sourceReset (s : State) (p : Port) : State :=
  ((((s.pdEnd p 2 2).put (.tcp p) F.TCP_PD_STATUS_DATA_ROLE 0).setPe p 13).pdWith p (fun d => { d with hrPhase := 1 })).rpApply p

/-- What a sink then does: it opens a switch of its own and waits for VBUS. -/
def State.sinkReset (s : State) (p : Port) : State :=
  let s1 := if 1 ≤ s.vbsStt p ∧ s.vbsStt p ≤ 4 then s.vbsOpen p 5 else s
  (((s1.pdEnd p 2 2).put (.tcp p) F.TCP_PD_STATUS_POWER_ROLE 1).put (.tcp p) F.TCP_PD_STATUS_DATA_ROLE 1).setPe p 6
    |>.pdWith p (fun d => { d with snkWaitVbus := true })

/-- What the record of a hard reset writes (R264). -/
def Zone.hardNote : List Zone :=
  [.field .tcp F.TCP_PD_STATUS_HR_CONSEC, .field .tcp F.TCP_PD_STATUS_SPEC_REV, .field .tcp F.TCP_PD_CNT_HARD_RESETS,
    .regs .hlt 0x7C 0x80]

section
variable {s : State} {p : Port} {sent : Bool} {reason : Nat}

theorem State.WritesIn.swapBroken {W : List Zone} {was : State} (h : was.WritesIn W s) : was.WritesIn W (s.swapBroken p) := by
  unfold State.swapBroken State.swapEvent
  split
  · exact .pdWith (.raisePort h)
  · exact .raisePort h
  · exact .raisePort h
  · exact .raisePort h
  · exact h

theorem State.out_swapBroken (s : State) (p : Port) : ((s.swapBroken p).pd p).out = (s.pd p).out := by
  unfold State.swapBroken
  split <;> simp

theorem State.hardNoted_writes (s : State) (p : Port) (sent : Bool) (reason : Nat) :
    s.WritesIn Zone.hardNote (s.hardNoted p sent reason) := by
  unfold State.hardNoted
  extract_lets n s1 s2
  have h2 : s.WritesIn Zone.hardNote s2 := .swapBroken (.raisePort (.countErr (List.Subset.refl _) rfl (by decide)
    (.put (List.Subset.refl _) rfl (.refl s))))
  exact .pdWith (.put (List.Subset.refl _) rfl (.ite (.pdSay h2) h2))

theorem State.out_hardNoted (s : State) (p : Port) (sent : Bool) (reason : Nat) : ((s.hardNoted p sent reason).pd p).out =
    (s.pd p).out ++ (if sent then [⟨false, .hardReset, [], []⟩] else []) := by
  unfold State.hardNoted
  extract_lets n s1 s2
  have h1 : s1.pd p = s.pd p := (State.KeepsBut.countErr (M := []) (.put (.refl s))).pd (by decide) p
  have h2 : (s2.pd p).out = (s.pd p).out := by rw [State.out_swapBroken, State.pd_raisePort, h1]
  cases sent <;> simp [h2]

/-- The branches of a hard reset that neither comes too often nor meets a Fast Role Swap. -/
theorem State.hardReset_eq (hquiet : ([0, 13, 14] : List Nat).contains (s.pe p) = false)
    (hfew : s.get (.tcp p) F.TCP_PD_STATUS_HR_CONSEC < 2) (hfast : s.pe p ≠ 9) : s.hardReset p sent reason =
      if s.isSource p && s.pe p != 8 then (s.hardNoted p sent reason).sourceReset p else (s.hardNoted p sent reason).sinkReset p := by
  unfold State.hardReset
  extract_lets pg n s1 s2 s3 source s4 s5
  have h2 : s.WritesIn Zone.hardNote s2 :=
    .raisePort (.countErr (List.Subset.refl _) rfl (by decide) (.put (List.Subset.refl _) rfl (.refl s)))
  have h3 : s.WritesIn Zone.hardNote s3 := .swapBroken h2
  have hsource : source = (s.isSource p && s.pe p != 8) := by simp only [source, h3.isSource p rfl, h3.pe p rfl]
  rw [if_neg (by simpa using hquiet), if_neg (by simp only [pg]; omega), if_neg (by rwa [h2.pe p rfl]), hsource]
  rfl

/-- The third in a row ends PD until the detach (R257). -/
theorem State.hardReset_gives_up (hquiet : ([0, 13, 14] : List Nat).contains (s.pe p) = false)
    (hmany : 2 ≤ s.get (.tcp p) F.TCP_PD_STATUS_HR_CONSEC) : s.hardReset p sent reason = s.pdOff p :=
  (if_neg (by simpa using hquiet)).trans (if_pos hmany)

theorem State.pe_pdOff (s : State) (p : Port) : (s.pdOff p).get (.tcp p) F.TCP_PD_STATUS_PE_STATE = 14 := by
  unfold State.pdOff
  extract_lets s1 s2
  have h1 : s1.get (.tcp p) F.TCP_PD_STATUS_PE_STATE = 14 := by
    rw [State.pdWith_get, State.pe_setPe _ _ (by decide)]
  have h2 : s1.WritesIn ([.field .vbs F.VBS_STATUS_STATE, .field .vbs F.VBS_TARGET_TARGET_MV] ++ Zone.rp) s2 :=
    .ite (.put (List.Subset.refl _) rfl (.put (List.Subset.refl _) rfl (.refl s1))) (.refl s1)
  exact ((h2.rpApply (p := p) (by decide)).get _ _ rfl).trans h1

/-- The end of PD activity ends the contract and EPR mode. -/
theorem State.pdEnd_contract (s : State) (p : Port) (modeCause muxCause : Nat) :
    (s.pdEnd p modeCause muxCause).get (.tcp p) F.TCP_PD_STATUS_CONTRACT = 0 ∧
    (s.pdEnd p modeCause muxCause).get (.tcp p) F.TCP_PD_STATUS_EPR_MODE = 0 := by
  unfold State.pdEnd
  extract_lets s1
  generalize hu : (((s.modeExit p modeCause muxCause).endRaise p).endReserve p).put (.tcp p) F.TCP_PD_STATUS_CONTRACT 0 = u
  have hrest : (u.put (.tcp p) F.TCP_PD_STATUS_EPR_MODE 0).WritesIn [.regs .tcp 0x84 0x88, .field .tcp F.TCP_PD_CTRL_SOFT_RESET] s1 :=
    hu ▸ .put (List.Subset.refl _) rfl (.wr (List.Subset.refl _) rfl (.wr (List.Subset.refl _) rfl (.refl _)))
  rw [State.pdWith_get, State.pdWith_get, hrest.get _ _ rfl, hrest.get _ _ rfl, State.get_put_bits _ _ _ _ _ (by decide), ← hu,
    State.get_put_fits _ _ _ _ (by decide) (by decide), State.get_put_fits _ _ _ _ (by decide) (by decide)]
  exact ⟨rfl, rfl⟩

end

/-- A hard reset of a source has begun: VBUS is about to be cycled, and no contract stands (R257). -/
structure State.ResetAsSource (p : Port) (sent : Bool) (s t : State) : Prop where
  pe : t.get (.tcp p) F.TCP_PD_STATUS_PE_STATE = 13
  contract : t.get (.tcp p) F.TCP_PD_STATUS_CONTRACT = 0
  epr : t.get (.tcp p) F.TCP_PD_STATUS_EPR_MODE = 0
  role : t.get (.tcp p) F.TCP_PD_STATUS_DATA_ROLE = 0
  phase : (t.pd p).hrPhase = 1
  revoke : (t.pd p).revokeWait = false
  out : (t.pd p).out = (s.pd p).out ++ (if sent then [⟨false, .hardReset, [], []⟩] else [])
  writes : s.WritesIn (Zone.hardNote ++ Zone.pdEnd ++ Zone.rp) t

theorem State.hardReset_source {s : State} {p : Port} (hquiet : ([0, 13, 14] : List Nat).contains (s.pe p) = false)
    (hfew : s.get (.tcp p) F.TCP_PD_STATUS_HR_CONSEC < 2) (hsource : s.isSource p = true) (hswap : s.pe p ≠ 8) (hfast : s.pe p ≠ 9)
    (sent : Bool) (reason : Nat) : s.ResetAsSource p sent (s.hardReset p sent reason) := by
  rw [State.hardReset_eq hquiet hfew hfast, if_pos (by simp [hsource, hswap])]
  have hnote := s.hardNoted_writes p sent reason
  have hout := s.out_hardNoted p sent reason
  obtain ⟨hcontract, hepr⟩ := (s.hardNoted p sent reason).pdEnd_contract p 2 2
  generalize s.hardNoted p sent reason = u at hnote hout hcontract hepr ⊢
  unfold State.sourceReset
  generalize hv : ((((u.pdEnd p 2 2).put (.tcp p) F.TCP_PD_STATUS_DATA_ROLE 0).setPe p 13).pdWith p (fun d => { d with hrPhase := 1 })) = v
  have hend : (u.pdEnd p 2 2).WritesIn [.field .tcp F.TCP_PD_STATUS_DATA_ROLE, .field .tcp F.TCP_PD_STATUS_PE_STATE] v := by
    rw [← hv]
    exact .pdWith (.put (List.Subset.refl _) rfl (.put (List.Subset.refl _) rfl (.refl _)))
  have hpe : v.get (.tcp p) F.TCP_PD_STATUS_PE_STATE = 13 := by
    rw [← hv, State.pdWith_get, State.pe_setPe _ _ (by decide)]
  have hrole : v.get (.tcp p) F.TCP_PD_STATUS_DATA_ROLE = 0 := by
    rw [← hv, State.pdWith_get, State.setPe, State.get_put_bits _ _ _ _ _ (by decide)]
    exact State.get_put_fits _ _ _ _ (by decide) (by decide)
  have hpd : v.pd p = { (u.pd p).ended with hrPhase := 1 } := by
    rw [← hv, State.pdWith_same, State.pd_setPe, State.pd_put, State.pd_pdEnd]
  have hlast : v.WritesIn Zone.rp (v.rpApply p) := .rpApply (List.Subset.refl _) (.refl v)
  have hall : u.WritesIn (Zone.pdEnd ++ Zone.rp) v := by
    rw [← hv]
    exact .pdWith (.put (L := Zone.pdEnd) (by decide) rfl (.put (L := Zone.pdEnd) (by decide) rfl (.pdEnd (by decide) (.refl u))))
  exact {
    pe := (hlast.get _ _ rfl).trans hpe
    contract := (hlast.get _ _ rfl).trans ((hend.get _ _ rfl).trans hcontract)
    epr := (hlast.get _ _ rfl).trans ((hend.get _ _ rfl).trans hepr)
    role := (hlast.get _ _ rfl).trans hrole
    phase := by rw [State.pd_rpApply, hpd]
    revoke := by rw [State.pd_rpApply, hpd]; rfl
    out := by rw [State.pd_rpApply, hpd]; exact hout
    writes := (hnote.mono (by decide)).trans ((hall.mono (by decide)).trans (hlast.mono (by decide))) }

/-! ### Swaps (R253, R255) -/

section
variable {s : State} {p : Port}

/-- DR_Swap accepted: the port is DFP from then on. -/
theorem State.onDrSwap_accepts (hrole : s.flag (.tcp p) F.TCP_PD_STATUS_DATA_ROLE = true) :
    ((s.onDrSwap p).pd p).out = (s.pd p).out ++ [⟨false, .accept, [], []⟩] ∧
    (s.onDrSwap p).get (.tcp p) F.TCP_PD_STATUS_DATA_ROLE = 0 := by
  unfold State.onDrSwap State.becomeDfp
  rw [if_pos hrole]
  generalize hu : ((s.pdSay p .accept).put (.tcp p) F.TCP_PD_STATUS_DATA_ROLE 0) = u
  dsimp only
  generalize hv : ((u.laneMux p true).pdWith p (fun d => { d with want := .none })).usbEval p = v
  have husb : u.WritesIn Zone.usb v := hv ▸ .usbEval (List.Subset.refl _) (.pdWith (.laneMux (List.Subset.refl _) (.refl u)))
  have hkeep : ((u.laneMux p true).pdWith p (fun d => { d with want := .none })).KeepsBut
      [.freeCount, .u2pSt, .sspSt, .upLink, .lheSt, .fifos, .graver] v := hv ▸ .usbEval (List.Subset.refl _) (.refl _)
  have hmux : u.KeepsBut [] (u.laneMux p true) := .laneMux (.refl u)
  constructor
  · rw [State.pd_swapEvent, State.pdWith_same, hkeep.pd (by decide), State.pdWith_same, hmux.pd (by decide), ← hu, State.pd_put,
      State.pd_pdSay]
    rfl
  · have hevent : v.WritesIn Zone.usb ((v.pdWith p (fun d => { d with swapOwn := false })).swapEvent p 1 0) :=
      .swapEvent (.pdWith (.refl v))
    rw [hevent.get _ _ rfl, husb.get _ _ rfl, ← hu]
    exact State.get_put_fits _ _ _ _ (by decide) (by decide)

/-- VCONN_Swap accepted by the VCONN source: the partner's PS_RDY is awaited. -/
theorem State.onVconnSwap_accepts (hsource : s.isSource p = true) (hfull : isFullPort p = true) (hcompat : s.compat = false)
    (hown : s.flag (.tcp p) F.TCP_PD_STATUS_VCONN_SRC = true) (haccept : s.flag (.tcp p) F.TCP_PD_POLICY_ACCEPT_VCS = true) :
    s.onVconnSwap p = ((s.pdSay p .accept).setPe p 10).pdWith p (fun d =>
      { d with want := .psRdy, swapOwn := false, swapPower := true }) := by
  have htake : s.pdFlag p F.TCP_PD_POLICY_ACCEPT_VCS = true := by simp [State.pdFlag, haccept, State.compatPort, hcompat]
  unfold State.onVconnSwap
  simp [hsource, hfull, hcompat, hown, htake]

theorem State.onVconnSwap_rejects (h : s.isSource p = false ∨ isFullPort p = false) : s.onVconnSwap p = s.pdSay p .reject := by
  unfold State.onVconnSwap
  rcases h with h | h <;> simp [h]

/-- A power swap of the engine's own refused counts as an attempt, and the sink is ready again while it has some left (R253). -/
theorem State.onRefusal_of_power (num outcome : Nat) (hwant : (s.pd p).want = .swapAnswer) (hpe : s.pe p = 8)
    (hfew : (s.pd p).prTries < 2) : (s.onRefusal p num outcome).get (.tcp p) F.TCP_PD_STATUS_PE_STATE = 7 ∧
      ((s.onRefusal p num outcome).pd p).prTries = (s.pd p).prTries + 1 ∧ ((s.onRefusal p num outcome).pd p).want = .none := by
  have hleft : ¬ 3 ≤ (s.pd p).prTries + 1 := by omega
  have hrefused : s.onRefusal p num outcome = ((s.pdWith p (fun d => { d with prTries := (s.pd p).prTries + 1, want := .none })).pdWith p
      (fun d => { d with swapOwn := false })).setPe p 7 := by
    unfold State.onRefusal State.swapRefused State.swapTried
    simp [hwant, hpe, hleft]
  rw [hrefused, State.pe_setPe _ _ (by decide)]
  exact ⟨rfl, by simp, by simp⟩

/-- A contract as sink at zero draw (R252). -/
theorem State.sinkContract_parts (s : State) (p : Port) : (s.sinkContract p).get (.tcp p) F.TCP_PD_STATUS_PE_STATE = 7 ∧
    (s.sinkContract p).get (.tcp p) F.TCP_PD_STATUS_CONTRACT = 1 ∧ (s.sinkContract p).get (.tcp p) F.TCP_CONTRACT_V_MV = 5000 ∧
    (s.sinkContract p).get (.tcp p) F.TCP_CONTRACT_I_10MA = 0 := by
  unfold State.sinkContract
  extract_lets pg s1 s2
  generalize hu : s2.raisePort pg p evContract (1 + 16 + 256) = u
  have hraised : s2.WritesIn [] u := hu ▸ .raisePort (.refl s2)
  generalize ht : (((u.setPe p 7).pdWith p (fun d => { d with want := .none })).frsEval p).frsAsk p = t
  have hfrs : (u.setPe p 7).WritesIn [.field .tcp F.TCP_PD_STATUS_FRS_ARMED] t := by
    have heval : (u.setPe p 7).WritesIn [.field .tcp F.TCP_PD_STATUS_FRS_ARMED]
        (((u.setPe p 7).pdWith p (fun d => { d with want := .none })).frsEval p) :=
      .setFlag (List.Subset.refl _) rfl (.pdWith (.refl _))
    exact ht ▸ .ite (.pdWith (.pdSay heval)) heval
  have hready : s2.WritesIn [.field .tcp F.TCP_PD_STATUS_PE_STATE] (u.setPe p 7) :=
    .put (List.Subset.refl _) rfl (hraised.mono (by decide))
  have hafter : s2.WritesIn [.field .tcp F.TCP_PD_STATUS_PE_STATE, .field .tcp F.TCP_PD_STATUS_FRS_ARMED] t :=
    (hready.mono (by decide)).trans (hfrs.mono (by decide))
  rw [hfrs.get _ _ rfl, u.pe_setPe p (by decide), hafter.get _ _ rfl, hafter.get _ _ rfl, hafter.get _ _ rfl]
  simp (disch := decide) only [s2, s1, pg, State.get_put_off, State.get_put_bits, State.get_put_fits, and_self]

end

/-! ### The commands -/

section
variable {s : State} {p : Port} {msg : PdMsg} (hhears : s.pdHears p = true) (hprime : msg.sopPrime = false)
  (hdouble : msg.sopDouble = false) (hchunked : msg.unchunked = false)
include hhears hprime hdouble hchunked

theorem exec_drSwap (hready : s.pdReady p = true) : exec (.drSwap (.down p) msg) s = .next ((s.pdNote p msg).onDrSwap p) :=
  congrArg Host.Outcome.next (State.pdTake_answered hhears hprime hdouble hchunked hready)

theorem exec_vconnSwap (hready : s.pdReady p = true) : exec (.vconnSwap (.down p) msg) s = .next ((s.pdNote p msg).onVconnSwap p) :=
  congrArg Host.Outcome.next (State.pdTake_answered hhears hprime hdouble hchunked hready)

theorem exec_softReset (hpe : s.pe p ≠ 4) (hpower : (s.pd p).swapPower = false) :
    exec (.softReset (.down p) msg) s = .next (((s.pdNote p msg).softHeard p).softDone p) :=
  congrArg Host.Outcome.next ((State.pdTake_heard hhears hprime hdouble hchunked).trans
    (State.onSoftReset_heard (by simpa using hpe) (by simpa using hpower)))

theorem exec_accept : exec (.accept (.down p) msg) s = .next ((s.pdNote p msg).onAccept p) :=
  congrArg Host.Outcome.next (State.pdTake_heard hhears hprime hdouble hchunked)

theorem exec_reject : exec (.reject (.down p) msg) s = .next ((s.pdNote p msg).onRefusal p 4 1) :=
  congrArg Host.Outcome.next (State.pdTake_heard hhears hprime hdouble hchunked)

theorem exec_waitMsg : exec (.waitMsg (.down p) msg) s = .next ((s.pdNote p msg).onRefusal p 12 2) :=
  congrArg Host.Outcome.next (State.pdTake_heard hhears hprime hdouble hchunked)

theorem exec_psRdy_sink (hwant : (s.pd p).want = .psRdy) (hpe : s.pe p = 6 ∨ s.pe p = 7) :
    exec (.psRdy (.down p) msg) s = .next ((s.pdNote p msg).sinkContract p) := by
  have hrule : (s.pdNote p msg).onPsRdy p = (s.pdNote p msg).sinkContract p := by
    unfold State.onPsRdy
    rcases hpe with hpe | hpe <;> simp [hwant, hpe]
  exact congrArg Host.Outcome.next ((State.pdTake_heard hhears hprime hdouble hchunked).trans hrule)

end

section
variable {s : State} {p : Port} {msg : PdMsg}

theorem State.pdHears_quiet (h : s.pdHears p = true) : ([0, 13, 14] : List Nat).contains (s.pe p) = false := by
  simp only [State.pdHears, Bool.and_eq_true, Bool.not_eq_true'] at h
  exact h.2

/-- A Hard_Reset heard, as the engine takes it. -/
def State.hardHeard (s : State) (p : Port) : State := (s.pdFresh p).pdWith p (fun d => { d with partnerPd := true })

theorem exec_hardReset (hhears : s.pdHears p = true) (hprime : msg.sopPrime = false) (hdouble : msg.sopDouble = false) :
    exec (.hardReset (.down p) msg) s = .next ((s.hardHeard p).hardReset p false 0) :=
  congrArg Host.Outcome.next (if_pos (by simp [hhears, hprime, hdouble]))

end

/-- Settles O24: each command is one of the engine's shared steps, and what it leaves of the state and the roles stands through what
follows it (`State.WritesIn`). -/
theorem pdEngineRunsSwapsAndResets : Obligations.PdEngineRunsSwapsAndResets := by
  unfold Obligations.PdEngineRunsSwapsAndResets
  refine ⟨fun p msg s hhears hprime hdouble hchunked hready hrole =>
      ⟨_, exec_drSwap hhears hprime hdouble hchunked hready, ?dfp⟩,
    fun p msg s hhears hprime hdouble hchunked hready hrole => ⟨_, exec_drSwap hhears hprime hdouble hchunked hready, ?ufp⟩,
    fun p msg s hhears hprime hdouble hchunked hready hsource hfull hcompat hown haccept =>
      ⟨_, exec_vconnSwap hhears hprime hdouble hchunked hready, ?vconn⟩,
    fun p msg s hhears hprime hdouble hchunked hready hno =>
      ⟨_, exec_vconnSwap hhears hprime hdouble hchunked hready, ?noVconn⟩,
    fun p msg s hhears hprime hdouble hchunked hpe hpower hsink =>
      ⟨_, exec_softReset hhears hprime hdouble hchunked hpe hpower, ?softSink⟩,
    fun p msg s hhears hprime hdouble hchunked hpe hpower hsource =>
      ⟨_, exec_softReset hhears hprime hdouble hchunked hpe hpower, ?softSource⟩,
    fun p msg s hhears hprime hdouble hchunked hfew hsource hswap hfast => ⟨_, exec_hardReset hhears hprime hdouble, ?hard⟩,
    fun p msg s hhears hprime hdouble hchunked hmany => ⟨_, exec_hardReset hhears hprime hdouble, ?tooMany⟩,
    fun p msg s hhears hprime hdouble hchunked hwant => ⟨_, exec_accept hhears hprime hdouble hchunked, ?sinkAccept⟩,
    fun p msg s hhears hprime hdouble hchunked hwant hpe => ⟨_, exec_accept hhears hprime hdouble hchunked, ?swapAccept⟩,
    fun p msg s hhears hprime hdouble hchunked hwant hpe hfew => ⟨_, exec_reject hhears hprime hdouble hchunked, ?refused⟩,
    fun p msg s hhears hprime hdouble hchunked hwant hpe hfew => ⟨_, exec_waitMsg hhears hprime hdouble hchunked, ?delayed⟩,
    fun p msg s hhears hprime hdouble hchunked hwant hpe => ⟨_, exec_psRdy_sink hhears hprime hdouble hchunked hwant hpe,
      (s.pdNote p msg).sinkContract_parts p⟩⟩
  case dfp =>
    have hflag : (s.pdNote p msg).flag (.tcp p) F.TCP_PD_STATUS_DATA_ROLE = false :=
      (s.pdNote_flag p msg _ _ rfl).trans (by simp [State.flag, hrole])
    have hreject : (s.pdNote p msg).onDrSwap p = (s.pdNote p msg).pdSay p .reject := if_neg (by simp [hflag])
    rw [hreject]
    simp
  case ufp =>
    obtain ⟨hout, hdfp⟩ := State.onDrSwap_accepts (s := s.pdNote p msg) (p := p)
      ((s.pdNote_flag p msg _ _ rfl).trans (by simp [State.flag, hrole]))
    exact ⟨hout.trans (by simp), hdfp⟩
  case vconn =>
    rw [State.onVconnSwap_accepts (s := s.pdNote p msg) (by simpa using hsource) hfull ((s.pdNote_flag p msg _ _ rfl).trans hcompat)
      ((s.pdNote_flag p msg _ _ rfl).trans (by simp [State.flag, hown]))
      ((s.pdNote_flag p msg _ _ rfl).trans (by simp [State.flag, haccept])), State.pdWith_get, State.pe_setPe _ _ (by decide)]
    exact ⟨by simp, rfl, by simp⟩
  case noVconn =>
    rw [State.onVconnSwap_rejects (by simpa using hno)]
    simp
  case softSink =>
    have hrole := ((s.pdNote p msg).softHeard_writes p).isSource p rfl
    obtain ⟨hpe', hpd⟩ := State.softDone_sink (hrole.trans (by simpa using hsink))
    obtain ⟨hout, hid⟩ := (s.pdNote p msg).pd_softHeard p
    rw [hpd]
    exact ⟨hpe', by simp [hout], hid⟩
  case softSource =>
    have hrole := ((s.pdNote p msg).softHeard_writes p).isSource p rfl
    obtain ⟨hpe', -, ⟨caps, hcaps⟩, -⟩ := ((s.pdNote p msg).softHeard p).startCaps_parts p
    obtain ⟨hout, -⟩ := (s.pdNote p msg).pd_softHeard p
    rw [State.softDone_source (hrole.trans (by simpa using hsource))]
    exact ⟨hpe', by simp [hcaps, hout]⟩
  case hard =>
    have hreset := State.hardReset_source (s := s.hardHeard p) (State.pdHears_quiet hhears) hfew hsource hswap hfast false 0
    exact ⟨hreset.pe, hreset.phase, hreset.contract, hreset.role⟩
  case tooMany =>
    rw [State.hardReset_gives_up (s := s.hardHeard p) (State.pdHears_quiet hhears) hmany]
    exact (s.hardHeard p).pe_pdOff p
  case sinkAccept => simp [State.onAccept, hwant]
  case swapAccept => simp [State.onAccept, hwant, hpe]
  case refused =>
    simpa using State.onRefusal_of_power (s := s.pdNote p msg) (p := p) 4 1 (by simpa using hwant) (by simpa using hpe)
      (by simpa using hfew)
  case delayed =>
    simpa using State.onRefusal_of_power (s := s.pdNote p msg) (p := p) 12 2 (by simpa using hwant) (by simpa using hpe)
      (by simpa using hfew)

end Sys2Proof.Machine

namespace Sys2Proof.Machine

/-! PROOFS. The timers of a source (O25): a missing answer, a transition and its failure, the leave of a raise, the sequences of the
engine's own, and the cycle of VBUS after a hard reset (R239–R249, R257). -/

/-! ### A missing answer (R251) -/

/-- What a protocol error writes (R251, R448). -/
def Zone.protoErr : List Zone := [.field .tcp F.TCP_PD_CNT_PROTO_ERR, .regs .hlt 0x7C 0x80]

section
variable {s : State} {p : Port}

theorem State.protoErr_writes (s : State) (p : Port) (num cls : Nat) (hard : Bool) :
    s.WritesIn Zone.protoErr (s.protoErr p num cls hard) :=
  .raisePort (.countErr (List.Subset.refl _) rfl (by decide) (.refl s))

/-- Soft_Reset sent: its Accept is awaited, and the command is over (R256, R263). -/
theorem State.sendSoft_parts (s : State) (p : Port) : (s.sendSoft p).get (.tcp p) F.TCP_PD_STATUS_PE_STATE = 12 ∧
    ((s.sendSoft p).pd p).out = (s.pd p).out ++ [⟨false, .softReset, [], []⟩] ∧ ((s.sendSoft p).pd p).want = .softAccept ∧
    (s.sendSoft p).get (.tcp p) F.TCP_PD_CTRL_SOFT_RESET = 0 := by
  unfold State.sendSoft
  generalize hu : (s.endRaise p).put (.tcp p) F.TCP_PD_CTRL_SOFT_RESET 0 = u
  have hpd : u.pd p = { s.pd p with raiseGranted := false, waitSent := false } := by rw [← hu, State.pd_put, State.pd_endRaise]
  generalize hv : (u.setPe p 12).pdSay p .softReset = v
  have hsay : (u.setPe p 12).WritesIn [] v := hv ▸ .pdSay (.refl _)
  have hnote : v.WritesIn [.field .tcp F.TCP_PD_CNT_SOFT_RESETS] (v.noteSoft p true) :=
    .pdWith (.raisePort (.count (List.Subset.refl _) rfl (.refl v)))
  rw [State.pdWith_same, State.pd_noteSoft, ← hv, State.pd_pdSay, State.pd_setPe, hpd, hv, State.pdWith_get, State.pdWith_get,
    hnote.get _ _ rfl, hnote.get _ _ rfl, hsay.get _ _ rfl, hsay.get _ _ rfl, u.pe_setPe p (by decide), State.setPe,
    State.get_put_off _ _ _ _ _ (by decide), ← hu, State.get_put_fits _ _ _ _ (by decide) (by decide)]
  exact ⟨rfl, rfl, rfl, rfl⟩

/-- A hard reset sent by a source that is in no swap, from a state that keeps its engine's. -/
theorem State.WritesIn.resetAsSource {W : List Zone} {u : State} (h : s.WritesIn W u)
    (hW : Zone.spared W .tcp F.TCP_PD_STATUS_PE_STATE = true ∧ Zone.spared W .tcp F.TCP_PD_STATUS_HR_CONSEC = true ∧
      Zone.spared W .tcp F.TCP_PD_STATUS_POWER_ROLE = true)
    (hfew : s.get (.tcp p) F.TCP_PD_STATUS_HR_CONSEC < 2) (hsource : s.isSource p = true) (hpe : s.pe p ∈ [3, 4, 5, 12]) (reason : Nat) :
    u.ResetAsSource p true (u.hardReset p true reason) := by
  obtain ⟨hstate, hconsec, hrole⟩ := hW
  have hpe' : u.pe p = s.pe p := h.pe p hstate
  simp only [List.mem_cons, List.not_mem_nil, or_false] at hpe
  refine State.hardReset_source ?_ (by rwa [h.get (.tcp p) _ hconsec]) ((h.isSource p hrole).trans hsource) ?_ ?_ true reason
  all_goals rw [hpe']; rcases hpe with hpe | hpe | hpe | hpe <;> rw [hpe] <;> decide

theorem State.noAnswer_request (hwant : (s.pd p).want = .request) (hrevoke : (s.pd p).revokeWait = false) :
    s.noAnswer p = (s.protoErr p 0 3 false).sendSoft p := by
  simp [State.noAnswer, hwant, hrevoke]

theorem State.noAnswer_softAccept (hwant : (s.pd p).want = .softAccept) :
    s.noAnswer p = (s.protoErr p 0 3 true).hardReset p true 2 := by
  simp [State.noAnswer, hwant]

/-! ### A transition (R243, R244) -/

theorem State.pd_vbsWith (s : State) (i p : Port) (f : VbsSt → VbsSt) : (s.vbsWith i f).pd p = s.pd p := rfl

/-- A transition to another voltage runs toward it. -/
theorem State.startTransition_parts (hfits : (s.pd p).nextMv < 65536) (hmoves : (s.pd p).nextMv ≠ (s.present p).1) :
    (s.startTransition p).get (.vbs p) F.VBS_STATUS_STATE = 4 ∧
    (s.startTransition p).get (.vbs p) F.VBS_TARGET_TARGET_MV = (s.pd p).nextMv ∧ ((s.startTransition p).pd p).transRun = true := by
  unfold State.startTransition
  generalize s.present p = now at hmoves ⊢
  obtain ⟨cv, ci⟩ := now
  dsimp only
  rw [if_neg hmoves, State.vbsWith_get, State.vbsWith_get, State.get_put_off _ _ _ _ _ (by decide),
    State.get_put_off _ _ _ _ _ (by decide), State.get_put_fits _ _ _ _ (by decide) (by decide),
    State.get_put_bits _ _ _ _ _ (by decide), State.get_put_fits _ _ _ _ (by decide) hfits]
  refine ⟨rfl, rfl, ?_⟩
  rw [State.pd_vbsWith, State.pd_put, State.pd_put, State.pd_put, State.pdWith_same]

/-- A transition that fails by time ends in a hard reset, with its fault set. -/
theorem State.transFail_parts (hfew : s.get (.tcp p) F.TCP_PD_STATUS_HR_CONSEC < 2) (hsource : s.isSource p = true) (hpe : s.pe p = 4) :
    (s.transFail p).get (.tcp p) F.TCP_PD_STATUS_PE_STATE = 13 ∧ (s.transFail p).get (.tcp p) (F.FAULT 9) = 1 ∧
    ((s.transFail p).pd p).out = (s.pd p).out ++ [⟨false, .hardReset, [], []⟩] := by
  unfold State.transFail
  extract_lets s1 s2
  have h1 : s.WritesIn [.field .tcp (F.FAULT 9)] s1 := .put (List.Subset.refl _) rfl (.refl s)
  have h2 : s1.WritesIn Zone.budget (s2.endRaise p) := .endRaise (List.Subset.refl _) (.raisePort (.refl s1))
  have hall : s.WritesIn (.field .tcp (F.FAULT 9) :: Zone.budget) (s2.endRaise p) :=
    (h1.mono (by decide)).trans (h2.mono (by decide))
  have hreset := hall.resetAsSource (p := p) (by decide) hfew hsource (by simp [hpe]) 1
  refine ⟨hreset.pe, ?_, ?_⟩
  · rw [hreset.writes.get _ _ rfl, h2.get _ _ rfl]
    exact State.get_put_fits _ _ _ _ (by decide) (by decide)
  · rw [hreset.out, State.pd_endRaise, State.pd_raisePort]
    rfl

/-! ### The leave of a raise (R242) -/

/-- An operation that has ended runs no more. -/
theorem State.running_endLeave (s : State) (op : LeaveOp) : op ∉ (s.endLeave op).arb.running := by
  unfold State.endLeave State.opDone
  split
  case isTrue => simp [State.arbWith]
  case isFalse h => simpa using h

/-! ### The capabilities of a revocation (R249) -/

theorem State.revokeDropped_writes (s : State) (p : Port) : s.WritesIn Zone.budget (s.revokeDropped p) :=
  .ite (.putGrant (by decide) (List.Subset.refl _) (.refl s)) (.refl s)

theorem State.grant_revokeDropped (s : State) (p : Port) : (s.revokeDropped p).grant p = s.grant p := by
  unfold State.revokeDropped
  split
  · exact State.get_put_bits _ _ _ _ _ (.inr (show 0 + 12 ≤ 12 by decide))
  · rfl

theorem State.revokeUnanswered_parts (hfew : s.get (.tcp p) F.TCP_PD_STATUS_HR_CONSEC < 2) (hsource : s.isSource p = true)
    (hpe : s.pe p = 3) : (s.revokeUnanswered p).get (.tcp p) F.TCP_PD_STATUS_PE_STATE = 13 ∧
      ((s.revokeUnanswered p).pd p).revokeWait = false := by
  have hdrop : s.WritesIn Zone.budget ((s.pdWith p (fun d => { d with revokeWait := false })).revokeDropped p) :=
    (State.WritesIn.pdWith (.refl s)).trans (State.revokeDropped_writes _ p)
  have hreset := hdrop.resetAsSource (by decide) hfew hsource (by simp [hpe]) 9
  exact ⟨hreset.pe, hreset.revoke⟩

/-! ### The sequences of the engine's own (R233, R239) -/

theorem State.ownSequence_soft (hcommand : s.get (.tcp p) F.TCP_PD_CTRL_SOFT_RESET = 1) :
    s.ownSequence p = (s.put (.tcp p) F.TCP_PD_CTRL_SOFT_RESET 0).sendSoft p :=
  if_pos (by simp [State.flag, hcommand])

/-- An offer that is due at once starts the wait of SinkTxNG. -/
theorem State.sinkTx_pdKick (hpe : s.pe p = 5) (hnow : (s.pd p).offerNow = true) (hwant : (s.pd p).want = .none) :
    ((s.pdKick p).pd p).sinkTx = true := by
  have hdue : s.pdDue p = !(s.pd p).sinkTx := by simp [State.pdDue, State.ownDue, hpe, hnow, hwant]
  rw [State.pd_pdKick, hdue]
  simp

/-! ### VBUS cycled by a hard reset (R257) -/

/-- The switch of a source that cycles VBUS opens and discharges, and the port keeps its default grant (R190). -/
theorem State.vbsOpenTo_keep_parts (h : 1 ≤ s.vbsStt p ∧ s.vbsStt p ≤ 4) (cause : Nat) :
    (s.vbsOpenTo p cause true 5).get (.vbs p) F.VBS_STATUS_STATE = 5 ∧
    (s.vbsOpenTo p cause true 5).get (.vbs p) F.VBS_STATUS_DSCH_ON = 1 ∧ (s.vbsOpenTo p cause true 5).grant p = defaultGrant p := by
  unfold State.vbsOpenTo
  extract_lets st s0 s1 s2 safe s3 s4 s5
  rw [if_pos h]
  have hlast {u : State} : u.WritesIn (.field .tcp F.TCP_CC_STATUS_BC_NOW :: Zone.rp ++ Zone.usb)
      (((u.put (.tcp p) F.TCP_CC_STATUS_BC_NOW 0).rpApply p).usbEval p) :=
    .usbEval (by decide) (.rpApply (by decide) (.put (List.Subset.refl _) rfl (.refl u)))
  have h4 : s2.WritesIn Zone.opened s4 := .opDone (.vbsWith (.vsetLoad (.put (List.Subset.refl _) rfl (.refl s2))))
  have hall : s2.WritesIn Zone.opened ((s5.rpApply p).usbEval p) :=
    (State.WritesIn.putGrant (by decide) (by decide) h4).trans (hlast.mono (by decide))
  have hgrant : defaultGrant p < 2 ^ 12 := by
    unfold defaultGrant
    split <;> decide
  refine ⟨(hall.get _ _ rfl).trans (State.get_put_fits _ _ _ _ (by decide) (by decide)), ?_, ?_⟩
  · rw [hall.get _ _ rfl, State.get_put_bits _ _ _ _ _ (by decide)]
    exact State.get_put_fits _ _ _ _ (by decide) (by decide)
  · exact (hlast.get .bgt _ (Zone.spared_of_kind rfl (show 0x180 + 4 * p.val < 0x1000 by omega)
      (show 0x180 + 4 * p.val ≠ 0xC by omega))).trans (State.get_put_fits _ _ _ _ (show 0 + 12 ≤ 32 by decide) hgrant)

/-- VBUS and VCONN off, and the mux open, as the first phase of the cycle ends. -/
def State.powerCycled (s : State) (p : Port) : State := (((s.vbsOpenTo p 5 true 5).revokeDropped p).vconnOff p).muxEnd p 2

theorem State.powerCycled_parts (h : 1 ≤ s.vbsStt p ∧ s.vbsStt p ≤ 4) : (s.powerCycled p).get (.vbs p) F.VBS_STATUS_STATE = 5 ∧
    (s.powerCycled p).get (.vbs p) F.VBS_STATUS_DSCH_ON = 1 ∧ (s.powerCycled p).grant p = defaultGrant p ∧
    (s.powerCycled p).get (.tcp p) F.TCP_CC_STATUS_VCONN_ON = 0 := by
  obtain ⟨hstate, hdsch, hgrant⟩ := State.vbsOpenTo_keep_parts h 5
  unfold State.powerCycled
  generalize s.vbsOpenTo p 5 true 5 = u at hstate hdsch hgrant ⊢
  have hdrop := u.revokeDropped_writes p
  have hheld := u.grant_revokeDropped p
  generalize u.revokeDropped p = v at hdrop hheld ⊢
  have hoff : (v.put (.tcp p) F.TCP_CC_STATUS_VCONN_ON 0).WritesIn (.field .tcp F.TCP_PD_STATUS_VCONN_SRC :: Zone.mux)
      ((v.vconnOff p).muxEnd p 2) :=
    .muxEnd (by decide) (.pdWith (.pdWith (.put (List.Subset.refl _) rfl (.refl _))))
  have hrest : v.WritesIn ([.field .tcp F.TCP_CC_STATUS_VCONN_ON, .field .tcp F.TCP_PD_STATUS_VCONN_SRC] ++ Zone.mux)
      ((v.vconnOff p).muxEnd p 2) :=
    (State.WritesIn.put (L := [.field .tcp F.TCP_CC_STATUS_VCONN_ON]) (by decide) rfl (.refl v)).trans (hoff.mono (by decide))
  have hbgt : ((v.vconnOff p).muxEnd p 2).grant p = v.grant p := hrest.get .bgt _
    (Zone.spared_of_kind rfl (show 0x180 + 4 * p.val < 0x1000 by omega) (show 0x180 + 4 * p.val ≠ 0xC by omega))
  rw [hrest.get _ _ rfl, hrest.get _ _ rfl, hdrop.get _ _ rfl, hdrop.get _ _ rfl, hbgt, hheld, hoff.get _ _ rfl]
  exact ⟨hstate, hdsch, hgrant, State.get_put_fits _ _ _ _ (by decide) (by decide)⟩

/-- VBUS closes again with the limit of the default grant, and VCONN with it. -/
def State.powerBack (s : State) (p : Port) : State :=
  (((s.put (.vbs p) F.VBS_STATUS_STATE 1).put (.vbs p) F.VBS_STATUS_DSCH_ON 1).setLimit p (rpMa p 1)).vconnStart p

theorem State.powerBack_parts (s : State) (p : Port) : (s.powerBack p).get (.vbs p) F.VBS_STATUS_STATE = 1 ∧
    (s.powerBack p).get (.vbs p) F.VBS_STATUS_DSCH_ON = 1 := by
  unfold State.powerBack
  generalize hu : (s.put (.vbs p) F.VBS_STATUS_STATE 1).put (.vbs p) F.VBS_STATUS_DSCH_ON 1 = u
  have hlimit : u.WritesIn [.field .vbs F.VBS_TARGET_LIMIT_MA] (u.setLimit p (rpMa p 1)) :=
    .vbsWith (.put (List.Subset.refl _) rfl (.refl u))
  have hvconn {v : State} : v.WritesIn [.field .tcp F.TCP_CC_STATUS_VCONN_ON, .field .tcp F.TCP_PD_STATUS_VCONN_SRC,
      .field .tcp F.TCP_CABLE_ATTEMPTS] (v.vconnStart p) :=
    .ite (.pdWith (.put (List.Subset.refl _) rfl (.put (List.Subset.refl _) rfl (.put (List.Subset.refl _) rfl (.refl v))))) (.refl v)
  rw [hvconn.get _ _ rfl, hvconn.get _ _ rfl, hlimit.get _ _ rfl, hlimit.get _ _ rfl, ← hu, State.get_put_bits _ _ _ _ _ (by decide),
    State.get_put_fits _ _ _ _ (by decide) (by decide), State.get_put_fits _ _ _ _ (by decide) (by decide)]
  exact ⟨rfl, rfl⟩

end

/-! ### The commands -/

section
variable {s : State} {p : Port} (hup : s.portUp p = true)
include hup

theorem exec_srcStartupEnd (hpe : s.pe p = 1) (hon : s.vbusOn p = true) :
    exec (.srcStartupEnd p) s = .next ((s.pdFresh p).startCaps p) :=
  congrArg Host.Outcome.next (State.pdTick_acts hup (by simp [hpe, hon]))

theorem exec_sourceCapResend (hpe : s.pe p = 2) (hfew : (s.pd p).capsSent < 50) :
    exec (.sourceCapResend p) s = .next ((s.pdFresh p).sendCaps p) :=
  congrArg Host.Outcome.next (State.pdTick_acts hup (by simp [hpe, hfew]))

theorem exec_senderResponseTimeout : exec (.senderResponseTimeout (.down p)) s = .next ((s.pdFresh p).noAnswer p) :=
  congrArg Host.Outcome.next (State.pdTick_acts hup rfl)

theorem exec_transitionStart (hpe : s.pe p = 4) (haccepted : (s.pd p).accepted = true) (hidle : (s.pd p).transRun = false)
    (hon : s.get (.vbs p) F.VBS_STATUS_STATE = 3) : exec (.transitionStart p) s = .next ((s.pdFresh p).startTransition p) :=
  congrArg Host.Outcome.next (State.pdTick_acts hup (by simp [hpe, haccepted, hidle, State.vbsStt, hon]))

theorem exec_transLimitEnd (hpe : s.pe p = 4) (hrun : (s.pd p).transRun = true) :
    exec (.transLimitEnd p) s = .next ((s.pdFresh p).transFail p) :=
  congrArg Host.Outcome.next (State.pdTick_acts hup (by simp [hpe, hrun]))

theorem exec_waitTimerEnd (hpe : s.pe p = 3) (hreq : (s.pd p).req.isSome = true) (hwait : (s.pd p).waitSent = false) :
    exec (.waitTimerEnd p) s =
      .next ((((s.pdFresh p).pdSay p .wait).toReady p).pdWith p (fun d => { d with waitSent := true })) :=
  congrArg Host.Outcome.next (State.pdTick_acts hup (by simp [hpe, hreq, hwait]))

theorem exec_leaveHoldEnd (hheld : (s.pd p).waitSent = true ∨ (s.pd p).raiseGranted = true) (hpe : s.pe p ≠ 4) :
    exec (.leaveHoldEnd p) s = .next (((s.pdFresh p).endRaise p).pdWith p (fun d => { d with req := none })) :=
  congrArg Host.Outcome.next (State.pdTick_acts hup (by simp [hheld, hpe]))

theorem exec_ppsTimeout (hpps : s.ppsNow p = true) : exec (.ppsTimeout p) s = .next ((s.pdFresh p).hardReset p true 4) :=
  congrArg Host.Outcome.next (State.pdTick_acts hup hpps)

theorem exec_eprKeepaliveTimeout (hepr : s.get (.tcp p) F.TCP_PD_STATUS_EPR_MODE = 1) :
    exec (.eprKeepaliveTimeout p) s = .next ((s.pdFresh p).hardReset p true 5) :=
  congrArg Host.Outcome.next (State.pdTick_acts hup (by simp [State.flag, hepr]))

theorem exec_sinkTxEnd_ready (hpe : s.pe p = 5) (hng : (s.pd p).sinkTx = true) (hwant : (s.pd p).want = .none) :
    exec (.sinkTxEnd p) s = .next ((s.pdFresh p).ownSequence p) :=
  congrArg Host.Outcome.next ((State.pdTick_acts hup (by simp [hng, hwant])).trans (if_pos hpe))

theorem exec_capsMergeEnd (hpe : s.pe p = 5) (hdue : (s.pd p).offerDue = true) (hwant : (s.pd p).want = .none) :
    exec (.capsMergeEnd p) s = .next (((s.pdFresh p).pdWith p (fun d => { d with offerNow := true })).pdKick p) :=
  congrArg Host.Outcome.next (State.pdTick_acts hup (by simp [hpe, hdue, hwant]))

theorem exec_revokeNoRequest (hwait : (s.pd p).revokeWait = true) :
    exec (.revokeNoRequest p) s = .next ((s.pdFresh p).revokeUnanswered p) :=
  congrArg Host.Outcome.next (State.pdTick_acts hup hwait)

theorem exec_hardResetPowerOff (hpe : s.pe p = 13) (hphase : (s.pd p).hrPhase = 1) :
    exec (.hardResetPowerOff p) s = .next (((s.pdFresh p).powerCycled p).pdWith p (fun d => { d with hrPhase := 2 })) :=
  congrArg Host.Outcome.next (State.pdTick_acts hup (by simp [hpe, hphase]))

theorem exec_srcRecoverEnd (hpe : s.pe p = 13) (hphase : (s.pd p).hrPhase = 2) (hsafe : s.get (.vbs p) F.VBS_STATUS_SAFE0V = 1)
    (hopen : s.get (.vbs p) F.VBS_STATUS_STATE = 0) :
    exec (.srcRecoverEnd p) s = .next (((s.pdFresh p).powerBack p).pdWith p (fun d => { d with hrPhase := 3 })) :=
  congrArg Host.Outcome.next (State.pdTick_acts hup (by simp [hpe, hphase, State.flag, hsafe, State.vbsStt, hopen]))

end

/-- Settles O25: each timer is one of the engine's shared steps from the state in which its event begins, and what a hard reset of a source
leaves is said once (`State.ResetAsSource`). -/
theorem pdTimersOfASource : Obligations.PdTimersOfASource := by
  unfold Obligations.PdTimersOfASource
  refine ⟨fun p s hup hpe hon => ⟨_, exec_srcStartupEnd hup hpe hon, ?startup⟩,
    fun p s hup hpe hfew => ⟨_, exec_sourceCapResend hup hpe hfew, ?resend⟩,
    fun p s hup hwant hrevoke => ⟨_, exec_senderResponseTimeout hup, ?noRequest⟩,
    fun p s hup hwant hfew hsource hpe => ⟨_, exec_senderResponseTimeout hup, ?noAccept⟩,
    fun p s hup hpe haccepted hidle hon hfits hmoves => ⟨_, exec_transitionStart hup hpe haccepted hidle hon, ?starts⟩,
    fun p s hup hpe hrun hfew hsource => ⟨_, exec_transLimitEnd hup hpe hrun, ?transition⟩,
    fun p s hup hpe hreq hwait => ⟨_, exec_waitTimerEnd hup hpe hreq hwait, ?wait⟩,
    fun p s hup hheld hpe => ⟨_, exec_leaveHoldEnd hup hheld hpe, ?leave⟩,
    fun p s hup hpps hfew hpe => ⟨_, exec_ppsTimeout hup hpps, ?pps⟩,
    fun p s hup hepr hfew hsource hpe => ⟨_, exec_eprKeepaliveTimeout hup hepr, ?epr⟩,
    fun p s hup hpe hng hwant hcommand => ⟨_, exec_sinkTxEnd_ready hup hpe hng hwant, ?own⟩,
    fun p s hup hpe hdue hwant => ⟨_, exec_capsMergeEnd hup hpe hdue hwant, ?merge⟩,
    fun p s hup hwait hfew hsource hpe => ⟨_, exec_revokeNoRequest hup hwait,
      State.revokeUnanswered_parts (s := s.pdFresh p) hfew hsource hpe⟩,
    fun p s hup hpe hphase hlow hhigh => ⟨_, exec_hardResetPowerOff hup hpe hphase, ?powerOff⟩,
    fun p s hup hpe hphase hsafe hopen => ⟨_, exec_srcRecoverEnd hup hpe hphase hsafe hopen, ?powerOn⟩⟩
  case startup =>
    obtain ⟨hstate, hsent, -, hwrites⟩ := (s.pdFresh p).startCaps_parts p
    exact ⟨hstate, hsent, hwrites.get _ _ rfl⟩
  case resend =>
    obtain ⟨hout, hsent⟩ := (s.pdFresh p).sendCaps_parts p
    refine ⟨(((s.pdFresh p).sendCaps_writes p (by simp [hpe])).get _ _ rfl).trans hpe, hsent.trans (by simp), ?_⟩
    rw [hout, State.pd_pdFresh]
    rfl
  case noRequest =>
    rw [State.noAnswer_request (by simpa using hwant) (by simpa using hrevoke)]
    obtain ⟨hstate, hout, hawait, -⟩ := ((s.pdFresh p).protoErr p 0 3 false).sendSoft_parts p
    exact ⟨hstate, hout.trans (by simp), hawait⟩
  case noAccept =>
    rw [State.noAnswer_softAccept (by simpa using hwant)]
    have hreset := ((s.pdFresh p).protoErr_writes p 0 3 true).resetAsSource (p := p) (by decide) hfew hsource (by simp [hpe]) 2
    exact ⟨hreset.pe, hreset.out.trans (by simp)⟩
  case starts => simpa using State.startTransition_parts (s := s.pdFresh p) (p := p) (by simpa using hfits) (by simpa using hmoves)
  case transition =>
    simpa using State.transFail_parts (s := s.pdFresh p) (p := p) hfew hsource hpe
  case wait =>
    obtain ⟨w, b, hready⟩ := ((s.pdFresh p).pdSay p .wait).pd_toReady p
    simp [hready]
  case leave =>
    exact ⟨by simp, by simp, by simp, (s.pdFresh p).running_endLeave (.raise p)⟩
  case pps =>
    have hsource : s.isSource p = true := by
      simp only [State.ppsNow, State.contractSrc, Bool.and_eq_true] at hpps
      exact hpps.1.2
    have hreset := (State.WritesIn.refl (W := []) (s.pdFresh p)).resetAsSource (p := p) (by decide) hfew hsource (by simp [hpe]) 4
    exact ⟨hreset.pe, hreset.contract⟩
  case epr =>
    have hreset := (State.WritesIn.refl (W := []) (s.pdFresh p)).resetAsSource (p := p) (by decide) hfew hsource (by simp [hpe]) 5
    exact ⟨hreset.pe, hreset.epr⟩
  case own =>
    rw [State.ownSequence_soft (s := s.pdFresh p) hcommand]
    obtain ⟨hstate, hout, -, hdone⟩ := ((s.pdFresh p).put (.tcp p) F.TCP_PD_CTRL_SOFT_RESET 0).sendSoft_parts p
    exact ⟨hstate, hout.trans (by simp), hdone⟩
  case merge =>
    exact ⟨by simp [State.pd_pdKick], State.sinkTx_pdKick hpe (by simp) (by simpa using hwant)⟩
  case powerOff =>
    obtain ⟨hstate, hdsch, hgrant, hvconn⟩ := State.powerCycled_parts (s := s.pdFresh p) (p := p) ⟨hlow, hhigh⟩
    exact ⟨by simp, hstate, hdsch, hgrant, hvconn⟩
  case powerOn =>
    obtain ⟨hstate, hdsch⟩ := (s.pdFresh p).powerBack_parts p
    exact ⟨hstate, hdsch, by simp⟩

end Sys2Proof.Machine

namespace Sys2Proof.Machine

/-! PROOFS. The timers and signals of a sink, of cable discovery and of the console mode (O26): R248, R252–R254, R257, R259. -/

/-! ### Cable discovery (R248) -/

section
variable {s : State} {p : Port}

/-- A count below its greatest value rises by one. -/
theorem State.get_count_of_lt {pg : PageId} {f : Fld} (hf : f.lo + f.width ≤ 32) (h : s.get pg f + 1 < 2 ^ f.width) :
    (s.count pg f).get pg f = s.get pg f + 1 := by
  have hmin : min (s.get pg f + 1) (2 ^ f.width - 1) = s.get pg f + 1 := by omega
  rw [State.count, State.countBy, hmin, State.get_put_fits _ _ _ _ hf h]

/-- The offer checked anew changes what is due of it alone. -/
theorem State.pd_offerCheck (s : State) (p : Port) :
    ∃ due now, (s.offerCheck p).pd p = { s.pd p with offerDue := due, offerNow := now } := by
  unfold State.offerCheck
  extract_lets pg o mv ma10 overs same
  split
  case isTrue => exact ⟨_, _, rfl⟩
  case isFalse => split <;> exact ⟨_, _, State.pdWith_same ..⟩

/-- A cable that counts as unanswering is recorded so, and its discovery is over. -/
theorem State.cableFail_parts (s : State) (p : Port) : (s.cableFail p).get (.tcp p) F.TCP_CABLE_FAILED = 1 ∧
    (s.cableFail p).get (.tcp p) F.TCP_CABLE_DISCOVERED = 0 ∧ ((s.cableFail p).pd p).cableRun = false := by
  unfold State.cableFail
  extract_lets pg s1 s2 s3
  generalize hv : s3.raisePort pg p evCable ((s3.rd (pg.base + 0x8C)).toNat % 256) = v
  have h3 : ((s.put pg F.TCP_CABLE_DISCOVERED 0).put pg F.TCP_CABLE_FAILED 1).WritesIn [.field .tcp F.TCP_CABLE_CURRENT,
      .field .tcp F.TCP_CABLE_VMAX, .field .tcp F.TCP_CABLE_EPR_CAPABLE, .field .tcp F.TCP_CABLE_ACTIVE] s3 :=
    .pdWith (.put (List.Subset.refl _) rfl (.put (List.Subset.refl _) rfl (.put (List.Subset.refl _) rfl
      (.put (List.Subset.refl _) rfl (.refl _)))))
  have hlast : s3.WritesIn Zone.rp ((v.offerCheck p).pdKick p) := .pdKick (List.Subset.refl _) (.offerCheck (hv ▸ .raisePort (.refl s3)))
  have hrun : (v.pd p).cableRun = false := by rw [← hv, State.pd_raisePort, State.pdWith_same]
  obtain ⟨due, now, hoffer⟩ := v.pd_offerCheck p
  rw [State.pd_pdKick, hoffer, hlast.get _ _ rfl, hlast.get _ _ rfl, h3.get _ _ rfl, h3.get _ _ rfl,
    State.get_put_fits _ _ _ _ (by decide) (by decide), State.get_put_bits _ _ _ _ _ (by decide),
    State.get_put_fits _ _ _ _ (by decide) (by decide)]
  exact ⟨rfl, rfl, hrun⟩

/-! ### A hard reset of a sink (R252, R257) -/

/-- What the opening of the switch leaves of the messages that the engine has sent. -/
theorem State.out_vbsOpen (s : State) (p : Port) (cause : Nat) : ((s.vbsOpen p cause).pd p).out = (s.pd p).out := by
  have hstop {u : State} : ((u.pdStop p).pd p).out = (u.pd p).out := by
    rw [State.pdStop, State.pdWith_same, State.pd_put, State.pd_pdEnd]
    rfl
  unfold State.vbsOpen State.vbsOpenTo
  extract_lets st s0 s1 s2 safe s3 s4 s5
  have h0 : s.KeepsBut [.arb, .fifos, .vbsSt] s0 := .withdraw (by decide) (.refl s)
  split
  case isTrue =>
    have h4 : s.KeepsBut [.arb, .fifos, .vbsSt] s4 := .opDone (by decide) (.vbsWith (by decide) (.vsetLoad (by decide)
      (.put (.put (.put (.put (.ite (.raisePort (by decide) h0) h0)))))))
    have h5 : (s4.pdStop p).KeepsBut [.vbsSt, .freeCount, .u2pSt, .sspSt, .upLink, .lheSt, .fifos, .graver]
        ((((s4.pdStop p).returnGrant p).rpApply p).usbEval p) :=
      .usbEval (by decide) (.rpApply (by decide) (.returnGrant (.refl _)))
    exact (congrArg PdSt.out (h5.pd (by decide) p)).trans (hstop.trans (congrArg PdSt.out (h4.pd (by decide) p)))
  case isFalse =>
    split
    · have hcycle : s.KeepsBut [.arb, .fifos, .vbsSt] (s0.vbsWith p (fun v => { v with hrCycle := false })) := .vbsWith (by decide) h0
      rw [State.pd_rpApply, (State.KeepsBut.returnGrant (M := []) (.refl _)).pd (by decide), hstop, hcycle.pd (by decide)]
    · rw [h0.pd (by decide)]

/-- A sink waits for VBUS after a hard reset. -/
theorem State.sinkReset_parts (s : State) (p : Port) : (s.sinkReset p).get (.tcp p) F.TCP_PD_STATUS_PE_STATE = 6 ∧
    ((s.sinkReset p).pd p).snkWaitVbus = true ∧ ((s.sinkReset p).pd p).out = (s.pd p).out := by
  unfold State.sinkReset
  extract_lets s1
  have h1 : (s1.pd p).out = (s.pd p).out := by
    simp only [s1]
    split
    · exact s.out_vbsOpen p 5
    · rfl
  rw [State.pdWith_get, State.pe_setPe _ _ (by decide), State.pdWith_same, State.pd_setPe, State.pd_put, State.pd_put, State.pd_pdEnd]
  exact ⟨rfl, rfl, h1⟩

theorem State.hardReset_sink (hpe : s.pe p = 6) (hfew : s.get (.tcp p) F.TCP_PD_STATUS_HR_CONSEC < 2) (hsink : s.isSource p = false)
    (sent : Bool) (reason : Nat) : s.hardReset p sent reason = (s.hardNoted p sent reason).sinkReset p := by
  rw [State.hardReset_eq (by rw [hpe]; rfl) hfew (by rw [hpe]; decide), hsink]
  rfl

/-! ### A swap of a sink's own (R253, R254) -/

/-- An operation that asks for leave has asked for it. -/
theorem State.asked_askLeave (s : State) (op : LeaveOp) : (s.askLeave op).asked op = true := by
  unfold State.askLeave
  split
  case isTrue h => exact h
  case isFalse => simp [State.asked, State.arbWith]

theorem State.askReserve_parts (hclose : s.mayClose p = true) (hopen : s.vbsStt p = 0)
    (hheard : s.get .bgt (F.BGT_GRANTn_STATE p.val) ≠ 4) (hlock : (s.vbs p).dschLock = false) :
    ((s.askReserve p).pd p).reserved = true ∧ (s.askReserve p).asked (.turnOn p) = true := by
  have hask : s.askReserve p = (s.pdWith p (fun d => { d with reserved := true })).askLeave (.turnOn p) :=
    if_pos (by simp [hclose, hopen, hheard, hlock])
  have hkeep {u : State} : u.KeepsBut [.arb] (u.askLeave (.turnOn p)) := .askLeave (by decide) (.refl u)
  rw [hask, hkeep.pd (by decide), State.pdWith_same]
  exact ⟨rfl, State.asked_askLeave ..⟩

/-! ### VBUS taken over in a Fast Role Swap (R254) -/

/-- The limit set from a basis is the one that reads (R198). -/
theorem State.limit_setLimit (s : State) (p : Port) (ma : Nat) :
    (s.setLimit p ma).get (.vbs p) F.VBS_TARGET_LIMIT_MA = min (11 * ma / 10) 65535 := by
  have hfits : min (11 * ma / 10) 65535 < 2 ^ F.VBS_TARGET_LIMIT_MA.width := Nat.lt_of_le_of_lt (Nat.min_le_right ..) (by decide)
  unfold State.setLimit
  rw [State.vbsWith_get, State.get_put_fits _ _ _ _ (by decide) hfits]

/-- The gate driven fully on with the limit of the FRS current. -/
def State.frsPowered (s : State) (p : Port) : State :=
  let s1 := ((s.put (.vbs p) F.VBS_STATUS_STATE 3).put (.vbs p) F.VBS_STATUS_GATE_ON 1).put (.vbs p) F.VBS_TARGET_TARGET_MV 5000
  let s2 := (s1.put (.vbs p) F.VBS_STATUS_DSCH_ON 0).setLimit p (s.pd p).frsMa
  ((s2.raisePort (.vbs p) p evVbusOn (s2.get (.vbs p) F.VBS_MEAS_VBUS)).opDone (.turnOn p)).bcDecide p

theorem State.frsPowered_parts (s : State) (p : Port) : (s.frsPowered p).get (.vbs p) F.VBS_STATUS_STATE = 3 ∧
    (s.frsPowered p).get (.vbs p) F.VBS_STATUS_GATE_ON = 1 ∧
    (s.frsPowered p).get (.vbs p) F.VBS_TARGET_LIMIT_MA = min (11 * (s.pd p).frsMa / 10) 65535 := by
  unfold State.frsPowered
  extract_lets s1 s2
  have hlast : s2.WritesIn (.field .tcp F.TCP_CC_STATUS_BC_NOW :: Zone.usb)
      (((s2.raisePort (.vbs p) p evVbusOn (s2.get (.vbs p) F.VBS_MEAS_VBUS)).opDone (.turnOn p)).bcDecide p) :=
    .usbEval (by decide) (.put (List.Subset.refl _) rfl (.opDone (.raisePort (.refl s2))))
  have hlimit : (s1.put (.vbs p) F.VBS_STATUS_DSCH_ON 0).WritesIn [.field .vbs F.VBS_TARGET_LIMIT_MA] s2 :=
    .vbsWith (.put (List.Subset.refl _) rfl (.refl _))
  rw [hlast.get _ _ rfl, hlast.get _ _ rfl, hlast.get _ _ rfl, hlimit.get _ _ rfl, hlimit.get _ _ rfl]
  refine ⟨?_, ?_, State.limit_setLimit ..⟩
  all_goals simp (disch := decide) only [s1, State.get_put_bits, State.get_put_off, State.get_put_fits]

/-! ### The console mode (R259) -/

/-- An attempt that fails is counted, and sends nothing. -/
theorem State.modeFail_parts (s : State) (p : Port) : ((s.modeFail p).pd p).modeStep = 0 ∧
    ((s.modeFail p).pd p).modeTries = (s.pd p).modeTries + 1 ∧ ((s.modeFail p).pd p).out = (s.pd p).out := by
  unfold State.modeFail State.modeOver
  obtain ⟨w, b, hready⟩ := State.pd_toReady ((s.pdWith p (fun d => { d with modeTries := d.modeTries + 1 })).pdWith p
    (fun d => { d with modeStep := 0, want := .none })) p
  simp [hready]

end

/-! ### The commands -/

theorem State.pdFresh_reserveHeld (s : State) (p : Port) : (s.pdFresh p).reserveHeld p = s.reserveHeld p := by
  rw [State.reserveHeld, State.pd_pdFresh]
  rfl

section
variable {s : State} {p : Port} (hup : s.portUp p = true)
include hup

section
variable (hrun : (s.pd p).cableRun = true) (hsrc : s.get (.tcp p) F.TCP_PD_STATUS_VCONN_SRC = 1) (hidle : s.pdBusy p = false)
  (hen : s.pdEn p = true) (hactive : ([0, 4, 13, 14] : List Nat).contains (s.pe p) = false)
include hrun hsrc hidle hen hactive

theorem exec_discoverIdentityAttempt : exec (.discoverIdentityAttempt p) s =
    .next (if 20 ≤ s.get (.tcp p) F.TCP_CABLE_ATTEMPTS then (s.pdFresh p).cableTried p
      else ((s.pdFresh p).count (.tcp p) F.TCP_CABLE_ATTEMPTS).pdSay p .vdm [vdmReq (s.pdRev2 p) 0xFF00 1 0] [] true) :=
  congrArg Host.Outcome.next (State.pdTick_acts hup (by rw [hrun, hen, hidle, hactive, State.flag, hsrc]; rfl))

end

theorem exec_sinkWaitCapTimeout (hpe : s.pe p = 6) (hvbus : (s.pd p).snkWaitVbus = false) (hwant : (s.pd p).want = .none) :
    exec (.sinkWaitCapTimeout p) s = .next ((s.pdFresh p).hardReset p true 2) :=
  congrArg Host.Outcome.next (State.pdTick_acts hup (by simp [hpe, hvbus, hwant]))

section
variable (hpe : s.pe p = 7) (hwant : (s.pd p).want = .none) (hpolicy : s.pdFlag p F.TCP_PD_POLICY_SWAP_TO_SRC = true)
  (hfew : (s.pd p).prTries < 3)
include hpe hwant hpolicy hfew

theorem exec_swapAttempt_unreserved (hnone : s.reserveHeld p = false) :
    exec (.swapAttempt p) s = .next ((s.pdFresh p).askReserve p) := by
  have hdue : (s.pdFresh p).pe p = 7 ∧ (s.pdFresh p).pdFlag p F.TCP_PD_POLICY_SWAP_TO_SRC = true ∧ ((s.pdFresh p).pd p).prTries < 3 :=
    ⟨hpe, hpolicy, by simpa using hfew⟩
  refine congrArg Host.Outcome.next ((State.pdTick_acts hup (by simp [State.pdReady, hpe, hwant])).trans ?_)
  rw [if_pos hdue, State.pdFresh_reserveHeld, hnone]
  rfl

theorem exec_swapAttempt_reserved (hheld : s.reserveHeld p = true) (hclose : s.mayClose p = true)
    (hvreg : nearTarget (s.get (.vbs p) F.VBS_MEAS_VREG) 5000 = true) :
    exec (.swapAttempt p) s = .next ((((s.pdFresh p).pdSay p .prSwap).setPe p 8).pdWith p (fun d =>
      { d with want := .swapAnswer, swapOwn := true, swapPower := false })) := by
  have hdue : (s.pdFresh p).pe p = 7 ∧ (s.pdFresh p).pdFlag p F.TCP_PD_POLICY_SWAP_TO_SRC = true ∧ ((s.pdFresh p).pd p).prTries < 3 :=
    ⟨hpe, hpolicy, by simpa using hfew⟩
  have hclose' : (s.pdFresh p).mayClose p = true := hclose
  refine congrArg Host.Outcome.next ((State.pdTick_acts hup (by simp [State.pdReady, hpe, hwant])).trans ?_)
  rw [if_pos hdue, State.pdFresh_reserveHeld, if_pos hheld, hclose', State.pdFresh_get, hvreg]
  rfl

end

theorem exec_sinkHardResetTimeout_lost (hcc : s.ccSt p = 7) (hwait : (s.pd p).snkWaitVbus = true) (hvbus : s.vbusUv10 p < 40000000) :
    exec (.sinkHardResetTimeout p) s = .next (((s.pdFresh p).ccEnd p 1 0 0 0).count (.tcp p) F.TCP_CC_CNT_RECOVERIES) :=
  congrArg Host.Outcome.next ((State.pdTick_acts hup (by simp [hcc, hwait])).trans (if_neg (Nat.not_le_of_lt hvbus)))

theorem exec_frsSignal (hpe : s.pe p = 7) (harmed : s.get (.tcp p) F.TCP_PD_STATUS_FRS_ARMED = 1) :
    exec (.frsSignal p) s = .next ((((s.pdFresh p).pdSay p .frSwap).setPe p 9).pdWith p (fun d =>
      { d with frsSeen := true, want := .swapAnswer, swapOwn := true, swapPower := false })) :=
  congrArg Host.Outcome.next (State.pdTick_acts hup (by simp [hpe, State.flag, harmed]))

theorem exec_frsVbusDrop (hpe : s.pe p = 9) (hseen : (s.pd p).frsSeen = true) (hclose : s.mayClose p = true)
    (hopen : s.get (.vbs p) F.VBS_STATUS_STATE = 0) : exec (.frsVbusDrop p) s = .next ((s.pdFresh p).frsPowered p) :=
  congrArg Host.Outcome.next (State.pdTick_acts hup (by simp [hpe, hseen, hclose, State.vbsStt, hopen]))

theorem exec_consoleModeAttempt (hmay : s.modeMay p = true) (hstep : (s.pd p).modeStep = 0) (hwant : (s.pd p).want = .none) :
    exec (.consoleModeAttempt p) s =
      .next (((s.pdFresh p).pdWith p (fun d => { d with modeStep := 1 })).startSinkTx p) := by
  have hready : s.pdReady p = true := by
    have hpe : s.pe p = 5 := by
      simp only [State.modeMay, Bool.and_eq_true, beq_iff_eq] at hmay
      exact hmay.1.1.2
    simp [State.pdReady, hpe, hwant]
  exact congrArg Host.Outcome.next (State.pdTick_acts hup (by simp [hmay, hstep, hready]))

theorem exec_vdmResponseTimeout_mode (hwant : (s.pd p).want = .vdm) (hstep : (s.pd p).modeStep ≠ 0) :
    exec (.vdmResponseTimeout p) s = .next ((s.pdFresh p).modeFail p) :=
  congrArg Host.Outcome.next ((State.pdTick_acts hup rfl).trans ((if_pos (by simpa using hwant)).trans (if_neg (by simpa using hstep))))

end

/-- Settles O26: each timer or signal is one of the engine's shared steps from the state in which its event begins. -/
theorem pdTimersOfASinkAndOfItsPartner : Obligations.PdTimersOfASinkAndOfItsPartner := by
  unfold Obligations.PdTimersOfASinkAndOfItsPartner
  refine ⟨fun p s hup hrun hsrc hidle hen hactive hfew =>
      ⟨_, exec_discoverIdentityAttempt hup hrun hsrc hidle hen hactive, ?attempt⟩,
    fun p s hup hrun hsrc hidle hen hactive hmany =>
      ⟨_, exec_discoverIdentityAttempt hup hrun hsrc hidle hen hactive, ?failed⟩,
    fun p s hup hpe hvbus hwant hfew hsink => ⟨_, exec_sinkWaitCapTimeout hup hpe hvbus hwant, ?noCaps⟩,
    fun p s hup hpe hwant hpolicy hfew hnone hclose hopen hheard hlock =>
      ⟨_, exec_swapAttempt_unreserved hup hpe hwant hpolicy hfew hnone,
        State.askReserve_parts (s := s.pdFresh p) hclose hopen hheard hlock⟩,
    fun p s hup hpe hwant hpolicy hfew hheld hclose hvreg =>
      ⟨_, exec_swapAttempt_reserved hup hpe hwant hpolicy hfew hheld hclose hvreg, ?swap⟩,
    fun p s hup hcc hwait hvbus => ⟨_, exec_sinkHardResetTimeout_lost hup hcc hwait hvbus, ?lost⟩,
    fun p s hup hpe harmed => ⟨_, exec_frsSignal hup hpe harmed, ?signal⟩,
    fun p s hup hpe hseen hclose hopen => ⟨_, exec_frsVbusDrop hup hpe hseen hclose hopen, ?powered⟩,
    fun p s hup hmay hstep hwant =>
      ⟨_, exec_consoleModeAttempt hup hmay hstep hwant, by simp [State.startSinkTx], by simp [State.startSinkTx]⟩,
    fun p s hup hwant hstep => ⟨_, exec_vdmResponseTimeout_mode hup hwant hstep, ?modeFailed⟩⟩
  case attempt =>
    rw [if_neg (by omega)]
    have hsay {u : State} : u.WritesIn [] (u.pdSay p .vdm [vdmReq (s.pdRev2 p) 0xFF00 1 0] [] true) := .pdSay (.refl u)
    refine ⟨(hsay.get _ _ rfl).trans (State.get_count_of_lt (s := s.pdFresh p) (by decide) ?_), ?_⟩
    · show s.get (.tcp p) F.TCP_CABLE_ATTEMPTS + 1 < 32
      omega
    · simp [State.count, State.countBy]
  case failed =>
    have hfail : (s.pdFresh p).cableTried p = (s.pdFresh p).cableFail p := if_pos (by simp [hrun, hmany])
    rw [if_pos hmany, hfail]
    exact (s.pdFresh p).cableFail_parts p
  case noCaps =>
    rw [State.hardReset_sink (s := s.pdFresh p) hpe hfew hsink]
    obtain ⟨hstate, hwait, hout⟩ := ((s.pdFresh p).hardNoted p true 2).sinkReset_parts p
    refine ⟨hstate, hwait, ?_⟩
    rw [hout, State.out_hardNoted, State.pd_pdFresh]
    rfl
  case swap => exact ⟨by rw [State.pdWith_get, State.pe_setPe _ _ (by decide)], by simp, by simp⟩
  case lost =>
    obtain ⟨hforgot, -⟩ := (s.pdFresh p).tcp_ccEnd p 1 0 0 0
    exact ⟨(State.get_put_bits _ _ _ _ _ (by decide)).trans ((s.pdFresh p).ccSt_ccEnd p (by decide) 0 0 0), hforgot⟩
  case signal => exact ⟨by rw [State.pdWith_get, State.pe_setPe _ _ (by decide)], by simp, by simp⟩
  case powered =>
    simpa using (s.pdFresh p).frsPowered_parts p
  case modeFailed => simpa using (s.pdFresh p).modeFail_parts p

end Sys2Proof.Machine

namespace Sys2Proof.Machine

/-! PROOFS. The front of the queue (O1), and the commands that only answer (O7). -/

/-- Settles O1: both cases are the two branches of `step`. -/
theorem stepTakesTheFrontCommand : Obligations.StepTakesTheFrontCommand := by
  unfold Obligations.StepTakesTheFrontCommand
  refine ⟨fun c rest s h => ?front, fun s h => ?idle⟩
  case front => simp only [step, h]
  case idle => simp only [step, h]

/-! ### Commands that only answer -/

/-- An outcome that is `s` but for the answer. -/
def State.Answers (s : State) (o : Host.Outcome State Fault Refusal) : Prop := ∃ a, o = .next (s.reply a)

theorem State.Answers.same (s : State) : s.Answers (.next s) := ⟨s.answer, rfl⟩

theorem State.Answers.reply (s : State) (a : Answer) : s.Answers (.next (s.reply a)) := ⟨a, rfl⟩

theorem exec_ringForward_answers (fr : RingFrame) (s : State) : s.Answers (exec (.ringForward fr) s) := by
  change s.Answers (execRingForward fr s)
  unfold execRingForward
  split
  · exact .same s
  · split
    · exact .reply s _
    · split
      · exact .reply s _
      · exact .reply s _

/-- A request on a port of a context that only answers. -/
theorem State.portRequest_answers {s : State} {hc : HubCtx} {n : Nat} {dev : Port → Bool → State} {internal : State}
    (hdev : ∀ p own, s.Answers (.next (dev p own))) (hin : s.Answers (.next internal)) :
    s.Answers (.next (s.portRequest hc n dev internal)) := by
  unfold State.portRequest
  split
  · exact .reply s _
  · split
    · exact .reply s _
    · split
      · exact hdev _ _
      · exact hin

/-- A request on a port of a SuperSpeed context that only answers. -/
theorem State.ssRequest_answers {s : State} {sc : SsCtx} {n : Nat} {dev : Full → Bool → State} {root : State}
    (hdev : ∀ f own, s.Answers (.next (dev f own))) (hroot : s.Answers (.next root)) :
    s.Answers (.next (s.ssRequest sc n dev root)) := by
  unfold State.ssRequest
  split
  · exact .reply s _
  · split
    · exact .reply s _
    · split
      · exact hdev _ _
      · exact hroot

theorem State.hubPoll_answers (s : State) (hc : HubCtx) : s.Answers (.next (s.hubPoll hc)) := by
  unfold State.hubPoll State.ctxRequest
  dsimp only
  split
  · split
    · exact .reply s _
    · split
      · exact .reply s _
      · exact .reply s _
  · exact .reply s _

theorem State.ssPoll_answers (s : State) (sc : SsCtx) : s.Answers (.next (s.ssPoll sc)) := by
  unfold State.ssPoll
  dsimp only
  split
  · exact .reply s _
  · split
    · exact .reply s _
    · exact .reply s _

/-- The five commands that `touches` lets change the answer alone do no more. -/
theorem exec_answers_of_touches {c : Instr} (s : State) (h : (touches c == [.answer]) = true) : s.Answers (exec c s) := by
  cases c with
  | ringForward fr => exact exec_ringForward_answers fr s
  | getPortStatus hc n => exact State.portRequest_answers (fun _ _ => .reply s _) (.reply s _)
  | statusChangePoll hub =>
    cases hub with
    | usb2 hc => exact s.hubPoll_answers hc
    | ss sc => exact s.ssPoll_answers sc
  | getPortErrorCount sc n => exact State.ssRequest_answers (fun _ _ => .reply s _) (.reply s _)
  | ssGetPortStatus sc n ext => exact State.ssRequest_answers (fun _ _ => .reply s _) (.reply s _)
  | _ => exact absurd h Bool.false_ne_true

/-- The two commands that `touches` lets change nothing change nothing. -/
theorem exec_of_touches_nil {c : Instr} (s : State) (h : (touches c == []) = true) : exec c s = .next s := by
  cases c with
  | refresh => rfl
  | zqCalibration => rfl
  | _ => exact absurd h Bool.false_ne_true

/-- Settles O7: `touches` names the answer alone for five commands, and nothing for two. -/
theorem answerOnlyCommandsChangeNothingElse : Obligations.AnswerOnlyCommandsChangeNothingElse := by
  unfold Obligations.AnswerOnlyCommandsChangeNothingElse
  refine ⟨fun c s t hc ht => ?answers, fun c s hc => exec_of_touches_nil s (by rw [hc]; rfl)⟩
  obtain ⟨a, ha⟩ := exec_answers_of_touches s (by rw [hc]; rfl)
  obtain rfl := Host.Outcome.next.inj (ht.symm.trans ha)
  rfl

end Sys2Proof.Machine

namespace Sys2Proof.Machine

/-! PROOFS. Rules for reading the state after the shared operations: a register field after a write elsewhere, a counter or an event, and a
part behind the registers after the changes that do not reach it. -/

/-! ### Registers -/

section
variable (s : State) (pg pg' : PageId)

/-- An event leaves every field outside `INT_STATUS`, on whatever page. -/
theorem State.get_raiseWith_off (e : Ev) (src d : Nat) (b : Bool) (j : Subject) {f : Fld} (h : f.off ≠ 0xC) (hf : f.off < 0x1000) :
    (s.raiseWith pg e src d b j).get pg' f = s.get pg' f :=
  State.get_raiseWith s pg pg' e src d b j f (.inr h) hf

theorem State.get_raisePort_off (p : Port) (e : Ev) (d : Nat) (b : Bool) {f : Fld} (h : f.off ≠ 0xC) (hf : f.off < 0x1000) :
    (s.raisePort pg p e d b).get pg' f = s.get pg' f :=
  s.get_raiseWith_off pg pg' e _ d b _ h hf

theorem State.get_raisePres_off (u : Up) (e : Ev) (src d : Nat) (b : Bool) {f : Fld} (h : f.off ≠ 0xC) (hf : f.off < 0x1000) :
    (s.raisePres pg u e src d b).get pg' f = s.get pg' f :=
  s.get_raiseWith_off pg pg' e _ d b _ h hf

theorem State.get_raise_off (e : Ev) (src d : Nat) (b : Bool) {f : Fld} (h : f.off ≠ 0xC) (hf : f.off < 0x1000) :
    (s.raise pg e src d b).get pg' f = s.get pg' f :=
  s.get_raiseWith_off pg pg' e _ d b _ h hf

/-- A counter raised by `n` reads so, up to the largest value of its field (R56). -/
theorem State.get_countBy_same {f : Fld} (n : Nat) (h : f.lo + f.width ≤ 32) :
    (s.countBy pg f n).get pg f = min (s.get pg f + n) (2 ^ f.width - 1) := by
  have hpos := Nat.two_pow_pos f.width
  exact (State.get_put_same _ _ _ _ h).trans (Nat.mod_eq_of_lt (by omega))

theorem State.get_countBy_fld {f g : Fld} (n : Nat) (hf : f.off < 0x1000) (hg : g.off < 0x1000)
    (h : g.off ≠ f.off ∨ f.lo + f.width ≤ g.lo ∨ g.lo + g.width ≤ f.lo) : (s.countBy pg f n).get pg' g = s.get pg' g :=
  State.get_put_fld s pg pg' f g _ hf hg h

/-- A flag reads as it was set. -/
theorem State.get_setFlag_same {f : Fld} (b : Bool) (h : f.lo + f.width ≤ 32) (hw : f.width ≠ 0) : (s.setFlag pg f b).get pg f = bit b :=
  State.get_put_fits s pg f (bit b) h (lt_of_lt_of_le (bit_lt b) (Nat.le_self_pow hw 2))

theorem State.get_setFlag_fld {f g : Fld} (b : Bool) (hf : f.off < 0x1000) (hg : g.off < 0x1000)
    (h : g.off ≠ f.off ∨ f.lo + f.width ≤ g.lo ∨ g.lo + g.width ≤ f.lo) : (s.setFlag pg f b).get pg' g = s.get pg' g :=
  State.get_put_fld s pg pg' f g _ hf hg h

end

/-! ### Parts behind the registers -/

section
variable (s : State)

/-- An event changes registers and hand-off FIFOs alone. -/
theorem State.raiseWith_parts (pg : PageId) (e : Ev) (src d : Nat) (b : Bool) (j : Subject) :
    ∃ regs fifos, s.raiseWith pg e src d b j = { s with regs := regs, fifos := fifos } := by
  unfold State.raiseWith
  split
  · obtain ⟨fifos, h⟩ := s.handOff_parts (pg.base / 0x1000) (s.mkRecord pg e src d b j)
    exact ⟨s.regs, fifos, h⟩
  next n _ =>
    dsimp only
    split
    · obtain ⟨fifos, h⟩ := (s.put pg (F.INT_STATUS n) 1).handOff_parts (pg.base / 0x1000)
        ((s.put pg (F.INT_STATUS n) 1).mkRecord pg e src d b j)
      exact ⟨_, fifos, h⟩
    · exact ⟨_, s.fifos, rfl⟩

variable (pg : PageId)

@[simp] theorem State.u2p_put (fl : Fld) (x : Nat) (p : Port) : (s.put pg fl x).u2p p = s.u2p p := (rfl)
@[simp] theorem State.hub_put (fl : Fld) (x : Nat) (hc : HubCtx) : (s.put pg fl x).hub hc = s.hub hc := (rfl)
@[simp] theorem State.ssp_put (fl : Fld) (x : Nat) (f : Full) : (s.put pg fl x).ssp f = s.ssp f := (rfl)
@[simp] theorem State.ssHub_put (fl : Fld) (x : Nat) (sc : SsCtx) : (s.put pg fl x).ssHub sc = s.ssHub sc := (rfl)
@[simp] theorem State.upLk_put (fl : Fld) (x : Nat) (u : Up) : (s.put pg fl x).upLk u = s.upLk u := (rfl)
@[simp] theorem State.pres_put (fl : Fld) (x : Nat) (u : Up) : (s.put pg fl x).pres u = s.pres u := (rfl)
@[simp] theorem State.mgf_put (fl : Fld) (x : Nat) (u : Up) : (s.put pg fl x).mgf u = s.mgf u := (rfl)
@[simp] theorem State.lhe_put (fl : Fld) (x : Nat) (p : Port) : (s.put pg fl x).lhe p = s.lhe p := (rfl)
@[simp] theorem State.vbs_put (fl : Fld) (x : Nat) (p : Port) : (s.put pg fl x).vbs p = s.vbs p := (rfl)

@[simp] theorem State.u2p_reply (x : Answer) (p : Port) : (s.reply x).u2p p = s.u2p p := (rfl)
@[simp] theorem State.hub_reply (x : Answer) (hc : HubCtx) : (s.reply x).hub hc = s.hub hc := (rfl)
@[simp] theorem State.ssp_reply (x : Answer) (f : Full) : (s.reply x).ssp f = s.ssp f := (rfl)
@[simp] theorem State.ssHub_reply (x : Answer) (sc : SsCtx) : (s.reply x).ssHub sc = s.ssHub sc := (rfl)
@[simp] theorem State.upLk_reply (x : Answer) (u : Up) : (s.reply x).upLk u = s.upLk u := (rfl)
@[simp] theorem State.pres_reply (x : Answer) (u : Up) : (s.reply x).pres u = s.pres u := (rfl)
@[simp] theorem State.mgf_reply (x : Answer) (u : Up) : (s.reply x).mgf u = s.mgf u := (rfl)
@[simp] theorem State.lhe_reply (x : Answer) (p : Port) : (s.reply x).lhe p = s.lhe p := (rfl)
@[simp] theorem State.vbs_reply (x : Answer) (p : Port) : (s.reply x).vbs p = s.vbs p := (rfl)

variable (e : Ev) (src d : Nat) (b : Bool) (j : Subject)

@[simp] theorem State.raiseWith_answer : (s.raiseWith pg e src d b j).answer = s.answer := by
  obtain ⟨_, _, h⟩ := s.raiseWith_parts pg e src d b j
  rw [h]

@[simp] theorem State.raiseWith_moveCause : (s.raiseWith pg e src d b j).moveCause = s.moveCause := by
  obtain ⟨_, _, h⟩ := s.raiseWith_parts pg e src d b j
  rw [h]

@[simp] theorem State.raiseWith_moveBegun : (s.raiseWith pg e src d b j).moveBegun = s.moveBegun := by
  obtain ⟨_, _, h⟩ := s.raiseWith_parts pg e src d b j
  rw [h]

@[simp] theorem State.raiseWith_epm : (s.raiseWith pg e src d b j).epm = s.epm := by
  obtain ⟨_, _, h⟩ := s.raiseWith_parts pg e src d b j
  rw [h]

@[simp] theorem State.raiseWith_graver : (s.raiseWith pg e src d b j).graver = s.graver := by
  obtain ⟨_, _, h⟩ := s.raiseWith_parts pg e src d b j
  rw [h]

@[simp] theorem State.raiseWith_dram : (s.raiseWith pg e src d b j).dram = s.dram := by
  obtain ⟨_, _, h⟩ := s.raiseWith_parts pg e src d b j
  rw [h]

@[simp] theorem State.raiseWith_cpt : (s.raiseWith pg e src d b j).cpt = s.cpt := by
  obtain ⟨_, _, h⟩ := s.raiseWith_parts pg e src d b j
  rw [h]

@[simp] theorem State.raiseWith_runs : (s.raiseWith pg e src d b j).runs = s.runs := by
  obtain ⟨_, _, h⟩ := s.raiseWith_parts pg e src d b j
  rw [h]

@[simp] theorem State.raiseWith_coreHeld : (s.raiseWith pg e src d b j).coreHeld = s.coreHeld := by
  obtain ⟨_, _, h⟩ := s.raiseWith_parts pg e src d b j
  rw [h]

@[simp] theorem State.u2p_raiseWith (p : Port) : (s.raiseWith pg e src d b j).u2p p = s.u2p p := by
  obtain ⟨_, _, h⟩ := s.raiseWith_parts pg e src d b j
  rw [h]
  rfl

@[simp] theorem State.hub_raiseWith (hc : HubCtx) : (s.raiseWith pg e src d b j).hub hc = s.hub hc := by
  obtain ⟨_, _, h⟩ := s.raiseWith_parts pg e src d b j
  rw [h]
  rfl

@[simp] theorem State.ssp_raiseWith (f : Full) : (s.raiseWith pg e src d b j).ssp f = s.ssp f := by
  obtain ⟨_, _, h⟩ := s.raiseWith_parts pg e src d b j
  rw [h]
  rfl

@[simp] theorem State.ssHub_raiseWith (sc : SsCtx) : (s.raiseWith pg e src d b j).ssHub sc = s.ssHub sc := by
  obtain ⟨_, _, h⟩ := s.raiseWith_parts pg e src d b j
  rw [h]
  rfl

@[simp] theorem State.upLk_raiseWith (u : Up) : (s.raiseWith pg e src d b j).upLk u = s.upLk u := by
  obtain ⟨_, _, h⟩ := s.raiseWith_parts pg e src d b j
  rw [h]
  rfl

@[simp] theorem State.pres_raiseWith (u : Up) : (s.raiseWith pg e src d b j).pres u = s.pres u := by
  obtain ⟨_, _, h⟩ := s.raiseWith_parts pg e src d b j
  rw [h]
  rfl

@[simp] theorem State.mgf_raiseWith (u : Up) : (s.raiseWith pg e src d b j).mgf u = s.mgf u := by
  obtain ⟨_, _, h⟩ := s.raiseWith_parts pg e src d b j
  rw [h]
  rfl

@[simp] theorem State.lhe_raiseWith (p : Port) : (s.raiseWith pg e src d b j).lhe p = s.lhe p := by
  obtain ⟨_, _, h⟩ := s.raiseWith_parts pg e src d b j
  rw [h]
  rfl

@[simp] theorem State.vbs_raiseWith (p : Port) : (s.raiseWith pg e src d b j).vbs p = s.vbs p := by
  obtain ⟨_, _, h⟩ := s.raiseWith_parts pg e src d b j
  rw [h]
  rfl

@[simp] theorem State.hubWith_same (hc : HubCtx) (f : HubCtxSt → HubCtxSt) : (s.hubWith hc f).hub hc = f (s.hub hc) := by
  simp [State.hubWith, State.hub]

@[simp] theorem State.ssHubWith_same (sc : SsCtx) (f : SsCtxSt → SsCtxSt) : (s.ssHubWith sc f).ssHub sc = f (s.ssHub sc) := by
  simp [State.ssHubWith, State.ssHub]

@[simp] theorem State.mgf_mgfWith (u : Up) (f : MgfSt → MgfSt) : (s.mgfWith u f).mgf u = f (s.mgf u) := s.mgfWith_same u f

@[simp] theorem State.lhe_lheWith (p : Port) (f : LheSt → LheSt) : (s.lheWith p f).lhe p = f (s.lhe p) := s.lheWith_same p f

end

end Sys2Proof.Machine

namespace Sys2Proof.Machine

/-! PROOFS. The USB 2.0 side of a port (O39): what its device does, and the ends of the intervals that the port runs (R272–R274, R286–R288). -/

/-! ### Change bits in the owner's view -/

section
variable (s : State) (p : Port)

/-- `wPortChange` of both views once the owner's has taken some bits (R268). -/
def State.chgTaken (bits : BitVec 16) : Vector (BitVec 16) 2 :=
  match s.ownerSide p with
  | none => (s.u2p p).chg
  | some c => (s.u2p p).chg.set c ((s.u2p p).chg[c] ||| bits)

@[simp] theorem State.addChg_u2p (bits : BitVec 16) : (s.addChg p bits).u2p p = { s.u2p p with chg := s.chgTaken p bits } := by
  cases h : s.ownerSide p <;> simp [State.addChg, State.chgTaken, h]

@[simp] theorem State.addChg_get (bits : BitVec 16) (pg : PageId) (f : Fld) : (s.addChg p bits).get pg f = s.get pg f := by
  unfold State.addChg
  split <;> rfl

/-! ### The state of a port -/

@[simp] theorem State.u2St_setU2 {v : Nat} (hv : v < 16) : (s.setU2 p v).u2St p = v :=
  State.get_put_fits _ _ _ _ (by decide) hv

@[simp] theorem State.u2p_setU2 (q : Port) (v : Nat) : (s.setU2 p v).u2p q = s.u2p q := State.u2p_put ..

/-- The state of a port is four bits of `U2P_STATUS`: a write of it leaves every other field. -/
theorem State.get_setU2 (pg : PageId) {f : Fld} (v : Nat) (hf : f.off < 0x1000) (h : f.off ≠ 0x44 ∨ 4 ≤ f.lo) :
    (s.setU2 p v).get pg f = s.get pg f :=
  State.get_put_fld _ _ _ _ _ _ (by decide) hf (h.imp id .inl)

/-- A change of one port that keeps a value of every port's record. -/
theorem State.u2pWith_keeps {α : Type} (g : U2pSt → α) {h : U2pSt → U2pSt} (hg : ∀ u, g (h u) = g u) (q : Port) :
    g ((s.u2pWith p h).u2p q) = g (s.u2p q) := by
  by_cases hq : q = p
  · subst hq
    rw [State.u2pWith_same, hg]
  · rw [State.u2pWith_ne s p q h hq]

/-! ### Counted errors (R448) -/

theorem portBit_off_lt {f : Nat → Fld} (h0 : (f 0).off < 0x1000) (h1 : (f 1).off < 0x1000) (p : Port) : (portBit f p).off < 0x1000 := by
  have hp : p.val / 32 = 0 ∨ p.val / 32 = 1 := by omega
  rcases hp with h | h <;> simp only [portBit, h] <;> assumption

/-- An error counted reads so on its own page. -/
theorem State.get_countErr_same {pg : PageId} {f : Fld} (hpg : pg ≠ .hlt) (hf : f.off < 0x1000) (hw : f.lo + f.width ≤ 32) :
    (s.countErr pg p f).get pg f = min (s.get pg f + 1) (2 ^ f.width - 1) := by
  unfold State.countErr
  rw [State.get_put_page _ _ _ _ hpg (portBit_off_lt (by decide) (by decide) p) hf, State.get_count_same _ _ _ hw]

/-- An error counted leaves every other field outside `HLT`. -/
theorem State.get_countErr_fld {pg pg' : PageId} {f g : Fld} (hpg : pg' ≠ .hlt) (hf : f.off < 0x1000) (hg : g.off < 0x1000)
    (h : g.off ≠ f.off ∨ f.lo + f.width ≤ g.lo ∨ g.lo + g.width ≤ f.lo) : (s.countErr pg p f).get pg' g = s.get pg' g := by
  unfold State.countErr
  rw [State.get_put_page _ _ _ _ hpg (portBit_off_lt (by decide) (by decide) p) hg, State.get_count_fld _ _ _ _ _ hf hg h]

/-! ### A port that serves no device -/

/-- The counts of a translator are fields of its `U2P_TT_STATUS` alone. -/
theorem State.get_ttSync (pg : PageId) {f : Fld} (hf : f.off < 0x1000) (h : f.off ≠ F.U2P_TT_STATUS_PER_USED.off) :
    (s.ttSync p).get pg f = s.get pg f := by
  unfold State.ttSync
  dsimp only
  have hput {u : State} {g : Fld} (v : Nat) (hg : g.off = F.U2P_TT_STATUS_PER_USED.off) : (u.put (.u2p p) g v).get pg f = u.get pg f :=
    State.get_put_fld _ _ _ _ _ _ (by rw [hg]; decide) hf (.inl (by rwa [hg]))
  rw [hput (g := F.U2P_TT_STATUS_NP_DONE) _ rfl, hput (g := F.U2P_TT_STATUS_NP_BUSY) _ rfl, hput _ rfl]

@[simp] theorem State.u2p_ttSync (q : Port) : (s.ttSync p).u2p q = s.u2p q := by
  simp [State.ttSync]

theorem State.get_ttDrop (pg : PageId) {f : Fld} (hf : f.off < 0x1000) (h : f.off ≠ F.U2P_TT_STATUS_PER_USED.off) :
    (s.ttDrop p).get pg f = s.get pg f := by
  unfold State.ttDrop
  rw [State.get_ttSync _ _ _ hf h, State.u2pWith_get]

/-- The entries that leave a translator change nothing else of any port. -/
theorem State.ttDrop_keeps {α : Type} (g : U2pSt → α) (hg : ∀ u per non, g { u with periodic := per, nonper := non } = g u) (q : Port) :
    g ((s.ttDrop p).u2p q) = g (s.u2p q) := by
  unfold State.ttDrop
  rw [State.u2p_ttSync]
  exact s.u2pWith_keeps _ g (fun u => hg u _ _) q

/-- A port that serves a device no longer (R273). -/
theorem State.u2Gone_parts {st : Nat} (hst : st < 16) : (s.u2Gone p st).u2St p = st ∧ ((s.u2Gone p st).u2p p).connected = false ∧
    (s.u2Gone p st).get (.u2p p) F.U2P_STATUS_SPEED = 0 := by
  unfold State.u2Gone
  refine ⟨State.u2St_setU2 _ _ hst, ?_, ?_⟩
  · rw [State.u2p_setU2, State.ttDrop_keeps _ _ U2pSt.connected (fun _ _ _ => rfl)]
    simp
  · rw [State.get_setU2 _ _ _ _ (by decide) (.inr (by decide)), State.get_ttDrop _ _ _ (by decide) (by decide)]
    simp (disch := decide) only [State.get_put_bits, State.get_put_fits]

end

/-! ### The commands -/

section
variable {s : State} {p : Port}

theorem exec_connect (low : Bool) (hup : s.portUp p = true) (hst : s.u2St p = 2) (hbar : s.u2Barred p = false)
    (howner : s.curOwner p ≠ 0) : exec (.connect p low) s =
      .next (((s.u2pWith p (fun u => { u with connected := true, lowSpeed := low })).addChg p cConnection).setU2 p 3) :=
  show execConnect p low s = _ from if_neg (by simp [hup, hst, hbar, howner])

theorem exec_connect_unowned (low : Bool) (howner : s.curOwner p = 0) : exec (.connect p low) s = .next s :=
  show execConnect p low s = _ from if_pos (by simp [howner])

theorem exec_disconnect (hup : s.portUp p = true) (hcon : (s.u2p p).connected = true) (hlo : 3 ≤ s.u2St p) (hhi : s.u2St p ≤ 8) :
    exec (.disconnect p) s = .next (s.u2Gone p 2) :=
  show execDisconnect p s = _ from if_pos (by simp [hup, hcon, hlo, hhi])

theorem exec_babble (hup : s.portUp p = true) (hst : s.u2St p = 5) (hctx : (s.ownerCtx p).isSome = true) :
    exec (.babble p) s = .next (((s.u2Disable p).addChg p cEnable).countErr (.u2p p) p F.U2P_CNT_BABBLE) :=
  show execBabble p s = _ from if_neg (by simpa [hup, hst, ← Option.isSome_iff_ne_none] using hctx)

/-- A port put in DISABLED with its device connected (R274, R281). -/
theorem State.u2Disable_parts (s : State) (p : Port) : (s.u2Disable p).u2St p = 3 ∧
    ∀ f : Fld, f.off < 0x1000 → f.off ≠ 0x44 → (s.u2Disable p).get (.u2p p) f = s.get (.u2p p) f := by
  unfold State.u2Disable
  refine ⟨State.u2St_setU2 _ _ (by decide), fun f hf hoff => ?_⟩
  rw [State.get_setU2 _ _ _ _ hf (.inl hoff), State.get_put_off _ _ _ _ _ hoff, State.u2pWith_get]

theorem exec_chirpK (hup : s.portUp p = true) (hst : s.u2St p = 4) (hchirp : s.chirpAllowed p = true)
    (hlow : (s.u2p p).lowSpeed = false) : exec (.chirpK p) s = .next (s.u2pWith p (fun u => { u with chirped := true })) :=
  show execChirpK p s = _ from if_pos (by simp [hup, hst, hchirp, hlow])

/-- The speed that a reset has found (R274). -/
def U2pSt.foundSpeed (u : U2pSt) : Nat := if u.chirped then 3 else if u.lowSpeed then 1 else 2

theorem U2pSt.foundSpeed_lt (u : U2pSt) : u.foundSpeed < 4 := by
  unfold U2pSt.foundSpeed
  split
  · decide
  · split <;> decide

theorem exec_portResetEnd_run (hst : s.u2St p = 4) : exec (.portResetEnd (.run p)) s =
    .next (((s.put (.u2p p) F.U2P_STATUS_SPEED (s.u2p p).foundSpeed).addChg p cReset).setU2 p 5) :=
  show execPortResetEnd (.run p) s = _ from if_neg (by simp [hst])

theorem exec_portResetEnd_view {c : Fin 2} (hrst : (s.u2p p).rstView.getLsbD c.val = true) : exec (.portResetEnd (.view p c)) s =
    .next (s.u2pWith p (fun u => { u with chg := u.chg.set c (u.chg[c] ||| cReset), rstView := u.rstView &&& ~~~(1#2 <<< c.val) })) :=
  show execPortResetEnd (.view p c) s = _ from congrArg Host.Outcome.next (if_pos hrst)

theorem exec_resumeEnd (hst : s.u2St p = 7) (hl1 : (s.u2p p).fromL1 = false) : exec (.resumeEnd p) s =
    .next (((if (s.u2p p).resumeSets then s.addChg p cSuspend else s).setU2 p 5).raisePort (.u2p p) p evResume
      ((s.u2p p).resumeCause.val + 16 * s.ctxBit p)) :=
  show execResumeEnd p s = _ from if_neg (by simp [hst, hl1])

/-- The exit of L1 that has ended (R287). -/
def State.l1Left (s : State) (p : Port) : State :=
  ((s.put (.u2p p) F.U2P_STATUS_L1_RWE 0).u2pWith p (fun u => { u with fromL1 := false })).setU2 p 5

theorem State.l1Left_parts (s : State) (p : Port) : (s.l1Left p).u2St p = 5 ∧ (s.l1Left p).get (.u2p p) F.U2P_STATUS_L1_RWE = 0 ∧
    ((s.l1Left p).u2p p).fromL1 = false := by
  unfold State.l1Left
  refine ⟨State.u2St_setU2 _ _ (by decide), ?_, by simp⟩
  rw [State.get_setU2 _ _ _ _ (by decide) (.inr (by decide)), State.u2pWith_get]
  exact State.get_put_fits _ _ _ _ (by decide) (by decide)

theorem exec_l1ExitEnd (hst : s.u2St p = 7) (hl1 : (s.u2p p).fromL1 = true) : exec (.l1ExitEnd p) s =
    .next (if (s.u2p p).resumeSets then ((s.l1Left p).addChg p cL1).raisePort (.u2p p) p evResume
      ((s.u2p p).resumeCause.val + 8 + 16 * s.ctxBit p) else s.l1Left p) := by
  refine (show execL1ExitEnd p s = _ from if_neg (by simp [hst, hl1])).trans ?_
  split <;> rfl

/-- The state of a port after an event. -/
@[simp] theorem State.u2St_raisePort (s : State) (pg : PageId) (q p : Port) (e : Ev) (d : Nat) (b : Bool) :
    (s.raisePort pg q e d b).u2St p = s.u2St p :=
  s.get_raisePort_off _ _ _ _ _ _ (by decide) (by decide)

/-- A port whose device has acknowledged the LPM transaction (R287). -/
def State.l1Entered (s : State) (p : Port) (hird : BitVec 4) (rwe : Bool) : State :=
  ((((s.u2pWith p (fun u => { u with lpm := none })).put (.u2p p) F.U2P_STATUS_HIRD hird.toNat).setFlag (.u2p p)
    F.U2P_STATUS_L1_RWE rwe).count (.u2p p) F.U2P_LPM_CNT_L1_ENTRIES).setU2 p 8

theorem State.l1Entered_parts (s : State) (p : Port) (hird : BitVec 4) (rwe : Bool) : (s.l1Entered p hird rwe).u2St p = 8 ∧
    (s.l1Entered p hird rwe).get (.u2p p) F.U2P_STATUS_HIRD = hird.toNat ∧
    (s.l1Entered p hird rwe).get (.u2p p) F.U2P_STATUS_L1_RWE = bit rwe := by
  unfold State.l1Entered
  refine ⟨State.u2St_setU2 _ _ (by decide), ?_, ?_⟩
  · rw [State.get_setU2 _ _ _ _ (by decide) (.inr (by decide)), State.get_count_fld _ _ _ _ _ (by decide) (by decide) (by decide),
      State.get_setFlag_fld _ _ _ _ (by decide) (by decide) (by decide)]
    exact State.get_put_fits _ _ _ _ (by decide) hird.isLt
  · rw [State.get_setU2 _ _ _ _ (by decide) (.inr (by decide)), State.get_count_fld _ _ _ _ _ (by decide) (by decide) (by decide)]
    exact State.get_setFlag_same _ _ _ (by decide) (by decide)

theorem exec_lpmAnswer_ack {hird : BitVec 4} {rwe : Bool} (hlpm : (s.u2p p).lpm = some (hird, rwe)) : exec (.lpmAnswer p .ack) s =
    .next (((s.l1Entered p hird rwe).raisePort (.u2p p) p evSuspend
      (3 + 4 * (s.u2pWith p (fun u => { u with lpm := none })).ctxBit p)).reply (.bytes [0])) := by
  change execLpmAnswer p .ack s = _
  unfold execLpmAnswer
  rw [hlpm]
  rfl

/-- Resume K driven by a port (R286). -/
theorem State.startResume_parts (s : State) (p : Port) (fromL1 : Bool) (cause : Fin 5) (sets : Bool) :
    (s.startResume p fromL1 cause sets).u2St p = 7 ∧ ((s.startResume p fromL1 cause sets).u2p p) =
      { s.u2p p with fromL1 := fromL1, resumeCause := cause, resumeSets := sets } := by
  unfold State.startResume
  exact ⟨State.u2St_setU2 _ _ (by decide), by simp⟩

/-- A suspended port whose context is awake resumes with its device's K (R286). -/
theorem exec_remoteWake {hc : HubCtx} (hup : s.portUp p = true) (hst : s.u2St p = 6) (hctx : s.ownerCtx p = some hc)
    (hact : s.ctxActive hc = true) (hsusp : (s.hub hc).suspended = false) (hK : (s.hub hc).upK = false) :
    exec (.remoteWake p) s = .next (s.startResume p false 2 true) := by
  change execRemoteWake p s = _
  unfold execRemoteWake
  rw [hctx]
  simp [hup, hst, hact, hsusp, hK, State.wakePort]

end

/-- Settles O39: each command is the change of the port that its clause names, and what follows it leaves those fields. -/
theorem usb2PortFollowsItsDevice : Obligations.Usb2PortFollowsItsDevice := by
  unfold Obligations.Usb2PortFollowsItsDevice
  refine ⟨fun p low s hup hst hbar howner => ⟨_, exec_connect low hup hst hbar howner, by simp, by simp, by simp⟩,
    fun p low s howner => ⟨_, exec_connect_unowned low howner, rfl⟩,
    fun p s hup hcon hlo hhi => ⟨_, exec_disconnect hup hcon hlo hhi, s.u2Gone_parts p (by decide)⟩,
    fun p s hup hst hctx => ⟨_, exec_babble hup hst hctx, ?babble⟩,
    fun p s hup hst hchirp hlow => ⟨_, exec_chirpK hup hst hchirp hlow, rfl⟩,
    fun p s hst => ⟨_, exec_portResetEnd_run hst, by simp, ?speed⟩,
    fun p c s hrst => ⟨_, exec_portResetEnd_view hrst, by simp, by simp, rfl⟩,
    fun p s hst hl1 => ⟨_, exec_resumeEnd hst hl1, by simp⟩,
    fun p s hst hl1 => ⟨_, exec_l1ExitEnd hst hl1, ?left⟩,
    fun p hird rwe s hlpm => ⟨_, exec_lpmAnswer_ack hlpm, ?entered⟩,
    fun p hc s hup hst hctx hact hsusp hK => ⟨_, exec_remoteWake hup hst hctx hact hsusp hK, ?resumed⟩⟩
  case babble =>
    obtain ⟨hst', hrest⟩ := s.u2Disable_parts p
    constructor
    · exact (State.get_countErr_fld _ _ (by simp) (by decide) (by decide) (by decide)).trans ((State.addChg_get ..).trans hst')
    · rw [State.get_countErr_same _ _ (by simp) (by decide) (by decide), State.addChg_get, hrest _ (by decide) (by decide)]
  case speed =>
    rw [State.get_setU2 _ _ _ _ (by decide) (.inr (by decide)), State.addChg_get]
    exact State.get_put_fits _ _ _ _ (by decide) (s.u2p p).foundSpeed_lt
  case left =>
    obtain ⟨hst', hrwe, hfrom⟩ := s.l1Left_parts p
    split
    · refine ⟨?_, ?_, by simpa [State.raisePort] using hfrom⟩
      · rw [State.u2St_raisePort]
        exact (State.addChg_get ..).trans hst'
      · rw [State.get_raisePort_off _ _ _ _ _ _ _ (by decide) (by decide), State.addChg_get, hrwe]
    · exact ⟨hst', hrwe, hfrom⟩
  case entered =>
    obtain ⟨hst', hhird, hrwe⟩ := s.l1Entered_parts p hird rwe
    refine ⟨?_, ?_, ?_, State.reply_answer ..⟩
    · rw [State.u2St, State.reply_get]
      exact (State.u2St_raisePort ..).trans hst'
    · rw [State.reply_get, State.get_raisePort_off _ _ _ _ _ _ _ (by decide) (by decide), hhird]
    · rw [State.reply_get, State.get_raisePort_off _ _ _ _ _ _ _ (by decide) (by decide), hrwe]
  case resumed =>
    obtain ⟨hst', hu⟩ := s.startResume_parts p false 2 true
    exact ⟨hst', by rw [hu], by rw [hu]⟩

end Sys2Proof.Machine

namespace Sys2Proof.Machine

/-! PROOFS. What a port's USB evaluation and the opening of its switch leave of the host's power bits and of their holds (R275, R276): the
writes of both are narrowed to the fields that they reach, and the parts behind the registers are read through `KeepsBut`. -/

/-! ### A part read through a frame -/

section
variable {M : List Part} {s t : State}

theorem State.KeepsBut.u2p (h : s.KeepsBut M t) (hM : .u2pSt ∉ M) (p : Port) : t.u2p p = s.u2p p :=
  congrArg (fun v => v[p]) (h.same .u2pSt rfl hM)

theorem State.KeepsBut.hub (h : s.KeepsBut M t) (hM : .hubCtx ∉ M) (hc : HubCtx) : t.hub hc = s.hub hc :=
  congrArg (fun v => v[HubIx hc]) (h.same .hubCtx rfl hM)

theorem State.KeepsBut.ssp (h : s.KeepsBut M t) (hM : .sspSt ∉ M) (f : Full) : t.ssp f = s.ssp f :=
  congrArg (fun v => v[f]) (h.same .sspSt rfl hM)

theorem State.KeepsBut.upLk (h : s.KeepsBut M t) (hM : .upLink ∉ M) (u : Up) : t.upLk u = s.upLk u :=
  congrArg (fun v => v[u]) (h.same .upLink rfl hM)

theorem State.KeepsBut.pres (h : s.KeepsBut M t) (hM : .presSt ∉ M) (u : Up) : t.pres u = s.pres u :=
  congrArg (fun v => v[u]) (h.same .presSt rfl hM)

theorem State.KeepsBut.mgf (h : s.KeepsBut M t) (hM : .mgfSt ∉ M) (u : Up) : t.mgf u = s.mgf u :=
  congrArg (fun v => v[u]) (h.same .mgfSt rfl hM)

theorem State.KeepsBut.lhe (h : s.KeepsBut M t) (hM : .lheSt ∉ M) (p : Port) : t.lhe p = s.lhe p :=
  congrArg (fun v => v[p]) (h.same .lheSt rfl hM)

theorem State.KeepsBut.ssHub (h : s.KeepsBut M t) (hM : .ssCtx ∉ M) (sc : SsCtx) : t.ssHub sc = s.ssHub sc :=
  congrArg (fun v => v[SsIx sc]) (h.same .ssCtx rfl hM)

end

/-! ### The fields that the USB evaluation writes -/

/-- What a margining run that a link's leave ends writes (R319). -/
def Zone.margin : List Zone :=
  [.field .ssp F.SSP_MARGIN_RES_ERRORS, .field .ssp F.SSP_MARGIN_RES_STATUS, .field .ssp F.SSP_MARGIN_CMD_START]

/-- What a SuperSpeed link that leaves its state writes (R301, R313, R319). -/
def Zone.ssLeave : List Zone :=
  [.field .ssp F.SSP_STATUS_LINK_STATE, .field .ssp F.SSP_STATUS_GEN2, .field .ssp F.SSP_STATUS_FORCE_LPM, .field .ssp F.SSP_CNT_DISCARDS] ++
    Zone.margin

/-- What a port's USB 2.0 evaluation writes: neither its power bits nor its error counts (R272). -/
def Zone.u2Eval : List Zone :=
  [.field .u2p F.U2P_STATUS_STATE, .field .u2p F.U2P_STATUS_SPEED, .field .u2p F.U2P_STATUS_TEST_MODE, .field .u2p F.U2P_STATUS_L1_RWE,
    .regs .u2p F.U2P_TT_STATUS_PER_USED.off F.U2P_TT_STATUS_PER_USED.off]

/-- What the evaluation of both USB sides writes (R272, R301). -/
def Zone.usbEval : List Zone := Zone.u2Eval ++ Zone.ssLeave

/-- What the opening of the switch writes, with the USB side narrowed so. -/
def Zone.openingBits : List Zone := .field .vbs F.VBS_TARGET_TARGET_MV :: Zone.gate ++ Zone.usbEval ++ Zone.rp ++ Zone.pdEnd

/-- What a host's power bit for a port leads to, with the USB side narrowed so (R275). -/
def Zone.hostPower : List Zone := Zone.ask ++ Zone.openingBits

namespace State.WritesIn

open List (Subset.trans)

variable {W : List Zone} {was s : State}

theorem setU2_bits {p v} (hW : Zone.u2Eval ⊆ W) (h : was.WritesIn W s) : was.WritesIn W (s.setU2 p v) :=
  put hW rfl h

theorem u2Gone_bits {p st} (hW : Zone.u2Eval ⊆ W) (h : was.WritesIn W s) : was.WritesIn W (s.u2Gone p st) :=
  have hdrop {t : State} (ht : was.WritesIn W t) : was.WritesIn W (t.ttDrop p) :=
    put hW rfl (put hW rfl (put hW rfl (u2pWith ht)))
  setU2_bits hW (hdrop (put hW rfl (put hW rfl (put hW rfl (u2pWith (ite (devLost (addChg h)) h))))))

theorem u2Eval_bits {p} (hW : Zone.u2Eval ⊆ W) (h : was.WritesIn W s) : was.WritesIn W (s.u2Eval p) :=
  have hgone {v : Nat} : was.WritesIn W (s.u2Gone p v) := u2Gone_bits hW h
  have hset {v : Nat} : was.WritesIn W (s.setU2 p v) := setU2_bits hW h
  ite h (ite (ite h hgone) (ite (ite h hgone) (ite (ite h hgone) (ite (ite h hset) (ite hset (ite hset h))))))

theorem marginLost_bits {f} (hW : Zone.margin ⊆ W) (h : was.WritesIn W s) : was.WritesIn W (s.marginLost f) :=
  ite (put hW rfl (put hW rfl (put hW rfl (sspWith (free h))))) h

theorem ssEndCompliance {f} (h : was.WritesIn W s) : was.WritesIn W (s.ssEndCompliance f) :=
  ite (raisePort h) h

theorem ssLeave_bits {f dest cause} (hW : Zone.ssLeave ⊆ W) (h : was.WritesIn W s) : was.WritesIn W (s.ssLeave f dest cause) :=
  have hend : was.WritesIn W (s.ssEndCompliance f) := ssEndCompliance h
  put hW rfl (put hW rfl (put hW rfl (marginLost_bits (Subset.trans (by decide) hW) (sspWith (put hW rfl (devLost
    (ite (maskWake (ite (addSsChg hend) (raisePort (addSsChg hend)))) hend)))))))

theorem ssDetect_bits {f cause} (hW : Zone.ssLeave ⊆ W) (h : was.WritesIn W s) : was.WritesIn W (s.ssDetect f cause) :=
  sspWith (ssLeave_bits hW h)

theorem ssEval_bits {f} (hW : Zone.ssLeave ⊆ W) (h : was.WritesIn W s) : was.WritesIn W (s.ssEval f) :=
  ite (ite (ssDetect_bits hW h) h) (ite h (ssLeave_bits hW h))

theorem ssEvalPort_bits {p} (hW : Zone.ssLeave ⊆ W) (h : was.WritesIn W s) : was.WritesIn W (s.ssEvalPort p) := by
  unfold State.ssEvalPort
  split
  · exact h
  · exact ssEval_bits hW h

theorem usbEval_bits {p} (hW : Zone.usbEval ⊆ W) (h : was.WritesIn W s) : was.WritesIn W (s.usbEval p) :=
  ssEvalPort_bits (Subset.trans (by decide) hW) (u2Eval_bits (Subset.trans (by decide) hW) h)

theorem vbsOpen_bits {p cause} (hW : Zone.openingBits ⊆ W) (h : was.WritesIn W s) : was.WritesIn W (s.vbsOpen p cause) := by
  have hrp : Zone.rp ⊆ W := Subset.trans (by decide) hW
  have hpd : Zone.pdEnd ⊆ W := Subset.trans (by decide) hW
  have hbudget : Zone.budget ⊆ W := Subset.trans (by decide) hW
  unfold State.vbsOpen State.vbsOpenTo
  extract_lets st s0 s1 s2 safe s3 s4 s5
  have h0 : was.WritesIn W s0 := withdraw hbudget h
  have h2 : was.WritesIn W s2 := put hW rfl (put hW rfl (put hW rfl (ite (raisePort h0) h0)))
  have h5 : was.WritesIn W s5 := returnGrant hbudget (pdStop hpd (opDone (vbsWith (vsetLoad (put hW rfl h2)))))
  exact ite (usbEval_bits (Subset.trans (by decide) hW) (rpApply hrp h5))
    (ite (rpApply hrp (returnGrant hbudget (pdStop hpd (vbsWith h0)))) h0)

theorem hostPower_bits {p} (hW : Zone.hostPower ⊆ W) (h : was.WritesIn W s) : was.WritesIn W (s.hostPower p) :=
  ite (askTurnOn (Subset.trans (by decide) hW) h) (vbsOpen_bits (Subset.trans (by decide) hW) h)

theorem powerOffPort_bits {p} (hW : Zone.hostPower ⊆ W) (h : was.WritesIn W s) : was.WritesIn W (s.powerOffPort p) :=
  have hU : Zone.u2Eval ⊆ W := Subset.trans (by decide) hW
  hostPower_bits hW (u2Eval_bits hU (ite (u2Gone_bits hU h) h))

theorem powerReturn_bits {p} (hW : Zone.hostPower ⊆ W) (h : was.WritesIn W s) : was.WritesIn W (s.powerReturn p) :=
  have hU : Zone.u2Eval ⊆ W := Subset.trans (by decide) hW
  have hset {v : Nat} : was.WritesIn W ((s.hostPower p).setU2 p v) := setU2_bits hU (hostPower_bits hW h)
  ite (ite (ite hset hset) hset) (hostPower_bits hW h)

end State.WritesIn

/-! ### Power bits -/

section
variable (s : State) (p : Port) (c : Fin 2)

theorem spared_powerBit : Zone.spared Zone.hostPower .u2p (fldBit F.U2P_STATUS_HOST_POWER c.val) = true := by
  rcases Fin.exists_fin_two.1 ⟨c, rfl⟩ with rfl | rfl <;> rfl

theorem State.WritesIn.powerBit {s t : State} (h : s.WritesIn Zone.hostPower t) (p : Port) (c : Fin 2) : t.powerBit p c = s.powerBit p c := by
  unfold State.powerBit State.flag
  rw [h.get (.u2p p) _ (spared_powerBit c)]

theorem State.powerBit_setPowerBit (b : Bool) : (s.setPowerBit p c b).powerBit p c = b := by
  unfold State.powerBit State.setPowerBit State.flag
  rw [State.get_setFlag_same _ _ _ (by simp [fldBit, F.U2P_STATUS_HOST_POWER]; omega) (by simp [fldBit])]
  cases b <;> rfl

end

/-! ### Holds of the power bits -/

/-- The holds of a port's power bits (R276, R306). -/
def U2pSt.holds (u : U2pSt) : BitVec 2 × BitVec 2 := (u.hold2, u.holdS)

section
variable (s : State) (p q : Port)

theorem State.holds_u2Gone (st : Nat) : ((s.u2Gone p st).u2p q).holds = (s.u2p q).holds := by
  unfold State.u2Gone
  rw [State.u2p_setU2, State.ttDrop_keeps _ _ U2pSt.holds (fun _ _ _ => rfl)]
  simp only [State.u2p_put]
  refine (State.u2pWith_keeps _ _ U2pSt.holds ?_ q).trans ?_
  · exact fun _ => rfl
  split
  · rw [(State.KeepsBut.devLost (M := [.lheSt, .graver]) (by decide) (.refl _)).u2p (by decide)]
    unfold State.addChg
    split
    · rfl
    · exact State.u2pWith_keeps _ _ U2pSt.holds (by exact fun _ => rfl) q
  · rfl

theorem State.holds_u2Eval : ((s.u2Eval p).u2p q).holds = (s.u2p q).holds := by
  have hgone (v : Nat) : ((s.u2Gone p v).u2p q).holds = (s.u2p q).holds := s.holds_u2Gone p q v
  unfold State.u2Eval
  dsimp only
  repeat' split
  all_goals simp only [hgone, State.u2p_setU2]

/-- An opening switch ends PD activity and returns its grant, and the USB sides follow. -/
theorem State.holds_vbsOpen (cause : Nat) : ((s.vbsOpen p cause).u2p q).holds = (s.u2p q).holds := by
  unfold State.vbsOpen State.vbsOpenTo
  extract_lets st s0 s1 s2 safe s3 s4 s5
  let M : List Part := Part.allBut [.u2pSt]
  have h0 : s.KeepsBut M s0 := .withdraw (by decide) (.refl s)
  split
  · have h2 : s.KeepsBut M s2 := .put (.put (.put (.ite (.raisePort (by decide) h0) h0)))
    have h5 : s.KeepsBut M s5 :=
      .returnGrant (.pdStop (by decide) (.opDone (by decide) (.vbsWith (by decide) (.vsetLoad (by decide) (.put h2)))))
    have hrp : s.KeepsBut M (s5.rpApply p) := .rpApply (by decide) h5
    have hss : State.KeepsBut M ((s5.rpApply p).u2Eval p) ((s5.rpApply p).usbEval p) := .ssEvalPort (by decide) (.refl _)
    rw [hss.u2p (by decide), State.holds_u2Eval, hrp.u2p (by decide)]
  · have hopen : s.KeepsBut M (if (s.vbs p).hrCycle && !false then
        (((s0.vbsWith p (fun v => { v with hrCycle := false })).pdStop p).returnGrant p).rpApply p else s0) :=
      .ite (.rpApply (by decide) (.returnGrant (.pdStop (by decide) (.vbsWith (by decide) h0)))) h0
    rw [hopen.u2p (by decide)]

end

end Sys2Proof.Machine

namespace Sys2Proof.Machine

/-! PROOFS. USB 2.0 hub contexts (O40): reset, suspend, resume and wake of a context, and the requests on a context itself (R276, R284, R286, R289). -/

/-! ### Contexts apart -/

theorem HubIx_injective : Function.Injective HubIx := by
  intro a b h
  cases a <;> cases b <;> simp only [HubIx, Fin.mk.injEq] at h
  case plate.plate k c l d =>
    have hk : k = l := Fin.ext (by omega)
    have hc : c = d := Fin.ext (by omega)
    rw [hk, hc]
  case plate.pres => omega
  case pres.plate => omega
  case pres.pres u v =>
    have hu : u = v := Fin.ext (by omega)
    rw [hu]

theorem State.hubWith_ne (s : State) {hc hd : HubCtx} (h : hd ≠ hc) (f : HubCtxSt → HubCtxSt) : (s.hubWith hc f).hub hd = s.hub hd := by
  have hix : (HubIx hc).val ≠ (HubIx hd).val := fun he => h (HubIx_injective (Fin.ext he)).symm
  simp [State.hubWith, State.hub, Vector.getElem_set_ne _ _ hix]

/-- The contexts beneath a root context are plate contexts. -/
theorem State.beneath_ne (s : State) (u v : Up) : ∀ h ∈ s.beneath u, h ≠ .pres v := by
  intro h hmem
  unfold State.beneath at hmem
  split at hmem
  · obtain ⟨i, -, hi⟩ := List.mem_filterMap.1 hmem
    split at hi
    · cases hi
      exact nofun
    · cases hi
  · split at hmem
    · cases hmem
    · obtain ⟨k, -, rfl⟩ := List.mem_map.1 hmem
      exact nofun

/-! ### Reset -/

section
variable (s : State) (hc : HubCtx)

/-- A context in the default state at a speed (R276). -/
def resetCtx (speed : Fin 3) : HubCtxSt := { freshHubCtx with speed := speed, st := 1 }

/-- The reset of a context is its default state, with a record before it and its ports' resets after it: neither reaches a context (R276). -/
theorem State.ctxResetOne_parts (speed : Fin 3) : ∃ u, s.KeepsBut (Part.allBut [.hubCtx]) u ∧
    (u.hubWith hc (fun _ => resetCtx speed)).KeepsBut (Part.allBut [.hubCtx]) (s.ctxResetOne hc speed) := by
  unfold State.ctxResetOne
  extract_lets s1 x s2 s3 s4
  have h1 : s.KeepsBut (Part.allBut [.hubCtx]) s1 := .ite (.ctxResumeRecord (by decide) (.refl s)) (.refl s)
  have h2 : (s1.hubWith hc (fun _ => resetCtx speed)).KeepsBut (Part.allBut [.hubCtx]) s2 := .fbForget (by decide) (.refl _)
  have h3 := State.KeepsBut.foldl (l := s.ctxPorts hc) (fun _ p h => .ctxResetPort (hc := hc) (p := p) (by decide) h) h2
  refine ⟨s1, h1, .cptSeen ?_⟩
  cases hc with
  | plate k c => exact .ite (.cptWith (by decide) (.count h3)) (.count h3)
  | pres u => exact .ite (.foldl (fun _ _ h => .count h) h3) h3

theorem State.ctxResetOne_hub (speed : Fin 3) : (s.ctxResetOne hc speed).hub hc = resetCtx speed := by
  obtain ⟨u, -, hafter⟩ := s.ctxResetOne_parts hc speed
  rw [hafter.hub (by decide), State.hubWith_same]

theorem State.ctxResetOne_hub_ne {hd : HubCtx} (hne : hd ≠ hc) (speed : Fin 3) : (s.ctxResetOne hc speed).hub hd = s.hub hd := by
  obtain ⟨u, hbefore, hafter⟩ := s.ctxResetOne_parts hc speed
  rw [hafter.hub (by decide), State.hubWith_ne _ hne, hbefore.hub (by decide)]

/-- A fold over contexts each step of which leaves the context `hd`. -/
theorem State.hub_foldl_ctxs {l : List HubCtx} {f : State → HubCtx → State} {hd : HubCtx} (hl : ∀ h ∈ l, h ≠ hd)
    (hf : ∀ s h, h ≠ hd → (f s h).hub hd = s.hub hd) : (l.foldl f s).hub hd = s.hub hd := by
  induction l generalizing s with
  | nil => rfl
  | cons h l ih =>
    rw [List.foldl_cons, ih _ (fun x hx => hl x (List.mem_cons_of_mem _ hx)), hf _ _ (hl h List.mem_cons_self)]

/-- A context that is reset stands alone, whatever lies beneath it. -/
theorem State.ctxReset_hub (speed : Fin 3) : (s.ctxReset hc speed).hub hc = resetCtx speed := by
  unfold State.ctxReset
  extract_lets s1
  cases hc with
  | plate k c => exact s.ctxResetOne_hub _ speed
  | pres u =>
    dsimp only
    have hbelow : ((s1.beneath u).foldl (fun s h => if s.ctxActive h then s.ctxResetOne h speed else s) s1).hub (.pres u) =
        s1.hub (.pres u) := by
      refine State.hub_foldl_ctxs _ (s1.beneath_ne u u) (fun t h hne => ?_)
      split
      · exact t.ctxResetOne_hub_ne h hne.symm speed
      · rfl
    split
    · exact hbelow.trans (s.ctxResetOne_hub _ speed)
    · rw [(State.KeepsBut.fnReset (M := [.freeCount, .mgfSt, .fifos]) (by decide) (.refl _)).hub (by decide), hbelow]
      exact s.ctxResetOne_hub _ speed

/-- The segment that CONTEXT_RESET gives a context (log 28). -/
def State.resetSpeed (hs : Bool) : Fin 3 :=
  match hc with
  | .pres _ => if hs then 2 else 1
  | .plate _ c => if s.compat then (match s.ctxUp hc with
      | some u => if s.isDirect u then (if hs then 2 else 1) else (s.hub (.pres u)).speed
      | none => 0) else (s.hub (.pres c)).speed

variable {s hc}

theorem exec_contextReset (hs : Bool) (h : s.ctxActive hc = true) : exec (.contextReset hc hs) s = .next (s.ctxReset hc (s.resetSpeed hc hs)) :=
  show execContextReset hc hs s = _ from if_neg (by simp [h])

/-! ### Suspend and resume -/

theorem exec_contextSuspend (h : s.ctxActive hc = true) (hsusp : (s.hub hc).suspended = false) : exec (.contextSuspend hc) s =
    .next ((((s.hubWith hc (fun h => { h with suspended := true, drivesK := false, woke := false })).cptSeen hc 3).fnFollows hc
      true).ctxRecord hc evSuspend (4 * (hubSide hc).val)) :=
  show execContextSuspend hc s = _ from if_neg (by simp [h, hsusp])

theorem exec_contextResume (device : Option Port) (h : s.ctxActive hc = true) (hsusp : (s.hub hc).suspended = true) :
    exec (.contextResume ⟨hc, device⟩) s = .next (s.ctxResume hc device) :=
  show execContextResume ⟨hc, device⟩ s = _ from if_neg (by simp [h, hsusp])

/-- A context that follows K on its upstream segment (R284). -/
def HubCtxSt.followK (h : HubCtxSt) : HubCtxSt := { h with suspended := false, drivesK := false, woke := false, upK := true }

/-- A suspended context that resumes follows K; its function, its record and its port do not reach a context. -/
theorem State.ctxResumeOne_parts (s : State) (hc : HubCtx) (device : Option Port) (met : Bool) :
    (if !(s.hub hc).suspended || !s.ctxActive hc then s else s.hubWith hc HubCtxSt.followK).KeepsBut (Part.allBut [.hubCtx])
      (s.ctxResumeOne hc device met) := by
  unfold State.ctxResumeOne
  extract_lets h0 s1 s2
  have h2 : (s.hubWith hc HubCtxSt.followK).KeepsBut (Part.allBut [.hubCtx]) s2 := .fnFollows (by decide) (.cptSeen (.refl _))
  split
  · exact .refl s
  · split
    · exact .ite (.ctxResumeRecord (by decide) (.countMerged h2)) h2
    · split
      · exact .mergeDevice (by decide) h2
      · exact .ctxResumeRecord (by decide) h2

theorem State.ctxResumeOne_hub (device : Option Port) (met : Bool) (h : s.ctxActive hc = true) (hsusp : (s.hub hc).suspended = true) :
    (s.ctxResumeOne hc device met).hub hc = (s.hub hc).followK := by
  rw [(s.ctxResumeOne_parts hc device met).hub (by decide), if_neg (by simp [h, hsusp]), State.hubWith_same]

theorem State.ctxResumeOne_hub_ne {hd : HubCtx} (hne : hd ≠ hc) (device : Option Port) (met : Bool) :
    (s.ctxResumeOne hc device met).hub hd = s.hub hd := by
  rw [(s.ctxResumeOne_parts hc device met).hub (by decide)]
  split
  · rfl
  · exact State.hubWith_ne _ hne _

theorem State.ctxResume_hub (device : Option Port) (h : s.ctxActive hc = true) (hsusp : (s.hub hc).suspended = true) :
    (s.ctxResume hc device).hub hc = (s.hub hc).followK := by
  unfold State.ctxResume
  cases hc with
  | plate k c => exact State.ctxResumeOne_hub device true h hsusp
  | pres u =>
    refine (State.hub_foldl_ctxs _ (s.beneath_ne u u) (fun t h hne => ?_)).trans (State.ctxResumeOne_hub device true h hsusp)
    exact State.ctxResumeOne_hub_ne hne.symm device _

/-! ### Holds (R276) -/

/-- PWR_HOLD_END on one port: a hold that runs ends, and VBUS follows the host's bits. -/
def State.hold2Ends (c : Fin 2) (s : State) (p : Port) : State :=
  if !(s.u2p p).hold2.getLsbD c.val then s else
  if (s.dropHold2 p c).hostAllows p then s.dropHold2 p c else (s.dropHold2 p c).vbsOpen p 1

theorem exec_pwrHoldEnd2 (s : State) (hc : HubCtx) : exec (.pwrHoldEnd hc false) s =
    .next ((s.ctxPorts hc).foldl (State.hold2Ends (hubSide hc)) s) :=
  (rfl : execPwrHoldEnd hc false s = _)

theorem State.hold2_dropHold2 (s : State) (p q : Port) (c : Fin 2) :
    ((s.dropHold2 p c).u2p q).hold2 = if q = p then (s.u2p q).hold2 &&& ~~~(1#2 <<< c.val) else (s.u2p q).hold2 := by
  unfold State.dropHold2
  split
  next h => rw [h, State.u2pWith_same]
  next h => rw [State.u2pWith_ne _ _ _ _ h]

/-- No step sets a hold, and the step of a port clears its own. -/
theorem State.hold2Ends_getLsbD (c : Fin 2) (s : State) (p q : Port) :
    ((s.hold2Ends c p).u2p q).hold2.getLsbD c.val = (decide (q ≠ p) && (s.u2p q).hold2.getLsbD c.val) := by
  have hdrop : ((s.dropHold2 p c).u2p q).hold2.getLsbD c.val = (decide (q ≠ p) && (s.u2p q).hold2.getLsbD c.val) := by
    rw [State.hold2_dropHold2]
    by_cases h : q = p
    · have hc : c = 0 ∨ c = 1 := by omega
      rcases hc with rfl | rfl <;> simp [h]
    · simp [h]
  have hopen : ((s.dropHold2 p c).vbsOpen p 1 |>.u2p q).hold2 = ((s.dropHold2 p c).u2p q).hold2 :=
    congrArg Prod.fst ((s.dropHold2 p c).holds_vbsOpen p q 1)
  unfold State.hold2Ends
  split
  next hoff =>
    by_cases h : q = p
    · subst h
      simpa using hoff
    · simp [h]
  · split
    · exact hdrop
    · rw [hopen, hdrop]

theorem State.hold2_foldl (c : Fin 2) (l : List Port) (s : State) (p : Port) :
    ((l.foldl (State.hold2Ends c) s).u2p p).hold2.getLsbD c.val = (decide (p ∉ l) && (s.u2p p).hold2.getLsbD c.val) := by
  induction l generalizing s with
  | nil => simp
  | cons q l ih =>
    rw [List.foldl_cons, ih, State.hold2Ends_getLsbD]
    by_cases h : p = q <;> simp [h]

/-! ### Requests on a context itself (R289) -/

theorem State.ctxRequest_of_hears {act : State} (h : s.ctxHears hc = true) : s.ctxRequest hc act = act := if_pos h

theorem exec_getHubStatus (h : s.ctxHears hc = true) : exec (.getHubStatus (.hub (.usb2 hc))) s = .next (s.reply (.bytes [0, 0, 0, 0])) :=
  show execGetHubStatus (.hub (.usb2 hc)) s = _ from congrArg Host.Outcome.next (State.ctxRequest_of_hears h)

theorem exec_getStatus (h : s.ctxHears hc = true) : exec (.getHubStatus (.std (.hub hc) .status false)) s =
    .next (s.reply (.bytes (statusBytes [s.hubSelf hc, (s.hub hc).remoteWake]))) :=
  show execGetHubStatus (.std (.hub hc) .status false) s = _ from congrArg Host.Outcome.next (State.ctxRequest_of_hears h)

theorem exec_getHubDescriptor (h : s.ctxHears hc = true) : exec (.getHubDescriptor (.usb2 hc)) s =
    .next ((s.hubDescriptor hc).2.reply (.bytes (s.hubDescriptor hc).1)) :=
  show execGetHubDescriptor (.usb2 hc) s = _ from congrArg Host.Outcome.next (State.ctxRequest_of_hears h)

theorem exec_hubRequestError (h : s.ctxHears hc = true) : exec (.hubRequestError (.other (.usb2 hc))) s = .next (s.reply .stall) :=
  show execHubRequestError (.other (.usb2 hc)) s = _ from congrArg Host.Outcome.next (State.ctxRequest_of_hears h)

theorem exec_clearHubFeature {sel : Nat} (h : s.ctxHears hc = true) (hsel : sel ≤ 1) :
    exec (.hubRequestError (.clearHubFeature (.usb2 hc) sel)) s = .next (s.reply .ack) :=
  show execHubRequestError (.clearHubFeature (.usb2 hc) sel) s = _ from
    congrArg Host.Outcome.next ((State.ctxRequest_of_hears h).trans (if_pos hsel))

theorem exec_setInterface {alt : Nat} (h : s.ctxHears hc = true) (hst : (s.hub hc).st = 3) (hmtt : s.offersMtt hc = true) (halt : alt ≤ 1) :
    exec (.setInterface hc alt) s = .next ((s.hubWith hc (fun h => { h with multiTt := alt == 1 })).reply .ack) :=
  show execSetInterface hc alt s = _ from congrArg Host.Outcome.next
    ((State.ctxRequest_of_hears h).trans ((if_neg (by simp [hst])).trans (if_pos (by simp [hmtt, halt]))))

theorem exec_deviceRemoteWakeup (b : Bool) (h : s.ctxHears hc = true) : exec (.deviceRemoteWakeup (.hub hc) b) s =
    .next ((s.hubWith hc (fun h => { h with remoteWake := b })).reply .ack) :=
  show execDeviceRemoteWakeup (.hub hc) b s = _ from congrArg Host.Outcome.next (State.ctxRequest_of_hears h)

theorem exec_setAddress (addr : BitVec 7) (h : s.ctxHears hc = true) (hst : (s.hub hc).st ≠ 3) : exec (.setAddress (.hub hc) addr) s =
    .next ((s.hubWith hc (fun h => { h with address := addr, st := if addr = 0 then 1 else 2 })).reply .ack) :=
  show execSetAddress (.hub hc) addr s = _ from congrArg Host.Outcome.next ((State.ctxRequest_of_hears h).trans (if_neg hst))

theorem exec_hubSetConfiguration {cfg : Nat} (h : s.ctxHears hc = true) (hst : 2 ≤ (s.hub hc).st.val) (hcfg : cfg ≤ 1) :
    exec (.hubSetConfiguration (.hub hc) cfg) s = .next ((((if cfg = 0 then s.fbForget hc else s).hubWith hc (fun h =>
      { h with st := if cfg = 0 then 2 else 3, multiTt := false })).cptSeen hc 2).reply .ack) :=
  show execHubSetConfiguration (.hub hc) cfg s = _ from congrArg Host.Outcome.next
    ((State.ctxRequest_of_hears h).trans (if_neg (by omega)))

/-! ### The status-change bitmap -/

/-- The bits of `f` below `n`. -/
def bitsBelow (f : Nat → Prop) [DecidablePred f] (n : Nat) : Nat := (List.range n).foldl (fun m i => if f i then m + 2 ^ i else m) 0

theorem bitsBelow_lt (f : Nat → Prop) [DecidablePred f] (n : Nat) : bitsBelow f n < 2 ^ n := by
  unfold bitsBelow
  induction n with
  | zero => simp
  | succ n ih =>
    rw [List.range_succ, List.foldl_append, List.foldl_cons, List.foldl_nil, pow_succ]
    split <;> omega

theorem testBit_bitsBelow (f : Nat → Prop) [DecidablePred f] (n i : Nat) : (bitsBelow f n).testBit i = decide (i < n ∧ f i) := by
  induction n with
  | zero => simp [bitsBelow]
  | succ n ih =>
    have hlt := bitsBelow_lt f n
    have hstep : bitsBelow f (n + 1) = if f n then 2 ^ n + bitsBelow f n else bitsBelow f n := by
      simp [bitsBelow, List.range_succ, Nat.add_comm]
    rw [hstep]
    rcases Nat.lt_trichotomy i n with h | rfl | h
    · have hle : i < n + 1 := Nat.lt_succ_of_lt h
      split <;> simp only [Nat.testBit_two_pow_add_gt h, ih, h, hle]
    · have hoff : (bitsBelow f i).testBit i = false := Nat.testBit_lt_two_pow hlt
      by_cases hf : f i <;> simp [hf, Nat.testBit_two_pow_add_eq, hoff]
    · have hbound : (if f n then 2 ^ n + bitsBelow f n else bitsBelow f n) < 2 ^ i := by
        have hpow : 2 ^ (n + 1) ≤ 2 ^ i := Nat.pow_le_pow_right (by decide) h
        rw [pow_succ] at hpow
        split <;> omega
      rw [Nat.testBit_lt_two_pow hbound]
      simp
      omega

/-- The bit of a port in the bitmap: a port of the hub that shows a change. -/
theorem testBit_changeMap (n i : Nat) (changed : Nat → Bool) : (changeMap n changed).testBit i = decide (i ≤ n ∧ i ≠ 0 ∧ changed i) :=
  (testBit_bitsBelow (fun i => i ≠ 0 ∧ changed i) (n + 1) i).trans (by simp)

theorem changeMap_eq_zero {n : Nat} {changed : Nat → Bool} (h : ∀ i, i ≤ n → changed i = false) : changeMap n changed = 0 := by
  refine Nat.eq_of_testBit_eq fun i => ?_
  rw [testBit_changeMap, Nat.zero_testBit, decide_eq_false_iff_not]
  rintro ⟨hi, -, hch⟩
  simp [h i hi] at hch

theorem exec_statusChangePoll (h : s.ctxHears hc = true) (hst : (s.hub hc).st = 3) : exec (.statusChangePoll (.usb2 hc)) s =
    .next (if changeMap (s.hubPorts hc) (fun i => (s.viewOf hc i).2 != 0) = 0 then s.reply .nak
      else s.reply (.bytes (leBytes (s.hubPorts hc / 8 + 1) (changeMap (s.hubPorts hc) (fun i => (s.viewOf hc i).2 != 0))))) :=
  show execStatusChangePoll (.usb2 hc) s = _ from congrArg Host.Outcome.next
    ((State.ctxRequest_of_hears h).trans (if_neg (by simp [hst])))

end

/-! ### Descriptors -/

section
variable {s : State} {hc : HubCtx} (desc : DescId) (lang : BitVec 16) (len : Nat) (pe : Bool)

theorem exec_getDescriptor_none (h : s.ctxHears hc = true) (hd : s.hubDesc hc desc.kind.toNat desc.idx.toNat lang.toNat = none) :
    exec (.getDescriptor (.hub hc) desc lang len pe) s = .next (s.reply .stall) :=
  show execGetDescriptor (.hub hc) desc lang len pe s = _ from congrArg Host.Outcome.next
    ((State.ctxRequest_of_hears h).trans (congrArg (fun d => s.descReply len (d.map fun d => (d, s))) hd))

theorem exec_getDescriptor_some {d : List Byte} (h : s.ctxHears hc = true)
    (hd : s.hubDesc hc desc.kind.toNat desc.idx.toNat lang.toNat = some d) :
    exec (.getDescriptor (.hub hc) desc lang len pe) s = .next (s.reply (.bytes (d.take len))) :=
  show execGetDescriptor (.hub hc) desc lang len pe s = _ from congrArg Host.Outcome.next
    ((State.ctxRequest_of_hears h).trans (congrArg (fun d => s.descReply len (d.map fun d => (d, s))) hd))

end

/-- Settles O40: what follows the change of a context reaches no context, and each request on a context is its own answer. -/
theorem usb2ContextsResetSuspendAndWake : Obligations.Usb2ContextsResetSuspendAndWake := by
  unfold Obligations.Usb2ContextsResetSuspendAndWake
  refine ⟨fun hc hs s hact _ _ _ => ⟨_, exec_contextReset hs hact, ?reset⟩,
    fun u hs s hact => ⟨_, exec_contextReset hs hact, ?resetRoot⟩,
    fun hc s hact hsusp => ⟨_, exec_contextSuspend hact hsusp, ?suspend⟩,
    fun hc s hact hsusp => ⟨_, exec_contextResume none hact hsusp, ?resume⟩,
    fun hc s => ⟨_, (rfl : execWakePropagationEnd hc s = _), by simp, by simp⟩,
    fun hc p s hp => ⟨_, exec_pwrHoldEnd2 s hc, ?hold⟩,
    fun hc s h => ⟨_, exec_getHubStatus h, rfl⟩,
    fun hc s h => ⟨_, exec_getStatus h, rfl⟩,
    fun hc s h => ⟨_, exec_getHubDescriptor h, rfl⟩,
    fun hc s h => ⟨_, exec_hubRequestError h, rfl⟩,
    fun hc sel s h hsel => ⟨_, exec_clearHubFeature h hsel, rfl⟩,
    fun hc alt s h hst hmtt halt => ⟨_, exec_setInterface h hst hmtt halt, rfl, by simp⟩,
    fun hc b s h => ⟨_, exec_deviceRemoteWakeup b h, rfl, by simp⟩,
    fun hc s h hst hnone => ⟨_, exec_statusChangePoll h hst, if_pos (changeMap_eq_zero fun i hi => by simp [hnone i hi])⟩,
    fun hc i s h hst hlo hhi hch => ?changed,
    fun hc addr s h hst => ⟨_, exec_setAddress addr h hst, rfl, by simp, by simp⟩,
    fun hc cfg s h hst hcfg => ⟨_, exec_hubSetConfiguration h hst hcfg, rfl, ?configured⟩,
    fun hc desc lang len pe s h hd => ⟨_, exec_getDescriptor_none desc lang len pe h hd, rfl⟩,
    fun hc desc lang len pe d s h hd => ⟨_, exec_getDescriptor_some desc lang len pe h hd, rfl⟩⟩
  case reset =>
    rw [s.ctxReset_hub hc]
    exact ⟨rfl, rfl, rfl⟩
  case resetRoot =>
    rw [s.ctxReset_hub (.pres u)]
    exact ⟨rfl, rfl⟩
  case suspend =>
    have hafter : (s.hubWith hc (fun h => { h with suspended := true, drivesK := false, woke := false })).KeepsBut (Part.allBut [.hubCtx]) _ :=
      .ctxRecord (hc := hc) (e := evSuspend) (detail := 4 * (hubSide hc).val) (by decide)
        (.fnFollows (hc := hc) (b := true) (by decide) (.cptSeen (hc := hc) (b := 3) (.refl _)))
    rw [hafter.hub (by decide), State.hubWith_same]
    exact ⟨rfl, rfl⟩
  case resume =>
    rw [State.ctxResume_hub none hact hsusp]
    exact ⟨rfl, rfl⟩
  case hold =>
    rw [State.hold2_foldl, decide_eq_false (not_not.2 hp), Bool.false_and]
  case changed =>
    have hbit : (changeMap (s.hubPorts hc) (fun j => (s.viewOf hc j).2 != 0)).testBit i = true := by
      rw [testBit_changeMap]
      simp only [decide_eq_true_eq, bne_iff_ne]
      exact ⟨hhi, by omega, hch⟩
    refine ⟨_, exec_statusChangePoll h hst, if_neg fun hzero => ?_, hbit⟩
    rw [hzero, Nat.zero_testBit] at hbit
    cases hbit
  case configured =>
    rw [State.hub_reply, (State.KeepsBut.cptSeen (M := []) (.refl _)).hub (by decide), State.hubWith_same]

end Sys2Proof.Machine

namespace Sys2Proof.Machine

/-! PROOFS. Hub-class requests that name a port (O41): a request that reaches an owned port of its context, and what each does there
(R268, R274, R275, R285–R291). -/

/-! ### A request that reaches a port -/

/-- A request on port `n` of a context meets the device port `p`, which the context owns (R268). -/
structure State.Meets (s : State) (hc : HubCtx) (n : Nat) (p : Port) : Prop where
  hears : s.ctxHears hc = true
  port : s.hubPort hc n = some p
  upper : n ≤ s.hubPorts hc
  owns : s.ownsPort hc p = true

theorem State.hubPort_pos {s : State} {hc : HubCtx} {n : Nat} {p : Port} (h : s.hubPort hc n = some p) : n ≠ 0 := by
  rintro rfl
  cases hc <;> simp [State.hubPort] at h

section
variable {s : State} {hc : HubCtx} {n : Nat} {p : Port}

theorem State.Meets.portRequest (h : s.Meets hc n p) (dev : Port → Bool → State) (internal : State) :
    s.portRequest hc n dev internal = dev p true := by
  unfold State.portRequest
  rw [if_neg (by simp [h.hears]), if_neg (by simpa using ⟨State.hubPort_pos h.port, h.upper⟩), h.port]
  exact congrArg (dev p) h.owns

/-- Where no e-fuse has just tripped the request acts (R292). -/
theorem State.Meets.portAct (h : s.Meets hc n p) (htrip : (s.vbs p).tripFresh = false) (dev : State → Port → Bool → State) (internal : State) :
    s.portAct hc n dev internal = dev s p true := by
  have hnone : s.tripped p = (false, s) := if_neg (by simp [htrip])
  unfold State.portAct
  rw [h.portRequest]
  simp [hnone]

/-- In the cycle of a trip a free value decides whether it does (log 85). -/
theorem State.Meets.portAct_tripped (h : s.Meets hc n p) (htrip : (s.vbs p).tripFresh = true) (dev : State → Port → Bool → State)
    (internal : State) : s.portAct hc n dev internal = if s.free.1.getLsbD 0 then s.free.2.reply .ack else dev s.free.2 p true := by
  have hsome : s.tripped p = (s.free.1.getLsbD 0, s.free.2) := if_pos htrip
  unfold State.portAct
  rw [h.portRequest]
  simp [hsome]

theorem State.portAct_bad (hears : s.ctxHears hc = true) (hn : n = 0 ∨ s.hubPorts hc < n) (dev : State → Port → Bool → State)
    (internal : State) : s.portAct hc n dev internal = s.reply .stall := by
  unfold State.portAct State.portRequest
  rw [if_neg (by simp [hears]), if_pos hn]

/-! ### The requests -/

theorem State.u2St_reply (x : Answer) : (s.reply x).u2St p = s.u2St p := State.reply_get ..

/-- A port in reset (R274). -/
theorem State.startReset_parts (s : State) (p : Port) : (s.startReset p).u2St p = 4 ∧ ((s.startReset p).u2p p).chirped = false := by
  unfold State.startReset
  exact ⟨State.u2St_setU2 _ _ (by decide), by simp [State.count, State.countBy]⟩

theorem exec_setPortReset (h : s.Meets hc n p) (htrip : (s.vbs p).tripFresh = false) (hst : s.u2St p = 5) (hbar : s.u2Barred p = false) :
    exec (.setPortReset hc n) s = .next ((s.startReset p).reply .ack) := by
  refine (rfl : _ = execSetPortReset hc n s).trans (congrArg Host.Outcome.next ((h.portAct htrip _ _).trans ?_))
  simp [hst, hbar]

theorem exec_setPortReset_bad (hears : s.ctxHears hc = true) (hn : n = 0 ∨ s.hubPorts hc < n) :
    exec (.setPortReset hc n) s = .next (s.reply .stall) :=
  (rfl : _ = execSetPortReset hc n s).trans (congrArg Host.Outcome.next (State.portAct_bad hears hn _ _))

theorem exec_setPortSuspend (h : s.Meets hc n p) (htrip : (s.vbs p).tripFresh = false) (hst : s.u2St p = 5) :
    exec (.setPortSuspend hc n) s = .next (((s.setU2 p 6).raisePort (.u2p p) p evSuspend (1 + 4 * (hubSide hc).val)).reply .ack) := by
  refine (rfl : _ = execSetPortSuspend hc n s).trans (congrArg Host.Outcome.next ((h.portAct htrip _ _).trans ?_))
  simp [hst]

theorem exec_clearPortSuspend (h : s.Meets hc n p) (htrip : (s.vbs p).tripFresh = false) (hst : s.u2St p = 6) :
    exec (.clearPortSuspend hc n) s = .next ((s.startResume p false 1 true).reply .ack) := by
  refine (rfl : _ = execClearPortSuspend hc n s).trans (congrArg Host.Outcome.next ((h.portAct htrip _ _).trans ?_))
  simp [hst]

theorem exec_clearPortEnable (h : s.Meets hc n p) (htrip : (s.vbs p).tripFresh = false) (hlo : 4 ≤ s.u2St p) (hhi : s.u2St p ≤ 8) :
    exec (.clearPortEnable hc n) s = .next ((s.u2Disable p).reply .ack) := by
  refine (rfl : _ = execClearPortEnable hc n s).trans (congrArg Host.Outcome.next ((h.portAct htrip _ _).trans ?_))
  simp [hlo, hhi]

/-- A port disabled keeps the speed that it had (R274). -/
theorem State.speed_u2Disable (s : State) (p : Port) :
    (s.u2Disable p).get (.u2p p) F.U2P_STATUS_SPEED = s.get (.u2p p) F.U2P_STATUS_SPEED := by
  unfold State.u2Disable
  rw [State.get_setU2 _ _ _ _ (by decide) (.inr (by decide)), State.get_put_bits _ _ _ _ _ (by decide), State.u2pWith_get]

theorem State.powerBit_reply (s : State) (x : Answer) (p : Port) (c : Fin 2) : (s.reply x).powerBit p c = s.powerBit p c := by
  simp only [State.powerBit, State.reply_flag]

theorem State.powerBit_dropHold2 (s : State) (p q : Port) (c d : Fin 2) : (s.dropHold2 p c).powerBit q d = s.powerBit q d := by
  simp only [State.powerBit, State.dropHold2, State.u2pWith_flag]

/-- Outside compatibility mode no port is ganged (R437). -/
theorem State.gang_of_not_compat (hcompat : s.compat = false) : s.gang p = [p] := if_neg (by simp [hcompat])

theorem State.setHostPower_alone (hcompat : s.compat = false) (howns : s.ownsPort hc p = true) :
    s.setHostPower hc p = ((s.setPowerBit p (hubSide hc) true).dropHold2 p (hubSide hc)).powerReturn p := by
  unfold State.setHostPower
  dsimp only
  rw [if_neg (by simp [hcompat]), State.gang_of_not_compat hcompat, List.foldl_cons, List.foldl_nil, if_pos howns]

theorem exec_setPortPower (h : s.Meets hc n p) (htrip : (s.vbs p).tripFresh = false) (hcompat : s.compat = false) :
    exec (.setPortPower hc n) s = .next ((((s.setPowerBit p (hubSide hc) true).dropHold2 p (hubSide hc)).powerReturn p).reply .ack) := by
  refine (rfl : _ = execSetPortPower hc n s).trans (congrArg Host.Outcome.next ((h.portAct htrip _ _).trans ?_))
  rw [State.setHostPower_alone hcompat h.owns]

theorem State.clearHostPower_alone (hcompat : s.compat = false) (howns : s.ownsPort hc p = true) :
    s.clearHostPower hc p = ((s.setPowerBit p (hubSide hc) false).dropHold2 p (hubSide hc)).powerOffPort p := by
  unfold State.clearHostPower
  dsimp only
  rw [if_pos (by rw [State.gang_of_not_compat hcompat, List.length_singleton]), if_pos howns]

theorem exec_clearPortPower (h : s.Meets hc n p) (htrip : (s.vbs p).tripFresh = false) (hcompat : s.compat = false) :
    exec (.clearPortPower hc n) s = .next ((((s.setPowerBit p (hubSide hc) false).dropHold2 p (hubSide hc)).powerOffPort p).reply .ack) := by
  refine (rfl : _ = execClearPortPower hc n s).trans (congrArg Host.Outcome.next ((h.portAct htrip _ _).trans ?_))
  rw [State.clearHostPower_alone hcompat h.owns]

theorem exec_setPortTest {sel : Nat} (h : s.Meets hc n p) (htrip : (s.vbs p).tripFresh = false) (hconf : (s.hub hc).st = 3)
    (hst : s.u2St p = 2 ∨ s.u2St p = 3 ∨ s.u2St p = 6) (hlo : 1 ≤ sel) (hhi : sel ≤ 5) : exec (.setPortTest hc n sel) s =
    .next (((s.put (.u2p p) F.U2P_STATUS_TEST_MODE sel).setU2 p 9).reply .ack) := by
  refine (rfl : _ = execSetPortTest hc n sel s).trans (congrArg Host.Outcome.next ((h.portAct htrip _ _).trans ?_))
  rcases hst with hst | hst | hst <;> simp [hconf, hst, hlo, hhi]

theorem exec_setPortTest_tripped (h : s.Meets hc n p) (htrip : (s.vbs p).tripFresh = true) : exec (.setPortTest hc n 0) s =
    .next (s.free.2.reply (if s.free.1.getLsbD 0 then .ack else .stall)) := by
  refine (rfl : _ = execSetPortTest hc n 0 s).trans (congrArg Host.Outcome.next ((h.portAct_tripped htrip _ _).trans ?_))
  split <;> simp

theorem exec_setAndTestPortL1 (a : BitVec 7) (hird : BitVec 4) (rwe : Bool) (h : s.Meets hc n p) (htrip : (s.vbs p).tripFresh = false)
    (hst : s.u2St p = 5) (hspeed : 2 ≤ s.get (.u2p p) F.U2P_STATUS_SPEED) (hl1 : s.l1On p = true) :
    exec (.setAndTestPortL1 hc n a hird rwe) s = .next ((s.u2pWith p (fun u => { u with lpm := some (hird, rwe) })).reply .waits) := by
  refine (rfl : _ = execSetAndTestPortL1 hc n a hird rwe s).trans (congrArg Host.Outcome.next ((h.portAct htrip _ _).trans ?_))
  simp [hst, hspeed, hl1]

theorem exec_clearPortL1 (h : s.Meets hc n p) (htrip : (s.vbs p).tripFresh = false) (hst : s.u2St p = 8) :
    exec (.clearPortL1 hc n) s = .next ((s.startResume p true 1 false).reply .ack) := by
  refine (rfl : _ = execClearPortL1 hc n s).trans (congrArg Host.Outcome.next ((h.portAct htrip _ _).trans ?_))
  simp [hst]

theorem exec_clearChangeBit {sel : Nat} (h : s.Meets hc n p) (htrip : (s.vbs p).tripFresh = false) (hlo : 16 ≤ sel) (hhi : sel ≤ 20) :
    exec (.clearChangeBit hc n sel) s = .next ((s.u2pWith p (fun u =>
      { u with chg := u.chg.set (hubSide hc) (u.chg[hubSide hc] &&& ~~~(1#16 <<< (sel - 16))) })).reply .ack) := by
  have hbit : changeOf sel = some (1#16 <<< (sel - 16)) := if_pos ⟨hlo, hhi⟩
  change execClearChangeBit hc n sel s = _
  unfold execClearChangeBit
  rw [hbit]
  exact congrArg Host.Outcome.next (h.portAct htrip _ _)

theorem exec_getPortStatus (h : s.Meets hc n p) : exec (.getPortStatus hc n) s =
    .next (s.reply (.bytes (leBytes 2 (s.portStatus p (hubSide hc)) ++ leBytes 2 ((s.u2p p).chg[(hubSide hc).val]).toNat))) := by
  have hview : s.viewOf hc n = (s.portStatus p (hubSide hc), ((s.u2p p).chg[(hubSide hc).val]).toNat) := by
    unfold State.viewOf
    rw [h.port]
    exact congrArg (·, _) (if_pos h.owns)
  refine (rfl : _ = execGetPortStatus hc n s).trans (congrArg Host.Outcome.next ((h.portRequest _ _).trans ?_))
  rw [hview]

end

/-- Settles O41: each request that meets its port acts there once, and the answer is the last thing it leaves. -/
theorem usb2PortRequestsAreAnswered : Obligations.Usb2PortRequestsAreAnswered := by
  unfold Obligations.Usb2PortRequestsAreAnswered
  refine ⟨fun hc n p s hh hp hn ho htrip hst hbar => ⟨_, exec_setPortReset ⟨hh, hp, hn, ho⟩ htrip hst hbar, ?reset⟩,
    fun hc n p s hh hp hn ho htrip hst => ⟨_, exec_setPortSuspend ⟨hh, hp, hn, ho⟩ htrip hst, ?suspend⟩,
    fun hc n p s hh hp hn ho htrip hst => ⟨_, exec_clearPortSuspend ⟨hh, hp, hn, ho⟩ htrip hst, ?resume⟩,
    fun hc n p s hh hp hn ho htrip hlo hhi => ⟨_, exec_clearPortEnable ⟨hh, hp, hn, ho⟩ htrip hlo hhi, ?disable⟩,
    fun hc n p s hh hp hn ho htrip hcompat => ⟨_, exec_setPortPower ⟨hh, hp, hn, ho⟩ htrip hcompat, ?powered⟩,
    fun hc n p s hh hp hn ho htrip hcompat => ⟨_, exec_clearPortPower ⟨hh, hp, hn, ho⟩ htrip hcompat, ?unpowered⟩,
    fun hc n p sel s hh hp hn ho htrip hconf hst hlo hhi =>
      ⟨_, exec_setPortTest ⟨hh, hp, hn, ho⟩ htrip hconf hst hlo hhi, ?tests⟩,
    fun hc n p a hird rwe s hh hp hn ho htrip hst hspeed hl1 =>
      ⟨_, exec_setAndTestPortL1 a hird rwe ⟨hh, hp, hn, ho⟩ htrip hst hspeed hl1, rfl, by simp⟩,
    fun hc n p s hh hp hn ho htrip hst => ⟨_, exec_clearPortL1 ⟨hh, hp, hn, ho⟩ htrip hst, ?exits⟩,
    fun hc n p sel s hh hp hn ho htrip hlo hhi => ⟨_, exec_clearChangeBit ⟨hh, hp, hn, ho⟩ htrip hlo hhi, rfl, ?cleared⟩,
    fun hc n p s hh hp hn ho htrip => ⟨_, exec_getPortStatus ⟨hh, hp, hn, ho⟩, rfl⟩,
    fun hc n s hh hn => ⟨_, exec_setPortReset_bad hh hn, rfl⟩,
    fun hc n p s hh hp hn ho htrip => ⟨_, exec_setPortTest_tripped ⟨hh, hp, hn, ho⟩ htrip, rfl⟩⟩
  case reset =>
    obtain ⟨hst', hchirp⟩ := s.startReset_parts p
    exact ⟨State.u2St_reply _ |>.trans hst', rfl, by rw [State.u2p_reply, hchirp]⟩
  case suspend =>
    refine ⟨?_, rfl⟩
    rw [State.u2St_reply, State.u2St_raisePort, State.u2St_setU2 _ _ (by decide)]
  case resume =>
    obtain ⟨hst', hu⟩ := s.startResume_parts p false 1 true
    exact ⟨State.u2St_reply _ |>.trans hst', by rw [State.u2p_reply, hu], rfl⟩
  case disable =>
    exact ⟨State.u2St_reply _ |>.trans (s.u2Disable_parts p).1, (State.reply_get ..).trans (s.speed_u2Disable p), rfl⟩
  case powered =>
    refine ⟨?_, rfl⟩
    rw [State.powerBit_reply, (State.WritesIn.powerReturn_bits (List.Subset.refl _) (.refl _)).powerBit, State.powerBit_dropHold2,
      State.powerBit_setPowerBit]
  case unpowered =>
    refine ⟨?_, rfl⟩
    rw [State.powerBit_reply, (State.WritesIn.powerOffPort_bits (List.Subset.refl _) (.refl _)).powerBit, State.powerBit_dropHold2,
      State.powerBit_setPowerBit]
  case tests =>
    refine ⟨?_, ?_, rfl⟩
    · rw [State.u2St_reply, State.u2St_setU2 _ _ (by decide)]
    · rw [State.reply_get, State.get_setU2 _ _ _ _ (by decide) (.inr (by decide))]
      exact State.get_put_fits _ _ _ _ (by decide) (lt_of_le_of_lt hhi (by decide))
  case exits =>
    obtain ⟨hst', hu⟩ := s.startResume_parts p true 1 false
    exact ⟨State.u2St_reply _ |>.trans hst', by rw [State.u2p_reply, hu], rfl⟩
  case cleared =>
    have hbit : (1#16 <<< (sel - 16)).getLsbD (sel - 16) = true := by
      have hsel : sel - 16 < 16 := by omega
      simp [hsel]
    simp [hbit]

end Sys2Proof.Machine

namespace Sys2Proof.Machine

/-! PROOFS. The register commands of the SuperSpeed ports, the presentations, the graver and the DRAM controller (O37): each is one access that
its target takes, and two of them read a window whose pointer moves. -/

/-! ### No register of these pages is guarded -/

/-- A page whose registers hold no guarded field has no guarded register. -/
theorem isRwg_of_regs {pg : PageId} (h : pg.regs.all (fun r => !r.fields.any (fun f => f.ty == .rwg)) = true) (off : Nat) :
    isRwg pg off = false := by
  unfold isRwg
  split
  · rfl
  next r hr => simpa using List.all_eq_true.1 h r (List.mem_of_find?_eq_some hr)

/-- A page without guarded registers. -/
def plainPage (pg : PageId) : Prop := ∀ off, isRwg pg off = false

theorem isComplement_of_plainPage {pg : PageId} (h : plainPage pg) (off : Nat) : isComplement pg off = false := by
  simp [isComplement, h (off - 4)]

theorem plainPage_ssp (f : Full) : plainPage (.ssp f) := isRwg_of_regs rfl
theorem plainPage_ups (u : Up) : plainPage (.ups u) := isRwg_of_regs rfl
theorem plainPage_prs : plainPage .prs := isRwg_of_regs (by decide +kernel)
theorem plainPage_grv : plainPage .grv := isRwg_of_regs (by decide +kernel)
theorem plainPage_drc : plainPage .drc := isRwg_of_regs (by decide +kernel)

section
variable {s : State} {who : Requester} {pg : PageId} {off : Nat}

/-- A write of a plain page that is taken is its register's. -/
theorem State.writeOne_plain (hpg : plainPage pg) (ht : s.takesWrite who pg off = true) {be : BitVec 4} (hbe : be ≠ 0) (v : Word) :
    s.writeOne who (regAddr pg off) be v = s.writeTakenBy who pg off be v :=
  State.writeOne_taken ht hbe (hpg off) (isComplement_of_plainPage hpg off) v

end

/-! ### What follows an access -/

section
variable {pgs : List PageId}

theorem State.KeepsPages.foldl {α : Type} {l : List α} {s u : State} {f : State → α → State}
    (hf : ∀ t, ∀ x ∈ l, s.KeepsPages pgs t → s.KeepsPages pgs (f t x)) (h : s.KeepsPages pgs u) : s.KeepsPages pgs (l.foldl f u) := by
  induction l generalizing u with
  | nil => exact h
  | cons x l ih =>
    exact ih (fun t y hy => hf t y (List.mem_cons_of_mem _ hy)) (hf _ _ List.mem_cons_self h)

theorem State.loadReg_keepsPages (s : State) {pg : PageId} {off : Nat} (v : Word) (hpg : pg ∉ pgs) (hoff : off < 0x1000) :
    s.KeepsPages pgs (s.loadReg pg off v) := by
  unfold State.loadReg
  extract_lets m a
  exact ((State.KeepsPages.refl s).wr _ fun pg' hpg' off' hoff' =>
    PageId.addr_ne (show pg' ≠ pg from fun e => hpg (e ▸ hpg')) hoff' hoff).of_regs rfl rfl rfl

/-- A register list applied to some pages leaves the others (R21, R141). -/
theorem State.applyList_keepsPages (s : State) {only : PageId → Bool} (honly : ∀ pg ∈ pgs, only pg = false) (hcfg : .cfg ∉ pgs)
    (g : Nat → Byte) (sec : Section) : s.KeepsPages pgs (s.applyList only g sec) := by
  have hskip (t : State) (h : s.KeepsPages pgs t) : s.KeepsPages pgs t.skipEntry := h.put _ _ hcfg (by decide)
  unfold State.applyList
  extract_lets s1
  have h1 : s.KeepsPages pgs s1 := by
    refine .foldl (fun t i _ h => ?_) (.refl s)
    unfold State.applyEntry
    split
    · split
      · exact h
      next pg _ =>
        split
        next hload =>
          have hpg : pg ∉ pgs := fun hmem => by simp [honly pg hmem] at hload
          exact h.trans (State.loadReg_keepsPages _ _ hpg (Nat.mod_lt _ (by decide)))
        · exact h
    · exact hskip t h
  split
  · exact hskip _ h1
  · exact h1

/-- The entries of a tag of register lists applied to some pages leave the others. -/
theorem State.reapply_keepsPages (s : State) {only : PageId → Bool} (honly : ∀ pg ∈ pgs, only pg = false) (hcfg : .cfg ∉ pgs) {tag : Nat}
    (htag : tag < 0x10) (inst : Nat) : s.KeepsPages pgs (s.reapply only tag inst) := by
  unfold State.reapply
  split
  · exact .refl s
  · extract_lets g
    split
    · exact .refl s
    · refine State.KeepsPages.put (.foldl (fun t c hc h => ?_) (.refl s)) _ _ hcfg (by decide)
      have hc' : c.tag = tag := by
        simp only [List.mem_filter, Bool.and_eq_true, beq_iff_eq] at hc
        exact hc.2.1
      unfold State.applySection
      split
      case h_5 => exact h.trans (t.applyList_keepsPages honly hcfg g c)
      all_goals omega

theorem State.mgtRelease_keepsPages (s : State) (hm : .mgt ∉ pgs) (hk : .clk ∉ pgs) (hcfg : .cfg ∉ pgs) : s.KeepsPages pgs s.mgtRelease := by
  have honly : ∀ pg ∈ pgs, (pg == PageId.mgt) = false := fun pg hpg => beq_false_of_ne fun e => hm (e ▸ hpg)
  unfold State.mgtRelease State.legCheck
  extract_lets c s1
  have h1 : s.KeepsPages pgs s1 :=
    (((s.mgtPageReset_keepsPages hm).put _ _ hk (by decide)).trans (State.reapply_keepsPages _ honly hcfg (by decide) 0)).put _ _ hm (by decide)
  split
  · exact h1
  · refine h1.trans ⟨State.raiseWith_answer .., State.raiseWith_coreHeld .., fun pg hpg f hf => ?_⟩
    exact State.get_raiseWith _ _ _ _ _ _ _ _ f (.inl fun e => hm (e ▸ hpg)) hf

/-- What follows an access keeps every page that the management domain does not write as it enters or leaves reset. -/
theorem State.mgtFollow_keeps (s : State) (hm : .mgt ∉ pgs) (hk : .clk ∉ pgs) (hcfg : .cfg ∉ pgs) (hg : .glb ∉ pgs) (he : .evq ∉ pgs) :
    s.KeepsPages pgs s.mgtFollow := by
  unfold State.mgtFollow
  split
  · exact .refl s
  · split
    · exact s.mgtReset_keepsPages hg hk hm he
    · exact s.mgtRelease_keepsPages hm hk hcfg

end

/-! ### A read that keeps MGF -/

/-- The state after a read that is taken with a word, where the read keeps MGF: the answer is that word and what follows changes no page but
those of the management domain. -/
theorem State.readOne_of_taken {s u : State} {who : Requester} {pg : PageId} {off : Nat} {v : Word} (h : s.reaches who pg off = true)
    (ht : s.readTaken who pg off false = some (v, u)) (hkeep : s.KeepsPages [.mgf] u) :
    s.readOne who (regAddr pg off) = (u.reply (.word 0 v)).mgtFollow := by
  have haccess : s.access who (regAddr pg off) none false false 0 = some (⟨0, v⟩, u) := by
    rw [State.access_read h, ht]
    rfl
  have hfollow : (u.reply (.word 0 v)).KeepsPages [.mgf] (u.reply (.word 0 v)).mgtFollow :=
    State.mgtFollow_keeps _ (by decide) (by decide) (by decide) (by decide) (by decide)
  rw [State.readOne, State.oneWith_of_access (State.mayAccess_of_reaches h) haccess, if_neg (by decide),
    State.afterAccess_of_running (hkeep.coreHeld.trans (State.coreHeld_of_reaches h))]
  exact State.noticeWake_of_get_mgf (fun f hf => (hfollow.get .mgf (by decide) f hf).trans (hkeep.get .mgf (by decide) f hf))

/-! ### The two windows -/

section
variable {s : State} {who : Requester}

/-- A parity visit of a block whose page has no safe action of its own finds the mismatch and no more. -/
theorem State.parityVisit_epm (s : State) (off : Nat) : s.parityVisit .epm off = (s.findParity (PageId.base .epm + off)).2 :=
  State.parityVisit_of_noSafeAction s fun _ _ => ite_self _

theorem State.parityVisit_grv (s : State) (off : Nat) : s.parityVisit .grv off = (s.findParity (PageId.base .grv + off)).2 :=
  State.parityVisit_of_noSafeAction s fun _ _ => ite_self _

/-- A hardware update of a field (R68) keeps the other pages and reads back. -/
theorem State.putRw_keepsPages {pgs : List PageId} {s u : State} (h : s.KeepsPages pgs u) {pg : PageId} (f : Fld) (v : Nat) (hpg : pg ∉ pgs)
    (hf : f.off < 0x1000) : s.KeepsPages pgs (u.putRw pg f v) := by
  have hbad : State.KeepsBut [.bad] (u.put pg f v) (u.putRw pg f v) := .mendParity (by decide) (.refl _)
  exact (h.put f v hpg hf).trans ⟨hbad.same .answer rfl (by decide), hbad.same .coreHeld rfl (by decide), fun pg' _ g _ => State.putRw_get ..⟩

/-- A mismatch found in GRV is told in the header of the page (R69): its block registers stay. -/
theorem State.findParity_grv_get (s : State) {addr : Nat} (ha : pageAt addr = some .grv) {f : Fld} (hlo : 0x40 ≤ f.off) (hhi : f.off < 0x1000) :
    (s.findParity addr).2.get .grv f = s.get .grv f := by
  have hdr (t : State) (g : Fld) (v : Nat) (hg : g.off < 0x40) : (t.put .grv g v).get .grv f = t.get .grv f :=
    State.get_put_off _ _ _ _ _ (by omega)
  have hhlt (t : State) (g : Fld) (v : Nat) (hg : g.off < 0x1000) : (t.put .hlt g v).get .grv f = t.get .grv f :=
    State.get_put_page _ _ _ _ (by decide) hg hhi
  unfold State.findParity
  split
  next pg b hp _ =>
    obtain rfl : PageId.grv = pg := Option.some.inj (ha.symm.trans hp)
    extract_lets rp
    split
    · rfl
    next s1 s2 s3 s4 _ =>
    have h1 : s1.get .grv f = s.get .grv f := by
      unfold s1
      split
      · exact hdr _ _ _ (by decide)
      · exact (hdr _ _ _ (by decide)).trans ((hdr _ _ _ (by decide)).trans (hdr _ _ _ (by decide)))
    have h3 : s3.get .grv f = s2.get .grv f := by
      unfold s3
      split
      · rfl
      · exact (hhlt _ _ _ (by decide)).trans (hhlt _ _ _ (by decide))
    obtain ⟨fifos, hf⟩ := s4.handOff_parts (rp.base / 0x1000) (s4.mkRecord rp evParity (PageId.inst .grv) addr true .none)
    rw [hf]
    exact h3.trans h1
  · rfl

theorem State.epmWinRead_keepsPages (s : State) : s.KeepsPages [.mgf] s.epmWinRead.2 := by
  unfold State.epmWinRead
  split
  · exact .refl s
  · extract_lets a w
    split
    · exact State.putRw_keepsPages (.refl s) _ _ (by decide) (by decide)
    · have hfree : s.KeepsPages [.mgf] s.free.2 := (State.KeepsPages.refl s).of_regs rfl rfl rfl
      exact State.putRw_keepsPages hfree _ _ (by decide) (by decide)

/-- A read of the window of the function memory that reaches it: the word that the window gives, and the memory stays (R372). -/
theorem State.readOne_epmWin (h : s.reaches who .epm 0x4C = true) :
    (s.readOne who (regAddr .epm 0x4C)).answer = .word 0 s.epmWinRead.1 ∧ (s.readOne who (regAddr .epm 0x4C)).epm = s.epm := by
  have htaken : s.readTaken who .epm 0x4C false = some (s.epmWinRead.1, (s.epmWinRead.2.findParity (PageId.base .epm + 0x4C)).2) :=
    congrArg (fun u => some (s.epmWinRead.1, u)) (State.parityVisit_epm _ _)
  have hkeep : s.KeepsPages [.mgf] (s.epmWinRead.2.findParity (PageId.base .epm + 0x4C)).2 :=
    s.epmWinRead_keepsPages.trans (State.findParity_keepsPages _ (pg := .epm) rfl (by decide) (by decide) (by decide))
  have hparts : s.KeepsBut (Part.allBut [.epm]) (s.readOne who (regAddr .epm 0x4C)) := by
    rw [State.readOne_of_taken h htaken hkeep]
    exact .mgtFollow (by decide) (.reply (by decide) (.findParity (by decide) (.epmWinRead (by decide) (.refl s))))
  refine ⟨?_, hparts.same .epm rfl (by decide)⟩
  rw [State.readOne_of_taken h htaken hkeep]
  exact (State.KeepsBut.mgtFollow (M := Part.allBut [.answer]) (by decide) (.refl _)).same .answer rfl (by decide)

/-- Where the buffer window is open a read takes the word and steps the pointer (R378). -/
theorem State.bufRead_open (hfound : s.badFound .grv 0x4C = false) (hshut : s.bufShut = false) :
    s.bufRead = (BitVec.ofNat 32 (leNat (s.bufGet (4 * s.get .grv F.GRV_BUF_PTR_PTR) 4) 0 4), s.bufStep) := by
  simp [State.bufRead, hfound, hshut]

theorem State.bufRead_keepsPages (s : State) : s.KeepsPages [.mgf] s.bufRead.2 := by
  unfold State.bufRead
  split
  · exact (State.KeepsPages.refl s).put _ _ (by decide) (by decide)
  · split
    · exact .refl s
    · exact State.putRw_keepsPages (.refl s) _ _ (by decide) (by decide)

theorem State.readOne_buf (h : s.reaches who .grv 0x54 = true) : s.readOne who (regAddr .grv 0x54) =
    (((s.bufRead.2.findParity (PageId.base .grv + 0x54)).2).reply (.word 0 s.bufRead.1)).mgtFollow := by
  have htaken : s.readTaken who .grv 0x54 false = some (s.bufRead.1, (s.bufRead.2.findParity (PageId.base .grv + 0x54)).2) :=
    congrArg (fun u => some (s.bufRead.1, u)) (State.parityVisit_grv _ _)
  exact State.readOne_of_taken h htaken
    (s.bufRead_keepsPages.trans (State.findParity_keepsPages _ (pg := .grv) rfl (by decide) (by decide) (by decide)))

theorem State.readOne_buf_answer (h : s.reaches who .grv 0x54 = true) :
    (s.readOne who (regAddr .grv 0x54)).answer = .word 0 s.bufRead.1 := by
  rw [State.readOne_buf h]
  exact (State.KeepsBut.mgtFollow (M := Part.allBut [.answer]) (by decide) (.refl _)).same .answer rfl (by decide)

theorem State.readOne_buf_pointer (h : s.reaches who .grv 0x54 = true) (hfound : s.badFound .grv 0x4C = false) (hshut : s.bufShut = false) :
    (s.readOne who (regAddr .grv 0x54)).get .grv F.GRV_BUF_PTR_PTR = (s.get .grv F.GRV_BUF_PTR_PTR + 1) % 2 ^ 19 := by
  have hfollow (u : State) : u.KeepsPages [.grv] u.mgtFollow := u.mgtFollow_keeps (by decide) (by decide) (by decide) (by decide) (by decide)
  rw [State.readOne_buf h, (hfollow _).get .grv (by decide) _ (by decide), State.reply_get,
    State.findParity_grv_get _ rfl (by decide) (by decide), State.bufRead_open hfound hshut]
  exact (State.putRw_get ..).trans (State.get_put_same _ _ _ _ (by decide))

end

/-- Settles O37: each command is one access of a register that is not guarded; the two window reads are answered with their word. -/
theorem linkPresentationAndGraverWritesAreTaken : Obligations.LinkPresentationAndGraverWritesAreTaken := by
  unfold Obligations.LinkPresentationAndGraverWritesAreTaken
  refine ⟨fun who f s ht => ⟨_, rfl, State.writeOne_plain (plainPage_ssp f) ht (by decide) 1⟩,
    fun who f s ht => ⟨_, rfl, State.writeOne_plain (plainPage_ssp f) ht (by decide) 2⟩,
    fun who f n s ht => ⟨_, rfl, s.oneWith_taken who (.ssp f) 0x50 0xF 4 false n ht (by decide) (plainPage_ssp f _)
      (isComplement_of_plainPage (plainPage_ssp f) _)⟩,
    fun who f s ht => ⟨_, rfl, State.writeOne_plain (plainPage_ssp f) ht (by decide) 1⟩,
    fun who f v s ht => ⟨_, rfl, State.writeOne_plain (plainPage_ssp f) ht (by decide) _⟩,
    fun who u v s ht => ⟨_, rfl, State.writeOne_plain (plainPage_ups u) ht (by decide) _⟩,
    fun who p be v s ht hbe => ⟨_, rfl, State.writeOne_plain plainPage_prs ht hbe v⟩,
    fun who s ht => ⟨_, rfl, State.writeOne_plain plainPage_prs ht (by decide) 4⟩,
    fun who u s ht => ⟨_, rfl, State.writeOne_plain plainPage_prs ht (by decide) _⟩,
    fun who s h => ⟨_, rfl, State.readOne_epmWin h⟩,
    fun who r be v s ht hbe => ⟨_, rfl, State.writeOne_plain plainPage_grv ht hbe v⟩,
    fun who r be v s ht hbe => ⟨_, rfl, State.writeOne_plain plainPage_grv ht hbe v⟩,
    fun who be v s ht hbe => ⟨_, rfl, State.writeOne_plain plainPage_grv ht hbe v⟩,
    fun who s h => ⟨_, rfl, State.readOne_buf_answer h, fun hfound hshut =>
      ⟨congrArg Prod.fst (State.bufRead_open hfound hshut), State.readOne_buf_pointer h hfound hshut⟩⟩,
    fun who r off be v s ht hbe => ⟨_, rfl, State.writeOne_plain plainPage_grv ht hbe v⟩,
    fun who w s ht _ => ⟨_, rfl, State.writeOne_plain plainPage_drc ht (by decide) _⟩,
    fun who w s ht => ⟨_, rfl, State.writeOne_plain plainPage_drc ht (by decide) _⟩,
    fun who s ht => ⟨_, rfl, State.writeOne_plain plainPage_drc ht (by decide) _⟩⟩

end Sys2Proof.Machine

namespace Sys2Proof.Machine

/-! PROOFS. The SuperSpeed side of a port: what its shared operations leave (R301, R305, R313), and how its links train, fall back and recover
(O43: R301–R305, R316). -/

/-! ### Who serves a port -/

section
variable {s t : State}

theorem State.ssSide_congr {f : Full} (hc : t.compat = s.compat) (ho : t.curOwner (fullPort f) = s.curOwner (fullPort f)) :
    t.ssSide f = s.ssSide f := by
  simp only [State.ssSide, State.ownerUp, hc, ho]

theorem curOwner_off_lt (p : Port) : (F.PRS_OWNERn_CUR p.val).off < 0x1000 ∧ (F.PRS_OWNERn_CUR p.val).off ≠ 0xC := by
  simp only [F.PRS_OWNERn_CUR]
  omega

/-- Who serves a port lies in GLB and PRS alone. -/
theorem State.WritesIn.ssSide {W : List Zone} (h : s.WritesIn W t) (hW : W.all (fun z => z.kind != .glb && z.kind != .prs) = true) (f : Full) :
    t.ssSide f = s.ssSide f := by
  simp only [List.all_eq_true, Bool.and_eq_true] at hW
  obtain ⟨hlt, hne⟩ := curOwner_off_lt (fullPort f)
  refine State.ssSide_congr ?_ (h.get _ _ (Zone.spared_of_kind (List.all_eq_true.2 fun z hz => (hW z hz).2) hlt hne))
  unfold State.compat State.flag
  rw [h.get .glb _ (Zone.spared_of_kind (List.all_eq_true.2 fun z hz => (hW z hz).1) (by decide) (by decide))]

end

/-! ### Shared operations -/

section
variable (s : State) (f : Full)

@[simp] theorem State.link_setLink {v : Nat} (hv : v < 16) : (s.setLink f v).link f = v :=
  State.get_put_fits _ _ _ _ (by decide) hv

@[simp] theorem State.upState_setUpState (u : Up) {v : Nat} (hv : v < 16) : (s.setUpState u v).upState u = v :=
  State.get_put_fits _ _ _ _ (by decide) hv

/-- The change bits of both views once the owner's has taken some (R299). -/
def State.ssChgTaken (bits : BitVec 16) : Vector (BitVec 16) 2 :=
  match s.ssSide f with
  | none => (s.ssp f).chg
  | some c => (s.ssp f).chg.set c ((s.ssp f).chg[c] ||| bits)

theorem State.ssChgTaken_congr {s t : State} {f : Full} (hside : t.ssSide f = s.ssSide f) (hport : t.ssp f = s.ssp f) (bits : BitVec 16) :
    t.ssChgTaken f bits = s.ssChgTaken f bits := by
  unfold State.ssChgTaken
  rw [hside, hport]

theorem State.ssChgTaken_of_side {c : Fin 2} (h : s.ssSide f = some c) (bits : BitVec 16) :
    (s.ssChgTaken f bits)[c] = (s.ssp f).chg[c] ||| bits := by
  simp [State.ssChgTaken, h]

@[simp] theorem State.ssp_addSsChg (bits : BitVec 16) : (s.addSsChg f bits).ssp f = { s.ssp f with chg := s.ssChgTaken f bits } := by
  cases h : s.ssSide f <;> simp [State.addSsChg, State.ssChgTaken, h]

@[simp] theorem State.get_addSsChg (bits : BitVec 16) (pg : PageId) (g : Fld) : (s.addSsChg f bits).get pg g = s.get pg g := by
  unfold State.addSsChg
  split <;> rfl

@[simp] theorem State.ssSide_addSsChg (bits : BitVec 16) (g : Full) : (s.addSsChg f bits).ssSide g = s.ssSide g := by
  unfold State.addSsChg
  split <;> rfl

@[simp] theorem State.ssp_maskWake (b : Nat) (g : Full) : (s.maskWake f b).ssp g = s.ssp g :=
  (State.KeepsBut.maskWake (M := [.upLink]) (by decide) (.refl s)).ssp (by decide) g

theorem State.get_maskWake (b : Nat) (pg : PageId) (g : Fld) : (s.maskWake f b).get pg g = s.get pg g := by
  unfold State.maskWake State.upWake
  split
  · rfl
  · split
    · split
      · exact State.upLkWith_get ..
      · rfl
    · rfl

/-- A margining run ends with the link's leave (R319). -/
@[simp] theorem State.ssp_marginLost : (s.marginLost f).ssp f = { s.ssp f with margining := false } := by
  unfold State.marginLost
  split
  · simp only [State.ssp_put, State.sspWith_same]
    rfl
  next h =>
    have hm : (s.ssp f).margining = false := by simpa using h
    rw [← hm]

theorem State.marginLost_writes : s.WritesIn Zone.margin (s.marginLost f) := .marginLost_bits (List.Subset.refl _) (.refl s)

/-! ### A link that leaves its state -/

/-- The port's hidden side once its link has left for a state without a device (R301, R313): a device that was connected is told in the owner's
view. -/
def State.ssLeft : SspSt :=
  { s.ssp f with chg := if (s.ssp f).connected then s.ssChgTaken f sConnection else (s.ssp f).chg,
                 connected := false, down := [], exiting := none, complianceAuto := false, loopMaster := false, reset := .none, margining := false }

theorem State.ssp_ssLeave (dest cause : Nat) : (s.ssLeave f dest cause).ssp f = s.ssLeft f := by
  unfold State.ssLeave
  extract_lets s0 x s1 s2
  have h0 : s0.ssp f = s.ssp f := by
    unfold s0 State.ssEndCompliance State.raisePort
    split
    · simp
    · rfl
  have hside : s0.ssSide f = s.ssSide f :=
    (State.WritesIn.ssEndCompliance (W := []) (f := f) (.refl s)).ssSide rfl f
  have hchg : s0.ssChgTaken f sConnection = s.ssChgTaken f sConnection := State.ssChgTaken_congr hside h0 _
  have h1 : s1.ssp f = { s.ssp f with chg := if (s.ssp f).connected then s.ssChgTaken f sConnection else (s.ssp f).chg } := by
    unfold s1 x
    rw [h0]
    split
    · rw [State.ssp_maskWake]
      split <;> simp [State.raisePort, h0, hchg]
    · exact h0
  have hlost : ((s1.devLost (fullPort f) true).ssDiscard f x.down.length).ssp f = s1.ssp f :=
    (State.KeepsBut.ssDiscard (M := [.lheSt, .graver]) (.devLost (by decide) (.refl s1))).ssp (by decide) f
  have h2 : s2.ssp f = { s.ssLeft f with margining := (s.ssp f).margining } := by
    unfold s2
    rw [State.sspWith_same, hlost, h1]
    rfl
  unfold State.setLink
  simp only [State.ssp_put, State.ssp_marginLost, h2]
  rfl

theorem State.ssLeave_writes (dest cause : Nat) : s.WritesIn Zone.ssLeave (s.ssLeave f dest cause) := .ssLeave_bits (List.Subset.refl _) (.refl s)

theorem State.link_ssLeave {dest : Nat} (hd : dest < 16) (cause : Nat) : (s.ssLeave f dest cause).link f = dest := by
  unfold State.ssLeave
  exact State.link_setLink _ f hd

theorem State.gen2_ssLeave (dest cause : Nat) : (s.ssLeave f dest cause).get (.ssp f) F.SSP_STATUS_GEN2 = 0 := by
  unfold State.ssLeave State.setLink
  simp (disch := decide) only [State.get_put_bits, State.get_put_fits]

theorem State.ssp_ssDetect (cause : Nat) : (s.ssDetect f cause).ssp f = { s.ssLeft f with firstPoll := true } := by
  unfold State.ssDetect
  rw [State.sspWith_same, State.ssp_ssLeave]

theorem State.link_ssDetect (cause : Nat) : (s.ssDetect f cause).link f = lkRxDetect := by
  unfold State.ssDetect
  exact (State.sspWith_get ..).trans (s.link_ssLeave f (by decide) cause)

theorem State.gen2_ssDetect (cause : Nat) : (s.ssDetect f cause).get (.ssp f) F.SSP_STATUS_GEN2 = 0 := by
  unfold State.ssDetect
  rw [State.sspWith_get, State.gen2_ssLeave]

/-! ### A link that trains -/

/-- The speed that a trained link takes: Gen 2 where both ends allow it and it is not barred (R304). -/
def State.trainsGen2 (gen2 : Bool) : Bool := gen2 && s.maxGen f == 1 && !s.flag (.ssp f) F.SSP_STATUS_GEN2_BARRED

theorem State.link_raisePort (pg : PageId) (p : Port) (e : Ev) (d : Nat) (b : Bool) : (s.raisePort pg p e d b).link f = s.link f :=
  s.get_raisePort_off _ _ _ _ _ _ (by decide) (by decide)

/-- A port whose link has reached U0 (R301). -/
theorem State.ssLinkUp_parts (gen2 : Bool) : (s.ssLinkUp f gen2).link f = lkU0 ∧ ((s.ssLinkUp f gen2).ssp f).connected = true ∧
    ((s.ssLinkUp f gen2).ssp f).pollFails = 0 ∧ ((s.ssLinkUp f gen2).ssp f).reset = (s.ssp f).reset ∧
    ((s.ssLinkUp f gen2).ssp f).chg = (if (s.ssp f).connected then (s.ssp f).chg else s.ssChgTaken f sConnection) ∧
    (s.ssLinkUp f gen2).get (.ssp f) F.SSP_STATUS_GEN2 = bit (s.trainsGen2 f gen2) := by
  unfold State.ssLinkUp
  extract_lets g s1 s2 c c'
  have hside : s1.ssSide f = s.ssSide f :=
    (State.WritesIn.put (L := Zone.ssLeave) (List.Subset.refl _) rfl (.setFlag (List.Subset.refl _) rfl (.refl s))).ssSide rfl f
  have h1 : s1.ssp f = s.ssp f := by simp [s1, State.setLink, State.setFlag]
  have hchg : s1.ssChgTaken f sConnection = s.ssChgTaken f sConnection := State.ssChgTaken_congr hside h1 _
  have h2 : s2.ssp f = { s.ssp f with chg := if (s.ssp f).connected then (s.ssp f).chg else s.ssChgTaken f sConnection } := by
    unfold s2
    split
    · rw [h1]
    · rw [State.ssp_maskWake, State.ssp_addSsChg, hchg, h1]
  have hget (h : Fld) : s2.get (.ssp f) h = s1.get (.ssp f) h := by
    unfold s2
    split
    · rfl
    · rw [State.get_maskWake, State.get_addSsChg]
  have hlink : s2.link f = lkU0 := (hget _).trans (State.link_setLink _ f (by decide))
  have hgen : s2.get (.ssp f) F.SSP_STATUS_GEN2 = bit (s.trainsGen2 f gen2) := by
    rw [hget]
    exact (State.get_put_bits _ _ _ _ _ (by decide)).trans (State.get_setFlag_same _ _ _ (by decide) (by decide))
  refine ⟨?_, ?_, ?_, ?_, ?_, ?_⟩
  · exact (State.link_raisePort ..).trans ((State.sspWith_get ..).trans hlink)
  · simp [State.raisePort]
  · simp [State.raisePort]
  · simp [State.raisePort, h2]
  · simp [State.raisePort, h2]
  · exact (State.get_raisePort_off _ _ _ _ _ _ _ (by decide) (by decide)).trans ((State.sspWith_get ..).trans hgen)

end

/-! ### Training and fallback (R301, R302) -/

section
variable {s : State} {f : Full}

theorem State.get_setLink (pg : PageId) {g : Fld} (v : Nat) (hg : g.off < 0x1000)
    (h : g.off ≠ F.SSP_STATUS_LINK_STATE.off ∨ F.SSP_STATUS_LINK_STATE.lo + F.SSP_STATUS_LINK_STATE.width ≤ g.lo ∨
      g.lo + g.width ≤ F.SSP_STATUS_LINK_STATE.lo) : (s.setLink f v).get pg g = s.get pg g :=
  State.get_put_fld _ _ _ _ _ _ (by decide) hg h

@[simp] theorem State.ssp_setLink (v : Nat) (g : Full) : (s.setLink f v).ssp g = s.ssp g := State.ssp_put ..

theorem State.link_eq {l v : Nat} (h : s.link f = l) (hne : l ≠ v) : s.link f ≠ v := h ▸ hne

theorem exec_rxDetect_found (hl : s.link f = lkRxDetect) : exec (.rxDetect f true) s = .next (s.setLink f lkPolling) :=
  show execRxDetect f true s = _ from if_pos ⟨hl, rfl⟩

theorem exec_rxDetect_none : exec (.rxDetect f false) s = .next s :=
  show execRxDetect f false s = _ from if_neg (by simp)

theorem exec_linkU0_polling (g : Bool) (hl : s.link f = lkPolling) (hr : (s.ssp f).reset = .none) :
    exec (.linkU0 f g) s = .next (s.ssLinkUp f g) :=
  show execLinkU0 f g s = _ from if_pos ⟨hl, hr⟩

theorem exec_linkU0_recovery (g : Bool) (hl : s.link f = lkRecovery) : exec (.linkU0 f g) s = .next (s.setLink f lkU0) :=
  show execLinkU0 f g s = _ from (if_neg fun h => State.link_eq hl (by decide) h.1).trans (if_pos hl)

theorem exec_linkU0_exit (g : Bool) (hl : s.link f = lkU3) (hx : (s.ssp f).exiting ≠ none) : exec (.linkU0 f g) s =
    .next (((s.sspWith f (fun x => { x with exiting := none })).addSsChg f sLinkState).setLink f lkU0) :=
  show execLinkU0 f g s = _ from
    (if_neg fun h => State.link_eq hl (by decide) h.1).trans ((if_neg (State.link_eq hl (by decide))).trans (if_pos ⟨hl, hx⟩))

/-- The failure of Polling counted (R302). -/
def State.pollCounted (s : State) (f : Full) : State := s.countErr (.ssp f) (fullPort f) F.SSP_CNT_POLL_FAILS

theorem exec_pollingFail (hl : s.link f = lkPolling) (hn : (s.ssp f).pollFails ≤ 1) : exec (.pollingFail f false) s =
    .next (((s.pollCounted f).sspWith f (fun x => { x with pollFails := x.pollFails + 1, firstPoll := false })).setLink f lkRxDetect) :=
  show execPollingFail f false s = _ from (if_neg (not_not.2 hl)).trans (if_neg (by omega : ¬ 3 ≤ (s.ssp f).pollFails + 1))

theorem exec_pollingFail_third (hl : s.link f = lkPolling) (hn : 2 ≤ (s.ssp f).pollFails) : exec (.pollingFail f false) s =
    .next ((s.pollCounted f).ssGiveUp f) :=
  show execPollingFail f false s = _ from (if_neg (not_not.2 hl)).trans (if_pos (by omega : 3 ≤ (s.ssp f).pollFails + 1))

theorem exec_pollingFail_config (hl : s.link f = lkPolling) : exec (.pollingFail f true) s =
    .next (((s.pollCounted f).addSsChg f sConfigError).ssGiveUp f) :=
  show execPollingFail f true s = _ from if_neg (not_not.2 hl)

theorem State.ssp_countErr (pg : PageId) (p : Port) (g : Fld) : (s.countErr pg p g).ssp f = s.ssp f :=
  (State.KeepsBut.countErr (M := []) (.refl s)).ssp (by decide) f

/-- SuperSpeed given up on a port (R302). -/
theorem State.ssGiveUp_parts (s : State) (f : Full) : (s.ssGiveUp f).link f = lkDisabled ∧
    (s.ssGiveUp f).get (.ssp f) F.SSP_STATUS_SS_ONLY2 = 1 ∧ (s.ssGiveUp f).ssp f = { s.ssLeft f with pollFails := 0 } := by
  unfold State.ssGiveUp
  refine ⟨?_, ?_, ?_⟩
  · refine (State.link_raisePort ..).trans ((State.sspWith_get ..).trans ?_)
    exact (State.get_put_bits _ _ _ _ _ (by decide)).trans (s.link_ssLeave f (by decide) 0)
  · refine (State.get_raisePort_off _ _ _ _ _ _ _ (by decide) (by decide)).trans ((State.sspWith_get ..).trans ?_)
    exact State.get_put_fits _ _ _ _ (by decide) (by decide)
  · simp [State.raisePort, State.ssp_ssLeave]

/-- Bits that a word holds it holds with more set. -/
theorem holds_or {w : Nat} {b y : BitVec w} (h : b &&& y = b) (z : BitVec w) : b &&& (y ||| z) = b := by
  have hyz : y &&& (y ||| z) = y := by
    ext i
    simp
    tauto
  rw [← h, BitVec.and_assoc, hyz]

theorem holds_or_left {w : Nat} {b z : BitVec w} (h : b &&& z = b) (y : BitVec w) : b &&& (y ||| z) = b := by
  rw [BitVec.or_comm]
  exact holds_or h y

/-- What has been added to the owner's change bits stays as the link leaves. -/
theorem State.ssLeft_chg {c : Fin 2} (hside : s.ssSide f = some c) (b : BitVec 16) (h : b &&& (s.ssp f).chg[c] = b) :
    b &&& (s.ssLeft f).chg[c] = b := by
  unfold State.ssLeft
  dsimp only
  split
  · rw [State.ssChgTaken_of_side _ _ hside]
    exact holds_or h _
  · exact h

/-! ### Recovery (R305, R316) -/

/-- The errors of a Recovery entry counted (R316). -/
def State.recovCounted (s : State) (f : Full) (symbols crcs retries : Nat) : State :=
  ((((s.countBy (.ssp f) F.SSP_ERR_SYMBOL symbols).countBy (.ssp f) F.SSP_ERR_HDR_CRC crcs).countBy (.ssp f) F.SSP_ERR_LINK_ERR
    retries).countErr (.ssp f) (fullPort f) F.SSP_ERR_LINK_ERR).countErr (.ssp f) (fullPort f) F.SSP_ERR_RECOV

/-- A link in Recovery, with its window (R316). -/
def State.recovBegun (s : State) (f : Full) (symbols crcs retries : Nat) : State :=
  (((s.recovCounted f symbols crcs retries).marginLost f).sspWith f (fun x =>
    { x with recovAt := s.second, recovWindow := windowCount (s.ssp f).recovAt (s.ssp f).recovWindow s.second })).setLink f lkRecovery

theorem State.ssRecovery_below {a b r : Nat} (h : windowCount (s.ssp f).recovAt (s.ssp f).recovWindow s.second ≠
    recovLimit (s.cfg (.ssp f) F.SSP_CFG_RECOV_LIMIT)) : s.ssRecovery f a b r = s.recovBegun f a b r :=
  if_pos h

theorem State.ssRecovery_limit {a b r : Nat} (h : windowCount (s.ssp f).recovAt (s.ssp f).recovWindow s.second =
    recovLimit (s.cfg (.ssp f) F.SSP_CFG_RECOV_LIMIT)) (hauto : s.cfgFlag (.ssp f) F.SSP_CFG_AUTO_GEN1 = true)
    (hgen : s.flag (.ssp f) F.SSP_STATUS_GEN2 = true) : s.ssRecovery f a b r =
      (((((s.recovBegun f a b r).raisePort (.ssp f) (fullPort f) evRecoveryLimit
        (min (windowCount (s.ssp f).recovAt (s.ssp f).recovWindow s.second) 255)).ssDetect f 2).put (.ssp f) F.SSP_STATUS_GEN2_BARRED
        1).raisePort (.ssp f) (fullPort f) evSsFallback 1) :=
  (if_neg (not_not.2 h)).trans (if_pos (by simp [hauto, hgen]))

theorem exec_linkRecovery_down {a b r : Nat} (hl : s.link f ≤ 2) : exec (.linkRecovery (.down f) a ⟨b, r⟩) s = .next (s.ssRecovery f a b r) :=
  show execLinkRecovery (.down f) a ⟨b, r⟩ s = _ from if_pos hl

theorem State.ssp_recovCounted (s : State) (f : Full) (a b r : Nat) : (s.recovCounted f a b r).ssp f = s.ssp f := by
  unfold State.recovCounted
  rw [State.ssp_countErr, State.ssp_countErr]
  simp [State.countBy]

theorem min_min_add_one (x y m : Nat) : min (min (x + y) m + 1) m = min (x + y + 1) m := by omega

theorem State.recovCounted_counts (s : State) (f : Full) (a b r : Nat) :
    (s.recovCounted f a b r).get (.ssp f) F.SSP_ERR_LINK_ERR =
      min (s.get (.ssp f) F.SSP_ERR_LINK_ERR + r + 1) (2 ^ F.SSP_ERR_LINK_ERR.width - 1) ∧
    (s.recovCounted f a b r).get (.ssp f) F.SSP_ERR_RECOV = min (s.get (.ssp f) F.SSP_ERR_RECOV + 1) (2 ^ F.SSP_ERR_RECOV.width - 1) := by
  unfold State.recovCounted
  constructor
  · rw [State.get_countErr_fld _ _ (by simp) (by decide) (by decide) (by decide), State.get_countErr_same _ _ (by simp) (by decide) (by decide),
      State.get_countBy_same _ _ _ (by decide), State.get_countBy_fld _ _ _ _ (by decide) (by decide) (by decide),
      State.get_countBy_fld _ _ _ _ (by decide) (by decide) (by decide), min_min_add_one]
  · rw [State.get_countErr_same _ _ (by simp) (by decide) (by decide), State.get_countErr_fld _ _ (by simp) (by decide) (by decide) (by decide),
      State.get_countBy_fld _ _ _ _ (by decide) (by decide) (by decide), State.get_countBy_fld _ _ _ _ (by decide) (by decide) (by decide),
      State.get_countBy_fld _ _ _ _ (by decide) (by decide) (by decide)]

theorem State.recovBegun_parts (s : State) (f : Full) (a b r : Nat) : (s.recovBegun f a b r).link f = lkRecovery ∧
    (s.recovBegun f a b r).get (.ssp f) F.SSP_ERR_LINK_ERR =
      min (s.get (.ssp f) F.SSP_ERR_LINK_ERR + r + 1) (2 ^ F.SSP_ERR_LINK_ERR.width - 1) ∧
    (s.recovBegun f a b r).get (.ssp f) F.SSP_ERR_RECOV = min (s.get (.ssp f) F.SSP_ERR_RECOV + 1) (2 ^ F.SSP_ERR_RECOV.width - 1) ∧
    ((s.recovBegun f a b r).ssp f).recovAt = s.second ∧
    ((s.recovBegun f a b r).ssp f).recovWindow = windowCount (s.ssp f).recovAt (s.ssp f).recovWindow s.second := by
  obtain ⟨hlink, hrecov⟩ := s.recovCounted_counts f a b r
  have hmargin := (s.recovCounted f a b r).marginLost_writes f
  unfold State.recovBegun
  refine ⟨State.link_setLink _ f (by decide), ?_, ?_, by simp, by simp⟩
  · rw [State.get_setLink _ _ (by decide) (by decide), State.sspWith_get, hmargin.get _ _ (by rfl), hlink]
  · rw [State.get_setLink _ _ (by decide) (by decide), State.sspWith_get, hmargin.get _ _ (by rfl), hrecov]

theorem exec_ssInactive (hl : s.link f = lkRecovery) : exec (.ssInactive f) s =
    .next ((((((s.raisePort (.ssp f) (fullPort f) evSsDown 1).devLost (fullPort f) true).ssDiscard f (s.ssp f).down.length).sspWith f
      (fun x => { x with down := [] })).addSsChg f sLinkState).setLink f lkInactive) :=
  show execSsInactive f s = _ from if_neg (not_not.2 hl)

end

/-! ### Upstream links (R303) -/

section
variable {s : State} {u : Up}

/-- A link that may train: it stands in Rx.Detect or Polling, on an attached presentation outside compatibility mode, with its lane PLL locked. -/
structure State.UpTrains (s : State) (u : Up) : Prop where
  state : s.upState u = lkRxDetect ∨ s.upState u = lkPolling
  compat : s.compat = false
  attached : s.presAttached u = true
  locked : s.flag .clk (laneFld (.up u)) = true

theorem State.UpTrains.guards (h : s.UpTrains u) : ¬ s.upState u = lkRecovery ∧ ¬ ((!decide (s.upState u = lkRxDetect ∨ s.upState u = lkPolling)) = true ∨
    s.compat = true ∨ (!s.presAttached u) = true ∨ (!s.flag .clk (laneFld (.up u))) = true) := by
  obtain ⟨hst, hcompat, hatt, hlock⟩ := h
  constructor
  · rcases hst with hst | hst <;> rw [hst] <;> decide
  · simp [hst, hcompat, hatt, hlock]

/-- A trained upstream link (R303). -/
def State.upTrained (s : State) (u : Up) (gen2 x2 : Bool) : State :=
  let g := gen2 && s.upMaxGen u == 1
  (((s.setFlag (.ups u) F.UPS_LINK_STATUS_GEN2 g).setFlag (.ups u) F.UPS_LINK_STATUS_X2 x2).setUpState u lkU0).upLkWith u
    (fun l => { l with trainFails := 0 })

theorem exec_upstreamLinkTrained_up (g x : Bool) (h : s.UpTrains u) : ∃ d fb gb : Nat, exec (.upstreamLinkTrained u (.up g x)) s =
    .next (let s2 := (s.upTrained u g x).raisePres (.ups u) u evSsUp u.val d
           let s3 := if x then s2 else s2.raisePres (.ups u) u evSsFallback u.val fb
           if !(g && s.upMaxGen u == 1) && s.upMaxGen u == 1 then s3.raisePres (.ups u) u evSsFallback u.val gb else s3) := by
  obtain ⟨hrec, hgo⟩ := h.guards
  exact ⟨_, _, _, show execUpstreamLinkTrained u (.up g x) s = _ from (if_neg hrec).trans (if_neg hgo)⟩

theorem exec_upstreamLinkTrained_fail (h : s.UpTrains u) (hn : (s.upLk u).trainFails ≤ 1) : exec (.upstreamLinkTrained u .fail) s =
    .next ((s.upLkWith u (fun l => { l with trainFails := l.trainFails + 1 })).setUpState u lkRxDetect) := by
  obtain ⟨hrec, hgo⟩ := h.guards
  exact show execUpstreamLinkTrained u .fail s = _ from (if_neg hrec).trans ((if_neg hgo).trans (if_neg (by omega)))

theorem exec_upstreamLinkTrained_third (h : s.UpTrains u) (hn : 2 ≤ (s.upLk u).trainFails) : exec (.upstreamLinkTrained u .fail) s =
    .next ((((s.upLkWith u (fun l => { l with trainFails := 0 })).setUpState u lkDisabled).put (.ups u) F.UPS_LINK_STATUS_U2_ONLY
      1).raisePres (.ups u) u evSsFallback u.val (2 + 2 ^ 31)) := by
  obtain ⟨hrec, hgo⟩ := h.guards
  exact show execUpstreamLinkTrained u .fail s = _ from (if_neg hrec).trans ((if_neg hgo).trans (if_pos (by omega)))

theorem State.upTrained_parts (s : State) (u : Up) (g x : Bool) : (s.upTrained u g x).upState u = lkU0 ∧
    (s.upTrained u g x).get (.ups u) F.UPS_LINK_STATUS_X2 = bit x ∧
    (s.upTrained u g x).get (.ups u) F.UPS_LINK_STATUS_GEN2 = bit (g && s.upMaxGen u == 1) ∧ ((s.upTrained u g x).upLk u).trainFails = 0 := by
  unfold State.upTrained State.setUpState
  refine ⟨?_, ?_, ?_, by simp⟩
  · exact (State.upLkWith_get ..).trans (State.get_put_fits _ _ _ _ (by decide) (by decide))
  · rw [State.upLkWith_get, State.get_put_bits _ _ _ _ _ (by decide)]
    exact State.get_setFlag_same _ _ _ (by decide) (by decide)
  · rw [State.upLkWith_get, State.get_put_bits _ _ _ _ _ (by decide), State.get_setFlag_fld _ _ _ _ (by decide) (by decide) (by decide)]
    exact State.get_setFlag_same _ _ _ (by decide) (by decide)

/-- An upstream link in Recovery with its errors counted (R316). -/
theorem exec_linkRecovery_up {a b r : Nat} (hl : s.upState u ≤ 2) : exec (.linkRecovery (.up u) a ⟨b, r⟩) s = .next (s.upRecovery u a b r) :=
  show execLinkRecovery (.up u) a ⟨b, r⟩ s = _ from if_pos hl

theorem State.upRecovery_parts (s : State) (u : Up) (a b r : Nat) : (s.upRecovery u a b r).upState u = lkRecovery ∧
    (s.upRecovery u a b r).get (.ups u) F.UPS_ERR_RECOV = min (s.get (.ups u) F.UPS_ERR_RECOV + 1) (2 ^ F.UPS_ERR_RECOV.width - 1) ∧
    (s.upRecovery u a b r).get (.ups u) F.UPS_ERR_LINK_ERR =
      min (s.get (.ups u) F.UPS_ERR_LINK_ERR + r + 1) (2 ^ F.UPS_ERR_LINK_ERR.width - 1) := by
  unfold State.upRecovery
  extract_lets pg n s1 s2
  have hst : s2.upState u = lkRecovery := State.upState_setUpState _ u (by decide)
  have hget {g : Fld} (hg : g.off < 0x1000) (hoff : g.off ≠ F.UPS_LINK_STATUS_LINK_STATE.off) : s2.get (.ups u) g = s1.get (.ups u) g :=
    (State.get_put_off _ _ _ _ _ hoff).trans (State.upLkWith_get ..)
  have hrecov : s1.get (.ups u) F.UPS_ERR_RECOV = min (s.get (.ups u) F.UPS_ERR_RECOV + 1) (2 ^ F.UPS_ERR_RECOV.width - 1) := by
    unfold s1
    rw [State.get_count_same _ _ _ (by decide), State.get_countBy_fld _ _ _ _ (by decide) (by decide) (by decide),
      State.get_countBy_fld _ _ _ _ (by decide) (by decide) (by decide), State.get_countBy_fld _ _ _ _ (by decide) (by decide) (by decide)]
  have hlink : s1.get (.ups u) F.UPS_ERR_LINK_ERR = min (s.get (.ups u) F.UPS_ERR_LINK_ERR + r + 1) (2 ^ F.UPS_ERR_LINK_ERR.width - 1) := by
    unfold s1
    rw [State.get_count_fld _ _ _ _ _ (by decide) (by decide) (by decide), State.get_countBy_same _ _ _ (by decide),
      State.get_countBy_fld _ _ _ _ (by decide) (by decide) (by decide), State.get_countBy_fld _ _ _ _ (by decide) (by decide) (by decide),
      Nat.add_assoc]
  split
  · refine ⟨?_, ?_, ?_⟩
    · exact (State.get_raisePres_off _ _ _ _ _ _ _ _ (by decide) (by decide)).trans hst
    · rw [State.get_raisePres_off _ _ _ _ _ _ _ _ (by decide) (by decide), hget (by decide) (by decide), hrecov]
    · rw [State.get_raisePres_off _ _ _ _ _ _ _ _ (by decide) (by decide), hget (by decide) (by decide), hlink]
  · exact ⟨hst, (hget (by decide) (by decide)).trans hrecov, (hget (by decide) (by decide)).trans hlink⟩

end

/-- Settles O43: each command is the change of the link that its clause names; the records and counts around it leave those fields. -/
theorem superSpeedLinksTrainAndFallBack : Obligations.SuperSpeedLinksTrainAndFallBack := by
  unfold Obligations.SuperSpeedLinksTrainAndFallBack
  refine ⟨fun f s hl => ⟨_, exec_rxDetect_found hl, rfl⟩, fun f s => ⟨_, exec_rxDetect_none, rfl⟩,
    fun f g s hl hr => ⟨_, exec_linkU0_polling g hl hr, ?trained⟩, fun f g s hl => ⟨_, exec_linkU0_recovery g hl, rfl⟩,
    fun f c g s hl hx hc => ⟨_, exec_linkU0_exit g hl hx, ?exits⟩, fun f s hl hn => ⟨_, exec_pollingFail hl hn, ?fails⟩,
    fun f s hl hn => ⟨_, exec_pollingFail_third hl hn, ?third⟩, fun f c s hl hc => ⟨_, exec_pollingFail_config hl, ?config⟩,
    fun u g x s hst hcompat hatt hlock => ?upTrained,
    fun u s hst hcompat hatt hlock hn => ⟨_, exec_upstreamLinkTrained_fail ⟨hst, hcompat, hatt, hlock⟩ hn,
      State.upState_setUpState _ u (by decide), by simp [State.setUpState]⟩,
    fun u s hst hcompat hatt hlock hn => ⟨_, exec_upstreamLinkTrained_third ⟨hst, hcompat, hatt, hlock⟩ hn, ?upThird⟩,
    fun f a b r s hl hn => ?below, fun f a b r s hl hn hauto hgen => ?limit,
    fun u a b r s hl => ⟨_, exec_linkRecovery_up hl, s.upRecovery_parts u a b r⟩,
    fun f c s hl hc => ⟨_, exec_ssInactive hl, ?inactive⟩⟩
  case trained =>
    obtain ⟨hlink, hcon, hfails, -, -, hgen⟩ := s.ssLinkUp_parts f g
    exact ⟨hlink, hcon, hfails, hgen⟩
  case exits =>
    have hside : (s.sspWith f (fun x => { x with exiting := none })).ssSide f = some c := hc
    refine ⟨State.link_setLink _ f (by decide), by simp, ?_⟩
    rw [State.ssp_setLink, State.ssp_addSsChg, State.ssChgTaken_of_side _ _ hside, State.sspWith_same]
  case fails =>
    refine ⟨State.link_setLink _ f (by decide), ?_, ?_⟩
    · rw [State.ssp_setLink, State.sspWith_same, State.pollCounted, State.ssp_countErr]
    · rw [State.get_setLink _ _ (by decide) (by decide), State.sspWith_get]
      exact State.get_countErr_same _ _ (by simp) (by decide) (by decide)
  case third =>
    obtain ⟨hlink, honly, hport⟩ := (s.pollCounted f).ssGiveUp_parts f
    exact ⟨hlink, honly, by rw [hport]⟩
  case config =>
    obtain ⟨hlink, honly, hport⟩ := ((s.pollCounted f).addSsChg f sConfigError).ssGiveUp_parts f
    have hcounted : (s.pollCounted f).ssSide f = some c := by
      have hw : s.WritesIn [.field .ssp F.SSP_CNT_POLL_FAILS, .regs .hlt 0x7C 0x80] (s.pollCounted f) :=
        .countErr (List.Subset.refl _) rfl (by decide) (.refl s)
      exact (hw.ssSide rfl f).trans hc
    refine ⟨hlink, honly, ?_⟩
    rw [hport]
    refine State.ssLeft_chg ((State.ssSide_addSsChg ..).trans hcounted) sConfigError ?_
    rw [State.ssp_addSsChg, State.ssChgTaken_of_side _ _ hcounted]
    exact holds_or_left (BitVec.and_self ..) _
  case upTrained =>
    obtain ⟨d, fb, gb, hexec⟩ := exec_upstreamLinkTrained_up g x ⟨hst, hcompat, hatt, hlock⟩
    obtain ⟨hup, hx2, hgen, hfails⟩ := s.upTrained_parts u g x
    refine ⟨_, hexec, ?_⟩
    have hrecords {t : State} (n : Nat) (e : Ev) (h : t.upState u = lkU0 ∧ t.get (.ups u) F.UPS_LINK_STATUS_X2 = bit x ∧
        t.get (.ups u) F.UPS_LINK_STATUS_GEN2 = bit (g && s.upMaxGen u == 1) ∧ (t.upLk u).trainFails = 0) :
        (t.raisePres (.ups u) u e u.val n).upState u = lkU0 ∧ (t.raisePres (.ups u) u e u.val n).get (.ups u) F.UPS_LINK_STATUS_X2 = bit x ∧
        (t.raisePres (.ups u) u e u.val n).get (.ups u) F.UPS_LINK_STATUS_GEN2 = bit (g && s.upMaxGen u == 1) ∧
        ((t.raisePres (.ups u) u e u.val n).upLk u).trainFails = 0 := by
      have hget (f : Fld) (hf : f.off < 0x1000) (hoff : f.off ≠ 0xC) : (t.raisePres (.ups u) u e u.val n).get (.ups u) f = t.get (.ups u) f :=
        State.get_raisePres_off _ _ _ _ _ _ _ _ hoff hf
      unfold State.upState at h ⊢
      rw [hget _ (by decide) (by decide), hget _ (by decide) (by decide), hget _ (by decide) (by decide), State.raisePres, State.upLk_raiseWith]
      exact h
    have h2 := hrecords d evSsUp ⟨hup, hx2, hgen, hfails⟩
    dsimp only
    split
    · split
      · exact hrecords _ _ h2
      · exact hrecords _ _ (hrecords _ _ h2)
    · split
      · exact h2
      · exact hrecords _ _ h2
  case upThird =>
    constructor
    · refine (State.get_raisePres_off _ _ _ _ _ _ _ _ (by decide) (by decide)).trans ((State.get_put_bits _ _ _ _ _ (by decide)).trans ?_)
      exact State.upState_setUpState _ u (by decide)
    · rw [State.get_raisePres_off _ _ _ _ _ _ _ _ (by decide) (by decide)]
      exact State.get_put_fits _ _ _ _ (by decide) (by decide)
  case below =>
    refine ⟨_, exec_linkRecovery_down hl, ?_⟩
    rw [State.ssRecovery_below hn]
    exact s.recovBegun_parts f a b r
  case limit =>
    refine ⟨_, exec_linkRecovery_down hl, ?_⟩
    rw [State.ssRecovery_limit hn hauto hgen]
    refine ⟨?_, ?_, ?_⟩
    · rw [State.link_raisePort]
      exact (State.get_put_bits _ _ _ _ _ (by decide)).trans (State.link_ssDetect ..)
    · rw [State.get_raisePort_off _ _ _ _ _ _ _ (by decide) (by decide)]
      exact State.get_put_fits _ _ _ _ (by decide) (by decide)
    · rw [State.get_raisePort_off _ _ _ _ _ _ _ (by decide) (by decide), State.get_put_bits _ _ _ _ _ (by decide), State.gen2_ssDetect]
  case inactive =>
    have hw : s.WritesIn [.field .ssp F.SSP_CNT_DISCARDS] (((s.raisePort (.ssp f) (fullPort f) evSsDown 1).devLost (fullPort f)
        true).ssDiscard f (s.ssp f).down.length) := .put (List.Subset.refl _) rfl (.devLost (.raisePort (.refl s)))
    have hk : s.KeepsBut [.lheSt, .graver, .fifos] (((s.raisePort (.ssp f) (fullPort f) evSsDown 1).devLost (fullPort f)
        true).ssDiscard f (s.ssp f).down.length) := .ssDiscard (.devLost (by decide) (.raisePort (by decide) (.refl s)))
    have hside := (hw.sspWith (i := f) (f := fun x => { x with down := [] })).ssSide rfl f
    refine ⟨State.link_setLink _ f (by decide), by simp, ?_⟩
    rw [State.ssp_setLink, State.ssp_addSsChg, State.ssChgTaken_of_side _ _ (hside.trans hc), State.sspWith_same, hk.ssp (by decide)]

end Sys2Proof.Machine

namespace Sys2Proof.Machine

/-! PROOFS. SuperSpeed resets (O44): hot and warm resets of a port, their ends, and the reset of a presentation's contexts (R299, R307, R311). -/

/-! ### A request that names a port of a plate hub -/

section
variable {s : State} {sc : SsCtx} {n : Nat} {f : Full}

theorem ssPort_bounds (h : ssPort sc n = some f) : n ≠ 0 ∧ n ≤ ssPorts sc := by
  cases sc with
  | root u => cases h
  | plate k c =>
    simp only [ssPort] at h
    by_cases hn : 1 ≤ n ∧ n ≤ 4
    · exact ⟨by omega, hn.2⟩
    · rw [dif_neg hn] at h
      cases h

/-- A request on port `n` of a hub that hears reaches the full port behind it (R297, R299). -/
theorem State.ssRequest_of_port (hh : s.ssHears sc = true) (hp : ssPort sc n = some f) (dev : Full → Bool → State) (root : State) :
    s.ssRequest sc n dev root = dev f (s.ssOwns sc f) := by
  obtain ⟨hpos, hle⟩ := ssPort_bounds hp
  unfold State.ssRequest
  rw [if_neg (by simp [hh]), if_neg (by omega), hp]

end

/-! ### Hot and warm resets -/

section
variable (s : State) (f : Full)

theorem State.ssHot_parts : (s.ssHot f).link f = lkHotReset ∧ ((s.ssHot f).ssp f).reset = .hot ∧ ((s.ssHot f).ssp f).exiting = none ∧
    (s.ssHot f).get (.ssp f) F.SSP_CNT_HOT_RESETS = min (s.get (.ssp f) F.SSP_CNT_HOT_RESETS + 1) (2 ^ F.SSP_CNT_HOT_RESETS.width - 1) ∧
    (s.ssHot f).get (.ssp f) F.SSP_STATUS_FORCE_LPM = 0 := by
  unfold State.ssHot
  refine ⟨State.link_setLink _ f (by decide), by simp [State.count, State.countBy], by simp [State.count, State.countBy], ?_, ?_⟩
  · rw [State.get_setLink _ _ (by decide) (by decide), State.get_put_off _ _ _ _ _ (by decide), State.get_count_same _ _ _ (by decide),
      State.sspWith_get, (s.marginLost_writes f).get _ _ (by rfl)]
  · rw [State.get_setLink _ _ (by decide) (by decide)]
    exact State.get_put_fits _ _ _ _ (by decide) (by decide)

/-- The port's link as a warm reset meets it, with its packets discarded (R307, R313). -/
def State.warmMet : State :=
  let x := s.ssp f
  let s0 := s.ssEndCompliance f
  let s1 := if x.connected && (s.link f ≤ 3 || s.link f == 8 || s.link f == 9) then s0.raisePort (.ssp f) (fullPort f) evSsDown 2 else s0
  (s1.ssDiscard f x.down.length).marginLost f

theorem State.warmMet_writes : s.WritesIn Zone.ssLeave (s.warmMet f) :=
  have hend : s.WritesIn Zone.ssLeave (s.ssEndCompliance f) := .ssEndCompliance (.refl s)
  .marginLost_bits (by decide) (.put (List.Subset.refl _) rfl (.ite (.raisePort hend) hend))

theorem State.ssp_warmMet : (s.warmMet f).ssp f = { s.ssp f with margining := false } := by
  have hend : s.KeepsBut [.fifos] (s.ssEndCompliance f) := .ssEndCompliance (by decide) (.refl s)
  unfold State.warmMet
  extract_lets x s0 s1
  have h1 : s.KeepsBut [.fifos] (s1.ssDiscard f x.down.length) := .ssDiscard (.ite (.raisePort (by decide) hend) hend)
  rw [State.ssp_marginLost, h1.ssp (by decide)]

theorem State.ssWarm_eq (b : Bool) : s.ssWarm f b = (((((s.warmMet f).count (.ssp f) F.SSP_CNT_WARM_RESETS).sspWith f (fun y =>
    { y with down := [], exiting := none, complianceAuto := false, loopMaster := false, reset := .warm b, firstPoll := true })).put (.ssp f)
      F.SSP_STATUS_GEN2 0).put (.ssp f) F.SSP_STATUS_FORCE_LPM 0).setLink f lkRxDetect := (rfl)

theorem State.ssp_ssWarm (b : Bool) : (s.ssWarm f b).ssp f = { s.ssp f with
    margining := false, down := [], exiting := none, complianceAuto := false, loopMaster := false, reset := .warm b, firstPoll := true } := by
  rw [State.ssWarm_eq]
  simp only [State.ssp_setLink, State.ssp_put, State.sspWith_same, State.count, State.countBy, State.ssp_warmMet]

theorem State.link_ssWarm (b : Bool) : (s.ssWarm f b).link f = lkRxDetect := by
  rw [State.ssWarm_eq]
  exact State.link_setLink _ f (by decide)

theorem State.warmResets_ssWarm (b : Bool) : (s.ssWarm f b).get (.ssp f) F.SSP_CNT_WARM_RESETS =
    min (s.get (.ssp f) F.SSP_CNT_WARM_RESETS + 1) (2 ^ F.SSP_CNT_WARM_RESETS.width - 1) := by
  rw [State.ssWarm_eq, State.get_setLink _ _ (by decide) (by decide), State.get_put_off _ _ _ _ _ (by decide),
    State.get_put_off _ _ _ _ _ (by decide), State.sspWith_get, State.get_count_same _ _ _ (by decide), (s.warmMet_writes f).get _ _ (by rfl)]

theorem State.ssWarm_writes (b : Bool) : s.WritesIn (.field .ssp F.SSP_CNT_WARM_RESETS :: Zone.ssLeave) (s.ssWarm f b) := by
  have hW : Zone.ssLeave ⊆ .field .ssp F.SSP_CNT_WARM_RESETS :: Zone.ssLeave := by decide
  rw [State.ssWarm_eq]
  exact .put hW rfl (.put hW rfl (.put hW rfl (.sspWith (.count (List.Subset.refl _) rfl ((s.warmMet_writes f).mono hW)))))

/-- The fallback of R302 cleared leaves the link and its reset count. -/
theorem State.ssClearFallback_get {g : Fld} (hoff : g.off ≠ F.SSP_STATUS_SS_ONLY2.off ∨ (g.off = F.SSP_STATUS_LINK_STATE.off ∧ g.lo + g.width ≤ 4)) :
    (s.ssClearFallback f).get (.ssp f) g = s.get (.ssp f) g := by
  have hbits (h : Fld) (v : Nat) (t : State) (hh : h.off = F.SSP_STATUS_SS_ONLY2.off) (hlo : 4 ≤ h.lo) : (t.put (.ssp f) h v).get (.ssp f) g =
      t.get (.ssp f) g := by
    rcases hoff with hne | ⟨-, hle⟩
    · exact State.get_put_off _ _ _ _ _ (by rw [hh]; exact hne)
    · exact State.get_put_bits _ _ _ _ _ (by omega)
  unfold State.ssClearFallback
  rw [State.sspWith_get, hbits F.SSP_STATUS_GEN2_BARRED _ _ rfl (by decide),
    hbits F.SSP_STATUS_SS_ONLY2 _ _ rfl (by decide)]

end

/-! ### The reset commands -/

section
variable {s : State} {sc : SsCtx} {n : Nat} {f : Full}

theorem State.ssSide_sspWith (g : Full) (h : SspSt → SspSt) : (s.sspWith g h).ssSide f = s.ssSide f :=
  State.ssSide_congr (State.sspWith_flag ..) (State.sspWith_get ..)

theorem exec_ssPortReset (hh : s.ssHears sc = true) (hp : ssPort sc n = some f) : exec (.ssPortReset sc n) s =
    .next ((if !s.ssOwns sc f then s.ssOwe f (ssCtxUp sc) 0
      else if s.link f = lkDisabled then s else if s.link f = lkU0 then s.ssHot f else s.ssWarm f true).reply .ack) :=
  (rfl : _ = execSsPortReset sc n s).trans (congrArg Host.Outcome.next (State.ssRequest_of_port hh hp _ _))

theorem exec_bhPortReset (hh : s.ssHears sc = true) (hp : ssPort sc n = some f) : exec (.bhPortReset sc n) s =
    .next ((if !s.ssOwns sc f then s.ssOwe f (ssCtxUp sc) 1
      else if (s.ssClearFallback f).link f = lkDisabled then (s.ssClearFallback f).ssEval f
      else (s.ssClearFallback f).ssWarm f false).reply .ack) :=
  (rfl : _ = execBhPortReset sc n s).trans (congrArg Host.Outcome.next (State.ssRequest_of_port hh hp _ _))

theorem exec_ssResetEnd_hot_u0 (g : Bool) (hr : (s.ssp f).reset = .hot) : exec (.ssResetEnd f (.u0 g)) s =
    .next (((s.addSsChg f sReset).sspWith f (fun x => { x with reset := .none })).setLink f lkU0) := by
  change execSsResetEnd f (.u0 g) s = _
  unfold execSsResetEnd
  rw [hr]

theorem exec_ssResetEnd_hot_escalate (hr : (s.ssp f).reset = .hot) : exec (.ssResetEnd f .escalate) s = .next (s.ssWarm f true) := by
  change execSsResetEnd f .escalate s = _
  unfold execSsResetEnd
  rw [hr]

/-- The change bits that the end of a warm reset sets (R307). -/
def warmChg (b : Bool) : BitVec 16 := sBhReset ||| (if b then sReset else 0)

theorem exec_ssResetEnd_warm_u0 {b : Bool} (g : Bool) (hr : (s.ssp f).reset = .warm b) : exec (.ssResetEnd f (.u0 g)) s =
    .next (((s.addSsChg f (warmChg b)).sspWith f (fun x => { x with reset := .none })).ssLinkUp f g) := by
  change execSsResetEnd f (.u0 g) s = _
  unfold execSsResetEnd
  rw [hr]
  rfl

theorem exec_ssResetEnd_warm_none {b : Bool} (hr : (s.ssp f).reset = .warm b) : exec (.ssResetEnd f .none) s =
    .next ((((if (s.ssp f).connected then (s.addSsChg f (warmChg b)).addSsChg f sConnection else s.addSsChg f (warmChg b)).sspWith f
      (fun x => { x with connected := false })).sspWith f (fun x => { x with reset := .none })).setLink f lkRxDetect) := by
  change execSsResetEnd f .none s = _
  unfold execSsResetEnd
  rw [hr]
  rfl

theorem State.get_reply (x : Answer) (pg : PageId) (g : Fld) : (s.reply x).get pg g = s.get pg g := (rfl)

theorem State.link_reply (x : Answer) : (s.reply x).link f = s.link f := State.get_reply ..

end

/-! ### The reset of a presentation's contexts (R307) -/

theorem SsIx_injective : Function.Injective SsIx := by
  intro a b h
  cases a <;> cases b <;> simp only [SsIx, Fin.mk.injEq] at h
  case plate.plate k c l d =>
    have hk : k = l := Fin.ext (by omega)
    have hc : c = d := Fin.ext (by omega)
    rw [hk, hc]
  case plate.root => omega
  case root.plate => omega
  case root.root u v =>
    have hu : u = v := Fin.ext (by omega)
    rw [hu]

theorem State.ssHubWith_ne (s : State) {sc sd : SsCtx} (h : sd ≠ sc) (g : SsCtxSt → SsCtxSt) : (s.ssHubWith sc g).ssHub sd = s.ssHub sd := by
  have hix : (SsIx sc).val ≠ (SsIx sd).val := fun he => h (SsIx_injective (Fin.ext he)).symm
  simp [State.ssHubWith, State.ssHub, Vector.getElem_set_ne _ _ hix]

/-- A context in the default state, its count of discarded headers apart (R307). -/
def SsCtxSt.isReset (h : SsCtxSt) : Prop := ∃ d, h = { freshSsCtx with drops := d }

section
variable (s : State) (k : Plate) (c : Fin 2)

/-- The reset of a port changes its own context's power bits and no other context. -/
theorem State.ssResetPort_ssHub (j : Fin 4) {sc : SsCtx} (h : sc ≠ .plate k c) : (s.ssResetPort k c j).ssHub sc = s.ssHub sc := by
  unfold State.ssResetPort
  extract_lets f p sc' on hold s1 up s3 s2
  have h1 : s1.ssHub sc = s.ssHub sc :=
    ((State.KeepsBut.u2pWith (M := [.u2pSt]) (by decide) (.refl _)).ssHub (by decide) sc).trans (s.ssHubWith_ne h _)
  have h2 : s1.KeepsBut (Part.allBut [.ssCtx]) s2 := by
    unfold s2
    split
    · have hup : s1.KeepsBut (Part.allBut [.ssCtx]) s3 := .sspWith (by decide) (.ssDiscard (.refl s1))
      exact .hostPower (by decide) (.ite hup (.ssLeave (by decide) hup))
    · exact .refl s1
  exact ((State.KeepsBut.sspWith (by decide) h2).ssHub (by decide) sc).trans h1

theorem State.ssCtxResetOne_ssHub : ((s.ssCtxResetOne k c).ssHub (.plate k c)).isReset := by
  unfold State.ssCtxResetOne
  exact ⟨_, State.ssHubWith_same ..⟩

theorem State.ssCtxResetOne_ssHub_ne {sc : SsCtx} (h : sc ≠ .plate k c) : (s.ssCtxResetOne k c).ssHub sc = s.ssHub sc := by
  unfold State.ssCtxResetOne
  extract_lets l n s1 s2
  have h2 (js : List (Fin 4)) (t : State) : (js.foldl (fun s j => s.ssResetPort k c j) t).ssHub sc = t.ssHub sc := by
    induction js generalizing t with
    | nil => rfl
    | cons j js ih => rw [List.foldl_cons, ih, State.ssResetPort_ssHub _ _ _ _ h]
  have h1 : s1.ssHub sc = s.ssHub sc :=
    (State.KeepsBut.routeDrop (M := [.upLink]) (.upLkWith (by decide) (.refl s))).ssHub (by decide) sc
  rw [State.ssHubWith_ne _ h]
  exact (h2 _ s1).trans h1

/-- A context reset stays so as the other contexts are reset. -/
theorem State.ssCtxResets_isReset (l : List Plate) (h : k ∈ l ∨ (s.ssHub (.plate k c)).isReset) :
    ((l.foldl (fun s k => s.ssCtxResetOne k c) s).ssHub (.plate k c)).isReset := by
  induction l generalizing s with
  | nil => exact h.resolve_left List.not_mem_nil
  | cons j l ih =>
    refine ih _ ?_
    by_cases hj : k = j
    · exact .inr (hj ▸ s.ssCtxResetOne_ssHub k c)
    · rw [State.ssCtxResetOne_ssHub_ne _ _ _ (by simpa using hj)]
      exact h.imp_left fun hmem => (List.mem_cons.1 hmem).resolve_left hj

theorem State.ssPresReset_isReset (kind : Nat) :
    ((s.ssPresReset c kind).ssHub (.root c)).isReset ∧ ((s.ssPresReset c kind).ssHub (.plate k c)).isReset := by
  unfold State.ssPresReset
  extract_lets s1 x s2
  have hall : k ∈ allPlates := List.mem_finRange k
  have h1 : (s1.ssHub (.plate k c)).isReset := s.ssCtxResets_isReset k c allPlates (.inl hall)
  have hafter : s2.KeepsBut [.freeCount, .mgfSt, .fifos, .upLink] ((s2.upLkWith c (fun l => { l with wakeExit := false })).fnReset c true kind) :=
    .fnReset (by decide) (.upLkWith (by decide) (.refl s2))
  rw [hafter.ssHub (by decide), hafter.ssHub (by decide)]
  refine ⟨⟨_, State.ssHubWith_same ..⟩, ?_⟩
  rw [State.ssHubWith_ne _ (by simp)]
  exact h1

theorem exec_ssContextReset {s : State} {u : Up} (w : Bool) (hcompat : s.compat = false) (hup : s.coreUp = true)
    (hatt : s.presAttached u = true) (hst : s.upState u ≠ lkDisabled) : exec (.ssContextReset u w) s =
      .next ((s.ssPresReset u (if w then 3 else 2)).setUpState u (if w then lkRxDetect else lkU0)) :=
  show execSsContextReset u w s = _ from if_neg (by simp [hcompat, hup, hatt, hst])

end

/-- Settles O44: each reset takes the link and the port's record as its clause says; the contexts of a presentation are reset one by one, and
none is touched again. -/
theorem superSpeedPortsReset : Obligations.SuperSpeedPortsReset := by
  unfold Obligations.SuperSpeedPortsReset
  refine ⟨fun sc n f s hh hp ho hl => ⟨_, exec_ssPortReset hh hp, ?hot⟩, fun sc n f s hh hp ho hl hd => ⟨_, exec_ssPortReset hh hp, ?warm⟩,
    fun sc n f s hh hp ho hl => ⟨_, exec_ssPortReset hh hp, by rw [if_neg (by simp [ho]), if_pos hl]⟩, fun sc n f s hh hp ho hl => ⟨_, exec_bhPortReset hh hp, ?bh⟩,
    fun sc n f s hh hp ho => ⟨_, exec_ssPortReset hh hp, by rw [if_pos (by simp [ho])]⟩, fun sc n f s hh hp ho => ⟨_, exec_bhPortReset hh hp, by rw [if_pos (by simp [ho])]⟩,
    fun f c g s hr hc => ⟨_, exec_ssResetEnd_hot_u0 g hr, ?hotEnds⟩,
    fun f s hr => ⟨_, exec_ssResetEnd_hot_escalate hr, s.link_ssWarm f true, by rw [s.ssp_ssWarm f true], s.warmResets_ssWarm f true⟩,
    fun f b c g s hr hc => ⟨_, exec_ssResetEnd_warm_u0 g hr, ?warmEnds⟩, fun f b c s hr hc => ⟨_, exec_ssResetEnd_warm_none hr, ?warmFails⟩,
    fun u w k s hcompat hup hatt hst => ⟨_, exec_ssContextReset w hcompat hup hatt hst, ?context⟩⟩
  case hot =>
    obtain ⟨hlink, hreset, hexit, hcount, hforce⟩ := s.ssHot_parts f
    have hne : s.link f ≠ lkDisabled := State.link_eq hl (by decide)
    rw [if_neg (by simp [ho]), if_neg hne, if_pos hl]
    simp only [State.link_reply, State.ssp_reply, State.get_reply]
    exact ⟨hlink, hreset, hexit, rfl, hcount, hforce⟩
  case warm =>
    rw [if_neg (by simp [ho]), if_neg hd, if_neg hl]
    simp only [State.link_reply, State.ssp_reply, State.get_reply, State.ssp_ssWarm]
    exact ⟨s.link_ssWarm f true, trivial, trivial, trivial, rfl, s.warmResets_ssWarm f true⟩
  case bh =>
    have hlink : (s.ssClearFallback f).link f = s.link f := State.ssClearFallback_get _ _ (.inr ⟨rfl, by decide⟩)
    have hw := (s.ssClearFallback f).ssWarm_writes f false
    rw [if_neg (by simp [ho]), if_neg (hlink ▸ hl)]
    simp only [State.link_reply, State.ssp_reply, State.get_reply, State.ssp_ssWarm]
    refine ⟨State.link_ssWarm _ f false, trivial, ?_, ?_, rfl, ?_⟩
    · rw [hw.get _ _ (by rfl), State.ssClearFallback, State.sspWith_get, State.get_put_bits _ _ _ _ _ (by decide)]
      exact State.get_put_fits _ _ _ _ (by decide) (by decide)
    · rw [hw.get _ _ (by rfl), State.ssClearFallback, State.sspWith_get]
      exact State.get_put_fits _ _ _ _ (by decide) (by decide)
    · rw [State.warmResets_ssWarm, State.ssClearFallback_get _ _ (.inl (by decide))]
  case hotEnds =>
    refine ⟨State.link_setLink _ f (by decide), by simp, ?_⟩
    simp only [State.ssp_setLink, State.sspWith_same, State.ssp_addSsChg, State.ssChgTaken_of_side _ _ hc]
  case warmEnds =>
    obtain ⟨hlink, hcon, -, hreset, hchg, -⟩ := ((s.addSsChg f (warmChg b)).sspWith f (fun x => { x with reset := .none })).ssLinkUp_parts f g
    have hside : ((s.addSsChg f (warmChg b)).sspWith f (fun x => { x with reset := .none })).ssSide f = some c :=
      State.ssSide_sspWith .. |>.trans ((s.ssSide_addSsChg f (warmChg b) f).trans hc)
    have hbits : sBhReset &&& warmChg b = sBhReset := holds_or (BitVec.and_self ..) _
    refine ⟨hlink, by rw [hreset, State.sspWith_same], hcon, ?_⟩
    rw [hchg]
    split
    · simp only [State.sspWith_same, State.ssp_addSsChg, State.ssChgTaken_of_side _ _ hc]
      exact holds_or_left hbits _
    · rw [State.ssChgTaken_of_side _ _ hside]
      simp only [State.sspWith_same, State.ssp_addSsChg, State.ssChgTaken_of_side _ _ hc]
      exact holds_or (holds_or_left hbits _) _
  case warmFails =>
    have hbits : sBhReset &&& warmChg b = sBhReset := holds_or (BitVec.and_self ..) _
    have hside : (s.addSsChg f (warmChg b)).ssSide f = some c := (s.ssSide_addSsChg f (warmChg b) f).trans hc
    have hkept : sBhReset &&& ((s.addSsChg f (warmChg b)).ssp f).chg[c] = sBhReset := by
      rw [State.ssp_addSsChg, State.ssChgTaken_of_side _ _ hc]
      exact holds_or_left hbits _
    refine ⟨State.link_setLink _ f (by decide), by simp, by simp, ?_⟩
    rw [State.ssp_setLink, State.sspWith_same, State.sspWith_same]
    by_cases hcon : (s.ssp f).connected = true
    · rw [if_pos hcon, State.ssp_addSsChg _ _ sConnection, State.ssChgTaken_of_side _ _ hside]
      exact holds_or hkept _
    · rw [if_neg hcon]
      exact hkept
  case context =>
    obtain ⟨⟨d, hroot⟩, e, hplate⟩ := s.ssPresReset_isReset k u (if w then 3 else 2)
    refine ⟨State.upState_setUpState _ u (by cases w <;> decide), ?_⟩
    simp only [State.setUpState, State.ssHub_put, hroot, hplate]
    exact ⟨rfl, rfl, rfl, rfl, rfl⟩

end Sys2Proof.Machine

namespace Sys2Proof.Machine

/-! PROOFS. SuperSpeed hub-class requests on a port (O45: R298, R302, R306, R308, R315). -/

/-! ### Ports without the host's leave -/

@[simp] theorem fullOf_fullPort (f : Full) : fullOf (fullPort f) = some f := by
  unfold fullOf fullPort
  rw [dif_pos (by dsimp only; omega)]
  exact congrArg some (Fin.ext (by dsimp only; omega))

section
variable {s t : State} {f : Full}

/-- A port whose owner gives it no SuperSpeed power (R301, R306). -/
def State.ssUnpowered (s : State) (f : Full) : Prop := ∃ c, s.ssSide f = some c ∧ s.ssPowerBit f c = false

theorem State.ssUnpowered.of_keeps (h : s.ssUnpowered f) (hside : t.ssSide f = s.ssSide f) (hhub : ∀ sc, t.ssHub sc = s.ssHub sc) :
    t.ssUnpowered f := by
  obtain ⟨c, hc, hoff⟩ := h
  exact ⟨c, hside.trans hc, by unfold State.ssPowerBit; rw [hhub]; exact hoff⟩

theorem State.ssUnpowered.ssAllowed (h : s.ssUnpowered f) : s.ssAllowed f = false := by
  obtain ⟨c, hc, hoff⟩ := h
  simp [State.ssAllowed, hc, hoff]

theorem State.ssAllowed_of_hostDisabled (h : (s.ssp f).hostDisabled = true) : s.ssAllowed f = false := by
  simp [State.ssAllowed, h]

theorem State.ssEval_disabled (h : s.ssAllowed f = false) (hl : s.link f = lkDisabled) : s.ssEval f = s :=
  (if_neg (by simp [h])).trans (if_pos hl)

theorem State.ssEval_leave (h : s.ssAllowed f = false) (hl : s.link f ≠ lkDisabled) : s.ssEval f = s.ssLeave f lkDisabled 0 :=
  (if_neg (by simp [h])).trans (if_neg hl)

theorem State.link_ssEval_of_not_allowed (h : s.ssAllowed f = false) : (s.ssEval f).link f = lkDisabled := by
  by_cases hl : s.link f = lkDisabled
  · rw [State.ssEval_disabled h hl, hl]
  · rw [State.ssEval_leave h hl]
    exact s.link_ssLeave f (by decide) 0

theorem State.hostDisabled_ssEval_of_not_allowed (h : s.ssAllowed f = false) :
    ((s.ssEval f).ssp f).hostDisabled = (s.ssp f).hostDisabled := by
  by_cases hl : s.link f = lkDisabled
  · rw [State.ssEval_disabled h hl]
  · rw [State.ssEval_leave h hl, State.ssp_ssLeave]
    rfl

/-- Who serves a port stays where neither the mode nor an owner is written. -/
theorem State.WritesIn.ssSide_of_compat {W : List Zone} (h : s.WritesIn W t) (hc : Zone.spared W .glb F.GLB_MODE_COMPAT = true)
    (hW : W.all (fun z => z.kind != .prs) = true) (f : Full) : t.ssSide f = s.ssSide f := by
  obtain ⟨hlt, hne⟩ := curOwner_off_lt (fullPort f)
  refine State.ssSide_congr ?_ (h.get _ _ (Zone.spared_of_kind hW hlt hne))
  unfold State.compat State.flag
  rw [h.get .glb _ hc]

/-- What the opening of a switch writes before the USB sides follow. -/
def Zone.beforeUsb : List Zone := .field .vbs F.VBS_TARGET_TARGET_MV :: Zone.gate ++ Zone.u2Eval ++ Zone.rp ++ Zone.pdEnd

/-- An opening switch leaves a link disabled that its owner does not power. -/
theorem State.link_vbsOpen_unpowered (h : s.ssUnpowered f) (hl : s.link f = lkDisabled) (cause : Nat) :
    (s.vbsOpen (fullPort f) cause).link f = lkDisabled := by
  have hlink {u : State} (hu : s.WritesIn Zone.beforeUsb u) : u.link f = lkDisabled := (hu.get (.ssp f) _ (by rfl)).trans hl
  unfold State.vbsOpen State.vbsOpenTo
  extract_lets st s0 s1 s2 safe s3 s4 s5
  let M : List Part := Part.allBut [.ssCtx]
  have h0 : s.WritesIn Zone.beforeUsb s0 := .withdraw (by decide) (.refl s)
  have k0 : s.KeepsBut M s0 := .withdraw (by decide) (.refl s)
  split
  · have hput {u : State} {g v} (hg : Zone.beforeUsb.any (·.covers .vbs g) = true) (hu : s.WritesIn Zone.beforeUsb u) :
        s.WritesIn Zone.beforeUsb (u.put (.vbs (fullPort f)) g v) := .put (List.Subset.refl _) hg hu
    have h2 : s.WritesIn Zone.beforeUsb s2 := hput rfl (hput rfl (hput rfl (.ite (.raisePort h0) h0)))
    have h5 : s.WritesIn Zone.beforeUsb s5 :=
      .returnGrant (by decide) (.pdStop (by decide) (.opDone (.vbsWith (.vsetLoad (hput rfl h2)))))
    have hU : s.WritesIn Zone.beforeUsb ((s5.rpApply (fullPort f)).u2Eval (fullPort f)) :=
      .u2Eval_bits (by decide) (.rpApply (by decide) h5)
    have k2 : s.KeepsBut M s2 := .put (.put (.put (.ite (.raisePort (by decide) k0) k0)))
    have k5 : s.KeepsBut M s5 := .returnGrant (.pdStop (by decide) (.opDone (by decide) (.vbsWith (by decide) (.vsetLoad (by decide) (.put k2)))))
    have kU : s.KeepsBut M ((s5.rpApply (fullPort f)).u2Eval (fullPort f)) := .u2Eval (by decide) (.rpApply (by decide) k5)
    have hoff := (h.of_keeps (hU.ssSide_of_compat (by rfl) rfl f) (kU.ssHub (by decide))).ssAllowed
    have heval : (s5.rpApply (fullPort f)).usbEval (fullPort f) = ((s5.rpApply (fullPort f)).u2Eval (fullPort f)).ssEval f := by
      unfold State.usbEval State.ssEvalPort
      rw [fullOf_fullPort]
    rw [heval, State.ssEval_disabled hoff (hlink hU)]
    exact hlink hU
  · exact hlink (.ite (.rpApply (by decide) (.returnGrant (by decide) (.pdStop (by decide) (.vbsWith h0)))) h0)

theorem State.link_hostPower_unpowered (h : s.ssUnpowered f) (hl : s.link f = lkDisabled) : (s.hostPower (fullPort f)).link f = lkDisabled := by
  unfold State.hostPower
  split
  · exact ((State.WritesIn.askTurnOn (W := Zone.ask) (List.Subset.refl _) (.refl s)).get (.ssp f) _ (by rfl)).trans hl
  · exact State.link_vbsOpen_unpowered h hl 1

/-! ### Power bits of a context -/

/-- A context with its power bit of a port set or cleared. -/
def SsCtxSt.powered (f : Full) (b : Bool) (h : SsCtxSt) : SsCtxSt :=
  { h with power := if b then h.power ||| 1#4 <<< (f.val % 4) else h.power &&& ~~~(1#4 <<< (f.val % 4)) }

theorem State.ssPowerBit_setSsPower (s : State) (f : Full) (c : Fin 2) (b : Bool) : (s.setSsPower (fullPlate f) c f b).ssPowerBit f c = b := by
  have hlt : f.val % 4 < 4 := Nat.mod_lt _ (by decide)
  have hhub : ((s.setSsPower (fullPlate f) c f b).ssHub (.plate (fullPlate f) c)).power =
      if b then (s.ssHub (.plate (fullPlate f) c)).power ||| 1#4 <<< (f.val % 4)
      else (s.ssHub (.plate (fullPlate f) c)).power &&& ~~~(1#4 <<< (f.val % 4)) :=
    congrArg SsCtxSt.power (State.ssHubWith_same s (.plate (fullPlate f) c) (SsCtxSt.powered f b))
  unfold State.ssPowerBit
  rw [hhub]
  cases b <;> simp [hlt]

theorem State.ssPowerBit_congr {c : Fin 2} (h : ∀ sc, t.ssHub sc = s.ssHub sc) : t.ssPowerBit f c = s.ssPowerBit f c := by
  unfold State.ssPowerBit
  rw [h]

theorem State.ssSide_setSsPower (s : State) (k : Plate) (c : Fin 2) (f g : Full) (b : Bool) : (s.setSsPower k c f b).ssSide g = s.ssSide g :=
  State.ssSide_congr rfl rfl

/-- Power set: the port follows, and the bit stays (R306). -/
theorem State.ssPowerBit_powered (h : s.ssPowerBit f c = b) : ((s.hostPower (fullPort f)).ssEval f).ssPowerBit f c = b := by
  have hkeep : s.KeepsBut (Part.allBut [.ssCtx]) ((s.hostPower (fullPort f)).ssEval f) := .ssEval (by decide) (.hostPower (by decide) (.refl s))
  exact (State.ssPowerBit_congr (hkeep.ssHub (by decide))).trans h

/-- Power cleared: the link is disabled and stays so as the switch follows (R301, R306). -/
theorem State.ssUnpowered_parts {c : Fin 2} (hside : s.ssSide f = some c) (h : s.ssPowerBit f c = false) :
    ((s.ssEval f).hostPower (fullPort f)).ssPowerBit f c = false ∧ ((s.ssEval f).hostPower (fullPort f)).link f = lkDisabled := by
  have hoff : s.ssUnpowered f := ⟨c, hside, h⟩
  have hkeep : s.KeepsBut (Part.allBut [.ssCtx]) (s.ssEval f) := .ssEval (by decide) (.refl s)
  have hpow : (s.ssEval f).KeepsBut (Part.allBut [.ssCtx]) ((s.ssEval f).hostPower (fullPort f)) := .hostPower (by decide) (.refl _)
  have hwrites : s.WritesIn Zone.ssLeave (s.ssEval f) := .ssEval_bits (List.Subset.refl _) (.refl s)
  refine ⟨?_, ?_⟩
  · rw [State.ssPowerBit_congr (hpow.ssHub (by decide)), State.ssPowerBit_congr (hkeep.ssHub (by decide)), h]
  · exact State.link_hostPower_unpowered (hoff.of_keeps (hwrites.ssSide rfl f) (hkeep.ssHub (by decide)))
      (State.link_ssEval_of_not_allowed hoff.ssAllowed)

end

/-! ### The requests -/

section
variable {s : State} {sc : SsCtx} {n : Nat} {f : Full}

theorem State.ssOwned_of_port (hh : s.ssHears sc = true) (hp : ssPort sc n = some f) (act : Full → State) :
    s.ssOwned sc n act = (if s.ssOwns sc f then act f else s).reply .ack :=
  State.ssRequest_of_port hh hp _ _

/-- A request on the owner's port acts and is acknowledged (R315). -/
theorem State.ssOwned_own (hh : s.ssHears sc = true) (hp : ssPort sc n = some f) (ho : s.ssOwns sc f = true) (act : Full → State) :
    s.ssOwned sc n act = (act f).reply .ack := by
  rw [State.ssOwned_of_port hh hp, if_pos ho]

theorem State.ssOwned_other (hh : s.ssHears sc = true) (hp : ssPort sc n = some f) (ho : s.ssOwns sc f = false) (act : Full → State) :
    s.ssOwned sc n act = s.reply .ack := by
  rw [State.ssOwned_of_port hh hp, if_neg (by simp [ho])]

theorem State.ssSide_of_owns (ho : s.ssOwns sc f = true) : s.ssSide f = some (ssCtxUp sc) := eq_of_beq ho

/-- A port number outside the hub is a request error (R315). -/
theorem State.ssRequest_outside (hh : s.ssHears sc = true) (hn : n = 0 ∨ ssPorts sc < n) (dev : Full → Bool → State) (root : State) :
    s.ssRequest sc n dev root = s.reply .stall := by
  unfold State.ssRequest
  rw [if_neg (by simp [hh]), if_pos hn]

/-- U3 left by the host (R310): an exit that the device has begun is the host's as well. -/
theorem exec_setLinkStateU0 (hh : s.ssHears sc = true) (hp : ssPort sc n = some f) (ho : s.ssOwns sc f = true) (hl : s.link f = lkU3) :
    ∃ t : State, exec (.setLinkStateU0 sc n) s = .next (t.reply .ack) ∧ t.link f = lkU3 ∧ (t.ssp f).exiting = some true := by
  refine ⟨_, (rfl : _ = execSetLinkStateU0 sc n s).trans (congrArg Host.Outcome.next (State.ssOwned_own hh hp ho _)), ?_⟩
  rw [if_neg (by simp [hl])]
  have hset : ((s.sspWith f (fun x => { x with exiting := some true })).link f = lkU3 ∧
      ((s.sspWith f (fun x => { x with exiting := some true })).ssp f).exiting = some true) :=
    ⟨(State.sspWith_get ..).trans hl, by rw [State.sspWith_same]⟩
  split
  · exact hset
  next hx => exact ⟨hl, hx⟩
  · unfold State.ssMerged
    split
    · exact hset
    · exact ⟨(State.get_raisePres_off _ _ _ _ _ _ _ _ (by decide) (by decide)).trans hset.1, by simp [State.raisePres]⟩

/-- A port that its host lets try again (R302, R315). -/
def State.ssRetried (s : State) (f : Full) : State :=
  let s1 := (s.ssClearFallback f).sspWith f (fun x => { x with hostDisabled := false })
  if s1.ssAllowed f then s1.ssDetect f 0 else s1

theorem State.ssRetried_parts (s : State) (f : Full) : ((s.ssRetried f).ssp f).hostDisabled = false ∧ ((s.ssRetried f).ssp f).pollFails = 0 ∧
    (s.ssRetried f).get (.ssp f) F.SSP_STATUS_SS_ONLY2 = 0 := by
  unfold State.ssRetried
  extract_lets s1
  have hport : s1.ssp f = { s.ssp f with pollFails := 0, hostDisabled := false } := by
    unfold s1 State.ssClearFallback
    simp
  have hget : s1.get (.ssp f) F.SSP_STATUS_SS_ONLY2 = 0 := by
    unfold s1 State.ssClearFallback
    refine (State.sspWith_get ..).trans ((State.sspWith_get ..).trans ((State.get_put_bits _ _ _ _ _ (by decide)).trans ?_))
    exact State.get_put_fits _ _ _ _ (by decide) (by decide)
  have hdetect : s1.WritesIn Zone.ssLeave (s1.ssDetect f 0) := .ssDetect_bits (List.Subset.refl _) (.refl s1)
  split
  · rw [State.ssp_ssDetect]
    exact ⟨congrArg SspSt.hostDisabled hport, congrArg SspSt.pollFails hport, (hdetect.get _ _ (by rfl)).trans hget⟩
  · exact ⟨congrArg SspSt.hostDisabled hport, congrArg SspSt.pollFails hport, hget⟩

theorem exec_ssClearChangeBit {sel : Nat} {b : BitVec 16} (hh : s.ssHears sc = true) (hp : ssPort sc n = some f) (hb : ssChangeOf sel = some b) :
    exec (.ssClearChangeBit sc n sel) s = .next ((s.sspWith f (fun x =>
      { x with chg := x.chg.set (ssCtxUp sc) (x.chg[ssCtxUp sc] &&& ~~~b) })).reply .ack) := by
  have hsel : sel ≠ 30 := by
    rintro rfl
    cases hb
  change execSsClearChangeBit sc n sel s = _
  unfold execSsClearChangeBit
  rw [if_neg hsel, hb]
  exact congrArg Host.Outcome.next (State.ssRequest_of_port hh hp _ _)

end

/-- Settles O45: a request on the owner's port is its act, and the power requests leave the context's bit as they set it. -/
theorem superSpeedRequestsAreAnswered : Obligations.SuperSpeedRequestsAreAnswered := by
  unfold Obligations.SuperSpeedRequestsAreAnswered
  refine ⟨?_, ?_, ?_, ?_, ?_, ?_, ?_, ?_, ?_, ?_, ?_, ?_, ?_, ?_, ?_, ?_, ?_, ?_, ?_, ?_, ?_, ?_, ?_, ?_⟩
  case refine_1 =>
    intro sc n f s hh hp ho hl
    refine ⟨_, congrArg Host.Outcome.next (State.ssOwned_own hh hp ho _), ?_, rfl⟩
    rw [if_pos hl, State.link_reply]
    exact State.link_setLink _ f (by decide)
  case refine_2 =>
    intro sc n f s hh hp ho hl
    refine ⟨_, congrArg Host.Outcome.next (State.ssOwned_own hh hp ho _), ?_⟩
    rw [if_neg hl]
  case refine_3 =>
    intro sc n f s hh hp ho hl
    obtain ⟨t, ht, hlink, hexit⟩ := exec_setLinkStateU0 hh hp ho hl
    exact ⟨_, ht, (State.link_reply _).trans hlink, by rw [State.ssp_reply, hexit], rfl⟩
  case refine_4 =>
    intro sc n f s hh hp ho
    have hd : ((s.sspWith f (fun x => { x with hostDisabled := true })).ssp f).hostDisabled = true := by rw [State.sspWith_same]
    have hoff := State.ssAllowed_of_hostDisabled hd
    refine ⟨_, congrArg Host.Outcome.next (State.ssOwned_own hh hp ho _), ?_, ?_, rfl⟩
    · exact (State.link_reply _).trans (State.link_ssEval_of_not_allowed hoff)
    · rw [State.ssp_reply, State.hostDisabled_ssEval_of_not_allowed hoff, hd]
  case refine_5 => 
    intro sc n f s hh hp ho
    obtain ⟨hdis, hfail, honly⟩ := State.ssRetried_parts s f
    exact ⟨_, congrArg Host.Outcome.next (State.ssOwned_own hh hp ho _), (congrArg SspSt.hostDisabled (State.ssp_reply ..)).trans hdis,
      (congrArg SspSt.pollFails (State.ssp_reply ..)).trans hfail, (State.get_reply ..).trans honly, rfl⟩
  case refine_6 => 
    intro sc n f s hh hp ho
    refine ⟨_, congrArg Host.Outcome.next (State.ssRequest_of_port hh hp _ _), ?_, rfl⟩
    dsimp only
    rw [if_pos ho]
    exact (State.ssPowerBit_congr fun _ => State.ssHub_reply ..).trans (State.ssPowerBit_powered (s.ssPowerBit_setSsPower f _ true))
  case refine_7 => 
    intro sc n f s hh hp ho
    obtain ⟨hbit, hlink⟩ := State.ssUnpowered_parts ((s.ssSide_setSsPower (fullPlate f) (ssCtxUp sc) f f false).trans (State.ssSide_of_owns ho))
      (s.ssPowerBit_setSsPower f (ssCtxUp sc) false)
    refine ⟨_, congrArg Host.Outcome.next (State.ssRequest_of_port hh hp _ _), ?_, ?_, rfl⟩
    · dsimp only
      rw [if_pos ho]
      exact (State.ssPowerBit_congr fun _ => State.ssHub_reply ..).trans hbit
    · dsimp only
      rw [if_pos ho]
      exact (State.link_reply _).trans hlink
  case refine_8 => exact fun sc n f v s hh hp ho => ⟨_, congrArg Host.Outcome.next (State.ssOwned_own hh hp ho _), rfl⟩
  case refine_9 => 
    intro sc n f v s hh hp ho
    refine ⟨_, congrArg Host.Outcome.next (State.ssOwned_own hh hp ho _), ?_, ?_, rfl⟩
    · exact (State.get_reply ..).trans ((State.sspWith_get ..).trans (State.get_put_fits _ _ _ _ (by decide) v.isLt))
    · rw [State.ssp_reply, State.sspWith_same, State.ssp_put]
  case refine_10 => exact fun sc n f v s hh hp ho => ⟨_, congrArg Host.Outcome.next (State.ssOwned_own hh hp ho _), rfl⟩
  case refine_11 => exact fun sc n f s hh hp ho => ⟨_, congrArg Host.Outcome.next (State.ssOwned_own hh hp ho _), rfl⟩
  case refine_17 =>
    intro sc d s hh hd hn
    refine ⟨_, (if_neg (by simp [hh]) : execSetHubDepth sc d s = _).trans ((if_neg (by simp [hn])).trans (dif_pos (by omega : d < 5))), ?_, rfl⟩
    rw [State.ssHub_reply, State.ssHubWith_same]
    rfl
  case refine_18 =>
    intro sc d s hh hd
    refine ⟨s.reply .stall, (if_neg (by simp [hh]) : execSetHubDepth sc d s = _).trans ?_, rfl⟩
    split
    · rfl
    · exact dif_neg (by omega)
  case refine_19 =>
    exact fun sc d s hh hn => ⟨_, (if_neg (by simp [hh]) : execSetHubDepth sc d s = _).trans (if_pos hn), rfl⟩
  case refine_20 =>
    intro sc n f s hh hp ho
    refine ⟨_, congrArg Host.Outcome.next (State.ssRequest_of_port hh hp _ _), ?_⟩
    rw [if_pos ho]
  case refine_21 =>
    intro sc n f s hh hp ho
    refine ⟨_, congrArg Host.Outcome.next (State.ssRequest_of_port hh hp _ _), ?_⟩
    rw [if_pos ho]
    dsimp only
    rw [if_neg Bool.false_ne_true, List.append_nil]
  case refine_22 =>
    intro sc n f s hh hp ho
    refine ⟨_, congrArg Host.Outcome.next (State.ssRequest_of_port hh hp _ _), ?_⟩
    rw [if_pos ho]
    dsimp only
    rw [if_pos rfl]
  case refine_23 =>
    intro sc n f sel b s hh hp ho hb
    refine ⟨_, exec_ssClearChangeBit hh hp hb, ?_, rfl⟩
    rw [State.ssp_reply, State.sspWith_same]
    simp
  case refine_24 => exact fun sc n s hh hn => ⟨_, congrArg Host.Outcome.next (State.ssRequest_outside hh hn _ _), rfl⟩
  all_goals exact fun sc n f s hh hp ho => ⟨_, congrArg Host.Outcome.next (State.ssOwned_other hh hp ho _), rfl⟩

end Sys2Proof.Machine

namespace Sys2Proof.Machine

/-! PROOFS. Low-power states, compliance, loopback and margining of SuperSpeed links (O46: R308–R311, R317–R319). -/

/-! ### Suspend and resume of a presentation's contexts (R310) -/

/-- What the function's status follows with lies in its own page (R369). -/
theorem State.mgfSync_keepsPages (s : State) {pgs : List PageId} (h : .mgf ∉ pgs) (u : Up) : s.KeepsPages pgs (s.mgfSync u) := by
  have hput {t : State} {lo w v} (ht : s.KeepsPages pgs t) : s.KeepsPages pgs (t.put .mgf ⟨0x44 + 4 * u.val, lo, w⟩ v) :=
    ht.put _ _ h (show 0x44 + 4 * u.val < 0x1000 by omega)
  exact hput (hput (hput (hput (hput (hput (.refl s))))))

section
variable (s : State) (u : Up) (b : Bool)

theorem State.ssSuspendAll_upState (v : Up) : (s.ssSuspendAll u b).upState v = s.upState v := by
  unfold State.ssSuspendAll State.fnSuspend
  extract_lets s1
  have hfold (l : List Plate) (t : State) (pg : PageId) (g : Fld) :
      (l.foldl (fun s k => s.ssHubWith (.plate k u) (fun h => { h with suspended := b })) t).get pg g = t.get pg g := by
    induction l generalizing t with
    | nil => rfl
    | cons k l ih => exact (ih _).trans (State.ssHubWith_get ..)
  refine ((State.mgfSync_keepsPages _ (pgs := [.ups v]) (by simp) u).get _ (by simp) _ (by decide)).trans ?_
  exact (State.mgfWith_get ..).trans ((State.ssHubWith_get ..).trans (hfold _ _ _ _))

theorem State.ssSuspendAll_upLk (v : Up) : (s.ssSuspendAll u b).upLk v = s.upLk v :=
  (State.KeepsBut.ssSuspendAll (M := [.ssCtx, .mgfSt]) (by decide) (.refl s)).upLk (by decide) v

theorem State.ssSuspendAll_root : ((s.ssSuspendAll u b).ssHub (.root u)).suspended = b := by
  unfold State.ssSuspendAll
  extract_lets s1
  rw [(State.KeepsBut.fnSuspend (M := [.mgfSt]) (by decide) (.refl _)).ssHub (by decide), State.ssHubWith_same]

end

/-! ### Exits from U3 (R310, R311) -/

section
variable {s : State} {f : Full}

/-- What a port's exit from U3 writes. -/
def Zone.ssExit : List Zone := [.field .ssp F.SSP_STATUS_LINK_STATE]

theorem State.ssMerged_writes {W : List Zone} : s.WritesIn W (s.ssMerged f) := by
  unfold State.ssMerged
  split
  · exact .refl s
  · exact .raiseWith (.refl s)

theorem State.ssExit_writes : s.WritesIn Zone.ssExit (s.ssExit f) :=
  .put (List.Subset.refl _) rfl (.addSsChg (.sspWith (.ite State.ssMerged_writes (.refl s))))

theorem State.ssMerged_ssp : (s.ssMerged f).ssp f = s.ssp f :=
  (State.KeepsBut.ssMerged (M := [.fifos]) (by decide) (.refl s)).ssp (by decide) f

/-- A device's wake takes the port to U0, with the link-state change in its owner's view (R311). -/
theorem State.ssExit_parts {u : Up} (h : s.ssSide f = some u) : (s.ssExit f).link f = lkU0 ∧ ((s.ssExit f).ssp f).exiting = none ∧
    ((s.ssExit f).ssp f).chg[u] = (s.ssp f).chg[u] ||| sLinkState := by
  unfold State.ssExit
  extract_lets s1
  have hport : s1.ssp f = s.ssp f := by
    unfold s1
    split
    · exact State.ssMerged_ssp
    · rfl
  have hw : s.WritesIn [] s1 := .ite State.ssMerged_writes (.refl s)
  have hside : (s1.sspWith f (fun x => { x with exiting := none })).ssSide f = some u :=
    (State.ssSide_sspWith ..).trans ((hw.ssSide rfl f).trans h)
  refine ⟨State.link_setLink _ f (by decide), ?_, ?_⟩
  · rw [State.ssp_setLink, State.ssp_addSsChg, State.sspWith_same]
  · rw [State.ssp_setLink, State.ssp_addSsChg]
    dsimp only
    rw [State.ssChgTaken_of_side _ _ hside, State.sspWith_same, hport]

theorem State.exitMerge_writes (u : Up) (device : Option Full) : s.WritesIn Zone.ssExit (s.exitMerge u device) := by
  unfold State.exitMerge
  split
  · exact .refl s
  · exact .ite (.ite State.ssExit_writes (State.ssExit_writes.trans State.ssMerged_writes)) (.refl s)

end

/-! ### The commands -/

section
variable {s : State} {f : Full} {u : Up}

theorem exec_u1Inactivity_down {b : Bool} (hl : s.link f < (if b then lkU2 else lkU1)) (hi : s.initiates f b = true) :
    exec (.u1Inactivity (.down f) b) s = .next (s.setLink f (if b then lkU2 else lkU1)) :=
  show execU1Inactivity (.down f) b s = _ from if_pos ⟨hl, hi⟩

theorem exec_u1Inactivity_up {b : Bool} (hl : s.upState u < (if b then lkU2 else lkU1)) (hi : s.upMayRest u b = true) :
    exec (.u1Inactivity (.up u) b) s = .next (s.setUpState u (if b then lkU2 else lkU1)) :=
  show execU1Inactivity (.up u) b s = _ from if_pos ⟨hl, hi⟩

theorem exec_lgoUx_accepted {b : Bool} (hl : s.link f = lkU0) (ha : s.accepts f b = true) :
    exec (.lgoUx (.down f) b) s = .next ((s.setLink f (if b then lkU2 else lkU1)).reply .ack) :=
  show execLgoUx (.down f) b s = _ from (if_neg (not_not.2 hl)).trans (if_pos ha)

theorem exec_lgoUx_rejected {b : Bool} (hl : s.link f = lkU0) (ha : s.accepts f b = false) :
    exec (.lgoUx (.down f) b) s = .next (s.reply .nak) :=
  show execLgoUx (.down f) b s = _ from (if_neg (not_not.2 hl)).trans (if_neg (by simp [ha]))

theorem State.accepts_of_not_allowed {b : Bool} (h : s.cfgFlag (.ssp f) F.SSP_CFG_LPM_ALLOW = false) : s.accepts f b = false := by
  simp [State.accepts, h]

theorem exec_lgoUx_up_rejected {b : Bool} (hl : s.upState u = lkU0) (ha : s.upMayRest u b = false) :
    exec (.lgoUx (.up u) b) s = .next (s.reply .nak) :=
  show execLgoUx (.up u) b s = _ from (if_neg (not_not.2 hl)).trans (if_neg (by simp [ha]))

theorem exec_ssRemoteWake (hs : s.ssSide f = some u) (hl : s.link f = lkU3) : exec (.ssRemoteWake f) s =
    .next (if s.get (.ssp f) F.SSP_STATUS_WAKE_MASK != 0 || !(s.ssHub (.root u)).suspended then (s.ssExit f).upWake u else s.ssExit f) := by
  change execSsRemoteWake f s = _
  unfold execSsRemoteWake
  rw [hs]
  exact if_neg (not_not.2 hl)

theorem exec_lgoU3 (hl : s.upState u ≤ 2) (hc : s.compat = false) (ha : s.presAttached u = true) :
    exec (.lgoU3 u) s = .next ((s.setUpState u lkU3).ssSuspendAll u true) :=
  show execLgoU3 u s = _ from if_pos ⟨hl, by simp [hc], ha⟩

theorem exec_upstreamExitLfps (hl : s.upState u = lkU3) (ha : s.presAttached u = true) : exec (.upstreamExitLfps ⟨u, none⟩) s =
    .next (((s.setUpState u lkU0).upLkWith u (fun l => { l with wakeExit := false })).ssSuspendAll u false) :=
  show execUpstreamExitLfps ⟨u, none⟩ s = _ from if_pos ⟨hl, ha⟩

theorem exec_u1U2Enable {sc : SsCtx} {b v : Bool} (hh : s.ssHears sc = true) : exec (.u1U2Enable sc b v) s =
    .next ((s.ssHubWith sc (fun h => if b then { h with u2En := v } else { h with u1En := v })).reply .ack) :=
  show execU1U2Enable sc b v s = _ from if_neg (by simp [hh])

theorem exec_complianceEntry (hl : s.link f = lkPolling) (hp : (s.ssp f).firstPoll = true)
    (he : s.cfgFlag (.ssp f) F.SSP_CFG_COMPLIANCE_EN = true) : exec (.complianceEntry f) s =
      .next (((s.ssLeave f lkCompliance 6).sspWith f (fun x => { x with complianceAuto := true, pattern := 0 })).raisePort (.ssp f) (fullPort f)
        evCompliance 1) :=
  show execComplianceEntry f s = _ from if_pos ⟨hl, hp, he⟩

theorem exec_complianceEntry_disabled (he : s.cfgFlag (.ssp f) F.SSP_CFG_COMPLIANCE_EN = false) : exec (.complianceEntry f) s = .next s :=
  show execComplianceEntry f s = _ from if_neg (by simp [he])

theorem exec_pingLfps (hl : s.link f = lkCompliance) :
    exec (.pingLfps f) s = .next (s.sspWith f (fun x => { x with pattern := x.pattern + 1 })) :=
  show execPingLfps f s = _ from if_pos hl

theorem exec_loopbackEntry (hl : s.link f = lkPolling ∨ s.link f = lkRecovery) :
    exec (.loopbackEntry f) s = .next (s.ssLeave f lkLoopback 6) :=
  show execLoopbackEntry f s = _ from if_pos hl

theorem exec_marginEnd {e : Nat} (hm : (s.ssp f).margining = true) : exec (.marginEnd f e) s =
    .next ((((s.sspWith f (fun x => { x with margining := false })).put (.ssp f) F.SSP_MARGIN_RES_ERRORS (min e 0xFFFFFF)).put (.ssp f)
      F.SSP_MARGIN_RES_STATUS 1).put (.ssp f) F.SSP_MARGIN_CMD_START 0) :=
  show execMarginEnd f e s = _ from if_pos hm

end

/-- Settles O46: a link that rests, wakes or leaves for a test is its operation, read back through the lemmas about it. -/
theorem superSpeedLinksRestWakeAndTest : Obligations.SuperSpeedLinksRestWakeAndTest := by
  unfold Obligations.SuperSpeedLinksRestWakeAndTest
  refine ⟨fun f b s hl hi => ⟨_, exec_u1Inactivity_down hl hi, rfl⟩, fun u b s hl hi => ⟨_, exec_u1Inactivity_up hl hi, rfl⟩,
    fun f b s hl ha => ⟨_, exec_lgoUx_accepted hl ha, rfl⟩, fun f b s hl ha => ⟨_, exec_lgoUx_rejected hl ha, rfl⟩,
    fun f b s hl ha => ⟨_, exec_lgoUx_rejected hl (State.accepts_of_not_allowed ha), rfl⟩,
    fun u b s hl ha => ⟨_, exec_lgoUx_up_rejected hl ha, rfl⟩,
    fun f u s hs hl => ⟨_, exec_ssRemoteWake hs hl, ?remoteWake⟩,
    fun u s hl hc ha => ⟨_, exec_lgoU3 hl hc ha, ?lgoU3⟩,
    fun u s hl ha => ⟨_, exec_upstreamExitLfps hl ha, ?exitLfps⟩,
    fun sc b v s hh => ⟨_, exec_u1U2Enable hh, ?enable⟩,
    fun f s hl hp he => ⟨_, exec_complianceEntry hl hp he, ?compliance⟩,
    fun f s he => ⟨_, exec_complianceEntry_disabled he, rfl⟩,
    fun f s hl => ⟨_, exec_pingLfps hl, congrArg SspSt.pattern (State.sspWith_same ..), (State.sspWith_get ..).trans hl⟩,
    fun f s hl => ⟨_, exec_loopbackEntry hl, s.link_ssLeave f (by decide) 6, congrArg SspSt.connected (s.ssp_ssLeave ..),
      congrArg SspSt.down (s.ssp_ssLeave ..)⟩,
    fun f e s hm => ⟨_, exec_marginEnd hm, ?margin⟩⟩
  case remoteWake =>
    obtain ⟨hlink, hexit, hchg⟩ := State.ssExit_parts hs
    have hwake : State.WritesIn [] (s.ssExit f) ((s.ssExit f).upWake u) := .ite (.upLkWith (.refl _)) (.refl _)
    have hport := (State.KeepsBut.upWake (u := u) (M := [.upLink]) (by decide) (.refl (s.ssExit f))).ssp (by decide) f
    split
    · exact ⟨(hwake.get (.ssp f) _ (by rfl)).trans hlink, (congrArg SspSt.exiting hport).trans hexit,
        (congrArg (fun x : SspSt => x.chg[u]) hport).trans hchg⟩
    · exact ⟨hlink, hexit, hchg⟩
  case lgoU3 => exact ⟨(State.ssSuspendAll_upState ..).trans (State.upState_setUpState _ u (by decide)), State.ssSuspendAll_root ..⟩
  case exitLfps =>
    refine ⟨?_, ?_, State.ssSuspendAll_root ..⟩
    · exact (State.ssSuspendAll_upState ..).trans ((State.upLkWith_get ..).trans (State.upState_setUpState _ u (by decide)))
    · rw [State.ssSuspendAll_upLk, State.upLkWith_same]
  case enable =>
    simp only [State.ssHub_reply, State.ssHubWith_same]
    cases b <;> exact ⟨rfl, rfl, rfl⟩
  case compliance =>
    refine ⟨(State.link_raisePort ..).trans ((State.sspWith_get ..).trans (s.link_ssLeave f (by decide) 6)), ?_⟩
    simp [State.raisePort]
  case margin =>
    simp (disch := decide) only [State.get_put_bits, State.get_put_off, State.get_put_fits, State.ssp_put, State.sspWith_same, and_true]
    exact State.get_put_fits _ _ _ _ (by decide) (Nat.lt_of_le_of_lt (Nat.min_le_right _ _) (by decide))

end Sys2Proof.Machine

namespace Sys2Proof.Machine

/-! PROOFS. The SuperSpeed fabric: a packet's way through the queues (O47: R298, R308, R312, R313, R316). -/

/-! ### Queues -/

section
variable {s t : State} {q : SsQueue}

theorem State.KeepsBut.ssq {M : List Part} (h : s.KeepsBut M t) (hp : .sspSt ∉ M) (hu : .upLink ∉ M) (q : SsQueue) : t.ssq q = s.ssq q := by
  cases q with
  | portDown f => exact congrArg SspSt.down (h.ssp hp f)
  | portUp f => exact congrArg SspSt.up (h.ssp hp f)
  | rootDown u k => exact congrArg (fun x : UpLinkSt => x.down[k]) (h.upLk hu u)
  | rootUp u k => exact congrArg (fun x : UpLinkSt => x.up[k]) (h.upLk hu u)

theorem State.ssq_setSsq (s : State) (q : SsQueue) (l : List SsPacket) : (s.setSsq q l).ssq q = l := by
  cases q <;> simp [State.setSsq, State.ssq]

theorem State.get_setSsq (s : State) (q : SsQueue) (l : List SsPacket) (pg : PageId) (g : Fld) : (s.setSsq q l).get pg g = s.get pg g := by
  cases q with
  | portDown f => exact State.sspWith_get ..
  | portUp f => exact State.sspWith_get ..
  | rootDown u k => exact State.upLkWith_get ..
  | rootUp u k => exact State.upLkWith_get ..

theorem State.ssq_count (pg : PageId) (g : Fld) (n : Nat) : (s.countBy pg g n).ssq q = s.ssq q :=
  (State.KeepsBut.countBy (M := []) (.refl s)).ssq (by decide) (by decide) q

theorem State.ssq_countSs (k : Plate) (n : Nat) : (s.countSs k n).ssq q = s.ssq q :=
  (State.KeepsBut.put (M := []) (.put (.refl s))).ssq (by decide) (by decide) q

theorem State.ssq_reply (x : Answer) : (s.reply x).ssq q = s.ssq q :=
  (State.KeepsBut.reply (M := [.answer]) (by decide) (.refl s)).ssq (by decide) (by decide) q

/-- A packet that finds room stands at the end of the queue (R312). -/
theorem State.ssPush_room {p : SsPacket} (h : hasRoom (s.ssq q) p = true) : s.ssPush q p = (s.setSsq q (s.ssq q ++ [p])).reply .ack :=
  if_pos h

theorem State.ssPush_full {p : SsPacket} (h : hasRoom (s.ssq q) p = false) : s.ssPush q p = s.reply .waits :=
  if_neg (by simp [h])

end

/-! ### Headers that enter (R298, R316) -/

section
variable {s : State} {hd : SsPacket}

theorem State.headerErrs_keeps (s : State) (hd : SsPacket) : s.KeepsBut [] (s.headerErrs hd) := by
  unfold State.headerErrs
  split <;> exact .countBy (.countBy (.refl s))

theorem State.hdrCrc_headerErrs_up {u : Up} (h : hd.entry = .up u) : (s.headerErrs hd).get (.ups u) F.UPS_ERR_HDR_CRC =
    min (s.get (.ups u) F.UPS_ERR_HDR_CRC + hd.errs.crcs) (2 ^ F.UPS_ERR_HDR_CRC.width - 1) := by
  unfold State.headerErrs
  rw [h]
  dsimp only
  rw [State.get_countBy_fld _ _ _ _ (by decide) (by decide) (by decide), State.get_countBy_same _ _ _ (by decide)]

theorem State.hdrCrc_headerErrs_down {f : Full} (h : hd.entry = .down f) : (s.headerErrs hd).get (.ssp f) F.SSP_ERR_HDR_CRC =
    min (s.get (.ssp f) F.SSP_ERR_HDR_CRC + hd.errs.crcs) (2 ^ F.SSP_ERR_HDR_CRC.width - 1) := by
  unfold State.headerErrs
  rw [h]
  dsimp only
  rw [State.get_countBy_fld _ _ _ _ (by decide) (by decide) (by decide), State.get_countBy_same _ _ _ (by decide)]

theorem State.discards_headerErrs {f : Full} (h : hd.entry = .down f) :
    (s.headerErrs hd).get (.ssp f) F.SSP_CNT_DISCARDS = s.get (.ssp f) F.SSP_CNT_DISCARDS := by
  unfold State.headerErrs
  rw [h]
  dsimp only
  rw [State.get_countBy_fld _ _ _ _ (by decide) (by decide) (by decide), State.get_countBy_fld _ _ _ _ (by decide) (by decide) (by decide)]

/-- A header that an upstream link takes is decoded by the root hub. -/
theorem exec_ssHeader_up {u : Up} (he : hd.entry = .up u) (hc : s.compat = false) (ha : s.presAttached u = true) (hl : s.upState u = lkU0)
    (hi : hd.itp = false) : exec (.ssHeader hd) s = .next ((s.headerErrs hd).fromHost u { hd with errs := ⟨0, 0⟩ }) := by
  change execSsHeader hd s = _
  unfold execSsHeader
  rw [he]
  dsimp only
  rw [if_neg (by simp [hc, ha, hl]), hi, if_neg Bool.false_ne_true]

theorem exec_ssHeader_down {f : Full} (he : hd.entry = .down f) (hl : s.link f = lkU0) (hs : (s.ssSide f).isSome = true) :
    exec (.ssHeader hd) s = .next ((s.headerErrs hd).fromDevice f { hd with errs := ⟨0, 0⟩ }) := by
  change execSsHeader hd s = _
  unfold execSsHeader
  rw [he]
  dsimp only
  rw [if_neg (by cases h : s.ssSide f <;> simp [hl, h] at hs ⊢)]

theorem State.fromHost_toPlate {u : Up} {p : SsPacket} {d : Fin 5} {k : Plate} (hi : p.itp = false)
    (hd : (s.ssHub (.root u)).depth = some d) (hn : routeNibble p.route d.val = k.val + 1) : s.fromHost u p = s.ssPush (.rootDown u k) p := by
  unfold State.fromHost
  rw [hi, if_neg Bool.false_ne_true, hd]
  dsimp only
  rw [if_neg (by omega), dif_pos (by omega)]
  exact congrArg (fun j => s.ssPush (.rootDown u j) p) (Fin.ext (by dsimp only; omega))

theorem State.fromHost_beyond {u : Up} {p : SsPacket} {d : Fin 5} (hi : p.itp = false) (hd : (s.ssHub (.root u)).depth = some d)
    (hn : 6 ≤ routeNibble p.route d.val) : s.fromHost u p = (s.rootDrop u).reply .silent := by
  unfold State.fromHost
  rw [hi, if_neg Bool.false_ne_true, hd]
  dsimp only
  rw [if_neg (by omega), dif_neg (by omega)]

theorem State.fromHost_noDepth {u : Up} {p : SsPacket} (hi : p.itp = false) (hd : (s.ssHub (.root u)).depth = none) :
    s.fromHost u p = (s.rootDrop u).reply .silent := by
  unfold State.fromHost
  rw [hi, if_neg Bool.false_ne_true, hd]

theorem State.drops_rootDrop (u : Up) : ((s.rootDrop u).ssHub (.root u)).drops = (s.ssHub (.root u)).drops + 1 :=
  congrArg SsCtxSt.drops (State.ssHubWith_same ..)

/-- A header counted and then discarded by the root hub. -/
theorem State.headerErrs_dropped (u : Up) : ((((s.headerErrs hd).rootDrop u).reply .silent).ssHub (.root u)).drops =
    (s.ssHub (.root u)).drops + 1 := by
  rw [State.ssHub_reply, State.drops_rootDrop, (s.headerErrs_keeps hd).ssHub (by decide)]

theorem State.fromDevice_fresh {f : Full} {p : SsPacket} (h : (s.ssp f).stale = false) : s.fromDevice f p =
    (s.sspWith f (fun x => { x with awaits := false, stale := false })).ssPush (.portUp f) p :=
  if_neg (by simp [h])

theorem State.fromDevice_stale {f : Full} {p : SsPacket} (h : (s.ssp f).stale = true) : s.fromDevice f p =
    ((s.sspWith f (fun x => { x with awaits := false, stale := false })).ssDiscard f 1).reply .silent :=
  if_pos h

theorem State.ssq_awaited {f : Full} {b c : Bool} : (s.sspWith f (fun x => { x with awaits := b, stale := c })).ssq (.portUp f) = s.ssq (.portUp f) := by
  simp [State.ssq]

end

/-! ### A packet routed by its plate hub (R298, R299, R308, R313) -/

/-- The head packet of the root queue toward a plate is one that its hub decodes toward a port. -/
structure State.Routes (s : State) (u : Up) (k : Plate) (p : SsPacket) (rest : List SsPacket) (f : Full) (d : Fin 5) : Prop where
  head : s.ssq (.rootDown u k) = p :: rest
  page : s.pageOn (.ssh k) = true
  plate : s.ssPlateOn k u = true
  awake : (s.ssHub (.plate k u)).suspended = false
  depth : (s.ssHub (.plate k u)).depth = some d
  pos : 1 ≤ routeNibble p.route d.val
  port : f.val + 1 = 4 * k.val + routeNibble p.route d.val
  le : routeNibble p.route d.val ≤ 4

section
variable {s : State} {u : Up} {k : Plate} {p : SsPacket} {rest : List SsPacket} {f : Full} {d : Fin 5} {n : Nat}

/-- The packet as it goes back deferred (R308). -/
def sentBack (p : SsPacket) (f : Full) : SsPacket := { p with entry := .down f, payload := 0, deferred := true }

/-- The root queue without its head. -/
def State.popped (s : State) (u : Up) (k : Plate) (rest : List SsPacket) : State := s.setSsq (.rootDown u k) rest

/-- The port's link awake, with the deferral counted (R308). -/
def State.woken (s : State) (u : Up) (k : Plate) (rest : List SsPacket) (f : Full) : State :=
  ((s.popped u k rest).setLink f lkU0).count (.ssh k) F.SSH_CNT_DEFERRED

/-- Where a packet decoded toward a port goes. -/
def State.routed (s : State) (u : Up) (k : Plate) (p : SsPacket) (rest : List SsPacket) (f : Full) : State :=
  if s.ssSide f ≠ some u then (s.popped u k rest).routeDrop k 1
  else if ssDead (s.link f) then (s.popped u k rest).ssDiscard f 1
  else if s.link f = lkU1 ∨ s.link f = lkU2 then
    if hasRoom (s.ssq (.portUp f)) (sentBack p f) then
      (s.woken u k rest f).setSsq (.portUp f) ((s.woken u k rest f).ssq (.portUp f) ++ [sentBack p f])
    else s
  else if hasRoom (s.ssq (.portDown f)) p then
    ((s.popped u k rest).countSs k p.payload).setSsq (.portDown f) (((s.popped u k rest).countSs k p.payload).ssq (.portDown f) ++ [p])
  else s

theorem State.Routes.exec (h : s.Routes u k p rest f d) :
    exec (.packetForward ⟨.rootDown u k, n⟩) s = .next (s.routed u k p rest f) := by
  obtain ⟨head, page, plate, awake, depth, pos, port, le⟩ := h
  have hf : f = ⟨4 * k.val + (routeNibble p.route d.val - 1), by omega⟩ := Fin.ext (by dsimp only; omega)
  change execPacketForward ⟨.rootDown u k, n⟩ s = _
  unfold execPacketForward
  dsimp only
  rw [head]
  dsimp only
  rw [if_neg (by simp [page, awake])]
  unfold State.toPlate
  rw [if_neg (by simp [plate]), depth]
  dsimp only
  rw [if_neg (by omega), dif_pos ⟨pos, le⟩, hf]
  rfl

theorem State.ssq_popped_root : (s.popped u k rest).ssq (.rootDown u k) = rest := State.ssq_setSsq ..

/-- The queues of a port stay as the root queue gives up its head. -/
theorem State.ssq_popped_down : (s.popped u k rest).ssq (.portDown f) = s.ssq (.portDown f) := (rfl)

theorem State.ssq_popped_up : (s.popped u k rest).ssq (.portUp f) = s.ssq (.portUp f) := (rfl)

theorem State.ssq_rootDown_setSsq_down (l : List SsPacket) : (s.setSsq (.portDown f) l).ssq (.rootDown u k) = s.ssq (.rootDown u k) := (rfl)

theorem State.ssq_rootDown_setSsq_up (l : List SsPacket) : (s.setSsq (.portUp f) l).ssq (.rootDown u k) = s.ssq (.rootDown u k) := (rfl)

theorem State.ssq_rootUp_setSsq_up (l : List SsPacket) : (s.setSsq (.portUp f) l).ssq (.rootUp u k) = s.ssq (.rootUp u k) := (rfl)

theorem State.ssq_portUp_setSsq_root (l : List SsPacket) : (s.setSsq (.rootUp u k) l).ssq (.portUp f) = s.ssq (.portUp f) := (rfl)

theorem State.ssq_woken (q : SsQueue) : (s.woken u k rest f).ssq q = (s.popped u k rest).ssq q :=
  (State.KeepsBut.count (M := []) (.setLink (.refl _))).ssq (by decide) (by decide) q

theorem State.routed_other (h : s.ssSide f ≠ some u) : s.routed u k p rest f = (s.popped u k rest).routeDrop k 1 := if_pos h

theorem State.routed_dead (h : s.ssSide f = some u) (hl : ssDead (s.link f) = true) :
    s.routed u k p rest f = (s.popped u k rest).ssDiscard f 1 :=
  (if_neg (not_not.2 h)).trans (if_pos hl)

theorem ssDead_of_live {l : Nat} (h : l = lkU0 ∨ l = lkU1 ∨ l = lkU2) : ssDead l = false := by
  rcases h with rfl | rfl | rfl <;> rfl

theorem State.routed_deferred (h : s.ssSide f = some u) (hl : s.link f = lkU1 ∨ s.link f = lkU2)
    (hr : hasRoom (s.ssq (.portUp f)) (sentBack p f) = true) : s.routed u k p rest f =
      (s.woken u k rest f).setSsq (.portUp f) ((s.woken u k rest f).ssq (.portUp f) ++ [sentBack p f]) :=
  (if_neg (not_not.2 h)).trans ((if_neg (by simp [ssDead_of_live (.inr hl)])).trans ((if_pos hl).trans (if_pos hr)))

theorem not_resting_of_u0 (hl : s.link f = lkU0) : ¬ (s.link f = lkU1 ∨ s.link f = lkU2) := by
  rw [hl]
  decide

theorem State.routed_u0 (h : s.ssSide f = some u) (hl : s.link f = lkU0) : s.routed u k p rest f =
    if hasRoom (s.ssq (.portDown f)) p then
      ((s.popped u k rest).countSs k p.payload).setSsq (.portDown f) (((s.popped u k rest).countSs k p.payload).ssq (.portDown f) ++ [p])
    else s :=
  (if_neg (not_not.2 h)).trans ((if_neg (by simp [ssDead_of_live (.inl hl)])).trans (if_neg (not_resting_of_u0 hl)))

/-- A packet that leaves toward its device (R313). -/
theorem exec_packetForward_portDown (hq : s.ssq (.portDown f) = p :: rest) (hl : s.link f = lkU0) (hh : s.ssHeldDown f = false) :
    exec (.packetForward ⟨.portDown f, n⟩) s = .next (((s.setSsq (.portDown f) rest).sspWith f (fun x =>
      { x with awaits := true, stale := false })).countBy (.ssp f) F.SSP_ERR_LINK_ERR n) := by
  change execPacketForward ⟨.portDown f, n⟩ s = _
  unfold execPacketForward
  dsimp only
  rw [hq]
  exact if_pos (by simp [hl, hh])

theorem exec_packetForward_portUp (hq : s.ssq (.portUp f) = p :: rest) (hs : s.ssSide f = some u) (hon : s.ssPlateOn (fullPlate f) u = true)
    (hpage : s.pageOn (.ssh (fullPlate f)) = true) (hr : hasRoom (s.ssq (.rootUp u (fullPlate f))) p = true) :
    exec (.packetForward ⟨.portUp f, n⟩) s = .next (((s.setSsq (.portUp f) rest).countSs (fullPlate f) p.payload).setSsq
      (.rootUp u (fullPlate f)) (((s.setSsq (.portUp f) rest).countSs (fullPlate f) p.payload).ssq (.rootUp u (fullPlate f)) ++ [p])) := by
  change execPacketForward ⟨.portUp f, n⟩ s = _
  unfold execPacketForward
  dsimp only
  rw [hq]
  dsimp only
  rw [hs]
  exact if_pos (by simp [hon, hpage, hr])

theorem exec_packetForward_rootUp (hq : s.ssq (.rootUp u k) = p :: rest) (hl : s.upState u ≤ 2) : exec (.packetForward ⟨.rootUp u k, n⟩) s =
    .next (((s.setUpState u lkU0).setSsq (.rootUp u k) rest).countBy (.ups u) F.UPS_ERR_LINK_ERR n) := by
  change execPacketForward ⟨.rootUp u k, n⟩ s = _
  unfold execPacketForward
  dsimp only
  rw [hq]
  exact if_pos hl

end

/-- Settles O47: each clause is one way of a packet, its queues read back with the rules above. -/
theorem superSpeedPacketsFollowTheirRoute : Obligations.SuperSpeedPacketsFollowTheirRoute := by
  unfold Obligations.SuperSpeedPacketsFollowTheirRoute
  refine ⟨?_, ?_, ?_, ?_, ?_, ?_, ?_, ?_, ?_, ?_, ?_, ?_, ?_, ?_⟩
  case refine_1 =>
    intro hd u d k s he hc ha hl hi hdep hn hr
    have hkeep := s.headerErrs_keeps hd
    have hq := hkeep.ssq (by decide) (by decide) (.rootDown u k)
    refine ⟨_, exec_ssHeader_up he hc ha hl hi, ?_⟩
    rw [State.fromHost_toPlate (d := d) (p := { hd with errs := ⟨0, 0⟩ }) hi (by rw [hkeep.ssHub (by decide), hdep]) hn, State.ssPush_room (by rw [hq, hr]), State.ssq_reply,
      State.ssq_setSsq, State.get_reply, State.get_setSsq, hq]
    exact ⟨rfl, State.hdrCrc_headerErrs_up he, rfl⟩
  case refine_2 =>
    intro hd u d k s he hc ha hl hi hdep hn hr
    have hkeep := s.headerErrs_keeps hd
    refine ⟨_, exec_ssHeader_up he hc ha hl hi, ?_⟩
    rw [State.fromHost_toPlate (d := d) (p := { hd with errs := ⟨0, 0⟩ }) hi (by rw [hkeep.ssHub (by decide), hdep]) hn,
      State.ssPush_full (by rw [hkeep.ssq (by decide) (by decide), hr])]
  case refine_3 =>
    intro hd u d s he hc ha hl hi hdep hn
    refine ⟨_, exec_ssHeader_up he hc ha hl hi, ?_⟩
    rw [State.fromHost_beyond (d := d) (p := { hd with errs := ⟨0, 0⟩ }) hi (by rw [(s.headerErrs_keeps hd).ssHub (by decide), hdep]) hn]
    exact ⟨State.headerErrs_dropped u, rfl⟩
  case refine_4 =>
    intro hd u s he hc ha hl hi hdep
    refine ⟨_, exec_ssHeader_up he hc ha hl hi, ?_⟩
    rw [State.fromHost_noDepth (p := { hd with errs := ⟨0, 0⟩ }) hi (by rw [(s.headerErrs_keeps hd).ssHub (by decide), hdep])]
    exact ⟨State.headerErrs_dropped u, rfl⟩
  case refine_5 =>
    intro hd f s he hl hs hst hr
    have hkeep := s.headerErrs_keeps hd
    have hq := hkeep.ssq (by decide) (by decide) (.portUp f)
    refine ⟨_, exec_ssHeader_down he hl hs, ?_⟩
    rw [State.fromDevice_fresh (by rw [hkeep.ssp (by decide), hst]), State.ssPush_room (by rw [State.ssq_awaited, hq, hr]), State.ssq_reply,
      State.ssq_setSsq, State.get_reply, State.get_setSsq, State.sspWith_get, State.ssq_awaited, hq]
    exact ⟨rfl, State.hdrCrc_headerErrs_down he, rfl⟩
  case refine_6 =>
    intro hd f s he hl hs hst
    have hkeep := s.headerErrs_keeps hd
    refine ⟨_, exec_ssHeader_down he hl hs, ?_⟩
    rw [State.fromDevice_stale (by rw [hkeep.ssp (by decide), hst]), State.ssq_reply, State.get_reply]
    unfold State.ssDiscard
    rw [State.ssq_count, State.ssq_awaited, hkeep.ssq (by decide) (by decide), State.get_countBy_same _ _ _ (by decide), State.sspWith_get,
      State.discards_headerErrs he]
    exact ⟨rfl, rfl, rfl⟩
  case refine_7 =>
    intro p rest f n s hq hl hh
    refine ⟨_, exec_packetForward_portDown hq hl hh, ?_, ?_⟩
    · rw [State.ssq_count]
      refine (congrArg SspSt.down (State.sspWith_same ..)).trans ?_
      exact State.ssq_setSsq s (.portDown f) rest
    · rw [State.get_countBy_same _ _ _ (by decide), State.sspWith_get, State.get_setSsq]
  case refine_8 =>
    intro p rest f u n s hq hs hon hpage hr
    refine ⟨_, exec_packetForward_portUp hq hs hon hpage hr, ?_, ?_⟩
    · rw [State.ssq_portUp_setSsq_root, State.ssq_countSs, State.ssq_setSsq]
    · rw [State.ssq_setSsq, State.ssq_countSs, State.ssq_rootUp_setSsq_up]
  case refine_9 =>
    intro p rest u k d f n s hq hpage hon hsus hdep hpos hf hle hside hl hr
    refine ⟨_, State.Routes.exec ⟨hq, hpage, hon, hsus, hdep, hpos, hf, hle⟩, ?_⟩
    rw [State.routed_u0 hside hl, if_pos hr, State.ssq_rootDown_setSsq_down, State.ssq_setSsq, State.ssq_countSs, State.ssq_countSs]
    exact ⟨State.ssq_popped_root, by rw [State.ssq_popped_down]⟩
  case refine_10 =>
    intro p rest u k d f n s hq hpage hon hsus hdep hpos hf hle hside hl
    refine ⟨_, State.Routes.exec ⟨hq, hpage, hon, hsus, hdep, hpos, hf, hle⟩, ?_⟩
    rw [State.routed_dead hside hl]
    unfold State.ssDiscard
    rw [State.ssq_count, State.ssq_count, State.get_countBy_same _ _ _ (by decide)]
    exact ⟨State.ssq_popped_root, State.ssq_popped_down, by unfold State.popped; rw [State.get_setSsq]⟩
  case refine_11 =>
    intro p rest u k d f n s hq hpage hon hsus hdep hpos hf hle hside
    refine ⟨_, State.Routes.exec ⟨hq, hpage, hon, hsus, hdep, hpos, hf, hle⟩, ?_⟩
    rw [State.routed_other hside]
    unfold State.routeDrop
    rw [State.ssq_count, State.get_countBy_same _ _ _ (by decide)]
    exact ⟨State.ssq_popped_root, by unfold State.popped; rw [State.get_setSsq]⟩
  case refine_12 =>
    intro p rest u k d f n s hq hpage hon hsus hdep hpos hf hle hside hl hr
    refine ⟨_, State.Routes.exec ⟨hq, hpage, hon, hsus, hdep, hpos, hf, hle⟩, ?_⟩
    rw [State.routed_deferred hside hl hr, State.ssq_rootDown_setSsq_up, State.ssq_setSsq, State.ssq_woken, State.ssq_woken, State.get_setSsq]
    refine ⟨State.ssq_popped_root, by rw [State.ssq_popped_up]; rfl, ?_, ?_⟩
    · refine (State.get_setSsq ..).trans ?_
      unfold State.woken
      rw [State.get_count_fld _ _ _ _ _ (by decide) (by decide) (by decide)]
      exact State.link_setLink _ f (by decide)
    · unfold State.woken State.popped
      rw [State.get_count_same _ _ _ (by decide), State.get_setLink _ _ (by decide) (by decide), State.get_setSsq]
  case refine_13 =>
    intro p rest u k d f n s hq hpage hon hsus hdep hpos hf hle hside hl hr
    refine ⟨_, State.Routes.exec ⟨hq, hpage, hon, hsus, hdep, hpos, hf, hle⟩, ?_⟩
    rw [State.routed_u0 hside hl, if_neg (by simp [hr])]
  case refine_14 =>
    intro p rest u k n s hq hl
    refine ⟨_, exec_packetForward_rootUp hq hl, ?_, ?_, ?_⟩
    · rw [State.ssq_count, State.ssq_setSsq]
    · refine (State.get_countBy_fld _ _ _ _ (by decide) (by decide) (by decide)).trans ((State.get_setSsq ..).trans ?_)
      exact State.upState_setUpState s u (by decide)
    · rw [State.get_countBy_same _ _ _ (by decide), State.get_setSsq]
      exact congrArg (fun x => min (x + n) _) (State.get_put_fld _ _ _ _ _ _ (by decide) (by decide) (by decide))

end Sys2Proof.Machine

namespace Sys2Proof.Machine

/-! PROOFS. The fields that operations of several units write, arbiter requests left open: `State.WritesIn` says in addition that no request
comes to the arbiter, which a job's end or a group's leave does not keep. -/

/-- From `s` to `t` only fields in the zones `W` have been written. -/
def State.WritesOnly (W : List Zone) (s t : State) : Prop := ∀ (pg : PageId) (f : Fld), Zone.spared W (pageKind pg) f = true → t.get pg f = s.get pg f

/-- What an ECC note writes (R418). -/
def Zone.dram : List Zone := [.regs .drc 0x40 0xFFC]

/-- What a wake that contexts drive up writes (R286, R288). -/
def Zone.wake : List Zone := [.regs .u2h 0x40 0xFFC, .regs .win 0 0xFFC, .regs .mgf 0x40 0xFFC] ++ Zone.u2Eval

/-- What the end of a job's part, with its group, writes (R386, R397). -/
def Zone.job : List Zone := Zone.lhe ++ Zone.budget

/-- What the end of a capture writes (R401). -/
def Zone.capture : List Zone := Zone.lhe ++ Zone.dram

namespace State.WritesOnly

open List (Subset.trans)

variable {L W : List Zone} {was s t : State}

theorem refl (s : State) : s.WritesOnly W s := fun _ _ _ => rfl

/-- Writes that bring no request are writes. -/
theorem step (hW : L ⊆ W) (hL : s.WritesIn L t) (h : was.WritesOnly W s) : was.WritesOnly W t :=
  fun pg f hf => ((hL.mono hW).get pg f hf).trans (h pg f hf)

theorem hidden (h : was.WritesOnly W s) (hregs : t.regs = s.regs) : was.WritesOnly W t :=
  fun pg f hf => Eq.trans (by simp only [State.get, State.rd, hregs]) (h pg f hf)

theorem ite {c : Prop} [Decidable c] (hs : was.WritesOnly W s) (ht : was.WritesOnly W t) : was.WritesOnly W (if c then s else t) := by
  split
  · exact hs
  · exact ht

theorem foldl {α : Type} {l : List α} {f : State → α → State} (hf : ∀ s x, was.WritesOnly W s → was.WritesOnly W (f s x))
    (h : was.WritesOnly W s) : was.WritesOnly W (l.foldl f s) := by
  induction l generalizing s with
  | nil => exact h
  | cons x l ih => exact ih (hf _ _ h)

theorem put {pg f v} (hW : L ⊆ W) (hf : L.any (·.covers (pageKind pg) f) = true) (h : was.WritesOnly W s) : was.WritesOnly W (s.put pg f v) :=
  step hW (.put (List.Subset.refl _) hf (.refl s)) h

theorem raiseWith {pg e src detail assert subj} (h : was.WritesOnly W s) : was.WritesOnly W (s.raiseWith pg e src detail assert subj) :=
  step (List.Subset.refl _) (.raiseWith (.refl s)) h

theorem grvWith {f} (h : was.WritesOnly W s) : was.WritesOnly W (s.grvWith f) := hidden h rfl

theorem presWith {u f} (h : was.WritesOnly W s) : was.WritesOnly W (s.presWith u f) := hidden h rfl

theorem hubWith {hc f} (h : was.WritesOnly W s) : was.WritesOnly W (s.hubWith hc f) := hidden h rfl

/-! ### Jobs and captures -/

theorem askGroup (h : was.WritesOnly W s) : was.WritesOnly W s.askGroup := by
  unfold State.askGroup
  refine ite h ?_
  split
  · exact step (List.Subset.refl _) (.askLeave (.refl _)) (grvWith h)
  · exact h

theorem groupCheck {id} (hW : Zone.budget ⊆ W) (h : was.WritesOnly W s) : was.WritesOnly W (s.groupCheck id) := by
  unfold State.groupCheck
  split
  · exact h
  · exact ite h (ite (grvWith h) (askGroup (askGroup (grvWith (step hW (.endLeave (List.Subset.refl _) (.refl s)) h)))))

theorem jobEnds {j p code} (hW : Zone.job ⊆ W) (h : was.WritesOnly W s) : was.WritesOnly W (s.jobEnds j p code) :=
  groupCheck (Subset.trans (by decide) hW) (step (Subset.trans (by decide) hW) (.partEnd (List.Subset.refl _) (.refl s)) h)

theorem runEnds {p code} (hW : Zone.job ⊆ W) (h : was.WritesOnly W s) : was.WritesOnly W (s.runEnds p code) := by
  unfold State.runEnds
  split
  · exact h
  · exact jobEnds hW h

theorem eccNote {w unc cls} (hW : Zone.dram ⊆ W) (h : was.WritesOnly W s) : was.WritesOnly W (s.eccNote w unc cls) := by
  unfold State.eccNote
  extract_lets s1 keep s2 d now
  have h1 : was.WritesOnly W s1 := by
    unfold s1
    cases unc <;> exact put hW rfl h
  have h2 : was.WritesOnly W s2 := ite h1 (put hW rfl (put hW rfl (put hW rfl (put hW rfl h1))))
  exact ite (raiseWith h2) (ite h2 (raiseWith (hidden h2 rfl)))

theorem eccRead {w cls wb} (hW : Zone.dram ⊆ W) (h : was.WritesOnly W s) : was.WritesOnly W (s.eccRead w cls wb).2 := by
  unfold State.eccRead
  split
  · exact h
  · exact ite (hidden (eccNote hW h) rfl) (eccNote hW h)
  · exact eccNote hW h

theorem dramWriteWord {a bs w cls} (hW : Zone.dram ⊆ W) (h : was.WritesOnly W s) : was.WritesOnly W (s.dramWriteWord a bs w cls).2 := by
  unfold State.dramWriteWord
  split
  split
  · exact hidden h rfl
  · have hread := eccRead (w := w) (cls := cls) (wb := true) hW h
    split
    next heq => exact heq ▸ hread
    next heq =>
      rw [heq] at hread
      exact hidden hread rfl

theorem dramWrite {a bs cls} (hW : Zone.dram ⊆ W) (h : was.WritesOnly W s) : was.WritesOnly W (s.dramWrite a bs cls).2 := by
  unfold State.dramWrite
  suffices hfold : ∀ (l : List Nat) (acc : Failed × State), was.WritesOnly W acc.2 → was.WritesOnly W (l.foldl
      (fun (acc : Failed × State) w =>
        let (bad, s1) := acc.2.dramWriteWord a bs w cls
        (if bad ∧ acc.1 = none then some (8 * w) else acc.1, s1)) acc).2 from hfold _ _ h
  intro l
  induction l with
  | nil => exact fun _ hacc => hacc
  | cons w l ih => exact fun acc hacc => ih _ (dramWriteWord hW hacc)

theorem bufPut {a bs} (h : was.WritesOnly W s) : was.WritesOnly W (s.bufPut a bs) := by
  induction bs generalizing s a with
  | nil => exact h
  | cons b bs ih => exact ih (grvWith h)

theorem grvWrite {a bs} (hW : Zone.dram ⊆ W) (h : was.WritesOnly W s) : was.WritesOnly W (s.grvWrite a bs).2 := by
  unfold State.grvWrite
  have hwrite := dramWrite (a := adrOff a) (bs := bs) (cls := grvClass) hW h
  split
  · exact bufPut h
  · split
    · exact h
    · split
      next heq => exact (by rw [heq] at hwrite; exact hwrite)
      next heq => exact (by rw [heq] at hwrite; exact hwrite)

theorem capWrite {c r last} (hW : Zone.capture ⊆ W) (h : was.WritesOnly W s) : was.WritesOnly W (s.capWrite c r last) := by
  have hlhe : Zone.lhe ⊆ W := Subset.trans (by decide) hW
  unfold State.capWrite
  extract_lets k slots a s0
  have h0 : was.WritesOnly W s0 := grvWith h
  have hwrite := grvWrite (a := a) (bs := capRecord c.port k r c.lostSome last) (Subset.trans (by decide) hW) h0
  split
  next heq =>
    rw [heq] at hwrite
    exact ite (raiseWith (put hlhe rfl hwrite)) (put hlhe rfl hwrite)
  next heq =>
    rw [heq] at hwrite
    exact grvWith (put hlhe rfl hwrite)

theorem capDrain {p cdc n} (hW : Zone.capture ⊆ W) (h : was.WritesOnly W s) : was.WritesOnly W (s.capDrain p cdc n) := by
  induction n generalizing s with
  | zero => exact h
  | succ n ih =>
    unfold State.capDrain
    split
    · exact h
    · split
      · exact h
      · refine ite (ite h (ih (capWrite hW h))) ?_
        extract_lets s1
        split
        · exact grvWith h
        · exact step (Subset.trans (by decide) hW) (.partEnd (List.Subset.refl _) (.refl _)) (grvWith h)

theorem capEnds {p cdc code} (hW : Zone.capture ⊆ W) (h : was.WritesOnly W s) : was.WritesOnly W (s.capEnds p cdc code) :=
  capDrain hW (grvWith h)

theorem grvLeaves {p} (hW : Zone.job ++ Zone.capture ⊆ W) (h : was.WritesOnly W s) : was.WritesOnly W (s.grvLeaves p) :=
  capEnds (Subset.trans (by decide) hW) (runEnds (Subset.trans (by decide) hW) h)

theorem grvGiven {p} (hW : Zone.job ++ Zone.capture ⊆ W) (h : was.WritesOnly W s) : was.WritesOnly W (s.grvGiven p) := by
  unfold State.grvGiven
  split
  · exact grvLeaves hW h
  · exact ite (grvLeaves hW (jobEnds (Subset.trans (by decide) hW) h)) (grvLeaves hW h)

theorem grvMoved {p} (hW : Zone.job ⊆ W) (h : was.WritesOnly W s) : was.WritesOnly W (s.grvMoved p) := by
  unfold State.grvMoved
  split
  · exact h
  · split
    · exact h
    · exact ite h (ite (jobEnds hW h) h)

/-! ### Wakes -/

theorem fnSuspend {u ss b} (hW : Zone.wake ⊆ W) (h : was.WritesOnly W s) : was.WritesOnly W (s.fnSuspend u ss b) := by
  have hput {t : State} {lo w v} (hb : lo + w ≤ 32) (ht : was.WritesOnly W t) :
      was.WritesOnly W (t.put .mgf ⟨0x44 + 4 * u.val, lo, w⟩ v) := by
    refine put hW ?_ ht
    simp [Zone.wake, Zone.covers, Zone.regs, pageKind]
    omega
  exact hput (by decide) (hput (by decide) (hput (by decide) (hput (by decide) (hput (by decide) (hput (by decide) (hidden h rfl))))))

theorem cptSeen {hc} (hW : Zone.wake ⊆ W) (h : was.WritesOnly W s) : was.WritesOnly W (s.cptSeen hc 4) := by
  unfold State.cptSeen
  split
  next k c => exact ite (step hW (.wr (pg := .win (ctxInst k c)) (List.Subset.refl _) rfl (.refl s)) h) h
  · exact h

theorem ctxResumeRecord {hc cause} (h : was.WritesOnly W s) : was.WritesOnly W (s.ctxResumeRecord hc cause) := by
  unfold State.ctxResumeRecord State.ctxRecord
  split
  · exact raiseWith h
  · exact h

theorem countMerged {hc} (hW : Zone.wake ⊆ W) (h : was.WritesOnly W s) : was.WritesOnly W (s.countMerged hc) := by
  unfold State.countMerged
  split
  · exact put hW rfl h
  · exact h

theorem mergeDevice {hc p} (hW : Zone.wake ⊆ W) (h : was.WritesOnly W s) : was.WritesOnly W (s.mergeDevice hc p) := by
  have hcount : was.WritesOnly W (s.count (.u2h (plateOf p)) F.U2H_CNT_RESUME_MERGED) := put hW rfl h
  have hresume {b : Bool} : was.WritesOnly W ((s.count (.u2h (plateOf p)) F.U2H_CNT_RESUME_MERGED).startResume p b 3 true) :=
    put hW rfl (hidden hcount rfl)
  exact ite hresume (ite hresume (ctxResumeRecord hcount))

theorem fnFollows {hc b} (hW : Zone.wake ⊆ W) (h : was.WritesOnly W s) : was.WritesOnly W (s.fnFollows hc b) := by
  unfold State.fnFollows
  split
  · exact ite h (fnSuspend hW h)
  · exact h

theorem ctxResumeOne {hc device met} (hW : Zone.wake ⊆ W) (h : was.WritesOnly W s) : was.WritesOnly W (s.ctxResumeOne hc device met) := by
  have h2 : was.WritesOnly W (((s.hubWith hc (fun h => { h with suspended := false, drivesK := false, woke := false, upK := true })).cptSeen hc
      4).fnFollows hc false) := fnFollows hW (cptSeen hW (hubWith h))
  unfold State.ctxResumeOne
  refine ite h (ite (ite (ctxResumeRecord (countMerged hW h2)) h2) ?_)
  split
  · exact mergeDevice hW h2
  · exact ctxResumeRecord h2

theorem ctxDriveK {hc} (h : was.WritesOnly W s) : was.WritesOnly W (s.ctxDriveK hc) := ite h (ctxResumeRecord (hubWith h))

theorem rootWake {u} (hW : Zone.wake ⊆ W) (h : was.WritesOnly W s) : was.WritesOnly W (s.rootWake u) :=
  ite h (foldl (fun _ _ h' => ite h' (ctxResumeOne hW h')) (ctxDriveK h))

theorem propagate {hc} (hW : Zone.wake ⊆ W) (h : was.WritesOnly W s) : was.WritesOnly W (s.propagate hc) := by
  unfold State.propagate
  refine ite h ?_
  split
  · exact rootWake hW h
  · extract_lets s1
    split
    · exact ite (ctxDriveK h) (rootWake hW (ctxDriveK h))
    · exact ctxDriveK h

theorem batchEnd {u} (hW : Zone.wake ⊆ W) (h : was.WritesOnly W s) : was.WritesOnly W (s.batchEnd u) := by
  refine ite h (presWith (foldl (fun t p ht => ?_) h))
  extract_lets t2
  have h2 : was.WritesOnly W t2 := by
    unfold t2
    split
    · exact ht
    · exact propagate hW ht
  split
  · exact h2
  · exact step (List.Subset.refl _) (.maskWake (.refl t2)) h2

theorem batchesEnd (hW : Zone.wake ⊆ W) (h : was.WritesOnly W s) : was.WritesOnly W s.batchesEnd := batchEnd hW (batchEnd hW h)

end State.WritesOnly

end Sys2Proof.Machine

namespace Sys2Proof.Machine

/-! PROOFS. Liveness, failover, failback and the move point (O49: R333, R335, R339–R343). -/

/-! ### What a change of one port's move leaves of the others -/

/-- Neither the mode nor an owner in force has changed. -/
structure State.OwnersStay (s t : State) : Prop where
  compat : t.compat = s.compat
  cur : ∀ q, t.curOwner q = s.curOwner q

/-- The register of a port's owner, a mismatch found in it and the cause of its move are as they were. -/
structure State.MoveStays (p : Port) (s t : State) : Prop where
  own : ∀ lo w, t.get .prs ⟨0x100 + 4 * p.val, lo, w⟩ = s.get .prs ⟨0x100 + 4 * p.val, lo, w⟩
  bad : s.ownerBad p = false → t.ownerBad p = false
  cause : t.moveCause[p] = s.moveCause[p]

section
variable {was s t : State} {p q : Port} {M : List Part} {W : List Zone}

theorem State.OwnersStay.refl (s : State) : s.OwnersStay s := ⟨rfl, fun _ => rfl⟩

theorem State.OwnersStay.trans (h : was.OwnersStay s) (ht : s.OwnersStay t) : was.OwnersStay t :=
  ⟨ht.compat.trans h.compat, fun q => (ht.cur q).trans (h.cur q)⟩

theorem State.OwnersStay.hidden (h : was.OwnersStay s) (hregs : t.regs = s.regs) : was.OwnersStay t :=
  h.trans ⟨by simp only [State.compat, State.flag, State.get, State.rd, hregs], fun q => by simp only [State.curOwner, State.get, State.rd, hregs]⟩

/-- A field of PRS beside the owners in force. -/
theorem State.OwnersStay.put (h : was.OwnersStay s) {f : Fld} (hf : f.off < 0x1000) (hb : f.lo + f.width ≤ 8 ∨ 10 ≤ f.lo ∨ f.off < 0x100)
    (v : Nat) : was.OwnersStay (s.put .prs f v) := by
  refine h.trans ⟨?_, fun q => ?_⟩
  · unfold State.compat State.flag
    rw [State.get_put_page _ _ _ _ (by decide) hf (by decide)]
  · refine State.get_put_fld _ _ _ _ _ _ hf (by simp only [F.PRS_OWNERn_CUR]; omega) ?_
    simp only [F.PRS_OWNERn_CUR]
    omega

theorem State.OwnersStay.putRw (h : was.OwnersStay s) {f : Fld} (hf : f.off < 0x1000) (hb : f.lo + f.width ≤ 8 ∨ 10 ≤ f.lo ∨ f.off < 0x100)
    (v : Nat) : was.OwnersStay (s.putRw .prs f v) := by
  obtain ⟨hc, hcur⟩ := h.put hf hb v
  refine ⟨Eq.trans ?_ hc, fun q => Eq.trans ?_ (hcur q)⟩
  · unfold State.compat State.flag
    rw [State.putRw_get]
  · exact State.putRw_get ..

theorem Zone.spared_of_not_prs (hW : W.all (fun z => z.kind != .prs) = true) {f : Fld} (hf : f.off < 0x1000) (h : f.off ≠ 0xC) :
    Zone.spared W (pageKind .prs) f = true :=
  Zone.spared_of_kind hW hf h

theorem State.OwnersStay.of_writes (hW : W.all (fun z => z.kind != .prs) = true) (hc : Zone.spared W .glb F.GLB_MODE_COMPAT = true)
    (hw : s.WritesOnly W t) (h : was.OwnersStay s) : was.OwnersStay t := by
  refine h.trans ⟨?_, fun q => ?_⟩
  · unfold State.compat State.flag
    rw [hw .glb _ hc]
  · obtain ⟨hlt, hne⟩ := curOwner_off_lt q
    exact hw .prs _ (Zone.spared_of_kind hW hlt hne)

theorem State.MoveStays.refl (s : State) : s.MoveStays p s := ⟨fun _ _ => rfl, id, rfl⟩

theorem State.MoveStays.trans (h : was.MoveStays p s) (ht : s.MoveStays p t) : was.MoveStays p t :=
  ⟨fun lo w => (ht.own lo w).trans (h.own lo w), fun hb => ht.bad (h.bad hb), ht.cause.trans h.cause⟩

/-- Changes beside PRS, the list of mismatches and the causes. -/
theorem State.MoveStays.of_writes (h : was.MoveStays p s) (hW : W.all (fun z => z.kind != .prs) = true) (hw : s.WritesOnly W t)
    (hk : s.KeepsBut M t) (hb : .bad ∉ M) (hm : .moveCause ∉ M) : was.MoveStays p t := by
  refine h.trans ⟨fun lo w => hw .prs _ (Zone.spared_of_kind hW (by dsimp only; omega) (by dsimp only; omega)), fun hbad => ?_, ?_⟩
  · unfold State.ownerBad at hbad ⊢
    rw [State.badFound_eq_any] at hbad ⊢
    rw [show t.bad = s.bad from hk.same .bad rfl hb, hbad]
  · exact congrArg (fun v => v[p]) (hk.same .moveCause rfl hm).1

/-- Another port's register, or one below them all. -/
theorem State.MoveStays.put (h : was.MoveStays p s) {f : Fld} (hf : f.off < 0x1000) (hne : f.off ≠ 0x100 + 4 * p.val) (v : Nat) :
    was.MoveStays p (s.put .prs f v) :=
  h.trans ⟨fun _ _ => State.get_put_fld _ _ _ _ _ _ hf (by dsimp only; omega) (.inl (Ne.symm hne)), id, rfl⟩

/-- A write by hardware ends mismatches and finds none (R68). -/
theorem State.badFound_putRw {pg pg' : PageId} {off : Nat} (f : Fld) (v : Nat) (h : s.badFound pg off = false) :
    (s.putRw pg' f v).badFound pg off = false := by
  rw [State.badFound_eq_any, List.any_eq_false] at h ⊢
  unfold State.putRw State.mendParity
  split
  · exact h
  · extract_lets left
    split
    · exact fun m hm => h m (List.mem_of_mem_filter hm)
    · intro m hm
      obtain ⟨x, hx, rfl⟩ := List.mem_map.1 hm
      split
      · exact h x hx
      · exact h x hx

theorem State.MoveStays.putRw (h : was.MoveStays p s) {f : Fld} (hf : f.off < 0x1000) (hne : f.off ≠ 0x100 + 4 * p.val) (v : Nat) :
    was.MoveStays p (s.putRw .prs f v) := by
  refine h.trans ⟨fun lo w => (State.putRw_get ..).trans (State.get_put_fld _ _ _ _ _ _ hf (by dsimp only; omega) (.inl (Ne.symm hne))),
    State.badFound_putRw f v, ?_⟩
  have hk : s.KeepsBut [.bad] (s.putRw .prs f v) := .putRw (by decide) (.refl s)
  have hsame : (s.putRw .prs f v).moveCause = s.moveCause := (hk.same .moveCause rfl (by decide)).1
  rw [hsame]

theorem State.MoveStays.setMoveCause (h : was.MoveStays p s) (hne : q ≠ p) (c : Fin 5) : was.MoveStays p (s.setMoveCause q c) := by
  have hv : q.val ≠ p.val := fun e => hne (Fin.ext e)
  refine h.trans ⟨fun _ _ => rfl, id, ?_⟩
  simp [State.setMoveCause, hv]

theorem State.MoveStays.setBegun (h : was.MoveStays p s) (b : Bool) : was.MoveStays p (s.setBegun q b) := h.trans ⟨fun _ _ => rfl, id, rfl⟩

theorem ownerReg_ne (h : q ≠ p) : 0x100 + 4 * q.val ≠ 0x100 + 4 * p.val := by
  have hv : q.val ≠ p.val := fun e => h (Fin.ext e)
  omega

theorem ownerReg_lt (p : Port) : 0x100 + 4 * p.val < 0x1000 := by omega

/-! ### A cancelled move (R338) -/

/-- The presentations without a port in their batches. -/
def State.batchWithout (s : State) (p : Port) : State :=
  ([0, 1] : List Up).foldl (fun s u => s.presWith u (fun x => { x with batch := x.batch.filter (· ≠ p) })) s

theorem State.OwnersStay.moveCancel (h : was.OwnersStay s) (q : Port) : was.OwnersStay (s.moveCancel q) := by
  unfold State.moveCancel
  extract_lets s0 s1
  have h0 : was.OwnersStay s0 := by
    unfold s0
    split
    · exact h
    · exact h.putRw (ownerReg_lt q) (.inl (show 0 + 2 ≤ 8 by decide)) _
  have h1 : was.OwnersStay s1 := (h0.put (ownerReg_lt q) (.inr (.inl (Nat.le_refl 10))) 0).hidden rfl
  exact .of_writes (W := Zone.wake) (by decide) (by decide) (.batchesEnd (List.Subset.refl _) (.refl _)) (h1.hidden rfl)

theorem State.MoveStays.moveCancel (h : was.MoveStays p s) (hne : q ≠ p) : was.MoveStays p (s.moveCancel q) := by
  unfold State.moveCancel
  extract_lets s0 s1
  have h0 : was.MoveStays p s0 := by
    unfold s0
    split
    · exact h
    · exact h.putRw (ownerReg_lt q) (ownerReg_ne hne) _
  have h1 : was.MoveStays p s1 := (h0.put (ownerReg_lt q) (ownerReg_ne hne) 0).setBegun false
  have h2 : was.MoveStays p (s1.batchWithout q) := h1.trans ⟨fun _ _ => rfl, id, rfl⟩
  exact h2.of_writes (W := Zone.wake) (M := Part.allBut [.bad, .moveCause]) (by decide) (.batchesEnd (List.Subset.refl _) (.refl _))
    (.batchesEnd (by decide) (.refl _)) (by decide) (by decide)

theorem State.presBut_congr {v : Up} (h : t.pres v = s.pres v) : t.presBut v = s.presBut v := by
  unfold State.presBut
  rw [h]

theorem State.presBut_batch (s : State) (u v : Up) (g : PresSt → List Port) :
    (s.presWith u (fun x => { x with batch := g x })).presBut v = s.presBut v := by
  unfold State.presBut
  by_cases hv : v = u
  · subst hv
    rw [State.presWith_same]
  · rw [State.presWith_ne _ _ _ _ hv]

/-- A presentation but for its batch stays as a port's move is cancelled. -/
theorem State.presBut_batchEnd (s : State) (u v : Up) : (s.batchEnd u).presBut v = s.presBut v := by
  unfold State.batchEnd
  split
  · rfl
  extract_lets s1
  have h1 : s1.pres v = s.pres v := by
    have hkeep : s.KeepsBut (Part.allBut [.presSt]) s1 := by
      refine .foldl (fun t p ht => ?_) (.refl s)
      extract_lets t2
      have h2 : s.KeepsBut (Part.allBut [.presSt]) t2 := by
        unfold t2
        split
        · exact ht
        · exact .propagate (by decide) ht
      split
      · exact h2
      · exact .maskWake (by decide) h2
    exact hkeep.pres (by decide) v
  exact (State.presBut_batch ..).trans (State.presBut_congr h1)

theorem State.presBut_batchWithout (s : State) (q : Port) (v : Up) : (s.batchWithout q).presBut v = s.presBut v := by
  unfold State.batchWithout
  rw [List.foldl_cons, List.foldl_cons, List.foldl_nil]
  exact (State.presBut_batch ..).trans (State.presBut_batch ..)

theorem State.presBut_moveCancel (s : State) (q : Port) (v : Up) : (s.moveCancel q).presBut v = s.presBut v := by
  unfold State.moveCancel
  extract_lets s0 s1
  have h1 : s.KeepsBut [.bad, .moveCause] s1 := .setBegun (by decide) (.put (.ite (.refl s) (.putRw (by decide) (.refl s))))
  have hend : ((s1.batchWithout q).batchesEnd).presBut v = s.presBut v := by
    unfold State.batchesEnd
    rw [State.presBut_batchEnd, State.presBut_batchEnd, State.presBut_batchWithout, State.presBut_congr (h1.pres (by decide) v)]
  exact hend

theorem State.presBut_moveRequest (s : State) (q : Port) (x : Nat) (c : Fin 5) (v : Up) : (s.moveRequest q x c).presBut v = s.presBut v := by
  unfold State.moveRequest
  split
  · rfl
  have h0 : s.KeepsBut [.bad] (s.putRw .prs (F.PRS_OWNERn_OWNER q.val) x) := .putRw (by decide) (.refl s)
  refine Eq.trans ?_ (State.presBut_congr (h0.pres (by decide) v))
  generalize s.putRw .prs (F.PRS_OWNERn_OWNER q.val) x = t
  unfold State.moveDecide
  extract_lets dest
  split
  · split
    · rw [State.presBut_moveCancel]
      split <;> rfl
    · rfl
  · split <;> rfl

theorem State.presBut_movePorts (s : State) (u : Up) (ps : List Port) (c : Fin 5) (v : Up) : (s.movePorts u ps c).presBut v = s.presBut v := by
  unfold State.movePorts
  have hfold : ∀ (l : List Port) (t : State), (l.foldl (fun s p => s.moveRequest p (u.val + 1) c) t).presBut v = t.presBut v := by
    intro l
    induction l with
    | nil => exact fun _ => rfl
    | cons p l ih => exact fun t => (ih _).trans (t.presBut_moveRequest ..)
  refine Eq.trans ?_ (hfold ps s)
  generalize ps.foldl (fun s p => s.moveRequest p (u.val + 1) c) s = t
  exact State.presBut_batch ..

end

end Sys2Proof.Machine

namespace Sys2Proof.Machine

/-! ### Moves asked (R332, R338) -/

/-- A move of the port to an owner is pending, with its cause. -/
structure State.Asked (s : State) (p : Port) (v : Nat) (c : Fin 5) : Prop where
  moving : s.moving p = true
  owner : s.get .prs (F.PRS_OWNERn_OWNER p.val) = v
  cause : s.moveCause[p] = c

/-- A port that a move to owner `v` would move: native mode, no mismatch, another owner in force. -/
structure State.Movable (s : State) (p : Port) (v : Nat) : Prop where
  native : s.compat = false
  sound : s.ownerBad p = false
  other : s.curOwner p ≠ v

section
variable {was s t : State} {p q : Port} {v : Nat} {c : Fin 5}

theorem State.MoveStays.moving (h : s.MoveStays p t) : t.moving p = s.moving p := by
  unfold State.moving State.flag
  rw [show t.get .prs (F.PRS_OWNERn_MOVING p.val) = s.get .prs (F.PRS_OWNERn_MOVING p.val) from h.own 10 1]

theorem State.Asked.stays (h : s.Asked p v c) (ht : s.MoveStays p t) : t.Asked p v c :=
  ⟨ht.moving.trans h.moving, (ht.own 0 2).trans h.owner, ht.cause.trans h.cause⟩

theorem State.Movable.stays (h : s.Movable p v) (ho : s.OwnersStay t) (hb : s.ownerBad p = false → t.ownerBad p = false) : t.Movable p v :=
  ⟨ho.compat.trans h.native, hb h.sound, fun e => h.other ((ho.cur p).symm.trans e)⟩

theorem State.ownerDest_native (h : s.compat = false) : s.ownerDest p = s.get .prs (F.PRS_OWNERn_OWNER p.val) := by
  unfold State.ownerDest
  rw [h]
  rfl

theorem State.MoveStays.presWith (h : was.MoveStays p s) {u : Up} {f : PresSt → PresSt} : was.MoveStays p (s.presWith u f) :=
  h.trans ⟨fun _ _ => rfl, id, rfl⟩

theorem State.OwnersStay.presWith (h : was.OwnersStay s) {u : Up} {f : PresSt → PresSt} : was.OwnersStay (s.presWith u f) := h.hidden rfl

theorem State.OwnersStay.moveDecide (h : was.OwnersStay s) (q : Port) (c : Fin 5) : was.OwnersStay (s.moveDecide q c) := by
  unfold State.moveDecide
  extract_lets dest
  split
  · split
    · refine State.OwnersStay.moveCancel ?_ q
      split
      · exact h.put (ownerReg_lt q) (.inr (.inl (show 10 ≤ 11 by decide))) 0
      · exact h
    · exact h.hidden rfl
  · split
    · exact h
    · exact ((h.hidden rfl : was.OwnersStay (s.setMoveCause q c)).put (ownerReg_lt q) (.inr (.inl (Nat.le_refl 10))) 1).hidden rfl

theorem State.OwnersStay.moveRequest (h : was.OwnersStay s) (q : Port) (v : Nat) (c : Fin 5) : was.OwnersStay (s.moveRequest q v c) := by
  unfold State.moveRequest
  split
  · exact h
  · exact (h.putRw (ownerReg_lt q) (.inl (show 0 + 2 ≤ 8 by decide)) v).moveDecide q c

theorem State.MoveStays.moveDecide (h : was.MoveStays p s) (hne : q ≠ p) (c : Fin 5) : was.MoveStays p (s.moveDecide q c) := by
  unfold State.moveDecide
  extract_lets dest
  split
  · split
    · refine State.MoveStays.moveCancel ?_ hne
      split
      · exact h.put (ownerReg_lt q) (ownerReg_ne hne) 0
      · exact h
    · exact h.setMoveCause hne c
  · split
    · exact h
    · exact ((h.setMoveCause hne c).put (ownerReg_lt q) (ownerReg_ne hne) 1).setBegun _

theorem State.MoveStays.moveRequest (h : was.MoveStays p s) (hne : q ≠ p) (v : Nat) (c : Fin 5) : was.MoveStays p (s.moveRequest q v c) := by
  unfold State.moveRequest
  split
  · exact h
  · exact (h.putRw (ownerReg_lt q) (ownerReg_ne hne) v).moveDecide hne c

theorem State.moveDecide_asks (h : s.ownerDest p ≠ s.curOwner p) (c : Fin 5) : s.moveDecide p c = if s.moving p then s.setMoveCause p c
    else ((s.setMoveCause p c).put .prs (F.PRS_OWNERn_MOVING p.val) 1).setBegun p (s.pageOn .prs) := by
  unfold State.moveDecide
  extract_lets dest
  rw [if_neg h, if_neg h]

theorem State.setMoveCause_asked (hm : s.moving p = true) (ho : s.get .prs (F.PRS_OWNERn_OWNER p.val) = v) : (s.setMoveCause p c).Asked p v c :=
  ⟨hm, ho, by simp [State.setMoveCause]⟩

theorem State.moving_put (s : State) (p : Port) : (s.put .prs (F.PRS_OWNERn_MOVING p.val) 1).moving p = true := by
  unfold State.moving State.flag
  rw [State.get_put_fits _ _ _ _ (show 10 + 1 ≤ 32 by decide) (show 1 < 2 ^ 1 by decide)]
  rfl

theorem State.begun_asked (ho : s.get .prs (F.PRS_OWNERn_OWNER p.val) = v) (b : Bool) :
    (((s.setMoveCause p c).put .prs (F.PRS_OWNERn_MOVING p.val) 1).setBegun p b).Asked p v c := by
  have hput : ((s.setMoveCause p c).put .prs (F.PRS_OWNERn_MOVING p.val) 1).Asked p v c :=
    ⟨State.moving_put .., (State.get_put_bits _ _ _ _ _ (.inr (show 0 + 2 ≤ 10 by decide))).trans ho, by simp [State.setMoveCause]⟩
  exact hput.stays ((State.MoveStays.refl _).setBegun b)

/-- A move to another owner that is asked is pending. -/
theorem State.Movable.asked (h : s.Movable p v) (hv : v < 4) (c : Fin 5) :
    (s.moveRequest p v c).Asked p v c ∧ (s.moveRequest p v c).ownerBad p = false := by
  obtain ⟨hnat, hbad, hcur⟩ := h
  let t := s.putRw .prs (F.PRS_OWNERn_OWNER p.val) v
  have hstay : s.OwnersStay t := (State.OwnersStay.refl s).putRw (ownerReg_lt p) (.inl (show 0 + 2 ≤ 8 by decide)) v
  have hown : t.get .prs (F.PRS_OWNERn_OWNER p.val) = v :=
    (State.putRw_get ..).trans (State.get_put_fits _ _ _ _ (show 0 + 2 ≤ 32 by decide) hv)
  have hdest : t.ownerDest p ≠ t.curOwner p := by
    rw [State.ownerDest_native (hstay.compat.trans hnat), hown, hstay.cur p]
    exact Ne.symm hcur
  have htbad : t.ownerBad p = false := State.badFound_putRw _ _ hbad
  have hreq : s.moveRequest p v c = t.moveDecide p c := by
    unfold State.moveRequest
    rw [if_neg (by simp [hbad])]
  rw [hreq, State.moveDecide_asks hdest]
  split
  next hm => exact ⟨State.setMoveCause_asked hm hown, htbad⟩
  · exact ⟨State.begun_asked hown _, htbad⟩

theorem State.Movable.moveRequest (h : s.Movable p v) (hv : v < 4) (q : Port) (c : Fin 5) : (s.moveRequest q v c).Movable p v := by
  refine h.stays ((State.OwnersStay.refl s).moveRequest q v c) fun hbad => ?_
  by_cases hq : q = p
  · subst hq
    exact (h.asked hv c).2
  · exact ((State.MoveStays.refl s).moveRequest hq v c).bad hbad

theorem State.Asked.moveRequest (h : s.Asked p v c) (hm : s.Movable p v) (hv : v < 4) (q : Port) : (s.moveRequest q v c).Asked p v c := by
  by_cases hq : q = p
  · subst hq
    exact (hm.asked hv c).1
  · exact h.stays ((State.MoveStays.refl s).moveRequest hq v c)

/-- Of the ports asked to move each that can be moved has its move pending. -/
theorem State.Movable.asked_of_mem {ps : List Port} (hp : p ∈ ps) (h : s.Movable p v) (hv : v < 4) (c : Fin 5) :
    (ps.foldl (fun s q => s.moveRequest q v c) s).Asked p v c := by
  have hkeep : ∀ (l : List Port) (t : State), t.Movable p v → t.Asked p v c → (l.foldl (fun s q => s.moveRequest q v c) t).Asked p v c := by
    intro l
    induction l with
    | nil => exact fun _ _ ha => ha
    | cons q l ih => exact fun t hm ha => ih _ (hm.moveRequest hv q c) (ha.moveRequest hm hv q)
  induction ps generalizing s with
  | nil => cases hp
  | cons q l ih =>
    rcases List.mem_cons.1 hp with rfl | hl
    · exact hkeep l _ (h.moveRequest hv p c) (h.asked hv c).1
    · exact ih hl (h.moveRequest hv q c)

theorem State.Movable.movePorts {ps : List Port} {u : Up} (hp : p ∈ ps) (h : s.Movable p (u.val + 1)) (c : Fin 5) :
    (s.movePorts u ps c).Asked p (u.val + 1) c := by
  unfold State.movePorts State.batchAdd
  exact (h.asked_of_mem hp (by omega) c).stays (State.MoveStays.refl _).presWith

/-! ### A failover decided (R340, R341) -/

theorem State.MoveStays.raisePres (h : was.MoveStays p s) {pg : PageId} {u : Up} {e : Ev} {src d : Nat} {b : Bool} :
    was.MoveStays p (s.raisePres pg u e src d b) :=
  h.of_writes (W := []) (M := [.fifos]) rfl (.raiseWith (.refl s)) (.raiseWith (by decide) (.refl s)) (by decide) (by decide)

theorem State.OwnersStay.raisePres (h : was.OwnersStay s) {pg : PageId} {u : Up} {e : Ev} {src d : Nat} {b : Bool} :
    was.OwnersStay (s.raisePres pg u e src d b) :=
  .of_writes (W := []) rfl rfl (.raiseWith (.refl s)) h

/-- The failback move of a port to a presentation cancelled, if it has one. -/
def State.cancelOne (u : Up) (s : State) (p : Port) : State :=
  if s.moving p && s.moveCause[p] == 2 && s.ownerDest p == u.val + 1 then s.moveCancel p else s

theorem State.OwnersStay.cancelOne (h : was.OwnersStay s) (u : Up) (q : Port) : was.OwnersStay (s.cancelOne u q) := by
  unfold State.cancelOne
  split
  · exact h.moveCancel q
  · exact h

theorem State.MoveStays.cancelOne (h : was.MoveStays p s) (hm : s.moving p = false) (u : Up) (q : Port) : was.MoveStays p (s.cancelOne u q) := by
  unfold State.cancelOne
  split
  next hq =>
    refine h.moveCancel ?_
    rintro rfl
    simp [hm] at hq
  · exact h

/-- A port without a move keeps its register as failback moves are cancelled (R343). -/
theorem State.failbackCancel_stays (u : Up) (h : s.moving p = false) :
    s.MoveStays p (s.failbackCancel u) ∧ s.OwnersStay (s.failbackCancel u) := by
  suffices hfold : ∀ (l : List Port) (t : State), s.MoveStays p t → s.OwnersStay t →
      s.MoveStays p (l.foldl (State.cancelOne u) t) ∧ s.OwnersStay (l.foldl (State.cancelOne u) t) from
    hfold allPorts s (.refl s) (.refl s)
  intro l
  induction l with
  | nil => exact fun t ht ho => ⟨ht, ho⟩
  | cons q l ih => exact fun t ht ho => ih _ (ht.cancelOne (ht.moving.trans h) u q) (ho.cancelOne u q)

/-- The state in which a failover is decided: counted the first time, with the failback to the lost presentation cancelled. -/
def State.foBegun (s : State) (u : Up) (first : Bool) : State :=
  if first then ((s.count .prs F.PRS_CNT_FAILOVERS).presWith u (fun x => { x with fbMet := false })).failbackCancel u else s

theorem State.foBegun_stays (u : Up) (first : Bool) (h : s.moving p = false) :
    s.MoveStays p (s.foBegun u first) ∧ s.OwnersStay (s.foBegun u first) := by
  unfold State.foBegun
  split
  · have hm : s.MoveStays p ((s.count .prs F.PRS_CNT_FAILOVERS).presWith u (fun x => { x with fbMet := false })) :=
      ((State.MoveStays.refl s).put (by decide) (show 0x5C ≠ 0x100 + 4 * p.val by omega) _).presWith
    have ho : s.OwnersStay ((s.count .prs F.PRS_CNT_FAILOVERS).presWith u (fun x => { x with fbMet := false })) :=
      ((State.OwnersStay.refl s).put (by decide) (.inr (.inr (by decide))) _).presWith
    obtain ⟨hm', ho'⟩ := State.failbackCancel_stays u (hm.moving.trans h)
    exact ⟨hm.trans hm', ho.trans ho'⟩
  · exact ⟨.refl s, .refl s⟩

/-- The ports that a failover of presentation `u` moves. -/
def State.foPorts (s : State) (u : Up) : List Port :=
  allPorts.filter (fun p => s.curOwner p == u.val + 1 && s.cfgFlag .prs (F.PRS_OWNERn_FO_EN p.val) && !s.ownerBad p)

theorem State.foDecide_target {u : Up} {k : Fin 4} {first : Bool} (ha : s.presAttached (otherUp u) = true) (hl : s.isLive (otherUp u) = true) :
    s.foDecide u k first = (((s.foBegun u first).raisePres .prs u evFailover u.val (k.val + 8 * (s.foPorts u).length)).presWith u
      (fun x => { x with foPending := 0 })).movePorts (otherUp u) (s.foPorts u) 1 :=
  if_pos (by simp [ha, hl])

theorem State.foDecide_none {u : Up} {k : Fin 4} {first : Bool} (hl : s.isLive (otherUp u) = false) : s.foDecide u k first =
    ((s.foBegun u first).raisePres .prs u evFailover u.val (k.val + 1024)).presWith u (fun x => { x with foPending := k }) :=
  if_neg (by simp [hl])

theorem otherUp_ne (u : Up) : otherUp u ≠ u := by
  revert u
  decide

theorem otherUp_val_ne (u : Up) : u.val + 1 ≠ (otherUp u).val + 1 := by
  revert u
  decide

theorem otherUp_otherUp (u : Up) : otherUp (otherUp u) = u := by
  revert u
  decide

/-- A failover with a target asks for the move of each port that it takes with it. -/
theorem State.foDecide_asked {u : Up} {k : Fin 4} {first : Bool} (ha : s.presAttached (otherUp u) = true) (hl : s.isLive (otherUp u) = true)
    (hn : s.compat = false) (hcur : s.curOwner p = u.val + 1) (hfo : s.cfgFlag .prs (F.PRS_OWNERn_FO_EN p.val) = true)
    (hbad : s.ownerBad p = false) (hm : s.moving p = false) : (s.foDecide u k first).Asked p ((otherUp u).val + 1) 1 := by
  rw [State.foDecide_target ha hl]
  obtain ⟨hstay, hown⟩ := State.foBegun_stays u first hm
  have hmov : s.Movable p ((otherUp u).val + 1) := ⟨hn, hbad, by rw [hcur]; exact otherUp_val_ne u⟩
  refine (hmov.stays hown.raisePres.presWith hstay.raisePres.presWith.bad).movePorts ?_ 1
  exact List.mem_filter.2 ⟨List.mem_finRange p, by simp [hcur, hfo, hbad]⟩

end

end Sys2Proof.Machine

namespace Sys2Proof.Machine

/-! ### Liveness (R339) -/

/-- What a decided failover leaves of a presentation's liveness. -/
def PresSt.life (x : PresSt) : Bool × Bool × Bool × Bool := (x.sofLive, x.tsLive, x.suspEnded, x.live)

section
variable {s t : State} {u v : Up} {p : Port}

theorem State.life_of_presBut (h : t.presBut v = s.presBut v) : (t.pres v).life = (s.pres v).life :=
  (congrArg PresSt.life h : _)

theorem State.life_presWith (s : State) (u v : Up) {f : PresSt → PresSt} (hf : ∀ x, (f x).life = x.life) :
    ((s.presWith u f).pres v).life = (s.pres v).life := by
  by_cases hv : v = u
  · subst hv
    rw [State.presWith_same, hf]
  · rw [State.presWith_ne _ _ _ _ hv]

theorem State.life_failbackCancel (s : State) (u v : Up) : ((s.failbackCancel u).pres v).life = (s.pres v).life := by
  suffices hfold : ∀ (l : List Port) (t : State), ((l.foldl (State.cancelOne u) t).pres v).life = (t.pres v).life from hfold allPorts s
  intro l
  induction l with
  | nil => exact fun _ => rfl
  | cons q l ih =>
    intro t
    refine (ih _).trans ?_
    unfold State.cancelOne
    split
    · exact State.life_of_presBut (t.presBut_moveCancel q v)
    · rfl

theorem State.life_foBegun (s : State) (u v : Up) (first : Bool) : ((s.foBegun u first).pres v).life = (s.pres v).life := by
  unfold State.foBegun
  split
  · rw [State.life_failbackCancel, State.life_presWith _ _ _ (by exact fun _ => rfl)]
    rfl
  · rfl

theorem State.life_foDecide (s : State) (u v : Up) (k : Fin 4) (first : Bool) : ((s.foDecide u k first).pres v).life = (s.pres v).life := by
  have hraise (d : Nat) : (((s.foBegun u first).raisePres .prs u evFailover u.val d).pres v).life = (s.pres v).life := by
    unfold State.raisePres
    rw [State.pres_raiseWith, State.life_foBegun]
  change ((if s.presAttached (otherUp u) && s.isLive (otherUp u) then
    (((s.foBegun u first).raisePres .prs u evFailover u.val (k.val + 8 * (s.foPorts u).length)).presWith u
      (fun x => { x with foPending := 0 })).movePorts (otherUp u) (s.foPorts u) 1
    else ((s.foBegun u first).raisePres .prs u evFailover u.val (k.val + 1024)).presWith u (fun x => { x with foPending := k })).pres v).life = _
  split
  · rw [State.life_of_presBut (State.presBut_movePorts ..), State.life_presWith _ _ _ (by exact fun _ => rfl), hraise]
  · rw [State.life_presWith _ _ _ (by exact fun _ => rfl), hraise]

theorem State.life_failover (s : State) (u v : Up) (k : Fin 4) (first : Bool) : ((s.failover u k first).pres v).life = (s.pres v).life := by
  unfold State.failover
  split
  · rfl
  split
  · exact s.life_foDecide u v k first
  · exact State.life_presWith _ _ _ (by exact fun _ => rfl)

/-- A presentation that shows no sign of life is not live, and its other signs stay. -/
theorem State.liveCheck_life (k : Fin 4) (h : s.isLive u = false) : ((s.liveCheck u k).pres u).life =
    ((s.pres u).sofLive, (s.pres u).tsLive, (s.pres u).suspEnded, false) := by
  unfold State.liveCheck
  by_cases hl : (s.pres u).live = true
  · rw [if_pos (by simp [hl, h]), State.life_failover, State.presWith_same]
    rfl
  · rw [if_neg (by simp [hl])]
    have hoff : (s.pres u).live = false := by simpa using hl
    unfold PresSt.life
    rw [hoff]

theorem State.liveCheck_lost (k : Fin 4) (hl : (s.pres u).live = true) (h : s.isLive u = false) (hf : s.foRuns = true) :
    s.liveCheck u k = (s.presWith u (fun x => { x with live := false })).foDecide u k true := by
  have hc : s.compat = false := by
    unfold State.foRuns at hf
    simp at hf
    exact hf.2
  unfold State.liveCheck State.failover
  rw [if_pos (by simp [hl, h])]
  refine (if_neg ?_).trans (if_pos hf)
  change ¬ s.compat = true
  simp [hc]

theorem State.native_of_foRuns (hf : s.foRuns = true) : s.compat = false := by
  unfold State.foRuns at hf
  simp at hf
  exact hf.2

theorem State.isLive_presWith_ne {f : PresSt → PresSt} (h : v ≠ u) : (s.presWith u f).isLive v = s.isLive v := by
  unfold State.isLive State.framesLive State.suspLive
  rw [State.presWith_ne _ _ _ _ h]
  rfl

/-- Whether a presentation is live depends on its restart and its signs of life alone. -/
theorem State.isLive_presWith {f : PresSt → PresSt} (hr : (f (s.pres u)).restart = (s.pres u).restart)
    (hsof : (f (s.pres u)).sofLive = (s.pres u).sofLive) (hts : (f (s.pres u)).tsLive = (s.pres u).tsLive)
    (hsusp : (f (s.pres u)).suspEnded = (s.pres u).suspEnded) : (s.presWith u f).isLive u = s.isLive u := by
  unfold State.isLive State.framesLive State.suspLive
  rw [State.presWith_same, hr, hsof, hts, hsusp]
  rfl

/-- FO_TIME has passed without a frame. -/
def State.framesLost (s : State) (u : Up) : State := s.presWith u (fun x => { x with sofLive := false, tsLive := false, fbMet := false })

theorem State.isLive_framesLost (hr : (s.pres u).restart = 0) (hs : s.suspLive u = false) : (s.framesLost u).isLive u = false := by
  have hframes : (s.framesLost u).framesLive u = false := by
    unfold State.framesLive State.framesLost
    rw [State.presWith_same]
    exact Bool.and_false _
  have hsusp : (s.framesLost u).suspLive u = s.suspLive u := by
    unfold State.suspLive State.framesLost
    rw [State.presWith_same]
    rfl
  have hrestart : ((s.framesLost u).pres u).restart = 0 := by
    unfold State.framesLost
    rw [State.presWith_same, hr]
  unfold State.isLive
  rw [hframes, hsusp, hs, hrestart]
  exact Bool.and_false _

/-- `FO_SUSP_LIMIT` has passed. -/
def State.suspOver (s : State) (u : Up) : State := s.presWith u (fun x => { x with suspEnded := true })

theorem State.isLive_suspOver (hr : (s.pres u).restart = 0) (hf : s.framesLive u = false) (hl : s.cfg .prs F.PRS_FO_CFG_FO_SUSP_LIMIT ≠ 0) :
    (s.suspOver u).isLive u = false := by
  have hframes : (s.suspOver u).framesLive u = false := by
    unfold State.framesLive State.suspOver at *
    rw [State.presWith_same]
    exact hf
  have hlimit : ((s.suspOver u).cfg .prs F.PRS_FO_CFG_FO_SUSP_LIMIT != 0) = true := bne_iff_ne.2 hl
  have hsusp : (s.suspOver u).suspLive u = false := by
    unfold State.suspLive
    rw [hlimit]
    unfold State.suspOver
    rw [State.presWith_same]
    exact Bool.and_false _
  have hrestart : ((s.suspOver u).pres u).restart = 0 := by
    unfold State.suspOver
    rw [State.presWith_same, hr]
  unfold State.isLive
  rw [hframes, hsusp, hrestart]
  exact Bool.and_false _

theorem State.foPending_foDecide_none {k : Fin 4} {first : Bool} (h : s.isLive (otherUp u) = false) :
    ((s.foDecide u k first).pres u).foPending = k := by
  rw [State.foDecide_none h, State.presWith_same]

theorem State.foPending_foDecide_target {k : Fin 4} {first : Bool} (ha : s.presAttached (otherUp u) = true) (hl : s.isLive (otherUp u) = true) :
    ((s.foDecide u k first).pres u).foPending = 0 := by
  rw [State.foDecide_target ha hl]
  refine (congrArg PresSt.foPending (State.presBut_movePorts ..) : _).trans ?_
  unfold State.presBut
  rw [State.presWith_same]

/-! ### Failback (R343) -/

theorem State.fbDecide_off (h : s.fbMode = 0) : s.fbDecide u = s := if_pos (.inl h)

/-- The ports that a failback of mode 1 returns. -/
def State.fbPorts (s : State) (u : Up) : List Port :=
  allPorts.filter (fun p => s.failedTo u p && !s.moving p && (s.fbMode == 1 || s.portIdle p))

theorem State.fbDecide_asked (hm : s.fbMode = 1) (hf : s.foRuns = true) (hmet : (s.pres u).fbMet = true) (hp : s.failedTo u p = true)
    (hstill : s.moving p = false) : (s.fbDecide u).Asked p (u.val + 1) 2 := by
  have hmem : p ∈ s.fbPorts u := List.mem_filter.2 ⟨List.mem_finRange p, by simp [hp, hstill, hm]⟩
  have heq : s.fbDecide u = ((s.count .prs F.PRS_CNT_FAILBACKS).raisePres .prs u evFailback u.val ((s.fbPorts u).length + 256 * s.fbMode)).movePorts
      u (s.fbPorts u) 2 :=
    (if_neg (by simp [hm, hf, hmet])).trans (if_neg (List.ne_nil_of_mem hmem))
  have hm' : s.MoveStays p (s.count .prs F.PRS_CNT_FAILBACKS) := (State.MoveStays.refl s).put (by decide) (show 0x5C ≠ 0x100 + 4 * p.val by omega) _
  have ho : s.OwnersStay (s.count .prs F.PRS_CNT_FAILBACKS) := (State.OwnersStay.refl s).put (by decide) (.inr (.inr (by decide))) _
  have hmov : s.Movable p (u.val + 1) := by
    unfold State.failedTo at hp
    simp at hp
    exact ⟨State.native_of_foRuns hf, hp.1.2, hp.2⟩
  rw [heq]
  exact (hmov.stays ho.raisePres hm'.raisePres.bad).movePorts hmem 2

end

/-! ### The move point (R333) -/

/-- What the steps of a move point write beside the owner's register. -/
def Zone.movePoint : List Zone :=
  Zone.job ++ Zone.capture ++ Zone.wake ++ Zone.usb ++ Zone.usbEval ++ Zone.leaving ++ [.field .tcp F.TCP_CC_CNT_RECOVERIES]

section
variable {s : State} {p : Port}

open State (WritesOnly)

theorem State.ttDrop_movePoint {t : State} (h : s.WritesIn Zone.movePoint t) : s.WritesIn Zone.movePoint (t.ttDrop p) := .ttDrop (by decide) h

theorem State.ssMoveOut_writes (s : State) (f : Full) : s.WritesIn Zone.movePoint (s.ssMoveOut f) := by
  unfold State.ssMoveOut
  extract_lets x s1 s2
  have hput {t : State} {n : Nat} (ht : s.WritesIn Zone.movePoint t) : s.WritesIn Zone.movePoint (t.ssDiscard f n) :=
    .put (List.Subset.refl _) rfl ht
  have h1 : s.WritesIn Zone.movePoint s1 := .sspWith (hput (.refl s))
  have h2 : s.WritesIn Zone.movePoint s2 := by
    unfold s2
    split
    · exact h1
    next c =>
      unfold State.ssMoveUp
      exact .sspWith (hput (.upLkWith h1))
  exact .ite (.ssDetect_bits (by decide) h2) h2

theorem State.moveOut_writes (s : State) (p : Port) : s.WritesIn Zone.movePoint (s.moveOut p) := by
  unfold State.moveOut
  extract_lets st s1 s2
  have h1 : s.WritesIn Zone.movePoint s1 := by
    unfold s1
    split
    · exact .refl s
    · exact .u2pWith (.refl s)
  have hdis : s.WritesIn Zone.movePoint (s1.u2Disable p) := .put (List.Subset.refl _) rfl (.put (List.Subset.refl _) rfl (.u2pWith h1))
  have h2 : s.WritesIn Zone.movePoint s2 :=
    .ite (.u2Gone_bits (by decide) h1) (.ite (State.ttDrop_movePoint hdis) (State.ttDrop_movePoint h1))
  split
  · exact h2
  · exact h2.trans (State.ssMoveOut_writes ..)

theorem State.toRecovery_writes (s : State) (p : Port) : s.WritesIn Zone.movePoint (s.toRecovery p) := by
  have hput {t : State} {g v} (hg : Zone.movePoint.any (·.covers .tcp g) = true) (ht : s.WritesIn Zone.movePoint t) :
      s.WritesIn Zone.movePoint (t.put (.tcp p) g v) := .put (List.Subset.refl _) hg ht
  unfold State.toRecovery State.ccEnd
  extract_lets pg t s1 s2 s3 s4 s5 s6
  have h1 : s.WritesIn Zone.movePoint s1 := .vbsOpen (by decide) (.vconnOff (by decide) (.muxEnd (by decide) (.refl s)))
  have h2 : s.WritesIn Zone.movePoint s2 := .ite (.raisePort h1) h1
  have h3 : s.WritesIn Zone.movePoint s3 := .ite (.grvWith (.raisePort h2)) h2
  have h5 : s.WritesIn Zone.movePoint s5 := hput rfl (hput rfl (hput rfl (.tcpWith (.pdDetach (by decide) h3))))
  have h6 : s.WritesIn Zone.movePoint s6 := .laneMux (by decide) (.ssForget (by decide) (hput rfl (hput rfl h5)))
  exact .count (List.Subset.refl _) rfl (.usbEval (by decide) (.rpApply (by decide) h6))

theorem State.WritesIn.ssHubWith {W : List Zone} {was s : State} {sc : SsCtx} {f : SsCtxSt → SsCtxSt} (h : was.WritesIn W s) :
    was.WritesIn W (s.ssHubWith sc f) := .hidden h rfl id

theorem State.movePower_writes (s : State) (p : Port) (b : Bool) : s.WritesIn Zone.movePoint (s.movePower p b) := by
  unfold State.movePower
  split
  · exact .refl s
  · extract_lets s1
    have h1 : s.WritesIn Zone.movePoint s1 := .setPowerBit (by decide) (.refl s)
    split
    · exact h1
    · exact .ite h1 (.ssHubWith h1)

theorem State.moveShow_writes (s : State) (p : Port) : s.WritesIn Zone.movePoint (s.moveShow p) := by
  unfold State.moveShow
  split
  · exact .refl s
  · extract_lets s1
    have h1 : s.WritesIn Zone.movePoint s1 := .ite (.addChg (.refl s)) (.refl s)
    split
    · exact h1
    · exact .ite (.addSsChg h1) h1

theorem State.ssEvalAs_writes (s : State) (f : Full) (c : Nat) : s.WritesIn Zone.movePoint (s.ssEvalAs f c) :=
  .ite (.ite (.ssDetect_bits (by decide) (.refl s)) (.refl s)) (.ite (.refl s) (.ssLeave_bits (by decide) (.refl s)))

end

end Sys2Proof.Machine

namespace Sys2Proof.Machine

/-! ### The move point and what it records (R333) -/

section
variable {s t : State} {p : Port}

theorem State.WritesOnly.of_prs {W : List Zone} (h : s.WritesOnly W t) (hW : W.all (fun z => z.kind != .prs) = true) {f : Fld}
    (hf : f.off < 0x1000) (hne : f.off ≠ 0xC) : t.get .prs f = s.get .prs f :=
  h .prs f (Zone.spared_of_kind hW hf hne)

theorem Zone.movePoint_offPrs : Zone.movePoint.all (fun z => z.kind != .prs) = true := by decide

/-- A port's move as its point records it: the owner in force, the end of the move, and the failover that it was. -/
structure State.Moved (t : State) (p : Port) (dest moves : Nat) (cause : Fin 5) : Prop where
  owner : t.curOwner p = dest
  still : t.moving p = false
  failed : t.get .prs (F.PRS_OWNERn_FAILED_OVER p.val) = bit (cause == 1)
  moves : t.get .prs F.PRS_CNT_MOVES = moves

theorem State.ownerDest_lt (s : State) (p : Port) : s.ownerDest p < 4 := by
  unfold State.ownerDest
  have hlt : s.get .prs (F.PRS_OWNERn_OWNER p.val) < 4 := fldGet_lt ..
  extract_lets o
  split
  · split
    · omega
    · omega
  · exact hlt

theorem State.get_setBegun (s : State) (p : Port) (b : Bool) (pg : PageId) (g : Fld) : (s.setBegun p b).get pg g = s.get pg g := (rfl)

/-- The owner of a port with its move ended. -/
def State.moveEnded (s : State) (p : Port) (dest : Nat) : State :=
  ((s.put .prs (F.PRS_OWNERn_CUR p.val) dest).put .prs (F.PRS_OWNERn_MOVING p.val) 0).setBegun p false

theorem State.get_moveEnded (s : State) (p : Port) (dest : Nat) {g : Fld} (hne : g.off ≠ 0x100 + 4 * p.val) :
    (s.moveEnded p dest).get .prs g = s.get .prs g :=
  (State.get_setBegun ..).trans ((State.get_put_off _ _ _ _ _ hne).trans (State.get_put_off _ _ _ _ _ hne))

theorem State.curOwner_moveEnded (s : State) (p : Port) {dest : Nat} (hd : dest < 4) : (s.moveEnded p dest).curOwner p = dest :=
  (State.get_setBegun ..).trans ((State.get_put_bits _ _ _ _ _ (.inr (show 8 + 2 ≤ 10 by decide))).trans
    (State.get_put_fits _ _ _ _ (show 8 + 2 ≤ 32 by decide) (show dest < 2 ^ 2 by omega)))

theorem State.get_moveEnded_MOVING (s : State) (p : Port) (dest : Nat) :
    (s.moveEnded p dest).get .prs (F.PRS_OWNERn_MOVING p.val) = 0 :=
  (State.get_setBegun ..).trans (State.get_put_fits _ _ _ _ (show 10 + 1 ≤ 32 by decide) (show 0 < 2 ^ 1 by decide))

/-- The move counted, with whether it was a failover. -/
def State.moveCounted (s : State) (p : Port) (c : Fin 5) : State :=
  (s.setFlag .prs (F.PRS_OWNERn_FAILED_OVER p.val) (c == 1)).count .prs F.PRS_CNT_MOVES

theorem moveCount_ne (p : Port) : 0x100 + 4 * p.val ≠ F.PRS_CNT_MOVES.off := show 0x100 + 4 * p.val ≠ 0x5C by omega

theorem State.get_moveCounted (s : State) (p : Port) (c : Fin 5) {lo w : Nat} (hb : 11 + 1 ≤ lo ∨ lo + w ≤ 11) :
    (s.moveCounted p c).get .prs ⟨0x100 + 4 * p.val, lo, w⟩ = s.get .prs ⟨0x100 + 4 * p.val, lo, w⟩ :=
  (State.get_put_off _ _ _ _ _ (moveCount_ne p)).trans (State.get_put_bits _ _ _ _ _ hb)

theorem State.get_moveCounted_FAILED_OVER (s : State) (p : Port) (c : Fin 5) :
    (s.moveCounted p c).get .prs (F.PRS_OWNERn_FAILED_OVER p.val) = bit (c == 1) :=
  (State.get_put_off _ _ _ _ _ (moveCount_ne p)).trans (State.get_setFlag_same _ _ _ (show 11 + 1 ≤ 32 by decide) (show 1 ≠ 0 by decide))

theorem State.get_moveCounted_MOVES (s : State) (p : Port) (c : Fin 5) : (s.moveCounted p c).get .prs F.PRS_CNT_MOVES =
    min (s.get .prs F.PRS_CNT_MOVES + 1) (2 ^ F.PRS_CNT_MOVES.width - 1) := by
  unfold State.moveCounted
  rw [State.get_count_same _ _ _ (by decide)]
  exact congrArg (fun n => min (n + 1) _) (State.get_put_off _ _ _ _ _ (Ne.symm (moveCount_ne p)))

theorem State.moveRecord_moved (s : State) (p : Port) (old : Nat) {dest : Nat} (hd : dest < 4) (re : Bool) :
    (s.moveRecord p old dest re).Moved p dest (min (s.get .prs F.PRS_CNT_MOVES + 1) (2 ^ F.PRS_CNT_MOVES.width - 1)) s.moveCause[p] := by
  have hraise {g : Fld} (hg : g.off < 0x1000) (hne : g.off ≠ 0xC) : (s.moveRecord p old dest re).get .prs g =
      ((s.moveEnded p dest).moveCounted p s.moveCause[p]).get .prs g := State.get_raiseWith_off _ _ _ _ _ _ _ _ hne hg
  have hreg : 0x100 + 4 * p.val < 0x1000 := ownerReg_lt p
  have hhead : 0x100 + 4 * p.val ≠ 0xC := by omega
  refine ⟨?_, ?_, ?_, ?_⟩
  · exact (hraise hreg hhead).trans ((State.get_moveCounted _ p _ (.inr (by decide))).trans (s.curOwner_moveEnded p hd))
  · have hget : (s.moveRecord p old dest re).get .prs (F.PRS_OWNERn_MOVING p.val) = 0 :=
      (hraise hreg hhead).trans ((State.get_moveCounted _ p _ (.inr (by decide))).trans (s.get_moveEnded_MOVING p dest))
    unfold State.moving State.flag
    rw [hget]
    rfl
  · exact (hraise hreg hhead).trans (State.get_moveCounted_FAILED_OVER ..)
  · rw [hraise (by decide) (by decide), State.get_moveCounted_MOVES, State.get_moveEnded _ _ _ (moveCount_ne p).symm]

theorem State.Moved.of_writes {dest n : Nat} {c : Fin 5} (h : s.Moved p dest n c) (hw : s.WritesOnly Zone.movePoint t) :
    t.Moved p dest n c := by
  have hreg {lo w : Nat} : t.get .prs ⟨0x100 + 4 * p.val, lo, w⟩ = s.get .prs ⟨0x100 + 4 * p.val, lo, w⟩ :=
    hw.of_prs Zone.movePoint_offPrs (ownerReg_lt p) (by dsimp only; omega)
  refine ⟨Eq.trans hreg h.owner, ?_, Eq.trans hreg h.failed, (hw.of_prs Zone.movePoint_offPrs (by decide) (by decide)).trans h.moves⟩
  have hm : t.get .prs (F.PRS_OWNERn_MOVING p.val) = s.get .prs (F.PRS_OWNERn_MOVING p.val) := hreg
  have hs := h.still
  unfold State.moving State.flag at hs ⊢
  rw [hm, hs]

/-- `FAILBACK` lies beside the owners and the counts. -/
theorem State.Moved.failbackCheck {dest n : Nat} {c : Fin 5} (h : s.Moved p dest n c) : s.failbackCheck.Moved p dest n c := by
  have hput {g : Fld} (hne : g.off ≠ 0x48) : (s.put .prs F.PRS_CTRL_FAILBACK 0).get .prs g = s.get .prs g := State.get_put_off _ _ _ _ _ hne
  have hreg : 0x100 + 4 * p.val ≠ 0x48 := by omega
  unfold State.failbackCheck
  split
  · exact h
  · have hm := hput (g := F.PRS_OWNERn_MOVING p.val) hreg
    refine ⟨Eq.trans (hput (g := F.PRS_OWNERn_CUR p.val) hreg) h.owner, ?_, Eq.trans (hput hreg) h.failed, (hput (by decide)).trans h.moves⟩
    have hs := h.still
    unfold State.moving State.flag at hs ⊢
    rw [hm, hs]

/-- The state that a move point records is the one it met in its causes and counts. -/
theorem State.movePoint_moved (s : State) (p : Port) : (s.movePoint p).Moved p (s.ownerDest p)
    (min (s.get .prs F.PRS_CNT_MOVES + 1) (2 ^ F.PRS_CNT_MOVES.width - 1)) s.moveCause[p] := by
  unfold State.movePoint
  extract_lets old dest wasTest s1 s2 re dcp s3 s4 s5 s6 s7
  let M : List Part := Part.allBut [.moveCause]
  have w1 : s.WritesOnly Zone.movePoint s1 := .ite (.grvGiven (by decide) (.refl s)) (.refl s)
  have k1 : s.KeepsBut M s1 := .ite (.grvGiven (by decide) (.refl s)) (.refl s)
  have wOut : s.WritesOnly Zone.movePoint (s1.moveOut p) := .step (List.Subset.refl _) (s1.moveOut_writes p) w1
  have k2 : s.KeepsBut M s2 := .put (.moveOut (by decide) k1)
  have c2 : s2.get .prs F.PRS_CNT_MOVES = s.get .prs F.PRS_CNT_MOVES :=
    (State.get_put_off _ _ _ _ _ (show 0x5C ≠ 0x100 + 4 * p.val by omega)).trans (wOut.of_prs Zone.movePoint_offPrs (by decide) (by decide))
  have w3 : s2.WritesOnly Zone.movePoint s3 := .ite (.step (List.Subset.refl _) (s2.toRecovery_writes p) (.refl s2)) (.refl s2)
  have k3 : s.KeepsBut M s3 := .ite (.toRecovery (by decide) k2) k2
  have wDown : s3.WritesOnly Zone.movePoint (s3.ssMoveDown p dest wasTest) := by
    unfold State.ssMoveDown
    split
    · exact .refl s3
    · exact .ite (.refl s3) (.step (by decide) (s3.ssLeave_writes _ _ _) (.refl s3))
  have kDown : s.KeepsBut M (s3.ssMoveDown p dest wasTest) := .ssMoveDown (by decide) k3
  have hcause : (s3.ssMoveDown p dest wasTest).moveCause = s.moveCause := (kDown.same .moveCause rfl (by decide)).1
  have hmoves : (s3.ssMoveDown p dest wasTest).get .prs F.PRS_CNT_MOVES = s.get .prs F.PRS_CNT_MOVES :=
    (wDown.of_prs Zone.movePoint_offPrs (by decide) (by decide)).trans ((w3.of_prs Zone.movePoint_offPrs (by decide) (by decide)).trans c2)
  have m4 := (s3.ssMoveDown p dest wasTest).moveRecord_moved p old (s.ownerDest_lt p) re
  rw [hmoves, hcause] at m4
  have w5 : s4.WritesOnly Zone.movePoint s5 :=
    .step (List.Subset.refl _) (State.moveShow_writes _ p) (.step (List.Subset.refl _) (s4.movePower_writes p wasTest) (.refl s4))
  have w6 : s4.WritesOnly Zone.movePoint s6 := .ite w5 (.step (by decide) (.u2Eval_bits (List.Subset.refl _) (.refl s5)) w5)
  have w7 : s4.WritesOnly Zone.movePoint s7 := by
    unfold s7
    split
    · exact w6
    · exact .step (List.Subset.refl _) (s6.ssEvalAs_writes _ 4) w6
  have wEnd : s4.WritesOnly Zone.movePoint (s7.grvMoved p).batchesEnd := .batchesEnd (by decide) (.grvMoved (by decide) w7)
  exact (m4.of_writes wEnd).failbackCheck

end

/-! ### The commands -/

section
variable {s : State} {u : Up} {p : Port}

theorem exec_fbDelayEnd (hc : s.compat = false) (hup : s.coreUp = true) (hf : s.framesLive u = true) (hst : (s.hub (.pres u)).st = 3) :
    exec (.fbDelayEnd u) s = .next ((s.presWith u (fun x => { x with fbMet := true })).fbDecide u) :=
  show execFbDelayEnd u s = _ from if_neg (by simp [hc, hup, hf, hst])

theorem exec_fbDelayEnd_notLive (hf : s.framesLive u = false) : exec (.fbDelayEnd u) s = .next s :=
  show execFbDelayEnd u s = _ from if_pos (by simp [hf])

theorem exec_movePoint (hup : s.coreUp = true) (hm : s.moving p = true) (hb : s.moveBegun.getLsbD p.val = true) (hbad : s.ownerBad p = false) :
    exec (.movePoint p) s = .next (s.movePoint p) :=
  show execMovePoint p s = _ from if_pos (by simp [hup, hm, hb, hbad])

theorem exec_movePoint_waits (h : s.moving p = false ∨ s.moveBegun.getLsbD p.val = false) : exec (.movePoint p) s = .next s :=
  show execMovePoint p s = _ from if_neg (by rcases h with h | h <;> simp only [h, Bool.and_false, Bool.false_and, Bool.false_eq_true, not_false_eq_true])

/-- A presentation that has come to be live (R341). -/
def State.nowLive (s : State) (u : Up) : State := s.presWith u (fun x => { x with live := true, foPending := 0, foDue := 0 })

theorem State.foPending_nowLive : ((s.nowLive u).pres (otherUp u)).foPending = (s.pres (otherUp u)).foPending := by
  unfold State.nowLive
  rw [State.presWith_ne _ _ _ _ (otherUp_ne u)]

theorem exec_presentationLive (hup : s.coreUp = true) (hl : s.isLive u = true) (hp : (s.pres (otherUp u)).foPending = 0) :
    exec (.presentationLive u) s = .next (s.nowLive u) := by
  have ht : ((s.nowLive u).pres (otherUp u)).foPending = 0 := State.foPending_nowLive.trans hp
  refine (show execPresentationLive u s = _ from if_neg (by simp [hup, hl])).trans (congrArg Host.Outcome.next (if_neg ?_))
  change ¬ (((s.nowLive u).pres (otherUp u)).foPending ≠ 0 && !(s.nowLive u).isLive (otherUp u)) = true
  simp [ht]

/-- A failover that found no target is decided again as the other presentation becomes live (R341). -/
theorem exec_presentationLive_again (hup : s.coreUp = true) (hl : s.isLive u = true) (hp : (s.pres (otherUp u)).foPending ≠ 0)
    (hdead : s.isLive (otherUp u) = false) (hf : s.foRuns = true) :
    exec (.presentationLive u) s = .next ((s.nowLive u).foDecide (otherUp u) (s.pres (otherUp u)).foPending false) := by
  have ht : ((s.nowLive u).pres (otherUp u)).foPending = (s.pres (otherUp u)).foPending := State.foPending_nowLive
  have hd : (s.nowLive u).isLive (otherUp u) = false := (State.isLive_presWith_ne (otherUp_ne u)).trans hdead
  refine (show execPresentationLive u s = _ from if_neg (by simp [hup, hl])).trans (congrArg Host.Outcome.next ?_)
  change (if (((s.nowLive u).pres (otherUp u)).foPending ≠ 0 && !(s.nowLive u).isLive (otherUp u)) = true
    then (s.nowLive u).failover (otherUp u) ((s.nowLive u).pres (otherUp u)).foPending false else s.nowLive u) = _
  rw [ht, hd, if_pos (by simp [hp])]
  have hn : (s.nowLive u).compat = false := State.native_of_foRuns hf
  exact (if_neg (by simp [hn])).trans (if_pos hf)

end

/-- Settles O49: a failover or failback asks for the move of each of its ports, and no step of it ends the asking; the move point records the
owner it sets, and what follows its record lies beside PRS. -/
theorem failoverAndFailbackMovePorts : Obligations.FailoverAndFailbackMovePorts := by
  unfold Obligations.FailoverAndFailbackMovePorts
  refine ⟨?loss, ?lossMoves, ?lossKept, ?suspLimit, fun u s hup hl hp => ⟨_, exec_presentationLive hup hl hp, rfl⟩, ?again, ?failback, ?noMode,
    fun u s hf => ⟨_, exec_fbDelayEnd_notLive hf, rfl⟩, ?point, fun p s h => ⟨_, exec_movePoint_waits (.inr h), rfl⟩,
    fun p s h => ⟨_, exec_movePoint_waits (.inl h), rfl⟩⟩
  case loss =>
    intro u s hr hs
    have hlife := State.liveCheck_life 2 (State.isLive_framesLost hr hs)
    rw [show (s.framesLost u).pres u = { s.pres u with sofLive := false, tsLive := false, fbMet := false } from State.presWith_same ..] at hlife
    simp only [PresSt.life, Prod.mk.injEq] at hlife
    exact ⟨_, rfl, hlife.1, hlife.2.1, hlife.2.2.2⟩
  case lossMoves =>
    intro u p s hlive hr hs hf ha hl hcur hfo hbad hm
    have hlive' : ((s.framesLost u).pres u).live = true := by
      unfold State.framesLost
      rw [State.presWith_same, hlive]
    have hl' : ((s.framesLost u).presWith u (fun x => { x with live := false })).isLive (otherUp u) = true :=
      (State.isLive_presWith_ne (otherUp_ne u)).trans ((State.isLive_presWith_ne (otherUp_ne u)).trans hl)
    have hasked := State.foDecide_asked (s := (s.framesLost u).presWith u (fun x => { x with live := false })) (k := 2) (first := true) ha hl'
      (State.native_of_foRuns hf) hcur hfo hbad hm
    refine ⟨_, congrArg Host.Outcome.next (State.liveCheck_lost 2 hlive' (State.isLive_framesLost hr hs) hf), ?_⟩
    exact ⟨hasked.moving, hasked.owner, hasked.cause⟩
  case lossKept =>
    intro u s hlive hr hs hf hl
    have hlive' : ((s.framesLost u).pres u).live = true := by
      unfold State.framesLost
      rw [State.presWith_same, hlive]
    refine ⟨_, congrArg Host.Outcome.next (State.liveCheck_lost 2 hlive' (State.isLive_framesLost hr hs) hf), ?_⟩
    exact State.foPending_foDecide_none ((State.isLive_presWith_ne (otherUp_ne u)).trans ((State.isLive_presWith_ne (otherUp_ne u)).trans hl))
  case suspLimit =>
    intro u s hlive hr hfr hf hl
    have hlife := State.liveCheck_life 3 (State.isLive_suspOver hr hfr hl)
    rw [show (s.suspOver u).pres u = { s.pres u with suspEnded := true } from State.presWith_same ..] at hlife
    simp only [PresSt.life, Prod.mk.injEq] at hlife
    exact ⟨_, rfl, hlife.2.2.1, hlife.2.2.2⟩
  case again =>
    intro u p s hup ha hl hp hdead hf hcur hfo hbad hm
    have hlive : (s.nowLive u).isLive (otherUp (otherUp u)) = true := by
      rw [otherUp_otherUp]
      exact (State.isLive_presWith rfl rfl rfl rfl).trans hl
    have hatt : (s.nowLive u).presAttached (otherUp (otherUp u)) = true := by
      rw [otherUp_otherUp]
      exact ha
    have hasked := State.foDecide_asked (k := (s.pres (otherUp u)).foPending) (first := false) hatt hlive (State.native_of_foRuns hf) hcur hfo hbad hm
    have hlife := (s.nowLive u).life_foDecide (otherUp u) u (s.pres (otherUp u)).foPending false
    rw [show (s.nowLive u).pres u = { s.pres u with live := true, foPending := 0, foDue := 0 } from State.presWith_same ..] at hlife
    simp only [PresSt.life, Prod.mk.injEq] at hlife
    exact ⟨_, exec_presentationLive_again hup hl hp hdead hf, hlife.2.2.2, State.foPending_foDecide_target hatt hlive, hasked.moving, hasked.cause⟩
  case failback =>
    intro u p s hup hc hf hmode hfr hst hfailed hm
    have hasked := State.fbDecide_asked (s := s.presWith u (fun x => { x with fbMet := true })) (u := u) hmode hf (by rw [State.presWith_same])
      hfailed hm
    exact ⟨_, exec_fbDelayEnd hc hup hfr hst, hasked.moving, hasked.cause, hasked.owner⟩
  case noMode =>
    intro u s hc hup hfr hst hmode
    exact ⟨_, (exec_fbDelayEnd hc hup hfr hst).trans (congrArg Host.Outcome.next (State.fbDecide_off hmode)), rfl⟩
  case point =>
    intro p s hup hm hb hbad
    obtain ⟨howner, hstill, hfailed, hmoves⟩ := s.movePoint_moved p
    exact ⟨_, exec_movePoint hup hm hb hbad, howner, hstill, hfailed, hmoves⟩

end Sys2Proof.Machine

namespace Sys2Proof.Machine

/-! PROOFS. The management function: what its shared operations leave (R350, R364, R369), and its vendor requests (O50: R353–R359). -/

/-! ### The status of the function and its endpoint memory -/

section
variable (s : State) (u : Up)

@[simp] theorem State.mgf_mgfSync (v : Up) : (s.mgfSync u).mgf v = s.mgf v :=
  (State.KeepsBut.mgfSync (M := []) (.refl s)).mgf (by decide) v

@[simp] theorem State.dram_mgfSync : (s.mgfSync u).dram = s.dram := by
  unfold State.mgfSync State.setFlag
  simp only [State.put_dram]

/-- The registers of the function beside its status stay as the status follows (R369). -/
theorem State.get_mgfSync {g : Fld} (h : g.off ≠ 0x44 + 4 * u.val) : (s.mgfSync u).get .mgf g = s.get .mgf g := by
  have hput (t : State) (lo w v : Nat) : (t.put .mgf ⟨0x44 + 4 * u.val, lo, w⟩ v).get .mgf g = t.get .mgf g := State.get_put_off _ _ _ _ _ h
  exact (hput ..).trans ((hput ..).trans ((hput ..).trans ((hput ..).trans ((hput ..).trans (hput ..)))))

/-- The bits of the status that the function's state does not give: the half (USB 2.0 or SuperSpeed) in service, the halts and the pending notice. -/
theorem State.get_mgfSync_bits {lo w : Nat} (h : (7 ≤ lo ∧ lo + w ≤ 8) ∨ (11 ≤ lo ∧ lo + w ≤ 14) ∨ (16 ≤ lo ∧ lo + w ≤ 17)) :
    (s.mgfSync u).get .mgf ⟨0x44 + 4 * u.val, lo, w⟩ = s.get .mgf ⟨0x44 + 4 * u.val, lo, w⟩ := by
  have hput (t : State) (l n v : Nat) (hb : l + n ≤ lo ∨ lo + w ≤ l) :
      (t.put .mgf ⟨0x44 + 4 * u.val, l, n⟩ v).get .mgf ⟨0x44 + 4 * u.val, lo, w⟩ = t.get .mgf ⟨0x44 + 4 * u.val, lo, w⟩ :=
    State.get_put_bits _ _ _ _ _ hb
  exact (hput _ 15 1 _ (by omega)).trans ((hput _ 14 1 _ (by omega)).trans ((hput _ 10 1 _ (by omega)).trans
    ((hput _ 17 1 _ (by omega)).trans ((hput _ 8 2 _ (by omega)).trans (hput _ 0 7 _ (by omega))))))

theorem State.epmPut_parts (off : Nat) (bs : List Byte) : (s.epmPut off bs).regs = s.regs ∧ (s.epmPut off bs).dram = s.dram ∧
    (s.epmPut off bs).mgfSt = s.mgfSt ∧ (s.epmPut off bs).answer = s.answer := by
  induction bs generalizing s off with
  | nil => exact ⟨rfl, rfl, rfl, rfl⟩
  | cons b bs ih => exact ih _ _

@[simp] theorem State.mgf_epmPut (off : Nat) (bs : List Byte) : (s.epmPut off bs).mgf u = s.mgf u := by
  unfold State.mgf
  rw [(s.epmPut_parts off bs).2.2.1]

@[simp] theorem State.dram_epmPut (off : Nat) (bs : List Byte) : (s.epmPut off bs).dram = s.dram := (s.epmPut_parts off bs).2.1

@[simp] theorem State.get_epmPut (off : Nat) (bs : List Byte) (pg : PageId) (g : Fld) : (s.epmPut off bs).get pg g = s.get pg g := by
  unfold State.get State.rd
  rw [(s.epmPut_parts off bs).1]

@[simp] theorem State.mgf_setExec (e : Option VendorExec) : (s.setExec u e).mgf u = { s.mgf u with exec := e } := by
  unfold State.setExec
  rw [State.mgf_mgfSync, State.mgf_mgfWith]

@[simp] theorem State.dram_setExec (e : Option VendorExec) : (s.setExec u e).dram = s.dram :=
  (State.dram_mgfSync ..).trans (State.mgfWith_dram ..)

theorem State.get_setExec (e : Option VendorExec) {g : Fld} (h : g.off ≠ 0x44 + 4 * u.val) : (s.setExec u e).get .mgf g = s.get .mgf g :=
  (State.get_mgfSync _ u h).trans (State.mgfWith_get ..)

theorem State.mgf_vendorBegin (breq : Byte) (addr len : Nat) (data : List Byte) : (s.vendorBegin u breq addr len data).mgf u =
    { s.mgf u with exec := some ⟨breq, s.hostGrant u, false, [], 0, addr, len, data, false, false⟩ } :=
  (State.mgf_put ..).trans (State.mgf_setExec ..)

@[simp] theorem State.mgf_countVendor : (s.countVendor u).mgf u = s.mgf u := State.mgf_put ..

theorem State.get_countVendor : (s.countVendor u).get .mgf (F.MGF_Uu_CNT_VENDOR_REQS u.val) =
    min (s.get .mgf (F.MGF_Uu_CNT_VENDOR_REQS u.val) + 1) (2 ^ (F.MGF_Uu_CNT_VENDOR_REQS u.val).width - 1) :=
  State.get_count_same _ _ _ (show 0 + 16 ≤ 32 by decide)

@[simp] theorem State.mgf_fnStall : (s.fnStall u).mgf u = s.mgf u := (State.mgf_reply ..).trans (State.mgf_put ..)

@[simp] theorem State.dram_fnStall : (s.fnStall u).dram = s.dram := (State.reply_dram ..).trans (State.put_dram ..)

theorem State.answer_fnStall : (s.fnStall u).answer = .stall := (rfl)

/-- A STALL is counted (R357). -/
theorem State.stalls_fnStall : (s.fnStall u).get .mgf (F.MGF_Uu_CNT_STALLS u.val) =
    min (s.get .mgf (F.MGF_Uu_CNT_STALLS u.val) + 1) (2 ^ (F.MGF_Uu_CNT_STALLS u.val).width - 1) :=
  (State.get_reply ..).trans (State.get_count_same _ _ _ (show 16 + 8 ≤ 32 by decide))

theorem State.answer_epBusy (fi : FnInst) (ep : Fin 4) : (s.epBusy fi ep).answer = if fi.ss then .nrdy else .nak := by
  unfold State.epBusy
  split <;> rfl

end

/-! ### A vendor request that reaches a half (R348, R353, R357) -/

/-- The half hears its host and is not suspended. -/
structure State.FnAwake (s : State) (fi : FnInst) : Prop where
  hears : s.fnHears fi.up fi.ss = true
  awake : ((s.mgf fi.up).inst fi.ss).suspended = false

/-- It serves vendor requests: in service, configured, with the page on. -/
structure State.FnServes (s : State) (fi : FnInst) : Prop extends State.FnAwake s fi where
  serves : s.ssServes fi.up = fi.ss
  configured : ((s.mgf fi.up).inst fi.ss).st = 2
  page : s.pageOn .mgf = true

section
variable {s : State} {fi : FnInst} {act : State}

theorem State.FnServes.acts (h : s.FnServes fi) (he : (s.mgf fi.up).exec = none) : s.vendor fi true act = act := by
  obtain ⟨⟨hh, ha⟩, hs, hc, hp⟩ := h
  unfold State.vendor
  rw [if_neg (by simp [hh, ha]), if_neg (by simp [hs, hc, hp]), if_neg (by simp [he])]

theorem State.FnServes.busy (h : s.FnServes fi) (he : (s.mgf fi.up).exec ≠ none) : s.vendor fi true act = s.epBusy fi 0 := by
  obtain ⟨⟨hh, ha⟩, hs, hc, hp⟩ := h
  unfold State.vendor
  rw [if_neg (by simp [hh, ha]), if_neg (by simp [hs, hc, hp]), if_pos (Option.isSome_iff_ne_none.2 he)]

theorem State.FnAwake.stalls {ok : Bool} (h : s.FnAwake fi)
    (hno : s.ssServes fi.up ≠ fi.ss ∨ ((s.mgf fi.up).inst fi.ss).st ≠ 2 ∨ s.pageOn .mgf = false ∨ ok = false) :
    s.vendor fi ok act = s.fnStall fi.up := by
  obtain ⟨hh, ha⟩ := h
  unfold State.vendor
  rw [if_neg (by simp [hh, ha]), if_pos]
  rcases hno with hs | hc | hp | hk
  · exact .inl (Ne.symm hs)
  · exact .inr (.inl hc)
  · exact .inr (.inr (.inl (by simp [hp])))
  · exact .inr (.inr (.inr (by simp [hk])))

theorem regLen_one (value : BitVec 16) : regLen value 0 8 = true := by
  have hlt : (regWaddr value 0).toNat % 0x400 < 0x400 := Nat.mod_lt _ (by decide)
  have hone : decide ((regWaddr value 0).toNat % 0x400 + 8 / 8 ≤ 0x400) = true := decide_eq_true (by omega)
  unfold regLen
  dsimp only
  rw [hone]
  rfl

theorem exec_regRead {value index : BitVec 16} {len : Nat} : exec (.regRead fi value index len) s = .next (s.vendor fi (regLen value index len)
    (((s.vendorBegin fi.up 1 (4 * (regWaddr value index).toNat) len []).startRun
      (regRun fi.up false value index (List.replicate (len / 8) ⟨0xF, 0⟩) none) false 0).reply .waits)) := (rfl)

/-- What a REG_WRITE does once it is taken: its words begin, or its entries are refused (R354). -/
def State.regWriteTaken (s : State) (fi : FnInst) (value index : BitVec 16) (e : List Byte) : State :=
  let s2 := (s.epmPut (epmBase fi.up + epmEp0) e).vendorBegin fi.up 2 (4 * (regWaddr value index).toNat) e.length []
  if !regClean e then (s2.mgfWith fi.up (fun m => { m with exec := m.exec.map (fun e => { e with refused := true, finished := true }) })).reply .waits
  else (s2.startRun (regRun fi.up true value index (regEntries e) none) false 0).reply .waits

theorem exec_regWrite {value index : BitVec 16} {e : List Byte} : exec (.regWrite fi value index e false) s =
    .next (s.vendor fi (regLen value index e.length) (s.regWriteTaken fi value index e)) := (rfl)

theorem State.regWriteTaken_refused {value index : BitVec 16} {e : List Byte} (h : regClean e = false) :
    (s.regWriteTaken fi value index e).answer = .waits ∧ (s.regWriteTaken fi value index e).runs = s.runs ∧
    ((s.regWriteTaken fi value index e).mgf fi.up).exec.map (fun x => (x.refused, x.finished)) = some (true, true) := by
  unfold State.regWriteTaken
  extract_lets s2
  rw [if_pos (by simp [h])]
  have hkeep : s.KeepsBut [.epm, .mgfSt] s2 := .vendorBegin (by decide) (.epmPut (by decide) (.refl s))
  refine ⟨rfl, ?_, ?_⟩
  · rw [State.reply_runs, State.mgfWith_runs]
    exact hkeep.same .runs rfl (by decide)
  · rw [State.mgf_reply, State.mgf_mgfWith, State.mgf_vendorBegin]
    rfl

end

/-! ### The end of a vendor request (R357, R358) -/

section
variable {s : State} {u : Up} {e : VendorExec}

/-- The function once a request has ended, its outcome in the result store. -/
def State.vendorStored (s : State) (u : Up) (e : VendorExec) : State :=
  ((s.setExec u none).setResult u e.breq e.granted e.refused e.statuses).epServed u 0

/-- The data or status stage that follows a finished request. -/
def State.vendorOutcome (s : State) (u : Up) (e : VendorExec) : State :=
  let s1 := s.vendorStored u e
  let bs := e.stageBytes
  let s2 := if e.breq = 1 ∨ e.breq = 5 then s1.mgfWith u (fun m => { m with replay := bs }) else s1
  if e.lost then s2.reply .silent
  else if e.refused then s2.fnStall u
  else if e.breq = 1 ∨ e.breq = 5 then (s2.epmPut (epmBase u + epmEp0) bs).reply (.bytes bs)
  else s2.reply .ack

theorem exec_vendorRequestDone (he : ((s.vendorDram u).mgf u).exec = some e) (hf : e.finished = true) :
    exec (.vendorRequestDone u false) s = .next ((s.vendorDram u).vendorOutcome u e) := by
  change execVendorRequestDone u false s = _
  unfold execVendorRequestDone
  generalize s.vendorDram u = t at he ⊢
  dsimp only
  rw [he]
  dsimp only
  rw [if_neg (by simp [hf])]
  unfold State.vendorOutcome State.vendorStored
  extract_lets s1 bs s2
  by_cases hl : e.lost = true
  · rw [if_pos hl, if_pos hl]
  rw [if_neg hl, if_neg hl]
  by_cases hr : e.refused = true
  · rw [if_pos hr, if_pos hr]
  rw [if_neg hr, if_neg hr]
  by_cases hb : e.breq = 1 ∨ e.breq = 5
  · have hs2 : s2 = s1.mgfWith u (fun m => { m with replay := bs }) := if_pos hb
    rw [if_pos hb, if_pos hb, if_neg Bool.false_ne_true, hs2, if_pos hb]
  · have hs2 : s2 = s1 := if_neg hb
    rw [if_neg hb, if_neg hb, hs2, if_neg hb]

theorem State.mgf_vendorStored : (s.vendorStored u e).mgf u = { s.mgf u with
    exec := none, result := e.breq :: BitVec.ofNat 8 e.statuses.length :: hostOwner u ::
      BitVec.ofNat 8 (bit e.granted + 2 * bit e.refused) :: e.statuses, nrdy := (s.mgf u).nrdy.set 0 false } := by
  unfold State.vendorStored State.setResult State.epServed
  rw [State.mgf_mgfWith, State.mgf_mgfWith, State.mgf_setExec]
  rfl

theorem State.dram_vendorStored : (s.vendorStored u e).dram = s.dram := by
  exact (State.mgfWith_dram ..).trans ((State.mgfWith_dram ..).trans (State.dram_setExec ..))

theorem State.stalls_vendorStored : (s.vendorStored u e).get .mgf (F.MGF_Uu_CNT_STALLS u.val) = s.get .mgf (F.MGF_Uu_CNT_STALLS u.val) := by
  exact (State.mgfWith_get ..).trans ((State.mgfWith_get ..).trans
    (State.get_setExec _ u _ (show 0x54 + 4 * u.val ≠ 0x44 + 4 * u.val by omega)))

/-- A read answers with its bytes, which the replay store keeps. -/
theorem State.vendorOutcome_read (hl : e.lost = false) (hr : e.refused = false) (hb : e.breq = 1 ∨ e.breq = 5) :
    ((s.vendorOutcome u e).mgf u).exec = none ∧ ((s.vendorOutcome u e).mgf u).replay = e.stageBytes ∧
    (s.vendorOutcome u e).answer = .bytes e.stageBytes ∧ ((s.vendorOutcome u e).mgf u).result =
      e.breq :: BitVec.ofNat 8 e.statuses.length :: hostOwner u :: BitVec.ofNat 8 (bit e.granted) :: e.statuses ∧
    (s.vendorOutcome u e).dram = s.dram := by
  have heq : s.vendorOutcome u e = (((s.vendorStored u e).mgfWith u (fun m => { m with replay := e.stageBytes })).epmPut (epmBase u + epmEp0)
      e.stageBytes).reply (.bytes e.stageBytes) := by
    unfold State.vendorOutcome
    extract_lets s1 bs s2
    rw [if_neg (by simp [hl]), if_neg (by simp [hr]), if_pos hb, show s2 = _ from if_pos hb]
  rw [heq, State.mgf_reply, State.mgf_epmPut, State.mgf_mgfWith, State.mgf_vendorStored, State.reply_dram, State.dram_epmPut, State.mgfWith_dram,
    State.dram_vendorStored, hr]
  exact ⟨rfl, rfl, rfl, rfl, rfl⟩

/-- A write that has been executed is acknowledged. -/
theorem State.vendorOutcome_write (hl : e.lost = false) (hr : e.refused = false) (h1 : e.breq ≠ 1) (h5 : e.breq ≠ 5) :
    ((s.vendorOutcome u e).mgf u).exec = none ∧ ((s.vendorOutcome u e).mgf u).replay = (s.mgf u).replay ∧
    (s.vendorOutcome u e).answer = .ack ∧ ((s.vendorOutcome u e).mgf u).result =
      e.breq :: BitVec.ofNat 8 e.statuses.length :: hostOwner u :: BitVec.ofNat 8 (bit e.granted) :: e.statuses ∧
    (s.vendorOutcome u e).dram = s.dram := by
  have hb : ¬ (e.breq = 1 ∨ e.breq = 5) := not_or.mpr ⟨h1, h5⟩
  have heq : s.vendorOutcome u e = (s.vendorStored u e).reply .ack := by
    unfold State.vendorOutcome
    extract_lets s1 bs s2
    rw [if_neg (by simp [hl]), if_neg (by simp [hr]), if_neg hb, show s2 = s.vendorStored u e from if_neg hb]
  rw [heq, State.mgf_reply, State.mgf_vendorStored, State.reply_dram, State.dram_vendorStored, hr]
  exact ⟨rfl, rfl, rfl, rfl, rfl⟩

/-- A refused write is a STALL. -/
theorem State.vendorOutcome_refused (hl : e.lost = false) (hr : e.refused = true) (hb : e.breq = 2) :
    ((s.vendorOutcome u e).mgf u).exec = none ∧ ((s.vendorOutcome u e).mgf u).replay = (s.mgf u).replay ∧
    ((s.vendorOutcome u e).mgf u).result = [2, BitVec.ofNat 8 e.words.length, hostOwner u, BitVec.ofNat 8 (bit e.granted + 2)] ++ e.statuses ∧
    (s.vendorOutcome u e).answer = .stall ∧ (s.vendorOutcome u e).get .mgf (F.MGF_Uu_CNT_STALLS u.val) =
      min (s.get .mgf (F.MGF_Uu_CNT_STALLS u.val) + 1) (2 ^ (F.MGF_Uu_CNT_STALLS u.val).width - 1) := by
  have hread : ¬ (e.breq = 1 ∨ e.breq = 5) := by
    rw [hb]
    decide
  have heq : s.vendorOutcome u e = (s.vendorStored u e).fnStall u := by
    unfold State.vendorOutcome
    extract_lets s1 bs s2
    rw [if_neg (by simp [hl]), if_pos hr, show s2 = s.vendorStored u e from if_neg hread]
  have hlen : e.statuses.length = e.words.length := by
    unfold VendorExec.statuses
    rw [if_pos (.inr hb), List.length_map]
  rw [heq, State.mgf_fnStall, State.mgf_vendorStored, State.stalls_fnStall, State.stalls_vendorStored, hr, hlen, hb]
  exact ⟨rfl, rfl, rfl, rfl, rfl⟩

theorem State.vendorDram_finished (he : (s.mgf u).exec = some e) (hf : e.finished = true) : s.vendorDram u = s := by
  unfold State.vendorDram
  rw [he]
  exact if_pos (by simp [hf])

/-- A DRAM read with its outcome. -/
def VendorExec.readDone (e : VendorExec) (st : Byte) (bs : List Byte) : VendorExec := { e with dramStatus := st, data := bs, finished := true }

/-- A DRAM write with its outcome. -/
def VendorExec.writeDone (e : VendorExec) (st : Byte) : VendorExec := { e with dramStatus := st, finished := true }

theorem State.vendorDram_read (he : (s.mgf u).exec = some e) (hf : e.finished = false) (hd : s.dramServes = true) (hb : e.breq = 5) :
    s.vendorDram u = (s.hostRead u e.addr e.len).2.2.2.mgfWith u (fun m =>
      { m with exec := some (e.readDone (s.hostRead u e.addr e.len).1 (s.hostRead u e.addr e.len).2.1) }) := by
  unfold State.vendorDram
  rw [he]
  dsimp only
  rw [if_neg (by simp [hf, hd]), if_pos hb]
  rfl

theorem State.vendorDram_write (he : (s.mgf u).exec = some e) (hf : e.finished = false) (hd : s.dramServes = true) (hb : e.breq = 6) :
    s.vendorDram u = (s.hostWrite u e.addr e.data).2.2.mgfWith u (fun m =>
      { m with exec := some (e.writeDone (s.hostWrite u e.addr e.data).1) }) := by
  unfold State.vendorDram
  rw [he]
  dsimp only
  rw [if_neg (by simp [hf, hd]), if_neg (by rw [hb]; decide), if_pos hb]
  rfl

/-- A write outside the window of its host agent moves nothing (R356). -/
theorem State.hostWrite_range {a : Nat} {bs : List Byte} (hup : s.dramUp = true) (h : s.hostInWin u a bs.length = false) :
    s.hostWrite u a bs = (2, some a, s.count .drc F.DRC_CNT_RANGE) := by
  unfold State.hostWrite
  rw [if_neg (by simp [hup]), if_pos (by simp [h])]

theorem exec_vendorRequestDone_finished (he : (s.mgf u).exec = some e) (hf : e.finished = true) :
    exec (.vendorRequestDone u false) s = .next (s.vendorOutcome u e) := by
  have h0 := State.vendorDram_finished he hf
  rw [exec_vendorRequestDone (by rw [h0, he]) hf, h0]

theorem exec_vendorRequestDone_write (he : (s.mgf u).exec = some e) (hf : e.finished = false) (hl : e.lost = false) (hr : e.refused = false)
    (hb : e.breq = 6) (hd : s.dramServes = true) : ∃ t, exec (.vendorRequestDone u false) s = .next t ∧ (t.mgf u).exec = none ∧ t.answer = .ack ∧
      (t.mgf u).result = [6, 1, hostOwner u, BitVec.ofNat 8 (bit e.granted), (s.hostWrite u e.addr e.data).1] ∧
      t.dram = (s.hostWrite u e.addr e.data).2.2.dram := by
  have hexec : ((s.vendorDram u).mgf u).exec = some (e.writeDone (s.hostWrite u e.addr e.data).1) := by
    rw [State.vendorDram_write he hf hd hb, State.mgf_mgfWith]
  have hb' : (e.writeDone (s.hostWrite u e.addr e.data).1).breq = 6 := hb
  obtain ⟨hx, -, ha, hres, hdram⟩ := State.vendorOutcome_write (s := s.vendorDram u) (u := u) (e := e.writeDone (s.hostWrite u e.addr e.data).1)
    hl hr (by rw [hb']; decide) (by rw [hb']; decide)
  have hst : (e.writeDone (s.hostWrite u e.addr e.data).1).statuses = [(s.hostWrite u e.addr e.data).1] := by
    unfold VendorExec.statuses
    rw [hb', if_neg (by decide)]
    rfl
  rw [hst, hb'] at hres
  refine ⟨_, exec_vendorRequestDone hexec rfl, hx, ha, hres, hdram.trans ?_⟩
  rw [State.vendorDram_write he hf hd hb, State.mgfWith_dram]

end

/-- Settles O50: a request that the half serves is its act, and its end is the outcome that the stores take. -/
theorem vendorRequestsExecuteOnce : Obligations.VendorRequestsExecuteOnce := by
  unfold Obligations.VendorRequestsExecuteOnce
  refine ⟨?_, ?_, ?_, ?_, ?_, ?_, ?_, ?_, ?_, ?_, ?_, ?_, ?_, ?_, ?_, ?_, ?_, ?_, ?_, ?_⟩
  case refine_1 =>
    intro fi value index len s hh hs ha hc hp he hlen
    have hS : s.FnServes fi := ⟨⟨hh, ha⟩, hs, hc, hp⟩
    refine ⟨_, exec_regRead, ?_⟩
    rw [hlen, hS.acts he]
    exact ⟨rfl, rfl⟩
  case refine_2 =>
    intro fi value index len s hh hs ha hc hp he hlen
    have hS : s.FnServes fi := ⟨⟨hh, ha⟩, hs, hc, hp⟩
    refine ⟨_, exec_regRead, ?_⟩
    rw [hS.stalls (.inr (.inr (.inr hlen))), State.mgf_fnStall, he]
    exact ⟨rfl, rfl, State.stalls_fnStall ..⟩
  case refine_3 =>
    intro fi value index e s hh hs ha hc hp he hlen hcl
    have hS : s.FnServes fi := ⟨⟨hh, ha⟩, hs, hc, hp⟩
    refine ⟨_, exec_regWrite, ?_⟩
    rw [hlen, hS.acts he]
    unfold State.regWriteTaken
    rw [if_neg (by simp [hcl])]
    exact ⟨rfl, rfl⟩
  case refine_4 =>
    intro fi value index e s hh hs ha hc hp he hlen hcl
    have hS : s.FnServes fi := ⟨⟨hh, ha⟩, hs, hc, hp⟩
    refine ⟨_, exec_regWrite, ?_⟩
    rw [hlen, hS.acts he]
    exact State.regWriteTaken_refused hcl
  case refine_5 =>
    intro fi rq s hh hs ha hc hp he hpl h1 h68
    have hS : s.FnServes fi := ⟨⟨hh, ha⟩, hs, hc, hp⟩
    refine ⟨_, rfl, ?_⟩
    rw [hpl, decide_eq_true (And.intro h1 h68), Bool.and_true, hS.acts he, if_neg Bool.false_ne_true, State.mgf_reply, State.mgf_countVendor,
      State.get_reply]
    exact ⟨rfl, rfl, State.get_countVendor ..⟩
  case refine_6 =>
    intro fi rq s hh hs ha hc hp he hbad
    have hS : s.FnServes fi := ⟨⟨hh, ha⟩, hs, hc, hp⟩
    have hok : (storePlain rq && decide (1 ≤ rq.len ∧ rq.len ≤ 68)) = false := by
      rcases hbad with h | h | h
      · rw [h, Bool.false_and]
      · rw [decide_eq_false (by omega), Bool.and_false]
      · rw [decide_eq_false (by omega), Bool.and_false]
    refine ⟨_, rfl, ?_⟩
    rw [hok, hS.stalls (.inr (.inr (.inr rfl)))]
    exact ⟨rfl, State.stalls_fnStall ..⟩
  case refine_7 =>
    intro fi rq s hh hs ha hc hp he hpl h1 h512
    have hS : s.FnServes fi := ⟨⟨hh, ha⟩, hs, hc, hp⟩
    refine ⟨_, rfl, ?_⟩
    rw [hpl, decide_eq_true (And.intro h1 h512), Bool.and_true, hS.acts he, if_neg Bool.false_ne_true, State.mgf_reply, State.mgf_countVendor,
      State.get_reply]
    exact ⟨rfl, rfl, State.get_countVendor ..⟩
  case refine_8 =>
    intro fi a len s hh hs ha hc hp he hlen
    have hS : s.FnServes fi := ⟨⟨hh, ha⟩, hs, hc, hp⟩
    refine ⟨_, rfl, ?_⟩
    rw [hlen, hS.acts he]
    exact ⟨rfl, rfl⟩
  case refine_9 =>
    intro fi a d s hh hs ha hc hp he hlen
    have hS : s.FnServes fi := ⟨⟨hh, ha⟩, hs, hc, hp⟩
    refine ⟨_, rfl, ?_⟩
    rw [hlen, hS.acts he]
    exact ⟨rfl, rfl⟩
  case refine_10 =>
    intro fi value s hh hs ha hc hp he
    have hS : s.FnServes fi := ⟨⟨hh, ha⟩, hs, hc, hp⟩
    refine ⟨_, exec_regRead, ?_⟩
    rw [regLen_one, hS.busy he]
    exact ⟨rfl, State.answer_epBusy ..⟩
  case refine_11 =>
    intro fi s hh hs ha hc hp he
    have hS : s.FnServes fi := ⟨⟨hh, ha⟩, hs, hc, hp⟩
    exact ⟨_, congrArg Host.Outcome.next (hS.busy he), rfl, State.answer_epBusy ..⟩
  case refine_12 =>
    intro fi s hh hs ha hc hp he
    have hS : s.FnServes fi := ⟨⟨hh, ha⟩, hs, hc, hp⟩
    exact ⟨_, congrArg Host.Outcome.next (hS.busy he), rfl, State.answer_epBusy ..⟩
  case refine_13 =>
    intro fi s hh hs ha hc hp he
    have hS : s.FnServes fi := ⟨⟨hh, ha⟩, hs, hc, hp⟩
    exact ⟨_, congrArg Host.Outcome.next (hS.busy he), rfl, State.answer_epBusy ..⟩
  case refine_14 =>
    intro u e s he hf hl hr hb
    obtain ⟨hx, hrep, ha, hres, -⟩ := State.vendorOutcome_read (s := s) (u := u) hl hr hb
    exact ⟨_, exec_vendorRequestDone_finished he hf, hx, hrep, ha, hres⟩
  case refine_15 =>
    intro u e s he hf hl hr h1 h5
    obtain ⟨hx, hrep, ha, -, -⟩ := State.vendorOutcome_write (s := s) (u := u) hl hr h1 h5
    exact ⟨_, exec_vendorRequestDone_finished he hf, hx, hrep, ha⟩
  case refine_16 =>
    intro fi a len s hh ha hno
    exact ⟨_, congrArg Host.Outcome.next (State.FnAwake.stalls ⟨hh, ha⟩ hno), rfl, rfl⟩
  case refine_17 =>
    intro u e s he hf hl hr hb hd
    have hexec : ((s.vendorDram u).mgf u).exec = some (e.readDone (s.hostRead u e.addr e.len).1 (s.hostRead u e.addr e.len).2.1) := by
      rw [State.vendorDram_read he hf hd hb, State.mgf_mgfWith]
    obtain ⟨hx, hrep, ha, hres, hdram⟩ := State.vendorOutcome_read (s := s.vendorDram u) (u := u)
      (e := e.readDone (s.hostRead u e.addr e.len).1 (s.hostRead u e.addr e.len).2.1) hl hr (.inr hb)
    have hbytes : (e.readDone (s.hostRead u e.addr e.len).1 (s.hostRead u e.addr e.len).2.1).stageBytes = (s.hostRead u e.addr e.len).2.1 :=
      (if_neg (by rw [show (e.readDone _ _).breq = 5 from hb]; decide)).trans (if_pos hb)
    have hst : (e.readDone (s.hostRead u e.addr e.len).1 (s.hostRead u e.addr e.len).2.1).statuses = [(s.hostRead u e.addr e.len).1] :=
      if_neg (by rw [show (e.readDone _ _).breq = 5 from hb]; decide)
    rw [hbytes] at hrep ha
    rw [hst, show (e.readDone _ _).breq = 5 from hb] at hres
    refine ⟨_, exec_vendorRequestDone hexec rfl, hx, ha, hrep, hres, hdram.trans ?_⟩
    rw [State.vendorDram_read he hf hd hb, State.mgfWith_dram]
  case refine_18 =>
    intro u e s he hf hl hr hb hd
    exact exec_vendorRequestDone_write he hf hl hr hb hd
  case refine_19 =>
    intro u e s he hf hl hr hb hd hup hwin
    obtain ⟨t, ht, -, -, hres, hdram⟩ := exec_vendorRequestDone_write he hf hl hr hb hd
    rw [State.hostWrite_range hup hwin] at hres hdram
    exact ⟨t, ht, hdram.trans (State.put_dram ..), hres⟩
  case refine_20 =>
    intro u e s he hf hl hr hb
    obtain ⟨hx, hrep, hres, ha, hcnt⟩ := State.vendorOutcome_refused (s := s) (u := u) hl hr hb
    exact ⟨_, exec_vendorRequestDone_finished he hf, hx, hrep, hres, ha, hcnt⟩

end Sys2Proof.Machine

namespace Sys2Proof.Machine

/-! PROOFS. The bulk DRAM pipe of the management function (O51: R362–R364, R367). -/

/-! ### Bits of a field -/

/-- A bit of a field is its flag. -/
theorem State.testBit_get (s : State) (pg : PageId) {f : Fld} {i : Nat} (hi : i < f.width) : (s.get pg f).testBit i = s.flag pg (fldBit f i) := by
  have hflag : s.get pg (fldBit f i) < 2 ^ 1 := fldGet_lt ..
  have hbit : (s.get pg (fldBit f i)).testBit 0 = (s.rd (pg.base + f.off)).getLsbD (f.lo + i) :=
    (fldGet_testBit (fldBit f i) _ 0).trans (by simp [fldBit])
  have hbyte : (s.get pg f).testBit i = (s.rd (pg.base + f.off)).getLsbD (f.lo + i) := (fldGet_testBit f _ i).trans (by simp [hi])
  rw [hbyte, ← hbit]
  unfold State.flag
  interval_cases s.get pg (fldBit f i) <;> rfl

theorem State.flag_setFlag_same (s : State) (pg : PageId) {f : Fld} (b : Bool) (h : f.lo + f.width ≤ 32) (hw : f.width ≠ 0) :
    (s.setFlag pg f b).flag pg f = b := by
  unfold State.flag
  rw [State.get_setFlag_same _ _ _ h hw]
  cases b <;> rfl

/-! ### Halts (R364, R368) -/

section
variable {s t : State} {u : Up} {ep : Nat}

theorem State.epHalted_setHalt (s : State) (u : Up) (b : Bool) (h1 : 1 ≤ ep) (h3 : ep ≤ 3) : (s.setHalt u ep b).epHalted u ep = b := by
  unfold State.epHalted State.setHalt
  rw [State.testBit_get _ _ (show ep - 1 < 3 by omega), State.flag_setFlag_same _ _ _ (show 11 + (ep - 1) + 1 ≤ 32 by omega) (show 1 ≠ 0 by decide)]

theorem State.epHalted_congr (h : t.get .mgf (F.MGF_Uu_STATUS_HALT u.val) = s.get .mgf (F.MGF_Uu_STATUS_HALT u.val)) :
    t.epHalted u ep = s.epHalted u ep := by
  unfold State.epHalted
  rw [h]

theorem State.halt_mgfSync (s : State) (u : Up) : (s.mgfSync u).get .mgf (F.MGF_Uu_STATUS_HALT u.val) = s.get .mgf (F.MGF_Uu_STATUS_HALT u.val) :=
  State.get_mgfSync_bits s u (.inr (.inl ⟨Nat.le_refl 11, Nat.le_refl 14⟩))

theorem State.halt_count (s : State) (u : Up) : (s.count .mgf (F.MGF_Uu_CNT_STALLS u.val)).get .mgf (F.MGF_Uu_STATUS_HALT u.val) =
    s.get .mgf (F.MGF_Uu_STATUS_HALT u.val) :=
  State.get_put_off _ _ _ _ _ (show 0x44 + 4 * u.val ≠ 0x54 + 4 * u.val by omega)

theorem State.mgf_setHalt (s : State) (u v : Up) (ep : Nat) (b : Bool) : (s.setHalt u ep b).mgf v = s.mgf v := State.mgf_put ..

theorem State.stalls_setHalt (s : State) (u : Up) (ep : Nat) (b : Bool) : (s.setHalt u ep b).get .mgf (F.MGF_Uu_CNT_STALLS u.val) =
    s.get .mgf (F.MGF_Uu_CNT_STALLS u.val) :=
  State.get_put_off _ _ _ _ _ (show 0x54 + 4 * u.val ≠ 0x44 + 4 * u.val by omega)

theorem State.stalls_count (s : State) (u : Up) : (s.count .mgf (F.MGF_Uu_CNT_STALLS u.val)).get .mgf (F.MGF_Uu_CNT_STALLS u.val) =
    min (s.get .mgf (F.MGF_Uu_CNT_STALLS u.val) + 1) (2 ^ (F.MGF_Uu_CNT_STALLS u.val).width - 1) :=
  State.get_count_same _ _ _ (show 16 + 8 ≤ 32 by decide)

theorem State.mgf_stepSeq (s : State) (u : Up) (i : Fin 3) (k : Nat) : ∃ q, (s.stepSeq u i k).mgf u = { s.mgf u with seq := q } :=
  ⟨_, State.mgf_mgfWith ..⟩

theorem State.mgf_epServed (s : State) (u : Up) (i : Fin 4) : (s.epServed u i).mgf u = { s.mgf u with nrdy := (s.mgf u).nrdy.set i false } :=
  State.mgf_mgfWith ..

/-- What the service of an endpoint leaves of the function: its sequence numbers and what it owes apart. -/
theorem State.mgf_served (s : State) (u : Up) (i : Fin 3) (j : Fin 4) (k : Nat) : ∃ q r,
    ((((s.stepSeq u i k).epServed u j).mgfSync u).mgf u) = { s.mgf u with seq := q, nrdy := r } := by
  obtain ⟨q, hq⟩ := s.mgf_stepSeq u i k
  exact ⟨q, _, by rw [State.mgf_mgfSync, State.mgf_epServed, hq]⟩

end

/-! ### Lengths -/

@[simp] theorem leBytes_length (n v : Nat) : (leBytes n v).length = n := by simp [leBytes]

theorem bulkStatus_length (c : BulkCmd) (st : Byte) (done fail : Nat) : (bulkStatus c st done fail).length = 16 := by
  simp [bulkStatus]

theorem State.hostRead_length (s : State) (u : Up) (a n : Nat) : (s.hostRead u a n).2.1.length = n := by
  have hread : (s.dramRead a n (hostClass u)).1.length = n := by simp [State.dramRead]
  unfold State.hostRead
  split
  · exact List.length_replicate
  split
  · exact List.length_replicate
  split
  next h => rw [h] at hread; exact hread
  next h => rw [h] at hread; exact hread

/-! ### A bulk command done (R363) -/

section
variable (s : State) (u : Up) (c : BulkCmd) (st : Byte) (data : List Byte) (f : Failed)

/-- The record of a bulk command in `MGF_Uu_BULK`. -/
def State.bulkNoted : State :=
  (((((s.put .mgf (F.MGF_Uu_BULK_TAG u.val) c.tag.toNat).put .mgf (F.MGF_Uu_BULK_STATUS u.val) st.toNat).setFlag .mgf (F.MGF_Uu_BULK_WRITE u.val)
    c.write).put .mgf (F.MGF_Uu_BULK_VALID u.val) 1).setFlag .mgf (F.MGF_Uu_BULK_LOST u.val) c.lost)

theorem State.bulkNoted_parts : (s.bulkNoted u c st).get .mgf (F.MGF_Uu_BULK_TAG u.val) = c.tag.toNat ∧
    (s.bulkNoted u c st).get .mgf (F.MGF_Uu_BULK_STATUS u.val) = st.toNat ∧ (s.bulkNoted u c st).get .mgf (F.MGF_Uu_BULK_VALID u.val) = 1 ∧
    (s.bulkNoted u c st).get .mgf (F.MGF_Uu_BULK_LOST u.val) = bit c.lost := by
  have hput (t : State) (l n v lo w : Nat) (hb : l + n ≤ lo ∨ lo + w ≤ l) :
      (t.put .mgf ⟨0x4C + 4 * u.val, l, n⟩ v).get .mgf ⟨0x4C + 4 * u.val, lo, w⟩ = t.get .mgf ⟨0x4C + 4 * u.val, lo, w⟩ :=
    State.get_put_bits _ _ _ _ _ hb
  refine ⟨?_, ?_, ?_, ?_⟩
  · exact (hput _ 26 1 _ 0 16 (by omega)).trans ((hput _ 25 1 _ 0 16 (by omega)).trans ((hput _ 24 1 _ 0 16 (by omega)).trans
      ((hput _ 16 8 _ 0 16 (by omega)).trans (State.get_put_fits _ _ _ _ (show 0 + 16 ≤ 32 by decide) c.tag.isLt))))
  · exact (hput _ 26 1 _ 16 8 (by omega)).trans ((hput _ 25 1 _ 16 8 (by omega)).trans ((hput _ 24 1 _ 16 8 (by omega)).trans
      (State.get_put_fits _ _ _ _ (show 16 + 8 ≤ 32 by decide) st.isLt)))
  · exact (hput _ 26 1 _ 25 1 (by omega)).trans (State.get_put_fits _ _ _ _ (show 25 + 1 ≤ 32 by decide) (show 1 < 2 ^ 1 by decide))
  · exact State.get_setFlag_same _ _ _ (show 26 + 1 ≤ 32 by decide) (show 1 ≠ 0 by decide)

theorem State.bulkNoted_mgf (v : Up) : (s.bulkNoted u c st).mgf v = s.mgf v :=
  (State.KeepsBut.setFlag (M := []) (.put (.setFlag (.put (.put (.refl s)))))).mgf (by decide) v

theorem State.bulkNoted_dram : (s.bulkNoted u c st).dram = s.dram := by
  unfold State.bulkNoted State.setFlag
  simp only [State.put_dram]

/-- EP2 freed. -/
def State.ep2Freed : State := (s.bulkNoted u c st).mgfWith u (fun m => { m with ep2Cmd := none, ep2Len := 0 })

/-- The status block that ends a response. -/
def State.bulkEnd : List Byte :=
  bulkStatus c st (if st = 0 then c.len else if st = 3 ∨ st = 4 then s.bulkFailAddr u st c.addr c.len f - c.addr else 0)
    (s.bulkFailAddr u st c.addr c.len f)

/-- A response placed in EP3. -/
def State.ep3Filled (resp : List Byte) : State :=
  (s.epmPut (epmBase u + epmEp3) resp).mgfWith u (fun m => { m with ep3Len := resp.length, ep3Pos := 0 })

theorem State.bulkDone_lost (h : c.lost = true) : s.bulkDone u c st data f = (s.ep2Freed u c st).mgfSync u := if_pos h

theorem State.bulkDone_kept (h : c.lost = false) : s.bulkDone u c st data f =
    ((s.ep2Freed u c st).ep3Filled u (data ++ s.bulkEnd u c st f)).mgfSync u := if_neg (by simp [h])

theorem State.get_ep2Freed (g : Fld) : (s.ep2Freed u c st).get .mgf g = (s.bulkNoted u c st).get .mgf g := State.mgfWith_get ..

theorem State.get_ep3Filled (resp : List Byte) (g : Fld) : (s.ep3Filled u resp).get .mgf g = s.get .mgf g :=
  (State.mgfWith_get ..).trans (State.get_epmPut ..)

theorem State.mgf_ep2Freed : (s.ep2Freed u c st).mgf u = { s.mgf u with ep2Cmd := none, ep2Len := 0 } := by
  unfold State.ep2Freed
  rw [State.mgf_mgfWith, State.bulkNoted_mgf]

theorem State.mgf_ep3Filled (resp : List Byte) : (s.ep3Filled u resp).mgf u = { s.mgf u with ep3Len := resp.length, ep3Pos := 0 } := by
  unfold State.ep3Filled
  rw [State.mgf_mgfWith, State.mgf_epmPut]

theorem State.dram_ep2Freed : (s.ep2Freed u c st).dram = s.dram := (State.mgfWith_dram ..).trans (State.bulkNoted_dram ..)

theorem State.dram_ep3Filled (resp : List Byte) : (s.ep3Filled u resp).dram = s.dram := (State.mgfWith_dram ..).trans (State.dram_epmPut ..)

/-- `MGF_Uu_BULK` is not the status. -/
theorem State.bulk_mgfSync (lo w : Nat) : (s.mgfSync u).get .mgf ⟨0x4C + 4 * u.val, lo, w⟩ = s.get .mgf ⟨0x4C + 4 * u.val, lo, w⟩ :=
  State.get_mgfSync s u (show 0x4C + 4 * u.val ≠ 0x44 + 4 * u.val by omega)

end

section
variable {s : State} {u : Up} {c : BulkCmd} {at_ : EpAt} {b : List Byte} {fi : FnInst} {n : Nat}

/-! ### BULK_COMMAND (R362) -/

/-- The command block in its fields. -/
def bulkParsed (b : List Byte) : BulkCmd := ⟨byteAt b 0 == 2, BitVec.ofNat 16 (leNat b 2 2), leNat b 4 4, leNat b 8 8, false⟩

/-- A command block in the EP2 buffer. -/
def State.ep2Taken (s : State) (u : Up) (b : List Byte) : State :=
  (s.epmPut (epmBase u + epmEp2) b).mgfWith u (fun m => { m with ep2Len := b.length, ep2Cmd := some (bulkParsed b) })

/-- A block that breaks the rules halts EP2. -/
def State.ep2Refused (s : State) (u : Up) : State :=
  (((s.setHalt u 2 true).mgfWith u (fun m => { m with ep2Len := 0 })).count .mgf (F.MGF_Uu_CNT_STALLS u.val)).reply .ack

theorem exec_bulkCommand_halted (hm : s.epMoves at_.inst = true) (hw : bulkWhole b = true) (hh : s.epHalted at_.inst.up 2 = true) :
    exec (.bulkCommand at_ b) s = .next (s.reply .stall) := by
  change execBulkCommand at_ b s = _
  unfold execBulkCommand
  dsimp only
  rw [if_neg (by simp [hw]), if_neg (by simp [hm]), if_pos hh]

theorem exec_bulkCommand_repeated (hm : s.epMoves at_.inst = true) (hw : bulkWhole b = true) (hh : s.epHalted at_.inst.up 2 = false)
    (hs : at_.seq ≠ (s.mgf at_.inst.up).seq[1]) : exec (.bulkCommand at_ b) s = .next (s.reply .ack) := by
  change execBulkCommand at_ b s = _
  unfold execBulkCommand
  dsimp only
  rw [if_neg (by simp [hw]), if_neg (by simp [hm]), if_neg (by simp [hh]), if_pos hs]

theorem exec_bulkCommand_busy (hm : s.epMoves at_.inst = true) (hw : bulkWhole b = true) (hh : s.epHalted at_.inst.up 2 = false)
    (hs : at_.seq = (s.mgf at_.inst.up).seq[1]) (hc : (s.mgf at_.inst.up).ep2Cmd ≠ none) :
    exec (.bulkCommand at_ b) s = .next (s.epBusy at_.inst 2) := by
  change execBulkCommand at_ b s = _
  unfold execBulkCommand
  dsimp only
  rw [if_neg (by simp [hw]), if_neg (by simp [hm]), if_neg (by simp [hh]), if_neg (not_not.mpr hs), if_pos (Option.isSome_iff_ne_none.mpr hc)]

theorem exec_bulkCommand_refused (hm : s.epMoves at_.inst = true) (hw : bulkWhole b = true) (hv : bulkValid b = false)
    (hh : s.epHalted at_.inst.up 2 = false) (hs : at_.seq = (s.mgf at_.inst.up).seq[1]) (hc : (s.mgf at_.inst.up).ep2Cmd = none) :
    exec (.bulkCommand at_ b) s = .next (s.ep2Refused at_.inst.up) := by
  change execBulkCommand at_ b s = _
  unfold execBulkCommand State.ep2Refused
  dsimp only
  rw [if_neg (by simp [hw]), if_neg (by simp [hm]), if_neg (by simp [hh]), if_neg (not_not.mpr hs), if_neg (by simp [hc]), if_pos (by simp [hv])]

theorem exec_bulkCommand_taken (hm : s.epMoves at_.inst = true) (hw : bulkWhole b = true) (hv : bulkValid b = true)
    (hh : s.epHalted at_.inst.up 2 = false) (hs : at_.seq = (s.mgf at_.inst.up).seq[1]) (hc : (s.mgf at_.inst.up).ep2Cmd = none) :
    exec (.bulkCommand at_ b) s = .next (((((s.ep2Taken at_.inst.up b).stepSeq at_.inst.up 1 (s.packets at_.inst.up b.length)).epServed
      at_.inst.up 2).mgfSync at_.inst.up).reply .ack) := by
  change execBulkCommand at_ b s = _
  unfold execBulkCommand State.ep2Taken bulkParsed
  dsimp only
  rw [if_neg (by simp [hw]), if_neg (by simp [hm]), if_neg (by simp [hh]), if_neg (not_not.mpr hs), if_neg (by simp [hc]), if_neg (by simp [hv])]

theorem State.mgf_ep2Taken (s : State) (u : Up) (b : List Byte) :
    (s.ep2Taken u b).mgf u = { s.mgf u with ep2Len := b.length, ep2Cmd := some (bulkParsed b) } := by
  unfold State.ep2Taken
  rw [State.mgf_mgfWith, State.mgf_epmPut]

theorem State.mgf_ep2Refused (s : State) (u : Up) : (s.ep2Refused u).mgf u = { s.mgf u with ep2Len := 0 } := by
  unfold State.ep2Refused
  rw [State.mgf_reply, show (State.count _ _ _).mgf u = _ from State.mgf_put .., State.mgf_mgfWith, State.mgf_setHalt]

theorem State.epHalted_ep2Refused (s : State) (u : Up) : (s.ep2Refused u).epHalted u 2 = true :=
  (State.epHalted_congr ((State.get_reply ..).trans ((State.halt_count ..).trans (State.mgfWith_get ..)))).trans
    (State.epHalted_setHalt s u true (by decide) (by decide))

theorem State.stalls_ep2Refused (s : State) (u : Up) : (s.ep2Refused u).get .mgf (F.MGF_Uu_CNT_STALLS u.val) =
    min (s.get .mgf (F.MGF_Uu_CNT_STALLS u.val) + 1) (2 ^ (F.MGF_Uu_CNT_STALLS u.val).width - 1) := by
  unfold State.ep2Refused
  rw [State.get_reply, State.stalls_count, State.mgfWith_get, State.stalls_setHalt]

/-! ### BULK_READ and BULK_WRITE (R363) -/

theorem exec_bulkRead (h : s.bulkReady u false = some c) : exec (.bulkRead u false) s =
    .next ((s.hostRead u c.addr c.len).2.2.2.bulkDone u c (s.hostRead u c.addr c.len).1 (s.hostRead u c.addr c.len).2.1
      (s.hostRead u c.addr c.len).2.2.1) := by
  change execBulkRead u false s = _
  unfold execBulkRead
  rw [h]
  dsimp only
  rw [if_neg Bool.false_ne_true]

/-- The data bytes that stand behind a command block. -/
def State.ep2Data (s : State) (u : Up) (c : BulkCmd) : List Byte := s.epmGet (epmBase u + epmEp2 + 16) c.len

theorem exec_bulkWrite (h : s.bulkReady u true = some c) : exec (.bulkWrite u false) s =
    .next ((s.hostWrite u c.addr (s.ep2Data u c)).2.2.bulkDone u c (s.hostWrite u c.addr (s.ep2Data u c)).1 []
      (s.hostWrite u c.addr (s.ep2Data u c)).2.1) := by
  change execBulkWrite u false s = _
  unfold execBulkWrite State.ep2Data
  rw [h]
  dsimp only
  rw [if_neg Bool.false_ne_true]

theorem State.mgf_bulkDone_kept (s : State) (st : Byte) (data : List Byte) (f : Failed) (h : c.lost = false) :
    (s.bulkDone u c st data f).mgf u = { s.mgf u with ep2Cmd := none, ep2Len := 0, ep3Len := data.length + 16, ep3Pos := 0 } := by
  rw [State.bulkDone_kept s u c st data f h, State.mgf_mgfSync, State.mgf_ep3Filled, State.mgf_ep2Freed, List.length_append]
  unfold State.bulkEnd
  rw [bulkStatus_length]

theorem State.mgf_bulkDone_lost (s : State) (st : Byte) (data : List Byte) (f : Failed) (h : c.lost = true) :
    (s.bulkDone u c st data f).mgf u = { s.mgf u with ep2Cmd := none, ep2Len := 0 } := by
  rw [State.bulkDone_lost s u c st data f h, State.mgf_mgfSync, State.mgf_ep2Freed]

theorem State.dram_bulkDone_kept (s : State) (st : Byte) (data : List Byte) (f : Failed) (h : c.lost = false) :
    (s.bulkDone u c st data f).dram = s.dram := by
  rw [State.bulkDone_kept s u c st data f h, State.dram_mgfSync, State.dram_ep3Filled, State.dram_ep2Freed]

/-- `MGF_Uu_BULK` tells the command that has ended. -/
theorem State.bulk_bulkDone (s : State) (st : Byte) (data : List Byte) (f : Failed) (lo w : Nat) :
    (s.bulkDone u c st data f).get .mgf ⟨0x4C + 4 * u.val, lo, w⟩ = (s.bulkNoted u c st).get .mgf ⟨0x4C + 4 * u.val, lo, w⟩ := by
  by_cases h : c.lost = true
  · rw [State.bulkDone_lost s u c st data f h, State.bulk_mgfSync, State.get_ep2Freed]
  · rw [State.bulkDone_kept s u c st data f (by simpa using h), State.bulk_mgfSync, State.get_ep3Filled, State.get_ep2Freed]

theorem State.bulkDone_parts (s : State) (st : Byte) (data : List Byte) (f : Failed) :
    (s.bulkDone u c st data f).get .mgf (F.MGF_Uu_BULK_TAG u.val) = c.tag.toNat ∧
    (s.bulkDone u c st data f).get .mgf (F.MGF_Uu_BULK_STATUS u.val) = st.toNat ∧
    (s.bulkDone u c st data f).get .mgf (F.MGF_Uu_BULK_VALID u.val) = 1 ∧
    (s.bulkDone u c st data f).get .mgf (F.MGF_Uu_BULK_LOST u.val) = bit c.lost := by
  obtain ⟨htag, hst, hv, hl⟩ := s.bulkNoted_parts u c st
  exact ⟨(s.bulk_bulkDone ..).trans htag, (s.bulk_bulkDone ..).trans hst, (s.bulk_bulkDone ..).trans hv, (s.bulk_bulkDone ..).trans hl⟩

/-! ### EP3_ACK (R363, R364) -/

/-- The position and the length of the response once `n` more of its bytes have been acknowledged. -/
def MgfSt.ep3Acked (m : MgfSt) (n : Nat) : MgfSt :=
  { m with
    ep3Pos := if m.ep3Pos + min n (m.ep3Len - m.ep3Pos) = m.ep3Len then 0 else m.ep3Pos + min n (m.ep3Len - m.ep3Pos)
    ep3Len := if m.ep3Pos + min n (m.ep3Len - m.ep3Pos) = m.ep3Len then 0 else m.ep3Len }

/-- EP3 after an acknowledgement. -/
def State.ep3Sent (s : State) (u : Up) (n : Nat) : State := s.mgfWith u (fun _ => (s.mgf u).ep3Acked n)

theorem exec_ep3Ack (hm : s.epMoves fi = true) (hh : s.epHalted fi.up 3 = false) (hl : (s.mgf fi.up).ep3Len ≠ 0) :
    exec (.ep3Ack fi n false) s = .next (((((s.ep3Sent fi.up n).stepSeq fi.up 2 (s.packets fi.up
      (min n ((s.mgf fi.up).ep3Len - (s.mgf fi.up).ep3Pos)))).epServed fi.up 3).mgfSync fi.up).reply
      (.bytes (s.epmGet (epmBase fi.up + epmEp3 + (s.mgf fi.up).ep3Pos) (min n ((s.mgf fi.up).ep3Len - (s.mgf fi.up).ep3Pos))))) := by
  change execEp3Ack fi n false s = _
  unfold execEp3Ack
  dsimp only
  rw [if_neg (by simp [hm]), if_neg (by simp [hh]), if_neg hl, if_neg Bool.false_ne_true]
  rfl

theorem State.mgf_ep3Sent (s : State) (u : Up) (n : Nat) : (s.ep3Sent u n).mgf u = (s.mgf u).ep3Acked n := State.mgf_mgfWith ..

/-- A parity mismatch in a byte to be sent halts EP3. -/
def State.ep3Broken (s : State) (u : Up) : State :=
  (((s.epmError u 3).setHalt u 3 true).count .mgf (F.MGF_Uu_CNT_STALLS u.val)).reply .stall

theorem exec_ep3Ack_parity (hm : s.epMoves fi = true) (hh : s.epHalted fi.up 3 = false) (hl : (s.mgf fi.up).ep3Len ≠ 0) :
    exec (.ep3Ack fi n true) s = .next (s.ep3Broken fi.up) := by
  change execEp3Ack fi n true s = _
  unfold execEp3Ack
  dsimp only
  rw [if_neg (by simp [hm]), if_neg (by simp [hh]), if_neg hl, if_pos rfl]
  rfl

theorem State.epHalted_ep3Broken (s : State) (u : Up) : (s.ep3Broken u).epHalted u 3 = true :=
  (State.epHalted_congr ((State.get_reply ..).trans (State.halt_count ..))).trans (State.epHalted_setHalt _ u true (by decide) (by decide))

end

section
variable (s : State) (u : Up) (a : Nat)

theorem State.mgf_hostRead (n : Nat) (v : Up) : (s.hostRead u a n).2.2.2.mgf v = s.mgf v :=
  (State.KeepsBut.hostRead (M := [.fifos, .dram]) (by decide) (.refl s)).mgf (by decide) v

theorem State.mgf_hostWrite (bs : List Byte) (v : Up) : (s.hostWrite u a bs).2.2.mgf v = s.mgf v :=
  (State.KeepsBut.hostWrite (M := [.fifos, .dram, .dramMem]) (by decide) (.refl s)).mgf (by decide) v

end

/-- Settles O51: a command is checked when it is whole, ends in its record and its response, and the response goes as it is acknowledged. -/
theorem bulkPipeMovesDramBytes : Obligations.BulkPipeMovesDramBytes := by
  unfold Obligations.BulkPipeMovesDramBytes
  refine ⟨?_, ?_, ?_, ?_, ?_, ?_, ?_, ?_, ?_, ?_, ?_⟩
  case refine_1 =>
    intro at_ b s hm hw hv hh hs hc
    refine ⟨_, exec_bulkCommand_taken hm hw hv hh hs hc, ?_⟩
    obtain ⟨q, r, h⟩ := (s.ep2Taken at_.inst.up b).mgf_served at_.inst.up 1 2 (s.packets at_.inst.up b.length)
    rw [State.mgf_reply, h, State.mgf_ep2Taken]
    exact ⟨rfl, rfl, rfl⟩
  case refine_2 =>
    intro at_ b s hm hw hv hh hs hc
    refine ⟨_, exec_bulkCommand_refused hm hw hv hh hs hc, State.epHalted_ep2Refused .., ?_, ?_, State.stalls_ep2Refused ..⟩
    · rw [State.mgf_ep2Refused]
    · rw [State.mgf_ep2Refused, hc]
  case refine_3 =>
    intro at_ b s hm hw hh
    exact ⟨_, exec_bulkCommand_halted hm hw hh, rfl⟩
  case refine_4 =>
    intro at_ b s hm hw hh hs
    exact ⟨_, exec_bulkCommand_repeated hm hw hh hs, rfl⟩
  case refine_5 =>
    intro at_ b s hm hw hh hs hc
    exact ⟨_, exec_bulkCommand_busy hm hw hh hs hc, rfl, State.answer_epBusy ..⟩
  case refine_6 =>
    intro u c s hr hl
    obtain ⟨htag, hst, hv, -⟩ := State.bulkDone_parts (u := u) (c := c) (s.hostRead u c.addr c.len).2.2.2 (s.hostRead u c.addr c.len).1
      (s.hostRead u c.addr c.len).2.1 (s.hostRead u c.addr c.len).2.2.1
    refine ⟨_, exec_bulkRead hr, ?_⟩
    rw [State.mgf_bulkDone_kept _ _ _ _ hl, State.hostRead_length]
    exact ⟨rfl, rfl, rfl, rfl, htag, hst, hv⟩
  case refine_7 =>
    intro u c s hr hl
    obtain ⟨htag, -, -, hlost⟩ := State.bulkDone_parts (u := u) (c := c) (s.hostWrite u c.addr (s.ep2Data u c)).2.2
      (s.hostWrite u c.addr (s.ep2Data u c)).1 [] (s.hostWrite u c.addr (s.ep2Data u c)).2.1
    refine ⟨_, exec_bulkWrite hr, ?_⟩
    rw [State.mgf_bulkDone_lost _ _ _ _ hl, State.mgf_hostWrite]
    exact ⟨rfl, rfl, hlost.trans (by rw [hl]; rfl), htag⟩
  case refine_8 =>
    intro u c s hr hl
    obtain ⟨-, hst, -, -⟩ := State.bulkDone_parts (u := u) (c := c) (s.hostWrite u c.addr (s.ep2Data u c)).2.2
      (s.hostWrite u c.addr (s.ep2Data u c)).1 [] (s.hostWrite u c.addr (s.ep2Data u c)).2.1
    refine ⟨_, exec_bulkWrite hr, ?_⟩
    rw [State.mgf_bulkDone_kept _ _ _ _ hl, State.dram_bulkDone_kept _ _ _ _ hl]
    exact ⟨rfl, rfl, rfl, hst, rfl⟩
  case refine_9 =>
    intro fi n s hm hh hl hn
    have hmin : min n ((s.mgf fi.up).ep3Len - (s.mgf fi.up).ep3Pos) = n := by omega
    have hmore : (s.mgf fi.up).ep3Pos + n ≠ (s.mgf fi.up).ep3Len := by omega
    refine ⟨_, exec_ep3Ack hm hh hl, ?_⟩
    obtain ⟨q, r, h⟩ := (s.ep3Sent fi.up n).mgf_served fi.up 2 3 (s.packets fi.up (min n ((s.mgf fi.up).ep3Len - (s.mgf fi.up).ep3Pos)))
    rw [State.mgf_reply, h, State.mgf_ep3Sent]
    unfold MgfSt.ep3Acked
    rw [hmin, if_neg hmore, if_neg hmore]
    exact ⟨rfl, rfl, rfl⟩
  case refine_10 =>
    intro fi n s hm hh hl hle hn
    have hdone : (s.mgf fi.up).ep3Pos + min n ((s.mgf fi.up).ep3Len - (s.mgf fi.up).ep3Pos) = (s.mgf fi.up).ep3Len := by omega
    refine ⟨_, exec_ep3Ack hm hh hl, ?_⟩
    obtain ⟨q, r, h⟩ := (s.ep3Sent fi.up n).mgf_served fi.up 2 3 (s.packets fi.up (min n ((s.mgf fi.up).ep3Len - (s.mgf fi.up).ep3Pos)))
    rw [State.mgf_reply, h, State.mgf_ep3Sent]
    unfold MgfSt.ep3Acked
    exact ⟨if_pos hdone, if_pos hdone⟩
  case refine_11 =>
    intro fi n s hm hh hl
    exact ⟨_, exec_ep3Ack_parity hm hh hl, State.epHalted_ep3Broken .., rfl⟩

end Sys2Proof.Machine

namespace Sys2Proof.Machine

/-! PROOFS. Endpoints, notices and resets of the management function (O52: R348, R360, R364–R368). -/

/-! ### Parts of the function that are emptied -/

/-- EP1–EP3 emptied. -/
def MgfSt.emptied (m : MgfSt) : MgfSt :=
  { m with ep2Len := 0, ep2Cmd := m.ep2Cmd.map (fun c => { c with lost := true }), ep3Len := 0, ep3Pos := 0, noticeOut := false }

/-- Toggles and sequence numbers at zero. -/
def MgfSt.seqCleared (m : MgfSt) : MgfSt := { m with seq := Vector.replicate 3 0 }

/-- What a reset does to the requests of the function. -/
def MgfSt.requestsLost (m : MgfSt) : MgfSt :=
  { m with exec := m.exec.map (fun e => { e with lost := true }), wakeDue := false, nrdy := Vector.replicate 4 false }

/-- A half of the function changed. -/
def MgfSt.instWith (m : MgfSt) (ss : Bool) (f : MgfInst → MgfInst) : MgfSt := if ss then { m with ss := f m.ss } else { m with u2 := f m.u2 }

theorem MgfSt.inst_instWith_same (m : MgfSt) (ss : Bool) (f : MgfInst → MgfInst) : (m.instWith ss f).inst ss = f (m.inst ss) := by
  cases ss <;> rfl

theorem MgfSt.inst_instWith_ne (m : MgfSt) {ss b : Bool} (f : MgfInst → MgfInst) (h : b ≠ ss) : (m.instWith ss f).inst b = m.inst b :=
  match ss, b, h with
  | true, true, h => absurd rfl h
  | false, false, h => absurd rfl h
  | true, false, _ => rfl
  | false, true, _ => rfl

/-- One half apart, the function is what it was. -/
theorem MgfSt.instWith_parts (m : MgfSt) (ss : Bool) (f : MgfInst → MgfInst) : (m.instWith ss f).ep2Len = m.ep2Len ∧
    (m.instWith ss f).ep3Len = m.ep3Len ∧ (m.instWith ss f).result = m.result ∧ (m.instWith ss f).replay = m.replay := by
  cases ss <;> exact ⟨rfl, rfl, rfl, rfl⟩

section
variable (s : State) (u : Up)

theorem State.mgf_mgfInstWith (ss : Bool) (f : MgfInst → MgfInst) : (s.mgfInstWith u ss f).mgf u = (s.mgf u).instWith ss f :=
  State.mgf_mgfWith ..

theorem State.mgf_emptyEps : (s.emptyEps u).2.mgf u = (s.mgf u).emptied := by
  unfold State.emptyEps
  dsimp only
  split
  · exact (State.mgf_put ..).trans (State.mgf_mgfWith ..)
  · exact State.mgf_mgfWith ..

theorem State.mgf_clearSeqs : (s.clearSeqs u).mgf u = (s.mgf u).seqCleared := (State.mgf_put ..).trans (State.mgf_mgfWith ..)

theorem State.halt_clearSeqs : (s.clearSeqs u).get .mgf (F.MGF_Uu_STATUS_HALT u.val) = 0 :=
  State.get_put_fits _ _ _ _ (show 11 + 3 ≤ 32 by decide) (show 0 < 2 ^ 3 by decide)

theorem State.mgf_epRestart : (s.epRestart u).mgf u = (s.mgf u).emptied.seqCleared := by
  unfold State.epRestart
  rw [State.mgf_mgfSync, State.mgf_clearSeqs, State.mgf_emptyEps]

theorem State.halt_epRestart : (s.epRestart u).get .mgf (F.MGF_Uu_STATUS_HALT u.val) = 0 := (State.halt_mgfSync ..).trans (State.halt_clearSeqs ..)

/-- The end of a semaphore's hold is none of the function's registers. -/
theorem State.get_semFreeBy_mgf (n : Sem) (e : Ev) {g : Fld} (hg : g.off < 0x1000) : (s.semFreeBy n e).get .mgf g = s.get .mgf g := by
  refine (State.get_raise _ _ _ _ _ _ _ _ (.inl (by decide)) hg).trans ?_
  simp only [State.get, State.semFree]
  rw [State.rd_wr_ne _ _ (by simp only [PageId.base]; omega)]

theorem State.get_semOrphan_mgf (test : State → Sem → Bool) {g : Fld} (hg : g.off < 0x1000) : (s.semOrphan test).get .mgf g = s.get .mgf g := by
  unfold State.semOrphan
  generalize List.finRange 32 = l
  induction l generalizing s with
  | nil => rfl
  | cons n l ih =>
    rw [List.foldl_cons, ih]
    split
    · exact s.get_semFreeBy_mgf n _ hg
    · rfl

end
/-! ### A reset of a half (R360, R361) -/

section
variable (s : State) (u : Up) (ss : Bool) (k : Nat)

/-- The half afresh, and what was asked of it lost. -/
def State.fnForgotten : State := ((s.mgfInstWith u ss (fun _ => freshMgfInst)).stageMet u).2.mgfWith u MgfSt.requestsLost

/-- The half in service with its endpoints emptied, its semaphores freed and its reset counted. -/
def State.fnEmptied : State :=
  ((((s.fnForgotten u ss).emptyEps u).2.clearSeqs u).count .mgf (F.MGF_Uu_CNT_RESETS u.val)).semOrphanHost u

/-- Its pending notice again as its queue says. -/
def State.fnRenewed : State :=
  ((s.fnEmptied u ss).setFlag .mgf (F.MGF_Uu_STATUS_NOTICE_PENDING u.val) ((s.fnEmptied u ss).noticeDue u)).mgfSync u

theorem State.fnReset_served (h : s.ssServes u = ss) : ∃ d, s.fnReset u ss k = (s.fnRenewed u ss).raisePres .mgf u evBusReset u.val d := by
  unfold State.fnReset
  dsimp only
  rw [if_pos (by simp [h])]
  exact ⟨_, rfl⟩

theorem State.fnReset_other (h : s.ssServes u ≠ ss) : s.fnReset u ss k = (s.mgfInstWith u ss (fun _ => freshMgfInst)).mgfSync u := by
  unfold State.fnReset
  dsimp only
  rw [if_neg (by simp [h])]

theorem State.mgf_fnForgotten : (s.fnForgotten u ss).mgf u = ((s.mgf u).instWith ss (fun _ => freshMgfInst)).requestsLost := by
  unfold State.fnForgotten
  rw [State.mgf_mgfWith, (State.KeepsBut.stageMet (M := [.freeCount]) (by decide) (.refl _)).mgf (by decide), State.mgf_mgfInstWith]

theorem State.mgf_fnRenewed : (s.fnRenewed u ss).mgf u =
    ((s.mgf u).instWith ss (fun _ => freshMgfInst)).requestsLost.emptied.seqCleared := by
  unfold State.fnRenewed
  have hempty : (s.fnEmptied u ss).mgf u = (((s.fnForgotten u ss).emptyEps u).2.clearSeqs u).mgf u :=
    (State.KeepsBut.semOrphanHost (M := [.fifos]) (by decide) (.count (.refl _))).mgf (by decide) u
  rw [State.mgf_mgfSync, show (State.setFlag _ _ _ _).mgf u = _ from State.mgf_put .., hempty, State.mgf_clearSeqs, State.mgf_emptyEps,
    State.mgf_fnForgotten]

theorem State.halt_fnRenewed : (s.fnRenewed u ss).get .mgf (F.MGF_Uu_STATUS_HALT u.val) = 0 := by
  have hflag (t : State) (b : Bool) : (t.setFlag .mgf (F.MGF_Uu_STATUS_NOTICE_PENDING u.val) b).get .mgf (F.MGF_Uu_STATUS_HALT u.val) =
      t.get .mgf (F.MGF_Uu_STATUS_HALT u.val) := State.get_put_bits _ _ _ _ _ (show 16 + 1 ≤ 11 ∨ 11 + 3 ≤ 16 by decide)
  have hcount (t : State) : (t.count .mgf (F.MGF_Uu_CNT_RESETS u.val)).get .mgf (F.MGF_Uu_STATUS_HALT u.val) =
      t.get .mgf (F.MGF_Uu_STATUS_HALT u.val) := State.get_put_off _ _ _ _ _ (show 0x44 + 4 * u.val ≠ 0x54 + 4 * u.val by omega)
  unfold State.fnRenewed State.fnEmptied State.semOrphanHost
  rw [State.halt_mgfSync, hflag, State.get_semOrphan_mgf _ _ (show 0x44 + 4 * u.val < 0x1000 by omega), hcount, State.halt_clearSeqs]

end

/-! ### Notices (R365, R366) -/

section
variable {s : State} {u : Up} {fi : FnInst} {ep : Nat}

/-- A new notice in the EP1 buffer. -/
def State.noticePut (s : State) (u : Up) : State :=
  (s.epmPut (epmBase u + epmEp1) (s.noticeBytes u ((s.mgf u).noticeCount + 1))).mgfWith u
    (fun m => { m with noticeOut := true, noticeCount := (s.mgf u).noticeCount + 1 })

/-- A notice sent. -/
def State.noticeSent (s : State) (u : Up) : State := (s.epServed u 1).reply (.bytes (s.epmGet (epmBase u + epmEp1) 16))

theorem exec_notice_new (hm : s.epMoves fi = true) (hh : s.epHalted fi.up 1 = false) (ho : (s.mgf fi.up).noticeOut = false)
    (hp : s.flag .mgf (F.MGF_Uu_STATUS_NOTICE_PENDING fi.up.val) = true) :
    exec (.notice fi false) s = .next ((s.noticePut fi.up).noticeSent fi.up) := by
  change execNotice fi false s = _
  unfold execNotice
  dsimp only
  rw [if_neg (by simp [hm]), if_neg (by simp [hh]), if_neg (by simp [hp]), if_neg Bool.false_ne_true, if_neg (by simp [ho])]
  rfl

theorem exec_notice_again (hm : s.epMoves fi = true) (hh : s.epHalted fi.up 1 = false) (ho : (s.mgf fi.up).noticeOut = true) :
    exec (.notice fi false) s = .next (s.noticeSent fi.up) := by
  change execNotice fi false s = _
  unfold execNotice
  dsimp only
  rw [if_neg (by simp [hm]), if_neg (by simp [hh]), if_neg (by simp [ho]), if_neg Bool.false_ne_true, if_pos ho]
  rfl

theorem exec_notice_none (hm : s.epMoves fi = true) (hh : s.epHalted fi.up 1 = false) (ho : (s.mgf fi.up).noticeOut = false)
    (hp : s.flag .mgf (F.MGF_Uu_STATUS_NOTICE_PENDING fi.up.val) = false) : exec (.notice fi false) s = .next (s.epBusy fi 1) := by
  change execNotice fi false s = _
  unfold execNotice
  dsimp only
  rw [if_neg (by simp [hm]), if_neg (by simp [hh]), if_pos (by simp [ho, hp])]

theorem State.mgf_noticePut (s : State) (u : Up) :
    (s.noticePut u).mgf u = { s.mgf u with noticeOut := true, noticeCount := (s.mgf u).noticeCount + 1 } := by
  unfold State.noticePut
  rw [State.mgf_mgfWith, State.mgf_epmPut]

theorem State.mgf_noticeSent (s : State) (u : Up) : (s.noticeSent u).mgf u = { s.mgf u with nrdy := (s.mgf u).nrdy.set 1 false } :=
  (State.mgf_reply ..).trans (State.mgf_epServed ..)

/-- A notice acknowledged. -/
def State.noticeAcked (s : State) (u : Up) : State :=
  (s.mgfWith u (fun m => { m with noticeOut := false })).put .mgf (F.MGF_Uu_STATUS_NOTICE_PENDING u.val) 0

theorem exec_noticeAck (hs : s.epServes u = true) (ho : (s.mgf u).noticeOut = true) :
    exec (.noticeAck u) s = .next ((s.noticeAcked u).stepSeq u 0 1) := by
  change execNoticeAck u s = _
  unfold execNoticeAck
  rw [if_neg (by simp [hs, ho])]
  rfl

theorem State.mgf_noticeAcked (s : State) (u : Up) : (s.noticeAcked u).mgf u = { s.mgf u with noticeOut := false } :=
  (State.mgf_put ..).trans (State.mgf_mgfWith ..)

theorem exec_functionWake (hw : (s.mgf u).wakeDue = true) (hu : s.upState u = lkU0) (ht : s.fnThere u = true) :
    exec (.functionWake u) s = .next ((s.mgfWith u (fun m => { m with wakeDue := false })).reply .functionWake) := by
  change execFunctionWake u s = _
  unfold execFunctionWake
  rw [if_pos (by simp [hw, hu, ht])]

/-! ### Resets and configuration (R360, R361, R368) -/

theorem exec_functionReset {ss : Bool} {k : Nat} (h : s.fnHears u ss = true) : exec (.functionReset u ss k) s = .next (s.fnReset u ss (k % 4)) :=
  if_pos h

/-- A half with a configuration, or unconfigured. -/
def State.fnConfigured (s : State) (u : Up) (ss : Bool) (v : Nat) : State :=
  s.mgfInstWith u ss (fun i => { i with st := if v = 1 then 2 else 1 })

theorem State.fnConfigure_known {ss : Bool} {v : Nat} (hh : s.fnHears u ss = true) (hs : ((s.mgf u).inst ss).suspended = false)
    (h0 : ((s.mgf u).inst ss).st ≠ 0) (hv : v ≤ 1) : s.fnConfigure u ss false v =
    (if s.ssServes u == ss then (s.fnConfigured u ss v).epRestart u else (s.fnConfigured u ss v).mgfSync u).reply .ack := by
  unfold State.fnConfigure State.fnConfigured
  dsimp only
  rw [if_neg (by simp [hh, hs]), if_neg (by simp [h0, hv]), if_neg Bool.false_ne_true]

theorem State.fnConfigure_interface {ss : Bool} (hh : s.fnHears u ss = true) (hs : ((s.mgf u).inst ss).suspended = false)
    (h2 : ((s.mgf u).inst ss).st = 2) (hv : s.ssServes u = ss) : s.fnConfigure u ss true 0 = (s.epRestart u).reply .ack := by
  unfold State.fnConfigure
  dsimp only
  rw [if_neg (by simp [hh, hs]), if_neg (by simp [h2]), if_pos (by simp [hv]), if_pos rfl]

theorem MgfSt.inst_restarted (m : MgfSt) (ss : Bool) : m.emptied.seqCleared.inst ss = m.inst ss := by cases ss <;> rfl

theorem State.st_fnConfigured (s : State) (u : Up) (ss b : Bool) (v : Nat) :
    (((if b then (s.fnConfigured u ss v).epRestart u else (s.fnConfigured u ss v).mgfSync u).mgf u).inst ss).st = if v = 1 then 2 else 1 := by
  have hconf : ((s.fnConfigured u ss v).mgf u).inst ss = { (s.mgf u).inst ss with st := if v = 1 then 2 else 1 } := by
    unfold State.fnConfigured
    rw [State.mgf_mgfInstWith, MgfSt.inst_instWith_same]
  split
  · rw [State.mgf_epRestart, MgfSt.inst_restarted, hconf]
  · rw [State.mgf_mgfSync, hconf]

/-! ### Halts by request (R368) -/

theorem State.epRequest_acts {act : State} (hh : s.fnHears fi.up fi.ss = true) (hs : ((s.mgf fi.up).inst fi.ss).suspended = false)
    (h2 : ((s.mgf fi.up).inst fi.ss).st = 2) (hv : s.ssServes fi.up = fi.ss) (h1 : 1 ≤ ep) (h3 : ep ≤ 3) :
    s.epRequest fi ep act = act.reply .ack := by
  unfold State.epRequest
  dsimp only
  rw [if_neg (by simp [hh, hs]), if_neg (by omega), if_neg (by simp [h2, h3]), if_pos hv.symm]

theorem State.epRequest_zero {act : State} (hh : s.fnHears fi.up fi.ss = true) (hs : ((s.mgf fi.up).inst fi.ss).suspended = false) :
    s.epRequest fi 0 act = s.reply .ack := by
  unfold State.epRequest
  dsimp only
  rw [if_neg (by simp [hh, hs]), if_pos rfl]

/-- What the end of a halt leaves of the function. -/
def MgfSt.haltEnded (m : MgfSt) (ep : Nat) (was : Bool) : MgfSt :=
  { m with
    seq := if h : 1 ≤ ep ∧ ep ≤ 3 then m.seq.set (ep - 1) 0 (by omega) else m.seq
    noticeOut := if ep = 1 ∧ was then false else m.noticeOut
    ep2Len := if ep = 2 ∧ was then 0 else m.ep2Len
    ep2Cmd := if ep = 2 ∧ was then none else m.ep2Cmd
    ep3Len := if ep = 3 ∧ was then 0 else m.ep3Len
    ep3Pos := if ep = 3 ∧ was then 0 else m.ep3Pos }

/-- An endpoint with its halt ended. -/
def State.haltEnded (s : State) (u : Up) (ep : Nat) : State :=
  (s.mgfWith u (fun m => m.haltEnded ep (s.epHalted u ep))).setHalt u ep false

theorem exec_clearEndpointHalt : exec (.clearEndpointHalt fi ep) s = .next (s.epRequest fi ep ((s.haltEnded fi.up ep).mgfSync fi.up)) := (rfl)

theorem exec_setEndpointHalt : exec (.setEndpointHalt fi ep) s = .next (s.epRequest fi ep (s.setHalt fi.up ep true)) := (rfl)

theorem State.epHalted_reply (s : State) (a : Answer) : (s.reply a).epHalted u ep = s.epHalted u ep := State.epHalted_congr (State.get_reply ..)

/-! ### The half in service (R348) -/

/-- The half that is to serve. -/
def State.ssWanted (s : State) (u : Up) : Bool := (s.mgf u).ss.st == 2 && s.fnHears u true

/-- EP1–EP3 handed to the other half. -/
def State.handedOver (s : State) (u : Up) : State :=
  ((s.emptyEps u).2.clearSeqs u).setFlag .mgf (F.MGF_Uu_STATUS_SS_IN_SERVICE u.val) (s.ssWanted u)

/-- The pending notice of the half that now serves. -/
def State.noticeRenewed (s : State) (u : Up) : State :=
  (s.setFlag .mgf (F.MGF_Uu_STATUS_NOTICE_PENDING u.val) (s.noticeDue u)).mgfSync u

theorem exec_inServiceChange_same (h : s.ssWanted u = s.ssServes u) : exec (.inServiceChange u) s = .next s :=
  if_pos (beq_iff_eq.mpr h)

theorem exec_inServiceChange_other (h : s.ssWanted u ≠ s.ssServes u) :
    exec (.inServiceChange u) s = .next ((s.handedOver u).noticeRenewed u) :=
  if_neg (fun hw => h (beq_iff_eq.mp hw))

theorem State.get_noticeRenewed (s : State) (u : Up) {lo w : Nat} (h : (7 ≤ lo ∧ lo + w ≤ 8) ∨ (11 ≤ lo ∧ lo + w ≤ 14)) :
    (s.noticeRenewed u).get .mgf ⟨0x44 + 4 * u.val, lo, w⟩ = s.get .mgf ⟨0x44 + 4 * u.val, lo, w⟩ :=
  (State.get_mgfSync_bits _ u (h.imp_right .inl)).trans (State.get_put_bits _ _ _ _ _ (show 16 + 1 ≤ lo ∨ lo + w ≤ 16 by omega))

theorem State.ssServes_noticeRenewed (s : State) (u : Up) : (s.noticeRenewed u).ssServes u = s.ssServes u :=
  congrArg (fun n => n != 0) (s.get_noticeRenewed u (lo := 7) (w := 1) (.inl ⟨Nat.le_refl 7, Nat.le_refl 8⟩))

theorem State.ssServes_handedOver (s : State) (u : Up) : (s.handedOver u).ssServes u = s.ssWanted u :=
  State.flag_setFlag_same _ _ _ (show 7 + 1 ≤ 32 by decide) (show 1 ≠ 0 by decide)

theorem State.mgf_handedOver (s : State) (u : Up) : ((s.handedOver u).noticeRenewed u).mgf u = (s.mgf u).emptied.seqCleared := by
  unfold State.noticeRenewed State.handedOver
  rw [State.mgf_mgfSync, show (State.setFlag _ _ _ _).mgf u = _ from State.mgf_put .., show (State.setFlag _ _ _ _).mgf u = _ from State.mgf_put ..,
    State.mgf_clearSeqs, State.mgf_emptyEps]

theorem State.halt_handedOver (s : State) (u : Up) : ((s.handedOver u).noticeRenewed u).get .mgf (F.MGF_Uu_STATUS_HALT u.val) = 0 := by
  have hflag (t : State) (b : Bool) : (t.setFlag .mgf (F.MGF_Uu_STATUS_SS_IN_SERVICE u.val) b).get .mgf (F.MGF_Uu_STATUS_HALT u.val) =
      t.get .mgf (F.MGF_Uu_STATUS_HALT u.val) := State.get_put_bits _ _ _ _ _ (show 7 + 1 ≤ 11 ∨ 11 + 3 ≤ 7 by decide)
  exact (State.get_noticeRenewed _ u (.inr ⟨Nat.le_refl 11, Nat.le_refl 14⟩)).trans ((hflag ..).trans (State.halt_clearSeqs ..))

end

/-- Settles O52: what each endpoint request, notice and reset does is its operation's effect on the function's record and its status. -/
theorem managementFunctionEndpointsAndNotices : Obligations.ManagementFunctionEndpointsAndNotices := by
  unfold Obligations.ManagementFunctionEndpointsAndNotices
  refine ⟨?_, ?_, ?_, ?_, ?_, ?_, ?_, ?_, ?_, ?_, ?_, ?_, ?_, ?_⟩
  case refine_1 =>
    intro fi s hm hh ho hp
    refine ⟨_, exec_notice_new hm hh ho hp, ?_⟩
    rw [State.mgf_noticeSent, State.mgf_noticePut]
    exact ⟨rfl, rfl, rfl⟩
  case refine_2 =>
    intro fi s hm hh ho
    exact ⟨_, exec_notice_again hm hh ho, rfl⟩
  case refine_3 =>
    intro fi s hm hh ho hp
    exact ⟨_, exec_notice_none hm hh ho hp, rfl, State.answer_epBusy ..⟩
  case refine_4 =>
    intro u s hs ho
    obtain ⟨q, hq⟩ := (s.noticeAcked u).mgf_stepSeq u 0 1
    refine ⟨_, exec_noticeAck hs ho, ?_, (State.mgfWith_get ..).trans
      (State.get_put_fits _ _ _ _ (show 16 + 1 ≤ 32 by decide) (show 0 < 2 ^ 1 by decide))⟩
    rw [hq, State.mgf_noticeAcked]
  case refine_5 =>
    intro u s hw hu ht
    refine ⟨_, exec_functionWake hw hu ht, rfl, ?_⟩
    rw [State.mgf_reply, State.mgf_mgfWith]
  case refine_6 =>
    intro u ss k s hh hs
    obtain ⟨d, hd⟩ := s.fnReset_served u ss (k % 4) hs
    have hhalt : ((s.fnRenewed u ss).raisePres .mgf u evBusReset u.val d).get .mgf (F.MGF_Uu_STATUS_HALT u.val) = 0 :=
      (State.get_raisePres_off (h := show 0x44 + 4 * u.val ≠ 0xC by omega) (hf := show 0x44 + 4 * u.val < 0x1000 by omega) ..).trans
        (s.halt_fnRenewed u ss)
    obtain ⟨-, -, hres, hrep⟩ := (s.mgf u).instWith_parts ss (fun _ => freshMgfInst)
    have hinst : (((s.mgf u).instWith ss (fun _ => freshMgfInst)).requestsLost.emptied.seqCleared).inst ss = freshMgfInst := by
      rw [MgfSt.inst_restarted]
      cases ss <;> rfl
    refine ⟨_, exec_functionReset hh, ?_⟩
    rw [hd, hhalt, show (State.raisePres _ _ _ _ _ _ _).mgf u = _ from State.mgf_raiseWith .., State.mgf_fnRenewed, hinst]
    exact ⟨rfl, rfl, rfl, rfl, rfl, rfl, rfl, hres, hrep⟩
  case refine_7 =>
    intro u ss k s hh hs
    obtain ⟨h2, h3, -, -⟩ := (s.mgf u).instWith_parts ss (fun _ => freshMgfInst)
    refine ⟨_, exec_functionReset hh, ?_⟩
    rw [s.fnReset_other u ss _ hs, State.mgf_mgfSync, State.mgf_mgfInstWith, MgfSt.inst_instWith_same]
    exact ⟨rfl, MgfSt.inst_instWith_ne _ _ hs, h2, h3⟩
  case refine_8 =>
    intro u ss v s hh hs h0 hv
    refine ⟨_, congrArg Host.Outcome.next (State.fnConfigure_known hh hs h0 hv), ?_, rfl⟩
    rw [State.mgf_reply, State.st_fnConfigured]
  case refine_9 =>
    rintro u ss v s hh hv hs h2 rfl
    refine ⟨_, congrArg Host.Outcome.next (State.fnConfigure_interface hh hs h2 hv), ?_⟩
    rw [State.mgf_reply, State.mgf_epRestart, MgfSt.inst_restarted, State.get_reply, State.halt_epRestart]
    exact ⟨h2, rfl, rfl, rfl, rfl⟩
  case refine_10 =>
    intro fi ep s hh hv hs h2 h1 h3
    refine ⟨_, exec_setEndpointHalt, ?_⟩
    rw [State.epRequest_acts hh hs h2 hv h1 h3, State.epHalted_reply]
    exact ⟨State.epHalted_setHalt _ _ _ h1 h3, rfl⟩
  case refine_11 =>
    intro fi ep s hh hv hs h2 h1 h3
    refine ⟨_, exec_clearEndpointHalt, ?_⟩
    rw [State.epRequest_acts hh hs h2 hv h1 h3, State.epHalted_reply, State.epHalted_congr (State.halt_mgfSync ..), State.mgf_reply,
      State.mgf_mgfSync]
    unfold State.haltEnded
    rw [State.epHalted_setHalt _ _ _ h1 h3, State.mgf_setHalt, State.mgf_mgfWith]
    refine ⟨rfl, rfl, ?_⟩
    by_cases he : ep = 3
    · rw [he]
      rfl
    · exact (if_neg (fun h => he h.1)).trans (if_neg (fun h => he h.1)).symm
  case refine_12 =>
    intro fi s hh hs
    exact ⟨_, congrArg Host.Outcome.next (State.epRequest_zero hh hs), rfl⟩
  case refine_13 =>
    intro u s
    by_cases h : s.ssWanted u = s.ssServes u
    · exact ⟨_, exec_inServiceChange_same h, h.symm⟩
    · exact ⟨_, exec_inServiceChange_other h, (State.ssServes_noticeRenewed ..).trans (State.ssServes_handedOver ..)⟩
  case refine_14 =>
    intro u s h
    refine ⟨_, exec_inServiceChange_other h, ?_⟩
    rw [State.mgf_handedOver, State.halt_handedOver]
    exact ⟨rfl, rfl, rfl, rfl⟩

end Sys2Proof.Machine

namespace Sys2Proof.Machine

/-! PROOFS. Jobs of the graver: what a step leaves of their parts (R383–R386), and the TAKE, GIVE and POWER jobs (O53: R387, R388). -/

/-! ### A job's part on a port -/

/-- The part that a job has on a port. -/
def State.partOf (s : State) (id : Nat) (p : Port) : Option JobPort := (s.job id).bind (·.part p)

/-- Every job's part on every port is what it was. -/
def State.PartsStay (s t : State) : Prop := ∀ id p, t.partOf id p = s.partOf id p

section
variable {s t u : State} {id : Nat} {p : Port} {j : Job} {x : JobPort} {c : Byte}

theorem State.PartsStay.refl (s : State) : s.PartsStay s := fun _ _ => rfl

theorem State.PartsStay.trans (h : s.PartsStay t) (ht : t.PartsStay u) : s.PartsStay u := fun id p => (ht id p).trans (h id p)

theorem State.PartsStay.of_jobs (h : t.graver.jobs = s.graver.jobs) : s.PartsStay t := by
  intro id p
  unfold State.partOf State.job
  rw [h]

/-- An operation that keeps the job processor keeps its jobs' parts. -/
theorem State.PartsStay.of_keeps {M : List Part} (h : s.KeepsBut M t) (hM : .graver ∉ M) : s.PartsStay t := by
  have hsame : { t.graver with templates := [], buffer := [] } = { s.graver with templates := [], buffer := [] } := h.same .graver rfl hM
  have hjobs := congrArg Graver.jobs hsame
  exact .of_jobs hjobs

theorem State.PartsStay.ite {b : Prop} [Decidable b] (ht : s.PartsStay t) (hu : s.PartsStay u) : s.PartsStay (if b then t else u) := by
  split
  · exact ht
  · exact hu

/-- A job that has been changed keeps its number. -/
theorem State.job_mapped (s : State) {f : Job → Job} (hid : ∀ j, (f j).id = j.id) (n : Nat) :
    (s.grvWith (fun g => { g with jobs := g.jobs.map f })).job n = (s.job n).map f := by
  change (s.graver.jobs.map f).find? (fun j => j.id == n) = _
  rw [List.find?_map]
  unfold State.job
  congr 2
  funext j
  exact congrArg (· == n) (hid j)

/-- A job with a change of its group or its window keeps its parts. -/
theorem State.PartsStay.jobWith (s : State) (id : Nat) {f : Job → Job} (hid : ∀ j, (f j).id = j.id) (hp : ∀ j, (f j).ports = j.ports) :
    s.PartsStay (s.jobWith id f) := by
  intro n p
  unfold State.partOf State.jobWith
  rw [State.job_mapped s (fun j => by split <;> simp [hid]), Option.bind_map]
  congr 1
  funext j
  simp only [Function.comp, Job.part]
  split
  · rw [hp]
  · rfl

theorem Job.part_map {f : JobPort → JobPort} (hf : ∀ x, (f x).port = x.port) (l : List JobPort) :
    (l.map (fun x => if x.port = p then f x else x)).find? (fun x => x.port == p) = (l.find? (fun x => x.port == p)).map f := by
  induction l with
  | nil => rfl
  | cons x l ih =>
    by_cases hx : x.port = p
    · simp [hx, hf]
    · simpa [hx] using ih

theorem State.partOf_partWith (s : State) (id : Nat) (p : Port) {f : JobPort → JobPort} (hf : ∀ x, (f x).port = x.port) :
    (s.partWith id p f).partOf id p = (s.partOf id p).map f := by
  unfold State.partOf State.partWith
  rw [State.job_mapped s (fun j => by split <;> rfl)]
  cases hj : s.job id with
  | none => rfl
  | some j =>
    have hid : j.id = id := by simpa using List.find?_some hj
    simp only [Option.map_some, Option.bind_some, hid, if_true]
    exact Job.part_map hf j.ports

/-! ### The end of a job's part -/

theorem State.PartsStay.askGroup (s : State) : s.PartsStay s.askGroup := by
  unfold State.askGroup
  refine .ite (.refl s) ?_
  split
  · exact (State.PartsStay.jobWith s _ (by exact fun _ => rfl) (by exact fun _ => rfl)).trans
      (.of_keeps (State.KeepsBut.askLeave (M := [.arb]) (by decide) (.refl _)) (by decide))
  · exact .refl s

theorem State.PartsStay.groupCheck (s : State) (id : Nat) : s.PartsStay (s.groupCheck id) := by
  unfold State.groupCheck
  split
  · exact .refl s
  next j _ =>
    have hend : s.PartsStay (s.endLeave (winOp j.window)) :=
      .of_keeps (State.KeepsBut.endLeave (M := [.arb]) (by decide) (.refl s)) (by decide)
    refine .ite (.refl s) (.ite (.jobWith s _ (by exact fun _ => rfl) (by exact fun _ => rfl)) ?_)
    refine State.PartsStay.trans ?_ (.askGroup _)
    refine State.PartsStay.trans ?_ (.askGroup _)
    exact hend.trans (.jobWith _ _ (by exact fun _ => rfl) (by exact fun _ => rfl))

theorem State.PartsStay.lheNote (s : State) (p : Port) (op : Nat) (c : Byte) : s.PartsStay (s.lheNote p op c) :=
  .of_keeps (State.KeepsBut.lheNote (M := []) (.refl s)) (by decide)

theorem State.partOf_jobEnds (s : State) (j : Job) (p : Port) (c : Byte) :
    (s.jobEnds j p c).partOf j.id p = (s.partOf j.id p).map (fun x => { x with code := some c }) := by
  unfold State.jobEnds State.partEnd
  rw [State.PartsStay.groupCheck, State.PartsStay.lheNote, State.partOf_partWith s j.id p (by exact fun _ => rfl)]

theorem State.endedWith_jobEnds (h : s.partOf j.id p = some x) : (s.jobEnds j p c).endedWith j p = some c :=
  (congrArg (·.bind JobPort.code) ((s.partOf_jobEnds j p c).trans (congrArg _ h)))

theorem State.phaseOf_eq (h : s.partOf j.id p = some x) : s.phaseOf j p = some (x.phase, x.pos) :=
  congrArg (Option.map fun x : JobPort => (x.phase, x.pos)) h

/-- The code of a job's end stands in the port's page (R408). -/
theorem State.lastCode_jobEnds (s : State) (j : Job) (p : Port) (c : Byte) : (s.jobEnds j p c).get (.lhe p) F.LHE_STATUS_LAST_CODE = c.toNat := by
  have hgroup : (s.partEnd j p c).WritesOnly Zone.budget (s.jobEnds j p c) := .groupCheck (List.Subset.refl _) (.refl _)
  refine (hgroup (.lhe p) F.LHE_STATUS_LAST_CODE rfl).trans ?_
  have hput (t : State) : (t.put (.lhe p) F.LHE_STATUS_LAST_CODE c.toNat).get (.lhe p) F.LHE_STATUS_LAST_CODE = c.toNat :=
    State.get_put_fits _ _ _ _ (show 16 + 8 ≤ 32 by decide) c.isLt
  unfold State.partEnd State.lheNote
  dsimp only
  split
  · exact hput _
  · exact (State.get_put_off _ _ _ _ _ (show 0x44 ≠ 0x64 by decide)).trans (hput _)

end

/-! ### A job that runs -/

/-- A job runs on a port: its part is found by its number. -/
structure State.Runs (s : State) (p : Port) (op : Nat) (j : Job) (x : JobPort) : Prop where
  jobAt : s.jobAt p op = some (j, x)
  part : s.partOf j.id p = some x

section
variable {s : State} {p : Port} {op : Nat} {j : Job} {x : JobPort} {c : Byte}

theorem State.part_of_jobAt (h : s.jobAt p op = some (j, x)) : j.part p = some x := by
  unfold State.jobAt at h
  split at h
  · cases h
  split at h
  · cases h
  next i _ =>
    split at h
    · obtain ⟨y, hy, heq⟩ := Option.map_eq_some_iff.mp h
      cases heq
      exact hy
    · cases h

theorem State.runs_of_runsJob (h : s.runsJob p op j x = true) : s.Runs p op j x := by
  unfold State.runsJob at h
  obtain ⟨hat, hjob⟩ := Bool.and_eq_true_iff.mp h
  have hat' : s.jobAt p op = some (j, x) := beq_iff_eq.mp hat
  have hjob' : s.job j.id = some j := beq_iff_eq.mp hjob
  refine ⟨hat', ?_⟩
  unfold State.partOf
  rw [hjob']
  exact State.part_of_jobAt hat'

/-- A job that ends has its code, and the page shows it. -/
theorem State.Runs.ends (h : s.Runs p op j x) (c : Byte) :
    (s.jobEnds j p c).endedWith j p = some c ∧ (s.jobEnds j p c).get (.lhe p) F.LHE_STATUS_LAST_CODE = c.toNat :=
  ⟨State.endedWith_jobEnds h.part, s.lastCode_jobEnds j p c⟩

theorem State.Runs.setPhase (h : s.Runs p op j x) (n : Nat) : (s.setPhase j p n).partOf j.id p = some { x with phase := n } :=
  (s.partOf_partWith j.id p (f := fun x => { x with phase := n }) (fun _ => rfl)).trans (by rw [h.part]; rfl)

/-! ### TAKE and GIVE (R387) -/

theorem exec_take (h : s.Runs p 2 j x) (h0 : x.phase = 0) : exec (.take p) s = if s.curOwner p = 3 then .next (s.jobEnds j p cOk)
    else if (j.word 0x24).testBit (s.curOwner p) then .next ((s.setPhase j p 1).moveRequest p 3 3) else .next (s.jobEnds j p cOwner) := by
  change execTake p s = _
  unfold execTake
  rw [h.jobAt]
  exact if_pos h0

theorem exec_take_later (h : s.Runs p 2 j x) (h0 : x.phase ≠ 0) (hm : s.moving p = false) :
    exec (.take p) s = .next (s.jobEnds j p (if s.curOwner p = 3 then cOk else cOwner)) := by
  change execTake p s = _
  unfold execTake
  rw [h.jobAt]
  exact (if_neg h0).trans (if_neg (by simp [hm]))

theorem exec_give (h : s.Runs p 11 j x) (h0 : x.phase = 0) : exec (.give p) s = .next ((s.setPhase j p 1).moveRequest p (j.word 0x24) 3) := by
  change execGive p s = _
  unfold execGive
  rw [h.jobAt]
  exact if_pos h0

theorem exec_give_later (h : s.Runs p 11 j x) (h0 : x.phase ≠ 0) (hm : s.moving p = false) :
    exec (.give p) s = .next (s.jobEnds j p cLostOwner) := by
  change execGive p s = _
  unfold execGive
  rw [h.jobAt]
  exact (if_neg h0).trans (if_neg (by simp [hm]))

/-- A TAKE or GIVE that asks for its move: the move is pending, and the job waits for it. -/
theorem State.Runs.asks (h : s.Runs p op j x) {v : Nat} (hm : s.Movable p v) (hv : v < 4) :
    ((s.setPhase j p 1).moveRequest p v 3).moving p = true ∧
    ((s.setPhase j p 1).moveRequest p v 3).get .prs (F.PRS_OWNERn_OWNER p.val) = v ∧
    ((s.setPhase j p 1).moveRequest p v 3).phaseOf j p = some (1, x.pos) := by
  have hm' : (s.setPhase j p 1).Movable p v := hm.stays ((State.OwnersStay.refl s).hidden rfl) id
  obtain ⟨hmove, hown, -⟩ := (hm'.asked hv 3).1
  have hkeep := State.KeepsBut.moveRequest (p := p) (v := v) (cause := 3) (List.Subset.refl _) (.refl (s.setPhase j p 1))
  exact ⟨hmove, hown, State.phaseOf_eq ((State.PartsStay.of_keeps hkeep (by decide) j.id p).trans (h.setPhase 1))⟩

end

/-! ### POWER (R388) -/

/-- What a written `FORCE_OFF` leads to (R205). -/
def Zone.forced : List Zone := Zone.ask ++ Zone.opening

theorem State.WritesIn.askAgain {W : List Zone} {was s : State} {p : Port} (hW : Zone.ask ⊆ W) (h : was.WritesIn W s) :
    was.WritesIn W (s.askAgain p) :=
  .ite (.ite (.ite (.askLeave (.pdWith h)) h) h) (.askTurnOn hW h)

theorem State.WritesIn.forceOffChanged {W : List Zone} {was s : State} {p : Port} (hW : Zone.forced ⊆ W) (h : was.WritesIn W s) :
    was.WritesIn W (s.forceOffChanged p) :=
  .ite (.put hW rfl (.vbsOpen (List.Subset.trans (by decide) hW) (.endReserve (List.Subset.trans (by decide) hW) h)))
    (.askAgain (List.Subset.trans (by decide) hW) h)

section
variable {s : State} {p : Port} {j : Job} {x : JobPort}

/-- A job's write of `FORCE_OFF` stands. -/
theorem State.forceOff_grvForce (s : State) (p : Port) (b : Bool) : (s.grvForce p b).get (.vbs p) F.VBS_CTRL_FORCE_OFF = bit b := by
  have hput : (s.putRw (.vbs p) F.VBS_CTRL_FORCE_OFF (bit b)).get (.vbs p) F.VBS_CTRL_FORCE_OFF = bit b :=
    (State.putRw_get ..).trans (State.get_setFlag_same s (.vbs p) b (by decide) (by decide))
  have hforced := State.WritesIn.forceOffChanged (p := p) (List.Subset.refl _) (.refl (s.putRw (.vbs p) F.VBS_CTRL_FORCE_OFF (bit b)))
  unfold State.grvForce
  dsimp only
  split
  next h =>
    have hlt : s.get (.vbs p) F.VBS_CTRL_FORCE_OFF < 2 ^ 1 := fldGet_lt ..
    unfold State.flag at h
    generalize s.get (.vbs p) F.VBS_CTRL_FORCE_OFF = n at h hlt
    subst h
    interval_cases n <;> rfl
  · split
    · exact ((State.WritesIn.usbEval (List.Subset.trans (by decide) (List.Subset.refl Zone.forced)) (.askTurnOn (List.Subset.trans (by decide)
        (List.Subset.refl Zone.forced)) hforced)).get _ _ rfl).trans hput
    · exact (hforced.get _ _ rfl).trans hput

/-- The end of a job leaves the switch's control. -/
theorem State.forceOff_jobEnds (s : State) (j : Job) (p : Port) (c : Byte) :
    (s.jobEnds j p c).get (.vbs p) F.VBS_CTRL_FORCE_OFF = s.get (.vbs p) F.VBS_CTRL_FORCE_OFF :=
  State.WritesOnly.jobEnds (List.Subset.refl _) (.refl s) (.vbs p) F.VBS_CTRL_FORCE_OFF rfl

theorem State.forceOff_powerOn (s : State) (j : Job) (p : Port) : (s.powerOn j p).get (.vbs p) F.VBS_CTRL_FORCE_OFF = 0 := by
  have hforce : ((s.setPhase j p 3).grvForce p false).get (.vbs p) F.VBS_CTRL_FORCE_OFF = 0 := State.forceOff_grvForce ..
  unfold State.powerOn
  dsimp only
  split
  · exact (State.forceOff_jobEnds ..).trans hforce
  split
  · exact (State.forceOff_jobEnds ..).trans hforce
  · exact hforce

theorem State.powerWait_on (h : s.vbusOn p = true) : s.powerWait j p = s.jobEnds j p cOk := if_pos h

theorem State.powerWait_fails (h : s.vbusOn p = false) (hf : s.flag (.vbs p) F.VBS_CTRL_FORCE_OFF = true) :
    s.powerWait j p = s.jobEnds j p cPowerFail :=
  (if_neg (by simp [h])).trans (if_pos (by simp [hf]))

/-- The switch told to open, for a POWER that goes off. -/
def State.powerGoesOff (s : State) (j : Job) (p : Port) : State := (s.setPhase j p 1).grvForce p true

theorem exec_powerOff (h : s.Runs p 1 j x) (hmode : j.word 0x24 = 0) : exec (.powerOff p) s = if x.phase = 0
    then .next (if !s.gateOn p || (s.powerGoesOff j p).vbsRests p then (s.powerGoesOff j p).jobEnds j p cOk else s.powerGoesOff j p)
    else .next (if s.vbsRests p then s.jobEnds j p cOk else s) := by
  change execPowerOff p s = _
  unfold execPowerOff
  rw [h.jobAt]
  exact if_neg (not_not.mpr hmode)

theorem exec_powerOn (h : s.Runs p 1 j x) (hmode : j.word 0x24 = 1) :
    exec (.powerOn p) s = if x.phase = 0 then .next (s.powerOn j p) else .next (s.powerWait j p) := by
  change execPowerOn p s = _
  unfold execPowerOn
  rw [h.jobAt]
  exact if_neg (not_not.mpr hmode)

/-- The phases of a POWER that cycles. -/
def State.powerCycles (s : State) (j : Job) (p : Port) : Nat → State
  | 0 => s.powerGoesOff j p
  | 1 => if s.vbsRests p && s.flag (.vbs p) F.VBS_STATUS_SAFE0V then s.setPhase j p 2 else s
  | 2 => s.powerOn j p
  | _ => s.powerWait j p

theorem exec_powerCycle (h : s.Runs p 1 j x) (hmode : j.word 0x24 = 2) : exec (.powerCycle p) s = .next (s.powerCycles j p x.phase) := by
  change execPowerCycle p s = _
  unfold execPowerCycle State.powerCycles
  rw [h.jobAt]
  refine (if_neg (not_not.mpr hmode)).trans ?_
  rcases x.phase with _ | _ | _ | n <;> rfl

end

/-- Settles O53: each step asks for its move or its switch, and a step that is done or refused is the end of the job's part. -/
theorem serviceJobsMoveOwnershipAndPower : Obligations.ServiceJobsMoveOwnershipAndPower := by
  unfold Obligations.ServiceJobsMoveOwnershipAndPower
  refine ⟨?_, ?_, ?_, ?_, ?_, ?_, ?_, ?_, ?_, ?_, ?_, ?_, ?_, ?_, ?_⟩
  case refine_1 =>
    intro p j x s hr h0 hown
    have h := State.runs_of_runsJob hr
    exact ⟨_, (exec_take h h0).trans (if_pos hown), h.ends cOk⟩
  case refine_2 =>
    intro p j x s hr h0 hown hset hbad hnat hm
    have h := State.runs_of_runsJob hr
    exact ⟨_, (exec_take h h0).trans ((if_neg hown).trans (if_pos hset)), h.asks ⟨hnat, hbad, hown⟩ (by decide)⟩
  case refine_3 =>
    intro p j x s hr h0 hown hset
    have h := State.runs_of_runsJob hr
    exact ⟨_, (exec_take h h0).trans ((if_neg hown).trans (if_neg (by simp [hset]))), h.ends cOwner⟩
  case refine_4 =>
    intro p j x s hr h0 hm
    have h := State.runs_of_runsJob hr
    exact ⟨_, exec_take_later h h0 hm, (h.ends _).1⟩
  case refine_5 =>
    intro p j x s hr h0 hown hto hbad hnat hm
    have h := State.runs_of_runsJob hr
    exact ⟨_, exec_give h h0, h.asks ⟨hnat, hbad, by omega⟩ (by omega)⟩
  case refine_6 =>
    intro p j x s hr h0 hm
    have h := State.runs_of_runsJob hr
    exact ⟨_, exec_give_later h h0 hm, h.ends cLostOwner⟩
  case refine_7 =>
    intro p j x s hr hmode h0
    have hoff : (s.powerGoesOff j p).get (.vbs p) F.VBS_CTRL_FORCE_OFF = 1 := State.forceOff_grvForce ..
    refine ⟨_, (exec_powerOff (State.runs_of_runsJob hr) hmode).trans (if_pos h0), ?_⟩
    split
    · exact (State.forceOff_jobEnds ..).trans hoff
    · exact hoff
  case refine_8 =>
    intro p j x s hr hmode h0 hrest
    have h := State.runs_of_runsJob hr
    exact ⟨_, (exec_powerOff h hmode).trans ((if_neg h0).trans (congrArg Host.Outcome.next (if_pos hrest))), h.ends cOk⟩
  case refine_9 =>
    intro p j x s hr hmode h0
    exact ⟨_, (exec_powerOn (State.runs_of_runsJob hr) hmode).trans (if_pos h0), State.forceOff_powerOn ..⟩
  case refine_10 =>
    intro p j x s hr hmode h0 hon
    have h := State.runs_of_runsJob hr
    exact ⟨_, (exec_powerOn h hmode).trans ((if_neg h0).trans (congrArg Host.Outcome.next (State.powerWait_on hon))), h.ends cOk⟩
  case refine_11 =>
    intro p j x s hr hmode h0 hon hf
    have h := State.runs_of_runsJob hr
    exact ⟨_, (exec_powerOn h hmode).trans ((if_neg h0).trans (congrArg Host.Outcome.next (State.powerWait_fails hon hf))), h.ends cPowerFail⟩
  case refine_12 =>
    intro p j x s hr hmode h0
    refine ⟨_, exec_powerCycle (State.runs_of_runsJob hr) hmode, ?_⟩
    rw [h0]
    exact State.forceOff_grvForce ..
  case refine_13 =>
    intro p j x s hr hmode h1 hrest hsafe
    have h := State.runs_of_runsJob hr
    refine ⟨_, exec_powerCycle h hmode, ?_⟩
    rw [h1, show s.powerCycles j p 1 = s.setPhase j p 2 from if_pos (by simp [hrest, hsafe])]
    exact State.phaseOf_eq (h.setPhase 2)
  case refine_14 =>
    intro p j x s hr hmode h2
    refine ⟨_, exec_powerCycle (State.runs_of_runsJob hr) hmode, ?_⟩
    rw [h2]
    exact State.forceOff_powerOn ..
  case refine_15 =>
    intro p j x s hr hmode h3 hon
    have h := State.runs_of_runsJob hr
    refine ⟨_, exec_powerCycle h hmode, ?_⟩
    rw [h3, show s.powerCycles j p 3 = s.jobEnds j p cOk from State.powerWait_on hon]
    exact h.ends cOk

end Sys2Proof.Machine

namespace Sys2Proof.Machine

/-! PROOFS. The jobs that speak to a device (O54: R393). -/

/-- A READ of no bytes into the fan-out buffer, running on port 0. -/
def emptyReadJob : Job := jobOf (descOf 7 0 [1, 0, 0x40000000, 0]) true (partOf 0 0)

/-- That READ with its device there on USB 2.0. -/
def emptyReadState : State := (wJob emptyReadJob).putAll [(.u2p 0, F.U2P_STATUS_STATE, 5)]

/-- The READ runs, its device answers on the buffer's port, and its length is what a packet without data brings. -/
theorem emptyReadState_runs : emptyReadState.runsJob 0 7 emptyReadJob (partOf 0 0) = true ∧
    emptyReadState.devHere 0 (emptyReadState.jobSs emptyReadJob 0) = true ∧ emptyReadState.grvWaits emptyReadJob.adr = false ∧
    adrSpace (emptyReadJob.adr + (partOf 0 0).pos) = 1 ∧ (partOf 0 0).pos + ([] : List Byte).length = emptyReadJob.len := by
  decide +kernel

theorem State.bufGet_length (s : State) (a n : Nat) : (s.bufGet a n).length = n := by simp [State.bufGet]

/-- Refutes O54: a READ whose `LENGTH` is 0 ends with a packet without data. The clause on the end of a READ then asks that the byte of the
buffer at the job's address, which stands whether or not a byte has come, be the first byte of an empty list. -/
theorem not_serviceJobsServeTheirDevices : ¬ Obligations.ServiceJobsServeTheirDevices := by
  unfold Obligations.ServiceJobsServeTheirDevices
  rintro ⟨-, -, -, -, -, -, -, -, -, -, -, hread, -⟩
  obtain ⟨hruns, hdev, hwait, hspace, hlen⟩ := emptyReadState_runs
  obtain ⟨t, -, -, -, -, hbyte⟩ := hread 0 emptyReadJob (partOf 0 0) [] true emptyReadState hruns hdev hwait hspace hlen
  have hone := t.bufGet_length (adrOff (emptyReadJob.adr + (partOf 0 0).pos)) 1
  rw [hbyte] at hone
  exact absurd hone (by decide)

end Sys2Proof.Machine

namespace Sys2Proof.Machine

/-! PROOFS. Captures that run beside the queue (O55: R400, R401). -/

/-- A CDC CAPTURE that has begun on port 0. -/
def cdcCaptureJob : Job := jobOf (descOf 8 0 [0x101, 0, 0, 12]) true (partOf 1 0)

/-- Its capture, with `n` bytes that wait for DRAM. -/
def cdcCapture (n : Nat) : Capture := ⟨0, 0, 0, true, false, 0, 12, List.replicate n (.byte 0 false 0), false, none, false, false⟩

/-- Two CDC captures on port 0, whose device is there: one with an empty buffer, one with 510 of the port's 512 bytes. -/
def twoCapturesState : State :=
  ((wJob cdcCaptureJob).grvWith (fun g => { g with caps := [cdcCapture 0, cdcCapture 510] })).putAll [(.u2p 0, F.U2P_STATUS_STATE, 5)]

theorem twoCapturesState_polls : twoCapturesState.lheUp 0 = true ∧ twoCapturesState.capWaiting 0 true = none ∧
    twoCapturesState.cap 0 true = some (cdcCapture 0) ∧ twoCapturesState.devHere 0 (cdcCapture 0).ss = true := by
  decide +kernel

/-- Bytes of the first CDC capture of port 0 that an outcome's state has taken. -/
def takenIn : Host.Outcome State Fault Refusal → Option Nat
  | .next t => (t.cap 0 true).map (fun d => capBytes d.items)
  | _ => none

/-- Of two bytes that the device sends one is taken: it fills a byte of each capture. -/
theorem twoCapturesState_takes : takenIn (exec (.captureCdc 0 (.data [0, 0] false)) twoCapturesState) = some 1 := by
  decide +kernel

/-- Refutes O55: where a list of captures holds two of a kind on one port, a byte that arrives is kept in both, so that the 512 bytes of the
port are used up twice as fast as the clause on a poll of a CDC capture counts them. -/
theorem not_waitsAndStopsEndJobs : ¬ Obligations.WaitsAndStopsEndJobs := by
  unfold Obligations.WaitsAndStopsEndJobs
  rintro ⟨-, -, -, -, -, -, -, -, -, -, -, -, -, -, -, -, hpoll, -⟩
  obtain ⟨hup, hwait, hcap, hdev⟩ := twoCapturesState_polls
  obtain ⟨t, ht, -, htaken⟩ := hpoll 0 (cdcCapture 0) [0, 0] false twoCapturesState hup hwait hcap rfl rfl hdev
  have hone := twoCapturesState_takes
  rw [ht] at hone
  have htwo : takenIn (.next t) = some (capBytes (cdcCapture 0).items + min [(0 : Byte), 0].length (512 - twoCapturesState.capWaits 0)) := htaken
  rw [hone] at htwo
  exact absurd htwo (by decide +kernel)

end Sys2Proof.Machine

namespace Sys2Proof.Machine

/-! PROOFS. The windows of the DRAM controller (O57: R413). -/

/-- A LOAD of no words from address 0. -/
def emptyLoad : WinCmd := ⟨false, 0, 0, false⟩

/-- A trained DRAM whose word 0 cannot be corrected, with that LOAD in window 0. -/
def emptyLoadState : State :=
  (w0.putAll [(.clk, F.CLK_RESET_STATUS_DRC_IN_RST, 0), (.drc, F.DRC_STATUS_STATE, 4), (.drc, F.DRC_STATUS_SIZE_MIB, 64)]).dramWith
    (fun d => { d with win := d.win.set 0 (some emptyLoad), errs := [(0, true)] })

theorem emptyLoadState_runs : emptyLoadState.dramUp = true ∧ emptyLoadState.dram.win[(0 : WinIx)] = some emptyLoad ∧
    emptyLoadState.dram.errAt (emptyLoad.addr / 8) = some true := by
  decide +kernel

/-- `RESULT` of window 0 in an outcome's state. -/
def resultIn : Host.Outcome State Fault Refusal → Option Nat
  | .next t => some (t.get .drc (F.DRC_WINw_CTRL_RESULT 0))
  | _ => none

/-- A LOAD that reads no word meets no error. -/
theorem emptyLoadState_result : resultIn (exec (.windowCommandEnd 0) emptyLoadState) = some 0 := by
  decide +kernel

/-- Refutes O57: the clause on an uncorrectable word asks for `RESULT` 2 of every LOAD that begins at it, but a command of no words reads none
and ends with `RESULT` 0. -/
theorem not_dramTrainsScrubsAndServesWindows : ¬ Obligations.DramTrainsScrubsAndServesWindows := by
  unfold Obligations.DramTrainsScrubsAndServesWindows
  rintro ⟨-, -, -, -, -, -, -, -, -, -, -, -, -, hload, -⟩
  obtain ⟨hup, hwin, herr⟩ := emptyLoadState_runs
  obtain ⟨t, ht, hresult, -⟩ := hload 0 emptyLoad emptyLoadState hup hwin rfl herr rfl
  have hzero := emptyLoadState_result
  rw [ht] at hzero
  have htwo : resultIn (.next t) = some 2 := congrArg some hresult
  rw [hzero] at htwo
  exact absurd htwo (by decide)

end Sys2Proof.Machine

namespace Sys2Proof.Machine

/-! PROOFS. The registers that stand while ports reset and the arbiter decides (O18, O58): the mode, the state and the counters of the
emulated hubs, and what the health controller holds. As with the other frames, the lemma about an operation bears its name and follows its
definition; where the zones of an operation are known already, they miss these registers. -/

/-! ### The standing registers -/

/-- `GLB_MODE`, `CPT_STATUS`, the counters of CPT, `HLT_STATUS`, the sensors and `HLT_QUAR`. -/
def standing : List (PageId × Nat) :=
  [(.glb, 0x68), (.cpt, 0x44), (.cpt, 0x4C), (.hlt, 0x44), (.hlt, 0x48), (.hlt, 0x4C), (.hlt, 0x50), (.hlt, 0x54), (.hlt, 0x58), (.hlt, 0x60),
    (.hlt, 0x64)]

/-- A register of a kind of page is none of them. -/
def clearReg (k : PageKind) (off : Nat) : Bool := Nat.blt off 0x1000 && standing.all fun x => pageKind x.1 != k || !(x.2 == off)

/-- Zones miss them. -/
def clearZones (W : List Zone) : Bool :=
  W.all fun z => standing.all fun x => z.kind != pageKind x.1 || Nat.blt x.2 z.first || Nat.blt z.last x.2

/-- From `s` to `t` the standing registers have kept their fields. -/
def State.Stands (s t : State) : Prop := ∀ x ∈ standing, ∀ f : Fld, f.off = x.2 → t.get x.1 f = s.get x.1 f

theorem standing_off : ∀ x ∈ standing, x.2 < 0x1000 ∧ x.2 ≠ 0xC := by decide

theorem clearReg_ne {pg : PageId} {off : Nat} (h : clearReg (pageKind pg) off = true) {x : PageId × Nat} (hx : x ∈ standing) :
    x.1 ≠ pg ∨ x.2 ≠ off := by
  simp only [clearReg, Bool.and_eq_true, List.all_eq_true, Bool.or_eq_true, bne_iff_ne, Bool.not_eq_true', beq_eq_false_iff_ne] at h
  rcases h.2 x hx with hk | hoff
  · exact .inl fun e => hk (congrArg pageKind e)
  · exact .inr hoff

/-- A register of a page of a kind that holds none of them. -/
theorem clearReg_of_kind {k : PageKind} {off : Nat} (hk : standing.all (fun x => pageKind x.1 != k) = true) (hoff : off < 0x1000) :
    clearReg k off = true := by
  simp only [clearReg, Bool.and_eq_true, Nat.blt_eq, List.all_eq_true, Bool.or_eq_true] at hk ⊢
  exact ⟨hoff, fun x hx => .inl (hk x hx)⟩

namespace State.Stands

variable {W : List Zone} {was s t : State}

theorem refl (s : State) : s.Stands s := fun _ _ _ _ => rfl

theorem trans (h : was.Stands s) (ht : s.Stands t) : was.Stands t := fun x hx f hf => (ht x hx f hf).trans (h x hx f hf)

theorem flag (h : s.Stands t) {x : PageId × Nat} (hx : x ∈ standing) {f : Fld} (hf : f.off = x.2) : t.flag x.1 f = s.flag x.1 f := by
  simp only [State.flag, h x hx f hf]

/-- A change of hidden state alone. -/
theorem hidden (h : was.Stands s) (hregs : t.regs = s.regs) : was.Stands t :=
  h.trans fun _ _ _ _ => by simp only [State.get, State.rd, hregs]

/-- Writes whose zones miss the registers. -/
theorem writes (hW : clearZones W = true) (hw : s.WritesOnly W t) (h : was.Stands s) : was.Stands t := by
  refine h.trans fun x hx f hf => hw x.1 f ?_
  obtain ⟨hlt, hoff⟩ := standing_off x hx
  simp only [Zone.spared, Bool.and_eq_true, Nat.blt_eq, bne_iff_ne, List.all_eq_true, hf]
  refine ⟨⟨hlt, hoff⟩, fun z hz => ?_⟩
  simp only [clearZones, List.all_eq_true, Bool.or_eq_true] at hW
  simp only [Zone.misses, Bool.or_eq_true, hf]
  exact .inl (.inl (hW z hz x hx))

theorem writesIn (hW : clearZones W = true) (hw : s.WritesIn W t) (h : was.Stands s) : was.Stands t := writes hW hw.get h

/-- An operation that keeps the pages of the registers. -/
theorem pages (hp : s.KeepsPages [.glb, .cpt, .hlt] t) (h : was.Stands s) : was.Stands t := by
  refine h.trans fun x hx f hf => hp.get x.1 ?_ f (hf ▸ (standing_off x hx).1)
  exact (show ∀ x ∈ standing, x.1 ∈ [PageId.glb, .cpt, .hlt] by decide) x hx

/-! ### The shapes of the operations -/

theorem ite {c : Prop} [Decidable c] (hs : was.Stands s) (ht : was.Stands t) : was.Stands (if c then s else t) := by
  split
  · exact hs
  · exact ht

theorem foldl {α : Type} {l : List α} {f : State → α → State} (hf : ∀ s x, was.Stands s → was.Stands (f s x)) (h : was.Stands s) :
    was.Stands (l.foldl f s) := by
  induction l generalizing s with
  | nil => exact h
  | cons x l ih => exact ih (hf _ _ h)

theorem foldl_fst {α β : Type} {l : List α} {f : State × β → α → State × β} {p : State × β}
    (hf : ∀ p x, was.Stands p.1 → was.Stands (f p x).1) (h : was.Stands p.1) : was.Stands (l.foldl f p).1 := by
  induction l generalizing p with
  | nil => exact h
  | cons x l ih => exact ih (hf _ _ h)

/-! ### The primitive changes -/

theorem put {pg f v} (h : was.Stands s) (hf : clearReg (pageKind pg) f.off = true) : was.Stands (s.put pg f v) := by
  refine h.trans fun x hx g hg => ?_
  have hlt : f.off < 0x1000 := by
    simp only [clearReg, Bool.and_eq_true, Nat.blt_eq] at hf
    exact hf.1
  by_cases he : x.1 = pg
  · rcases clearReg_ne hf hx with hne | hoff
    · exact absurd he hne
    · exact he ▸ State.get_put_off _ _ _ _ _ (hg ▸ hoff)
  · exact State.get_put_page _ _ _ _ he hlt (hg ▸ (standing_off x hx).1)

theorem setFlag {pg f b} (h : was.Stands s) (hf : clearReg (pageKind pg) f.off = true) : was.Stands (s.setFlag pg f b) := put h hf

theorem countBy {pg f n} (h : was.Stands s) (hf : clearReg (pageKind pg) f.off = true) : was.Stands (s.countBy pg f n) := put h hf

theorem count {pg f} (h : was.Stands s) (hf : clearReg (pageKind pg) f.off = true) : was.Stands (s.count pg f) := countBy h hf

theorem putRw {pg f v} (h : was.Stands s) (hf : clearReg (pageKind pg) f.off = true) : was.Stands (s.putRw pg f v) := by
  refine (put (v := v) h hf).hidden ?_
  unfold State.putRw State.mendParity
  split
  · rfl
  · dsimp only
    split <;> rfl

theorem raiseWith {pg e src detail assert subj} (h : was.Stands s) : was.Stands (s.raiseWith pg e src detail assert subj) :=
  writesIn (W := []) rfl (.raiseWith (.refl s)) h

theorem raise {pg e src detail assert} (h : was.Stands s) : was.Stands (s.raise pg e src detail assert) := raiseWith h

theorem raisePort {pg p e detail assert} (h : was.Stands s) : was.Stands (s.raisePort pg p e detail assert) := raiseWith h

theorem raisePres {pg u e src detail assert} (h : was.Stands s) : was.Stands (s.raisePres pg u e src detail assert) := raiseWith h

theorem setFault {pg n} (h : was.Stands s) : was.Stands (s.setFault pg n) := by
  refine put h ?_
  simp only [clearReg, Bool.and_eq_true, List.all_eq_true, Bool.or_eq_true]
  exact ⟨rfl, fun x hx => .inr ((show ∀ x ∈ standing, (!(x.2 == 0x14)) = true by decide) x hx)⟩

theorem presWith {u f} (h : was.Stands s) : was.Stands (s.presWith u f) := hidden h rfl

theorem hubWith {hc f} (h : was.Stands s) : was.Stands (s.hubWith hc f) := hidden h rfl

theorem ssHubWith {sc f} (h : was.Stands s) : was.Stands (s.ssHubWith sc f) := hidden h rfl

theorem sspWith {i f} (h : was.Stands s) : was.Stands (s.sspWith i f) := hidden h rfl

theorem upLkWith {i f} (h : was.Stands s) : was.Stands (s.upLkWith i f) := hidden h rfl

theorem u2pWith {i f} (h : was.Stands s) : was.Stands (s.u2pWith i f) := hidden h rfl

theorem vbsWith {i f} (h : was.Stands s) : was.Stands (s.vbsWith i f) := hidden h rfl

theorem tcpWith {i f} (h : was.Stands s) : was.Stands (s.tcpWith i f) := hidden h rfl

theorem pdWith {i f} (h : was.Stands s) : was.Stands (s.pdWith i f) := hidden h rfl

theorem conWith {i f} (h : was.Stands s) : was.Stands (s.conWith i f) := hidden h rfl

theorem lheWith {i f} (h : was.Stands s) : was.Stands (s.lheWith i f) := hidden h rfl

theorem grvWith {f} (h : was.Stands s) : was.Stands (s.grvWith f) := hidden h rfl

theorem arbWith {f} (h : was.Stands s) : was.Stands (s.arbWith f) := hidden h rfl

theorem mgfWith {u f} (h : was.Stands s) : was.Stands (s.mgfWith u f) := hidden h rfl

theorem healthWith {f} (h : was.Stands s) : was.Stands (s.healthWith f) := hidden h rfl

theorem setCptByte {i a v} (h : was.Stands s) (ha : a < 0x400) : was.Stands (s.setCptByte i a v) := by
  have hclear : clearReg (pageKind (.win i)) (4 * a) = true := clearReg_of_kind rfl (by omega)
  exact (State.wr_eq_put s (.win i) (4 * a) (BitVec.ofNat 32 (v % 256 &&& winMask a)) ▸ put h hclear :)

end State.Stands

end Sys2Proof.Machine

namespace Sys2Proof.Machine

/-! PROOFS. The standing registers while a port is reset and released (O18, O58). -/

namespace State.Stands

open List (Subset.refl)

variable {was s t : State} {p : Port}

/-! ### Operations whose zones miss the registers -/

theorem u2Eval (h : was.Stands s) : was.Stands (s.u2Eval p) := writesIn (by decide) (.u2Eval (Subset.refl Zone.usb) (.refl s)) h

theorem usbEval (h : was.Stands s) : was.Stands (s.usbEval p) := writesIn (by decide) (.usbEval (Subset.refl Zone.usb) (.refl s)) h

theorem ssLeave {f dest cause} (h : was.Stands s) : was.Stands (s.ssLeave f dest cause) :=
  writesIn (by decide) (.ssLeave (Subset.refl Zone.usb) (.refl s)) h

theorem ssDetect {f cause} (h : was.Stands s) : was.Stands (s.ssDetect f cause) :=
  writesIn (by decide) (.ssDetect (Subset.refl Zone.usb) (.refl s)) h

theorem ssEvalAs {f cause} (h : was.Stands s) : was.Stands (s.ssEvalAs f cause) := writesIn (by decide) (s.ssEvalAs_writes f cause) h

theorem vsetLoad (h : was.Stands s) : was.Stands (s.vsetLoad p) := writesIn (W := []) rfl (.vsetLoad (.refl s)) h

theorem vbsOpen {cause} (h : was.Stands s) : was.Stands (s.vbsOpen p cause) :=
  writesIn (by decide) (.vbsOpen (Subset.refl Zone.opening) (.refl s)) h

theorem ccDisable {a b c} (h : was.Stands s) : was.Stands (s.ccDisable p a b c) :=
  ite h (writesIn (by decide) (.ccEnd (Subset.refl Zone.leaving) (.refl s)) h)

theorem rpApply (h : was.Stands s) : was.Stands (s.rpApply p) := writesIn (by decide) (.rpApply (Subset.refl Zone.rp) (.refl s)) h

theorem ccEval (h : was.Stands s) : was.Stands (s.ccEval p) := writesIn (by decide) (.ccEval (Subset.refl Zone.classified) (.refl s)) h

theorem ccStart (h : was.Stands s) : was.Stands (s.ccStart p) := ite (ccEval (usbEval (rpApply (put (put h rfl) rfl)))) h

theorem jobEnds {j code} (h : was.Stands s) : was.Stands (s.jobEnds j p code) :=
  writes (by decide) (.jobEnds (Subset.refl Zone.job) (.refl s)) h

theorem capEnds {cdc code} (h : was.Stands s) : was.Stands (s.capEnds p cdc code) :=
  writes (by decide) (.capEnds (Subset.refl Zone.capture) (.refl s)) h

theorem batchesEnd (h : was.Stands s) : was.Stands s.batchesEnd := writes (by decide) (.batchesEnd (Subset.refl Zone.wake) (.refl s)) h

/-! ### Moves -/

theorem clearReg_owner {off : Nat} (h : off < 0x1000) : clearReg (pageKind .prs) off = true := clearReg_of_kind rfl h

theorem putOwner {lo w v : Nat} (h : was.Stands s) : was.Stands (s.put .prs ⟨0x100 + 4 * p.val, lo, w⟩ v) :=
  put h (clearReg_owner (show 0x100 + 4 * p.val < 0x1000 by omega))

theorem askOwner {v : Nat} (h : was.Stands s) : was.Stands (s.putRw .prs (F.PRS_OWNERn_OWNER p.val) v) :=
  putRw h (clearReg_owner (show 0x100 + 4 * p.val < 0x1000 by omega))

theorem setBegun {b} (h : was.Stands s) : was.Stands (s.setBegun p b) := hidden h rfl

theorem setMoveCause {c} (h : was.Stands s) : was.Stands (s.setMoveCause p c) := hidden h rfl

theorem moveCancel (h : was.Stands s) : was.Stands (s.moveCancel p) :=
  batchesEnd (foldl (fun _ _ h' => presWith h') (setBegun (putOwner (ite h (askOwner h)))))

theorem moveDecide {cause} (h : was.Stands s) : was.Stands (s.moveDecide p cause) :=
  ite (ite (moveCancel (ite (putOwner h) h)) (setMoveCause h)) (ite h (setBegun (putOwner (setMoveCause h))))

theorem moveRequest {v cause} (h : was.Stands s) : was.Stands (s.moveRequest p v cause) := ite h (moveDecide (askOwner h))

theorem failbackCheck (h : was.Stands s) : was.Stands s.failbackCheck := ite h (put h rfl)

/-! ### A port's entry to reset -/

theorem lheReset (h : was.Stands s) : was.Stands (s.lheReset p) :=
  lheWith (capEnds (capEnds (foldl (fun _ _ h' => ite (jobEnds h') h') (foldl (fun _ _ h' => ite (jobEnds h') h') h))))

theorem lrKeep (h : was.Stands s) : was.Stands (s.lrKeep p).2 := by
  unfold State.lrKeep
  split
  · exact h
  · exact hidden h rfl

theorem clearPage {pg} (hpg : pg ∉ [PageId.glb, .cpt, .hlt]) (h : was.Stands s) : was.Stands (s.clearPage pg) :=
  pages (s.clearPage_keepsPages hpg) h

theorem sspClear {f} (h : was.Stands s) : was.Stands (s.sspClear f) := sspWith (clearPage (by simp) h)

theorem portClear (h : was.Stands s) : was.Stands (s.portClear p) := by
  unfold State.portClear
  split
  next keep u hkeep =>
  have hu : was.Stands u := by
    have hkept := lrKeep (p := p) h
    rwa [hkeep] at hkept
  extract_lets quar last fit st host s1 s2 s3 s4
  have h1 : was.Stands s1 := clearPage (by simp) (clearPage (by simp) (clearPage (by simp) (clearPage (by simp) (clearPage (by simp) hu))))
  have h2 : was.Stands s2 := by
    show was.Stands (match fullOf p with | none => s1 | some f => s1.sspClear f)
    split
    · exact h1
    · exact sspClear h1
  have h3 : was.Stands s3 := put (put (put (put (put h2 rfl) rfl) rfl) rfl) rfl
  exact lheWith (conWith (pdWith (tcpWith (vbsWith (u2pWith h3)))))

theorem portReset (h : was.Stands s) : was.Stands (s.portReset p) := by
  unfold State.portReset
  refine ite h ?_
  extract_lets s1 s2 s3 s4
  have h1 : was.Stands s1 := put h (clearReg_of_kind rfl (portBit_off_lt (by decide) (by decide) p))
  have h2 : was.Stands s2 := by
    show was.Stands (match fullOf p with | none => s1 | some f => s1.ssEvalAs f 2)
    split
    · exact h1
    · exact ssEvalAs h1
  have h3 : was.Stands s3 := lheReset (u2Eval (vbsOpen (ccDisable h2)))
  exact portClear (ite (failbackCheck (moveCancel h3)) h3)

/-! ### A port's release -/

theorem foldl_mem {α : Type} {l : List α} {f : State → α → State} (hf : ∀ s, ∀ x ∈ l, was.Stands s → was.Stands (f s x)) (h : was.Stands s) :
    was.Stands (l.foldl f s) := by
  induction l generalizing s with
  | nil => exact h
  | cons x l ih => exact ih (fun t y hy => hf t y (List.mem_cons_of_mem _ hy)) (hf _ _ List.mem_cons_self h)

theorem loadReg {pg off v} (hpg : pg ∉ [PageId.glb, .cpt, .hlt]) (hoff : off < 0x1000) (h : was.Stands s) : was.Stands (s.loadReg pg off v) :=
  pages (s.loadReg_keepsPages v hpg hoff) h

theorem storedReset {pg} (hpg : pg ∉ [PageId.glb, .cpt, .hlt]) (h : was.Stands s) : was.Stands (s.storedReset pg) :=
  foldl (fun _ _ h' => loadReg hpg (Nat.mod_lt _ (by decide)) h') h

theorem skipEntry (h : was.Stands s) : was.Stands s.skipEntry := count h rfl

/-- A PORT section names no page of these registers. -/
theorem tagOwns_port {inst : Nat} {pg : PageId} (h : tagOwns 0x03 inst pg = true) : pg ∉ [PageId.glb, .cpt, .hlt] := by
  intro hmem
  simp only [List.mem_cons, List.not_mem_nil, or_false] at hmem
  rcases hmem with rfl | rfl | rfl <;> cases h

theorem applyEntry {only inst addr v} (h : was.Stands s) : was.Stands (s.applyEntry only 0x03 inst addr v) := by
  unfold State.applyEntry
  split
  · next hok =>
    cases hpg : pageAt addr with
    | none => exact h
    | some pg =>
      simp only [entryOk, hpg, Bool.and_eq_true] at hok
      obtain ⟨-, howns, -⟩ := hok
      exact ite (loadReg (tagOwns_port howns) (Nat.mod_lt _ (by decide)) h) h
  · exact skipEntry h

theorem applyList {only g sec} (hsec : sec.tag = 0x03) (h : was.Stands s) : was.Stands (s.applyList only g sec) := by
  have hfold := foldl (l := List.range (sec.len / 8)) (fun t i (h' : was.Stands t) => applyEntry (only := only) (inst := sec.inst)
    (addr := imgWord g (sec.off + 8 * i)) (v := BitVec.ofNat 32 (imgWord g (sec.off + 8 * i + 4))) h') h
  unfold State.applyList
  rw [hsec]
  exact ite (skipEntry hfold) hfold

theorem applyPolicy {g o} (h : was.Stands s) : was.Stands (s.applyPolicy p g o) := by
  unfold State.applyPolicy
  refine putRw (put (foldl_mem (fun _ k hk h' => ite h' (loadReg (by simp) ?_ h')) h) rfl) rfl
  have hlt := List.mem_range.1 hk
  omega

theorem applySection {only g sec} (hsec : sec.tag = 0x10 ∨ sec.tag = 0x03) (h : was.Stands s) : was.Stands (s.applySection only g sec) := by
  unfold State.applySection
  split
  next heq => split
              · exact applyPolicy h
              · exact h
  case h_5 h10 _ _ _ => exact applyList (hsec.resolve_left h10) h
  all_goals next heq => omega

theorem applyTag {only g secs tag inst} (htag : tag = 0x10 ∨ tag = 0x03) (h : was.Stands s) : was.Stands (s.applyTag only g secs tag inst) := by
  refine foldl_mem (fun _ sec hsec h' => applySection ?_ h') h
  have heq : sec.tag = tag := by
    have hmem := (List.mem_filter.1 hsec).2
    simp only [Bool.and_eq_true, beq_iff_eq] at hmem
    exact hmem.1
  exact heq ▸ htag

theorem restore {tags : List (Nat × Nat)} (htags : ∀ t ∈ tags, t.1 = 0x10 ∨ t.1 = 0x03) (h : was.Stands s) : was.Stands (s.restore tags) := by
  have h0 : was.Stands ((s.put .cfg F.CFG_LOAD_STATUS_SKIPPED_ENTRIES 0).put .cfg F.CFG_LOAD_STATUS_SKIPPED_SECTIONS 0) := put (put h rfl) rfl
  unfold State.restore
  dsimp only
  split
  · exact h0
  · split
    · exact h0
    · exact foldl_mem (fun _ t ht h' => applyTag (htags t ht) h') (countBy h0 rfl)

theorem portBlank (h : was.Stands s) : was.Stands (s.portBlank p) := by
  have hput : was.Stands (s.put (.tcp p) F.TCP_PD_POLICY_FITTED 1) := put h rfl
  have hpages : ∀ pg ∈ ([.tcp p, .vbs p, .u2p p, .con p, .lhe p] : List PageId), pg ∉ [PageId.glb, .cpt, .hlt] := by simp
  have hregs := foldl_mem (l := ([.tcp p, .vbs p, .u2p p, .con p, .lhe p] : List PageId)) (f := fun s pg => s.storedReset pg)
    (fun _ pg hpg h' => storedReset (hpages pg hpg) h') hput
  unfold State.portBlank
  dsimp only
  split
  · exact hregs
  · exact storedReset (by simp) hregs

theorem lrRestore (h : was.Stands s) : was.Stands (s.lrRestore p) := by
  unfold State.lrRestore
  split
  · exact h
  · exact tcpWith (put h rfl)

theorem portRestore (h : was.Stands s) : was.Stands (s.portRestore p) := lrRestore (restore (by simp) (portBlank h))

theorem restoreCheck {k} (h : was.Stands s) : was.Stands (s.restoreCheck k) := ite (raise (put h rfl)) h

theorem quarForget (h : was.Stands s) : was.Stands (s.quarForget p) := ite (put (put h rfl) rfl) h

theorem portEnter (h : was.Stands s) : was.Stands (s.portEnter p) :=
  restoreCheck (usbEval (ccStart (moveRequest (vsetLoad (setFlag (put (quarForget h)
    (clearReg_of_kind rfl (portBit_off_lt (by decide) (by decide) p))) rfl)))))

theorem portRelease (h : was.Stands s) : was.Stands (s.portRelease p) := ite (portEnter (portRestore h)) (portRestore h)

theorem portFollow (h : was.Stands s) : was.Stands (s.portFollow p) := ite (portReset h) (ite (portRelease h) h)

end State.Stands

end Sys2Proof.Machine

namespace Sys2Proof.Machine

/-! PROOFS. The time-out of an emulated hub in hold (O18). -/

section
variable {s t : State} {i : Inst}

/-! ### Bytes of a window -/

theorem State.cptByte_eq_get (s : State) (i : Inst) (a : Nat) : s.cptByte i a = s.get (.win i) ⟨4 * a, 0, 8⟩ := rfl

theorem State.cptByte_setCptByte (s : State) (i : Inst) {a : Nat} (v : Nat) (ha : winMask a = 0xFF) : (s.setCptByte i a v).cptByte i a = v % 256 := by
  unfold State.setCptByte State.cptByte
  rw [State.rd_wr_same, ha, show (0xFF : Nat) = 2 ^ 8 - 1 from rfl, Nat.and_two_pow_sub_one_eq_mod, BitVec.toNat_ofNat]
  omega

theorem ctxInst_instCtx (i : Inst) : instCtx i = .plate ⟨i.val / 2, by omega⟩ ⟨i.val % 2, by omega⟩ ∧
    ctxInst ⟨i.val / 2, by omega⟩ ⟨i.val % 2, by omega⟩ = i :=
  ⟨rfl, Fin.ext (show 2 * (i.val / 2) + i.val % 2 = i.val by omega)⟩

/-- In compatibility mode the bit of the emulated hub's register is set (R429). -/
theorem State.cptSeen_instCtx (hc : s.compat = true) (b : Nat) : s.cptSeen (instCtx i) b = s.setCptByte i 0xF0 (s.cptByte i 0xF0 ||| 2 ^ b) := by
  obtain ⟨hctx, hinst⟩ := ctxInst_instCtx i
  rw [hctx]
  show (if s.compat then _ else s) = _
  rw [if_pos hc, hinst]

/-- The record of a hold's time-out sets its bit of `INT_STATUS` (R443). -/
theorem State.get_raise_holdTimeout (s : State) (src d : Nat) : (s.raise .cpt evHoldTimeout src d).get .cpt (F.INT_STATUS 1) = 1 := by
  have hput : (s.put .cpt (F.INT_STATUS 1) 1).get .cpt (F.INT_STATUS 1) = 1 := State.get_put_same _ _ _ _ (by decide)
  show (if _ then _ else _ : State).get .cpt (F.INT_STATUS 1) = 1
  split
  · exact (by simp only [State.get, State.handOff_rd] at hput ⊢; exact hput)
  · exact hput

/-! ### The attach (R432, R433) -/

/-- The emulated hub marked attached, its configuration area latched. -/
def State.instMarked (s : State) (i : Inst) : State :=
  let s1 := (s.cptWith i (fun c => { c with run := s.instArea i, timer := false, dueCmd := none, dueTime := false, gangClr := 0 })).setCptByte i 0xFF 1
  (s1.put .cpt (fldBit F.CPT_STATUS_ATTACHED i.val) 1).put .cpt (fldBit F.CPT_STATUS_HOLDING i.val) 0

theorem State.Stands.ttReset {was : State} {p : Port} (h : was.Stands s) : was.Stands (s.ttReset p) := put (put (put (put (u2pWith h) rfl) rfl) rfl) rfl

theorem State.Stands.u2hWritten {was s0 : State} {k : Plate} {off : Nat} (h : was.Stands s) : was.Stands (State.u2hWritten s0 s k off) :=
  ite (foldl (fun _ _ h' => ttReset h') h) h

theorem State.Stands.rootChgWith {was : State} {hc : HubCtx} {n : Nat} {f : BitVec 16 → BitVec 16} (h : was.Stands s) :
    was.Stands (s.rootChgWith hc n f) := by
  unfold State.rootChgWith
  split
  · exact hubWith h
  · exact h

theorem State.Stands.ctxWakeUp {was : State} {hc : HubCtx} (h : was.Stands s) : was.Stands (s.ctxWakeUp hc) := ite h (hubWith h)

/-- The hidden parts that a port following its resets may change (R18, R19). -/
def portParts : List Part :=
  [.freeCount, .bad, .arb, .u2pSt, .hubCtx, .sspSt, .upLink, .vbsSt, .tcpSt, .pdSt, .conSt, .presSt, .moveCause, .mgfSt, .lheSt, .fifos,
    .graver, .dram, .grvTemplates, .grvBuffer, .dramMem]

/-- What the attach does between the marks and its record changes neither the standing registers nor the emulated hubs. -/
theorem State.instAttach_steps (s : State) (i : Inst) : ∃ u, (s.instMarked i).Stands u ∧ u.cpt = (s.instMarked i).cpt ∧
    s.instAttach i none = ((u.cptSeen (instCtx i) 0).count .cpt F.CPT_CNT_HOLD_TIMEOUTS).raise .cpt evHoldTimeout i.val (u.instDetail i) := by
  unfold State.instAttach
  extract_lets s1 s2 k s3 u s5 s4 s6
  have hput : (s.instMarked i).Stands (s2.putRw (.u2h k) (fldBit F.U2H_CFG_SINGLE_TT (i.val % 2)) (bit (!(s2.cptRun i 6).testBit 1))) :=
    .putRw (.refl s2) rfl
  have h3 : (s.instMarked i).Stands s3 := .u2hWritten hput
  have h4 : (s.instMarked i).Stands s4 := .ite h3 (.ite (.ctxWakeUp (.rootChgWith h3)) (.rootChgWith h3))
  have h6 : (s.instMarked i).Stands s6 := .foldl (fun _ _ h' => .portFollow h') h4
  have k2 : (s.instMarked i).KeepsBut portParts (s2.putRw (.u2h k) (fldBit F.U2H_CFG_SINGLE_TT (i.val % 2)) (bit (!(s2.cptRun i 6).testBit 1))) :=
    .putRw (by decide) (.refl s2)
  have k3 : (s.instMarked i).KeepsBut portParts s3 := .u2hWritten (by decide) k2
  have k5 : (s.instMarked i).KeepsBut portParts s5 := .rootChgWith (by decide) k3
  have k4 : (s.instMarked i).KeepsBut portParts s4 := .ite k3 (.ite (.ctxWakeUp (by decide) k5) k5)
  have k6 : (s.instMarked i).KeepsBut portParts s6 := .foldl (fun _ _ h' => .portFollow (by decide) h') k4
  exact ⟨s6, h6, k6.same .cpt rfl (by decide), rfl⟩

theorem State.instMarked_run (s : State) (i : Inst) : (s.instMarked i).cpt[i].run = s.instArea i := by
  show ((s.cpt.set i _)[i]).run = _
  simp

theorem State.instMarked_attached (s : State) (i : Inst) : (s.instMarked i).instAttached i = true := by
  have hbits : (s.instMarked i).get .cpt (fldBit F.CPT_STATUS_ATTACHED i.val) = 1 := by
    unfold State.instMarked
    extract_lets s1
    refine (State.get_put_bits _ _ _ _ _ (.inr ?_)).trans (State.get_put_same _ _ _ _ ?_)
    all_goals simp only [fldBit, F.CPT_STATUS_ATTACHED, F.CPT_STATUS_HOLDING]; omega
  simp [State.instAttached, State.flag, hbits]

theorem State.instMarked_holding (s : State) (i : Inst) : (s.instMarked i).instHolding i = false := by
  have hbits : (s.instMarked i).get .cpt (fldBit F.CPT_STATUS_HOLDING i.val) = 0 := by
    refine State.get_put_same _ _ _ _ ?_
    simp only [fldBit, F.CPT_STATUS_HOLDING]; omega
  simp [State.instHolding, State.flag, hbits]

/-- The marks leave the mode and the counters. -/
theorem State.instMarked_get (s : State) (i : Inst) {pg : PageId} {f : Fld} (hpg : pg ∈ [PageId.glb, .cpt]) (hoff : f.off < 0x1000)
    (hne : pg = .glb ∨ f.off ≠ 0x44) : (s.instMarked i).get pg f = s.get pg f := by
  have hwin (a v : Nat) (ha : a < 0x400) (x : State) : (x.setCptByte i a v).get pg f = x.get pg f := by
    have hne : pg ≠ .win i := by rintro rfl; simp at hpg
    refine (congrArg (State.get · pg f) (State.wr_eq_put x (.win i) (4 * a) (BitVec.ofNat 32 (v % 256 &&& winMask a)))).trans ?_
    exact State.get_put_page _ _ _ _ hne (show 4 * a < 0x1000 by omega) hoff
  have hput (x : State) (g : Fld) (v : Nat) (hg : g.off = 0x44) : (x.put .cpt g v).get pg f = x.get pg f := by
    by_cases he : pg = .cpt
    · subst he
      exact State.get_put_off _ _ _ _ _ (hg ▸ hne.resolve_left (by simp))
    · exact State.get_put_page _ _ _ _ he (by omega) hoff
  unfold State.instMarked
  extract_lets s1
  exact (hput _ _ _ rfl).trans ((hput _ _ _ rfl).trans (hwin _ _ (by decide) _))

/-- An attach by the time-out (R433): the emulated hub attached with its area, its byte 0xF0 and the count. -/
theorem State.instAttach_timeout (s : State) (i : Inst) (hc : s.compat = true) : (s.instAttach i none).instAttached i = true ∧
    ((s.instAttach i none).cptByte i 0xF0).testBit 0 = true ∧ (s.instAttach i none).get .cpt (F.INT_STATUS 1) = 1 ∧
    (s.instAttach i none).instHolding i = false ∧ (s.instAttach i none).cpt[i].run = s.instArea i ∧
    (s.instAttach i none).get .cpt F.CPT_CNT_HOLD_TIMEOUTS =
      min (s.get .cpt F.CPT_CNT_HOLD_TIMEOUTS + 1) (2 ^ F.CPT_CNT_HOLD_TIMEOUTS.width - 1) := by
  obtain ⟨u, hu, hcpt, heq⟩ := s.instAttach_steps i
  have hcu : u.compat = true := by
    refine (hu.flag (x := (.glb, 0x68)) (f := F.GLB_MODE_COMPAT) (by decide) rfl).trans (Eq.trans ?_ hc)
    simp only [State.compat, State.flag, s.instMarked_get i (f := F.GLB_MODE_COMPAT) (by simp) (by decide) (.inl rfl)]
  have hseen : u.cptSeen (instCtx i) 0 = u.setCptByte i 0xF0 (u.cptByte i 0xF0 ||| 2 ^ 0) := State.cptSeen_instCtx hcu 0
  have hstand : (s.instMarked i).Stands (u.cptSeen (instCtx i) 0) := hseen ▸ hu.setCptByte (by decide)
  have hstatus {f : Fld} (hf : f.off = 0x44) : (s.instAttach i none).flag .cpt f = (s.instMarked i).flag .cpt f := by
    have hget : (s.instAttach i none).get .cpt f = (s.instMarked i).get .cpt f := by
      rw [heq, State.get_raise_off _ _ _ _ _ _ _ (by omega) (by omega), State.count, State.countBy, State.get_put_off _ _ _ _ _ (by rw [hf]; decide)]
      exact hstand (.cpt, 0x44) (by decide) f hf
    simp only [State.flag, hget]
  refine ⟨(hstatus rfl).trans (s.instMarked_attached i), ?_, ?_, (hstatus rfl).trans (s.instMarked_holding i), ?_, ?_⟩
  · have hbyte : (s.instAttach i none).cptByte i 0xF0 = (u.cptByte i 0xF0 ||| 1) % 256 := by
      rw [heq, State.cptByte_eq_get, State.get_raise_off _ _ _ _ _ _ _ (by decide) (by decide), State.count, State.countBy,
        State.get_put_page _ _ _ _ (by simp) (by decide) (by decide), ← State.cptByte_eq_get, hseen]
      exact State.cptByte_setCptByte _ _ _ rfl
    rw [hbyte, show (256 : Nat) = 2 ^ 8 from rfl, Nat.testBit_mod_two_pow]
    simp
  · rw [heq]
    exact State.get_raise_holdTimeout _ _ _
  · have hkept : (s.instAttach i none).cpt = (s.instMarked i).cpt := by
      rw [heq, hseen]
      exact (State.raiseWith_cpt ..).trans hcpt
    simp only [hkept]
    exact s.instMarked_run i
  · rw [heq, State.get_raise_off _ _ _ _ _ _ _ (by decide) (by decide), State.get_count_same _ _ _ (by decide),
      hstand (.cpt, 0x4C) (by decide) _ rfl, s.instMarked_get i (by simp) (by decide) (.inr (by decide))]

end

/-! ### HOLD_TIMEOUT -/

section
variable {s : State} {i : Inst} (hup : s.coreUp = true) (hc : s.compat = true) (hload : s.loaded = true) (hhold : s.instHolding i = true)
  (htimer : s.cpt[i].timer = true)
include hup hc hload hhold htimer

theorem exec_holdTimeout : exec (.holdTimeout i) s = .next (
    let s1 := s.cptWith i (fun c => { c with timer := false })
    if (s.cptByte i 7).testBit 1 then s1
    else if s.attachBarred i then s1.cptWith i (fun c => { c with dueTime := true }) else s1.instAttach i none) := by
  change execHoldTimeout i s = _
  unfold execHoldTimeout
  rw [if_neg (by simp [hup, hc, hload, hhold, show s.cpt[i.val].timer = true from htimer])]
  dsimp only
  split
  · rfl
  · split <;> rfl

end

/-- Settles O18, by the three ways in which a hold times out; what the attach does beside its marks and its record keeps the emulated hub. -/
theorem holdTimeoutAttachesTheInstance : Obligations.HoldTimeoutAttachesTheInstance := by
  unfold Obligations.HoldTimeoutAttachesTheInstance
  refine ⟨fun i s hup hc hload hhold htimer hno hbar => ?_, fun i s hup hc hload hhold htimer hno => ?_,
    fun i s hup hc hload hhold htimer hno hbar => ?_⟩
  · refine ⟨_, exec_holdTimeout hup hc hload hhold htimer, ?_⟩
    simp only [hno, hbar, Bool.false_eq_true, if_false]
    exact (s.cptWith i (fun c => { c with timer := false })).instAttach_timeout i hc
  · refine ⟨_, exec_holdTimeout hup hc hload hhold htimer, ?_⟩
    simp only [hno, if_true]
  · refine ⟨_, exec_holdTimeout hup hc hload hhold htimer, ?_⟩
    simp only [hno, hbar, Bool.false_eq_true, if_false, if_true]
    refine ⟨hhold, ?_⟩
    show (((s.cpt.set i _).set i _)[i]).dueTime = true
    simp

end Sys2Proof.Machine

namespace Sys2Proof.Machine

/-! PROOFS. The standing registers while the arbiter decides and the pool follows (O58), and while upstream links fall (R304). -/

namespace State.Stands

open List (Subset.refl)

variable {was s t : State} {p : Port}

/-! ### Leaves and grants -/

theorem free (h : was.Stands s) : was.Stands s.free.2 := hidden h rfl

theorem askLeave {op} (h : was.Stands s) : was.Stands (s.askLeave op) := writesIn (W := []) rfl (.askLeave (.refl s)) h

theorem withdraw {op} (h : was.Stands s) : was.Stands (s.withdraw op) :=
  writesIn (by decide) (.withdraw (Subset.refl Zone.budget) (.refl s)) h

theorem opDone {op} (h : was.Stands s) : was.Stands (s.opDone op) := writesIn (W := []) rfl (.opDone (.refl s)) h

theorem firstSettled (h : was.Stands s) : was.Stands (s.firstSettled p) :=
  writesIn (by decide) (.firstSettled (Subset.refl Zone.budget) (.refl s)) h

theorem returnGrant (h : was.Stands s) : was.Stands (s.returnGrant p) :=
  writesIn (by decide) (.returnGrant (Subset.refl Zone.budget) (.refl s)) h

theorem endReserve (h : was.Stands s) : was.Stands (s.endReserve p) :=
  writesIn (by decide) (.endReserve (Subset.refl Zone.pdEnd) (.refl s)) h

theorem askAtOnce (h : was.Stands s) : was.Stands (s.askAtOnce p) := writesIn (by decide) (.askAtOnce (Subset.refl Zone.ask) (.refl s)) h

theorem askTurnOn (h : was.Stands s) : was.Stands (s.askTurnOn p) := writesIn (by decide) (.askTurnOn (Subset.refl Zone.ask) (.refl s)) h

theorem powerFails (h : was.Stands s) : was.Stands (s.powerFails p) := writesIn (by decide) (.powerFails (Subset.refl Zone.lhe) (.refl s)) h

theorem arbSync (h : was.Stands s) : was.Stands s.arbSync := put h rfl

theorem putGrant {lo w v : Nat} (h : was.Stands s) : was.Stands (s.put .bgt ⟨0x180 + 4 * p.val, lo, w⟩ v) :=
  put h (clearReg_of_kind rfl (show 0x180 + 4 * p.val < 0x1000 by omega))

/-! ### What a grant leads to (R185, R188) -/

theorem offerCheck (h : was.Stands s) : was.Stands (s.offerCheck p) := writesIn (W := []) rfl (.offerCheck (.refl s)) h

theorem pdKick (h : was.Stands s) : was.Stands (s.pdKick p) := writesIn (by decide) (.pdKick (Subset.refl Zone.rp) (.refl s)) h

theorem frsEval (h : was.Stands s) : was.Stands (s.frsEval p) := setFlag h rfl

theorem bcDecide (h : was.Stands s) : was.Stands (s.bcDecide p) := usbEval (put h rfl)

theorem grantChanged {old} (h : was.Stands s) : was.Stands (s.grantChanged p old) :=
  pdKick (offerCheck (frsEval (ite (rpApply h) (ite (bcDecide (rpApply h)) (ite (usbEval (put (rpApply h) rfl)) (rpApply h))))))

theorem vconnStart (h : was.Stands s) : was.Stands (s.vconnStart p) := ite (pdWith (put (put (put h rfl) rfl) rfl)) h

theorem setLimit {ma} (h : was.Stands s) : was.Stands (s.setLimit p ma) := vbsWith (put h rfl)

theorem rxLine (h : was.Stands s) : was.Stands (s.rxLine p).2 := by
  unfold State.rxLine
  repeat' first | (with_reducible first | assumption | apply free) | split

theorem routeBy {mode} (h : was.Stands s) : was.Stands (s.routeBy p mode) :=
  ite (tcpWith h) (raisePort (setFlag (put (put (rxLine (tcpWith h)) rfl) rfl) rfl))

theorem laneMux {on} (h : was.Stands s) : was.Stands (s.laneMux p on) := writesIn (by decide) (.laneMux (Subset.refl Zone.usb) (.refl s)) h

theorem turnOnGranted (h : was.Stands s) : was.Stands (s.turnOnGranted p) := by
  unfold State.turnOnGranted
  repeat' first
    | with_reducible first
      | assumption | apply ite | apply put | apply vbsWith | apply opDone | apply returnGrant
      | apply setLimit | apply rpApply | apply vconnStart | apply routeBy | apply vsetLoad | apply laneMux
    | exact rfl

theorem setPe {v} (h : was.Stands s) : was.Stands (s.setPe p v) := put h rfl

theorem pdSay {kind objs bytes prime} (h : was.Stands s) : was.Stands (s.pdSay p kind objs bytes prime) :=
  writesIn (W := []) rfl (.pdSay (.refl s)) h

theorem toReady (h : was.Stands s) : was.Stands (s.toReady p) := pdKick (rpApply (pdWith (setPe h)))

theorem rejectReq (h : was.Stands s) : was.Stands (s.rejectReq p) := toReady (pdWith (pdSay h))

theorem acceptReq {rdo mv ma10 type w} (h : was.Stands s) : was.Stands (s.acceptReq p rdo mv ma10 type w) := pdWith (setPe (pdSay h))

theorem raiseGrant (h : was.Stands s) : was.Stands (s.raiseGrant p) := by
  unfold State.raiseGrant
  repeat' first
    | with_reducible first
      | assumption | apply pdWith | apply opDone | apply acceptReq | apply rejectReq
    | split

theorem raiseCap (h : was.Stands s) : was.Stands (s.raiseCap p) := pdKick (pdWith (ite (pdWith h) (rejectReq (pdWith h))))

theorem setDrcSt {v} (h : was.Stands s) : was.Stands (s.setDrcSt v) := put h rfl

theorem commitGranted (h : was.Stands s) : was.Stands s.commitGranted := by
  unfold State.commitGranted
  split
  · next target seq _ =>
    have hwear : was.Stands { s with wear := s.wear.set target (min (s.wear[target] + 1) (2 ^ 32 - 1)) } := hidden h rfl
    exact setFlag (hidden (ite (setFault hwear) hwear) rfl) rfl
  · exact h

/-! ### Groups of the graver (R395–R397) -/

theorem askGroup (h : was.Stands s) : was.Stands s.askGroup := writes (W := []) rfl (.askGroup (.refl s)) h

theorem nextGroup (h : was.Stands s) : was.Stands s.nextGroup := askGroup (askGroup h)

theorem groupCheck {id} (h : was.Stands s) : was.Stands (s.groupCheck id) :=
  writes (by decide) (.groupCheck (Subset.refl Zone.budget) (.refl s)) h

theorem startPart {j} (h : was.Stands s) : was.Stands (s.startPart j p) := by
  unfold State.startPart
  dsimp only
  repeat' first | (with_reducible first | assumption | apply put | apply jobEnds) | exact rfl | split

theorem jobWith {id f} (h : was.Stands s) : was.Stands (s.jobWith id f) := hidden h rfl

theorem startJob {j} (h : was.Stands s) : was.Stands (s.startJob j) := foldl (fun _ _ h' => ite (startPart h') h') (jobWith h)

theorem fanGrant {w} (h : was.Stands s) : was.Stands (s.fanGrant w) := by
  unfold State.fanGrant
  repeat' first
    | with_reducible first
      | assumption | apply opDone | apply jobWith | apply groupCheck | apply startJob
    | split

theorem holdGroups (h : was.Stands s) : was.Stands s.holdGroups := grvWith (foldl (fun _ _ h' => withdraw h') h)

/-! ### Decisions of the arbiter (R185, R186) -/

theorem leaveEvent {e op reason} (h : was.Stands s) : was.Stands (s.leaveEvent e op reason) := by
  unfold State.leaveEvent
  repeat' first | (with_reducible first | assumption | apply raisePort | apply raise) | split

theorem deferReq {r why} (h : was.Stands s) : was.Stands (s.deferReq r why) := by
  have h2 : was.Stands (((s.arbWith (fun a => { a with reqs := a.reqs.map (fun x => if x.op = r.op then { x with deferred := some why } else x) })).arbSync.count
      .bgt F.BGT_CNT_DEFERS).leaveEvent evDefer r.op why.val) := leaveEvent (count (arbSync (arbWith h)) rfl)
  unfold State.deferReq
  refine ite h ?_
  dsimp only
  split
  · exact putGrant h2
  · exact h2

theorem leaveReq {r why} (h : was.Stands s) : was.Stands (s.leaveReq r why) := arbWith (deferReq h)

theorem dropReq {op} (h : was.Stands s) : was.Stands (s.dropReq op) := arbSync (arbWith h)

theorem setGrant {v} (h : was.Stands s) : was.Stands (s.setGrant p v) := grantChanged (putGrant h)

theorem startOp {op} (h : was.Stands s) : was.Stands (s.startOp op) := by
  unfold State.startOp
  split
  · exact firstSettled (turnOnGranted h)
  · exact raiseGrant h
  · exact setDrcSt h
  · exact commitGranted h
  · exact fanGrant h
  · exact h

theorem grantReq {op} (h : was.Stands s) : was.Stands (s.grantReq op) := by
  unfold State.grantReq
  extract_lets s1 s2 s3
  have h2 : was.Stands s2 := put (arbWith (dropReq h)) rfl
  have h3 : was.Stands s3 := by
    show was.Stands (match op with | .turnOn p => _ | _ => s2)
    split
    · exact putGrant (setGrant (arbWith h2))
    · exact h2
  exact startOp (leaveEvent h3)

theorem capReq {op} (h : was.Stands s) : was.Stands (s.capReq op) := by
  unfold State.capReq
  dsimp only
  split
  · exact raiseCap (leaveEvent (dropReq h))
  · exact leaveEvent (dropReq h)

theorem denyReq {op} (h : was.Stands s) : was.Stands (s.denyReq op) := by
  unfold State.denyReq
  dsimp only
  split
  · exact powerFails (firstSettled (put (putGrant (leaveEvent (dropReq h))) rfl))
  · exact leaveEvent (dropReq h)

theorem tryReq {acc r} (h : was.Stands acc.1) : was.Stands (State.tryReq acc r).1 := by
  unfold State.tryReq
  split
  · exact h
  · split
    · exact leaveReq h
    · exact grantReq h
    · exact capReq h
    · exact denyReq h

theorem decideOnce (h : was.Stands s) : was.Stands s.decideOnce.1 := foldl_fst (fun _ _ h' => tryReq h') h

theorem decideUpTo {n} (h : was.Stands s) : was.Stands (State.decideUpTo n s) := by
  induction n generalizing s with
  | zero => exact h
  | succ n ih => exact ite (ih (decideOnce h)) (decideOnce h)

theorem arbDecide (h : was.Stands s) : was.Stands s.arbDecide := ite (decideUpTo h) h

/-! ### The pool in force (R181, R182, R191) -/

theorem revokeEvent {step} (h : was.Stands s) : was.Stands (s.revokeEvent p step) := raisePort h

theorem cutHeadroom {least} (h : was.Stands s) : was.Stands (s.cutHeadroom p least) := ite (setGrant h) h

theorem revokeTo {dest} (h : was.Stands s) : was.Stands (s.revokeTo p dest) :=
  ite h (revokeEvent (setGrant (putGrant (ite h (count h rfl)))))

theorem revokeRemove (h : was.Stands s) : was.Stands (s.revokeRemove p) := askAtOnce (revokeEvent (returnGrant (endReserve (vbsOpen h))))

theorem revokePool (h : was.Stands s) : was.Stands s.revokePool :=
  ite h (foldl (fun _ _ h' => ite h' (revokeRemove (ite h' (count h' rfl)))) (foldl (fun _ _ h' => ite h' (revokeTo h'))
    (foldl (fun _ _ h' => ite h' (cutHeadroom h')) h)))

theorem poolSet {first} (h : was.Stands s) : was.Stands (s.poolSet first) :=
  ite h (foldl (fun _ _ h' => ite (askAtOnce (putGrant h')) h') (raise (put h rfl)))

theorem poolFollow (h : was.Stands s) : was.Stands s.poolFollow := ite h (arbDecide (revokePool (poolSet h)))

end State.Stands

end Sys2Proof.Machine

namespace Sys2Proof.Machine

/-! PROOFS. The standing registers while upstream links fall and functions are reset (R304, R360, O58). -/

namespace State.Stands

open List (Subset.refl)

variable {was s t : State} {u : Up}

/-! ### The management function (R360, R366) -/

theorem clearReg_mgf {off : Nat} (h : off < 0x1000) : clearReg (pageKind .mgf) off = true := clearReg_of_kind rfl h

theorem mgfInstWith {ss f} (h : was.Stands s) : was.Stands (s.mgfInstWith u ss f) := mgfWith h

theorem mgfSync (h : was.Stands s) : was.Stands (s.mgfSync u) := by
  have hclear : clearReg (pageKind .mgf) (0x44 + 4 * u.val) = true := clearReg_mgf (by omega)
  exact setFlag (setFlag (setFlag (setFlag (put (put h hclear) hclear) hclear) hclear) hclear) hclear

theorem semFree {n} (h : was.Stands s) : was.Stands (s.semFree n) := by
  have hoff : clearReg (pageKind .glb) (0x108 + 16 * n.val) = true := by
    simp only [clearReg, Bool.and_eq_true, Nat.blt_eq, List.all_eq_true, Bool.or_eq_true]
    refine ⟨by omega, fun x hx => .inr ?_⟩
    have hlt : x.2 < 0x108 := (show ∀ x ∈ standing, x.2 < 0x108 by decide) x hx
    simp only [Bool.not_eq_true', beq_eq_false_iff_ne]
    omega
  have hput : was.Stands (s.put .glb ⟨0x108 + 16 * n.val, 0, 32⟩ (0 : Word).toNat) := put h hoff
  rw [← State.wr_eq_put s .glb (0x108 + 16 * n.val) 0, ← Nat.add_assoc] at hput
  exact hput

theorem semOrphan {test} (h : was.Stands s) : was.Stands (s.semOrphan test) := foldl (fun _ _ h' => ite (raise (semFree h')) h') h

theorem stageMet (h : was.Stands s) : was.Stands (s.stageMet u).2 := by
  unfold State.stageMet
  repeat' first | (with_reducible first | assumption | apply free) | split

theorem fnReset {ss kind} (h : was.Stands s) : was.Stands (s.fnReset u ss kind) := by
  have hlost : clearReg (pageKind .mgf) (F.MGF_Uu_BULK_LOST u.val).off = true :=
    clearReg_mgf (by simp only [F.MGF_Uu_BULK_LOST]; omega)
  have hhalt : clearReg (pageKind .mgf) (F.MGF_Uu_STATUS_HALT u.val).off = true :=
    clearReg_mgf (by simp only [F.MGF_Uu_STATUS_HALT]; omega)
  have hcnt : clearReg (pageKind .mgf) (F.MGF_Uu_CNT_RESETS u.val).off = true :=
    clearReg_mgf (by simp only [F.MGF_Uu_CNT_RESETS]; omega)
  have hnote : clearReg (pageKind .mgf) (F.MGF_Uu_STATUS_NOTICE_PENDING u.val).off = true :=
    clearReg_mgf (by simp only [F.MGF_Uu_STATUS_NOTICE_PENDING]; omega)
  have hempty {x : State} (hx : was.Stands x) : was.Stands (x.emptyEps u).2 := ite (put (mgfWith hx) hlost) (mgfWith hx)
  have hseqs {x : State} (hx : was.Stands x) : was.Stands (x.clearSeqs u) := put (mgfWith hx) hhalt
  exact ite (raisePres (mgfSync (setFlag (semOrphan (count (hseqs (hempty (mgfWith (stageMet (mgfInstWith h))))) hcnt)) hnote)))
    (mgfSync (mgfInstWith h))

/-! ### SuperSpeed hubs (R304, R311, R360) -/

theorem hostPower {p} (h : was.Stands s) : was.Stands (s.hostPower p) := ite (askTurnOn h) (vbsOpen h)

theorem ssDiscard {f n} (h : was.Stands s) : was.Stands (s.ssDiscard f n) := countBy h rfl

theorem ssResetPort {k c j} (h : was.Stands s) : was.Stands (s.ssResetPort k c j) := by
  unfold State.ssResetPort
  repeat' with_reducible first
    | assumption | apply ite | apply u2pWith | apply sspWith | apply ssHubWith | apply ssDiscard | apply ssLeave | apply hostPower

theorem ssCtxResetOne {k c} (h : was.Stands s) : was.Stands (s.ssCtxResetOne k c) := by
  unfold State.ssCtxResetOne
  extract_lets l n s1 s2
  have h1 : was.Stands s1 := countBy (upLkWith h) rfl
  have h2 : was.Stands s2 := foldl (fun _ _ h' => ssResetPort h') h1
  exact ssHubWith h2

theorem ssPresReset {kind} (h : was.Stands s) : was.Stands (s.ssPresReset u kind) := by
  unfold State.ssPresReset
  repeat' with_reducible first
    | assumption | apply upLkWith | apply ssHubWith | apply fnReset | apply ssCtxResetOne | refine foldl (fun _ _ _ => ?_) ?_

theorem setUpState {v} (h : was.Stands s) : was.Stands (s.setUpState u v) := put h rfl

theorem upGone {cause} (h : was.Stands s) : was.Stands (s.upGone u cause) :=
  setUpState (put (put (ite (ite (raisePres h) h) (ssPresReset (ite (raisePres h) h))) rfl) rfl)

theorem upGenDrop (h : was.Stands s) : was.Stands (s.upGenDrop u) := ite (ite (setUpState (upGone h)) (upGone h)) h

theorem ssGenDrop {f} (h : was.Stands s) : was.Stands (s.ssGenDrop f) := ite (ssDetect h) h

theorem allGenDrop (h : was.Stands s) : was.Stands s.allGenDrop :=
  ite h (foldl (fun _ _ h' => upGenDrop h') (foldl (fun _ _ h' => ssGenDrop h') h))

end State.Stands

end Sys2Proof.Machine

namespace Sys2Proof.Machine

/-! PROOFS. Thermal levels, quarantine and plate isolation (O58). -/

section
variable {s : State}

/-! ### Samples (R446) -/

/-- A sensor's registers bear on no field but its own. -/
theorem State.noteTemp_get (s : State) {i : Nat} (w : Nat) {f : Fld} (h : f.off ≠ 0x48 + 4 * i) : (s.noteTemp i w).get .hlt f = s.get .hlt f := by
  have hput : (s.put .hlt (F.HLT_TEMPs_TEMP i) (w % 2048)).get .hlt f = s.get .hlt f := State.get_put_off _ _ _ _ _ h
  unfold State.noteTemp
  dsimp only
  split
  · exact (State.get_put_off _ _ _ _ _ h).trans hput
  · exact hput

theorem State.noteTemp_temp (s : State) (i w : Nat) : (s.noteTemp i w).get .hlt (F.HLT_TEMPs_TEMP i) = w % 2048 := by
  have hput : (s.put .hlt (F.HLT_TEMPs_TEMP i) (w % 2048)).get .hlt (F.HLT_TEMPs_TEMP i) = w % 2048 :=
    (State.get_put_same _ _ _ _ (by simp [F.HLT_TEMPs_TEMP])).trans (by simp only [F.HLT_TEMPs_TEMP]; omega)
  unfold State.noteTemp
  dsimp only
  split
  · exact (State.get_put_bits _ _ _ _ _ (.inr (by simp [F.HLT_TEMPs_TEMP, F.HLT_TEMPs_PEAK]))).trans hput
  · exact hput

/-- The sensors' registers after the readings `l`. -/
def State.noteTemps (s : State) (l : List (Nat × Nat)) : State := l.foldl (fun s t => s.noteTemp t.1 t.2) s

theorem State.noteTemps_get {l : List (Nat × Nat)} {f : Fld} (h : ∀ x ∈ l, f.off ≠ 0x48 + 4 * x.1) : (s.noteTemps l).get .hlt f = s.get .hlt f := by
  induction l generalizing s with
  | nil => rfl
  | cons x l ih =>
    exact (ih (s := s.noteTemp x.1 x.2) fun y hy => h y (List.mem_cons_of_mem _ hy)).trans (s.noteTemp_get x.2 (h x List.mem_cons_self))

/-- Of sensors read once each, each register holds its reading. -/
theorem State.noteTemps_temp {l : List (Nat × Nat)} (hl : (l.map (·.1)).Nodup) {x : Nat × Nat} (hx : x ∈ l) :
    (s.noteTemps l).get .hlt (F.HLT_TEMPs_TEMP x.1) = x.2 % 2048 := by
  induction l generalizing s with
  | nil => cases hx
  | cons y l ih =>
    obtain ⟨hy, hl⟩ := List.nodup_cons.1 hl
    rcases List.mem_cons.1 hx with rfl | hx
    · refine (State.noteTemps_get (s := s.noteTemp x.1 x.2) fun z hz => ?_).trans (s.noteTemp_temp _ _)
      have hne : z.1 ≠ x.1 := fun e => hy (List.mem_map.2 ⟨z, hz, e⟩)
      simp only [F.HLT_TEMPs_TEMP]
      omega
    · exact ih (s := s.noteTemp y.1 y.2) hl hx

/-- The readings of a sample with the numbers of their sensors. -/
def readings (ts : Vector Nat 5) : List (Nat × Nat) := (List.range 5).zip ts.toList

theorem readings_fst (ts : Vector Nat 5) : (readings ts).map (·.1) = List.range 5 := List.map_fst_zip (by simp)

theorem readings_lt {ts : Vector Nat 5} {x : Nat × Nat} (hx : x ∈ readings ts) : x.1 < 5 := by
  have hmem : x.1 ∈ (readings ts).map (·.1) := List.mem_map_of_mem hx
  rw [readings_fst] at hmem
  exact List.mem_range.1 hmem

theorem mem_readings (ts : Vector Nat 5) (i : Fin 5) : (i.val, ts[i]) ∈ readings ts := by
  have hi : i.val < (readings ts).length := by simp [readings]
  have hget : (readings ts)[i.val] = (i.val, ts[i]) := by simp [readings]
  exact hget ▸ List.getElem_mem hi

/-- The hottest sensor is one of those read. -/
theorem hotSensor_mem {l : List (Nat × Int)} (h : l ≠ []) : hotSensor l ∈ l := by
  have hpick {k : List (Nat × Int)} {b : Nat × Int} (hb : b ∈ l) (hk : k ⊆ l) : k.foldl (fun b t => if b.2 < t.2 then t else b) b ∈ l := by
    induction k generalizing b with
    | nil => exact hb
    | cons t k ih =>
      obtain ⟨ht, hk⟩ := List.cons_subset.1 hk
      refine ih ?_ hk
      dsimp only
      split
      · exact ht
      · exact hb
  obtain ⟨a, k, rfl⟩ := List.exists_cons_of_ne_nil h
  exact hpick (List.mem_cons_self) (List.Subset.refl _)

/-- The sensor of a sample that reads highest, with its reading. -/
def hottest (ts : Vector Nat 5) : Nat × Int := hotSensor ((readings ts).map (fun x => (x.1, tempInt x.2)))

theorem hottest_lt (ts : Vector Nat 5) : (hottest ts).1 < 8 := by
  have hne : (readings ts).map (fun x => (x.1, tempInt x.2)) ≠ [] := by simp [readings]
  obtain ⟨x, hx, heq⟩ := List.mem_map.1 (hotSensor_mem hne)
  have hlt := readings_lt hx
  have hfst : (hottest ts).1 = x.1 := congrArg Prod.fst heq.symm
  omega

/-- A sample recorded. -/
def State.sampled (s : State) (ts : Vector Nat 5) : State :=
  (((s.noteTemps (readings ts)).put .hlt F.HLT_STATUS_HOT_SENSOR (hottest ts).1).put .hlt F.HLT_STATUS_TEMP_MAX ((hottest ts).2 % 2048).toNat).healthWith
    (fun h => { h with lastMax := some (hottest ts).2 })

/-- A field apart from the hottest sensor and its reading shows of a sample the sensors' registers. -/
theorem State.sampled_get (s : State) (ts : Vector Nat 5) {f : Fld} (hf : f.off ≠ 0x44 ∨ f.lo + f.width ≤ 8) :
    (s.sampled ts).get .hlt f = (s.noteTemps (readings ts)).get .hlt f := by
  have hput {g : Fld} (hoff : g.off = 0x44) (hlo : 8 ≤ g.lo) (x : State) (v : Nat) : (x.put .hlt g v).get .hlt f = x.get .hlt f := by
    rcases hf with h | h
    · exact State.get_put_off _ _ _ _ _ (hoff ▸ h)
    · exact State.get_put_bits _ _ _ _ _ (.inr (h.trans hlo))
  unfold State.sampled
  rw [State.healthWith_get, hput rfl (by decide), hput rfl (by decide)]

theorem State.sampled_level (s : State) (ts : Vector Nat 5) : (s.sampled ts).get .hlt F.HLT_STATUS_LEVEL = s.get .hlt F.HLT_STATUS_LEVEL :=
  (s.sampled_get ts (.inr (by decide))).trans (State.noteTemps_get fun x _ => by simp only [F.HLT_STATUS_LEVEL]; omega)

theorem State.sampled_hotSensor (s : State) (ts : Vector Nat 5) : (s.sampled ts).get .hlt F.HLT_STATUS_HOT_SENSOR = (hottest ts).1 := by
  have hput (x : State) : (x.put .hlt F.HLT_STATUS_HOT_SENSOR (hottest ts).1).get .hlt F.HLT_STATUS_HOT_SENSOR = (hottest ts).1 :=
    State.get_put_fits _ _ _ _ (by decide) (hottest_lt ts)
  unfold State.sampled
  rw [State.healthWith_get, State.get_put_bits _ _ _ _ _ (by decide), hput]

theorem State.sampled_temp (s : State) (ts : Vector Nat 5) (i : Fin 5) : (s.sampled ts).get .hlt (F.HLT_TEMPs_TEMP i.val) = ts[i] % 2048 := by
  have hnodup : ((readings ts).map (·.1)).Nodup := readings_fst ts ▸ List.nodup_range
  have hoff : (F.HLT_TEMPs_TEMP i.val).off ≠ 0x44 := by simp only [F.HLT_TEMPs_TEMP]; omega
  exact (s.sampled_get ts (.inl hoff)).trans (State.noteTemps_temp (x := (i.val, ts[i])) hnodup (mem_readings ts i))

/-! ### Levels and shedding (R446, R447) -/

theorem nextLevel_lt (level : Nat) (throttle shed hyst a b : Int) : nextLevel level throttle shed hyst a b < 3 := by
  unfold nextLevel
  dsimp only
  repeat' split
  all_goals decide

/-- A cut of the pool leaves the standing registers but `SHED_STEPS`. -/
theorem State.shedTo_get (s : State) (n : Nat) {f : Fld} (hf : (PageId.hlt, f.off) ∈ standing)
    (hap : f.off ≠ 0x44 ∨ f.lo + f.width ≤ 4 ∨ 8 ≤ f.lo) : (s.shedTo n).get .hlt f = s.get .hlt f := by
  have hstand : (s.put .hlt F.HLT_STATUS_SHED_STEPS (min n 10)).Stands (s.shedTo n) := .poolFollow (.raise (.refl _))
  refine (hstand _ hf f rfl).trans (State.get_put_fld _ _ _ _ _ _ (by decide) (standing_off _ hf).1 ?_)
  simp only [F.HLT_STATUS_SHED_STEPS]
  omega

theorem State.shedTo_steps (s : State) (n : Nat) : (s.shedTo n).get .hlt F.HLT_STATUS_SHED_STEPS = min n 10 := by
  have hstand : (s.put .hlt F.HLT_STATUS_SHED_STEPS (min n 10)).Stands (s.shedTo n) := .poolFollow (.raise (.refl _))
  refine (hstand (.hlt, 0x44) (by decide) _ rfl).trans (State.get_put_fits _ _ _ _ (by decide) ?_)
  simp only [F.HLT_STATUS_SHED_STEPS]
  omega

/-- A change of the level writes of the standing registers `LEVEL` and `SHED_STEPS` alone. -/
theorem State.toLevel_get (s : State) (old new : Nat) {f : Fld} (hf : (PageId.hlt, f.off) ∈ standing)
    (hap : f.off ≠ 0x44 ∨ f.lo + f.width ≤ 4 ∨ 8 ≤ f.lo) : (s.toLevel old new).get .hlt f = (s.put .hlt F.HLT_STATUS_LEVEL new).get .hlt f := by
  unfold State.toLevel
  extract_lets s1 s2 s3
  have hkept {x : State} (hx : (s.put .hlt F.HLT_STATUS_LEVEL new).Stands x) : x.get .hlt f = (s.put .hlt F.HLT_STATUS_LEVEL new).get .hlt f :=
    hx _ hf f rfl
  have h1 : (s.put .hlt F.HLT_STATUS_LEVEL new).Stands s1 := .holdGroups (.refl _)
  have h2 : (s.put .hlt F.HLT_STATUS_LEVEL new).Stands s2 := .raise h1
  split
  · split
    · exact (State.shedTo_get _ _ hf hap).trans (hkept (.allGenDrop h1))
    · exact hkept (.raise h1)
  · have h3 : s3.get .hlt f = (s.put .hlt F.HLT_STATUS_LEVEL new).get .hlt f := by
      show (if _ then _ else _ : State).get .hlt f = _
      split
      · have hpool : (s2.put .hlt F.HLT_STATUS_SHED_STEPS 0).Stands (s2.put .hlt F.HLT_STATUS_SHED_STEPS 0).poolFollow := .poolFollow (.refl _)
        refine (hpool _ hf f rfl).trans ((State.get_put_fld _ _ _ _ _ _ (by decide) (standing_off _ hf).1 ?_).trans (hkept h2))
        simp only [F.HLT_STATUS_SHED_STEPS]
        omega
      · exact hkept h2
    split
    · exact ((State.Stands.nextGroup (.refl s3)) _ hf f rfl).trans h3
    · exact h3

theorem State.toLevel_level (s : State) (old : Nat) {new : Nat} (h : new < 3) : (s.toLevel old new).get .hlt F.HLT_STATUS_LEVEL = new :=
  (s.toLevel_get old new (by decide) (by decide)).trans (State.get_put_fits _ _ _ _ (by decide) (by simp only [F.HLT_STATUS_LEVEL]; omega))

theorem standing_temp (i : Fin 5) : (PageId.hlt, (F.HLT_TEMPs_TEMP i.val).off) ∈ standing := by
  revert i
  decide

theorem State.toLevel_temp (s : State) (old new : Nat) (i : Fin 5) :
    (s.toLevel old new).get .hlt (F.HLT_TEMPs_TEMP i.val) = s.get .hlt (F.HLT_TEMPs_TEMP i.val) := by
  have hoff : (F.HLT_TEMPs_TEMP i.val).off ≠ 0x44 := by simp only [F.HLT_TEMPs_TEMP]; omega
  exact (s.toLevel_get old new (standing_temp i) (.inl hoff)).trans (State.get_put_off _ _ _ _ _ hoff)

/-! ### The commands -/

/-- The level that a sample leads to. -/
def State.sampleLevel (s : State) (ts : Vector Nat 5) (prev : Int) : Nat :=
  nextLevel (s.get .hlt F.HLT_STATUS_LEVEL) (4 * s.throttleC) (4 * s.shedC) (4 * s.hystC) prev (hottest ts).2

theorem exec_tempSample_first {ts : Vector Nat 5} (hup : s.coreUp = true) (hlast : s.health.lastMax = none) :
    exec (.tempSample ts) s = .next (s.sampled ts) := by
  change execTempSample ts s = _
  unfold execTempSample
  rw [if_neg (by simp [hup])]
  dsimp only
  rw [hlast]
  rfl

theorem exec_tempSample_next {ts : Vector Nat 5} {prev : Int} (hup : s.coreUp = true) (hlast : s.health.lastMax = some prev) :
    exec (.tempSample ts) s = .next (if s.sampleLevel ts prev = s.get .hlt F.HLT_STATUS_LEVEL then s.sampled ts
      else (s.sampled ts).toLevel (s.get .hlt F.HLT_STATUS_LEVEL) (s.sampleLevel ts prev)) := by
  change execTempSample ts s = _
  unfold execTempSample
  rw [if_neg (by simp [hup])]
  dsimp only
  rw [hlast]
  rfl

theorem exec_shedStepTimer : exec .shedStepTimer s = .next (if !s.coreUp || s.get .hlt F.HLT_STATUS_LEVEL ≠ 2 ||
    10 ≤ s.get .hlt F.HLT_STATUS_SHED_STEPS then s else s.shedTo (s.get .hlt F.HLT_STATUS_SHED_STEPS + s.shedStep)) := rfl

theorem exec_quarAutoEnd {p : Port} :
    exec (.quarAutoEnd p) s = .next (if s.coreUp && s.cfg .hlt F.HLT_CFG_QUAR_AUTO != 0 then s.quarLeave p true else s) := rfl

/-- The bit of a port in `HLT_QUAR` stands. -/
theorem standing_quar (p : Port) : (PageId.hlt, (portBit F.HLT_QUAR_QUAR p).off) ∈ standing := by
  revert p
  decide

theorem State.quarLeave_quar {p : Port} (h : s.flag .hlt (portBit F.HLT_QUAR_QUAR p) = true) (auto : Bool) :
    (s.quarLeave p auto).flag .hlt (portBit F.HLT_QUAR_QUAR p) = false := by
  have hleave : (s.put .hlt (portBit F.HLT_QUAR_QUAR p) 0).Stands (s.quarLeave p auto) := by
    unfold State.quarLeave
    rw [if_neg (by simp [h])]
    exact .raisePort (.portFollow (.portReset (.healthWith (.refl _))))
  have hput : (s.put .hlt (portBit F.HLT_QUAR_QUAR p) 0).get .hlt (portBit F.HLT_QUAR_QUAR p) = 0 := by
    refine State.get_put_same _ _ _ _ ?_
    simp only [portBit]
    omega
  rw [hleave.flag (standing_quar p) rfl]
  simp [State.flag, hput]

theorem exec_plateIsolated {k : Plate} : exec (.plateIsolated k) s = .next (
    if s.coreUp && (s.cfg .hlt F.HLT_PLATE_ISO_ISO).testBit k.val && s.plateInRst k && s.plateDischarged k &&
      !s.flag .hlt (fldBit F.HLT_PLATE_STATUS_ISOLATED k.val) then
      (s.put .hlt (fldBit F.HLT_PLATE_STATUS_ISOLATED k.val) 1).raise .hlt evPlateIsolated k.val
        ((s.health.isoOn[k]).toNat + bit (s.health.isoLate.getLsbD k.val) * 0x10000)
    else s) := rfl

/-- An isolation recorded shows in `HLT_PLATE_STATUS` (R452). -/
theorem State.flag_isolated (s : State) (k : Plate) (src d : Nat) : ((s.put .hlt (fldBit F.HLT_PLATE_STATUS_ISOLATED k.val) 1).raise .hlt evPlateIsolated
    src d).flag .hlt (fldBit F.HLT_PLATE_STATUS_ISOLATED k.val) = true := by
  have hget : ((s.put .hlt (fldBit F.HLT_PLATE_STATUS_ISOLATED k.val) 1).raise .hlt evPlateIsolated src d).get .hlt
      (fldBit F.HLT_PLATE_STATUS_ISOLATED k.val) = 1 := by
    rw [State.get_raise_off _ _ _ _ _ _ _ (by simp [fldBit, F.HLT_PLATE_STATUS_ISOLATED]) (by simp [fldBit, F.HLT_PLATE_STATUS_ISOLATED])]
    refine State.get_put_same _ _ _ _ ?_
    simp only [fldBit, F.HLT_PLATE_STATUS_ISOLATED]
    omega
  simp [State.flag, hget]

end

/-- Settles O58, by the registers that a sample, a level, a cut of the pool and the end of a quarantine write: none of them changes while the
pool, the arbiter and the ports follow. -/
theorem healthControllerFollowsTemperature : Obligations.HealthControllerFollowsTemperature := by
  unfold Obligations.HealthControllerFollowsTemperature
  refine ⟨fun ts s hup hlast => ⟨_, exec_tempSample_first hup hlast, s.sampled_level ts, rfl, s.sampled_hotSensor ts⟩,
    fun ts prev s hup hlast => ⟨_, exec_tempSample_next hup hlast, ?_⟩, fun ts _ i s hup => ?_, fun s hup hlevel hsteps => ?_, fun s hidle => ?_,
    fun p s hup hauto hquar => ?_, fun p s hauto => ?_, fun k s hup hiso hrst hdis => ?_, fun k s hdis => ?_⟩
  · split
    · next heq => exact (s.sampled_level ts).trans heq.symm
    · exact State.toLevel_level _ _ (nextLevel_lt ..)
  · cases hlast : s.health.lastMax with
    | none => exact ⟨_, exec_tempSample_first hup hlast, s.sampled_temp ts i⟩
    | some prev =>
      refine ⟨_, exec_tempSample_next hup hlast, ?_⟩
      split
      · exact s.sampled_temp ts i
      · exact (State.toLevel_temp _ _ _ i).trans (s.sampled_temp ts i)
  · refine ⟨_, exec_shedStepTimer, ?_⟩
    rw [if_neg (by simp [hup, hlevel]; omega)]
    exact s.shedTo_steps _
  · exact ⟨_, exec_shedStepTimer, if_pos (by simp; tauto)⟩
  · refine ⟨_, exec_quarAutoEnd, ?_⟩
    rw [if_pos (by simp [hup, hauto])]
    exact State.quarLeave_quar hquar true
  · exact ⟨_, exec_quarAutoEnd, if_neg (by simp [hauto])⟩
  · refine ⟨_, exec_plateIsolated, ?_⟩
    split
    · exact s.flag_isolated k _ _
    · next hno => simpa [hup, hiso, hrst, hdis] using hno
  · exact ⟨_, exec_plateIsolated, if_neg (by simp [hdis])⟩

end Sys2Proof.Machine
